-- ==== Sys2Proof/Word.lean ====
section
/-!
DEFINITION. The word types of the device: register words are 32 bits and memory is addressed in bytes
(00_scope.md R10, R12).
-/

namespace Sys2Proof

/-- A register word (R10). -/
abbrev Word := BitVec 32

/-- A byte of memory. -/
abbrev Byte := BitVec 8

end Sys2Proof
end

