-- ==== Sys2Proof/Operand.lean ====
section
/-!
DEFINITION. The operands of the commands: host bus accesses, Galley entries and the facts that reach the device from
outside (packets, cells, measurements).
-/

namespace Sys2Proof

/-- A host write to a word that the command itself names: the level on HLVL, the byte enables (`be` bit j goes with
byte j, asserted = 1) and the data (R441). -/
structure HW where
  lvl : Fin 4
  be  : BitVec 4
  v   : Word
  deriving DecidableEq, Repr

/-- A host write to a byte address (a multiple of 4, R441). -/
structure HostAcc where
  addr : Nat
  lvl  : Fin 4
  be   : BitVec 4
  v    : Word
  deriving DecidableEq, Repr

/-- The eight words of a Galley entry (R76, Table 03-2). -/
structure Entry where
  w0 : Word
  w1 : Word
  w2 : Word
  w3 : Word
  w4 : Word
  w5 : Word
  w6 : Word
  w7 : Word
  deriving DecidableEq, Repr

/-- What a frame tick finds outside the modelled state: the measured resource pressure (R39), the voices whose
prefetched samples are missing (R390), and the bytes that the Recorder buffer has drained to the Cistern since the last
tick (R389). -/
structure FrameIn where
  pressure : Fin 6
  missing  : List (Fin 256)
  drained  : Nat
  deriving DecidableEq, Repr

/-- An edge at an input ball: its time (ps), the level that begins, and how long that level lasts (R54, R345). -/
structure PinEdge where
  t     : Nat
  level : Bool
  phase : Nat
  deriving DecidableEq, Repr

/-- When an edge at an input ball comes, and how long the level that it begins lasts (ps). -/
structure EdgeTime where
  t     : Nat
  phase : Nat
  deriving DecidableEq, Repr

/-- What a received Traliat cell carries in its header, and whether its CRC-16 was good (R356). -/
structure CellHdr where
  seq   : BitVec 16
  ftag  : BitVec 20
  crcOk : Bool
  deriving DecidableEq, Repr

/-- A HEALTH cell (R357): the partner's state and lease deadline (ps), its FCAUSE, the output CRC of frame `frame` and
the self-check result of a mismatch frame, when it reports one (R350, R351). -/
structure HealthCell where
  h        : CellHdr
  t        : Nat
  state    : Fin 7
  deadline : Nat
  fcause   : Fin 16
  frame    : Nat
  crc      : Word
  check    : Option (Nat × Bool)
  deriving DecidableEq, Repr

/-- A MIRROR cell: when it arrived (ps), samples of input channels of one frame (R340). -/
structure MirrorCell where
  h       : CellHdr
  t       : Nat
  frame   : Nat
  samples : List (Fin 1024 × Word)
  deriving DecidableEq, Repr

/-- What the GALLEY channel carries: a journal slot to acknowledge, or a client reset in the same order (R92). -/
inductive GalleyMsg where
  | slot (ticket : Word) (e : Entry) (payload : List Word) (f0 : Nat) (due : Option Nat) (passed : Bool) (dead : Bool)
  | clientRst (mask : BitVec 16)
  deriving DecidableEq, Repr

structure GalleyCell where
  h : CellHdr
  m : GalleyMsg
  deriving DecidableEq, Repr

/-- What the CTRL channel carries (R357). -/
inductive CtrlMsg where
  | hello
  | negotiate (pair : Bool) (lease : Fin 16) (rate : Word) (chip : Word) (step : BitVec 8) (imgCrc : Word) (badPress : BitVec 16)
      (state : Fin 7)
  | fence
  | rejoin
  /-- CRC-32s of 4 KB regions, by system address / 4096 (R362). -/
  | regions (l : List (Nat × Word))
  /-- The cutover frame that the active names (R362). -/
  | cut (frame : Nat)
  | senseEvent (w0 : Word) (w1 : Word)
  deriving DecidableEq, Repr

structure CtrlCell where
  h : CellHdr
  m : CtrlMsg
  deriving DecidableEq, Repr

/-- A PTP message delivered to EP (R285): port, capture instant (ps), the message bytes, its transport and its headers. -/
structure PtpMsg where
  port  : Fin 2
  tcap  : Nat
  bytes : List Byte
  udp   : Bool
  tag   : Option (BitVec 16)
  smac  : BitVec 48
  sip   : Word
  deriving DecidableEq, Repr

/-- A measured reference edge (R295, R296): instant, phase error against the grid (ps), offsets against XO and MEDIA
(ppt), and whether the frequency window is full. -/
structure RefMeas where
  t      : Nat
  e      : Int
  fXo    : Int
  fMedia : Int
  full   : Bool
  deriving DecidableEq, Repr

/-- The four loops (R319). -/
inductive PllLoop where
  | a | d | s | m
  deriving DecidableEq, Repr

/-- What fuse load and BIST report (R419, R466): unusable Presses, an unrepairable shared SRAM or Basin store, and the
repair counts shown in ECC.REPAIR. -/
structure BistIn where
  badPress : BitVec 16
  fatal    : Bool
  repair   : Word
  deriving DecidableEq, Repr

/-- A pass over a flash slot (R468): which slot, verification or load, whether the flash and its SFDP table could be read, the
SEQ fields of both headers, and the bytes of the slot from offset 0 on, as this pass read them. -/
structure SlotPass where
  slotB : Bool
  load  : Bool
  flash : Bool
  seqA  : Word
  seqB  : Word
  bytes : List Byte
  deriving DecidableEq, Repr

end Sys2Proof
end

