-- ==== Sys2Proof/OperandB.lean ====
section
/-!
DEFINITION. Operands of the audio, network and memory commands.
-/

namespace Sys2Proof

/-! ### Press instruction words (R187 to R200) -/

/-- An arithmetic word: condition and operand fields of Table 06-2; the parallel format carries the X and Y move fields in
`mv` (bits [39:20] and [19:0]), the long format the long move field. -/
structure ArithArgs where
  cond : BitVec 4
  f1   : BitVec 4
  f2   : BitVec 4
  f3   : BitVec 4
  long : Bool
  mv   : BitVec 40
  deriving DecidableEq, Repr

/-- A load or store in one move field (Table 06-3), with the field of the other bank. `y` selects the Y field. -/
structure MoveArgs where
  y     : Bool
  mode  : BitVec 3
  pn    : BitVec 3
  reg   : BitVec 6
  pair  : Bool
  other : BitVec 20
  deriving DecidableEq, Repr

/-- A register move in one move field. -/
structure MoveRegArgs where
  y     : Bool
  reg   : BitVec 6
  src   : BitVec 6
  other : BitVec 20
  deriving DecidableEq, Repr

/-- A pointer update in one move field. -/
structure PtrArgs where
  y     : Bool
  mode  : BitVec 3
  pn    : BitVec 3
  other : BitVec 20
  deriving DecidableEq, Repr

/-- A long absolute access (Table 06-5), with the arithmetic field of its word. -/
structure LongAbsArgs where
  y     : Bool
  store : Bool
  reg   : BitVec 6
  pair  : Bool
  addr  : BitVec 20
  arith : BitVec 22
  deriving DecidableEq, Repr

/-- A long immediate (Table 06-5), with the arithmetic field of its word. -/
structure LongImmArgs where
  reg   : BitVec 6
  value : Word
  arith : BitVec 22
  deriving DecidableEq, Repr

/-- MOVS (R200): direction (true into the control register), control register and D register. -/
structure MovsArgs where
  into : Bool
  creg : BitVec 4
  dn   : BitVec 4
  deriving DecidableEq, Repr

/-- A word received in a slot: port of the group, slot, the slot's bits (the first at bit 31), and for an AES3 subframe a parity
error and the V bit (R210, R227). -/
structure SlotIn where
  m      : Fin 8
  s      : Fin 32
  w      : Word
  parity : Bool
  v      : Bool
  deriving DecidableEq, Repr

/-- An FS active edge of a port group (R215, R216): its instant (ps), the bit periods since the previous edge and since the
last MEDIA frame boundary, the frame rate averaged over 64 frames (1/256 Hz), and the words of the frame that it ends. -/
structure GroupIn where
  t     : Nat
  bits  : Nat
  phase : BitVec 10
  rate  : Nat
  sdi   : List SlotIn
  deriving DecidableEq, Repr

/-- A port channel: group, direction, port of the group, slot. -/
structure PortSlot where
  g   : Fin 4
  out : Bool
  m   : Fin 8
  s   : Fin 32
  deriving DecidableEq, Repr

/-- A received AES3 block (R226, R228): frames since the previous Z preamble, the measured frame rate in Hz, the phase of the Z
preamble after the last MEDIA frame boundary in 128ths of a frame, and 24 bytes of channel status and of user data per subframe. -/
structure Aes3In where
  frames : Nat
  rate   : BitVec 24
  phase  : BitVec 7
  csA    : Vector Byte 24
  csB    : Vector Byte 24
  ubA    : Vector Byte 24
  ubB    : Vector Byte 24
  deriving DecidableEq, Repr

/-- A PTP message on its way through the switch (R288, R289): messageType, correctionField, and the time between its captured
ingress and egress instants in capture steps (1/16 of a CORE cycle). -/
structure PtpPass where
  mtype : BitVec 4
  corr  : BitVec 64
  steps : Nat
  deriving DecidableEq, Repr

/-- A packet that enters the switch (R242 to R248): ingress (0 NET0, 1 NET1, 2 the internal endpoint), addresses, the 802.1Q tag,
EtherType, length in bytes, whether its FCS is good, the IPv4 destination group and the IGMP reports that it carries (group,
join), the egress ports whose queue for its class is full, and what a PTP message carries. -/
structure NetPkt where
  port   : Fin 3
  dmac   : BitVec 48
  smac   : BitVec 48
  tag    : Option (BitVec 16)
  etype  : BitVec 16
  len    : Nat
  fcsOk  : Bool
  group  : Option Word
  igmp   : List (Word × Bool)
  full   : BitVec 3
  ptp    : Option PtpPass
  deriving DecidableEq, Repr

/-- An audio packet at the internal endpoint (R250, R256, R258): arrival of its last byte (ps), the network port, the fields that
are checked (with the RTP extension bit and CSRC count), and the payload bytes. -/
structure AudioPkt where
  t     : Nat
  port  : Fin 2
  vid   : BitVec 12
  group : Word
  udp   : BitVec 16
  src   : Word
  ver   : BitVec 2
  pt    : BitVec 7
  ext   : Bool
  cc    : BitVec 4
  ts    : Word
  ssrc  : Word
  cksum : Bool
  bytes : List Byte
  deriving DecidableEq, Repr

/-- A management packet at the internal endpoint (R268): port, VLAN ID, source address, header words, body words. -/
structure MgmtPkt where
  port : Fin 2
  vid  : BitVec 12
  smac : BitVec 48
  h0   : Word
  h1   : Word
  h2   : Word
  body : List Word
  deriving DecidableEq, Repr

/-- The eye and the delay that training found for a lane, in taps (R377, R398). -/
structure LaneEye where
  rd    : BitVec 16
  wr    : BitVec 16
  rdDly : BitVec 16
  wrDly : BitVec 16
  deriving DecidableEq, Repr

/-- What a training or retrain found (R377 to R379): when it ended (ps), how long it took (µs), and the lanes, index
rank × 9 + lane; a lane that is not listed has no eye. -/
structure TrainIn where
  t     : Nat
  us    : Nat
  lanes : List LaneEye
  deriving DecidableEq, Repr

/-- A request of a bus master (R400, R402): master, start byte address, beats of 16 bytes (one 32-bit word to the register
pages), data words when it writes, byte enables of a single-word write, and the FABRIC cycle in which it was issued. Cistern
addresses count from 0x1_0000_0000. -/
structure BusReq where
  master : Fin 8
  addr   : Nat
  beats  : Nat
  data   : Option (List Word)
  be     : BitVec 4
  age    : BitVec 16
  deriving DecidableEq, Repr

end Sys2Proof
end

