-- ==== Sys2Proof/Machine/StAudio.lean ====
section
/-!
DEFINITION. The state of the mix path: Basin, Formes, Jet paths, Level Governor, Weir and meters (chapter 04). The Forme
words themselves are memory (R118). Plain data.
-/

namespace Sys2Proof.Machine

/-- A fraction `n / d` in lowest use as a progress or a weight. -/
structure Frac where
  n : Nat
  d : Nat
  deriving DecidableEq, Repr

/-- The discipline that moves a gain (R114, R116). -/
inductive Disc where
  | direct
  | ramp (l : Nat)
  | zeroCross (t : Nat)
  deriving DecidableEq, Repr

/-- A gain on its way from one value to another (R114, R128, R130). `key` is the byte offset of the word in its Forme, or
0x1000000 + 4 p for the Jet gain of path p. It moves from progress `q0` toward `t` (`up`) or back toward `s`. -/
structure Move where
  key   : Nat
  s     : Int
  t     : Int
  q0    : Frac
  up    : Bool
  disc  : Disc
  law   : Bool
  land  : Nat
  /-- Frame on which a timed-out zero-cross change began its ramp (R116). -/
  ramp  : Option Nat
  /-- Frame of the crossing. -/
  hit   : Option Nat
  /-- It holds an interpolation slot (R128); a word moved by a recall alone holds none. -/
  slot  : Bool
  /-- The SET_GAIN_ZC or RECALL_FORME that completes with it, if any. -/
  ticket : Option Word
  deriving DecidableEq, Repr

/-- A point change that found no free slot (R128): the entry, if it is one, the word, and the discipline that belongs to the entry when it
is a SET_GAIN_ZC. -/
structure WaitChg where
  ticket : Option Word
  key    : Nat
  word   : Word
  zc     : Option Nat
  deriving DecidableEq, Repr

/-- A recall that has landed and not completed (R130): its landing frame, the last frame of its epoch when a later recall has
overtaken it, whether the epoch has closed, and the latest end among what it started and has ended. -/
structure Epoch where
  ticket : Word
  land   : Nat
  over_  : Option Nat
  closed : Bool
  last   : Nat
  deriving DecidableEq, Repr

/-- A route change that waits behind a running Sluice (R132). -/
structure RouteWait where
  src    : Word
  l      : Nat
  ticket : Option Word
  deriving DecidableEq, Repr

/-- A running Sluice (R131, R132). -/
structure Sluice where
  o      : Nat
  old    : Word
  new    : Word
  law    : Bool
  q0     : Frac
  l      : Nat
  start  : Nat
  tickets : List Word
  queued : Option RouteWait
  deriving DecidableEq, Repr

/-- A zone of the Level Governor (R139 to R141). -/
structure ZoneSt where
  z      : Nat
  /-- Frames that every member output has stayed below GAP_LEVEL. -/
  below  : Nat
  inGap  : Bool
  /-- Mean square of SENSE_CH in a gap, units 2^-94. -/
  amb    : Nat
  /-- Offset in 1/128 dB, times 2^32. -/
  off    : Int
  enabled : Bool
  deriving DecidableEq, Repr

/-- A contribution of a Jet path to an output (R135): rising or falling, weight at its start, first frame, length. -/
structure JetC where
  p     : Nat
  src   : Nat
  dst   : Nat
  up    : Bool
  w0    : Frac
  start : Nat
  l     : Nat
  /-- Its end has been reported. -/
  rep   : Bool
  deriving DecidableEq, Repr

/-- The mute ramp of a Jet path: muted or not, first frame, level at its start in 64ths (R135). -/
structure JetMute where
  p     : Nat
  on    : Bool
  start : Nat
  w0    : Nat
  deriving DecidableEq, Repr

/-- Meter of one point (R142): peak since the last refresh, mean square in units 2^-94, and the values shown. -/
structure Meter where
  peak : Nat
  ms   : Nat
  shPeak : Nat
  shMs   : Nat
  deriving DecidableEq, Repr

structure BasinSt where
  liveB   : Bool
  lock    : Bool
  /-- Completion frame of the last recall that completed (R123). -/
  lastRecall : Option Nat
  moves   : List Move
  waits   : List WaitChg
  epochs  : List Epoch
  /-- Buses latched equal-power by a run of overlapping epochs (R130). -/
  lawLatch : Option (List Nat)
  sluices : List Sluice
  zones   : List ZoneSt
  /-- Shadow writes queued for the partner: byte address and word (R124). -/
  mirrorQ : List (Nat × Word)
  crcRun  : Option Bool
  /-- Words of the live Forme read with an uncorrectable error, with the frame on which that began (R416). -/
  ueWords : List (Nat × Nat)
  /-- Samples of the last frame, for the zero-cross watch (R116): Basin inputs, Stage 1 bus samples, selected sources, Jet
  sources. -/
  lastIn  : List (Nat × Int)
  lastBus : List (Nat × Int)
  lastSel : List (Nat × Int)
  lastJet : List (Nat × Int)
  /-- Bus samples of the last frame, as metered (R142). -/
  busOut  : List (Nat × Int)
  /-- Output-chain values before the Weir, newest first, 17 frames (R137). -/
  chain   : List (List (Nat × Int))
  /-- Applied Weir gain by output, units 2^-60; unlisted is 1 (R138). -/
  weir    : List (Nat × Nat)
  /-- Output samples of the last frames, newest first (Q0.31). -/
  outHist : List (List (Nat × Int))
  jets    : List JetC
  mutes   : List JetMute
  /-- Enabled Jet paths. -/
  jetOn   : List Nat
  inMeter  : List (Nat × Meter)
  busMeter : List (Nat × Meter)
  outMeter : List (Nat × Meter)
  deriving DecidableEq, Repr

end Sys2Proof.Machine
end

