-- ==== Sys2Proof/Machine/StCore.lean ====
section
/-!
DEFINITION. The state of the control plane: host interface and protection, start-up, time axes, Compositor and Galley.
Plain data; `State` puts the parts together.
-/

namespace Sys2Proof.Machine

/-! ### Host interface, protection, Proof window (chapter 16) -/

/-- An active range entry of the protection table (R451, R452). -/
structure RangeEnt where
  en    : Bool
  base  : Nat
  limit : Nat
  perm  : BitVec 8
  deriving DecidableEq, Repr

/-- Host-side state that no register word holds. -/
structure HostSt where
  /-- The protection range entries in force; the staged words are the registers RANGE[k].BASE and LIMIT. -/
  ranges  : List RangeEnt
  /-- The Proof window words that are not zero, by byte offset (R445). -/
  proof   : List (Nat × Word)
  /-- The snapshot sequence S (R447). -/
  seq     : Word
  /-- Frame boundaries seen since HOLD was set (R449). -/
  holdCnt : Nat
  deriving DecidableEq, Repr

/-! ### Start-up, resets, image (chapter 17) -/

/-- The step in progress (R463), or the stop of R466. -/
inductive BootStep where
  | s1 | s2 | s3 | s4 | s5 | s6 | s7 | s8 | s9 | stopped
  deriving DecidableEq, Repr

/-- What holds the device in reset, when something does. -/
inductive ResetHold where
  | none      -- no reset is asserted
  | power     -- power-on reset (R459)
  | xo        -- XO loss (R322)
  | cold      -- software cold reset (R460): as power-on, with the straps kept
  | warmPin   -- RST_N low (R461)
  deriving DecidableEq, Repr

/-- One REGINIT entry of the image: phase, byte address, value (R470). -/
structure RegInit where
  phase : Nat
  addr  : Nat
  value : Word
  deriving DecidableEq, Repr

/-- One CISTERN section: first Cistern line and the bytes that follow (R470). -/
structure CistSect where
  line : Nat
  data : List Byte
  deriving DecidableEq, Repr

structure BootSt where
  step     : BootStep
  held     : ResetHold
  /-- The hold point reached: 1 for H1, 2 for H2 (R464). -/
  hold     : Option (Fin 3)
  /-- The start has reached RUN. -/
  run      : Bool
  /-- RUN has been reached since the last cold start and no monitor has tripped since (R460). -/
  retention : Bool
  /-- RUN has been reached at least once since the last cold start (R309). -/
  everRun  : Bool
  warm     : Bool
  src      : Nat
  slot     : Nat
  signed   : Bool
  cause    : Nat
  /-- Slots marked invalid in this start: A, B. -/
  badA     : Bool
  badB     : Bool
  verified : Option Bool
  regInit  : List RegInit
  cistern  : List CistSect
  /-- PRELOAD entries not yet submitted, with their client (R471). -/
  preload  : List (Nat × Entry)
  /-- Fuse programming in progress: word and data (R474). -/
  otpBusy  : Option (Nat × Word)
  /-- Fuse words programmed, by word number (R474). They outlast every reset. -/
  fuses    : List (Nat × Word)
  /-- A warm start: what ran at the reset completes on the first frame (R465). -/
  restart  : Bool
  /-- When the step in progress began, for T_STEP (R463). -/
  stepT    : Nat
  /-- The PLL-A soft repairs and BIST are current (kept over a warm start). -/
  bistDone : Bool
  /-- VDDIO banks sensed at 3.3 V at the last power-on reset (R459). -/
  vio : BitVec 4
  deriving DecidableEq, Repr

/-! ### Time axes (chapter 02) -/

structure TimebaseSt where
  /-- MEDIA frame count of the last boundary. -/
  frame    : Nat
  /-- Time of that boundary, ps. -/
  tickT    : Nat
  /-- A standby awaits the active's samples to select with (R68). -/
  selWait  : Bool
  /-- A frame boundary has occurred since frame ticks last began. -/
  ticking  : Bool
  /-- PTP axis sample of the last boundary, ns modulo 2^64. -/
  ptpNow   : Nat
  /-- Published position sample of the last boundary, µm with 16 fractional bits. -/
  posNow   : Int
  /-- Predicted position at the end of the frame that the last boundary started, and one frame later. -/
  posEnd   : Int
  posEnd2  : Int
  /-- Counter sample of the last boundary and the running count, modulo 2^32. -/
  cntNow   : Nat
  cnt      : Nat
  /-- Speed sample of the last boundary, mm/s (R57, R68). -/
  spdNow   : Int
  /-- Counted position, corrections included, µm with 16 fractional bits. -/
  pos      : Int
  /-- Pending correction, µm with 16 fractional bits, and the fraction of a step not yet drained. -/
  pend     : Int
  corrRem  : Nat
  /-- The pending correction has reached 0 and is not yet reported (R59). -/
  corrFin  : Bool
  corrLo   : Word
  loadLo   : Word
  /-- A position load waiting for the next boundary. -/
  load     : Option Int
  /-- Distance per pulse, µm with 16 fractional bits (R55). -/
  dpp      : Nat
  reverse  : Bool
  /-- The published position goes to the counted one at the next boundary: a reversal was recognised (R56). -/
  snap     : Bool
  /-- Times of the pulses held in the direction not recognised (R56). -/
  held     : List Nat
  /-- The applied pulses of the speed window, newest first: time and signed distance. -/
  stamps   : List (Nat × Int)
  /-- Last valid speed: µm with 16 fractional bits per that many ps. -/
  spdNum   : Int
  spdDen   : Nat
  /-- Advance at the last valid speed, since when and from where (Table 02-3). -/
  est      : Option (Nat × Int)
  /-- Last edge of each pin after the glitch filter, and last pulse. -/
  lastA    : Nat
  lastB    : Nat
  lastPulse : Nat
  /-- First of the continuing edges of each pin since the last edge of the other (R61). -/
  aloneA   : Option Nat
  aloneB   : Option Nat
  /-- Levels of the pins after the glitch filter (R54). -/
  levelA   : Bool
  levelB   : Bool
  chatter  : Bool
  stuckA   : Bool
  stuckB   : Bool
  /-- Recent pulse times, for the rate of any 1 ms; when the rate last fell below MAXRATE. -/
  recent   : List Nat
  overT    : Nat
  cntRecent : List Nat
  cntEdgeT : Nat
  /-- CNT_IN after its glitch filter, and since when it is high. -/
  cntLevel : Bool
  cntHigh  : Option Nat
  cntChatter : Bool
  cntStuck : Bool
  deriving DecidableEq, Repr

/-! ### Compositor and Galley (chapters 02 and 03) -/

/-- A pending or executing event: an accepted entry with what the device keeps beside it. -/
structure Ev where
  ticket  : Word
  e       : Entry
  /-- The payload words, inline or copied from the buffer at acceptance (R77). -/
  payload : List Word
  /-- First frame whose selection boundary follows acceptance by the margin of R32 (R50). -/
  f0      : Nat
  due     : Option Nat
  passed  : Bool
  /-- An AFTER entry accepted behind a cancelled reference: completes DEP_CANCELLED at its selection (R52). -/
  depDead : Bool
  /-- Frame on which it was released or acted; 0 until then. -/
  land    : Nat
  /-- Outcome fixed before it lands: a CANCEL applied at its selection boundary (R64). -/
  out     : Option Nat
  deriving DecidableEq, Repr

/-- A completed ticket as kept for R52 and R96. -/
structure Done where
  ticket  : Word
  opcode  : Nat
  client  : Nat
  outcome : Nat
  frame   : Nat
  deriving DecidableEq, Repr

structure CompositorSt where
  /-- Pending events in ticket order; the Compositor has not selected them yet. -/
  queue   : List Ev
  /-- Events selected for the frame the next boundary starts, in execution order. -/
  sel     : List Ev
  /-- Events released for the present frame that still have to act, in execution order. -/
  landing : List Ev
  /-- Entries that have acted and complete later. -/
  running : List Ev
  /-- Entries held after release by the shadow lock, the epoch limit or a slot wait (R127). -/
  held    : List Ev
  /-- The 4096 most recently completed tickets, newest first. -/
  done    : List Done
  backlog : Bool
  /-- Executions of the last frame, and of the present one (Table 02-10). -/
  lastExec : Nat
  execNow  : Nat
  deriving DecidableEq, Repr

/-- A client-table row (R85): SYNCED, last accepted sequence and the last 64 (sequence, ticket), newest first. -/
structure ClientEnt where
  synced : Bool
  seq    : Word
  hist   : List (Word × Word)
  deriving DecidableEq, Repr

/-- A taken entry whose response is not yet written (R82, R90): its PROD count, when it was journaled, and either the event
that waits for the standby's acknowledgement, or the refusal that waits for the responses before it. -/
structure Taken where
  count  : Nat
  t      : Nat
  /-- When the PROD write submitted it. -/
  sub    : Nat
  ev     : Option Ev
  /-- A client reset has passed it: it leaves the client table alone (R92). -/
  noTable : Bool
  status : Nat
  ticket : Word
  /-- The ACTMAP index of an action (R437): it has no ring or response slot. -/
  act    : Option Nat
  deriving DecidableEq, Repr

structure GalleySt where
  clients  : List ClientEnt
  /-- Level and time of the PROD write of each entry not yet taken, oldest first (R81). -/
  subs     : List (Fin 4 × Nat)
  lastResp : Nat
  /-- Entries taken whose response is not yet written, in ring order. -/
  inflight : List Taken
  heapUsed : Nat
  /-- The Galley bank was lost (R416): READY stays 0. -/
  lost     : Bool
  /-- The journal began empty at this start (R102). -/
  fresh    : Bool
  deriving DecidableEq, Repr

end Sys2Proof.Machine
end

