-- ==== Sys2Proof/Machine/StPort.lean ====
section
/-!
DEFINITION. The state of the port groups, the AES3 ports and the sample-rate converter (chapter 07). Plain data. The rings are
memory.
-/

namespace Sys2Proof.Machine

/-- Table 07-2. -/
inductive GState where
  | off | qualify | run | stopped | mismatch
  deriving DecidableEq, Repr

def GState.code : GState → Nat
  | .off => 0 | .qualify => 1 | .run => 2 | .stopped => 3 | .mismatch => 4

/-- Where a channel stands in its start or stop sequence (R223). -/
inductive SeqSt where
  | off | wait | up | run | stopWait | down
  deriving DecidableEq, Repr

/-- A channel's sequence: key, state, gain in 64ths, frames waited, and its last sample. -/
structure ChanSeq where
  key  : Nat
  st   : SeqSt
  n    : Nat
  k    : Nat
  prev : Option Int
  deriving DecidableEq, Repr

/-- When a port change acts (R222): with the group frame assigned to a MEDIA frame, with the first one that starts 32 bit
periods into a MEDIA frame, or with the first one from an instant on. -/
inductive LandAt where
  | asg (a : Nat)
  | media (f : Nat)
  | time (t : Nat)
  deriving DecidableEq, Repr

/-- A port change on its way: the pending input mask, the pending output mask, or the PORT word of port `m`. -/
inductive ChgKind where
  | inMask | outMask | port
  deriving DecidableEq, Repr

structure PortChg where
  m      : Nat
  kind   : ChgKind
  v      : Word
  land   : LandAt
  /-- The WRITE_PARAM that completes with it, when it lands one frame late. -/
  ticket : Option Word
  deriving DecidableEq, Repr

/-- The directions of a port as they act. -/
structure ActPort where
  inOn    : Bool
  outOn   : Bool
  inBase  : Nat
  outBase : Nat
  deriving DecidableEq, Repr

structure GroupSt where
  st      : GState
  phi0    : Nat
  /-- Good frames counted in QUALIFY (R214). -/
  qual    : Nat
  /-- MEDIA frame to which the group frame in progress is assigned (R216). -/
  asg     : Nat
  /-- Group frames since the group entered RUN. -/
  frames  : Nat
  /-- Group frames of the recent FS glitches (R215). -/
  glitches : List Nat
  /-- Reference rate of the 1 % test, 1/256 Hz. -/
  ref     : Nat
  retrack : Bool
  rateBad : Bool
  /-- A clock fault has occurred since the group last entered RUN. -/
  faulted : Bool
  /-- First MEDIA frame of the 16-frame fade. -/
  fade    : Option Nat
  /-- The last complete input samples on the port side, by port × 32 + slot. -/
  last    : List (Nat × Int)
  /-- The last samples that channels carried out of the ASRC, by port × 32 + slot. -/
  carried : List (Nat × Int)
  /-- The bit clock that R209 does not allow has been captured since QUALIFY was entered. -/
  badClk  : Bool
  /-- The rate of the last group frame lay more than 1 % from the reference (R215). -/
  rateFar : Bool
  /-- Sequences, by direction × 256 + port × 32 + slot. -/
  seqs    : List ChanSeq
  chg     : List PortChg
  act     : Vector ActPort 8
  /-- Words that the group frame in progress shifts out, by port × 32 + slot; `none` is high impedance. The pins carry them only
  while the device drives (R207). An AES3 slot holds its subframe (R226, R229). -/
  sdo     : List (Nat × Option Word)
  /-- EN = 0 has landed and directions are still stopping. -/
  stopping : Bool
  /-- Group frames have passed while frame ticks stood still (R325). -/
  gap     : Bool
  deriving DecidableEq, Repr

/-- An AES3 port: receiver and transmitter (R226 to R229). -/
structure Aes3St where
  lock   : Bool
  /-- Good frames since lock or the last fault, up to 64; the receiver runs at 64. -/
  qual   : Nat
  fade   : Option Nat
  /-- Frames received, counted apart from G3FS (R226). -/
  frames : Nat
  /-- Reference phase of the block sync, in 128ths of a frame, and the assignment of its frames against those of the group. -/
  phi0   : Option Nat
  shift  : Int
  /-- Reference rate of the 1 % test, Hz; the rate is out of tolerance; it lay more than 1 % from the reference (R215). -/
  ref    : Nat
  rateBad : Bool
  rateFar : Bool
  /-- Receiver frames of the recent glitches. -/
  glitches : List Nat
  faulted : Bool
  good   : Vector Int 2
  va     : Bool
  vb     : Bool
  /-- Committed content that waits for its block, and the content in use: 12 words of TXCS, then 12 of TXUB. -/
  txHeld : Option (List Word)
  txAct  : List Word
  /-- Group frame of the commit, and the frame of the block, 0 to 191, that is sent next (R229). -/
  txAt   : Nat
  txPos  : Nat
  deriving DecidableEq, Repr

structure PortSt where
  groups : Vector GroupSt 4
  aes    : Vector Aes3St 8
  /-- Input channel samples of the last 66 MEDIA frames as they left their rings and lines, newest first (R178). -/
  inHist : List (List (Nat × Int))
  /-- Output samples of the last two MEDIA frames as the ports took them, newest first (R218). -/
  outLast : List (List (Nat × Int))
  /-- Fractional read positions of the ASRC by timing source (R232). -/
  readPos : List (Nat × Word)
  deriving DecidableEq, Repr

def GroupSt.reset : GroupSt :=
  { st := .off, phi0 := 0, qual := 0, asg := 0, frames := 0, glitches := [], ref := 0, retrack := false, rateBad := false,
    faulted := false, fade := none, last := [], carried := [], badClk := false, rateFar := false, seqs := [], chg := [], act := Vector.replicate 8 ⟨false, false, 0, 0⟩,
    sdo := [], stopping := false, gap := false }

def Aes3St.reset : Aes3St :=
  { lock := false, qual := 0, fade := none, frames := 0, phi0 := none, shift := 0, ref := 0, rateBad := false, rateFar := false,
    glitches := [], faulted := false, good := Vector.replicate 2 0, va := false, vb := false, txHeld := none,
    txAct := List.replicate 24 0, txAt := 0, txPos := 0 }

def PortSt.reset : PortSt :=
  { groups := Vector.replicate 4 GroupSt.reset, aes := Vector.replicate 8 Aes3St.reset, inHist := [], outLast := [], readPos := [] }

end Sys2Proof.Machine
end

