-- ==== Sys2Proof/Machine/StPress.lean ====
section
/-!
DEFINITION. The state of one Press: registers, pipeline, loops, return stack, block contract (chapters 05 and 06). Plain data.
The local banks are memory.
-/

namespace Sys2Proof.Machine

/-- The registers of Table 05-2 that an instruction result can be written to. -/
inductive PReg where
  | d (i : Fin 16)
  | ac (i : Fin 4)
  | p (i : Fin 8)
  | m (i : Fin 8)
  | l (i : Fin 8)
  | b (i : Fin 8)
  | sr
  | lc (i : Fin 2)
  | ls (i : Fin 2)
  | le (i : Fin 2)
  deriving DecidableEq, Repr

/-- Register contents (Table 05-2). `sr` holds the bits of SR that results and moves write: IE, SAT, FRAC, SV and the
flags; the other fields of SR are kept beside it. -/
structure PressRegs where
  d  : Vector Word 16
  ac : Vector (BitVec 72) 4
  p  : Vector (BitVec 20) 8
  m  : Vector (BitVec 20) 8
  l  : Vector (BitVec 20) 8
  b  : Vector (BitVec 20) 8
  sr : Word
  lc : Vector (BitVec 16) 2
  ls : Vector (BitVec 13) 2
  le : Vector (BitVec 13) 2
  deriving DecidableEq, Repr

/-- What a MOVS still has to read in its stage 4 (R200): a LOOP count, or the LA bits of the SR copy that `val` holds. -/
inductive PLate where
  | count (n : Fin 2)
  | loops
  deriving DecidableEq, Repr

/-- A result on its way to its register: written at the end of cycle `at_`, on the bits of `mask` (R158, R202). What a MOVS
reads of the loops takes its value while it can still change (R200): `late` names it. -/
structure PWrite where
  at_  : Nat
  reg  : PReg
  mask : BitVec 72
  val  : BitVec 72
  late : Option PLate
  deriving DecidableEq, Repr

/-- What pushed a return-stack entry (R164, R167). -/
inductive PKind where
  | call | tick | fault | trap
  deriving DecidableEq, Repr

structure PFrame where
  kind : PKind
  pc   : BitVec 13
  sr   : Word
  deriving DecidableEq, Repr

/-- A branch, call or return whose delay slots run (R160): slots still to issue, where it goes when taken, and the SR that
an RTI restores after them. -/
structure PBranch where
  slots  : Nat
  target : Option (BitVec 13)
  rti    : Option Word
  deriving DecidableEq, Repr

/-- The shadow set of U4 mode (R169). -/
structure PShadow where
  d  : Vector Word 8
  ac : Vector (BitVec 72) 2
  p  : Vector (BitVec 20) 4
  sr : Word
  deriving DecidableEq, Repr

/-- RUNNING and WAITING are `run`; `wait` tells them apart (R173). -/
inductive PMode where
  | halted | run | dbg | faulted | stopping
  deriving DecidableEq, Repr

/-- A message record that waits for its publication (R182, R183). -/
structure PMsg where
  ticket : Word
  land   : Nat
  arg    : Nat
  mtype  : Nat
  data   : List Word
  held   : Nat
  deriving DecidableEq, Repr

/-- An input range (R175). -/
structure PRange where
  en    : Bool
  count : Nat
  first : Nat
  deriving DecidableEq, Repr

/-- The ring, range, message and budget configuration as the last block tick latched it (R177). -/
structure PCfg where
  ranges : List PRange
  iBase  : Nat
  iDepth : Nat
  oBase  : Nat
  oDepth : Nat
  mBase  : Nat
  mSize  : Nat
  /-- U of R179. -/
  budget : Nat
  deriving DecidableEq, Repr

/-- A crossfade between bypass and the Press output (R172): toward the output or toward bypass, its first frame, and the
output's weight at its start in 64ths. -/
structure PFade where
  up    : Bool
  first : Nat
  w0    : Nat
  deriving DecidableEq, Repr

structure PressSt where
  mode   : PMode
  wait   : Bool
  r      : PressRegs
  pend   : List PWrite
  /-- CORE cycles that the Press has issued in or spent in entries. -/
  cyc    : Nat
  pc     : BitVec 13
  /-- The next address, once the loop-end compare of the word at `pc` has run (R162). -/
  next   : Option (BitVec 13)
  br     : Option PBranch
  /-- Repetitions that the REP word before `pc` asked for (R161). -/
  rep    : Option Nat
  la     : Vector Bool 2
  ih     : Bool
  sh     : Bool
  /-- Return stack, top first (R167). -/
  stack  : List PFrame
  shadow : PShadow
  tick   : Bool
  fault  : Bool
  /-- PC of the instruction that made FAULT or TRAP pending (R164, Table 05-13). -/
  faultPc : BitVec 13
  /-- The breakpoint at `pc` has already stopped the Press (R173). -/
  brkSeen : Bool
  tickCyc : Nat
  /-- The descriptor of Table 05-10. -/
  blk    : Nat
  inPos  : Nat
  outPos : Nat
  msgWr  : BitVec 16
  msgRd  : BitVec 16
  flags  : Word
  cfg    : PCfg
  /-- OVERRUN of the next descriptor (R180). -/
  ovr    : Bool
  /-- Frame of the last block tick; 0 before the first. -/
  tickF  : Nat
  /-- EN = 1 landed on this frame and the Press has not started (R171). -/
  start  : Option Nat
  /-- EN = 0 landed on this frame (R172). -/
  stop   : Option Nat
  /-- First frame on which the Basin takes output of this run (R178). -/
  outFrom : Option Nat
  fade   : Option PFade
  msgs   : List PMsg
  srstHeld : Bool
  /-- Local-memory writes queued for the partner (R174): byte address and word. -/
  mirrorQ : List (Nat × Word)
  deriving DecidableEq, Repr

/-- Register values at start (R152): zero, with SR at 0x0000_C000. -/
def PressRegs.start : PressRegs :=
  { d := Vector.replicate 16 0, ac := Vector.replicate 4 0, p := Vector.replicate 8 0, m := Vector.replicate 8 0,
    l := Vector.replicate 8 0, b := Vector.replicate 8 0, sr := 0xC000#32, lc := Vector.replicate 2 0,
    ls := Vector.replicate 2 0, le := Vector.replicate 2 0 }

/-- The shadow set at start: 0, with SR at its reset value (R169). -/
def PShadow.start : PShadow :=
  { d := Vector.replicate 8 0, ac := Vector.replicate 2 0, p := Vector.replicate 4 0, sr := 0xC000#32 }

/-- Before the first tick: no range, rings of no depth, the reset code of MSG_SIZE, and U for the reset values of BLKN and the media
rate (Table 05-11: N = 8, 48 kHz). -/
def PCfg.reset : PCfg :=
  { ranges := List.replicate 4 ⟨false, 0, 0⟩, iBase := 0, iDepth := 0, oBase := 0, oDepth := 0, mBase := 0, mSize := 512
    budget := 133171 }

def PressSt.reset : PressSt :=
  { mode := .halted, wait := false, r := PressRegs.start, pend := [], cyc := 0, pc := 0, next := none, br := none,
    rep := none, la := Vector.replicate 2 false, ih := false, sh := false, stack := [], shadow := PShadow.start,
    tick := false, fault := false, faultPc := 0, brkSeen := false, tickCyc := 0, blk := 0, inPos := 0, outPos := 0, msgWr := 0, msgRd := 0, flags := 0,
    cfg := PCfg.reset, ovr := false, tickF := 0, start := none, stop := none, outFrom := none, fade := none,
    msgs := [], srstHeld := false, mirrorQ := [] }

/-- Records held at a tick (R183); a record that has not come to its first tick is not one. -/
def heldMsgs (p : PressSt) : List PMsg := p.msgs.filter fun m => decide (0 < m.held)

/-- RUNSTATE (Table 05-13). -/
def PressSt.code (p : PressSt) : Nat :=
  match p.mode with
  | .halted => 0
  | .run => if p.wait then 2 else 1
  | .dbg => 3
  | .faulted => 4
  | .stopping => 5

end Sys2Proof.Machine
end

