-- ==== Sys2Proof/OperandC.lean ====
section
/-!
DEFINITION. The cells that carry state between twins: WRITE, FWD and BULK (12_twin_failover.md R357, R362, R363).
-/

namespace Sys2Proof

/-- What a DEC cell says of a frame (R68, R225, R232, R262, R315, R357): the active's axis samples, the pending correction and the fault
latches, and its decisions. Positions are µm with 16 fractional bits, the predicted ones at the end of the frame and one frame later;
the speed is in mm/s (log entry 92). -/
structure DecBody where
  frame   : Nat
  ptp     : BitVec 64
  pos     : Int
  posEnd  : Int
  posEnd2 : Int
  cnt     : Word
  speed   : Int
  pend    : Int
  /-- STUCK_A, STUCK_B, CHATTER, counter STUCK, counter CHATTER, SPEED_EST. -/
  latches : BitVec 6
  /-- Group and receiver decisions (R225), as the model keeps them: states, PHI0, assignments, changes on their way, sequences. -/
  groups  : List (Fin 4 × Machine.GroupSt)
  aes     : List (Fin 8 × Machine.Aes3St)
  /-- Tracked ratios and read positions by source, and the sources in lock (R232). -/
  ratios  : List (Fin 16 × Word × Word)
  locks   : BitVec 16
  /-- Packets that the active used in that frame: flow, RTP timestamp, path (R262). -/
  used    : List (Fin 256 × Word × Bool)
  /-- Transmit flows: START and the first frame of the next packet, from which its last sequence and timestamp follow; and for a flow on
  a flow clock the next frame of that clock and the place within it. -/
  flows   : List (Fin 256 × Nat × Nat × Nat × Nat)
  /-- Phases of the WCLK_OUT, PPS and block-mark dividers: frames to the next active edge (R315). -/
  wclk0   : Nat
  wclk1   : Nat
  pps     : Nat
  bmark   : Nat
  deriving DecidableEq, Repr

/-- A DEC cell, and when it arrived (ps). -/
structure DecCell where
  h : CellHdr
  t : Nat
  d : DecBody
  deriving DecidableEq, Repr

/-- What a cell carries: words at system byte addresses; words of the Cistern; the Press registers of the cutover; the Basin
engine state; the committed flow and delay-line entries, which the pages hold behind a window; and what shared bank 2 holds beyond the rings, as the model keeps it: client table, journal and completions. -/
inductive DataPart where
  | sys (ws : List (Nat × Word))
  | cist (ws : List (Nat × Word))
  | press (p : Fin 16) (r : Machine.PressRegs) (pc : BitVec 13) (stack : List Machine.PFrame)
  | engine (b : Machine.BasinSt)
  | tables (rx tx lines : List (Nat × List Word))
  | bank2 (clients : List Machine.ClientEnt) (heap : Nat) (queue : List Machine.Ev) (done : List Machine.Done)
  deriving DecidableEq, Repr

structure DataCell where
  h    : CellHdr
  part : DataPart
  deriving DecidableEq, Repr

end Sys2Proof
end

