-- ==== Sys2Proof/Syntax.lean ====
section
/-!
DEFINITION. The commands of the device: one constructor for each row of the opcode table, in its order of families.
-/

namespace Sys2Proof

/-- A command that reaches the device from outside, or an event of its own engines (spec/opcode_table.json). -/
inductive Instr where
  | registerWrite (a : HostAcc)  -- REGISTER_WRITE (R6)
  | lowWordRead (addr : Nat) (lvl : Fin 4)  -- LOW_WORD_READ (R11)
  | blockEn (page : Fin 64) (w : HW)  -- BLOCK_EN (R14)
  | srst (page : Fin 64) (w : HW)  -- SRST (R15)
  | srstComplete (page : Fin 64)  -- SRST_COMPLETE (R14)
  | freeze (page : Fin 64) (w : HW)  -- FREEZE (R16)
  | iforce (page : Fin 64) (w : HW)  -- IFORCE (R12)
  | errcapClear (page : Fin 64) (w : HW)  -- ERRCAP_CLEAR (R19)
  | strobeConflict (addr : Nat) (lvl : Fin 4)  -- STROBE_CONFLICT (R442)
  | hostAccessTimeout (addr : Nat) (lvl : Fin 4) (write : Bool)  -- HOST_ACCESS_TIMEOUT (R443)
  | rangePermWrite (k : Fin 16) (w : HW)  -- RANGE_PERM_WRITE (R452)
  | proofSnapshot  -- PROOF_SNAPSHOT (R447)
  | fallbackSnapshot  -- FALLBACK_SNAPSHOT (R447)
  | proofHold (w : HW)  -- PROOF_HOLD (R449)
  | proofHoldExpire  -- PROOF_HOLD_EXPIRE (R449)
  | frameTick (t : Nat) (x : FrameIn)  -- FRAME_TICK (R32)
  | classCDrop (ticket : Word)  -- CLASS_C_DROP (R65)
  | galleyProd (w : HW)  -- GALLEY_PROD (R79)
  | galleySlotWrite (a : HostAcc)  -- GALLEY_SLOT_WRITE (R80)
  | entryCheck (t : Nat)  -- ENTRY_CHECK (R83)
  | replAck (ticket : Word) (t : Nat)  -- REPL_ACK (R90)
  | replTimeout (t : Nat)  -- REPL_TIMEOUT (R93)
  | clientRst (w : HW)  -- CLIENT_RST (R89)
  | writeParam (ticket : Word)  -- WRITE_PARAM (R126)
  | recallForme (ticket : Word)  -- RECALL_FORME (R129)
  | sluiceRoute (ticket : Word)  -- SLUICE_ROUTE (R131)
  | play (ticket : Word)  -- PLAY (R391)
  | stopPlay (ticket : Word)  -- STOP_PLAY (R392)
  | recordSeg (ticket : Word)  -- RECORD_SEG (R389)
  | setGainZc (ticket : Word)  -- SET_GAIN_ZC (R133)
  | pressMsg (ticket : Word)  -- PRESS_MSG (R183)
  | mark (ticket : Word)  -- MARK (R78)
  | cancel (ticket : Word)  -- CANCEL (R97)
  | tachPulse (x : PinEdge) (b : Bool)  -- TACH_PULSE (R54)
  | tachQuietRelease (t : Nat)  -- TACH_QUIET_RELEASE (R61)
  | tachStuck (t : Nat) (pinB : Bool)  -- TACH_STUCK (R61)
  | standstill (t : Nat)  -- STANDSTILL (R529)
  | cntEdge (x : EdgeTime) (rising : Bool)  -- CNT_EDGE (R53)
  | cntQuietRelease (t : Nat)  -- CNT_QUIET_RELEASE (R61)
  | cntStuck (t : Nat)  -- CNT_STUCK (R61)
  | corrSubmit (w : HW)  -- CORR_SUBMIT (R58)
  | corrDone  -- CORR_DONE (R59)
  | posLoad (w : HW)  -- POS_LOAD (R60)
  | zoneGapBegin (z : Fin 128)  -- ZONE_GAP_BEGIN (R140)
  | zcTimeoutRamp (key : Nat)  -- ZC_TIMEOUT_RAMP (R116)
  | slotWaitStart (key : Nat)  -- SLOT_WAIT_START (R128)
  | slotRelease (key : Nat)  -- SLOT_RELEASE (R128)
  | epochEnd  -- EPOCH_END (R130)
  | heldEntryAct (ticket : Word)  -- HELD_ENTRY_ACT (R127)
  | shadowUnlock  -- SHADOW_UNLOCK (R123)
  | sluiceEnd (o : Fin 1024)  -- SLUICE_END (R132)
  | shadowFormeWrite (a : HostAcc)  -- SHADOW_FORME_WRITE (R122)
  | formeCrcStart (w : HW)  -- FORME_CRC_START (R146)
  | formeCrcDone  -- FORME_CRC_DONE (R146)
  | jetPath (p : Fin 64) (w : HW)  -- JET_PATH (R135)
  | jetXfadeEnd (p : Fin 64)  -- JET_XFADE_END (R135)
  | blockTick (starved : List (Fin 16))  -- BLOCK_TICK (R177)
  | pressStart (p : Fin 16)  -- PRESS_START (R171)
  | pressStop (p : Fin 16)  -- PRESS_STOP (R172)
  | pressHalt (p : Fin 16)  -- PRESS_HALT (R172)
  | tickEntry (p : Fin 16)  -- TICK_ENTRY (R166)
  | faultEntry (p : Fin 16)  -- FAULT_ENTRY (R164)
  | dbgHalt (p : Fin 16) (w : HW)  -- DBG_HALT (R173)
  | dbgStep (p : Fin 16) (w : HW)  -- DBG_STEP (R173)
  | brkMatch (p : Fin 16)  -- BRK_MATCH (R173)
  | pressMemWrite (a : HostAcc)  -- PRESS_MEM_WRITE (R174)
  | pressDmaStarve (p : Fin 16)  -- PRESS_DMA_STARVE (R174)
  | loopEndFetch (p : Fin 16) (lvl : Fin 2)  -- LOOP_END_FETCH (R162)
  | opNop (p : Fin 16) (x : ArithArgs)  -- NOP (R194)
  | opMpy (p : Fin 16) (x : ArithArgs)  -- MPY (R194)
  | opMac (p : Fin 16) (x : ArithArgs)  -- MAC (R194)
  | opMsu (p : Fin 16) (x : ArithArgs)  -- MSU (R194)
  | opMpy2 (p : Fin 16) (x : ArithArgs)  -- MPY2 (R194)
  | opMac2 (p : Fin 16) (x : ArithArgs)  -- MAC2 (R194)
  | opMsu2 (p : Fin 16) (x : ArithArgs)  -- MSU2 (R194)
  | opDmpy (p : Fin 16) (x : ArithArgs)  -- DMPY (R194)
  | opDmac (p : Fin 16) (x : ArithArgs)  -- DMAC (R194)
  | opQmac (p : Fin 16) (x : ArithArgs)  -- QMAC (R194)
  | opCmpy (p : Fin 16) (x : ArithArgs)  -- CMPY (R194)
  | opCmac (p : Fin 16) (x : ArithArgs)  -- CMAC (R194)
  | opCmsu (p : Fin 16) (x : ArithArgs)  -- CMSU (R194)
  | opMpyr (p : Fin 16) (x : ArithArgs)  -- MPYR (R195)
  | opAdda (p : Fin 16) (x : ArithArgs)  -- ADDA (R194)
  | opSuba (p : Fin 16) (x : ArithArgs)  -- SUBA (R194)
  | opMova (p : Fin 16) (x : ArithArgs)  -- MOVA (R194)
  | opNega (p : Fin 16) (x : ArithArgs)  -- NEGA (R194)
  | opAbsa (p : Fin 16) (x : ArithArgs)  -- ABSA (R194)
  | opClra (p : Fin 16) (x : ArithArgs)  -- CLRA (R194)
  | opRnd (p : Fin 16) (x : ArithArgs)  -- RND (R194)
  | opSata (p : Fin 16) (x : ArithArgs)  -- SATA (R194)
  | opAsla (p : Fin 16) (x : ArithArgs)  -- ASLA (R194)
  | opAslv (p : Fin 16) (x : ArithArgs)  -- ASLV (R194)
  | opExp (p : Fin 16) (x : ArithArgs)  -- EXP (R196)
  | opNorm (p : Fin 16) (x : ArithArgs)  -- NORM (R196)
  | opExpd (p : Fin 16) (x : ArithArgs)  -- EXPD (R196)
  | opAdd (p : Fin 16) (x : ArithArgs)  -- ADD (R194)
  | opAdds (p : Fin 16) (x : ArithArgs)  -- ADDS (R194)
  | opSub (p : Fin 16) (x : ArithArgs)  -- SUB (R194)
  | opSubs (p : Fin 16) (x : ArithArgs)  -- SUBS (R194)
  | opAnd (p : Fin 16) (x : ArithArgs)  -- AND (R194)
  | opOr (p : Fin 16) (x : ArithArgs)  -- OR (R194)
  | opXor (p : Fin 16) (x : ArithArgs)  -- XOR (R194)
  | opLsl (p : Fin 16) (x : ArithArgs)  -- LSL (R194)
  | opAsr (p : Fin 16) (x : ArithArgs)  -- ASR (R194)
  | opLsr (p : Fin 16) (x : ArithArgs)  -- LSR (R194)
  | opMin (p : Fin 16) (x : ArithArgs)  -- MIN (R194)
  | opMax (p : Fin 16) (x : ArithArgs)  -- MAX (R194)
  | opAbs (p : Fin 16) (x : ArithArgs)  -- ABS (R194)
  | opNeg (p : Fin 16) (x : ArithArgs)  -- NEG (R194)
  | opCmp (p : Fin 16) (x : ArithArgs)  -- CMP (R194)
  | moveLoad (p : Fin 16) (x : MoveArgs)  -- MOVE_LOAD (R190)
  | moveStore (p : Fin 16) (x : MoveArgs)  -- MOVE_STORE (R190)
  | moveRegister (p : Fin 16) (x : MoveRegArgs)  -- MOVE_REGISTER (R190)
  | pointerUpdate (p : Fin 16) (x : PtrArgs)  -- POINTER_UPDATE (R190)
  | longAbsolute (p : Fin 16) (x : LongAbsArgs)  -- LONG_ABSOLUTE (R193)
  | longImmediate (p : Fin 16) (x : LongImmArgs)  -- LONG_IMMEDIATE (R193)
  | bra (p : Fin 16) (cond : BitVec 4) (target : BitVec 13)  -- BRA (R199)
  | call (p : Fin 16) (cond : BitVec 4) (target : BitVec 13)  -- CALL (R199)
  | rts (p : Fin 16) (cond : BitVec 4)  -- RTS (R199)
  | rti (p : Fin 16)  -- RTI (R166)
  | jmpr (p : Fin 16) (cond : BitVec 4) (r : BitVec 4)  -- JMPR (R199)
  | rep (p : Fin 16) (n : BitVec 10)  -- REP (R161)
  | repr (p : Fin 16) (r : BitVec 4)  -- REPR (R199)
  | loop (p : Fin 16) (n : BitVec 16) (e : BitVec 13)  -- LOOP (R162)
  | loopr (p : Fin 16) (r : BitVec 4) (e : BitVec 13)  -- LOOPR (R199)
  | wait (p : Fin 16)  -- WAIT (R173)
  | trap (p : Fin 16)  -- TRAP (R201)
  | movs (p : Fin 16) (x : MovsArgs)  -- MOVS (R200)
  | groupFrame (g : Fin 4) (x : GroupIn)  -- GROUP_FRAME (R216)
  | qualifyPass (g : Fin 4) (phi0 : BitVec 10)  -- QUALIFY_PASS (R214)
  | bclkStop (g : Fin 4)  -- BCLK_STOP (R215)
  | fsLoss (g : Fin 4)  -- FS_LOSS (R215)
  | clockReturn (g : Fin 4)  -- CLOCK_RETURN (R213)
  | faultFadeEnd (g : Fin 4)  -- FAULT_FADE_END (R215)
  | portZcTimeout (c : PortSlot)  -- PORT_ZC_TIMEOUT (R223)
  | portRampEnd (c : PortSlot)  -- PORT_RAMP_END (R223)
  | slotMaskWrite (g : Fin 4) (m : Fin 8) (out : Bool) (w : HW)  -- SLOT_MASK_WRITE (R221)
  | aes3Block (m : Fin 8) (b : Aes3In)  -- AES3_BLOCK (R228)
  | aes3Lock (m : Fin 8) (lock : Bool)  -- AES3_LOCK (R226)
  | txcommit (m : Fin 8) (w : HW)  -- TXCOMMIT (R229)
  | txcommitAct (m : Fin 8)  -- TXCOMMIT_ACT (R229)
  | asrcChannelWrite (c : Fin 128) (w : HW)  -- ASRC_CHANNEL_WRITE (R231)
  | ratioLock (x : Fin 16) (ratio : Word)  -- RATIO_LOCK (R232)
  | linkUp (n : Fin 2) (speedOk : Bool)  -- LINK_UP (R242)
  | linkDown (n : Fin 2) (hiBer : Bool)  -- LINK_DOWN (R242)
  | packetReceive (k : NetPkt)  -- PACKET_RECEIVE (R245)
  | macAgeOut (mac : BitVec 48)  -- MAC_AGE_OUT (R245)
  | igmpLapse (group : Word)  -- IGMP_LAPSE (R248)
  | igmpQuery  -- IGMP_QUERY (R248)
  | flowPacket (f : Fin 256) (k : AudioPkt)  -- FLOW_PACKET (R256)
  | flowLoss (f : Fin 256)  -- FLOW_LOSS (R259)
  | flowSend (f : Fin 256)  -- FLOW_SEND (R257)
  | streamSel (tx : Bool) (w : HW)  -- STREAM_SEL (R273)
  | streamCommit (tx : Bool) (w : HW)  -- STREAM_COMMIT (R273)
  | fclkLock (j : Fin 4) (lock : Bool) (ratio : Word)  -- FCLK_LOCK (R266)
  | discover (m : MgmtPkt)  -- DISCOVER (R269)
  | announce (m : MgmtPkt)  -- ANNOUNCE (R267)
  | announceSend  -- ANNOUNCE_SEND (R269)
  | telemetrySend  -- TELEMETRY_SEND (R269)
  | readReq (m : MgmtPkt)  -- READ_REQ (R270)
  | nodeDupClear  -- NODE_DUP_CLEAR (R267)
  | ptpRx (m : PtpMsg)  -- PTP_RX (R285)
  | ptpTxProd (w : HW)  -- PTP_TX_PROD (R286)
  | ptpSlotSent (ok : Bool)  -- PTP_SLOT_SENT (R286)
  | timeSet (w : HW)  -- TIME_SET (R280)
  | timeAdd (w : HW)  -- TIME_ADD (R280)
  | timeSlew (w : HW)  -- TIME_SLEW (R280)
  | timecmdAct  -- TIMECMD_ACT (R280)
  | slewDone (n : Fin 2)  -- SLEW_DONE (R280)
  | timeNsRead (n : Fin 2) (lvl : Fin 4)  -- TIME_NS_READ (R279)
  | ptpPulse (n : Fin 2) (t : Nat)  -- PTP_PULSE (R290)
  | refEdge (r : Fin 8) (x : RefMeas)  -- REF_EDGE (R295)
  | refFail (r : Fin 8)  -- REF_FAIL (R299)
  | refSoakDone (r : Fin 8)  -- REF_SOAK_DONE (R297)
  | refDisqualify (r : Fin 8)  -- REF_DISQUALIFY (R297)
  | dpllEvaluation (t : Nat)  -- DPLL_EVALUATION (R304)
  | lockDeclared  -- LOCK_DECLARED (R308)
  | ladderStep  -- LADDER_STEP (R308)
  | lockLost  -- LOCK_LOST (R308)
  | pullDone  -- PULL_DONE (R309)
  | steerWrite (w : HW)  -- STEER_WRITE (R312)
  | dpllAlign (w : HW)  -- DPLL_ALIGN (R314)
  | alignEdge (out : Fin 4)  -- ALIGN_EDGE (R314)
  | pllLock (l : PllLoop) (count : BitVec 13)  -- PLL_LOCK (R321)
  | pllLossOfLock (l : PllLoop)  -- PLL_LOSS_OF_LOCK (R324)
  | xoLoss  -- XO_LOSS (R322)
  | xoRestore  -- XO_RESTORE (R322)
  | mediaRateChange (ticket : Word)  -- MEDIA_RATE_CHANGE (R332)
  | rateHold  -- RATE_HOLD (R332)
  | rampHandover  -- RAMP_HANDOVER (R333)
  | rampEnd  -- RAMP_END (R333)
  | rateResume  -- RATE_RESUME (R332)
  | rateDone  -- RATE_DONE (R332)
  | bandSearch (w : HW)  -- BAND_SEARCH (R328)
  | searchDone (band : BitVec 5) (fine : BitVec 9) (found : Bool)  -- SEARCH_DONE (R328)
  | pstep (w : HW)  -- PSTEP (R329)
  | pstepDone  -- PSTEP_DONE (R329)
  | domainGate (rst : Bool) (w : HW)  -- DOMAIN_GATE (R323)
  | arbGrantRise (x : EdgeTime)  -- ARB_GRANT_RISE (R346)
  | grantWaitEnd (t : Nat)  -- GRANT_WAIT_END (R346)
  | arbGrantFall (x : EdgeTime)  -- ARB_GRANT_FALL (R344)
  | arbChatterQuiet  -- ARB_CHATTER_QUIET (R345)
  | arbStuck  -- ARB_STUCK (R345)
  | leaseExpire (t : Nat)  -- LEASE_EXPIRE (R343)
  | handover (w : HW)  -- HANDOVER (R344)
  | fence (w : HW)  -- FENCE (R366)
  | rejoin (w : HW)  -- REJOIN (R361)
  | autoJoin  -- AUTO_JOIN (R361)
  | negTimeout  -- NEG_TIMEOUT (R342)
  | traliatLinkUp (lanes : BitVec 2)  -- TRALIAT_LINK_UP (R355)
  | traliatLinkDown  -- TRALIAT_LINK_DOWN (R355)
  | traliatLaneChange (lanes : BitVec 2)  -- TRALIAT_LANE_CHANGE (R355)
  | healthCell (c : HealthCell)  -- HEALTH_CELL (R357)
  | decCell (c : DecCell)  -- DEC_CELL (R357)
  | mirrorCell (c : MirrorCell)  -- MIRROR_CELL (R340)
  | galleyCell (c : GalleyCell)  -- GALLEY_CELL (R92)
  | writeCell (c : DataCell)  -- WRITE_CELL (R357)
  | fwdCell (c : DataCell)  -- FWD_CELL (R363)
  | bulkCell (c : DataCell)  -- BULK_CELL (R362)
  | ctrlCell (c : CtrlCell)  -- CTRL_CELL (R357)
  | cellResend (ch : Fin 8) (seq : BitVec 16)  -- CELL_RESEND (R356)
  | healthMissing  -- HEALTH_MISSING (R358)
  | lossHoldExpire  -- LOSS_HOLD_EXPIRE (R359)
  | syncPhaseEnd  -- SYNC_PHASE_END (R362)
  | cutover  -- CUTOVER (R362)
  | fwdQueueOverflow (region : Nat)  -- FWD_QUEUE_OVERFLOW (R363)
  | standbyHotPromote (storeEq : Bool)  -- STANDBY_HOT_PROMOTE (R365)
  | warmTimeout  -- WARM_TIMEOUT (R365)
  | trainingDone (r : TrainIn)  -- TRAINING_DONE (R377)
  | retrainTrigger (t : Nat)  -- RETRAIN_TRIGGER (R378)
  | retrainSlice  -- RETRAIN_SLICE (R378)
  | retrainDone (r : TrainIn)  -- RETRAIN_DONE (R379)
  | retrainAbort  -- RETRAIN_ABORT (R378)
  | ceWindowEnd  -- CE_WINDOW_END (R380)
  | reserveMove  -- RESERVE_MOVE (R43)
  | shedWithdraw  -- SHED_WITHDRAW (R40)
  | dramRefresh (rank : Fin 2) (u : Fin 4)  -- DRAM_REFRESH (R376)
  | rowCloseTimeout (bank : Fin 32)  -- ROW_CLOSE_TIMEOUT (R375)
  | delayCommit (w : HW)  -- DELAY_COMMIT (R382)
  | stagingDeadline (missing : List Nat)  -- STAGING_DEADLINE (R383)
  | delayXfadeEnd (line : Fin 1024)  -- DELAY_XFADE_END (R384)
  | recorderFreeze (w : HW)  -- RECORDER_FREEZE (R389)
  | segmentComplete (ticket : Word)  -- SEGMENT_COMPLETE (R389)
  | voiceEnd (v : Fin 256)  -- VOICE_END (R391)
  | stopFadeEnd (v : Fin 256)  -- STOP_FADE_END (R392)
  | apertureWrite (a : HostAcc)  -- APERTURE_WRITE (R395)
  | busGrant (target : Fin 10) (port : Fin 16) (cycle : BitVec 16) (fresh : List BusReq)  -- BUS_GRANT (R407)
  | eccRewrite  -- ECC_REWRITE (R415)
  | remapWrite (group : Fin 4) (idx : Fin 16) (w : HW)  -- REMAP_WRITE (R418)
  | skimStep (dram : Bool)  -- SKIM_STEP (R420)
  | flipArm (w : HW)  -- FLIP_ARM (R423)
  | senseClassify (n : Fin 8) (level : BitVec 12) (t : Nat)  -- SENSE_CLASSIFY (R428)
  | senseStuck (n : Fin 8)  -- SENSE_STUCK (R431)
  | senseQuiet (n : Fin 8)  -- SENSE_QUIET (R432)
  | senseEventDeliver (n : Fin 8) (t : Nat)  -- SENSE_EVENT_DELIVER (R433)
  | actionRetryExpire  -- ACTION_RETRY_EXPIRE (R437)
  | senseEvt (m : MgmtPkt)  -- SENSE_EVT (R435)
  | supplyTrip (which : Fin 10)  -- SUPPLY_TRIP (R459)
  | porRelease (straps : BitVec 5) (vio : BitVec 4)  -- POR_RELEASE (R463)
  | warmResetPin  -- WARM_RESET_PIN (R461)
  | resetWarm (w : HW)  -- RESET_WARM (R472)
  | resetCold (w : HW)  -- RESET_COLD (R472)
  | xoQualified  -- XO_QUALIFIED (R463)
  | bistDone (r : BistIn)  -- BIST_DONE (R466)
  | imageSlotPass (x : SlotPass)  -- IMAGE_SLOT_PASS (R468)
  | bootContinue (w : HW)  -- BOOT_CONTINUE (R464)
  | startRun  -- START_RUN (R463)
  | otpProgram (w : HW)  -- OTP_PROGRAM (R474)
  | otpProgramDone  -- OTP_PROGRAM_DONE (R474)
  | ppsEdge  -- PPS_EDGE (R488)
  | bmarkEdge  -- BMARK_EDGE (R488)
  | tempReading (s0 : BitVec 16) (s1 : BitVec 16) (s2 : BitVec 16) (s3 : BitVec 16)  -- TEMP_READING (R491)
  | tempcfgClr (w : HW)  -- TEMPCFG_CLR (R491)
  | warmResetRelease  -- WARM_RESET_RELEASE (R461)
  | rateHoldRenewal (t : Nat)  -- RATE_HOLD_RENEWAL (R343)
  | tachBEdge (x : EdgeTime) (level : Bool)  -- TACH_B_EDGE (R61)
  | cntInLow (x : EdgeTime)  -- CNT_IN_LOW (R61)
  | pressHostTimeout (p : Fin 16) (addr : Nat) (lvl : Fin 4) (write : Bool)  -- PRESS_HOST_TIMEOUT (R174)
  | supplyReading (n : Fin 9) (mv : BitVec 16)  -- SUPPLY_READING (R491)
  deriving DecidableEq, Repr

end Sys2Proof
end

