-- ==== Sys2Proof/Decode.lean ====
section
/-!
DEFINITION. The commands that words spell. The device is a block: spec/opcode_table.json gives no row any bits, so no word
spells a command.
-/

namespace Sys2Proof

/-- The command that the `nbits` bits `w` spell by the table's bits. The table gives no bits, so there is none. -/
def decodeTableWord (_nbits _w : Nat) : Option Instr := none

end Sys2Proof
end

