-- ==== Sys2Proof/Machine/Bits.lean ====
section
/-!
DEFINITION. Bit fields, sign extension, byte order, saturation and the other small number helpers that several chapters
share.
-/

namespace Sys2Proof.Machine

/-- Bits `[hi:lo]` of a word, as a number. -/
def bits (w : Word) (hi lo : Nat) : Nat := (w.toNat >>> lo) % 2 ^ (hi + 1 - lo)

/-- Bit `i` of a word. -/
def bit (w : Word) (i : Nat) : Bool := w.getLsbD i

/-- Bits `[hi:lo]` of a natural number. -/
def nbits (n hi lo : Nat) : Nat := (n >>> lo) % 2 ^ (hi + 1 - lo)

/-- A number placed at bit `lo` of a word. -/
def fld (v lo : Nat) : Word := BitVec.ofNat 32 (v <<< lo)

/-- A flag placed at bit `lo` of a word. -/
def flg (b : Bool) (lo : Nat) : Word := if b then BitVec.ofNat 32 (1 <<< lo) else 0#32

/-- A word with bits `[hi:lo]` replaced by `v`. -/
def setBits (w : Word) (hi lo v : Nat) : Word :=
  let m := fld (2 ^ (hi + 1 - lo) - 1) lo
  (w &&& ~~~m) ||| (fld v lo &&& m)

/-- The masked replacement of `old` by `new`. -/
def maskWord (mask old new : Word) : Word := (old &&& ~~~mask) ||| (new &&& mask)

/-- The signed value of the low `w` bits of `n` (two's complement). -/
def sgn (w n : Nat) : Int :=
  let m := n % 2 ^ w
  if 2 * m < 2 ^ w then (m : Int) else (m : Int) - 2 ^ w

/-- The low `w` bits of an integer, as a number (two's complement). -/
def unsgn (w : Nat) (i : Int) : Nat := (i % (2 ^ w : Int)).toNat

/-- An integer held in the signed range of `w` bits. -/
def satS (w : Nat) (i : Int) : Int :=
  if i > 2 ^ (w - 1) - 1 then 2 ^ (w - 1) - 1 else if i < -(2 ^ (w - 1)) then -(2 ^ (w - 1)) else i

/-- A field value for which 0 acts as 1. -/
def zeroIs1 (n : Nat) : Nat := if n = 0 then 1 else n

/-- A number held between two limits. -/
def clampN (lo hi n : Nat) : Nat := if n < lo then lo else if n > hi then hi else n

/-- An integer held between two limits. -/
def clampI (lo hi n : Int) : Int := if n < lo then lo else if n > hi then hi else n

/-- A number as a word, wrapping at 32 bits. -/
def w32 (n : Nat) : Word := BitVec.ofNat 32 n

/-- An integer as a word, wrapping at 32 bits. -/
def i32 (i : Int) : Word := BitVec.ofInt 32 i

/-- A counter field of `w` bits that saturates. -/
def satW (w n : Nat) : Word := w32 (min n (2 ^ w - 1))

/-- Little-endian bytes of the low `8 n` bits of a number. -/
def leBytes : Nat → Nat → List Byte
  | 0, _ => []
  | n + 1, v => BitVec.ofNat 8 v :: leBytes n (v / 256)

/-- The number whose little-endian bytes are given. -/
def ofLe : List Byte → Nat
  | [] => 0
  | b :: t => b.toNat + 256 * ofLe t

/-- The number whose big-endian bytes (network order) are given. -/
def ofBe (l : List Byte) : Nat := l.foldl (fun a b => 256 * a + b.toNat) 0

/-- Division of an integer by a positive number, rounded toward negative infinity. -/
def floorDiv (a : Int) (b : Nat) : Int := a.fdiv b

/-- Division by a positive number rounded to nearest, halves to even (convergent rounding). -/
def convDiv (a : Int) (b : Nat) : Int :=
  let q := a.fdiv b
  let r := a - q * b
  if 2 * r < b then q else if 2 * r > b then q + 1 else if q % 2 = 0 then q else q + 1

/-- Division by a positive number rounded up. -/
def ceilDiv (a b : Nat) : Nat := if b = 0 then 0 else (a + b - 1) / b

/-- Replacement of element `i` of a list (unchanged where there is none). -/
def listSet {α : Type} (l : List α) (i : Nat) (v : α) : List α := l.set i v

/-- Numbers in rising order. -/
def natPut (n : Nat) : List Nat → List Nat
  | [] => [n]
  | h :: t => if n ≤ h then n :: h :: t else h :: natPut n t
def natSort (l : List Nat) : List Nat := l.foldr natPut []

/-- The 64-bit pattern of a count. -/
def lo32 (n : Nat) : Word := w32 n
def hi32 (n : Nat) : Word := w32 (n >>> 32)

/-- One step of the reflected CRC-32 over a bit (R528). -/
def crcBit (c : BitVec 32) : BitVec 32 :=
  if c.getLsbD 0 then (c >>> 1) ^^^ 0xEDB88320#32 else c >>> 1

/-- The CRC-32 register after one more byte (R528). -/
def crcByte (c : BitVec 32) (b : Byte) : BitVec 32 :=
  crcBit (crcBit (crcBit (crcBit (crcBit (crcBit (crcBit (crcBit (c ^^^ b.setWidth 32))))))))

/-- The CRC-32 of a byte string: initial value all ones, reflected input and output, final complement (R528). -/
def crc32 (l : List Byte) : BitVec 32 := ~~~(l.foldl crcByte 0xFFFFFFFF#32)

end Sys2Proof.Machine
end

