-- ==== Sys2Proof/Machine/Crypto.lean ====
section
/-!
DEFINITION. The two functions that a signed image names by their standards (17_startup_nv_image.md R468): SHA-256, and the
check of an ECDSA P-256 signature. Their constants are those of the standards (log entry 17).
-/

namespace Sys2Proof.Machine

/-! ### SHA-256 -/

/-- The eight working words. -/
structure Sha where
  a : Word
  b : Word
  c : Word
  d : Word
  e : Word
  f : Word
  g : Word
  h : Word
  deriving DecidableEq, Repr

def shaInit : Sha :=
  ⟨0x6A09E667, 0xBB67AE85, 0x3C6EF372, 0xA54FF53A, 0x510E527F, 0x9B05688C, 0x1F83D9AB, 0x5BE0CD19⟩

def shaK : List Word :=
  [0x428A2F98, 0x71374491, 0xB5C0FBCF, 0xE9B5DBA5, 0x3956C25B, 0x59F111F1, 0x923F82A4, 0xAB1C5ED5,
   0xD807AA98, 0x12835B01, 0x243185BE, 0x550C7DC3, 0x72BE5D74, 0x80DEB1FE, 0x9BDC06A7, 0xC19BF174,
   0xE49B69C1, 0xEFBE4786, 0x0FC19DC6, 0x240CA1CC, 0x2DE92C6F, 0x4A7484AA, 0x5CB0A9DC, 0x76F988DA]
  ++ [0x983E5152, 0xA831C66D, 0xB00327C8, 0xBF597FC7, 0xC6E00BF3, 0xD5A79147, 0x06CA6351, 0x14292967,
   0x27B70A85, 0x2E1B2138, 0x4D2C6DFC, 0x53380D13, 0x650A7354, 0x766A0ABB, 0x81C2C92E, 0x92722C85,
   0xA2BFE8A1, 0xA81A664B, 0xC24B8B70, 0xC76C51A3]
  ++ [0xD192E819, 0xD6990624, 0xF40E3585, 0x106AA070, 0x19A4C116, 0x1E376C08, 0x2748774C, 0x34B0BCB5,
   0x391C0CB3, 0x4ED8AA4A, 0x5B9CCA4F, 0x682E6FF3, 0x748F82EE, 0x78A5636F, 0x84C87814, 0x8CC70208,
   0x90BEFFFA, 0xA4506CEB, 0xBEF9A3F7, 0xC67178F2]

/-- The XOR of three rotations to the right. -/
def rot3 (w : Word) (i j k : Nat) : Word := w.rotateRight i ^^^ w.rotateRight j ^^^ w.rotateRight k

/-- The message schedule, newest word first: `n` more words. -/
def shaSched : Nat → List Word → List Word
  | 0, l => l
  | n + 1, l =>
    let s0 (w : Word) : Word := w.rotateRight 7 ^^^ w.rotateRight 18 ^^^ (w >>> 3)
    let s1 (w : Word) : Word := w.rotateRight 17 ^^^ w.rotateRight 19 ^^^ (w >>> 10)
    shaSched n ((s1 (l.getD 1 0) + l.getD 6 0 + s0 (l.getD 14 0) + l.getD 15 0) :: l)

def shaRound (x : Sha) (kw : Word × Word) : Sha :=
  let t1 := x.h + rot3 x.e 6 11 25 + ((x.e &&& x.f) ^^^ (~~~x.e &&& x.g)) + kw.1 + kw.2
  let t2 := rot3 x.a 2 13 22 + ((x.a &&& x.b) ^^^ (x.a &&& x.c) ^^^ (x.b &&& x.c))
  ⟨t1 + t2, x.a, x.b, x.c, x.d + t1, x.e, x.f, x.g⟩

/-- One block of sixteen big-endian words. -/
def shaBlock (x : Sha) (ws : List Word) : Sha :=
  let y := (shaK.zip (shaSched 48 ws.reverse).reverse).foldl shaRound x
  ⟨x.a + y.a, x.b + y.b, x.c + y.c, x.d + y.d, x.e + y.e, x.f + y.f, x.g + y.g, x.h + y.h⟩

/-- Blocks of 64 bytes, at most `n` of them. -/
def shaBlocks : Nat → List Byte → Sha → Sha
  | 0, _, x => x
  | n + 1, l, x =>
    shaBlocks n (l.drop 64) (shaBlock x ((List.range 16).map fun i => w32 (ofBe ((l.drop (4 * i)).take 4))))

/-- SHA-256 of a byte string, as eight words. -/
def sha256 (l : List Byte) : List Word :=
  let pad := (55 + 64 - l.length % 64) % 64
  let m := l ++ [0x80#8] ++ List.replicate pad 0#8 ++ (leBytes 8 (8 * l.length)).reverse
  let x := shaBlocks (m.length / 64) m shaInit
  [x.a, x.b, x.c, x.d, x.e, x.f, x.g, x.h]

/-- The digest as a number, first word highest. -/
def shaNat (l : List Byte) : Nat := (sha256 l).foldl (fun a w => a * 2 ^ 32 + w.toNat) 0

/-! ### ECDSA over P-256 -/

def p256P : Nat := 2 ^ 256 - 2 ^ 224 + 2 ^ 192 + 2 ^ 96 - 1
def p256N : Nat := 0xFFFFFFFF00000000FFFFFFFFFFFFFFFFBCE6FAADA7179E84F3B9CAC2FC632551
def p256B : Nat := 0x5AC635D8AA3A93E7B3EBBD55769886BC651D06B0CC53B0F63BCE3C3E27D2604B
def p256G : Nat × Nat :=
  (0x6B17D1F2E12C4247F8BCE6E563A440F277037D812DEB33A0F4A13945D898C296,
   0x4FE342E2FE1A7F9B8EE7EB4A7C0F9E162BCE33576B315ECECBB6406837BF51F5)

/-- `b ^ e` modulo `m`, over the low `n` bits of `e`. -/
def powMod : Nat → Nat → Nat → Nat → Nat
  | 0, _, _, m => 1 % m
  | n + 1, b, e, m =>
    let r := powMod n (b * b % m) (e / 2) m
    if e % 2 = 1 then r * b % m else r

/-- Inverse modulo a prime below 2^256. -/
def invMod (a m : Nat) : Nat := powMod 256 (a % m) (m - 2) m

/-- Addition of points; `none` is the point at infinity. -/
def ecAdd (x y : Option (Nat × Nat)) : Option (Nat × Nat) :=
  match x, y with
  | none, q => q
  | q, none => q
  | some (x1, y1), some (x2, y2) =>
    let p := p256P
    let third (l : Nat) : Option (Nat × Nat) :=
      let x3 := (l * l + 2 * p - x1 - x2) % p
      some (x3, (l * (x1 + p - x3) + p - y1) % p)
    if x1 ≠ x2 then third ((y2 + p - y1) % p * invMod (x2 + p - x1) p % p)
    else if y1 = y2 ∧ y1 ≠ 0 then third ((3 * x1 * x1 + p - 3) % p * invMod (2 * y1) p % p)
    else none

/-- `k` times a point, over the low `n` bits of `k`. -/
def ecMul : Nat → Nat → Option (Nat × Nat) → Option (Nat × Nat)
  | 0, _, _ => none
  | n + 1, k, q =>
    let r := ecMul n (k / 2) (ecAdd q q)
    if k % 2 = 1 then ecAdd r q else r

/-- Is (r, s) a valid signature of the digest `e` under the key (qx, qy)? -/
def ecdsaOk (qx qy r s e : Nat) : Bool :=
  let p := p256P
  let n := p256N
  let onCurve := decide (qx < p ∧ qy < p ∧ qy * qy % p = (qx * qx * qx + (p - 3) * qx + p256B) % p)
  let range := decide (0 < r ∧ r < n ∧ 0 < s ∧ s < n)
  let w := invMod s n
  onCurve && range &&
    match ecAdd (ecMul 256 (e * w % n) (some p256G)) (ecMul 256 (r * w % n) (some (qx, qy))) with
    | some (x, _) => decide (x % n = r)
    | none => false

end Sys2Proof.Machine
end

