-- ==== Sys2Proof/Config.lean ====
section
/-!
DEFINITION. What an implementation fixes and the values that the spec leaves open. An opaque constant has no body: nothing
can be proved of its value.
-/

namespace Sys2Proof.Config

/-- The n-th free value: a word that the spec leaves open (log entry 2). -/
opaque freeWord : Nat → Word

/-- The n-th free choice among `k` (log entry 2): used modulo the number of choices. -/
opaque freeNat : Nat → Nat

/-- The instruction words of the boot-vector ROM, by instruction address (R171 names what the program does, not its words;
log entry 2). -/
opaque romWord : Nat → BitVec 64

end Sys2Proof.Config
end

