-- ==== Sys2Proof/Machine/Regs.lean ====
section
/-!
DEFINITION. The register pages: one row for each register of the index (18_register_index.md R475 to R492), with its
offset in the page, its reset value and the bits of each access type (00_scope.md R6, Table 00-5), written from the
register tables and field tables of the owning chapters; and the byte address of every register, by name.
-/

namespace Sys2Proof.Machine

/-- One row of a register page. `n` elements at a `stride`; `rw`, `w1c`, `w1s`, `wo`, `rwp` are the masks of the fields of
each access type (R6); bits in none of them are read-only or reserved. `cnt` marks a counter that FREEZE holds (R14: which registers of a
page are its counters is DESIGN CHOICE, log entry 18). -/
structure RegDef where
  name   : String
  off    : Nat
  n      : Nat
  stride : Nat
  reset  : Nat
  rw     : Nat
  w1c    : Nat
  w1s    : Nat
  wo     : Nat
  rwp    : Nat
  cnt    : Bool
  deriving DecidableEq, Repr

/-! Page numbers (R476, Table 18-2). -/
abbrev pgSYS : Nat := 0
abbrev pgPROT : Nat := 1
abbrev pgHOSTIF : Nat := 2
abbrev pgBOOT : Nat := 3
abbrev pgCLKGEN : Nat := 4
abbrev pgPLLM : Nat := 5
abbrev pgDPLL : Nat := 6
abbrev pgTIMEBASE : Nat := 7
abbrev pgCOMPOSITOR : Nat := 8
abbrev pgGALLEY : Nat := 9
abbrev pgTWIN : Nat := 0xa
abbrev pgARB : Nat := 0xb
abbrev pgMATRIX : Nat := 0xc
abbrev pgDDRC : Nat := 0xd
abbrev pgDDRPHY : Nat := 0xe
abbrev pgECC : Nat := 0xf
abbrev pgPORTG (p : Nat) : Nat := 0x10 + p
abbrev pgAES3 : Nat := 0x14
abbrev pgASRC : Nat := 0x15
abbrev pgNET (p : Nat) : Nat := 0x16 + p
abbrev pgSWITCH : Nat := 0x18
abbrev pgPTP : Nat := 0x19
abbrev pgSTREAMRX : Nat := 0x1a
abbrev pgSTREAMTX : Nat := 0x1b
abbrev pgBASIN : Nat := 0x1c
abbrev pgJET : Nat := 0x1d
abbrev pgSENSE : Nat := 0x1e
abbrev pgGPIO : Nat := 0x1f
abbrev pgPRESS (p : Nat) : Nat := 0x20 + p
abbrev pgMETER : Nat := 0x30
abbrev pgRECORDER : Nat := 0x31
abbrev pgPLAYER : Nat := 0x32
abbrev pgINTC : Nat := 0x33
abbrev pgMON : Nat := 0x34
abbrev pgOTP : Nat := 0x35

/-- The byte address of offset `off` of page `p` (R475). -/
abbrev pageAddr (p off : Nat) : Nat := 0x10000 + 0x1000 * p + off
abbrev aCTRL (p : Nat) : Nat := pageAddr p 0x008
abbrev aISTAT (p : Nat) : Nat := pageAddr p 0x010
abbrev aIEN (p : Nat) : Nat := pageAddr p 0x014
abbrev aERRCAP (p : Nat) : Nat := pageAddr p 0x01C
abbrev aERRADDR (p : Nat) : Nat := pageAddr p 0x020

/-! Register addresses. -/
abbrev aSYS_CHIP_ID : Nat := 0x10040
abbrev aSYS_STEPPING : Nat := 0x10044
abbrev aSYS_STRAPS : Nat := 0x10048
abbrev aSYS_RSTCAUSE : Nat := 0x1004c
abbrev aSYS_RSTCMD : Nat := 0x10050
abbrev aSYS_RST_CNT : Nat := 0x10054
abbrev aSYS_SCRATCH (i : Nat) : Nat := 0x10060 + 4 * i
abbrev aPROT_FAULTINFO : Nat := 0x11040
abbrev aPROT_FAULT_CNT : Nat := 0x11044
abbrev aPROT_PAGEPERM (i : Nat) : Nat := 0x11100 + 4 * i
abbrev aPROT_REGPERM (i : Nat) : Nat := 0x11200 + 4 * i
abbrev aPROT_RANGE_BASE (i : Nat) : Nat := 0x11300 + 12 * i
abbrev aPROT_RANGE_LIMIT (i : Nat) : Nat := 0x11304 + 12 * i
abbrev aPROT_RANGE_PERM (i : Nat) : Nat := 0x11308 + 12 * i
abbrev aHOSTIF_CFG : Nat := 0x12040
abbrev aHOSTIF_PROOF : Nat := 0x12044
abbrev aHOSTIF_LASTERR : Nat := 0x12048
abbrev aHOSTIF_LASTADDR : Nat := 0x1204c
abbrev aHOSTIF_ERR_CNT : Nat := 0x12050
abbrev aHOSTIF_SNAP_CNT : Nat := 0x12054
abbrev aBOOT_CMD : Nat := 0x13040
abbrev aBOOT_SEQ_A : Nat := 0x13044
abbrev aBOOT_SEQ_B : Nat := 0x13048
abbrev aBOOT_SLOT_ERR : Nat := 0x1304c
abbrev aBOOT_IMG_CRC : Nat := 0x13050
abbrev aBOOT_ERRSECT : Nat := 0x13054
abbrev aBOOT_PRELOAD : Nat := 0x13058
abbrev aBOOT_BADPRESS : Nat := 0x1305c
abbrev aBOOT_T_STEP (i : Nat) : Nat := 0x13100 + 4 * i
abbrev aCLKGEN_PLLCTRL : Nat := 0x14040
abbrev aCLKGEN_DOMGATE : Nat := 0x14044
abbrev aCLKGEN_DOMRST : Nat := 0x14048
abbrev aCLKGEN_LOCKCNT (i : Nat) : Nat := 0x1404c + 4 * i
abbrev aCLKGEN_LOL_CNT : Nat := 0x14058
abbrev aCLKGEN_FMON (i : Nat) : Nat := 0x14100 + 4 * i
abbrev aPLLM_RATE : Nat := 0x15040
abbrev aPLLM_RAMP : Nat := 0x15044
abbrev aPLLM_RAMP_LEFT : Nat := 0x15048
abbrev aPLLM_PSTEP : Nat := 0x1504c
abbrev aPLLM_PSTEP_SUM : Nat := 0x15050
abbrev aPLLM_LOCKCNT : Nat := 0x15054
abbrev aPLLM_LOL_CNT : Nat := 0x15058
abbrev aPLLM_CFG : Nat := 0x1505c
abbrev aPLLM_MCLKOUT (i : Nat) : Nat := 0x15060 + 4 * i
abbrev aPLLM_WCLKOUT (i : Nat) : Nat := 0x15068 + 4 * i
abbrev aPLLM_CALCMD : Nat := 0x15070
abbrev aPLLM_CALSLOT (i : Nat) : Nat := 0x15100 + 4 * i
abbrev aDPLL_CFG : Nat := 0x16040
abbrev aDPLL_PSLOPE : Nat := 0x16044
abbrev aDPLL_PSLOPE_INIT : Nat := 0x16048
abbrev aDPLL_STEER : Nat := 0x1604c
abbrev aDPLL_HOLDCFG : Nat := 0x16050
abbrev aDPLL_SOAK : Nat := 0x16054
abbrev aDPLL_TOL : Nat := 0x16058
abbrev aDPLL_EQ_TOL : Nat := 0x1605c
abbrev aDPLL_WANDER : Nat := 0x16060
abbrev aDPLL_LOCKCFG : Nat := 0x16064
abbrev aDPLL_DWELL : Nat := 0x16068
abbrev aDPLL_ALIGN : Nat := 0x1606c
abbrev aDPLL_PHASE : Nat := 0x16070
abbrev aDPLL_FREQ : Nat := 0x16074
abbrev aDPLL_HO_FREQ : Nat := 0x16078
abbrev aDPLL_HO_AGE : Nat := 0x1607c
abbrev aDPLL_SWITCH_CNT : Nat := 0x16080
abbrev aDPLL_REFSTAT (i : Nat) : Nat := 0x16120 + 4 * i
abbrev aDPLL_REFFREQ (i : Nat) : Nat := 0x16140 + 4 * i
abbrev aDPLL_REFPHASE (i : Nat) : Nat := 0x16160 + 4 * i
abbrev aDPLL_REFCFG (i : Nat) : Nat := 0x16100 + 4 * i
abbrev aTIMEBASE_TACHCFG : Nat := 0x17040
abbrev aTIMEBASE_WHEEL_PPR : Nat := 0x17044
abbrev aTIMEBASE_WHEEL_CIRC : Nat := 0x17048
abbrev aTIMEBASE_TACH_LIMIT : Nat := 0x1704c
abbrev aTIMEBASE_TACH_TIMERS : Nat := 0x17050
abbrev aTIMEBASE_SPEEDCFG : Nat := 0x17054
abbrev aTIMEBASE_CNTCFG : Nat := 0x17058
abbrev aTIMEBASE_CNT_LIMIT : Nat := 0x1705c
abbrev aTIMEBASE_CNT_TIMERS : Nat := 0x17060
abbrev aTIMEBASE_CORR_LO : Nat := 0x17070
abbrev aTIMEBASE_CORR_HI : Nat := 0x17074
abbrev aTIMEBASE_CORRCFG : Nat := 0x17078
abbrev aTIMEBASE_CORR_LIMIT : Nat := 0x1707c
abbrev aTIMEBASE_CORR_PEND_LO : Nat := 0x17080
abbrev aTIMEBASE_CORR_PEND_HI : Nat := 0x17084
abbrev aTIMEBASE_POS_LOAD_LO : Nat := 0x17088
abbrev aTIMEBASE_POS_LOAD_HI : Nat := 0x1708c
abbrev aTIMEBASE_MEDIA_NOW_LO : Nat := 0x17100
abbrev aTIMEBASE_MEDIA_NOW_HI : Nat := 0x17104
abbrev aTIMEBASE_PTP_NOW_LO : Nat := 0x17108
abbrev aTIMEBASE_PTP_NOW_HI : Nat := 0x1710c
abbrev aTIMEBASE_POS_NOW_LO : Nat := 0x17110
abbrev aTIMEBASE_POS_NOW_HI : Nat := 0x17114
abbrev aTIMEBASE_CNT_NOW : Nat := 0x17118
abbrev aTIMEBASE_SPEED : Nat := 0x1711c
abbrev aTIMEBASE_PULSES : Nat := 0x17120
abbrev aCOMPOSITOR_CFG : Nat := 0x18040
abbrev aCOMPOSITOR_LATE_CNT : Nat := 0x18044
abbrev aCOMPOSITOR_DEFER_MAX : Nat := 0x18048
abbrev aCOMPOSITOR_DROP_CNT : Nat := 0x1804c
abbrev aCOMPOSITOR_PEAK_PEND : Nat := 0x18050
abbrev aCOMPOSITOR_NEXT_MEDIA_LO : Nat := 0x18054
abbrev aCOMPOSITOR_NEXT_MEDIA_HI : Nat := 0x18058
abbrev aCOMPOSITOR_PEND_AXIS (i : Nat) : Nat := 0x18100 + 4 * i
abbrev aGALLEY_PROD : Nat := 0x19044
abbrev aGALLEY_CONS : Nat := 0x19048
abbrev aGALLEY_RESP : Nat := 0x1904c
abbrev aGALLEY_CPROD : Nat := 0x19050
abbrev aGALLEY_TICKET_LAST : Nat := 0x19054
abbrev aGALLEY_TICKET_DONE : Nat := 0x19058
abbrev aGALLEY_ACC_CNT : Nat := 0x1905c
abbrev aGALLEY_REF_CNT : Nat := 0x19060
abbrev aGALLEY_DUP_CNT : Nat := 0x19064
abbrev aGALLEY_LAT_MAX : Nat := 0x19068
abbrev aGALLEY_HEAP_FREE : Nat := 0x1906c
abbrev aGALLEY_CLIENT_RST : Nat := 0x19070
abbrev aGALLEY_CLIENTCFG (i : Nat) : Nat := 0x19100 + 4 * i
abbrev aGALLEY_CLIENT_SEQ (i : Nat) : Nat := 0x19140 + 4 * i
abbrev aGALLEY_CLIENT_STAT (i : Nat) : Nat := 0x19180 + 4 * i
abbrev aTWIN_CFG : Nat := 0x1a040
abbrev aTWIN_CMD : Nat := 0x1a044
abbrev aTWIN_FAILOVER_CNT : Nat := 0x1a048
abbrev aTWIN_MISMATCH_CNT : Nat := 0x1a04c
abbrev aTWIN_UNRES_CNT : Nat := 0x1a050
abbrev aTWIN_CELL_ERR_CNT : Nat := 0x1a054
abbrev aTWIN_RETX_CNT : Nat := 0x1a058
abbrev aTWIN_LINKDN_CNT : Nat := 0x1a05c
abbrev aTWIN_RESTART_CNT : Nat := 0x1a060
abbrev aTWIN_COPY_TIME : Nat := 0x1a064
abbrev aTWIN_CUT_LO : Nat := 0x1a068
abbrev aTWIN_CUT_HI : Nat := 0x1a06c
abbrev aTWIN_WARM_LEFT : Nat := 0x1a070
abbrev aTWIN_CRC_LOCAL : Nat := 0x1a074
abbrev aTWIN_CRC_PARTNER : Nat := 0x1a078
abbrev aTWIN_CRC_FRAME : Nat := 0x1a07c
abbrev aTWIN_DIFF_REGIONS : Nat := 0x1a080
abbrev aTWIN_MIRROR_TX (i : Nat) : Nat := 0x1a100 + 4 * i
abbrev aARB_CFG : Nat := 0x1b040
abbrev aARB_STUCK_CFG : Nat := 0x1b044
abbrev aARB_CHATTER_CFG : Nat := 0x1b048
abbrev aARB_LEASE_LEFT : Nat := 0x1b04c
abbrev aARB_HB_CNT : Nat := 0x1b050
abbrev aARB_GRANT_CNT : Nat := 0x1b054
abbrev aARB_EXPIRE_CNT : Nat := 0x1b058
abbrev aMATRIX_CFG : Nat := 0x1c040
abbrev aMATRIX_ERRMASTER : Nat := 0x1c044
abbrev aMATRIX_DECERR_CNT : Nat := 0x1c048
abbrev aMATRIX_FORCED_CNT : Nat := 0x1c04c
abbrev aMATRIX_RIGHTS_CNT : Nat := 0x1c050
abbrev aMATRIX_GRANT_CNT (i : Nat) : Nat := 0x1c120 + 4 * i
abbrev aMATRIX_WAIT_MAX (i : Nat) : Nat := 0x1c140 + 4 * i
abbrev aMATRIX_MCFG (i : Nat) : Nat := 0x1c100 + 4 * i
abbrev aDDRC_MEMCFG : Nat := 0x1d040
abbrev aDDRC_TIMING0 : Nat := 0x1d044
abbrev aDDRC_TIMING1 : Nat := 0x1d048
abbrev aDDRC_APBASE : Nat := 0x1d04c
abbrev aDDRC_RTCFG : Nat := 0x1d050
abbrev aDDRC_CECFG : Nat := 0x1d054
abbrev aDDRC_TEMP_IN : Nat := 0x1d058
abbrev aDDRC_FAILS : Nat := 0x1d05c
abbrev aDDRC_CE_CNT : Nat := 0x1d060
abbrev aDDRC_RT_CNT : Nat := 0x1d064
abbrev aDDRC_RT_ABORT_CNT : Nat := 0x1d068
abbrev aDDRC_STAGE_MISS_CNT : Nat := 0x1d06c
abbrev aDDRC_REF_OWED : Nat := 0x1d070
abbrev aDDRC_RSV_SHARE : Nat := 0x1d074
abbrev aDDRC_PORTBW (i : Nat) : Nat := 0x1d120 + 4 * i
abbrev aDDRC_DLY_SEL : Nat := 0x1d140
abbrev aDDRC_DLY_COMMIT : Nat := 0x1d144
abbrev aDDRC_PORTTGT (i : Nat) : Nat := 0x1d100 + 4 * i
abbrev aDDRC_DLY_ENTRY (i : Nat) : Nat := 0x1d148 + 4 * i
abbrev aDDRPHY_TRCFG : Nat := 0x1e040
abbrev aDDRPHY_TRAIN_TEMP : Nat := 0x1e044
abbrev aDDRPHY_TRAIN_TIME : Nat := 0x1e048
abbrev aDDRPHY_EYE (i : Nat) : Nat := 0x1e100 + 4 * i
abbrev aDDRPHY_DLY (i : Nat) : Nat := 0x1e180 + 4 * i
abbrev aECC_CFG : Nat := 0x1f040
abbrev aECC_SKIMCFG : Nat := 0x1f044
abbrev aECC_FLIPCTRL : Nat := 0x1f048
abbrev aECC_FLIPADDR : Nat := 0x1f04c
abbrev aECC_FLIPMASK_LO : Nat := 0x1f050
abbrev aECC_FLIPMASK_MID : Nat := 0x1f054
abbrev aECC_FLIPMASK_HI : Nat := 0x1f058
abbrev aECC_LAST_ADDR : Nat := 0x1f05c
abbrev aECC_LAST_SYND : Nat := 0x1f060
abbrev aECC_LAP_SRAM : Nat := 0x1f064
abbrev aECC_LAP_DRAM : Nat := 0x1f068
abbrev aECC_CE_CNT (i : Nat) : Nat := 0x1f070 + 4 * i
abbrev aECC_UE_CNT (i : Nat) : Nat := 0x1f080 + 4 * i
abbrev aECC_REPAIR : Nat := 0x1f090
abbrev aECC_REMAP_PL (i : Nat) : Nat := 0x1f100 + 4 * i
abbrev aECC_REMAP_SH (i : Nat) : Nat := 0x1f110 + 4 * i
abbrev aECC_REMAP_BS (i : Nat) : Nat := 0x1f120 + 4 * i
abbrev aECC_REMAP_DR (i : Nat) : Nat := 0x1f140 + 4 * i
abbrev aPORTG_GCFG (p : Nat) : Nat := 0x20040 + 0x1000 * p
abbrev aPORTG_TIMEOUT (p : Nat) : Nat := 0x20044 + 0x1000 * p
abbrev aPORTG_ALIGN (p : Nat) : Nat := 0x20048 + 0x1000 * p
abbrev aPORTG_RATE_MEAS (p : Nat) : Nat := 0x2004c + 0x1000 * p
abbrev aPORTG_SLIP_CNT (p : Nat) : Nat := 0x20050 + 0x1000 * p
abbrev aPORTG_IN_DROP_CNT (p : Nat) : Nat := 0x20054 + 0x1000 * p
abbrev aPORTG_IN_REP_CNT (p : Nat) : Nat := 0x20058 + 0x1000 * p
abbrev aPORTG_OUT_DROP_CNT (p : Nat) : Nat := 0x2005c + 0x1000 * p
abbrev aPORTG_OUT_REP_CNT (p : Nat) : Nat := 0x20060 + 0x1000 * p
abbrev aPORTG_STOP_CNT (p : Nat) : Nat := 0x20064 + 0x1000 * p
abbrev aPORTG_PORT (p : Nat) (i : Nat) : Nat := 0x20100 + 0x1000 * p + 4 * i
abbrev aPORTG_INMASK (p : Nat) (i : Nat) : Nat := 0x20120 + 0x1000 * p + 4 * i
abbrev aPORTG_OUTMASK (p : Nat) (i : Nat) : Nat := 0x20140 + 0x1000 * p + 4 * i
abbrev aPORTG_ACT_INMASK (p : Nat) (i : Nat) : Nat := 0x20160 + 0x1000 * p + 4 * i
abbrev aPORTG_ACT_OUTMASK (p : Nat) (i : Nat) : Nat := 0x20180 + 0x1000 * p + 4 * i
abbrev aPORTG_PSTAT (p : Nat) (i : Nat) : Nat := 0x201a0 + 0x1000 * p + 4 * i
abbrev aAES3_REFSEL : Nat := 0x24040
abbrev aAES3_PARITY_CNT : Nat := 0x24044
abbrev aAES3_CRC_CNT : Nat := 0x24048
abbrev aAES3_BLOCK_CNT : Nat := 0x2404c
abbrev aAES3_PORTCFG (i : Nat) : Nat := 0x24100 + 4 * i
abbrev aAES3_RXSTAT (i : Nat) : Nat := 0x24120 + 4 * i
abbrev aAES3_RXCS (i : Nat) : Nat := 0x24200 + 4 * i
abbrev aAES3_TXCS (i : Nat) : Nat := 0x24400 + 4 * i
abbrev aAES3_RXUB (i : Nat) : Nat := 0x24600 + 4 * i
abbrev aAES3_TXUB (i : Nat) : Nat := 0x24800 + 4 * i
abbrev aASRC_LOCKSTAT : Nat := 0x25040
abbrev aASRC_UNLOCK_CNT : Nat := 0x25044
abbrev aASRC_CH (i : Nat) : Nat := 0x25100 + 4 * i
abbrev aASRC_RATIO (i : Nat) : Nat := 0x25300 + 4 * i
abbrev aNET_CFG (p : Nat) : Nat := 0x26040 + 0x1000 * p
abbrev aNET_MAC_LO (p : Nat) : Nat := 0x26044 + 0x1000 * p
abbrev aNET_MAC_HI (p : Nat) : Nat := 0x26048 + 0x1000 * p
abbrev aNET_IPADDR (p : Nat) : Nat := 0x2604c + 0x1000 * p
abbrev aNET_RX_PKT (p : Nat) : Nat := 0x26050 + 0x1000 * p
abbrev aNET_TX_PKT (p : Nat) : Nat := 0x26054 + 0x1000 * p
abbrev aNET_FCS_ERR (p : Nat) : Nat := 0x26058 + 0x1000 * p
abbrev aNET_DROP_CNT (p : Nat) : Nat := 0x2605c + 0x1000 * p
abbrev aNET_LINKDN_CNT (p : Nat) : Nat := 0x26060 + 0x1000 * p
abbrev aSWITCH_CFG : Nat := 0x28040
abbrev aSWITCH_PCPMAP : Nat := 0x28044
abbrev aSWITCH_NODECFG : Nat := 0x28048
abbrev aSWITCH_MGMT : Nat := 0x2804c
abbrev aSWITCH_MGMT_MCAST_LO : Nat := 0x28050
abbrev aSWITCH_MGMT_MCAST_HI : Nat := 0x28054
abbrev aSWITCH_TELCFG : Nat := 0x28058
abbrev aSWITCH_IGMPCFG : Nat := 0x2805c
abbrev aSWITCH_AGE : Nat := 0x28060
abbrev aSWITCH_CT_CNT : Nat := 0x28064
abbrev aSWITCH_QDROP_A : Nat := 0x28068
abbrev aSWITCH_QDROP_B : Nat := 0x2806c
abbrev aSWITCH_QDROP_C : Nat := 0x28070
abbrev aSWITCH_MGMT_RX : Nat := 0x28074
abbrev aSWITCH_MGMT_DENY : Nat := 0x28078
abbrev aSWITCH_MGMT_DROP : Nat := 0x2807c
abbrev aSWITCH_IGMP_OVF : Nat := 0x28080
abbrev aPTP_CFG : Nat := 0x29040
abbrev aPTP_TCCFG : Nat := 0x29044
abbrev aPTP_RXRING : Nat := 0x29048
abbrev aPTP_TXRING : Nat := 0x2904c
abbrev aPTP_RING_SZ : Nat := 0x29050
abbrev aPTP_RX_PROD : Nat := 0x29054
abbrev aPTP_RX_CONS : Nat := 0x29058
abbrev aPTP_TX_PROD : Nat := 0x2905c
abbrev aPTP_TX_CONS : Nat := 0x29060
abbrev aPTP_PORTADJ_RX (i : Nat) : Nat := 0x29064 + 4 * i
abbrev aPTP_PORTADJ_TX (i : Nat) : Nat := 0x2906c + 4 * i
abbrev aPTP_LINKDLY (i : Nat) : Nat := 0x29074 + 4 * i
abbrev aPTP_TIMECMD : Nat := 0x29080
abbrev aPTP_TIMESET_S_LO : Nat := 0x29084
abbrev aPTP_TIMESET_S_HI : Nat := 0x29088
abbrev aPTP_TIMESET_NS : Nat := 0x2908c
abbrev aPTP_OFFSET_LO : Nat := 0x29090
abbrev aPTP_OFFSET_HI : Nat := 0x29094
abbrev aPTP_SLEW_NS : Nat := 0x29098
abbrev aPTP_SLEW_PPM : Nat := 0x2909c
abbrev aPTP_TIME0_NS : Nat := 0x290a0
abbrev aPTP_TIME0_S_LO : Nat := 0x290a4
abbrev aPTP_TIME0_S_HI : Nat := 0x290a8
abbrev aPTP_TIME0_FRAC : Nat := 0x290ac
abbrev aPTP_TIME1_NS : Nat := 0x290b0
abbrev aPTP_TIME1_S_LO : Nat := 0x290b4
abbrev aPTP_TIME1_S_HI : Nat := 0x290b8
abbrev aPTP_TIME1_FRAC : Nat := 0x290bc
abbrev aPTP_TIME0_RATE : Nat := 0x290c0
abbrev aPTP_TIME1_RATE : Nat := 0x290c4
abbrev aPTP_RX_DROP : Nat := 0x290c8
abbrev aPTP_TX_ERR : Nat := 0x290cc
abbrev aPTP_TC_CNT : Nat := 0x290d0
abbrev aPTP_CF_SAT : Nat := 0x290d4
abbrev aPTP_STEP_CNT : Nat := 0x290d8
abbrev aSTREAMRX_CFG : Nat := 0x2a040
abbrev aSTREAMRX_RTP_OFS : Nat := 0x2a044
abbrev aSTREAMRX_SEL : Nat := 0x2a048
abbrev aSTREAMRX_COMMIT : Nat := 0x2a04c
abbrev aSTREAMRX_LATE_CNT : Nat := 0x2a050
abbrev aSTREAMRX_EARLY_CNT : Nat := 0x2a054
abbrev aSTREAMRX_FMT_CNT : Nat := 0x2a058
abbrev aSTREAMRX_MERGE_CNT : Nat := 0x2a05c
abbrev aSTREAMRX_STBY_MISS_CNT : Nat := 0x2a060
abbrev aSTREAMRX_FCLK_RATIO (i : Nat) : Nat := 0x2a080 + 4 * i
abbrev aSTREAMRX_FCLK_CFG (i : Nat) : Nat := 0x2a090 + 4 * i
abbrev aSTREAMRX_FSTAT (i : Nat) : Nat := 0x2a200 + 4 * i
abbrev aSTREAMRX_ENTRY (i : Nat) : Nat := 0x2a100 + 4 * i
abbrev aSTREAMTX_SEL : Nat := 0x2b048
abbrev aSTREAMTX_COMMIT : Nat := 0x2b04c
abbrev aSTREAMTX_TX_PKT : Nat := 0x2b050
abbrev aSTREAMTX_TXDROP_CNT : Nat := 0x2b054
abbrev aSTREAMTX_FSTAT (i : Nat) : Nat := 0x2b200 + 4 * i
abbrev aSTREAMTX_ENTRY (i : Nat) : Nat := 0x2b100 + 4 * i
abbrev aBASIN_RECALL_CNT : Nat := 0x2c044
abbrev aBASIN_WAIT_CNT : Nat := 0x2c048
abbrev aBASIN_BUS_OVER_CNT : Nat := 0x2c04c
abbrev aBASIN_OUT_OVER_CNT : Nat := 0x2c050
abbrev aBASIN_LAND_LO : Nat := 0x2c054
abbrev aBASIN_LAND_HI : Nat := 0x2c058
abbrev aBASIN_MIRROR_CNT : Nat := 0x2c05c
abbrev aBASIN_CRC_CTRL : Nat := 0x2c060
abbrev aBASIN_CRC_VAL : Nat := 0x2c064
abbrev aBASIN_SLOT_PEAK : Nat := 0x2c068
abbrev aJET_CLIP_CNT : Nat := 0x2d040
abbrev aJET_PATH (i : Nat) : Nat := 0x2d100 + 4 * i
abbrev aJET_JGAIN (i : Nat) : Nat := 0x2d200 + 4 * i
abbrev aSENSE_CFG : Nat := 0x2e040
abbrev aSENSE_ACTCFG : Nat := 0x2e044
abbrev aSENSE_EVT_PROD : Nat := 0x2e048
abbrev aSENSE_EVT_CONS : Nat := 0x2e04c
abbrev aSENSE_EVT_LOST : Nat := 0x2e050
abbrev aSENSE_RATE_DROP_CNT : Nat := 0x2e054
abbrev aSENSE_ACT_CNT : Nat := 0x2e058
abbrev aSENSE_ACT_REF_CNT : Nat := 0x2e05c
abbrev aSENSE_ACT_LAST : Nat := 0x2e060
abbrev aSENSE_ACT_TICKET : Nat := 0x2e064
abbrev aSENSE_INCFG (i : Nat) : Nat := 0x2e100 + 4 * i
abbrev aSENSE_LEVEL (i : Nat) : Nat := 0x2e120 + 4 * i
abbrev aSENSE_ACTMAP (i : Nat) : Nat := 0x2e180 + 4 * i
abbrev aSENSE_EVT (i : Nat) : Nat := 0x2e400 + 8 * i
abbrev aSENSE_ACTION (i : Nat) : Nat := 0x2e600 + 32 * i
abbrev aSENSE_BAND (i : Nat) : Nat := 0x2e140 + 4 * i
abbrev aGPIO_PPSCFG : Nat := 0x2f040
abbrev aGPIO_PPSWIDTH : Nat := 0x2f044
abbrev aGPIO_BMARKCFG : Nat := 0x2f048
abbrev aGPIO_SPARE_DIR : Nat := 0x2f04c
abbrev aGPIO_SPARE_OUT : Nat := 0x2f050
abbrev aGPIO_PINS : Nat := 0x2f054
abbrev aPRESS_INRANGE (p : Nat) (i : Nat) : Nat := 0x30040 + 0x1000 * p + 4 * i
abbrev aPRESS_IRING_BASE (p : Nat) : Nat := 0x30050 + 0x1000 * p
abbrev aPRESS_IRING_DEPTH (p : Nat) : Nat := 0x30054 + 0x1000 * p
abbrev aPRESS_ORING_BASE (p : Nat) : Nat := 0x30058 + 0x1000 * p
abbrev aPRESS_ORING_DEPTH (p : Nat) : Nat := 0x3005c + 0x1000 * p
abbrev aPRESS_MSG_BASE (p : Nat) : Nat := 0x30060 + 0x1000 * p
abbrev aPRESS_MSG_SIZE (p : Nat) : Nat := 0x30064 + 0x1000 * p
abbrev aPRESS_MSG_PEND (p : Nat) : Nat := 0x30068 + 0x1000 * p
abbrev aPRESS_BUDGET (p : Nat) : Nat := 0x3006c + 0x1000 * p
abbrev aPRESS_LOAD (p : Nat) : Nat := 0x30070 + 0x1000 * p
abbrev aPRESS_LOAD_PEAK (p : Nat) : Nat := 0x30074 + 0x1000 * p
abbrev aPRESS_OVR_CNT (p : Nat) : Nat := 0x30078 + 0x1000 * p
abbrev aPRESS_STARVE_CNT (p : Nat) : Nat := 0x3007c + 0x1000 * p
abbrev aPRESS_STARVE_CFG (p : Nat) : Nat := 0x30080 + 0x1000 * p
abbrev aPRESS_SIGNAL (p : Nat) : Nat := 0x30084 + 0x1000 * p
abbrev aPRESS_FAULTINFO (p : Nat) : Nat := 0x30088 + 0x1000 * p
abbrev aPRESS_BRK (p : Nat) : Nat := 0x3008c + 0x1000 * p
abbrev aPRESS_MIRROR_CNT (p : Nat) : Nat := 0x30090 + 0x1000 * p
abbrev aPRESS_DREG (p : Nat) (i : Nat) : Nat := 0x30100 + 0x1000 * p + 4 * i
abbrev aPRESS_ACREG (p : Nat) (i : Nat) : Nat := 0x30140 + 0x1000 * p + 12 * i
abbrev aPRESS_AREG (p : Nat) (i : Nat) : Nat := 0x30180 + 0x1000 * p + 4 * i
abbrev aPRESS_PCREG (p : Nat) : Nat := 0x30200 + 0x1000 * p
abbrev aPRESS_SRREG (p : Nat) : Nat := 0x30204 + 0x1000 * p
abbrev aPRESS_LREG (p : Nat) (i : Nat) : Nat := 0x30208 + 0x1000 * p + 4 * i
abbrev aPRESS_RSTK_PC (p : Nat) (i : Nat) : Nat := 0x30220 + 0x1000 * p + 4 * i
abbrev aPRESS_RSTK_SR (p : Nat) (i : Nat) : Nat := 0x30240 + 0x1000 * p + 4 * i
abbrev aPRESS_RSTK_DEPTH (p : Nat) : Nat := 0x30260 + 0x1000 * p
abbrev aMETER_CFG : Nat := 0x40040
abbrev aMETER_ZONE_AMB (i : Nat) : Nat := 0x40100 + 4 * i
abbrev aMETER_ZONE_OFF (i : Nat) : Nat := 0x40200 + 4 * i
abbrev aMETER_ZONE_GAP (i : Nat) : Nat := 0x40300 + 4 * i
abbrev aRECORDER_FREEZE : Nat := 0x41040
abbrev aRECORDER_BUF_LEVEL : Nat := 0x41044
abbrev aRECORDER_BUF_PEAK : Nat := 0x41048
abbrev aRECORDER_LOSS_CNT : Nat := 0x4104c
abbrev aRECORDER_SEGTKT (i : Nat) : Nat := 0x41100 + 4 * i
abbrev aRECORDER_SEGPOS (i : Nat) : Nat := 0x41200 + 4 * i
abbrev aPLAYER_CFG : Nat := 0x42040
abbrev aPLAYER_DIR_BASE : Nat := 0x42044
abbrev aPLAYER_DIR_COUNT : Nat := 0x42048
abbrev aPLAYER_MISS_CNT : Nat := 0x4204c
abbrev aPLAYER_VSTAT (i : Nat) : Nat := 0x42100 + 4 * i
abbrev aPLAYER_VTKT (i : Nat) : Nat := 0x42500 + 4 * i
abbrev aINTC_CFG : Nat := 0x43040
abbrev aINTC_ALMSRC : Nat := 0x43044
abbrev aINTC_ALMSRC_EN : Nat := 0x43048
abbrev aINTC_PEND_LO : Nat := 0x43100
abbrev aINTC_PEND_HI : Nat := 0x43104
abbrev aINTC_INT_EN_LO : Nat := 0x43108
abbrev aINTC_INT_EN_HI : Nat := 0x4310c
abbrev aINTC_ALM_EN_LO : Nat := 0x43110
abbrev aINTC_ALM_EN_HI : Nat := 0x43114
abbrev aMON_TEMP : Nat := 0x44040
abbrev aMON_TEMP_MIN : Nat := 0x44044
abbrev aMON_TEMP_MAX : Nat := 0x44048
abbrev aMON_TEMPCFG : Nat := 0x4404c
abbrev aMON_VOLT (i : Nat) : Nat := 0x44100 + 4 * i
abbrev aOTP_CFG : Nat := 0x45040
abbrev aOTP_SLOTB : Nat := 0x45044
abbrev aOTP_KEYHASH (i : Nat) : Nat := 0x45100 + 4 * i
abbrev aOTP_COLREP (i : Nat) : Nat := 0x45120 + 4 * i
abbrev aOTP_PROGADDR : Nat := 0x45200
abbrev aOTP_PROGDATA : Nat := 0x45204
abbrev aOTP_PROGCMD : Nat := 0x45208

/-! The rows, page by page. -/
def regsSYS0 : List RegDef := [
  ⟨"CTRL", 8, 1, 4, 1, 5, 0, 2, 0, 0, false⟩,
  ⟨"ISTAT", 0x10, 1, 4, 0, 0, 0, 0, 0, 0, false⟩,
  ⟨"IEN", 0x14, 1, 4, 0, 0, 0, 0, 0, 0, false⟩,
  ⟨"IFORCE", 0x18, 1, 4, 0, 0, 0, 0, 0, 0, false⟩,
  ⟨"ERRCAP", 0x1c, 1, 4, 0, 0, 0x80000000, 0, 0, 0, false⟩,
  ⟨"CHIP_ID", 0x40, 1, 4, 0x5a4d1610, 0, 0, 0, 0, 0, false⟩,
  ⟨"STEPPING", 0x44, 1, 4, 0, 0, 0, 0, 0, 0, false⟩,
  ⟨"STRAPS", 0x48, 1, 4, 0, 0, 0, 0, 0, 0, false⟩,
  ⟨"RSTCAUSE", 0x4c, 1, 4, 1, 0, 0xff, 0, 0, 0, false⟩,
  ⟨"RSTCMD", 0x50, 1, 4, 0, 0, 0, 0, 0, 0xffff0003, false⟩,
  ⟨"RST_CNT", 0x54, 1, 4, 0, 0, 0, 0, 0, 0, true⟩,
  ⟨"SCRATCH", 0x60, 4, 4, 0, 0xffffffff, 0, 0, 0, 0, false⟩]
def regsSYS : List RegDef := regsSYS0
def regsPROT0 : List RegDef := [
  ⟨"CTRL", 8, 1, 4, 1, 5, 0, 2, 0, 0, false⟩,
  ⟨"ISTAT", 0x10, 1, 4, 0, 0, 3, 0, 0, 0, false⟩,
  ⟨"IEN", 0x14, 1, 4, 0, 3, 0, 0, 0, 0, false⟩,
  ⟨"IFORCE", 0x18, 1, 4, 0, 0, 0, 0, 3, 0, false⟩,
  ⟨"ERRCAP", 0x1c, 1, 4, 0, 0, 0x80000000, 0, 0, 0, false⟩,
  ⟨"FAULTINFO", 0x40, 1, 4, 0, 0, 0, 0, 0, 0, false⟩,
  ⟨"FAULT_CNT", 0x44, 1, 4, 0, 0, 0, 0, 0, 0, true⟩,
  ⟨"PAGEPERM0", 0x100, 1, 4, 0x5f, 0, 0, 0, 0, 0xff, false⟩,
  ⟨"PAGEPERM", 0x104, 63, 4, 0x1f, 0, 0, 0, 0, 0xff, false⟩,
  ⟨"REGPERM0", 0x200, 1, 4, 0x5f, 0, 0, 0, 0, 0xff, false⟩,
  ⟨"REGPERM", 0x204, 5, 4, 0x1f, 0, 0, 0, 0, 0xff, false⟩,
  ⟨"RANGE_BASE", 0x300, 16, 12, 0, 0, 0, 0, 0, 0x1fffffc, false⟩,
  ⟨"RANGE_LIMIT", 0x304, 16, 12, 0, 0, 0, 0, 0, 0x1fffffc, false⟩,
  ⟨"RANGE_PERM", 0x308, 16, 12, 0, 0, 0, 0, 0, 0x800000ff, false⟩]
def regsPROT : List RegDef := regsPROT0
def regsHOSTIF0 : List RegDef := [
  ⟨"CTRL", 8, 1, 4, 1, 5, 0, 2, 0, 0, false⟩,
  ⟨"ISTAT", 0x10, 1, 4, 0, 0, 3, 0, 0, 0, false⟩,
  ⟨"IEN", 0x14, 1, 4, 0, 3, 0, 0, 0, 0, false⟩,
  ⟨"IFORCE", 0x18, 1, 4, 0, 0, 0, 0, 3, 0, false⟩,
  ⟨"ERRCAP", 0x1c, 1, 4, 0, 0, 0x80000000, 0, 0, 0, false⟩,
  ⟨"CFG", 0x40, 1, 4, 0xc8, 0xffff, 0, 0, 0, 0, false⟩,
  ⟨"PROOF", 0x44, 1, 4, 0x40, 0x800000ff, 0, 0, 0, 0, false⟩,
  ⟨"LASTERR", 0x48, 1, 4, 0, 0, 0, 0, 0, 0, false⟩,
  ⟨"LASTADDR", 0x4c, 1, 4, 0, 0, 0, 0, 0, 0, false⟩,
  ⟨"ERR_CNT", 0x50, 1, 4, 0, 0, 0, 0, 0, 0, true⟩,
  ⟨"SNAP_CNT", 0x54, 1, 4, 0, 0, 0, 0, 0, 0, true⟩]
def regsHOSTIF : List RegDef := regsHOSTIF0
def regsBOOT0 : List RegDef := [
  ⟨"CTRL", 8, 1, 4, 1, 5, 0, 2, 0, 0, false⟩,
  ⟨"ISTAT", 0x10, 1, 4, 0, 0, 0xf, 0, 0, 0, false⟩,
  ⟨"IEN", 0x14, 1, 4, 0, 0xf, 0, 0, 0, 0, false⟩,
  ⟨"IFORCE", 0x18, 1, 4, 0, 0, 0, 0, 0xf, 0, false⟩,
  ⟨"ERRCAP", 0x1c, 1, 4, 0, 0, 0x80000000, 0, 0, 0, false⟩,
  ⟨"CMD", 0x40, 1, 4, 0, 0, 0, 0, 1, 0, false⟩,
  ⟨"SEQ_A", 0x44, 1, 4, 0, 0, 0, 0, 0, 0, false⟩,
  ⟨"SEQ_B", 0x48, 1, 4, 0, 0, 0, 0, 0, 0, false⟩,
  ⟨"SLOT_ERR", 0x4c, 1, 4, 0, 0, 0, 0, 0, 0, false⟩,
  ⟨"IMG_CRC", 0x50, 1, 4, 0, 0, 0, 0, 0, 0, false⟩,
  ⟨"ERRSECT", 0x54, 1, 4, 0, 0, 0, 0, 0, 0, false⟩,
  ⟨"PRELOAD", 0x58, 1, 4, 0, 0, 0, 0, 0, 0, true⟩,
  ⟨"BADPRESS", 0x5c, 1, 4, 0, 0, 0, 0, 0, 0, false⟩,
  ⟨"T_STEP", 0x100, 9, 4, 0, 0, 0, 0, 0, 0, false⟩]
def regsBOOT : List RegDef := regsBOOT0
def regsCLKGEN0 : List RegDef := [
  ⟨"CTRL", 8, 1, 4, 1, 5, 0, 2, 0, 0, false⟩,
  ⟨"ISTAT", 0x10, 1, 4, 0, 0, 0x3f, 0, 0, 0, false⟩,
  ⟨"IEN", 0x14, 1, 4, 0, 0x3f, 0, 0, 0, 0, false⟩,
  ⟨"IFORCE", 0x18, 1, 4, 0, 0, 0, 0, 0x3f, 0, false⟩,
  ⟨"ERRCAP", 0x1c, 1, 4, 0, 0, 0x80000000, 0, 0, 0, false⟩,
  ⟨"PLLCTRL", 0x40, 1, 4, 1, 6, 0, 0, 0, 0, false⟩,
  ⟨"DOMGATE", 0x44, 1, 4, 0xf70, 0xfff, 0, 0, 0, 0, false⟩,
  ⟨"DOMRST", 0x48, 1, 4, 0xf70, 0xfff, 0, 0, 0, 0, false⟩,
  ⟨"LOCKCNT", 0x4c, 3, 4, 0, 0, 0, 0, 0, 0, false⟩,
  ⟨"LOL_CNT", 0x58, 1, 4, 0, 0, 0, 0, 0, 0, true⟩,
  ⟨"FMON", 0x100, 12, 4, 0, 0, 0, 0, 0, 0, false⟩]
def regsCLKGEN : List RegDef := regsCLKGEN0
def regsPLLM0 : List RegDef := [
  ⟨"CTRL", 8, 1, 4, 0, 5, 0, 2, 0, 0, false⟩,
  ⟨"ISTAT", 0x10, 1, 4, 0, 0, 0x3f, 0, 0, 0, false⟩,
  ⟨"IEN", 0x14, 1, 4, 0, 0x3f, 0, 0, 0, 0, false⟩,
  ⟨"IFORCE", 0x18, 1, 4, 0, 0, 0, 0, 0x3f, 0, false⟩,
  ⟨"ERRCAP", 0x1c, 1, 4, 0, 0, 0x80000000, 0, 0, 0, false⟩,
  ⟨"RATE", 0x40, 1, 4, 0x10, 0x13, 0, 0, 0, 0, false⟩,
  ⟨"RAMP", 0x44, 1, 4, 0x4e20000a, 0xffff00ff, 0, 0, 0, 0, false⟩,
  ⟨"RAMP_LEFT", 0x48, 1, 4, 0, 0, 0, 0, 0, 0, false⟩,
  ⟨"PSTEP", 0x4c, 1, 4, 0, 0, 0, 0, 0xffff, 0, false⟩,
  ⟨"PSTEP_SUM", 0x50, 1, 4, 0, 0, 0, 0, 0, 0, false⟩,
  ⟨"LOCKCNT", 0x54, 1, 4, 0, 0, 0, 0, 0, 0, false⟩,
  ⟨"LOL_CNT", 0x58, 1, 4, 0, 0, 0, 0, 0, 0, true⟩,
  ⟨"CFG", 0x5c, 1, 4, 0, 1, 0, 0, 0, 0, false⟩,
  ⟨"MCLKOUT", 0x60, 2, 4, 0, 0x80000003, 0, 0, 0, 0, false⟩,
  ⟨"WCLKOUT", 0x68, 2, 4, 0, 0xc0000fff, 0, 0, 0, 0, false⟩,
  ⟨"CALCMD", 0x70, 1, 4, 0, 0x100, 0, 1, 0, 0, false⟩,
  ⟨"CALSLOT", 0x100, 4, 4, 0, 0x40000000, 0, 0, 0, 0, false⟩]
def regsPLLM : List RegDef := regsPLLM0
def regsDPLL0 : List RegDef := [
  ⟨"CTRL", 8, 1, 4, 0, 5, 0, 2, 0, 0, false⟩,
  ⟨"ISTAT", 0x10, 1, 4, 0, 0, 0x7ff, 0, 0, 0, false⟩,
  ⟨"IEN", 0x14, 1, 4, 0, 0x7ff, 0, 0, 0, 0, false⟩,
  ⟨"IFORCE", 0x18, 1, 4, 0, 0, 0, 0, 0x7ff, 0, false⟩,
  ⟨"ERRCAP", 0x1c, 1, 4, 0, 0, 0x80000000, 0, 0, 0, false⟩,
  ⟨"CFG", 0x40, 1, 4, 0, 0xc7000000, 0, 0, 0, 0, false⟩,
  ⟨"PSLOPE", 0x44, 1, 4, 0x3e8, 0x1ffff, 0, 0, 0, 0, false⟩,
  ⟨"PSLOPE_INIT", 0x48, 1, 4, 0x186a0, 0x1ffff, 0, 0, 0, 0, false⟩,
  ⟨"STEER", 0x4c, 1, 4, 0, 0xffffffff, 0, 0, 0, 0, false⟩,
  ⟨"HOLDCFG", 0x50, 1, 4, 0x3c, 0xfff, 0, 0, 0, 0, false⟩,
  ⟨"SOAK", 0x54, 1, 4, 0x640014, 0xffffffff, 0, 0, 0, 0, false⟩,
  ⟨"TOL", 0x58, 1, 4, 0x138800c8, 0xffffffff, 0, 0, 0, 0, false⟩,
  ⟨"EQ_TOL", 0x5c, 1, 4, 0x64, 0xffff, 0, 0, 0, 0, false⟩,
  ⟨"WANDER", 0x60, 1, 4, 0x3e8000a, 0xffffffff, 0, 0, 0, 0, false⟩,
  ⟨"LOCKCFG", 0x64, 1, 4, 0x3203e8, 0xffffffff, 0, 0, 0, 0, false⟩,
  ⟨"DWELL", 0x68, 1, 4, 0x78140401, 0xffffffff, 0, 0, 0, 0, false⟩,
  ⟨"ALIGN", 0x6c, 1, 4, 0, 0x300, 0, 0xf, 0, 0, false⟩,
  ⟨"PHASE", 0x70, 1, 4, 0, 0, 0, 0, 0, 0, false⟩,
  ⟨"FREQ", 0x74, 1, 4, 0, 0, 0, 0, 0, 0, false⟩,
  ⟨"HO_FREQ", 0x78, 1, 4, 0, 0, 0, 0, 0, 0, false⟩]
def regsDPLL1 : List RegDef := [
  ⟨"HO_AGE", 0x7c, 1, 4, 0, 0, 0, 0, 0, 0, false⟩,
  ⟨"SWITCH_CNT", 0x80, 1, 4, 0, 0, 0, 0, 0, 0, true⟩,
  ⟨"REFCFG0", 0x100, 1, 4, 0xf010000, 0x8f0f0f10, 0, 0, 0, 0, false⟩,
  ⟨"REFCFG1", 0x104, 1, 4, 0xf010000, 0x8f0f0f10, 0, 0, 0, 0, false⟩,
  ⟨"REFCFG2", 0x108, 1, 4, 0xf070000, 0x8f0f0f10, 0, 0, 0, 0, false⟩,
  ⟨"REFCFG3", 0x10c, 1, 4, 0xf070000, 0x8f0f0f10, 0, 0, 0, 0, false⟩,
  ⟨"REFCFG4", 0x110, 1, 4, 0xf010000, 0x8f0f0f10, 0, 0, 0, 0, false⟩,
  ⟨"REFCFG5", 0x114, 1, 4, 0xf010000, 0x8f0f0f10, 0, 0, 0, 0, false⟩,
  ⟨"REFCFG6", 0x118, 1, 4, 0xf010000, 0x8f0f0f10, 0, 0, 0, 0, false⟩,
  ⟨"REFCFG7", 0x11c, 1, 4, 0xf010000, 0x8f0f0f10, 0, 0, 0, 0, false⟩,
  ⟨"REFSTAT", 0x120, 8, 4, 0, 0, 0, 0, 0, 0, false⟩,
  ⟨"REFFREQ", 0x140, 8, 4, 0, 0, 0, 0, 0, 0, false⟩,
  ⟨"REFPHASE", 0x160, 8, 4, 0, 0, 0, 0, 0, 0, false⟩]
def regsDPLL : List RegDef := regsDPLL0 ++ regsDPLL1
def regsTIMEBASE0 : List RegDef := [
  ⟨"CTRL", 8, 1, 4, 1, 5, 0, 2, 0, 0, false⟩,
  ⟨"ISTAT", 0x10, 1, 4, 0, 0, 0x3f, 0, 0, 0, false⟩,
  ⟨"IEN", 0x14, 1, 4, 0, 0x3f, 0, 0, 0, 0, false⟩,
  ⟨"IFORCE", 0x18, 1, 4, 0, 0, 0, 0, 0x3f, 0, false⟩,
  ⟨"ERRCAP", 0x1c, 1, 4, 0, 0, 0x80000000, 0, 0, 0, false⟩,
  ⟨"TACHCFG", 0x40, 1, 4, 0x21900, 0xfff07, 0, 0, 0, 0, false⟩,
  ⟨"WHEEL_PPR", 0x44, 1, 4, 0x63, 0xfff, 0, 0, 0, 0, false⟩,
  ⟨"WHEEL_CIRC", 0x48, 1, 4, 0x2b24a9, 0xffffffff, 0, 0, 0, 0, false⟩,
  ⟨"TACH_LIMIT", 0x4c, 1, 4, 0x30d40, 0x3ffff, 0, 0, 0, 0, false⟩,
  ⟨"TACH_TIMERS", 0x50, 1, 4, 0x7d001f4, 0xffffffff, 0, 0, 0, 0, false⟩,
  ⟨"SPEEDCFG", 0x54, 1, 4, 0x7d00010, 0xffff00ff, 0, 0, 0, 0, false⟩,
  ⟨"CNTCFG", 0x58, 1, 4, 0x1900, 0xff03, 0, 0, 0, 0, false⟩,
  ⟨"CNT_LIMIT", 0x5c, 1, 4, 0x3e8, 0x3ffff, 0, 0, 0, 0, false⟩,
  ⟨"CNT_TIMERS", 0x60, 1, 4, 0x138801f4, 0xffffffff, 0, 0, 0, 0, false⟩,
  ⟨"CORR_LO", 0x70, 1, 4, 0, 0, 0, 0, 0xffffffff, 0, false⟩,
  ⟨"CORR_HI", 0x74, 1, 4, 0, 0, 0, 0, 0xffff, 0, false⟩,
  ⟨"CORRCFG", 0x78, 1, 4, 0x322710, 0xffffff, 0, 0, 0, 0, false⟩,
  ⟨"CORR_LIMIT", 0x7c, 1, 4, 0x30d40, 0xffffffff, 0, 0, 0, 0, false⟩,
  ⟨"CORR_PEND_LO", 0x80, 1, 4, 0, 0, 0, 0, 0, 0, false⟩,
  ⟨"CORR_PEND_HI", 0x84, 1, 4, 0, 0, 0, 0, 0, 0, false⟩]
def regsTIMEBASE1 : List RegDef := [
  ⟨"POS_LOAD_LO", 0x88, 1, 4, 0, 0, 0, 0, 0xffffffff, 0, false⟩,
  ⟨"POS_LOAD_HI", 0x8c, 1, 4, 0, 0, 0, 0, 0xffff, 0, false⟩,
  ⟨"MEDIA_NOW_LO", 0x100, 1, 4, 0, 0, 0, 0, 0, 0, false⟩,
  ⟨"MEDIA_NOW_HI", 0x104, 1, 4, 0, 0, 0, 0, 0, 0, false⟩,
  ⟨"PTP_NOW_LO", 0x108, 1, 4, 0, 0, 0, 0, 0, 0, false⟩,
  ⟨"PTP_NOW_HI", 0x10c, 1, 4, 0, 0, 0, 0, 0, 0, false⟩,
  ⟨"POS_NOW_LO", 0x110, 1, 4, 0, 0, 0, 0, 0, 0, false⟩,
  ⟨"POS_NOW_HI", 0x114, 1, 4, 0, 0, 0, 0, 0, 0, false⟩,
  ⟨"CNT_NOW", 0x118, 1, 4, 0, 0, 0, 0, 0, 0, false⟩,
  ⟨"SPEED", 0x11c, 1, 4, 0, 0, 0, 0, 0, 0, false⟩,
  ⟨"PULSES", 0x120, 1, 4, 0, 0, 0, 0, 0, 0, true⟩]
def regsTIMEBASE : List RegDef := regsTIMEBASE0 ++ regsTIMEBASE1
def regsCOMPOSITOR0 : List RegDef := [
  ⟨"CTRL", 8, 1, 4, 1, 5, 0, 2, 0, 0, false⟩,
  ⟨"ISTAT", 0x10, 1, 4, 0, 0, 0x3f, 0, 0, 0, false⟩,
  ⟨"IEN", 0x14, 1, 4, 0, 0x3f, 0, 0, 0, 0, false⟩,
  ⟨"IFORCE", 0x18, 1, 4, 0, 0, 0, 0, 0x3f, 0, false⟩,
  ⟨"ERRCAP", 0x1c, 1, 4, 0, 0, 0x80000000, 0, 0, 0, false⟩,
  ⟨"CFG", 0x40, 1, 4, 0x1e000010, 0x3fff00ff, 0, 0, 0, 0, false⟩,
  ⟨"LATE_CNT", 0x44, 1, 4, 0, 0, 0, 0, 0, 0, true⟩,
  ⟨"DEFER_MAX", 0x48, 1, 4, 0, 0xffffffff, 0, 0, 0, 0, false⟩,
  ⟨"DROP_CNT", 0x4c, 1, 4, 0, 0, 0, 0, 0, 0, true⟩,
  ⟨"PEAK_PEND", 0x50, 1, 4, 0, 0xffffffff, 0, 0, 0, 0, false⟩,
  ⟨"NEXT_MEDIA_LO", 0x54, 1, 4, 0, 0, 0, 0, 0, 0, false⟩,
  ⟨"NEXT_MEDIA_HI", 0x58, 1, 4, 0, 0, 0, 0, 0, 0, false⟩,
  ⟨"PEND_AXIS", 0x100, 7, 4, 0, 0, 0, 0, 0, 0, false⟩]
def regsCOMPOSITOR : List RegDef := regsCOMPOSITOR0
def regsGALLEY0 : List RegDef := [
  ⟨"CTRL", 8, 1, 4, 1, 5, 0, 2, 0, 0, false⟩,
  ⟨"ISTAT", 0x10, 1, 4, 0, 0, 0xff, 0, 0, 0, false⟩,
  ⟨"IEN", 0x14, 1, 4, 0, 0xff, 0, 0, 0, 0, false⟩,
  ⟨"IFORCE", 0x18, 1, 4, 0, 0, 0, 0, 0xff, 0, false⟩,
  ⟨"ERRCAP", 0x1c, 1, 4, 0, 0, 0x80000000, 0, 0, 0, false⟩,
  ⟨"PROD", 0x44, 1, 4, 0, 0xffff, 0, 0, 0, 0, false⟩,
  ⟨"CONS", 0x48, 1, 4, 0, 0, 0, 0, 0, 0, false⟩,
  ⟨"RESP", 0x4c, 1, 4, 0, 0, 0, 0, 0, 0, false⟩,
  ⟨"CPROD", 0x50, 1, 4, 0, 0, 0, 0, 0, 0, true⟩,
  ⟨"TICKET_LAST", 0x54, 1, 4, 0, 0, 0, 0, 0, 0, false⟩,
  ⟨"TICKET_DONE", 0x58, 1, 4, 0, 0, 0, 0, 0, 0, false⟩,
  ⟨"ACC_CNT", 0x5c, 1, 4, 0, 0, 0, 0, 0, 0, true⟩,
  ⟨"REF_CNT", 0x60, 1, 4, 0, 0, 0, 0, 0, 0, true⟩,
  ⟨"DUP_CNT", 0x64, 1, 4, 0, 0, 0, 0, 0, 0, true⟩,
  ⟨"LAT_MAX", 0x68, 1, 4, 0, 0xffff, 0, 0, 0, 0, false⟩,
  ⟨"HEAP_FREE", 0x6c, 1, 4, 0, 0, 0, 0, 0, 0, false⟩,
  ⟨"CLIENT_RST", 0x70, 1, 4, 0, 0, 0, 0, 0xffff, 0, false⟩,
  ⟨"CLIENTCFG", 0x100, 16, 4, 0, 0, 0, 0, 0, 0xb00007fe, false⟩,
  ⟨"CLIENT_SEQ", 0x140, 16, 4, 0, 0, 0, 0, 0, 0, false⟩,
  ⟨"CLIENT_STAT", 0x180, 16, 4, 0, 0, 0, 0, 0, 0, false⟩]
def regsGALLEY : List RegDef := regsGALLEY0
def regsTWIN0 : List RegDef := [
  ⟨"CTRL", 8, 1, 4, 1, 5, 0, 2, 0, 0, false⟩,
  ⟨"ISTAT", 0x10, 1, 4, 0, 0, 0x3ff, 0, 0, 0, false⟩,
  ⟨"IEN", 0x14, 1, 4, 0, 0x3ff, 0, 0, 0, 0, false⟩,
  ⟨"IFORCE", 0x18, 1, 4, 0, 0, 0, 0, 0x3ff, 0, false⟩,
  ⟨"ERRCAP", 0x1c, 1, 4, 0, 0, 0x80000000, 0, 0, 0, false⟩,
  ⟨"CFG", 0x40, 1, 4, 0x40400a00, 0x40ffff00, 0, 0, 0, 0x8000000f, false⟩,
  ⟨"CMD", 0x44, 1, 4, 0, 0, 0, 0, 3, 0, false⟩,
  ⟨"FAILOVER_CNT", 0x48, 1, 4, 0, 0, 0, 0, 0, 0, true⟩,
  ⟨"MISMATCH_CNT", 0x4c, 1, 4, 0, 0, 0, 0, 0, 0, true⟩,
  ⟨"UNRES_CNT", 0x50, 1, 4, 0, 0, 0, 0, 0, 0, true⟩,
  ⟨"CELL_ERR_CNT", 0x54, 1, 4, 0, 0, 0, 0, 0, 0, true⟩,
  ⟨"RETX_CNT", 0x58, 1, 4, 0, 0, 0, 0, 0, 0, true⟩,
  ⟨"LINKDN_CNT", 0x5c, 1, 4, 0, 0, 0, 0, 0, 0, true⟩,
  ⟨"RESTART_CNT", 0x60, 1, 4, 0, 0, 0, 0, 0, 0, true⟩,
  ⟨"COPY_TIME", 0x64, 1, 4, 0, 0, 0, 0, 0, 0, false⟩,
  ⟨"CUT_LO", 0x68, 1, 4, 0, 0, 0, 0, 0, 0, false⟩,
  ⟨"CUT_HI", 0x6c, 1, 4, 0, 0, 0, 0, 0, 0, false⟩,
  ⟨"WARM_LEFT", 0x70, 1, 4, 0, 0, 0, 0, 0, 0, false⟩,
  ⟨"CRC_LOCAL", 0x74, 1, 4, 0, 0, 0, 0, 0, 0, false⟩,
  ⟨"CRC_PARTNER", 0x78, 1, 4, 0, 0, 0, 0, 0, 0, false⟩]
def regsTWIN1 : List RegDef := [
  ⟨"CRC_FRAME", 0x7c, 1, 4, 0, 0, 0, 0, 0, 0, false⟩,
  ⟨"DIFF_REGIONS", 0x80, 1, 4, 0, 0, 0, 0, 0, 0, false⟩,
  ⟨"MIRROR_TX", 0x100, 8, 4, 0, 0x83ff03ff, 0, 0, 0, 0, false⟩]
def regsTWIN : List RegDef := regsTWIN0 ++ regsTWIN1
def regsARB0 : List RegDef := [
  ⟨"CTRL", 8, 1, 4, 1, 5, 0, 2, 0, 0, false⟩,
  ⟨"ISTAT", 0x10, 1, 4, 0, 0, 0x3f, 0, 0, 0, false⟩,
  ⟨"IEN", 0x14, 1, 4, 0, 0x3f, 0, 0, 0, 0, false⟩,
  ⟨"IFORCE", 0x18, 1, 4, 0, 0, 0, 0, 0x3f, 0, false⟩,
  ⟨"ERRCAP", 0x1c, 1, 4, 0, 0, 0x80000000, 0, 0, 0, false⟩,
  ⟨"CFG", 0x40, 1, 4, 8, 0xff, 0, 0, 0, 0, false⟩,
  ⟨"STUCK_CFG", 0x44, 1, 4, 0x64, 0xffff, 0, 0, 0, 0, false⟩,
  ⟨"CHATTER_CFG", 0x48, 1, 4, 0x1001f4, 0xffffffff, 0, 0, 0, 0, false⟩,
  ⟨"LEASE_LEFT", 0x4c, 1, 4, 0, 0, 0, 0, 0, 0, false⟩,
  ⟨"HB_CNT", 0x50, 1, 4, 0, 0, 0, 0, 0, 0, true⟩,
  ⟨"GRANT_CNT", 0x54, 1, 4, 0, 0, 0, 0, 0, 0, true⟩,
  ⟨"EXPIRE_CNT", 0x58, 1, 4, 0, 0, 0, 0, 0, 0, true⟩]
def regsARB : List RegDef := regsARB0
def regsMATRIX0 : List RegDef := [
  ⟨"CTRL", 8, 1, 4, 1, 5, 0, 2, 0, 0, false⟩,
  ⟨"ISTAT", 0x10, 1, 4, 0, 0, 0x1f, 0, 0, 0, false⟩,
  ⟨"IEN", 0x14, 1, 4, 0, 0x1f, 0, 0, 0, 0, false⟩,
  ⟨"IFORCE", 0x18, 1, 4, 0, 0, 0, 0, 0x1f, 0, false⟩,
  ⟨"ERRCAP", 0x1c, 1, 4, 0, 0, 0x80000000, 0, 0, 0, false⟩,
  ⟨"CFG", 0x40, 1, 4, 0, 0, 0, 0, 0, 1, false⟩,
  ⟨"ERRMASTER", 0x44, 1, 4, 0, 0, 0, 0, 0, 0, false⟩,
  ⟨"DECERR_CNT", 0x48, 1, 4, 0, 0, 0, 0, 0, 0, true⟩,
  ⟨"FORCED_CNT", 0x4c, 1, 4, 0, 0, 0, 0, 0, 0, true⟩,
  ⟨"RIGHTS_CNT", 0x50, 1, 4, 0, 0, 0, 0, 0, 0, true⟩,
  ⟨"MCFG0", 0x100, 1, 4, 0x40000000, 0xc0000000, 0, 0, 0, 0, false⟩,
  ⟨"MCFG1", 0x104, 1, 4, 0x40000000, 0xc0000000, 0, 0, 0, 0, false⟩,
  ⟨"MCFG2", 0x108, 1, 4, 0xc8, 0xffff, 0, 0, 0, 0, false⟩,
  ⟨"MCFG3", 0x10c, 1, 4, 0x64, 0xffff, 0, 0, 0, 0, false⟩,
  ⟨"MCFG4", 0x110, 1, 4, 0x1f4, 0xffff, 0, 0, 0, 0, false⟩,
  ⟨"MCFG5", 0x114, 1, 4, 0x32, 0xffff, 0, 0, 0, 0, false⟩,
  ⟨"MCFG6", 0x118, 1, 4, 0, 0xc0000000, 0, 0, 0, 0, false⟩,
  ⟨"MCFG7", 0x11c, 1, 4, 0x64, 0xffff, 0, 0, 0, 0, false⟩,
  ⟨"GRANT_CNT", 0x120, 8, 4, 0, 0, 0, 0, 0, 0, true⟩,
  ⟨"WAIT_MAX", 0x140, 10, 4, 0, 0x7f, 0, 0, 0, 0, false⟩]
def regsMATRIX : List RegDef := regsMATRIX0
def regsDDRC0 : List RegDef := [
  ⟨"CTRL", 8, 1, 4, 0, 5, 0, 2, 0, 0, false⟩,
  ⟨"ISTAT", 0x10, 1, 4, 0, 0, 0x1ff, 0, 0, 0, false⟩,
  ⟨"IEN", 0x14, 1, 4, 0, 0x1ff, 0, 0, 0, 0, false⟩,
  ⟨"IFORCE", 0x18, 1, 4, 0, 0, 0, 0, 0x1ff, 0, false⟩,
  ⟨"ERRCAP", 0x1c, 1, 4, 0, 0, 0x80000000, 0, 0, 0, false⟩,
  ⟨"MEMCFG", 0x40, 1, 4, 1, 0x113, 0, 0, 0, 0, false⟩,
  ⟨"TIMING0", 0x44, 1, 4, 0x16101616, 0xffffffff, 0, 0, 0, 0, false⟩,
  ⟨"TIMING1", 0x48, 1, 4, 0x34220230, 0xffff0fff, 0, 0, 0, 0, false⟩,
  ⟨"APBASE", 0x4c, 1, 4, 0, 0x3fff, 0, 0, 0, 0, false⟩,
  ⟨"RTCFG", 0x50, 1, 4, 0x3c0005, 0xffff01ff, 0, 0, 0, 0, false⟩,
  ⟨"CECFG", 0x54, 1, 4, 0x40, 0xffff, 0, 0, 0, 0, false⟩,
  ⟨"TEMP_IN", 0x58, 1, 4, 0, 0xff, 0, 0, 0, 0, false⟩,
  ⟨"FAILS", 0x5c, 1, 4, 0, 0, 0, 0, 0, 0, true⟩,
  ⟨"CE_CNT", 0x60, 1, 4, 0, 0, 0, 0, 0, 0, true⟩,
  ⟨"RT_CNT", 0x64, 1, 4, 0, 0, 0, 0, 0, 0, true⟩,
  ⟨"RT_ABORT_CNT", 0x68, 1, 4, 0, 0, 0, 0, 0, 0, true⟩,
  ⟨"STAGE_MISS_CNT", 0x6c, 1, 4, 0, 0, 0, 0, 0, 0, true⟩,
  ⟨"REF_OWED", 0x70, 1, 4, 0, 0, 0, 0, 0, 0, false⟩,
  ⟨"RSV_SHARE", 0x74, 1, 4, 0, 0, 0, 0, 0, 0, false⟩,
  ⟨"PORTTGT0", 0x100, 1, 4, 0xc8, 0xffff, 0, 0, 0, 0, false⟩]
def regsDDRC1 : List RegDef := [
  ⟨"PORTTGT1", 0x104, 1, 4, 0xc8, 0xffff, 0, 0, 0, 0, false⟩,
  ⟨"PORTTGT2", 0x108, 1, 4, 0x64, 0xffff, 0, 0, 0, 0, false⟩,
  ⟨"PORTTGT3", 0x10c, 1, 4, 0x1388, 0xffff, 0, 0, 0, 0, false⟩,
  ⟨"PORTTGT4", 0x110, 1, 4, 0x32, 0xffff, 0, 0, 0, 0, false⟩,
  ⟨"PORTTGT5", 0x114, 1, 4, 0x64, 0xffff, 0, 0, 0, 0, false⟩,
  ⟨"PORTTGT6", 0x118, 1, 4, 0x2710, 0xffff, 0, 0, 0, 0, false⟩,
  ⟨"PORTTGT7", 0x11c, 1, 4, 0x1f4, 0xffff, 0, 0, 0, 0, false⟩,
  ⟨"PORTBW", 0x120, 8, 4, 0, 0, 0, 0, 0, 0, false⟩,
  ⟨"DLY_SEL", 0x140, 1, 4, 0, 0x3ff, 0, 0, 0, 0, false⟩,
  ⟨"DLY_COMMIT", 0x144, 1, 4, 0, 0, 0, 0, 1, 0, false⟩,
  ⟨"DLY_ENTRY0", 0x148, 1, 4, 0x20000000, 0xff1fffff, 0, 0, 0, 0, false⟩,
  ⟨"DLY_ENTRY1", 0x14c, 1, 4, 0, 0xfffffff, 0, 0, 0, 0, false⟩,
  ⟨"DLY_ENTRY2", 0x150, 1, 4, 0, 0x1fffff, 0, 0, 0, 0, false⟩,
  ⟨"DLY_ENTRY3", 0x154, 1, 4, 0, 0xfffff, 0, 0, 0, 0, false⟩,
  ⟨"DLY_ENTRY4", 0x158, 1, 4, 0, 0xfffff, 0, 0, 0, 0, false⟩]
def regsDDRC : List RegDef := regsDDRC0 ++ regsDDRC1
def regsDDRPHY0 : List RegDef := [
  ⟨"CTRL", 8, 1, 4, 1, 5, 0, 2, 0, 0, false⟩,
  ⟨"ISTAT", 0x10, 1, 4, 0, 0, 3, 0, 0, 0, false⟩,
  ⟨"IEN", 0x14, 1, 4, 0, 3, 0, 0, 0, 0, false⟩,
  ⟨"IFORCE", 0x18, 1, 4, 0, 0, 0, 0, 3, 0, false⟩,
  ⟨"ERRCAP", 0x1c, 1, 4, 0, 0, 0x80000000, 0, 0, 0, false⟩,
  ⟨"TRCFG", 0x40, 1, 4, 0x10, 0xff, 0, 0, 0, 0, false⟩,
  ⟨"TRAIN_TEMP", 0x44, 1, 4, 0, 0, 0, 0, 0, 0, false⟩,
  ⟨"TRAIN_TIME", 0x48, 1, 4, 0, 0, 0, 0, 0, 0, false⟩,
  ⟨"EYE", 0x100, 18, 4, 0, 0, 0, 0, 0, 0, false⟩,
  ⟨"DLY", 0x180, 18, 4, 0, 0, 0, 0, 0, 0, false⟩]
def regsDDRPHY : List RegDef := regsDDRPHY0
def regsECC0 : List RegDef := [
  ⟨"CTRL", 8, 1, 4, 1, 5, 0, 2, 0, 0, false⟩,
  ⟨"ISTAT", 0x10, 1, 4, 0, 0, 0xfb, 0, 0, 0, false⟩,
  ⟨"IEN", 0x14, 1, 4, 0, 0xfb, 0, 0, 0, 0, false⟩,
  ⟨"IFORCE", 0x18, 1, 4, 0, 0, 0, 0, 0xfb, 0, false⟩,
  ⟨"ERRCAP", 0x1c, 1, 4, 0, 0, 0x80000000, 0, 0, 0, false⟩,
  ⟨"CFG", 0x40, 1, 4, 3, 3, 0, 0, 0, 0, false⟩,
  ⟨"SKIMCFG", 0x44, 1, 4, 0x640064, 0xffffffff, 0, 0, 0, 0, false⟩,
  ⟨"FLIPCTRL", 0x48, 1, 4, 0, 0x173, 0, 0x80000000, 0, 0, false⟩,
  ⟨"FLIPADDR", 0x4c, 1, 4, 0, 0xfffffff, 0, 0, 0, 0, false⟩,
  ⟨"FLIPMASK_LO", 0x50, 1, 4, 0, 0xffffffff, 0, 0, 0, 0, false⟩,
  ⟨"FLIPMASK_MID", 0x54, 1, 4, 0, 0xffffffff, 0, 0, 0, 0, false⟩,
  ⟨"FLIPMASK_HI", 0x58, 1, 4, 0, 0xff, 0, 0, 0, 0, false⟩,
  ⟨"LAST_ADDR", 0x5c, 1, 4, 0, 0, 0, 0, 0, 0, false⟩,
  ⟨"LAST_SYND", 0x60, 1, 4, 0, 0, 0, 0, 0, 0, false⟩,
  ⟨"LAP_SRAM", 0x64, 1, 4, 0, 0, 0, 0, 0, 0, false⟩,
  ⟨"LAP_DRAM", 0x68, 1, 4, 0, 0, 0, 0, 0, 0, false⟩,
  ⟨"CE_CNT", 0x70, 4, 4, 0, 0, 0, 0, 0, 0, true⟩,
  ⟨"UE_CNT", 0x80, 4, 4, 0, 0, 0, 0, 0, 0, true⟩,
  ⟨"REPAIR", 0x90, 1, 4, 0, 0, 0, 0, 0, 0, false⟩,
  ⟨"REMAP_PL", 0x100, 4, 4, 0, 0, 0, 0, 0, 0x8fffffff, false⟩]
def regsECC1 : List RegDef := [
  ⟨"REMAP_SH", 0x110, 4, 4, 0, 0, 0, 0, 0, 0x8fffffff, false⟩,
  ⟨"REMAP_BS", 0x120, 4, 4, 0, 0, 0, 0, 0, 0x8fffffff, false⟩,
  ⟨"REMAP_DR", 0x140, 16, 4, 0, 0, 0, 0, 0, 0x8fffffff, false⟩]
def regsECC : List RegDef := regsECC0 ++ regsECC1
def regsPORTG0 : List RegDef := [
  ⟨"CTRL", 8, 1, 4, 0, 5, 0, 2, 0, 0, false⟩,
  ⟨"ISTAT", 0x10, 1, 4, 0, 0, 0x1ff, 0, 0, 0, false⟩,
  ⟨"IEN", 0x14, 1, 4, 0, 0x1ff, 0, 0, 0, 0, false⟩,
  ⟨"IFORCE", 0x18, 1, 4, 0, 0, 0, 0, 0x1ff, 0, false⟩,
  ⟨"ERRCAP", 0x1c, 1, 4, 0, 0, 0x80000000, 0, 0, 0, false⟩,
  ⟨"GCFG", 0x40, 1, 4, 0x10002170, 0xb0773374, 0, 0, 0, 0, false⟩,
  ⟨"TIMEOUT", 0x44, 1, 4, 0xa, 0xff, 0, 0, 0, 0, false⟩,
  ⟨"ALIGN", 0x48, 1, 4, 0, 0, 0, 0, 0, 0, false⟩,
  ⟨"RATE_MEAS", 0x4c, 1, 4, 0, 0, 0, 0, 0, 0, false⟩,
  ⟨"SLIP_CNT", 0x50, 1, 4, 0, 0, 0, 0, 0, 0, true⟩,
  ⟨"IN_DROP_CNT", 0x54, 1, 4, 0, 0, 0, 0, 0, 0, true⟩,
  ⟨"IN_REP_CNT", 0x58, 1, 4, 0, 0, 0, 0, 0, 0, true⟩,
  ⟨"OUT_DROP_CNT", 0x5c, 1, 4, 0, 0, 0, 0, 0, 0, true⟩,
  ⟨"OUT_REP_CNT", 0x60, 1, 4, 0, 0, 0, 0, 0, 0, true⟩,
  ⟨"STOP_CNT", 0x64, 1, 4, 0, 0, 0, 0, 0, 0, true⟩,
  ⟨"PORT", 0x100, 8, 4, 0, 0xf3ff03ff, 0, 0, 0, 0, false⟩,
  ⟨"INMASK", 0x120, 8, 4, 0xffffffff, 0xffffffff, 0, 0, 0, 0, false⟩,
  ⟨"OUTMASK", 0x140, 8, 4, 0xffffffff, 0xffffffff, 0, 0, 0, 0, false⟩,
  ⟨"ACT_INMASK", 0x160, 8, 4, 0, 0, 0, 0, 0, 0, false⟩,
  ⟨"ACT_OUTMASK", 0x180, 8, 4, 0, 0, 0, 0, 0, 0, false⟩]
def regsPORTG1 : List RegDef := [
  ⟨"PSTAT", 0x1a0, 8, 4, 0, 0, 0, 0, 0, 0, false⟩]
def regsPORTG : List RegDef := regsPORTG0 ++ regsPORTG1
def regsAES30 : List RegDef := [
  ⟨"CTRL", 8, 1, 4, 1, 5, 0, 2, 0, 0, false⟩,
  ⟨"ISTAT", 0x10, 1, 4, 0, 0, 0xf, 0, 0, 0, false⟩,
  ⟨"IEN", 0x14, 1, 4, 0, 0xf, 0, 0, 0, 0, false⟩,
  ⟨"IFORCE", 0x18, 1, 4, 0, 0, 0, 0, 0xf, 0, false⟩,
  ⟨"ERRCAP", 0x1c, 1, 4, 0, 0, 0x80000000, 0, 0, 0, false⟩,
  ⟨"REFSEL", 0x40, 1, 4, 0, 7, 0, 0, 0, 0, false⟩,
  ⟨"PARITY_CNT", 0x44, 1, 4, 0, 0, 0, 0, 0, 0, true⟩,
  ⟨"CRC_CNT", 0x48, 1, 4, 0, 0, 0, 0, 0, 0, true⟩,
  ⟨"BLOCK_CNT", 0x4c, 1, 4, 0, 0, 0, 0, 0, 0, true⟩,
  ⟨"PORTCFG", 0x100, 8, 4, 0x90000000, 0xf0000000, 0, 0x8000000, 0, 0, false⟩,
  ⟨"RXSTAT", 0x120, 8, 4, 0, 0, 0, 0, 0, 0, false⟩,
  ⟨"RXCS", 0x200, 96, 4, 0, 0, 0, 0, 0, 0, false⟩,
  ⟨"TXCS", 0x400, 96, 4, 0, 0xffffffff, 0, 0, 0, 0, false⟩,
  ⟨"RXUB", 0x600, 96, 4, 0, 0, 0, 0, 0, 0, false⟩,
  ⟨"TXUB", 0x800, 96, 4, 0, 0xffffffff, 0, 0, 0, 0, false⟩]
def regsAES3 : List RegDef := regsAES30
def regsASRC0 : List RegDef := [
  ⟨"CTRL", 8, 1, 4, 1, 5, 0, 2, 0, 0, false⟩,
  ⟨"ISTAT", 0x10, 1, 4, 0, 0, 7, 0, 0, 0, false⟩,
  ⟨"IEN", 0x14, 1, 4, 0, 7, 0, 0, 0, 0, false⟩,
  ⟨"IFORCE", 0x18, 1, 4, 0, 0, 0, 0, 7, 0, false⟩,
  ⟨"ERRCAP", 0x1c, 1, 4, 0, 0, 0x80000000, 0, 0, 0, false⟩,
  ⟨"LOCKSTAT", 0x40, 1, 4, 0, 0, 0, 0, 0, 0, false⟩,
  ⟨"UNLOCK_CNT", 0x44, 1, 4, 0, 0, 0, 0, 0, 0, true⟩,
  ⟨"CH", 0x100, 128, 4, 0, 0xb0003fff, 0, 0, 0, 0, false⟩,
  ⟨"RATIO", 0x300, 16, 4, 0, 0, 0, 0, 0, 0, false⟩]
def regsASRC : List RegDef := regsASRC0
def regsNET0 : List RegDef := [
  ⟨"CTRL", 8, 1, 4, 0, 5, 0, 2, 0, 0, false⟩,
  ⟨"ISTAT", 0x10, 1, 4, 0, 0, 7, 0, 0, 0, false⟩,
  ⟨"IEN", 0x14, 1, 4, 0, 7, 0, 0, 0, 0, false⟩,
  ⟨"IFORCE", 0x18, 1, 4, 0, 0, 0, 0, 7, 0, false⟩,
  ⟨"ERRCAP", 0x1c, 1, 4, 0, 0, 0x80000000, 0, 0, 0, false⟩,
  ⟨"CFG", 0x40, 1, 4, 0x100064, 0x8013ffff, 0, 0, 0, 0, false⟩,
  ⟨"MAC_LO", 0x44, 1, 4, 0, 0xffffffff, 0, 0, 0, 0, false⟩,
  ⟨"MAC_HI", 0x48, 1, 4, 0, 0xffff, 0, 0, 0, 0, false⟩,
  ⟨"IPADDR", 0x4c, 1, 4, 0, 0xffffffff, 0, 0, 0, 0, false⟩,
  ⟨"RX_PKT", 0x50, 1, 4, 0, 0, 0, 0, 0, 0, true⟩,
  ⟨"TX_PKT", 0x54, 1, 4, 0, 0, 0, 0, 0, 0, true⟩,
  ⟨"FCS_ERR", 0x58, 1, 4, 0, 0, 0, 0, 0, 0, true⟩,
  ⟨"DROP_CNT", 0x5c, 1, 4, 0, 0, 0, 0, 0, 0, true⟩,
  ⟨"LINKDN_CNT", 0x60, 1, 4, 0, 0, 0, 0, 0, 0, true⟩]
def regsNET : List RegDef := regsNET0
def regsSWITCH0 : List RegDef := [
  ⟨"CTRL", 8, 1, 4, 1, 5, 0, 2, 0, 0, false⟩,
  ⟨"ISTAT", 0x10, 1, 4, 0, 0, 0xf, 0, 0, 0, false⟩,
  ⟨"IEN", 0x14, 1, 4, 0, 0xf, 0, 0, 0, 0, false⟩,
  ⟨"IFORCE", 0x18, 1, 4, 0, 0, 0, 0, 0xf, 0, false⟩,
  ⟨"ERRCAP", 0x1c, 1, 4, 0, 0, 0x80000000, 0, 0, 0, false⟩,
  ⟨"CFG", 0x40, 1, 4, 1, 0xfff, 0, 0, 0, 0, false⟩,
  ⟨"PCPMAP", 0x44, 1, 4, 0xa80001aa, 0xeee0ffff, 0, 0, 0, 0, false⟩,
  ⟨"NODECFG", 0x48, 1, 4, 0, 0xff0fff, 0, 0, 0, 0, false⟩,
  ⟨"MGMT", 0x4c, 1, 4, 0x88b58001, 0xffffffff, 0, 0, 0, 0, false⟩,
  ⟨"MGMT_MCAST_LO", 0x50, 1, 4, 0x45530000, 0xffffffff, 0, 0, 0, 0, false⟩,
  ⟨"MGMT_MCAST_HI", 0x54, 1, 4, 0x300, 0xffff, 0, 0, 0, 0, false⟩,
  ⟨"TELCFG", 0x58, 1, 4, 0x3e8, 0xffff, 0, 0, 0, 0, false⟩,
  ⟨"IGMPCFG", 0x5c, 1, 4, 1, 3, 0, 0, 0, 0, false⟩,
  ⟨"AGE", 0x60, 1, 4, 0x12c, 0xffff, 0, 0, 0, 0, false⟩,
  ⟨"CT_CNT", 0x64, 1, 4, 0, 0, 0, 0, 0, 0, true⟩,
  ⟨"QDROP_A", 0x68, 1, 4, 0, 0, 0, 0, 0, 0, true⟩,
  ⟨"QDROP_B", 0x6c, 1, 4, 0, 0, 0, 0, 0, 0, true⟩,
  ⟨"QDROP_C", 0x70, 1, 4, 0, 0, 0, 0, 0, 0, true⟩,
  ⟨"MGMT_RX", 0x74, 1, 4, 0, 0, 0, 0, 0, 0, true⟩,
  ⟨"MGMT_DENY", 0x78, 1, 4, 0, 0, 0, 0, 0, 0, true⟩]
def regsSWITCH1 : List RegDef := [
  ⟨"MGMT_DROP", 0x7c, 1, 4, 0, 0, 0, 0, 0, 0, true⟩,
  ⟨"IGMP_OVF", 0x80, 1, 4, 0, 0, 0, 0, 0, 0, true⟩]
def regsSWITCH : List RegDef := regsSWITCH0 ++ regsSWITCH1
def regsPTP0 : List RegDef := [
  ⟨"CTRL", 8, 1, 4, 0, 0x35, 0, 2, 0, 0, false⟩,
  ⟨"ISTAT", 0x10, 1, 4, 0, 0, 0x7f, 0, 0, 0, false⟩,
  ⟨"IEN", 0x14, 1, 4, 0, 0x7f, 0, 0, 0, 0, false⟩,
  ⟨"IFORCE", 0x18, 1, 4, 0, 0, 0, 0, 0x7f, 0, false⟩,
  ⟨"ERRCAP", 0x1c, 1, 4, 0, 0, 0x80000000, 0, 0, 0, false⟩,
  ⟨"CFG", 0x40, 1, 4, 1, 0xff, 0, 0, 0, 0, false⟩,
  ⟨"TCCFG", 0x44, 1, 4, 0, 3, 0, 0, 0, 0, false⟩,
  ⟨"RXRING", 0x48, 1, 4, 0, 0xffffffff, 0, 0, 0, 0, false⟩,
  ⟨"TXRING", 0x4c, 1, 4, 0, 0xffffffff, 0, 0, 0, 0, false⟩,
  ⟨"RING_SZ", 0x50, 1, 4, 0, 0x303, 0, 0, 0, 0, false⟩,
  ⟨"RX_PROD", 0x54, 1, 4, 0, 0, 0, 0, 0, 0, false⟩,
  ⟨"RX_CONS", 0x58, 1, 4, 0, 0xffff, 0, 0, 0, 0, false⟩,
  ⟨"TX_PROD", 0x5c, 1, 4, 0, 0xffff, 0, 0, 0, 0, false⟩,
  ⟨"TX_CONS", 0x60, 1, 4, 0, 0, 0, 0, 0, 0, false⟩,
  ⟨"PORTADJ_RX", 0x64, 2, 4, 0, 0xffffffff, 0, 0, 0, 0, false⟩,
  ⟨"PORTADJ_TX", 0x6c, 2, 4, 0, 0xffffffff, 0, 0, 0, 0, false⟩,
  ⟨"LINKDLY", 0x74, 2, 4, 0, 0xffffffff, 0, 0, 0, 0, false⟩,
  ⟨"TIMECMD", 0x80, 1, 4, 0, 0x10, 0, 0, 3, 0, false⟩,
  ⟨"TIMESET_S_LO", 0x84, 1, 4, 0, 0xffffffff, 0, 0, 0, 0, false⟩,
  ⟨"TIMESET_S_HI", 0x88, 1, 4, 0, 0xffff, 0, 0, 0, 0, false⟩]
def regsPTP1 : List RegDef := [
  ⟨"TIMESET_NS", 0x8c, 1, 4, 0, 0xffffffff, 0, 0, 0, 0, false⟩,
  ⟨"OFFSET_LO", 0x90, 1, 4, 0, 0xffffffff, 0, 0, 0, 0, false⟩,
  ⟨"OFFSET_HI", 0x94, 1, 4, 0, 0xffffffff, 0, 0, 0, 0, false⟩,
  ⟨"SLEW_NS", 0x98, 1, 4, 0, 0xffffffff, 0, 0, 0, 0, false⟩,
  ⟨"SLEW_PPM", 0x9c, 1, 4, 0x64, 0x1ff, 0, 0, 0, 0, false⟩,
  ⟨"TIME0_NS", 0xa0, 1, 4, 0, 0, 0, 0, 0, 0, false⟩,
  ⟨"TIME0_S_LO", 0xa4, 1, 4, 0, 0, 0, 0, 0, 0, false⟩,
  ⟨"TIME0_S_HI", 0xa8, 1, 4, 0, 0, 0, 0, 0, 0, false⟩,
  ⟨"TIME0_FRAC", 0xac, 1, 4, 0, 0, 0, 0, 0, 0, false⟩,
  ⟨"TIME1_NS", 0xb0, 1, 4, 0, 0, 0, 0, 0, 0, false⟩,
  ⟨"TIME1_S_LO", 0xb4, 1, 4, 0, 0, 0, 0, 0, 0, false⟩,
  ⟨"TIME1_S_HI", 0xb8, 1, 4, 0, 0, 0, 0, 0, 0, false⟩,
  ⟨"TIME1_FRAC", 0xbc, 1, 4, 0, 0, 0, 0, 0, 0, false⟩,
  ⟨"TIME0_RATE", 0xc0, 1, 4, 0, 0xffffffff, 0, 0, 0, 0, false⟩,
  ⟨"TIME1_RATE", 0xc4, 1, 4, 0, 0xffffffff, 0, 0, 0, 0, false⟩,
  ⟨"RX_DROP", 0xc8, 1, 4, 0, 0, 0, 0, 0, 0, true⟩,
  ⟨"TX_ERR", 0xcc, 1, 4, 0, 0, 0, 0, 0, 0, true⟩,
  ⟨"TC_CNT", 0xd0, 1, 4, 0, 0, 0, 0, 0, 0, true⟩,
  ⟨"CF_SAT", 0xd4, 1, 4, 0, 0, 0, 0, 0, 0, true⟩,
  ⟨"STEP_CNT", 0xd8, 1, 4, 0, 0, 0, 0, 0, 0, true⟩]
def regsPTP : List RegDef := regsPTP0 ++ regsPTP1
def regsSTREAMRX0 : List RegDef := [
  ⟨"CTRL", 8, 1, 4, 1, 5, 0, 2, 0, 0, false⟩,
  ⟨"ISTAT", 0x10, 1, 4, 0, 0, 0x3f, 0, 0, 0, false⟩,
  ⟨"IEN", 0x14, 1, 4, 0, 0x3f, 0, 0, 0, 0, false⟩,
  ⟨"IFORCE", 0x18, 1, 4, 0, 0, 0, 0, 0x3f, 0, false⟩,
  ⟨"ERRCAP", 0x1c, 1, 4, 0, 0, 0x80000000, 0, 0, 0, false⟩,
  ⟨"CFG", 0x40, 1, 4, 0xa, 0xffff, 0, 0, 0, 0, false⟩,
  ⟨"RTP_OFS", 0x44, 1, 4, 0, 0xffffffff, 0, 0, 0, 0, false⟩,
  ⟨"SEL", 0x48, 1, 4, 0, 0xff, 0, 0, 0, 0, false⟩,
  ⟨"COMMIT", 0x4c, 1, 4, 0, 0, 0, 0, 1, 0, false⟩,
  ⟨"LATE_CNT", 0x50, 1, 4, 0, 0, 0, 0, 0, 0, true⟩,
  ⟨"EARLY_CNT", 0x54, 1, 4, 0, 0, 0, 0, 0, 0, true⟩,
  ⟨"FMT_CNT", 0x58, 1, 4, 0, 0, 0, 0, 0, 0, true⟩,
  ⟨"MERGE_CNT", 0x5c, 1, 4, 0, 0, 0, 0, 0, 0, true⟩,
  ⟨"STBY_MISS_CNT", 0x60, 1, 4, 0, 0, 0, 0, 0, 0, true⟩,
  ⟨"FCLK_RATIO", 0x80, 4, 4, 0, 0, 0, 0, 0, 0, false⟩,
  ⟨"FCLK_CFG", 0x90, 4, 4, 0, 0x800000ff, 0, 0, 0, 0, false⟩,
  ⟨"ENTRY0", 0x100, 1, 4, 0x2a086001, 0xff7fffe3, 0, 0, 0, 0, false⟩,
  ⟨"ENTRY1", 0x104, 1, 4, 0x700000, 0xfff003ff, 0, 0, 0, 0, false⟩,
  ⟨"ENTRY2", 0x108, 1, 4, 0, 0xffffffff, 0, 0, 0, 0, false⟩,
  ⟨"ENTRY3", 0x10c, 1, 4, 0, 0xffff0fff, 0, 0, 0, 0, false⟩]
def regsSTREAMRX1 : List RegDef := [
  ⟨"ENTRY4", 0x110, 1, 4, 0, 0xffffffff, 0, 0, 0, 0, false⟩,
  ⟨"ENTRY5", 0x114, 1, 4, 0, 0xffffffff, 0, 0, 0, 0, false⟩,
  ⟨"ENTRY6", 0x118, 1, 4, 0, 0xffff0fff, 0, 0, 0, 0, false⟩,
  ⟨"ENTRY7", 0x11c, 1, 4, 0, 0xffffffff, 0, 0, 0, 0, false⟩,
  ⟨"ENTRY8", 0x120, 1, 4, 0, 0xffffffff, 0, 0, 0, 0, false⟩,
  ⟨"ENTRY9", 0x124, 1, 4, 0, 0, 0, 0, 0, 0, false⟩,
  ⟨"FSTAT", 0x200, 64, 4, 0, 0, 0, 0, 0, 0, false⟩]
def regsSTREAMRX : List RegDef := regsSTREAMRX0 ++ regsSTREAMRX1
def regsSTREAMTX0 : List RegDef := [
  ⟨"CTRL", 8, 1, 4, 1, 5, 0, 2, 0, 0, false⟩,
  ⟨"ISTAT", 0x10, 1, 4, 0, 0, 7, 0, 0, 0, false⟩,
  ⟨"IEN", 0x14, 1, 4, 0, 7, 0, 0, 0, 0, false⟩,
  ⟨"IFORCE", 0x18, 1, 4, 0, 0, 0, 0, 7, 0, false⟩,
  ⟨"ERRCAP", 0x1c, 1, 4, 0, 0, 0x80000000, 0, 0, 0, false⟩,
  ⟨"SEL", 0x48, 1, 4, 0, 0xff, 0, 0, 0, 0, false⟩,
  ⟨"COMMIT", 0x4c, 1, 4, 0, 0, 0, 0, 1, 0, false⟩,
  ⟨"TX_PKT", 0x50, 1, 4, 0, 0, 0, 0, 0, 0, true⟩,
  ⟨"TXDROP_CNT", 0x54, 1, 4, 0, 0, 0, 0, 0, 0, true⟩,
  ⟨"ENTRY0", 0x100, 1, 4, 0x2a086001, 0xffffffe3, 0, 0, 0, 0, false⟩,
  ⟨"ENTRY1", 0x104, 1, 4, 0, 0x3ffffff, 0, 0, 0, 0, false⟩,
  ⟨"ENTRY2", 0x108, 1, 4, 0, 0xffffffff, 0, 0, 0, 0, false⟩,
  ⟨"ENTRY3", 0x10c, 1, 4, 0, 0xffffffff, 0, 0, 0, 0, false⟩,
  ⟨"ENTRY4", 0x110, 1, 4, 0, 0xffff0fff, 0, 0, 0, 0, false⟩,
  ⟨"ENTRY5", 0x114, 1, 4, 0, 0xffffffff, 0, 0, 0, 0, false⟩,
  ⟨"ENTRY6", 0x118, 1, 4, 0, 0xffff0fff, 0, 0, 0, 0, false⟩,
  ⟨"ENTRY7", 0x11c, 1, 4, 0x1388, 0xffff, 0, 0, 0, 0, false⟩,
  ⟨"ENTRY8", 0x120, 1, 4, 0, 0xffffffff, 0, 0, 0, 0, false⟩,
  ⟨"ENTRY9", 0x124, 1, 4, 0, 0, 0, 0, 0, 0, false⟩,
  ⟨"FSTAT", 0x200, 16, 4, 0, 0, 0, 0, 0, 0, false⟩]
def regsSTREAMTX : List RegDef := regsSTREAMTX0
def regsBASIN0 : List RegDef := [
  ⟨"CTRL", 8, 1, 4, 0, 5, 0, 2, 0, 0, false⟩,
  ⟨"ISTAT", 0x10, 1, 4, 0, 0, 0x7f, 0, 0, 0, false⟩,
  ⟨"IEN", 0x14, 1, 4, 0, 0x7f, 0, 0, 0, 0, false⟩,
  ⟨"IFORCE", 0x18, 1, 4, 0, 0, 0, 0, 0x7f, 0, false⟩,
  ⟨"ERRCAP", 0x1c, 1, 4, 0, 0, 0x80000000, 0, 0, 0, false⟩,
  ⟨"RECALL_CNT", 0x44, 1, 4, 0, 0, 0, 0, 0, 0, true⟩,
  ⟨"WAIT_CNT", 0x48, 1, 4, 0, 0, 0, 0, 0, 0, true⟩,
  ⟨"BUS_OVER_CNT", 0x4c, 1, 4, 0, 0, 0, 0, 0, 0, true⟩,
  ⟨"OUT_OVER_CNT", 0x50, 1, 4, 0, 0, 0, 0, 0, 0, true⟩,
  ⟨"LAND_LO", 0x54, 1, 4, 0, 0, 0, 0, 0, 0, false⟩,
  ⟨"LAND_HI", 0x58, 1, 4, 0, 0, 0, 0, 0, 0, false⟩,
  ⟨"MIRROR_CNT", 0x5c, 1, 4, 0, 0, 0, 0, 0, 0, true⟩,
  ⟨"CRC_CTRL", 0x60, 1, 4, 0, 0x10, 0, 1, 0, 0, false⟩,
  ⟨"CRC_VAL", 0x64, 1, 4, 0, 0, 0, 0, 0, 0, false⟩,
  ⟨"SLOT_PEAK", 0x68, 1, 4, 0, 0x3fff, 0, 0, 0, 0, false⟩]
def regsBASIN : List RegDef := regsBASIN0
def regsJET0 : List RegDef := [
  ⟨"CTRL", 8, 1, 4, 0, 5, 0, 2, 0, 0, false⟩,
  ⟨"ISTAT", 0x10, 1, 4, 0, 0, 0xf, 0, 0, 0, false⟩,
  ⟨"IEN", 0x14, 1, 4, 0, 0xf, 0, 0, 0, 0, false⟩,
  ⟨"IFORCE", 0x18, 1, 4, 0, 0, 0, 0, 0xf, 0, false⟩,
  ⟨"ERRCAP", 0x1c, 1, 4, 0, 0, 0x80000000, 0, 0, 0, false⟩,
  ⟨"CLIP_CNT", 0x40, 1, 4, 0, 0, 0, 0, 0, 0, true⟩,
  ⟨"PATH", 0x100, 64, 4, 0x14000000, 0xff0fffff, 0, 0, 0, 0, false⟩,
  ⟨"JGAIN", 0x200, 64, 4, 0, 0xffffffff, 0, 0, 0, 0, false⟩]
def regsJET : List RegDef := regsJET0
def regsSENSE0 : List RegDef := [
  ⟨"CTRL", 8, 1, 4, 1, 5, 0, 2, 0, 0, false⟩,
  ⟨"ISTAT", 0x10, 1, 4, 0, 0, 0x1f, 0, 0, 0, false⟩,
  ⟨"IEN", 0x14, 1, 4, 0, 0x1f, 0, 0, 0, 0, false⟩,
  ⟨"IFORCE", 0x18, 1, 4, 0, 0, 0, 0, 0x1f, 0, false⟩,
  ⟨"ERRCAP", 0x1c, 1, 4, 0, 0, 0x80000000, 0, 0, 0, false⟩,
  ⟨"CFG", 0x40, 1, 4, 0, 0xffff, 0, 0, 0, 0, false⟩,
  ⟨"ACTCFG", 0x44, 1, 4, 0xf00000, 0, 0, 0, 0, 0xb0f00000, false⟩,
  ⟨"EVT_PROD", 0x48, 1, 4, 0, 0, 0, 0, 0, 0, false⟩,
  ⟨"EVT_CONS", 0x4c, 1, 4, 0, 0xffff, 0, 0, 0, 0, false⟩,
  ⟨"EVT_LOST", 0x50, 1, 4, 0, 0, 0, 0, 0, 0, true⟩,
  ⟨"RATE_DROP_CNT", 0x54, 1, 4, 0, 0, 0, 0, 0, 0, true⟩,
  ⟨"ACT_CNT", 0x58, 1, 4, 0, 0, 0, 0, 0, 0, true⟩,
  ⟨"ACT_REF_CNT", 0x5c, 1, 4, 0, 0, 0, 0, 0, 0, true⟩,
  ⟨"ACT_LAST", 0x60, 1, 4, 0, 0, 0, 0, 0, 0, false⟩,
  ⟨"ACT_TICKET", 0x64, 1, 4, 0, 0, 0, 0, 0, 0, false⟩,
  ⟨"INCFG", 0x100, 8, 4, 0x14640a0a, 0xffffffff, 0, 0, 0, 0, false⟩,
  ⟨"LEVEL", 0x120, 8, 4, 0, 0, 0, 0, 0, 0, false⟩,
  ⟨"BAND0", 0x140, 1, 4, 0x6330, 0xffffffff, 0, 0, 0, 0, false⟩,
  ⟨"BAND1", 0x144, 1, 4, 0xfa0fff40, 0xffffffff, 0, 0, 0, 0, false⟩,
  ⟨"BAND2", 0x148, 1, 4, 0xe74f3b10, 0xffffffff, 0, 0, 0, 0, false⟩]
def regsSENSE1 : List RegDef := [
  ⟨"BAND3", 0x14c, 1, 4, 0x960a8b20, 0xffffffff, 0, 0, 0, 0, false⟩,
  ⟨"BAND4", 0x150, 1, 4, 0x5dc70721, 0xffffffff, 0, 0, 0, 0, false⟩,
  ⟨"BAND5", 0x154, 1, 4, 0xbb8ce324, 0xffffffff, 0, 0, 0, 0, false⟩,
  ⟨"BAND6", 0x158, 1, 4, 0x8348fb25, 0xffffffff, 0, 0, 0, 0, false⟩,
  ⟨"BAND7", 0x15c, 1, 4, 0x4b057728, 0xffffffff, 0, 0, 0, 0, false⟩,
  ⟨"BAND8", 0x160, 1, 4, 0x2bc38329, 0xffffffff, 0, 0, 0, 0, false⟩,
  ⟨"BAND9", 0x164, 1, 4, 0xd48e0f2c, 0xffffffff, 0, 0, 0, 0, false⟩,
  ⟨"BAND10", 0x168, 1, 4, 0x1902572d, 0xffffffff, 0, 0, 0, 0, false⟩,
  ⟨"BAND11", 0x16c, 1, 4, 0, 0xffffffff, 0, 0, 0, 0, false⟩,
  ⟨"BAND12", 0x170, 1, 4, 0, 0xffffffff, 0, 0, 0, 0, false⟩,
  ⟨"BAND13", 0x174, 1, 4, 0, 0xffffffff, 0, 0, 0, 0, false⟩,
  ⟨"BAND14", 0x178, 1, 4, 0, 0xffffffff, 0, 0, 0, 0, false⟩,
  ⟨"BAND15", 0x17c, 1, 4, 0, 0xffffffff, 0, 0, 0, 0, false⟩,
  ⟨"ACTMAP", 0x180, 16, 4, 0, 0xcfffffff, 0, 0, 0, 0, false⟩,
  ⟨"EVT", 0x400, 128, 4, 0, 0, 0, 0, 0, 0, false⟩,
  ⟨"ACTION", 0x600, 128, 4, 0, 0xffffffff, 0, 0, 0, 0, false⟩]
def regsSENSE : List RegDef := regsSENSE0 ++ regsSENSE1
def regsGPIO0 : List RegDef := [
  ⟨"CTRL", 8, 1, 4, 1, 5, 0, 2, 0, 0, false⟩,
  ⟨"ISTAT", 0x10, 1, 4, 0, 0, 3, 0, 0, 0, false⟩,
  ⟨"IEN", 0x14, 1, 4, 0, 3, 0, 0, 0, 0, false⟩,
  ⟨"IFORCE", 0x18, 1, 4, 0, 0, 0, 0, 3, 0, false⟩,
  ⟨"ERRCAP", 0x1c, 1, 4, 0, 0, 0x80000000, 0, 0, 0, false⟩,
  ⟨"PPSCFG", 0x40, 1, 4, 0x2000bb7f, 0xe003ffff, 0, 0, 0, 0, false⟩,
  ⟨"PPSWIDTH", 0x44, 1, 4, 0x64, 0x3ff, 0, 0, 0, 0, false⟩,
  ⟨"BMARKCFG", 0x48, 1, 4, 7, 0xc0000fff, 0, 0, 0, 0, false⟩,
  ⟨"SPARE_DIR", 0x4c, 1, 4, 0, 0xf, 0, 0, 0, 0, false⟩,
  ⟨"SPARE_OUT", 0x50, 1, 4, 0, 0xf, 0, 0, 0, 0, false⟩,
  ⟨"PINS", 0x54, 1, 4, 0, 0, 0, 0, 0, 0, false⟩]
def regsGPIO : List RegDef := regsGPIO0
def regsPRESS0 : List RegDef := [
  ⟨"CTRL", 8, 1, 4, 0x6000, 0xe09d, 0, 0x102, 0, 0, false⟩,
  ⟨"ISTAT", 0x10, 1, 4, 0, 0, 0x7e, 0, 0, 0, false⟩,
  ⟨"IEN", 0x14, 1, 4, 0, 0x7e, 0, 0, 0, 0, false⟩,
  ⟨"IFORCE", 0x18, 1, 4, 0, 0, 0, 0, 0x7e, 0, false⟩,
  ⟨"ERRCAP", 0x1c, 1, 4, 0, 0, 0x80000000, 0, 0, 0, false⟩,
  ⟨"INRANGE", 0x40, 4, 4, 0, 0x87ff03ff, 0, 0, 0, 0, false⟩,
  ⟨"IRING_BASE", 0x50, 1, 4, 0, 0xfffff, 0, 0, 0, 0, false⟩,
  ⟨"IRING_DEPTH", 0x54, 1, 4, 0, 0x7f, 0, 0, 0, 0, false⟩,
  ⟨"ORING_BASE", 0x58, 1, 4, 0, 0xfffff, 0, 0, 0, 0, false⟩,
  ⟨"ORING_DEPTH", 0x5c, 1, 4, 0, 0x7f, 0, 0, 0, 0, false⟩,
  ⟨"MSG_BASE", 0x60, 1, 4, 0, 0xfffff, 0, 0, 0, 0, false⟩,
  ⟨"MSG_SIZE", 0x64, 1, 4, 9, 0xf, 0, 0, 0, 0, false⟩,
  ⟨"MSG_PEND", 0x68, 1, 4, 0, 0, 0, 0, 0, 0, false⟩,
  ⟨"BUDGET", 0x6c, 1, 4, 0, 0, 0, 0, 0, 0, false⟩,
  ⟨"LOAD", 0x70, 1, 4, 0, 0, 0, 0, 0, 0, false⟩,
  ⟨"LOAD_PEAK", 0x74, 1, 4, 0, 0x3ffff, 0, 0, 0, 0, false⟩,
  ⟨"OVR_CNT", 0x78, 1, 4, 0, 0, 0, 0, 0, 0, true⟩,
  ⟨"STARVE_CNT", 0x7c, 1, 4, 0, 0, 0, 0, 0, 0, true⟩,
  ⟨"STARVE_CFG", 0x80, 1, 4, 0x200, 0xffff, 0, 0, 0, 0, false⟩,
  ⟨"SIGNAL", 0x84, 1, 4, 0, 0, 0, 0, 0, 0, false⟩]
def regsPRESS1 : List RegDef := [
  ⟨"FAULTINFO", 0x88, 1, 4, 0, 0, 0, 0, 0, 0, false⟩,
  ⟨"BRK", 0x8c, 1, 4, 0, 0x80001fff, 0, 0, 0, 0, false⟩,
  ⟨"MIRROR_CNT", 0x90, 1, 4, 0, 0, 0, 0, 0, 0, true⟩,
  ⟨"DREG", 0x100, 16, 4, 0, 0, 0, 0, 0, 0, false⟩,
  ⟨"ACREG", 0x140, 12, 4, 0, 0, 0, 0, 0, 0, false⟩,
  ⟨"AREG", 0x180, 32, 4, 0, 0, 0, 0, 0, 0, false⟩,
  ⟨"PCREG", 0x200, 1, 4, 0, 0, 0, 0, 0, 0, false⟩,
  ⟨"SRREG", 0x204, 1, 4, 0, 0, 0, 0, 0, 0, false⟩,
  ⟨"LREG", 0x208, 6, 4, 0, 0, 0, 0, 0, 0, false⟩,
  ⟨"RSTK_PC", 0x220, 8, 4, 0, 0, 0, 0, 0, 0, false⟩,
  ⟨"RSTK_SR", 0x240, 8, 4, 0, 0, 0, 0, 0, 0, false⟩,
  ⟨"RSTK_DEPTH", 0x260, 1, 4, 0, 0, 0, 0, 0, 0, false⟩]
def regsPRESS : List RegDef := regsPRESS0 ++ regsPRESS1
def regsMETER0 : List RegDef := [
  ⟨"CTRL", 8, 1, 4, 1, 5, 0, 2, 0, 0, false⟩,
  ⟨"ISTAT", 0x10, 1, 4, 0, 0, 1, 0, 0, 0, false⟩,
  ⟨"IEN", 0x14, 1, 4, 0, 1, 0, 0, 0, 0, false⟩,
  ⟨"IFORCE", 0x18, 1, 4, 0, 0, 0, 0, 1, 0, false⟩,
  ⟨"ERRCAP", 0x1c, 1, 4, 0, 0, 0x80000000, 0, 0, 0, false⟩,
  ⟨"CFG", 0x40, 1, 4, 0x12c, 0xffffffff, 0, 0, 0, 0, false⟩,
  ⟨"ZONE_AMB", 0x100, 64, 4, 0, 0, 0, 0, 0, 0, false⟩,
  ⟨"ZONE_OFF", 0x200, 64, 4, 0, 0, 0, 0, 0, 0, false⟩,
  ⟨"ZONE_GAP", 0x300, 4, 4, 0, 0, 0, 0, 0, 0, false⟩]
def regsMETER : List RegDef := regsMETER0
def regsRECORDER0 : List RegDef := [
  ⟨"CTRL", 8, 1, 4, 1, 5, 0, 2, 0, 0, false⟩,
  ⟨"ISTAT", 0x10, 1, 4, 0, 0, 0xf, 0, 0, 0, false⟩,
  ⟨"IEN", 0x14, 1, 4, 0, 0xf, 0, 0, 0, 0, false⟩,
  ⟨"IFORCE", 0x18, 1, 4, 0, 0, 0, 0, 0xf, 0, false⟩,
  ⟨"ERRCAP", 0x1c, 1, 4, 0, 0, 0x80000000, 0, 0, 0, false⟩,
  ⟨"FREEZE", 0x40, 1, 4, 0, 0, 0, 0, 0xffffffff, 0, false⟩,
  ⟨"BUF_LEVEL", 0x44, 1, 4, 0, 0, 0, 0, 0, 0, false⟩,
  ⟨"BUF_PEAK", 0x48, 1, 4, 0, 0x1fffff, 0, 0, 0, 0, false⟩,
  ⟨"LOSS_CNT", 0x4c, 1, 4, 0, 0, 0, 0, 0, 0, true⟩,
  ⟨"SEGTKT", 0x100, 64, 4, 0, 0, 0, 0, 0, 0, false⟩,
  ⟨"SEGPOS", 0x200, 64, 4, 0, 0, 0, 0, 0, 0, false⟩]
def regsRECORDER : List RegDef := regsRECORDER0
def regsPLAYER0 : List RegDef := [
  ⟨"CTRL", 8, 1, 4, 1, 5, 0, 2, 0, 0, false⟩,
  ⟨"ISTAT", 0x10, 1, 4, 0, 0, 0x1f, 0, 0, 0, false⟩,
  ⟨"IEN", 0x14, 1, 4, 0, 0x1f, 0, 0, 0, 0, false⟩,
  ⟨"IFORCE", 0x18, 1, 4, 0, 0, 0, 0, 0x1f, 0, false⟩,
  ⟨"ERRCAP", 0x1c, 1, 4, 0, 0, 0x80000000, 0, 0, 0, false⟩,
  ⟨"CFG", 0x40, 1, 4, 0x100, 0x1ff, 0, 0, 0, 0, false⟩,
  ⟨"DIR_BASE", 0x44, 1, 4, 0, 0xfffffff, 0, 0, 0, 0, false⟩,
  ⟨"DIR_COUNT", 0x48, 1, 4, 0, 0x1fff, 0, 0, 0, 0, false⟩,
  ⟨"MISS_CNT", 0x4c, 1, 4, 0, 0, 0, 0, 0, 0, true⟩,
  ⟨"VSTAT", 0x100, 256, 4, 0, 0, 0, 0, 0, 0, false⟩,
  ⟨"VTKT", 0x500, 256, 4, 0, 0, 0, 0, 0, 0, false⟩]
def regsPLAYER : List RegDef := regsPLAYER0
def regsINTC0 : List RegDef := [
  ⟨"CTRL", 8, 1, 4, 1, 5, 0, 2, 0, 0, false⟩,
  ⟨"ISTAT", 0x10, 1, 4, 0, 0, 0, 0, 0, 0, false⟩,
  ⟨"IEN", 0x14, 1, 4, 0, 0, 0, 0, 0, 0, false⟩,
  ⟨"IFORCE", 0x18, 1, 4, 0, 0, 0, 0, 0, 0, false⟩,
  ⟨"ERRCAP", 0x1c, 1, 4, 0, 0, 0x80000000, 0, 0, 0, false⟩,
  ⟨"CFG", 0x40, 1, 4, 1, 1, 0, 0, 0, 0, false⟩,
  ⟨"ALMSRC", 0x44, 1, 4, 0, 0, 0xfff, 0, 0, 0, false⟩,
  ⟨"ALMSRC_EN", 0x48, 1, 4, 0xff8, 0xfff, 0, 0, 0, 0, false⟩,
  ⟨"PEND_LO", 0x100, 1, 4, 0, 0, 0, 0, 0, 0, false⟩,
  ⟨"PEND_HI", 0x104, 1, 4, 0, 0, 0, 0, 0, 0, false⟩,
  ⟨"INT_EN_LO", 0x108, 1, 4, 0, 0xffffffff, 0, 0, 0, 0, false⟩,
  ⟨"INT_EN_HI", 0x10c, 1, 4, 0, 0xffffffff, 0, 0, 0, 0, false⟩,
  ⟨"ALM_EN_LO", 0x110, 1, 4, 0, 0xffffffff, 0, 0, 0, 0, false⟩,
  ⟨"ALM_EN_HI", 0x114, 1, 4, 0, 0xffffffff, 0, 0, 0, 0, false⟩]
def regsINTC : List RegDef := regsINTC0
def regsMON0 : List RegDef := [
  ⟨"CTRL", 8, 1, 4, 1, 5, 0, 2, 0, 0, false⟩,
  ⟨"ISTAT", 0x10, 1, 4, 0, 0, 7, 0, 0, 0, false⟩,
  ⟨"IEN", 0x14, 1, 4, 0, 7, 0, 0, 0, 0, false⟩,
  ⟨"IFORCE", 0x18, 1, 4, 0, 0, 0, 0, 7, 0, false⟩,
  ⟨"ERRCAP", 0x1c, 1, 4, 0, 0, 0x80000000, 0, 0, 0, false⟩,
  ⟨"TEMP", 0x40, 1, 4, 0, 0, 0, 0, 0, 0, false⟩,
  ⟨"TEMP_MIN", 0x44, 1, 4, 0, 0, 0, 0, 0, 0, false⟩,
  ⟨"TEMP_MAX", 0x48, 1, 4, 0, 0, 0, 0, 0, 0, false⟩,
  ⟨"TEMPCFG", 0x4c, 1, 4, 0x7305, 0xffff, 0, 0x80000000, 0, 0, false⟩,
  ⟨"VOLT", 0x100, 9, 4, 0, 0, 0, 0, 0, 0, false⟩]
def regsMON : List RegDef := regsMON0
def regsOTP0 : List RegDef := [
  ⟨"CTRL", 8, 1, 4, 1, 5, 0, 2, 0, 0, false⟩,
  ⟨"ISTAT", 0x10, 1, 4, 0, 0, 0, 0, 0, 0, false⟩,
  ⟨"IEN", 0x14, 1, 4, 0, 0, 0, 0, 0, 0, false⟩,
  ⟨"IFORCE", 0x18, 1, 4, 0, 0, 0, 0, 0, 0, false⟩,
  ⟨"ERRCAP", 0x1c, 1, 4, 0, 0, 0x80000000, 0, 0, 0, false⟩,
  ⟨"CFG", 0x40, 1, 4, 0, 0, 0, 0, 0, 0, false⟩,
  ⟨"SLOTB", 0x44, 1, 4, 0, 0, 0, 0, 0, 0, false⟩,
  ⟨"KEYHASH", 0x100, 8, 4, 0, 0, 0, 0, 0, 0, false⟩,
  ⟨"COLREP", 0x120, 16, 4, 0, 0, 0, 0, 0, 0, false⟩,
  ⟨"PROGADDR", 0x200, 1, 4, 0, 0, 0, 0, 0, 0xff, false⟩,
  ⟨"PROGDATA", 0x204, 1, 4, 0, 0, 0, 0, 0, 0xffffffff, false⟩,
  ⟨"PROGCMD", 0x208, 1, 4, 0, 0, 0, 1, 0, 0, false⟩]
def regsOTP : List RegDef := regsOTP0

/-- The rows of page `p`; none for a reserved page (R476). -/
def pageRegs (p : Nat) : List RegDef :=
  if p = 0 then regsSYS else
  if p = 1 then regsPROT else
  if p = 2 then regsHOSTIF else
  if p = 3 then regsBOOT else
  if p = 4 then regsCLKGEN else
  if p = 5 then regsPLLM else
  if p = 6 then regsDPLL else
  if p = 7 then regsTIMEBASE else
  if p = 8 then regsCOMPOSITOR else
  if p = 9 then regsGALLEY else
  if p = 10 then regsTWIN else
  if p = 11 then regsARB else
  if p = 12 then regsMATRIX else
  if p = 13 then regsDDRC else
  if p = 14 then regsDDRPHY else
  if p = 15 then regsECC else
  if 16 ≤ p ∧ p ≤ 19 then regsPORTG else
  if p = 20 then regsAES3 else
  if p = 21 then regsASRC else
  if 22 ≤ p ∧ p ≤ 23 then regsNET else
  if p = 24 then regsSWITCH else
  if p = 25 then regsPTP else
  if p = 26 then regsSTREAMRX else
  if p = 27 then regsSTREAMTX else
  if p = 28 then regsBASIN else
  if p = 29 then regsJET else
  if p = 30 then regsSENSE else
  if p = 31 then regsGPIO else
  if 32 ≤ p ∧ p ≤ 47 then regsPRESS else
  if p = 48 then regsMETER else
  if p = 49 then regsRECORDER else
  if p = 50 then regsPLAYER else
  if p = 51 then regsINTC else
  if p = 52 then regsMON else
  if p = 53 then regsOTP else
  []

end Sys2Proof.Machine
end

