-- ==== Sys2Proof/Machine/Sparse.lean ====
section
/-!
DEFINITION. Sparse storage: a list of (key, value) pairs with keys strictly rising and no entry equal to what an unlisted
key reads as. Registers, memory and the Cistern are held in this one canonical form.
-/

namespace Sys2Proof.Machine

/-- What key `k` reads as, an unlisted key reading as `d k`. -/
def spGet {V : Type} (d : Nat → V) : List (Nat × V) → Nat → V
  | [], k => d k
  | (a, v) :: t, k => if k = a then v else spGet d t k

/-- The list after key `k` takes value `v`: an entry equal to the default is removed. -/
def spSet {V : Type} [DecidableEq V] (d : Nat → V) : List (Nat × V) → Nat → V → List (Nat × V)
  | [], k, v => if v = d k then [] else [(k, v)]
  | (a, w) :: t, k, v =>
    if k < a then (if v = d k then (a, w) :: t else (k, v) :: (a, w) :: t)
    else if k = a then (if v = d k then t else (k, v) :: t)
    else (a, w) :: spSet d t k v

/-- Every key of the list is above `k`. -/
def spAbove {V : Type} (k : Nat) : List (Nat × V) → Bool
  | [] => true
  | (a, _) :: t => decide (k < a) && spAbove k t

/-- The canonical form: keys strictly rising, no entry equal to its default. -/
def spWf {V : Type} [DecidableEq V] (d : Nat → V) : List (Nat × V) → Bool
  | [] => true
  | (a, v) :: t => decide (v ≠ d a) && spAbove a t && spWf d t

/-- The list without the keys for which `p` holds. -/
def spDrop {V : Type} (p : Nat → Bool) : List (Nat × V) → List (Nat × V)
  | [] => []
  | (a, v) :: t => if p a then spDrop p t else (a, v) :: spDrop p t

end Sys2Proof.Machine
end

