-- ==== Sys2Proof/Machine/StCist.lean ====
section
/-!
DEFINITION. The state of the Cistern: controller, training, delay lines, reserve, Recorder and Player (chapters 01 and 13).
Plain data. The Cistern bytes themselves are `State.cist`.
-/

namespace Sys2Proof.Machine

/-- Table 13-2. -/
inductive CState where
  | off | training | normal | degraded | lost
  deriving DecidableEq, Repr

def CState.code : CState → Nat
  | .off => 0 | .training => 1 | .normal => 2 | .degraded => 4 | .lost => 5

/-- A bank of a rank (R375): history counter, last-used row, whether that row is open, and the time of the last access. -/
structure BankSt where
  h    : Nat
  row  : Nat
  opn  : Bool
  t    : Nat
  deriving DecidableEq, Repr

/-- A periodic retrain (R378): its start and the slices run. -/
structure Retrain where
  start  : Nat
  slices : Nat
  deriving DecidableEq, Repr

/-- A delay-line entry that has been committed (R382): its five words; the first input frame that it holds; and the read
points, oldest first, each with the frame from which it counts (R384). `rsvFrom` is the first input frame that its ring in
the reserve holds. -/
structure DLine where
  i       : Nat
  e0      : Word
  e1      : Word
  e2      : Word
  e3      : Word
  e4      : Word
  from_   : Nat
  points  : List (Nat × Nat)
  rsvFrom : Nat
  deriving DecidableEq, Repr

/-- A Recorder segment that is accepted and not complete (R388, R389). -/
structure RecSeg where
  ticket : Word
  kind   : Nat
  loop   : Bool
  fmt24  : Bool
  count  : Nat
  first  : Nat
  length : Nat
  base   : Nat
  post   : Nat
  tracks : List Nat
  /-- Landing frame, and the frame on which a freeze landed. -/
  start  : Option Nat
  froze  : Option Nat
  deriving DecidableEq, Repr

/-- A running announcement of a voice (R391, R392). -/
structure VoiceRun where
  v      : Nat
  ticket : Word
  ann    : Nat
  dest   : Nat
  level  : Int
  fadeIn : Nat
  stopL  : Nat
  loop   : Bool
  start  : Nat
  line   : Nat
  length : Nat
  fmt24  : Bool
  /-- First frame of its stop fade, and the STOP_PLAY entries that end with it. -/
  stop   : Option Nat
  stops  : List Word
  deriving DecidableEq, Repr

structure CistSt where
  st       : CState
  retrain  : Option Retrain
  /-- Start of the last retrain, and the settings that a successful one applies at the next refresh (R378). -/
  rtT      : Nat
  pend     : Option (List LaneEye)
  trained  : Bool
  failMask : Nat
  /-- The temperature of the last success, °C, and whether there has been one. -/
  trainTemp : Int
  /-- Correctable errors in the 1 s window in progress, when it began, and bytes moved in it by port (R380, R396). -/
  ceNow    : Nat
  ceT      : Nat
  bw       : List Nat
  owed     : List Nat
  banks    : List BankSt
  lines    : List DLine
  /-- Commits that the host wrote in SOLO: they act on the next frame (R23, R382). -/
  commits  : List (Nat × List Word)
  /-- Class A lines are in the reserve (R386); the frame on which a move there, or back, is to land. -/
  reserve  : Bool
  rsvAt    : Option Nat
  backAt   : Option Nat
  /-- KIND 1 lines whose word for the coming frame has not come (R385). -/
  missed   : List Nat
  segs     : List RecSeg
  /-- Recorder buffer, oldest first: Cistern byte address and bytes (R387). -/
  recBuf   : List (Nat × List Byte)
  voices   : List VoiceRun
  /-- Frame on which the Cistern was lost, for the prefetched samples (R393). -/
  lostF    : Option Nat
  storeBad : Bool
  deriving DecidableEq, Repr

def CistSt.reset : CistSt :=
  { st := .off, retrain := none, rtT := 0, pend := none, trained := false, failMask := 0, trainTemp := 0, ceNow := 0, ceT := 0,
    bw := List.replicate 8 0, owed := [0, 0], banks := List.replicate 32 ⟨2, 0, false, 0⟩, lines := [], commits := [], reserve := false,
    rsvAt := none, backAt := none, missed := [], segs := [], recBuf := [], voices := [], lostF := none, storeBad := false }

end Sys2Proof.Machine
end

