-- ==== Sys2Proof/Machine/StClock.lean ====
section
/-!
DEFINITION. The state of the clocks: loops and domains, media rate changes, calibration, clock and pulse outputs, die
temperature (chapters 11 and 18). Plain data.
-/

namespace Sys2Proof.Machine

/-- Where a media rate change stands (Table 11-6). -/
inductive RatePhase where
  | fadeOut     -- steps 1: frames f to f + 63
  | search      -- step 3: a band search runs first (R328)
  | ramp        -- step 3: the ramp of R333
  | relock      -- step 4: one lock window at the new frequency
  | resume      -- step 5: the next frame tick starts frame h
  | fadeIn      -- step 6: frames h to h + 63
  deriving DecidableEq, Repr

structure RateChange where
  ticket : Option Word
  fam    : Bool
  mult   : Nat
  land   : Nat
  phase  : RatePhase
  /-- The frame on which ticks are held; 0 before the hold. -/
  h      : Nat
  /-- Frame period before the change, ps (R332 step 2). -/
  period : Nat
  handed : Bool
  /-- Start of the ramp, and the calibration slot that it goes to (R328, R333). -/
  t0     : Nat
  slot   : Option Nat
  deriving DecidableEq, Repr

/-- A pulse output: frame of its next active edge, while it runs; its period; frames its pulse still lasts (R488). -/
structure PulseSt where
  next : Option Nat
  d    : Nat
  left : Nat
  deriving DecidableEq, Repr

structure ClockSt where
  lockA : Bool
  lockD : Bool
  lockS : Bool
  lockM : Bool
  fabFb : Bool
  coreGated : Bool
  /-- Current media family and multiplier (Table 11-4): FAM and MULT. -/
  fam   : Bool
  mult  : Nat
  /-- A rate change in progress; RATE values that landed meanwhile, with their entries (R331). -/
  change : Option RateChange
  heldRates : List (Option Word × Word)
  /-- A band search runs for this family (R328). -/
  search : Option Bool
  /-- Families still to search in start-up step 7. -/
  bootSearch : List Bool
  /-- Calibration slots in the order they were filled, oldest first. -/
  slotOrder : List Nat
  /-- Slots already reported stale. -/
  stale  : List Nat
  /-- Phase steps requested and not yet applied. -/
  psteps : Int
  /-- First frame of a fade-in after a relock or a rate change, and the fade-out's first frame (R325, R332). -/
  fadeInAt  : Option Nat
  /-- A SOLO relock of PLL-M: the next tick continues the count (R325). -/
  afterGap : Bool
  /-- Phase of WCLK_OUT0 and WCLK_OUT1: a frame count of a rising edge, once started (R330). -/
  wclk   : List (Option Nat)
  pps    : PulseSt
  bmark  : PulseSt
  /-- MON: TEMP_HI asserted; the next reading restarts the extremes (R491). -/
  tempHi : Bool
  tempRestart : Bool
  deriving DecidableEq, Repr

end Sys2Proof.Machine
end

