-- ==== Sys2Proof/Machine/StDpll.lean ====
section
/-!
DEFINITION. The state of the Reference Selector and the DPLL (chapter 10). Plain data.
-/

namespace Sys2Proof.Machine

/-- Table 10-2, in the order of its codes. -/
inductive RefState where
  | off | failed | soaking | qualified | drifting | disqualified
  deriving DecidableEq, Repr

def RefState.code : RefState → Nat
  | .off => 0 | .failed => 1 | .soaking => 2 | .qualified => 3 | .drifting => 4 | .disqualified => 5

structure RefSt where
  st      : RefState
  /-- Last accepted edge, and the first of the edges present since the reference failed. -/
  edgeT   : Option Nat
  firstT  : Option Nat
  /-- Start of the soak or of the unbroken failing of the tests (R297). -/
  soakT   : Nat
  /-- Latest phase error, ps, and offsets against XO and against MEDIA, ppt (R295, R296). -/
  e       : Int
  fXo     : Int
  fMedia  : Int
  /-- The measurement window is full; a test result holds while it is not (R296). -/
  full    : Bool
  lastPass : Bool
  short   : Nat
  wander  : Bool
  /-- Phase samples of the wander window: time, ps relative to the selected reference (R300). -/
  hist    : List (Nat × Int)
  /-- When its peak-to-peak value was last not below the limit. -/
  wT      : Nat
  cand    : Bool
  deriving DecidableEq, Repr

/-- Table 10-3. -/
inductive DpllState where
  | freerun | acquire | locked | holdover
  deriving DecidableEq, Repr

def DpllState.code : DpllState → Nat
  | .freerun => 0 | .acquire => 1 | .locked => 2 | .holdover => 3

/-- A re-phasing of an output in progress (R314): output bit, earliest epoch, epoch source, and the frame h once known. -/
structure AlignSt where
  out   : Nat
  after : Nat
  src   : Nat
  h     : Option Nat
  deriving DecidableEq, Repr

structure DpllSt where
  st      : DpllState
  refs    : List RefSt
  sel     : Option Nat
  step    : Nat
  /-- Phase offset still to be pulled out, ps, and the time it was last reckoned (R309). -/
  pull    : Int
  pullT   : Nat
  pulling : Bool
  /-- A SET or ADD has moved the selected PTP reference: its next error starts a pull (R310). -/
  repull  : Bool
  /-- Phase of the output against the holdover frequency, 10^-12 ps (R300). -/
  drift   : Int
  freq    : Int
  steer   : Int
  clamp   : Bool
  conflict : Bool
  /-- Output frequency samples in LOCKED with PULL = 0: time, ppt, newest first (R311). -/
  hist    : List (Nat × Int)
  hoFreq  : Int
  hoAge   : Nat
  hoValid : Bool
  /-- Since when |e| has been within LOCK_TH, and above UNLOCK_TH (R308). -/
  inSince  : Option Nat
  outSince : Option Nat
  evalT   : Nat
  aligns  : List AlignSt
  deriving DecidableEq, Repr

end Sys2Proof.Machine
end

