-- ==== Sys2Proof/Machine/StFabric.lean ====
section
/-!
DEFINITION. The state of the fabric and of memory integrity (chapter 14). Plain data.
-/

namespace Sys2Proof.Machine

/-- A request that waits at a target, with the grants made to requests younger than itself (R408). -/
structure BusWait where
  target : Nat
  req    : BusReq
  passed : Nat
  deriving DecidableEq, Repr

/-- What the last granted burst answered: master, data words of a read, error response. -/
structure BusResp where
  master : Nat
  data   : List Word
  err    : Bool
  deriving DecidableEq, Repr

/-- An armed error injection (R423): group, address when ADDR_EN, lane, bits to invert (data bits first, then check bits). -/
structure Inject where
  group : Nat
  addr  : Option Nat
  lane  : Nat
  mask  : Nat
  deriving DecidableEq, Repr

structure FabSt where
  /-- Stored-bit errors: word key and the flipped bits: data bits first, check bit i at bit 32 + i of an SRAM word or
  64 + i of a Cistern word (R413, R423). The key is the byte address of the word; Cistern words are keyed from
  0x1_0000_0000 on. -/
  flips : List (Nat × Nat)
  waits : List BusWait
  /-- Requests that wait inside their masters, oldest first: a master has 8 outstanding (R400). -/
  inside : List BusReq
  /-- Master last granted at each arbiter: T0 to T9, then the local ports of the 16 Presses (R401, R405). -/
  last  : Vector Nat 26
  resp  : Option BusResp
  arm   : Option Inject
  /-- The last correctable-error addresses of the four groups, newest first (R417). -/
  ceList : Vector (List Nat) 4
  /-- Words awaiting the in-place rewrite of R415: word keys. -/
  rewrite : List Nat
  /-- Skimmer positions (unit index) and lap start times, ps: SRAM, Cistern (R420, R421). -/
  skimS : Nat
  skimD : Nat
  lapS  : Nat
  lapD  : Nat
  deriving DecidableEq, Repr

def FabSt.reset : FabSt :=
  { flips := [], waits := [], inside := [], last := Vector.replicate 26 0, resp := none, arm := none,
    ceList := Vector.replicate 4 [], rewrite := [], skimS := 0, skimD := 0, lapS := 0, lapD := 0 }

end Sys2Proof.Machine
end

