-- ==== Sys2Proof/Machine/StNet.lean ====
section
/-!
DEFINITION. The state of the network ports, the switch and the audio flows (chapter 08). Plain data. Lines are memory.
-/

namespace Sys2Proof.Machine

structure NetLink where
  up       : Bool
  hiBer    : Bool
  anDone   : Bool
  speedErr : Bool
  deriving DecidableEq, Repr

/-- A learned MAC address (R245): its port (2 is the internal endpoint) and when it was last seen (ps). -/
structure MacEnt where
  mac  : BitVec 48
  port : Nat
  seen : Nat
  deriving DecidableEq, Repr

/-- A membership (R248): group, port (2 is the internal endpoint), time of the last report (ps). -/
structure IgmpEnt where
  group : Word
  port  : Nat
  t     : Nat
  deriving DecidableEq, Repr

/-- The Ethernet and 802.1Q fields that the internal endpoint puts on a packet (R244, R250, R268). -/
structure EthHdr where
  dmac  : BitVec 48
  smac  : BitVec 48
  tag   : Option (BitVec 16)
  etype : BitVec 16
  deriving DecidableEq, Repr

/-- The IPv4 and UDP fields of a flow packet (R250, R263). -/
structure UdpHdr where
  src   : Word
  dst   : Word
  sport : BitVec 16
  dport : BitVec 16
  cksum : BitVec 16
  deriving DecidableEq, Repr

/-- The RTP header of a flow packet (R250, R251, R257). -/
structure RtpHdr where
  ver    : BitVec 2
  marker : Bool
  pt     : BitVec 7
  seq    : BitVec 16
  ts     : Word
  ssrc   : Word
  deriving DecidableEq, Repr

/-- What the device has sent. -/
inductive SentPkt where
  /-- A forwarded packet: egress port, destination, length, FCS corrupted, new correctionField. -/
  | fwd (port : Nat) (dmac : BitVec 48) (len : Nat) (bad : Bool) (corr : Option (BitVec 64))
  /-- A flow packet: port, flow, headers, payload. -/
  | audio (port flow : Nat) (eth : EthHdr) (udp : UdpHdr) (rtp : RtpHdr) (bytes : List Byte)
  /-- A management packet: port, the three header words (Table 08-6), body. -/
  | mgmt (port : Nat) (eth : EthHdr) (head : List Word) (body : List Word)
  /-- An IGMP membership report of the internal endpoint: port, its source address, group, source filter. -/
  | report (port : Nat) (eth : EthHdr) (ip group src : Word) (join : Bool)
  | query (port : Nat) (eth : EthHdr) (ip : Word)
  /-- A PTP message (R286): port, headers, the IPv4 TTL and UDP header when it goes over UDP, bytes. -/
  | ptp (port : Nat) (eth : EthHdr) (udp : Option (Nat × UdpHdr)) (bytes : List Byte)
  deriving DecidableEq, Repr

/-- A packet in an egress queue (R245): port, class (0 A, 1 B, 2 C), when it was queued (ps), and the packet. -/
structure QPkt where
  port : Nat
  cls  : Nat
  t    : Nat
  pkt  : SentPkt
  deriving DecidableEq, Repr

/-- Table 08-5. -/
inductive FlowSt where
  | off | wait | run | lost | mismatch
  deriving DecidableEq, Repr

def FlowSt.code : FlowSt → Nat
  | .off => 0 | .wait => 1 | .run => 2 | .lost => 3 | .mismatch => 4

/-- A copy of a packet that a standby keeps until the active's decision (R262): timestamp, whether it came on path 1, whether the standby
itself found it on time, payload. -/
structure RxCopy where
  ts    : Word
  path1 : Bool
  ok    : Bool
  bytes : List Byte
  deriving DecidableEq, Repr

/-- A receive flow that has been enabled (R258 to R262). -/
structure RxFlow where
  f     : Nat
  st    : FlowSt
  ssrc  : Option Word
  /-- Consecutive packets with another SSRC, and consecutive failures on each path. -/
  other : Nat
  fail0 : Nat
  fail1 : Nat
  /-- Last on-time packet of each path (ps). -/
  ok0   : Option Nat
  ok1   : Option Nat
  /-- Timestamps already supplied, newest first. -/
  seen  : List Word
  copies : List RxCopy
  /-- Frames that lie beyond the line: input frame, channel samples. -/
  ahead : List (Nat × List Word)
  seqs  : List ChanSeq
  deriving DecidableEq, Repr

/-- A transmit flow that has been enabled (R257): START, first frame of the next packet, the frame that follows the last one written,
and the frames written since. A flow on a flow clock counts that clock's frames from START; `acc` is its place within a frame, 2^-30
(R266). -/
structure TxFlow where
  f     : Nat
  start : Nat
  next  : Nat
  made  : Nat
  acc   : Nat
  buf   : List (Nat × List Word)
  /-- Frames of the last packet, when this device did not send it (R354). -/
  last  : List (List Word)
  /-- Sequences of the ASRC channels of the flow (R231, R266). -/
  seqs  : List ChanSeq
  deriving DecidableEq, Repr

structure NetSt where
  link    : Vector NetLink 2
  macs    : List MacEnt
  igmp    : List IgmpEnt
  /-- Groups already counted in IGMP_OVF. -/
  ovf     : List Word
  /-- The egress queues of NET0 and NET1, oldest first, and when each port's line is free again (ps; R245, R246). -/
  queue   : List QPkt
  free    : Vector Nat 2
  /-- The last 64 packets sent, newest first. -/
  sent    : List SentPkt
  /-- Committed flow entries that are not at reset: flow, ten words. -/
  rxE     : List (Nat × List Word)
  txE     : List (Nat × List Word)
  /-- Commits written by the host in SOLO that replace their entry on the next frame. -/
  commits : List (Bool × Nat × List Word)
  rx      : List RxFlow
  tx      : List TxFlow
  /-- When a duplicate node was last seen (R267). -/
  dup     : Option Nat
  /-- READ_REQ arrivals of the last second. -/
  reads   : List Nat
  /-- ANNOUNCE answers scheduled, with the SEQ that each echoes; and when the device last announced, sent telemetry and queried. -/
  answers : List (Nat × Nat)
  /-- SEQ of the next management packet that answers nobody (R268). -/
  mgmtSeq : Nat
  annT    : Option Nat
  telT    : Nat
  queryT  : Nat
  /-- Packets used in the present frame, for the standby (R262). -/
  used    : List (Nat × Word × Bool)
  deriving DecidableEq, Repr

def NetSt.reset : NetSt :=
  { link := Vector.replicate 2 ⟨false, false, false, false⟩, macs := [], igmp := [], ovf := [], queue := [], free := Vector.replicate 2 0, sent := [], rxE := [], txE := [],
    commits := [], rx := [], tx := [], dup := none, reads := [], answers := [], mgmtSeq := 0, annT := none, telT := 0, queryT := 0, used := [] }

end Sys2Proof.Machine
end

