-- ==== Sys2Proof/Machine/StPtp.lean ====
section
/-!
DEFINITION. The state of PTP time and time-stamping (chapter 09). Plain data. The rings are memory.
-/

namespace Sys2Proof.Machine

/-- A time counter (R278): its time in units of 2^-48 ns, modulo 2^48 s; the slew remainder in the same units and its
rate in ppm; and the residence counter of R289, which SET and ADD never change. -/
structure TimeCtr where
  t     : Nat
  slew  : Int
  ppm   : Nat
  slewing : Bool
  res   : Nat
  deriving DecidableEq, Repr

structure PtpSt where
  t0   : TimeCtr
  t1   : TimeCtr
  run  : Bool
  /-- CORE cycles not yet counted, in ps (below 1250). -/
  frac : Nat
  /-- A pending TIMECMD: operation and counter (R280). -/
  cmd  : Option (Nat × Bool)
  /-- Last multiple of 10 ms that each counter has presented as a pulse (R290). -/
  pulse0 : Nat
  pulse1 : Nat
  deriving DecidableEq, Repr

end Sys2Proof.Machine
end

