-- ==== Sys2Proof/Machine/StSense.lean ====
section
/-!
DEFINITION. The state of the sense unit (chapter 15). Plain data.
-/

namespace Sys2Proof.Machine

/-- The class of a level (R428, R429). -/
inductive SenseClass where
  | unknown
  | absent
  | present (acc btn : Nat)
  | low
  | high
  deriving DecidableEq, Repr

/-- A sense event that waits for its delivery: EVENT, DATA, frame of its decision (R433). -/
structure SenseEv where
  event : Nat
  data  : Nat
  frame : Nat
  deriving DecidableEq, Repr

structure SenseIn where
  /-- Class of the last 1 ms period and the consecutive periods that gave it. -/
  cls     : SenseClass
  run     : Nat
  /-- The debounced state, and the state that the events so far have reported. -/
  deb     : SenseClass
  rep     : SenseClass
  /-- Time of the BTN_DOWN that stands. -/
  downT   : Option Nat
  stuck   : Bool
  chatter : Bool
  /-- Times of the changes of debounced state in the last second. -/
  changes : List Nat
  queue   : List SenseEv
  lost    : Bool
  /-- Last delivery. -/
  sentT   : Option Nat
  deriving DecidableEq, Repr

structure SenseSt where
  ins     : Vector SenseIn 8
  /-- Actions refused GALLEY_FULL: ACTMAP index and the time of the first refusal (R437). -/
  retries : List (Nat × Nat)
  deriving DecidableEq, Repr

/-- No input has a debounced state at first: ABSENT, which reports nothing (log entry 40). -/
def SenseIn.reset : SenseIn :=
  { cls := .unknown, run := 0, deb := .absent, rep := .absent, downT := none, stuck := false, chatter := false, changes := [],
    queue := [], lost := false, sentT := none }

def SenseSt.reset : SenseSt := { ins := Vector.replicate 8 SenseIn.reset, retries := [] }

end Sys2Proof.Machine
end

