-- ==== Sys2Proof/Machine/StTwin.lean ====
section
/-!
DEFINITION. The state of the pair: twin role, Quoin, arbiter interface, Traliat link and rejoin (chapter 12). Plain data.
-/

namespace Sys2Proof.Machine

/-- Table 12-1, in the order of its codes. -/
inductive TwinState where
  | solo | active | standbyHot | standbyWarm | syncing | faulted | fenced
  deriving DecidableEq, Repr

/-- The code of Table 12-1. -/
def TwinState.code : TwinState → Nat
  | .solo => 0 | .active => 1 | .standbyHot => 2 | .standbyWarm => 3 | .syncing => 4 | .faulted => 5 | .fenced => 6

/-- A pending requested release (R344): to FENCED for HANDOVER, else to FAULTED with an FCAUSE. -/
inductive Release where
  | handover
  | fault (cause : Nat)
  deriving DecidableEq, Repr

/-- The body of a cell that the device has sent. -/
inductive CellBody where
  | health (state : Nat) (deadline : Nat) (fcause : Nat) (frame : Nat) (crc : Word) (check : Option (Nat × Bool))
  | dec (d : DecBody)
  | mirror (frame : Nat) (samples : List (Nat × Word))
  | slot (ev : Ev)
  | ack (ticket : Word)
  | clientRst (mask : Nat)
  | words (cist : Bool) (ws : List (Nat × Word))
  | hello
  /-- PAIR, L − 1, media rate, CHIP_ID, stepping, image CRC, BADPRESS, state (R339). -/
  | negotiate (pair : Bool) (lease rate : Nat) (chip : Word) (step : Nat) (crc : Word) (bad : Nat) (state : Nat)
  | fence
  | rejoin
  | regions (l : List (Nat × Word))
  | cut (frame : Nat)
  | part (p : DataPart)
  | nak (ch seq : Nat)
  | sense (w0 w1 : Word)
  deriving DecidableEq, Repr

/-- A cell sent on the link (R356, Table 12-5): channel, sequence, frame tag, body. -/
structure CellOut where
  ch   : Nat
  seq  : Nat
  ftag : Nat
  body : CellBody
  deriving DecidableEq, Repr

structure TwinSt where
  st       : TwinState
  /-- PAIR and LEASE as they act in this start (R339). -/
  paired   : Bool
  leaseL   : Nat
  /-- Partner state from its last HEALTH cell; 0xF unknown. -/
  pstate   : Nat
  negDone  : Bool
  cfgDiff  : Bool
  phase    : Nat
  fcause   : Nat
  /-- Lease deadline, ps, while a lease is valid (R343). -/
  lease    : Option Nat
  release  : Option Release
  drive    : Bool
  /-- A granted device waits for the partner's lease deadline (R346). -/
  grantWait : Option Nat
  pDeadline : Nat
  /-- Time of the last HEALTH cell that showed STANDBY_HOT (R344). -/
  pHotT    : Option Nat
  lanes    : BitVec 2
  link     : Bool
  hello    : Bool
  /-- Output CRCs of the last frames, own and partner's: (frame, CRC), newest first. -/
  ownCrc   : List (Nat × Word)
  pCrc     : List (Nat × Word)
  /-- Frames in which a self-check condition of R351 occurred, newest first. -/
  selfBad  : List Nat
  /-- A mismatch frame whose outcome is open, and the partner's self-check for it. -/
  mism     : Option Nat
  pCheck   : Option (Nat × Bool)
  lossHold : Option Nat
  seqTx    : List (Nat × Nat)
  sent     : List CellOut
  /-- GALLEY cells asked for again and not yet received, and the later ones that wait for them (R92). -/
  galOwed  : List Nat
  galHeld  : List (Nat × GalleyMsg)
  /-- Rejoin: cutover frame, start of phase 2, re-sends by region, moves of c (R362, R363). -/
  cut      : Nat
  copyT    : Nat
  /-- FWD cells asked for again and not yet received (R363). -/
  fwdOwed  : List Nat
  resent   : List (Nat × Nat)
  moves    : Nat
  diffs    : List Nat
  /-- The active's CRCs of the regions that phase 1 compares; on an active, the phase of its partner's copy (R362). -/
  pRegions : List (Nat × Word)
  joinPh   : Nat
  /-- Error counters at the last boundary, for the self-check (R351). -/
  badSnap  : Nat
  /-- Warm standby: equal CRCs in a row, store compared equal, when the first two conditions first held (R365). -/
  crcRun   : Nat
  storeEq  : Bool
  warmT    : Option Nat
  dmax     : Nat
  /-- Mirrored samples received for the present frame, and the channels that the partner mirrors (R340). -/
  mirrorIn : List (Nat × Int)
  mirrorCh : List Nat
  deriving DecidableEq, Repr

structure ArbSt where
  pin      : Bool
  filt     : Bool
  hb       : Bool
  hbRun    : Bool
  stuck    : Bool
  chatter  : Bool
  /-- Times of the recent filtered transitions (R345). -/
  trans    : List Nat
  deriving DecidableEq, Repr

end Sys2Proof.Machine
end

