-- ==== Sys2Proof/Machine/State.lean ====
section
/-!
DEFINITION. The state of the device, its state right after reset, and the reasons a step can stop.
-/

namespace Sys2Proof.Machine

/-- The state. Register words are `regs` (by host byte address), memory is `mem` (by host byte address), the Cistern is
`cist` (by Cistern byte address); engines have their own parts. `pending` is the queue of commands that wait. -/
structure State where
  /-- Time, ps. -/
  now      : Nat
  /-- Position in the stream of free values (a field of the model, not of the device). -/
  freeCtr  : Nat
  regs     : List (Nat × Word)
  /-- Host-visible STAT and counters of the frozen pages (R14, R16). -/
  frozen   : List (Nat × Word)
  /-- High words latched by low-word reads (R11, R279): byte address and value. -/
  latches  : List (Nat × Word)
  /-- Pages whose SRST runs (R14). -/
  srst     : List Nat
  /-- SOLO writes to data-plane registers that act at the next frame boundary (R23). -/
  landNext : List (Nat × Word)
  mem      : List Host.Cell
  cist     : List Host.Cell
  host     : HostSt
  boot     : BootSt
  tb       : TimebaseSt
  comp     : CompositorSt
  galley   : GalleySt
  basin    : BasinSt
  ports    : PortSt
  net      : NetSt
  twin     : TwinSt
  arb      : ArbSt
  clk      : ClockSt
  dpll     : DpllSt
  ptp      : PtpSt
  cistern  : CistSt
  press    : Vector PressSt 16
  fab      : FabSt
  sense    : SenseSt
  /-- Shed steps: measured pressure, imposed by DEGRADED, in force (R39, R40, R43); and when the pressure that requires each
  step, from step 1 on, was last present. -/
  shedMeas : Nat
  shedImp  : Nat
  shed     : Nat
  shedT    : List Nat
  /-- Commands waiting, first in, first out. -/
  pending  : List Instr
  deriving DecidableEq, Repr

/-- No meaning stops the device with a fault: the spec ends every access and every event in a defined way. The one
constructor is raised by nobody; it keeps the type inhabited. Safe. -/
inductive Fault where
  | never
  deriving DecidableEq, Repr

/-- Why a command has no meaning. -/
inductive Refusal where
  /-- Raised by `exec` for a command whose meaning is not written. Safe: the model stops. -/
  | notModelled (mnemonic : String)
  deriving DecidableEq, Repr

/-! ### The parts at reset -/

def HostSt.reset : HostSt :=
  { ranges := List.replicate 16 ⟨false, 0, 0, 0⟩, proof := [], seq := 0, holdCnt := 0 }

/-- Power-on reset is held (R459): step 1. -/
def BootSt.reset : BootSt :=
  { step := .s1, held := .power, hold := none, run := false, retention := false, everRun := false, warm := false,
    src := 0, slot := 0, signed := false, cause := 0, badA := false, badB := false, verified := none, regInit := [],
    cistern := [], preload := [], otpBusy := none, fuses := [], restart := false, stepT := 0, bistDone := false, vio := 0 }

def TimebaseSt.reset : TimebaseSt :=
  { frame := 0, tickT := 0, selWait := false, ticking := false, ptpNow := 0, posNow := 0, posEnd := 0, posEnd2 := 0, cntNow := 0, cnt := 0,
    pos := 0, pend := 0, corrRem := 0, corrFin := false, corrLo := 0, loadLo := 0, load := none,
    -- 2,827,433 µm / 100 pulses in 2^-16 µm, rounded to nearest (R55, reset values of Table 02-8)
    dpp := 1852986491, reverse := false, snap := false, held := [], stamps := [], spdNum := 0, spdDen := 1, est := none, lastA := 0,
    lastB := 0, lastPulse := 0, spdNow := 0, levelA := false, cntLevel := false, aloneA := none, aloneB := none, levelB := false, chatter := false, stuckA := false, stuckB := false, recent := [], overT := 0,
    cntRecent := [], cntEdgeT := 0, cntHigh := none, cntChatter := false, cntStuck := false }

def CompositorSt.reset : CompositorSt :=
  { queue := [], sel := [], landing := [], running := [], held := [], done := [], backlog := false, lastExec := 0, execNow := 0 }

def GalleySt.reset : GalleySt :=
  { clients := List.replicate 16 ⟨false, 0, []⟩, subs := [], lastResp := 0, inflight := [], heapUsed := 0, lost := false, fresh := true }

def BasinSt.reset : BasinSt :=
  { liveB := false, lock := false, lastRecall := none, moves := [], waits := [], epochs := [], lawLatch := none,
    sluices := [], zones := [], mirrorQ := [], crcRun := none, ueWords := [], lastIn := [], lastBus := [], lastSel := [],
    lastJet := [], busOut := [], chain := [], weir := [], outHist := [], jets := [], mutes := [], jetOn := [], inMeter := [],
    busMeter := [], outMeter := [] }

/-- STATE reads FENCED and PSTATE reads 0xF at reset (Table 12-11); PAIR = 0 makes the device SOLO at step 8 (R339). -/
def TwinSt.reset : TwinSt :=
  { st := .fenced, paired := false, leaseL := 1, pstate := 0xF, negDone := false, cfgDiff := false, phase := 0,
    fcause := 0, lease := none, release := none, drive := false, grantWait := none, pDeadline := 0, pHotT := none,
    lanes := 0, link := false, hello := false, ownCrc := [], pCrc := [], selfBad := [], mism := none, pCheck := none,
    lossHold := none, seqTx := [], sent := [], galOwed := [], galHeld := [], cut := 0, copyT := 0, fwdOwed := [], resent := [], moves := 0, diffs := [], pRegions := [], joinPh := 0, badSnap := 0,
    crcRun := 0, storeEq := false, warmT := none, dmax := 0, mirrorIn := [], mirrorCh := [] }

def ArbSt.reset : ArbSt :=
  { pin := false, filt := false, hb := false, hbRun := false, stuck := false, chatter := false, trans := [] }

def ClockSt.reset : ClockSt :=
  { lockA := false, lockD := false, lockS := false, lockM := false, fabFb := true, coreGated := true, fam := true,
    mult := 0, change := none, heldRates := [], search := none, bootSearch := [], slotOrder := [], stale := [],
    psteps := 0, fadeInAt := none, afterGap := false, wclk := [none, none], pps := ⟨none, 48000, 0⟩, bmark := ⟨none, 8, 0⟩,
    tempHi := false, tempRestart := true }

def RefSt.reset : RefSt :=
  { st := .off, edgeT := none, firstT := none, soakT := 0, e := 0, fXo := 0, fMedia := 0, full := false,
    lastPass := false, short := 0, wander := false, hist := [], wT := 0, cand := false }

def DpllSt.reset : DpllSt :=
  { st := .freerun, refs := List.replicate 8 RefSt.reset, sel := none, step := 0, pull := 0, pullT := 0, pulling := false, repull := false, drift := 0,
    freq := 0, steer := 0, clamp := false, conflict := false, hist := [], hoFreq := 0, hoAge := 0, hoValid := false,
    inSince := none, outSince := none, evalT := 0, aligns := [] }

def TimeCtr.reset : TimeCtr := { t := 0, slew := 0, ppm := 0, slewing := false, res := 0 }

def PtpSt.reset : PtpSt :=
  { t0 := TimeCtr.reset, t1 := TimeCtr.reset, run := false, frac := 0, cmd := none, pulse0 := 0, pulse1 := 0 }

/-- The device right after power-on reset is asserted: start-up step 1, every register at its reset value, memory with
nothing listed (R459, R463 and the Reset columns). -/
def State.reset : State :=
  { now := 0, freeCtr := 0, regs := [], frozen := [], latches := [], srst := [], landNext := [], mem := [], cist := [],
    host := HostSt.reset, boot := BootSt.reset, tb := TimebaseSt.reset, comp := CompositorSt.reset,
    galley := GalleySt.reset, basin := BasinSt.reset, ports := PortSt.reset, net := NetSt.reset, twin := TwinSt.reset, arb := ArbSt.reset, clk := ClockSt.reset,
    dpll := DpllSt.reset, ptp := PtpSt.reset, cistern := CistSt.reset, press := Vector.replicate 16 PressSt.reset, fab := FabSt.reset, sense := SenseSt.reset, shedMeas := 0, shedImp := 0, shed := 0, shedT := List.replicate 5 0,
    pending := [] }

end Sys2Proof.Machine
end

