-- ==== Sys2Proof/Machine/Ops.lean ====
section
/-!
DEFINITION. The named operations over registers, memory, time and free values, which every chapter uses.
-/

namespace Sys2Proof.Machine

/-! ### Registers -/

/-- The row of a page that covers offset `o`. -/
def findReg (o : Nat) : List RegDef → Option RegDef
  | [] => none
  | d :: t => if d.off ≤ o ∧ o < d.off + d.n * d.stride ∧ (o - d.off) % d.stride = 0 then some d else findReg o t

/-- Is `a` in the register pages (R475)? -/
def isPageAddr (a : Nat) : Bool := decide (0x10000 ≤ a) && decide (a < 0x50000)

/-- Page and offset of a register address. -/
def pageOf (a : Nat) : Nat := (a - 0x10000) / 0x1000
def offOf (a : Nat) : Nat := (a - 0x10000) % 0x1000

/-- The read-only words of the page header, PID, CAPS, STAT and ERRADDR, which every page carries (R12). -/
def headRo (p o : Nat) : Option RegDef :=
  if p < 0x36 ∧ (o = 0 ∨ o = 4 ∨ o = 0xC ∨ o = 0x20) then some ⟨"", o, 1, 4, 0, 0, 0, 0, 0, 0, false⟩ else none

/-- The row of the register at address `a`, if any. -/
def regAt (a : Nat) : Option RegDef :=
  if isPageAddr a then (findReg (offOf a) (pageRegs (pageOf a))).or (headRo (pageOf a) (offOf a)) else none

/-- The reset value of the register at address `a` (the Reset columns); 0 where no register stands. -/
def resetWord (a : Nat) : Word :=
  match regAt a with
  | some d => BitVec.ofNat 32 d.reset
  | none => 0

/-- The stored value of the register at address `a`. -/
def rget (s : State) (a : Nat) : Word := spGet resetWord s.regs a

/-- Store a register value. -/
def rset (a : Nat) (v : Word) (s : State) : State := { s with regs := spSet resetWord s.regs a v }

/-- A field `[hi:lo]` of the register at `a`. -/
def rfld (s : State) (a hi lo : Nat) : Nat := bits (rget s a) hi lo

/-- One bit of the register at `a`. -/
def rbit (s : State) (a i : Nat) : Bool := bit (rget s a) i

/-- Replace a field of the register at `a`. -/
def rput (a hi lo v : Nat) (s : State) : State := rset a (setBits (rget s a) hi lo v) s

/-- Increment a wrapping counter (or add to it). -/
def cnt (a : Nat) (s : State) (n : Nat := 1) : State := rset a (rget s a + w32 n) s

/-- Keep the largest value seen in a statistics register. -/
def peak (a n : Nat) (s : State) : State := if n > (rget s a).toNat then rset a (w32 n) s else s

/-- CTRL.EN of page `p`. -/
def enOf (s : State) (p : Nat) : Bool := rbit s (aCTRL p) 0

/-- Set bit `b` of the ISTAT of page `p` (R12). -/
def iset (p b : Nat) (s : State) : State := rset (aISTAT p) (rget s (aISTAT p) ||| flg true b) s

/-- Capture an error on page `p`: first error, MULTI, ERRADDR (R19, R20). -/
def errcap (p code addr : Nat) (s : State) : State :=
  if rbit s (aERRCAP p) 31 then rset (aERRCAP p) (rget s (aERRCAP p) ||| flg true 30) s
  else rset (aERRADDR p) (w32 addr) (rset (aERRCAP p) (flg true 31 ||| w32 (code % 0x10000)) s)

/-- Latch alarm source `b` (R455). -/
def alarm (b : Nat) (s : State) : State := rset aINTC_ALMSRC (rget s aINTC_ALMSRC ||| flg true b) s

/-! ### Memory -/

/-- What a byte of memory reads as before anything has written it: the factory-default Forme contents of the Reset columns
(R112, R120, R121, R139), and 0 elsewhere (log entry 3). -/
def memReset (a : Nat) : Byte :=
  if 0x1000000 ≤ a ∧ a < 0x1800000 then
    let o := (a - 0x1000000) % 0x400000
    if 0x21C000 ≤ o ∧ o < 0x220000 then
      match (o - 0x21C000) % 16 with
      | 3 => 0x80 | 4 => 0x40 | 5 => 0x01 | _ => 0
    else if 0x220000 ≤ o ∧ o < 0x222000 then
      match (o - 0x220000) % 64 with
      | 1 => 0x14 | 4 => 0xD0 | 5 => 0x07 | 6 => 0xF4 | 7 => 0x01 | 8 => 0x80 | 11 => 0x19 | 23 => 0x06 | 24 => 0x80 | _ => 0
    else 0
  else 0

/-- Read and write one byte of memory by host byte address. -/
def rdByte (s : State) (a : Nat) : Byte := spGet memReset s.mem a
def wrByte (a : Nat) (v : Byte) (s : State) : State := { s with mem := spSet memReset s.mem a v }

/-- The canonical form of memory, registers and Cistern. -/
abbrev Memory.wf (m : List Host.Cell) : Prop := spWf memReset m = true

/-- Read and write a 32-bit word, least significant byte at the lowest address (R411). -/
def rdWord (s : State) (a : Nat) : Word :=
  w32 ((rdByte s a).toNat + 0x100 * (rdByte s (a + 1)).toNat + 0x10000 * (rdByte s (a + 2)).toNat
    + 0x1000000 * (rdByte s (a + 3)).toNat)
def wrWord (a : Nat) (v : Word) (s : State) : State :=
  wrByte (a + 3) (v.extractLsb' 24 8) (wrByte (a + 2) (v.extractLsb' 16 8) (wrByte (a + 1) (v.extractLsb' 8 8)
    (wrByte a (v.extractLsb' 0 8) s)))

/-- A word written under byte enables. -/
def wrWordBe (a : Nat) (be : BitVec 4) (v : Word) (s : State) : State :=
  let b (j : Nat) (s : State) : State := if be.getLsbD j then wrByte (a + j) (v.extractLsb' (8 * j) 8) s else s
  b 3 (b 2 (b 1 (b 0 s)))

/-- Consecutive words and bytes. -/
def rdWords (s : State) (a : Nat) : Nat → List Word
  | 0 => []
  | n + 1 => rdWord s a :: rdWords s (a + 4) n
def wrWords (a : Nat) : List Word → State → State
  | [], s => s
  | v :: t, s => wrWords (a + 4) t (wrWord a v s)
def rdBytes (s : State) (a : Nat) : Nat → List Byte
  | 0 => []
  | n + 1 => rdByte s a :: rdBytes s (a + 1) n
def wrBytes (a : Nat) : List Byte → State → State
  | [], s => s
  | v :: t, s => wrBytes (a + 1) t (wrByte a v s)

/-- Cistern bytes; unwritten bytes read 0 (log entry 3). -/
def cistReset (_ : Nat) : Byte := 0
def cdByte (s : State) (a : Nat) : Byte := spGet cistReset s.cist a
def cwByte (a : Nat) (v : Byte) (s : State) : State := { s with cist := spSet cistReset s.cist a v }
def cdWord (s : State) (a : Nat) : Word :=
  w32 ((cdByte s a).toNat + 0x100 * (cdByte s (a + 1)).toNat + 0x10000 * (cdByte s (a + 2)).toNat
    + 0x1000000 * (cdByte s (a + 3)).toNat)
def cwWord (a : Nat) (v : Word) (s : State) : State :=
  cwByte (a + 3) (v.extractLsb' 24 8) (cwByte (a + 2) (v.extractLsb' 16 8) (cwByte (a + 1) (v.extractLsb' 8 8)
    (cwByte a (v.extractLsb' 0 8) s)))
def cwBytes (a : Nat) : List Byte → State → State
  | [], s => s
  | v :: t, s => cwBytes (a + 1) t (cwByte a v s)
def cwWords (a : Nat) : List Word → State → State
  | [], s => s
  | v :: t, s => cwWords (a + 4) t (cwWord a v s)

/-! ### Association lists keyed by numbers -/

/-- Look up a key; `d` where it is not listed. -/
def alGet {V : Type} (d : V) : List (Nat × V) → Nat → V
  | [], _ => d
  | (a, v) :: t, k => if a = k then v else alGet d t k

/-- Replace or append a key. -/
def alSet {V : Type} : List (Nat × V) → Nat → V → List (Nat × V)
  | [], k, v => [(k, v)]
  | (a, w) :: t, k, v => if a = k then (a, v) :: t else (a, w) :: alSet t k v

def alDel {V : Type} : List (Nat × V) → Nat → List (Nat × V)
  | [], _ => []
  | (a, w) :: t, k => if a = k then alDel t k else (a, w) :: alDel t k

/-! ### Free values -/

/-- Take the next free word. -/
def freeWord (s : State) : Word × State := (Config.freeWord s.freeCtr, { s with freeCtr := s.freeCtr + 1 })

/-- Take a free choice below `k`. -/
def freeBelow (k : Nat) (s : State) : Nat × State :=
  (if k = 0 then 0 else Config.freeNat s.freeCtr % k, { s with freeCtr := s.freeCtr + 1 })

/-! ### Rate and time -/

/-- Media rates (Table 11-4). -/
def fsOf (fam : Bool) (mult : Nat) : Nat := (if fam then 48000 else 44100) * 2 ^ mult

/-- The media rate in force, frames per second, and the nominal frame period, ps. -/
def fs (s : State) : Nat := fsOf s.clk.fam s.clk.mult
def period (s : State) : Nat := 10 ^ 12 / fs s

/-- The media frame count as registers show it: modulo 2^64. -/
def frame (s : State) : Nat := s.tb.frame

/-- Frames of a time in milliseconds, rounded up (R116, R223). -/
def framesOfMs (s : State) (ms : Nat) : Nat := ceilDiv (ms * fs s) 1000

/-- One time counter's increment per CORE cycle, in 2^-48 ns: 1.25 ns × (1 + RATE × 10⁻¹² + slew), the total clamped to
±500 ppm and the product rounded to nearest, ties to even (R278). -/
def ctrInc (ratePpt slewPpt : Int) : Int :=
  convDiv (351843720888320 * (10 ^ 12 + clampI (-500000000) 500000000 (ratePpt + slewPpt))) (10 ^ 12)

/-- 2^48 seconds in units of 2^-48 ns. -/
def ctrMod : Nat := 2 ^ 48 * 1000000000 * 2 ^ 48

/-- A counter after `n` CORE cycles at a RATE (R278, R280): the slew part ends with its remainder. -/
def ctrRun (n : Nat) (rate : Int) (c : TimeCtr) : TimeCtr :=
  let base := ctrInc rate 0
  let total : Int × Int :=  -- advance, slew remainder left
    if c.slewing then
      let per := ctrInc rate ((if c.slew < 0 then -1 else 1) * (c.ppm * 1000000 : Nat)) - base
      if c.slew = 0 then (base * n, 0)
      else if per = 0 then (base * n, c.slew)
      else
        let need := ceilDiv c.slew.natAbs per.natAbs
        if n ≥ need then (base * n + c.slew, 0) else ((base + per) * n, c.slew - per * n)
    else (base * n, c.slew)
  { c with t := ((c.t + total.1) % (ctrMod : Int)).toNat, slew := total.2, res := ((c.res + total.1) % (2 ^ 128 : Int)).toNat }

/-- The PTP counters after `e` ps of CORE clock, whole cycles counted and the rest kept. -/
def ptpRun (e : Nat) (r0 r1 : Int) (p : PtpSt) : PtpSt :=
  { p with
    frac := (e + p.frac) % 1250
    t0 := ctrRun ((e + p.frac) / 1250) r0 p.t0
    t1 := ctrRun ((e + p.frac) / 1250) r1 p.t1 }

/-- Bring the device to time `t`: the PTP counters count CORE cycles while they run (R278, R281). Time never goes back. -/
def advance (t : Nat) (s : State) : State :=
  if t ≤ s.now then s
  else if s.ptp.run then
    { s with
      now := t
      ptp := ptpRun (t - s.now) (sgn 32 (rget s aPTP_TIME0_RATE).toNat) (sgn 32 (rget s aPTP_TIME1_RATE).toNat) s.ptp }
  else { s with now := t }

/-- The PTP axis value of a counter: ns modulo 2^64 (R47, R279). -/
def ptpAxis (c : TimeCtr) : Nat := (c.t / 2 ^ 48) % 2 ^ 64

/-! ### Roles -/

def isSolo (s : State) : Bool := s.twin.st == .solo
def isActive (s : State) : Bool := s.twin.st == .active
def activeOrSolo (s : State) : Bool := isSolo s || isActive s

/-- The partner is a STANDBY that replicates: STANDBY_HOT or STANDBY_WARM (R90). -/
def partnerStandby (s : State) : Bool := s.twin.pstate == 2 || s.twin.pstate == 3
def partnerHot (s : State) : Bool := s.twin.pstate == 2

/-- The device may drive pins and flows: it holds the Quoin or is SOLO (R207, R264). -/
def holdsQuoin (s : State) : Bool := s.twin.drive

/-- A data-plane page (R17, Table 18-2). -/
def dataPlane (p : Nat) : Bool :=
  decide (0x10 ≤ p ∧ p ≤ 0x15) || decide (p = 0x1A ∨ p = 0x1B ∨ p = 0x1C ∨ p = 0x1D) || decide (0x20 ≤ p ∧ p ≤ 0x2F)
    || decide (p = 0x31 ∨ p = 0x32)

/-- The block size N and whether frame `f` is a block boundary (R5, BLKN of PRESS0). -/
def blockN (s : State) : Nat := 2 ^ min 5 (rfld s (aCTRL (pgPRESS 0)) 15 13)
def isBlock (s : State) (f : Nat) : Bool := f % blockN s == 0

/-- A standby follows TWIN whatever its table (R305). -/
def followsTwin (s : State) : Bool :=
  s.twin.st == .standbyHot || s.twin.st == .standbyWarm || s.twin.st == .syncing

/-- A device that takes the active's samples and decisions in place of its own: not one that has lost its partner (R68, R225, R359). -/
def usesDec (s : State) : Bool := followsTwin s && s.twin.lossHold.isNone

/-- CORE runs (R281, R324). -/
def coreRuns (s : State) : Bool := !s.clk.coreGated && s.boot.held == .none

/-- An event of the device's own blocks reaches them only outside a reset (R460 to R463): held in reset they stand still. -/
def awake (f : State → State) (s : State) : State := if s.boot.held = .none then f s else s

end Sys2Proof.Machine
end

