-- ==== Sys2Proof/Machine/TwinCore.lean ====
section
/-!
DEFINITION. The operations on the twin role that other chapters call (12_twin_failover.md): state changes, giving up the
Quoin (R344), sending cells (R356).
-/

namespace Sys2Proof.Machine

/-- Entries in flight are void: no standby acknowledged them, so they were never accepted. What their journal write fixed is undone
(R92, R102). -/
def voidFlight (s : State) : State :=
  let evs := s.galley.inflight.filterMap (·.ev)
  let heap := (evs.map fun e => if bit e.e.w0 8 then e.payload.length else 0).sum
  let c := s.comp
  let open2 := (c.queue ++ c.sel ++ c.landing ++ c.held).any fun e => bits e.e.w0 31 24 == 2
  { s with
    galley := { s.galley with inflight := [], heapUsed := s.galley.heapUsed - heap }
    cistern := { s.cistern with segs := s.cistern.segs.filter fun g => !(evs.any fun e => e.ticket == g.ticket) }
    basin := { s.basin with lock := s.basin.lock && (open2 || !(evs.any fun e => bits e.e.w0 31 24 == 2)) } }

/-- A device that leaves ACTIVE writes no further response (R92); what a standby held back waits no more. -/
def leaveRole (t : TwinState) (s : State) : State :=
  let s1 := if s.twin.st = .active ∧ ¬ s.galley.inflight.isEmpty then voidFlight s else s
  if t = .standbyHot then s1 else { s1 with twin := { s1.twin with galOwed := [], galHeld := [] } }

/-- Enter a twin state: ISTAT.STATE on a change; leaving SOLO or FENCED disarms an injection (R423), and leaving SOLO clears
`MATRIX.CFG.TEST` (R405). -/
def setTwin (t : TwinState) (s : State) : State :=
  if s.twin.st = t then s
  else
    let s0 := leaveRole t (if s.twin.st = .solo then rput aMATRIX_CFG 0 0 0 s else s)
    let s1 := iset pgTWIN 0 { s0 with twin := { s0.twin with st := t } }
    if t = .solo ∨ t = .fenced then s1 else { s1 with fab := { s1.fab with arm := none } }

/-- Release the outputs: no lease, nothing driven (R343, R344). -/
def releaseOutputs (s : State) : State :=
  let s1 := { s with twin := { s.twin with drive := false, lease := none, grantWait := none } }
  if s.twin.drive then iset pgTWIN 1 s1 else s1

/-- ARB_HB holds its level. -/
def hbStatic (s : State) : State := { s with arb := { s.arb with hbRun := false } }

/-- ARB_HB toggles: one edge (R343, R368). -/
def hbToggle (s : State) : State :=
  cnt aARB_HB_CNT { s with arb := { s.arb with hb := !s.arb.hb, hbRun := true } }

/-- Enter FAULTED with an FCAUSE (Table 12-11): outputs released, ARB_HB static, alarm 7. -/
def enterTwinFault (cause : Nat) (s : State) : State :=
  let s1 := setTwin .faulted (hbStatic (releaseOutputs s))
  alarm 7 { s1 with twin := { s1.twin with fcause := cause, release := none, phase := 0, lossHold := none } }

/-- Enter FENCED. -/
def enterFenced (s : State) : State :=
  let s1 := setTwin .fenced (hbStatic (releaseOutputs s))
  { s1 with twin := { s1.twin with release := none, phase := 0, lossHold := none } }

/-- A requested release (R344): only on an ACTIVE device whose partner is STANDBY_HOT. The first one stands. -/
def requestRelease (r : Release) (s : State) : State :=
  if s.twin.st = .active ∧ partnerHot s ∧ s.twin.release = none then
    { s with twin := { s.twin with release := some r } }
  else s

/-- An immediate release (R344): FAULTED at once. -/
def immediateRelease (cause : Nat) (s : State) : State :=
  if s.twin.st = .active then enterTwinFault cause s else s

/-- A fault of a standby (Table 12-1). -/
def standbyFault (cause : Nat) (s : State) : State :=
  if s.twin.st = .standbyHot ∨ s.twin.st = .standbyWarm then enterTwinFault cause s else s

/-- An uncorrectable ECC error (R344, R416): the Quoin goes at once to a STANDBY_HOT partner; a standby is FAULTED. -/
def twinEccFault (s : State) : State :=
  if s.twin.st = .active then (if partnerHot s then immediateRelease 3 s else s) else standbyFault 3 s

/-- Send a cell (R356): sequence per channel, the frame tag of the present frame; nothing is sent while the link is down.
The last 256 cells sent are kept. -/
def sendCell (ch : Nat) (body : CellBody) (s : State) : State :=
  if s.twin.link then
    let q := alGet 0 s.twin.seqTx ch
    { s with twin := { s.twin with
        seqTx := alSet s.twin.seqTx ch ((q + 1) % 65536)
        sent := (⟨ch, q, s.tb.frame % 2 ^ 20, body⟩ :: s.twin.sent).take 256 } }
  else s

/-- The partner is lost (R358, R359). -/
def partnerLost (s : State) : State :=
  if s.twin.pstate = 0xF then s
  else
    let s1 := sendCell 8 .fence (alarm 8 (iset pgTWIN 6 { s with twin := { s.twin with pstate := 0xF, mirrorCh := [] } }))
    match s1.twin.st with
    | .standbyHot => { s1 with twin := { s1.twin with lossHold := some (s1.tb.frame + zeroIs1 (rfld s1 aTWIN_CFG 23 16)) } }
    | .standbyWarm | .syncing => enterFenced s1
    | _ => s1

/-- A self-check condition of R351 has occurred in the present frame. -/
def markBad (s : State) : State :=
  { s with twin := { s.twin with selfBad := (s.tb.frame :: s.twin.selfBad).take 8 } }

/-- The device is a candidate (R341): its partner, if it knows one, neither holds nor is about to take the Quoin (R342, R344, R349; log
entry 36). -/
def candidate (s : State) : Bool :=
  s.twin.st == .fenced && s.twin.paired && s.twin.negDone && !s.twin.cfgDiff && s.clk.lockA && s.clk.lockD && s.clk.lockM
    && !(s.cistern.st == .lost) && !(s.cistern.st == .degraded) && !(decide (1 ≤ s.twin.pstate ∧ s.twin.pstate ≤ 4))

/-- Does ARB_HB toggle at a tick (Table 12-1)? An ACTIVE device toggles with its renewal (R343). -/
def hbTogglesAtTick (s : State) : Bool :=
  s.twin.st == .solo || s.twin.st == .standbyHot || candidate s

/-- ARB_GRANT as it acts: filtered, and neither stuck nor chattering (R345). -/
def grantSeen (s : State) : Bool := s.arb.filt && !s.arb.stuck && !s.arb.chatter

end Sys2Proof.Machine
end

