-- ==== Sys2Proof/Machine/Ecc.lean ====
section
/-!
DEFINITION. The SECDED codes (14_fabric_memory_integrity.md R413, R414), the record of errors (R415, R416), error injection
(R423), and reads and writes of memory words under them.
-/

namespace Sys2Proof.Machine

/-- A power of two? -/
def isPow2 (n : Nat) : Bool := n != 0 && n &&& (n - 1) == 0

/-- The positions of the data bits from position `p` on, `n` of them: those that are not powers of two (R413). -/
def dataPos : Nat → Nat → Nat → List Nat
  | 0, _, _ => []
  | _, 0, _ => []
  | fuel + 1, n + 1, p => if isPow2 p then dataPos fuel (n + 1) (p + 1) else p :: dataPos fuel n (p + 1)

/-- Code positions in the order of a flip mask: the data bits, then the check bits but the last; the last check bit has
position 0, since it enters the parity alone. -/
def codePos (cist : Bool) : List Nat :=
  if cist then dataPos 80 64 1 ++ [1, 2, 4, 8, 16, 32, 64, 0] else dataPos 40 32 1 ++ [1, 2, 4, 8, 16, 32, 0]

/-- Syndrome and parity of a flip mask (R414). -/
def syndrome (cist : Bool) (flips : Nat) : Nat × Bool :=
  ((codePos cist).zipIdx.foldl (fun a x => if flips.testBit x.2 then (a.1 ^^^ x.1, !a.2) else a) (0, false))

/-- Highest code position (R413). -/
def maxPos (cist : Bool) : Nat := if cist then 71 else 38

/-- Table 14-5. -/
inductive EccOut where
  | ok
  | corr (residual : Nat)
  | ue
  deriving DecidableEq, Repr

/-- Table 14-5: the outcome of a read of a word with these flips. A corrected word keeps the residual: the flips with the
bit at position s inverted back. -/
def eccOut (cist : Bool) (flips : Nat) : EccOut :=
  if flips = 0 then .ok
  else
    let sp := syndrome cist flips
    if sp.2 then
      if sp.1 = 0 then .corr (flips ^^^ (1 <<< (codePos cist).length - 1))
      else if sp.1 ≤ maxPos cist then
        let i := (codePos cist).findIdx (· == sp.1)
        .corr (flips ^^^ (1 <<< i))
      else .ue
    else if sp.1 = 0 then .ok else .ue

/-- The word key of an address: SRAM words by their byte address, Cistern words (64 bits) from 0x1_0000_0000 on. -/
def cistBase : Nat := 0x100000000
def keyOf (a : Nat) : Nat := if a < cistBase then a / 4 * 4 else a / 8 * 8
def keyCist (k : Nat) : Bool := decide (cistBase ≤ k)

/-- The flips of the word that holds address `a`. -/
def flipsAt (s : State) (a : Nat) : Nat := alGet 0 s.fab.flips (keyOf a)

def setFlips (a v : Nat) (s : State) : State :=
  { s with fab := { s.fab with flips := if v = 0 then alDel s.fab.flips (keyOf a) else alSet s.fab.flips (keyOf a) v } }

/-- A read of the word at `a` meets an uncorrectable error. -/
def ueAt (s : State) (a : Nat) : Bool := eccOut (keyCist (keyOf a)) (flipsAt s a) == .ue

/-- The memory group of an address (R426): Press local memory, shared SRAM, Basin store, Cistern. -/
def eccGroup (a : Nat) : Option (Fin 4) :=
  if cistBase ≤ a then some 3
  else if 0x400000 ≤ a ∧ a < 0xC00000 then some 0
  else if 0x200000 ≤ a ∧ a < 0x400000 then some 1
  else if 0x1000000 ≤ a ∧ a < 0x1800000 then some 2
  else none

/-- The address in the form of the ECC page (R426). -/
def eccForm (a : Nat) : Nat := if cistBase ≤ a then (a - cistBase) / 64 else a / 4

/-- LAST_ADDR and LAST_SYND of an error (R415, Table 14-11). -/
def eccLast (a : Nat) (ue : Bool) (s : State) : State :=
  let sp := syndrome (keyCist (keyOf a)) (flipsAt s a)
  let g := match eccGroup a with | some g => g.val | none => 0
  rset aECC_LAST_ADDR (w32 (eccForm a)) (rset aECC_LAST_SYND (flg ue 31 ||| fld g 28 ||| flg sp.2 8 ||| fld sp.1 0) s)

/-- Free entries of a remap table: base index address, count. -/
def remapTable (g : Fin 4) : List Nat :=
  match g with
  | 0 => (List.range 4).map (fun i => aECC_REMAP_PL i)
  | 1 => (List.range 4).map (fun i => aECC_REMAP_SH i)
  | 2 => (List.range 4).map (fun i => aECC_REMAP_BS i)
  | 3 => (List.range 16).map (fun i => aECC_REMAP_DR i)

/-- Is the address served from a spare (R417)? -/
def remapped (s : State) (g : Fin 4) (form : Nat) : Bool :=
  (remapTable g).any fun r => rbit s r 31 && rfld s r 27 0 == form

/-- Remap on recurrence: the corrected word is copied into a free entry, VALID and AUTO (R417). -/
def autoRemap (a : Nat) (g : Fin 4) (s : State) : State :=
  let form := eccForm a
  let l := s.fab.ceList[g]
  let s1 := { s with fab := { s.fab with ceList := s.fab.ceList.set g ((form :: l).take (if g = 3 then 16 else 8)) } }
  if l.contains form && rbit s aECC_CFG 1 && !remapped s g form then
    match (remapTable g).find? (fun r => !rbit s r 31) with
    | some r => iset pgECC 3 (rset r (flg true 31 ||| flg true 30 ||| fld form 0) (setFlips a 0 s1))
    | none => iset pgECC 4 s1
  else s1

/-- Flip the data bits of a residual into the stored data: the code word is then valid with that data (R415). -/
def settleData (a residual : Nat) (s : State) : State :=
  if residual = 0 then s
  else if cistBase ≤ a then
    let b := keyOf a - cistBase
    let f (j : Nat) (s : State) := cwByte (b + j) (cdByte s (b + j) ^^^ BitVec.ofNat 8 (residual >>> (8 * j))) s
    f 7 (f 6 (f 5 (f 4 (f 3 (f 2 (f 1 (f 0 s)))))))
  else wrWord (keyOf a) (rdWord s (keyOf a) ^^^ w32 residual) s

/-- A correctable error found at `a`: corrected data delivered, the rewrite queued, the error recorded, AUTOREMAP (R415,
R417). -/
def eccCorrect (a residual : Nat) (s : State) : State :=
  match eccGroup a with
  | none => s
  | some g =>
    let s1 := iset pgECC 0 (cnt (aECC_CE_CNT g) (eccLast a false s))
    let s2 := if g = 3 then { s1 with cistern := { s1.cistern with ceNow := s1.cistern.ceNow + 1 } } else s1
    let s3 := setFlips a (flipsAt s a ^^^ residual) (settleData a residual s2)
    autoRemap a g { s3 with fab := { s3.fab with rewrite := if s3.fab.rewrite.contains (keyOf a) then s3.fab.rewrite
                                                              else s3.fab.rewrite ++ [keyOf a] } }

/-- An uncorrectable error found at `a` (R416); the reader's effect is the reader's own. -/
def eccUncorrectable (a : Nat) (s : State) : State :=
  match eccGroup a with
  | none => s
  | some g =>
    twinEccFault (errcap pgECC 1 (eccForm a) (alarm 4 (iset pgECC 1 (cnt (aECC_UE_CNT g) (eccLast a true s)))))

/-- A read of the word that holds `a`: the state with any error recorded, and whether it was uncorrectable. -/
def eccRead (a : Nat) (s : State) : State × Bool :=
  match eccOut (keyCist (keyOf a)) (flipsAt s a) with
  | .ok => (s, false)
  | .corr r => (eccCorrect a r s, false)
  | .ue => (eccUncorrectable a s, true)

/-- A staging miss (R37, R416): counted, with CISTERN_LATE. -/
def stageMiss (s : State) : State := iset pgDDRC 8 (cnt aDDRC_STAGE_MISS_CNT s)

/-- A word that a data-plane DMA reads: an uncorrectable word is delivered as 0, as a staging miss (R416, Table 14-6). -/
def dmaRead (a : Nat) (s : State) : Word × State :=
  if s.fab.flips.isEmpty then (rdWord s a, s)
  else
    let r := eccRead a s
    if r.2 then (0, stageMiss r.1) else (rdWord r.1 a, r.1)

/-- Does the armed injection take a write at `a` (R423)? -/
def armedFor (s : State) (a : Nat) : Option Inject :=
  match s.fab.arm with
  | none => none
  | some i =>
    if (eccGroup a).map Fin.val == some i.group && (i.addr == none || i.addr == some (eccForm a))
        && (decide (a < cistBase) || (a / 8) % 8 == i.lane) then some i else none

/-- The code word at `a` is freshly written: its flips go, or the armed injection inverts the selected bits (R423). -/
def freshen (a : Nat) (s : State) : State :=
  match armedFor s a with
  | some i => iset pgECC 7 (setFlips a i.mask { s with fab := { s.fab with arm := none } })
  | none => if s.fab.flips.isEmpty then s else setFlips a 0 s

/-- Store a whole 32-bit word with its code. -/
def stWord (a : Nat) (v : Word) (s : State) : State := freshen a (wrWord a v s)

/-- Store consecutive words with their codes. -/
def stWords (a : Nat) : List Word → State → State
  | [], s => s
  | v :: t, s => stWords (a + 4) t (stWord a v s)

/-- A write of part of a word is a read-modify-write in one slot: an uncorrectable error discards it (R412). The answer
says whether the write took effect. -/
def stWordBe (a : Nat) (be : BitVec 4) (v : Word) (s : State) : State × Bool :=
  if be = 0xF#4 then (stWord a v s, true)
  else
    let r := eccRead a s
    if r.2 then (r.1, false) else (freshen a (wrWordBe a be v r.1), true)

end Sys2Proof.Machine
end

