-- ==== Sys2Proof/Machine/Comp.lean ====
section
/-!
DEFINITION. The Compositor: pending events, completion, cancellation, dependants and the selection of each boundary (chapters
02 and 03).
-/

namespace Sys2Proof

/-! ### Entry fields (Table 03-2) -/

def Entry.opcode (e : Entry) : Nat := Machine.bits e.w0 31 24
def Entry.client (e : Entry) : Nat := Machine.bits e.w0 23 20
def Entry.axis (e : Entry) : Nat := Machine.bits e.w0 19 16
def Entry.cls (e : Entry) : Nat := Machine.bits e.w0 15 12
def Entry.notify (e : Entry) : Bool := Machine.bit e.w0 9
def Entry.ptr (e : Entry) : Bool := Machine.bit e.w0 8
def Entry.len (e : Entry) : Nat := Machine.bits e.w0 7 0
/-- The trigger w3:w2. -/
def Entry.trig (e : Entry) : Nat := e.w2.toNat + 2 ^ 32 * e.w3.toNat

end Sys2Proof

namespace Sys2Proof.Machine

/-- Opcodes of Table 03-3. -/
abbrev opWriteParam : Nat := 0x01
abbrev opRecall : Nat := 0x02
abbrev opSluice : Nat := 0x03
abbrev opPlay : Nat := 0x04
abbrev opStopPlay : Nat := 0x05
abbrev opRecord : Nat := 0x06
abbrev opSetGainZc : Nat := 0x07
abbrev opPressMsg : Nat := 0x08
abbrev opMark : Nat := 0x09
abbrev opCancel : Nat := 0x0A

/-- Outcomes of Table 02-4. -/
abbrev outOnTime : Nat := 0
abbrev outLate : Nat := 1
abbrev outPassed : Nat := 2
abbrev outDropped : Nat := 3
abbrev outCancelled : Nat := 4
abbrev outDepCancelled : Nat := 5
abbrev outTooLate : Nat := 6

/-- Memory of bank 2 (Table 03-1). -/
abbrev galleyRing : Nat := 0x300000
abbrev respRing : Nat := 0x320000
abbrev compRing : Nat := 0x328000

/-! ### Pending events -/

/-- Events that are pending: queued or selected, not yet executed (R62). -/
def pendingEvs (s : State) : List Ev := s.comp.queue ++ s.comp.sel

/-- Events in flight: journaled and not yet handed to the Compositor (R90). -/
def flightEvs (s : State) : List Ev := s.galley.inflight.filterMap (·.ev)

/-- Every event that counts as pending (R62). -/
def allPending (s : State) : List Ev := pendingEvs s ++ flightEvs s

/-- Change the events in flight: time passes for them as for the queue. -/
def mapFlight (f : Ev → Ev) (s : State) : State :=
  { s with galley := { s.galley with inflight := s.galley.inflight.map fun x => { x with ev := x.ev.map f } } }

/-- Every ticket whose entry has not completed. -/
def openEvs (s : State) : List Ev :=
  s.comp.queue ++ s.comp.sel ++ s.comp.landing ++ s.comp.running ++ s.comp.held

def findEv (t : Word) (l : List Ev) : Option Ev := l.find? (fun e => e.ticket == t)
def dropEv (t : Word) (l : List Ev) : List Ev := l.filter (fun e => e.ticket != t)

/-- Heap words that the entry holds (R77). -/
def heapOf (e : Ev) : Nat := if e.e.ptr then e.payload.length else 0

/-! ### Completion (R98) -/

/-- Write the completion record of an entry, and remember it among the last 4096 (R52, R96, R98). -/
def record (e : Ev) (outcome late land done : Nat) (s : State) : State :=
  let a := compRing + 16 * ((rget s aGALLEY_CPROD).toNat % 4096)
  let w1 := fld e.e.opcode 24 ||| fld e.e.client 20 ||| fld outcome 16 ||| fld (if outcome = outLate then min late 0xFFFF else 0) 0
  let s1 := stWords a [e.ticket, w1, lo32 land, lo32 done] s
  let s2 := rset aGALLEY_TICKET_DONE e.ticket (cnt aGALLEY_CPROD s1)
  let s3 := if e.e.notify then iset pgGALLEY 2 s2 else s2
  let s4 := if outcome = outLate then iset pgCOMPOSITOR 0 (cnt aCOMPOSITOR_LATE_CNT s3) else s3
  let s5 := if outcome = outDropped then iset pgCOMPOSITOR 1 (cnt aCOMPOSITOR_DROP_CNT s4) else s4
  let s6 := if outcome = outDepCancelled then iset pgCOMPOSITOR 5 s5 else s5
  { s6 with
    comp := { s6.comp with done := (⟨e.ticket, e.e.opcode, e.e.client, outcome, done⟩ :: s6.comp.done).take 4096 }
    galley := { s6.galley with heapUsed := s6.galley.heapUsed - heapOf e } }

/-- AFTER events that wait for a ticket. -/
def waitsFor (t : Word) (e : Ev) : Bool := e.e.axis == 6 && e.e.w2 == t && e.due == none

/-- An AFTER event in flight whose reference is cancelled or dropped is not executed (R52). -/
def deadInFlight (t : Word) (e : Ev) : Ev := if waitsFor t e then { e with due := some e.f0, depDead := true } else e

/-- AFTER events behind a cancelled or dropped ticket complete DEP_CANCELLED, and so on in turn (R52). One that is in flight completes so
on the first selection after its acceptance. -/
def cancelDeps : Nat → Word → State → State
  | 0, _, s => s
  | n + 1, t, s0 =>
    let s := mapFlight (deadInFlight t) s0
    (s.comp.queue.filter (waitsFor t)).foldl (fun s d =>
      cancelDeps n d.ticket
        (record d outDepCancelled 0 0 s.tb.frame { s with comp := { s.comp with queue := dropEv d.ticket s.comp.queue } })) s

/-- Order of execution: due frame, then ticket (R64). -/
def evBefore (a b : Ev) : Bool :=
  let x := a.due.getD 0
  let y := b.due.getD 0
  decide (x < y) || (x == y && decide ((a.ticket - b.ticket).toInt < 0))

def evPut (e : Ev) : List Ev → List Ev
  | [] => [e]
  | h :: t => if evBefore e h then e :: h :: t else h :: evPut e t

def evSort (l : List Ev) : List Ev := l.foldr evPut []

/-- Most executions in a frame (R34, R64). -/
abbrev maxExec : Nat := 64

/-- Apply a CANCEL to its target (R64, R97): a queued target is removed and completes CANCELLED, its dependants with it; any other known
target runs or has completed. The answer is the CANCEL's own outcome. -/
def applyCancel (target : Word) (s : State) : State × Nat :=
  match findEv target s.comp.queue with
  | some e =>
    let s1 := record e outCancelled 0 0 s.tb.frame { s with comp := { s.comp with queue := dropEv target s.comp.queue } }
    (cancelDeps (s1.comp.queue.length + 1) target s1, outOnTime)
  | none => (s, outTooLate)

/-- A selected CANCEL leaves the queue and acts; it takes its outcome with it to its landing frame (R64). -/
def selectCancel (e : Ev) (s : State) : State × Ev :=
  let r := applyCancel (e.payload.getD 0 0) { s with comp := { s.comp with queue := dropEv e.ticket s.comp.queue } }
  (r.1, if r.2 = outOnTime then e else { e with out := some outTooLate })

/-- Deferral begins, or goes on (Table 02-10). -/
def deferred (s : State) : State :=
  let s1 := { s with comp := { s.comp with backlog := true } }
  if s.comp.backlog then s1 else iset pgCOMPOSITOR 2 s1

/-- An event whose due frame is the coming one joins the selection for it, which is still open (R52, R64). When the frame is
full, the last in order that is no CANCEL is deferred: a selected CANCEL has acted. -/
def joinSel (e : Ev) (s : State) : State :=
  let free (x : Ev) : Bool := x.e.opcode != opCancel
  if s.comp.sel.length ≥ maxExec ∧ ¬ (e :: s.comp.sel).any free then deferred s
  else
    let r := if free e then ({ s with comp := { s.comp with queue := dropEv e.ticket s.comp.queue } }, e) else selectCancel e s
    let l := evPut r.2 r.1.comp.sel
    match if l.length > maxExec then l.reverse.find? free else none with
    | some b =>
      deferred { r.1 with comp := { r.1.comp with sel := dropEv b.ticket l, queue := b :: r.1.comp.queue } }
    | none => { r.1 with comp := { r.1.comp with sel := l } }

/-- An AFTER event takes its due frame: its reference completed on frame `c` (R49, R52). -/
def afterDue (s : State) (c : Nat) (d : Ev) : Ev :=
  let first := max d.f0 (s.tb.frame + 1)
  let due := c + 1 + d.e.w3.toNat
  if due < first then { d with due := some first, passed := true } else { d with due := some due }

/-- The AFTER events of a ticket that completed on frame `c` get their due frame (R49, R52). -/
def releaseDeps (t : Word) (c : Nat) (s : State) : State :=
  let s0 := mapFlight (fun d => if waitsFor t d then afterDue s c d else d) s
  (s0.comp.queue.filter (waitsFor t)).foldl (fun s d =>
    let d' := afterDue s c d
    let next := s.tb.frame + 1
    let s1 := { s with comp := { s.comp with queue := s.comp.queue.map fun x => if x.ticket = d.ticket then d' else x } }
    if (findEv d.ticket s.comp.queue).isSome ∧ d'.due = some next ∧ d.f0 ≤ next ∧ s.tb.ticking then joinSel d' s1 else s1) s0

/-- An entry is over: its record is written, and its dependants follow. -/
def finish (e : Ev) (outcome late land done : Nat) (s : State) : State :=
  let s1 := record e outcome late land done s
  if outcome = outCancelled ∨ outcome = outDropped ∨ outcome = outDepCancelled then
    cancelDeps (s1.comp.queue.length + 1) e.ticket s1
  else releaseDeps e.ticket done s1

/-- Outcome of an event that acted on frame `land` (R50, R65, R69). -/
def outcomeOf (e : Ev) (land : Nat) : Nat × Nat :=
  let due := e.due.getD land
  match e.out with
  | some o => (o, if o = outLate then land - due else 0)
  | none =>
    if land > due then (outLate, land - due) else if e.passed then (outPassed, 0) else (outOnTime, 0)

/-- An event that acted on its `land` frame completes on frame `done`. -/
def finishAt (e : Ev) (done : Nat) (s : State) : State :=
  let o := outcomeOf e e.land
  finish e o.1 o.2 e.land done s

/-! ### The head of the landing list (R127) -/

/-- The entry that acts next on this frame, when it is the one named and has the opcode. -/
def landingHead (s : State) (t : Word) (op : Nat) : Option Ev :=
  match s.comp.landing with
  | [] => none
  | e :: _ => if e.ticket = t ∧ e.e.opcode = op then some { e with land := s.tb.frame } else none

/-- It has acted: off the list. -/
def popLanding (s : State) : State := { s with comp := { s.comp with landing := s.comp.landing.drop 1 } }

/-- It goes on, and completes later. -/
def keepRunning (e : Ev) (s : State) : State := { s with comp := { s.comp with running := s.comp.running ++ [e] } }

/-- It is held after release (R65). -/
def holdEv (e : Ev) (s : State) : State := { s with comp := { s.comp with held := s.comp.held ++ [e] } }

/-- A running entry completes on frame `done`. -/
def finishRunning (t : Word) (done : Nat) (s : State) : State :=
  match findEv t s.comp.running with
  | none => s
  | some e => finishAt e done { s with comp := { s.comp with running := dropEv t s.comp.running } }

/-! ### Cancellation at acceptance (R62, R97) -/

/-- An IMM CANCEL acts and completes at acceptance, and is never pending. -/
def applyImmCancel (e : Ev) (s : State) : State :=
  let r := applyCancel (e.payload.getD 0 0) s
  finish e r.2 0 s.tb.frame s.tb.frame r.1

/-! ### When an event is due (R48 to R51) -/

/-- The width of an axis in bits. -/
def axisBits (axis : Nat) : Nat := if axis = 3 ∨ axis = 4 then 48 else if axis = 5 then 32 else 64

/-- Position in whole mm, rounded toward negative infinity (R55). -/
def posMm (p : Int) : Int := p.fdiv (65536 * 1000)

/-- A difference of positions in the signed arithmetic of 48 bits of mm, to the internal precision (R48, R55). -/
def wrapPos (x : Int) : Int := (x + 2 ^ 47 * 65536000) % (2 ^ 48 * 65536000) - 2 ^ 47 * 65536000

/-- The trigger of a POS entry, µm with 16 fractional bits. -/
def posTrig (e : Entry) : Int := sgn 48 e.trig * 65536000

/-- Has the position `p` reached the POS trigger, in the sense of its axis? -/
def posReached (e : Entry) (p : Int) : Bool :=
  decide (0 ≤ if e.axis = 3 then wrapPos (p - posTrig e) else wrapPos (posTrig e - p))

/-- d of an event, for the frame that the last boundary's samples select: signed in the width of its axis; reversed for
POS_REV. POS compares the internal value (R55), in µm with 16 fractional bits. The two nominal frame periods of the PTP axis are
rounded down to a whole ns (DESIGN CHOICE, log entry 73: R49 gives them no rounding). -/
def axisD (s : State) (e : Entry) (frame : Nat) : Int :=
  match e.axis with
  | 1 => sgn 64 (unsgn 64 ((frame : Int) - e.trig))
  | 2 => sgn 64 (unsgn 64 ((s.tb.ptpNow : Int) + (2 * period s / 1000 : Nat) - 1 - e.trig))
  | 3 => wrapPos (s.tb.posEnd2 - posTrig e)
  | 4 => wrapPos (posTrig e - s.tb.posEnd2)
  | 5 => sgn 32 (unsgn 32 ((s.tb.cntNow : Int) - e.w2.toNat))
  | _ => 0

/-- The direction of a frame lets a POS event be crossed (R51). -/
def dirAllows (s : State) (axis : Nat) : Bool :=
  if axis = 3 then decide (s.tb.posEnd2 > s.tb.posEnd) else if axis = 4 then decide (s.tb.posEnd2 < s.tb.posEnd) else true

/-- The horizon check of R48: |d| beyond a quarter of the range (Table 02-1). -/
def outOfHorizon (s : State) (e : Entry) (frame : Nat) : Bool :=
  let d := axisD s e frame
  match e.axis with
  | 1 | 2 => decide (d.natAbs > 2 ^ 62)
  | 3 | 4 => decide (d.natAbs > 2 ^ 46 * 65536000)
  | 5 => decide (d.natAbs > 2 ^ 30)
  | _ => false

/-- Judge an event at a selection for `frame` (R50, R51): it takes its due frame when d ≥ 0, and has a passed trigger when
that already holds before f0. -/
def judge (s : State) (frame : Nat) (e : Ev) : Ev :=
  if e.due.isSome then e
  else if e.e.axis = 0 ∨ e.e.axis = 6 ∨ e.e.axis > 6 then e
  else if axisD s e.e frame ≥ 0 then
    if frame < e.f0 then { e with due := some e.f0, passed := true }
    else if dirAllows s e.e.axis then { e with due := some frame } else e
  else e

/-- Judge at acceptance (R50, R51): the last samples stand for the frame they select. -/
def judgeNew (s : State) (frame : Nat) (e : Ev) : Ev :=
  if e.due.isSome then e
  else if e.e.axis = 0 ∨ e.e.axis > 5 then e
  else if axisD s e.e frame ≥ 0 then { e with due := some e.f0, passed := true } else e

/-- Judge an event on the first frame after a gap in the frame ticks (R102, R325). A trigger that passed in the gap makes it LATE. A
PTP trigger has its due frame as if frames had gone on; one of POS or CNT is due on this frame (log entry 31). -/
def judgeGap (s : State) (e : Ev) : Ev :=
  let f := s.tb.frame
  let at_ (due : Nat) (late : Bool) : Ev :=
    if f < e.f0 then { e with due := some e.f0, out := if late then some outLate else e.out }
    else { e with due := some due, out := if late then some outLate else e.out }
  if e.due.isSome then e
  else
    match e.e.axis with
    | 1 =>
      let d := axisD s e.e f
      if d ≥ 0 then at_ (f - d.toNat) (decide (d > 0)) else e
    | 2 =>
      let p : Int := (period s / 1000 : Nat)
      let x := sgn 64 (unsgn 64 ((s.tb.ptpNow : Int) - e.e.trig))
      if x > 0 then at_ (f - ((x + p - 1) / p).toNat) true else if x + p > 0 then at_ f false else e
    | 3 | 4 =>
      if posReached e.e s.tb.posNow then at_ f true else if posReached e.e s.tb.posEnd then at_ f false else e
    | 5 => if axisD s e.e f ≥ 0 then at_ f true else e
    | _ => e

/-- Has the trigger passed by the boundary that starts the present frame? -/
def passedBy (s : State) (e : Entry) : Bool :=
  match e.axis with
  | 2 => decide (sgn 64 (unsgn 64 ((s.tb.ptpNow : Int) - e.trig)) > 0)
  | 3 | 4 => posReached e s.tb.posNow
  | 5 => decide (axisD s e s.tb.frame ≥ 0)
  | _ => false

/-- Judge an event at the first selection after a rate change: a PTP, POS or CNT trigger that passed during the hold becomes due there
and is LATE (R332). -/
def judgeHold (s : State) (frame : Nat) (e : Ev) : Ev :=
  if e.due.isSome ∨ ¬ passedBy s e.e then judge s frame e else { e with due := some (max frame e.f0), out := some outLate }

/-! ### Selection (R64) -/

/-- Deferral limit of class C (R65). -/
def cdrop (s : State) : Nat := zeroIs1 (rfld s aCOMPOSITOR_CFG 7 0)

/-- A class C event deferred by more than CDROP frames at the selection for `frame`. Deferral counts from the first frame that it could
be selected for: an event that a time step passed waits for g + 2 without being deferred (R67). -/
def dropDue (s : State) (frame : Nat) (e : Ev) : Bool :=
  e.e.cls == 2 && match e.due with | some d => decide (frame > max d e.f0 + cdrop s) | none => false

/-- Is the event due for `frame`, with its acceptance early enough? -/
def dueFor (frame : Nat) (e : Ev) : Bool :=
  (match e.due with | some d => decide (d ≤ frame) | none => false) && decide (e.f0 ≤ frame)

/-- Apply the selected CANCELs in order. -/
def selectCancels (l : List Ev) (s : State) : State :=
  l.foldl (fun s e =>
    let r := selectCancel e s
    { r.1 with comp := { r.1.comp with sel := r.1.comp.sel ++ [r.2] } }) s

/-- A selection for frame `f`, with the judgement of its axis triggers (R35, R50, R64). Events in flight are judged with the queue. -/
def selectWith (f : Nat) (jd : State → Ev → Ev) (s : State) : State :=
  let s0 := mapFlight (jd s) s
  let q := s0.comp.queue.map (jd s0)
  -- AFTER entries behind a cancelled ticket complete at their selection (R52)
  let dead := q.filter fun e => e.depDead && decide (e.f0 ≤ f)
  let s1 := dead.foldl (fun s e => finish e outDepCancelled 0 0 s.tb.frame s)
    { s0 with comp := { s0.comp with queue := q.filter fun e => !(e.depDead && decide (e.f0 ≤ f)) } }
  let dueL := evSort (s1.comp.queue.filter fun e => dueFor f e && !dropDue s1 f e)
  let cancels := dueL.filter fun e => e.e.opcode == opCancel
  let cans := cancels.take (maxExec - s1.comp.sel.length)
  let s2 := selectCancels cans s1
  let rest := evSort (s2.comp.queue.filter fun e => dueFor f e && !dropDue s2 f e && e.e.opcode != opCancel)
  let room := maxExec - s2.comp.sel.length
  let go := rest.take room
  let late := rest.drop room
  let back := !late.isEmpty || decide (cans.length < cancels.length)
  let s3 := { s2 with comp := { s2.comp with
      queue := s2.comp.queue.filter fun e => !(go.any fun g => g.ticket == e.ticket)
      sel := evSort (s2.comp.sel ++ go)
      backlog := back } }
  let s4 := if back && !s.comp.backlog then iset pgCOMPOSITOR 2 s3 else s3
  (s3.comp.sel).foldl (fun s e => peak aCOMPOSITOR_DEFER_MAX (f - e.due.getD f) s) s4

/-- The selection at the boundary that starts frame `f`, for frame f + 1 (R35, R64). -/
def selectFor (s : State) : State := selectWith (s.tb.frame + 1) (fun s0 => judge s0 (s.tb.frame + 1)) s

/-- The first selection after a rate change (R332). -/
def selectHold (s : State) : State := selectWith (s.tb.frame + 1) (fun s0 => judgeHold s0 (s.tb.frame + 1)) s

/-- Frame h of a rate change starts (Table 11-6, step 5). -/
def resumed (s : State) : Bool :=
  match s.clk.change with
  | some c => c.phase == .fadeIn && c.h == s.tb.frame
  | none => false

/-- The selection of a boundary in RUN. -/
def selectNow (s : State) : State := if resumed s then selectHold s else selectFor s

/-- The selection of the events that passed in a gap, for the first frame after it (R102, R325). -/
def selectGap (s : State) : State := selectWith s.tb.frame judgeGap s

/-- CLASS_C_DROP (R65): the event completes DROPPED, and its dependants DEP_CANCELLED. -/
def classCDrop (t : Word) (s : State) : State :=
  match findEv t s.comp.queue with
  | none => s
  | some e =>
    if dropDue s (s.tb.frame + 1) e then
      finish e outDropped 0 0 s.tb.frame { s with comp := { s.comp with queue := dropEv t s.comp.queue } }
    else s

/-- Hand an event to the Compositor (R62, Table 02-10): the pending count may reach new marks. -/
def enqueue (e : Ev) (s : State) : State :=
  let s1 := { s with comp := { s.comp with queue := s.comp.queue ++ [e] } }
  let n := (pendingEvs s1).length
  let s2 := peak aCOMPOSITOR_PEAK_PEND n s1
  if (pendingEvs s).length ≤ rfld s aCOMPOSITOR_CFG 29 16 ∧ n > rfld s aCOMPOSITOR_CFG 29 16 then iset pgCOMPOSITOR 3 s2 else s2

/-! ### f0 (R49, R50) -/

/-- The first frame whose selection boundary follows time `t` by the margin `m` (ps). The selection boundary of frame f
starts frame f − 1. -/
def firstFrame (s : State) (t m : Nat) : Nat :=
  if t + m ≤ s.tb.tickT + period s ∨ ¬ s.tb.ticking then s.tb.frame + 2 else s.tb.frame + 3

/-- The margin of R32: 64 CORE cycles, in ps. -/
abbrev marginPs : Nat := 64 * 1250

/-- The margin of an IMM entry: 2 µs more (R49). -/
abbrev immMarginPs : Nat := 2000000 + 64 * 1250

end Sys2Proof.Machine
end

