-- ==== Sys2Proof/Machine/Num.lean ====
section
/-!
DEFINITION. The real functions of the mix path in fixed point: sine and cosine for the equal-power law (R115, R131),
powers of ten for levels in dB (R138 to R142), logarithms for the meters (R142). Working precision is 2^-96; each result is
rounded once, convergently, where the spec rounds.
-/

namespace Sys2Proof.Machine

/-- One in the working fixed point. -/
def fxOne : Nat := 2 ^ 96

/-- π in the working fixed point. -/
def fxPi : Nat := 248902613312231085230521944622

/-- ln 2 in the working fixed point. -/
def fxLn2 : Nat := 54916777467707473351141471128

/-- log2 10 in the working fixed point. -/
def fxLog2Ten : Nat := 263190258962436467100402834429

/-- Terms `n, n+2, …` of an alternating series whose next term is `term * x² / ((n+1)(n+2))`. -/
def altSeries : Nat → Nat → Int → Nat → Int
  | 0, _, term, _ => term
  | fuel + 1, n, term, x2 =>
    term - altSeries fuel (n + 2) (term * x2 / fxOne / ((n + 1) * (n + 2) : Nat)) x2

/-- sin (π q / 2) for 0 ≤ q ≤ 1, in the working fixed point. -/
def sinQ (q : Frac) : Int :=
  if q.n = 0 then 0
  else if q.n = q.d then fxOne
  else if 3 * q.n = q.d then fxOne / 2
  else
    let x : Int := (fxPi : Int) * q.n / (2 * q.d : Nat)
    altSeries 24 1 x ((x * x / fxOne).toNat)

/-- cos (π q / 2) for 0 ≤ q ≤ 1. -/
def cosQ (q : Frac) : Int := sinQ ⟨q.d - q.n, q.d⟩

/-- The exponential series Σ x^k / k!, `term` being the term of index `k`. -/
def expSeries : Nat → Nat → Nat → Nat → Nat
  | 0, _, term, _ => term
  | fuel + 1, k, term, x => term + expSeries fuel (k + 1) (term * x / fxOne / (k + 1)) x

/-- 2^x for x ≥ 0 in the working fixed point. -/
def fxPow2 (x : Nat) : Nat :=
  let i := x / fxOne
  let f := x % fxOne
  expSeries 40 0 fxOne (f * fxLn2 / fxOne) * 2 ^ i

/-- 10^(a / b) for an integer a, in the working fixed point. -/
def fxPow10 (a : Int) (b : Nat) : Nat :=
  let y := fxPow2 (a.natAbs * fxLog2Ten / b)
  if a ≥ 0 then y else fxOne * fxOne / y

/-- exp (-a / b) in the working fixed point. -/
def fxExpNeg (a b : Nat) : Nat :=
  fxOne * fxOne / fxPow2 (a * fxOne / b * fxOne / fxLn2)

/-- Fraction bits of log2 of `m`, 1 ≤ m < 2 in 2^-96 units: `n` bits by squaring. -/
def log2Bits : Nat → Nat → Nat → Nat
  | 0, _, acc => acc
  | n + 1, m, acc =>
    let q := m * m / fxOne
    if q ≥ 2 * fxOne then log2Bits n (q / 2) (2 * acc + 1) else log2Bits n q (2 * acc)

/-- log2 of a positive number, in units of 2^-48, of `v` in units of 2^-96 times `2^sh`. -/
def fxLog2 (v sh : Nat) : Int :=
  if v = 0 then 0 else
    let e := Nat.log2 v
    let m := if e ≤ 96 then v * 2 ^ (96 - e) else v / 2 ^ (e - 96)
    ((e : Int) - 96 - sh) * 2 ^ 48 + log2Bits 48 m 0

/-- The 16-bit attenuation round(-20 log10 v × 128) of a level `v = n / 2^b`: 0x0000 for v ≥ 1, 0xFFFF for v < 2^-31
(R142). -/
def attenOf (n b : Nat) : Nat :=
  if n ≥ 2 ^ b then 0
  else if n * 2 ^ 31 < 2 ^ b then 0xFFFF
  else
    -- log10 v = log2 v / log2 10; 2560 · (-log10 v)
    let l := fxLog2 (n * 2 ^ 96) b
    (convDiv (-l * 2560 * fxOne) (2 ^ 48 * fxLog2Ten)).toNat

/-- The 16-bit attenuation of a root mean square whose mean square is `n / 2^b`. -/
def attenRms (n b : Nat) : Nat :=
  if n ≥ 2 ^ b then 0
  else if n * 2 ^ 62 < 2 ^ b then 0xFFFF
  else
    let l := fxLog2 (n * 2 ^ 96) b
    (convDiv (-l * 1280 * fxOne) (2 ^ 48 * fxLog2Ten)).toNat

/-- q₀ + (1 − q₀) (k + 1) / L: a progress that starts at q₀ and reaches 1 on frame L − 1 (R114, R132). -/
def fracUp (q0 : Frac) (k l : Nat) : Frac :=
  if k + 1 ≥ l then ⟨1, 1⟩
  else ⟨q0.n * l + (q0.d - q0.n) * (k + 1), q0.d * l⟩

/-- q₀ − q₀ (k + 1) / L: a progress that falls from q₀ to 0 (R130). -/
def fracDown (q0 : Frac) (k l : Nat) : Frac :=
  if k + 1 ≥ l then ⟨0, 1⟩ else ⟨q0.n * (l - (k + 1)), q0.d * l⟩

/-- The live gain between `s` and `t` at progress q: linear, or equal-power (R115), rounded convergently to the grid of
`s` and `t` (R107). -/
def gainAt (law : Bool) (s t : Int) (q : Frac) : Int :=
  if q.n = 0 then s
  else if q.n = q.d then t
  else if law then
    if t.natAbs ≥ s.natAbs then convDiv (s * fxOne + (t - s) * sinQ q) fxOne
    else convDiv (t * fxOne + (s - t) * cosQ q) fxOne
  else convDiv (s * q.d + (t - s) * q.n) q.d

end Sys2Proof.Machine
end

