-- ==== Sys2Proof/Machine/Gains.lean ====
section
/-!
DEFINITION. Crosspoint words and the changes of live gains: point changes, interpolation slots, recall segments (chapter 04, R112
to R117 and R128 to R130).
-/

namespace Sys2Proof.Machine

/-! ### The Forme in memory (Table 04-5) -/

abbrev oStage2 : Nat := 0x200000
abbrev oRouter : Nat := 0x210000
abbrev oBusSet : Nat := 0x212000
abbrev oMap : Nat := 0x214000
abbrev oOutSet : Nat := 0x21C000
abbrev oZones : Nat := 0x220000
abbrev oRsv : Nat := 0x222000
abbrev formeSize : Nat := 0x240000
/-- Keys of the Jet gains. -/
abbrev kJet : Nat := 0x1000000

/-- The byte address of Forme A or B. -/
def formeBase (b : Bool) : Nat := if b then 0x1400000 else 0x1000000
def liveBase (s : State) : Nat := formeBase s.basin.liveB

/-- A word of the live Forme, by its offset. -/
def liveWord (s : State) (o : Nat) : Word := rdWord s (liveBase s + o)

def setBasin (b : BasinSt) (s : State) : State := { s with basin := b }

/-- Does the offset hold a crosspoint, slot gain or trim word? -/
def isGainKey (o : Nat) : Bool :=
  decide (o % 4 = 0) && (decide (o < oRouter) || (decide (o < oBusSet) && decide (o % 8 = 4)))

/-- The limits of R119: input channels, buses, outputs. -/
def limIn (s : State) : Nat := if s.clk.mult = 2 then 512 else 1024
def limBus (s : State) : Nat := if s.clk.mult = 2 then 256 else 512
def limOut (s : State) : Nat := if s.clk.mult = 2 then 512 else 1024

/-- A live word that the Basin uses at the present rate (R119): higher indices have no effect. -/
def keyInUse (s : State) (key : Nat) : Bool :=
  if key < oStage2 then decide (key / 4 / 512 < limIn s ∧ key / 4 % 512 < limBus s)
  else if key < oRouter then decide ((key - oStage2) / 4 / 32 < limBus s)
  else if key < oBusSet then decide ((key - oRouter) / 8 < limOut s)
  else true

/-! ### Crosspoint words (R112, R113, R117) -/

/-- The live gain of a stored GAIN: eight zero bits appended (R107). -/
def gainOf (w : Word) : Int := sgn 24 w.toNat * 256

/-- A Ramp length code (R113). -/
def rampLen (n : Nat) : Option Nat :=
  if n = 0 ∨ n > 44 then none
  else if n ≤ 3 then some n
  else some ((4 + (n - 4) % 4) * 2 ^ ((n - 4) / 4))

/-- The discipline of a word; `none` when DISC or ARG is invalid. -/
def discOf (s : State) (w : Word) : Option Disc :=
  let a := bits w 29 24
  match bits w 31 30 with
  | 0 => if a = 0 then some .direct else none
  | 1 => (rampLen a).map .ramp
  | 2 => if a = 0 then none else some (.zeroCross (framesOfMs s (4 * a)))
  | _ => none

/-- An invalid word that reaches a change (R117, R147). -/
def badCode (key : Nat) (s : State) : State :=
  if key ≥ kJet then errcap pgJET 3 ((key - kJet) / 4) (iset pgJET 3 s)
  else errcap pgBASIN 3 (liveBase s + key) (iset pgBASIN 3 s)

/-! ### Moves -/

/-- Progress of a move at frame `f` (R114, R116, R130). -/
def moveQ (m : Move) (f : Nat) : Frac :=
  let run (start l : Nat) : Frac :=
    if f < start then m.q0 else if m.up then fracUp m.q0 (f - start) l else fracDown m.q0 (f - start) l
  let fin : Frac := if m.up then ⟨1, 1⟩ else ⟨0, 1⟩
  match m.disc with
  | .direct => if f < m.land then m.q0 else fin
  | .ramp l => run m.land l
  | .zeroCross _ =>
    match m.hit, m.ramp with
    | some h, _ => if f < h then m.q0 else fin
    | none, some r => run r 64
    | none, none => m.q0

/-- The frame on which it reaches its end, when that is known. -/
def moveDone (m : Move) : Option Nat :=
  match m.disc with
  | .direct => some m.land
  | .ramp l => some (m.land + l - 1)
  | .zeroCross _ =>
    match m.hit, m.ramp with
    | some h, _ => some h
    | none, some r => some (r + 63)
    | none, none => none

def isZc (m : Move) : Bool := match m.disc with | .zeroCross _ => true | _ => false

/-- Its gain at frame `f`. -/
def moveGain (m : Move) (f : Nat) : Int := gainAt m.law m.s m.t (moveQ m f)

/-- Still under way on frame `f`. -/
def moveBusy (m : Move) (f : Nat) : Bool :=
  match moveDone m with
  | some d => decide (f ≤ d)
  | none => true

def findMove (s : State) (key : Nat) : Option Move := s.basin.moves.find? (fun m => m.key == key)

def dropMove (key : Nat) (s : State) : State :=
  { s with basin := { s.basin with moves := s.basin.moves.filter fun m => m.key != key } }

/-- Busy interpolation slots on the present frame (R128). -/
def slotsBusy (s : State) : Nat := (s.basin.moves.filter fun m => m.slot && moveBusy m s.tb.frame).length

/-- Most slots (R128). -/
abbrev maxSlots : Nat := 8192

/-- The stored live word behind a key. -/
def keyWord (s : State) (key : Nat) : Word :=
  if key ≥ kJet then rget s (aJET_JGAIN ((key - kJet) / 4)) else liveWord s key

def setKeyWord (key : Nat) (w : Word) (s : State) : State :=
  if key ≥ kJet then rset (aJET_JGAIN ((key - kJet) / 4)) w s else stWord (liveBase s + key) w s

/-- What is left, in 64ths, of a word that acts as GAIN 0 after an uncorrectable error (R416). -/
def ueLeft (s : State) (key f : Nat) : Nat :=
  match s.basin.ueWords.find? (fun x => x.1 == key) with
  | none => 64
  | some (_, u) => 64 - min 64 (f + 1 - u)

/-- The live gain of a word on frame `f` (R128, R130). -/
def liveGain (s : State) (key f : Nat) : Int :=
  let g := match findMove s key with
    | some m => moveGain m f
    | none => gainOf (keyWord s key)
  if s.basin.ueWords.isEmpty then g else convDiv (g * ueLeft s key f) 64

/-! ### Laws (R115, R130) -/

/-- Last frame of an epoch, as far as it is known: the last of its direct and ramp moves (R130). -/
def epochLast (s : State) (e : Epoch) : Nat :=
  match e.over_ with
  | some o => o
  | none =>
    s.basin.moves.foldl (fun a m =>
      if m.ticket == some e.ticket && !isZc m then max a ((moveDone m).getD a) else a) (max e.land e.last)

/-- The epoch is open on frame `f`. -/
def epochOpen (s : State) (f : Nat) (e : Epoch) : Bool := !e.closed && decide (f ≤ epochLast s e)

def openEpochs (s : State) : Nat := (s.basin.epochs.filter (epochOpen s s.tb.frame)).length

/-- Buses of the live Forme with LAW = 1. -/
def eqBuses (s : State) : List Nat :=
  s.mem.filterMap fun c =>
    let o := c.1 - (liveBase s + oBusSet)
    if c.1 ≥ liveBase s + oBusSet ∧ c.1 < liveBase s + oMap ∧ o % 16 = 3 ∧ c.2.getLsbD 7 then some (o / 16) else none

def busLaw (s : State) (b : Nat) : Bool :=
  match s.basin.lawLatch with
  | some l => if openEpochs s = 0 then bit (liveWord s (oBusSet + 16 * b)) 31 else l.contains b
  | none => bit (liveWord s (oBusSet + 16 * b)) 31

/-- The law of a word: that of its destination bus; trims and Jet gains are linear. -/
def keyLaw (s : State) (key : Nat) : Bool :=
  if key < oStage2 then busLaw s (key / 4 % 512)
  else if key < oRouter then busLaw s ((key - oStage2) / 4 / 32)
  else false

/-! ### Point changes (R128, R133) -/

/-- The change in flight on `key` ends as another one lands: a SET_GAIN_ZC completes on that frame (R133); a recall that it
belonged to keeps the end it has reached. -/
def takeMove (key : Nat) (s : State) : State :=
  match findMove s key with
  | none => s
  | some m =>
    let f := s.tb.frame
    let s1 := dropMove key s
    match m.ticket with
    | none => s1
    | some t =>
      if s.basin.epochs.any (fun e => e.ticket == t) then
        { s1 with basin := { s1.basin with epochs := s1.basin.epochs.map fun e =>
            if e.ticket = t then { e with last := max e.last (match moveDone m with | some d => min d (f - 1) | none => f - 1) } else e } }
      else finishRunning t (match moveDone m with | some d => min d f | none => f) s1

/-- The move that a new word starts on the present frame, from the live gain of the frame before. An invalid word acts as a
Ramp of 64 (R117). `zc`: the timeout, in ms, of a SET_GAIN_ZC. -/
def newMove (key : Nat) (w : Word) (zc : Option Nat) (s : State) : Move × Bool :=
  let f := s.tb.frame
  let d := match zc with
    | some ms => some (Disc.zeroCross (framesOfMs s ms))
    | none => discOf s w
  ({ key := key, s := liveGain s key (f - 1), t := gainOf w, q0 := ⟨0, 1⟩, up := true, disc := d.getD (.ramp 64),
     law := keyLaw s key, land := f, ramp := none, hit := none, slot := true, ticket := none }, d.isNone)

/-- The word that a change leaves: a SET_GAIN_ZC changes GAIN alone, and leaves DISC and ARG as they are stored then (R133). -/
def changedWord (s : State) (key : Nat) (w : Word) (zc : Option Nat) : Word :=
  if zc.isSome then maskWord 0x00FFFFFF#32 (keyWord s key) w else w

/-- Start a point change on the present frame. The answer of `ticket` is the SET_GAIN_ZC that completes with it. -/
def startChange (key : Nat) (w0 : Word) (zc : Option Nat) (ticket : Option Word) (s : State) : State :=
  let w := changedWord s key w0 zc
  let m := newMove key w zc s
  let s1 := setKeyWord key w (takeMove key s)
  let s2 := { s1 with basin := { s1.basin with
    moves := s1.basin.moves ++ [{ m.1 with ticket := ticket }]
    ueWords := s1.basin.ueWords.filter fun x => x.1 != key } }
  let s3 := if m.2 then badCode key s2 else s2
  peak aBASIN_SLOT_PEAK (slotsBusy s3) s3

/-- A point change lands (R128). The answer says whether it waits for a slot: it does while none is free, and behind the changes that wait
already. `entry`: the entry that makes it, if one does. A word without effect at this rate takes its value and does not move (R119). -/
def pointChange (entry : Option Word) (key : Nat) (w : Word) (zc : Option Nat) (s : State) : State × Bool :=
  let own := if zc.isSome then entry else none
  let holds : Bool := match findMove s key with | some m => m.slot && moveBusy m s.tb.frame | none => false
  if ¬ keyInUse s key then
    let s1 := setKeyWord key (changedWord s key w zc) (takeMove key s)
    (match own with | some t => finishRunning t s.tb.frame s1 | none => s1, false)
  else if holds = true ∨ (slotsBusy s < maxSlots ∧ s.basin.waits.isEmpty) then (startChange key w zc own s, false)
  else
    (iset pgBASIN 2 (cnt aBASIN_WAIT_CNT
      { s with basin := { s.basin with waits := s.basin.waits ++ [⟨entry, key, w, zc⟩] } }), true)

/-- The change whose wait for a slot ends on this frame (R128). -/
def waitReady (s : State) : Option WaitChg := if slotsBusy s < maxSlots then s.basin.waits.head? else none

/-- The first waiting change starts; its entry takes effect on this frame and completes LATE (R128). -/
def waitStart (w : WaitChg) (rest : List WaitChg) (s : State) : State :=
  let s1 := startChange w.key w.word w.zc (if w.zc.isSome then w.ticket else none) { s with basin := { s.basin with waits := rest } }
  let late (e : Ev) : Ev := if w.ticket == some e.ticket then { e with land := s.tb.frame } else e
  let s2 := { s1 with comp := { s1.comp with running := s1.comp.running.map late } }
  match w.ticket with
  | some t => if w.zc.isNone ∧ ¬ rest.any (fun x => x.ticket == w.ticket) then finishRunning t s.tb.frame s2 else s2
  | none => s2

/-! ### Recalls (R129, R130) -/

/-- A recall's epoch has closed, and everything it started has ended: it completes. -/
def tryRecallDone (t : Word) (s : State) : State :=
  match s.basin.epochs.find? (fun e => e.ticket == t) with
  | none => s
  | some e =>
    let mine := s.basin.moves.filter fun m => m.ticket == some t
    let slu := s.basin.sluices.any fun x => x.tickets.contains t || (match x.queued with | some q => q.ticket == some t | none => false)
    if e.closed ∧ mine.all (fun m => match moveDone m with | some d => decide (d ≤ s.tb.frame) | none => false) ∧ ¬ slu then
      let last := mine.foldl (fun a m => max a ((moveDone m).getD a)) (max e.last (epochLast s e))
      let s1 := { s with basin := { s.basin with
        epochs := s.basin.epochs.filter fun x => x.ticket != t
        moves := (s.basin.moves.filter fun m => m.ticket != some t || m.slot).map fun m =>
          if m.ticket == some t then { m with ticket := none } else m
        lastRecall := some last } }
      iset pgBASIN 1 (finishRunning t last s1)
    else s

/-- EPOCH_END (R130): the first epoch that has reached its last frame closes; the recall may complete. -/
def epochEnd (s : State) : State :=
  let can (e : Epoch) : Bool :=
    if e.closed then s.basin.moves.any (fun m => m.ticket == some e.ticket) else decide (epochLast s e ≤ s.tb.frame)
  match s.basin.epochs.find? can with
  | none => s
  | some e =>
    let l := epochLast s e
    tryRecallDone e.ticket { s with basin := { s.basin with epochs := s.basin.epochs.map fun x =>
      if x.ticket = e.ticket then { x with closed := true, last := max x.last l } else x } }

/-- SLOT_RELEASE (R128): the change on `key` has reached q = 1; its slot is free again, and a SET_GAIN_ZC completes. -/
def slotRelease (key : Nat) (s : State) : State :=
  match findMove s key with
  | none => s
  | some m =>
    match moveDone m with
    | none => s
    | some d =>
      if m.slot ∧ d ≤ s.tb.frame then
        match m.ticket with
        | none => dropMove key s
        | some t =>
          if s.basin.epochs.any (fun e => e.ticket == t) then
            tryRecallDone t { (dropMove key s) with basin := { (dropMove key s).basin with
              epochs := s.basin.epochs.map fun e => if e.ticket = t then { e with last := max e.last d } else e } }
          else finishRunning t d (dropMove key s)
      else s

/-- ZC_TIMEOUT_RAMP (R116): no crossing within T frames: a Ramp of 64 starts on frame T after landing. -/
def zcTimeoutRamp (key : Nat) (s : State) : State :=
  { s with basin := { s.basin with moves := s.basin.moves.map fun m =>
      match m.disc with
      | .zeroCross t =>
        if m.key = key ∧ m.hit = none ∧ m.ramp = none ∧ m.land + t ≤ s.tb.frame then { m with ramp := some (m.land + t) } else m
      | _ => m } }

/-- SHADOW_UNLOCK (R123): the frame after the last open recall completes. -/
def shadowUnlock (s : State) : State :=
  let waiting := (openEvs s ++ flightEvs s).any fun e => e.e.opcode == opRecall
  let past : Bool := match s.basin.lastRecall with | some l => decide (l < s.tb.frame) | none => true
  if s.basin.lock && !waiting && s.basin.epochs.isEmpty && past then
    { s with basin := { s.basin with lock := false } }
  else s

end Sys2Proof.Machine
end

