-- ==== Sys2Proof/Machine/Image.lean ====
section
/-!
DEFINITION. The image in a flash slot: its layout, its checks and its sections (17_startup_nv_image.md R467, R468, R470).
-/

namespace Sys2Proof.Machine

/-- A section of the image, parsed (R470, Table 17-7). -/
inductive Section where
  | regInit (l : List RegInit)
  | press (p bank first : Nat) (words : List Word)
  | forme (b : Bool) (off : Nat) (words : List Word)
  | preload (client : Nat) (entries : List Entry)
  | cistern (line : Nat) (data : List Byte)
  | prot (l : List RegInit)
  /-- A type that is not in Table 17-7: nothing is applied. -/
  | unknown
  deriving DecidableEq, Repr

/-- A row of the section table (Table 17-6). -/
structure SectHdr where
  w0  : Word
  off : Nat
  len : Nat
  crc : Word
  deriving DecidableEq, Repr

/-! ### Fields of a slot -/

def slice (b : List Byte) (o n : Nat) : List Byte := (b.drop o).take n
def leAt (b : List Byte) (o n : Nat) : Nat := ofLe (slice b o n)

/-- Little-endian words of a byte string; a rest shorter than a word is dropped. -/
def leWords : List Byte → List Word
  | a :: b :: c :: d :: t => w32 (ofLe [a, b, c, d]) :: leWords t
  | _ => []

def slotNsect (b : List Byte) : Nat := leAt b 6 2
def slotLength (b : List Byte) : Nat := leAt b 0xC 4
def slotSigned (b : List Byte) : Bool := (leAt b 0x10 4).testBit 0
def slotImgCrc (b : List Byte) : Word := w32 (leAt b 0x14 4)

/-- The section table. -/
def slotSects (b : List Byte) : List SectHdr :=
  (List.range (slotNsect b)).map fun i =>
    let o := 0x40 + 16 * i
    ⟨w32 (leAt b o 4), leAt b (o + 4) 4, leAt b (o + 8) 4, w32 (leAt b (o + 12) 4)⟩

def SectHdr.ty (h : SectHdr) : Nat := bits h.w0 7 0
def SectHdr.known (h : SectHdr) : Bool := decide (1 ≤ h.ty ∧ h.ty ≤ 6)

/-- Where the sections must end: LENGTH, less the signature block of a signed slot. -/
def slotEnd (b : List Byte) : Nat := if slotSigned b then slotLength b - 128 else slotLength b

/-! ### Sections (Table 17-7) -/

/-- REGINIT entries of 8 bytes. -/
def parseRegs : List Word → List RegInit
  | w0 :: v :: t => ⟨bits w0 31 28, bits w0 24 2 * 4, v⟩ :: parseRegs t
  | _ => []

/-- Galley entries of 32 bytes. -/
def parseEntries : List Word → List Entry
  | a :: b :: c :: d :: e :: f :: g :: h :: t => ⟨a, b, c, d, e, f, g, h⟩ :: parseEntries t
  | _ => []

def parseSection (ty : Nat) (data : List Byte) : Section :=
  let ws := leWords data
  let w0 := ws.headD 0
  match ty with
  | 1 => .regInit (parseRegs ws)
  | 2 => .press (bits w0 3 0) (bits w0 9 8) (bits w0 31 12) ws.tail
  | 3 => .forme (bit w0 0) (bits w0 23 2 * 4) ws.tail
  | 4 => .preload (bits w0 3 0) (parseEntries ws.tail)
  | 5 => .cistern w0.toNat (data.drop 4)
  | 6 => .prot (parseRegs ws)
  | _ => .unknown

def slotSections (b : List Byte) : List Section :=
  (slotSects b).map fun h => parseSection h.ty (slice b h.off h.len)

/-! ### Checks (R468), with the codes of Table 17-8 -/

/-- A PRESS or FORME section stays inside its memory (R470). -/
def sectionFits (x : Section) : Bool :=
  match x with
  | .press _ bank first ws => decide (bank < 3) && decide (first + ws.length ≤ if bank = 0 then 16384 else 40960)
  | .forme _ off ws => decide (off + 4 * ws.length ≤ formeSize)
  | _ => true

def slotMagic (b : List Byte) : Bool := leAt b 0 4 == 0x31534F45 && leAt b 4 2 == 1

def slotHdrCrc (b : List Byte) : Bool := crc32 (slice b 0 0x3C) == w32 (leAt b 0x3C 4)

/-- Does a section lie after the table and before the signature block? -/
def sectInside (b : List Byte) (h : SectHdr) : Bool :=
  decide (0x40 + 16 * slotNsect b ≤ h.off ∧ h.off + h.len ≤ slotEnd b)

/-- The bytes that the other checks read are there: 1 to 64 sections, each inside the slot. -/
def slotReach (b : List Byte) : Bool :=
  decide (1 ≤ slotNsect b ∧ slotNsect b ≤ 64 ∧ slotLength b ≤ b.length ∧ 0x40 + 16 * slotNsect b ≤ slotEnd b)
    && (slotSects b).all (sectInside b)

def sectCrcOk (b : List Byte) (h : SectHdr) : Bool := crc32 (slice b h.off h.len) == h.crc

/-- IMG_CRC covers bytes 0x40 to the end of the section that ends last. -/
def slotImgOk (b : List Byte) : Bool :=
  let last := (slotSects b).foldl (fun m h => max m (h.off + h.len)) 0x40
  crc32 (slice b 0x40 (last - 0x40)) == slotImgCrc b

def slotCrcs (b : List Byte) : Bool := slotImgOk b && (slotSects b).all (sectCrcOk b)

/-- Two sections share a byte. -/
def sectOverlap (x y : SectHdr) : Bool := decide (x.off < y.off + y.len ∧ y.off < x.off + x.len)

/-- The layout of one section: aligned, no reserved bit set, inside its memory, and clear of the sections before it. -/
def sectLayout (b : List Byte) (before : List SectHdr) (h : SectHdr) : Bool :=
  decide (h.off % 4 = 0 ∧ h.len % 4 = 0) && bits h.w0 31 9 == 0 && sectionFits (parseSection h.ty (slice b h.off h.len))
    && !(before.any (sectOverlap h))

/-- The sections that a check fails, with their index. -/
def badSects (b : List Byte) (p : List SectHdr → SectHdr → Bool) : List (Nat × SectHdr) :=
  let l := slotSects b
  ((List.range l.length).filterMap fun i => (l[i]?).map fun h => (i, h)).filter fun x => !p (l.take x.1) x.2

def slotLayout (b : List Byte) : Bool :=
  leAt b 0x10 4 / 2 == 0 && (slice b 0x18 36).all (· == 0) && (badSects b (sectLayout b)).isEmpty

def slotTypes (b : List Byte) : Bool := (slotSects b).all fun h => h.known || bit h.w0 8

/-- SHA-256 of the public key against OTP.KEYHASH, whose word 0 holds bytes 0 to 3. -/
def slotKey (s : State) (b : List Byte) : Bool :=
  let k := sha256 (slice b (slotLength b - 128) 64)
  (List.range 8).all fun i =>
    w32 (ofLe (leBytes 4 (k.getD i 0).toNat).reverse) == rget s (aOTP_KEYHASH i)

/-- The ECDSA P-256 signature over the SHA-256 of bytes 0 to LENGTH − 129. -/
def slotSig (b : List Byte) : Bool :=
  let l := slotLength b
  let n (o : Nat) : Nat := ofBe (slice b o 32)
  ecdsaOk (n (l - 128)) (n (l - 96)) (n (l - 64)) (n (l - 32)) (shaNat (slice b 0 (l - 128)))

/-- The code of a verification pass, 0 for a valid slot: the checks in the order of R468 (log entry 17). -/
def slotCode (s : State) (b : List Byte) : Nat :=
  if ¬ slotMagic b then 2
  else if ¬ slotHdrCrc b then 3
  else if ¬ slotReach b then 5
  else if ¬ slotCrcs b then 4
  else if ¬ slotLayout b then 5
  else if ¬ slotTypes b then 9
  else if rbit s aOTP_CFG 4 ∧ ¬ slotSigned b then 6
  else if slotSigned b ∧ ¬ slotKey s b then 7
  else if slotSigned b ∧ ¬ slotSig b then 8
  else 0

/-- The code of a load pass, which looks at the CRCs again. -/
def loadCode (b : List Byte) : Nat :=
  if ¬ slotHdrCrc b then 3 else if slotReach b ∧ slotCrcs b then 0 else 4

/-- TYPE and INDEX of the first section that fails with this code (ERRSECT). -/
def slotErrSect (b : List Byte) (code : Nat) : Option Word :=
  let bad :=
    match code with
    | 4 => badSects b fun _ h => sectCrcOk b h
    | 5 => badSects b fun l h => sectInside b h && sectLayout b l h
    | 9 => badSects b fun _ h => h.known || bit h.w0 8
    | _ => []
  bad.head?.map fun x => fld x.2.ty 8 ||| fld x.1 0

end Sys2Proof.Machine
end

