-- ==== Sys2Proof/Machine/Basin.lean ====
section
/-!
DEFINITION. The Basin's route changes, recalls, parameter writes to the Formes and the Forme CRC (chapter 04, R117 to R133 and
R145).
-/

namespace Sys2Proof.Machine

/-! ### Sluices (R131, R132) -/

/-- Same KIND, MEMBER and INDEX (Table 04-6). -/
def routeEq (a b : Word) : Bool := (a ^^^ b) &&& 0xF3FF03FF#32 == 0#32

/-- Progress of a Sluice on frame `f`. -/
def sluiceQ (x : Sluice) (f : Nat) : Frac := if f < x.start then x.q0 else fracUp x.q0 (f - x.start) x.l

/-- The last frame of a Sluice. -/
def sluiceDone (x : Sluice) : Nat := x.start + x.l - 1

/-- The Sluice length that a TRIM word gives (R131); an invalid word gives 64 (R117). -/
def trimLen (w : Word) : Nat × Bool :=
  let a := bits w 29 24
  match bits w 31 30 with
  | 0 => if a = 0 then (1, false) else (64, true)
  | 1 => match rampLen a with | some l => (l, false) | none => (64, true)
  | 2 => (64, a == 0)
  | _ => (64, true)

/-- An entry that a Sluice or a queued change carried is done with it on frame `d`: a SLUICE_ROUTE completes; a recall notes
the end. -/
def sluiceTicket (t : Word) (d : Nat) (s : State) : State :=
  if s.basin.epochs.any (fun e => e.ticket == t) then
    tryRecallDone t { s with basin := { s.basin with epochs := s.basin.epochs.map fun e =>
      if e.ticket = t then { e with last := max e.last d } else e } }
  else finishRunning t d s

def setSluice (x : Sluice) (s : State) : State :=
  { s with basin := { s.basin with sluices := s.basin.sluices.map fun y => if y.o = x.o then x else y } }

/-- A route change on output `o` to source word `w` over `l` frames lands (R131, R132); `cur` is the source word in force
before it. -/
def routeChange (o : Nat) (cur w : Word) (l : Nat) (ticket : Option Word) (s : State) : State :=
  let f := s.tb.frame
  let now (s : State) : State := match ticket with | some t => sluiceTicket t f s | none => s
  match s.basin.sluices.find? (fun x => x.o == o) with
  | none =>
    if routeEq cur w ∨ o ≥ limOut s then now s
    else { s with basin := { s.basin with sluices := s.basin.sluices ++
      [{ o := o, old := cur, new := w, law := bit w 27, q0 := ⟨0, 1⟩, l := l, start := f, tickets := ticket.toList, queued := none }] } }
  | some x =>
    if routeEq w x.new then setSluice { x with tickets := x.tickets ++ ticket.toList } s
    else if routeEq w x.old then
      let q := sluiceQ x (f - 1)
      setSluice { x with old := x.new, new := w, law := bit w 27, q0 := ⟨q.d - q.n, q.d⟩, l := l, start := f,
                         tickets := x.tickets ++ ticket.toList } s
    else
      let s1 := setSluice { x with queued := some ⟨w, l, ticket⟩ } s
      match x.queued with
      | some { ticket := some t, .. } => sluiceTicket t f s1
      | _ => s1

/-- SLUICE_END (R132): a running Sluice has ended; a queued change starts on the next frame, and the live router word again holds its
source where a reversal has landed since (log entry 32). -/
def sluiceEnd (o : Nat) (s : State) : State :=
  match s.basin.sluices.find? (fun x => x.o == o) with
  | none => s
  | some x =>
    let d := sluiceDone x
    if d ≤ s.tb.frame then
      let next : List Sluice := match x.queued with
        | some q => if routeEq q.src x.new then []
            else [{ o := o, old := x.new, new := q.src, law := bit q.src 27, q0 := ⟨0, 1⟩, l := q.l, start := d + 1,
                    tickets := q.ticket.toList, queued := none }]
        | none => []
      let s0 := next.foldl (fun s y => stWord (liveBase s + oRouter + 8 * o) y.new s) s
      let s1 := { s0 with basin := { s0.basin with sluices := (s.basin.sluices.filter fun y => y.o != o) ++ next } }
      let queuedDone : List Word := match x.queued with
        | some q => if routeEq q.src x.new then q.ticket.toList else []
        | none => []
      (x.tickets ++ queuedDone).foldl (fun s t => sluiceTicket t d s) s1
    else s

/-- The source word in force on output `o`. -/
def routeWord (s : State) (o : Nat) : Word := liveWord s (oRouter + 8 * o)

/-! ### Writes that land on a Forme (R126) -/

/-- One (address, value) pair of a WRITE_PARAM on a Forme word; the answer says whether it waits for a slot. -/
def formeParam (entry : Word) (addr : Nat) (v : Word) (s : State) : State × Bool :=
  let b := decide (addr ≥ 0x1400000)
  let o := addr - formeBase b
  if o ≥ oRsv then (s, false)
  else if b ≠ s.basin.liveB then (stWord addr v s, false)
  else if isGainKey o then pointChange (some entry) o v none s
  else if oRouter ≤ o ∧ o < oBusSet then
    let k := (o - oRouter) / 8
    let t := trimLen (liveWord s (o + 4))
    let cur := routeWord s k
    let s1 := routeChange k cur v t.1 none (stWord addr v s)
    (if t.2 ∧ k < limOut s ∧ ¬ routeEq cur v then badCode (o + 4) s1 else s1, false)
  else (stWord addr v s, false)

/-- SET_GAIN_ZC (R133): the key of its word. -/
def zcKey (w4 : Word) : Option Nat :=
  let i := bits w4 27 0
  match bits w4 31 28 with
  | 1 => if i ≤ 524287 then some (4 * i) else none
  | 2 => if i ≤ 16383 then some (oStage2 + 4 * i) else none
  | 3 => if i ≤ 1023 then some (oRouter + 8 * i + 4) else none
  | 4 => if i ≤ 63 then some (kJet + 4 * i) else none
  | _ => none

/-! ### Recalls (R129, R130) -/

/-- Word offsets below the bus settings that either Forme lists. Words listed in neither are equal. -/
def listedOffs (s : State) : List Nat :=
  (s.mem.filterMap fun c =>
    if c.1 < 0x1000000 ∨ c.1 ≥ 0x1800000 then none
    else
      let o := (c.1 - 0x1000000) % 0x400000 / 4 * 4
      if o < oBusSet then some o else none).dedup

/-- Open epochs end as a later recall lands on frame `f` (R130): on the frame before, or on their own landing frame when both
land together. -/
def overtake (s : State) : State :=
  let f := s.tb.frame
  let es := s.basin.epochs.map fun e =>
    if e.closed || decide (epochLast s e < f) then e else { e with over_ := some (max e.land (f - 1)) }
  setBasin { s.basin with epochs := es } s

/-- A word moves under a recall (R129, R130): the state before the swap is `s0`. -/
def recallMove (t : Word) (s0 : State) (key : Nat) (s : State) : State :=
  let f := s.tb.frame
  let w := liveWord s key
  let g := gainOf w
  let d := discOf s w
  let old := (findMove s0 key).filter fun m => moveBusy m (f - 1)
  let base : Move :=
    { key := key, s := liveGain s0 key (f - 1), t := g, q0 := ⟨0, 1⟩, up := true, disc := d.getD (.ramp 64), law := keyLaw s key,
      land := f, ramp := none, hit := none, slot := false, ticket := some t }
  let m : Move := match old with
    | some o =>
      if o.slot then { base with slot := true }
      else if o.s ≠ o.t ∧ (g = o.s ∨ g = o.t) then
        { base with s := o.s, t := o.t, q0 := moveQ o (f - 1), up := g == o.t }
      else base
    | none => base
  let s1 := takeMove key s
  let s2 := { s1 with basin := { s1.basin with moves := s1.basin.moves ++ [m] } }
  if d.isNone then badCode key s2 else s2

/-- RECALL_FORME lands (R129): roles swap, differing gains and retargeted slots move, routes sluice, an epoch opens. -/
def recallLand (e : Ev) (s : State) : State :=
  let f := s.tb.frame
  let cont := s.basin.epochs.any fun x => !x.closed && decide (f ≤ epochLast s x + 1)
  let s1 := overtake s
  let sw := setBasin { s1.basin with liveB := !s.basin.liveB } s1
  let s2 := { sw with basin := { sw.basin with
    lawLatch := if cont then sw.basin.lawLatch else some (eqBuses sw)
    epochs := sw.basin.epochs ++ [⟨e.ticket, f, none, false, f⟩] } }
  let offs := listedOffs s
  let diff := offs.filter fun o => isGainKey o && keyInUse s o && gainOf (rdWord s (formeBase false + o)) != gainOf (rdWord s (formeBase true + o))
  let inFlight := (s.basin.moves.filter fun m => decide (m.key < kJet) && keyInUse s m.key && moveBusy m (f - 1)).map (·.key)
  let s3 := (diff ++ inFlight).dedup.foldl (fun s' k => recallMove e.ticket s k s') s2
  let routes := offs.filter fun o => decide (oRouter ≤ o ∧ o % 8 = 0 ∧ (o - oRouter) / 8 < limOut s)
    && !routeEq (rdWord s (formeBase false + o)) (rdWord s (formeBase true + o))
  let s4 := routes.foldl (fun s' o =>
    let t := trimLen (liveWord s' (o + 4))
    let s'' := routeChange ((o - oRouter) / 8) (liveWord s o) (liveWord s' o) t.1 (some e.ticket) s'
    if t.2 then badCode (o + 4) s'' else s'') s3
  iset pgBASIN 0 (rset aBASIN_LAND_HI (hi32 f) (rset aBASIN_LAND_LO (lo32 f) (cnt aBASIN_RECALL_CNT (keepRunning e s4))))

/-- A change waits (R126, R130). -/
def basinWait (e : Ev) (s : State) : State := iset pgBASIN 2 (cnt aBASIN_WAIT_CNT (holdEv e s))

/-- RECALL_FORME lands, or waits for an epoch to close (R130). -/
def recallForme (e : Ev) (s : State) : State := if openEpochs s ≥ 4 then basinWait e s else recallLand e s

/-- May a held entry act (R127)? -/
def heldReady (s : State) (e : Ev) : Bool :=
  if e.e.opcode = opRecall then decide (openEpochs s < 4)
  else if e.e.opcode = opWriteParam then !s.basin.lock
  else false

/-- Ticket `a` comes before `b` (R91). -/
def ticketBefore (a b : Word) : Bool := decide ((a - b).toInt < 0)

/-- The held entry that acts first on this frame, before the events released for it: in ticket order (R127). -/
def heldFirst (s : State) : Option Ev :=
  (s.comp.held.filter (heldReady s)).foldl (fun a e =>
    match a with
    | some x => if ticketBefore e.ticket x.ticket then some e else some x
    | none => some e) none

/-- The slot wait that ends before the held entry `e` acts (R127): that of an earlier ticket, or of a host write. -/
def waitFirst (s : State) (e : Option Ev) : Option WaitChg :=
  match waitReady s, e with
  | some w, some x => (match w.ticket with | some t => if ticketBefore t x.ticket then some w else none | none => some w)
  | w, none => w
  | none, _ => none

/-- A hold ends on this frame: what it held acts before the events released for the frame (R127). -/
def heldTurn (s : State) : Bool := (heldFirst s).isSome || (waitReady s).isSome

/-- SLOT_WAIT_START (R127, R128): the first waiting change starts on a frame with a free slot, in ticket order with the held entries. -/
def slotWaitStart (key : Nat) (s : State) : State :=
  match waitFirst s (heldFirst s) with
  | some w => if w.key = key then waitStart w (s.basin.waits.drop 1) s else s
  | none => s

/-! ### Other landings -/

/-- SET_GAIN_ZC (R133). -/
def setGainZc (e : Ev) (s : State) : State :=
  match e.payload with
  | w4 :: w5 :: _ =>
    match zcKey w4 with
    | none => s
    | some k =>
      (pointChange (some e.ticket) k w5 (some (bits w5 31 24)) (keepRunning e s)).1
  | _ => s

/-- SLUICE_ROUTE (R131): SOURCE goes into the live router word 0, and a Sluice starts. -/
def sluiceRoute (e : Ev) (s : State) : State :=
  match e.payload with
  | w4 :: w5 :: _ =>
    let o := bits w4 9 0
    let a := liveBase s + oRouter + 8 * o
    routeChange o (routeWord s o) w5 ((rampLen (bits w4 29 24)).getD 64) (some e.ticket) (stWord a w5 (keepRunning e s))
  | _ => s

/-! ### Host writes to a Forme (R122, R124) -/

/-- The ERRCAP code that refuses a host write to Forme `b`, if any (R122). -/
def formeRefuse (s : State) (b : Bool) : Option Nat :=
  if ¬ activeOrSolo s then some 4
  else if b = s.basin.liveB then some 1
  else if s.basin.lock then some 2
  else none

/-- The mirror queue is full: HRDY_N is held (R124). -/
def mirrorFull (s : State) : Bool := isActive s && decide (s.basin.mirrorQ.length ≥ 256)

/-- The reserved bits of the settings words, RW in Tables 04-6, 04-7 and 04-12, are stored and read back (DESIGN CHOICE, log entry 88).
Store a host write in the shadow and queue it for the partner (R124). The reserved region discards it. -/
def formeStore (a : Nat) (be : BitVec 4) (v : Word) (s : State) : State × Bool :=
  if (a - 0x1000000) % 0x400000 ≥ oRsv then (s, true)
  else
    let r := stWordBe a be v s
    if r.2 ∧ isActive s then
      ({ r.1 with basin := { r.1.basin with mirrorQ := r.1.basin.mirrorQ ++ [(a, rdWord r.1 a)] } }, true)
    else r

/-! ### The Forme CRC (R145, R146) -/

/-- START written while a CRC runs starts it again, over the Forme that FORME now names (DESIGN CHOICE, log entry 91). -/
def formeCrcStart (b : Bool) (s : State) : State := { s with basin := { s.basin with crcRun := some b } }

def formeCrcDone (s : State) : State :=
  match s.basin.crcRun with
  | none => s
  | some b =>
    iset pgBASIN 6 (rset aBASIN_CRC_VAL (crc32 (rdBytes s (formeBase b) formeSize))
      { s with basin := { s.basin with crcRun := none } })

end Sys2Proof.Machine
end

