-- ==== Sys2Proof/Machine/Timebase.lean ====
section
/-!
DEFINITION. The time axes: tach and counter inputs, the position axis, host corrections, and the samples of each boundary
(02_time_axes_compositor.md R47 to R61, R529).
-/

namespace Sys2Proof.Machine

/-- Milliseconds and the XO period in ps. -/
abbrev msPs : Nat := 1000000000
abbrev xoPs : Nat := 40000

/-! ### Configuration -/

/-- TACHCFG.MODE, reserved 0b11 acting as off (R54, Table 02-8). -/
def tachMode (s : State) : Nat := let m := rfld s aTIMEBASE_TACHCFG 1 0; if m = 3 then 0 else m
def revPulses (s : State) : Nat := zeroIs1 (rfld s aTIMEBASE_TACHCFG 19 16)
/-- TACH_LIMIT.MAXRATE in Hz: larger values act as 200,000 (R72), and 0 acts as 1 (DESIGN CHOICE, log entry 86). -/
def maxRate (s : State) : Nat := clampN 1 200000 (rfld s aTIMEBASE_TACH_LIMIT 17 0)
def tachQuiet (s : State) : Nat := rfld s aTIMEBASE_TACH_TIMERS 15 0 * msPs
def tachStuckT (s : State) : Nat := rfld s aTIMEBASE_TACH_TIMERS 31 16 * msPs
def standstillT (s : State) : Nat := rfld s aTIMEBASE_SPEEDCFG 31 16 * msPs
def speedWin (s : State) : Nat := zeroIs1 (rfld s aTIMEBASE_SPEEDCFG 7 0)
def cntEdgeSel (s : State) : Nat := rfld s aTIMEBASE_CNTCFG 1 0

/-- A level passes a glitch filter of `n` XO periods: its phase is not shorter (R54). -/
def passesGlitch (n : Nat) (x : PinEdge) : Bool := decide (n * xoPs ≤ x.phase)
def tachGlitch (s : State) : Nat := rfld s aTIMEBASE_TACHCFG 15 8
def cntGlitch (s : State) : Nat := rfld s aTIMEBASE_CNTCFG 15 8

/-- The distance per pulse in µm with 16 fractional bits, to nearest, ties to even (R55). -/
def dppOf (circ ppr : Nat) : Nat := (convDiv (circ * 65536 : Nat) (ppr + 1)).toNat

def setTb (t : TimebaseSt) (s : State) : State := { s with tb := t }

/-- WHEEL_CIRC or WHEEL_PPR has taken a new value (R55). -/
def wheelTaken (s : State) : State :=
  setTb { s.tb with dpp := dppOf (rget s aTIMEBASE_WHEEL_CIRC).toNat (rfld s aTIMEBASE_WHEEL_PPR 11 0) } s

/-! ### Speed and interpolation (R57) -/

/-- Distance at the current speed over `dt` ps, toward zero. -/
def atSpeed (t : TimebaseSt) (dt : Nat) : Int := if t.spdDen = 0 then 0 else (t.spdNum * dt).tdiv t.spdDen

/-- How far the position runs beyond the last counted pulse, `dt` ps after it: never more than one pulse distance. -/
def runOn (t : TimebaseSt) (dt : Nat) : Int := clampI (-(t.dpp : Int)) t.dpp (atSpeed t dt)

/-- The run-on at time `at_` since the last counted pulse. -/
def runOnAt (t : TimebaseSt) (at_ : Nat) : Int :=
  match t.stamps with
  | [] => 0
  | (tl, _) :: _ => runOn t (at_ - tl)

/-- The position at time `at_`, before corrections still pending: counted and interpolated, or estimated (R57, R61). -/
def posAt (t : TimebaseSt) (at_ : Nat) : Int :=
  match t.est with
  | some (t0, p0) => p0 + atSpeed t (at_ - t0)
  | none => t.pos + runOnAt t at_

/-- Speed over the last WIN pulses: their signed distance by their elapsed time (R57). None before two of them. -/
def speedOf (win : Nat) (l : List (Nat × Int)) : Option (Int × Nat) :=
  let ps := l.take (win + 1)
  match ps, ps.getLast? with
  | (t1, _) :: _ :: _, some (t0, _) => if t1 = t0 then none else some ((ps.dropLast.map (·.2)).sum, t1 - t0)
  | _, _ => none

/-- Speed in mm/s, toward zero. -/
def speedMm (t : TimebaseSt) : Int := if t.spdDen = 0 then 0 else (t.spdNum * 10 ^ 12).tdiv (t.spdDen * 65536000 : Nat)

def moving (t : TimebaseSt) : Bool := t.spdNum != 0

/-- Apply pulses that came at these times, the latest first, in the recognised direction. -/
def applyPulses (s : State) (times : List Nat) (t : TimebaseSt) : TimebaseSt :=
  let step : Int := if t.reverse then -(t.dpp : Int) else t.dpp
  let st := (times.map (fun u => (u, step)) ++ t.stamps).take 256
  let v := (speedOf (speedWin s) st).getD (t.spdNum, t.spdDen)
  { t with pos := t.pos + step * times.length, stamps := st, spdNum := v.1, spdDen := v.2 }

/-- Counting resumes from the estimated position. -/
def endEst (at_ : Nat) (t : TimebaseSt) : TimebaseSt :=
  match t.est with
  | none => t
  | some _ => { t with pos := posAt t at_, est := none, stamps := [] }

/-- The direction that a pulse shows (R54): true for reverse. -/
def pulseReverse (s : State) (b : Bool) : Bool :=
  let raw := if tachMode s = 1 then b else !b
  if rbit s aTIMEBASE_TACHCFG 2 then !raw else raw

/-- A pulse counted in direction `rev` (R56). -/
def countPulse (at_ : Nat) (rev : Bool) (s : State) : State :=
  let t := s.tb
  if rev = t.reverse then
    match t.held with
    | [] => setTb (applyPulses s [at_] t) s
    | _ :: rest => setTb { t with held := rest } s
  else
    let h := at_ :: t.held
    if h.length ≥ revPulses s then
      let t1 := { t with reverse := rev, held := [], snap := true }
      iset pgTIMEBASE 0 (setTb (applyPulses s h t1) s)
    else setTb { t with held := h } s

/-- Pulses of the last millisecond, the new one included. -/
def pulseWindow (at_ : Nat) (t : TimebaseSt) : List Nat := at_ :: t.recent.filter (fun u => decide (at_ < u + msPs))

/-- When the rate last reaches down to MAXRATE, given the pulses `w` of the last millisecond, the newest first: as the oldest of the
pulses that make it leaves the window. -/
def overUntil (s : State) (w : List Nat) : Nat :=
  match w[(maxRate s + 999) / 1000 - 1]? with
  | some u => u + msPs
  | none => s.tb.overT

/-- The first of the continuing edges of a pin: a gap of STUCK ms starts them afresh (log entry 93). -/
def aloneFrom (s : State) (alone : Option Nat) (last at_ : Nat) : Option Nat :=
  some (if at_ < last + tachStuckT s then alone.getD at_ else at_)

/-- An edge of TACH_A: activity, and the release of STUCK_A (R61, R529). -/
def tachAEdge (at_ : Nat) (s : State) : State :=
  let t := { s.tb with lastA := at_, aloneA := aloneFrom s s.tb.aloneA s.tb.lastA at_, aloneB := none }
  if t.stuckA then
    iset pgTIMEBASE 1 (setTb (let u := { t with stuckA := false }; if t.chatter then u else endEst at_ u) s)
  else setTb t s

/-- A pulse: a rising edge of TACH_A in a tach mode (R54, R56, R61). -/
def tachRise (at_ : Nat) (b : Bool) (s : State) : State :=
  let w := pulseWindow at_ s.tb
  let s1 := setTb { s.tb with recent := w, lastPulse := at_, overT := overUntil s w } s
  if s1.tb.chatter then s1
  else if w.length * 1000 > maxRate s then
    iset pgTIMEBASE 2 (setTb { s1.tb with chatter := true, est := some (at_, posAt s1.tb at_) } s1)
  else countPulse at_ (if s1.tb.stuckB then s1.tb.reverse else pulseReverse s1 b) (cnt aTIMEBASE_PULSES s1)

/-- TACH_PULSE (R54, R61, R529): an edge at TACH_A, with TACH_B at level `b`. The glitch filter discards it, or it is an edge; a rising
one is a pulse. -/
def tachPulse (x : PinEdge) (b : Bool) (s : State) : State :=
  let s := advance x.t s
  if ¬ passesGlitch (tachGlitch s) x ∨ x.level = s.tb.levelA then s
  else
    let s1 := setTb { s.tb with levelA := x.level } s
    if tachMode s = 0 then s1
    else
      let s2 := tachAEdge x.t s1
      if x.level then tachRise x.t b s2 else s2

/-- TACH_QUIET_RELEASE (R61): the rate has been below MAXRATE for QUIET ms. -/
def tachQuietRelease (at_ : Nat) (s : State) : State :=
  let s := advance at_ s
  if s.tb.chatter ∧ at_ ≥ s.tb.overT + tachQuiet s then
    let t := { s.tb with chatter := false }
    iset pgTIMEBASE 1 (setTb (if t.stuckA then t else endEst at_ t) s)
  else s

/-- TACH_STUCK (R61): in quadrature, one pin has had no edge for STUCK ms while the other had edges, more than the one that a vehicle
makes as it stops (log entry 93). -/
def tachStuck (at_ : Nat) (pinB : Bool) (s : State) : State :=
  let s := advance at_ s
  let since := if pinB then s.tb.aloneA else s.tb.aloneB
  let last := if pinB then s.tb.lastA else s.tb.lastB
  match since with
  | none => s
  | some u =>
    if tachMode s = 1 ∧ at_ ≥ u + tachStuckT s ∧ u < last ∧ ¬ (if pinB then s.tb.stuckB else s.tb.stuckA) then
      let t := if pinB then { s.tb with stuckB := true }
        else { s.tb with stuckA := true, est := some (s.tb.est.getD (at_, posAt s.tb at_)) }
      iset pgTIMEBASE 2 (setTb t s)
    else s

/-- TACH_B_EDGE (R54, R61): an edge at TACH_B that the glitch filter passes is activity; it releases STUCK_B. -/
def tachBEdge (x : PinEdge) (s : State) : State :=
  let s := advance x.t s
  if ¬ passesGlitch (tachGlitch s) x ∨ x.level = s.tb.levelB then s
  else
  let t := { s.tb with lastB := x.t, levelB := x.level, aloneB := aloneFrom s s.tb.aloneB s.tb.lastB x.t, aloneA := none }
  if t.stuckB then iset pgTIMEBASE 1 (setTb { t with stuckB := false } s) else setTb t s

/-- STANDSTILL (R57, R529): no edge on either pin for STANDSTILL ms, or no pulse for as long while no estimate runs: speed
0, the position holds, and an estimated advance ends. -/
def standstill (at_ : Nat) (s : State) : State :=
  let s := advance at_ s
  let quiet := at_ ≥ max s.tb.lastA s.tb.lastB + standstillT s
  let noPulse := s.tb.est = none ∧ at_ ≥ s.tb.lastPulse + standstillT s
  if quiet ∨ noPulse then
    setTb { endEst (min at_ (max s.tb.lastA s.tb.lastB + standstillT s)) s.tb with spdNum := 0, spdDen := 1, stamps := [] } s
  else s

/-! ### The counter axis (R53, R61) -/

/-- CNT_IN is low: a latched STUCK is released. -/
def cntLow (s : State) : State :=
  let t := { s.tb with cntLevel := false, cntHigh := none }
  if t.cntStuck then iset pgTIMEBASE 1 (setTb { t with cntStuck := false } s) else setTb t s

/-- CNT_EDGE (R53, R61): an edge at CNT_IN that the glitch filter passes; the edges that EDGE selects count. -/
def cntEdge (x : PinEdge) (s : State) : State :=
  let s := advance x.t s
  let at_ := x.t
  if ¬ passesGlitch (cntGlitch s) x ∨ x.level = s.tb.cntLevel then s
  else
  let s := if x.level then setTb { s.tb with cntLevel := true, cntHigh := some at_ } s else cntLow s
  let t := s.tb
  let sel := cntEdgeSel s
  if sel = 0 ∨ (sel = 1 ∧ ¬ x.level) ∨ (sel = 2 ∧ x.level) then s
  else
    let w := at_ :: t.cntRecent.filter (fun u => decide (at_ < u + 10 * msPs))
    let t := { t with cntRecent := w, cntEdgeT := at_ }
    if t.cntChatter then setTb t s
    else if w.length * 100 > rfld s aTIMEBASE_CNT_LIMIT 17 0 then iset pgTIMEBASE 3 (setTb { t with cntChatter := true } s)
    else setTb { t with cnt := (t.cnt + 1) % 2 ^ 32 } s

def cntQuietRelease (at_ : Nat) (s : State) : State :=
  let s := advance at_ s
  if s.tb.cntChatter ∧ at_ ≥ s.tb.cntEdgeT + rfld s aTIMEBASE_CNT_TIMERS 15 0 * msPs then
    iset pgTIMEBASE 1 (setTb { s.tb with cntChatter := false } s)
  else s

def cntStuck (at_ : Nat) (s : State) : State :=
  let s := advance at_ s
  match s.tb.cntHigh with
  | none => s
  | some u =>
    if cntEdgeSel s ≠ 0 ∧ at_ ≥ u + rfld s aTIMEBASE_CNT_TIMERS 31 16 * msPs ∧ ¬ s.tb.cntStuck then
      iset pgTIMEBASE 3 (setTb { s.tb with cntStuck := true } s)
    else s

/-- CNT_IN_LOW (R61): CNT_IN has gone low for long enough to pass its filter. -/
def cntInLow (at_ phase : Nat) (s : State) : State :=
  let s := advance at_ s
  if passesGlitch (cntGlitch s) ⟨at_, false, phase⟩ then cntLow s else s

/-! ### Corrections and loads (R58 to R60) -/

/-- One mm in µm with 16 fractional bits. -/
abbrev mmUnit : Int := 65536000

/-- A submitted correction (R58, R59). -/
def corrSubmit (hi : Word) (s : State) : State :=
  let d := sgn 48 (s.tb.corrLo.toNat + 2 ^ 32 * (hi.toNat % 65536)) * mmUnit
  if (s.tb.pend + d).natAbs > (rget s aTIMEBASE_CORR_LIMIT).toNat * 65536000 then
    errcap pgTIMEBASE 2 0 (iset pgTIMEBASE 4 s)
  else
    let p := s.tb.pend + d
    setTb { s.tb with pend := p, corrRem := 0, corrFin := s.tb.corrFin || (p == 0 && s.tb.pend != 0) } s

/-- CORR_DONE (R59): the pending correction has reached 0. -/
def corrDone (s : State) : State :=
  if s.tb.corrFin ∧ s.tb.pend = 0 then iset pgTIMEBASE 5 (setTb { s.tb with corrFin := false } s) else s

/-- A POS event is pending (R60). -/
def posPending (s : State) : Bool := (allPending s).any fun e => e.e.axis == 3 || e.e.axis == 4

/-- The rate at which a correction drains, µm with 16 fractional bits per second (R58). CORRCFG.FRAC acts as 1 when it is 0, and as
100 when it is above 100 (DESIGN CHOICE, log entry 86). -/
def corrRate (s : State) (t : TimebaseSt) : Nat :=
  let slew := rfld s aTIMEBASE_CORRCFG 15 0 * 65536000
  let along := decide (t.pend > 0) == !t.reverse
  if along then slew
  else min slew (t.spdNum.natAbs * 10 ^ 12 * clampN 1 100 (rfld s aTIMEBASE_CORRCFG 23 16) / (t.spdDen * 100))

/-- What drains in one frame, and the remainder kept. -/
def corrStep (s : State) (t : TimebaseSt) : Int × Nat :=
  let r := corrRate s t + t.corrRem
  let n := min (r / fs s) t.pend.natAbs
  (if t.pend < 0 then -(n : Int) else n, r % fs s)

/-- A published position never moves against the direction of travel but for a reversal (R57). -/
def publish (t : TimebaseSt) (prev target : Int) : Int :=
  if t.snap then target else if t.reverse then min prev target else max prev target

/-- A correction runs along the direction of travel (R58). -/
def alongTravel (t : TimebaseSt) (c : Int) : Bool := decide (c > 0) == !t.reverse

/-- The published position one step on: the target, a correction against travel never taking it back (R57, R58). -/
def publishMove (t : TimebaseSt) (prev c target : Int) : Int := publish t (prev + if alongTravel t c then c else 0) target

/-- A position load (R60): the published and the internal position are `p`, and nothing is pending. It sets no CORR_DONE when it clears
a pending correction (DESIGN CHOICE, log entry 79: R59 speaks of a correction that drains). An estimated advance goes on from `p`: only
R529 or its release ends it. -/
def loadPos (at_ : Nat) (p : Int) (t : TimebaseSt) : TimebaseSt :=
  { t with load := none, pos := p - runOnAt t at_, posNow := p, pend := 0, corrRem := 0, est := t.est.map fun _ => (at_, p), snap := true }

/-- The axis samples of the boundary at time `at_` that starts frame `f` (R47, R49, R57, R58). -/
def axisTick (at_ : Nat) (s : State) : State :=
  let t := s.tb
  -- a load takes effect here, unless a POS event has become pending (R60)
  let r := match t.load with
    | none => (t, s)
    | some p =>
      if posPending s then ({ t with load := none }, errcap pgTIMEBASE 1 aTIMEBASE_POS_LOAD_HI s)
      else (loadPos at_ p t, s)
  let t := r.1
  let s := r.2
  let c : Int × Nat := if t.pend = 0 then (0, 0) else corrStep s t
  let fin := decide (t.pend ≠ 0) && decide (t.pend = c.1)
  let t1 := { t with
    pos := t.pos + c.1
    est := t.est.map (fun e => (e.1, e.2 + c.1))
    pend := t.pend - c.1
    corrRem := c.2
    corrFin := t.corrFin || fin }
  let pub := publishMove t1 t.posNow c.1 (posAt t1 at_)
  let ahead (n : Nat) : Int :=
    let d : Int := (corrRate s t1 * n / fs s : Nat)
    let drain := if t1.pend = 0 then 0 else if t1.pend < 0 then -(min d t1.pend.natAbs) else min d t1.pend
    publishMove { t1 with snap := false } pub drain (posAt t1 (at_ + n * period s) + drain)
  setTb { t1 with
    snap := false
    posNow := pub
    posEnd := ahead 1
    posEnd2 := ahead 2
    cntNow := t1.cnt
    spdNow := speedMm t1
    ptpNow := ptpAxis s.ptp.t0
    tickT := at_ } s

end Sys2Proof.Machine
end

