-- ==== Sys2Proof/Machine/Mix.lean ====
section
/-!
DEFINITION. One frame of the Basin (R106 to R111), the output chain, Level Governor, Weir and Jet mix (R134 to R141), and the
meters (R142 to R144). Samples are integers in units of 2^-31.
-/

namespace Sys2Proof.Machine

/-- A sparse list of samples; unlisted is 0. -/
abbrev Samples := List (Nat × Int)

def smp (l : Samples) (k : Nat) : Int := alGet 0 l k

/-- Only the samples that are not 0. -/
def nonZero (l : Samples) : Samples := l.filter fun x => x.2 != 0

/-- A product (R108): rounded convergently to 2^-48 and saturated to 56 bits. -/
def product (x g : Int) : Int := satS 56 (convDiv (x * g) 2048)

/-- A bus sample from its accumulator (R109), in units of 2^-31, and whether it saturated. -/
def busOf (acc : Int) : Int × Bool :=
  let v := convDiv acc (2 ^ 21)
  (satS 32 v * 16, decide (satS 32 v ≠ v))

def addTo (l : List (Nat × Int)) (k : Nat) (v : Int) : List (Nat × Int) := alSet l k (alGet 0 l k + v)

/-- Stage 2 map entry of slot word `i` (d × 32 + k): its source bus (R120). -/
def mapSrc (s : State) (i : Nat) : Option Nat :=
  let a := liveBase s + oMap + 2 * i
  let v := (rdByte s a).toNat + 256 * (rdByte s (a + 1)).toNat
  if v.testBit 15 then some (v % 512) else none

/-! ### Zero crossings (R116) -/

/-- A crossing: the sample is 0, or its sign differs from that of the frame before. -/
def crossed (prev cur : Int) : Bool := cur == 0 || decide (prev < 0) != decide (cur < 0)

/-- Watch the changes whose key is in `cls` on frame `f`. -/
def watch (f : Nat) (cls : Nat → Bool) (prev cur : Nat → Int) (s : State) : State :=
  { s with basin := { s.basin with moves := s.basin.moves.map fun m =>
      match m.disc with
      | .zeroCross t =>
        if cls m.key ∧ m.hit = none ∧ m.ramp = none ∧ m.land ≤ f ∧ f < m.land + t ∧ crossed (prev m.key) (cur m.key) then
          { m with hit := some f } else m
      | _ => m } }

/-! ### Uncorrectable words (R416) -/

/-- The Basin reads the live Forme: words with flipped bits are corrected, or begin to act as 0. -/
def basinReads (f : Nat) (s : State) : State :=
  if s.fab.flips.isEmpty then (if s.basin.ueWords.isEmpty then s else setBasin { s.basin with ueWords := [] } s)
  else
    let ks := (s.fab.flips.map (·.1)).filter fun a => decide (liveBase s ≤ a ∧ a < liveBase s + oRsv)
    let r := ks.foldl (fun (x : State × List (Nat × Nat)) a =>
      let e := eccRead a x.1
      let o := a - liveBase s
      if e.2 then (e.1, (o, match s.basin.ueWords.find? (fun y => y.1 == o) with | some y => y.2 | none => f) :: x.2)
      else (e.1, x.2)) (s, [])
    setBasin { r.1.basin with ueWords := r.2 } r.1

def isUe (s : State) (o : Nat) : Bool := s.basin.ueWords.any fun x => x.1 == o

/-! ### Stages 1 to 3 -/

/-- Offsets of the words in `[lo, hi)` of the live Forme that can be non-zero: listed words and words in flight. -/
def activeWords (s : State) (lo hi : Nat) : List Nat :=
  let listed := s.mem.filterMap fun c =>
    let o := (c.1 - liveBase s) / 4 * 4
    if c.1 < liveBase s + lo ∨ c.1 ≥ liveBase s + hi then none else some o
  (listed ++ (s.basin.moves.map (·.key)).filter (fun k => decide (lo ≤ k ∧ k < hi))).dedup

/-- Stage 1 accumulators (R106, R108). -/
def stage1 (s : State) (f : Nat) (ins : Samples) : List (Nat × Int) :=
  (activeWords s 0 oStage2).foldl (fun acc o =>
    let i := o / 4 / 512
    let b := o / 4 % 512
    if i < limIn s ∧ b < limBus s ∧ smp ins i ≠ 0 then
      let p := product (smp ins i) (liveGain s o f)
      if p = 0 then acc else addTo acc b p
    else acc) []

/-- Stage 2 slot words in use: offset, destination, source (R110, R119). -/
def stage2Slots (s : State) : List (Nat × Nat × Nat) :=
  (activeWords s oStage2 oRouter).filterMap fun o =>
    let i := (o - oStage2) / 4
    match mapSrc s i with
    | some b => if i / 32 < limBus s ∧ b < limBus s then some (o, i / 32, b) else none
    | none => none

/-- Source buses of the slots in use, whatever their gains (R109, R110): every map entry with EN = 1. -/
def mapSources (s : State) : List Nat :=
  (s.mem.filterMap fun c =>
    let o := c.1 - (liveBase s + oMap)
    if c.1 ≥ liveBase s + oMap ∧ c.1 < liveBase s + oOutSet ∧ o % 2 = 1 ∧ c.2.getLsbD 7 then
      match mapSrc s (o / 2) with
      | some b => if o / 2 / 32 < limBus s ∧ b < limBus s then some b else none
      | none => none
    else none).dedup

/-- Stage 2 source samples: each source bus once (R109, R110). -/
def stage2Src (s : State) (acc : List (Nat × Int)) : List (Nat × (Int × Bool)) :=
  (mapSources s).map fun b => (b, busOf (alGet 0 acc b))

def stage2 (s : State) (f : Nat) (acc : List (Nat × Int)) (src : List (Nat × (Int × Bool))) : List (Nat × Int) :=
  (stage2Slots s).foldl (fun a x =>
    let p := product (alGet (0, false) src x.2.2).1 (liveGain s x.1 f)
    if p = 0 then a else addTo a x.2.1 p) acc

/-- A Stage 3 source (R111, R119, R120): sample, and whether an N−1 value saturated. -/
def source (s : State) (f : Nat) (ins : Samples) (acc : List (Nat × Int)) (bus : Samples) (w : Word) : Int × Bool :=
  let i := bits w 9 0
  match bits w 31 28 with
  | 1 => if i < limBus s then (smp bus i, false) else (0, false)
  | 2 => if i < limIn s then (smp ins i, false) else (0, false)
  | 3 =>
    if i < limBus s then
      let m := bits w 25 16
      let p := if m < limIn s then product (smp ins m) (liveGain s (4 * (512 * m + i)) f) else 0
      busOf (alGet 0 acc i - p)
    else (0, false)
  | _ => (0, false)

def badKind (w : Word) : Bool := decide (bits w 31 28 > 3)

/-- Two weighted sources (R131). The sum is rounded convergently to 2^-31, the grid of the sources, before the trim multiplies it (DESIGN
CHOICE, log entry 87: R131 gives no precision). -/
def sluiceMix (x : Sluice) (f : Nat) (old new : Int) : Int :=
  let q := sluiceQ x f
  if q.n = q.d then new
  else if x.law then convDiv (old * cosQ q + new * sinQ q) fxOne
  else convDiv (old * (q.d - q.n : Nat) + new * q.n) q.d

/-- Outputs that can be other than silent. -/
def activeOuts (s : State) : List Nat :=
  (((activeWords s oRouter oBusSet).map fun o => (o - oRouter) / 8) ++ s.basin.sluices.map (·.o)).dedup.filter
    fun o => decide (o < limOut s)

/-- The selected source of output `o`: sample, saturations, a bad kind met. -/
def selected (s : State) (f : Nat) (ins : Samples) (acc : List (Nat × Int)) (bus : Samples) (o : Nat) : Int × Nat × Bool :=
  let get (w : Word) : Int × Nat × Bool :=
    let v := source s f ins acc bus w
    (v.1, if v.2 then 1 else 0, badKind w)
  if isUe s (oRouter + 8 * o) then (0, 0, false)
  else
    match s.basin.sluices.find? (fun x => x.o == o) with
    | none => get (routeWord s o)
    | some x =>
      let a := get x.old
      let b := get x.new
      (sluiceMix x f a.1 b.1, a.2.1 + b.2.1, a.2.2 || b.2.2)

/-! ### Level Governor (R139 to R141) -/

def zoneWord (s : State) (z k : Nat) : Word := liveWord s (oZones + 64 * z + 4 * k)
def outWord (s : State) (o k : Nat) : Word := liveWord s (oOutSet + 16 * o + 4 * k)

/-- Zones with EN = 1, and the outputs of a zone. Only listed words can be set. -/
def zonesOn (s : State) : List Nat :=
  s.mem.filterMap fun c =>
    let o := c.1 - (liveBase s + oZones)
    if c.1 ≥ liveBase s + oZones ∧ c.1 < liveBase s + oRsv ∧ o % 64 = 3 ∧ c.2.getLsbD 7 then some (o / 64) else none

def zoneOuts (s : State) : List (Nat × Nat) :=
  s.mem.filterMap fun c =>
    let o := c.1 - (liveBase s + oOutSet)
    if c.1 ≥ liveBase s + oOutSet ∧ c.1 < liveBase s + oZones ∧ o % 16 = 2 ∧ c.2.getLsbD 7 then some (o / 16, c.2.toNat % 128)
    else none

/-- 10^(−a/2560) as a level in units of 2^-96. -/
def levelOf (a : Nat) : Nat := fxPow10 (-(a : Int)) 2560

/-- An exponential average with time constant `tc` ms, one frame on (R140, R142). -/
def expAvg (fs tc old new : Nat) : Nat :=
  let k := fxExpNeg 1000 (tc * fs)
  (old * k + new * (fxOne - k)) / fxOne

/-- A mean square in units of 2^-94 as a level in 1/128 dB × 2^32, full scale 0. -/
def dbOf (ms : Nat) : Int :=
  if ms = 0 then -(0x10000 * 2 ^ 32)
  else convDiv (fxLog2 (ms * 2 ^ 2) 0 * 1280 * fxOne) (2 ^ 16 * fxLog2Ten)

/-- The target offset of a zone, 1/128 dB × 2^32 (R141). -/
def zoneTarget (s : State) (z amb : Nat) (speed : Int) : Int :=
  let ref : Int := -((bits (zoneWord s z 2) 31 16 : Nat) : Int) * 2 ^ 32
  let ex := max 0 (dbOf amb - ref)
  let a := ex * (bits (zoneWord s z 2) 15 0 : Nat) / 256
  let b : Int := (bits (zoneWord s z 3) 15 0 * speed.natAbs * 2 ^ 32 / 1000 : Nat)
  let c : Int := if bit (zoneWord s z 4) 31 then sgn 16 (bits (zoneWord s z 4) 15 0) * 2 ^ 32 else 0
  let mx := min 0x900 (sgn 16 (bits (zoneWord s z 5) 31 16))
  clampI (sgn 16 (bits (zoneWord s z 5) 15 0) * 2 ^ 32) (mx * 2 ^ 32) (a + b + c)

/-- One frame of a zone: `pk` the largest member output after the trim. -/
def zoneStep (s : State) (ins : Samples) (pk : Nat) (speed : Int) (z0 : ZoneSt) : ZoneSt :=
  let z := z0.z
  let w0 := zoneWord s z 0
  let start := !z0.enabled
  let ref := fxPow10 (-((bits (zoneWord s z 2) 31 16 : Nat) : Int)) 1280 / 4
  let quiet := decide (pk * 2 ^ 65 < levelOf (bits w0 15 0))
  let inGap := z0.inGap && quiet
  let amb := if start then ref else z0.amb
  let x := (smp ins (bits w0 25 16)).natAbs
  let amb' := if inGap then expAvg (fs s) (zeroIs1 (bits (zoneWord s z 1) 15 0)) amb (x * x * 2 ^ 32) else amb
  let step : Int := (min 0x600 (bits (zoneWord s z 6) 15 0) * 2 ^ 32 / fs s : Nat)
  let t := zoneTarget s z amb' speed
  { z0 with below := if quiet then z0.below + 1 else 0, inGap := inGap, amb := amb', enabled := true,
            off := z0.off + clampI (-step) step (t - z0.off) }

/-- The Level Governor, from the outputs after their trims and the shared speed sample (R68, R141). A zone whose EN becomes 1 slews from
the offset that it last had, 0 the first time (DESIGN CHOICE, log entry 89: R140 gives the start of the ambient level alone). -/
def governor (ins : Samples) (trims : Samples) (s : State) : State :=
  let on := zonesOn s
  let mem := zoneOuts s
  let pk (z : Nat) : Nat := mem.foldl (fun a x => if x.2 = z then max a (smp trims x.1).natAbs else a) 0
  let zs := on.map fun z =>
    let z0 := (s.basin.zones.find? (fun x => x.z == z)).getD ⟨z, 0, false, 0, 0, false⟩
    zoneStep s ins (pk z) s.tb.spdNow z0
  let off := (s.basin.zones.filter fun x => !on.contains x.z).map fun x => { x with enabled := false, inGap := false, below := 0 }
  setBasin { s.basin with zones := zs ++ off } s

/-- ZONE_GAP_BEGIN (R140). -/
def zoneGapBegin (z : Nat) (s : State) : State :=
  let w := bits (zoneWord s z 1) 31 16
  { s with basin := { s.basin with zones := s.basin.zones.map fun x =>
      if x.z = z ∧ x.enabled ∧ x.below ≥ framesOfMs s w then { x with inGap := true } else x } }

/-- The offset that acts on an output (R139), 1/128 dB × 2^32. -/
def outOffset (s : State) (members : List (Nat × Nat)) (o : Nat) : Int :=
  match members.find? (fun x => x.1 == o) with
  | none => 0
  | some (_, z) => match s.basin.zones.find? (fun x => x.z == z && x.enabled) with | some x => x.off | none => 0

/-- The product with a Level Governor gain, rounded convergently to 2^-31 (DESIGN CHOICE, log entry 87: R137 gives it no format). -/
def govGain (x off : Int) : Int := if off = 0 then x else convDiv (x * fxPow10 off (2560 * 2 ^ 32)) fxOne

/-! ### Weir (R138) -/

abbrev gOne : Nat := 2 ^ 120

/-- r of a sample in units of 2^-120, `c` the ceiling in units of 2^-96. -/
def weirR (c : Nat) (x : Int) : Nat := if x = 0 then gOne else min gOne (c * 2 ^ 55 / x.natAbs)

/-- What a sample that leaves `j` frames from now, with its r, allows (R138): below the present gain, the straight line that reaches r in
time; else r itself, which a rise does not pass (log entry 90). -/
def weirAllows (g r j : Nat) : Nat := if r < g then ((g : Int) - ((g : Int) - r).fdiv (j + 1 : Nat)).toNat else r

/-- The applied gain of an output on one frame: `xs` the samples of the look-ahead, the one that leaves now first. -/
def weirGain (s : State) (o g : Nat) (xs : List Int) : Nat :=
  let c := levelOf (bits (outWord s o 0) 15 0)
  let rel := zeroIs1 (bits (outWord s o 1) 15 0)
  let up := min gOne (g * fxPow10 rel (320 * fs s) / fxOne)
  xs.zipIdx.foldl (fun a x => min a (weirAllows g (weirR c x.1) x.2)) up

/-- A limited sample: never above the ceiling. -/
def weirOut (s : State) (o g : Nat) (x : Int) : Int :=
  let cap : Int := (levelOf (bits (outWord s o 0) 15 0) / 2 ^ 65 : Nat)
  clampI (-cap) cap (convDiv (x * g) gOne)

/-! ### Jet paths (R134, R135) -/

/-- The weight of a contribution on frame `f`. -/
def jetW (c : JetC) (f : Nat) : Frac :=
  if f < c.start then c.w0 else if c.up then fracUp c.w0 (f - c.start) c.l else fracDown c.w0 (f - c.start) c.l

/-- The mute level of a path in 64ths: without a ramp, what PATH.MUTE says. -/
def muteLevel (s : State) (p f : Nat) : Nat :=
  match s.basin.mutes.find? (fun x => x.p == p) with
  | none => if rbit s (aJET_PATH p) 30 then 0 else 64
  | some m => let k := if f < m.start then 0 else f + 1 - m.start
              if m.on then m.w0 - k else min 64 (m.w0 + k)

/-- A Jet sample (R26, R136): gain, mute, clipping at the ceiling of its output; whether it clipped. -/
def jetSample (s : State) (f : Nat) (raw : Samples) (c : JetC) : Int × Bool :=
  let y := convDiv (smp raw c.src * liveGain s (kJet + 4 * c.p) f * muteLevel s c.p f) (2 ^ 34)
  let w := outWord s c.dst 0
  if bit w 31 then
    let cap : Int := (levelOf (bits w 15 0) / 2 ^ 65 : Nat)
    (clampI (-cap) (min cap 0x7FFFFFFF) y, decide (y.natAbs > cap.toNat))
  else (satS 32 y, false)

/-- Weights as fractions of a common denominator, divided by their sum when it exceeds 1 (R135). -/
def jetMix (s : State) (f : Nat) (raw : Samples) (o : Nat) (basin : Int) : Int × Nat :=
  let cs := (s.basin.jets.filter fun c => c.dst == o && (jetW c f).n != 0).map fun c => (jetW c f, jetSample s f raw c)
  match cs with
  | [] => (basin, 0)
  | _ =>
    let d := cs.foldl (fun a c => a * c.1.d) 1
    let w (c : Frac × (Int × Bool)) : Nat := c.1.n * (d / c.1.d)
    let t := (cs.map w).sum
    let sum := (cs.map fun c => (w c : Int) * c.2.1).sum
    let clips := (cs.filter fun c => c.2.2).length
    if t ≥ d then (satS 32 (convDiv sum t), clips)
    else (satS 32 (convDiv (sum + (d - t : Nat) * basin) d), clips)

/-! ### Meters (R142 to R144) -/

/-- One frame of the meters of a list of points. -/
def meterStep (fs tc : Nat) (refresh : Bool) (vals : Samples) (l : List (Nat × Meter)) : List (Nat × Meter) :=
  ((l.map (·.1)) ++ ((nonZero vals).map (·.1))).dedup.filterMap fun k =>
    let m := alGet ⟨0, 0, 0, 0⟩ l k
    let x := (smp vals k).natAbs
    let pk := max m.peak x
    let ms := expAvg fs tc m.ms (x * x * 2 ^ 32)
    let n : Meter := if refresh then ⟨0, ms, pk, ms⟩ else ⟨pk, ms, m.shPeak, m.shMs⟩
    if n = ⟨0, 0, 0, 0⟩ then none else some (k, n)

/-- RMS_TC (Table 04-19). -/
def rmsTc (s : State) : Nat := clampN 1 10000 (rfld s aMETER_CFG 15 0)

/-- Meters refresh once per frame, or once per block under shed step 1, and not while HOLD stops the snapshots (R144, R449). -/
def meterRefresh (s : State) (f : Nat) : Bool := (decide (s.shed = 0) || isBlock s (f + 1)) && !rbit s aHOSTIF_PROOF 31

/-! ### The frame (R106) -/

/-- A Jet gain's source sample, by the path's key. -/
def jetSrc (s : State) (raw : Samples) (key : Nat) : Int := smp raw (rfld s (aJET_PATH ((key - kJet) / 4)) 9 0)

/-- Close frame `f`: the Basin computes it from the inputs `ins` as they leave the Press inserts, the Jet paths from the ring
samples `raw`. An output whose WEIR_EN becomes 1 begins at gain 1 (DESIGN CHOICE, log entry 90). -/
def closeFrame (f : Nat) (ins raw : Samples) (s : State) : State :=
  let s := basinReads f s
  -- Stage 1
  let s1 := watch f (fun k => decide (k < oStage2)) (fun k => smp s.basin.lastIn (k / 4 / 512)) (fun k => smp ins (k / 4 / 512)) s
  let acc1 := stage1 s1 f ins
  -- Stage 2
  let src := stage2Src s1 acc1
  let b1 : Samples := acc1.map fun x => (x.1, (busOf x.2).1)
  let srcOf (s : State) (l : Samples) (k : Nat) : Int := match mapSrc s ((k - oStage2) / 4) with | some b => smp l b | none => 0
  let s2 := watch f (fun k => decide (oStage2 ≤ k ∧ k < oRouter)) (srcOf s1 s.basin.lastBus) (srcOf s1 b1) s1
  let acc := stage2 s2 f acc1 src
  let buses := acc.map fun x => (x.1, busOf x.2)
  let bus : Samples := buses.map fun x => (x.1, x.2.1)
  -- Stage 3
  let outs := (activeOuts s2).map fun o => (o, selected s2 f ins acc bus o)
  let sel : Samples := outs.map fun x => (x.1, x.2.1)
  let s3 := watch f (fun k => decide (oRouter ≤ k ∧ k < kJet)) (fun k => smp s.basin.lastSel ((k - oRouter) / 8))
    (fun k => smp sel ((k - oRouter) / 8)) s2
  -- output chain
  let trimmed := sel.map fun x => (x.1, busOf (product x.2 (liveGain s3 (oRouter + 8 * x.1 + 4) f)))
  let trims : Samples := trimmed.map fun x => (x.1, x.2.1)
  let en := enOf s pgBASIN
  let s4 := governor ins trims s3
  let members := zoneOuts s4
  let ch : Samples := nonZero (trims.map fun x => (x.1, if en then govGain x.2 (outOffset s4 members x.1) else 0))
  let chain := (ch :: s.basin.chain).take 17
  let heard := (chain.flatMap (fun l => l.map (·.1)) ++ s.basin.weir.map (·.1)).dedup
  let limited := heard.map fun o =>
    let xs := ((List.range 17).map fun j => smp (chain.getD (16 - j) []) o)
    let x := smp (chain.getD 16 []) o
    if bit (outWord s4 o 0) 31 then
      let g := weirGain s4 o (alGet gOne s.basin.weir o) xs
      (o, weirOut s4 o g x, g)
    else (o, x, gOne)
  let weir := (limited.map fun x => (x.1, x.2.2)).filter fun x => x.2 != gOne
  let outSat := (limited.filter fun x => decide (satS 32 x.2.1 ≠ x.2.1)).length
  let basinOut : Samples := limited.map fun x => (x.1, if en then satS 32 x.2.1 else 0)
  -- Jet paths
  let s5 := watch f (fun k => decide (kJet ≤ k)) (fun k => smp s.basin.lastJet (rfld s (aJET_PATH ((k - kJet) / 4)) 9 0)) (jetSrc s raw) s4
  let all := ((basinOut.map (·.1)) ++ s5.basin.jets.map (·.dst)).dedup.filter fun o => decide (o < limOut s)
  let mixed := all.map fun o => (o, jetMix s5 f raw o (smp basinOut o))
  let out : Samples := nonZero (mixed.map fun x => (x.1, x.2.1))
  let clips := (mixed.map fun x => x.2.2).sum
  -- counters
  let busOver := (src.filter (·.2.2)).length + (buses.filter (·.2.2)).length + (outs.map (·.2.2.1)).sum
    + (trimmed.filter (·.2.2)).length
  let s6 := if busOver = 0 then s5 else iset pgBASIN 4 (cnt aBASIN_BUS_OVER_CNT s5 busOver)
  let s7 := if outSat = 0 then s6 else iset pgBASIN 5 (cnt aBASIN_OUT_OVER_CNT s6 outSat)
  let s8 := if outs.any (·.2.2.2) then iset pgBASIN 3 s7 else s7
  let s9 := if clips = 0 then s8 else iset pgJET 1 (cnt aJET_CLIP_CNT s8 clips)
  let r := meterRefresh s f
  let mt := meterStep (fs s) (rmsTc s) r
  let s10 := peak aBASIN_SLOT_PEAK (slotsBusy s9) s9
  setBasin { s10.basin with
    lastIn := nonZero ins, lastBus := nonZero b1, lastSel := nonZero sel, lastJet := nonZero raw
    busOut := nonZero bus
    chain := chain, weir := weir
    outHist := (out :: s.basin.outHist).take 20
    inMeter := mt ins s.basin.inMeter
    busMeter := mt bus s.basin.busMeter
    outMeter := mt out s.basin.outMeter } s10

end Sys2Proof.Machine
end

