-- ==== Sys2Proof/Machine/Ports.lean ====
section
/-!
DEFINITION. Serial audio port groups: formats, qualification, clock faults, frame assignment, rings, masks, start and stop
sequences (07_audio_ports.md R206 to R225, R234 to R237).
-/

namespace Sys2Proof.Machine

/-! ### Formats (R208, Table 07-8) -/

def slotCount (w : Word) : Nat := match bits w 18 16 with | 0 => 2 | 1 => 4 | 2 => 8 | 3 => 16 | 4 => 32 | _ => 2
def slotWidth (w : Word) : Nat := match bits w 13 12 with | 0 => 16 | 1 => 24 | _ => 32
def wordLen (w : Word) : Nat := match bits w 9 8 with | 0 => 16 | 1 => 24 | _ => 32
def gcfgMode (w : Word) : Bool := bit w 31

/-- A valid format and class (R208, R212, R224). -/
def gcfgValid (w : Word) : Bool :=
  let fmt := bits w 22 20
  decide (bits w 18 16 ≤ 4) && decide (bits w 13 12 ≠ 3) && decide (bits w 9 8 ≠ 3) && decide (bits w 29 28 ≠ 3)
    && decide (wordLen w ≤ slotWidth w) && !(gcfgMode w && bits w 29 28 == 0)
    && (match fmt with
        | 0 => bits w 18 16 == 0 && bit w 6 && bit w 5
        | 1 => bits w 18 16 == 0 && bit w 6 && !bit w 5
        | 2 => true
        | _ => false)

/-- The fields that change only while EN = 0 (R212). -/
def gcfgFixed : Word := 0x80773374#32

/-- A PORT word of a group under the GCFG word `c` maps its slots below the channel limits (R220). -/
def portFits (s : State) (g : Nat) (c w : Word) : Bool :=
  let n := if g = 3 ∧ bit w 28 then 2 else slotCount c
  decide (bits w 9 0 + n ≤ limIn s) && decide (bits w 25 16 + n ≤ limOut s)

def portWordValid (s : State) (g : Nat) (w : Word) : Bool := portFits s g (rget s (aPORTG_GCFG g)) w

section
variable (s : State)

def gcfg (g : Nat) : Word := rget s (aPORTG_GCFG g)
def portWord (g m : Nat) : Word := rget s (aPORTG_PORT g m)
def isAes (g m : Nat) : Bool := decide (g = 3) && bit (portWord s g m) 28
/-- Slots of port `m` (R219). -/
def portSlots (g m : Nat) : Nat := if isAes s g m then 2 else slotCount (gcfg s g)
def framePeriods (g : Nat) : Nat := slotCount (gcfg s g) * slotWidth (gcfg s g)
/-- The frame rate that the nominal bit clock stands on, 1/256 Hz: MEDIA in SYNC mode, as measured in ASRC mode (R209). -/
def frameRate256 (g : Nat) : Nat := if gcfgMode (gcfg s g) then (rget s (aPORTG_RATE_MEAS g)).toNat else 256 * fs s
/-- One nominal bit period in ps. -/
def bitPs (g : Nat) : Nat := 256 * 10 ^ 12 / (framePeriods s g * frameRate256 s g)
def zcFrames (g : Nat) : Nat := framesOfMs s (zeroIs1 (rfld s (aPORTG_TIMEOUT g) 7 0))
def anyAes (g : Nat) : Bool := decide (g = 3) && (List.range 8).any fun m => isAes s 3 m

/-- The bit clock suits the format (R209, R226). -/
def bclkOk (g : Nat) : Bool :=
  decide (framePeriods s g * frameRate256 s g ≤ 256 * 49152000) && (!anyAes s g || decide (framePeriods s g = 128))

/-- The rate is within tolerance (R214): 1 % of MEDIA, or a ratio of 0.5 to 2. -/
def rateOk (g rate : Nat) : Bool :=
  let m := 256 * fs s
  if gcfgMode (gcfg s g) then decide (m ≤ 2 * rate) && decide (rate ≤ 2 * m)
  else decide (100 * rate ≤ 101 * m) && decide (99 * m ≤ 100 * rate)

end

/-- The address of slot word `sl` of ring frame `k` (R219). -/
def ringAddr (s : State) (out : Bool) (g m k sl : Nat) : Nat :=
  (if out then 0x240000 else 0x200000) + (8 * g + m) * 0x2000 + (k % 64 * portSlots s g m + sl) * 4

def grp (s : State) (g : Fin 4) : GroupSt := s.ports.groups[g]
def setGrp (g : Fin 4) (x : GroupSt) (s : State) : State :=
  { s with ports := { s.ports with groups := s.ports.groups.set g x } }

def actIn (s : State) (g m : Nat) : Word := rget s (aPORTG_ACT_INMASK g m)
def actOut (s : State) (g m : Nat) : Word := rget s (aPORTG_ACT_OUTMASK g m)

/-! ### Start and stop sequences (R223) -/

def seqKey (out : Bool) (m sl : Nat) : Nat := (if out then 256 else 0) + 32 * m + sl

def seqGet (l : List ChanSeq) (key : Nat) : ChanSeq := (l.find? (fun c => c.key == key)).getD ⟨key, .off, 0, 0, none⟩

def seqPut (c : ChanSeq) (l : List ChanSeq) : List ChanSeq :=
  if l.any (fun x => x.key == c.key) then l.map fun x => if x.key = c.key then c else x else l ++ [c]

def seqStart (c : ChanSeq) : ChanSeq :=
  match c.st with
  | .off => { c with st := .wait, n := 0, k := 0 }
  | .stopWait => { c with st := .run, n := 64 }
  | .down => { c with st := .up }
  | .wait | .up | .run => c

def seqStop (c : ChanSeq) : ChanSeq :=
  match c.st with
  | .wait => { c with st := .off, n := 0 }
  | .up => { c with st := .down }
  | .run => { c with st := .stopWait, k := 0 }
  | .off | .stopWait | .down => c

def seqOff (c : ChanSeq) : ChanSeq := { c with st := .off, n := 0, k := 0 }

/-- A sample under a gain in 64ths. -/
def gain64 (x : Int) (n : Nat) : Int := convDiv (x * n) 64

/-- One frame of a sequence on sample `x`: what the channel carries, and the sequence after it. -/
def seqStep (c : ChanSeq) (x : Int) : Int × ChanSeq :=
  let cross := x == 0 || (match c.prev with | some p => decide (p < 0) != decide (x < 0) | none => false)
  let c := { c with prev := some x }
  match c.st with
  | .off => (0, c)
  | .wait => if cross then (gain64 x 1, { c with st := .up, n := 1 }) else (0, { c with k := c.k + 1 })
  | .up => (gain64 x (min 64 (c.n + 1)), { c with n := min 64 (c.n + 1) })
  | .run => (x, c)
  | .stopWait => if cross then (gain64 x 63, { c with st := .down, n := 63 }) else (x, { c with k := c.k + 1 })
  | .down => (gain64 x (c.n - 1), { c with n := c.n - 1 })

/-- Apply `f` to the sequences of a direction for these slots. -/
def seqSlots (out : Bool) (m : Nat) (is : List Nat) (f : ChanSeq → ChanSeq) (x : GroupSt) : GroupSt :=
  { x with seqs := is.foldl (fun l i => seqPut (f (seqGet l (seqKey out m i))) l) x.seqs }

/-- The slots of `mask` below the slot count. -/
def maskSlots (s : State) (g m : Nat) (mask : Word) : List Nat := (List.range (portSlots s g m)).filter (fun i => mask.getLsbD i)

/-- All channels of a direction carry 0. -/
def dirOff (x : GroupSt) (out : Bool) (m : Nat) : Bool :=
  x.seqs.all fun c => c.st == .off || decide (c.key / 32 ≠ seqKey out m 0 / 32)

/-- IN_STATE and OUT_STATE (Table 07-7); `en` is the direction's enable in PORT. -/
def dirState (x : GroupSt) (out : Bool) (m : Nat) (en : Bool) : Nat :=
  let act := x.act.getD m ⟨false, false, 0, 0⟩
  let on := if x.st = .run then (if out then act.outOn else act.inOn) else en
  let cs := x.seqs.filter fun c => c.key / 32 == seqKey out m 0 / 32 && c.st != .off
  if x.st = .off then 0
  else if x.st ≠ .run then (if on then 5 else 0)
  else if cs.any (fun c => c.st == .wait) then 1
  else if cs.any (fun c => c.st == .up) then 2
  else if cs.any (fun c => c.st == .stopWait || c.st == .down) then 4
  else if on then 3 else 0

/-! ### Channel ownership (R220) -/

/-- The input channels that a port's active input direction claims. -/
def portClaims (s : State) (g : Fin 4) (m : Nat) : List Nat :=
  let a := (grp s g).act.getD m ⟨false, false, 0, 0⟩
  if a.inOn then (List.range (portSlots s g m)).filterMap fun i => if (actIn s g m).getLsbD i then some (a.inBase + i) else none else []

/-- The port (8 g + m) that owns an input channel: the lowest that claims it. -/
def portOwner (s : State) (c : Nat) : Option Nat :=
  (List.range 32).find? fun p => (portClaims s (Fin.ofNat 4 (p / 8)) (p % 8)).contains c

/-! ### Flow entries (R273, R275) -/

/-- The committed entry of a flow. -/
def rxDefault : List Word := [0x2A086001#32, 0x00700000#32, 0, 0, 0, 0, 0, 0, 0, 0]
def txDefault : List Word := [0x2A086001#32, 0, 0, 0, 0, 0, 0, 0x1388#32, 0, 0]
def flowEntry (s : State) (tx : Bool) (f : Nat) : List Word :=
  if tx then alGet txDefault s.net.txE f else alGet rxDefault s.net.rxE f
def ew (e : List Word) (i : Nat) : Word := e.getD i 0

def eEn (e : List Word) : Bool := bit (ew e 0) 31
def eCh (e : List Word) : Nat := bits (ew e 0) 22 16
def ePath (e : List Word) (x : Nat) : Bool := bit (ew e 0) x
def eInBase (e : List Word) : Nat := bits (ew e 1) 9 0

/-- The enabled receive flows that name channel `c` lose it to a port (R261). -/
def flowLoses (c : Nat) (s : State) : State :=
  (s.net.rxE.filter fun x => eEn x.2 && decide (eInBase x.2 ≤ c ∧ c < eInBase x.2 + eCh x.2)).foldl (fun s _ =>
    errcap pgSTREAMRX 2 c (iset pgSTREAMRX 4 s)) s

/-- Ports that lose channels to port `p`, or port `p` to lower ones, capture MAPCONF (R220). -/
def mapConf (g : Fin 4) (m : Nat) (s : State) : State :=
  (portClaims s g m).foldl (fun s c =>
    flowLoses c <| ((List.range 32).filter fun p => (portClaims s (Fin.ofNat 4 (p / 8)) (p % 8)).contains c).drop 1
      |>.foldl (fun s p => errcap (pgPORTG (p / 8)) 2 c (iset (pgPORTG (p / 8)) 7 s)) s) s

/-! ### The ASRC seen from a port slot (R231) -/

def asrcCh (s : State) (c : Nat) : Word := rget s (aASRC_CH c)

/-- The entry that serves a slot: the lowest enabled one that names it. -/
def asrcFor (s : State) (kind index : Nat) : Option Nat :=
  (List.range 128).find? fun c =>
    let w := asrcCh s c
    bit w 31 && bits w 29 28 == kind && bits w 13 0 == index

/-- Does a port slot pass the ASRC: a slot of an ASRC-mode group, or of an AES3 receiver with RXSYNC = 0? -/
def slotAsrc (s : State) (g m : Nat) (out : Bool) : Bool :=
  if isAes s g m ∧ ¬ out then !rbit s (aAES3_PORTCFG m) 31 else gcfgMode (gcfg s g)

/-- The timing source of a port slot (R231): an AES3 receiver for what it receives, the group for every other slot. -/
def slotSource (s : State) (g m : Nat) (out : Bool) : Nat := if isAes s g m ∧ ¬ out then 4 + m else g

def srcLocked (s : State) (i : Nat) : Bool := rbit s aASRC_LOCKSTAT i

/-- An AES3 receiver runs after 64 good frames (R226). -/
def aesReady (s : State) (m : Nat) : Bool := decide ((s.ports.aes.getD m Aes3St.reset).qual ≥ 64)

/-- The slot's channel may start: its receiver runs, and a slot that passes the ASRC has a channel and a locked source (R226, R231,
R232). -/
def canStart (s : State) (g : Fin 4) (out : Bool) (m sl : Nat) : Bool :=
  (out || !isAes s g m || aesReady s m)
    && (!slotAsrc s g m out || (srcLocked s (slotSource s g m out)
      && (asrcFor s (if out then 1 else 0) (32 * (8 * g + m) + sl)).isSome))

/-- Start the slots of `mask` of a direction that can start (R221, R223). -/
def startSlots (s : State) (g : Fin 4) (out : Bool) (m : Nat) (mask : Word) (x : GroupSt) : GroupSt :=
  seqSlots out m ((maskSlots s g m mask).filter (canStart s g out m)) seqStart x

/-- A timing source loses lock (R232). -/
def asrcUnlock (i : Nat) (s : State) : State :=
  if srcLocked s i then
    iset pgASRC 1 (cnt aASRC_UNLOCK_CNT (rput aASRC_LOCKSTAT i i 0 s))
  else s

/-! ### State changes of a group (Table 07-2) -/

/-- Drop the changes on their way: they act when the group next enters RUN (R222). -/
def dropChanges (g : Fin 4) (s : State) : State :=
  let x := grp s g
  let s1 := setGrp g { x with chg := [] } s
  (x.chg.filterMap (·.ticket)).foldl (fun s t => finishRunning t s.tb.frame s) s1

/-- SDO in QUALIFY and MISMATCH: the slots of enabled output directions are 0 (R213). -/
def zeroSdo (s : State) (g : Fin 4) : List (Nat × Option Word) :=
  (List.range 8).flatMap fun m =>
    if bit (portWord s g m) 30 then (List.range (portSlots s g m)).map fun i => (32 * m + i, some 0) else []

/-- What the SDO pins of a group carry: high impedance unless the device drives (R207). -/
def sdoPins (s : State) (g : Fin 4) : List (Nat × Option Word) := if s.twin.drive then (grp s g).sdo else []

/-- An input direction runs or is still stopping. -/
def inLive (x : GroupSt) (m : Nat) : Bool := (x.act.getD m ⟨false, false, 0, 0⟩).inOn || !dirOff x false m

/-- The group enters OFF when nothing runs (R213). A fade in progress goes on. -/
def groupOff (g : Fin 4) (s : State) : State :=
  let x := grp s g
  let act := x.act.map fun a => { a with inOn := false, outOn := false }
  rset (aPORTG_ALIGN g) 0 (asrcUnlock g (setGrp g { GroupSt.reset with
    fade := x.fade, last := x.last, carried := x.carried, act := act } s))

/-- After a stop: OFF when every direction is off. -/
def settleStop (g : Fin 4) (s : State) : State :=
  let x := grp s g
  if x.stopping ∧ x.seqs.all (fun c => c.st == .off) then groupOff g s else s

/-- The group leaves RUN for a clock fault: the inputs that ran fade over 16 MEDIA frames (R215); with EN = 0 it is OFF (R213). -/
def leaveRun (g : Fin 4) (st : GState) (s : State) : State :=
  let s := dropChanges g s
  let x := grp s g
  let ran := decide (x.st = GState.run)
  let keep (l : List (Nat × Int)) : List (Nat × Int) := if ran then l.filter fun v => inLive x (v.1 / 32) else l
  let s1 := setGrp g { x with
    st := st, qual := 0, faulted := true, retrack := false, rateFar := false, badClk := false
    fade := if ran then some s.tb.frame else x.fade, last := keep x.last, carried := keep x.carried
    seqs := x.seqs.map seqOff, sdo := if st = GState.stopped then [] else zeroSdo s g } s
  settleStop g (rput (aPORTG_ALIGN g) 31 30 0 (asrcUnlock g s1))

/-- The rate is out of tolerance: MISMATCH (Table 07-3). -/
def enterMismatch (g : Fin 4) (s : State) : State := leaveRun g .mismatch (setGrp g { grp s g with rateBad := true } s)

/-- CTRL.EN of a group has changed (R213). -/
def groupEn (g : Fin 4) (en : Bool) (s : State) : State :=
  let x := grp s g
  if en then
    -- a gated domain keeps its group OFF (R323)
    if rbit s aCLKGEN_DOMGATE (8 + g) then s
    else if x.st = .off then setGrp g { x with st := .qualify, qual := 0, stopping := false, badClk := false, sdo := zeroSdo s g } s
    else setGrp g { x with stopping := false } s
  else if x.st = .off then s
  else if x.st = .run then
    settleStop g (setGrp g { x with stopping := true, seqs := x.seqs.map seqStop } s)
  else groupOff g s

/-! ### Port changes (R221, R222) -/

/-- When a change that lands on the present frame by WRITE_PARAM, or is written now by the host in SOLO, acts; and whether
that is one frame late. -/
def landOf (s : State) (g : Fin 4) (direct : Bool) : LandAt × Bool :=
  if direct then (.time (s.now + 32 * bitPs s g), false)
  else if gcfgMode (gcfg s g) then (.media s.tb.frame, false)
  else if (grp s g).phi0 < 32 then (.asg (s.tb.frame + 2), true)
  else (.asg (s.tb.frame + 1), false)

/-- A mask or PORT word has been written: it acts at its group frame. The answer says whether that is one frame late. -/
def portChange (g : Fin 4) (m : Nat) (kind : ChgKind) (v : Word) (direct : Bool) (ticket : Option Word) (s : State) :
    State × Bool :=
  let x := grp s g
  if x.st = .run then
    let l := landOf s g direct
    (setGrp g { x with chg := x.chg ++ [⟨m, kind, v, l.1, if l.2 then ticket else none⟩] } s, l.2)
  else (s, false)

/-- A direction starts or stops. -/
def dirSet (g : Fin 4) (out : Bool) (m : Nat) (on : Bool) (s : State) : State :=
  let x := grp s g
  let mask := if out then actOut s g m else actIn s g m
  let a := x.act.getD m ⟨false, false, 0, 0⟩
  let x1 := { x with act := x.act.setIfInBounds m (if out then { a with outOn := on } else { a with inOn := on }) }
  let x2 := if on then startSlots s g out m mask x1
    else { x1 with seqs := x1.seqs.map fun c => if c.key / 32 = seqKey out m 0 / 32 then seqStop c else c }
  setGrp g x2 s

/-- The ring frames of a port that its outputs took before its direction ran: the last two MEDIA frames (R218). -/
def fillOut (g : Fin 4) (m base : Nat) (s : State) : State :=
  if gcfgMode (gcfg s g) then s else [(s.tb.frame + 1, 0), (s.tb.frame, 1)].foldl (fun s x =>
    (List.range (portSlots s g m)).foldl (fun s sl =>
      stWord (ringAddr s true g m x.1 sl) (i32 (alGet 0 (s.ports.outLast.getD x.2 []) (base + sl))) s) s) s

/-- A PORT word acts. A base that changes while its direction runs stops the old mapping first; the answer says whether the
change has still to wait for that. -/
def portAct (g : Fin 4) (m : Nat) (v : Word) (s : State) : State × Bool :=
  let one (out : Bool) (s : State) : State × Bool :=
    let x := grp s g
    let a := x.act.getD m ⟨false, false, 0, 0⟩
    let on := bit v (if out then 30 else 31)
    let base := if out then bits v 25 16 else bits v 9 0
    let was := if out then a.outOn else a.inOn
    let old := if out then a.outBase else a.inBase
    let off := dirOff x out m
    if base ≠ old ∧ ¬ off then (if was then dirSet g out m false s else s, true)
    else
      let s1 := setGrp g { x with act := x.act.setIfInBounds m (if out then { a with outBase := base } else { a with inBase := base }) } s
      let s2 := if on ≠ was then dirSet g out m on (if out && on then fillOut g m base s1 else s1) else s1
      (if out then s2 else mapConf g m s2, false)
  let r := one false s
  let q := one true r.1
  (q.1, r.2 || q.2)

/-- A mask acts (R221). -/
def maskAct (g : Fin 4) (out : Bool) (m : Nat) (v : Word) (s : State) : State :=
  let a := if out then aPORTG_ACT_OUTMASK g m else aPORTG_ACT_INMASK g m
  let old := rget s a
  let x := grp s g
  let ac := x.act.getD m ⟨false, false, 0, 0⟩
  let on := if out then ac.outOn else ac.inOn
  let x1 := seqSlots out m (maskSlots s g m (old &&& ~~~v)) seqOff x
  let x2 := if on then startSlots s g out m (v &&& ~~~old) x1 else x1
  let s1 := rset a v (setGrp g x2 s)
  let s2 := if old = v then s1 else iset (pgPORTG g) 5 s1
  if out then s2 else mapConf g m s2

/-- Does a change act with the group frame that starts now? -/
def chgDue (s : State) (i : GroupIn) (asg : Nat) (c : PortChg) : Bool :=
  match c.land with
  | .asg a => decide (a ≤ asg)
  | .media f => decide (f < s.tb.frame) || (f == s.tb.frame && decide (32 ≤ i.phase.toNat))
  | .time t => decide (t ≤ i.t)

/-- The entry that a change belongs to completes with it, late. -/
def chgDone (c : PortChg) (s : State) : State :=
  match c.ticket with
  | none => s
  | some t =>
    finishRunning t s.tb.frame { s with comp := { s.comp with running := s.comp.running.map fun e =>
      if e.ticket = t then { e with land := s.tb.frame } else e } }

/-- These changes act in order; of the writes of one mask, the last (R221). -/
def chgRun (g : Fin 4) : List PortChg → State → State
  | [], s => s
  | c :: t, s =>
    let over_ := t.any fun d => d.kind == c.kind && d.m == c.m
    match c.kind with
    | .inMask => chgRun g t (chgDone c (if over_ then s else maskAct g false c.m c.v s))
    | .outMask => chgRun g t (chgDone c (if over_ then s else maskAct g true c.m c.v s))
    | .port =>
      let r := portAct g c.m c.v s
      let s2 := chgDone c r.1
      chgRun g t (if r.2 then
        let y := grp s2 g
        setGrp g { y with chg := y.chg ++ [{ c with land := .time 0, ticket := none }] } s2
      else s2)

/-- The changes that act with the group frame that starts now, in order. -/
def chgApply (g : Fin 4) (i : GroupIn) (s : State) : State :=
  let x := grp s g
  chgRun g (x.chg.filter (chgDue s i x.asg)) (setGrp g { x with chg := x.chg.filter fun c => !chgDue s i x.asg c } s)

/-! ### One group frame (R211, R216 to R219) -/

/-- An input word as a ring word: WLEN bits at the top (R211). -/
def inWord (wl : Nat) (w : Word) : Int := sgn 32 ((w >>> (32 - wl)) <<< (32 - wl)).toNat

/-- An output ring word rounded and saturated to WLEN bits, at the top (R211). -/
def outWordOf (wl : Nat) (x : Int) : Word := i32 (satS wl (convDiv x (2 ^ (32 - wl))) * 2 ^ (32 - wl))

/-- The sample of a received slot (R227): a parity error repeats the previous good one; V = 1 may replace it by 0. -/
def rxSample (g : Fin 4) (i : SlotIn) (s : State) : Int × State :=
  if isAes s g i.m then
    let y := s.ports.aes[i.m]
    let sub : Fin 2 := Fin.ofNat 2 i.s
    let y1 := if sub = 0 then { y with va := i.v } else { y with vb := i.v }
    let put (y : Aes3St) (s : State) : State := { s with ports := { s.ports with aes := s.ports.aes.set i.m y } }
    if ¬ y.lock ∨ i.s.val ≥ 2 ∨ ¬ enOf s pgAES3 then (0, s)
    else if i.parity then (y.good[sub], put y1 (iset pgAES3 0 (cnt aAES3_PARITY_CNT s)))
    else
      let v := inWord 24 i.w
      let v' := if i.v && rbit s (aAES3_PORTCFG i.m) 30 then 0 else v
      (v', put { y1 with good := y1.good.set sub v } s)
  else (inWord (wordLen (gcfg s g)) i.w, s)

/-- Is the slot's receiver ready? -/
def rxReady (s : State) (g : Fin 4) (m : Fin 8) : Bool := !isAes s g m || aesReady s m

/-- The ring frame of a port's input when group frame `k` ends: an AES3 receiver has an assignment of its own, or with RXSYNC = 0 its
own count (R219, R226). -/
def rxFrame (s : State) (g : Fin 4) (m k : Nat) : Nat :=
  if isAes s g m then
    let y := s.ports.aes.getD m Aes3St.reset
    if rbit s (aAES3_PORTCFG m) 31 then ((k : Int) + y.shift).toNat else y.frames
  else k

/-- One received slot of the frame that has ended, to ring frame `k`: the sequence of its channel acts on the port-side sample (R223). -/
def rxSlot (g : Fin 4) (k : Nat) (i : SlotIn) (s : State) : State :=
  let r := rxSample g i s
  let x := grp r.2 g
  let key := seqKey false i.m i.s
  let on := (actIn r.2 g i.m).getLsbD i.s && rxReady r.2 g i.m && decide (i.s.val < portSlots r.2 g i.m)
  let q := seqStep (seqGet x.seqs key) r.1
  let y := if on then q.1 else 0
  stWord (ringAddr r.2 false g i.m (rxFrame r.2 g i.m k) i.s) (i32 y)
    (setGrp g { x with seqs := seqPut q.2 x.seqs, last := alSet x.last (32 * i.m + i.s) y } r.2)

/-- The previous complete frame of these ports again, in ring frame `k` (R215, R217). -/
def rxRepeat (g : Fin 4) (k : Nat) (ms : List Nat) (s : State) : State :=
  ((grp s g).last.filter fun v => ms.contains (v.1 / 32)).foldl (fun s v =>
    stWord (ringAddr s false g (v.1 / 32) (rxFrame s g (v.1 / 32) k) (v.1 % 32)) (i32 v.2) s) s

/-- The ports of a group that follow its FS: all but the AES3 receivers. -/
def fsPorts (s : State) (g : Fin 4) : List Nat := (List.range 8).filter fun m => !isAes s g m

/-! ### AES3 transmitters (R226, R229) -/

/-- The CRCC of AES3 over bytes in time order: x^8 + x^4 + x^3 + x^2 + 1, initial value 0xFF (R228). -/
def crccBit (c : BitVec 8) : BitVec 8 := if c.getLsbD 0 then (c >>> 1) ^^^ 0xB8#8 else c >>> 1
def crccByte (c b : Byte) : Byte := crccBit (crccBit (crccBit (crccBit (crccBit (crccBit (crccBit (crccBit (c ^^^ b))))))))
def crcc (l : List Byte) : Byte := l.foldl crccByte 0xFF#8

/-- The 24 bytes of channel status or user data of subframe `sub` in a content of 24 words. -/
def contentBytes (ws : List Word) (user : Bool) (sub : Nat) : List Byte :=
  ((ws.drop ((if user then 12 else 0) + 6 * sub)).take 6).flatMap fun w => leBytes 4 w.toNat

/-- The channel status that a transmitter sends: byte 23 is computed with CRCGEN = 1 (R229). -/
def txStatus (s : State) (m sub : Nat) : List Byte :=
  let b := contentBytes (s.ports.aes.getD m Aes3St.reset).txAct false sub
  if rbit s (aAES3_PORTCFG m) 28 then b.take 23 ++ [crcc (b.take 23)] else b

/-- Bit `n` of a list of bytes, bit 0 of the first one first in time. -/
def streamBit (l : List Byte) (n : Nat) : Bool := (l.getD (n / 8) 0).getLsbD (n % 8)

/-- The parity of the bits of a word. -/
def oddParity (w : Word) : Bool := (List.range 32).foldl (fun a i => a != w.getLsbD i) false

/-- The subframe of a transmitted sample: preamble Z, X or Y as 1, 2 or 3 in bits 3 to 0 (the model's own code, log entry 96), the 24
bits of the sample, then V, U, C and even parity (R226, R229). -/
def aesSubframe (s : State) (m sl : Nat) (w : Word) : Word :=
  let y := s.ports.aes.getD m Aes3St.reset
  let body := ((w >>> 8) <<< 4) ||| flg (rbit s (aAES3_PORTCFG m) 29) 28 ||| flg (streamBit (contentBytes y.txAct true sl) y.txPos) 29
    ||| flg (streamBit (txStatus s m sl) y.txPos) 30
  body ||| flg (oddParity body) 31 ||| (if sl = 0 then (if y.txPos = 0 then 1 else 2) else 3)

/-- The transmitter of a port has sent a frame of its block. -/
def txStep (m : Fin 8) (s : State) : State :=
  let y := s.ports.aes[m]
  { s with ports := { s.ports with aes := s.ports.aes.set m { y with txPos := (y.txPos + 1) % 192 } } }

/-- The media path is still: a SOLO device sends zeros (R324). -/
def mediaStill (s : State) : Bool := s.clk.coreGated || !s.clk.lockM

/-- Frame ticks stand still: no MEDIA frame passes, and no group frame is assigned to a new one (R216, R325, R332). -/
def ticksStopped (s : State) : Bool :=
  !s.clk.lockM || (match s.clk.change with
    | some c => c.phase != .fadeOut && c.phase != .fadeIn
    | none => false)

/-- One output slot of the frame that starts (R211, R219, R221). -/
def txSlot (g : Fin 4) (k m sl : Nat) (s : State) : State :=
  let a := ringAddr s true g m k sl
  let key := seqKey true m sl
  let put (v : Option Word) (s : State) : State :=
    let x := grp s g
    setGrp g { x with sdo := x.sdo ++ [(32 * m + sl, v)] } s
  if (actOut s g m).getLsbD sl then
    let r : Word × State :=
      if mediaStill s then (0, s)
      else if slotAsrc s g m true then
        -- the converter's sample goes to the ring frame of this group frame; a channel that has stopped gets none
        let r := if (seqGet (grp s g).seqs key).st = .off then
            (0, if (asrcFor s 1 (32 * (8 * g + m) + sl)).isNone then iset (pgPORTG g) 6 s else s)
          else if enOf s pgASRC then freeWord s else (0, s)
        (r.1, stWord a r.1 r.2)
      else dmaRead a s
    let x := grp r.2 g
    let c0 := seqGet x.seqs key
    let prev := ringAddr s true g m (k + 63) sl
    let c := if slotAsrc s g m true then c0 else { c0 with prev := some (sgn 32 (rdWord s prev).toNat) }
    let q := seqStep c (sgn 32 r.1.toNat)
    let w := if isAes s g m then aesSubframe s m sl (outWordOf 24 q.1) else outWordOf (wordLen (gcfg s g)) q.1
    put (some w) (setGrp g { x with seqs := seqPut q.2 x.seqs } r.2)
  else put (if bit (portWord s g m) 29 then none else some 0) s

/-- The outputs of the group frame that starts (R218); `sdoPins` says what of it the pins carry. -/
def txFrame (g : Fin 4) (s : State) : State :=
  let x := grp s g
  let k := if gcfgMode (gcfg s g) then x.frames else x.asg
  let s1 := setGrp g { x with sdo := [] } s
  (List.range 8).foldl (fun s m =>
    let on := (x.act.getD m ⟨false, false, 0, 0⟩).outOn || !dirOff x true m
    let s2 := if on then (List.range (portSlots s g m)).foldl (fun s sl => txSlot g k m sl s) s else s
    if isAes s2 g m then txStep (Fin.ofNat 8 m) s2 else s2) s1

/-- A locked AES3 receiver counts its frames and the good ones since lock or a fault; at 64 it runs: its rate is the reference, its
channels start, and after a fault that is a return (R214, R215, R226). -/
def aesQualify (s : State) : State :=
  (List.finRange 8).foldl (fun s (m : Fin 8) =>
    let y := { s.ports.aes[m] with frames := s.ports.aes[m].frames + 1 }
    let put (y : Aes3St) (s : State) : State := { s with ports := { s.ports with aes := s.ports.aes.set m y } }
    if ¬ isAes s 3 m ∨ ¬ y.lock ∨ ¬ enOf s pgAES3 then s
    else if y.qual ≥ 64 ∨ y.rateBad then put y s
    else if y.qual + 1 < 64 then put { y with qual := y.qual + 1 } s
    else
      let s1 := put { y with qual := 64, fade := none, faulted := false, phi0 := none, shift := 0, glitches := []
                             ref := rfld s (aAES3_RXSTAT m) 23 0, rateFar := false } s
      let s2 := if y.faulted then iset (pgPORTG 3) 4 s1 else s1
      if (grp s2 3).act[m].inOn then dirSet 3 false m true s2 else s2) s

/-- The assignment of the frame that starts (R216, R217): the state after the counters of a shift, with the new `asg`. After a slip or a
gap in the frame ticks it is taken afresh (log entry 34). -/
def reassign (g : Fin 4) (glitch : Bool) (phase : Nat) (s : State) : State :=
  let x := grp s g
  let n := framePeriods s g
  if gcfgMode (gcfg s g) then setGrp g { x with asg := s.tb.frame + 1, frames := x.frames + 1 } s
  else if glitch then
    rput (aPORTG_ALIGN g) 30 0 (phase + if phase < 32 then 2 ^ 30 else 0)
      (setGrp g { x with asg := s.tb.frame + 1, frames := x.frames + 1, phi0 := phase, gap := false } s)
  else
    let d0 : Int := (((phase : Int) - x.phi0) % n)
    let d := if 2 * d0 ≥ n then d0 - n else d0
    let move (asg : Nat) (s : State) : State :=
      rput (aPORTG_ALIGN g) 30 0 (phase + if phase < 32 then 2 ^ 30 else 0)
        (iset (pgPORTG g) 1 (setGrp g { x with asg := asg, frames := x.frames + 1, phi0 := phase } s))
    if 4 * d < -(n : Int) then move x.asg (cnt (aPORTG_IN_DROP_CNT g) (cnt (aPORTG_OUT_REP_CNT g) s))
    else if 4 * d > n then
      rxRepeat g (x.asg + 1) (fsPorts s g) (move (x.asg + 2) (cnt (aPORTG_IN_REP_CNT g) (cnt (aPORTG_OUT_DROP_CNT g) s)))
    else setGrp g { x with asg := x.asg + 1, frames := x.frames + 1 } s

/-- A group frame in RUN. -/
def runFrame (g : Fin 4) (i : GroupIn) (s : State) : State :=
  let x := grp s g
  let asrc := gcfgMode (gcfg s g)
  let glitch := decide (i.bits ≠ framePeriods s g)
  let gl := if glitch then x.frames :: x.glitches.filter (fun k => decide (x.frames < k + 64)) else x.glitches
  let s1 := setGrp g { x with glitches := gl } s
  let s2 := if glitch then iset (pgPORTG g) 2 (cnt (aPORTG_SLIP_CNT g) s1) else s1
  if glitch ∧ gl.length > 8 ∧ ¬ usesDec s then leaveRun g .qualify s2
  else
    -- the frame that has ended
    let k := if asrc then x.frames else x.asg
    let still := ticksStopped s && !asrc
    let words := if glitch then i.sdi.filter fun w => isAes s g w.m else i.sdi
    let s3 := if still || s.clk.coreGated then s2
      else words.foldl (fun s w => rxSlot g k w s) (if glitch then rxRepeat g k (fsPorts s2 g) s2 else s2)
    let s4 := if g = 3 then aesQualify s3 else s3
    -- the rate (R215): the change is found when the average first leaves the 1 % range
    let far := decide (i.rate * 100 > x.ref * 101) || decide (i.rate * 100 < x.ref * 99)
    let s4r := if far ∧ ¬ x.rateFar then iset (pgPORTG g) 3 s4 else s4
    if ¬ usesDec s ∧ (if asrc then ¬ rateOk s4 g i.rate else far) then enterMismatch g s4r
    else
      let s5 := setGrp g { grp s4r g with rateFar := far } s4r
      let s5 := if far ∧ ¬ x.rateFar ∧ ¬ usesDec s then
          let y := asrcUnlock g s5
          setGrp g { grp y g with retrack := true } y
        else s5
      if still then
        txFrame g (chgApply g i (setGrp g { grp s5 g with frames := (grp s5 g).frames + 1, gap := true } s5))
      else txFrame g (chgApply g i (reassign g (glitch || (grp s5 g).gap) i.phase.toNat s5))

/-- GROUP_FRAME (R216). -/
def groupFrame (g : Fin 4) (i : GroupIn) (s : State) : State :=
  let s := rset (aPORTG_RATE_MEAS g) (w32 i.rate) (advance i.t s)
  let x := grp s g
  match x.st with
  | .off | .stopped => s
  | .run => settleStop g (runFrame g i s)
  | .qualify =>
    let clk := bclkOk s g
    let good := decide (i.bits = framePeriods s g) && rateOk s g i.rate && clk
    let s1 := if clk || x.badClk then s else errcap (pgPORTG g) 3 0 s
    setGrp g { x with qual := if good then min 64 (x.qual + 1) else 0, badClk := !clk, sdo := zeroSdo s g } s1
  | .mismatch =>
    let y := { x with sdo := zeroSdo s g }
    setGrp g (if rateOk s g i.rate ∧ ¬ usesDec s then { y with st := .qualify, qual := 0, rateBad := false } else y) s

/-- A qualified group enters RUN (R214): PHI0 is fixed, the pending masks act, and every enabled direction starts. -/
def enterRun (g : Fin 4) (phi0 : Nat) (s : State) : State :=
    let x := grp s g
    let asrc := gcfgMode (gcfg s g)
    let s1 := setGrp g { x with
      st := .run, phi0 := phi0, asg := s.tb.frame + 1, frames := 0, glitches := [], fade := none, faulted := false, gap := false
      last := [], carried := [], rateFar := false, badClk := false
      ref := if asrc then (rget s (aPORTG_RATE_MEAS g)).toNat else 256 * fs s
      act := Vector.replicate 8 ⟨false, false, 0, 0⟩, seqs := x.seqs.map seqOff, chg := [] } s
    let s2 := if x.faulted then iset (pgPORTG g) 4 s1 else s1
    let s3 := rset (aPORTG_ALIGN g) ((if asrc then 0 else flg true 31) ||| flg (phi0 < 32) 30 ||| fld phi0 0) s2
    (List.range 8).foldl (fun s m =>
      let s := maskAct g false m (rget s (aPORTG_INMASK g m)) (maskAct g true m (rget s (aPORTG_OUTMASK g m)) s)
      if x.stopping then s else (portAct g m (portWord s g m) s).1) s3

/-- QUALIFY_PASS (R214). A standby takes the active's decision in place of its own (R225). -/
def qualifyPass (g : Fin 4) (phi0 : Nat) (s : State) : State :=
  let x := grp s g
  if x.st ≠ .qualify ∨ x.qual < 64 ∨ usesDec s then s
  else if ¬ bclkOk s g then errcap (pgPORTG g) 3 0 (setGrp g { x with qual := 0 } s)
  else enterRun g phi0 s

/-- BCLK_STOP and FS_LOSS (R215). -/
def clockStop (g : Fin 4) (s : State) : State :=
  let x := grp s g
  match x.st with
  | .run | .qualify | .mismatch => if usesDec s then s else iset (pgPORTG g) 0 (cnt (aPORTG_STOP_CNT g) (leaveRun g .stopped s))
  | .off | .stopped => s

/-- CLOCK_RETURN (R213). -/
def clockReturn (g : Fin 4) (s : State) : State :=
  let x := grp s g
  if x.st = .stopped ∧ ¬ usesDec s then setGrp g { x with st := .qualify, qual := 0, badClk := false, sdo := zeroSdo s g } s else s

/-- FAULT_FADE_END (R215): 16 MEDIA frames after the fault the channels carry 0. -/
def faultFadeEnd (g : Fin 4) (s : State) : State :=
  let x := grp s g
  match x.fade with
  | some f => if s.tb.frame ≥ f + 16 then setGrp g { x with fade := none, last := [], carried := [] } s else s
  | none => s

/-- PORT_ZC_TIMEOUT (R223): no crossing within T frames: the ramp begins. -/
def portZcTimeout (c : PortSlot) (s : State) : State :=
  let x := grp s c.g
  let q := seqGet x.seqs (seqKey c.out c.m c.s)
  if q.k ≥ zcFrames s c.g then
    match q.st with
    | .wait => setGrp c.g { x with seqs := seqPut { q with st := .up, n := 0 } x.seqs } s
    | .stopWait => setGrp c.g { x with seqs := seqPut { q with st := .down, n := 64 } x.seqs } s
    | .off | .up | .run | .down => s
  else s

/-- PORT_RAMP_END (R223): a ramp has reached its end; a stopped direction may be OFF. -/
def portRampEnd (c : PortSlot) (s : State) : State :=
  let x := grp s c.g
  let q := seqGet x.seqs (seqKey c.out c.m c.s)
  match q.st with
  | .up => if q.n = 64 then setGrp c.g { x with seqs := seqPut { q with st := .run } x.seqs } s else s
  | .down => if q.n = 0 then settleStop c.g (setGrp c.g { x with seqs := seqPut (seqOff q) x.seqs } s) else s
  | .off | .wait | .run | .stopWait => s

/-! ### AES3 (R226 to R230) -/

def packBytes (l : List Byte) : List Word :=
  (List.range (l.length / 4)).map fun i => w32 (ofLe ((l.drop (4 * i)).take 4))

def regWords (a : Nat) : List Word → State → State
  | [], s => s
  | v :: t, s => regWords (a + 4) t (rset a v s)

def regRead (s : State) (a : Nat) (n : Nat) : List Word := (List.range n).map fun i => rget s (a + 4 * i)

def setAes (m : Fin 8) (y : Aes3St) (s : State) : State := { s with ports := { s.ports with aes := s.ports.aes.set m y } }

/-- One subframe's channel status at the end of a block (R228). -/
def csBlock (m : Fin 8) (sub : Nat) (cs : List Byte) (s : State) : State :=
  let a := aAES3_RXCS (12 * m + 6 * sub)
  let pro := (cs.headD 0).getLsbD 0
  if pro ∧ crcc (cs.take 23) ≠ cs.getD 23 0 then iset pgAES3 1 (cnt aAES3_CRC_CNT s)
  else
    let ws := packBytes cs
    let s1 := if regRead s a 6 = ws then s else iset pgAES3 2 s
    regWords a ws (if sub = 0 then rput (aAES3_RXSTAT m) 28 28 (if pro then 1 else 0) s1 else s1)

/-- A receiver stops running for a clock fault: its channels fade and it qualifies anew (R215, R226). -/
def rxLeave (m : Fin 8) (s : State) : State :=
  let y := s.ports.aes[m]
  let x := grp s 3
  let run := decide (y.qual ≥ 64)
  let s1 := setAes m { y with qual := 0, faulted := y.faulted || run, fade := if run then some s.tb.frame else y.fade } s
  asrcUnlock (4 + m) (setGrp 3 { x with seqs := x.seqs.map fun c => if c.key / 32 = m.val then seqOff c else c } s1)

/-- Loss of biphase lock counts as BCLK stop, a missing Z preamble for 2 blocks as FS loss (R226). -/
def rxStop (m : Fin 8) (s : State) : State := iset (pgPORTG 3) 0 (cnt (aPORTG_STOP_CNT 3) (rxLeave m s))

/-- A Z preamble at a wrong frame counts as an FS glitch (R226): the previous frame is repeated; more than 8 within 64 frames end the
run (R215). -/
def rxGlitch (m : Fin 8) (s : State) : State :=
  let y := s.ports.aes[m]
  let gl := y.frames :: y.glitches.filter fun k => decide (y.frames < k + 64)
  let s1 := iset (pgPORTG 3) 2 (cnt (aPORTG_SLIP_CNT 3) (setAes m { y with glitches := gl } s))
  if gl.length > 8 then rxLeave m s1
  else
    let x := grp s1 3
    rxRepeat 3 (if gcfgMode (gcfg s1 3) then x.frames else x.asg) [m.val] s1

/-- The rate of a receiver (R215, R226): against MEDIA with RXSYNC = 1, else as the ratio of an ASRC source. -/
def rxRate (m : Fin 8) (rate : Nat) (s : State) : State :=
  let y := s.ports.aes[m]
  let sync := rbit s (aAES3_PORTCFG m) 31
  let ref := if sync then fs s else y.ref
  let far := decide (rate * 100 > ref * 101) || decide (rate * 100 < ref * 99)
  let bad := if sync then far else !(decide (fs s ≤ 2 * rate) && decide (rate ≤ 2 * fs s))
  let run := decide (y.qual ≥ 64)
  let s1 := setAes m { y with rateBad := bad, rateFar := run && far, qual := if bad ∧ ¬ run then 0 else y.qual } s
  let s2 := if run && far && !y.rateFar then iset (pgPORTG 3) 3 s1 else s1
  if run && bad then rxLeave m s2 else if run && far && !y.rateFar then asrcUnlock (4 + m) s2 else s2

/-- The phase of a SYNC receiver's block sync against its PHI0 (R216, R217, R226). -/
def rxPhase (m : Fin 8) (phase : Nat) (s : State) : State :=
  let y := s.ports.aes[m]
  if ¬ rbit s (aAES3_PORTCFG m) 31 ∨ y.qual < 64 then s
  else match y.phi0 with
    | none => setAes m { y with phi0 := some phase } s
    | some p =>
      let d0 : Int := ((phase : Int) - p) % 128
      let d := if 2 * d0 ≥ 128 then d0 - 128 else d0
      let move (n : Int) (s : State) : State := iset (pgPORTG 3) 1 (setAes m { y with phi0 := some phase, shift := y.shift + n } s)
      if 4 * d < -128 then move (-1) (cnt (aPORTG_IN_DROP_CNT 3) s)
      else if 4 * d > 128 then
        let s1 := move 1 (cnt (aPORTG_IN_REP_CNT 3) s)
        rxRepeat 3 ((grp s1 3).asg - 1) [m.val] s1
      else s

/-- AES3_BLOCK (R226, R228). -/
def aes3Block (m : Fin 8) (b : Aes3In) (s : State) : State :=
  if ¬ isAes s 3 m ∨ ¬ s.ports.aes[m].lock ∨ ¬ enOf s pgAES3 then s
  else if b.frames ≥ 384 then rxStop m s
  else if b.frames ≠ 192 then rxGlitch m s
  else
    let s1 := csBlock m 1 b.csB.toList (csBlock m 0 b.csA.toList (cnt aAES3_BLOCK_CNT s))
    let s2 := regWords (aAES3_RXUB (12 * m)) (packBytes (b.ubA.toList ++ b.ubB.toList)) s1
    rxRate m b.rate.toNat (rxPhase m b.phase.toNat (rput (aAES3_RXSTAT m) 23 0 b.rate.toNat s2))

/-- AES3_LOCK (R226). -/
def aes3Lock (m : Fin 8) (lock : Bool) (s : State) : State :=
  let y := s.ports.aes[m]
  if lock = y.lock ∨ ¬ enOf s pgAES3 then s
  else if lock then setAes m { y with lock := true, qual := 0 } s
  else
    let s1 := iset pgAES3 3 (setAes m { y with lock := false } s)
    if isAes s 3 m then rxStop m s1 else s1

/-- TXCOMMIT (R229): the buffers are committed. -/
def txCommit (m : Fin 8) (s : State) : State :=
  let held := regRead s (aAES3_TXCS (12 * m)) 12 ++ regRead s (aAES3_TXUB (12 * m)) 12
  setAes m { s.ports.aes[m] with txHeld := some held, txAt := (grp s 3).frames } (rput (aAES3_PORTCFG m) 27 27 1 s)

/-- The next frame starts a block of the transmitter, at least one frame after the commit (R229). -/
def txBlockDue (s : State) (m : Fin 8) : Bool :=
  let y := s.ports.aes[m]
  y.txPos == 0 && (decide ((grp s 3).frames < y.txAt) || decide (y.txAt + 1 ≤ (grp s 3).frames))

/-- TXCOMMIT_ACT (R229): the block that starts sends the committed content. -/
def txCommitAct (m : Fin 8) (s : State) : State :=
  match s.ports.aes[m].txHeld with
  | none => s
  | some l =>
    if txBlockDue s m then rput (aAES3_PORTCFG m) 27 27 0 (setAes m { s.ports.aes[m] with txHeld := none, txAct := l } s) else s

/-! ### ASRC (R231, R232) -/

/-- Group and port behind a timing source; AES3 receivers are ports of group 3. -/
def sourcePorts (i : Nat) : Option (Fin 4 × List Nat) :=
  if h : i < 4 then some (⟨i, h⟩, List.range 8) else if i < 12 then some (3, [i - 4]) else none

/-- The tracker of a source works: a group in RUN in ASRC mode, a running AES3 receiver with RXSYNC = 0, a flow clock (R226, R231, R232). -/
def srcTracked (s : State) (i : Fin 16) : Bool :=
  enOf s pgASRC &&
  (if i.val < 4 then (grp s (Fin.ofNat 4 i.val)).st == .run && gcfgMode (gcfg s i.val)
   else if i.val < 12 then isAes s 3 (i.val - 4) && aesReady s (i.val - 4) && !rbit s (aAES3_PORTCFG (i.val - 4)) 31
   else true)

/-- RATIO_LOCK (R232): the tracker of a source has locked; its channels start. A standby takes the active's ratios (R225). -/
def ratioLock (i : Fin 16) (ratio : Word) (s : State) : State :=
  let s1 := rset (aASRC_RATIO i) ratio s
  if usesDec s ∨ ¬ srcTracked s i then s
  else if srcLocked s i then s1
  else
    let s2 := iset pgASRC 0 (rput aASRC_LOCKSTAT i i 1 s1)
    match sourcePorts i with
    | none => s2
    | some (g, ms) =>
      let s3 := if i.val < 4 then setGrp g { grp s2 g with retrack := false } s2 else s2
      ms.foldl (fun s m =>
        let a := (grp s g).act.getD m ⟨false, false, 0, 0⟩
        let one (out : Bool) (s : State) : State :=
          if (if out then a.outOn else a.inOn) && slotAsrc s g m out && slotSource s g m out == i.val then dirSet g out m true s else s
        one true (one false s)) s3

/-- An ASRC.CH entry names a slot of its source's range. -/
def asrcInRange (s : State) (w : Word) : Bool :=
  let i := bits w 13 0
  if bits w 29 28 ≤ 1 then decide (i < 1024) && decide (i % 32 < portSlots s (i / 256) (i / 32 % 8)) else true

/-- The slot of a port that an entry names stops or starts as the entry leaves it or takes it up (R231). -/
def asrcSlot (w : Word) (on : Bool) (s : State) : State :=
  let i := bits w 13 0
  let g : Fin 4 := Fin.ofNat 4 (i / 256)
  let m := i / 32 % 8
  let out := bits w 29 28 == 1
  let x := grp s g
  let a := x.act.getD m ⟨false, false, 0, 0⟩
  if on then
    (if (if out then a.outOn else a.inOn) && slotAsrc s g m out && (if out then actOut s g m else actIn s g m).getLsbD (i % 32) then
      setGrp g (startSlots s g out m (1#32 <<< (i % 32)) x) s
    else s)
  else if slotAsrc s g m out then setGrp g (seqSlots out m [i % 32] seqStop x) s
  else s

/-- The slot of an entry is served by no entry. -/
def asrcFree (s : State) (w : Word) : Bool := (asrcFor s (bits w 29 28) (bits w 13 0)).isNone

/-- ASRC_CHANNEL_WRITE (R231): the slot of the old entry stops, unless another entry serves it, and that of the new one starts. The
register already holds the new word. -/
def asrcChange (c : Nat) (old new : Word) (s : State) : State :=
  let port (w : Word) : Bool := bit w 31 && decide (bits w 29 28 ≤ 1) && asrcInRange s w
  if old = new then s
  else
    let s0 := if port old && asrcFree s old then asrcSlot old false s else s
    let s1 := if port new then asrcSlot new true s0 else s0
    let s2 := if bit new 31 ∧ ¬ asrcInRange s new then errcap pgASRC 1 c s1 else s1
    let dup := bit new 31 && (List.range 128).any fun d =>
      decide (d ≠ c) && bit (asrcCh s2 d) 31 && decide (asrcCh s2 d &&& 0x30003FFF#32 = new &&& 0x30003FFF#32)
    if dup then iset pgASRC 2 s2 else s2

/-! ### Input channels at a frame boundary -/

/-- The carried sample of a channel under a 16-frame fade that began on frame `f0`. -/
def fade16 (x : Int) (f0 f : Nat) : Int := convDiv (x * (16 - min 16 (f + 1 - f0) : Nat)) 16

/-- The sample of port input slot (g, m, sl) for MEDIA frame `f`, complete at its end. -/
def portSample (g : Fin 4) (m : Fin 8) (sl f : Nat) (s : State) : Int × State :=
  let x := grp s g
  let y := s.ports.aes[m]
  let conv := slotAsrc s g m false
  let last := alGet 0 (if conv then x.carried else x.last) (32 * m + sl)
  if isAes s g m ∧ y.qual < 64 ∧ x.st = .run then
    ((match y.fade with | some f0 => fade16 last f0 f | none => 0), s)
  else if x.st ≠ .run then ((match x.fade with | some f0 => fade16 last f0 f | none => 0), s)
  else if conv then
    -- a channel that has not started carries 0; what a running one gives, the converter's filters decide: a free value
    let q := (seqGet x.seqs (seqKey false m sl)).st
    if q = .off ∨ q = .wait ∨ ¬ enOf s pgASRC then
      (0, if (asrcFor s 0 (32 * (8 * g + m) + sl)).isNone then iset (pgPORTG g) 6 s else s)
    else
      let r := freeWord s
      let z := grp r.2 g
      (sgn 32 r.1.toNat, setGrp g { z with carried := alSet z.carried (32 * m + sl) (sgn 32 r.1.toNat) } r.2)
  else
    let r := dmaRead (ringAddr s false g m f sl) s
    (sgn 32 r.1.toNat, r.2)

/-- Input channels that ports own, for MEDIA frame `f`: the enabled slots of the directions that run, and what still fades (R215,
R220). -/
def portInputs (f : Nat) (s : State) : Samples × State :=
  (List.finRange 4).foldl (fun (a : Samples × State) (g : Fin 4) => (List.finRange 8).foldl (fun (a : Samples × State) (m : Fin 8) =>
    let y := grp a.2 g
    let x := y.act[m]
    let fading := y.fade.isSome && (y.last ++ y.carried).any fun v => v.1 / 32 == m.val
    if inLive y m || fading then
      (maskSlots a.2 g m (actIn a.2 g m)).foldl (fun (a : Samples × State) sl =>
        let c := x.inBase + sl
        if a.1.any (fun y => y.1 == c) then a
        else
          let r := portSample g m sl f a.2
          ((c, r.1) :: a.1, r.2)) a
    else a) a) ([], s)

/-- The outputs that the Basin wrote on frame `j` go to the output rings of SYNC groups, ring frame j + 2 (R218); the rings of ASRC
groups take the converters' samples at the group frames (R219). -/
def portOutputs (j : Nat) (out : Samples) (s0 : State) : State :=
  let s := { s0 with ports := { s0.ports with outLast := (nonZero out :: s0.ports.outLast).take 2 } }
  (List.finRange 4).foldl (fun s (g : Fin 4) => (List.finRange 8).foldl (fun s (m : Fin 8) =>
    let x := (grp s g).act[m]
    if (grp s g).st ≠ .off && !gcfgMode (gcfg s g) && (x.outOn || !dirOff (grp s g) true m) then
      (List.range (portSlots s g m)).foldl (fun s sl =>
        stWord (ringAddr s true g m (j + 2) sl) (i32 (smp out (x.outBase + sl))) s) s
    else s) s) s

end Sys2Proof.Machine
end

