-- ==== Sys2Proof/Machine/Net.lean ====
section
/-!
DEFINITION. Network links and the switch (08_network_streams.md R241 to R249, R267 to R269), with the transparent clock's
correction (09_ptp_timestamping.md R277, R288, R289).
-/

namespace Sys2Proof.Machine

def setNet (n : NetSt) (s : State) : State := { s with net := n }

def secPs : Nat := 10 ^ 12

/-- Table 08-1. -/
def netMode (s : State) (n : Nat) : Nat := rfld s (aNET_CFG n) 17 16

/-! ### Egress queues (R242, R245, R246) -/

/-- Bytes of wire time of a packet: with its FCS, preamble and gap, and at least the shortest frame (R246, R253). -/
def wireBytes : SentPkt → Nat
  | .fwd _ _ len _ _ => max 64 len + 20
  | .audio _ _ _ _ _ b => b.length + 82
  | .mgmt _ _ _ body => max 68 (34 + 4 * body.length) + 20
  | .report .. | .query .. => 84
  | .ptp _ e u b => max 64 (b.length + (if e.tag.isSome then 22 else 18) + (if u.isSome then 28 else 0)) + 20

/-- Time of one byte on the line of a port, ps (Table 08-1). -/
def bytePs (s : State) (n : Nat) : Nat := if netMode s n = 1 then 800 else 8000

/-- A packet goes out on port `n` at time `t`: it is counted, and the last 64 are kept. -/
def sendPkt (n : Fin 2) (t : Nat) (p : SentPkt) (s : State) : State :=
  cnt (aNET_TX_PKT n) (setNet { s.net with
    sent := (p :: s.net.sent).take 64
    free := s.net.free.set n (t + wireBytes p * bytePs s n) } s)

/-- The queues of a port are served in strict priority, oldest first; a packet that has started is never pre-empted (R245). -/
def drainPort (n : Fin 2) : Nat → State → State
  | 0, s => s
  | k + 1, s =>
    match s.net.queue.filter (fun q => q.port == n.val) with
    | [] => s
    | q0 :: rest =>
      let at_ := max s.net.free[n] q0.t
      if s.now < at_ then s
      else
        let ready := q0 :: rest.filter fun q => decide (q.t ≤ at_)
        let q := (ready.find? fun q => q.cls == 0).getD ((ready.find? fun q => q.cls == 1).getD q0)
        drainPort n k (sendPkt n at_ q.pkt (setNet { s.net with queue := s.net.queue.erase q } s))

/-- The packets whose turn has come by now are sent (log entry 98: at each packet of the port and at each frame boundary). -/
def netDrain (s : State) : State :=
  drainPort 1 s.net.queue.length (drainPort 0 s.net.queue.length s)

/-- A packet enters the queue of its class. -/
def enqueuePkt (n : Fin 2) (c : Nat) (p : SentPkt) (s : State) : State :=
  let s := netDrain s
  netDrain (setNet { s.net with queue := s.net.queue ++ [⟨n, c, s.now, p⟩] } s)

/-! ### Packets of the internal endpoint -/

def macOf (s : State) (n : Nat) : BitVec 48 :=
  BitVec.ofNat 48 ((rget s (aNET_MAC_LO n)).toNat + 2 ^ 32 * rfld s (aNET_MAC_HI n) 15 0)

/-- The 802.1Q tag of a packet of class `c`: the PCP that PCPMAP sets for its class (R244), and its VLAN ID. -/
def tagOf (s : State) (c vid : Nat) : BitVec 16 :=
  let pcp := match c with | 0 => rfld s aSWITCH_PCPMAP 31 29 | 1 => rfld s aSWITCH_PCPMAP 27 25 | _ => rfld s aSWITCH_PCPMAP 23 21
  BitVec.ofNat 16 (8192 * pcp + vid)

/-- The MAC address of a group (R250): 01-00-5E and the low 23 bits. -/
def groupMac (g : Word) : BitVec 48 := BitVec.ofNat 48 (0x01005E000000 + g.toNat % 2 ^ 23)

/-- Learn a source address at a port; a full table learns no new one (log entry 20). -/
def learnAt (mac : BitVec 48) (port : Nat) (s : State) : State :=
  let m := s.net.macs.filter fun e => e.mac != mac
  if m.length < 2048 then setNet { s.net with macs := m ++ [⟨mac, port, s.now⟩] } s else s

/-- The endpoint sends a packet of class `c` out of port `n`: the switch learns its source, and a port that is down discards it. -/
def epSend (n : Fin 2) (c : Nat) (p : SentPkt) (s : State) : State :=
  let s := learnAt (macOf s n) 2 s
  if s.net.link[n].up then enqueuePkt n c p s else cnt (aNET_DROP_CNT n) s

def ipv4Etype : BitVec 16 := 0x0800#16

/-- An IGMPv3 report of the endpoint, on VLAN `vid`, as class C (R248, log entry 98). -/
def epReport (n : Fin 2) (vid : Nat) (group src : Word) (join : Bool) (s : State) : State :=
  epSend n 2 (.report n ⟨0x01005E000016#48, macOf s n, some (tagOf s 2 vid), ipv4Etype⟩ (rget s (aNET_IPADDR n)) group src join) s

/-- The memberships that the endpoint has on a port: group, source filter and VLAN ID, one per enabled receive path (R248). -/
def epPaths (s : State) (n : Nat) : List (Word × Word × Nat) :=
  s.net.rxE.filterMap fun x =>
    let e := x.2
    if eEn e && ePath e n then
      some (if n = 0 then (ew e 2, ew e 4, bits (ew e 3) 11 0) else (ew e 5, ew e 7, bits (ew e 6) 11 0))
    else none

/-- The endpoint reports its memberships on a port. -/
def epReports (n : Fin 2) (s : State) : State :=
  (epPaths s n).foldl (fun s x => epReport n x.2.2 x.1 x.2.1 true s) s

/-! ### Links (R242, R243) -/

/-- LINK_UP (R242): lock held for 10 ms and auto-negotiation complete. An SGMII PHY below 1000 Mbit/s holds the link down (Table
08-1). Loss of PLL-S keeps both links down. The endpoint reports its memberships on the port again (log entry 98). -/
def linkUp (n : Fin 2) (speedOk : Bool) (s : State) : State :=
  let l := s.net.link[n]
  if ¬ enOf s (pgNET n) ∨ netMode s n = 0 ∨ ¬ s.clk.lockS ∨ rbit s aCLKGEN_DOMGATE (4 + n) then s
  else if netMode s n = 3 ∧ ¬ speedOk then
    setNet { s.net with link := s.net.link.set n { l with speedErr := true } } s
  else
    let l1 : NetLink := { up := true, hiBer := false, anDone := netMode s n == 2 && rbit s (aNET_CFG n) 20, speedErr := false }
    let s1 := setNet { s.net with link := s.net.link.set n l1 } s
    if l.up then s1 else epReports n (iset (pgNET n) 1 s1)

/-- LINK_DOWN (R242, R243): learned addresses and memberships of the port go; its queued packets are discarded and counted; its flows
stop; fail-over may be requested. -/
def linkDown (n : Fin 2) (hiBer : Bool) (s : State) : State :=
  let s := netDrain s
  let l := s.net.link[n]
  let s1 := setNet { s.net with link := s.net.link.set n { l with up := false, hiBer := hiBer, anDone := false } } s
  if ¬ l.up then s1
  else
    let s2 := setNet { s1.net with
      macs := s1.net.macs.filter fun m => m.port != n.val
      igmp := s1.net.igmp.filter fun m => m.port != n.val
      queue := s1.net.queue.filter fun q => q.port != n.val } s1
    let gone := (s1.net.queue.filter fun q => q.port == n.val).length
    let s3 := iset (pgNET n) 0 (cnt (aNET_LINKDN_CNT n) (cnt (aNET_DROP_CNT n) s2 gone))
    let s4 := if s.net.tx.isEmpty then s3 else iset pgSTREAMTX 1 s3
    if rbit s (aNET_CFG n) 31 then requestRelease (.fault 7) s4 else s4

/-- A port that is switched off, by CTRL.EN or by MODE 0b00 (Table 08-1; log entry 69): its link is down. -/
def portOff (n : Fin 2) (s : State) : State :=
  let s1 := linkDown n false s
  setNet { s1.net with link := s1.net.link.set n ⟨false, false, false, false⟩ } s1

/-! ### Classes (R244) -/

/-- 0 A, 1 B, 2 C. -/
def pcpClass (s : State) (pcp : Nat) : Nat := min 2 (rfld s aSWITCH_PCPMAP (2 * pcp + 1) (2 * pcp))

def isPtpEvent (k : NetPkt) : Bool := match k.ptp with | some p => decide (p.mtype.toNat ≤ 3) | none => false

def pktClass (s : State) (k : NetPkt) : Nat :=
  if isPtpEvent k then 0
  else match k.tag with
    | some t => pcpClass s (t.toNat / 8192)
    | none => 2

def pktVid (s : State) (k : NetPkt) : Nat :=
  match k.tag with
  | some t => t.toNat % 4096
  | none => rfld s aSWITCH_CFG 11 0

/-! ### Forwarding tables (R245, R248) -/

def isMcast (m : BitVec 48) : Bool := m.getLsbD 40
def pdelayMac : BitVec 48 := 0x0180C200000E#48

/-- Learn the source address of a packet (R245). -/
def learn (k : NetPkt) (s : State) : State := if isMcast k.smac then s else learnAt k.smac k.port s

/-- MAC_AGE_OUT (R245). -/
def macAgeOut (mac : BitVec 48) (s : State) : State :=
  setNet { s.net with macs := s.net.macs.filter fun e =>
    e.mac != mac || decide (s.now < e.seen + rfld s aSWITCH_AGE 15 0 * secPs) } s

def igmpGroups (s : State) : List Word := (s.net.igmp.map (·.group)).dedup

/-- One IGMP report item: a group joined or left on a port. -/
def igmpReport (port : Nat) (s : State) (r : Word × Bool) : State :=
  let rest := s.net.igmp.filter fun e => !(e.group == r.1 && e.port == port)
  if ¬ r.2 then setNet { s.net with igmp := rest } s
  else if (igmpGroups s).contains r.1 ∨ (igmpGroups s).length < 1024 then
    setNet { s.net with igmp := rest ++ [⟨r.1, port, s.now⟩] } s
  else
    let s1 := iset pgSWITCH 1 s
    if s1.net.ovf.contains r.1 then s1 else cnt aSWITCH_IGMP_OVF (setNet { s1.net with ovf := r.1 :: s1.net.ovf } s1)

/-- IGMP_LAPSE (R248): memberships of a group whose last report is 260 s old. Those of the endpoint itself stand while its paths are
enabled. -/
def igmpLapse (group : Word) (s : State) : State :=
  setNet { s.net with igmp := s.net.igmp.filter fun e => e.group != group || e.port == 2 || decide (s.now < e.t + 260 * secPs) } s

/-- A general query on a port (R248), on the VLAN of untagged packets, as class C (log entry 98). -/
def epQuery (n : Fin 2) (s : State) : State :=
  epSend n 2 (.query n ⟨0x01005E000001#48, macOf s n, some (tagOf s 2 (rfld s aSWITCH_CFG 11 0)), ipv4Etype⟩ (rget s (aNET_IPADDR n))) s

/-- IGMP_QUERY (R248): general queries on both ports every 125 s while QUERIER = 1. -/
def igmpQuery (s : State) : State :=
  if rbit s aSWITCH_IGMPCFG 1 ∧ enOf s pgSWITCH ∧ s.now ≥ s.net.queryT + 125 * secPs then
    epQuery 1 (epQuery 0 (setNet { s.net with queryT := s.now } s))
  else s

/-! ### Egress -/

/-- The addend of the transparent clock (R288, R289), in 2^-16 ns, for a pass from `ig` to `eg`. -/
def rxLat (s : State) (n : Nat) : Nat := match netMode s n with | 1 => 3358720 | 2 => 14450688 | _ => 14712832
def txLat (s : State) (n : Nat) : Nat := match netMode s n with | 1 => 2523136 | 2 => 9699328 | _ => 9961472

/-- The increment per CORE cycle that TIME0 makes now, 2^-48 ns (R278). -/
def time0Inc (s : State) : Int :=
  let c := s.ptp.t0
  ctrInc (sgn 32 (rget s aPTP_TIME0_RATE).toNat) (if c.slewing then (if c.slew < 0 then -1 else 1) * (c.ppm * 1000000 : Nat) else 0)

def residence (s : State) (ig eg steps : Nat) : Int :=
  convDiv (steps * time0Inc s) (16 * 2 ^ 32) + rxLat s ig + sgn 32 (rget s (aPTP_PORTADJ_RX ig)).toNat
    + txLat s eg + sgn 32 (rget s (aPTP_PORTADJ_TX eg)).toNat

/-- Is a PTP message forwarded between the network ports (R277, R288)? -/
def ptpForwarded (s : State) (k : NetPkt) (p : PtpPass) : Bool :=
  match rfld s aPTP_TCCFG 1 0 with
  | 2 => decide (p.mtype.toNat ≠ 2 ∧ p.mtype.toNat ≠ 3)
  | 3 => false
  | _ => k.dmac != pdelayMac

/-- Correct a forwarded event message (R288, R289): the new correctionField. -/
def tcCorrect (ig eg : Nat) (p : PtpPass) (s : State) : State × Option (BitVec 64) :=
  let mode := rfld s aPTP_TCCFG 1 0
  let add : Option Int :=
    if mode = 1 ∧ p.mtype.toNat ≤ 3 then some (residence s ig eg p.steps)
    else if mode = 2 ∧ p.mtype = 0 then some (residence s ig eg p.steps + (rget s (aPTP_LINKDLY ig)).toNat)
    else none
  match add with
  | none => (s, none)
  | some a =>
    let v := sgn 64 p.corr.toNat + a
    let s1 := cnt aPTP_TC_CNT s
    if v > 2 ^ 63 - 1 ∨ v < -(2 ^ 63) then (iset pgPTP 4 (cnt aPTP_CF_SAT s1), some 0x7FFFFFFFFFFFFFFF#64)
    else (s1, some (BitVec.ofInt 64 v))

/-- A packet of class `c` leaves at egress `eg` (2 is the endpoint, whose own units take it): dropped when its queue is full or the link
is down. `cut`: it passes cut-through. -/
def egress (k : NetPkt) (c : Nat) (cut : Bool) (eg : Fin 3) (s : State) : State :=
  if k.full.getLsbD eg then
    let s1 := cnt (match c with | 0 => aSWITCH_QDROP_A | 1 => aSWITCH_QDROP_B | _ => aSWITCH_QDROP_C) s
    if c = 0 then iset pgSWITCH 2 s1 else s1
  else if h : eg.val < 2 then
    let n : Fin 2 := ⟨eg.val, h⟩
    if ¬ s.net.link[n].up then cnt (aNET_DROP_CNT n) s
    else
      let s1 := if cut then cnt aSWITCH_CT_CNT s else s
      let r : State × Option (BitVec 64) := match k.ptp with
        | some p => if k.port = 2 then (s1, none) else tcCorrect k.port n p s1
        | none => (s1, none)
      enqueuePkt n c (.fwd n k.dmac k.len (!k.fcsOk) r.2) r.1
  else s

/-- The egresses to which a packet is forwarded (R245, R248), and the state after the count of an unknown group. -/
def routesPlain (k : NetPkt) (s : State) : List (Fin 3) × State :=
  let other : List (Fin 3) := [0, 1, 2].filter fun n : Fin 3 => n != k.port
  if ¬ isMcast k.dmac then
    match s.net.macs.find? (fun e => e.mac == k.dmac) with
    | some e => (other.filter fun n => e.port == n.val, s)
    | none => (other, s)
  else match k.group with
    | none => (other, s)
    | some g =>
      if g.toNat / 256 = 0xE00000 then (other, s)
      else if (igmpGroups s).contains g then (other.filter fun n => s.net.igmp.any fun e => e.group == g && e.port == n.val, s)
      else
        let s1 := if s.net.ovf.contains g then s else cnt aSWITCH_IGMP_OVF (setNet { s.net with ovf := g :: s.net.ovf } s)
        (if rbit s aSWITCH_IGMPCFG 0 then [] else other, s1)

/-- The egresses of a packet. A PTP message from a network port is delivered to the endpoint, and passes to the other network port as an
ordinary packet unless the transparent clock keeps it back (R277, R288). -/
def routes (k : NetPkt) (s : State) : List (Fin 3) × State :=
  match k.ptp with
  | none => routesPlain k s
  | some p =>
    if k.port = 2 then (if k.dmac = pdelayMac then ([], s) else routesPlain k s)
    else if k.dmac = pdelayMac ∨ ¬ ptpForwarded s k p then ([2], s)
    else
      let r := routesPlain k s
      (2 :: r.1.filter (· != 2), r.2)

/-- The two links run at the same rate (R246). -/
def sameRate (s : State) : Bool := (netMode s 0 == 1) == (netMode s 1 == 1)

/-- PACKET_RECEIVE (R245, R246): a packet is classified and forwarded. A switch with EN = 0 forwards nothing (log entry 69). -/
def packetReceive (k : NetPkt) (s : State) : State :=
  let c := pktClass s k
  if h : k.port.val < 2 then
    let n : Fin 2 := ⟨k.port.val, h⟩
    if ¬ s.net.link[n].up then s
    else
      let s1 := cnt (aNET_RX_PKT n) s
      let cut := decide (c = 0) && sameRate s
      let s2 := if k.fcsOk then s1 else iset (pgNET n) 2 (cnt (aNET_FCS_ERR n) s1)
      if ¬ enOf s pgSWITCH ∨ (¬ k.fcsOk ∧ ¬ cut) then cnt (aNET_DROP_CNT n) s2
      else if k.etype.toNat = rfld s aSWITCH_MGMT 31 16 ∧ pktVid s k ≠ rfld s aSWITCH_MGMT 11 0 then cnt aSWITCH_MGMT_DROP s2
      else
        let s3 := if k.fcsOk then k.igmp.foldl (igmpReport n) (learn k s2) else s2
        let r := routes k s3
        -- a packet whose FCS fails reaches only an egress that has already begun to send it
        (r.1.filter fun eg => k.fcsOk || eg != 2).foldl (fun s eg => egress k c (cut && eg != 2) eg s) r.2
  else if ¬ enOf s pgSWITCH then s
  else
    -- from the internal endpoint
    let r := routes k (learn k s)
    r.1.foldl (fun s eg => egress k c false eg s) r.2

/-! ### Management packets (R267 to R269) -/

def nodeId (s : State) : Nat := rfld s aSWITCH_NODECFG 11 0
def twinId (s : State) : Bool := !rbit s aOTP_CFG 8 && rbit s aSYS_STRAPS 3

/-- The header passes (R268): VID, VER, DOMAIN, TYPE. -/
def mgmtHeaderOk (s : State) (m : MgmtPkt) : Bool :=
  m.vid.toNat == rfld s aSWITCH_MGMT 11 0 && bits m.h0 31 28 == 1 && bits m.h0 23 16 == rfld s aSWITCH_NODECFG 23 16
    && decide (1 ≤ bits m.h0 27 24 ∧ bits m.h0 27 24 ≤ 6)

/-- Addressed to this node (R268). -/
def mgmtForUs (s : State) (m : MgmtPkt) : Bool := bit m.h1 19 || bits m.h1 31 20 == nodeId s

/-- This twin answers (R268). -/
def mgmtAnswers (s : State) (m : MgmtPkt) : Bool :=
  if bit m.h1 18 then bit m.h1 17 == twinId s else activeOrSolo s

/-- The body of a management packet: LEN bytes; a LEN that is no count of words, or that the packet does not hold, gives none (log entry
24). -/
def mgmtBody (m : MgmtPkt) : Option (List Word) :=
  let n := bits m.h2 31 16
  if n % 4 = 0 ∧ n ≤ 4 * m.body.length then some (m.body.take (n / 4)) else none

/-- A management packet at the endpoint: dropped, not ours, or accepted. -/
def mgmtAccept (m : MgmtPkt) (s : State) : State × Bool :=
  if ¬ mgmtHeaderOk s m ∨ mgmtBody m = none then (cnt aSWITCH_MGMT_DROP s, false)
  else if ¬ mgmtForUs s m then (s, false)
  else (cnt aSWITCH_MGMT_RX s, true)

/-- DISCOVER (R269): an ANNOUNCE is scheduled (SRC × 37) mod 1000 µs later. -/
def discover (m : MgmtPkt) (s : State) : State :=
  let r := mgmtAccept m s
  if r.2 ∧ mgmtAnswers s m then
    setNet { r.1.net with answers := r.1.net.answers ++ [(s.now + nodeId s * 37 % 1000 * 1000000, bits m.h1 15 0)] } r.1
  else r.1

/-- ANNOUNCE (R267): a duplicate node ID. The partner carries the other TWIN_ID. -/
def announce (m : MgmtPkt) (s : State) : State :=
  let r := mgmtAccept m s
  let partner := s.twin.paired && bit m.h0 3 != twinId s
  if r.2 ∧ bits m.h0 15 4 = nodeId s ∧ m.smac ≠ macOf s 0 ∧ m.smac ≠ macOf s 1 ∧ ¬ partner then
    iset pgSWITCH 3 (setNet { r.1.net with dup := some s.now } r.1)
  else r.1

/-- NODE_DUP_CLEAR (R267): absent for 10 s. -/
def nodeDupClear (s : State) : State :=
  match s.net.dup with
  | some t => if s.now ≥ t + 10 * secPs then setNet { s.net with dup := none } s else s
  | none => s

end Sys2Proof.Machine
end

