-- ==== Sys2Proof/Machine/Flows.lean ====
section
/-!
DEFINITION. Audio flows: entries and their check, reception and merge, transmission, flow clocks (08_network_streams.md R249 to
R266, R273 to R275).
-/

namespace Sys2Proof.Machine

/-! ### Entry fields (Table 08-14) -/

def eClass (e : List Word) : Nat := bits (ew e 0) 30 29
def eFmt (e : List Word) : Nat := bits (ew e 0) 28 27
def ePtime (e : List Word) : Nat := bits (ew e 0) 26 24
def eDual (e : List Word) : Bool := bit (ew e 0) 23
def ePt (e : List Word) : Nat := bits (ew e 0) 15 8
def eAsrc (e : List Word) : Bool := bit (ew e 0) 7
def eFclk (e : List Word) : Nat := bits (ew e 0) 6 5
def eLat (e : List Word) : Nat := bits (ew e 1) 31 20
def eOutBase (e : List Word) : Nat := bits (ew e 1) 25 16
def eTsOfs (e : List Word) : Nat := (ew e 8).toNat

/-- Bytes per sample. -/
def eBytes (e : List Word) : Nat := match eFmt e with | 0 => 2 | 1 => 3 | _ => 4

/-- Frames per packet (Table 08-4). -/
def framesPer (s : State) (e : List Word) : Option Nat :=
  let base := match ePtime e with | 0 => none | 1 => some 3 | 2 => some 6 | 3 => some 12 | 4 => some 16 | 5 => some 48 | _ => none
  match base, s.clk.mult with
  | none, 0 => none
  | none, 1 => if ePtime e = 0 then some 3 else none
  | none, _ => if ePtime e = 0 then some 6 else none
  | some b, m => some (b * 2 ^ m)

def payloadLen (s : State) (e : List Word) : Nat := eCh e * (framesPer s e).getD 0 * eBytes e

/-- A destination group of R250. -/
def groupOk (g : Word) : Bool := decide (bits g 31 28 = 0xE) && decide (g.toNat / 256 ≠ 0xE00000)

/-- The check of a COMMIT (R250 to R253, R255). -/
def entryOk (s : State) (tx : Bool) (e : List Word) : Bool :=
  let p := framesPer s e
  let base := if tx then eOutBase e else eInBase e
  let lim := if tx then limOut s else limIn s
  let g0 := ew e (if tx then 3 else 2)
  let g1 := ew e 5
  decide (eClass e ≠ 3) && decide (eFmt e ≠ 3) && p.isSome && decide (bits (ew e 0) 1 0 ≠ 0)
    && decide (1 ≤ eCh e ∧ eCh e ≤ 64) && decide (96 ≤ ePt e ∧ ePt e ≤ 127) && decide (base + eCh e ≤ lim)
    && decide (payloadLen s e ≤ 1460)
    && (decide (2 ≤ ePtime e) || (decide (eFmt e = 2) && decide (eClass e = 0)))
    && (decide (eClass e ≠ 0) || (decide (ePtime e ≤ 2) && !eAsrc e))
    && (tx || (if eClass e = 0 then eLat e == p.getD 0 + 1 else decide (p.getD 0 + 1 ≤ eLat e)))
    && (!ePath e 0 || groupOk g0) && (!ePath e 1 || groupOk g1)

/-- Line rate of a port, Mbit/s. -/
def lineRate (s : State) (n : Nat) : Nat := if netMode s n = 1 then 10000 else 1000

/-- The transmit entries in force once the commits on their way have landed. -/
def comingTx (s : State) : List (Nat × List Word) :=
  s.net.commits.foldl (fun l c => if c.1 then alSet l c.2.1 c.2.2 else l) s.net.txE

/-- Admission of transmit flow `f` with entry `e` on port `n` (R265), against the other enabled flows, those on their way included. -/
def admitPort (s : State) (f : Nat) (e : List Word) (n : Nat) : Bool :=
  let all := (e :: (((comingTx s).filter fun x => x.1 != f).map (·.2))).filter fun x => eEn x && ePath x n
  let wire (x : List Word) : Nat := (payloadLen s x + 82) * 8
  -- wire times in ps: bits × 10^6 / rate
  let wireA := ((all.filter fun x => eClass x = 0).map fun x => wire x * 1000000 / lineRate s n).sum
  -- average load in bit/s
  let load := ((all.filter fun x => eClass x ≤ 1).map fun x => wire x * fs s / (framesPer s x).getD 1).sum
  decide (wireA + 1000000 ≤ period s) && decide (load ≤ 800000 * lineRate s n)

def admitted (s : State) (f : Nat) (e : List Word) : Bool :=
  !eEn e || ((!ePath e 0 || admitPort s f e 0) && (!ePath e 1 || admitPort s f e 1))

/-! ### The staging window (R273) -/

def winAddr (tx : Bool) (i : Nat) : Nat := if tx then aSTREAMTX_ENTRY i else aSTREAMRX_ENTRY i
def winRead (s : State) (tx : Bool) : List Word := (List.range 10).map fun i => rget s (winAddr tx i)
def selOf (s : State) (tx : Bool) : Nat := rfld s (if tx then aSTREAMTX_SEL else aSTREAMRX_SEL) 7 0
def pgStream (tx : Bool) : Nat := if tx then pgSTREAMTX else pgSTREAMRX

/-- A write to SEL loads the window with the committed entry. -/
def streamSel (tx : Bool) (s : State) : State := regWords (winAddr tx 0) (flowEntry s tx (selOf s tx)) s

/-- The check of a COMMIT: the ERRCAP code that refuses it. -/
def commitRefuse (s : State) (tx : Bool) (f : Nat) (e : List Word) : Option Nat :=
  if ¬ entryOk s tx e then some 1 else if tx ∧ ¬ admitted s f e then some 3 else none

/-! ### Receive flows -/

def rxFlow (s : State) (f : Nat) : Option RxFlow := s.net.rx.find? (fun x => x.f == f)
def setRx (x : RxFlow) (s : State) : State := setNet { s.net with rx := s.net.rx.map fun y => if y.f = x.f then x else y } s

/-- Timeout of the start sequence of a flow channel: 10 ms (log entry 21). -/
def flowZcFrames (s : State) : Nat := framesOfMs s 10

/-- One frame of the sequence of flow channel `c` on sample `v` (R223). -/
def flowSeq (s : State) (seqs : List ChanSeq) (c : Nat) (v : Int) : Int × List ChanSeq :=
  let q0 := seqGet seqs c
  let q1 := if q0.st = .wait ∧ q0.k ≥ flowZcFrames s then { q0 with st := .up, n := 0 }
    else if q0.st = .stopWait ∧ q0.k ≥ flowZcFrames s then { q0 with st := .down, n := 64 }
    else if q0.st = .up ∧ q0.n = 64 then { q0 with st := .run }
    else if q0.st = .down ∧ q0.n = 0 then seqOff q0 else q0
  let q := seqStep q1 v
  (q.1, seqPut q.2 seqs)

/-- May channel `c` of a flow start? One on a flow clock needs its ASRC channel and the clock's lock (R231, R266). -/
def flowCanStart (s : State) (tx : Bool) (f : Nat) (e : List Word) (c : Nat) : Bool :=
  !eAsrc e || (srcLocked s (12 + eFclk e) && (asrcFor s (if tx then 3 else 2) (64 * f + c)).isSome)

/-- Start the channels of a flow that can start. -/
def flowStart (s : State) (tx : Bool) (f : Nat) (e : List Word) (seqs : List ChanSeq) : List ChanSeq :=
  ((List.range (eCh e)).filter (flowCanStart s tx f e)).foldl (fun l c => seqPut (seqStart (seqGet l c)) l) seqs

/-- A change of state (R259): into RUN the channels start, out of it they stop at once. -/
def setFlowSt (x : RxFlow) (st : FlowSt) (s : State) : State :=
  if x.st = st then setRx x s
  else
    let seqs := if st = FlowSt.run then flowStart s false x.f (flowEntry s false x.f) [] else []
    iset pgSTREAMRX 2 (setRx { x with st := st, seqs := seqs } s)

def rxNew (f : Nat) : RxFlow :=
  { f := f, st := .wait, ssrc := none, other := 0, fail0 := 0, fail1 := 0, ok0 := none, ok1 := none, seen := [], copies := [],
    ahead := [], seqs := [] }

/-- Does a port claim the channel, or a lower enabled flow (R220, R261)? -/
def channelLost (s : State) (f c : Nat) : Bool :=
  (portOwner s c).isSome
    || s.net.rxE.any fun x => decide (x.1 < f) && eEn x.2 && decide (eInBase x.2 ≤ c ∧ c < eInBase x.2 + eCh x.2)

/-- Channels lost by flow `f` and by higher flows to it are reported (R261). -/
def flowConf (f : Nat) (s : State) : State :=
  let e := flowEntry s false f
  let mine := ((List.range (eCh e)).map fun i => eInBase e + i).filter fun c => channelLost s f c
  let others := s.net.rxE.flatMap fun x =>
    if x.1 > f && eEn x.2 then ((List.range (eCh x.2)).map fun i => eInBase x.2 + i).filter fun c =>
      decide (eInBase e ≤ c ∧ c < eInBase e + eCh e) else []
  (mine ++ others).foldl (fun s c => errcap pgSTREAMRX 2 c (iset pgSTREAMRX 4 s)) s

/-- The endpoint joins and leaves the groups of a receive entry's paths, and reports it (R248). -/
def flowJoin (join : Bool) (e : List Word) (s : State) : State :=
  (List.finRange 2).foldl (fun s (n : Fin 2) =>
    if eEn e && ePath e n then
      let g := ew e (if n = 0 then 2 else 5)
      let s1 := epReport n (bits (ew e (if n = 0 then 3 else 6)) 11 0) g (ew e (if n = 0 then 4 else 7)) join s
      let still := (epPaths s1 0 ++ epPaths s1 1).any fun x => x.1 == g
      if join || !still then igmpReport 2 s1 (g, join) else s1
    else s) s

/-- Replace the entry of a flow on the present frame (R273): an enabled flow whose entry differs stops, the new one starts. -/
def commitEntry (tx : Bool) (f : Nat) (e : List Word) (s : State) : State :=
  let old := flowEntry s tx f
  if old = e then s
  else if tx then
    let new : TxFlow := { f := f, start := s.tb.frame, next := s.tb.frame, made := s.tb.frame, acc := 0, buf := [], last := []
                          seqs := flowStart s true f e [] }
    let s1 := setNet { s.net with
      txE := alSet s.net.txE f e
      tx := (s.net.tx.filter fun x => x.f != f) ++ (if eEn e then [new] else []) } s
    if eEn old ≠ eEn e then iset pgSTREAMTX 2 s1 else s1
  else
    let s1 := setNet { s.net with
      rxE := alSet s.net.rxE f e
      rx := (s.net.rx.filter fun x => x.f != f) ++ (if eEn e then [rxNew f] else []) } s
    let s2 := flowJoin true e (flowJoin false old s1)
    let s3 := if eEn old || eEn e then iset pgSTREAMRX 2 s2 else s2
    if eEn e then flowConf f s3 else s3

/-- COMMIT (R273): checked against the window; refused, or the entry is replaced now, or on the next frame for a host write. -/
def streamCommit (tx : Bool) (next : Bool) (s : State) : State :=
  let f := selOf s tx
  let e := winRead s tx
  match commitRefuse s tx f e with
  | some c => errcap (pgStream tx) c f (iset (pgStream tx) 0 s)
  | none => if next then setNet { s.net with commits := s.net.commits ++ [(tx, f, e)] } s else commitEntry tx f e s

/-- RTP_OFS + TS_OFS of a flow (R254). -/
def tsBase (s : State) (e : List Word) : Nat := (rget s aSTREAMRX_RTP_OFS).toNat + eTsOfs e

/-- The MEDIA frame of a timestamp (R254). -/
def tsFrame (s : State) (e : List Word) (ts : Word) : Int :=
  (s.tb.frame : Int) + sgn 32 (unsgn 32 ((ts.toNat : Int) - (s.tb.frame + tsBase s e)))

/-- When the boundary that starts frame `f` occurs, ps. -/
def boundaryT (s : State) (f : Int) : Int := s.tb.tickT + (f - s.tb.frame) * 10 ^ 12 / fs s

/-- The samples of a payload: frame by frame, channel by channel (R251). -/
def sampleAt (e : List Word) (bytes : List Byte) (frame c : Nat) : Word :=
  let w := eBytes e
  w32 (ofBe ((bytes.drop ((frame * eCh e + c) * w)).take w) * 2 ^ (32 - 8 * w))

def rxLine (i f : Nat) : Nat := 0x2C0000 + 128 * i + 4 * (f % 32)
def txLine (o f : Nat) : Nat := 0x2E0000 + 128 * o + 4 * (f % 32)

/-- Bytes that the Cistern's NET port moves (R249, Table 13-15; its place in the DRAM is the device's own, log entry 98). -/
def netBytes (n : Nat) (s : State) : State :=
  { s with cistern := { s.cistern with bw := s.cistern.bw.set 1 (s.cistern.bw.getD 1 0 + n) } }

/-- Write the input frame `f` of a flow: into its lines, or, further ahead, kept until it is staged (R36, R249, R255). -/
def putFrame (x : RxFlow) (f : Nat) (ws : List Word) (s : State) : State :=
  let e := flowEntry s false x.f
  if f < s.tb.frame + 32 then
    ws.zipIdx.foldl (fun s w => if channelLost s x.f (eInBase e + w.2) then s else stWord (rxLine (eInBase e + w.2) f) w.1 s) s
  else
    match rxFlow s x.f with
    | some y => netBytes (4 * ws.length) (setRx { y with ahead := y.ahead ++ [(f, ws)] } s)
    | none => s

/-- Use a packet: its samples fill input frames s₁ + LAT on (R255). -/
def usePacket (x : RxFlow) (ts : Word) (bytes : List Byte) (s : State) : State :=
  let e := flowEntry s false x.f
  let s1 := tsFrame s e ts
  (List.range ((framesPer s e).getD 0)).foldl (fun s (i : Nat) =>
    let f : Int := s1 + eLat e + i
    if f < s.tb.frame then s
    else putFrame x f.toNat ((List.range (eCh e)).map fun c => sampleAt e bytes i c) s) s

/-- A check of R258 failed: FMT_CNT; eight in a row on every enabled path are a MISMATCH. -/
def rxFail (x : RxFlow) (path : Nat) (s : State) : State :=
  let e := flowEntry s false x.f
  let y := if path = 0 then { x with fail0 := x.fail0 + 1 } else { x with fail1 := x.fail1 + 1 }
  let s1 := cnt aSTREAMRX_FMT_CNT s
  if (!ePath e 0 || decide (y.fail0 ≥ 8)) && (!ePath e 1 || decide (y.fail1 ≥ 8)) && x.st != .mismatch then setFlowSt y .mismatch s1
  else setRx y s1

/-- The checks of R258 but the SSRC. -/
def rxMatches (s : State) (e : List Word) (path : Nat) (k : AudioPkt) : Bool :=
  let w := if path = 0 then ew e 3 else ew e 6
  let src := if path = 0 then ew e 4 else ew e 7
  ePath e path && k.vid.toNat == bits w 11 0 && k.group == ew e (if path = 0 then 2 else 5) && k.udp.toNat == bits w 31 16
    && (src == 0 || src == k.src) && k.ver == 2 && !k.ext && k.cc == 0 && k.pt.toNat == ePt e && k.bytes.length == payloadLen s e && k.cksum

/-- What is kept of earlier packets: those within 8192 frames of timestamp `ts`, beyond which no packet is on time (R256, R260). -/
def nearTs (ts u : Word) : Bool := decide ((ts - u).toInt < 8192 ∧ -8192 < (ts - u).toInt)

/-- A packet judged on time (R256, R259, R260): the first copy supplies the frames. -/
def rxOnTime (x : RxFlow) (path : Nat) (k : AudioPkt) (s : State) : State :=
  let y := if path = 0 then { x with ok0 := some k.t } else { x with ok1 := some k.t }
  let e := flowEntry s false x.f
  let s1 := setFlowSt y .run s
  if y.seen.contains k.ts then s1
  else
    let both := ePath e 0 && ePath e 1
    let z := (rxFlow s1 x.f).getD y
    let s2 := setRx { z with seen := k.ts :: z.seen.filter (nearTs k.ts) } s1
    -- path 1 was first: it supplies the packet (log entry 98)
    let s3 := if both ∧ path = 1 then cnt aSTREAMRX_MERGE_CNT s2 else s2
    let s4 := setNet { s3.net with used := s3.net.used ++ [(x.f, k.ts, path == 1)] } s3
    if eAsrc e then s4 else usePacket x k.ts k.bytes s4

/-- A packet with another SSRC is discarded and counted; after eight in a row the flow takes the new one and its channels start again
(R258). -/
def rxSsrc (x : RxFlow) (ssrc : Word) (s : State) : State :=
  let s1 := cnt aSTREAMRX_FMT_CNT s
  if x.other + 1 < 8 then setRx { x with other := x.other + 1 } s1
  else
    let seqs := if x.st = FlowSt.run then flowStart s false x.f (flowEntry s false x.f) [] else []
    setRx { x with ssrc := some ssrc, other := 0, seqs := seqs } (iset pgSTREAMRX 5 s1)

/-- A class C flow is shed: transmission stops, reception is discarded (R39 step 3). -/
def flowShed (s : State) (e : List Word) : Bool := decide (s.shed ≥ 3 ∧ eClass e = 2)

/-- A packet that matches its flow: late, early or on time (R256); a MISMATCH ends (R259). A standby keeps its copy for the active's
decision (R262). -/
def rxMatched (x : RxFlow) (k : AudioPkt) (s : State) : State :=
  let e := flowEntry s false x.f
  let path := k.port.val
  let p := (framesPer s e).getD 0
  let s₁ := tsFrame s e k.ts
  let ahead : Int := if eClass e = 0 then 32 else 4096
  let late := !eAsrc e && decide ((k.t : Int) + 500000 > boundaryT s (s₁ + eLat e + 1))
  let early := !eAsrc e && decide (s₁ + p - 1 + eLat e ≥ s.tb.frame + ahead)
  if usesDec s then
    setRx { x with copies := ⟨k.ts, path == 1, !late && !early, k.bytes⟩ :: x.copies.filter fun c => nearTs k.ts c.ts } s
  else
    let was := x.st
    let s := if was = .mismatch then setFlowSt x .wait s else setRx x s
    let x := (rxFlow s x.f).getD x
    if late then iset pgSTREAMRX 1 (cnt aSTREAMRX_LATE_CNT s)
    else if early then cnt aSTREAMRX_EARLY_CNT s
    else if was = .mismatch then s
    else rxOnTime x path k s

/-- FLOW_PACKET (R256, R258). With EN = 0 the unit takes no packet (log entry 69). -/
def flowPacket (f : Fin 256) (k : AudioPkt) (s : State) : State :=
  let s := advance k.t s
  let e := flowEntry s false f
  match rxFlow s f with
  | none => s
  | some x =>
    if ¬ s.net.link[k.port].up ∨ ¬ enOf s pgSTREAMRX ∨ flowShed s e then s
    else if ¬ rxMatches s e k.port k then (if ePath e k.port then rxFail x k.port s else s)
    else
      let x1 := if k.port = 0 then { x with fail0 := 0 } else { x with fail1 := 0 }
      if x1.ssrc.isSome ∧ x1.ssrc ≠ some k.ssrc then rxSsrc x1 k.ssrc s
      else rxMatched { x1 with ssrc := some k.ssrc, other := 0 } k s

/-- The first frame of a packet that the active used in its last frame is the frame that the standby has just captured: its channels there
take the samples (R262). -/
def patchCaptured (x : RxFlow) (fresh : Bool) (ts : Word) (bytes : List Byte) (s : State) : State :=
  let e := flowEntry s false x.f
  let i := (s.tb.frame : Int) - 1 - (tsFrame s e ts + eLat e)
  match s.ports.inHist with
  | [] => s
  | h :: rest =>
    if i < 0 ∨ i ≥ (framesPer s e).getD 0 ∨ s.tb.frame = 0 then s
    else
      let one (h : Samples) (c : Nat) : Samples :=
        let q := seqGet ((rxFlow s x.f).getD x).seqs c
        let v := sgn 32 (sampleAt e bytes i.toNat c).toNat
        -- the sequence has already made its step for this frame, unless the flow starts only now
        let y := if fresh then (seqStep q v).1 else match q.st with
          | .off | .wait => 0
          | .up | .down => gain64 v q.n
          | .run | .stopWait => v
        if channelLost s x.f (eInBase e + c) then h else alSet h (eInBase e + c) y
      let s1 : State := { s with ports := { s.ports with inHist := nonZero ((List.range (eCh e)).foldl one h) :: rest } }
      if fresh then
        match rxFlow s1 x.f with
        | none => s1
        | some y => setRx { y with seqs := (List.range (eCh e)).foldl (fun l c =>
            (flowSeq s1 l c (sgn 32 (sampleAt e bytes i.toNat c).toNat)).2) y.seqs } s1
      else s1

/-- A standby applies one of the active's decisions (R262). A copy that it lacks on that path, or judged otherwise, fails its self-check
(R351). -/
def standbyUse (u : Fin 256 × Word × Bool) (s : State) : State :=
  match rxFlow s u.1 with
  | none => s
  | some x =>
    match (x.copies.find? (fun c => c.ts == u.2.1 && c.path1 == u.2.2)).or (x.copies.find? fun c => c.ts == u.2.1) with
    | none => cnt aSTREAMRX_STBY_MISS_CNT s
    | some c =>
      let y := if u.2.2 then { x with ok1 := some s.now } else { x with ok0 := some s.now }
      let s := if c.ok && c.path1 == u.2.2 then s else markBad s
      let s1 := setFlowSt { y with copies := x.copies.filter fun d => d.ts != c.ts } .run s
      if eAsrc (flowEntry s false x.f) then s1
      else patchCaptured x (x.st != .run) c.ts c.bytes (usePacket x c.ts c.bytes s1)

/-- LOSS_TO in ps. -/
def lossTo (s : State) : Nat := zeroIs1 (rfld s aSTREAMRX_CFG 15 0) * msPs

/-- The path has had an on-time packet within LOSS_TO. -/
def pathOk (s : State) (t : Option Nat) : Bool := match t with | some u => decide (s.now < u + lossTo s) | none => false

/-- FLOW_LOSS (R259): no on-time packet on any path for LOSS_TO ms. -/
def flowLoss (f : Fin 256) (s : State) : State :=
  match rxFlow s f with
  | none => s
  | some x => if x.st = .run ∧ ¬ pathOk s x.ok0 ∧ ¬ pathOk s x.ok1 then setFlowSt x .lost s else s

/-! ### Flow clocks (R266) -/

/-- The sequences of the channels of the flows on flow clock `j` change: those of a receive flow in RUN, and of transmit flows. -/
def fclkSeqs (j : Nat) (rx tx : Nat → List Word → List ChanSeq → List ChanSeq) (s : State) : State :=
  let on (e : List Word) : Bool := eAsrc e && decide (eFclk e = j)
  let one (x : RxFlow) : RxFlow :=
    let e := flowEntry s false x.f
    if on e && x.st == .run then { x with seqs := rx x.f e x.seqs } else x
  let two (x : TxFlow) : TxFlow :=
    let e := flowEntry s true x.f
    if on e then { x with seqs := tx x.f e x.seqs } else x
  setNet { s.net with rx := s.net.rx.map one, tx := s.net.tx.map two } s

/-- FCLK_LOCK (R266). With EN = 0 no flow clock tracks (log entry 69). -/
def fclkLock (j : Fin 4) (lock : Bool) (ratio : Word) (s : State) : State :=
  if ¬ rbit s (aSTREAMRX_FCLK_CFG j) 31 ∨ ¬ enOf s pgSTREAMRX then s
  else if lock then
    let s1 := rset (aASRC_RATIO (12 + j)) ratio (rset (aSTREAMRX_FCLK_RATIO j) ratio s)
    if srcLocked s (12 + j) then s1
    else
      let s2 := iset pgSTREAMRX 3 (iset pgASRC 0 (rput aASRC_LOCKSTAT (12 + j) (12 + j) 1 s1))
      fclkSeqs j (flowStart s2 false) (flowStart s2 true) s2
  else if srcLocked s (12 + j) then
    fclkSeqs j (fun _ _ l => l.map seqOff) (fun _ _ l => l.map seqOff) (iset pgSTREAMRX 3 (asrcUnlock (12 + j) s))
  else s

/-- A flow channel that an ASRC entry names starts, or stops (R231). -/
def flowAsrcSlot (w : Word) (on : Bool) (s : State) : State :=
  let f := bits w 13 6
  let c := bits w 5 0
  let e := flowEntry s (bit w 28) f
  let mine (l : List ChanSeq) : List ChanSeq :=
    if eAsrc e && decide (c < eCh e) then
      (if on then (if flowCanStart s (bit w 28) f e c then seqPut (seqStart (seqGet l c)) l else l) else seqPut (seqStop (seqGet l c)) l)
    else l
  if bit w 28 then
    setNet { s.net with tx := s.net.tx.map fun x => if x.f = f then { x with seqs := mine x.seqs } else x } s
  else
    setNet { s.net with rx := s.net.rx.map fun x => if x.f = f ∧ x.st = .run then { x with seqs := mine x.seqs } else x } s

/-- ASRC_CHANNEL_WRITE for entries that name flow channels (R231): the channel of the old entry stops, unless another entry serves it, and
that of the new one starts. The register already holds the new word. -/
def asrcFlowChange (old new : Word) (s : State) : State :=
  let flow (w : Word) : Bool := bit w 31 && bit w 29 && asrcInRange s w
  if old = new then s
  else
    let s0 := if flow old && asrcFree s old then flowAsrcSlot old false s else s
    if flow new then flowAsrcSlot new true s0 else s0

/-! ### Transmit flows (R257, R263, R264) -/

/-- May the device send this flow now? -/
def txAllowed (s : State) (e : List Word) : Bool :=
  activeOrSolo s || (s.twin.st == .standbyHot && eClass e == 0 && eDual e)

/-- A sample as payload bytes, rounded as in R211. -/
def txBytes (e : List Word) (w : Word) : List Byte :=
  let n := 8 * eBytes e
  let v := (outWordOf n (sgn 32 w.toNat)).toNat / 2 ^ (32 - n)
  (leBytes (eBytes e) v).reverse

/-- The ones' complement sum of 16-bit words, and the UDP checksum that it gives: 0 is sent as 0xFFFF. -/
def onesFold (n : Nat) : Nat := let a := n % 65536 + n / 65536; a % 65536 + a / 65536
def udpSum (l : List Nat) : BitVec 16 :=
  let c := 65535 - onesFold (onesFold l.sum)
  BitVec.ofNat 16 (if c = 0 then 65535 else c)

/-- Bytes as big-endian 16-bit words, a last odd byte above a zero. -/
def halves : List Byte → List Nat
  | [] => []
  | [a] => [256 * a.toNat]
  | a :: b :: t => (256 * a.toNat + b.toNat) :: halves t

def halvesOf (w : Word) : List Nat := [w.toNat / 65536, w.toNat % 65536]

/-- The computed UDP checksum of a flow packet, over the IPv4 pseudo-header, the UDP and RTP headers and the payload (R250). -/
def flowChecksum (u : UdpHdr) (r : RtpHdr) (b : List Byte) : BitVec 16 :=
  let len := 20 + b.length
  let rtp0 := r.ver.toNat * 2 ^ 14 + (if r.marker then 128 else 0) + r.pt.toNat
  udpSum (halvesOf u.src ++ halvesOf u.dst ++ [17, len] ++ [u.sport.toNat, u.dport.toNat, len]
    ++ [rtp0, r.seq.toNat] ++ halvesOf r.ts ++ halvesOf r.ssrc ++ halves b)

/-- The packet of a flow on a path: tagged, to the path's group and UDP port (R244, R250, R251, R263). -/
def flowPkt (s : State) (f : Nat) (e : List Word) (path : Fin 2) (bytes : List Byte) (seq : Nat) (ts : Word) : SentPkt :=
  let g := ew e (if path = 0 then 3 else 5)
  let w := ew e (if path = 0 then 4 else 6)
  let eth : EthHdr := ⟨groupMac g, macOf s path, some (tagOf s (eClass e) (bits w 11 0)), ipv4Etype⟩
  let u0 : UdpHdr := ⟨rget s (aNET_IPADDR path), g, BitVec.ofNat 16 (bits (ew e 7) 15 0), BitVec.ofNat 16 (bits w 31 16), 0⟩
  let r : RtpHdr := ⟨2, false, BitVec.ofNat 7 (ePt e), BitVec.ofNat 16 seq, ts, ew e 2⟩
  .audio path f eth { u0 with cksum := flowChecksum u0 r bytes } r bytes

/-- One copy of a packet on a path: discarded and counted when its port is down. -/
def sendCopy (x : TxFlow) (e : List Word) (path : Fin 2) (bytes : List Byte) (seq : Nat) (ts : Word) (s : State) : State :=
  if ¬ ePath e path then s
  else if ¬ s.net.link[path].up then cnt aSTREAMTX_TXDROP_CNT s
  else cnt aSTREAMTX_TX_PKT (epSend path (eClass e) (flowPkt s x.f e path bytes seq ts) s)

/-- Send the packet whose first frame is `first` (R257). -/
def sendPacket (x : TxFlow) (e : List Word) (p first : Nat) (rows : List (List Word)) (s : State) : State :=
  let seq := (bits (ew e 1) 15 0 + (first - x.start) / p) % 65536
  let ts := w32 (first + tsBase s e)
  let bytes := rows.flatMap fun r => r.flatMap fun w => txBytes e w
  sendCopy x e 1 bytes seq ts (sendCopy x e 0 bytes seq ts s)

def setTx (x : TxFlow) (s : State) : State := setNet { s.net with tx := s.net.tx.map fun y => if y.f = x.f then x else y } s

/-- FLOW_SEND (R257): the packet of the next P frames, once they are written. A frame on which nothing was written carries 0, and
frames on none of which anything was written are not sent. A flow that is shed, or whose unit has EN = 0, sends nothing, and its frames pass (R39, log entry 69). -/
def flowSend (f : Fin 256) (s : State) : State :=
  match s.net.tx.find? (fun x => x.f == f.val) with
  | none => s
  | some x =>
    let e := flowEntry s true f
    match framesPer s e with
    | none => s
    | some p =>
      if x.made < x.next + p ∨ mediaStill s then s
      else
        let rows := (List.range p).map fun i => alGet (List.replicate (eCh e) 0) x.buf (x.next + i)
        let may := txAllowed s e
        let s1 := setTx { x with
          next := x.next + p, buf := x.buf.filter fun r => decide (x.next + p ≤ r.1), last := if may then [] else rows } s
        let written := x.buf.any fun r => decide (r.1 < x.next + p)
        if may ∧ written ∧ ¬ flowShed s e ∧ enOf s pgSTREAMTX then sendPacket x e p x.next rows s1 else s1

/-- On entry to ACTIVE, a flow with DUAL = 0 first sends the last packet, when its send boundary lies within the window (ps)
before the present time (R354). -/
def takeOverFlows (window : Nat) (s : State) : State :=
  s.net.tx.foldl (fun s x =>
    let e := flowEntry s true x.f
    match framesPer s e with
    | none => s
    | some p =>
      if eDual e ∨ x.last = [] ∨ boundaryT s x.next + window < s.now then s
      else sendPacket x e p (x.next - p) x.last (setTx { x with last := [] } s)) s

/-! ### Frame boundaries -/

/-- One channel of a receive flow on input frame `f`: the line word, taken and cleared; on a flow clock, what its ASRC channel gives, a free
value while the clock is locked. -/
def flowSample (x : RxFlow) (c f : Nat) (s : State) : Int × State :=
  let e := flowEntry s false x.f
  let ch := eInBase e + c
  let raw : Word × State :=
    if eAsrc e then
      let q := (seqGet x.seqs c).st
      (if (q = .wait ∨ q = .up ∨ q = .run ∨ q = .stopWait ∨ q = .down) ∧ srcLocked s (12 + eFclk e) ∧ enOf s pgASRC then freeWord s
       else (0, s))
    else
      let r := dmaRead (rxLine ch f) s
      (r.1, if r.1 = 0 then r.2 else stWord (rxLine ch f) 0 r.2)
  match rxFlow raw.2 x.f with
  | none => (0, raw.2)
  | some y =>
    let q := flowSeq s y.seqs c (sgn 32 raw.1.toNat)
    (q.1, setRx { y with seqs := q.2 } raw.2)

/-- Input channels of receive flows for MEDIA frame `f`, after those that ports own. -/
def flowInputs (f : Nat) (a : Samples × State) : Samples × State :=
  let order := natSort (a.2.net.rx.map (·.f))
  order.foldl (fun (a : Samples × State) n =>
    match rxFlow a.2 n with
    | none => a
    | some x =>
      let e := flowEntry a.2 false n
      if x.st ≠ .run then a
      else (List.range (eCh e)).foldl (fun (a : Samples × State) c =>
        if a.1.any (fun y => y.1 == eInBase e + c) then a
        else
          let r := flowSample x c f a.2
          ((eInBase e + c, r.1) :: a.1, r.2)) a) a

/-- Frames kept ahead that now fit their lines are staged from the Cistern (R36, R249); while it serves nothing they carry 0, as staging
misses (R37). -/
def stageFlows (s : State) : State :=
  let serves := s.cistern.st == .normal || s.cistern.st == .degraded
  s.net.rx.foldl (fun s x =>
    let go := x.ahead.filter fun y => decide (y.1 < s.tb.frame + 32)
    let s1 := setRx { x with ahead := x.ahead.filter fun y => !decide (y.1 < s.tb.frame + 32) } s
    go.foldl (fun s y => if serves then netBytes (4 * y.2.length) (putFrame x y.1 y.2 s) else stageMiss s) s1) s

/-- The ASRC side of one output sample of a transmit flow on a flow clock: free while the clock is locked (R266). -/
def flowAsrcOut (e : List Word) (c : Nat) (a : (List Word × List ChanSeq) × State) : (List Word × List ChanSeq) × State :=
  let q := (seqGet a.1.2 c).st
  let r : Word × State :=
    if q ≠ .off ∧ srcLocked a.2 (12 + eFclk e) ∧ enOf a.2 pgASRC then freeWord a.2 else (0, a.2)
  let v := flowSeq a.2 a.1.2 c (sgn 32 r.1.toNat)
  ((a.1.1 ++ [i32 v.1], v.2), r.2)

/-- The frames of its flow clock that a flow makes during one MEDIA frame: the clock's ratio, or one frame for each while it is unlocked
(R266, log entry 97). -/
def flowClockFrames (s : State) (e : List Word) (acc : Nat) : Nat × Nat :=
  let step := if srcLocked s (12 + eFclk e) then (rget s (aSTREAMRX_FCLK_RATIO (eFclk e))).toNat else 2 ^ 30
  ((acc + step) / 2 ^ 30, (acc + step) % 2 ^ 30)

/-- The outputs of MEDIA frame `j` go to the transmit lines and toward the packets of the flows (R249, R257). -/
def flowOutputs (j : Nat) (out : Samples) (s : State) : State :=
  s.net.tx.foldl (fun s x =>
    let e := flowEntry s true x.f
    if j < x.start then s
    else if eAsrc e then
      let n := flowClockFrames s e x.acc
      let r := (List.range n.1).foldl (fun (a : TxFlow × State) _ =>
        let row := (List.range (eCh e)).foldl (fun b c => flowAsrcOut e c b) (([], a.1.seqs), a.2)
        ({ a.1 with made := a.1.made + 1, buf := a.1.buf ++ [(a.1.made, row.1.1)], seqs := row.1.2 }, row.2)) (x, s)
      setTx { r.1 with acc := n.2 } r.2
    else
      let vs := (List.range (eCh e)).map fun c => (eOutBase e + c, i32 (smp out (eOutBase e + c)))
      let s1 := vs.foldl (fun s v => stWord (txLine v.1 j) v.2 s) s
      setTx { x with made := j + 1, buf := x.buf ++ [(j, vs.map (·.2))] } s1) s

/-- Commits written by the host in SOLO replace their entries (R23, R273). -/
def applyCommits (s : State) : State :=
  s.net.commits.foldl (fun s c => commitEntry c.1 c.2.1 c.2.2 s) (setNet { s.net with commits := [] } s)

end Sys2Proof.Machine
end

