-- ==== Sys2Proof/Machine/Operands.lean ====
section
/-!
DEFINITION. The operand forms of the Press: its registers as instructions read and write them (R152, R154, R191), the
visibility of results (R158, R202), address generation (R155, R156) and the data spaces (R149, R150, R181).
-/

namespace Sys2Proof.Machine

/-! ### Registers and results in flight -/

/-- The stored value of a register, as 72 bits. -/
def PressRegs.get (r : PressRegs) : PReg → BitVec 72
  | .d i => r.d[i].setWidth 72
  | .ac i => r.ac[i]
  | .p i => r.p[i].setWidth 72
  | .m i => r.m[i].setWidth 72
  | .l i => r.l[i].setWidth 72
  | .b i => r.b[i].setWidth 72
  | .sr => r.sr.setWidth 72
  | .lc i => r.lc[i].setWidth 72
  | .ls i => r.ls[i].setWidth 72
  | .le i => r.le[i].setWidth 72

/-- Store a register value. -/
def PressRegs.set (r : PressRegs) (g : PReg) (v : BitVec 72) : PressRegs :=
  match g with
  | .d i => { r with d := r.d.set i (v.setWidth 32) }
  | .ac i => { r with ac := r.ac.set i v }
  | .p i => { r with p := r.p.set i (v.setWidth 20) }
  | .m i => { r with m := r.m.set i (v.setWidth 20) }
  | .l i => { r with l := r.l.set i (v.setWidth 20) }
  | .b i => { r with b := r.b.set i (v.setWidth 20) }
  | .sr => { r with sr := v.setWidth 32 }
  | .lc i => { r with lc := r.lc.set i (v.setWidth 16) }
  | .ls i => { r with ls := r.ls.set i (v.setWidth 13) }
  | .le i => { r with le := r.le.set i (v.setWidth 13) }

/-- A masked value put over an old one. -/
def merge72 (old mask val : BitVec 72) : BitVec 72 := (old &&& ~~~mask) ||| (val &&& mask)

/-- Results with the new one in its place: by the cycle of writing, the later instruction after the earlier (R159). -/
def pendPut (w : PWrite) : List PWrite → List PWrite
  | [] => [w]
  | h :: t => if w.at_ < h.at_ then w :: h :: t else h :: pendPut w t

/-- Add results in order. -/
def pendAll (l : List PWrite) (p : PressSt) : PressSt := { p with pend := l.foldl (fun q w => pendPut w q) p.pend }

/-- The LA field of SR (Table 05-3), in its place. -/
def laBits (p : PressSt) : BitVec 72 := (flg p.la[1] 29 ||| flg p.la[0] 28).setWidth 72

/-- A register as a reader in cycle `c` sees it: results written in earlier cycles have arrived (R202). A LOOP count on its
way to a D register reads as it stands, and so does LA (R200). -/
def regAtCycle (p : PressSt) (c : Nat) (g : PReg) : BitVec 72 :=
  p.pend.foldl (fun v w =>
    if w.at_ < c ∧ w.reg = g then
      match w.late with
      | some (.count n) => (p.pend.foldl (fun v w' => if w'.at_ < w.at_ - 1 ∧ w'.reg = .lc n then merge72 v w'.mask w'.val else v)
          (p.r.get (.lc n)))
      | some .loops => merge72 v w.mask (w.val ||| laBits p)
      | none => merge72 v w.mask w.val
    else v) (p.r.get g)

/-- An accumulator as an arithmetic operand: every earlier result is forwarded (R158, R202). -/
def acForward (p : PressSt) (i : Fin 4) : BitVec 72 :=
  p.pend.foldl (fun v w => if w.reg = .ac i then merge72 v w.mask w.val else v) (p.r.get (.ac i))

/-- Write the results that arrive up to the end of cycle `c` into their registers. -/
def retire (c : Nat) (p : PressSt) : PressSt :=
  let go := p.pend.filter (fun w => decide (w.at_ ≤ c))
  { p with
    pend := p.pend.filter (fun w => !decide (w.at_ ≤ c))
    r := go.foldl (fun r w =>
      match w.late with
      | some (.count n) => r.set w.reg (r.get (.lc n))
      | some .loops => r.set w.reg (merge72 (r.get w.reg) w.mask (w.val ||| laBits p))
      | none => r.set w.reg (merge72 (r.get w.reg) w.mask w.val)) p.r }

/-- Settle the LOOP counts that MOVS words have read in their stage 4 (R200): stage 4 of the word issued in cycle t is
cycle t + 3, its result arrives in t + 4, and a fetch by the word issued in cycle `j` comes in j + 1. A count takes in the
fetches of stage 4 itself; LA, a register, those before it. -/
def settleCounts (j : Nat) (p : PressSt) : PressSt :=
  { p with pend := p.pend.map (fun w =>
      match w.late with
      | some (.count n) => if w.at_ ≤ j + 1 then { w with val := regAtCycle p (w.at_ - 1) (.lc n), late := none } else w
      | some .loops => if w.at_ ≤ j + 2 then { w with val := w.val ||| laBits p, late := none } else w
      | none => w) }

/-- Settle the LA bits that the loop-end compare of the word issued in cycle `j` is the last to change (R162, R200). -/
def settleLa (j : Nat) (p : PressSt) : PressSt :=
  { p with pend := p.pend.map (fun w =>
      if w.late = some .loops ∧ w.at_ ≤ j + 3 then { w with val := w.val ||| laBits p, late := none } else w) }

/-- Time passes in which the Press issues nothing: every result arrives (R158, R204). -/
def drainPend (p : PressSt) : PressSt := retire (p.cyc + 7) (settleCounts (p.cyc + 7) p)

/-- Table 05-3: the bits of SR that results and moves write. -/
def srBits : Word := 0x0080C0BF#32

/-- SR as software reads it: stored bits as seen in cycle `c`, and the hardware fields. -/
def srFull (p : PressSt) (u4 : Bool) (c : Nat) : Word :=
  ((regAtCycle p c .sr).setWidth 32 &&& srBits) ||| flg u4 31 ||| flg p.sh 30 ||| flg p.la[1] 29 ||| flg p.la[0] 28
    ||| flg p.rep.isSome 27 ||| flg p.ih 22

/-! ### Stores of accumulators (R154) -/

/-- The signed value of an accumulator. -/
def acInt (a : BitVec 72) : Int := a.toInt

/-- The 32-bit store value of an accumulator under SAT, and whether it saturated (R154). -/
def acStore (sat : Bool) (a : BitVec 72) : Word × Bool :=
  let r := convDiv (acInt a) (2 ^ 32)
  if sat then
    if r > 2 ^ 31 - 1 then (0x7FFFFFFF#32, true)
    else if r < -(2 ^ 31) then (0x80000000#32, true)
    else (i32 r, false)
  else (i32 r, false)

/-! ### Register specifiers (R191, Table 06-4) -/

/-- The register of a specifier code, and the bits of it that the code names: 0 whole (with rounding for an accumulator),
1 low, 2 high, 3 extension. -/
def specReg (code : BitVec 6) : PReg × Nat :=
  let n := code.toNat
  if n < 0x10 then (.d (Fin.ofNat 16 n), 0)
  else if n < 0x14 then (.ac (Fin.ofNat 4 n), 0)
  else if n < 0x18 then (.ac (Fin.ofNat 4 n), 1)
  else if n < 0x1C then (.ac (Fin.ofNat 4 n), 2)
  else if n < 0x20 then (.ac (Fin.ofNat 4 n), 3)
  else if n < 0x28 then (.p (Fin.ofNat 8 n), 0)
  else if n < 0x30 then (.m (Fin.ofNat 8 n), 0)
  else if n < 0x38 then (.l (Fin.ofNat 8 n), 0)
  else (.b (Fin.ofNat 8 n), 0)

/-- What a read of a specifier gives, from the register's value, and whether an accumulator store saturated. -/
def specRead (code : BitVec 6) (sat : Bool) (v : BitVec 72) : Word × Bool :=
  match specReg code with
  | (.ac _, 0) => acStore sat v
  | (.ac _, 1) => (v.setWidth 32, false)
  | (.ac _, 2) => (v.extractLsb' 32 32, false)
  | (.ac _, _) => ((v.extractLsb' 64 8).signExtend 32, false)
  | (.m _, _) => ((v.setWidth 20).signExtend 32, false)
  | _ => (v.setWidth 32, false)

/-- What a write of a 32-bit value sets: register, bits, contents. -/
def specWrite (code : BitVec 6) (v : Word) : PReg × BitVec 72 × BitVec 72 :=
  match specReg code with
  | (.ac i, 0) => (.ac i, BitVec.allOnes 72, (v.signExtend 40).setWidth 72 <<< 32)
  | (.ac i, 1) => (.ac i, 0xFFFFFFFF#72, v.setWidth 72)
  | (.ac i, 2) => (.ac i, 0xFFFFFFFF#72 <<< 32, v.setWidth 72 <<< 32)
  | (.ac i, _) => (.ac i, 0xFF#72 <<< 64, v.setWidth 72 <<< 64)
  | (.d i, _) => (.d i, 0xFFFFFFFF#72, v.setWidth 72)
  | (g, _) => (g, 0xFFFFF#72, v.setWidth 72)

/-- The register after the one named, for a pair (R192): an even D register, AC0 or AC2. -/
def pairCode (code : BitVec 6) : Option (BitVec 6) :=
  if (code.toNat < 0x10 ∧ code.toNat % 2 = 0) ∨ code = 0x10#6 ∨ code = 0x12#6 then some (code + 1) else none

/-! ### Address generation (R155, R156) -/

/-- The 20 bits of `v` in reverse order. -/
def rev20 (v : BitVec 20) : BitVec 20 := v.reverse

/-- upd(P, m) for length L and base B (R156). P + m is compared as the exact sum with the signed step, and the result is taken
modulo 2^20 (DEDUCED: the rule is exact for every P in the buffer and |m| ≤ L, also for B = 0). -/
def upd (l b p m : BitVec 20) : BitVec 20 :=
  if l = 0 then p + m
  else if l = 0xFFFFF#20 then b + rev20 (rev20 (p - b) + rev20 m)
  else
    let q : Int := p.toNat + m.toInt
    if q ≥ b.toNat + l.toNat then p + m - l
    else if q < b.toNat then p + m + l
    else p + m

/-- Address used and pointer afterwards, for the forms of Table 05-4 (codes of Table 06-3); none for a reserved mode. -/
def addrForm (mode : BitVec 3) (l b p m : BitVec 20) : Option (BitVec 20 × Option (BitVec 20)) :=
  match mode.toNat with
  | 0 => some (p, none)
  | 1 => some (p, some (upd l b p 1))
  | 2 => some (p, some (upd l b p (BitVec.ofInt 20 (-1))))
  | 3 => some (p, some (upd l b p m))
  | 4 => some (upd l b p m, none)
  | 5 => some (p, some (upd l b p 2))
  | _ => none

/-! ### Data spaces (R149, R150, R181) -/

/-- System byte addresses of Press p: base, program, X and Y words. -/
def pressBase (p : Nat) : Nat := 0x400000 + 0x80000 * p
def xAddr (p x : Nat) : Nat := pressBase p + 0x10000 + 4 * x
def yAddr (p y : Nat) : Nat := pressBase p + 0x38000 + 4 * y

/-- Words in a data bank. -/
def bankWords : Nat := 40960

/-- B and U of R179 for the block size and rate in force. -/
def budgetOf (s : State) : Nat :=
  let b := 800000000 * blockN s / fs s
  b - b / 1024 - 32

/-- Words of a record of the input ring and channels of the owned range (R176). -/
def recWords (c : PCfg) : Nat := (c.ranges.filter (·.en)).foldl (fun a r => a + r.count) 0
def ownedCount (c : PCfg) : Nat := match c.ranges with | r :: _ => if r.en then r.count else 0 | [] => 0

/-- An I/O register (Table 05-10). -/
def ioRead (s : State) (pi : Nat) (p : PressSt) (off : Nat) : Word :=
  match off with
  | 0 => lo32 p.blk
  | 1 => hi32 p.blk
  | 2 => w32 p.inPos
  | 3 => w32 p.outPos
  | 4 => p.msgWr.setWidth 32
  | 5 => p.msgRd.setWidth 32
  | 6 => p.flags
  | 7 => satW 32 (p.cyc - p.tickCyc)
  | 8 => w32 p.cfg.budget
  | 9 => fld (recWords p.cfg) 16 ||| fld (ownedCount p.cfg) 0
  | 0xB => rget s (aPRESS_FAULTINFO pi)
  | _ => 0

/-- Where a data address lies: bank word (system byte address), I/O register, or nowhere (R150). -/
inductive PLoc where
  | word (a : Nat)
  | io (off : Nat)
  | none
  deriving DecidableEq, Repr

def pressLoc (pi : Nat) (y : Bool) (a : Nat) : PLoc :=
  if a < bankWords then .word (if y then yAddr pi a else xAddr pi a)
  else if !y ∧ 0xFFF00 ≤ a then .io (a - 0xFFF00)
  else .none

end Sys2Proof.Machine
end

