-- ==== Sys2Proof/Machine/Cistern.lean ====
section
/-!
DEFINITION. The Cistern: its states, controller and training, the delay lines and the class A reserve (01_architecture.md R39 to
R44, 13_cistern_dram.md R369 to R386, R395).
-/

namespace Sys2Proof.Machine

def setCist (c : CistSt) (s : State) : State := { s with cistern := c }

/-! ### Size and mapping (R369, R370) -/

/-- Bytes of a rank. -/
def rankBytes (s : State) : Nat :=
  let x16 := rbit s aDDRC_MEMCFG 4
  let gb := match rfld s aDDRC_MEMCFG 1 0 with
    | 0 => if x16 then 2 else 4
    | 1 => if x16 then 4 else 8
    | _ => 8
  gb * 2 ^ 30

def ranks (s : State) : Nat := if rbit s aDDRC_MEMCFG 8 then 2 else 1
def cistBytes (s : State) : Nat := rankBytes s * ranks s

/-- Does a MEMCFG value name a supported configuration (Table 13-1)? -/
def memCfgOk (v : Word) : Bool := let d := bits v 1 0; decide (d ≠ 3) && !(d == 2 && !bit v 4)

/-- Bank index (rank × 16 + bank) and row of a line. -/
def bankOf (s : State) (line : Nat) : Nat × Nat :=
  let rank := if line * 64 ≥ rankBytes s then 1 else 0
  let l := line - rank * (rankBytes s / 64)
  if rbit s aDDRC_MEMCFG 4 then (16 * rank + l % 8, l / 2 ^ 10) else (16 * rank + l % 16, l / 2 ^ 11)

/-- The Cistern serves accesses (Table 13-2). -/
def cistServes (s : State) : Bool := s.cistern.st == .normal || s.cistern.st == .degraded
def cistDown (s : State) : Bool := s.cistern.st == .degraded || s.cistern.st == .lost

/-! ### Accesses (R374, R375, R396) -/

/-- A request reaches a bank: row history, and the bytes that its port moves. -/
def dramTouch (port line n : Nat) (s : State) : State :=
  let br := bankOf s line
  let b := s.cistern.banks.getD br.1 ⟨2, 0, false, 0⟩
  let h := if b.row = br.2 then min 3 (b.h + 1) else b.h - 1
  setCist { s.cistern with
    banks := s.cistern.banks.set br.1 ⟨h, br.2, decide (h ≥ 2), s.now⟩
    bw := s.cistern.bw.set port (s.cistern.bw.getD port 0 + n) } s

/-- Store the bytes of `l`, which stands at `a`, that lie in the code word `w`. Part of a word is merged in one slot: an uncorrectable
error discards it (R412). -/
def cistWordStore (a : Nat) (l : List Byte) (w : Nat) (x : State × Bool) : State × Bool :=
  let lo := max a (8 * w)
  let part := (l.drop (lo - a)).take (8 * w + 8 - lo)
  let r := if part.length = 8 then (x.1, false) else eccRead (cistBase + 8 * w) x.1
  if r.2 then (r.1, false) else (freshen (cistBase + 8 * w) (cwBytes lo part r.1), x.2)

/-- Store bytes with their codes; the answer says whether all of them were stored (R412). -/
def cistWrite (port a : Nat) (l : List Byte) (s : State) : State × Bool :=
  let s1 := dramTouch port (a / 64) l.length s
  if s1.fab.flips.isEmpty && s1.fab.arm.isNone then (cwBytes a l s1, true)
  else (List.range ((a + l.length + 7) / 8 - a / 8)).foldl (fun x i => cistWordStore a l (a / 8 + i) x) (s1, true)

def cistStore (port a : Nat) (l : List Byte) (s : State) : State := (cistWrite port a l s).1

/-- Read bytes: an uncorrectable word is delivered as 0 (R416); the answer says whether there was one. -/
def cistFetch (port a n : Nat) (s : State) : List Byte × State × Bool :=
  let s1 := dramTouch port (a / 64) n s
  let r : State × Bool :=
    if s1.fab.flips.isEmpty then (s1, false)
    else (List.range ((a + n + 7) / 8 - a / 8)).foldl (fun (acc : State × Bool) i =>
      let e := eccRead (cistBase + 8 * (a / 8 + i)) acc.1
      (e.1, acc.2 || e.2)) (s1, false)
  ((List.range n).map (fun i => if r.2 then 0 else cdByte r.1 (a + i)), r.1, r.2)

/-! ### Shed steps (R39, R40, R43, R44) -/

def shedNeed (s : State) : Nat := max s.shedMeas s.shedImp

/-- When the pressure that requires step `k` was last present. -/
def shedLast (s : State) (k : Nat) : Nat := s.shedT.getD (k - 1) 0

/-- Steps rise to `n`: a reduced meter refresh and a reduced prefetch are reported as they begin (R148, R393). -/
def shedRaise (n : Nat) (s : State) : State :=
  let s1 := { s with shed := n }
  let s2 := if s.shed = 0 ∧ n ≥ 1 then iset pgMETER 0 s1 else s1
  if s.shed < 4 ∧ n ≥ 4 then iset pgPLAYER 0 s2 else s2

/-- The measured pressure of a boundary: steps 1 to `p` are required (R39). -/
def shedMeasure (p : Nat) (s : State) : State :=
  let s1 := { s with shedMeas := p, shedT := s.shedT.mapIdx fun i t => if i < p then max t s.now else t }
  if shedNeed s1 > s1.shed then shedRaise (shedNeed s1) s1 else s1

/-- SHED_WITHDRAW (R40, R44): the highest step in force is withdrawn once the pressure that required it has been absent for
1 s. -/
def shedWithdraw (s : State) : State :=
  if shedNeed s < s.shed ∧ s.now ≥ shedLast s s.shed + secPs then { s with shed := s.shed - 1 } else s

/-! ### States (R371, R380, R381) -/

/-- First block boundary at or after a frame. -/
def blockAt (s : State) (f : Nat) : Nat := ceilDiv f (blockN s) * blockN s

/-- The measures of R43 steps 1, 2 and 4. -/
def degradeMeasures (s : State) : State :=
  let s2 := shedRaise 5 { s with shedImp := 5 }
  let c := s2.cistern
  let s3 := setCist { c with
    rsvAt := if c.reserve then c.rsvAt else some (c.rsvAt.getD (blockAt s2 (s2.tb.frame + 64)))
    backAt := none } s2
  standbyFault 6 (requestRelease (.fault 6) (alarm 6 s3))

def enterDegraded (s : State) : State :=
  degradeMeasures (iset pgDDRC 4 (setCist { s.cistern with st := .degraded } s))

def enterLost (s : State) : State :=
  degradeMeasures (iset pgDDRC 5 (setCist { s.cistern with st := .lost, retrain := none, pend := none, lostF := some s.tb.frame } s))

/-- Longest delay of the class A lines, for the move back (R386). -/
def isClassA (l : DLine) : Bool := bit l.e0 31 && bits l.e0 30 29 == 0 && !bit l.e0 28
def classALines (s : State) : List DLine := s.cistern.lines.filter isClassA

/-- The Cistern is NORMAL (R44, R371). -/
def enterNormal (s : State) : State :=
  let c := s.cistern
  let d := ((classALines s).map fun l => bits l.e0 20 0).foldl max 64
  let s1 := setCist { c with
    st := .normal, rsvAt := none
    backAt := if c.reserve then some (blockAt s (s.tb.frame + d)) else none } s
  -- the steps that DEGRADED imposed leave one per second, step 5 first (R44, log entry 49)
  iset pgDDRC 3 { s1 with
    shedImp := 0
    shedT := if s1.shedImp = 0 then s1.shedT else s1.shedT.mapIdx fun i t => max t (s1.now + (4 - i) * secPs) }

/-- After full training every content is void: the store is loaded from the image; without its section, a store that was in use is
lost (R381). -/
def voidContents (s : State) : State :=
  let c := s.cistern
  let lines := c.lines.map fun l => { l with from_ := s.tb.frame + 1 }
  let s1 := { setCist { c with lines := lines, lostF := none } s with cist := [] }
  if s.boot.cistern.isEmpty then (if s.boot.run then setCist { s1.cistern with storeBad := true } s1 else s1)
  else
    let s2 := s.boot.cistern.foldl (fun s x => cistStore 4 (64 * x.line) x.data s) s1
    iset pgPLAYER 1 (setCist { s2.cistern with storeBad := false } s2)

/-! ### Training (R377 to R380) -/

def minEye (s : State) : Nat := zeroIs1 (rfld s aDDRPHY_TRCFG 7 0)

/-- The temperature of R378, °C. -/
def ddrTemp (s : State) : Int :=
  if rbit s aDDRC_RTCFG 8 then sgn 8 (rfld s aDDRC_TEMP_IN 7 0) else (sgn 16 (rfld s aMON_TEMP 15 0)).fdiv 16

/-- Lanes whose eyes are too narrow. -/
def failedLanes (s : State) (l : List LaneEye) : List Nat :=
  (List.range (9 * ranks s)).filter fun e =>
    match l[e]? with
    | some x => decide (x.rd.toNat < minEye s ∨ x.wr.toNat < minEye s)
    | none => true

def maskOf (l : List Nat) : Nat := (l.map fun i => 2 ^ i).sum

/-- EYE of the lanes, and DLY once settings are in use. -/
def putEyes (l : List LaneEye) (s : State) : State :=
  (l.take 18).zipIdx.foldl (fun s x => rset (aDDRPHY_EYE x.2) (fld x.1.rd.toNat 16 ||| fld x.1.wr.toNat 0) s) s
def putDlys (l : List LaneEye) (s : State) : State :=
  (l.take 18).zipIdx.foldl (fun s x => rset (aDDRPHY_DLY x.2) (fld x.1.rdDly.toNat 16 ||| fld x.1.wrDly.toNat 0) s) s

/-- What the end of a training or retrain reports on DDRPHY. -/
def eyesReport (l : List LaneEye) (s : State) : State :=
  let bad := failedLanes s l
  let s1 := iset pgDDRPHY 0 (setCist { s.cistern with failMask := maskOf bad } (putEyes l s))
  if bad.isEmpty then s1 else iset pgDDRPHY 1 s1

/-- A success is recorded. -/
def trainedNow (s : State) : State :=
  let t := ddrTemp s
  rset aDDRPHY_TRAIN_TEMP (w32 (unsgn 8 t)) (setCist { s.cistern with trained := true, trainTemp := t } s)

/-- Full training starts (Table 13-2). -/
def startTraining (s : State) : State := setCist { s.cistern with st := .training, retrain := none, pend := none } s

/-- Contents after full training: void, but for a warm start, whose self-refresh has kept them (R381, R465). -/
def afterTraining (s : State) : State :=
  if s.boot.warm && !s.boot.run then setCist { s.cistern with lostF := none } s else voidContents s

/-- TRAINING_DONE (R377). -/
def trainingDone (r : TrainIn) (s : State) : State :=
  let s := advance r.t s
  if s.cistern.st ≠ .training then s
  else
    let s1 := rset aDDRPHY_TRAIN_TIME (satW 16 r.us) (eyesReport r.lanes s)
    if (failedLanes s r.lanes).isEmpty then
      let s2 := trainedNow (putDlys r.lanes (rset aDDRC_FAILS 0 s1))
      enterNormal (afterTraining (setCist { s2.cistern with rtT := s2.now, ceT := s2.now, ceNow := 0 } s2))
    else enterLost (iset pgDDRC 2 s1)

/-- Seconds between retrains, in ps; none when the interval trigger is off. -/
def retrainInt (s : State) : Option Nat :=
  let n := rfld s aDDRC_RTCFG 31 16
  if rfld s aDDRC_FAILS 1 0 > 0 then some (if n = 0 then 15 * secPs else n * secPs / 4)
  else if n = 0 then none else some (n * secPs)

def retrainStart (s : State) : State :=
  if s.cistern.retrain.isSome then s else setCist { s.cistern with retrain := some ⟨s.now, 0⟩, rtT := s.now } s

/-- RETRAIN_TRIGGER (R378, R379). -/
def retrainTrigger (t : Nat) (s : State) : State :=
  let s := advance t s
  let byTemp := decide ((ddrTemp s - s.cistern.trainTemp).natAbs ≥ zeroIs1 (rfld s aDDRC_RTCFG 7 0))
  let byTime : Bool := match retrainInt s with | some d => decide (s.now ≥ s.cistern.rtT + d) | none => false
  let retry := decide (rfld s aDDRC_FAILS 1 0 > 0)
  if cistServes s ∧ (byTime ∨ (byTemp ∧ ¬ retry)) then retrainStart s else s

/-- Slices of a whole retrain: each lane of each rank in both directions. -/
def slicesAll (s : State) : Nat := 18 * ranks s

/-- RETRAIN_SLICE (R378). -/
def retrainSlice (s : State) : State :=
  match s.cistern.retrain with
  | none => s
  | some r =>
    if r.slices < slicesAll s ∧ s.cistern.owed.all (fun n => decide (n < 8)) then
      setCist { s.cistern with retrain := some { r with slices := r.slices + 1 } } s
    else s

/-- RETRAIN_DONE (R379, R380). -/
def retrainDone (i : TrainIn) (s : State) : State :=
  let s := advance i.t s
  match s.cistern.retrain with
  | none => s
  | some r =>
    if r.slices < slicesAll s then s
    else
      let s1 := cnt aDDRC_RT_CNT (eyesReport i.lanes (setCist { s.cistern with retrain := none } s))
      if (failedLanes s i.lanes).isEmpty then
        let s2 := iset pgDDRC 1 (rset aDDRC_FAILS 0 (trainedNow (setCist { s1.cistern with pend := some i.lanes } s1)))
        if s2.cistern.st = .degraded ∧ (rget s2 aDDRC_CE_CNT).toNat ≤ rfld s2 aDDRC_CECFG 15 0 then enterNormal s2 else s2
      else
        let n := min 3 (rfld s1 aDDRC_FAILS 1 0 + 1)
        let s2 := iset pgDDRC 2 (rset aDDRC_FAILS (w32 n) s1)
        if n = 3 ∧ s2.cistern.st = .normal then enterDegraded s2 else s2

/-- RETRAIN_ABORT (R378): 1 s after its start. -/
def retrainAbort (s : State) : State :=
  match s.cistern.retrain with
  | none => s
  | some r => if s.now ≥ r.start + secPs then cnt aDDRC_RT_ABORT_CNT (setCist { s.cistern with retrain := none } s) else s

/-- CE_WINDOW_END (R380, R396). -/
def ceWindowEnd (s : State) : State :=
  if s.cistern.st = .off ∨ s.now < s.cistern.ceT + secPs then s
  else
    let n := s.cistern.ceNow
    let s1 := rset aDDRC_CE_CNT (satW 16 n) (setCist { s.cistern with ceNow := 0, ceT := s.now, bw := List.replicate 8 0 } s)
    let s2 := s.cistern.bw.zipIdx.foldl (fun s x => rset (aDDRC_PORTBW x.2) (w32 (x.1 / 1024)) s) s1
    if n > rfld s aDDRC_CECFG 15 0 then
      let s3 := iset pgDDRC 7 s2
      let s4 := if s3.cistern.st = .normal then enterDegraded s3 else s3
      if cistServes s4 then retrainStart s4 else s4
    else s2

/-! ### Refresh and rows (R375, R376) -/

/-- DRAM_REFRESH (R376): the refresh of a rank falls due while the most urgent request that waits has urgency `u`. -/
def dramRefresh (rank : Fin 2) (u : Fin 4) (s : State) : State :=
  if ¬ cistServes s ∨ rank.val ≥ ranks s then s
  else
    let o := s.cistern.owed.getD rank 0
    let put (n : Nat) (s : State) : State :=
      rset aDDRC_REF_OWED (fld ((s.cistern.owed.set rank n).getD 1 0) 4 ||| fld ((s.cistern.owed.set rank n).getD 0 0) 0)
        (setCist { s.cistern with owed := s.cistern.owed.set rank n } s)
    if u ≥ 2 ∧ o < 8 then put (o + 1) s
    else
      let shut (i : Nat) (b : BankSt) : BankSt := if i / 16 = rank then { b with opn := false } else b
      let s1 := setCist { s.cistern with banks := s.cistern.banks.mapIdx shut, pend := none } s
      let s2 := match s.cistern.pend with | some l => putDlys l s1 | none => s1
      put (if u = 0 then 0 else o) s2

/-- ROW_CLOSE_TIMEOUT (R375). -/
def rowCloseTimeout (bank : Fin 32) (s : State) : State :=
  let b := s.cistern.banks.getD bank ⟨2, 0, false, 0⟩
  if b.opn ∧ s.now ≥ b.t + 2000000 then
    setCist { s.cistern with banks := s.cistern.banks.set bank { b with opn := false } } s
  else s

/-! ### Delay-line entries (R382, Table 13-9) -/

def lineWords (l : DLine) : List Word := [l.e0, l.e1, l.e2, l.e3, l.e4]
def lineOf (s : State) (i : Nat) : Option DLine := s.cistern.lines.find? (fun l => l.i == i)
/-- The committed entry; E0 resets to class B, disabled. -/
def lineEntry (s : State) (i : Nat) : List Word :=
  match lineOf s i with | some l => lineWords l | none => [fld 1 29, 0, 0, 0, 0]

def dEn (e : List Word) : Bool := bit (e.getD 0 0) 31
def dClass (e : List Word) : Nat := bits (e.getD 0 0) 30 29
def dKind (e : List Word) : Bool := bit (e.getD 0 0) 28
def dPress (e : List Word) : Nat := bits (e.getD 0 0) 27 24
def dDelay (e : List Word) : Nat := bits (e.getD 0 0) 20 0
def dBase (e : List Word) : Nat := bits (e.getD 1 0) 27 0
def dLen (e : List Word) : Nat := bits (e.getD 2 0) 20 0
def dRst (e : List Word) : Nat := bits (e.getD 3 0) 19 0
def dWst (e : List Word) : Nat := bits (e.getD 4 0) 19 0
def dOut (e : List Word) : Nat := bits (e.getD 3 0) 9 0

/-- Two byte regions meet. -/
def meet (a n b m : Nat) : Bool := decide (a < b + m) && decide (b < a + n)

/-- Bytes of a Recorder segment's region, whole lines (R388). -/
def segBytes (length count : Nat) (fmt24 : Bool) : Nat := ceilDiv (length * count * (if fmt24 then 3 else 2)) 64 * 64

/-- A directory entry of the Player (R390): line, length, 24-bit, rate code. -/
def dirEntry (s : State) (a : Nat) : Nat × Nat × Bool × Nat :=
  let p := 64 * rfld s aPLAYER_DIR_BASE 27 0 + 16 * a
  (bits (cdWord s p) 27 0, (cdWord s (p + 4)).toNat, bit (cdWord s (p + 8)) 4, bits (cdWord s (p + 8)) 2 0)

def annBytes (d : Nat × Nat × Bool × Nat) : Nat := d.2.1 * (if d.2.2.1 then 3 else 2)

/-- Does a byte region meet the directory or an announcement? -/
def meetsStore (s : State) (a n : Nat) : Bool :=
  let cnt := min 4096 (rfld s aPLAYER_DIR_COUNT 12 0)
  meet a n (64 * rfld s aPLAYER_DIR_BASE 27 0) (16 * cnt)
    || (List.range cnt).any fun k => let d := dirEntry s k; meet a n (64 * d.1) (annBytes d)

def meetsLines (s : State) (skip a n : Nat) : Bool :=
  s.cistern.lines.any fun l => l.i != skip && bit l.e0 31 && meet a n (64 * dBase (lineWords l)) (4 * dLen (lineWords l))

def meetsSegs (s : State) (a n : Nat) : Bool :=
  s.cistern.segs.any fun g => meet a n (64 * g.base) (segBytes g.length g.count g.fmt24)

/-- The check of a commit (R382): the ERRCAP code that refuses it. -/
def dlyRefuse (s : State) (i : Nat) (e : List Word) : Option Nat :=
  let n := blockN s
  let was := dEn (lineEntry s i)
  let others := s.cistern.lines.filter fun l => l.i != i && bit l.e0 31
  let owned := (others.filter fun l => !dKind (lineWords l) && dPress (lineWords l) == dPress e).length
  if dEn e ∧ ¬ was ∧ s.cistern.st ≠ .normal then some 2
  else if decide ((if dKind e then 64 else 3 * n) ≤ dDelay e ∧ dDelay e ≤ 10 * fs s)
      && decide (dLen e % 16 = 0 ∧ dDelay e + 2 * n ≤ dLen e)
      && decide (64 * dBase e + 4 * dLen e ≤ cistBytes s)
      && !meetsLines s i (64 * dBase e) (4 * dLen e)
      && !meetsSegs s (64 * dBase e) (4 * dLen e)
      && !meetsStore s (64 * dBase e) (4 * dLen e)
      && decide (dClass e ≠ 3) && !(dClass e == 0 && dKind e)
      && (if dKind e then !(others.any fun l => dKind (lineWords l) && dOut (lineWords l) == dOut e)
          else decide (owned < 64) && decide (dRst e + 2 * n ≤ bankWords) && decide (dWst e + 2 * n ≤ bankWords))
    then none else some 1

/-- Frames of the reserve that each class A line gets (R386). -/
def rsvShare (s : State) : Nat := rfld s aDDRC_RSV_SHARE 16 0

/-- Replace an entry on the present frame (R382, R384). -/
def dlyApply (i : Nat) (e : List Word) (s : State) : State :=
  let f := s.tb.frame
  let clampIt := s.cistern.reserve && dClass e == 0 && decide (dDelay e > rsvShare s)
  let e0 := if clampIt then setBits (e.getD 0 0) 20 0 (rsvShare s) else e.getD 0 0
  let s := if clampIt then iset pgDDRC 6 s else s
  let d := bits e0 20 0
  let old := lineOf s i
  let same := match old with
    | some l => bit l.e0 31 && bit e0 31 && l.e1 == e.getD 1 0 && l.e2 == e.getD 2 0 && l.e3 == e.getD 3 0 && l.e4 == e.getD 4 0
        && bit l.e0 28 == bit e0 28 && bits l.e0 27 24 == bits e0 27 24
    | none => false
  let at_ := if bit e0 28 then f else blockAt s f
  let l1 : DLine := match old with
    | some l =>
      if same then { l with e0 := e0, points := if bits l.e0 20 0 = d then l.points else l.points ++ [(d, at_)] }
      else ⟨i, e0, e.getD 1 0, e.getD 2 0, e.getD 3 0, e.getD 4 0, f, [(d, 0)], f⟩
    | none => ⟨i, e0, e.getD 1 0, e.getD 2 0, e.getD 3 0, e.getD 4 0, f, [(d, 0)], f⟩
  setCist { s.cistern with lines := s.cistern.lines.filter (fun l => decide (l.i < i)) ++ [l1]
    ++ s.cistern.lines.filter (fun l => decide (i < l.i)) } s

/-- A write of SEL loads the window with the committed entry. -/
def dlySel (s : State) : State := regWords (aDDRC_DLY_ENTRY 0) (lineEntry s (rfld s aDDRC_DLY_SEL 9 0)) s

/-- DELAY_COMMIT (R382): on the present frame, or on the next one for a host write. -/
def dlyCommit (next : Bool) (s : State) : State :=
  let i := rfld s aDDRC_DLY_SEL 9 0
  let e := (List.range 5).map fun k => rget s (aDDRC_DLY_ENTRY k)
  match dlyRefuse s i e with
  | some c => errcap pgDDRC c i (iset pgDDRC 0 s)
  | none => if next then setCist { s.cistern with commits := s.cistern.commits ++ [(i, e)] } s else dlyApply i e s

def applyDlyCommits (s : State) : State :=
  s.cistern.commits.foldl (fun s c => dlyApply c.1 c.2 s) (setCist { s.cistern with commits := [] } s)

/-! ### Reading and writing lines (R383 to R386) -/

/-- Base of line `i`'s ring in the reserve. -/
def rsvBase (s : State) (i : Nat) : Nat := 0x3C0000 + (((classALines s).takeWhile fun l => l.i != i).length) * rsvShare s * 4

/-- Store the frame `f` of a line: in the Cistern while it serves, and in the reserve while the line is there. -/
def lineStore (l : DLine) (f : Nat) (v : Word) (s : State) : State :=
  let e := lineWords l
  let s1 := if cistServes s ∧ dLen e ≠ 0 then
      cistStore (if dKind e then 2 else 0) (64 * dBase e + 4 * (f % dLen e)) (leBytes 4 v.toNat) s
    else s
  if s.cistern.reserve ∧ isClassA l ∧ rsvShare s ≠ 0 then stWord (rsvBase s l.i + 4 * (f % rsvShare s)) v s1 else s1

/-- The sample of a line that a read point of delay `d` gives for frame `j`, as staged. A point that lies within the share of a
line in the reserve reads there; a longer one, which a clamp leaves behind, reads the Cistern (R43, R386). -/
def lineFetch (l : DLine) (d : Nat) (j : Nat) (s : State) : Int × State :=
  let e := lineWords l
  let f : Int := (j : Int) - d
  let inRsv := s.cistern.reserve && isClassA l
  if f < 0 then (0, s)
  else if inRsv && decide (d ≤ rsvShare s) then
    if f < l.rsvFrom ∨ rsvShare s = 0 then (0, s)
    else let r := dmaRead (rsvBase s l.i + 4 * (f.toNat % rsvShare s)) s; (sgn 32 r.1.toNat, r.2)
  else if f < l.from_ ∨ dLen e = 0 then (0, s)
  else if ¬ cistServes s then (0, if inRsv then s else stageMiss s)
  else
    let r := cistFetch (if dKind e then 2 else 0) (64 * dBase e + 4 * (f.toNat % dLen e)) 4 s
    if r.2.2 then (0, stageMiss r.2.1) else (sgn 32 (ofLe r.1), r.2.1)

/-- The crossfade over the read points from `acc` on: on frame `j` the newer of two points has weight (k + 1)/64 (R384). -/
def lineMix (l : DLine) (j : Nat) : Int → List (Nat × Nat) → State → Int × State
  | acc, [], s => (acc, s)
  | acc, (d, a) :: t, s =>
    if j < a then (acc, s)
    else
      let upTo := match t with | (_, b) :: _ => min (j + 1) b | [] => j + 1
      let q := min 64 (upTo - a)
      let r := lineFetch l d j s
      lineMix l j (convDiv (acc * (64 - q : Nat) + r.1 * q) 64) t r.2

/-- The delayed sample of a line for frame `j`. -/
def lineValue (l : DLine) (j : Nat) (s : State) : Int × State :=
  match l.points with
  | [] => (0, s)
  | (d, _) :: t =>
    let over64 := match t with | (_, a) :: [] => decide (j + 1 ≥ a + 64) | _ => false
    if over64 then lineMix l j 0 t s
    else
      let r := lineFetch l d j s
      lineMix l j r.1 t r.2

/-- DELAY_XFADE_END (R384): the crossfade of a line has run its 64 frames. -/
def delayXfadeEnd (i : Nat) (s : State) : State :=
  match lineOf s i with
  | none => s
  | some l =>
    match l.points.getLast? with
    | some (d, a) =>
      if l.points.length > 1 ∧ s.tb.frame ≥ a + 64 then
        let put (x : DLine) : DLine := if x.i = i then { x with points := [(d, 0)] } else x
        setCist { s.cistern with lines := s.cistern.lines.map put } s
      else s
    | none => s

def pressLines (s : State) : List DLine := s.cistern.lines.filter fun l => bit l.e0 31 && !bit l.e0 28

/-- The block tick T_k for the Press lines (Table 13-4): data block k − 2 goes out, data block k is staged. -/
def blockLines (k : Nat) (s : State) : State :=
  let n := blockN s
  let wr (s : State) (l : DLine) : State :=
    if k < 2 then s
    else
      let b := k - 2
      let e := lineWords l
      (List.range n).foldl (fun s i =>
        let r := dmaRead (xAddr (dPress e) (dWst e + (b % 2) * n + i)) s
        lineStore l (b * n + i) r.1 r.2) s
  let rd (s : State) (l : DLine) : State :=
    let e := lineWords l
    (List.range n).foldl (fun s i =>
      let r := lineValue l (k * n + i) s
      stWord (yAddr (dPress e) (dRst e + (k % 2) * n + i)) (i32 r.1) r.2) s
  (pressLines s).foldl rd ((pressLines s).foldl wr s)

/-- The block in progress: T_b has begun it. -/
def blockNow (s : State) : Nat := (s.tb.frame - 1) / blockN s

/-- STAGING_DEADLINE (R383, R385): words not yet returned, as 64 × line + index in the block; a word of an output line is
that of the coming frame. -/
def stagingDeadline (missing : List Nat) (s : State) : State :=
  let n := blockN s
  missing.foldl (fun s m =>
    match lineOf s (m / 64) with
    | none => s
    | some l =>
      let e := lineWords l
      if ¬ dEn e then s
      else if dKind e then setCist { s.cistern with missed := s.cistern.missed ++ [l.i] } s
      else if m % 64 < n then stageMiss (stWord (yAddr (dPress e) (dRst e + (blockNow s % 2) * n + m % 64)) 0 s)
      else s) s

/-- The output alignment lines (R385): the samples formed on frame `j` go in, and what ports and flows receive comes out. -/
def alignLines (j : Nat) (out : Samples) (s : State) : Samples × State :=
  let ls := s.cistern.lines.filter fun l => bit l.e0 31 && bit l.e0 28
  let r := ls.foldl (fun (a : Samples × State) l =>
    let o := dOut (lineWords l)
    let s1 := lineStore l j (i32 (smp out o)) a.2
    let v : Int × State := if s1.cistern.missed.contains l.i then (0, stageMiss s1) else lineValue l j s1
    (alSet a.1 o v.1, v.2)) (out, s)
  (r.1, setCist { r.2.cistern with missed := [] } r.2)

/-! ### The class A reserve (R43, R44, R386) -/

/-- The move lands: each class A line reads from its share, copied from the Cistern where it serves. -/
def rsvEnter (s : State) : State :=
  let ls := classALines s
  let share := if ls.isEmpty then 0 else 65536 / ls.length
  let f := s.tb.frame
  let s1 := rset aDDRC_RSV_SHARE (w32 share) s
  let copied := cistServes s
  let s2 := if ¬ copied then s1 else ls.foldl (fun s l =>
    let e := lineWords l
    let n := min (dDelay e) share
    (List.range n).foldl (fun s i =>
      let r := lineFetch l (n - i) f s
      if f + i < n ∨ share = 0 then s else stWord (rsvBase s l.i + 4 * ((f + i - n) % share)) (i32 r.1) r.2) s) s1
  let over_ := ls.any fun l => decide (dDelay (lineWords l) > share)
  let move (l : DLine) : DLine :=
    if isClassA l then
      let d := dDelay (lineWords l)
      { l with
        rsvFrom := if copied then max l.from_ (f - min d share) else f
        points := if d > share then l.points ++ [(share, f)] else l.points }
    else l
  let s3 := setCist { s2.cistern with reserve := true, rsvAt := none, lines := s2.cistern.lines.map move } s2
  if over_ then iset pgDDRC 6 s3 else s3

/-- The move back (R44). -/
def rsvLeave (s : State) : State :=
  let f := s.tb.frame
  let share := rsvShare s
  let move (l : DLine) : DLine :=
    let d := dDelay (lineWords l)
    if isClassA l ∧ d > share then { l with points := l.points ++ [(d, f)] } else l
  rset aDDRC_RSV_SHARE 0 (setCist { s.cistern with reserve := false, backAt := none, lines := s.cistern.lines.map move } s)

/-- RESERVE_MOVE (R43, R386): at its block boundary. -/
def reserveMove (s : State) : State :=
  match s.cistern.rsvAt, s.cistern.backAt with
  | some f, _ => if s.tb.frame ≥ f ∧ isBlock s s.tb.frame then rsvEnter s else s
  | none, some f => if s.tb.frame ≥ f ∧ isBlock s s.tb.frame then rsvLeave s else s
  | none, none => s

/-! ### Host aperture (R395) -/

/-- Cistern byte of an aperture address. -/
def apByte (s : State) (a : Nat) : Nat := rfld s aDDRC_APBASE 13 0 * 2 ^ 20 + (a - 0x100000)

/-- Does a byte lie in the announcement of a busy voice? -/
def inBusyVoice (s : State) (a n : Nat) : Bool :=
  s.cistern.voices.any fun v => meet a n (64 * v.line) (v.length * (if v.fmt24 then 3 else 2))

def apRefused (s : State) (a : Nat) : Bool :=
  let b := apByte s a
  !cistServes s || decide (b + 4 > cistBytes s) || !activeOrSolo s || meetsLines s 1024 b 4 || meetsSegs s b 4 || inBusyVoice s b 4

/-- An aperture write: stored under its byte enables, and mirrored (R357, R412). False when it is refused. -/
def apWrite (a : Nat) (be : BitVec 4) (v : Word) (s : State) : State × Bool :=
  if apRefused s a then (errcap pgDDRC 3 a s, false)
  else
    let b := apByte s a
    let r : State × Bool := if be = 0xF#4 ∨ s.fab.flips.isEmpty then (s, false) else eccRead (cistBase + b) s
    if r.2 then (r.1, false)
    else
      let s1 := dramTouch 5 (b / 64) 4 r.1
      let s2 := (List.range 4).foldl (fun s j => if be.getLsbD j then cwByte (b + j) (v.extractLsb' (8 * j) 8) s else s) s1
      let s3 := freshen (cistBase + b) s2
      (if isActive s3 then sendCell 5 (.words true [(b, cdWord s3 b)]) s3 else s3, true)

end Sys2Proof.Machine
end

