-- ==== Sys2Proof/Machine/Dpll.lean ====
section
/-!
DEFINITION. The Reference Selector and the DPLL (10_reference_selection.md R293 to R318).
-/

namespace Sys2Proof.Machine

def setDpll (d : DpllSt) (s : State) : State := { s with dpll := d }
def refOf (s : State) (r : Nat) : RefSt := s.dpll.refs.getD r RefSt.reset
def setRef (r : Nat) (v : RefSt) (s : State) : State := setDpll { s.dpll with refs := s.dpll.refs.set r v } s

/-! ### Configuration (Tables 10-5 and 10-6) -/

/-- Edge rate of a REFCFG.NOM code, Hz; 0 for an invalid code. -/
def nomRate (n : Nat) : Nat :=
  match n with
  | 0 => 44100 | 1 => 48000 | 2 => 88200 | 3 => 96000 | 4 => 192000 | 5 => 10000000 | 6 => 1 | 7 => 100 | _ => 0

def refNom (s : State) (r : Nat) : Nat := rfld s (aDPLL_REFCFG r) 19 16
def refRank (s : State) (r : Nat) : Nat := rfld s (aDPLL_REFCFG r) 27 24
def refSrc (s : State) (r : Nat) : Nat := rfld s (aDPLL_REFCFG r) 11 8
def refRate (s : State) (r : Nat) : Nat := zeroIs1 (nomRate (refNom s r))
/-- Nominal period of a reference, ps. -/
def refPer (s : State) (r : Nat) : Nat := 10 ^ 12 / refRate s r

/-- Is a REFCFG value allowed for its index (R293)? -/
def refCfgOk (s : State) (r : Nat) (v : Word) : Bool :=
  let nom := bits v 19 16
  let src := bits v 11 8
  let nomOk := match r with
    | 0 => decide (nom ≤ 6) | 1 => decide (nom ≤ 6)
    | 2 => decide (nom = 7) | 3 => decide (nom = 7)
    | 6 => decide (nom ≤ 4 ∧ nomRate nom = fs s)
    | _ => decide (nom ≤ 4)
  let srcOk := match r with
    | 5 => decide (src < 4)
    | 7 => decide (src < 4) || decide (8 ≤ src)
    | _ => true
  nomOk && srcOk

def refEn (s : State) (r : Nat) : Bool := rbit s (aDPLL_REFCFG r) 31 || (r == 6 && followsTwin s)

/-- Units of 10 ppb in ppt. -/
def ppb10 (n : Nat) : Nat := n * 10000
def qualSoak (s : State) : Nat := zeroIs1 (rfld s aDPLL_SOAK 31 16) * 100000000000
def disqSoak (s : State) : Nat := zeroIs1 (rfld s aDPLL_SOAK 15 0) * 100000000000
def lockTh (s : State) : Nat := rfld s aDPLL_LOCKCFG 31 16 * 1000
def unlockTh (s : State) : Nat := rfld s aDPLL_LOCKCFG 15 0 * 1000
def dwellOf (s : State) (step : Nat) : Nat := zeroIs1 (rfld s aDPLL_DWELL (8 * step + 7) (8 * step)) * 10 ^ 12
/-- The slope of a pull in force, ns/s (R309). -/
def pslope (s : State) : Nat :=
  clampN 1 100000 (rfld s (if s.boot.everRun then aDPLL_PSLOPE else aDPLL_PSLOPE_INIT) 16 0)

/-- First allowed step of a reference (R307): one tenth of its edge rate at most. -/
def firstStep (s : State) (r : Nat) : Nat :=
  let f := refRate s r
  if f ≥ 1000 then 0 else if f ≥ 100 then 1 else if f ≥ 10 then 2 else 3

/-! ### Immediate failure and tests (R298, R299) -/

/-- The port group or AES3 receiver that a source code names is lost. -/
def srcLost (s : State) (src : Nat) : Bool :=
  if src < 4 then !(s.ports.groups[Fin.ofNat 4 src].st == GState.run)
  else !s.ports.aes[Fin.ofNat 8 src].lock

/-- A cause of R299 other than missing edges. -/
def refSrcFailed (s : State) (r : Nat) : Bool :=
  match r with
  | 2 => !rbit s (aCTRL pgPTP) 4
  | 3 => !rbit s (aCTRL pgPTP) 5
  | 4 => srcLost s (8 + rfld s aAES3_REFSEL 2 0)
  | 5 => srcLost s (refSrc s 5)
  | 6 => !s.twin.link
  | 7 => srcLost s (refSrc s 7)
  | _ => false

/-- No accepted edge for 3 nominal periods. -/
def refQuiet (s : State) (r : Nat) : Bool :=
  match (refOf s r).edgeT with
  | none => true
  | some e => decide ((s.now - e) * refRate s r ≥ 3 * 10 ^ 12)

def refFailed (s : State) (r : Nat) : Bool := refQuiet s r || refSrcFailed s r

/-- Edges present for 3 nominal periods (Table 10-2). -/
def refPresent (s : State) (r : Nat) : Bool :=
  !refFailed s r &&
  match (refOf s r).firstT with
  | none => false
  | some e => decide ((s.now - e) * refRate s r ≥ 3 * 10 ^ 12)

/-- The tests of R298, while the measurement window is full; they hold their last result while it is not (R296). -/
def refPasses (s : State) (r : Nat) : Bool :=
  let x := refOf s r
  if ¬ x.full then x.lastPass
  else
    let xo := decide (x.fXo.natAbs ≤ ppb10 (rfld s aDPLL_TOL 31 16))
    let tol := ppb10 (rfld s aDPLL_TOL 15 0)
    match s.dpll.sel with
    | none => xo
    | some q =>
      if ¬ s.dpll.hoValid then xo
      else
        let ofs := if q = r then x.fXo - s.dpll.hoFreq else x.fMedia - (refOf s q).fMedia
        xo && decide (ofs.natAbs ≤ tol)

def usableSt (t : RefState) : Bool := t == .qualified || t == .drifting
def refUsable (s : State) (r : Nat) : Bool := usableSt (refOf s r).st

/-- Enter DISQUALIFIED or QUALIFIED. -/
def refDisq (r : Nat) (s : State) : State := iset pgDPLL 4 (setRef r { refOf s r with st := .disqualified } s)
def refQual (r : Nat) (s : State) : State := iset pgDPLL 3 (setRef r { refOf s r with st := .qualified } s)

/-- A reference fails at once (R299). -/
def refFailNow (r : Nat) (s : State) : State :=
  let x := refOf s r
  let x1 := { x with st := .failed, firstT := if refQuiet s r then none else x.firstT }
  if x.st = .failed then setRef r x1 s else iset pgDPLL 5 (setRef r x1 s)

/-- The state change of one reference at an evaluation (Table 10-2). -/
def refStep (s : State) (r : Nat) : State :=
  let x := refOf s r
  if ¬ refEn s r then setRef r { x with st := .off, wander := false } s
  else if x.st = .off then setRef r { x with st := .failed } s
  else if refFailed s r then (if x.st = .failed then s else refFailNow r s)
  else
    let ok := refPasses s r
    let s := setRef r { x with lastPass := ok } s
    let x := refOf s r
    match x.st with
    | .failed => if refPresent s r ∧ ok then setRef r { x with st := .soaking, soakT := s.now } s else s
    | .soaking => if ¬ ok then refDisq r s else if s.now ≥ x.soakT + qualSoak s then refQual r s else s
    | .qualified => if ok then s else setRef r { x with st := .drifting, soakT := s.now } s
    | .drifting =>
      if ok then setRef r { x with st := .qualified } s
      else if s.now ≥ x.soakT + disqSoak s then refDisq r s else s
    | .disqualified => if ok then setRef r { x with st := .soaking, soakT := s.now } s else s
    | .off => s

/-! ### Wander (R300) -/

def spread (l : List Int) : Nat :=
  match l with
  | [] => 0
  | a :: t => (t.foldl max a - t.foldl min a).toNat

/-- A new phase sample of a reference, relative to the selected one, or to the holdover frequency for that one itself. -/
def wanderSample (r : Nat) (s : State) : State :=
  let x := refOf s r
  let rel : Int := match s.dpll.sel with
    | some q => if q = r then x.e - s.dpll.drift / 10 ^ 12 else x.e - (refOf s q).e
    | none => x.e
  let win := zeroIs1 (rfld s aDPLL_WANDER 15 0) * 10 ^ 12
  let h := (s.now, rel) :: x.hist.filter (fun p => decide (s.now < p.1 + win))
  let lim := rfld s aDPLL_WANDER 31 16 * 1000
  let pp := spread (h.map (·.2))
  let x1 := { x with hist := h, wT := if pp < lim then x.wT else s.now }
  if pp > lim ∧ x.lastPass ∧ ¬ x.wander then iset pgDPLL 6 (setRef r { x1 with wander := true } s)
  else if x.wander ∧ s.now ≥ x1.wT + win then setRef r { x1 with wander := false } s
  else setRef r x1 s

/-! ### Pulling and lock (R308, R309) -/

/-- What is left of the pull at the present time, ps. -/
def pullLeft (s : State) : Int :=
  let done : Nat := pslope s * (s.now - s.dpll.pullT) / 1000000000
  if s.dpll.pull.natAbs ≤ done then 0 else if s.dpll.pull < 0 then s.dpll.pull + done else s.dpll.pull - done

/-- When the pull in progress ends. -/
def pullEndT (s : State) : Nat := s.dpll.pullT + ceilDiv (s.dpll.pull.natAbs * 1000000000) (pslope s)

/-- Start a pull of offset `e`. -/
def startPull (e : Int) (s : State) : State :=
  setDpll { s.dpll with pull := e, pullT := s.now, pulling := decide (e ≠ 0), repull := false } s

/-- The phase error of the loop: against the pulled target during a pull. -/
def loopErr (s : State) (r : Nat) : Int := (refOf s r).e - (if s.dpll.pulling then pullLeft s else 0)

/-- Follow |e| against the thresholds of R308. -/
def lockTrack (r : Nat) (s : State) : State :=
  let e := (loopErr s r).natAbs
  setDpll { s.dpll with
    inSince := if e ≤ lockTh s then some (s.dpll.inSince.getD s.now) else none
    outSince := if e > unlockTh s then some (s.dpll.outSince.getD s.now) else none } s

/-- Wrap a phase error into the shorter of the reference period and the frame period (R295). -/
def wrapErr (s : State) (r : Nat) (e : Int) : Int :=
  let w : Int := (min (refPer s r) (period s) : Nat)
  if w = 0 then e else (e + w / 2) % w - w / 2

/-- REF_EDGE (R294 to R296, R300). -/
def refEdge (r : Nat) (i : RefMeas) (s : State) : State :=
  let s := advance i.t s
  if ¬ refEn s r then s
  else
    let x := refOf s r
    let short := r < 2 && (match x.edgeT with | none => false | some e => decide (2 * (i.t - e) * refRate s r < 10 ^ 12))
    if short then setRef r { x with short := min 255 (x.short + 1) } s
    else
      let first := if refQuiet s r then some i.t else some (x.firstT.getD i.t)
      let s1 := wanderSample r (setRef r { x with
        edgeT := some i.t, firstT := first, e := wrapErr s r i.e, fXo := i.fXo, fMedia := i.fMedia, full := i.full } s)
      if s1.dpll.sel = some r then
        let s2 := if s1.dpll.repull then startPull (refOf s1 r).e s1 else s1
        lockTrack r s2
      else s1

/-- A SET or ADD has moved counter `n` (R296, R310). -/
def ptpMoved (one : Bool) (s : State) : State :=
  let r := if one then 3 else 2
  let s1 := setRef r { refOf s r with full := false } s
  if s1.dpll.sel = some r then setDpll { s1.dpll with repull := true } s1 else s1

/-! ### Selection (R301 to R303) -/

def agree (s : State) (a b : Nat) : Bool :=
  decide (((refOf s a).fMedia - (refOf s b).fMedia).natAbs ≤ ppb10 (rfld s aDPLL_EQ_TOL 15 0))
def offsetOf (s : State) (a b : Nat) : Nat := ((refOf s a).fMedia - (refOf s b).fMedia).natAbs

/-- The elements of a list whose measure is least, or greatest. -/
def leastBy (f : Nat → Nat) (l : List Nat) : List Nat :=
  match (l.map f).min? with | none => [] | some m => l.filter (fun a => f a == m)
def mostBy (f : Nat → Nat) (l : List Nat) : List Nat :=
  match (l.map f).max? with | none => [] | some m => l.filter (fun a => f a == m)

/-- A choice: the winner, or no decision (R303 step 3); and the candidates. -/
structure RefPick where
  sel      : Option Nat
  conflict : Bool
  cands    : List Nat
  deriving DecidableEq, Repr

/-- The best usable reference among `us` (R302, R303). -/
def bestRef (s : State) (us : List Nat) : RefPick :=
  let cur := s.dpll.sel
  let keep := match cur with | some c => if us.contains c then some c else none | none => none
  let cs := leastBy (refRank s) us
  if cs.isEmpty then ⟨none, false, []⟩
  else if cs.all (fun a => cs.all (fun b => agree s a b)) then
    match keep with
    | some c => if cs.contains c then ⟨some c, false, cs⟩ else ⟨cs.head?, false, cs⟩
    | none => ⟨cs.head?, false, cs⟩
  else
    let support (a : Nat) : Nat := (us.filter fun b => b != a && agree s a b).length
    match mostBy support cs with
    | [a] => ⟨some a, false, cs⟩
    | ties =>
      let rest := us.filter fun a => !cs.contains a
      let win := match (leastBy (refRank s) rest).head? with
        | some arb => leastBy (fun a => offsetOf s a arb) ties
        | none =>
          if ties.length ≥ 3 then
            leastBy (fun a => ((cs.filter (· != a)).map (offsetOf s a)).foldl max 0) ties
          else ties
      match win with
      | [a] => ⟨some a, false, cs⟩
      | _ => ⟨keep, true, cs⟩

/-- What the selection mode makes of the usable references (R301, R305). -/
def pickRef (s : State) : RefPick :=
  let all := (List.range 8).filter (refUsable s)
  if followsTwin s then ⟨if refUsable s 6 then some 6 else none, false, []⟩
  else
    let us := if isActive s then all.filter (· != 6) else all
    let cur := match s.dpll.sel with | some c => if us.contains c then some c else none | none => none
    match rfld s aDPLL_CFG 31 30 with
    | 0 =>
      -- a better rank causes a switch only once it is QUALIFIED
      let us' := match cur with
        | some c => us.filter fun a => (refOf s a).st == .qualified || decide (refRank s c ≤ refRank s a)
        | none => us
      bestRef s us'
    | 1 => match cur with
      | some c => ⟨some c, false, []⟩
      | none => bestRef s us
    | 2 => let f := rfld s aDPLL_CFG 26 24
      ⟨if us.contains f then some f else none, false, []⟩
    | _ => ⟨none, false, []⟩

/-! ### Holdover (R311 to R313) -/

/-- Frequency samples are taken at each 10 ms evaluation. -/
abbrev evalPs : Nat := 10000000000

/-- The samples that count for the holdover frequency. -/
def hoWindow (s : State) : List Int :=
  ((s.dpll.hist.filter fun p => decide (p.1 + disqSoak s ≤ s.now)).take (100 * zeroIs1 (rfld s aDPLL_HOLDCFG 11 0))).map (·.2)

/-- Work out the holdover frequency as it now stands. -/
def hoUpdate (s : State) : State :=
  let w := hoWindow s
  setDpll { s.dpll with
    hoFreq := if w.length = 0 then 0 else convDiv w.sum w.length
    hoAge := w.length / 100
    hoValid := decide (w.length ≥ 100) } s

def clampPpt : Int := 200000000

/-- The output frequency, and the clamp (R309, R312, R313). -/
def outFreq (s : State) : State :=
  let steer := sgn 32 (rget s aDPLL_STEER).toNat
  let slope : Int := if s.dpll.pulling then (if s.dpll.pull < 0 then (pslope s : Int) else -(pslope s : Int)) * 1000 else 0
  let f : Int := match s.dpll.st, s.dpll.sel with
    | .freerun, _ => steer
    | .holdover, _ => s.dpll.hoFreq + steer
    | _, some r => (refOf s r).fXo + slope
    | _, none => s.dpll.freq
  setDpll { s.dpll with freq := clampI (-clampPpt) clampPpt f, steer := steer, clamp := decide (f.natAbs > clampPpt.natAbs) } s

/-- Enter FREERUN or HOLDOVER, with nothing selected. -/
def holdOver (s : State) : State :=
  let st : DpllState := if s.dpll.hoValid then .holdover else .freerun
  let s1 := setDpll { s.dpll with st := st, pull := 0, pulling := false, repull := false, inSince := none, outSince := none, drift := 0 } s
  if s.dpll.st = st then s1 else iset pgDPLL 2 s1

/-- Clear the history and run free (R311): SRST, EN = 0, a change of MEDIA rate. -/
def dpllFree (s : State) : State :=
  let s1 := setDpll { s.dpll with
    hist := [], hoFreq := 0, hoAge := 0, hoValid := false, sel := none, conflict := false, step := 0 } s
  outFreq (holdOver s1)

/-- A change of selection (R304, R306, R307, R309). -/
def switchTo (q : Option Nat) (s : State) : State :=
  if s.dpll.sel = q then s
  else
    let clear (x : RefSt) : RefSt := { x with hist := [] }
    let s1 := cnt aDPLL_SWITCH_CNT (iset pgDPLL 0 (setDpll { s.dpll with sel := q, refs := s.dpll.refs.map clear, drift := 0 } s))
    match q with
    | none => holdOver s1
    | some r =>
      let s2 := startPull (refOf s1 r).e s1
      match s2.dpll.st with
      | .locked => setDpll { s2.dpll with step := max s2.dpll.step (firstStep s2 r) } s2
      | .acquire => setDpll { s2.dpll with step := firstStep s2 r } s2
      | _ => setDpll { s2.dpll with st := .acquire, step := firstStep s2 r, inSince := some s2.now, outSince := none } s2

/-- Frame ticks are held by a rate change: the DPLL stays in FREERUN (R332). -/
def ticksHeld (s : State) : Bool :=
  match s.clk.change with
  | some c => c.phase == .search || c.phase == .ramp || c.phase == .relock
  | none => false

/-- One evaluation (R304): state changes, then selection. -/
def evaluate (s : State) : State :=
  let s := (List.range 8).foldl refStep s
  if ¬ enOf s pgDPLL then outFreq { s with dpll := { s.dpll with evalT := s.now } }
  else if ticksHeld s then outFreq { s with dpll := { s.dpll with evalT := s.now } }
  else
    let dt := s.now - s.dpll.evalT
    -- the pull is reckoned again, at the slope in force
    let left := pullLeft s
    let s := setDpll { s.dpll with
      pull := left, pullT := s.now, drift := s.dpll.drift + (s.dpll.freq - s.dpll.hoFreq) * dt, evalT := s.now } s
    let s := if s.dpll.st = .locked ∧ ¬ s.dpll.pulling then
        setDpll { s.dpll with
          hist := ((s.now, s.dpll.freq) :: s.dpll.hist).take (100 * zeroIs1 (rfld s aDPLL_HOLDCFG 11 0) + disqSoak s / evalPs) } s
      else s
    let s := if s.dpll.st = .locked ∨ s.dpll.st = .acquire then hoUpdate s else s
    let p := pickRef s
    let mark (r : Nat) (x : RefSt) : RefSt := { x with cand := p.cands.contains r }
    let s := setDpll { s.dpll with
      refs := s.dpll.refs.mapIdx mark, conflict := p.conflict } (if p.conflict ∧ ¬ s.dpll.conflict then iset pgDPLL 7 s else s)
    let s := switchTo p.sel s
    let s := if s.dpll.sel = none then holdOver s else s
    outFreq s

/-- DPLL_EVALUATION (R304): every 10 ms, or at once when the selected reference fails. -/
def dpllEvaluation (t : Nat) (s : State) : State :=
  let s := advance t s
  let selFails : Bool := match s.dpll.sel with | some r => refFailed s r | none => false
  if t ≥ s.dpll.evalT + evalPs ∨ selFails then evaluate s else s

/-- REF_FAIL (R299, R304). -/
def refFail (r : Nat) (s : State) : State :=
  if ¬ refEn s r ∨ (refOf s r).st = .off ∨ ¬ refFailed s r then s
  else
    let s1 := refFailNow r s
    if s1.dpll.sel = some r then evaluate s1 else s1

/-- REF_SOAK_DONE and REF_DISQUALIFY (Table 10-2): the soak has run its time. -/
def refSoakDone (r : Nat) (s : State) : State :=
  let x := refOf s r
  if x.st = .soaking ∧ refEn s r ∧ ¬ refFailed s r ∧ refPasses s r ∧ s.now ≥ x.soakT + qualSoak s then refQual r s else s
def refDisqualify (r : Nat) (s : State) : State :=
  let x := refOf s r
  if x.st = .drifting ∧ refEn s r ∧ ¬ refFailed s r ∧ ¬ refPasses s r ∧ s.now ≥ x.soakT + disqSoak s then refDisq r s else s

/-- Since a time that is kept, a dwell has passed. -/
def dwelt (s : State) (since : Option Nat) (d : Nat) : Bool :=
  match since with | none => false | some u => decide (s.now ≥ u + d)

/-- LOCK_DECLARED (R308). -/
def lockDeclared (s : State) : State :=
  if s.dpll.st = .acquire ∧ dwelt s s.dpll.inSince (dwellOf s s.dpll.step) then
    iset pgDPLL 0 (setDpll { s.dpll with st := .locked, inSince := some s.now, outSince := none } s)
  else s

/-- LADDER_STEP (R308). -/
def ladderStep (s : State) : State :=
  if s.dpll.st = .locked ∧ s.dpll.step < 3 ∧ dwelt s s.dpll.inSince (dwellOf s s.dpll.step) then
    setDpll { s.dpll with step := s.dpll.step + 1, inSince := some s.now } s
  else s

/-- LOCK_LOST (R308). -/
def lockLost (s : State) : State :=
  if s.dpll.st = .locked ∧ dwelt s s.dpll.outSince (100 * 1000000000) then
    let st := match s.dpll.sel with | some r => firstStep s r | none => 0
    iset pgDPLL 1 (setDpll { s.dpll with st := .acquire, step := st, inSince := none, outSince := none } s)
  else s

/-- PULL_DONE (R309). -/
def pullDone (s : State) : State :=
  if s.dpll.pulling ∧ pullLeft s = 0 then
    iset pgDPLL 8 (setDpll { s.dpll with pull := 0, pullT := s.now, pulling := false } s)
  else s

/-! ### ALIGN (R314, R315) -/

/-- ERRCAP code of an ALIGN write that is refused; 0 where it is not. -/
def alignRefused (s : State) (src : Nat) : Nat :=
  if ¬ activeOrSolo s then 4
  else
    let ok : Bool := match src with
      | 0 => rbit s (aCTRL pgPTP) 4
      | 1 => rbit s (aCTRL pgPTP) 5
      | n => refNom s (n - 2) == 6 && !((refOf s (n - 2)).st == .failed)
    if ok then 0 else 1

/-- An accepted ALIGN write names outputs: each waits for its epoch. -/
def alignStart (outs : List Nat) (src : Nat) (s : State) : State :=
  let after := (if s.dpll.pulling then max s.now (pullEndT s) else s.now) + evalPs
  let keep := s.dpll.aligns.filter fun a => !outs.contains a.out
  setDpll { s.dpll with aligns := keep ++ outs.map fun o => ⟨o, after, src, none⟩ } s

/-- Divider and next edge of an output: 0 and 1 WCLK_OUT0/1, 2 PPS_OUT, 3 the block mark. -/
def outDiv (s : State) (o : Nat) : Nat :=
  match o with
  | 0 => rfld s (aPLLM_WCLKOUT 0) 11 0 + 1
  | 1 => rfld s (aPLLM_WCLKOUT 1) 11 0 + 1
  | 2 => zeroIs1 s.clk.pps.d
  | _ => zeroIs1 s.clk.bmark.d

/-- First frame at or after `f` with the phase of `p` in divider `d`. -/
def nextPhase (f p d : Nat) : Nat := f + (((p : Int) - f) % (d : Int)).toNat

/-- Next edge of an output at or after frame `f`. -/
def outNext (s : State) (o f : Nat) : Nat :=
  let d := outDiv s o
  match o with
  | 0 => match s.clk.wclk.getD 0 none with | some p => nextPhase f p d | none => f
  | 1 => match s.clk.wclk.getD 1 none with | some p => nextPhase f p d | none => f
  | 2 => match s.clk.pps.next with | some p => nextPhase f p d | none => f
  | _ => match s.clk.bmark.next with | some p => nextPhase f p d | none => f

/-- Put an output that is on at the phase of frame `h`; one that is off starts on a multiple of its divider (R330, R488). -/
def outPhase (o h : Nat) (s : State) : State :=
  let wclk (n : Nat) : List (Option Nat) := s.clk.wclk.set n ((s.clk.wclk.getD n none).map fun _ => h)
  match o with
  | 0 => { s with clk := { s.clk with wclk := wclk 0 } }
  | 1 => { s with clk := { s.clk with wclk := wclk 1 } }
  | 2 => { s with clk := { s.clk with pps := { s.clk.pps with next := s.clk.pps.next.map fun _ => h } } }
  | _ => { s with clk := { s.clk with bmark := { s.clk.bmark with next := s.clk.bmark.next.map fun _ => h } } }

/-- The epoch of one output has come, its nearest frame being `f` (R314); `g0` is the present frame. -/
def alignEpoch (f g0 : Nat) (a : AlignSt) (s : State) : State :=
  let g := outNext s a.out g0
  let h := nextPhase g f (outDiv s a.out)
  let hit (b : AlignSt) : AlignSt := if b.out = a.out then { b with h := some h } else b
  outPhase a.out h (setDpll { s.dpll with aligns := s.dpll.aligns.map hit } s)

/-- An epoch instant `e` of source `src`, seen from frame `f` that began at `tick` with the boundary before it one period
earlier: the frame whose tick is nearest, the later one on a tie. -/
def alignAt (src e f tick : Nat) (s : State) : State :=
  let near := if e ≥ tick then (if 2 * (e - tick) ≥ period s then f + 1 else f) else (if 2 * (tick - e) ≤ period s then f else f - 1)
  (s.dpll.aligns.filter fun a => a.src == src && a.h.isNone && decide (a.after ≤ e)).foldl (fun s a => alignEpoch near f a s) s

/-- Seconds of the time counters that passed during the frame that the present boundary ended. -/
def alignTick (s : State) : State :=
  let one (src : Nat) (c : TimeCtr) (s : State) : State :=
    let ns := c.t / 2 ^ 48 % 1000000000
    if s.ptp.run ∧ ns * 1000 < period s then alignAt src (s.now - ns * 1000) s.tb.frame s.tb.tickT s else s
  if s.dpll.aligns.isEmpty then s else one 1 s.ptp.t1 (one 0 s.ptp.t0 s)

/-- A 1PPS edge on REFIN0 or REFIN1 as an epoch. -/
def alignRef (r : Nat) (s : State) : State :=
  if r < 2 ∧ ¬ s.dpll.aligns.isEmpty then
    match (refOf s r).edgeT with
    | some e => if e = s.now then alignAt (r + 2) e s.tb.frame s.tb.tickT s else s
    | none => s
  else s

/-- ALIGN_EDGE (R314): the re-phased edge falls at frame h. -/
def alignEdge (o : Nat) (s : State) : State :=
  let hit (a : AlignSt) : Bool := a.out == o && (match a.h with | some h => decide (h ≤ s.tb.frame) | none => false)
  if s.dpll.aligns.any hit then
    iset pgDPLL 9 (setDpll { s.dpll with aligns := s.dpll.aligns.filter fun a => !hit a } s)
  else s

end Sys2Proof.Machine
end

