-- ==== Sys2Proof/Machine/Jet.lean ====
section
/-!
DEFINITION. Jet paths: enables, ownership and crossfades (04_basin_formes.md R134, R135, R147).
-/

namespace Sys2Proof.Machine

def jetPath (s : State) (p : Nat) : Word := rget s (aJET_PATH p)
def jetSrcOf (w : Word) : Nat := bits w 9 0
def jetDstOf (w : Word) : Nat := bits w 19 10

/-- The crossfade length of a path: invalid codes act as 64 frames. -/
def jetLen (s : State) (p : Nat) : Nat := (rampLen (bits (jetPath s p) 29 24)).getD 64

/-- Is an input channel ASRC-converted (R134)? -/
def asrcSource (s : State) (c : Nat) : Bool :=
  match portOwner s c with
  | some p => slotAsrc s (p / 8) (p % 8) false
  | none =>
    match s.net.rx.find? (fun x => let e := flowEntry s false x.f; decide (eInBase e ≤ c ∧ c < eInBase e + eCh e)) with
    | some x => eAsrc (flowEntry s false x.f)
    | none => false

/-- The owner of an output: the lowest enabled path that names it. -/
def jetOwner (s : State) (o : Nat) : Option Nat :=
  s.basin.jetOn.foldl (fun a p =>
    if jetDstOf (jetPath s p) = o then (match a with | some q => some (min p q) | none => some p) else a) none

/-- Paths that own an output. -/
def jetOwners (s : State) : List Nat := s.basin.jetOn.filter fun p => jetOwner s (jetDstOf (jetPath s p)) == some p

/-- Bring the contributions to the present owners: each change starts a crossfade on the present frame (R135). -/
def jetReown (s : State) : State :=
  let f := s.tb.frame
  let own := jetOwners s
  let wanted (c : JetC) : Bool := own.contains c.p && c.src == jetSrcOf (jetPath s c.p) && c.dst == jetDstOf (jetPath s c.p)
  let turn (up : Bool) (c : JetC) : JetC :=
    { c with up := up, w0 := jetW c (f - 1), start := f, l := jetLen s c.p, rep := false }
  let one (c : JetC) : JetC := if wanted c == c.up then c else turn (wanted c) c
  let js := s.basin.jets.map one
  let new := own.filter fun p => !(js.any fun c => c.p == p && wanted c)
  let add := new.map fun p =>
    (⟨p, jetSrcOf (jetPath s p), jetDstOf (jetPath s p), true, ⟨0, 1⟩, f, jetLen s p, false⟩ : JetC)
  setBasin { s.basin with jets := js ++ add } s

/-- Enabled paths that lose the output of path `p` as it is enabled, in number order (R135): itself to a lower one that owns it, or each
higher one to it. -/
def jetLosers (s : State) (p : Nat) : List Nat :=
  let d := jetDstOf (jetPath s p)
  match jetOwner s d with
  | none => []
  | some q =>
    if q < p then [p]
    else (List.range 64).filter fun r => decide (p < r) && s.basin.jetOn.contains r && jetDstOf (jetPath s r) == d

/-- A path is enabled. -/
def jetEnable (p : Nat) (s : State) : State :=
  let w := jetPath s p
  if asrcSource s (jetSrcOf w) then errcap pgJET 1 p (iset pgJET 0 s)
  else
    (jetLosers s p).foldl (fun s q => errcap pgJET 2 q (iset pgJET 0 s)) (setBasin { s.basin with jetOn := s.basin.jetOn ++ [p] } s)

def jetDisable (p : Nat) (s : State) : State := setBasin { s.basin with jetOn := s.basin.jetOn.filter (· != p) } s

/-- MUTE of a path has changed: a 64-frame ramp from the present level. -/
def jetMuteChange (p : Nat) (on : Bool) (s : State) : State :=
  let w0 := match s.basin.mutes.find? (fun m => m.p == p) with
    | some _ => muteLevel s p (s.tb.frame - 1)
    | none => if on then 64 else 0
  setBasin { s.basin with mutes := s.basin.mutes.filter (fun m => m.p != p) ++ [⟨p, on, s.tb.frame, w0⟩] } s

/-- JET.PATH[p] has changed from `old` to `new` (R135, R147). -/
def jetPathChange (p : Nat) (old new : Word) (s : State) : State :=
  let s1 := if bit old 30 == bit new 30 then s else jetMuteChange p (bit new 30) s
  if ¬ enOf s pgJET then s1
  else
    let moved := decide (jetSrcOf old ≠ jetSrcOf new) || decide (jetDstOf old ≠ jetDstOf new)
    let off := bit old 31 && (!bit new 31 || moved)
    let on := bit new 31 && (!bit old 31 || moved)
    let s2 := if off then jetDisable p s1 else s1
    let s3 := if on then jetEnable p s2 else s2
    if off || on then jetReown s3 else s3

/-- JET.CTRL.EN has changed: every enabled path is disabled or enabled. -/
def jetEnChange (en : Bool) (s : State) : State :=
  if en then
    jetReown ((List.range 64).foldl (fun s p => if bit (jetPath s p) 31 then jetEnable p s else s) s)
  else jetReown (setBasin { s.basin with jetOn := [] } s)

/-- JET_XFADE_END: crossfades of path `p` that have run their length are reported; those that have faded out are over. -/
def jetXfadeEnd (p : Nat) (s : State) : State :=
  let ended (c : JetC) : Bool := c.p == p && !c.rep && decide (c.start + c.l ≤ s.tb.frame + 1)
  if s.basin.jets.any ended then
    let js := (s.basin.jets.filter fun c => !(ended c && !c.up)).map fun c => if ended c then { c with rep := true } else c
    iset pgJET 2 (setBasin { s.basin with jets := js } s)
  else s

end Sys2Proof.Machine
end

