-- ==== Sys2Proof/Machine/Prot.lean ====
section
/-!
DEFINITION. Privilege and protection (16_host_interface_protection.md R450 to R453).
-/

namespace Sys2Proof.Machine

/-- The permission bit of a level and direction (R457): bit 2l grants read, bit 2l + 1 grants write. -/
def permBit (perm : Nat) (l : Nat) (write : Bool) : Bool := perm.testBit (2 * l + if write then 1 else 0)

/-- The region of an address outside the register pages (R451). -/
def permRegion (a : Nat) : Option Nat :=
  if a < 0x4000 then some 0
  else if 0x100000 ≤ a ∧ a < 0x200000 then some 1
  else if 0x200000 ≤ a ∧ a < 0x400000 then some 2
  else if 0x400000 ≤ a ∧ a < 0xC00000 then some 3
  else if 0x1000000 ≤ a ∧ a < 0x1400000 then some 4
  else if 0x1400000 ≤ a ∧ a < 0x1800000 then some 5
  else none

/-- May level `l` access address `a` (R451)? -/
def permits (s : State) (l a : Nat) (write : Bool) : Bool :=
  if isPageAddr a ∧ pageOf a = pgPROT ∧ l = 0 then true
  else
    match s.host.ranges.find? (fun r => r.en && decide (r.base ≤ a / 4 ∧ a / 4 ≤ r.limit)) with
    | some r => permBit r.perm.toNat l write
    | none =>
      if isPageAddr a then permBit (rfld s (aPROT_PAGEPERM (pageOf a)) 7 0) l write
      else match permRegion a with
        | some r => permBit (rfld s (aPROT_REGPERM r) 7 0) l write
        | none => false

/-- A protection fault (R453): `rwp` for an RWP discard. -/
def protFault (rwp : Bool) (l a : Nat) (write remote : Bool) (s : State) : State :=
  let first := !rbit s (aERRCAP pgPROT) 31
  let s1 := alarm 11 (iset pgPROT (if rwp then 1 else 0) (cnt aPROT_FAULT_CNT s))
  let s2 := errcap pgPROT (if rwp then 2 else 1) a s1
  if first then rset aPROT_FAULTINFO (fld l 30 ||| flg write 29 ||| flg remote 28) s2 else s2

/-- RANGE[k].PERM has been written: the staged entry applies (R452). -/
def rangeApply (k : Nat) (s : State) : State :=
  let r : RangeEnt :=
    { en := rbit s (aPROT_RANGE_PERM k) 31, base := rfld s (aPROT_RANGE_BASE k) 24 2, limit := rfld s (aPROT_RANGE_LIMIT k) 24 2,
      perm := BitVec.ofNat 8 (rfld s (aPROT_RANGE_PERM k) 7 0) }
  { s with host := { s.host with ranges := s.host.ranges.set k r } }

end Sys2Proof.Machine
end

