-- ==== Sys2Proof/Machine/Record.lean ====
section
/-!
DEFINITION. The Recorder and the Player (13_cistern_dram.md R387 to R394).
-/

namespace Sys2Proof.Machine

/-! ### Recorder (R387 to R389) -/

def recLimit : Nat := 1179648
def maxTracks (s : State) : Nat := if s.clk.mult = 2 then 32 else 64
def tracksUsed (s : State) : Nat := (s.cistern.segs.map (·.count)).sum

/-- A RECORD_SEG payload as a segment (Table 13-5). -/
def segOf (t : Word) (p : List Word) : RecSeg :=
  let w (i : Nat) : Word := p.getD i 0
  { ticket := t, kind := bits (w 0) 31 28, loop := bit (w 0) 27, fmt24 := bit (w 0) 26, count := bits (w 0) 22 16,
    first := bits (w 0) 9 0, length := (w 1).toNat, base := bits (w 2) 27 0, post := bits (w 3) 23 0, tracks := [],
    start := none, froze := none }

/-- The syntax checks of RECORD_SEG (R388). -/
def segSyntax (s : State) (p : List Word) : Bool :=
  let w (i : Nat) : Word := p.getD i 0
  let g := segOf 0 p
  let lim := match g.kind with | 1 => limIn s | 2 => limBus s | 3 => limOut s | _ => 0
  decide (1 ≤ g.kind ∧ g.kind ≤ 3) && decide (bits (w 0) 25 23 = 0 ∧ bits (w 0) 15 10 = 0)
    && decide (1 ≤ g.count ∧ g.count ≤ 64) && decide (1 ≤ g.length) && decide (bits (w 2) 31 28 = 0 ∧ bits (w 3) 31 24 = 0)
    && (g.loop || decide (g.post = 0)) && decide (g.first + g.count ≤ lim)
    && decide (64 * g.base + segBytes g.length g.count g.fmt24 ≤ cistBytes s)

/-- The resource checks (R388). -/
def segRoom (s : State) (p : List Word) : Bool :=
  let g := segOf 0 p
  let a := 64 * g.base
  let n := segBytes g.length g.count g.fmt24
  decide (tracksUsed s + g.count ≤ maxTracks s) && !meetsLines s 1024 a n && !meetsSegs s a n && !meetsStore s a n
    && decide (s.shed < 5) && !cistDown s

/-- Reserve the tracks of an accepted segment: the lowest free ones. -/
def segAccept (t : Word) (p : List Word) (s : State) : State :=
  let g := segOf t p
  let used := s.cistern.segs.flatMap (·.tracks)
  let free := ((List.range 64).filter fun i => !used.contains i).take g.count
  let s1 := setCist { s.cistern with segs := s.cistern.segs ++ [{ g with tracks := free }] } s
  free.foldl (fun s i => rset (aRECORDER_SEGPOS i) 0 (rset (aRECORDER_SEGTKT i) t s)) s1

/-- Give the tracks of a ticket back. -/
def segFree (t : Word) (s : State) : State :=
  let gone := (s.cistern.segs.filter fun g => g.ticket == t).flatMap (·.tracks)
  gone.foldl (fun s i => rset (aRECORDER_SEGTKT i) 0 s)
    (setCist { s.cistern with segs := s.cistern.segs.filter fun g => g.ticket != t } s)

/-- RECORD_SEG lands (R389). -/
def segLand (e : Ev) (s : State) : State :=
  let put (g : RecSeg) : RecSeg := if g.ticket = e.ticket then { g with start := some s.tb.frame } else g
  iset pgRECORDER 0 (keepRunning e (setCist { s.cistern with segs := s.cistern.segs.map put } s))

/-- A sample in the format of a segment, packed little-endian. -/
def recBytes (fmt24 : Bool) (x : Int) : List Byte :=
  let w := if fmt24 then 24 else 16
  leBytes (w / 8) (unsgn w (satS w (convDiv x (2 ^ (32 - w)))))

/-- Does a segment record frame `f`? -/
def segRecords (g : RecSeg) (f : Nat) : Bool :=
  match g.start with
  | none => false
  | some a => decide (a ≤ f) && (if g.loop then (match g.froze with | some b => decide (f < b + g.post) | none => true)
      else decide (f < a + g.length))

/-- Frame `f`, complete, enters the buffer on the frame after its own; with the buffer full it is discarded (R389). -/
def recordFrame (f : Nat) (s : State) : State :=
  let go := if enOf s pgRECORDER then s.cistern.segs.filter fun g => segRecords g f else []
  if go.isEmpty then s
  else
    let row (g : RecSeg) : Nat × List Byte :=
      let k := f - g.start.getD f
      let size := g.count * (if g.fmt24 then 3 else 2)
      let src := match g.kind with | 1 => s.basin.lastIn | 2 => s.basin.busOut | _ => s.basin.outHist.headD []
      (64 * g.base + (k % g.length) * size, (List.range g.count).flatMap fun i => recBytes g.fmt24 (smp src (g.first + i)))
    let rows := go.map row
    let level := (s.cistern.recBuf.map (·.2.length)).sum
    let new := (rows.map (·.2.length)).sum
    let s1 := go.foldl (fun s g => g.tracks.foldl (fun s i =>
      rset (aRECORDER_SEGPOS i) (w32 ((f + 1 - g.start.getD f) % g.length)) s) s) s
    if level + new > recLimit then iset pgRECORDER 3 (cnt aRECORDER_LOSS_CNT s1)
    else
      peak aRECORDER_BUF_PEAK (level + new)
        (rset aRECORDER_BUF_LEVEL (w32 (level + new)) (setCist { s1.cistern with recBuf := s1.cistern.recBuf ++ rows } s1))

/-- Take `n` bytes from the front of the buffer: what is written, and what stays. -/
def takeBuf : Nat → List (Nat × List Byte) → List (Nat × List Byte) × List (Nat × List Byte)
  | _, [] => ([], [])
  | n, (a, l) :: t =>
    if n = 0 then ([], (a, l) :: t)
    else if l.length ≤ n then let r := takeBuf (n - l.length) t; ((a, l) :: r.1, r.2)
    else ([(a, l.take n)], (a + n, l.drop n) :: t)

/-- The buffer drains through the REC port while the Cistern serves (R387). -/
def recDrain (n : Nat) (s : State) : State :=
  if ¬ cistServes s ∨ n = 0 then s
  else
    let r := takeBuf n s.cistern.recBuf
    let s1 := r.1.foldl (fun s x => cistStore 3 x.1 x.2 s) (setCist { s.cistern with recBuf := r.2 } s)
    rset aRECORDER_BUF_LEVEL (w32 (r.2.map (·.2.length)).sum) s1

/-- RECORDER_FREEZE (R389): a ticket that no loop segment that has landed bears does nothing. -/
def recFreeze (t : Word) (s : State) : State :=
  if s.cistern.segs.any fun g => g.ticket == t && g.loop && g.start.isSome && g.froze.isNone then
    let put (g : RecSeg) : RecSeg := if g.ticket = t ∧ g.froze.isNone then { g with froze := some s.tb.frame } else g
    iset pgRECORDER 1 (setCist { s.cistern with segs := s.cistern.segs.map put } s)
  else s

/-- The completion frame of a segment, once it is known. -/
def segEnd (g : RecSeg) : Option Nat :=
  match g.start with
  | none => none
  | some a => if g.loop then g.froze.map (· + g.post) else some (a + g.length)

/-- SEGMENT_COMPLETE (R389). -/
def segmentComplete (t : Word) (s : State) : State :=
  match s.cistern.segs.find? (fun g => g.ticket == t) with
  | none => s
  | some g =>
    match segEnd g with
    | none => s
    | some c => if s.tb.frame ≥ c then finishRunning t c (iset pgRECORDER 2 (segFree t s)) else s

/-! ### Player (R390 to R394) -/

/-- The syntax checks of PLAY (R391). -/
def playSyntax (s : State) (p : List Word) : Bool :=
  let w (i : Nat) : Word := p.getD i 0
  decide (bits (w 0) 30 30 = 0 ∧ bits (w 0) 23 8 = 0 ∧ bits (w 1) 31 12 = 0 ∧ bits (w 2) 31 10 = 0 ∧ bits (w 3) 31 30 = 0)
    && (rampLen (bits (w 0) 29 24)).isSome && (rampLen (bits (w 3) 29 24)).isSome
    && decide (bits (w 1) 11 0 < rfld s aPLAYER_DIR_COUNT 12 0) && decide (bits (w 2) 9 0 < limIn s)

/-- Does a port or a flow own an input channel (R220, R261)? -/
def channelOwned (s : State) (c : Nat) : Bool :=
  (portOwner s c).isSome || s.net.rxE.any fun x => eEn x.2 && decide (eInBase x.2 ≤ c ∧ c < eInBase x.2 + eCh x.2)

/-- The rate code of Table 05-10. -/
def rateCode (s : State) : Nat :=
  match s.clk.fam, s.clk.mult with
  | false, 0 => 0 | true, 0 => 1 | false, _ => 2 | true, 1 => 3 | true, _ => 4

def voiceDone (s : State) : State := iset pgPLAYER 2 s

/-- PLAY lands (R391, R392). -/
def playLand (e : Ev) (s : State) : State :=
  let w (i : Nat) : Word := e.payload.getD i 0
  let f := s.tb.frame
  let v := bits (w 0) 7 0
  let d := dirEntry s (bits (w 1) 11 0)
  if d.2.2.2 ≠ rateCode s then finishAt e f (voiceDone (iset pgPLAYER 3 s))
  else if 64 * d.1 + annBytes d > cistBytes s ∨ d.2.1 = 0 then finishAt e f (voiceDone (errcap pgPLAYER 1 v s))
  else
    let run : VoiceRun :=
      { v := v, ticket := e.ticket, ann := bits (w 1) 11 0, dest := bits (w 2) 9 0, level := sgn 24 (bits (w 3) 23 0),
        fadeIn := (rampLen (bits (w 3) 29 24)).getD 1, stopL := (rampLen (bits (w 0) 29 24)).getD 1, loop := bit (w 0) 31,
        start := f, line := d.1, length := d.2.1, fmt24 := d.2.2.1, stop := none, stops := [] }
    -- a running announcement of the voice takes its stop fade
    let pre (x : VoiceRun) : VoiceRun := if x.v = v ∧ x.stop.isNone then { x with stop := some f } else x
    let s1 := keepRunning e (setCist { s.cistern with voices := s.cistern.voices.map pre ++ [run] } s)
    if channelOwned s1 run.dest then iset pgPLAYER 4 s1 else s1

/-- STOP_PLAY lands (R392). -/
def stopPlayLand (e : Ev) (s : State) : State :=
  let f := s.tb.frame
  let v := bits (e.payload.getD 0 0) 7 0
  match (s.cistern.voices.filter fun x => x.v == v).getLast? with
  | none => finishAt e f s
  | some r =>
    let put (x : VoiceRun) : VoiceRun :=
      if x.ticket = r.ticket then { x with stop := some (x.stop.getD f), stops := x.stops ++ [e.ticket] } else x
    keepRunning e (setCist { s.cistern with voices := s.cistern.voices.map put } s)

/-- Frames ahead that a voice prefetches (R393). -/
def pfDepth (s : State) : Nat := if s.shed ≥ 4 then 32 else clampN 32 256 (rfld s aPLAYER_CFG 8 0)

/-- A sample as it stands in the store, in Q0.31 (R211). -/
def voiceRaw (x : VoiceRun) (k : Nat) (s : State) : Int × State :=
  let n := if x.fmt24 then 3 else 2
  let i := if x.loop then k % zeroIs1 x.length else k
  let r := cistFetch 4 (64 * x.line + n * i) n s
  (sgn 32 (ofLe r.1 * 2 ^ (32 - 8 * n)), r.2.1)

/-- Last frame of a run's stop fade, and the first frame after its last sample. -/
def fadeLast (x : VoiceRun) : Option Nat := x.stop.map (· + x.stopL - 1)
def voiceOver (x : VoiceRun) (j : Nat) : Bool :=
  (match fadeLast x with | some l => decide (j > l) | none => false) || (!x.loop && decide (j ≥ x.start + x.length))

/-- The contribution of a run to input frame `j` (R391, R392). -/
def voiceSample (x : VoiceRun) (j : Nat) (missing : Bool) (s : State) : Int × State :=
  if j < x.start ∨ voiceOver x j then (0, s)
  else if ¬ enOf s pgPLAYER then (0, s)
  else
    let k := j - x.start
    let gone : Bool := match s.cistern.lostF with | some f => decide (j > f + pfDepth s) | none => false
    if missing ∨ gone then (0, stageMiss (cnt aPLAYER_MISS_CNT s))
    else
      let r := voiceRaw x k s
      let up := min (k + 1) x.fadeIn
      let down := match x.stop with | some a => x.stopL - min x.stopL (j + 1 - a) | none => x.stopL
      (satS 32 (convDiv (r.1 * x.level * up * down) (2 ^ 20 * x.fadeIn * zeroIs1 x.stopL)), r.2)

/-- The Player's channels of input frame `j`, after the channels that ports and flows own (R394). -/
def playerInputs (j : Nat) (missing : List (Fin 256)) (a : Samples × State) : Samples × State :=
  let r : Samples × State := a.2.cistern.voices.foldl (fun (b : Samples × State) x =>
    let y := voiceSample x j (missing.any fun m => m.val == x.v) b.2
    (alSet b.1 x.dest (smp b.1 x.dest + y.1), y.2)) ([], a.2)
  r.1.foldl (fun (b : Samples × State) c =>
    if channelOwned b.2 c.1 then (b.1, iset pgPLAYER 4 b.2)
    else if b.1.any (fun y => y.1 == c.1) then b
    else (b.1 ++ [(c.1, satS 32 c.2)], b.2)) (a.1, r.2)

/-- A run is over: its PLAY and the STOP_PLAY entries that wait for it complete on frame `c`. -/
def runEnd (x : VoiceRun) (c : Nat) (s : State) : State :=
  let s1 := setCist { s.cistern with voices := s.cistern.voices.filter fun y => y.ticket != x.ticket } s
  x.stops.foldl (fun s t => finishRunning t c s) (finishRunning x.ticket c (voiceDone s1))

/-- VOICE_END (R391): the frame after the last sample. -/
def voiceEnd (v : Nat) (s : State) : State :=
  match s.cistern.voices.find? (fun x => x.v == v && !x.loop && decide (s.tb.frame ≥ x.start + x.length)
      && (match fadeLast x with | some l => decide (x.start + x.length ≤ l) | none => true)) with
  | some x => runEnd x (x.start + x.length) s
  | none => s

/-- STOP_FADE_END (R392): the last frame of the fade. -/
def stopFadeEnd (v : Nat) (s : State) : State :=
  match s.cistern.voices.find? (fun x => x.v == v && (match fadeLast x with
      | some l => decide (s.tb.frame ≥ l) && (x.loop || decide (l < x.start + x.length)) | none => false)) with
  | some x => runEnd x ((fadeLast x).getD s.tb.frame) s
  | none => s

/-- VSTAT state of a voice (Table 13-11). -/
def voiceState (s : State) (v : Nat) : Nat :=
  match s.cistern.voices.filter (fun x => x.v == v) with
  | [] => 0
  | [x] => if x.stop.isSome then 3 else if s.tb.frame < x.start + x.fadeIn then 1 else 2
  | _ => 4

end Sys2Proof.Machine
end

