-- ==== Sys2Proof/Machine/Galley.lean ====
section
/-!
DEFINITION. The Galley: submission, checks, acceptance, replication, responses and client state
(03_galley_accepted_work.md R74 to R105, 02_time_axes_compositor.md R46 to R52, R62, R63).
-/

namespace Sys2Proof.Machine

def setGalley (g : GalleySt) (s : State) : State := { s with galley := g }

/-! ### Status (R101, Table 03-11) -/

/-- The Galley logic runs: start-up has reached RUN, the bank is not lost, and the FABRIC and CORE clocks run. -/
def galleyRuns (s : State) : Bool := s.boot.run && !s.galley.lost && !s.clk.coreGated

/-- STAT.READY. -/
def galleyReady (s : State) : Bool := galleyRuns s && activeOrSolo s

/-- Entries are replicated (R90). -/
def replicates (s : State) : Bool := isActive s && partnerStandby s

/-- STAT.GUAR: the row of Table 03-8 that applies. With the bank lost, or without valid retention, none does. -/
def galleyGuar (s : State) : Nat :=
  if ¬ activeOrSolo s ∨ s.galley.lost then 0 else if replicates s then 2 else if s.boot.retention then 1 else 0

/-- Table 03-5 codes. -/
abbrev stAccepted : Nat := 0
abbrev stDuplicate : Nat := 1
abbrev stSyntax : Nat := 2
abbrev stHorizon : Nat := 3
abbrev stPrivilege : Nat := 4
abbrev stResource : Nat := 5
abbrev stFull : Nat := 6
abbrev stGap : Nat := 7
abbrev stNotActive : Nat := 8

/-! ### Payload (R76, R77) -/

/-- Payload words, inline or from the buffer; a word with an uncorrectable error is delivered as 0 (R416). -/
def payloadOf (s : State) (e : Entry) : List Word :=
  if e.ptr then
    (if s.fab.flips.isEmpty then rdWords s e.w4.toNat e.len
     else (List.range e.len).map fun i => let a := e.w4.toNat + 4 * i; if ueAt s a then 0 else rdWord s a)
  else [e.w4, e.w5, e.w6, e.w7].take e.len

/-- A pointer payload lies in bank 3 outside the class A reserve, on a word boundary; w5 to w7 are 0 (R76, R77). -/
def ptrOk (e : Entry) : Bool :=
  decide (e.w4.toNat % 4 = 0 ∧ 0x380000 ≤ e.w4.toNat ∧ e.w4.toNat + 4 * e.len ≤ 0x3C0000)
    && decide (1 ≤ e.len) && e.w5 == 0 && e.w6 == 0 && e.w7 == 0

/-- LEN of an opcode (Table 03-3). -/
def lenOk (op n : Nat) : Bool :=
  match op with
  | 1 => decide (2 ≤ n ∧ n ≤ 254) && n % 2 == 0
  | 2 => n == 0 | 3 => n == 2 | 4 => n == 4 | 5 => n == 1 | 6 => n == 4 | 7 => n == 2
  | 8 => decide (1 ≤ n ∧ n ≤ 255) | 9 => n == 0 | 10 => n == 1
  | _ => false

/-- The (address, value) pairs of a WRITE_PARAM. -/
def pairsOf : List Word → List (Nat × Word)
  | a :: v :: t => (a.toNat, v) :: pairsOf t
  | _ => []

/-! ### WRITE_PARAM targets -/

/-- May WRITE_PARAM address this word (R126, R234 and the chapters of the pages)? -/
def paramTarget (a : Nat) : Bool :=
  if a % 4 ≠ 0 then false
  else if 0x1000000 ≤ a ∧ a < 0x1800000 then decide ((a - 0x1000000) % 0x400000 < oRsv)
  else
    match regAt a with
    | none => false
    | some _ =>
      let p := pageOf a
      decide (0x10 ≤ p ∧ p ≤ 0x15) || p == pgSTREAMRX || p == pgSTREAMTX || p == pgBASIN || p == pgJET
        || decide (0x20 ≤ p ∧ p ≤ 0x2F) || a == aPLLM_RATE
        || a == aDDRC_DLY_SEL || a == aDDRC_DLY_COMMIT || decide (aDDRC_DLY_ENTRY 0 ≤ a ∧ a ≤ aDDRC_DLY_ENTRY 4)
        || a == aCTRL pgRECORDER || a == aCTRL pgPLAYER || a == aRECORDER_FREEZE || a == aPLAYER_CFG || a == aPLAYER_DIR_BASE || a == aPLAYER_DIR_COUNT

/-- A RATE code of Table 11-4. -/
def rateOkCode (v : Word) : Bool := let m := bits v 1 0; if bit v 4 then decide (m ≤ 2) else decide (m ≤ 1)

/-- Every enabled flow has a PTIME that is valid at the rate of `v` (R331). -/
def flowsFit (s : State) (v : Word) : Bool :=
  let s' : State := { s with clk := { s.clk with fam := bit v 4, mult := bits v 1 0 } }
  (s.net.rxE ++ s.net.txE).all fun x => !eEn x.2 || (framesPer s' x.2).isSome

/-- The syntax of one pair: a target, and a value that its chapter allows (R117, R126, R212, R220, R224, R331, R466). -/
def pairOk (s : State) (x : Nat × Word) : Bool :=
  let a := x.1
  let v := x.2
  paramTarget a &&
    (if a ≥ 0x1000000 then
       let o := (a - 0x1000000) % 0x400000
       !isGainKey o || (discOf s v).isSome
     else if a = aPLLM_RATE then rateOkCode v && flowsFit s v
     else if decide (aJET_JGAIN 0 ≤ a ∧ a ≤ aJET_JGAIN 63) then (discOf s v).isSome
     else
       let p := pageOf a
       if 0x10 ≤ p ∧ p ≤ 0x13 then
         let g := p - 0x10
         if a = aPORTG_GCFG g then gcfgValid v else true
       else if 0x20 ≤ p ∧ p ≤ 0x2F ∧ a = aCTRL p then !(bit v 0 && rbit s aBOOT_BADPRESS (p - 0x20))
       else true)

/-- The ports that an entry's pairs touch map their slots below the channel limits (R220), each register at the last value that the
entry gives it: a PORT word, and every port of a group whose slot count changes. -/
def portsFit (s : State) (ps : List (Nat × Word)) : Bool :=
  let given (a : Nat) : Option Word := (ps.reverse.find? fun x => x.1 == a).map (·.2)
  let val (a : Nat) : Word := (given a).getD (rget s a)
  (List.range 4).all fun g => (List.range 8).all fun m =>
    let c := val (aPORTG_GCFG g)
    !((given (aPORTG_PORT g m)).isSome || slotCount c != slotCount (gcfg s g)) || portFits s g c (val (aPORTG_PORT g m))

/-! ### Clients (R85) -/

def clientOf (s : State) (c : Nat) : ClientEnt := s.galley.clients.getD c ⟨false, 0, []⟩

/-- The table row after an accepted entry. -/
def clientTake (x : ClientEnt) (seq ticket : Word) : ClientEnt := ⟨true, seq, ((seq, ticket) :: x.hist).take 64⟩

/-- The row as the next check sees it: entries in flight count as accepted (R90). -/
def clientSeen (s : State) (c : Nat) : ClientEnt :=
  s.galley.inflight.foldl (fun x y =>
    match y.ev with
    | some ev => if ev.e.client = c ∧ ¬ y.noTable then clientTake x ev.e.w1 ev.ticket else x
    | none => x) (clientOf s c)

/-- Judge a sequence: 0 in order, else DUPLICATE with the original ticket, or GAP. -/
def judgeSeq (x : ClientEnt) (seq : Word) : Nat × Word :=
  if ¬ x.synced ∨ seq = x.seq + 1 then (0, 0)
  else if (x.seq - seq).toNat < 2 ^ 31 then
    (stDuplicate, match x.hist.find? (fun h => h.1 == seq) with | some h => h.2 | none => 0)
  else (stGap, 0)

/-! ### Targets of CANCEL and AFTER (R52, R96) -/

/-- A known ticket: opcode, client, and the outcome and frame once it has completed. -/
def knownTicket (s : State) (t : Word) : Option (Nat × Nat × Option (Nat × Nat)) :=
  match findEv t (openEvs s ++ flightEvs s) with
  | some e => some (e.e.opcode, e.e.client, none)
  | none =>
    match s.comp.done.find? (fun d => d.ticket == t) with
    | some d => some (d.opcode, d.client, some (d.outcome, d.frame))
    | none => none

/-! ### The checks (Table 03-5) -/

/-- Check 2. -/
def checkPrivilege (s : State) (lvl : Nat) (e : Entry) (p : List Word) : Bool :=
  let c := aGALLEY_CLIENTCFG e.client
  rbit s c 31 && decide (lvl ≤ rfld s c 29 28)
    && (decide (e.opcode = 0 ∨ 10 < e.opcode) || rbit s c e.opcode)
    && (e.opcode != opWriteParam || (pairsOf p).all fun x => !paramTarget x.1 || permits s lvl x.1 true)
    && (e.opcode != opCancel || match knownTicket s (p.getD 0 0) with
        | some (_, cl, _) => cl == e.client || lvl == 0
        | none => true)

/-- The trigger encoding of Table 02-1 (R46). -/
def trigOk (e : Entry) : Bool :=
  match e.axis with
  | 0 => e.w2 == 0 && e.w3 == 0
  | 1 | 2 => true
  | 3 | 4 => unsgn 64 (sgn 48 e.trig) == e.trig
  | 5 => e.w3 == 0
  | 6 => true
  | _ => false

/-- Check 3. -/
def checkSyntax (s : State) (e : Entry) (p : List Word) : Bool :=
  decide (e.cls ≤ 2) && decide (bits e.w0 11 10 = 0) && trigOk e && lenOk e.opcode e.len
    && (if e.ptr then ptrOk e else decide (e.len ≤ 4))
    && (match e.opcode with
        | 1 => (pairsOf p).all (pairOk s) && portsFit s (pairsOf p)
        | 3 => decide (bits (p.getD 0 0) 31 30 = 0 ∧ bits (p.getD 0 0) 23 10 = 0) && (rampLen (bits (p.getD 0 0) 29 24)).isSome
        | 4 => playSyntax s p
        | 5 => decide (bits (p.getD 0 0) 31 8 = 0)
        | 6 => segSyntax s p
        | 7 => (zcKey (p.getD 0 0)).isSome && decide (bits (p.getD 1 0) 31 24 ≠ 0)
        | 8 => decide (bits (p.getD 0 0) 7 4 = 0)
        | 10 => (match knownTicket s (p.getD 0 0) with | some (op, _) => op != opCancel | none => true)
        | _ => true)

/-- Check 6. -/
def checkHorizon (s : State) (e : Entry) (p : List Word) : Bool :=
  (if e.axis = 6 then decide (e.w3.toNat < 2 ^ 30) && (knownTicket s e.w2).isSome
   else !outOfHorizon s e (s.tb.frame + 1))
    && (e.opcode != opCancel || (knownTicket s (p.getD 0 0)).isSome)

/-- Due frame of a MEDIA event: its own, or the frame that its trigger names. -/
def mediaDue (s : State) (e : Ev) : Int :=
  match e.due with | some d => (d : Int) | none => (s.tb.frame : Int) - axisD s e.e s.tb.frame

/-- Check 7. -/
def checkResource (s : State) (e : Entry) (p : List Word) (ev : Ev) : Bool :=
  let imm := e.opcode == opCancel && e.axis == 0
  (imm || decide ((allPending s).length < 8192))
    && (e.axis != 1 || decide (((allPending s).filter fun x => x.e.axis == 1 && mediaDue s x == mediaDue s ev).length < 64))
    && (!e.ptr || decide (s.galley.heapUsed + e.len ≤ 6144))
    && (match e.opcode with
        | 1 => (pairsOf p).all fun x =>
            let pg := pageOf x.1
            !(isPageAddr x.1 && decide (0x20 ≤ pg ∧ pg ≤ 0x2F) && x.1 == aCTRL pg && bit x.2 0
              && !(s.press[Fin.ofNat 16 (pg - 0x20)].mirrorQ.isEmpty))
        | 2 => s.basin.mirrorQ.isEmpty
        | 4 => !(s.cistern.st == .lost)
        | 6 => segRoom s p
        | 8 =>
            let q := s.press[Fin.ofNat 16 (bits (p.getD 0 0) 3 0)]
            !(q.mode == .halted && !(heldMsgs q).isEmpty)
        | _ => true)

/-- The event that an entry becomes when it is journaled at time `t` (R49, R50, R52, R90). -/
def eventOf (s : State) (e : Entry) (p : List Word) (ticket : Word) (t : Nat) : Ev :=
  let f0 := firstFrame s t (if e.axis = 0 then immMarginPs else marginPs)
  let base : Ev := { ticket := ticket, e := e, payload := p, f0 := f0, due := none, passed := false, depDead := false, land := 0, out := none }
  match e.axis with
  | 0 => { base with due := some f0 }
  | 6 =>
    match knownTicket s e.w2 with
    | some (_, _, some (o, c)) =>
      if o = outCancelled ∨ o = outDropped ∨ o = outDepCancelled then { base with due := some f0, depDead := true }
      else
        let d := c + 1 + e.w3.toNat
        if d < f0 then { base with due := some f0, passed := true } else { base with due := some d }
    | _ => base
  | _ => judgeNew s (f0 - 1) base

/-- The higher of two tickets (R91). -/
def laterTicket (a b : Word) : Word := if (a - b).toInt < 0 then b else a

/-- The next ticket (R91). -/
def nextTicket (s : State) : Word := let t := rget s aGALLEY_TICKET_LAST + 1; if t = 0 then 1 else t

/-- All checks in order: status, ticket of a DUPLICATE, and the event of an acceptance. -/
def galleyCheck (s : State) (lvl : Nat) (e : Entry) (t : Nat) : Nat × Word × Option Ev :=
  let p := if e.ptr ∧ ¬ ptrOk e then [] else payloadOf s e
  let ev := eventOf s e p (nextTicket s) t
  let q := judgeSeq (clientSeen s e.client) e.w1
  if ¬ activeOrSolo s then (stNotActive, 0, none)
  else if ¬ checkPrivilege s lvl e p then (stPrivilege, 0, none)
  else if ¬ checkSyntax s e p then (stSyntax, 0, none)
  else if q.1 ≠ 0 then (q.1, q.2, none)
  else if ¬ checkHorizon s e p then (stHorizon, 0, none)
  else if ¬ checkResource s e p ev then (stResource, 0, none)
  else if (flightEvs s).length ≥ 64 then (stFull, 0, none)
  else (stAccepted, ev.ticket, some ev)

/-! ### Acceptance (R82, R90 to R94) -/

/-- What acceptance fixes beside the queue: heap, tracks, the Forme lock. -/
def acceptSide (ev : Ev) (s : State) : State :=
  let s1 := setGalley { s.galley with heapUsed := s.galley.heapUsed + heapOf ev } s
  match ev.e.opcode with
  | 2 => { s1 with basin := { s1.basin with lock := true } }
  | 6 => segAccept ev.ticket ev.payload s1
  | _ => s1

/-- The journal holds the event (R90 step 2). TICKET_LAST is the highest ticket that it has held (R91). -/
def journal (ev : Ev) (s : State) : State :=
  acceptSide ev (rset aGALLEY_TICKET_LAST (laterTicket (rget s aGALLEY_TICKET_LAST) ev.ticket) s)

/-- The ticket series goes on from the highest ticket of the journal (R91). -/
def resumeTickets (s : State) : State :=
  let l := (openEvs s ++ flightEvs s).map (·.ticket) ++ s.comp.done.map (·.ticket)
  rset aGALLEY_TICKET_LAST (l.foldl laterTicket (rget s aGALLEY_TICKET_LAST)) s

/-- R90 step 4: client table and Compositor. An IMM CANCEL is applied at acceptance and never pending (R62). -/
def handOver (ev : Ev) (noTable : Bool) (s : State) : State :=
  let c := ev.e.client
  let s1 := if noTable then s else
    setGalley { s.galley with clients := s.galley.clients.set c (clientTake (clientOf s c) ev.e.w1 ev.ticket) } s
  if ev.e.opcode = opCancel ∧ ev.e.axis = 0 then applyImmCancel ev s1 else enqueue ev s1

/-- An action is over (R437): its outcome in ACT_LAST and ACT_TICKET, or the drop. -/
def actionDone (i status : Nat) (ticket : Word) (s : State) : State :=
  let s1 := rset aSENSE_ACT_LAST (fld status 24 ||| fld i 0) s
  if status = stAccepted then cnt aGALLEY_ACC_CNT (rset aSENSE_ACT_TICKET ticket (cnt aSENSE_ACT_CNT s1))
  else cnt aGALLEY_REF_CNT (errcap pgSENSE 2 i (iset pgSENSE 4 (cnt aSENSE_ACT_REF_CNT s1)))

/-- Write a response (R82). LAT_MAX takes the latency of an ACCEPTED response alone, in whole units of 10 ns, from the later of
the two events of R94, and saturates at its 16 bits (DESIGN CHOICE, log entry 75: Table 03-10 says "longest acceptance latency"). -/
def respond (x : Taken) (s : State) : State :=
  let a := respRing + 8 * (x.count % 4096)
  let s1 := stWords a [x.ticket, fld x.count 16 ||| fld x.status 0] s
  let s2 := iset pgGALLEY 0 (rput aGALLEY_RESP 15 0 ((x.count + 1) % 65536) s1)
  let lat := (s2.now - max x.sub s2.galley.lastResp) / 10000
  let s3 := if x.status = stAccepted then
      peak aGALLEY_LAT_MAX (min lat 0xFFFF) (cnt aGALLEY_ACC_CNT s2)
    else cnt aGALLEY_REF_CNT (if x.status = stDuplicate then cnt aGALLEY_DUP_CNT s2 else iset pgGALLEY 1 s2)
  let s4 := if x.status = stFull then iset pgGALLEY 3 s3 else s3
  setGalley { s4.galley with lastResp := s4.now } s4

/-- Answer a taken entry: its response, or for an action its outcome. -/
def answer (x : Taken) (s : State) : State :=
  match x.act with
  | some i => actionDone i x.status x.ticket s
  | none => respond x s

/-- Complete a taken entry. -/
def settleTaken (x : Taken) (s : State) : State :=
  match x.ev with
  | some ev => answer x (handOver ev x.noTable s)
  | none => answer x s

/-- Refusals at the front of the flight answer at once: nothing before them waits. -/
def flushRefused : List Taken → State → State
  | [], s => setGalley { s.galley with inflight := [] } s
  | x :: t, s =>
    if x.ev.isSome then setGalley { s.galley with inflight := x :: t } s
    else flushRefused t (respond x s)

/-- Complete the whole flight under the solo guarantee (R93). -/
def flushAll (s : State) : State :=
  s.galley.inflight.foldl (fun s _ =>
    match s.galley.inflight with
    | x :: rest => settleTaken x (setGalley { s.galley with inflight := rest } s)
    | [] => s) s

/-- The entry in ring slot `k`. -/
def slotEntry (s : State) (k : Nat) : Entry :=
  let a := galleyRing + 32 * (k % 4096)
  ⟨rdWord s a, rdWord s (a + 4), rdWord s (a + 8), rdWord s (a + 12), rdWord s (a + 16), rdWord s (a + 20), rdWord s (a + 24),
    rdWord s (a + 28)⟩

/-- An uncorrectable error that the Galley logic meets in bank 2 loses the Galley where no STANDBY_HOT partner keeps it (R416,
Table 14-6). -/
def galleyUe (s : State) : State :=
  if partnerHot s then s else alarm 5 (setGalley { s.galley with lost := true } s)

/-- Read the words of a slot with their codes. -/
def slotCheck (k : Nat) (s : State) : State × Bool :=
  if s.fab.flips.isEmpty then (s, false)
  else (List.range 8).foldl (fun (a : State × Bool) i =>
    let r := eccRead (galleyRing + 32 * (k % 4096) + 4 * i) a.1
    (r.1, a.2 || r.2)) (s, false)

/-- Read the words of a payload buffer with their codes (R416). -/
def payloadRead (e : Entry) (s : State) : State :=
  if s.fab.flips.isEmpty ∨ ¬ e.ptr ∨ ¬ ptrOk e then s
  else (List.range e.len).foldl (fun s i => (dmaRead (e.w4.toNat + 4 * i) s).2) s

/-- Take one entry at level `lvl`, submitted at `sub`, as count `count` (R82, R83, R90). -/
def takeEntry (count lvl sub : Nat) (e : Entry) (s : State) : State :=
  let r := galleyCheck s lvl e s.now
  let x : Taken := { count := count, t := s.now, sub := sub, ev := r.2.2, noTable := false, status := r.1, ticket := r.2.1, act := none }
  match r.2.2 with
  | some ev =>
    let s1 := journal ev s
    if replicates s then sendCell 4 (.slot ev) (setGalley { s1.galley with inflight := s1.galley.inflight ++ [x] } s1)
    else settleTaken x s1
  | none => if s.galley.inflight.isEmpty then respond x s else setGalley { s.galley with inflight := s.galley.inflight ++ [x] } s

/-- ENTRY_CHECK (R82, R83): the device takes the next entry of the ring. -/
def entryCheck (t : Nat) (s : State) : State :=
  let s := advance t s
  let cons := rfld s aGALLEY_CONS 15 0
  if ¬ galleyRuns s ∨ cons = rfld s aGALLEY_PROD 15 0 then s
  else
    let u := slotCheck cons s
    let s := u.1
    if u.2 then galleyUe s
    else
      let sub := s.galley.subs.headD (3, s.now)
      let s1 := rput aGALLEY_CONS 15 0 ((cons + 1) % 65536) (setGalley { s.galley with subs := s.galley.subs.drop 1 } s)
      let e := slotEntry s cons
      payloadRead e (takeEntry cons sub.1 sub.2 e s1)

/-- REPL_ACK (R90, R94): the standby has acknowledged the oldest slot that waits. -/
def replAck (ticket : Word) (t : Nat) (s : State) : State :=
  let s := advance t s
  match s.galley.inflight with
  | x :: rest =>
    match x.ev with
    | some ev =>
      if ev.ticket = ticket then
        let s1 := settleTaken x (setGalley { s.galley with inflight := rest } s)
        flushRefused s1.galley.inflight s1
      else s
    | none => s
  | [] => s

/-- REPL_TIMEOUT (R93): no acknowledgement within 2 µs. -/
def replTimeout (t : Nat) (s : State) : State :=
  let s := advance t s
  match s.galley.inflight with
  | x :: _ =>
    if isActive s ∧ x.ev.isSome ∧ s.now ≥ x.t + 2000000 then flushAll (partnerLost (errcap pgGALLEY 4 0 (iset pgGALLEY 4 s))) else s
  | [] => s

/-! ### Host writes (R79 to R81, R89) -/

/-- Is a PROD write refused (R79)? -/
def prodRefused (s : State) (v : Nat) : Bool :=
  let resp := rfld s aGALLEY_RESP 15 0
  let d (n : Nat) : Nat := (n + 65536 - resp) % 65536
  decide (d v > 4096 ∨ d v < d (rfld s aGALLEY_PROD 15 0))

/-- A PROD write has been stored: its entries take its level (R81). -/
def prodWritten (lvl : Fin 4) (old new : Nat) (s : State) : State :=
  let n := (new + 65536 - old) % 65536
  setGalley { s.galley with subs := s.galley.subs ++ List.replicate n (lvl, s.now) } s

/-- Is a host write to a bank 2 address refused (R75, R80)? -/
def bank2Refused (s : State) (a : Nat) : Bool :=
  if a ≥ respRing then true
  else
    let slot := (a - galleyRing) / 32
    let resp := rfld s aGALLEY_RESP 15 0
    let n := (rfld s aGALLEY_PROD 15 0 + 65536 - resp) % 65536
    decide ((slot + 4096 - resp % 4096) % 4096 < n)

/-- CLIENT_RST (R89, R92): SYNCED clears; entries in flight leave the table alone. -/
def clientReset (mask : Nat) (s : State) : State :=
  let clear (i : Nat) (x : ClientEnt) : ClientEnt := if mask.testBit i then ⟨false, x.seq, []⟩ else x
  let mark (x : Taken) : Taken :=
    match x.ev with | some ev => if mask.testBit ev.e.client then { x with noTable := true } else x | none => x
  setGalley { s.galley with clients := s.galley.clients.mapIdx clear, inflight := s.galley.inflight.map mark } s

def clientRstWrite (mask : Nat) (s : State) : State :=
  let s1 := clientReset mask s
  if replicates s then sendCell 4 (.clientRst mask) s1 else s1

/-! ### The standby's side (R92) -/

/-- A replicated slot: the standby journals it under its ticket, updates its table and acknowledges. -/
def standbySlot (ev : Ev) (s : State) : State := sendCell 4 (.ack ev.ticket) (handOver ev false (journal ev s))

/-! ### Restore (R102) -/

/-- A warm reset with retention: entries without a response are void. -/
def warmRestore (s : State) : State :=
  let resp := rfld s aGALLEY_RESP 15 0
  rput aGALLEY_PROD 15 0 resp (rput aGALLEY_CONS 15 0 resp (setGalley { s.galley with subs := [], inflight := [] } s))

end Sys2Proof.Machine
end

