-- ==== Sys2Proof/Machine/Sense.lean ====
section
/-!
DEFINITION. The sense unit: classes, debounced states, events, the event ring and actions (15_sense_detection.md R428 to
R437).
-/

namespace Sys2Proof.Machine

def setSense (x : SenseSt) (s : State) : State := { s with sense := x }
def setSenseIn (n : Fin 8) (x : SenseIn) (s : State) : State := setSense { s.sense with ins := s.sense.ins.set n x } s

/-! ### Classes (R428, R429) -/

/-- The class of a band entry; `none` for an unused entry. -/
def bandClass (w : Word) : Option SenseClass :=
  match bits w 7 4 with
  | 1 => some .absent
  | 2 => some (.present (bits w 3 2) (bits w 1 0))
  | 3 => some .low
  | 4 => some .high
  | _ => none

/-- The first entry that holds the level, and its class. -/
def classify (s : State) (level : Nat) : Option (Nat × SenseClass) :=
  (List.range 16).findSome? fun i =>
    let w := rget s (aSENSE_BAND i)
    if bits w 31 20 ≤ level ∧ level ≤ bits w 19 8 then (bandClass w).map fun c => (i, c) else none

/-- An input runs (R428, CTRL.EN). -/
def senseRuns (s : State) (n : Nat) : Bool := enOf s pgSENSE && rbit s aSENSE_CFG n

/-! ### Events (R430 to R432) -/

def seData (acc btn : Nat) : Nat := 4 * acc + btn

/-- Events that leave an accessory. -/
def leaveEvents (acc btn : Nat) : List (Nat × Nat) := (if btn = 0 then [] else [(4, seData acc btn)]) ++ [(2, seData acc 0)]

/-- Events that arrive at a class. -/
def arriveEvents (c : SenseClass) : List (Nat × Nat) :=
  match c with
  | .present acc btn => (1, seData acc 0) :: (if btn = 0 then [] else [(3, seData acc btn)])
  | .low => [(8, 1)]
  | .high => [(8, 2)]
  | _ => []

/-- Table 15-2: the events that lead from one debounced state to another. -/
def leadEvents (old new : SenseClass) : List (Nat × Nat) :=
  if old = new then []
  else
    match old, new with
    | .present a b, .present a' c =>
      if a = a' then (if b = 0 then [] else [(4, seData a b)]) ++ (if c = 0 then [] else [(3, seData a c)])
      else leaveEvents a b ++ arriveEvents new
    | .present a b, c => leaveEvents a b ++ arriveEvents c
    | _, c => arriveEvents c

/-- A change of debounced state as it is reported: events, the state reported, STUCK (R431). -/
def reportChange (stuck : Bool) (rep new : SenseClass) : List (Nat × Nat) × SenseClass × Bool :=
  if stuck then
    match rep, new with
    | .present a _, .present a' c =>
      if a = a' then (if c = 0 then ([(7, 0)], new, false) else ([], rep, true))
      else ((7, 0) :: leadEvents rep new, new, false)
    | _, _ => ((7, 0) :: leadEvents rep new, new, false)
  else (leadEvents rep new, new, false)

/-- This twin's own events of input `n` count (R436). -/
def ownSense (s : State) (n : Nat) : Bool := !s.twin.paired || rbit s aSENSE_CFG (8 + n) == twinId s

/-- Queue one event of an input (R433). -/
def queueEvent (n : Fin 8) (e : Nat × Nat) (s : State) : State :=
  let x := s.sense.ins[n]
  let s1 := if e.1 = 8 then iset pgSENSE 1 s else s
  if ¬ ownSense s n then s1
  else if x.queue.length ≥ 4 then iset pgSENSE 3 (cnt aSENSE_RATE_DROP_CNT (setSenseIn n { x with lost := true } s1))
  else setSenseIn n { x with queue := x.queue ++ [⟨e.1, e.2, s.tb.frame⟩] } s1

/-- Report the present debounced state. -/
def reportNow (n : Fin 8) (pre : List (Nat × Nat)) (s : State) : State :=
  let x := s.sense.ins[n]
  let r := reportChange x.stuck x.rep x.deb
  let x1 := { x with
    rep := r.2.1
    stuck := r.2.2
    downT := if r.1.any (fun e => e.1 == 3) then some s.now
             else match r.2.1 with | .present _ (_ + 1) => x.downT | _ => none }
  (pre ++ r.1).foldl (fun s e => queueEvent n e s) (setSenseIn n x1 s)

/-- The button of a reported state, with its accessory. -/
def buttonOf (c : SenseClass) : Option (Nat × Nat) :=
  match c with | .present a (b + 1) => some (a, b + 1) | _ => none

/-- A reported state with its button up. -/
def buttonUp (c : SenseClass) : SenseClass := match c with | .present a _ => .present a 0 | c => c

/-- CHATTER latches (R432): BTN_UP for a button that is down, then CHATTER; the reported state holds. -/
def latchChatter (n : Fin 8) (s : State) : State :=
  let x := s.sense.ins[n]
  let ups := match buttonOf x.rep with | some b => [(4, seData b.1 b.2)] | none => []
  (ups ++ [(6, 0)]).foldl (fun s e => queueEvent n e s)
    (setSenseIn n { x with chatter := true, rep := buttonUp x.rep, downT := none } s)

/-- The debounced state changes. -/
def debounced (n : Fin 8) (c : SenseClass) (s : State) : State :=
  let x := s.sense.ins[n]
  let ch := s.now :: x.changes.filter (fun u => decide (s.now < u + secPs))
  let s1 := setSenseIn n { x with deb := c, changes := ch } s
  if x.chatter then s1
  else if ch.length > zeroIs1 (rfld s (aSENSE_INCFG n) 15 8) then latchChatter n s1
  else reportNow n [] s1

/-- SENSE_CLASSIFY (R428, R430): the mean of a 1 ms period. -/
def senseClassify (n : Fin 8) (level : Nat) (t : Nat) (s : State) : State :=
  let s := advance t s
  if ¬ senseRuns s n then s
  else
    let r := classify s level
    let cls := match r with | some c => c.2 | none => .unknown
    let s1 := rset (aSENSE_LEVEL n) (flg r.isSome 20 ||| fld (match r with | some c => c.1 | none => 0) 16 ||| fld level 0) s
    let x := s1.sense.ins[n]
    let run := if x.cls = cls then x.run + 1 else 1
    let s2 := setSenseIn n { x with cls := cls, run := run } s1
    if cls ≠ .unknown ∧ cls ≠ x.deb ∧ run ≥ zeroIs1 (rfld s (aSENSE_INCFG n) 31 24) then debounced n cls s2 else s2

/-- SENSE_STUCK (R431). -/
def senseStuck (n : Fin 8) (s : State) : State :=
  let x := s.sense.ins[n]
  match buttonOf x.rep, x.downT with
  | some b, some t =>
    if senseRuns s n ∧ ¬ x.stuck ∧ ¬ x.chatter ∧ s.now ≥ t + zeroIs1 (rfld s (aSENSE_INCFG n) 23 16) * 100 * msPs then
      queueEvent n (5, seData b.1 b.2) (setSenseIn n { x with stuck := true, rep := buttonUp x.rep, downT := none } s)
    else s
  | _, _ => s

/-- SENSE_QUIET (R432): RELEASE, then what leads from the held state to the present one. -/
def senseQuiet (n : Fin 8) (s : State) : State :=
  let x := s.sense.ins[n]
  if senseRuns s n ∧ x.chatter ∧ x.run > zeroIs1 (rfld s (aSENSE_INCFG n) 7 0) * 100 then
    reportNow n [(7, 0)] (setSenseIn n { x with chatter := false } s)
  else s

/-! ### Actions (R437) -/

/-- The Galley entry of an action, as submitted. -/
def actionEntry (s : State) (i : Nat) : Entry :=
  let a (k : Nat) : Word := rget s (aSENSE_ACTION i + 4 * k)
  let c := rfld s aSENSE_ACTCFG 23 20
  ⟨setBits (setBits (a 0) 23 20 c) 19 16 0, (clientSeen s c).seq + 1, 0, 0, a 4, a 5, a 6, a 7⟩

/-- Submit the action of ACTMAP entry `i`; `first` is when it was first refused GALLEY_FULL. -/
def submitAction (i : Nat) (first : Option Nat) (s : State) : State :=
  if first.isNone ∧ (¬ galleyReady s ∨ ¬ rbit s aSENSE_ACTCFG 31) then s
  else if ¬ galleyRuns s then setSense { s.sense with retries := s.sense.retries ++ [(i, first.getD s.now)] } s
  else
    let e := actionEntry s i
    let s := payloadRead e s
    let r := galleyCheck s (rfld s aSENSE_ACTCFG 29 28) e s.now
    let x : Taken := { count := 0, t := s.now, sub := s.now, ev := r.2.2, noTable := false, status := r.1, ticket := r.2.1, act := some i }
    match r.2.2 with
    | some ev =>
      let s1 := journal ev s
      if replicates s then sendCell 4 (.slot ev) (setGalley { s1.galley with inflight := s1.galley.inflight ++ [x] } s1)
      else settleTaken x s1
    | none =>
      if r.1 = stFull then
        setSense { s.sense with retries := s.sense.retries ++ [(i, first.getD s.now)] }
          (rset aSENSE_ACT_LAST (fld stFull 24 ||| fld i 0) s)
      else actionDone i r.1 0 s

/-- Try the refused actions again: the Galley has room. -/
def retryActions (s : State) : State :=
  s.sense.retries.foldl (fun s r => submitAction r.1 (some r.2) s) (setSense { s.sense with retries := [] } s)

/-- ACTION_RETRY_EXPIRE (R437): actions refused GALLEY_FULL for 10 ms are dropped. -/
def actionRetryExpire (s : State) : State :=
  let old (r : Nat × Nat) : Bool := decide (s.now ≥ r.2 + 10 * msPs)
  (s.sense.retries.filter old).foldl (fun s r => actionDone r.1 stFull 0 s)
    (setSense { s.sense with retries := s.sense.retries.filter fun r => !old r } s)

/-- Does ACTMAP entry `m` match the record word? -/
def actMatches (m w0 : Word) : Bool :=
  let mask := bits m 15 12
  bit m 31 && bit m 30 == bit w0 31 && (!bit m 30 || bits m 27 16 == bits w0 27 16) && bits m 11 8 == bits w0 11 8
    && bits m 7 4 == bits w0 7 4 && (bits m 3 0 &&& mask) == (bits w0 3 0 &&& mask)

/-- Write a record to the event ring (R434), and submit what it matches. -/
def writeRecord (w0 w1 : Word) (s : State) : State :=
  let prod := rfld s aSENSE_EVT_PROD 15 0
  let full := (prod + 65536 - rfld s aSENSE_EVT_CONS 15 0) % 65536 ≥ 64
  let a := aSENSE_EVT (prod % 64)
  let s1 := iset pgSENSE 0 (rput aSENSE_EVT_PROD 15 0 ((prod + 1) % 65536) (rset (a + 4) w1 (rset a w0 s)))
  let s2 := if full then cnt aSENSE_EVT_LOST s1 else s1
  ((List.range 16).filter fun i => actMatches (rget s (aSENSE_ACTMAP i)) w0).foldl (fun s i => submitAction i none s) s2

/-! ### Delivery (R433 to R436) -/

/-- SENSE_EVENT_DELIVER. -/
def senseDeliver (n : Fin 8) (t : Nat) (s : State) : State :=
  let s := advance t s
  let x := s.sense.ins[n]
  let due : Bool := match x.sentT with | some u => decide (s.now ≥ u + 10 * msPs) | none => true
  match x.queue with
  | [] => s
  | e :: q =>
    if ¬ due ∨ ¬ enOf s pgSENSE then s
    else
      let w0 := flg x.lost 30 ||| fld (nodeId s) 16 ||| fld n.val 8 ||| fld e.event 4 ||| fld e.data 0
      let s1 := setSenseIn n { x with queue := q, lost := false, sentT := some s.now } s
      let s2 := if s.twin.paired then sendCell 8 (.sense w0 (lo32 e.frame)) s1 else s1
      writeRecord w0 (lo32 e.frame) s2

/-- An event of the partner's authoritative input (R436). -/
def partnerSense (w0 w1 : Word) (s : State) : State :=
  if enOf s pgSENSE ∧ bits w0 11 8 < 8 ∧ ¬ ownSense s (bits w0 11 8) then writeRecord w0 w1 s else s

/-- Records in pairs of words. -/
def recordPairs : List Word → List (Word × Word)
  | a :: b :: t => (a, b) :: recordPairs t
  | _ => []

/-- SENSE_EVT (R435). -/
def senseEvt (m : MgmtPkt) (s : State) : State :=
  let r := mgmtAccept m s
  let src := bits m.h0 15 4
  if ¬ r.2 ∨ ¬ enOf s pgSENSE then r.1
  else
    let body := (mgmtBody m).getD []
    if body.length % 2 = 1 ∨ body.length > 32 then errcap pgSENSE 1 src (iset pgSENSE 2 r.1)
    else (recordPairs body).foldl (fun s w => writeRecord (flg true 31 ||| setBits (w.1 &&& 0x7FFFFFFF#32) 27 16 src) (lo32 s.tb.frame) s) r.1

/-- The reported state as the Proof window shows it (R438). -/
def senseWord (s : State) (n : Fin 8) : Word :=
  let x := s.sense.ins[n]
  let base := flg x.stuck 26 ||| flg x.chatter 25 ||| fld (rfld s (aSENSE_LEVEL n) 11 0) 0
  match x.rep with
  | .present a b => base ||| flg true 31 ||| fld a 29 ||| fld b 27
  | .low | .high => base ||| flg true 24
  | _ => base

end Sys2Proof.Machine
end

