-- ==== Sys2Proof/Machine/Twin.lean ====
section
/-!
DEFINITION. The pair: Quoin and arbiter, cells, output comparison, partner loss and rejoin (12_twin_failover.md R338 to R368).
-/

namespace Sys2Proof.Machine

def setTwinSt (t : TwinSt) (s : State) : State := { s with twin := t }
def setArb (a : ArbSt) (s : State) : State := { s with arb := a }

/-! ### The Quoin (R343, R346) -/

/-- The lease length: L × Tf + 0.2 µs, in ps. -/
def leaseLen (s : State) : Nat := s.twin.leaseL * 10 ^ 12 / fs s + 200000

/-- The window of R354: (L + 1) Tf + 1.4 µs, in ps. -/
def takeWindow (s : State) : Nat := (s.twin.leaseL + 1) * 10 ^ 12 / fs s + 1400000

/-- The lease starts and the outputs are driven. -/
def takeOutputs (s : State) : State :=
  takeOverFlows (takeWindow s)
    (setTwinSt { s.twin with drive := true, lease := some (s.now + leaseLen s), grantWait := none } s)

/-- A HOT device or a candidate takes the grant (R346, R353). -/
def becomeActive (s : State) : State :=
  let hot := s.twin.st == .standbyHot
  let s1 := iset pgTWIN 2 (setTwin .active (cnt aARB_GRANT_CNT s))
  let s2 := if hot then cnt aTWIN_FAILOVER_CNT s1 else s1
  let s3 := setTwinSt { s2.twin with lossHold := none, release := none } s2
  let s3 := resumeTickets s3
  if s3.now < s3.twin.pDeadline then iset pgTWIN 8 (setTwinSt { s3.twin with grantWait := some s3.twin.pDeadline } s3)
  else takeOutputs s3

/-- The filtered grant counts as asserted from now. -/
def grantRises (s : State) : State :=
  if s.twin.paired ∧ (s.twin.st = .standbyHot ∨ candidate s) then becomeActive s else s

/-- The filtered grant counts as deasserted from now (R344): withdrawn. -/
def grantFalls (s : State) : State := if isActive s then enterFenced s else s

/-- A filtered transition: the recent ones, and CHATTER (R345). -/
def arbTransition (level : Bool) (s : State) : State :=
  let tr := s.now :: s.arb.trans.filter (fun u => decide (s.now < u + secPs))
  let s1 := setArb { s.arb with pin := level, filt := level, trans := tr } s
  if tr.length > zeroIs1 (rfld s aARB_CHATTER_CFG 31 16) ∧ ¬ s.arb.chatter then
    grantFalls (iset pgARB 3 (setArb { s1.arb with chatter := true } s1))
  else s1

/-- An edge at the ARB_GRANT ball, whose level then lasts `phase` ps, passes the glitch filter and changes the filtered level (R345). -/
def arbPasses (s : State) (level : Bool) (phase : Nat) : Bool :=
  decide (clampN 1 8 (rfld s aARB_CFG 7 0) * 40000 ≤ phase) && s.arb.filt != level

/-- ARB_GRANT_RISE (R345, R346). -/
def arbGrantRise (t phase : Nat) (s : State) : State :=
  let s0 := advance t s
  if ¬ arbPasses s0 true phase then setArb { s0.arb with pin := true } s0
  else
  let s1 := iset pgARB 0 (arbTransition true s0)
  if grantSeen s1 then grantRises s1 else s1

/-- ARB_GRANT_FALL (R344, R345). -/
def arbGrantFall (t phase : Nat) (s : State) : State :=
  let s0 := advance t s
  if ¬ arbPasses s0 false phase then setArb { s0.arb with pin := false } s0
  else
  let s1 := iset pgARB 1 (arbTransition false s0)
  let s2 := if s1.arb.stuck then iset pgARB 2 (setArb { s1.arb with stuck := false } s1) else s1
  grantFalls s2

/-- GRANT_WAIT_END (R346). -/
def grantWaitEnd (t : Nat) (s : State) : State :=
  let s := advance t s
  match s.twin.grantWait with
  | some d => if isActive s ∧ s.now ≥ d then takeOutputs s else s
  | none => s

/-- ARB_CHATTER_QUIET (R345): no transition for QUIET ms. -/
def arbChatterQuiet (s : State) : State :=
  let last := s.arb.trans.headD 0
  if s.arb.chatter ∧ s.now ≥ last + zeroIs1 (rfld s aARB_CHATTER_CFG 15 0) * msPs then
    let s1 := iset pgARB 2 (setArb { s.arb with chatter := false } s)
    if grantSeen s1 then grantRises s1 else s1
  else s

/-- ARB_STUCK (R345): an assertion to a device that cannot take it. -/
def arbStuck (s : State) : State :=
  let last := s.arb.trans.headD 0
  if s.arb.filt ∧ ¬ s.arb.stuck ∧ ¬ s.arb.chatter ∧ s.twin.paired ∧ ¬ isActive s ∧ s.twin.st ≠ .standbyHot ∧ ¬ candidate s
      ∧ s.now ≥ last + zeroIs1 (rfld s aARB_STUCK_CFG 15 0) * msPs then
    iset pgARB 4 (setArb { s.arb with stuck := true } s)
  else s

/-- LEASE_EXPIRE (R343, R344): the state after it is the one that the pending release names; without one, the ticks have stopped. -/
def leaseExpire (t : Nat) (s : State) : State :=
  let s := advance t s
  match s.twin.lease with
  | none => s
  | some d =>
    if s.now < d then s
    else
      let s1 := iset pgARB 5 (cnt aARB_EXPIRE_CNT s)
      match s.twin.release with
      | some .handover => enterFenced s1
      | some (.fault c) => enterTwinFault c s1
      | none => enterTwinFault (if s.clk.lockM then 0 else 5) s1

/-- Renewal at a frame tick (R343). -/
def renewLease (s : State) : State :=
  if isActive s then
    if s.twin.drive ∧ grantSeen s ∧ s.twin.release = none then
      hbToggle (setTwinSt { s.twin with lease := some (s.now + leaseLen s) } s)
    else hbStatic s
  else if hbTogglesAtTick s then hbToggle s
  else hbStatic s

/-! ### Commands (R344, R361, R366) -/

/-- HANDOVER: refused without a STANDBY_HOT partner. -/
def handoverRefused (s : State) : Bool := !(isActive s && partnerHot s)

/-- The conditions of R361 beyond the device's own state. -/
def joinOk (s : State) : Bool :=
  s.twin.link && s.twin.pstate == 1 && s.clk.lockA && s.clk.lockD && s.clk.lockM && !cistDown s && !s.twin.cfgDiff

def rejoinRefused (s : State) : Bool := !((s.twin.st == .faulted || s.twin.st == .fenced) && s.twin.paired && joinOk s)

/-! ### The 4 KB regions of phase 1 (R362) -/

/-- The regions whose CRC-32s are exchanged, by address / 4096: the data-plane pages, the COMPOSITOR, GALLEY and TIMEBASE pages, the
program banks and both Formes. -/
def syncRegions : List Nat :=
  ((List.range 0x36).filter fun p => dataPlane p || p == pgCOMPOSITOR || p == pgGALLEY || p == pgTIMEBASE).map (0x10 + ·)
    ++ (List.range 16).flatMap (fun p => (List.range 16).map (0x400 + 0x80 * p + ·))
    ++ [0x1000, 0x1400].flatMap fun b => (List.range (ceilDiv formeSize 4096)).map (b + ·)

/-- The words of a region, and their CRC-32 as bytes, least significant first (R528). -/
def regionWords (s : State) (r : Nat) : List (Nat × Word) :=
  (List.range 1024).map fun i => let a := 4096 * r + 4 * i; (a, if isPageAddr a then rget s a else rdWord s a)
def regionCrc (s : State) (r : Nat) : Word := crc32 ((regionWords s r).flatMap fun x => leBytes 4 x.2.toNat)
def regionCrcs (s : State) : List (Nat × Word) := syncRegions.map fun r => (r, regionCrc s r)

/-- SYNCING begins at phase 1 (R362): the partner is told, and has the CRCs of the regions. -/
def startSync (s : State) : State :=
  let s1 := setTwin .syncing s
  sendCell 8 (.regions (regionCrcs s)) (sendCell 8 .rejoin (setTwinSt { s1.twin with
    phase := 1, fcause := 0, cut := 0, copyT := s1.now, fwdOwed := [], resent := [], moves := 0, diffs := [], pRegions := [], crcRun := 0
    storeEq := false, warmT := none } s1))

/-- FENCE on this device (R359): not when ACTIVE or SOLO. A FAULTED device stays so: it leaves by REJOIN alone (R44, Table 12-1; log
entry 30). -/
def fenceSelf (s : State) : State := if isActive s ∨ isSolo s ∨ s.twin.st = .faulted then s else enterFenced s

/-- CMD FENCE: an ACTIVE device sends its partner to FENCED, any other fences itself (log entry 30). -/
def fenceCmd (s : State) : State := if isActive s then sendCell 8 .fence s else fenceSelf s

/-- A CMD value: the error code when it is discarded, else what it does. -/
def twinCmd (v : Nat) (s : State) : Option Nat × State :=
  match v with
  | 1 => if rejoinRefused s then (some 1, s) else (none, startSync s)
  | 2 => if handoverRefused s then (some 1, s) else (none, requestRelease .handover s)
  | 3 => (none, fenceCmd s)
  | _ => (none, s)

/-- AUTO_JOIN (R361). -/
def autoJoin (s : State) : State :=
  if s.twin.st = .fenced ∧ s.twin.paired ∧ rbit s aTWIN_CFG 30 ∧ joinOk s then startSync s else s

/-- NEG_TIMEOUT (R342). -/
def negTimeout (s : State) : State :=
  if s.twin.paired ∧ s.twin.st = .fenced ∧ ¬ s.twin.link then setTwinSt { s.twin with negDone := true } s else s

/-! ### The link (R355) -/

/-- The partner is lost: an ACTIVE device also ends replication, and what waited for it is answered (R93, R359). -/
def losePartner (s : State) : State :=
  let s1 := partnerLost s
  if s.galley.inflight.isEmpty then s1 else flushAll s1

def laneChange (lanes : BitVec 2) (s : State) : State :=
  if s.twin.lanes = lanes then s else iset pgTWIN 7 (setTwinSt { s.twin with lanes := lanes } s)

/-- TRALIAT_LINK_UP: HELLO cells have been exchanged; negotiation begins. The link needs PLL-S. -/
def traliatLinkUp (lanes : BitVec 2) (s : State) : State :=
  if ¬ s.twin.paired ∨ ¬ s.clk.lockS ∨ lanes = 0 ∨ rbit s aCLKGEN_DOMGATE 6 then s
  else
    let s1 := laneChange lanes s
    let n : CellBody := .negotiate s.twin.paired (s.twin.leaseL - 1) (fs s) (rget s aSYS_CHIP_ID) (rfld s aSYS_STEPPING 7 0)
      (rget s aBOOT_IMG_CRC) (rfld s aBOOT_BADPRESS 15 0) s.twin.st.code
    sendCell 8 n (sendCell 8 .hello (setTwinSt { s1.twin with link := true, hello := true } s1))

/-- TRALIAT_LINK_DOWN. -/
def traliatLinkDown (s : State) : State :=
  if ¬ s.twin.link then s
  else
    let s1 := laneChange 0 s
    losePartner (cnt aTWIN_LINKDN_CNT (setTwinSt { s1.twin with link := false, hello := false } s1))

/-- TRALIAT_LANE_CHANGE. -/
def traliatLaneChange (lanes : BitVec 2) (s : State) : State :=
  if s.twin.link ∧ lanes ≠ 0 then laneChange lanes s else s

/-! ### Cells (R356) -/

/-- A received cell: while the link is up, one with a bad CRC is discarded and asked for again. The answer says whether its
content applies. -/
def cellIn (ch : Nat) (h : CellHdr) (s : State) : State × Bool :=
  if ¬ s.twin.link then (s, false)
  else if h.crcOk then (s, true)
  else
    let s1 := sendCell 8 (.nak ch h.seq.toNat) (cnt aTWIN_CELL_ERR_CNT s)
    (if ch = 6 then setTwinSt { s1.twin with fwdOwed := natPut h.seq.toNat s1.twin.fwdOwed } s1
     else if ch = 4 then setTwinSt { s1.twin with galOwed := natPut h.seq.toNat s1.twin.galOwed } s1 else s1, false)

/-- CELL_RESEND: the cell goes out again, when it is still held. -/
def cellResend (ch : Nat) (seq : Nat) (s : State) : State :=
  match s.twin.sent.find? (fun c => c.ch == ch && c.seq == seq) with
  | some c => if s.twin.link then cnt aTWIN_RETX_CNT (setTwinSt { s.twin with sent := (c :: s.twin.sent).take 256 } s) else s
  | none => s

/-- HEALTH_CELL (R350, R351, R357). -/
def healthCell (c : HealthCell) (s : State) : State :=
  let r := cellIn 1 c.h (advance c.t s)
  let s := r.1
  if ¬ r.2 then s
  else
    let was := s.twin.pstate
    let st := c.state.val
    let s1 := setTwinSt { s.twin with
      pstate := st, pDeadline := c.deadline, pHotT := if st = 2 then some s.now else none
      pCrc := ((c.frame, c.crc) :: s.twin.pCrc).take 8
      pCheck := match c.check with | some x => some x | none => s.twin.pCheck } s
    let s2 := if (was = 2 ∨ was = 3 ∨ was = 4) ∧ (st = 5 ∨ st = 6) ∧ isActive s then
        let y := alarm 8 (iset pgTWIN 6 s1)
        if y.galley.inflight.isEmpty then y else flushAll y
      else s1
    let s3 := if was ≠ 2 ∧ st = 2 ∧ cistDown s2 then requestRelease (.fault 6) s2 else s2
    if s3.twin.st = .syncing ∧ s3.twin.phase = 1 then { s3 with tb := { s3.tb with frame := c.frame + 1 } } else s3

/-- The sequences of a group as the active has them; where the standby's own frame has come since, that frame again on its own samples. -/
def seqsDecide (adv : Bool) (theirs own : List ChanSeq) : List ChanSeq :=
  if adv then theirs.map fun c => match (seqGet own c.key).prev with
    | some v => (seqStep c v).2
    | none => c
  else theirs

/-- The active's decisions for a group (R225): its state, PHI0 and assignment, slips and shifts, changes on their way and sequences. The
samples are the standby's own. A decision that differs from the standby's own state fails the self-check (R351). -/
def groupDecide (g : Fin 4) (y : GroupSt) (s : State) : State :=
  let x := grp s g
  let same := decide (x.st = y.st) && (y.st != .run || x.phi0 == y.phi0)
  let s0 := if same then s else markBad s
  let s1 := if x.st ≠ .run ∧ y.st = .run then enterRun g y.phi0 s0
    else if x.st = .run ∧ y.st ≠ .run then leaveRun g y.st s0
    else s0
  let adv := x.st == .run && y.st == .run && x.frames == y.frames + 1
  let n := if adv then 1 else 0
  let own := adv && decide (x.chg ≠ y.chg)
  let s2 := setGrp g { y with
    asg := y.asg + n, frames := y.frames + n, last := x.last, carried := x.carried, sdo := x.sdo
    seqs := if own then x.seqs else seqsDecide adv y.seqs x.seqs
    chg := if own then x.chg else y.chg, act := if own then x.act else y.act } s1
  if y.st = .run ∧ ¬ gcfgMode (gcfg s g) then rset (aPORTG_ALIGN g) (flg true 31 ||| flg (decide (y.phi0 < 32)) 30 ||| fld y.phi0 0) s2
  else if y.st = .run then s2
  else rput (aPORTG_ALIGN g) 31 30 0 s2

/-- The active's decisions for an AES3 receiver (R225, R226); samples, lock and transmitter are the standby's own. -/
def aesDecide (m : Fin 8) (y : Aes3St) (s : State) : State :=
  let x := s.ports.aes[m]
  let same := decide (x.qual ≥ 64) == decide (y.qual ≥ 64)
  let s := if same then s else markBad s
  setAes m { x with qual := y.qual, fade := y.fade, frames := y.frames, phi0 := y.phi0, shift := y.shift, ref := y.ref
                    rateBad := y.rateBad, rateFar := y.rateFar, glitches := y.glitches, faulted := y.faulted } s

/-- The position of a transmit flow on the active (R357), and of its flow clock (R232, R266). -/
def flowDecide (f start next made acc : Nat) (s : State) : State :=
  match s.net.tx.find? (fun x => x.f == f) with
  | none => s
  | some x =>
    let y := { x with start := start, next := next, buf := x.buf.filter fun r => decide (next ≤ r.1) }
    setTx (if eAsrc (flowEntry s true f) then { y with made := made, acc := acc } else y) s

/-- A cell that comes later than 2.0 µs after its boundary has missed its deadline (R351, R357). -/
def lateCell (t : Nat) (s : State) : State :=
  if t > s.tb.tickT + 2000000 then markBad s else s

/-- DEC_CELL (R68, R225, R232, R262, R315): the active's samples and decisions of a frame. -/
def decCell (x : DecCell) (s : State) : State :=
  let c := x.d
  let r := cellIn 2 x.h (advance x.t s)
  let s := if r.2 then lateCell x.t r.1 else r.1
  if ¬ r.2 ∨ ¬ usesDec s then s
  else
    -- the received position holds the run-on up to the boundary; the pulses counted since add to it (R68)
    let move : Int := ((s.tb.stamps.filter fun x => decide (x.1 > s.tb.tickT)).map (·.2)).sum
    let ran := runOnAt { s.tb with stamps := s.tb.stamps.filter fun x => decide (x.1 ≤ s.tb.tickT) } s.tb.tickT
    let t : TimebaseSt := { s.tb with
      ptpNow := c.ptp.toNat, posNow := c.pos, posEnd := c.posEnd, posEnd2 := c.posEnd2, cntNow := c.cnt.toNat, spdNow := c.speed
      est := if c.latches.getLsbD 5 then some (s.tb.tickT, c.pos) else none
      pos := c.pos - ran + move, cnt := (c.cnt.toNat + (s.tb.cnt + 2 ^ 32 - s.tb.cntNow) % 2 ^ 32) % 2 ^ 32, pend := c.pend
      stuckA := c.latches.getLsbD 0, stuckB := c.latches.getLsbD 1, chatter := c.latches.getLsbD 2
      cntStuck := c.latches.getLsbD 3, cntChatter := c.latches.getLsbD 4 }
    let wait := s.tb.selWait && decide (c.frame = s.tb.frame)
    let s1 := if c.frame = s.tb.frame then setTb { t with selWait := false } s else s
    let s2 := if wait then selectNow s1 else s1
    let s3 := c.aes.foldl (fun s d => aesDecide d.1 d.2 s) (c.groups.foldl (fun s d => groupDecide d.1 d.2 s) s2)
    let s4 := rset aASRC_LOCKSTAT (c.locks.setWidth 32) (c.ratios.foldl (fun s d =>
      let s := rset (aASRC_RATIO d.1) d.2.1 s
      { s with ports := { s.ports with readPos := alSet s.ports.readPos d.1 d.2.2 } }) s3)
    let s5 := c.used.foldl (fun s u => standbyUse u s) s4
    let s6 := c.flows.foldl (fun s d => flowDecide d.1 d.2.1 d.2.2.1 d.2.2.2.1 d.2.2.2.2 s) s5
    let at_ (ps : List (Option Nat)) (n k : Nat) : Option Nat := (ps.getD n none).map fun _ => c.frame + k
    { s6 with clk := { s6.clk with
        wclk := [at_ s6.clk.wclk 0 c.wclk0, at_ s6.clk.wclk 1 c.wclk1]
        pps := { s6.clk.pps with next := s6.clk.pps.next.map fun _ => c.frame + c.pps }
        bmark := { s6.clk.bmark with next := s6.clk.bmark.next.map fun _ => c.frame + c.bmark } } }

/-- MIRROR_CELL (R340): the samples of the frame before the present one; a later cell has missed its deadline. -/
def mirrorCell (c : MirrorCell) (s : State) : State :=
  let r := cellIn 3 c.h (advance c.t s)
  if ¬ r.2 ∨ c.frame + 1 ≠ r.1.tb.frame then r.1
  else
    let s := lateCell c.t r.1
    let add := c.samples.map fun x => (x.1.val, sgn 32 x.2.toNat)
    setTwinSt { s.twin with
      mirrorIn := add.foldl (fun l x => alSet l x.1 x.2) s.twin.mirrorIn
      mirrorCh := (s.twin.mirrorCh ++ add.map (·.1)).dedup } s

/-- What the GALLEY channel carries acts on a standby (R92). -/
def galleyMsg (m : GalleyMsg) (s : State) : State :=
  match m with
  | .slot ticket e payload f0 due passed dead =>
    standbySlot { ticket := ticket, e := e, payload := payload, f0 := f0, due := due, passed := passed, depDead := dead,
                  land := 0, out := none } s
  | .clientRst mask => clientReset mask.toNat s

/-- Cell sequence `a` comes before `b` on its channel (R356). -/
def seqBefore (a b : Nat) : Bool := decide ((BitVec.ofNat 16 a - BitVec.ofNat 16 b).toInt < 0)

/-- Cells in the order of their sequence. -/
def galPut (x : Nat × GalleyMsg) : List (Nat × GalleyMsg) → List (Nat × GalleyMsg)
  | [] => [x]
  | h :: t => if seqBefore x.1 h.1 then x :: h :: t else h :: galPut x t

/-- GALLEY_CELL (R92): a standby applies what it receives in the order in which it was sent, so a cell behind one that it has asked for
again waits for that one (log entry 94). -/
def galleyCell (c : GalleyCell) (s : State) : State :=
  let r := cellIn 4 c.h s
  let s := r.1
  if ¬ r.2 ∨ ¬ (s.twin.st = .standbyHot ∨ s.twin.st = .standbyWarm) then s
  else
    let owed := s.twin.galOwed.filter (· != c.h.seq.toNat)
    let held := galPut (c.h.seq.toNat, c.m) s.twin.galHeld
    let ready (x : Nat × GalleyMsg) : Bool := owed.all fun o => seqBefore x.1 o
    (held.filter ready).foldl (fun s x => galleyMsg x.2 s)
      (setTwinSt { s.twin with galOwed := owed, galHeld := held.filter fun x => !ready x } s)

/-- HEALTH_MISSING (R358). -/
def healthMissing (s : State) : State := if s.twin.link then losePartner s else s

/-- LOSS_HOLD_EXPIRE (R359). -/
def lossHoldExpire (s : State) : State :=
  match s.twin.lossHold with
  | some f => if s.twin.st = .standbyHot ∧ s.tb.frame ≥ f then enterFenced s else s
  | none => s

/-! ### Output comparison (R350 to R352) -/

def crcOf (l : List (Nat × Word)) (f : Nat) : Option Word := (l.find? fun x => x.1 == f).map (·.2)

/-- The output CRC of a frame: 1024 outputs, or 512 at 192 kHz, as 4 bytes each. -/
def outputCrc (s : State) (out : Samples) : Word :=
  crc32 ((List.range (limOut s)).flatMap fun o => leBytes 4 (i32 (smp out o)).toNat)

/-- The own self-check for a mismatch on frame `f` passes (R351). -/
def selfPass (s : State) (f : Nat) : Bool := !(s.twin.selfBad.any fun x => decide (f ≤ x + 3 ∧ x ≤ f))

/-- Compare the CRCs of frame `f` at the boundary that starts frame f + 2. -/
def crcCompare (f : Nat) (s : State) : State :=
  match crcOf s.twin.ownCrc f, crcOf s.twin.pCrc f with
  | some a, some b =>
    let s1 := rset aTWIN_CRC_FRAME (lo32 f) (rset aTWIN_CRC_PARTNER b (rset aTWIN_CRC_LOCAL a s))
    if s.twin.st = .standbyWarm then setTwinSt { s1.twin with crcRun := if a = b then s1.twin.crcRun + 1 else 0 } s1
    else if a ≠ b ∧ ((isActive s ∧ partnerHot s) ∨ (s.twin.st = .standbyHot ∧ s.twin.pstate = 1)) then
      iset pgTWIN 5 (cnt aTWIN_MISMATCH_CNT (setTwinSt { s1.twin with mism := some f, pCheck := none } s1))
    else s1
  | _, _ => s

/-- Table 12-4, at the boundary that starts frame f + 3. -/
def crcOutcome (next : Nat) (s : State) : State :=
  match s.twin.mism with
  | none => s
  | some f =>
    if next < f + 3 then s
    else
      let own := selfPass s f
      let other := s.twin.pCheck == some (f, true)
      let s1 := setTwinSt { s.twin with mism := none } s
      let s2 := if own && other then cnt aTWIN_UNRES_CNT s1 else s1
      if isActive s then (if !own && other then requestRelease (.fault 1) s2 else s2)
      else if own && other then standbyFault 2 s2
      else if own then s2
      else standbyFault 1 s2

/-! ### Rejoin (R362 to R365) -/

/-- Longest Cistern delay in use, in frames. -/
def delayMax (s : State) : Nat := (s.cistern.lines.map fun l => if bit l.e0 31 then bits l.e0 20 0 else 0).foldl max 0

/-- A rate change that lands during SYNCING: the copy begins again at phase 1 (R362). -/
def syncRestart (s : State) : State :=
  if s.twin.st = .syncing then setTwinSt { s.twin with phase := 1, diffs := [], pRegions := [], fwdOwed := [], resent := [], moves := 0 } s else s

/-- CUTOVER (R362, R363): frame c; a forwarded write still missing moves it one block later. -/
def cutover (s : State) : State :=
  if s.twin.st ≠ .syncing ∨ s.twin.phase ≠ 3 ∨ s.tb.frame < s.twin.cut then s
  else if ¬ s.twin.fwdOwed.isEmpty then
    if s.twin.moves ≥ 4 then enterTwinFault 8 s
    else
      let c := s.twin.cut + blockN s
      rset aTWIN_CUT_HI (hi32 c) (rset aTWIN_CUT_LO (lo32 c) (cnt aTWIN_RESTART_CNT
        (setTwinSt { s.twin with cut := c, moves := s.twin.moves + 1 } s)))
  else
    let s1 := iset pgTWIN 3 (setTwin .standbyWarm s)
    jetReown (setTwinSt { s1.twin with phase := 0, crcRun := 0, storeEq := false, warmT := none, dmax := delayMax s1 } s1)

/-- FWD_QUEUE_OVERFLOW (R363): the region is sent again; after four times the joiner gives up. -/
def fwdQueueOverflow (region : Nat) (s : State) : State :=
  if isActive s ∧ s.twin.pstate = 4 then cnt aTWIN_RESTART_CNT s
  else if s.twin.st = .syncing then
    let n := alGet 0 s.twin.resent region
    if n ≥ 4 then enterTwinFault 8 s
    else cnt aTWIN_RESTART_CNT (setTwinSt { s.twin with resent := alSet s.twin.resent region (n + 1) } s)
  else s

/-- The frame from which R365 lets a warm standby become hot. -/
def warmUntil (s : State) : Nat := s.twin.cut + max s.twin.dmax (delayMax s) + 2 * blockN s + 64

/-- STANDBY_HOT_PROMOTE (R365): `storeEq` is what the comparison of the Player store finds. -/
def standbyHotPromote (storeEq : Bool) (s : State) : State :=
  if s.twin.st ≠ .standbyWarm then s
  else
    let eq := s.twin.storeEq || storeEq
    let two := eq && decide (s.tb.frame ≥ warmUntil s)
    let s1 := setTwinSt { s.twin with storeEq := eq, warmT := if two then some (s.twin.warmT.getD s.now) else none } s
    if two && decide (s.twin.crcRun ≥ 64) then iset pgTWIN 4 (setTwin .standbyHot s1) else s1

/-- WARM_TIMEOUT (R365). -/
def warmTimeout (s : State) : State :=
  match s.twin.warmT with
  | some t => if s.twin.st = .standbyWarm ∧ s.twin.crcRun < 64 ∧ s.now ≥ t + secPs then enterTwinFault 2 s else s
  | none => s

end Sys2Proof.Machine
end

