-- ==== Sys2Proof/Machine/Reset.lean ====
section
/-!
DEFINITION. Cold and warm resets (17_startup_nv_image.md R459 to R465).
-/

namespace Sys2Proof.Machine

/-- Copy the registers at these addresses from `old` into `s`. -/
def copyRegs (old : State) (l : List Nat) (s : State) : State := l.foldl (fun s a => rset a (rget old a) s) s

/-- The fuse view of the OTP page: word 0 CFG, 1 SLOTB, 2 to 9 KEYHASH, 10 to 25 COLREP (log entry 50). -/
def otpRegs : List Nat :=
  [aOTP_CFG, aOTP_SLOTB] ++ (List.range 8).map (fun i => aOTP_KEYHASH i) ++ (List.range 16).map (fun i => aOTP_COLREP i)

/-- Programmed fuses act from the next power-on reset (R474). -/
def loadFuses (s : State) : State :=
  (List.range 26).foldl (fun s i => rset (otpRegs.getD i 0) (rget s (otpRegs.getD i 0) ||| alGet 0 s.boot.fuses i) s) s

/-- The time axes after a reset: the balls keep their levels. -/
def resetAxes (s : State) : TimebaseSt :=
  { TimebaseSt.reset with
    levelA := s.tb.levelA, levelB := s.tb.levelB, cntLevel := s.tb.cntLevel, cntHigh := if s.tb.cntLevel then some s.now else none }

/-- The state of a start at step 1: memories lost; time, free values, the queue and the levels of the arbiter's pins go on. -/
def coldState (hold : ResetHold) (s : State) : State :=
  { State.reset with
    now := s.now
    freeCtr := s.freeCtr
    pending := s.pending
    boot := { BootSt.reset with held := hold, fuses := s.boot.fuses, stepT := s.now, vio := s.boot.vio }
    arb := { ArbSt.reset with pin := s.arb.pin, filt := s.arb.filt, hb := s.arb.hb }
    tb := resetAxes s
    fab := { FabSt.reset with lapS := s.now, lapD := s.now } }

/-- A device whose pairing is fused off is SOLO always (R3). -/
def fusedSolo (s : State) : State := if rbit s aOTP_CFG 8 then { s with twin := { s.twin with st := .solo } } else s

/-- A power-on reset or one that acts as it (R459, R472): RSTCAUSE keeps its own bit alone. -/
def powerReset (hold : ResetHold) (bit_ : Nat) (s : State) : State :=
  fusedSolo (rset aSYS_RSTCAUSE (flg true bit_) (loadFuses (copyRegs s (aSYS_STRAPS :: otpRegs) (coldState hold s))))

/-- A software cold reset, or a warm one without retention (R460): RSTCAUSE gathers bits. -/
def coldReset (mask : Nat) (s : State) : State :=
  fusedSolo (rset aSYS_RSTCAUSE (rget s aSYS_RSTCAUSE ||| w32 mask)
    (copyRegs s ([aSYS_STRAPS, aSYS_RST_CNT] ++ otpRegs) (coldState .cold s)))

/-- Registers that a warm start keeps (R465, Table 17-5; the GALLEY page's own list). -/
def warmRegs : List Nat :=
  [aSYS_STRAPS, aSYS_RSTCAUSE, aSYS_RST_CNT, aSYS_SCRATCH 0, aSYS_SCRATCH 1, aSYS_SCRATCH 2, aSYS_SCRATCH 3, aBOOT_SEQ_A,
    aBOOT_SEQ_B, aBOOT_BADPRESS, aGALLEY_PROD, aGALLEY_CONS, aGALLEY_RESP, aGALLEY_CPROD, aGALLEY_TICKET_LAST,
    aGALLEY_TICKET_DONE, aECC_REPAIR] ++ otpRegs
    ++ (List.range 4).map (fun i => aECC_REMAP_PL i) ++ (List.range 4).map (fun i => aECC_REMAP_SH i)
    ++ (List.range 4).map (fun i => aECC_REMAP_BS i) ++ (List.range 16).map (fun i => aECC_REMAP_DR i)

/-- The pending work after a warm reset: the queue is rebuilt; what had begun completes on the first frame. -/
def warmComp (c : CompositorSt) : CompositorSt :=
  { CompositorSt.reset with
    queue := c.queue ++ c.sel ++ c.landing ++ c.held
    running := c.running
    done := c.done }

/-- A warm reset with retention (R461, R465). -/
def warmState (hold : ResetHold) (s0 : State) : State :=
  let s := voidFlight s0
  let kept := cistServes s || s.cistern.retrain.isSome
  let t := copyRegs s warmRegs
    { State.reset with
      now := s.now
      freeCtr := s.freeCtr
      pending := s.pending
      mem := s.mem
      cist := if kept then s.cist else []
      boot := { BootSt.reset with
        step := .s2, held := hold, retention := true, everRun := s.boot.everRun, warm := true, fuses := s.boot.fuses, restart := true
        stepT := s.now, bistDone := s.boot.bistDone, vio := s.boot.vio }
      tb := { resetAxes s with frame := s.tb.frame }
      comp := warmComp s.comp
      galley := { GalleySt.reset with clients := s.galley.clients, heapUsed := s.galley.heapUsed, lost := s.galley.lost, fresh := false }
      basin := { BasinSt.reset with
        liveB := s.basin.liveB, lock := (warmComp s.comp).queue.any fun e => e.e.opcode == opRecall }
      cistern := { CistSt.reset with
        segs := s.cistern.segs.filter (fun g => g.start.isNone), storeBad := s.cistern.storeBad || !kept }
      arb := { ArbSt.reset with pin := s.arb.pin, filt := s.arb.filt, hb := s.arb.hb }
      clk := { ClockSt.reset with
        lockA := s.clk.lockA, fabFb := s.clk.fabFb, coreGated := s.clk.coreGated }
      ptp := { PtpSt.reset with run := s.ptp.run }
      fab := { FabSt.reset with
        flips := s.fab.flips, rewrite := s.fab.rewrite
        skimS := if isSolo s then s.fab.skimS else 0
        skimD := if isSolo s then s.fab.skimD else 0
        lapS := s.now, lapD := s.now } }
  let cfg := rget s aTWIN_CFG
  warmRestore (rput aSYS_RST_CNT 15 0 (min 0xFFFF (rfld s aSYS_RST_CNT 15 0 + 1))
    (rput aTWIN_CFG 31 31 (bits cfg 31 31) (rput aTWIN_CFG 3 0 (bits cfg 3 0) t)))

/-- A Galley whose bank was lost begins empty (R416). -/
def galleyEmpty (s : State) : State :=
  let t := { s with galley := GalleySt.reset, comp := CompositorSt.reset }
  copyRegs State.reset [aGALLEY_PROD, aGALLEY_CONS, aGALLEY_RESP, aGALLEY_CPROD, aGALLEY_TICKET_LAST, aGALLEY_TICKET_DONE,
    aISTAT pgGALLEY] t

/-- A warm reset (R460): without valid retention it is a cold one. -/
def warmReset (hold : ResetHold) (bit_ : Nat) (s : State) : State :=
  if s.boot.retention then
    let t := if s.galley.lost then galleyEmpty (warmState hold s) else warmState hold s
    fusedSolo (rset aSYS_RSTCAUSE (rget t aSYS_RSTCAUSE ||| flg true bit_) t)
  else coldReset (2 ^ bit_ + 2 ^ 7) s

end Sys2Proof.Machine
end

