-- ==== Sys2Proof/Machine/Ptp.lean ====
section
/-!
DEFINITION. PTP time commands, rings and pulses (09_ptp_timestamping.md R276 to R292), and the Compositor's answer to a step of
the time counter (R67).
-/

namespace Sys2Proof.Machine

def setPtp (p : PtpSt) (s : State) : State := { s with ptp := p }
def ctrOf (s : State) (one : Bool) : TimeCtr := if one then s.ptp.t1 else s.ptp.t0
def setCtr (one : Bool) (c : TimeCtr) (s : State) : State :=
  setPtp (if one then { s.ptp with t1 := c } else { s.ptp with t0 := c }) s

/-! ### Time commands (R280) -/

/-- TIMECMD has been written with an operation: it waits for its cycle. -/
def timeCommand (op : Nat) (sel : Bool) (s : State) : State :=
  if op = 0 then s else setPtp { s.ptp with cmd := some (op, sel) } s

/-- A step of TIME0 passes pending PTP events (R67): they take the present frame as their due frame, and the next selection
takes them. -/
def ptpStepPass (old new : Nat) (s : State) : State :=
  let g := s.tb.frame
  let passes (e : Ev) : Bool :=
    e.e.axis == 2 && e.due.isNone && decide (sgn 64 (unsgn 64 ((old : Int) - e.e.trig)) < 0)
      && decide (0 ≤ sgn 64 (unsgn 64 ((new : Int) - e.e.trig)))
  let take (e : Ev) : Ev := if passes e then { e with due := some g, f0 := g + 2 } else e
  if (s.comp.queue ++ flightEvs s).any passes then
    let s1 := mapFlight take s
    iset pgCOMPOSITOR 4 { s1 with comp := { s1.comp with queue := s1.comp.queue.map take } }
  else s

/-- A step has acted on a counter. -/
def stepped (one : Bool) (old : TimeCtr) (s : State) : State :=
  let s1 := ptpMoved one (iset pgPTP 6 (cnt aPTP_STEP_CNT s))
  if one then s1 else ptpStepPass (ptpAxis old) (ptpAxis s.ptp.t0) s1

/-- A counter whose slew has been ended by a SET or ADD. -/
def endSlew (c : TimeCtr) : TimeCtr := { c with slew := 0, slewing := false }

/-- TIMECMD_ACT (R280): the command acts on a CORE cycle, so it waits while CORE is gated (R281). -/
def timecmdAct (s : State) : State :=
  match if s.clk.coreGated then none else s.ptp.cmd with
  | none => s
  | some (op, one) =>
    let s := setPtp { s.ptp with cmd := none } s
    let c := ctrOf s one
    match op with
    | 1 =>
      let ns := (rget s aPTP_TIMESET_NS).toNat
      if ns ≥ 1000000000 then errcap pgPTP 2 aPTP_TIMECMD s
      else
        let sec := (rget s aPTP_TIMESET_S_LO).toNat + 2 ^ 32 * rfld s aPTP_TIMESET_S_HI 15 0
        stepped one c (setCtr one { endSlew c with t := (sec * 1000000000 + ns) * 2 ^ 48 } s)
    | 2 =>
      let o := sgn 64 ((rget s aPTP_OFFSET_LO).toNat + 2 ^ 32 * (rget s aPTP_OFFSET_HI).toNat)
      let t := ((c.t + o * 2 ^ 48) % (ctrMod : Int)).toNat
      let s1 := setCtr one { endSlew c with t := t } s
      if o = 0 then s1 else stepped one c s1
    | 3 =>
      let ns := sgn 32 (rget s aPTP_SLEW_NS).toNat
      if ns = 0 then iset pgPTP 5 (setCtr one (endSlew c) s)
      else setCtr one { c with slew := ns * 2 ^ 48, ppm := clampN 1 500 (rfld s aPTP_SLEW_PPM 8 0), slewing := true } s
    | _ => s

/-- SLEW_DONE (R280): the remainder of a slew has reached 0. -/
def slewDone (one : Bool) (s : State) : State :=
  let c := ctrOf s one
  if c.slewing ∧ c.slew = 0 then iset pgPTP 5 (setCtr one { c with slewing := false } s) else s

/-! ### Views of the counters (R278, R279) -/

def ctrNs (c : TimeCtr) : Nat := c.t / 2 ^ 48 % 1000000000
def ctrSec (c : TimeCtr) : Nat := c.t / 2 ^ 48 / 1000000000
def ctrFrac (c : TimeCtr) : Nat := c.t / 2 ^ 32 % 2 ^ 16

/-- TIME_NS_READ (R279): a read of NS latches the seconds and fraction of the same cycle. -/
def timeNsLatch (one : Bool) (s : State) : State :=
  let c := ctrOf s one
  let a := if one then aPTP_TIME1_NS else aPTP_TIME0_NS
  { s with latches := alSet (alSet (alSet s.latches (a + 4) (w32 (ctrSec c))) (a + 8) (w32 (ctrSec c / 2 ^ 32))) (a + 12) (w32 (ctrFrac c)) }

/-! ### Rings (R284 to R287) -/

def slotsOfCode (n : Nat) : Nat := match n with | 0 => 16 | 1 => 32 | _ => 64
def rxSlots (s : State) : Nat := slotsOfCode (rfld s aPTP_RING_SZ 1 0)
def txSlots (s : State) : Nat := slotsOfCode (rfld s aPTP_RING_SZ 9 8)

/-- A ring lies in bank 3, outside the class A delay reserve, on a 256-byte boundary (R284). Bank 3 is 0x380000 to 0x3FFFFF; its
reserve is the upper half (R31). -/
def ringPlaced (base slots : Nat) : Bool :=
  base % 256 == 0 && decide (0x380000 ≤ base) && decide (base + 256 * slots ≤ 0x3C0000)

def ringsOk (s : State) : Bool :=
  ringPlaced (rget s aPTP_RXRING).toNat (rxSlots s) && ringPlaced (rget s aPTP_TXRING).toNat (txSlots s)

/-- A time as three words: ns, seconds [31:0], seconds [47:32] above the fraction (Table 09-4). `ofs` in 2^-16 ns. -/
def stampWords (c : TimeCtr) (ofs : Int) : List Word :=
  let t := (((c.t : Int) / 2 ^ 32 + ofs) % (2 ^ 48 * 1000000000 * 2 ^ 16 : Nat)).toNat
  let ns := t / 2 ^ 16 % 1000000000
  let sec := t / 2 ^ 16 / 1000000000
  [w32 ns, w32 sec, w32 (sec / 2 ^ 32 * 2 ^ 16 + t % 2 ^ 16)]

/-- PTP_RX (R283, R285): a message for EP. -/
def ptpRx (m : PtpMsg) (s : State) : State :=
  let s := advance m.tcap s
  if ¬ enOf s pgPTP then s
  else
    let prod := rfld s aPTP_RX_PROD 15 0
    let cons := rfld s aPTP_RX_CONS 15 0
    if (prod + 65536 - cons) % 65536 = rxSlots s then iset pgPTP 1 (cnt aPTP_RX_DROP s)
    else
      let a := (rget s aPTP_RXRING).toNat + 256 * (prod % rxSlots s)
      let n := m.bytes.length
      let ofs : Int := -(rxLat s m.port : Int) - sgn 32 (rget s (aPTP_PORTADJ_RX m.port)).toNat
      let w0 := fld n 16 ||| fld ((m.bytes.headD 0).toNat % 16) 12 ||| fld m.port 8 ||| flg (n > 192) 4 ||| flg m.udp 3
        ||| flg s.ptp.run 1 ||| flg s.ptp.run 0
      let tag : Word := match m.tag with | some t => fld 1 16 ||| fld t.toNat 0 | none => 0
      let ws := [w0] ++ stampWords s.ptp.t0 ofs ++ stampWords s.ptp.t1 ofs
        ++ [tag, w32 m.smac.toNat, w32 (m.smac.toNat / 2 ^ 32), if m.udp then m.sip else 0, 0, 0, 0, 0, 0]
      let body := m.bytes.take 192
      let padded := body ++ List.replicate ((4 - body.length % 4) % 4) 0
      let s1 := stWords (a + 64) (packBytes padded) (stWords a ws s)
      iset pgPTP 0 (rput aPTP_RX_PROD 15 0 ((prod + 1) % 65536) s1)

/-- A write of TX_PROD that would overfill the ring is refused (R286). -/
def txProdRefused (s : State) (v : Nat) : Bool := decide ((v + 65536 - rfld s aPTP_TX_CONS 15 0) % 65536 > txSlots s)

/-- The bytes of a one-step Sync (R287): origin timestamp and correctionField. -/
def oneStepBytes (ts : List Word) (b : List Byte) : List Byte :=
  let w (i : Nat) : Nat := (ts.getD i 0).toNat
  let sec := w 1 + 2 ^ 32 * (w 2 / 65536)
  let corr := (ofBe ((b.drop 8).take 8) + w 2 % 65536) % 2 ^ 64
  (b.take 8 ++ (leBytes 8 corr).reverse ++ (b.drop 16).take 18 ++ (leBytes 6 sec).reverse ++ (leBytes 4 (w 0)).reverse ++ b.drop 44).take
    b.length

/-- The packet of a transmit slot at `a` (R286): Ethernet, VLAN, IPv4 and UDP headers are the device's, with PCP_A in the tag. -/
def ptpPkt (s : State) (a : Nat) (port : Fin 2) (b : List Byte) : SentPkt :=
  let w0 := rdWord s a
  let w4 := rdWord s (a + 16)
  let dmac := BitVec.ofNat 48 ((rdWord s (a + 4)).toNat + 2 ^ 32 * bits (rdWord s (a + 8)) 15 0)
  let tag := if bit w4 16 then some (tagOf s 0 (bits w4 12 0)) else none
  let udpPort := BitVec.ofNat 16 (if (b.headD 0).toNat % 16 ≤ 3 then 319 else 320)
  let u : UdpHdr := ⟨rget s (aNET_IPADDR port), rdWord s (a + 12), udpPort, udpPort, 0⟩
  let len := 8 + b.length
  let sum := udpSum (halvesOf u.src ++ halvesOf u.dst ++ [17, len] ++ [u.sport.toNat, u.dport.toNat, len] ++ halves b)
  .ptp port ⟨dmac, macOf s port, tag, if bit w0 3 then ipv4Etype else 0x88F7#16⟩
    (if bit w0 3 then some (rfld s aPTP_CFG 7 0, { u with cksum := sum }) else none) b

/-- PTP_SLOT_SENT (R286, R287): the slot at TX_CONS is sent, or marked ERR. `ok` is false when the port could not send it. -/
def ptpSlotSent (ok : Bool) (s : State) : State :=
  let prod := rfld s aPTP_TX_PROD 15 0
  let cons := rfld s aPTP_TX_CONS 15 0
  if ¬ enOf s pgPTP ∨ prod = cons then s
  else
    let a := (rget s aPTP_TXRING).toNat + 256 * (cons % txSlots s)
    let w0 := rdWord s a
    let len := bits w0 31 16
    let port : Fin 2 := Fin.ofNat 2 (bits w0 9 8)
    let bytes := rdBytes s (a + 64) len
    let dmac := (rdWord s (a + 4)).toNat + 2 ^ 32 * (bits (rdWord s (a + 8)) 15 0)
    let sync := (bytes.headD 0).toNat % 16 = 0
    let bad := decide (len < 34) || decide (len > 192) || !s.net.link[port].up || (bit w0 4 && !sync)
      || (!activeOrSolo s && decide (dmac ≠ pdelayMac.toNat)) || !ok
    let w0' := w0 ||| flg true 15
    let s1 :=
      if bad then iset pgPTP 3 (cnt aPTP_TX_ERR (stWord a (w0' ||| flg true 14) s))
      else
        let c := ctrOf s (bit w0 6)
        let ofs : Int := txLat s port + sgn 32 (rget s (aPTP_PORTADJ_TX port)).toNat
        let ts := stampWords c ofs
        let b := if bit w0 4 then oneStepBytes ts bytes else bytes
        let s2 := sendPkt port s.now (ptpPkt s a port b) s
        let s3 := if bit w0 5 then stWords (a + 20) ts s2 else s2
        stWord a w0' s3
    iset pgPTP 2 (rput aPTP_TX_CONS 15 0 ((cons + 1) % 65536) s1)

/-! ### Pulses and gating (R281, R290) -/

/-- PTP_PULSE (R290): a valid counter's nanoseconds cross a multiple of 10 ms. -/
def ptpPulse (one : Bool) (t : Nat) (s : State) : State :=
  let s := advance t s
  let n := (ctrOf s one).t / 2 ^ 48 / 10000000
  let last := if one then s.ptp.pulse1 else s.ptp.pulse0
  if s.ptp.run && rbit s (aCTRL pgPTP) (if one then 5 else 4) && decide (n ≠ last) then
    setPtp (if one then { s.ptp with pulse1 := n } else { s.ptp with pulse0 := n }) s
  else s

/-- CORE is gated (R281): the counters stop, RUN and VALID clear. -/
def ptpStop (s : State) : State := rput (aCTRL pgPTP) 5 4 0 (setPtp { s.ptp with run := false } s)

/-- CORE runs again: the counters run on from the held value. -/
def ptpStart (s : State) : State := setPtp { s.ptp with run := true } s

end Sys2Proof.Machine
end

