-- ==== Sys2Proof/Machine/Clocks.lean ====
section
/-!
DEFINITION. The loops, the clock domains and media rate changes (11_plls_clock_domains.md R319 to R337).
-/

namespace Sys2Proof.Machine

def setClk (c : ClockSt) (s : State) : State := { s with clk := c }

/-- The die temperature in °C (R328): MON TEMP, sixteenths. -/
def dieTemp (s : State) : Int := (sgn 16 (rfld s aMON_TEMP 15 0)).fdiv 16

/-! ### Rates (R327, R333) -/

/-- FAM and MULT of a RATE word; `none` for an invalid code. -/
def rateOf (w : Word) : Option (Bool × Nat) :=
  let m := bits w 1 0
  if m = 3 ∨ (m = 2 ∧ ¬ bit w 4) then none else some (bit w 4, m)

/-- VCO frequency of a family, kHz. -/
def vcoOf (fam : Bool) : Nat := if fam then 3932160 else 3612672

/-- The ppm of the sweep from one family to the other, and what is left at the midpoint. -/
def rampPpm (from_ to_ : Bool) : Nat :=
  (((vcoOf to_ : Int) - vcoOf from_) * 1000000 / vcoOf from_).natAbs

/-! ### Calibration slots (R328) -/

def slotWord (s : State) (i : Nat) : Word := rget s (aPLLM_CALSLOT i)
def slotFresh (s : State) (i : Nat) : Bool := decide ((sgn 8 (bits (slotWord s i) 7 0) - dieTemp s).natAbs ≤ 20)

/-- Distance of a slot's TEMP from the present die temperature, °C. -/
def slotDist (s : State) (i : Nat) : Nat := (sgn 8 (bits (slotWord s i) 7 0) - dieTemp s).natAbs

/-- The valid slot of the family that is not stale and whose TEMP is nearest the present temperature (R328); the lower of two
that are equally near. -/
def slotFor (s : State) (fam : Bool) : Option Nat :=
  ((List.range 4).filter fun i => bit (slotWord s i) 31 && bit (slotWord s i) 28 == fam && slotFresh s i).foldl
    (fun best i => match best with
      | some b => if slotDist s i < slotDist s b then some i else some b
      | none => some i) none

/-- The slot that a result fills. -/
def slotFree (s : State) : Option Nat :=
  match (List.range 4).find? (fun i => !bit (slotWord s i) 31) with
  | some i => some i
  | none => s.clk.slotOrder.find? fun i => !bit (slotWord s i) 30

/-- Slots that have become stale are reported. -/
def calStale (s : State) : State :=
  let st := (List.range 4).filter fun i => bit (slotWord s i) 31 && !slotFresh s i
  let s1 := setClk { s.clk with stale := st } s
  if st.all (fun i => s.clk.stale.contains i) then s1 else iset pgPLLM 5 s1

/-- CALCMD.START (R328): the answer says whether it is refused. -/
def calRefused (s : State) : Bool :=
  s.clk.search.isSome || (match s.clk.change with | some c => c.phase == .ramp || c.phase == .search | none => false)

def bandSearch (fam : Bool) (s : State) : State := setClk { s.clk with search := some fam } s

/-! ### Media rate changes (R331 to R333) -/

/-- The ramp to the slot of the family begins; a change of MULT alone takes effect at once. -/
def startRamp (c : RateChange) (s : State) : State :=
  if c.fam = s.clk.fam then setClk { s.clk with change := some { c with phase := .relock }, mult := c.mult } s
  else setClk { s.clk with change := some { c with phase := .ramp, t0 := s.now, slot := slotFor s c.fam } } s

/-- ppm that a slope rising to `slope` ppm/ms within `soft` ps has swept after `t` ps, t ≤ soft. -/
def softPpm (slope soft t : Nat) : Nat := if soft = 0 then 0 else slope * t * t / (2 * soft * 10 ^ 9)

/-- Largest number up to `2 ^ n` more than `r` whose square is at most `v`. -/
def rootBits : Nat → Nat → Nat → Nat
  | 0, r, _ => r
  | n + 1, r, v => if (r + 2 ^ n) * (r + 2 ^ n) ≤ v then rootBits n (r + 2 ^ n) v else rootBits n r v

/-- ppm of a ramp of `d` ppm that have been swept `t` ps after its start (R333): the slope rises over SOFT and falls back at the
end; a short ramp has a triangular slope. -/
def rampSwept (slope soft d t : Nat) : Nat :=
  let full := d * 10 ^ 9 / slope          -- |Δ| / SLOPE, ps
  let tri := full < soft
  let total := if tri then 2 * rootBits 48 0 (full * soft) else full + soft
  let rise := if tri then total / 2 else soft
  if t ≥ total then d
  else if t ≤ rise then min d (softPpm slope soft t)
  else if t ≥ total - rise then d - min d (softPpm slope soft (total - t))
  else min d (slope * (2 * t - soft) / (2 * 10 ^ 9))

/-- RAMP_LEFT (R336): ppm still to sweep, rounded up (log entry 19). -/
def rampLeft (s : State) : Nat :=
  match s.clk.change with
  | some c =>
    let d := rampPpm s.clk.fam c.fam
    if c.phase = .ramp then
      d - rampSwept (zeroIs1 (rfld s aPLLM_RAMP 31 16)) (rfld s aPLLM_RAMP 7 0 * 10 ^ 8) d (s.now - c.t0)
    else 0
  | none => 0

/-- A RATE value lands (R331, R332). The answer says whether the entry waits. While PLL-M is not locked no frame runs, and the value
is the rate that it locks to (R326, log entry 33). -/
def rateLand (ticket : Option Word) (w : Word) (s : State) : State × Bool :=
  match rateOf w with
  | none => (s, false)
  | some (fam, mult) =>
    if ¬ s.clk.lockM then (setClk { s.clk with fam := fam, mult := mult } s, false)
    else match s.clk.change with
    | some _ => (setClk { s.clk with heldRates := s.clk.heldRates ++ [(ticket, w)] } s, true)
    | none =>
      if fam = s.clk.fam ∧ mult = s.clk.mult then (s, false)
      else
        let c : RateChange :=
          { ticket := ticket, fam := fam, mult := mult, land := s.tb.frame, phase := .fadeOut, h := 0, period := period s, handed := false,
            t0 := 0, slot := none }
        (syncRestart (setClk { s.clk with change := some c, fadeInAt := none } s), true)

/-- The frame on which ticks are held. -/
def holdFrame (s : State) (c : RateChange) : Nat := blockAt s (c.land + 64)

/-- RATE_HOLD (R332 steps 2 and 3). -/
def rateHold (s : State) : State :=
  match s.clk.change with
  | none => s
  | some c =>
    if c.phase ≠ .fadeOut ∨ s.tb.frame + 1 < holdFrame s c then s
    else
      let c1 := { c with h := s.tb.frame + 1 }
      let s1 := setTb { s.tb with ticking := false } s
      if c.fam ≠ s.clk.fam ∧ (slotFor s c.fam).isNone then
        dpllFree (setClk { s1.clk with change := some { c1 with phase := .search }, search := some c.fam } s1)
      else dpllFree (startRamp c1 s1)

/-- RAMP_HANDOVER (R333). -/
def rampHandover (s : State) : State :=
  match s.clk.change with
  | some c =>
    if c.phase = .ramp ∧ ¬ c.handed then
      setClk { s.clk with change := some { c with handed := true } } s
    else s
  | none => s

/-- RAMP_END (R332 step 4). -/
def rampEnd (s : State) : State :=
  match s.clk.change with
  | some c =>
    if c.phase = .ramp then
      iset pgPLLM 3
        (setClk { s.clk with change := some { c with phase := .relock, handed := true }, fam := c.fam, mult := c.mult } s)
    else s
  | none => s

/-- Port groups in SYNC mode meet the change as a rate out of tolerance, and qualify again (R332). -/
def portsRequalify (s : State) : State :=
  (List.finRange 4).foldl (fun s (g : Fin 4) =>
    if (grp s g).st = .run ∧ ¬ gcfgMode (gcfg s g) then
      enterMismatch g (iset (pgPORTG g) 3 s)
    else s) s

/-- RATE_RESUME (R332 step 5): the next frame tick starts frame h. -/
def rateResume (s : State) : State :=
  match s.clk.change with
  | some c =>
    if c.phase = .resume then portsRequalify (setClk { s.clk with change := some { c with phase := .fadeIn }, fadeInAt := some c.h } s)
    else s
  | none => s

/-- The next held RATE value lands. -/
def nextRate (s : State) : State :=
  match s.clk.heldRates with
  | [] => s
  | (t, w) :: rest =>
    let s1 := setClk { s.clk with heldRates := rest } s
    -- the entry lands now (R331)
    let s2 := match t with
      | some t =>
        { s1 with comp := { s1.comp with
            running := s1.comp.running.map fun e => if e.ticket = t then { e with land := s1.tb.frame } else e } }
      | none => s1
    let r := rateLand t w s2
    if r.2 then r.1 else (match t with | some t => finishRunning t s.tb.frame r.1 | none => r.1)

/-- Held RATE values land, until one of them starts a change. -/
def nextRates (s : State) : State :=
  s.clk.heldRates.foldl (fun t _ => if t.clk.change.isNone then nextRate t else t) s

/-- RATE_DONE (R332 step 6). -/
def rateDone (s : State) : State :=
  match s.clk.change with
  | some c =>
    if c.phase = .fadeIn ∧ s.tb.frame ≥ c.h + 63 then
      let s1 := iset pgPLLM 4 (setClk { s.clk with change := none, fadeInAt := none } s)
      let s2 := match c.ticket with | some t => finishRunning t (c.h + 63) s1 | none => s1
      nextRates s2
    else s
  | none => s

/-- SEARCH_DONE (R328): a result fills a slot; a change that waited goes on to its ramp. -/
def searchDone (band : BitVec 5) (fine : BitVec 9) (found : Bool) (s : State) : State :=
  match s.clk.search with
  | none => s
  | some fam =>
    let fill : State :=
      match (if found then slotFree s else none) with
      | some i =>
        let w := flg true 31 ||| flg (bit (slotWord s i) 30) 30 ||| flg fam 28 ||| fld band.toNat 23 ||| fld fine.toNat 14
          ||| fld (unsgn 8 (dieTemp s)) 0
        setClk { s.clk with
          slotOrder := s.clk.slotOrder.filter (· != i) ++ [i], stale := s.clk.stale.filter (· != i) } (rset (aPLLM_CALSLOT i) w s)
      | none => s
    let s1 := setClk { fill.clk with search := none } fill
    match s1.clk.bootSearch with
    | f :: rest => setClk { s1.clk with bootSearch := rest, search := some f } s1
    | [] =>
      match s1.clk.change with
      | some c =>
        if c.phase ≠ .search then s1
        else if found then startRamp c s1
        else setClk { s1.clk with search := some c.fam } s1
      | none => s1

/-- The fade of every output by a rate change or a relock, in 64ths, on frame `f` (R325, R332). -/
def rateFade (s : State) (f : Nat) : Nat :=
  let up (h : Nat) : Nat := min 64 (f + 1 - h)
  match s.clk.change with
  | some c => match c.phase with
    | .fadeOut => 64 - min 64 (f + 1 - c.land)
    | .fadeIn => up c.h
    | _ => 0
  | none => if s.clk.afterGap then 0 else match s.clk.fadeInAt with | some h => up h | none => 64

/-! ### Lock and loss of lock (R321 to R326) -/

def loopOn (s : State) (l : PllLoop) : Bool :=
  match l with
  | .a => s.boot.held == .none && decide (s.boot.step ≠ .s1 ∧ s.boot.step ≠ .s2)
  | .d => rbit s aCLKGEN_PLLCTRL 1
  | .s => rbit s aCLKGEN_PLLCTRL 2
  | .m => enOf s pgPLLM

def loopLocked (s : State) (l : PllLoop) : Bool :=
  match l with | .a => s.clk.lockA | .d => s.clk.lockD | .s => s.clk.lockS | .m => s.clk.lockM

def lockCntReg (l : PllLoop) : Nat :=
  match l with | .a => aCLKGEN_LOCKCNT 0 | .d => aCLKGEN_LOCKCNT 1 | .s => aCLKGEN_LOCKCNT 2 | .m => aPLLM_LOCKCNT

/-- A loss-of-lock count of eight bits that saturates. -/
def lolCount (lo : Nat) (s : State) : State :=
  rput aCLKGEN_LOL_CNT (lo + 7) lo (min 255 (rfld s aCLKGEN_LOL_CNT (lo + 7) lo + 1)) s

/-- A paired device meets a fault of its own (R324, Table 12-1). -/
def ownFault (cause : Nat) (s : State) : State :=
  if s.twin.paired ∧ s.twin.st ≠ .faulted then enterTwinFault cause s else s

/-- Table 11-3, PLL-A. -/
def lossA (s : State) : State :=
  let s1 := lolCount 0 (setClk { s.clk with lockA := false, fabFb := true, coreGated := true } s)
  ownFault 4 (ptpStop (alarm 1 (iset pgCLKGEN 4 (iset pgCLKGEN 1 s1))))

/-- Table 11-3, PLL-D. -/
def lossD (s : State) : State :=
  let s1 := alarm 3 (iset pgCLKGEN 2 (lolCount 8 (setClk { s.clk with lockD := false } s)))
  if s1.cistern.st = .off then s1 else enterLost s1

/-- A rate change that a loss of PLL-M ends: its target is kept, and its entry is over (R326); held RATE values follow it. -/
def endChange (s : State) : State :=
  match s.clk.change with
  | none => s
  | some c =>
    let s1 := setClk { s.clk with change := none, fam := c.fam, mult := c.mult } s
    nextRates (match c.ticket with | some t => finishRunning t s.tb.frame s1 | none => s1)

/-- Table 11-3, PLL-M. -/
def lossM (s : State) : State :=
  let s1 := alarm 2 (iset pgPLLM 1 (cnt aPLLM_LOL_CNT (setClk { s.clk with lockM := false } s)))
  standbyFault 5 (endChange (setTb { s1.tb with ticking := false } s1))

/-- The partner counts as STANDBY_HOT for a release caused by PLL-S: its last HEALTH cell is at most 2 frames old (R344). -/
def hotLately (s : State) : Bool :=
  match s.twin.pHotT with | some t => decide (s.now ≤ t + 2 * period s) | none => false

/-- Table 11-3, PLL-S: the links go down. -/
def lossS (s : State) : State :=
  let s1 := iset pgCLKGEN 3 (lolCount 16 (setClk { s.clk with lockS := false } s))
  let s2 := linkDown 1 false (linkDown 0 false s1)
  let s3 := if hotLately s then s2 else setTwinSt { s2.twin with release := s1.twin.release } s2
  traliatLinkDown s3

/-- PLL_LOSS_OF_LOCK. -/
def pllLoss (l : PllLoop) (s : State) : State :=
  if ¬ loopLocked s l then s
  else match l with | .a => lossA s | .d => lossD s | .m => lossM s | .s => lossS s

/-- A loop is declared locked (R321, R325). -/
def declareLock (l : PllLoop) (s : State) : State :=
  match l with
  | .a =>
    let s1 := iset pgCLKGEN 0 (ptpStart (setClk { s.clk with lockA := true, fabFb := false, coreGated := false } s))
    if ¬ s.boot.run then s1
    else
      let s2 := iset pgCLKGEN 5 s1
      if isSolo s then warmReset .none 6 s2 else s2
  | .d =>
    let s1 := iset pgCLKGEN 0 (setClk { s.clk with lockD := true } s)
    if enOf s pgDDRC ∧ (s.cistern.st = .off ∨ s.cistern.st = .lost) then startTraining s1 else s1
  | .s => iset pgCLKGEN 0 (setClk { s.clk with lockS := true } s)
  | .m => iset pgPLLM 0 (setClk { s.clk with lockM := true, afterGap := s.boot.run && isSolo s } s)

/-- PLL_LOCK: a lock window has ended with this count. A rate change's relock needs one window in range. -/
def pllLock (l : PllLoop) (count : Nat) (s : State) : State :=
  if ¬ loopOn s l then s
  else
    let s1 := rset (lockCntReg l) (w32 count) s
    let good : Bool := decide (4094 ≤ count ∧ count ≤ 4098)
    if ¬ good then pllLoss l s1
    else if ¬ loopLocked s l then declareLock l s1
    else
      match l, s1.clk.change with
      | .m, some c => if c.phase = .relock then setClk { s1.clk with change := some { c with phase := .resume } } s1 else s1
      | _, _ => s1

/-- XO_LOSS (R322): as under power-on reset, with the cause recorded and ALM_N asserted. -/
def xoLoss (s : State) : State := if s.boot.held = .power then s else alarm 0 (powerReset .xo 2 s)

/-- XO_RESTORE (R322). -/
def xoRestore (s : State) : State :=
  if s.boot.held = .xo then { s with boot := { s.boot with held := .none, step := .s2, stepT := s.now } } else s

/-! ### Domains (R323) -/

/-- May the host gate or reset domain `i`? -/
def domainFree (s : State) (i : Nat) : Bool :=
  match i with
  | 4 => decide (netMode s 0 = 0)
  | 5 => decide (netMode s 1 = 0)
  | 6 => isSolo s
  | 8 | 9 | 10 | 11 => !enOf s (pgPORTG (i - 8)) && (grp s (Fin.ofNat 4 (i - 8))).st == .off
  | _ => false

/-- A DOMGATE or DOMRST value that sets a bit outside its conditions is discarded. -/
def domainRefused (s : State) (old new : Word) : Bool :=
  (List.range 32).any fun i => bit new i && !bit old i && !domainFree s i

/-- Does domain `i` run (DOMRUN)? -/
def domainRuns (s : State) (i : Nat) : Bool :=
  let live := s.boot.held != .power && s.boot.held != .cold && s.boot.held != .xo
  let open_ := !rbit s aCLKGEN_DOMGATE i
  match i with
  | 0 => true
  | 1 => !s.clk.coreGated
  | 2 => live
  | 3 => s.clk.lockD
  | 4 | 5 | 6 => s.clk.lockS && open_
  | 7 => s.clk.lockM
  | 8 | 9 | 10 | 11 => live && open_
  | _ => false

/-! ### Phase steps (R329) -/

def pstepRefused (s : State) : Bool := !(s.dpll.st == .freerun || s.dpll.st == .holdover)

def pstep (n : Nat) (s : State) : State := setClk { s.clk with psteps := s.clk.psteps + sgn 16 n } s

/-- PSTEP_DONE. -/
def pstepDone (s : State) : State :=
  if s.clk.psteps = 0 then s
  else iset pgPLLM 2 (rset aPLLM_PSTEP_SUM (rget s aPLLM_PSTEP_SUM + i32 s.clk.psteps) (setClk { s.clk with psteps := 0 } s))

/-- WCLKOUT[n] has been written: an enable starts on a frame whose count is a multiple of D (R330). -/
def wclkWritten (n : Nat) (old new : Word) (s : State) : State :=
  if ¬ bit new 31 then setClk { s.clk with wclk := s.clk.wclk.set n none } s
  else if ¬ bit old 31 ∨ bits old 11 0 ≠ bits new 11 0 then setClk { s.clk with wclk := s.clk.wclk.set n (some 0) } s
  else s

/-- RATE_HOLD_RENEWAL (R332, R343): the XO timer at the old frame period. -/
def rateHoldRenewal (t : Nat) (s : State) : State :=
  let s := advance t s
  if ticksHeld s then renewLease s else s

end Sys2Proof.Machine
end

