-- ==== Sys2Proof/Machine/MonGpio.lean ====
section
/-!
DEFINITION. Pulse outputs, die temperature and supply readings (18_register_index.md R488 to R492).
-/

namespace Sys2Proof.Machine

/-! ### PPS_OUT and BMARK_OUT (R488) -/

/-- The period of PPS_OUT as PPSCFG gives it. -/
def ppsPeriod (s : State) : Nat := if rbit s aGPIO_PPSCFG 29 then fs s else rfld s aGPIO_PPSCFG 17 0 + 1
def bmarkPeriod (s : State) : Nat := rfld s aGPIO_BMARKCFG 11 0 + 1

/-- Frames that a pulse of PPS_OUT lasts. -/
def ppsFrames (s : State) (d : Nat) : Nat :=
  min (ceilDiv (clampN 1 999 (rfld s aGPIO_PPSWIDTH 9 0) * fs s) 1000) (d - 1)

/-- The first frame after `f` whose count is a multiple of `d`. -/
def nextMultiple (f d : Nat) : Nat := (f / d + 1) * d

def setClk1 (c : ClockSt) (s : State) : State := { s with clk := c }

/-- EN of PPSCFG or BMARKCFG becomes 1 or 0. -/
def ppsEnable (en : Bool) (s : State) : State :=
  setClk1 { s.clk with pps := if en then ⟨some (nextMultiple (frame s) (ppsPeriod s)), ppsPeriod s, 0⟩ else ⟨none, s.clk.pps.d, 0⟩ } s
def bmarkEnable (en : Bool) (s : State) : State :=
  setClk1 { s.clk with bmark := if en then ⟨some (nextMultiple (frame s) (bmarkPeriod s)), bmarkPeriod s, 0⟩ else ⟨none, s.clk.bmark.d, 0⟩ } s

/-- PPS_EDGE: the active edge that falls on the present frame; D is read again. -/
def ppsEdge (s : State) : State :=
  match s.clk.pps.next with
  | none => s
  | some n =>
    if n ≤ frame s then
      iset pgGPIO 0 (setClk1 { s.clk with pps := ⟨some (n + ppsPeriod s), ppsPeriod s, ppsFrames s (ppsPeriod s)⟩ } s)
    else s

/-- BMARK_EDGE. -/
def bmarkEdge (s : State) : State :=
  match s.clk.bmark.next with
  | none => s
  | some n =>
    if n ≤ frame s then iset pgGPIO 1 (setClk1 { s.clk with bmark := ⟨some (n + bmarkPeriod s), bmarkPeriod s, 1⟩ } s)
    else s

/-! ### Die temperature (R491) -/

/-- The highest of the four sensor readings, 1/16 °C. -/
def tempMax (s0 s1 s2 s3 : BitVec 16) : Int := max (max s0.toInt s1.toInt) (max s2.toInt s3.toInt)

/-- TEMP_READING: TEMP, its extremes, and TEMP_HI against its limits; calibration slots may become stale (R328). -/
def tempReading (s0 s1 s2 s3 : BitVec 16) (s : State) : State :=
  let t := tempMax s0 s1 s2 s3
  let old (a : Nat) : Int := sgn 16 (rget s a).toNat
  let lo := if s.clk.tempRestart then t else min t (old aMON_TEMP_MIN)
  let hi := if s.clk.tempRestart then t else max t (old aMON_TEMP_MAX)
  let lim := sgn 8 (rfld s aMON_TEMPCFG 15 8) * 16
  let hyst := rfld s aMON_TEMPCFG 7 0
  let hyst16 : Int := (zeroIs1 hyst : Nat) * 16
  let s := rset aMON_TEMP (w32 (unsgn 16 t)) (rset aMON_TEMP_MIN (w32 (unsgn 16 lo)) (rset aMON_TEMP_MAX (w32 (unsgn 16 hi)) s))
  let s := setClk1 { s.clk with tempRestart := false } (rput aMON_TEMPCFG 31 31 0 s)
  let s :=
    if t > lim ∧ ¬ s.clk.tempHi then alarm 10 (iset pgMON 0 (setClk1 { s.clk with tempHi := true } s))
    else if t ≤ lim - hyst16 ∧ s.clk.tempHi then iset pgMON 1 (setClk1 { s.clk with tempHi := false } s)
    else s
  calStale s

/-- TEMPCFG.CLR = 1: the extremes restart at the next reading. -/
def tempRestartSet (s : State) : State :=
  setClk1 { s.clk with tempRestart := true } (rput aMON_TEMPCFG 31 31 1 s)

/-! ### Supplies (R491) -/

/-- Nominal supply of VOLT[n], mV: VDD, VDDM, VDDS, VDDQ, VDDA and VDDIO B0 to B3 as sensed at power-on (R459, R494). -/
def voltNominal (s : State) (n : Fin 9) : Nat :=
  match n.val with
  | 0 => 800 | 1 => 800 | 2 => 900 | 3 => 1200 | 4 => 1800
  | k => if s.boot.vio.getLsbD (k - 5) then 3300 else 1800

/-- SUPPLY_READING. -/
def supplyReading (n : Fin 9) (mv : BitVec 16) (s : State) : State :=
  let s := rset (aMON_VOLT n.val) (w32 mv.toNat) s
  let d : Int := (mv.toNat : Int) - voltNominal s n
  if d.natAbs * 20 > voltNominal s n then iset pgMON 2 s else s

end Sys2Proof.Machine
end

