-- ==== Sys2Proof/Machine/Flags.lean ====
section
/-!
DEFINITION. The arithmetic of the Press: exact results, the flags they set (Table 06-7), and the operations of Table 06-6.
-/

namespace Sys2Proof.Machine

/-- What an arithmetic operation answers: register writes (register, bits, contents), and the SR bits it sets. -/
structure ArithRes where
  wr    : List (PReg × BitVec 72 × BitVec 72)
  fmask : Word
  fval  : Word
  deriving DecidableEq, Repr

/-- SR flag bits (Table 05-3). -/
abbrev fC : Nat := 0
abbrev fV : Nat := 1
abbrev fZ : Nat := 2
abbrev fN : Nat := 3
abbrev fU : Nat := 4
abbrev fE : Nat := 5
abbrev fSV : Nat := 7

/-- A list of flags to set or clear, as mask and value. -/
def flagList (l : List (Nat × Bool)) : Word × Word :=
  l.foldl (fun a x => (a.1 ||| flg true x.1, a.2 ||| flg x.2 x.1)) (0, 0)

/-- An integer wrapped into 72 bits, and whether it lies outside (R195). -/
def wrap72 (i : Int) : BitVec 72 := BitVec.ofInt 72 i
def out72 (i : Int) : Bool := decide (i > 2 ^ 71 - 1) || decide (i < -(2 ^ 71))

/-- E: bits [71:63] not all equal. -/
def flagE (a : BitVec 72) : Bool := !(a.extractLsb' 63 9 == 0 || a.extractLsb' 63 9 == BitVec.allOnes 9)

/-- N, Z, U, E of an accumulator result (Table 06-7). -/
def accFlags (a : BitVec 72) : List (Nat × Bool) :=
  [(fN, a.msb), (fZ, a == 0), (fU, a.getLsbD 63 == a.getLsbD 62), (fE, flagE a)]

/-- The result of one lane: the accumulator written and the flags N, Z, U, E, V, with further flags of the operation. -/
def accRes (i : Fin 4) (r : Int) (more : List (Nat × Bool)) : ArithRes :=
  let a := wrap72 r
  let f := flagList (accFlags a ++ [(fV, out72 r)] ++ more)
  { wr := [(.ac i, BitVec.allOnes 72, a)], fmask := f.1, fval := f.2 }

/-- The result of two lanes (R197): N, Z, U from the first, E and V the OR of both. -/
def accRes2 (i : Fin 4) (r1 r2 : Int) : ArithRes :=
  let a := wrap72 r1
  let b := wrap72 r2
  let f := flagList [(fN, a.msb), (fZ, a == 0), (fU, a.getLsbD 63 == a.getLsbD 62), (fE, flagE a || flagE b),
    (fV, out72 r1 || out72 r2)]
  { wr := [(.ac i, BitVec.allOnes 72, a), (.ac (i + 1), BitVec.allOnes 72, b)], fmask := f.1, fval := f.2 }

/-- The result of a 32-bit operation: N and Z of the result, and further flags. -/
def dRes (d : Fin 16) (v : Word) (more : List (Nat × Bool)) : ArithRes :=
  let f := flagList ([(fN, v.msb), (fZ, v == 0)] ++ more)
  { wr := [(.d d, 0xFFFFFFFF#72, v.setWidth 72)], fmask := f.1, fval := f.2 }

/-- Flags only (CMP). -/
def noRes (v : Word) (more : List (Nat × Bool)) : ArithRes :=
  let f := flagList ([(fN, v.msb), (fZ, v == 0)] ++ more)
  { wr := [], fmask := f.1, fval := f.2 }

/-- What an arithmetic operation reads: D registers and forwarded accumulators, SAT and FRAC, as the issuing cycle sees
them (R202), and the operand fields. -/
structure ArithIn where
  d    : Vector Word 16
  ac   : Vector (BitVec 72) 4
  sat  : Bool
  frac : Bool
  f1   : BitVec 4
  f2   : BitVec 4
  f3   : BitVec 4
  deriving DecidableEq, Repr

/-- D register n, signed. -/
def ArithIn.dv (x : ArithIn) (n : Nat) : Int := (x.d[Fin.ofNat 16 n]).toInt
def ArithIn.dw (x : ArithIn) (n : Nat) : Word := x.d[Fin.ofNat 16 n]

/-- The accumulator of F1[1:0], and its signed value. -/
def ArithIn.a (x : ArithIn) : Fin 4 := Fin.ofNat 4 x.f1.toNat
def ArithIn.av (x : ArithIn) : Int := acInt x.ac[x.a]
def ArithIn.av1 (x : ArithIn) : Int := acInt x.ac[x.a + 1]

/-- The accumulator of F2[1:0]. -/
def ArithIn.bv (x : ArithIn) : Int := acInt x.ac[(Fin.ofNat 4 x.f2.toNat : Fin 4)]

def ArithIn.s (x : ArithIn) : Nat := x.f2.toNat
def ArithIn.t (x : ArithIn) : Nat := x.f3.toNat
def ArithIn.dst (x : ArithIn) : Fin 16 := Fin.ofNat 16 x.f1.toNat

/-- The product shift field of F1[3:2] (R195). -/
def ArithIn.ps (x : ArithIn) : Nat := x.f1.toNat / 4

/-- An exact product, shifted by FRAC and PS (R195). -/
def ArithIn.prod (x : ArithIn) (ps i j : Nat) : Int :=
  x.dv i * x.dv j * (if x.frac then 2 else 1) * 2 ^ ps

/-- The real and imaginary parts of the complex product; J conjugates Dt. PS is F1[2], J is F1[3]. -/
def ArithIn.cprod (x : ArithIn) : Int × Int :=
  let ps := x.f1.toNat / 4 % 2
  let p (i j : Nat) := x.prod ps i j
  if x.f1.toNat ≥ 8 then
    (p x.s x.t + p (x.s + 1) (x.t + 1), p (x.s + 1) x.t - p x.s (x.t + 1))
  else
    (p x.s x.t - p (x.s + 1) (x.t + 1), p x.s (x.t + 1) + p (x.s + 1) x.t)

/-! ### The operations (Table 06-6) -/

def aMpy (x : ArithIn) : ArithRes := accRes x.a (x.prod x.ps x.s x.t) []
def aMac (x : ArithIn) : ArithRes := accRes x.a (x.av + x.prod x.ps x.s x.t) []
def aMsu (x : ArithIn) : ArithRes := accRes x.a (x.av - x.prod x.ps x.s x.t) []

/-- Ds·Dt + Ds+1·Dt+1. -/
def ArithIn.prod2 (x : ArithIn) : Int := x.prod x.ps x.s x.t + x.prod x.ps (x.s + 1) (x.t + 1)
def aMpy2 (x : ArithIn) : ArithRes := accRes x.a x.prod2 []
def aMac2 (x : ArithIn) : ArithRes := accRes x.a (x.av + x.prod2) []
def aMsu2 (x : ArithIn) : ArithRes := accRes x.a (x.av - x.prod2) []

def aDmpy (x : ArithIn) : ArithRes := accRes2 x.a (x.prod x.ps x.s x.t) (x.prod x.ps (x.s + 1) (x.t + 1))
def aDmac (x : ArithIn) : ArithRes :=
  accRes2 x.a (x.av + x.prod x.ps x.s x.t) (x.av1 + x.prod x.ps (x.s + 1) (x.t + 1))
def aQmac (x : ArithIn) : ArithRes :=
  accRes2 x.a (x.av + x.prod2) (x.av1 + (x.prod x.ps (x.s + 2) (x.t + 2) + x.prod x.ps (x.s + 3) (x.t + 3)))

def aCmpy (x : ArithIn) : ArithRes := accRes2 x.a x.cprod.1 x.cprod.2
def aCmac (x : ArithIn) : ArithRes := accRes2 x.a (x.av + x.cprod.1) (x.av1 + x.cprod.2)
def aCmsu (x : ArithIn) : ArithRes := accRes2 x.a (x.av - x.cprod.1) (x.av1 - x.cprod.2)

/-- MPYR: the shifted product rounded at bit 32; with SAT = 1 it saturates (R195). MPYR has no PS field: F1 is the
destination. -/
def aMpyr (x : ArithIn) : ArithRes :=
  let r := convDiv (x.prod 0 x.s x.t) (2 ^ 32)
  let q := if x.sat then satS 32 r else r
  let o := decide (q ≠ r)
  dRes x.dst (i32 q) ([(fV, o)] ++ if o then [(fSV, true)] else [])

def aAdda (x : ArithIn) : ArithRes := accRes x.a (x.av + x.bv) []
def aSuba (x : ArithIn) : ArithRes := accRes x.a (x.av - x.bv) []
def aMova (x : ArithIn) : ArithRes := accRes x.a x.bv []
def aNega (x : ArithIn) : ArithRes := accRes x.a (-x.av) []
def aAbsa (x : ArithIn) : ArithRes := accRes x.a (if x.av < 0 then -x.av else x.av) []
def aClra (x : ArithIn) : ArithRes := accRes x.a 0 []

/-- RND: rounded convergently at bit 32, [31:0] zero; with SAT = 1 saturated to the store range. -/
def aRnd (x : ArithIn) : ArithRes :=
  let r := convDiv x.av (2 ^ 32)
  let q := if x.sat then satS 32 r else r
  accRes x.a (q * 2 ^ 32) (if q ≠ r then [(fSV, true)] else [])

/-- The bounds of the store range: the values whose R154 store needs no saturation. -/
def storeMax : Int := (2 ^ 31 - 1) * 2 ^ 32 + 2 ^ 31 - 1
def storeMin : Int := -(2 ^ 63) - 2 ^ 31

/-- SATA: saturated to the store range without rounding. -/
def aSata (x : ArithIn) : ArithRes :=
  let q := clampI storeMin storeMax x.av
  accRes x.a q (if q ≠ x.av then [(fSV, true)] else [])

/-- A shift of an accumulator by k, left for k > 0: result and flags V, C (Table 06-7). V tells that a left shift lost a
bit that differs from the sign of its result. -/
def accShift (a : BitVec 72) (k : Int) : BitVec 72 × List (Nat × Bool) :=
  if k = 0 then (a, [(fV, false)])
  else if k > 0 then
    let n := k.toNat
    let r := a <<< n
    (r, [(fV, decide (acInt a * 2 ^ n ≠ acInt r)), (fC, a.getLsbD (72 - n))])
  else
    let n := (-k).toNat
    (a.sshiftRight n, [(fV, false), (fC, a.getLsbD (n - 1))])

def shiftRes (x : ArithIn) (k : Int) (extra : List (PReg × BitVec 72 × BitVec 72)) : ArithRes :=
  let r := accShift x.ac[x.a] k
  let f := flagList (accFlags r.1 ++ r.2)
  { wr := (.ac x.a, BitVec.allOnes 72, r.1) :: extra, fmask := f.1, fval := f.2 }

/-- The signed count of F2:F3. -/
def ArithIn.imm8 (x : ArithIn) : Int := sgn 8 (x.f2.toNat * 16 + x.f3.toNat)

def aAsla (x : ArithIn) : ArithRes := shiftRes x x.imm8 []
def aAslv (x : ArithIn) : ArithRes := shiftRes x (clampI (-72) 72 (x.dv x.s)) []

/-- Leading bits of the low `n` bits of a number that equal bit n − 1, counted from it. -/
def leadSame : Nat → Nat → Bool → Nat
  | 0, _, _ => 0
  | n + 1, v, b => if v.testBit n == b then 1 + leadSame n v b else 0

/-- e(AC) (R196). -/
def accExp (a : BitVec 72) : Int := (leadSame 72 a.toNat a.msb : Int) - 9

def aExp (x : ArithIn) : ArithRes :=
  dRes x.dst (i32 (accExp x.ac[(Fin.ofNat 4 x.f2.toNat : Fin 4)])) [(fV, false)]
def aNorm (x : ArithIn) : ArithRes :=
  let e := accExp x.ac[x.a]
  shiftRes x e [(.d (Fin.ofNat 16 x.s), 0xFFFFFFFF#72, (i32 e).setWidth 72)]
def aExpd (x : ArithIn) : ArithRes :=
  let v := x.dw x.s
  dRes x.dst (w32 (leadSame 32 v.toNat v.msb - 1)) [(fV, false)]

/-- Signed overflow of an exact 32-bit result. -/
def out32 (i : Int) : Bool := decide (i > 2 ^ 31 - 1) || decide (i < -(2 ^ 31))

/-- Carry out of an addition; no borrow of a subtraction. -/
def carryAdd (a b : Word) : Bool := decide (a.toNat + b.toNat ≥ 2 ^ 32)
def noBorrow (a b : Word) : Bool := decide (a.toNat ≥ b.toNat)

def aAdd (x : ArithIn) : ArithRes :=
  dRes x.dst (x.dw x.s + x.dw x.t) [(fV, out32 (x.dv x.s + x.dv x.t)), (fC, carryAdd (x.dw x.s) (x.dw x.t))]
def aAdds (x : ArithIn) : ArithRes :=
  let r := x.dv x.s + x.dv x.t
  dRes x.dst (i32 (satS 32 r)) ([(fV, out32 r), (fC, carryAdd (x.dw x.s) (x.dw x.t))]
    ++ if out32 r then [(fSV, true)] else [])
def aSub (x : ArithIn) : ArithRes :=
  dRes x.dst (x.dw x.s - x.dw x.t) [(fV, out32 (x.dv x.s - x.dv x.t)), (fC, noBorrow (x.dw x.s) (x.dw x.t))]
def aSubs (x : ArithIn) : ArithRes :=
  let r := x.dv x.s - x.dv x.t
  dRes x.dst (i32 (satS 32 r)) ([(fV, out32 r), (fC, noBorrow (x.dw x.s) (x.dw x.t))]
    ++ if out32 r then [(fSV, true)] else [])

def aAnd (x : ArithIn) : ArithRes := dRes x.dst (x.dw x.s &&& x.dw x.t) [(fV, false)]
def aOr (x : ArithIn) : ArithRes := dRes x.dst (x.dw x.s ||| x.dw x.t) [(fV, false)]
def aXor (x : ArithIn) : ArithRes := dRes x.dst (x.dw x.s ^^^ x.dw x.t) [(fV, false)]

/-- The count Dt[5:0]. -/
def ArithIn.cntS (x : ArithIn) : Nat := (x.dw x.t).toNat % 64

def aLsl (x : ArithIn) : ArithRes :=
  let n := x.cntS
  let v := x.dw x.s
  dRes x.dst (v <<< n) ([(fV, false)] ++ if n = 0 then [] else [(fC, decide (n ≤ 32) && v.getLsbD (32 - n))])
def aAsr (x : ArithIn) : ArithRes :=
  let n := x.cntS
  let v := x.dw x.s
  dRes x.dst (v.sshiftRight n) ([(fV, false)] ++ if n = 0 then [] else [(fC, if n ≤ 32 then v.getLsbD (n - 1) else v.msb)])
def aLsr (x : ArithIn) : ArithRes :=
  let n := x.cntS
  let v := x.dw x.s
  dRes x.dst (v >>> n) ([(fV, false)] ++ if n = 0 then [] else [(fC, v.getLsbD (n - 1))])

def aMin (x : ArithIn) : ArithRes := dRes x.dst (if x.dv x.s ≤ x.dv x.t then x.dw x.s else x.dw x.t) [(fV, false)]
def aMax (x : ArithIn) : ArithRes := dRes x.dst (if x.dv x.s ≥ x.dv x.t then x.dw x.s else x.dw x.t) [(fV, false)]

/-- ABS and NEG of 0x8000_0000 saturate with SAT = 1 (R197). -/
def absNeg (x : ArithIn) (r : Int) : ArithRes :=
  let o := out32 r
  dRes x.dst (i32 (if x.sat then satS 32 r else r)) ([(fV, o)] ++ if o && x.sat then [(fSV, true)] else [])
def aAbs (x : ArithIn) : ArithRes := absNeg x (if x.dv x.s < 0 then -x.dv x.s else x.dv x.s)
def aNeg (x : ArithIn) : ArithRes := absNeg x (-x.dv x.s)
def aCmp (x : ArithIn) : ArithRes :=
  noRes (x.dw x.s - x.dw x.t) [(fV, out32 (x.dv x.s - x.dv x.t)), (fC, noBorrow (x.dw x.s) (x.dw x.t))]

/-- The operation of an opcode (Table 06-6); none for NOP and for reserved opcodes. -/
def arithOp (op : Nat) : Option (ArithIn → ArithRes) :=
  match op with
  | 0x01 => some aMpy | 0x02 => some aMac | 0x03 => some aMsu | 0x04 => some aMpy2 | 0x05 => some aMac2
  | 0x06 => some aMsu2 | 0x07 => some aDmpy | 0x08 => some aDmac | 0x09 => some aQmac | 0x0A => some aCmpy
  | 0x0B => some aCmac | 0x0C => some aCmsu | 0x0D => some aMpyr | 0x10 => some aAdda | 0x11 => some aSuba
  | 0x12 => some aMova | 0x13 => some aNega | 0x14 => some aAbsa | 0x15 => some aClra | 0x16 => some aRnd
  | 0x17 => some aSata | 0x18 => some aAsla | 0x19 => some aAslv | 0x1A => some aExp | 0x1B => some aNorm
  | 0x1C => some aExpd | 0x20 => some aAdd | 0x21 => some aAdds | 0x22 => some aSub | 0x23 => some aSubs
  | 0x24 => some aAnd | 0x25 => some aOr | 0x26 => some aXor | 0x27 => some aLsl | 0x28 => some aAsr
  | 0x29 => some aLsr | 0x2A => some aMin | 0x2B => some aMax | 0x2C => some aAbs | 0x2D => some aNeg
  | 0x2E => some aCmp
  | _ => none

/-- Are the arithmetic fields legal (R188, R194, R195)? -/
def arithLegal (op cond f1 f2 f3 : Nat) : Bool :=
  if op = 0 then cond = 0 && f1 = 0 && f2 = 0 && f3 = 0
  else if cond = 15 then false
  else match op with
  | 0x01 | 0x02 | 0x03 => f1 / 4 < 3
  | 0x04 | 0x05 | 0x06 => f1 / 4 < 3 && f2 % 2 = 0 && f3 % 2 = 0
  | 0x07 | 0x08 => f1 / 4 < 3 && f1 % 2 = 0 && f2 % 2 = 0 && f3 % 2 = 0
  | 0x09 => f1 / 4 < 3 && f1 % 2 = 0 && f2 % 4 = 0 && f3 % 4 = 0
  | 0x0A | 0x0B | 0x0C => f1 % 2 = 0 && f2 % 2 = 0 && f3 % 2 = 0
  | 0x10 | 0x11 | 0x12 => f1 < 4 && f2 < 4 && f3 = 0
  | 0x13 | 0x14 | 0x15 | 0x16 | 0x17 => f1 < 4 && f2 = 0 && f3 = 0
  | 0x18 => f1 < 4 && (sgn 8 (f2 * 16 + f3)).natAbs ≤ 72
  | 0x19 => f1 < 4 && f3 = 0
  | 0x1A => f2 < 4 && f3 = 0
  | 0x1B => f1 < 4 && f3 = 0
  | 0x1C | 0x2C | 0x2D => f3 = 0
  | 0x2E => f1 = 0
  | 0x0D | 0x20 | 0x21 | 0x22 | 0x23 | 0x24 | 0x25 | 0x26 | 0x27 | 0x28 | 0x29 | 0x2A | 0x2B => true
  | _ => false

/-- A condition of Table 06-8 over the SR bits seen. -/
def condHolds (c : Nat) (sr : Word) : Bool :=
  let b (i : Nat) := bit sr i
  match c with
  | 0 => true
  | 1 => b fZ
  | 2 => !b fZ
  | 3 => b fN
  | 4 => !b fN
  | 5 => b fV
  | 6 => !b fV
  | 7 => b fC
  | 8 => !b fC
  | 9 => !b fZ && b fN == b fV
  | 10 => b fN == b fV
  | 11 => b fN != b fV
  | 12 => b fZ || b fN != b fV
  | 13 => b fU
  | 14 => b fE
  | _ => false

end Sys2Proof.Machine
end

