-- ==== Sys2Proof/Machine/PressWord.lean ====
section
/-!
DEFINITION. Issuing one Press instruction word: formats (R187 to R193), moves, control words (R199 to R201), loops and
repetitions (R161, R162), illegal words (R163, R188), entries of interrupts and faults (R164 to R167, R169).
-/

namespace Sys2Proof.Machine

/-! ### The Press in the state -/

def setPress (pi : Fin 16) (p : PressSt) (s : State) : State := { s with press := s.press.set pi p }

/-- Enter a mode: ISTAT.STATE, but not for the routine changes between RUNNING and WAITING (Table 05-13). In a mode that issues
nothing the results in flight arrive: the cycles held there count (R204). -/
def setPMode (pi : Fin 16) (m : PMode) (s : State) : State :=
  let p := s.press[pi]
  let q := if m = .run ∨ m = .stopping then p else drainPend p
  if p.mode = m then s else iset (pgPRESS pi) 6 (setPress pi { q with mode := m } s)

/-- Weight of the Press output on a frame, in 64ths: 64 in steady output, 0 in bypass (R172). -/
def fadeWeight (p : PressSt) (f : Nat) : Nat :=
  match p.fade with
  | none => if p.outFrom.isSome ∧ (p.mode = .run ∨ p.mode = .stopping) ∧ p.outFrom.getD 0 ≤ f then 64 else 0
  | some x =>
    if f < x.first then x.w0
    else
      let k := min 64 (f - x.first + 1)
      if x.up then x.w0 + (64 - x.w0) * k / 64 else x.w0 - x.w0 * k / 64

/-- A crossfade of the owned channels to bypass, from frame `f` on (R172). -/
def fadeToBypass (f : Nat) (p : PressSt) : PressSt :=
  { p with fade := some ⟨false, f, fadeWeight p (f - 1)⟩ }

/-- FAULTED at once, without a vector (R167): cause and address in FAULTINFO, bypass from the next frame. -/
def enterPressFault (pi : Fin 16) (cause addr : Nat) (s : State) : State :=
  let p := fadeToBypass (s.tb.frame + 1) s.press[pi]
  let s1 := setPMode pi .faulted (setPress pi { p with fault := false } s)
  alarm 9 (iset (pgPRESS pi) 1 (rset (aPRESS_FAULTINFO pi) (fld cause 28 ||| fld addr 0) s1))

/-- Make FAULT pending with its cause, for the instruction at `pc` (R164); a FAULT that is pending already keeps its cause. -/
def raiseFault (pi : Fin 16) (cause addr : Nat) (pc : BitVec 13) (s : State) : State :=
  let p := s.press[pi]
  if p.fault then s
  else rset (aPRESS_FAULTINFO pi) (fld cause 28 ||| fld addr 0) (setPress pi { p with fault := true, faultPc := pc } s)

/-- CTRL.U4, as SR[31] copies it (R153). -/
def u4Bit (s : State) (pi : Fin 16) : Bool := rbit s (aCTRL (pgPRESS pi)) 4

/-- U4 acts: CTRL.U4 = 1 and REMAP = 1 (R169, R170). -/
def u4Of (s : State) (pi : Fin 16) : Bool := rbit s (aCTRL (pgPRESS pi)) 4 && rbit s (aCTRL (pgPRESS pi)) 3

/-! ### Moves -/

/-- What one move field does. -/
structure MoveEff where
  ptr  : List PWrite
  wr   : List PWrite
  st   : List (PLoc × Word)
  rd   : List Nat
  bad  : Option Nat
  sv   : Bool
  deriving DecidableEq, Repr

def MoveEff.none : MoveEff := { ptr := [], wr := [], st := [], rd := [], bad := Option.none, sv := false }

/-- A result that arrives at the end of a cycle. -/
def res (c : Nat) (w : PReg × BitVec 72 × BitVec 72) : PWrite := { at_ := c, reg := w.1, mask := w.2.1, val := w.2.2, late := none }

/-- The word that a load finds. -/
def loadLoc (s : State) (pi : Fin 16) (p : PressSt) : PLoc → Word
  | .word a => rdWord s a
  | .io o => ioRead s pi p o
  | .none => 0

/-- A load or a store of one word or a pair at a data address, in the word issued in cycle `t` (R190 to R192). Register
sources are read in cycle t + 3; loads arrive in t + 4. -/
def accessEff (s : State) (pi : Fin 16) (p : PressSt) (t : Nat) (y store pair : Bool) (reg : BitVec 6) (a : Nat) : MoveEff :=
  let sat := (regAtCycle p (t + 3) .sr).getLsbD 15
  let regs := reg :: (if pair then (pairCode reg).toList else [])
  let vals := regs.map fun r => specRead r sat (regAtCycle p (t + 3) (specReg r).1)
  if (pair && a % 2 == 1) || pressLoc pi y a == .none || (pair && pressLoc pi y (a + 1) == .none) then
    -- the bank write is discarded, the saturating read stands; a read gives 0; a pair load at an odd address writes neither
    -- register (R150, R191, R192)
    { MoveEff.none with
      bad := some a
      sv := store && vals.any (·.2)
      wr := if store || (pair && a % 2 == 1) then [] else regs.map fun r => res (t + 4) (specWrite r 0) }
  else
    let locs := pressLoc pi y a :: (if pair then [pressLoc pi y (a + 1)] else [])
    if store then
      { MoveEff.none with st := locs.zip (vals.map (·.1)), sv := vals.any (·.2) }
    else
      { MoveEff.none with
        wr := (regs.zip locs).map fun x => res (t + 4) (specWrite x.1 (loadLoc s pi p x.2))
        rd := locs.filterMap fun l => match l with | .word b => some b | _ => Option.none }

/-- A register move: SRC to REG (R190, R191). -/
def regMoveEff (p : PressSt) (t : Nat) (reg src : BitVec 6) : MoveEff :=
  let sat := (regAtCycle p (t + 3) .sr).getLsbD 15
  let v := specRead src sat (regAtCycle p (t + 3) (specReg src).1)
  { MoveEff.none with wr := [res (t + 4) (specWrite reg v.1)], sv := v.2 }

/-- Is a move field legal (R188, R190, R192)? -/
def moveLegal (f : BitVec 20) : Bool :=
  let kind := f.toNat / 2 ^ 18
  let mode := f.toNat / 2 ^ 15 % 8
  let pn := f.toNat / 2 ^ 12 % 8
  let low := f.toNat % 64
  let reg : BitVec 6 := f.extractLsb' 6 6
  match kind with
  | 0 => mode < 6 && low = 0
  | 3 => mode = 0 && pn = 0
  | _ => mode < 6 && low < 2 && (low = 0 || (pairCode reg).isSome)

/-- The effect of a move field: addresses are generated in cycle t + 2, and the pointer is updated at its end (R155, R158). -/
def moveEff (s : State) (pi : Fin 16) (p : PressSt) (t : Nat) (y : Bool) (f : BitVec 20) : MoveEff :=
  let kind := f.toNat / 2 ^ 18
  let mode : BitVec 3 := f.extractLsb' 15 3
  let n : Fin 8 := Fin.ofNat 8 (f.toNat / 2 ^ 12)
  let reg : BitVec 6 := f.extractLsb' 6 6
  let src : BitVec 6 := f.extractLsb' 0 6
  if kind = 3 then regMoveEff p t reg src
  else
    let g (r : PReg) : BitVec 20 := (regAtCycle p (t + 2) r).setWidth 20
    match addrForm mode (g (.l n)) (g (.b n)) (g (.p n)) (g (.m n)) with
    | Option.none => MoveEff.none
    | some (a, q) =>
      let e := if kind = 0 then MoveEff.none else accessEff s pi p t y (kind == 2) (src.getLsbD 0) reg a.toNat
      { e with ptr := match q with
          | some v => [res (t + 2) (.p n, 0xFFFFF#72, v.setWidth 72)]
          | Option.none => [] }

/-- The effect of a long move field (R193). -/
def longEff (s : State) (pi : Fin 16) (p : PressSt) (t : Nat) (f : BitVec 40) : MoveEff :=
  let reg : BitVec 6 := f.extractLsb' 32 6
  let v : Word := f.setWidth 32
  if (f.extractLsb' 38 2) = 2#2 then { MoveEff.none with wr := [res (t + 4) (specWrite reg v)] }
  else accessEff s pi p t (f.getLsbD 38) (v.getLsbD 31) (v.getLsbD 20) reg (v.toNat % 2 ^ 20)

def longLegal (f : BitVec 40) : Bool :=
  let k := (f.extractLsb' 38 2).toNat
  let v := (f.setWidth 32).toNat
  k == 2 || (decide (k < 2) && v / 2 ^ 21 % 1024 == 0 && (v / 2 ^ 20 % 2 == 0 || (pairCode (f.extractLsb' 32 6)).isSome))

/-- Store one word of a move. -/
def storeLoc (pi : Fin 16) (x : PLoc × Word) (s : State) : State :=
  match x.1 with
  | .word a => stWord a x.2 s
  | .io 5 => setPress pi { s.press[pi] with msgRd := x.2.setWidth 16 } s
  | .io 0xA => iset (pgPRESS pi) 5 (rset (aPRESS_SIGNAL pi) x.2 s)
  | _ => s

/-! ### One issue of a parallel or long word -/

/-- What the arithmetic field reads in the word issued in cycle `t` (R202). -/
def arithIn (p : PressSt) (t : Nat) (f1 f2 f3 : BitVec 4) : ArithIn :=
  let sr := regAtCycle p (t + 3) .sr
  { d := Vector.ofFn fun i => (regAtCycle p (t + 3) (.d i)).setWidth 32
    ac := Vector.ofFn fun i => acForward p i
    sat := sr.getLsbD 15
    frac := sr.getLsbD 14
    f1 := f1, f2 := f2, f3 := f3 }

/-- The results of the arithmetic field (22 bits: OP, COND, F1, F2, F3): none when its condition is false (R198). -/
def arithWrites (p : PressSt) (t : Nat) (f : BitVec 22) : List PWrite :=
  match arithOp (f.toNat / 2 ^ 16) with
  | none => []
  | some op =>
    if condHolds (f.toNat / 2 ^ 12 % 16) ((regAtCycle p (t + 3) .sr).setWidth 32) then
      let r := op (arithIn p t (f.extractLsb' 8 4) (f.extractLsb' 4 4) (f.extractLsb' 0 4))
      r.wr.map (res (t + 5)) ++ [res (t + 5) (.sr, r.fmask.setWidth 72, r.fval.setWidth 72)]
    else []

/-- One issue: moves, arithmetic, stores, errors. It takes one cycle (R157). -/
def issueOnce (pi : Fin 16) (arith : BitVec 22) (effs : PressSt → Nat → List MoveEff) (s : State) : State :=
  let p := retire s.press[pi].cyc s.press[pi]
  let t := p.cyc
  let es := effs p t
  let sv := if es.any (·.sv) then [res (t + 5) (.sr, (flg true fSV).setWidth 72, (flg true fSV).setWidth 72)] else []
  let ws := es.flatMap (·.ptr) ++ es.flatMap (·.wr) ++ arithWrites p t arith ++ sv
  let s1 := setPress pi { pendAll ws p with cyc := t + 1 } s
  let s2 := (es.flatMap (·.st)).foldl (fun s x => storeLoc pi x s) s1
  let s3 := (es.filterMap (·.bad)).foldl (fun s a => raiseFault pi 2 a p.pc s) s2
  (es.flatMap (·.rd)).foldl (fun s a =>
    let r := eccRead a s
    if r.2 then enterPressFault pi 4 p.pc.toNat r.1 else r.1) s3

/-- Issue `n` times (R161), but nothing more once the Press is FAULTED (R167). -/
def issueTimes (pi : Fin 16) (arith : BitVec 22) (effs : State → PressSt → Nat → List MoveEff) : Nat → State → State
  | 0, s => s
  | n + 1, s =>
    let s1 := issueOnce pi arith (effs s) s
    if s1.press[pi].mode = .faulted then s1 else issueTimes pi arith effs n s1

/-! ### Fetch, loops and sequence -/

/-- The loop-end compare for the word at `pc` (R162): the inner level first. -/
def loopCompare (p : PressSt) : PressSt :=
  let at_ (n : Fin 2) : Bool := p.la[n] && p.r.le[n] == p.pc
  let dec (n : Fin 2) : PressSt :=
    { p with
      r := { p.r with lc := p.r.lc.set n (p.r.lc[n] - 1) }
      pend := p.pend.filter fun w => !(w.reg == .lc n && w.at_ == p.cyc + 1)
      next := some p.r.ls[n] }
  if at_ 1 && p.r.lc[1] != 1 then dec 1
  else
    let la1 := if at_ 1 then p.la.set 1 false else p.la
    if at_ 0 && p.r.lc[0] != 1 then { dec 0 with la := la1 }
    else { p with la := if at_ 0 then la1.set 0 false else la1, next := some (p.pc + 1) }

/-- Fetch the word at `pc`, unless its fetch has already been seen: results due have arrived, LOOP counts are settled, and
the next address is known. -/
def fetchStep (p : PressSt) : PressSt :=
  if p.next.isSome then p else settleLa p.cyc (loopCompare (retire p.cyc (settleCounts p.cyc p)))

/-- The SR that RTI restores, once its delay slots have issued: stored bits, LA, IH; in U4 mode the shadow set swaps back
(R160, R166, R169). -/
def restoreSr (sr : Word) (p : PressSt) : PressSt :=
  { p with
    r := { p.r with sr := sr &&& srBits }
    la := #v[bit sr 28, bit sr 29]
    ih := bit sr 22 }

/-- Swap the working set with the shadow set (R169). -/
def swapShadow (p : PressSt) : PressSt :=
  { p with
    shadow := { d := Vector.ofFn fun i => p.r.d[i.castLE (by decide : 8 ≤ 16)]
                ac := Vector.ofFn fun i => p.r.ac[i.castLE (by decide : 2 ≤ 4)]
                p := Vector.ofFn fun i => p.r.p[i.castLE (by decide : 4 ≤ 8)]
                sr := p.r.sr }
    r := { p.r with
      d := Vector.ofFn fun i => if h : i.val < 8 then p.shadow.d[i.val] else p.r.d[i]
      ac := Vector.ofFn fun i => if h : i.val < 2 then p.shadow.ac[i.val] else p.r.ac[i]
      p := Vector.ofFn fun i => if h : i.val < 4 then p.shadow.p[i.val] else p.r.p[i]
      sr := p.shadow.sr } }

/-- Pass to the next word: the branch in progress counts its delay slots, and takes effect after the second (R160). -/
def advancePc (p : PressSt) : PressSt :=
  let nxt := p.next.getD (p.pc + 1)
  let p := { p with next := none, rep := none, brkSeen := false }
  match p.br with
  | none => { p with pc := nxt }
  | some b =>
    if b.slots > 1 then { p with pc := nxt, br := some { b with slots := b.slots - 1 } }
    else
      let p := { p with pc := b.target.getD nxt, br := none }
      match b.rti with
      | none => p
      | some sr =>
        let p := if p.sh then { swapShadow p with sh := false } else p
        restoreSr sr p

/-- A branch issued now: two delay slots follow. -/
def startBranch (target : Option (BitVec 13)) (rti : Option Word) (p : PressSt) : PressSt :=
  { p with pc := p.next.getD (p.pc + 1), next := none, brkSeen := false, br := some ⟨2, target, rti⟩ }

/-! ### Entries -/

/-- A boundary at which an interrupt can be accepted: not inside a REP, a fetch or delay slots (R165). -/
def atBoundary (p : PressSt) : Bool := p.rep.isNone && p.br.isNone && p.next.isNone

/-- A TICK that would be accepted at a boundary (R165). -/
def tickDue (s : State) (pi : Fin 16) : Bool :=
  let p := s.press[pi]
  p.tick && (regAtCycle p (p.cyc + 3) .sr).getLsbD 23 && !(u4Of s pi && p.ih)

/-- Accept an interrupt or trap: push the return PC and SR, clear IE and LA, set IH, go to the vector; 7 cycles, in which
every result arrives (R166, R168, R169, R204). FAULTED keeps the PC of the faulting instruction; for the overflow of a TICK
entry, which no instruction caused, the return PC stands there (DESIGN CHOICE, log entry 95). -/
def acceptEntry (pi : Fin 16) (kind : PKind) (s : State) : State :=
  let u4 := u4Of s pi
  let p0 := s.press[pi]
  let p := drainPend p0
  let at_ : BitVec 13 := if kind = .tick then p.pc else p.faultPc
  let double := decide (kind = .fault) && p.ih && (u4 || (p.stack.head?.map (·.kind) == some .fault))
  let s1 := if kind = .fault then iset (pgPRESS pi) 1 s else s
  if double then enterPressFault pi 5 at_.toNat (setPress pi p s1)
  else if p.stack.length ≥ 8 then enterPressFault pi 3 at_.toNat (setPress pi p s1)
  else
    let v : BitVec 13 := match kind with | .tick => 4 | .fault => 8 | .trap => 12 | .call => 0
    let p2 := { p with
      stack := ⟨kind, p.pc, srFull p (u4Bit s pi) (p.cyc + 100)⟩ :: p.stack
      cyc := p.cyc + 7, pc := v, next := none, wait := false, la := Vector.replicate 2 false, ih := true
      tick := if kind = .tick then false else p.tick
      fault := if kind = .fault then false else p.fault }
    let p3 := if u4 then { swapShadow p2 with sh := true } else p2
    setPress pi { p3 with r := { p3.r with sr := p3.r.sr &&& ~~~flg true 23 } } s1

/-! ### Which words may issue -/

/-- The breakpoint matches (R173). -/
def brkHit (s : State) (pi : Fin 16) : Bool :=
  isSolo s && rbit s (aPRESS_BRK pi) 31 && rfld s (aPRESS_BRK pi) 12 0 == s.press[pi].pc.toNat && !s.press[pi].brkSeen

/-- DBG_HALT = 1 stops the Press at an acceptance point (R173). -/
def dbgStops (s : State) (pi : Fin 16) : Bool :=
  isSolo s && rbit s (aCTRL (pgPRESS pi)) 7 && s.press[pi].mode == .run && atBoundary s.press[pi]

/-- The Press issues its next word: it runs, CORE runs, and no interrupt, breakpoint or debug halt comes first (R165, R173). -/
def canIssue (s : State) (pi : Fin 16) : Bool :=
  let p := s.press[pi]
  (p.mode == .run || p.mode == .stopping) && !p.wait && coreRuns s
    && !dbgStops s pi && !(atBoundary p && (p.fault || tickDue s pi)) && !(p.mode == .run && brkHit s pi && atBoundary p)

/-- The address lies in the last three words of an active loop (R163). The decoder works in stage 3: it sees the LE that a LOOP
just before has set, and a level that the fetch of this word has ended is no longer active (R162; DEDUCED, log entry 95). -/
def nearLoopEnd (p : PressSt) : Bool :=
  let f (n : Fin 2) : Bool :=
    let le := (regAtCycle p (p.cyc + 2) (.le n)).toNat
    p.la[n] && decide (p.pc.toNat ≤ le) && decide (le ≤ p.pc.toNat + 2)
  f 0 || f 1

/-- After an issue: DBG_HALT acts at the boundary reached. -/
def settleDbg (pi : Fin 16) (s : State) : State :=
  if dbgStops s pi then
    setPMode pi .dbg (setPress pi (fadeToBypass (s.tb.frame + 1) s.press[pi]) s)
  else s

/-- An illegal word: it is not executed; the fault becomes pending (R163). -/
def illegalWord (pi : Fin 16) (s : State) : State :=
  let p := fetchStep s.press[pi]
  raiseFault pi 1 p.pc.toNat p.pc (setPress pi (advancePc { p with cyc := p.cyc + 1 }) s)

/-- Issue a parallel or long word, as often as a REP asks. -/
def issueData (pi : Fin 16) (arith : BitVec 22) (effs : State → PressSt → Nat → List MoveEff) (s : State) : State :=
  let p := fetchStep s.press[pi]
  let s1 := issueTimes pi arith effs (p.rep.getD 1) (setPress pi p s)
  if s1.press[pi].mode = .faulted then s1 else setPress pi (advancePc s1.press[pi]) s1

/-- Control words (Table 06-9), decoded. -/
inductive Ctl where
  | bra (cond : Nat) (target : BitVec 13)
  | call (cond : Nat) (target : BitVec 13)
  | rts (cond : Nat)
  | rti
  | jmpr (cond : Nat) (s : Fin 16)
  | rep (n : Nat)
  | repr (s : Fin 16)
  | loop (c : BitVec 16) (e : BitVec 13)
  | loopr (s : Fin 16) (e : BitVec 13)
  | wait
  | trap
  | movs (into : Bool) (creg : Nat) (dn : Fin 16)
  deriving DecidableEq, Repr

/-- Branches, calls, returns, REP and LOOP: not near a loop end (R163). -/
def Ctl.sequence : Ctl → Bool
  | .wait | .trap | .movs .. => false
  | _ => true

/-- Is the control word legal here (R163, R199 to R201)? -/
def ctlLegal (s : State) (pi : Fin 16) (c : Ctl) : Bool :=
  let p := fetchStep s.press[pi]
  p.br.isNone && !(c.sequence && nearLoopEnd p) &&
  match c with
  | .bra k _ | .call k _ | .jmpr k _ => k < 15
  | .rts k => k < 15 && !p.stack.isEmpty
  | .rti => !p.stack.isEmpty
  | .loop _ e | .loopr _ e => !(p.la[0] && p.la[1]) && p.pc.toNat + 3 ≤ e.toNat
  | .wait => (regAtCycle p (p.cyc + 3) .sr).getLsbD 23
  | .trap => !(u4Of s pi && p.ih)
  | .movs _ r _ => r < 7
  | _ => true

/-- May a REP repeat it (R163, R201)? -/
def Ctl.repeatable : Ctl → Bool
  | .movs .. => true
  | _ => false

/-- LOOP on the lowest free level (R162): the values arrive at the end of stage 3. -/
def startLoop (c : BitVec 16) (e : BitVec 13) (p : PressSt) : PressSt :=
  let n : Fin 2 := if p.la[0] then 1 else 0
  let t := p.cyc
  pendAll [res (t + 2) (.lc n, 0xFFFF#72, c.setWidth 72), res (t + 2) (.ls n, 0x1FFF#72, (p.next.getD (p.pc + 1)).setWidth 72),
    res (t + 2) (.le n, 0x1FFF#72, e.setWidth 72)] { p with la := p.la.set n true }

/-- The control register of a MOVS code (R200). -/
def ctlReg (r : Nat) : PReg :=
  match r with
  | 1 => .lc 0 | 2 => .lc 1 | 3 => .ls 0 | 4 => .ls 1 | 5 => .le 0 | 6 => .le 1 | _ => .sr

/-- The bits that MOVS writes: of SR only the RW fields (R153, R197). -/
def ctlMask (r : Nat) : BitVec 72 := if r = 0 then 0x0080C080#72 else if r < 3 then 0xFFFF#72 else 0x1FFF#72

/-- MOVS (R200, R202): a copy into Dn arrives in cycle t + 4, into SR in t + 5, into a loop register in t + 4. -/
def movsWrite (p : PressSt) (u4 into : Bool) (r : Nat) (dn : Fin 16) : PWrite :=
  let t := p.cyc
  if into then
    let v := (regAtCycle p (t + 3) (.d dn)) &&& ctlMask r
    { at_ := if r = 0 then t + 5 else t + 4, reg := ctlReg r, mask := ctlMask r, val := v, late := none }
  else if r = 1 ∨ r = 2 then
    { at_ := t + 4, reg := .d dn, mask := 0xFFFFFFFF#72, val := 0, late := some (.count (if r = 1 then 0 else 1)) }
  else
    let v := if r = 0 then (srFull p u4 (t + 3)).setWidth 72 &&& ~~~0x30000000#72 else regAtCycle p (t + 3) (ctlReg r)
    { at_ := t + 4, reg := .d dn, mask := 0xFFFFFFFF#72, val := v, late := if r = 0 then some .loops else none }

/-- WAIT: the Press waits; LOAD is the time since the tick (R173, R185). -/
def enterWait (pi : Fin 16) (s : State) : State :=
  let p := s.press[pi]
  let load := min (p.cyc - p.tickCyc) (2 ^ 18 - 1)
  peak (aPRESS_LOAD_PEAK pi) load (rset (aPRESS_LOAD pi) (w32 load) (setPress pi { p with wait := true } s))

/-- Issue a legal control word, after its fetch. Conditional control words see flags in stage 3 (cycle t + 2, R202). -/
def issueCtl (pi : Fin 16) (c : Ctl) (s : State) : State :=
  let p := fetchStep s.press[pi]
  let t := p.cyc
  let taken (k : Nat) : Bool := condHolds k ((regAtCycle p (t + 2) .sr).setWidth 32)
  let dAg (i : Fin 16) : Word := (regAtCycle p (t + 2) (.d i)).setWidth 32
  let q := { p with cyc := t + 1 }
  let plain (x : PressSt) : State := setPress pi (advancePc x) s
  let go (k : Nat) (target : BitVec 13) : State :=
    setPress pi (startBranch (if taken k then some target else none) none q) s
  match c with
  | .bra k a => go k a
  | .jmpr k i => go k ((dAg i).setWidth 13)
  | .call k a =>
    if taken k then
      if p.stack.length ≥ 8 then enterPressFault pi 3 p.pc.toNat (setPress pi q s)
      else
        let ret := p.next.getD (p.pc + 1) + 2
        setPress pi (startBranch (some a) none { q with stack := ⟨.call, ret, 0⟩ :: p.stack }) s
    else go k a
  | .rts k =>
    match p.stack with
    | [] => s
    | f :: rest =>
      if taken k then setPress pi (startBranch (some f.pc) none { q with stack := rest }) s else go k f.pc
  | .rti =>
    match p.stack with
    | [] => s
    | f :: rest =>
      if f.kind = .call then
        let w := freeWord s
        setPress pi (startBranch (some f.pc) (some w.1) { q with stack := rest }) w.2
      else setPress pi (startBranch (some f.pc) (some f.sr) { q with stack := rest }) s
  | .rep n => plain' n
  | .repr i => plain' ((dAg i).toNat % 1024)
  | .loop k e => plain { startLoop k e p with cyc := t + 1 }
  | .loopr i e => plain { startLoop ((dAg i).setWidth 16) e p with cyc := t + 1 }
  | .wait => enterWait pi (plain q)
  | .trap => acceptEntry pi .trap (plain { q with faultPc := p.pc })
  | .movs into r i => 
    let n := p.rep.getD 1
    plain ((List.range n).foldl (fun x _ => { pendAll [movsWrite x (u4Bit s pi) into r i] x with cyc := x.cyc + 1 }) p)
where plain' (n : Nat) : State :=
  let p := fetchStep s.press[pi]
  let x := advancePc { p with cyc := p.cyc + 1 }
  setPress pi { x with rep := some (if n = 0 then 1024 else n) } s

/-- Issue a control word. A REP that would repeat one it may not is the illegal instruction: it ends, and the word that
follows it has not issued (R163). -/
def issueControl (pi : Fin 16) (c : Ctl) (s : State) : State :=
  let p := s.press[pi]
  if p.rep.isSome ∧ ¬ c.repeatable then
    raiseFault pi 1 (p.pc - 1).toNat (p.pc - 1) (setPress pi { p with rep := none } s)
  else if ctlLegal s pi c then issueCtl pi c s
  else illegalWord pi s

/-! ### Whole words -/

/-- Decode a control word (Table 06-9); none for an undefined encoding. -/
def decodeCtl (w : BitVec 64) : Option Ctl :=
  let cond := (w.extractLsb' 52 4).toNat
  let ops := (w.extractLsb' 0 52).toNat
  let tgt : BitVec 13 := w.setWidth 13
  let rs : Fin 16 := Fin.ofNat 16 ops
  match (w.extractLsb' 56 6).toNat with
  | 0x01 => if ops < 2 ^ 13 then some (.bra cond tgt) else none
  | 0x02 => if ops < 2 ^ 13 then some (.call cond tgt) else none
  | 0x03 => if ops = 0 then some (.rts cond) else none
  | 0x04 => if ops = 0 ∧ cond = 0 then some .rti else none
  | 0x05 => if ops < 16 then some (.jmpr cond rs) else none
  | 0x06 => if ops < 1024 ∧ cond = 0 then some (.rep ops) else none
  | 0x07 => if ops < 16 ∧ cond = 0 then some (.repr rs) else none
  | 0x08 => if ops < 2 ^ 32 ∧ ops / 2 ^ 13 % 8 = 0 ∧ cond = 0 then some (.loop (BitVec.ofNat 16 (ops / 2 ^ 16)) tgt) else none
  | 0x09 => if ops < 2 ^ 20 ∧ ops / 2 ^ 13 % 8 = 0 ∧ cond = 0 then some (.loopr (Fin.ofNat 16 (ops / 2 ^ 16)) tgt) else none
  | 0x0A => if ops = 0 ∧ cond = 0 then some .wait else none
  | 0x0B => if ops = 0 ∧ cond = 0 then some .trap else none
  | 0x0C => if ops < 2 ^ 21 ∧ ops / 16 % 2 ^ 12 = 0 ∧ cond = 0 then
      some (.movs (decide (ops / 2 ^ 20 = 1)) (ops / 2 ^ 16 % 16) rs) else none
  | _ => none

/-- Are all fields of a parallel or long word legal? -/
def dataLegal (long : Bool) (arith : BitVec 22) (mv : BitVec 40) : Bool :=
  arithLegal (arith.toNat / 2 ^ 16) (arith.toNat / 2 ^ 12 % 16) (arith.toNat / 256 % 16) (arith.toNat / 16 % 16)
      (arith.toNat % 16)
    && (if long then longLegal mv else moveLegal (mv.extractLsb' 20 20) && moveLegal (mv.extractLsb' 0 20))

/-- The effects of the two move fields, or of the long move field. -/
def dataEffs (pi : Fin 16) (long : Bool) (mv : BitVec 40) (s : State) (p : PressSt) (t : Nat) : List MoveEff :=
  if long then [longEff s pi p t mv]
  else [moveEff s pi p t false (mv.extractLsb' 20 20), moveEff s pi p t true (mv.extractLsb' 0 20)]

/-- Issue a parallel or long word of the given fields. -/
def issueFields (pi : Fin 16) (long : Bool) (arith : BitVec 22) (mv : BitVec 40) (s : State) : State :=
  if dataLegal long arith mv then issueData pi arith (dataEffs pi long mv) s else illegalWord pi s

/-- Issue a 64-bit word (R187, R188). -/
def issueWord (pi : Fin 16) (w : BitVec 64) (s : State) : State :=
  match (w.extractLsb' 62 2).toNat with
  | 0 => issueFields pi false (w.extractLsb' 40 22) (w.setWidth 40) s
  | 1 => issueFields pi true (w.extractLsb' 40 22) (w.setWidth 40) s
  | 2 => match decodeCtl w with
    | some c => issueControl pi c s
    | none => illegalWord pi s
  | _ => illegalWord pi s

/-- The word at `pc` lies in the boot-vector ROM (R171), which no SECDED word covers (R151). -/
def inRom (s : State) (pi : Fin 16) : Bool := !rbit s (aCTRL (pgPRESS pi)) 3 && decide (s.press[pi].pc.toNat < 0x100)

/-- The fetch from the program bank: the state with any error recorded, and whether one was uncorrectable (R151). -/
def fetchEcc (pi : Fin 16) (s : State) : State × Bool :=
  if inRom s pi then (s, false)
  else
    let a := pressBase pi + 8 * s.press[pi].pc.toNat
    let r0 := eccRead a s
    let r1 := eccRead (a + 4) r0.1
    (r1.1, r0.2 || r1.2)

/-- A word that the Press comes to issue: when something else comes first, nothing issues. An uncorrectable error in the fetch puts
the Press in FAULTED at once (R151, R167). -/
def pressIssue (pi : Fin 16) (f : State → State) (s : State) : State :=
  if canIssue s pi then
    let r := fetchEcc pi s
    if r.2 then enterPressFault pi 4 s.press[pi].pc.toNat r.1 else settleDbg pi (f r.1)
  else awake (settleDbg pi) s

end Sys2Proof.Machine
end

