-- ==== Sys2Proof/Machine/PressOps.lean ====
section
/-!
DEFINITION. The Press instructions as commands: the Press whose turn it is issues the word of the command (chapter 06). The
command stands for the fetch of that word (log entry 10); DBG_STEP fetches from the program bank itself.
-/

namespace Sys2Proof.Machine

/-- The arithmetic field of an opcode and its operand fields (Table 06-2). -/
def arithField (op : BitVec 6) (x : ArithArgs) : BitVec 22 := op ++ (x.cond ++ (x.f1 ++ (x.f2 ++ x.f3)))

/-- Issue a word with the given arithmetic opcode. -/
def issueArith (pi : Fin 16) (op : BitVec 6) (x : ArithArgs) (s : State) : State :=
  pressIssue pi (issueFields pi x.long (arithField op x) x.mv) s

/-- A move field (Table 06-3). -/
def moveField (kind : BitVec 2) (mode pn : BitVec 3) (reg low : BitVec 6) : BitVec 20 := kind ++ (mode ++ (pn ++ (reg ++ low)))

/-- The two move fields of a parallel word, with the named one in the X or the Y place. -/
def moveFields (y : Bool) (f other : BitVec 20) : BitVec 40 := if y then other ++ f else f ++ other

/-- Issue a parallel word without arithmetic whose X or Y field is `f`. -/
def issueMove (pi : Fin 16) (y : Bool) (f other : BitVec 20) (s : State) : State :=
  pressIssue pi (issueFields pi false 0 (moveFields y f other)) s

/-- Issue a control word. -/
def issueCtlWord (pi : Fin 16) (c : Ctl) (s : State) : State := pressIssue pi (issueControl pi c) s

/-! ### Arithmetic rows (R194 to R196) -/

/-- NOP, opcode 0x00 (Table 06-6). -/
def execOpNop (p : Fin 16) (x : ArithArgs) (s : State) : Host.Outcome State Fault Refusal :=
  .next (issueArith p 0x00#6 x s)

/-- MPY, opcode 0x01 (Table 06-6). -/
def execOpMpy (p : Fin 16) (x : ArithArgs) (s : State) : Host.Outcome State Fault Refusal :=
  .next (issueArith p 0x01#6 x s)

/-- MAC, opcode 0x02 (Table 06-6). -/
def execOpMac (p : Fin 16) (x : ArithArgs) (s : State) : Host.Outcome State Fault Refusal :=
  .next (issueArith p 0x02#6 x s)

/-- MSU, opcode 0x03 (Table 06-6). -/
def execOpMsu (p : Fin 16) (x : ArithArgs) (s : State) : Host.Outcome State Fault Refusal :=
  .next (issueArith p 0x03#6 x s)

/-- MPY2, opcode 0x04 (Table 06-6). -/
def execOpMpy2 (p : Fin 16) (x : ArithArgs) (s : State) : Host.Outcome State Fault Refusal :=
  .next (issueArith p 0x04#6 x s)

/-- MAC2, opcode 0x05 (Table 06-6). -/
def execOpMac2 (p : Fin 16) (x : ArithArgs) (s : State) : Host.Outcome State Fault Refusal :=
  .next (issueArith p 0x05#6 x s)

/-- MSU2, opcode 0x06 (Table 06-6). -/
def execOpMsu2 (p : Fin 16) (x : ArithArgs) (s : State) : Host.Outcome State Fault Refusal :=
  .next (issueArith p 0x06#6 x s)

/-- DMPY, opcode 0x07 (Table 06-6). -/
def execOpDmpy (p : Fin 16) (x : ArithArgs) (s : State) : Host.Outcome State Fault Refusal :=
  .next (issueArith p 0x07#6 x s)

/-- DMAC, opcode 0x08 (Table 06-6). -/
def execOpDmac (p : Fin 16) (x : ArithArgs) (s : State) : Host.Outcome State Fault Refusal :=
  .next (issueArith p 0x08#6 x s)

/-- QMAC, opcode 0x09 (Table 06-6). -/
def execOpQmac (p : Fin 16) (x : ArithArgs) (s : State) : Host.Outcome State Fault Refusal :=
  .next (issueArith p 0x09#6 x s)

/-- CMPY, opcode 0x0A (Table 06-6). -/
def execOpCmpy (p : Fin 16) (x : ArithArgs) (s : State) : Host.Outcome State Fault Refusal :=
  .next (issueArith p 0x0A#6 x s)

/-- CMAC, opcode 0x0B (Table 06-6). -/
def execOpCmac (p : Fin 16) (x : ArithArgs) (s : State) : Host.Outcome State Fault Refusal :=
  .next (issueArith p 0x0B#6 x s)

/-- CMSU, opcode 0x0C (Table 06-6). -/
def execOpCmsu (p : Fin 16) (x : ArithArgs) (s : State) : Host.Outcome State Fault Refusal :=
  .next (issueArith p 0x0C#6 x s)

/-- MPYR, opcode 0x0D (Table 06-6). -/
def execOpMpyr (p : Fin 16) (x : ArithArgs) (s : State) : Host.Outcome State Fault Refusal :=
  .next (issueArith p 0x0D#6 x s)

/-- ADDA, opcode 0x10 (Table 06-6). -/
def execOpAdda (p : Fin 16) (x : ArithArgs) (s : State) : Host.Outcome State Fault Refusal :=
  .next (issueArith p 0x10#6 x s)

/-- SUBA, opcode 0x11 (Table 06-6). -/
def execOpSuba (p : Fin 16) (x : ArithArgs) (s : State) : Host.Outcome State Fault Refusal :=
  .next (issueArith p 0x11#6 x s)

/-- MOVA, opcode 0x12 (Table 06-6). -/
def execOpMova (p : Fin 16) (x : ArithArgs) (s : State) : Host.Outcome State Fault Refusal :=
  .next (issueArith p 0x12#6 x s)

/-- NEGA, opcode 0x13 (Table 06-6). -/
def execOpNega (p : Fin 16) (x : ArithArgs) (s : State) : Host.Outcome State Fault Refusal :=
  .next (issueArith p 0x13#6 x s)

/-- ABSA, opcode 0x14 (Table 06-6). -/
def execOpAbsa (p : Fin 16) (x : ArithArgs) (s : State) : Host.Outcome State Fault Refusal :=
  .next (issueArith p 0x14#6 x s)

/-- CLRA, opcode 0x15 (Table 06-6). -/
def execOpClra (p : Fin 16) (x : ArithArgs) (s : State) : Host.Outcome State Fault Refusal :=
  .next (issueArith p 0x15#6 x s)

/-- RND, opcode 0x16 (Table 06-6). -/
def execOpRnd (p : Fin 16) (x : ArithArgs) (s : State) : Host.Outcome State Fault Refusal :=
  .next (issueArith p 0x16#6 x s)

/-- SATA, opcode 0x17 (Table 06-6). -/
def execOpSata (p : Fin 16) (x : ArithArgs) (s : State) : Host.Outcome State Fault Refusal :=
  .next (issueArith p 0x17#6 x s)

/-- ASLA, opcode 0x18 (Table 06-6). -/
def execOpAsla (p : Fin 16) (x : ArithArgs) (s : State) : Host.Outcome State Fault Refusal :=
  .next (issueArith p 0x18#6 x s)

/-- ASLV, opcode 0x19 (Table 06-6). -/
def execOpAslv (p : Fin 16) (x : ArithArgs) (s : State) : Host.Outcome State Fault Refusal :=
  .next (issueArith p 0x19#6 x s)

/-- EXP, opcode 0x1A (Table 06-6). -/
def execOpExp (p : Fin 16) (x : ArithArgs) (s : State) : Host.Outcome State Fault Refusal :=
  .next (issueArith p 0x1A#6 x s)

/-- NORM, opcode 0x1B (Table 06-6). -/
def execOpNorm (p : Fin 16) (x : ArithArgs) (s : State) : Host.Outcome State Fault Refusal :=
  .next (issueArith p 0x1B#6 x s)

/-- EXPD, opcode 0x1C (Table 06-6). -/
def execOpExpd (p : Fin 16) (x : ArithArgs) (s : State) : Host.Outcome State Fault Refusal :=
  .next (issueArith p 0x1C#6 x s)

/-- ADD, opcode 0x20 (Table 06-6). -/
def execOpAdd (p : Fin 16) (x : ArithArgs) (s : State) : Host.Outcome State Fault Refusal :=
  .next (issueArith p 0x20#6 x s)

/-- ADDS, opcode 0x21 (Table 06-6). -/
def execOpAdds (p : Fin 16) (x : ArithArgs) (s : State) : Host.Outcome State Fault Refusal :=
  .next (issueArith p 0x21#6 x s)

/-- SUB, opcode 0x22 (Table 06-6). -/
def execOpSub (p : Fin 16) (x : ArithArgs) (s : State) : Host.Outcome State Fault Refusal :=
  .next (issueArith p 0x22#6 x s)

/-- SUBS, opcode 0x23 (Table 06-6). -/
def execOpSubs (p : Fin 16) (x : ArithArgs) (s : State) : Host.Outcome State Fault Refusal :=
  .next (issueArith p 0x23#6 x s)

/-- AND, opcode 0x24 (Table 06-6). -/
def execOpAnd (p : Fin 16) (x : ArithArgs) (s : State) : Host.Outcome State Fault Refusal :=
  .next (issueArith p 0x24#6 x s)

/-- OR, opcode 0x25 (Table 06-6). -/
def execOpOr (p : Fin 16) (x : ArithArgs) (s : State) : Host.Outcome State Fault Refusal :=
  .next (issueArith p 0x25#6 x s)

/-- XOR, opcode 0x26 (Table 06-6). -/
def execOpXor (p : Fin 16) (x : ArithArgs) (s : State) : Host.Outcome State Fault Refusal :=
  .next (issueArith p 0x26#6 x s)

/-- LSL, opcode 0x27 (Table 06-6). -/
def execOpLsl (p : Fin 16) (x : ArithArgs) (s : State) : Host.Outcome State Fault Refusal :=
  .next (issueArith p 0x27#6 x s)

/-- ASR, opcode 0x28 (Table 06-6). -/
def execOpAsr (p : Fin 16) (x : ArithArgs) (s : State) : Host.Outcome State Fault Refusal :=
  .next (issueArith p 0x28#6 x s)

/-- LSR, opcode 0x29 (Table 06-6). -/
def execOpLsr (p : Fin 16) (x : ArithArgs) (s : State) : Host.Outcome State Fault Refusal :=
  .next (issueArith p 0x29#6 x s)

/-- MIN, opcode 0x2A (Table 06-6). -/
def execOpMin (p : Fin 16) (x : ArithArgs) (s : State) : Host.Outcome State Fault Refusal :=
  .next (issueArith p 0x2A#6 x s)

/-- MAX, opcode 0x2B (Table 06-6). -/
def execOpMax (p : Fin 16) (x : ArithArgs) (s : State) : Host.Outcome State Fault Refusal :=
  .next (issueArith p 0x2B#6 x s)

/-- ABS, opcode 0x2C (Table 06-6). -/
def execOpAbs (p : Fin 16) (x : ArithArgs) (s : State) : Host.Outcome State Fault Refusal :=
  .next (issueArith p 0x2C#6 x s)

/-- NEG, opcode 0x2D (Table 06-6). -/
def execOpNeg (p : Fin 16) (x : ArithArgs) (s : State) : Host.Outcome State Fault Refusal :=
  .next (issueArith p 0x2D#6 x s)

/-- CMP, opcode 0x2E (Table 06-6). -/
def execOpCmp (p : Fin 16) (x : ArithArgs) (s : State) : Host.Outcome State Fault Refusal :=
  .next (issueArith p 0x2E#6 x s)

/-! ### Moves (R190 to R193) -/

/-- MOVE_LOAD: KIND 0b01. -/
def execMoveLoad (p : Fin 16) (x : MoveArgs) (s : State) : Host.Outcome State Fault Refusal :=
  .next (issueMove p x.y (moveField 1 x.mode x.pn x.reg ((BitVec.ofBool x.pair).setWidth 6)) x.other s)

/-- MOVE_STORE: KIND 0b10. -/
def execMoveStore (p : Fin 16) (x : MoveArgs) (s : State) : Host.Outcome State Fault Refusal :=
  .next (issueMove p x.y (moveField 2 x.mode x.pn x.reg ((BitVec.ofBool x.pair).setWidth 6)) x.other s)

/-- MOVE_REGISTER: KIND 0b11. -/
def execMoveRegister (p : Fin 16) (x : MoveRegArgs) (s : State) : Host.Outcome State Fault Refusal :=
  .next (issueMove p x.y (moveField 3 0 0 x.reg x.src) x.other s)

/-- POINTER_UPDATE: KIND 0b00. -/
def execPointerUpdate (p : Fin 16) (x : PtrArgs) (s : State) : Host.Outcome State Fault Refusal :=
  .next (issueMove p x.y (moveField 0 x.mode x.pn 0 0) x.other s)

/-- The long move field of an absolute access (Table 06-5). -/
def longAbsField (x : LongAbsArgs) : BitVec 40 :=
  (if x.y then 1#2 else 0#2) ++ (x.reg ++ (BitVec.ofBool x.store ++ (0#10 ++ (BitVec.ofBool x.pair ++ x.addr))))

/-- LONG_ABSOLUTE: LKIND 0b00 or 0b01. -/
def execLongAbsolute (p : Fin 16) (x : LongAbsArgs) (s : State) : Host.Outcome State Fault Refusal :=
  .next (pressIssue p (issueFields p true x.arith (longAbsField x)) s)

/-- LONG_IMMEDIATE: LKIND 0b10. -/
def execLongImmediate (p : Fin 16) (x : LongImmArgs) (s : State) : Host.Outcome State Fault Refusal :=
  .next (pressIssue p (issueFields p true x.arith (2#2 ++ (x.reg ++ x.value))) s)

/-! ### Control words (R199 to R201) -/

/-- BRA (R160). -/
def execBra (p : Fin 16) (cond : BitVec 4) (target : BitVec 13) (s : State) : Host.Outcome State Fault Refusal :=
  .next (issueCtlWord p (.bra cond.toNat target) s)

/-- CALL (R167). -/
def execCall (p : Fin 16) (cond : BitVec 4) (target : BitVec 13) (s : State) : Host.Outcome State Fault Refusal :=
  .next (issueCtlWord p (.call cond.toNat target) s)

/-- RTS (R167). -/
def execRts (p : Fin 16) (cond : BitVec 4) (s : State) : Host.Outcome State Fault Refusal :=
  .next (issueCtlWord p (.rts cond.toNat) s)

/-- RTI (R166, R169). -/
def execRti (p : Fin 16) (s : State) : Host.Outcome State Fault Refusal := .next (issueCtlWord p .rti s)

/-- JMPR (R199). -/
def execJmpr (p : Fin 16) (cond : BitVec 4) (r : BitVec 4) (s : State) : Host.Outcome State Fault Refusal :=
  .next (issueCtlWord p (.jmpr cond.toNat r.toFin) s)

/-- REP (R161). -/
def execRep (p : Fin 16) (n : BitVec 10) (s : State) : Host.Outcome State Fault Refusal :=
  .next (issueCtlWord p (.rep n.toNat) s)

/-- REPR (R161, R199). -/
def execRepr (p : Fin 16) (r : BitVec 4) (s : State) : Host.Outcome State Fault Refusal :=
  .next (issueCtlWord p (.repr r.toFin) s)

/-- LOOP (R162). -/
def execLoop (p : Fin 16) (n : BitVec 16) (e : BitVec 13) (s : State) : Host.Outcome State Fault Refusal :=
  .next (issueCtlWord p (.loop n e) s)

/-- LOOPR (R162, R199). -/
def execLoopr (p : Fin 16) (r : BitVec 4) (e : BitVec 13) (s : State) : Host.Outcome State Fault Refusal :=
  .next (issueCtlWord p (.loopr r.toFin e) s)

/-- WAIT (R173, R201). -/
def execWait (p : Fin 16) (s : State) : Host.Outcome State Fault Refusal := .next (issueCtlWord p .wait s)

/-- TRAP (R201). -/
def execTrap (p : Fin 16) (s : State) : Host.Outcome State Fault Refusal := .next (issueCtlWord p .trap s)

/-- MOVS (R200). -/
def execMovs (p : Fin 16) (x : MovsArgs) (s : State) : Host.Outcome State Fault Refusal :=
  .next (issueCtlWord p (.movs x.into x.creg.toNat x.dn.toFin) s)

/-- LOOP_END_FETCH: the fetch of LEn of an active level (R162): it decrements LCn and branches to LSn, or ends the level. -/
def loopEndFetch (pi : Fin 16) (lvl : Fin 2) (s : State) : State :=
  let p := s.press[pi]
  if canIssue s pi ∧ p.la[lvl] = true ∧ p.r.le[lvl] = p.pc ∧ p.next = none ∧ p.rep = none then setPress pi (fetchStep p) s
  else s

def execLoopEndFetch (p : Fin 16) (lvl : Fin 2) (s : State) : Host.Outcome State Fault Refusal := .next (awake (loopEndFetch p lvl) s)

/-! ### Interrupts and faults as events (R164 to R167) -/

/-- TICK_ENTRY: a pending TICK is accepted at a boundary that is not held off; FAULT comes first. -/
def tickEntry (pi : Fin 16) (s : State) : State :=
  let p := s.press[pi]
  if (p.mode = .run ∨ p.mode = .stopping) ∧ coreRuns s ∧ atBoundary p ∧ ¬ dbgStops s pi ∧ ¬ p.fault ∧ tickDue s pi then acceptEntry pi .tick s
  else settleDbg pi s

def execTickEntry (p : Fin 16) (s : State) : Host.Outcome State Fault Refusal := .next (awake (tickEntry p) s)

/-- FAULT_ENTRY: a pending FAULT is accepted through vector 2, or leads to FAULTED. -/
def faultEntry (pi : Fin 16) (s : State) : State :=
  let p := s.press[pi]
  if (p.mode = .run ∨ p.mode = .stopping) ∧ coreRuns s ∧ atBoundary p ∧ ¬ dbgStops s pi ∧ p.fault then acceptEntry pi .fault s
  else settleDbg pi s

def execFaultEntry (p : Fin 16) (s : State) : Host.Outcome State Fault Refusal := .next (awake (faultEntry p) s)

/-- BRK_MATCH: the PC matches the enabled breakpoint (R173). -/
def brkMatch (pi : Fin 16) (s : State) : State :=
  let p := s.press[pi]
  if p.mode = .run ∧ ¬ p.wait ∧ coreRuns s ∧ atBoundary p ∧ brkHit s pi then
    setPMode pi .dbg (setPress pi { fadeToBypass (s.tb.frame + 1) p with brkSeen := true } s)
  else s

def execBrkMatch (p : Fin 16) (s : State) : Host.Outcome State Fault Refusal := .next (awake (brkMatch p) s)

/-- The word at a program address: the ROM while REMAP = 0, else the program bank (R149, R171). -/
def pressFetch (s : State) (pi : Fin 16) (a : Nat) : BitVec 64 :=
  if !rbit s (aCTRL (pgPRESS pi)) 3 && decide (a < 0x100) then Config.romWord a
  else rdWord s (pressBase pi + 8 * a + 4) ++ rdWord s (pressBase pi + 8 * a)

/-- One instruction of a DBG_HALTED Press (R173). An uncorrectable error in the fetch puts it in FAULTED (R151).
The cycles held in DBG_HALTED before the next one count: its results arrive (R204). -/
def dbgStepOne (pi : Fin 16) (s : State) : State :=
  let p := s.press[pi]
  if p.mode = .dbg ∧ ¬ p.wait ∧ isSolo s ∧ coreRuns s then
    let a := p.pc.toNat
    let r := fetchEcc pi s
    if r.2 then enterPressFault pi 4 a r.1
    else
      let s1 := issueWord pi (pressFetch r.1 pi a) r.1
      setPress pi (drainPend s1.press[pi]) s1
  else s

end Sys2Proof.Machine
end

