-- ==== Sys2Proof/Machine/PressBlock.lean ====
section
/-!
DEFINITION. The block contract of the Presses: rings, block ticks, start, stop and halt, debug controls, messages and host
access to local memory (05_press_model.md R170 to R184, R530).
-/

namespace Sys2Proof.Machine

/-! ### Configuration (R175, R176) -/

/-- The ring, range and message configuration that the registers hold. -/
def pressCfg (s : State) (pi : Nat) : PCfg :=
  let range (i : Nat) : PRange :=
    let w := rget s (aPRESS_INRANGE pi i)
    ⟨bit w 31, bits w 26 16, bits w 9 0⟩
  let code := rfld s (aPRESS_MSG_SIZE pi) 3 0
  { ranges := [range 0, range 1, range 2, range 3]
    iBase := rfld s (aPRESS_IRING_BASE pi) 19 0
    iDepth := rfld s (aPRESS_IRING_DEPTH pi) 6 0
    oBase := rfld s (aPRESS_ORING_BASE pi) 19 0
    oDepth := rfld s (aPRESS_ORING_DEPTH pi) 6 0
    mBase := rfld s (aPRESS_MSG_BASE pi) 19 0
    mSize := 2 ^ (if 9 ≤ code ∧ code ≤ 14 then code else 9)
    budget := budgetOf s }

/-- The configuration meets R175 and R176. -/
def pressCfgOk (s : State) (c : PCfg) : Bool :=
  let n := blockN s
  let top := if s.clk.mult = 2 then 511 else 1023
  let en := c.ranges.filter (·.en)
  let r := recWords c
  let depth (d : Nat) : Bool := d % n == 0 && decide (2 * n ≤ d)
  en.all (fun x => decide (1 ≤ x.count ∧ x.count ≤ 1024 ∧ x.first + x.count - 1 ≤ top))
    && decide (1 ≤ r ∧ r ≤ 1024) && depth c.iDepth && depth c.oDepth
    && decide (c.iBase + c.iDepth * r ≤ bankWords) && decide (c.oBase + c.oDepth * ownedCount c ≤ bankWords)

/-- Input channels of a record, in order. -/
def recChannels (c : PCfg) : List Nat := (c.ranges.filter (·.en)).flatMap fun r => (List.range r.count).map (r.first + ·)

/-- Channels of the owned range. -/
def ownedChannels (c : PCfg) : List Nat :=
  match c.ranges with
  | r :: _ => if r.en then (List.range r.count).map (r.first + ·) else []
  | [] => []

/-- A started Press, or one that halts or stands still before it is HALTED, owns its range (R172). -/
def pressOwns (p : PressSt) : Bool := !(p.mode == .halted)

/-! ### Rings (R176, R178) -/

/-- The input records of ring frame `f`, for every Press with an enabled range and rings that fit. -/
def writeRings (f : Nat) (ins : List (Nat × Int)) (s : State) : State :=
  (List.finRange 16).foldl (fun s (pi : Fin 16) =>
    let c := s.press[pi].cfg
    let ch := recChannels c
    if ch.isEmpty ∨ ¬ pressCfgOk s c then s
    else stWords (xAddr pi (c.iBase + f % c.iDepth * ch.length)) (ch.map fun k => i32 (alGet 0 ins k)) s) s

/-- The output sample that a Press hands over for its owned channel of index `i` on frame `f`: that of frame f − 2N − 1. PRESSDMA
delivers a word with an uncorrectable error as 0 (Table 14-6). -/
def pressOut (pi : Fin 16) (i f : Nat) (s : State) : Int × State :=
  let p := s.press[pi]
  let n := blockN s
  if f < 2 * n + 1 ∨ p.cfg.oDepth = 0 then (0, s)
  else
    let a := yAddr pi (p.cfg.oBase + (f - 2 * n - 1) % p.cfg.oDepth * ownedCount p.cfg + i)
    let r := dmaRead a s
    (r.1.toInt, r.2)

/-- The Basin's inputs on frame `f` from the delayed samples `ins`: owned channels take the output of the lowest-numbered
Press that owns them, crossfaded with bypass (R172, R178). -/
def insertPress (f : Nat) (ins : List (Nat × Int)) (s : State) : List (Nat × Int) × State :=
  let step (acc : (List (Nat × Int) × State) × List Nat) (pi : Fin 16) : (List (Nat × Int) × State) × List Nat :=
    let p := s.press[pi]
    if ¬ pressOwns p then acc
    else
      let own := ownedChannels p.cfg
      let w := fadeWeight p f
      let put (l : List (Nat × Int) × State) (x : Nat × Nat) : List (Nat × Int) × State :=
        if acc.2.contains x.1 then l
        else
          let r := pressOut pi x.2 f l.2
          (alSet l.1 x.1 (convDiv (alGet 0 ins x.1 * (64 - w : Nat) + r.1 * (w : Nat)) 64), r.2)
      (if w = 0 then acc.1 else (own.zip (List.range own.length)).foldl put acc.1, acc.2 ++ own)
  ((List.finRange 16).foldl step ((ins, s), [])).1

/-! ### Messages (R182, R183) -/

/-- The words of a record published in data block `b`. -/
def msgWords (s : State) (m : PMsg) (b : Nat) : List Word :=
  (fld m.arg 16 ||| fld m.mtype 8 ||| fld m.data.length 0)
    :: (fld (min m.held 0xFFFF) 16 ||| fld ((m.land - b * blockN s) % 32) 0) :: m.ticket :: m.data

/-- Write a record at `start` of the message ring; words beyond the bank have no place. -/
def putMsg (pi : Fin 16) (c : PCfg) (start : Nat) (ws : List Word) (s : State) : State :=
  (ws.zip (List.range ws.length)).foldl (fun s x =>
    let a := c.mBase + (start + x.2) % c.mSize
    if a < bankWords then stWord (xAddr pi a) x.1 s else s) s

/-- Publish the records of earlier frames in order, while they fit; answers the records published, and whether any is held. -/
def pressPublish (pi : Fin 16) (b words n : Nat) : List PMsg → State → State × Nat × List PMsg
  | [], s => (s, n, [])
  | m :: t, s =>
    let p := s.press[pi]
    if m.land / blockN s > b then (s, n, m :: t)
    else
      let ws := msgWords s m (m.land / blockN s)
      let used := (p.msgWr - p.msgRd).toNat
      if words + ws.length ≤ 512 ∧ used + ws.length ≤ p.cfg.mSize then
        let s1 := putMsg pi p.cfg p.msgWr.toNat ws s
        let s2 := setPress pi { s1.press[pi] with msgWr := p.msgWr + BitVec.ofNat 16 ws.length } s1
        pressPublish pi b (words + ws.length) (n + 1) t
          (match findEv m.ticket s2.comp.running with
           | none => s2
           | some e =>
             let s3 := { s2 with comp := { s2.comp with running := dropEv m.ticket s2.comp.running } }
             if m.held = 0 then finishAt e s.tb.frame s3
             else finish e outLate (m.held * blockN s) e.land s.tb.frame s3)
      else (s, n, (m :: t).map fun x => if x.land / blockN s > b then x else { x with held := x.held + 1 })

/-- Message words held (MSG_PEND). -/
def msgPend (p : PressSt) : Nat := (heldMsgs p).foldl (fun a m => a + m.data.length + 3) 0

/-- PRESS_MSG (R182, R183): the record waits for the tick that ends its block. -/
def pressMsg (t : Word) (s : State) : State :=
  match landingHead s t opPressMsg with
  | none => s
  | some e =>
    let w := e.payload.getD 0 0
    let pi : Fin 16 := Fin.ofNat 16 (bits w 3 0)
    let m : PMsg := { ticket := e.ticket, land := s.tb.frame, arg := bits w 31 16, mtype := bits w 15 8, data := e.payload.drop 1, held := 0 }
    let s1 := keepRunning e (popLanding s)
    setPress pi { s1.press[pi] with msgs := s1.press[pi].msgs ++ [m] } s1

/-! ### Block ticks (R177, R180) -/

/-- The fs code of FLAGS. -/
def fsCode (s : State) : Nat :=
  match s.clk.mult, s.clk.fam with
  | 0, f => if f then 1 else 0
  | 1, f => if f then 3 else 2
  | _, _ => 4

/-- The present frame begins with block tick T_k. -/
def isTick (s : State) : Bool := decide (1 ≤ s.tb.frame) && (s.tb.frame - 1) % blockN s == 0

/-- A tick becomes pending for this Press. -/
def takesTick (p : PressSt) : Bool := p.mode == .run || p.mode == .stopping || p.mode == .dbg

/-- Copy words, from and to these addresses; the answer is true where a word met an uncorrectable error (R151). -/
def copyWords : List (Nat × Nat) → State → State × Bool
  | [], s => (s, false)
  | (a, b) :: t, s =>
    let r := eccRead a s
    if r.2 then (r.1, true) else copyWords t (stWord b (rdWord r.1 a) r.1)

/-- The ring words of the present data block: each owned channel's input word and its output word (R171, R176). -/
def romMoves (s : State) (pi : Fin 16) : List (Nat × Nat) :=
  let p := s.press[pi]
  let c := p.cfg
  (List.range (blockN s)).flatMap fun f => (List.range (ownedCount c)).map fun i =>
    (xAddr pi (c.iBase + (p.inPos + f) % c.iDepth * recWords c + i), yAddr pi (c.oBase + (p.outPos + f) % c.oDepth * ownedCount c + i))

/-- Registers after the ROM program has run: which it uses the spec does not say, so each holds a free value, with IE = 1, for it
waits for ticks (R171, R201). -/
def romRegs (s : State) : PressRegs :=
  let w (i : Nat) : Word := Config.freeWord (s.freeCtr + i)
  { d := Vector.ofFn fun i => w i, ac := Vector.ofFn fun i => (w (16 + i)).setWidth 8 ++ (w (20 + i) ++ w (24 + i))
    p := Vector.ofFn fun i => (w (28 + i)).setWidth 20, m := Vector.ofFn fun i => (w (36 + i)).setWidth 20
    l := Vector.ofFn fun i => (w (44 + i)).setWidth 20, b := Vector.ofFn fun i => (w (52 + i)).setWidth 20
    sr := (w 60 &&& srBits) ||| flg true 23, lc := Vector.ofFn fun i => (w (61 + i)).setWidth 16
    ls := Vector.ofFn fun i => (w (63 + i)).setWidth 13, le := Vector.ofFn fun i => (w (65 + i)).setWidth 13 }

/-- The ROM program runs from a pending TICK to its WAIT (R171): it copies each owned channel of the data block from the input ring to
the output ring. One step stands for its words, which the spec does not give (DESIGN CHOICE, log entry 95): LOAD is free, and the PC
lies in the ROM. -/
def romRun (pi : Fin 16) (s : State) : State :=
  let p := s.press[pi]
  let a := (Config.freeWord (s.freeCtr + 67)).toNat % 0x100
  let load := (Config.freeWord (s.freeCtr + 68)).toNat % 2 ^ 18
  if rbit s (aCTRL (pgPRESS pi)) 3 ∨ ¬ p.tick ∨ ¬ (p.mode = .run ∨ p.mode = .stopping) ∨ ¬ coreRuns s then s
  else
    let q := { p with r := romRegs s, pend := [], pc := BitVec.ofNat 13 a, next := none, br := none, rep := none, wait := true, tick := false }
    let r := copyWords (romMoves s pi) (setPress pi q { s with freeCtr := s.freeCtr + 69 })
    if r.2 then enterPressFault pi 4 a r.1 else peak (aPRESS_LOAD_PEAK pi) load (rset (aPRESS_LOAD pi) (w32 load) r.1)

/-- The tick of one Press: configuration, messages, descriptor, TICK. -/
def tickPress (k : Nat) (starved : Bool) (pi : Fin 16) (s : State) : State :=
  let c := pressCfg s pi
  let b : Int := (k : Int) - 1
  let s1 := setPress pi { s.press[pi] with cfg := c } s
  let r := if k = 0 then (s1, 0, s1.press[pi].msgs) else pressPublish pi (k - 1) 0 0 s1.press[pi].msgs s1
  let held := r.2.2.any fun m => decide (0 < m.held)
  let s2 := if held then iset (pgPRESS pi) 4 r.1 else r.1
  let p := s2.press[pi]
  let live := takesTick p
  let over_ := live && !p.wait
  let ring (d : Nat) : Nat := if d = 0 then 0 else ((b * blockN s) % (d : Int)).toNat
  let p1 := { p with
    msgs := r.2.2
    blk := unsgn 64 b
    inPos := ring c.iDepth
    outPos := ring c.oDepth
    flags := flg p.ovr 30 ||| flg starved 29 ||| flg held 28 ||| fld (fsCode s) 18 ||| fld (rfld s (aCTRL (pgPRESS 0)) 15 13) 15
      ||| fld (r.2.1 % 2 ^ 15) 0
    tick := p.tick || live
    tickCyc := if live then p.cyc else p.tickCyc
    ovr := over_
    tickF := s.tb.frame }
  let s3 := setPress pi p1 s2
  if over_ then iset (pgPRESS pi) 2 (cnt (aPRESS_OVR_CNT pi) s3) else s3

/-- BLOCK_TICK: at the boundary that starts frame kN + 1, once. The delay lines exchange their blocks with the Presses. -/
def blockTick (starved : List (Fin 16)) (s : State) : State :=
  if isTick s ∧ s.press[0].tickF ≠ s.tb.frame then
    let k := (s.tb.frame - 1) / blockN s
    (List.finRange 16).foldl (fun s (pi : Fin 16) => romRun pi (tickPress k (starved.contains pi) pi s)) (blockLines k s)
  else s

/-- The block tick of the present frame has come for this Press. -/
def atTick (s : State) (p : PressSt) : Bool := isTick s && p.tickF == s.tb.frame

/-! ### Start, stop, halt (R170 to R173, R530) -/

/-- The lowest channel of this Press's owned range that a lower-numbered Press owns or takes at this tick. -/
def ownConflict (s : State) (pi : Fin 16) : Option Nat :=
  let own := ownedChannels s.press[pi].cfg
  let lower := (List.finRange 16).filter fun (q : Fin 16) =>
    let x := s.press[q]
    decide (q.val < pi.val) && (pressOwns x || (x.start.isSome && decide (x.start.getD 0 ≤ s.tb.frame) && pressCfgOk s x.cfg))
  own.find? fun c => lower.any fun (q : Fin 16) => (ownedChannels s.press[q].cfg).contains c

/-- The Press takes the RESET vector with its start values; its first tick is pending. DBG_HALT = 1 stops it at the boundary before
its first word (R173); without REMAP the ROM program runs (R171). -/
def startPress (pi : Fin 16) (s : State) : State :=
  let p := s.press[pi]
  romRun pi <| settleDbg pi <| setPMode pi .run (setPress pi { p with
    wait := false, r := PressRegs.start, pend := [], pc := 0, next := none, br := none, rep := none
    la := Vector.replicate 2 false, ih := false, sh := false, stack := [], shadow := PShadow.start
    tick := true, fault := false, faultPc := 0, brkSeen := false, tickCyc := p.cyc, flags := p.flags ||| flg true 31, ovr := false
    start := none, stop := none
    outFrom := some (s.tb.frame + blockN s)
    fade := some ⟨true, s.tb.frame + blockN s, 0⟩ } s)

/-- PRESS_START. -/
def pressStart (pi : Fin 16) (s : State) : State :=
  let p := s.press[pi]
  match p.start with
  | none => s
  | some f =>
    if ¬ (f ≤ s.tb.frame ∧ p.mode = .halted ∧ atTick s p) then s
    else
      let off (s : State) : State := setPress pi { s.press[pi] with start := none } s
      if ¬ pressCfgOk s p.cfg then off (errcap (pgPRESS pi) 4 0 s)
      else match ownConflict s pi with
        | some c => off (errcap (pgPRESS pi) 3 c s)
        | none => startPress pi s

/-- PRESS_STOP: EN = 0 has landed; the Press keeps running toward its halt while its channels fade to bypass (R172). -/
def pressStop (pi : Fin 16) (s : State) : State :=
  let p := s.press[pi]
  match p.stop with
  | none => s
  | some f => if p.mode = .run ∨ p.mode = .dbg then setPMode pi .stopping (setPress pi (fadeToBypass f p) s) else s

/-- An SRST of a PRESS page that is HALTED (R15, R530): the pages's state returns to reset; memory, message ring and held
records stay. -/
def pressSrst (pi : Fin 16) (s : State) : State :=
  let p := s.press[pi]
  setPress pi { PressSt.reset with
    cyc := p.cyc, msgWr := p.msgWr, msgRd := p.msgRd, msgs := p.msgs, mirrorQ := p.mirrorQ, cfg := p.cfg, tickF := p.tickF
    r := p.r, pc := p.pc, stack := p.stack, shadow := p.shadow } s

/-- PRESS_HALT: the first block tick after frame f + 63. -/
def pressHalt (pi : Fin 16) (s : State) : State :=
  let p := s.press[pi]
  match p.stop with
  | none => s
  | some f =>
    if p.mode = .stopping ∧ atTick s p ∧ f + 63 < s.tb.frame then
      setPMode pi .halted (setPress pi { p with stop := none, outFrom := none, fade := none, tick := false, fault := false } s)
    else s

/-- What a write of CTRL.EN does to a Press when it lands: EN = 1 asks for a start; EN = 0 asks for a stop, ends FAULTED
and withdraws a start (R171 to R173). -/
def pressEn (pi : Fin 16) (old new : Bool) (s : State) : State :=
  let p := s.press[pi]
  if new then (if old then s else setPress pi { p with start := some s.tb.frame } s)
  else
    match p.mode with
    | .halted => setPress pi { p with start := none } s
    | .faulted => setPMode pi .halted (setPress pi { p with start := none, outFrom := none, fade := none } s)
    | .stopping => setPress pi { p with start := none } s
    | _ => if old then setPress pi { p with stop := some s.tb.frame } s else s

/-! ### Debug controls (R173) -/

/-- A DBG_HALTED Press goes on: its output fades in from the next frame. -/
def dbgResume (pi : Fin 16) (s : State) : State :=
  let p := s.press[pi]
  if p.mode = .dbg then
    setPMode pi .run (setPress pi { p with fade := some ⟨true, s.tb.frame + 1, fadeWeight p s.tb.frame⟩ } s)
  else s

/-- A write of CTRL.DBG_HALT in SOLO. -/
def dbgHalt (pi : Fin 16) (v : Bool) (s : State) : State := if v then settleDbg pi s else dbgResume pi s

/-- A write of CTRL.STEP in SOLO on a DBG_HALTED Press: one instruction; it stays DBG_HALTED while DBG_HALT = 1. -/
def dbgStep (pi : Fin 16) (s : State) : State :=
  if s.press[pi].mode = .dbg then
    let s1 := dbgStepOne pi s
    if s1.press[pi].mode = .dbg then
      (if rbit s1 (aCTRL (pgPRESS pi)) 7 then iset (pgPRESS pi) 6 s1 else dbgResume pi s1)
    else s1
  else s

/-! ### Host access to local memory (R174) -/

/-- The Press and the word of a local-memory address; none for an unpopulated one (R149). -/
def pressMemAt (a : Nat) : Option (Fin 16) :=
  if 0x400000 ≤ a ∧ a < 0xC00000 ∧ (a - 0x400000) % 0x80000 < 0x60000 then some (Fin.ofNat 16 ((a - 0x400000) / 0x80000)) else none

/-- The Press uses its P bank (R174): RUNSTATE is RUNNING or STOPPING. -/
def pressFetches (s : State) (pi : Fin 16) : Bool :=
  match s.press[pi].mode with
  | .halted | .dbg | .faulted => false
  | .run => !s.press[pi].wait
  | .stopping => true

/-- The queue to the partner is full: the device holds HRDY_N. -/
def pressMirrorFull (s : State) (pi : Fin 16) : Bool := isActive s && decide (s.press[pi].mirrorQ.length ≥ 256)

/-- A host write to local memory: only of a HALTED Press. The answer says whether the write took effect. -/
def pressMemWrite (pi : Fin 16) (a : Nat) (be : BitVec 4) (v : Word) (s : State) : State × Bool :=
  if s.press[pi].mode ≠ .halted then (errcap (pgPRESS pi) 1 a s, false)
  else
    let r := stWordBe a be v s
    if r.2 && isActive r.1 then
      (setPress pi { r.1.press[pi] with mirrorQ := r.1.press[pi].mirrorQ ++ [(a, rdWord r.1 a)] } r.1, true)
    else r

/-- PRESS_DMA_STARVE: a DMA word has waited too long. -/
def pressDmaStarve (pi : Fin 16) (s : State) : State := iset (pgPRESS pi) 3 (cnt (aPRESS_STARVE_CNT pi) s)

end Sys2Proof.Machine
end

