-- ==== Sys2Proof/Machine/View.lean ====
section
/-!
DEFINITION. What a read of a register page or of the Proof window shows (00_scope.md R6, R11 to R16; the STAT and read-only
fields of every register table; 16_host_interface_protection.md R445, R446, R454).
-/

namespace Sys2Proof.Machine

/-- A read that the spec gives no value: ball levels and measured word clocks (log entry 2). -/
def freeRead (s : State) (a : Nat) : Word := Config.freeWord ((a + 1) * 2 ^ 80 + s.now)

/-- Number of elements below `n` with a property. -/
def countTo (n : Nat) (p : Nat → Bool) : Nat := ((List.range n).filter p).length

/-- A word whose bit i is `p i`, for i below `n`. -/
def maskTo (n : Nat) (p : Nat → Bool) : Word := w32 (((List.range n).filter p).map fun i => 2 ^ i).sum

/-! ### The page header (R12 to R14, R477) -/

/-- First page of the kind of page `p`. -/
def kindPage (p : Nat) : Nat :=
  if 0x10 ≤ p ∧ p ≤ 0x13 then 0x10 else if p = 0x17 then 0x16 else if 0x20 ≤ p ∧ p ≤ 0x2F then 0x20 else p

def pidWord (p : Nat) : Word := fld (0x5A00 + kindPage p) 16 ||| fld (p - kindPage p) 8 ||| 1#32

/-- CAPS: pairing is available unless fused off (R366). -/
def capsWord (s : State) (p : Nat) : Word := if p = pgTWIN then flg (!rbit s aOTP_CFG 8) 0 else 0

def pressAt (s : State) (p : Nat) : PressSt := s.press[Fin.ofNat 16 (p - 0x20)]

/-- CTRL as read: SRST while a reset runs or is held, and PRESS1–15 show the BLKN of PRESS0 (R14, R186, R530). -/
def ctrlWord (s : State) (p : Nat) : Word :=
  let w := alGet (rget s (aCTRL p)) s.landNext (aCTRL p)
  let isPress := decide (0x20 ≤ p ∧ p ≤ 0x2F)
  let w := if isPress ∧ p ≠ 0x20 then setBits w 15 13 (rfld s (aCTRL (pgPRESS 0)) 15 13) else w
  w ||| flg (s.srst.contains p || (isPress && (pressAt s p).srstHeld)) 1

/-! ### STAT -/

def netStat (s : State) (n : Fin 2) : Word :=
  let l := s.net.link[n]
  -- lock comes before the link (R242), and what the line carries then is not the model's: a free value while the port is on (log entry 22)
  let lock := l.up || (enOf s (pgNET n) && decide (netMode s n ≠ 0) && (freeRead s (aISTAT (pgNET n) - 4)).getLsbD 30)
  flg l.up 31 ||| flg lock 30 ||| flg l.hiBer 29 ||| flg l.anDone 28 ||| flg l.speedErr 27

def clkStat (s : State) : Word :=
  flg s.clk.lockA 31 ||| flg s.clk.lockD 30 ||| flg s.clk.lockS 29 ||| flg s.clk.fabFb 28 ||| flg s.clk.coreGated 27
    ||| maskTo 12 (domainRuns s)

def pllmStat (s : State) : Word :=
  let ramping : Bool := match s.clk.change with | some c => c.phase == .ramp | none => false
  flg s.clk.lockM 31 ||| flg ramping 30 ||| flg (ticksHeld s) 29 ||| flg s.clk.search.isSome 28 ||| flg s.clk.fam 24
    ||| fld s.clk.mult 20

/-- DPLL.STAT (Table 10-5). -/
def dpllStat (s : State) : Word :=
  let d := s.dpll
  fld d.st.code 28 ||| flg d.pulling 27 ||| fld (d.sel.getD 0) 24 ||| flg d.sel.isSome 23 ||| flg d.hoValid 22 ||| fld d.step 20
    ||| flg (d.step == 3 && d.st == .locked) 19 ||| flg d.conflict 18
    ||| flg (match d.sel with | some r => (refOf s r).wander | none => false) 17 ||| flg d.clamp 16
    ||| (maskTo 8 (refUsable s) <<< 8) ||| maskTo 8 (fun r => (refOf s r).st == .failed)

def timeStat (s : State) : Word :=
  let t := s.tb
  flg (t.pend != 0) 8 ||| flg t.est.isSome 7 ||| flg t.cntStuck 6 ||| flg t.cntChatter 5 ||| flg t.stuckB 4 ||| flg t.stuckA 3
    ||| flg t.chatter 2 ||| flg t.reverse 1 ||| flg (moving t) 0

def galleyStat (s : State) : Word :=
  flg (galleyReady s) 31 ||| flg (replicates s) 30 ||| fld (galleyGuar s) 28 ||| fld ((flightEvs s).length % 128) 16

def twinStat (s : State) : Word :=
  let t := s.twin
  fld t.st.code 28 ||| fld t.pstate 24 ||| flg (t.lanes.getLsbD 1) 23 ||| flg (t.lanes.getLsbD 0) 22 ||| flg t.link 21
    ||| flg (candidate s) 20 ||| flg (decide (s.now < t.pDeadline)) 19 ||| fld (t.phase % 4) 17 ||| fld (t.fcause % 16) 12
    ||| flg (twinId s) 8

def arbStat (s : State) : Word :=
  flg (grantSeen s) 31 ||| flg s.arb.pin 30 ||| flg s.arb.hb 29 ||| flg s.arb.hbRun 28 ||| flg s.twin.lease.isSome 27
    ||| flg s.arb.stuck 3 ||| flg s.arb.chatter 2

/-- Parking (Table 14-3): true where the last master granted stays parked. -/
def parkLast (s : State) : Bool :=
  !s.boot.run || s.twin.st == .syncing || s.boot.restart || rbit s aMATRIX_CFG 0

def matrixStat (s : State) : Word :=
  flg (parkLast s) 31 ||| flg (rbit s aMATRIX_CFG 0) 30
    ||| maskTo 8 (fun m => s.fab.waits.any fun w => w.req.master.val == m)

def ddrcStat (s : State) : Word :=
  fld s.cistern.st.code 29 ||| flg s.cistern.retrain.isSome 28 ||| flg s.cistern.reserve 27 ||| flg (decide (ddrTemp s > 85)) 26
    ||| w32 (s.cistern.lines.filter fun l => bit l.e0 31).length

def phyStat (s : State) : Word :=
  flg s.cistern.trained 31 ||| flg (s.cistern.st == .training || s.cistern.retrain.isSome) 30 ||| w32 (s.cistern.failMask % 2 ^ 18)

/-- The Skimmer pauses under shed step 2 and while the Cistern is not NORMAL (R422). -/
def skimPaused (s : State) : Bool := decide (s.shed ≥ 2) || !(s.cistern.st == .normal)

def remapFree (s : State) (g : Fin 4) : Nat := ((remapTable g).filter fun a => !rbit s a 31).length

def eccStat (s : State) : Word :=
  let on := rbit s aECC_CFG 0 && !skimPaused s
  flg (on && decide (rfld s aECC_SKIMCFG 15 0 ≠ 0)) 31 ||| flg (on && decide (rfld s aECC_SKIMCFG 31 16 ≠ 0)) 30
    ||| flg (rbit s aECC_CFG 0 && skimPaused s) 29 ||| flg s.fab.arm.isSome 28
    ||| fld (remapFree s 0) 24 ||| fld (remapFree s 1) 20 ||| fld (remapFree s 2) 16 ||| fld (remapFree s 3) 8

def portStat (s : State) (g : Fin 4) : Word :=
  let x := grp s g
  fld x.st.code 29 ||| flg x.retrack 28 ||| flg x.rateBad 27 ||| flg (srcLocked s g) 26 ||| w32 (min 64 x.qual)

def basinStat (s : State) : Word :=
  flg s.basin.liveB 31 ||| flg s.basin.lock 30 ||| flg (!s.basin.mirrorQ.isEmpty) 29 ||| fld (openEpochs s % 8) 24
    ||| w32 (slotsBusy s % 2 ^ 14)

def senseStat (s : State) : Word :=
  let x (n : Nat) : SenseIn := s.sense.ins[Fin.ofNat 8 n]
  (maskTo 8 (fun n => (x n).stuck) <<< 16) ||| (maskTo 8 (fun n => (x n).chatter) <<< 8)
    ||| maskTo 8 (fun n => match (x n).rep with | .present _ _ => true | _ => false)

/-- The drive rule of R330: the Quoin is held, the device is SOLO, or CFG.ALWAYS = 1. -/
def clkDriven (s : State) : Bool := holdsQuoin s || rbit s aPLLM_CFG 0

def gpioStat (s : State) : Word :=
  flg (clkDriven s && rbit s aGPIO_BMARKCFG 31) 1 ||| flg (clkDriven s && rbit s aGPIO_PPSCFG 31) 0

def pressStat (s : State) (p : Nat) : Word :=
  let x := pressAt s p
  fld x.code 29 ||| flg (decide (fadeWeight x s.tb.frame < 64)) 28 ||| flg (!x.mirrorQ.isEmpty) 27 ||| flg x.ih 26
    ||| fld (x.stack.length % 16) 16

def playerStat (s : State) : Word :=
  flg (!s.cistern.storeBad) 31 ||| w32 (s.cistern.voices.map (·.v)).dedup.length

def bootStat (s : State) : Word :=
  let b := s.boot
  let step : Nat := match b.step with
    | .s1 => 1 | .s2 => 2 | .s3 => 3 | .s4 => 4 | .s5 => 5 | .s6 => 6 | .s7 => 7 | .s8 => 8 | .s9 => 9 | .stopped => 15
  fld step 28 ||| flg b.hold.isSome 27 ||| fld (match b.hold with | some h => h.val | none => 0) 25 ||| fld b.slot 24
    ||| fld b.src 22 ||| flg b.signed 21 ||| flg b.warm 20 ||| fld b.cause 8

def ptpStat (s : State) : Word :=
  flg s.ptp.t1.slewing 3 ||| flg s.ptp.t0.slewing 2 ||| flg s.ptp.run 1 ||| flg s.ptp.run 0

/-! ### Interrupts and alarms (R18, R454, R455) -/

/-- Page `p` requests an interrupt. -/
def pageReq (s : State) (p : Nat) : Bool := rget s (aISTAT p) &&& rget s (aIEN p) != 0

def pendLo (s : State) : Word := maskTo 32 (pageReq s)
def pendHi (s : State) : Word := maskTo 22 (fun p => pageReq s (p + 32))

/-- Sources enabled whatever ALMSRC_EN holds (Table 16-6). -/
def forcedAlarms : Word := 0x27#32

/-- INT_N asserted. -/
def intN (s : State) : Bool := (pendLo s &&& rget s aINTC_INT_EN_LO) ||| (pendHi s &&& rget s aINTC_INT_EN_HI) != 0

/-- ALM_N asserted. -/
def almN (s : State) : Bool :=
  (pendLo s &&& rget s aINTC_ALM_EN_LO) ||| (pendHi s &&& rget s aINTC_ALM_EN_HI)
    ||| (rget s aINTC_ALMSRC &&& (rget s aINTC_ALMSRC_EN ||| forcedAlarms)) != 0
    || s.boot.step == .stopped

/-- STAT of page `p`, live. -/
def statLive (s : State) (p : Nat) : Word :=
  if p = pgPROT then w32 (s.host.ranges.filter (·.en)).length
  else if p = pgHOSTIF then flg (rbit s aHOSTIF_PROOF 31) 0
  else if p = pgBOOT then bootStat s
  else if p = pgCLKGEN then clkStat s
  else if p = pgPLLM then pllmStat s
  else if p = pgDPLL then dpllStat s
  else if p = pgTIMEBASE then timeStat s
  else if p = pgCOMPOSITOR then
    flg s.comp.backlog 31 ||| fld (s.comp.lastExec % 128) 16 ||| w32 ((pendingEvs s).length % 2 ^ 14)
  else if p = pgGALLEY then galleyStat s
  else if p = pgTWIN then twinStat s
  else if p = pgARB then arbStat s
  else if p = pgMATRIX then matrixStat s
  else if p = pgDDRC then ddrcStat s
  else if p = pgDDRPHY then phyStat s
  else if p = pgECC then eccStat s
  else if 0x10 ≤ p ∧ p ≤ 0x13 then portStat s (Fin.ofNat 4 (p - 0x10))
  else if p = pgAES3 then maskTo 8 (fun m => s.ports.aes[Fin.ofNat 8 m].lock)
  else if p = pgASRC then w32 (countTo 128 fun c => bit (asrcCh s c) 31)
  else if p = 0x16 ∨ p = 0x17 then netStat s (Fin.ofNat 2 (p - 0x16))
  else if p = pgSWITCH then w32 ((igmpGroups s).length % 2 ^ 11)
  else if p = pgPTP then ptpStat s
  else if p = pgSTREAMRX then w32 (s.net.rxE.filter fun x => eEn x.2).length
  else if p = pgSTREAMTX then w32 (s.net.txE.filter fun x => eEn x.2).length
  else if p = pgBASIN then basinStat s
  else if p = pgJET then w32 (jetOwners s).length
  else if p = pgSENSE then senseStat s
  else if p = pgGPIO then gpioStat s
  else if 0x20 ≤ p ∧ p ≤ 0x2F then pressStat s p
  else if p = pgMETER then flg (decide (s.shed ≥ 1)) 0
  else if p = pgRECORDER then w32 (tracksUsed s)
  else if p = pgPLAYER then playerStat s
  else if p = pgINTC then flg (almN s) 1 ||| flg (intN s) 0
  else if p = pgMON then flg s.clk.tempHi 0
  else if p = pgOTP then flg s.boot.otpBusy.isSome 0
  else 0

/-! ### Read-only registers that are not stored -/

/-- MCLK in kHz as the loop holds it: the nominal frequency of Table 11-4 with the offset of the DPLL, rounded down (R28, R334;
log entry 19). On the ramp between two families the measured value is free. -/
def mediaKHz (s : State) : Word :=
  match s.clk.change with
  | some c => if c.phase = .ramp then freeRead s (aCLKGEN_FMON 7) &&& 0xFFFFF#32 else held
  | none => held
where
  held : Word := i32 (((if s.clk.fam then 24576000 else 22579200 : Int) * 2 ^ s.clk.mult * (10 ^ 12 + s.dpll.freq)).fdiv (10 ^ 15))

/-- FMON[n] (R334), kHz; measured word and bit clocks of outside signals are free. -/
def fmonWord (s : State) (n : Nat) : Word :=
  if ¬ domainRuns s n then 0
  else match n with
    | 0 => 25000#32
    | 1 => 800000#32
    | 2 => if s.clk.fabFb then 12500#32 else 400000#32
    | 3 => 800000#32
    | 7 => mediaKHz s
    | _ => freeRead s (aCLKGEN_FMON n) &&& 0xFFFFF#32

def clkgenReg (s : State) (o : Nat) : Option Word :=
  if 0x100 ≤ o ∧ o < 0x130 then some (fmonWord s ((o - 0x100) / 4)) else none

def pllmReg (s : State) (o : Nat) : Option Word :=
  if o = 0x48 then some (w32 (rampLeft s % 2 ^ 21))
  else if o = 0x4C then some (flg (s.clk.psteps != 0) 31) else none

def refStatWord (s : State) (r : Nat) : Word :=
  let x := refOf s r
  let left : Nat := match x.st with
    | .soaking => x.soakT + qualSoak s - s.now
    | .drifting => x.soakT + disqSoak s - s.now
    | _ => 0
  fld x.st.code 29 ||| flg x.wander 28 ||| flg (s.dpll.sel == some r) 27 ||| flg x.cand 26 ||| fld (min 255 x.short) 16
    ||| w32 (min 65535 (ceilDiv left 100000000000))

def dpllReg (s : State) (o : Nat) : Option Word :=
  if o = 0x6C then some (rget s aDPLL_ALIGN ||| maskTo 4 (fun b => s.dpll.aligns.any fun a => a.out == b))
  else if o = 0x70 then some (match s.dpll.sel with | some r => i32 (satS 32 (refOf s r).e) | none => 0)
  else if o = 0x74 then some (i32 (satS 32 s.dpll.freq))
  else if o = 0x78 then some (i32 (satS 32 s.dpll.hoFreq))
  else if o = 0x7C then some (w32 (min 65535 s.dpll.hoAge))
  else if 0x120 ≤ o ∧ o < 0x140 then some (refStatWord s ((o - 0x120) / 4))
  else if 0x140 ≤ o ∧ o < 0x160 then some (i32 (satS 32 (refOf s ((o - 0x140) / 4)).fXo))
  else if 0x160 ≤ o ∧ o < 0x180 then some (i32 (satS 32 (refOf s ((o - 0x160) / 4)).e))
  else none

/-- The low or high word of a signed 48-bit value, sign-extended. -/
def lo48 (i : Int) : Word := i32 i
def hi48 (i : Int) : Word := i32 (sgn 48 (unsgn 48 i) / 2 ^ 32)

/-- The MEDIA count shown: h while ticks are held (R332). -/
def mediaNow (s : State) : Nat :=
  match s.clk.change with
  | some c => if ticksHeld s then c.h else s.tb.frame
  | none => s.tb.frame

def timebaseReg (s : State) (o : Nat) : Option Word :=
  match o with
  | 0x80 => some (lo48 (posMm s.tb.pend))
  | 0x84 => some (hi48 (posMm s.tb.pend))
  | 0x100 => some (lo32 (mediaNow s))
  | 0x104 => some (hi32 (mediaNow s))
  | 0x108 => some (lo32 s.tb.ptpNow)
  | 0x10C => some (hi32 s.tb.ptpNow)
  | 0x110 => some (lo48 (posMm s.tb.posNow))
  | 0x114 => some (hi48 (posMm s.tb.posNow))
  | 0x118 => some (w32 s.tb.cntNow)
  | 0x11C => some (i32 (satS 32 (speedMm s.tb)))
  | _ => none

/-- The earliest pending MEDIA trigger; all ones if none (R73). -/
def nextMedia (s : State) : Nat :=
  match (pendingEvs s).filter (fun e => e.e.axis == 1) with
  | [] => 2 ^ 64 - 1
  | h :: t => (t.foldl (fun a e => if axisD s a.e s.tb.frame < axisD s e.e s.tb.frame then e else a) h).e.trig

def compositorReg (s : State) (o : Nat) : Option Word :=
  if o = 0x54 then some (lo32 (nextMedia s))
  else if o = 0x58 then some (hi32 (nextMedia s))
  else if 0x100 ≤ o ∧ o < 0x11C then
    some (w32 (((pendingEvs s).filter fun e => decide (e.e.axis = (o - 0x100) / 4)).length % 2 ^ 14))
  else none

def galleyReg (s : State) (o : Nat) : Option Word :=
  if o = 0x6C then some (w32 (6144 - s.galley.heapUsed))
  else if 0x140 ≤ o ∧ o < 0x180 then some (clientOf s ((o - 0x140) / 4)).seq
  else if 0x180 ≤ o ∧ o < 0x1C0 then
    let c := (o - 0x180) / 4
    some (flg (clientOf s c).synced 31 ||| w32 (((pendingEvs s).filter fun e => decide (e.e.client = c)).length % 2 ^ 14))
  else none

def twinReg (s : State) (o : Nat) : Option Word :=
  if o = 0x70 then
    some (if s.twin.st = .standbyWarm then satW 24 (warmUntil s - s.tb.frame) else 0)
  else none

def arbReg (s : State) (o : Nat) : Option Word :=
  if o = 0x4C then some (match s.twin.lease with | some d => satW 24 ((d - s.now) / 40000) | none => 0) else none

def eccReg (s : State) (o : Nat) : Option Word :=
  if o = 0x48 then some (rget s aECC_FLIPCTRL ||| flg s.fab.arm.isSome 31) else none

def portReg (s : State) (g : Fin 4) (o : Nat) : Option Word :=
  if 0x1A0 ≤ o ∧ o < 0x1C0 then
    let m := (o - 0x1A0) / 4
    some (fld (dirState (grp s g) false m (bit (portWord s g m) 31)) 29 ||| fld (dirState (grp s g) true m (bit (portWord s g m) 30)) 26)
  else none

def ptpReg (s : State) (o : Nat) : Option Word :=
  let time (c : TimeCtr) (k : Nat) : Word :=
    match k with | 0 => w32 (ctrNs c) | 4 => w32 (ctrSec c) | 8 => w32 (ctrSec c / 2 ^ 32) | _ => w32 (ctrFrac c)
  if o = 0x80 then some (rget s aPTP_TIMECMD ||| flg s.ptp.cmd.isSome 31)
  else if 0xA0 ≤ o ∧ o < 0xB0 then some (time s.ptp.t0 (o - 0xA0))
  else if 0xB0 ≤ o ∧ o < 0xC0 then some (time s.ptp.t1 (o - 0xB0))
  else none

def rxFstat (s : State) (f : Nat) : Nat :=
  match rxFlow s f with
  | none => 0
  | some x => x.st.code + (if x.ok0.isSome && pathOk s x.ok0 then 8 else 0) + (if x.ok1.isSome && pathOk s x.ok1 then 16 else 0)

def txFstat (s : State) (f : Nat) : Nat :=
  let e := flowEntry s true f
  if ¬ eEn e then 0
  else if ¬ activeOrSolo s then 2
  else if (List.finRange 2).any fun n => ePath e n.val && !s.net.link[n].up then 3 else 1

/-- RXSTAT (Table 07-10): lock and the V bits of the latest frame beside the stored fields. -/
def aesReg (s : State) (o : Nat) : Option Word :=
  if 0x120 ≤ o ∧ o < 0x140 then
    let m : Fin 8 := Fin.ofNat 8 ((o - 0x120) / 4)
    let y := s.ports.aes[m]
    some ((rget s (aAES3_RXSTAT m) &&& 0x1FFFFFFF#32) ||| flg y.lock 31 ||| flg y.va 30 ||| flg y.vb 29)
  else none

def streamReg (s : State) (tx : Bool) (o : Nat) : Option Word :=
  if tx ∧ 0x200 ≤ o ∧ o < 0x240 then
    some ((List.range 16).foldl (fun w k => w ||| fld (txFstat s ((o - 0x200) / 4 * 16 + k)) (2 * k)) 0)
  else if ¬ tx ∧ 0x200 ≤ o ∧ o < 0x300 then
    some ((List.range 4).foldl (fun w b => w ||| fld (rxFstat s (o - 0x200 + b)) (8 * b)) 0)
  else none

def basinReg (s : State) (o : Nat) : Option Word :=
  if o = 0x5C then some (w32 (s.basin.mirrorQ.length % 512))
  else if o = 0x60 then some ((rget s aBASIN_CRC_CTRL &&& 0x10#32) ||| flg s.basin.crcRun.isSome 1)
  else none

/-- PINS (R489): driven spares read their level, the others are balls whose level no command gives; CNT_IN, TACH_B, TACH_A and
ARB_GRANT stand as their last edges left them. -/
def pinsWord (s : State) : Word :=
  let dir := rget s aGPIO_SPARE_DIR &&& 0xF#32
  let f := freeRead s aGPIO_PINS
  ((((rget s aGPIO_SPARE_OUT &&& dir) ||| (f &&& ~~~dir)) &&& 0xF#32) <<< 4)
    ||| flg s.tb.cntLevel 3 ||| flg s.tb.levelB 2 ||| flg s.tb.levelA 1 ||| flg s.arb.pin 0

/-- The register views of a Press show values while it is HALTED, DBG_HALTED or FAULTED (R185). -/
def pressReg (s : State) (p : Nat) (o : Nat) : Option Word :=
  let x := pressAt s p
  let shown := x.mode == .halted || x.mode == .dbg || x.mode == .faulted
  let v (w : Word) : Option Word := some (if shown then w else 0)
  let g (r : PReg) : BitVec 72 := x.r.get r
  -- entry 0 of the return stack is the bottom
  let entry (i : Nat) : Option PFrame := x.stack.reverse[i]?
  if o = 0x68 then some (w32 (msgPend x % 65536))
  else if o = 0x6C then some (w32 (x.cfg.budget % 2 ^ 18))
  else if o = 0x90 then some (w32 (x.mirrorQ.length % 512))
  else if 0x100 ≤ o ∧ o < 0x140 then v (x.r.d[Fin.ofNat 16 ((o - 0x100) / 4)])
  else if 0x140 ≤ o ∧ o < 0x170 then
    let a := x.r.ac[Fin.ofNat 4 ((o - 0x140) / 12)]
    v (match (o - 0x140) / 4 % 3 with
      | 0 => a.extractLsb' 0 32 | 1 => a.extractLsb' 32 32 | _ => (a.extractLsb' 64 8).setWidth 32)
  else if 0x180 ≤ o ∧ o < 0x200 then
    let i := (o - 0x180) / 4
    let k : Fin 8 := Fin.ofNat 8 i
    v ((match i / 8 with | 0 => x.r.p[k] | 1 => x.r.m[k] | 2 => x.r.l[k] | _ => x.r.b[k]).setWidth 32)
  else if o = 0x200 then v (x.pc.setWidth 32)
  else if o = 0x204 then v (srFull x (u4Bit s (Fin.ofNat 16 (p - 0x20))) x.cyc)
  else if 0x208 ≤ o ∧ o < 0x220 then
    let i := (o - 0x208) / 4
    let k : Fin 2 := Fin.ofNat 2 i
    v ((match i / 2 with | 0 => g (.lc k) | 1 => g (.ls k) | _ => g (.le k)).setWidth 32)
  else if 0x220 ≤ o ∧ o < 0x240 then
    v (match entry ((o - 0x220) / 4) with
      | some f => flg (f.kind != .call) 31 ||| f.pc.setWidth 32
      | none => 0)
  else if 0x240 ≤ o ∧ o < 0x260 then
    v (match entry ((o - 0x240) / 4) with
      | some f => if f.kind = .call then 0 else f.sr
      | none => 0)
  else if o = 0x260 then v (w32 x.stack.length)
  else none

def zoneOf (s : State) (z : Nat) : ZoneSt := (s.basin.zones.find? (fun x => x.z == z)).getD ⟨z, 0, false, 0, 0, false⟩

def meterReg (s : State) (o : Nat) : Option Word :=
  let amb (z : Nat) : Nat := if s.basin.zones.any (fun x => x.z == z) then attenRms (zoneOf s z).amb 94 else 0
  let off (z : Nat) : Nat := unsgn 16 (convDiv (zoneOf s z).off (2 ^ 32))
  if 0x100 ≤ o ∧ o < 0x200 then let k := (o - 0x100) / 4; some (fld (amb (2 * k + 1)) 16 ||| fld (amb (2 * k)) 0)
  else if 0x200 ≤ o ∧ o < 0x300 then let k := (o - 0x200) / 4; some (fld (off (2 * k + 1)) 16 ||| fld (off (2 * k)) 0)
  else if 0x300 ≤ o ∧ o < 0x310 then some (maskTo 32 fun n => (zoneOf s ((o - 0x300) / 4 * 32 + n)).inGap)
  else none

def playerReg (s : State) (o : Nat) : Option Word :=
  let last (v : Nat) : Option VoiceRun := (s.cistern.voices.filter fun x => x.v == v).getLast?
  if 0x100 ≤ o ∧ o < 0x500 then
    let v := (o - 0x100) / 4
    some (match last v with
      | some x => fld (voiceState s v) 29 ||| fld (x.ann % 4096) 16 ||| fld (x.dest % 1024) 0
      | none => 0)
  else if 0x500 ≤ o ∧ o < 0x900 then some (match last ((o - 0x500) / 4) with | some x => x.ticket | none => 0)
  else none

/-- A register of page `p` at offset `o` that the state does not store as a word. -/
def computedReg (s : State) (p o : Nat) : Option Word :=
  if p = pgCLKGEN then clkgenReg s o
  else if p = pgPLLM then pllmReg s o
  else if p = pgDPLL then dpllReg s o
  else if p = pgTIMEBASE then timebaseReg s o
  else if p = pgCOMPOSITOR then compositorReg s o
  else if p = pgGALLEY then galleyReg s o
  else if p = pgTWIN then twinReg s o
  else if p = pgARB then arbReg s o
  else if p = pgECC then eccReg s o
  else if 0x10 ≤ p ∧ p ≤ 0x13 then portReg s (Fin.ofNat 4 (p - 0x10)) o
  else if p = pgAES3 then aesReg s o
  else if p = pgPTP then ptpReg s o
  else if p = pgSTREAMRX then streamReg s false o
  else if p = pgSTREAMTX then streamReg s true o
  else if p = pgBASIN then basinReg s o
  else if p = pgGPIO then (if o = 0x54 then some (pinsWord s) else none)
  else if 0x20 ≤ p ∧ p ≤ 0x2F then pressReg s p o
  else if p = pgMETER then meterReg s o
  else if p = pgRECORDER then (if o = 0x40 then some 0 else none)
  else if p = pgPLAYER then playerReg s o
  else if p = pgINTC then (if o = 0x100 then some (pendLo s) else if o = 0x104 then some (pendHi s) else none)
  else none

/-- The live value of the register word at page address `a`, as a read shows it (R6, R8). -/
def liveReg (s : State) (a : Nat) : Word :=
  let p := pageOf a
  let o := offOf a
  if o = 0 then pidWord p
  else if o = 4 then capsWord s p
  else if o = 8 then ctrlWord s p
  else if o = 0xC then statLive s p
  else match computedReg s p o with
    | some w => w
    | none => alGet (rget s a) s.landNext a

/-- What a read shows: a frozen page holds its STAT and counters (R14, R16). -/
def viewReg (s : State) (a : Nat) : Word := alGet (liveReg s a) s.frozen a

/-- Addresses of page `p` that FREEZE holds: STAT and the counters, the registers of the page that count events. The spec lists
none; ring indexes, levels and measured values stay live (DESIGN CHOICE, log entry 18). -/
def frozenAddrs (p : Nat) : List Nat :=
  pageAddr p 0xC :: ((pageRegs p).filter (·.cnt)).flatMap fun d => (List.range d.n).map fun i => pageAddr p (d.off + i * d.stride)

/-- Page `p` has FREEZE set or cleared. -/
def freezePage (p : Nat) (on : Bool) (s : State) : State :=
  let rest := s.frozen.filter fun x => !(isPageAddr x.1 && pageOf x.1 == p)
  { s with frozen := if on then rest ++ (frozenAddrs p).map (fun a => (a, liveReg s a)) else rest }

/-! ### The Proof window (R445 to R449) -/

/-- The device word (Table 16-4). -/
def deviceWord (s : State) : Word :=
  fld s.twin.st.code 28 ||| fld s.twin.pstate 24 ||| fld (s.shed % 8) 21 ||| fld s.cistern.st.code 18 ||| fld (galleyGuar s) 16
    ||| flg (galleyReady s) 15 ||| flg s.twin.lease.isSome 14 ||| flg s.clk.fabFb 13 ||| flg s.boot.run 12
    ||| (rget s aINTC_ALMSRC &&& 0xFFF#32)

/-- Words 0x0004 to 0x0018. -/
def proofHead (s : State) : List (Nat × Word) :=
  [(4, lo32 (mediaNow s)), (8, hi32 (mediaNow s)), (0xC, deviceWord s), (0x10, rget s aGALLEY_TICKET_LAST),
   (0x14, rget s aGALLEY_TICKET_DONE), (0x18, dpllStat s)]

def meterAt (l : List (Nat × Meter)) (k : Nat) : Meter := alGet ⟨0, 0, 0, 0⟩ l k

/-- Peak and RMS of a point as 16-bit attenuations (R142). -/
def peakOf (m : Meter) : Nat := attenOf m.shPeak 31
def rmsOf (m : Meter) : Nat := attenRms m.shMs 94

/-- One input in its half word: peak or RMS by IN_KIND; above the limit of R119 it reads 0xFFFF (R143). -/
def inMeterOf (s : State) (i : Nat) : Nat :=
  if i ≥ limIn s then 0xFFFF
  else let m := meterAt s.basin.inMeter i; if rbit s aMETER_CFG (16 + i / 64) then rmsOf m else peakOf m

/-- Peak above RMS, or 0xFFFF in both halves above the limit. -/
def pairMeter (lim : Nat) (l : List (Nat × Meter)) (k : Nat) : Word :=
  if k ≥ lim then 0xFFFFFFFF#32 else let m := meterAt l k; fld (peakOf m) 16 ||| fld (rmsOf m) 0

/-- The meter and sense words (Table 16-3). -/
def proofBody (s : State) : List (Nat × Word) :=
  ((List.range 512).map fun k => (0x100 + 4 * k, fld (inMeterOf s (2 * k + 1)) 16 ||| fld (inMeterOf s (2 * k)) 0))
  ++ ((List.range 512).map fun b => (0x1000 + 4 * b, pairMeter (limBus s) s.basin.busMeter b))
  ++ ((List.range 1024).map fun o => (0x2000 + 4 * o, pairMeter (limOut s) s.basin.outMeter o))
  ++ ((List.finRange 8).map fun n => (0x3000 + 4 * n.val, senseWord s n))

def proofPut (l : List (Nat × Word)) : List (Nat × Word) := l.filter fun x => x.2 != 0

/-- Write a snapshot with the words given; the others keep their contents (R447). -/
def snapshot (ws : List (Nat × Word)) (s : State) : State :=
  let q := s.host.seq + 2
  let keep := s.host.proof.filter fun x => !(ws.any fun y => y.1 == x.1) && x.1 != 0 && x.1 != 0x3F00
  cnt aHOSTIF_SNAP_CNT { s with host := { s.host with seq := q, proof := proofPut ((0, q) :: ws ++ [(0x3F00, q)]) ++ keep } }

/-- A Proof window word (R445). -/
def proofWord (s : State) (a : Nat) : Word := alGet 0 s.host.proof a

end Sys2Proof.Machine
end

