-- ==== Sys2Proof/Machine/RegApply.lean ====
section
/-!
DEFINITION. Writing a register word: the fields by their access types (00_scope.md R6 to R9), the rules that refuse a write
(the ERRCAP codes of every register chapter), and what a stored value makes its block do.
-/

namespace Sys2Proof.Machine

/-! ### Fields (R6, R7) -/

/-- Pages on which CTRL.EN is always 1 (the chapters say "has no effect"; R15, R491). -/
def alwaysOn (p : Nat) : Bool :=
  [pgSYS, pgPROT, pgHOSTIF, pgBOOT, pgCLKGEN, pgTIMEBASE, pgCOMPOSITOR, pgGALLEY, pgTWIN, pgARB, pgMATRIX, pgDDRPHY, pgECC, pgMETER,
    pgINTC, pgMON, pgGPIO, pgOTP].contains p

/-- The bits that a write may set: the access masks of the row, less what its page reserves. -/
def rwMask (d : RegDef) (p : Nat) : Word :=
  let m := w32 d.rw
  if d.off = 8 then
    if alwaysOn p then m &&& ~~~1#32
    else if 0x21 ≤ p ∧ p ≤ 0x2F then m &&& ~~~0xE000#32
    else m
  else if 0x10 ≤ p ∧ p ≤ 0x12 ∧ 0x100 ≤ d.off ∧ d.off < 0x120 then m &&& ~~~0x10000000#32
  else m

/-- The word as last written, with what waits for the next frame (R23). -/
def heldReg (s : State) (a : Nat) : Word := alGet (rget s a) s.landNext a

/-- The stored value after a write of `v` at level `l`. BLKN of PRESS0 discards its reserved codes (R186). -/
def newWord (d : RegDef) (p l : Nat) (old v : Word) : Word :=
  let w := maskWord (if l = 0 then rwMask d p ||| w32 d.rwp else rwMask d p) old v &&& ~~~(v &&& w32 d.w1c)
  if p = 0x20 ∧ d.off = 8 ∧ bits w 15 13 > 5 then setBits w 15 13 (bits old 15 13) else w

/-- Does the write discard an RWP field (R6, R7)? -/
def rwpDiscard (d : RegDef) (l : Nat) (old v : Word) : Bool := decide (l ≠ 0) && (old ^^^ v) &&& w32 d.rwp != 0

/-! ### Refusals -/

/-- A refused write: the page's ERRCAP code (0 for none), ERRADDR, and ISTAT bits it sets. -/
structure RegRefuse where
  code  : Nat
  eaddr : Nat
  istat : List Nat
  deriving DecidableEq, Repr

def refuse (code a : Nat) (istat : List Nat := []) : Option RegRefuse := some ⟨code, a, istat⟩

/-- Record a refusal on page `p`. -/
def recordRefuse (p : Nat) (r : RegRefuse) (s : State) : State :=
  let s1 := r.istat.foldl (fun s b => iset p b s) s
  if r.code = 0 then s1 else errcap p r.code r.eaddr s1

/-- Clear-on-write statistics of the data-plane pages (R125, R234, R185). -/
def statReg (p o : Nat) : Bool :=
  (decide (0x20 ≤ p ∧ p ≤ 0x2F) && o == 0x74) || (p == pgBASIN && o == 0x68) || (p == pgRECORDER && o == 0x48)

/-- Every Press is HALTED. -/
def allHalted (s : State) : Bool := s.press.toList.all fun p => p.mode == .halted

/-- A direct host write outside SOLO to a data-plane page (R17, R125, R173, R185, R234). -/
def soloRefuse (s : State) (d : RegDef) (a : Nat) (v : Word) : Option RegRefuse :=
  let p := pageOf a
  let o := offOf a
  if isSolo s ∨ ¬ dataPlane p then none
  else if o = 0x10 ∨ o = 0x14 ∨ o = 0x18 ∨ o = 0x1C ∨ statReg p o ∨ (p = pgBASIN ∧ o = 0x60) then none
  else
    let isPress := decide (0x20 ≤ p ∧ p ≤ 0x2F)
    if o = 8 then
      let same := (v &&& w32 d.w1s == 0) && ((heldReg s a ^^^ v) &&& (rwMask d p &&& ~~~4#32) == 0)
      if same then none
      else if isPress && ((heldReg s a ^^^ v) &&& 0x80#32 != 0 || v &&& 0x100#32 != 0) then refuse 7 a
      else refuse 5 a
    else if isPress && o == 0x8C then refuse 7 a
    else refuse 5 a

/-- A MIRROR_TX set (R340, R366): no change while the partner takes part, at most 512 channels in all. -/
def mirrorRefuse (s : State) (k : Nat) (new : Word) : Bool :=
  let w (i : Nat) : Word := if i = k then new else rget s (aTWIN_MIRROR_TX i)
  let total := ((List.range 8).map fun i => if bit (w i) 31 then bits (w i) 25 16 else 0).sum
  decide (2 ≤ s.twin.pstate ∧ s.twin.pstate ≤ 4) || decide (total > 512)

/-- Is the address populated memory of a remap group (R418)? -/
def remapPlace (s : State) (g : Fin 4) (form : Nat) : Bool :=
  if g = 3 then decide (form < cistBytes s / 64) else eccGroup (4 * form) == some g

/-- The word key of a remap entry's address. -/
def remapKey (g : Fin 4) (form : Nat) : Nat := if g = 3 then cistBase + 64 * form else 4 * form

/-- The words that a remap entry covers. -/
def remapKeys (g : Fin 4) (form : Nat) : List Nat :=
  if g = 3 then (List.range 8).map fun j => remapKey g form + 8 * j else [remapKey g form]

/-- A refused remap write (R418). -/
def remapRefuse (s : State) (g : Fin 4) (a : Nat) (old new : Word) : Bool :=
  let form := bits new 27 0
  let held := (remapTable g).any fun r => r != a && rbit s r 31 && rfld s r 27 0 == form
  let place := bit new 31 && (!remapPlace s g form || held)
  let copied := if bit new 31 then form else bits old 27 0
  let ue := (bit new 31 || bit old 31) && (remapKeys g copied).any (ueAt s)
  place || ue

/-- The remap group of a register of the ECC page. -/
def remapGroup (o : Nat) : Option (Fin 4) :=
  if 0x100 ≤ o ∧ o < 0x110 then some 0 else if 0x110 ≤ o ∧ o < 0x120 then some 1 else if 0x120 ≤ o ∧ o < 0x130 then some 2
  else if 0x140 ≤ o ∧ o < 0x180 then some 3 else none

/-- A valid SET time (R280): nanoseconds below one second. -/
def timeSetValid (s : State) : Bool := decide ((rget s aPTP_TIMESET_NS).toNat < 1000000000)

/-- The rule of the owning block that refuses a write of `new` over `old` (`v` as written), by page. `direct` marks a host
write; other writes land from a WRITE_PARAM, the image or the next frame. -/
def blockRefuse (s : State) (direct : Bool) (lvl a : Nat) (old new v : Word) : Option RegRefuse :=
  let p := pageOf a
  let o := offOf a
  let changed := old != new
  if p = pgBOOT then
    if o = 0x40 ∧ bit v 0 ∧ s.boot.hold.isNone then refuse 1 a else none
  else if p = pgCLKGEN then
    if o = 0x40 then
      let offS := bit old 2 && !bit new 2 && !(netMode s 0 == 0 && netMode s 1 == 0 && isSolo s)
      let offD := bit old 1 && !bit new 1 && enOf s pgDDRC
      if offS || offD then refuse 1 a else none
    else if (o = 0x44 ∨ o = 0x48) ∧ domainRefused s old new then refuse 2 a
    else none
  else if p = pgPLLM then
    if o = 8 then
      if bit old 0 && !bit new 0 && (enOf s pgBASIN || !allHalted s) then refuse 2 a else none
    else if o = 0x40 ∧ direct ∧ ¬ isSolo s then refuse 1 a
    else if o = 0x4C ∧ pstepRefused s then refuse 3 a
    else if o = 0x70 ∧ bit v 0 ∧ calRefused s then refuse 4 a
    else none
  else if p = pgDPLL then
    if o = 0x6C then
      if v &&& 0xF#32 != 0 ∧ alignRefused s (bits new 9 8) ≠ 0 then refuse (alignRefused s (bits new 9 8)) a [10] else none
    else if 0x100 ≤ o ∧ o < 0x120 then
      if refCfgOk s ((o - 0x100) / 4) new then none else refuse 3 a
    else if o = 0x40 ∧ bits new 31 30 = 2 ∧ ¬ refEn s (bits new 26 24) then refuse 2 a
    else none
  else if p = pgTIMEBASE then
    if o = 0x8C ∧ posPending s then refuse 1 a else none
  else if p = pgGALLEY then
    if o = 0x44 then (if prodRefused s (bits v 15 0) then refuse 1 a [7] else none)
    else if o = 0x70 ∧ lvl ≠ 0 then refuse 3 a
    else none
  else if p = pgTWIN then
    if o = 0x44 then (match (twinCmd (bits v 1 0) s).1 with | some c => refuse c a | none => none)
    else if o = 0x40 ∧ bit new 31 ∧ changed ∧ rbit s aOTP_CFG 8 then refuse 3 a
    else if 0x100 ≤ o ∧ o < 0x120 ∧ changed ∧ mirrorRefuse s ((o - 0x100) / 4) new then refuse 2 a
    else none
  else if p = pgMATRIX then
    if o = 0x40 ∧ bit new 0 ∧ ¬ bit old 0 ∧ ¬ isSolo s then refuse 4 a else none
  else if p = pgDDRC then
    if o = 8 then
      let busy := enOf s pgBASIN || !allHalted s || !s.cistern.voices.isEmpty || !s.cistern.segs.isEmpty
      if bit old 0 && !bit new 0 && busy then refuse 5 a else none
    else if o = 0x40 ∨ o = 0x44 ∨ o = 0x48 then
      if (changed && enOf s pgDDRC) || (o == 0x40 && !memCfgOk new) then refuse 5 a else none
    else if 0x140 ≤ o ∧ o < 0x15C then
      if direct ∧ ¬ isSolo s then refuse 4 a
      else if o = 0x144 ∧ bit v 0 then
        let i := rfld s aDDRC_DLY_SEL 9 0
        match dlyRefuse s i ((List.range 5).map fun k => heldReg s (aDDRC_DLY_ENTRY k)) with
        | some c => refuse c i [0]
        | none => none
      else none
    else none
  else if p = pgECC then
    if o = 0x48 then
      if bit v 31 && !(isSolo s || s.twin.st == .fenced) then refuse 2 a else none
    else match remapGroup o with
      | some g => if changed && remapRefuse s g a old new then refuse 3 a else none
      | none => none
  else if 0x10 ≤ p ∧ p ≤ 0x13 then
    let g := p - 0x10
    if o = 0x40 then
      if enOf s p && (old ^^^ new) &&& gcfgFixed != 0 then refuse 1 a [8]
      else if !gcfgValid new then refuse 6 a [8]
      else none
    else if 0x100 ≤ o ∧ o < 0x120 then
      if enOf s p && (old ^^^ new) &&& 0x10000000#32 != 0 then refuse 1 a [8]
      else if !portWordValid s g new then refuse 6 a [8]
      else none
    else none
  else if p = pgASRC then
    if 0x100 ≤ o ∧ o < 0x300 ∧ bit new 31 ∧ ¬ asrcInRange s new then refuse 1 ((o - 0x100) / 4) else none
  else if p = 0x16 ∨ p = 0x17 then
    if o = 0x40 && enOf s p && decide (bits old 17 16 ≠ bits new 17 16) then refuse 1 a else none
  else if p = pgPTP then
    if o = 8 then (if !bit old 0 && bit new 0 && !ringsOk s then refuse 3 a else none)
    else if (o = 0x48 ∨ o = 0x4C ∨ o = 0x50) ∧ enOf s pgPTP ∧ changed then refuse 3 a
    else if o = 0x5C then (if txProdRefused s (bits v 15 0) then refuse 4 a else none)
    else if o = 0x80 ∧ bits v 1 0 ≠ 0 then
      if s.ptp.cmd.isSome then refuse 1 a
      else if bits v 1 0 = 1 && !timeSetValid s then refuse 2 a
      else none
    else none
  else if (p = pgSTREAMRX ∨ p = pgSTREAMTX) ∧ o = 0x4C ∧ bit v 0 then
    let tx := p == pgSTREAMTX
    match commitRefuse s tx (selOf s tx) (winRead s tx) with
    | some c => refuse c (selOf s tx)
    | none => none
  else if 0x20 ≤ p ∧ p ≤ 0x2F then
    let x := pressAt s p
    if o = 8 then
      if (old ^^^ new) &&& 0x18#32 != 0 && !(x.mode == .halted) then refuse 2 a
      else if p = 0x20 && decide (bits old 15 13 ≠ bits new 15 13)
          && (enOf s pgBASIN || !allHalted s) then refuse 8 a
      else if !bit old 0 && bit new 0 && rbit s aBOOT_BADPRESS (p - 0x20) then refuse 4 a
      else if !direct && !isSolo s && ((old ^^^ new) &&& 0x80#32 != 0 || bit v 8) then refuse 7 a
      else none
    else if o = 0x8C && !direct && !isSolo s then refuse 7 a
    else none
  else if p = pgOTP then
    if o = 0x208 ∧ bit v 0 then
      let ok := decide (lvl = 0) && (isSolo s || s.twin.st == .fenced) && !rbit s aOTP_CFG 31 && s.boot.otpBusy.isNone
      if ok then none else refuse 1 a
    else none
  else none

/-- Fields of the TIMEBASE page that keep their value (codes 0x0003): the word to store, and whether that happened. -/
def keepMode (a : Nat) (old new : Word) : Word × Bool :=
  if a = aTIMEBASE_TACHCFG then
    let off (w : Word) : Bool := bits w 1 0 == 0 || bits w 1 0 == 3
    if !off old && !off new && decide (bits old 1 0 ≠ bits new 1 0) then (setBits new 1 0 (bits old 1 0), true) else (new, false)
  else if a = aTIMEBASE_CNTCFG then
    if decide (bits old 1 0 ≠ 0) && decide (bits new 1 0 ≠ 0) && decide (bits old 1 0 ≠ bits new 1 0) then
      (setBits new 1 0 (bits old 1 0), true)
    else (new, false)
  else (new, false)

/-! ### SRST (R15, R530) -/

/-- Entries that wait in the block complete on the present frame, so that accepted work ends (log entry 60). -/
def finishAll (p : Ev → Bool) (s : State) : State :=
  (s.comp.running.filter p).foldl (fun s e => finishRunning e.ticket s.tb.frame s) s

/-- The state machines and buffers of page `p` return to their reset values. -/
def srstBlock (p : Nat) (s : State) : State :=
  if p = pgPLLM then let t := endChange s; setClk { t.clk with psteps := 0, search := none } t
  else if p = pgDPLL then setDpll DpllSt.reset s
  else if p = pgDDRC then
    setCist { CistSt.reset with
      trained := s.cistern.trained, failMask := s.cistern.failMask, trainTemp := s.cistern.trainTemp, lines := s.cistern.lines
      storeBad := s.cistern.storeBad } s
  else if 0x10 ≤ p ∧ p ≤ 0x13 then setGrp (Fin.ofNat 4 (p - 0x10)) GroupSt.reset s
  else if p = pgAES3 then { s with ports := { s.ports with aes := Vector.replicate 8 Aes3St.reset } }
  else if p = pgASRC then rset aASRC_LOCKSTAT 0 s
  else if p = 0x16 ∨ p = 0x17 then
    setNet { s.net with link := s.net.link.set (Fin.ofNat 2 (p - 0x16)) ⟨false, false, false, false⟩
                        queue := s.net.queue.filter fun q => q.port != p - 0x16
                        free := s.net.free.set (Fin.ofNat 2 (p - 0x16)) 0 } s
  else if p = pgSWITCH then
    setNet { s.net with macs := [], igmp := [], ovf := [], queue := [], answers := [], reads := [], dup := none } s
  else if p = pgSTREAMRX then setNet { s.net with rx := s.net.rx.map fun x => rxNew x.f } s
  else if p = pgSTREAMTX then setNet { s.net with tx := s.net.tx.map fun x => { x with buf := [], last := [], acc := 0, seqs := x.seqs.map seqOff } } s
  else if p = pgBASIN then
    let mine (e : Ev) : Bool := [2, 3, 7].contains e.e.opcode || s.basin.waits.any (fun w => w.ticket == some e.ticket)
    finishAll mine (setBasin { BasinSt.reset with
      liveB := s.basin.liveB, jets := s.basin.jets, mutes := s.basin.mutes, jetOn := s.basin.jetOn, lastJet := s.basin.lastJet
      mirrorQ := s.basin.mirrorQ } s)
  else if p = pgJET then setBasin { s.basin with jets := [], mutes := [], jetOn := [] } s
  else if p = pgSENSE then setSense SenseSt.reset s
  else if 0x20 ≤ p ∧ p ≤ 0x2F then pressSrst (Fin.ofNat 16 (p - 0x20)) s
  else if p = pgRECORDER then
    -- segments that wait for their landing are accepted work and keep their tracks; the others end here
    let over_ := (s.cistern.segs.filter (·.start.isSome)).map (·.ticket)
    rset aRECORDER_BUF_LEVEL 0 (over_.foldl (fun s t => finishRunning t s.tb.frame (segFree t s)) (setCist { s.cistern with recBuf := [] } s))
  else if p = pgPLAYER then s.cistern.voices.foldl (fun s x => runEnd x s.tb.frame s) s
  else s

/-- SRST has been written: it acts unless EN = 1 or, on a PRESS page, until the Press is HALTED. -/
def srstWrite (p : Nat) (s : State) : State :=
  let isPress := decide (0x20 ≤ p ∧ p ≤ 0x2F)
  if isPress ∧ (pressAt s p).mode ≠ .halted then
    (if (pressAt s p).mode = .stopping ∨ (pressAt s p).stop.isSome then setPress (Fin.ofNat 16 (p - 0x20)) { pressAt s p with srstHeld := true } s else s)
  else
    let s1 := rset (aERRADDR p) 0 (rset (aERRCAP p) 0 (rset (aISTAT p) 0 (srstBlock p s)))
    { s1 with srst := if s1.srst.contains p then s1.srst else s1.srst ++ [p] }

/-- A held SRST acts once the Press is HALTED (R530). -/
def heldSrst (pi : Fin 16) (s : State) : State :=
  if s.press[pi].srstHeld ∧ s.press[pi].mode = .halted then
    srstWrite (0x20 + pi.val) (setPress pi { s.press[pi] with srstHeld := false } s)
  else s

/-! ### Effects -/

/-- The alarm sources that are present (R455). -/
def presentAlarms (s : State) : Word :=
  flg (s.boot.everRun && !s.clk.lockA) 1 ||| flg (enOf s pgPLLM && !s.clk.lockM && s.boot.everRun) 2
    ||| flg (rbit s aCLKGEN_PLLCTRL 1 && !s.clk.lockD && s.boot.everRun) 3 ||| flg s.galley.lost 5 ||| flg (cistDown s) 6
    ||| flg (s.twin.st == .faulted) 7 ||| flg (s.press.toList.any fun p => p.mode == .faulted) 9 ||| flg s.clk.tempHi 10

/-- PLL-M is switched off: frame ticks stop, and a rate change in progress is over (R326). -/
def pllmOff (s : State) : State := endChange (setTb { s.tb with ticking := false } (setClk { s.clk with lockM := false } s))

/-- CTRL of a page: FREEZE, then EN and the block's own bits; SRST acts last. `s` holds the new word. -/
def ctrlAct (p : Nat) (old new v : Word) (s : State) : State :=
  let s0 := if bit old 2 == bit new 2 then s else freezePage p (bit new 2) s
  let en := bit new 0
  let chg := bit old 0 != en
  let s1 :=
    if 0x20 ≤ p ∧ p ≤ 0x2F then
      let pi : Fin 16 := Fin.ofNat 16 (p - 0x20)
      let s2 := heldSrst pi (if chg || !en then pressEn pi (bit old 0) en s0 else s0)
      let s3 := if bit old 7 == bit new 7 then s2 else dbgHalt pi (bit new 7) s2
      if bit v 8 then dbgStep pi s3 else s3
    else if p = pgPTP then
      -- a reference whose VALID bit is cleared fails at once (R299)
      let s2 := if bit old 4 && !bit new 4 then refFail 2 s0 else s0
      if bit old 5 && !bit new 5 then refFail 3 s2 else s2
    else if ¬ chg then s0
    else if p = pgDPLL then (if en then s0 else dpllFree s0)
    else if p = pgPLLM then (if en then s0 else pllmOff s0)
    else if p = pgDDRC then
      if en then startTraining s0 else setCist { s0.cistern with st := .off, retrain := none, pend := none } s0
    else if 0x10 ≤ p ∧ p ≤ 0x13 then groupEn (Fin.ofNat 4 (p - 0x10)) en s0
    else if p = pgJET then jetEnChange en s0
    else if p = 0x16 ∨ p = 0x17 then (if en then s0 else portOff (Fin.ofNat 2 (p - 0x16)) s0)
    else s0
  if bit v 1 then srstWrite p s1 else s1

/-- DOMGATE: an ungated group whose EN is 1 qualifies (R323). -/
def gateAct (old new : Word) (s : State) : State :=
  (List.finRange 4).foldl (fun s (g : Fin 4) =>
    if bit old (8 + g.val) && !bit new (8 + g.val) && enOf s (pgPORTG g) then groupEn g true s else s) s

/-- PLLCTRL: a loop that is switched off is no longer locked. -/
def pllAct (new : Word) (s : State) : State :=
  setClk { s.clk with lockS := s.clk.lockS && bit new 2, lockD := s.clk.lockD && bit new 1 } s

/-- A remap entry is written (R418): the copy leaves corrected content and no flipped bits; a Keeper's entry is not AUTO. -/
def remapAct (g : Fin 4) (a : Nat) (old new : Word) (s : State) : State :=
  let form := if bit new 31 then bits new 27 0 else bits old 27 0
  let s1 := if bit new 31 || bit old 31 then
      (remapKeys g form).foldl (fun s k => setFlips k 0 (eccRead k s).1) s else s
  rset a (setBits new 30 30 0) s1

/-- FLIPCTRL.ARM (R423). -/
def armAct (s : State) : State :=
  let c := rget s aECC_FLIPCTRL
  let g := bits c 1 0
  let lo := (rget s aECC_FLIPMASK_LO).toNat
  let mask := if g = 3 then lo + (rget s aECC_FLIPMASK_MID).toNat * 2 ^ 32 + rfld s aECC_FLIPMASK_HI 7 0 * 2 ^ 64
    else lo + rfld s aECC_FLIPMASK_HI 6 0 * 2 ^ 32
  { s with fab := { s.fab with
      arm := some ⟨g, if bit c 8 then some (rfld s aECC_FLIPADDR 27 0) else none, bits c 6 4, mask⟩ } }

/-- What the block does with a value that has been stored. `tk` is the WRITE_PARAM that carries it; the answer says whether
that entry must wait. -/
def pageAct (direct : Bool) (tk : Option Word) (lvl a : Nat) (old new v : Word) (s : State) : State × Bool :=
  let p := pageOf a
  let o := offOf a
  let k := (o - 0x100) / 4
  if p = pgPROT then
    (if 0x300 ≤ o ∧ (o - 0x300) % 12 = 8 ∧ o < 0x3C0 ∧ lvl = 0 then rangeApply ((o - 0x300) / 12) s else s, false)
  else if p = pgHOSTIF then
    (if o = 0x44 ∧ bit new 31 ∧ ¬ bit old 31 then { s with host := { s.host with holdCnt := 0 } } else s, false)
  else if p = pgCLKGEN then
    (if o = 0x40 then pllAct new s else if o = 0x44 then gateAct old new s else s, false)
  else if p = pgPLLM then
    if o = 0x40 then rateLand tk new s
    else if o = 0x4C then (pstep (bits v 15 0) s, false)
    else if o = 0x68 ∨ o = 0x6C then (wclkWritten ((o - 0x68) / 4) old new s, false)
    else if o = 0x70 ∧ bit v 0 then (bandSearch (bit new 8) s, false)
    else (s, false)
  else if p = pgDPLL then
    (if o = 0x6C ∧ v &&& 0xF#32 != 0 then alignStart ((List.range 4).filter (bit v)) (bits new 9 8) s else s, false)
  else if p = pgTIMEBASE then
    (if o = 0x44 ∨ o = 0x48 then
       wheelTaken s
     else if o = 0x70 then setTb { s.tb with corrLo := v } s
     else if o = 0x74 then corrSubmit v s
     else if o = 0x88 then setTb { s.tb with loadLo := v } s
     else if o = 0x8C then
       setTb { s.tb with load := some (sgn 48 (s.tb.loadLo.toNat + 2 ^ 32 * (v.toNat % 65536)) * mmUnit) } s
     else s, false)
  else if p = pgGALLEY then
    (if o = 0x44 then prodWritten (Fin.ofNat 4 lvl) (bits old 15 0) (bits new 15 0) s
     else if o = 0x70 then clientRstWrite (bits v 15 0) s
     else s, false)
  else if p = pgTWIN then (if o = 0x44 then (twinCmd (bits v 1 0) s).2 else s, false)
  else if p = pgDDRC then
    (if o = 0x140 then dlySel s else if o = 0x144 ∧ bit v 0 then dlyCommit direct s else s, false)
  else if p = pgECC then
    (if o = 0x48 then (if bit v 31 then armAct s else s)
     else match remapGroup o with
       | some g => if old != new then remapAct g a old new s else s
       | none => s, false)
  else if 0x10 ≤ p ∧ p ≤ 0x13 then
    let g : Fin 4 := Fin.ofNat 4 (p - 0x10)
    if 0x100 ≤ o ∧ o < 0x120 then portChange g k .port new direct tk s
    else if 0x120 ≤ o ∧ o < 0x140 then portChange g (k - 8) .inMask new direct tk s
    else if 0x140 ≤ o ∧ o < 0x160 then portChange g (k - 16) .outMask new direct tk s
    else (s, false)
  else if p = pgAES3 then (if 0x100 ≤ o ∧ o < 0x120 ∧ bit v 27 then txCommit (Fin.ofNat 8 k) s else s, false)
  else if p = pgASRC then (if 0x100 ≤ o ∧ o < 0x300 then asrcFlowChange old new (asrcChange k old new s) else s, false)
  else if p = pgPTP then (if o = 0x80 then timeCommand (bits v 1 0) (bit new 4) s else s, false)
  else if p = pgSTREAMRX ∨ p = pgSTREAMTX then
    let tx := p == pgSTREAMTX
    if o = 0x48 then (streamSel tx s, false)
    else if o = 0x4C ∧ bit v 0 then (streamCommit tx direct s, false)
    else if ¬ tx ∧ 0x90 ≤ o ∧ o < 0xA0 ∧ bit old 31 ∧ old ≠ new then
      -- a flow clock that is switched off or moved loses its lock (R266)
      let j : Fin 4 := Fin.ofNat 4 ((o - 0x90) / 4)
      (rset a new (fclkLock j false 0 (rset a old s)), false)
    else (s, false)
  else if p = pgCOMPOSITOR then (if o = 0x50 then peak aCOMPOSITOR_PEAK_PEND (pendingEvs s).length s else s, false)
  else if p = pgBASIN then
    (if o = 0x60 ∧ bit v 0 then formeCrcStart (bit new 4) s
     else if o = 0x68 then peak aBASIN_SLOT_PEAK (slotsBusy s) s else s, false)
  else if p = pgJET then
    if 0x100 ≤ o ∧ o < 0x200 then (jetPathChange k old new s, false)
    else if 0x200 ≤ o ∧ o < 0x300 then
      pointChange tk (kJet + 4 * (k - 64)) new none (rset a old s)
    else (s, false)
  else if p = pgGPIO then
    (if o = 0x40 ∧ bit old 31 ≠ bit new 31 then ppsEnable (bit new 31) s
     else if o = 0x48 ∧ bit old 31 ≠ bit new 31 then bmarkEnable (bit new 31) s
     else s, false)
  else if p = pgRECORDER then (if o = 0x40 then recFreeze v s else if o = 0x48 then peak aRECORDER_BUF_PEAK (rget s aRECORDER_BUF_LEVEL).toNat s else s, false)
  else if p = pgINTC then
    (if o = 0x44 then rset aINTC_ALMSRC (new ||| (presentAlarms s &&& (old &&& ~~~new))) s else s, false)
  else if p = pgMON then (if o = 0x4C ∧ bit v 31 then tempRestartSet s else s, false)
  else if p = pgOTP then
    (if o = 0x208 ∧ bit v 0 then { s with boot := { s.boot with otpBusy := some (rfld s aOTP_PROGADDR 7 0, rget s aOTP_PROGDATA) } } else s, false)
  else (s, false)

/-- Store `new` at `a` and act on it. -/
def regAct (direct : Bool) (tk : Option Word) (lvl a : Nat) (old new v : Word) (s : State) : State × Bool :=
  let p := pageOf a
  let o := offOf a
  if o = 0x18 then (rset (aISTAT p) (rget s (aISTAT p) ||| v) s, false)
  else if o = 0x1C then (if bit v 31 then rset (aERRADDR p) 0 (rset (aERRCAP p) 0 s) else s, false)
  else
    let km := keepMode a old new
    let s0 := rset a km.1 s
    let s1 := if km.2 then errcap pgTIMEBASE 3 a s0 else s0
    if o = 8 then (ctrlAct p old km.1 v s1, false) else pageAct direct tk lvl a old km.1 v s1

/-- A pair of a WRITE_PARAM, an image entry or a held SOLO write reaches its register at level 0 (R35, R470): refused pairs are
discarded and recorded. -/
def regLand (tk : Option Word) (a : Nat) (v : Word) (s : State) : State × Bool :=
  match regAt a with
  | none => (s, false)
  | some d =>
    let p := pageOf a
    let old := rget s a
    let new := newWord d p 0 old v
    if offOf a = 8 ∧ bit v 1 ∧ bit old 0 then (s, false)
    else match blockRefuse s false 0 a old new v with
      | some r => (recordRefuse p r s, false)
      | none => regAct false tk 0 a old new (v &&& (w32 d.w1s ||| w32 d.wo ||| w32 d.w1c)) s

/-- SRST_COMPLETE. -/
def srstComplete (p : Nat) (s : State) : State := { s with srst := s.srst.filter (· != p) }

end Sys2Proof.Machine
end

