-- ==== Sys2Proof/Machine/Boot.lean ====
section
/-!
DEFINITION. The start-up sequence, the image and the fuses (17_startup_nv_image.md R459 to R474).
-/

namespace Sys2Proof.Machine

def setBoot (b : BootSt) (s : State) : State := { s with boot := b }

def stepNo (b : BootStep) : Nat :=
  match b with
  | .s1 => 1 | .s2 => 2 | .s3 => 3 | .s4 => 4 | .s5 => 5 | .s6 => 6 | .s7 => 7 | .s8 => 8 | .s9 => 9 | .stopped => 15

/-- The step in progress ends: its time goes to T_STEP, µs, saturating (R463). -/
def endStep (next : BootStep) (s : State) : State :=
  setBoot { s.boot with step := next, stepT := s.now }
    (rset (aBOOT_T_STEP (stepNo s.boot.step - 1)) (satW 24 ((s.now - s.boot.stepT) / 1000000)) s)

/-- Straps (Table 17-3). -/
def hostHeld (s : State) : Bool := rbit s aSYS_STRAPS 4
def bootSel (s : State) : Nat := rfld s aSYS_STRAPS 1 0

/-- What RSTCMD asks for once its key is right (R472). -/
def resetCommand (v : Word) (s : State) : State :=
  match bits v 1 0 with
  | 1 => warmReset .none 5 s
  | 2 => coldReset 8 s
  | _ => s

def keyOk (v : Word) : Bool := bits v 31 16 == 0x5A5A

/-! ### Register lists (R470) -/

def skipEntry (a : Nat) (s : State) : State := errcap pgBOOT 2 a (iset pgBOOT 1 s)

/-- Bits of a register that a write at level 0 can act on. -/
def actMask (d : RegDef) : Word := w32 d.rw ||| w32 d.rwp ||| w32 d.w1c ||| w32 d.w1s ||| w32 d.wo

/-- One REGINIT entry, written at level 0; a refused one is skipped. An unlisted offset discards it (R476). -/
def applyRegInit (a : Nat) (v : Word) (s : State) : State :=
  match regAt a with
  | none => if isPageAddr a ∧ pageOf a < 0x36 then s else skipEntry a s
  | some d =>
    let p := pageOf a
    let old := rget s a
    let new := newWord d p 0 old v
    if actMask d = 0 then skipEntry a s
    else if a = aSYS_RSTCMD then (if keyOk v then resetCommand v (rset a new s) else skipEntry a s)
    else if offOf a = 8 ∧ bit v 1 ∧ bit old 0 then s
    else if (blockRefuse s false 0 a old new v).isSome then skipEntry a s
    else (regAct false none 0 a old new (v &&& (w32 d.w1s ||| w32 d.wo ||| w32 d.w1c)) s).1

/-- The entries of a phase, in order; a reset that one of them starts ends the list. -/
def applyPhase (k : Nat) (s : State) : State :=
  (s.boot.regInit.filter fun x => x.phase == k).foldl
    (fun t x => if t.boot.step = s.boot.step ∧ t.boot.held = .none then applyRegInit x.addr x.value t else t) s

/-! ### Steps (R463) -/

/-- Stop at a hold point (R464). -/
def holdAt (n : Fin 3) (s : State) : State := iset pgBOOT 3 (setBoot { s.boot with hold := some n } s)

/-- Step 6 begins: the phase 1 list. -/
def enter6 (s : State) : State := applyPhase 1 (endStep .s6 s)

/-- Step 6 has nothing more to wait for: the Cistern is trained, off or lost. CISTERN sections that found no NORMAL Cistern are
not loaded (R470). -/
def done6 (s : State) : Bool :=
  !enOf s pgDDRC || !rbit s aCLKGEN_PLLCTRL 1 || !(s.cistern.st == .off || s.cistern.st == .training)
def leave6 (s : State) : State :=
  if s.boot.cistern.isEmpty ∨ cistServes s then s else setCist { s.cistern with storeBad := true } s

/-- Step 7 begins: the phase 2 list; PLL-M searches both families (R328). -/
def enter7 (s : State) : State :=
  let s1 := applyPhase 2 (endStep .s7 (leave6 s))
  if s1.boot.step = .s7 ∧ enOf s1 pgPLLM then setClk { s1.clk with search := some false, bootSearch := [true] } s1 else s1
def done7 (s : State) : Bool :=
  (!enOf s pgPLLM || (s.clk.lockM && s.clk.search.isNone && s.clk.bootSearch.isEmpty))
    && (!enOf s pgDPLL || decide (s.dpll.evalT ≠ 0))

/-- Step 8 begins: PAIR and LEASE act (R339); a device that is not paired is SOLO. -/
def enter8 (s : State) : State :=
  let s1 := endStep .s8 s
  let c := rget s1 aTWIN_CFG
  let paired := bit c 31 && !rbit s1 aOTP_CFG 8
  let s2 := { s1 with twin := { s1.twin with paired := paired, leaseL := bits c 3 0 + 1 } }
  if paired then s2 else setTwin .solo { s2 with twin := { s2.twin with drive := true } }
def done8 (s : State) : Bool := !s.twin.paired || s.twin.negDone

/-- Step 9 begins: the phase 3 list; hold point H2. -/
def enter9 (s : State) : State :=
  let s1 := applyPhase 3 (endStep .s9 s)
  if s1.boot.step = .s9 ∧ hostHeld s1 then holdAt 2 s1 else s1

/-- Step 5 is done: the phase 0 list; hold point H1. -/
def imageDone (s : State) : State :=
  let s1 := applyPhase 0 s
  if s1.boot.step ≠ .s5 then s1 else if hostHeld s1 then holdAt 1 s1 else enter6 s1

/-- No image (R469). -/
def fallback (cause : Nat) (s : State) : State :=
  imageDone (iset pgBOOT 2 (setBoot { s.boot with src := 1, cause := cause } s))

/-- Step 5 begins. -/
def enter5 (s : State) : State :=
  let s1 := endStep .s5 s
  match bootSel s1 with
  | 0 => s1
  | 1 => rput aBOOT_SLOT_ERR 15 8 0x0A s1
  | _ => fallback 0x0B s1

/-- The step in progress, if it can end now. -/
def bootNext (s : State) : State :=
  if s.boot.held ≠ .none ∨ s.boot.hold.isSome then s
  else match s.boot.step with
    | .s2 => if s.boot.warm then endStep .s3 s else s
    | .s3 => if s.clk.lockA then endStep .s4 s else s
    | .s4 => if s.boot.bistDone then enter5 s else s
    | .s6 => if done6 s then enter7 s else s
    | .s7 => if done7 s then enter8 s else s
    | .s8 => if done8 s then enter9 s else s
    | .s1 | .s5 | .s9 | .stopped => s

/-- Every step that can end now ends. -/
def bootAdvance (s : State) : State := bootNext (bootNext (bootNext (bootNext (bootNext (bootNext (bootNext s))))))

/-! ### Events of the start -/

/-- SUPPLY_TRIP: monitors 0 to 8, and 9 for POR_N (R459, R472). -/
def supplyTrip (which : Fin 10) (s : State) : State := powerReset .power (if which = 9 then 1 else 0) s

/-- POR_RELEASE: straps and VDDIO levels are sampled at the release of a power-on reset only (R459, R462). -/
def porRelease (straps : BitVec 5) (vio : BitVec 4) (s : State) : State :=
  match s.boot.held with
  | .power =>
    let s1 := rset aSYS_STRAPS (w32 (straps.toNat &&& 0x1B)) (setBoot { s.boot with held := .none, vio := vio } s)
    endStep .s2 s1
  | .cold => endStep .s2 (setBoot { s.boot with held := .none } s)
  | _ => s

/-- WARM_RESET_PIN: RST_N has been low for 1 µs (R461). -/
def warmResetPin (s : State) : State := if s.boot.held = .none then warmReset .warmPin 4 s else s

/-- WARM_RESET_RELEASE. -/
def warmResetRelease (s : State) : State :=
  if s.boot.held = .warmPin then bootAdvance (setBoot { s.boot with held := .none } s) else s

/-- XO_QUALIFIED: step 2 is done. -/
def xoQualified (s : State) : State :=
  if s.boot.held = .none ∧ s.boot.step = .s2 then bootAdvance (endStep .s3 s) else s

/-- BIST_DONE (R419, R466). -/
def bistDone (r : BistIn) (s : State) : State :=
  if s.boot.held ≠ .none ∨ s.boot.step ≠ .s4 ∨ s.boot.bistDone then s
  else
    let s1 := rset aBOOT_BADPRESS (w32 r.badPress.toNat) (rset aECC_REPAIR r.repair s)
    if r.fatal then setBoot { (endStep .stopped s1).boot with cause := 0x0C } (endStep .stopped s1)
    else bootAdvance (setBoot { s1.boot with bistDone := true } s1)

/-! ### Image slots (R467 to R470) -/

/-- The slots still to try, in order: the higher SEQ first, slot A on a tie (R468). -/
def slotsLeft (s : State) : List Bool :=
  let bFirst := decide (0 < sgn 32 (rget s aBOOT_SEQ_B - rget s aBOOT_SEQ_A).toNat)
  let order := if bootSel s = 1 then [false] else if bFirst then [true, false] else [false, true]
  order.filter fun b => !(if b then s.boot.badB else s.boot.badA)

def slotErr (b : Bool) (code : Nat) (s : State) : State :=
  if b then rput aBOOT_SLOT_ERR 15 8 code s else rput aBOOT_SLOT_ERR 7 0 code s

/-- A slot fails: the next one is tried, or the start goes on with factory defaults. -/
def slotFails (b : Bool) (code : Nat) (bytes : List Byte) (s : State) : State :=
  let s1 := slotErr b code (setBoot { s.boot with
    badA := s.boot.badA || !b, badB := s.boot.badB || b, verified := none } s)
  let s2 := match slotErrSect bytes code with | some w => rset aBOOT_ERRSECT w s1 | none => s1
  if (slotsLeft s2).isEmpty then fallback code s2 else s2

/-- System address of a bank of a Press (Table 05-1). -/
def bankAddr (p bank : Nat) : Nat :=
  0x400000 + 0x80000 * p + (if bank = 0 then 0 else if bank = 1 then 0x10000 else 0x38000)

/-- Apply a section (Table 17-7). A warm start takes the register lists and the protection table only; it keeps the CISTERN
sections for a later LOST. -/
def loadSection (s : State) (x : Section) : State :=
  let b := s.boot
  match x with
  | .regInit l => setBoot { b with regInit := b.regInit ++ l } s
  | .press p bank first ws => if b.warm then s else stWords (bankAddr p bank + 4 * first) ws s
  | .forme f off ws => if b.warm then s else stWords (formeBase f + off) ws s
  | .preload c es => if b.warm then s else setBoot { b with preload := b.preload ++ es.map fun e => (c, e) } s
  | .cistern line data => setBoot { b with cistern := b.cistern ++ [⟨line, data⟩] } s
  | .prot _ | .unknown => s

/-- The PROT sections, applied first. -/
def loadProt (s : State) (x : Section) : State :=
  match x with
  | .prot l => l.foldl (fun s e =>
      if isPageAddr e.addr ∧ pageOf e.addr = pgPROT then applyRegInit e.addr e.value s else skipEntry e.addr s) s
  | _ => s

/-- A slot has passed both passes: it is the image. -/
def loadImage (i : SlotPass) (s : State) : State :=
  let s1 := rset aBOOT_IMG_CRC (slotImgCrc i.bytes) (setBoot { s.boot with
    src := 0, slot := if i.slotB then 1 else 0, signed := slotSigned i.bytes, cause := 0, verified := none
    regInit := [], preload := [], cistern := [] } s)
  let l := slotSections i.bytes
  imageDone (l.foldl loadSection (l.foldl loadProt s1))

/-- IMAGE_SLOT_PASS. A pass that the start has not reached changes nothing. -/
def imageSlotPass (i : SlotPass) (s : State) : State :=
  if s.boot.held ≠ .none ∨ s.boot.hold.isSome ∨ s.boot.step ≠ .s5 ∨ bootSel s > 1 then s
  else if ¬ i.flash then
    bootAdvance (fallback 1 ((slotsLeft s).foldl (fun s b => slotErr b 1 s) s))
  else
    let s1 := rset aBOOT_SEQ_A i.seqA (rset aBOOT_SEQ_B i.seqB s)
    let expected := match s.boot.verified with | some b => some b | none => (slotsLeft s1).head?
    if expected ≠ some i.slotB ∨ i.load ≠ s.boot.verified.isSome then s
    else
      let code := if i.load then loadCode i.bytes else slotCode s1 i.bytes
      if code ≠ 0 then bootAdvance (slotFails i.slotB code i.bytes s1)
      else if i.load then bootAdvance (loadImage i s1)
      else setBoot { s1.boot with verified := some i.slotB } (slotErr i.slotB 0 s1)

/-- BOOT.CMD CONTINUE at a hold point (R464). -/
def bootContinue (s : State) : State :=
  let s1 := setBoot { s.boot with hold := none } s
  match s.boot.hold with
  | some 1 => bootAdvance (enter6 s1)
  | some _ => s1
  | none => s

/-! ### RUN and preload (R463, R471) -/

/-- A preload entry: checked as the section's client at level 0, whatever CLIENTCFG.EN holds. It has no ring slot. -/
def submitPreload (s : State) (x : Nat × Entry) : State :=
  let e := { x.2 with w0 := setBits x.2.w0 23 20 x.1 }
  let c := aGALLEY_CLIENTCFG x.1
  match (galleyCheck (rset c (rget s c ||| flg true 31) s) 0 e s.now).2.2 with
  | some ev =>
    let s1 := journal ev s
    let s2 := if replicates s then sendCell 4 (.slot ev) s1 else s1
    rput aBOOT_PRELOAD 15 0 (rfld s2 aBOOT_PRELOAD 15 0 + 1) (cnt aGALLEY_ACC_CNT (handOver ev false s2))
  | none => rput aBOOT_PRELOAD 31 16 (rfld s aBOOT_PRELOAD 31 16 + 1) (cnt aGALLEY_REF_CNT s)

/-- The PRELOAD entries go in once a cold start runs as SOLO, or first becomes ACTIVE. -/
def preloadRun (s : State) : State :=
  if galleyReady s ∧ s.boot.preload ≠ [] then
    s.boot.preload.foldl submitPreload (setBoot { s.boot with preload := [] } s)
  else s

/-- START_RUN. -/
def startRun (s : State) : State :=
  if s.boot.held ≠ .none ∨ s.boot.hold.isSome ∨ s.boot.step ≠ .s9 ∨ s.boot.run then s
  else
    let s1 := endStep .s9 s
    let s2 := iset pgBOOT 0 (setBoot { s1.boot with run := true, retention := true, everRun := true } s1)
    preloadRun (iset pgGALLEY (if s.galley.fresh then 5 else 6) s2)

/-- OTP_PROGRAM_DONE: the bits act from the next power-on reset (R474). -/
def otpProgramDone (s : State) : State :=
  match s.boot.otpBusy with
  | some (w, d) =>
    setBoot { s.boot with otpBusy := none, fuses := alSet s.boot.fuses w (alGet 0 s.boot.fuses w ||| d) } s
  | none => s

end Sys2Proof.Machine
end

