-- ==== Sys2Proof/Machine/HostBus.lean ====
section
/-!
DEFINITION. The host bus: decode, privilege, widths, the rules of the owning blocks, and what an access does
(16_host_interface_protection.md R441 to R453; 00_scope.md R6 to R19; 01_architecture.md R23).
-/

namespace Sys2Proof.Machine

/-! ### Statuses (Table 16-2) -/

abbrev stsDecode : Nat := 1
abbrev stsDenied : Nat := 2
abbrev stsRwp : Nat := 3
abbrev stsWidth : Nat := 4
abbrev stsRefused : Nat := 5
abbrev stsUe : Nat := 6
abbrev stsTimeout : Nat := 7
abbrev stsCycle : Nat := 8

/-- HA carries byte address bits [24:2]. -/
def busAddr (a : Nat) : Nat := a / 4 % 2 ^ 23 * 4

/-- The end of an access (R444). A read of LASTERR or LASTADDR leaves both unchanged. -/
def endAccess (status lvl : Nat) (write : Bool) (a : Nat) (s : State) : State :=
  let own := !write && (a == aHOSTIF_LASTERR || a == aHOSTIF_LASTADDR)
  let s1 := if own then s else
    rset aHOSTIF_LASTADDR (w32 a) (rset aHOSTIF_LASTERR (fld status 24 ||| fld lvl 22 ||| flg write 21) s)
  if status = 0 then s1 else errcap pgHOSTIF (0x100 + status) a (iset pgHOSTIF 0 (cnt aHOSTIF_ERR_CNT s1))

/-! ### Decode, protection and the start -/

/-- Is the address in the map (R475, R476, R149; each Forme holds 0x240000 bytes)? -/
def decodes (a : Nat) : Bool :=
  decide (a < 0x4000) || (isPageAddr a && decide (pageOf a < 0x36)) || decide (0x100000 ≤ a ∧ a < 0x400000)
    || (pressMemAt a).isSome || decide (0x1000000 ≤ a ∧ a < 0x1800000 ∧ (a - 0x1000000) % 0x400000 < formeSize)

/-- Before RUN and outside a hold, SYS, BOOT, OTP and PROT alone are served (R464). -/
def closedTo (s : State) (a : Nat) : Bool :=
  !s.boot.run && s.boot.hold.isNone && !(isPageAddr a && [pgSYS, pgBOOT, pgOTP, pgPROT].contains (pageOf a))

/-- The first of DECODE, DENIED and WIDTH that applies; 0 where none does. -/
def accessGate (s : State) (l a : Nat) (write : Bool) (be : BitVec 4) : Nat :=
  if ¬ decodes a ∨ (write ∧ a < 0x4000) then stsDecode
  else if ¬ permits s l a write then stsDenied
  else if write ∧ isPageAddr a ∧ be ≠ 0xF#4 then stsWidth
  else 0

/-- A matrix error (R403, R404, R410): the code, its counter or flag, the master of the first one captured. -/
def matrixErr (code istat m a : Nat) (s : State) : State :=
  let first := !rbit s (aERRCAP pgMATRIX) 31
  let s1 := errcap pgMATRIX code a (iset pgMATRIX istat s)
  if first then rset aMATRIX_ERRMASTER (w32 m) s1 else s1

/-- What a gated access leaves behind, and its end. -/
def gatedAccess (status l a : Nat) (write : Bool) (s : State) : State :=
  let s1 :=
    if status = stsDecode ∧ ¬ a < 0x4000 then matrixErr 1 0 0 a (cnt aMATRIX_DECERR_CNT s)
    else if status = stsDenied then protFault false l a write false s
    else s
  endAccess status l write a s1

/-! ### Register writes -/

/-- Registers whose SOLO write waits for the next frame boundary (R23): those of the data-plane pages that a frame reads. The PORT
words and slot masks have a landing rule of their own (R222); statistics and staging windows are no part of a frame. -/
def soloLater (p o : Nat) : Bool :=
  ((p == pgJET || p == pgASRC) && decide (0x100 ≤ o ∧ o < 0x300))
    || (decide (0x10 ≤ p ∧ p ≤ 0x13) && (o == 0x40 || o == 0x44))
    || (p == pgAES3 && (o == 0x40 || decide (0x100 ≤ o ∧ o < 0x120)))
    || (p == pgSTREAMRX && (o == 0x40 || o == 0x44 || decide (0x90 ≤ o ∧ o < 0xA0)))
    || (decide (0x20 ≤ p ∧ p ≤ 0x2F) && (decide (0x40 ≤ o ∧ o < 0x68) || o == 0x80 || o == 0x8C))
    || (p == pgPLAYER && decide (0x40 ≤ o ∧ o < 0x4C))

/-- CTRL bits of a data-plane page whose SOLO write acts at once: FREEZE, and the debug controls of a Press, which R173 gives
boundaries of their own. The others wait for the frame boundary (R23). -/
def ctrlNow (p : Nat) : Word := if 0x20 ≤ p ∧ p ≤ 0x2F then 0x84#32 else 4#32

/-- SYS and BOOT commands act here; every other register by `regAct`. A TXCOMMIT takes the content at once: it is sent from a later
block on (R229). -/
def landPage (l a : Nat) (old new v : Word) (s : State) : State :=
  let p := pageOf a
  let o := offOf a
  if a = aSYS_RSTCMD then rset a new s
  else if a = aBOOT_CMD then (if bit v 0 then bootContinue s else s)
  else if isSolo s ∧ a = aRECORDER_FREEZE then { s with landNext := s.landNext ++ [(a, v)] }
  else if isSolo s ∧ soloLater p o then
    let s1 := { s with landNext := alSet s.landNext a new }
    if p = pgAES3 ∧ o ≠ 0x40 ∧ bit v 27 then txCommit (Fin.ofNat 8 ((o - 0x100) / 4)) s1 else s1
  else if isSolo s ∧ dataPlane p ∧ o = 8 then
    let cur := rget s a
    let now := maskWord (ctrlNow p) cur new
    let s1 := { s with landNext := if now = new then alDel s.landNext a else alSet s.landNext a new }
    (regAct true none l a cur now v s1).1
  else (regAct true none l a old new v s).1

/-- A write to a register page that decode, protection and width have let through: the state after it and its status. -/
def pageWrite (l a : Nat) (v : Word) (s : State) : State × Nat :=
  match regAt a with
  | none => (s, 0)
  | some d =>
    let p := pageOf a
    let old := heldReg s a
    let new := newWord d p l old v
    let rwp := rwpDiscard d l old v
    let act := v &&& (w32 d.w1s ||| w32 d.wo ||| w32 d.w1c ||| (if l = 0 then w32 d.rwp else 0))
    let fault (s : State) : State := if rwp then protFault true l a true false s else s
    let sts := if rwp then stsRwp else 0
    match soloRefuse s d a v with
    | some r => (recordRefuse p r s, stsRefused)
    | none =>
      if a = aSYS_RSTCMD ∧ ¬ keyOk v then (errcap pgSYS 1 a s, stsRefused)
      else if offOf a = 8 ∧ bit v 1 ∧ bit old 0 then (fault s, sts)
      else match blockRefuse s true l a old new v with
        | some r => (recordRefuse p r s, stsRefused)
        | none => (fault (landPage l a old new act s), sts)

/-! ### Memory writes -/

/-- A refusal with the owning page's code. -/
def refuseAt (p code a : Nat) (s : State) : State × Nat := (errcap p code a s, stsRefused)

/-- A partial write whose read met an uncorrectable error does not take effect (R412). -/
def memDone (r : State × Bool) : State × Nat := (r.1, if r.2 then 0 else stsUe)

/-- Host writes to shared SRAM (R410, R219, R249, R75, R80, R31). -/
def sharedWrite (a : Nat) (be : BitVec 4) (v : Word) (s : State) : State × Nat :=
  if a < 0x280000 then refuseAt (pgPORTG (Fin.ofNat 4 ((a - 0x200000) % 0x40000 / 0x2000 / 8))) 4 a s
  else if a < 0x300000 then refuseAt pgSTREAMRX 4 a s
  else if a < 0x380000 then (if bank2Refused s a then refuseAt pgGALLEY 2 a s else memDone (stWordBe a be v s))
  else if a < 0x3C0000 then memDone (stWordBe a be v s)
  else (matrixErr 3 2 0 a (cnt aMATRIX_RIGHTS_CNT s), stsRefused)

/-- CORE is gated: T4 and T5 answer with an error (R403). -/
def coreGatedErr (a : Nat) (s : State) : State × Nat := (matrixErr 5 4 0 a s, stsRefused)

/-- A write to memory that decode and protection have let through. -/
def memWrite (a : Nat) (be : BitVec 4) (v : Word) (s : State) : State × Nat :=
  if a < 0x200000 then
    let r := apWrite a be v s
    (r.1, if r.2 then 0 else if apRefused s a then stsRefused else stsUe)
  else if a < 0x400000 then sharedWrite a be v s
  else match pressMemAt a with
    | some pi =>
      if s.clk.coreGated then coreGatedErr a s
      else if s.press[pi].mode ≠ .halted then ((pressMemWrite pi a be v s).1, stsRefused)
      else memDone (pressMemWrite pi a be v s)
    | none =>
      if s.clk.coreGated then coreGatedErr a s
      else match formeRefuse s (decide (0x1400000 ≤ a)) with
        | some c => refuseAt pgBASIN c a s
        | none => memDone (formeStore a be v s)

/-- HRDY_N is held on a read: a P bank serves no other access while its Press fetches from it (R174). -/
def readHeld (s : State) (a : Nat) : Bool :=
  match pressMemAt a with
  | some pi => !s.clk.coreGated && decide ((a - 0x400000) % 0x80000 < 0x10000) && pressFetches s pi
  | none => false

/-- HRDY_N is held: the queue to the partner is full (R124, R174). -/
def writeHeld (s : State) (a : Nat) : Bool :=
  match pressMemAt a with
  | some pi => s.press[pi].mode == .halted && pressMirrorFull s pi && !s.clk.coreGated
  | none => decide (0x1000000 ≤ a) && (formeRefuse s (decide (0x1400000 ≤ a))).isNone && mirrorFull s && !s.clk.coreGated

/-- A host write (R441 to R444). While the device is held in reset the bus is high impedance and nothing happens. -/
def hostWrite (x : HostAcc) (s : State) : State :=
  let a := busAddr x.addr
  let l := x.lvl.val
  let g := accessGate s l a true x.be
  if s.boot.held ≠ .none then s
  else if g ≠ 0 then gatedAccess g l a true s
  else if closedTo s a then endAccess stsRefused l true a s
  else if isPageAddr a then
    let r := pageWrite l a x.v s
    let s1 := endAccess r.2 l true a r.1
    -- a reset starts once the access has completed
    if a = aSYS_RSTCMD ∧ keyOk x.v ∧ l = 0 then bootAdvance (resetCommand x.v s1) else s1
  else if writeHeld s a then s
  else
    let r := memWrite a x.be x.v s
    endAccess r.2 l true a r.1

/-! ### Reads -/

/-- The low words of the 64-bit registers (R11). -/
def pairLows : List Nat :=
  [aTIMEBASE_CORR_PEND_LO, aTIMEBASE_MEDIA_NOW_LO, aTIMEBASE_PTP_NOW_LO, aTIMEBASE_POS_NOW_LO, aCOMPOSITOR_NEXT_MEDIA_LO, aTWIN_CUT_LO,
   aSWITCH_MGMT_MCAST_LO, aPTP_TIMESET_S_LO, aPTP_OFFSET_LO, aPTP_TIME0_S_LO, aPTP_TIME1_S_LO, aBASIN_LAND_LO, aINTC_PEND_LO,
   aINTC_INT_EN_LO, aINTC_ALM_EN_LO, aNET_MAC_LO 0, aNET_MAC_LO 1]

/-- A register as the host reads it: a latched word once (R11, R279), and what the read latches. -/
def pageRead (a : Nat) (s : State) : Word × State :=
  match s.latches.find? (fun x => x.1 == a) with
  | some x => (x.2, { s with latches := alDel s.latches a })
  | none =>
    let s1 :=
      if a = aPTP_TIME0_NS then timeNsLatch false s
      else if a = aPTP_TIME1_NS then timeNsLatch true s
      else if pairLows.contains a then { s with latches := alSet s.latches (a + 4) (viewReg s (a + 4)) }
      else s
    (viewReg s a, s1)

/-- Read a word of memory: the data, the state, the status (R395, R403, R416). -/
def memRead (a : Nat) (s : State) : Word × State × Nat :=
  if a < 0x200000 then
    let b := apByte s a
    if ¬ cistServes s ∨ b + 4 > cistBytes s then (0, s, stsRefused)
    else
      let r := eccRead (cistBase + b) (dramTouch 5 (b / 64) 4 s)
      if r.2 then (0, r.1, stsUe) else (cdWord r.1 b, r.1, 0)
  else if a ≥ 0x400000 ∧ s.clk.coreGated then (0, (coreGatedErr a s).1, stsRefused)
  else
    let r := eccRead a s
    if r.2 then (0, r.1, stsUe) else (rdWord r.1 a, r.1, 0)

/-- A host read: the data on HD and the state after it (R443, R444). -/
def hostRead (x : Nat) (l : Nat) (s : State) : Word × State :=
  let a := busAddr x
  let g := accessGate s l a false 0xF#4
  if s.boot.held ≠ .none then (0, s)
  else if g ≠ 0 then (0, gatedAccess g l a false s)
  else if closedTo s a then (0, endAccess stsRefused l false a s)
  else if a < 0x4000 then (proofWord s a, endAccess 0 l false a s)
  else if isPageAddr a then
    let r := pageRead a s
    (r.1, endAccess 0 l false a r.2)
  else if readHeld s a then (0, s)
  else
    let r := memRead a s
    (r.1, endAccess r.2.2 l false a r.2.1)

/-- LOW_WORD_READ, and every other read cycle (R11). -/
def lowWordRead (x l : Nat) (s : State) : State := (hostRead x l s).2

/-- STROBE_CONFLICT: both strobes low (R442). The direction that LASTERR shows is not given: it is free. -/
def strobeConflict (x l : Nat) (s : State) : State :=
  if s.boot.held ≠ .none then s
  else
    let r := freeBelow 2 s
    endAccess stsCycle l (decide (r.1 = 1)) (busAddr x) r.2

/-- HOST_ACCESS_TIMEOUT (R443). A Proof window read has no wait. -/
def hostAccessTimeout (x l : Nat) (write : Bool) (s : State) : State :=
  let a := busAddr x
  let g := accessGate s l a write 0xF#4
  if s.boot.held ≠ .none ∨ (¬ write ∧ a < 0x4000) then s
  else if g ≠ 0 then gatedAccess g l a write s
  else endAccess stsTimeout l write a s

/-- PRESS_HOST_TIMEOUT (R174): an access to a bank of Press `p` has waited 65,536 CORE cycles. -/
def pressHostTimeout (p : Fin 16) (x l : Nat) (write : Bool) (s : State) : State :=
  let a := busAddr x
  let g := accessGate s l a write 0xF#4
  if s.boot.held ≠ .none ∨ pressMemAt a ≠ some p then s
  else if g ≠ 0 then gatedAccess g l a write s
  else endAccess stsRefused l write a (errcap (pgPRESS p) 6 a s)

/-! ### Writes that a command names -/

/-- A host write to the word at `a`. -/
def writeAt (a : Nat) (w : HW) (s : State) : State := hostWrite ⟨a, w.lvl, w.be, w.v⟩ s

/-- The same with bits of the word given by the command itself. -/
def writeBits (a : Nat) (w : HW) (hi lo v : Nat) (s : State) : State := hostWrite ⟨a, w.lvl, w.be, setBits w.v hi lo v⟩ s

/-! ### Proof window (R447 to R449) -/

/-- Meters, states and tickets of a snapshot. -/
def fullSnapshot (s : State) : State := snapshot (proofHead s ++ proofBody s) s

/-- PROOF_SNAPSHOT: after a boundary, on FABRIC at 400 MHz, not while HOLD is in force, and under shed step 1 only at block
boundaries. -/
def proofSnapshot (s : State) : State :=
  if s.boot.held ≠ .none ∨ s.clk.fabFb ∨ ¬ s.tb.ticking ∨ rbit s aHOSTIF_PROOF 31 ∨ (s.shed ≥ 1 ∧ ¬ isBlock s s.tb.frame) then s
  else fullSnapshot s

/-- FALLBACK_SNAPSHOT. -/
def fallbackSnapshot (s : State) : State :=
  if s.boot.held ≠ .none ∨ ¬ s.clk.fabFb ∨ rbit s aHOSTIF_PROOF 31 then s else snapshot (proofHead s) s

/-- PROOF_HOLD_EXPIRE: HOLD_MAX boundaries since HOLD was set. -/
def proofHoldExpire (s : State) : State :=
  if rbit s aHOSTIF_PROOF 31 ∧ s.host.holdCnt ≥ zeroIs1 (rfld s aHOSTIF_PROOF 7 0) then
    iset pgHOSTIF 1 (rput aHOSTIF_PROOF 31 31 0 s)
  else s

end Sys2Proof.Machine
end

