-- ==== Sys2Proof/Machine/Landing.lean ====
section
/-!
DEFINITION. Released entries that act on their landing frame (02_time_axes_compositor.md R64 to R69, 04_basin_formes.md R126, R127).
-/

namespace Sys2Proof.Machine

/-- The pair addresses a Forme word of the locked shadow (R126). -/
def onLockedShadow (s : State) (x : Nat × Word) : Bool :=
  s.basin.lock && decide (0x1000000 ≤ x.1) && decide (0x1400000 ≤ x.1) != s.basin.liveB

/-- One pair of a WRITE_PARAM; the answer adds whether the entry must wait. -/
def landPair (t : Word) (a : State × Bool) (x : Nat × Word) : State × Bool :=
  let r := if x.1 ≥ 0x1000000 then formeParam t x.1 x.2 a.1 else regLand (some t) x.1 x.2 a.1
  (r.1, a.2 || r.2)

/-- WRITE_PARAM acts (R126): every pair in payload order, or the whole entry is held while one of them meets the locked shadow. -/
def writeParam (e : Ev) (s : State) : State :=
  let ps := pairsOf e.payload
  if ps.any (onLockedShadow s) then basinWait e s
  else
    let r := ps.foldl (landPair e.ticket) (keepRunning e s, false)
    if r.2 then r.1 else finishRunning e.ticket s.tb.frame r.1

/-- The first released entry acts, when it is the one named with this opcode and no held entry comes before it (R127). -/
def landEntry (t : Word) (op : Nat) (f : Ev → State → State) (s : State) : State :=
  if heldTurn s then s
  else match landingHead s t op with
    | some e => f e (popLanding s)
    | none => s

/-- Complete on the landing frame. -/
def finishNow (e : Ev) (s : State) : State := finishAt e s.tb.frame s

/-- CANCEL completes on its landing frame (Table 03-3): it acted at its selection (R64). An IMM CANCEL acts and completes at acceptance
(`applyImmCancel`), so it never lands. -/
def cancelEntry (t : Word) (s : State) : State := landEntry t opCancel finishNow s

/-- MEDIA_RATE_CHANGE: the WRITE_PARAM that carries PLLM.RATE lands (R331, R332). -/
def mediaRateChange (t : Word) (s : State) : State :=
  match landingHead s t opWriteParam with
  | some e => if (pairsOf e.payload).any fun x => x.1 == aPLLM_RATE then landEntry t opWriteParam writeParam s else s
  | none => s

/-- HELD_ENTRY_ACT (R127): the held entry whose turn it is acts on the present frame. -/
def heldEntryAct (t : Word) (s : State) : State :=
  match heldFirst s with
  | none => s
  | some e =>
    if e.ticket ≠ t ∨ (waitFirst s (some e)).isSome then s
    else
      let e' := { e with land := s.tb.frame }
      let s1 := { s with comp := { s.comp with held := dropEv t s.comp.held } }
      if e.e.opcode = opRecall then recallLand e' s1 else writeParam e' s1

/-- PRESS_MSG waits for held entries like every landing (R127). -/
def pressMsgLand (t : Word) (s : State) : State := if heldTurn s then s else pressMsg t s

end Sys2Proof.Machine
end

