-- ==== Sys2Proof/Machine/Frame.lean ====
section
/-!
DEFINITION. The frame tick: everything that happens at a MEDIA frame boundary (01_architecture.md R32 to R37, 02_time_axes_compositor.md
R45 to R68, and the per-frame work of every data-plane chapter).
-/

namespace Sys2Proof.Machine

/-- Frame ticks are held by a rate change until RATE_RESUME (R332). -/
def tickHeld (s : State) : Bool :=
  match s.clk.change with
  | some c => c.phase == .search || c.phase == .ramp || c.phase == .relock || c.phase == .resume
  | none => false

/-- A frame tick occurs: MEDIA runs. -/
def tickLive (s : State) : Bool := s.boot.held == .none && s.clk.lockM && !tickHeld s

/-- Host writes queued for the partner are sent, in order (R124, R174). -/
def sendMirrored (s : State) : State :=
  let out (q : List (Nat × Word)) (s : State) : State := if q.isEmpty then s else sendCell 5 (.words false q) s
  let s1 := setBasin { s.basin with mirrorQ := [] } (out s.basin.mirrorQ s)
  (List.finRange 16).foldl (fun s (p : Fin 16) =>
    let q := s.press[p].mirrorQ
    if q.isEmpty then s else setPress p { s.press[p] with mirrorQ := [] } (out q s)) s1

/-- Mirrored samples take the place of the device's own in the ring frame captured at the last boundary (R340); a channel that the
partner mirrors and that has not come fails the self-check. -/
def mirrorInputs (s : State) : State :=
  match s.ports.inHist with
  | [] => s
  | own :: rest =>
    let m := s.twin.mirrorIn
    let merged := m.foldl (fun l x => alSet l x.1 x.2) own
    let lateM := s.twin.mirrorCh.any fun c => !(m.any fun x => x.1 == c)
    let s1 := { s with
      ports := { s.ports with inHist := merged :: rest }
      twin := { s.twin with mirrorIn := [] } }
    if lateM then markBad s1 else s1

/-- Input channels of ring frame `f` as they leave their rings and lines: ports, then flows, then the Player (R220, R261, R394). -/
def captureInputs (f : Nat) (missing : List (Fin 256)) (s : State) : State :=
  let r := playerInputs f missing (flowInputs f (portInputs f s))
  let ins := nonZero (r.1.filter fun x => decide (x.1 < limIn s))
  { r.2 with ports := { r.2.ports with inHist := (ins :: r.2.ports.inHist).take 66 } }

/-- The Basin and the Jet paths close frame `f` (R26, R106, R178): the Basin hears ring frame f − 1 delayed by two blocks, the
Jet paths ring frame f − 1 itself. -/
def closeNow (f : Nat) (s : State) : State :=
  let raw := s.ports.inHist.headD []
  let r := insertPress f (s.ports.inHist.getD (2 * blockN s) []) s
  closeFrame f r.1 raw r.2

/-- The outputs of frame `f` go to ports and flows, through the fade of a rate change or relock and the alignment lines (R325, R332,
R385). -/
def deliverOutputs (f : Nat) (s : State) : State :=
  let k := rateFade s f
  let out : Samples := (s.basin.outHist.headD []).map fun x => (x.1, gain64 x.2 k)
  let r := alignLines f out s
  flowOutputs f r.1 (portOutputs f r.1 r.2)

/-- The CRC of the outputs of frame `f` (R350). -/
def noteCrc (f : Nat) (s : State) : State :=
  if s.twin.paired then
    { s with twin := { s.twin with ownCrc := ((f, outputCrc s (s.basin.outHist.headD [])) :: s.twin.ownCrc).take 8 } }
  else s

/-- The port group whose group frames are the boundaries of a page (R23): its own page, and AES3 with group 3. -/
def pageGroup (p : Nat) : Option (Fin 4) :=
  if 0x10 ≤ p ∧ p ≤ 0x13 then some (Fin.ofNat 4 (p - 0x10)) else if p = pgAES3 then some 3 else none

/-- A waiting write lands at a boundary: at the group frames of a group that has them, else at the frame tick. -/
def landsAt (g : Option (Fin 4)) (s : State) (x : Nat × Word) : Bool :=
  let own : Option (Fin 4) :=
    match pageGroup (pageOf x.1) with
    | some h => if (grp s h).st = .run ∨ (grp s h).st = .qualify then some h else none
    | none => none
  own == g

/-- SOLO writes that waited for the boundary act (R23): those of group `g`, or of the frame tick. -/
def landWaiting (g : Option (Fin 4)) (s : State) : State :=
  (s.landNext.filter (landsAt g s)).foldl (fun s x => (regLand none x.1 x.2 s).1)
    { s with landNext := s.landNext.filter fun x => !landsAt g s x }

/-- GROUP_FRAME: what waits for a group frame lands as it starts. -/
def groupTick (g : Fin 4) (i : GroupIn) (s : State) : State := groupFrame g i (landWaiting (some g) s)

/-- Error counters of the self-check (R351): staging misses, overruns, packets missed on the standby. -/
def badCount (s : State) : Nat :=
  (rget s aDDRC_STAGE_MISS_CNT).toNat + (rget s aSTREAMRX_STBY_MISS_CNT).toNat
    + ((List.range 16).map fun p => (rget s (aPRESS_OVR_CNT p)).toNat).sum
def checkBad (s : State) : State :=
  let n := badCount s
  if n = s.twin.badSnap then s
  else
    let s1 := markBad s
    { s1 with twin := { s1.twin with badSnap := n } }

/-- What the DEC cell of frame `f` says (R68, R225, R232, R262, R315, R357). -/
def decBody (f : Nat) (s : State) : DecBody :=
  let t := s.tb
  let latches := [t.stuckA, t.stuckB, t.chatter, t.cntStuck, t.cntChatter, t.est.isSome]
  let ahead (p : PulseSt) : Nat := match p.next with | some n => n - f | none => 0
  { frame := f, ptp := BitVec.ofNat 64 t.ptpNow, pos := t.posNow, posEnd := t.posEnd, posEnd2 := t.posEnd2, cnt := w32 t.cntNow
    speed := t.spdNow, pend := t.pend, latches := BitVec.ofNat 6 (maskTo 6 fun i => latches.getD i false).toNat
    groups := (List.finRange 4).map fun g => (g, grp s g)
    aes := (List.finRange 8).map fun m => (m, s.ports.aes[m])
    ratios := (List.finRange 16).map fun r => (r, rget s (aASRC_RATIO r), alGet 0 s.ports.readPos r)
    locks := (rget s aASRC_LOCKSTAT).setWidth 16
    used := s.net.used.map fun u => (Fin.ofNat 256 u.1, u.2)
    flows := s.net.tx.map fun x => (Fin.ofNat 256 x.f, x.start, x.next, x.made, x.acc)
    wclk0 := outNext s 0 f - f, wclk1 := outNext s 1 f - f, pps := ahead s.clk.pps, bmark := ahead s.clk.bmark }

/-- The cells of a boundary (R340, R350, R351, R357): HEALTH, the DEC of an active, MIRROR. -/
def boundaryCells (f : Nat) (s : State) : State :=
  let t := s.twin
  let check := t.mism.map fun m => (m, selfPass s m)
  let s1 := sendCell 1 (.health t.st.code (t.lease.getD 0) t.fcause (f - 1) ((crcOf t.ownCrc (f - 1)).getD 0) check) s
  let s2 := if isActive s then sendCell 2 (.dec (decBody f s)) s1 else s1
  let chans := (List.range 8).flatMap fun k =>
    let w := rget s (aTWIN_MIRROR_TX k)
    if bit w 31 then (List.range (bits w 25 16)).map (bits w 9 0 + ·) else []
  let own := s.ports.inHist.headD []
  let s3 := if chans.isEmpty then s2 else sendCell 3 (.mirror (f - 1) (chans.map fun c => (c, i32 (smp own c)))) s2
  setNet { s3.net with used := [] } s3

/-- The pair at the boundary that starts frame `f` (R350 to R352, R343): compare, decide, renew, send. -/
def twinTick (f : Nat) (s : State) : State :=
  if ¬ s.twin.paired then renewLease s
  else
    let s1 := crcOutcome f (crcCompare (f - 2) (checkBad s))
    let s2 := { s1 with twin := { s1.twin with dmax := max s1.twin.dmax (delayMax s1) } }
    boundaryCells f (renewLease s2)

/-- Entries that a warm reset ended complete on the first frame after it (R465). -/
def finishRestart (f : Nat) (s : State) : State :=
  if s.boot.restart then
    s.comp.running.foldl (fun s e => finishRunning e.ticket f s) (setBoot { s.boot with restart := false } s)
  else s

/-- The events selected for this frame are released (R64), and those of the next are selected: a standby waits for the samples of the
active (R68). -/
def releaseAndSelect (s : State) : State :=
  let s1 := { s with comp := { s.comp with landing := s.comp.landing ++ s.comp.sel, sel := [], lastExec := s.comp.execNow, execNow := s.comp.sel.length } }
  if usesDec s then setTb { s1.tb with selWait := true } s1
  else selectNow s1

/-- The pulse outputs, the frames of HOLD, and the fade after a relock. -/
def countFrame (f : Nat) (s : State) : State :=
  let c := s.clk
  let s1 := setClk { c with
    pps := { c.pps with left := c.pps.left - 1 }
    bmark := { c.bmark with left := c.bmark.left - 1 }
    afterGap := false
    fadeInAt := if c.afterGap then some f else match c.fadeInAt with
      | some h => if c.change.isNone ∧ f ≥ h + 64 then none else some h
      | none => none } s
  if rbit s aHOSTIF_PROOF 31 then { s1 with host := { s1.host with holdCnt := s1.host.holdCnt + 1 } } else s1

/-- The work that ends frame `f`. A joiner that receives the state copy computes nothing (R362). -/
def endFrame (f : Nat) (i : FrameIn) (s : State) : State :=
  let copying := s.twin.st == .syncing && decide (2 ≤ s.twin.phase)
  let s1 := mirrorInputs (sendMirrored (recDrain i.drained (shedMeasure i.pressure.val s)))
  let s2 := if copying then s1 else recordFrame f (closeNow f (writeRings (f - 1) (s1.ports.inHist.headD []) s1))
  noteCrc f (deliverOutputs f (captureInputs f i.missing s2))

/-- The read positions of the frame (R232): those of the sources in lock move on, to places that their trackers choose. A standby has
the active's. -/
def moveReadPos (s : State) : State :=
  if usesDec s then s
  else (List.range 16).foldl (fun s i =>
    if srcLocked s i then
      let r := freeWord s
      { r.2 with ports := { r.2.ports with readPos := alSet r.2.ports.readPos i r.1 } }
    else s) s

/-- The work that starts frame `f`. -/
def startFrame (f : Nat) (s : State) : State :=
  let gap := s.boot.restart || s.clk.afterGap
  let s1 := finishRestart f (setTb { s.tb with frame := f, ticking := true } s)
  let s2 := alignTick (axisTick s.now (landWaiting none (applyDlyCommits (applyCommits (stageFlows (moveReadPos (netDrain s1)))))))
  let s3 := countFrame f (twinTick f s2)
  releaseAndSelect (if gap then selectGap s3 else s3)

/-- A standby whose DEC cell did not come selects with its own samples, late (R68, R351). -/
def ownSelection (s : State) : State :=
  if s.tb.selWait then selectNow (markBad (setTb { s.tb with selWait := false } s)) else s

/-- A boundary while CORE is gated: frames are counted, and Presses and Basin stand inside theirs (R324, R447). -/
def gatedTick (f : Nat) (s : State) : State := countFrame f (setTb { s.tb with frame := f, tickT := s.now } s)

/-- FRAME_TICK. -/
def frameTick (t : Nat) (i : FrameIn) (s : State) : State :=
  let s := advance t s
  if ¬ tickLive s then s
  else if s.clk.coreGated then gatedTick (s.tb.frame + 1) s
  else
    let s1 := ownSelection s
    startFrame (s1.tb.frame + 1) (endFrame s1.tb.frame i s1)

/-- BLOCK_TICK: a starved Press fails the self-check (R180, R351). -/
def blockTickCheck (starved : List (Fin 16)) (s : State) : State :=
  let live := starved.any fun p => takesTick s.press[p]
  let s1 := blockTick starved s
  if live && s.twin.paired then markBad s1 else s1

end Sys2Proof.Machine
end

