-- ==== Sys2Proof/Machine/AxisCmds.lean ====
section
/-!
DEFINITION. The pins of the position and counter axes (02_time_axes_compositor.md R53 to R61, R529).
-/

namespace Sys2Proof.Machine

/-- TACH_PULSE (R54): A filtered TACH_A edge is counted as a pulse in the direction given by TACH_B, and moves the position. -/
def execTachPulse (x : PinEdge) (b : Bool) (s : State) : Host.Outcome State Fault Refusal :=
  .next (awake (tachPulse x b) s)

/-- TACH_QUIET_RELEASE (R61): After QUIET ms below MAXRATE, tach chatter releases and counting resumes from the estimated position. -/
def execTachQuietRelease (t : Nat) (s : State) : Host.Outcome State Fault Refusal :=
  .next (awake (tachQuietRelease t) s)

/-- TACH_STUCK (R61): One tach pin has had no edge for STUCK ms while the other has edges; STUCK_A or STUCK_B is latched. -/
def execTachStuck (t : Nat) (pinB : Bool) (s : State) : Host.Outcome State Fault Refusal :=
  .next (awake (tachStuck t pinB) s)

/-- STANDSTILL (R529): No tach edge for STANDSTILL ms: speed becomes 0, MOVING clears and any estimated advance ends. -/
def execStandstill (t : Nat) (s : State) : Host.Outcome State Fault Refusal :=
  .next (awake (standstill t) s)

/-- CNT_EDGE (R53): A selected, filtered edge of CNT_IN advances the counter axis. -/
def execCntEdge (x : EdgeTime) (rising : Bool) (s : State) : Host.Outcome State Fault Refusal :=
  .next (awake (cntEdge ⟨x.t, rising, x.phase⟩) s)

/-- CNT_QUIET_RELEASE (R61): After QUIET ms with no selected edge, counter chatter releases. -/
def execCntQuietRelease (t : Nat) (s : State) : Host.Outcome State Fault Refusal :=
  .next (awake (cntQuietRelease t) s)

/-- CNT_STUCK (R61): CNT_IN has stayed high for STUCK ms; counter STUCK is latched. -/
def execCntStuck (t : Nat) (s : State) : Host.Outcome State Fault Refusal :=
  .next (awake (cntStuck t) s)

/-- CORR_SUBMIT (R58): A write of CORR_HI submits a position correction into the pending correction, or discards it beyond CORR_LIMIT. -/
def execCorrSubmit (w : HW) (s : State) : Host.Outcome State Fault Refusal :=
  .next (writeAt aTIMEBASE_CORR_HI w s)

/-- CORR_DONE (R59): The pending correction has drained to 0 and CORR_DONE is set. -/
def execCorrDone (s : State) : Host.Outcome State Fault Refusal :=
  .next (awake corrDone s)

/-- POS_LOAD (R60): A write of POS_LOAD_HI sets the position at the next frame boundary, or is refused while POS events are pending. -/
def execPosLoad (w : HW) (s : State) : Host.Outcome State Fault Refusal :=
  .next (writeAt aTIMEBASE_POS_LOAD_HI w s)

/-- TACH_B_EDGE (R61): A filtered edge on TACH_B releases STUCK_B and counts as tach activity for stuck and standstill timing. -/
def execTachBEdge (x : EdgeTime) (level : Bool) (s : State) : Host.Outcome State Fault Refusal :=
  .next (awake (tachBEdge ⟨x.t, level, x.phase⟩) s)

/-- CNT_IN_LOW (R61): CNT_IN goes low and a latched counter STUCK is released. -/
def execCntInLow (x : EdgeTime) (s : State) : Host.Outcome State Fault Refusal :=
  .next (awake (cntInLow x.t x.phase) s)

end Sys2Proof.Machine
end

