-- ==== Sys2Proof/Machine/BasinCmds.lean ====
section
/-!
DEFINITION. Gains, epochs, Sluices, Formes and the Jet paths (04_basin_formes.md R106 to R148).
-/

namespace Sys2Proof.Machine

/-- ZONE_GAP_BEGIN (R140): Every member output of a zone has stayed below GAP_LEVEL for GAP_HOLD ms, and a gap begins. -/
def execZoneGapBegin (z : Fin 128) (s : State) : Host.Outcome State Fault Refusal :=
  .next (awake (zoneGapBegin z) s)

/-- ZC_TIMEOUT_RAMP (R116): No crossing within T frames; a 64-frame Ramp starts instead. -/
def execZcTimeoutRamp (key : Nat) (s : State) : Host.Outcome State Fault Refusal :=
  .next (awake (zcTimeoutRamp key) s)

/-- SLOT_WAIT_START (R128): A point change that found no free interpolation slot starts on the first frame with a free slot, LATE. -/
def execSlotWaitStart (key : Nat) (s : State) : Host.Outcome State Fault Refusal :=
  .next (awake (slotWaitStart key) s)

/-- SLOT_RELEASE (R128): A point change's q reaches 1; its slot is released and the live word holds the new value. -/
def execSlotRelease (key : Nat) (s : State) : Host.Outcome State Fault Refusal :=
  .next (awake (slotRelease key) s)

/-- EPOCH_END (R130): A recall epoch reaches its last frame and closes; the recall may complete. -/
def execEpochEnd (s : State) : Host.Outcome State Fault Refusal :=
  .next (awake epochEnd s)

/-- SHADOW_UNLOCK (R123): The frame after the last open recall completes, the shadow Forme unlocks. -/
def execShadowUnlock (s : State) : Host.Outcome State Fault Refusal :=
  .next (awake shadowUnlock s)

/-- SLUICE_END (R132): A running Sluice ends and any queued route change starts on the next frame. -/
def execSluiceEnd (o : Fin 1024) (s : State) : Host.Outcome State Fault Refusal :=
  .next (awake (sluiceEnd o) s)

/-- SHADOW_FORME_WRITE (R122): A host write to a Forme is stored in the unlocked shadow and queued for the partner, or refused. -/
def execShadowFormeWrite (a : HostAcc) (s : State) : Host.Outcome State Fault Refusal :=
  .next (hostWrite a s)

/-- FORME_CRC_START (R146): A write of CRC_CTRL.START starts a CRC-32 over the selected Forme. -/
def execFormeCrcStart (w : HW) (s : State) : Host.Outcome State Fault Refusal :=
  .next (writeBits aBASIN_CRC_CTRL w 0 0 1 s)

/-- FORME_CRC_DONE (R146): The Forme CRC completes; CRC_VAL is ready and CRC_DONE is set. -/
def execFormeCrcDone (s : State) : Host.Outcome State Fault Refusal :=
  .next (awake formeCrcDone s)

/-- JET_PATH (R135): A change of a Jet path's enable, mute, source or destination starts its crossfades and updates ownership. -/
def execJetPath (p : Fin 64) (w : HW) (s : State) : Host.Outcome State Fault Refusal :=
  .next (writeAt (aJET_PATH p) w s)

/-- JET_XFADE_END (R135): A Jet path's enable or disable crossfade ends and XFADE_DONE is set. -/
def execJetXfadeEnd (p : Fin 64) (s : State) : Host.Outcome State Fault Refusal :=
  .next (awake (jetXfadeEnd p) s)

end Sys2Proof.Machine
end

