-- ==== Sys2Proof/Machine/ClockCmds.lean ====
section
/-!
DEFINITION. The DPLL, the loops, rate changes and the domains (10_reference_selection.md R293 to R318, 11_plls_clock_domains.md R319 to R337).
-/

namespace Sys2Proof.Machine

/-- REF_EDGE (R295): An accepted reference edge is measured for phase error and frequency. -/
def execRefEdge (r : Fin 8) (i : RefMeas) (s : State) : Host.Outcome State Fault Refusal :=
  .next (awake (refEdge r.val i) s)

/-- REF_FAIL (R299): A reference fails at once: missing edges, VALID cleared, link down or source lost. -/
def execRefFail (r : Fin 8) (s : State) : Host.Outcome State Fault Refusal :=
  .next (awake (refFail r.val) s)

/-- REF_SOAK_DONE (R297): A reference passes its tests for QUAL_SOAK and becomes QUALIFIED. -/
def execRefSoakDone (r : Fin 8) (s : State) : Host.Outcome State Fault Refusal :=
  .next (awake (refSoakDone r.val) s)

/-- REF_DISQUALIFY (R297): A DRIFTING reference fails its tests for DISQ_SOAK and becomes DISQUALIFIED. -/
def execRefDisqualify (r : Fin 8) (s : State) : Host.Outcome State Fault Refusal :=
  .next (awake (refDisqualify r.val) s)

/-- DPLL_EVALUATION (R304): Every 10 ms, or at once on failure of the selected reference, the selector updates reference states and selects. -/
def execDpllEvaluation (t : Nat) (s : State) : Host.Outcome State Fault Refusal :=
  .next (awake (fun s => bootAdvance (dpllEvaluation t s)) s)

/-- LOCK_DECLARED (R308): |e| stays at or below LOCK_TH for the dwell; the DPLL enters LOCKED. -/
def execLockDeclared (s : State) : Host.Outcome State Fault Refusal :=
  .next (awake (fun s => bootAdvance (lockDeclared s)) s)

/-- LADDER_STEP (R308): After a further dwell in LOCKED the bandwidth moves one step narrower. -/
def execLadderStep (s : State) : Host.Outcome State Fault Refusal :=
  .next (awake ladderStep s)

/-- LOCK_LOST (R308): |e| exceeds UNLOCK_TH for 100 ms; the DPLL returns to ACQUIRE. -/
def execLockLost (s : State) : Host.Outcome State Fault Refusal :=
  .next (awake lockLost s)

/-- PULL_DONE (R309): A phase pull reaches 0 and PULL_DONE is set. -/
def execPullDone (s : State) : Host.Outcome State Fault Refusal :=
  .next (awake pullDone s)

/-- STEER_WRITE (R312): A STEER write is applied at the next evaluation as a frequency step in HOLDOVER or FREERUN. -/
def execSteerWrite (w : HW) (s : State) : Host.Outcome State Fault Refusal :=
  .next (writeAt aDPLL_STEER w s)

/-- DPLL_ALIGN (R314): A write of an ALIGN bit schedules re-phasing of the named output to an epoch, or is refused. -/
def execDpllAlign (w : HW) (s : State) : Host.Outcome State Fault Refusal :=
  .next (writeAt aDPLL_ALIGN w s)

/-- ALIGN_EDGE (R314): The re-phased output's edge falls at frame h; the ALIGN bit clears and ALIGN_DONE is set. -/
def execAlignEdge (out : Fin 4) (s : State) : Host.Outcome State Fault Refusal :=
  .next (awake (alignEdge out.val) s)

/-- PLL_LOCK (R321): A lock window ends in range; the loop is declared locked and its output ungated. -/
def execPllLock (l : PllLoop) (count : BitVec 13) (s : State) : Host.Outcome State Fault Refusal :=
  .next (awake (fun s => bootAdvance (pllLock l count.toNat s)) s)

/-- PLL_LOSS_OF_LOCK (R324): A loop loses lock or reference; its output is gated and the consequences of Table 11-3 follow. -/
def execPllLossOfLock (l : PllLoop) (s : State) : Host.Outcome State Fault Refusal :=
  .next (awake (pllLoss l) s)

/-- XO_LOSS (R322): No XO edge for 1 µs: the outputs are released, ALM_N is asserted and the device holds in reset. -/
def execXoLoss (s : State) : Host.Outcome State Fault Refusal :=
  .next (xoLoss s)

/-- XO_RESTORE (R322): XO has run for 1 ms without a gap and the device starts from nothing. -/
def execXoRestore (s : State) : Host.Outcome State Fault Refusal :=
  .next (xoRestore s)

/-- MEDIA_RATE_CHANGE (R332): A RATE change lands; all outputs begin a 64-frame fade. -/
def execMediaRateChange (ticket : Word) (s : State) : Host.Outcome State Fault Refusal :=
  .next (awake (mediaRateChange ticket) s)

/-- RATE_HOLD (R332): At the first block boundary after the fade, frame ticks hold and the search or ramp begins. -/
def execRateHold (s : State) : Host.Outcome State Fault Refusal :=
  .next (awake rateHold s)

/-- RAMP_HANDOVER (R333): At the ramp midpoint the VCO moves to the target band with continuous phase. -/
def execRampHandover (s : State) : Host.Outcome State Fault Refusal :=
  .next (awake rampHandover s)

/-- RAMP_END (R333): The ramp reaches the target frequency and RAMP_DONE is set. -/
def execRampEnd (s : State) : Host.Outcome State Fault Refusal :=
  .next (awake rampEnd s)

/-- RATE_RESUME (R332): After relock, the next frame tick starts frame h at the new rate and the fade-in begins. -/
def execRateResume (s : State) : Host.Outcome State Fault Refusal :=
  .next (awake rateResume s)

/-- RATE_DONE (R332): The 64-frame fade-in ends; the entry completes and RATE_DONE is set. -/
def execRateDone (s : State) : Host.Outcome State Fault Refusal :=
  .next (awake rateDone s)

/-- BAND_SEARCH (R328): CALCMD.START starts a PLL-M band search for a family. -/
def execBandSearch (w : HW) (s : State) : Host.Outcome State Fault Refusal :=
  .next (writeBits aPLLM_CALCMD w 0 0 1 s)

/-- SEARCH_DONE (R328): A band search ends and its result fills a calibration slot. -/
def execSearchDone (band : BitVec 5) (fine : BitVec 9) (found : Bool) (s : State) : Host.Outcome State Fault Refusal :=
  .next (awake (fun s => bootAdvance (searchDone band fine found s)) s)

/-- PSTEP (R329): A PSTEP write requests signed 10 ps phase steps, accepted only in FREERUN or HOLDOVER. -/
def execPstep (w : HW) (s : State) : Host.Outcome State Fault Refusal :=
  .next (writeAt aPLLM_PSTEP w s)

/-- PSTEP_DONE (R329): The requested phase steps have been applied. -/
def execPstepDone (s : State) : Host.Outcome State Fault Refusal :=
  .next (awake pstepDone s)

/-- DOMAIN_GATE (R323): A DOMGATE or DOMRST write gates or resets a domain, or is refused outside its conditions. -/
def execDomainGate (rst : Bool) (w : HW) (s : State) : Host.Outcome State Fault Refusal :=
  .next (writeAt (if rst then aCLKGEN_DOMRST else aCLKGEN_DOMGATE) w s)

/-- RATE_HOLD_RENEWAL (R343): During a rate-change hold, an XO timer at the old frame period ticks, and ARB_HB toggles and the lease is renewed. -/
def execRateHoldRenewal (t : Nat) (s : State) : Host.Outcome State Fault Refusal :=
  .next (awake (rateHoldRenewal t) s)

end Sys2Proof.Machine
end

