-- ==== Sys2Proof/Machine/EventCmds.lean ====
section
/-!
DEFINITION. The frame tick, the Galley and the entries that land (01_architecture.md R32, 02_time_axes_compositor.md R45 to R69,
03_galley_accepted_work.md R74 to R105).
-/

namespace Sys2Proof.Machine

/-- FRAME_TICK (R32): PLL-M issues a frame tick: the frame boundary on which changes land and per-frame work starts. -/
def execFrameTick (t : Nat) (i : FrameIn) (s : State) : Host.Outcome State Fault Refusal :=
  .next (preloadRun (frameTick t i s))

/-- CLASS_C_DROP (R65): A class C event that has been deferred by more than CDROP frames is not executed and completes DROPPED. -/
def execClassCDrop (ticket : Word) (s : State) : Host.Outcome State Fault Refusal :=
  .next (awake (classCDrop ticket) s)

/-- GALLEY_PROD (R79): A host write to GALLEY.PROD submits ring entries, or is refused if it moves backwards or overfills the ring. -/
def execGalleyProd (w : HW) (s : State) : Host.Outcome State Fault Refusal :=
  .next (writeAt aGALLEY_PROD w s)

/-- GALLEY_SLOT_WRITE (R80): A host write to a Galley ring slot is stored if the slot is free, and refused if the slot lies in [RESP, PROD). -/
def execGalleySlotWrite (a : HostAcc) (s : State) : Host.Outcome State Fault Refusal :=
  .next (hostWrite a s)

/-- ENTRY_CHECK (R83): The device takes the next ring entry, checks it in order and writes a refusal or starts acceptance. -/
def execEntryCheck (t : Nat) (s : State) : Host.Outcome State Fault Refusal :=
  .next (awake (entryCheck t) s)

/-- REPL_ACK (R90): The standby's acknowledgement arrives; the active updates the client table, writes ACCEPTED and hands the event to the Compositor. -/
def execReplAck (ticket : Word) (t : Nat) (s : State) : Host.Outcome State Fault Refusal :=
  .next (awake (fun s => retryActions (replAck ticket t s)) s)

/-- REPL_TIMEOUT (R93): No acknowledgement arrives within 2 µs; the active reports the partner lost and completes acceptance under the solo guarantee. -/
def execReplTimeout (t : Nat) (s : State) : Host.Outcome State Fault Refusal :=
  .next (awake (fun s => retryActions (replTimeout t s)) s)

/-- CLIENT_RST (R89): A level-0 write to GALLEY.CLIENT_RST clears SYNCED for the named clients. -/
def execClientRst (w : HW) (s : State) : Host.Outcome State Fault Refusal :=
  .next (writeAt aGALLEY_CLIENT_RST w s)

/-- WRITE_PARAM (R126): The entry lands and applies its (address, value) pairs in payload order, according to the role of each target. -/
def execWriteParam (ticket : Word) (s : State) : Host.Outcome State Fault Refusal :=
  .next (awake (landEntry ticket opWriteParam Machine.writeParam) s)

/-- RECALL_FORME (R129): The recall lands: live and shadow Formes swap roles, differing gains interpolate, routes sluice and an epoch opens. -/
def execRecallForme (ticket : Word) (s : State) : Host.Outcome State Fault Refusal :=
  .next (awake (landEntry ticket opRecall Machine.recallForme) s)

/-- SLUICE_ROUTE (R131): The entry lands: a new source is written into the live router word and a Sluice starts on the output. -/
def execSluiceRoute (ticket : Word) (s : State) : Host.Outcome State Fault Refusal :=
  .next (awake (landEntry ticket opSluice Machine.sluiceRoute) s)

/-- PLAY (R391): The entry lands: a voice starts an announcement into an input channel, with its fade-in, preempting any running one. -/
def execPlay (ticket : Word) (s : State) : Host.Outcome State Fault Refusal :=
  .next (awake (landEntry ticket opPlay playLand) s)

/-- STOP_PLAY (R392): The entry lands: the voice's running announcement fades to 0 over its STOPLEN. -/
def execStopPlay (ticket : Word) (s : State) : Host.Outcome State Fault Refusal :=
  .next (awake (landEntry ticket opStopPlay stopPlayLand) s)

/-- RECORD_SEG (R389): The entry lands: a Recorder segment starts recording its sources into its Cistern region. -/
def execRecordSeg (ticket : Word) (s : State) : Host.Outcome State Fault Refusal :=
  .next (awake (landEntry ticket opRecord segLand) s)

/-- SET_GAIN_ZC (R133): The entry lands: the GAIN of a live word changes as a point change under the Zero-cross rule with the entry's timeout. -/
def execSetGainZc (ticket : Word) (s : State) : Host.Outcome State Fault Refusal :=
  .next (awake (landEntry ticket opSetGainZc Machine.setGainZc) s)

/-- PRESS_MSG (R183): The entry lands: its message record is written into the Press's message ring for publication at the next block tick. -/
def execPressMsg (ticket : Word) (s : State) : Host.Outcome State Fault Refusal :=
  .next (awake (pressMsgLand ticket) s)

/-- MARK (R78): The entry lands and does nothing but complete. -/
def execMark (ticket : Word) (s : State) : Host.Outcome State Fault Refusal :=
  .next (awake (landEntry ticket opMark finishNow) s)

/-- CANCEL (R97): The entry removes its pending target, which completes CANCELLED, or completes TOO_LATE if the target was already selected. -/
def execCancel (ticket : Word) (s : State) : Host.Outcome State Fault Refusal :=
  .next (awake (cancelEntry ticket) s)

/-- HELD_ENTRY_ACT (R127): An entry held by the shadow lock, the epoch limit or a slot wait acts when its hold ends, before that frame's released events. -/
def execHeldEntryAct (ticket : Word) (s : State) : Host.Outcome State Fault Refusal :=
  .next (awake (heldEntryAct ticket) s)

end Sys2Proof.Machine
end

