-- ==== Sys2Proof/Machine/HostCmds.lean ====
section
/-!
DEFINITION. Commands that the host sends over its bus to the registers every block has, to the protection unit and to the Proof window
(00_scope.md R6 to R20, 16_host_interface_protection.md R441 to R458).
-/

namespace Sys2Proof.Machine

/-- REGISTER_WRITE (R6): A host write to a register field that has no row of its own sets it according to its access type. -/
def execRegisterWrite (a : HostAcc) (s : State) : Host.Outcome State Fault Refusal :=
  .next (hostWrite a s)

/-- LOW_WORD_READ (R11): A read of the low word of a 64-bit register latches the high word for the next high-word read. -/
def execLowWordRead (addr : Nat) (lvl : Fin 4) (s : State) : Host.Outcome State Fault Refusal :=
  .next (lowWordRead addr lvl s)

/-- BLOCK_EN (R14): A change of CTRL.EN enables or disables a block, subject to the twin-state restrictions of R17. -/
def execBlockEn (page : Fin 64) (w : HW) (s : State) : Host.Outcome State Fault Refusal :=
  .next (writeAt (aCTRL page) w s)

/-- SRST (R15): A write of 1 to CTRL.SRST starts a reset of the block's state machines, buffers and status; it is ignored while EN = 1. -/
def execSrst (page : Fin 64) (w : HW) (s : State) : Host.Outcome State Fault Refusal :=
  .next (writeBits (aCTRL page) w 1 1 1 s)

/-- SRST_COMPLETE (R14): The block reset finishes and SRST reads 0 again. -/
def execSrstComplete (page : Fin 64) (s : State) : Host.Outcome State Fault Refusal :=
  .next (awake (srstComplete page.val) s)

/-- FREEZE (R16): Setting or clearing CTRL.FREEZE holds STAT and the counters at their host-visible values, or shows the live values again. -/
def execFreeze (page : Fin 64) (w : HW) (s : State) : Host.Outcome State Fault Refusal :=
  .next (writeAt (aCTRL page) w s)

/-- IFORCE (R12): A write of 1 to an IFORCE bit sets the matching ISTAT bit. -/
def execIforce (page : Fin 64) (w : HW) (s : State) : Host.Outcome State Fault Refusal :=
  .next (writeAt (pageAddr page 0x018) w s)

/-- ERRCAP_CLEAR (R19): A write of 1 to ERRCAP.VALID clears VALID, MULTI, CODE and ERRADDR. -/
def execErrcapClear (page : Fin 64) (w : HW) (s : State) : Host.Outcome State Fault Refusal :=
  .next (writeBits (aERRCAP page) w 31 31 1 s)

/-- STROBE_CONFLICT (R442): A host cycle with HOE_N and HWE_N both low is not performed and completes with status CYCLE. -/
def execStrobeConflict (addr : Nat) (lvl : Fin 4) (s : State) : Host.Outcome State Fault Refusal :=
  .next (strobeConflict addr lvl s)

/-- HOST_ACCESS_TIMEOUT (R443): A host access that has not been granted within TIMEOUT µs is withdrawn and completes with status TIMEOUT. -/
def execHostAccessTimeout (addr : Nat) (lvl : Fin 4) (write : Bool) (s : State) : Host.Outcome State Fault Refusal :=
  .next (hostAccessTimeout addr lvl write s)

/-- RANGE_PERM_WRITE (R452): A write to RANGE[k].PERM applies the staged BASE, LIMIT and permissions of the entry together. -/
def execRangePermWrite (k : Fin 16) (w : HW) (s : State) : Host.Outcome State Fault Refusal :=
  .next (writeAt (aPROT_RANGE_PERM k) w s)

/-- PROOF_SNAPSHOT (R447): Starting 0.5 µs after a frame boundary, the device writes a Proof window snapshot in the four-step sequence order. -/
def execProofSnapshot (s : State) : Host.Outcome State Fault Refusal :=
  .next (proofSnapshot s)

/-- FALLBACK_SNAPSHOT (R447): While FABRIC runs on its fallback, a 1 ms XO timer updates Proof window offsets 0x0000 to 0x0018. -/
def execFallbackSnapshot (s : State) : Host.Outcome State Fault Refusal :=
  .next (fallbackSnapshot s)

/-- PROOF_HOLD (R449): A write of HOSTIF.PROOF.HOLD stops or resumes snapshots. -/
def execProofHold (w : HW) (s : State) : Host.Outcome State Fault Refusal :=
  .next (writeAt aHOSTIF_PROOF w s)

/-- PROOF_HOLD_EXPIRE (R449): HOLD_MAX frames after HOLD was set, HOLD clears itself and HOLD_EXP is set. -/
def execProofHoldExpire (s : State) : Host.Outcome State Fault Refusal :=
  .next (awake proofHoldExpire s)

end Sys2Proof.Machine
end

