-- ==== Sys2Proof/Machine/Bus.lean ====
section
/-!
DEFINITION. The bus matrix, its arbiters, the in-place rewrites and the Skimmer (14_fabric_memory_integrity.md R400 to R422).
-/

namespace Sys2Proof.Machine

def setFab (x : FabSt) (s : State) : State := { s with fab := x }

/-! ### Routing (R401 to R404) -/

/-- The target that an address names (Table 14-2, Table 18-1). The ROM has no address. -/
def targetOf (a : Nat) : Nat :=
  if cistBase ≤ a ∨ (0x100000 ≤ a ∧ a < 0x200000) then 6
  else if 0x200000 ≤ a ∧ a < 0x400000 then (a - 0x200000) / 0x80000
  else if (pressMemAt a).isSome then 4
  else if 0x1000000 ≤ a ∧ decodes a then 5
  else if isPageAddr a ∧ decodes a then 7
  else 9

/-- The masters of Table 14-2. -/
def reaches (m t : Nat) : Bool :=
  match t with
  | 0 | 1 | 2 | 3 | 9 => true
  | 4 => [0, 1, 4, 5, 6, 7].contains m
  | 5 => [0, 1, 4, 5, 6].contains m
  | 6 => [0, 2, 3, 4, 6, 7].contains m
  | 7 => [0, 1, 4, 5].contains m
  | _ => false

/-- Words that a read answers: one for HOST, whose bus is 32 bits wide, and from a register page; else 4 a beat (R402). -/
def readWords (r : BusReq) : Nat := if r.master = 0 ∨ targetOf r.addr = 7 then 1 else 4 * r.beats

/-- Words that a burst moves. -/
def burstWords (r : BusReq) : Nat := match r.data with | some d => d.length | none => readWords r

/-- R402. -/
def burstOk (r : BusReq) : Bool :=
  decide (1 ≤ r.beats ∧ r.beats ≤ 4 ∧ r.addr % 64 + 4 * burstWords r ≤ 64) && (r.master != 0 || r.beats == 1)
    && (targetOf r.addr != 7 || (r.beats == 1 && burstWords r == 1))

/-- Where a request waits. -/
def routeReq (s : State) (r : BusReq) : Nat :=
  let t := targetOf r.addr
  if ¬ burstOk r ∨ ¬ reaches r.master.val t ∨ (s.clk.coreGated ∧ (t = 4 ∨ t = 5)) then 9 else t

/-- What the default target captures for a request. -/
def routeErr (r : BusReq) (s : State) : State :=
  let t := targetOf r.addr
  let m := r.master.val
  if ¬ burstOk r then matrixErr 2 3 m r.addr s
  else if t = 9 ∨ ¬ reaches m t then matrixErr 1 0 m r.addr (cnt aMATRIX_DECERR_CNT s)
  else if s.clk.coreGated ∧ (t = 4 ∨ t = 5) then matrixErr 5 4 m r.addr s
  else s

/-- Requests of a master that are outstanding. -/
def outstanding (s : State) (m : Fin 8) : Nat := (s.fab.waits.filter fun w => w.req.master == m).length

/-- A request leaves its master for the arbiter of its target. -/
def enterReq (s : State) (r : BusReq) : State :=
  let s1 := if routeReq s r = 9 then routeErr r s else s
  setFab { s1.fab with waits := s1.fab.waits ++ [⟨routeReq s r, r, 0⟩] } s1

/-- A master issues a request: at most 8 are outstanding, and a further one waits inside the master (R400). -/
def issueReq (s : State) (r : BusReq) : State :=
  if outstanding s r.master ≥ 8 then setFab { s.fab with inside := s.fab.inside ++ [r] } s else enterReq s r

/-- A grant has left room: the oldest request inside the master is issued, with its age from this cycle (R400, R406). -/
def issueInside (m : Fin 8) (cycle : BitVec 16) (s : State) : State :=
  match s.fab.inside.findIdx? (fun r => r.master == m) with
  | some i =>
    match s.fab.inside[i]? with
    | some r => enterReq (setFab { s.fab with inside := s.fab.inside.eraseIdx i } s) { r with age := cycle }
    | none => s
  | none => s

/-! ### Arbitration (R405 to R408) -/

/-- The port of the Cistern controller that a master uses (Table 13-3). -/
def cistPort (m : Nat) : Nat :=
  match m with | 7 => 0 | 2 => 1 | 3 => 2 | 0 => 5 | 6 => 6 | _ => 7

/-- Cycles since a request was issued. -/
def waited (cycle : BitVec 16) (w : BusWait) : Nat := (cycle - w.req.age).toNat

/-- Urgency (R373, R406). -/
def urgency (s : State) (cycle : BitVec 16) (w : BusWait) : Nat :=
  let m := w.req.master.val
  if m = 0 ∨ m = 1 ∨ m = 6 then rfld s (aMATRIX_MCFG m) 31 30
  else
    let tgt := zeroIs1 (if w.target = 6 then rfld s (aDDRC_PORTTGT (cistPort m)) 15 0 else rfld s (aMATRIX_MCFG m) 15 0) * 100000
    let left : Int := tgt - waited cycle w * (if s.clk.fabFb then 80000 else 2500)
    if left ≤ 0 then 3 else if 4 * left ≤ tgt then 2 else if 2 * left ≤ tgt then 1 else 0

/-- The owner of a shared bank (Table 14-4); bank 3 has none but in its reserve. -/
def bankOwner (w : BusWait) : Bool :=
  let m := w.req.master.val
  match w.target with
  | 0 => m == 3
  | 1 => m == 2
  | 2 => m == 0
  | 3 => decide (0x3C0000 ≤ w.req.addr) && m == 7
  | _ => false

/-- `x`, issued before `y`, is the older one: by the signed difference of the ages, or because it has waited 2^14 cycles. -/
def elder (cycle : BitVec 16) (x y : BusWait) : Bool :=
  decide (waited cycle x ≥ 2 ^ 14) || !(decide (sgn 16 (x.req.age - y.req.age).toNat > 0)
    || (x.req.age == y.req.age && decide (y.req.master < x.req.master)))

def isForced (w : BusWait) : Bool := decide (w.passed ≥ 64)

/-- The bank of a Press local address: P, X, Y. -/
def pressBank (a : Nat) : Nat :=
  let o := (a - 0x400000) % 0x80000
  if o < 0x10000 then 0 else if o < 0x38000 then 1 else 2

/-- The kind of a request to Press local memory, in the order of R174: input-ring writes, output-ring reads, message writes, Cistern
staging, and the host's with every other master's (DEDUCED, log entry 95). -/
def pressKind (s : State) (w : BusWait) : Nat :=
  match pressMemAt w.req.addr with
  | none => 4
  | some p =>
    let c := s.press[p].cfg
    let inRing := decide (xAddr p c.iBase ≤ w.req.addr ∧ w.req.addr < xAddr p (c.iBase + c.iDepth * recWords c))
    let outRing := decide (yAddr p c.oBase ≤ w.req.addr ∧ w.req.addr < yAddr p (c.oBase + c.oDepth * ownedCount c))
    if w.req.master = 7 ∧ w.req.data.isSome ∧ inRing then 0
    else if w.req.master = 7 ∧ w.req.data.isNone ∧ outRing then 1
    else if w.req.master = 5 then 2
    else if w.req.master = 7 then 3
    else 4

/-- Is `x`, issued before `y`, granted ahead of it (R407; requests to one bank of a Press: R174)? -/
def granted (s : State) (cycle : BitVec 16) (x y : BusWait) : Bool :=
  if isForced x ≠ isForced y then isForced x
  else if isForced x then elder cycle x y
  else if x.target = 4 ∧ y.target = 4 ∧ pressBank x.req.addr = pressBank y.req.addr then
    (if pressKind s x ≠ pressKind s y then decide (pressKind s x < pressKind s y) else elder cycle x y)
  else if urgency s cycle x ≠ urgency s cycle y then decide (urgency s cycle y < urgency s cycle x)
  else if bankOwner x ≠ bankOwner y then bankOwner x
  else elder cycle x y

/-- The position of the request that wins, of those listed with their positions in the order of issue. -/
def winner (s : State) (cycle : BitVec 16) : List (Nat × BusWait) → Option (Nat × BusWait)
  | [] => none
  | x :: t => match winner s cycle t with
    | none => some x
    | some y => if granted s cycle x.2 y.2 then some x else some y

/-- Does a request wait at this arbiter, and can it be served now? A P bank waits while its Press fetches (R174). -/
def atArbiter (s : State) (t : Nat) (port : Fin 16) (w : BusWait) : Bool :=
  w.target == t && (t != 4 || (pressMemAt w.req.addr == some port
    && (pressBank w.req.addr != 0 || !pressFetches s port)))

/-! ### Service (R410, R412, R416) -/

/-- May a master other than HOST write at an address of the shared banks (Table 14-4)? -/
def writeRight (m a : Nat) : Bool :=
  if a < 0x280000 then m == 3 || m == 1
  else if a < 0x300000 then m == 2 || m == 1
  else if a < 0x380000 then m == 5 || m == 4 || m == 1
  else if a < 0x3C0000 then m == 2 || m == 7 || m == 1
  else m == 7

/-- The bytes of a write, with their addresses. -/
def writeBytesOf (r : BusReq) (ws : List Word) : List (Nat × Byte) :=
  let all := (ws.flatMap fun w => leBytes 4 w.toNat).zipIdx
  (all.filter fun x => ws.length != 1 || r.be.getLsbD (x.2 % 4)).map fun x => (r.addr + x.2, x.1)

/-- Store words: whole ones where the address allows, else byte by byte in one slot. The answer is false where an uncorrectable
error discarded a part (R412). -/
def busStore (r : BusReq) (ws : List Word) (s : State) : State × Bool :=
  if r.addr % 4 = 0 ∧ (ws.length ≠ 1 ∨ r.be = 0xF#4) then (stWords r.addr ws s, true)
  else (writeBytesOf r ws).foldl (fun (a : State × Bool) x =>
    let q := stWordBe (x.1 / 4 * 4) (BitVec.ofNat 4 (1 <<< (x.1 % 4))) (w32 (x.2.toNat <<< (8 * (x.1 % 4)))) a.1
    (q.1, a.2 && q.2)) (s, true)

/-- A write of a master other than HOST at its target. -/
def busWrite (t : Nat) (r : BusReq) (ws : List Word) (s : State) : State × Bool :=
  let m := r.master.val
  let a := r.addr
  if t ≤ 3 then
    (if writeRight m a then busStore r ws s else (matrixErr 3 2 m a (cnt aMATRIX_RIGHTS_CNT s), false))
  else if t = 4 then
    match pressMemAt a with
    | some p =>
      if s.press[p].mode ≠ .halted ∧ m ≠ 5 ∧ m ≠ 7 then (errcap (pgPRESS p) 1 a s, false) else busStore r ws s
    | none => (s, false)
  else if t = 5 then busStore r ws s
  else if t = 6 then
    let b := if cistBase ≤ a then a - cistBase else apByte s a
    if ¬ cistServes s ∨ b + 4 * ws.length > cistBytes s then (s, false)
    else
      let l := writeBytesOf { r with addr := b } ws
      if l.length = 4 * ws.length then cistWrite (cistPort m) b (l.map (·.2)) s
      else l.foldl (fun (a : State × Bool) x => let q := cistWrite (cistPort m) x.1 [x.2] a.1; (q.1, a.2 && q.2)) (s, true)
  else if t = 7 then (match ws with | [v] => ((regLand none a v s).1, true) | _ => (s, false))
  else (s, false)

/-- One word of a read; an uncorrectable error delivers 0 (Table 14-6). -/
def busWord (t a : Nat) (s : State) : Word × State × Bool :=
  if t = 7 then (viewReg s a, s, false)
  else if t = 6 then
    let b := if cistBase ≤ a then a - cistBase else apByte s a
    let r := eccRead (cistBase + b) s
    (if r.2 then 0 else cdWord r.1 b, r.1, r.2)
  else
    let r := eccRead a s
    (if r.2 then 0 else rdWord r.1 a, r.1, r.2)

def busWords (t : Nat) : Nat → Nat → State → List Word × State × Bool
  | 0, _, s => ([], s, false)
  | n + 1, a, s =>
    let x := busWord t a s
    let y := busWords t n (a + 4) x.2.1
    (x.1 :: y.1, y.2.1, x.2.2 || y.2.2)

/-- The state copy meets an uncorrectable error: the joiner gives up (Table 14-6). -/
def copyFails (s : State) : State := if s.twin.st = .syncing then enterTwinFault 8 s else s

/-- Serve a granted request. What a HOST access does at its target is the host command's own effect (log entry 70). -/
def serve (t : Nat) (r : BusReq) (s : State) : State :=
  let m := r.master.val
  let answer (data : List Word) (err : Bool) (s : State) : State := setFab { s.fab with resp := some ⟨m, data, err⟩ } s
  let n := readWords r
  let zeros := List.replicate n (0 : Word)
  if t ≥ 8 then answer (if r.data.isSome then [] else zeros) true s
  else match r.data with
    | some ws =>
      if m = 0 then answer [] false s
      else let x := busWrite t r ws s; answer [] (!x.2) x.1
    | none =>
      if t = 6 ∧ ¬ cistServes s then answer zeros true s
      else
        let x := busWords t n r.addr s
        let s1 := if ¬ x.2.2 then x.2.1 else if m = 4 then copyFails x.2.1 else if m = 5 ∧ t = 2 then galleyUe x.2.1
          else if m = 2 ∨ m = 3 ∨ m = 5 ∨ m = 7 then stageMiss x.2.1 else x.2.1
        answer x.1 (x.2.2 && m == 0) s1

/-- BUS_GRANT: the requests issued since the last grant enter, and the arbiter of a target grants one (R407, R408). `port` names
the Press where the target is T4. -/
def busGrant (target : Fin 10) (port : Fin 16) (cycle : BitVec 16) (fresh : List BusReq) (s : State) : State :=
  let s0 := fresh.foldl issueReq s
  let here : List (Nat × BusWait) :=
    (s0.fab.waits.zipIdx.filter fun x => atArbiter s0 target port x.1).map fun x => (x.2, x.1)
  match winner s0 cycle here with
  | none => s0
  | some (i, w) =>
    let m := w.req.master.val
    let pass (j : Nat) (x : BusWait) : BusWait :=
      let older := if j < i then elder cycle x w else !elder cycle w x
      if x.target = w.target ∧ (here.any fun h => h.1 == j) ∧ older then { x with passed := x.passed + 1 } else x
    let arb := if target.val = 4 then 10 + port.val else target.val
    let s1 := setFab { s0.fab with
      waits := (s0.fab.waits.mapIdx pass).eraseIdx i
      last := s0.fab.last.set (Fin.ofNat 26 arb) m } s0
    let s2 := peak (aMATRIX_WAIT_MAX target) (min 127 w.passed) (cnt (aMATRIX_GRANT_CNT m) s1)
    let s3 := if isForced w then iset pgMATRIX 1 (cnt aMATRIX_FORCED_CNT s2) else s2
    serve target w.req (issueInside w.req.master cycle s3)

/-! ### Rewrites and scrubbing (R415, R420 to R422) -/

/-- A word is written back corrected: its flips go. -/
def rewriteWord (k : Nat) (s : State) : State :=
  let s1 := setFab { s.fab with rewrite := s.fab.rewrite.filter (· != k) } s
  match eccOut (keyCist k) (flipsAt s1 k) with
  | .corr _ => setFlips k 0 s1
  | _ => s1

/-- ECC_REWRITE: the next idle cycle rewrites the oldest corrected word. -/
def eccRewrite (s : State) : State :=
  match s.fab.rewrite with
  | k :: _ => rewriteWord k s
  | [] => s

/-- One scrubbed word: read, corrected and rewritten. -/
def scrubWord (s : State) (k : Nat) : State :=
  if flipsAt s k = 0 then s else rewriteWord k (eccRead k s).1

/-- The SRAM units of 16 bytes, in the order of R420; the last three hold the remap spares, which are read at their own addresses. -/
def skimUnits : Nat := 819203
def skimUnit (i : Nat) : Option Nat :=
  if i < 393216 then some (0x400000 + i / 24576 * 0x80000 + 16 * (i % 24576))
  else if i < 524288 then some (0x200000 + 16 * (i - 393216))
  else if i < 819200 then some (0x1000000 + (i - 524288) / 147456 * 0x400000 + 16 * ((i - 524288) % 147456))
  else none

/-- The lap time, ms, saturating at 24 bits (R421). -/
def lapMs (s : State) (t : Nat) : Word := satW 24 ((s.now - t) / 1000000000)

/-- SKIM_STEP. -/
def skimStep (dram : Bool) (s : State) : State :=
  let rate := if dram then rfld s aECC_SKIMCFG 31 16 else rfld s aECC_SKIMCFG 15 0
  if s.boot.held ≠ .none ∨ ¬ rbit s aECC_CFG 0 ∨ rate = 0 ∨ skimPaused s then s
  else if dram then
    let lines := cistBytes s / 64
    let a := cistBase + 64 * s.fab.skimD
    let s1 := (List.range 8).foldl (fun s j => scrubWord s (a + 8 * j)) (dramTouch 6 s.fab.skimD 64 s)
    if s.fab.skimD + 1 ≥ lines then
      iset pgECC 6 (rset aECC_LAP_DRAM (lapMs s s.fab.lapD) (setFab { s1.fab with skimD := 0, lapD := s.now } s1))
    else setFab { s1.fab with skimD := s.fab.skimD + 1 } s1
  else
    let unit := skimUnit s.fab.skimS
    let blocked := s.clk.coreGated && (match unit with | some a => decide (a ≥ 0x400000) | none => false)
    if blocked then s
    else
      let s1 := match unit with
        | some a => (List.range 4).foldl (fun s j => scrubWord s (a + 4 * j)) s
        | none => s
      if s.fab.skimS + 1 ≥ skimUnits then
        iset pgECC 5 (rset aECC_LAP_SRAM (lapMs s s.fab.lapS) (setFab { s1.fab with skimS := 0, lapS := s.now } s1))
      else setFab { s1.fab with skimS := s.fab.skimS + 1 } s1

end Sys2Proof.Machine
end

