-- ==== Sys2Proof/Machine/MemCmds.lean ====
section
/-!
DEFINITION. The Cistern, the Recorder, the Player, the fabric and memory integrity (13_cistern_dram.md R369 to R399,
14_fabric_memory_integrity.md R400 to R427).
-/

namespace Sys2Proof.Machine

/-- TRAINING_DONE (R377): Full training ends; the Cistern enters NORMAL or LOST. -/
def execTrainingDone (r : TrainIn) (s : State) : Host.Outcome State Fault Refusal :=
  .next (awake (fun s => bootAdvance (trainingDone r s)) s)

/-- RETRAIN_TRIGGER (R378): A temperature change or interval expiry starts a periodic retrain. -/
def execRetrainTrigger (t : Nat) (s : State) : Host.Outcome State Fault Refusal :=
  .next (awake (retrainTrigger t) s)

/-- RETRAIN_SLICE (R378): One retrain slice of one lane, rank and direction runs when no urgent request waits. -/
def execRetrainSlice (s : State) : Host.Outcome State Fault Refusal :=
  .next (awake retrainSlice s)

/-- RETRAIN_DONE (R379): A retrain ends with success or failure; FAILS is updated and DEGRADED may be entered or left. -/
def execRetrainDone (r : TrainIn) (s : State) : Host.Outcome State Fault Refusal :=
  .next (awake (retrainDone r) s)

/-- RETRAIN_ABORT (R378): A retrain not finished 1 s after it began is abandoned. -/
def execRetrainAbort (s : State) : Host.Outcome State Fault Refusal :=
  .next (awake retrainAbort s)

/-- CE_WINDOW_END (R380): A 1 s correctable-error window ends; exceeding CE_LIM enters DEGRADED and starts a retrain. -/
def execCeWindowEnd (s : State) : Host.Outcome State Fault Refusal :=
  .next (awake ceWindowEnd s)

/-- RESERVE_MOVE (R43): The class A delay-line move lands at a block boundary as a 64-frame Sluice. -/
def execReserveMove (s : State) : Host.Outcome State Fault Refusal :=
  .next (awake reserveMove s)

/-- SHED_WITHDRAW (R40): A shed step is withdrawn once its pressure has been absent for 1 s. -/
def execShedWithdraw (s : State) : Host.Outcome State Fault Refusal :=
  .next (awake shedWithdraw s)

/-- DRAM_REFRESH (R376): A rank's refresh falls due each tREFI and is issued or owed. -/
def execDramRefresh (rank : Fin 2) (u : Fin 4) (s : State) : Host.Outcome State Fault Refusal :=
  .next (awake (dramRefresh rank u) s)

/-- ROW_CLOSE_TIMEOUT (R375): An open row is closed after 2 µs without an access. -/
def execRowCloseTimeout (bank : Fin 32) (s : State) : Host.Outcome State Fault Refusal :=
  .next (awake (rowCloseTimeout bank) s)

/-- DELAY_COMMIT (R382): A write of DLY_COMMIT checks the window and replaces the delay-line entry on the landing frame, or refuses it. -/
def execDelayCommit (w : HW) (s : State) : Host.Outcome State Fault Refusal :=
  .next (writeBits aDDRC_DLY_COMMIT w 0 0 1 s)

/-- STAGING_DEADLINE (R383): At D_b every staged word not yet returned is written as 0 and counted as a staging miss. -/
def execStagingDeadline (missing : List Nat) (s : State) : Host.Outcome State Fault Refusal :=
  .next (awake (stagingDeadline missing) s)

/-- DELAY_XFADE_END (R384): A 64-frame delay-change crossfade ends. -/
def execDelayXfadeEnd (line : Fin 1024) (s : State) : Host.Outcome State Fault Refusal :=
  .next (awake (delayXfadeEnd line.val) s)

/-- RECORDER_FREEZE (R389): A write of a ticket to RECORDER.FREEZE freezes that loop segment after POST frames. -/
def execRecorderFreeze (w : HW) (s : State) : Host.Outcome State Fault Refusal :=
  .next (writeAt aRECORDER_FREEZE w s)

/-- SEGMENT_COMPLETE (R389): A Recorder segment records its last frame and completes. -/
def execSegmentComplete (ticket : Word) (s : State) : Host.Outcome State Fault Refusal :=
  .next (awake (segmentComplete ticket) s)

/-- VOICE_END (R391): A voice plays its last sample and its PLAY completes. -/
def execVoiceEnd (v : Fin 256) (s : State) : Host.Outcome State Fault Refusal :=
  .next (awake (voiceEnd v) s)

/-- STOP_FADE_END (R392): A voice's stop fade ends; the STOP_PLAY and the PLAY complete. -/
def execStopFadeEnd (v : Fin 256) (s : State) : Host.Outcome State Fault Refusal :=
  .next (awake (stopFadeEnd v) s)

/-- APERTURE_WRITE (R395): A host write to the Cistern aperture is stored and mirrored, or refused. -/
def execApertureWrite (a : HostAcc) (s : State) : Host.Outcome State Fault Refusal :=
  .next (hostWrite a s)

/-- BUS_GRANT (R407): A target's arbiter grants the next request by force, urgency, ownership and age. -/
def execBusGrant (target : Fin 10) (port : Fin 16) (cycle : BitVec 16) (fresh : List BusReq) (s : State) : Host.Outcome State Fault Refusal :=
  .next (awake (busGrant target port cycle fresh) s)

/-- ECC_REWRITE (R415): A corrected word is rewritten in place in the next idle cycle. -/
def execEccRewrite (s : State) : Host.Outcome State Fault Refusal :=
  .next (awake eccRewrite s)

/-- REMAP_WRITE (R418): A Keeper write of a remap entry copies the word into or out of its spare, or is refused. -/
def execRemapWrite (group : Fin 4) (idx : Fin 16) (w : HW) (s : State) : Host.Outcome State Fault Refusal :=
  .next (match (remapTable group)[idx.val]? with | some a => writeAt a w s | none => s)

/-- SKIM_STEP (R420): The Skimmer makes one scrub access at its rate, in SRAM or in the Cistern. -/
def execSkimStep (dram : Bool) (s : State) : Host.Outcome State Fault Refusal :=
  .next (awake (skimStep dram) s)

/-- FLIP_ARM (R423): A write of FLIPCTRL.ARM arms error injection on the next write to a group. -/
def execFlipArm (w : HW) (s : State) : Host.Outcome State Fault Refusal :=
  .next (writeBits aECC_FLIPCTRL w 31 31 1 s)

end Sys2Proof.Machine
end

