-- ==== Sys2Proof/Machine/Mgmt.lean ====
section
/-!
DEFINITION. Management packets that the device sends (08_network_streams.md R267 to R270).
-/

namespace Sys2Proof.Machine

/-- The SEQ of a packet that answers nobody (R268). -/
def nextSeq (s : State) : Nat × State := (s.net.mgmtSeq, setNet { s.net with mgmtSeq := (s.net.mgmtSeq + 1) % 65536 } s)

/-- A management packet of type `ty` goes out on these ports (R268), as class C (log entry 98); `dst` is the node that it answers and that
node's MAC address, none for every node. -/
def sendMgmt (ty : Nat) (dst : Option (Nat × BitVec 48)) (seq : Nat) (body : List Word) (ports : List (Fin 2)) (s : State) : State :=
  let mcast := BitVec.ofNat 48 ((rget s aSWITCH_MGMT_MCAST_LO).toNat + 2 ^ 32 * rfld s aSWITCH_MGMT_MCAST_HI 15 0)
  let w0 := fld 1 28 ||| fld ty 24 ||| fld (rfld s aSWITCH_NODECFG 23 16) 16 ||| fld (nodeId s) 4 ||| flg (twinId s) 3
    ||| flg (activeOrSolo s) 2
  let w1 := (match dst with | some d => fld d.1 20 | none => flg true 19) ||| fld (seq % 65536) 0
  let head := [w0, w1, fld (4 * body.length) 16]
  let dmac := match dst with | some d => d.2 | none => mcast
  let etype := BitVec.ofNat 16 (rfld s aSWITCH_MGMT 31 16)
  ports.foldl (fun s n =>
    epSend n 2 (.mgmt n ⟨dmac, macOf s n, some (tagOf s 2 (rfld s aSWITCH_MGMT 11 0)), etype⟩ head body) s) s

/-- The ports toward a MAC address: where the switch has learned it, else both (R245). -/
def portsTo (s : State) (mac : BitVec 48) : List (Fin 2) :=
  match s.net.macs.find? (fun e => e.mac == mac) with
  | some e => [0, 1].filter fun n : Fin 2 => e.port == n.val
  | none => [0, 1]

/-- The body of an ANNOUNCE (Table 08-7). -/
def announceBody (s : State) : List Word :=
  [viewReg s aSYS_CHIP_ID, viewReg s aSYS_STEPPING, rget s (aNET_MAC_LO 0), rget s (aNET_MAC_HI 0), rget s (aNET_IPADDR 0),
   rget s (aNET_MAC_LO 1), rget s (aNET_MAC_HI 1), rget s (aNET_IPADDR 1), deviceWord s]

/-- ANNOUNCE_SEND: an answer that is due, or the periodic one. -/
def announceSend (s : State) : State :=
  if ¬ s.boot.run then s
  else match s.net.answers.find? (fun x => decide (x.1 ≤ s.now)) with
    | some x => sendMgmt 2 none x.2 (announceBody s) [0, 1] (setNet { s.net with answers := s.net.answers.erase x } s)
    | none =>
      let due : Bool := match s.net.annT with | none => true | some t => decide (s.now ≥ t + 10 * secPs)
      if due then
        let q := nextSeq s
        sendMgmt 2 none q.1 (announceBody s) [0, 1] (setNet { q.2.net with annT := some s.now } q.2)
      else s

/-- The counters of the stream pages (log entry 24). -/
def streamCounters (s : State) : List Word :=
  [viewReg s aSTREAMRX_LATE_CNT, viewReg s aSTREAMRX_EARLY_CNT, viewReg s aSTREAMRX_FMT_CNT, viewReg s aSTREAMRX_MERGE_CNT,
   viewReg s aSTREAMRX_STBY_MISS_CNT, viewReg s aSTREAMTX_TX_PKT, viewReg s aSTREAMTX_TXDROP_CNT]

/-- TELEMETRY_SEND. -/
def telemetrySend (s : State) : State :=
  let period := rfld s aSWITCH_TELCFG 15 0
  if ¬ s.boot.run ∨ period = 0 ∨ s.now < s.net.telT + period * msPs then s
  else
    let q := nextSeq s
    let body := [lo32 (mediaNow s), hi32 (mediaNow s), proofWord s 0xC, proofWord s 0x10, proofWord s 0x14, proofWord s 0x18,
      viewReg s aMON_TEMP, netStat s 0, netStat s 1] ++ streamCounters s
    sendMgmt 3 none q.1 body [0, 1] (setNet { q.2.net with telT := s.now } q.2)

/-- One address of a READ_REQ: status and value (R270), at level 3. -/
def remoteRead (w : Word) (s : State) : List Word × State :=
  let a := bits w 23 2 * 4
  if ¬ (a < 0x4000 ∨ isPageAddr a) ∨ bits w 31 24 ≠ 0 then ([2, 0], s)
  else if ¬ decodes a then ([3, 0], s)
  else if ¬ permits s 3 a false then ([1, 0], protFault false 3 a false true (iset pgSWITCH 0 (cnt aSWITCH_MGMT_DENY s)))
  else ([0, if a < 0x4000 then proofWord s a else viewReg s a], s)

def remoteReads : List Word → State → List Word × State
  | [], s => ([], s)
  | w :: t, s =>
    let x := remoteRead w s
    let y := remoteReads t x.2
    (x.1 ++ y.1, y.2)

/-- READ_REQ (R267, R268, R270). -/
def readReq (m : MgmtPkt) (s : State) : State :=
  let r := mgmtAccept m s
  let s1 := r.1
  if ¬ r.2 ∨ ¬ mgmtAnswers s m ∨ s.net.dup.isSome then s1
  else
    let body := (mgmtBody m).getD []
    if body = [] ∨ body.length > 16 then cnt aSWITCH_MGMT_DROP s1
    else
      let recent := s.net.reads.filter fun t => decide (s.now < t + secPs)
      let s2 := setNet { s1.net with reads := s.now :: recent } s1
      let answer := if recent.length ≥ 125 * rfld s aSWITCH_MGMT 15 12 then (body.flatMap fun _ => [4, 0], s2) else remoteReads body s2
      sendMgmt 5 (some (bits m.h0 15 4, m.smac)) (bits m.h1 15 0) answer.1 (portsTo s m.smac) answer.2

end Sys2Proof.Machine
end

