-- ==== Sys2Proof/Machine/NetCmds.lean ====
section
/-!
DEFINITION. Network ports, the switch, streams and management packets (08_network_streams.md R241 to R275).
-/

namespace Sys2Proof.Machine

/-- LINK_UP (R242): The PCS has held lock for 10 ms and any auto-negotiation is complete; the link comes up. -/
def execLinkUp (n : Fin 2) (speedOk : Bool) (s : State) : Host.Outcome State Fault Refusal :=
  .next (awake (linkUp n speedOk) s)

/-- LINK_DOWN (R242): Lock has been lost for DN_HOLD or HI_BER is raised; the port flushes, stops its flows and may request fail-over. -/
def execLinkDown (n : Fin 2) (hiBer : Bool) (s : State) : Host.Outcome State Fault Refusal :=
  .next (awake (linkDown n hiBer) s)

/-- PACKET_RECEIVE (R245): A packet arrives; it is classified and forwarded by the switch, cut-through or store-and-forward. -/
def execPacketReceive (k : NetPkt) (s : State) : Host.Outcome State Fault Refusal :=
  .next (awake (packetReceive k) s)

/-- MAC_AGE_OUT (R245): A learned MAC address ages out after AGE seconds. -/
def execMacAgeOut (mac : BitVec 48) (s : State) : Host.Outcome State Fault Refusal :=
  .next (awake (macAgeOut mac) s)

/-- IGMP_LAPSE (R248): A group membership lapses 260 s after its last report. -/
def execIgmpLapse (group : Word) (s : State) : Host.Outcome State Fault Refusal :=
  .next (awake (igmpLapse group) s)

/-- IGMP_QUERY (R248): Every 125 s the device sends general queries while QUERIER = 1. -/
def execIgmpQuery (s : State) : Host.Outcome State Fault Refusal :=
  .next (awake igmpQuery s)

/-- FLOW_PACKET (R256): An audio packet for a receive flow is matched, judged on time, late or early, and written to its lines. -/
def execFlowPacket (f : Fin 256) (k : AudioPkt) (s : State) : Host.Outcome State Fault Refusal :=
  .next (awake (flowPacket f k) s)

/-- FLOW_LOSS (R259): No on-time packet for LOSS_TO ms; the flow enters LOST. -/
def execFlowLoss (f : Fin 256) (s : State) : Host.Outcome State Fault Refusal :=
  .next (awake (flowLoss f) s)

/-- FLOW_SEND (R257): Every P frames, a transmit flow sends a packet of those frames. -/
def execFlowSend (f : Fin 256) (s : State) : Host.Outcome State Fault Refusal :=
  .next (awake (flowSend f) s)

/-- STREAM_SEL (R273): A write to SEL loads the staging window with the committed entry of that flow. -/
def execStreamSel (tx : Bool) (w : HW) (s : State) : Host.Outcome State Fault Refusal :=
  .next (writeAt (if tx then aSTREAMTX_SEL else aSTREAMRX_SEL) w s)

/-- STREAM_COMMIT (R273): A write to COMMIT checks the window and replaces the flow entry on the landing frame, or refuses it. -/
def execStreamCommit (tx : Bool) (w : HW) (s : State) : Host.Outcome State Fault Refusal :=
  .next (writeBits (if tx then aSTREAMTX_COMMIT else aSTREAMRX_COMMIT) w 0 0 1 s)

/-- FCLK_LOCK (R266): A flow clock locks to or loses its receive flow's RTP rate. -/
def execFclkLock (j : Fin 4) (lock : Bool) (ratio : Word) (s : State) : Host.Outcome State Fault Refusal :=
  .next (awake (fclkLock j lock ratio) s)

/-- DISCOVER (R269): A DISCOVER packet arrives; an ANNOUNCE answer is scheduled after a spread delay. -/
def execDiscover (m : MgmtPkt) (s : State) : Host.Outcome State Fault Refusal :=
  .next (awake (discover m) s)

/-- ANNOUNCE (R267): An ANNOUNCE packet arrives; a duplicate node ID sets NODE_DUP. -/
def execAnnounce (m : MgmtPkt) (s : State) : Host.Outcome State Fault Refusal :=
  .next (awake (announce m) s)

/-- ANNOUNCE_SEND (R269): The device sends an ANNOUNCE at RUN, every 10 s, or after a DISCOVER delay. -/
def execAnnounceSend (s : State) : Host.Outcome State Fault Refusal :=
  .next (awake announceSend s)

/-- TELEMETRY_SEND (R269): Every PERIOD ms the device sends a TELEMETRY packet. -/
def execTelemetrySend (s : State) : Host.Outcome State Fault Refusal :=
  .next (awake telemetrySend s)

/-- READ_REQ (R270): A READ_REQ is served in one pass and answered with a READ_RSP of statuses and values. -/
def execReadReq (m : MgmtPkt) (s : State) : Host.Outcome State Fault Refusal :=
  .next (awake (readReq m) s)

/-- NODE_DUP_CLEAR (R267): A duplicate node condition has been absent for 10 s and READ_REQ answers resume. -/
def execNodeDupClear (s : State) : Host.Outcome State Fault Refusal :=
  .next (awake nodeDupClear s)

/-- SENSE_EVT (R435): A SENSE_EVT management packet's records are written to the ring as remote events, or the packet is dropped. -/
def execSenseEvt (m : MgmtPkt) (s : State) : Host.Outcome State Fault Refusal :=
  .next (awake (senseEvt m) s)

end Sys2Proof.Machine
end

