-- ==== Sys2Proof/Machine/PortCmds.lean ====
section
/-!
DEFINITION. Port groups, AES3 and the sample-rate converters (07_audio_ports.md R209 to R240).
-/

namespace Sys2Proof.Machine

/-- GROUP_FRAME (R216): An FS active edge starts a group frame, which is assigned to a MEDIA frame and moves the port samples. -/
def execGroupFrame (g : Fin 4) (i : GroupIn) (s : State) : Host.Outcome State Fault Refusal :=
  .next (awake (groupTick g i) s)

/-- QUALIFY_PASS (R214): After 64 good frames the group fixes PHI0, enters RUN and starts its enabled directions. -/
def execQualifyPass (g : Fin 4) (phi0 : BitVec 10) (s : State) : Host.Outcome State Fault Refusal :=
  .next (awake (qualifyPass g phi0.toNat) s)

/-- BCLK_STOP (R215): No BCLK edge for 4 bit periods: the group is STOPPED and its inputs fade. -/
def execBclkStop (g : Fin 4) (s : State) : Host.Outcome State Fault Refusal :=
  .next (awake (clockStop g) s)

/-- FS_LOSS (R215): No FS edge for 4 frame periods: handled as BCLK stop. -/
def execFsLoss (g : Fin 4) (s : State) : Host.Outcome State Fault Refusal :=
  .next (awake (clockStop g) s)

/-- CLOCK_RETURN (R213): BCLK and FS edges return to a STOPPED group, which enters QUALIFY. -/
def execClockReturn (g : Fin 4) (s : State) : Host.Outcome State Fault Refusal :=
  .next (awake (clockReturn g) s)

/-- FAULT_FADE_END (R215): The 16-frame fade of a clock fault ends and the channels carry 0. -/
def execFaultFadeEnd (g : Fin 4) (s : State) : Host.Outcome State Fault Refusal :=
  .next (awake (faultFadeEnd g) s)

/-- PORT_ZC_TIMEOUT (R223): A port channel finds no crossing within T frames and begins its ramp. -/
def execPortZcTimeout (c : PortSlot) (s : State) : Host.Outcome State Fault Refusal :=
  .next (awake (portZcTimeout c) s)

/-- PORT_RAMP_END (R223): A 64-frame start or stop ramp ends; a stopped direction may become OFF. -/
def execPortRampEnd (c : PortSlot) (s : State) : Host.Outcome State Fault Refusal :=
  .next (awake (portRampEnd c) s)

/-- SLOT_MASK_WRITE (R221): A write sets a pending INMASK or OUTMASK, copied to the active mask at the group frame of R222. -/
def execSlotMaskWrite (g : Fin 4) (m : Fin 8) (out : Bool) (w : HW) (s : State) : Host.Outcome State Fault Refusal :=
  .next (writeAt (if out then aPORTG_OUTMASK g m else aPORTG_INMASK g m) w s)

/-- AES3_BLOCK (R228): A 192-frame AES3 block completes; channel status and user data are checked and copied. -/
def execAes3Block (m : Fin 8) (b : Aes3In) (s : State) : Host.Outcome State Fault Refusal :=
  .next (awake (aes3Block m b) s)

/-- AES3_LOCK (R226): An AES3 receiver gains or loses biphase lock. -/
def execAes3Lock (m : Fin 8) (lock : Bool) (s : State) : Host.Outcome State Fault Refusal :=
  .next (awake (aes3Lock m lock) s)

/-- TXCOMMIT (R229): A write of TXCOMMIT commits TXCS and TXUB for use from the next whole block. -/
def execTxcommit (m : Fin 8) (w : HW) (s : State) : Host.Outcome State Fault Refusal :=
  .next (writeBits (aAES3_PORTCFG m) w 27 27 1 s)

/-- TXCOMMIT_ACT (R229): The first block starting at least one frame after the commit sends the committed content. -/
def execTxcommitAct (m : Fin 8) (s : State) : Host.Outcome State Fault Refusal :=
  .next (awake (txCommitAct m) s)

/-- ASRC_CHANNEL_WRITE (R231): An ASRC.CH entry change stops the old slot and starts the new one. -/
def execAsrcChannelWrite (c : Fin 128) (w : HW) (s : State) : Host.Outcome State Fault Refusal :=
  .next (writeAt (aASRC_CH c) w s)

/-- RATIO_LOCK (R232): A timing source's ratio tracker ends acquisition and locks; its channels start. -/
def execRatioLock (i : Fin 16) (ratio : Word) (s : State) : Host.Outcome State Fault Refusal :=
  .next (awake (ratioLock i ratio) s)

end Sys2Proof.Machine
end

