-- ==== Sys2Proof/Machine/PressCmds.lean ====
section
/-!
DEFINITION. The Press blocks: block ticks, starts and halts, debug, host access (05_press_model.md R149 to R184).
-/

namespace Sys2Proof.Machine

/-- BLOCK_TICK (R177): At each block tick the device latches the Press I/O descriptors, publishes messages and makes TICK pending. -/
def execBlockTick (starved : List (Fin 16)) (s : State) : Host.Outcome State Fault Refusal :=
  .next (awake (blockTickCheck starved) s)

/-- PRESS_START (R171): At the first block tick at or after EN = 1 lands, the Press resets its registers and takes the RESET vector, or the start is refused. -/
def execPressStart (p : Fin 16) (s : State) : Host.Outcome State Fault Refusal :=
  .next (awake (pressStart p) s)

/-- PRESS_STOP (R172): EN = 0 lands: the Press enters STOPPING and its owned channels crossfade to bypass. -/
def execPressStop (p : Fin 16) (s : State) : Host.Outcome State Fault Refusal :=
  .next (awake (pressStop p) s)

/-- PRESS_HALT (R172): At the first block tick after the 64-frame crossfade, a STOPPING Press halts. -/
def execPressHalt (p : Fin 16) (s : State) : Host.Outcome State Fault Refusal :=
  .next (awake (fun s => heldSrst p (pressHalt p s)) s)

/-- DBG_HALT (R173): DBG_HALT = 1 stops the Press at the next acceptance point in DBG_HALTED, and 0 resumes it. -/
def execDbgHalt (p : Fin 16) (w : HW) (s : State) : Host.Outcome State Fault Refusal :=
  .next (writeAt (aCTRL (pgPRESS p)) w s)

/-- DBG_STEP (R173): A write of STEP executes one instruction on a DBG_HALTED Press. -/
def execDbgStep (p : Fin 16) (w : HW) (s : State) : Host.Outcome State Fault Refusal :=
  .next (writeBits (aCTRL (pgPRESS p)) w 8 8 1 s)

/-- PRESS_MEM_WRITE (R174): A host write to the local memory of a HALTED Press is stored and mirrored, or refused if the Press is not HALTED. -/
def execPressMemWrite (a : HostAcc) (s : State) : Host.Outcome State Fault Refusal :=
  .next (hostWrite a s)

/-- PRESS_DMA_STARVE (R174): A DMA word waits more than STARVE_CFG.LIMIT cycles; STARVE_CNT counts it and STARVE is set. -/
def execPressDmaStarve (p : Fin 16) (s : State) : Host.Outcome State Fault Refusal :=
  .next (awake (pressDmaStarve p) s)

/-- PRESS_HOST_TIMEOUT (R174): A host access to a Press bank that has waited 65,536 CORE cycles completes with an error response and ERRCAP code 0x0006. -/
def execPressHostTimeout (p : Fin 16) (addr : Nat) (lvl : Fin 4) (write : Bool) (s : State) : Host.Outcome State Fault Refusal :=
  .next (pressHostTimeout p addr lvl write s)

end Sys2Proof.Machine
end

