-- ==== Sys2Proof/Machine/PtpCmds.lean ====
section
/-!
DEFINITION. PTP messages and counters (09_ptp_timestamping.md R278 to R292).
-/

namespace Sys2Proof.Machine

/-- PTP_RX (R285): A PTP message for EP is stamped against both counters and written to the receive ring, or dropped on overflow. -/
def execPtpRx (m : PtpMsg) (s : State) : Host.Outcome State Fault Refusal :=
  .next (awake (ptpRx m) s)

/-- PTP_TX_PROD (R286): A write to TX_PROD submits transmit slots, or is refused if it overfills the ring. -/
def execPtpTxProd (w : HW) (s : State) : Host.Outcome State Fault Refusal :=
  .next (writeAt aPTP_TX_PROD w s)

/-- PTP_SLOT_SENT (R286): A transmit slot is sent, or marked ERR, and its egress timestamp and DONE are written back. -/
def execPtpSlotSent (ok : Bool) (s : State) : Host.Outcome State Fault Refusal :=
  .next (awake (ptpSlotSent ok) s)

/-- TIME_SET (R280): TIMECMD SET is written: loading TIMESET into a counter is scheduled. -/
def execTimeSet (w : HW) (s : State) : Host.Outcome State Fault Refusal :=
  .next (writeBits aPTP_TIMECMD w 1 0 1 s)

/-- TIME_ADD (R280): TIMECMD ADD is written: adding OFFSET to a counter is scheduled. -/
def execTimeAdd (w : HW) (s : State) : Host.Outcome State Fault Refusal :=
  .next (writeBits aPTP_TIMECMD w 1 0 2 s)

/-- TIME_SLEW (R280): TIMECMD SLEW is written: slewing SLEW_NS at SLEW_PPM is scheduled. -/
def execTimeSlew (w : HW) (s : State) : Host.Outcome State Fault Refusal :=
  .next (writeBits aPTP_TIMECMD w 1 0 3 s)

/-- TIMECMD_ACT (R280): 1 to 8 cycles after the write, the pending time command acts on its counter and BUSY clears. -/
def execTimecmdAct (s : State) : Host.Outcome State Fault Refusal :=
  .next (awake timecmdAct s)

/-- SLEW_DONE (R280): A slew's remainder reaches 0 and SLEW_DONE is set. -/
def execSlewDone (n : Fin 2) (s : State) : Host.Outcome State Fault Refusal :=
  .next (awake (slewDone (n == 1)) s)

/-- TIME_NS_READ (R279): A read of TIMEn_NS latches the seconds and fraction of the same cycle. -/
def execTimeNsRead (n : Fin 2) (lvl : Fin 4) (s : State) : Host.Outcome State Fault Refusal :=
  .next (lowWordRead (if n = 0 then aPTP_TIME0_NS else aPTP_TIME1_NS) lvl s)

/-- PTP_PULSE (R290): A valid counter crosses a multiple of 10 ms and presents a pulse to the Reference Selector. -/
def execPtpPulse (n : Fin 2) (t : Nat) (s : State) : Host.Outcome State Fault Refusal :=
  .next (awake (ptpPulse (n == 1) t) s)

end Sys2Proof.Machine
end

