-- ==== Sys2Proof/Machine/SenseCmds.lean ====
section
/-!
DEFINITION. Sense inputs and their actions (15_sense_detection.md R428 to R440).
-/

namespace Sys2Proof.Machine

/-- SENSE_CLASSIFY (R428): Every 1 ms the mean of 8 samples of a sense input is classified against the band table. -/
def execSenseClassify (n : Fin 8) (level : BitVec 12) (t : Nat) (s : State) : Host.Outcome State Fault Refusal :=
  .next (awake (senseClassify n level.toNat t) s)

/-- SENSE_STUCK (R431): A button held down for STUCK × 100 ms produces STUCK and counts as up. -/
def execSenseStuck (n : Fin 8) (s : State) : Host.Outcome State Fault Refusal :=
  .next (awake (senseStuck n) s)

/-- SENSE_QUIET (R432): No classification change for QUIET × 100 ms ends CHATTER with RELEASE and catch-up events. -/
def execSenseQuiet (n : Fin 8) (s : State) : Host.Outcome State Fault Refusal :=
  .next (awake (senseQuiet n) s)

/-- SENSE_EVENT_DELIVER (R433): A queued sense event is delivered, at most one per 10 ms per input, into the event ring. -/
def execSenseEventDeliver (n : Fin 8) (t : Nat) (s : State) : Host.Outcome State Fault Refusal :=
  .next (awake (senseDeliver n t) s)

/-- ACTION_RETRY_EXPIRE (R437): An action refused GALLEY_FULL for 10 ms is dropped and counted. -/
def execActionRetryExpire (s : State) : Host.Outcome State Fault Refusal :=
  .next (awake actionRetryExpire s)

end Sys2Proof.Machine
end

