-- ==== Sys2Proof/Machine/StartCmds.lean ====
section
/-!
DEFINITION. Reset, start-up, fuses, pulse outputs and monitors (17_startup_nv_image.md R459 to R474, 18_register_index.md R488, R491).
-/

namespace Sys2Proof.Machine

/-- SUPPLY_TRIP (R459): A supply monitor or POR_N goes low and the device enters power-on reset. -/
def execSupplyTrip (which : Fin 10) (s : State) : Host.Outcome State Fault Refusal :=
  .next (supplyTrip which s)

/-- POR_RELEASE (R463): Power-on reset is released 2 ms after its conditions hold; the straps are latched and the start begins. -/
def execPorRelease (straps : BitVec 5) (vio : BitVec 4) (s : State) : Host.Outcome State Fault Refusal :=
  .next (porRelease straps vio s)

/-- WARM_RESET_PIN (R461): RST_N held low for 1 µs starts a warm reset: outputs released, Galley stopped, Cistern in self-refresh. -/
def execWarmResetPin (s : State) : Host.Outcome State Fault Refusal :=
  .next (warmResetPin s)

/-- RESET_WARM (R472): An RSTCMD WARM write with the correct key starts a warm reset. -/
def execResetWarm (w : HW) (s : State) : Host.Outcome State Fault Refusal :=
  .next (writeBits aSYS_RSTCMD w 1 0 1 s)

/-- RESET_COLD (R472): An RSTCMD COLD write with the correct key starts a cold reset. -/
def execResetCold (w : HW) (s : State) : Host.Outcome State Fault Refusal :=
  .next (writeBits aSYS_RSTCMD w 1 0 2 s)

/-- XO_QUALIFIED (R463): At start-up step 2, XO has run for 1 ms without a gap. -/
def execXoQualified (s : State) : Host.Outcome State Fault Refusal :=
  .next (bootAdvance (xoQualified s))

/-- BIST_DONE (R466): Fuse load and BIST with repair complete; unrepairable failures mark Presses bad or stop the start. -/
def execBistDone (r : BistIn) (s : State) : Host.Outcome State Fault Refusal :=
  .next (bootAdvance (bistDone r s))

/-- IMAGE_SLOT_PASS (R468): A verification or load pass over a flash slot completes, valid or not. -/
def execImageSlotPass (i : SlotPass) (s : State) : Host.Outcome State Fault Refusal :=
  .next (awake (imageSlotPass i) s)

/-- BOOT_CONTINUE (R464): BOOT.CMD CONTINUE resumes the start from a hold point, or is refused outside one. -/
def execBootContinue (w : HW) (s : State) : Host.Outcome State Fault Refusal :=
  .next (writeBits aBOOT_CMD w 0 0 1 s)

/-- START_RUN (R463): The start reaches RUN; RUN flags are set and READY follows the role. -/
def execStartRun (s : State) : Host.Outcome State Fault Refusal :=
  .next (startRun s)

/-- OTP_PROGRAM (R474): PROGCMD.GO starts programming a fuse word, or is refused. -/
def execOtpProgram (w : HW) (s : State) : Host.Outcome State Fault Refusal :=
  .next (writeBits aOTP_PROGCMD w 0 0 1 s)

/-- OTP_PROGRAM_DONE (R474): Fuse programming of a word completes and BUSY clears. -/
def execOtpProgramDone (s : State) : Host.Outcome State Fault Refusal :=
  .next (awake otpProgramDone s)

/-- PPS_EDGE (R488): Every D frames the PPS_OUT divider makes its active edge. -/
def execPpsEdge (s : State) : Host.Outcome State Fault Refusal :=
  .next (awake ppsEdge s)

/-- BMARK_EDGE (R488): Every D frames the BMARK_OUT divider makes its active edge. -/
def execBmarkEdge (s : State) : Host.Outcome State Fault Refusal :=
  .next (awake bmarkEdge s)

/-- TEMP_READING (R491): Every 1 ms TEMP takes the hottest sensor reading and TEMP_HI is judged against HI_LIM. -/
def execTempReading (s0 : BitVec 16) (s1 : BitVec 16) (s2 : BitVec 16) (s3 : BitVec 16) (s : State) : Host.Outcome State Fault Refusal :=
  .next (awake (tempReading s0 s1 s2 s3) s)

/-- TEMPCFG_CLR (R491): A write of TEMPCFG.CLR restarts TEMP_MIN and TEMP_MAX at the next reading. -/
def execTempcfgClr (w : HW) (s : State) : Host.Outcome State Fault Refusal :=
  .next (writeBits aMON_TEMPCFG w 31 31 1 s)

/-- WARM_RESET_RELEASE (R461): RST_N returns high after a pin warm reset and the start resumes at step 2. -/
def execWarmResetRelease (s : State) : Host.Outcome State Fault Refusal :=
  .next (bootAdvance (warmResetRelease s))

/-- SUPPLY_READING (R491): A MON supply reading leaves ±5 % of nominal and ISTAT.VOLT is set. -/
def execSupplyReading (n : Fin 9) (mv : BitVec 16) (s : State) : Host.Outcome State Fault Refusal :=
  .next (awake (supplyReading n mv) s)

end Sys2Proof.Machine
end

