-- ==== Sys2Proof/Machine/Copy.lean ====
section
/-!
DEFINITION. The state copy of a rejoin: what the WRITE, FWD, BULK and CTRL channels carry (12_twin_failover.md R339, R357, R361 to
R363).
-/

namespace Sys2Proof.Machine

/-- Pages whose copied words act as they arrive: those of the ports, the ASRC, the streams, the Basin and the Jets. The Presses are held
until the cutover brings their state (R362). -/
def copyActs (p : Nat) : Bool := decide (0x10 ≤ p ∧ p ≤ 0x15) || p == pgSTREAMRX || p == pgSTREAMTX || p == pgBASIN || p == pgJET

/-- A word written at a system address by a cell. A register that a write can set acts on its new value, with no command bit set. -/
def cellWord (x : Nat × Word) (s : State) : State :=
  let a := x.1
  if ¬ isPageAddr a then stWord a x.2 s
  else
    let old := rget s a
    let s1 := rset a x.2 s
    if a = aTIMEBASE_WHEEL_CIRC ∨ a = aTIMEBASE_WHEEL_PPR then wheelTaken s1
    else if copyActs (pageOf a) ∧ old ≠ x.2 then
      (if offOf a = 8 then ctrlAct (pageOf a) old x.2 0 s1
       else if 0x40 ≤ offOf a then (pageAct false none 0 a old x.2 0 s1).1 else s1)
    else s1

/-- The committed entries of the flows and the delay lines: those that the list does not name are at reset. -/
def takeTables (rx tx lines : List (Nat × List Word)) (s : State) : State :=
  let flows (tx : Bool) (l : List (Nat × List Word)) (s : State) : State :=
    let gone := ((if tx then s.net.txE else s.net.rxE).map (·.1)).filter fun f => !(l.any fun y => y.1 == f)
    l.foldl (fun s y => commitEntry tx y.1 y.2 s) (gone.foldl (fun s f => commitEntry tx f (if tx then txDefault else rxDefault) s) s)
  let s1 := flows true tx (flows false rx s)
  let off := (s1.cistern.lines.map (·.i)).filter fun i => !(lines.any fun y => y.1 == i)
  lines.foldl (fun s y => dlyApply y.1 y.2 s) (off.foldl (fun s i => dlyApply i [0, 0, 0, 0, 0] s) s1)

/-- What a cell carries is taken over (R362). -/
def takePart (p : DataPart) (s : State) : State :=
  match p with
  | .sys ws => ws.foldl (fun s x => cellWord x s) s
  | .cist ws => ws.foldl (fun s x => cistStore 7 x.1 (leBytes 4 x.2.toNat) s) s
  | .press pi r pc stack =>
    let q := s.press[pi]
    { s with press := s.press.set pi { q with r := r, pc := pc, stack := stack, mode := .run, wait := true, outFrom := some 0 } }
  | .engine b =>
    setBasin { s.basin with
      moves := b.moves, waits := b.waits, epochs := b.epochs, lawLatch := b.lawLatch, sluices := b.sluices, zones := b.zones
      chain := b.chain, weir := b.weir } s
  | .tables rx tx lines => takeTables rx tx lines s
  | .bank2 cl heap q d =>
    resumeTickets { s with
      galley := { s.galley with clients := cl, heapUsed := heap, inflight := [] }
      comp := { s.comp with queue := q, done := d } }

/-- May a WRITE cell carry this word (R124, R174, R357): a Forme, Press memory or the Cistern. -/
def writeCellOk (p : DataPart) : Bool :=
  match p with
  | .sys ws => ws.all fun x => decide (0x1000000 ≤ x.1 ∧ x.1 < 0x1800000) || decide (0x400000 ≤ x.1 ∧ x.1 < 0xC00000)
  | .cist _ => true
  | _ => false

/-- WRITE_CELL (R357): mirrored host writes, in order. -/
def writeCell (c : DataCell) (s : State) : State :=
  let r := cellIn 5 c.h s
  if r.2 ∧ followsTwin r.1 ∧ writeCellOk c.part then takePart c.part r.1 else r.1

/-- FWD_CELL (R363): a write of the copy set, while SYNCING. -/
def fwdCell (c : DataCell) (s : State) : State :=
  let r := cellIn 6 c.h s
  if r.2 ∧ r.1.twin.st = .syncing then
    takePart c.part (setTwinSt { r.1.twin with fwdOwed := r.1.twin.fwdOwed.filter (· != c.h.seq.toNat) } r.1)
  else r.1

/-- The 4 KB regions that words lie in. -/
def regionsOf (p : DataPart) : List Nat :=
  match p with | .sys ws => (ws.map fun x => x.1 / 4096).dedup | _ => []

/-- BULK_CELL (R362, R365): the state copy while SYNCING, differing store regions while STANDBY_WARM. -/
def bulkCell (c : DataCell) (s : State) : State :=
  let r := cellIn 7 c.h s
  let s := r.1
  if ¬ r.2 then s
  else if s.twin.st = .syncing then
    let d := if s.twin.phase = 1 then (s.twin.diffs ++ regionsOf c.part).dedup else s.twin.diffs
    takePart c.part (setTwinSt { s.twin with diffs := d } s)
  else if s.twin.st = .standbyWarm then (match c.part with | .cist _ => takePart c.part s | _ => s)
  else s

/-- The partner's CRCs of the regions (R362). A joiner keeps them; an active answers with its own, with each differing region, and with
the entries that lie behind windows. -/
def takeRegions (l : List (Nat × Word)) (s : State) : State :=
  if s.twin.st = .syncing then setTwinSt { s.twin with pRegions := l } s
  else if isActive s ∧ s.twin.pstate = 4 then
    let own := sendCell 8 (.regions (l.map fun x => (x.1, regionCrc s x.1))) s
    let sent := (l.filter fun x => regionCrc s x.1 != x.2).foldl (fun s x => sendCell 7 (.words false (regionWords s x.1)) s) own
    sendCell 7 (.part (.tables s.net.rxE s.net.txE (s.cistern.lines.map fun y => (y.i, lineWords y)))) sent
  else s

/-- The negotiation of R339 finds no difference. -/
def sameConfig (s : State) (pair : Bool) (lease : Fin 16) (rate chip : Word) (step : BitVec 8) (crc : Word) (bad : BitVec 16) : Bool :=
  pair && lease.val + 1 == s.twin.leaseL && rate.toNat == fs s && chip == rget s aSYS_CHIP_ID
    && step.toNat == rfld s aSYS_STEPPING 7 0 && crc == rget s aBOOT_IMG_CRC && bad == 0 && rfld s aBOOT_BADPRESS 15 0 == 0

/-- CTRL_CELL (R339, R342, R357, R359, R436). -/
def ctrlCell (c : CtrlCell) (s : State) : State :=
  let r := cellIn 8 c.h s
  let s := r.1
  if ¬ r.2 then s
  else
    match c.m with
    | .hello => setTwinSt { s.twin with hello := true } s
    | .negotiate pair lease rate chip step crc bad st =>
      let s1 := setTwinSt { s.twin with negDone := true, pstate := st.val } s
      if sameConfig s pair lease rate chip step crc bad then setTwinSt { s1.twin with cfgDiff := false } s1
      else errcap pgTWIN 4 0 (iset pgTWIN 9 (setTwinSt { s1.twin with cfgDiff := true } s1))
    | .fence => fenceSelf s
    | .rejoin => setTwinSt { s.twin with pstate := 4, joinPh := 1 } s
    | .regions l => takeRegions l s
    | .cut f =>
      if s.twin.st = .syncing ∧ s.twin.phase = 3 then
        rset aTWIN_CUT_HI (hi32 f) (rset aTWIN_CUT_LO (lo32 f) (setTwinSt { s.twin with cut := f } s))
      else s
    | .senseEvent w0 w1 => partnerSense w0 w1 s

/-- The words of `n` bytes at an address. -/
def wordsAt (s : State) (a n : Nat) : List (Nat × Word) := (List.range (n / 4)).map fun i => (a + 4 * i, rdWord s (a + 4 * i))

/-- The words of the copy set with stored errors are read: Press banks and bank 2. The answer is true where one is uncorrectable. -/
def copyReads (s : State) : State × Bool :=
  ((s.fab.flips.map (·.1)).filter fun a => decide (0x300000 ≤ a ∧ a < 0x380000) || eccGroup a == some 0).foldl
    (fun (x : State × Bool) a => let r := eccRead a x.1; (r.1, x.2 || r.2)) (s, false)

/-- What an active sends at the end of a phase of its partner's copy (R362): the copy set, and at the cutover the frame c and each Press's
registers and return stack. -/
def sendPhase (s : State) : State :=
  let rd := copyReads s
  let s := rd.1
  -- the copy fails: nothing more of it is sent (Table 14-6)
  if rd.2 then setTwinSt { s.twin with joinPh := 0 } s
  else match s.twin.joinPh with
  | 1 =>
    let banks := (List.finRange 16).foldl (fun s (p : Fin 16) => sendCell 7 (.part (.sys (wordsAt s (xAddr p 0) 327680))) s) s
    let b2 : DataPart := .bank2 s.galley.clients s.galley.heapUsed s.comp.queue s.comp.done
    let s1 := sendCell 7 (.part (.engine s.basin)) (sendCell 7 (.part b2) banks)
    setTwinSt { s1.twin with joinPh := 2 } s1
  | 2 =>
    let c := blockAt s (s.tb.frame + 1) + blockN s
    let s1 := (List.finRange 16).foldl (fun s (p : Fin 16) => sendCell 6 (.part (.press p s.press[p].r s.press[p].pc s.press[p].stack)) s)
      (sendCell 8 (.cut c) s)
    setTwinSt { s1.twin with joinPh := 3 } s1
  | _ => s

/-- SYNC_PHASE_END (R362). Nothing ends while a rate change runs, and phase 1
not before every region is equal. On the active the partner's phase ends. -/
def syncPhaseEnd (s : State) : State :=
  if s.clk.change.isSome then s
  else if isActive s ∧ s.twin.pstate = 4 then sendPhase s
  else if s.twin.st ≠ .syncing ∨ (s.twin.phase = 1 ∧ ¬ s.twin.pRegions.all fun x => regionCrc s x.1 == x.2) then s
  else
    match s.twin.phase with
    | 1 => rset aTWIN_DIFF_REGIONS (w32 (s.twin.diffs.length % 65536)) (setTwinSt { s.twin with phase := 2, copyT := s.now } s)
    | 2 =>
      let c := blockAt s (s.tb.frame + 1) + blockN s
      rset aTWIN_CUT_HI (hi32 c) (rset aTWIN_CUT_LO (lo32 c)
        (rset aTWIN_COPY_TIME (satW 16 ((s.now - s.twin.copyT) / 1000000)) (setTwinSt { s.twin with phase := 3, cut := c } s)))
    | _ => s

end Sys2Proof.Machine
end

