-- ==== Sys2Proof/Machine/TwinCmds.lean ====
section
/-!
DEFINITION. The pair: grant, lease, cells, join and copy (12_twin_failover.md R338 to R368).
-/

namespace Sys2Proof.Machine

/-- ARB_GRANT_RISE (R346): Filtered ARB_GRANT rises; a STANDBY_HOT or candidate device becomes ACTIVE and drives its outputs. -/
def execArbGrantRise (x : EdgeTime) (s : State) : Host.Outcome State Fault Refusal :=
  .next (awake (fun s => preloadRun (arbGrantRise x.t x.phase s)) s)

/-- GRANT_WAIT_END (R346): A newly granted device reaches the partner's last lease deadline and drives. -/
def execGrantWaitEnd (t : Nat) (s : State) : Host.Outcome State Fault Refusal :=
  .next (awake (fun s => preloadRun (grantWaitEnd t s)) s)

/-- ARB_GRANT_FALL (R344): Filtered ARB_GRANT falls while ACTIVE; the outputs are released and the device enters FENCED. -/
def execArbGrantFall (x : EdgeTime) (s : State) : Host.Outcome State Fault Refusal :=
  .next (awake (arbGrantFall x.t x.phase) s)

/-- ARB_CHATTER_QUIET (R345): ARB_GRANT has had no transition for QUIET ms and CHATTER releases. -/
def execArbChatterQuiet (s : State) : Host.Outcome State Fault Refusal :=
  .next (awake (fun s => preloadRun (arbChatterQuiet s)) s)

/-- ARB_STUCK (R345): An assertion lasts STUCK ms to a device that cannot take it, and STUCK is latched. -/
def execArbStuck (s : State) : Host.Outcome State Fault Refusal :=
  .next (awake arbStuck s)

/-- LEASE_EXPIRE (R343): The lease deadline passes; the outputs go high impedance and flows stop. -/
def execLeaseExpire (t : Nat) (s : State) : Host.Outcome State Fault Refusal :=
  .next (awake (leaseExpire t) s)

/-- HANDOVER (R344): TWIN.CMD HANDOVER stops renewal so that the lease expires and the partner takes over. -/
def execHandover (w : HW) (s : State) : Host.Outcome State Fault Refusal :=
  .next (writeBits aTWIN_CMD w 1 0 2 s)

/-- FENCE (R366): TWIN.CMD FENCE sends the device, or its partner, to FENCED. -/
def execFence (w : HW) (s : State) : Host.Outcome State Fault Refusal :=
  .next (writeBits aTWIN_CMD w 1 0 3 s)

/-- REJOIN (R361): TWIN.CMD REJOIN starts SYNCING if its conditions hold, or is refused. -/
def execRejoin (w : HW) (s : State) : Host.Outcome State Fault Refusal :=
  .next (writeBits aTWIN_CMD w 1 0 1 s)

/-- AUTO_JOIN (R361): A FENCED device with AUTO_JOIN = 1 starts SYNCING by itself once the conditions hold. -/
def execAutoJoin (s : State) : Host.Outcome State Fault Refusal :=
  .next (awake autoJoin s)

/-- NEG_TIMEOUT (R342): The Traliat link is not up within NEG_TO; the device sets CAND and waits for a grant. -/
def execNegTimeout (s : State) : Host.Outcome State Fault Refusal :=
  .next (awake (fun s => bootAdvance (negTimeout s)) s)

/-- TRALIAT_LINK_UP (R355): A lane holds block lock for 1 ms and HELLO cells are exchanged; the link is up. -/
def execTraliatLinkUp (lanes : BitVec 2) (s : State) : Host.Outcome State Fault Refusal :=
  .next (awake (traliatLinkUp lanes) s)

/-- TRALIAT_LINK_DOWN (R355): No lane has held block lock for 1 µs; the link is down and the partner is lost. -/
def execTraliatLinkDown (s : State) : Host.Outcome State Fault Refusal :=
  .next (awake traliatLinkDown s)

/-- TRALIAT_LANE_CHANGE (R355): One Traliat lane gains or loses block lock while the link stays up, so cells move to the lanes that are up and ISTAT.LANE is set. -/
def execTraliatLaneChange (lanes : BitVec 2) (s : State) : Host.Outcome State Fault Refusal :=
  .next (awake (traliatLaneChange lanes) s)

/-- HEALTH_CELL (R357): A HEALTH cell with state, lease deadline, output CRC and self-check arrives from the partner. -/
def execHealthCell (c : HealthCell) (s : State) : Host.Outcome State Fault Refusal :=
  .next (awake (healthCell c) s)

/-- DEC_CELL (R357): A DEC cell carrying the active's axis samples and decisions arrives at the standby. -/
def execDecCell (c : DecCell) (s : State) : Host.Outcome State Fault Refusal :=
  .next (awake (decCell c) s)

/-- MIRROR_CELL (R340): Mirrored input samples arrive and replace the partner's own input of those channels. -/
def execMirrorCell (c : MirrorCell) (s : State) : Host.Outcome State Fault Refusal :=
  .next (awake (mirrorCell c) s)

/-- GALLEY_CELL (R92): A replicated journal slot arrives; the standby updates its client table, journals and acknowledges it. -/
def execGalleyCell (c : GalleyCell) (s : State) : Host.Outcome State Fault Refusal :=
  .next (awake (galleyCell c) s)

/-- WRITE_CELL (R357): A mirrored host write arrives and is applied in order to the partner's shadow, Press memory or Cistern. -/
def execWriteCell (c : DataCell) (s : State) : Host.Outcome State Fault Refusal :=
  .next (awake (writeCell c) s)

/-- FWD_CELL (R363): A forwarded write of the copy set arrives at the joiner. -/
def execFwdCell (c : DataCell) (s : State) : Host.Outcome State Fault Refusal :=
  .next (awake (fwdCell c) s)

/-- BULK_CELL (R362): A state-copy cell arrives at the joiner and is written. -/
def execBulkCell (c : DataCell) (s : State) : Host.Outcome State Fault Refusal :=
  .next (awake (bulkCell c) s)

/-- CTRL_CELL (R357): A HELLO, negotiation, FENCE, REJOIN or forwarded sense event cell arrives. -/
def execCtrlCell (c : CtrlCell) (s : State) : Host.Outcome State Fault Refusal :=
  .next (awake (fun s => bootAdvance (ctrlCell c s)) s)

/-- CELL_RESEND (R356): On a NAK the sender resends the cell. -/
def execCellResend (ch : Fin 8) (seq : BitVec 16) (s : State) : Host.Outcome State Fault Refusal :=
  .next (awake (cellResend ch.val seq.toNat) s)

/-- HEALTH_MISSING (R358): Two consecutive HEALTH cells are missing; the partner is treated as lost. -/
def execHealthMissing (s : State) : Host.Outcome State Fault Refusal :=
  .next (awake healthMissing s)

/-- LOSS_HOLD_EXPIRE (R359): A STANDBY_HOT device not granted within LOSS_HOLD frames enters FENCED. -/
def execLossHoldExpire (s : State) : Host.Outcome State Fault Refusal :=
  .next (awake lossHoldExpire s)

/-- SYNC_PHASE_END (R362): A SYNCING phase (CONFIG or DATA) completes and the next begins. -/
def execSyncPhaseEnd (s : State) : Host.Outcome State Fault Refusal :=
  .next (awake syncPhaseEnd s)

/-- CUTOVER (R362): The joiner runs frame c in lockstep and becomes STANDBY_WARM. -/
def execCutover (s : State) : Host.Outcome State Fault Refusal :=
  .next (awake cutover s)

/-- FWD_QUEUE_OVERFLOW (R363): The forward queue overflows; the region is re-sent, or the joiner faults after four restarts. -/
def execFwdQueueOverflow (region : Nat) (s : State) : Host.Outcome State Fault Refusal :=
  .next (awake (fwdQueueOverflow region) s)

/-- STANDBY_HOT_PROMOTE (R365): The warm conditions hold; the device becomes STANDBY_HOT and toggles ARB_HB. -/
def execStandbyHotPromote (storeEq : Bool) (s : State) : Host.Outcome State Fault Refusal :=
  .next (awake (standbyHotPromote storeEq) s)

/-- WARM_TIMEOUT (R365): The CRC count does not complete within 1 s; the device enters FAULTED. -/
def execWarmTimeout (s : State) : Host.Outcome State Fault Refusal :=
  .next (awake warmTimeout s)

end Sys2Proof.Machine
end

