-- ==== Sys2Proof/Machine/Dispatch.lean ====
section
/-!
DEFINITION. One arm for each command: the call of its meaning.
-/

namespace Sys2Proof.Machine

def exec (i : Instr) (s : State) : Host.Outcome State Fault Refusal :=
  match i with
  | .registerWrite a => Sys2Proof.Machine.execRegisterWrite a s
  | .lowWordRead addr lvl => Sys2Proof.Machine.execLowWordRead addr lvl s
  | .blockEn page w => Sys2Proof.Machine.execBlockEn page w s
  | .srst page w => Sys2Proof.Machine.execSrst page w s
  | .srstComplete page => Sys2Proof.Machine.execSrstComplete page s
  | .freeze page w => Sys2Proof.Machine.execFreeze page w s
  | .iforce page w => Sys2Proof.Machine.execIforce page w s
  | .errcapClear page w => Sys2Proof.Machine.execErrcapClear page w s
  | .strobeConflict addr lvl => Sys2Proof.Machine.execStrobeConflict addr lvl s
  | .hostAccessTimeout addr lvl write => Sys2Proof.Machine.execHostAccessTimeout addr lvl write s
  | .rangePermWrite k w => Sys2Proof.Machine.execRangePermWrite k w s
  | .proofSnapshot => Sys2Proof.Machine.execProofSnapshot s
  | .fallbackSnapshot => Sys2Proof.Machine.execFallbackSnapshot s
  | .proofHold w => Sys2Proof.Machine.execProofHold w s
  | .proofHoldExpire => Sys2Proof.Machine.execProofHoldExpire s
  | .frameTick t x => Sys2Proof.Machine.execFrameTick t x s
  | .classCDrop ticket => Sys2Proof.Machine.execClassCDrop ticket s
  | .galleyProd w => Sys2Proof.Machine.execGalleyProd w s
  | .galleySlotWrite a => Sys2Proof.Machine.execGalleySlotWrite a s
  | .entryCheck t => Sys2Proof.Machine.execEntryCheck t s
  | .replAck ticket t => Sys2Proof.Machine.execReplAck ticket t s
  | .replTimeout t => Sys2Proof.Machine.execReplTimeout t s
  | .clientRst w => Sys2Proof.Machine.execClientRst w s
  | .writeParam ticket => Sys2Proof.Machine.execWriteParam ticket s
  | .recallForme ticket => Sys2Proof.Machine.execRecallForme ticket s
  | .sluiceRoute ticket => Sys2Proof.Machine.execSluiceRoute ticket s
  | .play ticket => Sys2Proof.Machine.execPlay ticket s
  | .stopPlay ticket => Sys2Proof.Machine.execStopPlay ticket s
  | .recordSeg ticket => Sys2Proof.Machine.execRecordSeg ticket s
  | .setGainZc ticket => Sys2Proof.Machine.execSetGainZc ticket s
  | .pressMsg ticket => Sys2Proof.Machine.execPressMsg ticket s
  | .mark ticket => Sys2Proof.Machine.execMark ticket s
  | .cancel ticket => Sys2Proof.Machine.execCancel ticket s
  | .tachPulse x b => Sys2Proof.Machine.execTachPulse x b s
  | .tachQuietRelease t => Sys2Proof.Machine.execTachQuietRelease t s
  | .tachStuck t pinB => Sys2Proof.Machine.execTachStuck t pinB s
  | .standstill t => Sys2Proof.Machine.execStandstill t s
  | .cntEdge x rising => Sys2Proof.Machine.execCntEdge x rising s
  | .cntQuietRelease t => Sys2Proof.Machine.execCntQuietRelease t s
  | .cntStuck t => Sys2Proof.Machine.execCntStuck t s
  | .corrSubmit w => Sys2Proof.Machine.execCorrSubmit w s
  | .corrDone => Sys2Proof.Machine.execCorrDone s
  | .posLoad w => Sys2Proof.Machine.execPosLoad w s
  | .zoneGapBegin z => Sys2Proof.Machine.execZoneGapBegin z s
  | .zcTimeoutRamp key => Sys2Proof.Machine.execZcTimeoutRamp key s
  | .slotWaitStart key => Sys2Proof.Machine.execSlotWaitStart key s
  | .slotRelease key => Sys2Proof.Machine.execSlotRelease key s
  | .epochEnd => Sys2Proof.Machine.execEpochEnd s
  | .heldEntryAct ticket => Sys2Proof.Machine.execHeldEntryAct ticket s
  | .shadowUnlock => Sys2Proof.Machine.execShadowUnlock s
  | .sluiceEnd o => Sys2Proof.Machine.execSluiceEnd o s
  | .shadowFormeWrite a => Sys2Proof.Machine.execShadowFormeWrite a s
  | .formeCrcStart w => Sys2Proof.Machine.execFormeCrcStart w s
  | .formeCrcDone => Sys2Proof.Machine.execFormeCrcDone s
  | .jetPath p w => Sys2Proof.Machine.execJetPath p w s
  | .jetXfadeEnd p => Sys2Proof.Machine.execJetXfadeEnd p s
  | .blockTick starved => Sys2Proof.Machine.execBlockTick starved s
  | .pressStart p => Sys2Proof.Machine.execPressStart p s
  | .pressStop p => Sys2Proof.Machine.execPressStop p s
  | .pressHalt p => Sys2Proof.Machine.execPressHalt p s
  | .tickEntry p => Sys2Proof.Machine.execTickEntry p s
  | .faultEntry p => Sys2Proof.Machine.execFaultEntry p s
  | .dbgHalt p w => Sys2Proof.Machine.execDbgHalt p w s
  | .dbgStep p w => Sys2Proof.Machine.execDbgStep p w s
  | .brkMatch p => Sys2Proof.Machine.execBrkMatch p s
  | .pressMemWrite a => Sys2Proof.Machine.execPressMemWrite a s
  | .pressDmaStarve p => Sys2Proof.Machine.execPressDmaStarve p s
  | .loopEndFetch p lvl => Sys2Proof.Machine.execLoopEndFetch p lvl s
  | .opNop p x => Sys2Proof.Machine.execOpNop p x s
  | .opMpy p x => Sys2Proof.Machine.execOpMpy p x s
  | .opMac p x => Sys2Proof.Machine.execOpMac p x s
  | .opMsu p x => Sys2Proof.Machine.execOpMsu p x s
  | .opMpy2 p x => Sys2Proof.Machine.execOpMpy2 p x s
  | .opMac2 p x => Sys2Proof.Machine.execOpMac2 p x s
  | .opMsu2 p x => Sys2Proof.Machine.execOpMsu2 p x s
  | .opDmpy p x => Sys2Proof.Machine.execOpDmpy p x s
  | .opDmac p x => Sys2Proof.Machine.execOpDmac p x s
  | .opQmac p x => Sys2Proof.Machine.execOpQmac p x s
  | .opCmpy p x => Sys2Proof.Machine.execOpCmpy p x s
  | .opCmac p x => Sys2Proof.Machine.execOpCmac p x s
  | .opCmsu p x => Sys2Proof.Machine.execOpCmsu p x s
  | .opMpyr p x => Sys2Proof.Machine.execOpMpyr p x s
  | .opAdda p x => Sys2Proof.Machine.execOpAdda p x s
  | .opSuba p x => Sys2Proof.Machine.execOpSuba p x s
  | .opMova p x => Sys2Proof.Machine.execOpMova p x s
  | .opNega p x => Sys2Proof.Machine.execOpNega p x s
  | .opAbsa p x => Sys2Proof.Machine.execOpAbsa p x s
  | .opClra p x => Sys2Proof.Machine.execOpClra p x s
  | .opRnd p x => Sys2Proof.Machine.execOpRnd p x s
  | .opSata p x => Sys2Proof.Machine.execOpSata p x s
  | .opAsla p x => Sys2Proof.Machine.execOpAsla p x s
  | .opAslv p x => Sys2Proof.Machine.execOpAslv p x s
  | .opExp p x => Sys2Proof.Machine.execOpExp p x s
  | .opNorm p x => Sys2Proof.Machine.execOpNorm p x s
  | .opExpd p x => Sys2Proof.Machine.execOpExpd p x s
  | .opAdd p x => Sys2Proof.Machine.execOpAdd p x s
  | .opAdds p x => Sys2Proof.Machine.execOpAdds p x s
  | .opSub p x => Sys2Proof.Machine.execOpSub p x s
  | .opSubs p x => Sys2Proof.Machine.execOpSubs p x s
  | .opAnd p x => Sys2Proof.Machine.execOpAnd p x s
  | .opOr p x => Sys2Proof.Machine.execOpOr p x s
  | .opXor p x => Sys2Proof.Machine.execOpXor p x s
  | .opLsl p x => Sys2Proof.Machine.execOpLsl p x s
  | .opAsr p x => Sys2Proof.Machine.execOpAsr p x s
  | .opLsr p x => Sys2Proof.Machine.execOpLsr p x s
  | .opMin p x => Sys2Proof.Machine.execOpMin p x s
  | .opMax p x => Sys2Proof.Machine.execOpMax p x s
  | .opAbs p x => Sys2Proof.Machine.execOpAbs p x s
  | .opNeg p x => Sys2Proof.Machine.execOpNeg p x s
  | .opCmp p x => Sys2Proof.Machine.execOpCmp p x s
  | .moveLoad p x => Sys2Proof.Machine.execMoveLoad p x s
  | .moveStore p x => Sys2Proof.Machine.execMoveStore p x s
  | .moveRegister p x => Sys2Proof.Machine.execMoveRegister p x s
  | .pointerUpdate p x => Sys2Proof.Machine.execPointerUpdate p x s
  | .longAbsolute p x => Sys2Proof.Machine.execLongAbsolute p x s
  | .longImmediate p x => Sys2Proof.Machine.execLongImmediate p x s
  | .bra p cond target => Sys2Proof.Machine.execBra p cond target s
  | .call p cond target => Sys2Proof.Machine.execCall p cond target s
  | .rts p cond => Sys2Proof.Machine.execRts p cond s
  | .rti p => Sys2Proof.Machine.execRti p s
  | .jmpr p cond r => Sys2Proof.Machine.execJmpr p cond r s
  | .rep p n => Sys2Proof.Machine.execRep p n s
  | .repr p r => Sys2Proof.Machine.execRepr p r s
  | .loop p n e => Sys2Proof.Machine.execLoop p n e s
  | .loopr p r e => Sys2Proof.Machine.execLoopr p r e s
  | .wait p => Sys2Proof.Machine.execWait p s
  | .trap p => Sys2Proof.Machine.execTrap p s
  | .movs p x => Sys2Proof.Machine.execMovs p x s
  | .groupFrame g x => Sys2Proof.Machine.execGroupFrame g x s
  | .qualifyPass g phi0 => Sys2Proof.Machine.execQualifyPass g phi0 s
  | .bclkStop g => Sys2Proof.Machine.execBclkStop g s
  | .fsLoss g => Sys2Proof.Machine.execFsLoss g s
  | .clockReturn g => Sys2Proof.Machine.execClockReturn g s
  | .faultFadeEnd g => Sys2Proof.Machine.execFaultFadeEnd g s
  | .portZcTimeout c => Sys2Proof.Machine.execPortZcTimeout c s
  | .portRampEnd c => Sys2Proof.Machine.execPortRampEnd c s
  | .slotMaskWrite g m out w => Sys2Proof.Machine.execSlotMaskWrite g m out w s
  | .aes3Block m b => Sys2Proof.Machine.execAes3Block m b s
  | .aes3Lock m lock => Sys2Proof.Machine.execAes3Lock m lock s
  | .txcommit m w => Sys2Proof.Machine.execTxcommit m w s
  | .txcommitAct m => Sys2Proof.Machine.execTxcommitAct m s
  | .asrcChannelWrite c w => Sys2Proof.Machine.execAsrcChannelWrite c w s
  | .ratioLock x ratio => Sys2Proof.Machine.execRatioLock x ratio s
  | .linkUp n speedOk => Sys2Proof.Machine.execLinkUp n speedOk s
  | .linkDown n hiBer => Sys2Proof.Machine.execLinkDown n hiBer s
  | .packetReceive k => Sys2Proof.Machine.execPacketReceive k s
  | .macAgeOut mac => Sys2Proof.Machine.execMacAgeOut mac s
  | .igmpLapse group => Sys2Proof.Machine.execIgmpLapse group s
  | .igmpQuery => Sys2Proof.Machine.execIgmpQuery s
  | .flowPacket f k => Sys2Proof.Machine.execFlowPacket f k s
  | .flowLoss f => Sys2Proof.Machine.execFlowLoss f s
  | .flowSend f => Sys2Proof.Machine.execFlowSend f s
  | .streamSel tx w => Sys2Proof.Machine.execStreamSel tx w s
  | .streamCommit tx w => Sys2Proof.Machine.execStreamCommit tx w s
  | .fclkLock j lock ratio => Sys2Proof.Machine.execFclkLock j lock ratio s
  | .discover m => Sys2Proof.Machine.execDiscover m s
  | .announce m => Sys2Proof.Machine.execAnnounce m s
  | .announceSend => Sys2Proof.Machine.execAnnounceSend s
  | .telemetrySend => Sys2Proof.Machine.execTelemetrySend s
  | .readReq m => Sys2Proof.Machine.execReadReq m s
  | .nodeDupClear => Sys2Proof.Machine.execNodeDupClear s
  | .ptpRx m => Sys2Proof.Machine.execPtpRx m s
  | .ptpTxProd w => Sys2Proof.Machine.execPtpTxProd w s
  | .ptpSlotSent ok => Sys2Proof.Machine.execPtpSlotSent ok s
  | .timeSet w => Sys2Proof.Machine.execTimeSet w s
  | .timeAdd w => Sys2Proof.Machine.execTimeAdd w s
  | .timeSlew w => Sys2Proof.Machine.execTimeSlew w s
  | .timecmdAct => Sys2Proof.Machine.execTimecmdAct s
  | .slewDone n => Sys2Proof.Machine.execSlewDone n s
  | .timeNsRead n lvl => Sys2Proof.Machine.execTimeNsRead n lvl s
  | .ptpPulse n t => Sys2Proof.Machine.execPtpPulse n t s
  | .refEdge r x => Sys2Proof.Machine.execRefEdge r x s
  | .refFail r => Sys2Proof.Machine.execRefFail r s
  | .refSoakDone r => Sys2Proof.Machine.execRefSoakDone r s
  | .refDisqualify r => Sys2Proof.Machine.execRefDisqualify r s
  | .dpllEvaluation t => Sys2Proof.Machine.execDpllEvaluation t s
  | .lockDeclared => Sys2Proof.Machine.execLockDeclared s
  | .ladderStep => Sys2Proof.Machine.execLadderStep s
  | .lockLost => Sys2Proof.Machine.execLockLost s
  | .pullDone => Sys2Proof.Machine.execPullDone s
  | .steerWrite w => Sys2Proof.Machine.execSteerWrite w s
  | .dpllAlign w => Sys2Proof.Machine.execDpllAlign w s
  | .alignEdge out => Sys2Proof.Machine.execAlignEdge out s
  | .pllLock l count => Sys2Proof.Machine.execPllLock l count s
  | .pllLossOfLock l => Sys2Proof.Machine.execPllLossOfLock l s
  | .xoLoss => Sys2Proof.Machine.execXoLoss s
  | .xoRestore => Sys2Proof.Machine.execXoRestore s
  | .mediaRateChange ticket => Sys2Proof.Machine.execMediaRateChange ticket s
  | .rateHold => Sys2Proof.Machine.execRateHold s
  | .rampHandover => Sys2Proof.Machine.execRampHandover s
  | .rampEnd => Sys2Proof.Machine.execRampEnd s
  | .rateResume => Sys2Proof.Machine.execRateResume s
  | .rateDone => Sys2Proof.Machine.execRateDone s
  | .bandSearch w => Sys2Proof.Machine.execBandSearch w s
  | .searchDone band fine found => Sys2Proof.Machine.execSearchDone band fine found s
  | .pstep w => Sys2Proof.Machine.execPstep w s
  | .pstepDone => Sys2Proof.Machine.execPstepDone s
  | .domainGate rst w => Sys2Proof.Machine.execDomainGate rst w s
  | .arbGrantRise x => Sys2Proof.Machine.execArbGrantRise x s
  | .grantWaitEnd t => Sys2Proof.Machine.execGrantWaitEnd t s
  | .arbGrantFall x => Sys2Proof.Machine.execArbGrantFall x s
  | .arbChatterQuiet => Sys2Proof.Machine.execArbChatterQuiet s
  | .arbStuck => Sys2Proof.Machine.execArbStuck s
  | .leaseExpire t => Sys2Proof.Machine.execLeaseExpire t s
  | .handover w => Sys2Proof.Machine.execHandover w s
  | .fence w => Sys2Proof.Machine.execFence w s
  | .rejoin w => Sys2Proof.Machine.execRejoin w s
  | .autoJoin => Sys2Proof.Machine.execAutoJoin s
  | .negTimeout => Sys2Proof.Machine.execNegTimeout s
  | .traliatLinkUp lanes => Sys2Proof.Machine.execTraliatLinkUp lanes s
  | .traliatLinkDown => Sys2Proof.Machine.execTraliatLinkDown s
  | .traliatLaneChange lanes => Sys2Proof.Machine.execTraliatLaneChange lanes s
  | .healthCell c => Sys2Proof.Machine.execHealthCell c s
  | .decCell c => Sys2Proof.Machine.execDecCell c s
  | .mirrorCell c => Sys2Proof.Machine.execMirrorCell c s
  | .galleyCell c => Sys2Proof.Machine.execGalleyCell c s
  | .writeCell c => Sys2Proof.Machine.execWriteCell c s
  | .fwdCell c => Sys2Proof.Machine.execFwdCell c s
  | .bulkCell c => Sys2Proof.Machine.execBulkCell c s
  | .ctrlCell c => Sys2Proof.Machine.execCtrlCell c s
  | .cellResend ch seq => Sys2Proof.Machine.execCellResend ch seq s
  | .healthMissing => Sys2Proof.Machine.execHealthMissing s
  | .lossHoldExpire => Sys2Proof.Machine.execLossHoldExpire s
  | .syncPhaseEnd => Sys2Proof.Machine.execSyncPhaseEnd s
  | .cutover => Sys2Proof.Machine.execCutover s
  | .fwdQueueOverflow region => Sys2Proof.Machine.execFwdQueueOverflow region s
  | .standbyHotPromote storeEq => Sys2Proof.Machine.execStandbyHotPromote storeEq s
  | .warmTimeout => Sys2Proof.Machine.execWarmTimeout s
  | .trainingDone r => Sys2Proof.Machine.execTrainingDone r s
  | .retrainTrigger t => Sys2Proof.Machine.execRetrainTrigger t s
  | .retrainSlice => Sys2Proof.Machine.execRetrainSlice s
  | .retrainDone r => Sys2Proof.Machine.execRetrainDone r s
  | .retrainAbort => Sys2Proof.Machine.execRetrainAbort s
  | .ceWindowEnd => Sys2Proof.Machine.execCeWindowEnd s
  | .reserveMove => Sys2Proof.Machine.execReserveMove s
  | .shedWithdraw => Sys2Proof.Machine.execShedWithdraw s
  | .dramRefresh rank u => Sys2Proof.Machine.execDramRefresh rank u s
  | .rowCloseTimeout bank => Sys2Proof.Machine.execRowCloseTimeout bank s
  | .delayCommit w => Sys2Proof.Machine.execDelayCommit w s
  | .stagingDeadline missing => Sys2Proof.Machine.execStagingDeadline missing s
  | .delayXfadeEnd line => Sys2Proof.Machine.execDelayXfadeEnd line s
  | .recorderFreeze w => Sys2Proof.Machine.execRecorderFreeze w s
  | .segmentComplete ticket => Sys2Proof.Machine.execSegmentComplete ticket s
  | .voiceEnd v => Sys2Proof.Machine.execVoiceEnd v s
  | .stopFadeEnd v => Sys2Proof.Machine.execStopFadeEnd v s
  | .apertureWrite a => Sys2Proof.Machine.execApertureWrite a s
  | .busGrant target port cycle fresh => Sys2Proof.Machine.execBusGrant target port cycle fresh s
  | .eccRewrite => Sys2Proof.Machine.execEccRewrite s
  | .remapWrite group idx w => Sys2Proof.Machine.execRemapWrite group idx w s
  | .skimStep dram => Sys2Proof.Machine.execSkimStep dram s
  | .flipArm w => Sys2Proof.Machine.execFlipArm w s
  | .senseClassify n level t => Sys2Proof.Machine.execSenseClassify n level t s
  | .senseStuck n => Sys2Proof.Machine.execSenseStuck n s
  | .senseQuiet n => Sys2Proof.Machine.execSenseQuiet n s
  | .senseEventDeliver n t => Sys2Proof.Machine.execSenseEventDeliver n t s
  | .actionRetryExpire => Sys2Proof.Machine.execActionRetryExpire s
  | .senseEvt m => Sys2Proof.Machine.execSenseEvt m s
  | .supplyTrip which => Sys2Proof.Machine.execSupplyTrip which s
  | .porRelease straps vio => Sys2Proof.Machine.execPorRelease straps vio s
  | .warmResetPin => Sys2Proof.Machine.execWarmResetPin s
  | .resetWarm w => Sys2Proof.Machine.execResetWarm w s
  | .resetCold w => Sys2Proof.Machine.execResetCold w s
  | .xoQualified => Sys2Proof.Machine.execXoQualified s
  | .bistDone r => Sys2Proof.Machine.execBistDone r s
  | .imageSlotPass x => Sys2Proof.Machine.execImageSlotPass x s
  | .bootContinue w => Sys2Proof.Machine.execBootContinue w s
  | .startRun => Sys2Proof.Machine.execStartRun s
  | .otpProgram w => Sys2Proof.Machine.execOtpProgram w s
  | .otpProgramDone => Sys2Proof.Machine.execOtpProgramDone s
  | .ppsEdge => Sys2Proof.Machine.execPpsEdge s
  | .bmarkEdge => Sys2Proof.Machine.execBmarkEdge s
  | .tempReading s0 s1 s2 s3 => Sys2Proof.Machine.execTempReading s0 s1 s2 s3 s
  | .tempcfgClr w => Sys2Proof.Machine.execTempcfgClr w s
  | .warmResetRelease => Sys2Proof.Machine.execWarmResetRelease s
  | .rateHoldRenewal t => Sys2Proof.Machine.execRateHoldRenewal t s
  | .tachBEdge x level => Sys2Proof.Machine.execTachBEdge x level s
  | .cntInLow x => Sys2Proof.Machine.execCntInLow x s
  | .pressHostTimeout p addr lvl write => Sys2Proof.Machine.execPressHostTimeout p addr lvl write s
  | .supplyReading n mv => Sys2Proof.Machine.execSupplyReading n mv s

end Sys2Proof.Machine
end

