-- ==== Sys2Proof/WellFormed.lean ====
section
/-!
DEFINITION. Which commands the interfaces of the device can deliver: the checks on the operands of a command. `exec` runs every
command; a check names what no host, partner or engine can send.
-/

namespace Sys2Proof

/-- Byte addresses of the host bus: HA[24:2] names a 32-bit word (R441). -/
def hostAddr (a : Nat) : Bool := decide (a % 4 = 0) && decide (a < 0x2000000)

/-- The address ranges of Table 18-1: Cistern aperture, shared bank 2, Press memories, Formes. -/
def inAperture (a : Nat) : Bool := decide (0x100000 ≤ a) && decide (a < 0x200000)
def inBank2 (a : Nat) : Bool := decide (0x300000 ≤ a) && decide (a < 0x380000)
def inPress (a : Nat) : Bool := decide (0x400000 ≤ a) && decide (a < 0xC00000)
def inForme (a : Nat) : Bool := decide (0x1000000 ≤ a) && decide (a < 0x1800000)

/-- A block's page (R475, Table 18-2). -/
def pageOk (p : Fin 64) : Bool := decide (p.val < 0x36)

/-- Entries of the four remap tables (R417): four of each SRAM group, sixteen of the Cistern. -/
def remapEntry (g : Fin 4) (i : Fin 16) : Bool := decide (g = 3) || decide (i.val < 4)

/-- Keys of live gains: a word offset of the Forme, or a Jet gain above them. -/
def gainKey (k : Nat) : Bool := decide (k % 4 = 0) && decide (k < 0x1000000 + 4 * 64)

/-- A delay line (R382). -/
def lineOk (l : Nat) : Bool := decide (l < 1024)

/-- A bus request: HOST names words; at least one beat, and a write has no more words than its beats carry (R400, R402, R411). -/
def busReq (r : BusReq) : Bool :=
  (r.master != 0 || decide (r.addr % 4 = 0)) && decide (1 ≤ r.beats) &&
    match r.data with
    | none => true
    | some d => decide (1 ≤ d.length ∧ d.length ≤ (if r.master = 0 then 1 else 4) * r.beats)

/-- Training reports at most the nine lanes of two ranks (R377). -/
def lanesOk (r : TrainIn) : Bool := decide (r.lanes.length ≤ 18)

/-- What WRITE, FWD and BULK cells carry: words at word addresses (R357). -/
def partOk (x : DataPart) : Bool :=
  match x with
  | .sys ws => ws.all fun w => decide (w.1 % 4 = 0)
  | .cist ws => ws.all fun w => decide (w.1 % 4 = 0)
  | .press _ _ _ _ => true
  | .engine _ => true
  | .tables rx tx lines => (rx ++ tx).all (fun x => decide (x.2.length = 10)) && lines.all fun x => decide (x.1 < 1024 ∧ x.2.length = 5)
  | .bank2 _ heap _ _ => decide (heap ≤ 6144)

/-- A mirrored Galley entry carries at most the payload that the heap holds (R76). -/
def galleyOk (m : GalleyMsg) : Bool :=
  match m with
  | .slot _ _ payload _ _ _ _ => decide (payload.length ≤ 6144)
  | .clientRst _ => true

/-- The operands of the command are ones that its interface can deliver. -/
def Instr.wf (c : Instr) : Bool :=
  match c with
  | .registerWrite a => hostAddr a.addr
  | .lowWordRead addr _ => hostAddr addr
  | .blockEn page _ => pageOk page
  | .srst page _ => pageOk page
  | .srstComplete page => pageOk page
  | .freeze page _ => pageOk page
  | .iforce page _ => pageOk page
  | .errcapClear page _ => pageOk page
  | .strobeConflict addr _ => hostAddr addr
  | .hostAccessTimeout addr _ _ => hostAddr addr
  | .rangePermWrite _ _ => true
  | .proofSnapshot => true
  | .fallbackSnapshot => true
  | .proofHold _ => true
  | .proofHoldExpire => true
  | .frameTick _ x => decide (x.missing.Nodup)
  | .classCDrop _ => true
  | .galleyProd _ => true
  | .galleySlotWrite a => hostAddr a.addr && inBank2 a.addr
  | .entryCheck _ => true
  | .replAck _ _ => true
  | .replTimeout _ => true
  | .clientRst _ => true
  | .writeParam _ => true
  | .recallForme _ => true
  | .sluiceRoute _ => true
  | .play _ => true
  | .stopPlay _ => true
  | .recordSeg _ => true
  | .setGainZc _ => true
  | .pressMsg _ => true
  | .mark _ => true
  | .cancel _ => true
  | .tachPulse _ _ => true
  | .tachQuietRelease _ => true
  | .tachStuck _ _ => true
  | .standstill _ => true
  | .cntEdge _ _ => true
  | .cntQuietRelease _ => true
  | .cntStuck _ => true
  | .corrSubmit _ => true
  | .corrDone => true
  | .posLoad _ => true
  | .zoneGapBegin _ => true
  | .zcTimeoutRamp key => gainKey key
  | .slotWaitStart key => gainKey key
  | .slotRelease key => gainKey key
  | .epochEnd => true
  | .heldEntryAct _ => true
  | .shadowUnlock => true
  | .sluiceEnd _ => true
  | .shadowFormeWrite a => hostAddr a.addr && inForme a.addr
  | .formeCrcStart _ => true
  | .formeCrcDone => true
  | .jetPath _ _ => true
  | .jetXfadeEnd _ => true
  | .blockTick _ => true
  | .pressStart _ => true
  | .pressStop _ => true
  | .pressHalt _ => true
  | .tickEntry _ => true
  | .faultEntry _ => true
  | .dbgHalt _ _ => true
  | .dbgStep _ _ => true
  | .brkMatch _ => true
  | .pressMemWrite a => hostAddr a.addr && inPress a.addr
  | .pressDmaStarve _ => true
  | .loopEndFetch _ _ => true
  | .opNop _ _ => true
  | .opMpy _ _ => true
  | .opMac _ _ => true
  | .opMsu _ _ => true
  | .opMpy2 _ _ => true
  | .opMac2 _ _ => true
  | .opMsu2 _ _ => true
  | .opDmpy _ _ => true
  | .opDmac _ _ => true
  | .opQmac _ _ => true
  | .opCmpy _ _ => true
  | .opCmac _ _ => true
  | .opCmsu _ _ => true
  | .opMpyr _ _ => true
  | .opAdda _ _ => true
  | .opSuba _ _ => true
  | .opMova _ _ => true
  | .opNega _ _ => true
  | .opAbsa _ _ => true
  | .opClra _ _ => true
  | .opRnd _ _ => true
  | .opSata _ _ => true
  | .opAsla _ _ => true
  | .opAslv _ _ => true
  | .opExp _ _ => true
  | .opNorm _ _ => true
  | .opExpd _ _ => true
  | .opAdd _ _ => true
  | .opAdds _ _ => true
  | .opSub _ _ => true
  | .opSubs _ _ => true
  | .opAnd _ _ => true
  | .opOr _ _ => true
  | .opXor _ _ => true
  | .opLsl _ _ => true
  | .opAsr _ _ => true
  | .opLsr _ _ => true
  | .opMin _ _ => true
  | .opMax _ _ => true
  | .opAbs _ _ => true
  | .opNeg _ _ => true
  | .opCmp _ _ => true
  | .moveLoad _ _ => true
  | .moveStore _ _ => true
  | .moveRegister _ _ => true
  | .pointerUpdate _ _ => true
  | .longAbsolute _ _ => true
  | .longImmediate _ _ => true
  | .bra _ _ _ => true
  | .call _ _ _ => true
  | .rts _ _ => true
  | .rti _ => true
  | .jmpr _ _ _ => true
  | .rep _ _ => true
  | .repr _ _ => true
  | .loop _ _ _ => true
  | .loopr _ _ _ => true
  | .wait _ => true
  | .trap _ => true
  | .movs _ _ => true
  | .groupFrame _ _ => true
  | .qualifyPass _ _ => true
  | .bclkStop _ => true
  | .fsLoss _ => true
  | .clockReturn _ => true
  | .faultFadeEnd _ => true
  | .portZcTimeout _ => true
  | .portRampEnd _ => true
  | .slotMaskWrite _ _ _ _ => true
  | .aes3Block _ _ => true
  | .aes3Lock _ _ => true
  | .txcommit _ _ => true
  | .txcommitAct _ => true
  | .asrcChannelWrite _ _ => true
  | .ratioLock _ _ => true
  | .linkUp _ _ => true
  | .linkDown _ _ => true
  | .packetReceive k => decide (64 ≤ k.len) && decide (k.len ≤ 1522)
  | .macAgeOut _ => true
  | .igmpLapse _ => true
  | .igmpQuery => true
  | .flowPacket _ _ => true
  | .flowLoss _ => true
  | .flowSend _ => true
  | .streamSel _ _ => true
  | .streamCommit _ _ => true
  | .fclkLock _ _ _ => true
  | .discover _ => true
  | .announce _ => true
  | .announceSend => true
  | .telemetrySend => true
  | .readReq _ => true
  | .nodeDupClear => true
  | .ptpRx _ => true
  | .ptpTxProd _ => true
  | .ptpSlotSent _ => true
  | .timeSet _ => true
  | .timeAdd _ => true
  | .timeSlew _ => true
  | .timecmdAct => true
  | .slewDone _ => true
  | .timeNsRead _ _ => true
  | .ptpPulse _ _ => true
  | .refEdge _ _ => true
  | .refFail _ => true
  | .refSoakDone _ => true
  | .refDisqualify _ => true
  | .dpllEvaluation _ => true
  | .lockDeclared => true
  | .ladderStep => true
  | .lockLost => true
  | .pullDone => true
  | .steerWrite _ => true
  | .dpllAlign _ => true
  | .alignEdge _ => true
  | .pllLock _ _ => true
  | .pllLossOfLock _ => true
  | .xoLoss => true
  | .xoRestore => true
  | .mediaRateChange _ => true
  | .rateHold => true
  | .rampHandover => true
  | .rampEnd => true
  | .rateResume => true
  | .rateDone => true
  | .bandSearch _ => true
  | .searchDone _ _ _ => true
  | .pstep _ => true
  | .pstepDone => true
  | .domainGate _ _ => true
  | .arbGrantRise _ => true
  | .grantWaitEnd _ => true
  | .arbGrantFall _ => true
  | .arbChatterQuiet => true
  | .arbStuck => true
  | .leaseExpire _ => true
  | .handover _ => true
  | .fence _ => true
  | .rejoin _ => true
  | .autoJoin => true
  | .negTimeout => true
  | .traliatLinkUp _ => true
  | .traliatLinkDown => true
  | .traliatLaneChange _ => true
  | .healthCell _ => true
  | .decCell _ => true
  | .mirrorCell _ => true
  | .galleyCell c => galleyOk c.m
  | .writeCell c => partOk c.part
  | .fwdCell c => partOk c.part
  | .bulkCell c => partOk c.part
  | .ctrlCell _ => true
  | .cellResend _ _ => true
  | .healthMissing => true
  | .lossHoldExpire => true
  | .syncPhaseEnd => true
  | .cutover => true
  | .fwdQueueOverflow region => decide (region < 0x2000)
  | .standbyHotPromote _ => true
  | .warmTimeout => true
  | .trainingDone r => lanesOk r
  | .retrainTrigger _ => true
  | .retrainSlice => true
  | .retrainDone r => lanesOk r
  | .retrainAbort => true
  | .ceWindowEnd => true
  | .reserveMove => true
  | .shedWithdraw => true
  | .dramRefresh _ _ => true
  | .rowCloseTimeout _ => true
  | .delayCommit _ => true
  | .stagingDeadline missing => missing.all lineOk
  | .delayXfadeEnd _ => true
  | .recorderFreeze _ => true
  | .segmentComplete _ => true
  | .voiceEnd _ => true
  | .stopFadeEnd _ => true
  | .apertureWrite a => hostAddr a.addr && inAperture a.addr
  | .busGrant target port _ fresh => fresh.all busReq && (port.val == 0 || target.val == 4)
  | .eccRewrite => true
  | .remapWrite group idx _ => remapEntry group idx
  | .skimStep _ => true
  | .flipArm _ => true
  | .senseClassify _ _ _ => true
  | .senseStuck _ => true
  | .senseQuiet _ => true
  | .senseEventDeliver _ _ => true
  | .actionRetryExpire => true
  | .senseEvt _ => true
  | .supplyTrip _ => true
  | .porRelease _ _ => true
  | .warmResetPin => true
  | .resetWarm _ => true
  | .resetCold _ => true
  | .xoQualified => true
  | .bistDone _ => true
  | .imageSlotPass _ => true
  | .bootContinue _ => true
  | .startRun => true
  | .otpProgram _ => true
  | .otpProgramDone => true
  | .ppsEdge => true
  | .bmarkEdge => true
  | .tempReading _ _ _ _ => true
  | .tempcfgClr _ => true
  | .warmResetRelease => true
  | .rateHoldRenewal _ => true
  | .tachBEdge _ _ => true
  | .cntInLow _ => true
  | .pressHostTimeout _ addr _ _ => hostAddr addr && inPress addr
  | .supplyReading _ _ => true

/-- The property that the check decides. -/
def WellFormed (c : Instr) : Prop := c.wf = true

end Sys2Proof
end

