-- ==== Sys2Proof/Safety.lean ====
section
/-!
DEFINITION. The terms of the statements: the canonical form of storage, what a command leaves unchanged, and when the host
interface lets an access through.
-/

namespace Sys2Proof.Machine

/-! ### Canonical storage -/

/-- Registers, memory and Cistern are in their one canonical form (equal contents are equal data), the tables of fixed length have
their length, and the results in flight of every Press stand in the order in which they arrive, within the six stages. -/
abbrev Canonical (s : State) : Prop :=
  spWf resetWord s.regs = true ∧ Memory.wf s.mem ∧ spWf cistReset s.cist = true ∧
    s.host.ranges.length = 16 ∧ s.dpll.refs.length = 8 ∧ s.clk.wclk.length = 2 ∧
    ∀ p : Fin 16, (s.press[p].pend.Pairwise fun a b => a.at_ ≤ b.at_) ∧ ∀ w ∈ s.press[p].pend, w.at_ ≤ s.press[p].cyc + 5

/-! ### Frames -/

/-- The parts of the state, one for each field. -/
inductive Part where
  | now | freeCtr | regs | frozen | latches | srst | landNext | mem | cist | host | boot | tb | comp | galley | basin | ports
  | net | twin | arb | clk | dpll | ptp | cistern | press | fab | sense | shedMeas | shedImp | shed | shedT | pending
  deriving DecidableEq, Repr

/-- The part is the same in both states. -/
def Part.same (p : Part) (s t : State) : Prop :=
  match p with
  | .now => t.now = s.now
  | .freeCtr => t.freeCtr = s.freeCtr
  | .regs => t.regs = s.regs
  | .frozen => t.frozen = s.frozen
  | .latches => t.latches = s.latches
  | .srst => t.srst = s.srst
  | .landNext => t.landNext = s.landNext
  | .mem => t.mem = s.mem
  | .cist => t.cist = s.cist
  | .host => t.host = s.host
  | .boot => t.boot = s.boot
  | .tb => t.tb = s.tb
  | .comp => t.comp = s.comp
  | .galley => t.galley = s.galley
  | .basin => t.basin = s.basin
  | .ports => t.ports = s.ports
  | .net => t.net = s.net
  | .twin => t.twin = s.twin
  | .arb => t.arb = s.arb
  | .clk => t.clk = s.clk
  | .dpll => t.dpll = s.dpll
  | .ptp => t.ptp = s.ptp
  | .cistern => t.cistern = s.cistern
  | .press => t.press = s.press
  | .fab => t.fab = s.fab
  | .sense => t.sense = s.sense
  | .shedMeas => t.shedMeas = s.shedMeas
  | .shedImp => t.shedImp = s.shedImp
  | .shed => t.shed = s.shed
  | .shedT => t.shedT = s.shedT
  | .pending => t.pending = s.pending

/-- Every part but the listed ones is the same. -/
def KeepsBut (l : List Part) (s t : State) : Prop := ∀ p : Part, p ∉ l → p.same s t

/-- Every register outside the listed pages reads as before. -/
def RegsBut (pages : List Nat) (s t : State) : Prop := ∀ a, pageOf a ∉ pages → rget t a = rget s a

/-- Every register but the listed ones reads as before. -/
def RegsOnly (l : List Nat) (s t : State) : Prop := ∀ a, a ∉ l → rget t a = rget s a

/-- Every byte of memory reads as before. -/
def MemSame (s t : State) : Prop := ∀ a, rdByte t a = rdByte s a

/-! ### Running -/

/-- The command answers a next state, and `P` holds of it. -/
def Runs (c : Instr) (s : State) (P : State → Prop) : Prop := ∃ t, exec c s = .next t ∧ P t

/-! ### The host interface -/

/-- The device is in operation: no reset holds it. -/
abbrev Live (s : State) : Prop := s.boot.held = .none

/-- A host write to `a` is decoded, permitted, of full width, and the start-up lets it through (R441 to R451, R464). -/
abbrev Served (s : State) (a : Nat) (w : HW) : Prop :=
  Live s ∧ accessGate s w.lvl.val a true w.be = 0 ∧ closedTo s a = false

/-- No rule refuses the write of `v` to the register at `a` (R17 and the rules of its block). -/
def ruleOk (s : State) (lvl a : Nat) (v : Word) : Bool :=
  match regAt a with
  | none => false
  | some d =>
    (soloRefuse s d a v).isNone
      && (blockRefuse s true lvl a (heldReg s a) (newWord d (pageOf a) lvl (heldReg s a) v) v).isNone

/-- Below level 0 the write would change an RWP field, which keeps its value (R6, R7). -/
def rwpKept (s : State) (lvl a : Nat) (v : Word) : Bool :=
  match regAt a with
  | none => false
  | some d => rwpDiscard d lvl (heldReg s a) v

/-- No rule refuses the write or any part of it. -/
def unrefused (s : State) (lvl a : Nat) (v : Word) : Bool := ruleOk s lvl a v && !rwpKept s lvl a v

/-- A host write to a register is served and no rule refuses it; RWP fields may keep their values. -/
abbrev Allowed (s : State) (a : Nat) (w : HW) : Prop := Served s a w ∧ ruleOk s w.lvl.val a w.v = true

/-- A host write to a register is served and no rule refuses it or any part of it. -/
abbrev Accepted (s : State) (a : Nat) (w : HW) : Prop := Served s a w ∧ unrefused s w.lvl.val a w.v = true

/-- The access that a host-write command performs: address, level, byte enables, data. -/
def hostAccess (c : Instr) : Option HostAcc :=
  match c with
  | .registerWrite a => some a
  | .blockEn page w => some ⟨aCTRL page, w.lvl, w.be, w.v⟩
  | .srst page w => some ⟨aCTRL page, w.lvl, w.be, setBits w.v 1 1 1⟩
  | .freeze page w => some ⟨aCTRL page, w.lvl, w.be, w.v⟩
  | .iforce page w => some ⟨(pageAddr page 0x018), w.lvl, w.be, w.v⟩
  | .errcapClear page w => some ⟨aERRCAP page, w.lvl, w.be, setBits w.v 31 31 1⟩
  | .rangePermWrite k w => some ⟨aPROT_RANGE_PERM k, w.lvl, w.be, w.v⟩
  | .proofHold w => some ⟨aHOSTIF_PROOF, w.lvl, w.be, w.v⟩
  | .galleyProd w => some ⟨aGALLEY_PROD, w.lvl, w.be, w.v⟩
  | .galleySlotWrite a => some a
  | .clientRst w => some ⟨aGALLEY_CLIENT_RST, w.lvl, w.be, w.v⟩
  | .corrSubmit w => some ⟨aTIMEBASE_CORR_HI, w.lvl, w.be, w.v⟩
  | .posLoad w => some ⟨aTIMEBASE_POS_LOAD_HI, w.lvl, w.be, w.v⟩
  | .shadowFormeWrite a => some a
  | .formeCrcStart w => some ⟨aBASIN_CRC_CTRL, w.lvl, w.be, setBits w.v 0 0 1⟩
  | .jetPath p w => some ⟨aJET_PATH p, w.lvl, w.be, w.v⟩
  | .dbgHalt p w => some ⟨aCTRL (pgPRESS p), w.lvl, w.be, w.v⟩
  | .dbgStep p w => some ⟨aCTRL (pgPRESS p), w.lvl, w.be, setBits w.v 8 8 1⟩
  | .pressMemWrite a => some a
  | .slotMaskWrite g m out w => some ⟨(if out then aPORTG_OUTMASK g m else aPORTG_INMASK g m), w.lvl, w.be, w.v⟩
  | .txcommit m w => some ⟨aAES3_PORTCFG m, w.lvl, w.be, setBits w.v 27 27 1⟩
  | .asrcChannelWrite c w => some ⟨aASRC_CH c, w.lvl, w.be, w.v⟩
  | .streamSel tx w => some ⟨(if tx then aSTREAMTX_SEL else aSTREAMRX_SEL), w.lvl, w.be, w.v⟩
  | .streamCommit tx w => some ⟨(if tx then aSTREAMTX_COMMIT else aSTREAMRX_COMMIT), w.lvl, w.be, setBits w.v 0 0 1⟩
  | .ptpTxProd w => some ⟨aPTP_TX_PROD, w.lvl, w.be, w.v⟩
  | .timeSet w => some ⟨aPTP_TIMECMD, w.lvl, w.be, setBits w.v 1 0 1⟩
  | .timeAdd w => some ⟨aPTP_TIMECMD, w.lvl, w.be, setBits w.v 1 0 2⟩
  | .timeSlew w => some ⟨aPTP_TIMECMD, w.lvl, w.be, setBits w.v 1 0 3⟩
  | .steerWrite w => some ⟨aDPLL_STEER, w.lvl, w.be, w.v⟩
  | .dpllAlign w => some ⟨aDPLL_ALIGN, w.lvl, w.be, w.v⟩
  | .bandSearch w => some ⟨aPLLM_CALCMD, w.lvl, w.be, setBits w.v 0 0 1⟩
  | .pstep w => some ⟨aPLLM_PSTEP, w.lvl, w.be, w.v⟩
  | .domainGate rst w => some ⟨(if rst then aCLKGEN_DOMRST else aCLKGEN_DOMGATE), w.lvl, w.be, w.v⟩
  | .handover w => some ⟨aTWIN_CMD, w.lvl, w.be, setBits w.v 1 0 2⟩
  | .fence w => some ⟨aTWIN_CMD, w.lvl, w.be, setBits w.v 1 0 3⟩
  | .rejoin w => some ⟨aTWIN_CMD, w.lvl, w.be, setBits w.v 1 0 1⟩
  | .delayCommit w => some ⟨aDDRC_DLY_COMMIT, w.lvl, w.be, setBits w.v 0 0 1⟩
  | .recorderFreeze w => some ⟨aRECORDER_FREEZE, w.lvl, w.be, w.v⟩
  | .apertureWrite a => some a
  | .flipArm w => some ⟨aECC_FLIPCTRL, w.lvl, w.be, setBits w.v 31 31 1⟩
  | .resetWarm w => some ⟨aSYS_RSTCMD, w.lvl, w.be, setBits w.v 1 0 1⟩
  | .resetCold w => some ⟨aSYS_RSTCMD, w.lvl, w.be, setBits w.v 1 0 2⟩
  | .bootContinue w => some ⟨aBOOT_CMD, w.lvl, w.be, setBits w.v 0 0 1⟩
  | .otpProgram w => some ⟨aOTP_PROGCMD, w.lvl, w.be, setBits w.v 0 0 1⟩
  | .tempcfgClr w => some ⟨aMON_TEMPCFG, w.lvl, w.be, setBits w.v 31 31 1⟩
  | _ => none

end Sys2Proof.Machine
end

