-- ==== Sys2Proof/Certificates/Slice0/Obligations.lean ====
section
/-!
DEFINITION. The statements about the device, family by family. `Runs c s P` says that the command answers a next state and
that `P` holds of it; `KeepsBut l` and `RegsBut l` say that nothing changes but the listed parts and register pages.
-/

open Sys2Proof Sys2Proof.Machine

/-- For every command c and every state whose queue begins with c, one step is exec of c on that state with the queue's
rest. On an empty queue a step answers the same state. The queue and the idle step are the model's interface (log
entry 4): every event of the device's own engines is a command of the table. -/
def Obligations.StepRunsTheFrontCommand : Prop :=
  (∀ (s : State) (c : Instr) (q : List Instr), s.pending = c :: q → step s = exec c { s with pending := q }) ∧
  (∀ s : State, s.pending = [] → step s = .next s)

/-- No command ends in a fault or a refusal: in every state, with every operand, exec answers a next state. -/
def Obligations.EveryCommandAnswers : Prop :=
  ∀ (c : Instr) (s : State), ∃ t, exec c s = .next t

/-- Whatever a command does, reset included, the commands that wait behind it stay waiting, in their order: the queue is
the outside world's (log entry 4), and only step takes from it. -/
def Obligations.NoCommandTouchesTheQueue : Prop :=
  ∀ (c : Instr) (s t : State), exec c s = .next t → t.pending = s.pending

/-- At reset every storage is in its canonical form: keys strictly rising and no entry equal to what an unlisted key reads
as; the tables of fixed length (protection ranges, references, word clock outputs) have their length; and the results
in flight of every Press stand in the order of their arrival. -/
def Obligations.ResetIsCanonical : Prop :=
  Canonical State.reset

/-- From every state whose registers, memory and Cistern are in canonical form, a step that answers a next state leaves
them in canonical form, the tables of fixed length at their length, and the results in flight of every Press in the
order of their arrival: equal contents stay equal data, whatever command ran. -/
def Obligations.StepKeepsStorageCanonical : Prop :=
  ∀ s t : State, Canonical s → step s = .next t → Canonical t

/-- Commands that act on a device held in reset: the causes and ends of resets, and time itself. -/
def actsInReset (c : Instr) : Bool :=
  match c with
  | .supplyTrip .. | .porRelease .. | .warmResetRelease | .xoLoss | .xoRestore | .frameTick .. => true
  | _ => false

/-- While the device is held in reset (a power-on reset, loss of XO, RST_N low), every command other than the causes and
ends of resets and the frame tick (time goes on) leaves the state as it is: no host write, no packet, no cell, no
Press word has any effect. DEDUCED from R460 to R463 (log entry 61). -/
def Obligations.HeldInResetNothingHappens : Prop :=
  ∀ (c : Instr) (s : State), actsInReset c = false → s.boot.held ≠ .none → exec c s = .next s

/-- At reset the start-up is at step 1 and held by the power-on reset, nothing runs, no lease is held and no pin is
driven, the twin state is FENCED with the partner unknown (0xF), every Press is HALTED, CORE is gated and FABRIC on
its fallback, the Cistern is off, the Galley and the queue are empty, and every register reads its reset value (0
where the manual states none: the model choice of log entry 1). -/
def Obligations.ResetLeaves : Prop :=
  State.reset.boot.step = .s1 ∧ State.reset.boot.held = .power ∧ State.reset.boot.run = false ∧
  State.reset.twin.st = .fenced ∧ State.reset.twin.pstate = 0xF ∧ State.reset.twin.lease = none ∧
  State.reset.twin.drive = false ∧ State.reset.clk.coreGated = true ∧ State.reset.clk.fabFb = true ∧
  State.reset.cistern.st = .off ∧ State.reset.comp.queue = [] ∧ State.reset.pending = [] ∧
  (∀ p : Fin 16, State.reset.press[p].mode = .halted) ∧ (∀ a, rget State.reset a = resetWord a)

/-! ### Host bus, common registers, Proof window -/

/-- Registers whose write does more than store its word: commands, staged and taken-over entries, modes that keep their value, running
maxima, and the record of the access itself. By page and offset; CTRL, IFORCE and ERRCAP of every page have statements of their own. -/
def actingReg (p o : Nat) : Bool :=
  (p == pgSYS && o == 0x50) || (p == pgBOOT && o == 0x40) || (p == pgPROT && decide (0x300 ≤ o) && (o - 0x300) % 12 == 8)
    || (p == pgHOSTIF && [0x44, 0x48, 0x4C].contains o) || (p == pgCLKGEN && [0x40, 0x44].contains o)
    || (p == pgPLLM && [0x40, 0x4C, 0x68, 0x6C, 0x70].contains o) || (p == pgDPLL && o == 0x6C)
    || (p == pgTIMEBASE && [0x40, 0x44, 0x48, 0x58, 0x70, 0x74, 0x88, 0x8C].contains o) || (p == pgCOMPOSITOR && o == 0x50)
    || (p == pgGALLEY && [0x44, 0x70].contains o) || (p == pgTWIN && o == 0x44) || (p == pgDDRC && [0x140, 0x144].contains o)
    || (p == pgECC && (o == 0x48 || decide (0x100 ≤ o))) || (decide (0x10 ≤ p ∧ p ≤ 0x13) && decide (0x100 ≤ o))
    || (p == pgAES3 && decide (0x100 ≤ o ∧ o < 0x120)) || (p == pgASRC && decide (0x100 ≤ o)) || (p == pgPTP && o == 0x80)
    || ((p == pgSTREAMRX || p == pgSTREAMTX) && ([0x48, 0x4C].contains o || decide (0x90 ≤ o ∧ o < 0xA0)))
    || (p == pgBASIN && [0x60, 0x68].contains o) || (p == pgJET && decide (0x100 ≤ o)) || (p == pgGPIO && [0x40, 0x48].contains o)
    || (p == pgRECORDER && [0x40, 0x48].contains o) || (p == pgINTC && o == 0x44) || (p == pgMON && o == 0x4C)
    || (p == pgOTP && o == 0x208)

/-- The write of a SOLO device to this register waits for the next frame boundary (R23). -/
def waitsForFrame (s : State) (a : Nat) : Bool := isSolo s && soloLater (pageOf a) (offOf a)

/-- The status of the last host access (R444). -/
def lastStatus (t : State) : Nat := rfld t aHOSTIF_LASTERR 31 24

/-- A write of SRST = 1 while EN = 1 is ignored (R15). -/
def srstIgnored (s : State) (page : Nat) (v : Word) : Bool := bit v 1 && bit (heldReg s (aCTRL page)) 0

def isPressPage (page : Nat) : Bool := decide (0x20 ≤ page ∧ page ≤ 0x2F)

/-- A host write that is served and that no rule refuses, to any register whose write only stores (not CTRL, IFORCE,
ERRCAP, nor the acting registers, which have statements of their own; on a SOLO device not one that waits for the
frame boundary), completes. Each bit is then: the written bit where the field is RW, or RWP and the level is 0; else
the old bit; and 0 where the field is W1C and the written bit is 1. The status is 0, and no register but this, LASTERR
and LASTADDR changes; where a level below 0 would have changed an RWP field, that field keeps its value, the status is
3 (RWP), and the PROT, HOSTIF and INTC pages record it. Nothing else changes. -/
def Obligations.PlainRegisterWriteFollowsFieldTypes : Prop :=
  ∀ (s : State) (x : HostAcc) (d : RegDef),
    Canonical s → x.addr = busAddr x.addr → Allowed s x.addr ⟨x.lvl, x.be, x.v⟩ → regAt x.addr = some d →
    actingReg (pageOf x.addr) (offOf x.addr) = false → offOf x.addr ∉ [0x8, 0x18, 0x1C] → waitsForFrame s x.addr = false →
    Runs (.registerWrite x) s fun t =>
      (∀ i, i < 32 → bit (rget t x.addr) i =
        ((if bit (w32 d.rw) i || (decide (x.lvl = 0) && bit (w32 d.rwp) i) then bit x.v i else bit (heldReg s x.addr) i)
          && !(bit (w32 d.w1c) i && bit x.v i))) ∧
      KeepsBut [.regs] s t ∧
      (if rwpKept s x.lvl.val x.addr x.v then
         lastStatus t = 3 ∧ ∀ a, a ≠ x.addr → pageOf a ∉ [pgPROT, pgHOSTIF, pgINTC] → rget t a = rget s a
       else lastStatus t = 0 ∧ RegsOnly [x.addr, aHOSTIF_LASTERR, aHOSTIF_LASTADDR] s t)

/-- Whatever host-write command reaches a live device at an address that does not decode, that its level may not write, or
with partial byte enables on a register page, the access ends with that status (1 DECODE, 2 DENIED, 4 WIDTH) in
LASTERR, and nothing changes outside the registers of HOSTIF, MATRIX, PROT and INTC. -/
def Obligations.GatedHostWriteEndsWithItsStatus : Prop :=
  ∀ (s t : State) (c : Instr) (x : HostAcc),
    Canonical s → Live s → hostAccess c = some x → accessGate s x.lvl.val (busAddr x.addr) true x.be ≠ 0 →
    exec c s = .next t →
    lastStatus t = accessGate s x.lvl.val (busAddr x.addr) true x.be ∧ KeepsBut [.regs] s t ∧
      RegsBut [pgHOSTIF, pgMATRIX, pgPROT, pgINTC] s t

/-- ERRCAP and ERRADDR of the page took the code with the address, or MULTI when they were taken (R19, R20). -/
def captured (code page a : Nat) (s t : State) : Prop :=
  if rbit s (aERRCAP page) 31 then rget t (aERRCAP page) = rget s (aERRCAP page) ||| 0x40000000#32 ∧
      rget t (aERRADDR page) = rget s (aERRADDR page)
  else rget t (aERRCAP page) = 0x80000000#32 ||| w32 code ∧ rget t (aERRADDR page) = w32 a

/-- The access ended REFUSED: ERRCAP of the page took the code; nothing else changed but the HOSTIF page. -/
def refusedWith (code page a : Nat) (s t : State) : Prop :=
  lastStatus t = 5 ∧ KeepsBut [.regs] s t ∧ captured code page a s t ∧
    (∀ b, pageOf b ≠ pgHOSTIF → b ∉ [aERRCAP page, aERRADDR page] → rget t b = rget s b)

/-- On a device that is not SOLO: a served BLOCK_EN that would change CTRL.EN of a data-plane page (on a Press page
without DBG_HALT or STEP), and a served REGISTER_WRITE to any other register of a data-plane page but ISTAT, IEN,
IFORCE, ERRCAP, the clear-on-write statistics and CRC_CTRL, end with status REFUSED (5). ERRCAP of the page takes code
5 (7 for BRK of a Press) with the address, or MULTI when it was taken; nothing else changes but the HOSTIF page. -/
def Obligations.RefusedHostWriteOutsideSolo : Prop :=
  (∀ (s : State) (page : Fin 64) (w : HW) (d : RegDef),
    Canonical s → Served s (aCTRL page) w → regAt (aCTRL page) = some d → isSolo s = false → dataPlane page = true →
    bit w.v 0 ≠ bit (heldReg s (aCTRL page)) 0 →
    (isPressPage page = true → bit w.v 7 = bit (heldReg s (aCTRL page)) 7 ∧ bit w.v 8 = false) →
    Runs (.blockEn page w) s fun t => refusedWith 5 page (aCTRL page) s t) ∧
  (∀ (s : State) (x : HostAcc) (d : RegDef),
    Canonical s → x.addr = busAddr x.addr → Served s x.addr ⟨x.lvl, x.be, x.v⟩ → regAt x.addr = some d → isSolo s = false →
    dataPlane (pageOf x.addr) = true → offOf x.addr ∉ [0x8, 0x10, 0x14, 0x18, 0x1C] →
    statReg (pageOf x.addr) (offOf x.addr) = false → x.addr ≠ aBASIN_CRC_CTRL →
    Runs (.registerWrite x) s fun t =>
      refusedWith (if isPressPage (pageOf x.addr) ∧ offOf x.addr = 0x8C then 7 else 5) (pageOf x.addr) x.addr s t)

/-- On every implemented page, for a served write that no rule refuses: BLOCK_EN outside the data plane sets CTRL.EN to
the written bit (where EN is always 1 it stays 1); on a page whose EN starts no block nothing else changes; DDRC
enters TRAINING or OFF; PLL-M off stops frame ticks. On a data-plane page of a SOLO device the written bit waits for
the frame boundary while EN keeps its value. FREEZE sets CTRL.FREEZE: once set, STAT and the counters read as they
stood; once cleared, they read live. SRST on a block with EN = 0 clears ISTAT, ERRCAP and ERRADDR and runs until
SRST_COMPLETE; on a STOPPING Press it is held. A write of SRST with EN = 1 is ignored. IFORCE sets the ISTAT bits
written as 1 that the page implements; ERRCAP_CLEAR clears ERRCAP and ERRADDR. Each completes with status 0. -/
def Obligations.BlockControlBits : Prop :=
  (∀ (s : State) (page : Fin 64) (w : HW), Canonical s → Accepted s (aCTRL page) w → dataPlane page = false →
    heldReg s (aCTRL page) = rget s (aCTRL page) →
    Runs (.blockEn page w) s fun t => lastStatus t = 0 ∧
      enOf t page = (if srstIgnored s page w.v || alwaysOn page then enOf s page else bit w.v 0) ∧
      (bit w.v 1 = false → page.val ∉ [pgPLLM, pgDPLL, pgDDRC, pgNET 0, pgNET 1, pgPTP] →
        KeepsBut [.regs, .frozen] s t ∧ RegsOnly [aCTRL page, aHOSTIF_LASTERR, aHOSTIF_LASTADDR] s t) ∧
      (bit w.v 1 = false → page.val = pgDDRC → bit w.v 0 ≠ enOf s page →
        t.cistern.st = (if bit w.v 0 then .training else .off)) ∧
      (bit w.v 1 = false → page.val = pgPLLM → enOf s page = true → bit w.v 0 = false →
        t.tb.ticking = false ∧ t.clk.lockM = false)) ∧
  (∀ (s : State) (page : Fin 64) (w : HW), Canonical s → Accepted s (aCTRL page) w → dataPlane page = true → isSolo s = true →
    Runs (.blockEn page w) s fun t => lastStatus t = 0 ∧ enOf t page = enOf s page ∧
      bit (heldReg t (aCTRL page)) 0 = (if srstIgnored s page w.v then bit (heldReg s (aCTRL page)) 0 else bit w.v 0) ∧
      (isPressPage page = false → bit w.v 1 = false →
        KeepsBut [.regs, .frozen, .landNext] s t ∧ RegsOnly [aCTRL page, aHOSTIF_LASTERR, aHOSTIF_LASTADDR] s t)) ∧
  (∀ (s : State) (page : Fin 64) (w : HW), Canonical s → Accepted s (aCTRL page) w →
    bit (heldReg s (aCTRL page)) 2 = rbit s (aCTRL page) 2 →
    Runs (.freeze page w) s fun t => lastStatus t = 0 ∧
      rbit t (aCTRL page) 2 = (if srstIgnored s page w.v then rbit s (aCTRL page) 2 else bit w.v 2) ∧
      (srstIgnored s page w.v = false → rbit s (aCTRL page) 2 = false → bit w.v 2 = true → ∀ a ∈ frozenAddrs page,
        viewReg t a = liveReg { rset (aCTRL page) (rget t (aCTRL page)) s with landNext := t.landNext } a) ∧
      (srstIgnored s page w.v = false → rbit s (aCTRL page) 2 = true → bit w.v 2 = false → ∀ a ∈ frozenAddrs page,
        viewReg t a = liveReg t a)) ∧
  (∀ (s : State) (page : Fin 64) (w : HW), Canonical s → Accepted s (aCTRL page) ⟨w.lvl, w.be, setBits w.v 1 1 1⟩ →
    Runs (.srst page w) s fun t => lastStatus t = 0 ∧
      (bit (heldReg s (aCTRL page)) 0 = true → KeepsBut [.regs] s t ∧ RegsOnly [aHOSTIF_LASTERR, aHOSTIF_LASTADDR] s t) ∧
      (bit (heldReg s (aCTRL page)) 0 = false → isPressPage page = false ∨ (pressAt s page).mode = .halted →
        page.val ∈ t.srst ∧ rget t (aISTAT page) = 0 ∧ rget t (aERRCAP page) = 0 ∧ rget t (aERRADDR page) = 0) ∧
      (bit (heldReg s (aCTRL page)) 0 = false → isPressPage page = true → (pressAt s page).mode = .stopping →
        bit w.v 8 = false → (pressAt t page).srstHeld = true ∧ rget t (aISTAT page) = rget s (aISTAT page))) ∧
  (∀ (s : State) (page : Fin 64), Live s →
    Runs (.srstComplete page) s fun t => t.srst = s.srst.filter (· != page.val) ∧ KeepsBut [.srst] s t) ∧
  (∀ (s : State) (page : Fin 64) (w : HW) (d : RegDef), Canonical s → Accepted s (pageAddr page 0x18) w →
    regAt (pageAddr page 0x18) = some d →
    Runs (.iforce page w) s fun t => lastStatus t = 0 ∧ rget t (aISTAT page) = rget s (aISTAT page) ||| (w.v &&& w32 d.wo) ∧
      KeepsBut [.regs] s t ∧ RegsOnly [aISTAT page, aHOSTIF_LASTERR, aHOSTIF_LASTADDR] s t) ∧
  (∀ (s : State) (page : Fin 64) (w : HW), Canonical s → Accepted s (aERRCAP page) ⟨w.lvl, w.be, setBits w.v 31 31 1⟩ →
    Runs (.errcapClear page w) s fun t => lastStatus t = 0 ∧ rget t (aERRCAP page) = 0 ∧ rget t (aERRADDR page) = 0 ∧
      KeepsBut [.regs] s t ∧ RegsOnly [aERRCAP page, aERRADDR page, aHOSTIF_LASTERR, aHOSTIF_LASTADDR] s t)

/-- A snapshot of `s` stands in the Proof window of `t`: both sequence words, the frame count, the device word, the tickets and the DPLL
status (Table 16-3), counted in SNAP_CNT. -/
def snapshotTaken (s t : State) : Prop :=
  t.host.seq = s.host.seq + 2 ∧ proofWord t 0 = s.host.seq + 2 ∧ proofWord t 0x3F00 = s.host.seq + 2 ∧
    proofWord t 4 = lo32 (mediaNow s) ∧ proofWord t 8 = hi32 (mediaNow s) ∧ proofWord t 0xC = deviceWord s ∧
    proofWord t 0x10 = rget s aGALLEY_TICKET_LAST ∧ proofWord t 0x14 = rget s aGALLEY_TICKET_DONE ∧
    t.host.ranges = s.host.ranges ∧ t.host.holdCnt = s.host.holdCnt ∧ rget t aHOSTIF_SNAP_CNT = rget s aHOSTIF_SNAP_CNT + 1

/-- A read of the low word of a 64-bit register that decode and protection let through latches the high word's present
value, and a read of a latched high word uses the latch up; a read of a time counter's NS word latches its seconds and
fraction together; all complete with status 0. Both strobes low complete with status CYCLE (8); an access that is
never granted with TIMEOUT (7), after the checks that come before it; a Press bank access that waited 65,536 cycles
with REFUSED (5) and ERRCAP code 6 of that Press. The failures count in ERR_CNT and change nothing beyond registers of
HOSTIF and of that Press (and the free value that stands for the direction bit). -/
def Obligations.HostCyclesWithoutAWrite : Prop :=
  (∀ (s : State) (addr : Nat) (lvl : Fin 4), Canonical s → Live s → accessGate s lvl.val (busAddr addr) false 0xF#4 = 0 →
    closedTo s (busAddr addr) = false → busAddr addr ∈ pairLows → (∀ x ∈ s.latches, x.1 ≠ busAddr addr) →
    Runs (.lowWordRead addr lvl) s fun t => lastStatus t = 0 ∧
      t.latches = alSet s.latches (busAddr addr + 4) (viewReg s (busAddr addr + 4)) ∧ KeepsBut [.regs, .latches] s t ∧
      RegsOnly [aHOSTIF_LASTERR, aHOSTIF_LASTADDR] s t) ∧
  (∀ (s : State) (addr : Nat) (lvl : Fin 4), Canonical s → Live s → accessGate s lvl.val (busAddr addr) false 0xF#4 = 0 →
    closedTo s (busAddr addr) = false → isPageAddr (busAddr addr) = true → pageOf (busAddr addr) ≠ pgHOSTIF →
    (∃ x ∈ s.latches, x.1 = busAddr addr) →
    Runs (.lowWordRead addr lvl) s fun t => lastStatus t = 0 ∧ t.latches = alDel s.latches (busAddr addr) ∧
      KeepsBut [.regs, .latches] s t ∧ RegsOnly [aHOSTIF_LASTERR, aHOSTIF_LASTADDR] s t) ∧
  (∀ (s : State) (n : Fin 2) (lvl : Fin 4), Canonical s → Live s →
    accessGate s lvl.val (if n = 0 then aPTP_TIME0_NS else aPTP_TIME1_NS) false 0xF#4 = 0 →
    closedTo s (if n = 0 then aPTP_TIME0_NS else aPTP_TIME1_NS) = false →
    (∀ x ∈ s.latches, x.1 ≠ (if n = 0 then aPTP_TIME0_NS else aPTP_TIME1_NS)) →
    Runs (.timeNsRead n lvl) s fun t => lastStatus t = 0 ∧
      (let c := if n = 0 then s.ptp.t0 else s.ptp.t1
       let a := if n = 0 then aPTP_TIME0_NS else aPTP_TIME1_NS
       alGet 0 t.latches (a + 4) = w32 (ctrSec c) ∧ alGet 0 t.latches (a + 8) = w32 (ctrSec c / 2 ^ 32) ∧
         alGet 0 t.latches (a + 12) = w32 (ctrFrac c)) ∧ KeepsBut [.regs, .latches] s t ∧
      RegsOnly [aHOSTIF_LASTERR, aHOSTIF_LASTADDR] s t) ∧
  (∀ (s : State) (addr : Nat) (lvl : Fin 4), Canonical s → Live s →
    Runs (.strobeConflict addr lvl) s fun t => lastStatus t = 8 ∧ rget t aHOSTIF_LASTADDR = w32 (busAddr addr) ∧
      rget t aHOSTIF_ERR_CNT = rget s aHOSTIF_ERR_CNT + 1 ∧ KeepsBut [.regs, .freeCtr] s t ∧ RegsBut [pgHOSTIF] s t) ∧
  (∀ (s : State) (addr : Nat) (lvl : Fin 4) (write : Bool), Canonical s → Live s → (write = true ∨ ¬ busAddr addr < 0x4000) →
    Runs (.hostAccessTimeout addr lvl write) s fun t => rget t aHOSTIF_LASTADDR = w32 (busAddr addr) ∧
      rget t aHOSTIF_ERR_CNT = rget s aHOSTIF_ERR_CNT + 1 ∧ KeepsBut [.regs] s t ∧
      (let g := accessGate s lvl.val (busAddr addr) write 0xF#4
       if g = 0 then lastStatus t = 7 ∧ RegsBut [pgHOSTIF] s t
       else lastStatus t = g ∧ RegsBut [pgHOSTIF, pgMATRIX, pgPROT, pgINTC] s t)) ∧
  (∀ (s : State) (p : Fin 16) (addr : Nat) (lvl : Fin 4) (write : Bool), Canonical s → Live s →
    pressMemAt (busAddr addr) = some p → accessGate s lvl.val (busAddr addr) write 0xF#4 = 0 →
    Runs (.pressHostTimeout p addr lvl write) s fun t => rget t aHOSTIF_ERR_CNT = rget s aHOSTIF_ERR_CNT + 1 ∧
      refusedWith 6 (pgPRESS p) (busAddr addr) s t)

/-- A served write of RANGE[k].PERM at level 0 applies the staged BASE and LIMIT with the written permissions as one
entry; below level 0 it applies nothing, with status 3 (RWP) if it would have changed the word. A snapshot on 400 MHz
FABRIC with frames ticking and HOLD clear (under shed step 1, at a block boundary) shows the new sequence in both
sequence words, the frame count, the device word and the tickets, and counts in SNAP_CNT; on the fallback only the
fallback snapshot does; otherwise nothing is written. A write of HOLD stores it and, when it sets HOLD, starts the
count of boundaries at 0; HOLD_MAX boundaries (0 acts as 1) later HOLD clears itself and HOLD_EXP is set. -/
def Obligations.ProtectionAndProofWindow : Prop :=
  (∀ (s : State) (k : Fin 16) (w : HW), Canonical s → Allowed s (aPROT_RANGE_PERM k) w →
    Runs (.rangePermWrite k w) s fun t =>
      (∀ j, j ≠ k.val → t.host.ranges[j]? = s.host.ranges[j]?) ∧ KeepsBut [.regs, .host] s t ∧ t.host.proof = s.host.proof ∧
      (w.lvl = 0 → lastStatus t = 0 ∧ (s.host.ranges.length = 16 → t.host.ranges[k.val]? =
          some ⟨bit w.v 31, rfld s (aPROT_RANGE_BASE k) 24 2, rfld s (aPROT_RANGE_LIMIT k) 24 2, w.v.extractLsb' 0 8⟩) ∧
        RegsOnly [aPROT_RANGE_PERM k, aHOSTIF_LASTERR, aHOSTIF_LASTADDR] s t) ∧
      (w.lvl ≠ 0 → t.host = s.host ∧ lastStatus t = (if rwpKept s w.lvl.val (aPROT_RANGE_PERM k) w.v then 3 else 0) ∧
        rget t (aPROT_RANGE_PERM k) = heldReg s (aPROT_RANGE_PERM k))) ∧
  (∀ s : State, Canonical s → Live s →
    Runs .proofSnapshot s fun t =>
      if s.clk.fabFb = false ∧ s.tb.ticking = true ∧ rbit s aHOSTIF_PROOF 31 = false ∧ (s.shed = 0 ∨ isBlock s s.tb.frame = true) then
        snapshotTaken s t ∧ KeepsBut [.regs, .host] s t ∧ RegsOnly [aHOSTIF_SNAP_CNT] s t
      else t = s) ∧
  (∀ s : State, Canonical s → Live s →
    Runs .fallbackSnapshot s fun t =>
      if s.clk.fabFb = true ∧ rbit s aHOSTIF_PROOF 31 = false then
        snapshotTaken s t ∧ (∀ a, 0x18 < a → a ≠ 0x3F00 → proofWord t a = proofWord s a) ∧ KeepsBut [.regs, .host] s t ∧
          RegsOnly [aHOSTIF_SNAP_CNT] s t
      else t = s) ∧
  (∀ (s : State) (w : HW), Canonical s → Accepted s aHOSTIF_PROOF w →
    Runs (.proofHold w) s fun t => lastStatus t = 0 ∧ rbit t aHOSTIF_PROOF 31 = bit w.v 31 ∧
      rfld t aHOSTIF_PROOF 7 0 = bits w.v 7 0 ∧
      (if bit w.v 31 = true ∧ bit (heldReg s aHOSTIF_PROOF) 31 = false then t.host = { s.host with holdCnt := 0 } else t.host = s.host) ∧
      KeepsBut [.regs, .host] s t ∧ RegsOnly [aHOSTIF_PROOF, aHOSTIF_LASTERR, aHOSTIF_LASTADDR] s t) ∧
  (∀ s : State, Canonical s → Live s →
    Runs .proofHoldExpire s fun t =>
      if rbit s aHOSTIF_PROOF 31 = true ∧ zeroIs1 (rfld s aHOSTIF_PROOF 7 0) ≤ s.host.holdCnt then
        rbit t aHOSTIF_PROOF 31 = false ∧ rbit t (aISTAT pgHOSTIF) 1 = true ∧
          rfld t aHOSTIF_PROOF 7 0 = rfld s aHOSTIF_PROOF 7 0 ∧ KeepsBut [.regs] s t ∧ RegsOnly [aHOSTIF_PROOF, aISTAT pgHOSTIF] s t
      else t = s)

/-! ### Frame tick, Galley, Compositor -/

/-- The slot of the next ring entry is read with its codes: the state after the read, and whether a word was uncorrectable. -/
def slotRead (t : Nat) (s : State) : State × Bool := slotCheck (rfld s aGALLEY_CONS 15 0) (advance t s)

/-- The state in which the next ring entry is checked: time has come to `t`, and CONS has passed the entry. -/
def afterTake (t : Nat) (s : State) : State :=
  let s0 := (slotRead t s).1
  rput aGALLEY_CONS 15 0 ((rfld s aGALLEY_CONS 15 0 + 1) % 65536) (setGalley { s0.galley with subs := s0.galley.subs.drop 1 } s0)

/-- The checks of the next ring entry, at the level of its PROD write. -/
def nextCheck (t : Nat) (s : State) : Nat × Word × Option Ev :=
  let s0 := (slotRead t s).1
  galleyCheck (afterTake t s) (s0.galley.subs.headD (3, s0.now)).1.val (slotEntry s0 (rfld s aGALLEY_CONS 15 0)) (afterTake t s).now

/-- A ring entry waits, and the Galley can take it. -/
def entryWaits (s : State) : Prop :=
  Live s ∧ galleyRuns s = true ∧ rfld s aGALLEY_CONS 15 0 ≠ rfld s aGALLEY_PROD 15 0

/-- The entry at the head of the released list is this one, and no held entry or slot wait comes before it (R127). -/
def actsNext (s : State) (e : Ev) (rest : List Ev) : Prop :=
  Live s ∧ heldTurn s = false ∧ s.comp.landing = e :: rest

/-- No AFTER entry waits for the ticket. -/
def noneWaits (t : Word) (s : State) : Prop := ∀ x ∈ s.comp.queue, waitsFor t x = false

/-- Where the next completion record is written (R98). -/
def recordAt (s : State) : Nat := compRing + 16 * ((rget s aGALLEY_CPROD).toNat % 4096)

/-- The entry completed on frame `s.tb.frame` with this outcome: its record stands in the ring, and no other byte of memory changed. -/
def completed (e : Ev) (out : Nat) (s u : State) : Prop :=
  u.comp.done = (⟨e.ticket, e.e.opcode, e.e.client, out, s.tb.frame⟩ :: s.comp.done).take 4096 ∧
    rget u aGALLEY_TICKET_DONE = e.ticket ∧ rget u aGALLEY_CPROD = rget s aGALLEY_CPROD + 1 ∧ rdWord u (recordAt s) = e.ticket ∧
    ∀ a, ¬ (recordAt s ≤ a ∧ a < recordAt s + 16) → rdByte u a = rdByte s a

/-- The enabled bytes of the word at `a` hold those of `v`; every other byte of memory is as before. -/
def bytesStored (a : Nat) (be : BitVec 4) (v : Word) (s t : State) : Prop :=
  (∀ j, j < 4 → rdByte t (a + j) = if be.getLsbD j then v.extractLsb' (8 * j) 8 else rdByte s (a + j)) ∧
    ∀ b, ¬ (a ≤ b ∧ b < a + 4) → rdByte t b = rdByte s b

/-- With PLL-M locked and no rate change holding the ticks, a frame tick starts the next frame: the MEDIA count goes up by
one. While CORE is gated that is all it does beside time and the pulse outputs: Galley, Compositor, Basin, Presses,
registers and memory stay (R324). While PLL-M is not locked, or a rate change holds the ticks, no frame starts; only
time goes on, and the preload entries of a start-up go in if they wait. -/
def Obligations.FrameTickStartsTheNextFrame : Prop :=
  (∀ (s : State) (t : Nat) (x : FrameIn), Live s → s.clk.lockM = true → tickHeld s = false →
    Runs (.frameTick t x) s fun u => u.tb.frame = s.tb.frame + 1 ∧
      (s.clk.coreGated = true → KeepsBut [.now, .tb, .clk, .ptp, .host] s u)) ∧
  (∀ (s : State) (t : Nat) (x : FrameIn), Live s → s.clk.lockM = false ∨ tickHeld s = true →
    Runs (.frameTick t x) s fun u => u.tb.frame = s.tb.frame ∧ (s.boot.preload = [] → KeepsBut [.now, .ptp] s u))

/-- An accepted PROD write stores PROD and submits the entries up to it at the level of the write. A host write to a slot
outside [RESP, PROD), with any byte enables, stores the enabled bytes and changes no other byte of memory; a partial
write that meets an uncorrectable word ends with status UE (6) and no store; a write to a slot inside, or to the
response and completion rings, is refused with code 2 and memory stays. CLIENT_RST at level 0 clears SYNCED of the
clients named and leaves the others. -/
def Obligations.GalleyRingWrites : Prop :=
  (∀ (s : State) (w : HW), Canonical s → Accepted s aGALLEY_PROD w →
    Runs (.galleyProd w) s fun t => lastStatus t = 0 ∧ rfld t aGALLEY_PROD 15 0 = bits w.v 15 0 ∧
      t.galley.subs = s.galley.subs ++
        List.replicate ((bits w.v 15 0 + 65536 - bits (heldReg s aGALLEY_PROD) 15 0) % 65536) (w.lvl, s.now) ∧
      KeepsBut [.regs, .galley] s t ∧ RegsOnly [aGALLEY_PROD, aHOSTIF_LASTERR, aHOSTIF_LASTADDR] s t) ∧
  (∀ (s : State) (x : HostAcc), Canonical s → Served s (busAddr x.addr) ⟨x.lvl, x.be, x.v⟩ →
    0x300000 ≤ busAddr x.addr → busAddr x.addr < 0x320000 → bank2Refused s (busAddr x.addr) = false →
    (x.be = 0xF#4 ∨ flipsAt s (busAddr x.addr) = 0 →
      Runs (.galleySlotWrite x) s fun t => lastStatus t = 0 ∧ bytesStored (busAddr x.addr) x.be x.v s t ∧
        KeepsBut [.regs, .mem, .fab] s t ∧ RegsBut [pgHOSTIF, pgECC] s t) ∧
    (x.be ≠ 0xF#4 → ueAt s (busAddr x.addr) = true →
      Runs (.galleySlotWrite x) s fun t => lastStatus t = 6 ∧ t.mem = s.mem)) ∧
  (∀ (s : State) (x : HostAcc), Canonical s → Served s (busAddr x.addr) ⟨x.lvl, x.be, x.v⟩ →
    0x300000 ≤ busAddr x.addr → busAddr x.addr < 0x380000 → bank2Refused s (busAddr x.addr) = true →
    Runs (.galleySlotWrite x) s fun t => refusedWith 2 pgGALLEY (busAddr x.addr) s t) ∧
  (∀ (s : State) (w : HW), Canonical s → Accepted s aGALLEY_CLIENT_RST w →
    Runs (.clientRst w) s fun t => lastStatus t = 0 ∧ t.galley.clients.length = s.galley.clients.length ∧
      (∀ c, c < 16 → c < s.galley.clients.length →
        (bit w.v c = true → (t.galley.clients[c]?.map (·.synced)) = some false) ∧
        (bit w.v c = false → t.galley.clients[c]? = s.galley.clients[c]?)) ∧ KeepsBut [.regs, .galley, .twin] s t)

/-- When the Galley runs and CONS differs from PROD, the check takes one entry (CONS goes up by one, modulo 2^16), unless
its slot holds an uncorrectable word: then, without a STANDBY_HOT partner, the Galley is lost. A refused entry is
answered (RESP passes it, REF_CNT counts it), or waits behind the entries in flight; no ticket is used and nothing
becomes pending. An accepted one takes the next ticket: on a device that does not replicate it is answered, counts in
ACC_CNT and waits in the Compositor, an IMM CANCEL acting and completing at once; on an ACTIVE with a replicating
standby it waits for the acknowledgement. -/
def Obligations.EntryCheckAcceptsOrRefuses : Prop :=
  (∀ (s : State) (t : Nat), Canonical s → entryWaits s → (slotRead t s).2 = false →
    Runs (.entryCheck t) s fun u => rfld u aGALLEY_CONS 15 0 = (rfld s aGALLEY_CONS 15 0 + 1) % 65536) ∧
  (∀ (s : State) (t : Nat), Live s → ¬ entryWaits s → Runs (.entryCheck t) s fun u => u = advance t s) ∧
  (∀ (s : State) (t : Nat), Canonical s → entryWaits s → (slotRead t s).2 = true →
    Runs (.entryCheck t) s fun u => rget u aGALLEY_CONS = rget s aGALLEY_CONS ∧ (partnerHot s = false → u.galley.lost = true)) ∧
  (∀ (s : State) (t : Nat), Canonical s → entryWaits s → s.fab.flips = [] → (nextCheck t s).2.2 = none →
    Runs (.entryCheck t) s fun u => rget u aGALLEY_TICKET_LAST = rget s aGALLEY_TICKET_LAST ∧ u.comp = s.comp ∧
      (if s.galley.inflight = [] then
        rfld u aGALLEY_RESP 15 0 = (rfld s aGALLEY_CONS 15 0 + 1) % 65536 ∧
          rget u aGALLEY_REF_CNT = rget s aGALLEY_REF_CNT + 1 ∧ u.galley.inflight = []
      else rget u aGALLEY_RESP = rget s aGALLEY_RESP ∧ u.galley.inflight.length = s.galley.inflight.length + 1)) ∧
  (∀ (s : State) (t : Nat) (ev : Ev), Canonical s → entryWaits s → s.fab.flips = [] → replicates s = false →
    (nextCheck t s).2.2 = some ev →
    Runs (.entryCheck t) s fun u =>
      rfld u aGALLEY_RESP 15 0 = (rfld s aGALLEY_CONS 15 0 + 1) % 65536 ∧
      rget u aGALLEY_ACC_CNT = rget s aGALLEY_ACC_CNT + 1 ∧
      rget u aGALLEY_TICKET_LAST = laterTicket (rget s aGALLEY_TICKET_LAST) (nextTicket s) ∧
      (ev.e.opcode = opCancel → ev.e.axis = 0 → noneWaits ev.ticket s → noneWaits (ev.payload.getD 0 0) s →
        match findEv (ev.payload.getD 0 0) s.comp.queue with
        | some x => u.comp.queue = dropEv (ev.payload.getD 0 0) s.comp.queue ∧
            u.comp.done = (⟨ev.ticket, opCancel, ev.e.client, outOnTime, s.tb.frame⟩ ::
              ⟨x.ticket, x.e.opcode, x.e.client, outCancelled, s.tb.frame⟩ :: s.comp.done).take 4096
        | none => u.comp.queue = s.comp.queue ∧
            u.comp.done = (⟨ev.ticket, opCancel, ev.e.client, outTooLate, s.tb.frame⟩ :: s.comp.done).take 4096) ∧
      (¬ (ev.e.opcode = opCancel ∧ ev.e.axis = 0) → u.comp.queue = s.comp.queue ++ [ev])) ∧
  (∀ (s : State) (t : Nat) (ev : Ev), Canonical s → entryWaits s → s.fab.flips = [] → replicates s = true →
    (nextCheck t s).2.2 = some ev →
    Runs (.entryCheck t) s fun u =>
      rget u aGALLEY_TICKET_LAST = laterTicket (rget s aGALLEY_TICKET_LAST) (nextTicket s) ∧ u.comp = s.comp ∧
      u.galley.inflight.length = s.galley.inflight.length + 1 ∧ rget u aGALLEY_RESP = rget s aGALLEY_RESP)

/-- The acknowledgement of the oldest entry in flight completes its acceptance: it leaves the flight with the refusals
right behind it, its event becomes pending (an IMM CANCEL acts at once), and a ring entry is answered in its response
slot with its ticket. An acknowledgement that names another ticket changes nothing but time. When 2 µs pass without an
acknowledgement, an ACTIVE device empties the flight under the solo guarantee, with ISTAT bit 4, and the partner
counts as lost. -/
def Obligations.ReplicationCompletesAcceptance : Prop :=
  (∀ (s : State) (x : Taken) (rest : List Taken) (ev : Ev) (t : Nat), Canonical s → Live s → s.galley.inflight = x :: rest →
    x.ev = some ev → x.act = none → (∀ y, rest.head? = some y → y.ev.isSome = true) →
    Runs (.replAck ev.ticket t) s fun u => rfld u aGALLEY_RESP 15 0 = (x.count + 1) % 65536 ∧
      rdWord u (respRing + 8 * (x.count % 4096)) = x.ticket) ∧
  (∀ (s : State) (x : Taken) (rest : List Taken) (ev : Ev) (t : Nat), Canonical s → Live s → s.galley.inflight = x :: rest →
    x.ev = some ev → s.sense.retries = [] →
    Runs (.replAck ev.ticket t) s fun u => u.galley.inflight.length = (rest.dropWhile fun y => y.ev.isNone).length ∧
      (¬ (ev.e.opcode = opCancel ∧ ev.e.axis = 0) → u.comp.queue = s.comp.queue ++ [ev]) ∧
      (x.status = 0 → (∀ y ∈ rest, y.ev = none → y.status ≠ 0) → rget u aGALLEY_ACC_CNT = rget s aGALLEY_ACC_CNT + 1)) ∧
  (∀ (s : State) (x : Taken) (ev : Ev) (rest : List Taken) (ticket : Word) (t : Nat), Live s → s.galley.inflight = x :: rest →
    x.ev = some ev → ticket ≠ ev.ticket → s.sense.retries = [] →
    Runs (.replAck ticket t) s fun u => KeepsBut [.now, .ptp] s u) ∧
  (∀ (s : State) (x : Taken) (rest : List Taken) (t : Nat), Canonical s → Live s → isActive s = true →
    s.galley.inflight = x :: rest → x.ev.isSome = true → x.t + 2000000 ≤ max s.now t →
    Runs (.replTimeout t) s fun u => u.galley.inflight = [] ∧ rbit u (aISTAT pgGALLEY) 4 = true ∧ u.twin.pstate = 0xF ∧
      (s.sense.retries = [] → x.act = none → (rest = [] →
        rfld u aGALLEY_RESP 15 0 = (x.count + 1) % 65536))) ∧
  (∀ (s : State) (t : Nat), Canonical s → Live s → s.sense.retries = [] →
    (∀ x, s.galley.inflight.head? = some x → isActive s = false ∨ x.ev = none ∨ max s.now t < x.t + 2000000) →
    Runs (.replTimeout t) s fun u => KeepsBut [.now, .ptp] s u)

/-- The ticket and the opcode that a landing command names. -/
def landsAs (c : Instr) : Option (Word × Nat) :=
  match c with
  | .writeParam t => some (t, opWriteParam)
  | .recallForme t => some (t, opRecall)
  | .sluiceRoute t => some (t, opSluice)
  | .play t => some (t, opPlay)
  | .stopPlay t => some (t, opStopPlay)
  | .recordSeg t => some (t, opRecord)
  | .setGainZc t => some (t, opSetGainZc)
  | .pressMsg t => some (t, opPressMsg)
  | .mark t => some (t, opMark)
  | .cancel t => some (t, opCancel)
  | _ => none

/-- A released MARK leaves the released list and completes on the present frame with its outcome (ON_TIME, LATE or PASSED
by its due frame); a released CANCEL likewise, with the outcome that its selection gave it: a record in the completion
ring, TICKET_DONE and the list of completions name it, and where no AFTER entry waits for it nothing else changes but
the Galley and Compositor registers. A class C event that is deferred by more than CDROP frames leaves the queue,
counts in DROP_CNT and, where no AFTER entry waits for it, completes DROPPED. A landing command whose entry is not the
first one released, or that comes before a held entry, and a drop that is not due, change nothing. -/
def Obligations.ReleasedEntriesComplete : Prop :=
  (∀ (s : State) (e : Ev) (rest : List Ev), Canonical s → actsNext s e rest → e.e.opcode = opMark →
    Runs (.mark e.ticket) s fun u => u.comp.landing = rest ∧
      (noneWaits e.ticket s → completed e (outcomeOf e s.tb.frame).1 s u ∧
        KeepsBut [.regs, .mem, .fab, .comp, .galley] s u ∧ u.comp.queue = s.comp.queue ∧
        RegsBut [pgGALLEY, pgCOMPOSITOR, pgECC] s u)) ∧
  (∀ (s : State) (e : Ev) (rest : List Ev), Canonical s → actsNext s e rest → e.e.opcode = opCancel →
    Runs (.cancel e.ticket) s fun u => u.comp.landing = rest ∧
      (noneWaits e.ticket s → completed e (outcomeOf e s.tb.frame).1 s u ∧
        KeepsBut [.regs, .mem, .fab, .comp, .galley] s u ∧ u.comp.queue = s.comp.queue ∧
        RegsBut [pgGALLEY, pgCOMPOSITOR, pgECC] s u)) ∧
  (∀ (s : State) (e : Ev) (ticket : Word), Canonical s → Live s → findEv ticket s.comp.queue = some e →
    dropDue s (s.tb.frame + 1) e = true →
    Runs (.classCDrop ticket) s fun u => findEv ticket u.comp.queue = none ∧
      rget u aCOMPOSITOR_DROP_CNT = rget s aCOMPOSITOR_DROP_CNT + 1 ∧
      (noneWaits ticket s → completed e outDropped s u ∧ u.comp.queue = dropEv ticket s.comp.queue ∧
        KeepsBut [.regs, .mem, .fab, .comp, .galley] s u ∧ RegsBut [pgGALLEY, pgCOMPOSITOR, pgECC] s u)) ∧
  (∀ (s : State) (ticket : Word), Live s → (∀ e, findEv ticket s.comp.queue = some e → dropDue s (s.tb.frame + 1) e = false) →
    Runs (.classCDrop ticket) s fun u => u = s) ∧
  (∀ (s : State) (c : Instr) (ticket : Word) (op : Nat), Live s → landsAs c = some (ticket, op) →
    heldTurn s = true ∨ (∀ e, s.comp.landing.head? = some e → e.ticket ≠ ticket ∨ e.e.opcode ≠ op) →
    Runs c s fun u => u = s) ∧
  (∀ (s : State) (ticket : Word), Live s → (∀ e, heldFirst s = some e → e.ticket ≠ ticket ∨ (waitFirst s (some e)).isSome = true) →
    Runs (.heldEntryAct ticket) s fun u => u = s)

/-- A released WRITE_PARAM leaves the released list. If any pair addresses the locked shadow Forme, no byte of memory
changes and the whole entry is held, counted in WAIT_CNT. Otherwise it acts: a pair that names a register whose write
only stores, and that no rule refuses, writes it as a level-0 write would; a pair that names a word of the unlocked
shadow Forme stores it. (Registers that act, and words of the live Forme, have their effects in the statements of
their chapters.) -/
def Obligations.WriteParamActsOnItsLandingFrame : Prop :=
  (∀ (s : State) (e : Ev) (rest : List Ev), Canonical s → actsNext s e rest → e.e.opcode = opWriteParam →
    (pairsOf e.payload).any (onLockedShadow s) = true →
    Runs (.writeParam e.ticket) s fun u => u.mem = s.mem ∧ u.comp.landing = rest ∧
      u.comp.held = s.comp.held ++ [{ e with land := s.tb.frame }] ∧ rget u aBASIN_WAIT_CNT = rget s aBASIN_WAIT_CNT + 1 ∧
      KeepsBut [.regs, .comp] s u ∧ RegsBut [pgBASIN] s u) ∧
  (∀ (s : State) (e : Ev) (rest : List Ev), Canonical s → actsNext s e rest → e.e.opcode = opWriteParam →
    (∀ x ∈ pairsOf e.payload, paramTarget x.1 = true) → (pairsOf e.payload).any (onLockedShadow s) = false →
    Runs (.writeParam e.ticket) s fun u => u.comp.landing = rest) ∧
  (∀ (s : State) (e : Ev) (rest : List Ev) (a : Nat) (v : Word) (d : RegDef), Canonical s → actsNext s e rest →
    e.e.opcode = opWriteParam → pairsOf e.payload = [(a, v)] → regAt a = some d → paramTarget a = true →
    actingReg (pageOf a) (offOf a) = false → offOf a ∉ [0x8, 0x18, 0x1C] →
    blockRefuse s false 0 a (rget s a) (newWord d (pageOf a) 0 (rget s a) v) v = none →
    Runs (.writeParam e.ticket) s fun u => rget u a = newWord d (pageOf a) 0 (rget s a) v ∧ u.comp.landing = rest ∧
      (findEv e.ticket s.comp.running = none → noneWaits e.ticket s → u.comp.running = s.comp.running ∧
        completed e (outcomeOf e s.tb.frame).1 s u ∧ KeepsBut [.regs, .mem, .fab, .comp, .galley] s u ∧
        ∀ b, b ≠ a → pageOf b ∉ [pgGALLEY, pgCOMPOSITOR, pgECC] → rget u b = rget s b)) ∧
  (∀ (s : State) (e : Ev) (rest : List Ev) (a : Nat) (v : Word), Canonical s → actsNext s e rest →
    e.e.opcode = opWriteParam → pairsOf e.payload = [(a, v)] → 0x1000000 ≤ a → a % 4 = 0 → paramTarget a = true →
    decide (0x1400000 ≤ a) = (!s.basin.liveB) → s.basin.lock = false →
    Runs (.writeParam e.ticket) s fun u => rdWord u a = v ∧ u.comp.landing = rest ∧
      (findEv e.ticket s.comp.running = none → noneWaits e.ticket s → u.comp.running = s.comp.running ∧
        rget u aGALLEY_TICKET_DONE = e.ticket ∧ KeepsBut [.regs, .mem, .fab, .comp, .galley] s u ∧
        RegsBut [pgGALLEY, pgCOMPOSITOR, pgECC] s u ∧
        ∀ b, ¬ (a ≤ b ∧ b < a + 4) → ¬ (recordAt s ≤ b ∧ b < recordAt s + 16) → rdByte u b = rdByte s b))

/-! ### The position and counter axes -/

/-- The events on the axis pins. -/
def axisPinEvent (c : Instr) : Bool :=
  match c with
  | .tachPulse .. | .tachQuietRelease .. | .tachStuck .. | .standstill .. | .cntEdge .. | .cntQuietRelease .. | .cntStuck .. => true
  | .corrDone | .tachBEdge .. | .cntInLow .. => true
  | _ => false

/-- An edge at TACH_A passes the glitch filter and changes the pin's level, in a tach mode (R54). -/
def edgeAtA (s : State) (x : PinEdge) : Prop :=
  Live s ∧ passesGlitch (tachGlitch s) x = true ∧ x.level = (!s.tb.levelA) ∧ tachMode s ≠ 0

/-- The position from which counting goes on at an edge of TACH_A: an estimate that stood for a stuck TACH_A ends there (R61). -/
def posBefore (s : State) (x : PinEdge) : Int :=
  if s.tb.stuckA = true ∧ s.tb.chatter = false ∧ s.tb.est.isSome = true then posAt s.tb x.t else s.tb.pos

/-- The direction that a pulse shows: the recognised one while TACH_B is stuck (R54, R61). -/
def shownReverse (s : State) (b : Bool) : Bool := if s.tb.stuckB then s.tb.reverse else pulseReverse s b

/-- The signed distance of a pulse in direction `rev`. -/
def pulseStep (s : State) (rev : Bool) : Int := if rev then -(s.tb.dpp : Int) else s.tb.dpp

/-- The edge is one that EDGE selects (R53). -/
def cntSelected (s : State) (x : PinEdge) : Bool :=
  match cntEdgeSel s with | 1 => x.level | 2 => !x.level | 3 => true | _ => false

/-- A rising edge of TACH_A that the glitch filter passes, with the rate in bounds, counts in PULSES. In the recognised
direction it moves the position by one pulse distance, or takes back one held pulse; against it, it is held, and when
the held pulses reach REV_PULSES the direction reverses, REVERSED is set and the position moves by all of them. A
pulse that brings the rate above MAXRATE latches chatter and is not counted, nor is one while chatter is latched. A
falling edge is activity that releases STUCK_A. A glitch, or an edge in mode off, moves nothing. -/
def Obligations.TachPulseMovesThePosition : Prop :=
  (∀ (s : State) (x : PinEdge) (b : Bool), Canonical s → edgeAtA s x → x.level = true → s.tb.chatter = false →
    (pulseWindow x.t s.tb).length * 1000 ≤ maxRate s →
    Runs (.tachPulse x b) s fun u => rget u aTIMEBASE_PULSES = rget s aTIMEBASE_PULSES + 1 ∧ u.tb.chatter = false ∧
      u.tb.stuckA = false ∧
      (if shownReverse s b = s.tb.reverse then
        u.tb.reverse = s.tb.reverse ∧ u.tb.held = s.tb.held.tail ∧
          u.tb.pos = posBefore s x + (if s.tb.held = [] then pulseStep s s.tb.reverse else 0)
      else if s.tb.held.length + 1 < revPulses s then
        u.tb.reverse = s.tb.reverse ∧ u.tb.held = x.t :: s.tb.held ∧ u.tb.pos = posBefore s x
      else u.tb.reverse = (!s.tb.reverse) ∧ u.tb.held = [] ∧ rbit u (aISTAT pgTIMEBASE) 0 = true ∧
        u.tb.pos = posBefore s x + pulseStep s (!s.tb.reverse) * (s.tb.held.length + 1 : Nat))) ∧
  (∀ (s : State) (x : PinEdge) (b : Bool), Canonical s → edgeAtA s x → x.level = true → s.tb.chatter = false →
    maxRate s < (pulseWindow x.t s.tb).length * 1000 →
    Runs (.tachPulse x b) s fun u => u.tb.chatter = true ∧ u.tb.pos = posBefore s x ∧ u.tb.est.isSome = true ∧
      rget u aTIMEBASE_PULSES = rget s aTIMEBASE_PULSES ∧ rbit u (aISTAT pgTIMEBASE) 2 = true) ∧
  (∀ (s : State) (x : PinEdge) (b : Bool), Canonical s → edgeAtA s x → x.level = true → s.tb.chatter = true →
    Runs (.tachPulse x b) s fun u => u.tb.chatter = true ∧ u.tb.pos = s.tb.pos ∧ u.tb.est = s.tb.est ∧ u.tb.lastA = x.t ∧
      rget u aTIMEBASE_PULSES = rget s aTIMEBASE_PULSES) ∧
  (∀ (s : State) (x : PinEdge) (b : Bool), Canonical s → edgeAtA s x → x.level = false →
    Runs (.tachPulse x b) s fun u => u.tb.lastA = x.t ∧ u.tb.levelA = false ∧ u.tb.stuckA = false ∧ u.tb.pos = posBefore s x ∧
      rget u aTIMEBASE_PULSES = rget s aTIMEBASE_PULSES ∧ (s.tb.stuckA = true → rbit u (aISTAT pgTIMEBASE) 1 = true)) ∧
  (∀ (s : State) (x : PinEdge) (b : Bool), Live s → passesGlitch (tachGlitch s) x = false ∨ x.level = s.tb.levelA →
    Runs (.tachPulse x b) s fun u => KeepsBut [.now, .ptp] s u) ∧
  (∀ (s : State) (x : PinEdge) (b : Bool), Live s → tachMode s = 0 →
    Runs (.tachPulse x b) s fun u => KeepsBut [.now, .ptp, .tb] s u ∧ u.tb = { s.tb with levelA := u.tb.levelA })

/-- A TACH_B edge that passes the filter releases STUCK_B and is the pin's last edge. Chatter releases after QUIET ms
below MAXRATE. In quadrature a pin without an edge for STUCK ms, while the other had continuing edges, is latched
stuck; TACH_A stuck starts the estimated advance. No edge for STANDSTILL ms makes the speed 0 and ends the estimate. A
selected CNT_IN edge within the limit counts modulo 2^32, one above it latches chatter, an edge that is not selected
does not count; chatter and stuck release as the rule says. When the pending correction has drained to 0, CORR_DONE is
set. -/
def Obligations.AxisPinEvents : Prop :=
  (∀ (s : State) (x : PinEdge), Canonical s → Live s → passesGlitch (tachGlitch s) x = true → x.level = (!s.tb.levelB) →
    Runs (.tachBEdge ⟨x.t, x.phase⟩ x.level) s fun u => u.tb.stuckB = false ∧ u.tb.lastB = x.t ∧ u.tb.levelB = x.level ∧ u.tb.pos = s.tb.pos ∧
      (s.tb.stuckB = true → rbit u (aISTAT pgTIMEBASE) 1 = true)) ∧
  (∀ (s : State) (t : Nat), Canonical s → Live s → s.tb.chatter = true → s.tb.overT + tachQuiet s ≤ t →
    Runs (.tachQuietRelease t) s fun u => u.tb.chatter = false ∧ rbit u (aISTAT pgTIMEBASE) 1 = true ∧
      (s.tb.stuckA = false → u.tb.est = none)) ∧
  (∀ (s : State) (t u0 : Nat), Canonical s → Live s → s.tb.aloneA = some u0 → tachMode s = 1 → u0 + tachStuckT s ≤ t →
    u0 < s.tb.lastA → s.tb.stuckB = false →
    Runs (.tachStuck t true) s fun u => u.tb.stuckB = true ∧ rbit u (aISTAT pgTIMEBASE) 2 = true ∧ u.tb.pos = s.tb.pos) ∧
  (∀ (s : State) (t u0 : Nat), Canonical s → Live s → s.tb.aloneB = some u0 → tachMode s = 1 → u0 + tachStuckT s ≤ t →
    u0 < s.tb.lastB → s.tb.stuckA = false →
    Runs (.tachStuck t false) s fun u => u.tb.stuckA = true ∧ rbit u (aISTAT pgTIMEBASE) 2 = true ∧ u.tb.est.isSome = true) ∧
  (∀ (s : State) (t : Nat), Live s →
    max s.tb.lastA s.tb.lastB + standstillT s ≤ t ∨ (s.tb.est = none ∧ s.tb.lastPulse + standstillT s ≤ t) →
    Runs (.standstill t) s fun u => u.tb.spdNum = 0 ∧ moving u.tb = false ∧ u.tb.est = none) ∧
  (∀ (s : State) (x : PinEdge), Canonical s → Live s → passesGlitch (cntGlitch s) x = true → x.level = (!s.tb.cntLevel) →
    Runs (.cntEdge ⟨x.t, x.phase⟩ x.level) s fun u => u.tb.cntLevel = x.level ∧ u.tb.cntHigh = (if x.level then some x.t else none) ∧
      (x.level = false → u.tb.cntStuck = false) ∧
      (let n := (s.tb.cntRecent.filter fun u => decide (x.t < u + 10 * msPs)).length * 100 + 100
       let above := decide (rfld s aTIMEBASE_CNT_LIMIT 17 0 < n)
       u.tb.cnt = (if cntSelected s x && !s.tb.cntChatter && !above then (s.tb.cnt + 1) % 2 ^ 32 else s.tb.cnt) ∧
       u.tb.cntChatter = (s.tb.cntChatter || (cntSelected s x && above)))) ∧
  (∀ (s : State) (t : Nat), Canonical s → Live s → s.tb.cntChatter = true →
    s.tb.cntEdgeT + rfld s aTIMEBASE_CNT_TIMERS 15 0 * msPs ≤ t →
    Runs (.cntQuietRelease t) s fun u => u.tb.cntChatter = false ∧ rbit u (aISTAT pgTIMEBASE) 1 = true ∧ u.tb.cnt = s.tb.cnt) ∧
  (∀ (s : State) (t u0 : Nat), Canonical s → Live s → s.tb.cntHigh = some u0 → cntEdgeSel s ≠ 0 → s.tb.cntStuck = false →
    u0 + rfld s aTIMEBASE_CNT_TIMERS 31 16 * msPs ≤ t →
    Runs (.cntStuck t) s fun u => u.tb.cntStuck = true ∧ rbit u (aISTAT pgTIMEBASE) 3 = true ∧ u.tb.cnt = s.tb.cnt) ∧
  (∀ (s : State) (t phase : Nat), Canonical s → Live s → passesGlitch (cntGlitch s) ⟨t, false, phase⟩ = true →
    Runs (.cntInLow ⟨t, phase⟩) s fun u => u.tb.cntStuck = false ∧ u.tb.cntHigh = none ∧ u.tb.cnt = s.tb.cnt ∧
      (s.tb.cntStuck = true → rbit u (aISTAT pgTIMEBASE) 1 = true)) ∧
  (∀ s : State, Canonical s → Live s → s.tb.corrFin = true → s.tb.pend = 0 →
    Runs .corrDone s fun u => u.tb.corrFin = false ∧ rbit u (aISTAT pgTIMEBASE) 5 = true)

/-- An accepted write of CORR_HI adds the signed 48-bit correction of CORR_HI:CORR_LO, in mm, to the pending correction,
unless the sum would exceed CORR_LIMIT: then the correction is discarded, with ERRCAP code 2 and the fault bit. An
accepted write of POS_LOAD_HI gives the signed 48-bit position that takes effect at the next boundary; while a POS
event is pending it is refused with code 1. -/
def Obligations.CorrectionsAndLoads : Prop :=
  (∀ (s : State) (w : HW), Canonical s → Accepted s aTIMEBASE_CORR_HI w →
    Runs (.corrSubmit w) s fun t => lastStatus t = 0 ∧
      (let d := sgn 48 (s.tb.corrLo.toNat + 2 ^ 32 * (w.v.toNat % 65536)) * mmUnit
       if (s.tb.pend + d).natAbs > (rget s aTIMEBASE_CORR_LIMIT).toNat * 65536000 then
         t.tb = s.tb ∧ rbit t (aISTAT pgTIMEBASE) 4 = true ∧ captured 2 pgTIMEBASE 0 s t
       else t.tb.pend = s.tb.pend + d ∧ t.tb.pos = s.tb.pos) ∧ KeepsBut [.regs, .tb] s t) ∧
  (∀ (s : State) (w : HW), Canonical s → Accepted s aTIMEBASE_POS_LOAD_HI w →
    Runs (.posLoad w) s fun t => lastStatus t = 0 ∧
      t.tb.load = some (sgn 48 (s.tb.loadLo.toNat + 2 ^ 32 * (w.v.toNat % 65536)) * mmUnit) ∧ t.tb.pos = s.tb.pos ∧
      KeepsBut [.regs, .tb] s t) ∧
  (∀ (s : State) (w : HW), Canonical s → Served s aTIMEBASE_POS_LOAD_HI w → posPending s = true →
    Runs (.posLoad w) s fun t => refusedWith 1 pgTIMEBASE aTIMEBASE_POS_LOAD_HI s t)

/-- Whatever an event on the tach and counter pins (and CORR_DONE) does, only time with the PTP counters, the axes and
registers of the TIMEBASE page can change: no memory, no other register page, no other block. -/
def Obligations.AxisPinFrame : Prop :=
  ∀ (c : Instr) (s t : State), axisPinEvent c = true → exec c s = .next t →
    KeepsBut [.now, .ptp, .tb, .regs] s t ∧ RegsBut [pgTIMEBASE] s t

/-! ### Basin, Formes, Jet paths -/

/-- The events of the Basin's own engines. -/
def basinEvent (c : Instr) : Bool :=
  match c with
  | .zoneGapBegin .. | .zcTimeoutRamp .. | .slotWaitStart .. | .slotRelease .. | .epochEnd | .shadowUnlock | .sluiceEnd .. => true
  | .formeCrcDone | .jetXfadeEnd .. => true
  | _ => false

/-- A change of the word behind `key` finds a slot on the present frame, or holds one (R128). -/
def slotFor (s : State) (key : Nat) : Prop :=
  (∃ m, findMove s key = some m ∧ m.slot = true ∧ moveBusy m s.tb.frame = true) ∨ (slotsBusy s < maxSlots ∧ s.basin.waits = [])

/-- The epoch closes, or has closed with changes of its recall left (R130). -/
def epochCan (s : State) (e : Epoch) : Bool :=
  if e.closed then s.basin.moves.any (fun m => m.ticket == some e.ticket) else decide (epochLast s e ≤ s.tb.frame)

/-- An accepted write of a Jet path on a SOLO device is held: the register keeps its value, and the path's waiting word
takes the written fields; nothing else changes. A frame tick lands the waiting words: afterwards only writes to a port
group or to AES3 can still wait, for their own group frames. A released WRITE_PARAM of a Jet path stores its word on
its landing frame; one that enables a path of the running Jet, whose source is not ASRC-converted, adds it to the
enabled paths. -/
def Obligations.SoloWritesLandAtTheBoundary : Prop :=
  (∀ (s : State) (p : Fin 64) (w : HW) (d : RegDef), Canonical s → Accepted s (aJET_PATH p) w → isSolo s = true →
    regAt (aJET_PATH p) = some d →
    Runs (.jetPath p w) s fun t => rget t (aJET_PATH p) = rget s (aJET_PATH p) ∧
      heldReg t (aJET_PATH p) = newWord d pgJET w.lvl.val (heldReg s (aJET_PATH p)) w.v ∧ lastStatus t = 0 ∧
      KeepsBut [.regs, .landNext] s t ∧ RegsOnly [aHOSTIF_LASTERR, aHOSTIF_LASTADDR] s t) ∧
  (∀ (s : State) (t : Nat) (x : FrameIn), Live s → s.clk.lockM = true → tickHeld s = false → s.clk.coreGated = false →
    Runs (.frameTick t x) s fun u => ∀ y ∈ u.landNext, y ∈ s.landNext ∧ (pageGroup (pageOf y.1)).isSome = true) ∧
  (∀ (s : State) (e : Ev) (rest : List Ev) (p : Fin 64) (v : Word) (d : RegDef), Canonical s → actsNext s e rest →
    e.e.opcode = opWriteParam → pairsOf e.payload = [(aJET_PATH p, v)] → regAt (aJET_PATH p) = some d →
    Runs (.writeParam e.ticket) s fun u =>
      rget u (aJET_PATH p) = newWord d pgJET 0 (rget s (aJET_PATH p)) v ∧ u.comp.landing = rest ∧
      (enOf s pgJET = true → bit (jetPath s p) 31 = false → bit v 31 = true → asrcSource s (jetSrcOf v) = false →
        p.val ∈ u.basin.jetOn))

/-- A released recall with fewer than four epochs open swaps the roles of live and shadow Forme, counts, notes its landing
frame, sets LANDED, and runs on; no byte of either Forme changes. With four epochs open it is held, and the roles
stay. A held recall whose turn has come leaves the held entries and swaps the roles; a held WRITE_PARAM whose turn has
come leaves them and writes its pairs, here a word of the shadow Forme. -/
def Obligations.RecallSwapsTheFormes : Prop :=
  (∀ (s : State) (e : Ev) (rest : List Ev), Canonical s → actsNext s e rest → e.e.opcode = opRecall → openEpochs s < 4 →
    Runs (.recallForme e.ticket) s fun u => u.basin.liveB = (!s.basin.liveB) ∧ u.comp.landing = rest ∧
      rget u aBASIN_RECALL_CNT = rget s aBASIN_RECALL_CNT + 1 ∧ rget u aBASIN_LAND_LO = lo32 s.tb.frame ∧
      rget u aBASIN_LAND_HI = hi32 s.tb.frame ∧
      rbit u (aISTAT pgBASIN) 0 = true ∧ (∀ a, 0x1000000 ≤ a → rdByte u a = rdByte s a)) ∧
  (∀ (s : State) (e : Ev) (rest : List Ev), Canonical s → actsNext s e rest → e.e.opcode = opRecall → 4 ≤ openEpochs s →
    Runs (.recallForme e.ticket) s fun u => u.comp.landing = rest ∧ u.comp.held = s.comp.held ++ [{ e with land := s.tb.frame }] ∧
      rget u aBASIN_WAIT_CNT = rget s aBASIN_WAIT_CNT + 1 ∧ KeepsBut [.regs, .comp] s u ∧ RegsBut [pgBASIN] s u) ∧
  (∀ (s : State) (e : Ev), Canonical s → Live s → heldFirst s = some e → waitFirst s (some e) = none → e.e.opcode = opRecall →
    Runs (.heldEntryAct e.ticket) s fun u => u.basin.liveB = (!s.basin.liveB) ∧ u.comp.held = dropEv e.ticket s.comp.held ∧
      rget u aBASIN_RECALL_CNT = rget s aBASIN_RECALL_CNT + 1) ∧
  (∀ (s : State) (e : Ev) (a : Nat) (v : Word), Canonical s → Live s → heldFirst s = some e → waitFirst s (some e) = none →
    e.e.opcode = opWriteParam → pairsOf e.payload = [(a, v)] → 0x1000000 ≤ a → paramTarget a = true →
    decide (0x1400000 ≤ a) = (!s.basin.liveB) →
    Runs (.heldEntryAct e.ticket) s fun u => rdWord u a = v ∧ u.comp.held = dropEv e.ticket s.comp.held)

/-- A released SLUICE_ROUTE writes its source into the live router word. On an output in range whose route differs, with
no Sluice running, one starts on the present frame with the entry's length; with one running, the same target joins
it, its old route reverses it, any other waits behind it. A released SET_GAIN_ZC writes the GAIN of the live word and
keeps its other bits; with a slot free or held, one zero-cross change with the entry's timeout starts and the entry
runs until that ends; without, it waits and counts; a word without effect at this rate takes its value alone. -/
def Obligations.RoutesAndGainsLand : Prop :=
  (∀ (s : State) (e : Ev) (rest : List Ev) (w4 w5 : Word) (more : List Word), Canonical s → actsNext s e rest →
    e.e.opcode = opSluice → e.payload = w4 :: w5 :: more →
    Runs (.sluiceRoute e.ticket) s fun u => routeWord u (bits w4 9 0) = w5 ∧ u.comp.landing = rest ∧
      (match s.basin.sluices.find? (fun x => x.o == bits w4 9 0) with
       | none =>
         if routeEq (routeWord s (bits w4 9 0)) w5 = false ∧ bits w4 9 0 < limOut s then
           u.basin.sluices = s.basin.sluices ++
             [⟨bits w4 9 0, routeWord s (bits w4 9 0), w5, bit w5 27, ⟨0, 1⟩, (rampLen (bits w4 29 24)).getD 64, s.tb.frame,
               [e.ticket], none⟩]
         else u.basin.sluices = s.basin.sluices
       | some x =>
         if routeEq w5 x.new = true then { x with tickets := x.tickets ++ [e.ticket] } ∈ u.basin.sluices
         else if routeEq w5 x.old = true then
           ∃ y ∈ u.basin.sluices, y.o = bits w4 9 0 ∧ y.old = x.new ∧ y.new = w5 ∧ y.start = s.tb.frame ∧
             y.tickets = x.tickets ++ [e.ticket]
         else { x with queued := some ⟨w5, (rampLen (bits w4 29 24)).getD 64, some e.ticket⟩ } ∈ u.basin.sluices)) ∧
  (∀ (s : State) (e : Ev) (rest : List Ev) (w4 w5 : Word) (more : List Word) (k : Nat), Canonical s → actsNext s e rest →
    e.e.opcode = opSetGainZc → e.payload = w4 :: w5 :: more → zcKey w4 = some k →
    Runs (.setGainZc e.ticket) s fun u => u.comp.landing = rest ∧
      (slotFor s k ∨ keyInUse s k = false → keyWord u k = maskWord 0x00FFFFFF#32 (keyWord s k) w5) ∧
      (keyInUse s k = true → slotFor s k →
        ∃ m, findMove u k = some m ∧ m.disc = .zeroCross (framesOfMs s (bits w5 31 24)) ∧ m.t = gainOf w5 ∧ m.slot = true ∧
          m.land = s.tb.frame ∧ m.ticket = some e.ticket) ∧
      (keyInUse s k = true → ¬ slotFor s k → u.basin.waits = s.basin.waits ++ [⟨some e.ticket, k, w5, some (bits w5 31 24)⟩] ∧
        rget u aBASIN_WAIT_CNT = rget s aBASIN_WAIT_CNT + 1 ∧ u.mem = s.mem))

/-- A served host write to the unlocked shadow Forme of an ACTIVE or SOLO device stores the enabled bytes, with every
other byte of memory unchanged; an ACTIVE queues the word for its partner, and while that queue is full HRDY_N is held
and nothing happens. A write to the reserved region stores nothing. One to the live Forme is refused with code 1, one
to the locked shadow with code 2, one on another device with code 4. A partial write that meets an uncorrectable word
ends with status UE (6). -/
def Obligations.ShadowFormeWrites : Prop :=
  (∀ (s : State) (x : HostAcc), Canonical s → Served s (busAddr x.addr) ⟨x.lvl, x.be, x.v⟩ →
    0x1000000 ≤ busAddr x.addr → s.clk.coreGated = false → formeRefuse s (decide (0x1400000 ≤ busAddr x.addr)) = none →
    ((busAddr x.addr - 0x1000000) % 0x400000 < oRsv → mirrorFull s = false → x.be = 0xF#4 ∨ flipsAt s (busAddr x.addr) = 0 →
      Runs (.shadowFormeWrite x) s fun t => lastStatus t = 0 ∧ bytesStored (busAddr x.addr) x.be x.v s t ∧
        t.basin.mirrorQ = s.basin.mirrorQ ++ (if isActive s then [(busAddr x.addr, rdWord t (busAddr x.addr))] else []) ∧
        KeepsBut [.regs, .mem, .fab, .basin] s t ∧ RegsBut [pgHOSTIF, pgECC] s t) ∧
    ((busAddr x.addr - 0x1000000) % 0x400000 < oRsv → mirrorFull s = false → x.be ≠ 0xF#4 → ueAt s (busAddr x.addr) = true →
      Runs (.shadowFormeWrite x) s fun t => lastStatus t = 6 ∧ t.mem = s.mem) ∧
    (oRsv ≤ (busAddr x.addr - 0x1000000) % 0x400000 → mirrorFull s = false →
      Runs (.shadowFormeWrite x) s fun t => lastStatus t = 0 ∧ KeepsBut [.regs] s t ∧ RegsBut [pgHOSTIF] s t) ∧
    (mirrorFull s = true → Runs (.shadowFormeWrite x) s fun t => t = s)) ∧
  (∀ (s : State) (x : HostAcc) (c : Nat), Canonical s → Served s (busAddr x.addr) ⟨x.lvl, x.be, x.v⟩ →
    0x1000000 ≤ busAddr x.addr → s.clk.coreGated = false →
    c = (if activeOrSolo s = false then 4 else if decide (0x1400000 ≤ busAddr x.addr) = s.basin.liveB then 1 else 2) →
    activeOrSolo s = false ∨ decide (0x1400000 ≤ busAddr x.addr) = s.basin.liveB ∨ s.basin.lock = true →
    Runs (.shadowFormeWrite x) s fun t => refusedWith c pgBASIN (busAddr x.addr) s t)

/-- A zone below GAP_LEVEL for GAP_HOLD begins its gap. A Zero-cross change without a crossing for its timeout starts a
Ramp. The first waiting change starts when a slot is free and no held entry comes before it. A change that has reached
its end releases its slot, and its SET_GAIN_ZC runs no more. The first epoch that has reached its last frame closes;
with nothing of it in flight the recall completes. The shadow unlocks on the frame after the last recall. A Sluice
that has run its length ends, and a queued route starts. A Forme CRC starts over the selected Forme and leaves its
value. A Jet crossfade that has run its length is reported. -/
def Obligations.BasinEvents : Prop :=
  (∀ (s : State) (z : Fin 128) (x : ZoneSt), Live s → x ∈ s.basin.zones → x.z = z.val → x.enabled = true →
    framesOfMs s (bits (zoneWord s z.val 1) 31 16) ≤ x.below →
    Runs (.zoneGapBegin z) s fun t => { x with inGap := true } ∈ t.basin.zones ∧ KeepsBut [.basin] s t) ∧
  (∀ (s : State) (m : Move) (n : Nat), Live s → m ∈ s.basin.moves → m.disc = .zeroCross n → m.hit = none → m.ramp = none →
    m.land + n ≤ s.tb.frame →
    Runs (.zcTimeoutRamp m.key) s fun t => { m with ramp := some (m.land + n) } ∈ t.basin.moves ∧ KeepsBut [.basin] s t) ∧
  (∀ (s : State) (w : WaitChg), Canonical s → Live s → waitFirst s (heldFirst s) = some w →
    Runs (.slotWaitStart w.key) s fun t => t.basin.waits = s.basin.waits.drop 1 ∧
      (findMove t w.key).map (·.t) = some (gainOf w.word) ∧ (findMove t w.key).map (·.land) = some s.tb.frame) ∧
  (∀ (s : State) (key d : Nat) (m : Move), Canonical s → Live s → findMove s key = some m → moveDone m = some d → m.slot = true →
    d ≤ s.tb.frame →
    Runs (.slotRelease key) s fun t => findMove t key = none ∧ (m.ticket = none → KeepsBut [.basin] s t) ∧
      ∀ tk, m.ticket = some tk → (∀ e ∈ s.basin.epochs, e.ticket ≠ tk) → findEv tk t.comp.running = none) ∧
  (∀ (s : State) (e : Epoch), Canonical s → Live s → s.basin.epochs.find? (epochCan s) = some e →
    Runs .epochEnd s fun t => (∀ x ∈ t.basin.epochs, x.ticket = e.ticket → x.closed = true) ∧
      ((∀ m ∈ s.basin.moves, m.ticket = some e.ticket → ∃ d, moveDone m = some d ∧ d ≤ s.tb.frame) →
        (∀ x ∈ s.basin.sluices, e.ticket ∉ x.tickets ∧ ∀ q, x.queued = some q → q.ticket ≠ some e.ticket) →
        (∀ x ∈ t.basin.epochs, x.ticket ≠ e.ticket) ∧ rbit t (aISTAT pgBASIN) 1 = true ∧
          findEv e.ticket t.comp.running = none)) ∧
  (∀ s : State, Live s → s.basin.lock = true → ((openEvs s ++ flightEvs s).any fun e => e.e.opcode == opRecall) = false →
    s.basin.epochs = [] → (∀ l, s.basin.lastRecall = some l → l < s.tb.frame) →
    Runs .shadowUnlock s fun t => t.basin.lock = false ∧ KeepsBut [.basin] s t) ∧
  (∀ (s : State) (o : Fin 1024) (x : Sluice), Canonical s → Live s → (s.basin.sluices.find? fun y => y.o == o.val) = some x →
    sluiceDone x ≤ s.tb.frame →
    Runs (.sluiceEnd o) s fun t =>
      match x.queued with
      | some q =>
        if routeEq q.src x.new = false then routeWord t o = q.src ∧
          ∃ y ∈ t.basin.sluices, y.o = o.val ∧ y.old = x.new ∧ y.new = q.src ∧ y.l = q.l ∧ y.start = sluiceDone x + 1
        else ∀ y ∈ t.basin.sluices, y.o ≠ o.val
      | none => ∀ y ∈ t.basin.sluices, y.o ≠ o.val) ∧
  (∀ (s : State) (w : HW), Canonical s → Accepted s aBASIN_CRC_CTRL ⟨w.lvl, w.be, setBits w.v 0 0 1⟩ →
    Runs (.formeCrcStart w) s fun t => lastStatus t = 0 ∧ t.basin.crcRun = some (bit w.v 4) ∧ KeepsBut [.regs, .basin] s t) ∧
  (∀ (s : State) (b : Bool), Canonical s → Live s → s.basin.crcRun = some b →
    Runs .formeCrcDone s fun t => rget t aBASIN_CRC_VAL = crc32 (rdBytes s (formeBase b) formeSize) ∧
      rbit t (aISTAT pgBASIN) 6 = true ∧ t.basin.crcRun = none ∧ KeepsBut [.regs, .basin] s t) ∧
  (∀ (s : State) (p : Fin 64) (c : JetC), Canonical s → Live s → c ∈ s.basin.jets → c.p = p.val → c.rep = false →
    c.start + c.l ≤ s.tb.frame + 1 →
    Runs (.jetXfadeEnd p) s fun t => rbit t (aISTAT pgJET) 2 = true ∧ c ∉ t.basin.jets ∧
      (c.up = true → { c with rep := true } ∈ t.basin.jets) ∧ KeepsBut [.regs, .basin] s t)

/-- Whatever an event of the Basin's engines does, only the Basin, the completion of entries (Compositor, Galley heap,
memory of the rings and Formes, registers of their pages, of BASIN, JET and of the ECC unit) can change: not time, the
axes, ports, network, clocks, Presses, Cistern, twin state or start-up. -/
def Obligations.BasinEventFrame : Prop :=
  ∀ (c : Instr) (s t : State), basinEvent c = true → exec c s = .next t →
    KeepsBut [.regs, .mem, .comp, .galley, .basin, .fab] s t ∧
      RegsBut [pgBASIN, pgJET, pgGALLEY, pgCOMPOSITOR, pgECC] s t

/-! ### The Presses as blocks -/

/-- The other Presses are as before. -/
def OtherPresses (p : Fin 16) (s t : State) : Prop := ∀ q : Fin 16, q ≠ p → t.press[q] = s.press[q]

/-- The registers of Press `p` once every result in flight has arrived (R158, R204). -/
def settledRegs (s : State) (p : Fin 16) : PressRegs := (drainPend s.press[p]).r

/-- CTRL.DBG_HALT or CTRL.REMAP of Press `p`. -/
def haltBit (s : State) (p : Fin 16) : Bool := rbit s (aCTRL (pgPRESS p)) 7
def remapBit (s : State) (p : Fin 16) : Bool := rbit s (aCTRL (pgPRESS p)) 3

/-- No memory word holds a flipped bit, and no injection is armed. -/
def cleanMem (s : State) : Prop := s.fab.flips = [] ∧ s.fab.arm = none

/-- The entry that Press `p` has pushed: its kind, the return PC and SR with LA and IH as they were (R166). -/
def pushed (s : State) (p : Fin 16) (k : PKind) (pc : BitVec 13) (t : State) : Prop :=
  ∃ f : PFrame, t.press[p].stack = f :: s.press[p].stack ∧ f.kind = k ∧ f.pc = pc ∧
    f.sr &&& srBits = (settledRegs s p).sr &&& srBits ∧ bit f.sr 22 = s.press[p].ih ∧ bit f.sr 28 = s.press[p].la[0] ∧
    bit f.sr 29 = s.press[p].la[1]

/-- What every entry leaves: IE and LA clear, IH set, the PC at the vector (R164, R166). -/
def entered (p : Fin 16) (v : BitVec 13) (t : State) : Prop :=
  t.press[p].pc = v ∧ t.press[p].ih = true ∧ bit t.press[p].r.sr 23 = false ∧ t.press[p].la = Vector.replicate 2 false

/-- In U4 mode an entry swaps the working set with the shadow set (R169). -/
def swappedSets (s : State) (p : Fin 16) (t : State) : Prop :=
  t.press[p].sh = true ∧
  (∀ i : Fin 8, t.press[p].r.d[i.val] = s.press[p].shadow.d[i.val] ∧ t.press[p].shadow.d[i.val] = (settledRegs s p).d[i.val] ∧
    t.press[p].r.d[i.val + 8] = (settledRegs s p).d[i.val + 8]) ∧
  (∀ i : Fin 2, t.press[p].r.ac[i.val] = s.press[p].shadow.ac[i.val] ∧
    t.press[p].shadow.ac[i.val] = (settledRegs s p).ac[i.val] ∧ t.press[p].r.ac[i.val + 2] = (settledRegs s p).ac[i.val + 2]) ∧
  (∀ i : Fin 4, t.press[p].r.p[i.val] = s.press[p].shadow.p[i.val] ∧ t.press[p].shadow.p[i.val] = (settledRegs s p).p[i.val] ∧
    t.press[p].r.p[i.val + 4] = (settledRegs s p).p[i.val + 4])

/-- A boundary at which Press `p`, running, can accept an interrupt, with CORE running and no debug halt before it (R165, R173). -/
def acceptPoint (s : State) (p : Fin 16) : Prop :=
  (s.press[p].mode = .run ∨ s.press[p].mode = .stopping) ∧ coreRuns s = true ∧ atBoundary s.press[p] = true ∧
    dbgStops s p = false

/-- A FAULT under a FAULT, or under any entry in U4 mode (R164, R169). -/
def doubleFault (s : State) (p : Fin 16) : Prop :=
  s.press[p].ih = true ∧ (u4Of s p = true ∨ s.press[p].stack.head?.map (·.kind) = some .fault)

/-- At the boundary that starts frame kN + 1 the block tick, once, latches every Press's configuration, and a running,
stopping or debug-halted Press has TICK pending with the number k - 1 of its data block (with REMAP = 0 the ROM
program takes the tick and waits, log entry 95); one not WAITING counts an overrun. At the first tick at or after its
enable lands, a HALTED Press with a legal configuration and no range conflict starts at address 0 with the start
values, an empty return stack and its memory as it was; DBG_HALT in SOLO stops it there. An illegal configuration
leaves it HALTED with code 4, a conflict with code 3. EN = 0 landed takes a running Press to STOPPING, and the first
tick after frame f + 63 halts it, with a held SRST. A starved DMA word counts and sets ISTAT. -/
def Obligations.PressTicksStartsAndStops : Prop :=
  (∀ (s : State) (l : List (Fin 16)), Live s → isTick s = true → s.press[0].tickF ≠ s.tb.frame →
    Runs (.blockTick l) s fun t => ∀ p : Fin 16, t.press[p].tickF = s.tb.frame ∧ t.press[p].cfg = pressCfg s p ∧
      t.press[p].blk = unsgn 64 (((s.tb.frame - 1) / blockN s : Nat) - 1 : Int) ∧
      (remapBit s p = true → t.press[p].mode = s.press[p].mode ∧ (takesTick s.press[p] = true → t.press[p].tick = true)) ∧
      (remapBit s p = false → coreRuns s = true → cleanMem s → s.press[p].mode = .run ∨ s.press[p].mode = .stopping →
        t.press[p].mode = s.press[p].mode ∧ t.press[p].wait = true ∧ t.press[p].tick = false) ∧
      (takesTick s.press[p] = true → s.press[p].wait = false →
        rget t (aPRESS_OVR_CNT p) = rget s (aPRESS_OVR_CNT p) + 1 ∧ rbit t (aISTAT (pgPRESS p)) 2 = true)) ∧
  (∀ (s : State) (l : List (Fin 16)), Live s → isTick s = false ∨ s.press[0].tickF = s.tb.frame →
    Runs (.blockTick l) s fun t => KeepsBut [.twin] s t) ∧
  (∀ (s : State) (p : Fin 16) (f : Nat), Canonical s → Live s → s.press[p].start = some f → f ≤ s.tb.frame →
    s.press[p].mode = .halted → atTick s s.press[p] = true → pressCfgOk s s.press[p].cfg = true → ownConflict s p = none →
    Runs (.pressStart p) s fun t => t.press[p].start = none ∧ rbit t (aISTAT (pgPRESS p)) 6 = true ∧ OtherPresses p s t ∧
      (remapBit s p = true ∨ isSolo s && haltBit s p = true →
        t.press[p].mode = (if isSolo s && haltBit s p then .dbg else .run) ∧ t.press[p].wait = false ∧ t.press[p].pc = 0 ∧
        t.press[p].r = PressRegs.start ∧ t.press[p].stack = [] ∧ t.press[p].tick = true ∧ t.press[p].ih = false ∧
        KeepsBut [.regs, .press] s t ∧ RegsOnly [aISTAT (pgPRESS p)] s t) ∧
      (remapBit s p = false → isSolo s && haltBit s p = false → coreRuns s = true → cleanMem s →
        t.press[p].mode = .run ∧ t.press[p].wait = true ∧ t.press[p].tick = false)) ∧
  (∀ (s : State) (p : Fin 16) (f : Nat), Canonical s → Live s → s.press[p].start = some f → f ≤ s.tb.frame →
    s.press[p].mode = .halted → atTick s s.press[p] = true → pressCfgOk s s.press[p].cfg = false →
    Runs (.pressStart p) s fun t => t.press[p].mode = .halted ∧ t.press[p].start = none ∧ captured 4 (pgPRESS p) 0 s t ∧
      OtherPresses p s t ∧ KeepsBut [.regs, .press] s t) ∧
  (∀ (s : State) (p : Fin 16) (f c : Nat), Canonical s → Live s → s.press[p].start = some f → f ≤ s.tb.frame →
    s.press[p].mode = .halted → atTick s s.press[p] = true → pressCfgOk s s.press[p].cfg = true → ownConflict s p = some c →
    Runs (.pressStart p) s fun t => t.press[p].mode = .halted ∧ t.press[p].start = none ∧ captured 3 (pgPRESS p) c s t ∧
      OtherPresses p s t ∧ KeepsBut [.regs, .press] s t) ∧
  (∀ (s : State) (p : Fin 16) (f : Nat), Canonical s → Live s → s.press[p].stop = some f →
    (s.press[p].mode = .run ∨ s.press[p].mode = .dbg) →
    Runs (.pressStop p) s fun t => t.press[p].mode = .stopping ∧ t.press[p].r = s.press[p].r ∧ t.press[p].pc = s.press[p].pc ∧
      OtherPresses p s t ∧ KeepsBut [.regs, .press] s t ∧ RegsOnly [aISTAT (pgPRESS p)] s t) ∧
  (∀ (s : State) (p : Fin 16) (f : Nat), Canonical s → Live s → s.press[p].stop = some f → s.press[p].mode = .stopping →
    atTick s s.press[p] = true → f + 63 < s.tb.frame →
    Runs (.pressHalt p) s fun t => t.press[p].mode = .halted ∧ t.press[p].stop = none ∧ t.press[p].r = settledRegs s p ∧
      OtherPresses p s t ∧ (s.press[p].srstHeld = false → KeepsBut [.regs, .press] s t ∧ RegsOnly [aISTAT (pgPRESS p)] s t) ∧
      (s.press[p].srstHeld = true → pgPRESS p ∈ t.srst ∧ t.press[p].srstHeld = false ∧ rget t (aISTAT (pgPRESS p)) = 0 ∧
        KeepsBut [.regs, .press, .srst] s t)) ∧
  (∀ (s : State) (p : Fin 16), Canonical s → Live s →
    Runs (.pressDmaStarve p) s fun t => rget t (aPRESS_STARVE_CNT p) = rget s (aPRESS_STARVE_CNT p) + 1 ∧
      rbit t (aISTAT (pgPRESS p)) 3 = true ∧ KeepsBut [.regs] s t ∧
      RegsOnly [aPRESS_STARVE_CNT p, aISTAT (pgPRESS p)] s t)

/-- The write of CTRL by a SOLO device that only the debug controls and FREEZE take effect of at once. -/
def ctrlTaken (s : State) (p : Fin 16) (v : Word) : Prop :=
  isSolo s = true ∧ bit v 1 = false ∧ s.press[p].srstHeld = false

/-- The state in which a STEP finds the Press: CTRL has taken the written word. -/
def stepFrom (s t : State) (p : Fin 16) : State :=
  { rset (aCTRL (pgPRESS p)) (rget t (aCTRL (pgPRESS p))) s with landNext := t.landNext, frozen := t.frozen }

/-- On a SOLO device, a write that sets DBG_HALT stops a running Press at a boundary in DBG_HALTED, and one that clears it
lets a DBG_HALTED Press run on. A step of a DBG_HALTED Press issues the word at its PC once, whatever word it is; a
step of the word 0 (a NOP) passes it and changes no register or memory. A match of the enabled breakpoint at a
boundary stops the Press. A host write to the local memory of a HALTED Press stores its enabled bytes and no other; an
ACTIVE queues the word for its partner, and while that queue is full nothing happens; with the Press not HALTED it is
refused with code 1. A released PRESS_MSG becomes a record that waits for the tick of its block, with its argument,
type and data. -/
def Obligations.PressDebugMemoryMessages : Prop :=
  (∀ (s : State) (p : Fin 16) (w : HW), Canonical s → Accepted s (aCTRL (pgPRESS p)) w → ctrlTaken s p w.v → bit w.v 8 = false →
    (bit w.v 7 = true → haltBit s p = false → s.press[p].mode = .run → atBoundary s.press[p] = true →
      Runs (.dbgHalt p w) s fun t => t.press[p].mode = .dbg ∧ t.press[p].pc = s.press[p].pc ∧ t.press[p].r = settledRegs s p ∧
        OtherPresses p s t ∧ haltBit t p = true ∧ lastStatus t = 0) ∧
    (bit w.v 7 = true → haltBit s p = false → s.press[p].mode = .run → atBoundary s.press[p] = false →
      Runs (.dbgHalt p w) s fun t => t.press = s.press ∧ haltBit t p = true ∧ lastStatus t = 0) ∧
    (bit w.v 7 = false → haltBit s p = true → s.press[p].mode = .dbg →
      Runs (.dbgHalt p w) s fun t => t.press[p].mode = .run ∧ t.press[p].pc = s.press[p].pc ∧ OtherPresses p s t ∧
        haltBit t p = false ∧ lastStatus t = 0)) ∧
  (∀ (s : State) (p : Fin 16) (w : HW), Canonical s → Accepted s (aCTRL (pgPRESS p)) ⟨w.lvl, w.be, setBits w.v 8 8 1⟩ →
    ctrlTaken s p w.v → bit w.v 7 = true → haltBit s p = true → s.press[p].mode = .dbg →
    Runs (.dbgStep p w) s fun t =>
      let s0 := stepFrom s t p
      (dbgStepOne p s0).press[p].mode = .dbg → t.press = (dbgStepOne p s0).press ∧ t.mem = (dbgStepOne p s0).mem) ∧
  (∀ (s : State) (p : Fin 16) (w : HW), Canonical s → Accepted s (aCTRL (pgPRESS p)) ⟨w.lvl, w.be, setBits w.v 8 8 1⟩ →
    ctrlTaken s p w.v → bit w.v 7 = true → haltBit s p = true →
    s.press[p].mode = .dbg → s.press[p].wait = false → s.press[p].pend = [] → s.press[p].rep = none → s.press[p].br = none →
    s.press[p].next = none → s.press[p].la = Vector.replicate 2 false →
    coreRuns s = true → s.fab.flips = [] → remapBit s p = true →
    rdWord s (pressBase p + 8 * s.press[p].pc.toNat) = 0 → rdWord s (pressBase p + 8 * s.press[p].pc.toNat + 4) = 0 →
    Runs (.dbgStep p w) s fun t => t.press[p].mode = .dbg ∧ t.press[p].pc = s.press[p].pc + 1 ∧
      t.press[p].r = s.press[p].r ∧ OtherPresses p s t ∧ MemSame s t) ∧
  (∀ (s : State) (p : Fin 16), Canonical s → s.press[p].mode = .run → s.press[p].wait = false → coreRuns s = true →
    atBoundary s.press[p] = true → isSolo s = true → rbit s (aPRESS_BRK p) 31 = true →
    rfld s (aPRESS_BRK p) 12 0 = s.press[p].pc.toNat → s.press[p].brkSeen = false →
    Runs (.brkMatch p) s fun t => t.press[p].mode = .dbg ∧ t.press[p].pc = s.press[p].pc ∧ t.press[p].r = settledRegs s p ∧
      OtherPresses p s t ∧ KeepsBut [.regs, .press] s t ∧ RegsOnly [aISTAT (pgPRESS p)] s t) ∧
  (∀ (s : State) (x : HostAcc) (p : Fin 16), Canonical s → Served s (busAddr x.addr) ⟨x.lvl, x.be, x.v⟩ →
    pressMemAt (busAddr x.addr) = some p → s.clk.coreGated = false →
    (s.press[p].mode = .halted → pressMirrorFull s p = false → x.be = 0xF#4 ∨ flipsAt s (busAddr x.addr) = 0 →
      Runs (.pressMemWrite x) s fun t => lastStatus t = 0 ∧ bytesStored (busAddr x.addr) x.be x.v s t ∧
        t.press[p].mirrorQ = s.press[p].mirrorQ ++ (if isActive s then [(busAddr x.addr, rdWord t (busAddr x.addr))] else []) ∧
        OtherPresses p s t ∧ KeepsBut [.regs, .mem, .fab, .press] s t ∧ RegsBut [pgHOSTIF, pgECC] s t) ∧
    (s.press[p].mode = .halted → pressMirrorFull s p = false → x.be ≠ 0xF#4 → ueAt s (busAddr x.addr) = true →
      Runs (.pressMemWrite x) s fun t => lastStatus t = 6 ∧ t.mem = s.mem) ∧
    (s.press[p].mode = .halted → pressMirrorFull s p = true → Runs (.pressMemWrite x) s fun t => t = s) ∧
    (s.press[p].mode ≠ .halted → Runs (.pressMemWrite x) s fun t => refusedWith 1 (pgPRESS p) (busAddr x.addr) s t)) ∧
  (∀ (s : State) (e : Ev) (rest : List Ev), Canonical s → actsNext s e rest → e.e.opcode = opPressMsg →
    Runs (.pressMsg e.ticket) s fun t => t.comp.landing = rest ∧
      t.comp.running = s.comp.running ++ [{ e with land := s.tb.frame }] ∧
      (∀ p : Fin 16, p.val = bits (e.payload.getD 0 0) 3 0 → OtherPresses p s t ∧ t.press[p].msgs = s.press[p].msgs ++
        [⟨e.ticket, s.tb.frame, bits (e.payload.getD 0 0) 31 16, bits (e.payload.getD 0 0) 15 8, e.payload.drop 1, 0⟩]) ∧
      MemSame s t ∧ KeepsBut [.comp, .press] s t)

/-- At an acceptance point, with no FAULT pending and SR.IE = 1, a pending TICK is accepted: every result in flight
arrives, the return PC and SR are pushed, IE and LA clear, IH sets, the PC goes to 0x0004, the tick is no longer
pending, and 7 cycles pass; a WAITING Press runs again. A pending FAULT is accepted whatever IE is, at 0x0008. In U4
mode the entry swaps the working set with the shadow set. An entry on a full return stack (cause 3), and a FAULT under
a FAULT (cause 5), put the Press in FAULTED. -/
def Obligations.PressEntries : Prop :=
  (∀ (s : State) (p : Fin 16), Canonical s → acceptPoint s p → s.press[p].fault = false → tickDue s p = true →
    s.press[p].stack.length < 8 →
    Runs (.tickEntry p) s fun t => pushed s p .tick s.press[p].pc t ∧ entered p 4 t ∧ t.press[p].tick = false ∧
      t.press[p].wait = false ∧ t.press[p].cyc = s.press[p].cyc + 7 ∧ OtherPresses p s t ∧ KeepsBut [.press] s t ∧
      (u4Of s p = false → t.press[p].r.d = (settledRegs s p).d ∧ t.press[p].r.ac = (settledRegs s p).ac ∧
        t.press[p].r.p = (settledRegs s p).p) ∧
      (u4Of s p = true → swappedSets s p t)) ∧
  (∀ (s : State) (p : Fin 16), Canonical s → acceptPoint s p → s.press[p].fault = true →
    s.press[p].stack.length < 8 → ¬ doubleFault s p →
    Runs (.faultEntry p) s fun t => pushed s p .fault s.press[p].pc t ∧ entered p 8 t ∧ t.press[p].fault = false ∧
      t.press[p].tick = s.press[p].tick ∧ t.press[p].wait = false ∧ rbit t (aISTAT (pgPRESS p)) 1 = true ∧
      OtherPresses p s t ∧ KeepsBut [.press, .regs] s t ∧ RegsOnly [aISTAT (pgPRESS p)] s t ∧
      (u4Of s p = false → t.press[p].r.d = (settledRegs s p).d ∧ t.press[p].r.ac = (settledRegs s p).ac ∧
        t.press[p].r.p = (settledRegs s p).p) ∧
      (u4Of s p = true → swappedSets s p t)) ∧
  (∀ (s : State) (p : Fin 16), Canonical s → acceptPoint s p → s.press[p].fault = true → doubleFault s p →
    Runs (.faultEntry p) s fun t => t.press[p].mode = .faulted ∧ t.press[p].stack = s.press[p].stack ∧
      rbit t (aISTAT (pgPRESS p)) 1 = true ∧ rget t (aPRESS_FAULTINFO p) = fld 5 28 ||| fld s.press[p].faultPc.toNat 0 ∧
      OtherPresses p s t) ∧
  (∀ (s : State) (p : Fin 16), Canonical s → acceptPoint s p → s.press[p].fault = true → ¬ doubleFault s p →
    8 ≤ s.press[p].stack.length →
    Runs (.faultEntry p) s fun t => t.press[p].mode = .faulted ∧ t.press[p].stack = s.press[p].stack ∧
      rbit t (aISTAT (pgPRESS p)) 1 = true ∧ rget t (aPRESS_FAULTINFO p) = fld 3 28 ||| fld s.press[p].faultPc.toNat 0 ∧
      OtherPresses p s t) ∧
  (∀ (s : State) (p : Fin 16), Canonical s → acceptPoint s p → s.press[p].fault = false → tickDue s p = true →
    8 ≤ s.press[p].stack.length →
    Runs (.tickEntry p) s fun t => t.press[p].mode = .faulted ∧ t.press[p].stack = s.press[p].stack ∧
      rbit t (aISTAT (pgPRESS p)) 1 = true ∧ rfld t (aPRESS_FAULTINFO p) 31 28 = 3 ∧ OtherPresses p s t)

/-! ### Press instruction words -/

/-- Press `p` as a word issues: the fetch has compared loop ends (R162), and the results due have arrived. -/
def atIssue (s : State) (p : Fin 16) : PressSt :=
  let f := fetchStep s.press[p]
  retire f.cyc f

/-- A register of a Press as a reader in cycle `c` sees it (R202), in its own width. -/
def seenAt (x : PressSt) (c : Nat) (g : PReg) : BitVec 72 := (x.r.set g (regAtCycle x c g)).get g

/-- A register `k` cycles after the issue, as a reader sees it without the word, and after the word. -/
def oldAt (s : State) (p : Fin 16) (k : Nat) (g : PReg) : BitVec 72 := seenAt (atIssue s p) (s.press[p].cyc + k) g
def newAt (s t : State) (p : Fin 16) (k : Nat) (g : PReg) : BitVec 72 := seenAt t.press[p] (s.press[p].cyc + k) g

/-- The arithmetic operands: D registers and SR as stage 4 sees them, accumulators with every earlier result (R158). -/
def dOp (s : State) (p : Fin 16) (i : Fin 16) : Word := (oldAt s p 3 (.d i)).setWidth 32
def aOp (s : State) (p : Fin 16) (i : Fin 4) : BitVec 72 := acForward (atIssue s p) i
def srOp (s : State) (p : Fin 16) : Word := (oldAt s p 3 .sr).setWidth 32

/-- A word of Press `p` issues now, once: nothing comes before it, no REP holds, no RTI returns after it, its fetch meets no flipped
bit, and no debug halt waits behind it. -/
def Issues (s : State) (p : Fin 16) : Prop :=
  canIssue s p = true ∧ s.press[p].rep = none ∧ (∀ b, s.press[p].br = some b → b.rti = none) ∧ s.fab.flips = [] ∧
    (isSolo s = true → haltBit s p = false)

/-- The address after the word: the next one, or the start of a loop whose end the word is (R162). -/
def nextPc (s : State) (p : Fin 16) : BitVec 13 := (fetchStep s.press[p]).next.getD (s.press[p].pc + 1)

/-- One cycle passes, and the Press stands at the next address; a branch in progress counts the word as a delay slot, and goes to its
target after the second (R157, R160). -/
def passed (s : State) (p : Fin 16) (t : State) : Prop :=
  t.press[p].cyc = s.press[p].cyc + 1 ∧ t.press[p].next = none ∧
    match s.press[p].br with
    | none => t.press[p].pc = nextPc s p ∧ t.press[p].br = none
    | some b =>
      if 1 < b.slots then t.press[p].pc = nextPc s p ∧ t.press[p].br = some { b with slots := b.slots - 1 }
      else t.press[p].pc = b.target.getD (nextPc s p) ∧ t.press[p].br = none

/-- Beside results in flight, the place in the program, FAULT and MSG_RD, Press `p` is as its word found it. -/
def sameControl (s : State) (p : Fin 16) (t : State) : Prop :=
  let b := t.press[p]
  b = { atIssue s p with
    pend := b.pend, cyc := b.cyc, pc := b.pc, next := b.next, br := b.br, rep := b.rep, brkSeen := b.brkSeen, msgRd := b.msgRd
    fault := b.fault, faultPc := b.faultPc }

/-- The word names no move. -/
def noMoves (x : ArithArgs) : Prop := x.long = false ∧ x.mv = 0

/-- The move fields of the word are legal (R188). -/
def movesLegal (x : ArithArgs) : Prop :=
  (if x.long then longLegal x.mv else moveLegal (x.mv.extractLsb' 20 20) && moveLegal (x.mv.extractLsb' 0 20)) = true

/-- The condition of the word is a condition of Table 06-8 and true, and its move fields are legal. -/
def wordRuns (s : State) (p : Fin 16) (x : ArithArgs) : Prop :=
  x.cond ≠ 15 ∧ condHolds x.cond.toNat (srOp s p) = true ∧ movesLegal x

/-- The word has written these registers and flags, and the Press passes to the next. Without moves in the word, nothing else: no
other register of the Press, no other flag, no other Press, no memory. A move of the word can set SV besides. -/
def Done (s : State) (p : Fin 16) (x : ArithArgs) (regs : List (PReg × BitVec 72)) (fl : List (Nat × Bool)) (t : State) : Prop :=
  passed s p t ∧ (∀ r ∈ regs, newAt s t p 6 r.1 = r.2) ∧
  (∀ b, b < 32 → (b ≠ 7 ∨ noMoves x) →
    (newAt s t p 6 .sr).getLsbD b = (fl.lookup b).getD ((oldAt s p 6 .sr).getLsbD b)) ∧
  (noMoves x → OtherPresses p s t ∧ KeepsBut [.press] s t ∧ sameControl s p t ∧ t.press[p].fault = s.press[p].fault ∧
    t.press[p].msgRd = s.press[p].msgRd ∧ ∀ (g : PReg) (k : Nat), g ≠ .sr → g ∉ regs.map (·.1) → newAt s t p k g = oldAt s p k g)

/-- D register n, signed; an accumulator, signed. -/
def dIn (s : State) (p : Fin 16) (n : Nat) : Int := (dOp s p (Fin.ofNat 16 n)).toInt
def aIn (s : State) (p : Fin 16) (i : Fin 4) : Int := (aOp s p i).toInt

/-- A product of two D registers, shifted by FRAC and by PS (R195). -/
def prodOf (s : State) (p : Fin 16) (ps i j : Nat) : Int :=
  dIn s p i * dIn s p j * 2 ^ ((bit (srOp s p) 14).toNat + ps)

/-- The exact value lies outside the signed range of n bits. -/
def beyond (n : Nat) (v : Int) : Bool := decide (v < -(2 ^ (n - 1))) || decide (2 ^ (n - 1) ≤ v)

/-- The flags N, Z, U, E and V of an accumulator result (Table 06-7). -/
def accFl (a : BitVec 72) (e v : Bool) : List (Nat × Bool) :=
  [(3, a.getLsbD 71), (2, a == 0), (4, a.getLsbD 63 == a.getLsbD 62), (5, e), (1, v)]

/-- E of an accumulator: bits [71:63] not all equal. -/
def extUsed (a : BitVec 72) : Bool := a.toInt < -(2 ^ 63) || 2 ^ 63 ≤ a.toInt

/-- One accumulator result from its exact value. -/
def accDone (s : State) (p : Fin 16) (x : ArithArgs) (a : Fin 4) (v : Int) (t : State) : Prop :=
  let r := BitVec.ofInt 72 v
  Done s p x [(.ac a, r)] (accFl r (extUsed r) (beyond 72 v)) t

/-- Two accumulator results: N, Z and U of the first, E and V the OR of both (R197). -/
def accDone2 (s : State) (p : Fin 16) (x : ArithArgs) (a : Fin 2) (v w : Int) (t : State) : Prop :=
  let r := BitVec.ofInt 72 v
  let q := BitVec.ofInt 72 w
  Done s p x [(.ac (Fin.ofNat 4 (2 * a.val)), r), (.ac (Fin.ofNat 4 (2 * a.val + 1)), q)]
    (accFl r (extUsed r || extUsed q) (beyond 72 v || beyond 72 w)) t

/-- A D result, with N and Z of it and further flags. -/
def dDone (s : State) (p : Fin 16) (x : ArithArgs) (d : BitVec 4) (v : Word) (fl : List (Nat × Bool)) (t : State) : Prop :=
  Done s p x [(.d d.toFin, v.setWidth 72)] ([(3, v.getLsbD 31), (2, v == 0)] ++ fl) t

/-- The operand fields of a word. -/
def withF (x : ArithArgs) (f1 f2 f3 : BitVec 4) : ArithArgs := { x with f1 := f1, f2 := f2, f3 := f3 }

/-- F1 of a product: PS and the accumulator. -/
def fPs (ps : Fin 3) (a : Fin 4) : BitVec 4 := BitVec.ofNat 4 (4 * ps.val + a.val)

/-- F1 of a two-lane product: PS and the pair base. -/
def fPair (ps : Fin 3) (a : Fin 2) : BitVec 4 := BitVec.ofNat 4 (4 * ps.val + 2 * a.val)

/-- F1 of a complex product: J, PS and the pair base. -/
def fCplx (j ps : Bool) (a : Fin 2) : BitVec 4 := BitVec.ofNat 4 (8 * j.toNat + 4 * ps.toNat + 2 * a.val)

/-- An even register; one of a multiple of 4. -/
def even (i : Fin 8) : BitVec 4 := BitVec.ofNat 4 (2 * i.val)
def quad (i : Fin 4) : BitVec 4 := BitVec.ofNat 4 (4 * i.val)

/-- The complex product of Table 06-6: Dt conjugated for J = 1. -/
def cplx (s : State) (p : Fin 16) (j ps : Bool) (m n : Nat) : Int × Int :=
  let f (i k : Nat) := prodOf s p ps.toNat i k
  if j then (f m n + f (m + 1) (n + 1), f (m + 1) n - f m (n + 1)) else (f m n - f (m + 1) (n + 1), f m (n + 1) + f (m + 1) n)

/-- `m` rounded convergently to a multiple of 2^32, as the multiple: the nearest, and of two the even one (R154). -/
def roundsTo (m r : Int) : Prop :=
  (2 * (m - r * 2 ^ 32)).natAbs ≤ 2 ^ 32 ∧ ((2 * (m - r * 2 ^ 32)).natAbs = 2 ^ 32 → r % 2 = 0)

/-- Saturated to 32 bits. -/
def sat32 (v : Int) : Int := if v < -(2 ^ 31) then -(2 ^ 31) else if 2 ^ 31 ≤ v then 2 ^ 31 - 1 else v

/-- SAT of SR. -/
def satOn (s : State) (p : Fin 16) : Bool := bit (srOp s p) 15

/-- The instructions with a product, real: every one of Table 06-6 from MPY to QMAC, with what it leaves. -/
def realProducts (s : State) (p : Fin 16) (x : ArithArgs) : Prop :=
  (∀ (ps : Fin 3) (a : Fin 4) (m n : BitVec 4),
    let w := withF x (fPs ps a) m n
    let v := prodOf s p ps m.toNat n.toNat
    Runs (.opMpy p w) s (accDone s p x a v) ∧ Runs (.opMac p w) s (accDone s p x a (aIn s p a + v)) ∧
      Runs (.opMsu p w) s (accDone s p x a (aIn s p a - v))) ∧
  (∀ (ps : Fin 3) (a : Fin 4) (m n : Fin 8),
    let w := withF x (fPs ps a) (even m) (even n)
    let v := prodOf s p ps (2 * m) (2 * n) + prodOf s p ps (2 * m + 1) (2 * n + 1)
    Runs (.opMpy2 p w) s (accDone s p x a v) ∧ Runs (.opMac2 p w) s (accDone s p x a (aIn s p a + v)) ∧
      Runs (.opMsu2 p w) s (accDone s p x a (aIn s p a - v))) ∧
  (∀ (ps : Fin 3) (a : Fin 2) (m n : Fin 8),
    let w := withF x (fPair ps a) (even m) (even n)
    let v := prodOf s p ps (2 * m) (2 * n)
    let u := prodOf s p ps (2 * m + 1) (2 * n + 1)
    Runs (.opDmpy p w) s (accDone2 s p x a v u) ∧
      Runs (.opDmac p w) s
        (accDone2 s p x a (aIn s p (Fin.ofNat 4 (2 * a)) + v) (aIn s p (Fin.ofNat 4 (2 * a + 1)) + u))) ∧
  (∀ (ps : Fin 3) (a : Fin 2) (m n : Fin 4),
    Runs (.opQmac p (withF x (fPair ps a) (quad m) (quad n))) s
      (accDone2 s p x a
        (aIn s p (Fin.ofNat 4 (2 * a)) + (prodOf s p ps (4 * m) (4 * n) + prodOf s p ps (4 * m + 1) (4 * n + 1)))
        (aIn s p (Fin.ofNat 4 (2 * a + 1)) + (prodOf s p ps (4 * m + 2) (4 * n + 2) + prodOf s p ps (4 * m + 3) (4 * n + 3)))))

/-- A word issued with nothing in flight and its condition true: the accumulators take the exact sums of Table 06-6 modulo
2^72, of products shifted by FRAC and PS, with N, Z, U, E of the (first) result and V when a lane lies outside 72
bits; MPYR writes the product rounded convergently at bit 32, saturated with SAT = 1, and V and SV when it saturates.
Without moves in the word no other register, flag, Press or byte of memory changes. Every legal operand field and
every legal move field is covered. -/
def Obligations.ProductInstructions : Prop :=
  ∀ (s : State) (p : Fin 16) (x : ArithArgs), Canonical s → Issues s p → wordRuns s p x →
    realProducts s p x ∧
    (∀ (j ps : Bool) (a : Fin 2) (m n : Fin 8),
      let w := withF x (fCplx j ps a) (even m) (even n)
      let v := cplx s p j ps (2 * m) (2 * n)
      let a0 := aIn s p (Fin.ofNat 4 (2 * a))
      let a1 := aIn s p (Fin.ofNat 4 (2 * a + 1))
      Runs (.opCmpy p w) s (accDone2 s p x a v.1 v.2) ∧ Runs (.opCmac p w) s (accDone2 s p x a (a0 + v.1) (a1 + v.2)) ∧
        Runs (.opCmsu p w) s (accDone2 s p x a (a0 - v.1) (a1 - v.2))) ∧
    (∀ (d m n : BitVec 4) (r : Int), roundsTo (prodOf s p 0 m.toNat n.toNat) r →
      let o := satOn s p && beyond 32 r
      Runs (.opMpyr p (withF x d m n)) s
        (dDone s p x d (BitVec.ofInt 32 (if satOn s p then sat32 r else r)) ([(1, o)] ++ if o then [(7, true)] else [])))


/-- An accumulator shifted by k, left for k > 0: times 2^k modulo 2^72, or divided by 2^-k rounding down. -/
def shifted (a : BitVec 72) (k : Int) : BitVec 72 :=
  if 0 ≤ k then BitVec.ofInt 72 (a.toInt * 2 ^ k.toNat) else BitVec.ofInt 72 (a.toInt.fdiv (2 ^ (-k).toNat))

/-- The flags of a shift (Table 06-7): V when a left shift lost a bit that differs from the sign of the result, C the last bit
shifted out; a count of 0 keeps C. -/
def shiftFl (a : BitVec 72) (k : Int) : List (Nat × Bool) :=
  let r := shifted a k
  accFl r (extUsed r) (decide (0 < k) && decide (r.toInt ≠ a.toInt * 2 ^ k.toNat)) ++
    (if k = 0 then [] else [(0, if 0 < k then a.getLsbD (72 - k.toNat) else a.getLsbD ((-k).toNat - 1))])

/-- e is e(AC) of R196: the value with its first significant bit at bit 62 after a left shift by e; 63 for 0 and -1. -/
def accCount (a : BitVec 72) (e : Int) : Prop :=
  ((a = 0 ∨ a = BitVec.allOnes 72) ∧ e = 63) ∨
    (a ≠ 0 ∧ a ≠ BitVec.allOnes 72 ∧ -8 ≤ e ∧ e ≤ 62 ∧ (∀ i, i < 72 → (62 - e).toNat < i → a.getLsbD i = a.getLsbD 71) ∧
      a.getLsbD (62 - e).toNat ≠ a.getLsbD 71)

/-- e counts the bits after bit 31 that equal bit 31, at most 31 (R196). -/
def dCount (v : Word) (e : Nat) : Prop :=
  e ≤ 31 ∧ (∀ i, i < 32 → 31 - e ≤ i → v.getLsbD i = v.getLsbD 31) ∧ (e < 31 → v.getLsbD (30 - e) ≠ v.getLsbD 31)

/-- With nothing in flight and the condition true: sums, differences, copy, negation, magnitude and clear of accumulators
are exact modulo 2^72; RND rounds convergently at bit 32, clears [31:0] and saturates with SAT = 1; SATA clamps to the
values whose store needs no saturation, setting SV when it clamps; the shifts multiply by 2^k modulo 2^72 or divide
rounding down, with V and C of Table 06-7; EXP and EXPD give the counts of R196, and NORM shifts by that count and
writes it to Dd. -/
def Obligations.AccumulatorInstructions : Prop :=
  ∀ (s : State) (p : Fin 16) (x : ArithArgs), Canonical s → Issues s p → wordRuns s p x →
    (∀ (a b : Fin 4),
      let w := withF x (BitVec.ofNat 4 a) (BitVec.ofNat 4 b) 0
      Runs (.opAdda p w) s (accDone s p x a (aIn s p a + aIn s p b)) ∧
        Runs (.opSuba p w) s (accDone s p x a (aIn s p a - aIn s p b)) ∧ Runs (.opMova p w) s (accDone s p x a (aIn s p b))) ∧
    (∀ a : Fin 4,
      let w := withF x (BitVec.ofNat 4 a) 0 0
      Runs (.opNega p w) s (accDone s p x a (-aIn s p a)) ∧ Runs (.opAbsa p w) s (accDone s p x a |aIn s p a|) ∧
        Runs (.opClra p w) s (accDone s p x a 0)) ∧
    (∀ (a : Fin 4) (r : Int), roundsTo (aIn s p a) r →
      let q := (if satOn s p then sat32 r else r) * 2 ^ 32
      let v := BitVec.ofInt 72 q
      Runs (.opRnd p (withF x (BitVec.ofNat 4 a) 0 0)) s
        (Done s p x [(.ac a, v)] (accFl v (extUsed v) (beyond 72 q) ++ if satOn s p && beyond 32 r then [(7, true)] else []))) ∧
    (∀ a : Fin 4,
      let q := max storeMin (min storeMax (aIn s p a))
      let v := BitVec.ofInt 72 q
      Runs (.opSata p (withF x (BitVec.ofNat 4 a) 0 0)) s
        (Done s p x [(.ac a, v)] (accFl v (extUsed v) false ++ if q ≠ aIn s p a then [(7, true)] else []))) ∧
    (∀ (a : Fin 4) (k : BitVec 8) (m : BitVec 4) (c : Int), k.toInt.natAbs ≤ 72 →
      (Runs (.opAsla p (withF x (BitVec.ofNat 4 a) (k.extractLsb' 4 4) (k.extractLsb' 0 4))) s
        (Done s p x [(.ac a, shifted (aOp s p a) k.toInt)] (shiftFl (aOp s p a) k.toInt))) ∧
      (c = max (-72) (min 72 (dIn s p m.toNat)) →
        Runs (.opAslv p (withF x (BitVec.ofNat 4 a) m 0)) s
          (Done s p x [(.ac a, shifted (aOp s p a) c)] (shiftFl (aOp s p a) c)))) ∧
    (∀ (a : Fin 4) (d : BitVec 4) (e : Int), accCount (aOp s p a) e →
      Runs (.opExp p (withF x d (BitVec.ofNat 4 a) 0)) s (dDone s p x d (BitVec.ofInt 32 e) [(1, false)]) ∧
      Runs (.opNorm p (withF x (BitVec.ofNat 4 a) d 0)) s
        (Done s p x [(.ac a, shifted (aOp s p a) e), (.d d.toFin, (BitVec.ofInt 32 e).setWidth 72)]
          (shiftFl (aOp s p a) e))) ∧
    (∀ (d m : BitVec 4) (e : Nat), dCount (dOp s p m.toFin) e →
      Runs (.opExpd p (withF x d m 0)) s (dDone s p x d (BitVec.ofNat 32 e) [(1, false)]))

/-- With nothing in flight and the condition true: ADD and SUB wrap and ADDS and SUBS saturate, with V the signed
overflow, C the carry or no borrow, and SV when saturated; logic, minimum and maximum clear V; the shifts take the
count Dt[5:0], where 32 or more gives 0 or the sign, clear V and set C to the last bit shifted out, kept for a count
of 0; ABS and NEG of 0x8000_0000 set V and saturate with SAT = 1, setting SV; CMP sets the flags of a difference and
writes no register; NOP changes no register and no flag. -/
def Obligations.DataInstructions : Prop :=
  ∀ (s : State) (p : Fin 16) (x : ArithArgs), Canonical s → Issues s p → wordRuns s p x →
    (∀ (d m n : BitVec 4),
      let w := withF x d m n
      let a := dOp s p m.toFin
      let b := dOp s p n.toFin
      let vp := beyond 32 (a.toInt + b.toInt)
      let vm := beyond 32 (a.toInt - b.toInt)
      let cp := decide (2 ^ 32 ≤ a.toNat + b.toNat)
      let cm := decide (b.toNat ≤ a.toNat)
      Runs (.opAdd p w) s (dDone s p x d (a + b) [(1, vp), (0, cp)]) ∧
      Runs (.opAdds p w) s
        (dDone s p x d (BitVec.ofInt 32 (sat32 (a.toInt + b.toInt))) ([(1, vp), (0, cp)] ++ if vp then [(7, true)] else [])) ∧
      Runs (.opSub p w) s (dDone s p x d (a - b) [(1, vm), (0, cm)]) ∧
      Runs (.opSubs p w) s
        (dDone s p x d (BitVec.ofInt 32 (sat32 (a.toInt - b.toInt))) ([(1, vm), (0, cm)] ++ if vm then [(7, true)] else [])) ∧
      Runs (.opAnd p w) s (dDone s p x d (a &&& b) [(1, false)]) ∧ Runs (.opOr p w) s (dDone s p x d (a ||| b) [(1, false)]) ∧
      Runs (.opXor p w) s (dDone s p x d (a ^^^ b) [(1, false)]) ∧
      Runs (.opMin p w) s (dDone s p x d (if a.toInt ≤ b.toInt then a else b) [(1, false)]) ∧
      Runs (.opMax p w) s (dDone s p x d (if b.toInt ≤ a.toInt then a else b) [(1, false)])) ∧
    (∀ (d m n : BitVec 4) (k : Nat), k = (dOp s p n.toFin).toNat % 64 →
      let w := withF x d m n
      let a := dOp s p m.toFin
      let fl (c : Bool) : List (Nat × Bool) := [(1, false)] ++ if k = 0 then [] else [(0, c)]
      Runs (.opLsl p w) s (dDone s p x d (BitVec.ofNat 32 (a.toNat * 2 ^ k)) (fl (decide (k ≤ 32) && a.getLsbD (32 - k)))) ∧
      Runs (.opAsr p w) s (dDone s p x d (BitVec.ofInt 32 (a.toInt.fdiv (2 ^ k))) (fl (a.getLsbD (min 31 (k - 1))))) ∧
      Runs (.opLsr p w) s (dDone s p x d (BitVec.ofNat 32 (a.toNat / 2 ^ k)) (fl (a.getLsbD (k - 1))))) ∧
    (∀ (d m : BitVec 4),
      let w := withF x d m 0
      let a := dOp s p m.toFin
      let o := a == 0x80000000#32
      let fl := [(1, o)] ++ if o && satOn s p then [(7, true)] else []
      Runs (.opAbs p w) s (dDone s p x d (if o && satOn s p then 0x7FFFFFFF#32 else if a.toInt < 0 then -a else a) fl) ∧
      Runs (.opNeg p w) s (dDone s p x d (if o && satOn s p then 0x7FFFFFFF#32 else -a) fl)) ∧
    (∀ (m n : BitVec 4),
      let a := dOp s p m.toFin
      let b := dOp s p n.toFin
      Runs (.opCmp p (withF x 0 m n)) s
        (Done s p x [] [(3, (a - b).getLsbD 31), (2, a == b), (1, beyond 32 (a.toInt - b.toInt)), (0, decide (b.toNat ≤ a.toNat))])) ∧
    (x.cond = 0 → Runs (.opNop p (withF x 0 0 0)) s (Done s p x [] []))


/-- The 22 bits of an arithmetic field name an operation of Table 06-6 with legal operand fields, or NOP. -/
def arithFieldLegal (f : BitVec 22) : Bool :=
  arithLegal (f.extractLsb' 16 6).toNat (f.extractLsb' 12 4).toNat (f.extractLsb' 8 4).toNat (f.extractLsb' 4 4).toNat
    (f.extractLsb' 0 4).toNat

/-- Every arithmetic instruction of Table 06-6 but NOP, with the given fields. -/
def arithCmds (p : Fin 16) (x : ArithArgs) : List Instr :=
  [.opMpy p x, .opMac p x, .opMsu p x, .opMpy2 p x, .opMac2 p x, .opMsu2 p x, .opDmpy p x, .opDmac p x, .opQmac p x,
  .opCmpy p x, .opCmac p x, .opCmsu p x, .opMpyr p x, .opAdda p x, .opSuba p x, .opMova p x, .opNega p x, .opAbsa p x,
  .opClra p x, .opRnd p x, .opSata p x, .opAsla p x, .opAslv p x, .opExp p x, .opNorm p x, .opExpd p x, .opAdd p x,
  .opAdds p x, .opSub p x, .opSubs p x, .opAnd p x, .opOr p x, .opXor p x, .opLsl p x, .opAsr p x, .opLsr p x, .opMin p
  x, .opMax p x, .opAbs p x, .opNeg p x, .opCmp p x]

/-- The operand fields of an arithmetic instruction are those that Table 06-6 and Table 06-8 allow. -/
def arithFieldsLegal (c : Instr) : Bool :=
  match c with
  | .opMpy _ x | .opMac _ x | .opMsu _ x => x.cond != 15 && decide (x.f1.toNat < 12)
  | .opMpy2 _ x | .opMac2 _ x | .opMsu2 _ x =>
    x.cond != 15 && decide (x.f1.toNat < 12) && x.f2.toNat % 2 == 0 && x.f3.toNat % 2 == 0
  | .opDmpy _ x | .opDmac _ x =>
    x.cond != 15 && decide (x.f1.toNat < 12) && x.f1.toNat % 2 == 0 && x.f2.toNat % 2 == 0 && x.f3.toNat % 2 == 0
  | .opQmac _ x => x.cond != 15 && decide (x.f1.toNat < 12) && x.f1.toNat % 2 == 0 && x.f2.toNat % 4 == 0 && x.f3.toNat % 4 == 0
  | .opCmpy _ x | .opCmac _ x | .opCmsu _ x =>
    x.cond != 15 && x.f1.toNat % 2 == 0 && x.f2.toNat % 2 == 0 && x.f3.toNat % 2 == 0
  | .opAdda _ x | .opSuba _ x | .opMova _ x =>
    x.cond != 15 && decide (x.f1.toNat < 4) && decide (x.f2.toNat < 4) && x.f3 == 0
  | .opNega _ x | .opAbsa _ x | .opClra _ x | .opRnd _ x | .opSata _ x =>
    x.cond != 15 && decide (x.f1.toNat < 4) && x.f2 == 0 && x.f3 == 0
  | .opAsla _ x => x.cond != 15 && decide (x.f1.toNat < 4) && decide ((x.f2 ++ x.f3 : BitVec 8).toInt.natAbs ≤ 72)
  | .opAslv _ x | .opNorm _ x => x.cond != 15 && decide (x.f1.toNat < 4) && x.f3 == 0
  | .opExp _ x => x.cond != 15 && decide (x.f2.toNat < 4) && x.f3 == 0
  | .opExpd _ x | .opAbs _ x | .opNeg _ x => x.cond != 15 && x.f3 == 0
  | .opCmp _ x => x.cond != 15 && x.f1 == 0
  | .opAdd _ x | .opAdds _ x | .opSub _ x | .opSubs _ x | .opAnd _ x | .opOr _ x | .opXor _ x | .opLsl _ x | .opAsr _ x
  | .opLsr _ x | .opMin _ x | .opMax _ x | .opMpyr _ x => x.cond != 15
  | .opNop _ x => x.cond == 0 && x.f1 == 0 && x.f2 == 0 && x.f3 == 0
  | _ => true

/-- The word is not executed: FAULT becomes pending, one cycle passes, and nothing else changes (R163). -/
def notExecuted (s : State) (p : Fin 16) (t : State) : Prop :=
  passed s p t ∧ t.press[p].fault = true ∧
    (∀ (g : PReg) (k : Nat), newAt s t p k g = seenAt (fetchStep s.press[p]) (s.press[p].cyc + k) g) ∧
    (let f := fetchStep s.press[p]
     let b := t.press[p]
     b = { f with
       cyc := b.cyc, pc := b.pc, next := b.next, br := b.br, rep := b.rep, brkSeen := b.brkSeen, fault := b.fault, faultPc := b.faultPc }) ∧
    (s.press[p].fault = false → t.press[p].faultPc = s.press[p].pc ∧
      rget t (aPRESS_FAULTINFO p) = fld 1 28 ||| fld s.press[p].pc.toNat 0) ∧
    OtherPresses p s t ∧ KeepsBut [.press, .regs] s t ∧ RegsOnly [aPRESS_FAULTINFO p] s t

/-- A register specifier that can name a pair: an even D register, AC0 or AC2 (R192). -/
def pairNamed (reg : BitVec 6) : Bool := decide (reg.toNat < 16) && reg.toNat % 2 == 0 || reg == 16 || reg == 18

/-- A move or long word of Press `p` whose fields are illegal: a reserved mode, a pair of a register that names none, or an illegal
other field (R188, R190, R192). -/
def moveIllegal (p : Fin 16) (c : Instr) : Bool :=
  match c with
  | .moveLoad q x | .moveStore q x =>
    q == p && (decide (6 ≤ x.mode.toNat) || x.pair && !pairNamed x.reg || !moveLegal x.other)
  | .pointerUpdate q x => q == p && (decide (6 ≤ x.mode.toNat) || !moveLegal x.other)
  | .moveRegister q x => q == p && !moveLegal x.other
  | .longAbsolute q x => q == p && (x.pair && !pairNamed x.reg || !arithFieldLegal x.arith)
  | .longImmediate q x => q == p && !arithFieldLegal x.arith
  | _ => false

/-- The word lies in the last three words of an active loop (R163): LE as stage 3 sees it. -/
def nearEnd (s : State) (p : Fin 16) : Prop :=
  let f := fetchStep s.press[p]
  ∃ n : Fin 2, f.la[n] = true ∧ s.press[p].pc.toNat ≤ (regAtCycle f (s.press[p].cyc + 2) (.le n)).toNat ∧
    (regAtCycle f (s.press[p].cyc + 2) (.le n)).toNat ≤ s.press[p].pc.toNat + 2

/-- IE as a control word sees it. -/
def ieSeen (s : State) (p : Fin 16) : Bool := (regAtCycle (fetchStep s.press[p]) (s.press[p].cyc + 3) .sr).getLsbD 23

/-- A control word of Press `p` that R163 calls illegal where it stands: in a delay slot; a branch, call, return, REP or LOOP in the
last three words of an active loop; the reserved condition; a return on an empty stack; a LOOP beyond two levels or of fewer than three
words; WAIT with IE = 0; TRAP in a U4 handler; a reserved MOVS code. -/
def ctlIllegal (s : State) (p : Fin 16) (c : Instr) : Prop :=
  let slot : Prop := s.press[p].br ≠ none
  let loops : Prop := (fetchStep s.press[p]).la = Vector.replicate 2 true
  match c with
  | .bra q k _ | .call q k _ | .jmpr q k _ => q = p ∧ (slot ∨ nearEnd s p ∨ k = 15)
  | .rts q k => q = p ∧ (slot ∨ nearEnd s p ∨ k = 15 ∨ s.press[p].stack = [])
  | .rti q => q = p ∧ (slot ∨ nearEnd s p ∨ s.press[p].stack = [])
  | .rep q _ | .repr q _ => q = p ∧ (slot ∨ nearEnd s p)
  | .loop q _ e | .loopr q _ e => q = p ∧ (slot ∨ nearEnd s p ∨ loops ∨ e.toNat < s.press[p].pc.toNat + 3)
  | .wait q => q = p ∧ (slot ∨ ieSeen s p = false)
  | .trap q => q = p ∧ (slot ∨ u4Of s p = true ∧ s.press[p].ih = true)
  | .movs q x => q = p ∧ (slot ∨ 7 ≤ x.creg.toNat)
  | _ => False

/-- A control word of Press `p` other than MOVS. -/
def sequenceWord (p : Fin 16) (c : Instr) : Bool :=
  match c with
  | .bra q _ _ | .call q _ _ | .jmpr q _ _ | .rts q _ | .rti q | .rep q _ | .repr q _ | .loop q _ _ | .loopr q _ _ | .wait q
  | .trap q => q == p
  | _ => false

/-- An arithmetic word without moves whose condition is false and whose fields are legal changes no register, no flag and
no memory, and the Press passes it. An arithmetic, move, long or control word that R163 or R188 calls illegal is not
executed: no register of the Press and no byte of memory changes by it, one cycle passes, FAULT becomes pending, and
FAULTINFO holds cause 1 and the word's address unless a fault was pending already; a control word other than MOVS
behind a REP ends the REP and makes the REP the illegal word. A D result is not seen before the third cycle after its
word (Table 06-10). A word whose fetch meets an uncorrectable error puts the Press in FAULTED with cause 4. -/
def Obligations.SuppressedAndIllegalWords : Prop :=
  (∀ (s : State) (p : Fin 16) (x : ArithArgs) (c : Instr), Canonical s → Issues s p → noMoves x → x.cond ≠ 15 →
    condHolds x.cond.toNat (srOp s p) = false → c ∈ arithCmds p x → arithFieldsLegal c = true → Runs c s (Done s p x [] [])) ∧
  (∀ (s : State) (p : Fin 16) (x : ArithArgs) (c : Instr), Canonical s → Issues s p → c ∈ arithCmds p x ∨ c = .opNop p x →
    arithFieldsLegal c = false ∨ ¬ movesLegal x → Runs c s (notExecuted s p)) ∧
  (∀ (s : State) (p : Fin 16) (c : Instr), Canonical s → Issues s p → moveIllegal p c = true → Runs c s (notExecuted s p)) ∧
  (∀ (s : State) (p : Fin 16) (c : Instr), Canonical s → Issues s p → ctlIllegal s p c → Runs c s (notExecuted s p)) ∧
  (∀ (s : State) (p : Fin 16) (c : Instr) (n : Nat), Canonical s → canIssue s p = true → s.press[p].rep = some n → s.fab.flips = [] →
    (isSolo s = true → haltBit s p = false) → sequenceWord p c = true → Runs c s fun t => t.press[p].fault = true ∧
      t.press[p].rep = none ∧ t.press[p].pc = s.press[p].pc ∧ t.press[p].r = s.press[p].r ∧ t.press[p].pend = s.press[p].pend ∧
      t.press[p].stack = s.press[p].stack ∧ OtherPresses p s t ∧ KeepsBut [.press, .regs] s t ∧
      (s.press[p].fault = false → rget t (aPRESS_FAULTINFO p) = fld 1 28 ||| fld (s.press[p].pc - 1).toNat 0)) ∧
  (∀ (s : State) (p : Fin 16) (x : ArithArgs) (d m n : BitVec 4), Canonical s → Issues s p → wordRuns s p x → noMoves x →
    Runs (.opAdd p (withF x d m n)) s fun t => ∀ k, k ≤ 5 → newAt s t p k (.d d.toFin) = oldAt s p k (.d d.toFin)) ∧
  (∀ (s : State) (p : Fin 16) (x : ArithArgs) (c : Instr), Canonical s → canIssue s p = true → inRom s p = false →
    (ueAt s (pressBase p + 8 * s.press[p].pc.toNat) = true ∨ flipsAt s (pressBase p + 8 * s.press[p].pc.toNat) = 0 ∧
      ueAt s (pressBase p + 8 * s.press[p].pc.toNat + 4) = true) → c ∈ arithCmds p x →
    Runs c s fun t => t.press[p].mode = .faulted ∧ t.press[p].pc = s.press[p].pc ∧
      rget t (aPRESS_FAULTINFO p) = fld 4 28 ||| fld s.press[p].pc.toNat 0)

/-! ### Press moves and control words -/

/-- A pointer register as address generation sees it, in the second cycle after the issue (R158). -/
def ptrOp (s : State) (p : Fin 16) (g : PReg) : BitVec 20 := (oldAt s p 2 g).setWidth 20

/-- The address of a move field (Table 05-4): [Pn + M] for mode 4, else Pn. -/
def moveAddr (s : State) (p : Fin 16) (mode : BitVec 3) (n : Fin 8) : BitVec 20 :=
  if mode = 4 then upd (ptrOp s p (.l n)) (ptrOp s p (.b n)) (ptrOp s p (.p n)) (ptrOp s p (.m n)) else ptrOp s p (.p n)

/-- Pn after the move field. -/
def ptrAfter (s : State) (p : Fin 16) (mode : BitVec 3) (n : Fin 8) : BitVec 20 :=
  let go (m : BitVec 20) := upd (ptrOp s p (.l n)) (ptrOp s p (.b n)) (ptrOp s p (.p n)) m
  match mode.toNat with
  | 1 => go 1
  | 2 => go (-1)
  | 3 => go (ptrOp s p (.m n))
  | 5 => go 2
  | _ => ptrOp s p (.p n)

/-- The mode moves its pointer (Table 05-4). -/
def advances (mode : BitVec 3) : Bool := mode != 0 && mode != 4

/-- The pointer that a move field writes. -/
def ptrMoved (mode : BitVec 3) (n : Fin 8) : List PReg := if advances mode then [.p n] else []

/-- The system byte address of a word of the X or the Y bank. -/
def bankAddr (p : Fin 16) (y : Bool) (a : Nat) : Nat := if y then yAddr p a else xAddr p a

/-- The I/O registers lie at the top of the X space (Table 05-10). -/
def isIo (y : Bool) (a : Nat) : Prop := y = false ∧ 0xFFF00 ≤ a

/-- No bank word and no I/O register is at the address (R150). -/
def unpopulated (y : Bool) (a : Nat) : Prop := 40960 ≤ a ∧ ¬ isIo y a

/-- What a load of an I/O register reads (Table 05-10): the block number, ring positions, message counts, flags, the cycles since the
tick, the budget, the record size and channels of the input ring, and the fault. -/
def ioWord (s : State) (p : Fin 16) (o : Nat) : Word :=
  let x := s.press[p]
  match o with
  | 0 => BitVec.ofNat 32 x.blk
  | 1 => BitVec.ofNat 32 (x.blk / 2 ^ 32)
  | 2 => BitVec.ofNat 32 x.inPos
  | 3 => BitVec.ofNat 32 x.outPos
  | 4 => x.msgWr.setWidth 32
  | 5 => x.msgRd.setWidth 32
  | 6 => x.flags
  | 7 => BitVec.ofNat 32 (min (x.cyc - x.tickCyc) (2 ^ 32 - 1))
  | 8 => BitVec.ofNat 32 x.cfg.budget
  | 9 => fld (recWords x.cfg) 16 ||| fld (ownedCount x.cfg) 0
  | 11 => rget s (aPRESS_FAULTINFO p)
  | _ => 0

/-- What a load reads at a data address (R149, R150). -/
def dataWord (s : State) (p : Fin 16) (y : Bool) (a : Nat) : Word :=
  if a < 40960 then rdWord s (bankAddr p y a) else if y = false ∧ 0xFFF00 ≤ a then ioWord s p (a - 0xFFF00) else 0

/-- What a write of `w` to a register specifier leaves, from the fifth cycle after the issue on (Table 06-4). -/
def wroteSpec (s : State) (p : Fin 16) (code : BitVec 6) (w : Word) (t : State) : Prop :=
  let c := code.toNat
  (∀ i : Fin 16, c = i.val → newAt s t p 5 (.d i) = w.setWidth 72) ∧
  (∀ i : Fin 4, c = 16 + i.val → newAt s t p 5 (.ac i) = BitVec.ofInt 72 (w.toInt * 2 ^ 32)) ∧
  (∀ i : Fin 4, c = 20 + i.val → (newAt s t p 5 (.ac i)).extractLsb' 0 32 = w) ∧
  (∀ i : Fin 4, c = 24 + i.val → (newAt s t p 5 (.ac i)).extractLsb' 32 32 = w) ∧
  (∀ i : Fin 4, c = 28 + i.val → (newAt s t p 5 (.ac i)).extractLsb' 64 8 = w.setWidth 8) ∧
  (∀ i : Fin 8, c = 32 + i.val → newAt s t p 5 (.p i) = (w.setWidth 20).setWidth 72) ∧
  (∀ i : Fin 8, c = 40 + i.val → newAt s t p 5 (.m i) = (w.setWidth 20).setWidth 72) ∧
  (∀ i : Fin 8, c = 48 + i.val → newAt s t p 5 (.l i) = (w.setWidth 20).setWidth 72) ∧
  (∀ i : Fin 8, c = 56 + i.val → newAt s t p 5 (.b i) = (w.setWidth 20).setWidth 72)

/-- A write of a part of an accumulator keeps its other parts. -/
def keptParts (s : State) (p : Fin 16) (code : BitVec 6) (t : State) : Prop :=
  let c := code.toNat
  let old (i : Fin 4) : BitVec 72 := oldAt s p 5 (.ac i)
  let new (i : Fin 4) : BitVec 72 := newAt s t p 5 (.ac i)
  (∀ i : Fin 4, c = 20 + i.val → (new i).extractLsb' 32 40 = (old i).extractLsb' 32 40) ∧
  (∀ i : Fin 4, c = 24 + i.val → (new i).extractLsb' 0 32 = (old i).extractLsb' 0 32 ∧
    (new i).extractLsb' 64 8 = (old i).extractLsb' 64 8) ∧
  (∀ i : Fin 4, c = 28 + i.val → (new i).extractLsb' 0 64 = (old i).extractLsb' 0 64)

/-- `w` is what a move reads from a register specifier, in the third cycle after the issue (Table 06-4, R202). -/
def readsAs (s : State) (p : Fin 16) (code : BitVec 6) (w : Word) : Prop :=
  let c := code.toNat
  let ac (i : Fin 4) : BitVec 72 := oldAt s p 3 (.ac i)
  let low (g : PReg) : BitVec 20 := (oldAt s p 3 g).setWidth 20
  (∀ i : Fin 16, c = i.val → w = dOp s p i) ∧
  (∀ i : Fin 4, c = 16 + i.val → ∃ v, roundsTo (ac i).toInt v ∧ w = BitVec.ofInt 32 (if satOn s p then sat32 v else v)) ∧
  (∀ i : Fin 4, c = 20 + i.val → w = (ac i).extractLsb' 0 32) ∧
  (∀ i : Fin 4, c = 24 + i.val → w = (ac i).extractLsb' 32 32) ∧
  (∀ i : Fin 4, c = 28 + i.val → w = ((ac i).extractLsb' 64 8).signExtend 32) ∧
  (∀ i : Fin 8, c = 32 + i.val → w = (low (.p i)).setWidth 32) ∧
  (∀ i : Fin 8, c = 40 + i.val → w = (low (.m i)).signExtend 32) ∧
  (∀ i : Fin 8, c = 48 + i.val → w = (low (.l i)).setWidth 32) ∧
  (∀ i : Fin 8, c = 56 + i.val → w = (low (.b i)).setWidth 32)

/-- The accumulator that a specifier stores rounded saturates (R191). -/
def saturates (s : State) (p : Fin 16) (code : BitVec 6) : Prop :=
  satOn s p = true ∧
    ∃ (i : Fin 4) (v : Int), code.toNat = 16 + i.val ∧ roundsTo (oldAt s p 3 (.ac i)).toInt v ∧ beyond 32 v = true

/-- SV after a word that reads the given specifiers: set when one of them saturates, else as before (R191). -/
def svAfter (s : State) (p : Fin 16) (codes : List (BitVec 6)) (t : State) : Prop :=
  ((∃ c ∈ codes, saturates s p c) → (newAt s t p 6 .sr).getLsbD 7 = true) ∧
    ((∀ c ∈ codes, ¬ saturates s p c) → (newAt s t p 6 .sr).getLsbD 7 = (oldAt s p 6 .sr).getLsbD 7)

/-- The registers of the Press but the listed ones and SR are as before, the flags but SV too, and so is what the word does not name;
the other Presses are untouched. -/
def KeepsRegs (s : State) (p : Fin 16) (l : List PReg) (t : State) : Prop :=
  passed s p t ∧ sameControl s p t ∧ OtherPresses p s t ∧
  (∀ (g : PReg) (k : Nat), g ≠ .sr → g ∉ l → newAt s t p k g = oldAt s p k g) ∧
  (∀ b, b < 32 → b ≠ 7 → (newAt s t p 6 .sr).getLsbD b = (oldAt s p 6 .sr).getLsbD b)

/-- A store of `w` to the word of the bank at `a`, and no other byte of memory changes. -/
def stores (s : State) (p : Fin 16) (y : Bool) (a : Nat) (w : Word) (t : State) : Prop :=
  rdWord t (bankAddr p y a) = w ∧
    ∀ k, ¬ (bankAddr p y a ≤ k ∧ k < bankAddr p y a + 4) → rdByte t k = rdByte s k

/-- A store of `w` to the I/O register at `a`: MSG_RD takes the count, SIGNAL reaches the host, and the others ignore it (Table 05-10). -/
def ioStored (s : State) (p : Fin 16) (a : Nat) (w : Word) (t : State) : Prop :=
  t.press[p].msgRd = (if a = 0xFFF05 then w.setWidth 16 else s.press[p].msgRd) ∧ MemSame s t ∧
    (a = 0xFFF0A → rget t (aPRESS_SIGNAL p) = w ∧ rbit t (aISTAT (pgPRESS p)) 5 = true ∧
      RegsOnly [aPRESS_SIGNAL p, aISTAT (pgPRESS p)] s t) ∧
    (a ≠ 0xFFF0A → KeepsBut [.press] s t)

/-- An address error at `a` is pending (R150), and nothing but the fault record changes outside the Press. -/
def addrError (s : State) (p : Fin 16) (a : Nat) (t : State) : Prop :=
  t.press[p].fault = true ∧ KeepsBut [.press, .regs] s t ∧ RegsOnly [aPRESS_FAULTINFO p] s t ∧
    (s.press[p].fault = false → t.press[p].faultPc = s.press[p].pc ∧ rget t (aPRESS_FAULTINFO p) = fld 2 28 ||| fld a 0)

/-- The KIND of a move field (Table 06-3). -/
def kindOf (f : BitVec 20) : Nat := (f.extractLsb' 18 2).toNat

/-- A word with a move field that updates Pn by m (1, -1, Mn or 2 by its mode) leaves Pn + m when Ln is 0; the
reverse-carry sum from Bn when Ln is 0xF_FFFF; and otherwise P' = Pn + m, corrected once by Ln when it has reached Bn
+ Ln, or lies below Bn. The registers are those that address generation sees, and the pointer is visible from the
third cycle on; a field of the other bank may do anything legal when the named field is the Y field, which comes
second. -/
def Obligations.PointerUpdateFollowsR156 : Prop :=
  ∀ (s : State) (p : Fin 16) (x : PtrArgs) (n : Fin 8) (m : BitVec 20) (q : Int), Canonical s → Issues s p →
    (x.other = 0 ∨ x.y = true ∧ moveLegal x.other = true) → n.val = x.pn.toNat →
    ((x.mode = 1 ∧ m = 1) ∨ (x.mode = 2 ∧ m = -1) ∨ (x.mode = 3 ∧ m = ptrOp s p (.m n)) ∨ (x.mode = 5 ∧ m = 2)) →
    q = (ptrOp s p (.p n)).toNat + m.toInt →
    Runs (.pointerUpdate p x) s fun t =>
      let L := ptrOp s p (.l n)
      let B := ptrOp s p (.b n)
      let P := ptrOp s p (.p n)
      let new := newAt s t p 3 (.p n)
      (L = 0 → new = (P + m).setWidth 72) ∧
      (L = 0xFFFFF#20 → new = (B + ((P - B).reverse + m.reverse).reverse).setWidth 72) ∧
      (L ≠ 0 → L ≠ 0xFFFFF#20 →
        (B.toNat + L.toNat ≤ q → new = (P + m - L).setWidth 72) ∧
        (q < B.toNat → new = (P + m + L).setWidth 72) ∧
        (B.toNat ≤ q → q < B.toNat + L.toNat → new = (P + m).setWidth 72)) ∧
      (x.other = 0 → MemSame s t ∧ KeepsRegs s p [.p n] t ∧ KeepsBut [.press] s t)

/-- A load writes what stands at the address of its mode (a bank word, an I/O register, or 0 where nothing is) to its
register specifier; a pair load at an even address writes both registers, at an odd one neither. A store writes what
its specifier reads to that word; a pair stores both, and an I/O store acts on MSG_RD or SIGNAL. The pointer moves by
its mode. An unpopulated address, and a pair at an odd one, make the address error pending and store nothing. SV sets
when a stored accumulator saturates. With the other field idle nothing else changes; a legal other field leaves the
result to this one unless it writes the same thing after it. -/
def Obligations.LoadsAndStores : Prop :=
  (∀ (s : State) (p : Fin 16) (x : MoveArgs) (n : Fin 8) (a : Nat), Canonical s → Issues s p → moveLegal x.other = true →
    x.mode.toNat < 6 → (x.pair = true → pairNamed x.reg = true) → n.val = x.pn.toNat → a = (moveAddr s p x.mode n).toNat →
    Runs (.moveLoad p x) s fun t =>
      (x.y = true ∨ kindOf x.other = 0 ∨ kindOf x.other = 2 →
        (x.pair = false → wroteSpec s p x.reg (dataWord s p x.y a) t) ∧
        (x.pair = true → a % 2 = 0 → wroteSpec s p x.reg (dataWord s p x.y a) t ∧
          wroteSpec s p (x.reg + 1) (dataWord s p x.y (a + 1)) t)) ∧
      (advances x.mode = true → x.y = true ∨ x.other = 0 → newAt s t p 3 (.p n) = (ptrAfter s p x.mode n).setWidth 72) ∧
      (unpopulated x.y a ∨ (x.pair = true ∧ a % 2 = 1) → t.press[p].fault = true) ∧
      (x.other = 0 → MemSame s t ∧ keptParts s p x.reg t ∧ svAfter s p [] t ∧
        (x.pair = false → KeepsRegs s p ((specReg x.reg).1 :: ptrMoved x.mode n) t) ∧
        (x.pair = true → a % 2 = 0 → KeepsRegs s p ((specReg x.reg).1 :: (specReg (x.reg + 1)).1 :: ptrMoved x.mode n) t) ∧
        (x.pair = true → a % 2 = 1 → KeepsRegs s p (ptrMoved x.mode n) t) ∧
        (unpopulated x.y a ∨ (x.pair = true ∧ a % 2 = 1) → addrError s p a t) ∧
        (¬ unpopulated x.y a → x.pair = false ∨ a % 2 = 0 → t.press[p].fault = s.press[p].fault ∧ KeepsBut [.press] s t))) ∧
  (∀ (s : State) (p : Fin 16) (x : MoveArgs) (n : Fin 8) (a : Nat) (w v : Word), Canonical s → Issues s p →
    moveLegal x.other = true → x.mode.toNat < 6 → (x.pair = true → pairNamed x.reg = true) → n.val = x.pn.toNat →
    a = (moveAddr s p x.mode n).toNat → readsAs s p x.reg w → (x.pair = true → readsAs s p (x.reg + 1) v) →
    Runs (.moveStore p x) s fun t =>
      (x.y = true ∨ kindOf x.other ≠ 2 → a < 40960 → x.pair = false ∨ a % 2 = 0 → rdWord t (bankAddr p x.y a) = w ∧
        (x.pair = true → rdWord t (bankAddr p x.y a + 4) = v)) ∧
      (advances x.mode = true → x.y = true ∨ x.other = 0 → newAt s t p 3 (.p n) = (ptrAfter s p x.mode n).setWidth 72) ∧
      (unpopulated x.y a ∨ (x.pair = true ∧ a % 2 = 1) → t.press[p].fault = true) ∧
      (x.other = 0 → KeepsRegs s p (ptrMoved x.mode n) t ∧ svAfter s p (x.reg :: if x.pair then [x.reg + 1] else []) t ∧
        (a < 40960 → x.pair = false → stores s p x.y a w t ∧ t.press[p].msgRd = s.press[p].msgRd) ∧
        (a < 40960 → x.pair = true → a % 2 = 0 →
          ∀ k, ¬ (bankAddr p x.y a ≤ k ∧ k < bankAddr p x.y a + 8) → rdByte t k = rdByte s k) ∧
        (isIo x.y a → x.pair = false → ioStored s p a w t) ∧
        (isIo x.y a → x.pair = true → a % 2 = 0 → a = 0xFFF0A → ioStored s p a w t) ∧
        (isIo x.y a → x.pair = true → a % 2 = 0 → a ≠ 0xFFF0A → ioStored s p (a + 1) v t) ∧
        (unpopulated x.y a ∨ (x.pair = true ∧ a % 2 = 1) → addrError s p a t ∧ MemSame s t) ∧
        (¬ unpopulated x.y a → x.pair = false ∨ a % 2 = 0 → t.press[p].fault = s.press[p].fault)))

/-- A register move writes what SRC reads to REG, and sets SV when a rounded accumulator saturates; an immediate writes
its value to REG; an absolute access loads or stores the word at its address, of the I/O registers too, one word or a
pair, with the address error of an unpopulated address or an odd pair. Loads give the block number, ring positions,
message counts, FLAGS, cycles, budget, record size and fault; a field of no update and no access does nothing; a store
to MSG_RD sets the consumed count, one to SIGNAL writes PRESS.SIGNAL and sets its ISTAT bit. With an idle other or
arithmetic field nothing else changes. -/
def Obligations.RegisterAndLongMoves : Prop :=
  (∀ (s : State) (p : Fin 16) (x : MoveRegArgs) (w : Word), Canonical s → Issues s p → moveLegal x.other = true →
    readsAs s p x.src w →
    Runs (.moveRegister p x) s fun t =>
      (x.y = true ∨ kindOf x.other = 0 ∨ kindOf x.other = 2 → wroteSpec s p x.reg w t) ∧
      (saturates s p x.src → (newAt s t p 6 .sr).getLsbD 7 = true) ∧
      (x.other = 0 → MemSame s t ∧ keptParts s p x.reg t ∧ svAfter s p [x.src] t ∧ KeepsRegs s p [(specReg x.reg).1] t ∧
        KeepsBut [.press] s t)) ∧
  (∀ (s : State) (p : Fin 16) (x : PtrArgs), Canonical s → Issues s p → moveLegal x.other = true →
    x.mode = 0 ∨ x.mode = 4 →
    Runs (.pointerUpdate p x) s fun t => passed s p t ∧ OtherPresses p s t ∧
      (x.other = 0 → KeepsRegs s p [] t ∧ svAfter s p [] t ∧ MemSame s t ∧ KeepsBut [.press] s t)) ∧
  (∀ (s : State) (p : Fin 16) (x : LongImmArgs), Canonical s → Issues s p → arithFieldLegal x.arith = true →
    Runs (.longImmediate p x) s fun t => wroteSpec s p x.reg x.value t ∧ keptParts s p x.reg t ∧ MemSame s t ∧
      KeepsBut [.press] s t ∧ (x.arith = 0 → svAfter s p [] t ∧ KeepsRegs s p [(specReg x.reg).1] t)) ∧
  (∀ (s : State) (p : Fin 16) (x : LongAbsArgs) (a : Nat), Canonical s → Issues s p → arithFieldLegal x.arith = true →
    (x.pair = true → pairNamed x.reg = true) → x.store = false → a = x.addr.toNat →
    Runs (.longAbsolute p x) s fun t => MemSame s t ∧
      (x.pair = false → wroteSpec s p x.reg (dataWord s p x.y a) t ∧ keptParts s p x.reg t) ∧
      (x.pair = true → a % 2 = 0 → wroteSpec s p x.reg (dataWord s p x.y a) t ∧
        wroteSpec s p (x.reg + 1) (dataWord s p x.y (a + 1)) t) ∧
      (unpopulated x.y a ∨ (x.pair = true ∧ a % 2 = 1) → addrError s p a t) ∧
      (¬ unpopulated x.y a → x.pair = false ∨ a % 2 = 0 → t.press[p].fault = s.press[p].fault ∧ KeepsBut [.press] s t) ∧
      (x.arith = 0 → svAfter s p [] t ∧
        (x.pair = false → KeepsRegs s p [(specReg x.reg).1] t) ∧
        (x.pair = true → a % 2 = 0 → KeepsRegs s p [(specReg x.reg).1, (specReg (x.reg + 1)).1] t) ∧
        (x.pair = true → a % 2 = 1 → KeepsRegs s p [] t))) ∧
  (∀ (s : State) (p : Fin 16) (x : LongAbsArgs) (a : Nat) (w v : Word), Canonical s → Issues s p →
    arithFieldLegal x.arith = true → (x.pair = true → pairNamed x.reg = true) → x.store = true → a = x.addr.toNat →
    readsAs s p x.reg w → (x.pair = true → readsAs s p (x.reg + 1) v) →
    Runs (.longAbsolute p x) s fun t =>
      (a < 40960 → x.pair = false → stores s p x.y a w t) ∧
      (a < 40960 → x.pair = true → a % 2 = 0 → rdWord t (bankAddr p x.y a) = w ∧ rdWord t (bankAddr p x.y a + 4) = v ∧
        ∀ k, ¬ (bankAddr p x.y a ≤ k ∧ k < bankAddr p x.y a + 8) → rdByte t k = rdByte s k) ∧
      (isIo x.y a → x.pair = false → ioStored s p a w t) ∧
      (isIo x.y a → x.pair = true → a % 2 = 0 → a = 0xFFF0A → ioStored s p a w t) ∧
      (isIo x.y a → x.pair = true → a % 2 = 0 → a ≠ 0xFFF0A → ioStored s p (a + 1) v t) ∧
      (unpopulated x.y a ∨ (x.pair = true ∧ a % 2 = 1) → addrError s p a t ∧ MemSame s t) ∧
      (saturates s p x.reg → (newAt s t p 6 .sr).getLsbD 7 = true) ∧
      (x.arith = 0 → KeepsRegs s p [] t ∧ svAfter s p (x.reg :: if x.pair then [x.reg + 1] else []) t))

/-- A word that does nothing. -/
def nopWord : ArithArgs := ⟨0, 0, 0, 0, false, 0⟩

/-- After the word, two NOPs run in its delay slots, and the Press stands at `a` with `P`. -/
def afterSlots (c : Instr) (s : State) (p : Fin 16) (a : BitVec 13) (P : State → Prop) : Prop :=
  Runs c s fun t => Runs (.opNop p nopWord) t fun u => Runs (.opNop p nopWord) u fun v =>
    v.press[p].pc = a ∧ v.press[p].br = none ∧ v.press[p].next = none ∧ P v

/-- A register as a control word sees it, `k` cycles after its issue: in its own fetch results have arrived as they fell due. -/
def ctlAt (s : State) (p : Fin 16) (k : Nat) (g : PReg) : BitVec 72 := seenAt (fetchStep s.press[p]) (s.press[p].cyc + k) g

/-- The D register and the condition as stage 3 of a control word sees them (R202). -/
def dCtl (s : State) (p : Fin 16) (r : BitVec 4) : Word := (ctlAt s p 2 (.d r.toFin)).setWidth 32
def takenAt (s : State) (p : Fin 16) (k : BitVec 4) : Bool := condHolds k.toNat ((ctlAt s p 2 .sr).setWidth 32)

/-- The Press stands before a control word that is no delay slot. -/
def atCtl (s : State) (p : Fin 16) : Prop := Issues s p ∧ s.press[p].br = none

/-- No active level ends at the word or in the two after it, and no end address is about to change. -/
def loopsFar (s : State) (p : Fin 16) : Prop :=
  let x := s.press[p]
  (x.next = none ∨ x.next = some (x.pc + 1)) ∧
    ∀ n : Fin 2, x.la[n] = true → (∀ w ∈ x.pend, w.reg ≠ .le n) ∧ x.r.le[n] ≠ x.pc ∧ x.r.le[n] ≠ x.pc + 1 ∧ x.r.le[n] ≠ x.pc + 2

/-- The data registers and the memory are as before. -/
def DataSame (s : State) (p : Fin 16) (t : State) : Prop :=
  t.press[p].r.d = s.press[p].r.d ∧ t.press[p].r.ac = s.press[p].r.ac ∧ t.press[p].r.p = s.press[p].r.p ∧
    t.press[p].r.m = s.press[p].r.m ∧ t.press[p].r.l = s.press[p].r.l ∧ t.press[p].r.b = s.press[p].r.b

/-- Data registers and memory as before, once no result was in flight; and no other part of the device is touched. -/
def Quietly (s : State) (p : Fin 16) (t : State) : Prop :=
  (s.press[p].pend = [] → DataSame s p t) ∧ OtherPresses p s t ∧ MemSame s t ∧ KeepsBut [.press] s t

/-- The registers of the Press but the listed ones read as the fetch left them, in every later cycle. -/
def ctlKeeps (s : State) (p : Fin 16) (l : List PReg) (t : State) : Prop :=
  ∀ (g : PReg) (k : Nat), g ∉ l → newAt s t p k g = ctlAt s p k g

/-- Press `p` behind a word that did nothing but pass. -/
def wordPassed (s : State) (p : Fin 16) : State :=
  setPress p (advancePc { fetchStep s.press[p] with cyc := s.press[p].cyc + 1 }) s

/-- The repetitions of a count: 0 stands for 1024 (R161). -/
def repCount (n : BitVec 10) : Nat := if n = 0 then 1024 else n.toNat

/-- A branch whose condition holds in stage 3 stands at its target after two delay slots, one whose condition is false at
the third address after its own. CALL pushes that address, RTS takes it from the stack, JMPR goes to Ds[12:0]. RTI
goes to the PC of the entry it pops, and after the slots SR, IH and LA are those that the entry holds; in U4 mode the
working set and the shadow set swap back; of an entry that CALL pushed the SR is a free value. A CALL on a full stack
puts the Press in FAULTED. Data registers and memory stay. The loop ends lie elsewhere: R163 makes these words illegal
near one. -/
def Obligations.BranchesTakeTheirDelaySlots : Prop :=
  ∀ (s : State) (p : Fin 16), Canonical s → atCtl s p → loopsFar s p →
    (∀ (k : BitVec 4) (a : BitVec 13), k ≠ 15 → takenAt s p k = true →
      afterSlots (.bra p k a) s p a (fun v => Quietly s p v ∧ v.press[p].stack = s.press[p].stack) ∧
      (s.press[p].stack.length < 8 → afterSlots (.call p k a) s p a fun v => Quietly s p v ∧
        ∃ f, v.press[p].stack = f :: s.press[p].stack ∧ f.kind = .call ∧ f.pc = s.press[p].pc + 3) ∧
      (8 ≤ s.press[p].stack.length → Runs (.call p k a) s fun t => t.press[p].mode = .faulted ∧ OtherPresses p s t ∧
        t.press[p].stack = s.press[p].stack ∧ rget t (aPRESS_FAULTINFO p) = fld 3 28 ||| fld s.press[p].pc.toNat 0)) ∧
    (∀ (k : BitVec 4) (a : BitVec 13) (r : BitVec 4), k ≠ 15 → takenAt s p k = false →
      afterSlots (.bra p k a) s p (s.press[p].pc + 3) (fun v => Quietly s p v ∧ v.press[p].stack = s.press[p].stack) ∧
      afterSlots (.call p k a) s p (s.press[p].pc + 3) (fun v => Quietly s p v ∧ v.press[p].stack = s.press[p].stack) ∧
      afterSlots (.jmpr p k r) s p (s.press[p].pc + 3) (fun v => Quietly s p v ∧ v.press[p].stack = s.press[p].stack) ∧
      (s.press[p].stack ≠ [] → afterSlots (.rts p k) s p (s.press[p].pc + 3) fun v => Quietly s p v ∧
        v.press[p].stack = s.press[p].stack)) ∧
    (∀ (k r : BitVec 4), k ≠ 15 → takenAt s p k = true →
      afterSlots (.jmpr p k r) s p ((dCtl s p r).setWidth 13) fun v => Quietly s p v ∧ v.press[p].stack = s.press[p].stack) ∧
    (∀ (k : BitVec 4) (f : PFrame) (l : List PFrame), k ≠ 15 → takenAt s p k = true →
      s.press[p].stack = f :: l → afterSlots (.rts p k) s p f.pc fun v => Quietly s p v ∧ v.press[p].stack = l) ∧
    (∀ (f : PFrame) (l : List PFrame), s.press[p].stack = f :: l → f.kind = .call →
      afterSlots (.rti p) s p f.pc fun v => v.press[p].stack = l ∧ OtherPresses p s v ∧ MemSame s v ∧
        KeepsBut [.press, .freeCtr] s v) ∧
    (∀ (f : PFrame) (l : List PFrame), s.press[p].stack = f :: l → f.kind ≠ .call →
      afterSlots (.rti p) s p f.pc fun v => v.press[p].stack = l ∧ v.press[p].r.sr = f.sr &&& srBits ∧
        v.press[p].ih = bit f.sr 22 ∧ v.press[p].la[0] = bit f.sr 28 ∧ v.press[p].la[1] = bit f.sr 29 ∧ v.press[p].sh = false ∧
        OtherPresses p s v ∧ MemSame s v ∧ KeepsBut [.press] s v ∧
        (s.press[p].sh = false → Quietly s p v ∧ v.press[p].shadow = s.press[p].shadow) ∧
        (s.press[p].sh = true →
          (∀ i : Fin 8, v.press[p].r.d[i.val] = s.press[p].shadow.d[i.val]) ∧
          (∀ i : Fin 2, v.press[p].r.ac[i.val] = s.press[p].shadow.ac[i.val]) ∧
          (∀ i : Fin 4, v.press[p].r.p[i.val] = s.press[p].shadow.p[i.val]) ∧
          (s.press[p].pend = [] → v.press[p].shadow.sr = s.press[p].r.sr ∧
            (∀ i : Fin 8, v.press[p].shadow.d[i.val] = s.press[p].r.d[i.val] ∧
              v.press[p].r.d[i.val + 8] = s.press[p].r.d[i.val + 8]) ∧
            (∀ i : Fin 2, v.press[p].shadow.ac[i.val] = s.press[p].r.ac[i.val] ∧
              v.press[p].r.ac[i.val + 2] = s.press[p].r.ac[i.val + 2]) ∧
            (∀ i : Fin 4, v.press[p].shadow.p[i.val] = s.press[p].r.p[i.val] ∧
              v.press[p].r.p[i.val + 4] = s.press[p].r.p[i.val + 4]))))

/-- REP n and then a word takes n + 1 cycles, with 0 for 1024, and REPR the same with Ds[9:0]; a repeated MAC accumulates
its product n times, and other words issue under the REP as they would alone. LOOP activates the lowest free level
with its count, the next address as start, and its end. WAIT with IE = 1 puts the Press in WAITING behind it and
writes LOAD and LOAD_PEAK. TRAP pushes the next address and SR and goes to 0x000C whatever IE is, with the shadow set
in U4 mode; on a full stack it puts the Press in FAULTED. MOVS copies SR or a loop register to Dn, and Dn to a loop
register or to the RW fields of SR; nothing else changes. -/
def Obligations.LoopsAndRepeats : Prop :=
  ∀ (s : State) (p : Fin 16), Canonical s → atCtl s p →
    (loopsFar s p → ∀ n : BitVec 10, Runs (.rep p n) s fun t => t.press[p].rep = some (repCount n) ∧ passed s p t ∧
      Runs (.opNop p nopWord) t fun u => u.press[p].pc = s.press[p].pc + 2 ∧ u.press[p].rep = none ∧ Quietly s p u ∧
        u.press[p].cyc = s.press[p].cyc + 1 + repCount n) ∧
    (loopsFar s p → ∀ r : BitVec 4, Runs (.repr p r) s fun t => Runs (.opNop p nopWord) t fun u =>
      u.press[p].pc = s.press[p].pc + 2 ∧ u.press[p].rep = none ∧ Quietly s p u ∧
        u.press[p].cyc = s.press[p].cyc + 1 + repCount ((dCtl s p r).setWidth 10)) ∧
    (loopsFar s p → s.press[p].pend = [] → ∀ (n : BitVec 10) (ps : Fin 3) (a : Fin 4) (i j : BitVec 4),
      Runs (.rep p n) s fun t => Runs (.opMac p (withF nopWord (fPs ps a) i j)) t fun u =>
        u.press[p].cyc = s.press[p].cyc + 1 + repCount n ∧
        seenAt u.press[p] (u.press[p].cyc + 5) (.ac a) =
          BitVec.ofInt 72 (aIn s p a + repCount n * prodOf s p ps i.toNat j.toNat)) ∧
    (¬ nearEnd s p → (fetchStep s.press[p]).la ≠ Vector.replicate 2 true →
      ∀ (c : BitVec 16) (r : BitVec 4) (e : BitVec 13) (n : Fin 2), s.press[p].pc.toNat + 3 ≤ e.toNat →
      n = (if (fetchStep s.press[p]).la[0] then 1 else 0) →
      ∀ (i : Instr) (w : BitVec 16), (i = .loop p c e ∧ w = c) ∨ (i = .loopr p r e ∧ w = (dCtl s p r).setWidth 16) →
        Runs i s fun t => passed s p t ∧ t.press[p].la = (fetchStep s.press[p]).la.set n true ∧
          newAt s t p 3 (.lc n) = w.setWidth 72 ∧ newAt s t p 3 (.ls n) = (nextPc s p).setWidth 72 ∧
          newAt s t p 3 (.le n) = e.setWidth 72 ∧ ctlKeeps s p [.lc n, .ls n, .le n] t ∧ Quietly s p t) ∧
    (ieSeen s p = true →
      Runs (.wait p) s fun t => passed s p t ∧ t.press[p].wait = true ∧ ctlKeeps s p [] t ∧ OtherPresses p s t ∧
        MemSame s t ∧ KeepsBut [.press, .regs] s t ∧ RegsOnly [aPRESS_LOAD p, aPRESS_LOAD_PEAK p] s t ∧
        rget t (aPRESS_LOAD p) = w32 (min (s.press[p].cyc + 1 - s.press[p].tickCyc) (2 ^ 18 - 1)) ∧
        (rget t (aPRESS_LOAD_PEAK p)).toNat = max (rget s (aPRESS_LOAD_PEAK p)).toNat (rget t (aPRESS_LOAD p)).toNat) ∧
    (¬ (u4Of s p = true ∧ s.press[p].ih = true) →
      (s.press[p].stack.length < 8 → Runs (.trap p) s fun t => pushed (wordPassed s p) p .trap (nextPc s p) t ∧
        entered p 12 t ∧ t.press[p].cyc = s.press[p].cyc + 8 ∧ OtherPresses p s t ∧ MemSame s t ∧ KeepsBut [.press] s t ∧
        (u4Of s p = false → Quietly s p t) ∧ (u4Of s p = true → swappedSets (wordPassed s p) p t)) ∧
      (8 ≤ s.press[p].stack.length → Runs (.trap p) s fun t => t.press[p].mode = .faulted ∧
        t.press[p].stack = s.press[p].stack ∧ rget t (aPRESS_FAULTINFO p) = fld 3 28 ||| fld s.press[p].pc.toNat 0)) ∧
    (∀ dn : BitVec 4,
      (Runs (.movs p ⟨false, 0, dn⟩) s fun t => passed s p t ∧ ctlKeeps s p [.d dn.toFin] t ∧ Quietly s p t ∧
        ∀ b, b < 32 → (newAt s t p 5 (.d dn.toFin)).getLsbD b =
          (if b = 22 then s.press[p].ih else if b = 30 then s.press[p].sh else if b = 31 then u4Bit s p
            else if b = 28 then (fetchStep s.press[p]).la[0] else if b = 29 then (fetchStep s.press[p]).la[1]
            else (ctlAt s p 3 .sr).getLsbD b && bit srBits b)) ∧
      (∀ n : Fin 2, (∀ w ∈ s.press[p].pend, w.reg ≠ .lc n ∧ w.reg ≠ .ls n ∧ w.reg ≠ .le n) →
        let r := (fetchStep s.press[p]).r
        (Runs (.movs p ⟨false, BitVec.ofNat 4 (1 + n.val), dn⟩) s fun t => newAt s t p 5 (.d dn.toFin) = (r.lc[n]).setWidth 72) ∧
        (Runs (.movs p ⟨false, BitVec.ofNat 4 (3 + n.val), dn⟩) s fun t => newAt s t p 5 (.d dn.toFin) = (r.ls[n]).setWidth 72) ∧
        (Runs (.movs p ⟨false, BitVec.ofNat 4 (5 + n.val), dn⟩) s fun t => newAt s t p 5 (.d dn.toFin) = (r.le[n]).setWidth 72)) ∧
      (∀ r : BitVec 4, r.toNat < 7 → Runs (.movs p ⟨false, r, dn⟩) s fun t => passed s p t ∧ ctlKeeps s p [.d dn.toFin] t ∧
        Quietly s p t) ∧
      (Runs (.movs p ⟨true, 0, dn⟩) s fun t => ∀ b, b < 32 → (newAt s t p 6 .sr).getLsbD b =
        (if b = 23 ∨ b = 15 ∨ b = 14 ∨ b = 7 then (ctlAt s p 3 (.d dn.toFin)).getLsbD b else (ctlAt s p 6 .sr).getLsbD b)) ∧
      (∀ n : Fin 2,
        (Runs (.movs p ⟨true, BitVec.ofNat 4 (1 + n.val), dn⟩) s fun t =>
          newAt s t p 5 (.lc n) = ((ctlAt s p 3 (.d dn.toFin)).setWidth 16).setWidth 72 ∧ ctlKeeps s p [.lc n] t) ∧
        (Runs (.movs p ⟨true, BitVec.ofNat 4 (3 + n.val), dn⟩) s fun t =>
          newAt s t p 5 (.ls n) = ((ctlAt s p 3 (.d dn.toFin)).setWidth 13).setWidth 72 ∧ ctlKeeps s p [.ls n] t) ∧
        (Runs (.movs p ⟨true, BitVec.ofNat 4 (5 + n.val), dn⟩) s fun t =>
          newAt s t p 5 (.le n) = ((ctlAt s p 3 (.d dn.toFin)).setWidth 13).setWidth 72 ∧ ctlKeeps s p [.le n] t)) ∧
      (∀ r : BitVec 4, r.toNat < 7 → Runs (.movs p ⟨true, r, dn⟩) s fun t => passed s p t ∧ Quietly s p t))

/-- At the address LEn of an active level n, with no inner level ending there, a fetch with LCn other than 1 decrements it
(modulo 2^16) and the word there is followed by LSn; with LCn = 1 the level ends and the word is followed by the next
address. No loop register is about to change. -/
def Obligations.LoopEndBranchesBack : Prop :=
  ∀ (s : State) (p : Fin 16) (n : Fin 2), Canonical s → atCtl s p → s.press[p].next = none → s.press[p].la[n] = true →
    (∀ w ∈ s.press[p].pend, ∀ i : Fin 2, w.reg ≠ .lc i ∧ w.reg ≠ .ls i ∧ w.reg ≠ .le i) → s.press[p].r.le[n] = s.press[p].pc →
    (n = 1 ∨ s.press[p].la[1] = false ∨ s.press[p].r.le[1] ≠ s.press[p].pc) →
    (s.press[p].r.lc[n] ≠ 1 → Runs (.loopEndFetch p n) s fun t => t.press[p].r.lc = s.press[p].r.lc.set n (s.press[p].r.lc[n] - 1) ∧
      t.press[p].la = s.press[p].la ∧ KeepsBut [.press] s t ∧ OtherPresses p s t ∧ (s.press[p].pend = [] → DataSame s p t) ∧
      Runs (.opNop p nopWord) t fun u => u.press[p].pc = s.press[p].r.ls[n] ∧ u.press[p].r.lc = t.press[p].r.lc ∧ Quietly s p u) ∧
    (s.press[p].r.lc[n] = 1 → (n = 0 ∨ s.press[p].la[0] = false ∨ s.press[p].r.le[0] ≠ s.press[p].pc) →
      Runs (.loopEndFetch p n) s fun t => t.press[p].la = s.press[p].la.set n false ∧ t.press[p].r.lc = s.press[p].r.lc ∧
        KeepsBut [.press] s t ∧ OtherPresses p s t ∧ (s.press[p].pend = [] → DataSame s p t) ∧
        Runs (.opNop p nopWord) t fun u => u.press[p].pc = s.press[p].pc + 1 ∧ Quietly s p u)

/-! ### Port groups, AES3, ASRC -/

/-- The events of the port groups and the AES3 receivers. -/
def portEvent (c : Instr) : Bool :=
  match c with
  | .groupFrame .. | .qualifyPass .. | .bclkStop .. | .fsLoss .. | .clockReturn .. | .faultFadeEnd .. | .portZcTimeout .. => true
  | .portRampEnd .. | .aes3Block .. | .aes3Lock .. | .txcommitAct .. | .ratioLock .. => true
  | _ => false

/-- No write of the host waits for the next frame of the group (R23). -/
def noneLands (s : State) (g : Fin 4) : Prop := s.landNext.filter (landsAt (some g) s) = []

/-- A group runs, is not stopping, and neither a write nor a change waits for its next frame. -/
def runsQuietly (s : State) (g : Fin 4) : Prop :=
  (grp s g).st = .run ∧ (grp s g).stopping = false ∧ (grp s g).chg = [] ∧ noneLands s g

/-- The measured rate lies within 1 % of the reference of the group, as a SYNC group needs it (R215). -/
def nearRef (s : State) (g : Fin 4) (i : GroupIn) : Prop :=
  99 * (grp s g).ref ≤ 100 * i.rate ∧ 100 * i.rate ≤ 101 * (grp s g).ref

/-- A group frame of a SYNC group that no fault and no slip accompanies: its length and its rate are right, it starts where the first one
did, and frame ticks run. -/
def steadyFrame (s : State) (g : Fin 4) (i : GroupIn) : Prop :=
  runsQuietly s g ∧ gcfgMode (gcfg s g) = false ∧ (grp s g).gap = false ∧ ticksStopped s = false ∧
    i.bits = framePeriods s g ∧ i.phase.toNat = (grp s g).phi0 ∧ 0 < framePeriods s g ∧ nearRef s g i

/-- The frame glitches of the last 64 frames (R215). -/
def recentGlitches (s : State) (g : Fin 4) : Nat := ((grp s g).glitches.filter fun k => decide ((grp s g).frames < k + 64)).length

/-- The clock of a group stops: it stands STOPPED, counted, with its ISTAT bit, and inputs that ran fade from the present frame. A group
that was stopping is OFF. -/
def stopsGroup (c : Instr) (s : State) (g : Fin 4) : Prop :=
  ((grp s g).st = .run ∨ (grp s g).st = .qualify ∨ (grp s g).st = .mismatch) →
    (usesDec s = true → Runs c s fun t => t = s) ∧
    (usesDec s = false →
      Runs c s fun t => (grp t g).st = (if (grp s g).stopping then .off else .stopped) ∧ (grp t g).sdo = [] ∧
        rget t (aPORTG_STOP_CNT g) = rget s (aPORTG_STOP_CNT g) + 1 ∧ rbit t (aISTAT (pgPORTG g)) 0 = true ∧
        ((grp s g).st = .run → (grp t g).fade = some s.tb.frame) ∧ (∀ h : Fin 4, h ≠ g → grp t h = grp s h) ∧
        ((grp s g).chg = [] → KeepsBut [.regs, .ports] s t))

/-- A group frame in QUALIFY counts as good when its length, rate and bit clock are right and else starts the count again,
with SDO at 0; one of an OFF or STOPPED group only measures; one in MISMATCH within tolerance goes to QUALIFY. In RUN
a steady frame moves the assignment on by one, one of an ASRC group follows the MEDIA frame, a glitch counts as a slip
and at the ninth in 64 frames ends the run, and a rate out of tolerance ends in MISMATCH with the fade. After 64 good
frames with a legal bit clock the group runs from the phase given. A stopped clock puts it in STOPPED, a returned one
in QUALIFY; a standby leaves these decisions to the active. The 16-frame fade ends. A start or stop that finds no
crossing within its time begins its ramp, and a ramp at its end leaves the channel running or off, a stopping group
OFF. -/
def Obligations.GroupStates : Prop :=
  (∀ (s : State) (g : Fin 4) (i : GroupIn), Canonical s → Live s → noneLands s g → (grp s g).st = .qualify →
    Runs (.groupFrame g i) s fun t => (grp t g).st = .qualify ∧ rget t (aPORTG_RATE_MEAS g) = w32 i.rate ∧
      (grp t g).sdo = zeroSdo s g ∧ (bclkOk t g = false → (grp s g).badClk = false → captured 3 (pgPORTG g) 0 s t) ∧
      (grp t g).qual =
        (if i.bits = framePeriods s g ∧ rateOk s g i.rate = true ∧ bclkOk t g = true then min 64 ((grp s g).qual + 1) else 0)) ∧
  (∀ (s : State) (g : Fin 4) (i : GroupIn), Canonical s → Live s → ((grp s g).st = .off ∨ (grp s g).st = .stopped) →
    Runs (.groupFrame g i) s fun t => KeepsBut [.now, .ptp, .regs] s t ∧ RegsOnly [aPORTG_RATE_MEAS g] s t ∧
      rget t (aPORTG_RATE_MEAS g) = w32 i.rate) ∧
  (∀ (s : State) (g : Fin 4) (i : GroupIn), Canonical s → Live s → (grp s g).st = .mismatch →
    Runs (.groupFrame g i) s fun t => (grp t g).sdo = zeroSdo s g ∧
      (grp t g).st = (if rateOk s g i.rate ∧ ¬ usesDec s then .qualify else .mismatch) ∧
      (rateOk s g i.rate = true → usesDec s = false → (grp t g).qual = 0) ∧ KeepsBut [.now, .ptp, .regs, .ports] s t) ∧
  (∀ (s : State) (g : Fin 4) (i : GroupIn), Canonical s → Live s → steadyFrame s g i →
    Runs (.groupFrame g i) s fun t => (grp t g).st = .run ∧ (grp t g).asg = (grp s g).asg + 1 ∧
      (grp t g).frames = (grp s g).frames + 1 ∧ (grp t g).phi0 = (grp s g).phi0) ∧
  (∀ (s : State) (g : Fin 4) (i : GroupIn), Canonical s → Live s → runsQuietly s g → gcfgMode (gcfg s g) = true →
    i.bits = framePeriods s g → rateOk s g i.rate = true →
    Runs (.groupFrame g i) s fun t => (grp t g).st = .run ∧ (grp t g).asg = s.tb.frame + 1 ∧
      (grp t g).frames = (grp s g).frames + 1) ∧
  (∀ (s : State) (g : Fin 4) (i : GroupIn), Canonical s → Live s → runsQuietly s g → i.bits ≠ framePeriods s g →
    (if gcfgMode (gcfg s g) then rateOk s g i.rate = true else nearRef s g i ∧ ticksStopped s = false) →
    (recentGlitches s g < 8 ∨ usesDec s = true →
      Runs (.groupFrame g i) s fun t => (grp t g).st = .run ∧ (grp t g).asg = s.tb.frame + 1 ∧
        rget t (aPORTG_SLIP_CNT g) = rget s (aPORTG_SLIP_CNT g) + 1 ∧ rbit t (aISTAT (pgPORTG g)) 2 = true) ∧
    (8 ≤ recentGlitches s g → usesDec s = false →
      Runs (.groupFrame g i) s fun t => (grp t g).st = .qualify ∧ (grp t g).qual = 0 ∧ (grp t g).fade = some s.tb.frame)) ∧
  (∀ (s : State) (g : Fin 4) (i : GroupIn), Canonical s → Live s → runsQuietly s g → usesDec s = false →
    i.bits = framePeriods s g → (if gcfgMode (gcfg s g) then rateOk s g i.rate = false else ¬ nearRef s g i) →
    Runs (.groupFrame g i) s fun t => (grp t g).st = .mismatch ∧ (grp t g).fade = some s.tb.frame) ∧
  (∀ (s : State) (g : Fin 4) (phi : BitVec 10), Canonical s → Live s → (grp s g).st = .qualify → 64 ≤ (grp s g).qual →
    (usesDec s = true → Runs (.qualifyPass g phi) s fun t => t = s) ∧
    (usesDec s = false → bclkOk s g = true → Runs (.qualifyPass g phi) s fun t => (grp t g).st = .run ∧
      (grp t g).phi0 = phi.toNat ∧ (grp t g).asg = s.tb.frame + 1 ∧ (grp t g).faulted = false ∧
      rfld t (aPORTG_ALIGN g) 9 0 = phi.toNat ∧ rget t (aPORTG_ACT_INMASK g 0) = rget s (aPORTG_INMASK g 0) ∧
      ((grp s g).faulted = true → rbit t (aISTAT (pgPORTG g)) 4 = true)) ∧
    (usesDec s = false → bclkOk s g = false → Runs (.qualifyPass g phi) s fun t =>
      (grp t g).st = .qualify ∧ (grp t g).qual = 0 ∧ captured 3 (pgPORTG g) 0 s t)) ∧
  (∀ (s : State) (g : Fin 4), Canonical s → Live s → stopsGroup (.bclkStop g) s g ∧ stopsGroup (.fsLoss g) s g) ∧
  (∀ (s : State) (g : Fin 4), Live s → (grp s g).st = .stopped →
    Runs (.clockReturn g) s fun t => KeepsBut [.ports] s t ∧
      (if usesDec s then t = s else (grp t g).st = .qualify ∧ (grp t g).qual = 0 ∧ (grp t g).sdo = zeroSdo s g)) ∧
  (∀ (s : State) (g : Fin 4) (f : Nat), Live s → (grp s g).fade = some f → f + 16 ≤ s.tb.frame →
    Runs (.faultFadeEnd g) s fun t => (grp t g).fade = none ∧ (grp t g).last = [] ∧ (grp t g).carried = [] ∧
      KeepsBut [.ports] s t) ∧
  (∀ (s : State) (c : PortSlot) (q : ChanSeq), Live s → q = seqGet (grp s c.g).seqs (seqKey c.out c.m c.s) →
    zcFrames s c.g ≤ q.k →
    (q.st = .wait → Runs (.portZcTimeout c) s fun t => KeepsBut [.ports] s t ∧
      seqGet (grp t c.g).seqs (seqKey c.out c.m c.s) = { q with st := .up, n := 0 }) ∧
    (q.st = .stopWait → Runs (.portZcTimeout c) s fun t => KeepsBut [.ports] s t ∧
      seqGet (grp t c.g).seqs (seqKey c.out c.m c.s) = { q with st := .down, n := 64 })) ∧
  (∀ (s : State) (c : PortSlot) (q : ChanSeq), Live s → q = seqGet (grp s c.g).seqs (seqKey c.out c.m c.s) →
    (q.st = .up → q.n = 64 → Runs (.portRampEnd c) s fun t => KeepsBut [.ports] s t ∧
      (seqGet (grp t c.g).seqs (seqKey c.out c.m c.s)).st = .run) ∧
    (q.st = .down → q.n = 0 → (grp s c.g).stopping = false → Runs (.portRampEnd c) s fun t => KeepsBut [.ports] s t ∧
      (seqGet (grp t c.g).seqs (seqKey c.out c.m c.s)).st = .off) ∧
    (q.st = .down → q.n = 0 → (grp s c.g).stopping = true →
      (∀ x ∈ (grp s c.g).seqs, x.key ≠ q.key → x.st = .off) → Runs (.portRampEnd c) s fun t => (grp t c.g).st = .off ∧
        KeepsBut [.ports, .regs] s t))

/-- A SOLO host's slot mask is stored, the acting mask stays, and in a running group the change waits for the first group
frame 32 bit periods later. Outside SOLO the direct writes of this chapter are refused with code 5. An AES3 receiver
that gains lock counts from 0, one that loses it raises its ISTAT bit and stops; a whole block counts and its rate and
user data appear, a block of another length counts a slip, one of two lengths a stop, a failed CRCC counts and keeps
the channel status. TXCOMMIT holds the content, and the first block at least one frame later sends it. A SOLO ASRC
entry waits for the frame boundary. A tracked source that locks takes its ratio, sets its bit and ISTAT; an untracked
one, and a standby, take nothing. No port event touches the time axes, Presses, network, clocks or start-up, or a
register of another page. -/
def Obligations.PortWritesAes3AndConverters : Prop :=
  (∀ (s : State) (g : Fin 4) (m : Fin 8) (out : Bool) (w : HW) (d : RegDef) (a act : Nat) (v : Word), Canonical s →
    isSolo s = true → a = (if out then aPORTG_OUTMASK g m else aPORTG_INMASK g m) →
    act = (if out then aPORTG_ACT_OUTMASK g m else aPORTG_ACT_INMASK g m) → Accepted s a w → regAt a = some d →
    v = newWord d (pgPORTG g) w.lvl.val (heldReg s a) w.v →
    Runs (.slotMaskWrite g m out w) s fun t => lastStatus t = 0 ∧ rget t a = v ∧ rget t act = rget s act ∧
      (grp t g).chg = (grp s g).chg ++ (if (grp s g).st = .run then
        [⟨m, if out then .outMask else .inMask, v, .time (s.now + 32 * bitPs s g), none⟩] else []) ∧
      (∀ h : Fin 4, h ≠ g → grp t h = grp s h) ∧ KeepsBut [.regs, .ports] s t ∧
      RegsOnly [a, aHOSTIF_LASTERR, aHOSTIF_LASTADDR] s t) ∧
  (∀ (s : State) (g : Fin 4) (m : Fin 8) (c : Fin 128) (out : Bool) (w : HW), Canonical s → isSolo s = false →
    (Served s (if out then aPORTG_OUTMASK g m else aPORTG_INMASK g m) w → Runs (.slotMaskWrite g m out w) s fun t =>
      refusedWith 5 (pgPORTG g) (if out then aPORTG_OUTMASK g m else aPORTG_INMASK g m) s t) ∧
    (Served s (aAES3_PORTCFG m) ⟨w.lvl, w.be, setBits w.v 27 27 1⟩ → Runs (.txcommit m w) s fun t =>
      refusedWith 5 pgAES3 (aAES3_PORTCFG m) s t) ∧
    (Served s (aASRC_CH c) w → Runs (.asrcChannelWrite c w) s fun t => refusedWith 5 pgASRC (aASRC_CH c) s t)) ∧
  (∀ (s : State) (m : Fin 8), Live s → enOf s pgAES3 = true → s.ports.aes[m].lock = false →
    Runs (.aes3Lock m true) s fun t => t.ports.aes[m].lock = true ∧ t.ports.aes[m].qual = 0 ∧ KeepsBut [.ports] s t) ∧
  (∀ (s : State) (m : Fin 8), Canonical s → Live s → enOf s pgAES3 = true → s.ports.aes[m].lock = true →
    Runs (.aes3Lock m false) s fun t => t.ports.aes[m].lock = false ∧ rbit t (aISTAT pgAES3) 3 = true ∧
      (isAes s 3 m = true → t.ports.aes[m].qual = 0 ∧ rbit t (aISTAT (pgPORTG 3)) 0 = true ∧
        rget t (aPORTG_STOP_CNT 3) = rget s (aPORTG_STOP_CNT 3) + 1) ∧ KeepsBut [.regs, .ports] s t ∧
      RegsBut [pgAES3, pgASRC, pgPORTG 3] s t) ∧
  (∀ (s : State) (m : Fin 8) (lock : Bool), Live s → enOf s pgAES3 = false ∨ s.ports.aes[m].lock = lock →
    Runs (.aes3Lock m lock) s fun t => t = s) ∧
  (∀ (s : State) (m : Fin 8) (b : Aes3In), Canonical s → Live s → isAes s 3 m = true → s.ports.aes[m].lock = true →
    enOf s pgAES3 = true →
    (b.frames = 192 → Runs (.aes3Block m b) s fun t => rget t aAES3_BLOCK_CNT = rget s aAES3_BLOCK_CNT + 1 ∧
      rfld t (aAES3_RXSTAT m) 23 0 = b.rate.toNat ∧
      rget t (aAES3_RXUB (12 * m)) = b.ubA[3] ++ (b.ubA[2] ++ (b.ubA[1] ++ b.ubA[0])) ∧
      (b.csA[0].getLsbD 0 = true → crcc (b.csA.toList.take 23) ≠ b.csA[23] →
        rget t (aAES3_RXCS (12 * m)) = rget s (aAES3_RXCS (12 * m)) ∧ rbit t (aISTAT pgAES3) 1 = true) ∧
      (b.csA[0].getLsbD 0 = false →
        rget t (aAES3_RXCS (12 * m)) = b.csA[3] ++ (b.csA[2] ++ (b.csA[1] ++ b.csA[0]))) ∧
      KeepsBut [.regs, .ports, .mem, .fab] s t ∧ RegsBut [pgAES3, pgASRC, pgPORTG 3, pgECC] s t) ∧
    (b.frames ≠ 192 → b.frames < 384 → Runs (.aes3Block m b) s fun t =>
      rget t (aPORTG_SLIP_CNT 3) = rget s (aPORTG_SLIP_CNT 3) + 1 ∧ rbit t (aISTAT (pgPORTG 3)) 2 = true ∧
      KeepsBut [.regs, .ports, .mem, .fab] s t ∧ RegsBut [pgPORTG 3, pgASRC, pgECC] s t) ∧
    (384 ≤ b.frames → Runs (.aes3Block m b) s fun t => t.ports.aes[m].qual = 0 ∧
      rget t (aPORTG_STOP_CNT 3) = rget s (aPORTG_STOP_CNT 3) + 1 ∧ rbit t (aISTAT (pgPORTG 3)) 0 = true ∧
      KeepsBut [.regs, .ports] s t ∧ RegsBut [pgPORTG 3, pgASRC] s t)) ∧
  (∀ (s : State) (m : Fin 8) (w : HW), Canonical s → isSolo s = true →
    Accepted s (aAES3_PORTCFG m) ⟨w.lvl, w.be, setBits w.v 27 27 1⟩ →
    Runs (.txcommit m w) s fun t => lastStatus t = 0 ∧ t.ports.aes[m].txAct = s.ports.aes[m].txAct ∧
      t.ports.aes[m].txHeld = some (regRead s (aAES3_TXCS (12 * m)) 12 ++ regRead s (aAES3_TXUB (12 * m)) 12) ∧
      t.ports.aes[m].txAt = (grp s 3).frames ∧ rbit t (aAES3_PORTCFG m) 27 = true ∧
      KeepsBut [.regs, .ports, .landNext] s t ∧ RegsOnly [aAES3_PORTCFG m, aHOSTIF_LASTERR, aHOSTIF_LASTADDR] s t) ∧
  (∀ (s : State) (m : Fin 8) (l : List Word), Canonical s → Live s → s.ports.aes[m].txHeld = some l →
    (s.ports.aes[m].txPos = 0 → (grp s 3).frames ≠ s.ports.aes[m].txAt →
      Runs (.txcommitAct m) s fun t => t.ports.aes[m].txAct = l ∧ t.ports.aes[m].txHeld = none ∧
        rbit t (aAES3_PORTCFG m) 27 = false ∧ KeepsBut [.regs, .ports] s t ∧ RegsOnly [aAES3_PORTCFG m] s t) ∧
    (s.ports.aes[m].txPos ≠ 0 ∨ (grp s 3).frames = s.ports.aes[m].txAt → Runs (.txcommitAct m) s fun t => t = s)) ∧
  (∀ (s : State) (c : Fin 128) (w : HW) (d : RegDef), Canonical s → isSolo s = true → Accepted s (aASRC_CH c) w →
    regAt (aASRC_CH c) = some d →
    Runs (.asrcChannelWrite c w) s fun t => lastStatus t = 0 ∧ rget t (aASRC_CH c) = rget s (aASRC_CH c) ∧
      heldReg t (aASRC_CH c) = newWord d pgASRC w.lvl.val (heldReg s (aASRC_CH c)) w.v ∧ KeepsBut [.regs, .landNext] s t ∧
      RegsOnly [aHOSTIF_LASTERR, aHOSTIF_LASTADDR] s t) ∧
  (∀ (s : State) (i : Fin 16) (r : Word), Canonical s → Live s →
    (usesDec s = false → srcTracked s i = true →
      Runs (.ratioLock i r) s fun t => rget t (aASRC_RATIO i) = r ∧ rbit t aASRC_LOCKSTAT i = true ∧
        (rbit s aASRC_LOCKSTAT i = false → rbit t (aISTAT pgASRC) 0 = true) ∧ KeepsBut [.regs, .ports] s t ∧
        RegsOnly [aASRC_RATIO i, aASRC_LOCKSTAT, aISTAT pgASRC] s t) ∧
    (usesDec s = true ∨ srcTracked s i = false → Runs (.ratioLock i r) s fun t => t = s)) ∧
  (∀ (c : Instr) (s t : State), portEvent c = true → (∀ g i, c = .groupFrame g i → noneLands s g) → exec c s = .next t →
    KeepsBut [.now, .freeCtr, .regs, .mem, .cist, .comp, .galley, .basin, .ports, .twin, .arb, .ptp, .cistern, .fab] s t ∧
      RegsBut [pgPORTG 0, pgPORTG 1, pgPORTG 2, pgPORTG 3, pgAES3, pgASRC, pgCOMPOSITOR, pgECC, pgGALLEY, pgINTC, pgMATRIX, pgPTP,
        pgTWIN, pgSTREAMRX, pgDDRC] s t)

/-! ### Network -/

/-- The port's link may come up: enabled, configured, ungated, with PLL-S locked. -/
def linkReady (s : State) (n : Fin 2) : Prop :=
  enOf s (pgNET n) = true ∧ netMode s n ≠ 0 ∧ s.clk.lockS = true ∧ rbit s aCLKGEN_DOMGATE (4 + n.val) = false

/-- The packet has gone into the egress queue of port `n` and class `c`, or already out of it (R245). -/
def goesOut (n : Fin 2) (c : Nat) (k : SentPkt) (t : State) : Prop :=
  (∃ q ∈ t.net.queue, q.port = n.val ∧ q.cls = c ∧ q.pkt = k) ∨ k ∈ t.net.sent

/-- Where the packet of the internal endpoint goes: out of port `n`, or, its link down, only into DROP_CNT (R242). -/
def epOut (s : State) (n : Fin 2) (c : Nat) (k : SentPkt) (t : State) : Prop :=
  if s.net.link[n].up then goesOut n c k t else rget t (aNET_DROP_CNT n) = rget s (aNET_DROP_CNT n) + 1

/-- The line of port `n` is free and nothing waits. -/
def idleLine (s : State) (n : Fin 2) : Prop := s.net.queue = [] ∧ s.net.free[n] ≤ s.now

/-- The packet passes cut-through: class A, both links at one rate (R246). -/
def cutThrough (s : State) (k : NetPkt) : Prop := pktClass s k = 0 ∧ sameRate s = true

/-- The switch takes the packet: it runs, the packet is whole or passes cut-through, and it is no management packet of another VLAN. -/
def switchTakes (s : State) (k : NetPkt) : Prop :=
  enOf s pgSWITCH = true ∧ (k.fcsOk = true ∨ cutThrough s k) ∧
    ¬ (k.etype.toNat = rfld s aSWITCH_MGMT 31 16 ∧ pktVid s k ≠ rfld s aSWITCH_MGMT 11 0)

/-- The count of class drops of a class. -/
def qdropReg (c : Nat) : Nat := match c with | 0 => aSWITCH_QDROP_A | 1 => aSWITCH_QDROP_B | _ => aSWITCH_QDROP_C

/-- A valid management packet of the given kind for this node (R268), which this twin answers. -/
def mgmtOurs (s : State) (m : MgmtPkt) : Prop := mgmtHeaderOk s m = true ∧ mgmtBody m ≠ none ∧ mgmtForUs s m = true
def mgmtTaken (s : State) (m : MgmtPkt) : Prop := mgmtOurs s m ∧ mgmtAnswers s m = true

/-- A management packet of the device on port `n` (Table 08-6): VER 1, TYPE, DOMAIN, SRC, TWIN and ACT; DST or all nodes, and SEQ; LEN. -/
def mgmtOut (s : State) (ty : Nat) (dst : Option (Nat × BitVec 48)) (seq : Nat) (body : List Word) (n : Fin 2) : SentPkt :=
  let mcast := BitVec.ofNat 48 ((rget s aSWITCH_MGMT_MCAST_LO).toNat + 2 ^ 32 * rfld s aSWITCH_MGMT_MCAST_HI 15 0)
  .mgmt n ⟨(match dst with | some d => d.2 | none => mcast), macOf s n, some (tagOf s 2 (rfld s aSWITCH_MGMT 11 0)),
      BitVec.ofNat 16 (rfld s aSWITCH_MGMT 31 16)⟩
    [fld 1 28 ||| fld ty 24 ||| fld (rfld s aSWITCH_NODECFG 23 16) 16 ||| fld (nodeId s) 4 ||| flg (twinId s) 3
        ||| flg (activeOrSolo s) 2,
      (match dst with | some d => fld d.1 20 | none => flg true 19) ||| fld (seq % 65536) 0, fld (4 * body.length) 16] body

/-- The events of the network: links, switch, flows and management packets. -/
def netEvent (c : Instr) : Bool :=
  match c with
  | .linkUp .. | .packetReceive .. | .macAgeOut .. | .igmpLapse .. | .igmpQuery | .flowPacket .. | .flowLoss .. => true
  | .flowSend .. | .fclkLock .. | .discover .. | .announce .. | .announceSend | .telemetrySend | .nodeDupClear => true
  | _ => false

/-- The memory of the flow lines (R249), each line a page of 128 bytes. -/
def lineMem (a : Nat) : Prop := 0x2C0000 ≤ a ∧ a < 0x300000

/-- A ready link comes up with its ISTAT bit; an SGMII PHY below 1000 Mbit/s holds it down; a port that is not ready
changes nothing. A link that goes down loses its learned addresses, memberships and queued packets, counts, sets its
ISTAT bit, and requests fail-over when configured. A packet that the switch does not take (EN = 0, a bad FCS stored
and forwarded) is counted and dropped. One it takes, to an address not learned or learned at the other port, goes to
that port's queue in its class, or counts as a queue or link drop there, and its source is learned; one to an address
of its own side is not sent; one to a group goes where the group has members; on a down port nothing happens. An
address not seen for AGE seconds, and a network port's membership not reported for 260 s, go. The querier sends a
general query on both ports when 125 s have passed. -/
def Obligations.LinksAndSwitch : Prop :=
  (∀ (s : State) (n : Fin 2) (b : Bool), Canonical s → Live s → linkReady s n → (netMode s n = 3 → b = true) →
    Runs (.linkUp n b) s fun t => t.net.link[n].up = true ∧
      (s.net.link[n].up = false → rbit t (aISTAT (pgNET n)) 1 = true) ∧ KeepsBut [.regs, .net] s t ∧
      RegsOnly [aISTAT (pgNET n), aNET_TX_PKT 0, aNET_TX_PKT 1] s t) ∧
  (∀ (s : State) (n : Fin 2), Live s → linkReady s n → netMode s n = 3 →
    Runs (.linkUp n false) s fun t => t.net.link[n].speedErr = true ∧ t.net.link[n].up = s.net.link[n].up ∧ KeepsBut [.net] s t) ∧
  (∀ (s : State) (n : Fin 2) (b : Bool), Live s → ¬ linkReady s n → Runs (.linkUp n b) s fun t => t = s) ∧
  (∀ (s : State) (n : Fin 2) (b : Bool), Canonical s → Live s → s.net.link[n].up = true →
    Runs (.linkDown n b) s fun t => t.net.link[n].up = false ∧ t.net.link[n].hiBer = b ∧
      (∀ e ∈ t.net.macs, e.port ≠ n.val) ∧ (∀ e ∈ t.net.igmp, e.port ≠ n.val) ∧ (∀ q ∈ t.net.queue, q.port ≠ n.val) ∧
      (∀ e ∈ s.net.macs, e.port ≠ n.val → e ∈ t.net.macs) ∧ rbit t (aISTAT (pgNET n)) 0 = true ∧
      rget t (aNET_LINKDN_CNT n) = rget s (aNET_LINKDN_CNT n) + 1 ∧
      rget t (aNET_DROP_CNT n) =
        rget s (aNET_DROP_CNT n) + w32 ((netDrain s).net.queue.filter fun q => q.port == n.val).length ∧
      (s.net.tx ≠ [] → rbit t (aISTAT pgSTREAMTX) 1 = true) ∧
      (rbit s (aNET_CFG n) 31 = true → s.twin.st = .active → partnerHot s = true → s.twin.release = none →
        t.twin.release = some (.fault 7)) ∧
      (rbit s (aNET_CFG n) 31 = false → t.twin = s.twin) ∧ KeepsBut [.regs, .net, .twin] s t) ∧
  (∀ (s : State) (k : NetPkt) (n : Fin 2), Canonical s → Live s → k.port.val = n.val → s.net.link[n].up = true →
    enOf s pgSWITCH = false ∨ (k.fcsOk = false ∧ ¬ cutThrough s k) →
    Runs (.packetReceive k) s fun t => rget t (aNET_RX_PKT n) = rget s (aNET_RX_PKT n) + 1 ∧
      rget t (aNET_DROP_CNT n) = rget s (aNET_DROP_CNT n) + 1 ∧
      (k.fcsOk = false → rget t (aNET_FCS_ERR n) = rget s (aNET_FCS_ERR n) + 1 ∧ rbit t (aISTAT (pgNET n)) 2 = true) ∧
      KeepsBut [.regs] s t ∧ RegsOnly [aNET_RX_PKT n, aNET_DROP_CNT n, aNET_FCS_ERR n, aISTAT (pgNET n)] s t) ∧
  (∀ (s : State) (k : NetPkt) (n o : Fin 2), Canonical s → Live s → k.port.val = n.val → o ≠ n → s.net.link[n].up = true →
    switchTakes s k → k.ptp = none → isMcast k.dmac = false → k.dmac ≠ k.smac →
    ((∀ e ∈ s.net.macs, e.mac ≠ k.dmac) ∨
      ∃ e, s.net.macs.find? (fun e => e.mac == k.dmac) = some e ∧ e.port = o.val) →
    let sent : SentPkt := .fwd o k.dmac k.len (!k.fcsOk) none
    Runs (.packetReceive k) s fun t => KeepsBut [.regs, .net] s t ∧
      (k.full.getLsbD o = false → s.net.link[o].up = true → goesOut o (pktClass s k) sent t ∧
        (idleLine s o → t.net.sent.head? = some sent ∧ rget t (aNET_TX_PKT o) = rget s (aNET_TX_PKT o) + 1)) ∧
      (k.full.getLsbD o = true → k.full.getLsbD 2 = false → t.net.queue = s.net.queue ∧ t.net.sent = s.net.sent ∧
        rget t (qdropReg (pktClass s k)) = rget s (qdropReg (pktClass s k)) + 1) ∧
      (k.full.getLsbD o = false → s.net.link[o].up = false → t.net.queue = s.net.queue ∧
        rget t (aNET_DROP_CNT o) = rget s (aNET_DROP_CNT o) + 1) ∧
      (k.fcsOk = true → isMcast k.smac = false → (s.net.macs.filter fun e => e.mac != k.smac).length < 2048 →
        ⟨k.smac, n.val, s.now⟩ ∈ t.net.macs)) ∧
  (∀ (s : State) (k : NetPkt) (n : Fin 2) (e : MacEnt), Canonical s → Live s → k.port.val = n.val → s.net.link[n].up = true →
    switchTakes s k → k.ptp = none → isMcast k.dmac = false → k.dmac ≠ k.smac →
    s.net.macs.find? (fun e => e.mac == k.dmac) = some e → e.port = n.val →
    Runs (.packetReceive k) s fun t => t.net.queue = s.net.queue ∧ t.net.sent = s.net.sent ∧ KeepsBut [.regs, .net] s t) ∧
  (∀ (s : State) (k : NetPkt) (n o : Fin 2) (g : Word), Canonical s → Live s → k.port.val = n.val → o ≠ n →
    s.net.link[n].up = true → switchTakes s k → k.ptp = none → isMcast k.dmac = true → k.group = some g →
    g.toNat / 256 ≠ 0xE00000 → k.igmp = [] → (∃ e ∈ s.net.igmp, e.group = g) →
    Runs (.packetReceive k) s fun t => KeepsBut [.regs, .net] s t ∧
      ((∃ e ∈ s.net.igmp, e.group = g ∧ e.port = o.val) → k.full.getLsbD o = false → s.net.link[o].up = true →
        goesOut o (pktClass s k) (.fwd o k.dmac k.len (!k.fcsOk) none) t) ∧
      ((∀ e ∈ s.net.igmp, e.group = g → e.port ≠ o.val) → t.net.queue = s.net.queue ∧ t.net.sent = s.net.sent)) ∧
  (∀ (s : State) (k : NetPkt) (n : Fin 2), Live s → k.port.val = n.val → s.net.link[n].up = false →
    Runs (.packetReceive k) s fun t => t = s) ∧
  (∀ (s : State) (m : BitVec 48), Live s → Runs (.macAgeOut m) s fun t => KeepsBut [.net] s t ∧
    (∀ e, e ∈ t.net.macs ↔ e ∈ s.net.macs ∧ (e.mac ≠ m ∨ s.now < e.seen + rfld s aSWITCH_AGE 15 0 * 10 ^ 12))) ∧
  (∀ (s : State) (g : Word), Live s → Runs (.igmpLapse g) s fun t => KeepsBut [.net] s t ∧
    (∀ e, e ∈ t.net.igmp ↔ e ∈ s.net.igmp ∧ (e.group ≠ g ∨ e.port = 2 ∨ s.now < e.t + 260 * 10 ^ 12))) ∧
  (∀ s : State, Canonical s → Live s →
    let due : Prop := rbit s aSWITCH_IGMPCFG 1 = true ∧ enOf s pgSWITCH = true ∧ s.net.queryT + 125 * 10 ^ 12 ≤ s.now
    (due → Runs .igmpQuery s fun t => t.net.queryT = s.now ∧ KeepsBut [.regs, .net] s t ∧
      ∀ n : Fin 2, epOut s n 2 (.query n ⟨0x01005E000001#48, macOf s n, some (tagOf s 2 (rfld s aSWITCH_CFG 11 0)), 0x0800#16⟩
        (rget s (aNET_IPADDR n))) t) ∧
    (¬ due → Runs .igmpQuery s fun t => t = s))

/-- A packet with a wrong header or length is counted as dropped and changes nothing else. A DISCOVER for this node
schedules an ANNOUNCE (node ID times 37 modulo 1000 microseconds later) that echoes its SEQ; a due one, and the
periodic one, go out on both ports with the header of Table 08-6. An ANNOUNCE of the same node ID from a foreign
address notes the duplicate; after 10 s without it the condition clears. Telemetry is sent when its period has passed.
A READ_REQ is answered with one status and value per address, on the port toward its sender; while the node ID is a
duplicate it is not. Past the rate limit every status is 4; one undecoded, outside or forbidden address answers 3, 2
or 1. -/
def Obligations.ManagementPackets : Prop :=
  (∀ (s : State) (m : MgmtPkt), Canonical s → Live s → mgmtHeaderOk s m = false ∨ mgmtBody m = none →
    ∀ c : Instr, c = .discover m ∨ c = .announce m ∨ c = .readReq m →
    Runs c s fun t => rget t aSWITCH_MGMT_DROP = rget s aSWITCH_MGMT_DROP + 1 ∧ KeepsBut [.regs] s t ∧
      RegsOnly [aSWITCH_MGMT_DROP] s t) ∧
  (∀ (s : State) (m : MgmtPkt), Canonical s → Live s → mgmtTaken s m →
    Runs (.discover m) s fun t => t.net.answers = s.net.answers ++
      [(s.now + nodeId s * 37 % 1000 * 10 ^ 6, bits m.h1 15 0)] ∧ rget t aSWITCH_MGMT_RX = rget s aSWITCH_MGMT_RX + 1 ∧
      KeepsBut [.regs, .net] s t ∧ RegsOnly [aSWITCH_MGMT_RX] s t) ∧
  (∀ (s : State) (a : Nat × Nat), Canonical s → Live s → s.boot.run = true →
    s.net.answers.find? (fun x => decide (x.1 ≤ s.now)) = some a →
    Runs .announceSend s fun t => t.net.answers = s.net.answers.erase a ∧ KeepsBut [.regs, .net] s t ∧
      ∀ n : Fin 2, epOut s n 2 (mgmtOut s 2 none a.2 (announceBody s) n) t) ∧
  (∀ s : State, Canonical s → Live s → s.boot.run = true → (∀ x ∈ s.net.answers, s.now < x.1) →
    (s.net.annT = none ∨ ∃ u, s.net.annT = some u ∧ u + 10 * 10 ^ 12 ≤ s.now) →
    Runs .announceSend s fun t => t.net.annT = some s.now ∧ t.net.mgmtSeq = (s.net.mgmtSeq + 1) % 65536 ∧
      KeepsBut [.regs, .net] s t ∧ ∀ n : Fin 2, epOut s n 2 (mgmtOut s 2 none s.net.mgmtSeq (announceBody s) n) t) ∧
  (∀ (s : State) (m : MgmtPkt), Canonical s → Live s → mgmtOurs s m → bits m.h0 15 4 = nodeId s →
    m.smac ≠ macOf s 0 → m.smac ≠ macOf s 1 → (s.twin.paired = false ∨ bit m.h0 3 = twinId s) →
    Runs (.announce m) s fun t => t.net.dup = some s.now ∧ rbit t (aISTAT pgSWITCH) 3 = true ∧ KeepsBut [.regs, .net] s t ∧
      RegsOnly [aISTAT pgSWITCH, aSWITCH_MGMT_RX] s t) ∧
  (∀ (s : State) (d : Nat), Live s → s.net.dup = some d → d + 10 * 10 ^ 12 ≤ s.now →
    Runs .nodeDupClear s fun t => t.net.dup = none ∧ KeepsBut [.net] s t) ∧
  (∀ s : State, Canonical s → Live s → s.boot.run = true → rfld s aSWITCH_TELCFG 15 0 ≠ 0 →
    s.net.telT + rfld s aSWITCH_TELCFG 15 0 * 10 ^ 9 ≤ s.now →
    Runs .telemetrySend s fun t => t.net.telT = s.now ∧ t.net.mgmtSeq = (s.net.mgmtSeq + 1) % 65536 ∧
      KeepsBut [.regs, .net] s t ∧ ∃ b : List Word, b.length = 16 ∧ ∀ n : Fin 2, epOut s n 2 (mgmtOut s 3 none s.net.mgmtSeq b n) t) ∧
  (∀ (s : State) (m : MgmtPkt) (l : List Word), Canonical s → Live s → mgmtTaken s m → mgmtBody m = some l → s.net.dup = none →
    1 ≤ l.length → l.length ≤ 16 →
    Runs (.readReq m) s fun t => t.mem = s.mem ∧ rget t aSWITCH_MGMT_RX = rget s aSWITCH_MGMT_RX + 1 ∧
      ∃ b : List Word, b.length = 2 * l.length ∧
      (∀ n ∈ portsTo s m.smac, s.net.link[n].up = true →
        goesOut n 2 (mgmtOut s 5 (some (bits m.h0 15 4, m.smac)) (bits m.h1 15 0) b n) t) ∧
      let full : Prop := 125 * rfld s aSWITCH_MGMT 15 12 ≤ (s.net.reads.filter fun x => decide (s.now < x + 10 ^ 12)).length
      (full → b = l.flatMap fun _ => [4, 0]) ∧
      (∀ w : Word, ¬ full → l = [w] →
        let a := bits w 23 2 * 4
        (bits w 31 24 ≠ 0 ∨ (0x4000 ≤ a ∧ isPageAddr a = false) → b = [2, 0]) ∧
        (bits w 31 24 = 0 → a < 0x4000 ∨ isPageAddr a = true → decodes a = false → b = [3, 0]) ∧
        (bits w 31 24 = 0 → a < 0x4000 ∨ isPageAddr a = true → decodes a = true → permits s 3 a false = false → b = [1, 0]) ∧
        (bits w 31 24 = 0 → a < 0x4000 ∨ isPageAddr a = true → decodes a = true → permits s 3 a false = true →
          b.head? = some 0))) ∧
  (∀ (s : State) (m : MgmtPkt), Canonical s → Live s → mgmtTaken s m → s.net.dup.isSome = true →
    Runs (.readReq m) s fun t => rget t aSWITCH_MGMT_RX = rget s aSWITCH_MGMT_RX + 1 ∧ KeepsBut [.regs] s t ∧
      RegsOnly [aSWITCH_MGMT_RX] s t)

/-- A receive flow takes the packet: link up, unit enabled, the flow not shed (R39), the time of the packet not ahead of the clock. -/
def flowTakes (s : State) (f : Fin 256) (k : AudioPkt) : Prop :=
  s.net.link[k.port].up = true ∧ enOf s pgSTREAMRX = true ∧ flowShed s (flowEntry s false f) = false ∧ k.t ≤ s.now

/-- The packet passes the checks of R258, its SSRC the flow's. -/
def flowMatches (s : State) (f : Fin 256) (x : RxFlow) (k : AudioPkt) : Prop :=
  rxMatches s (flowEntry s false f) k.port.val k = true ∧ (x.ssrc = none ∨ x.ssrc = some k.ssrc)

/-- The packet is late (R256): it is not there 500 ns before the boundary that ends its first frame. -/
def flowLate (s : State) (e : List Word) (k : AudioPkt) : Prop :=
  eAsrc e = false ∧ boundaryT s (tsFrame s e k.ts + eLat e + 1) < (k.t : Int) + 500000

/-- The packet is early (R256): its last frame lies beyond the lines of a class A flow, or the Cistern's buffer of another. -/
def flowEarly (s : State) (e : List Word) (k : AudioPkt) : Prop :=
  eAsrc e = false ∧
    (s.tb.frame : Int) + (if eClass e = 0 then 32 else 4096) ≤ tsFrame s e k.ts + (framesPer s e).getD 0 - 1 + eLat e

/-- A matching packet judged on time takes its flow to RUN, and the first copy of its timestamp fills the lines of its
frames; a late or early one only counts; in MISMATCH a match takes the flow to WAIT. A standby keeps the copy and
judges nothing. One that fails a check counts in FMT_CNT, the eighth in a row on every path is a MISMATCH; another
SSRC is discarded seven times, and with the eighth taken over. No packet reaches a flow that is not enabled or shed. A
running flow without an on-time packet for LOSS_TO is LOST. A transmit flow whose P frames are made goes on, and sends
their packet, with the headers of R250 and R257, on each path that is up. A SEL write loads the window. A COMMIT that
passes its check waits for the next frame on a SOLO device; one that fails is refused with its code, every one outside
SOLO with code 5. A flow clock's lock sets its ratio and bit. -/
def Obligations.AudioFlows : Prop :=
  (∀ (s : State) (f : Fin 256) (k : AudioPkt) (x : RxFlow), Canonical s → Live s → rxFlow s f = some x → flowTakes s f k →
    flowMatches s f x k → usesDec s = false →
    let e := flowEntry s false f
    (¬ flowLate s e k → ¬ flowEarly s e k → x.st ≠ .mismatch →
      Runs (.flowPacket f k) s fun t => (rxFlow t f).map (·.st) = some .run ∧ (rxFlow t f).bind (·.ssrc) = some k.ssrc ∧
        KeepsBut [.regs, .mem, .net, .fab, .cistern] s t ∧
        (k.ts ∈ x.seen → t.mem = s.mem) ∧
        (k.ts ∉ x.seen → eAsrc e = false → ∀ (i c g : Nat), i < (framesPer s e).getD 0 → c < eCh e →
          (g : Int) = tsFrame s e k.ts + eLat e + i → s.tb.frame ≤ g → g < s.tb.frame + 32 →
          eInBase e + eCh e ≤ 1024 → channelLost s f (eInBase e + c) = false →
          rdWord t (rxLine (eInBase e + c) g) = sampleAt e k.bytes i c)) ∧
    (flowLate s e k → Runs (.flowPacket f k) s fun t => rget t aSTREAMRX_LATE_CNT = rget s aSTREAMRX_LATE_CNT + 1 ∧
      rbit t (aISTAT pgSTREAMRX) 1 = true ∧ KeepsBut [.regs, .net] s t ∧
      (rxFlow t f).map (·.st) = some (if x.st = .mismatch then .wait else x.st)) ∧
    (¬ flowLate s e k → flowEarly s e k →
      Runs (.flowPacket f k) s fun t => rget t aSTREAMRX_EARLY_CNT = rget s aSTREAMRX_EARLY_CNT + 1 ∧ KeepsBut [.regs, .net] s t ∧
        (rxFlow t f).map (·.st) = some (if x.st = .mismatch then .wait else x.st)) ∧
    (x.st = .mismatch → Runs (.flowPacket f k) s fun t => (rxFlow t f).map (·.st) = some .wait ∧ KeepsBut [.regs, .net] s t)) ∧
  (∀ (s : State) (f : Fin 256) (k : AudioPkt) (x : RxFlow), Live s → rxFlow s f = some x → flowTakes s f k →
    flowMatches s f x k → usesDec s = true →
    Runs (.flowPacket f k) s fun t => KeepsBut [.net] s t ∧ (rxFlow t f).map (·.st) = some x.st ∧
      ∃ b, ⟨k.ts, k.port == 1, b, k.bytes⟩ ∈ ((rxFlow t f).map (·.copies)).getD []) ∧
  (∀ (s : State) (f : Fin 256) (k : AudioPkt) (x : RxFlow), Canonical s → Live s → rxFlow s f = some x → flowTakes s f k →
    rxMatches s (flowEntry s false f) k.port.val k = true → (∃ c, x.ssrc = some c ∧ c ≠ k.ssrc) →
    Runs (.flowPacket f k) s fun t => rget t aSTREAMRX_FMT_CNT = rget s aSTREAMRX_FMT_CNT + 1 ∧ KeepsBut [.regs, .net] s t ∧
      (x.other < 7 → (rxFlow t f).map (·.other) = some (x.other + 1) ∧ (rxFlow t f).map (·.ssrc) = some x.ssrc) ∧
      (7 ≤ x.other → (rxFlow t f).map (·.other) = some 0 ∧ (rxFlow t f).bind (·.ssrc) = some k.ssrc ∧
        rbit t (aISTAT pgSTREAMRX) 5 = true)) ∧
  (∀ (s : State) (f : Fin 256) (k : AudioPkt) (x : RxFlow), Canonical s → Live s → rxFlow s f = some x → flowTakes s f k →
    ePath (flowEntry s false f) k.port = true → rxMatches s (flowEntry s false f) k.port.val k = false →
    Runs (.flowPacket f k) s fun t => rget t aSTREAMRX_FMT_CNT = rget s aSTREAMRX_FMT_CNT + 1 ∧ KeepsBut [.regs, .net] s t ∧
      (ePath (flowEntry s false f) (1 - k.port) = false → 7 ≤ (if k.port = 0 then x.fail0 else x.fail1) →
        (rxFlow t f).map (·.st) = some .mismatch)) ∧
  (∀ (s : State) (f : Fin 256) (k : AudioPkt), Live s → rxFlow s f = none ∨ s.net.link[k.port].up = false ∨
    enOf s pgSTREAMRX = false ∨ flowShed s (flowEntry s false f) = true →
    Runs (.flowPacket f k) s fun t => KeepsBut [.now, .ptp] s t) ∧
  (∀ (s : State) (f : Fin 256) (x : RxFlow), Canonical s → Live s → rxFlow s f = some x → x.st = .run →
    pathOk s x.ok0 = false → pathOk s x.ok1 = false →
    Runs (.flowLoss f) s fun t => (rxFlow t f).map (·.st) = some .lost ∧ (rxFlow t f).map (·.seqs) = some [] ∧
      rbit t (aISTAT pgSTREAMRX) 2 = true ∧ KeepsBut [.regs, .net] s t ∧ RegsOnly [aISTAT pgSTREAMRX] s t) ∧
  (∀ (s : State) (f : Fin 256) (x : TxFlow) (p : Nat), Canonical s → Live s → s.net.tx.find? (fun y => y.f == f.val) = some x →
    framesPer s (flowEntry s true f) = some p →
    (x.made < x.next + p ∨ mediaStill s = true → Runs (.flowSend f) s fun t => t = s) ∧
    (x.next + p ≤ x.made → mediaStill s = false →
      Runs (.flowSend f) s fun t => KeepsBut [.regs, .net] s t ∧
        (∃ y, t.net.tx.find? (fun y => y.f == f.val) = some y ∧ y.next = x.next + p ∧ y.start = x.start ∧ y.made = x.made ∧
          y.buf = x.buf.filter fun r => decide (x.next + p ≤ r.1)) ∧
        (txAllowed s (flowEntry s true f) = true → (∃ r ∈ x.buf, r.1 < x.next + p) → flowShed s (flowEntry s true f) = false →
          enOf s pgSTREAMTX = true →
          ∀ n : Fin 2, ePath (flowEntry s true f) n = true →
            (s.net.link[n].up = true →
              let e := flowEntry s true f
              let g := ew e (if n = 0 then 3 else 5)
              let w := ew e (if n = 0 then 4 else 6)
              ∃ cs : BitVec 16, goesOut n (eClass e)
                (.audio n f ⟨groupMac g, macOf s n, some (tagOf s (eClass e) (bits w 11 0)), 0x0800#16⟩
                  ⟨rget s (aNET_IPADDR n), g, BitVec.ofNat 16 (bits (ew e 7) 15 0), BitVec.ofNat 16 (bits w 31 16), cs⟩
                  ⟨2, false, BitVec.ofNat 7 (ePt e), BitVec.ofNat 16 ((bits (ew e 1) 15 0 + (x.next - x.start) / p) % 65536),
                    w32 (x.next + tsBase s e), ew e 2⟩
                  ((List.range p).flatMap fun i =>
                    (alGet (List.replicate (eCh e) 0) x.buf (x.next + i)).flatMap fun v => txBytes e v)) t) ∧
            (s.net.link[n].up = false → ePath (flowEntry s true f) (1 - n) = false →
              rget t aSTREAMTX_TXDROP_CNT = rget s aSTREAMTX_TXDROP_CNT + 1)))) ∧
  (∀ (s : State) (tx : Bool) (w : HW), Canonical s → Accepted s (if tx then aSTREAMTX_SEL else aSTREAMRX_SEL) w →
    Runs (.streamSel tx w) s fun t => lastStatus t = 0 ∧ winRead t tx = flowEntry s tx (selOf t tx) ∧ KeepsBut [.regs] s t) ∧
  (∀ (s : State) (tx : Bool) (w : HW), Canonical s → isSolo s = true →
    Accepted s (if tx then aSTREAMTX_COMMIT else aSTREAMRX_COMMIT) ⟨w.lvl, w.be, setBits w.v 0 0 1⟩ →
    commitRefuse s tx (selOf s tx) (winRead s tx) = none →
    Runs (.streamCommit tx w) s fun t => t.net = { s.net with commits := s.net.commits ++ [(tx, selOf s tx, winRead s tx)] } ∧
      KeepsBut [.regs, .net] s t) ∧
  (∀ (s : State) (tx : Bool) (w : HW) (c : Nat), Canonical s → isSolo s = true →
    Served s (if tx then aSTREAMTX_COMMIT else aSTREAMRX_COMMIT) ⟨w.lvl, w.be, setBits w.v 0 0 1⟩ →
    commitRefuse s tx (selOf s tx) (winRead s tx) = some c →
    Runs (.streamCommit tx w) s fun t => captured c (pgStream tx) (selOf s tx) s t ∧ KeepsBut [.regs] s t) ∧
  (∀ (s : State) (tx : Bool) (w : HW), Canonical s → isSolo s = false →
    (Served s (if tx then aSTREAMTX_SEL else aSTREAMRX_SEL) w → Runs (.streamSel tx w) s fun t =>
      refusedWith 5 (pgStream tx) (if tx then aSTREAMTX_SEL else aSTREAMRX_SEL) s t) ∧
    (Served s (if tx then aSTREAMTX_COMMIT else aSTREAMRX_COMMIT) ⟨w.lvl, w.be, setBits w.v 0 0 1⟩ →
      Runs (.streamCommit tx w) s fun t => refusedWith 5 (pgStream tx) (if tx then aSTREAMTX_COMMIT else aSTREAMRX_COMMIT) s t)) ∧
  (∀ (s : State) (j : Fin 4) (r : Word), Canonical s → Live s → rbit s (aSTREAMRX_FCLK_CFG j) 31 = true →
    enOf s pgSTREAMRX = true →
    (Runs (.fclkLock j true r) s fun t => rget t (aSTREAMRX_FCLK_RATIO j) = r ∧ rget t (aASRC_RATIO (12 + j)) = r ∧
      rbit t aASRC_LOCKSTAT (12 + j) = true ∧ KeepsBut [.regs, .net] s t) ∧
    (srcLocked s (12 + j) = true → Runs (.fclkLock j false r) s fun t => rbit t aASRC_LOCKSTAT (12 + j) = false ∧
      rbit t (aISTAT pgSTREAMRX) 3 = true ∧ KeepsBut [.regs, .net] s t)) ∧
  (∀ (s : State) (j : Fin 4) (b : Bool) (r : Word), Live s → rbit s (aSTREAMRX_FCLK_CFG j) 31 = false ∨ enOf s pgSTREAMRX = false →
    Runs (.fclkLock j b r) s fun t => t = s) ∧
  (∀ (c : Instr) (s t : State), netEvent c = true → exec c s = .next t →
    KeepsBut [.now, .regs, .mem, .net, .ptp, .fab, .cistern] s t ∧ (∀ a, ¬ lineMem a → rdByte t a = rdByte s a) ∧
      RegsBut [pgNET 0, pgNET 1, pgSWITCH, pgSTREAMRX, pgSTREAMTX, pgASRC, pgPTP, pgECC] s t)

/-! ### PTP and DPLL -/

/-- What the two counters' other halves are: the counter that a command does not name. -/
def otherCtr (s : State) (one : Bool) : TimeCtr := ctrOf s (!one)

/-- The slot of the receive ring that the next message takes, and of the transmit ring that is sent next (R285, R286). -/
def rxSlotAt (s : State) : Nat := (rget s aPTP_RXRING).toNat + 256 * (rfld s aPTP_RX_PROD 15 0 % rxSlots s)
def txSlotAt (s : State) : Nat := (rget s aPTP_TXRING).toNat + 256 * (rfld s aPTP_TX_CONS 15 0 % txSlots s)

/-- A slot at `a` of word 0 `w0` that is not sent (R286): the port could not send it, its link is down, LEN out of range, ONESTEP on a
message that is no Sync, or no ACTIVE or SOLO device sends it, unless to 01-80-C2-00-00-0E. -/
def slotBad (s : State) (a : Nat) (w0 : Word) (ok : Bool) : Prop :=
  ok = false ∨ s.net.link[Fin.ofNat 2 (bits w0 9 8)].up = false ∨ bits w0 31 16 < 34 ∨ 192 < bits w0 31 16 ∨
    (bit w0 4 = true ∧ (rdByte s (a + 64)).toNat % 16 ≠ 0) ∨
    (activeOrSolo s = false ∧ (rdWord s (a + 4)).toNat + 2 ^ 32 * bits (rdWord s (a + 8)) 15 0 ≠ 0x0180C200000E)

/-- No start-up step waits for an event: the start stands at a hold point or is over, or nothing but its own commands moves it on. -/
def inOperation (s : State) : Prop :=
  Live s ∧ (s.boot.hold.isSome = true ∨ s.boot.step = .s1 ∨ s.boot.step = .s5 ∨ s.boot.step = .s9 ∨ s.boot.step = .stopped)

/-- The selector runs: enabled, and ticks not held by a rate change. -/
def selectorOn (s : State) : Prop := enOf s pgDPLL = true ∧ ticksHeld s = false

/-- An edge that counts as short only (R294): REFIN0 or REFIN1, within half a period of the edge before it. -/
def shortEdge (s : State) (r : Fin 8) (i : RefMeas) : Prop :=
  r.val < 2 ∧ ∃ e, (refOf s r.val).edgeT = some e ∧ 2 * (i.t - e) * refRate s r.val < 10 ^ 12

/-- The selector may choose reference `r`: usable, and on an ACTIVE device not TWIN (R301). -/
def eligible (s : State) (r : Nat) : Prop := r < 8 ∧ refUsable s r = true ∧ (isActive s = true → r ≠ 6)

/-- An evaluation at time `x` is due: 10 ms have passed, or the selected reference has failed (R304). -/
def evalDue (s : State) (x : Nat) : Prop :=
  s.dpll.evalT + evalPs ≤ x ∨ ∃ r, s.dpll.sel = some r ∧ refFailed (advance x s) r = true

/-- An accepted TIMECMD write makes its operation pending for the counter SEL names; while one is pending it is refused
with code 1, a SET of 10^9 ns or more with code 2. On its CORE cycle SET loads TIMESET, ADD adds OFFSET modulo the
counter's range, and both end a slew, leave the residence counter and the other counter as they are, and count a step
(ADD of 0 does not); SLEW of n ns starts a slew of n at SLEW_PPM (1 to 500), of 0 ends one. With nothing pending or
CORE gated nothing happens. A slew with nothing left ends and sets SLEW_DONE. A running, valid counter presents a
pulse for the multiple of 10 ms it has reached. -/
def Obligations.TimeCommandsAndPulses : Prop :=
  (∀ (s : State) (w : HW), Canonical s → s.ptp.cmd = none →
    (Accepted s aPTP_TIMECMD ⟨w.lvl, w.be, setBits w.v 1 0 1⟩ → Runs (.timeSet w) s fun t =>
      t.ptp = { s.ptp with cmd := some (1, bit w.v 4) } ∧ lastStatus t = 0 ∧ KeepsBut [.regs, .ptp] s t ∧
        RegsOnly [aPTP_TIMECMD, aHOSTIF_LASTERR, aHOSTIF_LASTADDR] s t) ∧
    (Accepted s aPTP_TIMECMD ⟨w.lvl, w.be, setBits w.v 1 0 2⟩ → Runs (.timeAdd w) s fun t =>
      t.ptp = { s.ptp with cmd := some (2, bit w.v 4) } ∧ lastStatus t = 0 ∧ KeepsBut [.regs, .ptp] s t ∧
        RegsOnly [aPTP_TIMECMD, aHOSTIF_LASTERR, aHOSTIF_LASTADDR] s t) ∧
    (Accepted s aPTP_TIMECMD ⟨w.lvl, w.be, setBits w.v 1 0 3⟩ → Runs (.timeSlew w) s fun t =>
      t.ptp = { s.ptp with cmd := some (3, bit w.v 4) } ∧ lastStatus t = 0 ∧ KeepsBut [.regs, .ptp] s t ∧
        RegsOnly [aPTP_TIMECMD, aHOSTIF_LASTERR, aHOSTIF_LASTADDR] s t) ∧
    (Served s aPTP_TIMECMD ⟨w.lvl, w.be, setBits w.v 1 0 1⟩ → 1000000000 ≤ (rget s aPTP_TIMESET_NS).toNat →
      Runs (.timeSet w) s fun t => refusedWith 2 pgPTP aPTP_TIMECMD s t)) ∧
  (∀ (s : State) (w : HW), Canonical s → s.ptp.cmd.isSome = true →
    (Served s aPTP_TIMECMD ⟨w.lvl, w.be, setBits w.v 1 0 1⟩ → Runs (.timeSet w) s fun t => refusedWith 1 pgPTP aPTP_TIMECMD s t) ∧
    (Served s aPTP_TIMECMD ⟨w.lvl, w.be, setBits w.v 1 0 2⟩ → Runs (.timeAdd w) s fun t => refusedWith 1 pgPTP aPTP_TIMECMD s t) ∧
    (Served s aPTP_TIMECMD ⟨w.lvl, w.be, setBits w.v 1 0 3⟩ → Runs (.timeSlew w) s fun t => refusedWith 1 pgPTP aPTP_TIMECMD s t)) ∧
  (∀ (s : State) (one : Bool), Canonical s → Live s → s.clk.coreGated = false → s.ptp.cmd = some (1, one) →
    ((rget s aPTP_TIMESET_NS).toNat < 1000000000 →
      Runs .timecmdAct s fun t => t.ptp.cmd = none ∧ otherCtr t one = otherCtr s one ∧
        (ctrOf t one).t = (((rget s aPTP_TIMESET_S_LO).toNat + 2 ^ 32 * rfld s aPTP_TIMESET_S_HI 15 0) * 1000000000
          + (rget s aPTP_TIMESET_NS).toNat) * 2 ^ 48 ∧ (ctrOf t one).slewing = false ∧ (ctrOf t one).res = (ctrOf s one).res ∧
        rget t aPTP_STEP_CNT = rget s aPTP_STEP_CNT + 1 ∧ rbit t (aISTAT pgPTP) 6 = true ∧
        KeepsBut [.regs, .ptp, .dpll, .comp, .galley] s t ∧
        RegsOnly [aPTP_STEP_CNT, aISTAT pgPTP, aISTAT pgCOMPOSITOR] s t) ∧
    (1000000000 ≤ (rget s aPTP_TIMESET_NS).toNat →
      Runs .timecmdAct s fun t => t.ptp = { s.ptp with cmd := none } ∧ captured 2 pgPTP aPTP_TIMECMD s t ∧ KeepsBut [.regs, .ptp] s t)) ∧
  (∀ (s : State) (one : Bool), Canonical s → Live s → s.clk.coreGated = false → s.ptp.cmd = some (2, one) →
    (let o := sgn 64 ((rget s aPTP_OFFSET_LO).toNat + 2 ^ 32 * (rget s aPTP_OFFSET_HI).toNat)
     Runs .timecmdAct s fun t => t.ptp.cmd = none ∧ otherCtr t one = otherCtr s one ∧
      ((ctrOf t one).t : Int) = ((ctrOf s one).t + o * 2 ^ 48) % (ctrMod : Int) ∧ (ctrOf t one).slewing = false ∧
      (ctrOf t one).res = (ctrOf s one).res ∧ rget t aPTP_STEP_CNT = rget s aPTP_STEP_CNT + (if o = 0 then 0 else 1) ∧
      (o ≠ 0 → rbit t (aISTAT pgPTP) 6 = true) ∧ KeepsBut [.regs, .ptp, .dpll, .comp, .galley] s t ∧
      RegsOnly [aPTP_STEP_CNT, aISTAT pgPTP, aISTAT pgCOMPOSITOR] s t)) ∧
  (∀ (s : State) (one : Bool), Canonical s → Live s → s.clk.coreGated = false → s.ptp.cmd = some (3, one) →
    Runs .timecmdAct s fun t => t.ptp.cmd = none ∧ otherCtr t one = otherCtr s one ∧ (ctrOf t one).t = (ctrOf s one).t ∧
      (let n := sgn 32 (rget s aPTP_SLEW_NS).toNat
       (n ≠ 0 → (ctrOf t one).slewing = true ∧ (ctrOf t one).slew = n * 2 ^ 48 ∧
         (ctrOf t one).ppm = min 500 (max 1 (rfld s aPTP_SLEW_PPM 8 0))) ∧
       (n = 0 → (ctrOf t one).slewing = false ∧ rbit t (aISTAT pgPTP) 5 = true)) ∧ KeepsBut [.regs, .ptp] s t ∧
      RegsOnly [aISTAT pgPTP] s t) ∧
  (∀ s : State, s.clk.coreGated = true ∨ s.ptp.cmd = none → Runs .timecmdAct s fun t => t = s) ∧
  (∀ (s : State) (n : Fin 2), Live s →
    ((ctrOf s (n == 1)).slewing = true → (ctrOf s (n == 1)).slew = 0 →
      Runs (.slewDone n) s fun t => (ctrOf t (n == 1)).slewing = false ∧ rbit t (aISTAT pgPTP) 5 = true ∧
        KeepsBut [.regs, .ptp] s t ∧ RegsOnly [aISTAT pgPTP] s t) ∧
    ((ctrOf s (n == 1)).slewing = false ∨ (ctrOf s (n == 1)).slew ≠ 0 → Runs (.slewDone n) s fun t => t = s)) ∧
  (∀ (s : State) (n : Fin 2) (x : Nat), Live s →
    let u := advance x s
    (s.ptp.run = true → rbit s (aCTRL pgPTP) (4 + n.val) = true →
      Runs (.ptpPulse n x) s fun t => (if n = 0 then t.ptp.pulse0 else t.ptp.pulse1) = (ctrOf u (n == 1)).t / 2 ^ 48 / 10000000 ∧
        KeepsBut [.ptp] u t ∧ ctrOf t true = ctrOf u true ∧ ctrOf t false = ctrOf u false) ∧
    (s.ptp.run = false ∨ rbit s (aCTRL pgPTP) (4 + n.val) = false → Runs (.ptpPulse n x) s fun t => t = u))

/-- With EN = 1, a message for EP takes slot RX_PROD mod SLOTS: length, both reported ingress times and the bytes (192 at
most) stand there, RX_PROD goes up by one, ISTAT.RX is set and no byte outside the slot changes; with the ring full it
is discarded and counted; with EN = 0 it goes nowhere. A PROD write that would overfill the ring is refused with code
4. A slot that cannot be sent is marked DONE and ERR and counted; a good one is sent with the device's headers, its
bytes as written but for a one-step Sync's timestamp and correction, its egress time reported on request, and marked
DONE; both advance TX_CONS. With nothing to send, or EN = 0, nothing happens. -/
def Obligations.PtpRings : Prop :=
  (∀ (s : State) (m : PtpMsg), Canonical s → Live s → enOf s pgPTP = true →
    (rfld s aPTP_RX_PROD 15 0 + 65536 - rfld s aPTP_RX_CONS 15 0) % 65536 ≠ rxSlots s →
    let u := advance m.tcap s
    let ofs : Int := -(rxLat s m.port : Int) - sgn 32 (rget s (aPTP_PORTADJ_RX m.port)).toNat
    Runs (.ptpRx m) s fun t => rfld t aPTP_RX_PROD 15 0 = (rfld s aPTP_RX_PROD 15 0 + 1) % 65536 ∧
      rbit t (aISTAT pgPTP) 0 = true ∧ (∀ i, i < min 192 m.bytes.length → rdByte t (rxSlotAt s + 64 + i) = m.bytes.getD i 0) ∧
      bits (rdWord t (rxSlotAt s)) 31 16 = m.bytes.length % 65536 ∧ bit (rdWord t (rxSlotAt s)) 0 = s.ptp.run ∧
      rdWords t (rxSlotAt s + 4) 6 = stampWords u.ptp.t0 ofs ++ stampWords u.ptp.t1 ofs ∧
      (∀ a, (a < rxSlotAt s ∨ rxSlotAt s + 256 ≤ a) → rdByte t a = rdByte s a) ∧ KeepsBut [.now, .ptp, .regs, .mem, .fab] s t ∧
      RegsOnly [aPTP_RX_PROD, aISTAT pgPTP, aISTAT pgECC] s t) ∧
  (∀ (s : State) (m : PtpMsg), Canonical s → Live s → enOf s pgPTP = true →
    (rfld s aPTP_RX_PROD 15 0 + 65536 - rfld s aPTP_RX_CONS 15 0) % 65536 = rxSlots s →
    Runs (.ptpRx m) s fun t => rget t aPTP_RX_DROP = rget s aPTP_RX_DROP + 1 ∧ rbit t (aISTAT pgPTP) 1 = true ∧
      KeepsBut [.now, .ptp, .regs] s t ∧ RegsOnly [aPTP_RX_DROP, aISTAT pgPTP] s t) ∧
  (∀ (s : State) (m : PtpMsg), Live s → enOf s pgPTP = false → Runs (.ptpRx m) s fun t => KeepsBut [.now, .ptp] s t) ∧
  (∀ (s : State) (w : HW), Canonical s → Served s aPTP_TX_PROD w →
    (txProdRefused s (bits w.v 15 0) = false → Runs (.ptpTxProd w) s fun t => rfld t aPTP_TX_PROD 15 0 = bits w.v 15 0 ∧
      lastStatus t = 0 ∧ KeepsBut [.regs] s t ∧ RegsOnly [aPTP_TX_PROD, aHOSTIF_LASTERR, aHOSTIF_LASTADDR] s t) ∧
    (txProdRefused s (bits w.v 15 0) = true → Runs (.ptpTxProd w) s fun t => refusedWith 4 pgPTP aPTP_TX_PROD s t)) ∧
  (∀ (s : State) (ok : Bool), Canonical s → Live s → enOf s pgPTP = true →
    rfld s aPTP_TX_PROD 15 0 ≠ rfld s aPTP_TX_CONS 15 0 →
    let a := txSlotAt s
    let w0 := rdWord s a
    let n : Fin 2 := Fin.ofNat 2 (bits w0 9 8)
    (slotBad s a w0 ok →
      Runs (.ptpSlotSent ok) s fun t => rfld t aPTP_TX_CONS 15 0 = (rfld s aPTP_TX_CONS 15 0 + 1) % 65536 ∧
        rget t aPTP_TX_ERR = rget s aPTP_TX_ERR + 1 ∧ bit (rdWord t a) 15 = true ∧ bit (rdWord t a) 14 = true ∧
        rbit t (aISTAT pgPTP) 3 = true ∧ rbit t (aISTAT pgPTP) 2 = true ∧ KeepsBut [.regs, .mem, .fab] s t ∧
        (∀ b, (b < a ∨ a + 4 ≤ b) → rdByte t b = rdByte s b) ∧ RegsOnly [aPTP_TX_CONS, aPTP_TX_ERR, aISTAT pgPTP, aISTAT pgECC] s t) ∧
    (¬ slotBad s a w0 ok →
      let ts := stampWords (ctrOf s (bit w0 6)) (txLat s n + sgn 32 (rget s (aPTP_PORTADJ_TX n)).toNat)
      let put := rdBytes s (a + 64) (bits w0 31 16)
      Runs (.ptpSlotSent ok) s fun t => rfld t aPTP_TX_CONS 15 0 = (rfld s aPTP_TX_CONS 15 0 + 1) % 65536 ∧
        bit (rdWord t a) 15 = true ∧ rbit t (aISTAT pgPTP) 2 = true ∧
        (bit w0 5 = true → rdWords t (a + 20) 3 = ts) ∧ KeepsBut [.regs, .mem, .net, .fab] s t ∧
        (∀ b, (b < a ∨ (a + 4 ≤ b ∧ b < a + 20) ∨ a + 32 ≤ b) → rdByte t b = rdByte s b) ∧
        RegsOnly [aPTP_TX_CONS, aISTAT pgPTP, aNET_TX_PKT n, aISTAT pgECC] s t ∧
        ∃ (b : List Byte) (eth : EthHdr) (udp : Option (Nat × UdpHdr)), t.net.sent.head? = some (.ptp n eth udp b) ∧
          b.length = bits w0 31 16 ∧ (bit w0 4 = false → b = put) ∧
          (bit w0 4 = true → (∀ i, (i < 8 ∨ (16 ≤ i ∧ i < 34) ∨ 44 ≤ i) → b.getD i 0 = put.getD i 0) ∧
            (44 ≤ bits w0 31 16 → ofBe ((b.drop 34).take 6) = (ts.getD 1 0).toNat + 2 ^ 32 * bits (ts.getD 2 0) 31 16 ∧
              ofBe ((b.drop 40).take 4) = (ts.getD 0 0).toNat)) ∧
          eth.smac = macOf s n ∧ eth.dmac.toNat = (rdWord s (a + 4)).toNat + 2 ^ 32 * bits (rdWord s (a + 8)) 15 0 ∧
          eth.tag = (if bit (rdWord s (a + 16)) 16 then some (tagOf s 0 (bits (rdWord s (a + 16)) 12 0)) else none) ∧
          (bit w0 3 = false → udp = none ∧ eth.etype = 0x88F7#16) ∧
          (bit w0 3 = true → eth.etype = 0x0800#16 ∧ ∃ h, udp = some (rfld s aPTP_CFG 7 0, h) ∧ h.src = rget s (aNET_IPADDR n) ∧
            h.dst = rdWord s (a + 12) ∧ h.dport = (if (b.headD 0).toNat % 16 ≤ 3 then 319#16 else 320#16)))) ∧
  (∀ (s : State) (ok : Bool), enOf s pgPTP = false ∨ rfld s aPTP_TX_PROD 15 0 = rfld s aPTP_TX_CONS 15 0 →
    Runs (.ptpSlotSent ok) s fun t => t = s)

/-- An edge of an enabled reference is measured: its time, wrapped phase error and frequencies are kept; one of REFIN0 or
REFIN1 that comes within half a period only counts as short; one of a disabled reference does nothing. A reference
with a cause of failure fails; if it was the selected one, it is selected no longer. A soak or an unbroken failing
that has run its time makes it QUALIFIED or DISQUALIFIED, else nothing changes. An evaluation that is due selects only
a usable reference, none when there is none (HOLDOVER or FREERUN), in AUTO the only one there is, under FORCED the
forced one exactly while usable, under HOLD the present one while it is usable, on a standby TWIN; the output stays
within 200 ppm. One that is not due changes nothing; with the selector off the selection stays. -/
def Obligations.References : Prop :=
  (∀ (s : State) (r : Fin 8) (i : RefMeas), Canonical s → Live s → refEn s r.val = true → ¬ shortEdge s r i →
    Runs (.refEdge r i) s fun t => (refOf t r.val).edgeT = some i.t ∧ (refOf t r.val).e = wrapErr s r.val i.e ∧
      (refOf t r.val).fXo = i.fXo ∧ (refOf t r.val).fMedia = i.fMedia ∧ (refOf t r.val).full = i.full ∧
      (refOf t r.val).st = (refOf s r.val).st ∧ (∀ q, q ≠ r.val → refOf t q = refOf s q) ∧ t.dpll.sel = s.dpll.sel ∧
      KeepsBut [.now, .ptp, .regs, .dpll] s t ∧ RegsOnly [aISTAT pgDPLL] s t) ∧
  (∀ (s : State) (r : Fin 8) (i : RefMeas), Canonical s → Live s → refEn s r.val = true → shortEdge s r i →
    Runs (.refEdge r i) s fun t => refOf t r.val = { refOf s r.val with short := min 255 ((refOf s r.val).short + 1) } ∧
      (∀ q, q ≠ r.val → refOf t q = refOf s q) ∧ KeepsBut [.now, .ptp, .dpll] s t) ∧
  (∀ (s : State) (r : Fin 8) (i : RefMeas), Live s → refEn s r.val = false →
    Runs (.refEdge r i) s fun t => KeepsBut [.now, .ptp] s t) ∧
  (∀ (s : State) (r : Fin 8), Canonical s → Live s →
    let fails : Prop := refEn s r.val = true ∧ (refOf s r.val).st ≠ .off ∧ refFailed s r.val = true
    (fails → Runs (.refFail r) s fun t => (refOf t r.val).st = .failed ∧
      ((refOf s r.val).st ≠ .failed → rbit t (aISTAT pgDPLL) 5 = true) ∧
      (s.dpll.sel ≠ some r.val → (∀ q, q ≠ r.val → refOf t q = refOf s q) ∧ t.dpll.sel = s.dpll.sel) ∧
      (s.dpll.sel = some r.val → selectorOn s → t.dpll.sel ≠ some r.val) ∧
      KeepsBut [.regs, .dpll] s t ∧ RegsOnly [aISTAT pgDPLL, aDPLL_SWITCH_CNT] s t) ∧
    (¬ fails → Runs (.refFail r) s fun t => t = s)) ∧
  (∀ (s : State) (r : Fin 8), Canonical s → Live s →
    let kept : Prop := refEn s r.val = true ∧ refFailed s r.val = false
    let soaked : Prop := kept ∧ (refOf s r.val).st = .soaking ∧ refPasses s r.val = true ∧ (refOf s r.val).soakT + qualSoak s ≤ s.now
    let failed : Prop := kept ∧ (refOf s r.val).st = .drifting ∧ refPasses s r.val = false ∧ (refOf s r.val).soakT + disqSoak s ≤ s.now
    (soaked → Runs (.refSoakDone r) s fun t => refOf t r.val = { refOf s r.val with st := .qualified } ∧
      rbit t (aISTAT pgDPLL) 3 = true ∧ KeepsBut [.regs, .dpll] s t ∧ RegsOnly [aISTAT pgDPLL] s t) ∧
    (¬ soaked → Runs (.refSoakDone r) s fun t => t = s) ∧
    (failed → Runs (.refDisqualify r) s fun t => refOf t r.val = { refOf s r.val with st := .disqualified } ∧
      rbit t (aISTAT pgDPLL) 4 = true ∧ KeepsBut [.regs, .dpll] s t ∧ RegsOnly [aISTAT pgDPLL] s t) ∧
    (¬ failed → Runs (.refDisqualify r) s fun t => t = s)) ∧
  (∀ (s : State) (x : Nat), Canonical s → inOperation s →
    (evalDue s x → selectorOn s →
      Runs (.dpllEvaluation x) s fun t => t.dpll.evalT = max x s.now ∧ t.dpll.freq.natAbs ≤ 200000000 ∧
        (∀ r, t.dpll.sel = some r → refUsable t r = true) ∧
        (t.dpll.sel = none → t.dpll.st = if t.dpll.hoValid then .holdover else .freerun) ∧
        (followsTwin s = true → t.dpll.sel = if refUsable t 6 then some 6 else none) ∧
        (∀ r, followsTwin s = false → rfld s aDPLL_CFG 31 30 = 0 → eligible t r → (∀ q, eligible t q → q = r) → t.dpll.sel = some r) ∧
        (followsTwin s = false → rfld s aDPLL_CFG 31 30 = 2 →
          (eligible t (rfld s aDPLL_CFG 26 24) → t.dpll.sel = some (rfld s aDPLL_CFG 26 24)) ∧
          (¬ eligible t (rfld s aDPLL_CFG 26 24) → t.dpll.sel = none)) ∧
        (∀ c, followsTwin s = false → rfld s aDPLL_CFG 31 30 = 1 → s.dpll.sel = some c → eligible t c → t.dpll.sel = some c) ∧
        KeepsBut [.now, .ptp, .regs, .dpll] s t ∧ RegsOnly [aISTAT pgDPLL, aDPLL_SWITCH_CNT] s t) ∧
    (evalDue s x → ¬ selectorOn s → Runs (.dpllEvaluation x) s fun t => t.dpll.sel = s.dpll.sel ∧ t.dpll.st = s.dpll.st ∧
      KeepsBut [.now, .ptp, .regs, .dpll] s t ∧ RegsOnly [aISTAT pgDPLL] s t) ∧
    (¬ evalDue s x → Runs (.dpllEvaluation x) s fun t => KeepsBut [.now, .ptp] s t))

/-- With the error within LOCK_TH for the dwell, ACQUIRE becomes LOCKED, and after a further dwell in LOCKED the bandwidth
goes one step narrower (three at most); above UNLOCK_TH for 100 ms, LOCKED returns to ACQUIRE at the first step its
reference allows. A pull with nothing left ends. Before its time each of these changes nothing. A STEER write only
stores its value until the next evaluation. An ALIGN write replaces the alignments of the outputs it names, each to
wait for an epoch 10 ms on, and past a pull; where its epoch cannot be had it is refused with its code. The re-phased
edge ends its alignment. -/
def Obligations.LoopLockPullAndAlign : Prop :=
  (∀ s : State, inOperation s →
    let due : Prop := s.dpll.st = .acquire ∧ ∃ u, s.dpll.inSince = some u ∧ u + dwellOf s s.dpll.step ≤ s.now
    (due → Runs .lockDeclared s fun t => t.dpll = { s.dpll with st := .locked, inSince := some s.now, outSince := none } ∧
      rbit t (aISTAT pgDPLL) 0 = true ∧ KeepsBut [.regs, .dpll] s t ∧ RegsOnly [aISTAT pgDPLL] s t) ∧
    (¬ due → Runs .lockDeclared s fun t => t = s)) ∧
  (∀ s : State, Live s →
    let due : Prop := s.dpll.st = .locked ∧ s.dpll.step < 3 ∧ ∃ u, s.dpll.inSince = some u ∧ u + dwellOf s s.dpll.step ≤ s.now
    (due → Runs .ladderStep s fun t => t.dpll = { s.dpll with step := s.dpll.step + 1, inSince := some s.now } ∧
      KeepsBut [.dpll] s t) ∧
    (¬ due → Runs .ladderStep s fun t => t = s)) ∧
  (∀ s : State, Live s →
    let due : Prop := s.dpll.st = .locked ∧ ∃ u, s.dpll.outSince = some u ∧ u + 10 ^ 11 ≤ s.now
    (due → Runs .lockLost s fun t => t.dpll.st = .acquire ∧ (∀ r, s.dpll.sel = some r → t.dpll.step = firstStep s r) ∧
      t.dpll.sel = s.dpll.sel ∧ rbit t (aISTAT pgDPLL) 1 = true ∧ KeepsBut [.regs, .dpll] s t ∧ RegsOnly [aISTAT pgDPLL] s t) ∧
    (¬ due → Runs .lockLost s fun t => t = s)) ∧
  (∀ s : State, Live s →
    let due : Prop := s.dpll.pulling = true ∧ s.dpll.pull.natAbs * 1000000000 ≤ pslope s * (s.now - s.dpll.pullT)
    (due → Runs .pullDone s fun t => t.dpll = { s.dpll with pulling := false, pull := 0, pullT := s.now } ∧
      rbit t (aISTAT pgDPLL) 8 = true ∧ KeepsBut [.regs, .dpll] s t ∧ RegsOnly [aISTAT pgDPLL] s t) ∧
    (¬ due → Runs .pullDone s fun t => t = s)) ∧
  (∀ (s : State) (w : HW), Canonical s → Accepted s aDPLL_STEER w →
    Runs (.steerWrite w) s fun t => rget t aDPLL_STEER = w.v ∧ t.dpll = s.dpll ∧ KeepsBut [.regs] s t ∧
      RegsOnly [aDPLL_STEER, aHOSTIF_LASTERR, aHOSTIF_LASTADDR] s t) ∧
  (∀ (s : State) (w : HW), Canonical s → Accepted s aDPLL_ALIGN w →
    Runs (.dpllAlign w) s fun t => (∀ o, o < 4 → bit w.v o = true → ∃ x ∈ t.dpll.aligns, x.out = o ∧ x.src = bits w.v 9 8 ∧
        x.h = none ∧ s.now + 10 ^ 10 ≤ x.after ∧ (s.dpll.pulling = true → pullEndT s + 10 ^ 10 ≤ x.after)) ∧
      (∀ x, bit w.v x.out = false → (x ∈ t.dpll.aligns ↔ x ∈ s.dpll.aligns)) ∧ lastStatus t = 0 ∧ KeepsBut [.regs, .dpll] s t ∧
      RegsOnly [aDPLL_ALIGN, aHOSTIF_LASTERR, aHOSTIF_LASTADDR] s t) ∧
  (∀ (s : State) (w : HW), Canonical s → Served s aDPLL_ALIGN w → w.v &&& 0xF#32 ≠ 0 → alignRefused s (bits w.v 9 8) ≠ 0 →
    Runs (.dpllAlign w) s fun t => t.dpll = s.dpll ∧ lastStatus t = 5 ∧ rbit t (aISTAT pgDPLL) 10 = true ∧
      captured (alignRefused s (bits w.v 9 8)) pgDPLL aDPLL_ALIGN s t ∧ KeepsBut [.regs] s t) ∧
  (∀ (s : State) (o : Fin 4), Live s →
    let hits (x : AlignSt) : Prop := x.out = o.val ∧ ∃ h, x.h = some h ∧ h ≤ s.tb.frame
    ((∃ x ∈ s.dpll.aligns, hits x) → Runs (.alignEdge o) s fun t => (∀ x, x ∈ t.dpll.aligns ↔ x ∈ s.dpll.aligns ∧ ¬ hits x) ∧
      rbit t (aISTAT pgDPLL) 9 = true ∧ KeepsBut [.regs, .dpll] s t ∧ RegsOnly [aISTAT pgDPLL] s t) ∧
    ((∀ x ∈ s.dpll.aligns, ¬ hits x) → Runs (.alignEdge o) s fun t => t = s))

/-- The frequency that the rules of the loop's state call for, ppt (R309, R312). -/
def calledFor (t : State) : Int :=
  let steer := sgn 32 (rget t aDPLL_STEER).toNat
  match t.dpll.st, t.dpll.sel with
  | .freerun, _ => steer
  | .holdover, _ => t.dpll.hoFreq + steer
  | _, some r => (refOf t r).fXo + (if t.dpll.pulling then (if t.dpll.pull < 0 then (pslope t : Int) else -(pslope t : Int)) * 1000 else 0)
  | _, none => 0

/-- If the output frequency is within 200 ppm of nominal, it is so after every step, whatever command ran; so it stays
inside 976 ppm. After an evaluation the output frequency is the one that the loop's state calls for (R309, R312),
clamped to 200 ppm, and STAT.CLAMP (DPLL.STAT bit 16, live) reads 1 exactly when that one lies outside. -/
def Obligations.OutputFrequencyIsClamped : Prop :=
  (∀ s t : State, s.dpll.freq.natAbs ≤ 200000000 → step s = .next t →
    t.dpll.freq.natAbs ≤ 200000000 ∧ t.dpll.freq.natAbs < 976000000) ∧
  (∀ (s : State) (x : Nat), Canonical s → inOperation s → selectorOn s → evalDue s x → s.frozen = [] →
    Runs (.dpllEvaluation x) s fun t =>
      t.dpll.freq = (if calledFor t < -200000000 then -200000000 else if 200000000 < calledFor t then 200000000 else calledFor t) ∧
      (bit (viewReg t (pageAddr pgDPLL 0xC)) 16 = true ↔ (calledFor t < -200000000 ∨ 200000000 < calledFor t)))

/-! ### Loops, domains, rate changes -/

/-- A lock window's count in range (R321). -/
def windowGood (n : BitVec 13) : Prop := 4094 ≤ n.toNat ∧ n.toNat ≤ 4098

/-- The domains that the host may gate or reset (R323): NET0, NET1, TWIN and the four port groups. -/
def hostDomains : List Nat := [4, 5, 6, 8, 9, 10, 11]

/-- The parts that a change of the twin role may touch: on an ACTIVE device also what its entries in flight had fixed (R92). -/
def roleParts : List Part := [.regs, .twin, .arb, .fab, .galley, .cistern, .basin]

/-- The page whose ISTAT reports the lock of a loop. -/
def loopPage (l : PllLoop) : Nat := match l with | .m => pgPLLM | _ => pgCLKGEN

/-- A good lock window declares a loop that is on locked and keeps its count; PLL-A locking a running SOLO device again
resets it warm. A bad window ends the lock as a loss does; a loop that is off sees no window. A loss has the
consequences of Table 11-3: PLL-A gates CORE and puts FABRIC on its fallback, stops the time counters, and faults a
paired device; PLL-D loses the Cistern; PLL-M stops the ticks, ends a rate change and faults a standby; PLL-S takes
down every link; each counts, and the first three raise their alarm. START begins a band search, refused while one
runs; its result fills a free slot, a family still to search follows, and a rate change that waited goes on. Phase
steps add up, refused while a reference is followed, and are applied. DOMGATE and DOMRST take the host's bits, or are
refused whole when one is not free. -/
def Obligations.LoopsSearchesAndDomains : Prop :=
  (∀ (s : State) (l : PllLoop) (n : BitVec 13), Canonical s → inOperation s → loopOn s l = true → windowGood n →
    loopLocked s l = false → (l = .a → s.boot.run = false ∨ isSolo s = false) →
    Runs (.pllLock l n) s fun t => loopLocked t l = true ∧ rget t (lockCntReg l) = w32 n.toNat ∧
      rbit t (aISTAT (loopPage l)) 0 = true ∧ KeepsBut [.regs, .clk, .ptp, .cistern] s t ∧
      (l = .a → t.clk.coreGated = false ∧ t.clk.fabFb = false ∧ t.ptp = { s.ptp with run := true }) ∧
      (l ≠ .a → t.ptp = s.ptp) ∧ (l ≠ .d → t.cistern = s.cistern) ∧
      (l = .d → enOf s pgDDRC = true → s.cistern.st = .off ∨ s.cistern.st = .lost → t.cistern.st = .training)) ∧
  (∀ (s : State) (n : BitVec 13), Canonical s → inOperation s → s.boot.run = true → isSolo s = true → windowGood n →
    loopOn s .a = true → s.clk.lockA = false →
    Runs (.pllLock .a n) s fun t => rbit t aSYS_RSTCAUSE 6 = true ∧ t.boot.run = false) ∧
  (∀ (s : State) (l : PllLoop) (n : BitVec 13), inOperation s → loopOn s l = true →
    let u := rset (lockCntReg l) (w32 n.toNat) s
    (¬ windowGood n → Runs (.pllLock l n) s fun t => exec (.pllLossOfLock l) u = .next t) ∧
    (windowGood n → loopLocked s l = true → (l = .m → s.clk.change = none) → Runs (.pllLock l n) s fun t => t = u)) ∧
  (∀ (s : State) (l : PllLoop) (n : BitVec 13), inOperation s → loopOn s l = false → Runs (.pllLock l n) s fun t => t = s) ∧
  (∀ (s : State) (l : PllLoop), loopLocked s l = false → Runs (.pllLossOfLock l) s fun t => t = s) ∧
  (∀ s : State, Canonical s → Live s → s.clk.lockA = true → Runs (.pllLossOfLock .a) s fun t => t.clk.lockA = false ∧
    t.clk.coreGated = true ∧ t.clk.fabFb = true ∧ t.ptp = { s.ptp with run := false } ∧ rbit t (aCTRL pgPTP) 4 = false ∧
    rbit t (aCTRL pgPTP) 5 = false ∧ rbit t aINTC_ALMSRC 1 = true ∧
    rfld t aCLKGEN_LOL_CNT 7 0 = min 255 (rfld s aCLKGEN_LOL_CNT 7 0 + 1) ∧
    (s.twin.paired = true → t.twin.st = .faulted ∧ t.twin.drive = (s.twin.drive && s.twin.st == .faulted)) ∧
    (s.twin.paired = false → t.twin = s.twin) ∧ KeepsBut (.clk :: .ptp :: roleParts) s t) ∧
  (∀ s : State, Canonical s → Live s → s.clk.lockD = true → Runs (.pllLossOfLock .d) s fun t => t.clk.lockD = false ∧
    t.cistern.st = (if s.cistern.st = .off then .off else .lost) ∧ rbit t aINTC_ALMSRC 3 = true ∧
    rfld t aCLKGEN_LOL_CNT 15 8 = min 255 (rfld s aCLKGEN_LOL_CNT 15 8 + 1) ∧
    KeepsBut [.regs, .clk, .cistern, .shed, .shedImp, .shedT, .twin, .arb, .fab] s t) ∧
  (∀ s : State, Canonical s → Live s → s.clk.lockM = true → Runs (.pllLossOfLock .m) s fun t => t.clk.lockM = false ∧
    t.tb = { s.tb with ticking := false } ∧ t.clk.change = none ∧ rbit t aINTC_ALMSRC 2 = true ∧
    rget t aPLLM_LOL_CNT = rget s aPLLM_LOL_CNT + 1 ∧
    (s.twin.st = .standbyHot ∨ s.twin.st = .standbyWarm → t.twin.st = .faulted ∧ t.twin.fcause = 5) ∧
    (s.twin.st ≠ .standbyHot → s.twin.st ≠ .standbyWarm → t.twin = s.twin) ∧
    (s.clk.change = none → KeepsBut [.regs, .clk, .tb, .twin, .arb, .fab] s t) ∧
    (∀ c, s.clk.change = some c → s.clk.heldRates = [] → t.clk.fam = c.fam ∧ t.clk.mult = c.mult)) ∧
  (∀ s : State, Canonical s → Live s → s.clk.lockS = true → Runs (.pllLossOfLock .s) s fun t => t.clk.lockS = false ∧
    (∀ n : Fin 2, t.net.link[n].up = false) ∧ t.twin.link = false ∧ rbit t (aISTAT pgCLKGEN) 3 = true ∧
    rfld t aCLKGEN_LOL_CNT 23 16 = min 255 (rfld s aCLKGEN_LOL_CNT 23 16 + 1) ∧
    (s.galley.inflight = [] → KeepsBut [.regs, .clk, .net, .twin, .arb, .fab] s t)) ∧
  (∀ (s : State) (w : HW), Canonical s →
    (Accepted s aPLLM_CALCMD ⟨w.lvl, w.be, setBits w.v 0 0 1⟩ →
      Runs (.bandSearch w) s fun t => t.clk = { s.clk with search := some (bit w.v 8) } ∧ lastStatus t = 0 ∧
        KeepsBut [.regs, .clk] s t ∧ RegsOnly [aPLLM_CALCMD, aHOSTIF_LASTERR, aHOSTIF_LASTADDR] s t) ∧
    (Served s aPLLM_CALCMD ⟨w.lvl, w.be, setBits w.v 0 0 1⟩ → calRefused s = true →
      Runs (.bandSearch w) s fun t => refusedWith 4 pgPLLM aPLLM_CALCMD s t)) ∧
  (∀ (s : State) (b : BitVec 5) (f : BitVec 9) (ok fam : Bool), Canonical s → inOperation s → s.clk.search = some fam →
    (∀ i, ok = true → slotFree s = some i → i < 4 → Runs (.searchDone b f ok) s fun t => bit (slotWord t i) 31 = true ∧
      bit (slotWord t i) 28 = fam ∧ bits (slotWord t i) 27 23 = b.toNat ∧ bits (slotWord t i) 22 14 = f.toNat ∧
      (∀ j, j < 4 → j ≠ i → slotWord t j = slotWord s j) ∧ KeepsBut [.regs, .clk] s t ∧ RegsOnly [aPLLM_CALSLOT i] s t) ∧
    (ok = false ∨ slotFree s = none → Runs (.searchDone b f ok) s fun t => KeepsBut [.clk] s t) ∧
    (∀ g rest, s.clk.bootSearch = g :: rest → Runs (.searchDone b f ok) s fun t => t.clk.search = some g ∧
      t.clk.bootSearch = rest ∧ t.clk.change = s.clk.change) ∧
    (s.clk.bootSearch = [] → (∀ c, s.clk.change = some c → c.phase ≠ .search) →
      Runs (.searchDone b f ok) s fun t => t.clk.search = none ∧ t.clk.change = s.clk.change) ∧
    (∀ c, s.clk.bootSearch = [] → s.clk.change = some c → c.phase = .search →
      Runs (.searchDone b f ok) s fun t => if ok then t.clk.search = none ∧
        t.clk.change.map (·.phase) = some (if c.fam = s.clk.fam then .relock else .ramp) else t.clk = { s.clk with search := some c.fam })) ∧
  (∀ (s : State) (b : BitVec 5) (f : BitVec 9) (ok : Bool), inOperation s → s.clk.search = none →
    Runs (.searchDone b f ok) s fun t => t = s) ∧
  (∀ (s : State) (w : HW), Canonical s →
    (Accepted s aPLLM_PSTEP w →
      Runs (.pstep w) s fun t => t.clk = { s.clk with psteps := s.clk.psteps + sgn 16 (bits w.v 15 0) } ∧ lastStatus t = 0 ∧
        KeepsBut [.regs, .clk] s t ∧ RegsOnly [aPLLM_PSTEP, aHOSTIF_LASTERR, aHOSTIF_LASTADDR] s t) ∧
    (Served s aPLLM_PSTEP w → pstepRefused s = true → Runs (.pstep w) s fun t => refusedWith 3 pgPLLM aPLLM_PSTEP s t)) ∧
  (∀ s : State, Live s →
    (s.clk.psteps ≠ 0 → Runs .pstepDone s fun t => t.clk = { s.clk with psteps := 0 } ∧
      rget t aPLLM_PSTEP_SUM = rget s aPLLM_PSTEP_SUM + i32 s.clk.psteps ∧ rbit t (aISTAT pgPLLM) 2 = true ∧
      KeepsBut [.regs, .clk] s t ∧ RegsOnly [aPLLM_PSTEP_SUM, aISTAT pgPLLM] s t) ∧
    (s.clk.psteps = 0 → Runs .pstepDone s fun t => t = s)) ∧
  (∀ (s : State) (rst : Bool) (w : HW), Canonical s →
    let a := if rst then aCLKGEN_DOMRST else aCLKGEN_DOMGATE
    (Accepted s a w → Runs (.domainGate rst w) s fun t => (∀ i ∈ hostDomains, rbit t a i = bit w.v i) ∧ lastStatus t = 0 ∧
      KeepsBut [.regs, .ports] s t ∧ RegsOnly [a, aHOSTIF_LASTERR, aHOSTIF_LASTADDR] s t ∧
      (∀ g : Fin 4, rst = true ∨ bit w.v (8 + g.val) = true ∨ rbit s a (8 + g.val) = false ∨ enOf s (pgPORTG g) = false →
        grp t g = grp s g)) ∧
    (Served s a w → (∃ i ∈ hostDomains, bit w.v i = true ∧ bit (heldReg s a) i = false ∧ domainFree s i = false) →
      Runs (.domainGate rst w) s fun t => refusedWith 2 pgCLKGEN a s t))

/-- The command is the WRITE_PARAM that carries PLLM.RATE. A RATE value that differs from the rate in force begins a
change at its landing frame, its entry running on; the rate in force changes nothing; while a change is in progress a
further value waits; with PLL-M unlocked the rate is set at once. At the first block boundary 64 frames on, ticks hold
and the DPLL runs free: with the same family the new multiplier acts at once, with another the ramp begins, or a band
search first. The ramp hands over and ends at the target. A good window then lets the next tick start frame h with a
fade-in, groups in SYNC leaving RUN; 64 frames later the change is over and a value that waited lands. Before its time
each of these changes nothing. In the hold an ACTIVE that has the Quoin renews its lease. -/
def Obligations.RateChanges : Prop :=
  (∀ (s : State) (e : Ev) (rest : List Ev), actsNext s e rest → e.e.opcode = opWriteParam →
    (∃ x ∈ pairsOf e.payload, x.1 = aPLLM_RATE) → exec (.mediaRateChange e.ticket) s = exec (.writeParam e.ticket) s) ∧
  (∀ (s : State) (e : Ev) (rest : List Ev) (w : Word) (fam : Bool) (m : Nat), Canonical s → actsNext s e rest →
    e.e.opcode = opWriteParam → pairsOf e.payload = [(aPLLM_RATE, w)] → rateOf w = some (fam, m) →
    (s.clk.lockM = true → s.clk.change = none → (fam ≠ s.clk.fam ∨ m ≠ s.clk.mult) →
      Runs (.mediaRateChange e.ticket) s fun t => t.comp.landing = rest ∧ (∃ x ∈ t.comp.running, x.ticket = e.ticket) ∧
        t.clk.change = some { ticket := some e.ticket, fam := fam, mult := m, land := s.tb.frame, phase := .fadeOut, h := 0,
                              period := period s, handed := false, t0 := 0, slot := none } ∧
        t.clk.fam = s.clk.fam ∧ t.clk.mult = s.clk.mult ∧ t.tb = s.tb) ∧
    (s.clk.lockM = true → s.clk.change = none → fam = s.clk.fam → m = s.clk.mult →
      Runs (.mediaRateChange e.ticket) s fun t => t.comp.landing = rest ∧ t.clk = s.clk) ∧
    (s.clk.lockM = true → s.clk.change.isSome = true →
      Runs (.mediaRateChange e.ticket) s fun t => t.comp.landing = rest ∧ t.clk.change = s.clk.change ∧
        t.clk.heldRates.map (·.1) = s.clk.heldRates.map (·.1) ++ [some e.ticket]) ∧
    (s.clk.lockM = false →
      Runs (.mediaRateChange e.ticket) s fun t => t.comp.landing = rest ∧ t.clk = { s.clk with fam := fam, mult := m })) ∧
  (∀ s : State, Canonical s → Live s →
    let due (c : RateChange) : Prop := c.phase = .fadeOut ∧ holdFrame s c ≤ s.tb.frame + 1
    (∀ c, s.clk.change = some c → due c →
      Runs .rateHold s fun t => ticksHeld t = true ∧ t.tb = { s.tb with ticking := false } ∧ t.dpll.st = .freerun ∧ t.dpll.sel = none ∧
        (∃ d, t.clk.change = some d ∧ d.h = s.tb.frame + 1 ∧ d.fam = c.fam ∧ d.mult = c.mult ∧ d.ticket = c.ticket ∧
          (c.fam = s.clk.fam → d.phase = .relock ∧ t.clk.mult = c.mult) ∧
          (∀ i, c.fam ≠ s.clk.fam → slotFor s c.fam = some i → d.phase = .ramp ∧ d.slot = some i ∧ d.t0 = s.now ∧
            rampLeft t = rampPpm s.clk.fam c.fam) ∧
          (c.fam ≠ s.clk.fam → slotFor s c.fam = none → d.phase = .search ∧ t.clk.search = some c.fam)) ∧
        KeepsBut [.regs, .tb, .clk, .dpll] s t ∧ RegsOnly [aISTAT pgDPLL] s t) ∧
    ((∀ c, s.clk.change = some c → ¬ due c) → Runs .rateHold s fun t => t = s)) ∧
  (∀ (s : State) (c : RateChange), Live s → s.clk.change = some c → c.phase = .ramp →
    (c.handed = false → Runs .rampHandover s fun t => t.clk = { s.clk with change := some { c with handed := true } } ∧
      KeepsBut [.clk] s t) ∧
    Runs .rampEnd s fun t => t.clk.fam = c.fam ∧ t.clk.mult = c.mult ∧ t.clk.change.map (·.phase) = some .relock ∧
      rampLeft t = 0 ∧ rbit t (aISTAT pgPLLM) 3 = true ∧ KeepsBut [.regs, .clk] s t ∧ RegsOnly [aISTAT pgPLLM] s t) ∧
  (∀ s : State, (∀ c, s.clk.change = some c → c.phase ≠ .ramp) →
    Runs .rampHandover s (fun t => t = s) ∧ Runs .rampEnd s (fun t => t = s)) ∧
  (∀ (s : State) (c : RateChange) (n : BitVec 13), Canonical s → inOperation s → s.clk.change = some c → windowGood n →
    s.clk.lockM = true → enOf s pgPLLM = true →
    Runs (.pllLock .m n) s fun t => t.clk = (if c.phase = .relock then { s.clk with change := some { c with phase := .resume } } else s.clk) ∧
      rget t aPLLM_LOCKCNT = w32 n.toNat ∧ KeepsBut [.regs, .clk] s t) ∧
  (∀ s : State, Canonical s → Live s →
    (∀ c, s.clk.change = some c → c.phase = .resume →
      Runs .rateResume s fun t => t.clk.change = some { c with phase := .fadeIn } ∧ t.clk.fadeInAt = some c.h ∧ ticksHeld t = false ∧
        (∀ g : Fin 4, gcfgMode (gcfg s g) = false → (grp t g).st ≠ .run) ∧
        (∀ g : Fin 4, gcfgMode (gcfg s g) = true → (grp t g).st = (grp s g).st)) ∧
    ((∀ c, s.clk.change = some c → c.phase ≠ .resume) → Runs .rateResume s fun t => t = s)) ∧
  (∀ s : State, Canonical s → Live s →
    let due (c : RateChange) : Prop := c.phase = .fadeIn ∧ c.h + 63 ≤ s.tb.frame
    (∀ c, s.clk.change = some c → due c → Runs .rateDone s fun t => rbit t (aISTAT pgPLLM) 4 = true ∧
      (s.clk.heldRates = [] → t.clk = { s.clk with change := none, fadeInAt := none } ∧
        (∀ k x, c.ticket = some k → findEv k s.comp.running = some x → t.comp.running = dropEv k s.comp.running)) ∧
      (∀ k w fam m, s.clk.heldRates = [(k, w)] → rateOf w = some (fam, m) → s.clk.lockM = true →
        (fam ≠ s.clk.fam ∨ m ≠ s.clk.mult) → ∃ d, t.clk.change = some d ∧ d.ticket = k ∧ d.fam = fam ∧ d.mult = m ∧
          d.land = s.tb.frame ∧ d.phase = .fadeOut)) ∧
    ((∀ c, s.clk.change = some c → ¬ due c) → Runs .rateDone s fun t => t = s)) ∧
  (∀ (s : State) (x : Nat), Canonical s → Live s →
    let u := advance x s
    let renews : Prop := isActive s = true ∧ s.twin.drive = true ∧ grantSeen s = true ∧ s.twin.release = none
    (ticksHeld s = true → renews →
      Runs (.rateHoldRenewal x) s fun t => t.twin = { s.twin with lease := some (u.now + leaseLen s) } ∧ t.arb.hb = (!s.arb.hb) ∧
        rget t aARB_HB_CNT = rget s aARB_HB_CNT + 1 ∧ KeepsBut [.now, .ptp, .regs, .twin, .arb] s t ∧ RegsOnly [aARB_HB_CNT] s t) ∧
    (ticksHeld s = true → isActive s = true → ¬ renews →
      Runs (.rateHoldRenewal x) s fun t => t.arb = { s.arb with hbRun := false } ∧ KeepsBut [.now, .ptp, .arb] s t) ∧
    (ticksHeld s = true → isActive s = false → Runs (.rateHoldRenewal x) s fun t => t.twin = s.twin ∧
      t.arb.hb = (if hbTogglesAtTick s then !s.arb.hb else s.arb.hb) ∧ KeepsBut [.now, .ptp, .regs, .arb] s t ∧
      RegsOnly [aARB_HB_CNT] s t) ∧
    (ticksHeld s = false → Runs (.rateHoldRenewal x) s fun t => t = u))

/-! ### The pair -/

/-- One more filtered transition of ARB_GRANT by time `s.now` is no chatter (R345). -/
def quietGrant (s : State) : Prop :=
  (s.arb.trans.filter fun u => decide (s.now < u + secPs)).length < zeroIs1 (rfld s aARB_CHATTER_CFG 31 16)

/-- The device takes a grant that it sees: a paired STANDBY_HOT or candidate (R346, R353). -/
def takesGrant (s : State) : Prop := s.twin.paired = true ∧ (s.twin.st = .standbyHot ∨ candidate s = true)

/-- A device released its outputs: nothing is driven, no lease is held, ARB_HB is static. -/
def released (t : State) : Prop := t.twin.drive = false ∧ t.twin.lease = none ∧ t.arb.hbRun = false

/-- It took the grant: ACTIVE, counted, and driving at once, or from the partner's last deadline on (R346). -/
def tookGrant (s t : State) (now : Nat) : Prop :=
  t.twin.st = .active ∧ rget t aARB_GRANT_CNT = rget s aARB_GRANT_CNT + 1 ∧
    rget t aTWIN_FAILOVER_CNT = rget s aTWIN_FAILOVER_CNT + (if s.twin.st = .standbyHot then 1 else 0) ∧
    (s.twin.pDeadline ≤ now → t.twin.drive = true ∧ t.twin.lease = some (now + leaseLen s)) ∧
    (now < s.twin.pDeadline → t.twin.drive = s.twin.drive ∧ t.twin.grantWait = some s.twin.pDeadline)

/-- Outputs are driven only by a SOLO device, or by an ACTIVE one that holds a lease (R207, R343). -/
def quoinHeld (s : State) : Prop := s.twin.drive = true → isSolo s = true ∨ (isActive s = true ∧ s.twin.lease.isSome = true)

/-- The device fences itself: no ACTIVE, SOLO or FAULTED one does (R44, R359). -/
def fencesItself (s : State) : Prop := isActive s = false ∧ isSolo s = false ∧ s.twin.st ≠ .faulted

/-- The cutover frame that phase 2 names: a block boundary one to two blocks ahead (R362). -/
def cutAhead (s : State) (c : Nat) : Prop := c % blockN s = 0 ∧ s.tb.frame + blockN s < c ∧ c ≤ s.tb.frame + 2 * blockN s

/-- The header of a cell that has arrived, with its channel and the time it brings, if any. -/
def cellOf (c : Instr) : Option (Nat × CellHdr × Nat) :=
  match c with
  | .healthCell x => some (1, x.h, x.t)
  | .decCell x => some (2, x.h, x.t)
  | .mirrorCell x => some (3, x.h, x.t)
  | .galleyCell x => some (4, x.h, 0)
  | .writeCell x => some (5, x.h, 0)
  | .fwdCell x => some (6, x.h, 0)
  | .bulkCell x => some (7, x.h, 0)
  | .ctrlCell x => some (8, x.h, 0)
  | _ => none

/-- Words of memory, none on a register page, none over another. -/
def plainWords (ws : List (Nat × Word)) : Prop :=
  (∀ x ∈ ws, isPageAddr x.1 = false) ∧ ws.Pairwise fun x y => x.1 + 4 ≤ y.1 ∨ y.1 + 4 ≤ x.1

/-- The words stand in memory, and no other byte of it has changed. -/
def wordsTaken (ws : List (Nat × Word)) (s t : State) : Prop :=
  (∀ x ∈ ws, rdWord t x.1 = x.2) ∧ (∀ b, (∀ x ∈ ws, b < x.1 ∨ x.1 + 4 ≤ b) → rdByte t b = rdByte s b)

/-- The cell of the GALLEY channel acts at once: nothing before it is missing and nothing waits (R92). -/
def galInOrder (s : State) (q : Nat) : Prop := s.twin.galHeld = [] ∧ ∀ o ∈ s.twin.galOwed, o = q

/-- Every step keeps: outputs are driven only by a SOLO device or an ACTIVE one with a lease. A grant that passes the
filter, with no chatter or stuck, makes a STANDBY_HOT or a candidate ACTIVE: it drives under a new lease at once, or
from the partner's last deadline on; chatter blocks it until the line is quiet, stuck until it falls. The grant's fall
fences an ACTIVE; an expired lease releases the outputs into FENCED after a handover, else FAULTED. HANDOVER, FENCE
and REJOIN act or are refused with code 1. SYNCING goes through its phases, the first not before the regions are
equal, none while a rate change runs, the ACTIVE sending the copy; the cutover at a block boundary moves while
forwarded writes are owed, at most four times; a warm standby becomes hot when R365 holds, or faults when its CRCs do
not agree in 1 s. -/
def Obligations.QuoinAndTwinStates : Prop :=
  (∀ s t : State, quoinHeld s → step s = .next t → quoinHeld t) ∧
  (∀ (s : State) (x ph : Nat), Canonical s → Live s →
    let u := advance x s
    (arbPasses s true ph = false → Runs (.arbGrantRise ⟨x, ph⟩) s fun t => t.twin.st = s.twin.st ∧ t.twin.drive = s.twin.drive ∧
      (s.boot.preload = [] → t.arb = { s.arb with pin := true } ∧ KeepsBut [.now, .ptp, .arb] s t)) ∧
    (arbPasses s true ph = true → Runs (.arbGrantRise ⟨x, ph⟩) s fun t => t.arb.pin = true ∧ t.arb.filt = true ∧
      rbit t (aISTAT pgARB) 0 = true ∧
      (quietGrant u → s.arb.stuck = false → s.arb.chatter = false → takesGrant s → tookGrant s t u.now) ∧
      (s.arb.stuck = true ∨ s.arb.chatter = true ∨ ¬ takesGrant s → t.twin.st ≠ s.twin.st →
        isActive s = true ∧ ¬ quietGrant u ∧ t.twin.st = .fenced) ∧
      (¬ quietGrant u → s.arb.chatter = false → t.arb.chatter = true ∧ rbit t (aISTAT pgARB) 3 = true ∧
        (isActive s = true → t.twin.st = .fenced ∧ released t) ∧
        (isActive s = false → t.twin.st = s.twin.st ∧ t.twin.drive = s.twin.drive)))) ∧
  (∀ (s : State) (x : Nat), Canonical s → Live s →
    let u := advance x s
    let due : Prop := isActive s = true ∧ ∃ d, s.twin.grantWait = some d ∧ d ≤ u.now
    (due → Runs (.grantWaitEnd x) s fun t => t.twin.drive = true ∧ t.twin.lease = some (u.now + leaseLen s) ∧
      t.twin.grantWait = none ∧ t.twin.st = .active) ∧
    (¬ due → s.boot.preload = [] → Runs (.grantWaitEnd x) s fun t => t = u)) ∧
  (∀ (s : State) (x ph : Nat), Canonical s → Live s →
    (arbPasses s false ph = false → Runs (.arbGrantFall ⟨x, ph⟩) s fun t => t.arb = { s.arb with pin := false } ∧
      KeepsBut [.now, .ptp, .arb] s t) ∧
    (arbPasses s false ph = true → Runs (.arbGrantFall ⟨x, ph⟩) s fun t => t.arb.pin = false ∧ t.arb.filt = false ∧ t.arb.stuck = false ∧
      rbit t (aISTAT pgARB) 1 = true ∧ (s.arb.stuck = true → rbit t (aISTAT pgARB) 2 = true) ∧
      (isActive s = true → t.twin.st = .fenced ∧ released t) ∧ (isActive s = false → t.twin = s.twin) ∧
      KeepsBut (.now :: .ptp :: roleParts) s t)) ∧
  (∀ s : State, Canonical s → Live s →
    let due : Prop := s.arb.chatter = true ∧ s.arb.trans.headD 0 + zeroIs1 (rfld s aARB_CHATTER_CFG 15 0) * msPs ≤ s.now
    (due → Runs .arbChatterQuiet s fun t => t.arb.chatter = false ∧ rbit t (aISTAT pgARB) 2 = true ∧
      (s.arb.filt = true → s.arb.stuck = false → takesGrant s → tookGrant s t s.now) ∧
      (s.arb.filt = false ∨ s.arb.stuck = true ∨ ¬ takesGrant s → t.twin.st = s.twin.st ∧ t.twin.drive = s.twin.drive)) ∧
    (¬ due → s.boot.preload = [] → Runs .arbChatterQuiet s fun t => t = s)) ∧
  (∀ s : State, Live s →
    let due : Prop := s.arb.filt = true ∧ s.arb.stuck = false ∧ s.arb.chatter = false ∧ s.twin.paired = true ∧
      isActive s = false ∧ s.twin.st ≠ .standbyHot ∧ candidate s = false ∧
      s.arb.trans.headD 0 + zeroIs1 (rfld s aARB_STUCK_CFG 15 0) * msPs ≤ s.now
    (due → Runs .arbStuck s fun t => t.arb = { s.arb with stuck := true } ∧ rbit t (aISTAT pgARB) 4 = true ∧
      KeepsBut [.regs, .arb] s t ∧ RegsOnly [aISTAT pgARB] s t) ∧
    (¬ due → Runs .arbStuck s fun t => t = s)) ∧
  (∀ (s : State) (x : Nat), Canonical s → Live s →
    let u := advance x s
    let due : Prop := ∃ d, s.twin.lease = some d ∧ d ≤ u.now
    (due → Runs (.leaseExpire x) s fun t => released t ∧ rget t aARB_EXPIRE_CNT = rget s aARB_EXPIRE_CNT + 1 ∧
      rbit t (aISTAT pgARB) 5 = true ∧ t.twin.st = (if s.twin.release = some .handover then .fenced else .faulted) ∧
      (∀ c, s.twin.release = some (.fault c) → t.twin.fcause = c) ∧ KeepsBut (.now :: .ptp :: roleParts) s t) ∧
    (¬ due → Runs (.leaseExpire x) s fun t => t = u)) ∧
  (∀ (s : State) (w : HW), Canonical s →
    (Accepted s aTWIN_CMD ⟨w.lvl, w.be, setBits w.v 1 0 2⟩ →
      Runs (.handover w) s fun t => isActive s = true ∧ partnerHot s = true ∧
        t.twin = { s.twin with release := some (s.twin.release.getD .handover) } ∧ lastStatus t = 0 ∧ KeepsBut [.regs, .twin] s t ∧
        RegsOnly [aTWIN_CMD, aHOSTIF_LASTERR, aHOSTIF_LASTADDR] s t) ∧
    (handoverRefused s = true → Served s aTWIN_CMD ⟨w.lvl, w.be, setBits w.v 1 0 2⟩ →
      Runs (.handover w) s fun t => refusedWith 1 pgTWIN aTWIN_CMD s t) ∧
    (rejoinRefused s = true → Served s aTWIN_CMD ⟨w.lvl, w.be, setBits w.v 1 0 1⟩ →
      Runs (.rejoin w) s fun t => refusedWith 1 pgTWIN aTWIN_CMD s t)) ∧
  (∀ (s : State) (w : HW), Canonical s → Accepted s aTWIN_CMD ⟨w.lvl, w.be, setBits w.v 1 0 3⟩ →
    Runs (.fence w) s fun t => lastStatus t = 0 ∧
      (isActive s = true → t.twin.st = .active ∧ t.twin.drive = s.twin.drive ∧
        (s.twin.link = true → t.twin.sent.head?.map (·.body) = some .fence)) ∧
      (isActive s = false → ¬ fencesItself s → t.twin = s.twin) ∧
      (fencesItself s → t.twin.st = .fenced ∧ released t) ∧ KeepsBut [.regs, .twin, .arb, .fab] s t) ∧
  (∀ (s : State) (w : HW), Canonical s → Accepted s aTWIN_CMD ⟨w.lvl, w.be, setBits w.v 1 0 1⟩ →
    Runs (.rejoin w) s fun t => t.twin.st = .syncing ∧ t.twin.phase = 1 ∧ t.twin.drive = s.twin.drive ∧ lastStatus t = 0 ∧
      (∃ l, (t.twin.sent.take 2).map (·.body) = [.regions l, .rejoin]) ∧ KeepsBut [.regs, .twin, .fab] s t) ∧
  (∀ s : State, Live s →
    let due : Prop := s.twin.st = .fenced ∧ s.twin.paired = true ∧ rbit s aTWIN_CFG 30 = true ∧ joinOk s = true
    (due → Runs .autoJoin s fun t => t.twin.st = .syncing ∧ t.twin.phase = 1 ∧
      (t.twin.sent.take 2).map (·.body) = [.regions (regionCrcs s), .rejoin] ∧ KeepsBut [.regs, .twin, .fab] s t) ∧
    (¬ due → Runs .autoJoin s fun t => t = s)) ∧
  (∀ s : State, inOperation s →
    let due : Prop := s.twin.paired = true ∧ s.twin.st = .fenced ∧ s.twin.link = false
    (due → Runs .negTimeout s fun t => t.twin = { s.twin with negDone := true } ∧ KeepsBut [.twin] s t) ∧
    (¬ due → Runs .negTimeout s fun t => t = s)) ∧
  (∀ s : State, Live s → s.clk.change.isSome = true → Runs .syncPhaseEnd s fun t => t = s) ∧
  (∀ s : State, Live s → s.twin.st = .syncing → s.clk.change = none →
    ((∃ x ∈ s.twin.pRegions, regionCrc s x.1 ≠ x.2) → s.twin.phase = 1 → Runs .syncPhaseEnd s fun t => t = s) ∧
    ((∀ x ∈ s.twin.pRegions, regionCrc s x.1 = x.2) → s.twin.phase = 1 → Runs .syncPhaseEnd s fun t => t.twin.phase = 2 ∧
      t.twin.copyT = s.now ∧ rget t aTWIN_DIFF_REGIONS = w32 (s.twin.diffs.length % 65536) ∧ KeepsBut [.regs, .twin] s t) ∧
    (s.twin.phase = 2 → Runs .syncPhaseEnd s fun t => t.twin.phase = 3 ∧ cutAhead s t.twin.cut ∧
      rget t aTWIN_CUT_LO = lo32 t.twin.cut ∧ KeepsBut [.regs, .twin] s t)) ∧
  (∀ s : State, Live s → isActive s = true → s.twin.pstate = 4 → s.twin.link = true → s.clk.change = none → s.fab.flips = [] →
    (s.twin.joinPh = 1 → Runs .syncPhaseEnd s fun t => t.twin.joinPh = 2 ∧
      t.twin.sent.head?.map (·.body) = some (.part (.engine s.basin)) ∧ KeepsBut [.twin] s t) ∧
    (s.twin.joinPh = 2 → Runs .syncPhaseEnd s fun t => t.twin.joinPh = 3 ∧ (∃ x ∈ t.twin.sent, ∃ c, x.body = .cut c ∧ cutAhead s c) ∧
      (∀ p : Fin 16, ∃ x ∈ t.twin.sent, x.body = .part (.press p s.press[p].r s.press[p].pc s.press[p].stack)) ∧ KeepsBut [.twin] s t)) ∧
  (∀ s : State, Canonical s → Live s →
    let due : Prop := s.twin.st = .syncing ∧ s.twin.phase = 3 ∧ s.twin.cut ≤ s.tb.frame
    (due → s.twin.fwdOwed = [] → Runs .cutover s fun t => t.twin.st = .standbyWarm ∧ t.twin.phase = 0 ∧ t.twin.crcRun = 0 ∧
      rbit t (aISTAT pgTWIN) 3 = true ∧ KeepsBut [.regs, .twin, .basin, .fab] s t) ∧
    (due → s.twin.fwdOwed ≠ [] → s.twin.moves < 4 → Runs .cutover s fun t => t.twin.st = .syncing ∧ t.twin.cut = s.twin.cut + blockN s ∧
      t.twin.moves = s.twin.moves + 1 ∧ rget t aTWIN_RESTART_CNT = rget s aTWIN_RESTART_CNT + 1 ∧ KeepsBut [.regs, .twin] s t) ∧
    (due → s.twin.fwdOwed ≠ [] → 4 ≤ s.twin.moves → Runs .cutover s fun t => t.twin.st = .faulted ∧ t.twin.fcause = 8) ∧
    (¬ due → Runs .cutover s fun t => t = s)) ∧
  (∀ (s : State) (r : Nat), Canonical s → Live s →
    (s.twin.st = .syncing → alGet 0 s.twin.resent r < 4 → Runs (.fwdQueueOverflow r) s fun t => t.twin.st = .syncing ∧
      alGet 0 t.twin.resent r = alGet 0 s.twin.resent r + 1 ∧ rget t aTWIN_RESTART_CNT = rget s aTWIN_RESTART_CNT + 1 ∧
      KeepsBut [.regs, .twin] s t) ∧
    (s.twin.st = .syncing → 4 ≤ alGet 0 s.twin.resent r → Runs (.fwdQueueOverflow r) s fun t => t.twin.st = .faulted ∧ t.twin.fcause = 8) ∧
    (isActive s = true → s.twin.pstate = 4 → Runs (.fwdQueueOverflow r) s fun t =>
      rget t aTWIN_RESTART_CNT = rget s aTWIN_RESTART_CNT + 1 ∧ KeepsBut [.regs] s t ∧ RegsOnly [aTWIN_RESTART_CNT] s t) ∧
    (s.twin.st ≠ .syncing → isActive s = false ∨ s.twin.pstate ≠ 4 → Runs (.fwdQueueOverflow r) s fun t => t = s)) ∧
  (∀ (s : State) (e : Bool), Live s →
    (s.twin.st = .standbyWarm → Runs (.standbyHotPromote e) s fun t =>
      (t.twin.st = .standbyHot ↔ (s.twin.storeEq = true ∨ e = true) ∧ warmUntil s ≤ s.tb.frame ∧ 64 ≤ s.twin.crcRun) ∧
      (t.twin.st = .standbyHot ∨ t.twin.st = .standbyWarm) ∧ KeepsBut [.regs, .twin, .fab] s t) ∧
    (s.twin.st ≠ .standbyWarm → Runs (.standbyHotPromote e) s fun t => t = s)) ∧
  (∀ s : State, Live s →
    let due : Prop := s.twin.st = .standbyWarm ∧ s.twin.crcRun < 64 ∧ ∃ u, s.twin.warmT = some u ∧ u + secPs ≤ s.now
    (due → Runs .warmTimeout s fun t => t.twin.st = .faulted ∧ t.twin.fcause = 2 ∧ released t) ∧
    (¬ due → Runs .warmTimeout s fun t => t = s))

/-- The link comes up with HELLO and negotiation sent; down, or with HEALTH missing, the partner is unknown and what
waited for it is answered: a hot standby waits LOSS_HOLD frames and is then fenced, a warm or syncing one is fenced at
once. A cell with a bad CRC is counted, asked for again and changes nothing else; no cell acts while the link is down.
Good cells: HEALTH brings state and deadline, DEC the axis samples of the present frame to a device that follows,
MIRROR the samples of the frame before, GALLEY a journal slot (acknowledged) or client reset in order, WRITE, FWD and
BULK words, and at the cutover a Press, CTRL fencing, rejoin, regions, the cutover frame or negotiation, whose
difference is reported. A NAK resends a cell still held. -/
def Obligations.TraliatLinkAndCells : Prop :=
  (∀ (s : State) (l : BitVec 2), Live s →
    let may : Prop := s.twin.paired = true ∧ s.clk.lockS = true ∧ l ≠ 0 ∧ rbit s aCLKGEN_DOMGATE 6 = false
    (may → Runs (.traliatLinkUp l) s fun t => t.twin.link = true ∧ t.twin.hello = true ∧ t.twin.lanes = l ∧
      (t.twin.sent.take 2).map (·.body) = [.negotiate s.twin.paired (s.twin.leaseL - 1) (fs s) (rget s aSYS_CHIP_ID)
        (rfld s aSYS_STEPPING 7 0) (rget s aBOOT_IMG_CRC) (rfld s aBOOT_BADPRESS 15 0) s.twin.st.code, .hello] ∧
      KeepsBut [.regs, .twin] s t ∧ RegsOnly [aISTAT pgTWIN] s t) ∧
    (¬ may → Runs (.traliatLinkUp l) s fun t => t = s)) ∧
  (∀ (s : State) (c : Instr), Canonical s → Live s → s.twin.link = true → c = .traliatLinkDown ∨ c = .healthMissing →
    Runs c s fun t => t.twin.pstate = 0xF ∧ t.galley.inflight = [] ∧
      (c = .traliatLinkDown → t.twin.link = false ∧ t.twin.lanes = 0 ∧ rget t aTWIN_LINKDN_CNT = rget s aTWIN_LINKDN_CNT + 1) ∧
      (c = .healthMissing → t.twin.link = true ∧ t.twin.lanes = s.twin.lanes) ∧
      (s.twin.pstate = 0xF → t.twin.st = s.twin.st) ∧
      (s.twin.pstate ≠ 0xF → rbit t aINTC_ALMSRC 8 = true ∧ rbit t (aISTAT pgTWIN) 6 = true ∧
        (s.twin.st = .standbyHot → t.twin.st = .standbyHot ∧
          t.twin.lossHold = some (s.tb.frame + zeroIs1 (rfld s aTWIN_CFG 23 16))) ∧
        (s.twin.st = .standbyWarm ∨ s.twin.st = .syncing → t.twin.st = .fenced)) ∧
      (isActive s = true → t.twin.st = .active ∧ t.twin.drive = s.twin.drive) ∧
      (s.galley.inflight = [] → KeepsBut [.regs, .twin, .arb, .fab] s t)) ∧
  (∀ s : State, s.twin.link = false → Runs .traliatLinkDown s (fun t => t = s) ∧ Runs .healthMissing s (fun t => t = s)) ∧
  (∀ (s : State) (l : BitVec 2), Live s →
    (s.twin.link = true → l ≠ 0 → s.twin.lanes ≠ l → Runs (.traliatLaneChange l) s fun t => t.twin = { s.twin with lanes := l } ∧
      rbit t (aISTAT pgTWIN) 7 = true ∧ KeepsBut [.regs, .twin] s t ∧ RegsOnly [aISTAT pgTWIN] s t) ∧
    (s.twin.link = false ∨ l = 0 ∨ s.twin.lanes = l → Runs (.traliatLaneChange l) s fun t => t = s)) ∧
  (∀ (s : State) (c : Instr) (n : Nat) (h : CellHdr) (x : Nat), inOperation s → cellOf c = some (n, h, x) →
    (s.twin.link = false → Runs c s fun t => t = advance x s) ∧
    (s.twin.link = true → h.crcOk = false → Canonical s →
      Runs c s fun t => t.twin.sent.head?.map (·.body) = some (.nak n h.seq.toNat) ∧
        rget t aTWIN_CELL_ERR_CNT = rget s aTWIN_CELL_ERR_CNT + 1 ∧ t.twin.st = s.twin.st ∧ t.twin.pstate = s.twin.pstate ∧
        (n = 4 → h.seq.toNat ∈ t.twin.galOwed) ∧ (n = 6 → h.seq.toNat ∈ t.twin.fwdOwed) ∧
        KeepsBut [.now, .ptp, .regs, .twin] s t ∧ RegsOnly [aTWIN_CELL_ERR_CNT] s t)) ∧
  (∀ (s : State) (c : HealthCell), Live s → s.twin.link = true → c.h.crcOk = true →
    Runs (.healthCell c) s fun t => t.twin.pstate = c.state.val ∧ t.twin.pDeadline = c.deadline ∧
      t.twin.pCrc.head? = some (c.frame, c.crc) ∧ t.twin.st = s.twin.st ∧ t.twin.drive = s.twin.drive ∧
      t.twin.pHotT = (if c.state.val = 2 then some (max c.t s.now) else none) ∧
      (isActive s = true → 2 ≤ s.twin.pstate → s.twin.pstate ≤ 4 → 5 ≤ c.state.val →
        rbit t aINTC_ALMSRC 8 = true ∧ t.galley.inflight = []) ∧
      (isActive s = false → KeepsBut [.now, .ptp, .regs, .twin, .tb] s t)) ∧
  (∀ (s : State) (c : DecCell), Live s → s.twin.link = true → c.h.crcOk = true →
    (usesDec s = true → c.d.frame = s.tb.frame →
      Runs (.decCell c) s fun t => t.tb.ptpNow = c.d.ptp.toNat ∧ t.tb.posNow = c.d.pos ∧ t.tb.cntNow = c.d.cnt.toNat ∧
        t.tb.spdNow = c.d.speed ∧ t.tb.pend = c.d.pend ∧ t.tb.frame = s.tb.frame ∧ t.tb.selWait = false) ∧
    (usesDec s = true → c.d.frame ≠ s.tb.frame → Runs (.decCell c) s fun t => t.tb = s.tb) ∧
    (usesDec s = true → s.clk.pps.next.isSome = true →
      Runs (.decCell c) s fun t => t.clk.pps.next = some (c.d.frame + c.d.pps)) ∧
    (usesDec s = false → Runs (.decCell c) s fun t => KeepsBut [.now, .ptp, .twin] s t ∧ t.twin.st = s.twin.st ∧
      (c.t ≤ s.tb.tickT + 2000000 → t = advance c.t s))) ∧
  (∀ (s : State) (c : MirrorCell), Live s → s.twin.link = true → c.h.crcOk = true →
    (c.frame + 1 = s.tb.frame → Runs (.mirrorCell c) s fun t => (∀ x ∈ c.samples, x.1.val ∈ t.twin.mirrorCh) ∧
      (∀ x ∈ c.samples, (∀ y ∈ c.samples, y.1 = x.1 → y = x) → alGet 0 t.twin.mirrorIn x.1.val = sgn 32 x.2.toNat) ∧
      KeepsBut [.now, .ptp, .twin] s t) ∧
    (c.frame + 1 ≠ s.tb.frame → Runs (.mirrorCell c) s fun t => t = advance c.t s)) ∧
  (∀ (s : State) (c : GalleyCell), Canonical s → Live s → s.twin.link = true → c.h.crcOk = true →
    let standby : Prop := s.twin.st = .standbyHot ∨ s.twin.st = .standbyWarm
    (∀ k e p f d u x, standby → galInOrder s c.h.seq.toNat → c.m = .slot k e p f d u x →
      Runs (.galleyCell c) s fun t => rget t aGALLEY_TICKET_LAST = laterTicket (rget s aGALLEY_TICKET_LAST) k ∧
        t.twin.sent.head?.map (·.body) = some (.ack k) ∧ t.twin.galOwed = [] ∧
        (e.opcode = opCancel ∧ e.axis = 0 ∨ ∃ ev ∈ t.comp.queue, ev.ticket = k ∧ ev.e = e ∧ ev.due = d)) ∧
    (∀ m : BitVec 16, standby → galInOrder s c.h.seq.toNat → c.m = .clientRst m → Runs (.galleyCell c) s fun t =>
      (∀ i x, s.galley.clients[i]? = some x →
        t.galley.clients[i]? = some (if m.getLsbD i then ⟨false, x.seq, []⟩ else x)) ∧ KeepsBut [.twin, .galley] s t) ∧
    (standby → s.twin.galHeld = [] → (∃ o ∈ s.twin.galOwed, o ≠ c.h.seq.toNat ∧ seqBefore c.h.seq.toNat o = false) →
      Runs (.galleyCell c) s fun t => t.twin.galHeld = [(c.h.seq.toNat, c.m)] ∧ t.twin.sent = s.twin.sent ∧ KeepsBut [.twin] s t) ∧
    (¬ standby → Runs (.galleyCell c) s fun t => t = s)) ∧
  (∀ (s : State) (h : CellHdr) (ws : List (Nat × Word)), Canonical s → Live s → s.twin.link = true → h.crcOk = true →
    (followsTwin s = true → writeCellOk (.sys ws) = true → plainWords ws → Runs (.writeCell ⟨h, .sys ws⟩) s fun t =>
      wordsTaken ws s t ∧ KeepsBut [.mem, .fab, .regs] s t ∧ RegsOnly [aISTAT pgECC] s t) ∧
    (followsTwin s = false ∨ writeCellOk (.sys ws) = false → Runs (.writeCell ⟨h, .sys ws⟩) s fun t => t = s) ∧
    (s.twin.st = .syncing → plainWords ws → Runs (.fwdCell ⟨h, .sys ws⟩) s fun t =>
      wordsTaken ws s t ∧ h.seq.toNat ∉ t.twin.fwdOwed ∧ KeepsBut [.mem, .fab, .regs, .twin] s t) ∧
    (s.twin.st = .syncing → plainWords ws → Runs (.bulkCell ⟨h, .sys ws⟩) s fun t =>
      wordsTaken ws s t ∧ (s.twin.phase = 1 → ∀ x ∈ ws, x.1 / 4096 ∈ t.twin.diffs) ∧ KeepsBut [.mem, .fab, .regs, .twin] s t) ∧
    (∀ a v, s.twin.st = .syncing → ws = [(a, v)] → isPageAddr a = true → copyActs (pageOf a) = false →
      a ≠ aTIMEBASE_WHEEL_CIRC → a ≠ aTIMEBASE_WHEEL_PPR → Runs (.bulkCell ⟨h, .sys ws⟩) s fun t =>
      rget t a = v ∧ KeepsBut [.regs, .twin] s t ∧ RegsOnly [a] s t) ∧
    (∀ p r pc st, s.twin.st = .syncing → Runs (.fwdCell ⟨h, .press p r pc st⟩) s fun t =>
      t.press[p].r = r ∧ t.press[p].pc = pc ∧ t.press[p].stack = st ∧ t.press[p].mode = .run ∧ KeepsBut [.press, .twin] s t) ∧
    (s.twin.st = .standbyWarm → Runs (.bulkCell ⟨h, .sys ws⟩) s fun t => t = s) ∧
    (∀ p, s.twin.st ≠ .syncing → Runs (.fwdCell ⟨h, p⟩) s fun t => t = s) ∧
    (∀ p, s.twin.st ≠ .syncing → s.twin.st ≠ .standbyWarm → Runs (.bulkCell ⟨h, p⟩) s fun t => t = s)) ∧
  (∀ (s : State) (h : CellHdr), Canonical s → inOperation s → s.twin.link = true → h.crcOk = true →
    (Runs (.ctrlCell ⟨h, .hello⟩) s fun t => t.twin = { s.twin with hello := true } ∧ KeepsBut [.twin] s t) ∧
    (¬ fencesItself s → Runs (.ctrlCell ⟨h, .fence⟩) s fun t => t = s) ∧
    (fencesItself s → Runs (.ctrlCell ⟨h, .fence⟩) s fun t => t.twin.st = .fenced ∧ released t ∧ KeepsBut [.regs, .twin, .arb, .fab] s t) ∧
    (Runs (.ctrlCell ⟨h, .rejoin⟩) s fun t => t.twin = { s.twin with pstate := 4, joinPh := 1 } ∧ KeepsBut [.twin] s t) ∧
    (∀ l, (s.twin.st = .syncing → Runs (.ctrlCell ⟨h, .regions l⟩) s fun t => t.twin = { s.twin with pRegions := l } ∧ KeepsBut [.twin] s t) ∧
      (isActive s = true → s.twin.pstate = 4 → l.length ≤ 254 → Runs (.ctrlCell ⟨h, .regions l⟩) s fun t =>
        (∃ x ∈ t.twin.sent, x.body = .regions (l.map fun x => (x.1, regionCrc s x.1))) ∧
        (∀ x ∈ l, regionCrc s x.1 ≠ x.2 → ∃ y ∈ t.twin.sent, y.body = .words false (regionWords s x.1)) ∧ KeepsBut [.twin] s t)) ∧
    (∀ f, (s.twin.st = .syncing → s.twin.phase = 3 → Runs (.ctrlCell ⟨h, .cut f⟩) s fun t => t.twin = { s.twin with cut := f } ∧
        rget t aTWIN_CUT_LO = lo32 f ∧ rget t aTWIN_CUT_HI = hi32 f ∧ KeepsBut [.regs, .twin] s t) ∧
      (s.twin.st ≠ .syncing ∨ s.twin.phase ≠ 3 → Runs (.ctrlCell ⟨h, .cut f⟩) s fun t => t = s)) ∧
    (∀ w v, let takes : Prop := enOf s pgSENSE = true ∧ bits w 11 8 < 8 ∧ ownSense s (bits w 11 8) = false
      (takes → Runs (.ctrlCell ⟨h, .senseEvent w v⟩) s fun t =>
        rfld t aSENSE_EVT_PROD 15 0 = (rfld s aSENSE_EVT_PROD 15 0 + 1) % 65536 ∧
        rget t (aSENSE_EVT (rfld s aSENSE_EVT_PROD 15 0 % 64)) = w) ∧
      (¬ takes → Runs (.ctrlCell ⟨h, .senseEvent w v⟩) s fun t => t = s)) ∧
    (∀ pr l r ch st crc bad (n : Fin 7),
      (sameConfig s pr l r ch st crc bad = true → Runs (.ctrlCell ⟨h, .negotiate pr l r ch st crc bad n⟩) s fun t =>
        t.twin = { s.twin with negDone := true, pstate := n.val, cfgDiff := false } ∧ KeepsBut [.twin] s t) ∧
      (sameConfig s pr l r ch st crc bad = false →
        Runs (.ctrlCell ⟨h, .negotiate pr l r ch st crc bad n⟩) s fun t =>
          t.twin = { s.twin with negDone := true, pstate := n.val, cfgDiff := true } ∧ captured 4 pgTWIN 0 s t ∧
          rbit t (aISTAT pgTWIN) 9 = true ∧ KeepsBut [.regs, .twin] s t))) ∧
  (∀ (s : State) (ch : Fin 8) (q : BitVec 16), Canonical s → Live s →
    let found := s.twin.sent.find? (fun c => c.ch == ch.val && c.seq == q.toNat)
    (∀ c, s.twin.link = true → found = some c → Runs (.cellResend ch q) s fun t => t.twin.sent.head? = some c ∧
      rget t aTWIN_RETX_CNT = rget s aTWIN_RETX_CNT + 1 ∧ KeepsBut [.regs, .twin] s t ∧ RegsOnly [aTWIN_RETX_CNT] s t) ∧
    (s.twin.link = false ∨ found = none → Runs (.cellResend ch q) s fun t => t = s)) ∧
  (∀ s : State, Live s →
    let due : Prop := s.twin.st = .standbyHot ∧ ∃ f, s.twin.lossHold = some f ∧ f ≤ s.tb.frame
    (due → Runs .lossHoldExpire s fun t => t.twin.st = .fenced ∧ released t ∧ KeepsBut [.regs, .twin, .arb, .fab] s t) ∧
    (¬ due → Runs .lossHoldExpire s fun t => t = s))

/-! ### Cistern, Recorder, Player -/

/-- Every lane of a training or retrain has a wide enough eye (R377). -/
def eyesGood (s : State) (r : TrainIn) : Prop := failedLanes s r.lanes = []

/-- The word of a delay line's window as it stands (R382). -/
def dlyWindow (s : State) : List Word := (List.range 5).map fun k => rget s (aDDRC_DLY_ENTRY k)

/-- No write of the window waits for a frame boundary. -/
def windowStands (s : State) : Prop := ∀ k, k < 5 → heldReg s (aDDRC_DLY_ENTRY k) = rget s (aDDRC_DLY_ENTRY k)

/-- Frames of the reserve that each class A line gets on a move there (R386). -/
def shareNow (s : State) : Nat := if classALines s = [] then 0 else 65536 / (classALines s).length

/-- A run of voice `v` has played its last sample before its stop fade ends (R391). -/
def playedOut (s : State) (v : Nat) (x : VoiceRun) : Prop :=
  x.v = v ∧ x.loop = false ∧ x.start + x.length ≤ s.tb.frame ∧ ∀ l, fadeLast x = some l → x.start + x.length ≤ l

/-- A run of voice `v` has come to the end of its stop fade (R392). -/
def fadedOut (s : State) (v : Nat) (x : VoiceRun) : Prop :=
  x.v = v ∧ ∃ l, fadeLast x = some l ∧ l ≤ s.tb.frame ∧ (x.loop = true ∨ l < x.start + x.length)

/-- The run is over: its voice's list holds it no more, and the entry that started it no longer runs. -/
def runOver (x : VoiceRun) (s t : State) : Prop :=
  t.cistern.voices = s.cistern.voices.filter (fun y => y.ticket != x.ticket) ∧ rbit t (aISTAT pgPLAYER) 2 = true ∧
    findEv x.ticket t.comp.running = none

/-- Full training with every eye wide enough makes the Cistern NORMAL, else LOST with its alarm and shed step 5. A retrain
starts on its interval or a temperature change, runs in slices unless eight refreshes are owed, and ends in success
(settings wait for a refresh), in failure (the third makes it DEGRADED), or by abort after 1 s. Too many correctable
errors in 1 s degrade it and start a retrain. The reserve moves at block boundaries, with a new read point on every
clamped line. A shed step is withdrawn 1 s after its pressure was last present. Refreshes are issued or owed, rows
close after 2 µs. A commit that passes waits for the next frame; one that does not, or comes from outside SOLO, is
refused with its code. A missing staged word is written 0 and counted (a list word by word); a missing word of an
output line is noted for the coming frame; crossfades end after 64 frames. A command that is not due changes nothing
but the time it names. Slices, commands' times and missing words are inputs (log entry 4). -/
def Obligations.CisternTrainingRefreshAndLines : Prop :=
  (∀ (s : State) (r : TrainIn), Canonical s → inOperation s → s.cistern.st = .training →
    (eyesGood s r → Runs (.trainingDone r) s fun t => t.cistern.st = .normal ∧ t.cistern.trained = true ∧ rget t aDDRC_FAILS = 0 ∧
      rbit t (aISTAT pgDDRC) 3 = true ∧ t.shedImp = 0 ∧ t.mem = s.mem) ∧
    (¬ eyesGood s r → Runs (.trainingDone r) s fun t => t.cistern.st = .lost ∧ rbit t (aISTAT pgDDRC) 5 = true ∧
      rbit t aINTC_ALMSRC 6 = true ∧ t.shed = 5 ∧ t.mem = s.mem)) ∧
  (∀ (s : State) (r : TrainIn), inOperation s → s.cistern.st ≠ .training → Runs (.trainingDone r) s fun t => t = advance r.t s) ∧
  (∀ (s : State) (x : Nat), Live s →
    let u := advance x s
    let due : Prop := cistServes s = true ∧ s.cistern.retrain = none ∧ ((∃ d, retrainInt s = some d ∧ s.cistern.rtT + d ≤ u.now) ∨
      (rfld s aDDRC_FAILS 1 0 = 0 ∧ zeroIs1 (rfld s aDDRC_RTCFG 7 0) ≤ (ddrTemp s - s.cistern.trainTemp).natAbs))
    (due → Runs (.retrainTrigger x) s fun t => t.cistern = { s.cistern with retrain := some ⟨u.now, 0⟩, rtT := u.now } ∧
      KeepsBut [.cistern] u t) ∧
    (¬ due → Runs (.retrainTrigger x) s fun t => t = u)) ∧
  (∀ s : State, Live s → s.cistern.retrain = none → Runs .retrainSlice s (fun t => t = s) ∧ Runs .retrainAbort s (fun t => t = s) ∧
    ∀ i : TrainIn, Runs (.retrainDone i) s fun t => t = advance i.t s) ∧
  (∀ (s : State) (r : Retrain), Canonical s → Live s → s.cistern.retrain = some r →
    (let due : Prop := r.slices < slicesAll s ∧ ∀ n ∈ s.cistern.owed, n < 8
     (due → Runs .retrainSlice s fun t => t.cistern = { s.cistern with retrain := some ⟨r.start, r.slices + 1⟩ } ∧
       KeepsBut [.cistern] s t) ∧
     (¬ due → Runs .retrainSlice s fun t => t = s)) ∧
    (r.start + secPs ≤ s.now → Runs .retrainAbort s fun t => t.cistern = { s.cistern with retrain := none } ∧
      rget t aDDRC_RT_ABORT_CNT = rget s aDDRC_RT_ABORT_CNT + 1 ∧ KeepsBut [.regs, .cistern] s t ∧
      RegsOnly [aDDRC_RT_ABORT_CNT] s t) ∧
    (s.now < r.start + secPs → Runs .retrainAbort s fun t => t = s) ∧
    (∀ i : TrainIn, r.slices < slicesAll s → Runs (.retrainDone i) s fun t => t = advance i.t s) ∧
    (∀ i : TrainIn, slicesAll s ≤ r.slices →
      (eyesGood s i → Runs (.retrainDone i) s fun t => t.cistern.retrain = none ∧ t.cistern.pend = some i.lanes ∧
        rget t aDDRC_FAILS = 0 ∧ rget t aDDRC_RT_CNT = rget s aDDRC_RT_CNT + 1 ∧ rbit t (aISTAT pgDDRC) 1 = true ∧ t.mem = s.mem ∧
        t.cistern.st = (if s.cistern.st = .degraded ∧ (rget s aDDRC_CE_CNT).toNat ≤ rfld s aDDRC_CECFG 15 0 then .normal
          else s.cistern.st)) ∧
      (¬ eyesGood s i → Runs (.retrainDone i) s fun t => t.cistern.retrain = none ∧ t.cistern.pend = s.cistern.pend ∧
        rget t aDDRC_FAILS = w32 (min 3 (rfld s aDDRC_FAILS 1 0 + 1)) ∧ rbit t (aISTAT pgDDRC) 2 = true ∧ t.mem = s.mem ∧
        t.cistern.st = (if s.cistern.st = .normal ∧ 2 ≤ rfld s aDDRC_FAILS 1 0 then .degraded else s.cistern.st)))) ∧
  (∀ s : State, Canonical s → Live s →
    let due : Prop := s.cistern.st ≠ .off ∧ s.cistern.ceT + secPs ≤ s.now
    (due → Runs .ceWindowEnd s fun t => t.cistern.ceNow = 0 ∧ t.cistern.ceT = s.now ∧ rget t aDDRC_CE_CNT = satW 16 s.cistern.ceNow ∧
      (rfld s aDDRC_CECFG 15 0 < s.cistern.ceNow → rbit t (aISTAT pgDDRC) 7 = true ∧
        (s.cistern.st = .normal → t.cistern.st = .degraded) ∧ (cistServes s = true → t.cistern.retrain.isSome = true)) ∧
      (s.cistern.ceNow ≤ rfld s aDDRC_CECFG 15 0 → t.cistern.st = s.cistern.st ∧ t.cistern.retrain = s.cistern.retrain ∧
        KeepsBut [.regs, .cistern] s t)) ∧
    (¬ due → Runs .ceWindowEnd s fun t => t = s)) ∧
  (∀ s : State, Canonical s → Live s →
    let may (f : Nat) : Prop := f ≤ s.tb.frame ∧ isBlock s s.tb.frame = true
    (∀ f, s.cistern.rsvAt = some f → may f → Runs .reserveMove s fun t => t.cistern.reserve = true ∧ t.cistern.rsvAt = none ∧
      rget t aDDRC_RSV_SHARE = w32 (shareNow s) ∧
      ∀ l ∈ classALines s, shareNow s < dDelay (lineWords l) → rbit t (aISTAT pgDDRC) 6 = true ∧
        ∃ m ∈ t.cistern.lines, m.i = l.i ∧ m.points = l.points ++ [(shareNow s, s.tb.frame)]) ∧
    (∀ f, s.cistern.rsvAt = none → s.cistern.backAt = some f → may f → Runs .reserveMove s fun t => t.cistern.reserve = false ∧
      t.cistern.backAt = none ∧ rget t aDDRC_RSV_SHARE = 0 ∧ KeepsBut [.regs, .cistern] s t ∧ RegsOnly [aDDRC_RSV_SHARE] s t ∧
      ∀ l ∈ classALines s, rsvShare s < dDelay (lineWords l) →
        ∃ m ∈ t.cistern.lines, m.i = l.i ∧ m.points = l.points ++ [(dDelay (lineWords l), s.tb.frame)]) ∧
    (∀ f, s.cistern.rsvAt = some f → ¬ may f → Runs .reserveMove s fun t => t = s) ∧
    (∀ f, s.cistern.rsvAt = none → s.cistern.backAt = some f → ¬ may f → Runs .reserveMove s fun t => t = s) ∧
    (s.cistern.rsvAt = none → s.cistern.backAt = none → Runs .reserveMove s fun t => t = s)) ∧
  (∀ s : State, Live s →
    let due : Prop := shedNeed s < s.shed ∧ shedLast s s.shed + secPs ≤ s.now
    (due → Runs .shedWithdraw s fun t => t.shed = s.shed - 1 ∧ KeepsBut [.shed] s t) ∧
    (¬ due → Runs .shedWithdraw s fun t => t = s)) ∧
  (∀ (s : State) (r : Fin 2) (u : Fin 4), Canonical s → Live s →
    (cistServes s = true → r.val < ranks s → 2 ≤ u.val → s.cistern.owed.getD r.val 0 < 8 → Runs (.dramRefresh r u) s fun t =>
      t.cistern = { s.cistern with owed := s.cistern.owed.set r.val (s.cistern.owed.getD r.val 0 + 1) } ∧ KeepsBut [.regs, .cistern] s t ∧
      RegsOnly [aDDRC_REF_OWED] s t) ∧
    (cistServes s = true → r.val < ranks s → u.val < 2 ∨ 8 ≤ s.cistern.owed.getD r.val 0 → Runs (.dramRefresh r u) s fun t =>
      t.cistern.pend = none ∧ (∀ i b, i / 16 = r.val → t.cistern.banks[i]? = some b → b.opn = false) ∧
      (∀ i, i / 16 ≠ r.val → t.cistern.banks[i]? = s.cistern.banks[i]?) ∧ KeepsBut [.regs, .cistern] s t ∧
      t.cistern.owed = s.cistern.owed.set r.val (if u = 0 then 0 else s.cistern.owed.getD r.val 0) ∧ t.cistern.st = s.cistern.st) ∧
    (cistServes s = false ∨ ranks s ≤ r.val → Runs (.dramRefresh r u) s fun t => t = s)) ∧
  (∀ (s : State) (k : Fin 32), Live s →
    let due (b : BankSt) : Prop := s.cistern.banks[k.val]? = some b ∧ b.opn = true ∧ b.t + 2000000 ≤ s.now
    (∀ b, due b → Runs (.rowCloseTimeout k) s fun t =>
      t.cistern = { s.cistern with banks := s.cistern.banks.set k.val { b with opn := false } } ∧ KeepsBut [.cistern] s t) ∧
    ((∀ b, ¬ due b) → Runs (.rowCloseTimeout k) s fun t => t = s)) ∧
  (∀ (s : State) (w : HW), Canonical s → windowStands s →
    (Accepted s aDDRC_DLY_COMMIT ⟨w.lvl, w.be, setBits w.v 0 0 1⟩ → Runs (.delayCommit w) s fun t => lastStatus t = 0 ∧
      t.cistern = { s.cistern with commits := s.cistern.commits ++ [(rfld s aDDRC_DLY_SEL 9 0, dlyWindow s)] } ∧
        KeepsBut [.regs, .cistern] s t) ∧
    (∀ c, Served s aDDRC_DLY_COMMIT ⟨w.lvl, w.be, setBits w.v 0 0 1⟩ → isSolo s = true →
      dlyRefuse s (rfld s aDDRC_DLY_SEL 9 0) (dlyWindow s) = some c →
      Runs (.delayCommit w) s fun t => lastStatus t = 5 ∧ KeepsBut [.regs] s t ∧ rbit t (aISTAT pgDDRC) 0 = true ∧
        captured c pgDDRC (rfld s aDDRC_DLY_SEL 9 0) s t) ∧
    (Served s aDDRC_DLY_COMMIT ⟨w.lvl, w.be, setBits w.v 0 0 1⟩ → isSolo s = false →
      Runs (.delayCommit w) s fun t => refusedWith 4 pgDDRC aDDRC_DLY_COMMIT s t)) ∧
  (∀ (s : State) (m : Nat) (l : DLine), Canonical s → Live s → lineOf s (m / 64) = some l → dEn (lineWords l) = true →
    (dKind (lineWords l) = false → m % 64 < blockN s → Runs (.stagingDeadline [m]) s fun t =>
      let a := yAddr (dPress (lineWords l)) (dRst (lineWords l) + (blockNow s % 2) * blockN s + m % 64)
      rdWord t a = 0 ∧ (∀ b, b < a ∨ a + 4 ≤ b → rdByte t b = rdByte s b) ∧
      rget t aDDRC_STAGE_MISS_CNT = rget s aDDRC_STAGE_MISS_CNT + 1 ∧ rbit t (aISTAT pgDDRC) 8 = true ∧ KeepsBut [.regs, .mem, .fab] s t) ∧
    (dKind (lineWords l) = false → blockN s ≤ m % 64 → Runs (.stagingDeadline [m]) s fun t => t = s) ∧
    (dKind (lineWords l) = true → Runs (.stagingDeadline [m]) s fun t =>
      t.cistern = { s.cistern with missed := s.cistern.missed ++ [l.i] } ∧ KeepsBut [.cistern] s t)) ∧
  (∀ (s : State) (m : Nat), Live s → (∀ l, lineOf s (m / 64) = some l → dEn (lineWords l) = false) →
    Runs (.stagingDeadline [m]) s fun t => t = s) ∧
  (∀ (s : State) (a b : List Nat), Live s → Runs (.stagingDeadline (a ++ b)) s fun t =>
    ∃ u, exec (.stagingDeadline a) s = .next u ∧ exec (.stagingDeadline b) u = .next t) ∧
  (∀ (s : State) (k : Fin 1024), Live s →
    let due (l : DLine) (d : Nat) : Prop := lineOf s k.val = some l ∧ 2 ≤ l.points.length ∧
      ∃ a, l.points.getLast? = some (d, a) ∧ a + 64 ≤ s.tb.frame
    (∀ l d, due l d → Runs (.delayXfadeEnd k) s fun t => lineOf t k.val = some { l with points := [(d, 0)] } ∧
      (∀ j, j ≠ k.val → lineOf t j = lineOf s j) ∧ KeepsBut [.cistern] s t) ∧
    ((∀ l d, ¬ due l d) → Runs (.delayXfadeEnd k) s fun t => t = s))

/-- A released PLAY of an announcement at the media rate that lies in the Cistern starts a run of its voice on the present
frame, and a run in progress of that voice takes its stop fade; with another rate, no length or outside the Cistern
nothing plays and the entry completes. STOP_PLAY fades the voice's last run and ends with it; on an idle voice it
completes. A released RECORD_SEG starts its segment; a freeze, waiting for the boundary in SOLO (refused outside) or
landing by WRITE_PARAM, fixes a loop segment that has landed and nothing else; a finished segment gives its tracks
back. Runs end after their last sample or their fade, whichever comes first. An aperture write is stored under its
byte enables, no other byte changing, and mirrored; a partial one on an uncorrectable word is lost with status 6; a
refused one ends with code 3. -/
def Obligations.RecorderPlayerAndAperture : Prop :=
  (∀ (s : State) (e : Ev) (rest : List Ev) (w4 w5 w6 w7 : Word) (more : List Word), Canonical s → actsNext s e rest →
    e.e.opcode = opPlay → e.payload = w4 :: w5 :: w6 :: w7 :: more →
    let d := dirEntry s (bits w5 11 0)
    let inside : Prop := 64 * d.1 + annBytes d ≤ cistBytes s ∧ d.2.1 ≠ 0
    (d.2.2.2 = rateCode s → inside → Runs (.play e.ticket) s fun t => t.comp.landing = rest ∧
      t.comp.running = s.comp.running ++ [{ e with land := s.tb.frame }] ∧
      t.cistern.voices = (s.cistern.voices.map fun x =>
          if x.v = bits w4 7 0 ∧ x.stop.isNone then { x with stop := some s.tb.frame } else x) ++
        [⟨bits w4 7 0, e.ticket, bits w5 11 0, bits w6 9 0, sgn 24 (bits w7 23 0), (rampLen (bits w7 29 24)).getD 1,
          (rampLen (bits w4 29 24)).getD 1, bit w4 31, s.tb.frame, d.1, d.2.1, d.2.2.1, none, []⟩] ∧
      (channelOwned s (bits w6 9 0) = true → rbit t (aISTAT pgPLAYER) 4 = true) ∧ KeepsBut [.regs, .comp, .cistern] s t ∧
      RegsOnly [aISTAT pgPLAYER] s t) ∧
    (d.2.2.2 ≠ rateCode s → Runs (.play e.ticket) s fun t => t.comp.landing = rest ∧ t.cistern = s.cistern ∧
      rbit t (aISTAT pgPLAYER) 3 = true ∧ rbit t (aISTAT pgPLAYER) 2 = true ∧
      (noneWaits e.ticket s → completed e (outcomeOf e s.tb.frame).1 s t)) ∧
    (d.2.2.2 = rateCode s → ¬ inside → Runs (.play e.ticket) s fun t => t.comp.landing = rest ∧ t.cistern = s.cistern ∧
      rbit t (aISTAT pgPLAYER) 2 = true ∧ captured 1 pgPLAYER (bits w4 7 0) s t ∧
      (noneWaits e.ticket s → completed e (outcomeOf e s.tb.frame).1 s t))) ∧
  (∀ (s : State) (e : Ev) (rest : List Ev) (w4 : Word) (more : List Word), Canonical s → actsNext s e rest → e.e.opcode = opStopPlay →
    e.payload = w4 :: more →
    let run := (s.cistern.voices.filter fun x => x.v == bits w4 7 0).getLast?
    (run = none → Runs (.stopPlay e.ticket) s fun t => t.cistern = s.cistern ∧ t.comp.landing = rest ∧
      (noneWaits e.ticket s → completed e (outcomeOf e s.tb.frame).1 s t)) ∧
    (∀ r, run = some r → Runs (.stopPlay e.ticket) s fun t => t.comp.landing = rest ∧
      t.comp.running = s.comp.running ++ [{ e with land := s.tb.frame }] ∧
      t.cistern.voices = (s.cistern.voices.map fun x => if x.ticket = r.ticket then
        { x with stop := some (x.stop.getD s.tb.frame), stops := x.stops ++ [e.ticket] } else x) ∧ KeepsBut [.comp, .cistern] s t)) ∧
  (∀ (s : State) (e : Ev) (rest : List Ev), Canonical s → actsNext s e rest → e.e.opcode = opRecord →
    Runs (.recordSeg e.ticket) s fun t => t.comp.landing = rest ∧ t.comp.running = s.comp.running ++ [{ e with land := s.tb.frame }] ∧
      t.cistern.segs = (s.cistern.segs.map fun g => if g.ticket = e.ticket then { g with start := some s.tb.frame } else g) ∧
      rbit t (aISTAT pgRECORDER) 0 = true ∧ KeepsBut [.regs, .comp, .cistern] s t ∧ RegsOnly [aISTAT pgRECORDER] s t) ∧
  (∀ (s : State) (w : HW), Canonical s → Accepted s aRECORDER_FREEZE w → isSolo s = true →
    Runs (.recorderFreeze w) s fun t => t.landNext = s.landNext ++ [(aRECORDER_FREEZE, w.v)] ∧ lastStatus t = 0 ∧
      KeepsBut [.regs, .landNext] s t ∧ RegsOnly [aHOSTIF_LASTERR, aHOSTIF_LASTADDR] s t) ∧
  (∀ (s : State) (w : HW), Canonical s → Served s aRECORDER_FREEZE w → isSolo s = false →
    Runs (.recorderFreeze w) s fun t => refusedWith 5 pgRECORDER aRECORDER_FREEZE s t) ∧
  (∀ (s : State) (e : Ev) (rest : List Ev) (k : Word), Canonical s → actsNext s e rest → e.e.opcode = opWriteParam →
    pairsOf e.payload = [(aRECORDER_FREEZE, k)] →
    let takes : Prop := ∃ g ∈ s.cistern.segs, g.ticket = k ∧ g.loop = true ∧ g.start.isSome = true ∧ g.froze = none
    (takes → Runs (.writeParam e.ticket) s fun t => rbit t (aISTAT pgRECORDER) 1 = true ∧ t.comp.landing = rest ∧
      t.cistern.segs = s.cistern.segs.map fun g => if g.ticket = k ∧ g.froze.isNone then { g with froze := some s.tb.frame } else g) ∧
    (¬ takes → Runs (.writeParam e.ticket) s fun t => t.cistern = s.cistern ∧ t.comp.landing = rest)) ∧
  (∀ (s : State) (k : Word), Canonical s → Live s →
    let due (g : RecSeg) : Prop := s.cistern.segs.find? (fun x => x.ticket == k) = some g ∧ ∃ c, segEnd g = some c ∧ c ≤ s.tb.frame
    (∀ g, due g → Runs (.segmentComplete k) s fun t => t.cistern.segs = s.cistern.segs.filter (fun x => x.ticket != k) ∧
      rbit t (aISTAT pgRECORDER) 2 = true ∧ (∀ i ∈ g.tracks, i < 64 → rget t (aRECORDER_SEGTKT i) = 0) ∧
      findEv k t.comp.running = none) ∧
    ((∀ g, ¬ due g) → Runs (.segmentComplete k) s fun t => t = s)) ∧
  (∀ (s : State) (v : Fin 256) (x : VoiceRun) (before after : List VoiceRun), Canonical s → Live s →
    s.cistern.voices = before ++ x :: after →
    ((∀ y ∈ before, ¬ playedOut s v.val y) → playedOut s v.val x → Runs (.voiceEnd v) s fun t => runOver x s t) ∧
    ((∀ y ∈ before, ¬ fadedOut s v.val y) → fadedOut s v.val x → Runs (.stopFadeEnd v) s fun t => runOver x s t)) ∧
  (∀ (s : State) (v : Fin 256), Live s →
    ((∀ y ∈ s.cistern.voices, ¬ playedOut s v.val y) → Runs (.voiceEnd v) s fun t => t = s) ∧
    ((∀ y ∈ s.cistern.voices, ¬ fadedOut s v.val y) → Runs (.stopFadeEnd v) s fun t => t = s)) ∧
  (∀ (s : State) (x : HostAcc), Canonical s → 0x100000 ≤ busAddr x.addr → busAddr x.addr < 0x200000 →
    Served s (busAddr x.addr) ⟨x.lvl, x.be, x.v⟩ →
    let b := apByte s (busAddr x.addr)
    (apRefused s (busAddr x.addr) = false → x.be = 0xF#4 ∨ s.fab.flips = [] → Runs (.apertureWrite x) s fun t => lastStatus t = 0 ∧
      (∀ j, j < 4 → cdByte t (b + j) = if x.be.getLsbD j then x.v.extractLsb' (8 * j) 8 else cdByte s (b + j)) ∧
      (∀ k, k < b ∨ b + 4 ≤ k → cdByte t k = cdByte s k) ∧ KeepsBut [.regs, .cist, .cistern, .twin, .fab] s t ∧
      (isActive s = true → s.twin.link = true →
        t.twin.sent.head?.map (fun y => (y.ch, y.body)) = some (5, .words true [(b, cdWord t b)])) ∧
      (isActive s = false → t.twin = s.twin)) ∧
    (apRefused s (busAddr x.addr) = false → x.be ≠ 0xF#4 → s.fab.flips ≠ [] → ueAt s (cistBase + b) = true →
      Runs (.apertureWrite x) s fun t => lastStatus t = 6 ∧ t.cist = s.cist ∧ t.mem = s.mem) ∧
    (apRefused s (busAddr x.addr) = true → Runs (.apertureWrite x) s fun t => refusedWith 3 pgDDRC (busAddr x.addr) s t))

/-! ### Fabric, memory integrity, sense inputs -/

/-- A request that no other waits beside, at an arbiter that can serve it. -/
def lone (s : State) (k : Fin 10) (p : Fin 16) (r : BusReq) : Prop :=
  Live s ∧ s.fab.waits = [] ∧ s.fab.inside = [] ∧ routeReq s r = k.val ∧ atArbiter s k.val p ⟨k.val, r, 0⟩ = true

/-- It has been granted and answered: its data, whether with an error. -/
def answered (r : BusReq) (data : List Word) (err : Bool) (s t : State) : Prop :=
  t.fab.waits = [] ∧ t.fab.resp = some ⟨r.master.val, data, err⟩ ∧
    rget t (aMATRIX_GRANT_CNT r.master.val) = rget s (aMATRIX_GRANT_CNT r.master.val) + 1

/-- A master other than HOST may write there: by the rights of the shared banks, a halted Press or the Press's own DMA, the Basin store. -/
def mayWrite (s : State) (k : Fin 10) (p : Fin 16) (r : BusReq) : Prop :=
  r.master ≠ 0 ∧ ((k.val ≤ 3 ∧ writeRight r.master.val r.addr = true) ∨ k.val = 5 ∨
    (k.val = 4 ∧ (s.press[p].mode = .halted ∨ r.master = 5 ∨ r.master = 7)))

/-- Two requests that meet at one bank of a Press (R174). -/
def oneBank (x y : BusWait) : Prop := x.target = 4 ∧ y.target = 4 ∧ pressBank x.req.addr = pressBank y.req.addr

/-- The Skimmer runs at a rate (R420). -/
def skims (s : State) (rate : Nat) : Prop := Live s ∧ rbit s aECC_CFG 0 = true ∧ rate ≠ 0 ∧ skimPaused s = false

/-- The words with a correctable error among these have been corrected. -/
def scrubbed (l : List Nat) (s t : State) : Prop :=
  ∀ k ∈ l, ∀ r, eccOut (keyCist (keyOf k)) (flipsAt s k) = .corr r → flipsAt t k = 0

/-- A lone request is granted and answered: a read delivers the words of its bank, a write with the right is stored and no
other byte changes, one without is refused with its code, one that no target takes gets the error answer. Of two
requests a forced one wins, then the more urgent (at one bank of a Press: by kind), the bank's owner, the older. A
ninth request of a master waits inside it. A corrected word is rewritten; a remap entry takes the written form, or is
refused; the Skimmer goes on unit by unit, repairs what it reads, and reports its laps; ARM arms an injection, or is
refused. A sense input that runs is classified and debounced; a held button becomes STUCK, a quiet input ends CHATTER;
queued events go into the ring one per 10 ms; actions refused for 10 ms are dropped; the events of another node are
recorded, a bad body is captured. A command that is not due changes nothing but the time it names. -/
def Obligations.FabricEccAndSense : Prop :=
  (∀ (s : State) (k : Fin 10) (p : Fin 16) (cy : BitVec 16) (r : BusReq), Canonical s → lone s k p r → r.data = none →
    (k.val ≤ 5 → s.fab.flips = [] → Runs (.busGrant k p cy [r]) s fun t => answered r (rdWords s r.addr (readWords r)) false s t ∧
      KeepsBut [.regs, .fab] s t) ∧
    (k = 6 → cistServes s = false → Runs (.busGrant k p cy [r]) s fun t =>
      answered r (List.replicate (readWords r) 0) true s t ∧ KeepsBut [.regs, .fab] s t)) ∧
  (∀ (s : State) (k : Fin 10) (p : Fin 16) (cy : BitVec 16) (r : BusReq) (ws : List Word), Canonical s → lone s k p r →
    r.data = some ws →
    (mayWrite s k p r → r.addr % 4 = 0 → ws.length ≠ 1 ∨ r.be = 0xF#4 → Runs (.busGrant k p cy [r]) s fun t =>
      answered r [] false s t ∧ rdWords t r.addr ws.length = ws ∧
      (∀ a, a < r.addr ∨ r.addr + 4 * ws.length ≤ a → rdByte t a = rdByte s a) ∧ KeepsBut [.regs, .mem, .fab] s t) ∧
    (mayWrite s k p r → s.fab.flips = [] → s.fab.arm = none → Runs (.busGrant k p cy [r]) s fun t => answered r [] false s t ∧
      (∀ x ∈ writeBytesOf r ws, rdByte t x.1 = x.2) ∧
      (∀ a, (∀ x ∈ writeBytesOf r ws, x.1 ≠ a) → rdByte t a = rdByte s a) ∧ KeepsBut [.regs, .mem, .fab] s t) ∧
    (k.val ≤ 3 → r.master ≠ 0 → writeRight r.master.val r.addr = false → Runs (.busGrant k p cy [r]) s fun t =>
      answered r [] true s t ∧ captured 3 pgMATRIX r.addr s t ∧ rget t aMATRIX_RIGHTS_CNT = rget s aMATRIX_RIGHTS_CNT + 1 ∧
      KeepsBut [.regs, .fab] s t) ∧
    (k = 4 → r.master ∉ [0, 5, 7] → s.press[p].mode ≠ .halted → Runs (.busGrant k p cy [r]) s fun t =>
      answered r [] true s t ∧ captured 1 (pgPRESS p) r.addr s t ∧ KeepsBut [.regs, .fab] s t) ∧
    (k = 6 → r.master ≠ 0 → cistServes s = false → Runs (.busGrant k p cy [r]) s fun t => answered r [] true s t ∧
      KeepsBut [.regs, .fab] s t) ∧
    (k.val ≤ 7 → r.master = 0 → Runs (.busGrant k p cy [r]) s fun t => answered r [] false s t ∧ KeepsBut [.regs, .fab] s t)) ∧
  (∀ (s : State) (p : Fin 16) (cy : BitVec 16) (r : BusReq), Canonical s → lone s 9 p r →
    Runs (.busGrant 9 p cy [r]) s fun t =>
      answered r (if r.data.isSome then [] else List.replicate (readWords r) 0) true s t ∧ KeepsBut [.regs, .fab] s t ∧
      captured (if burstOk r = false then 2 else if targetOf r.addr = 9 ∨ reaches r.master.val (targetOf r.addr) = false then 1 else 5)
        pgMATRIX r.addr s t) ∧
  (∀ (s : State) (k : Fin 10) (p : Fin 16) (cy : BitVec 16), Live s →
    ((∀ w ∈ s.fab.waits, atArbiter s k.val p w = false) → Runs (.busGrant k p cy []) s (fun t => t = s) ∧
      ∀ r, 8 ≤ outstanding s r.master → Runs (.busGrant k p cy [r]) s fun t =>
        t.fab = { s.fab with inside := s.fab.inside ++ [r] } ∧ KeepsBut [.fab] s t) ∧
    (∀ x y : BusWait, s.fab.inside = [] → s.fab.waits = [x, y] → atArbiter s k.val p x = true → atArbiter s k.val p y = true →
      let level : Prop := isForced x = false ∧ isForced y = false
      let older (b : Bool) : Prop := elder cy x y = b ∧ ((isForced x = true ∧ isForced y = true) ∨
        (level ∧ oneBank x y ∧ pressKind s x = pressKind s y) ∨
        (level ∧ ¬ oneBank x y ∧ urgency s cy x = urgency s cy y ∧ bankOwner x = bankOwner y))
      let first (a b : BusWait) : Prop := (isForced a = true ∧ isForced b = false) ∨
        (level ∧ oneBank x y ∧ pressKind s a < pressKind s b) ∨
        (level ∧ ¬ oneBank x y ∧ (urgency s cy b < urgency s cy a ∨
          (urgency s cy a = urgency s cy b ∧ bankOwner a = true ∧ bankOwner b = false)))
      (first x y ∨ older true → Runs (.busGrant k p cy []) s fun t => t.fab.waits.map (·.req) = [y.req]) ∧
      (first y x ∨ older false → Runs (.busGrant k p cy []) s fun t => t.fab.waits.map (·.req) = [x.req]))) ∧
  (∀ s : State, Live s →
    (s.fab.rewrite = [] → Runs .eccRewrite s fun t => t = s) ∧
    (∀ k q, s.fab.rewrite = k :: q → Runs .eccRewrite s fun t => t.fab.rewrite = q.filter (· != k) ∧
      (∀ r, eccOut (keyCist k) (flipsAt s k) = .corr r → flipsAt t k = 0) ∧ (∀ j, keyOf j ≠ keyOf k → flipsAt t j = flipsAt s j) ∧
      KeepsBut [.fab] s t)) ∧
  (∀ (s : State) (g : Fin 4) (i : Fin 16) (w : HW), Canonical s → (remapTable g)[i.val]? = none → Live s →
    Runs (.remapWrite g i w) s fun t => t = s) ∧
  (∀ (s : State) (g : Fin 4) (i : Fin 16) (w : HW) (a : Nat), Canonical s → (remapTable g)[i.val]? = some a → heldReg s a = rget s a →
    let changes : Prop := bit w.v 31 ≠ rbit s a 31 ∨ bits w.v 27 0 ≠ rfld s a 27 0
    (Accepted s a w → Runs (.remapWrite g i w) s fun t => rbit t a 31 = bit w.v 31 ∧ rfld t a 27 0 = bits w.v 27 0 ∧
      (changes → rbit t a 30 = false ∧ (bit w.v 31 = true → ∀ k ∈ remapKeys g (bits w.v 27 0), flipsAt t k = 0)) ∧
      (s.fab.flips = [] → KeepsBut [.regs] s t ∧ RegsOnly [a, aHOSTIF_LASTERR, aHOSTIF_LASTADDR] s t)) ∧
    (Served s a w → w.lvl = 0 → changes →
      (bit w.v 31 = true ∧ (remapPlace s g (bits w.v 27 0) = false ∨
        ∃ b ∈ remapTable g, b ≠ a ∧ rbit s b 31 = true ∧ rfld s b 27 0 = bits w.v 27 0)) ∨
      ((bit w.v 31 = true ∨ rbit s a 31 = true) ∧
        ∃ k ∈ remapKeys g (if bit w.v 31 then bits w.v 27 0 else rfld s a 27 0), ueAt s k = true) →
      Runs (.remapWrite g i w) s fun t => refusedWith 3 pgECC a s t)) ∧
  (∀ s : State, Canonical s → skims s (rfld s aECC_SKIMCFG 15 0) →
    let blocked : Prop := s.clk.coreGated = true ∧ ∃ a, skimUnit s.fab.skimS = some a ∧ 0x400000 ≤ a
    let last : Prop := skimUnits ≤ s.fab.skimS + 1
    (blocked → Runs (.skimStep false) s fun t => t = s) ∧
    (¬ blocked → Runs (.skimStep false) s fun t => t.fab.skimS = (if last then 0 else s.fab.skimS + 1) ∧ t.fab.skimD = s.fab.skimD ∧
      (∀ a, skimUnit s.fab.skimS = some a → scrubbed [a, a + 4, a + 8, a + 12] s t) ∧
      (last → rbit t (aISTAT pgECC) 5 = true ∧ rget t aECC_LAP_SRAM = lapMs s s.fab.lapS ∧ t.fab.lapS = s.now) ∧
      (s.fab.flips = [] → KeepsBut [.regs, .fab] s t ∧ (¬ last → t.regs = s.regs)))) ∧
  (∀ s : State, Canonical s → skims s (rfld s aECC_SKIMCFG 31 16) →
    let last : Prop := cistBytes s / 64 ≤ s.fab.skimD + 1
    Runs (.skimStep true) s fun t => t.fab.skimD = (if last then 0 else s.fab.skimD + 1) ∧ t.fab.skimS = s.fab.skimS ∧
      scrubbed ((List.range 8).map fun j => cistBase + 64 * s.fab.skimD + 8 * j) s t ∧
      (last → rbit t (aISTAT pgECC) 6 = true ∧ rget t aECC_LAP_DRAM = lapMs s s.fab.lapD ∧ t.fab.lapD = s.now) ∧
      (s.fab.flips = [] → KeepsBut [.regs, .fab, .cistern] s t ∧ (¬ last → t.regs = s.regs))) ∧
  (∀ (s : State) (d : Bool), Live s → ¬ skims s (if d then rfld s aECC_SKIMCFG 31 16 else rfld s aECC_SKIMCFG 15 0) →
    Runs (.skimStep d) s fun t => t = s) ∧
  (∀ (s : State) (w : HW), Canonical s →
    (Accepted s aECC_FLIPCTRL ⟨w.lvl, w.be, setBits w.v 31 31 1⟩ → Runs (.flipArm w) s fun t =>
      (∃ m, t.fab = { s.fab with arm := some ⟨bits w.v 1 0, if bit w.v 8 then some (rfld s aECC_FLIPADDR 27 0) else none,
          bits w.v 6 4, m⟩ } ∧
        (bits w.v 1 0 ≠ 3 → m = (rget s aECC_FLIPMASK_LO).toNat + 2 ^ 32 * rfld s aECC_FLIPMASK_HI 6 0) ∧
        (bits w.v 1 0 = 3 → m = (rget s aECC_FLIPMASK_LO).toNat + 2 ^ 32 * (rget s aECC_FLIPMASK_MID).toNat +
          2 ^ 64 * rfld s aECC_FLIPMASK_HI 7 0)) ∧ lastStatus t = 0 ∧ KeepsBut [.regs, .fab] s t ∧
      RegsOnly [aECC_FLIPCTRL, aHOSTIF_LASTERR, aHOSTIF_LASTADDR] s t) ∧
    (Served s aECC_FLIPCTRL ⟨w.lvl, w.be, setBits w.v 31 31 1⟩ → isSolo s = false → s.twin.st ≠ .fenced →
      Runs (.flipArm w) s fun t => refusedWith 2 pgECC aECC_FLIPCTRL s t)) ∧
  (∀ (s : State) (n : Fin 8) (l : BitVec 12) (x : Nat), Canonical s → Live s →
    (senseRuns s n = true → Runs (.senseClassify n l x) s fun t => rfld t (aSENSE_LEVEL n) 11 0 = l.toNat ∧
      rbit t (aSENSE_LEVEL n) 20 = (classify s l.toNat).isSome ∧
      (let c := match classify s l.toNat with | some c => c.2 | none => .unknown
       let run := if s.sense.ins[n].cls = c then s.sense.ins[n].run + 1 else 1
       t.sense.ins[n].cls = c ∧ t.sense.ins[n].run = run ∧
        t.sense.ins[n].deb = (if c ≠ .unknown ∧ zeroIs1 (rfld s (aSENSE_INCFG n) 31 24) ≤ run then c else s.sense.ins[n].deb)) ∧
      (∀ m, m ≠ n → t.sense.ins[m] = s.sense.ins[m]) ∧ KeepsBut [.now, .ptp, .regs, .sense] s t ∧
      RegsBut [pgSENSE] s t) ∧
    (senseRuns s n = false → Runs (.senseClassify n l x) s fun t => t = advance x s)) ∧
  (∀ (s : State) (n : Fin 8), Canonical s → Live s →
    let due (a b u : Nat) : Prop := senseRuns s n = true ∧ s.sense.ins[n].rep = .present a (b + 1) ∧
      s.sense.ins[n].downT = some u ∧ s.sense.ins[n].stuck = false ∧ s.sense.ins[n].chatter = false ∧
      u + zeroIs1 (rfld s (aSENSE_INCFG n) 23 16) * 100 * msPs ≤ s.now
    (∀ a b u, due a b u → Runs (.senseStuck n) s fun t => t.sense.ins[n].stuck = true ∧ t.sense.ins[n].rep = .present a 0 ∧
      (t.sense.ins[n].queue = if ownSense s n = true ∧ s.sense.ins[n].queue.length < 4 then
        s.sense.ins[n].queue ++ [⟨5, seData a (b + 1), s.tb.frame⟩] else s.sense.ins[n].queue) ∧
      (ownSense s n = true → 4 ≤ s.sense.ins[n].queue.length → t.sense.ins[n].lost = true ∧
        rget t aSENSE_RATE_DROP_CNT = rget s aSENSE_RATE_DROP_CNT + 1) ∧
      (∀ m, m ≠ n → t.sense.ins[m] = s.sense.ins[m]) ∧ KeepsBut [.regs, .sense] s t) ∧
    ((∀ a b u, ¬ due a b u) → Runs (.senseStuck n) s fun t => t = s)) ∧
  (∀ (s : State) (n : Fin 8), Live s →
    let due : Prop := senseRuns s n = true ∧ s.sense.ins[n].chatter = true ∧
      zeroIs1 (rfld s (aSENSE_INCFG n) 7 0) * 100 < s.sense.ins[n].run
    (due → Runs (.senseQuiet n) s fun t => t.sense.ins[n].chatter = false ∧
      (s.sense.ins[n].stuck = false → t.sense.ins[n].rep = s.sense.ins[n].deb) ∧
      (ownSense s n = true → s.sense.ins[n].queue.length < 4 → ∃ q, t.sense.ins[n].queue =
        s.sense.ins[n].queue ++ ⟨7, 0, s.tb.frame⟩ :: q) ∧ KeepsBut [.regs, .sense] s t) ∧
    (¬ due → Runs (.senseQuiet n) s fun t => t = s)) ∧
  (∀ (s : State) (n : Fin 8) (x : Nat), Canonical s → Live s →
    let u := advance x s
    let due : Prop := enOf s pgSENSE = true ∧ ∀ v, s.sense.ins[n].sentT = some v → v + 10 * msPs ≤ u.now
    let k := rfld s aSENSE_EVT_PROD 15 0
    (∀ e q, due → s.sense.ins[n].queue = e :: q → e.event < 16 → e.data < 16 → Runs (.senseEventDeliver n x) s fun t =>
      t.sense.ins[n].queue = q ∧ t.sense.ins[n].sentT = some u.now ∧ rfld t aSENSE_EVT_PROD 15 0 = (k + 1) % 65536 ∧
      rget t (aSENSE_EVT (k % 64)) = (flg s.sense.ins[n].lost 30 ||| fld (nodeId s) 16 ||| fld n.val 8 ||| fld e.event 4 |||
        fld e.data 0) ∧
      rget t (aSENSE_EVT (k % 64) + 4) = lo32 e.frame ∧ rbit t (aISTAT pgSENSE) 0 = true) ∧
    (¬ due ∨ s.sense.ins[n].queue = [] → Runs (.senseEventDeliver n x) s fun t => t = u)) ∧
  (∀ s : State, Canonical s → Live s →
    let old (r : Nat × Nat) : Bool := decide (r.2 + 10 * msPs ≤ s.now)
    Runs .actionRetryExpire s fun t => t.sense.retries = s.sense.retries.filter (fun r => !old r) ∧
      rget t aSENSE_ACT_REF_CNT = rget s aSENSE_ACT_REF_CNT + w32 (s.sense.retries.filter old).length ∧
      ((∃ r ∈ s.sense.retries, old r = true) → rbit t (aISTAT pgSENSE) 4 = true) ∧ KeepsBut [.regs, .sense] s t ∧
      ((∀ r ∈ s.sense.retries, old r = false) → t = s)) ∧
  (∀ (s : State) (m : MgmtPkt), Canonical s → Live s →
    (mgmtHeaderOk s m = false ∨ mgmtBody m = none → Runs (.senseEvt m) s fun t =>
      rget t aSWITCH_MGMT_DROP = rget s aSWITCH_MGMT_DROP + 1 ∧ KeepsBut [.regs] s t ∧ RegsOnly [aSWITCH_MGMT_DROP] s t) ∧
    (∀ b, mgmtHeaderOk s m = true → mgmtBody m = some b → mgmtForUs s m = false → Runs (.senseEvt m) s fun t => t = s) ∧
    (∀ b, mgmtHeaderOk s m = true → mgmtBody m = some b → mgmtForUs s m = true →
      (enOf s pgSENSE = false → Runs (.senseEvt m) s fun t => rget t aSWITCH_MGMT_RX = rget s aSWITCH_MGMT_RX + 1 ∧
        KeepsBut [.regs] s t ∧ RegsOnly [aSWITCH_MGMT_RX] s t) ∧
      (enOf s pgSENSE = true → b.length % 2 = 1 ∨ 32 < b.length → Runs (.senseEvt m) s fun t =>
        captured 1 pgSENSE (bits m.h0 15 4) s t ∧ rbit t (aISTAT pgSENSE) 2 = true ∧ KeepsBut [.regs] s t ∧
        RegsOnly [aSWITCH_MGMT_RX, aISTAT pgSENSE, aERRCAP pgSENSE, aERRADDR pgSENSE] s t) ∧
      (enOf s pgSENSE = true → b.length % 2 = 0 → b.length ≤ 32 → Runs (.senseEvt m) s fun t =>
        rfld t aSENSE_EVT_PROD 15 0 = (rfld s aSENSE_EVT_PROD 15 0 + b.length / 2) % 65536 ∧
        ∀ (i : Nat) (x y : Word), (recordPairs b)[i]? = some (x, y) →
          rget t (aSENSE_EVT ((rfld s aSENSE_EVT_PROD 15 0 + i) % 64)) =
            (flg true 31 ||| setBits (x &&& 0x7FFFFFFF#32) 27 16 (bits m.h0 15 4)) ∧
          rget t (aSENSE_EVT ((rfld s aSENSE_EVT_PROD 15 0 + i) % 64) + 4) = lo32 s.tb.frame)))

/-! ### Resets, start-up, pins and monitors -/

/-- Memories lost, roles and outputs given up, the start at step 1 and held: what a cold start leaves. A device with its pairing fused off
is SOLO always (R3). -/
def coldStart (s t : State) : Prop :=
  t.mem = [] ∧ t.cist = [] ∧ t.boot.step = .s1 ∧ t.boot.run = false ∧ t.twin.drive = false ∧
    t.twin.st = (if rbit t aOTP_CFG 8 then .solo else .fenced) ∧
    t.comp.queue = [] ∧ t.now = s.now ∧ t.boot.fuses = s.boot.fuses ∧ t.pending = s.pending

/-- Accepted work and time stay; the start begins again. -/
def warmStart (s t : State) : Prop :=
  t.boot.warm = true ∧ t.boot.run = false ∧ t.mem = s.mem ∧ t.tb.frame = s.tb.frame ∧ t.now = s.now ∧ t.pending = s.pending ∧
    (s.galley.lost = false → t.comp.running = s.comp.running ∧ t.comp.done = s.comp.done)

/-- The start stands at step 5 and reads slots (R467, R468). -/
def readsSlots (s : State) : Prop :=
  Live s ∧ s.boot.hold = none ∧ s.boot.step = .s5 ∧ bootSel s ≤ 1

/-- The sequence numbers that a pass has found stand in their registers. -/
def seqNoted (s : State) (i : SlotPass) : State := rset aBOOT_SEQ_A i.seqA (rset aBOOT_SEQ_B i.seqB s)

/-- The events that a step of the start can wait for. -/
def startEvent (c : Instr) : Bool :=
  match c with
  | .pllLock .. | .dpllEvaluation .. | .lockDeclared | .searchDone .. | .negTimeout | .trainingDone .. | .ctrlCell .. => true
  | _ => false

/-- The start, not yet in RUN, is not at a hold point, and no register list waits. -/
def starting (s : State) (x : BootStep) : Prop :=
  Live s ∧ s.boot.run = false ∧ s.boot.hold = none ∧ s.boot.step = x ∧ s.boot.regInit = []

/-- A supply trip, XO loss and a cold reset lose the memories and hold the start at step 1, the cause recorded; straps are
sampled at a power-on release only. A warm reset with retention keeps memory, frame count and work, without it acts as
a cold one. XO qualified, lock, BIST, the image slots, training and negotiation carry the start on, each event of it
having its own effect first; a fatal BIST stops it; a slot that fails is marked with its code, the last one brings the
defaults; a slot that passes both passes is the image, its sections applied or kept for their phase; CONTINUE leaves a
hold point and is refused elsewhere; START_RUN sets RUN. A wrong key refuses a reset. A fuse write goes busy and adds
its bits when done. PPS and BMARK edges come every D frames. TEMP takes the hottest sensor and TEMP_HI its hysteresis;
a supply reading beyond 5 % is flagged. A command that is not due changes nothing. -/
def Obligations.ResetsStartAndPins : Prop :=
  (∀ (s : State) (k : Fin 10), Runs (.supplyTrip k) s fun t => coldStart s t ∧ t.boot.held = .power ∧
    rget t aSYS_RSTCAUSE = flg true (if k = 9 then 1 else 0)) ∧
  (∀ s : State, (s.boot.held ≠ .power → Runs .xoLoss s fun t => coldStart s t ∧ t.boot.held = .xo ∧ rbit t aINTC_ALMSRC 0 = true ∧
      rget t aSYS_RSTCAUSE = flg true 2) ∧
    (s.boot.held = .power → Runs .xoLoss s fun t => t = s) ∧
    (s.boot.held = .xo → Runs .xoRestore s fun t => t.boot = { s.boot with held := .none, step := .s2, stepT := s.now } ∧
      KeepsBut [.boot] s t) ∧
    (s.boot.held ≠ .xo → Runs .xoRestore s fun t => t = s)) ∧
  (∀ (s : State) (x : BitVec 5) (v : BitVec 4),
    (s.boot.held = .power → Runs (.porRelease x v) s fun t => t.boot.held = .none ∧ t.boot.step = .s2 ∧
      (Canonical s → rget t aSYS_STRAPS = w32 (x.toNat &&& 0x1B)) ∧ t.boot.vio = v ∧ KeepsBut [.regs, .boot] s t) ∧
    (s.boot.held = .cold → Canonical s → Runs (.porRelease x v) s fun t => t.boot.held = .none ∧ t.boot.step = .s2 ∧
      rget t aSYS_STRAPS = rget s aSYS_STRAPS ∧ t.boot.vio = s.boot.vio ∧ KeepsBut [.regs, .boot] s t) ∧
    (s.boot.held ≠ .power → s.boot.held ≠ .cold → Runs (.porRelease x v) s fun t => t = s)) ∧
  (∀ s : State,
    (Live s → s.boot.retention = true → Runs .warmResetPin s fun t => warmStart s t ∧ t.boot.held = .warmPin ∧
      t.twin.drive = false ∧ rbit t aSYS_RSTCAUSE 4 = true) ∧
    (Live s → s.boot.retention = false → Runs .warmResetPin s fun t => coldStart s t ∧ t.boot.held = .cold ∧
      rbit t aSYS_RSTCAUSE 4 = true ∧ rbit t aSYS_RSTCAUSE 7 = true) ∧
    (s.boot.held ≠ .none → Runs .warmResetPin s fun t => t = s) ∧
    (s.boot.held = .warmPin → s.boot.warm = true → s.boot.step = .s2 → s.boot.hold = none → s.clk.lockA = false →
      Runs .warmResetRelease s fun t => t.boot.held = .none ∧ t.boot.step = .s3 ∧ KeepsBut [.regs, .boot] s t) ∧
    (s.boot.held = .warmPin → s.boot.warm = true → s.boot.step = .s2 → s.boot.hold = none → s.clk.lockA = true →
      s.boot.bistDone = false → Runs .warmResetRelease s fun t => t.boot.held = .none ∧ t.boot.step = .s4 ∧ KeepsBut [.regs, .boot] s t) ∧
    (s.boot.held ≠ .none → s.boot.held ≠ .warmPin → Runs .warmResetRelease s fun t => t = s) ∧
    (inOperation s → Runs .warmResetRelease s (fun t => t = s) ∧
      (s.boot.step ≠ .s2 → Runs .xoQualified s fun t => t = s) ∧
      (s.boot.step ≠ .s4 → ∀ r, Runs (.bistDone r) s fun t => t = s))) ∧
  (∀ (s : State) (w : HW), Canonical s →
    let warm : HW := ⟨w.lvl, w.be, setBits w.v 1 0 1⟩
    let cold : HW := ⟨w.lvl, w.be, setBits w.v 1 0 2⟩
    (keyOk w.v = true → w.lvl = 0 → Accepted s aSYS_RSTCMD warm →
      (s.boot.retention = true → Runs (.resetWarm w) s fun t => warmStart s t ∧ t.boot.held = .none ∧ rbit t aSYS_RSTCAUSE 5 = true) ∧
      (s.boot.retention = false → Runs (.resetWarm w) s fun t => coldStart s t ∧ t.boot.held = .cold ∧
        rbit t aSYS_RSTCAUSE 5 = true ∧ rbit t aSYS_RSTCAUSE 7 = true)) ∧
    (keyOk w.v = true → w.lvl = 0 → Accepted s aSYS_RSTCMD cold → Runs (.resetCold w) s fun t => coldStart s t ∧
      t.boot.held = .cold ∧ rbit t aSYS_RSTCAUSE 3 = true) ∧
    (keyOk w.v = true → w.lvl ≠ 0 → Served s aSYS_RSTCMD warm → Runs (.resetWarm w) s (fun t => KeepsBut [.regs] s t) ∧
      Runs (.resetCold w) s fun t => KeepsBut [.regs] s t) ∧
    (keyOk w.v = false → Served s aSYS_RSTCMD warm → Runs (.resetWarm w) s (fun t => refusedWith 1 pgSYS aSYS_RSTCMD s t) ∧
      Runs (.resetCold w) s fun t => refusedWith 1 pgSYS aSYS_RSTCMD s t)) ∧
  (∀ s : State, Live s → s.boot.step = .s2 → s.clk.lockA = false →
    Runs .xoQualified s fun t => t.boot = { s.boot with step := .s3, stepT := s.now } ∧ KeepsBut [.regs, .boot] s t) ∧
  (∀ (s : State) (r : BistIn), Canonical s → Live s → s.boot.step = .s4 → s.boot.bistDone = false →
    (r.fatal = true → Runs (.bistDone r) s fun t => t.boot.step = .stopped ∧ t.boot.cause = 0x0C) ∧
    (r.fatal = false → s.boot.hold = none → bootSel s ≤ 1 → Runs (.bistDone r) s fun t => t.boot.step = .s5 ∧
      rget t aBOOT_BADPRESS = w32 r.badPress.toNat ∧ rget t aECC_REPAIR = r.repair ∧ KeepsBut [.regs, .boot] s t) ∧
    (r.fatal = false → s.boot.hold = none → 2 ≤ bootSel s → s.boot.regInit = [] → Runs (.bistDone r) s fun t => t.boot.src = 1 ∧
      t.boot.cause = 0x0B ∧ rbit t (aISTAT pgBOOT) 2 = true ∧ t.mem = s.mem)) ∧
  (∀ (s : State) (c : Instr), startEvent c = true → Live s → s.boot.run = false → s.boot.hold = none → Runs c s fun t =>
    ∃ u, exec c { s with boot := { s.boot with hold := some 2 } } = .next u ∧
      t = bootAdvance { u with boot := { u.boot with hold := none } }) ∧
  (∀ (s : State) (n : BitVec 13), starting s .s3 → s.clk.lockA = false → s.boot.bistDone = false → windowGood n →
    Runs (.pllLock .a n) s fun t => t.boot.step = .s4 ∧ t.clk.lockA = true) ∧
  (∀ (s : State) (r : TrainIn), Canonical s → starting s .s6 → enOf s pgDDRC = true → s.cistern.st = .training → enOf s pgPLLM = true →
    Runs (.trainingDone r) s fun t => t.boot.step = .s7 ∧ t.clk.search = some false ∧ t.clk.bootSearch = [true]) ∧
  (∀ s : State, Canonical s → starting s .s8 → s.twin.paired = true → s.twin.st = .fenced → s.twin.link = false →
    Runs .negTimeout s fun t => t.boot.step = .s9 ∧ t.twin.negDone = true ∧ t.boot.hold = (if hostHeld s then some 2 else none) ∧
      KeepsBut [.regs, .boot, .twin] s t) ∧
  (∀ (s : State) (i : SlotPass), Live s → ¬ readsSlots s → Runs (.imageSlotPass i) s fun t => t = s) ∧
  (∀ (s : State) (i : SlotPass), Canonical s → readsSlots s →
    let code := if i.load then loadCode i.bytes else slotCode (seqNoted s i) i.bytes
    let mine : Prop := i.flash = true ∧ i.load = s.boot.verified.isSome ∧
      (match s.boot.verified with | some b => some b | none => (slotsLeft (seqNoted s i)).head?) = some i.slotB
    let sects := slotSections i.bytes
    let lists := sects.flatMap fun x => match x with | .regInit l => l | _ => []
    (i.flash = false → s.boot.regInit = [] → Runs (.imageSlotPass i) s fun t => t.boot.src = 1 ∧ t.boot.cause = 1 ∧
      rbit t (aISTAT pgBOOT) 2 = true ∧ (s.boot.badA = false → rfld t aBOOT_SLOT_ERR 7 0 = 1) ∧ t.mem = s.mem) ∧
    (i.flash = true → ¬ mine → Runs (.imageSlotPass i) s fun t => t = s) ∧
    (mine → i.load = false → code = 0 → Runs (.imageSlotPass i) s fun t => t.boot = { s.boot with verified := some i.slotB } ∧
      KeepsBut [.regs, .boot] s t ∧ RegsOnly [aBOOT_SEQ_A, aBOOT_SEQ_B, aBOOT_SLOT_ERR] s t) ∧
    (mine → code ≠ 0 → bootSel s = 0 → (if i.slotB then s.boot.badA else s.boot.badB) = false →
      Runs (.imageSlotPass i) s fun t => t.boot.step = .s5 ∧ t.boot.verified = none ∧
        (if i.slotB then t.boot.badB else t.boot.badA) = true ∧
        rfld t aBOOT_SLOT_ERR (if i.slotB then 15 else 7) (if i.slotB then 8 else 0) = code ∧
        (∀ w, slotErrSect i.bytes code = some w → rget t aBOOT_ERRSECT = w) ∧ KeepsBut [.regs, .boot] s t) ∧
    (mine → code ≠ 0 → (bootSel s = 1 ∧ i.slotB = false) ∨ (if i.slotB then s.boot.badA else s.boot.badB) = true →
      s.boot.regInit = [] →
      Runs (.imageSlotPass i) s fun t => t.boot.src = 1 ∧ t.boot.cause = code ∧ rbit t (aISTAT pgBOOT) 2 = true ∧ t.mem = s.mem) ∧
    (mine → i.load = true → code = 0 → lists = [] → (∀ x ∈ sects, ∀ l, x ≠ .prot l) → Runs (.imageSlotPass i) s fun t =>
      t.boot.src = 0 ∧ t.boot.slot = (if i.slotB then 1 else 0) ∧ t.boot.cause = 0 ∧ t.boot.signed = slotSigned i.bytes ∧
        rget t aBOOT_IMG_CRC = slotImgCrc i.bytes ∧
        (s.boot.warm = true → t.mem = s.mem) ∧
        (∀ p b f ws, sects = [.press p b f ws] → s.boot.warm = false → rdWords t (Machine.bankAddr p b + 4 * f) ws.length = ws) ∧
        (∀ b o ws, sects = [.forme b o ws] → s.boot.warm = false → rdWords t (formeBase b + o) ws.length = ws) ∧
        (∀ n d, sects = [.cistern n d] → t.boot.cistern = [⟨n, d⟩]) ∧
        (∀ c es, sects = [.preload c es] → s.boot.warm = false → t.boot.preload = es.map fun e => (c, e))) ∧
    (mine → i.load = true → code = 0 → (∀ x ∈ sects, ∀ l, x ≠ .prot l) → hostHeld s = true → (∀ x ∈ lists, x.phase ≠ 0) →
      Runs (.imageSlotPass i) s fun t => t.boot.hold = some 1 ∧ t.boot.step = .s5 ∧ t.boot.regInit = lists) ∧
    (∀ (k : Fin 4) (v : Word), mine → i.load = true → code = 0 → hostHeld s = true → sects = [.regInit [⟨0, aSYS_SCRATCH k.val, v⟩]] →
      Runs (.imageSlotPass i) s fun t => t.boot.hold = some 1 ∧ rget t (aSYS_SCRATCH k.val) = v)) ∧
  (∀ (s : State) (w : HW), Canonical s →
    (Accepted s aBOOT_CMD ⟨w.lvl, w.be, setBits w.v 0 0 1⟩ →
      (∀ k, s.boot.hold = some k → k ≠ 1 → Runs (.bootContinue w) s fun t => t.boot = { s.boot with hold := none } ∧
        KeepsBut [.regs, .boot] s t ∧ RegsOnly [aHOSTIF_LASTERR, aHOSTIF_LASTADDR] s t) ∧
      (s.boot.hold = some 1 → s.boot.regInit = [] → Runs (.bootContinue w) s fun t => t.boot.hold ≠ some 1 ∧
        (t.boot.step = .s6 ∨ t.boot.step = .s7 ∨ t.boot.step = .s8 ∨ t.boot.step = .s9))) ∧
    (Served s aBOOT_CMD ⟨w.lvl, w.be, setBits w.v 0 0 1⟩ → s.boot.hold = none →
      Runs (.bootContinue w) s fun t => refusedWith 1 pgBOOT aBOOT_CMD s t)) ∧
  (∀ s : State,
    let due : Prop := Live s ∧ s.boot.hold = none ∧ s.boot.step = .s9 ∧ s.boot.run = false
    let preloads : Prop := s.boot.preload ≠ [] ∧ activeOrSolo s = true ∧ s.galley.lost = false ∧ s.clk.coreGated = false
    (due → ¬ preloads → Runs .startRun s fun t => t.boot.run = true ∧ t.boot.retention = true ∧ t.boot.everRun = true ∧
      t.boot.preload = s.boot.preload ∧ rbit t (aISTAT pgBOOT) 0 = true ∧
      rbit t (aISTAT pgGALLEY) (if s.galley.fresh then 5 else 6) = true ∧ KeepsBut [.regs, .boot] s t) ∧
    (due → preloads → Runs .startRun s fun t => t.boot.run = true ∧ t.boot.retention = true ∧ t.boot.preload = []) ∧
    (¬ due → Runs .startRun s fun t => t = s)) ∧
  (∀ (s : State) (w : HW), Canonical s →
    (Accepted s aOTP_PROGCMD ⟨w.lvl, w.be, setBits w.v 0 0 1⟩ → Runs (.otpProgram w) s fun t =>
      t.boot = { s.boot with otpBusy := some (rfld s aOTP_PROGADDR 7 0, rget s aOTP_PROGDATA) } ∧ KeepsBut [.regs, .boot] s t) ∧
    (Served s aOTP_PROGCMD ⟨w.lvl, w.be, setBits w.v 0 0 1⟩ → w.lvl ≠ 0 ∨ s.boot.otpBusy.isSome = true ∨ rbit s aOTP_CFG 31 = true ∨
      (isSolo s = false ∧ s.twin.st ≠ .fenced) →
      Runs (.otpProgram w) s fun t => refusedWith 1 pgOTP aOTP_PROGCMD s t)) ∧
  (∀ s : State, Live s →
    (∀ k d, s.boot.otpBusy = some (k, d) → Runs .otpProgramDone s fun t => t.boot.otpBusy = none ∧
      alGet 0 t.boot.fuses k = (alGet 0 s.boot.fuses k ||| d) ∧
      (∀ j, j ≠ k → alGet 0 t.boot.fuses j = alGet 0 s.boot.fuses j) ∧ KeepsBut [.boot] s t) ∧
    (s.boot.otpBusy = none → Runs .otpProgramDone s fun t => t = s)) ∧
  (∀ s : State, Live s →
    (∀ n, s.clk.pps.next = some n → n ≤ frame s → Runs .ppsEdge s fun t =>
      t.clk = { s.clk with pps := ⟨some (n + ppsPeriod s), ppsPeriod s, ppsFrames s (ppsPeriod s)⟩ } ∧
      rbit t (aISTAT pgGPIO) 0 = true ∧ KeepsBut [.regs, .clk] s t ∧ RegsOnly [aISTAT pgGPIO] s t) ∧
    ((∀ n, s.clk.pps.next = some n → frame s < n) → Runs .ppsEdge s fun t => t = s) ∧
    (∀ n, s.clk.bmark.next = some n → n ≤ frame s → Runs .bmarkEdge s fun t =>
      t.clk = { s.clk with bmark := ⟨some (n + bmarkPeriod s), bmarkPeriod s, 1⟩ } ∧
      rbit t (aISTAT pgGPIO) 1 = true ∧ KeepsBut [.regs, .clk] s t ∧ RegsOnly [aISTAT pgGPIO] s t) ∧
    ((∀ n, s.clk.bmark.next = some n → frame s < n) → Runs .bmarkEdge s fun t => t = s)) ∧
  (∀ (s : State) (a b c d : BitVec 16), Canonical s → Live s →
    let hot := tempMax a b c d
    let was (x : Nat) : Int := sgn 16 (rget s x).toNat
    Runs (.tempReading a b c d) s fun t => rget t aMON_TEMP = w32 (unsgn 16 hot) ∧ t.clk.tempRestart = false ∧
      rget t aMON_TEMP_MIN = w32 (unsgn 16 (if s.clk.tempRestart then hot else min hot (was aMON_TEMP_MIN))) ∧
      rget t aMON_TEMP_MAX = w32 (unsgn 16 (if s.clk.tempRestart then hot else max hot (was aMON_TEMP_MAX))) ∧
      (let lim := sgn 8 (rfld s aMON_TEMPCFG 15 8) * 16
       let hy : Int := zeroIs1 (rfld s aMON_TEMPCFG 7 0) * 16
       t.clk.tempHi = (if lim < hot then true else if hot ≤ lim - hy then false else s.clk.tempHi) ∧
       (lim < hot → s.clk.tempHi = false → rbit t aINTC_ALMSRC 10 = true ∧ rbit t (aISTAT pgMON) 0 = true) ∧
       (hot ≤ lim - hy → hot ≤ lim → s.clk.tempHi = true → rbit t (aISTAT pgMON) 1 = true)) ∧ KeepsBut [.regs, .clk] s t) ∧
  (∀ (s : State) (w : HW), Canonical s → Accepted s aMON_TEMPCFG ⟨w.lvl, w.be, setBits w.v 31 31 1⟩ →
    Runs (.tempcfgClr w) s fun t => t.clk = { s.clk with tempRestart := true } ∧ KeepsBut [.regs, .clk] s t ∧
      RegsOnly [aMON_TEMPCFG, aHOSTIF_LASTERR, aHOSTIF_LASTADDR] s t) ∧
  (∀ (s : State) (n : Fin 9) (mv : BitVec 16), Canonical s → Live s →
    let off := ((mv.toNat : Int) - voltNominal s n).natAbs * 20
    Runs (.supplyReading n mv) s fun t => rget t (aMON_VOLT n.val) = w32 mv.toNat ∧
      (voltNominal s n < off → rbit t (aISTAT pgMON) 2 = true) ∧
      (off ≤ voltNominal s n → rget t (aISTAT pgMON) = rget s (aISTAT pgMON)) ∧
      KeepsBut [.regs] s t ∧ RegsOnly [aMON_VOLT n.val, aISTAT pgMON] s t)
end

