-- ==== Sys2Proof/Laws/Sparse.lean ====
section
/-!
SUPPORT. The laws of sparse storage: what a key reads as after a write, and that a write keeps the canonical form.
-/

namespace Sys2Proof.Machine

variable {V : Type} [DecidableEq V] {d : Nat → V}

omit [DecidableEq V] in
theorem spGet_of_above {l : List (Nat × V)} {k : Nat} (h : spAbove k l = true) : spGet d l k = d k := by
  induction l with
  | nil => rfl
  | cons x t ih =>
    obtain ⟨a, v⟩ := x
    simp only [spAbove, Bool.and_eq_true, decide_eq_true_eq] at h
    simp only [spGet, if_neg (Nat.ne_of_lt h.1), ih h.2]

omit [DecidableEq V] in
theorem spAbove_trans {l : List (Nat × V)} {j k : Nat} (hjk : j ≤ k) (h : spAbove k l = true) : spAbove j l = true := by
  induction l with
  | nil => rfl
  | cons x t ih =>
    simp only [spAbove, Bool.and_eq_true, decide_eq_true_eq] at h ⊢
    exact ⟨by omega, ih h.2⟩

theorem spWf_above {t : List (Nat × V)} {a : Nat} {v : V} (h : spWf d ((a, v) :: t) = true) : spAbove a t = true := by
  simp only [spWf, Bool.and_eq_true] at h
  exact h.1.2

/-- The key that was written reads as the value written. -/
theorem spGet_spSet_same {l : List (Nat × V)} (h : spWf d l = true) (k : Nat) (v : V) :
    spGet d (spSet d l k v) k = v := by
  induction l with
  | nil => by_cases e : v = d k <;> simp [spSet, spGet, e]
  | cons x t ih =>
    obtain ⟨a, w⟩ := x
    simp only [spWf, Bool.and_eq_true] at h
    simp only [spSet]
    split
    · rename_i hk
      have hab : spAbove k ((a, w) :: t) = true := by
        simp only [spAbove, Bool.and_eq_true, decide_eq_true_eq]; exact ⟨hk, spAbove_trans (Nat.le_of_lt hk) h.1.2⟩
      split
      · rename_i e; rw [spGet_of_above hab, e]
      · simp [spGet]
    · split
      · rename_i hk
        split
        · rename_i e; rw [spGet_of_above (hk ▸ h.1.2), e]
        · simp [spGet]
      · rename_i hk; simp only [spGet, if_neg hk, ih h.2]

/-- Every other key reads as before. -/
theorem spGet_spSet_ne (l : List (Nat × V)) {j k : Nat} (v : V) (h : j ≠ k) : spGet d (spSet d l k v) j = spGet d l j := by
  induction l with
  | nil => by_cases e : v = d k <;> simp [spSet, spGet, e, h]
  | cons x t ih =>
    obtain ⟨a, w⟩ := x
    simp only [spSet]
    split
    · split <;> simp [spGet, h]
    · split
      · rename_i hk; subst hk; split <;> simp [spGet, h]
      · simp only [spGet, ih]

theorem spAbove_spSet {l : List (Nat × V)} {j k : Nat} (v : V) (hj : j < k) (h : spAbove j l = true) :
    spAbove j (spSet d l k v) = true := by
  induction l with
  | nil => simp only [spSet]; split <;> simp [spAbove, hj]
  | cons x t ih =>
    obtain ⟨a, w⟩ := x
    simp only [spAbove, Bool.and_eq_true, decide_eq_true_eq] at h
    simp only [spSet]
    split
    · split <;> simp [spAbove, h, hj]
    · split
      · split <;> simp [spAbove, h, hj]
      · simp [spAbove, h, ih h.2]

/-- A write keeps the canonical form. -/
theorem spWf_spSet {l : List (Nat × V)} (h : spWf d l = true) (k : Nat) (v : V) : spWf d (spSet d l k v) = true := by
  induction l with
  | nil => simp only [spSet]; split <;> simp_all [spWf, spAbove]
  | cons x t ih =>
    obtain ⟨a, w⟩ := x
    have ht := h
    simp only [spWf, Bool.and_eq_true, decide_eq_true_eq] at h
    simp only [spSet]
    split
    · rename_i hk
      split
      · exact ht
      · rename_i e
        simp [spWf, spAbove, e, hk, h, spAbove_trans (Nat.le_of_lt hk) h.1.2]
    · rename_i h1
      split
      · rename_i hk
        subst hk
        split
        · exact h.2
        · rename_i e; simp [spWf, e, h]
      · rename_i h2
        have : a < k := by omega
        simp [spWf, h.1.1, spAbove_spSet v this h.1.2, ih h.2]

end Sys2Proof.Machine
end

