-- ==== Sys2Proof/Laws/Ops.lean ====
section
/-!
SUPPORT. What the named operations over registers and memory do, each said once: the value read after a write, what a write
leaves alone, and that each keeps the canonical form.
-/

namespace Sys2Proof.Machine

/-! ### Registers -/

theorem rget_rset_same {s : State} (h : spWf resetWord s.regs = true) (a : Nat) (v : Word) : rget (rset a v s) a = v :=
  spGet_spSet_same h a v

theorem rget_rset_ne (s : State) {a b : Nat} (v : Word) (h : b ≠ a) : rget (rset a v s) b = rget s b :=
  spGet_spSet_ne s.regs v h

theorem rset_regs_wf {s : State} (h : spWf resetWord s.regs = true) (a : Nat) (v : Word) :
    spWf resetWord (rset a v s).regs = true := spWf_spSet h a v

theorem rput_regs_wf {s : State} (h : spWf resetWord s.regs = true) (a hi lo v : Nat) :
    spWf resetWord (rput a hi lo v s).regs = true := rset_regs_wf h _ _

theorem cnt_regs_wf {s : State} (h : spWf resetWord s.regs = true) (a n : Nat) :
    spWf resetWord (cnt a s n).regs = true := rset_regs_wf h _ _

theorem peak_regs_wf {s : State} (h : spWf resetWord s.regs = true) (a n : Nat) :
    spWf resetWord (peak a n s).regs = true := by
  unfold peak; split
  · exact rset_regs_wf h _ _
  · exact h

theorem iset_regs_wf {s : State} (h : spWf resetWord s.regs = true) (p b : Nat) :
    spWf resetWord (iset p b s).regs = true := rset_regs_wf h _ _

theorem errcap_regs_wf {s : State} (h : spWf resetWord s.regs = true) (p c a : Nat) :
    spWf resetWord (errcap p c a s).regs = true := by
  unfold errcap; split
  · exact rset_regs_wf h _ _
  · exact rset_regs_wf (rset_regs_wf h _ _) _ _

theorem alarm_regs_wf {s : State} (h : spWf resetWord s.regs = true) (b : Nat) :
    spWf resetWord (alarm b s).regs = true := rset_regs_wf h _ _

/-- A counter goes up by the amount, modulo 2^32. -/
theorem rget_cnt {s : State} (h : spWf resetWord s.regs = true) (a n : Nat) : rget (cnt a s n) a = rget s a + w32 n :=
  rget_rset_same h a _

/-- An interrupt bit is set and every other bit of ISTAT stays (R12). -/
theorem rget_iset {s : State} (h : spWf resetWord s.regs = true) (p b : Nat) :
    rget (iset p b s) (aISTAT p) = rget s (aISTAT p) ||| flg true b := rget_rset_same h _ _

/-- A later error keeps the first one's code and sets MULTI (R19). -/
theorem rget_errcap_again {s : State} (h : spWf resetWord s.regs = true) (p c a : Nat) (hv : rbit s (aERRCAP p) 31 = true) :
    rget (errcap p c a s) (aERRCAP p) = rget s (aERRCAP p) ||| flg true 30 := by
  simp only [errcap, hv, if_true]; exact rget_rset_same h _ _

/-- The first error is captured with its address (R19, R20). -/
theorem rget_errcap_first {s : State} (h : spWf resetWord s.regs = true) (p c a : Nat) (hv : rbit s (aERRCAP p) 31 = false) :
    rget (errcap p c a s) (aERRADDR p) = w32 a := by
  simp only [errcap, hv, Bool.false_eq_true, if_false]
  exact rget_rset_same (rset_regs_wf h _ _) _ _

/-! ### Memory -/

theorem rdByte_wrByte_same {s : State} (h : Memory.wf s.mem) (a : Nat) (v : Byte) : rdByte (wrByte a v s) a = v :=
  spGet_spSet_same h a v

theorem rdByte_wrByte_ne (s : State) {a b : Nat} (v : Byte) (h : b ≠ a) : rdByte (wrByte a v s) b = rdByte s b :=
  spGet_spSet_ne s.mem v h

theorem wrByte_mem_wf {s : State} (h : Memory.wf s.mem) (a : Nat) (v : Byte) : Memory.wf (wrByte a v s).mem := spWf_spSet h a v

theorem wrWord_mem_wf {s : State} (h : Memory.wf s.mem) (a : Nat) (v : Word) : Memory.wf (wrWord a v s).mem :=
  wrByte_mem_wf (wrByte_mem_wf (wrByte_mem_wf (wrByte_mem_wf h _ _) _ _) _ _) _ _

theorem wrWordBe_mem_wf {s : State} (h : Memory.wf s.mem) (a : Nat) (be : BitVec 4) (v : Word) :
    Memory.wf (wrWordBe a be v s).mem := by
  have step {s : State} (h : Memory.wf s.mem) (c : Bool) (a : Nat) (v : Byte) :
      Memory.wf (if c then wrByte a v s else s).mem := by
    cases c
    · exact h
    · exact wrByte_mem_wf h a v
  exact step (step (step (step h _ _ _) _ _ _) _ _ _) _ _ _

theorem wrBytes_mem_wf (l : List Byte) : ∀ {s : State} (a : Nat), Memory.wf s.mem → Memory.wf (wrBytes a l s).mem := by
  induction l with
  | nil => exact fun _ h => h
  | cons v t ih => exact fun a h => ih (a + 1) (wrByte_mem_wf h a v)

theorem wrWords_mem_wf (l : List Word) : ∀ {s : State} (a : Nat), Memory.wf s.mem → Memory.wf (wrWords a l s).mem := by
  induction l with
  | nil => exact fun _ h => h
  | cons v t ih => exact fun a h => ih (a + 4) (wrWord_mem_wf h a v)

/-! ### The Cistern -/

theorem cdByte_cwByte_same {s : State} (h : spWf cistReset s.cist = true) (a : Nat) (v : Byte) : cdByte (cwByte a v s) a = v :=
  spGet_spSet_same h a v

theorem cdByte_cwByte_ne (s : State) {a b : Nat} (v : Byte) (h : b ≠ a) : cdByte (cwByte a v s) b = cdByte s b :=
  spGet_spSet_ne s.cist v h

theorem cwByte_cist_wf {s : State} (h : spWf cistReset s.cist = true) (a : Nat) (v : Byte) :
    spWf cistReset (cwByte a v s).cist = true := spWf_spSet h a v

theorem cwWord_cist_wf {s : State} (h : spWf cistReset s.cist = true) (a : Nat) (v : Word) :
    spWf cistReset (cwWord a v s).cist = true :=
  cwByte_cist_wf (cwByte_cist_wf (cwByte_cist_wf (cwByte_cist_wf h _ _) _ _) _ _) _ _

theorem cwBytes_cist_wf (l : List Byte) :
    ∀ {s : State} (a : Nat), spWf cistReset s.cist = true → spWf cistReset (cwBytes a l s).cist = true := by
  induction l with
  | nil => exact fun _ h => h
  | cons v t ih => exact fun a h => ih (a + 1) (cwByte_cist_wf h a v)

theorem cwWords_cist_wf (l : List Word) :
    ∀ {s : State} (a : Nat), spWf cistReset s.cist = true → spWf cistReset (cwWords a l s).cist = true := by
  induction l with
  | nil => exact fun _ h => h
  | cons v t ih => exact fun a h => ih (a + 4) (cwWord_cist_wf h a v)

/-! ### Association lists -/

theorem alGet_alSet_same {V : Type} (d : V) (l : List (Nat × V)) (k : Nat) (v : V) : alGet d (alSet l k v) k = v := by
  induction l with
  | nil => simp [alSet, alGet]
  | cons x t ih => obtain ⟨a, w⟩ := x; simp only [alSet]; split <;> simp_all [alGet]

theorem alGet_alSet_ne {V : Type} (d : V) (l : List (Nat × V)) {j k : Nat} (v : V) (h : j ≠ k) :
    alGet d (alSet l k v) j = alGet d l j := by
  induction l with
  | nil => simp [alSet, alGet, Ne.symm h]
  | cons x t ih =>
    obtain ⟨a, w⟩ := x
    simp only [alSet]; split
    · rename_i e; subst e; simp [alGet, Ne.symm h]
    · simp [alGet, ih]

theorem alGet_alDel_same {V : Type} (d : V) (l : List (Nat × V)) (k : Nat) : alGet d (alDel l k) k = d := by
  induction l with
  | nil => rfl
  | cons x t ih => obtain ⟨a, w⟩ := x; simp only [alDel]; split <;> simp_all [alGet]

end Sys2Proof.Machine
end

