-- ==== Sys2Proof/Laws/State.lean ====
section
/-!
SUPPORT. Every update of the state, field by field: what it sets and what it leaves (all true by unfolding).
-/

namespace Sys2Proof.Machine

variable (s : State)

/-! ### `rset` -/

@[simp] theorem rset_now (a : Nat) (v : Word) : (rset a v s).now = s.now := rfl
@[simp] theorem rset_freeCtr (a : Nat) (v : Word) : (rset a v s).freeCtr = s.freeCtr := rfl
@[simp] theorem rset_regs (a : Nat) (v : Word) : (rset a v s).regs = spSet resetWord s.regs a v := rfl
@[simp] theorem rset_frozen (a : Nat) (v : Word) : (rset a v s).frozen = s.frozen := rfl
@[simp] theorem rset_latches (a : Nat) (v : Word) : (rset a v s).latches = s.latches := rfl
@[simp] theorem rset_srst (a : Nat) (v : Word) : (rset a v s).srst = s.srst := rfl
@[simp] theorem rset_landNext (a : Nat) (v : Word) : (rset a v s).landNext = s.landNext := rfl
@[simp] theorem rset_mem (a : Nat) (v : Word) : (rset a v s).mem = s.mem := rfl
@[simp] theorem rset_cist (a : Nat) (v : Word) : (rset a v s).cist = s.cist := rfl
@[simp] theorem rset_host (a : Nat) (v : Word) : (rset a v s).host = s.host := rfl
@[simp] theorem rset_boot (a : Nat) (v : Word) : (rset a v s).boot = s.boot := rfl
@[simp] theorem rset_tb (a : Nat) (v : Word) : (rset a v s).tb = s.tb := rfl
@[simp] theorem rset_comp (a : Nat) (v : Word) : (rset a v s).comp = s.comp := rfl
@[simp] theorem rset_galley (a : Nat) (v : Word) : (rset a v s).galley = s.galley := rfl
@[simp] theorem rset_basin (a : Nat) (v : Word) : (rset a v s).basin = s.basin := rfl
@[simp] theorem rset_ports (a : Nat) (v : Word) : (rset a v s).ports = s.ports := rfl
@[simp] theorem rset_net (a : Nat) (v : Word) : (rset a v s).net = s.net := rfl
@[simp] theorem rset_twin (a : Nat) (v : Word) : (rset a v s).twin = s.twin := rfl
@[simp] theorem rset_arb (a : Nat) (v : Word) : (rset a v s).arb = s.arb := rfl
@[simp] theorem rset_clk (a : Nat) (v : Word) : (rset a v s).clk = s.clk := rfl
@[simp] theorem rset_dpll (a : Nat) (v : Word) : (rset a v s).dpll = s.dpll := rfl
@[simp] theorem rset_ptp (a : Nat) (v : Word) : (rset a v s).ptp = s.ptp := rfl
@[simp] theorem rset_cistern (a : Nat) (v : Word) : (rset a v s).cistern = s.cistern := rfl
@[simp] theorem rset_press (a : Nat) (v : Word) : (rset a v s).press = s.press := rfl
@[simp] theorem rset_fab (a : Nat) (v : Word) : (rset a v s).fab = s.fab := rfl
@[simp] theorem rset_sense (a : Nat) (v : Word) : (rset a v s).sense = s.sense := rfl
@[simp] theorem rset_shedMeas (a : Nat) (v : Word) : (rset a v s).shedMeas = s.shedMeas := rfl
@[simp] theorem rset_shedImp (a : Nat) (v : Word) : (rset a v s).shedImp = s.shedImp := rfl
@[simp] theorem rset_shed (a : Nat) (v : Word) : (rset a v s).shed = s.shed := rfl
@[simp] theorem rset_shedT (a : Nat) (v : Word) : (rset a v s).shedT = s.shedT := rfl
@[simp] theorem rset_pending (a : Nat) (v : Word) : (rset a v s).pending = s.pending := rfl
@[simp] theorem rdByte_rset (a : Nat) (v : Word) (k : Nat) : rdByte (rset a v s) k = rdByte s k := rfl
@[simp] theorem cdByte_rset (a : Nat) (v : Word) (k : Nat) : cdByte (rset a v s) k = cdByte s k := rfl

/-! ### `wrByte` -/

@[simp] theorem wrByte_now (a : Nat) (v : Byte) : (wrByte a v s).now = s.now := rfl
@[simp] theorem wrByte_freeCtr (a : Nat) (v : Byte) : (wrByte a v s).freeCtr = s.freeCtr := rfl
@[simp] theorem wrByte_regs (a : Nat) (v : Byte) : (wrByte a v s).regs = s.regs := rfl
@[simp] theorem wrByte_frozen (a : Nat) (v : Byte) : (wrByte a v s).frozen = s.frozen := rfl
@[simp] theorem wrByte_latches (a : Nat) (v : Byte) : (wrByte a v s).latches = s.latches := rfl
@[simp] theorem wrByte_srst (a : Nat) (v : Byte) : (wrByte a v s).srst = s.srst := rfl
@[simp] theorem wrByte_landNext (a : Nat) (v : Byte) : (wrByte a v s).landNext = s.landNext := rfl
@[simp] theorem wrByte_mem (a : Nat) (v : Byte) : (wrByte a v s).mem = spSet memReset s.mem a v := rfl
@[simp] theorem wrByte_cist (a : Nat) (v : Byte) : (wrByte a v s).cist = s.cist := rfl
@[simp] theorem wrByte_host (a : Nat) (v : Byte) : (wrByte a v s).host = s.host := rfl
@[simp] theorem wrByte_boot (a : Nat) (v : Byte) : (wrByte a v s).boot = s.boot := rfl
@[simp] theorem wrByte_tb (a : Nat) (v : Byte) : (wrByte a v s).tb = s.tb := rfl
@[simp] theorem wrByte_comp (a : Nat) (v : Byte) : (wrByte a v s).comp = s.comp := rfl
@[simp] theorem wrByte_galley (a : Nat) (v : Byte) : (wrByte a v s).galley = s.galley := rfl
@[simp] theorem wrByte_basin (a : Nat) (v : Byte) : (wrByte a v s).basin = s.basin := rfl
@[simp] theorem wrByte_ports (a : Nat) (v : Byte) : (wrByte a v s).ports = s.ports := rfl
@[simp] theorem wrByte_net (a : Nat) (v : Byte) : (wrByte a v s).net = s.net := rfl
@[simp] theorem wrByte_twin (a : Nat) (v : Byte) : (wrByte a v s).twin = s.twin := rfl
@[simp] theorem wrByte_arb (a : Nat) (v : Byte) : (wrByte a v s).arb = s.arb := rfl
@[simp] theorem wrByte_clk (a : Nat) (v : Byte) : (wrByte a v s).clk = s.clk := rfl
@[simp] theorem wrByte_dpll (a : Nat) (v : Byte) : (wrByte a v s).dpll = s.dpll := rfl
@[simp] theorem wrByte_ptp (a : Nat) (v : Byte) : (wrByte a v s).ptp = s.ptp := rfl
@[simp] theorem wrByte_cistern (a : Nat) (v : Byte) : (wrByte a v s).cistern = s.cistern := rfl
@[simp] theorem wrByte_press (a : Nat) (v : Byte) : (wrByte a v s).press = s.press := rfl
@[simp] theorem wrByte_fab (a : Nat) (v : Byte) : (wrByte a v s).fab = s.fab := rfl
@[simp] theorem wrByte_sense (a : Nat) (v : Byte) : (wrByte a v s).sense = s.sense := rfl
@[simp] theorem wrByte_shedMeas (a : Nat) (v : Byte) : (wrByte a v s).shedMeas = s.shedMeas := rfl
@[simp] theorem wrByte_shedImp (a : Nat) (v : Byte) : (wrByte a v s).shedImp = s.shedImp := rfl
@[simp] theorem wrByte_shed (a : Nat) (v : Byte) : (wrByte a v s).shed = s.shed := rfl
@[simp] theorem wrByte_shedT (a : Nat) (v : Byte) : (wrByte a v s).shedT = s.shedT := rfl
@[simp] theorem wrByte_pending (a : Nat) (v : Byte) : (wrByte a v s).pending = s.pending := rfl
@[simp] theorem rget_wrByte (a : Nat) (v : Byte) (k : Nat) : rget (wrByte a v s) k = rget s k := rfl
@[simp] theorem cdByte_wrByte (a : Nat) (v : Byte) (k : Nat) : cdByte (wrByte a v s) k = cdByte s k := rfl

/-! ### `cwByte` -/

@[simp] theorem cwByte_now (a : Nat) (v : Byte) : (cwByte a v s).now = s.now := rfl
@[simp] theorem cwByte_freeCtr (a : Nat) (v : Byte) : (cwByte a v s).freeCtr = s.freeCtr := rfl
@[simp] theorem cwByte_regs (a : Nat) (v : Byte) : (cwByte a v s).regs = s.regs := rfl
@[simp] theorem cwByte_frozen (a : Nat) (v : Byte) : (cwByte a v s).frozen = s.frozen := rfl
@[simp] theorem cwByte_latches (a : Nat) (v : Byte) : (cwByte a v s).latches = s.latches := rfl
@[simp] theorem cwByte_srst (a : Nat) (v : Byte) : (cwByte a v s).srst = s.srst := rfl
@[simp] theorem cwByte_landNext (a : Nat) (v : Byte) : (cwByte a v s).landNext = s.landNext := rfl
@[simp] theorem cwByte_mem (a : Nat) (v : Byte) : (cwByte a v s).mem = s.mem := rfl
@[simp] theorem cwByte_cist (a : Nat) (v : Byte) : (cwByte a v s).cist = spSet cistReset s.cist a v := rfl
@[simp] theorem cwByte_host (a : Nat) (v : Byte) : (cwByte a v s).host = s.host := rfl
@[simp] theorem cwByte_boot (a : Nat) (v : Byte) : (cwByte a v s).boot = s.boot := rfl
@[simp] theorem cwByte_tb (a : Nat) (v : Byte) : (cwByte a v s).tb = s.tb := rfl
@[simp] theorem cwByte_comp (a : Nat) (v : Byte) : (cwByte a v s).comp = s.comp := rfl
@[simp] theorem cwByte_galley (a : Nat) (v : Byte) : (cwByte a v s).galley = s.galley := rfl
@[simp] theorem cwByte_basin (a : Nat) (v : Byte) : (cwByte a v s).basin = s.basin := rfl
@[simp] theorem cwByte_ports (a : Nat) (v : Byte) : (cwByte a v s).ports = s.ports := rfl
@[simp] theorem cwByte_net (a : Nat) (v : Byte) : (cwByte a v s).net = s.net := rfl
@[simp] theorem cwByte_twin (a : Nat) (v : Byte) : (cwByte a v s).twin = s.twin := rfl
@[simp] theorem cwByte_arb (a : Nat) (v : Byte) : (cwByte a v s).arb = s.arb := rfl
@[simp] theorem cwByte_clk (a : Nat) (v : Byte) : (cwByte a v s).clk = s.clk := rfl
@[simp] theorem cwByte_dpll (a : Nat) (v : Byte) : (cwByte a v s).dpll = s.dpll := rfl
@[simp] theorem cwByte_ptp (a : Nat) (v : Byte) : (cwByte a v s).ptp = s.ptp := rfl
@[simp] theorem cwByte_cistern (a : Nat) (v : Byte) : (cwByte a v s).cistern = s.cistern := rfl
@[simp] theorem cwByte_press (a : Nat) (v : Byte) : (cwByte a v s).press = s.press := rfl
@[simp] theorem cwByte_fab (a : Nat) (v : Byte) : (cwByte a v s).fab = s.fab := rfl
@[simp] theorem cwByte_sense (a : Nat) (v : Byte) : (cwByte a v s).sense = s.sense := rfl
@[simp] theorem cwByte_shedMeas (a : Nat) (v : Byte) : (cwByte a v s).shedMeas = s.shedMeas := rfl
@[simp] theorem cwByte_shedImp (a : Nat) (v : Byte) : (cwByte a v s).shedImp = s.shedImp := rfl
@[simp] theorem cwByte_shed (a : Nat) (v : Byte) : (cwByte a v s).shed = s.shed := rfl
@[simp] theorem cwByte_shedT (a : Nat) (v : Byte) : (cwByte a v s).shedT = s.shedT := rfl
@[simp] theorem cwByte_pending (a : Nat) (v : Byte) : (cwByte a v s).pending = s.pending := rfl
@[simp] theorem rget_cwByte (a : Nat) (v : Byte) (k : Nat) : rget (cwByte a v s) k = rget s k := rfl
@[simp] theorem rdByte_cwByte (a : Nat) (v : Byte) (k : Nat) : rdByte (cwByte a v s) k = rdByte s k := rfl

/-! ### `setBoot` -/

@[simp] theorem setBoot_now (x : BootSt) : (setBoot x s).now = s.now := rfl
@[simp] theorem setBoot_freeCtr (x : BootSt) : (setBoot x s).freeCtr = s.freeCtr := rfl
@[simp] theorem setBoot_regs (x : BootSt) : (setBoot x s).regs = s.regs := rfl
@[simp] theorem setBoot_frozen (x : BootSt) : (setBoot x s).frozen = s.frozen := rfl
@[simp] theorem setBoot_latches (x : BootSt) : (setBoot x s).latches = s.latches := rfl
@[simp] theorem setBoot_srst (x : BootSt) : (setBoot x s).srst = s.srst := rfl
@[simp] theorem setBoot_landNext (x : BootSt) : (setBoot x s).landNext = s.landNext := rfl
@[simp] theorem setBoot_mem (x : BootSt) : (setBoot x s).mem = s.mem := rfl
@[simp] theorem setBoot_cist (x : BootSt) : (setBoot x s).cist = s.cist := rfl
@[simp] theorem setBoot_host (x : BootSt) : (setBoot x s).host = s.host := rfl
@[simp] theorem setBoot_boot (x : BootSt) : (setBoot x s).boot = x := rfl
@[simp] theorem setBoot_tb (x : BootSt) : (setBoot x s).tb = s.tb := rfl
@[simp] theorem setBoot_comp (x : BootSt) : (setBoot x s).comp = s.comp := rfl
@[simp] theorem setBoot_galley (x : BootSt) : (setBoot x s).galley = s.galley := rfl
@[simp] theorem setBoot_basin (x : BootSt) : (setBoot x s).basin = s.basin := rfl
@[simp] theorem setBoot_ports (x : BootSt) : (setBoot x s).ports = s.ports := rfl
@[simp] theorem setBoot_net (x : BootSt) : (setBoot x s).net = s.net := rfl
@[simp] theorem setBoot_twin (x : BootSt) : (setBoot x s).twin = s.twin := rfl
@[simp] theorem setBoot_arb (x : BootSt) : (setBoot x s).arb = s.arb := rfl
@[simp] theorem setBoot_clk (x : BootSt) : (setBoot x s).clk = s.clk := rfl
@[simp] theorem setBoot_dpll (x : BootSt) : (setBoot x s).dpll = s.dpll := rfl
@[simp] theorem setBoot_ptp (x : BootSt) : (setBoot x s).ptp = s.ptp := rfl
@[simp] theorem setBoot_cistern (x : BootSt) : (setBoot x s).cistern = s.cistern := rfl
@[simp] theorem setBoot_press (x : BootSt) : (setBoot x s).press = s.press := rfl
@[simp] theorem setBoot_fab (x : BootSt) : (setBoot x s).fab = s.fab := rfl
@[simp] theorem setBoot_sense (x : BootSt) : (setBoot x s).sense = s.sense := rfl
@[simp] theorem setBoot_shedMeas (x : BootSt) : (setBoot x s).shedMeas = s.shedMeas := rfl
@[simp] theorem setBoot_shedImp (x : BootSt) : (setBoot x s).shedImp = s.shedImp := rfl
@[simp] theorem setBoot_shed (x : BootSt) : (setBoot x s).shed = s.shed := rfl
@[simp] theorem setBoot_shedT (x : BootSt) : (setBoot x s).shedT = s.shedT := rfl
@[simp] theorem setBoot_pending (x : BootSt) : (setBoot x s).pending = s.pending := rfl
@[simp] theorem rget_setBoot (x : BootSt) (k : Nat) : rget (setBoot x s) k = rget s k := rfl
@[simp] theorem rdByte_setBoot (x : BootSt) (k : Nat) : rdByte (setBoot x s) k = rdByte s k := rfl
@[simp] theorem cdByte_setBoot (x : BootSt) (k : Nat) : cdByte (setBoot x s) k = cdByte s k := rfl

/-! ### `setTb` -/

@[simp] theorem setTb_now (x : TimebaseSt) : (setTb x s).now = s.now := rfl
@[simp] theorem setTb_freeCtr (x : TimebaseSt) : (setTb x s).freeCtr = s.freeCtr := rfl
@[simp] theorem setTb_regs (x : TimebaseSt) : (setTb x s).regs = s.regs := rfl
@[simp] theorem setTb_frozen (x : TimebaseSt) : (setTb x s).frozen = s.frozen := rfl
@[simp] theorem setTb_latches (x : TimebaseSt) : (setTb x s).latches = s.latches := rfl
@[simp] theorem setTb_srst (x : TimebaseSt) : (setTb x s).srst = s.srst := rfl
@[simp] theorem setTb_landNext (x : TimebaseSt) : (setTb x s).landNext = s.landNext := rfl
@[simp] theorem setTb_mem (x : TimebaseSt) : (setTb x s).mem = s.mem := rfl
@[simp] theorem setTb_cist (x : TimebaseSt) : (setTb x s).cist = s.cist := rfl
@[simp] theorem setTb_host (x : TimebaseSt) : (setTb x s).host = s.host := rfl
@[simp] theorem setTb_boot (x : TimebaseSt) : (setTb x s).boot = s.boot := rfl
@[simp] theorem setTb_tb (x : TimebaseSt) : (setTb x s).tb = x := rfl
@[simp] theorem setTb_comp (x : TimebaseSt) : (setTb x s).comp = s.comp := rfl
@[simp] theorem setTb_galley (x : TimebaseSt) : (setTb x s).galley = s.galley := rfl
@[simp] theorem setTb_basin (x : TimebaseSt) : (setTb x s).basin = s.basin := rfl
@[simp] theorem setTb_ports (x : TimebaseSt) : (setTb x s).ports = s.ports := rfl
@[simp] theorem setTb_net (x : TimebaseSt) : (setTb x s).net = s.net := rfl
@[simp] theorem setTb_twin (x : TimebaseSt) : (setTb x s).twin = s.twin := rfl
@[simp] theorem setTb_arb (x : TimebaseSt) : (setTb x s).arb = s.arb := rfl
@[simp] theorem setTb_clk (x : TimebaseSt) : (setTb x s).clk = s.clk := rfl
@[simp] theorem setTb_dpll (x : TimebaseSt) : (setTb x s).dpll = s.dpll := rfl
@[simp] theorem setTb_ptp (x : TimebaseSt) : (setTb x s).ptp = s.ptp := rfl
@[simp] theorem setTb_cistern (x : TimebaseSt) : (setTb x s).cistern = s.cistern := rfl
@[simp] theorem setTb_press (x : TimebaseSt) : (setTb x s).press = s.press := rfl
@[simp] theorem setTb_fab (x : TimebaseSt) : (setTb x s).fab = s.fab := rfl
@[simp] theorem setTb_sense (x : TimebaseSt) : (setTb x s).sense = s.sense := rfl
@[simp] theorem setTb_shedMeas (x : TimebaseSt) : (setTb x s).shedMeas = s.shedMeas := rfl
@[simp] theorem setTb_shedImp (x : TimebaseSt) : (setTb x s).shedImp = s.shedImp := rfl
@[simp] theorem setTb_shed (x : TimebaseSt) : (setTb x s).shed = s.shed := rfl
@[simp] theorem setTb_shedT (x : TimebaseSt) : (setTb x s).shedT = s.shedT := rfl
@[simp] theorem setTb_pending (x : TimebaseSt) : (setTb x s).pending = s.pending := rfl
@[simp] theorem rget_setTb (x : TimebaseSt) (k : Nat) : rget (setTb x s) k = rget s k := rfl
@[simp] theorem rdByte_setTb (x : TimebaseSt) (k : Nat) : rdByte (setTb x s) k = rdByte s k := rfl
@[simp] theorem cdByte_setTb (x : TimebaseSt) (k : Nat) : cdByte (setTb x s) k = cdByte s k := rfl

/-! ### `setGalley` -/

@[simp] theorem setGalley_now (x : GalleySt) : (setGalley x s).now = s.now := rfl
@[simp] theorem setGalley_freeCtr (x : GalleySt) : (setGalley x s).freeCtr = s.freeCtr := rfl
@[simp] theorem setGalley_regs (x : GalleySt) : (setGalley x s).regs = s.regs := rfl
@[simp] theorem setGalley_frozen (x : GalleySt) : (setGalley x s).frozen = s.frozen := rfl
@[simp] theorem setGalley_latches (x : GalleySt) : (setGalley x s).latches = s.latches := rfl
@[simp] theorem setGalley_srst (x : GalleySt) : (setGalley x s).srst = s.srst := rfl
@[simp] theorem setGalley_landNext (x : GalleySt) : (setGalley x s).landNext = s.landNext := rfl
@[simp] theorem setGalley_mem (x : GalleySt) : (setGalley x s).mem = s.mem := rfl
@[simp] theorem setGalley_cist (x : GalleySt) : (setGalley x s).cist = s.cist := rfl
@[simp] theorem setGalley_host (x : GalleySt) : (setGalley x s).host = s.host := rfl
@[simp] theorem setGalley_boot (x : GalleySt) : (setGalley x s).boot = s.boot := rfl
@[simp] theorem setGalley_tb (x : GalleySt) : (setGalley x s).tb = s.tb := rfl
@[simp] theorem setGalley_comp (x : GalleySt) : (setGalley x s).comp = s.comp := rfl
@[simp] theorem setGalley_galley (x : GalleySt) : (setGalley x s).galley = x := rfl
@[simp] theorem setGalley_basin (x : GalleySt) : (setGalley x s).basin = s.basin := rfl
@[simp] theorem setGalley_ports (x : GalleySt) : (setGalley x s).ports = s.ports := rfl
@[simp] theorem setGalley_net (x : GalleySt) : (setGalley x s).net = s.net := rfl
@[simp] theorem setGalley_twin (x : GalleySt) : (setGalley x s).twin = s.twin := rfl
@[simp] theorem setGalley_arb (x : GalleySt) : (setGalley x s).arb = s.arb := rfl
@[simp] theorem setGalley_clk (x : GalleySt) : (setGalley x s).clk = s.clk := rfl
@[simp] theorem setGalley_dpll (x : GalleySt) : (setGalley x s).dpll = s.dpll := rfl
@[simp] theorem setGalley_ptp (x : GalleySt) : (setGalley x s).ptp = s.ptp := rfl
@[simp] theorem setGalley_cistern (x : GalleySt) : (setGalley x s).cistern = s.cistern := rfl
@[simp] theorem setGalley_press (x : GalleySt) : (setGalley x s).press = s.press := rfl
@[simp] theorem setGalley_fab (x : GalleySt) : (setGalley x s).fab = s.fab := rfl
@[simp] theorem setGalley_sense (x : GalleySt) : (setGalley x s).sense = s.sense := rfl
@[simp] theorem setGalley_shedMeas (x : GalleySt) : (setGalley x s).shedMeas = s.shedMeas := rfl
@[simp] theorem setGalley_shedImp (x : GalleySt) : (setGalley x s).shedImp = s.shedImp := rfl
@[simp] theorem setGalley_shed (x : GalleySt) : (setGalley x s).shed = s.shed := rfl
@[simp] theorem setGalley_shedT (x : GalleySt) : (setGalley x s).shedT = s.shedT := rfl
@[simp] theorem setGalley_pending (x : GalleySt) : (setGalley x s).pending = s.pending := rfl
@[simp] theorem rget_setGalley (x : GalleySt) (k : Nat) : rget (setGalley x s) k = rget s k := rfl
@[simp] theorem rdByte_setGalley (x : GalleySt) (k : Nat) : rdByte (setGalley x s) k = rdByte s k := rfl
@[simp] theorem cdByte_setGalley (x : GalleySt) (k : Nat) : cdByte (setGalley x s) k = cdByte s k := rfl

/-! ### `setBasin` -/

@[simp] theorem setBasin_now (x : BasinSt) : (setBasin x s).now = s.now := rfl
@[simp] theorem setBasin_freeCtr (x : BasinSt) : (setBasin x s).freeCtr = s.freeCtr := rfl
@[simp] theorem setBasin_regs (x : BasinSt) : (setBasin x s).regs = s.regs := rfl
@[simp] theorem setBasin_frozen (x : BasinSt) : (setBasin x s).frozen = s.frozen := rfl
@[simp] theorem setBasin_latches (x : BasinSt) : (setBasin x s).latches = s.latches := rfl
@[simp] theorem setBasin_srst (x : BasinSt) : (setBasin x s).srst = s.srst := rfl
@[simp] theorem setBasin_landNext (x : BasinSt) : (setBasin x s).landNext = s.landNext := rfl
@[simp] theorem setBasin_mem (x : BasinSt) : (setBasin x s).mem = s.mem := rfl
@[simp] theorem setBasin_cist (x : BasinSt) : (setBasin x s).cist = s.cist := rfl
@[simp] theorem setBasin_host (x : BasinSt) : (setBasin x s).host = s.host := rfl
@[simp] theorem setBasin_boot (x : BasinSt) : (setBasin x s).boot = s.boot := rfl
@[simp] theorem setBasin_tb (x : BasinSt) : (setBasin x s).tb = s.tb := rfl
@[simp] theorem setBasin_comp (x : BasinSt) : (setBasin x s).comp = s.comp := rfl
@[simp] theorem setBasin_galley (x : BasinSt) : (setBasin x s).galley = s.galley := rfl
@[simp] theorem setBasin_basin (x : BasinSt) : (setBasin x s).basin = x := rfl
@[simp] theorem setBasin_ports (x : BasinSt) : (setBasin x s).ports = s.ports := rfl
@[simp] theorem setBasin_net (x : BasinSt) : (setBasin x s).net = s.net := rfl
@[simp] theorem setBasin_twin (x : BasinSt) : (setBasin x s).twin = s.twin := rfl
@[simp] theorem setBasin_arb (x : BasinSt) : (setBasin x s).arb = s.arb := rfl
@[simp] theorem setBasin_clk (x : BasinSt) : (setBasin x s).clk = s.clk := rfl
@[simp] theorem setBasin_dpll (x : BasinSt) : (setBasin x s).dpll = s.dpll := rfl
@[simp] theorem setBasin_ptp (x : BasinSt) : (setBasin x s).ptp = s.ptp := rfl
@[simp] theorem setBasin_cistern (x : BasinSt) : (setBasin x s).cistern = s.cistern := rfl
@[simp] theorem setBasin_press (x : BasinSt) : (setBasin x s).press = s.press := rfl
@[simp] theorem setBasin_fab (x : BasinSt) : (setBasin x s).fab = s.fab := rfl
@[simp] theorem setBasin_sense (x : BasinSt) : (setBasin x s).sense = s.sense := rfl
@[simp] theorem setBasin_shedMeas (x : BasinSt) : (setBasin x s).shedMeas = s.shedMeas := rfl
@[simp] theorem setBasin_shedImp (x : BasinSt) : (setBasin x s).shedImp = s.shedImp := rfl
@[simp] theorem setBasin_shed (x : BasinSt) : (setBasin x s).shed = s.shed := rfl
@[simp] theorem setBasin_shedT (x : BasinSt) : (setBasin x s).shedT = s.shedT := rfl
@[simp] theorem setBasin_pending (x : BasinSt) : (setBasin x s).pending = s.pending := rfl
@[simp] theorem rget_setBasin (x : BasinSt) (k : Nat) : rget (setBasin x s) k = rget s k := rfl
@[simp] theorem rdByte_setBasin (x : BasinSt) (k : Nat) : rdByte (setBasin x s) k = rdByte s k := rfl
@[simp] theorem cdByte_setBasin (x : BasinSt) (k : Nat) : cdByte (setBasin x s) k = cdByte s k := rfl

/-! ### `setNet` -/

@[simp] theorem setNet_now (x : NetSt) : (setNet x s).now = s.now := rfl
@[simp] theorem setNet_freeCtr (x : NetSt) : (setNet x s).freeCtr = s.freeCtr := rfl
@[simp] theorem setNet_regs (x : NetSt) : (setNet x s).regs = s.regs := rfl
@[simp] theorem setNet_frozen (x : NetSt) : (setNet x s).frozen = s.frozen := rfl
@[simp] theorem setNet_latches (x : NetSt) : (setNet x s).latches = s.latches := rfl
@[simp] theorem setNet_srst (x : NetSt) : (setNet x s).srst = s.srst := rfl
@[simp] theorem setNet_landNext (x : NetSt) : (setNet x s).landNext = s.landNext := rfl
@[simp] theorem setNet_mem (x : NetSt) : (setNet x s).mem = s.mem := rfl
@[simp] theorem setNet_cist (x : NetSt) : (setNet x s).cist = s.cist := rfl
@[simp] theorem setNet_host (x : NetSt) : (setNet x s).host = s.host := rfl
@[simp] theorem setNet_boot (x : NetSt) : (setNet x s).boot = s.boot := rfl
@[simp] theorem setNet_tb (x : NetSt) : (setNet x s).tb = s.tb := rfl
@[simp] theorem setNet_comp (x : NetSt) : (setNet x s).comp = s.comp := rfl
@[simp] theorem setNet_galley (x : NetSt) : (setNet x s).galley = s.galley := rfl
@[simp] theorem setNet_basin (x : NetSt) : (setNet x s).basin = s.basin := rfl
@[simp] theorem setNet_ports (x : NetSt) : (setNet x s).ports = s.ports := rfl
@[simp] theorem setNet_net (x : NetSt) : (setNet x s).net = x := rfl
@[simp] theorem setNet_twin (x : NetSt) : (setNet x s).twin = s.twin := rfl
@[simp] theorem setNet_arb (x : NetSt) : (setNet x s).arb = s.arb := rfl
@[simp] theorem setNet_clk (x : NetSt) : (setNet x s).clk = s.clk := rfl
@[simp] theorem setNet_dpll (x : NetSt) : (setNet x s).dpll = s.dpll := rfl
@[simp] theorem setNet_ptp (x : NetSt) : (setNet x s).ptp = s.ptp := rfl
@[simp] theorem setNet_cistern (x : NetSt) : (setNet x s).cistern = s.cistern := rfl
@[simp] theorem setNet_press (x : NetSt) : (setNet x s).press = s.press := rfl
@[simp] theorem setNet_fab (x : NetSt) : (setNet x s).fab = s.fab := rfl
@[simp] theorem setNet_sense (x : NetSt) : (setNet x s).sense = s.sense := rfl
@[simp] theorem setNet_shedMeas (x : NetSt) : (setNet x s).shedMeas = s.shedMeas := rfl
@[simp] theorem setNet_shedImp (x : NetSt) : (setNet x s).shedImp = s.shedImp := rfl
@[simp] theorem setNet_shed (x : NetSt) : (setNet x s).shed = s.shed := rfl
@[simp] theorem setNet_shedT (x : NetSt) : (setNet x s).shedT = s.shedT := rfl
@[simp] theorem setNet_pending (x : NetSt) : (setNet x s).pending = s.pending := rfl
@[simp] theorem rget_setNet (x : NetSt) (k : Nat) : rget (setNet x s) k = rget s k := rfl
@[simp] theorem rdByte_setNet (x : NetSt) (k : Nat) : rdByte (setNet x s) k = rdByte s k := rfl
@[simp] theorem cdByte_setNet (x : NetSt) (k : Nat) : cdByte (setNet x s) k = cdByte s k := rfl

/-! ### `setTwinSt` -/

@[simp] theorem setTwinSt_now (x : TwinSt) : (setTwinSt x s).now = s.now := rfl
@[simp] theorem setTwinSt_freeCtr (x : TwinSt) : (setTwinSt x s).freeCtr = s.freeCtr := rfl
@[simp] theorem setTwinSt_regs (x : TwinSt) : (setTwinSt x s).regs = s.regs := rfl
@[simp] theorem setTwinSt_frozen (x : TwinSt) : (setTwinSt x s).frozen = s.frozen := rfl
@[simp] theorem setTwinSt_latches (x : TwinSt) : (setTwinSt x s).latches = s.latches := rfl
@[simp] theorem setTwinSt_srst (x : TwinSt) : (setTwinSt x s).srst = s.srst := rfl
@[simp] theorem setTwinSt_landNext (x : TwinSt) : (setTwinSt x s).landNext = s.landNext := rfl
@[simp] theorem setTwinSt_mem (x : TwinSt) : (setTwinSt x s).mem = s.mem := rfl
@[simp] theorem setTwinSt_cist (x : TwinSt) : (setTwinSt x s).cist = s.cist := rfl
@[simp] theorem setTwinSt_host (x : TwinSt) : (setTwinSt x s).host = s.host := rfl
@[simp] theorem setTwinSt_boot (x : TwinSt) : (setTwinSt x s).boot = s.boot := rfl
@[simp] theorem setTwinSt_tb (x : TwinSt) : (setTwinSt x s).tb = s.tb := rfl
@[simp] theorem setTwinSt_comp (x : TwinSt) : (setTwinSt x s).comp = s.comp := rfl
@[simp] theorem setTwinSt_galley (x : TwinSt) : (setTwinSt x s).galley = s.galley := rfl
@[simp] theorem setTwinSt_basin (x : TwinSt) : (setTwinSt x s).basin = s.basin := rfl
@[simp] theorem setTwinSt_ports (x : TwinSt) : (setTwinSt x s).ports = s.ports := rfl
@[simp] theorem setTwinSt_net (x : TwinSt) : (setTwinSt x s).net = s.net := rfl
@[simp] theorem setTwinSt_twin (x : TwinSt) : (setTwinSt x s).twin = x := rfl
@[simp] theorem setTwinSt_arb (x : TwinSt) : (setTwinSt x s).arb = s.arb := rfl
@[simp] theorem setTwinSt_clk (x : TwinSt) : (setTwinSt x s).clk = s.clk := rfl
@[simp] theorem setTwinSt_dpll (x : TwinSt) : (setTwinSt x s).dpll = s.dpll := rfl
@[simp] theorem setTwinSt_ptp (x : TwinSt) : (setTwinSt x s).ptp = s.ptp := rfl
@[simp] theorem setTwinSt_cistern (x : TwinSt) : (setTwinSt x s).cistern = s.cistern := rfl
@[simp] theorem setTwinSt_press (x : TwinSt) : (setTwinSt x s).press = s.press := rfl
@[simp] theorem setTwinSt_fab (x : TwinSt) : (setTwinSt x s).fab = s.fab := rfl
@[simp] theorem setTwinSt_sense (x : TwinSt) : (setTwinSt x s).sense = s.sense := rfl
@[simp] theorem setTwinSt_shedMeas (x : TwinSt) : (setTwinSt x s).shedMeas = s.shedMeas := rfl
@[simp] theorem setTwinSt_shedImp (x : TwinSt) : (setTwinSt x s).shedImp = s.shedImp := rfl
@[simp] theorem setTwinSt_shed (x : TwinSt) : (setTwinSt x s).shed = s.shed := rfl
@[simp] theorem setTwinSt_shedT (x : TwinSt) : (setTwinSt x s).shedT = s.shedT := rfl
@[simp] theorem setTwinSt_pending (x : TwinSt) : (setTwinSt x s).pending = s.pending := rfl
@[simp] theorem rget_setTwinSt (x : TwinSt) (k : Nat) : rget (setTwinSt x s) k = rget s k := rfl
@[simp] theorem rdByte_setTwinSt (x : TwinSt) (k : Nat) : rdByte (setTwinSt x s) k = rdByte s k := rfl
@[simp] theorem cdByte_setTwinSt (x : TwinSt) (k : Nat) : cdByte (setTwinSt x s) k = cdByte s k := rfl

/-! ### `setArb` -/

@[simp] theorem setArb_now (x : ArbSt) : (setArb x s).now = s.now := rfl
@[simp] theorem setArb_freeCtr (x : ArbSt) : (setArb x s).freeCtr = s.freeCtr := rfl
@[simp] theorem setArb_regs (x : ArbSt) : (setArb x s).regs = s.regs := rfl
@[simp] theorem setArb_frozen (x : ArbSt) : (setArb x s).frozen = s.frozen := rfl
@[simp] theorem setArb_latches (x : ArbSt) : (setArb x s).latches = s.latches := rfl
@[simp] theorem setArb_srst (x : ArbSt) : (setArb x s).srst = s.srst := rfl
@[simp] theorem setArb_landNext (x : ArbSt) : (setArb x s).landNext = s.landNext := rfl
@[simp] theorem setArb_mem (x : ArbSt) : (setArb x s).mem = s.mem := rfl
@[simp] theorem setArb_cist (x : ArbSt) : (setArb x s).cist = s.cist := rfl
@[simp] theorem setArb_host (x : ArbSt) : (setArb x s).host = s.host := rfl
@[simp] theorem setArb_boot (x : ArbSt) : (setArb x s).boot = s.boot := rfl
@[simp] theorem setArb_tb (x : ArbSt) : (setArb x s).tb = s.tb := rfl
@[simp] theorem setArb_comp (x : ArbSt) : (setArb x s).comp = s.comp := rfl
@[simp] theorem setArb_galley (x : ArbSt) : (setArb x s).galley = s.galley := rfl
@[simp] theorem setArb_basin (x : ArbSt) : (setArb x s).basin = s.basin := rfl
@[simp] theorem setArb_ports (x : ArbSt) : (setArb x s).ports = s.ports := rfl
@[simp] theorem setArb_net (x : ArbSt) : (setArb x s).net = s.net := rfl
@[simp] theorem setArb_twin (x : ArbSt) : (setArb x s).twin = s.twin := rfl
@[simp] theorem setArb_arb (x : ArbSt) : (setArb x s).arb = x := rfl
@[simp] theorem setArb_clk (x : ArbSt) : (setArb x s).clk = s.clk := rfl
@[simp] theorem setArb_dpll (x : ArbSt) : (setArb x s).dpll = s.dpll := rfl
@[simp] theorem setArb_ptp (x : ArbSt) : (setArb x s).ptp = s.ptp := rfl
@[simp] theorem setArb_cistern (x : ArbSt) : (setArb x s).cistern = s.cistern := rfl
@[simp] theorem setArb_press (x : ArbSt) : (setArb x s).press = s.press := rfl
@[simp] theorem setArb_fab (x : ArbSt) : (setArb x s).fab = s.fab := rfl
@[simp] theorem setArb_sense (x : ArbSt) : (setArb x s).sense = s.sense := rfl
@[simp] theorem setArb_shedMeas (x : ArbSt) : (setArb x s).shedMeas = s.shedMeas := rfl
@[simp] theorem setArb_shedImp (x : ArbSt) : (setArb x s).shedImp = s.shedImp := rfl
@[simp] theorem setArb_shed (x : ArbSt) : (setArb x s).shed = s.shed := rfl
@[simp] theorem setArb_shedT (x : ArbSt) : (setArb x s).shedT = s.shedT := rfl
@[simp] theorem setArb_pending (x : ArbSt) : (setArb x s).pending = s.pending := rfl
@[simp] theorem rget_setArb (x : ArbSt) (k : Nat) : rget (setArb x s) k = rget s k := rfl
@[simp] theorem rdByte_setArb (x : ArbSt) (k : Nat) : rdByte (setArb x s) k = rdByte s k := rfl
@[simp] theorem cdByte_setArb (x : ArbSt) (k : Nat) : cdByte (setArb x s) k = cdByte s k := rfl

/-! ### `setClk` -/

@[simp] theorem setClk_now (x : ClockSt) : (setClk x s).now = s.now := rfl
@[simp] theorem setClk_freeCtr (x : ClockSt) : (setClk x s).freeCtr = s.freeCtr := rfl
@[simp] theorem setClk_regs (x : ClockSt) : (setClk x s).regs = s.regs := rfl
@[simp] theorem setClk_frozen (x : ClockSt) : (setClk x s).frozen = s.frozen := rfl
@[simp] theorem setClk_latches (x : ClockSt) : (setClk x s).latches = s.latches := rfl
@[simp] theorem setClk_srst (x : ClockSt) : (setClk x s).srst = s.srst := rfl
@[simp] theorem setClk_landNext (x : ClockSt) : (setClk x s).landNext = s.landNext := rfl
@[simp] theorem setClk_mem (x : ClockSt) : (setClk x s).mem = s.mem := rfl
@[simp] theorem setClk_cist (x : ClockSt) : (setClk x s).cist = s.cist := rfl
@[simp] theorem setClk_host (x : ClockSt) : (setClk x s).host = s.host := rfl
@[simp] theorem setClk_boot (x : ClockSt) : (setClk x s).boot = s.boot := rfl
@[simp] theorem setClk_tb (x : ClockSt) : (setClk x s).tb = s.tb := rfl
@[simp] theorem setClk_comp (x : ClockSt) : (setClk x s).comp = s.comp := rfl
@[simp] theorem setClk_galley (x : ClockSt) : (setClk x s).galley = s.galley := rfl
@[simp] theorem setClk_basin (x : ClockSt) : (setClk x s).basin = s.basin := rfl
@[simp] theorem setClk_ports (x : ClockSt) : (setClk x s).ports = s.ports := rfl
@[simp] theorem setClk_net (x : ClockSt) : (setClk x s).net = s.net := rfl
@[simp] theorem setClk_twin (x : ClockSt) : (setClk x s).twin = s.twin := rfl
@[simp] theorem setClk_arb (x : ClockSt) : (setClk x s).arb = s.arb := rfl
@[simp] theorem setClk_clk (x : ClockSt) : (setClk x s).clk = x := rfl
@[simp] theorem setClk_dpll (x : ClockSt) : (setClk x s).dpll = s.dpll := rfl
@[simp] theorem setClk_ptp (x : ClockSt) : (setClk x s).ptp = s.ptp := rfl
@[simp] theorem setClk_cistern (x : ClockSt) : (setClk x s).cistern = s.cistern := rfl
@[simp] theorem setClk_press (x : ClockSt) : (setClk x s).press = s.press := rfl
@[simp] theorem setClk_fab (x : ClockSt) : (setClk x s).fab = s.fab := rfl
@[simp] theorem setClk_sense (x : ClockSt) : (setClk x s).sense = s.sense := rfl
@[simp] theorem setClk_shedMeas (x : ClockSt) : (setClk x s).shedMeas = s.shedMeas := rfl
@[simp] theorem setClk_shedImp (x : ClockSt) : (setClk x s).shedImp = s.shedImp := rfl
@[simp] theorem setClk_shed (x : ClockSt) : (setClk x s).shed = s.shed := rfl
@[simp] theorem setClk_shedT (x : ClockSt) : (setClk x s).shedT = s.shedT := rfl
@[simp] theorem setClk_pending (x : ClockSt) : (setClk x s).pending = s.pending := rfl
@[simp] theorem rget_setClk (x : ClockSt) (k : Nat) : rget (setClk x s) k = rget s k := rfl
@[simp] theorem rdByte_setClk (x : ClockSt) (k : Nat) : rdByte (setClk x s) k = rdByte s k := rfl
@[simp] theorem cdByte_setClk (x : ClockSt) (k : Nat) : cdByte (setClk x s) k = cdByte s k := rfl

/-! ### `setDpll` -/

@[simp] theorem setDpll_now (x : DpllSt) : (setDpll x s).now = s.now := rfl
@[simp] theorem setDpll_freeCtr (x : DpllSt) : (setDpll x s).freeCtr = s.freeCtr := rfl
@[simp] theorem setDpll_regs (x : DpllSt) : (setDpll x s).regs = s.regs := rfl
@[simp] theorem setDpll_frozen (x : DpllSt) : (setDpll x s).frozen = s.frozen := rfl
@[simp] theorem setDpll_latches (x : DpllSt) : (setDpll x s).latches = s.latches := rfl
@[simp] theorem setDpll_srst (x : DpllSt) : (setDpll x s).srst = s.srst := rfl
@[simp] theorem setDpll_landNext (x : DpllSt) : (setDpll x s).landNext = s.landNext := rfl
@[simp] theorem setDpll_mem (x : DpllSt) : (setDpll x s).mem = s.mem := rfl
@[simp] theorem setDpll_cist (x : DpllSt) : (setDpll x s).cist = s.cist := rfl
@[simp] theorem setDpll_host (x : DpllSt) : (setDpll x s).host = s.host := rfl
@[simp] theorem setDpll_boot (x : DpllSt) : (setDpll x s).boot = s.boot := rfl
@[simp] theorem setDpll_tb (x : DpllSt) : (setDpll x s).tb = s.tb := rfl
@[simp] theorem setDpll_comp (x : DpllSt) : (setDpll x s).comp = s.comp := rfl
@[simp] theorem setDpll_galley (x : DpllSt) : (setDpll x s).galley = s.galley := rfl
@[simp] theorem setDpll_basin (x : DpllSt) : (setDpll x s).basin = s.basin := rfl
@[simp] theorem setDpll_ports (x : DpllSt) : (setDpll x s).ports = s.ports := rfl
@[simp] theorem setDpll_net (x : DpllSt) : (setDpll x s).net = s.net := rfl
@[simp] theorem setDpll_twin (x : DpllSt) : (setDpll x s).twin = s.twin := rfl
@[simp] theorem setDpll_arb (x : DpllSt) : (setDpll x s).arb = s.arb := rfl
@[simp] theorem setDpll_clk (x : DpllSt) : (setDpll x s).clk = s.clk := rfl
@[simp] theorem setDpll_dpll (x : DpllSt) : (setDpll x s).dpll = x := rfl
@[simp] theorem setDpll_ptp (x : DpllSt) : (setDpll x s).ptp = s.ptp := rfl
@[simp] theorem setDpll_cistern (x : DpllSt) : (setDpll x s).cistern = s.cistern := rfl
@[simp] theorem setDpll_press (x : DpllSt) : (setDpll x s).press = s.press := rfl
@[simp] theorem setDpll_fab (x : DpllSt) : (setDpll x s).fab = s.fab := rfl
@[simp] theorem setDpll_sense (x : DpllSt) : (setDpll x s).sense = s.sense := rfl
@[simp] theorem setDpll_shedMeas (x : DpllSt) : (setDpll x s).shedMeas = s.shedMeas := rfl
@[simp] theorem setDpll_shedImp (x : DpllSt) : (setDpll x s).shedImp = s.shedImp := rfl
@[simp] theorem setDpll_shed (x : DpllSt) : (setDpll x s).shed = s.shed := rfl
@[simp] theorem setDpll_shedT (x : DpllSt) : (setDpll x s).shedT = s.shedT := rfl
@[simp] theorem setDpll_pending (x : DpllSt) : (setDpll x s).pending = s.pending := rfl
@[simp] theorem rget_setDpll (x : DpllSt) (k : Nat) : rget (setDpll x s) k = rget s k := rfl
@[simp] theorem rdByte_setDpll (x : DpllSt) (k : Nat) : rdByte (setDpll x s) k = rdByte s k := rfl
@[simp] theorem cdByte_setDpll (x : DpllSt) (k : Nat) : cdByte (setDpll x s) k = cdByte s k := rfl

/-! ### `setPtp` -/

@[simp] theorem setPtp_now (x : PtpSt) : (setPtp x s).now = s.now := rfl
@[simp] theorem setPtp_freeCtr (x : PtpSt) : (setPtp x s).freeCtr = s.freeCtr := rfl
@[simp] theorem setPtp_regs (x : PtpSt) : (setPtp x s).regs = s.regs := rfl
@[simp] theorem setPtp_frozen (x : PtpSt) : (setPtp x s).frozen = s.frozen := rfl
@[simp] theorem setPtp_latches (x : PtpSt) : (setPtp x s).latches = s.latches := rfl
@[simp] theorem setPtp_srst (x : PtpSt) : (setPtp x s).srst = s.srst := rfl
@[simp] theorem setPtp_landNext (x : PtpSt) : (setPtp x s).landNext = s.landNext := rfl
@[simp] theorem setPtp_mem (x : PtpSt) : (setPtp x s).mem = s.mem := rfl
@[simp] theorem setPtp_cist (x : PtpSt) : (setPtp x s).cist = s.cist := rfl
@[simp] theorem setPtp_host (x : PtpSt) : (setPtp x s).host = s.host := rfl
@[simp] theorem setPtp_boot (x : PtpSt) : (setPtp x s).boot = s.boot := rfl
@[simp] theorem setPtp_tb (x : PtpSt) : (setPtp x s).tb = s.tb := rfl
@[simp] theorem setPtp_comp (x : PtpSt) : (setPtp x s).comp = s.comp := rfl
@[simp] theorem setPtp_galley (x : PtpSt) : (setPtp x s).galley = s.galley := rfl
@[simp] theorem setPtp_basin (x : PtpSt) : (setPtp x s).basin = s.basin := rfl
@[simp] theorem setPtp_ports (x : PtpSt) : (setPtp x s).ports = s.ports := rfl
@[simp] theorem setPtp_net (x : PtpSt) : (setPtp x s).net = s.net := rfl
@[simp] theorem setPtp_twin (x : PtpSt) : (setPtp x s).twin = s.twin := rfl
@[simp] theorem setPtp_arb (x : PtpSt) : (setPtp x s).arb = s.arb := rfl
@[simp] theorem setPtp_clk (x : PtpSt) : (setPtp x s).clk = s.clk := rfl
@[simp] theorem setPtp_dpll (x : PtpSt) : (setPtp x s).dpll = s.dpll := rfl
@[simp] theorem setPtp_ptp (x : PtpSt) : (setPtp x s).ptp = x := rfl
@[simp] theorem setPtp_cistern (x : PtpSt) : (setPtp x s).cistern = s.cistern := rfl
@[simp] theorem setPtp_press (x : PtpSt) : (setPtp x s).press = s.press := rfl
@[simp] theorem setPtp_fab (x : PtpSt) : (setPtp x s).fab = s.fab := rfl
@[simp] theorem setPtp_sense (x : PtpSt) : (setPtp x s).sense = s.sense := rfl
@[simp] theorem setPtp_shedMeas (x : PtpSt) : (setPtp x s).shedMeas = s.shedMeas := rfl
@[simp] theorem setPtp_shedImp (x : PtpSt) : (setPtp x s).shedImp = s.shedImp := rfl
@[simp] theorem setPtp_shed (x : PtpSt) : (setPtp x s).shed = s.shed := rfl
@[simp] theorem setPtp_shedT (x : PtpSt) : (setPtp x s).shedT = s.shedT := rfl
@[simp] theorem setPtp_pending (x : PtpSt) : (setPtp x s).pending = s.pending := rfl
@[simp] theorem rget_setPtp (x : PtpSt) (k : Nat) : rget (setPtp x s) k = rget s k := rfl
@[simp] theorem rdByte_setPtp (x : PtpSt) (k : Nat) : rdByte (setPtp x s) k = rdByte s k := rfl
@[simp] theorem cdByte_setPtp (x : PtpSt) (k : Nat) : cdByte (setPtp x s) k = cdByte s k := rfl

/-! ### `setCist` -/

@[simp] theorem setCist_now (x : CistSt) : (setCist x s).now = s.now := rfl
@[simp] theorem setCist_freeCtr (x : CistSt) : (setCist x s).freeCtr = s.freeCtr := rfl
@[simp] theorem setCist_regs (x : CistSt) : (setCist x s).regs = s.regs := rfl
@[simp] theorem setCist_frozen (x : CistSt) : (setCist x s).frozen = s.frozen := rfl
@[simp] theorem setCist_latches (x : CistSt) : (setCist x s).latches = s.latches := rfl
@[simp] theorem setCist_srst (x : CistSt) : (setCist x s).srst = s.srst := rfl
@[simp] theorem setCist_landNext (x : CistSt) : (setCist x s).landNext = s.landNext := rfl
@[simp] theorem setCist_mem (x : CistSt) : (setCist x s).mem = s.mem := rfl
@[simp] theorem setCist_cist (x : CistSt) : (setCist x s).cist = s.cist := rfl
@[simp] theorem setCist_host (x : CistSt) : (setCist x s).host = s.host := rfl
@[simp] theorem setCist_boot (x : CistSt) : (setCist x s).boot = s.boot := rfl
@[simp] theorem setCist_tb (x : CistSt) : (setCist x s).tb = s.tb := rfl
@[simp] theorem setCist_comp (x : CistSt) : (setCist x s).comp = s.comp := rfl
@[simp] theorem setCist_galley (x : CistSt) : (setCist x s).galley = s.galley := rfl
@[simp] theorem setCist_basin (x : CistSt) : (setCist x s).basin = s.basin := rfl
@[simp] theorem setCist_ports (x : CistSt) : (setCist x s).ports = s.ports := rfl
@[simp] theorem setCist_net (x : CistSt) : (setCist x s).net = s.net := rfl
@[simp] theorem setCist_twin (x : CistSt) : (setCist x s).twin = s.twin := rfl
@[simp] theorem setCist_arb (x : CistSt) : (setCist x s).arb = s.arb := rfl
@[simp] theorem setCist_clk (x : CistSt) : (setCist x s).clk = s.clk := rfl
@[simp] theorem setCist_dpll (x : CistSt) : (setCist x s).dpll = s.dpll := rfl
@[simp] theorem setCist_ptp (x : CistSt) : (setCist x s).ptp = s.ptp := rfl
@[simp] theorem setCist_cistern (x : CistSt) : (setCist x s).cistern = x := rfl
@[simp] theorem setCist_press (x : CistSt) : (setCist x s).press = s.press := rfl
@[simp] theorem setCist_fab (x : CistSt) : (setCist x s).fab = s.fab := rfl
@[simp] theorem setCist_sense (x : CistSt) : (setCist x s).sense = s.sense := rfl
@[simp] theorem setCist_shedMeas (x : CistSt) : (setCist x s).shedMeas = s.shedMeas := rfl
@[simp] theorem setCist_shedImp (x : CistSt) : (setCist x s).shedImp = s.shedImp := rfl
@[simp] theorem setCist_shed (x : CistSt) : (setCist x s).shed = s.shed := rfl
@[simp] theorem setCist_shedT (x : CistSt) : (setCist x s).shedT = s.shedT := rfl
@[simp] theorem setCist_pending (x : CistSt) : (setCist x s).pending = s.pending := rfl
@[simp] theorem rget_setCist (x : CistSt) (k : Nat) : rget (setCist x s) k = rget s k := rfl
@[simp] theorem rdByte_setCist (x : CistSt) (k : Nat) : rdByte (setCist x s) k = rdByte s k := rfl
@[simp] theorem cdByte_setCist (x : CistSt) (k : Nat) : cdByte (setCist x s) k = cdByte s k := rfl

/-! ### `setPress` -/

@[simp] theorem setPress_now (p : Fin 16) (x : PressSt) : (setPress p x s).now = s.now := rfl
@[simp] theorem setPress_freeCtr (p : Fin 16) (x : PressSt) : (setPress p x s).freeCtr = s.freeCtr := rfl
@[simp] theorem setPress_regs (p : Fin 16) (x : PressSt) : (setPress p x s).regs = s.regs := rfl
@[simp] theorem setPress_frozen (p : Fin 16) (x : PressSt) : (setPress p x s).frozen = s.frozen := rfl
@[simp] theorem setPress_latches (p : Fin 16) (x : PressSt) : (setPress p x s).latches = s.latches := rfl
@[simp] theorem setPress_srst (p : Fin 16) (x : PressSt) : (setPress p x s).srst = s.srst := rfl
@[simp] theorem setPress_landNext (p : Fin 16) (x : PressSt) : (setPress p x s).landNext = s.landNext := rfl
@[simp] theorem setPress_mem (p : Fin 16) (x : PressSt) : (setPress p x s).mem = s.mem := rfl
@[simp] theorem setPress_cist (p : Fin 16) (x : PressSt) : (setPress p x s).cist = s.cist := rfl
@[simp] theorem setPress_host (p : Fin 16) (x : PressSt) : (setPress p x s).host = s.host := rfl
@[simp] theorem setPress_boot (p : Fin 16) (x : PressSt) : (setPress p x s).boot = s.boot := rfl
@[simp] theorem setPress_tb (p : Fin 16) (x : PressSt) : (setPress p x s).tb = s.tb := rfl
@[simp] theorem setPress_comp (p : Fin 16) (x : PressSt) : (setPress p x s).comp = s.comp := rfl
@[simp] theorem setPress_galley (p : Fin 16) (x : PressSt) : (setPress p x s).galley = s.galley := rfl
@[simp] theorem setPress_basin (p : Fin 16) (x : PressSt) : (setPress p x s).basin = s.basin := rfl
@[simp] theorem setPress_ports (p : Fin 16) (x : PressSt) : (setPress p x s).ports = s.ports := rfl
@[simp] theorem setPress_net (p : Fin 16) (x : PressSt) : (setPress p x s).net = s.net := rfl
@[simp] theorem setPress_twin (p : Fin 16) (x : PressSt) : (setPress p x s).twin = s.twin := rfl
@[simp] theorem setPress_arb (p : Fin 16) (x : PressSt) : (setPress p x s).arb = s.arb := rfl
@[simp] theorem setPress_clk (p : Fin 16) (x : PressSt) : (setPress p x s).clk = s.clk := rfl
@[simp] theorem setPress_dpll (p : Fin 16) (x : PressSt) : (setPress p x s).dpll = s.dpll := rfl
@[simp] theorem setPress_ptp (p : Fin 16) (x : PressSt) : (setPress p x s).ptp = s.ptp := rfl
@[simp] theorem setPress_cistern (p : Fin 16) (x : PressSt) : (setPress p x s).cistern = s.cistern := rfl
@[simp] theorem setPress_press (p : Fin 16) (x : PressSt) : (setPress p x s).press = s.press.set p x := rfl
@[simp] theorem setPress_fab (p : Fin 16) (x : PressSt) : (setPress p x s).fab = s.fab := rfl
@[simp] theorem setPress_sense (p : Fin 16) (x : PressSt) : (setPress p x s).sense = s.sense := rfl
@[simp] theorem setPress_shedMeas (p : Fin 16) (x : PressSt) : (setPress p x s).shedMeas = s.shedMeas := rfl
@[simp] theorem setPress_shedImp (p : Fin 16) (x : PressSt) : (setPress p x s).shedImp = s.shedImp := rfl
@[simp] theorem setPress_shed (p : Fin 16) (x : PressSt) : (setPress p x s).shed = s.shed := rfl
@[simp] theorem setPress_shedT (p : Fin 16) (x : PressSt) : (setPress p x s).shedT = s.shedT := rfl
@[simp] theorem setPress_pending (p : Fin 16) (x : PressSt) : (setPress p x s).pending = s.pending := rfl
@[simp] theorem rget_setPress (p : Fin 16) (x : PressSt) (k : Nat) : rget (setPress p x s) k = rget s k := rfl
@[simp] theorem rdByte_setPress (p : Fin 16) (x : PressSt) (k : Nat) : rdByte (setPress p x s) k = rdByte s k := rfl
@[simp] theorem cdByte_setPress (p : Fin 16) (x : PressSt) (k : Nat) : cdByte (setPress p x s) k = cdByte s k := rfl

/-! ### `setFab` -/

@[simp] theorem setFab_now (x : FabSt) : (setFab x s).now = s.now := rfl
@[simp] theorem setFab_freeCtr (x : FabSt) : (setFab x s).freeCtr = s.freeCtr := rfl
@[simp] theorem setFab_regs (x : FabSt) : (setFab x s).regs = s.regs := rfl
@[simp] theorem setFab_frozen (x : FabSt) : (setFab x s).frozen = s.frozen := rfl
@[simp] theorem setFab_latches (x : FabSt) : (setFab x s).latches = s.latches := rfl
@[simp] theorem setFab_srst (x : FabSt) : (setFab x s).srst = s.srst := rfl
@[simp] theorem setFab_landNext (x : FabSt) : (setFab x s).landNext = s.landNext := rfl
@[simp] theorem setFab_mem (x : FabSt) : (setFab x s).mem = s.mem := rfl
@[simp] theorem setFab_cist (x : FabSt) : (setFab x s).cist = s.cist := rfl
@[simp] theorem setFab_host (x : FabSt) : (setFab x s).host = s.host := rfl
@[simp] theorem setFab_boot (x : FabSt) : (setFab x s).boot = s.boot := rfl
@[simp] theorem setFab_tb (x : FabSt) : (setFab x s).tb = s.tb := rfl
@[simp] theorem setFab_comp (x : FabSt) : (setFab x s).comp = s.comp := rfl
@[simp] theorem setFab_galley (x : FabSt) : (setFab x s).galley = s.galley := rfl
@[simp] theorem setFab_basin (x : FabSt) : (setFab x s).basin = s.basin := rfl
@[simp] theorem setFab_ports (x : FabSt) : (setFab x s).ports = s.ports := rfl
@[simp] theorem setFab_net (x : FabSt) : (setFab x s).net = s.net := rfl
@[simp] theorem setFab_twin (x : FabSt) : (setFab x s).twin = s.twin := rfl
@[simp] theorem setFab_arb (x : FabSt) : (setFab x s).arb = s.arb := rfl
@[simp] theorem setFab_clk (x : FabSt) : (setFab x s).clk = s.clk := rfl
@[simp] theorem setFab_dpll (x : FabSt) : (setFab x s).dpll = s.dpll := rfl
@[simp] theorem setFab_ptp (x : FabSt) : (setFab x s).ptp = s.ptp := rfl
@[simp] theorem setFab_cistern (x : FabSt) : (setFab x s).cistern = s.cistern := rfl
@[simp] theorem setFab_press (x : FabSt) : (setFab x s).press = s.press := rfl
@[simp] theorem setFab_fab (x : FabSt) : (setFab x s).fab = x := rfl
@[simp] theorem setFab_sense (x : FabSt) : (setFab x s).sense = s.sense := rfl
@[simp] theorem setFab_shedMeas (x : FabSt) : (setFab x s).shedMeas = s.shedMeas := rfl
@[simp] theorem setFab_shedImp (x : FabSt) : (setFab x s).shedImp = s.shedImp := rfl
@[simp] theorem setFab_shed (x : FabSt) : (setFab x s).shed = s.shed := rfl
@[simp] theorem setFab_shedT (x : FabSt) : (setFab x s).shedT = s.shedT := rfl
@[simp] theorem setFab_pending (x : FabSt) : (setFab x s).pending = s.pending := rfl
@[simp] theorem rget_setFab (x : FabSt) (k : Nat) : rget (setFab x s) k = rget s k := rfl
@[simp] theorem rdByte_setFab (x : FabSt) (k : Nat) : rdByte (setFab x s) k = rdByte s k := rfl
@[simp] theorem cdByte_setFab (x : FabSt) (k : Nat) : cdByte (setFab x s) k = cdByte s k := rfl

/-! ### `setSense` -/

@[simp] theorem setSense_now (x : SenseSt) : (setSense x s).now = s.now := rfl
@[simp] theorem setSense_freeCtr (x : SenseSt) : (setSense x s).freeCtr = s.freeCtr := rfl
@[simp] theorem setSense_regs (x : SenseSt) : (setSense x s).regs = s.regs := rfl
@[simp] theorem setSense_frozen (x : SenseSt) : (setSense x s).frozen = s.frozen := rfl
@[simp] theorem setSense_latches (x : SenseSt) : (setSense x s).latches = s.latches := rfl
@[simp] theorem setSense_srst (x : SenseSt) : (setSense x s).srst = s.srst := rfl
@[simp] theorem setSense_landNext (x : SenseSt) : (setSense x s).landNext = s.landNext := rfl
@[simp] theorem setSense_mem (x : SenseSt) : (setSense x s).mem = s.mem := rfl
@[simp] theorem setSense_cist (x : SenseSt) : (setSense x s).cist = s.cist := rfl
@[simp] theorem setSense_host (x : SenseSt) : (setSense x s).host = s.host := rfl
@[simp] theorem setSense_boot (x : SenseSt) : (setSense x s).boot = s.boot := rfl
@[simp] theorem setSense_tb (x : SenseSt) : (setSense x s).tb = s.tb := rfl
@[simp] theorem setSense_comp (x : SenseSt) : (setSense x s).comp = s.comp := rfl
@[simp] theorem setSense_galley (x : SenseSt) : (setSense x s).galley = s.galley := rfl
@[simp] theorem setSense_basin (x : SenseSt) : (setSense x s).basin = s.basin := rfl
@[simp] theorem setSense_ports (x : SenseSt) : (setSense x s).ports = s.ports := rfl
@[simp] theorem setSense_net (x : SenseSt) : (setSense x s).net = s.net := rfl
@[simp] theorem setSense_twin (x : SenseSt) : (setSense x s).twin = s.twin := rfl
@[simp] theorem setSense_arb (x : SenseSt) : (setSense x s).arb = s.arb := rfl
@[simp] theorem setSense_clk (x : SenseSt) : (setSense x s).clk = s.clk := rfl
@[simp] theorem setSense_dpll (x : SenseSt) : (setSense x s).dpll = s.dpll := rfl
@[simp] theorem setSense_ptp (x : SenseSt) : (setSense x s).ptp = s.ptp := rfl
@[simp] theorem setSense_cistern (x : SenseSt) : (setSense x s).cistern = s.cistern := rfl
@[simp] theorem setSense_press (x : SenseSt) : (setSense x s).press = s.press := rfl
@[simp] theorem setSense_fab (x : SenseSt) : (setSense x s).fab = s.fab := rfl
@[simp] theorem setSense_sense (x : SenseSt) : (setSense x s).sense = x := rfl
@[simp] theorem setSense_shedMeas (x : SenseSt) : (setSense x s).shedMeas = s.shedMeas := rfl
@[simp] theorem setSense_shedImp (x : SenseSt) : (setSense x s).shedImp = s.shedImp := rfl
@[simp] theorem setSense_shed (x : SenseSt) : (setSense x s).shed = s.shed := rfl
@[simp] theorem setSense_shedT (x : SenseSt) : (setSense x s).shedT = s.shedT := rfl
@[simp] theorem setSense_pending (x : SenseSt) : (setSense x s).pending = s.pending := rfl
@[simp] theorem rget_setSense (x : SenseSt) (k : Nat) : rget (setSense x s) k = rget s k := rfl
@[simp] theorem rdByte_setSense (x : SenseSt) (k : Nat) : rdByte (setSense x s) k = rdByte s k := rfl
@[simp] theorem cdByte_setSense (x : SenseSt) (k : Nat) : cdByte (setSense x s) k = cdByte s k := rfl

/-! ### The event gate -/

/-- Outside a reset an event reaches its block. -/
theorem awake_run {s : State} (f : State → State) (h : s.boot.held = .none) : awake f s = f s := if_pos h

/-- Held in reset the device stands still. -/
theorem awake_held {s : State} (f : State → State) (h : s.boot.held ≠ .none) : awake f s = s := if_neg h

/-! ### The queue -/

theorem step_idle {s : State} (h : s.pending = []) : step s = .next s := by simp [step, h]

theorem step_front {s : State} {c : Instr} {q : List Instr} (h : s.pending = c :: q) :
    step s = exec c { s with pending := q } := by simp [step, h]

end Sys2Proof.Machine
end

