-- ==== Sys2Proof/Laws/HostBus.lean ====
section
/-!
SUPPORT. What a host access does, said once: a write that no rule refuses, one that the gates stop, and its end.
-/

namespace Sys2Proof.Machine

/-- An accepted write lands its word on the owning block and completes with status 0. -/
theorem hostWrite_accepted {s : State} {a : Nat} {w : HW} {d : RegDef} (h : Accepted s a w) (hd : regAt a = some d)
    (hb : busAddr a = a) (hr : a ≠ aSYS_RSTCMD) (hc : ¬ (offOf a = 8 ∧ bit w.v 1 = true ∧ bit (heldReg s a) 0 = true)) :
    hostWrite ⟨a, w.lvl, w.be, w.v⟩ s =
      endAccess 0 w.lvl true a
        (landPage w.lvl a (heldReg s a) (newWord d (pageOf a) w.lvl.val (heldReg s a) w.v)
          (w.v &&& (w32 d.w1s ||| w32 d.wo ||| w32 d.w1c ||| (if w.lvl.val = 0 then w32 d.rwp else 0))) s) := by
  obtain ⟨⟨hl, hg, hcl⟩, hu⟩ := h
  have hp : isPageAddr a = true := by
    by_contra hp
    simp [regAt, hp] at hd
  simp only [unrefused, ruleOk, rwpKept, hd, Bool.and_eq_true, Option.isNone_iff_eq_none, Bool.not_eq_true'] at hu
  obtain ⟨⟨hs, hbr⟩, hw⟩ := hu
  have hl' : s.boot.held = .none := hl
  simp [hostWrite, hb, hg, hcl, hp, hl', hr, pageWrite, hd, hs, hbr, hw, hc]

/-- An access that decode, protection or width stops. -/
theorem hostWrite_gated {s : State} {x : HostAcc} (hl : s.boot.held = .none)
    (hg : accessGate s x.lvl.val (busAddr x.addr) true x.be ≠ 0) :
    hostWrite x s = gatedAccess (accessGate s x.lvl.val (busAddr x.addr) true x.be) x.lvl.val (busAddr x.addr) true s := by
  simp [hostWrite, hl, hg]

/-- Held in reset the bus does nothing. -/
theorem hostWrite_held {s : State} (x : HostAcc) (h : s.boot.held ≠ .none) : hostWrite x s = s := by
  simp [hostWrite, h]

/-- The end of an access with status 0 leaves every register but LASTERR and LASTADDR. -/
theorem rget_endAccess_ok (s : State) {l a k : Nat} (h1 : k ≠ aHOSTIF_LASTERR) (h2 : k ≠ aHOSTIF_LASTADDR) :
    rget (endAccess 0 l true a s) k = rget s k := by
  simp [endAccess, rget_rset_ne _ _ h1, rget_rset_ne _ _ h2]

end Sys2Proof.Machine
end

