-- ==== Sys2Proof/Tests/Slice0.lean ====
section
/-!
SUPPORT. Small checks of the model: ill-formed commands are refused by the check; single steps on small states; and, for every
statement that has hypotheses, states and operands that meet them.
-/

namespace Sys2Proof.Machine

-- One test after the other: the threads of many kernel evaluations at once do not fit the memory limit.
set_option Elab.async false

/-- A device in operation: start-up done, clocks locked, SOLO. -/
def runS : State :=
  { State.reset with
    boot := { BootSt.reset with step := .s9, held := .none, run := true, everRun := true, retention := true }
    clk := { ClockSt.reset with lockA := true, lockD := true, lockS := true, lockM := true, fabFb := false, coreGated := false }
    twin := { TwinSt.reset with st := .solo, drive := true }
    tb := { TimebaseSt.reset with frame := 1000, ticking := true } }

/-- The same as ACTIVE of a pair with a hot standby. -/
def runA : State :=
  { runS with twin := { runS.twin with st := .active, paired := true, pstate := 2, link := true, lanes := 2, lease := some 10 } }

/-- A host write at level 0 with all byte enables. -/
def w0 (v : Word) : HW := ⟨0, 0xF#4, v⟩

/-- The command answers a next state for which the check holds. -/
def ok (c : Instr) (s : State) (p : State → Bool) : Bool :=
  match exec c s with
  | .next t => p t
  | _ => false

/-- The command changes nothing. -/
def same (c : Instr) (s : State) : Bool := ok c s fun t => decide (t = s)

/-- The second state is the first but for its registers. -/
def onlyRegs (s t : State) : Bool := decide ({ t with regs := s.regs } = s)

/-- The access ended REFUSED with this code on a page whose ERRCAP was free. -/
def refused (c : Instr) (s : State) (code page a : Nat) : Bool :=
  !rbit s (aERRCAP page) 31 && ok c s fun t => lastStatus t == 5 && onlyRegs s t && rget t (aERRCAP page) == (0x80000000#32 ||| w32 code)
    && rget t (aERRADDR page) == w32 a

/-! ### Witnesses: host bus, common registers, Proof window -/

theorem wit_canonical : Canonical runS ∧ Canonical runA ∧ Live runS ∧ Live runA := by decide

theorem wit_held : State.reset.boot.held ≠ .none ∧ actsInReset (.srstComplete 0) = false ∧ same (.srstComplete 0) State.reset = true := by
  decide

theorem wit_plain_write :
    (let a := aSYS_SCRATCH 0
     a = busAddr a ∧ Allowed runS a (w0 5) ∧ (regAt a).isSome = true ∧ actingReg (pageOf a) (offOf a) = false ∧
      offOf a ∉ [0x8, 0x18, 0x1C] ∧ waitsForFrame runS a = false ∧ rwpKept runS 0 a 5 = false ∧
      ok (.registerWrite ⟨a, 0, 15#4, 5⟩) runS (fun t => rget t a == 5 && onlyRegs runS t) = true) ∧
    (let a := aPROT_PAGEPERM 3
     a = busAddr a ∧ Allowed runS a ⟨1, 15#4, 5⟩ ∧ actingReg (pageOf a) (offOf a) = false ∧ offOf a ∉ [0x8, 0x18, 0x1C] ∧
      rwpKept runS 1 a 5 = true ∧
      ok (.registerWrite ⟨a, 1, 15#4, 5⟩) runS (fun t => rget t a == rget runS a && lastStatus t == 3) = true) := by
  decide

theorem wit_gated : accessGate runS 0 (busAddr 0x1FFFFFC) true 15#4 = 1 ∧
    ok (.registerWrite ⟨0x1FFFFFC, 0, 15#4, 5⟩) runS (fun t => lastStatus t == 1 && onlyRegs runS t) = true := by
  decide

theorem wit_outside_solo :
    (Served runA (aCTRL pgBASIN) (w0 1) ∧ (regAt (aCTRL pgBASIN)).isSome = true ∧ isSolo runA = false ∧
      dataPlane pgBASIN = true ∧ bit (w0 1).v 0 ≠ bit (heldReg runA (aCTRL pgBASIN)) 0 ∧ isPressPage pgBASIN = false ∧
      refused (.blockEn 0x1C (w0 1)) runA 5 pgBASIN (aCTRL pgBASIN) = true) ∧
    (let a := aJET_PATH 2
     a = busAddr a ∧ Served runA a (w0 1) ∧ dataPlane (pageOf a) = true ∧ offOf a ∉ [0x8, 0x10, 0x14, 0x18, 0x1C] ∧
      statReg (pageOf a) (offOf a) = false ∧ a ≠ aBASIN_CRC_CTRL ∧
      refused (.registerWrite ⟨a, 0, 15#4, 1⟩) runA 5 pgJET a = true) ∧
    (isPressPage (pageOf (aPRESS_BRK 1)) = true ∧ offOf (aPRESS_BRK 1) = 0x8C ∧
      refused (.registerWrite ⟨aPRESS_BRK 1, 0, 15#4, 1⟩) runA 7 (pgPRESS 1) (aPRESS_BRK 1) = true) := by decide

/-- A device whose Press 1 is STOPPING. -/
def stopS : State := setPress 1 { runS.press[(1 : Fin 16)] with mode := .stopping } runS

theorem wit_block_controls :
    (Accepted runS (aCTRL pgSWITCH) (w0 1) ∧ dataPlane pgSWITCH = false ∧ alwaysOn pgSWITCH = false ∧
      ok (.blockEn 0x18 (w0 1)) runS (fun t => enOf t pgSWITCH) = true) ∧
    ok (.blockEn 0x1D (w0 1)) runS (fun t => decide (t.cistern.st = .off)) = true ∧
    ok (.blockEn 0x0D (w0 1)) runS (fun t => decide (t.cistern.st = .training)) = true ∧
    ok (.blockEn 0x05 (w0 0)) (rset (aCTRL pgPLLM) 1 runS) (fun t => !t.tb.ticking && !t.clk.lockM) = true ∧
    (Accepted runS (aCTRL pgBASIN) (w0 1) ∧ dataPlane pgBASIN = true ∧
      ok (.blockEn 0x1C (w0 1)) runS (fun t => !enOf t pgBASIN && bit (heldReg t (aCTRL pgBASIN)) 0) = true) ∧
    ok (.blockEn 0x21 (w0 1)) runS (fun t => !enOf t 0x21 && bit (heldReg t (aCTRL 0x21)) 0) = true ∧
    (Accepted runS (aCTRL pgBASIN) (w0 4) ∧ ok (.freeze 0x1C (w0 4)) runS (fun t => rbit t (aCTRL pgBASIN) 2) = true) ∧
    ok (.freeze 0x1C (w0 0)) (rset (aCTRL pgBASIN) 4 runS) (fun t => !rbit t (aCTRL pgBASIN) 2 && t.frozen.isEmpty) = true ∧
    (Accepted runS (aCTRL pgBASIN) (w0 2) ∧ bit (heldReg runS (aCTRL pgBASIN)) 0 = false ∧
      ok (.srst 0x1C (w0 0)) runS (fun t => t.srst.contains 0x1C && rget t (aISTAT pgBASIN) == 0) = true) ∧
    ok (.srst 0x1C (w0 1)) (rset (aCTRL pgBASIN) 1 runS) (fun t => t.srst.isEmpty && lastStatus t == 0) = true ∧
    (Accepted stopS (aCTRL 0x21) (w0 2) ∧ isPressPage 0x21 = true ∧ (pressAt stopS 0x21).mode = .stopping ∧
      ok (.srst 0x21 (w0 0)) stopS (fun t => (pressAt t 0x21).srstHeld && t.srst.isEmpty) = true) ∧
    ok (.srstComplete 0x1C) { runS with srst := [0x1C] } (fun t => decide (t = runS)) = true ∧
    (Accepted runS (pageAddr pgBASIN 0x18) (w0 1) ∧ (regAt (pageAddr pgBASIN 0x18)).isSome = true ∧
      ok (.iforce 0x1C (w0 1)) runS (fun t => rget t (aISTAT pgBASIN) == 1 && onlyRegs runS t) = true) ∧
    (Accepted runS (aERRCAP pgBASIN) (w0 0x80000000) ∧
      ok (.errcapClear 0x1C (w0 0)) (errcap pgBASIN 5 0x2C008 runS)
        (fun t => rget t (aERRCAP pgBASIN) == 0 && rget t (aERRADDR pgBASIN) == 0 && onlyRegs runS t) = true) := by decide +kernel

theorem wit_host_cycles :
    (accessGate runS 0 aPTP_TIME0_NS false 15#4 = 0 ∧ closedTo runS aPTP_TIME0_NS = false ∧
      accessGate runS 0 aTIMEBASE_MEDIA_NOW_LO false 15#4 = 0 ∧ busAddr aTIMEBASE_MEDIA_NOW_LO ∈ pairLows ∧ runS.latches = []) ∧
    ok (.lowWordRead aTIMEBASE_MEDIA_NOW_LO 0) runS (fun t => t.latches == [(aTIMEBASE_MEDIA_NOW_LO + 4, 0)]) = true ∧
    ok (.lowWordRead (aTIMEBASE_MEDIA_NOW_LO + 4) 0) { runS with latches := [(aTIMEBASE_MEDIA_NOW_LO + 4, 9)] }
      (fun t => t.latches.isEmpty && lastStatus t == 0) = true ∧
    ok (.timeNsRead 1 0) runS (fun t => t.latches.length == 3 && lastStatus t == 0) = true ∧
    (accessGate runS 0 (busAddr 0x10000) true 15#4 = 0 ∧
      ok (.hostAccessTimeout 0x10000 0 true) runS (fun t => lastStatus t == 7 && onlyRegs runS t) = true) ∧
    ok (.hostAccessTimeout 0x1FFFFFC 0 true) runS (fun t => lastStatus t == 1 && onlyRegs runS t) = true ∧
    (pressMemAt (busAddr 0x400000) = some 0 ∧ accessGate runS 0 (busAddr 0x400000) true 15#4 = 0 ∧
      refused (.pressHostTimeout 0 0x400000 0 true) runS 6 (pgPRESS 0) 0x400000 = true) := by decide +kernel

theorem wit_protection_proof :
    (Allowed runS (aPROT_RANGE_PERM 3) (w0 0x8000000F) ∧ runS.host.ranges.length = 16 ∧
      ok (.rangePermWrite 3 (w0 0x8000000F)) runS (fun t => t.host.ranges[3]? == some ⟨true, 0, 0, 15⟩) = true) ∧
    (Allowed runS (aPROT_RANGE_PERM 3) ⟨1, 15#4, 0x8000000F⟩ ∧
      ok (.rangePermWrite 3 ⟨1, 15#4, 0x8000000F⟩) runS (fun t => decide (t.host = runS.host) && lastStatus t == 3) = true) ∧
    (runS.clk.fabFb = false ∧ runS.tb.ticking = true ∧ rbit runS aHOSTIF_PROOF 31 = false ∧ runS.shed = 0) ∧
    same .proofSnapshot { runS with shed := 1, tb := { runS.tb with frame := 1001 } } = true ∧
    same .fallbackSnapshot runS = true ∧
    ok .fallbackSnapshot { runS with clk := { runS.clk with fabFb := true } }
      (fun t => t.host.seq == 2 && rget t aHOSTIF_SNAP_CNT == 1) = true ∧
    (Accepted runS aHOSTIF_PROOF (w0 0x80000003) ∧
      ok (.proofHold (w0 0x80000003)) runS (fun t => rget t aHOSTIF_PROOF == 0x80000003#32 && t.host.holdCnt == 0) = true) ∧
    ok .proofHoldExpire { rset aHOSTIF_PROOF 0x80000003 runS with host := { runS.host with holdCnt := 3 } }
      (fun t => rget t aHOSTIF_PROOF == 3#32 && rbit t (aISTAT pgHOSTIF) 1) = true ∧
    same .proofHoldExpire { rset aHOSTIF_PROOF 0x80000003 runS with host := { runS.host with holdCnt := 2 } } = true := by decide +kernel

/-! ### Witnesses: frame tick, Galley, Compositor -/

/-- An entry of client 0: opcode, trigger axis, class 0, one inline payload length. -/
def entryT (op axis len : Nat) (w4 w5 : Word) : Entry :=
  ⟨fld op 24 ||| fld axis 16 ||| fld len 0, 1, 0, 0, w4, w5, 0, 0⟩

/-- An event for frame 1000. -/
def evT (op len : Nat) (w4 w5 : Word) : Ev :=
  { ticket := 7, e := entryT op 0 len w4 w5, payload := [w4, w5].take len, f0 := 1000, due := some 1000, passed := false,
    depDead := false, land := 0, out := none }

/-- A device on which the event is released first. -/
def landS (e : Ev) : State := { runS with comp := { runS.comp with landing := [e] } }

/-- A device in whose ring slot 0 an IMM MARK of client 0 waits, with the client enabled for every opcode. -/
def ringS : State :=
  rset aGALLEY_PROD 1 (rset (aGALLEY_CLIENTCFG 0) 0xFFFFFFFF
    (wrWords galleyRing [0x09000000, 1, 0, 0, 0, 0, 0, 0] { runS with galley := { runS.galley with subs := [(0, 0)] } }))

theorem wit_frame_tick :
    (Live runS ∧ runS.clk.lockM = true ∧ tickHeld runS = false ∧ runS.boot.preload = []) ∧
    ok (.frameTick 5 ⟨0, [], 0⟩) { runS with clk := { runS.clk with coreGated := true } }
      (fun t => t.tb.frame == 1001 && decide (t.comp = runS.comp)) = true ∧
    ok (.frameTick 5 ⟨0, [], 0⟩) { runS with clk := { runS.clk with lockM := false } } (fun t => t.tb.frame == 1000) = true := by
  decide +kernel

theorem wit_ring_writes :
    (Accepted runS aGALLEY_PROD (w0 1) ∧
      ok (.galleyProd (w0 1)) runS (fun t => rget t aGALLEY_PROD == 1 && t.galley.subs == [(0, 0)]) = true) ∧
    (Served runS (busAddr 0x300020) (w0 5) ∧ bank2Refused runS (busAddr 0x300020) = false ∧
      ok (.galleySlotWrite ⟨0x300020, 0, 15#4, 5⟩) runS (fun t => rdWord t 0x300020 == 5) = true) ∧
    (bank2Refused ringS (busAddr 0x300000) = true ∧
      ok (.galleySlotWrite ⟨0x300000, 0, 15#4, 5⟩) ringS
        (fun t => lastStatus t == 5 && decide (t.mem = ringS.mem)) = true ∧
      refused (.galleySlotWrite ⟨0x300000, 0, 15#4, 5⟩) ringS 2 pgGALLEY 0x300000 = true) ∧
    (let s := { runS with fab := { runS.fab with flips := [(0x300020, 3)] } }
     ueAt s 0x300020 = true ∧ ok (.galleySlotWrite ⟨0x300020, 0, 3#4, 5⟩) s (fun t => lastStatus t == 6) = true) ∧
    ok (.galleySlotWrite ⟨0x300020, 0, 2#4, 0x1234⟩) runS (fun t => rdWord t 0x300020 == 0x1200) = true ∧
    (Accepted runS aGALLEY_CLIENT_RST (w0 3) ∧ runS.galley.clients.length = 16 ∧
      ok (.clientRst (w0 3)) { runS with galley := { runS.galley with clients := List.replicate 16 ⟨true, 5, []⟩ } }
        (fun t => t.galley.clients[1]? == some ⟨false, 5, []⟩ && t.galley.clients[2]? == some ⟨true, 5, []⟩) = true) := by decide +kernel

/-- An entry in flight. -/
def takenT : Taken :=
  { count := 0, t := 0, sub := 0, ev := some (evT opMark 0 0 0), noTable := false, status := 0, ticket := 7, act := none }

theorem wit_entry_check :
    (Canonical ringS ∧ galleyRuns ringS = true ∧ rfld ringS aGALLEY_CONS 15 0 ≠ rfld ringS aGALLEY_PROD 15 0 ∧
      ringS.fab.flips = [] ∧ replicates ringS = false ∧ (nextCheck 0 ringS).1 = 0 ∧ (nextCheck 0 ringS).2.2.isSome = true) ∧
    ok (.entryCheck 5) runS (fun t => decide (t = advance 5 runS)) = true ∧
    (let s := { ringS with fab := { ringS.fab with flips := [(0x300000, 3)] } }
     (slotRead 0 s).2 = true ∧ partnerHot s = false ∧ ok (.entryCheck 0) s (fun t => t.galley.lost && rget t aGALLEY_CONS == 0) = true) ∧
    ok (.entryCheck 0) { rset (aGALLEY_CLIENTCFG 0) 0 ringS with galley := { ringS.galley with inflight := [takenT] } }
      (fun t => t.galley.inflight.length == 2 && rget t aGALLEY_RESP == 0) = true ∧
    (let s := wrWords galleyRing [0x0A000001, 1, 0, 0, 7, 0, 0, 0] { ringS with comp := { ringS.comp with queue := [evT opMark 0 0 0] } }
     ok (.entryCheck 0) s (fun t => t.comp.queue.isEmpty && t.comp.done.map (fun d => (d.opcode, d.outcome))
       == [(opCancel, outOnTime), (opMark, outCancelled)]) = true) ∧
    ok (.entryCheck 0) ringS (fun t => rget t aGALLEY_TICKET_LAST == 1 && t.comp.queue.length == 1
      && rget t aGALLEY_ACC_CNT == 1 && rget t aGALLEY_RESP == 1 && rget t aGALLEY_CONS == 1) = true ∧
    ((nextCheck 0 (rset (aGALLEY_CLIENTCFG 0) 0 ringS)).2.2 = none ∧
      ok (.entryCheck 0) (rset (aGALLEY_CLIENTCFG 0) 0 ringS) (fun t => rget t aGALLEY_REF_CNT == 1
        && rget t aGALLEY_RESP == 1 && rget t aGALLEY_TICKET_LAST == 0 && t.comp.queue.isEmpty) = true) ∧
    (replicates { ringS with twin := runA.twin } = true ∧ (nextCheck 0 { ringS with twin := runA.twin }).2.2.isSome = true ∧
      ok (.entryCheck 0) { ringS with twin := runA.twin } (fun t => t.galley.inflight.length == 1 && t.comp.queue.isEmpty
        && rget t aGALLEY_TICKET_LAST == 1 && rget t aGALLEY_RESP == 0) = true) := by decide +kernel

theorem wit_replication :
    ok (.replAck 7 0) { runA with galley := { runA.galley with inflight := [takenT] } }
      (fun t => t.galley.inflight.isEmpty && t.comp.queue.length == 1 && rget t aGALLEY_ACC_CNT == 1
        && rget t aGALLEY_RESP == 1) = true ∧
    ok (.replAck 8 0) { runA with galley := { runA.galley with inflight := [takenT] } }
      (fun t => t.galley.inflight.length == 1 && t.comp.queue.isEmpty) = true ∧
    ok (.replTimeout 3000000) { runA with galley := { runA.galley with inflight := [takenT] } }
      (fun t => t.galley.inflight.isEmpty && rbit t (aISTAT pgGALLEY) 4 && t.twin.pstate == 15) = true ∧
    (let s := { runA with galley := { runA.galley with inflight := [takenT, { takenT with ev := none, status := 2, count := 1 }] } }
     ok (.replAck 7 0) s (fun t => t.galley.inflight.isEmpty && rget t aGALLEY_RESP == 2 && rget t aGALLEY_REF_CNT == 1) = true) ∧
    ok (.replTimeout 1000000) { runA with galley := { runA.galley with inflight := [takenT] } }
      (fun t => t.galley.inflight.length == 1 && t.now == 1000000) = true ∧
    ok (.replTimeout 3000000) { runA with galley := { runA.galley with inflight := [takenT] }, twin := { runA.twin with st := .faulted } }
      (fun t => t.galley.inflight.length == 1) = true ∧
    runA.sense.retries = [] ∧ isActive runA = true := by decide +kernel

theorem wit_released :
    (heldTurn (landS (evT opMark 0 0 0)) = false ∧
      ok (.mark 7) (landS (evT opMark 0 0 0)) (fun t => t.comp.landing.isEmpty && rget t aGALLEY_TICKET_DONE == 7
        && t.comp.done == [⟨7, opMark, 0, 0, 1000⟩]) = true) ∧
    ok (.cancel 7) (landS { evT opCancel 1 3 0 with out := some outTooLate }) (fun t => t.comp.landing.isEmpty
      && t.comp.done == [⟨7, opCancel, 0, outTooLate, 1000⟩]) = true ∧
    (landsAs (.cancel 8) = some (8, opCancel) ∧ same (.cancel 8) (landS (evT opCancel 1 3 0)) = true) ∧
    same (.mark 7) { landS (evT opMark 0 0 0) with comp := { runS.comp with landing := [evT opMark 0 0 0], held := [evT opRecall 0 0 0] } }
      = true ∧ same (.classCDrop 7) runS = true ∧ same (.heldEntryAct 7) runS = true ∧
    (let e : Ev := { evT opMark 0 0 0 with e := { (evT opMark 0 0 0).e with w0 := 0x09002000 }, f0 := 10, due := some 10 }
     let s : State := { runS with comp := { runS.comp with queue := [e] } }
     dropDue s 1001 e = true ∧ waitsFor 7 e = false ∧
      ok (.classCDrop 7) s (fun t => t.comp.queue.isEmpty && rget t aCOMPOSITOR_DROP_CNT == 1) = true) := by decide +kernel

theorem wit_write_param :
    (let e := evT opWriteParam 2 (w32 aPLAYER_DIR_COUNT) 9
     pairsOf e.payload = [(aPLAYER_DIR_COUNT, 9)] ∧ (regAt aPLAYER_DIR_COUNT).isSome = true ∧
      pageOf aPLAYER_DIR_COUNT = pgPLAYER ∧
      ok (.writeParam 7) (landS e) (fun t => rget t aPLAYER_DIR_COUNT == 9 && t.comp.landing.isEmpty
        && rget t aGALLEY_TICKET_DONE == 7) = true) ∧
    (let e := evT opWriteParam 2 0x1400000 9
     let s : State := { landS e with basin := { runS.basin with lock := true } }
     (pairsOf e.payload).any (onLockedShadow s) = true ∧
      ok (.writeParam 7) s (fun t => t.comp.held.length == 1 && decide (t.mem = s.mem)) = true) := by decide +kernel

/-! ### Witnesses: axes -/

/-- Tach on in quadrature; the counter on rising edges. -/
def axisS : State := rset aTIMEBASE_CNTCFG 1 (rput aTIMEBASE_TACHCFG 1 0 1 runS)

/-- The same with this state of the axes. -/
def axisT (f : TimebaseSt → TimebaseSt) : State := setTb (f axisS.tb) axisS

/-- A rising and a falling edge that every filter passes, and a rising glitch. -/
def rise : PinEdge := ⟨5, true, 10 ^ 9⟩
def fall : PinEdge := ⟨5, false, 10 ^ 9⟩
def spike : PinEdge := ⟨5, true, 0⟩

theorem wit_tach_pulse :
    (edgeAtA axisS rise ∧ axisS.tb.chatter = false ∧ (pulseWindow 5 axisS.tb).length * 1000 ≤ maxRate axisS ∧
      shownReverse axisS false = false ∧ shownReverse axisS true = true ∧ 1 < revPulses axisS) ∧
    ok (.tachPulse rise false) axisS (fun t => rget t aTIMEBASE_PULSES == 1 && t.tb.pos == pulseStep axisS false
      && 0 < pulseStep axisS false) = true ∧
    ok (.tachPulse rise true) axisS (fun t => t.tb.pos == 0 && t.tb.held == [5]) = true ∧
    ok (.tachPulse rise false) (axisT fun u => { u with held := [4, 3] }) (fun t => t.tb.pos == 0 && t.tb.held == [3]) = true ∧
    (let s := axisT fun u => { u with held := List.replicate (revPulses axisS - 1) 4 }
     ok (.tachPulse rise true) s (fun t => t.tb.reverse && t.tb.held.isEmpty
        && t.tb.pos == pulseStep axisS true * revPulses axisS) = true) ∧
    (let s := rput aTIMEBASE_TACH_LIMIT 17 0 0 axisS
     edgeAtA s rise ∧ maxRate s < (pulseWindow 5 s.tb).length * 1000 ∧
      ok (.tachPulse rise true) s (fun t => t.tb.chatter && t.tb.pos == 0 && rget t aTIMEBASE_PULSES == 0) = true) ∧
    (let s := axisT fun u => { u with chatter := true, est := some (0, 0) }
     edgeAtA s rise ∧ ok (.tachPulse rise true) s (fun t => t.tb.chatter && t.tb.lastA == 5 && rget t aTIMEBASE_PULSES == 0) = true) ∧
    (let s := axisT fun u => { u with levelA := true, stuckA := true, est := some (0, 9) }
     edgeAtA s fall ∧
      ok (.tachPulse fall true) s (fun t => !t.tb.stuckA && t.tb.pos == 9 && rget t aTIMEBASE_PULSES == 0) = true) ∧
    (passesGlitch (tachGlitch (rput aTIMEBASE_TACHCFG 15 8 2 axisS)) spike = false ∧
      ok (.tachPulse spike false) (rput aTIMEBASE_TACHCFG 15 8 2 axisS) (fun t => t.tb.levelA == false && t.tb.pos == 0) = true) ∧
    (tachMode runS = 0 ∧ ok (.tachPulse rise false) runS (fun t => t.tb.levelA && t.tb.pos == 0) = true) := by
  unfold edgeAtA; decide +kernel

theorem wit_axis_pins :
    (passesGlitch (tachGlitch axisS) rise = true ∧
      ok (.tachBEdge ⟨rise.t, rise.phase⟩ rise.level) (axisT fun u => { u with stuckB := true }) (fun t => !t.tb.stuckB && t.tb.lastB == 5) = true) ∧
    ok (.tachQuietRelease (10 ^ 15)) (axisT fun u => { u with chatter := true }) (fun t => !t.tb.chatter) = true ∧
    (tachMode axisS = 1 ∧
      ok (.tachStuck (10 ^ 15) true) (axisT fun u => { u with aloneA := some 0, lastA := 9 }) (fun t => t.tb.stuckB) = true ∧
      ok (.tachStuck (10 ^ 15) false) (axisT fun u => { u with aloneB := some 0, lastB := 9 })
        (fun t => t.tb.stuckA && t.tb.est.isSome) = true) ∧
    ok (.standstill (10 ^ 15)) (axisT fun u => { u with spdNum := 7 }) (fun t => t.tb.spdNum == 0) = true ∧
    (passesGlitch (cntGlitch axisS) rise = true ∧ cntSelected axisS rise = true ∧ cntSelected axisS fall = false ∧
      ok (.cntEdge ⟨rise.t, rise.phase⟩ rise.level) axisS (fun t => t.tb.cnt == 1) = true ∧
      ok (.cntEdge ⟨fall.t, fall.phase⟩ fall.level) (axisT fun u => { u with cntLevel := true }) (fun t => t.tb.cnt == 0 && !t.tb.cntLevel) = true ∧
      ok (.cntEdge ⟨rise.t, rise.phase⟩ rise.level) (rput aTIMEBASE_CNT_LIMIT 17 0 0 axisS) (fun t => t.tb.cnt == 0 && t.tb.cntChatter) = true) ∧
    ok (.cntQuietRelease (10 ^ 15)) (axisT fun u => { u with cntChatter := true }) (fun t => !t.tb.cntChatter) = true ∧
    ok (.cntStuck (10 ^ 15)) (axisT fun u => { u with cntHigh := some 0 }) (fun t => t.tb.cntStuck) = true ∧
    ok (.cntInLow ⟨5, 10 ^ 9⟩) (axisT fun u => { u with cntStuck := true }) (fun t => !t.tb.cntStuck) = true ∧
    ok .corrDone (axisT fun u => { u with corrFin := true }) (fun t => rbit t (aISTAT pgTIMEBASE) 5) = true := by decide +kernel

theorem wit_corrections :
    (Accepted axisS aTIMEBASE_CORR_HI (w0 0) ∧
      ok (.corrSubmit (w0 0)) (axisT fun u => { u with corrLo := 3 }) (fun t => t.tb.pend == 3 * mmUnit) = true ∧
      ok (.corrSubmit (w0 1)) axisS (fun t => t.tb.pend == 0 && rbit t (aISTAT pgTIMEBASE) 4
        && rget t (aERRCAP pgTIMEBASE) == 0x80000002#32) = true) ∧
    (Accepted axisS aTIMEBASE_POS_LOAD_HI (w0 0) ∧
      ok (.posLoad (w0 0)) (axisT fun u => { u with loadLo := 3 }) (fun t => t.tb.load == some (3 * mmUnit)) = true) ∧
    (let s := { axisS with comp := { axisS.comp with queue := [{ evT opMark 0 0 0 with e := entryT opMark 3 0 0 0 }] } }
     posPending s = true ∧ refused (.posLoad (w0 0)) s 1 pgTIMEBASE aTIMEBASE_POS_LOAD_HI = true) := by decide +kernel

/-! ### Witnesses: Basin -/

/-- A change on the word at offset 0 of the live Forme. -/
def moveT (disc : Disc) : Move :=
  { key := 0, s := 0, t := 256, q0 := ⟨0, 1⟩, up := true, disc := disc, law := false, land := 900, ramp := none, hit := none,
    slot := true, ticket := none }

def epochT (n : Nat) : Epoch := ⟨w32 n, 900, none, false, 900⟩

def epochA (n : Nat) : Epoch := ⟨w32 n, 1000, none, false, 1000⟩

def basinS (b : BasinSt) : State := setBasin b runS

/-- A recall is held, and its turn has come; a WRITE_PARAM of one pair with ticket 7 likewise. -/
def heldS : State := { runS with comp := { runS.comp with held := [evT opRecall 0 0 0] } }
def heldW (a v : Word) : State := { runS with comp := { runS.comp with held := [evT opWriteParam 2 a v] } }

theorem wit_solo_waits : Accepted runS (aJET_PATH 3) (w0 0x80000001) ∧ (regAt (aJET_PATH 3)).isSome = true ∧
    ok (.jetPath 3 (w0 0x80000001)) runS (fun t => rget t (aJET_PATH 3) == rget runS (aJET_PATH 3)
      && heldReg t (aJET_PATH 3) == 0x80000001#32) = true ∧
    (Live runS ∧ runS.clk.lockM = true ∧ tickHeld runS = false ∧ runS.clk.coreGated = false) ∧
    (let s := rset (aCTRL pgJET) 1 (landS (evT opWriteParam 2 (w32 (aJET_PATH 3)) 0x80000001))
     enOf s pgJET = true ∧ bit (jetPath s 3) 31 = false ∧ asrcSource s (jetSrcOf 0x80000001) = false ∧
      ok (.writeParam 7) s (fun t => rget t (aJET_PATH 3) == 0x80000001#32 && t.basin.jetOn.contains 3
        && t.comp.landing.isEmpty) = true) := by decide +kernel

theorem wit_recall :
    (openEpochs runS = 0 ∧ heldTurn (landS (evT opRecall 0 0 0)) = false ∧
      ok (.recallForme 7) (landS (evT opRecall 0 0 0)) (fun t => t.basin.liveB && t.comp.landing.isEmpty
        && rget t aBASIN_RECALL_CNT == 1 && rbit t (aISTAT pgBASIN) 0) = true) ∧
    (let s : State := setBasin { runS.basin with epochs := [epochA 1, epochA 2, epochA 3, epochA 4] } (landS (evT opRecall 0 0 0))
     4 ≤ openEpochs s ∧ ok (.recallForme 7) s (fun t => !t.basin.liveB && t.comp.held.length == 1) = true) ∧
    (heldFirst heldS = some (evT opRecall 0 0 0) ∧ waitFirst heldS (heldFirst heldS) = none ∧
      ok (.heldEntryAct 7) heldS (fun t => t.basin.liveB && t.comp.held.isEmpty && rget t aBASIN_RECALL_CNT == 1) = true) ∧
    (heldFirst (heldW 0x1400008 5) = some (evT opWriteParam 2 0x1400008 5) ∧ paramTarget 0x1400008 = true ∧
      ok (.heldEntryAct 7) (heldW 0x1400008 5) (fun t => rdWord t 0x1400008 == 5 && t.comp.held.isEmpty) = true) := by decide +kernel

/-- A Sluice runs on output 5, from route 0 to the route with source 1. -/
def sluiceS (w5 : Word) : State :=
  setBasin { runS.basin with sluices := [⟨5, 0, 0x10000001, false, ⟨0, 1⟩, 64, 900, [], none⟩] }
    (stWord (liveBase runS + oRouter + 40) 0x10000001 (landS (evT opSluice 2 0x04000005 w5)))

theorem wit_routes_gains :
    (routeEq (routeWord runS 5) 0x10000003 = false ∧ 5 < limOut runS ∧
      ok (.sluiceRoute 7) (landS (evT opSluice 2 0x04000005 0x10000003)) (fun t => routeWord t 5 == 0x10000003#32
        && t.basin.sluices.length == 1 && t.comp.landing.isEmpty) = true) ∧
    ok (.sluiceRoute 7) (landS (evT opSluice 2 0x040003FF 0)) (fun t => t.basin.sluices.isEmpty) = true ∧
    ok (.sluiceRoute 7) (sluiceS 0x10000001) (fun t => t.basin.sluices.map (·.tickets) == [[7]]) = true ∧
    ok (.sluiceRoute 7) (sluiceS 0) (fun t => t.basin.sluices.map (fun y => (y.old, y.new)) == [(0x10000001, 0)]) = true ∧
    ok (.sluiceRoute 7) (sluiceS 0x10000003) (fun t => t.basin.sluices.map (·.queued.isSome) == [true]
      && routeWord t 5 == 0x10000003#32) = true ∧
    (zcKey 0x10000002 = some 8 ∧ keyInUse runS 8 = true ∧ findMove runS 8 = none ∧ slotsBusy runS < maxSlots ∧
      ok (.setGainZc 7) (landS (evT opSetGainZc 2 0x10000002 0x05000100)) (fun t => liveWord t 8 == 0x100#32
        && t.basin.moves.length == 1 && t.comp.running.length == 1) = true) ∧
    (let s := setBasin { runS.basin with moves := List.replicate maxSlots (moveT (.ramp 10000)) }
        (landS (evT opSetGainZc 2 0x10000002 0x05000100))
     heldTurn s = false ∧ keyInUse s 8 = true ∧ findMove s 8 = none ∧ slotsBusy s = maxSlots ∧
      ok (.setGainZc 7) s (fun t => t.basin.waits.length == 1 && rget t aBASIN_WAIT_CNT == 1 && decide (t.mem = s.mem)) = true) ∧
    (let s := { landS (evT opSetGainZc 2 0x1007FFFF 0x05000100) with clk := { runS.clk with mult := 2 } }
     zcKey 0x1007FFFF = some 0x1FFFFC ∧ keyInUse s 0x1FFFFC = false ∧
      ok (.setGainZc 7) s (fun t => liveWord t 0x1FFFFC == 0x100#32 && t.basin.moves.isEmpty) = true) := by decide +kernel

theorem wit_shadow_write :
    (Served runS (busAddr 0x1400008) (w0 5) ∧ decide (0x1400000 ≤ busAddr 0x1400008) ≠ runS.basin.liveB ∧
      formeRefuse runS true = none ∧ mirrorFull runS = false ∧ (busAddr 0x1400008 - 0x1000000) % 0x400000 < oRsv ∧
      ok (.shadowFormeWrite ⟨0x1400008, 0, 15#4, 5⟩) runS (fun t => rdWord t 0x1400008 == 5 && t.basin.mirrorQ.isEmpty) = true) ∧
    ok (.shadowFormeWrite ⟨0x1400008, 0, 15#4, 5⟩) runA (fun t => t.basin.mirrorQ == [(0x1400008, 5)]) = true ∧
    (let s := { runS with fab := { runS.fab with flips := [(0x1400008, 3)] } }
     ueAt s 0x1400008 = true ∧ ok (.shadowFormeWrite ⟨0x1400008, 0, 3#4, 5⟩) s (fun t => lastStatus t == 6) = true) ∧
    (oRsv ≤ (busAddr 0x1622000 - 0x1000000) % 0x400000 ∧
      ok (.shadowFormeWrite ⟨0x1622000, 0, 15#4, 5⟩) runS (fun t => lastStatus t == 0 && onlyRegs runS t) = true) ∧
    (let s := setBasin { runA.basin with mirrorQ := List.replicate 256 (0x1400000, 0) } runA
     mirrorFull s = true ∧ same (.shadowFormeWrite ⟨0x1400008, 0, 15#4, 5⟩) s = true) ∧
    refused (.shadowFormeWrite ⟨0x1000008, 0, 15#4, 5⟩) runS 1 pgBASIN 0x1000008 = true ∧
    refused (.shadowFormeWrite ⟨0x1400008, 0, 15#4, 5⟩) (basinS { runS.basin with lock := true }) 2 pgBASIN 0x1400008 = true ∧
    (let s := { runS with twin := { runS.twin with st := .fenced } }
     activeOrSolo s = false ∧ refused (.shadowFormeWrite ⟨0x1000008, 0, 15#4, 5⟩) s 4 pgBASIN 0x1000008 = true) := by decide +kernel

theorem wit_basin_events :
    (let x : ZoneSt := ⟨3, 10 ^ 6, false, 0, 0, true⟩
     framesOfMs runS (bits (zoneWord runS 3 1) 31 16) ≤ x.below ∧
      ok (.zoneGapBegin 3) (basinS { runS.basin with zones := [x] }) (fun t => t.basin.zones == [{ x with inGap := true }]) = true) ∧
    ok (.zcTimeoutRamp 0) (basinS { runS.basin with moves := [moveT (.zeroCross 50)] })
      (fun t => t.basin.moves.map (·.ramp) == [some 950]) = true ∧
    (let w : WaitChg := ⟨some 7, 8, 0x100, none⟩
     waitFirst (basinS { runS.basin with waits := [w] }) none = some w ∧
      ok (.slotWaitStart 8) (basinS { runS.basin with waits := [w] })
      (fun t => t.basin.waits.isEmpty && (findMove t 8).map (·.t) == some (gainOf 0x100)) = true) ∧
    (moveDone (moveT .direct) = some 900 ∧
      ok (.slotRelease 0) (basinS { runS.basin with moves := [moveT .direct] }) (fun t => (findMove t 0).isNone) = true) ∧
    (epochCan (basinS { runS.basin with epochs := [epochT 7] }) (epochT 7) = true ∧
      ok .epochEnd (basinS { runS.basin with epochs := [epochT 7] }) (fun t => t.basin.epochs.isEmpty
        && rbit t (aISTAT pgBASIN) 1) = true) ∧
    ok .shadowUnlock (basinS { runS.basin with lock := true }) (fun t => !t.basin.lock) = true ∧
    ok (.sluiceEnd 5) (basinS { runS.basin with sluices := [⟨5, 0, 1, false, ⟨0, 1⟩, 4, 900, [], none⟩] })
      (fun t => t.basin.sluices.isEmpty) = true ∧
    ok (.sluiceEnd 5) (basinS { runS.basin with sluices := [⟨5, 0, 1, false, ⟨0, 1⟩, 4, 900, [], some ⟨2, 64, none⟩⟩] })
      (fun t => t.basin.sluices.map (·.new) == [2] && routeWord t 5 == 2) = true ∧
    (Accepted runS aBASIN_CRC_CTRL (w0 0x11) ∧
      ok (.formeCrcStart (w0 0x10)) runS (fun t => t.basin.crcRun == some true) = true) ∧
    (basinS { runS.basin with crcRun := some true }).basin.crcRun = some true ∧
    ok (.jetXfadeEnd 2) (basinS { runS.basin with jets := [⟨2, 0, 0, true, ⟨0, 1⟩, 900, 4, false⟩] })
      (fun t => rbit t (aISTAT pgJET) 2 && t.basin.jets.map (·.rep) == [true]) = true := by decide +kernel

/-! ### Witnesses: Presses -/

/-- The device with Press 0 in the given state, enabled and running from its own memory (REMAP = 1). -/
def pressS (x : PressSt) : State :=
  setPress 0 x (rset (aCTRL (pgPRESS 0)) 9 { runS with tb := { runS.tb with frame := 1001 } })

/-- A running Press: IE, SAT and FRAC set, D1 = 3, D2 = 5, D3 = 7, AC1 = 11, P2 = 100, M2 = 4. -/
def pr : PressSt :=
  { PressSt.reset with
    mode := .run, pc := 0x20
    r := { PressRegs.start with
      sr := 0x0080C000#32
      d := #v[0, 3, 5, 7, 0, 0, 0, 0, 0, 0, 0, 0, 0, 0, 0, 0]
      ac := #v[0, 11, 0, 0]
      p := #v[0, 0, 100, 0, 0, 0, 0, 0]
      m := #v[0, 0, 4, 0, 0, 0, 0, 0] } }

/-- This frame's block tick has come, with a legal configuration. -/
def atTickP (x : PressSt) : PressSt :=
  { x with
    tickF := 1001
    cfg := { PCfg.reset with
      ranges := [⟨true, 1, 5⟩, ⟨false, 0, 0⟩, ⟨false, 0, 0⟩, ⟨false, 0, 0⟩]
      iDepth := 64
      oDepth := 64 } }

theorem wit_press_ticks :
    (isTick (pressS pr) = true ∧ takesTick pr = true ∧ remapBit (pressS pr) 0 = true ∧
      ok (.blockTick []) (pressS pr) (fun t => t.press[0].tick && t.press[0].tickF == 1001
        && t.press[0].blk == 1000 / blockN (pressS pr) - 1 && rget t (aPRESS_OVR_CNT 0) == 1 && rbit t (aISTAT (pgPRESS 0)) 2
        && t.press[5].tickF == 1001 && !t.press[5].tick) = true ∧
      same (.blockTick []) (pressS { pr with tickF := 1001 }) = true) ∧
    (let s := rset (aCTRL (pgPRESS 0)) 1 (pressS pr)
     remapBit s 0 = false ∧ coreRuns s = true ∧ cleanMem s) ∧
    (let s := pressS { atTickP PressSt.reset with start := some 998 }
     atTick s s.press[0] = true ∧ pressCfgOk s s.press[0].cfg = true ∧ ownConflict s 0 = none ∧ remapBit s 0 = true ∧
      ok (.pressStart 0) s (fun t => t.press[0].mode == .run && t.press[0].tick && rbit t (aISTAT (pgPRESS 0)) 6) = true ∧
      ok (.pressStart 0) (rset (aCTRL (pgPRESS 0)) 0x89 s) (fun t => t.press[0].mode == .dbg) = true ∧
      (let u := setPress 1 { atTickP PressSt.reset with start := some 998 } s
       ownConflict u 1 = some 5 ∧ ok (.pressStart 1) u (fun t => rget t (aERRCAP (pgPRESS 1)) == 0x80000003#32
         && rget t (aERRADDR (pgPRESS 1)) == 5) = true)) ∧
    (let s := pressS { PressSt.reset with tickF := 1001, start := some 998 }
     pressCfgOk s s.press[0].cfg = false ∧
      ok (.pressStart 0) s (fun t => rget t (aERRCAP (pgPRESS 0)) == 0x80000004#32 && t.press[0].start.isNone) = true) ∧
    ok (.pressStop 0) (pressS { pr with stop := some 1000 }) (fun t => t.press[0].mode == .stopping) = true ∧
    (let s := pressS { pr with mode := .stopping, stop := some 900, tickF := 1001 }
     atTick s s.press[0] = true ∧ ok (.pressHalt 0) s (fun t => t.press[0].mode == .halted && t.press[0].stop.isNone) = true ∧
      ok (.pressHalt 0) (setPress 0 { s.press[(0 : Fin 16)] with srstHeld := true } s) (fun t => t.srst.contains 0x20) = true) ∧
    ok (.pressDmaStarve 0) runS (fun t => rget t (aPRESS_STARVE_CNT 0) == 1) = true := by
  unfold cleanMem; decide +kernel

/-- The CTRL of Press 0 with DBG_HALT, and a DBG_HALTED Press. -/
def dbgS (x : PressSt) : State := rset (aCTRL (pgPRESS 0)) 0x89 (pressS { x with mode := .dbg })

theorem wit_press_debug :
    (Accepted (pressS pr) (aCTRL (pgPRESS 0)) (w0 0x89) ∧ ctrlTaken (pressS pr) 0 0x89 ∧ haltBit (pressS pr) 0 = false ∧
      ok (.dbgHalt 0 (w0 0x89)) (pressS pr) (fun t => t.press[0].mode == .dbg && haltBit t 0) = true ∧
      (let x := { pr with rep := some 3 }
       atBoundary x = false ∧ ok (.dbgHalt 0 (w0 0x89)) (pressS x) (fun t => t.press[0].mode == .run && haltBit t 0) = true) ∧
      haltBit (dbgS pr) 0 = true ∧
      ok (.dbgHalt 0 (w0 9)) (dbgS pr) (fun t => t.press[0].mode == .run && !haltBit t 0) = true) ∧
    (Accepted (dbgS pr) (aCTRL (pgPRESS 0)) ⟨0, 0xF#4, setBits 0x89 8 8 1⟩ ∧ ctrlTaken (dbgS pr) 0 0x89 ∧
      coreRuns (dbgS pr) = true ∧ (dbgStepOne 0 (dbgS pr)).press[0].mode = .dbg ∧
      ok (.dbgStep 0 (w0 0x89)) (dbgS pr) (fun t => t.press[0].mode == .dbg && t.press[0].pc == 0x21) = true) ∧
    (let s := rset (aPRESS_BRK 0) 0x80000020 (pressS pr)
     ok (.brkMatch 0) s (fun t => t.press[0].mode == .dbg) = true) ∧
    (Served runS (busAddr 0x410004) (w0 5) ∧ pressMemAt (busAddr 0x410004) = some 0 ∧
      ok (.pressMemWrite ⟨0x410004, 0, 15#4, 5⟩) runS (fun t => rdWord t 0x410004 == 5 && t.press[0].mirrorQ.isEmpty) = true ∧
      ok (.pressMemWrite ⟨0x410004, 0, 15#4, 5⟩) runA (fun t => t.press[0].mirrorQ == [(0x410004, 5)]) = true ∧
      refused (.pressMemWrite ⟨0x410004, 0, 15#4, 5⟩) (pressS pr) 1 (pgPRESS 0) 0x410004 = true) ∧
    (let s := { runS with fab := { runS.fab with flips := [(0x410004, 3)] } }
     ueAt s 0x410004 = true ∧ ok (.pressMemWrite ⟨0x410004, 0, 3#4, 5⟩) s (fun t => lastStatus t == 6) = true) ∧
    (let s := setPress 0 { PressSt.reset with mirrorQ := List.replicate 256 (0x410000, 0) } runA
     pressMirrorFull s 0 = true ∧ same (.pressMemWrite ⟨0x410004, 0, 15#4, 5⟩) s = true) ∧
    ok (.pressMsg 7) (landS (evT opPressMsg 2 0x00070100 9)) (fun t => t.press[0].msgs == [⟨7, 1000, 7, 1, [9], 0⟩]
      && t.comp.landing.isEmpty) = true := by
  unfold ctrlTaken; decide +kernel

theorem wit_press_entries :
    (acceptPoint (pressS { pr with tick := true }) 0 ∧ u4Of (pressS pr) 0 = false ∧
      ok (.tickEntry 0) (pressS { pr with tick := true }) (fun t => t.press[0].pc == 4 && t.press[0].stack.length == 1
        && t.press[0].r.sr == 0xC000#32 && t.press[0].ih && !t.press[0].tick) = true) ∧
    (let s := rset (aCTRL (pgPRESS 0)) 0x19 (pressS { pr with tick := true })
     u4Of s 0 = true ∧ ok (.tickEntry 0) s (fun t => t.press[0].pc == 4 && t.press[0].r.d[1] == 0
       && t.press[0].shadow.d[1] == 3 && t.press[0].sh) = true) ∧
    (¬ doubleFault (pressS { pr with fault := true }) 0 ∧
      ok (.faultEntry 0) (pressS { pr with fault := true }) (fun t => t.press[0].pc == 8 && !t.press[0].fault) = true ∧
      ok (.faultEntry 0) (rset (aCTRL (pgPRESS 0)) 0x19 (pressS { pr with fault := true })) (fun t => t.press[0].sh) = true) ∧
    (let s := pressS { pr with fault := true, ih := true, stack := [⟨.fault, 0, 0⟩] }
     doubleFault s 0 ∧
      ok (.faultEntry 0) s (fun t => t.press[0].mode == .faulted && rfld t (aPRESS_FAULTINFO 0) 31 28 == 5) = true) ∧
    ok (.faultEntry 0) (pressS { pr with fault := true, stack := List.replicate 8 ⟨.call, 0, 0⟩ })
      (fun t => t.press[0].mode == .faulted && rfld t (aPRESS_FAULTINFO 0) 31 28 == 3) = true ∧
    ok (.tickEntry 0) (pressS { pr with tick := true, stack := List.replicate 8 ⟨.call, 0, 0⟩ })
      (fun t => t.press[0].mode == .faulted && rfld t (aPRESS_FAULTINFO 0) 31 28 == 3) = true := by
  unfold acceptPoint doubleFault
  decide +kernel

/-! ### Witnesses: Press words -/

/-- Operand fields with condition AL and no moves. -/
def wd (f1 f2 f3 : BitVec 4) : ArithArgs := ⟨0, f1, f2, f3, false, 0⟩

/-- What a register of Press 0 reads once the word has retired. -/
def late (t : State) (g : PReg) : BitVec 72 := seenAt t.press[0] 9 g

/-- What accumulator, D register and SR read after the word on `pressS pr`. -/
def acOf (c : Instr) (i : Fin 4) (v : Int) : Bool := ok c (pressS pr) fun t => late t (.ac i) == BitVec.ofInt 72 v
def dOf (c : Instr) (i : Fin 16) (v : Int) : Bool := ok c (pressS pr) fun t => late t (.d i) == (BitVec.ofInt 32 v).setWidth 72
def srOf (c : Instr) (v : Word) : Bool := ok c (pressS pr) fun t => late t .sr == v.setWidth 72

theorem wit_issues : Canonical (pressS pr) ∧ canIssue (pressS pr) 0 = true ∧ pr.rep = none ∧ pr.br = none ∧
    (pressS pr).fab.flips = [] ∧ haltBit (pressS pr) 0 = false ∧ wordRuns (pressS pr) 0 (wd 0 0 0) ∧ noMoves (wd 0 0 0) ∧
    u4Of (pressS pr) 0 = false ∧ roundsTo (prodOf (pressS pr) 0 0 1 2) 0 ∧ roundsTo (aIn (pressS pr) 0 1) 0 ∧
    aIn (pressS pr) 0 1 = 11 ∧ dIn (pressS pr) 0 2 = 5 := by
  unfold wordRuns movesLegal noMoves roundsTo
  decide +kernel

/-- FRAC doubles a product, PS = 1 doubles it again; D1 = 3, D2 = 5, D3 = 7, AC1 = 11. -/
theorem wit_products :
    acOf (.opMpy 0 (wd 1 1 2)) 1 30 = true ∧ acOf (.opMac 0 (wd 5 1 2)) 1 71 = true ∧ acOf (.opMsu 0 (wd 1 1 2)) 1 (-19) = true ∧
    acOf (.opMpy2 0 (wd 0 2 2)) 0 148 = true ∧ acOf (.opMac2 0 (wd 1 2 2)) 1 159 = true ∧
    acOf (.opMsu2 0 (wd 1 2 2)) 1 (-137) = true ∧ acOf (.opDmpy 0 (wd 0 2 2)) 1 98 = true ∧
    acOf (.opDmac 0 (wd 0 2 2)) 1 109 = true ∧ acOf (.opQmac 0 (wd 0 0 0)) 1 159 = true ∧
    acOf (.opCmpy 0 (wd 0 2 2)) 0 (-48) = true ∧ acOf (.opCmpy 0 (wd 8 2 2)) 0 148 = true ∧
    acOf (.opCmac 0 (wd 0 2 2)) 1 151 = true ∧ acOf (.opCmsu 0 (wd 0 2 2)) 1 (-129) = true ∧
    dOf (.opMpyr 0 (wd 9 1 2)) 9 0 = true ∧ srOf (.opMsu 0 (wd 1 1 2)) 0x0080C018#32 = true := by decide +kernel

theorem wit_accumulators :
    acOf (.opAdda 0 (wd 1 1 0)) 1 22 = true ∧ acOf (.opSuba 0 (wd 0 1 0)) 0 (-11) = true ∧ acOf (.opMova 0 (wd 2 1 0)) 2 11 = true ∧
    acOf (.opNega 0 (wd 1 0 0)) 1 (-11) = true ∧ acOf (.opAbsa 0 (wd 1 0 0)) 1 11 = true ∧ acOf (.opClra 0 (wd 1 0 0)) 1 0 = true ∧
    acOf (.opRnd 0 (wd 1 0 0)) 1 0 = true ∧ acOf (.opSata 0 (wd 1 0 0)) 1 11 = true ∧
    acOf (.opAsla 0 (wd 1 0 2)) 1 44 = true ∧ acOf (.opAsla 0 (wd 1 15 15)) 1 5 = true ∧ acOf (.opAslv 0 (wd 1 1 0)) 1 88 = true ∧
    dOf (.opExp 0 (wd 9 1 0)) 9 59 = true ∧ acOf (.opNorm 0 (wd 1 9 0)) 1 (11 * 2 ^ 59) = true ∧
    dOf (.opExpd 0 (wd 9 1 0)) 9 29 = true ∧ srOf (.opAsla 0 (wd 1 15 15)) 0x0080C011#32 = true ∧
    (accCount (BitVec.ofInt 72 11) 59 ∧ dCount 3 29) := by
  unfold accCount dCount
  decide +kernel

theorem wit_data :
    dOf (.opAdd 0 (wd 9 1 2)) 9 8 = true ∧ dOf (.opAdds 0 (wd 9 1 2)) 9 8 = true ∧ dOf (.opSub 0 (wd 9 1 2)) 9 (-2) = true ∧
    dOf (.opSubs 0 (wd 9 1 2)) 9 (-2) = true ∧ dOf (.opAnd 0 (wd 9 1 2)) 9 1 = true ∧ dOf (.opOr 0 (wd 9 1 2)) 9 7 = true ∧
    dOf (.opXor 0 (wd 9 1 2)) 9 6 = true ∧ dOf (.opLsl 0 (wd 9 2 1)) 9 40 = true ∧ dOf (.opAsr 0 (wd 9 3 1)) 9 0 = true ∧
    dOf (.opLsr 0 (wd 9 3 1)) 9 0 = true ∧ dOf (.opMin 0 (wd 9 1 2)) 9 3 = true ∧ dOf (.opMax 0 (wd 9 1 2)) 9 5 = true ∧
    dOf (.opAbs 0 (wd 9 1 0)) 9 3 = true ∧ dOf (.opNeg 0 (wd 9 1 0)) 9 (-3) = true ∧
    srOf (.opCmp 0 (wd 0 1 2)) 0x0080C008#32 = true ∧ srOf (.opLsr 0 (wd 9 3 1)) 0x0080C005#32 = true ∧
    dOf (.opNop 0 (wd 0 0 0)) 9 0 = true := by decide +kernel

/-- The word of Press 0 faults as illegal: cause 1 and its address stand in FAULTINFO, and AC1 is as it was. -/
def illegal (c : Instr) (x : PressSt) : Bool :=
  ok c (pressS x) fun t => t.press[0].fault && rget t (aPRESS_FAULTINFO 0) == 0x10000020#32 && late t (.ac 1) == 11

/-- A loop ends at the address after this word. -/
def loopP : PressSt := { pr with la := #v[true, false], r := { pr.r with le := #v[0x21, 0], ls := #v[0x10, 0], lc := #v[2, 0] } }

theorem wit_suppressed :
    (condHolds 1 (srOp (pressS pr) 0) = false ∧ arithFieldsLegal (.opMpy 0 ⟨1, 1, 1, 2, false, 0⟩) = true ∧
      acOf (.opMpy 0 ⟨1, 1, 1, 2, false, 0⟩) 1 11 = true) ∧
    (arithFieldsLegal (.opMpy2 0 (wd 0 1 2)) = false ∧ illegal (.opMpy2 0 (wd 0 1 2)) pr = true) ∧
    (¬ movesLegal ⟨0, 0, 0, 0, true, 0xFFFFFFFFFF⟩ ∨ ¬ movesLegal ⟨0, 0, 0, 0, false, 0xFFFFFFFFFF⟩) ∧
    (moveIllegal 0 (.moveLoad 0 ⟨false, 6, 2, 0, false, 0⟩) = true ∧ illegal (.moveLoad 0 ⟨false, 6, 2, 0, false, 0⟩) pr = true) ∧
    (illegal (.bra 0 15 0) pr = true ∧ illegal (.rts 0 0) pr = true ∧ illegal (.rti 0) pr = true ∧
      illegal (.loop 0 1 0x22) pr = true ∧ illegal (.movs 0 ⟨false, 7, 0⟩) pr = true ∧
      illegal (.wait 0) { pr with r := { pr.r with sr := 0xC000 } } = true ∧
      illegal (.trap 0) { pr with br := some ⟨2, some 0x77, none⟩ } = true ∧
      (nearEnd (pressS loopP) 0 ∧ illegal (.rep 0 3) loopP = true)) ∧
    (sequenceWord 0 (.rep 0 3) = true ∧ ok (.rep 0 3) (pressS { pr with rep := some 2 }) (fun t => t.press[0].fault
      && t.press[0].rep.isNone && t.press[0].pc == 0x20 && rget t (aPRESS_FAULTINFO 0) == 0x1000001F#32) = true) ∧
    (let s := { pressS pr with fab := { runS.fab with flips := [(pressBase 0 + 8 * 0x20, 3)] } }
     inRom s 0 = false ∧ ueAt s (pressBase 0 + 8 * 0x20) = true ∧
      ok (.opMpy 0 (wd 1 1 2)) s (fun t => t.press[0].mode == .faulted && rget t (aPRESS_FAULTINFO 0) == 0x40000020#32) = true) := by
  unfold nearEnd movesLegal
  decide +kernel

/-- X word 100 of Press 0 holds 9, word 101 holds 8. -/
def memP : State := stWord (xAddr 0 100) 9 (stWord (xAddr 0 101) 8 (pressS pr))

/-- The same with every pointer at `a`. -/
def memA (a : BitVec 20) : State := setPress 0 { pr with r := { pr.r with p := Vector.replicate 8 a } } memP

theorem wit_moves :
    (moveAddr memP 0 3 2 = 100 ∧ memP.fab.flips = [] ∧ Canonical memP ∧ canIssue memP 0 = true) ∧
    ok (.moveLoad 0 ⟨false, 3, 2, 6, false, 0⟩) memP (fun t => late t (.d 6) == 9 && late t (.p 2) == 104) = true ∧
    ok (.moveLoad 0 ⟨false, 0, 2, 6, true, 0⟩) memP (fun t => late t (.d 6) == 9 && late t (.d 7) == 8) = true ∧
    ok (.moveStore 0 ⟨true, 4, 2, 1, false, 0⟩) memP (fun t => rdWord t (yAddr 0 104) == 3 && late t (.p 2) == 100) = true ∧
    ok (.moveStore 0 ⟨true, 0, 2, 2, true, 0⟩) memP (fun t => rdWord t (yAddr 0 100) == 5 && rdWord t (yAddr 0 101) == 7) = true ∧
    ok (.pointerUpdate 0 ⟨false, 2, 2, 0⟩) memP (fun t => late t (.p 2) == 99) = true ∧
    ok (.pointerUpdate 0 ⟨false, 4, 2, 0⟩) memP (fun t => late t (.p 2) == 100 && !t.press[0].fault) = true ∧
    ok (.moveRegister 0 ⟨false, 0x18, 3, 0⟩) memP (fun t => late t (.ac 0) == 7 <<< 32) = true ∧
    ok (.longImmediate 0 ⟨0x20, 0xFFFFFFFF, 0⟩) memP (fun t => late t (.p 0) == 0xFFFFF) = true ∧
    ok (.longAbsolute 0 ⟨false, false, 6, false, 100, 0⟩) memP (fun t => late t (.d 6) == 9) = true ∧
    (isIo false 0xFFF05 ∧ ok (.longAbsolute 0 ⟨false, true, 1, false, 0xFFF05, 0⟩) memP (fun t => t.press[0].msgRd == 3) = true ∧
      ok (.longAbsolute 0 ⟨false, true, 1, false, 0xFFF0A, 0⟩) memP (fun t => rget t (aPRESS_SIGNAL 0) == 3) = true ∧
      ok (.longAbsolute 0 ⟨false, false, 6, false, 0xFFF0B, 0⟩) memP (fun t => late t (.d 6) == 0) = true) ∧
    ok (.moveLoad 0 ⟨false, 0, 3, 6, true, 0⟩) (memA 1)
      (fun t => t.press[0].fault && rget t (aPRESS_FAULTINFO 0) == 0x20000001#32 && late t (.d 6) == 0) = true ∧
    (unpopulated false 40960 ∧ ok (.moveLoad 0 ⟨false, 0, 3, 1, false, 0⟩) (memA 40960) (fun t => t.press[0].fault
      && late t (.d 1) == 0) = true) ∧
    ok (.moveStore 0 ⟨false, 0, 3, 1, false, 0⟩) (memA 40960) (fun t => t.press[0].fault && decide (t.mem = memP.mem)) = true := by
  unfold isIo unpopulated isIo
  decide +kernel

/-- The command, then two NOPs. -/
def slots (c : Instr) (s : State) (f : State → Bool) : Bool :=
  ok c s fun t => ok (.opNop 0 nopWord) t fun u => ok (.opNop 0 nopWord) u f

theorem wit_branches :
    (loopsFar (pressS pr) 0 ∧ takenAt (pressS pr) 0 0 = true ∧ takenAt (pressS pr) 0 1 = false ∧ dCtl (pressS pr) 0 3 = 7) ∧
    slots (.bra 0 0 0x100) (pressS pr) (fun t => t.press[0].pc == 0x100) = true ∧
    slots (.bra 0 1 0x100) (pressS pr) (fun t => t.press[0].pc == 0x23) = true ∧
    slots (.jmpr 0 0 3) (pressS pr) (fun t => t.press[0].pc == 7) = true ∧
    slots (.call 0 0 0x100) (pressS pr) (fun t => t.press[0].pc == 0x100 && t.press[0].stack.map (·.pc) == [0x23]) = true ∧
    slots (.rts 0 0) (pressS { pr with stack := [⟨.call, 0x77, 0⟩] }) (fun t => t.press[0].pc == 0x77) = true ∧
    slots (.rts 0 1) (pressS { pr with stack := [⟨.call, 0x77, 0⟩] }) (fun t => t.press[0].pc == 0x23
      && t.press[0].stack.length == 1) = true ∧
    slots (.rti 0) (pressS { pr with stack := [⟨.tick, 0x77, 0x0080C003#32⟩], ih := true })
      (fun t => t.press[0].pc == 0x77 && t.press[0].r.sr == 0x0080C003#32 && !t.press[0].ih) = true ∧
    slots (.rti 0) (rset (aCTRL (pgPRESS 0)) 0x19 (pressS { pr with stack := [⟨.tick, 0x77, 0xC000#32⟩], ih := true, sh := true }))
      (fun t => t.press[0].r.d[1] == 0 && t.press[0].shadow.d[1] == 3 && !t.press[0].sh) = true ∧
    ok (.call 0 0 0x100) (pressS { pr with stack := List.replicate 8 ⟨.call, 0, 0⟩ }) (fun t => t.press[0].mode == .faulted) = true := by
  unfold loopsFar
  decide +kernel

/-- A loop with this count ends at the word. -/
def endP (n : BitVec 16) : PressSt :=
  { pr with la := #v[true, false], r := { pr.r with le := #v[0x20, 0], ls := #v[0x10, 0], lc := #v[n, 0] } }

theorem wit_loops :
    ok (.rep 0 3) (pressS pr) (fun t => ok (.opNop 0 nopWord) t fun u => u.press[0].cyc == 4 && u.press[0].pc == 0x22) = true ∧
    ok (.repr 0 1) (pressS pr) (fun t => ok (.opNop 0 nopWord) t fun u => u.press[0].cyc == 4) = true ∧
    ok (.rep 0 3) (pressS pr) (fun t => ok (.opMac 0 (wd 1 1 2)) t fun u => late u (.ac 1) == 101) = true ∧
    ok (.loop 0 5 0x30) (pressS pr) (fun t => late t (.lc 0) == 5 && late t (.le 0) == 0x30 && t.press[0].la[0]) = true ∧
    ok (.loopr 0 1 0x30) (pressS pr) (fun t => late t (.lc 0) == 3 && late t (.ls 0) == 0x21) = true ∧
    (¬ nearEnd (pressS pr) 0 ∧ ieSeen (pressS pr) 0 = true ∧
      ok (.wait 0) (pressS pr) (fun t => t.press[0].wait && t.press[0].pc == 0x21 && rget t (aPRESS_LOAD 0) == 1) = true) ∧
    ok (.trap 0) (pressS pr) (fun t => t.press[0].pc == 12 && t.press[0].stack.map (·.pc) == [0x21]) = true ∧
    ok (.trap 0) (rset (aCTRL (pgPRESS 0)) 0x19 (pressS pr)) (fun t => t.press[0].sh && t.press[0].shadow.d[1] == 3) = true ∧
    ok (.trap 0) (pressS { pr with stack := List.replicate 8 ⟨.call, 0, 0⟩ }) (fun t => t.press[0].mode == .faulted) = true ∧
    ok (.movs 0 ⟨false, 0, 9⟩) (pressS pr) (fun t => late t (.d 9) == 0x0080C000) = true ∧
    ok (.movs 0 ⟨false, 1, 9⟩) (pressS (endP 5)) (fun t => late t (.d 9) == 4) = true ∧
    ok (.movs 0 ⟨true, 0, 1⟩) (pressS pr) (fun t => late t .sr == 0) = true ∧
    ok (.movs 0 ⟨true, 5, 1⟩) (pressS pr) (fun t => late t (.le 0) == 3) = true ∧
    ok (.loopEndFetch 0 0) (pressS (endP 2)) (fun t => t.press[0].r.lc[0] == 1
       && ok (.opNop 0 nopWord) t fun u => u.press[0].pc == 0x10) = true ∧
    ok (.loopEndFetch 0 0) (pressS (endP 1)) (fun t => !t.press[0].la[0]
       && ok (.opNop 0 nopWord) t fun u => u.press[0].pc == 0x21) = true := by
  unfold nearEnd
  decide +kernel

/-- Press 0 with P2 = 100 and the given L2, B2. -/
def modS (l b : BitVec 20) : State :=
  pressS { pr with r := { pr.r with l := pr.r.l.set 2 l, b := pr.r.b.set 2 b } }

/-- P2 after a field that adds 1 to it. -/
def advOf (l b : BitVec 20) (v : BitVec 72) : Bool := ok (.pointerUpdate 0 ⟨false, 1, 2, 0⟩) (modS l b) fun t => late t (.p 2) == v

theorem wit_pointer_laws : canIssue (modS 5 96) 0 = true ∧ advOf 0 0 101 = true ∧ advOf 0xFFFFF 96 101 = true ∧ advOf 5 96 96 = true ∧
    advOf 6 96 101 = true ∧ advOf 5 102 106 = true ∧ advOf 5 101 101 = true := by decide +kernel

/-! ### Witnesses: ports -/

/-- A hot standby, which follows the decisions of the active. -/
def runB : State :=
  { runS with twin := { runS.twin with st := .standbyHot, drive := false, paired := true, link := true, lanes := 2, pstate := 3 } }

/-- The device with port group 1 in the given state; likewise a standby. -/
def portS (x : GroupSt) : State := setGrp 1 x runS
def portB (x : GroupSt) : State := setGrp 1 x runB

/-- The same with ASRC mode on. -/
def portC (x : GroupSt) : State := rput (aPORTG_GCFG 1) 31 31 1 (portS x)

/-- A group frame of the right length and rate of `runS`. -/
def gin : GroupIn := ⟨5, framePeriods runS 1, 0, 256 * fs runS, []⟩

/-- A group in RUN from phase 0; one that qualifies. -/
def grun : GroupSt := { GroupSt.reset with st := .run, asg := 1001, ref := 256 * fs runS }
def gqual (n : Nat) : GroupSt := { GroupSt.reset with st := .qualify, qual := n }

theorem wit_groups :
    (usesDec runS = false ∧ usesDec runB = true ∧ 0 < framePeriods runS 1 ∧ rateOk runS 1 gin.rate = true ∧ bclkOk runS 1 = true) ∧
    (noneLands (portS (gqual 3)) 1 ∧
      ok (.groupFrame 1 gin) (portS (gqual 3)) (fun t => (grp t 1).qual == 4 && rget t (aPORTG_RATE_MEAS 1) == w32 gin.rate) = true ∧
      ok (.groupFrame 1 { gin with bits := 7 }) (portS (gqual 3)) (fun t => (grp t 1).qual == 0) = true) ∧
    ok (.groupFrame 1 gin) (portS GroupSt.reset) (fun t => rget t (aPORTG_RATE_MEAS 1) == w32 gin.rate && onlyRegs (advance 5 runS) t) = true ∧
    ok (.groupFrame 1 gin) (portS { GroupSt.reset with st := .mismatch }) (fun t => (grp t 1).st == .qualify) = true ∧
    (steadyFrame (portS grun) 1 gin ∧ ok (.groupFrame 1 gin) (portS grun) (fun t => (grp t 1).asg == 1002
      && (grp t 1).st == .run && (grp t 1).frames == 1) = true) ∧
    (runsQuietly (portC grun) 1 ∧ gcfgMode (gcfg (portC grun) 1) = true ∧ rateOk (portC grun) 1 gin.rate = true ∧
      ok (.groupFrame 1 gin) (portC grun) (fun t => (grp t 1).asg == 1001 && (grp t 1).st == .run) = true) ∧
    (nearRef (portS grun) 1 gin ∧ ticksStopped (portS grun) = false ∧
      ok (.groupFrame 1 { gin with bits := 7 }) (portS grun) (fun t => (grp t 1).st == .run
        && rget t (aPORTG_SLIP_CNT 1) == 1 && rbit t (aISTAT (pgPORTG 1)) 2) = true) ∧
    (let s := portS { grun with glitches := List.replicate 8 0 }
     recentGlitches s 1 = 8 ∧ ok (.groupFrame 1 { gin with bits := 7 }) s (fun t => (grp t 1).st == .qualify
      && (grp t 1).fade == some 1000) = true) ∧
    ok (.groupFrame 1 { gin with rate := 100 * fs runS }) (portS grun) (fun t => (grp t 1).st == .mismatch) = true ∧
    ok (.qualifyPass 1 9) (portS (gqual 64)) (fun t => (grp t 1).st == .run && (grp t 1).phi0 == 9 && (grp t 1).asg == 1001
        && rfld t (aPORTG_ALIGN 1) 9 0 == 9) = true ∧
    same (.qualifyPass 1 9) (portB (gqual 64)) = true ∧
    (let s := rput (aPORTG_GCFG 1) 18 16 4 (rput (aPORTG_GCFG 1) 13 12 2 { portS (gqual 64) with clk := { runS.clk with mult := 1 } })
     bclkOk s 1 = false ∧ ok (.qualifyPass 1 9) s (fun t => (grp t 1).st == .qualify && (grp t 1).qual == 0
      && rget t (aERRCAP (pgPORTG 1)) == 0x80000003#32) = true) ∧
    ok (.bclkStop 1) (portS grun) (fun t => (grp t 1).st == .stopped && rget t (aPORTG_STOP_CNT 1) == 1
      && (grp t 1).fade == some 1000) = true ∧
    ok (.fsLoss 1) (portS { grun with stopping := true }) (fun t => (grp t 1).st == .off) = true ∧
    same (.fsLoss 1) (portB grun) = true ∧
    ok (.clockReturn 1) (portS { GroupSt.reset with st := .stopped }) (fun t => (grp t 1).st == .qualify) = true ∧
    same (.clockReturn 1) (portB { GroupSt.reset with st := .stopped }) = true ∧
    ok (.faultFadeEnd 1) (portS { grun with fade := some 984 }) (fun t => (grp t 1).fade.isNone) = true := by
  unfold steadyFrame runsQuietly noneLands nearRef
  decide +kernel

/-- Slot 3 of output port 2 of group 1, and the group with its sequence in this state. -/
def slotT : PortSlot := ⟨1, true, 2, 3⟩
def seqS (st : SeqSt) (n k : Nat) : State := portS { grun with seqs := [⟨seqKey true 2 3, st, n, k, none⟩] }

theorem wit_sequences :
    (zcFrames runS 1 ≤ 10 ^ 6 ∧
      ok (.portZcTimeout slotT) (seqS .wait 0 (10 ^ 6)) (fun t => (grp t 1).seqs.map (·.st) == [.up]) = true ∧
      ok (.portZcTimeout slotT) (seqS .stopWait 0 (10 ^ 6)) (fun t => (grp t 1).seqs.map (·.st) == [.down]) = true) ∧
    ok (.portRampEnd slotT) (seqS .up 64 0) (fun t => (grp t 1).seqs.map (·.st) == [.run]) = true ∧
    ok (.portRampEnd slotT) (seqS .down 0 0) (fun t => (seqGet (grp t 1).seqs (seqKey true 2 3)).st == .off) = true ∧
    ok (.portRampEnd slotT) (portS { grun with stopping := true, seqs := [⟨seqKey true 2 3, .down, 0, 0, none⟩] })
      (fun t => (grp t 1).st == .off) = true := by decide +kernel

/-- AES3 on, port 2 configured and locked. -/
def aesS : State :=
  setAes 2 { Aes3St.reset with lock := true, qual := 64, txHeld := some (List.replicate 24 7) }
    (rset (aCTRL pgAES3) 1 (rset (aPORTG_PORT 3 2) 0x10000000 runS))

/-- A block whose channel status starts with the byte given. -/
def blockT (b : Byte) : Aes3In :=
  ⟨192, 48000, 0, (Vector.replicate 24 1).set 0 b, Vector.replicate 24 0, Vector.replicate 24 5, Vector.replicate 24 6⟩

theorem wit_port_writes :
    (Accepted runS (aPORTG_INMASK 1 2) (w0 5) ∧ (regAt (aPORTG_INMASK 1 2)).isSome = true ∧ isSolo runS = true ∧
      ok (.slotMaskWrite 1 2 false (w0 5)) (portS grun) (fun t => rget t (aPORTG_INMASK 1 2) == 5 && (grp t 1).chg.length == 1
        && rget t (aPORTG_ACT_INMASK 1 2) == 0) = true) ∧
    (Accepted runS (aPORTG_OUTMASK 1 2) (w0 5) ∧ (regAt (aPORTG_OUTMASK 1 2)).isSome = true ∧
      ok (.slotMaskWrite 1 2 true (w0 5)) runS (fun t => rget t (aPORTG_OUTMASK 1 2) == 5 && onlyRegs runS t) = true) ∧
    (refused (.slotMaskWrite 1 2 false (w0 5)) runA 5 (pgPORTG 1) (aPORTG_INMASK 1 2) = true ∧
      refused (.txcommit 2 (w0 0)) runA 5 pgAES3 (aAES3_PORTCFG 2) = true ∧
      refused (.asrcChannelWrite 9 (w0 0x80000001)) runA 5 pgASRC (aASRC_CH 9) = true) ∧
    (ok (.aes3Lock 4 true) aesS (fun t => t.ports.aes[4].lock) = true ∧ same (.aes3Lock 4 true) (rset (aCTRL pgAES3) 0 aesS) = true) ∧
    (isAes aesS 3 2 = true ∧ ok (.aes3Lock 2 false) aesS (fun t => !t.ports.aes[2].lock && rbit t (aISTAT pgAES3) 3
      && rbit t (aISTAT (pgPORTG 3)) 0) = true) ∧
    ok (.aes3Block 2 (blockT 0)) aesS (fun t => rget t aAES3_BLOCK_CNT == 1 && rfld t (aAES3_RXSTAT 2) 23 0 == 48000
      && rget t (aAES3_RXUB 24) == 0x05050505 && rget t (aAES3_RXCS 24) == 0x01010100) = true ∧
    (crcc ((blockT 1).csA.toList.take 23) ≠ (blockT 1).csA[23] ∧
      ok (.aes3Block 2 (blockT 1)) aesS (fun t => rget t (aAES3_RXCS 24) == 0 && rbit t (aISTAT pgAES3) 1) = true) ∧
    ok (.aes3Block 2 { blockT 1 with frames := 100 }) aesS (fun t => rget t (aPORTG_SLIP_CNT 3) == 1) = true ∧
    ok (.aes3Block 2 { blockT 1 with frames := 400 }) aesS (fun t => rget t (aPORTG_STOP_CNT 3) == 1 && t.ports.aes[2].qual == 0) = true ∧
    (Accepted runS (aAES3_PORTCFG 2) ⟨0, 0xF#4, setBits 0 27 27 1⟩ ∧
      ok (.txcommit 2 (w0 0)) runS (fun t => t.ports.aes[2].txHeld.isSome && rbit t (aAES3_PORTCFG 2) 27) = true) ∧
    (let s := setGrp 3 { grun with frames := 1 } aesS
     ok (.txcommitAct 2) s (fun t => t.ports.aes[2].txAct == List.replicate 24 7 && t.ports.aes[2].txHeld.isNone) = true ∧
      same (.txcommitAct 2) aesS = true) ∧
    (Accepted runS (aASRC_CH 9) (w0 0x80000001) ∧ (regAt (aASRC_CH 9)).isSome = true ∧
      ok (.asrcChannelWrite 9 (w0 0x80000001)) runS (fun t => rget t (aASRC_CH 9) == rget runS (aASRC_CH 9)
        && heldReg t (aASRC_CH 9) == 0x80000001#32) = true) ∧
    (let s := rset (aCTRL pgASRC) 1 runS
     srcTracked s 12 = true ∧ srcTracked runS 2 = false ∧
      ok (.ratioLock 12 77) s (fun t => rget t (aASRC_RATIO 12) == 77 && rbit t aASRC_LOCKSTAT 12 && rbit t (aISTAT pgASRC) 0) = true ∧
      same (.ratioLock 2 77) runS = true) := by
  decide +kernel

/-! ### Witnesses: network -/

/-- Both links up. -/
def netS : State := setNet { runS.net with link := Vector.replicate 2 ⟨true, false, false, false⟩ } runS

/-- The same with a part of the network state replaced, a long time after. -/
def netT (f : NetSt → NetSt) : State := setNet (f netS.net) netS
def lateS (f : NetSt → NetSt) : State := { netT f with now := 10 ^ 18 }

/-- A packet from NET0 to an unknown address, class C; to its own side; to a group. -/
def pktT : NetPkt := ⟨0, 0x2, 0x4, none, 0x800, 100, true, none, [], 0, none⟩

/-- NET0 configured for a link; for a link with a PHY that reports its speed. -/
def upS (mode : Nat) : State :=
  rset aCLKGEN_DOMGATE 0 (rset (aCTRL (pgNET 0)) 1 (rset (aNET_CFG 0) (fld mode 16) runS))

theorem wit_links :
    (linkReady (upS 1) 0 ∧ netMode (upS 1) 0 = 1 ∧ netMode (upS 3) 0 = 3 ∧ ¬ linkReady runS 0 ∧
      ok (.linkUp 0 true) (upS 1) (fun t => t.net.link[(0 : Fin 2)].up && rbit t (aISTAT (pgNET 0)) 1) = true ∧
      ok (.linkUp 0 false) (upS 3) (fun t => t.net.link[(0 : Fin 2)].speedErr && !t.net.link[(0 : Fin 2)].up) = true ∧
      same (.linkUp 0 true) runS = true) ∧
    (rbit netS (aNET_CFG 0) 31 = false ∧
      ok (.linkDown 0 true) (netT fun u =>
        { u with macs := [⟨4, 0, 0⟩, ⟨5, 1, 0⟩], queue := [⟨0, 2, 0, .query 0 ⟨0, 0, none, 0⟩ 0⟩], free := Vector.replicate 2 9 }) (fun t => !t.net.link[(0 : Fin 2)].up
        && t.net.macs == [⟨5, 1, 0⟩] && rget t (aNET_LINKDN_CNT 0) == 1 && rget t (aNET_DROP_CNT 0) == 1 && t.net.queue.isEmpty) = true ∧
      (let s := rset (aNET_CFG 0) 0x80000000 { netS with twin := runA.twin }
       partnerHot s = true ∧ ok (.linkDown 0 true) s (fun t => t.twin.release == some (.fault 7)) = true)) ∧
    (pktClass netS pktT = 2 ∧ ¬ cutThrough netS pktT ∧
      ok (.packetReceive { pktT with fcsOk := false }) netS (fun t => rget t (aNET_DROP_CNT 0) == 1
        && rget t (aNET_FCS_ERR 0) == 1 && t.net.sent.isEmpty) = true) ∧
    (switchTakes netS pktT ∧ idleLine netS 1 ∧
      ok (.packetReceive pktT) netS (fun t => t.net.sent == [.fwd 1 2 100 false none] && t.net.macs == [⟨4, 0, 0⟩]
        && rget t (aNET_TX_PKT 1) == 1) = true ∧
      ok (.packetReceive { pktT with full := 2 }) netS (fun t => t.net.sent.isEmpty && rget t (qdropReg 2) == 1) = true ∧
      ok (.packetReceive pktT) (netT fun u => { u with link := u.link.set 1 ⟨false, false, false, false⟩ })
        (fun t => t.net.sent.isEmpty && rget t (aNET_DROP_CNT 1) == 1) = true ∧
      ok (.packetReceive pktT) (netT fun u => { u with macs := [⟨2, 0, 0⟩] }) (fun t => t.net.sent.isEmpty) = true) ∧
    (let k := { pktT with dmac := 0x01005E010203, group := some 0xEF010203 }
     isMcast k.dmac = true ∧
      ok (.packetReceive k) (netT fun u => { u with igmp := [⟨0xEF010203, 1, 0⟩] }) (fun t => t.net.sent.length == 1) = true ∧
      ok (.packetReceive k) (netT fun u => { u with igmp := [⟨0xEF010203, 0, 0⟩] }) (fun t => t.net.sent.isEmpty) = true) ∧
    same (.packetReceive pktT) runS = true ∧
    ok (.macAgeOut 4) (lateS fun u => { u with macs := [⟨4, 0, 0⟩] }) (fun t => t.net.macs.isEmpty) = true ∧
    ok (.igmpLapse 4) (lateS fun u => { u with igmp := [⟨4, 0, 0⟩] }) (fun t => t.net.igmp.isEmpty) = true ∧
    ok .igmpQuery (rset aSWITCH_IGMPCFG 2 (lateS id)) (fun t => t.net.sent.length == 2 && t.net.queryT == 10 ^ 18) = true ∧
    same .igmpQuery netS = true := by
  unfold linkReady switchTakes cutThrough idleLine
  decide +kernel

/-- A broadcast management packet of node 7, SEQ 5, with the given type and body. -/
def mgmtT (ty : Nat) (body : List Word) : MgmtPkt :=
  ⟨0, BitVec.ofNat 12 (rfld runS aSWITCH_MGMT 11 0), 9, fld 1 28 ||| fld ty 24 ||| fld (rfld runS aSWITCH_NODECFG 23 16) 16 ||| fld 7 4,
    0x80005, fld (4 * body.length) 16, body⟩

/-- An ANNOUNCE that carries this device's own node ID. -/
def dupT : MgmtPkt := { mgmtT 2 [] with h0 := (mgmtT 2 []).h0 &&& 0xFFFF000F#32 ||| fld (nodeId runS) 4 }

/-- The words of the READ_RSP that answers a READ_REQ of these addresses. -/
def readT (l : List Word) (s : State) (b : List Word) : Bool :=
  ok (.readReq (mgmtT 4 l)) s fun t => match t.net.sent with
    | [.mgmt _ _ _ x, .mgmt _ _ _ y] => x == b && y == b
    | _ => false

theorem wit_mgmt :
    (mgmtTaken runS (mgmtT 1 []) ∧ ok (.discover (mgmtT 1 [])) runS (fun t => t.net.answers.map (·.2) == [5]
      && rget t aSWITCH_MGMT_RX == 1) = true) ∧
    (mgmtHeaderOk runS { mgmtT 1 [] with h0 := 0 } = false ∧
      ok (.discover { mgmtT 1 [] with h0 := 0 }) runS (fun t => rget t aSWITCH_MGMT_DROP == 1) = true) ∧
    (mgmtBody { mgmtT 1 [] with h2 := 0x40000 } = none ∧
      ok (.discover { mgmtT 1 [] with h2 := 0x40000 }) runS (fun t => rget t aSWITCH_MGMT_DROP == 1) = true) ∧
    ok .announceSend (netT fun u => { u with answers := [(0, 5)] }) (fun t => t.net.answers.isEmpty && t.net.sent.length == 2) = true ∧
    ok .announceSend netS (fun t => t.net.annT == some 0 && t.net.mgmtSeq == 1 && t.net.sent.length == 2) = true ∧
    (mgmtOurs runS dupT ∧ bits dupT.h0 15 4 = nodeId runS ∧ dupT.smac ≠ macOf runS 0 ∧ dupT.smac ≠ macOf runS 1 ∧
      ok (.announce dupT) runS (fun t => t.net.dup == some 0 && rbit t (aISTAT pgSWITCH) 3) = true) ∧
    ok .nodeDupClear (lateS fun u => { u with dup := some 0 }) (fun t => t.net.dup.isNone) = true ∧
    (mgmtTaken netS (mgmtT 4 [0x10000]) ∧ readT [0x01010000] netS [2, 0] = true ∧ readT [0x46000] netS [3, 0] = true ∧
      (decodes 0x10004 = true ∧ permits netS 3 0x10004 false = true ∧
        ok (.readReq (mgmtT 4 [0x10004])) netS (fun t => t.net.sent.length == 2) = true) ∧
      readT [0x10000] (rput aSWITCH_MGMT 15 12 0 netS) [4, 0] = true) ∧
    (let s := netT fun u => { u with dup := some 0 }
     ok (.readReq (mgmtT 4 [0x10000])) s (fun t => t.net.sent.isEmpty && rget t aSWITCH_MGMT_RX == 1) = true) := by
  unfold mgmtTaken mgmtOurs
  decide +kernel

theorem wit_telemetry :
    ok .telemetrySend (rset aSWITCH_TELCFG 1 (lateS id)) (fun t => t.net.telT == 10 ^ 18 && t.net.mgmtSeq == 1
      && t.net.sent.length == 2) = true := by decide +kernel

/-- Receive flow 2 on path 0: one channel, 16 bit, 12 frames a packet, latency 40 frames. -/
def entryR : List Word := [0xA3016001#32, 0x02800000#32, 0xEF000001#32, 0x13880001#32, 0, 0, 0, 0, 0, 0]

def flowR (x : RxFlow) : State := netT fun u => { u with rxE := [(2, entryR)], rx := [x] }

/-- A packet of that flow with the given timestamp. -/
def audioT (ts : Word) : AudioPkt :=
  ⟨0, 0, 1, 0xEF000001, 0x1388, 0, 2, 0x60, false, 0, ts, 99, true, List.replicate 24 7⟩

/-- The flow has this state after the packet. -/
def flowTo (k : AudioPkt) (x : RxFlow) (st : FlowSt) : Bool := ok (.flowPacket 2 k) (flowR x) fun t => (rxFlow t 2).map (·.st) == some st

def entryX : List Word := [0xA3016001#32, 5, 77, 0xEF000001#32, 0, 0, 0, 0, 0, 0]

/-- A transmit flow on path 0 with 12 frames a packet, `n` of them made. -/
def flowX (n : Nat) : State :=
  netT fun u => { u with txE := [(2, entryX)], tx := [⟨2, 900, 1000, 1000 + n, 0, (List.range 12).map fun i => (1000 + i, [7]), [], []⟩] }

theorem wit_flows :
    (let s := flowR (rxNew 2)
     flowTakes s 2 (audioT 1000) ∧ flowMatches s 2 (rxNew 2) (audioT 1000) ∧ usesDec s = false ∧ eAsrc entryR = false ∧
      (¬ flowLate s entryR (audioT 1000) ∧ ¬ flowEarly s entryR (audioT 1000) ∧ flowTo (audioT 1000) (rxNew 2) .run = true) ∧
      (flowLate s entryR (audioT 100) ∧ ok (.flowPacket 2 (audioT 100)) s (fun t => rget t aSTREAMRX_LATE_CNT == 1) = true) ∧
      (¬ flowLate s entryR (audioT 9000) ∧ flowEarly s entryR (audioT 9000) ∧
        ok (.flowPacket 2 (audioT 9000)) s (fun t => rget t aSTREAMRX_EARLY_CNT == 1) = true)) ∧
    flowTo (audioT 1000) { rxNew 2 with st := .mismatch } .wait = true ∧
    (let s := { flowR (rxNew 2) with twin := runB.twin }
     usesDec s = true ∧ ok (.flowPacket 2 (audioT 1000)) s (fun t => (rxFlow t 2).map (·.copies.length) == some 1) = true) ∧
    (ok (.flowPacket 2 (audioT 1000)) (flowR { rxNew 2 with ssrc := some 5 }) (fun t => rget t aSTREAMRX_FMT_CNT == 1
        && (rxFlow t 2).map (·.other) == some 1) = true ∧
      ok (.flowPacket 2 (audioT 1000)) (flowR { rxNew 2 with ssrc := some 5, other := 7 }) (fun t => rbit t (aISTAT pgSTREAMRX) 5
        && (rxFlow t 2).bind (·.ssrc) == some 99) = true) ∧
    (rxMatches (flowR (rxNew 2)) entryR 0 { audioT 1000 with pt := 1 } = false ∧ ePath entryR 0 = true ∧ ePath entryR 1 = false ∧
      flowTo { audioT 1000 with pt := 1 } { rxNew 2 with fail0 := 7 } .mismatch = true) ∧
    same (.flowPacket 3 (audioT 1000)) (flowR (rxNew 2)) = true ∧
    ok (.flowLoss 2) (flowR { rxNew 2 with st := .run }) (fun t => t.net.rx.map (·.st) == [.lost]) = true ∧
    (framesPer (flowX 12) entryX = some 12 ∧ txAllowed (flowX 12) entryX = true ∧ mediaStill (flowX 12) = false ∧
      flowShed (flowX 12) entryX = false ∧
      ok (.flowSend 2) (flowX 12) (fun t => t.net.tx.map (·.next) == [1012] && rget t aSTREAMTX_TX_PKT == 1
        && (match t.net.sent with
            | [.audio 0 2 _ _ r b] => r.seq == 13 && r.ssrc == 77 && b.length == 24 && r.ts == 1000
            | _ => false)) = true ∧
      same (.flowSend 2) (flowX 11) = true) := by
  unfold flowTakes flowMatches flowLate flowEarly
  decide +kernel

theorem wit_streams :
    (Accepted (flowR (rxNew 2)) aSTREAMRX_SEL (w0 2) ∧
      ok (.streamSel false (w0 2)) (flowR (rxNew 2)) (fun t => winRead t false == entryR) = true) ∧
    (let s := regWords (winAddr false 0) entryR (rset aSTREAMRX_SEL 2 netS)
     Accepted s aSTREAMRX_COMMIT (w0 1) ∧ commitRefuse s false 2 (winRead s false) = none ∧
      ok (.streamCommit false (w0 0)) s (fun t => t.net.commits == [(false, 2, entryR)]) = true) ∧
    (let s := rset aSTREAMRX_SEL 2 netS
     Served s aSTREAMRX_COMMIT (w0 1) ∧ commitRefuse s false 2 (winRead s false) = some 1 ∧
      ok (.streamCommit false (w0 0)) s (fun t => rget t (aERRCAP pgSTREAMRX) == 0x80000001#32) = true) ∧
    (refused (.streamSel true (w0 2)) runA 5 pgSTREAMTX aSTREAMTX_SEL = true ∧
      refused (.streamCommit true (w0 0)) runA 5 pgSTREAMTX aSTREAMTX_COMMIT = true) ∧
    (let s := rset (aSTREAMRX_FCLK_CFG 1) 0x80000000 netS
     ok (.fclkLock 1 true 7) s (fun t => rget t (aASRC_RATIO 13) == 7 && srcLocked t 13
       && ok (.fclkLock 1 false 0) t (fun u => !srcLocked u 13)) = true ∧ same (.fclkLock 1 true 7) netS = true) := by decide +kernel

/-! ### Witnesses: PTP and DPLL -/

/-- CORE runs, the start-up is over. -/
def opS : State := { runS with boot := { runS.boot with step := .s9 }, clk := { runS.clk with coreGated := false } }

/-- A state with the given operation pending and the given operand registers. -/
def cmdS (op : Nat) (l : List (Nat × Word)) : State :=
  setPtp { opS.ptp with cmd := some (op, true) } (l.foldl (fun s x => rset x.1 x.2 s) opS)

theorem wit_time :
    (runS.ptp.cmd = none ∧ Accepted runS aPTP_TIMECMD (w0 0x11) ∧ Accepted runS aPTP_TIMECMD (w0 0x12) ∧
      Accepted runS aPTP_TIMECMD (w0 0x13) ∧
      ok (.timeSet (w0 0x10)) runS (fun t => t.ptp.cmd == some (1, true)) = true ∧
      ok (.timeAdd (w0 0x10)) runS (fun t => t.ptp.cmd == some (2, true)) = true ∧
      ok (.timeSlew (w0 0x10)) runS (fun t => t.ptp.cmd == some (3, true)) = true) ∧
    (refused (.timeSet (w0 0)) (rset aPTP_TIMESET_NS 1000000000 runS) 2 pgPTP aPTP_TIMECMD = true ∧
      refused (.timeSet (w0 0)) (cmdS 1 []) 1 pgPTP aPTP_TIMECMD = true ∧
      refused (.timeAdd (w0 0)) (cmdS 1 []) 1 pgPTP aPTP_TIMECMD = true ∧
      refused (.timeSlew (w0 0)) (cmdS 1 []) 1 pgPTP aPTP_TIMECMD = true) ∧
    ok .timecmdAct (cmdS 1 [(aPTP_TIMESET_NS, 1000000000)]) (fun t => t.ptp.cmd.isNone && t.ptp.t1.t == 0
      && rget t (aERRCAP pgPTP) == 0x80000002#32) = true ∧
    ok .timecmdAct (cmdS 1 [(aPTP_TIMESET_S_LO, 7), (aPTP_TIMESET_NS, 5)]) (fun t => t.ptp.t1.t == 7000000005 * 2 ^ 48
      && t.ptp.t0.t == 0 && rget t aPTP_STEP_CNT == 1 && rbit t (aISTAT pgPTP) 6) = true ∧
    ok .timecmdAct (cmdS 2 [(aPTP_OFFSET_LO, 0xFFFFFFFF), (aPTP_OFFSET_HI, 0xFFFFFFFF)]) (fun t => t.ptp.t1.t == ctrMod - 2 ^ 48
      && rget t aPTP_STEP_CNT == 1) = true ∧
    ok .timecmdAct (cmdS 2 []) (fun t => t.ptp.t1.t == 0 && rget t aPTP_STEP_CNT == 0) = true ∧
    ok .timecmdAct (cmdS 3 [(aPTP_SLEW_NS, 0xFFFFFFFE), (aPTP_SLEW_PPM, 0)]) (fun t => t.ptp.t1.slewing
      && t.ptp.t1.slew == -2 * 2 ^ 48 && t.ptp.t1.ppm == 1) = true ∧
    ok .timecmdAct (cmdS 3 []) (fun t => rbit t (aISTAT pgPTP) 5 && !t.ptp.t1.slewing) = true ∧
    same .timecmdAct { cmdS 1 [] with clk := { opS.clk with coreGated := true } } = true ∧ same .timecmdAct opS = true ∧
    same (.slewDone 1) opS = true ∧
    ok (.slewDone 1) (setCtr true { opS.ptp.t1 with slewing := true } opS) (fun t => !t.ptp.t1.slewing
      && rbit t (aISTAT pgPTP) 5) = true ∧
    (let s := rset (aCTRL pgPTP) 0x20 (setPtp { opS.ptp with run := true, t1 := { opS.ptp.t1 with t := 30000000 * 2 ^ 48 } } opS)
     rbit s (aCTRL pgPTP) 5 = true ∧ ok (.ptpPulse 1 0) s (fun t => t.ptp.pulse1 == 3) = true ∧
      same (.ptpPulse 1 0) (rset (aCTRL pgPTP) 0 s) = true) := by decide +kernel

/-- PTP enabled with rings of 16 slots at 0x380000 and 0x381000. -/
def ptpRingS : State :=
  rset aPTP_RXRING 0x380000 (rset aPTP_TXRING 0x381000 (rset (aCTRL pgPTP) 1 { opS with net := netS.net }))

def ptpT : PtpMsg := ⟨0, 0, [9, 8, 7, 6, 5], false, none, 5, 0⟩

theorem wit_rings :
    (enOf ptpRingS pgPTP = true ∧ ringsOk ptpRingS = true ∧ rxSlots ptpRingS = 16 ∧
      ok (.ptpRx ptpT) ptpRingS (fun t => rfld t aPTP_RX_PROD 15 0 == 1 && rbit t (aISTAT pgPTP) 0
        && (rdByte t 0x380044).toNat == 5 && bits (rdWord t 0x380000) 31 16 == 5) = true) ∧
    same (.ptpRx ptpT) (rset (aCTRL pgPTP) 0 ptpRingS) = true ∧
    ok (.ptpRx ptpT) (rset aPTP_RX_PROD 16 ptpRingS) (fun t => rget t aPTP_RX_DROP == 1 && rget t aPTP_RX_PROD == 16) = true ∧
    (Served ptpRingS aPTP_TX_PROD (w0 16) ∧ txProdRefused ptpRingS 16 = false ∧ txProdRefused ptpRingS 17 = true ∧
      ok (.ptpTxProd (w0 16)) ptpRingS (fun t => rget t aPTP_TX_PROD == 16 && lastStatus t == 0) = true ∧
      refused (.ptpTxProd (w0 17)) ptpRingS 4 pgPTP aPTP_TX_PROD = true) ∧
    same (.ptpSlotSent true) ptpRingS = true ∧
    (let s := wrWord 0x381000 0x00280000 (rset aPTP_TX_PROD 1 ptpRingS)
     ¬ slotBad s (txSlotAt s) (rdWord s (txSlotAt s)) true ∧ slotBad s (txSlotAt s) (rdWord s (txSlotAt s)) false ∧
      ok (.ptpSlotSent false) s (fun t => rget t aPTP_TX_CONS == 1 && rget t aPTP_TX_ERR == 1
        && rdWord t 0x381000 == 0x0028C000#32 && t.net.sent.isEmpty) = true ∧
      ok (.ptpSlotSent true) s (fun t => rget t aPTP_TX_CONS == 1 && rget t aPTP_TX_ERR == 0
        && rdWord t 0x381000 == 0x00288000#32 && (match t.net.sent with
          | [.ptp 0 h none b] => h.etype == 0x88F7 && b == List.replicate 40 0
          | _ => false)) = true) := by
  unfold slotBad
  decide +kernel

/-- Reference 4 enabled, DPLL enabled, at 20 ms. -/
def refS (x : RefSt) : State :=
  setRef 4 x (rset (aCTRL pgDPLL) 1 (rset (aDPLL_REFCFG 4) 0x80010000 { opS with now := 2 * evalPs }))

def liveRef (st : RefState) : RefSt := { RefSt.reset with st := st, edgeT := some (2 * evalPs), firstT := some 0, lastPass := true }

/-- The source of reference 4 present. -/
def srcS (x : RefSt) : State :=
  let s := refS x
  { s with ports := { s.ports with aes := s.ports.aes.map fun a => { a with lock := true } } }

theorem wit_refs :
    (refEn (refS RefSt.reset) 4 = true ∧ (refS RefSt.reset).dpll.refs.length = 8 ∧
      ok (.refEdge 4 ⟨5, 7, 8, 9, false⟩) (refS RefSt.reset) (fun t => (refOf t 4).edgeT == some 5 && (refOf t 4).e == 7
        && (refOf t 4).fXo == 8) = true) ∧
    (let s := setRef 0 { RefSt.reset with edgeT := some 0 } (rset (aDPLL_REFCFG 0) 0x80010000 (refS RefSt.reset))
     refEn s 0 = true ∧ 2 * (5 - 0) * refRate s 0 < 10 ^ 12 ∧ refEn runS 4 = false ∧
      ok (.refEdge 4 ⟨5, 7, 8, 9, false⟩) runS (fun t => decide (t.dpll = runS.dpll)) = true ∧
      ok (.refEdge 0 ⟨5, 7, 8, 9, false⟩) s (fun t => (refOf t 0).short == 1 && (refOf t 0).edgeT == some 0) = true) ∧
    (let s := refS { RefSt.reset with st := .qualified }
     refFailed s 4 = true ∧ ok (.refFail 4) s (fun t => (refOf t 4).st == .failed && rbit t (aISTAT pgDPLL) 5) = true ∧
      selectorOn (setDpll { s.dpll with sel := some 4 } s) ∧
      ok (.refFail 4) (setDpll { s.dpll with sel := some 4 } s) (fun t => t.dpll.sel.isNone && (refOf t 4).st == .failed) = true) ∧
    (let s := { srcS (liveRef .soaking) with now := 10 ^ 14 }
     let s := setRef 4 { refOf s 4 with edgeT := some s.now } s
     refFailed s 4 = false ∧ refPasses s 4 = true ∧ (refOf s 4).soakT + qualSoak s ≤ s.now ∧
      ok (.refSoakDone 4) s (fun t => (refOf t 4).st == .qualified) = true ∧ same (.refSoakDone 5) s = true ∧
      same (.refFail 4) s = true ∧ same (.refDisqualify 4) s = true) ∧
    (let s := { srcS { liveRef .drifting with lastPass := false } with now := 10 ^ 14 }
     let s := setRef 4 { refOf s 4 with edgeT := some s.now } s
     refFailed s 4 = false ∧ refPasses s 4 = false ∧ (refOf s 4).soakT + disqSoak s ≤ s.now ∧
      ok (.refDisqualify 4) s (fun t => (refOf t 4).st == .disqualified) = true) ∧
    (let s := srcS (liveRef .qualified)
     inOperation s ∧ selectorOn s ∧ s.dpll.evalT + evalPs ≤ s.now ∧ eligible s 4 ∧
      ok (.dpllEvaluation s.now) s (fun t => t.dpll.sel == some 4 && t.dpll.st == .acquire && t.dpll.evalT == s.now) = true ∧
      ok (.dpllEvaluation s.now) (rset aDPLL_STEER 300000000 opS |> fun u => { u with now := 2 * evalPs } |> rset (aCTRL pgDPLL) 1)
        (fun t => t.dpll.sel.isNone && t.dpll.st == .freerun && t.dpll.freq == 200000000 && t.dpll.clamp) = true ∧
      ok (.dpllEvaluation s.now) (rput aDPLL_CFG 31 30 2 (rput aDPLL_CFG 26 24 4 s)) (fun t => t.dpll.sel == some 4) = true ∧
      ok (.dpllEvaluation s.now) (rput aDPLL_CFG 31 30 2 (rput aDPLL_CFG 26 24 5 s)) (fun t => t.dpll.sel.isNone) = true ∧
      ok (.dpllEvaluation s.now) (rput aDPLL_CFG 31 30 1 (setDpll { s.dpll with sel := some 4, st := .acquire } s))
        (fun t => t.dpll.sel == some 4) = true ∧
      ok (.dpllEvaluation s.now) { s with twin := runB.twin } (fun t => t.dpll.sel.isNone) = true ∧
      ok (.dpllEvaluation s.now) (rset (aCTRL pgDPLL) 0 s) (fun t => decide (t.dpll.sel = s.dpll.sel)) = true ∧
      same (.dpllEvaluation s.now) (setDpll { s.dpll with evalT := s.now } s) = true) := by
  unfold inOperation selectorOn eligible
  decide +kernel

theorem wit_loop :
    (let s := setDpll { opS.dpll with st := .acquire, inSince := some 0 } { opS with now := 10 ^ 16 }
     inOperation s ∧ 0 + dwellOf s s.dpll.step ≤ s.now ∧
      ok .lockDeclared s (fun t => t.dpll.st == .locked && rbit t (aISTAT pgDPLL) 0) = true) ∧
    (same .lockDeclared opS = true ∧ same .ladderStep opS = true ∧ same .lockLost opS = true ∧ same .pullDone opS = true ∧
      same (.alignEdge 2) opS = true) ∧
    ok .ladderStep (setDpll { opS.dpll with st := .locked, inSince := some 0, step := 2 } { opS with now := 10 ^ 16 })
      (fun t => t.dpll.step == 3) = true ∧
    ok .lockLost (setDpll { opS.dpll with st := .locked, outSince := some 0, step := 2 } { opS with now := 10 ^ 16 })
      (fun t => t.dpll.st == .acquire && t.dpll.step == 0 && rbit t (aISTAT pgDPLL) 1) = true ∧
    (let s := setDpll { opS.dpll with pulling := true, pull := -5 } { opS with now := 10 ^ 16 }
     s.dpll.pull.natAbs * 1000000000 ≤ pslope s * (s.now - s.dpll.pullT) ∧
      ok .pullDone s (fun t => !t.dpll.pulling && t.dpll.pull == 0 && rbit t (aISTAT pgDPLL) 8) = true) ∧
    (Accepted runS aDPLL_STEER (w0 77) ∧ ok (.steerWrite (w0 77)) runS (fun t => rget t aDPLL_STEER == 77
      && decide (t.dpll = runS.dpll)) = true) ∧
    (let s := rset (aCTRL pgPTP) 0x20 runS
     Accepted s aDPLL_ALIGN (w0 0x105) ∧ ok (.dpllAlign (w0 0x105)) s (fun t => t.dpll.aligns ==
       [⟨0, evalPs + s.now, 1, none⟩, ⟨2, evalPs + s.now, 1, none⟩]) = true) ∧
    (Served runS aDPLL_ALIGN (w0 0x105) ∧ alignRefused runS 1 = 1 ∧
      ok (.dpllAlign (w0 0x105)) runS (fun t => lastStatus t == 5 && rget t (aERRCAP pgDPLL) == 0x80000001#32) = true) ∧
    ok (.alignEdge 2) (setDpll { runS.dpll with aligns := [⟨2, 0, 0, some 1000⟩, ⟨3, 0, 0, some 900⟩] } runS)
      (fun t => t.dpll.aligns == [⟨3, 0, 0, some 900⟩] && rbit t (aISTAT pgDPLL) 9) = true := by
  unfold inOperation
  decide +kernel

/-! ### Witnesses: loops and rate changes -/

/-- A rate change from 48 kHz to 96 kHz, or to 44.1 kHz, in the given phase. -/
def chgT (fam : Bool) (m : Nat) (p : RatePhase) : RateChange := ⟨some 7, fam, m, 900, p, 990, 20833333, false, 0, none⟩

def chgS (c : RateChange) : State := setClk { opS.clk with change := some c } opS

theorem wit_plls :
    (let s := setClk { opS.clk with lockS := false } (rset aCLKGEN_PLLCTRL 6 opS)
     inOperation s ∧ loopOn s .s = true ∧ windowGood 4096 ∧ loopLocked s .s = false ∧
      ok (.pllLock .s 4096) s (fun t => t.clk.lockS && rget t (aCLKGEN_LOCKCNT 2) == 4096) = true) ∧
    (let s := setClk { opS.clk with lockA := false } opS
     s.boot.run = true ∧ isSolo s = true ∧ ok (.pllLock .a 4096) s (fun t => rbit t aSYS_RSTCAUSE 6) = true) ∧
    (let s := setClk { opS.clk with lockS := true } (rset aCLKGEN_PLLCTRL 6 opS)
     ¬ windowGood 4093 ∧ loopLocked s .s = true ∧ ok (.pllLock .s 4093) s (fun t => !t.clk.lockS) = true ∧
      ok (.pllLock .s 4098) s (fun t => t.clk.lockS && rget t (aCLKGEN_LOCKCNT 2) == 4098) = true) ∧
    (let s := rset aCLKGEN_PLLCTRL 0 opS
     loopOn s .s = false ∧ same (.pllLock .s 4096) s = true) ∧
    (loopLocked (setClk { opS.clk with lockD := false } opS) .d = false ∧
      same (.pllLossOfLock .d) (setClk { opS.clk with lockD := false } opS) = true) ∧
    ok (.pllLossOfLock .a) (setTwinSt { opS.twin with paired := true } (setClk { opS.clk with lockA := true } opS))
      (fun t => t.clk.coreGated && t.twin.st == .faulted && !t.ptp.run && rbit t aINTC_ALMSRC 1) = true ∧
    ok (.pllLossOfLock .d) (setCist { opS.cistern with st := .normal } (setClk { opS.clk with lockD := true } opS))
      (fun t => t.cistern.st == .lost && rbit t aINTC_ALMSRC 3) = true ∧
    ok (.pllLossOfLock .m) (setTwinSt { opS.twin with st := .standbyHot } (setClk { opS.clk with lockM := true } opS))
      (fun t => t.twin.st == .faulted && t.twin.fcause == 5 && !t.tb.ticking && rget t aPLLM_LOL_CNT == 1) = true ∧
    ok (.pllLossOfLock .s) (setClk { netS.clk with lockS := true } netS) (fun t => !t.net.link[(0 : Fin 2)].up
      && !t.net.link[(1 : Fin 2)].up) = true := by
  unfold inOperation windowGood
  decide +kernel

theorem wit_search :
    (Accepted runS aPLLM_CALCMD (w0 0x101) ∧ ok (.bandSearch (w0 0x100)) runS (fun t => t.clk.search == some true) = true) ∧
    (let s := setClk { opS.clk with search := some true } opS
     Served s aPLLM_CALCMD (w0 1) ∧ calRefused s = true ∧ slotFree s = some 0 ∧ s.clk.bootSearch = [] ∧
      refused (.bandSearch (w0 0)) s 4 pgPLLM aPLLM_CALCMD = true ∧ same (.searchDone 9 300 true) opS = true ∧
      ok (.searchDone 9 300 true) (setClk { s.clk with bootSearch := [false] } s) (fun t => t.clk.search == some false) = true ∧
      (let u := setClk { s.clk with change := some (chgT (!opS.clk.fam) 0 .search) } s
       ok (.searchDone 9 300 true) u (fun t => t.clk.change.map (·.phase) == some .ramp) = true ∧
        ok (.searchDone 9 300 false) u (fun t => t.clk.search == some (!opS.clk.fam)) = true) ∧
      ok (.searchDone 9 300 true) s (fun t => t.clk.search.isNone && bits (slotWord t 0) 27 23 == 9
        && bits (slotWord t 0) 22 14 == 300 && bit (slotWord t 0) 28) = true ∧
      ok (.searchDone 9 300 false) s (fun t => t.clk.search.isNone && slotWord t 0 == slotWord s 0) = true) ∧
    (Accepted runS aPLLM_PSTEP (w0 0xFFFE) ∧ ok (.pstep (w0 0xFFFE)) runS (fun t => t.clk.psteps == -2) = true) ∧
    (let s := setDpll { runS.dpll with st := .locked } runS
     Served s aPLLM_PSTEP (w0 1) ∧ pstepRefused s = true ∧
      refused (.pstep (w0 1)) s 3 pgPLLM aPLLM_PSTEP = true) ∧
    same .pstepDone runS = true ∧
    ok .pstepDone (setClk { runS.clk with psteps := -2 } runS) (fun t => rget t aPLLM_PSTEP_SUM == 0xFFFFFFFE#32
      && t.clk.psteps == 0) = true ∧
    (Accepted runS aCLKGEN_DOMGATE (w0 0xF30) ∧
      ok (.domainGate false (w0 0xF30)) runS (fun t => !rbit t aCLKGEN_DOMGATE 6 && rbit t aCLKGEN_DOMGATE 8) = true) ∧
    (let s := setTwinSt { runS.twin with st := .active } (rset aCLKGEN_DOMGATE 0 runS)
     Served s aCLKGEN_DOMGATE (w0 0x40) ∧ heldReg s aCLKGEN_DOMGATE = rget s aCLKGEN_DOMGATE ∧ domainFree s 6 = false ∧
      refused (.domainGate false (w0 0x40)) s 2 pgCLKGEN aCLKGEN_DOMGATE = true) := by decide +kernel

theorem wit_rate :
    (let e := evT opWriteParam 2 (BitVec.ofNat 32 aPLLM_RATE) 0x11
     actsNext (landS e) e [] ∧ pairsOf e.payload = [(aPLLM_RATE, 0x11)] ∧ rateOf 0x11 = some (true, 1) ∧ (landS e).clk.lockM = true ∧
      (landS e).clk.change = none ∧ (landS e).clk.mult ≠ 1 ∧
      ok (.mediaRateChange 7) (landS e) (fun t => t.clk.change == some ⟨some 7, true, 1, 1000, .fadeOut, 0, period (landS e), false, 0, none⟩
        && t.comp.running.map (·.ticket) == [7]) = true ∧
      ok (.mediaRateChange 7) { landS e with clk := { (landS e).clk with fam := true, mult := 1 } } (fun t => t.clk.change.isNone) = true ∧
      ok (.mediaRateChange 7) { landS e with clk := { (landS e).clk with lockM := false } } (fun t => t.clk.fam && t.clk.mult == 1) = true ∧
      ok (.mediaRateChange 7) { landS e with clk := { (landS e).clk with change := some (chgT true 1 .ramp) } }
        (fun t => t.clk.heldRates.map (·.1) == [some 7]) = true) ∧
    (let s := chgS (chgT (!opS.clk.fam) 0 .fadeOut)
     holdFrame s (chgT (!opS.clk.fam) 0 .fadeOut) ≤ s.tb.frame + 1 ∧ slotFor s (!opS.clk.fam) = none ∧
      ok .rateHold s (fun t => !t.tb.ticking && ticksHeld t && t.clk.search == some (!opS.clk.fam)) = true) ∧
    ok .rateHold (chgS (chgT opS.clk.fam 1 .fadeOut)) (fun t => t.clk.mult == 1 && ticksHeld t) = true ∧
    (let s := rset (aPLLM_CALSLOT 2) (fld 1 31 ||| fld (if opS.clk.fam then 0 else 1) 28 ||| fld 9 23) (chgS (chgT (!opS.clk.fam) 0 .fadeOut))
     (slotFor s (!opS.clk.fam)).isSome = true ∧
      ok .rateHold s (fun t => t.clk.change.map (·.phase) == some .ramp && rampLeft t == rampPpm opS.clk.fam (!opS.clk.fam)) = true) ∧
    ok .rampHandover (chgS (chgT (!opS.clk.fam) 0 .ramp)) (fun t => t.clk.change.map (·.handed) == some true) = true ∧
    ok .rampEnd (chgS (chgT (!opS.clk.fam) 0 .ramp)) (fun t => t.clk.fam == !opS.clk.fam && rampLeft t == 0
      && rbit t (aISTAT pgPLLM) 3) = true ∧
    (same .rateHold opS = true ∧ same .rampHandover opS = true ∧ same .rampEnd opS = true ∧ same .rateResume opS = true ∧
      same .rateDone opS = true) ∧
    (let s := rset (aCTRL pgPLLM) 1 (chgS (chgT true 0 .relock))
     s.clk.lockM = true ∧ enOf s pgPLLM = true ∧
      ok (.pllLock .m 4096) s (fun t => t.clk.change.map (·.phase) == some .resume) = true) ∧
    ok .rateResume (chgS (chgT true 0 .resume)) (fun t => t.clk.fadeInAt == some 990 && !ticksHeld t) = true ∧
    (let s := { chgS (chgT true 0 .fadeIn) with tb := { opS.tb with frame := 1053 } }
     s.clk.heldRates = [] ∧ ok .rateDone s (fun t => t.clk.change.isNone && rbit t (aISTAT pgPLLM) 4) = true ∧
      ok .rateDone (setClk { s.clk with heldRates := [(some 8, 0x11)] } s) (fun t => t.clk.change.map (·.ticket) == some (some 8)) = true) ∧
    (let s := { setTwinSt { opS.twin with st := .active, drive := true } (chgS (chgT true 0 .ramp)) with
        arb := { opS.arb with filt := true } }
     ticksHeld s = true ∧ isActive s = true ∧ grantSeen s = true ∧ s.twin.release = none ∧
      ok (.rateHoldRenewal 0) s (fun t => t.twin.lease == some (s.now + leaseLen s) && t.arb.hb) = true ∧
      ok (.rateHoldRenewal 0) { s with arb := { s.arb with filt := false, hbRun := true } } (fun t => !t.arb.hbRun) = true ∧
      ok (.rateHoldRenewal 0) { s with twin := runB.twin } (fun t => decide (t.twin = runB.twin)) = true ∧
      same (.rateHoldRenewal 0) opS = true) := by
  unfold actsNext
  decide +kernel

/-! ### Witnesses: the pair -/

/-- A paired device in operation, in the given state. -/
def twS (st : TwinState) : State :=
  setClk { opS.clk with lockA := true, lockD := true, lockM := true, lockS := true }
    (setTwinSt { opS.twin with st := st, paired := true, link := true, negDone := true, pstate := 1, drive := false } opS)

/-- The same, as an ACTIVE that drives under a lease with a hot partner. -/
def actS : State :=
  let s := twS .active
  setTwinSt { s.twin with drive := true, lease := some s.now, pstate := 2 } s

theorem wit_quoin :
    (arbPasses (twS .standbyHot) true (10 ^ 9) = true ∧ arbPasses (twS .standbyHot) true 0 = false ∧ takesGrant (twS .standbyHot) ∧
      ok (.arbGrantRise ⟨0, 0⟩) (twS .standbyHot) (fun t => t.arb.pin && !t.arb.filt && t.twin.st == .standbyHot) = true) ∧
    (quietGrant (twS .standbyHot) ∧ (twS .standbyHot).boot.preload = [] ∧ (twS .standbyHot).twin.paired = true ∧
      ok (.arbGrantRise ⟨0, 10 ^ 9⟩) (twS .standbyHot) (fun t => t.twin.st == .active && t.twin.drive && t.twin.lease.isSome
        && rget t aTWIN_FAILOVER_CNT == 1) = true ∧
      ok (.arbGrantRise ⟨0, 10 ^ 9⟩) (setTwinSt { (twS .standbyHot).twin with pDeadline := 10 ^ 20 } (twS .standbyHot))
        (fun t => t.twin.grantWait == some (10 ^ 20) && !t.twin.drive) = true) ∧
    (let s := setTwinSt { (twS .fenced).twin with pstate := 0xF } (twS .fenced)
     candidate s = true ∧ ok (.arbGrantRise ⟨0, 10 ^ 9⟩) s (fun t => t.twin.st == .active && rget t aTWIN_FAILOVER_CNT == 0) = true) ∧
    (candidate (twS .syncing) = false ∧ ok (.arbGrantRise ⟨0, 10 ^ 9⟩) (twS .syncing) (fun t => t.twin.st == .syncing && t.arb.filt) = true) ∧
    (let s := { twS .standbyHot with arb := { opS.arb with trans := List.replicate 9 0 } }
     let s := rput aARB_CHATTER_CFG 31 16 3 s
     ¬ quietGrant s ∧ ok (.arbGrantRise ⟨0, 10 ^ 9⟩) s (fun t => t.arb.chatter && t.twin.st == .standbyHot) = true ∧
      ok (.arbGrantRise ⟨0, 10 ^ 9⟩) { s with twin := actS.twin } (fun t => t.twin.st == .fenced && !t.twin.drive) = true) ∧
    (same (.grantWaitEnd 0) actS = true ∧ same .arbChatterQuiet actS = true ∧ same .arbStuck actS = true ∧
      same (.leaseExpire 0) (twS .syncing) = true) ∧
    ok (.grantWaitEnd 0) (setTwinSt { (twS .active).twin with grantWait := some 0 } (twS .active)) (fun t => t.twin.drive) = true ∧
    ok (.arbGrantFall ⟨0, 10 ^ 9⟩) { actS with arb := { opS.arb with filt := true, stuck := true } } (fun t => !t.arb.stuck
      && rbit t (aISTAT pgARB) 2 && t.twin.st == .fenced && !t.twin.drive && t.twin.lease.isNone) = true ∧
    ok .arbChatterQuiet { twS .syncing with arb := { opS.arb with chatter := true }, now := 10 ^ 18 } (fun t => !t.arb.chatter) = true ∧
    (let s := { twS .syncing with arb := { opS.arb with filt := true }, now := 10 ^ 18 }
     s.arb.trans.headD 0 + zeroIs1 (rfld s aARB_STUCK_CFG 15 0) * msPs ≤ s.now ∧ ok .arbStuck s (fun t => t.arb.stuck) = true) ∧
    ok (.leaseExpire 0) actS (fun t => t.twin.st == .faulted && !t.twin.drive && rget t aARB_EXPIRE_CNT == 1) = true ∧
    ok (.leaseExpire 0) (setTwinSt { actS.twin with release := some .handover } actS) (fun t => t.twin.st == .fenced) = true ∧
    ok (.leaseExpire 0) (setTwinSt { actS.twin with release := some (.fault 7) } actS) (fun t => t.twin.fcause == 7) = true := by
  unfold quietGrant takesGrant
  decide +kernel

theorem wit_commands :
    (Accepted actS aTWIN_CMD (w0 2) ∧ actS.twin.release = none ∧
      ok (.handover (w0 0)) actS (fun t => t.twin.release == some .handover) = true) ∧
    (Served (twS .fenced) aTWIN_CMD (w0 2) ∧ handoverRefused (twS .fenced) = true ∧
      refused (.handover (w0 0)) (twS .fenced) 1 pgTWIN aTWIN_CMD = true) ∧
    (Served actS aTWIN_CMD (w0 1) ∧ rejoinRefused actS = true ∧
      refused (.rejoin (w0 0)) actS 1 pgTWIN aTWIN_CMD = true) ∧
    (Accepted actS aTWIN_CMD (w0 3) ∧ ok (.fence (w0 0)) actS (fun t => t.twin.sent.head?.map (·.body) == some .fence
      && t.twin.st == .active) = true) ∧
    (Accepted (twS .faulted) aTWIN_CMD (w0 3) ∧ ok (.fence (w0 0)) (twS .faulted) (fun t => t.twin.st == .faulted) = true ∧
      fencesItself (twS .standbyWarm) ∧ ¬ fencesItself (twS .faulted) ∧
      ok (.fence (w0 0)) (twS .standbyWarm) (fun t => t.twin.st == .fenced) = true) ∧
    (Accepted (twS .faulted) aTWIN_CMD (w0 1) ∧ ok (.rejoin (w0 0)) (twS .faulted) (fun t => t.twin.st == .syncing
      && t.twin.phase == 1) = true) ∧
    (joinOk (twS .fenced) = true ∧ ok .autoJoin (rset aTWIN_CFG 0x40000000 (twS .fenced)) (fun t => t.twin.st == .syncing) = true) ∧
    ok .negTimeout (setTwinSt { (twS .fenced).twin with link := false, negDone := false } (twS .fenced)) (fun t => t.twin.negDone)
      = true ∧
    same .negTimeout (twS .fenced) = true ∧ same .autoJoin (twS .faulted) = true := by
  unfold fencesItself
  decide +kernel

/-- A joiner in the given phase. -/
def synS (p : Nat) (owed : List Nat) (moves : Nat) : State :=
  setTwinSt { (twS .syncing).twin with phase := p, fwdOwed := owed, moves := moves, cut := 992 } (twS .syncing)

/-- A warm standby with 64 equal CRCs. -/
def warmT (run : Nat) : State := setTwinSt { (twS .standbyWarm).twin with crcRun := run, warmT := some 0 } { twS .standbyWarm with now := 10 ^ 18 }

/-- Of two different CRCs that the partner sends for a region, one differs from the own. -/
def apartS : State := setTwinSt { (synS 1 [] 0).twin with pRegions := [(0, 0), (0, 1)] } (synS 1 [] 0)

theorem wit_regions_differ : apartS.twin.phase = 1 ∧ ∃ x ∈ apartS.twin.pRegions, regionCrc apartS x.1 ≠ x.2 := by
  refine ⟨rfl, ?_⟩
  by_cases h : regionCrc apartS 0 = 0
  · exact ⟨(0, 1), by simp [apartS], by rw [h]; decide⟩
  · exact ⟨(0, 0), by simp [apartS], h⟩

theorem wit_rejoin :
    ok .syncPhaseEnd (synS 1 [] 0) (fun t => t.twin.phase == 2) = true ∧
    same .syncPhaseEnd (setClk { opS.clk with change := some (chgT true 0 .ramp) } (synS 1 [] 0)) = true ∧
    ok .syncPhaseEnd (synS 2 [] 0) (fun t => t.twin.phase == 3 && t.twin.cut % blockN t == 0 && decide (1000 + blockN t < t.twin.cut
      ∧ t.twin.cut ≤ 1000 + 2 * blockN t)) = true ∧
    (let s := setTwinSt { actS.twin with pstate := 4, joinPh := 1 } actS
     isActive s = true ∧ s.clk.change = none ∧ ok .syncPhaseEnd s (fun t => t.twin.joinPh == 2) = true ∧
      ok .syncPhaseEnd (setTwinSt { s.twin with joinPh := 2 } s) (fun t => t.twin.joinPh == 3 && t.twin.sent.length == 17) = true) ∧
    same .cutover (synS 2 [] 0) = true ∧ same (.fwdQueueOverflow 9) (twS .fenced) = true ∧
    ok (.fwdQueueOverflow 9) (setTwinSt { actS.twin with pstate := 4 } actS) (fun t => rget t aTWIN_RESTART_CNT == 1) = true ∧
    same (.standbyHotPromote true) actS = true ∧ same .warmTimeout actS = true ∧
    ok .cutover (synS 3 [] 0) (fun t => t.twin.st == .standbyWarm && rbit t (aISTAT pgTWIN) 3) = true ∧
    ok .cutover (synS 3 [5] 0) (fun t => t.twin.moves == 1 && t.twin.cut == 992 + blockN t) = true ∧
    ok .cutover (synS 3 [5] 4) (fun t => t.twin.st == .faulted && t.twin.fcause == 8) = true ∧
    ok (.fwdQueueOverflow 9) (synS 2 [] 0) (fun t => t.twin.resent == [(9, 1)]) = true ∧
    ok (.fwdQueueOverflow 9) (setTwinSt { (synS 2 [] 0).twin with resent := [(9, 4)] } (synS 2 [] 0)) (fun t => t.twin.fcause == 8)
      = true ∧
    (warmUntil (warmT 64) ≤ 1000 ∧ ok (.standbyHotPromote true) (warmT 64) (fun t => t.twin.st == .standbyHot) = true ∧
      ok (.standbyHotPromote false) (warmT 64) (fun t => t.twin.st == .standbyWarm) = true) ∧
    ok .warmTimeout (warmT 63) (fun t => t.twin.st == .faulted && t.twin.fcause == 2) = true := by decide +kernel

def okH : CellHdr := ⟨5, 0, true⟩
def badH : CellHdr := ⟨5, 0, false⟩

/-- The active's samples of a frame: PTP 123, position -4, counter 9, a pending correction of 5. -/
def decT (f : Nat) : DecBody := ⟨f, 123, -4, -4, -4, 9, 0, 5, 0, [], [], [], 0, [], [], 0, 0, 0, 0⟩

theorem wit_link :
    (let s := setTwinSt { (twS .fenced).twin with link := false } (rset aCLKGEN_DOMGATE 0 (twS .fenced))
     s.clk.lockS = true ∧ ok (.traliatLinkUp 3) s (fun t => t.twin.link && t.twin.lanes == 3 && t.twin.sent.length == 2) = true) ∧
    ok .traliatLinkDown (setTwinSt { (twS .standbyHot).twin with lanes := 3 } (twS .standbyHot))
      (fun t => !t.twin.link && t.twin.pstate == 0xF && t.twin.lossHold.isSome && t.twin.lanes == 0) = true ∧
    ok .traliatLinkDown (twS .standbyWarm) (fun t => t.twin.st == .fenced) = true ∧
    (same .traliatLinkDown (synS 1 [] 0 |> fun s => setTwinSt { s.twin with link := false } s) = true ∧
      same (.traliatLinkUp 0) (twS .fenced) = true ∧ same (.traliatLaneChange 0) actS = true) ∧
    ok (.traliatLaneChange 1) (twS .standbyWarm) (fun t => t.twin.lanes == 1 && rbit t (aISTAT pgTWIN) 7) = true ∧
    (inOperation (twS .syncing) ∧ ok (.fwdCell ⟨badH, .sys []⟩) (twS .syncing) (fun t => t.twin.fwdOwed == [5]
      && t.twin.sent.head?.map (·.body) == some (.nak 6 5) && rget t aTWIN_CELL_ERR_CNT == 1) = true) ∧
    same (.ctrlCell ⟨okH, .hello⟩) (setTwinSt { (twS .faulted).twin with link := false } (twS .faulted)) = true ∧
    ok (.healthCell ⟨okH, 0, 5, 77, 0, 999, 8, none⟩) (setTwinSt { actS.twin with pstate := 2 } actS) (fun t => t.twin.pstate == 5
      && t.twin.pDeadline == 77 && t.twin.pCrc.head? == some (999, 8) && rbit t aINTC_ALMSRC 8) = true ∧
    (followsTwin (twS .standbyHot) = true ∧ (twS .standbyHot).tb.selWait = false ∧
      ok (.decCell ⟨okH, 0, decT 1000⟩) (twS .standbyHot) (fun t => t.tb.ptpNow == 123
        && t.tb.posNow == -4 && t.tb.cntNow == 9 && t.tb.pend == 5) = true ∧
      ok (.decCell ⟨okH, 0, decT 999⟩) (twS .standbyHot) (fun t => decide (t.tb = (twS .standbyHot).tb)) = true ∧
      same (.decCell ⟨okH, 0, decT 1000⟩) actS = true) ∧
    ok (.mirrorCell ⟨okH, 0, 999, [(3, 0xFFFFFFFE)]⟩) (twS .standbyHot) (fun t => t.twin.mirrorIn == [(3, -2)]
      && t.twin.mirrorCh == [3]) = true ∧
    same (.mirrorCell ⟨okH, 0, 998, [(3, 0xFFFFFFFE)]⟩) (twS .standbyHot) = true ∧
    ok (.galleyCell ⟨okH, .slot 44 (evT opMark 0 0 0).e [] 1010 none false false⟩) (twS .standbyHot)
      (fun t => rget t aGALLEY_TICKET_LAST == 44 && t.comp.queue.map (·.ticket) == [44]
        && t.twin.sent.head?.map (·.body) == some (.ack 44)) = true ∧
    ok (.galleyCell ⟨okH, .clientRst 1⟩) (twS .standbyHot) (fun t => t.galley.clients.length == 16) = true ∧
    (galInOrder (twS .standbyHot) 5 ∧
      ok (.galleyCell ⟨okH, .clientRst 1⟩) (setTwinSt { (twS .standbyHot).twin with galOwed := [4] } (twS .standbyHot))
        (fun t => t.twin.galHeld == [(5, .clientRst 1)]) = true ∧
      same (.galleyCell ⟨okH, .clientRst 1⟩) actS = true) := by
  unfold inOperation galInOrder
  decide +kernel

theorem wit_cells :
    (writeCellOk (.sys [(0x1000008, 7)]) = true ∧ ok (.writeCell ⟨okH, .sys [(0x1000008, 7)]⟩) (twS .standbyHot)
      (fun t => rdWord t 0x1000008 == 7) = true) ∧
    (writeCellOk (.sys [(0x300000, 7)]) = false ∧ ok (.writeCell ⟨okH, .sys [(0x300000, 7)]⟩) (twS .standbyHot)
      (fun t => rdWord t 0x300000 == 0) = true) ∧
    (isPageAddr 0x300000 = false ∧ ok (.fwdCell ⟨okH, .sys [(0x300000, 7)]⟩) (synS 2 [5] 0)
      (fun t => rdWord t 0x300000 == 7 && t.twin.fwdOwed.isEmpty) = true) ∧
    ( same (.writeCell ⟨okH, .sys [(0x1000008, 7)]⟩) actS = true ∧ same (.fwdCell ⟨okH, .sys []⟩) actS = true ∧
      same (.bulkCell ⟨okH, .sys []⟩) actS = true ∧ same (.bulkCell ⟨okH, .sys [(0x300000, 7)]⟩) (twS .standbyWarm) = true) ∧
    (isPageAddr (aSYS_SCRATCH 0) = true ∧ copyActs (pageOf (aSYS_SCRATCH 0)) = false ∧
      ok (.bulkCell ⟨okH, .sys [(aSYS_SCRATCH 0, 7)]⟩) (synS 2 [] 0) (fun t => rget t (aSYS_SCRATCH 0) == 7) = true) ∧
    ok (.fwdCell ⟨okH, .press 3 pr.r 0x20 []⟩) (synS 3 [5] 0) (fun t => t.press[3].pc == 0x20 && t.press[3].mode == .run) = true ∧
    ok (.bulkCell ⟨okH, .sys [(0x300000, 7)]⟩) (synS 1 [] 0) (fun t => rdWord t 0x300000 == 7 && t.twin.diffs == [0x300]) = true ∧
    ok (.ctrlCell ⟨okH, .fence⟩) (twS .standbyHot) (fun t => t.twin.st == .fenced) = true ∧
    ok (.ctrlCell ⟨okH, .rejoin⟩) actS (fun t => t.twin.pstate == 4) = true ∧
    (same (.ctrlCell ⟨okH, .fence⟩) actS = true ∧ same (.ctrlCell ⟨okH, .cut 7⟩) actS = true ∧
      ok (.ctrlCell ⟨okH, .hello⟩) actS (fun t => t.twin.hello) = true ∧
      ok (.ctrlCell ⟨okH, .regions [(7, 1)]⟩) (synS 1 [] 0) (fun t => t.twin.pRegions == [(7, 1)]) = true ∧
      ok (.ctrlCell ⟨okH, .cut 2000⟩) (synS 3 [] 0) (fun t => t.twin.cut == 2000 && rget t aTWIN_CUT_LO == 2000) = true ∧
      ok (.ctrlCell ⟨okH, .regions []⟩) (setTwinSt { actS.twin with pstate := 4 } actS) (fun t => t.twin.sent.length == 2) = true) ∧
    (let s := rset aSENSE_CFG 0x100 (rset (aCTRL pgSENSE) 1 (twS .standbyHot))
     (ownSense s 0 = false ∨ ownSense s 1 = false) ∧
      (ok (.ctrlCell ⟨okH, .senseEvent 0 0⟩) s (fun t => rfld t aSENSE_EVT_PROD 15 0 == 1) = true ∨
        ok (.ctrlCell ⟨okH, .senseEvent 0x100 0⟩) s (fun t => rfld t aSENSE_EVT_PROD 15 0 == 1) = true) ∧
      same (.ctrlCell ⟨okH, .senseEvent 0xF00 0⟩) s = true) ∧
    (let s := twS .fenced
     sameConfig s true (Fin.ofNat 16 (s.twin.leaseL - 1)) (BitVec.ofNat 32 (fs s)) (rget s aSYS_CHIP_ID)
       (BitVec.ofNat 8 (rfld s aSYS_STEPPING 7 0)) (rget s aBOOT_IMG_CRC) 0 = true ∧
      ok (.ctrlCell ⟨okH, .negotiate true 15 0 0 0 0 0 1⟩) s (fun t => t.twin.cfgDiff && rget t (aERRCAP pgTWIN) == 0x80000004#32) = true) ∧
    (let s := setTwinSt { actS.twin with sent := [⟨0, 1, 0, .hello⟩, ⟨2, 9, 0, .fence⟩] } actS
     ok (.cellResend 2 9) s (fun t => t.twin.sent.length == 3 && t.twin.sent.head?.map (·.body) == some .fence
       && rget t aTWIN_RETX_CNT == 1) = true) ∧
    ok .healthMissing (twS .standbyWarm) (fun t => t.twin.st == .fenced && t.twin.pstate == 0xF) = true ∧
    same .lossHoldExpire actS = true ∧ same (.cellResend 2 9) actS = true ∧
    ok .lossHoldExpire (setTwinSt { (twS .standbyHot).twin with lossHold := some 1000 } (twS .standbyHot))
      (fun t => t.twin.st == .fenced) = true := by decide +kernel

/-! ### Witnesses: Cistern, Recorder, Player -/

/-- A device whose Cistern is in the given state, at 100 s. -/
def cisS (st : CState) : State := setCist { opS.cistern with st := st } { opS with now := 10 ^ 14 }

def eyes : List LaneEye := List.replicate 18 ⟨999, 999, 5, 6⟩

def retS (n : Nat) : State := setCist { (cisS .normal).cistern with retrain := some ⟨0, n⟩ } (cisS .normal)

theorem wit_training :
    (eyesGood (cisS .training) ⟨0, 9, eyes⟩ ∧ inOperation (cisS .training) ∧
      ok (.trainingDone ⟨0, 9, eyes⟩) (cisS .training) (fun t => t.cistern.st == .normal && t.cistern.trained
        && rbit t (aISTAT pgDDRC) 3) = true) ∧
    (¬ eyesGood (cisS .training) ⟨0, 9, []⟩ ∧ ok (.trainingDone ⟨0, 9, []⟩) (cisS .training) (fun t => t.cistern.st == .lost
      && t.shed == 5 && rbit t aINTC_ALMSRC 6) = true) ∧
    (let s := rset aDDRC_RTCFG 0x10000 (cisS .normal)
     retrainInt s = some secPs ∧ s.cistern.rtT + secPs ≤ s.now ∧ ok (.retrainTrigger 0) s (fun t => t.cistern.retrain.isSome) = true) ∧
    (let s := setCist { (cisS .normal).cistern with trainTemp := 99 } (cisS .normal)
     zeroIs1 (rfld s aDDRC_RTCFG 7 0) ≤ (ddrTemp s - s.cistern.trainTemp).natAbs ∧
      ok (.retrainTrigger 0) s (fun t => t.cistern.retrain.isSome) = true) ∧
    ok (.retrainTrigger 0) (cisS .lost) (fun t => t.cistern.retrain.isNone) = true ∧
    ok .retrainSlice (retS 3) (fun t => t.cistern.retrain == some ⟨0, 4⟩) = true ∧
    ok .retrainSlice (setCist { (retS 3).cistern with owed := [8, 0] } (retS 3)) (fun t => t.cistern.retrain == some ⟨0, 3⟩) = true ∧
    ok .retrainAbort (retS 3) (fun t => t.cistern.retrain.isNone && rget t aDDRC_RT_ABORT_CNT == 1) = true ∧
    (slicesAll (retS 36) ≤ 36 ∧ ok (.retrainDone ⟨0, 9, eyes⟩) (retS 36) (fun t => t.cistern.retrain.isNone
      && t.cistern.pend == some eyes && rget t aDDRC_RT_CNT == 1) = true) ∧
    ok (.retrainDone ⟨0, 9, eyes⟩) (setCist { (retS 36).cistern with st := .degraded } (retS 36)) (fun t => t.cistern.st == .normal)
      = true ∧
    ok (.retrainDone ⟨0, 9, []⟩) (rset aDDRC_FAILS 2 (retS 36)) (fun t => t.cistern.st == .degraded && rget t aDDRC_FAILS == 3) = true := by
  unfold eyesGood inOperation
  decide +kernel

theorem wit_training_not_due :
    ok (.trainingDone ⟨10 ^ 15, 9, eyes⟩) (cisS .normal) (fun t => decide (t = advance (10 ^ 15) (cisS .normal))) = true ∧
    ok (.retrainDone ⟨10 ^ 15, 9, eyes⟩) (cisS .normal) (fun t => decide (t = advance (10 ^ 15) (cisS .normal))) = true ∧
    ok (.retrainTrigger (10 ^ 15)) (retS 3) (fun t => decide (t = advance (10 ^ 15) (retS 3))) = true ∧
    same .retrainSlice (cisS .normal) = true ∧ same .retrainAbort (cisS .normal) = true ∧ same .retrainSlice (retS 36) = true ∧
    same .retrainAbort { retS 3 with now := secPs - 1 } = true ∧
    (3 < slicesAll (retS 3) ∧ ok (.retrainDone ⟨10 ^ 15, 9, eyes⟩) (retS 3) (fun t => t.cistern.retrain == some ⟨0, 3⟩) = true) ∧
    same .ceWindowEnd (setCist { (cisS .normal).cistern with ceT := 10 ^ 14 } (cisS .normal)) = true ∧
    same .reserveMove (cisS .normal) = true ∧
    same .reserveMove (setCist { (cisS .normal).cistern with rsvAt := some 1001 } (cisS .normal)) = true ∧
    same .reserveMove (setCist { (cisS .normal).cistern with backAt := some 1001 } (cisS .normal)) = true ∧
    same (.dramRefresh 0 2) (cisS .lost) = true ∧ same (.dramRefresh 1 2) (cisS .normal) = decide (ranks (cisS .normal) ≤ 1) ∧
    same (.rowCloseTimeout 5) (cisS .normal) = true := by decide +kernel

/-- A class A line whose delay is longer than the whole reserve. -/
def lineA (pts : List (Nat × Nat)) : DLine := ⟨3, 0x80020000, 0, 0x40000, 0, 0, 0, pts, 0⟩

theorem wit_reserve :
    (let s := setCist { (cisS .lost).cistern with rsvAt := some 992, lines := [lineA []] } (cisS .lost)
     shareNow s = 65536 ∧ shareNow s < dDelay (lineWords (lineA [])) ∧
      ok .reserveMove s (fun t => rget t aDDRC_RSV_SHARE == 65536 && rbit t (aISTAT pgDDRC) 6
        && t.cistern.lines.map (·.points) == [[(65536, 1000)]]) = true) ∧
    (let s := rset aDDRC_RSV_SHARE 65536
       (setCist { (cisS .lost).cistern with backAt := some 992, reserve := true, lines := [lineA [(65536, 0)]] } (cisS .lost))
     rsvShare s < dDelay (lineWords (lineA [])) ∧
      ok .reserveMove s (fun t => !t.cistern.reserve && rget t aDDRC_RSV_SHARE == 0
        && t.cistern.lines.map (·.points) == [[(65536, 0), (131072, 1000)]]) = true) := by decide +kernel

theorem wit_cistern :
    (let s := setCist { (cisS .normal).cistern with ceNow := 70000 } (cisS .normal)
     rfld s aDDRC_CECFG 15 0 < s.cistern.ceNow ∧ ok .ceWindowEnd s (fun t => t.cistern.st == .degraded
       && t.cistern.retrain.isSome && rget t aDDRC_CE_CNT == 0xFFFF) = true) ∧
    ok .ceWindowEnd (cisS .normal) (fun t => t.cistern.st == .normal && t.cistern.ceT == 10 ^ 14) = true ∧
    (isBlock (cisS .degraded) 1000 = true ∧
      ok .reserveMove (setCist { (cisS .degraded).cistern with rsvAt := some 992 } (cisS .degraded)) (fun t => t.cistern.reserve
        && t.cistern.rsvAt.isNone) = true ∧
      ok .reserveMove (setCist { (cisS .normal).cistern with backAt := some 992, reserve := true } (cisS .normal))
        (fun t => !t.cistern.reserve) = true) ∧
    ok .shedWithdraw { cisS .normal with shed := 3 } (fun t => t.shed == 2) = true ∧
    same .shedWithdraw { cisS .normal with shed := 3, shedMeas := 3 } = true ∧
    ok (.dramRefresh 0 2) (cisS .normal) (fun t => t.cistern.owed == [1, 0]) = true ∧
    ok (.dramRefresh 0 0) (setCist { (cisS .normal).cistern with owed := [3, 0], pend := some eyes } (cisS .normal))
      (fun t => t.cistern.owed == [0, 0] && t.cistern.pend.isNone) = true ∧
    ok (.rowCloseTimeout 5) (setCist { (cisS .normal).cistern with banks := (cisS .normal).cistern.banks.set 5 ⟨2, 7, true, 0⟩ } (cisS .normal))
      (fun t => t.cistern.banks[5]? == some ⟨2, 7, false, 0⟩) = true := by decide +kernel

/-- Line 3: an output line with a delay of 100 frames, in a region of 160 words. -/
def lineS : State :=
  regWords (aDDRC_DLY_ENTRY 0) [0xB0000064, 0, 160, 0, 0] (rset aDDRC_DLY_SEL 3 (rset aDDRC_MEMCFG 0 (cisS .normal)))

def lineT (kind : Bool) (pts : List (Nat × Nat)) : DLine := ⟨3, if kind then 0xB0000064 else 0x80000064, 0, 160, 0, 0, 0, pts, 0⟩

theorem wit_lines :
    windowStands lineS ∧ (Accepted lineS aDDRC_DLY_COMMIT (w0 1) ∧ lineS.landNext = [] ∧
      ok (.delayCommit (w0 0)) lineS (fun t => t.cistern.commits == [(3, [0xB0000064, 0, 160, 0, 0])]) = true) ∧
    (let s := rset (aDDRC_DLY_ENTRY 0) 0xB0000001 lineS
     Served s aDDRC_DLY_COMMIT (w0 1) ∧ dlyRefuse s (rfld s aDDRC_DLY_SEL 9 0) (dlyWindow s) = some 1 ∧
      ok (.delayCommit (w0 0)) s (fun t => t.cistern.commits.isEmpty && rget t (aERRCAP pgDDRC) == 0x80000001#32) = true) ∧
    ok (.stagingDeadline [192]) (setCist { lineS.cistern with lines := [lineT false []] } (wrWord (yAddr 0 (blockNow lineS % 2 * blockN lineS)) 9 lineS))
      (fun t => rget t aDDRC_STAGE_MISS_CNT == 1 && rdWord t (yAddr 0 (blockNow lineS % 2 * blockN lineS)) == 0) = true ∧
    ok (.stagingDeadline [192]) (setCist { lineS.cistern with lines := [lineT true []] } lineS) (fun t => t.cistern.missed == [3]) = true ∧
    ok (.delayXfadeEnd 3) (setCist { lineS.cistern with lines := [lineT true [(9, 0), (100, 936)]] } lineS)
      (fun t => t.cistern.lines.map (·.points) == [[(100, 0)]]) = true := by
  unfold windowStands
  decide +kernel

theorem wit_lines_none :
    refused (.delayCommit (w0 0)) { lineS with twin := runA.twin } 4 pgDDRC aDDRC_DLY_COMMIT = true ∧
    same (.stagingDeadline [192]) lineS = true ∧
    same (.stagingDeadline [192 + 63]) (setCist { lineS.cistern with lines := [lineT false []] } lineS) = true ∧
    ok (.stagingDeadline [192, 193]) (setCist { lineS.cistern with lines := [lineT false []] } lineS)
      (fun t => rget t aDDRC_STAGE_MISS_CNT == 2) = true ∧
    same (.delayXfadeEnd 3) (setCist { lineS.cistern with lines := [lineT true [(9, 0), (100, 937)]] } lineS) = true ∧
    same (.delayXfadeEnd 4) lineS = true := by decide +kernel

/-- A directory of one announcement: line 16, 100 samples, at the rate in force. -/
def playS (e : Ev) (rate : Nat) : State :=
  let s := rset aPLAYER_DIR_COUNT 1 (setCist { opS.cistern with st := .normal } { landS e with boot := opS.boot, clk := opS.clk })
  cwWord 8 (BitVec.ofNat 32 rate) (cwWord 4 100 (cwWord 0 16 s))

def playT : Ev := { evT opPlay 0 0 0 with payload := [5, 0, 9, 0x800000] }
def voiceT : VoiceRun := ⟨5, 3, 0, 9, 1000, 1, 1, false, 900, 16, 100, false, none, []⟩

theorem wit_player :
    (let s := playS playT (rateCode opS)
     actsNext s playT [] ∧ (dirEntry s 0).2.2.2 = rateCode s ∧ 64 * (dirEntry s 0).1 + annBytes (dirEntry s 0) ≤ cistBytes s ∧
      ok (.play 7) (setCist { s.cistern with voices := [voiceT] } s) (fun t => t.cistern.voices.map (fun r => (r.ticket, r.stop))
        == [(3, some 1000), (7, none)] && t.comp.running.map (·.ticket) == [7]) = true) ∧
    (let s := playS playT (rateCode opS + 1)
     (dirEntry s 0).2.2.2 ≠ rateCode s ∧ ok (.play 7) s (fun t => t.cistern.voices.isEmpty && rbit t (aISTAT pgPLAYER) 3) = true) ∧
    (let s := cwWord 0 0xFFFFFFF (playS playT (rateCode opS))
     cistBytes s < 64 * (dirEntry s 0).1 + annBytes (dirEntry s 0) ∧
      ok (.play 7) s (fun t => t.cistern.voices.isEmpty && rget t (aERRCAP pgPLAYER) == 0x80000001#32) = true) ∧
    (let e := { evT opStopPlay 0 0 0 with payload := [5] }
     let s := playS e 0
     actsNext s e [] ∧ ok (.stopPlay 7) s (fun t => t.cistern.voices.isEmpty) = true ∧
      ok (.stopPlay 7) (setCist { s.cistern with voices := [voiceT] } s) (fun t => t.cistern.voices.map (·.stop) == [some 1000]) = true) ∧
    ok (.voiceEnd 5) (setCist { opS.cistern with voices := [voiceT] } opS) (fun t => t.cistern.voices.isEmpty
      && rbit t (aISTAT pgPLAYER) 2) = true ∧
    ok (.stopFadeEnd 5) (setCist { opS.cistern with voices := [{ voiceT with loop := true, stop := some 1000 }] } opS)
      (fun t => t.cistern.voices.isEmpty) = true := by
  unfold actsNext
  decide +kernel

def segT : RecSeg := ⟨7, 1, true, false, 2, 0, 50, 0, 10, [0, 1], none, none⟩

/-- A run of voice 5 that starts on frame 900, of 100 samples, and one of the same voice that started before it. -/
theorem wit_player_more :
    (let s := setCist { opS.cistern with voices := [{ voiceT with ticket := 2, start := 950 }, voiceT] } opS
     playedOut s 5 voiceT ∧ ¬ playedOut s 5 { voiceT with ticket := 2, start := 950 } ∧
      ok (.voiceEnd 5) s (fun t => t.cistern.voices.map (·.ticket) == [2] && rbit t (aISTAT pgPLAYER) 2) = true) ∧
    (let x := { voiceT with start := 990, stop := some 995 }
     let s := setCist { opS.cistern with voices := [x] } opS
     fadedOut s 5 x ∧ ¬ playedOut s 5 x ∧ same (.voiceEnd 5) s = true ∧
      ok (.stopFadeEnd 5) s (fun t => t.cistern.voices.isEmpty) = true) ∧
    (let s := setCist { opS.cistern with voices := [{ voiceT with start := 990 }] } opS
     same (.voiceEnd 5) s = true ∧ same (.stopFadeEnd 5) s = true ∧ same (.voiceEnd 6) s = true ∧ same (.stopFadeEnd 6) s = true) ∧
    (let s := setCist { opS.cistern with voices := [voiceT, { voiceT with ticket := 4 }] } (playS { evT opStopPlay 0 0 0 with payload := [5] } 0)
     ok (.stopPlay 7) s (fun t => t.cistern.voices.map (fun r => (r.ticket, r.stop, r.stops)) == [(3, none, []), (4, some 1000, [7])])
      = true) ∧
    (let s := cwWord 4 0 (playS playT (rateCode opS))
     (dirEntry s 0).2.1 = 0 ∧ ok (.play 7) s (fun t => t.cistern.voices.isEmpty && rget t (aERRCAP pgPLAYER) == 0x80000001#32) = true) := by
  unfold playedOut fadedOut
  simp only [voiceT, fadeLast, Option.map_none, Option.map_some, reduceCtorEq, Option.some.injEq, exists_eq_left', forall_eq', false_imp_iff, imp_true_iff]
  decide +kernel

theorem wit_recorder :
    (let e := evT opRecord 0 0 0
     actsNext (setCist { opS.cistern with segs := [segT] } (landS e)) e [] ∧
     ok (.recordSeg 7) (setCist { opS.cistern with segs := [segT] } (landS e)) (fun t => t.cistern.segs.map (·.start) == [some 1000]
       && t.comp.running.map (·.ticket) == [7]) = true) ∧
    (Accepted runS aRECORDER_FREEZE (w0 7) ∧ ok (.recorderFreeze (w0 7)) runS (fun t => t.landNext == [(aRECORDER_FREEZE, 7)]) = true) ∧
    (let e := evT opWriteParam 2 (BitVec.ofNat 32 aRECORDER_FREEZE) 7
     pairsOf e.payload = [(aRECORDER_FREEZE, 7)] ∧
      ok (.writeParam 7) (setCist { opS.cistern with segs := [{ segT with start := some 900 }] } (landS e))
        (fun t => t.cistern.segs.map (·.froze) == [some 1000]) = true ∧
      ok (.writeParam 7) (setCist { opS.cistern with segs := [segT] } (landS e))
        (fun t => t.cistern.segs == [segT] && t.comp.landing.isEmpty) = true) ∧
    refused (.recorderFreeze (w0 7)) runA 5 pgRECORDER aRECORDER_FREEZE = true ∧
    same (.segmentComplete 7) opS = true ∧ same (.segmentComplete 7) (setCist { opS.cistern with segs := [segT] } opS) = true ∧
    (let g := { segT with start := some 900, froze := some 990 }
     segEnd g = some 1000 ∧ ok (.segmentComplete 7) (setCist { opS.cistern with segs := [g] } (rset (aRECORDER_SEGTKT 1) 7 opS))
       (fun t => t.cistern.segs.isEmpty && rget t (aRECORDER_SEGTKT 1) == 0 && rbit t (aISTAT pgRECORDER) 2) = true) ∧
    (let s := cisS .normal
     Served s (busAddr 0x100010) (w0 5) ∧ apRefused s (busAddr 0x100010) = false ∧
      ok (.apertureWrite ⟨0x100010, 0, 0xF#4, 5⟩) s (fun t => cdWord t 16 == 5 && lastStatus t == 0) = true) ∧
    (let s := cisS .lost
     apRefused s (busAddr 0x100010) = true ∧
      ok (.apertureWrite ⟨0x100010, 0, 0xF#4, 5⟩) s (fun t => rget t (aERRCAP pgDDRC) == 0x80000003#32 && lastStatus t == 5) = true) ∧
    ok (.apertureWrite ⟨0x100010, 0, 0x5#4, 0x01020304⟩) (cisS .normal) (fun t => cdWord t 16 == 0x00020004#32) = true ∧
    (let s := setFab { opS.fab with flips := [(cistBase + 16, 3)] } (cisS .normal)
     ueAt s (cistBase + 16) = true ∧
      ok (.apertureWrite ⟨0x100010, 0, 0x1#4, 5⟩) s (fun t => lastStatus t == 6 && cdWord t 16 == 0) = true) ∧
    (let s := { cisS .normal with twin := { runA.twin with st := .active } }
     ok (.apertureWrite ⟨0x100010, 0, 0xF#4, 5⟩) s (fun t =>
       t.twin.sent.head?.map (fun y => (y.ch, decide (y.body = .words true [(16, 5)]))) == some (5, true)) = true) := by
  unfold actsNext
  decide +kernel

/-! ### Witnesses: fabric, integrity, sense -/

/-- A one-beat request of a master; with data, of one word. -/
def reqT (m : Fin 8) (a : Nat) (d : Option (List Word)) : BusReq := ⟨m, a, 1, d, 0xF#4, 0⟩

def waitT (m : Fin 8) (passed : Nat) : BusWait := ⟨1, reqT m 0x280000 none, passed⟩

theorem wit_bus :
    (burstOk (reqT 3 0x200000 none) = true ∧ targetOf 0x200000 = 0 ∧
      ok (.busGrant 0 0 0 [reqT 3 0x200000 none]) (wrWord 0x200004 9 opS) (fun t => t.fab.resp == some ⟨3, [0, 9, 0, 0], false⟩
        && rget t (aMATRIX_GRANT_CNT 3) == 1 && t.fab.waits.isEmpty) = true) ∧
    (writeRight 3 0x200000 = true ∧
      ok (.busGrant 0 0 0 [reqT 3 0x200000 (some [7])]) opS (fun t => rdWord t 0x200000 == 7 && t.fab.resp == some ⟨3, [], false⟩) = true) ∧
    (writeRight 2 0x200000 = false ∧
      ok (.busGrant 0 0 0 [reqT 2 0x200000 (some [7])]) opS (fun t => rdWord t 0x200000 == 0 && t.fab.resp == some ⟨2, [], true⟩
        && rget t (aERRCAP pgMATRIX) == 0x80000003#32) = true) ∧
    ok (.busGrant 1 0 0 []) opS (fun t => t.fab.waits.isEmpty) = true ∧
    (atArbiter opS 1 0 (waitT 2 0) = true ∧ isForced (waitT 3 64) = true ∧
      ok (.busGrant 1 0 0 []) (setFab { opS.fab with waits := [waitT 2 0, waitT 3 64] } opS)
        (fun t => t.fab.waits.map (·.req) == [reqT 2 0x280000 none]) = true) ∧
    (let s := rset (aMATRIX_MCFG 1) 0xC0000000 (rset (aMATRIX_MCFG 6) 0 opS)
     urgency s 0 (waitT 6 0) < urgency s 0 (waitT 1 0) ∧
      ok (.busGrant 1 0 0 []) (setFab { s.fab with waits := [waitT 1 0, waitT 6 0] } s)
        (fun t => t.fab.waits.map (·.req) == [reqT 6 0x280000 none]) = true) := by decide +kernel

theorem wit_lone :
    lone opS 0 0 (reqT 3 0x200000 none) ∧ mayWrite opS 0 0 (reqT 3 0x200000 (some [7])) ∧ mayWrite opS 5 0 (reqT 4 0x1000000 (some [7])) ∧
    (lone (cisS .lost) 6 0 (reqT 2 0x100000 none) ∧ cistServes (cisS .lost) = false ∧
      ok (.busGrant 6 0 0 [reqT 2 0x100000 none]) (cisS .lost) (fun t => t.fab.resp == some ⟨2, [0, 0, 0, 0], true⟩) = true ∧
      ok (.busGrant 6 0 0 [reqT 2 0x100000 (some [1])]) (cisS .lost) (fun t => t.fab.resp == some ⟨2, [], true⟩) = true) ∧
    (let s := setPress 1 { opS.press[(1 : Fin 16)] with mode := .run } opS
     lone s 4 1 (reqT 4 0x490000 (some [1])) ∧
      ok (.busGrant 4 1 0 [reqT 4 0x490000 (some [1])]) s (fun t => t.fab.resp == some ⟨4, [], true⟩
        && rget t (aERRCAP (pgPRESS 1)) == 0x80000001#32) = true ∧
      ok (.busGrant 4 1 0 [reqT 4 0x490000 (some [1])]) opS (fun t => t.fab.resp == some ⟨4, [], false⟩ && rdWord t 0x490000 == 1)
        = true) ∧
    (lone opS 0 0 (reqT 0 0x200000 (some [1])) ∧
      ok (.busGrant 0 0 0 [reqT 0 0x200000 (some [1])]) opS (fun t => t.fab.resp == some ⟨0, [], false⟩) = true) ∧
    (lone opS 9 0 (reqT 3 0x1FFFFF0 none) ∧
      ok (.busGrant 9 0 0 [reqT 3 0x1FFFFF0 none]) opS (fun t => t.fab.resp == some ⟨3, [0, 0, 0, 0], true⟩
        && rget t (aERRCAP pgMATRIX) == 0x80000001#32) = true) ∧
    (lone opS 9 0 { reqT 3 0x200000 none with beats := 5 } ∧
      ok (.busGrant 9 0 0 [{ reqT 3 0x200000 none with beats := 5 }]) opS (fun t => rget t (aERRCAP pgMATRIX) == 0x80000002#32) = true) ∧
    (let s := { opS with clk := { opS.clk with coreGated := true } }
     lone s 9 0 (reqT 4 0x400000 none) ∧
      ok (.busGrant 9 0 0 [reqT 4 0x400000 none]) s (fun t => rget t (aERRCAP pgMATRIX) == 0x80000005#32) = true) ∧
    ok (.busGrant 0 0 0 [{ reqT 3 0x200000 (some [0x0A0B0C0D]) with be := 2#4 }]) opS (fun t => rdWord t 0x200000 == 0xC00) = true := by
  unfold lone mayWrite Live
  decide +kernel

theorem wit_waiting :
    (let s := setFab { opS.fab with waits := List.replicate 8 (waitT 3 0) } opS
     8 ≤ outstanding s 3 ∧ ok (.busGrant 2 0 0 [reqT 3 0x200000 none]) s (fun t =>
       t.fab.inside == [reqT 3 0x200000 none] && t.fab.waits.length == 8) = true ∧ same (.busGrant 2 0 0 []) s = true) ∧
    (let s := setFab { opS.fab with waits := [waitT 5 0, ⟨1, { reqT 2 0x280000 none with age := 1 }, 0⟩] } opS
     bankOwner ⟨1, { reqT 2 0x280000 none with age := 1 }, 0⟩ = true ∧ urgency s 9 (waitT 5 0) = 0 ∧
      ok (.busGrant 1 0 9 []) s (fun t => t.fab.waits.map (·.req) == [reqT 5 0x280000 none]) = true) ∧
    (let s := setFab { opS.fab with waits := [waitT 3 0, ⟨1, { reqT 5 0x280000 none with age := 1 }, 0⟩] } opS
     elder 9 (waitT 3 0) ⟨1, { reqT 5 0x280000 none with age := 1 }, 0⟩ = true ∧
      ok (.busGrant 1 0 9 []) s (fun t => t.fab.waits.map (fun w => w.req.master) == [5]) = true) ∧
    (let x : BusWait := ⟨4, reqT 4 0x490000 none, 0⟩
     let y : BusWait := ⟨4, { reqT 5 0x490000 (some [1]) with age := 1 }, 0⟩
     let s := setFab { opS.fab with waits := [x, y] } opS
     oneBank x y ∧ pressKind s y < pressKind s x ∧
      ok (.busGrant 4 1 9 []) s (fun t => t.fab.waits.map (fun w => w.req.master) == [4]) = true) := by
  unfold oneBank
  decide +kernel

theorem wit_ecc :
    (eccOut false 1 = .corr 0 ∧ ok .eccRewrite (setFab { opS.fab with rewrite := [0x200000], flips := [(0x200000, 1)] } opS)
      (fun t => t.fab.rewrite.isEmpty && t.fab.flips.isEmpty) = true) ∧
    ((remapTable 1)[2]? = some (aECC_REMAP_SH 2) ∧ Accepted opS (aECC_REMAP_SH 2) (w0 0x80080001) ∧
      ok (.remapWrite 1 2 (w0 0x80080001)) opS (fun t => rget t (aECC_REMAP_SH 2) == 0x80080001#32) = true) ∧
    (Served opS (aECC_REMAP_SH 2) (w0 0x80000001) ∧ remapPlace opS 1 1 = false ∧
      ok (.remapWrite 1 2 (w0 0x80000001)) opS (fun t => rget t (aECC_REMAP_SH 2) == 0
        && rget t (aERRCAP pgECC) == 0x80000003#32) = true) ∧
    (let s := rset aECC_CFG 1 (rset aECC_SKIMCFG 0x10001 (cisS .normal))
     skimPaused s = false ∧ s.clk.coreGated = false ∧ skimUnit s.fab.skimS = some 0x400000 ∧ s.fab.skimD + 1 < cistBytes s / 64 ∧
      ok (.skimStep false) s (fun t => t.fab.skimS == 1) = true ∧
      ok (.skimStep false) (setFab { s.fab with flips := [(0x400000, 1)] } s) (fun t => t.fab.skimS == 1 && flipsAt t 0x400000 == 0
        && rbit t (aISTAT pgECC) 0) = true ∧
      ok (.skimStep true) s (fun t => t.fab.skimD == 1) = true) ∧
    (Accepted opS aECC_FLIPCTRL (w0 0x80000031) ∧ ok (.flipArm (w0 0x31)) opS (fun t => t.fab.arm.map (fun x => (x.group, x.lane, x.addr))
      == some (1, 3, none)) = true) := by decide +kernel

theorem wit_ecc_more :
    same .eccRewrite opS = true ∧ ((remapTable 0)[15]? = none ∧ same (.remapWrite 0 15 (w0 5)) opS = true) ∧
    ((Served opS (aECC_REMAP_SH 2) (w0 0x80080001) ∧
      refused (.remapWrite 1 2 (w0 0x80080001)) (rset (aECC_REMAP_SH 1) 0x80080001 opS) 3 pgECC (aECC_REMAP_SH 2) = true) ∧
      (let s := setFab { opS.fab with flips := [(0x200004, 3)] } opS
       0x200004 ∈ remapKeys 1 0x80001 ∧ ueAt s 0x200004 = true ∧
        refused (.remapWrite 1 2 (w0 0x80080001)) s 3 pgECC (aECC_REMAP_SH 2) = true)) ∧
    (let s := rset aECC_CFG 1 (rset aECC_SKIMCFG 0x10001 (cisS .normal))
     skims s 1 ∧ same (.skimStep false) { s with clk := { s.clk with coreGated := true } } = true ∧
      (let u := setFab { s.fab with skimS := skimUnits - 1 } s
       ok (.skimStep false) u (fun t => t.fab.skimS == 0 && rbit t (aISTAT pgECC) 5 && rget t aECC_LAP_SRAM == lapMs u 0) = true) ∧
      (let u := setFab { s.fab with skimD := cistBytes s / 64 - 1 } s
       ok (.skimStep true) u (fun t => t.fab.skimD == 0 && rbit t (aISTAT pgECC) 6 && rget t aECC_LAP_DRAM == lapMs u 0) = true)) ∧
    (¬ skims opS (rfld opS aECC_SKIMCFG 15 0) ∧ same (.skimStep false) (rset aECC_SKIMCFG 0 opS) = true ∧
      same (.skimStep true) (rset aECC_SKIMCFG 0 opS) = true) ∧
    refused (.flipArm (w0 0x31)) runA 2 pgECC aECC_FLIPCTRL = true := by
  unfold skims Live
  decide +kernel

/-- Input 2 runs, in the given state; band 0 is ABSENT to level 99, band 1 an accessory with its button down. -/
def sensS (x : SenseIn) : State :=
  setSenseIn 2 x (rset (aSENSE_BAND 0) 0x00006310 (rset (aSENSE_BAND 1) 0x06440025
    (rset (aCTRL pgSENSE) 1 (rset aSENSE_CFG 4 { opS with now := 10 ^ 15 }))))

theorem wit_sense :
    (senseRuns (sensS SenseIn.reset) 2 = true ∧ classify (sensS SenseIn.reset) 150 = some (1, .present 1 1) ∧
      ok (.senseClassify 2 150 0) (sensS { SenseIn.reset with cls := .present 1 1, run := 999 }) (fun t =>
        t.sense.ins[(2 : Fin 8)].deb == .present 1 1 && rfld t (aSENSE_LEVEL 2) 11 0 == 150
          && t.sense.ins[(2 : Fin 8)].queue.map (·.event) == [1, 3]) = true ∧
      ok (.senseClassify 3 150 0) (sensS SenseIn.reset) (fun t => rget t (aSENSE_LEVEL 3) == 0) = true) ∧
    (let s := sensS { SenseIn.reset with rep := .present 1 1, downT := some 0 }
     ownSense s 2 = true ∧ ok (.senseStuck 2) s (fun t => t.sense.ins[(2 : Fin 8)].stuck
       && t.sense.ins[(2 : Fin 8)].queue.map (·.event) == [5]) = true) ∧
    ok (.senseQuiet 2) (sensS { SenseIn.reset with chatter := true, run := 10 ^ 6 }) (fun t => !t.sense.ins[(2 : Fin 8)].chatter
      && t.sense.ins[(2 : Fin 8)].queue.map (·.event) == [7]) = true ∧
    ok (.senseEventDeliver 2 0) (sensS { SenseIn.reset with queue := [⟨3, 5, 44⟩] }) (fun t => rget t aSENSE_EVT_PROD == 1
      && bits (rget t (aSENSE_EVT 0)) 11 0 == 0x235 && rget t (aSENSE_EVT 0 + 4) == 44) = true ∧
    ok (.senseEventDeliver 2 0) (sensS { SenseIn.reset with queue := [⟨3, 5, 44⟩], sentT := some (10 ^ 15 - 1) })
      (fun t => rget t aSENSE_EVT_PROD == 0) = true ∧
    ok .actionRetryExpire (setSense { (sensS SenseIn.reset).sense with retries := [(3, 0)] } (sensS SenseIn.reset))
      (fun t => t.sense.retries.isEmpty && rget t aSENSE_ACT_REF_CNT == 1) = true ∧
    (let s := rset (aCTRL pgSENSE) 1 runS
     mgmtHeaderOk s (mgmtT 5 [0x235, 9]) = true ∧ mgmtForUs s (mgmtT 5 [0x235, 9]) = true ∧
      ok (.senseEvt (mgmtT 5 [0x235, 9])) s (fun t => rget t aSENSE_EVT_PROD == 1 && rget t (aSENSE_EVT 0) == 0x80070235#32) = true ∧
      ok (.senseEvt (mgmtT 5 [0x235])) s (fun t => rget t (aERRCAP pgSENSE) == 0x80000001#32) = true ∧
      ok (.senseEvt { mgmtT 5 [0x235, 9] with h2 := 0 }) s (fun t => rget t aSENSE_EVT_PROD == 0) = true ∧
      ok (.senseEvt { mgmtT 5 [0x235, 9] with h2 := 0x00030000 }) s (fun t => rget t aSWITCH_MGMT_DROP == 1 && onlyRegs s t) = true ∧
      ok (.senseEvt (mgmtT 5 [0x235, 9])) (rset (aCTRL pgSENSE) 0 s) (fun t => rget t aSWITCH_MGMT_RX == 1
        && rget t aSENSE_EVT_PROD == 0) = true) := by decide +kernel

theorem wit_sense_not_due :
    same (.senseStuck 2) (sensS SenseIn.reset) = true ∧ same (.senseQuiet 2) (sensS SenseIn.reset) = true ∧
    (let q : List SenseEv := List.replicate 4 ⟨3, 5, 44⟩
     let s := sensS { SenseIn.reset with rep := .present 1 1, downT := some 0, queue := q }
     ok (.senseStuck 2) s (fun t => t.sense.ins[(2 : Fin 8)].queue == q && t.sense.ins[(2 : Fin 8)].lost
       && rget t aSENSE_RATE_DROP_CNT == 1) = true) ∧
    ok (.senseEventDeliver 2 5) (sensS SenseIn.reset) (fun t => decide (t = advance 5 (sensS SenseIn.reset))) = true ∧
    (let s := setSense { (sensS SenseIn.reset).sense with retries := [(3, 10 ^ 15)] } (sensS SenseIn.reset)
     same .actionRetryExpire s = true) := by decide +kernel

/-! ### Witnesses: resets, start-up, pins -/

/-- The start at the given step. -/
def bootS (st : BootStep) (l : List (Nat × Word)) : State :=
  let s := l.foldl (fun s x => rset x.1 x.2 s) State.reset
  { s with boot := { s.boot with held := .none, step := st } }

/-- An unsigned image of one section, which its table places at 0x50; its header CRC is that of its bytes. -/
def imgT (ty : Nat) (data : List Word) : List Byte :=
  let le (l : List Word) : List Byte := l.flatMap fun w => leBytes 4 w.toNat
  let d := le data
  let tail := le [w32 ty, 0x50, w32 d.length, crc32 d] ++ d
  let head := le [0x31534F45, 0x00010001, 1, w32 (0x40 + tail.length), 0, crc32 tail, 0, 0, 0, 0, 0, 0, 0, 0, 0]
  head ++ le [crc32 head] ++ tail

/-- A pass over slot A that holds a PRESS section: words 5 and 6 from word 2 of PRESS0's program memory. -/
def passT : SlotPass := ⟨false, false, true, 1, 0, imgT 2 [0x2000, 5, 6]⟩

/-- The same pass with the last byte of the slot read wrong. -/
def passBad : SlotPass := { passT with bytes := passT.bytes.dropLast ++ [9] }

/-- FIPS 180-4, the message "abc". -/
theorem test_sha256 : shaNat [0x61, 0x62, 0x63] = 0xBA7816BF8F01CFEA414140DE5DAE2223B00361A396177A9CB410FF61F20015AD := by decide +kernel

/-- RFC 6979 A.2.5: P-256 and SHA-256, the message "sample". -/
theorem test_ecdsa : ecdsaOk 0x60FED4BA255A9D31C961EB74C6356D68C049B8923B61FA6CE669622E60F29FB6
    0x7903FE1008B8BC99A41AE9E95628BC64F2F1B20C2D7E9F5177A3C294D4462299
    0xEFD48B2AACB6A8FD1140DD9CD45E81D69D2C877B56AAF991C34D0EA84EAF3716
    0xF7CB1C942D657C41D436C7A1B6E29F65F3E900DBB9AFF4064DC4AB2F843ACDA8
    (shaNat [0x73, 0x61, 0x6D, 0x70, 0x6C, 0x65]) = true := by decide +kernel

theorem wit_resets :
    ok (.supplyTrip 9) opS (fun t => t.boot.held == .power && rget t aSYS_RSTCAUSE == 2 && t.boot.step == .s1) = true ∧
    ok .xoLoss opS (fun t => t.boot.held == .xo && rbit t aINTC_ALMSRC 0 && rget t aSYS_RSTCAUSE == 4) = true ∧
    ok .xoRestore { opS with boot := { opS.boot with held := .xo } } (fun t => t.boot.held == .none && t.boot.step == .s2) = true ∧
    ok (.porRelease 0x1F 5) State.reset (fun t => t.boot.held == .none && rget t aSYS_STRAPS == 0x1B && t.boot.vio == 5) = true ∧
    ok (.porRelease 0x1F 5) { State.reset with boot := { BootSt.reset with held := .cold } } (fun t => rget t aSYS_STRAPS == 0) = true ∧
    (let s := { opS with boot := { opS.boot with retention := true } }
     s.galley.lost = false ∧ ok .warmResetPin s (fun t => t.boot.held == .warmPin && t.tb.frame == 1000 && rbit t aSYS_RSTCAUSE 4) = true ∧
      Accepted s aSYS_RSTCMD (w0 0x5A5A0001) ∧
      ok (.resetWarm (w0 0x5A5A0000)) s (fun t => t.boot.warm && !t.boot.run && rbit t aSYS_RSTCAUSE 5 && t.tb.frame == 1000) = true ∧
      Accepted s aSYS_RSTCMD (w0 0x5A5A0002) ∧
      ok (.resetCold (w0 0x5A5A0000)) s (fun t => t.boot.held == .cold && rbit t aSYS_RSTCAUSE 3) = true) ∧
    ok .warmResetPin { opS with boot := { opS.boot with retention := false } } (fun t => t.boot.held == .cold
      && rget t aSYS_RSTCAUSE &&& 0x90#32 == 0x90#32) = true ∧
    ok .warmResetRelease { opS with boot := { opS.boot with held := .warmPin, warm := true, step := .s2 }, clk := { opS.clk with lockA := false } }
      (fun t => t.boot.held == .none && t.boot.step == .s3) = true ∧
    (Served opS aSYS_RSTCMD (w0 1) ∧ ok (.resetWarm (w0 0)) opS (fun t => rget t (aERRCAP pgSYS) == 0x80000001#32 && t.boot.run) = true) := by
  decide +kernel

theorem wit_start :
    ok .xoQualified (bootS .s2 []) (fun t => t.boot.step == .s3) = true ∧
    ok (.bistDone ⟨3, true, 0⟩) (bootS .s4 []) (fun t => t.boot.step == .stopped && t.boot.cause == 0x0C) = true ∧
    ok (.bistDone ⟨3, false, 9⟩) (bootS .s4 []) (fun t => t.boot.step == .s5 && rget t aBOOT_BADPRESS == 3 && rget t aECC_REPAIR == 9)
      = true ∧
    (readsSlots (bootS .s5 []) ∧ ok (.imageSlotPass { passT with flash := false }) (bootS .s5 []) (fun t => t.boot.src == 1
      && t.boot.cause == 1) = true) ∧
    ((slotsLeft (seqNoted (bootS .s5 []) passT)).head? = some false ∧ slotCode (seqNoted (bootS .s5 []) passT) passT.bytes = 0 ∧
      ok (.imageSlotPass passT) (bootS .s5 []) (fun t => t.boot.verified == some false) = true) ∧
    (let s := { opS with boot := { opS.boot with hold := some 2 } }
     Accepted s aBOOT_CMD (w0 1) ∧ ok (.bootContinue (w0 0)) s (fun t => t.boot.hold.isNone) = true) ∧
    (let s := { opS with boot := { opS.boot with hold := some 1, step := .s5, regInit := [] } }
     Accepted s aBOOT_CMD (w0 1) ∧ ok (.bootContinue (w0 0)) s (fun t => t.boot.step == .s9) = true) ∧
    (Served opS aBOOT_CMD (w0 1) ∧ ok (.bootContinue (w0 0)) opS (fun t => rget t (aERRCAP pgBOOT) == 0x80000001#32) = true) ∧
    ok .startRun (bootS .s9 []) (fun t => t.boot.run && t.boot.retention && rbit t (aISTAT pgBOOT) 0) = true := by
  unfold readsSlots
  decide +kernel

theorem wit_slots :
    (slotCode (seqNoted (bootS .s5 []) passBad) passBad.bytes = 4 ∧
      ok (.imageSlotPass passBad) (bootS .s5 []) (fun t => t.boot.badA && t.boot.step == .s5
        && rfld t aBOOT_SLOT_ERR 7 0 == 4 && rget t aBOOT_ERRSECT == 0x200) = true) ∧
    (let s := bootS .s5 []
     let u := { s with boot := { s.boot with badB := true } }
     ok (.imageSlotPass passBad) u (fun t => t.boot.src == 1 && t.boot.cause == 4) = true) ∧
    (let s := bootS .s5 []
     same (.imageSlotPass { passT with slotB := true, seqA := rget s aBOOT_SEQ_A, seqB := rget s aBOOT_SEQ_B }) s = true) := by decide +kernel

/-- The start after the verification of slot A, and the load pass of an image of one section. -/
def loadS (l : List (Nat × Word)) : State :=
  let s := bootS .s5 l
  { s with boot := { s.boot with verified := some false } }

def loadT (ty : Nat) (data : List Word) : SlotPass := { passT with load := true, bytes := imgT ty data }

theorem wit_load :
    loadCode passT.bytes = 0 ∧ slotSections passT.bytes = [.press 0 0 2 [5, 6]] ∧
    ok (.imageSlotPass (loadT 2 [0x2000, 5, 6])) (loadS []) (fun t => t.boot.src == 0 && rget t aBOOT_IMG_CRC == slotImgCrc passT.bytes
      && rdWords t (Machine.bankAddr 0 0 + 8) 2 == [5, 6]) = true ∧
    ok (.imageSlotPass (loadT 3 [4, 7])) (loadS []) (fun t => rdWord t (formeBase false + 4) == 7) = true ∧
    ok (.imageSlotPass (loadT 5 [9, 7])) (loadS []) (fun t =>
      t.boot.cistern.map (fun x => (x.line, x.data)) == [(9, [7, 0, 0, 0])]) = true ∧
    slotSections (loadT 4 [3, 1, 2, 3, 4, 5, 6, 7, 8]).bytes = [.preload 3 [⟨1, 2, 3, 4, 5, 6, 7, 8⟩]] ∧
    (loadSection (loadS []) (.preload 3 [⟨1, 2, 3, 4, 5, 6, 7, 8⟩])).boot.preload = [(3, ⟨1, 2, 3, 4, 5, 6, 7, 8⟩)] ∧
    hostHeld (loadS [(aSYS_STRAPS, 16)]) = true ∧
    ok (.imageSlotPass (loadT 1 [w32 (aSYS_SCRATCH 1), 7])) (loadS [(aSYS_STRAPS, 16)]) (fun t =>
      t.boot.hold == some 1 && rget t (aSYS_SCRATCH 1) == 7) = true ∧
    ok (.imageSlotPass (loadT 1 [0x20000000 ||| w32 (aSYS_SCRATCH 1), 7])) (loadS [(aSYS_STRAPS, 16)]) (fun t =>
      t.boot.hold == some 1 && t.boot.regInit == [⟨2, aSYS_SCRATCH 1, 7⟩]) = true := by decide +kernel


/-- The start at a step with nothing held, its clocks as given. -/
def stepS (st : BootStep) (c : ClockSt) : State :=
  let s := { opS with boot := { BootSt.reset with held := .none, step := st, bistDone := st == .s6 || st == .s8 } }
  setClk1 c s

theorem wit_start_events :
    (starting (stepS .s3 { opS.clk with lockA := false }) .s3 ∧ windowGood 4096 ∧
      ok (.pllLock .a 4096) (stepS .s3 { opS.clk with lockA := false }) (fun t => t.boot.step == .s4 && t.clk.lockA) = true) ∧
    (let s := setCist { CistSt.reset with st := .training } (rset (aCTRL pgDDRC) 1 (rset (aCTRL pgPLLM) 1 (stepS .s6 opS.clk)))
     starting s .s6 ∧ enOf s pgDDRC = true ∧ enOf s pgPLLM = true ∧
      ok (.trainingDone ⟨10 ^ 15, 9, eyes⟩) s (fun t => t.boot.step == .s7 && t.clk.search == some false && t.clk.bootSearch == [true]) = true) ∧
    (let s := { stepS .s8 opS.clk with twin := { runA.twin with st := .fenced, link := false } }
     starting s .s8 ∧ ok .negTimeout s (fun t => t.boot.step == .s9 && t.twin.negDone) = true) ∧
    (startEvent .negTimeout = true ∧ startEvent (.pllLock .a 0) = true) := by
  unfold starting windowGood Live
  decide +kernel

theorem wit_start_not_due :
    same .warmResetPin State.reset = true ∧ same .warmResetRelease State.reset = true ∧ same .xoLoss State.reset = true ∧
    same .xoRestore opS = true ∧ same (.porRelease 1 2) opS = true ∧ same .warmResetRelease opS = true ∧ same .xoQualified opS = true ∧
    same (.bistDone ⟨3, true, 0⟩) opS = true ∧ same (.imageSlotPass passT) opS = true ∧ same .startRun opS = true ∧
    same .otpProgramDone opS = true ∧ same .ppsEdge (setClk1 { opS.clk with pps := ⟨none, 1, 0⟩ } opS) = true ∧
    same .bmarkEdge (setClk1 { opS.clk with bmark := ⟨some 1001, 8, 0⟩ } opS) = true ∧
    (Served opS aSYS_RSTCMD ⟨1, 0xF#4, 0x5A5A0001⟩ ∧
      ok (.resetWarm ⟨1, 0xF#4, 0x5A5A0000⟩) opS (fun t => onlyRegs opS t) = true) ∧
    refused (.otpProgram (w0 0)) runA 1 pgOTP aOTP_PROGCMD = true ∧
    (let s := { bootS .s4 [(aSYS_STRAPS, 2)] with boot := { (bootS .s4 []).boot with regInit := [] } }
     2 ≤ bootSel s ∧ ok (.bistDone ⟨0, false, 0⟩) s (fun t => t.boot.src == 1 && t.boot.cause == 0x0B) = true) := by decide +kernel

theorem wit_pins :
    (Accepted opS aOTP_PROGCMD (w0 1) ∧ ok (.otpProgram (w0 0)) (rset aOTP_PROGADDR 3 (rset aOTP_PROGDATA 9 opS))
      (fun t => t.boot.otpBusy == some (3, 9)) = true) ∧
    (let s := { opS with boot := { opS.boot with otpBusy := some (3, 9) } }
     Served s aOTP_PROGCMD (w0 1) ∧ ok (.otpProgram (w0 0)) s (fun t => rget t (aERRCAP pgOTP) == 0x80000001#32) = true ∧
      ok .otpProgramDone s (fun t => t.boot.otpBusy.isNone && t.boot.fuses == [(3, 9)]) = true) ∧
    ok .ppsEdge (setClk1 { opS.clk with pps := ⟨some 1000, 48000, 0⟩ } opS) (fun t => t.clk.pps.next == some (1000 + ppsPeriod opS)
      && rbit t (aISTAT pgGPIO) 0) = true ∧
    ok .ppsEdge (setClk1 { opS.clk with pps := ⟨some 1001, 48000, 0⟩ } opS) (fun t => t.clk.pps.next == some 1001) = true ∧
    ok .bmarkEdge (setClk1 { opS.clk with bmark := ⟨some 1000, 8, 0⟩ } opS) (fun t => t.clk.bmark.next == some (1000 + bmarkPeriod opS)) = true ∧
    ok (.tempReading 0x740 0x10 0x20 0xFFF0) (setClk1 { opS.clk with tempRestart := true } opS) (fun t => rget t aMON_TEMP == 0x740
      && rget t aMON_TEMP_MIN == 0x740 && t.clk.tempHi) = true ∧
    (Accepted opS aMON_TEMPCFG (w0 0x80000000) ∧ ok (.tempcfgClr (w0 0)) opS (fun t => t.clk.tempRestart) = true) ∧
    ok (.supplyReading 0 850) opS (fun t => rget t (aMON_VOLT 0) == 850 && rbit t (aISTAT pgMON) 2) = true ∧
    ok (.supplyReading 0 840) opS (fun t => rget t (aMON_VOLT 0) == 840 && !rbit t (aISTAT pgMON) 2) = true := by decide +kernel

/-! ### Smoke tests of the well-formedness checks: an ill-formed command for each check, and a well-formed one beside it -/

/-- Host addresses name 32-bit words of the 32 MB that HA reaches (R441). -/
theorem wf_host_addresses :
    (Instr.registerWrite ⟨0x10002, 0, 0xF#4, 0⟩).wf = false ∧ (Instr.registerWrite ⟨0x2000000, 0, 0xF#4, 0⟩).wf = false ∧
    (Instr.lowWordRead 0x10001 0).wf = false ∧ (Instr.strobeConflict 0x2000000 0).wf = false ∧
    (Instr.hostAccessTimeout 3 0 true).wf = false ∧ (Instr.registerWrite ⟨0x10004, 0, 0xF#4, 0⟩).wf = true := by decide +kernel

/-- Each address range has its own command (R475). -/
theorem wf_address_ranges :
    (Instr.galleySlotWrite ⟨0x380000, 0, 0xF#4, 0⟩).wf = false ∧ (Instr.galleySlotWrite ⟨0x300000, 0, 0xF#4, 0⟩).wf = true ∧
    (Instr.pressMemWrite ⟨0x3FFFFC, 0, 0xF#4, 0⟩).wf = false ∧ (Instr.pressMemWrite ⟨0x400000, 0, 0xF#4, 0⟩).wf = true ∧
    (Instr.pressHostTimeout 0 0xC00000 0 true).wf = false ∧ (Instr.pressHostTimeout 0 0x400000 0 true).wf = true ∧
    (Instr.shadowFormeWrite ⟨0x1800000, 0, 0xF#4, 0⟩).wf = false ∧ (Instr.shadowFormeWrite ⟨0x1000000, 0, 0xF#4, 0⟩).wf = true ∧
    (Instr.apertureWrite ⟨0x200000, 0, 0xF#4, 0⟩).wf = false ∧ (Instr.apertureWrite ⟨0x100000, 0, 0xF#4, 0⟩).wf = true := by
  decide +kernel

/-- Pages, remap entries, gain keys, delay lines and Cistern regions. -/
theorem wf_numbers :
    (Instr.blockEn 0x36 (w0 1)).wf = false ∧ (Instr.srst 0x3F (w0 1)).wf = false ∧ (Instr.srstComplete 0x36).wf = false ∧
    (Instr.freeze 0x36 (w0 1)).wf = false ∧ (Instr.iforce 0x36 (w0 1)).wf = false ∧ (Instr.errcapClear 0x36 (w0 1)).wf = false ∧
    (Instr.blockEn 0x35 (w0 1)).wf = true ∧
    (Instr.remapWrite 0 4 (w0 1)).wf = false ∧ (Instr.remapWrite 3 15 (w0 1)).wf = true ∧
    (Instr.zcTimeoutRamp 2).wf = false ∧ (Instr.slotWaitStart 0x1000100).wf = false ∧ (Instr.slotRelease 0x10000FC).wf = true ∧
    (Instr.stagingDeadline [3, 1024]).wf = false ∧ (Instr.stagingDeadline [3, 1023]).wf = true ∧
    (Instr.fwdQueueOverflow 0x2000).wf = false ∧ (Instr.fwdQueueOverflow 0x1FFF).wf = true := by decide +kernel

/-- Frame ticks, packets, bus requests and training reports. -/
theorem wf_reports :
    (Instr.frameTick 5 ⟨0, [1, 1], 0⟩).wf = false ∧ (Instr.frameTick 5 ⟨0, [1, 2], 0⟩).wf = true ∧
    (Instr.packetReceive ⟨0, 0, 0, none, 0x800, 63, true, none, [], 0, none⟩).wf = false ∧
    (Instr.packetReceive ⟨0, 0, 0, none, 0x800, 1523, true, none, [], 0, none⟩).wf = false ∧
    (Instr.packetReceive ⟨0, 0, 0, none, 0x800, 64, true, none, [], 0, none⟩).wf = true ∧
    (Instr.busGrant 0 0 0 [⟨0, 2, 1, none, 0xF, 0⟩]).wf = false ∧ (Instr.busGrant 0 0 0 [⟨0, 0, 0, none, 0xF, 0⟩]).wf = false ∧
    (Instr.busGrant 0 0 0 [⟨0, 0, 1, some [1, 2], 0xF, 0⟩]).wf = false ∧ (Instr.busGrant 3 1 0 []).wf = false ∧
    (Instr.busGrant 0 0 0 [⟨0, 0, 1, some [1], 0xF, 0⟩]).wf = true ∧ (Instr.busGrant 4 1 0 []).wf = true ∧
    (Instr.trainingDone ⟨0, 0, List.replicate 19 ⟨0, 0, 0, 0⟩⟩).wf = false ∧
    (Instr.retrainDone ⟨0, 0, List.replicate 19 ⟨0, 0, 0, 0⟩⟩).wf = false ∧
    (Instr.trainingDone ⟨0, 0, List.replicate 18 ⟨0, 0, 0, 0⟩⟩).wf = true := by decide +kernel

/-- The cells of the Traliat. -/
theorem wf_cells :
    (Instr.writeCell ⟨⟨0, 0, true⟩, .sys [(2, 0)]⟩).wf = false ∧ (Instr.fwdCell ⟨⟨0, 0, true⟩, .cist [(1, 0)]⟩).wf = false ∧
    (Instr.bulkCell ⟨⟨0, 0, true⟩, .bank2 [] 6145 [] []⟩).wf = false ∧
    (Instr.writeCell ⟨⟨0, 0, true⟩, .sys [(4, 0)]⟩).wf = true ∧
    (Instr.bulkCell ⟨⟨0, 0, true⟩, .tables [(0, [1])] [] []⟩).wf = false ∧ (Instr.bulkCell ⟨⟨0, 0, true⟩, .tables [] [] [(1024, [])]⟩).wf = false ∧
    (Instr.galleyCell ⟨⟨0, 0, true⟩, .slot 0 ⟨0, 0, 0, 0, 0, 0, 0, 0⟩ (List.replicate 6145 0) 0 none false false⟩).wf = false ∧
    (Instr.galleyCell ⟨⟨0, 0, true⟩, .clientRst 1⟩).wf = true := by decide +kernel

end Sys2Proof.Machine
end

section
/-!
PROOFS. Results in flight of a Press (R158, R159, R202): what a reader sees once a word has put its results among them.
-/

namespace Sys2Proof.Machine

/-- Results in flight stand in the order in which they arrive. -/
def InOrder (l : List PWrite) : Prop := l.Pairwise fun a b => a.at_ ≤ b.at_

/-- A LOOP count as a reader in cycle `c` sees it (R200). -/
def countAt (x : PressSt) (c : Nat) (n : Fin 2) : BitVec 72 :=
  x.pend.foldl (fun v w => if w.at_ < c ∧ w.reg = .lc n then merge72 v w.mask w.val else v) (x.r.get (.lc n))

/-- What the result `w` makes of the value `v` that a reader of `g` in cycle `c` has seen so far. -/
def arrive (x : PressSt) (c : Nat) (g : PReg) (v : BitVec 72) (w : PWrite) : BitVec 72 :=
  if w.at_ < c ∧ w.reg = g then
    match w.late with
    | some (.count n) => countAt x (w.at_ - 1) n
    | some .loops => merge72 v w.mask (w.val ||| laBits x)
    | none => merge72 v w.mask w.val
  else v

theorem regAtCycle_eq_foldl (x : PressSt) (c : Nat) (g : PReg) :
    regAtCycle x c g = x.pend.foldl (arrive x c g) (x.r.get g) := rfl

/-- The result does not bear on what a reader of `g` in cycle `c` sees: it comes too late, or goes to another register,
which is no LOOP count. -/
def Unseen (c : Nat) (g : PReg) (w : PWrite) : Prop := c ≤ w.at_ ∨ (w.reg ≠ g ∧ ∀ n, w.reg ≠ .lc n)

/-- A result goes behind those that arrive with it or before it, and ahead of the later ones. -/
theorem pendPut_split (w : PWrite) (l : List PWrite) :
    ∃ a b, l = a ++ b ∧ pendPut w l = a ++ w :: b ∧ (∀ v ∈ a, v.at_ ≤ w.at_) ∧ (InOrder l → ∀ v ∈ b, w.at_ < v.at_) := by
  induction l with
  | nil => exact ⟨[], [], rfl, rfl, by simp, by simp⟩
  | cons h t ih =>
    by_cases hw : w.at_ < h.at_
    · refine ⟨[], h :: t, rfl, by simp [pendPut, hw], by simp, fun ho v hv => ?_⟩
      rcases List.mem_cons.1 hv with rfl | hv
      · exact hw
      · exact hw.trans_le (List.rel_of_pairwise_cons ho hv)
    · obtain ⟨a, b, rfl, hput, ha, hb⟩ := ih
      refine ⟨h :: a, b, rfl, by simp [pendPut, hw, hput], ?_, fun ho => hb (List.Pairwise.of_cons ho)⟩
      simpa using ⟨Nat.le_of_not_lt hw, ha⟩

theorem InOrder.pendPut {l : List PWrite} (h : InOrder l) (w : PWrite) : InOrder (pendPut w l) := by
  obtain ⟨a, b, rfl, hput, ha, hb⟩ := pendPut_split w l
  have hb := hb h
  rw [InOrder, List.pairwise_append] at h
  rw [hput, InOrder, List.pairwise_append, List.pairwise_cons]
  refine ⟨h.1, ⟨fun v hv => (hb v hv).le, h.2.1⟩, fun u hu v hv => ?_⟩
  rcases List.mem_cons.1 hv with rfl | hv
  · exact ha u hu
  · exact h.2.2 u hu v hv

theorem pendAll_cons (w : PWrite) (l : List PWrite) (x : PressSt) : pendAll (w :: l) x = pendAll l (pendAll [w] x) := rfl

theorem pendAll_append (l m : List PWrite) (x : PressSt) : pendAll (l ++ m) x = pendAll m (pendAll l x) := by
  simp [pendAll]

theorem InOrder.pendAll {x : PressSt} (h : InOrder x.pend) (l : List PWrite) : InOrder (pendAll l x).pend := by
  induction l generalizing x with
  | nil => exact h
  | cons w l ih => exact ih (x := Machine.pendAll [w] x) (h.pendPut w)

theorem pend_pendAll_one (w : PWrite) (x : PressSt) :
    ∃ a b, x.pend = a ++ b ∧ (pendAll [w] x).pend = a ++ w :: b ∧ (InOrder x.pend → ∀ v ∈ b, w.at_ < v.at_) := by
  obtain ⟨a, b, hl, hput, -, hb⟩ := pendPut_split w x.pend
  exact ⟨a, b, hl, hput, hb⟩

theorem countAt_pendAll_one {x : PressSt} {c : Nat} {w : PWrite} (h : c ≤ w.at_ ∨ ∀ n, w.reg ≠ .lc n) (n : Fin 2) :
    countAt (pendAll [w] x) c n = countAt x c n := by
  obtain ⟨a, b, hl, hput, -⟩ := pend_pendAll_one w x
  have hw : ¬ (w.at_ < c ∧ w.reg = .lc n) := fun hc => h.elim (Nat.not_le_of_lt hc.1) fun h => h n hc.2
  simp only [countAt, hput, hl, List.foldl_append, List.foldl_cons, if_neg hw]
  rfl

/-- A result that does not bear on `g` in cycle `c` leaves what the others make of it. -/
theorem arrive_pendAll_one {x : PressSt} {c : Nat} {g : PReg} {w : PWrite} (h : Unseen c g w) :
    arrive (pendAll [w] x) c g = arrive x c g := by
  funext v u
  by_cases hu : u.at_ < c ∧ u.reg = g
  · have hn : ∀ n, countAt (pendAll [w] x) (u.at_ - 1) n = countAt x (u.at_ - 1) n :=
      countAt_pendAll_one (h.imp (fun h => by omega) And.right)
    simp only [arrive, if_pos hu, hn]
    rfl
  · simp only [arrive, if_neg hu]

theorem regAtCycle_pendAll_one {x : PressSt} {c : Nat} {g : PReg} {w : PWrite} (h : Unseen c g w) :
    regAtCycle (pendAll [w] x) c g = regAtCycle x c g := by
  obtain ⟨a, b, hl, hput, -⟩ := pend_pendAll_one w x
  have hw : ∀ v, arrive x c g v w = v := fun v =>
    if_neg fun hc => h.elim (Nat.not_le_of_lt hc.1) fun h => h.1 hc.2
  rw [regAtCycle_eq_foldl, regAtCycle_eq_foldl, arrive_pendAll_one h, hput, hl]
  simp only [List.foldl_append, List.foldl_cons, hw]
  rfl

/-- Results that do not bear on a register in cycle `c` leave it as it was seen. -/
theorem regAtCycle_pendAll_unseen {l : List PWrite} {x : PressSt} {c : Nat} {g : PReg} (h : ∀ w ∈ l, Unseen c g w) :
    regAtCycle (pendAll l x) c g = regAtCycle x c g := by
  induction l generalizing x with
  | nil => rfl
  | cons w l ih =>
    rw [pendAll_cons, ih fun u hu => h u (List.mem_cons_of_mem w hu), regAtCycle_pendAll_one (h w List.mem_cons_self)]

/-- The result put last has the last word in the cycle after its arrival. -/
theorem regAtCycle_pendAll_newest {x : PressSt} (h : InOrder x.pend) {w : PWrite} (hw : w.late = none) :
    ∃ v, regAtCycle (pendAll [w] x) (w.at_ + 1) w.reg = merge72 v w.mask w.val := by
  obtain ⟨a, b, -, hput, hb⟩ := pend_pendAll_one w x
  have hlater (v : BitVec 72) : b.foldl (arrive (pendAll [w] x) (w.at_ + 1) w.reg) v = v :=
    (List.foldl_ext _ (fun v _ => v) v fun v u hu => if_neg fun hc => absurd hc.1 (by have := hb h u hu; omega)).trans
      (List.foldl_fixed b)
  refine ⟨a.foldl (arrive (pendAll [w] x) (w.at_ + 1) w.reg) (x.r.get w.reg), ?_⟩
  rw [regAtCycle_eq_foldl, hput, List.foldl_append, List.foldl_cons, hlater, arrive, if_pos ⟨Nat.lt_succ_self _, rfl⟩, hw]
  rfl

/-- Of the results of one word, the last that arrives at the end of its cycle has the last word (R159). -/
theorem regAtCycle_pendAll_last {x : PressSt} (h : InOrder x.pend) (pre : List PWrite) {w : PWrite} (hw : w.late = none)
    {post : List PWrite} (hpost : ∀ u ∈ post, w.at_ < u.at_) :
    ∃ v, regAtCycle (pendAll (pre ++ w :: post) x) (w.at_ + 1) w.reg = merge72 v w.mask w.val := by
  rw [pendAll_append, pendAll_cons, regAtCycle_pendAll_unseen fun u hu => .inl (hpost u hu)]
  exact regAtCycle_pendAll_newest (h.pendAll pre) hw

end Sys2Proof.Machine
end

section
/-!
PROOFS. A Press as a word finds it, and as a word of two move fields leaves it (R157 to R162, R190).
-/

namespace Sys2Proof.Machine

/-! ### The fetch -/

theorem loopCompare_frame (x : PressSt) :
    loopCompare x = { x with r := (loopCompare x).r, pend := (loopCompare x).pend, la := (loopCompare x).la,
                             next := (loopCompare x).next } := by
  unfold loopCompare
  dsimp only
  split
  · rfl
  · split <;> rfl

/-- The loop-end compare takes results out, and puts none in. -/
theorem loopCompare_pend_sublist (x : PressSt) : ((loopCompare x).pend).Sublist x.pend := by
  unfold loopCompare
  dsimp only
  split
  · exact List.filter_sublist
  · split
    · exact List.filter_sublist
    · exact List.Sublist.refl _

/-- A fetch changes the registers, the results in flight, the active loops and the next address, and nothing else. -/
theorem fetchStep_frame (x : PressSt) :
    fetchStep x = { x with r := (fetchStep x).r, pend := (fetchStep x).pend, la := (fetchStep x).la,
                           next := (fetchStep x).next } := by
  unfold fetchStep
  split
  · rfl
  · rw [loopCompare_frame]
    rfl

@[simp] theorem fetchStep_cyc (x : PressSt) : (fetchStep x).cyc = x.cyc := by rw [fetchStep_frame]
@[simp] theorem fetchStep_pc (x : PressSt) : (fetchStep x).pc = x.pc := by rw [fetchStep_frame]
@[simp] theorem fetchStep_br (x : PressSt) : (fetchStep x).br = x.br := by rw [fetchStep_frame]
@[simp] theorem fetchStep_rep (x : PressSt) : (fetchStep x).rep = x.rep := by rw [fetchStep_frame]
@[simp] theorem fetchStep_mode (x : PressSt) : (fetchStep x).mode = x.mode := by rw [fetchStep_frame]

theorem InOrder.map {l : List PWrite} (h : InOrder l) {f : PWrite → PWrite} (hf : ∀ w, (f w).at_ = w.at_) :
    InOrder (l.map f) :=
  List.Pairwise.map f (fun a b hab => by rw [hf, hf]; exact hab) h

theorem settleCounts_inOrder {x : PressSt} (h : InOrder x.pend) (j : Nat) : InOrder (settleCounts j x).pend :=
  h.map fun w => by
    split
    · split <;> rfl
    · split <;> rfl
    · rfl

theorem settleLa_inOrder {x : PressSt} (h : InOrder x.pend) (j : Nat) : InOrder (settleLa j x).pend :=
  h.map fun w => by split <;> rfl

theorem retire_inOrder {x : PressSt} (h : InOrder x.pend) (c : Nat) : InOrder (retire c x).pend :=
  List.Pairwise.filter _ h

theorem fetchStep_inOrder {x : PressSt} (h : InOrder x.pend) : InOrder (fetchStep x).pend := by
  unfold fetchStep
  split
  · exact h
  · exact settleLa_inOrder ((retire_inOrder (settleCounts_inOrder h _) _).sublist (loopCompare_pend_sublist _)) _

theorem atIssue_inOrder {s : State} (hc : Canonical s) (p : Fin 16) : InOrder (atIssue s p).pend := by
  obtain ⟨-, -, -, -, -, -, hpend⟩ := hc
  exact retire_inOrder (fetchStep_inOrder (hpend p).1) _

@[simp] theorem atIssue_cyc (s : State) (p : Fin 16) : (atIssue s p).cyc = s.press[p].cyc := fetchStep_cyc _
@[simp] theorem atIssue_pc (s : State) (p : Fin 16) : (atIssue s p).pc = s.press[p].pc := fetchStep_pc _
@[simp] theorem atIssue_br (s : State) (p : Fin 16) : (atIssue s p).br = s.press[p].br := fetchStep_br _
@[simp] theorem atIssue_mode (s : State) (p : Fin 16) : (atIssue s p).mode = s.press[p].mode := fetchStep_mode _

/-! ### A Press in the state -/

theorem press_setPress_same (s : State) (p : Fin 16) (x : PressSt) : (setPress p x s).press[p] = x := by
  simp

theorem press_setPress_ne (s : State) {p q : Fin 16} (x : PressSt) (h : q ≠ p) :
    (setPress p x s).press[q] = s.press[q] := by
  simp [Fin.val_inj, h.symm]

theorem setPress_setPress (s : State) (p : Fin 16) (x y : PressSt) : setPress p x (setPress p y s) = setPress p x s := by
  simp [setPress]

/-- Setting a Press changes that Press and nothing else. -/
theorem setPress_keepsBut (s : State) (p : Fin 16) (x : PressSt) : KeepsBut [.press] s (setPress p x s) := by
  intro q hq
  cases q
  case press => simp at hq
  all_goals rfl

theorem setPress_otherPresses (s : State) (p : Fin 16) (x : PressSt) : OtherPresses p s (setPress p x s) :=
  fun _ hq => press_setPress_ne s x hq

/-! ### What the stores and errors of a word leave of its Press -/

/-- Beside MSG_RD and a pending FAULT, Press `p` is the same, and so are the role and the debug halt. -/
structure KeepsPress (p : Fin 16) (s t : State) : Prop where
  twin : t.twin = s.twin
  halt : haltBit t p = haltBit s p
  press : t.press[p] = { s.press[p] with
    msgRd := t.press[p].msgRd, fault := t.press[p].fault, faultPc := t.press[p].faultPc }

theorem KeepsPress.refl (p : Fin 16) (s : State) : KeepsPress p s s := ⟨rfl, rfl, rfl⟩

theorem KeepsPress.trans {p : Fin 16} {s t u : State} (h : KeepsPress p s t) (k : KeepsPress p t u) : KeepsPress p s u :=
  ⟨k.twin.trans h.twin, k.halt.trans h.halt, by rw [k.press, h.press]⟩

theorem KeepsPress.foldl {α : Type} {p : Fin 16} {f : State → α → State} (hf : ∀ s a, KeepsPress p s (f s a)) (l : List α)
    (s : State) : KeepsPress p s (l.foldl f s) := by
  induction l generalizing s with
  | nil => exact KeepsPress.refl p s
  | cons a l ih => exact (hf s a).trans (ih (f s a))

/-- A change outside the Presses, the role and CTRL. -/
theorem KeepsPress.of_same {p : Fin 16} {s t : State} (htw : t.twin = s.twin)
    (hctl : rget t (aCTRL (pgPRESS p)) = rget s (aCTRL (pgPRESS p))) (hp : t.press = s.press) : KeepsPress p s t :=
  ⟨htw, by simp only [haltBit, rbit, hctl], by rw [hp]⟩

theorem keepsPress_rset (p : Fin 16) (s : State) {a : Nat} (v : Word) (h : aCTRL (pgPRESS p) ≠ a) :
    KeepsPress p s (rset a v s) :=
  .of_same rfl (rget_rset_ne s v h) rfl

theorem keepsPress_iset (p : Fin 16) (s : State) (g b : Nat) : KeepsPress p s (iset g b s) :=
  keepsPress_rset p s _ (by simp only [aCTRL, aISTAT, pgPRESS, pageAddr]; omega)

theorem keepsPress_stWord (p : Fin 16) (a : Nat) (v : Word) (s : State) : KeepsPress p s (stWord a v s) := by
  have hw : KeepsPress p s (wrWord a v s) := .of_same rfl rfl rfl
  refine hw.trans ?_
  unfold stWord freshen
  split
  · refine KeepsPress.trans ?_ (keepsPress_iset p _ _ _)
    exact .of_same rfl rfl rfl
  · split
    · exact KeepsPress.refl p _
    · exact .of_same rfl rfl rfl

theorem keepsPress_storeLoc (p : Fin 16) (x : PLoc × Word) (s : State) : KeepsPress p s (storeLoc p x s) := by
  unfold storeLoc
  split
  · exact keepsPress_stWord p _ _ s
  · exact ⟨rfl, rfl, by simp⟩
  · exact (keepsPress_rset p s _ (by simp only [aCTRL, aPRESS_SIGNAL, pgPRESS, pageAddr]; omega)).trans
      (keepsPress_iset p _ _ _)
  · exact KeepsPress.refl p s

theorem keepsPress_raiseFault (p : Fin 16) (cause addr : Nat) (pc : BitVec 13) (s : State) :
    KeepsPress p s (raiseFault p cause addr pc s) := by
  unfold raiseFault
  dsimp only
  split
  · exact KeepsPress.refl p s
  · have hset : KeepsPress p s (setPress p { s.press[p] with fault := true, faultPc := pc } s) :=
      ⟨rfl, rfl, by simp⟩
    exact hset.trans (keepsPress_rset p _ _ (by simp only [aCTRL, aPRESS_FAULTINFO, pgPRESS, pageAddr]; omega))

/-! ### Reads without flipped bits -/

/-- With no flipped bit a read meets no error (R411). -/
theorem eccRead_clean {s : State} (h : s.fab.flips = []) (a : Nat) : eccRead a s = (s, false) := by
  simp [eccRead, flipsAt, h, alGet, eccOut]

theorem fetchEcc_clean {s : State} (h : s.fab.flips = []) (p : Fin 16) : fetchEcc p s = (s, false) := by
  simp [fetchEcc, eccRead_clean h]

/-! ### One issue -/

/-- SV, set with the flags of stage 6 when a move of the word has saturated (R191). -/
def svWrites (t : Nat) (es : List MoveEff) : List PWrite :=
  if es.any (·.sv) then [res (t + 5) (.sr, (flg true fSV).setWidth 72, (flg true fSV).setWidth 72)] else []

theorem at_of_mem_svWrites {t : Nat} {es : List MoveEff} {w : PWrite} (h : w ∈ svWrites t es) : w.at_ = t + 5 := by
  unfold svWrites at h
  split at h
  · rw [List.mem_singleton.1 h]
    rfl
  · cases h

/-- The results of a word with the given move effects and arithmetic field (R158, R159, R191). -/
def wordWrites (x : PressSt) (arith : BitVec 22) (es : List MoveEff) : List PWrite :=
  es.flatMap (·.ptr) ++ es.flatMap (·.wr) ++ arithWrites x x.cyc arith ++ svWrites x.cyc es

/-- Press `p` once a word has put the results `ws` in flight, before it passes to the next. -/
def withResults (s : State) (p : Fin 16) (ws : List PWrite) : PressSt :=
  { pendAll ws (atIssue s p) with cyc := (atIssue s p).cyc + 1 }

/-- Press `p` is as a word with the results `ws` leaves it, MSG_RD and a pending FAULT aside. -/
def LeftBy (s : State) (p : Fin 16) (ws : List PWrite) (t : State) : Prop :=
  ∃ m f c, t.press[p] = advancePc { withResults s p ws with msgRd := m, fault := f, faultPc := c }

theorem mode_of_canIssue {s : State} {p : Fin 16} (h : canIssue s p = true) : s.press[p].mode ≠ .faulted := by
  intro hm
  rw [Fin.getElem_fin] at hm
  simp [canIssue, hm] at h

/-- The debug halt does not act where DBG_HALT is 0 or the device is no SOLO (R173). -/
theorem settleDbg_eq_self {s : State} {p : Fin 16} (h : isSolo s = true → haltBit s p = false) : settleDbg p s = s := by
  have hd : dbgStops s p = false := by
    cases hs : isSolo s
    · simp [dbgStops, hs]
    · have hb : rbit s (aCTRL (pgPRESS p)) 7 = false := h hs
      simp [dbgStops, hb]
  simp [settleDbg, hd]

theorem pressIssue_of_issues {s : State} {p : Fin 16} (h : Issues s p) (f : State → State) :
    pressIssue p f s = settleDbg p (f s) := by
  obtain ⟨hcan, -, -, hflips, -⟩ := h
  simp [pressIssue, hcan, fetchEcc_clean hflips]

/-- The reads of a word; with a flipped bit past correction the Press goes to FAULTED (R151). -/
def readBanks (p : Fin 16) (pc : BitVec 13) (l : List Nat) (s : State) : State :=
  l.foldl (fun s a => let r := eccRead a s; if r.2 then enterPressFault p 4 pc.toNat r.1 else r.1) s

/-- What the moves of a word at `pc` do beside their results: stores, address errors, reads (R150, R190). -/
def actMoves (p : Fin 16) (pc : BitVec 13) (es : List MoveEff) (s : State) : State :=
  readBanks p pc (es.flatMap (·.rd))
    ((es.filterMap (·.bad)).foldl (fun u a => raiseFault p 2 a pc u)
      ((es.flatMap (·.st)).foldl (fun u y => storeLoc p y u) s))

theorem issueOnce_eq_actMoves (p : Fin 16) (arith : BitVec 22) (effs : PressSt → Nat → List MoveEff) (s : State)
    {x : PressSt} (hx : retire s.press[p].cyc s.press[p] = x) :
    issueOnce p arith effs s = actMoves p x.pc (effs x x.cyc)
      (setPress p { pendAll (wordWrites x arith (effs x x.cyc)) x with cyc := x.cyc + 1 } s) := by
  subst hx
  rfl

/-- One issue after the fetch: the results go in flight, then the moves act. -/
theorem issueOnce_fetched (s : State) (p : Fin 16) (arith : BitVec 22) {effs : PressSt → Nat → List MoveEff}
    {es : List MoveEff} (he : effs (atIssue s p) (atIssue s p).cyc = es) :
    issueOnce p arith effs (setPress p (fetchStep s.press[p]) s) =
      actMoves p (atIssue s p).pc es (setPress p (withResults s p (wordWrites (atIssue s p) arith es)) s) := by
  rw [issueOnce_eq_actMoves p arith effs _ (x := atIssue s p) (by rw [press_setPress_same]; rfl), setPress_setPress, he]
  rfl

theorem raiseFault_fab (p : Fin 16) (cause addr : Nat) (pc : BitVec 13) (s : State) :
    (raiseFault p cause addr pc s).fab = s.fab := by
  unfold raiseFault
  dsimp only
  split <;> rfl

theorem foldl_raiseFault_fab (p : Fin 16) (pc : BitVec 13) (l : List Nat) (s : State) :
    (l.foldl (fun u a => raiseFault p 2 a pc u) s).fab = s.fab := by
  induction l generalizing s with
  | nil => rfl
  | cons a l ih => exact (ih _).trans (raiseFault_fab p 2 a pc s)

/-- With no flipped bit the reads record nothing. -/
theorem readBanks_clean {s : State} (h : s.fab.flips = []) (p : Fin 16) (pc : BitVec 13) (l : List Nat) :
    readBanks p pc l s = s :=
  List.foldl_fixed' (fun a => by simp [eccRead_clean h]) l

/-- Moves that do not both store and read leave the Press, MSG_RD and FAULT aside. -/
theorem actMoves_keepsPress {s : State} (hflips : s.fab.flips = []) (p : Fin 16) (pc : BitVec 13) {es : List MoveEff}
    (hes : es.flatMap (·.st) = [] ∨ es.flatMap (·.rd) = []) : KeepsPress p s (actMoves p pc es s) := by
  have hstores := KeepsPress.foldl (fun u y => keepsPress_storeLoc p y u) (es.flatMap (·.st)) s
  have hfaults (u : State) := KeepsPress.foldl (fun u a => keepsPress_raiseFault p 2 a pc u) (es.filterMap (·.bad)) u
  rcases hes with hst | hrd
  · rw [actMoves, hst, readBanks_clean (by rw [foldl_raiseFault_fab]; exact hflips)]
    exact hfaults s
  · rw [actMoves, hrd]
    exact hstores.trans (hfaults _)

/-- Moves that neither store, read nor err change nothing. -/
theorem actMoves_of_quiet (p : Fin 16) (pc : BitVec 13) {es : List MoveEff} (hst : es.flatMap (·.st) = [])
    (hrd : es.flatMap (·.rd) = []) (hbad : es.filterMap (·.bad) = []) (s : State) : actMoves p pc es s = s := by
  rw [actMoves, hst, hrd, hbad]
  rfl

/-- The effects of a word's move fields as it issues. -/
def effsOf (s : State) (p : Fin 16) (long : Bool) (mv : BitVec 40) : List MoveEff :=
  dataEffs p long mv (setPress p (fetchStep s.press[p]) s) (atIssue s p) (atIssue s p).cyc

/-- The state once a data word has issued, before its Press passes to the next. -/
def wordIssued (s : State) (p : Fin 16) (long : Bool) (arith : BitVec 22) (mv : BitVec 40) : State :=
  actMoves p (atIssue s p).pc (effsOf s p long mv)
    (setPress p (withResults s p (wordWrites (atIssue s p) arith (effsOf s p long mv))) s)

/-- Without a REP a legal data word issues once, and the Press passes to the next unless it has gone to FAULTED (R161, R167). -/
theorem issueFields_once {s : State} {p : Fin 16} {long : Bool} {arith : BitVec 22} {mv : BitVec 40}
    (hrep : s.press[p].rep = none) (hl : dataLegal long arith mv = true)
    (hmode : (wordIssued s p long arith mv).press[p].mode ≠ .faulted) :
    issueFields p long arith mv s =
      setPress p (advancePc (wordIssued s p long arith mv).press[p]) (wordIssued s p long arith mv) := by
  have hone : issueOnce p arith (dataEffs p long mv (setPress p (fetchStep s.press[p]) s))
      (setPress p (fetchStep s.press[p]) s) = wordIssued s p long arith mv := issueOnce_fetched s p arith rfl
  simp only [issueFields, if_pos hl, issueData, fetchStep_rep, hrep, Option.getD_none, issueTimes, hone, if_neg hmode]

/-- A legal word whose moves do not both store and read leaves the Press by its results (R158, R190). -/
theorem pressIssue_leftBy {s : State} {p : Fin 16} {long : Bool} {arith : BitVec 22} {mv : BitVec 40} (h : Issues s p)
    (hl : dataLegal long arith mv = true)
    (hes : (effsOf s p long mv).flatMap (·.st) = [] ∨ (effsOf s p long mv).flatMap (·.rd) = []) :
    LeftBy s p (wordWrites (atIssue s p) arith (effsOf s p long mv)) (pressIssue p (issueFields p long arith mv) s) := by
  rw [pressIssue_of_issues h]
  obtain ⟨hcan, hrep, -, hflips, hdbg⟩ := h
  have hk : KeepsPress p (setPress p _ s) (wordIssued s p long arith mv) :=
    actMoves_keepsPress (s := setPress p _ s) hflips p _ hes
  have hpress := hk.press
  rw [press_setPress_same] at hpress
  have hmode : (wordIssued s p long arith mv).press[p].mode ≠ .faulted := by
    rw [hpress]
    exact fun hm => mode_of_canIssue hcan ((atIssue_mode s p).symm.trans hm)
  rw [issueFields_once hrep hl hmode, settleDbg_eq_self, LeftBy, press_setPress_same]
  · exact ⟨_, _, _, congrArg advancePc hpress⟩
  · intro hsolo
    refine hk.halt.trans (hdbg ?_)
    rw [isSolo, setPress_twin, hk.twin] at hsolo
    exact hsolo

/-- A legal word whose moves neither store, read nor err changes its Press by its results and nothing else. -/
theorem pressIssue_of_quiet {s : State} {p : Fin 16} {long : Bool} {arith : BitVec 22} {mv : BitVec 40} (h : Issues s p)
    (hl : dataLegal long arith mv = true) (hst : (effsOf s p long mv).flatMap (·.st) = [])
    (hrd : (effsOf s p long mv).flatMap (·.rd) = []) (hbad : (effsOf s p long mv).filterMap (·.bad) = []) :
    pressIssue p (issueFields p long arith mv) s =
      setPress p (advancePc (withResults s p (wordWrites (atIssue s p) arith (effsOf s p long mv)))) s := by
  rw [pressIssue_of_issues h]
  obtain ⟨hcan, hrep, -, -, hdbg⟩ := h
  have hissued : wordIssued s p long arith mv =
      setPress p (withResults s p (wordWrites (atIssue s p) arith (effsOf s p long mv))) s :=
    actMoves_of_quiet p _ hst hrd hbad _
  have hmode : (wordIssued s p long arith mv).press[p].mode ≠ .faulted := by
    rw [hissued, press_setPress_same]
    exact fun hm => mode_of_canIssue hcan ((atIssue_mode s p).symm.trans hm)
  rw [issueFields_once hrep hl hmode, hissued, press_setPress_same, setPress_setPress]
  exact settleDbg_eq_self hdbg

/-! ### What a word leaves of its Press -/

/-- Outside a branch the Press passes to the next address. -/
theorem advancePc_straight {x : PressSt} (h : x.br = none) :
    advancePc x = { x with next := none, rep := none, brkSeen := false, pc := x.next.getD (x.pc + 1) } := by
  simp only [advancePc, h]

/-- A first delay slot is counted (R160). -/
theorem advancePc_slot {x : PressSt} {b : PBranch} (h : x.br = some b) (hb : 1 < b.slots) :
    advancePc x = { x with next := none, rep := none, brkSeen := false, pc := x.next.getD (x.pc + 1),
                           br := some { b with slots := b.slots - 1 } } := by
  simp only [advancePc, h, gt_iff_lt, if_pos hb]

/-- After the last delay slot the Press goes to the target (R160). -/
theorem advancePc_jump {x : PressSt} {b : PBranch} (h : x.br = some b) (hb : ¬ 1 < b.slots) (hr : b.rti = none) :
    advancePc x = { x with next := none, rep := none, brkSeen := false, pc := b.target.getD (x.next.getD (x.pc + 1)),
                           br := none } := by
  simp only [advancePc, h, gt_iff_lt, if_neg hb, hr]

/-- Without a return by RTI the passage to the next word touches only the place in the program (R160). -/
theorem advancePc_frame {x : PressSt} (h : ∀ b, x.br = some b → b.rti = none) :
    advancePc x = { x with next := none, rep := none, brkSeen := false, pc := (advancePc x).pc, br := (advancePc x).br } := by
  cases hbr : x.br with
  | none => rw [advancePc_straight hbr]
  | some b =>
    by_cases hb : 1 < b.slots
    · rw [advancePc_slot hbr hb]
    · rw [advancePc_jump hbr hb (h b hbr)]

/-- A Press that goes on from where its word found it, one cycle later, has passed the word. -/
theorem passed_of_advancePc {s t : State} {p : Fin 16} {x : PressSt} (ht : t.press[p] = advancePc x)
    (hcyc : x.cyc = s.press[p].cyc + 1) (hbr : x.br = s.press[p].br) (hnext : x.next.getD (x.pc + 1) = nextPc s p)
    (hrti : ∀ b, s.press[p].br = some b → b.rti = none) : passed s p t := by
  have hframe := advancePc_frame (x := x) fun b hb => hrti b (hbr.symm.trans hb)
  rw [passed, ht]
  refine ⟨by rw [hframe, hcyc], by rw [hframe], ?_⟩
  cases hb : s.press[p].br with
  | none =>
    rw [advancePc_straight (hbr.trans hb)]
    exact ⟨hnext, hbr.trans hb⟩
  | some b =>
    by_cases hslots : 1 < b.slots
    · rw [advancePc_slot (hbr.trans hb) hslots]
      simp only [if_pos hslots]
      exact ⟨hnext, trivial⟩
    · rw [advancePc_jump (hbr.trans hb) hslots (hrti b hb)]
      simp only [if_neg hslots]
      exact ⟨congrArg b.target.getD hnext, trivial⟩

section
variable {s t : State} {p : Fin 16} {ws : List PWrite} (hrti : ∀ b, s.press[p].br = some b → b.rti = none)
  (hleft : LeftBy s p ws t)
include hrti hleft

theorem press_of_leftBy : ∃ m f c, t.press[p] =
    { withResults s p ws with
      msgRd := m, fault := f, faultPc := c, next := none, rep := none, brkSeen := false, pc := t.press[p].pc, br := t.press[p].br } := by
  obtain ⟨m, f, c, ht⟩ := hleft
  have hbr : ∀ b, (withResults s p ws).br = some b → b.rti = none := fun b hb => hrti b ((atIssue_br s p).symm.trans hb)
  exact ⟨m, f, c, by rw [ht]; exact advancePc_frame hbr⟩

/-- A reader sees the registers with the word's results among those in flight. -/
theorem newAt_of_leftBy (k : Nat) (g : PReg) :
    newAt s t p k g = seenAt (pendAll ws (atIssue s p)) (s.press[p].cyc + k) g := by
  obtain ⟨m, f, c, ht⟩ := press_of_leftBy hrti hleft
  rw [newAt, ht]
  rfl

theorem sameControl_of_leftBy : sameControl s p t := by
  obtain ⟨m, f, c, ht⟩ := press_of_leftBy hrti hleft
  rw [sameControl, ht]
  rfl

theorem passed_of_leftBy : passed s p t := by
  obtain ⟨m, f, c, ht⟩ := hleft
  have hnext : (withResults s p ws).next.getD ((withResults s p ws).pc + 1) = nextPc s p := by
    rw [nextPc, ← atIssue_pc s p]
    rfl
  exact passed_of_advancePc ht (congrArg (· + 1) (atIssue_cyc s p)) (atIssue_br s p) hnext hrti

end

end Sys2Proof.Machine
end

section
/-!
PROOFS. The fields of a parallel word (Tables 06-2 and 06-3), what a move field does to pointer and registers, and the rule
of R156.
-/

namespace Sys2Proof.Machine

/-! ### Fields of a word -/

theorem toNat_moveField (kind : BitVec 2) (mode pn : BitVec 3) (reg low : BitVec 6) :
    (moveField kind mode pn reg low).toNat =
      2 ^ 18 * kind.toNat + (2 ^ 15 * mode.toNat + (2 ^ 12 * pn.toNat + (2 ^ 6 * reg.toNat + low.toNat))) := by
  have hcat {m n : Nat} (x : BitVec m) (y : BitVec n) : (x ++ y).toNat = 2 ^ n * x.toNat + y.toNat := by
    rw [BitVec.toNat_append, ← Nat.shiftLeft_add_eq_or_of_lt y.isLt, Nat.shiftLeft_eq, Nat.mul_comm]
  simp only [moveField, hcat]

section
variable (kind : BitVec 2) (mode pn : BitVec 3) (reg low : BitVec 6)

theorem moveField_kind : (moveField kind mode pn reg low).toNat / 2 ^ 18 = kind.toNat := by
  rw [toNat_moveField]; omega

theorem moveField_mode : (moveField kind mode pn reg low).extractLsb' 15 3 = mode := by
  apply BitVec.eq_of_toNat_eq
  rw [BitVec.extractLsb'_toNat, toNat_moveField, Nat.shiftRight_eq_div_pow]
  omega

theorem moveField_reg : (moveField kind mode pn reg low).extractLsb' 6 6 = reg := by
  apply BitVec.eq_of_toNat_eq
  rw [BitVec.extractLsb'_toNat, toNat_moveField, Nat.shiftRight_eq_div_pow]
  omega

theorem moveField_low : (moveField kind mode pn reg low).extractLsb' 0 6 = low := by
  apply BitVec.eq_of_toNat_eq
  rw [BitVec.extractLsb'_toNat, toNat_moveField, Nat.shiftRight_eq_div_pow]
  omega

theorem moveField_pn : Fin.ofNat 8 ((moveField kind mode pn reg low).toNat / 2 ^ 12) = pn.toFin := by
  apply Fin.ext
  rw [Fin.val_ofNat, toNat_moveField, BitVec.val_toFin]
  omega

theorem moveLegal_pointerField (h : mode.toNat < 6) : moveLegal (moveField 0 mode pn 0 0) = true := by
  have hkind : (moveField 0 mode pn 0 0).toNat / 2 ^ 18 = 0 := moveField_kind 0 mode pn 0 0
  have hmode : (moveField 0 mode pn 0 0).toNat / 2 ^ 15 % 8 = mode.toNat := by rw [toNat_moveField]; simp; omega
  have hlow : (moveField 0 mode pn 0 0).toNat % 64 = 0 := by rw [toNat_moveField]; simp; omega
  simp only [moveLegal, hkind, hmode, hlow, h, decide_true, Bool.and_self]

end

theorem moveFields_x (y : Bool) (f other : BitVec 20) :
    (moveFields y f other).extractLsb' 20 20 = if y then other else f := by
  cases y <;> simp only [moveFields] <;> exact BitVec.extractLsb'_append_eq_left

theorem moveFields_y (y : Bool) (f other : BitVec 20) :
    (moveFields y f other).extractLsb' 0 20 = if y then f else other := by
  cases y <;> simp only [moveFields] <;> exact BitVec.extractLsb'_append_eq_right

/-- A parallel word without arithmetic is legal with its move fields (R188). -/
theorem dataLegal_moveFields {y : Bool} {f other : BitVec 20} (hf : moveLegal f = true) (ho : moveLegal other = true) :
    dataLegal false 0 (moveFields y f other) = true := by
  have ha : arithLegal 0 0 0 0 0 = true := by decide
  cases y <;> simp [dataLegal, moveFields_x, moveFields_y, hf, ho, ha]

theorem effsOf_moveFields (s : State) (p : Fin 16) (y : Bool) (f other : BitVec 20) :
    effsOf s p false (moveFields y f other) =
      let go := moveEff (setPress p (fetchStep s.press[p]) s) p (atIssue s p) (atIssue s p).cyc
      if y then [go false other, go true f] else [go false f, go true other] := by
  cases y <;> simp [effsOf, dataEffs, moveFields_x, moveFields_y]

/-- A word without arithmetic has the results of its moves only. -/
theorem wordWrites_noArith (x : PressSt) (es : List MoveEff) :
    wordWrites x 0 es = es.flatMap (·.ptr) ++ es.flatMap (·.wr) ++ svWrites x.cyc es := by
  simp [wordWrites, arithWrites, arithOp]

/-! ### What one move field does -/

section
variable (s : State) (p : Fin 16) (x : PressSt) (t : Nat) (y : Bool) (f : BitVec 20)

/-- An access writes registers in cycle t + 4 (R158). -/
theorem at_of_mem_accessEff_wr {store pair : Bool} {reg : BitVec 6} {a : Nat} {w : PWrite}
    (h : w ∈ (accessEff s p x t y store pair reg a).wr) : w.at_ = t + 4 := by
  unfold accessEff at h
  dsimp only at h
  split at h
  · split at h
    · simp at h
    · obtain ⟨r, -, rfl⟩ := List.mem_map.1 h
      rfl
  · split at h
    · simp [MoveEff.none] at h
    · obtain ⟨r, -, rfl⟩ := List.mem_map.1 h
      rfl

theorem accessEff_st_or_rd (store pair : Bool) (reg : BitVec 6) (a : Nat) :
    (accessEff s p x t y store pair reg a).st = [] ∨ (accessEff s p x t y store pair reg a).rd = [] := by
  unfold accessEff
  dsimp only
  split
  · exact .inl rfl
  · split
    · exact .inr rfl
    · exact .inl rfl

/-- A move field writes registers in cycle t + 4, its pointer aside (R158). -/
theorem at_of_mem_moveEff_wr {w : PWrite} (h : w ∈ (moveEff s p x t y f).wr) : w.at_ = t + 4 := by
  unfold moveEff at h
  dsimp only at h
  split at h
  · rw [regMoveEff, List.mem_singleton] at h
    rw [h]
    rfl
  · split at h
    · simp [MoveEff.none] at h
    · dsimp only at h
      split at h
      · simp [MoveEff.none] at h
      · exact at_of_mem_accessEff_wr s p x t y h

/-- A move field stores or reads, and not both. -/
theorem moveEff_st_or_rd : (moveEff s p x t y f).st = [] ∨ (moveEff s p x t y f).rd = [] := by
  unfold moveEff
  dsimp only
  split
  · exact .inl rfl
  · split
    · exact .inl rfl
    · dsimp only
      split
      · exact .inl rfl
      · exact accessEff_st_or_rd s p x t y _ _ _ _

theorem moveEff_zero : moveEff s p x t y 0 = MoveEff.none := by
  simp [moveEff, addrForm, MoveEff.none]

end

/-! ### Pointers -/

/-- The result that moves a pointer at the end of cycle `t`. -/
def ptrWrite (t : Nat) (n : Fin 8) (v : BitVec 20) : PWrite := res t (.p n, 0xFFFFF#72, v.setWidth 72)

theorem ptrOp_eq_regAtCycle (s : State) (p : Fin 16) (n : Fin 8) :
    ptrOp s p (.p n) = (regAtCycle (atIssue s p) ((atIssue s p).cyc + 2) (.p n)).setWidth 20 ∧
    ptrOp s p (.m n) = (regAtCycle (atIssue s p) ((atIssue s p).cyc + 2) (.m n)).setWidth 20 ∧
    ptrOp s p (.l n) = (regAtCycle (atIssue s p) ((atIssue s p).cyc + 2) (.l n)).setWidth 20 ∧
    ptrOp s p (.b n) = (regAtCycle (atIssue s p) ((atIssue s p).cyc + 2) (.b n)).setWidth 20 := by
  rw [atIssue_cyc]
  simp [ptrOp, oldAt, seenAt, PressRegs.set, PressRegs.get]

theorem advances_eq (mode : BitVec 3) : advances mode = (decide (mode.toNat ≠ 0) && decide (mode.toNat ≠ 4)) := by
  revert mode; decide

/-- The forms of Table 05-4: the address used, and the pointer afterwards where the mode moves it. -/
theorem addrForm_of_legal (s : State) (p : Fin 16) {mode : BitVec 3} (n : Fin 8) (h : mode.toNat < 6) :
    addrForm mode (ptrOp s p (.l n)) (ptrOp s p (.b n)) (ptrOp s p (.p n)) (ptrOp s p (.m n)) =
      some (moveAddr s p mode n, if advances mode then some (ptrAfter s p mode n) else none) := by
  have h4 : mode = 4#3 ↔ mode.toNat = 4 := BitVec.toNat_inj.symm
  have hneg : BitVec.ofInt 20 (-1) = -1 := by decide
  obtain hm | hm | hm | hm | hm | hm : mode.toNat = 0 ∨ mode.toNat = 1 ∨ mode.toNat = 2 ∨ mode.toNat = 3 ∨
      mode.toNat = 4 ∨ mode.toNat = 5 := by omega
  all_goals simp [addrForm, moveAddr, ptrAfter, advances_eq, h4, hm, hneg]

/-- A move field that addresses memory or a pointer: its access, and the pointer moved by its mode (R190). -/
theorem moveEff_moveField (u s : State) (p : Fin 16) (y : Bool) {kind : BitVec 2} {mode : BitVec 3} (pn : BitVec 3)
    (reg low : BitVec 6) (hk : kind.toNat ≠ 3) (hm : mode.toNat < 6) :
    moveEff u p (atIssue s p) (atIssue s p).cyc y (moveField kind mode pn reg low) =
      { (if kind.toNat = 0 then MoveEff.none
          else accessEff u p (atIssue s p) (atIssue s p).cyc y (kind.toNat == 2) (low.getLsbD 0) reg
            (moveAddr s p mode pn.toFin).toNat) with
        ptr := if advances mode then [ptrWrite ((atIssue s p).cyc + 2) pn.toFin (ptrAfter s p mode pn.toFin)] else [] } := by
  obtain ⟨hp, hm', hl, hb⟩ := ptrOp_eq_regAtCycle s p pn.toFin
  have hform := addrForm_of_legal s p pn.toFin hm
  rw [hp, hm', hl, hb] at hform
  simp only [moveEff, moveField_kind, moveField_mode, moveField_pn, moveField_reg, moveField_low, if_neg hk, hform]
  cases advances mode <;> rfl

/-! ### R156 -/

section
variable {l b p m : BitVec 20}

theorem upd_of_zero (h : l = 0) : upd l b p m = p + m := if_pos h

theorem upd_of_reverse (h : l = 0xFFFFF#20) : upd l b p m = b + ((p - b).reverse + m.reverse).reverse := by
  subst h; rfl

theorem upd_of_modulo (h0 : l ≠ 0) (h1 : l ≠ 0xFFFFF#20) :
    upd l b p m =
      if (b.toNat + l.toNat : Int) ≤ p.toNat + m.toInt then p + m - l
      else if (p.toNat + m.toInt : Int) < b.toNat then p + m + l
      else p + m := by
  simp only [upd, if_neg h0, if_neg h1, ge_iff_le]

end

end Sys2Proof.Machine
end

section
/-!
PROOFS. POINTER_UPDATE (R155, R156, R190).
-/

namespace Sys2Proof.Machine

/-- The move fields of the word of a pointer update. -/
def ptrFields (x : PtrArgs) : BitVec 40 := moveFields x.y (moveField 0 x.mode x.pn 0 0) x.other

theorem exec_pointerUpdate (p : Fin 16) (x : PtrArgs) (s : State) :
    exec (.pointerUpdate p x) s = .next (pressIssue p (issueFields p false 0 (ptrFields x)) s) := rfl

theorem setWidth_merge72_low20 (v : BitVec 72) (a : BitVec 20) :
    (merge72 v 0xFFFFF#72 (a.setWidth 72)).setWidth 20 = a := by
  have hout : (~~~0xFFFFF#72).setWidth 20 = 0#20 := by decide
  have hin : (0xFFFFF#72).setWidth 20 = BitVec.allOnes 20 := by decide
  rw [merge72, BitVec.setWidth_or, BitVec.setWidth_and, BitVec.setWidth_and, hout, hin]
  simp only [BitVec.and_zero, BitVec.zero_or, BitVec.and_allOnes]
  exact BitVec.setWidth_setWidth_of_le a (by decide)

/-- The pointer is visible from the third cycle on, and the result last put says what it is (R158, R159). -/
theorem seenAt_pendAll_ptrWrite {x : PressSt} (h : InOrder x.pend) (c : Nat) (n : Fin 8) (v : BitVec 20) (pre : List PWrite)
    {post : List PWrite} (hpost : ∀ u ∈ post, c < u.at_) :
    seenAt (pendAll (pre ++ ptrWrite c n v :: post) x) (c + 1) (.p n) = v.setWidth 72 := by
  obtain ⟨o, ho⟩ := regAtCycle_pendAll_last h pre (w := ptrWrite c n v) rfl hpost
  have hreg : regAtCycle (pendAll (pre ++ ptrWrite c n v :: post) x) (c + 1) (.p n) =
      merge72 o 0xFFFFF#72 (v.setWidth 72) := ho
  simp [seenAt, PressRegs.set, PressRegs.get, hreg, setWidth_merge72_low20]

/-- A pointer that moves leaves every other register as it was seen. -/
theorem seenAt_pendAll_ptrWrite_ne (x : PressSt) (t c : Nat) {n : Fin 8} (v : BitVec 20) {g : PReg} (hg : g ≠ .p n) :
    seenAt (pendAll [ptrWrite t n v] x) c g = seenAt x c g := by
  have hreg : regAtCycle (pendAll [ptrWrite t n v] x) c g = regAtCycle x c g :=
    regAtCycle_pendAll_one (.inr ⟨hg.symm, fun _ => PReg.noConfusion⟩)
  rw [seenAt, hreg]
  rfl

/-- What the word does to its pointer. -/
def ptrResult (s : State) (p : Fin 16) (x : PtrArgs) : PWrite :=
  ptrWrite (s.press[p].cyc + 2) x.pn.toFin (ptrAfter s p x.mode x.pn.toFin)

section
variable {s : State} {p : Fin 16} {x : PtrArgs} (hm : x.mode.toNat < 6) (hadv : advances x.mode = true)

include hm hadv

theorem moveEff_pointerUpdate (u : State) (y : Bool) :
    moveEff u p (atIssue s p) (atIssue s p).cyc y (moveField 0 x.mode x.pn 0 0) =
      { MoveEff.none with ptr := [ptrResult s p x] } := by
  rw [moveEff_moveField u s p y x.pn 0 0 (by decide) hm, if_pos hadv, atIssue_cyc]
  rfl

/-- Beside an idle field the pointer update is all that the word does. -/
theorem effsOf_ptrFields_alone (ho : x.other = 0) :
    effsOf s p false (ptrFields x) = if x.y then [MoveEff.none, { MoveEff.none with ptr := [ptrResult s p x] }]
      else [{ MoveEff.none with ptr := [ptrResult s p x] }, MoveEff.none] := by
  simp only [ptrFields, effsOf_moveFields, ho, moveEff_zero, moveEff_pointerUpdate hm hadv]

/-- In the Y field the pointer update comes after the X field. -/
theorem effsOf_ptrFields_y (hy : x.y = true) :
    effsOf s p false (ptrFields x) =
      [moveEff (setPress p (fetchStep s.press[p]) s) p (atIssue s p) (atIssue s p).cyc false x.other,
        { MoveEff.none with ptr := [ptrResult s p x] }] := by
  simp only [ptrFields, effsOf_moveFields, hy, if_true, moveEff_pointerUpdate hm hadv]

theorem wordWrites_ptrFields_alone (ho : x.other = 0) :
    wordWrites (atIssue s p) 0 (effsOf s p false (ptrFields x)) = [ptrResult s p x] := by
  rw [effsOf_ptrFields_alone hm hadv ho, wordWrites_noArith]
  cases x.y <;> rfl

/-- The word of a pointer update alone moves its pointer and changes nothing outside its Press (R190). -/
theorem pressIssue_ptrFields_alone (hi : Issues s p) (ho : x.other = 0) :
    pressIssue p (issueFields p false 0 (ptrFields x)) s =
      setPress p (advancePc (withResults s p [ptrResult s p x])) s := by
  have hl : dataLegal false 0 (ptrFields x) = true :=
    dataLegal_moveFields (moveLegal_pointerField _ _ hm) (by rw [ho]; decide)
  have hes := effsOf_ptrFields_alone (s := s) (p := p) hm hadv ho
  have hw := wordWrites_ptrFields_alone (s := s) (p := p) hm hadv ho
  rw [pressIssue_of_quiet hi hl, hw]
  all_goals rw [hes]; cases x.y <;> rfl

/-- Whatever the other field does, a pointer update in the Y field has the last word on its pointer. -/
theorem wordWrites_ptrFields_y (hy : x.y = true) :
    ∃ pre post, wordWrites (atIssue s p) 0 (effsOf s p false (ptrFields x)) = pre ++ ptrResult s p x :: post ∧
      ∀ u ∈ post, s.press[p].cyc + 2 < u.at_ := by
  rw [effsOf_ptrFields_y hm hadv hy, wordWrites_noArith]
  simp only [MoveEff.none, List.flatMap_cons, List.flatMap_nil, List.append_nil, List.append_assoc, List.singleton_append]
  refine ⟨_, _, rfl, fun u hu => ?_⟩
  rcases List.mem_append.1 hu with hwr | hflag
  · rw [at_of_mem_moveEff_wr _ _ _ _ _ _ hwr, atIssue_cyc]
    omega
  · rw [at_of_mem_svWrites hflag, atIssue_cyc]
    omega

/-- The word of a pointer update leaves its Press by results of which none after the update arrives with it. -/
theorem leftBy_ptrFields (hi : Issues s p) (ho : x.other = 0 ∨ x.y = true ∧ moveLegal x.other = true) :
    ∃ pre post, LeftBy s p (pre ++ ptrResult s p x :: post) (pressIssue p (issueFields p false 0 (ptrFields x)) s) ∧
      ∀ u ∈ post, s.press[p].cyc + 2 < u.at_ := by
  rcases ho with ho | ⟨hy, hlegal⟩
  · refine ⟨[], [], ?_, by simp⟩
    rw [pressIssue_ptrFields_alone hm hadv hi ho, LeftBy, press_setPress_same]
    exact ⟨_, _, _, rfl⟩
  · have hl : dataLegal false 0 (ptrFields x) = true := dataLegal_moveFields (moveLegal_pointerField _ _ hm) hlegal
    obtain ⟨pre, post, hws, hpost⟩ := wordWrites_ptrFields_y (s := s) (p := p) hm hadv hy
    refine ⟨pre, post, hws ▸ pressIssue_leftBy hi hl ?_, hpost⟩
    rw [effsOf_ptrFields_y hm hadv hy]
    simpa [MoveEff.none] using moveEff_st_or_rd _ p (atIssue s p) (atIssue s p).cyc false x.other

/-- The pointer by its mode is what a reader sees from the third cycle on (R156, R158). -/
theorem newAt_ptrFields (hc : Canonical s) (hi : Issues s p) (ho : x.other = 0 ∨ x.y = true ∧ moveLegal x.other = true) :
    newAt s (pressIssue p (issueFields p false 0 (ptrFields x)) s) p 3 (.p x.pn.toFin) =
      (ptrAfter s p x.mode x.pn.toFin).setWidth 72 := by
  obtain ⟨pre, post, hleft, hpost⟩ := leftBy_ptrFields hm hadv hi ho
  obtain ⟨-, -, hrti, -, -⟩ := hi
  rw [newAt_of_leftBy hrti hleft]
  exact seenAt_pendAll_ptrWrite (atIssue_inOrder hc p) _ _ _ pre hpost

/-- The word of a pointer update alone changes its pointer and nothing else (R190). -/
theorem frame_ptrFields_alone (hi : Issues s p) (ho : x.other = 0) :
    let t := pressIssue p (issueFields p false 0 (ptrFields x)) s
    MemSame s t ∧ KeepsRegs s p [.p x.pn.toFin] t ∧ KeepsBut [.press] s t := by
  have ht := pressIssue_ptrFields_alone hm hadv hi ho
  obtain ⟨-, -, hrti, -, -⟩ := hi
  have hleft : LeftBy s p [ptrResult s p x] (setPress p (advancePc (withResults s p [ptrResult s p x])) s) := by
    rw [LeftBy, press_setPress_same]
    exact ⟨_, _, _, rfl⟩
  have hreg (g : PReg) (k : Nat) (hg : g ≠ .p x.pn.toFin) :
      newAt s (setPress p (advancePc (withResults s p [ptrResult s p x])) s) p k g = oldAt s p k g := by
    rw [newAt_of_leftBy hrti hleft]
    exact seenAt_pendAll_ptrWrite_ne _ _ _ _ hg
  rw [ht]
  exact ⟨fun _ => rfl,
    ⟨passed_of_leftBy hrti hleft, sameControl_of_leftBy hrti hleft, setPress_otherPresses _ _ _,
      fun g k _ hg => hreg g k (by simpa using hg), fun b _ _ => by rw [hreg .sr 6 PReg.noConfusion]⟩,
    setPress_keepsBut _ _ _⟩

end

/-- The modes of a pointer update, with their steps (Table 05-4). -/
theorem ptrAfter_of_step {s : State} {p : Fin 16} {mode : BitVec 3} {n : Fin 8} {m : BitVec 20}
    (h : (mode = 1 ∧ m = 1) ∨ (mode = 2 ∧ m = -1) ∨ (mode = 3 ∧ m = ptrOp s p (.m n)) ∨ (mode = 5 ∧ m = 2)) :
    mode.toNat < 6 ∧ advances mode = true ∧
      ptrAfter s p mode n = upd (ptrOp s p (.l n)) (ptrOp s p (.b n)) (ptrOp s p (.p n)) m := by
  rcases h with ⟨rfl, rfl⟩ | ⟨rfl, rfl⟩ | ⟨rfl, rfl⟩ | ⟨rfl, rfl⟩ <;> exact ⟨by decide, by decide, rfl⟩

/-- Settles O37: the update's result is the last that arrives at its pointer by the third cycle, and it is R156's. -/
theorem pointerUpdateFollowsR156 : Obligations.PointerUpdateFollowsR156 := by
  unfold Obligations.PointerUpdateFollowsR156
  intro s p x n m q hc hi ho hn hstep hq
  obtain rfl : n = x.pn.toFin := Fin.ext hn
  obtain ⟨hm, hadv, hafter⟩ := ptrAfter_of_step hstep
  have hnew := newAt_ptrFields hm hadv hc hi ho
  rw [hafter] at hnew
  refine ⟨_, exec_pointerUpdate p x s, ?_⟩
  simp only [hnew]
  refine ⟨fun h => by rw [upd_of_zero h], fun h => by rw [upd_of_reverse h], fun h0 h1 => ?_,
    frame_ptrFields_alone hm hadv hi⟩
  rw [upd_of_modulo h0 h1, ← hq]
  exact ⟨fun hhigh => by rw [if_pos hhigh], fun hlow => by rw [if_neg (by omega), if_pos hlow],
    fun hlow hhigh => by rw [if_neg (by omega), if_neg (by omega)]⟩

end Sys2Proof.Machine
end

section
/-!
PROOFS. What keeps the part of the Reference Selector and the DPLL through a fold or a branch.
-/

namespace Sys2Proof.Machine

/-! ### Folds and branches -/

/-- What every step of a fold leaves alone, the fold leaves alone. -/
theorem foldl_keeps {α β γ : Type} (p : β → γ) {f : β → α → β} (h : ∀ b x, p (f b x) = p b) (l : List α) (b : β) :
    p (l.foldl f b) = p b :=
  List.foldlRecOn (motive := fun a => p a = p b) l f rfl fun a ha x _ => (h a x).trans ha

@[simp] theorem foldl_dpll {α : Type} {f : State → α → State} (h : ∀ s x, (f s x).dpll = s.dpll) (l : List α)
    (s : State) : (l.foldl f s).dpll = s.dpll := foldl_keeps State.dpll h l s

@[simp] theorem foldl_fst_dpll {α β : Type} {f : State × β → α → State × β} (h : ∀ a x, (f a x).1.dpll = a.1.dpll)
    (l : List α) (a : State × β) : (l.foldl f a).1.dpll = a.1.dpll := foldl_keeps (·.1.dpll) h l a

@[simp] theorem foldl_snd_dpll {α β : Type} {f : β × State → α → β × State} (h : ∀ a x, (f a x).2.dpll = a.2.dpll)
    (l : List α) (a : β × State) : (l.foldl f a).2.dpll = a.2.dpll := foldl_keeps (·.2.dpll) h l a

@[simp] theorem ite_dpll (c : Prop) [Decidable c] (s t : State) :
    (if c then s else t).dpll = if c then s.dpll else t.dpll := apply_ite ..

@[simp] theorem ite_fst_dpll {β : Type} (c : Prop) [Decidable c] (a b : State × β) :
    (if c then a else b).1.dpll = if c then a.1.dpll else b.1.dpll := apply_ite (fun x : State × β => x.1.dpll) ..

@[simp] theorem ite_snd_dpll {β : Type} (c : Prop) [Decidable c] (a b : β × State) :
    (if c then a else b).2.dpll = if c then a.2.dpll else b.2.dpll := apply_ite (fun x : β × State => x.2.dpll) ..

@[simp] theorem foldl_rset_dpll {α : Type} (a : State → α → Nat) (v : State → α → Word) (l : List α) (s : State) :
    (l.foldl (fun s x => rset (a s x) (v s x) s) s).dpll = s.dpll := foldl_dpll (fun _ _ => rset_dpll ..) l s

end Sys2Proof.Machine
end

section
/-!
PROOFS. The part of the Reference Selector and the DPLL is left alone by the operations of the state, its events and the
gains.
-/

namespace Sys2Proof.Machine

variable (s : State)

/-! ### Registers and memory -/

@[simp] theorem rput_dpll (a hi lo v : Nat) : (rput a hi lo v s).dpll = s.dpll := rfl
@[simp] theorem cnt_dpll (a : Nat) (n : Nat) : (cnt a s n).dpll = s.dpll := rfl
@[simp] theorem peak_dpll (a n : Nat) : (peak a n s).dpll = s.dpll := by simp [peak]
@[simp] theorem iset_dpll (p b : Nat) : (iset p b s).dpll = s.dpll := rfl
@[simp] theorem errcap_dpll (p code addr : Nat) : (errcap p code addr s).dpll = s.dpll := by simp [errcap]
@[simp] theorem alarm_dpll (b : Nat) : (alarm b s).dpll = s.dpll := rfl
@[simp] theorem wrWord_dpll (a : Nat) (v : Word) : (wrWord a v s).dpll = s.dpll := rfl

@[simp] theorem wrWordBe_dpll (a : Nat) (be : BitVec 4) (v : Word) :
    (wrWordBe a be v s).dpll = s.dpll := by simp [wrWordBe]

@[simp] theorem cwBytes_dpll (a : Nat) (l : List Byte) : (cwBytes a l s).dpll = s.dpll := by
  induction l generalizing a s with
  | nil => rfl
  | cons v t ih => exact ih ..

@[simp] theorem freeWord_dpll : (freeWord s).2.dpll = s.dpll := rfl
@[simp] theorem freeBelow_dpll (k : Nat) : (freeBelow k s).2.dpll = s.dpll := rfl
@[simp] theorem advance_dpll (t : Nat) : (advance t s).dpll = s.dpll := by simp [advance]

@[simp] theorem awake_dpll {f : State → State} (h : ∀ s, (f s).dpll = s.dpll) : (awake f s).dpll = s.dpll := by
  simp [awake, h]

/-! ### The pair as every chapter sees it -/

@[simp] theorem voidFlight_dpll : (voidFlight s).dpll = s.dpll := rfl
@[simp] theorem leaveRole_dpll (t : TwinState) : (leaveRole t s).dpll = s.dpll := by simp [leaveRole]
@[simp] theorem setTwin_dpll (t : TwinState) : (setTwin t s).dpll = s.dpll := by simp [setTwin]
@[simp] theorem releaseOutputs_dpll : (releaseOutputs s).dpll = s.dpll := by simp [releaseOutputs]
@[simp] theorem hbStatic_dpll : (hbStatic s).dpll = s.dpll := rfl
@[simp] theorem hbToggle_dpll : (hbToggle s).dpll = s.dpll := rfl
@[simp] theorem enterTwinFault_dpll (cause : Nat) : (enterTwinFault cause s).dpll = s.dpll := by simp [enterTwinFault]
@[simp] theorem enterFenced_dpll : (enterFenced s).dpll = s.dpll := by simp [enterFenced]
@[simp] theorem requestRelease_dpll (r : Release) : (requestRelease r s).dpll = s.dpll := by simp [requestRelease]

@[simp] theorem immediateRelease_dpll (cause : Nat) :
    (immediateRelease cause s).dpll = s.dpll := by simp [immediateRelease]

@[simp] theorem standbyFault_dpll (cause : Nat) : (standbyFault cause s).dpll = s.dpll := by simp [standbyFault]
@[simp] theorem twinEccFault_dpll : (twinEccFault s).dpll = s.dpll := by simp [twinEccFault]
@[simp] theorem sendCell_dpll (ch : Nat) (body : CellBody) : (sendCell ch body s).dpll = s.dpll := by simp [sendCell]

@[simp] theorem partnerLost_dpll : (partnerLost s).dpll = s.dpll := by
  unfold partnerLost
  dsimp only
  split
  · simp
  · split <;> simp

@[simp] theorem markBad_dpll : (markBad s).dpll = s.dpll := rfl

/-! ### Coded memory -/

@[simp] theorem setFlips_dpll (a v : Nat) : (setFlips a v s).dpll = s.dpll := rfl
@[simp] theorem eccLast_dpll (a : Nat) (ue : Bool) : (eccLast a ue s).dpll = s.dpll := rfl

@[simp] theorem autoRemap_dpll (a : Nat) (g : Fin 4) : (autoRemap a g s).dpll = s.dpll := by
  unfold autoRemap
  dsimp only
  split
  · split <;> simp
  · simp

@[simp] theorem settleData_dpll (a residual : Nat) : (settleData a residual s).dpll = s.dpll := by simp [settleData]

@[simp] theorem eccCorrect_dpll (a residual : Nat) : (eccCorrect a residual s).dpll = s.dpll := by
  unfold eccCorrect
  split <;> simp

@[simp] theorem eccUncorrectable_dpll (a : Nat) : (eccUncorrectable a s).dpll = s.dpll := by
  unfold eccUncorrectable
  split <;> simp

@[simp] theorem eccRead_dpll (a : Nat) : (eccRead a s).1.dpll = s.dpll := by
  unfold eccRead
  split <;> simp

@[simp] theorem stageMiss_dpll : (stageMiss s).dpll = s.dpll := rfl
@[simp] theorem dmaRead_dpll (a : Nat) : (dmaRead a s).2.dpll = s.dpll := by simp [dmaRead]

@[simp] theorem freshen_dpll (a : Nat) : (freshen a s).dpll = s.dpll := by
  unfold freshen
  split <;> simp

@[simp] theorem stWord_dpll (a : Nat) (v : Word) : (stWord a v s).dpll = s.dpll := by simp [stWord]

@[simp] theorem stWords_dpll (a : Nat) (l : List Word) : (stWords a l s).dpll = s.dpll := by
  induction l generalizing a s with
  | nil => rfl
  | cons v t ih => simp [stWords, ih]

@[simp] theorem stWordBe_dpll (a : Nat) (be : BitVec 4) (v : Word) :
    (stWordBe a be v s).1.dpll = s.dpll := by simp [stWordBe]

/-! ### Events and their completion -/

@[simp] theorem mapFlight_dpll (f : Ev → Ev) : (mapFlight f s).dpll = s.dpll := rfl

@[simp] theorem record_dpll (e : Ev) (outcome late land done : Nat) :
    (record e outcome late land done s).dpll = s.dpll := by simp [record]

@[simp] theorem cancelDeps_dpll (n : Nat) (t : Word) : (cancelDeps n t s).dpll = s.dpll := by
  induction n generalizing t s with
  | zero => rfl
  | succ n ih => simp [cancelDeps, ih]

@[simp] theorem applyCancel_dpll (target : Word) : (applyCancel target s).1.dpll = s.dpll := by
  unfold applyCancel
  split <;> simp

@[simp] theorem selectCancel_dpll (e : Ev) : (selectCancel e s).1.dpll = s.dpll := by simp [selectCancel]
@[simp] theorem deferred_dpll : (deferred s).dpll = s.dpll := by simp [deferred]

@[simp] theorem joinSel_dpll (e : Ev) : (joinSel e s).dpll = s.dpll := by
  unfold joinSel
  extract_lets free _ r l u
  have hu : u.dpll = s.dpll := by simp [u, r]
  clear_value u
  split
  · simp
  · split <;> simp [hu]

@[simp] theorem releaseDeps_dpll (t : Word) (c : Nat) : (releaseDeps t c s).dpll = s.dpll := by simp [releaseDeps]

@[simp] theorem finish_dpll (e : Ev) (outcome late land done : Nat) :
    (finish e outcome late land done s).dpll = s.dpll := by simp [finish]

@[simp] theorem finishAt_dpll (e : Ev) (done : Nat) : (finishAt e done s).dpll = s.dpll := by simp [finishAt]
@[simp] theorem popLanding_dpll : (popLanding s).dpll = s.dpll := rfl
@[simp] theorem keepRunning_dpll (e : Ev) : (keepRunning e s).dpll = s.dpll := rfl

@[simp] theorem finishRunning_dpll (t : Word) (done : Nat) : (finishRunning t done s).dpll = s.dpll := by
  unfold finishRunning
  split <;> simp

@[simp] theorem applyImmCancel_dpll (e : Ev) : (applyImmCancel e s).dpll = s.dpll := by simp [applyImmCancel]
@[simp] theorem selectCancels_dpll (l : List Ev) : (selectCancels l s).dpll = s.dpll := by simp [selectCancels]

@[simp] theorem selectWith_dpll (f : Nat) (jd : State → Ev → Ev) :
    (selectWith f jd s).dpll = s.dpll := by simp [selectWith]

@[simp] theorem selectFor_dpll : (selectFor s).dpll = s.dpll := by simp [selectFor]
@[simp] theorem selectHold_dpll : (selectHold s).dpll = s.dpll := by simp [selectHold]
@[simp] theorem selectNow_dpll : (selectNow s).dpll = s.dpll := by simp [selectNow]
@[simp] theorem selectGap_dpll : (selectGap s).dpll = s.dpll := by simp [selectGap]

@[simp] theorem classCDrop_dpll (t : Word) : (classCDrop t s).dpll = s.dpll := by
  unfold classCDrop
  split <;> simp

@[simp] theorem enqueue_dpll (e : Ev) : (enqueue e s).dpll = s.dpll := by simp [enqueue]

/-! ### Moves and laws -/

@[simp] theorem badCode_dpll (key : Nat) : (badCode key s).dpll = s.dpll := by simp [badCode]
@[simp] theorem dropMove_dpll (key : Nat) : (dropMove key s).dpll = s.dpll := rfl
@[simp] theorem setKeyWord_dpll (key : Nat) (w : Word) : (setKeyWord key w s).dpll = s.dpll := by simp [setKeyWord]

@[simp] theorem takeMove_dpll (key : Nat) : (takeMove key s).dpll = s.dpll := by
  unfold takeMove
  split
  · simp
  · split <;> simp

@[simp] theorem startChange_dpll (key : Nat) (w0 : Word) (zc : Option Nat) (ticket : Option Word) :
    (startChange key w0 zc ticket s).dpll = s.dpll := by simp [startChange]

@[simp] theorem pointChange_dpll (entry : Option Word) (key : Nat) (w : Word) (zc : Option Nat) :
    (pointChange entry key w zc s).1.dpll = s.dpll := by
  unfold pointChange
  dsimp only
  split
  · split <;> simp
  · simp

@[simp] theorem waitStart_dpll (w : WaitChg) (rest : List WaitChg) : (waitStart w rest s).dpll = s.dpll := by
  unfold waitStart
  dsimp only
  split <;> simp

@[simp] theorem tryRecallDone_dpll (t : Word) : (tryRecallDone t s).dpll = s.dpll := by
  unfold tryRecallDone
  split <;> simp

@[simp] theorem epochEnd_dpll : (epochEnd s).dpll = s.dpll := by
  unfold epochEnd
  dsimp only
  split <;> simp

@[simp] theorem slotRelease_dpll (key : Nat) : (slotRelease key s).dpll = s.dpll := by
  unfold slotRelease
  repeat' split
  all_goals simp

@[simp] theorem zcTimeoutRamp_dpll (key : Nat) : (zcTimeoutRamp key s).dpll = s.dpll := rfl
@[simp] theorem shadowUnlock_dpll : (shadowUnlock s).dpll = s.dpll := by simp [shadowUnlock]

end Sys2Proof.Machine
end

section
/-!
PROOFS. The part of the Reference Selector and the DPLL is left alone by the operations of the Basin, the time axes and the
ports.
-/

namespace Sys2Proof.Machine

variable (s : State)

/-! ### The Basin -/

@[simp] theorem sluiceTicket_dpll (t : Word) (d : Nat) : (sluiceTicket t d s).dpll = s.dpll := by simp [sluiceTicket]
@[simp] theorem setSluice_dpll (x : Sluice) : (setSluice x s).dpll = s.dpll := rfl

@[simp] theorem routeChange_dpll (o : Nat) (cur w : Word) (l : Nat) (ticket : Option Word) :
    (routeChange o cur w l ticket s).dpll = s.dpll := by
  unfold routeChange
  repeat' split
  all_goals simp

@[simp] theorem sluiceEnd_dpll (o : Nat) : (sluiceEnd o s).dpll = s.dpll := by
  unfold sluiceEnd
  split <;> simp

@[simp] theorem formeParam_dpll (entry : Word) (addr : Nat) (v : Word) :
    (formeParam entry addr v s).1.dpll = s.dpll := by simp [formeParam]

@[simp] theorem overtake_dpll : (overtake s).dpll = s.dpll := rfl

@[simp] theorem recallMove_dpll (t : Word) (s0 : State) (key : Nat) : (recallMove t s0 key s).dpll = s.dpll := by
  simp [recallMove]

@[simp] theorem recallLand_dpll (e : Ev) : (recallLand e s).dpll = s.dpll := by simp [recallLand]
@[simp] theorem basinWait_dpll (e : Ev) : (basinWait e s).dpll = s.dpll := rfl
@[simp] theorem recallForme_dpll (e : Ev) : (recallForme e s).dpll = s.dpll := by simp [recallForme]

@[simp] theorem slotWaitStart_dpll (key : Nat) : (slotWaitStart key s).dpll = s.dpll := by
  unfold slotWaitStart
  split <;> simp

@[simp] theorem setGainZc_dpll (e : Ev) : (setGainZc e s).dpll = s.dpll := by
  unfold setGainZc
  split
  · split <;> simp
  · simp

@[simp] theorem sluiceRoute_dpll (e : Ev) : (sluiceRoute e s).dpll = s.dpll := by
  unfold sluiceRoute
  split <;> simp

@[simp] theorem formeStore_dpll (a : Nat) (be : BitVec 4) (v : Word) :
    (formeStore a be v s).1.dpll = s.dpll := by simp [formeStore]

@[simp] theorem formeCrcStart_dpll (b : Bool) : (formeCrcStart b s).dpll = s.dpll := rfl

@[simp] theorem formeCrcDone_dpll : (formeCrcDone s).dpll = s.dpll := by
  unfold formeCrcDone
  split <;> simp

/-! ### The time axes -/

@[simp] theorem wheelTaken_dpll : (wheelTaken s).dpll = s.dpll := setTb_dpll ..

@[simp] theorem countPulse_dpll (at_ : Nat) (rev : Bool) : (countPulse at_ rev s).dpll = s.dpll := by
  unfold countPulse
  dsimp only
  split
  · split <;> simp
  · simp

@[simp] theorem tachAEdge_dpll (at_ : Nat) : (tachAEdge at_ s).dpll = s.dpll := by simp [tachAEdge]
@[simp] theorem tachRise_dpll (at_ : Nat) (b : Bool) : (tachRise at_ b s).dpll = s.dpll := by simp [tachRise]
@[simp] theorem tachPulse_dpll (x : PinEdge) (b : Bool) : (tachPulse x b s).dpll = s.dpll := by simp [tachPulse]
@[simp] theorem tachQuietRelease_dpll (at_ : Nat) : (tachQuietRelease at_ s).dpll = s.dpll := by simp [tachQuietRelease]

@[simp] theorem tachStuck_dpll (at_ : Nat) (pinB : Bool) : (tachStuck at_ pinB s).dpll = s.dpll := by
  unfold tachStuck
  dsimp only
  split <;> simp

@[simp] theorem tachBEdge_dpll (x : PinEdge) : (tachBEdge x s).dpll = s.dpll := by simp [tachBEdge]
@[simp] theorem standstill_dpll (at_ : Nat) : (standstill at_ s).dpll = s.dpll := by simp [standstill]
@[simp] theorem cntLow_dpll : (cntLow s).dpll = s.dpll := by simp [cntLow]
@[simp] theorem cntEdge_dpll (x : PinEdge) : (cntEdge x s).dpll = s.dpll := by simp [cntEdge]
@[simp] theorem cntQuietRelease_dpll (at_ : Nat) : (cntQuietRelease at_ s).dpll = s.dpll := by simp [cntQuietRelease]

@[simp] theorem cntStuck_dpll (at_ : Nat) : (cntStuck at_ s).dpll = s.dpll := by
  unfold cntStuck
  dsimp only
  split <;> simp

@[simp] theorem cntInLow_dpll (at_ phase : Nat) : (cntInLow at_ phase s).dpll = s.dpll := by simp [cntInLow]
@[simp] theorem corrSubmit_dpll (hi : Word) : (corrSubmit hi s).dpll = s.dpll := by simp [corrSubmit]
@[simp] theorem corrDone_dpll : (corrDone s).dpll = s.dpll := by simp [corrDone]

@[simp] theorem axisTick_dpll (at_ : Nat) : (axisTick at_ s).dpll = s.dpll := by
  unfold axisTick
  dsimp only
  split <;> simp

/-! ### The frame of the Basin -/

@[simp] theorem watch_dpll (f : Nat) (cls : Nat → Bool) (prev cur : Nat → Int) :
    (watch f cls prev cur s).dpll = s.dpll := rfl

@[simp] theorem basinReads_dpll (f : Nat) : (basinReads f s).dpll = s.dpll := by simp [basinReads]
@[simp] theorem governor_dpll (ins trims : Samples) : (governor ins trims s).dpll = s.dpll := rfl
@[simp] theorem zoneGapBegin_dpll (z : Nat) : (zoneGapBegin z s).dpll = s.dpll := rfl

@[simp] theorem closeFrame_dpll (f : Nat) (ins raw : Samples) : (closeFrame f ins raw s).dpll = s.dpll := by
  simp only [closeFrame, setBasin_dpll, peak_dpll, ite_dpll, iset_dpll, cnt_dpll, watch_dpll, governor_dpll,
    basinReads_dpll, ite_self]

/-! ### Port groups, AES3, ASRC -/

@[simp] theorem setGrp_dpll (g : Fin 4) (x : GroupSt) : (setGrp g x s).dpll = s.dpll := rfl
@[simp] theorem flowLoses_dpll (c : Nat) : (flowLoses c s).dpll = s.dpll := by simp [flowLoses]
@[simp] theorem mapConf_dpll (g : Fin 4) (m : Nat) : (mapConf g m s).dpll = s.dpll := by simp [mapConf]
@[simp] theorem asrcUnlock_dpll (i : Nat) : (asrcUnlock i s).dpll = s.dpll := by simp [asrcUnlock]
@[simp] theorem dropChanges_dpll (g : Fin 4) : (dropChanges g s).dpll = s.dpll := by simp [dropChanges]
@[simp] theorem groupOff_dpll (g : Fin 4) : (groupOff g s).dpll = s.dpll := by simp [groupOff]
@[simp] theorem settleStop_dpll (g : Fin 4) : (settleStop g s).dpll = s.dpll := by simp [settleStop]
@[simp] theorem leaveRun_dpll (g : Fin 4) (st : GState) : (leaveRun g st s).dpll = s.dpll := by simp [leaveRun]
@[simp] theorem enterMismatch_dpll (g : Fin 4) : (enterMismatch g s).dpll = s.dpll := by simp [enterMismatch]
@[simp] theorem groupEn_dpll (g : Fin 4) (en : Bool) : (groupEn g en s).dpll = s.dpll := by simp [groupEn]

@[simp] theorem portChange_dpll (g : Fin 4) (m : Nat) (kind : ChgKind) (v : Word) (direct : Bool)
    (ticket : Option Word) :
    (portChange g m kind v direct ticket s).1.dpll = s.dpll := by simp [portChange]

@[simp] theorem dirSet_dpll (g : Fin 4) (out : Bool) (m : Nat) (on : Bool) : (dirSet g out m on s).dpll = s.dpll := rfl
@[simp] theorem fillOut_dpll (g : Fin 4) (m base : Nat) : (fillOut g m base s).dpll = s.dpll := by simp [fillOut]
@[simp] theorem portAct_dpll (g : Fin 4) (m : Nat) (v : Word) : (portAct g m v s).1.dpll = s.dpll := by simp [portAct]

@[simp] theorem maskAct_dpll (g : Fin 4) (out : Bool) (m : Nat) (v : Word) :
    (maskAct g out m v s).dpll = s.dpll := by simp [maskAct]

@[simp] theorem chgDone_dpll (c : PortChg) : (chgDone c s).dpll = s.dpll := by
  unfold chgDone
  split <;> simp

@[simp] theorem chgRun_dpll (g : Fin 4) (l : List PortChg) : (chgRun g l s).dpll = s.dpll := by
  induction l generalizing s with
  | nil => rfl
  | cons c t ih =>
    unfold chgRun
    dsimp only
    split <;> simp [ih]

@[simp] theorem chgApply_dpll (g : Fin 4) (i : GroupIn) : (chgApply g i s).dpll = s.dpll := by simp [chgApply]
@[simp] theorem rxSample_dpll (g : Fin 4) (i : SlotIn) : (rxSample g i s).2.dpll = s.dpll := by simp [rxSample]
@[simp] theorem rxSlot_dpll (g : Fin 4) (k : Nat) (i : SlotIn) : (rxSlot g k i s).dpll = s.dpll := by simp [rxSlot]

@[simp] theorem rxRepeat_dpll (g : Fin 4) (k : Nat) (ms : List Nat) :
    (rxRepeat g k ms s).dpll = s.dpll := by simp [rxRepeat]

@[simp] theorem txStep_dpll (m : Fin 8) : (txStep m s).dpll = s.dpll := rfl
@[simp] theorem txSlot_dpll (g : Fin 4) (k m sl : Nat) : (txSlot g k m sl s).dpll = s.dpll := by simp [txSlot]
@[simp] theorem txFrame_dpll (g : Fin 4) : (txFrame g s).dpll = s.dpll := by simp [txFrame]
@[simp] theorem aesQualify_dpll : (aesQualify s).dpll = s.dpll := by simp [aesQualify]

@[simp] theorem reassign_dpll (g : Fin 4) (glitch : Bool) (phase : Nat) :
    (reassign g glitch phase s).dpll = s.dpll := by simp [reassign]

@[simp] theorem runFrame_dpll (g : Fin 4) (i : GroupIn) : (runFrame g i s).dpll = s.dpll := by simp [runFrame]

@[simp] theorem groupFrame_dpll (g : Fin 4) (i : GroupIn) : (groupFrame g i s).dpll = s.dpll := by
  unfold groupFrame
  dsimp only
  split <;> simp

@[simp] theorem enterRun_dpll (g : Fin 4) (phi0 : Nat) : (enterRun g phi0 s).dpll = s.dpll := by simp [enterRun]

@[simp] theorem qualifyPass_dpll (g : Fin 4) (phi0 : Nat) :
    (qualifyPass g phi0 s).dpll = s.dpll := by simp [qualifyPass]

@[simp] theorem clockStop_dpll (g : Fin 4) : (clockStop g s).dpll = s.dpll := by
  unfold clockStop
  dsimp only
  split <;> simp

@[simp] theorem clockReturn_dpll (g : Fin 4) : (clockReturn g s).dpll = s.dpll := by simp [clockReturn]

@[simp] theorem faultFadeEnd_dpll (g : Fin 4) : (faultFadeEnd g s).dpll = s.dpll := by
  unfold faultFadeEnd
  dsimp only
  split <;> simp

@[simp] theorem portZcTimeout_dpll (c : PortSlot) : (portZcTimeout c s).dpll = s.dpll := by
  unfold portZcTimeout
  dsimp only
  split
  · split <;> simp
  · simp

@[simp] theorem portRampEnd_dpll (c : PortSlot) : (portRampEnd c s).dpll = s.dpll := by
  unfold portRampEnd
  dsimp only
  split <;> simp

@[simp] theorem regWords_dpll (a : Nat) (l : List Word) : (regWords a l s).dpll = s.dpll := by
  induction l generalizing a s with
  | nil => rfl
  | cons v t ih => exact ih ..

@[simp] theorem setAes_dpll (m : Fin 8) (y : Aes3St) : (setAes m y s).dpll = s.dpll := rfl

@[simp] theorem csBlock_dpll (m : Fin 8) (sub : Nat) (cs : List Byte) :
    (csBlock m sub cs s).dpll = s.dpll := by simp [csBlock]

@[simp] theorem rxLeave_dpll (m : Fin 8) : (rxLeave m s).dpll = s.dpll := by simp [rxLeave]
@[simp] theorem rxStop_dpll (m : Fin 8) : (rxStop m s).dpll = s.dpll := by simp [rxStop]
@[simp] theorem rxGlitch_dpll (m : Fin 8) : (rxGlitch m s).dpll = s.dpll := by simp [rxGlitch]
@[simp] theorem rxRate_dpll (m : Fin 8) (rate : Nat) : (rxRate m rate s).dpll = s.dpll := by simp [rxRate]

@[simp] theorem rxPhase_dpll (m : Fin 8) (phase : Nat) : (rxPhase m phase s).dpll = s.dpll := by
  unfold rxPhase
  dsimp only
  split
  · simp
  · split <;> simp

@[simp] theorem aes3Block_dpll (m : Fin 8) (b : Aes3In) : (aes3Block m b s).dpll = s.dpll := by simp [aes3Block]
@[simp] theorem aes3Lock_dpll (m : Fin 8) (lock : Bool) : (aes3Lock m lock s).dpll = s.dpll := by simp [aes3Lock]
@[simp] theorem txCommit_dpll (m : Fin 8) : (txCommit m s).dpll = s.dpll := rfl

@[simp] theorem txCommitAct_dpll (m : Fin 8) : (txCommitAct m s).dpll = s.dpll := by
  unfold txCommitAct
  split <;> simp

@[simp] theorem ratioLock_dpll (i : Fin 16) (ratio : Word) : (ratioLock i ratio s).dpll = s.dpll := by
  unfold ratioLock
  repeat' split
  all_goals simp

@[simp] theorem asrcSlot_dpll (w : Word) (on : Bool) : (asrcSlot w on s).dpll = s.dpll := by simp [asrcSlot]

@[simp] theorem asrcChange_dpll (c : Nat) (old new : Word) :
    (asrcChange c old new s).dpll = s.dpll := by simp [asrcChange]

@[simp] theorem portSample_dpll (g : Fin 4) (m : Fin 8) (sl f : Nat) :
    (portSample g m sl f s).2.dpll = s.dpll := by simp [portSample]

@[simp] theorem portInputs_dpll (f : Nat) : (portInputs f s).2.dpll = s.dpll := by
  unfold portInputs
  rw [foldl_snd_dpll]
  intro a g
  rw [foldl_snd_dpll]
  intro a m
  dsimp only
  split
  · rw [foldl_snd_dpll]
    intro a sl
    split <;> simp
  · rfl

@[simp] theorem portOutputs_dpll (j : Nat) (out : Samples) : (portOutputs j out s).dpll = s.dpll :=
  foldl_dpll (fun s g => foldl_dpll (fun s m => by simp) ..) ..

end Sys2Proof.Machine
end

section
/-!
PROOFS. The part of the Reference Selector and the DPLL is left alone by the operations of links, flows, the Cistern and the
Jet paths.
-/

namespace Sys2Proof.Machine

variable (s : State)

/-! ### Links and packets -/

@[simp] theorem sendPkt_dpll (n : Fin 2) (t : Nat) (p : SentPkt) : (sendPkt n t p s).dpll = s.dpll := rfl

@[simp] theorem drainPort_dpll (n : Fin 2) (k : Nat) : (drainPort n k s).dpll = s.dpll := by
  induction k generalizing s with
  | zero => rfl
  | succ k ih =>
    unfold drainPort
    split <;> simp [ih]

@[simp] theorem netDrain_dpll : (netDrain s).dpll = s.dpll := by simp [netDrain]

@[simp] theorem enqueuePkt_dpll (n : Fin 2) (c : Nat) (p : SentPkt) :
    (enqueuePkt n c p s).dpll = s.dpll := by simp [enqueuePkt]

@[simp] theorem learnAt_dpll (mac : BitVec 48) (port : Nat) : (learnAt mac port s).dpll = s.dpll := by simp [learnAt]
@[simp] theorem epSend_dpll (n : Fin 2) (c : Nat) (p : SentPkt) : (epSend n c p s).dpll = s.dpll := by simp [epSend]

@[simp] theorem epReport_dpll (n : Fin 2) (vid : Nat) (group src : Word) (join : Bool) :
    (epReport n vid group src join s).dpll = s.dpll := by simp [epReport]

@[simp] theorem epReports_dpll (n : Fin 2) : (epReports n s).dpll = s.dpll := by simp [epReports]
@[simp] theorem linkUp_dpll (n : Fin 2) (speedOk : Bool) : (linkUp n speedOk s).dpll = s.dpll := by simp [linkUp]
@[simp] theorem linkDown_dpll (n : Fin 2) (hiBer : Bool) : (linkDown n hiBer s).dpll = s.dpll := by simp [linkDown]
@[simp] theorem portOff_dpll (n : Fin 2) : (portOff n s).dpll = s.dpll := by simp [portOff]
@[simp] theorem learn_dpll (k : NetPkt) : (learn k s).dpll = s.dpll := by simp [learn]
@[simp] theorem macAgeOut_dpll (mac : BitVec 48) : (macAgeOut mac s).dpll = s.dpll := rfl

@[simp] theorem igmpReport_dpll (port : Nat) (r : Word × Bool) :
    (igmpReport port s r).dpll = s.dpll := by simp [igmpReport]

@[simp] theorem igmpLapse_dpll (group : Word) : (igmpLapse group s).dpll = s.dpll := rfl
@[simp] theorem epQuery_dpll (n : Fin 2) : (epQuery n s).dpll = s.dpll := by simp [epQuery]
@[simp] theorem igmpQuery_dpll : (igmpQuery s).dpll = s.dpll := by simp [igmpQuery]

@[simp] theorem tcCorrect_dpll (ig eg : Nat) (p : PtpPass) : (tcCorrect ig eg p s).1.dpll = s.dpll := by
  unfold tcCorrect
  dsimp only
  split <;> simp

@[simp] theorem egress_dpll (k : NetPkt) (c : Nat) (cut : Bool) (eg : Fin 3) : (egress k c cut eg s).dpll = s.dpll := by
  unfold egress
  dsimp only
  repeat' split
  all_goals simp

@[simp] theorem routesPlain_dpll (k : NetPkt) : (routesPlain k s).2.dpll = s.dpll := by
  unfold routesPlain
  repeat' split
  all_goals simp

@[simp] theorem routes_dpll (k : NetPkt) : (routes k s).2.dpll = s.dpll := by
  unfold routes
  split <;> simp

@[simp] theorem packetReceive_dpll (k : NetPkt) : (packetReceive k s).dpll = s.dpll := by
  unfold packetReceive
  split <;> simp

@[simp] theorem mgmtAccept_dpll (m : MgmtPkt) : (mgmtAccept m s).1.dpll = s.dpll := by simp [mgmtAccept]
@[simp] theorem discover_dpll (m : MgmtPkt) : (discover m s).dpll = s.dpll := by simp [discover]
@[simp] theorem announce_dpll (m : MgmtPkt) : (announce m s).dpll = s.dpll := by simp [announce]

@[simp] theorem nodeDupClear_dpll : (nodeDupClear s).dpll = s.dpll := by
  unfold nodeDupClear
  split <;> simp

/-! ### Flows -/

@[simp] theorem streamSel_dpll (tx : Bool) : (streamSel tx s).dpll = s.dpll := by simp [streamSel]
@[simp] theorem setRx_dpll (x : RxFlow) : (setRx x s).dpll = s.dpll := rfl
@[simp] theorem setFlowSt_dpll (x : RxFlow) (st : FlowSt) : (setFlowSt x st s).dpll = s.dpll := by simp [setFlowSt]
@[simp] theorem flowConf_dpll (f : Nat) : (flowConf f s).dpll = s.dpll := by simp [flowConf]
@[simp] theorem flowJoin_dpll (join : Bool) (e : List Word) : (flowJoin join e s).dpll = s.dpll := by simp [flowJoin]

@[simp] theorem commitEntry_dpll (tx : Bool) (f : Nat) (e : List Word) :
    (commitEntry tx f e s).dpll = s.dpll := by simp [commitEntry]

@[simp] theorem streamCommit_dpll (tx next : Bool) : (streamCommit tx next s).dpll = s.dpll := by
  unfold streamCommit
  dsimp only
  split <;> simp

@[simp] theorem netBytes_dpll (n : Nat) : (netBytes n s).dpll = s.dpll := rfl

@[simp] theorem putFrame_dpll (x : RxFlow) (f : Nat) (ws : List Word) : (putFrame x f ws s).dpll = s.dpll := by
  unfold putFrame
  split
  · simp
  · split <;> simp

@[simp] theorem usePacket_dpll (x : RxFlow) (ts : Word) (bytes : List Byte) :
    (usePacket x ts bytes s).dpll = s.dpll := by simp [usePacket]

@[simp] theorem rxFail_dpll (x : RxFlow) (path : Nat) : (rxFail x path s).dpll = s.dpll := by simp [rxFail]

@[simp] theorem rxOnTime_dpll (x : RxFlow) (path : Nat) (k : AudioPkt) :
    (rxOnTime x path k s).dpll = s.dpll := by simp [rxOnTime]

@[simp] theorem rxSsrc_dpll (x : RxFlow) (ssrc : Word) : (rxSsrc x ssrc s).dpll = s.dpll := by simp [rxSsrc]
@[simp] theorem rxMatched_dpll (x : RxFlow) (k : AudioPkt) : (rxMatched x k s).dpll = s.dpll := by simp [rxMatched]

@[simp] theorem flowPacket_dpll (f : Fin 256) (k : AudioPkt) : (flowPacket f k s).dpll = s.dpll := by
  unfold flowPacket
  dsimp only
  split <;> simp

@[simp] theorem patchCaptured_dpll (x : RxFlow) (fresh : Bool) (ts : Word) (bytes : List Byte) :
    (patchCaptured x fresh ts bytes s).dpll = s.dpll := by
  unfold patchCaptured
  dsimp only
  repeat' split
  all_goals simp

@[simp] theorem standbyUse_dpll (u : Fin 256 × Word × Bool) : (standbyUse u s).dpll = s.dpll := by
  unfold standbyUse
  split
  · simp
  · split <;> simp

@[simp] theorem flowLoss_dpll (f : Fin 256) : (flowLoss f s).dpll = s.dpll := by
  unfold flowLoss
  split <;> simp

@[simp] theorem fclkSeqs_dpll (j : Nat) (rx tx : Nat → List Word → List ChanSeq → List ChanSeq) :
    (fclkSeqs j rx tx s).dpll = s.dpll := rfl

@[simp] theorem fclkLock_dpll (j : Fin 4) (lock : Bool) (ratio : Word) :
    (fclkLock j lock ratio s).dpll = s.dpll := by simp [fclkLock]

@[simp] theorem flowAsrcSlot_dpll (w : Word) (on : Bool) : (flowAsrcSlot w on s).dpll = s.dpll := by simp [flowAsrcSlot]

@[simp] theorem asrcFlowChange_dpll (old new : Word) :
    (asrcFlowChange old new s).dpll = s.dpll := by simp [asrcFlowChange]

@[simp] theorem sendCopy_dpll (x : TxFlow) (e : List Word) (path : Fin 2) (bytes : List Byte) (seq : Nat) (ts : Word) :
    (sendCopy x e path bytes seq ts s).dpll = s.dpll := by simp [sendCopy]

@[simp] theorem sendPacket_dpll (x : TxFlow) (e : List Word) (p first : Nat) (rows : List (List Word)) :
    (sendPacket x e p first rows s).dpll = s.dpll := by simp [sendPacket]

@[simp] theorem setTx_dpll (x : TxFlow) : (setTx x s).dpll = s.dpll := rfl

@[simp] theorem flowSend_dpll (f : Fin 256) : (flowSend f s).dpll = s.dpll := by
  unfold flowSend
  dsimp only
  split
  · simp
  · split <;> simp

@[simp] theorem takeOverFlows_dpll (window : Nat) : (takeOverFlows window s).dpll = s.dpll :=
  foldl_dpll (fun s x => by dsimp only; split <;> simp) ..

@[simp] theorem flowSample_dpll (x : RxFlow) (c f : Nat) : (flowSample x c f s).2.dpll = s.dpll := by
  unfold flowSample
  dsimp only
  split <;> simp

@[simp] theorem flowInputs_dpll (f : Nat) (a : Samples × State) : (flowInputs f a).2.dpll = a.2.dpll :=
  foldl_snd_dpll (fun a n => by split <;> simp) ..

@[simp] theorem stageFlows_dpll : (stageFlows s).dpll = s.dpll := by simp [stageFlows]

@[simp] theorem flowAsrcOut_dpll (e : List Word) (c : Nat) (a : (List Word × List ChanSeq) × State) :
    (flowAsrcOut e c a).2.dpll = a.2.dpll := by
  simp [flowAsrcOut]

@[simp] theorem flowOutputs_dpll (j : Nat) (out : Samples) : (flowOutputs j out s).dpll = s.dpll :=
  foldl_dpll (fun s x => by
    dsimp only
    split
    · rfl
    · split
      · rw [setTx_dpll]
        exact foldl_snd_dpll (fun a _ => by simp) ..
      · simp) ..

@[simp] theorem applyCommits_dpll : (applyCommits s).dpll = s.dpll := by simp [applyCommits]

/-! ### The Cistern -/

@[simp] theorem dramTouch_dpll (port line n : Nat) : (dramTouch port line n s).dpll = s.dpll := rfl

@[simp] theorem cistWordStore_dpll (a : Nat) (l : List Byte) (w : Nat) (x : State × Bool) :
    (cistWordStore a l w x).1.dpll = x.1.dpll := by
  simp [cistWordStore]

@[simp] theorem cistWrite_dpll (port a : Nat) (l : List Byte) :
    (cistWrite port a l s).1.dpll = s.dpll := by simp [cistWrite]

@[simp] theorem cistStore_dpll (port a : Nat) (l : List Byte) :
    (cistStore port a l s).dpll = s.dpll := by simp [cistStore]

@[simp] theorem cistFetch_dpll (port a n : Nat) : (cistFetch port a n s).2.1.dpll = s.dpll := by simp [cistFetch]
@[simp] theorem shedRaise_dpll (n : Nat) : (shedRaise n s).dpll = s.dpll := by simp [shedRaise]
@[simp] theorem shedMeasure_dpll (p : Nat) : (shedMeasure p s).dpll = s.dpll := by simp [shedMeasure]
@[simp] theorem shedWithdraw_dpll : (shedWithdraw s).dpll = s.dpll := by simp [shedWithdraw]
@[simp] theorem degradeMeasures_dpll : (degradeMeasures s).dpll = s.dpll := by simp [degradeMeasures]
@[simp] theorem enterDegraded_dpll : (enterDegraded s).dpll = s.dpll := by simp [enterDegraded]
@[simp] theorem enterLost_dpll : (enterLost s).dpll = s.dpll := by simp [enterLost]
@[simp] theorem enterNormal_dpll : (enterNormal s).dpll = s.dpll := rfl
@[simp] theorem voidContents_dpll : (voidContents s).dpll = s.dpll := by simp [voidContents]
@[simp] theorem putEyes_dpll (l : List LaneEye) : (putEyes l s).dpll = s.dpll := by simp [putEyes]
@[simp] theorem putDlys_dpll (l : List LaneEye) : (putDlys l s).dpll = s.dpll := by simp [putDlys]
@[simp] theorem eyesReport_dpll (l : List LaneEye) : (eyesReport l s).dpll = s.dpll := by simp [eyesReport]
@[simp] theorem trainedNow_dpll : (trainedNow s).dpll = s.dpll := rfl
@[simp] theorem startTraining_dpll : (startTraining s).dpll = s.dpll := rfl
@[simp] theorem afterTraining_dpll : (afterTraining s).dpll = s.dpll := by simp [afterTraining]
@[simp] theorem trainingDone_dpll (r : TrainIn) : (trainingDone r s).dpll = s.dpll := by simp [trainingDone]
@[simp] theorem retrainStart_dpll : (retrainStart s).dpll = s.dpll := by simp [retrainStart]
@[simp] theorem retrainTrigger_dpll (t : Nat) : (retrainTrigger t s).dpll = s.dpll := by simp [retrainTrigger]

@[simp] theorem retrainSlice_dpll : (retrainSlice s).dpll = s.dpll := by
  unfold retrainSlice
  split <;> simp

@[simp] theorem retrainDone_dpll (i : TrainIn) : (retrainDone i s).dpll = s.dpll := by
  unfold retrainDone
  dsimp only
  split <;> simp

@[simp] theorem retrainAbort_dpll : (retrainAbort s).dpll = s.dpll := by
  unfold retrainAbort
  split <;> simp

@[simp] theorem ceWindowEnd_dpll : (ceWindowEnd s).dpll = s.dpll := by simp [ceWindowEnd]

@[simp] theorem dramRefresh_dpll (rank : Fin 2) (u : Fin 4) : (dramRefresh rank u s).dpll = s.dpll := by
  unfold dramRefresh
  split
  · simp
  · split <;> simp

@[simp] theorem rowCloseTimeout_dpll (bank : Fin 32) :
    (rowCloseTimeout bank s).dpll = s.dpll := by simp [rowCloseTimeout]

@[simp] theorem dlyApply_dpll (i : Nat) (e : List Word) : (dlyApply i e s).dpll = s.dpll := by simp [dlyApply]
@[simp] theorem dlySel_dpll : (dlySel s).dpll = s.dpll := by simp [dlySel]

@[simp] theorem dlyCommit_dpll (next : Bool) : (dlyCommit next s).dpll = s.dpll := by
  unfold dlyCommit
  dsimp only
  split <;> simp

@[simp] theorem applyDlyCommits_dpll : (applyDlyCommits s).dpll = s.dpll := by simp [applyDlyCommits]

@[simp] theorem lineStore_dpll (l : DLine) (f : Nat) (v : Word) :
    (lineStore l f v s).dpll = s.dpll := by simp [lineStore]

@[simp] theorem lineFetch_dpll (l : DLine) (d j : Nat) : (lineFetch l d j s).2.dpll = s.dpll := by simp [lineFetch]

@[simp] theorem lineMix_dpll (l : DLine) (j : Nat) (acc : Int) (p : List (Nat × Nat)) :
    (lineMix l j acc p s).2.dpll = s.dpll := by
  induction p generalizing acc s with
  | nil => rfl
  | cons x t ih => simp [lineMix, ih]

@[simp] theorem lineValue_dpll (l : DLine) (j : Nat) : (lineValue l j s).2.dpll = s.dpll := by
  unfold lineValue
  split <;> simp

@[simp] theorem delayXfadeEnd_dpll (i : Nat) : (delayXfadeEnd i s).dpll = s.dpll := by
  unfold delayXfadeEnd
  split
  · simp
  · split <;> simp

@[simp] theorem blockLines_dpll (k : Nat) : (blockLines k s).dpll = s.dpll := by simp [blockLines]

@[simp] theorem stagingDeadline_dpll (missing : List Nat) : (stagingDeadline missing s).dpll = s.dpll :=
  foldl_dpll (fun s m => by split <;> simp) ..

@[simp] theorem alignLines_dpll (j : Nat) (out : Samples) : (alignLines j out s).2.dpll = s.dpll := by simp [alignLines]
@[simp] theorem rsvEnter_dpll : (rsvEnter s).dpll = s.dpll := by simp [rsvEnter]
@[simp] theorem rsvLeave_dpll : (rsvLeave s).dpll = s.dpll := rfl

@[simp] theorem reserveMove_dpll : (reserveMove s).dpll = s.dpll := by
  unfold reserveMove
  split <;> simp

@[simp] theorem apWrite_dpll (a : Nat) (be : BitVec 4) (v : Word) :
    (apWrite a be v s).1.dpll = s.dpll := by simp [apWrite]

/-! ### Pulse outputs -/

@[simp] theorem outPhase_dpll (o h : Nat) : (outPhase o h s).dpll = s.dpll := by
  unfold outPhase
  split <;> simp

/-! ### Jet paths -/

@[simp] theorem jetReown_dpll : (jetReown s).dpll = s.dpll := rfl
@[simp] theorem jetEnable_dpll (p : Nat) : (jetEnable p s).dpll = s.dpll := by simp [jetEnable]
@[simp] theorem jetDisable_dpll (p : Nat) : (jetDisable p s).dpll = s.dpll := rfl
@[simp] theorem jetMuteChange_dpll (p : Nat) (on : Bool) : (jetMuteChange p on s).dpll = s.dpll := rfl

@[simp] theorem jetPathChange_dpll (p : Nat) (old new : Word) :
    (jetPathChange p old new s).dpll = s.dpll := by simp [jetPathChange]

@[simp] theorem jetEnChange_dpll (en : Bool) : (jetEnChange en s).dpll = s.dpll := by simp [jetEnChange]
@[simp] theorem jetXfadeEnd_dpll (p : Nat) : (jetXfadeEnd p s).dpll = s.dpll := by simp [jetXfadeEnd]

/-! ### Protection -/

@[simp] theorem protFault_dpll (rwp : Bool) (l a : Nat) (write remote : Bool) :
    (protFault rwp l a write remote s).dpll = s.dpll := by simp [protFault]

@[simp] theorem rangeApply_dpll (k : Nat) : (rangeApply k s).dpll = s.dpll := rfl

/-! ### Recorder and Player -/

@[simp] theorem segAccept_dpll (t : Word) (p : List Word) : (segAccept t p s).dpll = s.dpll := by
  unfold segAccept
  exact foldl_dpll (fun s i => (rset_dpll ..).trans (rset_dpll ..)) ..

@[simp] theorem segFree_dpll (t : Word) : (segFree t s).dpll = s.dpll := by simp [segFree]
@[simp] theorem segLand_dpll (e : Ev) : (segLand e s).dpll = s.dpll := rfl
@[simp] theorem recordFrame_dpll (f : Nat) : (recordFrame f s).dpll = s.dpll := by simp [recordFrame]
@[simp] theorem recDrain_dpll (n : Nat) : (recDrain n s).dpll = s.dpll := by simp [recDrain]
@[simp] theorem recFreeze_dpll (t : Word) : (recFreeze t s).dpll = s.dpll := by simp [recFreeze]

@[simp] theorem segmentComplete_dpll (t : Word) : (segmentComplete t s).dpll = s.dpll := by
  unfold segmentComplete
  split
  · simp
  · split <;> simp

@[simp] theorem voiceDone_dpll : (voiceDone s).dpll = s.dpll := rfl
@[simp] theorem playLand_dpll (e : Ev) : (playLand e s).dpll = s.dpll := by simp [playLand]

@[simp] theorem stopPlayLand_dpll (e : Ev) : (stopPlayLand e s).dpll = s.dpll := by
  unfold stopPlayLand
  dsimp only
  split <;> simp

@[simp] theorem voiceRaw_dpll (x : VoiceRun) (k : Nat) : (voiceRaw x k s).2.dpll = s.dpll := by simp [voiceRaw]

@[simp] theorem voiceSample_dpll (x : VoiceRun) (j : Nat) (missing : Bool) :
    (voiceSample x j missing s).2.dpll = s.dpll := by simp [voiceSample]

@[simp] theorem playerInputs_dpll (j : Nat) (missing : List (Fin 256)) (a : Samples × State) :
    (playerInputs j missing a).2.dpll = a.2.dpll := by
  simp [playerInputs]

@[simp] theorem runEnd_dpll (x : VoiceRun) (c : Nat) : (runEnd x c s).dpll = s.dpll := by simp [runEnd]

@[simp] theorem voiceEnd_dpll (v : Nat) : (voiceEnd v s).dpll = s.dpll := by
  unfold voiceEnd
  split <;> simp

@[simp] theorem stopFadeEnd_dpll (v : Nat) : (stopFadeEnd v s).dpll = s.dpll := by
  unfold stopFadeEnd
  split <;> simp

end Sys2Proof.Machine
end

section
/-!
PROOFS. The part of the Reference Selector and the DPLL is left alone by the operations of the Galley, the sense unit, the
pair and the clocks.
-/

namespace Sys2Proof.Machine

variable (s : State)

/-! ### The Galley -/

@[simp] theorem acceptSide_dpll (ev : Ev) : (acceptSide ev s).dpll = s.dpll := by
  unfold acceptSide
  split <;> simp

@[simp] theorem journal_dpll (ev : Ev) : (journal ev s).dpll = s.dpll := by simp [journal]
@[simp] theorem resumeTickets_dpll : (resumeTickets s).dpll = s.dpll := rfl
@[simp] theorem handOver_dpll (ev : Ev) (noTable : Bool) : (handOver ev noTable s).dpll = s.dpll := by simp [handOver]

@[simp] theorem actionDone_dpll (i status : Nat) (ticket : Word) :
    (actionDone i status ticket s).dpll = s.dpll := by simp [actionDone]

@[simp] theorem respond_dpll (x : Taken) : (respond x s).dpll = s.dpll := by simp [respond]

@[simp] theorem answer_dpll (x : Taken) : (answer x s).dpll = s.dpll := by
  unfold answer
  split <;> simp

@[simp] theorem settleTaken_dpll (x : Taken) : (settleTaken x s).dpll = s.dpll := by
  unfold settleTaken
  split <;> simp

@[simp] theorem flushRefused_dpll (l : List Taken) : (flushRefused l s).dpll = s.dpll := by
  induction l generalizing s with
  | nil => rfl
  | cons x t ih => simp [flushRefused, ih]

@[simp] theorem flushAll_dpll : (flushAll s).dpll = s.dpll :=
  foldl_dpll (fun s _ => by split <;> simp) ..

@[simp] theorem galleyUe_dpll : (galleyUe s).dpll = s.dpll := by simp [galleyUe]
@[simp] theorem slotCheck_dpll (k : Nat) : (slotCheck k s).1.dpll = s.dpll := by simp [slotCheck]
@[simp] theorem payloadRead_dpll (e : Entry) : (payloadRead e s).dpll = s.dpll := by simp [payloadRead]

@[simp] theorem takeEntry_dpll (count lvl sub : Nat) (e : Entry) : (takeEntry count lvl sub e s).dpll = s.dpll := by
  unfold takeEntry
  dsimp only
  split <;> simp

@[simp] theorem entryCheck_dpll (t : Nat) : (entryCheck t s).dpll = s.dpll := by simp [entryCheck]

@[simp] theorem replAck_dpll (ticket : Word) (t : Nat) : (replAck ticket t s).dpll = s.dpll := by
  unfold replAck
  dsimp only
  split
  · split <;> simp
  · simp

@[simp] theorem replTimeout_dpll (t : Nat) : (replTimeout t s).dpll = s.dpll := by
  unfold replTimeout
  dsimp only
  split <;> simp

@[simp] theorem prodWritten_dpll (lvl : Fin 4) (old new : Nat) : (prodWritten lvl old new s).dpll = s.dpll := rfl
@[simp] theorem clientReset_dpll (mask : Nat) : (clientReset mask s).dpll = s.dpll := rfl
@[simp] theorem clientRstWrite_dpll (mask : Nat) : (clientRstWrite mask s).dpll = s.dpll := by simp [clientRstWrite]
@[simp] theorem standbySlot_dpll (ev : Ev) : (standbySlot ev s).dpll = s.dpll := by simp [standbySlot]
@[simp] theorem warmRestore_dpll : (warmRestore s).dpll = s.dpll := rfl

/-! ### The sense unit -/

@[simp] theorem setSenseIn_dpll (n : Fin 8) (x : SenseIn) : (setSenseIn n x s).dpll = s.dpll := rfl
@[simp] theorem queueEvent_dpll (n : Fin 8) (e : Nat × Nat) : (queueEvent n e s).dpll = s.dpll := by simp [queueEvent]

@[simp] theorem reportNow_dpll (n : Fin 8) (pre : List (Nat × Nat)) :
    (reportNow n pre s).dpll = s.dpll := by simp [reportNow]

@[simp] theorem latchChatter_dpll (n : Fin 8) : (latchChatter n s).dpll = s.dpll := by simp [latchChatter]
@[simp] theorem debounced_dpll (n : Fin 8) (c : SenseClass) : (debounced n c s).dpll = s.dpll := by simp [debounced]

@[simp] theorem senseClassify_dpll (n : Fin 8) (level t : Nat) :
    (senseClassify n level t s).dpll = s.dpll := by simp [senseClassify]

@[simp] theorem senseStuck_dpll (n : Fin 8) : (senseStuck n s).dpll = s.dpll := by
  unfold senseStuck
  dsimp only
  split <;> simp

@[simp] theorem senseQuiet_dpll (n : Fin 8) : (senseQuiet n s).dpll = s.dpll := by simp [senseQuiet]

@[simp] theorem submitAction_dpll (i : Nat) (first : Option Nat) : (submitAction i first s).dpll = s.dpll := by
  unfold submitAction
  dsimp only
  repeat' split
  all_goals simp

@[simp] theorem retryActions_dpll : (retryActions s).dpll = s.dpll := by simp [retryActions]
@[simp] theorem actionRetryExpire_dpll : (actionRetryExpire s).dpll = s.dpll := by simp [actionRetryExpire]
@[simp] theorem writeRecord_dpll (w0 w1 : Word) : (writeRecord w0 w1 s).dpll = s.dpll := by simp [writeRecord]

@[simp] theorem senseDeliver_dpll (n : Fin 8) (t : Nat) : (senseDeliver n t s).dpll = s.dpll := by
  unfold senseDeliver
  dsimp only
  split <;> simp

@[simp] theorem partnerSense_dpll (w0 w1 : Word) : (partnerSense w0 w1 s).dpll = s.dpll := by simp [partnerSense]
@[simp] theorem senseEvt_dpll (m : MgmtPkt) : (senseEvt m s).dpll = s.dpll := by simp [senseEvt]

/-! ### The pair -/

@[simp] theorem takeOutputs_dpll : (takeOutputs s).dpll = s.dpll := by simp [takeOutputs]
@[simp] theorem becomeActive_dpll : (becomeActive s).dpll = s.dpll := by simp [becomeActive]
@[simp] theorem grantRises_dpll : (grantRises s).dpll = s.dpll := by simp [grantRises]
@[simp] theorem grantFalls_dpll : (grantFalls s).dpll = s.dpll := by simp [grantFalls]
@[simp] theorem arbTransition_dpll (level : Bool) : (arbTransition level s).dpll = s.dpll := by simp [arbTransition]
@[simp] theorem arbGrantRise_dpll (t phase : Nat) : (arbGrantRise t phase s).dpll = s.dpll := by simp [arbGrantRise]
@[simp] theorem arbGrantFall_dpll (t phase : Nat) : (arbGrantFall t phase s).dpll = s.dpll := by simp [arbGrantFall]

@[simp] theorem grantWaitEnd_dpll (t : Nat) : (grantWaitEnd t s).dpll = s.dpll := by
  unfold grantWaitEnd
  dsimp only
  split <;> simp

@[simp] theorem arbChatterQuiet_dpll : (arbChatterQuiet s).dpll = s.dpll := by simp [arbChatterQuiet]
@[simp] theorem arbStuck_dpll : (arbStuck s).dpll = s.dpll := by simp [arbStuck]

@[simp] theorem leaseExpire_dpll (t : Nat) : (leaseExpire t s).dpll = s.dpll := by
  unfold leaseExpire
  dsimp only
  repeat' split
  all_goals simp

@[simp] theorem renewLease_dpll : (renewLease s).dpll = s.dpll := by simp [renewLease]
@[simp] theorem startSync_dpll : (startSync s).dpll = s.dpll := by simp [startSync]
@[simp] theorem fenceSelf_dpll : (fenceSelf s).dpll = s.dpll := by simp [fenceSelf]
@[simp] theorem fenceCmd_dpll : (fenceCmd s).dpll = s.dpll := by simp [fenceCmd]

@[simp] theorem twinCmd_dpll (v : Nat) : (twinCmd v s).2.dpll = s.dpll := by
  unfold twinCmd
  split <;> simp

@[simp] theorem autoJoin_dpll : (autoJoin s).dpll = s.dpll := by simp [autoJoin]
@[simp] theorem negTimeout_dpll : (negTimeout s).dpll = s.dpll := by simp [negTimeout]
@[simp] theorem losePartner_dpll : (losePartner s).dpll = s.dpll := by simp [losePartner]
@[simp] theorem laneChange_dpll (lanes : BitVec 2) : (laneChange lanes s).dpll = s.dpll := by simp [laneChange]
@[simp] theorem traliatLinkUp_dpll (lanes : BitVec 2) : (traliatLinkUp lanes s).dpll = s.dpll := by simp [traliatLinkUp]
@[simp] theorem traliatLinkDown_dpll : (traliatLinkDown s).dpll = s.dpll := by simp [traliatLinkDown]

@[simp] theorem traliatLaneChange_dpll (lanes : BitVec 2) :
    (traliatLaneChange lanes s).dpll = s.dpll := by simp [traliatLaneChange]

@[simp] theorem cellIn_dpll (ch : Nat) (h : CellHdr) : (cellIn ch h s).1.dpll = s.dpll := by simp [cellIn]

@[simp] theorem cellResend_dpll (ch seq : Nat) : (cellResend ch seq s).dpll = s.dpll := by
  unfold cellResend
  split <;> simp

@[simp] theorem healthCell_dpll (c : HealthCell) : (healthCell c s).dpll = s.dpll := by simp [healthCell]
@[simp] theorem groupDecide_dpll (g : Fin 4) (y : GroupSt) : (groupDecide g y s).dpll = s.dpll := by simp [groupDecide]
@[simp] theorem aesDecide_dpll (m : Fin 8) (y : Aes3St) : (aesDecide m y s).dpll = s.dpll := by simp [aesDecide]

@[simp] theorem flowDecide_dpll (f start next made acc : Nat) : (flowDecide f start next made acc s).dpll = s.dpll := by
  unfold flowDecide
  split <;> simp

@[simp] theorem lateCell_dpll (t : Nat) : (lateCell t s).dpll = s.dpll := by simp [lateCell]
@[simp] theorem decCell_dpll (x : DecCell) : (decCell x s).dpll = s.dpll := by simp [decCell]

@[simp] theorem mirrorCell_dpll (c : MirrorCell) : (mirrorCell c s).dpll = s.dpll := by
  unfold mirrorCell
  dsimp only
  rw [ite_dpll, setTwinSt_dpll, lateCell_dpll, ite_self, cellIn_dpll, advance_dpll]

@[simp] theorem galleyMsg_dpll (m : GalleyMsg) : (galleyMsg m s).dpll = s.dpll := by
  unfold galleyMsg
  split <;> simp

@[simp] theorem galleyCell_dpll (c : GalleyCell) : (galleyCell c s).dpll = s.dpll := by simp [galleyCell]
@[simp] theorem healthMissing_dpll : (healthMissing s).dpll = s.dpll := by simp [healthMissing]

@[simp] theorem lossHoldExpire_dpll : (lossHoldExpire s).dpll = s.dpll := by
  unfold lossHoldExpire
  split <;> simp

@[simp] theorem crcCompare_dpll (f : Nat) : (crcCompare f s).dpll = s.dpll := by
  unfold crcCompare
  split <;> simp

@[simp] theorem crcOutcome_dpll (next : Nat) : (crcOutcome next s).dpll = s.dpll := by
  unfold crcOutcome
  split <;> simp

@[simp] theorem syncRestart_dpll : (syncRestart s).dpll = s.dpll := by simp [syncRestart]
@[simp] theorem cutover_dpll : (cutover s).dpll = s.dpll := by simp [cutover]

@[simp] theorem fwdQueueOverflow_dpll (region : Nat) :
    (fwdQueueOverflow region s).dpll = s.dpll := by simp [fwdQueueOverflow]

@[simp] theorem standbyHotPromote_dpll (storeEq : Bool) :
    (standbyHotPromote storeEq s).dpll = s.dpll := by simp [standbyHotPromote]

@[simp] theorem warmTimeout_dpll : (warmTimeout s).dpll = s.dpll := by
  unfold warmTimeout
  split <;> simp

/-! ### Registers over a reset -/

@[simp] theorem copyRegs_dpll (old : State) (l : List Nat) : (copyRegs old l s).dpll = s.dpll := by
  simp [copyRegs]

@[simp] theorem loadFuses_dpll : (loadFuses s).dpll = s.dpll := by simp [loadFuses]
@[simp] theorem fusedSolo_dpll : (fusedSolo s).dpll = s.dpll := by simp [fusedSolo]

/-! ### Time counters and rings -/

@[simp] theorem setCtr_dpll (one : Bool) (c : TimeCtr) : (setCtr one c s).dpll = s.dpll := rfl
@[simp] theorem timeCommand_dpll (op : Nat) (sel : Bool) : (timeCommand op sel s).dpll = s.dpll := by simp [timeCommand]
@[simp] theorem ptpStepPass_dpll (old new : Nat) : (ptpStepPass old new s).dpll = s.dpll := by simp [ptpStepPass]
@[simp] theorem slewDone_dpll (one : Bool) : (slewDone one s).dpll = s.dpll := by simp [slewDone]
@[simp] theorem timeNsLatch_dpll (one : Bool) : (timeNsLatch one s).dpll = s.dpll := rfl
@[simp] theorem ptpRx_dpll (m : PtpMsg) : (ptpRx m s).dpll = s.dpll := by simp [ptpRx]
@[simp] theorem ptpSlotSent_dpll (ok : Bool) : (ptpSlotSent ok s).dpll = s.dpll := by simp [ptpSlotSent]
@[simp] theorem ptpPulse_dpll (one : Bool) (t : Nat) : (ptpPulse one t s).dpll = s.dpll := by simp [ptpPulse]
@[simp] theorem ptpStop_dpll : (ptpStop s).dpll = s.dpll := rfl
@[simp] theorem ptpStart_dpll : (ptpStart s).dpll = s.dpll := rfl

/-! ### Loops, searches and rate changes -/

@[simp] theorem calStale_dpll : (calStale s).dpll = s.dpll := by simp [calStale]
@[simp] theorem bandSearch_dpll (fam : Bool) : (bandSearch fam s).dpll = s.dpll := rfl
@[simp] theorem startRamp_dpll (c : RateChange) : (startRamp c s).dpll = s.dpll := by simp [startRamp]

@[simp] theorem rateLand_dpll (ticket : Option Word) (w : Word) : (rateLand ticket w s).1.dpll = s.dpll := by
  unfold rateLand
  repeat' split
  all_goals simp

@[simp] theorem rampHandover_dpll : (rampHandover s).dpll = s.dpll := by
  unfold rampHandover
  split <;> simp

@[simp] theorem rampEnd_dpll : (rampEnd s).dpll = s.dpll := by
  unfold rampEnd
  split <;> simp

@[simp] theorem portsRequalify_dpll : (portsRequalify s).dpll = s.dpll := by simp [portsRequalify]

@[simp] theorem rateResume_dpll : (rateResume s).dpll = s.dpll := by
  unfold rateResume
  split <;> simp

@[simp] theorem nextRate_dpll : (nextRate s).dpll = s.dpll := by
  unfold nextRate
  dsimp only
  repeat' split
  all_goals simp

@[simp] theorem nextRates_dpll : (nextRates s).dpll = s.dpll := by simp [nextRates]

@[simp] theorem rateDone_dpll : (rateDone s).dpll = s.dpll := by
  unfold rateDone
  repeat' split
  all_goals simp

@[simp] theorem searchDone_dpll (band : BitVec 5) (fine : BitVec 9) (found : Bool) :
    (searchDone band fine found s).dpll = s.dpll := by
  unfold searchDone
  dsimp only
  repeat' split
  all_goals simp

@[simp] theorem lolCount_dpll (lo : Nat) : (lolCount lo s).dpll = s.dpll := rfl
@[simp] theorem ownFault_dpll (cause : Nat) : (ownFault cause s).dpll = s.dpll := by simp [ownFault]
@[simp] theorem lossA_dpll : (lossA s).dpll = s.dpll := by simp [lossA]
@[simp] theorem lossD_dpll : (lossD s).dpll = s.dpll := by simp [lossD]

@[simp] theorem endChange_dpll : (endChange s).dpll = s.dpll := by
  unfold endChange
  split
  · simp
  · split <;> simp

@[simp] theorem lossM_dpll : (lossM s).dpll = s.dpll := by simp [lossM]
@[simp] theorem lossS_dpll : (lossS s).dpll = s.dpll := by simp [lossS]

@[simp] theorem pllLoss_dpll (l : PllLoop) : (pllLoss l s).dpll = s.dpll := by
  unfold pllLoss
  split
  · simp
  · split <;> simp

@[simp] theorem xoRestore_dpll : (xoRestore s).dpll = s.dpll := by simp [xoRestore]
@[simp] theorem pstep_dpll (n : Nat) : (pstep n s).dpll = s.dpll := rfl
@[simp] theorem pstepDone_dpll : (pstepDone s).dpll = s.dpll := by simp [pstepDone]

@[simp] theorem wclkWritten_dpll (n : Nat) (old new : Word) :
    (wclkWritten n old new s).dpll = s.dpll := by simp [wclkWritten]

@[simp] theorem rateHoldRenewal_dpll (t : Nat) : (rateHoldRenewal t s).dpll = s.dpll := by simp [rateHoldRenewal]

/-! ### Monitors and pulse outputs -/

@[simp] theorem setClk1_dpll (c : ClockSt) : (setClk1 c s).dpll = s.dpll := rfl
@[simp] theorem ppsEnable_dpll (en : Bool) : (ppsEnable en s).dpll = s.dpll := rfl
@[simp] theorem bmarkEnable_dpll (en : Bool) : (bmarkEnable en s).dpll = s.dpll := rfl

@[simp] theorem ppsEdge_dpll : (ppsEdge s).dpll = s.dpll := by
  unfold ppsEdge
  split <;> simp

@[simp] theorem bmarkEdge_dpll : (bmarkEdge s).dpll = s.dpll := by
  unfold bmarkEdge
  split <;> simp

@[simp] theorem tempReading_dpll (s0 s1 s2 s3 : BitVec 16) :
    (tempReading s0 s1 s2 s3 s).dpll = s.dpll := by simp [tempReading]

@[simp] theorem tempRestartSet_dpll : (tempRestartSet s).dpll = s.dpll := rfl

@[simp] theorem supplyReading_dpll (n : Fin 9) (mv : BitVec 16) :
    (supplyReading n mv s).dpll = s.dpll := by simp [supplyReading]

end Sys2Proof.Machine
end

section
/-!
PROOFS. The part of the Reference Selector and the DPLL is left alone by the operations of the Presses.
-/

namespace Sys2Proof.Machine

variable (s : State)

/-! ### Press words -/

@[simp] theorem setPMode_dpll (pi : Fin 16) (m : PMode) : (setPMode pi m s).dpll = s.dpll := by simp [setPMode]

@[simp] theorem enterPressFault_dpll (pi : Fin 16) (cause addr : Nat) :
    (enterPressFault pi cause addr s).dpll = s.dpll := by simp [enterPressFault]

@[simp] theorem raiseFault_dpll (pi : Fin 16) (cause addr : Nat) (pc : BitVec 13) :
    (raiseFault pi cause addr pc s).dpll = s.dpll := by simp [raiseFault]

@[simp] theorem storeLoc_dpll (pi : Fin 16) (x : PLoc × Word) : (storeLoc pi x s).dpll = s.dpll := by
  unfold storeLoc
  split <;> simp

@[simp] theorem issueOnce_dpll (pi : Fin 16) (arith : BitVec 22) (effs : PressSt → Nat → List MoveEff) :
    (issueOnce pi arith effs s).dpll = s.dpll := by simp [issueOnce]

@[simp] theorem issueTimes_dpll (pi : Fin 16) (arith : BitVec 22) (effs : State → PressSt → Nat → List MoveEff)
    (n : Nat) :
    (issueTimes pi arith effs n s).dpll = s.dpll := by
  induction n generalizing s with
  | zero => rfl
  | succ n ih => simp [issueTimes, ih]

@[simp] theorem acceptEntry_dpll (pi : Fin 16) (kind : PKind) :
    (acceptEntry pi kind s).dpll = s.dpll := by simp [acceptEntry]

@[simp] theorem settleDbg_dpll (pi : Fin 16) : (settleDbg pi s).dpll = s.dpll := by simp [settleDbg]
@[simp] theorem illegalWord_dpll (pi : Fin 16) : (illegalWord pi s).dpll = s.dpll := by simp [illegalWord]

@[simp] theorem issueData_dpll (pi : Fin 16) (arith : BitVec 22) (effs : State → PressSt → Nat → List MoveEff) :
    (issueData pi arith effs s).dpll = s.dpll := by simp [issueData]

@[simp] theorem enterWait_dpll (pi : Fin 16) : (enterWait pi s).dpll = s.dpll := by simp [enterWait]

@[simp] theorem issueCtl_dpll (pi : Fin 16) (c : Ctl) : (issueCtl pi c s).dpll = s.dpll := by
  cases c <;> simp [issueCtl, issueCtl.plain'] <;> split <;> simp

@[simp] theorem issueControl_dpll (pi : Fin 16) (c : Ctl) :
    (issueControl pi c s).dpll = s.dpll := by simp [issueControl]

@[simp] theorem issueFields_dpll (pi : Fin 16) (long : Bool) (arith : BitVec 22) (mv : BitVec 40) :
    (issueFields pi long arith mv s).dpll = s.dpll := by simp [issueFields]

@[simp] theorem issueWord_dpll (pi : Fin 16) (w : BitVec 64) : (issueWord pi w s).dpll = s.dpll := by
  unfold issueWord
  repeat' split
  all_goals simp

@[simp] theorem fetchEcc_dpll (pi : Fin 16) : (fetchEcc pi s).1.dpll = s.dpll := by simp [fetchEcc]

@[simp] theorem pressIssue_dpll (pi : Fin 16) {f : State → State} (h : ∀ s, (f s).dpll = s.dpll) :
    (pressIssue pi f s).dpll = s.dpll := by
  simp [pressIssue, h]

/-! ### Press commands -/

@[simp] theorem issueArith_dpll (pi : Fin 16) (op : BitVec 6) (x : ArithArgs) :
    (issueArith pi op x s).dpll = s.dpll := by simp [issueArith]

@[simp] theorem issueMove_dpll (pi : Fin 16) (y : Bool) (f other : BitVec 20) :
    (issueMove pi y f other s).dpll = s.dpll := by simp [issueMove]

@[simp] theorem issueCtlWord_dpll (pi : Fin 16) (c : Ctl) :
    (issueCtlWord pi c s).dpll = s.dpll := by simp [issueCtlWord]

@[simp] theorem loopEndFetch_dpll (pi : Fin 16) (lvl : Fin 2) :
    (loopEndFetch pi lvl s).dpll = s.dpll := by simp [loopEndFetch]

@[simp] theorem tickEntry_dpll (pi : Fin 16) : (tickEntry pi s).dpll = s.dpll := by simp [tickEntry]
@[simp] theorem faultEntry_dpll (pi : Fin 16) : (faultEntry pi s).dpll = s.dpll := by simp [faultEntry]
@[simp] theorem brkMatch_dpll (pi : Fin 16) : (brkMatch pi s).dpll = s.dpll := by simp [brkMatch]
@[simp] theorem dbgStepOne_dpll (pi : Fin 16) : (dbgStepOne pi s).dpll = s.dpll := by simp [dbgStepOne]

/-! ### The Presses as blocks -/

@[simp] theorem writeRings_dpll (f : Nat) (ins : List (Nat × Int)) :
    (writeRings f ins s).dpll = s.dpll := by simp [writeRings]

@[simp] theorem pressOut_dpll (pi : Fin 16) (i f : Nat) : (pressOut pi i f s).2.dpll = s.dpll := by simp [pressOut]

@[simp] theorem insertPress_dpll (f : Nat) (ins : List (Nat × Int)) : (insertPress f ins s).2.dpll = s.dpll :=
  foldl_keeps (fun a : (List (Nat × Int) × State) × List Nat => a.1.2.dpll) (fun a p => by dsimp only; split <;> simp) ..

@[simp] theorem putMsg_dpll (pi : Fin 16) (c : PCfg) (start : Nat) (ws : List Word) :
    (putMsg pi c start ws s).dpll = s.dpll := by simp [putMsg]

@[simp] theorem pressPublish_dpll (pi : Fin 16) (b words n : Nat) (l : List PMsg) :
    (pressPublish pi b words n l s).1.dpll = s.dpll := by
  induction l generalizing words n s with
  | nil => rfl
  | cons m t ih =>
    unfold pressPublish
    dsimp only
    split
    · rfl
    · split
      · rw [ih]
        split <;> simp
      · rfl

@[simp] theorem pressMsg_dpll (t : Word) : (pressMsg t s).dpll = s.dpll := by
  unfold pressMsg
  split <;> simp

@[simp] theorem copyWords_dpll (l : List (Nat × Nat)) : (copyWords l s).1.dpll = s.dpll := by
  induction l generalizing s with
  | nil => rfl
  | cons x t ih => simp [copyWords, ih]

@[simp] theorem romRun_dpll (pi : Fin 16) : (romRun pi s).dpll = s.dpll := by simp [romRun]

@[simp] theorem tickPress_dpll (k : Nat) (starved : Bool) (pi : Fin 16) :
    (tickPress k starved pi s).dpll = s.dpll := by simp [tickPress]

@[simp] theorem blockTick_dpll (starved : List (Fin 16)) : (blockTick starved s).dpll = s.dpll := by simp [blockTick]
@[simp] theorem startPress_dpll (pi : Fin 16) : (startPress pi s).dpll = s.dpll := by simp [startPress]

@[simp] theorem pressStart_dpll (pi : Fin 16) : (pressStart pi s).dpll = s.dpll := by
  unfold pressStart
  dsimp only
  repeat' split
  all_goals simp

@[simp] theorem pressStop_dpll (pi : Fin 16) : (pressStop pi s).dpll = s.dpll := by
  unfold pressStop
  dsimp only
  split <;> simp

@[simp] theorem pressSrst_dpll (pi : Fin 16) : (pressSrst pi s).dpll = s.dpll := rfl

@[simp] theorem pressHalt_dpll (pi : Fin 16) : (pressHalt pi s).dpll = s.dpll := by
  unfold pressHalt
  dsimp only
  split <;> simp

@[simp] theorem pressEn_dpll (pi : Fin 16) (old new : Bool) : (pressEn pi old new s).dpll = s.dpll := by
  unfold pressEn
  dsimp only
  split
  · simp
  · split <;> simp

@[simp] theorem dbgResume_dpll (pi : Fin 16) : (dbgResume pi s).dpll = s.dpll := by simp [dbgResume]
@[simp] theorem dbgHalt_dpll (pi : Fin 16) (v : Bool) : (dbgHalt pi v s).dpll = s.dpll := by simp [dbgHalt]
@[simp] theorem dbgStep_dpll (pi : Fin 16) : (dbgStep pi s).dpll = s.dpll := by simp [dbgStep]

@[simp] theorem pressMemWrite_dpll (pi : Fin 16) (a : Nat) (be : BitVec 4) (v : Word) :
    (pressMemWrite pi a be v s).1.dpll = s.dpll := by simp [pressMemWrite]

@[simp] theorem pressDmaStarve_dpll (pi : Fin 16) : (pressDmaStarve pi s).dpll = s.dpll := rfl

end Sys2Proof.Machine
end

section
/-!
PROOFS. The part of the Reference Selector and the DPLL is left alone by the operations of the host bus, the start, the
frame and the fabric.
-/

namespace Sys2Proof.Machine

variable (s : State)

/-! ### Frozen pages and the Proof window -/

@[simp] theorem freezePage_dpll (p : Nat) (on : Bool) : (freezePage p on s).dpll = s.dpll := rfl
@[simp] theorem snapshot_dpll (ws : List (Nat × Word)) : (snapshot ws s).dpll = s.dpll := rfl

/-! ### Register effects -/

@[simp] theorem recordRefuse_dpll (p : Nat) (r : RegRefuse) : (recordRefuse p r s).dpll = s.dpll := by
  have h : (r.istat.foldl (fun s b => iset p b s) s).dpll = s.dpll := foldl_dpll (fun s b => iset_dpll ..) ..
  simp [recordRefuse, h]

@[simp] theorem finishAll_dpll (p : Ev → Bool) : (finishAll p s).dpll = s.dpll := by simp [finishAll]
@[simp] theorem pllmOff_dpll : (pllmOff s).dpll = s.dpll := by simp [pllmOff]
@[simp] theorem gateAct_dpll (old new : Word) : (gateAct old new s).dpll = s.dpll := by simp [gateAct]
@[simp] theorem pllAct_dpll (new : Word) : (pllAct new s).dpll = s.dpll := rfl

@[simp] theorem remapAct_dpll (g : Fin 4) (a : Nat) (old new : Word) :
    (remapAct g a old new s).dpll = s.dpll := by simp [remapAct]

@[simp] theorem armAct_dpll : (armAct s).dpll = s.dpll := rfl
@[simp] theorem srstComplete_dpll (p : Nat) : (srstComplete p s).dpll = s.dpll := rfl

/-! ### The start -/

@[simp] theorem endStep_dpll (next : BootStep) : (endStep next s).dpll = s.dpll := rfl
@[simp] theorem skipEntry_dpll (a : Nat) : (skipEntry a s).dpll = s.dpll := by simp [skipEntry]
@[simp] theorem holdAt_dpll (n : Fin 3) : (holdAt n s).dpll = s.dpll := rfl
@[simp] theorem leave6_dpll : (leave6 s).dpll = s.dpll := by simp [leave6]
@[simp] theorem enter8_dpll : (enter8 s).dpll = s.dpll := by simp [enter8]

@[simp] theorem porRelease_dpll (straps : BitVec 5) (vio : BitVec 4) : (porRelease straps vio s).dpll = s.dpll := by
  unfold porRelease
  split <;> simp

@[simp] theorem slotErr_dpll (b : Bool) (code : Nat) : (slotErr b code s).dpll = s.dpll := by simp [slotErr]

@[simp] theorem loadSection_dpll (x : Section) : (loadSection s x).dpll = s.dpll := by
  unfold loadSection
  split <;> simp

@[simp] theorem submitPreload_dpll (x : Nat × Entry) : (submitPreload s x).dpll = s.dpll := by
  unfold submitPreload
  dsimp only
  split <;> simp

@[simp] theorem preloadRun_dpll : (preloadRun s).dpll = s.dpll := by simp [preloadRun]
@[simp] theorem startRun_dpll : (startRun s).dpll = s.dpll := by simp [startRun]

@[simp] theorem otpProgramDone_dpll : (otpProgramDone s).dpll = s.dpll := by
  unfold otpProgramDone
  split <;> simp

/-! ### The host bus -/

@[simp] theorem endAccess_dpll (status lvl : Nat) (write : Bool) (a : Nat) :
    (endAccess status lvl write a s).dpll = s.dpll := by simp [endAccess]

@[simp] theorem matrixErr_dpll (code istat m a : Nat) :
    (matrixErr code istat m a s).dpll = s.dpll := by simp [matrixErr]

@[simp] theorem gatedAccess_dpll (status l a : Nat) (write : Bool) :
    (gatedAccess status l a write s).dpll = s.dpll := by simp [gatedAccess]

@[simp] theorem refuseAt_dpll (p code a : Nat) : (refuseAt p code a s).1.dpll = s.dpll := by simp [refuseAt]

@[simp] theorem memDone_dpll (r : State × Bool) : (memDone r).1.dpll = r.1.dpll := by
  cases r; rfl

@[simp] theorem sharedWrite_dpll (a : Nat) (be : BitVec 4) (v : Word) :
    (sharedWrite a be v s).1.dpll = s.dpll := by simp [sharedWrite]

@[simp] theorem coreGatedErr_dpll (a : Nat) : (coreGatedErr a s).1.dpll = s.dpll := by simp [coreGatedErr]

@[simp] theorem memWrite_dpll (a : Nat) (be : BitVec 4) (v : Word) : (memWrite a be v s).1.dpll = s.dpll := by
  unfold memWrite
  dsimp only
  generalize formeRefuse s (decide (0x1400000 ≤ a)) = x
  repeat' split
  all_goals simp

@[simp] theorem pageRead_dpll (a : Nat) : (pageRead a s).2.dpll = s.dpll := by
  unfold pageRead
  split <;> simp

@[simp] theorem memRead_dpll (a : Nat) : (memRead a s).2.1.dpll = s.dpll := by
  unfold memRead
  dsimp only
  repeat' split
  all_goals simp

@[simp] theorem hostRead_dpll (x l : Nat) : (hostRead x l s).2.dpll = s.dpll := by simp [hostRead]
@[simp] theorem lowWordRead_dpll (x l : Nat) : (lowWordRead x l s).dpll = s.dpll := by simp [lowWordRead]
@[simp] theorem strobeConflict_dpll (x l : Nat) : (strobeConflict x l s).dpll = s.dpll := by simp [strobeConflict]

@[simp] theorem hostAccessTimeout_dpll (x l : Nat) (write : Bool) :
    (hostAccessTimeout x l write s).dpll = s.dpll := by simp [hostAccessTimeout]

@[simp] theorem pressHostTimeout_dpll (p : Fin 16) (x l : Nat) (write : Bool) :
    (pressHostTimeout p x l write s).dpll = s.dpll := by simp [pressHostTimeout]

@[simp] theorem fullSnapshot_dpll : (fullSnapshot s).dpll = s.dpll := rfl
@[simp] theorem proofSnapshot_dpll : (proofSnapshot s).dpll = s.dpll := by simp [proofSnapshot]
@[simp] theorem fallbackSnapshot_dpll : (fallbackSnapshot s).dpll = s.dpll := by simp [fallbackSnapshot]
@[simp] theorem proofHoldExpire_dpll : (proofHoldExpire s).dpll = s.dpll := by simp [proofHoldExpire]

/-! ### Landings -/

@[simp] theorem landEntry_dpll (t : Word) (op : Nat) {f : Ev → State → State} (h : ∀ e s, (f e s).dpll = s.dpll) :
    (landEntry t op f s).dpll = s.dpll := by
  unfold landEntry
  split
  · rfl
  · split <;> simp [h]

@[simp] theorem finishNow_dpll (e : Ev) : (finishNow e s).dpll = s.dpll := by simp [finishNow]
@[simp] theorem cancelEntry_dpll (t : Word) : (cancelEntry t s).dpll = s.dpll := by simp [cancelEntry]
@[simp] theorem pressMsgLand_dpll (t : Word) : (pressMsgLand t s).dpll = s.dpll := by simp [pressMsgLand]

/-! ### The frame tick -/

@[simp] theorem sendMirrored_dpll : (sendMirrored s).dpll = s.dpll := by simp [sendMirrored]

@[simp] theorem mirrorInputs_dpll : (mirrorInputs s).dpll = s.dpll := by
  unfold mirrorInputs
  split <;> simp

@[simp] theorem captureInputs_dpll (f : Nat) (missing : List (Fin 256)) :
    (captureInputs f missing s).dpll = s.dpll := by simp [captureInputs]

@[simp] theorem closeNow_dpll (f : Nat) : (closeNow f s).dpll = s.dpll := by simp [closeNow]
@[simp] theorem deliverOutputs_dpll (f : Nat) : (deliverOutputs f s).dpll = s.dpll := by simp [deliverOutputs]
@[simp] theorem noteCrc_dpll (f : Nat) : (noteCrc f s).dpll = s.dpll := by simp [noteCrc]
@[simp] theorem checkBad_dpll : (checkBad s).dpll = s.dpll := by simp [checkBad]
@[simp] theorem boundaryCells_dpll (f : Nat) : (boundaryCells f s).dpll = s.dpll := by simp [boundaryCells]
@[simp] theorem twinTick_dpll (f : Nat) : (twinTick f s).dpll = s.dpll := by simp [twinTick]
@[simp] theorem finishRestart_dpll (f : Nat) : (finishRestart f s).dpll = s.dpll := by simp [finishRestart]
@[simp] theorem releaseAndSelect_dpll : (releaseAndSelect s).dpll = s.dpll := by simp [releaseAndSelect]
@[simp] theorem countFrame_dpll (f : Nat) : (countFrame f s).dpll = s.dpll := by simp [countFrame]
@[simp] theorem endFrame_dpll (f : Nat) (i : FrameIn) : (endFrame f i s).dpll = s.dpll := by simp [endFrame]
@[simp] theorem moveReadPos_dpll : (moveReadPos s).dpll = s.dpll := by simp [moveReadPos]
@[simp] theorem ownSelection_dpll : (ownSelection s).dpll = s.dpll := by simp [ownSelection]
@[simp] theorem gatedTick_dpll (f : Nat) : (gatedTick f s).dpll = s.dpll := by simp [gatedTick]

@[simp] theorem blockTickCheck_dpll (starved : List (Fin 16)) :
    (blockTickCheck starved s).dpll = s.dpll := by simp [blockTickCheck]

/-! ### The fabric -/

@[simp] theorem routeErr_dpll (r : BusReq) : (routeErr r s).dpll = s.dpll := by simp [routeErr]
@[simp] theorem enterReq_dpll (r : BusReq) : (enterReq s r).dpll = s.dpll := by simp [enterReq]
@[simp] theorem issueReq_dpll (r : BusReq) : (issueReq s r).dpll = s.dpll := by simp [issueReq]

@[simp] theorem issueInside_dpll (m : Fin 8) (cycle : BitVec 16) : (issueInside m cycle s).dpll = s.dpll := by
  unfold issueInside
  split
  · split <;> simp
  · simp

@[simp] theorem busStore_dpll (r : BusReq) (ws : List Word) : (busStore r ws s).1.dpll = s.dpll := by simp [busStore]

@[simp] theorem busWord_dpll (t a : Nat) : (busWord t a s).2.1.dpll = s.dpll := by
  unfold busWord
  split
  · simp
  · split <;> simp

@[simp] theorem busWords_dpll (t n a : Nat) : (busWords t n a s).2.1.dpll = s.dpll := by
  induction n generalizing a s with
  | zero => rfl
  | succ n ih => simp [busWords, ih]

@[simp] theorem copyFails_dpll : (copyFails s).dpll = s.dpll := by simp [copyFails]

@[simp] theorem rewriteWord_dpll (k : Nat) : (rewriteWord k s).dpll = s.dpll := by
  unfold rewriteWord
  dsimp only
  split <;> simp

@[simp] theorem eccRewrite_dpll : (eccRewrite s).dpll = s.dpll := by
  unfold eccRewrite
  split <;> simp

@[simp] theorem scrubWord_dpll (k : Nat) : (scrubWord s k).dpll = s.dpll := by simp [scrubWord]

@[simp] theorem skimStep_dpll (dram : Bool) : (skimStep dram s).dpll = s.dpll := by
  unfold skimStep
  dsimp only
  repeat' split
  all_goals simp

/-! ### Management packets -/

@[simp] theorem nextSeq_dpll : (nextSeq s).2.dpll = s.dpll := rfl

@[simp] theorem sendMgmt_dpll (ty : Nat) (dst : Option (Nat × BitVec 48)) (seq : Nat) (body : List Word)
    (ports : List (Fin 2)) :
    (sendMgmt ty dst seq body ports s).dpll = s.dpll := by simp [sendMgmt]

@[simp] theorem announceSend_dpll : (announceSend s).dpll = s.dpll := by
  unfold announceSend
  split
  · simp
  · split <;> simp

@[simp] theorem telemetrySend_dpll : (telemetrySend s).dpll = s.dpll := by simp [telemetrySend]
@[simp] theorem remoteRead_dpll (w : Word) : (remoteRead w s).2.dpll = s.dpll := by simp [remoteRead]

@[simp] theorem remoteReads_dpll (l : List Word) : (remoteReads l s).2.dpll = s.dpll := by
  induction l generalizing s with
  | nil => rfl
  | cons w t ih => simp [remoteReads, ih]

@[simp] theorem readReq_dpll (m : MgmtPkt) : (readReq m s).dpll = s.dpll := by simp [readReq]

/-! ### The state copy -/

@[simp] theorem takeTables_dpll (rx tx lines : List (Nat × List Word)) :
    (takeTables rx tx lines s).dpll = s.dpll := by simp [takeTables]

@[simp] theorem takeRegions_dpll (l : List (Nat × Word)) : (takeRegions l s).dpll = s.dpll := by simp [takeRegions]

@[simp] theorem ctrlCell_dpll (c : CtrlCell) : (ctrlCell c s).dpll = s.dpll := by
  unfold ctrlCell
  split <;> simp

@[simp] theorem copyReads_dpll : (copyReads s).1.dpll = s.dpll := by simp [copyReads]

@[simp] theorem sendPhase_dpll : (sendPhase s).dpll = s.dpll := by
  unfold sendPhase
  dsimp only
  split
  · simp
  · split <;> simp

@[simp] theorem syncPhaseEnd_dpll : (syncPhaseEnd s).dpll = s.dpll := by
  unfold syncPhaseEnd
  repeat' split
  all_goals simp

end Sys2Proof.Machine
end

section
/-!
PROOFS. The output frequency under the operations that do reach the DPLL (R309 to R313): they keep it, clamp it, or reset
it to 0.
-/

namespace Sys2Proof.Machine

/-! ### Operations on references and the loop that leave the output frequency -/

@[simp] theorem ite_freq (c : Prop) [Decidable c] (a b : DpllSt) :
    (if c then a else b).freq = if c then a.freq else b.freq := apply_ite ..

@[simp] theorem foldl_freq {α : Type} {f : State → α → State} (h : ∀ s x, (f s x).dpll.freq = s.dpll.freq) (l : List α)
    (s : State) : (l.foldl f s).dpll.freq = s.dpll.freq := foldl_keeps (·.dpll.freq) h l s

@[simp] theorem setRef_freq (r : Nat) (v : RefSt) (s : State) : (setRef r v s).dpll.freq = s.dpll.freq := rfl

@[simp] theorem refDisq_freq (r : Nat) (s : State) : (refDisq r s).dpll.freq = s.dpll.freq := rfl

@[simp] theorem refQual_freq (r : Nat) (s : State) : (refQual r s).dpll.freq = s.dpll.freq := rfl

@[simp] theorem refFailNow_freq (r : Nat) (s : State) : (refFailNow r s).dpll.freq = s.dpll.freq := by
  simp [refFailNow]

@[simp] theorem wanderSample_freq (r : Nat) (s : State) : (wanderSample r s).dpll.freq = s.dpll.freq := by
  simp [wanderSample]

@[simp] theorem startPull_freq (e : Int) (s : State) : (startPull e s).dpll.freq = s.dpll.freq := rfl

@[simp] theorem lockTrack_freq (r : Nat) (s : State) : (lockTrack r s).dpll.freq = s.dpll.freq := rfl

@[simp] theorem refEdge_freq (r : Nat) (i : RefMeas) (s : State) : (refEdge r i s).dpll.freq = s.dpll.freq := by
  simp [refEdge]

@[simp] theorem ptpMoved_freq (one : Bool) (s : State) : (ptpMoved one s).dpll.freq = s.dpll.freq := by
  simp [ptpMoved]

@[simp] theorem refSoakDone_freq (r : Nat) (s : State) : (refSoakDone r s).dpll.freq = s.dpll.freq := by
  simp [refSoakDone]

@[simp] theorem refDisqualify_freq (r : Nat) (s : State) : (refDisqualify r s).dpll.freq = s.dpll.freq := by
  simp [refDisqualify]

@[simp] theorem lockDeclared_freq (s : State) : (lockDeclared s).dpll.freq = s.dpll.freq := by
  simp [lockDeclared]

@[simp] theorem ladderStep_freq (s : State) : (ladderStep s).dpll.freq = s.dpll.freq := by
  simp [ladderStep]

@[simp] theorem lockLost_freq (s : State) : (lockLost s).dpll.freq = s.dpll.freq := by
  simp [lockLost]

@[simp] theorem pullDone_freq (s : State) : (pullDone s).dpll.freq = s.dpll.freq := by
  simp [pullDone]

@[simp] theorem alignStart_freq (outs : List Nat) (src : Nat) (s : State) :
    (alignStart outs src s).dpll.freq = s.dpll.freq := rfl

@[simp] theorem alignEpoch_freq (f g0 : Nat) (a : AlignSt) (s : State) :
    (alignEpoch f g0 a s).dpll.freq = s.dpll.freq := by
  simp [alignEpoch]

@[simp] theorem alignAt_freq (src e f tick : Nat) (s : State) : (alignAt src e f tick s).dpll.freq = s.dpll.freq := by
  simp [alignAt]

@[simp] theorem alignTick_freq (s : State) : (alignTick s).dpll.freq = s.dpll.freq := by
  simp [alignTick]

@[simp] theorem alignEdge_freq (o : Nat) (s : State) : (alignEdge o s).dpll.freq = s.dpll.freq := by
  simp [alignEdge]

@[simp] theorem stepped_freq (one : Bool) (old : TimeCtr) (s : State) : (stepped one old s).dpll.freq = s.dpll.freq := by
  simp [stepped]

@[simp] theorem timecmdAct_freq (s : State) : (timecmdAct s).dpll.freq = s.dpll.freq := by
  unfold timecmdAct
  dsimp only
  repeat' split
  all_goals simp

/-! ### The clamp -/

/-- An output frequency within 200 ppm of nominal, in ppt (R313). -/
def InClamp (f : Int) : Prop := f.natAbs ≤ 200000000

@[simp] theorem inClamp_zero : InClamp 0 := by simp [InClamp]

@[simp] theorem inClamp_ite (c : Prop) [Decidable c] (a b : Int) :
    InClamp (if c then a else b) ↔ if c then InClamp a else InClamp b := by
  split <;> rfl

@[simp] theorem clampI_inClamp (f : Int) : InClamp (clampI (-clampPpt) clampPpt f) := by
  unfold InClamp clampI clampPpt
  split
  · decide
  · split
    · decide
    · omega

@[simp] theorem outFreq_inClamp (s : State) : InClamp (outFreq s).dpll.freq := clampI_inClamp _

@[simp] theorem dpllFree_inClamp (s : State) : InClamp (dpllFree s).dpll.freq := outFreq_inClamp _

@[simp] theorem evaluate_inClamp (s : State) : InClamp (evaluate s).dpll.freq := by
  unfold evaluate
  extract_lets s1
  split
  · exact outFreq_inClamp _
  · split <;> exact outFreq_inClamp _

@[simp] theorem coldState_freq (hold : ResetHold) (s : State) : (coldState hold s).dpll.freq = 0 := rfl

@[simp] theorem powerReset_freq (hold : ResetHold) (b : Nat) (s : State) : (powerReset hold b s).dpll.freq = 0 := by
  simp [powerReset]

@[simp] theorem coldReset_freq (mask : Nat) (s : State) : (coldReset mask s).dpll.freq = 0 := by
  simp [coldReset]

@[simp] theorem warmState_freq (hold : ResetHold) (s : State) : (warmState hold s).dpll.freq = 0 := by
  simp only [warmState, warmRestore_dpll, rput_dpll, copyRegs_dpll]
  rfl

@[simp] theorem galleyEmpty_dpll (s : State) : (galleyEmpty s).dpll = s.dpll := by
  simp [galleyEmpty]

@[simp] theorem warmReset_freq (hold : ResetHold) (b : Nat) (s : State) : (warmReset hold b s).dpll.freq = 0 := by
  simp [warmReset]

@[simp] theorem pageAct_freq (direct : Bool) (tk : Option Word) (lvl a : Nat) (old new v : Word) (s : State) :
    (pageAct direct tk lvl a old new v s).1.dpll.freq = s.dpll.freq := by
  unfold pageAct
  extract_lets p o k
  clear_value p o k
  cases remapGroup o <;> simp

/-! ### Operations that keep it -/

/- The side condition of each lemma below speaks of the state that an operation is given. Where `simp` has to rewrite that
state first, it is told to give a proof of every step (`-implicitDefEqProofs`), because it matches the condition without
unfolding the state's updates. -/

section
variable {s : State} (h : InClamp s.dpll.freq)
include h

@[simp] theorem dpllEvaluation_inClamp (t : Nat) : InClamp (dpllEvaluation t s).dpll.freq := by
  simp -implicitDefEqProofs [dpllEvaluation, h]

@[simp] theorem refFail_inClamp (r : Nat) : InClamp (refFail r s).dpll.freq := by
  simp -implicitDefEqProofs [refFail, h]

@[simp] theorem rateHold_inClamp : InClamp (rateHold s).dpll.freq := by
  unfold rateHold
  split <;> simp -implicitDefEqProofs [h]

@[simp] theorem declareLock_inClamp (l : PllLoop) : InClamp (declareLock l s).dpll.freq := by
  cases l <;> simp -implicitDefEqProofs [declareLock, h]

@[simp] theorem pllLock_inClamp (l : PllLoop) (count : Nat) : InClamp (pllLock l count s).dpll.freq := by
  unfold pllLock
  dsimp only
  repeat' split
  all_goals simp -implicitDefEqProofs [h]

@[simp] theorem xoLoss_inClamp : InClamp (xoLoss s).dpll.freq := by
  simp -implicitDefEqProofs [xoLoss, h]

@[simp] theorem srstBlock_inClamp (p : Nat) : InClamp (srstBlock p s).dpll.freq := by
  simp -implicitDefEqProofs [srstBlock, DpllSt.reset, h]

@[simp] theorem srstWrite_inClamp (p : Nat) : InClamp (srstWrite p s).dpll.freq := by
  simp -implicitDefEqProofs [srstWrite, h]

@[simp] theorem heldSrst_inClamp (pi : Fin 16) : InClamp (heldSrst pi s).dpll.freq := by
  simp -implicitDefEqProofs [heldSrst, h]

@[simp] theorem ctrlAct_inClamp (p : Nat) (old new v : Word) : InClamp (ctrlAct p old new v s).dpll.freq := by
  unfold ctrlAct
  extract_lets s0 en chg pi s2 s3 s5 _ s1
  have h0 : InClamp s0.dpll.freq := by simp [s0, h]
  clear_value s0
  have h2 : InClamp s2.dpll.freq := heldSrst_inClamp (by simp [h0]) pi
  have h1 : InClamp s1.dpll.freq := by simp -implicitDefEqProofs [s1, s3, s5, h0, h2]
  split
  · exact srstWrite_inClamp h1 p
  · exact h1

@[simp] theorem regAct_inClamp (direct : Bool) (tk : Option Word) (lvl a : Nat) (old new v : Word) :
    InClamp (regAct direct tk lvl a old new v s).1.dpll.freq := by
  unfold regAct
  extract_lets p o km s0 s1
  have h1 : InClamp s1.dpll.freq := by simp [s1, s0, h]
  split
  · simp [h]
  · split
    · simp [h]
    · split
      · exact ctrlAct_inClamp h1 ..
      · rwa [pageAct_freq]

@[simp] theorem regLand_inClamp (tk : Option Word) (a : Nat) (v : Word) : InClamp (regLand tk a v s).1.dpll.freq := by
  unfold regLand
  split
  · exact h
  · extract_lets p old new
    clear_value p old new
    split
    · exact h
    · split
      · simp [h]
      · exact regAct_inClamp h ..

@[simp] theorem resetCommand_inClamp (v : Word) : InClamp (resetCommand v s).dpll.freq := by
  unfold resetCommand
  split <;> simp -implicitDefEqProofs [h]

@[simp] theorem applyRegInit_inClamp (a : Nat) (v : Word) : InClamp (applyRegInit a v s).dpll.freq := by
  unfold applyRegInit
  split
  · simp [h]
  · extract_lets p old new
    clear_value p old new
    split
    · simp [h]
    · split
      · simp -implicitDefEqProofs [h]
      · split
        · exact h
        · split
          · simp [h]
          · exact regAct_inClamp h ..

@[simp] theorem applyPhase_inClamp (k : Nat) : InClamp (applyPhase k s).dpll.freq := by
  unfold applyPhase
  refine List.foldlRecOn (motive := fun t : State => InClamp t.dpll.freq) _ _ h fun t ht x _ => ?_
  simp [ht]

@[simp] theorem enter6_inClamp : InClamp (enter6 s).dpll.freq := applyPhase_inClamp (by simp [h]) 1

@[simp] theorem enter7_inClamp : InClamp (enter7 s).dpll.freq := by
  have h1 : InClamp (applyPhase 2 (endStep .s7 (leave6 s))).dpll.freq := applyPhase_inClamp (by simp [h]) 2
  simp [enter7, h1]

@[simp] theorem enter9_inClamp : InClamp (enter9 s).dpll.freq := by
  have h1 : InClamp (applyPhase 3 (endStep .s9 s)).dpll.freq := applyPhase_inClamp (by simp [h]) 3
  simp [enter9, h1]

@[simp] theorem imageDone_inClamp : InClamp (imageDone s).dpll.freq := by
  simp [imageDone, h]

@[simp] theorem fallback_inClamp (cause : Nat) : InClamp (fallback cause s).dpll.freq :=
  imageDone_inClamp (by simp [h])

@[simp] theorem enter5_inClamp : InClamp (enter5 s).dpll.freq := by
  unfold enter5
  extract_lets s1
  have h1 : InClamp s1.dpll.freq := by simp [s1, h]
  split <;> simp [h1]

@[simp] theorem bootNext_inClamp : InClamp (bootNext s).dpll.freq := by
  unfold bootNext
  split
  · exact h
  · split <;> simp [h]

@[simp] theorem bootAdvance_inClamp : InClamp (bootAdvance s).dpll.freq := by
  unfold bootAdvance
  iterate 7 apply bootNext_inClamp
  exact h

omit h in
@[simp] theorem supplyTrip_inClamp (which : Fin 10) : InClamp (supplyTrip which s).dpll.freq := by
  simp [supplyTrip]

@[simp] theorem warmResetPin_inClamp : InClamp (warmResetPin s).dpll.freq := by
  simp [warmResetPin, h]

@[simp] theorem warmResetRelease_inClamp : InClamp (warmResetRelease s).dpll.freq := by
  simp -implicitDefEqProofs [warmResetRelease, h]

@[simp] theorem xoQualified_inClamp : InClamp (xoQualified s).dpll.freq := by
  simp -implicitDefEqProofs [xoQualified, h]

@[simp] theorem bistDone_inClamp (r : BistIn) : InClamp (bistDone r s).dpll.freq := by
  simp -implicitDefEqProofs [bistDone, h]

@[simp] theorem slotFails_inClamp (b : Bool) (code : Nat) (bytes : List Byte) :
    InClamp (slotFails b code bytes s).dpll.freq := by
  unfold slotFails
  extract_lets _ s1 s2
  have h2 : InClamp s2.dpll.freq := by
    unfold s2
    split <;> simp [s1, h]
  simp [h2]

@[simp] theorem loadProt_inClamp (x : Section) : InClamp (loadProt s x).dpll.freq := by
  unfold loadProt
  split
  · refine List.foldlRecOn (motive := fun t : State => InClamp t.dpll.freq) _ _ h fun t ht e _ => ?_
    simp [ht]
  · exact h

@[simp] theorem loadImage_inClamp (i : SlotPass) : InClamp (loadImage i s).dpll.freq := by
  unfold loadImage
  extract_lets _ s1 l
  refine imageDone_inClamp ?_
  rw [foldl_dpll loadSection_dpll]
  exact List.foldlRecOn (motive := fun t : State => InClamp t.dpll.freq) _ _ (by simp [s1, h])
    fun t ht x _ => loadProt_inClamp ht x

@[simp] theorem imageSlotPass_inClamp (i : SlotPass) : InClamp (imageSlotPass i s).dpll.freq := by
  unfold imageSlotPass
  split
  · exact h
  · split
    · exact bootAdvance_inClamp (fallback_inClamp (by simp [h]) 1)
    · extract_lets s1 expected code
      have h1 : InClamp s1.dpll.freq := by simp [s1, h]
      simp -implicitDefEqProofs [h, h1]

@[simp] theorem bootContinue_inClamp : InClamp (bootContinue s).dpll.freq := by
  unfold bootContinue
  split <;> simp -implicitDefEqProofs [h]

@[simp] theorem landPage_inClamp (l a : Nat) (old new v : Word) : InClamp (landPage l a old new v s).dpll.freq := by
  unfold landPage
  extract_lets p o s1 cur now s2
  have h1 : InClamp s1.dpll.freq := h
  have h2 : InClamp s2.dpll.freq := h
  clear_value p o s1 cur now s2
  repeat' split
  all_goals simp [h, h1, h2]

@[simp] theorem pageWrite_inClamp (l a : Nat) (v : Word) : InClamp (pageWrite l a v s).1.dpll.freq := by
  unfold pageWrite
  split
  · exact h
  · extract_lets p old new rwp act fault sts
    have hf (t : State) : (fault t).dpll = t.dpll := by simp [fault]
    clear_value p old new rwp act fault sts
    split
    · simp [h]
    · split
      · simp [h]
      · split
        · simp [hf, h]
        · split <;> simp [hf, h]

@[simp] theorem hostWrite_inClamp (x : HostAcc) : InClamp (hostWrite x s).dpll.freq := by
  unfold hostWrite
  extract_lets a l g r s1 r'
  have h1 : InClamp s1.dpll.freq := by simp [s1, r, h]
  clear_value s1
  repeat' split
  all_goals simp [r', h, h1]

omit h in
@[simp] theorem landPair_inClamp (t : Word) {a : State × Bool} (h : InClamp a.1.dpll.freq) (x : Nat × Word) :
    InClamp (landPair t a x).1.dpll.freq := by
  simp only [landPair]
  split <;> simp [h]

@[simp] theorem writeParam_inClamp (e : Ev) : InClamp (writeParam e s).dpll.freq := by
  unfold writeParam
  extract_lets ps r
  have hr : InClamp r.1.dpll.freq :=
    List.foldlRecOn (motive := fun a : State × Bool => InClamp a.1.dpll.freq) _ _ (by simp [h])
      fun a ha x _ => landPair_inClamp _ ha x
  clear_value r
  simp [h, hr]

@[simp] theorem landEntry_writeParam_inClamp (t : Word) (op : Nat) : InClamp (landEntry t op writeParam s).dpll.freq := by
  unfold landEntry
  split
  · exact h
  · split
    · exact writeParam_inClamp (by simp [h]) _
    · exact h

@[simp] theorem mediaRateChange_inClamp (t : Word) : InClamp (mediaRateChange t s).dpll.freq := by
  unfold mediaRateChange
  split
  · split
    · exact landEntry_writeParam_inClamp h ..
    · exact h
  · exact h

@[simp] theorem heldEntryAct_inClamp (t : Word) : InClamp (heldEntryAct t s).dpll.freq := by
  unfold heldEntryAct
  split
  · exact h
  · simp -implicitDefEqProofs [h]

@[simp] theorem landWaiting_inClamp (g : Option (Fin 4)) : InClamp (landWaiting g s).dpll.freq :=
  List.foldlRecOn (motive := fun t : State => InClamp t.dpll.freq) _ _ h fun _ ht _ _ => regLand_inClamp ht ..

@[simp] theorem groupTick_inClamp (g : Fin 4) (i : GroupIn) : InClamp (groupTick g i s).dpll.freq := by
  simp [groupTick, h]

@[simp] theorem startFrame_inClamp (f : Nat) : InClamp (startFrame f s).dpll.freq := by
  unfold startFrame
  extract_lets gap _ s1 s2 s3
  have h2 : InClamp s2.dpll.freq := by
    rw [alignTick_freq, axisTick_dpll]
    exact landWaiting_inClamp (by simp [s1, h]) _
  simp [s3, h2]

@[simp] theorem frameTick_inClamp (t : Nat) (i : FrameIn) : InClamp (frameTick t i s).dpll.freq := by
  simp -implicitDefEqProofs [frameTick, h]

@[simp] theorem busWrite_inClamp (t : Nat) (r : BusReq) (ws : List Word) : InClamp (busWrite t r ws s).1.dpll.freq := by
  unfold busWrite
  extract_lets m a b l
  clear_value m a b l
  repeat' split
  all_goals simp [h]

@[simp] theorem serve_inClamp (t : Nat) (r : BusReq) : InClamp (serve t r s).dpll.freq := by
  unfold serve
  extract_lets m answer n zeros x s1
  have ha (data : List Word) (err : Bool) (u : State) : (answer data err u).dpll = u.dpll := by simp [answer]
  have h1 : s1.dpll = s.dpll := by simp [s1, x]
  clear_value m answer n zeros s1
  repeat' split
  all_goals simp [h, h1, ha]

@[simp] theorem busGrant_inClamp (target : Fin 10) (port : Fin 16) (cycle : BitVec 16) (fresh : List BusReq) :
    InClamp (busGrant target port cycle fresh s).dpll.freq := by
  unfold busGrant
  extract_lets s0 here
  have h0 : InClamp s0.dpll.freq := by simp [s0, h]
  clear_value s0
  split
  · exact h0
  · exact serve_inClamp (by simp [h0]) ..

@[simp] theorem cellWord_inClamp (x : Nat × Word) : InClamp (cellWord x s).dpll.freq := by
  unfold cellWord
  extract_lets a old s1
  have h1 : InClamp s1.dpll.freq := by simp [s1, h]
  clear_value a old s1
  repeat' split
  all_goals simp [h, h1]

@[simp] theorem takePart_inClamp (p : DataPart) : InClamp (takePart p s).dpll.freq := by
  unfold takePart
  split
  · exact List.foldlRecOn (motive := fun t : State => InClamp t.dpll.freq) _ _ h fun t ht x _ => cellWord_inClamp ht x
  all_goals simp [h]

@[simp] theorem writeCell_inClamp (c : DataCell) : InClamp (writeCell c s).dpll.freq := by
  simp -implicitDefEqProofs [writeCell, h]

@[simp] theorem fwdCell_inClamp (c : DataCell) : InClamp (fwdCell c s).dpll.freq := by
  simp -implicitDefEqProofs [fwdCell, h]

@[simp] theorem bulkCell_inClamp (c : DataCell) : InClamp (bulkCell c s).dpll.freq := by
  unfold bulkCell
  extract_lets r t
  have ht : InClamp t.dpll.freq := by simp [t, r, h]
  clear_value t
  repeat' split
  all_goals simp -implicitDefEqProofs [ht]

end

end Sys2Proof.Machine
end

section
/-!
PROOFS. An evaluation of the selector (R304, R309, R312), every command, and R313.
-/

namespace Sys2Proof.Machine

/-! ### What an evaluation calls for -/

/-- The selector has changed registers and its own part of the state, nothing else, and has left its CTRL.EN. -/
def SelectorWrote (s t : State) : Prop :=
  { t with regs := s.regs, dpll := s.dpll } = s ∧ enOf t pgDPLL = enOf s pgDPLL

section
variable {s t : State}

theorem SelectorWrote.boot (h : SelectorWrote s t) : t.boot = s.boot := by
  simpa using congrArg State.boot h.1

theorem SelectorWrote.clk (h : SelectorWrote s t) : t.clk = s.clk := by
  simpa using congrArg State.clk h.1

theorem SelectorWrote.frozen (h : SelectorWrote s t) : t.frozen = s.frozen := by
  simpa using congrArg State.frozen h.1

theorem SelectorWrote.keepsOn (h : SelectorWrote s t) (hs : selectorOn s) : selectorOn t := by
  unfold selectorOn ticksHeld at *
  rwa [h.2, h.clk]

theorem SelectorWrote.refl (s : State) : SelectorWrote s s := ⟨rfl, rfl⟩

@[simp] theorem selectorWrote_setDpll (d : DpllSt) : SelectorWrote s (setDpll d t) ↔ SelectorWrote s t := Iff.rfl

@[simp] theorem selectorWrote_setRef (r : Nat) (v : RefSt) : SelectorWrote s (setRef r v t) ↔ SelectorWrote s t := Iff.rfl

/-- ISTAT and the counters of the page are no CTRL. -/
theorem selectorWrote_rset {a : Nat} (ha : aCTRL pgDPLL ≠ a) (v : Word) :
    SelectorWrote s (rset a v t) ↔ SelectorWrote s t := by
  unfold SelectorWrote enOf rbit
  rw [rget_rset_ne _ _ ha]
  rfl

@[simp] theorem selectorWrote_iset (b : Nat) : SelectorWrote s (iset pgDPLL b t) ↔ SelectorWrote s t :=
  selectorWrote_rset (by decide) _

@[simp] theorem selectorWrote_cnt : SelectorWrote s (cnt aDPLL_SWITCH_CNT t) ↔ SelectorWrote s t :=
  selectorWrote_rset (by decide) _

@[simp] theorem selectorWrote_ite {u : State} (c : Prop) [Decidable c] :
    SelectorWrote s (if c then t else u) ↔ if c then SelectorWrote s t else SelectorWrote s u := by
  split <;> rfl

@[simp] theorem selectorWrote_refFailNow (r : Nat) : SelectorWrote s (refFailNow r t) ↔ SelectorWrote s t := by
  simp [refFailNow]

@[simp] theorem selectorWrote_refStep (r : Nat) : SelectorWrote s (refStep t r) ↔ SelectorWrote s t := by
  unfold refStep
  extract_lets x ok u y
  have hu : SelectorWrote s u ↔ SelectorWrote s t := selectorWrote_setRef ..
  clear_value u
  split
  · simp
  · split
    · simp
    · split
      · simp
      · split <;> simp [refDisq, refQual, hu]

@[simp] theorem selectorWrote_holdOver : SelectorWrote s (holdOver t) ↔ SelectorWrote s t := by
  simp [holdOver]

@[simp] theorem selectorWrote_switchTo (q : Option Nat) : SelectorWrote s (switchTo q t) ↔ SelectorWrote s t := by
  unfold switchTo
  extract_lets _ _ u
  have hu : SelectorWrote s u ↔ SelectorWrote s t := by simp [u]
  clear_value u
  split
  · rfl
  · split
    · simp [hu]
    · dsimp only
      split <;> simp [startPull, hu]

end

/-- With nothing selected the loop holds over or runs free (R311). -/
def FreeUnlessSelected (s : State) : Prop := s.dpll.sel = none → s.dpll.st = .freerun ∨ s.dpll.st = .holdover

theorem holdOver_free (s : State) : FreeUnlessSelected (holdOver s) := by
  intro _
  unfold holdOver
  simp only [ite_dpll, iset_dpll, setDpll_dpll, ite_self]
  split <;> simp

/-- An evaluation of a running selector ends with the output frequency that the state reached calls for. -/
theorem evaluate_of_selectorOn {s : State} (hs : selectorOn s) :
    ∃ u, evaluate s = outFreq u ∧ SelectorWrote s u ∧ FreeUnlessSelected u := by
  unfold evaluate
  extract_lets s1 _ _ _ s2 _ s3 s4 p _ _ s5 s6 s7
  have h1 : SelectorWrote s s1 :=
    List.foldlRecOn (motive := SelectorWrote s) _ _ (.refl s) fun t ht r _ => (selectorWrote_refStep r).2 ht
  obtain ⟨hen, hticks⟩ := h1.keepsOn hs
  have h2 : SelectorWrote s s2 := h1
  have h3 : SelectorWrote s s3 := by simp [s3, h2]
  have h4 : SelectorWrote s s4 := by simp [s4, hoUpdate, h3]
  have h5 : SelectorWrote s s5 := by simp [s5, h4]
  have h6 : SelectorWrote s s6 := by simp [s6, h5]
  refine ⟨s7, by simp [hen, hticks], by simp [s7, h6], ?_⟩
  unfold s7
  split
  · exact holdOver_free s6
  · exact fun h => absurd h ‹_›

/-- What `outFreq` sets bears on neither the loop's state nor the reference it follows. -/
theorem calledFor_outFreq (u : State) : calledFor (outFreq u) = calledFor u := rfl

/-- The frequency that `outFreq` clamps is the one that the loop's state calls for. -/
theorem outFreq_of_free {u : State} (h : FreeUnlessSelected u) :
    (outFreq u).dpll.freq = clampI (-clampPpt) clampPpt (calledFor u) ∧
      (outFreq u).dpll.clamp = decide ((calledFor u).natAbs > clampPpt.natAbs) := by
  have hselected (hst : ¬ (u.dpll.st = .freerun ∨ u.dpll.st = .holdover)) : ∃ r, u.dpll.sel = some r :=
    Option.ne_none_iff_exists'.1 fun hn => hst (h hn)
  unfold calledFor outFreq
  simp only [setDpll_dpll]
  cases hst : u.dpll.st with
  | freerun => exact ⟨rfl, rfl⟩
  | holdover => exact ⟨rfl, rfl⟩
  | acquire | locked =>
    obtain ⟨r, hr⟩ := hselected (by simp [hst])
    rw [hr]
    exact ⟨rfl, rfl⟩

/-! ### STAT.CLAMP -/

theorem bit_or (v w : Word) (i : Nat) : bit (v ||| w) i = (bit v i || bit w i) := BitVec.getLsbD_or

/-- A field has no bits below its place. -/
theorem bit_fld_below {i lo : Nat} (h : i < lo) (v : Nat) : bit (fld v lo) i = false := by
  simp only [bit, fld, BitVec.getLsbD_ofNat, Nat.testBit_shiftLeft, decide_eq_false (Nat.not_le.2 h), Bool.false_and,
    Bool.and_false]

theorem bit_flg (b : Bool) (i lo : Nat) (hi : i < 32) : bit (flg b lo) i = (b && decide (lo = i)) := by
  cases b
  · simp [bit, flg]
  · simp only [bit, flg, if_true, BitVec.getLsbD_ofNat, Nat.one_shiftLeft, Nat.testBit_two_pow, hi, decide_true]

theorem maskTo_le (p : Nat → Bool) (n : Nat) : (((List.range n).filter p).map fun i => 2 ^ i).sum < 2 ^ n := by
  calc (((List.range n).filter p).map fun i => 2 ^ i).sum
      ≤ ((List.range n).map fun i => 2 ^ i).sum := (List.filter_sublist.map _).sum_le_sum fun _ _ => Nat.zero_le _
    _ < 2 ^ n := by
      induction n with
      | zero => simp
      | succ n ih => rw [List.range_succ]; simp; omega

theorem bit_maskTo (p : Nat → Bool) {n i : Nat} (h : n ≤ i) : bit (maskTo n p) i = false := by
  have := Nat.testBit_lt_two_pow ((maskTo_le p n).trans_le (Nat.pow_le_pow_right (by decide) h))
  simp only [bit, maskTo, w32, BitVec.getLsbD_ofNat, this, Bool.and_false]

theorem bit_dpllStat_clamp (t : State) : bit (dpllStat t) 16 = t.dpll.clamp := by
  have hs : bit (maskTo 8 (refUsable t) <<< 8) 16 = false := by
    simpa [bit] using bit_maskTo (refUsable t) (n := 8) (i := 8) le_rfl
  simp [dpllStat, bit_or, bit_fld_below, bit_flg, bit_maskTo, hs]

theorem viewReg_dpllStat {t : State} (h : t.frozen = []) : viewReg t (pageAddr pgDPLL 0xC) = dpllStat t := by
  rw [viewReg, h]
  rfl

/-! ### The rest of the command -/

theorem bootNext_of_inOperation {s : State} (h : inOperation s) : bootNext s = s := by
  obtain ⟨-, hb⟩ := h
  unfold bootNext
  split
  · rfl
  · rename_i hn
    have hstep := hb.resolve_left fun hh => hn (.inr hh)
    rcases hstep with hs | hs | hs | hs <;> rw [hs]

theorem bootAdvance_of_inOperation {s : State} (h : inOperation s) : bootAdvance s = s := by
  simp only [bootAdvance, bootNext_of_inOperation h]

/-- Bringing the device to a time changes the time and its counters. -/
theorem advance_wrote (x : Nat) (s : State) :
    (advance x s).boot = s.boot ∧ (advance x s).frozen = s.frozen ∧ (selectorOn (advance x s) ↔ selectorOn s) := by
  unfold advance
  split
  · exact ⟨rfl, rfl, Iff.rfl⟩
  · split <;> exact ⟨rfl, rfl, Iff.rfl⟩

theorem dpllEvaluation_of_evalDue {s : State} {x : Nat} (h : evalDue s x) :
    dpllEvaluation x s = evaluate (advance x s) := by
  refine if_pos ?_
  rw [advance_dpll]
  refine h.imp id fun ⟨r, hr, hf⟩ => ?_
  rw [hr]
  exact hf

/-! ### Every command -/

theorem inClamp_of_next {u t : State} (he : (.next u : Host.Outcome State Fault Refusal) = .next t)
    (hu : InClamp u.dpll.freq) : InClamp t.dpll.freq := Host.Outcome.next.inj he ▸ hu

/-- R313: no command takes the output frequency out of the clamp. -/
theorem exec_inClamp {s t : State} (h : InClamp s.dpll.freq) {c : Instr} (he : exec c s = .next t) :
    InClamp t.dpll.freq := by
  cases c with
  -- Host writes.
  | registerWrite | blockEn | srst | freeze | iforce | errcapClear | rangePermWrite | proofHold | galleyProd |
    galleySlotWrite | clientRst | corrSubmit | posLoad | shadowFormeWrite | formeCrcStart | jetPath | dbgHalt |
    dbgStep | pressMemWrite | slotMaskWrite | txcommit | asrcChannelWrite | streamSel | streamCommit | ptpTxProd |
    timeSet | timeAdd | timeSlew | steerWrite | dpllAlign | bandSearch | pstep | domainGate | handover | fence |
    rejoin | delayCommit | recorderFreeze | apertureWrite | flipArm | resetWarm | resetCold | bootContinue |
    otpProgram | tempcfgClr =>
    exact inClamp_of_next he (hostWrite_inClamp h _)
  -- Words of a Press leave the DPLL alone.
  | opNop | opMpy | opMac | opMsu | opMpy2 | opMac2 | opMsu2 | opDmpy | opDmac | opQmac | opCmpy | opCmac | opCmsu |
    opMpyr | opAdda | opSuba | opMova | opNega | opAbsa | opClra | opRnd | opSata | opAsla | opAslv | opExp |
    opNorm | opExpd | opAdd | opAdds | opSub | opSubs | opAnd | opOr | opXor | opLsl | opAsr | opLsr | opMin |
    opMax | opAbs | opNeg | opCmp | moveLoad | moveStore | moveRegister | pointerUpdate | longAbsolute |
    longImmediate | bra | call | rts | rti | jmpr | rep | repr | loop | loopr | wait | trap | movs =>
    exact inClamp_of_next he (by simpa using h)
  -- Events that reach no part of the DPLL.
  | lowWordRead | srstComplete | strobeConflict | hostAccessTimeout | proofSnapshot | fallbackSnapshot |
    proofHoldExpire | classCDrop | entryCheck | replAck | replTimeout | recallForme | sluiceRoute | play |
    stopPlay | recordSeg | setGainZc | pressMsg | mark | cancel | tachPulse | tachQuietRelease | tachStuck |
    standstill | cntEdge | cntQuietRelease | cntStuck | corrDone | zoneGapBegin | zcTimeoutRamp | slotWaitStart |
    slotRelease | epochEnd | shadowUnlock | sluiceEnd | formeCrcDone | jetXfadeEnd | blockTick | pressStart |
    pressStop | tickEntry | faultEntry | brkMatch | pressDmaStarve | loopEndFetch | qualifyPass | bclkStop |
    fsLoss | clockReturn | faultFadeEnd | portZcTimeout | portRampEnd | aes3Block | aes3Lock | txcommitAct |
    ratioLock | linkUp | linkDown | packetReceive | macAgeOut | igmpLapse | igmpQuery | flowPacket | flowLoss |
    flowSend | fclkLock | discover | announce | announceSend | telemetrySend | readReq | nodeDupClear | ptpRx |
    ptpSlotSent | slewDone | timeNsRead | ptpPulse | pllLossOfLock | xoRestore | rampHandover | rampEnd |
    rateResume | rateDone | pstepDone | arbGrantRise | grantWaitEnd | arbGrantFall | arbChatterQuiet | arbStuck |
    leaseExpire | autoJoin | traliatLinkUp | traliatLinkDown | traliatLaneChange | healthCell | decCell |
    mirrorCell | galleyCell | cellResend | healthMissing | lossHoldExpire | syncPhaseEnd | cutover |
    fwdQueueOverflow | standbyHotPromote | warmTimeout | retrainTrigger | retrainSlice | retrainDone |
    retrainAbort | ceWindowEnd | reserveMove | shedWithdraw | dramRefresh | rowCloseTimeout | stagingDeadline |
    delayXfadeEnd | segmentComplete | voiceEnd | stopFadeEnd | eccRewrite | skimStep | senseClassify | senseStuck |
    senseQuiet | senseEventDeliver | actionRetryExpire | senseEvt | porRelease | startRun | otpProgramDone |
    ppsEdge | bmarkEdge | tempReading | rateHoldRenewal | tachBEdge | cntInLow | pressHostTimeout | supplyReading =>
    exact inClamp_of_next he (by simpa -implicitDefEqProofs using h)
  -- Events of the DPLL itself, of the start and its resets, and those that carry register writes.
  | frameTick | writeParam | heldEntryAct | pressHalt | groupFrame | timecmdAct | refEdge | refFail | refSoakDone |
    refDisqualify | dpllEvaluation | lockDeclared | ladderStep | lockLost | pullDone | alignEdge | pllLock |
    xoLoss | mediaRateChange | rateHold | searchDone | negTimeout | writeCell | fwdCell | bulkCell | ctrlCell |
    trainingDone | busGrant | supplyTrip | warmResetPin | xoQualified | bistDone | imageSlotPass | warmResetRelease =>
    exact inClamp_of_next he (by simp -implicitDefEqProofs [awake, h])
  | remapWrite =>
    refine inClamp_of_next he ?_
    split
    · exact hostWrite_inClamp h _
    · exact h

/-- A number held between two limits is the nearer limit exactly where it lies outside them. -/
theorem natAbs_gt_clampPpt (f : Int) : f.natAbs > clampPpt.natAbs ↔ f < -200000000 ∨ 200000000 < f := by
  unfold clampPpt
  omega

/-- Settles O52: the one operation that sets the output frequency clamps what the loop's state calls for; every other
leaves it, or a reset sets it to 0. -/
theorem outputFrequencyIsClamped : Obligations.OutputFrequencyIsClamped := by
  unfold Obligations.OutputFrequencyIsClamped
  refine ⟨fun s t h ht => ?_, fun s x _ hop hsel hdue hfrozen => ?_⟩
  · have hclamp : InClamp t.dpll.freq := by
      cases hq : s.pending with
      | nil => exact inClamp_of_next ((step_idle hq).symm.trans ht) h
      | cons c q => exact exec_inClamp (s := { s with pending := q }) h ((step_front hq).symm.trans ht)
    exact ⟨hclamp, Nat.lt_of_le_of_lt hclamp (by decide)⟩
  · obtain ⟨hboot, hfr, hon⟩ := advance_wrote x s
    obtain ⟨u, hu, hwrote, hfree⟩ := evaluate_of_selectorOn (hon.2 hsel)
    obtain ⟨hfreq, hclamp⟩ := outFreq_of_free hfree
    have hopu : inOperation (outFreq u) := by
      unfold inOperation Live
      rwa [show (outFreq u).boot = s.boot from hwrote.boot.trans hboot]
    have hfru : (outFreq u).frozen = [] := hwrote.frozen.trans (hfr.trans hfrozen)
    refine ⟨outFreq u, ?_, ?_, ?_⟩
    · show Host.Outcome.next _ = _
      rw [awake_run _ hop.1, dpllEvaluation_of_evalDue hdue, hu, bootAdvance_of_inOperation hopu]
    · rw [hfreq, calledFor_outFreq]
      rfl
    · rw [viewReg_dpllStat hfru, bit_dpllStat_clamp, hclamp, calledFor_outFreq, decide_eq_true_iff, natAbs_gt_clampPpt]

end Sys2Proof.Machine
end

section
/-!
PROOFS. The queue, the state after a reset, and a device held in reset.
-/

-- One declaration after another: side by side, the stacks of the threads exceed what memory the check allows.
set_option Elab.async false

namespace Sys2Proof.Machine

/-! ### The queue and the reset state -/

/-- Settles O1: one step is one command, the idle step none. -/
theorem stepRunsTheFrontCommand : Obligations.StepRunsTheFrontCommand := by
  unfold Obligations.StepRunsTheFrontCommand
  exact ⟨fun _ _ _ h => step_front h, fun _ h => step_idle h⟩

/-- Settles O2: `exec` has an arm for every command, and every arm answers a next state. -/
theorem everyCommandAnswers : Obligations.EveryCommandAnswers := by
  unfold Obligations.EveryCommandAnswers
  intro c s
  cases c <;> exact ⟨_, rfl⟩

/-- Settles O4: nothing is stored and nothing is in flight. -/
theorem resetIsCanonical : Obligations.ResetIsCanonical := by
  unfold Obligations.ResetIsCanonical
  exact ⟨rfl, rfl, rfl, rfl, rfl, rfl, by decide⟩

/-- Settles O7: the fields of `State.reset`, and an empty register file reads reset values. -/
theorem resetLeaves : Obligations.ResetLeaves := by
  unfold Obligations.ResetLeaves
  exact ⟨rfl, rfl, rfl, rfl, rfl, rfl, rfl, rfl, rfl, rfl, rfl, rfl, by decide, fun _ => rfl⟩

/-! ### Held in reset -/

/-- A device held in reset issues no word of a Press. -/
theorem pressIssue_held {s : State} (p : Fin 16) (f : State → State) (h : s.boot.held ≠ .none) :
    pressIssue p f s = s := by
  have hcore : coreRuns s = false := by simp [coreRuns, h]
  have hcan : canIssue s p = false := by simp [canIssue, hcore]
  simp [pressIssue, hcan, awake_held _ h]

/-- A device held in reset answers no read. -/
theorem lowWordRead_held {s : State} (a l : Nat) (h : s.boot.held ≠ .none) : lowWordRead a l s = s := by
  simp [lowWordRead, hostRead, h]

/-- The start-up goes no further while the device is held in reset. -/
theorem bootAdvance_held {s : State} (h : s.boot.held ≠ .none) : bootAdvance s = s := by
  have hnext : bootNext s = s := if_pos (.inl h)
  simp only [bootAdvance, hnext]

/-- Settles O6: every event passes the gate `awake`, every access `hostWrite` or `hostRead`, every word `canIssue`; the
other commands ask for themselves. -/
theorem heldInResetNothingHappens : Obligations.HeldInResetNothingHappens := by
  unfold Obligations.HeldInResetNothingHappens
  intro c s hc h
  cases c with
  | supplyTrip | porRelease | warmResetRelease | xoLoss | xoRestore | frameTick =>
    exact absurd hc (by simp [actsInReset])
  -- Host writes.
  | registerWrite | blockEn | srst | freeze | iforce | errcapClear | rangePermWrite | proofHold | galleyProd |
     galleySlotWrite | clientRst | corrSubmit | posLoad | shadowFormeWrite | formeCrcStart | jetPath | dbgHalt |
     dbgStep | pressMemWrite | slotMaskWrite | txcommit | asrcChannelWrite | streamSel | streamCommit | ptpTxProd |
     timeSet | timeAdd | timeSlew | steerWrite | dpllAlign | bandSearch | pstep | domainGate | handover | fence |
     rejoin | delayCommit | recorderFreeze | apertureWrite | flipArm | resetWarm | resetCold | bootContinue |
     otpProgram | tempcfgClr =>
    exact congrArg Host.Outcome.next (hostWrite_held _ h)
  -- Words of a Press.
  | opNop | opMpy | opMac | opMsu | opMpy2 | opMac2 | opMsu2 | opDmpy | opDmac | opQmac | opCmpy | opCmac | opCmsu |
     opMpyr | opAdda | opSuba | opMova | opNega | opAbsa | opClra | opRnd | opSata | opAsla | opAslv | opExp |
     opNorm | opExpd | opAdd | opAdds | opSub | opSubs | opAnd | opOr | opXor | opLsl | opAsr | opLsr | opMin |
     opMax | opAbs | opNeg | opCmp | moveLoad | moveStore | moveRegister | pointerUpdate | longAbsolute |
     longImmediate | bra | call | rts | rti | jmpr | rep | repr | loop | loopr | wait | trap | movs =>
    exact congrArg Host.Outcome.next (pressIssue_held _ _ h)
  -- Events.
  | srstComplete | proofHoldExpire | classCDrop | entryCheck | replAck | replTimeout | writeParam | recallForme |
     sluiceRoute | play | stopPlay | recordSeg | setGainZc | pressMsg | mark | cancel | tachPulse | tachQuietRelease |
     tachStuck | standstill | cntEdge | cntQuietRelease | cntStuck | corrDone | zoneGapBegin | zcTimeoutRamp |
     slotWaitStart | slotRelease | epochEnd | heldEntryAct | shadowUnlock | sluiceEnd | formeCrcDone | jetXfadeEnd |
     blockTick | pressStart | pressStop | pressHalt | tickEntry | faultEntry | brkMatch | pressDmaStarve |
     loopEndFetch | groupFrame | qualifyPass | bclkStop | fsLoss | clockReturn | faultFadeEnd | portZcTimeout |
     portRampEnd | aes3Block | aes3Lock | txcommitAct | ratioLock | linkUp | linkDown | packetReceive | macAgeOut |
     igmpLapse | igmpQuery | flowPacket | flowLoss | flowSend | fclkLock | discover | announce | announceSend |
     telemetrySend | readReq | nodeDupClear | ptpRx | ptpSlotSent | timecmdAct | slewDone | ptpPulse | refEdge |
     refFail | refSoakDone | refDisqualify | dpllEvaluation | lockDeclared | ladderStep | lockLost | pullDone |
     alignEdge | pllLock | pllLossOfLock | mediaRateChange | rateHold | rampHandover | rampEnd | rateResume |
     rateDone | searchDone | pstepDone | arbGrantRise | grantWaitEnd | arbGrantFall | arbChatterQuiet | arbStuck |
     leaseExpire | autoJoin | negTimeout | traliatLinkUp | traliatLinkDown | traliatLaneChange | healthCell |
     decCell | mirrorCell | galleyCell | writeCell | fwdCell | bulkCell | ctrlCell | cellResend | healthMissing |
     lossHoldExpire | syncPhaseEnd | cutover | fwdQueueOverflow | standbyHotPromote | warmTimeout | trainingDone |
     retrainTrigger | retrainSlice | retrainDone | retrainAbort | ceWindowEnd | reserveMove | shedWithdraw |
     dramRefresh | rowCloseTimeout | stagingDeadline | delayXfadeEnd | segmentComplete | voiceEnd | stopFadeEnd |
     busGrant | eccRewrite | skimStep | senseClassify | senseStuck | senseQuiet | senseEventDeliver |
     actionRetryExpire | senseEvt | imageSlotPass | otpProgramDone | ppsEdge | bmarkEdge | tempReading |
     rateHoldRenewal | tachBEdge | cntInLow | supplyReading =>
    exact congrArg Host.Outcome.next (awake_held _ h)
  -- Commands that ask for themselves.
  | lowWordRead | timeNsRead => exact congrArg Host.Outcome.next (lowWordRead_held _ _ h)
  | remapWrite =>
    refine congrArg Host.Outcome.next ?_
    split
    · exact hostWrite_held _ h
    · rfl
  | strobeConflict => exact congrArg Host.Outcome.next (if_pos h)
  | startRun | hostAccessTimeout | pressHostTimeout | proofSnapshot | fallbackSnapshot =>
    exact congrArg Host.Outcome.next (if_pos (.inl h))
  | warmResetPin => exact congrArg Host.Outcome.next (if_neg h)
  | xoQualified =>
    have hx : xoQualified s = s := if_neg fun hh => h hh.1
    exact congrArg Host.Outcome.next ((congrArg bootAdvance hx).trans (bootAdvance_held h))
  | bistDone r =>
    have hr : bistDone r s = s := if_pos (.inl h)
    exact congrArg Host.Outcome.next ((congrArg bootAdvance hr).trans (bootAdvance_held h))

end Sys2Proof.Machine
end

section
/-!
PROOFS. The queue stays and storage stays canonical: the predicate `Tidy` that every operation keeps, for the state's parts, a
branch, a fold, and for the results in flight of a Press.
-/

-- One declaration after another: side by side, the stacks of the threads exceed what memory the check allows.
set_option Elab.async false

namespace Sys2Proof.Machine

/-- The results in flight of a Press stand in the order of their arrival, within the six stages (R204). -/
def InFlight (x : PressSt) : Prop := InOrder x.pend ∧ ∀ w ∈ x.pend, w.at_ ≤ x.cyc + 5

/-- The commands `q` wait; and, where `c` holds, storage is in canonical form. Every operation of the device keeps it.
  -/
def Tidy (q : List Instr) (c : Prop) (s : State) : Prop := s.pending = q ∧ (c → Canonical s)

variable {q : List Instr} {c : Prop} {s : State}

/-! ### The results in flight of a Press -/

theorem InFlight.of_empty {x : PressSt} (h : x.pend = []) : InFlight x := by
  unfold InFlight
  rw [h]
  exact ⟨.nil, fun w hw => absurd hw List.not_mem_nil⟩

theorem InFlight.sublist {x : PressSt} (h : InFlight x) {l : List PWrite} (hl : l.Sublist x.pend) :
    InOrder l ∧ ∀ w ∈ l, w.at_ ≤ x.cyc + 5 :=
  ⟨h.1.sublist hl, fun w hw => h.2 w (hl.subset hw)⟩

theorem InFlight.mapped {x : PressSt} (h : InFlight x) {f : PWrite → PWrite} (hf : ∀ w, (f w).at_ = w.at_) :
    InFlight { x with pend := x.pend.map f } := by
  refine ⟨h.1.map hf, fun w hw => ?_⟩
  obtain ⟨v, hv, rfl⟩ := List.mem_map.1 hw
  rw [hf]
  exact h.2 v hv

theorem InFlight.later {x : PressSt} (h : InFlight x) (n : Nat) : InFlight { x with cyc := x.cyc + n } :=
  ⟨h.1, fun w hw => (h.2 w hw).trans (by dsimp only; omega)⟩

theorem mem_pendPut {v w : PWrite} {l : List PWrite} : v ∈ pendPut w l ↔ v = w ∨ v ∈ l := by
  induction l with
  | nil => exact List.mem_singleton.trans (by simp)
  | cons a t ih =>
    unfold pendPut
    split
    · exact List.mem_cons
    · simp only [List.mem_cons, ih]
      exact or_left_comm

theorem mem_pend_pendAll {x : PressSt} {v : PWrite} {l : List PWrite} :
    v ∈ (pendAll l x).pend ↔ v ∈ l ∨ v ∈ x.pend := by
  induction l generalizing x with
  | nil => simp [pendAll]
  | cons w t ih =>
    rw [pendAll_cons, ih, show (pendAll [w] x).pend = pendPut w x.pend from rfl, mem_pendPut, List.mem_cons]
    exact or_left_comm.trans or_assoc.symm

/-- A word issued in cycle `t` leaves its results in order and within the six stages of the next cycle. -/
theorem InFlight.issued {x : PressSt} (h : InFlight x) {l : List PWrite} (hl : ∀ w ∈ l, w.at_ ≤ x.cyc + 6) :
    InFlight { pendAll l x with cyc := x.cyc + 1 } := by
  refine ⟨h.1.pendAll l, fun w hw => ?_⟩
  rcases mem_pend_pendAll.1 hw with hw | hw
  · exact hl w hw
  · exact (h.2 w hw).trans (by dsimp only; omega)

theorem InFlight.retire {x : PressSt} (h : InFlight x) (k : Nat) :
    InFlight (retire k x) := h.sublist List.filter_sublist

theorem InFlight.settleCounts {x : PressSt} (h : InFlight x) (j : Nat) : InFlight (settleCounts j x) :=
  h.mapped fun w => by
    split
    · split <;> rfl
    · split <;> rfl
    · rfl

theorem InFlight.settleLa {x : PressSt} (h : InFlight x) (j : Nat) : InFlight (settleLa j x) :=
  h.mapped fun w => by split <;> rfl

theorem InFlight.drainPend {x : PressSt} (h : InFlight x) : InFlight (drainPend x) := (h.settleCounts _).retire _

theorem cyc_loopCompare (x : PressSt) : (loopCompare x).cyc = x.cyc := by rw [loopCompare_frame]

theorem InFlight.loopCompare {x : PressSt} (h : InFlight x) : InFlight (loopCompare x) := by
  unfold InFlight
  rw [cyc_loopCompare]
  exact h.sublist (loopCompare_pend_sublist x)

theorem InFlight.fetchStep {x : PressSt} (h : InFlight x) : InFlight (fetchStep x) := by
  unfold Machine.fetchStep
  split
  · exact h
  · exact ((h.settleCounts _).retire _).loopCompare.settleLa _

@[simp] theorem restoreSr_pend (v : Word) (x : PressSt) : (restoreSr v x).pend = x.pend := rfl

@[simp] theorem restoreSr_cyc (v : Word) (x : PressSt) : (restoreSr v x).cyc = x.cyc := rfl

@[simp] theorem swapShadow_pend (x : PressSt) : (swapShadow x).pend = x.pend := rfl

@[simp] theorem swapShadow_cyc (x : PressSt) : (swapShadow x).cyc = x.cyc := rfl

/-- What a word passes on to the next leaves the results in flight and the cycle as they are. -/
theorem advancePc_flight (x : PressSt) : (advancePc x).pend = x.pend ∧ (advancePc x).cyc = x.cyc := by
  unfold Machine.advancePc
  extract_lets nxt y
  split
  · exact ⟨rfl, rfl⟩
  · split
    · exact ⟨rfl, rfl⟩
    · dsimp only
      split
      · exact ⟨rfl, rfl⟩
      · rw [restoreSr_pend, restoreSr_cyc]
        split <;> simp only [swapShadow_pend, swapShadow_cyc, y, and_self]

theorem InFlight.advancePc {x : PressSt} (h : InFlight x) : InFlight (advancePc x) := by
  obtain ⟨hpend, hcyc⟩ := advancePc_flight x
  unfold InFlight
  rw [hpend, hcyc]
  exact h

theorem InFlight.startLoop {x : PressSt} (h : InFlight x) (k : BitVec 16) (e : BitVec 13) :
    InFlight (startLoop k e x) := by
  refine ⟨InOrder.pendAll (x := { x with la := _ }) h.1 _, fun w hw => ?_⟩
  rcases mem_pend_pendAll.1 hw with hw | hw
  · simp only [List.mem_cons, List.not_mem_nil, or_false] at hw
    have : w.at_ = x.cyc + 2 := by rcases hw with rfl | rfl | rfl <;> rfl
    exact this.trans_le (Nat.add_le_add_left (by decide : 2 ≤ 5) x.cyc)
  · exact h.2 w hw

theorem at_of_mem_arithWrites {x : PressSt} {t : Nat} {f : BitVec 22} {w : PWrite} (h : w ∈ arithWrites x t f) :
    w.at_ ≤ t + 5 := by
  unfold arithWrites at h
  split at h
  · exact absurd h List.not_mem_nil
  · dsimp only at h
    split at h
    · rcases List.mem_append.1 h with h | h
      · obtain ⟨y, _, rfl⟩ := List.mem_map.1 h
        exact le_rfl
      · rw [List.mem_singleton.1 h]
        exact le_rfl
    · exact absurd h List.not_mem_nil

theorem at_movsWrite (x : PressSt) (u4 into : Bool) (r : Nat) (dn : Fin 16) :
    (movsWrite x u4 into r dn).at_ ≤ x.cyc + 5 := by
  unfold movsWrite
  dsimp only
  split
  · dsimp only
    split
    · exact le_rfl
    · exact Nat.le_succ _
  · split <;> exact Nat.le_succ _


/-! ### The parts -/

theorem Tidy.ranges (h : Tidy q c s) (hc : c) : s.host.ranges.length = 16 := (h.2 hc).2.2.2.1

theorem Tidy.refs (h : Tidy q c s) (hc : c) : s.dpll.refs.length = 8 := (h.2 hc).2.2.2.2.1

theorem Tidy.wclk (h : Tidy q c s) (hc : c) : s.clk.wclk.length = 2 := (h.2 hc).2.2.2.2.2.1

theorem Tidy.press (h : Tidy q c s) (p : Fin 16) (hc : c) : InFlight s.press[p] := (h.2 hc).2.2.2.2.2.2 p

theorem Tidy.setHost (h : Tidy q c s) (x : HostSt) (hx : c → x.ranges.length = 16) : Tidy q c { s with host := x } :=
  ⟨h.1, fun hc =>
    let ⟨h1, h2, h3, _, h5⟩ := h.2 hc
    ⟨h1, h2, h3, hx hc, h5⟩⟩

theorem Tidy.setDpll (h : Tidy q c s) (x : DpllSt) (hx : c → x.refs.length = 8) : Tidy q c (setDpll x s) :=
  ⟨h.1, fun hc =>
    let ⟨h1, h2, h3, h4, _, h6⟩ := h.2 hc
    ⟨h1, h2, h3, h4, hx hc, h6⟩⟩

theorem Tidy.setClk (h : Tidy q c s) (x : ClockSt) (hx : c → x.wclk.length = 2) : Tidy q c (setClk x s) :=
  ⟨h.1, fun hc =>
    let ⟨h1, h2, h3, h4, h5, _, h7⟩ := h.2 hc
    ⟨h1, h2, h3, h4, h5, hx hc, h7⟩⟩

theorem Tidy.setPress (h : Tidy q c s) (p : Fin 16) (x : PressSt) (hx : c → InFlight x) : Tidy q c (setPress p x s) :=
  ⟨h.1, fun hc =>
    let ⟨h1, h2, h3, h4, h5, h6, h7⟩ := h.2 hc
    ⟨h1, h2, h3, h4, h5, h6, fun k => by
      by_cases hk : k = p
      · subst hk
        rw [press_setPress_same]
        exact hx hc
      · rw [press_setPress_ne s x hk]
        exact h7 k⟩⟩

/-! ### Parts that keep what storage asks of them -/

theorem Tidy.setHostKeep (h : Tidy q c s) (x : HostSt) (hx : x.ranges = s.host.ranges := by rfl) :
    Tidy q c { s with host := x } :=
  h.setHost x fun hc => (congrArg List.length hx).trans (h.ranges hc)

theorem Tidy.setDpllKeep (h : Tidy q c s) (x : DpllSt) (hx : x.refs = s.dpll.refs := by rfl) :
    Tidy q c (Machine.setDpll x s) :=
  h.setDpll x fun hc => (congrArg List.length hx).trans (h.refs hc)

theorem Tidy.setClkKeep (h : Tidy q c s) (x : ClockSt) (hx : x.wclk = s.clk.wclk := by rfl) :
    Tidy q c (Machine.setClk x s) :=
  h.setClk x fun hc => (congrArg List.length hx).trans (h.wclk hc)

theorem Tidy.setPressKeep (h : Tidy q c s) (p : Fin 16) (x : PressSt) (hp : x.pend = s.press[p].pend := by rfl)
    (hy : x.cyc = s.press[p].cyc := by rfl) : Tidy q c (Machine.setPress p x s) :=
  h.setPress p x fun hc => by
    unfold InFlight
    rw [hp, hy]
    exact h.press p hc

/-! ### The parts that bear on neither -/

theorem Tidy.setBoot (h : Tidy q c s) (x : BootSt) : Tidy q c (setBoot x s) := h
theorem Tidy.setTb (h : Tidy q c s) (x : TimebaseSt) : Tidy q c (setTb x s) := h
theorem Tidy.setGalley (h : Tidy q c s) (x : GalleySt) : Tidy q c (setGalley x s) := h
theorem Tidy.setBasin (h : Tidy q c s) (x : BasinSt) : Tidy q c (setBasin x s) := h
theorem Tidy.setNet (h : Tidy q c s) (x : NetSt) : Tidy q c (setNet x s) := h
theorem Tidy.setTwinSt (h : Tidy q c s) (x : TwinSt) : Tidy q c (setTwinSt x s) := h
theorem Tidy.setArb (h : Tidy q c s) (x : ArbSt) : Tidy q c (setArb x s) := h
theorem Tidy.setPtp (h : Tidy q c s) (x : PtpSt) : Tidy q c (setPtp x s) := h
theorem Tidy.setCist (h : Tidy q c s) (x : CistSt) : Tidy q c (setCist x s) := h
theorem Tidy.setFab (h : Tidy q c s) (x : FabSt) : Tidy q c (setFab x s) := h
theorem Tidy.setSense (h : Tidy q c s) (x : SenseSt) : Tidy q c (setSense x s) := h
theorem Tidy.setNow (h : Tidy q c s) (x : Nat) : Tidy q c { s with now := x } := h
theorem Tidy.setFreeCtr (h : Tidy q c s) (x : Nat) : Tidy q c { s with freeCtr := x } := h
theorem Tidy.setFrozen (h : Tidy q c s) (x : List (Nat × Word)) : Tidy q c { s with frozen := x } := h
theorem Tidy.setLatches (h : Tidy q c s) (x : List (Nat × Word)) : Tidy q c { s with latches := x } := h
theorem Tidy.setSrst (h : Tidy q c s) (x : List Nat) : Tidy q c { s with srst := x } := h
theorem Tidy.setLandNext (h : Tidy q c s) (x : List (Nat × Word)) : Tidy q c { s with landNext := x } := h
theorem Tidy.setComp (h : Tidy q c s) (x : CompositorSt) : Tidy q c { s with comp := x } := h
theorem Tidy.setPorts (h : Tidy q c s) (x : PortSt) : Tidy q c { s with ports := x } := h
theorem Tidy.setShedMeas (h : Tidy q c s) (x : Nat) : Tidy q c { s with shedMeas := x } := h
theorem Tidy.setShedImp (h : Tidy q c s) (x : Nat) : Tidy q c { s with shedImp := x } := h
theorem Tidy.setShed (h : Tidy q c s) (x : Nat) : Tidy q c { s with shed := x } := h
theorem Tidy.setShedT (h : Tidy q c s) (x : List Nat) : Tidy q c { s with shedT := x } := h

/-! ### Branches and folds -/

theorem Tidy.ite {p : Prop} [Decidable p] {t : State} (hs : Tidy q c s) (ht : Tidy q c t) :
    Tidy q c (if p then s else t) := by split <;> assumption

theorem Tidy.ite_fst {β : Type} {p : Prop} [Decidable p] {a b : State × β} (ha : Tidy q c a.1) (hb : Tidy q c b.1) :
    Tidy q c (if p then a else b).1 := by split <;> assumption

theorem Tidy.ite_snd {β : Type} {p : Prop} [Decidable p] {a b : β × State} (ha : Tidy q c a.2) (hb : Tidy q c b.2) :
    Tidy q c (if p then a else b).2 := by split <;> assumption

theorem Tidy.foldl {α : Type} {f : State → α → State} {l : List α} (h : Tidy q c s)
    (hf : ∀ u x, Tidy q c u → Tidy q c (f u x)) : Tidy q c (l.foldl f s) :=
  List.foldlRecOn _ _ h fun _ hu x _ => hf _ x hu

theorem Tidy.foldl_fst {α β : Type} {f : State × β → α → State × β} {l : List α} {a : State × β} (h : Tidy q c a.1)
    (hf : ∀ (u : State × β) x, Tidy q c u.1 → Tidy q c (f u x).1) : Tidy q c (l.foldl f a).1 :=
  List.foldlRecOn (motive := fun a : State × β => Tidy q c a.1) _ _ h fun _ hu x _ => hf _ x hu

theorem Tidy.foldl_snd {α β : Type} {f : β × State → α → β × State} {l : List α} {a : β × State} (h : Tidy q c a.2)
    (hf : ∀ (u : β × State) x, Tidy q c u.2 → Tidy q c (f u x).2) : Tidy q c (l.foldl f a).2 :=
  List.foldlRecOn (motive := fun a : β × State => Tidy q c a.2) _ _ h fun _ hu x _ => hf _ x hu

/-! ### Storage -/

theorem Tidy.rset (h : Tidy q c s) (a : Nat) (v : Word) : Tidy q c (rset a v s) :=
  ⟨h.1, fun hc => ⟨rset_regs_wf (h.2 hc).1 a v, (h.2 hc).2⟩⟩

theorem Tidy.wrByte (h : Tidy q c s) (a : Nat) (v : Byte) : Tidy q c (wrByte a v s) :=
  ⟨h.1, fun hc => ⟨(h.2 hc).1, wrByte_mem_wf (h.2 hc).2.1 a v, (h.2 hc).2.2⟩⟩

theorem Tidy.cwByte (h : Tidy q c s) (a : Nat) (v : Byte) : Tidy q c (cwByte a v s) :=
  ⟨h.1, fun hc => ⟨(h.2 hc).1, (h.2 hc).2.1, cwByte_cist_wf (h.2 hc).2.2.1 a v, (h.2 hc).2.2.2⟩⟩

theorem Tidy.awake (h : Tidy q c s) {f : State → State} (hf : ∀ u, Tidy q c u → Tidy q c (f u)) :
    Tidy q c (awake f s) :=
  .ite (hf s h) h

end Sys2Proof.Machine
end

section
/-!
PROOFS. The state operations, ECC, the completion of entries, the Basin and the time axes keep `Tidy`.
-/

namespace Sys2Proof.Machine

-- One lemma after the other: the threads of so many at once do not fit the memory limit.
set_option Elab.async false

variable {q : List Instr} {c : Prop} {s : State}

/-! ### Ops -/

theorem Tidy.rput (h : Tidy q c s) (a hi lo v : Nat) : Tidy q c (rput a hi lo v s) :=
  h.rset ..

theorem Tidy.cnt (h : Tidy q c s) (a n : Nat) : Tidy q c (cnt a s n) :=
  h.rset ..

theorem Tidy.peak (h : Tidy q c s) (a n : Nat) : Tidy q c (peak a n s) :=
  .ite (h.rset ..) h

theorem Tidy.iset (h : Tidy q c s) (p b : Nat) : Tidy q c (iset p b s) :=
  h.rset ..

theorem Tidy.errcap (h : Tidy q c s) (p code addr : Nat) : Tidy q c (errcap p code addr s) :=
  .ite (h.rset ..) ((h.rset ..).rset ..)

theorem Tidy.alarm (h : Tidy q c s) (b : Nat) : Tidy q c (alarm b s) :=
  h.rset ..

theorem Tidy.wrWord (h : Tidy q c s) (a : Nat) (v : Word) : Tidy q c (wrWord a v s) :=
  (((h.wrByte ..).wrByte ..).wrByte ..).wrByte ..

theorem Tidy.wrWordBe (h : Tidy q c s) (a : Nat) (be : BitVec 4) (v : Word) : Tidy q c (wrWordBe a be v s) := by
  unfold Machine.wrWordBe
  extract_lets b
  have hb x0 (u : State) (hu : Tidy q c u) : Tidy q c (b x0 u) := .ite (hu.wrByte ..) hu
  exact hb _ _ (hb _ _ (hb _ _ (hb _ _ h)))

theorem Tidy.cwBytes (h : Tidy q c s) (a : Nat) (l : List Byte) : Tidy q c (cwBytes a l s) := by
  induction l generalizing a s with
  | nil => exact h
  | cons v t ih => exact ih (h.cwByte ..) _

theorem Tidy.freeWord (h : Tidy q c s) : Tidy q c (freeWord s).2 :=
  h.setFreeCtr ..

theorem Tidy.freeBelow (h : Tidy q c s) (k : Nat) : Tidy q c (freeBelow k s).2 :=
  h.setFreeCtr ..

theorem Tidy.advance (h : Tidy q c s) (t : Nat) : Tidy q c (advance t s) :=
  .ite h (.ite ((h.setNow ..).setPtp ..) (h.setNow ..))

/-! ### TwinCore -/

theorem Tidy.voidFlight (h : Tidy q c s) : Tidy q c (voidFlight s) :=
  h

theorem Tidy.leaveRole (h : Tidy q c s) (t : TwinState) : Tidy q c (leaveRole t s) :=
  .ite (.ite h.voidFlight h) ((Tidy.ite h.voidFlight h).setTwinSt ..)

theorem Tidy.setTwin (h : Tidy q c s) (t : TwinState) : Tidy q c (setTwin t s) :=
  .ite h (.ite ((((Tidy.ite (h.rput ..) h).leaveRole ..).setTwinSt ..).iset ..)
    (((((Tidy.ite (h.rput ..) h).leaveRole ..).setTwinSt ..).iset ..).setFab ..))

theorem Tidy.releaseOutputs (h : Tidy q c s) : Tidy q c (releaseOutputs s) :=
  .ite ((h.setTwinSt ..).iset ..) (h.setTwinSt ..)

theorem Tidy.hbStatic (h : Tidy q c s) : Tidy q c (hbStatic s) :=
  h.setArb ..

theorem Tidy.hbToggle (h : Tidy q c s) : Tidy q c (hbToggle s) :=
  (h.setArb ..).cnt ..

theorem Tidy.enterTwinFault (h : Tidy q c s) (cause : Nat) : Tidy q c (enterTwinFault cause s) :=
  ((h.releaseOutputs.hbStatic.setTwin ..).setTwinSt ..).alarm ..

theorem Tidy.enterFenced (h : Tidy q c s) : Tidy q c (enterFenced s) :=
  (h.releaseOutputs.hbStatic.setTwin ..).setTwinSt ..

theorem Tidy.requestRelease (h : Tidy q c s) (r : Release) : Tidy q c (requestRelease r s) :=
  .ite (h.setTwinSt ..) h

theorem Tidy.immediateRelease (h : Tidy q c s) (cause : Nat) : Tidy q c (immediateRelease cause s) :=
  .ite (h.enterTwinFault ..) h

theorem Tidy.standbyFault (h : Tidy q c s) (cause : Nat) : Tidy q c (standbyFault cause s) :=
  .ite (h.enterTwinFault ..) h

theorem Tidy.twinEccFault (h : Tidy q c s) : Tidy q c (twinEccFault s) :=
  .ite (.ite (h.immediateRelease ..) h) (h.standbyFault ..)

theorem Tidy.sendCell (h : Tidy q c s) (ch : Nat) (body : CellBody) : Tidy q c (sendCell ch body s) :=
  .ite (h.setTwinSt ..) h

theorem Tidy.partnerLost (h : Tidy q c s) : Tidy q c (partnerLost s) := by
  unfold Machine.partnerLost
  extract_lets _ s1 _
  have hs1 : Tidy q c s1 := (((h.setTwinSt ..).iset ..).alarm ..).sendCell ..
  split
  · exact h
  · split
    · exact hs1.setTwinSt ..
    · exact hs1.enterFenced
    · exact hs1.enterFenced
    · exact hs1

theorem Tidy.markBad (h : Tidy q c s) : Tidy q c (markBad s) :=
  h.setTwinSt ..

/-! ### Ecc -/

theorem Tidy.setFlips (h : Tidy q c s) (a v : Nat) : Tidy q c (setFlips a v s) :=
  h.setFab ..

theorem Tidy.eccLast (h : Tidy q c s) (a : Nat) (ue : Bool) : Tidy q c (eccLast a ue s) :=
  (h.rset ..).rset ..

theorem Tidy.autoRemap (h : Tidy q c s) (a : Nat) (g : Fin 4) : Tidy q c (autoRemap a g s) := by
  unfold Machine.autoRemap
  dsimp only
  split
  · split
    · exact (((h.setFab ..).setFlips ..).rset ..).iset ..
    · exact (h.setFab ..).iset ..
  · exact h.setFab ..

theorem Tidy.settleData (h : Tidy q c s) (a residual : Nat) : Tidy q c (settleData a residual s) :=
  .ite h (.ite ((((((((h.cwByte ..).cwByte ..).cwByte ..).cwByte ..).cwByte ..).cwByte ..).cwByte ..).cwByte ..)
    (h.wrWord ..))

theorem Tidy.eccCorrect (h : Tidy q c s) (a residual : Nat) : Tidy q c (eccCorrect a residual s) := by
  unfold Machine.eccCorrect
  dsimp only
  split
  · exact h
  · exact ((((Tidy.ite ((((h.eccLast ..).cnt ..).iset ..).setCist ..)
      (((h.eccLast ..).cnt ..).iset ..)).settleData ..).setFlips ..).setFab ..).autoRemap ..

theorem Tidy.eccUncorrectable (h : Tidy q c s) (a : Nat) : Tidy q c (eccUncorrectable a s) := by
  unfold Machine.eccUncorrectable
  split
  · exact h
  · exact (((((h.eccLast ..).cnt ..).iset ..).alarm ..).errcap ..).twinEccFault

theorem Tidy.eccRead (h : Tidy q c s) (a : Nat) : Tidy q c (eccRead a s).1 := by
  unfold Machine.eccRead
  split
  · exact h
  · exact h.eccCorrect ..
  · exact h.eccUncorrectable ..

theorem Tidy.stageMiss (h : Tidy q c s) : Tidy q c (stageMiss s) :=
  (h.cnt ..).iset ..

theorem Tidy.dmaRead (h : Tidy q c s) (a : Nat) : Tidy q c (dmaRead a s).2 :=
  .ite_snd h (.ite_snd (h.eccRead ..).stageMiss (h.eccRead ..))

theorem Tidy.freshen (h : Tidy q c s) (a : Nat) : Tidy q c (freshen a s) := by
  unfold Machine.freshen
  dsimp only
  split
  · exact ((h.setFab ..).setFlips ..).iset ..
  · exact .ite h (h.setFlips ..)

theorem Tidy.stWord (h : Tidy q c s) (a : Nat) (v : Word) : Tidy q c (stWord a v s) :=
  (h.wrWord ..).freshen ..

theorem Tidy.stWords (h : Tidy q c s) (a : Nat) (l : List Word) : Tidy q c (stWords a l s) := by
  induction l generalizing a s with
  | nil => exact h
  | cons v t ih => exact ih (h.stWord ..) _

theorem Tidy.stWordBe (h : Tidy q c s) (a : Nat) (be : BitVec 4) (v : Word) : Tidy q c (stWordBe a be v s).1 :=
  .ite_fst (h.stWord ..) (.ite_fst (h.eccRead ..) (((h.eccRead ..).wrWordBe ..).freshen ..))

/-! ### Comp -/

theorem Tidy.mapFlight (h : Tidy q c s) (f : Ev → Ev) : Tidy q c (mapFlight f s) :=
  h.setGalley ..

theorem Tidy.record (h : Tidy q c s) (e : Ev) (outcome late land done : Nat) :
    Tidy q c (record e outcome late land done s) := by
  unfold Machine.record
  extract_lets a _ s1 s2 s3 s4 s5 s6 _ _
  have hs1 : Tidy q c s1 := h.stWords ..
  have hs2 : Tidy q c s2 := (hs1.cnt ..).rset ..
  have hs3 : Tidy q c s3 := .ite (hs2.iset ..) hs2
  have hs4 : Tidy q c s4 := .ite ((hs3.cnt ..).iset ..) hs3
  have hs5 : Tidy q c s5 := .ite ((hs4.cnt ..).iset ..) hs4
  have hs6 : Tidy q c s6 := .ite (hs5.iset ..) hs5
  exact hs6

theorem Tidy.cancelDeps (h : Tidy q c s) (n : Nat) (t : Word) : Tidy q c (cancelDeps n t s) := by
  induction n generalizing t s with
  | zero => exact h
  | succ n ih => exact (h.mapFlight ..).foldl fun _ _ hu => ih ((hu.setComp _).record ..) _

theorem Tidy.applyCancel (h : Tidy q c s) (target : Word) : Tidy q c (applyCancel target s).1 := by
  unfold Machine.applyCancel
  dsimp only
  split
  · exact ((h.setComp ..).record ..).cancelDeps ..
  · exact h

theorem Tidy.selectCancel (h : Tidy q c s) (e : Ev) : Tidy q c (selectCancel e s).1 :=
  (h.setComp ..).applyCancel ..

theorem Tidy.deferred (h : Tidy q c s) : Tidy q c (deferred s) :=
  .ite (h.setComp ..) ((h.setComp ..).iset ..)

theorem Tidy.joinSel (h : Tidy q c s) (e : Ev) : Tidy q c (joinSel e s) := by
  unfold Machine.joinSel
  extract_lets free _ r l
  have hr : Tidy q c r.1 := by
    unfold r
    split
    · exact h
    · exact h.selectCancel ..
  split
  · exact h.deferred
  · split
    · exact (hr.setComp ..).deferred
    · exact hr

theorem Tidy.releaseDeps (h : Tidy q c s) (t : Word) (c' : Nat) : Tidy q c (releaseDeps t c' s) :=
  (h.mapFlight ..).foldl (fun _ _ h0 => .ite ((h0.setComp ..).joinSel ..) (h0.setComp ..))

theorem Tidy.finish (h : Tidy q c s) (e : Ev) (outcome late land done : Nat) :
    Tidy q c (finish e outcome late land done s) :=
  .ite ((h.record ..).cancelDeps ..) ((h.record ..).releaseDeps ..)

theorem Tidy.finishAt (h : Tidy q c s) (e : Ev) (done : Nat) : Tidy q c (finishAt e done s) :=
  h.finish ..

theorem Tidy.popLanding (h : Tidy q c s) : Tidy q c (popLanding s) :=
  h.setComp ..

theorem Tidy.keepRunning (h : Tidy q c s) (e : Ev) : Tidy q c (keepRunning e s) :=
  h.setComp ..

theorem Tidy.holdEv (h : Tidy q c s) (e : Ev) : Tidy q c (holdEv e s) :=
  h.setComp ..

theorem Tidy.finishRunning (h : Tidy q c s) (t : Word) (done : Nat) : Tidy q c (finishRunning t done s) := by
  unfold Machine.finishRunning
  dsimp only
  split
  · exact h
  · exact (h.setComp ..).finishAt ..

theorem Tidy.applyImmCancel (h : Tidy q c s) (e : Ev) : Tidy q c (applyImmCancel e s) :=
  (h.applyCancel ..).finish ..

theorem Tidy.selectCancels (h : Tidy q c s) (l : List Ev) : Tidy q c (selectCancels l s) :=
  h.foldl (fun _ _ h0 => (h0.selectCancel ..).setComp ..)

theorem Tidy.selectWith (h : Tidy q c s) (f : Nat) (jd : State → Ev → Ev) : Tidy q c (selectWith f jd s) :=
  (Tidy.ite ((((((h.mapFlight ..).setComp ..).foldl
    (fun _ _ h5 => h5.finish ..)).selectCancels ..).setComp ..).iset ..)
      (((((h.mapFlight ..).setComp ..).foldl (fun _ _ h4 => h4.finish ..)).selectCancels ..).setComp ..)).foldl
        (fun _ _ h0 => h0.peak ..)

theorem Tidy.selectFor (h : Tidy q c s) : Tidy q c (selectFor s) :=
  h.selectWith ..

theorem Tidy.selectHold (h : Tidy q c s) : Tidy q c (selectHold s) :=
  h.selectWith ..

theorem Tidy.selectNow (h : Tidy q c s) : Tidy q c (selectNow s) :=
  .ite h.selectHold h.selectFor

theorem Tidy.selectGap (h : Tidy q c s) : Tidy q c (selectGap s) :=
  h.selectWith ..

theorem Tidy.classCDrop (h : Tidy q c s) (t : Word) : Tidy q c (classCDrop t s) := by
  unfold Machine.classCDrop
  dsimp only
  split
  · exact h
  · exact .ite ((h.setComp ..).finish ..) h

theorem Tidy.enqueue (h : Tidy q c s) (e : Ev) : Tidy q c (enqueue e s) :=
  .ite (((h.setComp ..).peak ..).iset ..) ((h.setComp ..).peak ..)

/-! ### Gains -/

theorem Tidy.badCode (h : Tidy q c s) (key : Nat) : Tidy q c (badCode key s) :=
  .ite ((h.iset ..).errcap ..) ((h.iset ..).errcap ..)

theorem Tidy.dropMove (h : Tidy q c s) (key : Nat) : Tidy q c (dropMove key s) :=
  h.setBasin ..

theorem Tidy.setKeyWord (h : Tidy q c s) (key : Nat) (w : Word) : Tidy q c (setKeyWord key w s) :=
  .ite (h.rset ..) (h.stWord ..)

theorem Tidy.takeMove (h : Tidy q c s) (key : Nat) : Tidy q c (takeMove key s) := by
  unfold Machine.takeMove
  dsimp only
  split
  · exact h
  · split
    · exact h.dropMove ..
    · exact .ite ((h.dropMove ..).setBasin ..) ((h.dropMove ..).finishRunning ..)

theorem Tidy.startChange (h : Tidy q c s) (key : Nat) (w0 : Word) (zc : Option Nat) (ticket : Option Word) :
    Tidy q c (startChange key w0 zc ticket s) :=
  (Tidy.ite ((((h.takeMove ..).setKeyWord ..).setBasin ..).badCode ..)
    (((h.takeMove ..).setKeyWord ..).setBasin ..)).peak ..

theorem Tidy.pointChange (h : Tidy q c s) (entry : Option Word) (key : Nat) (w : Word) (zc : Option Nat) :
    Tidy q c (pointChange entry key w zc s).1 := by
  unfold Machine.pointChange
  dsimp only
  split
  · split
    · exact ((h.takeMove ..).setKeyWord ..).finishRunning ..
    · exact (h.takeMove ..).setKeyWord ..
  · exact .ite_fst (h.startChange ..) (((h.setBasin ..).cnt ..).iset ..)

theorem Tidy.waitStart (h : Tidy q c s) (w : WaitChg) (rest : List WaitChg) : Tidy q c (waitStart w rest s) := by
  unfold Machine.waitStart
  extract_lets _ s1 _ _ s2
  have hs1 : Tidy q c s1 := (h.setBasin ..).startChange ..
  have hs2 : Tidy q c s2 := hs1.setComp ..
  split
  · exact .ite (hs2.finishRunning ..) hs2
  · exact hs2

theorem Tidy.tryRecallDone (h : Tidy q c s) (t : Word) : Tidy q c (tryRecallDone t s) := by
  unfold Machine.tryRecallDone
  dsimp only
  split
  · exact h
  · exact .ite (((h.setBasin ..).finishRunning ..).iset ..) h

theorem Tidy.epochEnd (h : Tidy q c s) : Tidy q c (epochEnd s) := by
  unfold Machine.epochEnd
  dsimp only
  split
  · exact h
  · exact (h.setBasin ..).tryRecallDone ..

theorem Tidy.slotRelease (h : Tidy q c s) (key : Nat) : Tidy q c (slotRelease key s) := by
  unfold Machine.slotRelease
  dsimp only
  split
  · exact h
  · split
    · exact h
    · split
      · split
        · exact h.dropMove ..
        · exact .ite (((h.dropMove ..).setBasin ..).tryRecallDone ..) ((h.dropMove ..).finishRunning ..)
      · exact h

theorem Tidy.zcTimeoutRamp (h : Tidy q c s) (key : Nat) : Tidy q c (zcTimeoutRamp key s) :=
  h.setBasin ..

theorem Tidy.shadowUnlock (h : Tidy q c s) : Tidy q c (shadowUnlock s) :=
  .ite (h.setBasin ..) h

/-! ### Basin -/

theorem Tidy.sluiceTicket (h : Tidy q c s) (t : Word) (d : Nat) : Tidy q c (sluiceTicket t d s) :=
  .ite ((h.setBasin ..).tryRecallDone ..) (h.finishRunning ..)

theorem Tidy.setSluice (h : Tidy q c s) (x : Sluice) : Tidy q c (setSluice x s) :=
  h.setBasin ..

theorem Tidy.routeChange (h : Tidy q c s) (o : Nat) (cur w : Word) (l : Nat) (ticket : Option Word) :
    Tidy q c (routeChange o cur w l ticket s) := by
  unfold Machine.routeChange
  dsimp only
  split
  · split
    · split
      · exact h.sluiceTicket ..
      · exact h
    · exact h.setBasin ..
  · split
    · exact h.setSluice ..
    · split
      · exact h.setSluice ..
      · split
        · exact (h.setSluice ..).sluiceTicket ..
        · exact h.setSluice ..

theorem Tidy.sluiceEnd (h : Tidy q c s) (o : Nat) : Tidy q c (sluiceEnd o s) := by
  unfold Machine.sluiceEnd
  dsimp only
  split
  · exact h
  · exact .ite (((h.foldl (fun _ _ h3 => h3.stWord ..)).setBasin ..).foldl (fun _ _ h1 => h1.sluiceTicket ..)) h

theorem Tidy.formeParam (h : Tidy q c s) (entry : Word) (addr : Nat) (v : Word) :
    Tidy q c (formeParam entry addr v s).1 :=
  .ite_fst h (.ite_fst (h.stWord ..)
    (.ite_fst (h.pointChange ..)
      (.ite_fst (.ite (((h.stWord ..).routeChange ..).badCode ..) ((h.stWord ..).routeChange ..)) (h.stWord ..))))

theorem Tidy.overtake (h : Tidy q c s) : Tidy q c (overtake s) :=
  h.setBasin ..

theorem Tidy.recallMove (h : Tidy q c s) (t : Word) (s0 : State) (key : Nat) : Tidy q c (recallMove t s0 key s) :=
  .ite (((h.takeMove ..).setBasin ..).badCode ..) ((h.takeMove ..).setBasin ..)

theorem Tidy.recallLand (h : Tidy q c s) (e : Ev) : Tidy q c (recallLand e s) :=
  ((((((((h.overtake.setBasin ..).setBasin ..).foldl (fun _ _ h6 => h6.recallMove ..)).foldl
    (fun _ _ h5 => .ite ((h5.routeChange ..).badCode ..)
      (h5.routeChange ..))).keepRunning ..).cnt ..).rset ..).rset ..).iset ..

theorem Tidy.basinWait (h : Tidy q c s) (e : Ev) : Tidy q c (basinWait e s) :=
  ((h.holdEv ..).cnt ..).iset ..

theorem Tidy.recallForme (h : Tidy q c s) (e : Ev) : Tidy q c (recallForme e s) :=
  .ite (h.basinWait ..) (h.recallLand ..)

theorem Tidy.slotWaitStart (h : Tidy q c s) (key : Nat) : Tidy q c (slotWaitStart key s) := by
  unfold Machine.slotWaitStart
  split
  · exact .ite (h.waitStart ..) h
  · exact h

theorem Tidy.setGainZc (h : Tidy q c s) (e : Ev) : Tidy q c (setGainZc e s) := by
  unfold Machine.setGainZc
  split
  · split
    · exact h
    · exact (h.keepRunning ..).pointChange ..
  · exact h

theorem Tidy.sluiceRoute (h : Tidy q c s) (e : Ev) : Tidy q c (sluiceRoute e s) := by
  unfold Machine.sluiceRoute
  dsimp only
  split
  · exact ((h.keepRunning ..).stWord ..).routeChange ..
  · exact h

theorem Tidy.formeStore (h : Tidy q c s) (a : Nat) (be : BitVec 4) (v : Word) : Tidy q c (formeStore a be v s).1 :=
  .ite_fst h (.ite_fst ((h.stWordBe ..).setBasin ..) (h.stWordBe ..))

theorem Tidy.formeCrcStart (h : Tidy q c s) (b : Bool) : Tidy q c (formeCrcStart b s) :=
  h.setBasin ..

theorem Tidy.formeCrcDone (h : Tidy q c s) : Tidy q c (formeCrcDone s) := by
  unfold Machine.formeCrcDone
  dsimp only
  split
  · exact h
  · exact ((h.setBasin ..).rset ..).iset ..

/-! ### Timebase -/

theorem Tidy.wheelTaken (h : Tidy q c s) : Tidy q c (wheelTaken s) :=
  h.setTb ..

theorem Tidy.countPulse (h : Tidy q c s) (at_ : Nat) (rev : Bool) : Tidy q c (countPulse at_ rev s) := by
  unfold Machine.countPulse
  dsimp only
  split
  · split
    · exact h.setTb ..
    · exact h.setTb ..
  · exact .ite ((h.setTb ..).iset ..) (h.setTb ..)

theorem Tidy.tachAEdge (h : Tidy q c s) (at_ : Nat) : Tidy q c (tachAEdge at_ s) :=
  .ite ((h.setTb ..).iset ..) (h.setTb ..)

theorem Tidy.tachRise (h : Tidy q c s) (at_ : Nat) (b : Bool) : Tidy q c (tachRise at_ b s) :=
  .ite (h.setTb ..) (.ite (((h.setTb ..).setTb ..).iset ..) (((h.setTb ..).cnt ..).countPulse ..))

theorem Tidy.tachPulse (h : Tidy q c s) (x : PinEdge) (b : Bool) : Tidy q c (tachPulse x b s) :=
  .ite (h.advance ..)
    (.ite ((h.advance ..).setTb ..)
      (.ite ((((h.advance ..).setTb ..).tachAEdge ..).tachRise ..) (((h.advance ..).setTb ..).tachAEdge ..)))

theorem Tidy.tachQuietRelease (h : Tidy q c s) (at_ : Nat) : Tidy q c (tachQuietRelease at_ s) :=
  .ite (((h.advance ..).setTb ..).iset ..) (h.advance ..)

theorem Tidy.tachStuck (h : Tidy q c s) (at_ : Nat) (pinB : Bool) : Tidy q c (tachStuck at_ pinB s) := by
  unfold Machine.tachStuck
  dsimp only
  split
  · exact h.advance ..
  · exact .ite (((h.advance ..).setTb ..).iset ..) (h.advance ..)

theorem Tidy.tachBEdge (h : Tidy q c s) (x : PinEdge) : Tidy q c (tachBEdge x s) :=
  .ite (h.advance ..) (.ite (((h.advance ..).setTb ..).iset ..) ((h.advance ..).setTb ..))

theorem Tidy.standstill (h : Tidy q c s) (at_ : Nat) : Tidy q c (standstill at_ s) :=
  .ite ((h.advance ..).setTb ..) (h.advance ..)

theorem Tidy.cntLow (h : Tidy q c s) : Tidy q c (cntLow s) :=
  .ite ((h.setTb ..).iset ..) (h.setTb ..)

theorem Tidy.cntEdge (h : Tidy q c s) (x : PinEdge) : Tidy q c (cntEdge x s) := by
  unfold Machine.cntEdge
  extract_lets s1 _ _ s2 t _ w _
  have hs1 : Tidy q c s1 := h.advance ..
  have hs2 : Tidy q c s2 := .ite (hs1.setTb ..) hs1.cntLow
  exact .ite hs1 (.ite hs2 (.ite (hs2.setTb ..) (.ite ((hs2.setTb ..).iset ..) (hs2.setTb ..))))

theorem Tidy.cntQuietRelease (h : Tidy q c s) (at_ : Nat) : Tidy q c (cntQuietRelease at_ s) :=
  .ite (((h.advance ..).setTb ..).iset ..) (h.advance ..)

theorem Tidy.cntStuck (h : Tidy q c s) (at_ : Nat) : Tidy q c (cntStuck at_ s) := by
  unfold Machine.cntStuck
  dsimp only
  split
  · exact h.advance ..
  · exact .ite (((h.advance ..).setTb ..).iset ..) (h.advance ..)

theorem Tidy.cntInLow (h : Tidy q c s) (at_ phase : Nat) : Tidy q c (cntInLow at_ phase s) :=
  .ite (h.advance ..).cntLow (h.advance ..)

theorem Tidy.corrSubmit (h : Tidy q c s) (hi : Word) : Tidy q c (corrSubmit hi s) :=
  .ite ((h.iset ..).errcap ..) (h.setTb ..)

theorem Tidy.corrDone (h : Tidy q c s) : Tidy q c (corrDone s) :=
  .ite ((h.setTb ..).iset ..) h

theorem Tidy.axisTick (h : Tidy q c s) (at_ : Nat) : Tidy q c (axisTick at_ s) := by
  unfold Machine.axisTick
  dsimp only
  split
  · exact h.setTb ..
  · exact (Tidy.ite_snd (h.errcap ..) h).setTb ..

end Sys2Proof.Machine
end

section
/-!
PROOFS. Audio ports, network and flows keep `Tidy`.
-/

namespace Sys2Proof.Machine

-- One lemma after the other: the threads of so many at once do not fit the memory limit.
set_option Elab.async false

variable {q : List Instr} {c : Prop} {s : State}

/-! ### Mix -/

theorem Tidy.watch (h : Tidy q c s) (f : Nat) (cls : Nat → Bool) (prev cur : Nat → Int) :
    Tidy q c (watch f cls prev cur s) :=
  h.setBasin ..

theorem Tidy.basinReads (h : Tidy q c s) (f : Nat) : Tidy q c (basinReads f s) := by
  unfold Machine.basinReads
  split
  · exact .ite h (h.setBasin ..)
  · refine Tidy.setBasin (Tidy.foldl_fst (a := (s, _)) h fun _ _ hu => ?_) _
    exact .ite_fst (hu.eccRead ..) (hu.eccRead ..)

theorem Tidy.governor (h : Tidy q c s) (ins trims : Samples) : Tidy q c (governor ins trims s) :=
  h.setBasin ..

theorem Tidy.zoneGapBegin (h : Tidy q c s) (z : Nat) : Tidy q c (zoneGapBegin z s) :=
  h.setBasin ..

theorem Tidy.closeFrame (h : Tidy q c s) (f : Nat) (ins raw : Samples) : Tidy q c (closeFrame f ins raw s) := by
  unfold Machine.closeFrame
  extract_lets _ s1 _ _ _ _ s2 _ _ _ _ _ s3 _ _ _ s4 _ _ _ _ _ _ _ _ s5 _ _ _ _ _ s6 s7 s8 s9 _ _ s10
  have hs1 : Tidy q c s1 := (h.basinReads ..).watch ..
  have hs2 : Tidy q c s2 := hs1.watch ..
  have hs3 : Tidy q c s3 := hs2.watch ..
  have hs4 : Tidy q c s4 := hs3.governor ..
  have hs5 : Tidy q c s5 := hs4.watch ..
  have hs6 : Tidy q c s6 := .ite hs5 ((hs5.cnt ..).iset ..)
  have hs7 : Tidy q c s7 := .ite hs6 ((hs6.cnt ..).iset ..)
  have hs8 : Tidy q c s8 := .ite (hs7.iset ..) hs7
  have hs9 : Tidy q c s9 := .ite hs8 ((hs8.cnt ..).iset ..)
  have hs10 : Tidy q c s10 := hs9.peak ..
  exact hs10.setBasin ..

/-! ### Ports -/

theorem Tidy.setGrp (h : Tidy q c s) (g : Fin 4) (x : GroupSt) : Tidy q c (setGrp g x s) :=
  h.setPorts ..

theorem Tidy.flowLoses (h : Tidy q c s) (c' : Nat) : Tidy q c (flowLoses c' s) :=
  h.foldl (fun _ _ h0 => (h0.iset ..).errcap ..)

theorem Tidy.mapConf (h : Tidy q c s) (g : Fin 4) (m : Nat) : Tidy q c (mapConf g m s) :=
  h.foldl (fun _ _ h0 => (h0.foldl (fun _ _ h2 => (h2.iset ..).errcap ..)).flowLoses ..)

theorem Tidy.asrcUnlock (h : Tidy q c s) (i : Nat) : Tidy q c (asrcUnlock i s) :=
  .ite (((h.rput ..).cnt ..).iset ..) h

theorem Tidy.dropChanges (h : Tidy q c s) (g : Fin 4) : Tidy q c (dropChanges g s) :=
  (h.setGrp ..).foldl (fun _ _ h0 => h0.finishRunning ..)

theorem Tidy.groupOff (h : Tidy q c s) (g : Fin 4) : Tidy q c (groupOff g s) :=
  ((h.setGrp ..).asrcUnlock ..).rset ..

theorem Tidy.settleStop (h : Tidy q c s) (g : Fin 4) : Tidy q c (settleStop g s) :=
  .ite (h.groupOff ..) h

theorem Tidy.leaveRun (h : Tidy q c s) (g : Fin 4) (st : GState) : Tidy q c (leaveRun g st s) :=
  ((((h.dropChanges ..).setGrp ..).asrcUnlock ..).rput ..).settleStop ..

theorem Tidy.enterMismatch (h : Tidy q c s) (g : Fin 4) : Tidy q c (enterMismatch g s) :=
  (h.setGrp ..).leaveRun ..

theorem Tidy.groupEn (h : Tidy q c s) (g : Fin 4) (en : Bool) : Tidy q c (groupEn g en s) :=
  .ite (.ite h (.ite (h.setGrp ..) (h.setGrp ..))) (.ite h (.ite ((h.setGrp ..).settleStop ..) (h.groupOff ..)))

theorem Tidy.portChange (h : Tidy q c s) (g : Fin 4) (m : Nat) (kind : ChgKind) (v : Word) (direct : Bool)
    (ticket : Option Word) : Tidy q c (portChange g m kind v direct ticket s).1 :=
  .ite_fst (h.setGrp ..) h

theorem Tidy.dirSet (h : Tidy q c s) (g : Fin 4) (out : Bool) (m : Nat) (on : Bool) :
    Tidy q c (dirSet g out m on s) :=
  h.setGrp ..

theorem Tidy.fillOut (h : Tidy q c s) (g : Fin 4) (m base : Nat) : Tidy q c (fillOut g m base s) :=
  .ite h (h.foldl (fun _ _ h1 => h1.foldl (fun _ _ h2 => h2.stWord ..)))

theorem Tidy.portAct (h : Tidy q c s) (g : Fin 4) (m : Nat) (v : Word) : Tidy q c (portAct g m v s).1 := by
  unfold Machine.portAct
  extract_lets one r
  have hone (out : Bool) (u : State) (hu : Tidy q c u) : Tidy q c (one out u).1 := by
    unfold one
    extract_lets x a on base was old off s1 s2
    have hs1 : Tidy q c s1 := hu.setGrp ..
    have hs2 : Tidy q c s2 := .ite ((Tidy.ite (hs1.fillOut ..) hs1).dirSet ..) hs1
    exact .ite_fst (.ite (hu.dirSet ..) hu) (.ite hs2 (hs2.mapConf ..))
  exact hone _ _ (hone _ _ h)

theorem Tidy.maskAct (h : Tidy q c s) (g : Fin 4) (out : Bool) (m : Nat) (v : Word) :
    Tidy q c (maskAct g out m v s) :=
  .ite (.ite ((h.setGrp ..).rset ..) (((h.setGrp ..).rset ..).iset ..))
    ((Tidy.ite ((h.setGrp ..).rset ..) (((h.setGrp ..).rset ..).iset ..)).mapConf ..)

theorem Tidy.chgDone (h : Tidy q c s) (c' : PortChg) : Tidy q c (chgDone c' s) := by
  unfold Machine.chgDone
  dsimp only
  split
  · exact h
  · exact (h.setComp ..).finishRunning ..

theorem Tidy.chgRun (h : Tidy q c s) (g : Fin 4) (l : List PortChg) : Tidy q c (chgRun g l s) := by
  induction l generalizing s with
  | nil => exact h
  | cons x t ih =>
    unfold Machine.chgRun
    dsimp only
    split
    · exact ih ((Tidy.ite h (h.maskAct ..)).chgDone ..)
    · exact ih ((Tidy.ite h (h.maskAct ..)).chgDone ..)
    · exact ih (.ite (((h.portAct ..).chgDone ..).setGrp ..) ((h.portAct ..).chgDone ..))

theorem Tidy.chgApply (h : Tidy q c s) (g : Fin 4) (i : GroupIn) : Tidy q c (chgApply g i s) :=
  (h.setGrp ..).chgRun ..

theorem Tidy.rxSample (h : Tidy q c s) (g : Fin 4) (i : SlotIn) : Tidy q c (rxSample g i s).2 :=
  .ite_snd (.ite_snd h (.ite_snd (((h.cnt ..).iset ..).setPorts ..) (h.setPorts ..))) h

theorem Tidy.rxSlot (h : Tidy q c s) (g : Fin 4) (k : Nat) (i : SlotIn) : Tidy q c (rxSlot g k i s) :=
  ((h.rxSample ..).setGrp ..).stWord ..

theorem Tidy.rxRepeat (h : Tidy q c s) (g : Fin 4) (k : Nat) (ms : List Nat) : Tidy q c (rxRepeat g k ms s) :=
  h.foldl (fun _ _ h0 => h0.stWord ..)

theorem Tidy.txStep (h : Tidy q c s) (m : Fin 8) : Tidy q c (txStep m s) :=
  h.setPorts ..

theorem Tidy.txSlot (h : Tidy q c s) (g : Fin 4) (k m sl : Nat) : Tidy q c (txSlot g k m sl s) :=
  .ite (((Tidy.ite_snd h
    (.ite_snd ((Tidy.ite_snd (.ite (h.iset ..) h) (.ite_snd h.freeWord h)).stWord ..)
      (h.dmaRead ..))).setGrp ..).setGrp ..) (h.setGrp ..)

theorem Tidy.txFrame (h : Tidy q c s) (g : Fin 4) : Tidy q c (txFrame g s) :=
  (h.setGrp ..).foldl
    (fun _ _ h0 => .ite ((Tidy.ite (h0.foldl (fun _ _ h4 => h4.txSlot ..)) h0).txStep ..)
      (.ite (h0.foldl (fun _ _ h3 => h3.txSlot ..)) h0))

theorem Tidy.aesQualify (h : Tidy q c s) : Tidy q c (aesQualify s) :=
  h.foldl (fun _ _ h0 => .ite h0
    (.ite (h0.setPorts ..)
      (.ite (h0.setPorts ..)
        (.ite ((Tidy.ite ((h0.setPorts ..).iset ..) (h0.setPorts ..)).dirSet ..)
          (.ite ((h0.setPorts ..).iset ..) (h0.setPorts ..))))))

theorem Tidy.reassign (h : Tidy q c s) (g : Fin 4) (glitch : Bool) (phase : Nat) :
    Tidy q c (reassign g glitch phase s) :=
  .ite (h.setGrp ..)
    (.ite ((h.setGrp ..).rput ..)
      (.ite (((((h.cnt ..).cnt ..).setGrp ..).iset ..).rput ..)
        (.ite ((((((h.cnt ..).cnt ..).setGrp ..).iset ..).rput ..).rxRepeat ..) (h.setGrp ..))))

theorem Tidy.runFrame (h : Tidy q c s) (g : Fin 4) (i : GroupIn) : Tidy q c (runFrame g i s) := by
  unfold Machine.runFrame
  extract_lets x asrc _ _ s1 s2 k _ _ s3 s4 _ s4r _ s5 y _ s51 _
  have hs1 : Tidy q c s1 := h.setGrp ..
  have hs2 : Tidy q c s2 := .ite ((hs1.cnt ..).iset ..) hs1
  have hs3 : Tidy q c s3 := .ite hs2 ((Tidy.ite (hs2.rxRepeat ..) hs2).foldl (fun _ _ h2 => h2.rxSlot ..))
  have hs4 : Tidy q c s4 := .ite hs3.aesQualify hs3
  have hs4r : Tidy q c s4r := .ite (hs4.iset ..) hs4
  have hs5 : Tidy q c s5 := hs4r.setGrp ..
  have hy : Tidy q c y := hs5.asrcUnlock ..
  have hs51 : Tidy q c s51 := .ite (hy.setGrp ..) hs5
  exact .ite (hs2.leaveRun ..)
    (.ite (hs4r.enterMismatch ..)
      (.ite (((hs51.setGrp ..).chgApply ..).txFrame ..) (((hs51.reassign ..).chgApply ..).txFrame ..)))

theorem Tidy.groupFrame (h : Tidy q c s) (g : Fin 4) (i : GroupIn) : Tidy q c (groupFrame g i s) := by
  unfold Machine.groupFrame
  extract_lets s1 x _ _ s11 y
  have hs1 : Tidy q c s1 := (h.advance ..).rset ..
  have hs11 : Tidy q c s11 := .ite hs1 (hs1.errcap ..)
  split
  · exact hs1
  · exact hs1
  · exact (hs1.runFrame ..).settleStop ..
  · exact hs11.setGrp ..
  · exact hs1.setGrp ..

theorem Tidy.enterRun (h : Tidy q c s) (g : Fin 4) (phi0 : Nat) : Tidy q c (enterRun g phi0 s) :=
  ((Tidy.ite ((h.setGrp ..).iset ..) (h.setGrp ..)).rset ..).foldl
    (fun _ _ h0 => .ite ((h0.maskAct ..).maskAct ..) (((h0.maskAct ..).maskAct ..).portAct ..))

theorem Tidy.qualifyPass (h : Tidy q c s) (g : Fin 4) (phi0 : Nat) : Tidy q c (qualifyPass g phi0 s) :=
  .ite h (.ite ((h.setGrp ..).errcap ..) (h.enterRun ..))

theorem Tidy.clockStop (h : Tidy q c s) (g : Fin 4) : Tidy q c (clockStop g s) := by
  unfold Machine.clockStop
  dsimp only
  split
  · exact .ite h (((h.leaveRun ..).cnt ..).iset ..)
  · exact .ite h (((h.leaveRun ..).cnt ..).iset ..)
  · exact .ite h (((h.leaveRun ..).cnt ..).iset ..)
  · exact h
  · exact h

theorem Tidy.clockReturn (h : Tidy q c s) (g : Fin 4) : Tidy q c (clockReturn g s) :=
  .ite (h.setGrp ..) h

theorem Tidy.faultFadeEnd (h : Tidy q c s) (g : Fin 4) : Tidy q c (faultFadeEnd g s) := by
  unfold Machine.faultFadeEnd
  dsimp only
  split
  · exact .ite (h.setGrp ..) h
  · exact h

theorem Tidy.portZcTimeout (h : Tidy q c s) (c' : PortSlot) : Tidy q c (portZcTimeout c' s) := by
  unfold Machine.portZcTimeout
  dsimp only
  split
  · split
    · exact h.setGrp ..
    · exact h.setGrp ..
    · exact h
    · exact h
    · exact h
    · exact h
  · exact h

theorem Tidy.portRampEnd (h : Tidy q c s) (c' : PortSlot) : Tidy q c (portRampEnd c' s) := by
  unfold Machine.portRampEnd
  dsimp only
  split
  · exact .ite (h.setGrp ..) h
  · exact .ite ((h.setGrp ..).settleStop ..) h
  · exact h
  · exact h
  · exact h
  · exact h

theorem Tidy.regWords (h : Tidy q c s) (a : Nat) (l : List Word) : Tidy q c (regWords a l s) := by
  induction l generalizing a s with
  | nil => exact h
  | cons v t ih => exact ih (h.rset ..) _

theorem Tidy.setAes (h : Tidy q c s) (m : Fin 8) (y : Aes3St) : Tidy q c (setAes m y s) :=
  h.setPorts ..

theorem Tidy.csBlock (h : Tidy q c s) (m : Fin 8) (sub : Nat) (cs : List Byte) : Tidy q c (csBlock m sub cs s) :=
  .ite ((h.cnt ..).iset ..) ((Tidy.ite ((Tidy.ite h (h.iset ..)).rput ..) (.ite h (h.iset ..))).regWords ..)

theorem Tidy.rxLeave (h : Tidy q c s) (m : Fin 8) : Tidy q c (rxLeave m s) :=
  ((h.setAes ..).setGrp ..).asrcUnlock ..

theorem Tidy.rxStop (h : Tidy q c s) (m : Fin 8) : Tidy q c (rxStop m s) :=
  ((h.rxLeave ..).cnt ..).iset ..

theorem Tidy.rxGlitch (h : Tidy q c s) (m : Fin 8) : Tidy q c (rxGlitch m s) :=
  .ite ((((h.setAes ..).cnt ..).iset ..).rxLeave ..) ((((h.setAes ..).cnt ..).iset ..).rxRepeat ..)

theorem Tidy.rxRate (h : Tidy q c s) (m : Fin 8) (rate : Nat) : Tidy q c (rxRate m rate s) :=
  .ite ((Tidy.ite ((h.setAes ..).iset ..) (h.setAes ..)).rxLeave ..)
    (.ite ((Tidy.ite ((h.setAes ..).iset ..) (h.setAes ..)).asrcUnlock ..)
      (.ite ((h.setAes ..).iset ..) (h.setAes ..)))

theorem Tidy.rxPhase (h : Tidy q c s) (m : Fin 8) (phase : Nat) : Tidy q c (rxPhase m phase s) := by
  unfold Machine.rxPhase
  dsimp only
  split
  · exact h
  · split
    · exact h.setAes ..
    · exact .ite (((h.cnt ..).setAes ..).iset ..) (.ite ((((h.cnt ..).setAes ..).iset ..).rxRepeat ..) h)

theorem Tidy.aes3Block (h : Tidy q c s) (m : Fin 8) (b : Aes3In) : Tidy q c (aes3Block m b s) :=
  .ite h (.ite (h.rxStop ..)
    (.ite (h.rxGlitch ..) (((((((h.cnt ..).csBlock ..).csBlock ..).regWords ..).rput ..).rxPhase ..).rxRate ..)))

theorem Tidy.aes3Lock (h : Tidy q c s) (m : Fin 8) (lock : Bool) : Tidy q c (aes3Lock m lock s) :=
  .ite h (.ite (h.setAes ..) (.ite (((h.setAes ..).iset ..).rxStop ..) ((h.setAes ..).iset ..)))

theorem Tidy.txCommit (h : Tidy q c s) (m : Fin 8) : Tidy q c (txCommit m s) :=
  (h.rput ..).setAes ..

theorem Tidy.txCommitAct (h : Tidy q c s) (m : Fin 8) : Tidy q c (txCommitAct m s) := by
  unfold Machine.txCommitAct
  dsimp only
  split
  · exact h
  · exact .ite ((h.setAes ..).rput ..) h

theorem Tidy.ratioLock (h : Tidy q c s) (i : Fin 16) (ratio : Word) : Tidy q c (ratioLock i ratio s) := by
  unfold Machine.ratioLock
  dsimp only
  split
  · exact h
  · split
    · exact h.rset ..
    · split
      · exact ((h.rset ..).rput ..).iset ..
      · exact (Tidy.ite ((((h.rset ..).rput ..).iset ..).setGrp ..) (((h.rset ..).rput ..).iset ..)).foldl
          (fun _ _ h0 => .ite ((Tidy.ite (h0.dirSet ..) h0).dirSet ..) (.ite (h0.dirSet ..) h0))

theorem Tidy.asrcSlot (h : Tidy q c s) (w : Word) (on : Bool) : Tidy q c (asrcSlot w on s) :=
  .ite (.ite (h.setGrp ..) h) (.ite (h.setGrp ..) h)

theorem Tidy.asrcChange (h : Tidy q c s) (c' : Nat) (old new : Word) : Tidy q c (asrcChange c' old new s) := by
  unfold Machine.asrcChange
  extract_lets _ s0 s1 s2 _
  have hs0 : Tidy q c s0 := .ite (h.asrcSlot ..) h
  have hs1 : Tidy q c s1 := .ite (hs0.asrcSlot ..) hs0
  have hs2 : Tidy q c s2 := .ite (hs1.errcap ..) hs1
  exact .ite h (.ite (hs2.iset ..) hs2)

theorem Tidy.portSample (h : Tidy q c s) (g : Fin 4) (m : Fin 8) (sl f : Nat) : Tidy q c (portSample g m sl f s).2 :=
  .ite_snd h (.ite_snd h (.ite_snd (.ite_snd (.ite (h.iset ..) h) (h.freeWord.setGrp ..)) (h.dmaRead ..)))

theorem Tidy.portInputs (h : Tidy q c s) (f : Nat) : Tidy q c (portInputs f s).2 :=
  h.foldl_snd (fun _ _ h0 => h0.foldl_snd
    (fun _ _ h1 => .ite_snd (h1.foldl_snd (fun _ _ h3 => .ite_snd h3 (h3.portSample ..))) h1))

theorem Tidy.portOutputs (h : Tidy q c s) (j : Nat) (out : Samples) : Tidy q c (portOutputs j out s) :=
  (h.setPorts ..).foldl (fun _ _ h0 => h0.foldl (fun _ _ h1 => .ite (h1.foldl (fun _ _ h3 => h3.stWord ..)) h1))

/-! ### Net -/

theorem Tidy.sendPkt (h : Tidy q c s) (n : Fin 2) (t : Nat) (p : SentPkt) : Tidy q c (sendPkt n t p s) :=
  (h.setNet ..).cnt ..

theorem Tidy.drainPort (h : Tidy q c s) (n : Fin 2) (k : Nat) : Tidy q c (drainPort n k s) := by
  induction k generalizing s with
  | zero => exact h
  | succ k ih =>
    unfold Machine.drainPort
    split
    · exact h
    · exact .ite h (ih ((h.setNet ..).sendPkt ..))

theorem Tidy.netDrain (h : Tidy q c s) : Tidy q c (netDrain s) :=
  (h.drainPort ..).drainPort ..

theorem Tidy.enqueuePkt (h : Tidy q c s) (n : Fin 2) (c' : Nat) (p : SentPkt) : Tidy q c (enqueuePkt n c' p s) :=
  (h.netDrain.setNet ..).netDrain

theorem Tidy.learnAt (h : Tidy q c s) (mac : BitVec 48) (port : Nat) : Tidy q c (learnAt mac port s) :=
  .ite (h.setNet ..) h

theorem Tidy.epSend (h : Tidy q c s) (n : Fin 2) (c' : Nat) (p : SentPkt) : Tidy q c (epSend n c' p s) :=
  .ite ((h.learnAt ..).enqueuePkt ..) ((h.learnAt ..).cnt ..)

theorem Tidy.epReport (h : Tidy q c s) (n : Fin 2) (vid : Nat) (group src : Word) (join : Bool) :
    Tidy q c (epReport n vid group src join s) :=
  h.epSend ..

theorem Tidy.epReports (h : Tidy q c s) (n : Fin 2) : Tidy q c (epReports n s) :=
  h.foldl (fun _ _ h0 => h0.epReport ..)

theorem Tidy.linkUp (h : Tidy q c s) (n : Fin 2) (speedOk : Bool) : Tidy q c (linkUp n speedOk s) :=
  .ite h (.ite (h.setNet ..) (.ite (h.setNet ..) (((h.setNet ..).iset ..).epReports ..)))

theorem Tidy.linkDown (h : Tidy q c s) (n : Fin 2) (hiBer : Bool) : Tidy q c (linkDown n hiBer s) :=
  .ite (h.netDrain.setNet ..)
    (.ite ((Tidy.ite (((((h.netDrain.setNet ..).setNet ..).cnt ..).cnt ..).iset ..)
      ((((((h.netDrain.setNet ..).setNet ..).cnt ..).cnt ..).iset ..).iset ..)).requestRelease ..)
        (.ite (((((h.netDrain.setNet ..).setNet ..).cnt ..).cnt ..).iset ..)
          ((((((h.netDrain.setNet ..).setNet ..).cnt ..).cnt ..).iset ..).iset ..)))

theorem Tidy.portOff (h : Tidy q c s) (n : Fin 2) : Tidy q c (portOff n s) :=
  (h.linkDown ..).setNet ..

theorem Tidy.learn (h : Tidy q c s) (k : NetPkt) : Tidy q c (learn k s) :=
  .ite h (h.learnAt ..)

theorem Tidy.macAgeOut (h : Tidy q c s) (mac : BitVec 48) : Tidy q c (macAgeOut mac s) :=
  h.setNet ..

theorem Tidy.igmpReport (h : Tidy q c s) (port : Nat) (r : Word × Bool) : Tidy q c (igmpReport port s r) :=
  .ite (h.setNet ..) (.ite (h.setNet ..) (.ite (h.iset ..) (((h.iset ..).setNet ..).cnt ..)))

theorem Tidy.igmpLapse (h : Tidy q c s) (group : Word) : Tidy q c (igmpLapse group s) :=
  h.setNet ..

theorem Tidy.epQuery (h : Tidy q c s) (n : Fin 2) : Tidy q c (epQuery n s) :=
  h.epSend ..

theorem Tidy.igmpQuery (h : Tidy q c s) : Tidy q c (igmpQuery s) :=
  .ite (((h.setNet ..).epQuery ..).epQuery ..) h

theorem Tidy.tcCorrect (h : Tidy q c s) (ig eg : Nat) (p : PtpPass) : Tidy q c (tcCorrect ig eg p s).1 := by
  unfold Machine.tcCorrect
  dsimp only
  split
  · exact h
  · exact .ite_fst (((h.cnt ..).cnt ..).iset ..) (h.cnt ..)

theorem Tidy.egress (h : Tidy q c s) (k : NetPkt) (c' : Nat) (cut : Bool) (eg : Fin 3) :
    Tidy q c (egress k c' cut eg s) := by
  unfold Machine.egress
  dsimp only
  split
  · exact .ite ((h.cnt ..).iset ..) (h.cnt ..)
  · split
    · split
      · exact h.cnt ..
      · split
        · exact (Tidy.ite_fst (.ite (h.cnt ..) h) ((Tidy.ite (h.cnt ..) h).tcCorrect ..)).enqueuePkt ..
        · exact (Tidy.ite (h.cnt ..) h).enqueuePkt ..
    · exact h

theorem Tidy.routesPlain (h : Tidy q c s) (k : NetPkt) : Tidy q c (routesPlain k s).2 := by
  unfold Machine.routesPlain
  dsimp only
  split
  · split
    · exact h
    · exact h
  · split
    · exact h
    · exact .ite_snd h (.ite_snd h (.ite h ((h.setNet ..).cnt ..)))

theorem Tidy.routes (h : Tidy q c s) (k : NetPkt) : Tidy q c (routes k s).2 := by
  unfold Machine.routes
  dsimp only
  split
  · exact h.routesPlain ..
  · exact .ite_snd (.ite_snd h (h.routesPlain ..)) (.ite_snd h (h.routesPlain ..))

theorem Tidy.packetReceive (h : Tidy q c s) (k : NetPkt) : Tidy q c (packetReceive k s) := by
  unfold Machine.packetReceive
  dsimp only
  split
  · exact .ite h
      (.ite ((Tidy.ite (h.cnt ..) (((h.cnt ..).cnt ..).iset ..)).cnt ..)
        (.ite ((Tidy.ite (h.cnt ..) (((h.cnt ..).cnt ..).iset ..)).cnt ..)
          (((Tidy.ite (((Tidy.ite (h.cnt ..) (((h.cnt ..).cnt ..).iset ..)).learn ..).foldl
            (fun _ _ h6 => h6.igmpReport ..)) (.ite (h.cnt ..) (((h.cnt ..).cnt ..).iset ..))).routes ..).foldl
              (fun _ _ h3 => h3.egress ..))))
  · exact .ite h (((h.learn ..).routes ..).foldl (fun _ _ h1 => h1.egress ..))

theorem Tidy.mgmtAccept (h : Tidy q c s) (m : MgmtPkt) : Tidy q c (mgmtAccept m s).1 :=
  .ite_fst (h.cnt ..) (.ite_fst h (h.cnt ..))

theorem Tidy.discover (h : Tidy q c s) (m : MgmtPkt) : Tidy q c (discover m s) :=
  .ite ((h.mgmtAccept ..).setNet ..) (h.mgmtAccept ..)

theorem Tidy.announce (h : Tidy q c s) (m : MgmtPkt) : Tidy q c (announce m s) :=
  .ite (((h.mgmtAccept ..).setNet ..).iset ..) (h.mgmtAccept ..)

theorem Tidy.nodeDupClear (h : Tidy q c s) : Tidy q c (nodeDupClear s) := by
  unfold Machine.nodeDupClear
  dsimp only
  split
  · exact .ite (h.setNet ..) h
  · exact h

/-! ### Flows -/

theorem Tidy.streamSel (h : Tidy q c s) (tx : Bool) : Tidy q c (streamSel tx s) :=
  h.regWords ..

theorem Tidy.setRx (h : Tidy q c s) (x : RxFlow) : Tidy q c (setRx x s) :=
  h.setNet ..

theorem Tidy.setFlowSt (h : Tidy q c s) (x : RxFlow) (st : FlowSt) : Tidy q c (setFlowSt x st s) :=
  .ite (h.setRx ..) ((h.setRx ..).iset ..)

theorem Tidy.flowConf (h : Tidy q c s) (f : Nat) : Tidy q c (flowConf f s) :=
  h.foldl (fun _ _ h0 => (h0.iset ..).errcap ..)

theorem Tidy.flowJoin (h : Tidy q c s) (join : Bool) (e : List Word) : Tidy q c (flowJoin join e s) :=
  h.foldl (fun _ _ h0 => .ite (.ite ((h0.epReport ..).igmpReport ..) (h0.epReport ..)) h0)

theorem Tidy.commitEntry (h : Tidy q c s) (tx : Bool) (f : Nat) (e : List Word) : Tidy q c (commitEntry tx f e s) :=
  .ite h (.ite (.ite ((h.setNet ..).iset ..) (h.setNet ..))
    (.ite ((Tidy.ite ((((h.setNet ..).flowJoin ..).flowJoin ..).iset ..)
      (((h.setNet ..).flowJoin ..).flowJoin ..)).flowConf ..)
        (.ite ((((h.setNet ..).flowJoin ..).flowJoin ..).iset ..) (((h.setNet ..).flowJoin ..).flowJoin ..))))

theorem Tidy.streamCommit (h : Tidy q c s) (tx next : Bool) : Tidy q c (streamCommit tx next s) := by
  unfold Machine.streamCommit
  dsimp only
  split
  · exact (h.iset ..).errcap ..
  · exact .ite (h.setNet ..) (h.commitEntry ..)

theorem Tidy.netBytes (h : Tidy q c s) (n : Nat) : Tidy q c (netBytes n s) :=
  h.setCist ..

theorem Tidy.putFrame (h : Tidy q c s) (x : RxFlow) (f : Nat) (ws : List Word) : Tidy q c (putFrame x f ws s) := by
  unfold Machine.putFrame
  dsimp only
  split
  · exact h.foldl (fun _ _ h0 => .ite h0 (h0.stWord ..))
  · split
    · exact (h.setRx ..).netBytes ..
    · exact h

theorem Tidy.usePacket (h : Tidy q c s) (x : RxFlow) (ts : Word) (bytes : List Byte) :
    Tidy q c (usePacket x ts bytes s) :=
  h.foldl (fun _ _ h0 => .ite h0 (h0.putFrame ..))

theorem Tidy.rxFail (h : Tidy q c s) (x : RxFlow) (path : Nat) : Tidy q c (rxFail x path s) :=
  .ite ((h.cnt ..).setFlowSt ..) ((h.cnt ..).setRx ..)

theorem Tidy.rxOnTime (h : Tidy q c s) (x : RxFlow) (path : Nat) (k : AudioPkt) : Tidy q c (rxOnTime x path k s) :=
  .ite (h.setFlowSt ..)
    (.ite ((Tidy.ite (((h.setFlowSt ..).setRx ..).cnt ..) ((h.setFlowSt ..).setRx ..)).setNet ..)
      (((Tidy.ite (((h.setFlowSt ..).setRx ..).cnt ..) ((h.setFlowSt ..).setRx ..)).setNet ..).usePacket ..))

theorem Tidy.rxSsrc (h : Tidy q c s) (x : RxFlow) (ssrc : Word) : Tidy q c (rxSsrc x ssrc s) :=
  .ite ((h.cnt ..).setRx ..) (((h.cnt ..).iset ..).setRx ..)

theorem Tidy.rxMatched (h : Tidy q c s) (x : RxFlow) (k : AudioPkt) : Tidy q c (rxMatched x k s) :=
  .ite (h.setRx ..)
    (.ite (((Tidy.ite (h.setFlowSt ..) (h.setRx ..)).cnt ..).iset ..)
      (.ite ((Tidy.ite (h.setFlowSt ..) (h.setRx ..)).cnt ..)
        (.ite (.ite (h.setFlowSt ..) (h.setRx ..)) ((Tidy.ite (h.setFlowSt ..) (h.setRx ..)).rxOnTime ..))))

theorem Tidy.flowPacket (h : Tidy q c s) (f : Fin 256) (k : AudioPkt) : Tidy q c (flowPacket f k s) := by
  unfold Machine.flowPacket
  dsimp only
  split
  · exact h.advance ..
  · exact .ite (h.advance ..)
      (.ite (.ite ((h.advance ..).rxFail ..) (h.advance ..))
        (.ite ((h.advance ..).rxSsrc ..) ((h.advance ..).rxMatched ..)))

theorem Tidy.patchCaptured (h : Tidy q c s) (x : RxFlow) (fresh : Bool) (ts : Word) (bytes : List Byte) :
    Tidy q c (patchCaptured x fresh ts bytes s) := by
  unfold Machine.patchCaptured
  dsimp only
  split
  · exact h
  · split
    · exact h
    · split
      · split
        · exact h.setPorts ..
        · exact (h.setPorts ..).setRx ..
      · exact h.setPorts ..

theorem Tidy.standbyUse (h : Tidy q c s) (u : Fin 256 × Word × Bool) : Tidy q c (standbyUse u s) := by
  unfold Machine.standbyUse
  dsimp only
  split
  · exact h
  · split
    · exact h.cnt ..
    · exact .ite ((Tidy.ite h h.markBad).setFlowSt ..)
        ((((Tidy.ite h h.markBad).setFlowSt ..).usePacket ..).patchCaptured ..)

theorem Tidy.flowLoss (h : Tidy q c s) (f : Fin 256) : Tidy q c (flowLoss f s) := by
  unfold Machine.flowLoss
  split
  · exact h
  · exact .ite (h.setFlowSt ..) h

theorem Tidy.fclkSeqs (h : Tidy q c s) (j : Nat) (rx tx : Nat → List Word → List ChanSeq → List ChanSeq) :
    Tidy q c (fclkSeqs j rx tx s) :=
  h.setNet ..

theorem Tidy.fclkLock (h : Tidy q c s) (j : Fin 4) (lock : Bool) (ratio : Word) :
    Tidy q c (fclkLock j lock ratio s) :=
  .ite h (.ite (.ite ((h.rset ..).rset ..) ((((((h.rset ..).rset ..).rput ..).iset ..).iset ..).fclkSeqs ..))
    (.ite (((h.asrcUnlock ..).iset ..).fclkSeqs ..) h))

theorem Tidy.flowAsrcSlot (h : Tidy q c s) (w : Word) (on : Bool) : Tidy q c (flowAsrcSlot w on s) :=
  .ite (h.setNet ..) (h.setNet ..)

theorem Tidy.asrcFlowChange (h : Tidy q c s) (old new : Word) : Tidy q c (asrcFlowChange old new s) :=
  .ite h (.ite ((Tidy.ite (h.flowAsrcSlot ..) h).flowAsrcSlot ..) (.ite (h.flowAsrcSlot ..) h))

theorem Tidy.sendCopy (h : Tidy q c s) (x : TxFlow) (e : List Word) (path : Fin 2) (bytes : List Byte) (seq : Nat)
    (ts : Word) : Tidy q c (sendCopy x e path bytes seq ts s) :=
  .ite h (.ite (h.cnt ..) ((h.epSend ..).cnt ..))

theorem Tidy.sendPacket (h : Tidy q c s) (x : TxFlow) (e : List Word) (p first : Nat) (rows : List (List Word)) :
    Tidy q c (sendPacket x e p first rows s) :=
  (h.sendCopy ..).sendCopy ..

theorem Tidy.setTx (h : Tidy q c s) (x : TxFlow) : Tidy q c (setTx x s) :=
  h.setNet ..

theorem Tidy.flowSend (h : Tidy q c s) (f : Fin 256) : Tidy q c (flowSend f s) := by
  unfold Machine.flowSend
  dsimp only
  split
  · exact h
  · split
    · exact h
    · exact .ite h (.ite ((h.setTx ..).sendPacket ..) (h.setTx ..))

theorem Tidy.takeOverFlows (h : Tidy q c s) (window : Nat) : Tidy q c (takeOverFlows window s) :=
  h.foldl fun u x hu => by
    dsimp only
    split
    · exact hu
    · exact .ite hu ((hu.setTx ..).sendPacket ..)

theorem Tidy.flowSample (h : Tidy q c s) (x : RxFlow) (c' f : Nat) : Tidy q c (flowSample x c' f s).2 := by
  unfold Machine.flowSample
  dsimp only
  split
  · exact .ite_snd (.ite_snd h.freeWord h) (.ite (h.dmaRead ..) ((h.dmaRead ..).stWord ..))
  · exact (Tidy.ite_snd (.ite_snd h.freeWord h) (.ite (h.dmaRead ..) ((h.dmaRead ..).stWord ..))).setRx ..

theorem Tidy.flowInputs {a : Samples × State} (h : Tidy q c a.2) (f : Nat) : Tidy q c (flowInputs f a).2 :=
  h.foldl_snd fun u n hu => by
    dsimp only
    split
    · exact hu
    · exact .ite_snd hu (hu.foldl_snd fun _ _ hv => .ite_snd hv (hv.flowSample ..))

theorem Tidy.stageFlows (h : Tidy q c s) : Tidy q c (stageFlows s) :=
  h.foldl (fun _ _ h0 => (h0.setRx ..).foldl (fun _ _ h1 => .ite ((h1.putFrame ..).netBytes ..) h1.stageMiss))

theorem Tidy.flowAsrcOut {a : (List Word × List ChanSeq) × State} (h : Tidy q c a.2) (e : List Word) (n : Nat) :
    Tidy q c (flowAsrcOut e n a).2 :=
  .ite_snd h.freeWord h

theorem Tidy.flowOutputs (h : Tidy q c s) (j : Nat) (out : Samples) : Tidy q c (flowOutputs j out s) :=
  h.foldl fun u x hu => by
    refine .ite hu (.ite ?_ ((hu.foldl fun _ _ hv => hv.stWord ..).setTx ..))
    refine Tidy.setTx (Tidy.foldl_snd (a := (x, u)) hu fun w _ hw => ?_) _
    exact Tidy.foldl_snd (a := (([], w.1.seqs), w.2)) hw fun _ _ hv => hv.flowAsrcOut ..

theorem Tidy.applyCommits (h : Tidy q c s) : Tidy q c (applyCommits s) :=
  (h.setNet ..).foldl (fun _ _ h0 => h0.commitEntry ..)

end Sys2Proof.Machine
end

section
/-!
PROOFS. The Cistern, the DPLL, the Galley, Sense and the twin link keep `Tidy`.
-/

namespace Sys2Proof.Machine

-- One lemma after the other: the threads of so many at once do not fit the memory limit.
set_option Elab.async false

variable {q : List Instr} {c : Prop} {s : State}

/-! ### Cistern -/

theorem Tidy.dramTouch (h : Tidy q c s) (port line n : Nat) : Tidy q c (dramTouch port line n s) :=
  h.setCist ..

theorem Tidy.cistWordStore {x : State × Bool} (h : Tidy q c x.1) (a : Nat) (l : List Byte) (w : Nat) :
    Tidy q c (cistWordStore a l w x).1 := by
  unfold Machine.cistWordStore
  extract_lets lo part r
  have hr : Tidy q c r.1 := .ite_fst h (h.eccRead ..)
  exact .ite_fst hr ((hr.cwBytes ..).freshen ..)

theorem Tidy.cistWrite (h : Tidy q c s) (port a : Nat) (l : List Byte) : Tidy q c (cistWrite port a l s).1 := by
  unfold Machine.cistWrite
  extract_lets s1
  have hs1 : Tidy q c s1 := h.dramTouch ..
  exact .ite_fst (hs1.cwBytes ..) (Tidy.foldl_fst (a := (s1, true)) hs1 fun _ _ hu => hu.cistWordStore ..)

theorem Tidy.cistStore (h : Tidy q c s) (port a : Nat) (l : List Byte) : Tidy q c (cistStore port a l s) :=
  h.cistWrite ..

theorem Tidy.cistFetch (h : Tidy q c s) (port a n : Nat) : Tidy q c (cistFetch port a n s).2.1 :=
  .ite_fst (h.dramTouch ..) ((h.dramTouch ..).foldl_fst (fun _ _ h1 => h1.eccRead ..))

theorem Tidy.shedRaise (h : Tidy q c s) (n : Nat) : Tidy q c (shedRaise n s) :=
  .ite ((Tidy.ite ((h.setShed ..).iset ..) (h.setShed ..)).iset ..) (.ite ((h.setShed ..).iset ..) (h.setShed ..))

theorem Tidy.shedMeasure (h : Tidy q c s) (p : Nat) : Tidy q c (shedMeasure p s) := by
  unfold Machine.shedMeasure
  extract_lets s1
  have hs1 : Tidy q c s1 := h
  exact .ite (hs1.shedRaise ..) hs1

theorem Tidy.shedWithdraw (h : Tidy q c s) : Tidy q c (shedWithdraw s) :=
  .ite (h.setShed ..) h

theorem Tidy.degradeMeasures (h : Tidy q c s) : Tidy q c (degradeMeasures s) :=
  (((((h.setShedImp ..).shedRaise ..).setCist ..).alarm ..).requestRelease ..).standbyFault ..

theorem Tidy.enterDegraded (h : Tidy q c s) : Tidy q c (enterDegraded s) :=
  ((h.setCist ..).iset ..).degradeMeasures

theorem Tidy.enterLost (h : Tidy q c s) : Tidy q c (enterLost s) :=
  ((h.setCist ..).iset ..).degradeMeasures

theorem Tidy.enterNormal (h : Tidy q c s) : Tidy q c (enterNormal s) := by
  unfold Machine.enterNormal
  extract_lets k d s1
  have hs1 : Tidy q c s1 := h.setCist ..
  exact ((hs1.setShedImp 0).setShedT _).iset ..

theorem Tidy.setCistEmpty (h : Tidy q c s) : Tidy q c { s with cist := [] } :=
  ⟨h.1, fun hc =>
    let ⟨h1, h2, _, h4⟩ := h.2 hc
    ⟨h1, h2, rfl, h4⟩⟩

theorem Tidy.voidContents (h : Tidy q c s) : Tidy q c (voidContents s) := by
  unfold Machine.voidContents
  extract_lets k lines _ s1 _ s2
  have hs1 : Tidy q c s1 := Tidy.setCistEmpty (s := Machine.setCist _ s) (h.setCist _)
  have hs2 : Tidy q c s2 := hs1.foldl fun _ _ hu => hu.cistStore ..
  exact .ite (.ite (hs1.setCist ..) hs1) ((hs2.setCist ..).iset ..)

theorem Tidy.putEyes (h : Tidy q c s) (l : List LaneEye) : Tidy q c (putEyes l s) :=
  h.foldl (fun _ _ h0 => h0.rset ..)

theorem Tidy.putDlys (h : Tidy q c s) (l : List LaneEye) : Tidy q c (putDlys l s) :=
  h.foldl (fun _ _ h0 => h0.rset ..)

theorem Tidy.eyesReport (h : Tidy q c s) (l : List LaneEye) : Tidy q c (eyesReport l s) :=
  .ite (((h.putEyes ..).setCist ..).iset ..) ((((h.putEyes ..).setCist ..).iset ..).iset ..)

theorem Tidy.trainedNow (h : Tidy q c s) : Tidy q c (trainedNow s) :=
  (h.setCist ..).rset ..

theorem Tidy.startTraining (h : Tidy q c s) : Tidy q c (startTraining s) :=
  h.setCist ..

theorem Tidy.afterTraining (h : Tidy q c s) : Tidy q c (afterTraining s) :=
  .ite (h.setCist ..) h.voidContents

theorem Tidy.trainingDone (h : Tidy q c s) (r : TrainIn) : Tidy q c (trainingDone r s) :=
  .ite (h.advance ..)
    (.ite ((((((h.advance ..).eyesReport ..).rset ..).rset ..).putDlys ..).trainedNow.setCist
      ..).afterTraining.enterNormal ((((h.advance ..).eyesReport ..).rset ..).iset ..).enterLost)

theorem Tidy.retrainStart (h : Tidy q c s) : Tidy q c (retrainStart s) :=
  .ite h (h.setCist ..)

theorem Tidy.retrainTrigger (h : Tidy q c s) (t : Nat) : Tidy q c (retrainTrigger t s) :=
  .ite (h.advance ..).retrainStart (h.advance ..)

theorem Tidy.retrainSlice (h : Tidy q c s) : Tidy q c (retrainSlice s) := by
  unfold Machine.retrainSlice
  dsimp only
  split
  · exact h
  · exact .ite (h.setCist ..) h

theorem Tidy.retrainDone (h : Tidy q c s) (i : TrainIn) : Tidy q c (retrainDone i s) := by
  unfold Machine.retrainDone
  extract_lets s1 _ s11 _ s2 n s21
  have hs1 : Tidy q c s1 := h.advance ..
  have hs11 : Tidy q c s11 := ((hs1.setCist ..).eyesReport ..).cnt ..
  have hs2 : Tidy q c s2 := ((hs11.setCist ..).trainedNow.rset ..).iset ..
  have hs21 : Tidy q c s21 := (hs11.rset ..).iset ..
  split
  · exact hs1
  · exact .ite hs1 (.ite (.ite hs2.enterNormal hs2) (.ite hs21.enterDegraded hs21))

theorem Tidy.retrainAbort (h : Tidy q c s) : Tidy q c (retrainAbort s) := by
  unfold Machine.retrainAbort
  dsimp only
  split
  · exact h
  · exact .ite ((h.setCist ..).cnt ..) h

theorem Tidy.ceWindowEnd (h : Tidy q c s) : Tidy q c (ceWindowEnd s) := by
  unfold Machine.ceWindowEnd
  extract_lets n _ s1 s2 s3 s4
  have hs1 : Tidy q c s1 := (h.setCist ..).rset ..
  have hs2 : Tidy q c s2 := hs1.foldl (fun _ _ h1 => h1.rset ..)
  have hs3 : Tidy q c s3 := hs2.iset ..
  have hs4 : Tidy q c s4 := .ite hs3.enterDegraded hs3
  exact .ite h (.ite (.ite hs4.retrainStart hs4) hs2)

theorem Tidy.dramRefresh (h : Tidy q c s) (rank : Fin 2) (u : Fin 4) : Tidy q c (dramRefresh rank u s) := by
  unfold Machine.dramRefresh
  dsimp only
  split
  · exact h
  · split
    · exact (h.setCist ..).rset ..
    · split
      · exact (((h.setCist ..).putDlys ..).setCist ..).rset ..
      · exact ((h.setCist ..).setCist ..).rset ..

theorem Tidy.rowCloseTimeout (h : Tidy q c s) (bank : Fin 32) : Tidy q c (rowCloseTimeout bank s) :=
  .ite (h.setCist ..) h

theorem Tidy.dlyApply (h : Tidy q c s) (i : Nat) (e : List Word) : Tidy q c (dlyApply i e s) :=
  (Tidy.ite (h.iset ..) h).setCist ..

theorem Tidy.dlySel (h : Tidy q c s) : Tidy q c (dlySel s) :=
  h.regWords ..

theorem Tidy.dlyCommit (h : Tidy q c s) (next : Bool) : Tidy q c (dlyCommit next s) := by
  unfold Machine.dlyCommit
  dsimp only
  split
  · exact (h.iset ..).errcap ..
  · exact .ite (h.setCist ..) (h.dlyApply ..)

theorem Tidy.applyDlyCommits (h : Tidy q c s) : Tidy q c (applyDlyCommits s) :=
  (h.setCist ..).foldl (fun _ _ h0 => h0.dlyApply ..)

theorem Tidy.lineStore (h : Tidy q c s) (l : DLine) (f : Nat) (v : Word) : Tidy q c (lineStore l f v s) :=
  .ite ((Tidy.ite (h.cistStore ..) h).stWord ..) (.ite (h.cistStore ..) h)

theorem Tidy.lineFetch (h : Tidy q c s) (l : DLine) (d j : Nat) : Tidy q c (lineFetch l d j s).2 :=
  .ite_snd h (.ite_snd (.ite_snd h (h.dmaRead ..))
    (.ite_snd h (.ite_snd (.ite h h.stageMiss) (.ite_snd (h.cistFetch ..).stageMiss (h.cistFetch ..)))))

theorem Tidy.lineMix (h : Tidy q c s) (l : DLine) (j : Nat) (acc : Int) (pts : List (Nat × Nat)) :
    Tidy q c (lineMix l j acc pts s).2 := by
  induction pts generalizing acc s with
  | nil => exact h
  | cons p t ih => exact .ite_snd h (ih (h.lineFetch ..) _)

theorem Tidy.lineValue (h : Tidy q c s) (l : DLine) (j : Nat) : Tidy q c (lineValue l j s).2 := by
  unfold Machine.lineValue
  dsimp only
  split
  · exact h
  · exact .ite_snd (h.lineMix ..) ((h.lineFetch ..).lineMix ..)

theorem Tidy.delayXfadeEnd (h : Tidy q c s) (i : Nat) : Tidy q c (delayXfadeEnd i s) := by
  unfold Machine.delayXfadeEnd
  dsimp only
  split
  · exact h
  · split
    · exact .ite (h.setCist ..) h
    · exact h

theorem Tidy.blockLines (h : Tidy q c s) (k : Nat) : Tidy q c (blockLines k s) :=
  (h.foldl (fun _ _ h1 => .ite h1 (h1.foldl (fun _ _ h3 => (h3.dmaRead ..).lineStore ..)))).foldl
    (fun _ _ h0 => h0.foldl (fun _ _ h1 => (h1.lineValue ..).stWord ..))

theorem Tidy.stagingDeadline (h : Tidy q c s) (missing : List Nat) : Tidy q c (stagingDeadline missing s) :=
  h.foldl fun u m hu => by
    dsimp only
    split
    · exact hu
    · exact .ite hu (.ite (hu.setCist ..) (.ite (hu.stWord ..).stageMiss hu))

theorem Tidy.alignLines (h : Tidy q c s) (j : Nat) (out : Samples) : Tidy q c (alignLines j out s).2 := by
  unfold Machine.alignLines
  refine Tidy.setCist (Tidy.foldl_snd (a := (out, s)) h fun u l hu => ?_) _
  exact .ite_snd (hu.lineStore ..).stageMiss ((hu.lineStore ..).lineValue ..)

theorem Tidy.rsvEnter (h : Tidy q c s) : Tidy q c (rsvEnter s) :=
  .ite (((Tidy.ite (h.rset ..)
    ((h.rset ..).foldl
      (fun _ _ h4 => h4.foldl (fun _ _ h5 => .ite h5 ((h5.lineFetch ..).stWord ..))))).setCist ..).iset ..)
        ((Tidy.ite (h.rset ..)
          ((h.rset ..).foldl
            (fun _ _ h3 => h3.foldl (fun _ _ h4 => .ite h4 ((h4.lineFetch ..).stWord ..))))).setCist ..)

theorem Tidy.rsvLeave (h : Tidy q c s) : Tidy q c (rsvLeave s) :=
  (h.setCist ..).rset ..

theorem Tidy.reserveMove (h : Tidy q c s) : Tidy q c (reserveMove s) := by
  unfold Machine.reserveMove
  split
  · exact .ite h.rsvEnter h
  · exact .ite h.rsvLeave h
  · exact h

theorem Tidy.apWrite (h : Tidy q c s) (a : Nat) (be : BitVec 4) (v : Word) : Tidy q c (apWrite a be v s).1 :=
  .ite_fst (h.errcap ..)
    (.ite_fst (.ite_fst h (h.eccRead ..))
      (.ite (((((Tidy.ite_fst h (h.eccRead ..)).dramTouch ..).foldl
        (fun _ _ h5 => .ite (h5.cwByte ..) h5)).freshen ..).sendCell ..)
          ((((Tidy.ite_fst h (h.eccRead ..)).dramTouch ..).foldl (fun _ _ h4 => .ite (h4.cwByte ..) h4)).freshen ..)))

/-! ### Dpll -/

theorem Tidy.setRef (h : Tidy q c s) (r : Nat) (v : RefSt) : Tidy q c (setRef r v s) :=
  h.setDpll _ fun hc => (List.length_set ..).trans (h.refs hc)

theorem Tidy.refDisq (h : Tidy q c s) (r : Nat) : Tidy q c (refDisq r s) :=
  (h.setRef ..).iset ..

theorem Tidy.refQual (h : Tidy q c s) (r : Nat) : Tidy q c (refQual r s) :=
  (h.setRef ..).iset ..

theorem Tidy.refFailNow (h : Tidy q c s) (r : Nat) : Tidy q c (refFailNow r s) :=
  .ite (h.setRef ..) ((h.setRef ..).iset ..)

theorem Tidy.refStep (h : Tidy q c s) (r : Nat) : Tidy q c (refStep s r) := by
  unfold Machine.refStep
  extract_lets x _ s1 _
  have hs1 : Tidy q c s1 := h.setRef ..
  split
  · exact h.setRef ..
  · split
    · exact h.setRef ..
    · split
      · exact .ite h (h.refFailNow ..)
      · split
        · exact .ite (hs1.setRef ..) hs1
        · exact .ite (hs1.refDisq ..) (.ite (hs1.refQual ..) hs1)
        · exact .ite hs1 (hs1.setRef ..)
        · exact .ite (hs1.setRef ..) (.ite (hs1.refDisq ..) hs1)
        · exact .ite (hs1.setRef ..) hs1
        · exact hs1

theorem Tidy.wanderSample (h : Tidy q c s) (r : Nat) : Tidy q c (wanderSample r s) :=
  .ite ((h.setRef ..).iset ..) (.ite (h.setRef ..) (h.setRef ..))

theorem Tidy.startPull (h : Tidy q c s) (e : Int) : Tidy q c (startPull e s) :=
  h.setDpllKeep _

theorem Tidy.lockTrack (h : Tidy q c s) (r : Nat) : Tidy q c (lockTrack r s) :=
  h.setDpllKeep _

theorem Tidy.refEdge (h : Tidy q c s) (r : Nat) (i : RefMeas) : Tidy q c (refEdge r i s) :=
  .ite (h.advance ..)
    (.ite ((h.advance ..).setRef ..)
      (.ite ((Tidy.ite ((((h.advance ..).setRef ..).wanderSample ..).startPull ..)
        (((h.advance ..).setRef ..).wanderSample ..)).lockTrack ..) (((h.advance ..).setRef ..).wanderSample ..)))

theorem Tidy.ptpMoved (h : Tidy q c s) (one : Bool) : Tidy q c (ptpMoved one s) :=
  .ite ((h.setRef ..).setDpllKeep _) (h.setRef ..)

theorem Tidy.hoUpdate (h : Tidy q c s) : Tidy q c (hoUpdate s) :=
  h.setDpllKeep _

theorem Tidy.outFreq (h : Tidy q c s) : Tidy q c (outFreq s) :=
  h.setDpllKeep _

theorem Tidy.holdOver (h : Tidy q c s) : Tidy q c (holdOver s) :=
  .ite (h.setDpllKeep _) ((h.setDpllKeep _).iset ..)

theorem Tidy.dpllFree (h : Tidy q c s) : Tidy q c (dpllFree s) :=
  ((h.setDpllKeep _).holdOver).outFreq

theorem Tidy.switchTo (h : Tidy q c s) (r : Option Nat) : Tidy q c (switchTo r s) := by
  unfold Machine.switchTo
  extract_lets clear _ s1
  have hs1 : Tidy q c s1 := ((h.setDpll _ (by exact fun hc => (List.length_map ..).trans (h.refs hc))).iset ..).cnt ..
  split
  · exact h
  · split
    · exact hs1.holdOver
    · have hs2 := hs1.startPull (refOf s1 ‹Nat›).e
      dsimp only
      split <;> exact hs2.setDpllKeep _

theorem Tidy.evaluate (h : Tidy q c s) : Tidy q c (evaluate s) := by
  unfold Machine.evaluate
  extract_lets s1 _ dt left s2 _ s3 s4 p mark _ s5 s6 s7
  have hs1 : Tidy q c s1 := h.foldl fun _ _ hu => hu.refStep ..
  have hs2 : Tidy q c s2 := hs1.setDpllKeep _
  have hs3 : Tidy q c s3 := .ite (hs2.setDpllKeep _) hs2
  have hs4 : Tidy q c s4 := .ite hs3.hoUpdate hs3
  have hs5 : Tidy q c s5 :=
    (Tidy.ite (hs4.iset ..) hs4).setDpll _ (by exact fun hc => (List.length_mapIdx ..).trans (hs4.refs hc))
  have hs6 : Tidy q c s6 := hs5.switchTo ..
  have hs7 : Tidy q c s7 := .ite hs6.holdOver hs6
  have hoff : Tidy q c { s1 with dpll := { s1.dpll with evalT := s1.now } } := hs1.setDpllKeep _
  exact .ite hoff.outFreq (.ite hoff.outFreq hs7.outFreq)

theorem Tidy.dpllEvaluation (h : Tidy q c s) (t : Nat) : Tidy q c (dpllEvaluation t s) :=
  .ite (h.advance ..).evaluate (h.advance ..)

theorem Tidy.refFail (h : Tidy q c s) (r : Nat) : Tidy q c (refFail r s) :=
  .ite h (.ite (h.refFailNow ..).evaluate (h.refFailNow ..))

theorem Tidy.refSoakDone (h : Tidy q c s) (r : Nat) : Tidy q c (refSoakDone r s) :=
  .ite (h.refQual ..) h

theorem Tidy.refDisqualify (h : Tidy q c s) (r : Nat) : Tidy q c (refDisqualify r s) :=
  .ite (h.refDisq ..) h

theorem Tidy.lockDeclared (h : Tidy q c s) : Tidy q c (lockDeclared s) :=
  .ite ((h.setDpllKeep _).iset ..) h

theorem Tidy.ladderStep (h : Tidy q c s) : Tidy q c (ladderStep s) :=
  .ite (h.setDpllKeep _) h

theorem Tidy.lockLost (h : Tidy q c s) : Tidy q c (lockLost s) :=
  .ite ((h.setDpllKeep _).iset ..) h

theorem Tidy.pullDone (h : Tidy q c s) : Tidy q c (pullDone s) :=
  .ite ((h.setDpllKeep _).iset ..) h

theorem Tidy.alignStart (h : Tidy q c s) (outs : List Nat) (src : Nat) : Tidy q c (alignStart outs src s) :=
  h.setDpllKeep _

theorem Tidy.outPhase (h : Tidy q c s) (o k : Nat) : Tidy q c (outPhase o k s) := by
  unfold Machine.outPhase
  dsimp only
  split
  · exact h.setClk _ fun hc => (List.length_set ..).trans (h.wclk hc)
  · exact h.setClk _ fun hc => (List.length_set ..).trans (h.wclk hc)
  · exact h.setClkKeep _
  · exact h.setClkKeep _

theorem Tidy.alignEpoch (h : Tidy q c s) (f g0 : Nat) (a : AlignSt) : Tidy q c (alignEpoch f g0 a s) :=
  (h.setDpllKeep _).outPhase ..

theorem Tidy.alignAt (h : Tidy q c s) (src e f tick : Nat) : Tidy q c (alignAt src e f tick s) :=
  h.foldl (fun _ _ h0 => h0.alignEpoch ..)

theorem Tidy.alignTick (h : Tidy q c s) : Tidy q c (alignTick s) :=
  .ite h (.ite ((Tidy.ite (h.alignAt ..) h).alignAt ..) (.ite (h.alignAt ..) h))

theorem Tidy.alignEdge (h : Tidy q c s) (o : Nat) : Tidy q c (alignEdge o s) :=
  .ite ((h.setDpllKeep _).iset ..) h

/-! ### Jet -/

theorem Tidy.jetReown (h : Tidy q c s) : Tidy q c (jetReown s) :=
  h.setBasin ..

theorem Tidy.jetEnable (h : Tidy q c s) (p : Nat) : Tidy q c (jetEnable p s) :=
  .ite ((h.iset ..).errcap ..) ((h.setBasin ..).foldl (fun _ _ h1 => (h1.iset ..).errcap ..))

theorem Tidy.jetDisable (h : Tidy q c s) (p : Nat) : Tidy q c (jetDisable p s) :=
  h.setBasin ..

theorem Tidy.jetMuteChange (h : Tidy q c s) (p : Nat) (on : Bool) : Tidy q c (jetMuteChange p on s) :=
  h.setBasin ..

theorem Tidy.jetPathChange (h : Tidy q c s) (p : Nat) (old new : Word) : Tidy q c (jetPathChange p old new s) := by
  unfold Machine.jetPathChange
  extract_lets s1 _ _ _ s2 s3
  have hs1 : Tidy q c s1 := .ite h (h.jetMuteChange ..)
  have hs2 : Tidy q c s2 := .ite (hs1.jetDisable ..) hs1
  have hs3 : Tidy q c s3 := .ite (hs2.jetEnable ..) hs2
  exact .ite hs1 (.ite hs3.jetReown hs3)

theorem Tidy.jetEnChange (h : Tidy q c s) (en : Bool) : Tidy q c (jetEnChange en s) :=
  .ite (h.foldl (fun _ _ h2 => .ite (h2.jetEnable ..) h2)).jetReown (h.setBasin ..).jetReown

theorem Tidy.jetXfadeEnd (h : Tidy q c s) (p : Nat) : Tidy q c (jetXfadeEnd p s) :=
  .ite ((h.setBasin ..).iset ..) h

/-! ### Prot -/

theorem Tidy.protFault (h : Tidy q c s) (rwp : Bool) (l a : Nat) (write remote : Bool) :
    Tidy q c (protFault rwp l a write remote s) :=
  .ite (((((h.cnt ..).iset ..).alarm ..).errcap ..).rset ..) ((((h.cnt ..).iset ..).alarm ..).errcap ..)

theorem Tidy.rangeApply (h : Tidy q c s) (k : Nat) : Tidy q c (rangeApply k s) :=
  h.setHost _ fun hc => (List.length_set ..).trans (h.ranges hc)

/-! ### Record -/

theorem Tidy.segAccept (h : Tidy q c s) (t : Word) (p : List Word) : Tidy q c (segAccept t p s) :=
  (h.setCist ..).foldl (fun _ _ h0 => (h0.rset ..).rset ..)

theorem Tidy.segFree (h : Tidy q c s) (t : Word) : Tidy q c (segFree t s) :=
  (h.setCist ..).foldl (fun _ _ h0 => h0.rset ..)

theorem Tidy.segLand (h : Tidy q c s) (e : Ev) : Tidy q c (segLand e s) :=
  ((h.setCist ..).keepRunning ..).iset ..

theorem Tidy.recordFrame (h : Tidy q c s) (f : Nat) : Tidy q c (recordFrame f s) :=
  .ite h (.ite (((h.foldl (fun _ _ h4 => h4.foldl (fun _ _ h5 => h5.rset ..))).cnt ..).iset ..)
    ((((h.foldl (fun _ _ h5 => h5.foldl (fun _ _ h6 => h6.rset ..))).setCist ..).rset ..).peak ..))

theorem Tidy.recDrain (h : Tidy q c s) (n : Nat) : Tidy q c (recDrain n s) :=
  .ite h (((h.setCist ..).foldl (fun _ _ h2 => h2.cistStore ..)).rset ..)

theorem Tidy.recFreeze (h : Tidy q c s) (t : Word) : Tidy q c (recFreeze t s) :=
  .ite ((h.setCist ..).iset ..) h

theorem Tidy.segmentComplete (h : Tidy q c s) (t : Word) : Tidy q c (segmentComplete t s) := by
  unfold Machine.segmentComplete
  split
  · exact h
  · split
    · exact h
    · exact .ite (((h.segFree ..).iset ..).finishRunning ..) h

theorem Tidy.voiceDone (h : Tidy q c s) : Tidy q c (voiceDone s) :=
  h.iset ..

theorem Tidy.playLand (h : Tidy q c s) (e : Ev) : Tidy q c (playLand e s) :=
  .ite ((h.iset ..).voiceDone.finishAt ..)
    (.ite ((h.errcap ..).voiceDone.finishAt ..)
      (.ite (((h.setCist ..).keepRunning ..).iset ..) ((h.setCist ..).keepRunning ..)))

theorem Tidy.stopPlayLand (h : Tidy q c s) (e : Ev) : Tidy q c (stopPlayLand e s) := by
  unfold Machine.stopPlayLand
  dsimp only
  split
  · exact h.finishAt ..
  · exact (h.setCist ..).keepRunning ..

theorem Tidy.voiceRaw (h : Tidy q c s) (x : VoiceRun) (k : Nat) : Tidy q c (voiceRaw x k s).2 :=
  h.cistFetch ..

theorem Tidy.voiceSample (h : Tidy q c s) (x : VoiceRun) (j : Nat) (missing : Bool) :
    Tidy q c (voiceSample x j missing s).2 :=
  .ite_snd h (.ite_snd h (.ite_snd (h.cnt ..).stageMiss (h.voiceRaw ..)))

theorem Tidy.playerInputs {a : Samples × State} (h : Tidy q c a.2) (j : Nat) (missing : List (Fin 256)) :
    Tidy q c (playerInputs j missing a).2 := by
  unfold Machine.playerInputs
  extract_lets r
  have hr : Tidy q c r.2 := Tidy.foldl_snd (a := ([], a.2)) h fun _ _ hu => hu.voiceSample ..
  exact Tidy.foldl_snd (a := (a.1, r.2)) hr fun _ _ hu => .ite_snd (hu.iset ..) (.ite_snd hu hu)

theorem Tidy.runEnd (h : Tidy q c s) (x : VoiceRun) (c' : Nat) : Tidy q c (runEnd x c' s) :=
  ((h.setCist ..).voiceDone.finishRunning ..).foldl (fun _ _ h0 => h0.finishRunning ..)

theorem Tidy.voiceEnd (h : Tidy q c s) (v : Nat) : Tidy q c (voiceEnd v s) := by
  unfold Machine.voiceEnd
  split
  · exact h.runEnd ..
  · exact h

theorem Tidy.stopFadeEnd (h : Tidy q c s) (v : Nat) : Tidy q c (stopFadeEnd v s) := by
  unfold Machine.stopFadeEnd
  split
  · exact h.runEnd ..
  · exact h

/-! ### Galley -/

theorem Tidy.acceptSide (h : Tidy q c s) (ev : Ev) : Tidy q c (acceptSide ev s) := by
  unfold Machine.acceptSide
  dsimp only
  split
  · exact (h.setGalley ..).setBasin ..
  · exact (h.setGalley ..).segAccept ..
  · exact h.setGalley ..

theorem Tidy.journal (h : Tidy q c s) (ev : Ev) : Tidy q c (journal ev s) :=
  (h.rset ..).acceptSide ..

theorem Tidy.resumeTickets (h : Tidy q c s) : Tidy q c (resumeTickets s) :=
  h.rset ..

theorem Tidy.handOver (h : Tidy q c s) (ev : Ev) (noTable : Bool) : Tidy q c (handOver ev noTable s) :=
  .ite ((Tidy.ite h (h.setGalley ..)).applyImmCancel ..) ((Tidy.ite h (h.setGalley ..)).enqueue ..)

theorem Tidy.actionDone (h : Tidy q c s) (i status : Nat) (ticket : Word) : Tidy q c (actionDone i status ticket s) :=
  .ite ((((h.rset ..).cnt ..).rset ..).cnt ..) (((((h.rset ..).cnt ..).iset ..).errcap ..).cnt ..)

theorem Tidy.respond (h : Tidy q c s) (x : Taken) : Tidy q c (respond x s) := by
  unfold Machine.respond
  extract_lets a s1 s2 _ s3 s4 _
  have hs1 : Tidy q c s1 := h.stWords ..
  have hs2 : Tidy q c s2 := (hs1.rput ..).iset ..
  have hs3 : Tidy q c s3 := .ite ((hs2.cnt ..).peak ..) ((Tidy.ite (hs2.cnt ..) (hs2.iset ..)).cnt ..)
  have hs4 : Tidy q c s4 := .ite (hs3.iset ..) hs3
  exact hs4.setGalley ..

theorem Tidy.answer (h : Tidy q c s) (x : Taken) : Tidy q c (answer x s) := by
  unfold Machine.answer
  split
  · exact h.actionDone ..
  · exact h.respond ..

theorem Tidy.settleTaken (h : Tidy q c s) (x : Taken) : Tidy q c (settleTaken x s) := by
  unfold Machine.settleTaken
  split
  · exact (h.handOver ..).answer ..
  · exact h.answer ..

theorem Tidy.flushRefused (h : Tidy q c s) (l : List Taken) : Tidy q c (flushRefused l s) := by
  induction l generalizing s with
  | nil => exact h.setGalley ..
  | cons x t ih => exact .ite (h.setGalley ..) (ih (h.respond ..))

theorem Tidy.flushAll (h : Tidy q c s) : Tidy q c (flushAll s) :=
  h.foldl fun u _ hu => by
    dsimp only
    split
    · exact (hu.setGalley ..).settleTaken ..
    · exact hu

theorem Tidy.galleyUe (h : Tidy q c s) : Tidy q c (galleyUe s) :=
  .ite h ((h.setGalley ..).alarm ..)

theorem Tidy.slotCheck (h : Tidy q c s) (k : Nat) : Tidy q c (slotCheck k s).1 :=
  .ite_fst h (h.foldl_fst (fun _ _ h1 => h1.eccRead ..))

theorem Tidy.payloadRead (h : Tidy q c s) (e : Entry) : Tidy q c (payloadRead e s) :=
  .ite h (h.foldl (fun _ _ h1 => h1.dmaRead ..))

theorem Tidy.takeEntry (h : Tidy q c s) (count lvl sub : Nat) (e : Entry) :
    Tidy q c (takeEntry count lvl sub e s) := by
  unfold Machine.takeEntry
  dsimp only
  split
  · exact .ite (((h.journal ..).setGalley ..).sendCell ..) ((h.journal ..).settleTaken ..)
  · exact .ite (h.respond ..) (h.setGalley ..)

theorem Tidy.entryCheck (h : Tidy q c s) (t : Nat) : Tidy q c (entryCheck t s) :=
  .ite (h.advance ..)
    (.ite ((h.advance ..).slotCheck ..).galleyUe
      ((((((h.advance ..).slotCheck ..).setGalley ..).rput ..).takeEntry ..).payloadRead ..))

theorem Tidy.replAck (h : Tidy q c s) (ticket : Word) (t : Nat) : Tidy q c (replAck ticket t s) := by
  unfold Machine.replAck
  dsimp only
  split
  · split
    · exact .ite ((((h.advance ..).setGalley ..).settleTaken ..).flushRefused ..) (h.advance ..)
    · exact h.advance ..
  · exact h.advance ..

theorem Tidy.replTimeout (h : Tidy q c s) (t : Nat) : Tidy q c (replTimeout t s) := by
  unfold Machine.replTimeout
  dsimp only
  split
  · exact .ite (((h.advance ..).iset ..).errcap ..).partnerLost.flushAll (h.advance ..)
  · exact h.advance ..

theorem Tidy.prodWritten (h : Tidy q c s) (lvl : Fin 4) (old new : Nat) : Tidy q c (prodWritten lvl old new s) :=
  h.setGalley ..

theorem Tidy.clientReset (h : Tidy q c s) (mask : Nat) : Tidy q c (clientReset mask s) :=
  h.setGalley ..

theorem Tidy.clientRstWrite (h : Tidy q c s) (mask : Nat) : Tidy q c (clientRstWrite mask s) :=
  .ite ((h.clientReset ..).sendCell ..) (h.clientReset ..)

theorem Tidy.standbySlot (h : Tidy q c s) (ev : Ev) : Tidy q c (standbySlot ev s) :=
  ((h.journal ..).handOver ..).sendCell ..

theorem Tidy.warmRestore (h : Tidy q c s) : Tidy q c (warmRestore s) :=
  ((h.setGalley ..).rput ..).rput ..

/-! ### Sense -/

theorem Tidy.setSenseIn (h : Tidy q c s) (n : Fin 8) (x : SenseIn) : Tidy q c (setSenseIn n x s) :=
  h.setSense ..

theorem Tidy.queueEvent (h : Tidy q c s) (n : Fin 8) (e : Nat × Nat) : Tidy q c (queueEvent n e s) :=
  .ite (.ite (h.iset ..) h)
    (.ite ((((Tidy.ite (h.iset ..) h).setSenseIn ..).cnt ..).iset ..) ((Tidy.ite (h.iset ..) h).setSenseIn ..))

theorem Tidy.reportNow (h : Tidy q c s) (n : Fin 8) (pre : List (Nat × Nat)) : Tidy q c (reportNow n pre s) :=
  (h.setSenseIn ..).foldl (fun _ _ h0 => h0.queueEvent ..)

theorem Tidy.latchChatter (h : Tidy q c s) (n : Fin 8) : Tidy q c (latchChatter n s) :=
  (h.setSenseIn ..).foldl (fun _ _ h0 => h0.queueEvent ..)

theorem Tidy.debounced (h : Tidy q c s) (n : Fin 8) (c' : SenseClass) : Tidy q c (debounced n c' s) :=
  .ite (h.setSenseIn ..) (.ite ((h.setSenseIn ..).latchChatter ..) ((h.setSenseIn ..).reportNow ..))

theorem Tidy.senseClassify (h : Tidy q c s) (n : Fin 8) (level t : Nat) : Tidy q c (senseClassify n level t s) :=
  .ite (h.advance ..)
    (.ite ((((h.advance ..).rset ..).setSenseIn ..).debounced ..) (((h.advance ..).rset ..).setSenseIn ..))

theorem Tidy.senseStuck (h : Tidy q c s) (n : Fin 8) : Tidy q c (senseStuck n s) := by
  unfold Machine.senseStuck
  dsimp only
  split
  · exact .ite ((h.setSenseIn ..).queueEvent ..) h
  · exact h

theorem Tidy.senseQuiet (h : Tidy q c s) (n : Fin 8) : Tidy q c (senseQuiet n s) :=
  .ite ((h.setSenseIn ..).reportNow ..) h

theorem Tidy.submitAction (h : Tidy q c s) (i : Nat) (first : Option Nat) : Tidy q c (submitAction i first s) := by
  unfold Machine.submitAction
  dsimp only
  split
  · exact h
  · split
    · exact h.setSense ..
    · split
      · exact .ite ((((h.payloadRead ..).journal ..).setGalley ..).sendCell ..)
          (((h.payloadRead ..).journal ..).settleTaken ..)
      · exact .ite (((h.payloadRead ..).rset ..).setSense ..) ((h.payloadRead ..).actionDone ..)

theorem Tidy.retryActions (h : Tidy q c s) : Tidy q c (retryActions s) :=
  (h.setSense ..).foldl (fun _ _ h0 => h0.submitAction ..)

theorem Tidy.actionRetryExpire (h : Tidy q c s) : Tidy q c (actionRetryExpire s) :=
  (h.setSense ..).foldl (fun _ _ h0 => h0.actionDone ..)

theorem Tidy.writeRecord (h : Tidy q c s) (w0 w1 : Word) : Tidy q c (writeRecord w0 w1 s) :=
  (Tidy.ite (((((h.rset ..).rset ..).rput ..).iset ..).cnt ..) ((((h.rset ..).rset ..).rput ..).iset ..)).foldl
    (fun _ _ h0 => h0.submitAction ..)

theorem Tidy.senseDeliver (h : Tidy q c s) (n : Fin 8) (t : Nat) : Tidy q c (senseDeliver n t s) := by
  unfold Machine.senseDeliver
  dsimp only
  split
  · exact h.advance ..
  · exact .ite (h.advance ..)
      ((Tidy.ite (((h.advance ..).setSenseIn ..).sendCell ..) ((h.advance ..).setSenseIn ..)).writeRecord ..)

theorem Tidy.partnerSense (h : Tidy q c s) (w0 w1 : Word) : Tidy q c (partnerSense w0 w1 s) :=
  .ite (h.writeRecord ..) h

theorem Tidy.senseEvt (h : Tidy q c s) (m : MgmtPkt) : Tidy q c (senseEvt m s) :=
  .ite (h.mgmtAccept ..)
    (.ite (((h.mgmtAccept ..).iset ..).errcap ..) ((h.mgmtAccept ..).foldl (fun _ _ h2 => h2.writeRecord ..)))

/-! ### Twin -/

theorem Tidy.takeOutputs (h : Tidy q c s) : Tidy q c (takeOutputs s) :=
  (h.setTwinSt ..).takeOverFlows ..

theorem Tidy.becomeActive (h : Tidy q c s) : Tidy q c (becomeActive s) :=
  .ite ((((Tidy.ite ((((h.cnt ..).setTwin ..).iset ..).cnt ..)
    (((h.cnt ..).setTwin ..).iset ..)).setTwinSt ..).resumeTickets.setTwinSt ..).iset ..)
      ((Tidy.ite ((((h.cnt ..).setTwin ..).iset ..).cnt ..)
        (((h.cnt ..).setTwin ..).iset ..)).setTwinSt ..).resumeTickets.takeOutputs

theorem Tidy.grantRises (h : Tidy q c s) : Tidy q c (grantRises s) :=
  .ite h.becomeActive h

theorem Tidy.grantFalls (h : Tidy q c s) : Tidy q c (grantFalls s) :=
  .ite h.enterFenced h

theorem Tidy.arbTransition (h : Tidy q c s) (level : Bool) : Tidy q c (arbTransition level s) :=
  .ite (((h.setArb ..).setArb ..).iset ..).grantFalls (h.setArb ..)

theorem Tidy.arbGrantRise (h : Tidy q c s) (t phase : Nat) : Tidy q c (arbGrantRise t phase s) :=
  .ite ((h.advance ..).setArb ..)
    (.ite (((h.advance ..).arbTransition ..).iset ..).grantRises (((h.advance ..).arbTransition ..).iset ..))

theorem Tidy.arbGrantFall (h : Tidy q c s) (t phase : Nat) : Tidy q c (arbGrantFall t phase s) :=
  .ite ((h.advance ..).setArb ..)
    (Tidy.ite (((((h.advance ..).arbTransition ..).iset ..).setArb ..).iset ..)
      (((h.advance ..).arbTransition ..).iset ..)).grantFalls

theorem Tidy.grantWaitEnd (h : Tidy q c s) (t : Nat) : Tidy q c (grantWaitEnd t s) := by
  unfold Machine.grantWaitEnd
  dsimp only
  split
  · exact .ite (h.advance ..).takeOutputs (h.advance ..)
  · exact h.advance ..

theorem Tidy.arbChatterQuiet (h : Tidy q c s) : Tidy q c (arbChatterQuiet s) :=
  .ite (.ite ((h.setArb ..).iset ..).grantRises ((h.setArb ..).iset ..)) h

theorem Tidy.arbStuck (h : Tidy q c s) : Tidy q c (arbStuck s) :=
  .ite ((h.setArb ..).iset ..) h

theorem Tidy.leaseExpire (h : Tidy q c s) (t : Nat) : Tidy q c (leaseExpire t s) := by
  unfold Machine.leaseExpire
  extract_lets s1 s11
  have hs1 : Tidy q c s1 := h.advance ..
  have hs11 : Tidy q c s11 := (hs1.cnt ..).iset ..
  split
  · exact hs1
  · split
    · exact hs1
    · split
      · exact hs11.enterFenced
      · exact hs11.enterTwinFault ..
      · exact hs11.enterTwinFault ..

theorem Tidy.renewLease (h : Tidy q c s) : Tidy q c (renewLease s) :=
  .ite (.ite (h.setTwinSt ..).hbToggle h.hbStatic) (.ite h.hbToggle h.hbStatic)

theorem Tidy.startSync (h : Tidy q c s) : Tidy q c (startSync s) :=
  (((h.setTwin ..).setTwinSt ..).sendCell ..).sendCell ..

theorem Tidy.fenceSelf (h : Tidy q c s) : Tidy q c (fenceSelf s) :=
  .ite h h.enterFenced

theorem Tidy.fenceCmd (h : Tidy q c s) : Tidy q c (fenceCmd s) :=
  .ite (h.sendCell ..) h.fenceSelf

theorem Tidy.twinCmd (h : Tidy q c s) (v : Nat) : Tidy q c (twinCmd v s).2 := by
  unfold Machine.twinCmd
  split
  · exact .ite_snd h h.startSync
  · exact .ite_snd h (h.requestRelease ..)
  · exact h.fenceCmd
  · exact h

theorem Tidy.autoJoin (h : Tidy q c s) : Tidy q c (autoJoin s) :=
  .ite h.startSync h

theorem Tidy.negTimeout (h : Tidy q c s) : Tidy q c (negTimeout s) :=
  .ite (h.setTwinSt ..) h

theorem Tidy.losePartner (h : Tidy q c s) : Tidy q c (losePartner s) :=
  .ite h.partnerLost h.partnerLost.flushAll

theorem Tidy.laneChange (h : Tidy q c s) (lanes : BitVec 2) : Tidy q c (laneChange lanes s) :=
  .ite h ((h.setTwinSt ..).iset ..)

theorem Tidy.traliatLinkUp (h : Tidy q c s) (lanes : BitVec 2) : Tidy q c (traliatLinkUp lanes s) :=
  .ite h ((((h.laneChange ..).setTwinSt ..).sendCell ..).sendCell ..)

theorem Tidy.traliatLinkDown (h : Tidy q c s) : Tidy q c (traliatLinkDown s) :=
  .ite h (((h.laneChange ..).setTwinSt ..).cnt ..).losePartner

theorem Tidy.traliatLaneChange (h : Tidy q c s) (lanes : BitVec 2) : Tidy q c (traliatLaneChange lanes s) :=
  .ite (h.laneChange ..) h

theorem Tidy.cellIn (h : Tidy q c s) (ch : Nat) (h' : CellHdr) : Tidy q c (cellIn ch h' s).1 :=
  .ite_fst h (.ite_fst h
    (.ite (((h.cnt ..).sendCell ..).setTwinSt ..)
      (.ite (((h.cnt ..).sendCell ..).setTwinSt ..) ((h.cnt ..).sendCell ..))))

theorem Tidy.cellResend (h : Tidy q c s) (ch seq : Nat) : Tidy q c (cellResend ch seq s) := by
  unfold Machine.cellResend
  dsimp only
  split
  · exact .ite ((h.setTwinSt ..).cnt ..) h
  · exact h

theorem Tidy.healthCell (h : Tidy q c s) (c' : HealthCell) : Tidy q c (healthCell c' s) := by
  unfold Machine.healthCell
  extract_lets r s1 _ st _ s11 y s2 s3 _
  have hr : Tidy q c r.1 := by
    unfold r
    exact (h.advance ..).cellIn ..
  have hs1 : Tidy q c s1 := hr
  have hs11 : Tidy q c s11 := hs1.setTwinSt ..
  have hy : Tidy q c y := (hs11.iset ..).alarm ..
  have hs2 : Tidy q c s2 := .ite (.ite hy hy.flushAll) hs11
  have hs3 : Tidy q c s3 := .ite (hs2.requestRelease ..) hs2
  exact .ite hs1 (.ite (hs3.setTb ..) hs3)

theorem Tidy.groupDecide (h : Tidy q c s) (g : Fin 4) (y : GroupSt) : Tidy q c (groupDecide g y s) := by
  unfold Machine.groupDecide
  extract_lets x _ s0 s1 _ n _ s2
  have hs0 : Tidy q c s0 := .ite h h.markBad
  have hs1 : Tidy q c s1 := .ite (hs0.enterRun ..) (.ite (hs0.leaveRun ..) hs0)
  have hs2 : Tidy q c s2 := hs1.setGrp ..
  exact .ite (hs2.rset ..) (.ite hs2 (hs2.rput ..))

theorem Tidy.aesDecide (h : Tidy q c s) (m : Fin 8) (y : Aes3St) : Tidy q c (aesDecide m y s) :=
  (Tidy.ite h h.markBad).setAes ..

theorem Tidy.flowDecide (h : Tidy q c s) (f start next made acc : Nat) :
    Tidy q c (flowDecide f start next made acc s) := by
  unfold Machine.flowDecide
  dsimp only
  split
  · exact h
  · exact h.setTx ..

theorem Tidy.lateCell (h : Tidy q c s) (t : Nat) : Tidy q c (lateCell t s) :=
  .ite h.markBad h

theorem Tidy.decCell (h : Tidy q c s) (x : DecCell) : Tidy q c (decCell x s) := by
  unfold Machine.decCell
  extract_lets k r u move _ ran t wait s1 s2 s3 s4 s5 s6 at_
  have hr : Tidy q c r.1 := (h.advance ..).cellIn ..
  have hu : Tidy q c u := .ite (hr.lateCell ..) hr
  have hs1 : Tidy q c s1 := .ite (hu.setTb ..) hu
  have hs2 : Tidy q c s2 := .ite hs1.selectNow hs1
  have hs3 : Tidy q c s3 :=
    (hs2.foldl fun _ _ hv => hv.groupDecide ..).foldl fun _ _ hv => hv.aesDecide ..
  have hs4 : Tidy q c s4 := (hs3.foldl fun _ _ hv => (hv.rset ..).setPorts ..).rset ..
  have hs5 : Tidy q c s5 := hs4.foldl fun _ _ hv => hv.standbyUse ..
  have hs6 : Tidy q c s6 := hs5.foldl fun _ _ hv => hv.flowDecide ..
  exact .ite hu (hs6.setClk _ fun _ => rfl)

theorem Tidy.mirrorCell (h : Tidy q c s) (c' : MirrorCell) : Tidy q c (mirrorCell c' s) :=
  .ite ((h.advance ..).cellIn ..) ((((h.advance ..).cellIn ..).lateCell ..).setTwinSt ..)

theorem Tidy.galleyMsg (h : Tidy q c s) (m : GalleyMsg) : Tidy q c (galleyMsg m s) := by
  unfold Machine.galleyMsg
  split
  · exact h.standbySlot ..
  · exact h.clientReset ..

theorem Tidy.galleyCell (h : Tidy q c s) (c' : GalleyCell) : Tidy q c (galleyCell c' s) :=
  .ite (h.cellIn ..) (((h.cellIn ..).setTwinSt ..).foldl (fun _ _ h1 => h1.galleyMsg ..))

theorem Tidy.healthMissing (h : Tidy q c s) : Tidy q c (healthMissing s) :=
  .ite h.losePartner h

theorem Tidy.lossHoldExpire (h : Tidy q c s) : Tidy q c (lossHoldExpire s) := by
  unfold Machine.lossHoldExpire
  split
  · exact .ite h.enterFenced h
  · exact h

theorem Tidy.crcCompare (h : Tidy q c s) (f : Nat) : Tidy q c (crcCompare f s) := by
  unfold Machine.crcCompare
  dsimp only
  split
  · exact .ite ((((h.rset ..).rset ..).rset ..).setTwinSt ..)
      (.ite ((((((h.rset ..).rset ..).rset ..).setTwinSt ..).cnt ..).iset ..) (((h.rset ..).rset ..).rset ..))
  · exact h

theorem Tidy.crcOutcome (h : Tidy q c s) (next : Nat) : Tidy q c (crcOutcome next s) := by
  unfold Machine.crcOutcome
  dsimp only
  split
  · exact h
  · exact .ite h
      (.ite (.ite ((Tidy.ite ((h.setTwinSt ..).cnt ..) (h.setTwinSt ..)).requestRelease ..)
        (.ite ((h.setTwinSt ..).cnt ..) (h.setTwinSt ..)))
          (.ite ((Tidy.ite ((h.setTwinSt ..).cnt ..) (h.setTwinSt ..)).standbyFault ..)
            (.ite (.ite ((h.setTwinSt ..).cnt ..) (h.setTwinSt ..))
              ((Tidy.ite ((h.setTwinSt ..).cnt ..) (h.setTwinSt ..)).standbyFault ..))))

theorem Tidy.syncRestart (h : Tidy q c s) : Tidy q c (syncRestart s) :=
  .ite (h.setTwinSt ..) h

theorem Tidy.cutover (h : Tidy q c s) : Tidy q c (cutover s) :=
  .ite h (.ite (.ite (h.enterTwinFault ..) ((((h.setTwinSt ..).cnt ..).rset ..).rset ..))
    (((h.setTwin ..).iset ..).setTwinSt ..).jetReown)

theorem Tidy.fwdQueueOverflow (h : Tidy q c s) (region : Nat) : Tidy q c (fwdQueueOverflow region s) :=
  .ite (h.cnt ..) (.ite (.ite (h.enterTwinFault ..) ((h.setTwinSt ..).cnt ..)) h)

theorem Tidy.standbyHotPromote (h : Tidy q c s) (storeEq : Bool) : Tidy q c (standbyHotPromote storeEq s) :=
  .ite h (.ite (((h.setTwinSt ..).setTwin ..).iset ..) (h.setTwinSt ..))

theorem Tidy.warmTimeout (h : Tidy q c s) : Tidy q c (warmTimeout s) := by
  unfold Machine.warmTimeout
  split
  · exact .ite (h.enterTwinFault ..) h
  · exact h

end Sys2Proof.Machine
end

section
/-!
PROOFS. Resets, time counters, clocks and the Presses keep `Tidy`.
-/

namespace Sys2Proof.Machine

-- One lemma after the other: the threads of so many at once do not fit the memory limit.
set_option Elab.async false

variable {q : List Instr} {c : Prop} {s : State}

/-! ### Reset -/

theorem Tidy.copyRegs (h : Tidy q c s) (old : State) (l : List Nat) : Tidy q c (copyRegs old l s) :=
  h.foldl (fun _ _ h0 => h0.rset ..)

theorem Tidy.loadFuses (h : Tidy q c s) : Tidy q c (loadFuses s) :=
  h.foldl (fun _ _ h0 => h0.rset ..)

theorem canonical_reset : Canonical State.reset := resetIsCanonical

theorem Tidy.coldState (h : Tidy q c s) (hold : ResetHold) : Tidy q c (coldState hold s) :=
  ⟨h.1, fun _ => canonical_reset⟩

theorem Tidy.fusedSolo (h : Tidy q c s) : Tidy q c (fusedSolo s) :=
  .ite (h.setTwinSt ..) h

theorem Tidy.powerReset (h : Tidy q c s) (hold : ResetHold) (bit_ : Nat) : Tidy q c (powerReset hold bit_ s) :=
  (((h.coldState ..).copyRegs ..).loadFuses.rset ..).fusedSolo

theorem Tidy.coldReset (h : Tidy q c s) (mask : Nat) : Tidy q c (coldReset mask s) :=
  (((h.coldState ..).copyRegs ..).rset ..).fusedSolo

/-- What a reset leaves when it keeps the memories is as tidy as what they held. -/
theorem Tidy.of_reset {t : State} (h : Tidy q c s) (hpend : t.pending = s.pending) (hregs : t.regs = [])
    (hmem : t.mem = s.mem)
    (hcist : t.cist = s.cist ∨ t.cist = []) (hhost : t.host = HostSt.reset) (hdpll : t.dpll = DpllSt.reset)
    (hwclk : t.clk.wclk = ClockSt.reset.wclk) (hpress : t.press = State.reset.press) : Tidy q c t := by
  refine ⟨hpend.trans h.1, fun hc => ?_⟩
  obtain ⟨_, hwf, hcwf, _⟩ := h.2 hc
  obtain ⟨_, _, _, _, _, _, hp⟩ := canonical_reset
  unfold Canonical
  rw [hregs, hmem, hhost, hdpll, hwclk, hpress]
  refine ⟨rfl, hwf, ?_, rfl, rfl, rfl, hp⟩
  rcases hcist with hcist | hcist <;> rw [hcist]
  · exact hcwf
  · rfl

theorem Tidy.warmState (h : Tidy q c s) (hold : ResetHold) : Tidy q c (warmState hold s) := by
  unfold Machine.warmState
  extract_lets u kept _ _ _ _ _ _ _ _ _ _ t
  have hu : Tidy q c u := h
  have ht : Tidy q c t := by
    refine Tidy.copyRegs (Tidy.of_reset hu ?_ ?_ ?_ ?_ ?_ ?_ ?_ ?_) ..
    case refine_4 => by_cases hk : kept = true <;> simp [hk]
    all_goals rfl
  exact (((ht.rput ..).rput ..).rput ..).warmRestore

theorem Tidy.galleyEmpty (h : Tidy q c s) : Tidy q c (galleyEmpty s) := by
  unfold Machine.galleyEmpty
  extract_lets t
  have ht : Tidy q c t := h
  exact ht.copyRegs ..

theorem Tidy.warmReset (h : Tidy q c s) (hold : ResetHold) (bit_ : Nat) : Tidy q c (warmReset hold bit_ s) :=
  .ite ((Tidy.ite (h.warmState ..).galleyEmpty (h.warmState ..)).rset ..).fusedSolo (h.coldReset ..)

/-! ### Ptp -/

theorem Tidy.setCtr (h : Tidy q c s) (one : Bool) (c' : TimeCtr) : Tidy q c (setCtr one c' s) :=
  h.setPtp ..

theorem Tidy.timeCommand (h : Tidy q c s) (op : Nat) (sel : Bool) : Tidy q c (timeCommand op sel s) :=
  .ite h (h.setPtp ..)

theorem Tidy.ptpStepPass (h : Tidy q c s) (old new : Nat) : Tidy q c (ptpStepPass old new s) :=
  .ite (((h.mapFlight ..).setComp ..).iset ..) h

theorem Tidy.stepped (h : Tidy q c s) (one : Bool) (old : TimeCtr) : Tidy q c (stepped one old s) :=
  .ite (((h.cnt ..).iset ..).ptpMoved ..) ((((h.cnt ..).iset ..).ptpMoved ..).ptpStepPass ..)

theorem Tidy.timecmdAct (h : Tidy q c s) : Tidy q c (timecmdAct s) := by
  unfold Machine.timecmdAct
  dsimp only
  split
  · exact h
  · split
    · exact .ite ((h.setPtp ..).errcap ..) (((h.setPtp ..).setCtr ..).stepped ..)
    · exact .ite ((h.setPtp ..).setCtr ..) (((h.setPtp ..).setCtr ..).stepped ..)
    · exact .ite (((h.setPtp ..).setCtr ..).iset ..) ((h.setPtp ..).setCtr ..)
    · exact h.setPtp ..

theorem Tidy.slewDone (h : Tidy q c s) (one : Bool) : Tidy q c (slewDone one s) :=
  .ite ((h.setCtr ..).iset ..) h

theorem Tidy.timeNsLatch (h : Tidy q c s) (one : Bool) : Tidy q c (timeNsLatch one s) :=
  h.setLatches ..

theorem Tidy.ptpRx (h : Tidy q c s) (m : PtpMsg) : Tidy q c (ptpRx m s) :=
  .ite (h.advance ..)
    (.ite (((h.advance ..).cnt ..).iset ..) (((((h.advance ..).stWords ..).stWords ..).rput ..).iset ..))

theorem Tidy.ptpSlotSent (h : Tidy q c s) (ok : Bool) : Tidy q c (ptpSlotSent ok s) :=
  .ite h (((Tidy.ite (((h.stWord ..).cnt ..).iset ..)
    ((Tidy.ite ((h.sendPkt ..).stWords ..) (h.sendPkt ..)).stWord ..)).rput ..).iset ..)

theorem Tidy.ptpPulse (h : Tidy q c s) (one : Bool) (t : Nat) : Tidy q c (ptpPulse one t s) :=
  .ite ((h.advance ..).setPtp ..) (h.advance ..)

theorem Tidy.ptpStop (h : Tidy q c s) : Tidy q c (ptpStop s) :=
  (h.setPtp ..).rput ..

theorem Tidy.ptpStart (h : Tidy q c s) : Tidy q c (ptpStart s) :=
  h.setPtp ..

/-! ### Clocks -/

theorem Tidy.calStale (h : Tidy q c s) : Tidy q c (calStale s) :=
  .ite (h.setClkKeep _) ((h.setClkKeep _).iset ..)

theorem Tidy.bandSearch (h : Tidy q c s) (fam : Bool) : Tidy q c (bandSearch fam s) :=
  h.setClkKeep _

theorem Tidy.startRamp (h : Tidy q c s) (c' : RateChange) : Tidy q c (startRamp c' s) :=
  .ite (h.setClkKeep _) (h.setClkKeep _)

theorem Tidy.rateLand (h : Tidy q c s) (ticket : Option Word) (w : Word) : Tidy q c (rateLand ticket w s).1 := by
  unfold Machine.rateLand
  split
  · exact h
  · refine .ite_fst (h.setClkKeep _) ?_
    split
    · exact h.setClkKeep _
    · exact .ite_fst h (h.setClkKeep _).syncRestart

theorem Tidy.rateHold (h : Tidy q c s) : Tidy q c (rateHold s) := by
  unfold Machine.rateHold
  split
  · exact h
  · exact .ite h (.ite ((h.setTb _).setClkKeep _).dpllFree ((h.setTb _).startRamp ..).dpllFree)

theorem Tidy.rampHandover (h : Tidy q c s) : Tidy q c (rampHandover s) := by
  unfold Machine.rampHandover
  dsimp only
  split
  · exact .ite (h.setClkKeep _) h
  · exact h

theorem Tidy.rampEnd (h : Tidy q c s) : Tidy q c (rampEnd s) := by
  unfold Machine.rampEnd
  dsimp only
  split
  · exact .ite ((h.setClkKeep _).iset ..) h
  · exact h

theorem Tidy.portsRequalify (h : Tidy q c s) : Tidy q c (portsRequalify s) :=
  h.foldl (fun _ _ h0 => .ite ((h0.iset ..).enterMismatch ..) h0)

theorem Tidy.rateResume (h : Tidy q c s) : Tidy q c (rateResume s) := by
  unfold Machine.rateResume
  split
  · exact .ite (Tidy.portsRequalify (h.setClkKeep _)) h
  · exact h

theorem Tidy.nextRate (h : Tidy q c s) : Tidy q c (nextRate s) := by
  unfold Machine.nextRate
  split
  · exact h
  · extract_lets _ s1 _ s2 r
    have hs1 : Tidy q c s1 := h.setClkKeep _
    have hs2 : Tidy q c s2 := by
      unfold s2
      split
      · exact hs1.setComp _
      · exact hs1
    have hr : Tidy q c r.1 := hs2.rateLand ..
    refine .ite hr ?_
    split
    · exact hr.finishRunning ..
    · exact hr

theorem Tidy.nextRates (h : Tidy q c s) : Tidy q c (nextRates s) :=
  h.foldl (fun _ _ h0 => .ite h0.nextRate h0)

theorem Tidy.rateDone (h : Tidy q c s) : Tidy q c (rateDone s) := by
  unfold Machine.rateDone
  split
  · refine .ite ?_ h
    have hs1 : Tidy q c (Machine.iset pgPLLM 4 (Machine.setClk { s.clk with change := none, fadeInAt := none } s)) :=
      Tidy.iset (h.setClkKeep _) ..
    refine Tidy.nextRates ?_
    split
    · exact hs1.finishRunning ..
    · exact hs1
  · exact h

theorem Tidy.searchDone (h : Tidy q c s) (band : BitVec 5) (fine : BitVec 9) (found : Bool) :
    Tidy q c (searchDone band fine found s) := by
  unfold Machine.searchDone
  split
  · exact h
  · extract_lets _ fill _ s1
    have hfill : Tidy q c fill := by
      unfold fill
      split
      · exact (h.rset ..).setClkKeep _
      · exact h
    have hs1 : Tidy q c s1 := hfill.setClkKeep _
    split
    · exact hs1.setClkKeep _
    · split
      · exact .ite hs1 (.ite (hs1.startRamp _) (hs1.setClkKeep _))
      · exact hs1

theorem Tidy.lolCount (h : Tidy q c s) (lo : Nat) : Tidy q c (lolCount lo s) :=
  h.rput ..

theorem Tidy.ownFault (h : Tidy q c s) (cause : Nat) : Tidy q c (ownFault cause s) :=
  .ite (h.enterTwinFault ..) h

theorem Tidy.lossA (h : Tidy q c s) : Tidy q c (lossA s) := by
  unfold Machine.lossA
  extract_lets _ s1
  have hs1 : Tidy q c s1 := Tidy.lolCount (h.setClkKeep _) _
  exact (((hs1.iset ..).iset ..).alarm ..).ptpStop.ownFault ..

theorem Tidy.lossD (h : Tidy q c s) : Tidy q c (lossD s) := by
  unfold Machine.lossD
  extract_lets _ s1
  have hs1 : Tidy q c s1 := (((h.setClkKeep _).lolCount ..).iset ..).alarm ..
  exact .ite hs1 hs1.enterLost

theorem Tidy.endChange (h : Tidy q c s) : Tidy q c (endChange s) := by
  unfold Machine.endChange
  split
  · exact h
  · have hs1 (k : RateChange) : Tidy q c
      (Machine.setClk { s.clk with change := none, fam := k.fam, mult := k.mult } s) :=
      h.setClkKeep _
    refine Tidy.nextRates ?_
    split
    · exact (hs1 _).finishRunning ..
    · exact hs1 _

theorem Tidy.lossM (h : Tidy q c s) : Tidy q c (lossM s) :=
  (((((h.setClkKeep _).cnt ..).iset ..).alarm ..).setTb ..).endChange.standbyFault ..

theorem Tidy.lossS (h : Tidy q c s) : Tidy q c (lossS s) := by
  unfold Machine.lossS
  extract_lets _ s1 s2 _ s3
  have hs1 : Tidy q c s1 := ((h.setClkKeep _).lolCount ..).iset ..
  have hs2 : Tidy q c s2 := (hs1.linkDown ..).linkDown ..
  exact (Tidy.ite hs2 (hs2.setTwinSt ..)).traliatLinkDown

theorem Tidy.pllLoss (h : Tidy q c s) (l : PllLoop) : Tidy q c (pllLoss l s) := by
  unfold Machine.pllLoss
  split
  · exact h
  · split
    · exact h.lossA
    · exact h.lossD
    · exact h.lossM
    · exact h.lossS

theorem Tidy.declareLock (h : Tidy q c s) (l : PllLoop) : Tidy q c (declareLock l s) := by
  cases l with
  | a =>
    have hs1 := (h.setClk { s.clk with lockA := true, fabFb := false, coreGated := false } h.wclk).ptpStart.iset
      pgCLKGEN 0
    exact .ite hs1 (.ite ((hs1.iset ..).warmReset ..) (hs1.iset ..))
  | d =>
    have hs1 := (h.setClk { s.clk with lockD := true } h.wclk).iset pgCLKGEN 0
    exact .ite hs1.startTraining hs1
  | s => exact (h.setClkKeep _).iset ..
  | m => exact (h.setClkKeep _).iset ..

theorem Tidy.pllLock (h : Tidy q c s) (l : PllLoop) (count : Nat) : Tidy q c (pllLock l count s) := by
  unfold Machine.pllLock
  dsimp only
  split
  · exact h
  · split
    · exact (h.rset ..).pllLoss ..
    · split
      · exact (h.rset ..).declareLock ..
      · split
        · exact .ite ((h.rset ..).setClkKeep _) (h.rset ..)
        · exact h.rset ..

theorem Tidy.xoLoss (h : Tidy q c s) : Tidy q c (xoLoss s) :=
  .ite h ((h.powerReset ..).alarm ..)

theorem Tidy.xoRestore (h : Tidy q c s) : Tidy q c (xoRestore s) :=
  .ite (h.setBoot ..) h

theorem Tidy.pstep (h : Tidy q c s) (n : Nat) : Tidy q c (pstep n s) :=
  h.setClkKeep _

theorem Tidy.pstepDone (h : Tidy q c s) : Tidy q c (pstepDone s) :=
  .ite h (((h.setClkKeep _).rset ..).iset ..)

theorem Tidy.wclkWritten (h : Tidy q c s) (n : Nat) (old new : Word) : Tidy q c (wclkWritten n old new s) :=
  .ite (h.setClk _ fun hc => (List.length_set ..).trans (h.wclk hc))
    (.ite (h.setClk _ fun hc => (List.length_set ..).trans (h.wclk hc)) h)

theorem Tidy.rateHoldRenewal (h : Tidy q c s) (t : Nat) : Tidy q c (rateHoldRenewal t s) :=
  .ite (h.advance ..).renewLease (h.advance ..)

/-! ### MonGpio -/

theorem Tidy.setClk1 (h : Tidy q c s) (x : ClockSt) (hx : x.wclk = s.clk.wclk := by rfl) :
    Tidy q c (setClk1 x s) :=
  h.setClkKeep x hx

theorem Tidy.ppsEnable (h : Tidy q c s) (en : Bool) : Tidy q c (ppsEnable en s) :=
  h.setClk1 _

theorem Tidy.bmarkEnable (h : Tidy q c s) (en : Bool) : Tidy q c (bmarkEnable en s) :=
  h.setClk1 _

theorem Tidy.ppsEdge (h : Tidy q c s) : Tidy q c (ppsEdge s) := by
  unfold Machine.ppsEdge
  dsimp only
  split
  · exact h
  · exact .ite ((h.setClk1 _).iset ..) h

theorem Tidy.bmarkEdge (h : Tidy q c s) : Tidy q c (bmarkEdge s) := by
  unfold Machine.bmarkEdge
  dsimp only
  split
  · exact h
  · exact .ite ((h.setClk1 _).iset ..) h

theorem Tidy.tempReading (h : Tidy q c s) (s0 s1 s2 s3 : BitVec 16) : Tidy q c (tempReading s0 s1 s2 s3 s) :=
  (Tidy.ite ((((((((h.rset ..).rset ..).rset ..).rput ..).setClk1 _).setClk1 _).iset ..).alarm ..)
    (.ite (((((((h.rset ..).rset ..).rset ..).rput ..).setClk1 _).setClk1 _).iset ..)
      (((((h.rset ..).rset ..).rset ..).rput ..).setClk1 _))).calStale

theorem Tidy.tempRestartSet (h : Tidy q c s) : Tidy q c (tempRestartSet s) :=
  (h.rput ..).setClk1 _

theorem Tidy.supplyReading (h : Tidy q c s) (n : Fin 9) (mv : BitVec 16) : Tidy q c (supplyReading n mv s) :=
  .ite ((h.rset ..).iset ..) (h.rset ..)

/-! ### PressWord -/

theorem Tidy.setPMode (h : Tidy q c s) (p : Fin 16) (m : PMode) : Tidy q c (setPMode p m s) := by
  unfold Machine.setPMode
  refine .ite h (Tidy.iset (h.setPress p _ fun hc => ?_) ..)
  have hp := h.press p hc
  show InFlight (if m = .run ∨ m = .stopping then s.press[p] else drainPend s.press[p])
  split
  · exact hp
  · exact hp.drainPend

theorem Tidy.enterPressFault (h : Tidy q c s) (p : Fin 16) (cause addr : Nat) :
    Tidy q c (enterPressFault p cause addr s) :=
  ((((h.setPressKeep p _).setPMode ..).rset ..).iset ..).alarm ..

theorem Tidy.raiseFault (h : Tidy q c s) (p : Fin 16) (cause addr : Nat) (pc : BitVec 13) :
    Tidy q c (raiseFault p cause addr pc s) :=
  .ite h ((h.setPressKeep p _).rset ..)

theorem Tidy.storeLoc (h : Tidy q c s) (p : Fin 16) (x : PLoc × Word) : Tidy q c (storeLoc p x s) := by
  unfold Machine.storeLoc
  split
  · exact h.stWord ..
  · exact h.setPressKeep p _
  · exact (h.rset ..).iset ..
  · exact h

/-- Every result of the effects arrives within the six stages of a word issued in cycle `t` (R204). -/
def Timely (t : Nat) (es : List MoveEff) : Prop := ∀ e ∈ es, ∀ w ∈ e.ptr ++ e.wr, w.at_ ≤ t + 6

theorem Tidy.issueOnce (h : Tidy q c s) (p : Fin 16) (arith : BitVec 22) (effs : PressSt → Nat → List MoveEff)
    (he : ∀ x t, Timely t (effs x t)) : Tidy q c (issueOnce p arith effs s) := by
  unfold Machine.issueOnce
  extract_lets x t es sv ws _ s1 s2 s3
  have hws : ∀ w ∈ ws, w.at_ ≤ t + 6 := by
    intro w hw
    simp only [ws, List.mem_append, List.mem_flatMap] at hw
    rcases hw with ((⟨e, hes, hw⟩ | ⟨e, hes, hw⟩) | hw) | hw
    · exact he _ _ e hes w (List.mem_append_left _ hw)
    · exact he _ _ e hes w (List.mem_append_right _ hw)
    · exact (at_of_mem_arithWrites hw).trans (Nat.le_succ _)
    · simp only [sv] at hw
      split at hw
      · rw [List.mem_singleton.1 hw]
        exact Nat.le_succ _
      · exact absurd hw List.not_mem_nil
  have hs1 : Tidy q c s1 := h.setPress p _ fun hc => ((h.press p hc).retire _).issued hws
  have hs2 : Tidy q c s2 := hs1.foldl fun _ _ hu => hu.storeLoc ..
  have hs3 : Tidy q c s3 := hs2.foldl fun _ _ hu => hu.raiseFault ..
  exact hs3.foldl fun _ _ hu => .ite ((hu.eccRead ..).enterPressFault ..) (hu.eccRead ..)

theorem Tidy.issueTimes (h : Tidy q c s) (p : Fin 16) (arith : BitVec 22)
    (effs : State → PressSt → Nat → List MoveEff)
    (n : Nat) (he : ∀ u x t, Timely t (effs u x t)) : Tidy q c (issueTimes p arith effs n s) := by
  induction n generalizing s with
  | zero => exact h
  | succ n ih =>
    have hs1 := h.issueOnce p arith (effs s) (he s)
    exact .ite hs1 (ih hs1)

theorem Tidy.acceptEntry (h : Tidy q c s) (p : Fin 16) (kind : PKind) : Tidy q c (acceptEntry p kind s) := by
  unfold Machine.acceptEntry
  extract_lets u4 p0 x at_ double s1 v p2 _ p3
  have hs1 : Tidy q c s1 := .ite (h.iset ..) h
  have hx (hc : c) : InFlight x := (h.press p hc).drainPend
  have hp3 (hc : c) : InFlight p3 := by
    unfold p3
    split <;> exact (hx hc).later 7
  exact .ite ((hs1.setPress p _ hx).enterPressFault ..)
    (.ite ((hs1.setPress p _ hx).enterPressFault ..) (hs1.setPress p _ hp3))

theorem Tidy.settleDbg (h : Tidy q c s) (p : Fin 16) : Tidy q c (settleDbg p s) :=
  .ite ((h.setPressKeep p _).setPMode ..) h

theorem Tidy.illegalWord (h : Tidy q c s) (p : Fin 16) : Tidy q c (illegalWord p s) :=
  (h.setPress p _ fun hc => ((h.press p hc).fetchStep.later 1).advancePc).raiseFault ..

theorem Tidy.issueData (h : Tidy q c s) (p : Fin 16) (arith : BitVec 22) (effs : State → PressSt → Nat → List MoveEff)
    (he : ∀ u x t, Timely t (effs u x t)) : Tidy q c (issueData p arith effs s) := by
  unfold Machine.issueData
  extract_lets x s1
  have hs1 : Tidy q c s1 := (h.setPress p _ fun hc => (h.press p hc).fetchStep).issueTimes _ _ _ _ he
  exact .ite hs1 (hs1.setPress p _ fun hc => (hs1.press p hc).advancePc)

theorem Tidy.enterWait (h : Tidy q c s) (p : Fin 16) : Tidy q c (enterWait p s) :=
  ((h.setPressKeep p _).rset ..).peak ..

theorem Tidy.issueCtl_plain' (h : Tidy q c s) (p : Fin 16) (n : Nat) : Tidy q c (issueCtl.plain' p s n) :=
  h.setPress p _ fun hc => ((h.press p hc).fetchStep.later 1).advancePc

theorem Tidy.issueCtl (h : Tidy q c s) (p : Fin 16) (x : Ctl) : Tidy q c (issueCtl p x s) := by
  unfold Machine.issueCtl
  extract_lets y t taken dAg y1 plain go
  have hy (hc : c) : InFlight y := (h.press p hc).fetchStep
  have hy1 (hc : c) : InFlight y1 := (hy hc).later 1
  have hplain (z : PressSt) (hz : c → InFlight z) : Tidy q c (plain z) := h.setPress p _ fun hc => (hz hc).advancePc
  have hgo (k : Nat) (a : BitVec 13) : Tidy q c (go k a) := h.setPress p _ hy1
  have hloop (k : BitVec 16) (e : BitVec 13) (hc : c) : InFlight { startLoop k e y with cyc := t + 1 } :=
    ((hy hc).startLoop k e).later 1
  cases x with
  | bra k a => exact hgo ..
  | jmpr k i => exact hgo ..
  | call k a => exact .ite (.ite ((h.setPress p _ hy1).enterPressFault ..) (h.setPress p _ hy1)) (hgo ..)
  | rts k =>
    dsimp only
    split
    · exact h
    · exact .ite (h.setPress p _ hy1) (hgo ..)
  | rti =>
    dsimp only
    split
    · exact h
    · exact .ite (h.freeWord.setPress p _ hy1) (h.setPress p _ hy1)
  | rep n => exact h.issueCtl_plain' ..
  | repr i => exact h.issueCtl_plain' ..
  | loop k e => exact hplain _ (hloop k e)
  | loopr i e => exact hplain _ (hloop _ e)
  | wait => exact (hplain _ hy1).enterWait p
  | trap => exact Tidy.acceptEntry (hplain { y1 with faultPc := y.pc } hy1) p .trap
  | movs into r i =>
    refine hplain _ fun hc => List.foldlRecOn (motive := InFlight) _ _ (hy hc) fun z hz _ _ => ?_
    refine hz.issued fun w hw => ?_
    rw [List.mem_singleton.1 hw]
    exact (at_movsWrite ..).trans (Nat.le_succ _)

theorem Tidy.issueControl (h : Tidy q c s) (p : Fin 16) (x : Ctl) : Tidy q c (issueControl p x s) :=
  .ite ((h.setPressKeep p _).raiseFault ..) (.ite (h.issueCtl ..) (h.illegalWord ..))

theorem timely_accessEff (s : State) (p : Fin 16) (x : PressSt) (t : Nat) (y store pair : Bool) (reg : BitVec 6)
    (a : Nat) :
    Timely t [accessEff s p x t y store pair reg a] := by
  have hptr : (accessEff s p x t y store pair reg a).ptr = [] := by
    unfold accessEff
    dsimp only
    split
    · rfl
    · split <;> rfl
  intro e he w hw
  rw [List.mem_singleton.1 he, hptr, List.nil_append] at hw
  exact (at_of_mem_accessEff_wr s p x t y hw).trans_le (Nat.add_le_add_left (by decide) t)

theorem timely_moveEff (s : State) (p : Fin 16) (x : PressSt) (t : Nat) (y : Bool) (f : BitVec 20) :
    Timely t [moveEff s p x t y f] := by
  have hptr : ∀ w ∈ (moveEff s p x t y f).ptr, w.at_ = t + 2 := by
    unfold moveEff
    dsimp only
    split
    · exact fun w hw => absurd hw List.not_mem_nil
    · split
      · exact fun w hw => absurd hw List.not_mem_nil
      · dsimp only
        split
        · exact fun w hw => (List.mem_singleton.1 hw) ▸ rfl
        · exact fun w hw => absurd hw List.not_mem_nil
  intro e he w hw
  rw [List.mem_singleton.1 he] at hw
  rcases List.mem_append.1 hw with hw | hw
  · exact (hptr w hw).trans_le (Nat.add_le_add_left (by decide) t)
  · exact (at_of_mem_moveEff_wr s p x t y f hw).trans_le (Nat.add_le_add_left (by decide) t)

theorem timely_longEff (s : State) (p : Fin 16) (x : PressSt) (t : Nat) (f : BitVec 40) :
    Timely t [longEff s p x t f] := by
  unfold longEff
  dsimp only
  split
  · intro e he w hw
    rw [List.mem_singleton.1 he] at hw
    rw [List.mem_singleton.1 (show w ∈ [res (t + 4) _] from hw)]
    exact Nat.add_le_add_left (by decide : 4 ≤ 6) t
  · exact timely_accessEff s p x t _ _ _ _ _

theorem timely_dataEffs (p : Fin 16) (long : Bool) (mv : BitVec 40) (s : State) (x : PressSt) (t : Nat) :
    Timely t (dataEffs p long mv s x t) := by
  unfold dataEffs
  split
  · exact timely_longEff s p x t mv
  · intro e he
    rcases List.mem_cons.1 he with rfl | he
    · exact timely_moveEff _ _ _ _ _ _ _ (List.mem_singleton.2 rfl)
    · exact timely_moveEff _ _ _ _ _ _ _ he

theorem Tidy.issueFields (h : Tidy q c s) (p : Fin 16) (long : Bool) (arith : BitVec 22) (mv : BitVec 40) :
    Tidy q c (issueFields p long arith mv s) :=
  .ite (h.issueData _ _ _ (timely_dataEffs p long mv)) (h.illegalWord ..)

theorem Tidy.issueWord (h : Tidy q c s) (pi : Fin 16) (w : BitVec 64) : Tidy q c (issueWord pi w s) := by
  unfold Machine.issueWord
  split
  · exact h.issueFields ..
  · exact h.issueFields ..
  · split
    · exact h.issueControl ..
    · exact h.illegalWord ..
  · exact h.illegalWord ..

theorem Tidy.fetchEcc (h : Tidy q c s) (pi : Fin 16) : Tidy q c (fetchEcc pi s).1 :=
  .ite_fst h ((h.eccRead ..).eccRead ..)

theorem Tidy.pressIssue (h : Tidy q c s) (p : Fin 16) {f : State → State} (hf : ∀ u, Tidy q c u → Tidy q c (f u)) :
    Tidy q c (pressIssue p f s) :=
  .ite (.ite ((h.fetchEcc ..).enterPressFault ..) ((hf _ (h.fetchEcc ..)).settleDbg ..))
    (h.awake fun _ hu => hu.settleDbg ..)

/-! ### PressOps -/

theorem Tidy.issueArith (h : Tidy q c s) (p : Fin 16) (op : BitVec 6) (x : ArithArgs) :
    Tidy q c (issueArith p op x s) :=
  h.pressIssue p fun _ hu => hu.issueFields ..

theorem Tidy.issueMove (h : Tidy q c s) (p : Fin 16) (y : Bool) (f other : BitVec 20) :
    Tidy q c (issueMove p y f other s) :=
  h.pressIssue p fun _ hu => hu.issueFields ..

theorem Tidy.issueCtlWord (h : Tidy q c s) (p : Fin 16) (x : Ctl) : Tidy q c (issueCtlWord p x s) :=
  h.pressIssue p fun _ hu => hu.issueControl ..

theorem Tidy.loopEndFetch (h : Tidy q c s) (p : Fin 16) (lvl : Fin 2) : Tidy q c (loopEndFetch p lvl s) :=
  .ite (h.setPress p _ fun hc => (h.press p hc).fetchStep) h

theorem Tidy.tickEntry (h : Tidy q c s) (pi : Fin 16) : Tidy q c (tickEntry pi s) :=
  .ite (h.acceptEntry ..) (h.settleDbg ..)

theorem Tidy.faultEntry (h : Tidy q c s) (pi : Fin 16) : Tidy q c (faultEntry pi s) :=
  .ite (h.acceptEntry ..) (h.settleDbg ..)

theorem Tidy.brkMatch (h : Tidy q c s) (p : Fin 16) : Tidy q c (brkMatch p s) :=
  .ite ((h.setPressKeep p _).setPMode ..) h

theorem Tidy.dbgStepOne (h : Tidy q c s) (p : Fin 16) : Tidy q c (dbgStepOne p s) := by
  unfold Machine.dbgStepOne
  extract_lets x a r s1
  have hr : Tidy q c r.1 := h.fetchEcc ..
  have hs1 : Tidy q c s1 := hr.issueWord ..
  exact .ite (.ite (hr.enterPressFault ..) (hs1.setPress p _ fun hc => (hs1.press p hc).drainPend)) h

/-! ### PressBlock -/

theorem Tidy.writeRings (h : Tidy q c s) (f : Nat) (ins : List (Nat × Int)) : Tidy q c (writeRings f ins s) :=
  h.foldl (fun _ _ h0 => .ite h0 (h0.stWords ..))

theorem Tidy.pressOut (h : Tidy q c s) (pi : Fin 16) (i f : Nat) : Tidy q c (pressOut pi i f s).2 :=
  .ite_snd h (h.dmaRead ..)

theorem Tidy.insertPress (h : Tidy q c s) (f : Nat) (ins : List (Nat × Int)) : Tidy q c (insertPress f ins s).2 := by
  unfold Machine.insertPress
  refine List.foldlRecOn (motive := fun a : (List (Nat × Int) × State) × List Nat => Tidy q c a.1.2) _ _ h
    fun a ha p _ => ?_
  dsimp only
  split
  · exact ha
  · exact .ite_snd ha (ha.foldl_snd fun _ _ hu => .ite_snd hu (hu.pressOut ..))

theorem Tidy.putMsg (h : Tidy q c s) (pi : Fin 16) (c' : PCfg) (start : Nat) (ws : List Word) :
    Tidy q c (putMsg pi c' start ws s) :=
  h.foldl (fun _ _ h0 => .ite (h0.stWord ..) h0)

theorem Tidy.pressPublish (h : Tidy q c s) (p : Fin 16) (b words n : Nat) (l : List PMsg) :
    Tidy q c (pressPublish p b words n l s).1 := by
  induction l generalizing words n s with
  | nil => exact h
  | cons m t ih =>
    unfold Machine.pressPublish
    extract_lets x ws used s1 _ s2
    have hs1 : Tidy q c s1 := h.putMsg ..
    have hs2 : Tidy q c s2 := hs1.setPressKeep p _
    refine .ite_fst h (.ite_fst (ih ?_ ..) h)
    split
    · exact hs2
    · exact .ite (Tidy.finishAt (hs2.setComp _) ..) (Tidy.finish (hs2.setComp _) ..)

theorem Tidy.pressMsg (h : Tidy q c s) (t : Word) : Tidy q c (pressMsg t s) := by
  unfold Machine.pressMsg
  dsimp only
  split
  · exact h
  · exact (h.popLanding.keepRunning ..).setPressKeep _ _

theorem Tidy.copyWords (h : Tidy q c s) (l : List (Nat × Nat)) : Tidy q c (copyWords l s).1 := by
  induction l generalizing s with
  | nil => exact h
  | cons x t ih => exact .ite_fst (h.eccRead ..) (ih ((h.eccRead ..).stWord ..))

theorem Tidy.romRun (h : Tidy q c s) (p : Fin 16) : Tidy q c (romRun p s) := by
  unfold Machine.romRun
  extract_lets x a load y r
  have hr : Tidy q c r.1 := ((h.setFreeCtr _).setPress p _ fun _ => .of_empty rfl).copyWords ..
  exact .ite h (.ite (hr.enterPressFault ..) ((hr.rset ..).peak ..))

theorem Tidy.tickPress (h : Tidy q c s) (k : Nat) (starved : Bool) (p : Fin 16) :
    Tidy q c (tickPress k starved p s) := by
  unfold Machine.tickPress
  extract_lets cf b _ s1 r held s2 x live over_ ring p1 s3
  have hs1 : Tidy q c s1 := h.setPressKeep p _
  have hr : Tidy q c r.1 := .ite_fst hs1 (hs1.pressPublish ..)
  have hs2 : Tidy q c s2 := .ite (hr.iset ..) hr
  have hs3 : Tidy q c s3 := hs2.setPressKeep p _
  exact .ite ((hs3.cnt ..).iset ..) hs3

theorem Tidy.blockTick (h : Tidy q c s) (starved : List (Fin 16)) : Tidy q c (blockTick starved s) :=
  .ite ((h.blockLines ..).foldl (fun _ _ h1 => (h1.tickPress ..).romRun ..)) h

theorem Tidy.startPress (h : Tidy q c s) (p : Fin 16) : Tidy q c (startPress p s) :=
  (((h.setPress p _ fun _ => .of_empty rfl).setPMode ..).settleDbg ..).romRun ..

theorem Tidy.pressStart (h : Tidy q c s) (pi : Fin 16) : Tidy q c (pressStart pi s) := by
  unfold Machine.pressStart
  dsimp only
  split
  · exact h
  · split
    · exact h
    · split
      · exact (h.errcap ..).setPressKeep _ _
      · split
        · exact (h.errcap ..).setPressKeep _ _
        · exact h.startPress ..

theorem Tidy.pressStop (h : Tidy q c s) (p : Fin 16) : Tidy q c (pressStop p s) := by
  unfold Machine.pressStop
  dsimp only
  split
  · exact h
  · exact .ite ((h.setPressKeep p _).setPMode ..) h

theorem Tidy.pressSrst (h : Tidy q c s) (p : Fin 16) :
    Tidy q c (pressSrst p s) := h.setPress p _ fun _ => .of_empty rfl

theorem Tidy.pressHalt (h : Tidy q c s) (p : Fin 16) : Tidy q c (pressHalt p s) := by
  unfold Machine.pressHalt
  dsimp only
  split
  · exact h
  · exact .ite ((h.setPressKeep p _).setPMode ..) h

theorem Tidy.pressEn (h : Tidy q c s) (p : Fin 16) (old new : Bool) : Tidy q c (pressEn p old new s) := by
  unfold Machine.pressEn
  refine .ite (.ite h (h.setPressKeep p _)) ?_
  split
  · exact h.setPressKeep p _
  · exact (h.setPressKeep p _).setPMode ..
  · exact h.setPressKeep p _
  · exact .ite (h.setPressKeep p _) h

theorem Tidy.dbgResume (h : Tidy q c s) (p : Fin 16) : Tidy q c (dbgResume p s) :=
  .ite ((h.setPressKeep p _).setPMode ..) h

theorem Tidy.dbgHalt (h : Tidy q c s) (pi : Fin 16) (v : Bool) : Tidy q c (dbgHalt pi v s) :=
  .ite (h.settleDbg ..) (h.dbgResume ..)

theorem Tidy.dbgStep (h : Tidy q c s) (pi : Fin 16) : Tidy q c (dbgStep pi s) :=
  .ite (.ite (.ite ((h.dbgStepOne ..).iset ..) ((h.dbgStepOne ..).dbgResume ..)) (h.dbgStepOne ..)) h

theorem Tidy.pressMemWrite (h : Tidy q c s) (pi : Fin 16) (a : Nat) (be : BitVec 4) (v : Word) :
    Tidy q c (pressMemWrite pi a be v s).1 :=
  .ite_fst (h.errcap ..) (.ite_fst ((h.stWordBe ..).setPressKeep _ _) (h.stWordBe ..))

theorem Tidy.pressDmaStarve (h : Tidy q c s) (pi : Fin 16) : Tidy q c (pressDmaStarve pi s) :=
  (h.cnt ..).iset ..

end Sys2Proof.Machine
end

section
/-!
PROOFS. Registers that act, the start-up, the host bus and the landing of entries keep `Tidy`.
-/

namespace Sys2Proof.Machine

-- One lemma after the other: the threads of so many at once do not fit the memory limit.
set_option Elab.async false

variable {q : List Instr} {c : Prop} {s : State}

/-! ### View -/

theorem Tidy.freezePage (h : Tidy q c s) (p : Nat) (on : Bool) : Tidy q c (freezePage p on s) :=
  h.setFrozen ..

theorem Tidy.snapshot (h : Tidy q c s) (ws : List (Nat × Word)) : Tidy q c (snapshot ws s) :=
  (h.setHostKeep _).cnt ..

/-! ### RegApply -/

theorem Tidy.recordRefuse (h : Tidy q c s) (p : Nat) (r : RegRefuse) : Tidy q c (recordRefuse p r s) :=
  .ite (h.foldl (fun _ _ h1 => h1.iset ..)) ((h.foldl (fun _ _ h2 => h2.iset ..)).errcap ..)

theorem Tidy.finishAll (h : Tidy q c s) (p : Ev → Bool) : Tidy q c (finishAll p s) :=
  h.foldl (fun _ _ h0 => h0.finishRunning ..)

theorem Tidy.srstBlock (h : Tidy q c s) (p : Nat) : Tidy q c (srstBlock p s) := by
  have hchange : Tidy q c (Machine.endChange s) := h.endChange
  exact .ite (hchange.setClkKeep _) <| .ite (h.setDpll _ fun _ => rfl) <| .ite (h.setCist ..) <|
    .ite (h.setGrp ..) <| .ite (h.setPorts ..) <| .ite (h.rset ..) <| .ite (h.setNet ..) <| .ite (h.setNet ..) <|
    .ite (h.setNet ..) <| .ite (h.setNet ..) <| .ite ((h.setBasin ..).finishAll ..) <| .ite (h.setBasin ..) <|
    .ite (h.setSense ..) <| .ite (h.pressSrst ..) <|
    .ite (((h.setCist _).foldl fun _ _ hu => (hu.segFree ..).finishRunning ..).rset ..) <|
    .ite (h.foldl fun _ _ hu => hu.runEnd ..) h

theorem Tidy.srstWrite (h : Tidy q c s) (p : Nat) : Tidy q c (srstWrite p s) := by
  unfold Machine.srstWrite
  extract_lets isPress _ s1
  have hs1 : Tidy q c s1 := (((h.srstBlock ..).rset ..).rset ..).rset ..
  exact .ite (.ite (h.setPressKeep _ _) h) (hs1.setSrst _)

theorem Tidy.heldSrst (h : Tidy q c s) (p : Fin 16) : Tidy q c (heldSrst p s) :=
  .ite ((h.setPressKeep p _).srstWrite ..) h

theorem Tidy.pllmOff (h : Tidy q c s) : Tidy q c (pllmOff s) := ((h.setClkKeep _).setTb _).endChange

theorem Tidy.ctrlAct (h : Tidy q c s) (p : Nat) (old new v : Word) : Tidy q c (ctrlAct p old new v s) := by
  unfold Machine.ctrlAct
  extract_lets s0 _ _ _ s2 s3 s21 _ s1
  have hs0 : Tidy q c s0 := .ite h (h.freezePage ..)
  have hs2 : Tidy q c s2 := (Tidy.ite (hs0.pressEn ..) hs0).heldSrst ..
  have hs3 : Tidy q c s3 := .ite hs2 (hs2.dbgHalt ..)
  have hs21 : Tidy q c s21 := .ite (hs0.refFail ..) hs0
  have hs1 : Tidy q c s1 := .ite (.ite (hs3.dbgStep ..) hs3)
    (.ite (.ite (hs21.refFail ..) hs21)
      (.ite hs0 (.ite (.ite hs0 hs0.dpllFree)
        (.ite (.ite hs0 hs0.pllmOff)
          (.ite (.ite hs0.startTraining (hs0.setCist ..))
            (.ite (hs0.groupEn ..) (.ite (hs0.jetEnChange ..) (.ite (.ite hs0 (hs0.portOff ..)) hs0))))))))
  exact .ite (hs1.srstWrite ..) hs1

theorem Tidy.gateAct (h : Tidy q c s) (old new : Word) : Tidy q c (gateAct old new s) :=
  h.foldl (fun _ _ h0 => .ite (h0.groupEn ..) h0)

theorem Tidy.pllAct (h : Tidy q c s) (new : Word) : Tidy q c (pllAct new s) :=
  h.setClkKeep _

theorem Tidy.remapAct (h : Tidy q c s) (g : Fin 4) (a : Nat) (old new : Word) : Tidy q c (remapAct g a old new s) :=
  (Tidy.ite (h.foldl (fun _ _ h2 => (h2.eccRead ..).setFlips ..)) h).rset ..

theorem Tidy.armAct (h : Tidy q c s) : Tidy q c (armAct s) :=
  h.setFab ..

theorem Tidy.pageAct (h : Tidy q c s) (direct : Bool) (tk : Option Word) (lvl a : Nat) (old new v : Word) :
    Tidy q c (pageAct direct tk lvl a old new v s).1 := by
  unfold Machine.pageAct
  extract_lets p o k
  clear_value p o k
  refine .ite_fst (.ite (h.rangeApply ..) h) ?_
  refine .ite_fst (.ite (h.setHostKeep _) h) ?_
  refine .ite_fst (.ite (h.pllAct ..) (.ite (h.gateAct ..) h)) ?_
  refine .ite_fst (.ite_fst (h.rateLand ..) (.ite_fst (h.pstep ..) (.ite_fst (h.wclkWritten ..)
    (.ite_fst (h.bandSearch ..) h)))) ?_
  refine .ite_fst (.ite (h.alignStart ..) h) ?_
  refine .ite_fst
    (.ite h.wheelTaken (.ite (h.setTb _) (.ite (h.corrSubmit ..) (.ite (h.setTb _) (.ite (h.setTb _) h))))) ?_
  refine .ite_fst (.ite (h.prodWritten ..) (.ite (h.clientRstWrite ..) h)) ?_
  refine .ite_fst (.ite (h.twinCmd ..) h) ?_
  refine .ite_fst (.ite h.dlySel (.ite (h.dlyCommit ..) h)) ?_
  refine .ite_fst (.ite (.ite h.armAct h) ?_) ?_
  · split
    · exact .ite (h.remapAct ..) h
    · exact h
  refine .ite_fst (.ite_fst (h.portChange ..) (.ite_fst (h.portChange ..) (.ite_fst (h.portChange ..) h))) ?_
  refine .ite_fst (.ite (h.txCommit ..) h) ?_
  refine .ite_fst (.ite ((h.asrcChange ..).asrcFlowChange ..) h) ?_
  refine .ite_fst (.ite (h.timeCommand ..) h) ?_
  refine .ite_fst (.ite_fst (h.streamSel ..) (.ite_fst (h.streamCommit ..)
    (.ite_fst (((h.rset ..).fclkLock ..).rset ..) h))) ?_
  refine .ite_fst (.ite (h.peak ..) h) ?_
  refine .ite_fst (.ite (h.formeCrcStart ..) (.ite (h.peak ..) h)) ?_
  refine .ite_fst (.ite_fst (h.jetPathChange ..) (.ite_fst ((h.rset ..).pointChange ..) h)) ?_
  refine .ite_fst (.ite (h.ppsEnable ..) (.ite (h.bmarkEnable ..) h)) ?_
  refine .ite_fst (.ite (h.recFreeze ..) (.ite (h.peak ..) h)) ?_
  refine .ite_fst (.ite (h.rset ..) h) ?_
  refine .ite_fst (.ite h.tempRestartSet h) ?_
  exact .ite_fst (.ite (h.setBoot _) h) h

theorem Tidy.regAct (h : Tidy q c s) (direct : Bool) (tk : Option Word) (lvl a : Nat) (old new v : Word) :
    Tidy q c (regAct direct tk lvl a old new v s).1 := by
  unfold Machine.regAct
  extract_lets p o km s0 s1
  have hs1 : Tidy q c s1 := .ite ((h.rset ..).errcap ..) (h.rset ..)
  exact .ite_fst (h.rset ..) <| .ite_fst (.ite ((h.rset ..).rset ..) h) <|
    .ite_fst (hs1.ctrlAct ..) (hs1.pageAct ..)

theorem Tidy.regLand (h : Tidy q c s) (tk : Option Word) (a : Nat) (v : Word) : Tidy q c (regLand tk a v s).1 := by
  unfold Machine.regLand
  dsimp only
  split
  · exact h
  · split
    · exact h
    · split
      · exact h.recordRefuse ..
      · exact h.regAct ..

theorem Tidy.srstComplete (h : Tidy q c s) (p : Nat) : Tidy q c (srstComplete p s) :=
  h.setSrst ..

/-! ### Boot -/

theorem Tidy.endStep (h : Tidy q c s) (next : BootStep) : Tidy q c (endStep next s) :=
  (h.rset ..).setBoot ..

theorem Tidy.resetCommand (h : Tidy q c s) (v : Word) : Tidy q c (resetCommand v s) := by
  unfold Machine.resetCommand
  split
  · exact h.warmReset ..
  · exact h.coldReset ..
  · exact h

theorem Tidy.skipEntry (h : Tidy q c s) (a : Nat) : Tidy q c (skipEntry a s) :=
  (h.iset ..).errcap ..

theorem Tidy.applyRegInit (h : Tidy q c s) (a : Nat) (v : Word) : Tidy q c (applyRegInit a v s) := by
  unfold Machine.applyRegInit
  dsimp only
  split
  · exact .ite h (h.skipEntry ..)
  · exact .ite (h.skipEntry ..)
      (.ite (.ite ((h.rset ..).resetCommand ..) (h.skipEntry ..)) (.ite h (.ite (h.skipEntry ..) (h.regAct ..))))

theorem Tidy.applyPhase (h : Tidy q c s) (k : Nat) : Tidy q c (applyPhase k s) :=
  h.foldl (fun _ _ h0 => .ite (h0.applyRegInit ..) h0)

theorem Tidy.holdAt (h : Tidy q c s) (n : Fin 3) : Tidy q c (holdAt n s) :=
  (h.setBoot ..).iset ..

theorem Tidy.enter6 (h : Tidy q c s) : Tidy q c (enter6 s) :=
  (h.endStep ..).applyPhase ..

theorem Tidy.leave6 (h : Tidy q c s) : Tidy q c (leave6 s) :=
  .ite h (h.setCist ..)

theorem Tidy.enter7 (h : Tidy q c s) : Tidy q c (enter7 s) :=
  .ite (((h.leave6.endStep ..).applyPhase ..).setClkKeep _) ((h.leave6.endStep ..).applyPhase ..)

theorem Tidy.enter8 (h : Tidy q c s) : Tidy q c (enter8 s) :=
  .ite ((h.endStep ..).setTwinSt ..) ((((h.endStep ..).setTwinSt ..).setTwinSt ..).setTwin ..)

theorem Tidy.enter9 (h : Tidy q c s) : Tidy q c (enter9 s) :=
  .ite (((h.endStep ..).applyPhase ..).holdAt ..) ((h.endStep ..).applyPhase ..)

theorem Tidy.imageDone (h : Tidy q c s) : Tidy q c (imageDone s) :=
  .ite (h.applyPhase ..) (.ite ((h.applyPhase ..).holdAt ..) (h.applyPhase ..).enter6)

theorem Tidy.fallback (h : Tidy q c s) (cause : Nat) : Tidy q c (fallback cause s) :=
  ((h.setBoot ..).iset ..).imageDone

theorem Tidy.enter5 (h : Tidy q c s) : Tidy q c (enter5 s) := by
  unfold Machine.enter5
  dsimp only
  split
  · exact h.endStep ..
  · exact (h.endStep ..).rput ..
  · exact (h.endStep ..).fallback ..

theorem Tidy.bootNext (h : Tidy q c s) : Tidy q c (bootNext s) := by
  unfold Machine.bootNext
  split
  · exact h
  · split
    · exact .ite (h.endStep ..) h
    · exact .ite (h.endStep ..) h
    · exact .ite h.enter5 h
    · exact .ite h.enter7 h
    · exact .ite h.enter8 h
    · exact .ite h.enter9 h
    · exact h
    · exact h
    · exact h
    · exact h

theorem Tidy.bootAdvance (h : Tidy q c s) : Tidy q c (bootAdvance s) :=
  h.bootNext.bootNext.bootNext.bootNext.bootNext.bootNext.bootNext

theorem Tidy.supplyTrip (h : Tidy q c s) (which : Fin 10) : Tidy q c (supplyTrip which s) :=
  h.powerReset ..

theorem Tidy.porRelease (h : Tidy q c s) (straps : BitVec 5) (vio : BitVec 4) :
    Tidy q c (porRelease straps vio s) := by
  unfold Machine.porRelease
  dsimp only
  split
  · exact ((h.setBoot ..).rset ..).endStep ..
  · exact (h.setBoot ..).endStep ..
  · exact h

theorem Tidy.warmResetPin (h : Tidy q c s) : Tidy q c (warmResetPin s) :=
  .ite (h.warmReset ..) h

theorem Tidy.warmResetRelease (h : Tidy q c s) : Tidy q c (warmResetRelease s) :=
  .ite (h.setBoot ..).bootAdvance h

theorem Tidy.xoQualified (h : Tidy q c s) : Tidy q c (xoQualified s) :=
  .ite (h.endStep ..).bootAdvance h

theorem Tidy.bistDone (h : Tidy q c s) (r : BistIn) : Tidy q c (bistDone r s) :=
  .ite h (.ite ((((h.rset ..).rset ..).endStep ..).setBoot ..) (((h.rset ..).rset ..).setBoot ..).bootAdvance)

theorem Tidy.slotErr (h : Tidy q c s) (b : Bool) (code : Nat) : Tidy q c (slotErr b code s) :=
  .ite (h.rput ..) (h.rput ..)

theorem Tidy.slotFails (h : Tidy q c s) (b : Bool) (code : Nat) (bytes : List Byte) :
    Tidy q c (slotFails b code bytes s) := by
  unfold Machine.slotFails
  dsimp only
  split
  · exact .ite ((((h.setBoot ..).slotErr ..).rset ..).fallback ..) (((h.setBoot ..).slotErr ..).rset ..)
  · exact .ite (((h.setBoot ..).slotErr ..).fallback ..) ((h.setBoot ..).slotErr ..)

theorem Tidy.loadSection (h : Tidy q c s) (x : Section) : Tidy q c (loadSection s x) := by
  unfold Machine.loadSection
  dsimp only
  split
  · exact h.setBoot ..
  · exact .ite h (h.stWords ..)
  · exact .ite h (h.stWords ..)
  · exact .ite h (h.setBoot ..)
  · exact h.setBoot ..
  · exact h
  · exact h

theorem Tidy.loadProt (h : Tidy q c s) (x : Section) : Tidy q c (loadProt s x) := by
  unfold Machine.loadProt
  split
  · exact h.foldl (fun _ _ h0 => .ite (h0.applyRegInit ..) (h0.skipEntry ..))
  · exact h

theorem Tidy.loadImage (h : Tidy q c s) (i : SlotPass) : Tidy q c (loadImage i s) :=
  ((((h.setBoot ..).rset ..).foldl (fun _ _ h2 => h2.loadProt ..)).foldl (fun _ _ h1 => h1.loadSection ..)).imageDone

theorem Tidy.imageSlotPass (h : Tidy q c s) (i : SlotPass) : Tidy q c (imageSlotPass i s) :=
  .ite h (.ite ((h.foldl (fun _ _ h4 => h4.slotErr ..)).fallback ..).bootAdvance
    (.ite h (.ite (((h.rset ..).rset ..).slotFails ..).bootAdvance
      (.ite (((h.rset ..).rset ..).loadImage ..).bootAdvance ((((h.rset ..).rset ..).slotErr ..).setBoot ..)))))

theorem Tidy.bootContinue (h : Tidy q c s) : Tidy q c (bootContinue s) := by
  unfold Machine.bootContinue
  dsimp only
  split
  · exact (h.setBoot ..).enter6.bootAdvance
  · exact h.setBoot ..
  · exact h

theorem Tidy.submitPreload (h : Tidy q c s) (x : Nat × Entry) : Tidy q c (submitPreload s x) := by
  unfold Machine.submitPreload
  dsimp only
  split
  · exact (((Tidy.ite ((h.journal ..).sendCell ..) (h.journal ..)).handOver ..).cnt ..).rput ..
  · exact (h.cnt ..).rput ..

theorem Tidy.preloadRun (h : Tidy q c s) : Tidy q c (preloadRun s) :=
  .ite ((h.setBoot ..).foldl (fun _ _ h1 => h1.submitPreload ..)) h

theorem Tidy.startRun (h : Tidy q c s) : Tidy q c (startRun s) :=
  .ite h ((((h.endStep ..).setBoot ..).iset ..).iset ..).preloadRun

theorem Tidy.otpProgramDone (h : Tidy q c s) : Tidy q c (otpProgramDone s) := by
  unfold Machine.otpProgramDone
  dsimp only
  split
  · exact h.setBoot ..
  · exact h

/-! ### HostBus -/

theorem Tidy.endAccess (h : Tidy q c s) (status lvl : Nat) (write : Bool) (a : Nat) :
    Tidy q c (endAccess status lvl write a s) :=
  .ite (.ite h ((h.rset ..).rset ..)) ((((Tidy.ite h ((h.rset ..).rset ..)).cnt ..).iset ..).errcap ..)

theorem Tidy.matrixErr (h : Tidy q c s) (code istat m a : Nat) : Tidy q c (matrixErr code istat m a s) :=
  .ite (((h.iset ..).errcap ..).rset ..) ((h.iset ..).errcap ..)

theorem Tidy.gatedAccess (h : Tidy q c s) (status l a : Nat) (write : Bool) :
    Tidy q c (gatedAccess status l a write s) :=
  (Tidy.ite ((h.cnt ..).matrixErr ..) (.ite (h.protFault ..) h)).endAccess ..

theorem Tidy.landPage (h : Tidy q c s) (l a : Nat) (old new v : Word) : Tidy q c (landPage l a old new v s) :=
  .ite (h.rset ..)
    (.ite (.ite h.bootContinue h)
      (.ite (h.setLandNext ..)
        (.ite (.ite ((h.setLandNext ..).txCommit ..) (h.setLandNext ..))
          (.ite ((h.setLandNext ..).regAct ..) (h.regAct ..)))))

theorem Tidy.pageWrite (h : Tidy q c s) (l a : Nat) (v : Word) : Tidy q c (pageWrite l a v s).1 := by
  unfold Machine.pageWrite
  split
  · exact h
  · extract_lets p old new rwp act fault sts
    have hfault {u : State} (hu : Tidy q c u) : Tidy q c (fault u) := .ite (hu.protFault ..) hu
    split
    · exact h.recordRefuse ..
    · refine .ite_fst (h.errcap ..) (.ite_fst (hfault h) ?_)
      split
      · exact h.recordRefuse ..
      · exact hfault (h.landPage ..)

theorem Tidy.refuseAt (h : Tidy q c s) (p code a : Nat) : Tidy q c (refuseAt p code a s).1 :=
  h.errcap ..

theorem Tidy.memDone {r : State × Bool} (h : Tidy q c r.1) : Tidy q c (memDone r).1 := h

theorem Tidy.sharedWrite (h : Tidy q c s) (a : Nat) (be : BitVec 4) (v : Word) : Tidy q c (sharedWrite a be v s).1 :=
  .ite_fst (h.refuseAt ..) <| .ite_fst (h.refuseAt ..) <| .ite_fst (.ite_fst (h.refuseAt ..) (h.stWordBe ..)) <|
    .ite_fst (h.stWordBe ..) ((h.cnt ..).matrixErr ..)

theorem Tidy.coreGatedErr (h : Tidy q c s) (a : Nat) : Tidy q c (coreGatedErr a s).1 :=
  h.matrixErr ..

theorem Tidy.memWrite (h : Tidy q c s) (a : Nat) (be : BitVec 4) (v : Word) : Tidy q c (memWrite a be v s).1 := by
  unfold Machine.memWrite
  refine .ite_fst (h.apWrite ..) (.ite_fst (h.sharedWrite ..) ?_)
  split
  · exact .ite_fst (h.coreGatedErr ..) (.ite_fst (h.pressMemWrite ..) (h.pressMemWrite ..).memDone)
  · refine .ite_fst (h.coreGatedErr ..) ?_
    split
    · exact h.refuseAt ..
    · exact (h.formeStore ..).memDone

theorem Tidy.hostWrite (h : Tidy q c s) (x : HostAcc) : Tidy q c (hostWrite x s) :=
  .ite h (.ite (h.gatedAccess ..)
    (.ite (h.endAccess ..)
      (.ite (.ite (((h.pageWrite ..).endAccess ..).resetCommand ..).bootAdvance ((h.pageWrite ..).endAccess ..))
        (.ite h ((h.memWrite ..).endAccess ..)))))

theorem Tidy.pageRead (h : Tidy q c s) (a : Nat) : Tidy q c (pageRead a s).2 := by
  unfold Machine.pageRead
  dsimp only
  split
  · exact h.setLatches ..
  · exact .ite (h.timeNsLatch ..) (.ite (h.timeNsLatch ..) (.ite (h.setLatches ..) h))

theorem Tidy.memRead (h : Tidy q c s) (a : Nat) : Tidy q c (memRead a s).2.1 := by
  unfold Machine.memRead
  dsimp only
  split
  · split
    · exact h
    · split
      · exact (h.dramTouch ..).eccRead ..
      · exact (h.dramTouch ..).eccRead ..
  · split
    · exact h.coreGatedErr ..
    · split
      · exact h.eccRead ..
      · exact h.eccRead ..

theorem Tidy.hostRead (h : Tidy q c s) (x l : Nat) : Tidy q c (hostRead x l s).2 :=
  .ite_snd h (.ite_snd (h.gatedAccess ..)
    (.ite_snd (h.endAccess ..)
      (.ite_snd (h.endAccess ..)
        (.ite_snd ((h.pageRead ..).endAccess ..) (.ite_snd h ((h.memRead ..).endAccess ..))))))

theorem Tidy.lowWordRead (h : Tidy q c s) (x l : Nat) : Tidy q c (lowWordRead x l s) :=
  h.hostRead ..

theorem Tidy.strobeConflict (h : Tidy q c s) (x l : Nat) : Tidy q c (strobeConflict x l s) :=
  .ite h ((h.freeBelow ..).endAccess ..)

theorem Tidy.hostAccessTimeout (h : Tidy q c s) (x l : Nat) (write : Bool) :
    Tidy q c (hostAccessTimeout x l write s) :=
  .ite h (.ite (h.gatedAccess ..) (h.endAccess ..))

theorem Tidy.pressHostTimeout (h : Tidy q c s) (p : Fin 16) (x l : Nat) (write : Bool) :
    Tidy q c (pressHostTimeout p x l write s) :=
  .ite h (.ite (h.gatedAccess ..) ((h.errcap ..).endAccess ..))

theorem Tidy.writeAt (h : Tidy q c s) (a : Nat) (w : HW) : Tidy q c (writeAt a w s) :=
  h.hostWrite ..

theorem Tidy.writeBits (h : Tidy q c s) (a : Nat) (w : HW) (hi lo v : Nat) : Tidy q c (writeBits a w hi lo v s) :=
  h.hostWrite ..

theorem Tidy.fullSnapshot (h : Tidy q c s) : Tidy q c (fullSnapshot s) :=
  h.snapshot ..

theorem Tidy.proofSnapshot (h : Tidy q c s) : Tidy q c (proofSnapshot s) :=
  .ite h h.fullSnapshot

theorem Tidy.fallbackSnapshot (h : Tidy q c s) : Tidy q c (fallbackSnapshot s) :=
  .ite h (h.snapshot ..)

theorem Tidy.proofHoldExpire (h : Tidy q c s) : Tidy q c (proofHoldExpire s) :=
  .ite ((h.rput ..).iset ..) h

/-! ### Landing -/

theorem Tidy.landPair {a : State × Bool} (h : Tidy q c a.1) (t : Word) (x : Nat × Word) :
    Tidy q c (landPair t a x).1 :=
  .ite_fst (h.formeParam ..) (h.regLand ..)

theorem Tidy.writeParam (h : Tidy q c s) (e : Ev) : Tidy q c (writeParam e s) := by
  unfold Machine.writeParam
  extract_lets ps r
  have hr : Tidy q c r.1 := Tidy.foldl_fst (a := (_, false)) (h.keepRunning e) fun _ _ hu => hu.landPair ..
  exact .ite (h.basinWait ..) (.ite hr (hr.finishRunning ..))

theorem Tidy.landEntry (h : Tidy q c s) (t : Word) (op : Nat) {f : Ev → State → State}
    (hf : ∀ e u, Tidy q c u → Tidy q c (f e u)) : Tidy q c (landEntry t op f s) := by
  unfold Machine.landEntry
  refine .ite h ?_
  split
  · exact hf _ _ h.popLanding
  · exact h

theorem Tidy.finishNow (h : Tidy q c s) (e : Ev) : Tidy q c (finishNow e s) :=
  h.finishAt ..

theorem Tidy.cancelEntry (h : Tidy q c s) (t : Word) : Tidy q c (cancelEntry t s) :=
  h.landEntry _ _ fun e _ hu => hu.finishNow e

theorem Tidy.mediaRateChange (h : Tidy q c s) (t : Word) : Tidy q c (mediaRateChange t s) := by
  unfold Machine.mediaRateChange
  split
  · exact .ite (h.landEntry _ _ fun e _ hu => hu.writeParam e) h
  · exact h

theorem Tidy.heldEntryAct (h : Tidy q c s) (t : Word) : Tidy q c (heldEntryAct t s) := by
  unfold Machine.heldEntryAct
  dsimp only
  split
  · exact h
  · exact .ite h (.ite ((h.setComp ..).recallLand ..) ((h.setComp ..).writeParam ..))

theorem Tidy.pressMsgLand (h : Tidy q c s) (t : Word) : Tidy q c (pressMsgLand t s) :=
  .ite h (h.pressMsg ..)

end Sys2Proof.Machine
end

section
/-!
PROOFS. The frame tick, the bus, management packets and the copy of a twin keep `Tidy`.
-/

namespace Sys2Proof.Machine

-- One lemma after the other: the threads of so many at once do not fit the memory limit.
set_option Elab.async false

variable {q : List Instr} {c : Prop} {s : State}

/-! ### Frame -/

theorem Tidy.sendMirrored (h : Tidy q c s) : Tidy q c (sendMirrored s) := by
  unfold Machine.sendMirrored
  extract_lets out _ s1
  have hout (l : List (Nat × Word)) {u : State} (hu : Tidy q c u) : Tidy q c (out l u) := .ite hu (hu.sendCell ..)
  have hs1 : Tidy q c s1 := Tidy.setBasin (hout _ h) _
  refine hs1.foldl fun u p hu => .ite hu ?_
  exact Tidy.setPress (hout _ hu) p _ (hu.press p)

theorem Tidy.mirrorInputs (h : Tidy q c s) : Tidy q c (mirrorInputs s) := by
  unfold Machine.mirrorInputs
  dsimp only
  split
  · exact h
  · exact .ite h.markBad h

theorem Tidy.captureInputs (h : Tidy q c s) (f : Nat) (missing : List (Fin 256)) :
    Tidy q c (captureInputs f missing s) :=
  ((h.portInputs f).flowInputs f |>.playerInputs f missing).setPorts ..

theorem Tidy.closeNow (h : Tidy q c s) (f : Nat) : Tidy q c (closeNow f s) :=
  (h.insertPress ..).closeFrame ..

theorem Tidy.deliverOutputs (h : Tidy q c s) (f : Nat) : Tidy q c (deliverOutputs f s) :=
  ((h.alignLines ..).portOutputs ..).flowOutputs ..

theorem Tidy.noteCrc (h : Tidy q c s) (f : Nat) : Tidy q c (noteCrc f s) :=
  .ite (h.setTwinSt ..) h

theorem Tidy.landWaiting (h : Tidy q c s) (g : Option (Fin 4)) : Tidy q c (landWaiting g s) :=
  (h.setLandNext ..).foldl (fun _ _ h0 => h0.regLand ..)

theorem Tidy.groupTick (h : Tidy q c s) (g : Fin 4) (i : GroupIn) : Tidy q c (groupTick g i s) :=
  (h.landWaiting ..).groupFrame ..

theorem Tidy.checkBad (h : Tidy q c s) : Tidy q c (checkBad s) := by
  unfold Machine.checkBad
  exact .ite h (h.markBad.setTwinSt ..)

theorem Tidy.boundaryCells (h : Tidy q c s) (f : Nat) : Tidy q c (boundaryCells f s) :=
  (Tidy.ite (.ite ((h.sendCell ..).sendCell ..) (h.sendCell ..))
    ((Tidy.ite ((h.sendCell ..).sendCell ..) (h.sendCell ..)).sendCell ..)).setNet ..

theorem Tidy.twinTick (h : Tidy q c s) (f : Nat) : Tidy q c (twinTick f s) :=
  .ite h.renewLease ((((h.checkBad.crcCompare ..).crcOutcome ..).setTwinSt ..).renewLease.boundaryCells ..)

theorem Tidy.finishRestart (h : Tidy q c s) (f : Nat) : Tidy q c (finishRestart f s) :=
  .ite ((h.setBoot ..).foldl (fun _ _ h1 => h1.finishRunning ..)) h

theorem Tidy.releaseAndSelect (h : Tidy q c s) : Tidy q c (releaseAndSelect s) :=
  .ite ((h.setComp ..).setTb ..) (h.setComp ..).selectNow

theorem Tidy.countFrame (h : Tidy q c s) (f : Nat) : Tidy q c (countFrame f s) :=
  .ite ((h.setClkKeep _).setHostKeep _) (h.setClkKeep _)

theorem Tidy.endFrame (h : Tidy q c s) (f : Nat) (i : FrameIn) : Tidy q c (endFrame f i s) :=
  (((Tidy.ite ((h.shedMeasure ..).recDrain ..).sendMirrored.mirrorInputs
    (((((h.shedMeasure ..).recDrain ..).sendMirrored.mirrorInputs.writeRings ..).closeNow ..).recordFrame
      ..)).captureInputs ..).deliverOutputs ..).noteCrc ..

theorem Tidy.moveReadPos (h : Tidy q c s) : Tidy q c (moveReadPos s) :=
  .ite h (h.foldl (fun _ _ h1 => .ite (h1.freeWord.setPorts ..) h1))

theorem Tidy.startFrame (h : Tidy q c s) (f : Nat) : Tidy q c (startFrame f s) := by
  unfold Machine.startFrame
  extract_lets _ _ s1 s2 s3
  have hs1 : Tidy q c s1 := (h.setTb ..).finishRestart ..
  have hs2 : Tidy q c s2 :=
    ((hs1.netDrain.moveReadPos.stageFlows.applyCommits.applyDlyCommits.landWaiting ..).axisTick ..).alignTick
  have hs3 : Tidy q c s3 := (hs2.twinTick ..).countFrame ..
  exact (Tidy.ite hs3.selectGap hs3).releaseAndSelect

theorem Tidy.ownSelection (h : Tidy q c s) : Tidy q c (ownSelection s) :=
  .ite (h.setTb ..).markBad.selectNow h

theorem Tidy.gatedTick (h : Tidy q c s) (f : Nat) : Tidy q c (gatedTick f s) :=
  (h.setTb ..).countFrame ..

theorem Tidy.frameTick (h : Tidy q c s) (t : Nat) (i : FrameIn) : Tidy q c (frameTick t i s) :=
  .ite (h.advance ..) (.ite ((h.advance ..).gatedTick ..) (((h.advance ..).ownSelection.endFrame ..).startFrame ..))

theorem Tidy.blockTickCheck (h : Tidy q c s) (starved : List (Fin 16)) : Tidy q c (blockTickCheck starved s) :=
  .ite (h.blockTick ..).markBad (h.blockTick ..)

/-! ### Bus -/

theorem Tidy.routeErr (h : Tidy q c s) (r : BusReq) : Tidy q c (routeErr r s) :=
  .ite (h.matrixErr ..) (.ite ((h.cnt ..).matrixErr ..) (.ite (h.matrixErr ..) h))

theorem Tidy.enterReq (h : Tidy q c s) (r : BusReq) : Tidy q c (enterReq s r) :=
  (Tidy.ite (h.routeErr ..) h).setFab ..

theorem Tidy.issueReq (h : Tidy q c s) (r : BusReq) : Tidy q c (issueReq s r) :=
  .ite (h.setFab ..) (h.enterReq ..)

theorem Tidy.issueInside (h : Tidy q c s) (m : Fin 8) (cycle : BitVec 16) : Tidy q c (issueInside m cycle s) := by
  unfold Machine.issueInside
  dsimp only
  split
  · split
    · exact (h.setFab ..).enterReq ..
    · exact h
  · exact h

theorem Tidy.busStore (h : Tidy q c s) (r : BusReq) (ws : List Word) : Tidy q c (busStore r ws s).1 :=
  .ite_fst (h.stWords ..) (h.foldl_fst (fun _ _ h1 => h1.stWordBe ..))

theorem Tidy.busWrite (h : Tidy q c s) (t : Nat) (r : BusReq) (ws : List Word) : Tidy q c (busWrite t r ws s).1 := by
  unfold Machine.busWrite
  dsimp only
  split
  · exact .ite_fst (h.busStore ..) ((h.cnt ..).matrixErr ..)
  · split
    · split
      · exact .ite_fst (h.errcap ..) (h.busStore ..)
      · exact h
    · split
      · exact h.busStore ..
      · split
        · exact .ite_fst h (.ite_fst (h.cistWrite ..) (h.foldl_fst (fun _ _ h2 => h2.cistWrite ..)))
        · split
          · split
            · exact h.regLand ..
            · exact h
          · exact h

theorem Tidy.busWord (h : Tidy q c s) (t a : Nat) : Tidy q c (busWord t a s).2.1 := by
  unfold Machine.busWord
  dsimp only
  split
  · exact h
  · split
    · exact h.eccRead ..
    · exact h.eccRead ..

theorem Tidy.busWords (h : Tidy q c s) (t n a : Nat) : Tidy q c (busWords t n a s).2.1 := by
  induction n generalizing a s with
  | zero => exact h
  | succ n ih => exact ih (h.busWord ..) _

theorem Tidy.copyFails (h : Tidy q c s) : Tidy q c (copyFails s) :=
  .ite (h.enterTwinFault ..) h

theorem Tidy.serve (h : Tidy q c s) (t : Nat) (r : BusReq) : Tidy q c (serve t r s) := by
  unfold Machine.serve
  dsimp only
  split
  · exact h.setFab ..
  · split
    · exact .ite (h.setFab ..) ((h.busWrite ..).setFab ..)
    · exact .ite (h.setFab ..)
        ((Tidy.ite (h.busWords ..)
          (.ite (h.busWords ..).copyFails
            (.ite (h.busWords ..).galleyUe (.ite (h.busWords ..).stageMiss (h.busWords ..))))).setFab ..)

theorem Tidy.busGrant (h : Tidy q c s) (target : Fin 10) (port : Fin 16) (cycle : BitVec 16) (fresh : List BusReq) :
    Tidy q c (busGrant target port cycle fresh s) := by
  unfold Machine.busGrant
  dsimp only
  split
  · exact h.foldl (fun _ _ h0 => h0.issueReq ..)
  · exact ((Tidy.ite ((((((h.foldl (fun _ _ h8 => h8.issueReq ..)).setFab ..).cnt ..).peak ..).cnt ..).iset ..)
      ((((h.foldl (fun _ _ h6 => h6.issueReq ..)).setFab ..).cnt ..).peak ..)).issueInside ..).serve ..

theorem Tidy.rewriteWord (h : Tidy q c s) (k : Nat) : Tidy q c (rewriteWord k s) := by
  unfold Machine.rewriteWord
  dsimp only
  split
  · exact (h.setFab ..).setFlips ..
  · exact h.setFab ..

theorem Tidy.eccRewrite (h : Tidy q c s) : Tidy q c (eccRewrite s) := by
  unfold Machine.eccRewrite
  split
  · exact h.rewriteWord ..
  · exact h

theorem Tidy.scrubWord (h : Tidy q c s) (k : Nat) : Tidy q c (scrubWord s k) :=
  .ite h ((h.eccRead ..).rewriteWord ..)

theorem Tidy.skimStep (h : Tidy q c s) (dram : Bool) : Tidy q c (skimStep dram s) := by
  unfold Machine.skimStep
  dsimp only
  refine .ite h (.ite ?_ (.ite h ?_))
  · have hs1 := (h.dramTouch 6 s.fab.skimD 64).foldl (l := List.range 8)
      fun u j hu => hu.scrubWord (cistBase + 64 * s.fab.skimD + 8 * j)
    exact .ite (((hs1.setFab _).rset ..).iset ..) (hs1.setFab _)
  · have hs1 : Tidy q c (match skimUnit s.fab.skimS with
        | some a => (List.range 4).foldl (fun s j => Machine.scrubWord s (a + 4 * j)) s
        | none => s) := by
      split
      · exact h.foldl fun _ _ hu => hu.scrubWord ..
      · exact h
    exact .ite (((hs1.setFab _).rset ..).iset ..) (hs1.setFab _)

/-! ### Mgmt -/

theorem Tidy.nextSeq (h : Tidy q c s) : Tidy q c (nextSeq s).2 :=
  h.setNet ..

theorem Tidy.sendMgmt (h : Tidy q c s) (ty : Nat) (dst : Option (Nat × BitVec 48)) (seq : Nat) (body : List Word)
    (ports : List (Fin 2)) : Tidy q c (sendMgmt ty dst seq body ports s) :=
  h.foldl (fun _ _ h0 => h0.epSend ..)

theorem Tidy.announceSend (h : Tidy q c s) : Tidy q c (announceSend s) := by
  unfold Machine.announceSend
  dsimp only
  split
  · exact h
  · split
    · exact (h.setNet ..).sendMgmt ..
    · exact .ite ((h.nextSeq.setNet ..).sendMgmt ..) h

theorem Tidy.telemetrySend (h : Tidy q c s) : Tidy q c (telemetrySend s) :=
  .ite h ((h.nextSeq.setNet ..).sendMgmt ..)

theorem Tidy.remoteRead (h : Tidy q c s) (w : Word) : Tidy q c (remoteRead w s).2 :=
  .ite_snd h (.ite_snd h (.ite_snd (((h.cnt ..).iset ..).protFault ..) h))

theorem Tidy.remoteReads (h : Tidy q c s) (l : List Word) : Tidy q c (remoteReads l s).2 := by
  induction l generalizing s with
  | nil => exact h
  | cons w t ih => exact ih (h.remoteRead ..)

theorem Tidy.readReq (h : Tidy q c s) (m : MgmtPkt) : Tidy q c (readReq m s) :=
  .ite (h.mgmtAccept ..)
    (.ite ((h.mgmtAccept ..).cnt ..)
      ((Tidy.ite_snd ((h.mgmtAccept ..).setNet ..) (((h.mgmtAccept ..).setNet ..).remoteReads ..)).sendMgmt ..))

/-! ### Copy -/

theorem Tidy.cellWord (h : Tidy q c s) (x : Nat × Word) : Tidy q c (cellWord x s) :=
  .ite (h.stWord ..)
    (.ite (h.rset ..).wheelTaken
      (.ite (.ite ((h.rset ..).ctrlAct ..) (.ite ((h.rset ..).pageAct ..) (h.rset ..))) (h.rset ..)))

theorem Tidy.takeTables (h : Tidy q c s) (rx tx lines : List (Nat × List Word)) :
    Tidy q c (takeTables rx tx lines s) :=
  (((((h.foldl (fun _ _ h5 => h5.commitEntry ..)).foldl (fun _ _ h4 => h4.commitEntry ..)).foldl
    (fun _ _ h3 => h3.commitEntry ..)).foldl (fun _ _ h2 => h2.commitEntry ..)).foldl
      (fun _ _ h1 => h1.dlyApply ..)).foldl (fun _ _ h0 => h0.dlyApply ..)

theorem Tidy.takePart (h : Tidy q c s) (p : DataPart) : Tidy q c (takePart p s) := by
  cases p with
  | sys ws => exact h.foldl fun _ _ hu => hu.cellWord ..
  | cist ws => exact h.foldl fun _ _ hu => hu.cistStore ..
  | press p r pc stack => exact h.setPressKeep p _
  | engine b => exact h.setBasin ..
  | tables rx tx lines => exact h.takeTables ..
  | bank2 cl heap q' d =>
    unfold Machine.takePart
    refine Tidy.resumeTickets ?_
    exact h

theorem Tidy.writeCell (h : Tidy q c s) (c' : DataCell) : Tidy q c (writeCell c' s) :=
  .ite ((h.cellIn ..).takePart ..) (h.cellIn ..)

theorem Tidy.fwdCell (h : Tidy q c s) (c' : DataCell) : Tidy q c (fwdCell c' s) :=
  .ite (((h.cellIn ..).setTwinSt ..).takePart ..) (h.cellIn ..)

theorem Tidy.bulkCell (h : Tidy q c s) (c' : DataCell) : Tidy q c (bulkCell c' s) := by
  unfold Machine.bulkCell
  dsimp only
  split
  · exact h.cellIn ..
  · split
    · exact ((h.cellIn ..).setTwinSt ..).takePart ..
    · split
      · split
        · exact (h.cellIn ..).takePart ..
        · exact h.cellIn ..
      · exact h.cellIn ..

theorem Tidy.takeRegions (h : Tidy q c s) (l : List (Nat × Word)) : Tidy q c (takeRegions l s) :=
  .ite (h.setTwinSt ..) (.ite (((h.sendCell ..).foldl (fun _ _ h3 => h3.sendCell ..)).sendCell ..) h)

theorem Tidy.ctrlCell (h : Tidy q c s) (c' : CtrlCell) : Tidy q c (ctrlCell c' s) := by
  unfold Machine.ctrlCell
  dsimp only
  split
  · exact h.cellIn ..
  · split
    · exact (h.cellIn ..).setTwinSt ..
    · exact .ite (((h.cellIn ..).setTwinSt ..).setTwinSt ..)
        (((((h.cellIn ..).setTwinSt ..).setTwinSt ..).iset ..).errcap ..)
    · exact (h.cellIn ..).fenceSelf
    · exact (h.cellIn ..).setTwinSt ..
    · exact (h.cellIn ..).takeRegions ..
    · exact .ite ((((h.cellIn ..).setTwinSt ..).rset ..).rset ..) (h.cellIn ..)
    · exact (h.cellIn ..).partnerSense ..

theorem Tidy.copyReads (h : Tidy q c s) : Tidy q c (copyReads s).1 :=
  h.foldl_fst (fun _ _ h0 => h0.eccRead ..)

theorem Tidy.sendPhase (h : Tidy q c s) : Tidy q c (sendPhase s) := by
  unfold Machine.sendPhase
  dsimp only
  split
  · exact h.copyReads.setTwinSt ..
  · split
    · exact (((h.copyReads.foldl (fun _ _ h3 => h3.sendCell ..)).sendCell ..).sendCell ..).setTwinSt ..
    · exact ((h.copyReads.sendCell ..).foldl (fun _ _ h1 => h1.sendCell ..)).setTwinSt ..
    · exact h.copyReads

theorem Tidy.syncPhaseEnd (h : Tidy q c s) : Tidy q c (syncPhaseEnd s) := by
  unfold Machine.syncPhaseEnd
  dsimp only
  split
  · exact h
  · split
    · exact h.sendPhase
    · split
      · exact h
      · split
        · exact (h.setTwinSt ..).rset ..
        · exact (((h.setTwinSt ..).rset ..).rset ..).rset ..
        · exact h

end Sys2Proof.Machine
end

section
/-!
PROOFS. Every command keeps `Tidy`: the waiting commands stay (log entry 4), and storage stays canonical.
-/

namespace Sys2Proof.Machine

-- One lemma after the other: the threads of so many at once do not fit the memory limit.
set_option Elab.async false

variable {q : List Instr} {c : Prop} {s : State}

theorem Tidy.of_next {u t : State} (he : (.next u : Host.Outcome State Fault Refusal) = .next t) (hu : Tidy q c u) :
    Tidy q c t :=
  Host.Outcome.next.inj he ▸ hu

/-- No command touches the commands that wait, nor takes storage out of its canonical form. -/
theorem exec_tidy (h : Tidy q c s) {i : Instr} {t : State} (he : exec i s = .next t) : Tidy q c t := by
  cases i with
  -- Host writes.
  | registerWrite | blockEn | srst | freeze | iforce | errcapClear | rangePermWrite | proofHold | galleyProd |
     galleySlotWrite | clientRst | corrSubmit | posLoad | shadowFormeWrite | formeCrcStart | jetPath | dbgHalt |
     dbgStep | pressMemWrite | slotMaskWrite | txcommit | asrcChannelWrite | streamSel | streamCommit | ptpTxProd |
     timeSet | timeAdd | timeSlew | steerWrite | dpllAlign | bandSearch | pstep | domainGate | handover | fence |
     rejoin | delayCommit | recorderFreeze | apertureWrite | flipArm | resetWarm | resetCold | bootContinue |
     otpProgram | tempcfgClr =>
    exact .of_next he (h.hostWrite ..)
  | remapWrite =>
    refine .of_next he ?_
    split
    · exact h.hostWrite ..
    · exact h
  -- Words of a Press.
  | opNop | opMpy | opMac | opMsu | opMpy2 | opMac2 | opMsu2 | opDmpy | opDmac | opQmac | opCmpy | opCmac | opCmsu |
     opMpyr | opAdda | opSuba | opMova | opNega | opAbsa | opClra | opRnd | opSata | opAsla | opAslv | opExp |
     opNorm | opExpd | opAdd | opAdds | opSub | opSubs | opAnd | opOr | opXor | opLsl | opAsr | opLsr | opMin |
     opMax | opAbs | opNeg | opCmp =>
    exact .of_next he (h.issueArith ..)
  | moveLoad | moveStore | moveRegister | pointerUpdate => exact .of_next he (h.issueMove ..)
  | longAbsolute | longImmediate => exact .of_next he (h.pressIssue _ fun _ hu => hu.issueFields ..)
  | bra | call | rts | rti | jmpr | rep | repr | loop | loopr | wait | trap | movs =>
    exact .of_next he (h.issueCtlWord ..)
  -- Events.
  | lowWordRead => exact .of_next he (h.lowWordRead ..)
  | srstComplete => exact .of_next he (h.awake fun _ hu => hu.srstComplete ..)
  | strobeConflict => exact .of_next he (h.strobeConflict ..)
  | hostAccessTimeout => exact .of_next he (h.hostAccessTimeout ..)
  | proofSnapshot => exact .of_next he (h.proofSnapshot)
  | fallbackSnapshot => exact .of_next he (h.fallbackSnapshot)
  | proofHoldExpire => exact .of_next he (h.awake fun _ hu => hu.proofHoldExpire)
  | frameTick => exact .of_next he ((h.frameTick ..).preloadRun)
  | classCDrop => exact .of_next he (h.awake fun _ hu => hu.classCDrop ..)
  | entryCheck => exact .of_next he (h.awake fun _ hu => hu.entryCheck ..)
  | replAck => exact .of_next he (h.awake fun _ hu => (hu.replAck ..).retryActions)
  | replTimeout => exact .of_next he (h.awake fun _ hu => (hu.replTimeout ..).retryActions)
  | writeParam => exact .of_next he (h.awake fun _ hu => hu.landEntry _ _ fun e _ hv => hv.writeParam e)
  | recallForme => exact .of_next he (h.awake fun _ hu => hu.landEntry _ _ fun e _ hv => hv.recallForme e)
  | sluiceRoute => exact .of_next he (h.awake fun _ hu => hu.landEntry _ _ fun e _ hv => hv.sluiceRoute e)
  | play => exact .of_next he (h.awake fun _ hu => hu.landEntry _ _ fun e _ hv => hv.playLand e)
  | stopPlay => exact .of_next he (h.awake fun _ hu => hu.landEntry _ _ fun e _ hv => hv.stopPlayLand e)
  | recordSeg => exact .of_next he (h.awake fun _ hu => hu.landEntry _ _ fun e _ hv => hv.segLand e)
  | setGainZc => exact .of_next he (h.awake fun _ hu => hu.landEntry _ _ fun e _ hv => hv.setGainZc e)
  | pressMsg => exact .of_next he (h.awake fun _ hu => hu.pressMsgLand ..)
  | mark => exact .of_next he (h.awake fun _ hu => hu.landEntry _ _ fun e _ hv => hv.finishNow e)
  | cancel => exact .of_next he (h.awake fun _ hu => hu.cancelEntry ..)
  | tachPulse => exact .of_next he (h.awake fun _ hu => hu.tachPulse ..)
  | tachQuietRelease => exact .of_next he (h.awake fun _ hu => hu.tachQuietRelease ..)
  | tachStuck => exact .of_next he (h.awake fun _ hu => hu.tachStuck ..)
  | standstill => exact .of_next he (h.awake fun _ hu => hu.standstill ..)
  | cntEdge => exact .of_next he (h.awake fun _ hu => hu.cntEdge ..)
  | cntQuietRelease => exact .of_next he (h.awake fun _ hu => hu.cntQuietRelease ..)
  | cntStuck => exact .of_next he (h.awake fun _ hu => hu.cntStuck ..)
  | corrDone => exact .of_next he (h.awake fun _ hu => hu.corrDone)
  | zoneGapBegin => exact .of_next he (h.awake fun _ hu => hu.zoneGapBegin ..)
  | zcTimeoutRamp => exact .of_next he (h.awake fun _ hu => hu.zcTimeoutRamp ..)
  | slotWaitStart => exact .of_next he (h.awake fun _ hu => hu.slotWaitStart ..)
  | slotRelease => exact .of_next he (h.awake fun _ hu => hu.slotRelease ..)
  | epochEnd => exact .of_next he (h.awake fun _ hu => hu.epochEnd)
  | heldEntryAct => exact .of_next he (h.awake fun _ hu => hu.heldEntryAct ..)
  | shadowUnlock => exact .of_next he (h.awake fun _ hu => hu.shadowUnlock)
  | sluiceEnd => exact .of_next he (h.awake fun _ hu => hu.sluiceEnd ..)
  | formeCrcDone => exact .of_next he (h.awake fun _ hu => hu.formeCrcDone)
  | jetXfadeEnd => exact .of_next he (h.awake fun _ hu => hu.jetXfadeEnd ..)
  | blockTick => exact .of_next he (h.awake fun _ hu => hu.blockTickCheck ..)
  | pressStart => exact .of_next he (h.awake fun _ hu => hu.pressStart ..)
  | pressStop => exact .of_next he (h.awake fun _ hu => hu.pressStop ..)
  | pressHalt => exact .of_next he (h.awake fun _ hu => (hu.pressHalt ..).heldSrst ..)
  | tickEntry => exact .of_next he (h.awake fun _ hu => hu.tickEntry ..)
  | faultEntry => exact .of_next he (h.awake fun _ hu => hu.faultEntry ..)
  | brkMatch => exact .of_next he (h.awake fun _ hu => hu.brkMatch ..)
  | pressDmaStarve => exact .of_next he (h.awake fun _ hu => hu.pressDmaStarve ..)
  | loopEndFetch => exact .of_next he (h.awake fun _ hu => hu.loopEndFetch ..)
  | groupFrame => exact .of_next he (h.awake fun _ hu => hu.groupTick ..)
  | qualifyPass => exact .of_next he (h.awake fun _ hu => hu.qualifyPass ..)
  | bclkStop => exact .of_next he (h.awake fun _ hu => hu.clockStop ..)
  | fsLoss => exact .of_next he (h.awake fun _ hu => hu.clockStop ..)
  | clockReturn => exact .of_next he (h.awake fun _ hu => hu.clockReturn ..)
  | faultFadeEnd => exact .of_next he (h.awake fun _ hu => hu.faultFadeEnd ..)
  | portZcTimeout => exact .of_next he (h.awake fun _ hu => hu.portZcTimeout ..)
  | portRampEnd => exact .of_next he (h.awake fun _ hu => hu.portRampEnd ..)
  | aes3Block => exact .of_next he (h.awake fun _ hu => hu.aes3Block ..)
  | aes3Lock => exact .of_next he (h.awake fun _ hu => hu.aes3Lock ..)
  | txcommitAct => exact .of_next he (h.awake fun _ hu => hu.txCommitAct ..)
  | ratioLock => exact .of_next he (h.awake fun _ hu => hu.ratioLock ..)
  | linkUp => exact .of_next he (h.awake fun _ hu => hu.linkUp ..)
  | linkDown => exact .of_next he (h.awake fun _ hu => hu.linkDown ..)
  | packetReceive => exact .of_next he (h.awake fun _ hu => hu.packetReceive ..)
  | macAgeOut => exact .of_next he (h.awake fun _ hu => hu.macAgeOut ..)
  | igmpLapse => exact .of_next he (h.awake fun _ hu => hu.igmpLapse ..)
  | igmpQuery => exact .of_next he (h.awake fun _ hu => hu.igmpQuery)
  | flowPacket => exact .of_next he (h.awake fun _ hu => hu.flowPacket ..)
  | flowLoss => exact .of_next he (h.awake fun _ hu => hu.flowLoss ..)
  | flowSend => exact .of_next he (h.awake fun _ hu => hu.flowSend ..)
  | fclkLock => exact .of_next he (h.awake fun _ hu => hu.fclkLock ..)
  | discover => exact .of_next he (h.awake fun _ hu => hu.discover ..)
  | announce => exact .of_next he (h.awake fun _ hu => hu.announce ..)
  | announceSend => exact .of_next he (h.awake fun _ hu => hu.announceSend)
  | telemetrySend => exact .of_next he (h.awake fun _ hu => hu.telemetrySend)
  | readReq => exact .of_next he (h.awake fun _ hu => hu.readReq ..)
  | nodeDupClear => exact .of_next he (h.awake fun _ hu => hu.nodeDupClear)
  | ptpRx => exact .of_next he (h.awake fun _ hu => hu.ptpRx ..)
  | ptpSlotSent => exact .of_next he (h.awake fun _ hu => hu.ptpSlotSent ..)
  | timecmdAct => exact .of_next he (h.awake fun _ hu => hu.timecmdAct)
  | slewDone => exact .of_next he (h.awake fun _ hu => hu.slewDone ..)
  | timeNsRead => exact .of_next he (h.lowWordRead ..)
  | ptpPulse => exact .of_next he (h.awake fun _ hu => hu.ptpPulse ..)
  | refEdge => exact .of_next he (h.awake fun _ hu => hu.refEdge ..)
  | refFail => exact .of_next he (h.awake fun _ hu => hu.refFail ..)
  | refSoakDone => exact .of_next he (h.awake fun _ hu => hu.refSoakDone ..)
  | refDisqualify => exact .of_next he (h.awake fun _ hu => hu.refDisqualify ..)
  | dpllEvaluation => exact .of_next he (h.awake fun _ hu => (hu.dpllEvaluation ..).bootAdvance)
  | lockDeclared => exact .of_next he (h.awake fun _ hu => hu.lockDeclared.bootAdvance)
  | ladderStep => exact .of_next he (h.awake fun _ hu => hu.ladderStep)
  | lockLost => exact .of_next he (h.awake fun _ hu => hu.lockLost)
  | pullDone => exact .of_next he (h.awake fun _ hu => hu.pullDone)
  | alignEdge => exact .of_next he (h.awake fun _ hu => hu.alignEdge ..)
  | pllLock => exact .of_next he (h.awake fun _ hu => (hu.pllLock ..).bootAdvance)
  | pllLossOfLock => exact .of_next he (h.awake fun _ hu => hu.pllLoss ..)
  | xoLoss => exact .of_next he (h.xoLoss)
  | xoRestore => exact .of_next he (h.xoRestore)
  | mediaRateChange => exact .of_next he (h.awake fun _ hu => hu.mediaRateChange ..)
  | rateHold => exact .of_next he (h.awake fun _ hu => hu.rateHold)
  | rampHandover => exact .of_next he (h.awake fun _ hu => hu.rampHandover)
  | rampEnd => exact .of_next he (h.awake fun _ hu => hu.rampEnd)
  | rateResume => exact .of_next he (h.awake fun _ hu => hu.rateResume)
  | rateDone => exact .of_next he (h.awake fun _ hu => hu.rateDone)
  | searchDone => exact .of_next he (h.awake fun _ hu => (hu.searchDone ..).bootAdvance)
  | pstepDone => exact .of_next he (h.awake fun _ hu => hu.pstepDone)
  | arbGrantRise => exact .of_next he (h.awake fun _ hu => (hu.arbGrantRise ..).preloadRun)
  | grantWaitEnd => exact .of_next he (h.awake fun _ hu => (hu.grantWaitEnd ..).preloadRun)
  | arbGrantFall => exact .of_next he (h.awake fun _ hu => hu.arbGrantFall ..)
  | arbChatterQuiet => exact .of_next he (h.awake fun _ hu => hu.arbChatterQuiet.preloadRun)
  | arbStuck => exact .of_next he (h.awake fun _ hu => hu.arbStuck)
  | leaseExpire => exact .of_next he (h.awake fun _ hu => hu.leaseExpire ..)
  | autoJoin => exact .of_next he (h.awake fun _ hu => hu.autoJoin)
  | negTimeout => exact .of_next he (h.awake fun _ hu => hu.negTimeout.bootAdvance)
  | traliatLinkUp => exact .of_next he (h.awake fun _ hu => hu.traliatLinkUp ..)
  | traliatLinkDown => exact .of_next he (h.awake fun _ hu => hu.traliatLinkDown)
  | traliatLaneChange => exact .of_next he (h.awake fun _ hu => hu.traliatLaneChange ..)
  | healthCell => exact .of_next he (h.awake fun _ hu => hu.healthCell ..)
  | decCell => exact .of_next he (h.awake fun _ hu => hu.decCell ..)
  | mirrorCell => exact .of_next he (h.awake fun _ hu => hu.mirrorCell ..)
  | galleyCell => exact .of_next he (h.awake fun _ hu => hu.galleyCell ..)
  | writeCell => exact .of_next he (h.awake fun _ hu => hu.writeCell ..)
  | fwdCell => exact .of_next he (h.awake fun _ hu => hu.fwdCell ..)
  | bulkCell => exact .of_next he (h.awake fun _ hu => hu.bulkCell ..)
  | ctrlCell => exact .of_next he (h.awake fun _ hu => (hu.ctrlCell ..).bootAdvance)
  | cellResend => exact .of_next he (h.awake fun _ hu => hu.cellResend ..)
  | healthMissing => exact .of_next he (h.awake fun _ hu => hu.healthMissing)
  | lossHoldExpire => exact .of_next he (h.awake fun _ hu => hu.lossHoldExpire)
  | syncPhaseEnd => exact .of_next he (h.awake fun _ hu => hu.syncPhaseEnd)
  | cutover => exact .of_next he (h.awake fun _ hu => hu.cutover)
  | fwdQueueOverflow => exact .of_next he (h.awake fun _ hu => hu.fwdQueueOverflow ..)
  | standbyHotPromote => exact .of_next he (h.awake fun _ hu => hu.standbyHotPromote ..)
  | warmTimeout => exact .of_next he (h.awake fun _ hu => hu.warmTimeout)
  | trainingDone => exact .of_next he (h.awake fun _ hu => (hu.trainingDone ..).bootAdvance)
  | retrainTrigger => exact .of_next he (h.awake fun _ hu => hu.retrainTrigger ..)
  | retrainSlice => exact .of_next he (h.awake fun _ hu => hu.retrainSlice)
  | retrainDone => exact .of_next he (h.awake fun _ hu => hu.retrainDone ..)
  | retrainAbort => exact .of_next he (h.awake fun _ hu => hu.retrainAbort)
  | ceWindowEnd => exact .of_next he (h.awake fun _ hu => hu.ceWindowEnd)
  | reserveMove => exact .of_next he (h.awake fun _ hu => hu.reserveMove)
  | shedWithdraw => exact .of_next he (h.awake fun _ hu => hu.shedWithdraw)
  | dramRefresh => exact .of_next he (h.awake fun _ hu => hu.dramRefresh ..)
  | rowCloseTimeout => exact .of_next he (h.awake fun _ hu => hu.rowCloseTimeout ..)
  | stagingDeadline => exact .of_next he (h.awake fun _ hu => hu.stagingDeadline ..)
  | delayXfadeEnd => exact .of_next he (h.awake fun _ hu => hu.delayXfadeEnd ..)
  | segmentComplete => exact .of_next he (h.awake fun _ hu => hu.segmentComplete ..)
  | voiceEnd => exact .of_next he (h.awake fun _ hu => hu.voiceEnd ..)
  | stopFadeEnd => exact .of_next he (h.awake fun _ hu => hu.stopFadeEnd ..)
  | busGrant => exact .of_next he (h.awake fun _ hu => hu.busGrant ..)
  | eccRewrite => exact .of_next he (h.awake fun _ hu => hu.eccRewrite)
  | skimStep => exact .of_next he (h.awake fun _ hu => hu.skimStep ..)
  | senseClassify => exact .of_next he (h.awake fun _ hu => hu.senseClassify ..)
  | senseStuck => exact .of_next he (h.awake fun _ hu => hu.senseStuck ..)
  | senseQuiet => exact .of_next he (h.awake fun _ hu => hu.senseQuiet ..)
  | senseEventDeliver => exact .of_next he (h.awake fun _ hu => hu.senseDeliver ..)
  | actionRetryExpire => exact .of_next he (h.awake fun _ hu => hu.actionRetryExpire)
  | senseEvt => exact .of_next he (h.awake fun _ hu => hu.senseEvt ..)
  | supplyTrip => exact .of_next he (h.supplyTrip ..)
  | porRelease => exact .of_next he (h.porRelease ..)
  | warmResetPin => exact .of_next he (h.warmResetPin)
  | xoQualified => exact .of_next he (h.xoQualified.bootAdvance)
  | bistDone => exact .of_next he ((h.bistDone ..).bootAdvance)
  | imageSlotPass => exact .of_next he (h.awake fun _ hu => hu.imageSlotPass ..)
  | startRun => exact .of_next he (h.startRun)
  | otpProgramDone => exact .of_next he (h.awake fun _ hu => hu.otpProgramDone)
  | ppsEdge => exact .of_next he (h.awake fun _ hu => hu.ppsEdge)
  | bmarkEdge => exact .of_next he (h.awake fun _ hu => hu.bmarkEdge)
  | tempReading => exact .of_next he (h.awake fun _ hu => hu.tempReading ..)
  | warmResetRelease => exact .of_next he (h.warmResetRelease.bootAdvance)
  | rateHoldRenewal => exact .of_next he (h.awake fun _ hu => hu.rateHoldRenewal ..)
  | tachBEdge => exact .of_next he (h.awake fun _ hu => hu.tachBEdge ..)
  | cntInLow => exact .of_next he (h.awake fun _ hu => hu.cntInLow ..)
  | pressHostTimeout => exact .of_next he (h.pressHostTimeout ..)
  | supplyReading => exact .of_next he (h.awake fun _ hu => hu.supplyReading ..)

/-- Settles O3: the commands that wait are one half of `Tidy`, whatever storage is like. -/
theorem noCommandTouchesTheQueue : Obligations.NoCommandTouchesTheQueue := by
  unfold Obligations.NoCommandTouchesTheQueue
  intro i s t he
  exact (exec_tidy (c := False) ⟨rfl, False.elim⟩ he).1

/-- Settles O5: canonical storage is the other half; an idle step leaves the state. -/
theorem stepKeepsStorageCanonical : Obligations.StepKeepsStorageCanonical := by
  unfold Obligations.StepKeepsStorageCanonical
  intro s t h ht
  cases hq : s.pending with
  | nil => exact Host.Outcome.next.inj ((step_idle hq).symm.trans ht) ▸ h
  | cons i q =>
    exact (exec_tidy (c := True) (s := { s with pending := q }) ⟨rfl, fun _ => h⟩ ((step_front hq).symm.trans ht)).2 trivial

end Sys2Proof.Machine
end

section
/-!
PROOFS. What may change: a frame of parts and registers that the operations keep; the end of a host access and the
accesses that the gates stop.
-/

-- One declaration after another: side by side, the stacks of the threads exceed what memory the check allows.
set_option Elab.async false

namespace Sys2Proof.Machine

/-! ### Frames -/

/-- From `s` to `t` no part but the listed ones changes, and no register outside `A`. -/
def Within (l : List Part) (A : Nat → Prop) (s t : State) : Prop := KeepsBut l s t ∧ ∀ a, ¬ A a → rget t a = rget s a

theorem Within.refl (l : List Part) (A : Nat → Prop) (s : State) : Within l A s s :=
  ⟨fun p _ => by cases p <;> rfl, fun _ _ => rfl⟩

theorem Part.same.trans {p : Part} {s t u : State} (h : p.same s t) (h' : p.same t u) : p.same s u := by
  cases p <;> exact Eq.trans h' h

theorem Within.trans {l : List Part} {A : Nat → Prop} {s t u : State} (h : Within l A s t) (h' : Within l A t u) :
    Within l A s u :=
  ⟨fun p hp => (h.1 p hp).trans (h'.1 p hp), fun a ha => (h'.2 a ha).trans (h.2 a ha)⟩

theorem Within.mono {l m : List Part} {A B : Nat → Prop} {s t : State} (h : Within l A s t) (hl : ∀ p ∈ l, p ∈ m)
    (hA : ∀ a, A a → B a) : Within m B s t :=
  ⟨fun p hp => h.1 p fun hpl => hp (hl p hpl), fun a ha => h.2 a fun hAa => ha (hA a hAa)⟩

/-- A register of the frame is written. -/
theorem within_rset {l : List Part} {A : Nat → Prop} {a : Nat} (hl : .regs ∈ l) (ha : A a) (v : Word) (s : State) :
    Within l A s (rset a v s) := by
  refine ⟨fun p hp => ?_, fun b hb => rget_rset_ne s v fun hba => hb (hba ▸ ha)⟩
  cases p
  case regs => exact absurd hl hp
  all_goals rfl

section
variable {l : List Part} {A : Nat → Prop} {s t : State} (h : Within l A s t)
include h

theorem Within.rset {a : Nat} (v : Word) (hl : .regs ∈ l := by decide) (ha : A a := by decide) :
    Within l A s (rset a v t) :=
  h.trans (within_rset hl ha v t)

theorem Within.rput {a : Nat} (hi lo v : Nat) (hl : .regs ∈ l := by decide) (ha : A a := by decide) :
    Within l A s (rput a hi lo v t) :=
  h.rset _ hl ha

theorem Within.cnt {a : Nat} (n : Nat) (hl : .regs ∈ l := by decide) (ha : A a := by decide) :
    Within l A s (cnt a t n) :=
  h.rset _ hl ha

theorem Within.iset {p : Nat} (b : Nat) (hl : .regs ∈ l := by decide) (ha : A (aISTAT p) := by decide) :
    Within l A s (iset p b t) :=
  h.rset _ hl ha

theorem Within.alarm (b : Nat) (hl : .regs ∈ l := by decide) (ha : A aINTC_ALMSRC := by decide) :
    Within l A s (alarm b t) :=
  h.rset _ hl ha

theorem Within.peak {a : Nat} (n : Nat) (hl : .regs ∈ l := by decide) (ha : A a := by decide) :
    Within l A s (peak a n t) := by
  unfold Machine.peak
  split
  · exact h.rset _ hl ha
  · exact h

theorem Within.errcap {p : Nat} (code a : Nat) (hl : .regs ∈ l := by decide) (hc : A (aERRCAP p) := by decide)
    (ha : A (aERRADDR p) := by decide) : Within l A s (errcap p code a t) := by
  unfold Machine.errcap
  split
  · exact h.rset _ hl hc
  · exact (h.rset _ hl hc).rset _ hl ha

theorem Within.matrixErr (code istat m a : Nat) (hl : .regs ∈ l := by decide) (hi : A (aISTAT pgMATRIX) := by decide)
    (hc : A (aERRCAP pgMATRIX) := by decide) (ha : A (aERRADDR pgMATRIX) := by decide)
    (hm : A aMATRIX_ERRMASTER := by decide) : Within l A s (matrixErr code istat m a t) := by
  have hs1 := (h.iset (p := pgMATRIX) istat hl hi).errcap (p := pgMATRIX) code a hl hc ha
  unfold Machine.matrixErr
  dsimp only
  split
  · exact hs1.rset _ hl hm
  · exact hs1

theorem Within.ite {p : Prop} [Decidable p] {u : State} (hu : Within l A s u) : Within l A s (if p then t else u) := by
  split <;> assumption

end

/-- Registers of the listed pages. -/
abbrev OnPages (l : List Nat) (a : Nat) : Prop := pageOf a ∈ l

theorem Within.pages {l m : List Part} {p r : List Nat} {s t : State} (h : Within l (OnPages p) s t)
    (hl : ∀ x ∈ l, x ∈ m := by decide) (hp : ∀ x ∈ p, x ∈ r := by decide) : Within m (OnPages r) s t :=
  h.mono hl fun a => hp (pageOf a)

/-! ### The end of an access -/

/-- The registers that record the end of an access (R444). -/
def endRegs : List Nat :=
  [aHOSTIF_LASTERR, aHOSTIF_LASTADDR, aHOSTIF_ERR_CNT, aISTAT pgHOSTIF, aERRCAP pgHOSTIF, aERRADDR pgHOSTIF]

/-- The registers that record a protection fault. -/
def protFaultRegs : List Nat :=
  [aPROT_FAULT_CNT, aISTAT pgPROT, aINTC_ALMSRC, aERRCAP pgPROT, aERRADDR pgPROT, aPROT_FAULTINFO]

theorem bits_lasterr {v : Nat} (hv : v < 256) (l : Fin 4) (b : Bool) :
    bits (fld v 24 ||| fld l.val 22 ||| flg b 21) 31 24 = v := by
  have hfld : (fld v 24).toNat = v * 2 ^ 24 := by simp [fld, Nat.shiftLeft_eq]; omega
  have hlvl : (fld l.val 22).toNat = l.val * 2 ^ 22 := by simp [fld, Nat.shiftLeft_eq]; omega
  have hflg : (flg b 21).toNat >>> 24 = 0 := by cases b <;> rfl
  have hl : (l.val * 2 ^ 22) >>> 24 = 0 := by rw [Nat.shiftRight_eq_div_pow]; omega
  rw [bits, BitVec.toNat_or, BitVec.toNat_or, Nat.shiftRight_or_distrib, Nat.shiftRight_or_distrib, hfld, hlvl, hflg, hl,
    Nat.shiftRight_eq_div_pow, Nat.or_zero, Nat.or_zero]
  omega

section
variable {s : State} {l : Fin 4} {a status : Nat}

/-- The end of a write leaves its status in LASTERR (R444). -/
theorem lastStatus_endAccess (hs : spWf resetWord s.regs = true) (hstatus : status < 256) :
    lastStatus (endAccess status l.val true a s) = status := by
  have hset : rget (rset aHOSTIF_LASTADDR (w32 a) (rset aHOSTIF_LASTERR
      (fld status 24 ||| fld l.val 22 ||| flg true 21) s)) aHOSTIF_LASTERR =
      fld status 24 ||| fld l.val 22 ||| flg true 21 := by
    rw [rget_rset_ne _ _ (by decide), rget_rset_same hs]
  unfold lastStatus rfld
  unfold endAccess
  dsimp only
  split
  · exact (congrArg (bits · 31 24) hset).trans (bits_lasterr hstatus l true)
  · have hout (u : State) : rget (errcap pgHOSTIF (0x100 + status) a (iset pgHOSTIF 0 (cnt aHOSTIF_ERR_CNT u))) aHOSTIF_LASTERR
        = rget u aHOSTIF_LASTERR :=
      ((((Within.refl [.regs] (· ≠ aHOSTIF_LASTERR) u).cnt _).iset _).errcap _ _).2 _ (not_not.2 rfl)
    rw [hout]
    exact (congrArg (bits · 31 24) hset).trans (bits_lasterr hstatus l true)

/-- The end of an access changes the registers that record it only. -/
theorem within_endAccess_regs (write : Bool) : Within [.regs] (· ∈ endRegs) s (endAccess status l.val write a s) := by
  unfold endAccess
  extract_lets own s1
  have hs0 := Within.refl [.regs] (· ∈ endRegs) s
  have hs1 : Within [.regs] (· ∈ endRegs) s s1 := .ite hs0 ((hs0.rset _).rset _)
  exact .ite hs1 (((hs1.cnt _).iset _).errcap _ _)

theorem within_endAccess (write : Bool) : Within [.regs] (OnPages [pgHOSTIF]) s (endAccess status l.val write a s) :=
  (within_endAccess_regs write).mono (fun _ h => h) (by decide)

end

/-! ### Accesses that the gates stop -/

/-- Every host-write command is one access. -/
theorem exec_of_hostAccess {c : Instr} {x : HostAcc} (h : hostAccess c = some x) (s : State) :
    exec c s = .next (hostWrite x s) := by
  cases c with
  | registerWrite | blockEn | srst | freeze | iforce | errcapClear | rangePermWrite | proofHold | galleyProd |
     galleySlotWrite | clientRst | corrSubmit | posLoad | shadowFormeWrite | formeCrcStart | jetPath | dbgHalt |
     dbgStep | pressMemWrite | slotMaskWrite | txcommit | asrcChannelWrite | streamSel | streamCommit | ptpTxProd |
     timeSet | timeAdd | timeSlew | steerWrite | dpllAlign | bandSearch | pstep | domainGate | handover | fence |
     rejoin | delayCommit | recorderFreeze | apertureWrite | flipArm | resetWarm | resetCold | bootContinue |
     otpProgram | tempcfgClr =>
    obtain rfl := Option.some.inj h
    rfl
  | _ => cases h

theorem accessGate_le (s : State) (l a : Nat) (write : Bool) (be : BitVec 4) : accessGate s l a write be < 256 := by
  unfold accessGate
  split
  · decide
  · split
    · decide
    · split <;> decide

theorem within_protFault_regs {s : State} (rwp : Bool) (l a : Nat) (write remote : Bool) :
    Within [.regs] (· ∈ protFaultRegs) s (protFault rwp l a write remote s) := by
  unfold protFault
  extract_lets first s1 s2
  have hs2 : Within [.regs] (· ∈ protFaultRegs) s s2 := ((((Within.refl ..).cnt _).iset _).alarm _).errcap _ _
  exact Within.ite (hs2.rset _) hs2

theorem within_protFault {s : State} (rwp : Bool) (l a : Nat) (write remote : Bool) :
    Within [.regs] (OnPages [pgPROT, pgINTC]) s (protFault rwp l a write remote s) :=
  (within_protFault_regs rwp l a write remote).mono (fun _ h => h) (by decide)

theorem within_gatedAccess {s : State} {status : Nat} {l : Fin 4} {a : Nat} (write : Bool) :
    Within [.regs] (OnPages [pgHOSTIF, pgMATRIX, pgPROT, pgINTC]) s (gatedAccess status l.val a write s) := by
  unfold gatedAccess
  extract_lets s1
  have hs0 := Within.refl [.regs] (OnPages [pgHOSTIF, pgMATRIX, pgPROT, pgINTC]) s
  have hs1 : Within [.regs] (OnPages [pgHOSTIF, pgMATRIX, pgPROT, pgINTC]) s s1 :=
    Within.ite ((hs0.cnt _).matrixErr ..) (Within.ite (within_protFault ..).pages hs0)
  exact hs1.trans (within_endAccess write).pages

theorem tidy_of_canonical {s : State} (h : Canonical s) : Tidy s.pending True s := ⟨rfl, fun _ => h⟩

theorem Tidy.regs_wf {q : List Instr} {s : State} (h : Tidy q True s) : spWf resetWord s.regs = true := (h.2 trivial).1

theorem lastStatus_gatedAccess {s : State} (hs : Canonical s) {status : Nat} (hstatus : status < 256) (l : Fin 4) (a : Nat) :
    lastStatus (gatedAccess status l.val a true s) = status := by
  unfold gatedAccess
  extract_lets s1
  have h := tidy_of_canonical hs
  have hs1 : Tidy s.pending True s1 := .ite ((h.cnt ..).matrixErr ..) (.ite (h.protFault ..) h)
  exact lastStatus_endAccess hs1.regs_wf hstatus

/-- Settles O9: the access ends in `gatedAccess`, which leaves its status in LASTERR. -/
theorem gatedHostWriteEndsWithItsStatus : Obligations.GatedHostWriteEndsWithItsStatus := by
  unfold Obligations.GatedHostWriteEndsWithItsStatus
  intro s t c x hs hl hx hg ht
  obtain rfl := Host.Outcome.next.inj ((exec_of_hostAccess hx s).symm.trans ht)
  rw [hostWrite_gated hl hg]
  obtain ⟨hkeep, hregs⟩ := within_gatedAccess (s := s) (l := x.lvl)
    (status := accessGate s x.lvl.val (busAddr x.addr) true x.be) (a := busAddr x.addr) true
  exact ⟨lastStatus_gatedAccess hs (accessGate_le ..) _ _, hkeep, hregs⟩

end Sys2Proof.Machine
end

section
/-!
PROOFS. Writes of the host to registers: refused outside SOLO, and plain registers.
-/

-- One declaration after another: side by side, the stacks of the threads exceed what memory the check allows.
set_option Elab.async false

namespace Sys2Proof.Machine

/-! ### A served write to a register -/

theorem and_twoPow_ne_zero (w : Word) {i : Nat} (hi : i < 32) : (w &&& BitVec.twoPow 32 i != 0) = bit w i := by
  rw [BitVec.and_twoPow, bit]
  split
  · rename_i h
    rw [h, bne_iff_ne]
    intro h0
    have := congrArg (BitVec.getLsbD · i) h0
    simp [hi] at this
  · rename_i h
    simp [h]

theorem bit_xor (v w : Word) (i : Nat) : bit (v ^^^ w) i = (bit v i != bit w i) := by
  simp only [bit, BitVec.getLsbD_xor, bne]

theorem isPageAddr_of_regAt {a : Nat} {d : RegDef} (h : regAt a = some d) : isPageAddr a = true := by
  by_contra hp
  simp [regAt, hp] at h

/-- A register's address is its page and its offset. -/
theorem eq_of_isPageAddr {a : Nat} (h : isPageAddr a = true) : a = 0x10000 + pageOf a * 0x1000 + offOf a := by
  simp only [isPageAddr, Bool.and_eq_true, decide_eq_true_eq] at h
  unfold pageOf offOf
  omega

theorem pageOf_lt_of_isPageAddr {a : Nat} (h : isPageAddr a = true) : pageOf a < 64 := by
  simp only [isPageAddr, Bool.and_eq_true, decide_eq_true_eq] at h
  unfold pageOf
  omega

theorem pageOf_pageAddr (p o : Nat) (ho : o < 0x1000) : pageOf (pageAddr p o) = p := by
  unfold pageOf pageAddr
  omega

theorem offOf_pageAddr (p o : Nat) (ho : o < 0x1000) : offOf (pageAddr p o) = o := by
  unfold offOf pageAddr
  omega

theorem busAddr_pageAddr (p : Fin 64) (o : Nat) (ho : o < 0x1000) (ho4 : o % 4 = 0) : busAddr (pageAddr p o) = pageAddr p o := by
  unfold busAddr pageAddr
  omega

/-- The EN bit of a block of the data plane is writable. -/
theorem ctrl_en_rw : ∀ page : Fin 64, dataPlane page = true → ∀ d ∈ regAt (aCTRL page), bit (rwMask d page) 0 = true := by
  decide

/-- A served access to a register runs the page's write and ends with its status. -/
theorem hostWrite_served {s : State} {x : HostAcc} {d : RegDef} (h : Served s x.addr ⟨x.lvl, x.be, x.v⟩) (hd : regAt x.addr = some d)
    (hb : busAddr x.addr = x.addr) (hr : x.addr ≠ aSYS_RSTCMD) :
    hostWrite x s = endAccess (pageWrite x.lvl.val x.addr x.v s).2 x.lvl true x.addr (pageWrite x.lvl.val x.addr x.v s).1 := by
  obtain ⟨hl, hg, hc⟩ := h
  have hl' : s.boot.held = .none := hl
  simp [hostWrite, hb, hg, hc, isPageAddr_of_regAt hd, hl', hr]

/-- A write that the rules of the data plane refuse records the refusal on its page. -/
theorem pageWrite_of_soloRefuse {s : State} {l a : Nat} {v : Word} {d : RegDef} {code : Nat} (hd : regAt a = some d)
    (h : soloRefuse s d a v = refuse code a) (hcode : code ≠ 0) :
    pageWrite l a v s = (errcap (pageOf a) code a s, stsRefused) := by
  simp [pageWrite, hd, h, refuse, recordRefuse, hcode]

/-- The first error is captured with its address, a later one sets MULTI (R19, R20). -/
theorem captured_errcap {s : State} (hs : spWf resetWord s.regs = true) (code page a : Nat) (hcode : code < 0x10000) :
    captured code page a s (errcap page code a s) := by
  have hne : aERRCAP page ≠ aERRADDR page := by unfold aERRCAP aERRADDR pageAddr; omega
  unfold captured errcap
  split
  · exact ⟨rget_rset_same hs _ _, rget_rset_ne _ _ hne.symm⟩
  · refine ⟨?_, rget_rset_same (rset_regs_wf hs _ _) _ _⟩
    rw [rget_rset_ne _ _ hne, rget_rset_same hs, Nat.mod_eq_of_lt hcode]
    rfl

/-- A refusal recorded on a page and the end of the access: `refusedWith`. -/
theorem refusedWith_of_errcap {s : State} (hs : Canonical s) {code page a : Nat} {l : Fin 4} (hcode : code < 0x10000)
    (hpage : page ≠ pgHOSTIF) :
    refusedWith code page a s (endAccess stsRefused l.val true a (errcap page code a s)) := by
  have hend := within_endAccess (s := errcap page code a s) (l := l) (a := a) (status := stsRefused) true
  have herr : Within [.regs] (· ∈ [aERRCAP page, aERRADDR page]) s (errcap page code a s) :=
    (Within.refl ..).errcap _ _ (by decide) (by simp) (by simp)
  have hcap : pageOf (aERRCAP page) ∉ [pgHOSTIF] := by simpa [pageOf_pageAddr] using hpage
  have haddr : pageOf (aERRADDR page) ∉ [pgHOSTIF] := by simpa [pageOf_pageAddr] using hpage
  have hcaptured := captured_errcap hs.1 code page a hcode
  refine ⟨lastStatus_endAccess (errcap_regs_wf hs.1 ..) (by decide), fun p hp => (herr.1 p hp).trans (hend.1 p hp), ?_,
    fun b hb hbl => (hend.2 b (by simpa using hb)).trans (herr.2 b hbl)⟩
  unfold captured
  rwa [hend.2 _ hcap, hend.2 _ haddr]

/-- A write to CTRL that changes EN, and nothing of the debug bits of a Press, is refused outside SOLO with code 5. -/
theorem soloRefuse_en {s : State} {page : Fin 64} {v : Word} {d : RegDef} (hd : regAt (aCTRL page) = some d)
    (hsolo : isSolo s = false) (hdp : dataPlane page = true) (hen : bit v 0 ≠ bit (heldReg s (aCTRL page)) 0)
    (hdbg : isPressPage page = true → bit v 7 = bit (heldReg s (aCTRL page)) 7 ∧ bit v 8 = false) :
    soloRefuse s d (aCTRL page) v = refuse 5 (aCTRL page) := by
  have hp : pageOf (aCTRL page) = page := pageOf_pageAddr _ _ (by decide)
  have ho : offOf (aCTRL page) = 8 := offOf_pageAddr _ _ (by decide)
  have hrw : bit (rwMask d page) 0 = true := ctrl_en_rw page hdp d hd
  have hxor : bit (heldReg s (aCTRL page) ^^^ v) 0 = true := by
    rw [bit_xor, bne_iff_ne]
    exact hen.symm
  have hsame : ((heldReg s (aCTRL page) ^^^ v) &&& (rwMask d page &&& ~~~4#32) == 0) = false := by
    rw [beq_eq_false_iff_ne]
    intro h0
    have := congrArg (bit · 0) h0
    simp [bit] at this hxor hrw
    simp_all
  have hbits : isPressPage page = true →
      ((heldReg s (aCTRL page) ^^^ v) &&& 0x80#32 != 0 || v &&& 0x100#32 != 0) = false := by
    intro hpress
    obtain ⟨h7, h8⟩ := hdbg hpress
    have e7 := and_twoPow_ne_zero (heldReg s (aCTRL page) ^^^ v) (i := 7) (by decide)
    have e8 := and_twoPow_ne_zero v (i := 8) (by decide)
    rw [show (0x80#32) = BitVec.twoPow 32 7 from rfl, show (0x100#32) = BitVec.twoPow 32 8 from rfl, e7, e8, h8, bit_xor, h7,
      bne_self_eq_false, Bool.or_false]
  unfold soloRefuse
  rw [hp, ho]
  simp only [hsolo, hdp, statReg, hsame, Bool.and_false]
  by_cases hpress : isPressPage page = true
  · rw [hbits hpress]
    simp
  · have : ¬ (0x20 ≤ page.val ∧ page.val ≤ 0x2F) := by simpa [isPressPage] using hpress
    simp [this]

/-- Settles O10: `soloRefuse` refuses both, and the refusal is recorded on the page. -/
theorem refusedHostWriteOutsideSolo : Obligations.RefusedHostWriteOutsideSolo := by
  unfold Obligations.RefusedHostWriteOutsideSolo
  refine ⟨fun s page w d hs hserved hd hsolo hdp hen hdbg => ?_, fun s x d hs hbus hserved hd hsolo hdp ho hstat hcrc => ?_⟩
  · have hp : pageOf (aCTRL page) = page := pageOf_pageAddr _ _ (by decide)
    have hpage : page.val ≠ pgHOSTIF := fun h => absurd (h ▸ hdp) (by decide)
    have hrst : aCTRL page ≠ aSYS_RSTCMD := fun h => by
      have := congrArg pageOf h
      rw [hp] at this
      exact absurd (this ▸ hdp) (by decide)
    refine ⟨_, rfl, ?_⟩
    unfold writeAt
    rw [hostWrite_served (x := ⟨aCTRL page, w.lvl, w.be, w.v⟩) hserved hd (busAddr_pageAddr _ _ (by decide) (by decide)) hrst,
      pageWrite_of_soloRefuse hd (soloRefuse_en hd hsolo hdp hen hdbg) (by decide), hp]
    exact refusedWith_of_errcap hs (by decide) hpage
  · have haddr := eq_of_isPageAddr (isPageAddr_of_regAt hd)
    have hpage : pageOf x.addr ≠ pgHOSTIF := fun h => absurd (h ▸ hdp) (by decide)
    have hrst : x.addr ≠ aSYS_RSTCMD := fun h => by rw [h] at hdp; exact absurd hdp (by decide)
    have hcrc' : ¬ (pageOf x.addr = pgBASIN ∧ offOf x.addr = 0x60) := fun ⟨h1, h2⟩ => by
      rw [h1, h2] at haddr
      exact hcrc haddr
    have href : soloRefuse s d x.addr x.v =
        refuse (if isPressPage (pageOf x.addr) ∧ offOf x.addr = 0x8C then 7 else 5) x.addr := by
      unfold soloRefuse
      simp only [List.mem_cons, List.not_mem_nil, or_false, not_or] at ho
      obtain ⟨h8, h10, h14, h18, h1c⟩ := ho
      simp only [hsolo, hdp, hstat, h8, h10, h14, h18, h1c, hcrc', isPressPage]
      by_cases hbrk : 0x20 ≤ pageOf x.addr ∧ pageOf x.addr ≤ 0x2F ∧ offOf x.addr = 0x8C
      · simp [hbrk]
      · simp [hbrk, and_assoc]
    refine ⟨_, rfl, ?_⟩
    rw [hostWrite_served hserved hd hbus.symm hrst, pageWrite_of_soloRefuse hd href (by split <;> decide)]
    exact refusedWith_of_errcap hs (by split <;> decide) hpage

/-! ### Plain registers -/

theorem remapGroup_of_lt {o : Nat} (h : o < 0x100) : remapGroup o = none := by
  unfold remapGroup
  simp [show ¬ 0x100 ≤ o by omega, show ¬ 0x110 ≤ o by omega, show ¬ 0x120 ≤ o by omega, show ¬ 0x140 ≤ o by omega]
theorem ite_eq_of {α : Type} {p : Prop} [Decidable p] {x y z : α} (hx : p → x = z) (hy : ¬ p → y = z) :
    (if p then x else y) = z := by
  split
  · exact hx ‹_›
  · exact hy ‹_›

/-- A register that is not an acting one has no effect but its store. -/
theorem pageAct_of_plain {direct : Bool} {tk : Option Word} {lvl a : Nat} {old new v : Word} {s : State}
    (h : actingReg (pageOf a) (offOf a) = false) : pageAct direct tk lvl a old new v s = (s, false) := by
  unfold pageAct
  dsimp only
  generalize pageOf a = p at h ⊢
  generalize offOf a = o at h ⊢
  refine ite_eq_of (fun hp => ?prot) fun _ => ite_eq_of (fun hp => ?_) fun _ => ite_eq_of (fun hp => ?_) fun _ =>
    ite_eq_of (fun hp => ?_) fun _ => ite_eq_of (fun hp => ?_) fun _ => ite_eq_of (fun hp => ?_) fun _ =>
    ite_eq_of (fun hp => ?_) fun _ => ite_eq_of (fun hp => ?_) fun _ => ite_eq_of (fun hp => ?_) fun _ =>
    ite_eq_of (fun hp => ?ecc) fun _ => ite_eq_of (fun hp => ?portg) fun _ => ite_eq_of (fun hp => ?aes3) fun _ =>
    ite_eq_of (fun hp => ?_) fun _ => ite_eq_of (fun hp => ?_) fun _ => ite_eq_of (fun hp => ?stream) fun _ =>
    ite_eq_of (fun hp => ?_) fun _ => ite_eq_of (fun hp => ?_) fun _ => ite_eq_of (fun hp => ?jet) fun _ =>
    ite_eq_of (fun hp => ?_) fun _ => ite_eq_of (fun hp => ?_) fun _ => ite_eq_of (fun hp => ?_) fun _ =>
    ite_eq_of (fun hp => ?_) fun _ => ite_eq_of (fun hp => ?_) fun _ => rfl
  case prot =>
    subst hp
    simp only [actingReg] at h
    have hperm : ¬ (0x300 ≤ o ∧ (o - 0x300) % 12 = 8 ∧ o < 0x3C0 ∧ lvl = 0) := fun ⟨h1, h2, _⟩ => by simp [h1, h2] at h
    rw [if_neg hperm]
  case ecc =>
    subst hp
    simp [actingReg] at h
    simp [h, remapGroup_of_lt]
  case portg =>
    have ho : ¬ 0x100 ≤ o := fun ho => by simp [actingReg, hp, ho] at h
    simp [ho, show ¬ 0x120 ≤ o by omega, show ¬ 0x140 ≤ o by omega]
  case jet =>
    have ho : ¬ 0x100 ≤ o := fun ho => by simp [actingReg, hp, ho] at h
    rw [if_neg fun hr => ho hr.1, if_neg (by omega)]
  case aes3 =>
    subst hp
    simp only [actingReg] at h
    have ho : ¬ (0x100 ≤ o ∧ o < 0x120 ∧ bit v 27) := fun ⟨h1, h2, _⟩ => by simp [h1, h2] at h
    rw [if_neg ho]
  case stream =>
    have hsel : o ≠ 0x48 ∧ o ≠ 0x4C ∧ ¬ (0x90 ≤ o ∧ o < 0xA0) := by
      rcases hp with rfl | rfl <;> simp [actingReg] at h <;> omega
    obtain ⟨h48, h4c, hclk⟩ := hsel
    rw [if_neg h48, if_neg fun ho => h4c ho.1, if_neg fun ho => hclk ⟨ho.2.1, ho.2.2.1⟩]
  all_goals
    subst hp
    simp [actingReg] at h
    simp [h]

theorem bit_and (v w : Word) (i : Nat) : bit (v &&& w) i = (bit v i && bit w i) := BitVec.getLsbD_and

theorem bit_not {i : Nat} (hi : i < 32) (v : Word) : bit (~~~v) i = !bit v i := by
  simp [bit, hi]

theorem findReg_some {o : Nat} {l : List RegDef} {d : RegDef} (h : findReg o l = some d) :
    d ∈ l ∧ d.off ≤ o ∧ o < d.off + d.n * d.stride := by
  induction l with
  | nil => cases h
  | cons e t ih =>
    unfold findReg at h
    split at h
    · rename_i hc
      obtain rfl := Option.some.inj h
      exact ⟨List.mem_cons_self, hc.1, hc.2.1⟩
    · obtain ⟨hm, hr⟩ := ih h
      exact ⟨List.mem_cons_of_mem _ hm, hr⟩

theorem ctrl_single : ∀ p : Fin 64, ∀ d ∈ pageRegs p, d.off ≤ 8 → d.off + d.n * d.stride ≤ 12 := by decide

theorem headRo_off {p o : Nat} {d : RegDef} (h : headRo p o = some d) : d.off = o ∧ d.rw = 0 ∧ d.w1c = 0 ∧ d.rwp = 0 := by
  unfold headRo at h
  split at h
  · obtain rfl := Option.some.inj h
    exact ⟨rfl, rfl, rfl, rfl⟩
  · cases h

theorem off_ne_ctrl {a : Nat} {d : RegDef} (h : regAt a = some d) (ha : offOf a ≠ 8) (h4 : offOf a % 4 = 0) : d.off ≠ 8 ∧ d.off ≤ offOf a := by
  have hp := isPageAddr_of_regAt h
  have hlt := pageOf_lt_of_isPageAddr hp
  rw [regAt, if_pos hp] at h
  rcases Option.or_eq_some_iff.1 h with h | ⟨_, h⟩
  · obtain ⟨hm, hlo, hhi⟩ := findReg_some h
    refine ⟨fun h8 => ?_, hlo⟩
    have := ctrl_single ⟨pageOf a, hlt⟩ d hm h8.le
    omega
  · exact ⟨(headRo_off h).1 ▸ ha, (headRo_off h).1.le⟩

theorem ne_of_plain {a b : Nat} (h : actingReg (pageOf a) (offOf a) = false) (hb : actingReg (pageOf b) (offOf b) = true) :
    a ≠ b := fun hab => by simp [hab, hb] at h

/-- A register that is not an acting one is stored as it stands. -/
theorem regAct_of_plain {direct : Bool} {tk : Option Word} {l a : Nat} {old new v : Word} {s : State}
    (h : actingReg (pageOf a) (offOf a) = false) (ho : offOf a ∉ [0x8, 0x18, 0x1C]) :
    regAct direct tk l a old new v s = (rset a new s, false) := by
  simp only [List.mem_cons, List.not_mem_nil, or_false, not_or] at ho
  obtain ⟨h8, h18, h1c⟩ := ho
  have hkeep : keepMode a old new = (new, false) := by
    unfold keepMode
    rw [if_neg (ne_of_plain h (by decide)), if_neg (ne_of_plain h (by decide))]
  have hact (u : State) : pageAct direct tk l a old new v u = (u, false) := pageAct_of_plain h
  unfold regAct
  generalize offOf a = o at h8 h18 h1c
  simp only [h18, h1c, h8, if_false, hkeep, hact, Bool.false_eq_true]

/-- The write of such a register, where it does not wait for the frame boundary, is its store. -/
theorem landPage_of_plain {s : State} {l a : Nat} {old new v : Word}
    (h : actingReg (pageOf a) (offOf a) = false) (ho : offOf a ∉ [0x8, 0x18, 0x1C]) (hw : waitsForFrame s a = false) :
    landPage l a old new v s = rset a new s := by
  have hrst : a ≠ aSYS_RSTCMD := ne_of_plain h (by decide)
  have hboot : a ≠ aBOOT_CMD := ne_of_plain h (by decide)
  have hfreeze : a ≠ aRECORDER_FREEZE := ne_of_plain h (by decide)
  have hsolo : ¬ (isSolo s ∧ soloLater (pageOf a) (offOf a)) := by
    unfold waitsForFrame at hw
    simpa using hw
  have hctrl : offOf a ≠ 8 := fun h8 => ho (by simp [h8])
  unfold landPage
  rw [regAct_of_plain h ho]
  generalize pageOf a = p at hsolo
  generalize offOf a = o at hsolo hctrl
  simp only [hrst, hboot, hfreeze, hsolo, hctrl, if_false, and_false]

theorem bit_newWord {d : RegDef} {a l : Nat} {old v : Word} (hd : regAt a = some d) (ha4 : a % 4 = 0)
    (h : actingReg (pageOf a) (offOf a) = false) (h8 : offOf a ≠ 8) {i : Nat} (hi : i < 32) :
    bit (newWord d (pageOf a) l old v) i =
      ((if bit (w32 d.rw) i || (decide (l = 0) && bit (w32 d.rwp) i) then bit v i else bit old i)
        && !(bit (w32 d.w1c) i && bit v i)) := by
  have hp := isPageAddr_of_regAt hd
  obtain ⟨hoff, hle⟩ := off_ne_ctrl hd h8 (by unfold offOf; simp [isPageAddr] at hp; omega)
  have hmask : rwMask d (pageOf a) = w32 d.rw := by
    have hport : ¬ (0x10 ≤ pageOf a ∧ pageOf a ≤ 0x12 ∧ 0x100 ≤ d.off ∧ d.off < 0x120) := fun ⟨h1, h2, h3, _⟩ => by
      have ho : 0x100 ≤ offOf a := h3.trans hle
      simp [actingReg, h1, show pageOf a ≤ 0x13 by omega, ho] at h
    unfold rwMask
    rw [if_neg hoff, if_neg hport]
  have hnew : newWord d (pageOf a) l old v =
      maskWord (if l = 0 then w32 d.rw ||| w32 d.rwp else w32 d.rw) old v &&& ~~~(v &&& w32 d.w1c) := by
    unfold newWord
    rw [if_neg fun hf => hoff hf.2.1, hmask]
  have hsel : bit (if l = 0 then w32 d.rw ||| w32 d.rwp else w32 d.rw) i =
      (bit (w32 d.rw) i || (decide (l = 0) && bit (w32 d.rwp) i)) := by
    by_cases hl : l = 0
    · rw [if_pos hl, bit_or]
      simp [hl]
    · simp [hl]
  rw [hnew, maskWord, bit_and, bit_not hi, bit_and, bit_or, bit_and, bit_not hi, bit_and, hsel]
  cases bit (w32 d.rw) i || (decide (l = 0) && bit (w32 d.rwp) i) <;> simp [Bool.and_comm]

/-- The bits that a write at a level may act by. -/
def actBits (d : RegDef) (l : Nat) (v : Word) : Word :=
  v &&& (w32 d.w1s ||| w32 d.wo ||| w32 d.w1c ||| (if l = 0 then w32 d.rwp else 0))

/-- A write that no rule refuses lands on its page; where it keeps an RWP field, that is a fault with status 3 (R7). -/
theorem pageWrite_of_ruleOk {s : State} {l a : Nat} {v : Word} {d : RegDef} (hd : regAt a = some d)
    (hok : ruleOk s l a v = true) (hrst : a ≠ aSYS_RSTCMD) (hsrst : ¬ (offOf a = 8 ∧ bit v 1 ∧ bit (heldReg s a) 0)) :
    pageWrite l a v s =
      let t := landPage l a (heldReg s a) (newWord d (pageOf a) l (heldReg s a) v) (actBits d l v) s
      if rwpKept s l a v then (protFault true l a true false t, stsRwp) else (t, 0) := by
  simp only [ruleOk, hd, Bool.and_eq_true, Option.isNone_iff_eq_none] at hok
  obtain ⟨hsolo, hblock⟩ := hok
  unfold pageWrite rwpKept
  simp only [hd, hsolo, hblock, hrst, false_and, if_false, if_neg hsrst]
  split <;> rfl

/-- The registers that record a fault or the end of an access hold no RWP field. -/
theorem rwp_of_recorded : ∀ k ∈ protFaultRegs ++ endRegs, ∀ d ∈ regAt k, d.rwp = 0 := by decide

/-- An RWP field is kept where one is there. -/
theorem rwp_ne_zero_of_kept {s : State} {l a : Nat} {v : Word} {d : RegDef} (hd : regAt a = some d)
    (h : rwpKept s l a v = true) : d.rwp ≠ 0 := fun h0 => by
  simp [rwpKept, hd, rwpDiscard, h0, w32] at h

/-- Settles O8: the write is a store of the new word, the fault of a kept RWP field, and the end of the access. -/
theorem plainRegisterWriteFollowsFieldTypes : Obligations.PlainRegisterWriteFollowsFieldTypes := by
  unfold Obligations.PlainRegisterWriteFollowsFieldTypes
  intro s x d hs hbus hallowed hd hact ho hwait
  obtain ⟨hserved, hok⟩ := hallowed
  have hrst : x.addr ≠ aSYS_RSTCMD := ne_of_plain hact (by decide)
  have h8 : offOf x.addr ≠ 8 := fun h8 => ho (by simp [h8])
  have h4 : x.addr % 4 = 0 := by unfold busAddr at hbus; omega
  have hpage := pageWrite_of_ruleOk hd hok hrst fun hf => h8 hf.1
  rw [landPage_of_plain hact ho hwait] at hpage
  refine ⟨_, rfl, ?_⟩
  rw [hostWrite_served hserved hd hbus.symm hrst, hpage]
  have hnew i (hi : i < 32) := bit_newWord (l := x.lvl.val) (old := heldReg s x.addr) (v := x.v) hd h4 hact h8 hi
  generalize newWord d (pageOf x.addr) x.lvl.val (heldReg s x.addr) x.v = new at hnew ⊢
  have hwf : spWf resetWord (rset x.addr new s).regs = true := rset_regs_wf hs.1 _ _
  have herr : x.addr ≠ aHOSTIF_LASTERR := ne_of_plain hact (by decide)
  have haddr : x.addr ≠ aHOSTIF_LASTADDR := ne_of_plain hact (by decide)
  have hone : Within [.regs] (· = x.addr) s (rset x.addr new s) := (Within.refl ..).rset new (by decide) rfl
  have hbits {t : State} (ht : rget t x.addr = rget (rset x.addr new s) x.addr) (i : Nat) (hi : i < 32) :
      bit (rget t x.addr) i = ((if bit (w32 d.rw) i || (decide (x.lvl = 0) && bit (w32 d.rwp) i) then bit x.v i
        else bit (heldReg s x.addr) i) && !(bit (w32 d.w1c) i && bit x.v i)) := by
    rw [ht, rget_rset_same hs.1, hnew i hi, show decide (x.lvl.val = 0) = decide (x.lvl = 0) from decide_eq_decide.2 Fin.val_eq_zero_iff]
  by_cases hkept : rwpKept s x.lvl.val x.addr x.v = true
  · have hfault := within_protFault_regs (s := rset x.addr new s) true x.lvl.val x.addr true false
    have hend := within_endAccess_regs (s := protFault true x.lvl.val x.addr true false (rset x.addr new s)) (l := x.lvl)
      (a := x.addr) (status := stsRwp) true
    have hunrec : x.addr ∉ protFaultRegs ++ endRegs := fun hm => rwp_ne_zero_of_kept hd hkept (rwp_of_recorded _ hm _ hd)
    rw [List.mem_append, not_or] at hunrec
    have hpages {b : Nat} (hb : pageOf b ∉ [pgPROT, pgHOSTIF, pgINTC]) : b ∉ protFaultRegs ∧ b ∉ endRegs :=
      ⟨fun hm => hb (((by decide : ∀ k ∈ protFaultRegs, pageOf k ∈ [pgPROT, pgHOSTIF, pgINTC])) b hm),
        fun hm => hb (((by decide : ∀ k ∈ endRegs, pageOf k ∈ [pgPROT, pgHOSTIF, pgINTC])) b hm)⟩
    have hfwf : spWf resetWord (protFault true x.lvl.val x.addr true false (rset x.addr new s)).regs = true :=
      (((tidy_of_canonical hs).rset x.addr new).protFault ..).regs_wf
    rw [if_pos hkept]
    refine ⟨hbits ((hend.2 _ hunrec.2).trans (hfault.2 _ hunrec.1)),
      fun p hp => ((hone.1 p hp).trans (hfault.1 p hp)).trans (hend.1 p hp), ?_⟩
    rw [if_pos hkept]
    refine ⟨lastStatus_endAccess hfwf (by decide : stsRwp < 256), fun b hb hpage => ?_⟩
    obtain ⟨hb1, hb2⟩ := hpages hpage
    exact (hend.2 b hb2).trans ((hfault.2 b hb1).trans (hone.2 b hb))
  · rw [if_neg hkept]
    have hend := within_endAccess_regs (s := rset x.addr new s) (l := x.lvl) (a := x.addr) (status := 0) true
    refine ⟨hbits (rget_endAccess_ok _ herr haddr), fun p hp => (hone.1 p hp).trans (hend.1 p hp), ?_⟩
    rw [if_neg hkept]
    refine ⟨lastStatus_endAccess hwf (by decide : 0 < 256), fun b hb => ?_⟩
    simp only [List.mem_cons, List.not_mem_nil, or_false, not_or] at hb
    obtain ⟨hbx, hberr, hbaddr⟩ := hb
    exact (rget_endAccess_ok _ hberr hbaddr).trans (hone.2 b hbx)

end Sys2Proof.Machine
end

section
/-!
PROOFS. Statements that a state outside the tables' ranges refutes.
-/

-- One declaration after another: side by side, the stacks of the threads exceed what memory the check allows.
set_option Elab.async false

namespace Sys2Proof.Machine

/-! ### O29: a waiting change whose key lies outside the Jet's gain table -/

/-- A key 0x380 words behind the start of the Jet's gain table, which has fewer points: its register would be the first
one of the page of SENSE. -/
def farKey : Nat := kJet + 4 * 0x380

/-- A device in operation with one change waiting, whose key lies outside every table. -/
def farWaitState : State :=
  { State.reset with
    boot := { BootSt.reset with held := .none }
    basin := { BasinSt.reset with waits := [⟨none, farKey, 1, none⟩] } }

/-- The start of the waiting change writes the register behind its key. -/
theorem slotWaitStart_farKey : rget (slotWaitStart farKey farWaitState) (aJET_JGAIN 0x380) = 1 := by decide

/-- Refutes O29: the keys of waiting changes are not bounded, and the start of a change with a key outside the Jet's gain
table writes a register of the page of SENSE. -/
theorem not_basinEventFrame : ¬ Obligations.BasinEventFrame := by
  intro h
  obtain ⟨-, hregs⟩ := h (.slotWaitStart farKey) farWaitState (slotWaitStart farKey farWaitState) rfl rfl
  have hzero : rget farWaitState (aJET_JGAIN 0x380) = 0 := by decide
  have hsame := hregs (aJET_JGAIN 0x380) (by decide)
  rw [slotWaitStart_farKey, hzero] at hsame
  exact absurd hsame (by decide)

/-! ### O44: a due change of a port that the group does not have -/

/-- A port number for which the word of the acting input mask would be the first one of the page of SENSE. -/
def farPort : Nat := (pageAddr pgSENSE 0 - aPORTG_ACT_INMASK 0 0) / 4

/-- A device in operation whose port group 0 runs; a change of that port's input mask is due. -/
def farPortState : State :=
  { State.reset with
    boot := { BootSt.reset with held := .none }
    clk := { ClockSt.reset with lockM := true }
    ports := { PortSt.reset with
      groups := PortSt.reset.groups.set 0
        { GroupSt.reset with st := .run, ref := 100, chg := [⟨farPort, .inMask, 1, .time 0, none⟩] } } }

/-- A group frame at the rate of the group's reference, with no samples. -/
def farPortFrame : GroupIn := { t := 0, rate := 100, bits := 0, phase := 0, sdi := [] }

/-- The group frame lets the change act, and its mask goes into the page of SENSE. -/
theorem groupTick_farPort : rget (groupTick 0 farPortFrame farPortState) (pageAddr pgSENSE 0) = 1 := by decide

/-- Refutes O44: the port of a waiting change is not bounded, and a group frame that lets a change of a port outside the
group act writes a register of the page of SENSE, which no port event may touch. -/
theorem not_portWritesAes3AndConverters : ¬ Obligations.PortWritesAes3AndConverters := by
  intro h
  obtain ⟨-, -, -, -, -, -, -, -, -, -, hframe⟩ := h
  obtain ⟨-, hregs⟩ := hframe (.groupFrame 0 farPortFrame) farPortState (groupTick 0 farPortFrame farPortState) rfl
    (fun _ _ _ => rfl) rfl
  have hzero : rget farPortState (pageAddr pgSENSE 0) = 0 := by decide
  have hsame := hregs (pageAddr pgSENSE 0) (by decide)
  rw [groupTick_farPort, hzero] at hsame
  exact absurd hsame (by decide)

end Sys2Proof.Machine
end

section
/-!
PROOFS. Footprints: which parts of the state an operation may change, for the operations that the statements about whole
blocks go through; none of them sets the number of the frame or takes an entry off the list of released ones.
-/

namespace Sys2Proof.Machine

-- One theorem after the other: the threads of many at once do not fit the memory limit.
set_option Elab.async false

/-! ### Footprints -/

theorem sub_of {α : Type} {a b c : List α} (h : b ⊆ c) (h' : a ⊆ b) : a ⊆ c := fun _ hx => h (h' hx)

/-- No part but the listed ones differs (`KeepsBut`, wrapped so that the operations' lemmas chain). -/
structure Keeps (l : List Part) (s t : State) : Prop where
  but : KeepsBut l s t
  frame : t.tb.frame = s.tb.frame
  landing : t.comp.landing = s.comp.landing

theorem Keeps.refl (pl : List Part) (s : State) : Keeps pl s s := ⟨fun p _ => by cases p <;> rfl, rfl, rfl⟩

variable {pl : List Part} {s₀ s : State}

/-- An operation that changes listed parts only. -/
theorem Keeps.parts (h : Keeps pl s₀ s) {t : State} {ps : List Part} (hp : ps ⊆ pl) (ht : KeepsBut ps s t)
    (hf : t.tb.frame = s.tb.frame := by rfl)
    (hc : t.comp.landing = s.comp.landing := by rfl) : Keeps pl s₀ t :=
  ⟨fun r hr => (h.but r hr).trans (ht r fun hm => hr (hp hm)), hf.trans h.frame, hc.trans h.landing⟩

theorem Keeps.rset (h : Keeps pl s₀ s) (a : Nat) (v : Word)
    (hl : [Part.regs] ⊆ pl := by exact sub_of (by assumption) (by decide)) :
    Keeps pl s₀ (rset a v s) :=
  h.parts hl fun p hp => by
    cases p
    case regs => exact absurd List.mem_cons_self hp
    all_goals rfl

theorem Keeps.wrByte (h : Keeps pl s₀ s) (a : Nat) (v : Byte)
    (hl : [Part.mem] ⊆ pl := by exact sub_of (by assumption) (by decide)) :
    Keeps pl s₀ (wrByte a v s) :=
  h.parts hl fun p hp => by
    cases p
    case mem => exact absurd List.mem_cons_self hp
    all_goals rfl

theorem Keeps.cwByte (h : Keeps pl s₀ s) (a : Nat) (v : Byte)
    (hl : [Part.cist] ⊆ pl := by exact sub_of (by assumption) (by decide)) :
    Keeps pl s₀ (cwByte a v s) :=
  h.parts hl fun p hp => by
    cases p
    case cist => exact absurd List.mem_cons_self hp
    all_goals rfl

theorem Keeps.setHost (h : Keeps pl s₀ s) (x : HostSt)
    (hl : [Part.host] ⊆ pl := by exact sub_of (by assumption) (by decide)) :
    Keeps pl s₀ ({ s with host := x }) :=
  h.parts hl fun p hp => by
    cases p
    case host => exact absurd List.mem_cons_self hp
    all_goals rfl

theorem Keeps.setDpll (h : Keeps pl s₀ s) (x : DpllSt)
    (hl : [Part.dpll] ⊆ pl := by exact sub_of (by assumption) (by decide)) :
    Keeps pl s₀ (setDpll x s) :=
  h.parts hl fun p hp => by
    cases p
    case dpll => exact absurd List.mem_cons_self hp
    all_goals rfl

theorem Keeps.setClk (h : Keeps pl s₀ s) (x : ClockSt)
    (hl : [Part.clk] ⊆ pl := by exact sub_of (by assumption) (by decide)) :
    Keeps pl s₀ (setClk x s) :=
  h.parts hl fun p hp => by
    cases p
    case clk => exact absurd List.mem_cons_self hp
    all_goals rfl

theorem Keeps.setBoot (h : Keeps pl s₀ s) (x : BootSt)
    (hl : [Part.boot] ⊆ pl := by exact sub_of (by assumption) (by decide)) :
    Keeps pl s₀ (setBoot x s) :=
  h.parts hl fun p hp => by
    cases p
    case boot => exact absurd List.mem_cons_self hp
    all_goals rfl

theorem Keeps.setTb (h : Keeps pl s₀ s) (x : TimebaseSt)
    (hl : [Part.tb] ⊆ pl := by exact sub_of (by assumption) (by decide)) (hf : x.frame = s.tb.frame := by rfl) :
    Keeps pl s₀ (setTb x s) :=
  h.parts hl (hf := hf) (fun p hp => by
    cases p
    case tb => exact absurd List.mem_cons_self hp
    all_goals rfl)

theorem Keeps.setGalley (h : Keeps pl s₀ s) (x : GalleySt)
    (hl : [Part.galley] ⊆ pl := by exact sub_of (by assumption) (by decide)) :
    Keeps pl s₀ (setGalley x s) :=
  h.parts hl fun p hp => by
    cases p
    case galley => exact absurd List.mem_cons_self hp
    all_goals rfl

theorem Keeps.setBasin (h : Keeps pl s₀ s) (x : BasinSt)
    (hl : [Part.basin] ⊆ pl := by exact sub_of (by assumption) (by decide)) :
    Keeps pl s₀ (setBasin x s) :=
  h.parts hl fun p hp => by
    cases p
    case basin => exact absurd List.mem_cons_self hp
    all_goals rfl

theorem Keeps.setNet (h : Keeps pl s₀ s) (x : NetSt)
    (hl : [Part.net] ⊆ pl := by exact sub_of (by assumption) (by decide)) :
    Keeps pl s₀ (setNet x s) :=
  h.parts hl fun p hp => by
    cases p
    case net => exact absurd List.mem_cons_self hp
    all_goals rfl

theorem Keeps.setTwinSt (h : Keeps pl s₀ s) (x : TwinSt)
    (hl : [Part.twin] ⊆ pl := by exact sub_of (by assumption) (by decide)) :
    Keeps pl s₀ (setTwinSt x s) :=
  h.parts hl fun p hp => by
    cases p
    case twin => exact absurd List.mem_cons_self hp
    all_goals rfl

theorem Keeps.setArb (h : Keeps pl s₀ s) (x : ArbSt)
    (hl : [Part.arb] ⊆ pl := by exact sub_of (by assumption) (by decide)) :
    Keeps pl s₀ (setArb x s) :=
  h.parts hl fun p hp => by
    cases p
    case arb => exact absurd List.mem_cons_self hp
    all_goals rfl

theorem Keeps.setPtp (h : Keeps pl s₀ s) (x : PtpSt)
    (hl : [Part.ptp] ⊆ pl := by exact sub_of (by assumption) (by decide)) :
    Keeps pl s₀ (setPtp x s) :=
  h.parts hl fun p hp => by
    cases p
    case ptp => exact absurd List.mem_cons_self hp
    all_goals rfl

theorem Keeps.setCist (h : Keeps pl s₀ s) (x : CistSt)
    (hl : [Part.cistern] ⊆ pl := by exact sub_of (by assumption) (by decide)) :
    Keeps pl s₀ (setCist x s) :=
  h.parts hl fun p hp => by
    cases p
    case cistern => exact absurd List.mem_cons_self hp
    all_goals rfl

theorem Keeps.setFab (h : Keeps pl s₀ s) (x : FabSt)
    (hl : [Part.fab] ⊆ pl := by exact sub_of (by assumption) (by decide)) :
    Keeps pl s₀ (setFab x s) :=
  h.parts hl fun p hp => by
    cases p
    case fab => exact absurd List.mem_cons_self hp
    all_goals rfl

theorem Keeps.setSense (h : Keeps pl s₀ s) (x : SenseSt)
    (hl : [Part.sense] ⊆ pl := by exact sub_of (by assumption) (by decide)) :
    Keeps pl s₀ (setSense x s) :=
  h.parts hl fun p hp => by
    cases p
    case sense => exact absurd List.mem_cons_self hp
    all_goals rfl

theorem Keeps.setNow (h : Keeps pl s₀ s) (x : Nat)
    (hl : [Part.now] ⊆ pl := by exact sub_of (by assumption) (by decide)) :
    Keeps pl s₀ ({ s with now := x }) :=
  h.parts hl fun p hp => by
    cases p
    case now => exact absurd List.mem_cons_self hp
    all_goals rfl

theorem Keeps.setFreeCtr (h : Keeps pl s₀ s) (x : Nat)
    (hl : [Part.freeCtr] ⊆ pl := by exact sub_of (by assumption) (by decide)) :
    Keeps pl s₀ ({ s with freeCtr := x }) :=
  h.parts hl fun p hp => by
    cases p
    case freeCtr => exact absurd List.mem_cons_self hp
    all_goals rfl

theorem Keeps.setFrozen (h : Keeps pl s₀ s) (x : List (Nat × Word))
    (hl : [Part.frozen] ⊆ pl := by exact sub_of (by assumption) (by decide)) :
    Keeps pl s₀ ({ s with frozen := x }) :=
  h.parts hl fun p hp => by
    cases p
    case frozen => exact absurd List.mem_cons_self hp
    all_goals rfl

theorem Keeps.setSrst (h : Keeps pl s₀ s) (x : List Nat)
    (hl : [Part.srst] ⊆ pl := by exact sub_of (by assumption) (by decide)) :
    Keeps pl s₀ ({ s with srst := x }) :=
  h.parts hl fun p hp => by
    cases p
    case srst => exact absurd List.mem_cons_self hp
    all_goals rfl

theorem Keeps.setLandNext (h : Keeps pl s₀ s) (x : List (Nat × Word))
    (hl : [Part.landNext] ⊆ pl := by exact sub_of (by assumption) (by decide)) :
    Keeps pl s₀ ({ s with landNext := x }) :=
  h.parts hl fun p hp => by
    cases p
    case landNext => exact absurd List.mem_cons_self hp
    all_goals rfl

theorem Keeps.setComp (h : Keeps pl s₀ s) (x : CompositorSt)
    (hl : [Part.comp,
      ] ⊆ pl := by exact sub_of (by assumption) (by decide)) (hc : x.landing = s.comp.landing := by rfl) :
    Keeps pl s₀ ({ s with comp := x }) :=
  h.parts hl (hc := hc) (fun p hp => by
    cases p
    case comp => exact absurd List.mem_cons_self hp
    all_goals rfl)

theorem Keeps.setPorts (h : Keeps pl s₀ s) (x : PortSt)
    (hl : [Part.ports] ⊆ pl := by exact sub_of (by assumption) (by decide)) :
    Keeps pl s₀ ({ s with ports := x }) :=
  h.parts hl fun p hp => by
    cases p
    case ports => exact absurd List.mem_cons_self hp
    all_goals rfl

theorem Keeps.setShedMeas (h : Keeps pl s₀ s) (x : Nat)
    (hl : [Part.shedMeas] ⊆ pl := by exact sub_of (by assumption) (by decide)) :
    Keeps pl s₀ ({ s with shedMeas := x }) :=
  h.parts hl fun p hp => by
    cases p
    case shedMeas => exact absurd List.mem_cons_self hp
    all_goals rfl

theorem Keeps.setShed (h : Keeps pl s₀ s) (x : Nat)
    (hl : [Part.shed] ⊆ pl := by exact sub_of (by assumption) (by decide)) :
    Keeps pl s₀ ({ s with shed := x }) :=
  h.parts hl fun p hp => by
    cases p
    case shed => exact absurd List.mem_cons_self hp
    all_goals rfl

theorem Keeps.setShedT (h : Keeps pl s₀ s) (x : List Nat)
    (hl : [Part.shedT] ⊆ pl := by exact sub_of (by assumption) (by decide)) :
    Keeps pl s₀ ({ s with shedT := x }) :=
  h.parts hl fun p hp => by
    cases p
    case shedT => exact absurd List.mem_cons_self hp
    all_goals rfl

theorem Keeps.setPress (h : Keeps pl s₀ s) (p : Fin 16) (x : PressSt)
    (hl : [Part.press] ⊆ pl := by exact sub_of (by assumption) (by decide)) :
    Keeps pl s₀ (setPress p x s) :=
  h.parts hl fun r hp => by
    cases r
    case press => exact absurd List.mem_cons_self hp
    all_goals rfl

/-! ### Branches and folds -/

theorem Keeps.ite {p : Prop} [Decidable p] {t : State} (hs : Keeps pl s₀ s) (ht : Keeps pl s₀ t) :
    Keeps pl s₀ (if p then s else t) := by split <;> assumption

theorem Keeps.ite_fst {β : Type} {p : Prop} [Decidable p] {a b : State × β} (ha : Keeps pl s₀ a.1)
    (hb : Keeps pl s₀ b.1) :
    Keeps pl s₀ (if p then a else b).1 := by split <;> assumption

theorem Keeps.ite_snd {β : Type} {p : Prop} [Decidable p] {a b : β × State} (ha : Keeps pl s₀ a.2)
    (hb : Keeps pl s₀ b.2) :
    Keeps pl s₀ (if p then a else b).2 := by split <;> assumption

theorem Keeps.foldl {α : Type} {f : State → α → State} {l : List α} (h : Keeps pl s₀ s)
    (hf : ∀ u x, Keeps pl s₀ u → Keeps pl s₀ (f u x)) : Keeps pl s₀ (l.foldl f s) :=
  List.foldlRecOn _ _ h fun _ hu x _ => hf _ x hu

theorem Keeps.foldl_fst {α β : Type} {f : State × β → α → State × β} {l : List α} {a : State × β}
    (h : Keeps pl s₀ a.1)
    (hf : ∀ (u : State × β) x, Keeps pl s₀ u.1 → Keeps pl s₀ (f u x).1) : Keeps pl s₀ (l.foldl f a).1 :=
  List.foldlRecOn (motive := fun a : State × β => Keeps pl s₀ a.1) _ _ h fun _ hu x _ => hf _ x hu

theorem Keeps.foldl_snd {α β : Type} {f : β × State → α → β × State} {l : List α} {a : β × State}
    (h : Keeps pl s₀ a.2)
    (hf : ∀ (u : β × State) x, Keeps pl s₀ u.2 → Keeps pl s₀ (f u x).2) : Keeps pl s₀ (l.foldl f a).2 :=
  List.foldlRecOn (motive := fun a : β × State => Keeps pl s₀ a.2) _ _ h fun _ hu x _ => hf _ x hu

theorem Keeps.rput (h : Keeps pl s₀ s) (a hi lo v : Nat)
    (hl : [Part.regs] ⊆ pl := by exact sub_of (by assumption) (by decide)) :
    Keeps pl s₀ (rput a hi lo v s) :=
  h.rset ..

theorem Keeps.cnt (h : Keeps pl s₀ s) (a n : Nat)
    (hl : [Part.regs] ⊆ pl := by exact sub_of (by assumption) (by decide)) :
    Keeps pl s₀ (cnt a s n) :=
  h.rset ..

theorem Keeps.peak (h : Keeps pl s₀ s) (a n : Nat)
    (hl : [Part.regs] ⊆ pl := by exact sub_of (by assumption) (by decide)) :
    Keeps pl s₀ (peak a n s) :=
  .ite (h.rset ..) h

theorem Keeps.iset (h : Keeps pl s₀ s) (p b : Nat)
    (hl : [Part.regs] ⊆ pl := by exact sub_of (by assumption) (by decide)) :
    Keeps pl s₀ (iset p b s) :=
  h.rset ..

theorem Keeps.errcap (h : Keeps pl s₀ s) (p code addr : Nat)
    (hl : [Part.regs] ⊆ pl := by exact sub_of (by assumption) (by decide)) :
    Keeps pl s₀ (errcap p code addr s) :=
  .ite (h.rset ..) ((h.rset ..).rset ..)

theorem Keeps.alarm (h : Keeps pl s₀ s) (b : Nat)
    (hl : [Part.regs] ⊆ pl := by exact sub_of (by assumption) (by decide)) :
    Keeps pl s₀ (alarm b s) :=
  h.rset ..

theorem Keeps.wrWord (h : Keeps pl s₀ s) (a : Nat) (v : Word)
    (hl : [Part.mem] ⊆ pl := by exact sub_of (by assumption) (by decide)) :
    Keeps pl s₀ (wrWord a v s) :=
  (((h.wrByte ..).wrByte ..).wrByte ..).wrByte ..

theorem Keeps.wrWordBe (h : Keeps pl s₀ s) (a : Nat) (be : BitVec 4) (v : Word)
    (hl : [Part.mem] ⊆ pl := by exact sub_of (by assumption) (by decide)) :
    Keeps pl s₀ (wrWordBe a be v s) := by
  unfold Machine.wrWordBe
  extract_lets b
  have hb x0 (u : State) (hu : Keeps pl s₀ u) : Keeps pl s₀ (b x0 u) := .ite (hu.wrByte ..) hu
  exact hb _ _ (hb _ _ (hb _ _ (hb _ _ h)))

theorem Keeps.cwBytes (h : Keeps pl s₀ s) (a : Nat) (l : List Byte)
    (hl : [Part.cist] ⊆ pl := by exact sub_of (by assumption) (by decide)) :
    Keeps pl s₀ (cwBytes a l s) := by
  induction l generalizing a s with
  | nil => exact h
  | cons v t ih => exact ih (h.cwByte ..) _

theorem Keeps.freeWord (h : Keeps pl s₀ s)
    (hl : [Part.freeCtr] ⊆ pl := by exact sub_of (by assumption) (by decide)) :
    Keeps pl s₀ (freeWord s).2 :=
  h.setFreeCtr ..

theorem Keeps.advance (h : Keeps pl s₀ s) (t : Nat)
    (hl : [Part.now, .ptp] ⊆ pl := by exact sub_of (by assumption) (by decide)) :
    Keeps pl s₀ (advance t s) :=
  .ite h (.ite ((h.setNow ..).setPtp ..) (h.setNow ..))

theorem Keeps.voidFlight (h : Keeps pl s₀ s)
    (hl : [Part.galley, .basin, .cistern] ⊆ pl := by exact sub_of (by assumption) (by decide)) :
    Keeps pl s₀ (voidFlight s) :=
  h.parts hl fun r hr => by
    cases r
    case galley | cistern | basin => exact absurd (by decide) hr
    all_goals rfl

theorem Keeps.leaveRole (h : Keeps pl s₀ s) (t : TwinState)
    (hl : [Part.galley, .basin, .twin, .cistern] ⊆ pl := by exact sub_of (by assumption) (by decide)) :
    Keeps pl s₀ (leaveRole t s) :=
  .ite (.ite h.voidFlight h) ((Keeps.ite h.voidFlight h).setTwinSt ..)

theorem Keeps.setTwin (h : Keeps pl s₀ s) (t : TwinState)
    (hl : [Part.regs, .galley, .basin, .twin, .cistern, .fab] ⊆ pl := by exact sub_of (by assumption) (by decide)) :
    Keeps pl s₀ (setTwin t s) :=
  .ite h (.ite ((((Keeps.ite (h.rput ..) h).leaveRole ..).setTwinSt ..).iset ..)
      (((((Keeps.ite (h.rput ..) h).leaveRole ..).setTwinSt ..).iset ..).setFab ..))

theorem Keeps.releaseOutputs (h : Keeps pl s₀ s)
    (hl : [Part.regs, .twin] ⊆ pl := by exact sub_of (by assumption) (by decide)) :
    Keeps pl s₀ (releaseOutputs s) :=
  .ite ((h.setTwinSt ..).iset ..) (h.setTwinSt ..)

theorem Keeps.hbStatic (h : Keeps pl s₀ s)
    (hl : [Part.arb] ⊆ pl := by exact sub_of (by assumption) (by decide)) :
    Keeps pl s₀ (hbStatic s) :=
  h.setArb ..

theorem Keeps.hbToggle (h : Keeps pl s₀ s)
    (hl : [Part.regs, .arb] ⊆ pl := by exact sub_of (by assumption) (by decide)) :
    Keeps pl s₀ (hbToggle s) :=
  (h.setArb ..).cnt ..

theorem Keeps.enterTwinFault (h : Keeps pl s₀ s) (cause : Nat)
    (hl : [Part.regs, .galley, .basin, .twin, .arb, .cistern,
      .fab] ⊆ pl := by exact sub_of (by assumption) (by decide)) :
    Keeps pl s₀ (enterTwinFault cause s) :=
  ((h.releaseOutputs.hbStatic.setTwin ..).setTwinSt ..).alarm ..

theorem Keeps.enterFenced (h : Keeps pl s₀ s)
    (hl : [Part.regs, .galley, .basin, .twin, .arb, .cistern,
      .fab] ⊆ pl := by exact sub_of (by assumption) (by decide)) :
    Keeps pl s₀ (enterFenced s) :=
  (h.releaseOutputs.hbStatic.setTwin ..).setTwinSt ..

theorem Keeps.requestRelease (h : Keeps pl s₀ s) (r : Release)
    (hl : [Part.twin] ⊆ pl := by exact sub_of (by assumption) (by decide)) :
    Keeps pl s₀ (requestRelease r s) :=
  .ite (h.setTwinSt ..) h

theorem Keeps.immediateRelease (h : Keeps pl s₀ s) (cause : Nat)
    (hl : [Part.regs, .galley, .basin, .twin, .arb, .cistern,
      .fab] ⊆ pl := by exact sub_of (by assumption) (by decide)) :
    Keeps pl s₀ (immediateRelease cause s) :=
  .ite (h.enterTwinFault ..) h

theorem Keeps.standbyFault (h : Keeps pl s₀ s) (cause : Nat)
    (hl : [Part.regs, .galley, .basin, .twin, .arb, .cistern,
      .fab] ⊆ pl := by exact sub_of (by assumption) (by decide)) :
    Keeps pl s₀ (standbyFault cause s) :=
  .ite (h.enterTwinFault ..) h

theorem Keeps.twinEccFault (h : Keeps pl s₀ s)
    (hl : [Part.regs, .galley, .basin, .twin, .arb, .cistern,
      .fab] ⊆ pl := by exact sub_of (by assumption) (by decide)) :
    Keeps pl s₀ (twinEccFault s) :=
  .ite (.ite (h.immediateRelease ..) h) (h.standbyFault ..)

theorem Keeps.sendCell (h : Keeps pl s₀ s) (ch : Nat) (body : CellBody)
    (hl : [Part.twin] ⊆ pl := by exact sub_of (by assumption) (by decide)) :
    Keeps pl s₀ (sendCell ch body s) :=
  .ite (h.setTwinSt ..) h

theorem Keeps.markBad (h : Keeps pl s₀ s)
    (hl : [Part.twin] ⊆ pl := by exact sub_of (by assumption) (by decide)) :
    Keeps pl s₀ (markBad s) :=
  h.setTwinSt ..

theorem Keeps.setFlips (h : Keeps pl s₀ s) (a v : Nat)
    (hl : [Part.fab] ⊆ pl := by exact sub_of (by assumption) (by decide)) :
    Keeps pl s₀ (setFlips a v s) :=
  h.setFab ..

theorem Keeps.eccLast (h : Keeps pl s₀ s) (a : Nat) (ue : Bool)
    (hl : [Part.regs] ⊆ pl := by exact sub_of (by assumption) (by decide)) :
    Keeps pl s₀ (eccLast a ue s) :=
  (h.rset ..).rset ..

theorem Keeps.autoRemap (h : Keeps pl s₀ s) (a : Nat) (g : Fin 4)
    (hl : [Part.regs, .fab] ⊆ pl := by exact sub_of (by assumption) (by decide)) :
    Keeps pl s₀ (autoRemap a g s) := by
  unfold Machine.autoRemap
  dsimp only
  split
  · split
    · exact (((h.setFab ..).setFlips ..).rset ..).iset ..
    · exact (h.setFab ..).iset ..
  · exact h.setFab ..

theorem Keeps.settleData (h : Keeps pl s₀ s) (a residual : Nat)
    (hl : [Part.mem, .cist] ⊆ pl := by exact sub_of (by assumption) (by decide)) :
    Keeps pl s₀ (settleData a residual s) :=
  .ite h (.ite ((((((((h.cwByte ..).cwByte ..).cwByte ..).cwByte ..).cwByte ..).cwByte ..).cwByte ..).cwByte ..)
      (h.wrWord ..))

theorem Keeps.eccCorrect (h : Keeps pl s₀ s) (a residual : Nat)
    (hl : [Part.regs, .mem, .cist, .cistern, .fab] ⊆ pl := by exact sub_of (by assumption) (by decide)) :
    Keeps pl s₀ (eccCorrect a residual s) := by
  unfold Machine.eccCorrect
  dsimp only
  split
  · exact h
  · exact ((((Keeps.ite ((((h.eccLast ..).cnt ..).iset ..).setCist ..)
      (((h.eccLast ..).cnt ..).iset ..)).settleData ..).setFlips ..).setFab ..).autoRemap ..

theorem Keeps.eccUncorrectable (h : Keeps pl s₀ s) (a : Nat)
    (hl : [Part.regs, .galley, .basin, .twin, .arb, .cistern,
      .fab] ⊆ pl := by exact sub_of (by assumption) (by decide)) :
    Keeps pl s₀ (eccUncorrectable a s) := by
  unfold Machine.eccUncorrectable
  split
  · exact h
  · exact (((((h.eccLast ..).cnt ..).iset ..).alarm ..).errcap ..).twinEccFault

theorem Keeps.eccRead (h : Keeps pl s₀ s) (a : Nat)
    (hl : [Part.regs, .mem, .cist, .galley, .basin, .twin, .arb, .cistern,
      .fab] ⊆ pl := by exact sub_of (by assumption) (by decide)) :
    Keeps pl s₀ (eccRead a s).1 := by
  unfold Machine.eccRead
  split
  · exact h
  · exact h.eccCorrect ..
  · exact h.eccUncorrectable ..

theorem Keeps.stageMiss (h : Keeps pl s₀ s)
    (hl : [Part.regs] ⊆ pl := by exact sub_of (by assumption) (by decide)) :
    Keeps pl s₀ (stageMiss s) :=
  (h.cnt ..).iset ..

theorem Keeps.dmaRead (h : Keeps pl s₀ s) (a : Nat)
    (hl : [Part.regs, .mem, .cist, .galley, .basin, .twin, .arb, .cistern,
      .fab] ⊆ pl := by exact sub_of (by assumption) (by decide)) :
    Keeps pl s₀ (dmaRead a s).2 :=
  .ite_snd h (.ite_snd (h.eccRead ..).stageMiss (h.eccRead ..))

theorem Keeps.freshen (h : Keeps pl s₀ s) (a : Nat)
    (hl : [Part.regs, .fab] ⊆ pl := by exact sub_of (by assumption) (by decide)) :
    Keeps pl s₀ (freshen a s) := by
  unfold Machine.freshen
  dsimp only
  split
  · exact ((h.setFab ..).setFlips ..).iset ..
  · exact .ite h (h.setFlips ..)

theorem Keeps.stWord (h : Keeps pl s₀ s) (a : Nat) (v : Word)
    (hl : [Part.regs, .mem, .fab] ⊆ pl := by exact sub_of (by assumption) (by decide)) :
    Keeps pl s₀ (stWord a v s) :=
  (h.wrWord ..).freshen ..

theorem Keeps.stWords (h : Keeps pl s₀ s) (a : Nat) (l : List Word)
    (hl : [Part.regs, .mem, .fab] ⊆ pl := by exact sub_of (by assumption) (by decide)) :
    Keeps pl s₀ (stWords a l s) := by
  induction l generalizing a s with
  | nil => exact h
  | cons v t ih => exact ih (h.stWord ..) _

theorem Keeps.stWordBe (h : Keeps pl s₀ s) (a : Nat) (be : BitVec 4) (v : Word)
    (hl : [Part.regs, .mem, .cist, .galley, .basin, .twin, .arb, .cistern,
      .fab] ⊆ pl := by exact sub_of (by assumption) (by decide)) :
    Keeps pl s₀ (stWordBe a be v s).1 :=
  .ite_fst (h.stWord ..) (.ite_fst (h.eccRead ..) (((h.eccRead ..).wrWordBe ..).freshen ..))

theorem Keeps.mapFlight (h : Keeps pl s₀ s) (f : Ev → Ev)
    (hl : [Part.galley] ⊆ pl := by exact sub_of (by assumption) (by decide)) :
    Keeps pl s₀ (mapFlight f s) :=
  h.setGalley ..

theorem Keeps.record (h : Keeps pl s₀ s) (e : Ev) (outcome late land done : Nat)
    (hl : [Part.regs, .mem, .comp, .galley, .fab] ⊆ pl := by exact sub_of (by assumption) (by decide)) :
    Keeps pl s₀ (record e outcome late land done s) := by
  unfold Machine.record
  extract_lets a _ s1 s2 s3 s4 s5 s6 _ _
  have hs1 : Keeps pl s₀ s1 := h.stWords ..
  have hs2 : Keeps pl s₀ s2 := (hs1.cnt ..).rset ..
  have hs3 : Keeps pl s₀ s3 := .ite (hs2.iset ..) hs2
  have hs4 : Keeps pl s₀ s4 := .ite ((hs3.cnt ..).iset ..) hs3
  have hs5 : Keeps pl s₀ s5 := .ite ((hs4.cnt ..).iset ..) hs4
  have hs6 : Keeps pl s₀ s6 := .ite (hs5.iset ..) hs5
  exact hs6.parts (ps := [.comp, .galley]) (sub_of hl (by decide)) fun r hr => by
    cases r
    case comp | galley => exact absurd (by decide) hr
    all_goals rfl

theorem Keeps.cancelDeps (h : Keeps pl s₀ s) (n : Nat) (t : Word)
    (hl : [Part.regs, .mem, .comp, .galley, .fab] ⊆ pl := by exact sub_of (by assumption) (by decide)) :
    Keeps pl s₀ (cancelDeps n t s) := by
  induction n generalizing t s with
  | zero => exact h
  | succ n ih => exact (h.mapFlight ..).foldl fun _ _ hu => ih ((hu.setComp _).record ..) _

theorem Keeps.applyCancel (h : Keeps pl s₀ s) (target : Word)
    (hl : [Part.regs, .mem, .comp, .galley, .fab] ⊆ pl := by exact sub_of (by assumption) (by decide)) :
    Keeps pl s₀ (applyCancel target s).1 := by
  unfold Machine.applyCancel
  dsimp only
  split
  · exact ((h.setComp ..).record ..).cancelDeps ..
  · exact h

theorem Keeps.selectCancel (h : Keeps pl s₀ s) (e : Ev)
    (hl : [Part.regs, .mem, .comp, .galley, .fab] ⊆ pl := by exact sub_of (by assumption) (by decide)) :
    Keeps pl s₀ (selectCancel e s).1 :=
  (h.setComp ..).applyCancel ..

theorem Keeps.deferred (h : Keeps pl s₀ s)
    (hl : [Part.regs, .comp] ⊆ pl := by exact sub_of (by assumption) (by decide)) :
    Keeps pl s₀ (deferred s) :=
  .ite (h.setComp ..) ((h.setComp ..).iset ..)

theorem Keeps.joinSel (h : Keeps pl s₀ s) (e : Ev)
    (hl : [Part.regs, .mem, .comp, .galley, .fab] ⊆ pl := by exact sub_of (by assumption) (by decide)) :
    Keeps pl s₀ (joinSel e s) := by
  unfold Machine.joinSel
  extract_lets free _ r l
  have hr : Keeps pl s₀ r.1 := by
    unfold r
    split
    · exact h.setComp ..
    · exact h.selectCancel ..
  split
  · exact h.deferred
  · split
    · exact (hr.setComp ..).deferred
    · exact hr.setComp ..

theorem Keeps.releaseDeps (h : Keeps pl s₀ s) (t : Word) (c' : Nat)
    (hl : [Part.regs, .mem, .comp, .galley, .fab] ⊆ pl := by exact sub_of (by assumption) (by decide)) :
    Keeps pl s₀ (releaseDeps t c' s) :=
  (h.mapFlight ..).foldl (fun _ _ h0 => .ite ((h0.setComp ..).joinSel ..) (h0.setComp ..))

theorem Keeps.finish (h : Keeps pl s₀ s) (e : Ev) (outcome late land done : Nat)
    (hl : [Part.regs, .mem, .comp, .galley, .fab] ⊆ pl := by exact sub_of (by assumption) (by decide)) :
    Keeps pl s₀ (finish e outcome late land done s) :=
  .ite ((h.record ..).cancelDeps ..) ((h.record ..).releaseDeps ..)

theorem Keeps.finishAt (h : Keeps pl s₀ s) (e : Ev) (done : Nat)
    (hl : [Part.regs, .mem, .comp, .galley, .fab] ⊆ pl := by exact sub_of (by assumption) (by decide)) :
    Keeps pl s₀ (finishAt e done s) :=
  h.finish ..

theorem Keeps.keepRunning (h : Keeps pl s₀ s) (e : Ev)
    (hl : [Part.comp] ⊆ pl := by exact sub_of (by assumption) (by decide)) :
    Keeps pl s₀ (keepRunning e s) :=
  h.setComp ..

theorem Keeps.holdEv (h : Keeps pl s₀ s) (e : Ev)
    (hl : [Part.comp] ⊆ pl := by exact sub_of (by assumption) (by decide)) :
    Keeps pl s₀ (holdEv e s) :=
  h.setComp ..

theorem Keeps.finishRunning (h : Keeps pl s₀ s) (t : Word) (done : Nat)
    (hl : [Part.regs, .mem, .comp, .galley, .fab] ⊆ pl := by exact sub_of (by assumption) (by decide)) :
    Keeps pl s₀ (finishRunning t done s) := by
  unfold Machine.finishRunning
  dsimp only
  split
  · exact h
  · exact (h.setComp ..).finishAt ..

theorem Keeps.applyImmCancel (h : Keeps pl s₀ s) (e : Ev)
    (hl : [Part.regs, .mem, .comp, .galley, .fab] ⊆ pl := by exact sub_of (by assumption) (by decide)) :
    Keeps pl s₀ (applyImmCancel e s) :=
  (h.applyCancel ..).finish ..

theorem Keeps.selectCancels (h : Keeps pl s₀ s) (l : List Ev)
    (hl : [Part.regs, .mem, .comp, .galley, .fab] ⊆ pl := by exact sub_of (by assumption) (by decide)) :
    Keeps pl s₀ (selectCancels l s) :=
  h.foldl (fun _ _ h0 => (h0.selectCancel ..).setComp ..)

theorem Keeps.selectWith (h : Keeps pl s₀ s) (f : Nat) (jd : State → Ev → Ev)
    (hl : [Part.regs, .mem, .comp, .galley, .fab] ⊆ pl := by exact sub_of (by assumption) (by decide)) :
    Keeps pl s₀ (selectWith f jd s) :=
  (Keeps.ite ((((((h.mapFlight ..).setComp ..).foldl
      (fun _ _ h5 => h5.finish ..)).selectCancels ..).setComp ..).iset ..)
      (((((h.mapFlight ..).setComp ..).foldl (fun _ _ h4 => h4.finish ..)).selectCancels ..).setComp ..)).foldl
      (fun _ _ h0 => h0.peak ..)

theorem Keeps.selectFor (h : Keeps pl s₀ s)
    (hl : [Part.regs, .mem, .comp, .galley, .fab] ⊆ pl := by exact sub_of (by assumption) (by decide)) :
    Keeps pl s₀ (selectFor s) :=
  h.selectWith ..

theorem Keeps.selectHold (h : Keeps pl s₀ s)
    (hl : [Part.regs, .mem, .comp, .galley, .fab] ⊆ pl := by exact sub_of (by assumption) (by decide)) :
    Keeps pl s₀ (selectHold s) :=
  h.selectWith ..

theorem Keeps.selectNow (h : Keeps pl s₀ s)
    (hl : [Part.regs, .mem, .comp, .galley, .fab] ⊆ pl := by exact sub_of (by assumption) (by decide)) :
    Keeps pl s₀ (selectNow s) :=
  .ite h.selectHold h.selectFor

theorem Keeps.selectGap (h : Keeps pl s₀ s)
    (hl : [Part.regs, .mem, .comp, .galley, .fab] ⊆ pl := by exact sub_of (by assumption) (by decide)) :
    Keeps pl s₀ (selectGap s) :=
  h.selectWith ..

theorem Keeps.enqueue (h : Keeps pl s₀ s) (e : Ev)
    (hl : [Part.regs, .comp] ⊆ pl := by exact sub_of (by assumption) (by decide)) :
    Keeps pl s₀ (enqueue e s) :=
  .ite (((h.setComp ..).peak ..).iset ..) ((h.setComp ..).peak ..)

theorem Keeps.badCode (h : Keeps pl s₀ s) (key : Nat)
    (hl : [Part.regs] ⊆ pl := by exact sub_of (by assumption) (by decide)) :
    Keeps pl s₀ (badCode key s) :=
  .ite ((h.iset ..).errcap ..) ((h.iset ..).errcap ..)

theorem Keeps.dropMove (h : Keeps pl s₀ s) (key : Nat)
    (hl : [Part.basin] ⊆ pl := by exact sub_of (by assumption) (by decide)) :
    Keeps pl s₀ (dropMove key s) :=
  h.setBasin ..

theorem Keeps.setKeyWord (h : Keeps pl s₀ s) (key : Nat) (w : Word)
    (hl : [Part.regs, .mem, .fab] ⊆ pl := by exact sub_of (by assumption) (by decide)) :
    Keeps pl s₀ (setKeyWord key w s) :=
  .ite (h.rset ..) (h.stWord ..)

theorem Keeps.takeMove (h : Keeps pl s₀ s) (key : Nat)
    (hl : [Part.regs, .mem, .comp, .galley, .basin, .fab] ⊆ pl := by exact sub_of (by assumption) (by decide)) :
    Keeps pl s₀ (takeMove key s) := by
  unfold Machine.takeMove
  dsimp only
  split
  · exact h
  · split
    · exact h.dropMove ..
    · exact .ite ((h.dropMove ..).setBasin ..) ((h.dropMove ..).finishRunning ..)

theorem Keeps.startChange (h : Keeps pl s₀ s) (key : Nat) (w0 : Word) (zc : Option ℕ) (ticket : Option Word)
    (hl : [Part.regs, .mem, .comp, .galley, .basin, .fab] ⊆ pl := by exact sub_of (by assumption) (by decide)) :
    Keeps pl s₀ (startChange key w0 zc ticket s) :=
  (Keeps.ite ((((h.takeMove ..).setKeyWord ..).setBasin ..).badCode ..)
      (((h.takeMove ..).setKeyWord ..).setBasin ..)).peak ..

theorem Keeps.pointChange (h : Keeps pl s₀ s) (entry : Option Word) (key : Nat) (w : Word) (zc : Option ℕ)
    (hl : [Part.regs, .mem, .comp, .galley, .basin, .fab] ⊆ pl := by exact sub_of (by assumption) (by decide)) :
    Keeps pl s₀ (pointChange entry key w zc s).1 := by
  unfold Machine.pointChange
  dsimp only
  split
  · split
    · exact ((h.takeMove ..).setKeyWord ..).finishRunning ..
    · exact (h.takeMove ..).setKeyWord ..
  · exact .ite_fst (h.startChange ..) (((h.setBasin ..).cnt ..).iset ..)

theorem Keeps.tryRecallDone (h : Keeps pl s₀ s) (t : Word)
    (hl : [Part.regs, .mem, .comp, .galley, .basin, .fab] ⊆ pl := by exact sub_of (by assumption) (by decide)) :
    Keeps pl s₀ (tryRecallDone t s) := by
  unfold Machine.tryRecallDone
  dsimp only
  split
  · exact h
  · exact .ite (((h.setBasin ..).finishRunning ..).iset ..) h

theorem Keeps.sluiceTicket (h : Keeps pl s₀ s) (t : Word) (d : Nat)
    (hl : [Part.regs, .mem, .comp, .galley, .basin, .fab] ⊆ pl := by exact sub_of (by assumption) (by decide)) :
    Keeps pl s₀ (sluiceTicket t d s) :=
  .ite ((h.setBasin ..).tryRecallDone ..) (h.finishRunning ..)

theorem Keeps.setSluice (h : Keeps pl s₀ s) (x : Sluice)
    (hl : [Part.basin] ⊆ pl := by exact sub_of (by assumption) (by decide)) :
    Keeps pl s₀ (setSluice x s) :=
  h.setBasin ..

theorem Keeps.routeChange (h : Keeps pl s₀ s) (o : Nat) (cur w : Word) (l : Nat) (ticket : Option Word)
    (hl : [Part.regs, .mem, .comp, .galley, .basin, .fab] ⊆ pl := by exact sub_of (by assumption) (by decide)) :
    Keeps pl s₀ (routeChange o cur w l ticket s) := by
  unfold Machine.routeChange
  dsimp only
  split
  · split
    · split
      · exact h.sluiceTicket ..
      · exact h
    · exact h.setBasin ..
  · split
    · exact h.setSluice ..
    · split
      · exact h.setSluice ..
      · split
        · exact (h.setSluice ..).sluiceTicket ..
        · exact h.setSluice ..

theorem Keeps.formeParam (h : Keeps pl s₀ s) (entry : Word) (addr : Nat) (v : Word)
    (hl : [Part.regs, .mem, .comp, .galley, .basin, .fab] ⊆ pl := by exact sub_of (by assumption) (by decide)) :
    Keeps pl s₀ (formeParam entry addr v s).1 :=
  .ite_fst h (.ite_fst (h.stWord ..) (.ite_fst (h.pointChange ..)
      (.ite_fst (.ite (((h.stWord ..).routeChange ..).badCode ..) ((h.stWord ..).routeChange ..)) (h.stWord ..))))

theorem Keeps.overtake (h : Keeps pl s₀ s)
    (hl : [Part.basin] ⊆ pl := by exact sub_of (by assumption) (by decide)) :
    Keeps pl s₀ (overtake s) :=
  h.setBasin ..

theorem Keeps.recallMove (h : Keeps pl s₀ s) (t : Word) (s0 : State) (key : Nat)
    (hl : [Part.regs, .mem, .comp, .galley, .basin, .fab] ⊆ pl := by exact sub_of (by assumption) (by decide)) :
    Keeps pl s₀ (recallMove t s0 key s) :=
  .ite (((h.takeMove ..).setBasin ..).badCode ..) ((h.takeMove ..).setBasin ..)

theorem Keeps.recallLand (h : Keeps pl s₀ s) (e : Ev)
    (hl : [Part.regs, .mem, .comp, .galley, .basin, .fab] ⊆ pl := by exact sub_of (by assumption) (by decide)) :
    Keeps pl s₀ (recallLand e s) :=
  ((((((((h.overtake.setBasin ..).setBasin ..).foldl (fun _ _ h6 => h6.recallMove ..)).foldl
      (fun _ _ h5 => .ite ((h5.routeChange ..).badCode ..)
      (h5.routeChange ..))).keepRunning ..).cnt ..).rset ..).rset ..).iset ..

theorem Keeps.basinWait (h : Keeps pl s₀ s) (e : Ev)
    (hl : [Part.regs, .comp] ⊆ pl := by exact sub_of (by assumption) (by decide)) :
    Keeps pl s₀ (basinWait e s) :=
  ((h.holdEv ..).cnt ..).iset ..

theorem Keeps.setGainZc (h : Keeps pl s₀ s) (e : Ev)
    (hl : [Part.regs, .mem, .comp, .galley, .basin, .fab] ⊆ pl := by exact sub_of (by assumption) (by decide)) :
    Keeps pl s₀ (setGainZc e s) := by
  unfold Machine.setGainZc
  split
  · split
    · exact h
    · exact (h.keepRunning ..).pointChange ..
  · exact h

theorem Keeps.sluiceRoute (h : Keeps pl s₀ s) (e : Ev)
    (hl : [Part.regs, .mem, .comp, .galley, .basin, .fab] ⊆ pl := by exact sub_of (by assumption) (by decide)) :
    Keeps pl s₀ (sluiceRoute e s) := by
  unfold Machine.sluiceRoute
  dsimp only
  split
  · exact ((h.keepRunning ..).stWord ..).routeChange ..
  · exact h

theorem Keeps.formeStore (h : Keeps pl s₀ s) (a : Nat) (be : BitVec 4) (v : Word)
    (hl : [Part.regs, .mem, .cist, .galley, .basin, .twin, .arb, .cistern,
      .fab] ⊆ pl := by exact sub_of (by assumption) (by decide)) :
    Keeps pl s₀ (formeStore a be v s).1 :=
  .ite_fst h (.ite_fst ((h.stWordBe ..).setBasin ..) (h.stWordBe ..))

theorem Keeps.formeCrcStart (h : Keeps pl s₀ s) (b : Bool)
    (hl : [Part.basin] ⊆ pl := by exact sub_of (by assumption) (by decide)) :
    Keeps pl s₀ (formeCrcStart b s) :=
  h.setBasin ..

theorem Keeps.wheelTaken (h : Keeps pl s₀ s)
    (hl : [Part.tb] ⊆ pl := by exact sub_of (by assumption) (by decide)) :
    Keeps pl s₀ (wheelTaken s) :=
  h.setTb ..

theorem Keeps.cntStuck (h : Keeps pl s₀ s) (at_ : Nat)
    (hl : [Part.now, .regs, .tb, .ptp] ⊆ pl := by exact sub_of (by assumption) (by decide)) :
    Keeps pl s₀ (cntStuck at_ s) := by
  unfold Machine.cntStuck
  dsimp only
  split
  · exact h.advance ..
  · exact .ite (((h.advance ..).setTb ..).iset ..) (h.advance ..)

theorem Keeps.corrSubmit (h : Keeps pl s₀ s) (hi : Word)
    (hl : [Part.regs, .tb] ⊆ pl := by exact sub_of (by assumption) (by decide)) :
    Keeps pl s₀ (corrSubmit hi s) :=
  .ite ((h.iset ..).errcap ..) (h.setTb ..)

theorem Keeps.axisTick (h : Keeps pl s₀ s) (at_ : Nat)
    (hl : [Part.regs, .tb] ⊆ pl := by exact sub_of (by assumption) (by decide)) :
    Keeps pl s₀ (axisTick at_ s) := by
  unfold Machine.axisTick
  dsimp only
  split
  · exact h.setTb ..
  · split
    · exact (h.errcap ..).setTb _ (hf := ((Keeps.refl _ s).errcap _ _ _ (hl := List.Subset.refl _)).frame.symm)
    · exact h.setTb ..

theorem Keeps.watch (h : Keeps pl s₀ s) (f : Nat) (cls : ℕ → Bool) (prev cur : ℕ → ℤ)
    (hl : [Part.basin] ⊆ pl := by exact sub_of (by assumption) (by decide)) :
    Keeps pl s₀ (watch f cls prev cur s) :=
  h.setBasin ..

theorem Keeps.basinReads (h : Keeps pl s₀ s) (f : Nat)
    (hl : [Part.regs, .mem, .cist, .galley, .basin, .twin, .arb, .cistern,
      .fab] ⊆ pl := by exact sub_of (by assumption) (by decide)) :
    Keeps pl s₀ (basinReads f s) := by
  unfold Machine.basinReads
  split
  · exact .ite h (h.setBasin ..)
  · refine Keeps.setBasin (Keeps.foldl_fst (a := (s, _)) h fun _ _ hu => ?_) _
    exact .ite_fst (hu.eccRead ..) (hu.eccRead ..)

theorem Keeps.governor (h : Keeps pl s₀ s) (ins trims : Samples)
    (hl : [Part.basin] ⊆ pl := by exact sub_of (by assumption) (by decide)) :
    Keeps pl s₀ (governor ins trims s) :=
  h.setBasin ..

theorem Keeps.closeFrame (h : Keeps pl s₀ s) (f : Nat) (ins raw : Samples)
    (hl : [Part.regs, .mem, .cist, .galley, .basin, .twin, .arb, .cistern,
      .fab] ⊆ pl := by exact sub_of (by assumption) (by decide)) :
    Keeps pl s₀ (closeFrame f ins raw s) := by
  unfold Machine.closeFrame
  extract_lets _ s1 _ _ _ _ s2 _ _ _ _ _ s3 _ _ _ s4 _ _ _ _ _ _ _ _ s5 _ _ _ _ _ s6 s7 s8 s9 _ _ s10
  have hs1 : Keeps pl s₀ s1 := (h.basinReads ..).watch ..
  have hs2 : Keeps pl s₀ s2 := hs1.watch ..
  have hs3 : Keeps pl s₀ s3 := hs2.watch ..
  have hs4 : Keeps pl s₀ s4 := hs3.governor ..
  have hs5 : Keeps pl s₀ s5 := hs4.watch ..
  have hs6 : Keeps pl s₀ s6 := .ite hs5 ((hs5.cnt ..).iset ..)
  have hs7 : Keeps pl s₀ s7 := .ite hs6 ((hs6.cnt ..).iset ..)
  have hs8 : Keeps pl s₀ s8 := .ite (hs7.iset ..) hs7
  have hs9 : Keeps pl s₀ s9 := .ite hs8 ((hs8.cnt ..).iset ..)
  have hs10 : Keeps pl s₀ s10 := hs9.peak ..
  exact hs10.setBasin ..

theorem Keeps.setGrp (h : Keeps pl s₀ s) (g : Fin 4) (x : GroupSt)
    (hl : [Part.ports] ⊆ pl := by exact sub_of (by assumption) (by decide)) :
    Keeps pl s₀ (setGrp g x s) :=
  h.setPorts ..

theorem Keeps.asrcUnlock (h : Keeps pl s₀ s) (i : Nat)
    (hl : [Part.regs] ⊆ pl := by exact sub_of (by assumption) (by decide)) :
    Keeps pl s₀ (asrcUnlock i s) :=
  .ite (((h.rput ..).cnt ..).iset ..) h

theorem Keeps.groupOff (h : Keeps pl s₀ s) (g : Fin 4)
    (hl : [Part.regs, .ports] ⊆ pl := by exact sub_of (by assumption) (by decide)) :
    Keeps pl s₀ (groupOff g s) :=
  ((h.setGrp ..).asrcUnlock ..).rset ..

theorem Keeps.settleStop (h : Keeps pl s₀ s) (g : Fin 4)
    (hl : [Part.regs, .ports] ⊆ pl := by exact sub_of (by assumption) (by decide)) :
    Keeps pl s₀ (settleStop g s) :=
  .ite (h.groupOff ..) h

theorem Keeps.groupEn (h : Keeps pl s₀ s) (g : Fin 4) (en : Bool)
    (hl : [Part.regs, .ports] ⊆ pl := by exact sub_of (by assumption) (by decide)) :
    Keeps pl s₀ (groupEn g en s) :=
  .ite (.ite h (.ite (h.setGrp ..) (h.setGrp ..))) (.ite h (.ite ((h.setGrp ..).settleStop ..) (h.groupOff ..)))

theorem Keeps.portChange (h : Keeps pl s₀ s) (g : Fin 4) (m : Nat) (kind : ChgKind) (v : Word) (direct : Bool)
    (ticket : Option Word)
    (hl : [Part.ports] ⊆ pl := by exact sub_of (by assumption) (by decide)) :
    Keeps pl s₀ (portChange g m kind v direct ticket s).1 :=
  .ite_fst (h.setGrp ..) h

theorem Keeps.regWords (h : Keeps pl s₀ s) (a : Nat) (l : List Word)
    (hl : [Part.regs] ⊆ pl := by exact sub_of (by assumption) (by decide)) :
    Keeps pl s₀ (regWords a l s) := by
  induction l generalizing a s with
  | nil => exact h
  | cons v t ih => exact ih (h.rset ..) _

theorem Keeps.setAes (h : Keeps pl s₀ s) (m : Fin 8) (y : Aes3St)
    (hl : [Part.ports] ⊆ pl := by exact sub_of (by assumption) (by decide)) :
    Keeps pl s₀ (setAes m y s) :=
  h.setPorts ..

theorem Keeps.txCommit (h : Keeps pl s₀ s) (m : Fin 8)
    (hl : [Part.regs, .ports] ⊆ pl := by exact sub_of (by assumption) (by decide)) :
    Keeps pl s₀ (txCommit m s) :=
  (h.rput ..).setAes ..

theorem Keeps.asrcSlot (h : Keeps pl s₀ s) (w : Word) (on : Bool)
    (hl : [Part.ports] ⊆ pl := by exact sub_of (by assumption) (by decide)) :
    Keeps pl s₀ (asrcSlot w on s) :=
  .ite (.ite (h.setGrp ..) h) (.ite (h.setGrp ..) h)

theorem Keeps.asrcChange (h : Keeps pl s₀ s) (c' : Nat) (old new : Word)
    (hl : [Part.regs, .ports] ⊆ pl := by exact sub_of (by assumption) (by decide)) :
    Keeps pl s₀ (asrcChange c' old new s) := by
  unfold Machine.asrcChange
  extract_lets _ s0 s1 s2 _
  have hs0 : Keeps pl s₀ s0 := .ite (h.asrcSlot ..) h
  have hs1 : Keeps pl s₀ s1 := .ite (hs0.asrcSlot ..) hs0
  have hs2 : Keeps pl s₀ s2 := .ite (hs1.errcap ..) hs1
  exact .ite h (.ite (hs2.iset ..) hs2)

theorem Keeps.portSample (h : Keeps pl s₀ s) (g : Fin 4) (m : Fin 8) (sl f : Nat)
    (hl : [Part.freeCtr, .regs, .mem, .cist, .galley, .basin, .ports, .twin,
      .arb, .cistern, .fab] ⊆ pl := by exact sub_of (by assumption) (by decide)) :
    Keeps pl s₀ (portSample g m sl f s).2 :=
  .ite_snd h (.ite_snd h (.ite_snd (.ite_snd (.ite (h.iset ..) h) (h.freeWord.setGrp ..)) (h.dmaRead ..)))

theorem Keeps.portInputs (h : Keeps pl s₀ s) (f : Nat)
    (hl : [Part.freeCtr, .regs, .mem, .cist, .galley, .basin, .ports, .twin,
      .arb, .cistern, .fab] ⊆ pl := by exact sub_of (by assumption) (by decide)) :
    Keeps pl s₀ (portInputs f s).2 :=
  h.foldl_snd (fun _ _ h0 => h0.foldl_snd (fun _ _ h1 => .ite_snd
      (h1.foldl_snd (fun _ _ h3 => .ite_snd h3 (h3.portSample ..))) h1))

theorem Keeps.portOutputs (h : Keeps pl s₀ s) (j : Nat) (out : Samples)
    (hl : [Part.regs, .mem, .ports, .fab] ⊆ pl := by exact sub_of (by assumption) (by decide)) :
    Keeps pl s₀ (portOutputs j out s) :=
  (h.setPorts ..).foldl (fun _ _ h0 => h0.foldl (fun _ _ h1 => .ite (h1.foldl (fun _ _ h3 => h3.stWord ..)) h1))

theorem Keeps.sendPkt (h : Keeps pl s₀ s) (n : Fin 2) (t : Nat) (p : SentPkt)
    (hl : [Part.regs, .net] ⊆ pl := by exact sub_of (by assumption) (by decide)) :
    Keeps pl s₀ (sendPkt n t p s) :=
  (h.setNet ..).cnt ..

theorem Keeps.drainPort (h : Keeps pl s₀ s) (n : Fin 2) (k : Nat)
    (hl : [Part.regs, .net] ⊆ pl := by exact sub_of (by assumption) (by decide)) :
    Keeps pl s₀ (drainPort n k s) := by
  induction k generalizing s with
  | zero => exact h
  | succ k ih =>
    unfold Machine.drainPort
    split
    · exact h
    · exact .ite h (ih ((h.setNet ..).sendPkt ..))

theorem Keeps.netDrain (h : Keeps pl s₀ s)
    (hl : [Part.regs, .net] ⊆ pl := by exact sub_of (by assumption) (by decide)) :
    Keeps pl s₀ (netDrain s) :=
  (h.drainPort ..).drainPort ..

theorem Keeps.enqueuePkt (h : Keeps pl s₀ s) (n : Fin 2) (c' : Nat) (p : SentPkt)
    (hl : [Part.regs, .net] ⊆ pl := by exact sub_of (by assumption) (by decide)) :
    Keeps pl s₀ (enqueuePkt n c' p s) :=
  (h.netDrain.setNet ..).netDrain

theorem Keeps.learnAt (h : Keeps pl s₀ s) (mac : BitVec 48) (port : Nat)
    (hl : [Part.net] ⊆ pl := by exact sub_of (by assumption) (by decide)) :
    Keeps pl s₀ (learnAt mac port s) :=
  .ite (h.setNet ..) h

theorem Keeps.epSend (h : Keeps pl s₀ s) (n : Fin 2) (c' : Nat) (p : SentPkt)
    (hl : [Part.regs, .net] ⊆ pl := by exact sub_of (by assumption) (by decide)) :
    Keeps pl s₀ (epSend n c' p s) :=
  .ite ((h.learnAt ..).enqueuePkt ..) ((h.learnAt ..).cnt ..)

theorem Keeps.epReport (h : Keeps pl s₀ s) (n : Fin 2) (vid : Nat) (group src : Word) (join : Bool)
    (hl : [Part.regs, .net] ⊆ pl := by exact sub_of (by assumption) (by decide)) :
    Keeps pl s₀ (epReport n vid group src join s) :=
  h.epSend ..

theorem Keeps.linkDown (h : Keeps pl s₀ s) (n : Fin 2) (hiBer : Bool)
    (hl : [Part.regs, .net, .twin] ⊆ pl := by exact sub_of (by assumption) (by decide)) :
    Keeps pl s₀ (linkDown n hiBer s) :=
  .ite (h.netDrain.setNet ..) (.ite ((Keeps.ite (((((h.netDrain.setNet ..).setNet ..).cnt ..).cnt ..).iset ..)
      ((((((h.netDrain.setNet ..).setNet ..).cnt ..).cnt ..).iset ..).iset ..)).requestRelease ..)
      (.ite (((((h.netDrain.setNet ..).setNet ..).cnt ..).cnt ..).iset ..)
      ((((((h.netDrain.setNet ..).setNet ..).cnt ..).cnt ..).iset ..).iset ..)))

theorem Keeps.portOff (h : Keeps pl s₀ s) (n : Fin 2)
    (hl : [Part.regs, .net, .twin] ⊆ pl := by exact sub_of (by assumption) (by decide)) :
    Keeps pl s₀ (portOff n s) :=
  (h.linkDown ..).setNet ..

theorem Keeps.igmpReport (h : Keeps pl s₀ s) (port : Nat) (r : Word × Bool)
    (hl : [Part.regs, .net] ⊆ pl := by exact sub_of (by assumption) (by decide)) :
    Keeps pl s₀ (igmpReport port s r) :=
  .ite (h.setNet ..) (.ite (h.setNet ..) (.ite (h.iset ..) (((h.iset ..).setNet ..).cnt ..)))

theorem Keeps.streamSel (h : Keeps pl s₀ s) (tx : Bool)
    (hl : [Part.regs] ⊆ pl := by exact sub_of (by assumption) (by decide)) :
    Keeps pl s₀ (streamSel tx s) :=
  h.regWords ..

theorem Keeps.setRx (h : Keeps pl s₀ s) (x : RxFlow)
    (hl : [Part.net] ⊆ pl := by exact sub_of (by assumption) (by decide)) :
    Keeps pl s₀ (setRx x s) :=
  h.setNet ..

theorem Keeps.flowConf (h : Keeps pl s₀ s) (f : Nat)
    (hl : [Part.regs] ⊆ pl := by exact sub_of (by assumption) (by decide)) :
    Keeps pl s₀ (flowConf f s) :=
  h.foldl (fun _ _ h0 => (h0.iset ..).errcap ..)

theorem Keeps.flowJoin (h : Keeps pl s₀ s) (join : Bool) (e : List Word)
    (hl : [Part.regs, .net] ⊆ pl := by exact sub_of (by assumption) (by decide)) :
    Keeps pl s₀ (flowJoin join e s) :=
  h.foldl (fun _ _ h0 => .ite (.ite ((h0.epReport ..).igmpReport ..) (h0.epReport ..)) h0)

theorem Keeps.commitEntry (h : Keeps pl s₀ s) (tx : Bool) (f : Nat) (e : List Word)
    (hl : [Part.regs, .net] ⊆ pl := by exact sub_of (by assumption) (by decide)) :
    Keeps pl s₀ (commitEntry tx f e s) :=
  .ite h (.ite (.ite ((h.setNet ..).iset ..) (h.setNet ..))
      (.ite ((Keeps.ite ((((h.setNet ..).flowJoin ..).flowJoin ..).iset ..)
      (((h.setNet ..).flowJoin ..).flowJoin ..)).flowConf ..)
      (.ite ((((h.setNet ..).flowJoin ..).flowJoin ..).iset ..) (((h.setNet ..).flowJoin ..).flowJoin ..))))

theorem Keeps.streamCommit (h : Keeps pl s₀ s) (tx next : Bool)
    (hl : [Part.regs, .net] ⊆ pl := by exact sub_of (by assumption) (by decide)) :
    Keeps pl s₀ (streamCommit tx next s) := by
  unfold Machine.streamCommit
  dsimp only
  split
  · exact (h.iset ..).errcap ..
  · exact .ite (h.setNet ..) (h.commitEntry ..)

theorem Keeps.netBytes (h : Keeps pl s₀ s) (n : Nat)
    (hl : [Part.cistern] ⊆ pl := by exact sub_of (by assumption) (by decide)) :
    Keeps pl s₀ (netBytes n s) :=
  h.setCist ..

theorem Keeps.putFrame (h : Keeps pl s₀ s) (x : RxFlow) (f : Nat) (ws : List Word)
    (hl : [Part.regs, .mem, .net, .cistern, .fab] ⊆ pl := by exact sub_of (by assumption) (by decide)) :
    Keeps pl s₀ (putFrame x f ws s) := by
  unfold Machine.putFrame
  dsimp only
  split
  · exact h.foldl (fun _ _ h0 => .ite h0 (h0.stWord ..))
  · split
    · exact (h.setRx ..).netBytes ..
    · exact h

theorem Keeps.fclkSeqs (h : Keeps pl s₀ s) (j : Nat) (rx tx : ℕ → List Word → List ChanSeq → List ChanSeq)
    (hl : [Part.net] ⊆ pl := by exact sub_of (by assumption) (by decide)) :
    Keeps pl s₀ (fclkSeqs j rx tx s) :=
  h.setNet ..

theorem Keeps.fclkLock (h : Keeps pl s₀ s) (j : Fin 4) (lock : Bool) (ratio : Word)
    (hl : [Part.regs, .net] ⊆ pl := by exact sub_of (by assumption) (by decide)) :
    Keeps pl s₀ (fclkLock j lock ratio s) :=
  .ite h (.ite (.ite ((h.rset ..).rset ..) ((((((h.rset ..).rset ..).rput ..).iset ..).iset ..).fclkSeqs ..))
      (.ite (((h.asrcUnlock ..).iset ..).fclkSeqs ..) h))

theorem Keeps.flowAsrcSlot (h : Keeps pl s₀ s) (w : Word) (on : Bool)
    (hl : [Part.net] ⊆ pl := by exact sub_of (by assumption) (by decide)) :
    Keeps pl s₀ (flowAsrcSlot w on s) :=
  .ite (h.setNet ..) (h.setNet ..)

theorem Keeps.asrcFlowChange (h : Keeps pl s₀ s) (old new : Word)
    (hl : [Part.net] ⊆ pl := by exact sub_of (by assumption) (by decide)) :
    Keeps pl s₀ (asrcFlowChange old new s) :=
  .ite h (.ite ((Keeps.ite (h.flowAsrcSlot ..) h).flowAsrcSlot ..) (.ite (h.flowAsrcSlot ..) h))

theorem Keeps.setTx (h : Keeps pl s₀ s) (x : TxFlow)
    (hl : [Part.net] ⊆ pl := by exact sub_of (by assumption) (by decide)) :
    Keeps pl s₀ (setTx x s) :=
  h.setNet ..

theorem Keeps.flowSample (h : Keeps pl s₀ s) (x : RxFlow) (c' f : Nat)
    (hl : [Part.freeCtr, .regs, .mem, .cist, .galley, .basin, .net, .twin,
      .arb, .cistern, .fab] ⊆ pl := by exact sub_of (by assumption) (by decide)) :
    Keeps pl s₀ (flowSample x c' f s).2 := by
  unfold Machine.flowSample
  dsimp only
  split
  · exact .ite_snd (.ite_snd h.freeWord h) (.ite (h.dmaRead ..) ((h.dmaRead ..).stWord ..))
  · exact (Keeps.ite_snd (.ite_snd h.freeWord h) (.ite (h.dmaRead ..) ((h.dmaRead ..).stWord ..))).setRx ..

theorem Keeps.flowInputs {a : Samples × State} (h : Keeps pl s₀ a.2) (f : Nat)
    (hl : [Part.freeCtr, .regs, .mem, .cist, .galley, .basin, .net, .twin,
      .arb, .cistern, .fab] ⊆ pl := by exact sub_of (by assumption) (by decide)) :
    Keeps pl s₀ (flowInputs f a).2 :=
  h.foldl_snd fun u n hu => by
    dsimp only
    split
    · exact hu
    · exact .ite_snd hu (hu.foldl_snd fun _ _ hv => .ite_snd hv (hv.flowSample ..))

theorem Keeps.stageFlows (h : Keeps pl s₀ s)
    (hl : [Part.regs, .mem, .net, .cistern, .fab] ⊆ pl := by exact sub_of (by assumption) (by decide)) :
    Keeps pl s₀ (stageFlows s) :=
  h.foldl (fun _ _ h0 => (h0.setRx ..).foldl (fun _ _ h1 => .ite ((h1.putFrame ..).netBytes ..) h1.stageMiss))

theorem Keeps.flowAsrcOut {a : (List Word × List ChanSeq) × State} (h : Keeps pl s₀ a.2) (e : List Word) (n : Nat)
    (hl : [Part.freeCtr] ⊆ pl := by exact sub_of (by assumption) (by decide)) :
    Keeps pl s₀ (flowAsrcOut e n a).2 :=
  .ite_snd h.freeWord h

theorem Keeps.flowOutputs (h : Keeps pl s₀ s) (j : Nat) (out : Samples)
    (hl : [Part.freeCtr, .regs, .mem, .net, .fab] ⊆ pl := by exact sub_of (by assumption) (by decide)) :
    Keeps pl s₀ (flowOutputs j out s) :=
  h.foldl fun u x hu => by
    refine .ite hu (.ite ?_ ((hu.foldl fun _ _ hv => hv.stWord ..).setTx ..))
    refine Keeps.setTx (Keeps.foldl_snd (a := (x, u)) hu fun w _ hw => ?_) _
    exact Keeps.foldl_snd (a := (([], w.1.seqs), w.2)) hw fun _ _ hv => hv.flowAsrcOut ..

theorem Keeps.applyCommits (h : Keeps pl s₀ s)
    (hl : [Part.regs, .net] ⊆ pl := by exact sub_of (by assumption) (by decide)) :
    Keeps pl s₀ (applyCommits s) :=
  (h.setNet ..).foldl (fun _ _ h0 => h0.commitEntry ..)

theorem Keeps.dramTouch (h : Keeps pl s₀ s) (port line n : Nat)
    (hl : [Part.cistern] ⊆ pl := by exact sub_of (by assumption) (by decide)) :
    Keeps pl s₀ (dramTouch port line n s) :=
  h.setCist ..

theorem Keeps.cistWordStore {x : State × Bool} (h : Keeps pl s₀ x.1) (a : Nat) (l : List Byte) (w : Nat)
    (hl : [Part.regs, .mem, .cist, .galley, .basin, .twin, .arb, .cistern,
      .fab] ⊆ pl := by exact sub_of (by assumption) (by decide)) :
    Keeps pl s₀ (cistWordStore a l w x).1 := by
  unfold Machine.cistWordStore
  extract_lets lo part r
  have hr : Keeps pl s₀ r.1 := .ite_fst h (h.eccRead ..)
  exact .ite_fst hr ((hr.cwBytes ..).freshen ..)

theorem Keeps.cistWrite (h : Keeps pl s₀ s) (port a : Nat) (l : List Byte)
    (hl : [Part.regs, .mem, .cist, .galley, .basin, .twin, .arb, .cistern,
      .fab] ⊆ pl := by exact sub_of (by assumption) (by decide)) :
    Keeps pl s₀ (cistWrite port a l s).1 := by
  unfold Machine.cistWrite
  extract_lets s1
  have hs1 : Keeps pl s₀ s1 := h.dramTouch ..
  exact .ite_fst (hs1.cwBytes ..) (Keeps.foldl_fst (a := (s1, true)) hs1 fun _ _ hu => hu.cistWordStore ..)

theorem Keeps.cistStore (h : Keeps pl s₀ s) (port a : Nat) (l : List Byte)
    (hl : [Part.regs, .mem, .cist, .galley, .basin, .twin, .arb, .cistern,
      .fab] ⊆ pl := by exact sub_of (by assumption) (by decide)) :
    Keeps pl s₀ (cistStore port a l s) :=
  h.cistWrite ..

theorem Keeps.cistFetch (h : Keeps pl s₀ s) (port a n : Nat)
    (hl : [Part.regs, .mem, .cist, .galley, .basin, .twin, .arb, .cistern,
      .fab] ⊆ pl := by exact sub_of (by assumption) (by decide)) :
    Keeps pl s₀ (cistFetch port a n s).2.1 :=
  .ite_fst (h.dramTouch ..) ((h.dramTouch ..).foldl_fst (fun _ _ h1 => h1.eccRead ..))

theorem Keeps.shedRaise (h : Keeps pl s₀ s) (n : Nat)
    (hl : [Part.regs, .shed] ⊆ pl := by exact sub_of (by assumption) (by decide)) :
    Keeps pl s₀ (shedRaise n s) :=
  .ite ((Keeps.ite ((h.setShed ..).iset ..) (h.setShed ..)).iset ..) (.ite ((h.setShed ..).iset ..) (h.setShed ..))

theorem Keeps.shedMeasure (h : Keeps pl s₀ s) (p : Nat)
    (hl : [Part.regs, .shedMeas, .shed, .shedT] ⊆ pl := by exact sub_of (by assumption) (by decide)) :
    Keeps pl s₀ (shedMeasure p s) := by
  unfold Machine.shedMeasure
  extract_lets s1
  have hs1 : Keeps pl s₀ s1 := (h.setShedMeas p).setShedT _
  exact .ite (hs1.shedRaise ..) hs1

theorem Keeps.startTraining (h : Keeps pl s₀ s)
    (hl : [Part.cistern] ⊆ pl := by exact sub_of (by assumption) (by decide)) :
    Keeps pl s₀ (startTraining s) :=
  h.setCist ..

theorem Keeps.dlyApply (h : Keeps pl s₀ s) (i : Nat) (e : List Word)
    (hl : [Part.regs, .cistern] ⊆ pl := by exact sub_of (by assumption) (by decide)) :
    Keeps pl s₀ (dlyApply i e s) :=
  (Keeps.ite (h.iset ..) h).setCist ..

theorem Keeps.dlySel (h : Keeps pl s₀ s)
    (hl : [Part.regs] ⊆ pl := by exact sub_of (by assumption) (by decide)) :
    Keeps pl s₀ (dlySel s) :=
  h.regWords ..

theorem Keeps.dlyCommit (h : Keeps pl s₀ s) (next : Bool)
    (hl : [Part.regs, .cistern] ⊆ pl := by exact sub_of (by assumption) (by decide)) :
    Keeps pl s₀ (dlyCommit next s) := by
  unfold Machine.dlyCommit
  dsimp only
  split
  · exact (h.iset ..).errcap ..
  · exact .ite (h.setCist ..) (h.dlyApply ..)

theorem Keeps.applyDlyCommits (h : Keeps pl s₀ s)
    (hl : [Part.regs, .cistern] ⊆ pl := by exact sub_of (by assumption) (by decide)) :
    Keeps pl s₀ (applyDlyCommits s) :=
  (h.setCist ..).foldl (fun _ _ h0 => h0.dlyApply ..)

theorem Keeps.lineStore (h : Keeps pl s₀ s) (l : DLine) (f : Nat) (v : Word)
    (hl : [Part.regs, .mem, .cist, .galley, .basin, .twin, .arb, .cistern,
      .fab] ⊆ pl := by exact sub_of (by assumption) (by decide)) :
    Keeps pl s₀ (lineStore l f v s) :=
  .ite ((Keeps.ite (h.cistStore ..) h).stWord ..) (.ite (h.cistStore ..) h)

theorem Keeps.lineFetch (h : Keeps pl s₀ s) (l : DLine) (d j : Nat)
    (hl : [Part.regs, .mem, .cist, .galley, .basin, .twin, .arb, .cistern,
      .fab] ⊆ pl := by exact sub_of (by assumption) (by decide)) :
    Keeps pl s₀ (lineFetch l d j s).2 :=
  .ite_snd h (.ite_snd (.ite_snd h (h.dmaRead ..))
      (.ite_snd h (.ite_snd (.ite h h.stageMiss) (.ite_snd (h.cistFetch ..).stageMiss (h.cistFetch ..)))))

theorem Keeps.lineMix (h : Keeps pl s₀ s) (l : DLine) (j : Nat) (acc : Int) (pts : List (Nat × Nat))
    (hl : [Part.regs, .mem, .cist, .galley, .basin, .twin, .arb, .cistern,
      .fab] ⊆ pl := by exact sub_of (by assumption) (by decide)) :
    Keeps pl s₀ (lineMix l j acc pts s).2 := by
  induction pts generalizing acc s with
  | nil => exact h
  | cons p t ih => exact .ite_snd h (ih (h.lineFetch ..) _)

theorem Keeps.lineValue (h : Keeps pl s₀ s) (l : DLine) (j : Nat)
    (hl : [Part.regs, .mem, .cist, .galley, .basin, .twin, .arb, .cistern,
      .fab] ⊆ pl := by exact sub_of (by assumption) (by decide)) :
    Keeps pl s₀ (lineValue l j s).2 := by
  unfold Machine.lineValue
  dsimp only
  split
  · exact h
  · exact .ite_snd (h.lineMix ..) ((h.lineFetch ..).lineMix ..)

theorem Keeps.blockLines (h : Keeps pl s₀ s) (k : Nat)
    (hl : [Part.regs, .mem, .cist, .galley, .basin, .twin, .arb, .cistern,
      .fab] ⊆ pl := by exact sub_of (by assumption) (by decide)) :
    Keeps pl s₀ (blockLines k s) :=
  (h.foldl (fun _ _ h1 => .ite h1 (h1.foldl (fun _ _ h3 => (h3.dmaRead ..).lineStore ..)))).foldl
      (fun _ _ h0 => h0.foldl (fun _ _ h1 => (h1.lineValue ..).stWord ..))

theorem Keeps.alignLines (h : Keeps pl s₀ s) (j : Nat) (out : Samples)
    (hl : [Part.regs, .mem, .cist, .galley, .basin, .twin, .arb, .cistern,
      .fab] ⊆ pl := by exact sub_of (by assumption) (by decide)) :
    Keeps pl s₀ (alignLines j out s).2 := by
  unfold Machine.alignLines
  refine Keeps.setCist (Keeps.foldl_snd (a := (out, s)) h fun u l hu => ?_) _
  exact .ite_snd (hu.lineStore ..).stageMiss ((hu.lineStore ..).lineValue ..)

theorem Keeps.setRef (h : Keeps pl s₀ s) (r : Nat) (v : RefSt)
    (hl : [Part.dpll] ⊆ pl := by exact sub_of (by assumption) (by decide)) :
    Keeps pl s₀ (setRef r v s) :=
  h.setDpll _

theorem Keeps.refDisq (h : Keeps pl s₀ s) (r : Nat)
    (hl : [Part.regs, .dpll] ⊆ pl := by exact sub_of (by assumption) (by decide)) :
    Keeps pl s₀ (refDisq r s) :=
  (h.setRef ..).iset ..

theorem Keeps.refQual (h : Keeps pl s₀ s) (r : Nat)
    (hl : [Part.regs, .dpll] ⊆ pl := by exact sub_of (by assumption) (by decide)) :
    Keeps pl s₀ (refQual r s) :=
  (h.setRef ..).iset ..

theorem Keeps.refFailNow (h : Keeps pl s₀ s) (r : Nat)
    (hl : [Part.regs, .dpll] ⊆ pl := by exact sub_of (by assumption) (by decide)) :
    Keeps pl s₀ (refFailNow r s) :=
  .ite (h.setRef ..) ((h.setRef ..).iset ..)

theorem Keeps.refStep (h : Keeps pl s₀ s) (r : Nat)
    (hl : [Part.regs, .dpll] ⊆ pl := by exact sub_of (by assumption) (by decide)) :
    Keeps pl s₀ (refStep s r) := by
  unfold Machine.refStep
  extract_lets x _ s1 _
  have hs1 : Keeps pl s₀ s1 := h.setRef ..
  split
  · exact h.setRef ..
  · split
    · exact h.setRef ..
    · split
      · exact .ite h (h.refFailNow ..)
      · split
        · exact .ite (hs1.setRef ..) hs1
        · exact .ite (hs1.refDisq ..) (.ite (hs1.refQual ..) hs1)
        · exact .ite hs1 (hs1.setRef ..)
        · exact .ite (hs1.setRef ..) (.ite (hs1.refDisq ..) hs1)
        · exact .ite (hs1.setRef ..) hs1
        · exact hs1

theorem Keeps.startPull (h : Keeps pl s₀ s) (e : ℤ)
    (hl : [Part.dpll] ⊆ pl := by exact sub_of (by assumption) (by decide)) :
    Keeps pl s₀ (startPull e s) :=
  h.setDpll _

theorem Keeps.hoUpdate (h : Keeps pl s₀ s)
    (hl : [Part.dpll] ⊆ pl := by exact sub_of (by assumption) (by decide)) :
    Keeps pl s₀ (hoUpdate s) :=
  h.setDpll _

theorem Keeps.outFreq (h : Keeps pl s₀ s)
    (hl : [Part.dpll] ⊆ pl := by exact sub_of (by assumption) (by decide)) :
    Keeps pl s₀ (outFreq s) :=
  h.setDpll _

theorem Keeps.holdOver (h : Keeps pl s₀ s)
    (hl : [Part.regs, .dpll] ⊆ pl := by exact sub_of (by assumption) (by decide)) :
    Keeps pl s₀ (holdOver s) :=
  .ite (h.setDpll _) ((h.setDpll _).iset ..)

theorem Keeps.dpllFree (h : Keeps pl s₀ s)
    (hl : [Part.regs, .dpll] ⊆ pl := by exact sub_of (by assumption) (by decide)) :
    Keeps pl s₀ (dpllFree s) :=
  ((h.setDpll _).holdOver).outFreq

theorem Keeps.switchTo (h : Keeps pl s₀ s) (r : Option Nat)
    (hl : [Part.regs, .dpll] ⊆ pl := by exact sub_of (by assumption) (by decide)) :
    Keeps pl s₀ (switchTo r s) := by
  unfold Machine.switchTo
  extract_lets clear _ s1
  have hs1 : Keeps pl s₀ s1 := ((h.setDpll _).iset ..).cnt ..
  split
  · exact h
  · split
    · exact hs1.holdOver
    · have hs2 := hs1.startPull (refOf s1 ‹Nat›).e
      dsimp only
      split <;> exact hs2.setDpll _

theorem Keeps.evaluate (h : Keeps pl s₀ s)
    (hl : [Part.regs, .dpll] ⊆ pl := by exact sub_of (by assumption) (by decide)) :
    Keeps pl s₀ (evaluate s) := by
  unfold Machine.evaluate
  extract_lets s1 _ dt left s2 _ s3 s4 p mark _ s5 s6 s7
  have hs1 : Keeps pl s₀ s1 := h.foldl fun _ _ hu => hu.refStep ..
  have hs2 : Keeps pl s₀ s2 := hs1.setDpll _
  have hs3 : Keeps pl s₀ s3 := .ite (hs2.setDpll _) hs2
  have hs4 : Keeps pl s₀ s4 := .ite hs3.hoUpdate hs3
  have hs5 : Keeps pl s₀ s5 :=
    (Keeps.ite (hs4.iset ..) hs4).setDpll _
  have hs6 : Keeps pl s₀ s6 := hs5.switchTo ..
  have hs7 : Keeps pl s₀ s7 := .ite hs6.holdOver hs6
  have hoff : Keeps pl s₀ { s1 with dpll := { s1.dpll with evalT := s1.now } } := hs1.setDpll _
  exact .ite hoff.outFreq (.ite hoff.outFreq hs7.outFreq)

theorem Keeps.refFail (h : Keeps pl s₀ s) (r : Nat)
    (hl : [Part.regs, .dpll] ⊆ pl := by exact sub_of (by assumption) (by decide)) :
    Keeps pl s₀ (refFail r s) :=
  .ite h (.ite (h.refFailNow ..).evaluate (h.refFailNow ..))

theorem Keeps.alignStart (h : Keeps pl s₀ s) (outs : List ℕ) (src : Nat)
    (hl : [Part.dpll] ⊆ pl := by exact sub_of (by assumption) (by decide)) :
    Keeps pl s₀ (alignStart outs src s) :=
  h.setDpll _

theorem Keeps.outPhase (h : Keeps pl s₀ s) (o k : Nat)
    (hl : [Part.clk] ⊆ pl := by exact sub_of (by assumption) (by decide)) :
    Keeps pl s₀ (outPhase o k s) := by
  unfold Machine.outPhase
  dsimp only
  split
  · exact h.setClk _
  · exact h.setClk _
  · exact h.setClk _
  · exact h.setClk _

theorem Keeps.alignEpoch (h : Keeps pl s₀ s) (f g0 : Nat) (a : AlignSt)
    (hl : [Part.clk, .dpll] ⊆ pl := by exact sub_of (by assumption) (by decide)) :
    Keeps pl s₀ (alignEpoch f g0 a s) :=
  (h.setDpll _).outPhase ..

theorem Keeps.alignAt (h : Keeps pl s₀ s) (src e f tick : Nat)
    (hl : [Part.clk, .dpll] ⊆ pl := by exact sub_of (by assumption) (by decide)) :
    Keeps pl s₀ (alignAt src e f tick s) :=
  h.foldl (fun _ _ h0 => h0.alignEpoch ..)

theorem Keeps.alignTick (h : Keeps pl s₀ s)
    (hl : [Part.clk, .dpll] ⊆ pl := by exact sub_of (by assumption) (by decide)) :
    Keeps pl s₀ (alignTick s) :=
  .ite h (.ite ((Keeps.ite (h.alignAt ..) h).alignAt ..) (.ite (h.alignAt ..) h))

theorem Keeps.jetReown (h : Keeps pl s₀ s)
    (hl : [Part.basin] ⊆ pl := by exact sub_of (by assumption) (by decide)) :
    Keeps pl s₀ (jetReown s) :=
  h.setBasin ..

theorem Keeps.jetEnable (h : Keeps pl s₀ s) (p : Nat)
    (hl : [Part.regs, .basin] ⊆ pl := by exact sub_of (by assumption) (by decide)) :
    Keeps pl s₀ (jetEnable p s) :=
  .ite ((h.iset ..).errcap ..) ((h.setBasin ..).foldl (fun _ _ h1 => (h1.iset ..).errcap ..))

theorem Keeps.jetDisable (h : Keeps pl s₀ s) (p : Nat)
    (hl : [Part.basin] ⊆ pl := by exact sub_of (by assumption) (by decide)) :
    Keeps pl s₀ (jetDisable p s) :=
  h.setBasin ..

theorem Keeps.jetMuteChange (h : Keeps pl s₀ s) (p : Nat) (on : Bool)
    (hl : [Part.basin] ⊆ pl := by exact sub_of (by assumption) (by decide)) :
    Keeps pl s₀ (jetMuteChange p on s) :=
  h.setBasin ..

theorem Keeps.jetPathChange (h : Keeps pl s₀ s) (p : Nat) (old new : Word)
    (hl : [Part.regs, .basin] ⊆ pl := by exact sub_of (by assumption) (by decide)) :
    Keeps pl s₀ (jetPathChange p old new s) := by
  unfold Machine.jetPathChange
  extract_lets s1 _ _ _ s2 s3
  have hs1 : Keeps pl s₀ s1 := .ite h (h.jetMuteChange ..)
  have hs2 : Keeps pl s₀ s2 := .ite (hs1.jetDisable ..) hs1
  have hs3 : Keeps pl s₀ s3 := .ite (hs2.jetEnable ..) hs2
  exact .ite hs1 (.ite hs3.jetReown hs3)

theorem Keeps.jetEnChange (h : Keeps pl s₀ s) (en : Bool)
    (hl : [Part.regs, .basin] ⊆ pl := by exact sub_of (by assumption) (by decide)) :
    Keeps pl s₀ (jetEnChange en s) :=
  .ite (h.foldl (fun _ _ h2 => .ite (h2.jetEnable ..) h2)).jetReown (h.setBasin ..).jetReown

theorem Keeps.protFault (h : Keeps pl s₀ s) (rwp : Bool) (l a : Nat) (write remote : Bool)
    (hl : [Part.regs] ⊆ pl := by exact sub_of (by assumption) (by decide)) :
    Keeps pl s₀ (protFault rwp l a write remote s) :=
  .ite (((((h.cnt ..).iset ..).alarm ..).errcap ..).rset ..) ((((h.cnt ..).iset ..).alarm ..).errcap ..)

theorem Keeps.rangeApply (h : Keeps pl s₀ s) (k : Nat)
    (hl : [Part.host] ⊆ pl := by exact sub_of (by assumption) (by decide)) :
    Keeps pl s₀ (rangeApply k s) :=
  h.setHost _

theorem Keeps.segAccept (h : Keeps pl s₀ s) (t : Word) (p : List Word)
    (hl : [Part.regs, .cistern] ⊆ pl := by exact sub_of (by assumption) (by decide)) :
    Keeps pl s₀ (segAccept t p s) :=
  (h.setCist ..).foldl (fun _ _ h0 => (h0.rset ..).rset ..)

theorem Keeps.segFree (h : Keeps pl s₀ s) (t : Word)
    (hl : [Part.regs, .cistern] ⊆ pl := by exact sub_of (by assumption) (by decide)) :
    Keeps pl s₀ (segFree t s) :=
  (h.setCist ..).foldl (fun _ _ h0 => h0.rset ..)

theorem Keeps.recordFrame (h : Keeps pl s₀ s) (f : Nat)
    (hl : [Part.regs, .cistern] ⊆ pl := by exact sub_of (by assumption) (by decide)) :
    Keeps pl s₀ (recordFrame f s) :=
  .ite h (.ite (((h.foldl (fun _ _ h4 => h4.foldl (fun _ _ h5 => h5.rset ..))).cnt ..).iset ..)
      ((((h.foldl (fun _ _ h5 => h5.foldl (fun _ _ h6 => h6.rset ..))).setCist ..).rset ..).peak ..))

theorem Keeps.recDrain (h : Keeps pl s₀ s) (n : Nat)
    (hl : [Part.regs, .mem, .cist, .galley, .basin, .twin, .arb, .cistern,
      .fab] ⊆ pl := by exact sub_of (by assumption) (by decide)) :
    Keeps pl s₀ (recDrain n s) :=
  .ite h (((h.setCist ..).foldl (fun _ _ h2 => h2.cistStore ..)).rset ..)

theorem Keeps.recFreeze (h : Keeps pl s₀ s) (t : Word)
    (hl : [Part.regs, .cistern] ⊆ pl := by exact sub_of (by assumption) (by decide)) :
    Keeps pl s₀ (recFreeze t s) :=
  .ite ((h.setCist ..).iset ..) h

theorem Keeps.voiceDone (h : Keeps pl s₀ s)
    (hl : [Part.regs] ⊆ pl := by exact sub_of (by assumption) (by decide)) :
    Keeps pl s₀ (voiceDone s) :=
  h.iset ..

theorem Keeps.voiceRaw (h : Keeps pl s₀ s) (x : VoiceRun) (k : Nat)
    (hl : [Part.regs, .mem, .cist, .galley, .basin, .twin, .arb, .cistern,
      .fab] ⊆ pl := by exact sub_of (by assumption) (by decide)) :
    Keeps pl s₀ (voiceRaw x k s).2 :=
  h.cistFetch ..

theorem Keeps.voiceSample (h : Keeps pl s₀ s) (x : VoiceRun) (j : Nat) (missing : Bool)
    (hl : [Part.regs, .mem, .cist, .galley, .basin, .twin, .arb, .cistern,
      .fab] ⊆ pl := by exact sub_of (by assumption) (by decide)) :
    Keeps pl s₀ (voiceSample x j missing s).2 :=
  .ite_snd h (.ite_snd h (.ite_snd (h.cnt ..).stageMiss (h.voiceRaw ..)))

theorem Keeps.playerInputs {a : Samples × State} (h : Keeps pl s₀ a.2) (j : Nat) (missing : List (Fin 256))
    (hl : [Part.regs, .mem, .cist, .galley, .basin, .twin, .arb, .cistern,
      .fab] ⊆ pl := by exact sub_of (by assumption) (by decide)) :
    Keeps pl s₀ (playerInputs j missing a).2 := by
  unfold Machine.playerInputs
  extract_lets r
  have hr : Keeps pl s₀ r.2 := Keeps.foldl_snd (a := ([], a.2)) h fun _ _ hu => hu.voiceSample ..
  exact Keeps.foldl_snd (a := (a.1, r.2)) hr fun _ _ hu => .ite_snd (hu.iset ..) (.ite_snd hu hu)

theorem Keeps.runEnd (h : Keeps pl s₀ s) (x : VoiceRun) (c' : Nat)
    (hl : [Part.regs, .mem, .comp, .galley, .cistern, .fab] ⊆ pl := by exact sub_of (by assumption) (by decide)) :
    Keeps pl s₀ (runEnd x c' s) :=
  ((h.setCist ..).voiceDone.finishRunning ..).foldl (fun _ _ h0 => h0.finishRunning ..)

theorem Keeps.acceptSide (h : Keeps pl s₀ s) (ev : Ev)
    (hl : [Part.regs, .galley, .basin, .cistern] ⊆ pl := by exact sub_of (by assumption) (by decide)) :
    Keeps pl s₀ (acceptSide ev s) := by
  unfold Machine.acceptSide
  dsimp only
  split
  · exact (h.setGalley ..).setBasin ..
  · exact (h.setGalley ..).segAccept ..
  · exact h.setGalley ..

theorem Keeps.journal (h : Keeps pl s₀ s) (ev : Ev)
    (hl : [Part.regs, .galley, .basin, .cistern] ⊆ pl := by exact sub_of (by assumption) (by decide)) :
    Keeps pl s₀ (journal ev s) :=
  (h.rset ..).acceptSide ..

theorem Keeps.handOver (h : Keeps pl s₀ s) (ev : Ev) (noTable : Bool)
    (hl : [Part.regs, .mem, .comp, .galley, .fab] ⊆ pl := by exact sub_of (by assumption) (by decide)) :
    Keeps pl s₀ (handOver ev noTable s) :=
  .ite ((Keeps.ite h (h.setGalley ..)).applyImmCancel ..) ((Keeps.ite h (h.setGalley ..)).enqueue ..)

theorem Keeps.prodWritten (h : Keeps pl s₀ s) (lvl : Fin 4) (old new : Nat)
    (hl : [Part.galley] ⊆ pl := by exact sub_of (by assumption) (by decide)) :
    Keeps pl s₀ (prodWritten lvl old new s) :=
  h.setGalley ..

theorem Keeps.clientReset (h : Keeps pl s₀ s) (mask : Nat)
    (hl : [Part.galley] ⊆ pl := by exact sub_of (by assumption) (by decide)) :
    Keeps pl s₀ (clientReset mask s) :=
  h.setGalley ..

theorem Keeps.clientRstWrite (h : Keeps pl s₀ s) (mask : Nat)
    (hl : [Part.galley, .twin] ⊆ pl := by exact sub_of (by assumption) (by decide)) :
    Keeps pl s₀ (clientRstWrite mask s) :=
  .ite ((h.clientReset ..).sendCell ..) (h.clientReset ..)

theorem Keeps.renewLease (h : Keeps pl s₀ s)
    (hl : [Part.regs, .twin, .arb] ⊆ pl := by exact sub_of (by assumption) (by decide)) :
    Keeps pl s₀ (renewLease s) :=
  .ite (.ite (h.setTwinSt ..).hbToggle h.hbStatic) (.ite h.hbToggle h.hbStatic)

theorem Keeps.startSync (h : Keeps pl s₀ s)
    (hl : [Part.regs, .galley, .basin, .twin, .cistern, .fab] ⊆ pl := by exact sub_of (by assumption) (by decide)) :
    Keeps pl s₀ (startSync s) :=
  (((h.setTwin ..).setTwinSt ..).sendCell ..).sendCell ..

theorem Keeps.fenceSelf (h : Keeps pl s₀ s)
    (hl : [Part.regs, .galley, .basin, .twin, .arb, .cistern,
      .fab] ⊆ pl := by exact sub_of (by assumption) (by decide)) :
    Keeps pl s₀ (fenceSelf s) :=
  .ite h h.enterFenced

theorem Keeps.fenceCmd (h : Keeps pl s₀ s)
    (hl : [Part.regs, .galley, .basin, .twin, .arb, .cistern,
      .fab] ⊆ pl := by exact sub_of (by assumption) (by decide)) :
    Keeps pl s₀ (fenceCmd s) :=
  .ite (h.sendCell ..) h.fenceSelf

theorem Keeps.twinCmd (h : Keeps pl s₀ s) (v : Nat)
    (hl : [Part.regs, .galley, .basin, .twin, .arb, .cistern,
      .fab] ⊆ pl := by exact sub_of (by assumption) (by decide)) :
    Keeps pl s₀ (twinCmd v s).2 := by
  unfold Machine.twinCmd
  split
  · exact .ite_snd h h.startSync
  · exact .ite_snd h (h.requestRelease ..)
  · exact h.fenceCmd
  · exact h

theorem Keeps.crcCompare (h : Keeps pl s₀ s) (f : Nat)
    (hl : [Part.regs, .twin] ⊆ pl := by exact sub_of (by assumption) (by decide)) :
    Keeps pl s₀ (crcCompare f s) := by
  unfold Machine.crcCompare
  dsimp only
  split
  · exact .ite ((((h.rset ..).rset ..).rset ..).setTwinSt ..)
      (.ite ((((((h.rset ..).rset ..).rset ..).setTwinSt ..).cnt ..).iset ..) (((h.rset ..).rset ..).rset ..))
  · exact h

theorem Keeps.crcOutcome (h : Keeps pl s₀ s) (next : Nat)
    (hl : [Part.regs, .galley, .basin, .twin, .arb, .cistern,
      .fab] ⊆ pl := by exact sub_of (by assumption) (by decide)) :
    Keeps pl s₀ (crcOutcome next s) := by
  unfold Machine.crcOutcome
  dsimp only
  split
  · exact h
  · exact .ite h (.ite (.ite ((Keeps.ite ((h.setTwinSt ..).cnt ..) (h.setTwinSt ..)).requestRelease ..)
      (.ite ((h.setTwinSt ..).cnt ..) (h.setTwinSt ..)))
      (.ite ((Keeps.ite ((h.setTwinSt ..).cnt ..) (h.setTwinSt ..)).standbyFault ..)
      (.ite (.ite ((h.setTwinSt ..).cnt ..) (h.setTwinSt ..))
      ((Keeps.ite ((h.setTwinSt ..).cnt ..) (h.setTwinSt ..)).standbyFault ..))))

theorem Keeps.syncRestart (h : Keeps pl s₀ s)
    (hl : [Part.twin] ⊆ pl := by exact sub_of (by assumption) (by decide)) :
    Keeps pl s₀ (syncRestart s) :=
  .ite (h.setTwinSt ..) h

theorem Keeps.timeCommand (h : Keeps pl s₀ s) (op : Nat) (sel : Bool)
    (hl : [Part.ptp] ⊆ pl := by exact sub_of (by assumption) (by decide)) :
    Keeps pl s₀ (timeCommand op sel s) :=
  .ite h (h.setPtp ..)

theorem Keeps.bandSearch (h : Keeps pl s₀ s) (fam : Bool)
    (hl : [Part.clk] ⊆ pl := by exact sub_of (by assumption) (by decide)) :
    Keeps pl s₀ (bandSearch fam s) :=
  h.setClk _

theorem Keeps.rateLand (h : Keeps pl s₀ s) (ticket : Option Word) (w : Word)
    (hl : [Part.twin, .clk] ⊆ pl := by exact sub_of (by assumption) (by decide)) :
    Keeps pl s₀ (rateLand ticket w s).1 := by
  unfold Machine.rateLand
  split
  · exact h
  · refine .ite_fst (h.setClk _) ?_
    split
    · exact h.setClk _
    · exact .ite_fst h (h.setClk _).syncRestart

theorem Keeps.nextRate (h : Keeps pl s₀ s)
    (hl : [Part.regs, .mem, .comp, .galley, .twin, .clk, .fab] ⊆ pl := by exact sub_of (by assumption) (by decide)) :
    Keeps pl s₀ (nextRate s) := by
  unfold Machine.nextRate
  split
  · exact h
  · extract_lets _ s1 _ s2 r
    have hs1 : Keeps pl s₀ s1 := h.setClk _
    have hs2 : Keeps pl s₀ s2 := by
      unfold s2
      split
      · exact hs1.setComp _
      · exact hs1
    have hr : Keeps pl s₀ r.1 := hs2.rateLand ..
    refine .ite hr ?_
    split
    · exact hr.finishRunning ..
    · exact hr

theorem Keeps.nextRates (h : Keeps pl s₀ s)
    (hl : [Part.regs, .mem, .comp, .galley, .twin, .clk, .fab] ⊆ pl := by exact sub_of (by assumption) (by decide)) :
    Keeps pl s₀ (nextRates s) :=
  h.foldl (fun _ _ h0 => .ite h0.nextRate h0)

theorem Keeps.endChange (h : Keeps pl s₀ s)
    (hl : [Part.regs, .mem, .comp, .galley, .twin, .clk, .fab] ⊆ pl := by exact sub_of (by assumption) (by decide)) :
    Keeps pl s₀ (endChange s) := by
  unfold Machine.endChange
  split
  · exact h
  · have hs1 (k : RateChange) : Keeps pl s₀ (Machine.setClk
      { s.clk with change := none, fam := k.fam, mult := k.mult } s) :=
      h.setClk _
    refine Keeps.nextRates ?_
    split
    · exact (hs1 _).finishRunning ..
    · exact hs1 _

theorem Keeps.pstep (h : Keeps pl s₀ s) (n : Nat)
    (hl : [Part.clk] ⊆ pl := by exact sub_of (by assumption) (by decide)) :
    Keeps pl s₀ (pstep n s) :=
  h.setClk _

theorem Keeps.wclkWritten (h : Keeps pl s₀ s) (n : Nat) (old new : Word)
    (hl : [Part.clk] ⊆ pl := by exact sub_of (by assumption) (by decide)) :
    Keeps pl s₀ (wclkWritten n old new s) :=
  .ite (h.setClk _)
    (.ite (h.setClk _) h)

theorem Keeps.setClk1 (h : Keeps pl s₀ s) (x : ClockSt)
    (hl : [Part.clk] ⊆ pl := by exact sub_of (by assumption) (by decide)) :
    Keeps pl s₀ (setClk1 x s) :=
  h.setClk x

theorem Keeps.ppsEnable (h : Keeps pl s₀ s) (en : Bool)
    (hl : [Part.clk] ⊆ pl := by exact sub_of (by assumption) (by decide)) :
    Keeps pl s₀ (ppsEnable en s) :=
  h.setClk1 _

theorem Keeps.bmarkEnable (h : Keeps pl s₀ s) (en : Bool)
    (hl : [Part.clk] ⊆ pl := by exact sub_of (by assumption) (by decide)) :
    Keeps pl s₀ (bmarkEnable en s) :=
  h.setClk1 _

theorem Keeps.tempRestartSet (h : Keeps pl s₀ s)
    (hl : [Part.regs, .clk] ⊆ pl := by exact sub_of (by assumption) (by decide)) :
    Keeps pl s₀ (tempRestartSet s) :=
  (h.rput ..).setClk1 _

theorem Keeps.setPMode (h : Keeps pl s₀ s) (p : Fin 16) (m : PMode)
    (hl : [Part.regs, .press] ⊆ pl := by exact sub_of (by assumption) (by decide)) :
    Keeps pl s₀ (setPMode p m s) := by
  unfold Machine.setPMode
  exact .ite h (Keeps.iset (h.setPress p _) ..)

theorem Keeps.enterPressFault (h : Keeps pl s₀ s) (p : Fin 16) (cause addr : Nat)
    (hl : [Part.regs, .press] ⊆ pl := by exact sub_of (by assumption) (by decide)) :
    Keeps pl s₀ (enterPressFault p cause addr s) :=
  ((((h.setPress p _).setPMode ..).rset ..).iset ..).alarm ..

theorem Keeps.raiseFault (h : Keeps pl s₀ s) (p : Fin 16) (cause addr : Nat) (pc : BitVec 13)
    (hl : [Part.regs, .press] ⊆ pl := by exact sub_of (by assumption) (by decide)) :
    Keeps pl s₀ (raiseFault p cause addr pc s) :=
  .ite h ((h.setPress p _).rset ..)

theorem Keeps.storeLoc (h : Keeps pl s₀ s) (p : Fin 16) (x : PLoc × Word)
    (hl : [Part.regs, .mem, .press, .fab] ⊆ pl := by exact sub_of (by assumption) (by decide)) :
    Keeps pl s₀ (storeLoc p x s) := by
  unfold Machine.storeLoc
  split
  · exact h.stWord ..
  · exact h.setPress p _
  · exact (h.rset ..).iset ..
  · exact h

theorem Keeps.issueOnce (h : Keeps pl s₀ s) (p : Fin 16) (arith : BitVec 22) (effs : PressSt → Nat → List MoveEff)
    (hl : [Part.regs, .mem, .cist, .galley, .basin, .twin, .arb, .cistern,
      .press, .fab] ⊆ pl := by exact sub_of (by assumption) (by decide)) :
    Keeps pl s₀ (issueOnce p arith effs s) := by
  unfold Machine.issueOnce
  extract_lets x t es sv ws _ s1 s2 s3
  have hs1 : Keeps pl s₀ s1 := h.setPress p _
  have hs2 : Keeps pl s₀ s2 := hs1.foldl fun _ _ hu => hu.storeLoc ..
  have hs3 : Keeps pl s₀ s3 := hs2.foldl fun _ _ hu => hu.raiseFault ..
  exact hs3.foldl fun _ _ hu => .ite ((hu.eccRead ..).enterPressFault ..) (hu.eccRead ..)

theorem Keeps.issueTimes (h : Keeps pl s₀ s) (p : Fin 16) (arith : BitVec 22)
    (effs : State → PressSt → Nat → List MoveEff)
    (n : Nat)
    (hl : [Part.regs, .mem, .cist, .galley, .basin, .twin, .arb, .cistern,
      .press, .fab] ⊆ pl := by exact sub_of (by assumption) (by decide)) :
    Keeps pl s₀ (issueTimes p arith effs n s) := by
  induction n generalizing s with
  | zero => exact h
  | succ n ih =>
    have hs1 := h.issueOnce p arith (effs s)
    exact .ite hs1 (ih hs1)

theorem Keeps.acceptEntry (h : Keeps pl s₀ s) (p : Fin 16) (kind : PKind)
    (hl : [Part.regs, .press] ⊆ pl := by exact sub_of (by assumption) (by decide)) :
    Keeps pl s₀ (acceptEntry p kind s) := by
  unfold Machine.acceptEntry
  extract_lets u4 p0 x at_ double s1 v p2 _ p3
  have hs1 : Keeps pl s₀ s1 := .ite (h.iset ..) h
  exact .ite ((hs1.setPress p _).enterPressFault ..)
    (.ite ((hs1.setPress p _).enterPressFault ..) (hs1.setPress p _))

theorem Keeps.settleDbg (h : Keeps pl s₀ s) (p : Fin 16)
    (hl : [Part.regs, .press] ⊆ pl := by exact sub_of (by assumption) (by decide)) :
    Keeps pl s₀ (settleDbg p s) :=
  .ite ((h.setPress p _).setPMode ..) h

theorem Keeps.illegalWord (h : Keeps pl s₀ s) (p : Fin 16)
    (hl : [Part.regs, .press] ⊆ pl := by exact sub_of (by assumption) (by decide)) :
    Keeps pl s₀ (illegalWord p s) :=
  (h.setPress p _).raiseFault ..

theorem Keeps.issueData (h : Keeps pl s₀ s) (p : Fin 16) (arith : BitVec 22)
    (effs : State → PressSt → Nat → List MoveEff)
    (hl : [Part.regs, .mem, .cist, .galley, .basin, .twin, .arb, .cistern,
      .press, .fab] ⊆ pl := by exact sub_of (by assumption) (by decide)) :
    Keeps pl s₀ (issueData p arith effs s) := by
  unfold Machine.issueData
  extract_lets x s1
  have hs1 : Keeps pl s₀ s1 := Keeps.issueTimes (h.setPress p _) ..
  exact .ite hs1 (hs1.setPress p _)

theorem Keeps.enterWait (h : Keeps pl s₀ s) (p : Fin 16)
    (hl : [Part.regs, .press] ⊆ pl := by exact sub_of (by assumption) (by decide)) :
    Keeps pl s₀ (enterWait p s) :=
  ((h.setPress p _).rset ..).peak ..

theorem Keeps.issueCtl_plain' (h : Keeps pl s₀ s) (p : Fin 16) (n : Nat)
    (hl : [Part.press] ⊆ pl := by exact sub_of (by assumption) (by decide)) :
    Keeps pl s₀ (issueCtl.plain' p s n) :=
  h.setPress p _

theorem Keeps.issueCtl (h : Keeps pl s₀ s) (p : Fin 16) (x : Ctl)
    (hl : [Part.freeCtr, .regs, .press] ⊆ pl := by exact sub_of (by assumption) (by decide)) :
    Keeps pl s₀ (issueCtl p x s) := by
  unfold Machine.issueCtl
  extract_lets y t taken dAg y1 plain go
  have hplain (z : PressSt) : Keeps pl s₀ (plain z) := h.setPress p _
  have hgo (k : Nat) (a : BitVec 13) : Keeps pl s₀ (go k a) := h.setPress p _
  cases x with
  | bra k a => exact hgo ..
  | jmpr k i => exact hgo ..
  | call k a => exact .ite (.ite ((h.setPress p _).enterPressFault ..) (h.setPress p _)) (hgo ..)
  | rts k =>
    dsimp only
    split
    · exact h
    · exact .ite (h.setPress p _) (hgo ..)
  | rti =>
    dsimp only
    split
    · exact h
    · exact .ite (h.freeWord.setPress p _) (h.setPress p _)
  | rep n => exact h.issueCtl_plain' ..
  | repr i => exact h.issueCtl_plain' ..
  | loop k e => exact hplain _
  | loopr i e => exact hplain _
  | wait => exact (hplain _).enterWait p
  | trap => exact Keeps.acceptEntry (hplain { y1 with faultPc := y.pc }) p .trap
  | movs into r i => exact hplain _

theorem Keeps.issueControl (h : Keeps pl s₀ s) (p : Fin 16) (x : Ctl)
    (hl : [Part.freeCtr, .regs, .press] ⊆ pl := by exact sub_of (by assumption) (by decide)) :
    Keeps pl s₀ (issueControl p x s) :=
  .ite ((h.setPress p _).raiseFault ..) (.ite (h.issueCtl ..) (h.illegalWord ..))

theorem Keeps.issueFields (h : Keeps pl s₀ s) (p : Fin 16) (long : Bool) (arith : BitVec 22) (mv : BitVec 40)
    (hl : [Part.regs, .mem, .cist, .galley, .basin, .twin, .arb, .cistern,
      .press, .fab] ⊆ pl := by exact sub_of (by assumption) (by decide)) :
    Keeps pl s₀ (issueFields p long arith mv s) :=
  .ite (h.issueData ..) (h.illegalWord ..)

theorem Keeps.issueWord (h : Keeps pl s₀ s) (pi : Fin 16) (w : BitVec 64)
    (hl : [Part.freeCtr, .regs, .mem, .cist, .galley, .basin, .twin, .arb,
      .cistern, .press, .fab] ⊆ pl := by exact sub_of (by assumption) (by decide)) :
    Keeps pl s₀ (issueWord pi w s) := by
  unfold Machine.issueWord
  split
  · exact h.issueFields ..
  · exact h.issueFields ..
  · split
    · exact h.issueControl ..
    · exact h.illegalWord ..
  · exact h.illegalWord ..

theorem Keeps.fetchEcc (h : Keeps pl s₀ s) (pi : Fin 16)
    (hl : [Part.regs, .mem, .cist, .galley, .basin, .twin, .arb, .cistern,
      .fab] ⊆ pl := by exact sub_of (by assumption) (by decide)) :
    Keeps pl s₀ (fetchEcc pi s).1 :=
  .ite_fst h ((h.eccRead ..).eccRead ..)

theorem Keeps.tickEntry (h : Keeps pl s₀ s) (pi : Fin 16)
    (hl : [Part.regs, .press] ⊆ pl := by exact sub_of (by assumption) (by decide)) :
    Keeps pl s₀ (tickEntry pi s) :=
  .ite (h.acceptEntry ..) (h.settleDbg ..)

theorem Keeps.faultEntry (h : Keeps pl s₀ s) (pi : Fin 16)
    (hl : [Part.regs, .press] ⊆ pl := by exact sub_of (by assumption) (by decide)) :
    Keeps pl s₀ (faultEntry pi s) :=
  .ite (h.acceptEntry ..) (h.settleDbg ..)

theorem Keeps.dbgStepOne (h : Keeps pl s₀ s) (p : Fin 16)
    (hl : [Part.freeCtr, .regs, .mem, .cist, .galley, .basin, .twin, .arb,
      .cistern, .press, .fab] ⊆ pl := by exact sub_of (by assumption) (by decide)) :
    Keeps pl s₀ (dbgStepOne p s) := by
  unfold Machine.dbgStepOne
  extract_lets x a r s1
  have hr : Keeps pl s₀ r.1 := h.fetchEcc ..
  have hs1 : Keeps pl s₀ s1 := hr.issueWord ..
  exact .ite (.ite (hr.enterPressFault ..) (hs1.setPress p _)) h

theorem Keeps.writeRings (h : Keeps pl s₀ s) (f : Nat) (ins : List (ℕ × ℤ))
    (hl : [Part.regs, .mem, .fab] ⊆ pl := by exact sub_of (by assumption) (by decide)) :
    Keeps pl s₀ (writeRings f ins s) :=
  h.foldl (fun _ _ h0 => .ite h0 (h0.stWords ..))

theorem Keeps.pressOut (h : Keeps pl s₀ s) (pi : Fin 16) (i f : Nat)
    (hl : [Part.regs, .mem, .cist, .galley, .basin, .twin, .arb, .cistern,
      .fab] ⊆ pl := by exact sub_of (by assumption) (by decide)) :
    Keeps pl s₀ (pressOut pi i f s).2 :=
  .ite_snd h (h.dmaRead ..)

theorem Keeps.insertPress (h : Keeps pl s₀ s) (f : Nat) (ins : List (Nat × Int))
    (hl : [Part.regs, .mem, .cist, .galley, .basin, .twin, .arb, .cistern,
      .fab] ⊆ pl := by exact sub_of (by assumption) (by decide)) :
    Keeps pl s₀ (insertPress f ins s).2 := by
  unfold Machine.insertPress
  refine List.foldlRecOn (motive := fun a : (List (Nat × Int) × State) × List Nat => Keeps pl s₀ a.1.2) _ _ h
      fun a ha p _ => ?_
  dsimp only
  split
  · exact ha
  · exact .ite_snd ha (ha.foldl_snd fun _ _ hu => .ite_snd hu (hu.pressOut ..))

theorem Keeps.putMsg (h : Keeps pl s₀ s) (pi : Fin 16) (c' : PCfg) (start : Nat) (ws : List Word)
    (hl : [Part.regs, .mem, .fab] ⊆ pl := by exact sub_of (by assumption) (by decide)) :
    Keeps pl s₀ (putMsg pi c' start ws s) :=
  h.foldl (fun _ _ h0 => .ite (h0.stWord ..) h0)

theorem Keeps.pressPublish (h : Keeps pl s₀ s) (p : Fin 16) (b words n : Nat) (l : List PMsg)
    (hl : [Part.regs, .mem, .comp, .galley, .press, .fab] ⊆ pl := by exact sub_of (by assumption) (by decide)) :
    Keeps pl s₀ (pressPublish p b words n l s).1 := by
  induction l generalizing words n s with
  | nil => exact h
  | cons m t ih =>
    unfold Machine.pressPublish
    extract_lets x ws used s1 _ s2
    have hs1 : Keeps pl s₀ s1 := h.putMsg ..
    have hs2 : Keeps pl s₀ s2 := hs1.setPress p _
    refine .ite_fst h (.ite_fst (ih ?_ ..) h)
    split
    · exact hs2
    · exact .ite (Keeps.finishAt (hs2.setComp _) ..) (Keeps.finish (hs2.setComp _) ..)

theorem Keeps.copyWords (h : Keeps pl s₀ s) (l : List (Nat × Nat))
    (hl : [Part.regs, .mem, .cist, .galley, .basin, .twin, .arb, .cistern,
      .fab] ⊆ pl := by exact sub_of (by assumption) (by decide)) :
    Keeps pl s₀ (copyWords l s).1 := by
  induction l generalizing s with
  | nil => exact h
  | cons x t ih => exact .ite_fst (h.eccRead ..) (ih ((h.eccRead ..).stWord ..))

theorem Keeps.romRun (h : Keeps pl s₀ s) (p : Fin 16)
    (hl : [Part.freeCtr, .regs, .mem, .cist, .galley, .basin, .twin, .arb,
      .cistern, .press, .fab] ⊆ pl := by exact sub_of (by assumption) (by decide)) :
    Keeps pl s₀ (romRun p s) := by
  unfold Machine.romRun
  extract_lets x a load y r
  have hr : Keeps pl s₀ r.1 := ((h.setFreeCtr _).setPress p _).copyWords ..
  exact .ite h (.ite (hr.enterPressFault ..) ((hr.rset ..).peak ..))

theorem Keeps.tickPress (h : Keeps pl s₀ s) (k : Nat) (starved : Bool) (p : Fin 16)
    (hl : [Part.regs, .mem, .comp, .galley, .press, .fab] ⊆ pl := by exact sub_of (by assumption) (by decide)) :
    Keeps pl s₀ (tickPress k starved p s) := by
  unfold Machine.tickPress
  extract_lets cf b _ s1 r held s2 x live over_ ring p1 s3
  have hs1 : Keeps pl s₀ s1 := h.setPress p _
  have hr : Keeps pl s₀ r.1 := .ite_fst hs1 (hs1.pressPublish ..)
  have hs2 : Keeps pl s₀ s2 := .ite (hr.iset ..) hr
  have hs3 : Keeps pl s₀ s3 := hs2.setPress p _
  exact .ite ((hs3.cnt ..).iset ..) hs3

theorem Keeps.blockTick (h : Keeps pl s₀ s) (starved : List (Fin 16))
    (hl : [Part.freeCtr, .regs, .mem, .cist, .comp, .galley, .basin, .twin,
      .arb, .cistern, .press, .fab] ⊆ pl := by exact sub_of (by assumption) (by decide)) :
    Keeps pl s₀ (blockTick starved s) :=
  .ite ((h.blockLines ..).foldl (fun _ _ h1 => (h1.tickPress ..).romRun ..)) h

theorem Keeps.pressSrst (h : Keeps pl s₀ s) (p : Fin 16)
    (hl : [Part.press] ⊆ pl := by exact sub_of (by assumption) (by decide)) :
    Keeps pl s₀ (pressSrst p s) := h.setPress p _

theorem Keeps.pressEn (h : Keeps pl s₀ s) (p : Fin 16) (old new : Bool)
    (hl : [Part.regs, .press] ⊆ pl := by exact sub_of (by assumption) (by decide)) :
    Keeps pl s₀ (pressEn p old new s) := by
  unfold Machine.pressEn
  refine .ite (.ite h (h.setPress p _)) ?_
  split
  · exact h.setPress p _
  · exact (h.setPress p _).setPMode ..
  · exact h.setPress p _
  · exact .ite (h.setPress p _) h

theorem Keeps.dbgResume (h : Keeps pl s₀ s) (p : Fin 16)
    (hl : [Part.regs, .press] ⊆ pl := by exact sub_of (by assumption) (by decide)) :
    Keeps pl s₀ (dbgResume p s) :=
  .ite ((h.setPress p _).setPMode ..) h

theorem Keeps.dbgHalt (h : Keeps pl s₀ s) (pi : Fin 16) (v : Bool)
    (hl : [Part.regs, .press] ⊆ pl := by exact sub_of (by assumption) (by decide)) :
    Keeps pl s₀ (dbgHalt pi v s) :=
  .ite (h.settleDbg ..) (h.dbgResume ..)

theorem Keeps.dbgStep (h : Keeps pl s₀ s) (pi : Fin 16)
    (hl : [Part.freeCtr, .regs, .mem, .cist, .galley, .basin, .twin, .arb,
      .cistern, .press, .fab] ⊆ pl := by exact sub_of (by assumption) (by decide)) :
    Keeps pl s₀ (dbgStep pi s) :=
  .ite (.ite (.ite ((h.dbgStepOne ..).iset ..) ((h.dbgStepOne ..).dbgResume ..)) (h.dbgStepOne ..)) h

theorem Keeps.freezePage (h : Keeps pl s₀ s) (p : Nat) (on : Bool)
    (hl : [Part.frozen] ⊆ pl := by exact sub_of (by assumption) (by decide)) :
    Keeps pl s₀ (freezePage p on s) :=
  h.setFrozen ..

theorem Keeps.recordRefuse (h : Keeps pl s₀ s) (p : Nat) (r : RegRefuse)
    (hl : [Part.regs] ⊆ pl := by exact sub_of (by assumption) (by decide)) :
    Keeps pl s₀ (recordRefuse p r s) :=
  .ite (h.foldl (fun _ _ h1 => h1.iset ..)) ((h.foldl (fun _ _ h2 => h2.iset ..)).errcap ..)

theorem Keeps.finishAll (h : Keeps pl s₀ s) (p : Ev → Bool)
    (hl : [Part.regs, .mem, .comp, .galley, .fab] ⊆ pl := by exact sub_of (by assumption) (by decide)) :
    Keeps pl s₀ (finishAll p s) :=
  h.foldl (fun _ _ h0 => h0.finishRunning ..)

theorem Keeps.srstBlock (h : Keeps pl s₀ s) (p : Nat)
    (hl : [Part.regs, .mem, .comp, .galley, .basin, .ports, .net, .twin, .clk,
      .dpll, .cistern, .press, .fab, .sense] ⊆ pl := by exact sub_of (by assumption) (by decide)) :
    Keeps pl s₀ (srstBlock p s) := by
  have hchange : Keeps pl s₀ (Machine.endChange s) := h.endChange
  exact .ite (hchange.setClk _) <| .ite (h.setDpll _) <| .ite (h.setCist ..) <|
    .ite (h.setGrp ..) <| .ite (h.setPorts ..) <| .ite (h.rset ..) <| .ite (h.setNet ..) <| .ite (h.setNet ..) <|
    .ite (h.setNet ..) <| .ite (h.setNet ..) <| .ite ((h.setBasin ..).finishAll ..) <| .ite (h.setBasin ..) <|
    .ite (h.setSense ..) <| .ite (h.pressSrst ..) <|
    .ite (((h.setCist _).foldl fun _ _ hu => (hu.segFree ..).finishRunning ..).rset ..) <|
    .ite (h.foldl fun _ _ hu => hu.runEnd ..) h

theorem Keeps.srstWrite (h : Keeps pl s₀ s) (p : Nat)
    (hl : [Part.regs, .srst, .mem, .comp, .galley, .basin, .ports, .net, .twin, .clk, .dpll, .cistern, .press, .fab,
      .sense] ⊆ pl := by exact sub_of (by assumption) (by decide)) :
    Keeps pl s₀ (srstWrite p s) := by
  unfold Machine.srstWrite
  extract_lets isPress _ s1
  have hs1 : Keeps pl s₀ s1 := (((h.srstBlock ..).rset ..).rset ..).rset ..
  exact .ite (.ite (h.setPress _ _) h) (hs1.setSrst _)

theorem Keeps.heldSrst (h : Keeps pl s₀ s) (p : Fin 16)
    (hl : [Part.regs, .srst, .mem, .comp, .galley, .basin, .ports, .net, .twin, .clk, .dpll, .cistern, .press, .fab,
      .sense] ⊆ pl := by exact sub_of (by assumption) (by decide)) :
    Keeps pl s₀ (heldSrst p s) :=
  .ite ((h.setPress p _).srstWrite ..) h

theorem Keeps.pllmOff (h : Keeps pl s₀ s)
    (hl : [Part.regs, .mem, .tb, .comp, .galley, .twin, .clk,
      .fab] ⊆ pl := by exact sub_of (by assumption) (by decide)) :
    Keeps pl s₀ (pllmOff s) := ((h.setClk _).setTb _).endChange

theorem Keeps.ctrlAct (h : Keeps pl s₀ s) (p : Nat) (old new v : Word)
    (hl : [Part.freeCtr, .regs, .frozen, .srst, .mem, .cist, .tb, .comp, .galley, .basin, .ports, .net, .twin, .arb,
      .clk, .dpll, .cistern, .press, .fab, .sense] ⊆ pl := by exact sub_of (by assumption) (by decide)) :
    Keeps pl s₀ (ctrlAct p old new v s) := by
  unfold Machine.ctrlAct
  extract_lets s0 _ _ _ s2 s3 s21 _ s1
  have hs0 : Keeps pl s₀ s0 := .ite h (h.freezePage ..)
  have hs2 : Keeps pl s₀ s2 := (Keeps.ite (hs0.pressEn ..) hs0).heldSrst ..
  have hs3 : Keeps pl s₀ s3 := .ite hs2 (hs2.dbgHalt ..)
  have hs21 : Keeps pl s₀ s21 := .ite (hs0.refFail ..) hs0
  have hs1 : Keeps pl s₀ s1 := .ite (.ite (hs3.dbgStep ..) hs3)
      (.ite (.ite (hs21.refFail ..) hs21) (.ite hs0 (.ite (.ite hs0 hs0.dpllFree)
      (.ite (.ite hs0 hs0.pllmOff) (.ite (.ite hs0.startTraining (hs0.setCist ..))
      (.ite (hs0.groupEn ..) (.ite (hs0.jetEnChange ..) (.ite (.ite hs0 (hs0.portOff ..)) hs0))))))))
  exact .ite (hs1.srstWrite ..) hs1

theorem Keeps.gateAct (h : Keeps pl s₀ s) (old new : Word)
    (hl : [Part.regs, .ports] ⊆ pl := by exact sub_of (by assumption) (by decide)) :
    Keeps pl s₀ (gateAct old new s) :=
  h.foldl (fun _ _ h0 => .ite (h0.groupEn ..) h0)

theorem Keeps.pllAct (h : Keeps pl s₀ s) (new : Word)
    (hl : [Part.clk] ⊆ pl := by exact sub_of (by assumption) (by decide)) :
    Keeps pl s₀ (pllAct new s) :=
  h.setClk _

theorem Keeps.remapAct (h : Keeps pl s₀ s) (g : Fin 4) (a : Nat) (old new : Word)
    (hl : [Part.regs, .mem, .cist, .galley, .basin, .twin, .arb, .cistern,
      .fab] ⊆ pl := by exact sub_of (by assumption) (by decide)) :
    Keeps pl s₀ (remapAct g a old new s) :=
  (Keeps.ite (h.foldl (fun _ _ h2 => (h2.eccRead ..).setFlips ..)) h).rset ..

theorem Keeps.armAct (h : Keeps pl s₀ s)
    (hl : [Part.fab] ⊆ pl := by exact sub_of (by assumption) (by decide)) :
    Keeps pl s₀ (armAct s) :=
  h.setFab ..

theorem Keeps.pageAct (h : Keeps pl s₀ s) (direct : Bool) (tk : Option Word) (lvl a : Nat) (old new v : Word)
    (hl : [Part.regs, .mem, .cist, .host, .boot, .tb, .comp, .galley, .basin, .ports, .net, .twin, .arb, .clk, .dpll,
      .ptp, .cistern, .fab] ⊆ pl := by exact sub_of (by assumption) (by decide)) :
    Keeps pl s₀ (pageAct direct tk lvl a old new v s).1 := by
  unfold Machine.pageAct
  extract_lets p o k
  clear_value p o k
  refine .ite_fst (.ite (h.rangeApply ..) h) ?_
  refine .ite_fst (.ite (h.setHost _) h) ?_
  refine .ite_fst (.ite (h.pllAct ..) (.ite (h.gateAct ..) h)) ?_
  refine .ite_fst (.ite_fst (h.rateLand ..) (.ite_fst (h.pstep ..) (.ite_fst (h.wclkWritten ..)
    (.ite_fst (h.bandSearch ..) h)))) ?_
  refine .ite_fst (.ite (h.alignStart ..) h) ?_
  refine .ite_fst (.ite h.wheelTaken (.ite (h.setTb _)
      (.ite (h.corrSubmit ..) (.ite (h.setTb _) (.ite (h.setTb _) h))))) ?_
  refine .ite_fst (.ite (h.prodWritten ..) (.ite (h.clientRstWrite ..) h)) ?_
  refine .ite_fst (.ite (h.twinCmd ..) h) ?_
  refine .ite_fst (.ite h.dlySel (.ite (h.dlyCommit ..) h)) ?_
  refine .ite_fst (.ite (.ite h.armAct h) ?_) ?_
  · split
    · exact .ite (h.remapAct ..) h
    · exact h
  refine .ite_fst (.ite_fst (h.portChange ..) (.ite_fst (h.portChange ..) (.ite_fst (h.portChange ..) h))) ?_
  refine .ite_fst (.ite (h.txCommit ..) h) ?_
  refine .ite_fst (.ite ((h.asrcChange ..).asrcFlowChange ..) h) ?_
  refine .ite_fst (.ite (h.timeCommand ..) h) ?_
  refine .ite_fst (.ite_fst (h.streamSel ..) (.ite_fst (h.streamCommit ..)
    (.ite_fst (((h.rset ..).fclkLock ..).rset ..) h))) ?_
  refine .ite_fst (.ite (h.peak ..) h) ?_
  refine .ite_fst (.ite (h.formeCrcStart ..) (.ite (h.peak ..) h)) ?_
  refine .ite_fst (.ite_fst (h.jetPathChange ..) (.ite_fst ((h.rset ..).pointChange ..) h)) ?_
  refine .ite_fst (.ite (h.ppsEnable ..) (.ite (h.bmarkEnable ..) h)) ?_
  refine .ite_fst (.ite (h.recFreeze ..) (.ite (h.peak ..) h)) ?_
  refine .ite_fst (.ite (h.rset ..) h) ?_
  refine .ite_fst (.ite h.tempRestartSet h) ?_
  exact .ite_fst (.ite (h.setBoot _) h) h

theorem Keeps.regAct (h : Keeps pl s₀ s) (direct : Bool) (tk : Option Word) (lvl a : Nat) (old new v : Word)
    (hl : [Part.freeCtr, .regs, .frozen, .srst, .mem, .cist, .host, .boot, .tb, .comp, .galley, .basin, .ports, .net,
      .twin, .arb, .clk, .dpll, .ptp, .cistern, .press, .fab,
      .sense] ⊆ pl := by exact sub_of (by assumption) (by decide)) :
    Keeps pl s₀ (regAct direct tk lvl a old new v s).1 := by
  unfold Machine.regAct
  extract_lets p o km s0 s1
  have hs1 : Keeps pl s₀ s1 := .ite ((h.rset ..).errcap ..) (h.rset ..)
  exact .ite_fst (h.rset ..) <| .ite_fst (.ite ((h.rset ..).rset ..) h) <|
    .ite_fst (hs1.ctrlAct ..) (hs1.pageAct ..)

theorem Keeps.regLand (h : Keeps pl s₀ s) (tk : Option Word) (a : Nat) (v : Word)
    (hl : [Part.freeCtr, .regs, .frozen, .srst, .mem, .cist, .host, .boot, .tb, .comp, .galley, .basin, .ports, .net,
      .twin, .arb, .clk, .dpll, .ptp, .cistern, .press, .fab,
      .sense] ⊆ pl := by exact sub_of (by assumption) (by decide)) :
    Keeps pl s₀ (regLand tk a v s).1 := by
  unfold Machine.regLand
  dsimp only
  split
  · exact h
  · split
    · exact h
    · split
      · exact h.recordRefuse ..
      · exact h.regAct ..

theorem Keeps.submitPreload (h : Keeps pl s₀ s) (x : ℕ × Entry)
    (hl : [Part.regs, .mem, .comp, .galley, .basin, .twin, .cistern,
      .fab] ⊆ pl := by exact sub_of (by assumption) (by decide)) :
    Keeps pl s₀ (submitPreload s x) := by
  unfold Machine.submitPreload
  dsimp only
  split
  · exact (((Keeps.ite ((h.journal ..).sendCell ..) (h.journal ..)).handOver ..).cnt ..).rput ..
  · exact (h.cnt ..).rput ..

theorem Keeps.preloadRun (h : Keeps pl s₀ s)
    (hl : [Part.regs, .mem, .boot, .comp, .galley, .basin, .twin, .cistern,
      .fab] ⊆ pl := by exact sub_of (by assumption) (by decide)) :
    Keeps pl s₀ (preloadRun s) :=
  .ite ((h.setBoot ..).foldl (fun _ _ h1 => h1.submitPreload ..)) h

theorem Keeps.landPair {a : State × Bool} (h : Keeps pl s₀ a.1) (t : Word) (x : Nat × Word)
    (hl : [Part.freeCtr, .regs, .frozen, .srst, .mem, .cist, .host, .boot, .tb, .comp, .galley, .basin, .ports, .net,
      .twin, .arb, .clk, .dpll, .ptp, .cistern, .press, .fab,
      .sense] ⊆ pl := by exact sub_of (by assumption) (by decide)) :
    Keeps pl s₀ (landPair t a x).1 :=
  .ite_fst (h.formeParam ..) (h.regLand ..)

theorem Keeps.writeParam (h : Keeps pl s₀ s) (e : Ev)
    (hl : [Part.freeCtr, .regs, .frozen, .srst, .mem, .cist, .host, .boot, .tb, .comp, .galley, .basin, .ports, .net,
      .twin, .arb, .clk, .dpll, .ptp, .cistern, .press, .fab,
      .sense] ⊆ pl := by exact sub_of (by assumption) (by decide)) :
    Keeps pl s₀ (writeParam e s) := by
  unfold Machine.writeParam
  extract_lets ps r
  have hr : Keeps pl s₀ r.1 := Keeps.foldl_fst (a := (_, false)) (h.keepRunning e) fun _ _ hu => hu.landPair ..
  exact .ite (h.basinWait ..) (.ite hr (hr.finishRunning ..))

theorem Keeps.sendMirrored (h : Keeps pl s₀ s)
    (hl : [Part.basin, .twin, .press] ⊆ pl := by exact sub_of (by assumption) (by decide)) :
    Keeps pl s₀ (sendMirrored s) := by
  unfold Machine.sendMirrored
  extract_lets out _ s1
  have hout (l : List (Nat × Word)) {u : State} (hu : Keeps pl s₀ u) : Keeps pl s₀ (out l u) := .ite hu
      (hu.sendCell ..)
  have hs1 : Keeps pl s₀ s1 := Keeps.setBasin (hout _ h) _
  refine hs1.foldl fun u p hu => .ite hu ?_
  exact Keeps.setPress (hout _ hu) p _

theorem Keeps.mirrorInputs (h : Keeps pl s₀ s)
    (hl : [Part.ports, .twin] ⊆ pl := by exact sub_of (by assumption) (by decide)) :
    Keeps pl s₀ (mirrorInputs s) := by
  unfold Machine.mirrorInputs
  dsimp only
  split
  · exact h
  · have hs1 {t : State} (hf : t.tb.frame = s.tb.frame) (hc : t.comp.landing = s.comp.landing)
        (ht : KeepsBut [.ports, .twin] s t) : Keeps pl s₀ t :=
      h.parts (sub_of hl (by decide)) ht hf hc
    exact .ite (Keeps.markBad (hs1 rfl rfl fun r hr => by
      cases r
      case ports | twin => exact absurd (by decide) hr
      all_goals rfl)) (hs1 rfl rfl fun r hr => by
      cases r
      case ports | twin => exact absurd (by decide) hr
      all_goals rfl)

theorem Keeps.captureInputs (h : Keeps pl s₀ s) (f : Nat) (missing : List (Fin 256))
    (hl : [Part.freeCtr, .regs, .mem, .cist, .galley, .basin, .ports, .net,
      .twin, .arb, .cistern, .fab] ⊆ pl := by exact sub_of (by assumption) (by decide)) :
    Keeps pl s₀ (captureInputs f missing s) :=
  ((h.portInputs f).flowInputs f |>.playerInputs f missing).setPorts ..

theorem Keeps.closeNow (h : Keeps pl s₀ s) (f : Nat)
    (hl : [Part.regs, .mem, .cist, .galley, .basin, .twin, .arb, .cistern,
      .fab] ⊆ pl := by exact sub_of (by assumption) (by decide)) :
    Keeps pl s₀ (closeNow f s) :=
  (h.insertPress ..).closeFrame ..

theorem Keeps.deliverOutputs (h : Keeps pl s₀ s) (f : Nat)
    (hl : [Part.freeCtr, .regs, .mem, .cist, .galley, .basin, .ports, .net,
      .twin, .arb, .cistern, .fab] ⊆ pl := by exact sub_of (by assumption) (by decide)) :
    Keeps pl s₀ (deliverOutputs f s) :=
  ((h.alignLines ..).portOutputs ..).flowOutputs ..

theorem Keeps.noteCrc (h : Keeps pl s₀ s) (f : Nat)
    (hl : [Part.twin] ⊆ pl := by exact sub_of (by assumption) (by decide)) :
    Keeps pl s₀ (noteCrc f s) :=
  .ite (h.setTwinSt ..) h

theorem Keeps.landWaiting (h : Keeps pl s₀ s) (g : Option (Fin 4))
    (hl : [Part.freeCtr, .regs, .frozen, .srst, .landNext, .mem, .cist, .host, .boot, .tb, .comp, .galley, .basin,
      .ports, .net, .twin, .arb, .clk, .dpll, .ptp, .cistern, .press, .fab,
      .sense] ⊆ pl := by exact sub_of (by assumption) (by decide)) :
    Keeps pl s₀ (landWaiting g s) :=
  (h.setLandNext ..).foldl (fun _ _ h0 => h0.regLand ..)

theorem Keeps.checkBad (h : Keeps pl s₀ s)
    (hl : [Part.twin] ⊆ pl := by exact sub_of (by assumption) (by decide)) :
    Keeps pl s₀ (checkBad s) := by
  unfold Machine.checkBad
  exact .ite h (h.markBad.setTwinSt ..)

theorem Keeps.boundaryCells (h : Keeps pl s₀ s) (f : Nat)
    (hl : [Part.net, .twin] ⊆ pl := by exact sub_of (by assumption) (by decide)) :
    Keeps pl s₀ (boundaryCells f s) :=
  (Keeps.ite (.ite ((h.sendCell ..).sendCell ..) (h.sendCell ..))
      ((Keeps.ite ((h.sendCell ..).sendCell ..) (h.sendCell ..)).sendCell ..)).setNet ..

theorem Keeps.twinTick (h : Keeps pl s₀ s) (f : Nat)
    (hl : [Part.regs, .galley, .basin, .net, .twin, .arb, .cistern,
      .fab] ⊆ pl := by exact sub_of (by assumption) (by decide)) :
    Keeps pl s₀ (twinTick f s) :=
  .ite h.renewLease ((((h.checkBad.crcCompare ..).crcOutcome ..).setTwinSt ..).renewLease.boundaryCells ..)

theorem Keeps.finishRestart (h : Keeps pl s₀ s) (f : Nat)
    (hl : [Part.regs, .mem, .boot, .comp, .galley, .fab] ⊆ pl := by exact sub_of (by assumption) (by decide)) :
    Keeps pl s₀ (finishRestart f s) :=
  .ite ((h.setBoot ..).foldl (fun _ _ h1 => h1.finishRunning ..)) h

theorem Keeps.countFrame (h : Keeps pl s₀ s) (f : Nat)
    (hl : [Part.host, .clk] ⊆ pl := by exact sub_of (by assumption) (by decide)) :
    Keeps pl s₀ (countFrame f s) :=
  .ite ((h.setClk _).setHost _) (h.setClk _)

theorem Keeps.endFrame (h : Keeps pl s₀ s) (f : Nat) (i : FrameIn)
    (hl : [Part.freeCtr, .regs, .mem, .cist, .galley, .basin, .ports, .net, .twin, .arb, .cistern, .press, .fab,
      .shedMeas, .shed, .shedT] ⊆ pl := by exact sub_of (by assumption) (by decide)) :
    Keeps pl s₀ (endFrame f i s) :=
  (((Keeps.ite ((h.shedMeasure ..).recDrain ..).sendMirrored.mirrorInputs
      (((((h.shedMeasure ..).recDrain ..).sendMirrored.mirrorInputs.writeRings ..).closeNow ..).recordFrame ..)).captureInputs ..).deliverOutputs ..).noteCrc ..

theorem Keeps.moveReadPos (h : Keeps pl s₀ s)
    (hl : [Part.freeCtr, .ports] ⊆ pl := by exact sub_of (by assumption) (by decide)) :
    Keeps pl s₀ (moveReadPos s) :=
  .ite h (h.foldl (fun _ _ h1 => .ite (h1.freeWord.setPorts ..) h1))

theorem Keeps.ownSelection (h : Keeps pl s₀ s)
    (hl : [Part.regs, .mem, .tb, .comp, .galley, .twin, .fab] ⊆ pl := by exact sub_of (by assumption) (by decide)) :
    Keeps pl s₀ (ownSelection s) :=
  .ite (h.setTb ..).markBad.selectNow h

end Sys2Proof.Machine
end

section
/-!
PROOFS. The frame tick: the count of frames, and what a tick leaves alone while CORE is gated or no frame starts.
-/

-- One declaration after another: side by side, the stacks of the threads exceed what memory the check allows.
set_option Elab.async false

namespace Sys2Proof.Machine

variable {s : State}
/-! ### Using the footprints -/

/-- Every part that an operation may change (the queue is none). -/
abbrev everyPart : List Part :=
  [.now, .freeCtr, .regs, .frozen, .latches, .srst, .landNext, .mem, .cist, .host, .boot, .tb, .comp, .galley,
    .basin, .ports,
    .net, .twin, .arb, .clk, .dpll, .ptp, .cistern, .press, .fab, .sense, .shedMeas, .shedImp, .shed, .shedT]

/-- What an operation's footprint lemma says of one state. -/
theorem keepsBut_of {l : List Part} {t : State} (h : ∀ {pl : List Part}, l ⊆ pl → Keeps pl s s → Keeps pl s t) :
    KeepsBut l s t :=
  (h (List.Subset.refl l) (.refl l s)).but

/-- An operation that has a footprint leaves the number of the frame. -/
theorem frame_of {t : State} (h : ∀ {pl : List Part}, everyPart ⊆ pl → Keeps pl s s → Keeps pl s t) :
    t.tb.frame = s.tb.frame :=
  (h (List.Subset.refl _) (.refl _ s)).frame

/-- An operation that has a footprint leaves the list of released entries. -/
theorem landing_of {t : State} (h : ∀ {pl : List Part}, everyPart ⊆ pl → Keeps pl s s → Keeps pl s t) :
    t.comp.landing = s.comp.landing :=
  (h (List.Subset.refl _) (.refl _ s)).landing

theorem KeepsBut.mono {l l' : List Part} {t : State} (h : KeepsBut l s t) (hl : l ⊆ l') : KeepsBut l' s t :=
  fun p hp => h p fun hm => hp (hl hm)

theorem KeepsBut.trans {l : List Part} {t u : State} (h : KeepsBut l s t) (h' : KeepsBut l t u) : KeepsBut l s u := by
  intro p hp
  have h1 := h p hp
  have h2 := h' p hp
  cases p <;> exact Eq.trans h2 h1

/-- The next frame begins with the number it is given. -/
theorem frame_startFrame (f : Nat) (s : State) : (startFrame f s).tb.frame = f := by
  unfold startFrame
  extract_lets gap _ s1 s2 s3
  have h1 : s1.tb.frame = f := frame_of fun hl h => h.finishRestart f
  have h2 : s2.tb.frame = s1.tb.frame := frame_of fun hl h =>
    (h.netDrain.moveReadPos.stageFlows.applyCommits.applyDlyCommits.landWaiting _).axisTick _ |>.alignTick
  have h3 : s3.tb.frame = s2.tb.frame := frame_of fun hl h => (h.twinTick f).countFrame f
  have h4 (u : State) : (releaseAndSelect u).tb.frame = u.tb.frame := by
    unfold releaseAndSelect
    extract_lets _ s1
    split
    · rfl
    · exact (frame_of fun hl h => h.selectNow : (selectNow s1).tb.frame = s1.tb.frame)
  rw [h4]
  split
  · rw [(frame_of fun hl h => h.selectGap : (selectGap s3).tb.frame = s3.tb.frame), h3, h2, h1]
  · rw [h3, h2, h1]

theorem frame_preloadRun (s : State) : (preloadRun s).tb.frame = s.tb.frame := frame_of fun hl h => h.preloadRun

/-- With CORE gated the Galley does not run: no preload entry goes in. -/
theorem preloadRun_of_gated (h : s.clk.coreGated = true) : preloadRun s = s := by
  simp [preloadRun, galleyReady, galleyRuns, h]

theorem preloadRun_of_nil (h : s.boot.preload = []) : preloadRun s = s := by
  simp [preloadRun, h]

@[simp] theorem advance_clk (t : Nat) (s : State) : (advance t s).clk = s.clk :=
  keepsBut_of (l := [.now, .ptp]) (fun hl h => h.advance t) .clk (by decide)

@[simp] theorem advance_boot (t : Nat) (s : State) : (advance t s).boot = s.boot :=
  keepsBut_of (l := [.now, .ptp]) (fun hl h => h.advance t) .boot (by decide)

@[simp] theorem advance_tb (t : Nat) (s : State) : (advance t s).tb = s.tb :=
  keepsBut_of (l := [.now, .ptp]) (fun hl h => h.advance t) .tb (by decide)

theorem tickLive_advance (t : Nat) (s : State) : tickLive (advance t s) = tickLive s := by
  simp only [tickLive, tickHeld, advance_clk, advance_boot]

theorem tickLive_iff (h : Live s) : tickLive s = true ↔ s.clk.lockM = true ∧ tickHeld s = false := by
  simp [tickLive, h]

/-- A frame tick that starts a frame advances the count by one. -/
theorem frame_frameTick_live (t : Nat) (x : FrameIn) (h : tickLive s = true) :
    (frameTick t x s).tb.frame = s.tb.frame + 1 := by
  unfold frameTick
  extract_lets s0 s1
  have h0 : s0.tb.frame = s.tb.frame := congrArg TimebaseSt.frame (advance_tb t s)
  have hl : tickLive s0 = true := (tickLive_advance t s).trans h
  rw [if_neg (by simp [hl])]
  split
  · rw [gatedTick, (frame_of fun hl h => h.countFrame _ : (countFrame _ _).tb.frame = _)]
    exact congrArg (· + 1) h0
  · rw [frame_startFrame, (frame_of fun hl h => h.ownSelection : s1.tb.frame = s0.tb.frame), h0]

/-- With CORE gated a frame tick counts, and moves the time and the pulse outputs on. -/
theorem frameTick_gated (t : Nat) (x : FrameIn) (hg : s.clk.coreGated = true) :
    KeepsBut [.now, .tb, .clk, .ptp, .host] s (frameTick t x s) := by
  have hadv : KeepsBut [.now, .tb, .clk, .ptp, .host] s (advance t s) :=
    (keepsBut_of (l := [.now, .ptp]) fun hl h => h.advance t).mono (by decide)
  have hcount (f : Nat) (u : State) : KeepsBut [.now, .tb, .clk, .ptp, .host] u (countFrame f u) :=
    (keepsBut_of (l := [.clk, .host]) fun hl h => h.countFrame f).mono (by decide)
  have htb (x : TimebaseSt) (u : State) : KeepsBut [.now, .tb, .clk, .ptp, .host] u (setTb x u) :=
    fun p hp => by cases p <;> first | exact absurd (by decide) hp | rfl
  unfold frameTick
  extract_lets s0
  split
  · exact hadv
  · rw [if_pos ((congrArg ClockSt.coreGated (advance_clk t s)).trans hg), gatedTick]
    exact (hadv.trans (htb _ _)).trans (hcount _ _)

theorem coreGated_countFrame (f : Nat) (s : State) : (countFrame f s).clk.coreGated = s.clk.coreGated := by
  unfold countFrame
  split <;> rfl

/-- A frame tick does not end CORE's gating. -/
theorem coreGated_frameTick (t : Nat) (x : FrameIn) (hg : s.clk.coreGated = true) :
    (frameTick t x s).clk.coreGated = true := by
  have hadv : (advance t s).clk.coreGated = true := (congrArg ClockSt.coreGated (advance_clk t s)).trans hg
  unfold frameTick
  extract_lets s0
  split
  · exact hadv
  · rw [gatedTick, coreGated_countFrame]
    exact hadv

/-- While no frame starts a tick moves the time on. -/
theorem frameTick_held (t : Nat) (x : FrameIn) (h : tickLive s = false) : frameTick t x s = advance t s := by
  simp [frameTick, tickLive_advance, h]

/-- Settles O14: a live tick ends in `startFrame` or `gatedTick`, which both set the count; with CORE gated the
  Galley takes no
preload entry. -/
theorem frameTickStartsTheNextFrame : Obligations.FrameTickStartsTheNextFrame := by
  refine ⟨fun s t x hlive hm hh => ⟨_, rfl, ?_, fun hg => ?_⟩, fun s t x hlive hno => ?_⟩
  · rw [frame_preloadRun, frame_frameTick_live t x ((tickLive_iff hlive).2 ⟨hm, hh⟩)]
  · have hk := frameTick_gated t x hg
    rwa [preloadRun_of_gated (coreGated_frameTick t x hg)]
  · have hdead : tickLive s = false := by
      rw [Bool.eq_false_iff, ne_eq, tickLive_iff hlive]
      rintro ⟨hm, hh⟩
      simp [hm, hh] at hno
    have ht := frameTick_held t x hdead
    refine ⟨_, rfl, ?_, fun hp => ?_⟩
    · rw [frame_preloadRun, ht, advance_tb]
    · have hb : (frameTick t x s).boot.preload = [] := by rw [ht, advance_boot, hp]
      rw [preloadRun_of_nil hb, ht]
      exact keepsBut_of fun hl h => h.advance t

end Sys2Proof.Machine
end

section
/-!
PROOFS. The time axes: the frame of the events on the axis pins, what a pulse and the other edges do, host
corrections and loads; and the registers whose write acts at once.
-/

-- One declaration after another: side by side, the stacks of the threads exceed what memory the check allows.
set_option Elab.async false

namespace Sys2Proof.Machine

variable {s : State}

@[simp] theorem advance_regs (t : Nat) (s : State) : (advance t s).regs = s.regs := by
  unfold advance
  split
  · rfl
  · split <;> rfl

@[simp] theorem rget_advance (t : Nat) (s : State) (a : Nat) : rget (advance t s) a = rget s a := by
  rw [rget, advance_regs, rget]

@[simp] theorem rfld_advance (t : Nat) (s : State) (a hi lo : Nat) : rfld (advance t s) a hi lo = rfld s a hi lo := by
  simp only [rfld, rget_advance]

@[simp] theorem rbit_advance (t : Nat) (s : State) (a i : Nat) : rbit (advance t s) a i = rbit s a i := by
  simp only [rbit, rget_advance]

@[simp] theorem rfld_setTb (x : TimebaseSt) (s : State) (a hi lo : Nat) : rfld (setTb x s) a hi lo = rfld s a hi
  lo := rfl

@[simp] theorem rbit_setTb (x : TimebaseSt) (s : State) (a i : Nat) : rbit (setTb x s) a i = rbit s a i := rfl

/-! ### The parts that an axis event may change -/

theorem within_advance (t : Nat) (s : State) : Within [.now, .ptp] (fun _ => False) s (advance t s) := by
  refine ⟨fun p hp => ?_, fun a _ => rget_advance t s a⟩
  unfold advance
  split
  · cases p <;> rfl
  · split
    · cases p <;> first | rfl | exact absurd (by decide) hp
    · cases p <;> first | rfl | exact absurd (by decide) hp

theorem within_setTb (x : TimebaseSt) (s : State) : Within [.tb] (fun _ => False) s (setTb x s) :=
  ⟨fun p hp => by cases p <;> first | rfl | exact absurd (by decide) hp, fun _ _ => rfl⟩

section
variable {l : List Part} {A : Nat → Prop} {t : State} (h : Within l A s t)
include h

theorem Within.advance (u : Nat) (hl : ∀ p ∈ [Part.now, .ptp], p ∈ l := by decide) : Within l A s (advance u t) :=
  h.trans ((within_advance u t).mono hl fun _ => False.elim)

theorem Within.setTb (x : TimebaseSt) (hl : ∀ p ∈ [Part.tb], p ∈ l := by decide) : Within l A s (setTb x t) :=
  h.trans ((within_setTb x t).mono hl fun _ => False.elim)

end

/-- What an axis event may change: time, the axes, registers of the TIMEBASE page. -/
abbrev AxisFrame (s t : State) : Prop := Within [.now, .ptp, .tb, .regs] (OnPages [pgTIMEBASE]) s t

section
variable {t : State} (h : AxisFrame s t)
include h

theorem axisFrame_countPulse (u : Nat) (rev : Bool) : AxisFrame s (countPulse u rev t) := by
  unfold countPulse
  dsimp only
  split
  · split <;> exact h.setTb _
  · exact ((h.setTb _).setTb _ |>.iset _).ite (h.setTb _)

theorem axisFrame_tachAEdge (u : Nat) : AxisFrame s (tachAEdge u t) := by
  unfold tachAEdge
  dsimp only
  split
  · exact (h.setTb _).iset _
  · exact h.setTb _

theorem axisFrame_tachRise (u : Nat) (b : Bool) : AxisFrame s (tachRise u b t) := by
  unfold tachRise
  dsimp only
  split
  · exact h.setTb _
  · split
    · exact ((h.setTb _).setTb _).iset _
    · exact axisFrame_countPulse ((h.setTb _).cnt _) u _

theorem axisFrame_tachPulse (x : PinEdge) (b : Bool) : AxisFrame s (tachPulse x b t) := by
  have ha := h.advance x.t
  unfold tachPulse
  dsimp only
  split
  · exact ha
  · split
    · exact ha.setTb _
    · split
      · exact axisFrame_tachRise (axisFrame_tachAEdge (ha.setTb _) _) x.t b
      · exact axisFrame_tachAEdge (ha.setTb _) _

theorem axisFrame_tachQuietRelease (u : Nat) : AxisFrame s (tachQuietRelease u t) := by
  unfold tachQuietRelease
  dsimp only
  split
  · exact ((h.advance u).setTb _).iset _
  · exact h.advance u

theorem axisFrame_tachStuck (u : Nat) (pinB : Bool) : AxisFrame s (tachStuck u pinB t) := by
  unfold tachStuck
  dsimp only
  have hs1 : AxisFrame s (Machine.advance u t) := h.advance u
  generalize Machine.advance u t = s1 at hs1 ⊢
  cases pinB
  all_goals
    split
    · exact hs1
    · refine Within.ite ?_ hs1
      exact (hs1.setTb _).iset _

theorem axisFrame_tachBEdge (x : PinEdge) : AxisFrame s (tachBEdge x t) := by
  unfold tachBEdge
  dsimp only
  split
  · exact h.advance _
  · split
    · exact ((h.advance _).setTb _).iset _
    · exact (h.advance _).setTb _

theorem axisFrame_standstill (u : Nat) : AxisFrame s (standstill u t) := by
  unfold standstill
  dsimp only
  split
  · exact (h.advance u).setTb _
  · exact h.advance u

theorem axisFrame_cntLow : AxisFrame s (cntLow t) := by
  unfold cntLow
  dsimp only
  split
  · exact (h.setTb _).iset _
  · exact h.setTb _

theorem axisFrame_cntEdge (x : PinEdge) : AxisFrame s (cntEdge x t) := by
  have ha := h.advance x.t
  have hlevel : AxisFrame s (if x.level then setTb { (advance x.t t).tb with cntLevel := true, cntHigh := some x.t }
      (advance x.t t)
      else cntLow (advance x.t t)) := by
    split
    · exact ha.setTb _
    · exact axisFrame_cntLow ha
  unfold cntEdge
  dsimp only
  split
  · exact ha
  · generalize (if x.level then _ else _ : State) = u at hlevel ⊢
    split
    · exact hlevel
    · split
      · exact hlevel.setTb _
      · split
        · exact (hlevel.setTb _).iset _
        · exact hlevel.setTb _

theorem axisFrame_cntQuietRelease (u : Nat) : AxisFrame s (cntQuietRelease u t) := by
  unfold cntQuietRelease
  dsimp only
  split
  · exact ((h.advance u).setTb _).iset _
  · exact h.advance u

theorem axisFrame_cntStuck (u : Nat) : AxisFrame s (cntStuck u t) := by
  unfold cntStuck
  dsimp only
  split
  · exact h.advance u
  · split
    · exact ((h.advance u).setTb _).iset _
    · exact h.advance u

theorem axisFrame_cntInLow (u phase : Nat) : AxisFrame s (cntInLow u phase t) := by
  unfold cntInLow
  dsimp only
  split
  · exact axisFrame_cntLow (h.advance u)
  · exact h.advance u

theorem axisFrame_corrDone : AxisFrame s (corrDone t) := by
  unfold corrDone
  split
  · exact (h.setTb _).iset _
  · exact h

theorem axisFrame_awake {f : State → State} (hf : AxisFrame s (f t)) : AxisFrame s (awake f t) := by
  unfold awake
  split
  · exact hf
  · exact h

end

/-- Settles O23: each event of the axis pins is built of operations that stay within the frame. -/
theorem axisPinFrame : Obligations.AxisPinFrame := by
  intro c s t hc hx
  suffices hw : AxisFrame s t from ⟨hw.1, fun a ha => hw.2 a ha⟩
  have h : AxisFrame s s := Within.refl _ _ s
  cases c <;> first | exact absurd hc Bool.false_ne_true | (injection hx with hx; subst hx)
  case tachPulse x b => exact axisFrame_awake h (axisFrame_tachPulse h x b)
  case tachQuietRelease u => exact axisFrame_awake h (axisFrame_tachQuietRelease h u)
  case tachStuck u pinB => exact axisFrame_awake h (axisFrame_tachStuck h u pinB)
  case standstill u => exact axisFrame_awake h (axisFrame_standstill h u)
  case cntEdge x rising => exact axisFrame_awake h (axisFrame_cntEdge h _)
  case cntQuietRelease u => exact axisFrame_awake h (axisFrame_cntQuietRelease h u)
  case cntStuck u => exact axisFrame_awake h (axisFrame_cntStuck h u)
  case cntInLow x => exact axisFrame_awake h (axisFrame_cntInLow h _ _)
  case corrDone => exact axisFrame_awake h (axisFrame_corrDone h)
  case tachBEdge x level => exact axisFrame_awake h (axisFrame_tachBEdge h _)

theorem rbit_iset (h : spWf resetWord s.regs = true) (p : Nat) {b : Nat} (hb : b < 32) : rbit (iset p b s) (aISTAT p)
    b = true := by
  rw [rbit, rget_iset h, bit_or, bit_flg _ _ _ hb]
  simp

@[simp] theorem iset_tb (p b : Nat) (s : State) : (iset p b s).tb = s.tb := rfl

@[simp] theorem cnt_tb (a n : Nat) (s : State) : (cnt a s n).tb = s.tb := rfl

theorem rget_iset_ne (p b : Nat) (s : State) {a : Nat} (h : a ≠ aISTAT p) : rget (iset p b s) a = rget s a :=
  rget_rset_ne s _ h

theorem rfld_iset_ne (p b : Nat) (s : State) {a : Nat} (hi lo : Nat) (h : a ≠ aISTAT p) :
    rfld (iset p b s) a hi lo = rfld s a hi lo := by
  rw [rfld, rget_iset_ne p b s h, rfld]

/-- What an edge of TACH_A at `x.t` leaves of the axes and of the registers. -/
structure EdgeA (x : PinEdge) (s t : State) : Prop where
  chatter : t.tb.chatter = s.tb.chatter
  stuckA : t.tb.stuckA = false
  stuckB : t.tb.stuckB = s.tb.stuckB
  reverse : t.tb.reverse = s.tb.reverse
  held : t.tb.held = s.tb.held
  dpp : t.tb.dpp = s.tb.dpp
  recent : t.tb.recent = s.tb.recent
  lastA : t.tb.lastA = x.t
  levelA : t.tb.levelA = x.level
  pos : t.tb.pos = posBefore s x
  est : s.tb.chatter = true → t.tb.est = s.tb.est
  wf : spWf resetWord s.regs = true → spWf resetWord t.regs = true
  reg : ∀ a, a ≠ aISTAT pgTIMEBASE → rget t a = rget s a
  freed : spWf resetWord s.regs = true → s.tb.stuckA = true → rbit t (aISTAT pgTIMEBASE) 1 = true

/-- The state behind an edge of TACH_A that passes the glitch filter. -/
def behindEdgeA (x : PinEdge) (s : State) : State :=
  tachAEdge x.t (setTb { s.tb with levelA := x.level } (advance x.t s))

theorem edgeA (x : PinEdge) (s : State) : EdgeA x s (behindEdgeA x s) := by
  unfold behindEdgeA tachAEdge
  dsimp only
  cases hst : s.tb.stuckA
  · constructor <;> simp_all [posBefore]
  · cases hc : s.tb.chatter <;> cases he : s.tb.est
    all_goals
      constructor
      case pos => simp [hst, hc, he, posBefore, endEst, posAt] <;> rfl
      all_goals simp_all [endEst, iset_regs_wf, rbit_iset, rget_iset_ne]

/-- An edge at TACH_A that counts as one: what a rising one does is `tachRise`. -/
theorem tachPulse_of_edge {x : PinEdge} (h : edgeAtA s x) (b : Bool) :
    awake (tachPulse x b) s = if x.level then tachRise x.t b (behindEdgeA x s) else behindEdgeA x s := by
  obtain ⟨hl, hg, hlev, hm⟩ := h
  have hg' : passesGlitch (tachGlitch (advance x.t s)) x = true := by rwa [tachGlitch, rfld_advance]
  have hm' : ¬ tachMode (advance x.t s) = 0 := by
    simpa only [tachMode, rfld_advance] using hm
  rw [awake_run _ hl, tachPulse]
  dsimp only
  rw [advance_tb, if_neg (by simp [hg', hlev]), if_neg hm', behindEdgeA]

/-- The state in which a rising edge finds its direction: the pulse stands in the windows of R54 and R61. -/
def pulsed (u : Nat) (t : State) : State :=
  setTb { t.tb with recent := pulseWindow u t.tb, lastPulse := u, overT := overUntil t (pulseWindow u t.tb) } t

@[simp] theorem rget_pulsed (u : Nat) (t : State) (a : Nat) : rget (pulsed u t) a = rget t a := rfl

@[simp] theorem pulsed_regs (u : Nat) (t : State) : (pulsed u t).regs = t.regs := rfl

/-- A rising edge is a pulse: ignored in chatter, the latch of chatter above MAXRATE, else counted. -/
theorem tachRise_eq (u : Nat) (b : Bool) (t : State) : tachRise u b t =
    if t.tb.chatter then pulsed u t
    else if (pulseWindow u t.tb).length * 1000 > maxRate t then
      iset pgTIMEBASE 2 (setTb { (pulsed u t).tb with chatter := true, est := some (u, posAt (pulsed u t).tb u) }
        (pulsed u t))
    else countPulse u (shownReverse t b) (cnt aTIMEBASE_PULSES (pulsed u t)) := rfl

theorem EdgeA.pulseWindow_eq {x : PinEdge} {t : State} (e : EdgeA x s t) : pulseWindow x.t t.tb = pulseWindow x.t
    s.tb := by
  rw [pulseWindow, pulseWindow, e.recent]

theorem EdgeA.maxRate_eq {x : PinEdge} {t : State} (e : EdgeA x s t) : maxRate t = maxRate s := by
  rw [maxRate, maxRate, rfld, e.reg _ (by decide), rfld]

theorem EdgeA.revPulses_eq {x : PinEdge} {t : State} (e : EdgeA x s t) : revPulses t = revPulses s := by
  rw [revPulses, revPulses, rfld, e.reg _ (by decide), rfld]

theorem EdgeA.shownReverse_eq {x : PinEdge} {t : State} (e : EdgeA x s t) (b : Bool) : shownReverse t b =
    shownReverse s b := by
  unfold shownReverse pulseReverse tachMode rfld rbit
  rw [e.stuckB, e.reverse, e.reg _ (by decide)]

/-- The signed distance of one pulse in the recognised direction. -/
def ownStep (t : TimebaseSt) : Int := if t.reverse then -(t.dpp : Int) else t.dpp

/-- A pulse in the recognised direction moves the position, or takes back a held one (R56). -/
theorem countPulse_same {u : Nat} {t : State} : (countPulse u t.tb.reverse t).tb.reverse = t.tb.reverse ∧
    (countPulse u t.tb.reverse t).tb.held = t.tb.held.tail ∧
    (countPulse u t.tb.reverse t).tb.pos = t.tb.pos + (if t.tb.held = [] then ownStep t.tb else 0) := by
  cases hh : t.tb.held <;> simp [countPulse, hh, applyPulses, ownStep]

/-- A pulse against the recognised direction is held while REV_PULSES is not reached. -/
theorem countPulse_held {u : Nat} {rev : Bool} {t : State} (h : rev ≠ t.tb.reverse)
    (hn : t.tb.held.length + 1 < revPulses t) :
    (countPulse u rev t).tb = { t.tb with held := u :: t.tb.held } := by
  simp [countPulse, h, Nat.not_le.2 hn]

/-- The pulse against the recognised direction that reaches REV_PULSES reverses it. -/
theorem countPulse_reverses {u : Nat} {rev : Bool} {t : State} (h : rev ≠ t.tb.reverse)
    (hn : ¬ t.tb.held.length + 1 < revPulses t)
    (hwf : spWf resetWord t.regs = true) : (countPulse u rev t).tb.reverse = rev ∧ (countPulse u rev t).tb.held = [] ∧
    rbit (countPulse u rev t) (aISTAT pgTIMEBASE) 0 = true ∧
    (countPulse u rev t).tb.pos = t.tb.pos + (if rev then -(t.tb.dpp : Int) else t.tb.dpp) *
      (t.tb.held.length + 1 : Nat) := by
  have hb (x : TimebaseSt) : rbit (iset pgTIMEBASE 0 (setTb x t)) (aISTAT pgTIMEBASE) 0 = true := rbit_iset hwf _
      (by decide)
  simp [countPulse, h, Nat.not_lt.1 hn, applyPulses, hb]

/-- A counted pulse leaves chatter, the stuck latch and every register but ISTAT. -/
theorem countPulse_keeps (u : Nat) (rev : Bool) (t : State) : (countPulse u rev t).tb.chatter = t.tb.chatter ∧
    (countPulse u rev t).tb.stuckA = t.tb.stuckA ∧ ∀ a, a ≠ aISTAT pgTIMEBASE → rget (countPulse u rev t) a = rget t
      a := by
  unfold countPulse
  dsimp only
  split
  · split <;> simp [applyPulses]
  · split
    · exact ⟨rfl, rfl, fun a ha => rget_iset_ne _ _ _ ha⟩
    · simp

/-- What a rising edge that passes the glitch filter does outside chatter. -/
theorem tachPulse_of_rise {x : PinEdge} (h : edgeAtA s x) (hl : x.level = true) (hc : s.tb.chatter = false) (b : Bool) :
    awake (tachPulse x b) s =
      if (pulseWindow x.t s.tb).length * 1000 > maxRate s then
        iset pgTIMEBASE 2 (setTb { (pulsed x.t (behindEdgeA x s)).tb with
          chatter := true, est := some (x.t, posAt (pulsed x.t (behindEdgeA x s)).tb x.t) }
            (pulsed x.t (behindEdgeA x s)))
      else countPulse x.t (shownReverse s b) (cnt aTIMEBASE_PULSES (pulsed x.t (behindEdgeA x s))) := by
  have e := edgeA x s
  have hc' : ¬ (behindEdgeA x s).tb.chatter = true := by simp [e.chatter, hc]
  rw [tachPulse_of_edge h, if_pos hl, tachRise_eq, if_neg hc', e.pulseWindow_eq, e.maxRate_eq, e.shownReverse_eq]

/-- What a pulse that counts does to the axis, by the direction that it shows. -/
theorem countPulse_moves {x : PinEdge} {t : State} (e : EdgeA x s t) (hs : spWf resetWord s.regs = true) (b : Bool)
    {u : State}
    (hu : u = countPulse x.t (shownReverse s b) (cnt aTIMEBASE_PULSES (pulsed x.t t))) :
    if shownReverse s b = s.tb.reverse then
      u.tb.reverse = s.tb.reverse ∧ u.tb.held = s.tb.held.tail ∧
        u.tb.pos = posBefore s x + (if s.tb.held = [] then pulseStep s s.tb.reverse else 0)
    else if s.tb.held.length + 1 < revPulses s then
      u.tb.reverse = s.tb.reverse ∧ u.tb.held = x.t :: s.tb.held ∧ u.tb.pos = posBefore s x
    else u.tb.reverse = (!s.tb.reverse) ∧ u.tb.held = [] ∧ rbit u (aISTAT pgTIMEBASE) 0 = true ∧
      u.tb.pos = posBefore s x + pulseStep s (!s.tb.reverse) * (s.tb.held.length + 1 : Nat) := by
  subst hu
  have hrev : (cnt aTIMEBASE_PULSES (pulsed x.t t)).tb.reverse = s.tb.reverse := e.reverse
  have hheld : (cnt aTIMEBASE_PULSES (pulsed x.t t)).tb.held = s.tb.held := e.held
  have hpos : (cnt aTIMEBASE_PULSES (pulsed x.t t)).tb.pos = posBefore s x := e.pos
  have hdpp : (cnt aTIMEBASE_PULSES (pulsed x.t t)).tb.dpp = s.tb.dpp := e.dpp
  have hrp : revPulses (cnt aTIMEBASE_PULSES (pulsed x.t t)) = revPulses s := by
    rw [← e.revPulses_eq, revPulses, rfld, cnt, rget_rset_ne _ _ (by decide)]
    rfl
  have hwf : spWf resetWord (cnt aTIMEBASE_PULSES (pulsed x.t t)).regs = true := cnt_regs_wf (e.wf hs) _ _
  generalize cnt aTIMEBASE_PULSES (pulsed x.t t) = v at *
  split
  · next hsame =>
    obtain ⟨h1, h2, h3⟩ := countPulse_same (u := x.t) (t := v)
    rw [hrev, ← hsame] at h1 h2 h3
    rw [h1, h2, h3, hheld, hpos, ownStep, hrev, hdpp]
    exact ⟨hsame, rfl, rfl⟩
  · next hdiff =>
    have hne : shownReverse s b ≠ v.tb.reverse := by rwa [hrev]
    have hnot : shownReverse s b = !s.tb.reverse := by
      revert hdiff
      cases shownReverse s b <;> cases s.tb.reverse <;> simp
    split
    · next hn =>
      rw [countPulse_held hne (by rwa [hheld, hrp]), hheld]
      exact ⟨hrev, rfl, hpos⟩
    · next hn =>
      obtain ⟨h1, h2, h3, h4⟩ := countPulse_reverses (u := x.t) hne (by rwa [hheld, hrp]) hwf
      rw [h4, hheld, hpos, hdpp, hnot]
      exact ⟨(by rw [← hnot]; exact h1), hnot ▸ h2, hnot ▸ h3, rfl⟩

/-- Settles O20, by the branches of an edge of TACH_A. -/
theorem tachPulseMovesThePosition : Obligations.TachPulseMovesThePosition := by
  refine ⟨?count, ?above, ?chatter, ?falling, ?glitch, ?off⟩
  case count =>
    intro s x b hs he hl hc hr
    refine ⟨_, rfl, ?_⟩
    have e := edgeA x s
    rw [tachPulse_of_rise he hl hc, if_neg (Nat.not_lt.2 hr)]
    have hs' : spWf resetWord (pulsed x.t (behindEdgeA x s)).regs = true := by simpa using e.wf hs.1
    obtain ⟨kc, ks, kr⟩ := countPulse_keeps x.t (shownReverse s b) (cnt aTIMEBASE_PULSES (pulsed x.t (behindEdgeA x s)))
    refine ⟨?_, kc.trans (e.chatter.trans hc), ks.trans e.stuckA, countPulse_moves e hs.1 b rfl⟩
    rw [kr _ (by decide), rget_cnt hs']
    rw [rget_pulsed, e.reg _ (by decide)]
    rfl
  case above =>
    intro s x b hs he hl hc hr
    refine ⟨_, rfl, ?_⟩
    have e := edgeA x s
    rw [tachPulse_of_rise he hl hc, if_pos hr]
    refine ⟨rfl, e.pos, rfl, ?_, rbit_iset (by simpa using e.wf hs.1) _ (by decide)⟩
    rw [rget_iset_ne _ _ _ (by decide), rget_setTb, rget_pulsed, e.reg _ (by decide)]
  case chatter =>
    intro s x b hs he hl hc
    refine ⟨_, rfl, ?_⟩
    have e := edgeA x s
    rw [tachPulse_of_edge he, if_pos hl, tachRise_eq, if_pos (e.chatter.trans hc)]
    exact ⟨e.chatter.trans hc, e.pos.trans
      (by simp [posBefore, hc]), e.est hc, e.lastA, by rw [rget_pulsed, e.reg _ (by decide)]⟩
  case falling =>
    intro s x b hs he hl
    refine ⟨_, rfl, ?_⟩
    have e := edgeA x s
    rw [tachPulse_of_edge he, if_neg (by simp [hl])]
    exact ⟨e.lastA, e.levelA.trans hl, e.stuckA, e.pos, e.reg _ (by decide), e.freed hs.1⟩
  case glitch =>
    intro s x b hl hg
    refine ⟨_, rfl, ?_⟩
    rw [awake_run _ hl, tachPulse]
    dsimp only
    rw [if_pos (by simpa [tachGlitch] using hg)]
    exact (within_advance x.t s).1
  case off =>
    intro s x b hl hm
    refine ⟨_, rfl, ?_⟩
    have hm' : tachMode (advance x.t s) = 0 := by simpa only [tachMode, rfld_advance] using hm
    have ha := Within.refl [.now, .ptp, .tb] (fun _ => False) s |>.advance x.t
    rw [awake_run _ hl, tachPulse]
    dsimp only
    split
    · exact ⟨ha.1, by simp⟩
    · exact ⟨(ha.setTb _).1, by simp⟩

theorem rfld_of_rget_eq {s t : State} {a : Nat} (h : rget t a = rget s a) (hi lo : Nat) : rfld t a hi lo = rfld s a
    hi lo := by
  rw [rfld, h, rfld]

/-- The end of an estimate leaves the latches and the levels. -/
theorem endEst_est (u : Nat) (t : TimebaseSt) : (endEst u t).est = none := by
  unfold endEst
  split
  · assumption
  · rfl

theorem endEst_chatter (u : Nat) (t : TimebaseSt) : (endEst u t).chatter = t.chatter := by
  unfold endEst
  split <;> rfl

theorem tachBEdge_of_passes {x : PinEdge} (hg : passesGlitch (tachGlitch s) x = true) (hl : x.level = (!s.tb.levelB))
    (hs : spWf resetWord s.regs = true) :
    (tachBEdge x s).tb.stuckB = false ∧ (tachBEdge x s).tb.lastB = x.t ∧ (tachBEdge x s).tb.levelB = x.level ∧
      (tachBEdge x s).tb.pos = s.tb.pos ∧ (s.tb.stuckB = true → rbit (tachBEdge x s) (aISTAT pgTIMEBASE) 1 = true) := by
  have hg' : passesGlitch (tachGlitch (advance x.t s)) x = true := by rwa [tachGlitch, rfld_advance]
  have hb (y : TimebaseSt) : rbit (iset pgTIMEBASE 1 (setTb y (advance x.t s))) (aISTAT pgTIMEBASE) 1 = true :=
    rbit_iset (by simpa using hs) _ (by decide)
  unfold tachBEdge
  dsimp only
  rw [advance_tb, if_neg (by simp [hg', hl])]
  cases hst : s.tb.stuckB <;> simp [hb]

/-- The state in which an edge at CNT_IN is counted: its level stands. -/
def cntLevelled (x : PinEdge) (t : State) : State :=
  if x.level then setTb { t.tb with cntLevel := true, cntHigh := some x.t } t else cntLow t

/-- What the level of an edge at CNT_IN leaves. -/
theorem cntLevelled_keeps (x : PinEdge) (t : State) : (cntLevelled x t).tb.cntLevel = x.level ∧
    (cntLevelled x t).tb.cntHigh = (if x.level then some x.t else none) ∧
    (x.level = false → (cntLevelled x t).tb.cntStuck = false) ∧ (cntLevelled x t).tb.cnt = t.tb.cnt ∧
    (cntLevelled x t).tb.cntChatter = t.tb.cntChatter ∧ (cntLevelled x t).tb.cntRecent = t.tb.cntRecent ∧
    ∀ a, a ≠ aISTAT pgTIMEBASE → rget (cntLevelled x t) a = rget t a := by
  unfold cntLevelled cntLow
  cases hx : x.level <;> cases hst : t.tb.cntStuck <;> simp +contextual [hst, rget_iset_ne]

/-- The edges of the last 10 ms as a rate, the new one included. -/
def cntRate (t : TimebaseSt) (u : Nat) : Nat := (t.cntRecent.filter fun v => decide (u < v + 10 * msPs)).length * 100
    + 100

/-- EDGE selects an edge of this level (R53). -/
def edgeSelected (sel : Nat) (level : Bool) : Bool :=
  match sel with | 1 => level | 2 => !level | 3 => true | _ => false

/-- What an edge at CNT_IN does behind the filter: not selected, in chatter, above the limit, or counted. -/
def cntCount (x : PinEdge) (t : State) : State :=
  let y := { t.tb with cntRecent := x.t :: t.tb.cntRecent.filter (fun u => decide (x.t < u + 10 * msPs)), cntEdgeT :=
    x.t }
  if cntEdgeSel t = 0 ∨ (cntEdgeSel t = 1 ∧ ¬ x.level) ∨ (cntEdgeSel t = 2 ∧ x.level) then t
  else if t.tb.cntChatter then setTb y t
  else if cntRate t.tb x.t > rfld t aTIMEBASE_CNT_LIMIT 17 0 then iset pgTIMEBASE 3
    (setTb { y with cntChatter := true } t)
  else setTb { y with cnt := (t.tb.cnt + 1) % 2 ^ 32 } t

theorem cntEdge_eq (x : PinEdge) (s : State) : cntEdge x s =
    if ¬ passesGlitch (cntGlitch (advance x.t s)) x ∨ x.level = (advance x.t s).tb.cntLevel then advance x.t s
    else cntCount x (cntLevelled x (advance x.t s)) := by
  unfold cntEdge cntCount cntRate
  simp only [List.length_cons, Nat.add_mul, Nat.one_mul]
  rfl

theorem cntEdgeSel_lt (s : State) : cntEdgeSel s < 4 := Nat.mod_lt _ (by decide)

/-- The branch that leaves an edge uncounted is that of an edge that EDGE does not select. -/
theorem not_selected_iff (t : State) (level : Bool) :
    (cntEdgeSel t = 0 ∨ (cntEdgeSel t = 1 ∧ ¬ level = true) ∨ (cntEdgeSel t = 2 ∧ level = true)) ↔
      edgeSelected (cntEdgeSel t) level = false := by
  have h := cntEdgeSel_lt t
  generalize cntEdgeSel t = n at h
  interval_cases n <;> cases level <;> decide

theorem cntCount_keeps (x : PinEdge) (t : State) : (cntCount x t).tb.cntLevel = t.tb.cntLevel ∧
    (cntCount x t).tb.cntHigh = t.tb.cntHigh ∧ (cntCount x t).tb.cntStuck = t.tb.cntStuck := by
  unfold cntCount
  dsimp only
  split
  · simp
  · split
    · simp
    · split <;> simp

/-- The counter and its chatter latch behind an edge. -/
theorem cntCount_cnt (x : PinEdge) (t : State) :
    (cntCount x t).tb.cnt = (if edgeSelected (cntEdgeSel t) x.level && !t.tb.cntChatter &&
      !decide (rfld t aTIMEBASE_CNT_LIMIT 17 0 < cntRate t.tb x.t) then (t.tb.cnt + 1) % 2 ^ 32 else t.tb.cnt) ∧
    (cntCount x t).tb.cntChatter = (t.tb.cntChatter ||
      (edgeSelected (cntEdgeSel t) x.level && decide (rfld t aTIMEBASE_CNT_LIMIT 17 0 < cntRate t.tb x.t))) := by
  unfold cntCount
  simp only [not_selected_iff]
  cases hsel : edgeSelected (cntEdgeSel t) x.level
  · simp
  · cases hc : t.tb.cntChatter
    · by_cases hr : rfld t aTIMEBASE_CNT_LIMIT 17 0 < cntRate t.tb x.t <;> simp [hr]
    · simp

/-- An edge at CNT_IN that passes the filter, by whether it is selected and by its rate (R53, R61). -/
theorem cntEdge_of_passes {x : PinEdge} (hg : passesGlitch (cntGlitch s) x = true) (hl : x.level = (!s.tb.cntLevel)) :
    (cntEdge x s).tb.cntLevel = x.level ∧ (cntEdge x s).tb.cntHigh = (if x.level then some x.t else none) ∧
      (x.level = false → (cntEdge x s).tb.cntStuck = false) ∧
      (cntEdge x s).tb.cnt = (if cntSelected s x && !s.tb.cntChatter && !decide
        (rfld s aTIMEBASE_CNT_LIMIT 17 0 < cntRate s.tb x.t)
        then (s.tb.cnt + 1) % 2 ^ 32 else s.tb.cnt) ∧
      (cntEdge x s).tb.cntChatter =
        (s.tb.cntChatter || (cntSelected s x && decide (rfld s aTIMEBASE_CNT_LIMIT 17 0 < cntRate s.tb x.t))) := by
  have hg' : passesGlitch (cntGlitch (advance x.t s)) x = true := by rwa [cntGlitch, rfld_advance]
  obtain ⟨hlev, hhigh, hstuck, hcnt, hchat, hrec, hreg⟩ := cntLevelled_keeps x (advance x.t s)
  have hsel : cntEdgeSel (cntLevelled x (advance x.t s)) = cntEdgeSel s :=
    rfld_of_rget_eq ((hreg _ (by decide)).trans (rget_advance ..)) 1 0
  have hlim : rfld (cntLevelled x (advance x.t s)) aTIMEBASE_CNT_LIMIT 17 0 = rfld s aTIMEBASE_CNT_LIMIT 17 0 :=
    rfld_of_rget_eq ((hreg _ (by decide)).trans (rget_advance ..)) 17 0
  rw [advance_tb] at hcnt hchat hrec
  have hrate : cntRate (cntLevelled x (advance x.t s)).tb x.t = cntRate s.tb x.t := by rw [cntRate, hrec, cntRate]
  obtain ⟨k1, k2, k3⟩ := cntCount_keeps x (cntLevelled x (advance x.t s))
  obtain ⟨c1, c2⟩ := cntCount_cnt x (cntLevelled x (advance x.t s))
  rw [cntEdge_eq, if_neg (by simp [hg', hl]), k1, k2, k3, c1, c2, hsel, hlim, hrate, hcnt, hchat]
  exact ⟨hlev, hhigh, hstuck, rfl, rfl⟩

/-- Settles O21: each event by the branch that its hypotheses select. -/
theorem axisPinEvents : Obligations.AxisPinEvents := by
  refine ⟨?bEdge, ?quiet, ?stuckB, ?stuckA, ?still, ?cntEdge, ?cntQuiet, ?cntStuck, ?cntLow, ?corr⟩
  case bEdge =>
    intro s x hs hl hg hlev
    refine ⟨_, rfl, ?_⟩
    rw [awake_run _ hl]
    exact tachBEdge_of_passes hg hlev hs.1
  case quiet =>
    intro s t hs hl hc ht
    refine ⟨_, rfl, ?_⟩
    have hb (y : TimebaseSt) : rbit (iset pgTIMEBASE 1 (setTb y (advance t s))) (aISTAT pgTIMEBASE) 1 = true :=
      rbit_iset (by simpa using hs.1) _ (by decide)
    rw [awake_run _ hl, tachQuietRelease]
    dsimp only
    rw [advance_tb, if_pos ⟨hc, by simpa [tachQuiet] using ht⟩]
    refine ⟨?_, hb _, fun ha => ?_⟩
    · cases ha : s.tb.stuckA <;> simp [endEst_chatter]
    · simp [ha, endEst_est]
  case stuckB =>
    intro s t u hs hl hu hm ht hlast hst
    refine ⟨_, rfl, ?_⟩
    rw [awake_run _ hl, tachStuck]
    dsimp only
    simp only [advance_tb, hu, if_true]
    rw [if_pos ⟨by simpa [tachMode] using hm, by simpa [tachStuckT] using ht, hlast, by simp [hst]⟩]
    exact ⟨rfl, rbit_iset (by simpa using hs.1) _ (by decide), rfl⟩
  case stuckA =>
    intro s t u hs hl hu hm ht hlast hst
    refine ⟨_, rfl, ?_⟩
    rw [awake_run _ hl, tachStuck]
    dsimp only
    simp only [advance_tb, hu, Bool.false_eq_true, if_false]
    rw [if_pos ⟨by simpa [tachMode] using hm, by simpa [tachStuckT] using ht, hlast, by simp [hst]⟩]
    exact ⟨rfl, rbit_iset (by simpa using hs.1) _ (by decide), rfl⟩
  case still =>
    intro s t hl ht
    refine ⟨_, rfl, ?_⟩
    rw [awake_run _ hl, standstill]
    dsimp only
    rw [advance_tb, if_pos (by simpa [standstillT] using ht)]
    exact ⟨rfl, rfl, endEst_est _ _⟩
  case cntEdge =>
    intro s x hs hl hg hlev
    refine ⟨_, rfl, ?_⟩
    rw [awake_run _ hl]
    exact cntEdge_of_passes hg hlev
  case cntQuiet =>
    intro s t hs hl hc ht
    refine ⟨_, rfl, ?_⟩
    rw [awake_run _ hl, cntQuietRelease]
    dsimp only
    rw [advance_tb, if_pos ⟨hc, by simpa using ht⟩]
    exact ⟨rfl, rbit_iset (by simpa using hs.1) _ (by decide), rfl⟩
  case cntStuck =>
    intro s t u hs hl hu hsel hst ht
    refine ⟨_, rfl, ?_⟩
    rw [awake_run _ hl, cntStuck]
    dsimp only
    simp only [advance_tb, hu]
    rw [if_pos ⟨by simpa [cntEdgeSel] using hsel, by simpa using ht, by simp [hst]⟩]
    exact ⟨rfl, rbit_iset (by simpa using hs.1) _ (by decide), rfl⟩
  case cntLow =>
    intro s t phase hs hl hg
    refine ⟨_, rfl, ?_⟩
    rw [awake_run _ hl, cntInLow]
    dsimp only
    rw [if_pos (by simpa [cntGlitch] using hg), cntLow]
    dsimp only
    rw [advance_tb]
    have hb (y : TimebaseSt) : rbit (iset pgTIMEBASE 1 (setTb y (advance t s))) (aISTAT pgTIMEBASE) 1 = true :=
      rbit_iset (by simpa using hs.1) _ (by decide)
    cases hst : s.tb.cntStuck <;> simp [hb]
  case corr =>
    intro s hs hl hf hp
    refine ⟨_, rfl, ?_⟩
    rw [awake_run _ hl, corrDone, if_pos ⟨hf, hp⟩]
    exact ⟨rfl, rbit_iset hs.1 _ (by decide)⟩

/-! ### Registers whose write acts at once -/

/-- A register of a page whose write is an act of its block that waits for no frame boundary. -/
abbrev ActsAtOnce (a : Nat) : Prop :=
  (a ≠ aSYS_RSTCMD ∧ a ≠ aBOOT_CMD ∧ a ≠ aRECORDER_FREEZE ∧ a ≠ aTIMEBASE_TACHCFG ∧ a ≠ aTIMEBASE_CNTCFG) ∧
    (offOf a ≠ 0x8 ∧ offOf a ≠ 0x18 ∧ offOf a ≠ 0x1C) ∧ soloLater (pageOf a) (offOf a) = false ∧ busAddr a = a

theorem regAct_of_actsAtOnce {a : Nat} (h : ActsAtOnce a) (l : Nat) (old new v : Word) (s : State) :
    regAct true none l a old new v s = pageAct true none l a old new v (rset a new s) := by
  obtain ⟨⟨-, -, -, htach, hcnt⟩, ⟨h8, h18, h1c⟩, -, -⟩ := h
  have hkeep : keepMode a old new = (new, false) := by
    unfold keepMode
    rw [if_neg htach, if_neg hcnt]
  unfold regAct
  generalize offOf a = o at h8 h18 h1c
  simp only [h18, h1c, h8, if_false, hkeep, Bool.false_eq_true]

theorem landPage_of_actsAtOnce {a : Nat} (h : ActsAtOnce a) (l : Nat) (old new v : Word) (s : State) :
    landPage l a old new v s = (pageAct true none l a old new v (rset a new s)).1 := by
  have hact := regAct_of_actsAtOnce h l old new v s
  obtain ⟨⟨hrst, hboot, hfr, -, -⟩, ⟨h8, -, -⟩, hsl, -⟩ := h
  unfold landPage
  rw [hact]
  generalize pageOf a = p at hsl
  generalize offOf a = o at hsl h8
  simp only [hrst, hboot, hfr, h8, hsl, if_false, and_false, Bool.false_eq_true]

/-- An accepted write of such a register stores its word, acts, and completes with status 0. -/
theorem hostWrite_of_actsAtOnce {a : Nat} {w : HW} {d : RegDef} (h : Accepted s a w) (hd : regAt a = some d)
    (ha : ActsAtOnce a) :
    hostWrite ⟨a, w.lvl, w.be, w.v⟩ s =
      endAccess 0 w.lvl true a (pageAct true none w.lvl a (heldReg s a) (newWord d (pageOf a) w.lvl (heldReg s a) w.v)
        (actBits d w.lvl w.v) (rset a (newWord d (pageOf a) w.lvl (heldReg s a) w.v) s)).1 := by
  have hland := landPage_of_actsAtOnce ha
  obtain ⟨⟨hrst, -⟩, ⟨hctrl, -⟩, -, hbus⟩ := ha
  rw [hostWrite_accepted h hd hbus hrst (fun hc => hctrl hc.1), hland]
  rfl

/-- A write that a rule of its block refuses, none of the data plane's, is recorded with that code and ends REFUSED. -/
theorem hostWrite_of_blockRefuse {a : Nat} {w : HW} {d : RegDef} {code : Nat} (h : Served s a w) (hd : regAt a = some d)
    (ha : ActsAtOnce a) (hsolo : soloRefuse s d a w.v = none)
    (hr : blockRefuse s true w.lvl a (heldReg s a) (newWord d (pageOf a) w.lvl (heldReg s a) w.v) w.v = refuse code a)
    (hcode : code ≠ 0) :
    hostWrite ⟨a, w.lvl, w.be, w.v⟩ s = endAccess stsRefused w.lvl true a (errcap (pageOf a) code a s) := by
  have hland := landPage_of_actsAtOnce ha
  obtain ⟨⟨hrst, -⟩, ⟨hctrl, -⟩, -, hbus⟩ := ha
  have hp : pageWrite w.lvl a w.v s = (errcap (pageOf a) code a s, stsRefused) := by
    simp [pageWrite, hd, hsolo, hrst, hctrl, hr, refuse, recordRefuse, hcode]
  rw [hostWrite_served (x := ⟨a, w.lvl, w.be, w.v⟩) h hd hbus hrst, hp]

/-! ### O22 -/

theorem Within.ofEnd {l : List Part} {A : Nat → Prop} {t : State} (h : Within l A s t) (lvl : Fin 4) (a : Nat)
    (hl : .regs ∈ l := by decide) : KeepsBut l s (endAccess 0 lvl true a t) := by
  intro p hp
  exact (h.1 p hp).trans ((within_endAccess (status := 0) (l := lvl) (a := a) (s := t) true).1 p fun hm => hp
    (by simp_all))

/-- A captured error stays so behind the end of an access on another page. -/
theorem captured_endAccess {code page a : Nat} {t : State} (h : captured code page a s t) (hpage : page ≠ pgHOSTIF)
    (status : Nat) (l : Fin 4) (k : Nat) : captured code page a s (endAccess status l.val true k t) := by
  have hend := within_endAccess (s := t) (l := l) (a := k) (status := status) true
  unfold captured
  rwa [hend.2 (aERRCAP page) (by simpa [OnPages, pageOf_pageAddr] using hpage),
    hend.2 (aERRADDR page) (by simpa [OnPages, pageOf_pageAddr] using hpage)]

theorem endAccess_tb (status : Nat) (l : Fin 4) (a : Nat) (t : State) : (endAccess status l.val true a t).tb = t.tb :=
  (within_endAccess true).1 .tb (by decide)

theorem errcap_tb (p code a : Nat) (t : State) : (errcap p code a t).tb = t.tb := by
  unfold errcap
  split <;> rfl

/-- The part of a word that a write-only mask keeps. -/
theorem toNat_mod_actBits (v : Word) : (v &&& 0xFFFF#32).toNat % 65536 = v.toNat % 65536 := by
  rw [BitVec.toNat_and, show (0xFFFF#32).toNat = 2 ^ 16 - 1 from rfl, Nat.and_two_pow_sub_one_eq_mod]
  omega

/-- Outside the data plane SOLO refuses nothing. -/
theorem soloRefuse_of_not_dataPlane {a : Nat} (h : dataPlane (pageOf a) = false) (d : RegDef) (v : Word) :
    soloRefuse s d a v = none := by
  unfold soloRefuse
  simp [h]

/-- The acts of the page of TIMEBASE. -/
theorem pageAct_timebase {a : Nat} (hp : pageOf a = pgTIMEBASE) (direct : Bool) (tk : Option Word) (l : Nat)
    (old new v : Word)
    (s : State) : pageAct direct tk l a old new v s =
      (if offOf a = 0x44 ∨ offOf a = 0x48 then wheelTaken s
       else if offOf a = 0x70 then setTb { s.tb with corrLo := v } s
       else if offOf a = 0x74 then corrSubmit v s
       else if offOf a = 0x88 then setTb { s.tb with loadLo := v } s
       else if offOf a = 0x8C then
         setTb { s.tb with load := some (sgn 48 (s.tb.loadLo.toNat + 2 ^ 32 * (v.toNat % 65536)) * mmUnit) } s
       else s, false) := by
  unfold pageAct
  rw [hp]
  generalize offOf a = o
  rfl

theorem pageAct_corrHi {a : Nat} (hp : pageOf a = pgTIMEBASE) (ho : offOf a = 0x74) (l : Nat) (old new v : Word)
    (t : State) :
    (pageAct true none l a old new v t).1 = corrSubmit v t := by
  simp [pageAct_timebase hp, ho]

theorem pageAct_posLoadHi {a : Nat} (hp : pageOf a = pgTIMEBASE) (ho : offOf a = 0x8C) (l : Nat) (old new v : Word)
    (t : State) :
    (pageAct true none l a old new v t).1 =
      setTb { t.tb with load := some (sgn 48 (t.tb.loadLo.toNat + 2 ^ 32 * (v.toNat % 65536)) * mmUnit) } t := by
  simp [pageAct_timebase hp, ho]

theorem blockRefuse_timebase {a : Nat} (hp : pageOf a = pgTIMEBASE) (direct : Bool) (l : Nat) (old new v : Word) :
    blockRefuse s direct l a old new v = if offOf a = 0x8C ∧ posPending s then refuse 1 a else none := by
  unfold blockRefuse
  rw [hp]
  generalize offOf a = o
  dsimp only
  rw [if_neg (by decide), if_neg (by decide), if_neg (by decide), if_neg (by decide), if_pos rfl]

theorem blockRefuse_posLoadHi {a : Nat} (hpage : pageOf a = pgTIMEBASE) (ho : offOf a = 0x8C) (l : Nat)
    (old new v : Word)
    (hp : posPending s = true) : blockRefuse s true l a old new v = refuse 1 a := by
  rw [blockRefuse_timebase hpage, if_pos ⟨ho, hp⟩]

/-- What a submitted correction does, by its limit. -/
theorem corrSubmit_within (hi : Word) (t : State) : Within [.regs, .tb] (OnPages [pgTIMEBASE]) t (corrSubmit hi t) := by
  have h := Within.refl [.regs, .tb] (OnPages [pgTIMEBASE]) t
  unfold corrSubmit
  dsimp only
  split
  · exact (h.iset _).errcap _ _
  · exact h.setTb _

theorem actBits_lowHalf {d : RegDef} (h : d.w1s ||| d.wo ||| d.w1c = 0xFFFF) (h0 : d.rwp = 0) (l : Nat) (v : Word) :
    (actBits d l v).toNat % 65536 = v.toNat % 65536 := by
  have hm : w32 d.w1s ||| w32 d.wo ||| w32 d.w1c ||| (if l = 0 then w32 d.rwp else 0) = 0xFFFF#32 := by
    simp [h0, w32, ← BitVec.ofNat_or, h]
  rw [actBits, hm, toNat_mod_actBits]

/-- The correction that CORR_HI:CORR_LO give, in µm with 16 fractional bits. -/
def correction (s : State) (hi : Word) : Int := sgn 48 (s.tb.corrLo.toNat + 2 ^ 32 * (hi.toNat % 65536)) * mmUnit

/-- The pending correction would exceed CORR_LIMIT (R59). -/
abbrev overLimit (s : State) (hi : Word) : Prop :=
  (s.tb.pend + correction s hi).natAbs > (rget s aTIMEBASE_CORR_LIMIT).toNat * 65536000

theorem corrSubmit_over {hi : Word} (h : overLimit s hi) : corrSubmit hi s = errcap pgTIMEBASE 2 0
    (iset pgTIMEBASE 4 s) := if_pos h

theorem corrSubmit_within_limit {hi : Word} (h : ¬ overLimit s hi) :
    (corrSubmit hi s).tb.pend = s.tb.pend + correction s hi ∧ (corrSubmit hi s).tb.pos = s.tb.pos := by
  rw [show corrSubmit hi s = setTb _ s from if_neg h]
  exact ⟨rfl, rfl⟩

/-- A discarded correction leaves its fault, as seen from a state whose error registers are the same. -/
theorem corrSubmit_over_fault {s t : State} {hi : Word} (h : overLimit t hi) (ht : spWf resetWord t.regs = true)
    (hc : rget t (aERRCAP pgTIMEBASE) = rget s (aERRCAP pgTIMEBASE))
      (ha : rget t (aERRADDR pgTIMEBASE) = rget s (aERRADDR pgTIMEBASE)) :
    rbit (corrSubmit hi t) (aISTAT pgTIMEBASE) 4 = true ∧ captured 2 pgTIMEBASE 0 s (corrSubmit hi t) := by
  have hi4 : rbit (iset pgTIMEBASE 4 t) (aISTAT pgTIMEBASE) 4 = true := rbit_iset ht _ (by decide)
  have herr : Within [.regs] (· ∈ [aERRCAP pgTIMEBASE, aERRADDR pgTIMEBASE]) (iset pgTIMEBASE 4 t)
      (errcap pgTIMEBASE 2 0 (iset pgTIMEBASE 4 t)) := (Within.refl ..).errcap _ _
  have hcap := captured_errcap (iset_regs_wf ht pgTIMEBASE 4) 2 pgTIMEBASE 0 (by decide)
  rw [corrSubmit_over h]
  refine ⟨by rw [rbit, herr.2 _ (by decide)]; exact hi4, ?_⟩
  unfold captured at hcap ⊢
  rwa [rbit, rget_iset_ne _ _ _ (by decide), rget_iset_ne _ _ _ (by decide), hc, ha] at hcap

theorem corrSubmit_regs_wf {t : State} (h : spWf resetWord t.regs = true) (hi : Word) :
    spWf resetWord (corrSubmit hi t).regs = true := by
  by_cases ho : overLimit t hi
  · rw [corrSubmit_over ho]
    exact errcap_regs_wf (iset_regs_wf h _ _) _ _ _
  · rwa [show corrSubmit hi t = setTb _ t from if_neg ho]

/-- Settles O22. -/
theorem correctionsAndLoads : Obligations.CorrectionsAndLoads := by
  refine ⟨fun s w hs h => ?_, fun s w hs h => ?_, fun s w hs h hp => ?_⟩
  · refine ⟨_, rfl, ?_⟩
    unfold writeAt
    rw [hostWrite_of_actsAtOnce h rfl (by decide), pageAct_corrHi (by decide) (by decide)]
    generalize hv : actBits _ _ _ = v
    have hlow : v.toNat % 65536 = w.v.toNat % 65536 := by rw [← hv]; exact actBits_lowHalf rfl rfl _ _
    generalize newWord _ _ _ _ _ = new
    generalize ht : rset aTIMEBASE_CORR_HI new s = t
    have hwf : spWf resetWord t.regs = true := ht ▸ rset_regs_wf hs.1 _ _
    have hstore : Within [.regs, .tb] (OnPages [pgTIMEBASE]) s t := ht ▸ (Within.refl _ _ s).rset new
    have htb : t.tb = s.tb := by rw [← ht]; rfl
    have hreg (a : Nat) (ha : a ≠ aTIMEBASE_CORR_HI) : rget t a = rget s a := by rw [← ht, rget_rset_ne _ _ ha]
    have hover : overLimit t v ↔ overLimit s w.v := by
      rw [overLimit, overLimit, correction, correction, htb, hlow, hreg _ (by decide)]
    refine ⟨?_, ?_, (hstore.trans (corrSubmit_within ..)).ofEnd _ _⟩
    · exact lastStatus_endAccess (corrSubmit_regs_wf hwf v) (by decide)
    · show if overLimit s w.v then _ else _
      split
      · next hl =>
        obtain ⟨h4, hc⟩ := corrSubmit_over_fault (hover.2 hl) hwf (hreg _ (by decide)) (hreg _ (by decide))
        refine ⟨?_, ?_, captured_endAccess hc (by decide) _ _ _⟩
        · rw [corrSubmit_over (hover.2 hl)]
          exact (endAccess_tb _ _ _ _).trans ((errcap_tb _ _ _ _).trans htb)
        · rw [rbit, rget_endAccess_ok _ (by decide) (by decide)]
          exact h4
      · next hl =>
        obtain ⟨h1, h2⟩ := corrSubmit_within_limit (mt hover.1 hl)
        rw [endAccess_tb, h1, h2, htb, correction, htb, hlow]
        exact ⟨rfl, rfl⟩
  · refine ⟨_, rfl, ?_⟩
    unfold writeAt
    rw [hostWrite_of_actsAtOnce h rfl (by decide), pageAct_posLoadHi (by decide) (by decide), actBits_lowHalf rfl rfl]
    refine ⟨lastStatus_endAccess (rset_regs_wf hs.1 _ _) (by decide), ?_, ?_,
      (((Within.refl [.regs, .tb] (OnPages [pgTIMEBASE]) s).rset _).setTb _).ofEnd _ _⟩
    · rw [endAccess_tb]
      rfl
    · rw [endAccess_tb]
      rfl
  · refine ⟨_, rfl, ?_⟩
    unfold writeAt
    rw [hostWrite_of_blockRefuse h rfl (by decide) (soloRefuse_of_not_dataPlane (by decide) _ _)
      (blockRefuse_posLoadHi (by decide) (by decide) _ _ _ _ hp) (by decide)]
    exact refusedWith_of_errcap hs (by decide) (by decide)

end Sys2Proof.Machine
end

section
/-!
PROOFS. Entries that complete: words in memory, the record of a completion, what the completion of entries leaves alone;
the entries that land at once, and WRITE_PARAM.
-/

-- One declaration after another: side by side, the stacks of the threads exceed what memory the check allows.
set_option Elab.async false

namespace Sys2Proof.Machine

variable {s : State}

/-! ### Words in memory -/

theorem freshen_cases (a : Nat) (s : State) : ∃ x, freshen a s = { s with fab := x } ∨ freshen a s = iset pgECC 7
    { s with fab := x } := by
  unfold freshen
  split
  · exact ⟨_, .inr rfl⟩
  · split
    · exact ⟨s.fab, .inl rfl⟩
    · exact ⟨_, .inl rfl⟩

@[simp] theorem rdByte_freshen (a b : Nat) (s : State) : rdByte (freshen a s) b = rdByte s b := by
  obtain ⟨x, h | h⟩ := freshen_cases a s
  · rw [h]; rfl
  · rw [h]; rfl

@[simp] theorem freshen_mem (a : Nat) (s : State) : (freshen a s).mem = s.mem := by
  obtain ⟨x, h | h⟩ := freshen_cases a s
  · rw [h]
  · rw [h]; rfl

theorem rdByte_wrWord_ne (a : Nat) (v : Word) (s : State) {b : Nat} (h : ¬ (a ≤ b ∧ b < a + 4)) : rdByte
    (wrWord a v s) b = rdByte s b := by
  unfold wrWord
  rw [rdByte_wrByte_ne _ _ (by omega), rdByte_wrByte_ne _ _ (by omega), rdByte_wrByte_ne _ _ (by omega),
    rdByte_wrByte_ne _ _ (by omega)]

theorem rdByte_stWord_ne (a : Nat) (v : Word) (s : State) {b : Nat} (h : ¬ (a ≤ b ∧ b < a + 4)) : rdByte
    (stWord a v s) b = rdByte s b := by
  rw [stWord, rdByte_freshen, rdByte_wrWord_ne a v s h]

theorem rdByte_stWords_ne (l : List Word) : ∀ (a : Nat) (s : State) {b : Nat}, ¬ (a ≤ b ∧ b < a + 4 * l.length) →
    rdByte (stWords a l s) b = rdByte s b := by
  induction l with
  | nil => intro a s b _; rfl
  | cons v t ih =>
    intro a s b h
    rw [List.length_cons] at h
    rw [stWords, ih _ _ (by omega), rdByte_stWord_ne _ _ _ (by omega)]

theorem stWord_mem_wf (h : Memory.wf s.mem) (a : Nat) (v : Word) : Memory.wf (stWord a v s).mem := by
  rw [stWord, freshen_mem]
  exact wrWord_mem_wf h a v

theorem stWords_mem_wf (l : List Word) : ∀ {s : State} (a : Nat), Memory.wf s.mem → Memory.wf (stWords a l s).mem := by
  induction l with
  | nil => intro s a h; exact h
  | cons v t ih => intro s a h; exact ih _ (stWord_mem_wf h a v)

theorem rdByte_wrWord (h : Memory.wf s.mem) (a : Nat) (v : Word) :
    rdByte (wrWord a v s) a = v.extractLsb' 0 8 ∧ rdByte (wrWord a v s) (a + 1) = v.extractLsb' 8 8 ∧
      rdByte (wrWord a v s) (a + 2) = v.extractLsb' 16 8 ∧ rdByte (wrWord a v s) (a + 3) = v.extractLsb' 24 8 := by
  have h0 := wrByte_mem_wf h a (v.extractLsb' 0 8)
  have h1 := wrByte_mem_wf h0 (a + 1) (v.extractLsb' 8 8)
  have h2 := wrByte_mem_wf h1 (a + 2) (v.extractLsb' 16 8)
  unfold wrWord
  refine ⟨?_, ?_, ?_, rdByte_wrByte_same h2 _ _⟩
  · rw [rdByte_wrByte_ne _ _
      (by omega), rdByte_wrByte_ne _ _ (by omega), rdByte_wrByte_ne _ _ (by omega), rdByte_wrByte_same h]
  · rw [rdByte_wrByte_ne _ _ (by omega), rdByte_wrByte_ne _ _ (by omega), rdByte_wrByte_same h0]
  · rw [rdByte_wrByte_ne _ _ (by omega), rdByte_wrByte_same h1]

/-- A word is its four bytes. -/
theorem w32_bytes (v : Word) : w32 ((v.extractLsb' 0 8).toNat + 0x100 * (v.extractLsb' 8 8).toNat +
    0x10000 * (v.extractLsb' 16 8).toNat + 0x1000000 * (v.extractLsb' 24 8).toNat) = v := by
  apply BitVec.eq_of_toNat_eq
  have hv := v.isLt
  simp only [w32, BitVec.toNat_ofNat, BitVec.extractLsb'_toNat, Nat.shiftRight_eq_div_pow]
  omega

/-- A stored word is read back. -/
theorem rdWord_stWord (h : Memory.wf s.mem) (a : Nat) (v : Word) : rdWord (stWord a v s) a = v := by
  obtain ⟨h0, h1, h2, h3⟩ := rdByte_wrWord h a v
  simp only [rdWord, stWord, rdByte_freshen, h0, h1, h2, h3, w32_bytes]

theorem rdWord_congr {s t : State} {a : Nat} (h : ∀ b, a ≤ b → b < a + 4 → rdByte t b = rdByte s b) : rdWord t a =
    rdWord s a := by
  unfold rdWord
  rw [h a (by omega) (by omega), h (a + 1) (by omega) (by omega), h (a + 2) (by omega) (by omega), h (a + 3) (by omega) (by omega)]

theorem rdWord_stWord_ne (a : Nat) (v : Word) (s : State) {b : Nat} (h : b + 4 ≤ a ∨ a + 4 ≤ b) :
    rdWord (stWord a v s) b = rdWord s b :=
  rdWord_congr fun c hc hc' => rdByte_stWord_ne a v s (by omega)

/-! ### Entries that complete -/

/-- The parts that the completion of entries may change. -/
def doneParts : List Part := [.regs, .mem, .comp, .galley, .fab]

/-- The registers that the completion of entries may change. -/
def doneRegs : List Nat :=
  [aGALLEY_TICKET_DONE, aGALLEY_CPROD, aISTAT pgGALLEY, aCOMPOSITOR_LATE_CNT, aCOMPOSITOR_DROP_CNT, aISTAT pgCOMPOSITOR,
    aISTAT pgECC]

/-- A byte of the completion ring. -/
def inCompRing (a : Nat) : Prop := compRing ≤ a ∧ a < compRing + 0x10000

/-- Completions, and changes of the parts `l` and the registers `A` besides: the memory outside the completion ring, the
released and the held entries stay, and storage stays canonical. -/
structure Settles (l : List Part) (A : Nat → Prop) (s t : State) : Prop where
  within : Within l A s t
  mem : ∀ a, ¬ inCompRing a → rdByte t a = rdByte s a
  landing : t.comp.landing = s.comp.landing
  held : t.comp.held = s.comp.held
  liveB : t.basin.liveB = s.basin.liveB
  regsWf : spWf resetWord s.regs = true → spWf resetWord t.regs = true
  memWf : Memory.wf s.mem → Memory.wf t.mem

/-- The frame has room for completions. -/
structure Room (l : List Part) (A : Nat → Prop) : Prop where
  parts : ∀ p ∈ doneParts, p ∈ l
  regs : ∀ a ∈ doneRegs, A a

theorem Settles.refl (l : List Part) (A : Nat → Prop) (s : State) : Settles l A s s :=
  ⟨.refl l A s, fun _ _ => rfl, rfl, rfl, rfl, id, id⟩

section
variable {l : List Part} {A : Nat → Prop} {t : State}

theorem Settles.trans {u : State} (h : Settles l A s t) (k : Settles l A t u) : Settles l A s u :=
  ⟨h.within.trans k.within, fun a ha => (k.mem a ha).trans (h.mem a ha), k.landing.trans h.landing, k.held.trans h.held,
    k.liveB.trans h.liveB, fun w => k.regsWf (h.regsWf w), fun w => k.memWf (h.memWf w)⟩

/-- A fold of operations that settle. -/
theorem Settles.foldl {α : Type} {f : State → α → State} (hf : ∀ u x, Settles l A s u → Settles l A s (f u x))
    (m : List α)
    (h : Settles l A s t) : Settles l A s (m.foldl f t) := by
  induction m generalizing t with
  | nil => exact h
  | cons x m ih => exact ih (hf t x h)

/-- An operation that changes some of the parts and neither registers nor memory. -/
theorem Settles.parts (h : Settles l A s t) {u : State} {ps : List Part} (hp : ∀ p ∈ ps, p ∈ l) (hu : KeepsBut ps t u)
    (hr : u.regs = t.regs := by rfl) (hm : u.mem = t.mem := by rfl) (hl : u.comp.landing = t.comp.landing := by rfl)
    (hh : u.comp.held = t.comp.held := by rfl) (hb : u.basin.liveB = t.basin.liveB := by rfl) : Settles l A s u :=
  h.trans ⟨⟨fun p hpl => hu p fun hps => hpl (hp p hps), fun a _ => by rw [rget, hr, rget]⟩,
    fun a _ => by rw [rdByte, hm, rdByte], hl, hh, hb, fun w => hr ▸ w, fun w => hm ▸ w⟩

theorem Settles.rset (h : Settles l A s t) {a : Nat} (v : Word) (hl : .regs ∈ l) (ha : A a) : Settles l A s
    (rset a v t) :=
  h.trans ⟨within_rset hl ha v t, fun _ _ => rfl, rfl, rfl, rfl, fun w => rset_regs_wf w a v, id⟩

theorem Settles.ite (h : Settles l A s t) {p : Prop} [Decidable p] {u : State} (k : Settles l A s u) :
    Settles l A s (if p then t else u) := by
  split
  · exact h
  · exact k

theorem Settles.fab (h : Settles l A s t) (x : FabSt) (hl : .fab ∈ l) : Settles l A s { t with fab := x } :=
  h.parts (ps := [.fab]) (by simpa using hl) fun p hp => by cases p <;> first | exact absurd List.mem_cons_self hp | rfl

theorem Settles.comp (h : Settles l A s t) (x : CompositorSt) (hl : .comp ∈ l)
    (hx : x.landing = t.comp.landing := by rfl)
    (hh : x.held = t.comp.held := by rfl) : Settles l A s { t with comp := x } :=
  h.parts (ps := [.comp]) (by simpa using hl)
    (fun p hp => by cases p <;> first | exact absurd List.mem_cons_self hp | rfl)
    rfl rfl hx hh

theorem Settles.galley (h : Settles l A s t) (x : GalleySt) (hl : .galley ∈ l) : Settles l A s { t with galley := x } :=
  h.parts (ps := [.galley]) (by simpa using hl)
    fun p hp => by cases p <;> first | exact absurd List.mem_cons_self hp | rfl

theorem Settles.basin (h : Settles l A s t) (x : BasinSt) (hl : .basin ∈ l) (hb : x.liveB = t.basin.liveB := by rfl) :
    Settles l A s { t with basin := x } :=
  h.parts (ps := [.basin]) (by simpa using hl)
    (fun p hp => by cases p <;> first | exact absurd List.mem_cons_self hp | rfl)
    rfl rfl rfl rfl hb

/-- A word of the completion ring is stored. -/
theorem Settles.stWord (h : Settles l A s t) (r : Room l A) {a : Nat} (v : Word)
    (ha : compRing ≤ a ∧ a + 4 ≤ compRing + 0x10000) :
    Settles l A s (stWord a v t) := by
  have hw : Settles l A s (wrWord a v t) := h.trans
    ⟨⟨fun p hp => by cases p <;> first | exact absurd (r.parts _ (by decide)) hp | rfl, fun _ _ => rfl⟩,
      fun b hb => rdByte_wrWord_ne a v t fun hab => hb ⟨by omega, by omega⟩, rfl, rfl, rfl, id, fun w =>
        wrWord_mem_wf w a v⟩
  unfold Machine.stWord
  obtain ⟨x, hx | hx⟩ := freshen_cases a (wrWord a v t)
  · rw [hx]
    exact hw.fab x (r.parts _ (by decide))
  · rw [hx]
    exact (hw.fab x (r.parts _ (by decide))).rset _ (r.parts _ (by decide)) (r.regs _ (by decide))

theorem Settles.stWords (r : Room l A) (m : List Word) : ∀ {t : State} {a : Nat}, Settles l A s t →
    compRing ≤ a ∧ a + 4 * m.length ≤ compRing + 0x10000 → Settles l A s (stWords a m t) := by
  induction m with
  | nil => intro t a h _; exact h
  | cons v m ih =>
    intro t a h ha
    rw [List.length_cons] at ha
    exact ih (h.stWord r v (by omega)) (by omega)

section
variable (h : Settles l A s t) (r : Room l A)
include h r

theorem Settles.cnt {a : Nat} (n : Nat) (ha : a ∈ doneRegs := by decide) : Settles l A s (cnt a t n) :=
  h.rset _ (r.parts _ (by decide)) (r.regs _ ha)

theorem Settles.iset {p : Nat} (b : Nat) (ha : aISTAT p ∈ doneRegs := by decide) : Settles l A s (iset p b t) :=
  h.rset _ (r.parts _ (by decide)) (r.regs _ ha)

theorem Settles.setComp (x : CompositorSt) (hx : x.landing = t.comp.landing := by rfl)
    (hh : x.held = t.comp.held := by rfl) :
    Settles l A s { t with comp := x } :=
  h.comp x (r.parts _ (by decide)) hx hh

theorem Settles.mapFlight (f : Ev → Ev) : Settles l A s (mapFlight f t) := h.galley _ (r.parts _ (by decide))

theorem Settles.record (e : Ev) (outcome late land done : Nat) : Settles l A s (record e outcome late land done t) := by
  unfold Machine.record
  extract_lets a _ s1 s2 s3 s4 s5 s6 _ _
  have hs1 : Settles l A s s1 := h.stWords r _ (by
    have := Nat.mod_lt (rget t aGALLEY_CPROD).toNat (show 4096 > 0 by decide)
    simp only [List.length_cons, List.length_nil]
    omega)
  have hs2 : Settles l A s s2 := (hs1.cnt r _).rset _ (r.parts _ (by decide)) (r.regs _ (by decide))
  have hs3 : Settles l A s s3 := (hs2.iset r _).ite hs2
  have hs4 : Settles l A s s4 := ((hs3.cnt r _).iset r _).ite hs3
  have hs5 : Settles l A s s5 := ((hs4.cnt r _).iset r _).ite hs4
  have hs6 : Settles l A s s6 := (hs5.iset r _).ite hs5
  exact hs6.parts (ps := [.comp, .galley]) (fun p hp => r.parts p (by revert hp; cases p <;> decide))
    fun p hp => by cases p <;> first | exact absurd (by decide) hp | rfl

end

theorem Settles.cancelDeps (r : Room l A) (n : Nat) : ∀ (u : Word) {t : State}, Settles l A s t →
    Settles l A s (cancelDeps n u t) := by
  induction n with
  | zero => intro u t h; exact h
  | succ n ih => intro u t h; exact .foldl (fun _ _ hu => ih _ ((hu.setComp r _).record r ..)) _ (h.mapFlight r _)

section
variable (h : Settles l A s t) (r : Room l A)
include h r

theorem Settles.applyCancel (target : Word) : Settles l A s (applyCancel target t).1 := by
  unfold Machine.applyCancel
  split
  · exact .cancelDeps r _ _ ((h.setComp r _).record r ..)
  · exact h

theorem Settles.selectCancel (e : Ev) : Settles l A s (selectCancel e t).1 := (h.setComp r _).applyCancel r _

theorem Settles.deferred : Settles l A s (deferred t) := (h.setComp r _).ite ((h.setComp r _).iset r _)

theorem Settles.joinSel (e : Ev) : Settles l A s (joinSel e t) := by
  unfold Machine.joinSel
  extract_lets free _ q m
  have hq : Settles l A s q.1 := by
    unfold q
    split
    · exact h.setComp r _
    · exact h.selectCancel r e
  split
  · exact h.deferred r
  · split
    · exact (hq.setComp r _).deferred r
    · exact hq.setComp r _

theorem Settles.releaseDeps (u : Word) (c : Nat) : Settles l A s (releaseDeps u c t) :=
  .foldl (fun _ _ hv => ((hv.setComp r _).joinSel r _).ite (hv.setComp r _)) _ (h.mapFlight r _)

theorem Settles.finish (e : Ev) (outcome late land done : Nat) : Settles l A s (finish e outcome late land done t) := by
  unfold Machine.finish
  exact Settles.ite (.cancelDeps r _ _ (h.record r ..)) ((h.record r ..).releaseDeps r ..)

theorem Settles.finishAt (e : Ev) (done : Nat) : Settles l A s (finishAt e done t) := h.finish r ..

theorem Settles.finishRunning (u : Word) (done : Nat) : Settles l A s (finishRunning u done t) := by
  unfold Machine.finishRunning
  split
  · exact h
  · exact (h.setComp r _).finishAt r ..

end
end

/-! ### The record of a completion (R98) -/

theorem rget_stWord_ne (a : Nat) (v : Word) (s : State) {b : Nat} (h : b ≠ aISTAT pgECC) : rget (stWord a v s) b =
    rget s b := by
  unfold stWord
  obtain ⟨x, hx | hx⟩ := freshen_cases a (wrWord a v s)
  · rw [hx]; rfl
  · rw [hx, rget_iset_ne _ _ _ h]; rfl

theorem rget_stWords_ne (l : List Word) : ∀ (a : Nat) (s : State) {b : Nat}, b ≠ aISTAT pgECC → rget (stWords a l s)
    b = rget s b := by
  induction l with
  | nil => intro a s b _; rfl
  | cons v l ih => intro a s b h; rw [stWords, ih _ _ h, rget_stWord_ne _ _ _ h]

theorem stWord_regs_wf (h : spWf resetWord s.regs = true) (a : Nat) (v : Word) : spWf resetWord (stWord a v s).regs =
    true := by
  unfold stWord
  obtain ⟨x, hx | hx⟩ := freshen_cases a (wrWord a v s)
  · rw [hx]; exact h
  · rw [hx]; exact iset_regs_wf h _ _

theorem stWords_regs_wf (l : List Word) : ∀ {s : State} (a : Nat), spWf resetWord s.regs = true →
    spWf resetWord (stWords a l s).regs = true := by
  induction l with
  | nil => intro s a h; exact h
  | cons v l ih => intro s a h; exact ih _ (stWord_regs_wf h a v)

@[simp] theorem stWords_comp (l : List Word) (a : Nat) (s : State) : (stWords a l s).comp = s.comp :=
  keepsBut_of (l := [.regs, .mem, .fab]) (fun _ h => h.stWords a l) .comp (by decide)

/-- The registers that a record changes, by its outcome. -/
theorem rget_record (hs : spWf resetWord s.regs = true) (e : Ev) (outcome late land done : Nat) :
    rget (record e outcome late land done s) aGALLEY_TICKET_DONE = e.ticket ∧
    rget (record e outcome late land done s) aGALLEY_CPROD = rget s aGALLEY_CPROD + 1 ∧
    rget (record e outcome late land done s) aCOMPOSITOR_DROP_CNT =
      if outcome = outDropped then rget s aCOMPOSITOR_DROP_CNT + 1 else rget s aCOMPOSITOR_DROP_CNT := by
  unfold record
  extract_lets a _ s1 s2 s3 s4 s5 s6 _ _
  have w1 : spWf resetWord s1.regs = true := stWords_regs_wf _ _ hs
  have w2 : spWf resetWord s2.regs = true := rset_regs_wf (cnt_regs_wf w1 _ _) _ _
  have h1 (b : Nat) (hb : b ≠ aISTAT pgECC) : rget s1 b = rget s b := rget_stWords_ne _ _ _ hb
  have h2 : rget s2 aGALLEY_TICKET_DONE = e.ticket ∧ rget s2 aGALLEY_CPROD = rget s aGALLEY_CPROD + 1 ∧
      rget s2 aCOMPOSITOR_DROP_CNT = rget s aCOMPOSITOR_DROP_CNT := by
    refine ⟨rget_rset_same (cnt_regs_wf w1 _ _) _ _, ?_, ?_⟩
    · rw [rget_rset_ne _ _ (by decide), rget_cnt w1, h1 _ (by decide)]
      rfl
    · rw [rget_rset_ne _ _ (by decide), cnt, rget_rset_ne _ _ (by decide), h1 _ (by decide)]
  have h4 : Within [.regs] (· ∈ [aISTAT pgGALLEY, aISTAT pgCOMPOSITOR, aCOMPOSITOR_LATE_CNT]) s2 s4 := by
    have h3 : Within [.regs] (· ∈ [aISTAT pgGALLEY, aISTAT pgCOMPOSITOR, aCOMPOSITOR_LATE_CNT]) s2 s3 :=
      .ite ((Within.refl ..).iset _) (.refl ..)
    exact .ite ((h3.cnt _).iset _) h3
  have w4 : spWf resetWord s4.regs = true := by
    have w3 : spWf resetWord s3.regs = true := by
      unfold s3
      split
      · exact iset_regs_wf w2 _ _
      · exact w2
    unfold s4
    split
    · exact iset_regs_wf (cnt_regs_wf w3 _ _) _ _
    · exact w3
  have h5 : Within [.regs] (· ∈ [aISTAT pgCOMPOSITOR, aCOMPOSITOR_DROP_CNT]) s4 s5 := .ite
      (((Within.refl ..).cnt _).iset _) (.refl ..)
  have h6 : Within [.regs] (· ∈ [aISTAT pgCOMPOSITOR]) s5 s6 := .ite ((Within.refl ..).iset _) (.refl ..)
  obtain ⟨t2, c2, d2⟩ := h2
  refine ⟨?_, ?_, ?_⟩
  · exact (h6.2 _ (by decide)).trans ((h5.2 _ (by decide)).trans ((h4.2 _ (by decide)).trans t2))
  · exact (h6.2 _ (by decide)).trans ((h5.2 _ (by decide)).trans ((h4.2 _ (by decide)).trans c2))
  · have d4 : rget s4 aCOMPOSITOR_DROP_CNT = rget s aCOMPOSITOR_DROP_CNT := (h4.2 _ (by decide)).trans d2
    refine (h6.2 _ (by decide)).trans ?_
    unfold s5
    split
    · rw [rget_iset_ne _ _ _ (by decide), rget_cnt w4, d4]
      rfl
    · exact d4

/-- A record changes the memory of its four words. -/
theorem record_mem (e : Ev) (outcome late land done : Nat) (s : State) : ∃ w1 w2 w3 : Word,
    (record e outcome late land done s).mem = (stWords (recordAt s) [e.ticket, w1, w2, w3] s).mem := by
  unfold record
  extract_lets a w1 s1 s2 s3 s4 s5 s6 _ _
  have h2 : Within [.regs] (fun _ => True) s1 s2 := (Within.refl ..).cnt _ |>.rset _
  have h3 : Within [.regs] (fun _ => True) s1 s3 := .ite (h2.iset _) h2
  have h4 : Within [.regs] (fun _ => True) s1 s4 := .ite ((h3.cnt _).iset _) h3
  have h5 : Within [.regs] (fun _ => True) s1 s5 := .ite ((h4.cnt _).iset _) h4
  have h6 : Within [.regs] (fun _ => True) s1 s6 := .ite (h5.iset _) h5
  exact ⟨_, _, _, h6.1 .mem (by decide)⟩

/-- A record leaves the Compositor but its list of completions. -/
theorem record_comp (e : Ev) (outcome late land done : Nat) (s : State) :
    (record e outcome late land done s).comp =
      { s.comp with done := (⟨e.ticket, e.e.opcode, e.e.client, outcome, done⟩ :: s.comp.done).take 4096 } := by
  unfold record
  extract_lets a w1 s1 s2 s3 s4 s5 s6 _ _
  have h1 : s1.comp = s.comp := stWords_comp ..
  have h2 : Within [.regs] (fun _ => True) s1 s2 := (Within.refl ..).cnt _ |>.rset _
  have h3 : Within [.regs] (fun _ => True) s1 s3 := .ite (h2.iset _) h2
  have h4 : Within [.regs] (fun _ => True) s1 s4 := .ite ((h3.cnt _).iset _) h3
  have h5 : Within [.regs] (fun _ => True) s1 s5 := .ite ((h4.cnt _).iset _) h4
  have h6 : Within [.regs] (fun _ => True) s1 s6 := .ite (h5.iset _) h5
  have hc : s6.comp = s.comp := (show s6.comp = s1.comp from h6.1 .comp (by decide)).trans h1
  exact congrArg (fun c : CompositorSt =>
    { c with done := ((⟨e.ticket, e.e.opcode, e.e.client, outcome, done⟩ : Done) :: c.done).take 4096 }) hc

/-- A record on the present frame completes its entry. -/
theorem completed_record (hs : spWf resetWord s.regs = true) (hm : Memory.wf s.mem) (e : Ev) (outcome late land : Nat) :
    completed e outcome s (record e outcome late land s.tb.frame s) := by
  obtain ⟨ht, hc, -⟩ := rget_record hs e outcome late land s.tb.frame
  obtain ⟨w1, w2, w3, hmem⟩ := record_mem e outcome late land s.tb.frame s
  have hb (k : Nat) : rdByte (record e outcome late land s.tb.frame s) k = rdByte
      (stWords (recordAt s) [e.ticket, w1, w2, w3] s) k := by
    rw [rdByte, hmem, rdByte]
  refine ⟨by rw [record_comp], ht, hc, ?_, fun a ha => ?_⟩
  · rw [rdWord_congr fun b _ _ => hb b]
    simp only [stWords]
    rw [rdWord_stWord_ne _ _ _
      (by omega), rdWord_stWord_ne _ _ _ (by omega), rdWord_stWord_ne _ _ _ (by omega), rdWord_stWord hm]
  · rw [hb, rdByte_stWords_ne _ _ _ ha]

@[simp] theorem mapFlight_comp (f : Ev → Ev) (s : State) : (mapFlight f s).comp = s.comp := rfl

theorem cancelDeps_of_noneWaits {t : Word} (h : noneWaits t s) (n : Nat) : cancelDeps (n + 1) t s = mapFlight
    (deadInFlight t) s := by
  have hq : (mapFlight (deadInFlight t) s).comp.queue.filter (waitsFor t) = [] := by
    rw [List.filter_eq_nil_iff]
    exact fun x hx => by simp [h x hx]
  rw [cancelDeps]
  dsimp only
  rw [hq]
  rfl

theorem releaseDeps_of_noneWaits {t : Word} (h : noneWaits t s) (c : Nat) :
    releaseDeps t c s = mapFlight (fun d => if waitsFor t d then afterDue s c d else d) s := by
  unfold releaseDeps
  extract_lets s0
  have hq : s0.comp.queue.filter (waitsFor t) = [] := by
    rw [List.filter_eq_nil_iff]
    exact fun x hx => by simp [h x hx]
  rw [hq]
  rfl

/-- With no entry waiting for it, a completion is its record, and a mark in the entries in flight. -/
theorem finish_of_noneWaits {e : Ev} (h : noneWaits e.ticket s) (outcome late land done : Nat) :
    ∃ f, finish e outcome late land done s = mapFlight f (record e outcome late land done s) := by
  have hq : noneWaits e.ticket (record e outcome late land done s) := by rwa [noneWaits, record_comp]
  unfold finish
  dsimp only
  split
  · exact ⟨_, cancelDeps_of_noneWaits hq _⟩
  · exact ⟨_, releaseDeps_of_noneWaits hq _⟩

/-! ### O18 -/

theorem awake_landEntry {e : Ev} {rest : List Ev} (h : actsNext s e rest) {op : Nat} (ho : e.e.opcode = op)
    (f : Ev → State → State) :
    awake (landEntry e.ticket op f) s = f { e with land := s.tb.frame } (popLanding s) := by
  obtain ⟨hl, hh, hd⟩ := h
  rw [awake_run _ hl, landEntry]
  simp [hh, landingHead, hd, ho]

theorem landing_popLanding {e : Ev} {rest : List Ev} (h : actsNext s e rest) : (popLanding s).comp.landing = rest := by
  rw [popLanding, h.2.2]
  rfl

theorem room_done : Room doneParts (· ∈ doneRegs) := ⟨fun _ h => h, fun _ h => h⟩

theorem page_of_doneRegs : ∀ a ∈ doneRegs, pageOf a ∈ [pgGALLEY, pgCOMPOSITOR, pgECC] := by decide

/-- What completes on the present frame with no entry waiting for it. -/
theorem completed_finishAt {e : Ev} (hs : spWf resetWord s.regs = true) (hm : Memory.wf s.mem)
    (h : noneWaits e.ticket s)
    {f : Nat} (hf : f = s.tb.frame := by rfl) :
    completed e (outcomeOf e e.land).1 s (finishAt e f s) ∧ (finishAt e f s).comp.queue = s.comp.queue ∧
      (finishAt e f s).comp.running = s.comp.running := by
  subst hf
  obtain ⟨f, hf⟩ := finish_of_noneWaits h (outcomeOf e e.land).1 (outcomeOf e e.land).2 e.land s.tb.frame
  rw [finishAt, hf]
  refine ⟨completed_record hs hm e _ _ _, ?_, ?_⟩
  · rw [mapFlight_comp, record_comp]
  · rw [mapFlight_comp, record_comp]

/-- A released MARK or CANCEL: its entry completes with the outcome of its due frame. -/
theorem completed_landing {e : Ev} {rest : List Ev} (hs : Canonical s) (h : actsNext s e rest) {op : Nat}
    (ho : e.e.opcode = op) :
    let u := awake (landEntry e.ticket op finishNow) s
    u.comp.landing = rest ∧
      (noneWaits e.ticket s → completed e (outcomeOf e s.tb.frame).1 s u ∧ KeepsBut
        [.regs, .mem, .fab, .comp, .galley] s u ∧
        u.comp.queue = s.comp.queue ∧ RegsBut [pgGALLEY, pgCOMPOSITOR, pgECC] s u) := by
  intro u
  have hu : u = finishAt { e with land := s.tb.frame } s.tb.frame (popLanding s) := awake_landEntry h ho _
  have hset : Settles doneParts (· ∈ doneRegs) (popLanding s) u := hu ▸ (Settles.refl ..).finishAt room_done _ _
  refine ⟨hset.landing.trans (landing_popLanding h), fun hn => ?_⟩
  have hpop : KeepsBut [.comp] s (popLanding s) := fun p hp => by cases p
      <;> first | exact absurd List.mem_cons_self hp | rfl
  obtain ⟨hc, hq, -⟩ := completed_finishAt (s := popLanding s) (e := { e with land := s.tb.frame }) hs.1 hs.2.1 hn
  refine ⟨hu ▸ hc, (hpop.mono (by decide)).trans (hset.within.1.mono (by decide)), hu ▸ hq, fun a ha => ?_⟩
  exact hset.within.2 a fun hm => ha (page_of_doneRegs a hm)

theorem landingHead_none {ticket : Word} {op : Nat}
    (h : ∀ e, s.comp.landing.head? = some e → e.ticket ≠ ticket ∨ e.e.opcode ≠ op) : landingHead s ticket op =
      none := by
  unfold landingHead
  split
  · rfl
  · next e l he =>
    have hne := h e (by rw [he]; rfl)
    rw [if_neg]
    exact fun ⟨h1, h2⟩ => hne.elim (· h1) (· h2)

/-- A landing command whose turn has not come changes nothing. -/
theorem landing_refused {c : Instr} {ticket : Word} {op : Nat} (h : landsAs c = some (ticket, op)) (hl : Live s)
    (hno : heldTurn s = true ∨ (∀ e, s.comp.landing.head? = some e → e.ticket ≠ ticket ∨ e.e.opcode ≠ op)) :
    exec c s = .next s := by
  have hturn : heldTurn s = true ∨ landingHead s ticket op = none := hno.imp_right landingHead_none
  have hland (f : Ev → State → State) : awake (landEntry ticket op f) s = s := by
    rw [awake_run _ hl, landEntry]
    rcases hturn with hh | hh <;> simp [hh]
  cases c with
  | pressMsg =>
    obtain ⟨rfl, rfl⟩ := Prod.mk.inj (Option.some.inj h)
    refine congrArg Host.Outcome.next ?_
    rw [awake_run _ hl, pressMsgLand, pressMsg]
    rcases hturn with hh | hh <;> simp [hh]
  | writeParam | recallForme | sluiceRoute | play | stopPlay | recordSeg | setGainZc | mark | cancel =>
    obtain ⟨rfl, rfl⟩ := Prod.mk.inj (Option.some.inj h)
    exact congrArg Host.Outcome.next (hland _)
  | _ => cases h

/-- Entries that depend on a cancelled one leave the queue, and none of them is counted as dropped. -/
theorem cancelDeps_keeps (n : Nat) : ∀ (t : Word) {s : State}, spWf resetWord s.regs = true →
    (∀ x ∈ (cancelDeps n t s).comp.queue, x ∈ s.comp.queue) ∧
      rget (cancelDeps n t s) aCOMPOSITOR_DROP_CNT = rget s aCOMPOSITOR_DROP_CNT ∧ spWf resetWord
        (cancelDeps n t s).regs = true := by
  induction n with
  | zero => exact fun t s h => ⟨fun _ hx => hx, rfl, h⟩
  | succ n ih =>
    intro t s h
    have hstep (l : List Ev) : ∀ {u : State}, spWf resetWord u.regs = true →
        let v := l.foldl (fun u d => cancelDeps n d.ticket (record d outDepCancelled 0 0 u.tb.frame
          { u with comp := { u.comp with queue := dropEv d.ticket u.comp.queue } })) u
        (∀ x ∈ v.comp.queue, x ∈ u.comp.queue) ∧ rget v aCOMPOSITOR_DROP_CNT = rget u aCOMPOSITOR_DROP_CNT ∧
          spWf resetWord v.regs = true := by
      induction l with
      | nil => exact fun hu => ⟨fun _ hx => hx, rfl, hu⟩
      | cons d l ihl =>
        intro u hu
        let u1 : State := { u with comp := { u.comp with queue := dropEv d.ticket u.comp.queue } }
        have hr : Settles doneParts (· ∈ doneRegs) u1 (record d outDepCancelled 0 0 u.tb.frame u1) :=
            (Settles.refl ..).record room_done ..
        obtain ⟨hq, hd, hw⟩ := ih d.ticket (hr.regsWf hu)
        obtain ⟨hq', hd', hw'⟩ := ihl hw
        refine ⟨fun x hx => ?_, ?_, hw'⟩
        · have hx1 := hq x (hq' x hx)
          rw [record_comp] at hx1
          exact (List.mem_filter.1 hx1).1
        · rw [List.foldl_cons, hd', hd, (rget_record (s := u1) hu ..).2.2]
          rfl
    exact hstep _ h

theorem findEv_none_iff {t : Word} {l : List Ev} : findEv t l = none ↔ ∀ x ∈ l, x.ticket ≠ t := by
  simp [findEv, List.find?_eq_none]

/-- Settles O18. -/
theorem releasedEntriesComplete : Obligations.ReleasedEntriesComplete := by
  refine ⟨fun s e rest hs h ho => ⟨_, rfl, completed_landing hs h ho⟩, fun s e rest hs h ho =>
    ⟨_, rfl, completed_landing hs h ho⟩,
    fun s e ticket hs hl hf hd => ?drop, fun s ticket hl hno => ?noDrop, fun s c ticket op hl hc hno =>
      ⟨s, landing_refused hc hl hno, rfl⟩,
    fun s ticket hl hno => ?noHeld⟩
  case drop =>
    refine ⟨_, rfl, ?_⟩
    rw [awake_run _ hl, classCDrop]
    simp only [hf, hd, if_true]
    have hte : e.ticket = ticket := by simpa using List.find?_some hf
    subst hte
    let s1 : State := { s with comp := { s.comp with queue := dropEv e.ticket s.comp.queue } }
    have hcomp : KeepsBut [.comp] s s1 := fun p hp => by cases p <;> first | exact absurd List.mem_cons_self hp | rfl
    have hset : Settles doneParts (· ∈ doneRegs) s1 (finish e outDropped 0 0 s.tb.frame s1) :=
        (Settles.refl ..).finish room_done ..
    have hrec : Settles doneParts (· ∈ doneRegs) s1 (record e outDropped 0 0 s.tb.frame s1) :=
        (Settles.refl ..).record room_done ..
    have hfin : finish e outDropped 0 0 s.tb.frame s1 = cancelDeps
        ((record e outDropped 0 0 s.tb.frame s1).comp.queue.length + 1)
        e.ticket (record e outDropped 0 0 s.tb.frame s1) := by
      rw [finish, if_pos (Or.inr (Or.inl rfl))]
    obtain ⟨hq, hdc, -⟩ := cancelDeps_keeps ((record e outDropped 0 0 s.tb.frame s1).comp.queue.length + 1) e.ticket
      (hrec.regsWf hs.1)
    refine ⟨?_, ?_, fun hn => ?_⟩
    · rw [findEv_none_iff]
      intro x hx
      rw [hfin] at hx
      have hx1 := hq x hx
      rw [record_comp] at hx1
      simpa using (List.mem_filter.1 hx1).2
    · rw [hfin, hdc, (rget_record (s := s1) hs.1 ..).2.2]
      rfl
    · have hn1 : noneWaits e.ticket s1 := fun x hx => hn x (List.mem_filter.1 hx).1
      obtain ⟨f, hf⟩ := finish_of_noneWaits hn1 outDropped 0 0 s.tb.frame
      refine ⟨?_, ?_, (hcomp.mono (by decide)).trans (hset.within.1.mono (by decide)),
        fun a ha => hset.within.2 a fun hm => ha (page_of_doneRegs a hm)⟩
      · rw [hf]
        exact completed_record (s := s1) hs.1 hs.2.1 e _ _ _
      · rw [hf, mapFlight_comp, record_comp]
  case noDrop =>
    refine ⟨_, rfl, ?_⟩
    rw [awake_run _ hl, classCDrop]
    split
    · rfl
    · next e he => rw [if_neg (by simp [hno e he])]
  case noHeld =>
    refine ⟨_, rfl, ?_⟩
    rw [awake_run _ hl, heldEntryAct]
    split
    · rfl
    · next e he => rw [if_pos (hno e he)]

/-! ### O19 -/

theorem basinWait_effect (hs : spWf resetWord s.regs = true) (e : Ev) :
    rget (basinWait e s) aBASIN_WAIT_CNT = rget s aBASIN_WAIT_CNT + 1 ∧ KeepsBut [.regs, .comp] s (basinWait e s) ∧
      RegsBut [pgBASIN] s (basinWait e s) := by
  refine ⟨?_, keepsBut_of fun _ h => h.basinWait e, fun a ha => ?_⟩
  · rw [basinWait, rget_iset_ne _ _ _ (by decide), rget_cnt (s := holdEv e s) hs]
    rfl
  · have hw : Within [.regs] (OnPages [pgBASIN]) (holdEv e s) (basinWait e s) := ((Within.refl ..).cnt _).iset _
    exact hw.2 a ha

theorem findEv_append_of_none {t : Word} {l : List Ev} {e : Ev} (h : findEv t l = none) (he : e.ticket = t) :
    findEv t (l ++ [e]) = some e ∧ dropEv t (l ++ [e]) = l := by
  rw [findEv_none_iff] at h
  constructor
  · rw [findEv, List.find?_append, List.find?_eq_none.2 fun x hx => by simpa using h x hx]
    simp [he]
  · rw [dropEv, List.filter_append, List.filter_eq_self.2 fun x hx => by simpa using h x hx]
    simp [he]

/-- An entry that acts at once and was not running completes when it stops running. -/
theorem finishRunning_own {l : List Ev} {e : Ev} {t : State} (hr : t.comp.running = l ++ [e])
    (hno : findEv e.ticket l = none)
    (d : Nat) : finishRunning e.ticket d t = finishAt e d { t with comp := { t.comp with running := l } } := by
  obtain ⟨hf, hd⟩ := findEv_append_of_none (e := e) hno rfl
  unfold finishRunning
  rw [hr, hf, hd]

/-- No register that a completion changes is a target of WRITE_PARAM. -/
theorem paramTarget_of_doneRegs : ∀ a ∈ doneRegs, paramTarget a = false := by decide

/-- The state in which a released entry has acted and still runs: `t` differs from the state at its landing by its
  act. -/
theorem finishRunning_landed {e : Ev} {rest : List Ev} (hn : actsNext s e rest) {t : State}
    (hc : t.comp = (keepRunning { e with land := s.tb.frame } (popLanding s)).comp) (htb : t.tb = s.tb)
    (hs : spWf resetWord t.regs = true) (hm : Memory.wf t.mem) :
    let u := finishRunning e.ticket s.tb.frame t
    Settles doneParts (· ∈ doneRegs) t u ∧ u.comp.landing = rest ∧
      (findEv e.ticket s.comp.running = none → noneWaits e.ticket s → u.comp.running = s.comp.running ∧
        completed e (outcomeOf e s.tb.frame).1 { t with comp := s.comp } u) := by
  intro u
  have hset : Settles doneParts (· ∈ doneRegs) t u := (Settles.refl ..).finishRunning room_done _ _
  refine ⟨hset, ?_, fun hno hw => ?_⟩
  · rw [hset.landing, hc]
    exact landing_popLanding hn
  · let e1 : Ev := { e with land := s.tb.frame }
    let t1 : State := { t with comp := { t.comp with running := s.comp.running } }
    have hr : t.comp.running = s.comp.running ++ [e1] := by rw [hc]; rfl
    have hu : u = finishAt e1 s.tb.frame t1 := finishRunning_own (e := e1) hr hno _
    have hw1 : noneWaits e1.ticket t1 := by
      have hq : t.comp.queue = s.comp.queue := by rw [hc]; rfl
      exact fun x hx => hw x (hq ▸ hx)
    have hframe : s.tb.frame = t1.tb.frame := congrArg TimebaseSt.frame htb.symm
    have hd1 : t.comp.done = s.comp.done := by rw [hc]; rfl
    obtain ⟨⟨h1, h2, h3, h4, h5⟩, -, hrun⟩ := completed_finishAt (s := t1) (e := e1) hs hm hw1 hframe
    rw [← hu] at h1 h2 h3 h4 h5 hrun
    rw [show t1.comp.done = s.comp.done from hd1] at h1
    exact ⟨hrun, h1, h2, h3, h4, h5⟩

/-- A WRITE_PARAM of one pair that acts at once. -/
theorem writeParam_single {e : Ev} {a : Nat} {v : Word} {t : State} (hp : pairsOf e.payload = [(a, v)])
    (hlock : onLockedShadow s (a, v) = false) (hland : landPair e.ticket (keepRunning e s, false) (a, v) = (t, false)) :
    writeParam e s = finishRunning e.ticket s.tb.frame t := by
  simp [writeParam, hp, hlock, hland]

/-- The rules of the pages that WRITE_PARAM may address read nothing of the Compositor. -/
theorem blockRefuse_comp (x : CompositorSt) {a : Nat} (h : pageOf a ∉ [pgDPLL, pgTIMEBASE, pgTWIN, pgECC])
    (direct : Bool) (l : Nat)
    (old new v : Word) : blockRefuse { s with comp := x } direct l a old new v = blockRefuse s direct l a old new
      v := by
  simp only [List.mem_cons, List.not_mem_nil, or_false, not_or] at h
  obtain ⟨hd, ht, hw, he⟩ := h
  unfold blockRefuse
  generalize pageOf a = p at hd ht hw he
  generalize offOf a = o
  simp only [if_neg hd, if_neg ht, if_neg hw, if_neg he]
  rfl
theorem paramTarget_page {a : Nat} (h : paramTarget a = true) (hd : (regAt a).isSome = true) : pageOf a ∉
    [pgDPLL, pgTIMEBASE, pgTWIN, pgECC] := by
  intro hm
  unfold paramTarget at h
  have hp : isPageAddr a = true := by
    obtain ⟨d, hd⟩ := Option.isSome_iff_exists.1 hd
    exact isPageAddr_of_regAt hd
  have h1 := eq_of_isPageAddr hp
  have h2 := pageOf_lt_of_isPageAddr hp
  have hlt : a < 0x1000000 := by unfold offOf at h1; omega
  rw [if_neg (show ¬ (0x1000000 ≤ a ∧ a < 0x1800000) by omega)] at h
  obtain ⟨d, hd⟩ := Option.isSome_iff_exists.1 hd
  rw [hd] at h
  simp only [] at h
  split at h
  · cases h
  simp only [Bool.or_eq_true, decide_eq_true_eq, beq_iff_eq] at h
  simp only [List.mem_cons, List.not_mem_nil, or_false] at hm
  simp only [aCTRL, pageAddr, aPLLM_RATE, aDDRC_DLY_SEL, aDDRC_DLY_COMMIT, aDDRC_DLY_ENTRY, aRECORDER_FREEZE,
    aPLAYER_CFG,
    aPLAYER_DIR_BASE, aPLAYER_DIR_COUNT, pgDPLL, pgTIMEBASE, pgTWIN, pgECC, pgSTREAMRX, pgSTREAMTX, pgBASIN, pgJET,
      pgRECORDER,
    pgPLAYER] at h hm
  unfold pageOf at *
  omega

/-- A pair that names a register whose write only stores. -/
theorem landPair_of_plain {a : Nat} {d : RegDef} (hd : regAt a = some d) (hact : actingReg (pageOf a) (offOf a) = false)
    (hoff : offOf a ∉ [0x8, 0x18, 0x1C]) {v : Word}
    (hr : blockRefuse s false 0 a (rget s a) (newWord d (pageOf a) 0 (rget s a) v) v = none) (t : Word) :
    landPair t (s, false) (a, v) = (rset a (newWord d (pageOf a) 0 (rget s a) v) s, false) := by
  have hlow : ¬ a ≥ 0x1000000 := by
    have h1 := eq_of_isPageAddr (isPageAddr_of_regAt hd)
    have h2 := pageOf_lt_of_isPageAddr (isPageAddr_of_regAt hd)
    unfold offOf at h1
    omega
  have h8 : ¬ (offOf a = 8 ∧ bit v 1 ∧ bit (rget s a) 0) := fun h => hoff (by simp [h.1])
  have hreg : regLand (some t) a v s = (rset a (newWord d (pageOf a) 0 (rget s a) v) s, false) := by
    unfold regLand
    simp only [hd, if_neg h8, hr]
    exact regAct_of_plain hact hoff
  simp only [landPair, if_neg hlow, hreg, Bool.or_false]

/-- A pair that names a word of the shadow Forme. -/
theorem landPair_of_shadow {a : Nat} {v : Word} (ha : 0x1000000 ≤ a) (ht : paramTarget a = true)
    (hside : decide (0x1400000 ≤ a) = (!s.basin.liveB)) (t : Word) : landPair t (s, false) (a, v) =
      (stWord a v s, false) := by
  have hrsv : ¬ a - formeBase (decide (0x1400000 ≤ a)) ≥ oRsv := by
    unfold paramTarget at ht
    split at ht
    · cases ht
    · split at ht
      · next hin =>
        have hlt := of_decide_eq_true ht
        by_cases hb : 0x1400000 ≤ a <;> simp [formeBase, hb] <;> omega
      · next hout =>
        have hno : isPageAddr a = false := by
          rw [Bool.eq_false_iff]
          intro hpage
          have h1 := eq_of_isPageAddr hpage
          have h2 := pageOf_lt_of_isPageAddr hpage
          unfold offOf at h1
          omega
        simp [regAt, hno] at ht
  have hne : decide (0x1400000 ≤ a) ≠ s.basin.liveB := by
    rw [hside]
    cases s.basin.liveB <;> simp
  have hf : formeParam t a v s = (stWord a v s, false) := by
    unfold formeParam
    extract_lets b o
    rw [if_neg hrsv, if_pos hne]
  simp only [landPair, if_pos (show a ≥ 0x1000000 from ha), hf, Bool.or_false]

theorem recordAt_congr {t : State} (h : rget t aGALLEY_CPROD = rget s aGALLEY_CPROD) : recordAt t = recordAt s := by
  rw [recordAt, h, recordAt]

theorem completed_of_same {e : Ev} {out : Nat} {t u : State} (h : completed e out t u) (hd : t.comp.done = s.comp.done)
    (hf : t.tb.frame = s.tb.frame) (hc : rget t aGALLEY_CPROD = rget s aGALLEY_CPROD)
      (hm : ∀ a, rdByte t a = rdByte s a) :
    completed e out s u := by
  obtain ⟨h1, h2, h3, h4, h5⟩ := h
  rw [recordAt_congr hc] at h4 h5
  rw [hd, hf] at h1
  exact ⟨h1, h2, h3.trans (by rw [hc]), h4, fun a ha => (h5 a ha).trans (hm a)⟩

/-- Settles O19. -/
theorem writeParamActsOnItsLandingFrame : Obligations.WriteParamActsOnItsLandingFrame := by
  refine ⟨fun s e rest hs h ho hlock => ?locked, fun s e rest hs h ho hps hlock => ?acts,
    fun s e rest a v d hs h ho hp hd ht hact hoff hr => ?reg, fun s e rest a v hs h ho hp ha h4 ht hside hl => ?forme⟩
  case locked =>
    refine ⟨_, rfl, ?_⟩
    rw [awake_landEntry h ho, show writeParam { e with land := s.tb.frame } (popLanding s) = basinWait _ _ from
      if_pos hlock]
    obtain ⟨hw, hk, hr⟩ := basinWait_effect (s := popLanding s) hs.1 { e with land := s.tb.frame }
    have hpop : KeepsBut [.regs, .comp] s (popLanding s) := fun p hp => by
      cases p <;> first | exact absurd (by decide) hp | rfl
    exact ⟨rfl, landing_popLanding h, rfl, hw, hpop.trans hk, hr⟩
  case acts =>
    refine ⟨_, rfl, ?_⟩
    rw [awake_landEntry h ho, ← landing_popLanding h]
    exact landing_of fun _ k => k.writeParam _
  case reg =>
    refine ⟨_, rfl, ?_⟩
    let e1 : Ev := { e with land := s.tb.frame }
    let k := keepRunning e1 (popLanding s)
    have hlow : onLockedShadow (popLanding s) (a, v) = false := by
      have h1 := eq_of_isPageAddr (isPageAddr_of_regAt hd)
      have h2 := pageOf_lt_of_isPageAddr (isPageAddr_of_regAt hd)
      unfold offOf at h1
      have : ¬ 0x1000000 ≤ a := by omega
      simp [onLockedShadow, this]
    have hrk : blockRefuse k false 0 a (rget s a) (newWord d (pageOf a) 0 (rget s a) v) v = none :=
      (blockRefuse_comp (s := s) k.comp (paramTarget_page ht (by rw [hd]; rfl)) ..).trans hr
    have hpair := landPair_of_plain (s := k) (v := v) hd hact hoff hrk e.ticket
    have hw : writeParam e1 (popLanding s) = finishRunning e.ticket s.tb.frame
        (rset a (newWord d (pageOf a) 0 (rget s a) v) k) :=
      writeParam_single (e := e1) hp hlow hpair
    rw [awake_landEntry h ho, hw]
    obtain ⟨hset, hland, hdone⟩ := finishRunning_landed h (t := rset a (newWord d (pageOf a) 0 (rget s a) v) k)
      (rset_comp k a _) (rset_tb k a _) (rset_regs_wf hs.1 _ _) hs.2.1
    have hne : ∀ b ∈ doneRegs, b ≠ a := fun b hb hba => by
      have := paramTarget_of_doneRegs b hb
      rw [hba, ht] at this
      cases this
    have hk : KeepsBut [.comp] s k := fun p hp => by cases p <;> first | exact absurd List.mem_cons_self hp | rfl
    refine ⟨?_, hland, fun hno hw => ?_⟩
    · rw [hset.within.2 a fun hm => hne a hm rfl]
      exact rget_rset_same (s := k) hs.1 _ _
    · obtain ⟨hrun, hc⟩ := hdone hno hw
      refine ⟨hrun, completed_of_same (s := s) hc rfl rfl (rget_rset_ne k _
        (hne _ (by decide))) fun _ => rfl, ?_, fun b hb hpage => ?_⟩
      · exact ((hk.mono (by decide)).trans ((within_rset (l := [.regs, .mem, .fab, .comp, .galley]) (A := fun _ => True)
          (by decide) trivial _ k).1)).trans (hset.within.1.mono (by decide))
      · rw [hset.within.2 b fun hm => hpage (page_of_doneRegs b hm)]
        exact rget_rset_ne k _ hb
  case forme =>
    refine ⟨_, rfl, ?_⟩
    let e1 : Ev := { e with land := s.tb.frame }
    let k := keepRunning e1 (popLanding s)
    have hlow : onLockedShadow (popLanding s) (a, v) = false := by simp [onLockedShadow, popLanding, hl]
    have hw : writeParam e1 (popLanding s) = finishRunning e.ticket s.tb.frame (stWord a v k) :=
      writeParam_single (e := e1) hp hlow (landPair_of_shadow (s := k) ha ht hside _)
    rw [awake_landEntry h ho, hw]
    have hstore : KeepsBut [.regs, .mem, .fab] k (stWord a v k) := keepsBut_of fun _ g => g.stWord a v
    have hcomp : (stWord a v k).comp = k.comp := hstore .comp (by decide)
    have htb : (stWord a v k).tb = k.tb := hstore .tb (by decide)
    obtain ⟨hset, hland, hdone⟩ := finishRunning_landed h (t := stWord a v k) hcomp htb
      (stWord_regs_wf (s := k) hs.1 _ _) (stWord_mem_wf (s := k) hs.2.1 _ _)
    have hk : KeepsBut [.comp] s k := fun p hp => by cases p <;> first | exact absurd List.mem_cons_self hp | rfl
    refine ⟨?_, hland, fun hno hw => ?_⟩
    · rw [rdWord_congr (s := stWord a v k) fun b hb hb' => hset.mem b fun hr => by
        simp only [inCompRing, compRing] at hr
        omega]
      exact rdWord_stWord (s := k) hs.2.1 a v
    · obtain ⟨hrun, -, h2, -, -, h5⟩ := hdone hno hw
      refine ⟨hrun, h2, ?_, fun b hb => ?_, fun b hb hrec => ?_⟩
      · exact ((hk.mono (by decide)).trans (hstore.mono (by decide))).trans (hset.within.1.mono (by decide))
      · rw [hset.within.2 b fun hm => hb (page_of_doneRegs b hm)]
        exact rget_stWord_ne a v k fun hbe => hb (by rw [hbe]; decide)
      · have hcp : rget (stWord a v k) aGALLEY_CPROD = rget s aGALLEY_CPROD := rget_stWord_ne a v k (by decide)
        have hra : recordAt { stWord a v k with comp := s.comp } = recordAt s := recordAt_congr hcp
        rw [h5 b (by rwa [hra])]
        exact rdByte_stWord_ne a v k hb

end Sys2Proof.Machine
end

section
/-!
PROOFS. The Basin: recalls, routes and gains; the writes that wait for the frame boundary.
-/

-- One declaration after another: side by side, the stacks of the threads exceed what memory the check allows.
set_option Elab.async false

namespace Sys2Proof.Machine

variable {s : State}

/-! ### Changes of the Basin's points and routes -/

/-- The parts and registers that the moves and routes of a recall may change. -/
def basinParts : List Part := .basin :: doneParts

def basinRegs : List Nat :=
  doneRegs ++ [aISTAT pgJET, aERRCAP pgJET, aERRADDR pgJET, aISTAT pgBASIN, aERRCAP pgBASIN, aERRADDR pgBASIN]

/-- The frame has room for changes of points and routes. -/
structure BasinRoom (l : List Part) (A : Nat → Prop) : Prop where
  parts : ∀ p ∈ basinParts, p ∈ l
  regs : ∀ a ∈ basinRegs, A a

theorem room_basin : BasinRoom basinParts (· ∈ basinRegs) := ⟨fun _ h => h, fun _ h => h⟩

section
variable {l : List Part} {A : Nat → Prop} {t : State}

theorem BasinRoom.done (r : BasinRoom l A) : Room l A :=
  ⟨fun p hp => r.parts p (List.mem_cons_of_mem _ hp), fun a ha => r.regs a (List.mem_append_left _ ha)⟩

theorem Settles.errcap (h : Settles l A s t) {p : Nat} (code a : Nat) (hl : .regs ∈ l) (hc : A (aERRCAP p))
    (ha : A (aERRADDR p)) :
    Settles l A s (errcap p code a t) := by
  unfold Machine.errcap
  split
  · exact h.rset _ hl hc
  · exact (h.rset _ hl hc).rset _ hl ha

variable (h : Settles l A s t) (r : BasinRoom l A)
include h r

theorem Settles.setBasin (x : BasinSt) (hb : x.liveB = t.basin.liveB := by rfl) : Settles l A s { t with basin := x } :=
  h.basin x (r.parts _ (by decide)) hb

theorem Settles.setReg {a : Nat} (v : Word) (ha : a ∈ basinRegs := by decide) : Settles l A s (Machine.rset a v t) :=
  h.rset v (r.parts _ (by decide)) (r.regs a ha)

theorem Settles.badCode (key : Nat) : Settles l A s (badCode key t) := by
  unfold Machine.badCode
  split
  · exact (h.setReg r (a := aISTAT pgJET) _).errcap _ _ (r.parts _ (by decide)) (r.regs _ (by decide))
      (r.regs _ (by decide))
  · exact (h.setReg r (a := aISTAT pgBASIN) _).errcap _ _ (r.parts _ (by decide)) (r.regs _ (by decide))
      (r.regs _ (by decide))

theorem Settles.takeMove (key : Nat) : Settles l A s (takeMove key t) := by
  have hd : Settles l A s (dropMove key t) := h.setBasin r _
  unfold Machine.takeMove
  split
  · exact h
  · dsimp only
    split
    · exact hd
    · split
      · exact hd.setBasin r _
      · exact hd.finishRunning r.done _ _

theorem Settles.recallMove (u : Word) (s0 : State) (key : Nat) : Settles l A s (recallMove u s0 key t) := by
  unfold Machine.recallMove
  dsimp only
  split
  · exact ((h.takeMove r key).setBasin r _).badCode r key
  · exact (h.takeMove r key).setBasin r _

theorem Settles.tryRecallDone (u : Word) : Settles l A s (tryRecallDone u t) := by
  unfold Machine.tryRecallDone
  split
  · exact h
  · dsimp only
    split
    · exact ((h.setBasin r _).finishRunning r.done _ _).setReg r _
    · exact h

theorem Settles.sluiceTicket (u : Word) (d : Nat) : Settles l A s (sluiceTicket u d t) := by
  unfold Machine.sluiceTicket
  split
  · exact (h.setBasin r _).tryRecallDone r u
  · exact h.finishRunning r.done _ _

theorem Settles.routeChange (o : Nat) (cur w : Word) (n : Nat) (ticket : Option Word) :
    Settles l A s (routeChange o cur w n ticket t) := by
  have hnow : Settles l A s (match ticket with | some u => Machine.sluiceTicket u t.tb.frame t | none => t) := by
    split
    · exact h.sluiceTicket r _ _
    · exact h
  unfold Machine.routeChange
  extract_lets f now
  split
  · split
    · exact hnow
    · exact h.setBasin r _
  · split
    · exact h.setBasin r _
    · split
      · exact h.setBasin r _
      · extract_lets s1
        have hs1 : Settles l A s s1 := h.setBasin r _
        split
        · exact hs1.sluiceTicket r _ _
        · exact hs1

end
/-! ### O25 -/

/-- The state in which a recall has swapped the Formes: its epoch is open and the moves have not begun. -/
def recallSwapped (e : Ev) (s : State) : State :=
  let f := s.tb.frame
  let cont := s.basin.epochs.any fun x => !x.closed && decide (f ≤ epochLast s x + 1)
  let s1 := overtake s
  let sw := setBasin { s1.basin with liveB := !s.basin.liveB } s1
  { sw with basin := { sw.basin with
    lawLatch := if cont then sw.basin.lawLatch else some (eqBuses sw)
    epochs := sw.basin.epochs ++ [⟨e.ticket, f, none, false, f⟩] } }

/-- Behind the swap a recall starts moves and routes, which settle, and its registers tell of it. -/
theorem recallLand_eq (e : Ev) (s : State) : ∃ t, Settles basinParts (· ∈ basinRegs) (recallSwapped e s) t ∧
    recallLand e s = iset pgBASIN 0 (rset aBASIN_LAND_HI (hi32 s.tb.frame) (rset aBASIN_LAND_LO (lo32 s.tb.frame)
      (cnt aBASIN_RECALL_CNT (keepRunning e t)))) := by
  refine ⟨_, ?_, rfl⟩
  refine .foldl (fun u k hu => ?_) _ (.foldl (fun u k hu => hu.recallMove room_basin ..) _ (.refl ..))
  dsimp only
  split
  · exact (hu.routeChange room_basin ..).badCode room_basin _
  · exact hu.routeChange room_basin ..

/-- What a landed recall leaves. -/
theorem recallLand_effect (hs : spWf resetWord s.regs = true) (e : Ev) :
    (recallLand e s).basin.liveB = (!s.basin.liveB) ∧ (recallLand e s).comp.held = s.comp.held ∧
      rget (recallLand e s) aBASIN_RECALL_CNT = rget s aBASIN_RECALL_CNT + 1 ∧
      rget (recallLand e s) aBASIN_LAND_LO = lo32 s.tb.frame ∧ rget (recallLand e s) aBASIN_LAND_HI = hi32 s.tb.frame ∧
      rbit (recallLand e s) (aISTAT pgBASIN) 0 = true ∧ ∀ a, ¬ inCompRing a → rdByte (recallLand e s) a = rdByte s
        a := by
  obtain ⟨t, ht, heq⟩ := recallLand_eq e s
  have w0 : spWf resetWord (keepRunning e t).regs = true := ht.regsWf hs
  have w1 := cnt_regs_wf w0 aBASIN_RECALL_CNT 1
  have w2 := rset_regs_wf w1 aBASIN_LAND_LO (lo32 s.tb.frame)
  have w3 := rset_regs_wf w2 aBASIN_LAND_HI (hi32 s.tb.frame)
  rw [heq]
  refine ⟨ht.liveB, ht.held, ?_, ?_, ?_, rbit_iset w3 _ (by decide), ht.mem⟩
  · rw [rget_iset_ne _ _ _ (by decide), rget_rset_ne _ _ (by decide), rget_rset_ne _ _ (by decide), rget_cnt w0]
    exact congrArg (· + 1) (ht.within.2 _ (by decide))
  · rw [rget_iset_ne _ _ _ (by decide), rget_rset_ne _ _ (by decide), rget_rset_same w1]
  · rw [rget_iset_ne _ _ _ (by decide), rget_rset_same w2]

theorem heldEntryAct_first {e : Ev} (hl : Live s) (hf : heldFirst s = some e) (hw : waitFirst s (some e) = none) :
    awake (heldEntryAct e.ticket) s =
      let e' := { e with land := s.tb.frame }
      let s1 := { s with comp := { s.comp with held := dropEv e.ticket s.comp.held } }
      if e.e.opcode = opRecall then recallLand e' s1 else writeParam e' s1 := by
  rw [awake_run _ hl, heldEntryAct]
  simp [hf, hw]

/-- The first held entry is one that is ready. -/
theorem heldReady_of_first {e : Ev} (h : heldFirst s = some e) : heldReady s e = true := by
  have hmem (l : List Ev) : ∀ a : Option Ev, (∀ x ∈ a, heldReady s x = true) → (∀ x ∈ l, heldReady s x = true) →
      ∀ x ∈ l.foldl (fun a e => match a with
        | some x => if ticketBefore e.ticket x.ticket then some e else some x
        | none => some e) a, heldReady s x = true := by
    induction l with
    | nil => exact fun a ha _ => ha
    | cons y l ih =>
      intro a ha hl
      refine ih _ ?_ fun x hx => hl x (List.mem_cons_of_mem _ hx)
      cases a with
      | none => exact fun x hx => Option.some.inj hx ▸ hl y List.mem_cons_self
      | some z =>
        dsimp only
        split
        · exact fun x hx => Option.some.inj hx ▸ hl y List.mem_cons_self
        · exact ha
  exact hmem _ none (fun _ hx => nomatch hx) (fun x hx => (List.mem_filter.1 hx).2) e h

/-- Settles O25. -/
theorem recallSwapsTheFormes : Obligations.RecallSwapsTheFormes := by
  refine ⟨fun s e rest hs h ho hopen => ?swap, fun s e rest hs h ho hopen => ?wait, fun s e hs hl hf hw ho => ?held,
    fun s e a v hs hl hf hw ho hp ha ht hside => ?pair⟩
  case swap =>
    refine ⟨_, rfl, ?_⟩
    have hr : recallForme { e with land := s.tb.frame } (popLanding s) = recallLand _ _ := if_neg (Nat.not_le.2 hopen)
    obtain ⟨h1, -, h3, h4, h5, h6, h7⟩ := recallLand_effect (s := popLanding s) hs.1 { e with land := s.tb.frame }
    rw [awake_landEntry h ho, hr]
    refine ⟨h1, ?_, h3, h4, h5, h6, fun a ha => h7 a fun hc => ?_⟩
    · rw [← landing_popLanding h]
      exact landing_of fun _ k => k.recallLand _
    · simp only [inCompRing, compRing] at hc
      omega
  case wait =>
    refine ⟨_, rfl, ?_⟩
    have hr : recallForme { e with land := s.tb.frame } (popLanding s) = basinWait _ _ := if_pos hopen
    obtain ⟨hw, hk, hb⟩ := basinWait_effect (s := popLanding s) hs.1 { e with land := s.tb.frame }
    have hpop : KeepsBut [.regs, .comp] s (popLanding s) := fun p hp => by
      cases p <;> first | exact absurd (by decide) hp | rfl
    rw [awake_landEntry h ho, hr]
    exact ⟨landing_popLanding h, rfl, hw, hpop.trans hk, hb⟩
  case held =>
    refine ⟨_, rfl, ?_⟩
    rw [heldEntryAct_first hl hf hw]
    dsimp only
    rw [if_pos ho]
    obtain ⟨h1, h2, h3, -⟩ := recallLand_effect (s := { s with comp :=
      { s.comp with held := dropEv e.ticket s.comp.held } }) hs.1
      { e with land := s.tb.frame }
    exact ⟨h1, h2, h3⟩
  case pair =>
    refine ⟨_, rfl, ?_⟩
    let e1 : Ev := { e with land := s.tb.frame }
    let s1 : State := { s with comp := { s.comp with held := dropEv e.ticket s.comp.held } }
    have hlock : s.basin.lock = false := by simpa [heldReady, ho] using heldReady_of_first hf
    have hw1 : writeParam e1 s1 = finishRunning e.ticket s.tb.frame (stWord a v (keepRunning e1 s1)) :=
      writeParam_single (e := e1) hp (by simp [onLockedShadow, s1, hlock])
        (landPair_of_shadow (s := keepRunning e1 s1) ha ht hside _)
    rw [heldEntryAct_first hl hf hw]
    dsimp only
    rw [if_neg (by rw [ho]; decide), show writeParam { e with land := s.tb.frame } _ = _ from hw1]
    have hset : Settles doneParts (· ∈ doneRegs) (stWord a v (keepRunning e1 s1)) (finishRunning e.ticket s.tb.frame
      (stWord a v (keepRunning e1 s1))) := (Settles.refl ..).finishRunning room_done _ _
    have hcomp : (stWord a v (keepRunning e1 s1)).comp = (keepRunning e1 s1).comp :=
      keepsBut_of (l := [.regs, .mem, .fab]) (fun _ g => g.stWord a v) .comp (by decide)
    refine ⟨?_, ?_⟩
    · rw [rdWord_congr (s := stWord a v (keepRunning e1 s1)) fun b hb hb' => hset.mem b fun hr => by
        simp only [inCompRing, compRing] at hr
        omega]
      exact rdWord_stWord (s := keepRunning e1 s1) hs.2.1 a v
    · rw [hset.held, hcomp]
      rfl

/-! ### O26 -/

theorem finishRunning_basin (t : Word) (d : Nat) (s : State) : (finishRunning t d s).basin = s.basin :=
  keepsBut_of (l := doneParts) (fun _ h => h.finishRunning t d) .basin (by decide)

theorem tryRecallDone_sluices (t : Word) (s : State) : (tryRecallDone t s).basin.sluices = s.basin.sluices := by
  unfold tryRecallDone
  split
  · rfl
  · dsimp only
    split
    · rw [iset, rset_basin, finishRunning_basin]
    · rfl

/-- A route that ends tells its entry, and leaves the routes. -/
theorem sluiceTicket_sluices (t : Word) (d : Nat) (s : State) : (sluiceTicket t d s).basin.sluices =
    s.basin.sluices := by
  unfold sluiceTicket
  split
  · exact tryRecallDone_sluices ..
  · exact congrArg BasinSt.sluices (finishRunning_basin ..)

theorem setSluice_mem {x y : Sluice} (hy : y ∈ s.basin.sluices) (ho : y.o = x.o) : x ∈ (setSluice x s).basin.sluices :=
  List.mem_map.2 ⟨y, hy, if_pos ho⟩

/-- Where no Sluice runs on the output, one starts if the route differs and the output is in range. -/
theorem routeChange_none {o : Nat} (h : s.basin.sluices.find? (fun x => x.o == o) = none) (cur w : Word) (n : Nat)
    (t : Word) :
    (routeChange o cur w n (some t) s).basin.sluices =
      if routeEq cur w = false ∧ o < limOut s then
        s.basin.sluices ++ [⟨o, cur, w, bit w 27, ⟨0, 1⟩, n, s.tb.frame, [t], none⟩]
      else s.basin.sluices := by
  unfold routeChange
  simp only [h]
  by_cases hc : routeEq cur w = false ∧ o < limOut s
  · rw [if_pos hc, if_neg (by simp [hc.1, hc.2])]
    rfl
  · rw [if_neg hc, if_pos (by
      rw [not_and_or, Bool.not_eq_false, Nat.not_lt] at hc
      exact hc)]
    exact sluiceTicket_sluices ..

/-- Where one runs, the entry joins it, reverses it or waits behind it. -/
theorem routeChange_some {o : Nat} {x : Sluice} (h : s.basin.sluices.find? (fun x => x.o == o) = some x)
    (cur w : Word) (n : Nat)
    (t : Word) :
    if routeEq w x.new = true then { x with tickets := x.tickets ++ [t] } ∈
      (routeChange o cur w n (some t) s).basin.sluices
    else if routeEq w x.old = true then
      ∃ y ∈ (routeChange o cur w n (some t) s).basin.sluices, y.o = o ∧ y.old = x.new ∧ y.new = w ∧ y.start =
        s.tb.frame ∧
        y.tickets = x.tickets ++ [t]
    else { x with queued := some ⟨w, n, some t⟩ } ∈ (routeChange o cur w n (some t) s).basin.sluices := by
  have hx : x ∈ s.basin.sluices := List.mem_of_find?_eq_some h
  have ho : x.o = o := by simpa using List.find?_some h
  unfold routeChange
  simp only [h]
  split
  · exact setSluice_mem hx rfl
  · split
    · exact ⟨_, setSluice_mem hx rfl, ho, rfl, rfl, rfl, rfl⟩
    · split
      · rw [sluiceTicket_sluices]
        exact setSluice_mem hx rfl
      · exact setSluice_mem hx rfl

theorem stWord_basin (a : Nat) (v : Word) (s : State) : (stWord a v s).basin = s.basin :=
  keepsBut_of (l := [.regs, .mem, .fab]) (fun _ h => h.stWord a v) .basin (by decide)

theorem formeBase_ge (b : Bool) : 0x1000000 ≤ formeBase b := by cases b <;> decide

theorem not_inCompRing {a : Nat} (h : 0x1000000 ≤ a) : ¬ inCompRing a := fun hc => by
  simp only [inCompRing, compRing] at hc
  omega

/-- A word of the live Forme, behind an operation that settles. -/
theorem Settles.liveWord {l : List Part} {A : Nat → Prop} {t : State} (h : Settles l A s t) (o : Nat) : liveWord t o
    = liveWord s o := by
  unfold Machine.liveWord liveBase
  rw [h.liveB]
  have := formeBase_ge s.basin.liveB
  exact rdWord_congr fun b hb _ => h.mem b (not_inCompRing (by omega))

/-- A released SLUICE_ROUTE stores its route in the live router word and changes the output's route. -/
theorem sluiceRoute_lands {e : Ev} {w4 w5 : Word} {more : List Word} (hm : Memory.wf s.mem)
    (hp : e.payload = w4 :: w5 :: more) :
    let o := bits w4 9 0
    let n := (rampLen (bits w4 29 24)).getD 64
    let u := sluiceRoute e s
    routeWord u o = w5 ∧
      (match s.basin.sluices.find? (fun x => x.o == o) with
       | none =>
         if routeEq (routeWord s o) w5 = false ∧ o < limOut s then
           u.basin.sluices = s.basin.sluices ++ [⟨o, routeWord s o, w5, bit w5 27, ⟨0, 1⟩, n, s.tb.frame, [e.ticket],
             none⟩]
         else u.basin.sluices = s.basin.sluices
       | some x =>
         if routeEq w5 x.new = true then { x with tickets := x.tickets ++ [e.ticket] } ∈ u.basin.sluices
         else if routeEq w5 x.old = true then
           ∃ y ∈ u.basin.sluices, y.o = o ∧ y.old = x.new ∧ y.new = w5 ∧ y.start = s.tb.frame ∧ y.tickets = x.tickets
             ++ [e.ticket]
         else { x with queued := some ⟨w5, n, some e.ticket⟩ } ∈ u.basin.sluices) := by
  intro o n u
  let a := liveBase s + oRouter + 8 * o
  let t := stWord a w5 (keepRunning e s)
  have hu : u = routeChange o (routeWord s o) w5 n (some e.ticket) t := by
    unfold u sluiceRoute
    rw [hp]
  have hkeep : KeepsBut [.regs, .mem, .fab] (keepRunning e s) t := keepsBut_of fun _ h => h.stWord a w5
  have hbasin : t.basin = s.basin := hkeep .basin (by decide)
  have hframe : t.tb.frame = s.tb.frame := congrArg TimebaseSt.frame (hkeep .tb (by decide))
  have hlim : limOut t = limOut s := by rw [limOut, show t.clk = s.clk from hkeep .clk (by decide), limOut]
  have hset : Settles basinParts (· ∈ basinRegs) t u := hu ▸ (Settles.refl ..).routeChange room_basin ..
  refine ⟨?_, ?_⟩
  · rw [routeWord, hset.liveWord, Machine.liveWord, liveBase, hbasin]
    have ha : formeBase s.basin.liveB + (oRouter + 8 * o) = a := (Nat.add_assoc ..).symm
    rw [ha]
    exact rdWord_stWord (s := keepRunning e s) hm a w5
  · rw [← hbasin]
    split
    · next hf =>
      have := routeChange_none hf (routeWord s o) w5 n e.ticket
      rw [← hu, hlim, hframe] at this
      rw [this]
      split <;> rfl
    · next x hf =>
      have := routeChange_some hf (routeWord s o) w5 n e.ticket
      rwa [← hu, hframe] at this

theorem gainOf_masked (old w : Word) : gainOf (maskWord 0x00FFFFFF#32 old w) = gainOf w := by
  have hb : (maskWord 0x00FFFFFF#32 old w).extractLsb' 0 24 = w.extractLsb' 0 24 := by
    ext i hi
    have hm : (0x00FFFFFF#32).getLsbD i = true := by
      rw [show (0x00FFFFFF#32) = BitVec.ofNat 32 (2 ^ 24 - 1) from rfl, BitVec.getLsbD_ofNat,
        Nat.testBit_two_pow_sub_one]
      simp
      omega
    simp only [maskWord, BitVec.getElem_extractLsb', BitVec.getLsbD_or, BitVec.getLsbD_and, BitVec.getLsbD_not,
      Nat.zero_add, hm,
      Bool.not_true, Bool.and_false, Bool.and_true, Bool.false_or]
  have h : (maskWord 0x00FFFFFF#32 old w).toNat % 2 ^ 24 = w.toNat % 2 ^ 24 := by
    simpa [BitVec.extractLsb'_toNat] using congrArg BitVec.toNat hb
  rw [gainOf, gainOf, sgn, sgn, h]

/-- A key of SET_GAIN_ZC lies in the Formes or in the Jet's gain table. -/
theorem zcKey_lt {w4 : Word} {k : Nat} (h : zcKey w4 = some k) : k < kJet ∨ (kJet ≤ k ∧ (k - kJet) / 4 < 64) := by
  unfold zcKey at h
  dsimp only at h
  split at h
  all_goals first
    | cases h
    | (split at h
       · have := Option.some.inj h
         simp only [oStage2, oRouter, kJet] at *
         omega
       · cases h)

theorem takeMove_moves (key : Nat) (s : State) : (takeMove key s).basin.moves = s.basin.moves.filter
    (fun m => m.key != key) := by
  unfold takeMove
  split
  · next h =>
    rw [findMove, List.find?_eq_none] at h
    exact (List.filter_eq_self.2 fun m hm => by simpa using h m hm).symm
  · dsimp only
    split
    · rfl
    · split
      · rfl
      · rw [finishRunning_basin]
        rfl

/-- The change of a point finds a slot, or holds one: the test of `pointChange`. -/
def findsSlot (s : State) (key : Nat) : Prop :=
  (findMove s key).any (fun m => m.slot && moveBusy m s.tb.frame) = true ∨
    (slotsBusy s < maxSlots ∧ s.basin.waits.isEmpty = true)

theorem findsSlot_iff (key : Nat) : findsSlot s key ↔
    (∃ m, findMove s key = some m ∧ m.slot = true ∧ moveBusy m s.tb.frame = true) ∨
      (slotsBusy s < maxSlots ∧ s.basin.waits = []) := by
  unfold findsSlot
  rw [List.isEmpty_iff]
  refine or_congr ?_ Iff.rfl
  cases findMove s key <;> simp

/-- A word behind a key, once it is stored. -/
theorem keyWord_setKeyWord (hs : spWf resetWord s.regs = true) (hm : Memory.wf s.mem) (key : Nat) (w : Word) :
    keyWord (setKeyWord key w s) key = w := by
  unfold keyWord setKeyWord
  split
  · exact rget_rset_same hs _ _
  · simp only [Machine.liveWord, liveBase, stWord_basin]
    exact rdWord_stWord hm _ _

/-- Operations that settle leave the words behind the keys of SET_GAIN_ZC. -/
theorem Settles.keyWord {l : List Part} {A : Nat → Prop} {t : State} (h : Settles l A s t) {key : Nat}
    (hk : key < kJet ∨ (kJet ≤ key ∧ (key - kJet) / 4 < 64)) (hA : ∀ i, i < 64 → ¬ A (aJET_JGAIN i)) :
    keyWord t key = keyWord s key := by
  unfold Machine.keyWord
  rcases hk with hk | ⟨hk, hi⟩
  · rw [if_neg (Nat.not_le.2 hk), if_neg (Nat.not_le.2 hk), h.liveWord]
  · rw [if_pos hk, if_pos hk, h.within.2 _ (hA _ hi)]

/-- The registers that changes of points and routes touch hold no gain of the Jet. -/
theorem jgain_not_mem : ∀ i, i < 64 → aJET_JGAIN i ∉ aBASIN_SLOT_PEAK :: basinRegs := by decide

/-- A change of a point in use that finds a slot. -/
theorem startChange_effect (hs : spWf resetWord s.regs = true) (hm : Memory.wf s.mem) {key : Nat} (w0 : Word)
    (ms : Nat) (t : Word)
    (hk : key < kJet ∨ (kJet ≤ key ∧ (key - kJet) / 4 < 64)) :
    let u := startChange key w0 (some ms) (some t) s
    let w := maskWord 0x00FFFFFF#32 (keyWord s key) w0
    keyWord u key = w ∧ ∃ m, findMove u key = some m ∧ m.disc = .zeroCross (framesOfMs s ms) ∧ m.t = gainOf w ∧
      m.slot = true ∧
      m.land = s.tb.frame ∧ m.ticket = some t := by
  intro u w
  let s1 := setKeyWord key w (takeMove key s)
  let m : Move := { (newMove key w (some ms) s).1 with ticket := some t }
  let s2 : State := { s1 with basin := { s1.basin with
    moves := s1.basin.moves ++ [m], ueWords := s1.basin.ueWords.filter fun x => x.1 != key } }
  have hu : u = peak aBASIN_SLOT_PEAK (slotsBusy s2) s2 := rfl
  have htake : Settles basinParts (· ∈ basinRegs) s (takeMove key s) := (Settles.refl ..).takeMove room_basin key
  have hroom : BasinRoom basinParts (· ∈ aBASIN_SLOT_PEAK :: basinRegs) :=
      ⟨fun _ h => h, fun _ h => List.mem_cons_of_mem _ h⟩
  have hs2 : Settles basinParts (· ∈ aBASIN_SLOT_PEAK :: basinRegs) s1 s2 := (Settles.refl ..).setBasin hroom _
  have hset : Settles basinParts (· ∈ aBASIN_SLOT_PEAK :: basinRegs) s1 u := by
    rw [hu, peak]
    exact (hs2.rset _ (by decide) List.mem_cons_self).ite hs2
  refine ⟨?_, m, ?_, rfl, rfl, rfl, rfl, rfl⟩
  · rw [hset.keyWord hk jgain_not_mem]
    exact keyWord_setKeyWord (htake.regsWf hs) (htake.memWf hm) key w
  · have hb : u.basin.moves = (takeMove key s).basin.moves ++ [m] := by
      have h1 : s1.basin = (takeMove key s).basin := by
        unfold s1 setKeyWord
        split
        · rfl
        · exact stWord_basin ..
      have h2 : u.basin = s2.basin := by
        rw [hu, peak]
        split <;> rfl
      rw [h2]
      exact congrArg (fun b : BasinSt => b.moves ++ [m]) h1
    rw [findMove, hb, takeMove_moves, List.find?_append, List.find?_eq_none.2 fun x hx =>
      by simpa using (List.mem_filter.1 hx).2]
    simp [m, newMove]

/-- A timed change of a point without effect at this rate takes its value alone. -/
theorem pointChange_unused (hs : spWf resetWord s.regs = true) (hm : Memory.wf s.mem) {key : Nat}
    (hu : keyInUse s key = false)
    (hk : key < kJet ∨ (kJet ≤ key ∧ (key - kJet) / 4 < 64)) (w : Word) (ms : Nat) (t : Word) :
    keyWord (pointChange (some t) key w (some ms) s).1 key = maskWord 0x00FFFFFF#32 (keyWord s key) w := by
  let s1 := setKeyWord key (maskWord 0x00FFFFFF#32 (keyWord s key) w) (takeMove key s)
  have heq : (pointChange (some t) key w (some ms) s).1 = finishRunning t s.tb.frame s1 := by
    unfold pointChange
    simp [hu, s1, changedWord]
  have htake : Settles basinParts (· ∈ basinRegs) s (takeMove key s) := (Settles.refl ..).takeMove room_basin key
  have hset : Settles basinParts (· ∈ basinRegs) s1 (finishRunning t s.tb.frame s1) :=
      (Settles.refl ..).finishRunning room_basin.done _ _
  rw [heq, hset.keyWord hk fun i hi hmem => jgain_not_mem i hi (List.mem_cons_of_mem _ hmem)]
  exact keyWord_setKeyWord (htake.regsWf hs) (htake.memWf hm) key _

/-- A timed change of a point in use starts, or waits. -/
theorem pointChange_used {key : Nat} (hu : keyInUse s key = true) (w : Word) (ms : Nat) (t : Word) :
    (findsSlot s key → (pointChange (some t) key w (some ms) s).1 = startChange key w (some ms) (some t) s) ∧
      (¬ findsSlot s key → (pointChange (some t) key w (some ms) s).1 = iset pgBASIN 2 (cnt aBASIN_WAIT_CNT
        { s with basin := { s.basin with waits := s.basin.waits ++ [⟨some t, key, w, some ms⟩] } })) := by
  unfold pointChange
  extract_lets own holds
  have hh : holds = (findMove s key).any (fun m => m.slot && moveBusy m s.tb.frame) := by
    unfold holds
    cases findMove s key <;> rfl
  rw [hh, if_neg (by simp [hu])]
  unfold findsSlot
  exact ⟨fun hf => by rw [if_pos hf]; rfl, fun hf => by rw [if_neg hf]⟩

/-- A timed change that finds no slot waits and counts. -/
theorem pointChange_waits (hs : spWf resetWord s.regs = true) {key : Nat} (hu : keyInUse s key = true)
    (hf : ¬ findsSlot s key)
    (w : Word) (ms : Nat) (t : Word) :
    let u := (pointChange (some t) key w (some ms) s).1
    u.basin.waits = s.basin.waits ++ [⟨some t, key, w, some ms⟩] ∧ rget u aBASIN_WAIT_CNT = rget s aBASIN_WAIT_CNT + 1 ∧
      u.mem = s.mem := by
  intro u
  let s1 : State := { s with basin := { s.basin with waits := s.basin.waits ++ [⟨some t, key, w, some ms⟩] } }
  have heq : u = iset pgBASIN 2 (cnt aBASIN_WAIT_CNT s1) := (pointChange_used hu w ms t).2 hf
  rw [heq]
  refine ⟨rfl, ?_, rfl⟩
  rw [rget_iset_ne _ _ _ (by decide), rget_cnt (s := s1) hs]
  rfl

/-- Settles O26. -/
theorem routesAndGainsLand : Obligations.RoutesAndGainsLand := by
  refine ⟨fun s e rest w4 w5 more hs h ho hp => ?route, fun s e rest w4 w5 more k hs h ho hp hk => ?gain⟩
  case route =>
    refine ⟨_, rfl, ?_⟩
    rw [awake_landEntry h ho]
    obtain ⟨h1, h2⟩ := sluiceRoute_lands (s := popLanding s) (e := { e with land := s.tb.frame }) hs.2.1 hp
    refine ⟨h1, ?_, h2⟩
    rw [← landing_popLanding h]
    exact landing_of fun _ g => g.sluiceRoute _
  case gain =>
    refine ⟨_, rfl, ?_⟩
    rw [awake_landEntry h ho]
    let e1 : Ev := { e with land := s.tb.frame }
    let k1 := keepRunning e1 (popLanding s)
    have hg : setGainZc e1 (popLanding s) = (pointChange (some e.ticket) k w5 (some (bits w5 31 24)) k1).1 := by
      unfold setGainZc
      rw [show e1.payload = w4 :: w5 :: more from hp]
      simp only [hk]
      rfl
    have hcases := zcKey_lt hk
    refine ⟨?_, ?_⟩
    · rw [← landing_popLanding h]
      exact landing_of fun _ g => g.setGainZc _
    rw [show setGainZc { e with land := s.tb.frame } (popLanding s) = _ from hg]
    refine ⟨fun hor => ?_, fun hu hf => ?_, fun hu hf => ?_⟩
    · cases hu : keyInUse s k with
      | false => exact pointChange_unused (s := k1) hs.1 hs.2.1 hu hcases _ _ _
      | true =>
        have hf : findsSlot k1 k := (findsSlot_iff (s := k1) k).2 (hor.resolve_right (by simp [hu]))
        rw [(pointChange_used (s := k1) hu ..).1 hf]
        exact (startChange_effect (s := k1) hs.1 hs.2.1 w5 _ _ hcases).1
    · rw [(pointChange_used (s := k1) hu ..).1 ((findsSlot_iff (s := k1) k).2 hf)]
      obtain ⟨m, h1, h2, h3, h4, h5, h6⟩ := (startChange_effect (s := k1) hs.1 hs.2.1 w5 (bits w5 31 24) e.ticket
        hcases).2
      exact ⟨m, h1, h2, h3.trans (gainOf_masked _ _), h4, h5, h6⟩
    · exact pointChange_waits (s := k1) hs.1 hu (fun hf' => hf ((findsSlot_iff (s := k1) k).1 hf')) _ _ _

/-! ### O24: writes that wait for the frame boundary -/

/-- Every part but the waiting writes and the queue. -/
abbrev notWaiting : List Part :=
  [.now, .freeCtr, .regs, .frozen, .latches, .srst, .mem, .cist, .host, .boot, .tb, .comp, .galley, .basin, .ports,
    .net, .twin,
    .arb, .clk, .dpll, .ptp, .cistern, .press, .fab, .sense, .shedMeas, .shedImp, .shed, .shedT]

theorem landNext_of {t : State} (h : ∀ {pl : List Part}, notWaiting ⊆ pl → Keeps pl s s → Keeps pl s t) :
    t.landNext = s.landNext :=
  keepsBut_of (l := notWaiting) h .landNext (by decide)

/-- The writes that wait behind a frame boundary are those of running port groups. -/
theorem landNext_landWaiting (s : State) : (landWaiting none s).landNext = s.landNext.filter fun x => !landsAt none s
    x := by
  let s1 : State := { s with landNext := s.landNext.filter fun x => !landsAt none s x }
  exact (landNext_of fun _ h => h.foldl (fun _ _ h0 => h0.regLand ..) :
    ((s.landNext.filter (landsAt none s)).foldl (fun s x => (regLand none x.1 x.2 s).1) s1).landNext = s1.landNext)

theorem isSome_of_landsAt {x : Nat × Word} (h : landsAt none s x = false) : (pageGroup (pageOf x.1)).isSome = true := by
  unfold landsAt at h
  cases hg : pageGroup (pageOf x.1) with
  | none => simp [hg] at h
  | some g => rfl

theorem landNext_startFrame (f : Nat) (s : State) : ∀ y ∈ (startFrame f s).landNext,
    y ∈ s.landNext ∧ (pageGroup (pageOf y.1)).isSome = true := by
  unfold startFrame
  extract_lets gap _ s1 s2 s3
  have h1 : (applyDlyCommits (applyCommits (stageFlows (moveReadPos (netDrain s1))))).landNext = s.landNext :=
    (landNext_of fun _ h => h.netDrain.moveReadPos.stageFlows.applyCommits.applyDlyCommits).trans
      (landNext_of (s := setTb { s.tb with frame := f, ticking := true } s) fun _ h => h.finishRestart f)
  have h2 : s2.landNext = (landWaiting none (applyDlyCommits
      (applyCommits (stageFlows (moveReadPos (netDrain s1)))))).landNext :=
    landNext_of fun _ h => (h.axisTick _).alignTick
  have h3 : s3.landNext = s2.landNext := landNext_of fun _ h => (h.twinTick f).countFrame f
  have h4 (u : State) : (releaseAndSelect u).landNext = u.landNext := by
    unfold releaseAndSelect
    extract_lets _ s1
    split
    · rfl
    · exact (landNext_of fun _ h => h.selectNow : (selectNow s1).landNext = s1.landNext)
  intro y hy
  rw [h4] at hy
  have hy2 : y ∈ s3.landNext := by
    split at hy
    · rwa [(landNext_of fun _ h => h.selectGap : (selectGap s3).landNext = s3.landNext)] at hy
    · exact hy
  rw [h3, h2, landNext_landWaiting, h1] at hy2
  obtain ⟨hm, hl⟩ := List.mem_filter.1 hy2
  exact ⟨hm, isSome_of_landsAt (by simpa using hl)⟩

/-- A frame tick that starts a frame lands every waiting write but those of running port groups. -/
theorem landNext_frameTick (t : Nat) (x : FrameIn) (hl : tickLive s = true) (hg : s.clk.coreGated = false) :
    ∀ y ∈ (preloadRun (frameTick t x s)).landNext, y ∈ s.landNext ∧ (pageGroup (pageOf y.1)).isSome = true := by
  have hp (u : State) : (preloadRun u).landNext = u.landNext := landNext_of fun _ h => h.preloadRun
  have hadv : (advance t s).landNext = s.landNext := landNext_of fun _ h => h.advance t
  intro y hy
  rw [hp] at hy
  unfold frameTick at hy
  extract_lets s0 s1 at hy
  have hlive : tickLive s0 = true := (tickLive_advance t s).trans hl
  have hgate : ¬ s0.clk.coreGated = true := by rw [show s0.clk = s.clk from advance_clk t s, hg]; decide
  rw [if_neg (by simp [hlive]), if_neg hgate] at hy
  obtain ⟨hm, hs⟩ := landNext_startFrame _ _ y hy
  refine ⟨?_, hs⟩
  have h1 : (endFrame s1.tb.frame x s1).landNext = s0.landNext :=
    (landNext_of fun _ h => h.endFrame _ _).trans (landNext_of fun _ h => h.ownSelection)
  rwa [h1, hadv] at hm

/-! ### Jet paths -/

theorem jetPath_addr (p : Fin 64) : pageOf (aJET_PATH p) = pgJET ∧ offOf (aJET_PATH p) = 0x100 + 4 * p.val ∧
    busAddr (aJET_PATH p) = aJET_PATH p := by
  revert p
  decide

/-- On a SOLO device the write of a Jet path waits for the frame boundary. -/
theorem landPage_jetPath (p : Fin 64) (h : isSolo s = true) (l : Nat) (old new v : Word) :
    landPage l (aJET_PATH p) old new v s = { s with landNext := alSet s.landNext (aJET_PATH p) new } := by
  obtain ⟨hpage, hoff, -⟩ := jetPath_addr p
  have hp := p.isLt
  have hne : ∀ b, pageOf b ≠ pgJET → aJET_PATH p ≠ b := fun b hb hab => hb (hab ▸ hpage)
  unfold landPage
  rw [hpage, hoff, if_neg (hne _ (by decide)), if_neg (hne _ (by decide)), if_neg fun hc => hne _ (by decide) hc.2]
  dsimp only
  rw [if_pos ⟨h, by simp [soloLater]; omega⟩, if_neg fun hc => absurd hc.1 (by decide)]

theorem heldJetPath (hs : Canonical s) (p : Fin 64) (w : HW) (d : RegDef) (h : Accepted s (aJET_PATH p) w)
    (hsolo : isSolo s = true)
    (hd : regAt (aJET_PATH p) = some d) :
    let t := writeAt (aJET_PATH p) w s
    rget t (aJET_PATH p) = rget s (aJET_PATH p) ∧
      heldReg t (aJET_PATH p) = newWord d pgJET w.lvl.val (heldReg s (aJET_PATH p)) w.v ∧ lastStatus t = 0 ∧
      KeepsBut [.regs, .landNext] s t ∧ RegsOnly [aHOSTIF_LASTERR, aHOSTIF_LASTADDR] s t := by
  intro t
  obtain ⟨hpage, hoff, hbus⟩ := jetPath_addr p
  have hp := p.isLt
  have hne : ∀ b, pageOf b ≠ pgJET → aJET_PATH p ≠ b := fun b hb hab => hb (hab ▸ hpage)
  let new := newWord d pgJET w.lvl.val (heldReg s (aJET_PATH p)) w.v
  let s1 : State := { s with landNext := alSet s.landNext (aJET_PATH p) new }
  have ht : t = endAccess 0 w.lvl true (aJET_PATH p) s1 := by
    unfold t writeAt
    rw [hostWrite_accepted h hd hbus (hne _ (by decide)) (fun hc => by omega), landPage_jetPath p hsolo, hpage]
  have hend := within_endAccess (status := 0) (l := w.lvl) (a := aJET_PATH p) (s := s1) true
  have hland : t.landNext = s1.landNext := ht ▸ hend.1 .landNext (by decide)
  have hreg : rget t (aJET_PATH p) = rget s (aJET_PATH p) := by
    rw [ht, rget_endAccess_ok _ (hne _ (by decide)) (hne _ (by decide))]
    rfl
  refine ⟨hreg, ?_, ht ▸ lastStatus_endAccess (s := s1) hs.1 (by decide), ?_, fun a ha => ?_⟩
  · rw [heldReg, hland]
    exact alGet_alSet_same _ _ _ _
  · have h1 : KeepsBut [.regs, .landNext] s s1 := fun q hq => by cases q <;> first | exact absurd (by decide) hq | rfl
    exact h1.trans (ht ▸ hend.1.mono (by decide))
  · simp only [List.mem_cons, List.not_mem_nil, or_false, not_or] at ha
    rw [ht, rget_endAccess_ok _ ha.1 ha.2]
    rfl

/-- The claims of the ports on input channels read registers of the port groups. -/
theorem portClaims_congr {t : State} (hp : t.ports = s.ports) (hr : ∀ a, a < aJET_PATH 0 → rget t a = rget s a)
    (g : Fin 4) {m : Nat}
    (hm : m < 8) : portClaims t g m = portClaims s g m := by
  have hg := g.isLt
  have h1 : grp t g = grp s g := by rw [grp, hp, grp]
  have h2 : actIn t g m = actIn s g m := hr _ (by simp only [aPORTG_ACT_INMASK, aJET_PATH]; omega)
  have h3 : portSlots t g m = portSlots s g m := by
    rw [portSlots, portSlots, isAes, isAes, portWord, portWord, gcfg, gcfg, hr _
      (by simp only [aPORTG_PORT, aJET_PATH]; omega),
      hr _ (by simp only [aPORTG_GCFG, aJET_PATH]; omega)]
  unfold portClaims
  rw [h1, h2, h3]

theorem slotAsrc_congr {t : State} (hr : ∀ a, a < aJET_PATH 0 → rget t a = rget s a) {g m : Nat} (hg : g < 4)
    (hm : m < 8) (out : Bool) :
    slotAsrc t g m out = slotAsrc s g m out := by
  have h1 : rget t (aPORTG_PORT g m) = rget s (aPORTG_PORT g m) := hr _ (by simp only [aPORTG_PORT, aJET_PATH]; omega)
  have h2 : rget t (aPORTG_GCFG g) = rget s (aPORTG_GCFG g) := hr _ (by simp only [aPORTG_GCFG, aJET_PATH]; omega)
  have h3 : rget t (aAES3_PORTCFG m) = rget s (aAES3_PORTCFG m) := hr _ (by simp only [aAES3_PORTCFG, aJET_PATH]; omega)
  unfold slotAsrc isAes portWord gcfg rbit
  rw [h1, h2, h3]

/-- Whether an input channel comes from a sample rate converter reads no register of the Jet or behind it. -/
theorem asrcSource_congr {t : State} (hp : t.ports = s.ports) (hn : t.net = s.net)
    (hr : ∀ a, a < aJET_PATH 0 → rget t a = rget s a)
    (c : Nat) : asrcSource t c = asrcSource s c := by
  have howner : portOwner t c = portOwner s c := by
    unfold portOwner
    refine List.find?_congr fun p hp' => ?_
    rw [portClaims_congr hp hr _ (Nat.mod_lt _ (by decide))]
  have hflow (f : Nat) : flowEntry t false f = flowEntry s false f := by rw [flowEntry, flowEntry, hn]
  unfold asrcSource
  rw [howner, hn]
  cases ho : portOwner s c with
  | some p =>
    have hlt : p < 32 := List.mem_range.1 (List.mem_of_find?_eq_some ho)
    exact slotAsrc_congr hr (by omega) (Nat.mod_lt _ (by decide)) false
  | none => simp only [hflow]

/-- The act of a Jet path's register. -/
theorem pageAct_jetPath {a : Nat} (hp : pageOf a = pgJET) (ho : 0x100 ≤ offOf a ∧ offOf a < 0x200) (direct : Bool)
    (tk : Option Word)
    (l : Nat) (old new v : Word) (s : State) :
    pageAct direct tk l a old new v s = (jetPathChange ((offOf a - 0x100) / 4) old new s, false) := by
  unfold pageAct
  rw [hp]
  generalize offOf a = o at ho
  dsimp only
  iterate 17 rw [if_neg (by decide)]
  rw [if_pos rfl, if_pos ho]

/-- No rule of the Jet's page refuses a write. -/
theorem blockRefuse_jet {a : Nat} (hp : pageOf a = pgJET) (direct : Bool) (l : Nat) (old new v : Word) :
    blockRefuse s direct l a old new v = none := by
  unfold blockRefuse
  rw [hp]
  rfl

section
variable {l : List Part} {A : Nat → Prop} {t : State} (h : Settles l A s t) (r : BasinRoom l A)
include h r

theorem Settles.jetFault (code q : Nat) : Settles l A s (Machine.errcap pgJET code q (Machine.iset pgJET 0 t)) :=
  (h.setReg r (a := aISTAT pgJET) _).errcap _ _ (r.parts _ (by decide)) (r.regs _ (by decide)) (r.regs _ (by decide))

theorem Settles.jetEnable (p : Nat) : Settles l A s (jetEnable p t) := by
  unfold Machine.jetEnable
  dsimp only
  split
  · exact h.jetFault r _ _
  · exact .foldl (fun _ _ hu => hu.jetFault r _ _) _ (h.setBasin r _)

theorem Settles.jetPathChange (p : Nat) (old new : Word) : Settles l A s (jetPathChange p old new t) := by
  unfold Machine.jetPathChange
  extract_lets s1 moved off on s2 s3
  have hs1 : Settles l A s s1 := h.ite (h.setBasin r _)
  have hs2 : Settles l A s s2 := Settles.ite (hs1.setBasin r _) hs1
  have hs3 : Settles l A s s3 := (hs2.jetEnable r p).ite hs2
  exact hs1.ite ((hs3.setBasin r _).ite hs3)

end

theorem foldl_jetOn (f : State → Nat → State) (hf : ∀ u q, (f u q).basin = u.basin) (m : List Nat) (s : State) :
    (m.foldl f s).basin = s.basin := by
  induction m generalizing s with
  | nil => rfl
  | cons q m ih => rw [List.foldl_cons, ih, hf]

theorem errcap_basin (p code a : Nat) (s : State) : (errcap p code a s).basin = s.basin := by
  unfold errcap
  split <;> rfl

/-- A path that is enabled, and whose source is not converted, is one of the enabled paths. -/
theorem mem_jetOn_of_enabled {p : Nat} {old new : Word} (hen : enOf s pgJET = true) (hold : bit old 31 = false)
    (hnew : bit new 31 = true) (hpath : jetPath s p = new) (hsrc : asrcSource s (jetSrcOf new) = false) :
    p ∈ (jetPathChange p old new s).basin.jetOn := by
  unfold jetPathChange
  extract_lets s1 moved off on s2 s3
  have h1 : s1 = s ∨ s1 = jetMuteChange p (bit new 30) s := by
    unfold s1
    split
    · exact .inl rfl
    · exact .inr rfl
  have hen1 : enOf s1 pgJET = true := by rcases h1 with h | h <;> rw [h] <;> exact hen
  have hpath1 : jetPath s1 p = new := by rcases h1 with h | h <;> rw [h] <;> exact hpath
  have hsrc1 : asrcSource s1 (jetSrcOf new) = false := by
    rw [← hsrc]
    rcases h1 with h | h <;> rw [h]
    exact asrcSource_congr rfl rfl (fun _ _ => rfl) _
  have hoff : off = false := by simp [off, hold, hnew]
  have hon : on = true := by simp [on, hold, hnew]
  have h3 : s3 = jetEnable p s1 := by
    unfold s3 s2
    rw [if_pos hon, if_neg (by simp [hoff])]
  have hmem : p ∈ s3.basin.jetOn := by
    rw [h3]
    unfold jetEnable
    dsimp only
    rw [hpath1, if_neg (by simp [hsrc1]), foldl_jetOn _ fun u q => by rw [errcap_basin]; rfl]
    simp [setBasin]
  rw [if_neg (by simp [hen]), if_pos (by simp [hon])]
  exact hmem

/-- A pair that names a Jet path. -/
theorem landPair_jetPath (p : Fin 64) {d : RegDef} (hd : regAt (aJET_PATH p) = some d) (t : Word) (v : Word)
    (s : State) :
    let new := newWord d pgJET 0 (rget s (aJET_PATH p)) v
    landPair t (s, false) (aJET_PATH p, v) = (jetPathChange p (rget s (aJET_PATH p)) new (rset (aJET_PATH p) new s),
      false) := by
  intro new
  obtain ⟨hpage, hoff, -⟩ := jetPath_addr p
  have hp := p.isLt
  have hne : ∀ b, pageOf b ≠ pgJET → aJET_PATH p ≠ b := fun b hb hab => hb (hab ▸ hpage)
  have hlow : ¬ aJET_PATH p ≥ 0x1000000 := by simp only [aJET_PATH]; omega
  have hkeep (old : Word) : keepMode (aJET_PATH p) old new = (new, false) := by
    unfold keepMode
    rw [if_neg (hne _ (by decide)), if_neg (hne _ (by decide))]
  have hreg : regLand (some t) (aJET_PATH p) v s =
      (jetPathChange p (rget s (aJET_PATH p)) new (rset (aJET_PATH p) new s), false) := by
    unfold regLand
    simp only [hd]
    rw [if_neg fun h => by omega, blockRefuse_jet hpage, hpage]
    dsimp only
    unfold regAct
    rw [hkeep]
    dsimp only
    rw [if_neg (by omega), if_neg (by omega), if_neg (by omega), pageAct_jetPath hpage ⟨by omega, by omega⟩, hoff]
    have : (0x100 + 4 * p.val - 0x100) / 4 = p.val := by omega
    rw [this]
    rfl
  simp only [landPair, if_neg hlow, hreg, Bool.or_false]

/-- A field is its bits. -/
theorem bits_congr {v w : Word} {hi lo : Nat} (h : ∀ i, lo ≤ i → i ≤ hi → bit v i = bit w i) : bits v hi lo = bits w
    hi lo := by
  apply Nat.eq_of_testBit_eq
  intro i
  simp only [bits, Nat.testBit_mod_two_pow, Nat.testBit_shiftRight]
  by_cases hi' : i < hi + 1 - lo
  · have := h (lo + i) (by omega) (by omega)
    simp only [bit, BitVec.getLsbD] at this
    rw [this]
  · simp [hi']

theorem regAt_jetPath : ∀ p : Fin 64, (regAt (aJET_PATH p)).map (fun d => (d.off, d.rw, d.w1c, d.rwp)) = some
    (0x100, 0xff0fffff, 0, 0) := by
  decide

/-- The word of a Jet path takes every written bit but the reserved ones. -/
theorem bit_newWord_jetPath {p : Fin 64} {d : RegDef} (hd : regAt (aJET_PATH p) = some d) (old v : Word) {i : Nat}
    (hi : i < 32)
    (hr : ¬ (20 ≤ i ∧ i < 24)) : bit (newWord d pgJET 0 old v) i = bit v i := by
  have hdef := regAt_jetPath p
  rw [hd, Option.map_some, Option.some.injEq, Prod.mk.injEq, Prod.mk.injEq, Prod.mk.injEq] at hdef
  obtain ⟨hoff, hrw, hw1c, hrwp⟩ := hdef
  have hmask : rwMask d pgJET = w32 0xff0fffff := by
    unfold rwMask
    rw [hoff, hrw]
    rfl
  have hm : bit (w32 0xff0fffff) i = true := by
    revert hr
    interval_cases i <;> decide
  unfold newWord
  dsimp only
  rw [if_neg fun hc => absurd hc.1
    (by decide), if_pos rfl, hmask, hrwp, hw1c, maskWord, bit_and, bit_not hi, bit_or, bit_and, bit_and, bit_not hi,
    bit_or, hm,
    bit_and]
  simp [w32, bit]

theorem jetPath_not_mem : ∀ p : Fin 64, aJET_PATH p ∉ basinRegs := by decide

/-- Settles O24. -/
theorem soloWritesLandAtTheBoundary : Obligations.SoloWritesLandAtTheBoundary := by
  refine ⟨fun s p w d hs h hsolo hd => ⟨_, rfl, heldJetPath hs p w d h hsolo hd⟩, fun s t x hl hm hh hg =>
    ⟨_, rfl, ?tick⟩,
    fun s e rest p v d hs h ho hp hd => ⟨_, rfl, ?land⟩⟩
  case tick => exact landNext_frameTick t x ((tickLive_iff hl).2 ⟨hm, hh⟩) hg
  case land =>
    let e1 : Ev := { e with land := s.tb.frame }
    let k := keepRunning e1 (popLanding s)
    let new := newWord d pgJET 0 (rget s (aJET_PATH p)) v
    let t := jetPathChange p (rget s (aJET_PATH p)) new (rset (aJET_PATH p) new k)
    have hpj : p.val < 64 := p.isLt
    have hne : ∀ b, b < aJET_PATH 0 → b ≠ aJET_PATH p := fun b hb => by simp only [aJET_PATH] at *; omega
    have hw : writeParam e1 (popLanding s) = finishRunning e.ticket s.tb.frame t := by
      refine writeParam_single (e := e1) hp ?_ (landPair_jetPath p hd e.ticket v k)
      have : ¬ 0x1000000 ≤ aJET_PATH p := by simp only [aJET_PATH]; omega
      simp [onLockedShadow, this]
    rw [awake_landEntry h ho, hw]
    have ht : Settles basinParts (· ∈ basinRegs) (rset (aJET_PATH p) new k) t := (Settles.refl ..).jetPathChange
        room_basin ..
    have hu : Settles basinParts (· ∈ basinRegs) t (finishRunning e.ticket s.tb.frame t) :=
      (Settles.refl ..).finishRunning room_basin.done _ _
    have hreg : aJET_PATH p ∉ basinRegs := jetPath_not_mem p
    refine ⟨?_, ?_, fun hen hold hnew hsrc => ?_⟩
    · rw [hu.within.2 _ hreg, ht.within.2 _ hreg]
      exact rget_rset_same (s := k) hs.1 _ _
    · rw [hu.landing, ht.landing]
      exact landing_popLanding h
    · rw [finishRunning_basin]
      have hsrcNew : jetSrcOf new = jetSrcOf v := bits_congr fun i _ hi => bit_newWord_jetPath hd _ _ (by omega)
          (by omega)
      have hbit : bit new 31 = true := (bit_newWord_jetPath hd _ _ (by decide) (by decide)).trans hnew
      refine mem_jetOn_of_enabled ?_ hold hbit (rget_rset_same (s := k) hs.1 _ _) ?_
      · rw [enOf, rbit, rget_rset_ne k _ (hne _ (by decide))]
        exact hen
      · rw [hsrcNew, ← hsrc]
        exact asrcSource_congr (s := k) (t := rset (aJET_PATH p) new k) rfl rfl
          (fun b hb => rget_rset_ne k _ (hne b hb)) _

end Sys2Proof.Machine
end

section
/-!
PROOFS. Press entries, protection, Galley ring writes, shadow Forme writes, Basin events; the refutations of O12,
  O30, O53 and O55.
-/

-- One declaration after another: side by side, the stacks of the threads exceed what memory the check allows.
set_option Elab.async false

namespace Sys2Proof.Machine

variable {s : State}

/-! ### Interrupt entries of a Press (R164 to R169) -/

section
variable {p : Fin 16} {x : PressSt}

/-- Settling the counts leaves every result in flight at its time. -/
theorem at_settleCounts {j : Nat} {w : PWrite} (hw : w ∈ (settleCounts j x).pend) : ∃ v ∈ x.pend, w.at_ = v.at_ := by
  obtain ⟨v, hv, rfl⟩ := List.mem_map.1 hw
  refine ⟨v, hv, ?_⟩
  split
  · split <;> rfl
  · split <;> rfl
  · rfl

/-- Seven cycles on nothing is in flight. -/
theorem pend_drainPend (h : ∀ w ∈ x.pend, w.at_ ≤ x.cyc + 5) : (drainPend x).pend = [] := by
  refine List.filter_eq_nil_iff.2 fun w hw => ?_
  obtain ⟨v, hv, hat⟩ := at_settleCounts hw
  have := h v hv
  simp only [Bool.not_eq_true', decide_eq_false_iff_not, not_not]
  show w.at_ ≤ x.cyc + 7
  omega

@[simp] theorem drainPend_ih (x : PressSt) : (drainPend x).ih = x.ih := rfl
@[simp] theorem drainPend_stack (x : PressSt) : (drainPend x).stack = x.stack := rfl
@[simp] theorem drainPend_shadow (x : PressSt) : (drainPend x).shadow = x.shadow := rfl

theorem srFull_and_srBits (u4 : Bool) (c : Nat) :
    srFull x u4 c &&& srBits = (regAtCycle x c .sr).setWidth 32 &&& srBits := by
  have hf (b : Bool) {k : Nat} (hk : BitVec.ofNat 32 (1 <<< k) &&& srBits = 0#32) : flg b k &&& srBits = 0#32 := by
    cases b
    · exact BitVec.zero_and
    · exact hk
  simp only [srFull, BitVec.and_or_distrib_right, BitVec.and_assoc, BitVec.and_self,
    hf u4 (k := 31) (by decide), hf x.sh (k := 30) (by decide), hf x.la[1] (k := 29) (by decide),
    hf x.la[0] (k := 28) (by decide), hf x.rep.isSome (k := 27) (by decide), hf x.ih (k := 22) (by decide),
      BitVec.or_zero]

/-- What the full SR holds of IH and LA. -/
theorem bit_srFull (u4 : Bool) (c : Nat) :
    bit (srFull x u4 c) 22 = x.ih ∧ bit (srFull x u4 c) 28 = x.la[0] ∧ bit (srFull x u4 c) 29 = x.la[1] := by
  have hm (i : Nat) (hi : bit srBits i = false) (v : Word) : bit (v &&& srBits) i = false := by
    rw [bit_and, hi, Bool.and_false]
  have h22 := hm 22 (by decide); have h28 := hm 28 (by decide); have h29 := hm 29 (by decide)
  simp only [srFull, bit_or, h22, h28, h29, bit_flg _ 22 _ (by decide), bit_flg _ 28 _ (by decide),
    bit_flg _ 29 _ (by decide)]
  simp

/-- Press `x`, with nothing in flight, as an entry of kind `k` to the vector `v` leaves it before the sets swap. -/
def entryPress (k : PKind) (v : BitVec 13) (u4b : Bool) (x : PressSt) : PressSt :=
  { x with
    stack := ⟨k, x.pc, srFull x u4b (x.cyc + 100)⟩ :: x.stack
    cyc := x.cyc + 7, pc := v, next := none, wait := false, la := Vector.replicate 2 false, ih := true
    tick := if k = .tick then false else x.tick
    fault := if k = .fault then false else x.fault }

/-- The sets swap in U4 mode. -/
def swapIf (u4 : Bool) (x : PressSt) : PressSt := if u4 then { swapShadow x with sh := true } else x

/-- Press `x` behind an entry: with IE clear. -/
def clearIe (x : PressSt) : PressSt := { x with r := { x.r with sr := x.r.sr &&& ~~~flg true 23 } }

/-- Press `p` as an accepted entry leaves it. -/
def acceptedPress (k : PKind) (v : BitVec 13) (s : State) (p : Fin 16) : PressSt :=
  clearIe (swapIf (u4Of s p) (entryPress k v (u4Bit s p) (drainPend s.press[p])))

theorem acceptEntry_tick (h : s.press[p].stack.length < 8) :
    acceptEntry p .tick s = setPress p (acceptedPress .tick 4 s p) s :=
  if_neg (show ¬ 8 ≤ s.press[p].stack.length by omega)

theorem acceptEntry_fault (hd : ¬ doubleFault s p) (h : s.press[p].stack.length < 8) :
    acceptEntry p .fault s = setPress p (acceptedPress .fault 8 s p) (iset (pgPRESS p) 1 s) := by
  refine (if_neg fun hc => hd ?_).trans (if_neg (show ¬ 8 ≤ s.press[p].stack.length by omega))
  simpa [doubleFault] using hc

theorem acceptEntry_fault_double (hd : doubleFault s p) :
    acceptEntry p .fault s = enterPressFault p 5 s.press[p].faultPc.toNat
      (setPress p (drainPend s.press[p]) (iset (pgPRESS p) 1 s)) :=
  if_pos (by simpa [doubleFault] using hd)

theorem acceptEntry_fault_full (hd : ¬ doubleFault s p) (h : 8 ≤ s.press[p].stack.length) :
    acceptEntry p .fault s = enterPressFault p 3 s.press[p].faultPc.toNat
      (setPress p (drainPend s.press[p]) (iset (pgPRESS p) 1 s)) := by
  refine (if_neg fun hc => hd ?_).trans (if_pos h)
  simpa [doubleFault] using hc

theorem acceptEntry_tick_full (h : 8 ≤ s.press[p].stack.length) :
    acceptEntry p .tick s = enterPressFault p 3 s.press[p].pc.toNat (setPress p (drainPend s.press[p]) s) :=
  if_pos h

/-- Nothing is in flight before the entry: what it saves of SR is what has arrived. -/
theorem acceptedPress_pushed (k : PKind) (v : BitVec 13) (h : ∀ w ∈ s.press[p].pend, w.at_ ≤ s.press[p].cyc + 5)
    {t : State}
    (ht : t.press[p] = acceptedPress k v s p) : pushed s p k s.press[p].pc t := by
  obtain ⟨h22, h28, h29⟩ := bit_srFull (x := drainPend s.press[p]) (u4Bit s p) ((drainPend s.press[p]).cyc + 100)
  refine ⟨⟨k, s.press[p].pc, srFull (drainPend s.press[p]) (u4Bit s p) ((drainPend s.press[p]).cyc + 100)⟩, ?_, rfl,
    rfl,
    ?_, h22, h28, h29⟩
  · rw [ht, acceptedPress, swapIf]
    split <;> rfl
  · rw [srFull_and_srBits, regAtCycle, pend_drainPend h]
    simp [settledRegs, PressRegs.get]

theorem acceptedPress_entered (k : PKind) (v : BitVec 13) {t : State} (ht : t.press[p] = acceptedPress k v s p) :
    entered p v t ∧ t.press[p].wait = false ∧ t.press[p].cyc = s.press[p].cyc + 7 := by
  rw [entered, ht]
  have hie (y : PressSt) : bit (clearIe y).r.sr 23 = false := by
    simp [clearIe, bit_and, bit_not, bit_flg]
  refine ⟨⟨?_, ?_, hie _, ?_⟩, ?_, ?_⟩ <;>
  · rw [acceptedPress, swapIf]
    split <;> rfl

theorem acceptedPress_pending (k : PKind) (v : BitVec 13) :
    (acceptedPress k v s p).tick = (if k = .tick then false else s.press[p].tick) ∧
      (acceptedPress k v s p).fault = (if k = .fault then false else s.press[p].fault) := by
  rw [acceptedPress, swapIf]
  constructor <;>
  · split <;> rfl

/-- Without U4 the data registers, accumulators and pointers are those that have arrived. -/
theorem acceptedPress_plain (k : PKind) (v : BitVec 13) (hu : u4Of s p = false) :
    (acceptedPress k v s p).r.d = (settledRegs s p).d ∧ (acceptedPress k v s p).r.ac = (settledRegs s p).ac ∧
      (acceptedPress k v s p).r.p = (settledRegs s p).p := by
  rw [acceptedPress, hu]
  exact ⟨rfl, rfl, rfl⟩

theorem acceptedPress_swapped (k : PKind) (v : BitVec 13) (hu : u4Of s p = true) {t : State}
    (ht : t.press[p] = acceptedPress k v s p) : swappedSets s p t := by
  rw [swappedSets, ht, acceptedPress, hu]
  refine ⟨rfl, fun i => ?_, fun i => ?_, fun i => ?_⟩ <;>
  · have hi := Nat.le_of_lt_succ i.isLt
    simp [clearIe, swapIf, swapShadow, entryPress, settledRegs, hi]

/-- A Press changes its mode: only a running or stopping one keeps its results in flight. -/
theorem setPMode_of_ne {m : PMode} (h : s.press[p].mode ≠ m) :
    setPMode p m s = iset (pgPRESS p) 6 (setPress p
      { (if m = .run ∨ m = .stopping then s.press[p] else drainPend s.press[p]) with mode := m } s) :=
  if_neg h

/-- A Press that meets a cause of FAULTED is FAULTED, with the cause and the address in FAULTINFO. -/
theorem enterPressFault_effect (h : spWf resetWord s.regs = true) (hm : s.press[p].mode ≠ .faulted) (c a : Nat) :
    (enterPressFault p c a s).press[p].mode = .faulted ∧
      (enterPressFault p c a s).press[p].stack = s.press[p].stack ∧
      rbit (enterPressFault p c a s) (aISTAT (pgPRESS p)) 1 = true ∧
      rget (enterPressFault p c a s) (aPRESS_FAULTINFO p) = fld c 28 ||| fld a 0 ∧
      OtherPresses p s (enterPressFault p c a s) := by
  unfold enterPressFault
  dsimp only
  generalize hx : ({ fadeToBypass (s.tb.frame + 1) s.press[p] with fault := false } : PressSt) = x
  have hxm : (setPress p x s).press[p].mode ≠ .faulted := by
    rw [press_setPress_same, ← hx]; exact hm
  rw [setPMode_of_ne hxm, press_setPress_same, if_neg (by decide), setPress_setPress]
  generalize hy : ({ drainPend x with mode := .faulted } : PressSt) = y
  have hst : y.stack = s.press[p].stack := by rw [← hy, ← hx]; rfl
  have hmode : y.mode = .faulted := by rw [← hy]
  have ha : aISTAT (pgPRESS p) ≠ aINTC_ALMSRC := by
    simp only [aISTAT, aINTC_ALMSRC, pgPRESS, pageAddr]; omega
  have hb : aPRESS_FAULTINFO p ≠ aINTC_ALMSRC := by
    simp only [aPRESS_FAULTINFO, aINTC_ALMSRC]; omega
  have hc : aPRESS_FAULTINFO p ≠ aISTAT (pgPRESS p) := by
    simp only [aPRESS_FAULTINFO, aISTAT, pgPRESS, pageAddr]; omega
  generalize hu : rset (aPRESS_FAULTINFO p) (fld c 28 ||| fld a 0) (iset (pgPRESS p) 6 (setPress p y s)) = u
  have hpress : (alarm 9 (iset (pgPRESS p) 1 u)).press = (setPress p y s).press := by rw [← hu]; rfl
  have hset : spWf resetWord (setPress p y s).regs = true := h
  refine ⟨?_, ?_, ?_, ?_, fun q hq => ?_⟩
  · rw [hpress, press_setPress_same, hmode]
  · rw [hpress, press_setPress_same, hst]
  · rw [alarm, rbit, rget_rset_ne _ _ ha]
    exact rbit_iset (by rw [← hu]; exact rset_regs_wf (iset_regs_wf hset _ _) _ _) _ (by decide)
  · rw [alarm, rget_rset_ne _ _ hb, rget_iset_ne _ _ _ hc, ← hu, rget_rset_same (iset_regs_wf hset _ _)]
  · rw [hpress, press_setPress_ne s y hq]

end

/-! ### O32 -/

theorem exec_tickEntry {p : Fin 16} (ha : acceptPoint s p) (hf : s.press[p].fault = false) (ht : tickDue s p = true) :
    exec (.tickEntry p) s = .next (acceptEntry p .tick s) := by
  obtain ⟨hm, hc, hb, hd⟩ := ha
  have hheld : s.boot.held = .none := by
    simp only [coreRuns, Bool.and_eq_true, beq_iff_eq] at hc; exact hc.2
  exact congrArg Host.Outcome.next ((awake_run _ hheld).trans
    (if_pos ⟨hm, hc, hb, Bool.eq_false_iff.1 hd, Bool.eq_false_iff.1 hf, ht⟩))

theorem exec_faultEntry {p : Fin 16} (ha : acceptPoint s p) (hf : s.press[p].fault = true) :
    exec (.faultEntry p) s = .next (acceptEntry p .fault s) := by
  obtain ⟨hm, hc, hb, hd⟩ := ha
  have hheld : s.boot.held = .none := by
    simp only [coreRuns, Bool.and_eq_true, beq_iff_eq] at hc; exact hc.2
  exact congrArg Host.Outcome.next ((awake_run _ hheld).trans
    (if_pos ⟨hm, hc, hb, Bool.eq_false_iff.1 hd, hf⟩))

theorem not_faulted_of_acceptPoint {p : Fin 16} (ha : acceptPoint s p) : s.press[p].mode ≠ .faulted := by
  obtain ⟨hm | hm, -⟩ := ha <;> rw [hm] <;> decide

/-- The PC and the cause of an entry on a full stack fit in FAULTINFO. -/
theorem bits_faultInfo (pc : BitVec 13) : bits (fld 3 28 ||| fld pc.toNat 0) 31 28 = 3 := by
  have hp := pc.isLt
  have hz : pc.toNat >>> 28 = 0 := by rw [Nat.shiftRight_eq_div_pow]; omega
  have hs : pc.toNat % 2 ^ 32 = pc.toNat := Nat.mod_eq_of_lt (by omega)
  simp only [bits, fld, BitVec.toNat_or, BitVec.toNat_ofNat, Nat.shiftLeft_zero, hs, Nat.shiftRight_or_distrib, hz]
  rfl

/-- What an entry that ends in FAULTED leaves. -/
theorem enterPressFault_entry {t : State} {p : Fin 16} (h : spWf resetWord t.regs = true)
    (hm : s.press[p].mode ≠ .faulted) (hp : t.press = s.press) (c a : Nat) :
    let u := enterPressFault p c a (setPress p (drainPend s.press[p]) t)
    u.press[p].mode = .faulted ∧ u.press[p].stack = s.press[p].stack ∧ rbit u (aISTAT (pgPRESS p)) 1 = true ∧
      rget u (aPRESS_FAULTINFO p) = fld c 28 ||| fld a 0 ∧ OtherPresses p s u := by
  intro u
  have hpp := press_setPress_same t p (drainPend s.press[p])
  obtain ⟨hmode, hstack, hbit, hinfo, hother⟩ := enterPressFault_effect (p := p)
    (s := setPress p (drainPend s.press[p]) t) h (by rw [hpp]; exact hm) c a
  refine ⟨hmode, by rw [hstack, hpp]; rfl, hbit, hinfo, fun q hq => ?_⟩
  rw [hother q hq, press_setPress_ne t _ hq, hp]

/-- Settles O32: an entry is accepted, or ends in FAULTED, by the room on the stack and the FAULT before it. -/
theorem pressEntries : Obligations.PressEntries := by
  refine ⟨fun s p hc ha hf ht hs => ?_, fun s p hc ha hf hs hd => ?_, fun s p hc ha hf hd => ?_,
    fun s p hc ha hf hd hs => ?_, fun s p hc ha hf ht hs => ?_⟩
  · have hp := press_setPress_same s p (acceptedPress .tick 4 s p)
    obtain ⟨htick, -⟩ := acceptedPress_pending (s := s) (p := p) .tick 4
    refine ⟨_, (exec_tickEntry ha hf ht).trans (congrArg _ (acceptEntry_tick hs)),
      acceptedPress_pushed _ _ (hc.2.2.2.2.2.2 p).2 hp, ?_⟩
    obtain ⟨hent, hwait, hcyc⟩ := acceptedPress_entered (t := setPress p (acceptedPress .tick 4 s p) s) _ _ hp
    refine ⟨hent, ?_, hwait, hcyc, setPress_otherPresses s p _, setPress_keepsBut s p _, ?_, ?_⟩
    · rw [hp, htick]; rfl
    · rw [hp]; exact acceptedPress_plain _ _
    · exact fun hu => acceptedPress_swapped _ _ hu hp
  · have hp := press_setPress_same (iset (pgPRESS p) 1 s) p (acceptedPress .fault 8 s p)
    obtain ⟨htick, hfault⟩ := acceptedPress_pending (s := s) (p := p) .fault 8
    refine ⟨_, (exec_faultEntry ha hf).trans (congrArg _ (acceptEntry_fault hd hs)),
      acceptedPress_pushed _ _ (hc.2.2.2.2.2.2 p).2 hp, ?_⟩
    obtain ⟨hent, hwait, hcyc⟩ :=
      acceptedPress_entered (t := setPress p (acceptedPress .fault 8 s p) (iset (pgPRESS p) 1 s)) _ _ hp
    refine ⟨hent, ?_, ?_, hwait, ?_, setPress_otherPresses _ p _,
      ((within_rset (l := [.press, .regs]) (A := fun _ => True) (by decide) trivial _ s).1).trans
        ((setPress_keepsBut _ p _).mono (by decide)), fun a ha => rget_iset_ne _ _ _ fun h => ha (by simp [h]), ?_, ?_⟩
    · rw [hp, hfault]; rfl
    · rw [hp, htick]; rfl
    · exact rbit_iset hc.1 _ (by decide)
    · rw [hp]; exact acceptedPress_plain _ _
    · exact fun hu => acceptedPress_swapped _ _ hu hp
  · obtain ⟨hmode, hstack, hbit, hinfo, hother⟩ := enterPressFault_entry (t := iset (pgPRESS p) 1 s)
      (iset_regs_wf hc.1 _ _) (not_faulted_of_acceptPoint ha) rfl 5 s.press[p].faultPc.toNat
    exact ⟨_, (exec_faultEntry ha hf).trans (congrArg _ (acceptEntry_fault_double hd)), hmode, hstack, hbit, hinfo,
      hother⟩
  · obtain ⟨hmode, hstack, hbit, hinfo, hother⟩ := enterPressFault_entry (t := iset (pgPRESS p) 1 s)
      (iset_regs_wf hc.1 _ _) (not_faulted_of_acceptPoint ha) rfl 3 s.press[p].faultPc.toNat
    exact ⟨_, (exec_faultEntry ha hf).trans (congrArg _ (acceptEntry_fault_full hd hs)), hmode, hstack, hbit, hinfo,
      hother⟩
  · obtain ⟨hmode, hstack, hbit, hinfo, hother⟩ := enterPressFault_entry (t := s) hc.1
      (not_faulted_of_acceptPoint ha) rfl 3
      s.press[p].pc.toNat
    refine ⟨_, (exec_tickEntry ha hf ht).trans (congrArg _ (acceptEntry_tick_full hs)), hmode, hstack, hbit, ?_, hother⟩
    rw [rfld, hinfo, bits_faultInfo]

/-! ### O12: the end of a read of LASTERR does not rewrite LASTERR and LASTADDR (R444) -/

/-- A device in operation that has seen no access. -/
def operating : State := { State.reset with boot := { BootSt.reset with held := .none } }

/-- A read of LASTERR that is never granted leaves LASTADDR as it was. -/
theorem hostAccessTimeout_lasterr : rget (hostAccessTimeout aHOSTIF_LASTERR 0 false operating) aHOSTIF_LASTADDR =
    0 := by
  decide

/-- Refutes O12: a timed-out read of LASTERR itself is not entered in LASTADDR. -/
theorem not_hostCyclesWithoutAWrite : ¬ Obligations.HostCyclesWithoutAWrite := by
  intro h
  obtain ⟨-, -, -, -, htimeout, -⟩ := h
  obtain ⟨t, ht, haddr, -⟩ := htimeout operating aHOSTIF_LASTERR 0 false resetIsCanonical rfl (.inr (by decide))
  cases ht
  exact absurd (hostAccessTimeout_lasterr.symm.trans haddr) (by decide)

/-! ### Fields of a written word -/

theorem newWord_eq_maskWord {d : RegDef} {p : Nat} (hw : d.w1c = 0) (hp : p ≠ 0x20) (l : Nat) (old v : Word) :
    newWord d p l old v = maskWord (if l = 0 then rwMask d p ||| w32 d.rwp else rwMask d p) old v := by
  simp only [newWord, hw, hp, false_and, if_false]
  rw [show w32 0 = 0#32 from rfl, BitVec.and_zero, BitVec.not_zero, BitVec.and_allOnes]

theorem bit_maskWord_of_set {m : Word} {i : Nat} (h : bit m i = true) (old v : Word) :
    bit (maskWord m old v) i = bit v i := by
  have hi : i < 32 := BitVec.lt_of_getLsbD h
  simp [maskWord, bit_or, bit_and, bit_not hi, h]

theorem bits_maskWord {m : Word} {hi lo : Nat} (h : ∀ i, lo ≤ i → i ≤ hi → bit m i = true) (old v : Word) :
    bits (maskWord m old v) hi lo = bits v hi lo :=
  bits_congr fun i hl hu => bit_maskWord_of_set (h i hl hu) old v

theorem maskWord_zero (old v : Word) : maskWord 0#32 old v = old := by
  rw [maskWord, BitVec.and_zero, BitVec.or_zero, BitVec.not_zero, BitVec.and_allOnes]

/-- A write that no rule refuses, to a register whose write acts at once: an RWP field that it keeps is a fault. -/
theorem hostWrite_of_allowed {a : Nat} {w : HW} {d : RegDef} (h : Allowed s a w) (hd : regAt a = some d)
    (ha : ActsAtOnce a) :
    hostWrite ⟨a, w.lvl, w.be, w.v⟩ s =
      let t := landPage w.lvl a (heldReg s a) (newWord d (pageOf a) w.lvl (heldReg s a) w.v) (actBits d w.lvl w.v) s
      if rwpKept s w.lvl a w.v then endAccess stsRwp w.lvl true a (protFault true w.lvl a true false t)
      else endAccess 0 w.lvl true a t := by
  rw [hostWrite_served (x := ⟨a, w.lvl, w.be, w.v⟩) h.1 hd ha.2.2.2 ha.1.1,
    pageWrite_of_ruleOk (l := w.lvl) (v := w.v) hd h.2 ha.1.1 fun hf => ha.2.1.1 hf.1]
  dsimp only
  by_cases hk : rwpKept s w.lvl a w.v = true
  · rw [if_pos hk, if_pos hk]
  · rw [if_neg hk, if_neg hk]

theorem rwpKept_level0 (a : Nat) (v : Word) : rwpKept s 0 a v = false := by
  unfold rwpKept
  split <;> rfl

theorem Within.setHost {l : List Part} {A : Nat → Prop} {t : State} (h : Within l A s t) (x : HostSt)
    (hl : .host ∈ l := by decide) : Within l A s { t with host := x } :=
  ⟨fun p hp => (h.1 p hp).trans (by cases p <;> first | rfl | exact absurd hl hp), h.2⟩

/-! ### O13: protection ranges -/

/-- The rows of the PERM registers: an RWP field of permissions and the enable, and nothing else. -/
theorem regAt_perm : ∀ k : Fin 16, ∃ d, regAt (aPROT_RANGE_PERM k) = some d ∧ d.w1c = 0 ∧ rwMask d pgPROT = 0#32 ∧
    w32 d.rwp = 0x800000FF#32 := by
  intro k
  have h : ((regAt (aPROT_RANGE_PERM k)).map fun d => (d.w1c, rwMask d pgPROT, w32 d.rwp)) = some
      (0, 0#32, 0x800000FF#32) := by
    revert k; decide
  obtain ⟨d, hd, hx⟩ := Option.map_eq_some_iff.1 h
  simp only [Prod.mk.injEq] at hx
  exact ⟨d, hd, hx⟩

/-- The only act of the page of PROT: the write of PERM at level 0 applies the staged words. -/
theorem pageAct_prot {a : Nat} (hp : pageOf a = pgPROT) (direct : Bool) (tk : Option Word) (l : Nat) (old new v : Word)
    (s : State) : pageAct direct tk l a old new v s =
      (if 0x300 ≤ offOf a ∧ (offOf a - 0x300) % 12 = 8 ∧ offOf a < 0x3C0 ∧ l = 0 then
        rangeApply ((offOf a - 0x300) / 12) s else s, false) := by
  unfold pageAct
  rw [hp]
  generalize offOf a = o
  rfl

theorem offOf_perm : ∀ k : Fin 16, offOf (aPROT_RANGE_PERM k) = 0x308 + 12 * k := by decide
theorem pageOf_perm : ∀ k : Fin 16, pageOf (aPROT_RANGE_PERM k) = pgPROT := by decide
theorem actsAtOnce_perm : ∀ k : Fin 16, ActsAtOnce (aPROT_RANGE_PERM k) := by decide

/-- A written PERM is stored, and at level 0 the staged entry is applied. -/
theorem landPage_perm (k : Fin 16) (l : Nat) (old new v : Word) (s : State) :
    landPage l (aPROT_RANGE_PERM k) old new v s =
      if l = 0 then rangeApply k (rset (aPROT_RANGE_PERM k) new s) else rset (aPROT_RANGE_PERM k) new s := by
  rw [landPage_of_actsAtOnce (actsAtOnce_perm k), pageAct_prot (pageOf_perm k), offOf_perm]
  have hk := k.isLt
  have hidx : (0x308 + 12 * k.val - 0x300) / 12 = k := by omega
  by_cases hl : l = 0
  · rw [if_pos hl, if_pos (by omega), hidx]
  · rw [if_neg hl, if_neg (by omega)]

theorem perm_unrecorded : ∀ k : Fin 16, aPROT_RANGE_PERM k ∉ protFaultRegs ++ endRegs := by decide

/-- The entry that the staged words of range `k` give with the permissions `v`. -/
def stagedRange (k : Fin 16) (v : Word) (s : State) : RangeEnt :=
  ⟨bit v 31, rfld s (aPROT_RANGE_BASE k) 24 2, rfld s (aPROT_RANGE_LIMIT k) 24 2, v.extractLsb' 0 8⟩

theorem ofNat_bits_low (v : Word) : BitVec.ofNat 8 (bits v 7 0) = v.extractLsb' 0 8 := by
  apply BitVec.eq_of_toNat_eq
  simp [bits, BitVec.extractLsb'_toNat]

theorem rangeApply_staged (h : spWf resetWord s.regs = true) (k : Fin 16) {new v : Word} (h31 : bit new 31 = bit v 31)
    (hlow : bits new 7 0 = bits v 7 0) :
    rangeApply k (rset (aPROT_RANGE_PERM k) new s) = { rset (aPROT_RANGE_PERM k) new s with
      host := { s.host with ranges := s.host.ranges.set k (stagedRange k v s) } } := by
  have hb : rget (rset (aPROT_RANGE_PERM k) new s) (aPROT_RANGE_BASE k) = rget s (aPROT_RANGE_BASE k) :=
    rget_rset_ne _ _ (by simp only [aPROT_RANGE_BASE, aPROT_RANGE_PERM]; omega)
  have hl : rget (rset (aPROT_RANGE_PERM k) new s) (aPROT_RANGE_LIMIT k) = rget s (aPROT_RANGE_LIMIT k) :=
    rget_rset_ne _ _ (by simp only [aPROT_RANGE_LIMIT, aPROT_RANGE_PERM]; omega)
  unfold rangeApply stagedRange rbit rfld
  rw [rget_rset_same h, hb, hl, h31, hlow, ofNat_bits_low]
  rfl

/-- O13, the protection ranges. -/
theorem rangePermWrite_effect (hs : Canonical s) (k : Fin 16) {w : HW} (h : Allowed s (aPROT_RANGE_PERM k) w) :
    Runs (.rangePermWrite k w) s fun t =>
      (∀ j, j ≠ k.val → t.host.ranges[j]? = s.host.ranges[j]?) ∧ KeepsBut [.regs, .host] s t ∧ t.host.proof =
        s.host.proof ∧
      (w.lvl = 0 → lastStatus t = 0 ∧ (s.host.ranges.length = 16 → t.host.ranges[k.val]? = some (stagedRange k w.v s)) ∧
        RegsOnly [aPROT_RANGE_PERM k, aHOSTIF_LASTERR, aHOSTIF_LASTADDR] s t) ∧
      (w.lvl ≠ 0 → t.host = s.host ∧ lastStatus t = (if rwpKept s w.lvl.val (aPROT_RANGE_PERM k) w.v then 3 else 0) ∧
        rget t (aPROT_RANGE_PERM k) = heldReg s (aPROT_RANGE_PERM k)) := by
  obtain ⟨d, hd, hw1c, hrw, hrwp⟩ := regAt_perm k
  refine ⟨_, rfl, ?_⟩
  unfold writeAt
  rw [hostWrite_of_allowed h hd (actsAtOnce_perm k), newWord_eq_maskWord hw1c
    (by rw [pageOf_perm]; decide), pageOf_perm,
    hrw, hrwp]
  simp only [landPage_perm]
  generalize heldReg s (aPROT_RANGE_PERM k) = old
  by_cases hl : w.lvl = 0
  · have hl0 : w.lvl.val = 0 := by rw [hl]; rfl
    rw [if_pos hl0, if_pos hl0, if_neg (by rw [hl0, rwpKept_level0]; decide),
      rangeApply_staged hs.1 k (v := w.v) (bit_maskWord_of_set (by decide) _ _)
      (bits_maskWord (by decide) _ _)]
    generalize maskWord _ old w.v = new
    have hset : Within [.regs, .host] (· = aPROT_RANGE_PERM k) s (rset (aPROT_RANGE_PERM k) new s) :=
      (Within.refl ..).rset new (by decide) rfl
    generalize hr : s.host.ranges.set k (stagedRange k w.v s) = r
    have hhost (l : Fin 4) (a : Nat) (u : State) : (endAccess 0 l true a u).host = u.host :=
      (within_endAccess true).1 .host (by decide)
    refine ⟨fun j hj => ?_, ?_, ?_, fun _ => ⟨?_, fun hlen => ?_, fun b hb => ?_⟩, fun hne => absurd hl hne⟩
    · rw [hhost, ← hr]
      exact List.getElem?_set_ne hj.symm
    · exact Within.ofEnd (hset.setHost _) _ _
    · rw [hhost]
    · exact lastStatus_endAccess (rset_regs_wf hs.1 _ _) (by decide)
    · rw [hhost, ← hr]
      exact List.getElem?_set_self (by omega)
    · simp only [List.mem_cons, List.not_mem_nil, or_false, not_or] at hb
      obtain ⟨hb, herr, haddr⟩ := hb
      exact (rget_endAccess_ok _ herr haddr).trans (hset.2 b hb)
  · have hl0 : ¬ w.lvl.val = 0 := fun h0 => hl (Fin.ext h0)
    rw [if_neg hl0, if_neg hl0, maskWord_zero]
    have hset : Within [.regs] (· = aPROT_RANGE_PERM k) s (rset (aPROT_RANGE_PERM k) old s) :=
      (Within.refl ..).rset old (by decide) rfl
    have hwf : spWf resetWord (rset (aPROT_RANGE_PERM k) old s).regs = true := rset_regs_wf hs.1 _ _
    have hold : rget (rset (aPROT_RANGE_PERM k) old s) (aPROT_RANGE_PERM k) = old := rget_rset_same hs.1 _ _
    have hsettle {u : State} (hu : Within [.regs] (· ∈ protFaultRegs ++ endRegs) (rset (aPROT_RANGE_PERM k) old s) u)
        {st : Nat} (hst : lastStatus u = st) :
        (∀ j, j ≠ k.val → u.host.ranges[j]? = s.host.ranges[j]?) ∧ KeepsBut [.regs, .host] s u ∧
          u.host.proof = s.host.proof ∧ (w.lvl = 0 → lastStatus u = 0 ∧
          (s.host.ranges.length = 16 → u.host.ranges[k.val]? = some (stagedRange k w.v s)) ∧
          RegsOnly [aPROT_RANGE_PERM k, aHOSTIF_LASTERR, aHOSTIF_LASTADDR] s u) ∧
          (w.lvl ≠ 0 → u.host = s.host ∧ lastStatus u = st ∧ rget u (aPROT_RANGE_PERM k) = old) := by
      have hhost : u.host = s.host := (hset.1.trans hu.1) .host (by decide)
      exact ⟨fun _ _ => by rw [hhost], (hset.1.trans hu.1).mono (by decide), by rw [hhost], fun h => absurd h hl,
        fun _ => ⟨hhost, hst, (hu.2 _ (perm_unrecorded k)).trans hold⟩⟩
    by_cases hk : rwpKept s w.lvl (aPROT_RANGE_PERM k) w.v = true
    · rw [if_pos hk, if_pos hk]
      exact hsettle ((within_protFault_regs ..).mono (fun _ h => h) (fun _ h => by simp [h]) |>.trans
        ((within_endAccess_regs true).mono (fun _ h => h) fun _ h => by simp [h]))
        (lastStatus_endAccess (((tidy_of_canonical hs).rset _ _).protFault ..).regs_wf (by decide))
    · rw [if_neg hk, if_neg hk]
      exact hsettle ((within_endAccess_regs true).mono (fun _ h => h) fun _ h => by simp [h])
        (lastStatus_endAccess hwf (by decide))

/-! ### O13: snapshots of the Proof window -/

section
variable {V : Type} {d : V}

theorem alGet_of_absent {l : List (Nat × V)} {a : Nat} (h : ∀ x ∈ l, x.1 ≠ a) : alGet d l a = d := by
  induction l with
  | nil => rfl
  | cons x l ih =>
    rw [alGet, if_neg (h x List.mem_cons_self), ih fun y hy => h y (List.mem_cons_of_mem _ hy)]

theorem alGet_append_absent {l m : List (Nat × V)} {a : Nat} (h : ∀ x ∈ l, x.1 ≠ a) : alGet d (l ++ m) a = alGet d m
    a := by
  induction l with
  | nil => rfl
  | cons x l ih =>
    rw [List.cons_append, alGet, if_neg (h x List.mem_cons_self), ih fun y hy => h y (List.mem_cons_of_mem _ hy)]

/-- Removing entries of other keys changes nothing at a key. -/
theorem alGet_filter {p : Nat × V → Bool} {a : Nat} (l : List (Nat × V)) (h : ∀ x ∈ l, x.1 = a → p x = true) :
    alGet d (l.filter p) a = alGet d l a := by
  induction l with
  | nil => rfl
  | cons x l ih =>
    have ih := ih fun y hy => h y (List.mem_cons_of_mem _ hy)
    by_cases hp : p x = true
    · rw [List.filter_cons_of_pos hp, alGet, alGet, ih]
    · have hx : x.1 ≠ a := fun hx => hp (h x List.mem_cons_self hx)
      rw [List.filter_cons_of_neg hp, alGet, if_neg hx, ih]

end

/-- A word put once into the window, where the kept words have none for its address, reads as put. -/
theorem alGet_proofPut {pre post m : List (Nat × Word)} {a : Nat} {v : Word} (hpre : ∀ x ∈ pre, x.1 ≠ a)
    (hpost : ∀ x ∈ post, x.1 ≠ a) (hm : ∀ x ∈ m, x.1 ≠ a) : alGet 0 (proofPut (pre ++ (a, v) :: post) ++ m) a = v := by
  have hf {l : List (Nat × Word)} (h : ∀ x ∈ l, x.1 ≠ a) : ∀ x ∈ proofPut l, x.1 ≠ a :=
    fun x hx => h x (List.mem_filter.1 hx).1
  rw [proofPut, List.filter_append, List.append_assoc, alGet_append_absent (l := List.filter _ pre) (hf hpre)]
  by_cases hv : v = 0
  · rw [List.filter_cons_of_neg (by simp [hv]), alGet_append_absent (l := List.filter _ post) (hf hpost),
      alGet_of_absent hm, hv]
  · rw [List.filter_cons_of_pos (by simpa using hv)]
    exact if_pos rfl

theorem proofBody_keys {x : Nat × Word} (h : x ∈ proofBody s) : 0x100 ≤ x.1 ∧ x.1 < 0x3F00 := by
  simp only [proofBody, List.mem_append, List.mem_map, List.mem_range, List.mem_finRange, true_and] at h
  obtain ((⟨k, hk, rfl⟩ | ⟨k, hk, rfl⟩) | ⟨k, hk, rfl⟩) | ⟨k, rfl⟩ := h
  · dsimp only; omega
  · dsimp only; omega
  · dsimp only; omega
  · have := k.isLt
    dsimp only; omega

/-- A snapshot of the head words and others behind them shows the sequence, the frame, the device word and the
  tickets. -/
theorem snapshot_taken {body : List (Nat × Word)} (hs : spWf resetWord s.regs = true)
    (hb : ∀ x ∈ body, 0x100 ≤ x.1 ∧ x.1 < 0x3F00) :
    snapshotTaken s (snapshot (proofHead s ++ body) s) ∧ KeepsBut [.regs, .host] s (snapshot (proofHead s ++ body) s) ∧
      RegsOnly [aHOSTIF_SNAP_CNT] s (snapshot (proofHead s ++ body) s) := by
  have hq : ∀ a, (a = 0 ∨ a = 0x3F00 ∨ ∃ x ∈ proofHead s, x.1 = a) →
      ∀ x ∈ s.host.proof.filter fun x => !((proofHead s ++ body).any fun y => y.1 == x.1) && x.1 != 0 && x.1 != 0x3F00,
      x.1 ≠ a := by
    rintro a ha x hx rfl
    simp only [List.mem_filter, Bool.and_eq_true, Bool.not_eq_true', bne_iff_ne] at hx
    obtain ⟨-, ⟨hany, h0⟩, h3⟩ := hx
    obtain h | h | ⟨y, hy, hyx⟩ := ha
    · exact h0 h
    · exact h3 h
    · rw [List.any_eq_false] at hany
      exact hany y (List.mem_append_left _ hy) (by simp [hyx])
  have hget (pre : List (Nat × Word)) (a : Nat) (v : Word) (post : List (Nat × Word)) (h : (0, s.host.seq + 2) ::
      (proofHead s ++ body) ++ [(0x3F00, s.host.seq + 2)] = pre ++ (a, v) :: post) (hpre : ∀ x ∈ pre, x.1 ≠ a)
      (hpost : ∀ x ∈ post, x.1 ≠ a) (ha : a = 0 ∨ a = 0x3F00 ∨ ∃ x ∈ proofHead s, x.1 = a) :
      proofWord (snapshot (proofHead s ++ body) s) a = v := by
    show alGet 0 (proofPut ((0, s.host.seq + 2) :: (proofHead s ++ body) ++ [(0x3F00, s.host.seq + 2)]) ++ _) a = v
    rw [h]
    exact alGet_proofPut hpre hpost (hq a ha)
  have hhead (i a : Nat) (v : Word) (h : (0, s.host.seq + 2) :: (proofHead s ++ body) ++ [(0x3F00, s.host.seq + 2)] =
      ((0, s.host.seq + 2) :: (proofHead s).take i) ++ (a, v) :: ((proofHead s).drop (i + 1) ++
        (body ++ [(0x3F00, s.host.seq + 2)]))) (ha : a ≠ 0 ∧ a < 0x100) (hpre : ∀ x ∈ (proofHead s).take i, x.1 ≠ a)
      (hdrop : ∀ x ∈ (proofHead s).drop (i + 1), x.1 ≠ a) (hm : ∃ x ∈ proofHead s, x.1 = a) :
      proofWord (snapshot (proofHead s ++ body) s) a = v := by
    obtain ⟨ha0, ha⟩ := ha
    refine hget _ a v _ h (List.forall_mem_cons.2 ⟨ha0.symm, hpre⟩) (fun x hx => ?_) (.inr (.inr hm))
    obtain hx | hx := List.mem_append.1 hx
    · exact hdrop x hx
    · obtain hx | hx := List.mem_append.1 hx
      · have := (hb x hx).1
        omega
      · rw [List.mem_singleton.1 hx]
        dsimp only
        omega
  have hfirst : proofWord (snapshot (proofHead s ++ body) s) 0 = s.host.seq + 2 := by
    refine hget [] 0 _ _ rfl (by simp) (fun x hx => ?_) (.inl rfl)
    obtain hx | hx := List.mem_append.1 hx
    · obtain hx | hx := List.mem_append.1 hx
      · exact (by simp [proofHead] : ∀ x ∈ proofHead s, x.1 ≠ 0) x hx
      · have := (hb x hx).1
        omega
    · rw [List.mem_singleton.1 hx]
      exact (by decide : 0x3F00 ≠ 0)
  have hlast : proofWord (snapshot (proofHead s ++ body) s) 0x3F00 = s.host.seq + 2 := by
    refine hget ((0, s.host.seq + 2) :: (proofHead s ++ body)) _ _ [] rfl (fun x hx => ?_) (by simp) (.inr (.inl rfl))
    obtain rfl | hx := List.mem_cons.1 hx
    · exact (by decide : 0 ≠ 0x3F00)
    · obtain hx | hx := List.mem_append.1 hx
      · exact (by simp [proofHead] : ∀ x ∈ proofHead s, x.1 ≠ 0x3F00) x hx
      · have := (hb x hx).2
        omega
  have hw : Within [.regs, .host] (· = aHOSTIF_SNAP_CNT) s (snapshot (proofHead s ++ body) s) :=
    ((Within.refl ..).setHost _).cnt _ (by decide) rfl
  refine ⟨⟨rfl, hfirst, hlast, ?_, ?_, ?_, ?_, ?_, rfl, rfl, rget_rset_same hs _ _⟩, hw.1, fun a ha => hw.2 a
    (by simpa using ha)⟩
  · exact hhead 0 4 _ rfl (by decide) (by simp) (by simp [proofHead]) (by simp [proofHead])
  · exact hhead 1 8 _ rfl (by decide) (by simp [proofHead]) (by simp [proofHead]) (by simp [proofHead])
  · exact hhead 2 0xC _ rfl (by decide) (by simp [proofHead]) (by simp [proofHead]) (by simp [proofHead])
  · exact hhead 3 0x10 _ rfl (by decide) (by simp [proofHead]) (by simp [proofHead]) (by simp [proofHead])
  · exact hhead 4 0x14 _ rfl (by decide) (by simp [proofHead]) (by simp [proofHead]) (by simp [proofHead])

/-- The fallback snapshot leaves the words behind the head as they were. -/
theorem proofWord_fallback {a : Nat} (ha : 0x18 < a) (h3 : a ≠ 0x3F00) :
    proofWord (snapshot (proofHead s) s) a = proofWord s a := by
  have hput : ∀ x ∈ proofPut ((0, s.host.seq + 2) :: proofHead s ++ [(0x3F00, s.host.seq + 2)]), x.1 ≠ a := by
    rintro x hx rfl
    have hx := (List.mem_filter.1 hx).1
    simp only [List.cons_append, List.mem_cons, proofHead, List.nil_append, List.not_mem_nil, or_false] at hx
    rcases hx with h | h | h | h | h | h | h | h <;> simp [h] at ha h3
  refine (alGet_append_absent hput).trans (alGet_filter _ fun x _ hx => ?_)
  subst hx
  have hany : ((proofHead s).any fun y => y.1 == x.1) = false := by
    simp only [proofHead, List.any_cons, List.any_nil, Bool.or_false, Bool.or_eq_false_iff, beq_eq_false_iff_ne]
    omega
  simp [hany, h3, show x.1 ≠ 0 by omega]

/-! ### O13: HOLD -/

theorem bit_fld {v lo i : Nat} (hi : i < 32) : bit (fld v lo) i = (decide (lo ≤ i) && v.testBit (i - lo)) := by
  simp only [bit, fld, BitVec.getLsbD_ofNat, Nat.testBit_shiftLeft, hi, decide_true, Bool.true_and]

/-- A written field holds the written bits; the others stay. -/
theorem bit_setBits (w : Word) (hi lo v : Nat) {i : Nat} (h : i < 32) :
    bit (setBits w hi lo v) i = if lo ≤ i ∧ i ≤ hi then v.testBit (i - lo) else bit w i := by
  have hm : bit (fld (2 ^ (hi + 1 - lo) - 1) lo) i = decide (lo ≤ i ∧ i ≤ hi) := by
    rw [bit_fld h, Nat.testBit_two_pow_sub_one]
    by_cases hl : lo ≤ i
    · simp only [hl, decide_true, Bool.true_and, true_and, decide_eq_decide]
      omega
    · simp [hl]
  rw [setBits, bit_or, bit_and, bit_not h, bit_and, hm, bit_fld h]
  by_cases hc : lo ≤ i ∧ i ≤ hi
  · simp [hc]
  · simp [hc]

theorem bits_setBits_same (w : Word) {hi lo : Nat} (h : hi < 32) (v : Nat) :
    bits (setBits w hi lo v) hi lo = v % 2 ^ (hi + 1 - lo) := by
  apply Nat.eq_of_testBit_eq
  intro i
  rw [bits, Nat.testBit_mod_two_pow, Nat.testBit_mod_two_pow, Nat.testBit_shiftRight]
  by_cases hi' : i < hi + 1 - lo
  · have hb := bit_setBits w hi lo v (i := lo + i) (by omega)
    rw [if_pos (by omega), Nat.add_sub_cancel_left] at hb
    rw [← hb]
    rfl
  · simp [hi']

/-- A written field leaves the bits of the others. -/
theorem bits_setBits_ne (w : Word) {hi lo hi' lo' : Nat} (v : Nat) (h : hi < 32) (hd : hi < lo' ∨ hi' < lo) :
    bits (setBits w hi' lo' v) hi lo = bits w hi lo :=
  bits_congr fun i hl hu => by rw [bit_setBits _ _ _ _ (by omega), if_neg (by omega)]

theorem pageAct_hostif {a : Nat} (hp : pageOf a = pgHOSTIF) (direct : Bool) (tk : Option Word) (l : Nat)
    (old new v : Word)
    (s : State) : pageAct direct tk l a old new v s =
      (if offOf a = 0x44 ∧ bit new 31 ∧ ¬ bit old 31 then { s with host := { s.host with holdCnt := 0 } } else s,
        false) := by
  unfold pageAct
  rw [hp]
  generalize offOf a = o
  rfl


theorem proofHold_effect (hs : Canonical s) {w : HW} (h : Accepted s aHOSTIF_PROOF w) :
    Runs (.proofHold w) s fun t => lastStatus t = 0 ∧ rbit t aHOSTIF_PROOF 31 = bit w.v 31 ∧
      rfld t aHOSTIF_PROOF 7 0 = bits w.v 7 0 ∧
      (if bit w.v 31 = true ∧ bit (heldReg s aHOSTIF_PROOF) 31 = false then t.host = { s.host with holdCnt := 0 }
        else t.host = s.host) ∧
      KeepsBut [.regs, .host] s t ∧ RegsOnly [aHOSTIF_PROOF, aHOSTIF_LASTERR, aHOSTIF_LASTADDR] s t := by
  refine ⟨_, rfl, ?_⟩
  unfold writeAt
  rw [hostWrite_of_actsAtOnce h rfl (by decide), pageAct_hostif (by decide),
    newWord_eq_maskWord (by decide) (by decide)]
  generalize heldReg s aHOSTIF_PROOF = old
  generalize hm : (if w.lvl.val = 0 then _ else _ : Word) = m
  have hmask : m = 0x800000FF#32 := by
    rw [← hm]
    split <;> rfl
  have h31 : bit (maskWord m old w.v) 31 = bit w.v 31 := bit_maskWord_of_set (by rw [hmask]; rfl) _ _
  have hlow : bits (maskWord m old w.v) 7 0 = bits w.v 7 0 :=
    bits_maskWord (by rw [hmask]; decide) _ _
  generalize maskWord m old w.v = new at h31 hlow ⊢
  have hoff : offOf aHOSTIF_PROOF = 0x44 := rfl
  have hset : Within [.regs, .host] (· = aHOSTIF_PROOF) s (rset aHOSTIF_PROOF new s) :=
    (Within.refl ..).rset new (by decide) rfl
  have hhost (u : State) : (endAccess 0 w.lvl true aHOSTIF_PROOF u).host = u.host :=
    (within_endAccess true).1 .host (by decide)
  have hsame : rget (rset aHOSTIF_PROOF new s) aHOSTIF_PROOF = new := rget_rset_same hs.1 _ _
  have hend {u : State} (hu : Within [.regs, .host] (· = aHOSTIF_PROOF) s u)
      (hp : rget u aHOSTIF_PROOF = new) (hwf : spWf resetWord u.regs = true) :
      lastStatus (endAccess 0 w.lvl true aHOSTIF_PROOF u) = 0 ∧
        rbit (endAccess 0 w.lvl true aHOSTIF_PROOF u) aHOSTIF_PROOF 31 = bit w.v 31 ∧
        rfld (endAccess 0 w.lvl true aHOSTIF_PROOF u) aHOSTIF_PROOF 7 0 = bits w.v 7 0 ∧
        KeepsBut [.regs, .host] s (endAccess 0 w.lvl true aHOSTIF_PROOF u) ∧
        RegsOnly [aHOSTIF_PROOF, aHOSTIF_LASTERR, aHOSTIF_LASTADDR] s (endAccess 0 w.lvl true aHOSTIF_PROOF u) := by
    have hr : rget (endAccess 0 w.lvl true aHOSTIF_PROOF u) aHOSTIF_PROOF = new :=
      (rget_endAccess_ok _ (by decide) (by decide)).trans hp
    refine ⟨lastStatus_endAccess hwf (by decide), ?_, ?_, hu.ofEnd _ _, fun b hb => ?_⟩
    · rw [rbit, hr, h31]
    · rw [rfld, hr, hlow]
    · simp only [List.mem_cons, List.not_mem_nil, or_false, not_or] at hb
      obtain ⟨hb, herr, haddr⟩ := hb
      exact (rget_endAccess_ok _ herr haddr).trans (hu.2 b hb)
  simp only [hoff, h31, true_and, Bool.not_eq_true]
  have hwf : spWf resetWord (rset aHOSTIF_PROOF new s).regs = true := rset_regs_wf hs.1 _ _
  by_cases hc : bit w.v 31 = true ∧ bit old 31 = false
  · obtain ⟨h0, hb31, hb7, hk, hr⟩ := hend (hset.setHost { s.host with holdCnt := 0 }) hsame hwf
    rw [if_pos hc]
    exact ⟨h0, hb31, hb7, by rw [if_pos hc]; exact hhost _, hk, hr⟩
  · obtain ⟨h0, hb31, hb7, hk, hr⟩ := hend hset hsame hwf
    rw [if_neg hc]
    exact ⟨h0, hb31, hb7, by rw [if_neg hc]; exact hhost _, hk, hr⟩

/-- Settles O13. -/
theorem protectionAndProofWindow : Obligations.ProtectionAndProofWindow := by
  refine ⟨fun s k w hs h => rangePermWrite_effect hs k h, fun s hs hl => ⟨_, rfl, ?_⟩, fun s hs hl => ⟨_, rfl, ?_⟩,
    fun s w hs h => proofHold_effect hs h, fun s hs hl => ⟨_, rfl, ?_⟩⟩
  · split
    · next h =>
      obtain ⟨hfab, htick, hhold, hshed⟩ := h
      have hrun : proofSnapshot s = fullSnapshot s := if_neg (by
        rw [hfab, htick, hhold, hl]
        rcases hshed with h | h <;> simp [h])
      rw [hrun]
      exact snapshot_taken hs.1 fun x hx => proofBody_keys hx
    · next h =>
      refine if_pos ?_
      by_contra hn
      simp only [not_or, Bool.not_eq_true, Bool.not_eq_false, not_and, not_not, hl, ge_iff_le] at hn
      obtain ⟨-, hfab, htick, hhold, hshed⟩ := hn
      refine h ⟨hfab, htick, hhold, ?_⟩
      by_cases h0 : s.shed = 0
      · exact .inl h0
      · exact .inr (hshed (by omega))
  · split
    · next h =>
      obtain ⟨hfab, hhold⟩ := h
      have hrun : fallbackSnapshot s = snapshot (proofHead s ++ []) s := by
        rw [List.append_nil]
        exact if_neg (by simp [hfab, hhold, hl])
      rw [hrun]
      obtain ⟨htaken, hk, hr⟩ := snapshot_taken (body := []) hs.1 (by simp)
      exact ⟨htaken, fun a ha h3 => by rw [List.append_nil]; exact proofWord_fallback ha h3, hk, hr⟩
    · next h =>
      refine if_pos ?_
      by_contra hn
      simp only [not_or, Bool.not_eq_true, Bool.not_eq_false, not_not] at hn
      exact h ⟨hn.2.1, hn.2.2⟩
  · rw [awake_run _ hl, proofHoldExpire]
    split
    · have hw : Within [.regs] (· ∈ [aHOSTIF_PROOF, aISTAT pgHOSTIF]) s
        (iset pgHOSTIF 1 (rput aHOSTIF_PROOF 31 31 0 s)) :=
        ((Within.refl ..).rput 31 31 0).iset 1
      have hp : rget (iset pgHOSTIF 1 (rput aHOSTIF_PROOF 31 31 0 s)) aHOSTIF_PROOF =
          setBits (rget s aHOSTIF_PROOF) 31 31 0 :=
        (rget_iset_ne _ _ _ (by decide)).trans (rget_rset_same hs.1 _ _)
      refine ⟨?_, rbit_iset (rput_regs_wf hs.1 _ _ _ _) _ (by decide), ?_, hw.1, fun a ha => hw.2 a ha⟩
      · rw [rbit, hp, bit_setBits _ _ _ _ (by decide)]
        rfl
      · rw [rfld, hp, bits_setBits_ne _ _ (by decide) (by decide), rfld]
    · rfl

/-! ### Bytes of a stored word -/

theorem rdByte_wrByte (h : Memory.wf s.mem) (a b : Nat) (v : Byte) :
    rdByte (wrByte a v s) b = if b = a then v else rdByte s b := by
  split
  · next hb => rw [hb, rdByte_wrByte_same h]
  · next hb => exact rdByte_wrByte_ne _ _ hb

/-- The store of one enabled byte. -/
def wrByteIf (b : Bool) (a : Nat) (v : Byte) (s : State) : State := if b then wrByte a v s else s

theorem wrByteIf_wf (h : Memory.wf s.mem) (b : Bool) (a : Nat) (v : Byte) : Memory.wf (wrByteIf b a v s).mem := by
  unfold wrByteIf
  split
  · exact wrByte_mem_wf h _ _
  · exact h

theorem rdByte_wrByteIf (h : Memory.wf s.mem) (b : Bool) (a c : Nat) (v : Byte) :
    rdByte (wrByteIf b a v s) c = if b = true ∧ c = a then v else rdByte s c := by
  unfold wrByteIf
  by_cases hb : b = true
  · simp [hb, rdByte_wrByte h]
  · simp [hb]

theorem wrWordBe_eq (a : Nat) (be : BitVec 4) (v : Word) (s : State) :
    wrWordBe a be v s = wrByteIf (be.getLsbD 3) (a + 3) (v.extractLsb' 24 8)
      (wrByteIf (be.getLsbD 2) (a + 2) (v.extractLsb' 16 8)
      (wrByteIf (be.getLsbD 1) (a + 1) (v.extractLsb' 8 8) (wrByteIf (be.getLsbD 0) a (v.extractLsb' 0 8) s))) := rfl

/-- A word's store under its byte enables. -/
theorem bytesStored_wrWordBe (h : Memory.wf s.mem) (a : Nat) (be : BitVec 4) (v : Word) :
    bytesStored a be v s (wrWordBe a be v s) := by
  have h0 := wrByteIf_wf h (be.getLsbD 0) a (v.extractLsb' 0 8)
  have h1 := wrByteIf_wf h0 (be.getLsbD 1) (a + 1) (v.extractLsb' 8 8)
  have h2 := wrByteIf_wf h1 (be.getLsbD 2) (a + 2) (v.extractLsb' 16 8)
  rw [wrWordBe_eq]
  refine ⟨fun j hj => ?_, fun b hb => ?_⟩
  · rw [rdByte_wrByteIf h2, rdByte_wrByteIf h1, rdByte_wrByteIf h0, rdByte_wrByteIf h]
    interval_cases j <;> simp
  · rw [rdByte_wrByteIf h2, rdByte_wrByteIf h1, rdByte_wrByteIf h0, rdByte_wrByteIf h, if_neg
      (by omega), if_neg (by omega),
      if_neg (by omega), if_neg (by omega)]

theorem wrWord_eq_wrWordBe (a : Nat) (v : Word) (s : State) : wrWord a v s = wrWordBe a 0xF#4 v s := rfl

theorem bytesStored_freshen {a : Nat} {be : BitVec 4} {v : Word} {t : State} (h : bytesStored a be v s t) (b : Nat) :
    bytesStored a be v s (freshen b t) :=
  ⟨fun j hj => (rdByte_freshen ..).trans (h.1 j hj), fun c hc => (rdByte_freshen ..).trans (h.2 c hc)⟩

theorem eccRead_ok {a : Nat} (h : flipsAt s a = 0) : eccRead a s = (s, false) := by
  unfold eccRead
  rw [h]
  rfl

theorem within_freshen (a : Nat) (s : State) : Within [.regs, .fab] (· = aISTAT pgECC) s (freshen a s) := by
  obtain ⟨x, h | h⟩ := freshen_cases a s
  · rw [h]
    exact ⟨fun p hp => by cases p <;> first | rfl | exact absurd (by decide) hp, fun _ _ => rfl⟩
  · rw [h]
    have hx : Within [.regs, .fab] (· = aISTAT pgECC) s { s with fab := x } :=
      ⟨fun p hp => by cases p <;> first | rfl | exact absurd (by decide) hp, fun _ _ => rfl⟩
    exact hx.iset _ (by decide) rfl

theorem within_wrWordBe (a : Nat) (be : BitVec 4) (v : Word) (s : State) : Within [.mem] (fun _ => False) s
    (wrWordBe a be v s) := by
  have h (b : Bool) (a : Nat) (v : Byte) (t : State) : Within [.mem] (fun _ => False) t (wrByteIf b a v t) := by
    unfold wrByteIf
    split
    · exact ⟨fun p hp => by cases p <;> first | rfl | exact absurd (by decide) hp, fun _ _ => rfl⟩
    · exact .refl ..
  rw [wrWordBe_eq]
  exact (((h _ _ _ _).trans (h _ _ _ _)).trans (h _ _ _ _)).trans (h _ _ _ _)

/-- A store under byte enables, whole or to a word without flipped bits, stores the enabled bytes. -/
theorem stWordBe_stored (hm : Memory.wf s.mem) {a : Nat} {be : BitVec 4} (h : be = 0xF#4 ∨ flipsAt s a = 0) (v : Word) :
    (stWordBe a be v s).2 = true ∧ bytesStored a be v s (stWordBe a be v s).1 ∧
      Within [.regs, .mem, .fab] (· = aISTAT pgECC) s (stWordBe a be v s).1 := by
  have hw : Within [.regs, .mem, .fab] (· = aISTAT pgECC) s (freshen a (wrWordBe a be v s)) :=
    ((within_wrWordBe a be v s).mono (by decide) fun _ h => h.elim).trans
      ((within_freshen ..).mono (by decide) fun _ h => h)
  have hb := bytesStored_freshen (bytesStored_wrWordBe hm a be v) a
  unfold stWordBe
  by_cases hf : be = 0xF#4
  · subst hf
    rw [if_pos rfl]
    exact ⟨rfl, hb, hw⟩
  · rw [if_neg hf, eccRead_ok (h.resolve_left hf)]
    exact ⟨rfl, hb, hw⟩

/-- A partial store whose read meets an uncorrectable error does not take effect (R412). -/
theorem stWordBe_ue {a : Nat} {be : BitVec 4} (hbe : be ≠ 0xF#4) (h : ueAt s a = true) (v : Word) :
    stWordBe a be v s = (eccUncorrectable a s, false) := by
  have hr : eccRead a s = (eccUncorrectable a s, true) := by
    unfold eccRead
    rw [beq_iff_eq.1 h]
  rw [stWordBe, if_neg hbe, hr]
  rfl


/-! ### Host writes to memory -/

theorem isPageAddr_of_le {a : Nat} (h : 0x50000 ≤ a) : isPageAddr a = false := by
  simp only [isPageAddr, Bool.and_eq_false_iff, decide_eq_false_iff_not]
  omega

/-- A served write outside the register pages, with HRDY_N not held, is a write to memory. -/
theorem hostWrite_memory {x : HostAcc} (h : Served s (busAddr x.addr) ⟨x.lvl, x.be, x.v⟩)
    (hp : 0x50000 ≤ busAddr x.addr)
    (hh : writeHeld s (busAddr x.addr) = false) :
    hostWrite x s = endAccess (memWrite (busAddr x.addr) x.be x.v s).2 x.lvl true (busAddr x.addr)
      (memWrite (busAddr x.addr) x.be x.v s).1 := by
  obtain ⟨hl, hg, hc⟩ := h
  have hl' : s.boot.held = .none := hl
  simp only [hostWrite, hl', ne_eq, not_true_eq_false, if_false, hg, hc, isPageAddr_of_le hp, hh, Bool.false_eq_true]

theorem writeHeld_shared {a : Nat} (h : a < 0x400000) : writeHeld s a = false := by
  have hm : pressMemAt a = none := by
    unfold pressMemAt
    rw [if_neg (by omega)]
  unfold writeHeld
  rw [hm]
  simp [show ¬ 0x1000000 ≤ a by omega]

theorem memWrite_shared {a : Nat} (h : 0x200000 ≤ a) (h' : a < 0x400000) (be : BitVec 4) (v : Word) :
    memWrite a be v s = sharedWrite a be v s := by
  unfold memWrite
  rw [if_neg (by omega), if_pos h']

/-- The rings of the Galley in shared SRAM. -/
theorem sharedWrite_galley {a : Nat} (h : 0x300000 ≤ a) (h' : a < 0x380000) (be : BitVec 4) (v : Word) :
    sharedWrite a be v s = if bank2Refused s a then refuseAt pgGALLEY 2 a s else memDone (stWordBe a be v s) := by
  unfold sharedWrite
  rw [if_neg (by omega), if_neg (by omega), if_pos h']

/-- Bytes of memory at the end of an access are those before it. -/
theorem bytesStored_endAccess {a : Nat} {be : BitVec 4} {v : Word} {t : State} (h : bytesStored a be v s t) (st : Nat)
    (l : Fin 4) (k : Nat) : bytesStored a be v s (endAccess st l.val true k t) := by
  have hm : (endAccess st l.val true k t).mem = t.mem := (within_endAccess true).1 .mem (by decide)
  have hb (b : Nat) : rdByte (endAccess st l.val true k t) b = rdByte t b := by rw [rdByte, hm, rdByte]
  exact ⟨fun j hj => (hb _).trans (h.1 j hj), fun b hn => (hb b).trans (h.2 b hn)⟩

/-- The end of a host store under byte enables. -/
theorem endAccess_stored {a : Nat} {be : BitVec 4} {v : Word} {t : State} (ht : Tidy s.pending True t)
    (hb : bytesStored a be v s t) (hw : Within [.regs, .mem, .fab] (· = aISTAT pgECC) s t) (l : Fin 4) :
    lastStatus (endAccess 0 l.val true a t) = 0 ∧ bytesStored a be v s (endAccess 0 l.val true a t) ∧
      KeepsBut [.regs, .mem, .fab] s (endAccess 0 l.val true a t) ∧ RegsBut [pgHOSTIF, pgECC] s
        (endAccess 0 l.val true a t) := by
  refine ⟨lastStatus_endAccess ht.regs_wf (by decide), bytesStored_endAccess hb _ _ _, hw.ofEnd _ _, fun b hp => ?_⟩
  have hp : pageOf b ≠ pgHOSTIF ∧ pageOf b ≠ pgECC := by simpa using hp
  have hend := (within_endAccess (s := t) (l := l) (a := a) (status := 0) true).2 b (by simpa [OnPages] using hp.1)
  exact hend.trans (hw.2 b fun h => hp.2 (by rw [h]; rfl))

/-! ### O15 -/

theorem pageAct_galley {a : Nat} (hp : pageOf a = pgGALLEY) (direct : Bool) (tk : Option Word) (l : Nat)
    (old new v : Word)
    (s : State) : pageAct direct tk l a old new v s =
      (if offOf a = 0x44 then prodWritten (Fin.ofNat 4 l) (bits old 15 0) (bits new 15 0) s
       else if offOf a = 0x70 then clientRstWrite (bits v 15 0) s
       else s, false) := by
  unfold pageAct
  rw [hp]
  generalize offOf a = o
  rfl

theorem blockRefuse_galley {a : Nat} (hp : pageOf a = pgGALLEY) (direct : Bool) (l : Nat) (old new v : Word) :
    blockRefuse s direct l a old new v =
      if offOf a = 0x44 then (if prodRefused s (bits v 15 0) then refuse 1 a [7] else none)
      else if offOf a = 0x70 ∧ l ≠ 0 then refuse 3 a
      else none := by
  unfold blockRefuse
  rw [hp]
  generalize offOf a = o
  dsimp only
  iterate 5 rw [if_neg (by decide)]
  rw [if_pos rfl]

theorem galley_clientRst (mask : Nat) (s : State) : (clientRstWrite mask s).galley = (clientReset mask s).galley := by
  unfold clientRstWrite
  dsimp only
  split
  · unfold sendCell
    split <;> rfl
  · rfl

theorem clientRst_clients (mask : Nat) (s : State) (c : Nat) :
    (clientRstWrite mask s).galley.clients[c]? =
      (s.galley.clients[c]?).map fun x => if mask.testBit c then ⟨false, x.seq, []⟩ else x := by
  rw [galley_clientRst]
  exact List.getElem?_mapIdx

theorem clientRst_length (mask : Nat) (s : State) :
    (clientRstWrite mask s).galley.clients.length = s.galley.clients.length := by
  rw [galley_clientRst]
  exact List.length_mapIdx

theorem within_clientRstWrite (mask : Nat) (s : State) :
    Within [.galley, .twin] (fun _ => False) s (clientRstWrite mask s) := by
  have h1 : Within [.galley, .twin] (fun _ => False) s (clientReset mask s) :=
    ⟨fun p hp => by cases p <;> first | rfl | exact absurd (by decide) hp, fun _ _ => rfl⟩
  unfold clientRstWrite
  dsimp only
  split
  · unfold sendCell
    split
    · exact h1.trans ⟨fun p hp => by cases p <;> first | rfl | exact absurd (by decide) hp, fun _ _ => rfl⟩
    · exact h1
  · exact h1

theorem testBit_bits {w : Word} {c : Nat} (hc : c < 16) : (bits w 15 0).testBit c = bit w c := by
  rw [bits, Nat.testBit_mod_two_pow, Nat.testBit_shiftRight, Nat.zero_add]
  simp only [show c < 15 + 1 - 0 by omega, decide_true, Bool.true_and]
  rfl

theorem bits_actBits {d : RegDef} {lo hi : Nat} (h : d.wo = 0xFFFF) (hh : hi < 16) (l : Nat) (v : Word) :
    bits (actBits d l v) hi lo = bits v hi lo := by
  refine bits_congr fun i _ hi' => ?_
  have hwo : bit (w32 0xFFFF) i = true := (by decide : ∀ i : Fin 16, bit (w32 0xFFFF) i = true) ⟨i, by omega⟩
  simp [actBits, bit_and, bit_or, h, hwo]

theorem eccUncorrectable_mem (a : Nat) (s : State) : (eccUncorrectable a s).mem = s.mem :=
  (keepsBut_of fun hl h => h.eccUncorrectable a hl) .mem (by decide)

/-- Settles O15. -/
theorem galleyRingWrites : Obligations.GalleyRingWrites := by
  refine ⟨fun s w hs h => ?_, fun s x hs h hlo hhi hb => ⟨fun hf => ?_, fun hbe hue => ?_⟩,
    fun s x hs h hlo hhi hb => ?_,
    fun s w hs h => ?_⟩
  · refine ⟨_, rfl, ?_⟩
    unfold writeAt
    rw [hostWrite_of_actsAtOnce h rfl
      (by decide), pageAct_galley (by decide), newWord_eq_maskWord (by decide) (by decide),
      if_pos (by decide)]
    generalize heldReg s aGALLEY_PROD = old
    generalize hm : (if w.lvl.val = 0 then _ else _ : Word) = m
    have hmask : m = 0xFFFF#32 := by
      rw [← hm]
      split <;> rfl
    have hlow : bits (maskWord m old w.v) 15 0 = bits w.v 15 0 := bits_maskWord (by rw [hmask]; decide) _ _
    generalize maskWord m old w.v = new at hlow ⊢
    rw [hlow, show (Fin.ofNat 4 w.lvl.val : Fin 4) = w.lvl from Fin.ext (Nat.mod_eq_of_lt w.lvl.isLt)]
    have hset : Within [.regs, .galley] (· = aGALLEY_PROD) s
        (prodWritten w.lvl (bits old 15 0) (bits w.v 15 0) (rset aGALLEY_PROD new s)) :=
      ((Within.refl [.regs, .galley] (· = aGALLEY_PROD) s).rset new (by decide) rfl).trans
        ⟨fun p hp => by cases p <;> first | rfl | exact absurd (by decide) hp, fun _ _ => rfl⟩
    have hp (u : State) : rget (endAccess 0 w.lvl true aGALLEY_PROD u) aGALLEY_PROD = rget u aGALLEY_PROD :=
      rget_endAccess_ok _ (by decide) (by decide)
    refine ⟨lastStatus_endAccess (rset_regs_wf hs.1 _ _) (by decide), ?_, ?_, hset.ofEnd _ _, fun b hb => ?_⟩
    · rw [rfld, hp]
      exact (congrArg (bits · 15 0) (rget_rset_same hs.1 _ _)).trans hlow
    · rw [show (endAccess 0 _ true _ _).galley = _ from (within_endAccess true).1 .galley (by decide)]
      rfl
    · simp only [List.mem_cons, List.not_mem_nil, or_false, not_or] at hb
      obtain ⟨hb, herr, haddr⟩ := hb
      exact (rget_endAccess_ok _ herr haddr).trans (hset.2 b hb)
  · refine ⟨_, rfl, ?_⟩
    obtain ⟨hok, hst, hw⟩ := stWordBe_stored hs.2.1 hf x.v
    rw [hostWrite_memory h (by omega) (writeHeld_shared (by omega)), memWrite_shared (by omega) (by omega),
      sharedWrite_galley hlo (by omega), hb, if_neg Bool.false_ne_true]
    simp only [memDone, hok, if_true]
    exact endAccess_stored ((tidy_of_canonical hs).stWordBe ..) hst hw _
  · refine ⟨_, rfl, ?_⟩
    rw [hostWrite_memory h (by omega) (writeHeld_shared (by omega)), memWrite_shared (by omega) (by omega),
      sharedWrite_galley hlo (by omega), hb, if_neg Bool.false_ne_true, stWordBe_ue hbe hue]
    exact ⟨lastStatus_endAccess ((tidy_of_canonical hs).eccUncorrectable _).regs_wf (by simp [memDone, stsUe]),
      Eq.trans ((within_endAccess true).1 .mem (by decide)) (eccUncorrectable_mem _ _)⟩
  · refine ⟨_, rfl, ?_⟩
    rw [hostWrite_memory h (by omega) (writeHeld_shared (by omega)), memWrite_shared (by omega) (by omega),
      sharedWrite_galley hlo hhi, if_pos hb]
    exact refusedWith_of_errcap hs (by decide) (by decide)
  · refine ⟨_, rfl, ?_⟩
    unfold writeAt
    rw [hostWrite_of_actsAtOnce h rfl (by decide), pageAct_galley (by decide), if_neg (by decide), if_pos (by decide),
      bits_actBits rfl (by decide)]
    generalize newWord _ _ _ _ _ = new
    have hset : Within [.regs, .galley, .twin] (fun _ => True) s
        (clientRstWrite (bits w.v 15 0) (rset aGALLEY_CLIENT_RST new s)) :=
      ((Within.refl ..).rset new (by decide) trivial).trans ((within_clientRstWrite ..).mono
        (by decide) fun _ h => h.elim)
    have hg (u : State) : (endAccess 0 w.lvl true aGALLEY_CLIENT_RST u).galley = u.galley :=
      (within_endAccess true).1 .galley (by decide)
    have hc (c : Nat) := clientRst_clients (bits w.v 15 0) (rset aGALLEY_CLIENT_RST new s) c
    refine ⟨lastStatus_endAccess ?_ (by decide), ?_, fun c hc16 hlt => ⟨fun hb => ?_, fun hb => ?_⟩, hset.ofEnd _ _⟩
    · exact (((tidy_of_canonical hs).rset _ _).clientRstWrite _).regs_wf
    · rw [hg]
      exact clientRst_length _ _
    · rw [hg, hc, testBit_bits hc16, hb]
      rw [show (rset aGALLEY_CLIENT_RST new s).galley.clients[c]? = some s.galley.clients[c] from
        List.getElem?_eq_getElem hlt]
      rfl
    · rw [hg, hc, testBit_bits hc16, hb]
      exact congrFun Option.map_id _

/-! ### O27: host writes to the shadow Forme -/

theorem pressMemAt_forme {a : Nat} (h : 0x1000000 ≤ a) : pressMemAt a = none := by
  unfold pressMemAt
  rw [if_neg (by omega)]

theorem writeHeld_forme {a : Nat} (h : 0x1000000 ≤ a) (hc : s.clk.coreGated = false) :
    writeHeld s a = ((formeRefuse s (decide (0x1400000 ≤ a))).isNone && mirrorFull s) := by
  unfold writeHeld
  rw [pressMemAt_forme h]
  simp [h, hc]

theorem memWrite_forme {a : Nat} (h : 0x1000000 ≤ a) (hc : s.clk.coreGated = false)
    (hr : formeRefuse s (decide (0x1400000 ≤ a)) = none) (be : BitVec 4) (v : Word) :
    memWrite a be v s = memDone (formeStore a be v s) := by
  unfold memWrite
  rw [if_neg (by omega), if_neg (by omega), pressMemAt_forme h, hc, hr]
  rfl

theorem memWrite_formeRefused {a c : Nat} (h : 0x1000000 ≤ a) (hc : s.clk.coreGated = false)
    (hr : formeRefuse s (decide (0x1400000 ≤ a)) = some c) (be : BitVec 4) (v : Word) :
    memWrite a be v s = refuseAt pgBASIN c a s := by
  unfold memWrite
  rw [if_neg (by omega), if_neg (by omega), pressMemAt_forme h, hc, hr]
  rfl

/-- A store in the shadow Forme; an ACTIVE queues the word for its partner. -/
theorem formeStore_stored (hs : Canonical s) {a : Nat} {be : BitVec 4} (ha : (a - 0x1000000) % 0x400000 < oRsv)
    (h : be = 0xF#4 ∨ flipsAt s a = 0) (v : Word) :
    (formeStore a be v s).2 = true ∧ bytesStored a be v s (formeStore a be v s).1 ∧
      (formeStore a be v s).1.basin.mirrorQ =
        s.basin.mirrorQ ++ (if isActive s then [(a, rdWord (formeStore a be v s).1 a)] else []) ∧
      Within [.regs, .mem, .fab, .basin] (· = aISTAT pgECC) s (formeStore a be v s).1 := by
  obtain ⟨hok, hst, hw⟩ := stWordBe_stored hs.2.1 h v
  have hw' := hw.mono (m := [.regs, .mem, .fab, .basin]) (by decide) fun _ h => h
  have hbasin : (stWordBe a be v s).1.basin = s.basin := hw.1 .basin (by decide)
  unfold formeStore
  rw [if_neg (by omega)]
  dsimp only
  by_cases hact : isActive s = true
  · rw [if_pos ⟨hok, hact⟩, if_pos hact, hbasin]
    exact ⟨rfl, hst, rfl, hw'.trans
      ⟨fun p hp => by cases p <;> first | rfl | exact absurd (by decide) hp, fun _ _ => rfl⟩⟩
  · rw [if_neg fun hc => hact hc.2, if_neg hact, hbasin, List.append_nil]
    exact ⟨hok, hst, rfl, hw'⟩

theorem rdWord_endAccess (st : Nat) (l : Fin 4) (k a : Nat) (t : State) : rdWord (endAccess st l.val true k t) a =
    rdWord t a := by
  have hm : (endAccess st l.val true k t).mem = t.mem := (within_endAccess true).1 .mem (by decide)
  exact rdWord_congr fun b _ _ => by rw [rdByte, hm, rdByte]

theorem Within.regsBut_end {l : List Part} {pages : List Nat} {t : State} (h : Within l (OnPages pages) s t) (st : Nat)
    (lv : Fin 4) (a : Nat) : RegsBut (pgHOSTIF :: pages) s (endAccess st lv.val true a t) := fun b hb => by
  rw [List.mem_cons, not_or] at hb
  exact ((within_endAccess (s := t) (l := lv) (a := a) (status := st) true).2 b
    (by simpa [OnPages] using hb.1)).trans (h.2 b hb.2)

theorem memDone_ok {r : State × Bool} (h : r.2 = true) : memDone r = (r.1, 0) := by rw [memDone, if_pos h]

/-- The end of a host store in the shadow Forme. -/
theorem endAccess_forme {a : Nat} {be : BitVec 4} {v : Word} {t : State} {l : List (Nat × Word)}
    (ht : Tidy s.pending True t) (hb : bytesStored a be v s t)
    (hq : t.basin.mirrorQ = l ++ (if isActive s then [(a, rdWord t a)] else []))
    (hw : Within [.regs, .mem, .fab, .basin] (· = aISTAT pgECC) s t) (lv : Fin 4) :
    let u := endAccess 0 lv.val true a t
    lastStatus u = 0 ∧ bytesStored a be v s u ∧ u.basin.mirrorQ = l ++ (if isActive s then [(a, rdWord u a)] else []) ∧
      KeepsBut [.regs, .mem, .fab, .basin] s u ∧ RegsBut [pgHOSTIF, pgECC] s u := by
  intro u
  have hbasin : u.basin = t.basin := (within_endAccess true).1 .basin (by decide)
  have hpage : Within [.regs, .mem, .fab, .basin] (OnPages [pgECC]) s t :=
    hw.mono (fun _ h => h) fun _ h => by rw [h]; exact List.mem_singleton.2 (pageOf_pageAddr _ _ (by decide))
  refine ⟨lastStatus_endAccess ht.regs_wf
    (by decide), bytesStored_endAccess hb _ _ _, ?_, hw.ofEnd _ _, hpage.regsBut_end _ _ _⟩
  rw [hbasin, hq, rdWord_endAccess]

theorem hostWrite_memory_of {x : HostAcc} (h : Served s (busAddr x.addr) ⟨x.lvl, x.be, x.v⟩)
    (hp : 0x50000 ≤ busAddr x.addr)
    (hh : writeHeld s (busAddr x.addr) = false) {t : State} {st : Nat}
      (hm : memWrite (busAddr x.addr) x.be x.v s = (t, st)) :
    hostWrite x s = endAccess st x.lvl true (busAddr x.addr) t := by
  rw [hostWrite_memory h hp hh, hm]

/-- While HRDY_N is held nothing happens. -/
theorem hostWrite_waits {x : HostAcc} (h : Served s (busAddr x.addr) ⟨x.lvl, x.be, x.v⟩) (hp : 0x50000 ≤ busAddr x.addr)
    (hh : writeHeld s (busAddr x.addr) = true) : hostWrite x s = s := by
  obtain ⟨hl, hg, hc⟩ := h
  have hl' : s.boot.held = .none := hl
  simp only [hostWrite, hl', ne_eq, not_true_eq_false, if_false, hg, hc, isPageAddr_of_le hp, hh, Bool.false_eq_true,
    if_true]

/-- Settles O27. -/
theorem shadowFormeWrites : Obligations.ShadowFormeWrites := by
  refine ⟨fun s x hs h hlo hc hr => ⟨fun ha hq hf => ?_, fun ha hq hbe hue => ?_, fun ha hq => ?_, fun hq => ?_⟩,
    fun s x c hs h hlo hc hcode href => ?_⟩
  · obtain ⟨hok, hst, hmq, hw⟩ := formeStore_stored hs ha hf x.v
    have hrun := hostWrite_memory_of h (le_trans (by decide) hlo) (by rw [writeHeld_forme hlo hc, hq, Bool.and_false])
      ((memWrite_forme hlo hc hr x.be x.v).trans (memDone_ok hok))
    exact ⟨_, congrArg Host.Outcome.next hrun, endAccess_forme ((tidy_of_canonical hs).formeStore ..) hst hmq hw _⟩
  · refine ⟨_, rfl, ?_⟩
    rw [hostWrite_memory h (le_trans
      (by decide) hlo) (by rw [writeHeld_forme hlo hc, hq, Bool.and_false]), memWrite_forme hlo hc hr,
      formeStore, if_neg (by omega), stWordBe_ue hbe hue]
    exact ⟨lastStatus_endAccess ((tidy_of_canonical hs).eccUncorrectable _).regs_wf (by simp [memDone, stsUe]),
      Eq.trans ((within_endAccess true).1 .mem (by decide)) (eccUncorrectable_mem _ _)⟩
  · refine ⟨_, rfl, ?_⟩
    rw [hostWrite_memory h (le_trans
      (by decide) hlo) (by rw [writeHeld_forme hlo hc, hq, Bool.and_false]), memWrite_forme hlo hc hr,
      formeStore, if_pos ha]
    exact ⟨lastStatus_endAccess hs.1 (by simp [memDone]), (Within.refl [.regs] (OnPages []) s).ofEnd _ _,
      (Within.refl [.regs] (OnPages []) s).regsBut_end _ _ _⟩
  · refine ⟨_, rfl, ?_⟩
    exact hostWrite_waits h (le_trans (by decide) hlo) (by rw [writeHeld_forme hlo hc, hr, hq]; rfl)
  · have hr : formeRefuse s (decide (0x1400000 ≤ busAddr x.addr)) = some c := by
      unfold formeRefuse
      rw [hcode]
      cases hact : activeOrSolo s
      · rfl
      · by_cases hlive : decide (0x1400000 ≤ busAddr x.addr) = s.basin.liveB
        · simp [hlive]
        · have hlock : s.basin.lock = true := by simpa [hact, hlive] using href
          simp [hlive, hlock]
    have hcsmall : c < 0x10000 := by
      rw [hcode]
      split
      · decide
      · split <;> decide
    refine ⟨_, rfl, ?_⟩
    rw [hostWrite_memory h (le_trans
      (by decide) hlo) (by rw [writeHeld_forme hlo hc, hr]; rfl), memWrite_formeRefused hlo hc hr]
    exact refusedWith_of_errcap hs hcsmall (by decide)

/-! ### The list of running entries -/

theorem record_running (e : Ev) (out late land done : Nat) (t : State) :
    (record e out late land done t).comp.running = t.comp.running := by rw [record_comp]

theorem cancelDeps_running (n : Nat) : ∀ (u : Word) (t : State), (cancelDeps n u t).comp.running = t.comp.running := by
  induction n with
  | zero => intro u t; rfl
  | succ n ih =>
    intro u t
    rw [cancelDeps]
    dsimp only
    rw [foldl_keeps (fun v : State => v.comp.running) fun v x => ?_]
    · rfl
    · rw [ih, record_running]

theorem selectCancel_running (e : Ev) (t : State) : (selectCancel e t).1.comp.running = t.comp.running := by
  unfold selectCancel applyCancel
  dsimp only
  split
  · exact (cancelDeps_running ..).trans (record_running ..)
  · rfl

theorem deferred_running (t : State) : (deferred t).comp.running = t.comp.running := by
  unfold deferred
  dsimp only
  split <;> rfl

theorem joinSel_running (e : Ev) (t : State) : (joinSel e t).comp.running = t.comp.running := by
  unfold joinSel
  extract_lets free _ r m
  have hr : r.1.comp.running = t.comp.running := by
    unfold r
    split
    · rfl
    · exact selectCancel_running e t
  split
  · exact deferred_running t
  · split
    · exact (deferred_running _).trans hr
    · exact hr

theorem releaseDeps_running (u : Word) (c : Nat) (t : State) : (releaseDeps u c t).comp.running = t.comp.running := by
  unfold releaseDeps
  refine foldl_keeps (fun v : State => v.comp.running) (fun v x => ?_) _ (mapFlight _ t)
  dsimp only
  split
  · exact joinSel_running ..
  · rfl

theorem finishAt_running (e : Ev) (d : Nat) (t : State) : (finishAt e d t).comp.running = t.comp.running := by
  unfold finishAt finish
  dsimp only
  split
  · exact (cancelDeps_running ..).trans (record_running ..)
  · exact (releaseDeps_running ..).trans (record_running ..)

theorem findEv_dropEv (t : Word) (l : List Ev) : findEv t (dropEv t l) = none := by
  rw [findEv, List.find?_eq_none]
  exact fun x hx => by simpa using (List.mem_filter.1 hx).2

/-- An entry that ends runs no more. -/
theorem findEv_finishRunning (t : Word) (d : Nat) (s : State) : findEv t (finishRunning t d s).comp.running = none := by
  unfold finishRunning
  split
  · next h => exact h
  · rw [finishAt_running]
    exact findEv_dropEv ..

/-! ### O28 -/

/-- The move of a change of a point that starts. -/
def startedMove (key : Nat) (w0 : Word) (zc : Option Nat) (ticket : Option Word) (s : State) : Move :=
  { (newMove key (changedWord s key w0 zc) zc s).1 with ticket := ticket }

/-- The Basin behind a change of a point that starts: the key's move gives way to the new one. -/
theorem startChange_basin (key : Nat) (w0 : Word) (zc : Option Nat) (ticket : Option Word) (s : State) :
    (startChange key w0 zc ticket s).basin = { (takeMove key s).basin with
      moves := (takeMove key s).basin.moves ++ [startedMove key w0 zc ticket s]
      ueWords := (takeMove key s).basin.ueWords.filter fun x => x.1 != key } := by
  let w := changedWord s key w0 zc
  let m := startedMove key w0 zc ticket s
  let s1 := setKeyWord key w (takeMove key s)
  let s2 : State := { s1 with basin := { s1.basin with
    moves := s1.basin.moves ++ [m], ueWords := s1.basin.ueWords.filter fun x => x.1 != key } }
  let s3 := if (newMove key w zc s).2 then badCode key s2 else s2
  have h1 : s1.basin = (takeMove key s).basin := by
    unfold s1 setKeyWord
    split
    · rfl
    · exact stWord_basin ..
  have h3 : s3.basin = s2.basin := by
    unfold s3 badCode
    split
    · split
      · exact keepsBut_of (l := [.regs]) (fun _ h => (h.iset ..).errcap ..) .basin (by decide)
      · exact keepsBut_of (l := [.regs]) (fun _ h => (h.iset ..).errcap ..) .basin (by decide)
    · rfl
  have h2 : s2.basin = { (takeMove key s).basin with
      moves := (takeMove key s).basin.moves ++ [m]
      ueWords := (takeMove key s).basin.ueWords.filter fun x => x.1 != key } :=
    congrArg (fun b : BasinSt => { b with moves := b.moves ++ [m], ueWords := b.ueWords.filter fun x => x.1 != key }) h1
  rw [show startChange key w0 zc ticket s = peak aBASIN_SLOT_PEAK (slotsBusy s3) s3 from rfl, peak]
  split
  · exact h3.trans h2
  · exact h3.trans h2

theorem findMove_startChange (key : Nat) (w0 : Word) (zc : Option Nat) (ticket : Option Word) (s : State) :
    findMove (startChange key w0 zc ticket s) key = some (startedMove key w0 zc ticket s) := by
  rw [findMove, startChange_basin, takeMove_moves, List.find?_append, List.find?_eq_none.2 fun x hx => by
    simpa using (List.mem_filter.1 hx).2]
  simp [startedMove, newMove]

theorem takeMove_waits (key : Nat) (s : State) : (takeMove key s).basin.waits = s.basin.waits := by
  unfold takeMove
  split
  · rfl
  · dsimp only
    split
    · rfl
    · split
      · rfl
      · rw [finishRunning_basin]
        rfl

theorem startChange_waits (key : Nat) (w0 : Word) (zc : Option Nat) (ticket : Option Word) (s : State) :
    (startChange key w0 zc ticket s).basin.waits = s.basin.waits := by
  rw [startChange_basin]
  exact takeMove_waits key s

theorem gainOf_changedWord (s : State) (key : Nat) (w : Word) (zc : Option Nat) : gainOf (changedWord s key w zc) =
    gainOf w := by
  unfold changedWord
  split
  · exact gainOf_masked ..
  · rfl


/-- The first waiting change starts its move, and leaves the list. -/
theorem waitStart_effect (w : WaitChg) (rest : List WaitChg) (s : State) :
    (waitStart w rest s).basin.waits = rest ∧
      (findMove (waitStart w rest s) w.key).map (·.t) = some (gainOf w.word) ∧
      (findMove (waitStart w rest s) w.key).map (·.land) = some s.tb.frame := by
  let s0 : State := { s with basin := { s.basin with waits := rest } }
  let s1 := startChange w.key w.word w.zc (if w.zc.isSome then w.ticket else none) s0
  have hb : (waitStart w rest s).basin = s1.basin := by
    unfold waitStart
    dsimp only
    split
    · split
      · exact finishRunning_basin ..
      · rfl
    · rfl
  have hm : findMove (waitStart w rest s) w.key = some _ :=
    (by rw [findMove, hb, findMove] : findMove (waitStart w rest s) w.key = findMove s1 w.key).trans
      (findMove_startChange ..)
  refine ⟨?_, ?_, ?_⟩
  · rw [hb]
    exact startChange_waits ..
  · rw [hm]
    exact congrArg some (gainOf_changedWord ..)
  · rw [hm]
    rfl

/-- A recall's completion leaves no move on a key that had none. -/
theorem tryRecallDone_noMove {t : Word} {key : Nat} (h : ∀ m ∈ s.basin.moves, m.key ≠ key) :
    ∀ m ∈ (tryRecallDone t s).basin.moves, m.key ≠ key := by
  unfold tryRecallDone
  split
  · exact h
  · dsimp only
    split
    · rw [iset, rset_basin, finishRunning_basin]
      intro m hm
      obtain ⟨x, hx, rfl⟩ := List.mem_map.1 hm
      have := h x (List.mem_filter.1 hx).1
      split <;> exact this
    · exact h

theorem findMove_eq_none {key : Nat} (h : ∀ m ∈ s.basin.moves, m.key ≠ key) : findMove s key = none :=
  List.find?_eq_none.2 fun m hm => by simpa using h m hm

theorem dropMove_noMove (key : Nat) (s : State) : ∀ m ∈ (dropMove key s).basin.moves, m.key ≠ key :=
  fun m hm => by simpa using (List.mem_filter.1 hm).2


/-- Setting the Basin changes the Basin and nothing else. -/
theorem keepsBut_basin (x : BasinSt) (s : State) : KeepsBut [.basin] s { s with basin := x } :=
  fun p hp => by cases p <;> first | rfl | exact absurd (by decide) hp

/-- A change that has reached its end leaves its slot. -/
theorem slotRelease_done {key d : Nat} {m : Move} (hm : findMove s key = some m) (hd : moveDone m = some d)
    (hslot : m.slot = true) (hdone : d ≤ s.tb.frame) :
    findMove (slotRelease key s) key = none ∧ (m.ticket = none → KeepsBut [.basin] s (slotRelease key s)) ∧
      ∀ tk, m.ticket = some tk → (∀ e ∈ s.basin.epochs, e.ticket ≠ tk) →
        findEv tk (slotRelease key s).comp.running = none := by
  have hdrop := dropMove_noMove key s
  unfold slotRelease
  simp only [hm, hd, hslot, hdone, and_self, if_true]
  cases ht : m.ticket with
  | none => exact ⟨findMove_eq_none hdrop, fun _ => keepsBut_basin _ s, fun tk h => nomatch h⟩
  | some t =>
    dsimp only
    split
    · next hany =>
      refine ⟨findMove_eq_none (tryRecallDone_noMove hdrop), fun h => (nomatch h), fun tk h hne => ?_⟩
      obtain ⟨e, he, het⟩ := List.any_eq_true.1 hany
      rw [← Option.some.inj h] at hne
      exact absurd (beq_iff_eq.1 het) (hne e he)
    · refine ⟨findMove_eq_none ?_, fun h => (nomatch h), fun tk h _ => ?_⟩
      · rw [finishRunning_basin]
        exact hdrop
      · rw [← Option.some.inj h]
        exact findEv_finishRunning ..

/-- Nothing of the recall `t` is in flight: its moves are done, no route carries its ticket. -/
def recallQuiet (t : Word) (s : State) : Prop :=
  (∀ m ∈ s.basin.moves, m.ticket = some t → ∃ d, moveDone m = some d ∧ d ≤ s.tb.frame) ∧
    ∀ x ∈ s.basin.sluices, t ∉ x.tickets ∧ ∀ q, x.queued = some q → q.ticket ≠ some t

/-- A recall with nothing in flight, its epoch closed, completes. -/
theorem tryRecallDone_quiet {t : Word} (hs : spWf resetWord s.regs = true) {e : Epoch} (he : e ∈ s.basin.epochs)
    (het : e.ticket = t) (hc : ∀ x ∈ s.basin.epochs, x.ticket = t → x.closed = true) (hq : recallQuiet t s) :
    (∀ x ∈ (tryRecallDone t s).basin.epochs, x.ticket ≠ t) ∧ rbit (tryRecallDone t s) (aISTAT pgBASIN) 1 = true ∧
      findEv t (tryRecallDone t s).comp.running = none := by
  obtain ⟨hmoves, hslu⟩ := hq
  unfold tryRecallDone
  cases hf : s.basin.epochs.find? (fun e => e.ticket == t) with
  | none => exact absurd (List.find?_eq_none.1 hf e he) (by simp [het])
  | some x =>
    have hx : x.closed = true := hc x (List.mem_of_find?_eq_some hf) (by simpa using List.find?_some hf)
    have hmine : ((s.basin.moves.filter fun m => m.ticket == some t).all fun m =>
        match moveDone m with | some d => decide (d ≤ s.tb.frame) | none => false) = true := by
      rw [List.all_eq_true]
      intro m hm
      obtain ⟨d, hd, hle⟩ := hmoves m (List.mem_filter.1 hm).1 (by simpa using (List.mem_filter.1 hm).2)
      simpa [hd] using hle
    have hroutes : (s.basin.sluices.any fun x => x.tickets.contains t ||
        (match x.queued with | some q => q.ticket == some t | none => false)) = false := by
      rw [List.any_eq_false]
      intro y hy hyt
      obtain ⟨h1, h2⟩ := hslu y hy
      rw [Bool.or_eq_true] at hyt
      rcases hyt with h | h
      · exact h1 (by simpa using h)
      · cases hq : y.queued with
        | none => simp [hq] at h
        | some q => exact h2 q hq (by simpa [hq] using h)
    dsimp only
    rw [if_pos ⟨hx, hmine, Bool.eq_false_iff.1 hroutes⟩]
    refine ⟨fun y hy => ?_, rbit_iset ?_ _ (by decide), findEv_finishRunning ..⟩
    · rw [iset, rset_basin, finishRunning_basin] at hy
      simpa using (List.mem_filter.1 hy).2
    · exact ((Settles.refl doneParts (· ∈ doneRegs) _).finishRunning room_done _ _).regsWf hs

theorem tryRecallDone_epochs (t : Word) (s : State) : ∀ x ∈ (tryRecallDone t s).basin.epochs, x ∈ s.basin.epochs := by
  unfold tryRecallDone
  split
  · exact fun _ h => h
  · dsimp only
    split
    · rw [iset, rset_basin, finishRunning_basin]
      exact fun x hx => (List.mem_filter.1 hx).1
    · exact fun _ h => h

/-- The first epoch that has reached its last frame closes, and its recall completes if nothing of it is in flight. -/
theorem epochEnd_effect (hs : spWf resetWord s.regs = true) {e : Epoch}
    (hf : s.basin.epochs.find? (epochCan s) = some e) :
    (∀ x ∈ (epochEnd s).basin.epochs, x.ticket = e.ticket → x.closed = true) ∧
      (recallQuiet e.ticket s → (∀ x ∈ (epochEnd s).basin.epochs, x.ticket ≠ e.ticket) ∧
        rbit (epochEnd s) (aISTAT pgBASIN) 1 = true ∧ findEv e.ticket (epochEnd s).comp.running = none) := by
  let close (x : Epoch) : Epoch :=
    if x.ticket = e.ticket then { x with closed := true, last := max x.last (epochLast s e) } else x
  let s1 : State := { s with basin := { s.basin with epochs := s.basin.epochs.map close } }
  have hrun : epochEnd s = tryRecallDone e.ticket s1 := by
    unfold epochEnd
    extract_lets can
    have hcan : s.basin.epochs.find? can = some e := hf
    simp only [hcan]
    rfl
  have hticket (x : Epoch) : (close x).ticket = x.ticket := by
    unfold close
    split <;> rfl
  have hclosed : ∀ x ∈ s1.basin.epochs, x.ticket = e.ticket → x.closed = true := by
    intro x hx hxt
    obtain ⟨y, -, rfl⟩ := List.mem_map.1 hx
    rw [hticket] at hxt
    unfold close
    rw [if_pos hxt]
  have he : close e ∈ s1.basin.epochs := List.mem_map_of_mem (List.mem_of_find?_eq_some hf)
  rw [hrun]
  exact ⟨fun x hx => hclosed x (tryRecallDone_epochs _ _ x hx),
    fun hq => tryRecallDone_quiet (s := s1) hs he (hticket e) hclosed hq⟩


/-- Where the tickets of a route that ends are told, routes and live words stay. -/
theorem sluiceTickets_keep (l : List Word) (d : Nat) (s : State) :
    (l.foldl (fun s t => sluiceTicket t d s) s).basin.sluices = s.basin.sluices ∧
      ∀ o, routeWord (l.foldl (fun s t => sluiceTicket t d s) s) o = routeWord s o := by
  have h : Settles basinParts (· ∈ basinRegs) s (l.foldl (fun s t => sluiceTicket t d s) s) :=
    .foldl (fun _ _ hu => hu.sluiceTicket room_basin _ _) _ (.refl ..)
  exact ⟨foldl_keeps (fun u : State => u.basin.sluices) (fun u x => sluiceTicket_sluices ..) l s, fun o => h.liveWord _⟩

/-- A Sluice that has run its length ends; a queued route that differs starts behind it. -/
theorem sluiceEnd_effect (hm : Memory.wf s.mem) {o : Nat} {x : Sluice}
    (hf : (s.basin.sluices.find? fun y => y.o == o) = some x) (hd : sluiceDone x ≤ s.tb.frame) :
    match x.queued with
    | some q =>
      if routeEq q.src x.new = false then routeWord (sluiceEnd o s) o = q.src ∧
        ∃ y ∈ (sluiceEnd o s).basin.sluices, y.o = o ∧ y.old = x.new ∧ y.new = q.src ∧ y.l = q.l ∧ y.start =
          sluiceDone x + 1
      else ∀ y ∈ (sluiceEnd o s).basin.sluices, y.o ≠ o
    | none => ∀ y ∈ (sluiceEnd o s).basin.sluices, y.o ≠ o := by
  have hout : ∀ y ∈ s.basin.sluices.filter (fun y => y.o != o) ++ [], y.o ≠ o := fun y hy => by
    rw [List.append_nil] at hy
    simpa using (List.mem_filter.1 hy).2
  unfold sluiceEnd
  simp only [hf, if_pos hd]
  cases hq : x.queued with
  | none =>
    dsimp only
    rw [(sluiceTickets_keep ..).1]
    exact hout
  | some q =>
    dsimp only
    by_cases hr : routeEq q.src x.new = true
    · rw [if_neg (by simp [hr])]
      simp only [hr, if_true]
      rw [(sluiceTickets_keep ..).1]
      exact hout
    · simp only [hr, if_true]
      rw [(sluiceTickets_keep ..).1, (sluiceTickets_keep ..).2]
      refine ⟨?_, _, List.mem_append_right _ (List.mem_singleton_self _), rfl, rfl, rfl, rfl, rfl⟩
      rw [routeWord, Machine.liveWord, liveBase]
      simp only [Bool.false_eq_true, if_false, List.foldl_cons, List.foldl_nil, stWord_basin]
      have ha : formeBase s.basin.liveB + (oRouter + 8 * o) = liveBase s + oRouter + 8 * o := (Nat.add_assoc ..).symm
      rw [ha]
      exact rdWord_stWord hm _ _

theorem pageAct_basin {a : Nat} (hp : pageOf a = pgBASIN) (direct : Bool) (tk : Option Word) (l : Nat)
    (old new v : Word)
    (s : State) : pageAct direct tk l a old new v s =
      (if offOf a = 0x60 ∧ bit v 0 then formeCrcStart (bit new 4) s
       else if offOf a = 0x68 then peak aBASIN_SLOT_PEAK (slotsBusy s) s else s, false) := by
  unfold pageAct
  rw [hp]
  generalize offOf a = o
  rfl

/-- An accepted start of a Forme CRC runs it over the selected Forme. -/
theorem formeCrcStart_effect (hs : Canonical s) {w : HW}
    (h : Accepted s aBASIN_CRC_CTRL ⟨w.lvl, w.be, setBits w.v 0 0 1⟩) :
    Runs (.formeCrcStart w) s fun t => lastStatus t = 0 ∧ t.basin.crcRun = some (bit w.v 4) ∧ KeepsBut
      [.regs, .basin] s t := by
  refine ⟨_, rfl, ?_⟩
  unfold writeBits
  rw [hostWrite_of_actsAtOnce (w := ⟨w.lvl, w.be, setBits w.v 0 0 1⟩) h rfl (by decide), pageAct_basin (by decide),
    newWord_eq_maskWord (by decide) (by decide)]
  generalize heldReg s aBASIN_CRC_CTRL = old
  generalize hm : (if w.lvl.val = 0 then _ else _ : Word) = m
  have hmask : m = 0x10#32 := by
    rw [← hm]
    split <;> rfl
  have h4 : bit (maskWord m old (setBits w.v 0 0 1)) 4 = bit w.v 4 :=
    (bit_maskWord_of_set (by rw [hmask]; rfl) _ _).trans (bit_setBits _ _ _ _ (by decide))
  generalize maskWord m old (setBits w.v 0 0 1) = new at h4 ⊢
  have h0 (d : RegDef) (hd : d.w1s = 1) : bit (actBits d w.lvl (setBits w.v 0 0 1)) 0 = true := by
    rw [actBits, bit_and, bit_setBits _ _ _ _ (by decide), hd]
    simp only [bit_or]
    rfl
  rw [if_pos ⟨by decide, h0 _ rfl⟩, h4]
  have hw : Within [.regs, .basin] (fun _ => True) s (formeCrcStart (bit w.v 4) (rset aBASIN_CRC_CTRL new s)) :=
    ((Within.refl ..).rset new (by decide) trivial).trans ⟨(keepsBut_basin _ _).mono
      (by decide), fun _ h => absurd trivial h⟩
  refine ⟨lastStatus_endAccess (rset_regs_wf hs.1 _ _) (by decide), ?_, hw.ofEnd _ _⟩
  exact congrArg (·.crcRun) ((within_endAccess true).1 .basin (by decide))

theorem shadowUnlock_unlocks (hlock : s.basin.lock = true)
    (hopen : ((openEvs s ++ flightEvs s).any fun e => e.e.opcode == opRecall) = false) (he : s.basin.epochs = [])
    (hlast : ∀ l, s.basin.lastRecall = some l → l < s.tb.frame) :
    shadowUnlock s = { s with basin := { s.basin with lock := false } } := by
  refine if_pos ?_
  rw [hlock, hopen, he]
  cases hlr : s.basin.lastRecall with
  | none => rfl
  | some l => exact decide_eq_true (hlast l hlr)

/-- A crossfade of path `p` that has run its length and was not yet reported. -/
def jetEnded (p : Nat) (s : State) (c : JetC) : Bool := c.p == p && !c.rep && decide (c.start + c.l ≤ s.tb.frame + 1)

/-- A crossfade that has run its length is reported; one upward stays as reported, one downward goes. -/
theorem jetXfadeEnd_effect (hs : spWf resetWord s.regs = true) {p : Nat} {c : JetC} (hc : c ∈ s.basin.jets)
    (hended : jetEnded p s c = true) :
    rbit (jetXfadeEnd p s) (aISTAT pgJET) 2 = true ∧ c ∉ (jetXfadeEnd p s).basin.jets ∧
      (c.up = true → { c with rep := true } ∈ (jetXfadeEnd p s).basin.jets) ∧ KeepsBut [.regs, .basin] s
        (jetXfadeEnd p s) := by
  let js := (s.basin.jets.filter fun c => !(jetEnded p s c && !c.up)).map fun c => if jetEnded p s c then
    { c with rep := true } else c
  have hrun : jetXfadeEnd p s = iset pgJET 2 (setBasin { s.basin with jets := js } s) :=
    if_pos (List.any_eq_true.2 ⟨c, hc, hended⟩)
  have hw : Within [.regs, .basin] (fun _ => True) s (setBasin { s.basin with jets := js } s) :=
    ⟨(keepsBut_basin _ s).mono (by decide), fun _ h => absurd trivial h⟩
  have hrep : c.rep = false := by
    simp only [jetEnded, Bool.and_eq_true, Bool.not_eq_true'] at hended
    exact hended.1.2
  rw [hrun]
  refine ⟨rbit_iset hs _ (by decide), fun hmem => ?_, fun hup => ?_, (hw.iset _ (by decide) trivial).1⟩
  · obtain ⟨y, -, hyc⟩ := List.mem_map.1 hmem
    by_cases hy : jetEnded p s y = true
    · rw [if_pos hy] at hyc
      rw [← hyc] at hrep
      cases hrep
    · rw [if_neg hy] at hyc
      exact hy (hyc ▸ hended)
  · exact List.mem_map.2 ⟨c, List.mem_filter.2 ⟨hc, by simp [hup]⟩, if_pos hended⟩

/-- Settles O28. -/
theorem basinEvents : Obligations.BasinEvents := by
  refine ⟨fun s z x hl hx hz he hb => ?_, fun s m n hl hm hd hh hr hn => ?_, fun s w hs hl hw => ?_,
    fun s key d m hs hl hm hd hslot hdone => ?_, fun s e hs hl hf => ?_, fun s hl hlock hopen he hlast => ?_,
    fun s o x hs hl hf hd => ?_, fun s w hs h => formeCrcStart_effect hs h, fun s b hs hl hb => ?_,
    fun s p c hs hl hc hp hr hd => ?_⟩
  · refine ⟨_, rfl, ?_⟩
    rw [awake_run _ hl]
    exact ⟨List.mem_map.2 ⟨x, hx, if_pos ⟨hz, he, hb⟩⟩, keepsBut_basin _ s⟩
  · refine ⟨_, rfl, ?_⟩
    rw [awake_run _ hl]
    refine ⟨List.mem_map.2 ⟨m, hm, ?_⟩, keepsBut_basin _ s⟩
    rw [hd]
    exact if_pos ⟨rfl, hh, hr, hn⟩
  · refine ⟨_, rfl, ?_⟩
    rw [awake_run _ hl, slotWaitStart, hw]
    dsimp only
    rw [if_pos rfl]
    exact waitStart_effect w _ s
  · refine ⟨_, rfl, ?_⟩
    rw [awake_run _ hl]
    exact slotRelease_done hm hd hslot hdone
  · refine ⟨_, rfl, ?_⟩
    rw [awake_run _ hl]
    obtain ⟨hclosed, hquiet⟩ := epochEnd_effect hs.1 hf
    exact ⟨hclosed, fun hm hx => hquiet ⟨hm, hx⟩⟩
  · refine ⟨_, rfl, ?_⟩
    rw [awake_run _ hl, shadowUnlock_unlocks hlock hopen he hlast]
    exact ⟨rfl, keepsBut_basin _ s⟩
  · refine ⟨_, rfl, ?_⟩
    rw [awake_run _ hl]
    exact sluiceEnd_effect hs.2.1 hf hd
  · refine ⟨_, rfl, ?_⟩
    rw [awake_run _ hl, formeCrcDone, hb]
    have hw : Within [.regs, .basin] (fun _ => True) s { s with basin := { s.basin with crcRun := none } } :=
      ⟨(keepsBut_basin _ s).mono (by decide), fun _ h => absurd trivial h⟩
    refine ⟨?_, rbit_iset (rset_regs_wf hs.1 _ _) _
      (by decide), rfl, ((hw.rset _ (by decide) trivial).iset _ (by decide) trivial).1⟩
    exact (rget_iset_ne _ _ _ (by decide)).trans (rget_rset_same hs.1 _ _)
  · refine ⟨_, rfl, ?_⟩
    rw [awake_run _ hl]
    exact jetXfadeEnd_effect hs.1 hc (by simp [jetEnded, hp, hr, hd])

/-! ### Statements that hold for canonical registers alone: a register listed twice, written its reset value, reads
  as its second entry -/

/-- A device in operation whose registers list one address twice, with the values `v` and `w`. -/
def listedTwice (a : Nat) (v w : Word) : State := { operating with regs := [(a, v), (a, w)] }

/-- The register of the steps made reads as -1 first and as 7 behind it; one step forward waits. -/
def steppingTwice : State :=
  { listedTwice aPLLM_PSTEP_SUM 0xFFFFFFFF#32 7 with clk := { ClockSt.reset with psteps := 1 } }

theorem pstepDone_steppingTwice : rget (pstepDone steppingTwice) aPLLM_PSTEP_SUM = 7#32 := by decide

/-- Refutes O53: where phase steps are done it does not ask for canonical registers. -/
theorem not_loopsSearchesAndDomains : ¬ Obligations.LoopsSearchesAndDomains := by
  intro h
  obtain ⟨-, -, -, -, -, -, -, -, -, -, -, -, -, hsteps, -⟩ := h
  obtain ⟨t, ht, -, hsum, -⟩ := (hsteps steppingTwice rfl).1 (by decide)
  cases ht
  exact absurd (pstepDone_steppingTwice.symm.trans hsum) (by decide)

/-- A standby that compares no region any more, in its first phase, whose count of differing regions is listed twice. -/
def syncingTwice : State :=
  { listedTwice aTWIN_DIFF_REGIONS 1 7 with twin := { TwinSt.reset with st := .syncing, phase := 1 } }

theorem syncPhaseEnd_syncingTwice : rget (syncPhaseEnd syncingTwice) aTWIN_DIFF_REGIONS = 7#32 := by decide

/-- Refutes O55: where the phases of a synchronization end it does not ask for canonical registers. -/
theorem not_quoinAndTwinStates : ¬ Obligations.QuoinAndTwinStates := by
  intro h
  obtain ⟨-, -, -, -, -, -, -, -, -, -, -, -, -, hphase, -⟩ := h
  obtain ⟨t, ht, -, -, hcount, -⟩ := (hphase syncingTwice rfl rfl rfl).2.1 (by decide) rfl
  cases ht
  exact absurd (syncPhaseEnd_syncingTwice.symm.trans hcount) (by decide)

/-- Press 0 runs at the first block boundary; its overrun count is listed twice. -/
def overrunTwice : State :=
  { listedTwice (aPRESS_OVR_CNT 0) 0xFFFFFFFF#32 7 with
    tb := { TimebaseSt.reset with frame := 1 }
    press := operating.press.set 0 { operating.press[0] with mode := .run, wait := false } }

theorem blockTick_overrunTwice : rget (blockTickCheck [] overrunTwice) (aPRESS_OVR_CNT 0) = 7#32 := by decide +kernel

theorem exec_blockTick (l : List (Fin 16)) (hl : Live s) : exec (.blockTick l) s = .next (blockTickCheck l s) :=
  congrArg Host.Outcome.next (awake_run _ hl)

/-- Refutes O30: where a block tick counts overruns it does not ask for canonical registers. -/
theorem not_pressTicksStartsAndStops : ¬ Obligations.PressTicksStartsAndStops := by
  intro h
  obtain ⟨htick, -⟩ := h
  obtain ⟨t, ht, hp⟩ := htick overrunTwice [] rfl (by decide) (by decide)
  have hrun : blockTickCheck [] overrunTwice = t := Host.Outcome.next.inj ((exec_blockTick [] rfl).symm.trans ht)
  obtain ⟨-, -, -, -, -, hcount⟩ := hp 0
  obtain ⟨hsum, -⟩ := hcount (by decide) (by decide)
  rw [← hrun] at hsum
  exact absurd (blockTick_overrunTwice.symm.trans hsum) (by decide)

end Sys2Proof.Machine
end

section
/-!
PROOFS. The loop of the DPLL, rate changes, the time counters and the references: O48, O50, O51, O54.
-/

-- One declaration after another: side by side, the stacks of the threads exceed what memory the check allows.
set_option Elab.async false

namespace Sys2Proof.Machine

variable {s : State}

/-! ### Commands of the device's own blocks -/

/-- A command that a live device lets act. -/
theorem runs_awake {c : Instr} {f : State → State} {P : State → Prop} (hl : Live s) (hc : exec c s = .next (awake f s))
    (h : P (f s)) : Runs c s P :=
  ⟨f s, hc.trans (congrArg Host.Outcome.next (awake_run f hl)), h⟩

/-- A command of the start-up that stands or is over acts, and the start-up does not move on. -/
theorem runs_inOperation {c : Instr} {f : State → State} {P : State → Prop} (ho : inOperation s)
    (hc : exec c s = .next (awake (fun u => bootAdvance (f u)) s)) (hb : (f s).boot = s.boot) (h : P (f s)) : Runs c
      s P := by
  have hop : inOperation (f s) := by
    unfold inOperation at ho ⊢
    rwa [Live, hb]
  exact runs_awake ho.1 hc (by rwa [bootAdvance_of_inOperation hop])

theorem Within.regsOnly {l : List Part} {L : List Nat} {t : State} (h : Within l (· ∈ L) s t) : RegsOnly L s t := h.2

/-- The registers that an accepted write leaves as they were. -/
theorem Within.regsOnly_end {l : List Part} {A : Nat → Prop} {L : List Nat} {t : State} (h : Within l A s t)
    (lvl : Fin 4)
    (a : Nat) (hA : ∀ b, A b → b ∈ L) (herr : aHOSTIF_LASTERR ∈ L := by decide)
      (haddr : aHOSTIF_LASTADDR ∈ L := by decide) :
    RegsOnly L s (endAccess 0 lvl.val true a t) := by
  intro b hb
  rw [rget_endAccess_ok _ (fun h1 : b = _ => hb (h1 ▸ herr)) (fun h2 : b = _ => hb (h2 ▸ haddr))]
  exact h.2 b fun hAb => hb (hA b hAb)

theorem Within.setDpll {l : List Part} {A : Nat → Prop} {t : State} (h : Within l A s t) (x : DpllSt)
    (hl : .dpll ∈ l := by decide) : Within l A s (setDpll x t) :=
  ⟨fun p hp => (h.1 p hp).trans (by cases p <;> first | rfl | exact absurd hl hp), h.2⟩

/-- A bit that has been set reads as set, whether or not the registers are in canonical form. -/
theorem spGet_spSet_of_ne {V : Type} [DecidableEq V] {d : Nat → V} (l : List (Nat × V)) {k : Nat} {v : V}
    (h : v ≠ d k) :
    spGet d (spSet d l k v) k = v := by
  induction l with
  | nil => simp [spSet, spGet, h]
  | cons x t ih =>
    obtain ⟨a, w⟩ := x
    unfold spSet
    split
    · simp [spGet]
    · split
      · simp [spGet]
      · next hne => simp [spGet, hne, ih]

theorem resetWord_istat : ∀ p : Fin 64, resetWord (aISTAT p) = 0#32 := by decide

theorem rbit_iset_any (p : Fin 64) {b : Nat} (hb : b < 32) (t : State) : rbit (iset p b t) (aISTAT p) b = true := by
  have hbit : bit (rget t (aISTAT p) ||| flg true b) b = true := by rw [bit_or, bit_flg _ _ _ hb]; simp
  have hne : rget t (aISTAT p) ||| flg true b ≠ resetWord (aISTAT p) := by
    rw [resetWord_istat]
    intro h0
    rw [h0] at hbit
    simp [bit] at hbit
  have hget : rget (iset p b t) (aISTAT p) = rget t (aISTAT p) ||| flg true b := spGet_spSet_of_ne _ hne
  rw [rbit, hget]
  exact hbit

/-! ### O51 -/

theorem dwelt_iff (since : Option Nat) (d : Nat) : dwelt s since d = true ↔ ∃ u, since = some u ∧ u + d ≤ s.now := by
  unfold dwelt
  cases since <;> simp

theorem pullLeft_eq_zero : pullLeft s = 0 ↔ s.dpll.pull.natAbs * 1000000000 ≤ pslope s * (s.now - s.dpll.pullT) := by
  have hdiv := Nat.le_div_iff_mul_le (x := s.dpll.pull.natAbs) (y := pslope s * (s.now - s.dpll.pullT))
      (k := 1000000000)
    (by decide)
  unfold pullLeft
  dsimp only
  rw [← hdiv]
  generalize pslope s * (s.now - s.dpll.pullT) / 1000000000 = done
  split
  · next h => simp [h]
  · next h =>
    refine iff_of_false ?_ h
    split <;> omega

theorem lockDeclared_due (h : s.dpll.st = .acquire ∧ ∃ u, s.dpll.inSince = some u ∧ u + dwellOf s s.dpll.step ≤ s.now) :
    lockDeclared s = iset pgDPLL 0 (setDpll { s.dpll with st := .locked, inSince := some s.now, outSince := none } s) :=
  if_pos ⟨h.1, (dwelt_iff ..).2 h.2⟩

theorem lockDeclared_not (h : ¬ (s.dpll.st = .acquire ∧ ∃ u, s.dpll.inSince = some u ∧ u + dwellOf s s.dpll.step ≤
    s.now)) :
    lockDeclared s = s :=
  if_neg fun hd => h ⟨hd.1, (dwelt_iff ..).1 hd.2⟩

theorem within_iset_dpll (x : DpllSt) (b : Nat) (s : State) :
    Within [.regs, .dpll] (· ∈ [aISTAT pgDPLL]) s (iset pgDPLL b (setDpll x s)) :=
  ((Within.refl ..).setDpll x).iset b

/-- O51, lock. -/
theorem lockDeclared_effect (ho : inOperation s) :
    let due : Prop := s.dpll.st = .acquire ∧ ∃ u, s.dpll.inSince = some u ∧ u + dwellOf s s.dpll.step ≤ s.now
    (due → Runs .lockDeclared s fun t => t.dpll =
      { s.dpll with st := .locked, inSince := some s.now, outSince := none } ∧
      rbit t (aISTAT pgDPLL) 0 = true ∧ KeepsBut [.regs, .dpll] s t ∧ RegsOnly [aISTAT pgDPLL] s t) ∧
    (¬ due → Runs .lockDeclared s fun t => t = s) := by
  refine ⟨fun hd => ?_, fun hd => ?_⟩
  · have hw := within_iset_dpll { s.dpll with st := .locked, inSince := some s.now, outSince := none } 0 s
    rw [← lockDeclared_due hd] at hw
    refine runs_inOperation ho rfl (hw.1 .boot (by decide)) ⟨?_, ?_, hw.1, hw.2⟩
    · rw [lockDeclared_due hd]; rfl
    · rw [lockDeclared_due hd]; exact rbit_iset_any ⟨pgDPLL, by decide⟩ (by decide) _
  · exact runs_inOperation ho rfl (by rw [lockDeclared_not hd]) (lockDeclared_not hd)

/-- O51, the ladder. -/
theorem ladderStep_effect (hl : Live s) :
    let due : Prop := s.dpll.st = .locked ∧ s.dpll.step < 3 ∧ ∃ u, s.dpll.inSince = some u ∧ u + dwellOf s
      s.dpll.step ≤ s.now
    (due → Runs .ladderStep s fun t => t.dpll = { s.dpll with step := s.dpll.step + 1, inSince := some s.now } ∧
      KeepsBut [.dpll] s t) ∧
    (¬ due → Runs .ladderStep s fun t => t = s) := by
  refine ⟨fun ⟨h1, h2, h3⟩ => ?_, fun hd => ?_⟩
  · refine runs_awake hl rfl ?_
    rw [show ladderStep s = setDpll _ s from if_pos ⟨h1, h2, (dwelt_iff ..).2 h3⟩]
    exact ⟨rfl, ((Within.refl [.dpll] (fun _ => False) s).setDpll _).1⟩
  · exact runs_awake hl rfl (if_neg fun ⟨h1, h2, h3⟩ => hd ⟨h1, h2, (dwelt_iff ..).1 h3⟩)

/-- O51, the loss of lock. -/
theorem lockLost_effect (hl : Live s) :
    let due : Prop := s.dpll.st = .locked ∧ ∃ u, s.dpll.outSince = some u ∧ u + 10 ^ 11 ≤ s.now
    (due → Runs .lockLost s fun t => t.dpll.st = .acquire ∧ (∀ r, s.dpll.sel = some r → t.dpll.step = firstStep s r) ∧
      t.dpll.sel = s.dpll.sel ∧ rbit t (aISTAT pgDPLL) 1 = true ∧ KeepsBut [.regs, .dpll] s t ∧ RegsOnly
        [aISTAT pgDPLL] s t) ∧
    (¬ due → Runs .lockLost s fun t => t = s) := by
  refine ⟨fun ⟨h1, h2⟩ => ?_, fun hd => ?_⟩
  · refine runs_awake hl rfl ?_
    rw [show lockLost s = iset pgDPLL 1 (setDpll _ s) from if_pos ⟨h1, (dwelt_iff ..).2 h2⟩]
    have hw := within_iset_dpll { s.dpll with
      st := .acquire, step := match s.dpll.sel with | some r => firstStep s r | none => 0, inSince := none,
        outSince := none } 1 s
    refine ⟨rfl, fun r hr => ?_, rfl, rbit_iset_any ⟨pgDPLL, by decide⟩ (by decide) _, hw.1, hw.2⟩
    show (match s.dpll.sel with | some r => firstStep s r | none => 0) = _
    rw [hr]
  · exact runs_awake hl rfl (if_neg fun ⟨h1, h2⟩ => hd ⟨h1, (dwelt_iff ..).1 h2⟩)

/-- O51, the end of a pull. -/
theorem pullDone_effect (hl : Live s) :
    let due : Prop := s.dpll.pulling = true ∧ s.dpll.pull.natAbs * 1000000000 ≤ pslope s * (s.now - s.dpll.pullT)
    (due → Runs .pullDone s fun t => t.dpll = { s.dpll with pulling := false, pull := 0, pullT := s.now } ∧
      rbit t (aISTAT pgDPLL) 8 = true ∧ KeepsBut [.regs, .dpll] s t ∧ RegsOnly [aISTAT pgDPLL] s t) ∧
    (¬ due → Runs .pullDone s fun t => t = s) := by
  refine ⟨fun ⟨h1, h2⟩ => ?_, fun hd => ?_⟩
  · refine runs_awake hl rfl ?_
    rw [show pullDone s = iset pgDPLL 8 (setDpll _ s) from if_pos ⟨h1, pullLeft_eq_zero.2 h2⟩]
    have hw := within_iset_dpll { s.dpll with pull := 0, pullT := s.now, pulling := false } 8 s
    exact ⟨rfl, rbit_iset_any ⟨pgDPLL, by decide⟩ (by decide) _, hw.1, hw.2⟩
  · exact runs_awake hl rfl (if_neg fun ⟨h1, h2⟩ => hd ⟨h1, pullLeft_eq_zero.1 h2⟩)

/-- The only act of the page of the DPLL: ALIGN with an output named. -/
theorem pageAct_dpll {a : Nat} (hp : pageOf a = pgDPLL) (direct : Bool) (tk : Option Word) (l : Nat) (old new v : Word)
    (t : State) : pageAct direct tk l a old new v t =
      (if offOf a = 0x6C ∧ v &&& 0xF#32 != 0 then alignStart ((List.range 4).filter (bit v)) (bits new 9 8) t else t,
        false) := by
  unfold pageAct
  rw [hp]
  generalize offOf a = o
  rfl

theorem blockRefuse_dpll {a : Nat} (hp : pageOf a = pgDPLL) (direct : Bool) (l : Nat) (old new v : Word) :
    blockRefuse s direct l a old new v =
      (if offOf a = 0x6C then
        if v &&& 0xF#32 != 0 ∧ alignRefused s (bits new 9 8) ≠ 0 then refuse (alignRefused s (bits new 9 8)) a [10]
          else none
      else if 0x100 ≤ offOf a ∧ offOf a < 0x120 then
        if refCfgOk s ((offOf a - 0x100) / 4) new then none else refuse 3 a
      else if offOf a = 0x40 ∧ bits new 31 30 = 2 ∧ ¬ refEn s (bits new 26 24) then refuse 2 a
      else none) := by
  unfold blockRefuse
  rw [hp]
  generalize offOf a = o
  dsimp only
  iterate 3 rw [if_neg (by decide)]
  rw [if_pos rfl]

theorem maskWord_all (old v : Word) : maskWord 0xFFFFFFFF#32 old v = v := by
  rw [maskWord, show (0xFFFFFFFF#32) = BitVec.allOnes 32 from rfl, BitVec.not_allOnes, BitVec.and_zero, BitVec.zero_or,
    BitVec.and_allOnes]

/-- O51, STEER. -/
theorem steerWrite_effect (hs : Canonical s) {w : HW} (h : Accepted s aDPLL_STEER w) :
    Runs (.steerWrite w) s fun t => rget t aDPLL_STEER = w.v ∧ t.dpll = s.dpll ∧ KeepsBut [.regs] s t ∧
      RegsOnly [aDPLL_STEER, aHOSTIF_LASTERR, aHOSTIF_LASTADDR] s t := by
  have hrun := hostWrite_of_actsAtOnce h rfl (by decide)
  rw [pageAct_dpll (by decide), if_neg fun h => absurd h.1 (by decide), newWord_eq_maskWord rfl (by decide)] at hrun
  generalize hm : (if w.lvl.val = 0 then _ else _) = m at hrun
  have hall : m = 0xFFFFFFFF#32 := by rw [← hm]; split <;> rfl
  rw [hall, maskWord_all] at hrun
  have hw : Within [.regs] (· = aDPLL_STEER) s (rset aDPLL_STEER w.v s) := (Within.refl ..).rset w.v (by decide) rfl
  refine ⟨_, congrArg Host.Outcome.next hrun, ?_, (hw.ofEnd _ _) .dpll (by decide), hw.ofEnd _ _,
    hw.regsOnly_end _ _ fun b hb => by simp [hb]⟩
  rw [rget_endAccess_ok _ (by decide) (by decide), rget_rset_same hs.1]

/-- When the outputs that an ALIGN write names wait until. -/
def alignAfter (t : State) : Nat := (if t.dpll.pulling then max t.now (pullEndT t) else t.now) + evalPs

/-- The outputs that an ALIGN write names wait for their epochs, the others as before. -/
theorem mem_alignStart {outs : List Nat} {src : Nat} {t : State} {x : AlignSt} :
    x ∈ (alignStart outs src t).dpll.aligns ↔
      (x ∈ t.dpll.aligns ∧ x.out ∉ outs) ∨ ∃ o ∈ outs, ⟨o, alignAfter t, src, none⟩ = x := by
  have hal : (alignStart outs src t).dpll.aligns = (t.dpll.aligns.filter fun a => !outs.contains a.out) ++
      outs.map fun o => ⟨o, alignAfter t, src, none⟩ := rfl
  rw [hal, List.mem_append, List.mem_filter, List.mem_map]
  simp

theorem within_alignStart (outs : List Nat) (src : Nat) (t : State) : Within [.dpll] (fun _ => False) t
    (alignStart outs src t) :=
  (Within.refl ..).setDpll _

/-- A bit that a write sets or acts on is seen by the block as it is written. -/
theorem bit_actBits {d : RegDef} {i : Nat} (l : Nat) (v : Word) (h : bit (w32 d.w1s) i = true) : bit (actBits d l v)
    i = bit v i := by
  unfold actBits
  rw [bit_and]
  simp [bit_or, h]

theorem pullEndT_rset {a : Nat} (v : Word) (t : State) (h1 : a ≠ aDPLL_PSLOPE) (h2 : a ≠ aDPLL_PSLOPE_INIT) :
    pullEndT (rset a v t) = pullEndT t := by
  have hp : pslope (rset a v t) = pslope t := by
    have hreg : rget (rset a v t) (if t.boot.everRun then aDPLL_PSLOPE else aDPLL_PSLOPE_INIT) =
        rget t (if t.boot.everRun then aDPLL_PSLOPE else aDPLL_PSLOPE_INIT) :=
      rget_rset_ne _ _ (by split <;> exact Ne.symm ‹_›)
    exact congrArg (fun x => clampN 1 100000 (bits x 16 0)) hreg
  unfold pullEndT
  rw [hp]
  rfl

theorem bit_low_nibble {v : Word} {o : Nat} (ho : o < 4) (hb : bit v o = true) : (v &&& 0xF#32 != 0) = true := by
  rw [bne_iff_ne]
  intro h0
  have hbit := congrArg (bit · o) h0
  rw [bit_and, hb] at hbit
  rw [show bit (0xF#32) o = true by interval_cases o <;> rfl] at hbit
  exact absurd hbit (by simp [bit])

/-- O51, ALIGN. -/
theorem dpllAlign_effect (hs : Canonical s) {w : HW} (h : Accepted s aDPLL_ALIGN w) :
    Runs (.dpllAlign w) s fun t => (∀ o, o < 4 → bit w.v o = true → ∃ x ∈ t.dpll.aligns, x.out = o ∧ x.src = bits w.v
      9 8 ∧
        x.h = none ∧ s.now + 10 ^ 10 ≤ x.after ∧ (s.dpll.pulling = true → pullEndT s + 10 ^ 10 ≤ x.after)) ∧
      (∀ x, bit w.v x.out = false → (x ∈ t.dpll.aligns ↔ x ∈ s.dpll.aligns)) ∧ lastStatus t = 0 ∧ KeepsBut
        [.regs, .dpll] s t ∧
      RegsOnly [aDPLL_ALIGN, aHOSTIF_LASTERR, aHOSTIF_LASTADDR] s t := by
  have hrun := hostWrite_of_actsAtOnce h rfl (by decide)
  rw [pageAct_dpll (by decide), newWord_eq_maskWord rfl (by decide)] at hrun
  generalize hm : (if w.lvl.val = 0 then _ else _) = m at hrun
  have hall : m = 0x300#32 := by rw [← hm]; split <;> rfl
  have hsrc : bits (maskWord m (heldReg s aDPLL_ALIGN) w.v) 9 8 = bits w.v 9 8 :=
    bits_maskWord (by rw [hall]; decide) _ _
  have hact (d : RegDef) (hd : d.w1s = 15) (o : Nat) (ho : o < 4) : bit (actBits d w.lvl w.v) o = bit w.v o :=
    bit_actBits _ _ (by rw [hd]; interval_cases o <;> rfl)
  rw [hsrc] at hrun
  generalize maskWord m _ w.v = new at hrun
  generalize hv : actBits _ _ _ = v at hrun
  have hvo (o : Nat) (ho : o < 4) : bit v o = bit w.v o := by rw [← hv]; exact hact _ rfl o ho
  have hset : Within [.regs, .dpll] (· = aDPLL_ALIGN) s (rset aDPLL_ALIGN new s) := (Within.refl ..).rset new
      (by decide) rfl
  have hafter : alignAfter (rset aDPLL_ALIGN new s) = alignAfter s := by
    unfold alignAfter
    rw [pullEndT_rset new s (by decide) (by decide)]
    rfl
  by_cases hn : (v &&& 0xF#32 != 0) = true
  · rw [if_pos ⟨by decide, hn⟩] at hrun
    have hw : Within [.regs, .dpll] (· = aDPLL_ALIGN) s
        (alignStart ((List.range 4).filter (bit v)) (bits w.v 9 8) (rset aDPLL_ALIGN new s)) :=
      hset.trans ((within_alignStart _ _ _).mono (by decide) fun _ => False.elim)
    have hd : (endAccess 0 w.lvl true aDPLL_ALIGN (alignStart ((List.range 4).filter (bit v)) (bits w.v 9 8)
        (rset aDPLL_ALIGN new s))).dpll = _ := endAccess_dpll ..
    refine ⟨_, congrArg Host.Outcome.next hrun, fun o ho hb => ?_, fun x hx => ?_, lastStatus_endAccess
      (rset_regs_wf hs.1 _ _) (by decide), hw.ofEnd _ _, hw.regsOnly_end _ _ fun b hb => by simp [hb]⟩
    · refine ⟨⟨o, alignAfter s, bits w.v 9 8, none⟩, ?_, rfl, rfl, rfl, ?_, fun hp => ?_⟩
      · rw [hd, mem_alignStart, hafter]
        exact .inr ⟨o, by simp [ho, hvo o ho, hb], rfl⟩
      · show s.now + 10 ^ 10 ≤ alignAfter s
        unfold alignAfter evalPs
        split <;> omega
      · show pullEndT s + 10 ^ 10 ≤ alignAfter s
        unfold alignAfter evalPs
        rw [if_pos hp]
        omega
    · rw [hd, mem_alignStart]
      have hno (o : Nat) (ho : o ∈ (List.range 4).filter (bit v)) : bit w.v o = true := by
        rw [List.mem_filter, List.mem_range] at ho
        rw [← hvo o ho.1]
        exact ho.2
      constructor
      · rintro (⟨hmem, -⟩ | ⟨o, ho, rfl⟩)
        · exact hmem
        · exact absurd (hno o ho) (by simp only at hx; simp [hx])
      · exact fun hmem => .inl ⟨hmem, fun ho => by simp [hno _ ho] at hx⟩
  · rw [if_neg fun h => hn h.2] at hrun
    refine ⟨_, congrArg Host.Outcome.next hrun, fun o ho hb => ?_, fun x hx =>
      by rw [endAccess_dpll]; rfl, lastStatus_endAccess
      (rset_regs_wf hs.1 _ _) (by decide), hset.ofEnd _ _, hset.regsOnly_end _ _ fun b hb => by simp [hb]⟩
    exact absurd (bit_low_nibble ho ((hvo o ho).trans hb)) hn

/-- A write that a rule of its block refuses is recorded as the rule says and ends REFUSED. -/
theorem hostWrite_of_refused {a : Nat} {w : HW} {d : RegDef} {r : RegRefuse} (h : Served s a w) (hd : regAt a = some d)
    (ha : ActsAtOnce a) (hsolo : soloRefuse s d a w.v = none)
    (hr : blockRefuse s true w.lvl a (heldReg s a) (newWord d (pageOf a) w.lvl (heldReg s a) w.v) w.v = some r) :
    hostWrite ⟨a, w.lvl, w.be, w.v⟩ s = endAccess stsRefused w.lvl true a (recordRefuse (pageOf a) r s) := by
  obtain ⟨⟨hrst, -⟩, ⟨hctrl, -⟩, -, hbus⟩ := ha
  have hp : pageWrite w.lvl a w.v s = (recordRefuse (pageOf a) r s, stsRefused) := by
    simp [pageWrite, hd, hsolo, hrst, hctrl, hr]
  rw [hostWrite_served (x := ⟨a, w.lvl, w.be, w.v⟩) h hd hbus hrst, hp]

/-- A refusal that sets a bit of ISTAT besides its code. -/
theorem recordRefuse_one {p : Fin 64} {code a b : Nat} (hs : Canonical s) (hcode : code ≠ 0) (hlt : code < 0x10000)
    (hb : b < 32) :
    Within [.regs] (· ∈ [aISTAT p, aERRCAP p, aERRADDR p]) s (recordRefuse p ⟨code, a, [b]⟩ s) ∧
      rbit (recordRefuse p ⟨code, a, [b]⟩ s) (aISTAT p) b = true ∧ captured code p a s
        (recordRefuse p ⟨code, a, [b]⟩ s) := by
  have hrec : recordRefuse p ⟨code, a, [b]⟩ s = errcap p code a (iset p b s) := by simp [recordRefuse, hcode]
  have hcs : aISTAT p ≠ aERRCAP p ∧ aISTAT p ≠ aERRADDR p := by unfold aISTAT aERRCAP aERRADDR pageAddr; omega
  have herr : Within [.regs] (· ∈ [aERRCAP p.val, aERRADDR p.val]) (iset p b s) (errcap p code a (iset p b s)) :=
    (Within.refl ..).errcap _ _ (by decide) (by simp) (by simp)
  have hi : Within [.regs] (· ∈ [aISTAT p.val]) s (iset p b s) := (Within.refl ..).iset _ (by decide) (by simp)
  have hcap := captured_errcap (iset_regs_wf hs.1 p b) code p a hlt
  rw [hrec]
  refine ⟨(hi.mono (by simp) (by simp +contextual)).trans (herr.mono (by simp) (by simp +contextual)), ?_, ?_⟩
  · rw [rbit, herr.2 _ (by simp)]
    exact rbit_iset hs.1 _ hb
  · unfold captured at hcap ⊢
    rwa [rbit, rget_iset_ne _ _ _ hcs.1.symm, rget_iset_ne _ _ _ hcs.2.symm] at hcap

theorem recordRefuse_regs_wf {s : State} (hs : spWf resetWord s.regs = true) (p : Nat) (r : RegRefuse) :
    spWf resetWord (recordRefuse p r s).regs = true := by
  have hl : spWf resetWord (r.istat.foldl (fun s b => iset p b s) s).regs = true :=
    List.foldlRecOn (motive := fun t : State => spWf resetWord t.regs = true) _ _ hs fun t ht b _ => iset_regs_wf ht p b
  unfold recordRefuse
  dsimp only
  split
  · exact hl
  · exact errcap_regs_wf hl ..

/-- O51, an ALIGN write whose epoch cannot be had. -/
theorem dpllAlign_refused (hs : Canonical s) {w : HW} (h : Served s aDPLL_ALIGN w) (hn : w.v &&& 0xF#32 ≠ 0)
    (hr : alignRefused s (bits w.v 9 8) ≠ 0) :
    Runs (.dpllAlign w) s fun t => t.dpll = s.dpll ∧ lastStatus t = 5 ∧ rbit t (aISTAT pgDPLL) 10 = true ∧
      captured (alignRefused s (bits w.v 9 8)) pgDPLL aDPLL_ALIGN s t ∧ KeepsBut [.regs] s t := by
  have hsrc (m old : Word) (hm : m = 0x300#32) : bits (maskWord m old w.v) 9 8 = bits w.v 9 8 :=
    bits_maskWord (by rw [hm]; decide) _ _
  have hrun := hostWrite_of_refused (r := ⟨alignRefused s (bits w.v 9 8), aDPLL_ALIGN, [10]⟩) h rfl (by decide)
    (soloRefuse_of_not_dataPlane (by decide) _ _) (by
      rw [blockRefuse_dpll (by decide), newWord_eq_maskWord rfl (by decide), hsrc _ _ (by split <;> rfl), if_pos (by decide),
        if_pos ⟨by simpa using hn, hr⟩]
      rfl)
  have hlt : alignRefused s (bits w.v 9 8) < 0x10000 := by
    unfold alignRefused
    split
    · decide
    · dsimp only
      split <;> split <;> omega
  obtain ⟨hw, hi, hc⟩ := recordRefuse_one (p := ⟨pgDPLL, by decide⟩) (a := aDPLL_ALIGN) (b := 10) hs hr hlt (by decide)
  have hend := within_endAccess (s := recordRefuse pgDPLL ⟨alignRefused s (bits w.v 9 8), aDPLL_ALIGN, [10]⟩ s)
      (l := w.lvl)
    (a := aDPLL_ALIGN) (status := stsRefused) true
  refine ⟨_, congrArg Host.Outcome.next hrun, ?_, lastStatus_endAccess (recordRefuse_regs_wf hs.1 ..) (by decide), ?_,
    captured_endAccess hc (by decide) _ _ _, fun p hp => (hw.1 p hp).trans (hend.1 p hp)⟩
  · exact (endAccess_dpll ..).trans (hw.1 .dpll (by decide))
  · exact (congrArg (bit · 10) (hend.2 _ (by decide))).trans hi

/-- O51, the re-phased edge. -/
theorem alignEdge_effect (hl : Live s) (o : Fin 4) :
    let hits (x : AlignSt) : Prop := x.out = o.val ∧ ∃ h, x.h = some h ∧ h ≤ s.tb.frame
    ((∃ x ∈ s.dpll.aligns, hits x) → Runs (.alignEdge o) s fun t =>
      (∀ x, x ∈ t.dpll.aligns ↔ x ∈ s.dpll.aligns ∧ ¬ hits x) ∧
      rbit t (aISTAT pgDPLL) 9 = true ∧ KeepsBut [.regs, .dpll] s t ∧ RegsOnly [aISTAT pgDPLL] s t) ∧
    ((∀ x ∈ s.dpll.aligns, ¬ hits x) → Runs (.alignEdge o) s fun t => t = s) := by
  intro hits
  set hit : AlignSt → Bool := fun a =>
    a.out == o.val && (match a.h with | some h => decide (h ≤ s.tb.frame) | none => false) with hhit
  have hiff (x : AlignSt) : hit x = true ↔ hits x := by
    rw [hhit]
    dsimp only [hits]
    cases x.h <;> simp
  refine ⟨fun ⟨x, hx, hh⟩ => ?_, fun hno => ?_⟩
  · refine runs_awake hl rfl ?_
    rw [show alignEdge o.val s = iset pgDPLL 9
      (setDpll { s.dpll with aligns := s.dpll.aligns.filter fun a => !hit a } s) from
      if_pos (List.any_eq_true.2 ⟨x, hx, (hiff x).2 hh⟩)]
    have hw := within_iset_dpll { s.dpll with aligns := s.dpll.aligns.filter fun a => !hit a } 9 s
    refine ⟨fun y => ?_, rbit_iset_any ⟨pgDPLL, by decide⟩ (by decide) _, hw.1, hw.2⟩
    show y ∈ s.dpll.aligns.filter (fun a => !hit a) ↔ _
    rw [List.mem_filter, ← hiff y]
    simp
  · refine runs_awake hl rfl (if_neg fun ha => ?_)
    obtain ⟨x, hx, hh⟩ := List.any_eq_true.1 ha
    exact hno x hx ((hiff x).1 hh)

/-- Settles O51: each change of the loop by its due condition, the two registers by the host write. -/
theorem loopLockPullAndAlign : Obligations.LoopLockPullAndAlign :=
  ⟨fun _ => lockDeclared_effect, fun _ => ladderStep_effect, fun _ => lockLost_effect, fun _ => pullDone_effect,
    fun _ _ hs h => steerWrite_effect hs h, fun _ _ hs h => dpllAlign_effect hs h, fun _ _ hs h hn hr =>
      dpllAlign_refused hs h hn hr, fun _ o hl => alignEdge_effect hl o⟩

/-! ### Port groups that leave RUN -/

/-- The registers that may change when group `g` leaves RUN. -/
def leaveRegs (g : Fin 4) : List Nat := doneRegs ++ [aASRC_LOCKSTAT, aASRC_UNLOCK_CNT, aISTAT pgASRC, aPORTG_ALIGN g]

/-- The parts that may change when a group leaves RUN. -/
def leaveParts : List Part := .ports :: doneParts

theorem room_leave (g : Fin 4) : Room leaveParts (· ∈ leaveRegs g) :=
  ⟨fun _ h => List.mem_cons_of_mem _ h, fun _ h => List.mem_append_left _ h⟩

theorem mem_leaveRegs_of_asrc {g : Fin 4} {a : Nat} (h : a ∈ [aASRC_LOCKSTAT, aASRC_UNLOCK_CNT, aISTAT pgASRC]) : a ∈
    leaveRegs g :=
  List.mem_append_right _ (by simp only [List.mem_cons] at h ⊢; tauto)

theorem mem_leaveRegs_align (g : Fin 4) : aPORTG_ALIGN g ∈ leaveRegs g := List.mem_append_right _ (by simp)

theorem grp_setGrp (g h : Fin 4) (x : GroupSt) (t : State) : grp (setGrp g x t) h = if h = g then x else grp t h := by
  unfold grp setGrp
  dsimp only
  by_cases hg : h = g
  · subst hg; simp
  · rw [if_neg hg]
    simpa using Vector.getElem_set_ne _ _ (by omega)

@[simp] theorem grp_rset (a : Nat) (v : Word) (t : State) (h : Fin 4) : grp (rset a v t) h = grp t h := rfl

theorem grp_congr {t u : State} (h : u.ports = t.ports) (k : Fin 4) : grp u k = grp t k := by rw [grp, h, grp]

theorem ports_asrcUnlock (i : Nat) (t : State) : (asrcUnlock i t).ports = t.ports := by
  unfold asrcUnlock
  split <;> rfl

theorem ports_finishRunning (u : Word) (d : Nat) (t : State) : (finishRunning u d t).ports = t.ports :=
  ((Settles.refl doneParts (· ∈ doneRegs) t).finishRunning room_done u d).within.1 .ports (by decide)

theorem grp_dropChanges (g h : Fin 4) (t : State) :
    grp (dropChanges g t) h = if h = g then { grp t g with chg := [] } else grp t h := by
  unfold dropChanges
  dsimp only
  rw [grp_congr (foldl_keeps (fun u : State => u.ports) (fun u x => ports_finishRunning x _ u) _ _), grp_setGrp]

theorem grp_groupOff (g h : Fin 4) (t : State) (hg : h ≠ g) : grp (groupOff g t) h = grp t h := by
  unfold groupOff
  dsimp only
  rw [grp_rset, grp_congr (ports_asrcUnlock _ _), grp_setGrp, if_neg hg]

theorem st_groupOff (g : Fin 4) (t : State) : (grp (groupOff g t) g).st = .off := by
  unfold groupOff
  dsimp only
  rw [grp_rset, grp_congr (ports_asrcUnlock _ _), grp_setGrp, if_pos rfl]
  rfl

theorem grp_settleStop (g h : Fin 4) (t : State) (hg : h ≠ g) : grp (settleStop g t) h = grp t h := by
  unfold settleStop
  dsimp only
  split
  · exact grp_groupOff g h t hg
  · rfl

/-- A group that stops is off at its last channel's end, else as it was. -/
theorem grp_settleStop_same (g : Fin 4) (t : State) : (grp (settleStop g t) g).st = .off ∨ grp (settleStop g t) g =
    grp t g := by
  unfold settleStop
  dsimp only
  split
  · exact .inl (st_groupOff g t)
  · exact .inr rfl

theorem grp_leaveRun (g h : Fin 4) (st : GState) (t : State) (hg : h ≠ g) : grp (leaveRun g st t) h = grp t h := by
  unfold leaveRun
  dsimp only
  rw [grp_settleStop g h _ hg, rput, grp_rset, grp_congr (ports_asrcUnlock _ _), grp_setGrp, if_neg hg,
    grp_dropChanges, if_neg hg]

theorem st_leaveRun (g : Fin 4) (st : GState) (t : State) : (grp (leaveRun g st t) g).st = .off ∨
    (grp (leaveRun g st t) g).st = st := by
  unfold leaveRun
  dsimp only
  refine (grp_settleStop_same g _).imp_right fun he => ?_
  rw [he, rput, grp_rset, grp_congr (ports_asrcUnlock _ _), grp_setGrp, if_pos rfl]

section
variable {l : List Part} {A : Nat → Prop} {t : State} (h : Settles l A s t)
include h

theorem Settles.setGrp (g : Fin 4) (x : GroupSt) (hl : .ports ∈ l := by decide) : Settles l A s (setGrp g x t) :=
  h.parts (ps := [.ports]) (by simpa using hl) fun p hp => by cases p <;> first | exact absurd (by decide) hp | rfl

theorem Settles.asrcUnlock (i : Nat) (hl : .regs ∈ l) (hA : ∀ a ∈ [aASRC_LOCKSTAT, aASRC_UNLOCK_CNT, aISTAT pgASRC],
    A a) :
    Settles l A s (asrcUnlock i t) := by
  unfold Machine.asrcUnlock
  split
  · exact ((h.rset _ hl (hA _ (by simp))).rset _ hl (hA _ (by simp))).rset _ hl (hA _ (by simp))
  · exact h

end

section
variable {t : State} {g : Fin 4} (h : Settles leaveParts (· ∈ leaveRegs g) s t)
include h

theorem Settles.groupOff : Settles leaveParts (· ∈ leaveRegs g) s (groupOff g t) :=
  ((h.setGrp g _).asrcUnlock _ (by decide) fun _ => mem_leaveRegs_of_asrc).rset _ (by decide) (mem_leaveRegs_align g)

theorem Settles.settleStop : Settles leaveParts (· ∈ leaveRegs g) s (settleStop g t) := h.groupOff.ite h

theorem Settles.dropChanges : Settles leaveParts (· ∈ leaveRegs g) s (dropChanges g t) :=
  .foldl (fun _ _ hu => hu.finishRunning (room_leave g) _ _) _ (h.setGrp g _)

theorem Settles.leaveRun (st : GState) : Settles leaveParts (· ∈ leaveRegs g) s (leaveRun g st t) :=
  (((h.dropChanges.setGrp g _).asrcUnlock _ (by decide) fun _ => mem_leaveRegs_of_asrc).rset _ (by decide)
    (mem_leaveRegs_align g)).settleStop

end

theorem gcfg_notMem_leaveRegs : ∀ g h : Fin 4, aPORTG_GCFG h ∉ leaveRegs g ∧ aPORTG_GCFG h ≠ aISTAT (pgPORTG g) := by
    decide

/-- What the leaving of RUN by group `g`, for a rate out of tolerance, leaves of the configurations and of the other
  groups. -/
theorem requalifyOne_effect (g : Fin 4) (t : State) :
    let u := enterMismatch g (iset (pgPORTG g) 3 t)
    (∀ h : Fin 4, gcfg u h = gcfg t h) ∧ (∀ h, h ≠ g → grp u h = grp t h) ∧ (grp u g).st ≠ .run := by
  intro u
  have hset : Settles leaveParts (· ∈ leaveRegs g) (iset (pgPORTG g) 3 t) u :=
    ((Settles.refl ..).setGrp g _).leaveRun _
  refine ⟨fun h => ?_, fun h hg => ?_, ?_⟩
  · obtain ⟨h1, h2⟩ := gcfg_notMem_leaveRegs g h
    exact (hset.within.2 _ h1).trans (rget_iset_ne _ _ _ h2)
  · exact (grp_leaveRun g h _ _ hg).trans ((grp_setGrp ..).trans (if_neg hg))
  · rcases st_leaveRun g .mismatch (Machine.setGrp g { grp (iset (pgPORTG g) 3 t) g with rateBad := true }
      (iset (pgPORTG g) 3 t))
      with h | h
    · exact fun hr => by rw [show (grp u g).st = .off from h] at hr; cases hr
    · exact fun hr => by rw [show (grp u g).st = .mismatch from h] at hr; cases hr

/-- A rate change puts the groups in SYNC out of RUN and leaves the others. -/
theorem portsRequalify_effect (t : State) :
    (∀ g : Fin 4, gcfgMode (gcfg t g) = false → (grp (portsRequalify t) g).st ≠ .run) ∧
      (∀ g : Fin 4, gcfgMode (gcfg t g) = true → grp (portsRequalify t) g = grp t g) := by
  suffices h : ∀ (m : List (Fin 4)) (u : State), m.Nodup → (∀ g : Fin 4, gcfg u g = gcfg t g) →
      let v := m.foldl (fun s (g : Fin 4) => if (grp s g).st = .run ∧ ¬ gcfgMode (gcfg s g) then
        enterMismatch g (iset (pgPORTG g) 3 s) else s) u
      (∀ g ∈ m, gcfgMode (gcfg t g) = false → (grp v g).st ≠ .run) ∧ (∀ g ∉ m, grp v g = grp u g) ∧
        (∀ g : Fin 4, gcfgMode (gcfg t g) = true → grp v g = grp u g) by
    obtain ⟨h1, -, h3⟩ := h (List.finRange 4) t (List.nodup_finRange 4) fun _ => rfl
    exact ⟨fun g => h1 g (List.mem_finRange g), h3⟩
  intro m
  induction m with
  | nil => exact fun u _ _ => ⟨fun _ hg => absurd hg List.not_mem_nil, fun _ _ => rfl, fun _ _ => rfl⟩
  | cons k m ih =>
    intro u hnd hcfg
    obtain ⟨hk, hm⟩ := List.nodup_cons.1 hnd
    rw [List.foldl_cons]
    by_cases hc : (grp u k).st = .run ∧ ¬ gcfgMode (gcfg u k)
    · rw [if_pos hc]
      obtain ⟨he1, he2, he3⟩ := requalifyOne_effect k u
      obtain ⟨h1, h2, h3⟩ := ih _ hm fun g => (he1 g).trans (hcfg g)
      refine ⟨fun g hg hsync => ?_, fun g hg => ?_, fun g hasrc => ?_⟩
      · rcases List.mem_cons.1 hg with rfl | hg
        · rw [h2 _ hk]; exact he3
        · exact h1 g hg hsync
      · rw [List.mem_cons, not_or] at hg
        rw [h2 g hg.2, he2 g hg.1]
      · rw [h3 g hasrc, he2 g fun hgk => hc.2 (by rw [hcfg, ← hgk]; exact hasrc)]
    · rw [if_neg hc]
      obtain ⟨h1, h2, h3⟩ := ih u hm hcfg
      refine ⟨fun g hg hsync => ?_, fun g hg => ?_, h3⟩
      · rcases List.mem_cons.1 hg with rfl | hg
        · rw [h2 _ hk]
          exact fun hrun => hc ⟨hrun, by rw [hcfg, hsync]; decide⟩
        · exact h1 g hg hsync
      · exact h2 g fun hgm => hg (List.mem_cons_of_mem _ hgm)

/-! ### O54: the command of a rate change -/

section
variable {l : List Part} {A : Nat → Prop} {t : State} (h : Within l A s t)
include h

theorem Within.setClk (x : ClockSt) (hl : .clk ∈ l := by decide) : Within l A s (setClk x t) :=
  ⟨fun p hp => (h.1 p hp).trans (by cases p <;> first | rfl | exact absurd hl hp), h.2⟩

theorem Within.setTwinSt (x : TwinSt) (hl : .twin ∈ l := by decide) : Within l A s (setTwinSt x t) :=
  ⟨fun p hp => (h.1 p hp).trans (by cases p <;> first | rfl | exact absurd hl hp), h.2⟩

theorem Within.setArb (x : ArbSt) (hl : .arb ∈ l := by decide) : Within l A s { t with arb := x } :=
  ⟨fun p hp => (h.1 p hp).trans (by cases p <;> first | rfl | exact absurd hl hp), h.2⟩

end

theorem landingHead_of_actsNext {e : Ev} {rest : List Ev} (h : actsNext s e rest) {op : Nat} (ho : e.e.opcode = op) :
    landingHead s e.ticket op = some { e with land := s.tb.frame } := by
  unfold landingHead
  rw [h.2.2]
  exact if_pos ⟨rfl, ho⟩

/-- The command of a rate change is the WRITE_PARAM that carries RATE. -/
theorem exec_mediaRateChange {e : Ev} {rest : List Ev} (h : actsNext s e rest) (ho : e.e.opcode = opWriteParam)
    (hp : ∃ x ∈ pairsOf e.payload, x.1 = aPLLM_RATE) : exec (.mediaRateChange e.ticket) s = exec
      (.writeParam e.ticket) s := by
  obtain ⟨x, hx, hr⟩ := hp
  refine congrArg Host.Outcome.next ?_
  rw [awake_run _ h.1, awake_run _ h.1, mediaRateChange, landingHead_of_actsNext h ho]
  exact if_pos (List.any_eq_true.2 ⟨x, hx, by simp [hr]⟩)

theorem rateOf_congr {v w : Word} (h : bits v 1 0 = bits w 1 0) (h4 : bit v 4 = bit w 4) : rateOf v = rateOf w := by
  unfold rateOf
  rw [h, h4]

/-- A RATE value reaches its register, and lands. -/
theorem landPair_rate (k : Word) (w : Word) (t : State) :
    ∃ v, rateOf v = rateOf w ∧ landPair k (t, false) (aPLLM_RATE, w) = rateLand (some k) v (rset aPLLM_RATE v t) := by
  refine ⟨maskWord 19#32 (rget t aPLLM_RATE) w, rateOf_congr
    (bits_maskWord (by decide) _ _) (bit_maskWord_of_set (by decide) _ _), ?_⟩
  generalize hr : regAt aPLLM_RATE = r
  cases r with
  | none => exact absurd hr (by decide)
  | some d =>
    have hd : d.w1c = 0 ∧ rwMask d pgPLLM = 19#32 ∧ w32 d.rwp = 0 := by
      have h : ∀ d ∈ regAt aPLLM_RATE, d.w1c = 0 ∧ rwMask d pgPLLM = 19#32 ∧ w32 d.rwp = 0 := by decide
      exact h d hr
    obtain ⟨hc, hm, hp⟩ := hd
    have hnew : newWord d (pageOf aPLLM_RATE) 0 (rget t aPLLM_RATE) w = maskWord 19#32 (rget t aPLLM_RATE) w := by
      rw [newWord_eq_maskWord hc (by decide), if_pos rfl, show pageOf aPLLM_RATE = pgPLLM by decide, hm, hp]
      rfl
    have hreg : regLand (some k) aPLLM_RATE w t = rateLand (some k) (maskWord 19#32 (rget t aPLLM_RATE) w)
        (rset aPLLM_RATE (maskWord 19#32 (rget t aPLLM_RATE) w) t) := by
      unfold regLand
      rw [hr]
      dsimp only
      rw [hnew, if_neg fun h => absurd h.1 (by decide)]
      generalize maskWord 19#32 _ w = v
      rfl
    rw [landPair, if_neg (show ¬ aPLLM_RATE ≥ 0x1000000 by decide), hreg]
    simp

/-- The entry that carries a RATE value, as it stands when the value has reached its register. -/
def atRate (e : Ev) (v : Word) (s : State) : State :=
  rset aPLLM_RATE v (keepRunning { e with land := s.tb.frame } (popLanding s))

theorem atRate_parts (e : Ev) (v : Word) (s : State) :
    (atRate e v s).clk = s.clk ∧ (atRate e v s).tb = s.tb ∧ (atRate e v s).comp.landing = s.comp.landing.drop 1 ∧
      { e with land := s.tb.frame } ∈ (atRate e v s).comp.running :=
  ⟨rfl, rfl, rfl, List.mem_append_right _ (List.mem_singleton_self _)⟩

/-- A WRITE_PARAM of RATE alone. -/
theorem exec_mediaRateChange_single {e : Ev} {rest : List Ev} {w : Word} (h : actsNext s e rest)
    (ho : e.e.opcode = opWriteParam)
    (hp : pairsOf e.payload = [(aPLLM_RATE, w)]) :
    ∃ v, rateOf v = rateOf w ∧
      let r := rateLand (some e.ticket) v (atRate e v s)
      exec (.mediaRateChange e.ticket) s = .next (if r.2 then r.1 else finishRunning e.ticket s.tb.frame r.1) := by
  obtain ⟨v, hv, hl⟩ := landPair_rate e.ticket w (keepRunning { e with land := s.tb.frame } (popLanding s))
  refine ⟨v, hv, ?_⟩
  rw [exec_mediaRateChange h ho ⟨_, by rw [hp]; exact List.mem_singleton_self _, rfl⟩]
  refine congrArg Host.Outcome.next ?_
  rw [awake_landEntry h ho, writeParam]
  have hlock : onLockedShadow (popLanding s) (aPLLM_RATE, w) = false := by
    unfold onLockedShadow
    simp [aPLLM_RATE]
  simp only [hp, List.any_cons, List.any_nil, hlock, Bool.or_false, Bool.false_eq_true, if_false, List.foldl_cons,
    List.foldl_nil, hl]
  rfl

/-- What a RATE value that starts no change does: the entry completes. -/
theorem rate_finishes {e : Ev} {rest : List Ev} (h : actsNext s e rest) (v : Word) {t : State}
    (hclk : t.comp = (atRate e v s).comp) :
    let u := finishRunning e.ticket s.tb.frame t
    u.comp.landing = rest ∧ u.clk = t.clk := by
  intro u
  have hset : Settles doneParts (· ∈ doneRegs) t u := (Settles.refl ..).finishRunning room_done _ _
  exact ⟨hset.landing.trans ((congrArg CompositorSt.landing hclk).trans (landing_popLanding h)), hset.within.1 .clk
    (by decide)⟩

theorem syncRestart_parts (t : State) : (syncRestart t).clk = t.clk ∧ (syncRestart t).tb = t.tb ∧
    (syncRestart t).comp = t.comp := by
  unfold syncRestart
  split <;> exact ⟨rfl, rfl, rfl⟩

/-- O54, the command. -/
theorem mediaRateChange_effect {e : Ev} {rest : List Ev} {w : Word} {fam : Bool} {m : Nat} (h : actsNext s e rest)
    (ho : e.e.opcode = opWriteParam) (hp : pairsOf e.payload = [(aPLLM_RATE, w)]) (hw : rateOf w = some (fam, m)) :
    (s.clk.lockM = true → s.clk.change = none → (fam ≠ s.clk.fam ∨ m ≠ s.clk.mult) →
      Runs (.mediaRateChange e.ticket) s fun t => t.comp.landing = rest ∧ (∃ x ∈ t.comp.running, x.ticket = e.ticket) ∧
        t.clk.change = some { ticket := some e.ticket, fam := fam, mult := m, land := s.tb.frame, phase := .fadeOut, h := 0,
                              period := period s, handed := false, t0 := 0, slot := none } ∧
        t.clk.fam = s.clk.fam ∧ t.clk.mult = s.clk.mult ∧ t.tb = s.tb) ∧
    (s.clk.lockM = true → s.clk.change = none → fam = s.clk.fam → m = s.clk.mult →
      Runs (.mediaRateChange e.ticket) s fun t => t.comp.landing = rest ∧ t.clk = s.clk) ∧
    (s.clk.lockM = true → s.clk.change.isSome = true →
      Runs (.mediaRateChange e.ticket) s fun t => t.comp.landing = rest ∧ t.clk.change = s.clk.change ∧
        t.clk.heldRates.map (·.1) = s.clk.heldRates.map (·.1) ++ [some e.ticket]) ∧
    (s.clk.lockM = false →
      Runs (.mediaRateChange e.ticket) s fun t => t.comp.landing = rest ∧ t.clk =
        { s.clk with fam := fam, mult := m }) := by
  obtain ⟨v, hv, hx⟩ := exec_mediaRateChange_single h ho hp
  rw [hw] at hv
  obtain ⟨hclk, htb, -, hrun⟩ := atRate_parts e v s
  have hland : (atRate e v s).comp.landing = rest := landing_popLanding h
  have hper : period (atRate e v s) = period s := rfl
  generalize hu : atRate e v s = u at hx hclk htb hrun hland hper
  have hcomp : u.comp = (atRate e v s).comp := by rw [hu]
  refine ⟨fun hl hc hd => ?_, fun hl hc hf hm => ?_, fun hl hc => ?_, fun hl => ?_⟩
  · have hne : ¬ (fam = u.clk.fam ∧ m = u.clk.mult) := by rw [hclk]; tauto
    have hr : rateLand (some e.ticket) v u = (syncRestart (setClk { u.clk with
        change := some { ticket := some e.ticket, fam := fam, mult := m, land := u.tb.frame, phase := .fadeOut, h := 0,
                         period := period u, handed := false, t0 := 0, slot := none }, fadeInAt := none } u),
                           true) := by
      simp only [rateLand, hv, hclk, hl, hc, hclk ▸ hne, not_true_eq_false, if_false]
    obtain ⟨h1, h2, h3⟩ := syncRestart_parts (setClk { u.clk with
        change := some { ticket := some e.ticket, fam := fam, mult := m, land := u.tb.frame, phase := .fadeOut, h := 0,
                         period := period u, handed := false, t0 := 0, slot := none }, fadeInAt := none } u)
    refine ⟨_, hx, ?_⟩
    simp only [hr, if_true]
    rw [h1, h2, h3]
    exact ⟨hland, ⟨_, hrun, rfl⟩, by simp [setClk, htb, hper], by simp [setClk, hclk], by simp [setClk, hclk], htb⟩
  · have hr : rateLand (some e.ticket) v u = (u, false) := by simp [rateLand, hv, hclk, hl, hc, hf, hm]
    obtain ⟨h1, h2⟩ := rate_finishes h v hcomp
    refine ⟨_, hx, ?_⟩
    simp only [hr, Bool.false_eq_true, if_false]
    exact ⟨h1, h2.trans hclk⟩
  · obtain ⟨c, hc⟩ := Option.isSome_iff_exists.1 hc
    have hr : rateLand (some e.ticket) v u =
        (setClk { u.clk with heldRates := u.clk.heldRates ++ [(some e.ticket, v)] } u, true) := by
      simp [rateLand, hv, hclk, hl, hc]
    refine ⟨_, hx, ?_⟩
    simp only [hr, if_true]
    exact ⟨hland, by simp [setClk, hclk], by simp [setClk, hclk]⟩
  · have hr : rateLand (some e.ticket) v u = (setClk { u.clk with fam := fam, mult := m } u, false) := by
      simp [rateLand, hv, hclk, hl]
    obtain ⟨h1, h2⟩ := rate_finishes h v (t := setClk { u.clk with fam := fam, mult := m } u) hcomp
    refine ⟨_, hx, ?_⟩
    simp only [hr, Bool.false_eq_true, if_false]
    exact ⟨h1, h2.trans (by simp [setClk, hclk])⟩

/-! ### O54: the hold and the ramp -/

theorem holdOver_effect {t : State} (h : t.dpll.hoValid = false) :
    Within [.regs, .dpll] (· ∈ [aISTAT pgDPLL]) t (holdOver t) ∧ (holdOver t).dpll.st = .freerun ∧
      (holdOver t).dpll.sel = t.dpll.sel := by
  unfold holdOver
  simp only [h, Bool.false_eq_true, if_false]
  split
  · exact ⟨(Within.refl ..).setDpll _, rfl, rfl⟩
  · exact ⟨within_iset_dpll _ _ _, rfl, rfl⟩

/-- The loop runs free. -/
theorem dpllFree_effect (t : State) : Within [.regs, .dpll] (· ∈ [aISTAT pgDPLL]) t (dpllFree t) ∧
    (dpllFree t).dpll.st = .freerun ∧
    (dpllFree t).dpll.sel = none := by
  unfold dpllFree
  extract_lets d t1
  obtain ⟨hw, hst, hsel⟩ := holdOver_effect (t := t1) rfl
  have h1 : Within [.regs, .dpll] (· ∈ [aISTAT pgDPLL]) t t1 := (Within.refl ..).setDpll _
  exact ⟨(h1.trans hw).setDpll _, hst, hsel⟩

theorem rampPpm_ne (a b : Bool) (h : a ≠ b) : 0 < rampPpm a b := by
  cases a <;> cases b <;> first | exact absurd rfl h | decide

theorem rootBits_pos (n : Nat) : ∀ (r v : Nat), 0 < r ∨ 1 ≤ v ∧ 0 < n → 0 < rootBits n r v := by
  induction n with
  | zero => exact fun r v h => h.resolve_right fun h0 => absurd h0.2 (lt_irrefl 0)
  | succ n ih =>
    intro r v h
    unfold rootBits
    split
    · exact ih _ _ (.inl (by positivity))
    · next hle =>
      refine ih _ _ ?_
      rcases h with h | ⟨h, -⟩
      · exact .inl h
      · by_cases hr : 0 < r
        · exact .inl hr
        · refine .inr ⟨h, ?_⟩
          rcases Nat.eq_zero_or_pos n with hn | hn
          · subst hn
            have hr0 : r = 0 := by omega
            subst hr0
            exact absurd h (by simpa using hle)
          · exact hn

/-- At the start of a ramp nothing has been swept. -/
theorem rampSwept_zero {slope soft d : Nat} (hs : 0 < slope) (hsl : slope ≤ 10 ^ 9) (hd : 0 < d) : rampSwept slope
    soft d 0 = 0 := by
  have hfull : 0 < d * 10 ^ 9 / slope := by
    refine Nat.div_pos ?_ hs
    nlinarith
  have htotal : ¬ 0 ≥ (if d * 10 ^ 9 / slope < soft then 2 * rootBits 48 0 (d * 10 ^ 9 / slope * soft) else d * 10 ^
      9 / slope + soft) := by
    split
    · next h =>
      have := rootBits_pos 48 0 (d * 10 ^ 9 / slope * soft) (.inr ⟨Nat.mul_pos hfull (by omega), by decide⟩)
      omega
    · omega
  have hsoft : softPpm slope soft 0 = 0 := by
    unfold softPpm
    split <;> simp
  unfold rampSwept
  dsimp only
  rw [if_neg (by simpa using htotal), if_pos (Nat.zero_le _), hsoft, Nat.min_zero]

theorem zeroIs1_pos (n : Nat) : 0 < zeroIs1 n := by unfold zeroIs1; split <;> omega

theorem bits_le {v : Word} (hi lo : Nat) : bits v hi lo < 2 ^ (hi + 1 - lo) := by
  unfold bits
  exact Nat.mod_lt _ (by positivity)

theorem rampLeft_start {c : RateChange} (hc : s.clk.change = some c) (hp : c.phase = .ramp) (ht : c.t0 = s.now)
    (hf : s.clk.fam ≠ c.fam) : rampLeft s = rampPpm s.clk.fam c.fam := by
  unfold rampLeft
  rw [hc]
  dsimp only
  rw [if_pos hp, ht, Nat.sub_self, rampSwept_zero (zeroIs1_pos _) ?_ (rampPpm_ne _ _ hf), Nat.sub_zero]
  have : rfld s aPLLM_RAMP 31 16 < 2 ^ 16 := bits_le 31 16
  unfold zeroIs1
  split <;> omega

/-- Where a rate change stands once the ticks hold. -/
theorem startRamp_effect (c : RateChange) (t : State) :
    Within [.clk] (fun _ => False) t (startRamp c t) ∧ ∃ d, (startRamp c t).clk.change = some d ∧ d.h = c.h ∧ d.fam =
      c.fam ∧
      d.mult = c.mult ∧ d.ticket = c.ticket ∧
      (c.fam = t.clk.fam → d.phase = .relock ∧ (startRamp c t).clk.mult = c.mult) ∧
      (c.fam ≠ t.clk.fam → d.phase = .ramp ∧ d.slot = slotFor t c.fam ∧ d.t0 = t.now ∧ (startRamp c t).clk.fam =
        t.clk.fam) := by
  unfold startRamp
  split
  · next h => exact ⟨(Within.refl ..).setClk _, _, rfl, rfl, rfl, rfl, rfl, fun _ => ⟨rfl, rfl⟩, fun hn => absurd h hn⟩
  · next h => exact ⟨(Within.refl ..).setClk _, _, rfl, rfl, rfl, rfl, rfl, fun he => absurd he h, fun _ =>
      ⟨rfl, rfl, rfl, rfl⟩⟩

theorem ticksHeld_of_phase {c : RateChange} (hc : s.clk.change = some c)
    (hp : c.phase = .search ∨ c.phase = .ramp ∨ c.phase = .relock) :
    ticksHeld s = true := by
  unfold ticksHeld
  rw [hc]
  rcases hp with hp | hp | hp <;> simp [hp]

theorem ticksHeld_congr {t : State} (h : t.clk = s.clk) : ticksHeld t = ticksHeld s := by rw [ticksHeld, h, ticksHeld]

theorem rampLeft_congr {t : State} (hc : t.clk = s.clk) (hn : t.now = s.now)
    (hr : rget t aPLLM_RAMP = rget s aPLLM_RAMP) :
    rampLeft t = rampLeft s := by
  unfold rampLeft rfld
  rw [hc, hn, hr]

/-- O54, the hold. -/
theorem rateHold_effect (hl : Live s) :
    let due (c : RateChange) : Prop := c.phase = .fadeOut ∧ holdFrame s c ≤ s.tb.frame + 1
    (∀ c, s.clk.change = some c → due c →
      Runs .rateHold s fun t => ticksHeld t = true ∧ t.tb = { s.tb with ticking := false } ∧ t.dpll.st = .freerun ∧
        t.dpll.sel = none ∧
        (∃ d, t.clk.change = some d ∧ d.h = s.tb.frame + 1 ∧ d.fam = c.fam ∧ d.mult = c.mult ∧ d.ticket = c.ticket ∧
          (c.fam = s.clk.fam → d.phase = .relock ∧ t.clk.mult = c.mult) ∧
          (∀ i, c.fam ≠ s.clk.fam → slotFor s c.fam = some i → d.phase = .ramp ∧ d.slot = some i ∧ d.t0 = s.now ∧
            rampLeft t = rampPpm s.clk.fam c.fam) ∧
          (c.fam ≠ s.clk.fam → slotFor s c.fam = none → d.phase = .search ∧ t.clk.search = some c.fam)) ∧
        KeepsBut [.regs, .tb, .clk, .dpll] s t ∧ RegsOnly [aISTAT pgDPLL] s t) ∧
    ((∀ c, s.clk.change = some c → ¬ due c) → Runs .rateHold s fun t => t = s) := by
  refine ⟨fun c hc ⟨hph, hd⟩ => runs_awake hl rfl ?_, fun hno => runs_awake hl rfl ?_⟩
  · have hnot : ¬ (c.phase ≠ .fadeOut ∨ s.tb.frame + 1 < holdFrame s c) := by
      rw [not_or, not_not]
      exact ⟨hph, by omega⟩
    have h1 : Within [.regs, .tb, .clk, .dpll] (· ∈ [aISTAT pgDPLL]) s (setTb { s.tb with ticking := false } s) :=
      (Within.refl ..).setTb _
    unfold rateHold
    rw [hc]
    dsimp only
    rw [if_neg hnot]
    by_cases hs : c.fam ≠ s.clk.fam ∧ (slotFor s c.fam).isNone
    · rw [if_pos hs]
      have h2 := h1.setClk { (setTb { s.tb with ticking := false } s).clk with
        change := some { { c with h := s.tb.frame + 1 } with phase := .search }, search := some c.fam }
      generalize hu : setClk _ (setTb { s.tb with ticking := false } s) = u at h2 ⊢
      obtain ⟨hw, hst, hsel⟩ := dpllFree_effect u
      have hclk : (dpllFree u).clk = u.clk := hw.1 .clk (by decide)
      have hch : u.clk.change = some { { c with h := s.tb.frame + 1 } with phase := .search } := by rw [← hu]; rfl
      have hall := h2.trans (hw.mono (m := [.regs, .tb, .clk, .dpll]) (by decide) fun _ h => h)
      refine ⟨?_, ?_, hst, hsel, ⟨_, (congrArg ClockSt.change hclk).trans hch, rfl, rfl, rfl, rfl, fun he => absurd
        he hs.1,
        fun i _ hi => ?_, fun _ _ => ⟨rfl, ?_⟩⟩, hall.1, hall.2⟩
      · rw [ticksHeld_congr hclk]
        exact ticksHeld_of_phase hch (.inl rfl)
      · rw [show (dpllFree u).tb = u.tb from hw.1 .tb (by decide), ← hu]
        rfl
      · exact absurd hs.2 (by simp [hi])
      · rw [hclk, ← hu]; rfl
    · rw [if_neg hs]
      obtain ⟨hr, d, hdc, hh, hf, hm, ht, hsame, hramp⟩ := startRamp_effect { c with h := s.tb.frame + 1 }
        (setTb { s.tb with ticking := false } s)
      have h2 := h1.trans (hr.mono (m := [.regs, .tb, .clk, .dpll]) (by decide) fun _ => False.elim)
      generalize startRamp _ _ = u at *
      obtain ⟨hw, hst, hsel⟩ := dpllFree_effect u
      have hclk : (dpllFree u).clk = u.clk := hw.1 .clk (by decide)
      have hall := h2.trans (hw.mono (m := [.regs, .tb, .clk, .dpll]) (by decide) fun _ h => h)
      have htb : (dpllFree u).tb = { s.tb with ticking := false } :=
        (show (dpllFree u).tb = u.tb from hw.1 .tb (by decide)).trans (hr.1 .tb (by decide))
      refine ⟨?_, htb, hst, hsel, ⟨d, (congrArg ClockSt.change hclk).trans hdc, hh, hf, hm, ht,
        fun he => ?_, fun i hn hi => ?_, fun hn hi => absurd ⟨hn, by rw [hi]; rfl⟩ hs⟩, hall.1, hall.2⟩
      · rw [ticksHeld_congr hclk]
        by_cases he : c.fam = s.clk.fam
        · exact ticksHeld_of_phase hdc (.inr (.inr (hsame he).1))
        · exact ticksHeld_of_phase hdc (.inr (.inl (hramp he).1))
      · obtain ⟨h3, h4⟩ := hsame he
        exact ⟨h3, (congrArg ClockSt.mult hclk).trans h4⟩
      · obtain ⟨h3, h4, h5, h6⟩ := hramp hn
        have hnow : u.now = s.now := h2.1 .now (by decide)
        refine ⟨h3, h4.trans hi, h5, ?_⟩
        rw [rampLeft_congr hclk (hw.1 .now (by decide)) (hw.2 _ (by decide)),
          rampLeft_start hdc h3 (h5.trans hnow.symm) (by rw [h6, hf]; exact fun h => hn h.symm), h6, hf]
        rfl
  · unfold rateHold
    split
    · rfl
    · next c hc =>
      refine if_pos ?_
      by_contra hn
      rw [not_or, not_not] at hn
      exact hno c hc ⟨hn.1, by omega⟩

/-- O54, the ramp. -/
theorem ramp_effect {c : RateChange} (hl : Live s) (hc : s.clk.change = some c) (hp : c.phase = .ramp) :
    (c.handed = false → Runs .rampHandover s fun t => t.clk = { s.clk with change := some { c with handed := true } } ∧
      KeepsBut [.clk] s t) ∧
    Runs .rampEnd s fun t => t.clk.fam = c.fam ∧ t.clk.mult = c.mult ∧ t.clk.change.map (·.phase) = some .relock ∧
      rampLeft t = 0 ∧ rbit t (aISTAT pgPLLM) 3 = true ∧ KeepsBut [.regs, .clk] s t ∧ RegsOnly [aISTAT pgPLLM] s t := by
  refine ⟨fun hh => runs_awake hl rfl ?_, runs_awake hl rfl ?_⟩
  · have hx : rampHandover s = setClk { s.clk with change := some { c with handed := true } } s := by
      unfold rampHandover
      rw [hc]
      exact if_pos ⟨hp, by simp [hh]⟩
    rw [hx]
    exact ⟨rfl, ((Within.refl [.clk] (fun _ => False) s).setClk _).1⟩
  · have hx : rampEnd s = iset pgPLLM 3
        (setClk { s.clk with change := some { c with phase := .relock, handed := true }, fam := c.fam, mult := c.mult } s) := by
      unfold rampEnd
      rw [hc]
      exact if_pos hp
    have hw : Within [.regs, .clk] (· ∈ [aISTAT pgPLLM]) s (rampEnd s) := hx ▸ ((Within.refl ..).setClk _).iset _
    refine ⟨?_, ?_, ?_, ?_, ?_, hw.1, hw.2⟩ <;> rw [hx]
    · rfl
    · rfl
    · rfl
    · rfl
    · exact rbit_iset_any ⟨pgPLLM, by decide⟩ (by decide) _

theorem ramp_not (h : ∀ c, s.clk.change = some c → c.phase ≠ .ramp) :
    Runs .rampHandover s (fun t => t = s) ∧ Runs .rampEnd s (fun t => t = s) := by
  have h1 : rampHandover s = s := by
    unfold rampHandover
    split
    · next c hc => exact if_neg fun hp => h c hc hp.1
    · rfl
  have h2 : rampEnd s = s := by
    unfold rampEnd
    split
    · next c hc => exact if_neg (h c hc)
    · rfl
  have hr {f : State → State} (hf : f s = s) : awake f s = s := by unfold awake; rw [hf, ite_self]
  exact ⟨⟨_, rfl, hr h1⟩, ⟨_, rfl, hr h2⟩⟩

/-! ### O54: the resumption and the end -/

/-- O54, a good window of PLL-M during a change. -/
theorem pllLock_change (hs : Canonical s) (ho : inOperation s) {c : RateChange} {n : BitVec 13}
    (hc : s.clk.change = some c)
    (hn : windowGood n) (hm : s.clk.lockM = true) (he : enOf s pgPLLM = true) :
    Runs (.pllLock .m n) s fun t => t.clk = (if c.phase = .relock then
      { s.clk with change := some { c with phase := .resume } } else s.clk) ∧
      rget t aPLLM_LOCKCNT = w32 n.toNat ∧ KeepsBut [.regs, .clk] s t := by
  have hx : pllLock .m n.toNat s = (if c.phase = .relock then
      setClk { s.clk with change := some { c with phase := .resume } } (rset aPLLM_LOCKCNT (w32 n.toNat) s)
      else rset aPLLM_LOCKCNT (w32 n.toNat) s) := by
    have hgood : decide (4094 ≤ n.toNat ∧ n.toNat ≤ 4098) = true := decide_eq_true hn
    unfold pllLock
    rw [if_neg (show ¬ ¬ loopOn s .m from not_not.2 he)]
    simp only [hgood, not_true_eq_false, if_false]
    rw [if_neg (show ¬ ¬ loopLocked s .m from not_not.2 hm)]
    rw [show (rset (lockCntReg .m) (w32 n.toNat) s).clk.change = some c from hc]
    rfl
  have hr : Within [.regs, .clk] (· ∈ [aPLLM_LOCKCNT]) s (rset aPLLM_LOCKCNT (w32 n.toNat) s) := (Within.refl ..).rset _
  have hw : Within [.regs, .clk] (· ∈ [aPLLM_LOCKCNT]) s (pllLock .m n.toNat s) := hx ▸ (hr.setClk _).ite hr
  refine runs_inOperation ho rfl (hw.1 .boot (by decide)) ⟨?_, ?_, hw.1⟩
  · rw [hx]; split <;> rfl
  · rw [hx]
    split
    · exact rget_rset_same hs.1 _ _
    · exact rget_rset_same hs.1 _ _

theorem ticksHeld_not {c : RateChange} (hc : s.clk.change = some c) (hp : c.phase = .fadeIn) : ticksHeld s = false := by
  unfold ticksHeld
  rw [hc]
  simp [hp]

theorem portsRequalify_clk (t : State) : (portsRequalify t).clk = t.clk := by
  refine foldl_keeps (fun u : State => u.clk) (fun u g => ?_) _ _
  split
  · have hset : Settles leaveParts (· ∈ leaveRegs g) (iset (pgPORTG g) 3 u) (enterMismatch g (iset (pgPORTG g) 3 u)) :=
      ((Settles.refl ..).setGrp g _).leaveRun _
    exact hset.within.1 .clk (by decide)
  · rfl

/-- O54, the resumption. -/
theorem rateResume_effect (hl : Live s) :
    (∀ c, s.clk.change = some c → c.phase = .resume →
      Runs .rateResume s fun t => t.clk.change = some { c with phase := .fadeIn } ∧ t.clk.fadeInAt = some c.h ∧
        ticksHeld t = false ∧
        (∀ g : Fin 4, gcfgMode (gcfg s g) = false → (grp t g).st ≠ .run) ∧
        (∀ g : Fin 4, gcfgMode (gcfg s g) = true → (grp t g).st = (grp s g).st)) ∧
    ((∀ c, s.clk.change = some c → c.phase ≠ .resume) → Runs .rateResume s fun t => t = s) := by
  refine ⟨fun c hc hp => runs_awake hl rfl ?_, fun hno => runs_awake hl rfl ?_⟩
  · have hx : rateResume s = portsRequalify
      (setClk { s.clk with change := some { c with phase := .fadeIn }, fadeInAt := some c.h } s) := by
      unfold rateResume
      rw [hc]
      exact if_pos hp
    obtain ⟨h1, h2⟩ := portsRequalify_effect
      (setClk { s.clk with change := some { c with phase := .fadeIn }, fadeInAt := some c.h } s)
    have hclk : (rateResume s).clk =
        { s.clk with change := some { c with phase := .fadeIn }, fadeInAt := some c.h } := by
      rw [hx]
      exact portsRequalify_clk _
    rw [hx] at hclk ⊢
    exact ⟨by rw [hclk], by rw [hclk], ticksHeld_not (congrArg ClockSt.change hclk) rfl, h1, fun g hg => congrArg GroupSt.st (h2 g hg)⟩
  · unfold rateResume
    split
    · next c hc => exact if_neg (hno c hc)
    · rfl

theorem clk_finishRunning (u : Word) (d : Nat) (t : State) : (finishRunning u d t).clk = t.clk :=
  ((Settles.refl doneParts (· ∈ doneRegs) t).finishRunning room_done u d).within.1 .clk (by decide)

theorem tb_finishRunning (u : Word) (d : Nat) (t : State) : (finishRunning u d t).tb = t.tb :=
  ((Settles.refl doneParts (· ∈ doneRegs) t).finishRunning room_done u d).within.1 .tb (by decide)

/-- The entry of a change that is over completes. -/
def changeOver (c : RateChange) (s : State) : State :=
  let s1 := iset pgPLLM 4 (setClk { s.clk with change := none, fadeInAt := none } s)
  match c.ticket with | some t => finishRunning t (c.h + 63) s1 | none => s1

theorem changeOver_effect (c : RateChange) (s : State) :
    (changeOver c s).clk = { s.clk with change := none, fadeInAt := none } ∧ (changeOver c s).tb = s.tb ∧
      rbit (changeOver c s) (aISTAT pgPLLM) 4 = true ∧
      (∀ k x, c.ticket = some k → findEv k s.comp.running = some x → (changeOver c s).comp.running = dropEv k
        s.comp.running) := by
  have hi := rbit_iset_any ⟨pgPLLM, by decide⟩ (b := 4) (by decide)
      (setClk { s.clk with change := none, fadeInAt := none } s)
  unfold changeOver
  cases hc : c.ticket with
  | none => exact ⟨rfl, rfl, hi, fun k x hk => by cases hk⟩
  | some k =>
    dsimp only
    refine ⟨clk_finishRunning .., tb_finishRunning .., ?_, fun k' x hk hf => ?_⟩
    · have hset := (Settles.refl doneParts (· ∈ doneRegs) (iset pgPLLM 4
        (setClk { s.clk with change := none, fadeInAt := none } s))).finishRunning
        room_done k (c.h + 63)
      exact (congrArg (bit · 4) (hset.within.2 _ (by decide))).trans hi
    · obtain rfl := Option.some.inj hk
      unfold finishRunning
      rw [show (iset pgPLLM 4 (setClk { s.clk with change := none, fadeInAt := none } s)).comp = s.comp from rfl, hf]
      exact finishAt_running ..

theorem nextRates_none {t : State} (h : t.clk.heldRates = []) : nextRates t = t := by rw [nextRates, h]; rfl

/-- One held value, which starts a change. -/
theorem nextRates_one {t : State} {k : Option Word} {w : Word} {fam : Bool} {m : Nat} (h : t.clk.heldRates = [(k, w)])
    (hc : t.clk.change = none) (hw : rateOf w = some (fam, m)) (hm : t.clk.lockM = true)
      (hd : fam ≠ t.clk.fam ∨ m ≠ t.clk.mult) :
    ∃ d, (nextRates t).clk.change = some d ∧ d.ticket = k ∧ d.fam = fam ∧ d.mult = m ∧ d.land = t.tb.frame ∧ d.phase
      = .fadeOut := by
  have hne : ¬ (fam = t.clk.fam ∧ m = t.clk.mult) := by tauto
  have hr : nextRates t = nextRate t := by
    rw [nextRates, h]
    exact if_pos (by rw [hc]; rfl)
  have hland (u : State) (hu : u.clk = { t.clk with heldRates := [] }) (htb : u.tb = t.tb) :
      (rateLand k w u).2 = true ∧ ∃ d, (rateLand k w u).1.clk.change = some d ∧ d.ticket = k ∧ d.fam = fam ∧ d.mult =
        m ∧
        d.land = t.tb.frame ∧ d.phase = .fadeOut := by
    have hx : rateLand k w u = (syncRestart (setClk { u.clk with
        change := some { ticket := k, fam := fam, mult := m, land := u.tb.frame, phase := .fadeOut, h := 0,
                         period := period u, handed := false, t0 := 0, slot := none }, fadeInAt := none } u),
                           true) := by
      simp only [rateLand, hw, hu, hm, hc, hne, not_true_eq_false, if_false]
    rw [hx]
    exact ⟨rfl, _, congrArg ClockSt.change (syncRestart_parts _).1, rfl, rfl, rfl, by rw [htb], rfl⟩
  rw [hr]
  unfold nextRate
  rw [h]
  cases k with
  | none =>
    obtain ⟨h1, h2⟩ := hland (setClk { t.clk with heldRates := [] } t) rfl rfl
    dsimp only
    rwa [if_pos h1]
  | some k =>
    obtain ⟨h1, h2⟩ := hland { setClk { t.clk with heldRates := [] } t with
      comp := { t.comp with running := t.comp.running.map fun e => if e.ticket = k then { e with land := t.tb.frame } else e } } rfl rfl
    dsimp only
    split
    · exact h2
    · next hn => exact absurd h1 hn

/-- A step of the held values keeps the interrupt bits that are set. -/
theorem rateDone_due {c : RateChange} (hc : s.clk.change = some c) (hp : c.phase = .fadeIn ∧ c.h + 63 ≤ s.tb.frame) :
    rateDone s = nextRates (changeOver c s) := by
  unfold rateDone
  rw [hc]
  exact if_pos hp

/-- What lands does so without a change of the interrupt bits of PLLM. -/
theorem within_nextRate (t : State) : Within [.regs, .mem, .comp, .galley, .fab, .clk, .twin] (· ∈ doneRegs) t
    (nextRate t) := by
  have hr : Within [.regs, .mem, .comp, .galley, .fab, .clk, .twin] (· ∈ doneRegs) t t := .refl ..
  have hcomp (u : State) (x : CompositorSt) (hu : Within [.regs, .mem, .comp, .galley, .fab, .clk, .twin]
      (· ∈ doneRegs) t u) :
      Within [.regs, .mem, .comp, .galley, .fab, .clk, .twin] (· ∈ doneRegs) t { u with comp := x } :=
    ⟨fun p hp => (hu.1 p hp).trans (by cases p <;> first | rfl | exact absurd (by decide) hp), hu.2⟩
  have hland (k : Option Word) (w : Word) (u : State) (hu : Within [.regs, .mem, .comp, .galley, .fab, .clk, .twin]
      (· ∈ doneRegs) t u) :
      Within [.regs, .mem, .comp, .galley, .fab, .clk, .twin] (· ∈ doneRegs) t (rateLand k w u).1 := by
    unfold rateLand
    split
    · exact hu
    · split
      · exact hu.setClk _
      · split
        · exact hu.setClk _
        · split
          · exact hu
          · exact ((hu.setClk _).setTwinSt _).ite (hu.setClk _)
  have hfin (k : Word) (d : Nat) (u : State) (hu : Within [.regs, .mem, .comp, .galley, .fab, .clk, .twin]
      (· ∈ doneRegs) t u) :
      Within [.regs, .mem, .comp, .galley, .fab, .clk, .twin] (· ∈ doneRegs) t (finishRunning k d u) :=
    hu.trans (((Settles.refl doneParts (· ∈ doneRegs) u).finishRunning room_done k d).within.mono
      (by decide) fun _ h => h)
  unfold nextRate
  split
  · exact hr
  · next k w rest _ =>
    cases k with
    | none => exact (hland none w _ (hr.setClk _)).ite (hland none w _ (hr.setClk _))
    | some k =>
      dsimp only
      split
      · exact hland _ _ _ (hcomp _ _ (hr.setClk _))
      · exact hfin _ _ _ (hland _ _ _ (hcomp _ _ (hr.setClk _)))

theorem within_nextRates (t : State) : Within [.regs, .mem, .comp, .galley, .fab, .clk, .twin] (· ∈ doneRegs) t
    (nextRates t) := by
  unfold nextRates
  refine List.foldlRecOn (motive := fun u => Within [.regs, .mem, .comp, .galley, .fab, .clk, .twin] (· ∈ doneRegs) t
    u) _ _ (.refl ..)
    fun u hu _ _ => ?_
  split
  · exact hu.trans (within_nextRate u)
  · exact hu

/-- O54, the end of the change. -/
theorem rateDone_effect (hl : Live s) :
    let due (c : RateChange) : Prop := c.phase = .fadeIn ∧ c.h + 63 ≤ s.tb.frame
    (∀ c, s.clk.change = some c → due c → Runs .rateDone s fun t => rbit t (aISTAT pgPLLM) 4 = true ∧
      (s.clk.heldRates = [] → t.clk = { s.clk with change := none, fadeInAt := none } ∧
        (∀ k x, c.ticket = some k → findEv k s.comp.running = some x → t.comp.running = dropEv k s.comp.running)) ∧
      (∀ k w fam m, s.clk.heldRates = [(k, w)] → rateOf w = some (fam, m) → s.clk.lockM = true →
        (fam ≠ s.clk.fam ∨ m ≠ s.clk.mult) → ∃ d, t.clk.change = some d ∧ d.ticket = k ∧ d.fam = fam ∧ d.mult = m ∧
          d.land = s.tb.frame ∧ d.phase = .fadeOut)) ∧
    ((∀ c, s.clk.change = some c → ¬ due c) → Runs .rateDone s fun t => t = s) := by
  refine ⟨fun c hc hd => runs_awake hl rfl ?_, fun hno => runs_awake hl rfl ?_⟩
  · obtain ⟨hclk, htb, hi, hrun⟩ := changeOver_effect c s
    rw [rateDone_due hc hd]
    refine ⟨(congrArg (bit · 4)
      ((within_nextRates _).2 _ (by decide))).trans hi, fun h => ?_, fun k w fam m hh hw hm hne => ?_⟩
    · rw [nextRates_none (by rw [hclk]; exact h)]
      exact ⟨hclk, hrun⟩
    · rw [← htb]
      exact nextRates_one (by rw [hclk]; exact hh) (by rw [hclk]) hw (by rw [hclk]; exact hm) (by rw [hclk]; exact hne)
  · unfold rateDone
    split
    · next c hc => exact if_neg (hno c hc)
    · rfl

/-! ### O54: renewals in the hold -/

/-- O54, the renewals. -/
theorem rateHoldRenewal_effect (hs : Canonical s) (hl : Live s) (x : Nat) :
    let u := advance x s
    let renews : Prop := isActive s = true ∧ s.twin.drive = true ∧ grantSeen s = true ∧ s.twin.release = none
    (ticksHeld s = true → renews →
      Runs (.rateHoldRenewal x) s fun t => t.twin = { s.twin with lease := some (u.now + leaseLen s) } ∧ t.arb.hb =
        (!s.arb.hb) ∧
        rget t aARB_HB_CNT = rget s aARB_HB_CNT + 1 ∧ KeepsBut [.now, .ptp, .regs, .twin, .arb] s t ∧ RegsOnly
          [aARB_HB_CNT] s t) ∧
    (ticksHeld s = true → isActive s = true → ¬ renews →
      Runs (.rateHoldRenewal x) s fun t => t.arb = { s.arb with hbRun := false } ∧ KeepsBut [.now, .ptp, .arb] s t) ∧
    (ticksHeld s = true → isActive s = false → Runs (.rateHoldRenewal x) s fun t => t.twin = s.twin ∧
      t.arb.hb = (if hbTogglesAtTick s then !s.arb.hb else s.arb.hb) ∧ KeepsBut [.now, .ptp, .regs, .arb] s t ∧
      RegsOnly [aARB_HB_CNT] s t) ∧
    (ticksHeld s = false → Runs (.rateHoldRenewal x) s fun t => t = u) := by
  intro u renews
  have hu (l : List Part) (h : ∀ p ∈ [Part.now, .ptp], p ∈ l) : Within l (· ∈ [aARB_HB_CNT]) s u :=
      (Within.refl ..).advance x h
  have hk (p : Part) (h : p ∉ [Part.now, .ptp]) : p.same s u := (hu [.now, .ptp] (fun _ h => h)).1 p h
  have htwin : u.twin = s.twin := hk .twin (by decide)
  have harb : u.arb = s.arb := hk .arb (by decide)
  have hclk : u.clk = s.clk := hk .clk (by decide)
  have hcist : u.cistern = s.cistern := hk .cistern (by decide)
  have hheld : ticksHeld u = ticksHeld s := ticksHeld_congr hclk
  have hact : isActive u = isActive s := by rw [isActive, htwin, isActive]
  have hgrant : grantSeen u = grantSeen s := by rw [grantSeen, harb, grantSeen]
  have hlease : leaseLen u = leaseLen s := by unfold leaseLen fs; rw [htwin, hclk]
  have htog : hbTogglesAtTick u = hbTogglesAtTick s := by unfold hbTogglesAtTick candidate; rw [htwin, hclk, hcist]
  have hwf : spWf resetWord u.regs = true := by simpa [u] using hs.1
  have hcnt (a : ArbSt) (t : TwinSt) (v : State) (hv : v = { setTwinSt t u with arb := a }) :
      rget (cnt aARB_HB_CNT v) aARB_HB_CNT = rget s aARB_HB_CNT + 1 := by
    subst hv
    exact (rget_rset_same hwf _ _).trans (congrArg (· + 1) (rget_advance x s _))
  have hrun {P : State → Prop} (h : P (if ticksHeld u then renewLease u else u)) : Runs (.rateHoldRenewal x) s P :=
      runs_awake hl rfl h
  refine ⟨fun ht ⟨ha, hd, hg, hr⟩ => hrun ?_, fun ht ha hn => hrun ?_, fun ht ha => hrun ?_, fun ht => hrun ?_⟩
  · rw [if_pos (hheld.trans ht), renewLease, if_pos (hact.trans ha), if_pos
      ⟨by rw [htwin]; exact hd, hgrant.trans hg, by rw [htwin]; exact hr⟩]
    have hw : Within [.now, .ptp, .regs, .twin, .arb] (· ∈ [aARB_HB_CNT]) s
        (hbToggle (setTwinSt { u.twin with lease := some (u.now + leaseLen u) } u)) :=
      ((((hu _ (by decide)).setTwinSt _).setArb _)).cnt _
    refine ⟨?_, ?_, hcnt _ _ _ rfl, hw.1, hw.2⟩
    · show { u.twin with lease := some (u.now + leaseLen u) } = _
      rw [htwin, hlease]
    · show (!u.arb.hb) = _
      rw [harb]
  · have hn' : ¬ (u.twin.drive ∧ grantSeen u ∧ u.twin.release = none) := by
      rw [htwin, hgrant]
      exact fun ⟨h1, h2, h3⟩ => hn ⟨ha, h1, h2, h3⟩
    rw [if_pos (hheld.trans ht), renewLease, if_pos (hact.trans ha), if_neg hn']
    refine ⟨?_, ((hu [.now, .ptp, .arb] (by decide)).setArb _).1⟩
    show { u.arb with hbRun := false } = _
    rw [harb]
  · have hna : ¬ isActive u = true := by rw [hact, ha]; decide
    rw [if_pos (hheld.trans ht), renewLease, if_neg hna, htog]
    split
    · have hw : Within [.now, .ptp, .regs, .arb] (· ∈ [aARB_HB_CNT]) s (hbToggle u) :=
        ((hu _ (by decide)).setArb _).cnt _
      refine ⟨htwin, ?_, hw.1, hw.2⟩
      show (!u.arb.hb) = _
      rw [harb]
    · have hw : Within [.now, .ptp, .regs, .arb] (· ∈ [aARB_HB_CNT]) s (hbStatic u) := (hu _ (by decide)).setArb _
      refine ⟨htwin, ?_, hw.1, hw.2⟩
      show u.arb.hb = _
      rw [harb]
  · rw [if_neg (by rw [hheld, ht]; decide)]

/-- Settles O54. -/
theorem rateChanges : Obligations.RateChanges :=
  ⟨fun _ _ _ => exec_mediaRateChange, fun _ _ _ _ _ _ _ h ho hp hw => mediaRateChange_effect h ho hp hw,
    fun _ _ hl => rateHold_effect hl, fun _ _ hl hc hp => ramp_effect hl hc hp, fun _ => ramp_not,
    fun _ _ _ hs ho hc hn hm he => pllLock_change hs ho hc hn hm he, fun _ _ hl => rateResume_effect hl,
    fun _ _ hl => rateDone_effect hl, fun _ x hs hl => rateHoldRenewal_effect hs hl x⟩

/-! ### O48: the time commands -/

section
variable {l : List Part} {A : Nat → Prop} {t : State} (h : Within l A s t)
include h

theorem Within.setPtp (x : PtpSt) (hl : .ptp ∈ l := by decide) : Within l A s (setPtp x t) :=
  ⟨fun p hp => (h.1 p hp).trans (by cases p <;> first | rfl | exact absurd hl hp), h.2⟩

theorem Within.setComp (x : CompositorSt) (hl : .comp ∈ l := by decide) : Within l A s { t with comp := x } :=
  ⟨fun p hp => (h.1 p hp).trans (by cases p <;> first | rfl | exact absurd hl hp), h.2⟩

theorem Within.setGalley (x : GalleySt) (hl : .galley ∈ l := by decide) : Within l A s { t with galley := x } :=
  ⟨fun p hp => (h.1 p hp).trans (by cases p <;> first | rfl | exact absurd hl hp), h.2⟩

theorem Within.setCtr (one : Bool) (c : TimeCtr) (hl : .ptp ∈ l := by decide) : Within l A s (setCtr one c t) :=
  h.setPtp _ hl

theorem Within.ptpMoved (one : Bool) (hl : .dpll ∈ l := by decide) : Within l A s (ptpMoved one t) := by
  unfold Machine.ptpMoved setRef
  exact ((h.setDpll _ hl).setDpll _ hl).ite (h.setDpll _ hl)

theorem Within.ptpStepPass (old new : Nat) (hc : .comp ∈ l := by decide) (hg : .galley ∈ l := by decide)
    (hr : .regs ∈ l := by decide) (hi : A (aISTAT pgCOMPOSITOR) := by decide) : Within l A s (ptpStepPass old new t) :=
  .ite (((h.setGalley _ hg).setComp _ hc).iset _ hr hi) h

end

/-- The parts and registers that a step of a counter may change. -/
theorem within_stepped (one : Bool) (old : TimeCtr) (t : State) :
    Within [.regs, .ptp, .dpll, .comp, .galley] (· ∈ [aPTP_STEP_CNT, aISTAT pgPTP, aISTAT pgCOMPOSITOR]) t
      (stepped one old t) :=
  have hm := (((Within.refl _ _ t).cnt (a := aPTP_STEP_CNT) 1).iset (p := pgPTP) 6).ptpMoved one
  .ite hm (hm.ptpStepPass ..)

theorem ptp_ptpMoved (one : Bool) (t : State) : (ptpMoved one t).ptp = t.ptp ∧ (ptpMoved one t).regs = t.regs := by
  unfold ptpMoved
  generalize (if one then 3 else 2) = r
  dsimp only
  split <;> exact ⟨rfl, rfl⟩

/-- What a step of a counter leaves on the page and in the counters. -/
theorem stepped_effect (hs : spWf resetWord s.regs = true) (one : Bool) (old : TimeCtr) :
    (stepped one old s).ptp = s.ptp ∧ rget (stepped one old s) aPTP_STEP_CNT = rget s aPTP_STEP_CNT + 1 ∧
      rbit (stepped one old s) (aISTAT pgPTP) 6 = true := by
  set u := ptpMoved one (iset pgPTP 6 (cnt aPTP_STEP_CNT s)) with hu
  obtain ⟨hptp, hregs⟩ := ptp_ptpMoved one (iset pgPTP 6 (cnt aPTP_STEP_CNT s))
  rw [← hu] at hptp hregs
  have hget (a : Nat) : rget u a = rget (iset pgPTP 6 (cnt aPTP_STEP_CNT s)) a := congrArg (spGet resetWord · a) hregs
  have hcnt : rget u aPTP_STEP_CNT = rget s aPTP_STEP_CNT + 1 := by
    rw [hget, rget_iset_ne _ _ _ (by decide)]
    exact rget_rset_same hs _ _
  have hbit : rbit u (aISTAT pgPTP) 6 = true := by
    rw [rbit, hget]
    exact rbit_iset_any ⟨pgPTP, by decide⟩ (by decide) _
  have hst : stepped one old s = if one then u else ptpStepPass (ptpAxis old) (ptpAxis s.ptp.t0) u := rfl
  have hp : Within [.comp, .galley, .regs] (· = aISTAT pgCOMPOSITOR) u
      (ptpStepPass (ptpAxis old) (ptpAxis s.ptp.t0) u) :=
    (Within.refl ..).ptpStepPass _ _ (by decide) (by decide) (by decide) rfl
  rw [hst]
  split
  · exact ⟨hptp, hcnt, hbit⟩
  · exact ⟨Eq.trans (hp.1 .ptp (by decide)) hptp, (hp.2 _ (by decide)).trans hcnt,
      (congrArg (bit · 6) (hp.2 _ (by decide))).trans hbit⟩

theorem ctrOf_setCtr (one : Bool) (c : TimeCtr) (t : State) :
    ctrOf (setCtr one c t) one = c ∧ otherCtr (setCtr one c t) one = otherCtr t one ∧ (setCtr one c t).ptp.cmd =
      t.ptp.cmd := by
  cases one <;> exact ⟨rfl, rfl, rfl⟩

theorem ctrOf_congr {t u : State} (h : t.ptp = u.ptp) (one : Bool) : ctrOf t one = ctrOf u one := by
  unfold ctrOf
  rw [h]

/-- The state in which a time command acts: it waits no longer. -/
abbrev cmdTaken (s : State) : State := setPtp { s.ptp with cmd := none } s

section
variable {one : Bool} (hg : s.clk.coreGated = false)
include hg

theorem timecmdAct_of_set (hc : s.ptp.cmd = some (1, one)) :
    timecmdAct s = if (rget s aPTP_TIMESET_NS).toNat ≥ 1000000000 then errcap pgPTP 2 aPTP_TIMECMD (cmdTaken s)
      else stepped one (ctrOf s one) (setCtr one { endSlew (ctrOf s one) with
        t := (((rget s aPTP_TIMESET_S_LO).toNat + 2 ^ 32 * rfld s aPTP_TIMESET_S_HI 15 0) * 1000000000
          + (rget s aPTP_TIMESET_NS).toNat) * 2 ^ 48 } (cmdTaken s)) := by
  unfold timecmdAct
  rw [hg, hc]
  cases one <;> rfl

theorem timecmdAct_of_add (hc : s.ptp.cmd = some (2, one)) {o : Int}
    (ho : o = sgn 64 ((rget s aPTP_OFFSET_LO).toNat + 2 ^ 32 * (rget s aPTP_OFFSET_HI).toNat)) {u : State}
    (hu : u = setCtr one { endSlew (ctrOf s one) with t := (((ctrOf s one).t + o * 2 ^ 48) % (ctrMod : Int)).toNat }
      (cmdTaken s)) :
    timecmdAct s = if o = 0 then u else stepped one (ctrOf s one) u := by
  unfold timecmdAct
  rw [hg, hc, hu, ho]
  cases one <;> rfl

theorem timecmdAct_of_slew (hc : s.ptp.cmd = some (3, one)) {n : Int} (hn : n = sgn 32 (rget s aPTP_SLEW_NS).toNat) :
    timecmdAct s = if n = 0 then iset pgPTP 5 (setCtr one (endSlew (ctrOf s one)) (cmdTaken s))
      else setCtr one { ctrOf s one with slew := n * 2 ^ 48, ppm := clampN 1 500 (rfld s aPTP_SLEW_PPM 8 0), slewing := true }
        (cmdTaken s) := by
  unfold timecmdAct
  rw [hg, hc, hn]
  cases one <;> rfl

end

theorem within_cmdTaken (s : State) : Within [.ptp] (fun _ => False) s (cmdTaken s) := (Within.refl ..).setPtp _

/-- A counter that a SET or ADD has moved. -/
theorem moved_effect (hs : Canonical s) (one : Bool) (n : Nat) :
    let u := stepped one (ctrOf s one) (setCtr one { endSlew (ctrOf s one) with t := n } (cmdTaken s))
    u.ptp.cmd = none ∧ otherCtr u one = otherCtr s one ∧ ctrOf u one = { endSlew (ctrOf s one) with t := n } ∧
      rget u aPTP_STEP_CNT = rget s aPTP_STEP_CNT + 1 ∧ rbit u (aISTAT pgPTP) 6 = true ∧
      KeepsBut [.regs, .ptp, .dpll, .comp, .galley] s u ∧
      RegsOnly [aPTP_STEP_CNT, aISTAT pgPTP, aISTAT pgCOMPOSITOR] s u := by
  intro u
  set v := setCtr one { endSlew (ctrOf s one) with t := n } (cmdTaken s) with hv
  obtain ⟨hptp, hcnt, hbit⟩ := stepped_effect (s := v) hs.1 one (ctrOf s one)
  obtain ⟨hown, hother, hcmd⟩ := ctrOf_setCtr one { endSlew (ctrOf s one) with t := n } (cmdTaken s)
  have hw := (((within_cmdTaken s).setCtr one { endSlew (ctrOf s one) with t := n }).mono (by decide)
    fun _ => False.elim).trans (within_stepped one (ctrOf s one) v)
  refine ⟨(congrArg PtpSt.cmd hptp).trans hcmd, (ctrOf_congr hptp _).trans ?_, (ctrOf_congr hptp _).trans hown, hcnt,
    hbit, hw.1, hw.2⟩
  refine hother.trans ?_
  cases one <;> rfl

/-- O48, SET acts. -/
theorem timecmdAct_set (hs : Canonical s) {one : Bool} (hl : Live s) (hg : s.clk.coreGated = false)
    (hc : s.ptp.cmd = some (1, one)) :
    ((rget s aPTP_TIMESET_NS).toNat < 1000000000 →
      Runs .timecmdAct s fun t => t.ptp.cmd = none ∧ otherCtr t one = otherCtr s one ∧
        (ctrOf t one).t = (((rget s aPTP_TIMESET_S_LO).toNat + 2 ^ 32 * rfld s aPTP_TIMESET_S_HI 15 0) * 1000000000
          + (rget s aPTP_TIMESET_NS).toNat) * 2 ^ 48 ∧ (ctrOf t one).slewing = false ∧ (ctrOf t one).res =
            (ctrOf s one).res ∧
        rget t aPTP_STEP_CNT = rget s aPTP_STEP_CNT + 1 ∧ rbit t (aISTAT pgPTP) 6 = true ∧
        KeepsBut [.regs, .ptp, .dpll, .comp, .galley] s t ∧
        RegsOnly [aPTP_STEP_CNT, aISTAT pgPTP, aISTAT pgCOMPOSITOR] s t) ∧
    (1000000000 ≤ (rget s aPTP_TIMESET_NS).toNat →
      Runs .timecmdAct s fun t => t.ptp = { s.ptp with cmd := none } ∧ captured 2 pgPTP aPTP_TIMECMD s t ∧ KeepsBut
        [.regs, .ptp] s t) := by
  have he := timecmdAct_of_set hg hc
  refine ⟨fun hn => runs_awake hl rfl ?_, fun hn => runs_awake hl rfl ?_⟩
  · have h1 : timecmdAct s = _ := he.trans (if_neg (by omega))
    obtain ⟨h2, h3, h4, h5, h6, h7, h8⟩ := moved_effect hs one
      ((((rget s aPTP_TIMESET_S_LO).toNat + 2 ^ 32 * rfld s aPTP_TIMESET_S_HI 15 0) * 1000000000
        + (rget s aPTP_TIMESET_NS).toNat) * 2 ^ 48)
    rw [h1]
    exact ⟨h2, h3, by rw [h4], by rw [h4]; rfl, by rw [h4]; rfl, h5, h6, h7, h8⟩
  · have h1 : timecmdAct s = _ := he.trans (if_pos hn)
    have hw : Within [.regs, .ptp] (· ∈ [aERRCAP pgPTP, aERRADDR pgPTP]) s (errcap pgPTP 2 aPTP_TIMECMD (cmdTaken s)) :=
      ((within_cmdTaken s).mono (by decide) fun _ => False.elim).errcap ..
    have hcap := captured_errcap (s := cmdTaken s) hs.1 2 pgPTP aPTP_TIMECMD (by decide)
    rw [h1]
    refine ⟨?_, hcap, hw.1⟩
    exact ((Within.refl [.regs] (· ∈ [aERRCAP pgPTP, aERRADDR pgPTP]) (cmdTaken s)).errcap 2 aPTP_TIMECMD).1 .ptp
      (by decide)

/-- O48, ADD acts. -/
theorem timecmdAct_add (hs : Canonical s) {one : Bool} (hl : Live s) (hg : s.clk.coreGated = false)
    (hc : s.ptp.cmd = some (2, one)) :
    let o := sgn 64 ((rget s aPTP_OFFSET_LO).toNat + 2 ^ 32 * (rget s aPTP_OFFSET_HI).toNat)
    Runs .timecmdAct s fun t => t.ptp.cmd = none ∧ otherCtr t one = otherCtr s one ∧
      ((ctrOf t one).t : Int) = ((ctrOf s one).t + o * 2 ^ 48) % (ctrMod : Int) ∧ (ctrOf t one).slewing = false ∧
      (ctrOf t one).res = (ctrOf s one).res ∧ rget t aPTP_STEP_CNT = rget s aPTP_STEP_CNT + (if o = 0 then 0 else 1) ∧
      (o ≠ 0 → rbit t (aISTAT pgPTP) 6 = true) ∧ KeepsBut [.regs, .ptp, .dpll, .comp, .galley] s t ∧
      RegsOnly [aPTP_STEP_CNT, aISTAT pgPTP, aISTAT pgCOMPOSITOR] s t := by
  intro o
  refine runs_awake hl rfl ?_
  have he := timecmdAct_of_add hg hc (o := o) rfl rfl
  have hmod : ((((ctrOf s one).t + o * 2 ^ 48) % (ctrMod : Int)).toNat : Int) = ((ctrOf s one).t + o * 2 ^ 48) %
      (ctrMod : Int) :=
    Int.toNat_of_nonneg (Int.emod_nonneg _ (by decide))
  rw [he]
  by_cases h0 : o = 0
  · rw [if_pos h0]
    obtain ⟨hown, hother, hcmd⟩ := ctrOf_setCtr one
      { endSlew (ctrOf s one) with t := (((ctrOf s one).t + o * 2 ^ 48) % (ctrMod : Int)).toNat } (cmdTaken s)
    have hw := ((within_cmdTaken s).setCtr one
      { endSlew (ctrOf s one) with t := (((ctrOf s one).t + o * 2 ^ 48) % (ctrMod : Int)).toNat }).mono
        (m := [.regs, .ptp, .dpll, .comp, .galley]) (B := (· ∈ [aPTP_STEP_CNT, aISTAT pgPTP, aISTAT pgCOMPOSITOR]))
        (by decide) fun _ => False.elim
    refine ⟨hcmd, hother.trans (by cases one <;> rfl), ?_, by rw [hown]; rfl, by rw [hown]; rfl, ?_,
      fun h => absurd h0 h, hw.1, hw.2⟩
    · rw [hown]; exact hmod
    · rw [if_pos h0]; exact (BitVec.add_zero _).symm
  · rw [if_neg h0]
    obtain ⟨h2, h3, h4, h5, h6, h7, h8⟩ := moved_effect hs one (((ctrOf s one).t + o * 2 ^ 48) % (ctrMod : Int)).toNat
    refine ⟨h2, h3, ?_, by rw [h4]; rfl, by rw [h4]; rfl, ?_, fun _ => h6, h7, h8⟩
    · rw [h4]; exact hmod
    · rw [if_neg h0]; exact h5

theorem clampN_eq_min_max {lo hi n : Nat} (h : lo ≤ hi) : clampN lo hi n = min hi (max lo n) := by
  unfold clampN
  split <;> [omega; split <;> omega]

/-- O48, SLEW acts. -/
theorem timecmdAct_slew {one : Bool} (hl : Live s) (hg : s.clk.coreGated = false) (hc : s.ptp.cmd = some (3, one)) :
    Runs .timecmdAct s fun t => t.ptp.cmd = none ∧ otherCtr t one = otherCtr s one ∧ (ctrOf t one).t = (ctrOf s one).t ∧
      (let n := sgn 32 (rget s aPTP_SLEW_NS).toNat
       (n ≠ 0 → (ctrOf t one).slewing = true ∧ (ctrOf t one).slew = n * 2 ^ 48 ∧
         (ctrOf t one).ppm = min 500 (max 1 (rfld s aPTP_SLEW_PPM 8 0))) ∧
       (n = 0 → (ctrOf t one).slewing = false ∧ rbit t (aISTAT pgPTP) 5 = true)) ∧ KeepsBut [.regs, .ptp] s t ∧
      RegsOnly [aISTAT pgPTP] s t := by
  refine runs_awake hl rfl ?_
  generalize hn : sgn 32 (rget s aPTP_SLEW_NS).toNat = n
  have he := timecmdAct_of_slew hg hc hn.symm
  have hset (c : TimeCtr) (hc : c.t = (ctrOf s one).t) :
      (setCtr one c (cmdTaken s)).ptp.cmd = none ∧ otherCtr (setCtr one c (cmdTaken s)) one = otherCtr s one ∧
        (ctrOf (setCtr one c (cmdTaken s)) one).t = (ctrOf s one).t ∧
        Within [.regs, .ptp] (· ∈ [aISTAT pgPTP]) s (setCtr one c (cmdTaken s)) := by
    obtain ⟨hown, hother, hcmd⟩ := ctrOf_setCtr one c (cmdTaken s)
    refine ⟨hcmd, hother.trans (by cases one <;> rfl), (congrArg TimeCtr.t hown).trans hc, ?_⟩
    exact ((within_cmdTaken s).mono (by decide) fun _ => False.elim).setCtr one c
  rw [he]
  by_cases h0 : n = 0
  · rw [if_pos h0]
    obtain ⟨h1, h2, h3, hw⟩ := hset (endSlew (ctrOf s one)) rfl
    obtain ⟨hown, -, -⟩ := ctrOf_setCtr one (endSlew (ctrOf s one)) (cmdTaken s)
    exact ⟨h1, h2, h3, ⟨fun h => absurd h0 h, fun _ => ⟨congrArg TimeCtr.slewing hown,
      rbit_iset_any ⟨pgPTP, by decide⟩ (by decide) _⟩⟩, (hw.iset 5).1, (hw.iset 5).2⟩
  · rw [if_neg h0]
    have hc : ({ ctrOf s one with
        slew := n * 2 ^ 48, ppm := clampN 1 500 (rfld s aPTP_SLEW_PPM 8 0), slewing := true } : TimeCtr).t =
          (ctrOf s one).t := rfl
    obtain ⟨h1, h2, h3, hw⟩ := hset _ hc
    obtain ⟨hown, -, -⟩ := ctrOf_setCtr one
      { ctrOf s one with slew := n * 2 ^ 48, ppm := clampN 1 500 (rfld s aPTP_SLEW_PPM 8 0), slewing := true }
        (cmdTaken s)
    refine ⟨h1, h2, h3, ⟨fun _ => ⟨congrArg TimeCtr.slewing hown, congrArg TimeCtr.slew hown, ?_⟩, fun h => absurd h
      h0⟩, hw.1, hw.2⟩
    exact (congrArg TimeCtr.ppm hown).trans (clampN_eq_min_max (by decide))

/-- O48: without a command, or with CORE gated, nothing acts. -/
theorem timecmdAct_idle (h : s.clk.coreGated = true ∨ s.ptp.cmd = none) : Runs .timecmdAct s fun t => t = s := by
  have he : timecmdAct s = s := by
    unfold timecmdAct
    rcases h with h | h <;> simp [h]
  exact ⟨awake timecmdAct s, rfl, by unfold awake; split <;> first | rfl | exact he⟩

/-- O48, the end of a slew. -/
theorem slewDone_effect (hl : Live s) (n : Fin 2) :
    ((ctrOf s (n == 1)).slewing = true → (ctrOf s (n == 1)).slew = 0 →
      Runs (.slewDone n) s fun t => (ctrOf t (n == 1)).slewing = false ∧ rbit t (aISTAT pgPTP) 5 = true ∧
        KeepsBut [.regs, .ptp] s t ∧ RegsOnly [aISTAT pgPTP] s t) ∧
    ((ctrOf s (n == 1)).slewing = false ∨ (ctrOf s (n == 1)).slew ≠ 0 → Runs (.slewDone n) s fun t => t = s) := by
  refine ⟨fun h1 h2 => runs_awake hl rfl ?_, fun h => runs_awake hl rfl (if_neg fun ⟨h1, h2⟩ => ?_)⟩
  · rw [show slewDone (n == 1) s = iset pgPTP 5 (setCtr (n == 1) { ctrOf s (n == 1) with slewing := false } s) from
      if_pos ⟨h1, h2⟩]
    have hw : Within [.regs, .ptp] (· ∈ [aISTAT pgPTP]) s _ :=
      ((Within.refl ..).setCtr (n == 1) { ctrOf s (n == 1) with slewing := false }).iset (p := pgPTP) 5
    exact ⟨congrArg TimeCtr.slewing (ctrOf_setCtr _ _ _).1, rbit_iset_any ⟨pgPTP, by decide⟩ (by decide) _, hw.1, hw.2⟩
  · rcases h with h | h
    · exact absurd h1 (by simp [h])
    · exact h h2

/-- O48, the pulse of a counter. -/
theorem ptpPulse_effect (hl : Live s) (n : Fin 2) (x : Nat) :
    let u := advance x s
    (s.ptp.run = true → rbit s (aCTRL pgPTP) (4 + n.val) = true →
      Runs (.ptpPulse n x) s fun t => (if n = 0 then t.ptp.pulse0 else t.ptp.pulse1) = (ctrOf u (n == 1)).t / 2 ^ 48
        / 10000000 ∧
        KeepsBut [.ptp] u t ∧ ctrOf t true = ctrOf u true ∧ ctrOf t false = ctrOf u false) ∧
    (s.ptp.run = false ∨ rbit s (aCTRL pgPTP) (4 + n.val) = false → Runs (.ptpPulse n x) s fun t => t = u) := by
  intro u
  have hrun : u.ptp.run = s.ptp.run := by
    show (advance x s).ptp.run = _
    unfold advance
    split
    · rfl
    · split <;> rfl
  have hreg : rbit u (aCTRL pgPTP) (if (n == 1) = true then 5 else 4) = rbit s (aCTRL pgPTP) (4 + n.val) := by
    have hb : (if (n == 1) = true then 5 else 4) = 4 + n.val := by revert n; decide
    rw [hb]
    exact congrArg (bit · _) ((within_advance x s).2 _ id)
  have he : ptpPulse (n == 1) x s = if u.ptp.run && rbit u (aCTRL pgPTP) (if (n == 1) = true then 5 else 4) &&
      decide ((ctrOf u (n == 1)).t / 2 ^ 48 / 10000000 ≠ if (n == 1) = true then u.ptp.pulse1 else u.ptp.pulse0) then
      setPtp (if (n == 1) = true then { u.ptp with pulse1 := (ctrOf u (n == 1)).t / 2 ^ 48 / 10000000 }
        else { u.ptp with pulse0 := (ctrOf u (n == 1)).t / 2 ^ 48 / 10000000 }) u
      else u := rfl
  refine ⟨fun h1 h2 => runs_awake hl rfl ?_, fun h => runs_awake hl rfl ?_⟩
  · rw [he, hrun, hreg, h1, h2]
    simp only [Bool.and_self, Bool.true_and, decide_eq_true_eq]
    by_cases hp : (ctrOf u (n == 1)).t / 2 ^ 48 / 10000000 = if (n == 1) = true then u.ptp.pulse1 else u.ptp.pulse0
    · rw [if_neg (not_not.2 hp), hp]
      exact ⟨by fin_cases n <;> rfl, (Within.refl [.ptp] (fun _ => False) u).1, rfl, rfl⟩
    · rw [if_pos hp]
      refine ⟨?_, ((Within.refl [.ptp] (fun _ => False) u).setPtp _).1, ?_⟩
      · fin_cases n <;> rfl
      · fin_cases n <;> exact ⟨rfl, rfl⟩
  · rw [he, hrun, hreg]
    refine if_neg ?_
    rcases h with h | h <;> simp [h]

/-! The write of TIMECMD -/

theorem pageAct_timecmd {a : Nat} (hp : pageOf a = pgPTP) (ho : offOf a = 0x80) (direct : Bool) (tk : Option Word)
    (l : Nat)
    (old new v : Word) (t : State) :
    pageAct direct tk l a old new v t = (timeCommand (bits v 1 0) (bit new 4) t, false) := by
  unfold pageAct
  rw [hp, ho]
  rfl

theorem blockRefuse_timecmd {a : Nat} (hp : pageOf a = pgPTP) (ho : offOf a = 0x80) (direct : Bool) (l : Nat)
    (old new v : Word) :
    blockRefuse s direct l a old new v =
      (if bits v 1 0 ≠ 0 then
        if s.ptp.cmd.isSome then refuse 1 a else if bits v 1 0 = 1 && !timeSetValid s then refuse 2 a else none
      else none) := by
  unfold blockRefuse
  rw [hp, ho]
  simp [pgPTP, pgDPLL, pgASRC]

/-- The operation that a write of TIMECMD names. -/
theorem bits_timecmd (v : Word) {k : Nat} (hk : k < 4) : bits (setBits v 1 0 k) 1 0 = k := by
  rw [bits_setBits_same _ (by decide)]
  exact Nat.mod_eq_of_lt hk

theorem bits_actBits_timecmd {d : RegDef} (hd : d.wo = 3) (l : Nat) (v : Word) : bits (actBits d l v) 1 0 = bits v 1
    0 := by
  refine bits_congr fun i hl hu => ?_
  have hb : bit (w32 d.wo) i = true := by rw [hd]; interval_cases i <;> rfl
  unfold actBits
  rw [bit_and]
  simp [bit_or, hb]

/-- O48, an accepted write of TIMECMD. -/
theorem timecmd_accepted (hs : Canonical s) {w : HW} {k : Nat} (hk : k < 4) (hk0 : k ≠ 0)
    (h : Accepted s aPTP_TIMECMD ⟨w.lvl, w.be, setBits w.v 1 0 k⟩) {c : Instr}
    (hc : exec c s = .next (writeBits aPTP_TIMECMD w 1 0 k s)) :
    Runs c s fun t => t.ptp = { s.ptp with cmd := some (k, bit w.v 4) } ∧ lastStatus t = 0 ∧ KeepsBut [.regs, .ptp] s
      t ∧
      RegsOnly [aPTP_TIMECMD, aHOSTIF_LASTERR, aHOSTIF_LASTADDR] s t := by
  have hrun := hostWrite_of_actsAtOnce h rfl (by decide)
  rw [pageAct_timecmd (by decide) (by decide), bits_actBits_timecmd rfl, bits_timecmd _ hk,
    newWord_eq_maskWord rfl (by decide), bit_maskWord_of_set (by split <;> rfl),
    bit_setBits _ _ _ _ (by decide), if_neg (by decide)] at hrun
  dsimp only at hrun
  rw [timeCommand, if_neg hk0] at hrun
  have hw : ∀ v, Within [.regs, .ptp] (· = aPTP_TIMECMD) s (setPtp { s.ptp with cmd := some (k, bit w.v 4) }
      (rset aPTP_TIMECMD v s)) :=
    fun v => ((Within.refl [.regs, .ptp] (· = aPTP_TIMECMD) s).rset v (by decide) rfl).setPtp _
  refine ⟨_, hc.trans (congrArg Host.Outcome.next hrun), ?_, lastStatus_endAccess (rset_regs_wf hs.1 _ _) (by decide),
    (hw _).ofEnd _ _, (hw _).regsOnly_end _ _ fun b hb => by simp [hb]⟩
  exact (within_endAccess true).1 .ptp (by decide)

/-- O48, a refused write of TIMECMD. -/
theorem timecmd_refused (hs : Canonical s) {w : HW} {k code : Nat}
    (h : Served s aPTP_TIMECMD ⟨w.lvl, w.be, setBits w.v 1 0 k⟩) (hk : k < 4) (hcode : code ≠ 0) (hlt : code < 0x10000)
    (hr : (if k ≠ 0 then if s.ptp.cmd.isSome then refuse 1 aPTP_TIMECMD
      else if k = 1 && !timeSetValid s then refuse 2 aPTP_TIMECMD else none else none) = refuse code aPTP_TIMECMD)
    {c : Instr} (hc : exec c s = .next (writeBits aPTP_TIMECMD w 1 0 k s)) :
    Runs c s fun t => refusedWith code pgPTP aPTP_TIMECMD s t := by
  have hrun := hostWrite_of_blockRefuse h rfl (by decide) (soloRefuse_of_not_dataPlane (by decide) _ _)
    (by rw [blockRefuse_timecmd (by decide) (by decide), bits_timecmd _ hk]; exact hr) hcode
  exact ⟨_, hc.trans (congrArg Host.Outcome.next hrun), refusedWith_of_errcap hs hlt (by decide)⟩

/-- Settles O48: the write makes a command wait, the command acts, the slew ends, the pulse comes. -/
theorem timeCommandsAndPulses : Obligations.TimeCommandsAndPulses := by
  refine ⟨fun s w hs hn => ⟨fun h => timecmd_accepted hs (by decide) (by decide) h rfl,
    fun h => timecmd_accepted hs (by decide) (by decide) h rfl, fun h => timecmd_accepted hs (by decide) (by decide)
      h rfl,
    fun h ht => timecmd_refused hs h (by decide) (by decide) (by decide) ?_ rfl⟩,
    fun s w hs hn => ⟨fun h => timecmd_refused hs h (by decide) (by decide) (by decide) ?_ rfl,
      fun h => timecmd_refused hs h (by decide) (by decide) (by decide) ?_ rfl,
      fun h => timecmd_refused hs h (by decide) (by decide) (by decide) ?_ rfl⟩,
    fun s one hs hl hg hc => timecmdAct_set hs hl hg hc, fun s one hs hl hg hc => timecmdAct_add hs hl hg hc,
    fun s one _ hl hg hc => timecmdAct_slew hl hg hc, fun s => timecmdAct_idle, fun s n hl => slewDone_effect hl n,
    fun s n x hl => ptpPulse_effect hl n x⟩
  · simp [hn, timeSetValid, ht]
  all_goals simp [hn]

/-! ### O50: the references -/

theorem refOf_setRef_ne {r q : Nat} (h : q ≠ r) (v : RefSt) (t : State) : refOf (setRef r v t) q = refOf t q := by
  show (t.dpll.refs.set r v).getD q RefSt.reset = t.dpll.refs.getD q RefSt.reset
  rw [List.getD_eq_getElem?_getD, List.getElem?_set_ne (Ne.symm h), List.getD_eq_getElem?_getD]

theorem refOf_setRef_same {r : Nat} (v : RefSt) {t : State} (h : r < t.dpll.refs.length) : refOf (setRef r v t) r =
    v := by
  show (t.dpll.refs.set r v).getD r RefSt.reset = v
  rw [List.getD_eq_getElem?_getD, List.getElem?_set_self h, Option.getD_some]

/-- An interrupt bit that is set stays set when bits are set. -/
theorem rbit_iset_of_rbit (p : Fin 64) {b i : Nat} {t : State} (h : rbit t (aISTAT p) i = true) :
    rbit (iset p b t) (aISTAT p) i = true := by
  have hbit : bit (rget t (aISTAT p) ||| flg true b) i = true := by rw [bit_or]; exact Bool.or_eq_true_iff.2 (.inl h)
  have hne : rget t (aISTAT p) ||| flg true b ≠ resetWord (aISTAT p) := by
    rw [resetWord_istat]
    intro h0
    rw [h0] at hbit
    simp [bit] at hbit
  rw [rbit, show rget (iset p b t) (aISTAT p) = _ from spGet_spSet_of_ne _ hne]
  exact hbit

/-- The references' own changes: the entry of one reference, and interrupt bits of the DPLL that are set. -/
structure RefChange (r : Nat) (s t : State) : Prop where
  within : Within [.regs, .dpll] (· ∈ [aISTAT pgDPLL]) s t
  dpll : t.dpll = { s.dpll with refs := t.dpll.refs }
  length : t.dpll.refs.length = s.dpll.refs.length
  other : ∀ q, q ≠ r → refOf t q = refOf s q
  bits : ∀ b, rbit s (aISTAT pgDPLL) b = true → rbit t (aISTAT pgDPLL) b = true

namespace RefChange
variable {r : Nat} {t : State}

theorem refl (r : Nat) (s : State) : RefChange r s s := ⟨.refl .., rfl, rfl, fun _ _ => rfl, fun _ h => h⟩

theorem setRef (h : RefChange r s t) (v : RefSt) : RefChange r s (setRef r v t) :=
  ⟨h.within.setDpll _, by rw [Machine.setRef, setDpll, h.dpll], by simp [Machine.setRef, setDpll, h.length],
    fun q hq => (refOf_setRef_ne hq v t).trans (h.other q hq), h.bits⟩

theorem iset (h : RefChange r s t) (b : Nat) : RefChange r s (iset pgDPLL b t) :=
  ⟨h.within.iset b, h.dpll, h.length, h.other, fun i hi => rbit_iset_of_rbit ⟨pgDPLL, by decide⟩ (h.bits i hi)⟩

theorem ite (h : RefChange r s t) {p : Prop} [Decidable p] {u : State} (k : RefChange r s u) : RefChange r s
    (if p then t else u) := by
  split <;> assumption

theorem refFailNow (h : RefChange r s t) : RefChange r s (refFailNow r t) := (h.setRef _).ite ((h.setRef _).iset 5)

theorem refQual (h : RefChange r s t) : RefChange r s (refQual r t) := (h.setRef _).iset 3

theorem refDisq (h : RefChange r s t) : RefChange r s (refDisq r t) := (h.setRef _).iset 4

theorem refStep (h : RefChange r s t) : RefChange r s (refStep t r) := by
  have hp (b : Bool) := h.setRef { refOf t r with lastPass := b }
  unfold Machine.refStep
  refine .ite (h.setRef _) (.ite (h.setRef _) (.ite (h.ite h.refFailNow) ?_))
  dsimp only
  split
  · exact .ite ((hp _).setRef _) (hp _)
  · exact .ite (hp _).refDisq (.ite (hp _).refQual (hp _))
  · exact .ite (hp _) ((hp _).setRef _)
  · exact .ite ((hp _).setRef _) (.ite (hp _).refDisq (hp _))
  · exact .ite ((hp _).setRef _) (hp _)
  · exact hp _

theorem wanderSample (h : RefChange r s t) : RefChange r s (wanderSample r t) :=
  .ite ((h.setRef _).iset 6) (.ite (h.setRef _) (h.setRef _))

end RefChange

/-- The registers that the selection writes. -/
def selRegs : List Nat := [aISTAT pgDPLL, aDPLL_SWITCH_CNT]

/-- What depends on the configuration of a reference is the same after a change of the selection. -/
theorem refEn_of_within {t : State} (h : Within [.regs, .dpll] (· ∈ selRegs) s t) {r : Nat} (hr : r < 8) : refEn t r
    = refEn s r := by
  have hcfg : rget t (aDPLL_REFCFG r) = rget s (aDPLL_REFCFG r) := h.2 _ (by interval_cases r <;> decide)
  have htwin : t.twin = s.twin := h.1 .twin (by decide)
  simp only [refEn, rbit, followsTwin, hcfg, htwin]

theorem refFailed_of_within {t : State} (h : Within [.regs, .dpll] (· ∈ selRegs) s t) {r : Nat} (hr : r < 8)
    (he : (refOf t r).edgeT = (refOf s r).edgeT) : refFailed t r = refFailed s r := by
  have hcfg : rget t (aDPLL_REFCFG r) = rget s (aDPLL_REFCFG r) := h.2 _ (by interval_cases r <;> decide)
  have hptp : rget t (aCTRL pgPTP) = rget s (aCTRL pgPTP) := h.2 _ (by decide)
  have haes : rget t aAES3_REFSEL = rget s aAES3_REFSEL := h.2 _ (by decide)
  have hnow : t.now = s.now := h.1 .now (by decide)
  have hports : t.ports = s.ports := h.1 .ports (by decide)
  have htwin : t.twin = s.twin := h.1 .twin (by decide)
  have hquiet : refQuiet t r = refQuiet s r := by
    unfold refQuiet refRate refNom rfld
    rw [he, hnow, hcfg]
  have hsrc : refSrcFailed t r = refSrcFailed s r := by
    have hlost (k : Nat) : srcLost t k = srcLost s k := by unfold srcLost; rw [hports]
    interval_cases r <;> simp only [refSrcFailed, hlost, refSrc, rbit, rfld, hptp, haes, htwin, hcfg]
  rw [refFailed, refFailed, hquiet, hsrc]

/-- A reference that has failed and still does is left so by the walk over the references. -/
theorem refStep_of_failed {r : Nat} (hen : refEn s r = true) (hst : (refOf s r).st = .failed)
    (hf : refFailed s r = true) :
    refStep s r = s := by
  simp [refStep, hen, hst, hf]

/-- The walk over the references (R304). -/
abbrev refWalk (s : State) : State := (List.range 8).foldl refStep s

/-- The walk changes the references and sets interrupt bits, nothing else. -/
structure Walked (s t : State) : Prop where
  within : Within [.regs, .dpll] (· ∈ [aISTAT pgDPLL]) s t
  dpll : t.dpll = { s.dpll with refs := t.dpll.refs }
  bits : ∀ b, rbit s (aISTAT pgDPLL) b = true → rbit t (aISTAT pgDPLL) b = true

theorem Walked.step {t u : State} (h : Walked s t) {r : Nat} (k : RefChange r t u) : Walked s u :=
  ⟨h.within.trans k.within, by rw [k.dpll, h.dpll], fun b hb => k.bits b (h.bits b hb)⟩

theorem walked_refWalk (s : State) : Walked s (refWalk s) :=
  List.foldlRecOn (motive := Walked s) _ _ ⟨.refl .., rfl, fun _ h => h⟩ fun _ h r _ => h.step
    (RefChange.refl r _).refStep

theorem walked_within_sel {t : State} (h : Walked s t) : Within [.regs, .dpll] (· ∈ selRegs) s t :=
  h.within.mono (fun _ h => h) fun a ha => by simp only [List.mem_cons, List.not_mem_nil, or_false] at ha; simp
    [selRegs, ha]

/-- A reference that fails is failed after the walk. -/
theorem refOf_refWalk_failed {r : Nat} (hr : r < 8) (hen : refEn s r = true) (hst : (refOf s r).st = .failed)
    (hf : refFailed s r = true) : (refOf (refWalk s) r).st = .failed := by
  have h : Walked s (refWalk s) ∧ refOf (refWalk s) r = refOf s r := by
    refine List.foldlRecOn (motive := fun t => Walked s t ∧ refOf t r = refOf s r) _ _
      ⟨⟨.refl .., rfl, fun _ h => h⟩, rfl⟩
      fun t ht q _ => ?_
    obtain ⟨hw, he⟩ := ht
    have hws := walked_within_sel hw
    by_cases hq : r = q
    · subst hq
      rw [refStep_of_failed ((refEn_of_within hws hr).trans hen) (by rw [he, hst])
        ((refFailed_of_within hws hr (by rw [he])).trans hf)]
      exact ⟨hw, he⟩
    · have hc := (RefChange.refl q t).refStep
      exact ⟨hw.step hc, (hc.other r hq).trans he⟩
  rw [h.2, hst]

/-! The selection -/

/-- What the selection leaves of the references: their states. It is followed from the walk over the references on. -/
structure Chosen (s t : State) : Prop where
  within : Within [.regs, .dpll] (· ∈ selRegs) s t
  st : ∀ r, (refOf t r).st = (refOf s r).st
  bits : ∀ b, rbit s (aISTAT pgDPLL) b = true → rbit t (aISTAT pgDPLL) b = true
  evalT : t.dpll.evalT = s.dpll.evalT

namespace Chosen
variable {t : State}

theorem refl (s : State) : Chosen s s := ⟨.refl .., fun _ => rfl, fun _ h => h, rfl⟩

theorem trans {u : State} (h : Chosen s t) (k : Chosen t u) : Chosen s u :=
  ⟨h.within.trans k.within, fun r => (k.st r).trans (h.st r), fun b hb => k.bits b (h.bits b hb), k.evalT.trans h.evalT⟩

theorem setDpll (h : Chosen s t) (x : DpllSt) (hst : ∀ r, (x.refs.getD r RefSt.reset).st = (refOf t r).st :=
    by exact fun _ => rfl)
    (he : x.evalT = t.dpll.evalT := by rfl) : Chosen s (setDpll x t) :=
  ⟨h.within.setDpll x, fun r => (hst r).trans (h.st r), h.bits, he.trans h.evalT⟩

theorem iset (h : Chosen s t) (b : Nat) : Chosen s (iset pgDPLL b t) :=
  ⟨h.within.iset b, h.st, fun i hi => rbit_iset_of_rbit ⟨pgDPLL, by decide⟩ (h.bits i hi), h.evalT⟩

theorem cnt (h : Chosen s t) : Chosen s (cnt aDPLL_SWITCH_CNT t) :=
  ⟨h.within.cnt _, h.st, fun i hi => (congrArg (bit · i) (rget_rset_ne t _ (by decide))).trans (h.bits i hi), h.evalT⟩

theorem ite (h : Chosen s t) {p : Prop} [Decidable p] {u : State} (k : Chosen s u) : Chosen s (if p then t else u) := by
  split <;> assumption

theorem startPull (h : Chosen s t) (e : Int) : Chosen s (startPull e t) := h.setDpll _

theorem hoUpdate (h : Chosen s t) : Chosen s (hoUpdate t) := h.setDpll _

theorem outFreq (h : Chosen s t) : Chosen s (outFreq t) := h.setDpll _

theorem holdOver (h : Chosen s t) : Chosen s (holdOver t) := .ite (h.setDpll _) ((h.setDpll _).iset 2)

theorem switchTo (h : Chosen s t) (q : Option Nat) : Chosen s (switchTo q t) := by
  have hclear : Chosen s (Machine.setDpll { t.dpll with
      sel := q, refs := t.dpll.refs.map fun x => { x with hist := [] }, drift := 0 } t) := by
    refine h.setDpll _ fun r => ?_
    show ((t.dpll.refs.map _).getD r RefSt.reset).st = (t.dpll.refs.getD r RefSt.reset).st
    simp only [List.getD_eq_getElem?_getD, List.getElem?_map]
    cases t.dpll.refs[r]? <;> rfl
  unfold Machine.switchTo
  refine .ite h ?_
  dsimp only
  split
  · exact (hclear.iset 0).cnt.holdOver
  · split
    · exact ((hclear.iset 0).cnt.startPull _).setDpll _
    · exact ((hclear.iset 0).cnt.startPull _).setDpll _
    · exact ((hclear.iset 0).cnt.startPull _).setDpll _

end Chosen

theorem sel_holdOver (t : State) : (holdOver t).dpll.sel = t.dpll.sel := by
  unfold holdOver
  simp only [ite_dpll, iset_dpll, setDpll_dpll, ite_self]

theorem st_holdOver (t : State) :
    (holdOver t).dpll.st = if (holdOver t).dpll.hoValid then .holdover else .freerun := by
  unfold holdOver
  simp only [ite_dpll, iset_dpll, setDpll_dpll, ite_self]

theorem sel_switchTo (q : Option Nat) (t : State) : (switchTo q t).dpll.sel = q := by
  unfold switchTo
  split
  · assumption
  · dsimp only
    split
    · exact sel_holdOver _
    · split <;> rfl

/-- The time of the evaluation is noted. -/
abbrev evaluating (s : State) (t : State) : State := setDpll { t.dpll with evalT := s.now } t

/-- An evaluation of a running selector: the walk, then the choice among the references as the walk left them. -/
theorem evaluate_selects (h : selectorOn s) :
    ∃ u, Chosen (evaluating s (refWalk s)) u ∧ u.dpll.sel = s.dpll.sel ∧
      Chosen u (evaluate s) ∧ (evaluate s).dpll.sel = (pickRef u).sel ∧
      ((evaluate s).dpll.sel = none → (evaluate s).dpll.st = if (evaluate s).dpll.hoValid then .holdover else
        .freerun) := by
  have hw := walked_refWalk s
  have hen : enOf (refWalk s) pgDPLL = true := (congrArg (bit · 0) (hw.within.2 _ (by decide))).trans h.1
  have hticks : ticksHeld (refWalk s) = false := by
    unfold ticksHeld
    rw [hw.within.1 .clk (by decide)]
    exact h.2
  have hnow : (refWalk s).now = s.now := hw.within.1 .now (by decide)
  unfold evaluate
  unfold refWalk at hw hen hticks hnow ⊢
  generalize (List.range 8).foldl refStep s = w at hw hen hticks hnow ⊢
  extract_lets s1 _ _ _ s2 _ s3 s4 p mark _ s5 s6 s7
  have hend : (if ¬ enOf s1 pgDPLL = true then outFreq { s1 with dpll := { s1.dpll with evalT := s1.now } }
      else if ticksHeld s1 = true then outFreq { s1 with dpll := { s1.dpll with evalT := s1.now } } else outFreq s7)
        = outFreq s7 := by
    rw [if_neg (not_not.2 hen), if_neg (Bool.eq_false_iff.1 hticks)]
  have h2 : Chosen (evaluating s s1) s2 := by
    refine ⟨(Within.refl ..).setDpll _, fun _ => rfl, fun _ h => h, ?_⟩
    exact hnow
  have h3 : Chosen (evaluating s s1) s3 ∧ s3.dpll.sel = s.dpll.sel := by
    have hsel : w.dpll.sel = s.dpll.sel := by rw [hw.dpll]
    unfold s3
    split
    · exact ⟨h2.setDpll _, hsel⟩
    · exact ⟨h2, hsel⟩
  have h4 : Chosen (evaluating s s1) s4 ∧ s4.dpll.sel = s.dpll.sel := by
    unfold s4
    split
    · exact ⟨h3.1.hoUpdate, h3.2⟩
    · exact h3
  have h5 : Chosen s4 s5 := by
    have h0 : Chosen s4 (if p.conflict = true ∧ ¬ s4.dpll.conflict = true then iset pgDPLL 7 s4 else s4) :=
      .ite ((Chosen.refl s4).iset 7) (.refl s4)
    refine h0.setDpll _ (fun r => ?_) (by simp only [ite_dpll, iset_dpll, ite_self]; rfl)
    have href : (if p.conflict = true ∧ ¬ s4.dpll.conflict = true then iset pgDPLL 7 s4 else s4).dpll.refs =
        s4.dpll.refs := by
      split <;> rfl
    show ((s4.dpll.refs.mapIdx mark).getD r RefSt.reset).st = _
    rw [refOf, href]
    simp only [List.getD_eq_getElem?_getD, List.getElem?_mapIdx]
    cases s4.dpll.refs[r]? <;> rfl
  have h6 : Chosen s4 s6 := h5.switchTo p.sel
  have h6s : s6.dpll.sel = p.sel := sel_switchTo ..
  have h7 : Chosen s4 s7 ∧ s7.dpll.sel = p.sel ∧
      (s7.dpll.sel = none → s7.dpll.st = if s7.dpll.hoValid then .holdover else .freerun) := by
    unfold s7
    split
    · exact ⟨h6.holdOver, (sel_holdOver s6).trans h6s, fun _ => st_holdOver s6⟩
    · next hn => exact ⟨h6, h6s, fun h => absurd h hn⟩
  rw [hend]
  exact ⟨s4, h4.1, h4.2, h7.1.outFreq, h7.2.1, h7.2.2⟩

/-! What the mode makes of the usable references -/

theorem mem_of_mem_leastBy {f : Nat → Nat} {l : List Nat} {a : Nat} (h : a ∈ leastBy f l) : a ∈ l := by
  unfold leastBy at h
  split at h
  · exact absurd h (List.not_mem_nil)
  · exact (List.mem_filter.1 h).1

theorem mem_of_mem_mostBy {f : Nat → Nat} {l : List Nat} {a : Nat} (h : a ∈ mostBy f l) : a ∈ l := by
  unfold mostBy at h
  split at h
  · exact absurd h (List.not_mem_nil)
  · exact (List.mem_filter.1 h).1

/-- The selected reference, while it is one of those to choose from. -/
def stays (s : State) (us : List Nat) : Option Nat :=
  match s.dpll.sel with
  | some c => if us.contains c then some c else none
  | none => none

theorem stays_eq_some {us : List Nat} {c : Nat} : stays s us = some c ↔ s.dpll.sel = some c ∧ c ∈ us := by
  unfold stays
  cases s.dpll.sel with
  | none => simp
  | some d =>
    dsimp only
    split
    · next h =>
        simp only [Option.some.injEq, iff_self_and]
        rintro rfl
        exact List.contains_iff_mem.1 h
    · next h =>
        simp only [reduceCtorEq, Option.some.injEq, false_iff]
        rintro ⟨rfl, hm⟩
        exact h (List.contains_iff_mem.2 hm)

/-- The best reference is one of those to choose from. -/
theorem mem_of_bestRef {us : List Nat} {r : Nat} (h : (bestRef s us).sel = some r) : r ∈ us := by
  unfold bestRef at h
  extract_lets cur keep cs support at h
  have hcs {a : Nat} (ha : a ∈ cs) : a ∈ us := mem_of_mem_leastBy ha
  have hkeep {a : Nat} (ha : keep = some a) : a ∈ us := (stays_eq_some.1 ha).2
  clear_value keep cs support
  split at h
  · exact absurd h (by simp)
  · split at h
    · split at h
      · split at h
        · exact hkeep h
        · exact hcs (List.mem_of_mem_head? (Option.mem_def.2 h))
      · exact hcs (List.mem_of_mem_head? (Option.mem_def.2 h))
    · split at h
      · next a ha =>
          obtain rfl := Option.some.inj h
          exact hcs (mem_of_mem_mostBy (by rw [ha]; exact List.mem_singleton_self _))
      · extract_lets win at h
        have hwin {a : Nat} (ha : a ∈ win) : a ∈ mostBy support cs := by
          unfold win at ha
          split at ha
          · exact mem_of_mem_leastBy ha
          · split at ha
            · exact mem_of_mem_leastBy ha
            · exact ha
        clear_value win
        split at h
        · next a =>
          obtain rfl := Option.some.inj h
          exact hcs (mem_of_mem_mostBy (hwin (List.mem_singleton_self _)))
        · exact hkeep h

theorem leastBy_singleton (f : Nat → Nat) (r : Nat) : leastBy f [r] = [r] := by simp [leastBy]

theorem mostBy_singleton (f : Nat → Nat) (r : Nat) : mostBy f [r] = [r] := by simp [mostBy]

/-- The only reference there is is the best one. -/
theorem bestRef_singleton (r : Nat) : (bestRef s [r]).sel = some r := by
  unfold bestRef
  rw [leastBy_singleton]
  extract_lets cur keep cs support
  have hkeep {c : Nat} (hc : keep = some c) : c = r := List.mem_singleton.1 (stays_eq_some.1 hc).2
  have hcs : cs = [r] := rfl
  rw [hcs, mostBy_singleton]
  clear_value keep
  rw [if_neg (by simp)]
  split
  · cases keep with
    | none => rfl
    | some c => rw [hkeep rfl]; simp
  · rfl

/-- The references to choose from: the usable ones, on the active device without the partner's. -/
def choices (s : State) : List Nat :=
  let all := (List.range 8).filter (refUsable s)
  if isActive s then all.filter (· != 6) else all

theorem mem_choices {r : Nat} : r ∈ choices s ↔ eligible s r := by
  unfold choices eligible
  dsimp only
  split
  · next h =>
    simp only [List.mem_filter, List.mem_range, h]
    simp [and_assoc]
  · next h => simp [h]

theorem nodup_choices (s : State) : (choices s).Nodup := by
  unfold choices
  have h : ((List.range 8).filter (refUsable s)).Nodup := List.Nodup.filter _ List.nodup_range
  split
  · exact h.filter _
  · exact h

/-- The present reference, while it can be chosen. -/
abbrev present (s : State) : Option Nat := stays s (choices s)

theorem present_of_eligible {c : Nat} (hs : s.dpll.sel = some c) (h : eligible s c) : present s = some c :=
  stays_eq_some.2 ⟨hs, mem_choices.2 h⟩

theorem eligible_of_present {c : Nat} (h : present s = some c) : eligible s c := mem_choices.1 (stays_eq_some.1 h).2

theorem pickRef_eq (s : State) : pickRef s =
    if followsTwin s then ⟨if refUsable s 6 then some 6 else none, false, []⟩
    else match rfld s aDPLL_CFG 31 30 with
      | 0 => bestRef s (match present s with
        | some c => (choices s).filter fun a => (refOf s a).st == .qualified || decide (refRank s c ≤ refRank s a)
        | none => choices s)
      | 1 => match present s with
        | some c => ⟨some c, false, []⟩
        | none => bestRef s (choices s)
      | 2 => ⟨if (choices s).contains (rfld s aDPLL_CFG 26 24) then some (rfld s aDPLL_CFG 26 24) else none, false, []⟩
      | _ => ⟨none, false, []⟩ := rfl

theorem pickRef_twin (h : followsTwin s = true) : (pickRef s).sel = if refUsable s 6 then some 6 else none := by
  rw [pickRef_eq, if_pos h]

theorem pickRef_forced (h : followsTwin s = false) (hm : rfld s aDPLL_CFG 31 30 = 2) :
    (eligible s (rfld s aDPLL_CFG 26 24) → (pickRef s).sel = some (rfld s aDPLL_CFG 26 24)) ∧
      (¬ eligible s (rfld s aDPLL_CFG 26 24) → (pickRef s).sel = none) := by
  rw [pickRef_eq, if_neg (by simp [h]), hm]
  exact ⟨fun he => if_pos (List.contains_iff_mem.2 (mem_choices.2 he)),
    fun he => if_neg fun hc => he (mem_choices.1 (List.contains_iff_mem.1 hc))⟩

theorem pickRef_hold (h : followsTwin s = false) (hm : rfld s aDPLL_CFG 31 30 = 1) {c : Nat} (hs : s.dpll.sel = some c)
    (he : eligible s c) : (pickRef s).sel = some c := by
  rw [pickRef_eq, if_neg (by simp [h]), hm, present_of_eligible hs he]
  rfl

/-- The choices are the only reference there is. -/
theorem choices_of_only {r : Nat} (he : eligible s r) (ho : ∀ q, eligible s q → q = r) : choices s = [r] := by
  have hmem : r ∈ choices s := mem_choices.2 he
  have hall : ∀ q ∈ choices s, q = r := fun q hq => ho q (mem_choices.1 hq)
  have hnd := nodup_choices s
  generalize choices s = l at hmem hall hnd
  match l, hmem, hall, hnd with
  | [a], _, hall, _ => rw [hall a (List.mem_singleton_self a)]
  | a :: b :: rest, _, hall, hnd =>
    have hab : a = b := (hall a (by simp)).trans (hall b (by simp)).symm
    exact absurd hab (by simp at hnd; exact hnd.1.1)

theorem pickRef_auto (h : followsTwin s = false) (hm : rfld s aDPLL_CFG 31 30 = 0) {r : Nat} (he : eligible s r)
    (ho : ∀ q, eligible s q → q = r) : (pickRef s).sel = some r := by
  rw [pickRef_eq, if_neg (by simp [h]), hm, choices_of_only he ho]
  show (bestRef s (match present s with | some c => _ | none => _)).sel = _
  cases hp : present s with
  | none => exact bestRef_singleton r
  | some c =>
    obtain rfl := ho c (eligible_of_present hp)
    simpa using bestRef_singleton c

/-- Only a usable reference is picked. -/
theorem pickRef_usable {r : Nat} (h : (pickRef s).sel = some r) : refUsable s r = true := by
  have hus {q : Nat} (hq : q ∈ choices s) : refUsable s q = true := (mem_choices.1 hq).2.1
  rw [pickRef_eq] at h
  split at h
  · dsimp only at h
    split at h
    · next h6 => obtain rfl := Option.some.inj h; exact h6
    · exact absurd h (by simp)
  · split at h
    · have hm := mem_of_bestRef h
      split at hm
      · exact hus (List.mem_filter.1 hm).1
      · exact hus hm
    · split at h
      · next c hc => obtain rfl := Option.some.inj h; exact (eligible_of_present hc).2.1
      · exact hus (mem_of_bestRef h)
    · dsimp only at h
      split at h
      · next hc => obtain rfl := Option.some.inj h; exact hus (List.contains_iff_mem.1 hc)
      · exact absurd h (by simp)
    · exact absurd h (by simp)

/-! The statements -/

/-- What bears on the choice is the same in two states whose references are in the same states. -/
theorem eligible_congr {t : State} (h : Chosen s t) (r : Nat) : eligible t r ↔ eligible s r := by
  have htwin : t.twin = s.twin := h.within.1 .twin (by decide)
  unfold eligible refUsable isActive
  rw [h.st r, htwin]

theorem now_advance (x : Nat) (s : State) : (advance x s).now = max x s.now := by
  unfold advance
  split
  · omega
  · split
    · show x = max x s.now; omega
    · show x = max x s.now; omega

theorem within_advance_sel (x : Nat) (s : State) {t : State} (h : Within [.regs, .dpll] (· ∈ selRegs) (advance x s) t) :
    Within [.now, .ptp, .regs, .dpll] (· ∈ selRegs) s t :=
  ((within_advance x s).mono (by decide) fun _ => False.elim).trans (h.mono (by decide) fun _ h => h)

/-- O50, an evaluation that is due. -/
theorem evaluate_effect (h : selectorOn s) : (evaluate s).dpll.evalT = s.now ∧ (evaluate s).dpll.freq.natAbs ≤
    200000000 ∧
      (∀ r, (evaluate s).dpll.sel = some r → refUsable (evaluate s) r = true) ∧
      ((evaluate s).dpll.sel = none → (evaluate s).dpll.st = if (evaluate s).dpll.hoValid then .holdover else
        .freerun) ∧
      (followsTwin s = true → (evaluate s).dpll.sel = if refUsable (evaluate s) 6 then some 6 else none) ∧
      (∀ r, followsTwin s = false → rfld s aDPLL_CFG 31 30 = 0 → eligible (evaluate s) r →
        (∀ q, eligible (evaluate s) q → q = r) → (evaluate s).dpll.sel = some r) ∧
      (followsTwin s = false → rfld s aDPLL_CFG 31 30 = 2 →
        (eligible (evaluate s) (rfld s aDPLL_CFG 26 24) → (evaluate s).dpll.sel = some (rfld s aDPLL_CFG 26 24)) ∧
        (¬ eligible (evaluate s) (rfld s aDPLL_CFG 26 24) → (evaluate s).dpll.sel = none)) ∧
      (∀ c, followsTwin s = false → rfld s aDPLL_CFG 31 30 = 1 → s.dpll.sel = some c → eligible (evaluate s) c →
        (evaluate s).dpll.sel = some c) ∧
      Within [.regs, .dpll] (· ∈ selRegs) s (evaluate s) := by
  obtain ⟨u, hu, husel, hue, hsel, hnone⟩ := evaluate_selects h
  have hwalk := walked_within_sel (walked_refWalk s)
  have hsu : Within [.regs, .dpll] (· ∈ selRegs) s u := (hwalk.setDpll _).trans hu.within
  have htwin : followsTwin u = followsTwin s := by
    unfold followsTwin
    rw [hsu.1 .twin (by decide)]
  have hcfg (hi lo : Nat) : rfld u aDPLL_CFG hi lo = rfld s aDPLL_CFG hi lo := rfld_of_rget_eq (hsu.2 _ (by decide))
      hi lo
  have hst (r : Nat) : refUsable (evaluate s) r = refUsable u r := by unfold refUsable; rw [hue.st r]
  rw [hsel, hst]
  rw [← htwin, ← hcfg, ← hcfg, ← husel]
  refine ⟨hue.evalT.trans hu.evalT, evaluate_inClamp s, fun r hr => ?_, fun hn => hnone (hsel.trans hn), pickRef_twin,
    fun r h1 h2 he ho => ?_, fun h1 h2 => ?_, fun c h1 h2 h3 he => ?_, hsu.trans hue.within⟩
  · rw [hst]
    exact pickRef_usable hr
  · exact pickRef_auto h1 h2 ((eligible_congr hue r).1 he) fun q hq => ho q ((eligible_congr hue q).2 hq)
  · rw [eligible_congr hue]
    exact pickRef_forced h1 h2
  · exact pickRef_hold h1 h2 h3 ((eligible_congr hue c).1 he)

/-- With the selector off the walk alone is made. -/
theorem evaluate_off (h : ¬ selectorOn s) :
    (evaluate s).dpll.sel = s.dpll.sel ∧ (evaluate s).dpll.st = s.dpll.st ∧
      Within [.regs, .dpll] (· ∈ [aISTAT pgDPLL]) s (evaluate s) ∧
      (∀ r, (refOf (evaluate s) r).st = (refOf (refWalk s) r).st) ∧
      (∀ b, rbit s (aISTAT pgDPLL) b = true → rbit (evaluate s) (aISTAT pgDPLL) b = true) := by
  have hw := walked_refWalk s
  have he : evaluate s = outFreq (setDpll { (refWalk s).dpll with evalT := (refWalk s).now } (refWalk s)) := by
    by_cases hen : enOf (refWalk s) pgDPLL = true
    · have ht : ticksHeld (refWalk s) = true := by
        by_contra hno
        refine h ⟨(congrArg (bit · 0) (hw.within.2 _ (by decide))).symm.trans hen, ?_⟩
        unfold ticksHeld at hno ⊢
        rw [hw.within.1 .clk (by decide)] at hno
        simpa using hno
      unfold evaluate
      extract_lets
      rw [if_neg (not_not.2 hen), if_pos ht]
      rfl
    · unfold evaluate
      extract_lets
      rw [if_pos hen]
      rfl
  rw [he]
  clear he
  generalize refWalk s = w at hw ⊢
  have hsel : w.dpll.sel = s.dpll.sel := by rw [hw.dpll]
  have hst : w.dpll.st = s.dpll.st := by rw [hw.dpll]
  exact ⟨hsel, hst, (hw.within.setDpll _).setDpll _, fun _ => rfl, hw.bits⟩

/-- O50, the evaluation. -/
theorem dpllEvaluation_effect (ho : inOperation s) (x : Nat) :
    (evalDue s x → selectorOn s →
      Runs (.dpllEvaluation x) s fun t => t.dpll.evalT = max x s.now ∧ t.dpll.freq.natAbs ≤ 200000000 ∧
        (∀ r, t.dpll.sel = some r → refUsable t r = true) ∧
        (t.dpll.sel = none → t.dpll.st = if t.dpll.hoValid then .holdover else .freerun) ∧
        (followsTwin s = true → t.dpll.sel = if refUsable t 6 then some 6 else none) ∧
        (∀ r, followsTwin s = false → rfld s aDPLL_CFG 31 30 = 0 → eligible t r → (∀ q, eligible t q → q = r) →
          t.dpll.sel = some r) ∧
        (followsTwin s = false → rfld s aDPLL_CFG 31 30 = 2 →
          (eligible t (rfld s aDPLL_CFG 26 24) → t.dpll.sel = some (rfld s aDPLL_CFG 26 24)) ∧
          (¬ eligible t (rfld s aDPLL_CFG 26 24) → t.dpll.sel = none)) ∧
        (∀ c, followsTwin s = false → rfld s aDPLL_CFG 31 30 = 1 → s.dpll.sel = some c → eligible t c → t.dpll.sel =
          some c) ∧
        KeepsBut [.now, .ptp, .regs, .dpll] s t ∧ RegsOnly [aISTAT pgDPLL, aDPLL_SWITCH_CNT] s t) ∧
    (evalDue s x → ¬ selectorOn s → Runs (.dpllEvaluation x) s fun t => t.dpll.sel = s.dpll.sel ∧ t.dpll.st =
      s.dpll.st ∧
      KeepsBut [.now, .ptp, .regs, .dpll] s t ∧ RegsOnly [aISTAT pgDPLL] s t) ∧
    (¬ evalDue s x → Runs (.dpllEvaluation x) s fun t => KeepsBut [.now, .ptp] s t) := by
  obtain ⟨hboot, -, hon⟩ := advance_wrote x s
  have hdpll : (advance x s).dpll = s.dpll := advance_dpll ..
  have hnow := now_advance x s
  have hadv := within_advance x s
  have htwin : followsTwin (advance x s) = followsTwin s := by
    unfold followsTwin
    rw [hadv.1 .twin (by decide)]
  have hcfg (hi lo : Nat) : rfld (advance x s) aDPLL_CFG hi lo = rfld s aDPLL_CFG hi lo := rfld_of_rget_eq
      (hadv.2 _ id) hi lo
  refine ⟨fun hd hs => ?_, fun hd hs => ?_, fun hd => ?_⟩
  · obtain ⟨h1, h2, h3, h4, h5, h6, h7, h8, hw⟩ := evaluate_effect (hon.2 hs)
    rw [hnow] at h1
    rw [htwin] at h5
    simp only [htwin, hcfg] at h6 h7
    simp only [htwin, hcfg, hdpll] at h8
    have hw' := within_advance_sel x s hw
    refine runs_inOperation ho rfl ?_ ?_ <;> rw [dpllEvaluation_of_evalDue hd]
    · exact hw'.1 .boot (by decide)
    · exact ⟨h1, h2, h3, h4, h5, h6, h7, h8, hw'.1, hw'.2⟩
  · obtain ⟨h1, h2, hw, -, -⟩ := evaluate_off fun h => hs (hon.1 h)
    have hw' : Within [.now, .ptp, .regs, .dpll] (· ∈ [aISTAT pgDPLL]) s (evaluate (advance x s)) :=
      (hadv.mono (by decide) fun _ => False.elim).trans (hw.mono (by decide) fun _ h => h)
    refine runs_inOperation ho rfl ?_ ?_ <;> rw [dpllEvaluation_of_evalDue hd]
    · exact hw'.1 .boot (by decide)
    · exact ⟨h1.trans (by rw [hdpll]), h2.trans (by rw [hdpll]), hw'.1, hw'.2⟩
  · have he : dpllEvaluation x s = advance x s := by
      refine if_neg fun hc => hd ?_
      rw [hdpll] at hc
      refine hc.imp id fun h => ?_
      cases hsel : s.dpll.sel with
      | none => rw [hsel] at h; exact absurd h (by simp)
      | some r => rw [hsel] at h; exact ⟨r, rfl, h⟩
    refine runs_inOperation ho rfl ?_ ?_ <;> rw [he]
    · exact hboot
    · exact hadv.1

/-- O50, the failure of a reference. -/
theorem refFail_effect (hs : Canonical s) (hl : Live s) (r : Fin 8) :
    let fails : Prop := refEn s r.val = true ∧ (refOf s r.val).st ≠ .off ∧ refFailed s r.val = true
    (fails → Runs (.refFail r) s fun t => (refOf t r.val).st = .failed ∧
      ((refOf s r.val).st ≠ .failed → rbit t (aISTAT pgDPLL) 5 = true) ∧
      (s.dpll.sel ≠ some r.val → (∀ q, q ≠ r.val → refOf t q = refOf s q) ∧ t.dpll.sel = s.dpll.sel) ∧
      (s.dpll.sel = some r.val → selectorOn s → t.dpll.sel ≠ some r.val) ∧
      KeepsBut [.regs, .dpll] s t ∧ RegsOnly [aISTAT pgDPLL, aDPLL_SWITCH_CNT] s t) ∧
    (¬ fails → Runs (.refFail r) s fun t => t = s) := by
  obtain ⟨-, -, -, -, hlen, -, -⟩ := hs
  refine ⟨fun ⟨hen, hoff, hf⟩ => runs_awake hl rfl ?_, fun hno => runs_awake hl rfl (if_pos ?_)⟩
  · set u := refFailNow r.val s with hu
    have hc : RefChange r.val s u := (RefChange.refl _ s).refFailNow
    have hcw : Within [.regs, .dpll] (· ∈ selRegs) s u := hc.within.mono (fun _ h => h) fun a ha => by
      simp only [List.mem_cons, List.not_mem_nil, or_false] at ha
      simp [selRegs, ha]
    have hval : refOf u r.val = { refOf s r.val with
        st := .failed, firstT := if refQuiet s r.val then none else (refOf s r.val).firstT } := by
      rw [hu, refFailNow]
      split <;> exact refOf_setRef_same _ (by rw [hlen]; exact r.isLt)
    have hbit (hst : (refOf s r.val).st ≠ .failed) : rbit u (aISTAT pgDPLL) 5 = true := by
      rw [hu, refFailNow, if_neg hst]
      exact rbit_iset_any ⟨pgDPLL, by decide⟩ (by decide) _
    have hsel : u.dpll.sel = s.dpll.sel := by rw [hc.dpll]
    have he : refFail r.val s = if u.dpll.sel = some r.val then evaluate u else u := by
      refine if_neg ?_
      simp [hen, hoff, hf]
    rw [he, hsel]
    by_cases hsr : s.dpll.sel = some r.val
    · rw [if_pos hsr]
      have hfail : (refOf (refWalk u) r.val).st = .failed := by
        refine refOf_refWalk_failed r.isLt ((refEn_of_within hcw r.isLt).trans hen) (by rw [hval])
          ((refFailed_of_within hcw r.isLt (by rw [hval])).trans hf)
      by_cases hon : selectorOn s
      · have honu : selectorOn u := by
          refine ⟨(congrArg (bit · 0) (hc.within.2 _ (by decide))).trans hon.1, ?_⟩
          have h2 := hon.2
          unfold ticksHeld at h2 ⊢
          rwa [hc.within.1 .clk (by decide)]
        obtain ⟨w, hw, -, hwe, -, -⟩ := evaluate_selects honu
        obtain ⟨-, -, h3, -, -, -, -, -, hwith⟩ := evaluate_effect honu
        have hst : (refOf (evaluate u) r.val).st = .failed := (hwe.st _).trans ((hw.st _).trans hfail)
        have hww := hcw.trans hwith
        refine ⟨hst, fun h => hwe.bits _ (hw.bits _ ((walked_refWalk u).bits _ (hbit h))), fun h => absurd hsr h,
          fun _ _ hsel' => ?_, hww.1, hww.2⟩
        have := h3 _ hsel'
        simp [refUsable, hst, usableSt] at this
      · have honu : ¬ selectorOn u := by
          refine fun h => hon ⟨(congrArg (bit · 0) (hc.within.2 _ (by decide))).symm.trans h.1, ?_⟩
          have h2 := h.2
          unfold ticksHeld at h2 ⊢
          rwa [hc.within.1 .clk (by decide)] at h2
        obtain ⟨-, -, hw, hst, hbits⟩ := evaluate_off honu
        have hww := hcw.trans (hw.mono (fun _ h => h) fun a ha => by
          simp only [List.mem_cons, List.not_mem_nil, or_false] at ha
          simp [selRegs, ha])
        exact ⟨(hst _).trans hfail, fun h => hbits _ (hbit h), fun h => absurd hsr h, fun _ h => absurd h hon, hww.1,
          hww.2⟩
    · rw [if_neg hsr]
      exact ⟨by rw [hval], hbit, fun _ => ⟨hc.other, hsel⟩, fun h => absurd h hsr, hcw.1, hcw.2⟩
  · by_contra hc
    simp only [not_or, not_not] at hc
    exact hno hc

/-- O50, the end of a soak and of an unbroken failing. -/
theorem refSoak_effect (hs : Canonical s) (hl : Live s) (r : Fin 8) :
    let kept : Prop := refEn s r.val = true ∧ refFailed s r.val = false
    let soaked : Prop := kept ∧ (refOf s r.val).st = .soaking ∧ refPasses s r.val = true ∧ (refOf s r.val).soakT +
      qualSoak s ≤ s.now
    let failed : Prop := kept ∧ (refOf s r.val).st = .drifting ∧ refPasses s r.val = false ∧ (refOf s r.val).soakT +
      disqSoak s ≤ s.now
    (soaked → Runs (.refSoakDone r) s fun t => refOf t r.val = { refOf s r.val with st := .qualified } ∧
      rbit t (aISTAT pgDPLL) 3 = true ∧ KeepsBut [.regs, .dpll] s t ∧ RegsOnly [aISTAT pgDPLL] s t) ∧
    (¬ soaked → Runs (.refSoakDone r) s fun t => t = s) ∧
    (failed → Runs (.refDisqualify r) s fun t => refOf t r.val = { refOf s r.val with st := .disqualified } ∧
      rbit t (aISTAT pgDPLL) 4 = true ∧ KeepsBut [.regs, .dpll] s t ∧ RegsOnly [aISTAT pgDPLL] s t) ∧
    (¬ failed → Runs (.refDisqualify r) s fun t => t = s) := by
  obtain ⟨-, -, -, -, hlen, -, -⟩ := hs
  have hr : r.val < s.dpll.refs.length := by rw [hlen]; exact r.isLt
  refine ⟨fun ⟨⟨h1, h2⟩, h3, h4, h5⟩ => ?_, fun hno => ?_, fun ⟨⟨h1, h2⟩, h3, h4, h5⟩ => ?_, fun hno => ?_⟩
  · refine runs_awake hl rfl ?_
    rw [show refSoakDone r.val s = refQual r.val s from if_pos ⟨h3, h1, by simp [h2], h4, h5⟩]
    have hc : RefChange r.val s (refQual r.val s) := (RefChange.refl _ s).refQual
    exact ⟨refOf_setRef_same _ hr, rbit_iset_any ⟨pgDPLL, by decide⟩ (by decide) _, hc.within.1, hc.within.2⟩
  · refine runs_awake hl rfl (if_neg fun ⟨h3, h1, h2, h4, h5⟩ => hno ⟨⟨h1, by simpa using h2⟩, h3, h4, h5⟩)
  · refine runs_awake hl rfl ?_
    rw [show refDisqualify r.val s = refDisq r.val s from if_pos ⟨h3, h1, by simp [h2], by simp [h4], h5⟩]
    have hc : RefChange r.val s (refDisq r.val s) := (RefChange.refl _ s).refDisq
    exact ⟨refOf_setRef_same _ hr, rbit_iset_any ⟨pgDPLL, by decide⟩ (by decide) _, hc.within.1, hc.within.2⟩
  · refine runs_awake hl rfl (if_neg fun ⟨h3, h1, h2, h4, h5⟩ => hno
      ⟨⟨h1, by simpa using h2⟩, h3, by simpa using h4, h5⟩)

/-- The sample of the wander window leaves what was measured of the reference, and its state. -/
theorem wanderSample_effect {r : Nat} {t : State} (hr : r < t.dpll.refs.length) :
    ∃ h w k, refOf (wanderSample r t) r = { refOf t r with hist := h, wT := w, wander := k } := by
  unfold wanderSample
  extract_lets x rel win h lim pp x1
  have hx (k : Bool) : ∃ h w k', { x1 with wander := k } = { refOf t r with hist := h, wT := w, wander := k' } :=
      ⟨_, _, _, rfl⟩
  have hset (v : RefSt) : refOf (setRef r v t) r = v := refOf_setRef_same v hr
  split
  · exact ⟨_, _, _, hset _⟩
  · split
    · exact ⟨_, _, _, hset _⟩
    · exact ⟨_, _, _, hset _⟩

/-- The edge is measured: the reference takes the values, and the loop that follows it takes its error. -/
def measured (r : Nat) (i : RefMeas) (u : State) : State :=
  wanderSample r (setRef r { refOf u r with
    edgeT := some i.t, firstT := if refQuiet u r then some i.t else some ((refOf u r).firstT.getD i.t), e := wrapErr
      u r i.e,
    fXo := i.fXo, fMedia := i.fMedia, full := i.full } u)

theorem refEdge_eq (r : Nat) (i : RefMeas) (s : State) : refEdge r i s =
    if ¬ refEn (advance i.t s) r then advance i.t s
    else if r < 2 && (match (refOf (advance i.t s) r).edgeT with
        | none => false
        | some e => decide (2 * (i.t - e) * refRate (advance i.t s) r < 10 ^ 12)) then
      setRef r { refOf (advance i.t s) r with short := min 255 ((refOf (advance i.t s) r).short + 1) } (advance i.t s)
    else if (measured r i (advance i.t s)).dpll.sel = some r then
      lockTrack r (if (measured r i (advance i.t s)).dpll.repull then
        startPull (refOf (measured r i (advance i.t s)) r).e (measured r i (advance i.t s)) else measured r i
          (advance i.t s))
    else measured r i (advance i.t s) := rfl

theorem refEdge_measured {r : Fin 8} {i : RefMeas} (hs : Canonical s) :
    let u := advance i.t s
    let t := if (measured r i u).dpll.sel = some r.val then
        lockTrack r (if (measured r i u).dpll.repull then startPull (refOf (measured r i u) r).e (measured r i u)
          else measured r i u)
      else measured r i u
    (refOf t r.val).edgeT = some i.t ∧ (refOf t r.val).e = wrapErr s r.val i.e ∧
      (refOf t r.val).fXo = i.fXo ∧ (refOf t r.val).fMedia = i.fMedia ∧ (refOf t r.val).full = i.full ∧
      (refOf t r.val).st = (refOf s r.val).st ∧ (∀ q, q ≠ r.val → refOf t q = refOf s q) ∧ t.dpll.sel = s.dpll.sel ∧
      KeepsBut [.now, .ptp, .regs, .dpll] s t ∧ RegsOnly [aISTAT pgDPLL] s t := by
  intro u t
  obtain ⟨-, -, -, -, hlen, -, -⟩ := hs
  have hdpll : u.dpll = s.dpll := advance_dpll ..
  have hadv : Within [.now, .ptp] (fun _ => False) s u := within_advance i.t s
  have hur (q : Nat) : refOf u q = refOf s q := by unfold refOf; rw [hdpll]
  have hw : RefChange r.val u (measured r i u) := ((RefChange.refl r.val u).setRef _).wanderSample
  have hwrap : wrapErr u r.val i.e = wrapErr s r.val i.e := by
    have hreg (a : Nat) : rget u a = rget s a := hadv.2 a id
    have hper : period u = period s := by
      unfold period fs
      rw [hadv.1 .clk (by decide)]
    unfold wrapErr refPer refRate refNom rfld
    rw [hreg, hper]
  have hval : ∃ h w k, refOf (measured r i u) r.val = { refOf u r.val with
      edgeT := some i.t, firstT := if refQuiet u r.val then some i.t else some ((refOf u r.val).firstT.getD i.t),
      e := wrapErr u r.val i.e, fXo := i.fXo, fMedia := i.fMedia, full := i.full, hist := h, wT := w, wander := k
        } := by
    have hlt : r.val < u.dpll.refs.length := by rw [hdpll, hlen]; exact r.isLt
    obtain ⟨h, w, k, he⟩ := wanderSample_effect (r := r.val) (t := setRef r.val { refOf u r.val with
      edgeT := some i.t, firstT := if refQuiet u r.val then some i.t else some ((refOf u r.val).firstT.getD i.t),
      e := wrapErr u r.val i.e, fXo := i.fXo, fMedia := i.fMedia, full := i.full } u)
      (by rw [setRef, setDpll, List.length_set]; exact hlt)
    rw [refOf_setRef_same _ hlt] at he
    exact ⟨h, w, k, he⟩
  have ht : t.dpll.refs = (measured r i u).dpll.refs ∧ t.dpll.sel = (measured r i u).dpll.sel ∧
      Within [.regs, .dpll] (· ∈ [aISTAT pgDPLL]) (measured r i u) t := by
    unfold t
    generalize measured r i u = m
    split
    · split
      · exact ⟨rfl, rfl, ((Within.refl ..).setDpll _).setDpll _⟩
      · exact ⟨rfl, rfl, (Within.refl ..).setDpll _⟩
    · exact ⟨rfl, rfl, .refl ..⟩
  obtain ⟨hrefs, hsel, htw⟩ := ht
  have hof (q : Nat) : refOf t q = refOf (measured r i u) q := by unfold refOf; rw [hrefs]
  have hall : Within [.now, .ptp, .regs, .dpll] (· ∈ [aISTAT pgDPLL]) s t :=
    (hadv.mono (by decide) fun _ => False.elim).trans ((hw.within.trans htw).mono (by decide) fun _ h => h)
  obtain ⟨h, w, k, he⟩ := hval
  rw [hof, he, ← hwrap]
  refine ⟨rfl, rfl, rfl, rfl, rfl,
    by rw [← hur], fun q hq => (hof q).trans ((hw.other q hq).trans (hur q)), ?_, hall.1, hall.2⟩
  rw [hsel, hw.dpll, ← hdpll]

/-- O50, an edge of a reference. -/
theorem refEdge_effect (hs : Canonical s) (hl : Live s) (r : Fin 8) (i : RefMeas) (hen : refEn s r.val = true) :
    (¬ shortEdge s r i →
      Runs (.refEdge r i) s fun t => (refOf t r.val).edgeT = some i.t ∧ (refOf t r.val).e = wrapErr s r.val i.e ∧
        (refOf t r.val).fXo = i.fXo ∧ (refOf t r.val).fMedia = i.fMedia ∧ (refOf t r.val).full = i.full ∧
        (refOf t r.val).st = (refOf s r.val).st ∧ (∀ q, q ≠ r.val → refOf t q = refOf s q) ∧ t.dpll.sel = s.dpll.sel ∧
        KeepsBut [.now, .ptp, .regs, .dpll] s t ∧ RegsOnly [aISTAT pgDPLL] s t) ∧
    (shortEdge s r i →
      Runs (.refEdge r i) s fun t => refOf t r.val =
        { refOf s r.val with short := min 255 ((refOf s r.val).short + 1) } ∧
        (∀ q, q ≠ r.val → refOf t q = refOf s q) ∧ KeepsBut [.now, .ptp, .dpll] s t) := by
  have hlen : s.dpll.refs.length = 8 := by
    obtain ⟨-, -, -, -, hlen, -, -⟩ := hs
    exact hlen
  have hdpll : (advance i.t s).dpll = s.dpll := advance_dpll ..
  have hadv : Within [.now, .ptp] (fun _ => False) s (advance i.t s) := within_advance i.t s
  have hur (q : Nat) : refOf (advance i.t s) q = refOf s q := by unfold refOf; rw [hdpll]
  have hen' : refEn (advance i.t s) r.val = true := by
    unfold refEn followsTwin at hen ⊢
    rw [hadv.1 .twin (by decide)]
    exact (congrArg (fun x => bit x 31 || _) (hadv.2 _ id)).trans hen
  have hshort : (r.val < 2 && (match (refOf (advance i.t s) r.val).edgeT with
      | none => false
      | some e => decide (2 * (i.t - e) * refRate (advance i.t s) r.val < 10 ^ 12))) = true ↔ shortEdge s r i := by
    have hrate : refRate (advance i.t s) r.val = refRate s r.val := congrArg
        (fun x => zeroIs1 (nomRate (bits x 19 16))) (hadv.2 _ id)
    rw [hur, hrate, Bool.and_eq_true, decide_eq_true_iff]
    unfold shortEdge
    cases (refOf s r.val).edgeT <;> simp
  have he := refEdge_eq r.val i s
  rw [if_neg (not_not.2 hen')] at he
  refine ⟨fun h => runs_awake hl rfl ?_, fun h => runs_awake hl rfl ?_⟩
  · rw [he, if_neg fun hc => h (hshort.1 hc)]
    exact refEdge_measured hs
  · rw [he, if_pos (hshort.2 h)]
    refine ⟨(refOf_setRef_same _ ?_).trans (by rw [hur]), fun q hq => (refOf_setRef_ne hq _ _).trans (hur q), ?_⟩
    · rw [hdpll, hlen]; exact r.isLt
    · have hw : Within [.now, .ptp, .dpll] (fun _ => False) s (advance i.t s) := hadv.mono (by decide) fun _ h => h
      exact (hw.setDpll _).1

/-- Settles O50: an edge, the states of a reference, and the evaluation. -/
theorem references : Obligations.References := by
  refine ⟨fun s r i hs hl hen hn => (refEdge_effect hs hl r i hen).1 hn,
    fun s r i hs hl hen hsh => (refEdge_effect hs hl r i hen).2 hsh, fun s r i hl hen => runs_awake hl rfl ?_,
    fun s r hs hl => refFail_effect hs hl r, fun s r hs hl => refSoak_effect hs hl r, fun s x _ ho =>
      dpllEvaluation_effect ho x⟩
  have hadv : Within [.now, .ptp] (fun _ => False) s (advance i.t s) := within_advance i.t s
  have hen' : ¬ refEn (advance i.t s) r.val = true := by
    intro h
    have h2 : refEn s r.val = true := by
      unfold refEn followsTwin at h ⊢
      rw [hadv.1 .twin (by decide)] at h
      exact (congrArg (fun x => bit x 31 || _) (hadv.2 _ id)).symm.trans h
    rw [hen] at h2
    exact absurd h2 (by decide)
  rw [refEdge_eq, if_pos hen']
  exact hadv.1

end Sys2Proof.Machine
end

section
/-!
PROOFS. The record of errors of words, and the Cistern's training, refresh and delay lines: O57
  (chapter 13; log 49, 51).
-/

-- One declaration after another: side by side, the stacks of the threads exceed what memory the check allows.
set_option Elab.async false

namespace Sys2Proof.Machine

variable {s : State}

/-! ### What a read of a word leaves: the record of its errors -/

/-- A bit that is set in a register that resets to 0 reads as set, whether or not the registers are in canonical
  form. -/
theorem rbit_rset_of_bit {a i : Nat} {v : Word} {t : State} (h0 : resetWord a = 0#32) (h : bit v i = true) :
    rbit (rset a v t) a i = true := by
  have hne : v ≠ resetWord a := by
    rw [h0]
    rintro rfl
    simp [bit] at h
  rw [rbit, show rget (rset a v t) a = v from spGet_spSet_of_ne _ hne]
  exact h

theorem rbit_alarm {b : Nat} (hb : b < 32) (t : State) : rbit (alarm b t) aINTC_ALMSRC b = true :=
  rbit_rset_of_bit (by decide) (by rw [bit_or, bit_flg _ _ _ hb]; simp)

theorem rbit_alarm_of_rbit {b i : Nat} {t : State} (h : rbit t aINTC_ALMSRC i = true) : rbit (alarm b t) aINTC_ALMSRC
    i = true :=
  rbit_rset_of_bit (by decide) (by rw [bit_or]; exact Bool.or_eq_true_iff.2 (.inl h))

/-- The pages on which an error of a word is recorded, and a fault of the pair that it causes. -/
abbrev eccPages : List Nat := [pgECC, pgINTC, pgTWIN, pgMATRIX]

/-- The parts that the record of an error may change, besides the memory that holds the word. -/
abbrev eccParts : List Part := [.regs, .cist, .cistern, .galley, .basin, .twin, .arb, .fab]

/-- Words have been read: errors are recorded, a faulted device holds no entries in flight; of the Cistern's own
  state only its
counts of errors and bytes, its banks and the segments of voided entries differ. -/
structure Fetched (l : List Part) (A : Nat → Prop) (s t : State) : Prop where
  within : Within l A s t
  alarms : ∀ i, rbit s aINTC_ALMSRC i = true → rbit t aINTC_ALMSRC i = true
  cistern : ∃ ce segs banks bw, t.cistern = { s.cistern with ceNow := ce, segs := segs, banks := banks, bw := bw }

/-- The parts and registers that the record of an error may change. -/
structure FetchRoom (l : List Part) (A : Nat → Prop) : Prop where
  parts : ∀ p ∈ eccParts, p ∈ l
  regs : ∀ a, pageOf a ∈ eccPages → A a

namespace Fetched
variable {l : List Part} {A : Nat → Prop} {t u : State}

theorem refl (l : List Part) (A : Nat → Prop) (s : State) : Fetched l A s s := ⟨.refl .., fun _ h => h, _, _, _, _, rfl⟩

theorem trans (h : Fetched l A s t) (k : Fetched l A t u) : Fetched l A s u := by
  obtain ⟨ce, segs, banks, bw, hc⟩ := h.cistern
  obtain ⟨ce', segs', banks', bw', hc'⟩ := k.cistern
  exact ⟨h.within.trans k.within, fun i hi => k.alarms i (h.alarms i hi), ce', segs', banks', bw', by rw [hc', hc]⟩

/-- A change of listed parts that leaves the Cistern's own state. -/
theorem parts (h : Fetched l A s t) {ps : List Part} (hp : ∀ p ∈ ps, p ∈ l) (hu : KeepsBut ps t u)
    (hr : u.regs = t.regs := by rfl)
    (hc : u.cistern = t.cistern := by rfl) : Fetched l A s u :=
  have hreg (a : Nat) : rget u a = rget t a := congrArg (spGet resetWord · a) hr
  h.trans ⟨⟨fun p hn => hu p fun hm => hn (hp p hm), fun a _ => hreg a⟩, fun i hi =>
    (congrArg (bit · i) (hreg _)).trans hi,
    _, _, _, _, hc⟩

theorem ite (h : Fetched l A s t) {p : Prop} [Decidable p] (k : Fetched l A s u) : Fetched l A s
    (if p then t else u) := by
  split <;> assumption

theorem foldl {α : Type} {f : State → α → State} (hf : ∀ u x, Fetched l A s u → Fetched l A s (f u x)) (m : List α)
    (h : Fetched l A s t) : Fetched l A s (m.foldl f t) :=
  List.foldlRecOn (motive := Fetched l A s) _ _ h fun u hu x _ => hf u x hu

section
variable (r : FetchRoom l A) (h : Fetched l A s t)
include r h

theorem rset {a : Nat} (v : Word) (ha : pageOf a ∈ eccPages := by decide) (hn : aINTC_ALMSRC ≠ a := by decide) :
    Fetched l A s (rset a v t) :=
  ⟨h.within.rset v (r.parts _
    (by decide)) (r.regs _ ha), fun i hi => (congrArg (bit · i) (rget_rset_ne t v hn)).trans (h.alarms i hi),
    h.cistern⟩

theorem iset {p : Nat} (b : Nat) (ha : pageOf (aISTAT p) ∈ eccPages := by decide)
    (hn : aINTC_ALMSRC ≠ aISTAT p := by decide) :
    Fetched l A s (iset p b t) := h.rset r _ ha hn

theorem cnt {a : Nat} (ha : pageOf a ∈ eccPages := by decide) (hn : aINTC_ALMSRC ≠ a := by decide) :
    Fetched l A s (cnt a t) := h.rset r _ ha hn

theorem alarm (b : Nat) : Fetched l A s (alarm b t) :=
  ⟨h.within.rset _ (r.parts _
    (by decide)) (r.regs _ (by decide)), fun i hi => rbit_alarm_of_rbit (h.alarms i hi), h.cistern⟩

theorem setFab (x : FabSt) : Fetched l A s { t with fab := x } :=
  h.parts (ps := [.fab]) (fun p hp => r.parts p (by simp only [List.mem_singleton] at hp; subst hp; decide))
    fun p hp => by cases p <;> first | rfl | exact absurd (by decide) hp

theorem setTwin' (x : TwinSt) : Fetched l A s { t with twin := x } :=
  h.parts (ps := [.twin]) (fun p hp => r.parts p (by simp only [List.mem_singleton] at hp; subst hp; decide))
    fun p hp => by cases p <;> first | rfl | exact absurd (by decide) hp

theorem cwByte (a : Nat) (v : Byte) : Fetched l A s (cwByte a v t) :=
  h.parts (ps := [.cist]) (fun p hp => r.parts p (by simp only [List.mem_singleton] at hp; subst hp; decide))
    fun p hp => by cases p <;> first | rfl | exact absurd (by decide) hp

theorem errcap {p : Nat} (code a : Nat) (hc : pageOf (aERRCAP p) ∈ eccPages := by decide)
    (ha : pageOf (aERRADDR p) ∈ eccPages := by decide) (hcn : aINTC_ALMSRC ≠ aERRCAP p := by decide)
    (han : aINTC_ALMSRC ≠ aERRADDR p := by decide) : Fetched l A s (errcap p code a t) :=
  .ite (h.rset r _ hc hcn) ((h.rset r _ hc hcn).rset r _ ha han)

theorem setFlips (a v : Nat) : Fetched l A s (setFlips a v t) := h.setFab r _

theorem eccLast (a : Nat) (ue : Bool) : Fetched l A s (eccLast a ue t) := (h.rset r _).rset r _

/-! A fault of the pair -/

theorem releaseOutputs : Fetched l A s (releaseOutputs t) :=
  .ite ((h.setTwin' r _).iset r 1) (h.setTwin' r _)

theorem hbStatic : Fetched l A s (hbStatic t) :=
  h.parts (ps := [.arb]) (fun p hp => r.parts p (by simp only [List.mem_singleton] at hp; subst hp; decide))
    fun p hp => by cases p <;> first | rfl | exact absurd (by decide) hp

theorem voidFlight : Fetched l A s (voidFlight t) := by
  refine h.trans ⟨⟨fun p hp => ?_, fun a _ => rfl⟩, fun _ h => h, _, _, _, _, rfl⟩
  have hg : p ≠ .galley := fun e => hp (e ▸ r.parts _ (by decide))
  have hc : p ≠ .cistern := fun e => hp (e ▸ r.parts _ (by decide))
  have hb : p ≠ .basin := fun e => hp (e ▸ r.parts _ (by decide))
  cases p <;> first | rfl | contradiction

theorem leaveRole (x : TwinState) : Fetched l A s (leaveRole x t) := by
  have h1 : Fetched l A s (if t.twin.st = .active ∧ ¬ t.galley.inflight.isEmpty then Machine.voidFlight t else t) :=
    .ite (h.voidFlight r) h
  unfold Machine.leaveRole
  exact .ite h1 (h1.setTwin' r _)

theorem setTwin (x : TwinState) : Fetched l A s (setTwin x t) := by
  have h1 : Fetched l A s (if t.twin.st = .solo then rput aMATRIX_CFG 0 0 0 t else t) := .ite (h.rset r _) h
  unfold Machine.setTwin
  refine .ite h ?_
  dsimp only
  exact .ite (((h1.leaveRole r x).setTwin' r _).iset r 0) ((((h1.leaveRole r x).setTwin' r _).iset r 0).setFab r _)

theorem enterTwinFault (cause : Nat) : Fetched l A s (enterTwinFault cause t) :=
  ((((h.releaseOutputs r).hbStatic r).setTwin r _).setTwin' r _).alarm r 7

theorem standbyFault (cause : Nat) : Fetched l A s (standbyFault cause t) := .ite (h.enterTwinFault r _) h

theorem requestRelease (x : Release) : Fetched l A s (requestRelease x t) := .ite (h.setTwin' r _) h

theorem twinEccFault : Fetched l A s (twinEccFault t) :=
  .ite (.ite (.ite (h.enterTwinFault r _) h) h) (h.standbyFault r _)

end
end Fetched

theorem page_ceCnt : ∀ g : Fin 4, (pageOf (aECC_CE_CNT g) ∈ eccPages ∧ aINTC_ALMSRC ≠ aECC_CE_CNT g) ∧
    pageOf (aECC_UE_CNT g) ∈ eccPages ∧ aINTC_ALMSRC ≠ aECC_UE_CNT g := by decide

theorem page_remapTable : ∀ g : Fin 4, ∀ a ∈ remapTable g, pageOf a ∈ eccPages ∧ aINTC_ALMSRC ≠ a := by decide

section
variable {l : List Part} {A : Nat → Prop} {t : State} (r : FetchRoom l A) (h : Fetched l A s t)
include r h

theorem Fetched.autoRemap (a : Nat) (g : Fin 4) : Fetched l A s (autoRemap a g t) := by
  have h1 := h.setFab r { t.fab with
    ceList := t.fab.ceList.set g ((eccForm a :: t.fab.ceList[g]).take (if g = 3 then 16 else 8)) }
  unfold Machine.autoRemap
  refine .ite ?_ h1
  split
  · next q hq => exact ((h1.setFlips r a 0).rset r _ (page_remapTable g q (List.mem_of_find?_eq_some hq)).1
      (page_remapTable g q (List.mem_of_find?_eq_some hq)).2).iset r 3
  · exact h1.iset r 4

/-- Data of the memory itself are settled where the word is one of it. -/
theorem Fetched.settleData (a res : Nat) (hm : a < cistBase → .mem ∈ l) : Fetched l A s (settleData a res t) := by
  unfold Machine.settleData
  refine .ite h ?_
  split
  · exact (((((((h.cwByte r _ _).cwByte r _ _).cwByte r _ _).cwByte r _ _).cwByte r _ _).cwByte r _ _).cwByte r _
      _).cwByte r _ _
  · next ha =>
    refine h.parts (ps := [.mem]) (fun p hp => ?_) fun p hp => by cases p <;> first | rfl | exact absurd (by decide) hp
    rw [List.mem_singleton.1 hp]
    exact hm (by omega)

theorem Fetched.eccRead (a : Nat) (hm : a < cistBase → .mem ∈ l) : Fetched l A s (eccRead a t).1 := by
  unfold Machine.eccRead
  split
  · exact h
  · next res _ =>
    show Fetched l A s (eccCorrect a res t)
    unfold eccCorrect
    split
    · exact h
    · next g _ =>
      have h1 : Fetched l A s (Machine.iset pgECC 0 (Machine.cnt (aECC_CE_CNT g) (Machine.eccLast a false t))) :=
        ((h.eccLast r a false).cnt r (page_ceCnt g).1.1 (page_ceCnt g).1.2).iset r 0
      dsimp only
      refine Fetched.autoRemap r ?_ a g
      refine Fetched.setFab r ?_ _
      refine Fetched.setFlips r ?_ _ _
      refine Fetched.settleData r ?_ a res hm
      split
      · refine h1.trans ⟨⟨fun p hp => ?_, fun _ _ => rfl⟩, fun _ h => h, _, _, _, _, rfl⟩
        have hc : p ≠ .cistern := fun e => hp (e ▸ r.parts _ (by decide))
        cases p <;> first | rfl | contradiction
      · exact h1
  · show Fetched l A s (eccUncorrectable a t)
    unfold eccUncorrectable
    split
    · exact h
    · next g _ =>
      exact (((((h.eccLast r a true).cnt r (page_ceCnt g).2.1 (page_ceCnt g).2.2).iset r 1).alarm r 4).errcap r _
        _).twinEccFault r

theorem Fetched.freshen (a : Nat) : Fetched l A s (freshen a t) := by
  unfold Machine.freshen
  split
  · exact ((h.setFab r _).setFlips r _ _).iset r 7
  · exact .ite h (h.setFlips r _ _)

/-! The Cistern's own words -/

theorem Fetched.dramTouch (port line n : Nat) : Fetched l A s (dramTouch port line n t) := by
  refine h.trans ⟨⟨fun p hp => ?_, fun _ _ => rfl⟩, fun _ h => h, _, _, _, _, rfl⟩
  have hc : p ≠ .cistern := fun e => hp (e ▸ r.parts _ (by decide))
  cases p <;> first | rfl | contradiction

theorem Fetched.cwBytes (a : Nat) (bs : List Byte) : Fetched l A s (cwBytes a bs t) := by
  induction bs generalizing a t with
  | nil => exact h
  | cons b bs ih => exact ih (h.cwByte r a b) (a + 1)

theorem Fetched.cistWordStore (a : Nat) (bs : List Byte) (w : Nat) (x : Bool) : Fetched l A s
    (cistWordStore a bs w (t, x)).1 := by
  have hread : Fetched l A s (Machine.eccRead (cistBase + 8 * w) t).1 := h.eccRead r _ fun hlt => absurd hlt (by omega)
  unfold Machine.cistWordStore
  extract_lets lo part q
  have hq : Fetched l A s q.1 := by
    unfold q
    split
    · exact h
    · exact hread
  split
  · exact hq
  · exact (hq.cwBytes r _ _).freshen r _

theorem Fetched.cistStore (port a : Nat) (bs : List Byte) : Fetched l A s (cistStore port a bs t) := by
  unfold Machine.cistStore cistWrite
  extract_lets u
  have hu : Fetched l A s u := h.dramTouch r ..
  split
  · exact hu.cwBytes r _ _
  · exact List.foldlRecOn (motive := fun x : State × Bool => Fetched l A s x.1) _ _ hu fun x hx w _ =>
      hx.cistWordStore r a bs _ x.2

theorem Fetched.cistFetch (port a n : Nat) : Fetched l A s (cistFetch port a n t).2.1 := by
  unfold Machine.cistFetch
  extract_lets u q
  have hu : Fetched l A s u := h.dramTouch r ..
  show Fetched l A s q.1
  unfold q
  split
  · exact hu
  · exact List.foldlRecOn (motive := fun x : State × Bool => Fetched l A s x.1) _ _ hu fun x hx i _ =>
      hx.eccRead r _ fun hlt => absurd hlt (by omega)

end

/-! ### O57: training and retraining -/

theorem Within.setCist {l : List Part} {A : Nat → Prop} {t : State} (h : Within l A s t) (x : CistSt)
    (hl : .cistern ∈ l := by decide) : Within l A s (setCist x t) :=
  ⟨fun p hp => (h.1 p hp).trans (by cases p <;> first | rfl | exact absurd hl hp), h.2⟩

theorem Within.foldl {l : List Part} {A : Nat → Prop} {α : Type} {f : State → α → State} {m : List α} {t : State}
    (h : Within l A s t) (hf : ∀ u, Within l A s u → ∀ x ∈ m, Within l A s (f u x)) : Within l A s (m.foldl f t) :=
  List.foldlRecOn (motive := Within l A s) _ _ h hf

/-- The registers that the measures of a degraded Cistern write. -/
def degradeAddr (a : Nat) : Prop := pageOf a ∈ eccPages ∨ a ∈ [aISTAT pgMETER, aISTAT pgPLAYER]

abbrev degradeParts : List Part := [.shed, .shedImp] ++ eccParts

theorem fetchRoom_degrade : FetchRoom degradeParts degradeAddr := ⟨by decide, fun _ h => .inl h⟩

theorem within_shedRaise (n : Nat) (t : State) : Within [.shed, .regs] (· ∈ [aISTAT pgMETER, aISTAT pgPLAYER]) t
    (shedRaise n t) ∧
    (shedRaise n t).shed = n ∧ (shedRaise n t).cistern = t.cistern := by
  have h1 : Within [.shed, .regs] (· ∈ [aISTAT pgMETER, aISTAT pgPLAYER]) t { t with shed := n } :=
    ⟨fun p hp => by cases p <;> first | rfl | exact absurd (by decide) hp, fun _ _ => rfl⟩
  have h2 : Within [.shed, .regs] (· ∈ [aISTAT pgMETER, aISTAT pgPLAYER]) t
      (if t.shed = 0 ∧ n ≥ 1 then iset pgMETER 0 { t with shed := n } else { t with shed := n }) := .ite (h1.iset 0) h1
  unfold shedRaise
  refine ⟨.ite (h2.iset 0) h2, ?_, ?_⟩
  · split <;> split <;> rfl
  · split <;> split <;> rfl

theorem cistern_setTwin (x : TwinState) (t : State) : ∃ segs, (setTwin x t).cistern =
    { t.cistern with segs := segs } := by
  have hlead (u : State) (hu : u.cistern = t.cistern) : ∃ segs, (leaveRole x u).cistern =
      { t.cistern with segs := segs } := by
    rw [← hu]
    unfold leaveRole
    dsimp only
    split <;> split <;> exact ⟨_, rfl⟩
  unfold setTwin
  split
  · exact ⟨_, rfl⟩
  · obtain ⟨segs, h⟩ := hlead (if t.twin.st = .solo then rput aMATRIX_CFG 0 0 0 t else t) (by split <;> rfl)
    refine ⟨segs, ?_⟩
    rw [← h]
    dsimp only
    split <;> rfl

theorem cistern_standbyFault (cause : Nat) (t : State) : ∃ segs, (standbyFault cause t).cistern =
    { t.cistern with segs := segs } := by
  unfold standbyFault
  split
  · have hrel : (hbStatic (releaseOutputs t)).cistern = t.cistern := by
      unfold releaseOutputs
      dsimp only
      split <;> rfl
    obtain ⟨segs, h⟩ := cistern_setTwin .faulted (hbStatic (releaseOutputs t))
    exact ⟨segs, h.trans (by rw [hrel])⟩
  · exact ⟨_, rfl⟩

/-- What the measures of a degraded Cistern change: the reserve's move, the shed step with its alarm, and what a
  fault of the
pair does. -/
theorem degradeMeasures_effect (t : State) :
    Within degradeParts degradeAddr t (degradeMeasures t) ∧ (degradeMeasures t).shed = 5 ∧
      rbit (degradeMeasures t) aINTC_ALMSRC 6 = true ∧
      ∃ segs rsv back, (degradeMeasures t).cistern = { t.cistern with segs := segs, rsvAt := rsv, backAt := back } := by
  obtain ⟨hraise, hshed, hcist⟩ := within_shedRaise 5 { t with shedImp := 5 }
  unfold degradeMeasures
  extract_lets s2 c s3
  have himp : Within degradeParts degradeAddr t { t with shedImp := 5 } :=
    ⟨fun p hp => by cases p <;> first | rfl | exact absurd (by decide) hp, fun _ _ => rfl⟩
  have h3 : Within degradeParts degradeAddr t s3 :=
    (himp.trans (hraise.mono (by decide) fun a ha => .inr ha)).setCist _
  have hf : Fetched degradeParts degradeAddr (alarm 6 s3) (standbyFault 6 (requestRelease (.fault 6) (alarm 6 s3))) :=
    ((Fetched.refl ..).requestRelease fetchRoom_degrade _).standbyFault fetchRoom_degrade 6
  have ha : Within degradeParts degradeAddr t (alarm 6 s3) := h3.alarm 6 (by decide) (.inl (by decide))
  obtain ⟨segs, hc⟩ := cistern_standbyFault 6 (requestRelease (.fault 6) (alarm 6 s3))
  have hreq : (requestRelease (.fault 6) (alarm 6 s3)).cistern = s3.cistern := by
    unfold requestRelease
    split <;> rfl
  refine ⟨ha.trans hf.within, ?_, hf.alarms 6 (rbit_alarm (by decide) _), segs, s3.cistern.rsvAt, s3.cistern.backAt, ?_⟩
  · have hs : Fetched eccParts (fun _ => True) (alarm 6 s3) (standbyFault 6 (requestRelease (.fault 6) (alarm 6 s3))) :=
      ((Fetched.refl ..).requestRelease ⟨fun _ h => h, fun _ _ => trivial⟩ _).standbyFault
        ⟨fun _ h => h, fun _ _ => trivial⟩ 6
    exact Eq.trans (hs.within.1 .shed (by decide)) hshed
  · have h2 : s2.cistern = t.cistern := hcist
    rw [hc, hreq]
    show ({ s2.cistern with segs := segs, rsvAt := s3.cistern.rsvAt, backAt := s3.cistern.backAt } : CistSt) = _
    rw [h2]

theorem degradeMeasures_ddrc {b i : Nat} {t : State} (h : rbit t (aISTAT pgDDRC) i = true) :
    rbit (degradeMeasures (iset pgDDRC b t)) (aISTAT pgDDRC) i = true :=
  (congrArg (bit · i) ((degradeMeasures_effect _).1.2 _ (by unfold degradeAddr; decide))).trans
    (rbit_iset_of_rbit ⟨pgDDRC, by decide⟩ h)

/-- The Cistern becomes LOST. -/
theorem enterLost_effect (t : State) : (enterLost t).cistern.st = .lost ∧ rbit (enterLost t) (aISTAT pgDDRC) 5 = true ∧
    rbit (enterLost t) aINTC_ALMSRC 6 = true ∧ (enterLost t).shed = 5 ∧
    Within degradeParts (fun a => degradeAddr a ∨ a = aISTAT pgDDRC) t (enterLost t) := by
  unfold enterLost
  set u := iset pgDDRC 5 (setCist
    { t.cistern with st := .lost, retrain := none, pend := none, lostF := some t.tb.frame } t) with hu
  obtain ⟨hw, hshed, halm, segs, rsv, back, hc⟩ := degradeMeasures_effect u
  refine ⟨by rw [hc, hu]; rfl, ?_, halm, hshed, ?_⟩
  · exact (congrArg (bit · 5) (hw.2 _ (by unfold degradeAddr; decide))).trans
      (rbit_iset_any ⟨pgDDRC, by decide⟩ (by decide) _)
  · have h0 : Within degradeParts (fun a => degradeAddr a ∨ a = aISTAT pgDDRC) t u :=
      ((Within.refl ..).setCist _).iset 5 (by decide) (.inr rfl)
    exact h0.trans (hw.mono (fun _ h => h) fun _ h => .inl h)

/-- The Cistern becomes DEGRADED. -/
theorem enterDegraded_effect (t : State) : (enterDegraded t).cistern.st = .degraded ∧
    (∃ segs rsv back, (enterDegraded t).cistern = { t.cistern with
      st := .degraded, segs := segs, rsvAt := rsv, backAt := back }) ∧
    (∀ i, rbit t (aISTAT pgDDRC) i = true → rbit (enterDegraded t) (aISTAT pgDDRC) i = true) ∧
    Within degradeParts (fun a => degradeAddr a ∨ a = aISTAT pgDDRC) t (enterDegraded t) := by
  unfold enterDegraded
  set u := iset pgDDRC 4 (setCist { t.cistern with st := .degraded } t) with hu
  obtain ⟨hw, -, -, segs, rsv, back, hc⟩ := degradeMeasures_effect u
  refine ⟨by rw [hc, hu]; rfl, ⟨segs, rsv, back, by rw [hc, hu]; rfl⟩, fun i hi => degradeMeasures_ddrc hi, ?_⟩
  have h0 : Within degradeParts (fun a => degradeAddr a ∨ a = aISTAT pgDDRC) t u :=
    ((Within.refl ..).setCist _).iset 4 (by decide) (.inr rfl)
  exact h0.trans (hw.mono (fun _ h => h) fun _ h => .inl h)

/-- The Cistern becomes NORMAL. -/
theorem enterNormal_effect (t : State) : (enterNormal t).shedImp = 0 ∧ (enterNormal t).cistern.st = .normal ∧
    (∃ back, (enterNormal t).cistern = { t.cistern with st := .normal, rsvAt := none, backAt := back }) ∧
    rbit (enterNormal t) (aISTAT pgDDRC) 3 = true ∧
    (∀ i, rbit t (aISTAT pgDDRC) i = true → rbit (enterNormal t) (aISTAT pgDDRC) i = true) ∧
    Within [.regs, .cistern, .shedImp, .shedT] (· ∈ [aISTAT pgDDRC]) t (enterNormal t) := by
  unfold enterNormal
  extract_lets c d s1
  have h1 : Within [.regs, .cistern, .shedImp, .shedT] (· ∈ [aISTAT pgDDRC]) t s1 := (Within.refl ..).setCist _
  have h2 : Within [.regs, .cistern, .shedImp, .shedT] (· ∈ [aISTAT pgDDRC]) t { s1 with
      shedImp := 0, shedT := if s1.shedImp = 0 then s1.shedT else s1.shedT.mapIdx fun i t => max t
        (s1.now + (4 - i) * secPs) } :=
    h1.trans ⟨fun p hp => by cases p <;> first | rfl | exact absurd (by decide) hp, fun _ _ => rfl⟩
  exact ⟨rfl, rfl, ⟨_, rfl⟩, rbit_iset_any ⟨pgDDRC, by decide⟩ (by decide) _,
    fun i hi => rbit_iset_of_rbit ⟨pgDDRC, by decide⟩ hi, h2.iset 3⟩

/-- The registers of the PHY that a training reports in. -/
def OnPhy (a : Nat) : Prop := pageOf a = pgDDRPHY

theorem phy_of_zipIdx {α : Type} {l : List α} {x : α × Nat} (h : x ∈ (l.take 18).zipIdx) :
    pageOf (aDDRPHY_EYE x.2) = pgDDRPHY ∧ pageOf (aDDRPHY_DLY x.2) = pgDDRPHY := by
  have hlt : x.2 < 18 := by
    have := (List.mem_zipIdx h).2.1
    have hlen : (l.take 18).length ≤ 18 := List.length_take_le ..
    omega
  unfold pageOf aDDRPHY_EYE aDDRPHY_DLY pgDDRPHY
  constructor <;> omega

theorem within_putDlys (m : List LaneEye) {l : List Part} {A : Nat → Prop} {t : State} (h : Within l A s t)
    (hl : .regs ∈ l)
    (hA : ∀ a, OnPhy a → A a) : Within l A s (putDlys m t) :=
  h.foldl fun _ hu _ hx => hu.rset _ hl (hA _ (phy_of_zipIdx hx).2)

theorem within_putEyes (m : List LaneEye) {l : List Part} {A : Nat → Prop} {t : State} (h : Within l A s t)
    (hl : .regs ∈ l)
    (hA : ∀ a, OnPhy a → A a) : Within l A s (putEyes m t) :=
  h.foldl fun _ hu _ hx => hu.rset _ hl (hA _ (phy_of_zipIdx hx).1)

theorem cistern_putFold (f : LaneEye × Nat → Nat) (g : LaneEye × Nat → Word) (m : List (LaneEye × Nat)) (t : State) :
    (m.foldl (fun s x => rset (f x) (g x) s) t).cistern = t.cistern :=
  List.foldlRecOn (motive := fun u : State => u.cistern = t.cistern) _ _ rfl fun _ hu _ _ => hu

theorem eyesReport_effect (m : List LaneEye) (t : State) :
    Within [.regs, .cistern] OnPhy t (eyesReport m t) ∧ ∃ k, (eyesReport m t).cistern =
      { t.cistern with failMask := k } := by
  have h0 : Within [.regs, .cistern] OnPhy t (iset pgDDRPHY 0
      (setCist { t.cistern with failMask := maskOf (failedLanes t m) } (putEyes m t))) :=
    ((within_putEyes m (Within.refl ..) (by decide) fun _ h => h).setCist _).iset 0 (by decide) rfl
  unfold eyesReport
  refine ⟨.ite h0 (h0.iset 1 (by decide) rfl), maskOf (failedLanes t m), ?_⟩
  dsimp only
  split <;> rfl

/-- What bears on the eyes is the same in two states with the same registers. -/
theorem failedLanes_congr {t : State} (h : ∀ a, a ∈ [aDDRC_MEMCFG, aDDRPHY_TRCFG] → rget t a = rget s a)
    (m : List LaneEye) :
    failedLanes t m = failedLanes s m := by
  unfold failedLanes ranks minEye rbit rfld
  rw [h _ (by decide), h _ (by decide)]

theorem advance_cistern (x : Nat) (s : State) : (advance x s).cistern = s.cistern :=
  (within_advance x s).1 .cistern (by decide)

theorem failedLanes_advance (x : Nat) (s : State) (m : List LaneEye) : failedLanes (advance x s) m = failedLanes s m :=
  failedLanes_congr (fun _ _ => rget_advance ..) m

theorem within_voidContents (t : State) :
    Within ([.cist, .cistern] ++ eccParts) (fun a => pageOf a ∈ eccPages ∨ a = aISTAT pgPLAYER) t (voidContents t) ∧
      (voidContents t).cistern.trained = t.cistern.trained := by
  have hroom : FetchRoom ([.cist, .cistern] ++ eccParts) (fun a => pageOf a ∈ eccPages ∨ a = aISTAT pgPLAYER) :=
    ⟨by decide, fun _ h => .inl h⟩
  unfold voidContents
  extract_lets c lines _ s1 _ s2
  have h1 : Within ([.cist, .cistern] ++ eccParts) (fun a => pageOf a ∈ eccPages ∨ a = aISTAT pgPLAYER) t s1 :=
    ⟨fun p hp => by cases p <;> first | rfl | exact absurd (by decide) hp, fun _ _ => rfl⟩
  have h2 : Fetched ([.cist, .cistern] ++ eccParts) (fun a => pageOf a ∈ eccPages ∨ a = aISTAT pgPLAYER) s1 s2 :=
    .foldl (fun _ x hu => hu.cistStore hroom 4 (64 * x.line) x.data) _ (.refl ..)
  have ht : s1.cistern.trained = t.cistern.trained := rfl
  have ht2 : s2.cistern.trained = t.cistern.trained := by
    obtain ⟨_, _, _, _, hc⟩ := h2.cistern
    rw [hc]
    exact ht
  split
  · split
    · exact ⟨h1.setCist _, ht⟩
    · exact ⟨h1, ht⟩
  · exact ⟨((h1.trans h2.within).setCist _).iset 1 (by decide) (.inr rfl), ht2⟩

theorem within_afterTraining (t : State) :
    Within ([.cist, .cistern] ++ eccParts) (fun a => pageOf a ∈ eccPages ∨ a = aISTAT pgPLAYER) t (afterTraining t) ∧
      (afterTraining t).cistern.trained = t.cistern.trained := by
  unfold afterTraining
  split
  · exact ⟨(Within.refl ..).setCist _, rfl⟩
  · exact within_voidContents t

/-- The parts that a finished training may change: not the memory, and not the start-up. -/
abbrev trainParts : List Part := [.now, .ptp, .cist, .shed, .shedImp, .shedT] ++ eccParts

/-- Full training with every eye wide enough. -/
theorem trainingDone_good (hs : Canonical s) (r : TrainIn) (ht : s.cistern.st = .training) (he : eyesGood s r) :
    Within trainParts (fun _ => True) s (trainingDone r s) ∧
      (trainingDone r s).cistern.st = .normal ∧ (trainingDone r s).cistern.trained = true ∧ rget (trainingDone r s)
        aDDRC_FAILS = 0 ∧
      rbit (trainingDone r s) (aISTAT pgDDRC) 3 = true ∧ (trainingDone r s).shedImp = 0 := by
  set u := advance r.t s with hu
  have hadv : Within trainParts (fun _ => True) s u := (within_advance r.t s).mono (by decide) fun _ => False.elim
  obtain ⟨hrep, -⟩ := eyesReport_effect r.lanes u
  set s1 := rset aDDRPHY_TRAIN_TIME (satW 16 r.us) (eyesReport r.lanes u) with hs1
  set s2 := trainedNow (putDlys r.lanes (rset aDDRC_FAILS 0 s1)) with hs2
  set s3 := setCist { s2.cistern with rtT := s2.now, ceT := s2.now, ceNow := 0 } s2 with hs3
  have hdef : trainingDone r s = enterNormal (afterTraining s3) := by
    have h1 : u.cistern.st = .training := by rw [hu, advance_cistern, ht]
    have h2 : (failedLanes u r.lanes).isEmpty = true := by
      rw [hu, failedLanes_advance, he]
      rfl
    exact (if_neg (not_not.2 h1)).trans (if_pos h2)
  have hfails : rget s3 aDDRC_FAILS = 0 := by
    have hwf : spWf resetWord s1.regs = true := rset_regs_wf
        (((tidy_of_canonical hs).advance r.t).eyesReport r.lanes).regs_wf _ _
    have hput : Within [.regs] (fun a => pageOf a = pgDDRPHY) (rset aDDRC_FAILS 0 s1)
        (putDlys r.lanes (rset aDDRC_FAILS 0 s1)) :=
      within_putDlys _ (.refl ..) (by decide) fun _ h => h
    calc rget s3 aDDRC_FAILS
        = rget (putDlys r.lanes (rset aDDRC_FAILS 0 s1)) aDDRC_FAILS := rget_rset_ne _ _ (by decide)
      _ = rget (rset aDDRC_FAILS 0 s1) aDDRC_FAILS := hput.2 _ (by decide)
      _ = 0 := rget_rset_same hwf _ _
  have h3 : Within trainParts (fun _ => True) s s3 := by
    have h1 : Within trainParts (fun _ => True) s s1 := (hadv.trans (hrep.mono (by decide) fun _ _ => trivial)).rset
        _ (by decide) trivial
    have h2 := within_putDlys r.lanes (h1.rset (a := aDDRC_FAILS) 0 (by decide) trivial) (by decide) fun _ _ => trivial
    exact ((h2.setCist _).rset _ (by decide) trivial).setCist _
  obtain ⟨hafter, htr⟩ := within_afterTraining s3
  obtain ⟨himp, hst, ⟨back, hc⟩, hbit, -, hn⟩ := enterNormal_effect (afterTraining s3)
  rw [hdef]
  refine ⟨(h3.trans (hafter.mono
    (by decide) fun _ _ => trivial)).trans (hn.mono (by decide) fun _ _ => trivial), hst, ?_, ?_, hbit, himp⟩
  · rw [hc]
    exact htr
  · exact (hn.2 _ (by decide)).trans ((hafter.2 _ (by decide)).trans hfails)

/-- Full training with an eye too narrow. -/
theorem trainingDone_bad (r : TrainIn) (ht : s.cistern.st = .training) (he : ¬ eyesGood s r) :
    Within trainParts (fun _ => True) s (trainingDone r s) ∧
      (trainingDone r s).cistern.st = .lost ∧ rbit (trainingDone r s) (aISTAT pgDDRC) 5 = true ∧
      rbit (trainingDone r s) aINTC_ALMSRC 6 = true ∧ (trainingDone r s).shed = 5 := by
  set u := advance r.t s with hu
  have hadv : Within trainParts (fun _ => True) s u := (within_advance r.t s).mono (by decide) fun _ => False.elim
  obtain ⟨hrep, -⟩ := eyesReport_effect r.lanes u
  have hdef : trainingDone r s = enterLost (iset pgDDRC 2 (rset aDDRPHY_TRAIN_TIME (satW 16 r.us)
      (eyesReport r.lanes u))) := by
    have h1 : u.cistern.st = .training := by rw [hu, advance_cistern, ht]
    have h2 : ¬ (failedLanes u r.lanes).isEmpty = true := by
      rw [hu, failedLanes_advance, List.isEmpty_iff]
      exact he
    exact (if_neg (not_not.2 h1)).trans (if_neg h2)
  rw [hdef]
  obtain ⟨h1, h2, h3, h4, hw⟩ := enterLost_effect (iset pgDDRC 2
    (rset aDDRPHY_TRAIN_TIME (satW 16 r.us) (eyesReport r.lanes u)))
  refine ⟨Within.trans ?_ (hw.mono (by decide) fun _ _ => trivial), h1, h2, h3, h4⟩
  exact ((hadv.trans (hrep.mono (by decide) fun _ _ => trivial)).rset _ (by decide) trivial).iset 2 (by decide) trivial

/-- O57, full training. -/
theorem trainingDone_effect (hs : Canonical s) (ho : inOperation s) (r : TrainIn) (ht : s.cistern.st = .training) :
    (eyesGood s r → Runs (.trainingDone r) s fun t => t.cistern.st = .normal ∧ t.cistern.trained = true ∧ rget t
      aDDRC_FAILS = 0 ∧
      rbit t (aISTAT pgDDRC) 3 = true ∧ t.shedImp = 0 ∧ t.mem = s.mem) ∧
    (¬ eyesGood s r → Runs (.trainingDone r) s fun t => t.cistern.st = .lost ∧ rbit t (aISTAT pgDDRC) 5 = true ∧
      rbit t aINTC_ALMSRC 6 = true ∧ t.shed = 5 ∧ t.mem = s.mem) := by
  refine ⟨fun he => ?_, fun he => ?_⟩
  · obtain ⟨hw, h1, h2, h3, h4, h5⟩ := trainingDone_good hs r ht he
    exact runs_inOperation ho rfl (hw.1 .boot (by decide)) ⟨h1, h2, h3, h4, h5, hw.1 .mem (by decide)⟩
  · obtain ⟨hw, h1, h2, h3, h4⟩ := trainingDone_bad r ht he
    exact runs_inOperation ho rfl (hw.1 .boot (by decide)) ⟨h1, h2, h3, h4, hw.1 .mem (by decide)⟩

theorem trainingDone_idle (ho : inOperation s) (r : TrainIn) (ht : s.cistern.st ≠ .training) :
    Runs (.trainingDone r) s fun t => t = advance r.t s := by
  have hdef : trainingDone r s = advance r.t s := if_pos (by rw [advance_cistern]; exact ht)
  refine runs_inOperation ho rfl ?_ hdef
  rw [hdef]
  exact (within_advance r.t s).1 .boot (by decide)

/-- The interval or the temperature calls for a retrain. -/
abbrev retrainCalled (u : State) : Prop :=
  cistServes u = true ∧
    ((match retrainInt u with | some d => decide (u.now ≥ u.cistern.rtT + d) | none => false) = true ∨
      (decide ((ddrTemp u - u.cistern.trainTemp).natAbs ≥ zeroIs1 (rfld u aDDRC_RTCFG 7 0)) = true ∧
        ¬ decide (rfld u aDDRC_FAILS 1 0 > 0) = true))

/-- O57, what starts a retrain. -/
theorem retrainTrigger_effect (hl : Live s) (x : Nat) :
    let u := advance x s
    let due : Prop := cistServes s = true ∧ s.cistern.retrain = none ∧
      ((∃ d, retrainInt s = some d ∧ s.cistern.rtT + d ≤ u.now) ∨
      (rfld s aDDRC_FAILS 1 0 = 0 ∧ zeroIs1 (rfld s aDDRC_RTCFG 7 0) ≤ (ddrTemp s - s.cistern.trainTemp).natAbs))
    (due → Runs (.retrainTrigger x) s fun t => t.cistern = { s.cistern with retrain := some ⟨u.now, 0⟩, rtT := u.now } ∧
      KeepsBut [.cistern] u t) ∧
    (¬ due → Runs (.retrainTrigger x) s fun t => t = u) := by
  intro u due
  have hc : u.cistern = s.cistern := advance_cistern x s
  have hr (a : Nat) : rget u a = rget s a := rget_advance x s a
  have htemp : ddrTemp u = ddrTemp s := by
    unfold ddrTemp rbit rfld
    rw [hr, hr, hr]
  have hint : retrainInt u = retrainInt s := by
    unfold retrainInt rfld
    rw [hr, hr]
  have hserves : cistServes u = cistServes s := by
    unfold cistServes
    rw [hc]
  have hdef : retrainTrigger x s = if retrainCalled u then retrainStart u else u := rfl
  have hcond : (retrainCalled u ∧ s.cistern.retrain = none) ↔ due := by
    unfold retrainCalled
    rw [htemp, hint, hserves, hc, rfld_of_rget_eq (hr _), rfld_of_rget_eq (hr _)]
    unfold due
    cases retrainInt s <;> simp [and_comm, and_left_comm, Nat.pos_iff_ne_zero]
  refine ⟨fun hd => runs_awake hl rfl ?_, fun hd => runs_awake hl rfl ?_⟩
  · obtain ⟨h1, h3⟩ := hcond.2 hd
    rw [hdef, if_pos h1]
    rw [show retrainStart u = setCist _ u from if_neg (by rw [hc, h3]; simp)]
    refine ⟨?_, ((Within.refl [.cistern] (fun _ => False) u).setCist _).1⟩
    show { u.cistern with retrain := some ⟨u.now, 0⟩, rtT := u.now } = _
    rw [hc]
  · rw [hdef]
    by_cases h : retrainCalled u
    · rw [if_pos h]
      refine if_pos ?_
      by_contra hno
      rw [hc] at hno
      exact hd (hcond.1 ⟨h, by simpa using hno⟩)
    · exact if_neg h

/-! ### O57: the slices, the end and the abort of a retrain -/

theorem owed_all_iff : s.cistern.owed.all (fun n => decide (n < 8)) = true ↔ ∀ n ∈ s.cistern.owed, n < 8 := by
  simp [List.all_eq_true]

/-- O57, a slice. -/
theorem retrainSlice_effect (hl : Live s) {r : Retrain} (hr : s.cistern.retrain = some r) :
    let due : Prop := r.slices < slicesAll s ∧ ∀ n ∈ s.cistern.owed, n < 8
    (due → Runs .retrainSlice s fun t => t.cistern = { s.cistern with retrain := some ⟨r.start, r.slices + 1⟩ } ∧
      KeepsBut [.cistern] s t) ∧
    (¬ due → Runs .retrainSlice s fun t => t = s) := by
  have hdef : retrainSlice s = if r.slices < slicesAll s ∧ s.cistern.owed.all (fun n => decide (n < 8)) then
      setCist { s.cistern with retrain := some { r with slices := r.slices + 1 } } s else s := by
    unfold retrainSlice
    rw [hr]
  refine ⟨fun ⟨h1, h2⟩ => runs_awake hl rfl ?_, fun hno => runs_awake hl rfl ?_⟩
  · rw [hdef, if_pos ⟨h1, owed_all_iff.2 h2⟩]
    exact ⟨rfl, ((Within.refl [.cistern] (fun _ => False) s).setCist _).1⟩
  · exact hdef.trans (if_neg fun ⟨h1, h2⟩ => hno ⟨h1, owed_all_iff.1 h2⟩)

/-- O57, the abort. -/
theorem retrainAbort_effect (hs : Canonical s) (hl : Live s) {r : Retrain} (hr : s.cistern.retrain = some r) :
    (r.start + secPs ≤ s.now → Runs .retrainAbort s fun t => t.cistern = { s.cistern with retrain := none } ∧
      rget t aDDRC_RT_ABORT_CNT = rget s aDDRC_RT_ABORT_CNT + 1 ∧ KeepsBut [.regs, .cistern] s t ∧
      RegsOnly [aDDRC_RT_ABORT_CNT] s t) ∧
    (s.now < r.start + secPs → Runs .retrainAbort s fun t => t = s) := by
  have hdef : retrainAbort s = if s.now ≥ r.start + secPs then
      cnt aDDRC_RT_ABORT_CNT (setCist { s.cistern with retrain := none } s) else s := by
    unfold retrainAbort
    rw [hr]
  refine ⟨fun h => runs_awake hl rfl ?_, fun h => runs_awake hl rfl (hdef.trans (if_neg (by omega)))⟩
  rw [hdef, if_pos h]
  have hw : Within [.regs, .cistern] (· ∈ [aDDRC_RT_ABORT_CNT]) s
      (cnt aDDRC_RT_ABORT_CNT (setCist { s.cistern with retrain := none } s)) := ((Within.refl ..).setCist _).cnt _
  exact ⟨rfl, rget_rset_same hs.1 _ _, hw.1, hw.2⟩

theorem retrain_idle (hl : Live s) (hr : s.cistern.retrain = none) :
    Runs .retrainSlice s (fun t => t = s) ∧ Runs .retrainAbort s (fun t => t = s) ∧
      ∀ i : TrainIn, Runs (.retrainDone i) s fun t => t = advance i.t s := by
  refine ⟨runs_awake hl rfl (by unfold retrainSlice; rw [hr]), runs_awake hl rfl (by unfold retrainAbort; rw [hr]),
    fun i => runs_awake hl rfl ?_⟩
  unfold retrainDone
  dsimp only
  rw [advance_cistern, hr]

/-- The end of a retrain has been reported. -/
abbrev retrainReported (i : TrainIn) (s : State) : State :=
  cnt aDDRC_RT_CNT (eyesReport i.lanes (setCist { (advance i.t s).cistern with retrain := none } (advance i.t s)))

theorem retrainReported_effect (hs : Canonical s) (i : TrainIn) :
    Within [.now, .ptp, .regs, .cistern] (fun a => pageOf a = pgDDRPHY ∨ a = aDDRC_RT_CNT) s (retrainReported i s) ∧
      (∃ k, (retrainReported i s).cistern = { s.cistern with retrain := none, failMask := k }) ∧
      rget (retrainReported i s) aDDRC_RT_CNT = rget s aDDRC_RT_CNT + 1 ∧ spWf resetWord (retrainReported i s).regs =
        true := by
  set u := setCist { (advance i.t s).cistern with retrain := none } (advance i.t s) with hu
  have hu0 : Within [.now, .ptp, .regs, .cistern] (fun a => pageOf a = pgDDRPHY ∨ a = aDDRC_RT_CNT) s u :=
    ((within_advance i.t s).mono (by decide) fun _ => False.elim).setCist _
  obtain ⟨hrep, k, hc⟩ := eyesReport_effect i.lanes u
  have htidy : Tidy s.pending True (eyesReport i.lanes u) :=
      (((tidy_of_canonical hs).advance i.t).setCist _).eyesReport i.lanes
  refine ⟨(hu0.trans (hrep.mono (by decide) fun _ h => .inl h)).cnt _ (by decide) (.inr rfl), ⟨k, ?_⟩, ?_,
    (htidy.cnt aDDRC_RT_CNT 1).regs_wf⟩
  · show (eyesReport i.lanes u).cistern = _
    rw [hc, hu]
    show { (advance i.t s).cistern with retrain := none, failMask := k } = _
    rw [advance_cistern]
  · rw [retrainReported, ← hu]
    refine (rget_rset_same htidy.regs_wf _ _).trans ?_
    rw [hrep.2 _ (by unfold OnPhy; decide)]
    exact congrArg (· + 1) (rget_advance ..)

/-- A retrain with every eye wide enough: its settings wait for a refresh. -/
def retrainGood (m : List LaneEye) (u : State) : State :=
  iset pgDDRC 1 (rset aDDRC_FAILS 0 (trainedNow (setCist { u.cistern with pend := some m } u)))

/-- A retrain with an eye too narrow. -/
def retrainBad (u : State) : State := iset pgDDRC 2 (rset aDDRC_FAILS (w32 (min 3 (rfld u aDDRC_FAILS 1 0 + 1))) u)

theorem retrainGood_effect {u : State} (hwf : spWf resetWord u.regs = true) (m : List LaneEye) :
    (retrainGood m u).cistern.retrain = u.cistern.retrain ∧ (retrainGood m u).cistern.pend = some m ∧
      (retrainGood m u).cistern.st = u.cistern.st ∧ rget (retrainGood m u) aDDRC_FAILS = 0 ∧
      rbit (retrainGood m u) (aISTAT pgDDRC) 1 = true ∧ (retrainGood m u).mem = u.mem ∧
      ∀ a, a ∉ [aDDRPHY_TRAIN_TEMP, aDDRC_FAILS, aISTAT pgDDRC] → rget (retrainGood m u) a = rget u a := by
  have hw : Within [.regs, .cistern] (· ∈ [aDDRPHY_TRAIN_TEMP, aDDRC_FAILS, aISTAT pgDDRC]) u (retrainGood m u) :=
    ((((Within.refl ..).setCist _).setCist _).rset _).rset 0 |>.iset 1
  exact ⟨rfl, rfl, rfl, (rget_rset_ne _ _ (by decide)).trans (rget_rset_same (rset_regs_wf hwf _ _) _ _),
    rbit_iset_any ⟨pgDDRC, by decide⟩ (by decide) _, rfl, hw.2⟩

theorem retrainBad_effect {u : State} (hwf : spWf resetWord u.regs = true) :
    (retrainBad u).cistern = u.cistern ∧ rget (retrainBad u) aDDRC_FAILS = w32 (min 3 (rfld u aDDRC_FAILS 1 0 + 1)) ∧
      rbit (retrainBad u) (aISTAT pgDDRC) 2 = true ∧ (retrainBad u).mem = u.mem :=
  ⟨rfl, (rget_rset_ne _ _ (by decide)).trans (rget_rset_same hwf _ _), rbit_iset_any ⟨pgDDRC, by decide⟩ (by decide) _, rfl⟩

theorem retrainDone_eq {r : Retrain} (hr : s.cistern.retrain = some r) (i : TrainIn) :
    retrainDone i s = if r.slices < slicesAll s then advance i.t s
      else if (failedLanes s i.lanes).isEmpty then
        (if (retrainGood i.lanes (retrainReported i s)).cistern.st = .degraded ∧
            (rget (retrainGood i.lanes (retrainReported i s)) aDDRC_CE_CNT).toNat ≤
              rfld (retrainGood i.lanes (retrainReported i s)) aDDRC_CECFG 15 0 then
          enterNormal (retrainGood i.lanes (retrainReported i s)) else retrainGood i.lanes (retrainReported i s))
      else (if min 3 (rfld (retrainReported i s) aDDRC_FAILS 1 0 + 1) = 3 ∧
        (retrainBad (retrainReported i s)).cistern.st = .normal then
          enterDegraded (retrainBad (retrainReported i s)) else retrainBad (retrainReported i s)) := by
  have hall : slicesAll (advance i.t s) = slicesAll s := by
    unfold slicesAll ranks rbit
    rw [rget_advance]
  have hadv : (advance i.t s).cistern.retrain = some r := by rw [advance_cistern, hr]
  rw [← hall, ← failedLanes_advance i.t s]
  unfold retrainDone
  dsimp only
  rw [hadv]
  rfl

/-- O57, the end of a retrain. -/
theorem retrainDone_effect (hs : Canonical s) (hl : Live s) {r : Retrain} (hr : s.cistern.retrain = some r)
    (i : TrainIn) :
    (r.slices < slicesAll s → Runs (.retrainDone i) s fun t => t = advance i.t s) ∧
    (slicesAll s ≤ r.slices →
      (eyesGood s i → Runs (.retrainDone i) s fun t => t.cistern.retrain = none ∧ t.cistern.pend = some i.lanes ∧
        rget t aDDRC_FAILS = 0 ∧ rget t aDDRC_RT_CNT = rget s aDDRC_RT_CNT + 1 ∧ rbit t (aISTAT pgDDRC) 1 = true ∧
          t.mem = s.mem ∧
        t.cistern.st = (if s.cistern.st = .degraded ∧ (rget s aDDRC_CE_CNT).toNat ≤ rfld s aDDRC_CECFG 15 0 then .normal
          else s.cistern.st)) ∧
      (¬ eyesGood s i → Runs (.retrainDone i) s fun t => t.cistern.retrain = none ∧ t.cistern.pend = s.cistern.pend ∧
        rget t aDDRC_FAILS = w32 (min 3 (rfld s aDDRC_FAILS 1 0 + 1)) ∧ rbit t (aISTAT pgDDRC) 2 = true ∧ t.mem =
          s.mem ∧
        t.cistern.st = (if s.cistern.st = .normal ∧ 2 ≤ rfld s aDDRC_FAILS 1 0 then .degraded else s.cistern.st))) := by
  obtain ⟨hw, ⟨k, hc⟩, hcnt, hwf⟩ := retrainReported_effect hs i
  have hdef := retrainDone_eq hr i
  generalize retrainReported i s = u at hw hc hcnt hwf hdef
  have hmem : u.mem = s.mem := hw.1 .mem (by decide)
  obtain ⟨hret, hpend, hst⟩ : u.cistern.retrain = none ∧ u.cistern.pend = s.cistern.pend ∧ u.cistern.st =
    s.cistern.st := by
    rw [hc]
    exact ⟨rfl, rfl, rfl⟩
  refine ⟨fun h => runs_awake hl rfl (hdef.trans (if_pos h)), fun hle =>
    ⟨fun he => runs_awake hl rfl ?_, fun he => runs_awake hl rfl ?_⟩⟩
  · obtain ⟨h1, h2, h3, h4, h5, h6, h7⟩ := retrainGood_effect hwf i.lanes
    generalize retrainGood i.lanes u = g at hdef h1 h2 h3 h4 h5 h6 h7
    have hcfg : rget g aDDRC_CECFG = rget s aDDRC_CECFG := (h7 _ (by decide)).trans (hw.2 _ (by decide))
    have hrt : rget g aDDRC_RT_CNT = rget s aDDRC_RT_CNT + 1 := (h7 _ (by decide)).trans hcnt
    rw [hdef, if_neg (by omega), if_pos (by rw [he]; rfl), h3, hst, h7 aDDRC_CE_CNT (by decide), hw.2 aDDRC_CE_CNT (by decide),
      rfld_of_rget_eq hcfg]
    split
    · obtain ⟨-, hn, ⟨back, hcn⟩, -, hkeep, hwn⟩ := enterNormal_effect g
      exact ⟨by rw [hcn]; exact h1.trans hret, by rw [hcn]; exact h2, (hwn.2 _ (by decide)).trans h4, (hwn.2 _ (by decide)).trans hrt,
        hkeep _ h5, Eq.trans (hwn.1 .mem (by decide)) (h6.trans hmem), hn⟩
    · exact ⟨h1.trans hret, h2, h4, hrt, h5, h6.trans hmem, h3.trans hst⟩
  · obtain ⟨h1, h2, h3, h4⟩ := retrainBad_effect hwf
    generalize retrainBad u = g at hdef h1 h2 h3 h4
    have hf : rfld u aDDRC_FAILS 1 0 = rfld s aDDRC_FAILS 1 0 := rfld_of_rget_eq (hw.2 _ (by decide)) _ _
    have hcond : (min 3 (rfld s aDDRC_FAILS 1 0 + 1) = 3 ∧ s.cistern.st = .normal) ↔
        (s.cistern.st = .normal ∧ 2 ≤ rfld s aDDRC_FAILS 1 0) := by
      rw [and_comm]
      refine and_congr_right fun _ => ?_
      omega
    rw [hdef, if_neg (by omega), if_neg (by rw [List.isEmpty_iff]; exact he), h1, hst, hf]
    rw [hf] at h2
    by_cases h : s.cistern.st = .normal ∧ 2 ≤ rfld s aDDRC_FAILS 1 0
    · rw [if_pos (hcond.2 h), if_pos h]
      obtain ⟨hd, ⟨segs, rsv, back, hcn⟩, hkeep, hn⟩ := enterDegraded_effect g
      rw [h1] at hcn
      exact ⟨by rw [hcn]; exact hret, by rw [hcn]; exact hpend, (hn.2 _ (by unfold degradeAddr; decide)).trans h2, hkeep _ h3,
        Eq.trans (hn.1 .mem (by decide)) (h4.trans hmem), hd⟩
    · rw [if_neg fun h' => h (hcond.1 h'), if_neg h]
      exact ⟨by rw [h1]; exact hret, by rw [h1]; exact hpend, h2, h3, h4.trans hmem, by rw [h1]; exact hst⟩

/-! The window of correctable errors -/

theorem within_portBw (m : List (Nat × Nat)) {l : List Part} {A : Nat → Prop} {t : State} (h : Within l A s t)
    (hl : .regs ∈ l)
    (hA : ∀ a, aDDRC_PORTBW 0 ≤ a → A a) :
    Within l A s (m.foldl (fun s x => rset (aDDRC_PORTBW x.2) (w32 (x.1 / 1024)) s) t) :=
  h.foldl fun _ hu x _ => hu.rset _ hl (hA _ (by unfold aDDRC_PORTBW; omega))

theorem cistern_portBw (m : List (Nat × Nat)) (t : State) :
    (m.foldl (fun s x => rset (aDDRC_PORTBW x.2) (w32 (x.1 / 1024)) s) t).cistern = t.cistern :=
  List.foldlRecOn (motive := fun u : State => u.cistern = t.cistern) _ _ rfl fun _ hu _ _ => hu

theorem retrainStart_effect (t : State) : (retrainStart t).cistern.retrain.isSome = true ∧
    (∃ rt x, (retrainStart t).cistern = { t.cistern with retrain := rt, rtT := x }) ∧ (retrainStart t).regs =
      t.regs := by
  unfold retrainStart
  split
  · exact ⟨‹_›, ⟨_, _, rfl⟩, rfl⟩
  · exact ⟨rfl, ⟨_, _, rfl⟩, rfl⟩

/-- What the count of a window that is over calls for. -/
def windowJudged (over_ : Bool) (u : State) : State :=
  if over_ then
    let s4 := if (iset pgDDRC 7 u).cistern.st = .normal then enterDegraded (iset pgDDRC 7 u) else iset pgDDRC 7 u
    if cistServes s4 then retrainStart s4 else s4
  else u

theorem windowJudged_over (u : State) : (windowJudged true u).cistern.ceNow = u.cistern.ceNow ∧
    (windowJudged true u).cistern.ceT = u.cistern.ceT ∧
    (∀ a, a ≠ aISTAT pgDDRC → ¬ degradeAddr a → rget (windowJudged true u) a = rget u a) ∧
    (u.cistern.st = .normal → (windowJudged true u).cistern.st = .degraded) ∧
    (cistServes u = true → (windowJudged true u).cistern.retrain.isSome = true) ∧
    rbit (windowJudged true u) (aISTAT pgDDRC) 7 = true := by
  set s3 := iset pgDDRC 7 u with hs3
  have hbit : rbit s3 (aISTAT pgDDRC) 7 = true := rbit_iset_any ⟨pgDDRC, by decide⟩ (by decide) _
  set s4 := if s3.cistern.st = .normal then enterDegraded s3 else s3 with hs4
  have h4 : s4.cistern.ceNow = u.cistern.ceNow ∧ s4.cistern.ceT = u.cistern.ceT ∧
      (∀ a, a ≠ aISTAT pgDDRC → ¬ degradeAddr a → rget s4 a = rget u a) ∧
        (u.cistern.st = .normal → s4.cistern.st = .degraded) ∧
      (cistServes u = true → cistServes s4 = true) ∧ rbit s4 (aISTAT pgDDRC) 7 = true := by
    rw [hs4]
    split
    · next hn =>
      obtain ⟨hst, ⟨segs, rsv, back, hc⟩, hkeep, hw⟩ := enterDegraded_effect s3
      refine ⟨by rw [hc]; rfl, by rw [hc]; rfl, fun a ha hda => ?_, fun _ => hst, fun _ => ?_, hkeep _ hbit⟩
      · exact (hw.2 a fun h => h.elim hda ha).trans (rget_iset_ne _ _ _ ha)
      · unfold cistServes
        rw [hst]
        rfl
    · next hn => exact ⟨rfl, rfl, fun a ha _ => rget_iset_ne _ _ _ ha, fun h => absurd h hn, id, hbit⟩
  obtain ⟨h1, h2, h3, h5, h6, h7⟩ := h4
  have hdef : windowJudged true u = if cistServes s4 then retrainStart s4 else s4 := rfl
  rw [hdef]
  obtain ⟨hsome, ⟨rt, x, hc⟩, hregs⟩ := retrainStart_effect s4
  split
  · have hget (a : Nat) : rget (retrainStart s4) a = rget s4 a := congrArg (spGet resetWord · a) hregs
    exact ⟨by rw [hc]; exact h1, by rw [hc]; exact h2, fun a ha hda => (hget a).trans (h3 a ha hda), fun h => by rw [hc]; exact h5 h,
      fun _ => hsome, (congrArg (bit · 7) (hget _)).trans h7⟩
  · next hno => exact ⟨h1, h2, h3, h5, fun h => absurd (h6 h) hno, h7⟩

/-- O57, the window. -/
theorem ceWindowEnd_effect (hs : Canonical s) (hl : Live s) :
    let due : Prop := s.cistern.st ≠ .off ∧ s.cistern.ceT + secPs ≤ s.now
    (due → Runs .ceWindowEnd s fun t => t.cistern.ceNow = 0 ∧ t.cistern.ceT = s.now ∧ rget t aDDRC_CE_CNT = satW 16
      s.cistern.ceNow ∧
      (rfld s aDDRC_CECFG 15 0 < s.cistern.ceNow → rbit t (aISTAT pgDDRC) 7 = true ∧
        (s.cistern.st = .normal → t.cistern.st = .degraded) ∧ (cistServes s = true → t.cistern.retrain.isSome = true)) ∧
      (s.cistern.ceNow ≤ rfld s aDDRC_CECFG 15 0 → t.cistern.st = s.cistern.st ∧ t.cistern.retrain = s.cistern.retrain ∧
        KeepsBut [.regs, .cistern] s t)) ∧
    (¬ due → Runs .ceWindowEnd s fun t => t = s) := by
  set s1 := rset aDDRC_CE_CNT (satW 16 s.cistern.ceNow)
    (setCist { s.cistern with ceNow := 0, ceT := s.now, bw := List.replicate 8 0 } s) with hs1
  have hw1 : Within [.regs, .cistern] (fun a => a = aDDRC_CE_CNT) s s1 := ((Within.refl ..).setCist _).rset _
      (by decide) rfl
  have hbw := within_portBw s.cistern.bw.zipIdx (A := fun a => aDDRC_PORTBW 0 ≤ a)
      (Within.refl [.regs, .cistern] _ s1) (by decide)
    fun _ h => h
  have hcb := cistern_portBw s.cistern.bw.zipIdx s1
  have hdef : ceWindowEnd s = if s.cistern.st = .off ∨ s.now < s.cistern.ceT + secPs then s
      else windowJudged (decide (s.cistern.ceNow > rfld s aDDRC_CECFG 15 0))
        (s.cistern.bw.zipIdx.foldl (fun s x => rset (aDDRC_PORTBW x.2) (w32 (x.1 / 1024)) s) s1) := by
    by_cases h : s.cistern.ceNow > rfld s aDDRC_CECFG 15 0
    · rw [decide_eq_true h]
      unfold ceWindowEnd
      dsimp only
      rw [if_pos h]
      rfl
    · rw [decide_eq_false h]
      unfold ceWindowEnd
      dsimp only
      rw [if_neg h]
      rfl
  generalize s.cistern.bw.zipIdx.foldl (fun s x => rset (aDDRC_PORTBW x.2) (w32 (x.1 / 1024)) s) s1 = u at hbw hcb hdef
  have hcnt : rget u aDDRC_CE_CNT = satW 16 s.cistern.ceNow := (hbw.2 _ (by decide)).trans (rget_rset_same hs.1 _ _)
  refine ⟨fun ⟨h1, h2⟩ => runs_awake hl rfl ?_, fun hno => runs_awake hl rfl (hdef.trans (if_pos ?_))⟩
  · rw [hdef, if_neg fun h => h.elim h1 (by omega)]
    by_cases hn : s.cistern.ceNow > rfld s aDDRC_CECFG 15 0
    · rw [decide_eq_true hn]
      obtain ⟨h3, h4, h5, h6, h7, h8⟩ := windowJudged_over u
      rw [hcb] at h3 h4 h6 
      exact ⟨h3, h4, (h5 _ (by decide) (by unfold degradeAddr; decide)).trans hcnt, fun _ => ⟨h8, h6, fun hsv => h7 (by unfold cistServes at hsv ⊢; rw [hcb]; exact hsv)⟩,
        fun hle => absurd hn (by omega)⟩
    · rw [decide_eq_false hn]
      rw [show windowJudged false u = u from rfl, hcb]
      refine ⟨rfl, rfl, hcnt, fun h => absurd h hn, fun _ => ⟨rfl, rfl, ?_⟩⟩
      · exact ((hw1.mono (by decide) fun _ _ => trivial).trans (hbw.mono (B := fun _ => True) (by decide) fun _ _ => trivial)).1
  · by_contra hc
    simp only [not_or] at hc
    exact hno ⟨hc.1, by omega⟩

/-! ### O57: the reserve -/

/-- The registers that a staged read may write. -/
def StageAddr (a : Nat) : Prop := pageOf a ∈ eccPages ∨ a ∈ [aISTAT pgDDRC, aDDRC_STAGE_MISS_CNT]

abbrev stageParts : List Part := [.mem] ++ eccParts

theorem fetchRoom_stage : FetchRoom stageParts StageAddr := ⟨by decide, fun _ h => .inl h⟩

section
variable {t : State} (h : Fetched stageParts StageAddr s t)
include h

theorem Fetched.stageMiss : Fetched stageParts StageAddr s (stageMiss t) := by
  have hset {a : Nat} {u : State} (hu : Fetched stageParts StageAddr s u) (v : Word)
      (ha : a ∈ [aISTAT pgDDRC, aDDRC_STAGE_MISS_CNT])
      (hn : aINTC_ALMSRC ≠ a) : Fetched stageParts StageAddr s (Machine.rset a v u) :=
    ⟨hu.within.rset v (by decide) (.inr ha), fun i hi => (congrArg (bit · i) (rget_rset_ne u v hn)).trans (hu.alarms i hi), hu.cistern⟩
  exact hset (hset h _ (by decide) (by decide)) _ (by decide) (by decide)

theorem Fetched.stWord (a : Nat) (v : Word) : Fetched stageParts StageAddr s (stWord a v t) :=
  (h.parts (ps := [.mem]) (by decide) (u := wrWord a v t)
    fun p hp => by cases p <;> first | rfl | exact absurd (by decide) hp).freshen fetchRoom_stage a

theorem Fetched.dmaRead (a : Nat) : Fetched stageParts StageAddr s (dmaRead a t).2 := by
  have hread := h.eccRead fetchRoom_stage a fun _ => by decide
  unfold Machine.dmaRead
  split
  · exact h
  · dsimp only
    split
    · exact hread.stageMiss
    · exact hread

theorem Fetched.lineFetch (l : DLine) (d j : Nat) : Fetched stageParts StageAddr s (lineFetch l d j t).2 := by
  unfold Machine.lineFetch
  extract_lets e f inRsv r1 r2
  split
  · exact h
  · split
    · split
      · exact h
      · exact h.dmaRead _
    · split
      · exact h
      · split
        · show Fetched stageParts StageAddr s (if inRsv = true then t else Machine.stageMiss t)
          exact .ite h h.stageMiss
        · have hf : Fetched stageParts StageAddr s r2.2.1 := h.cistFetch fetchRoom_stage _ _ _
          split
          · exact hf.stageMiss
          · exact hf

end

/-- The class A lines have moved to the reserve. -/
def rsvMoved (share f : Nat) (copied : Bool) (l : DLine) : DLine :=
  if isClassA l then
    { l with
      rsvFrom := if copied then max l.from_ (f - min (dDelay (lineWords l)) share) else f
      points := if dDelay (lineWords l) > share then l.points ++ [(share, f)] else l.points }
  else l

/-- The samples of the class A lines have been copied. -/
def rsvCopied (share f : Nat) (s1 : State) (ls : List DLine) : State :=
  ls.foldl (fun s l =>
    (List.range (min (dDelay (lineWords l)) share)).foldl (fun s i =>
      if f + i < min (dDelay (lineWords l)) share ∨ share = 0 then s
      else stWord (rsvBase s l.i + 4 * ((f + i - min (dDelay (lineWords l)) share) % share))
        (i32 (lineFetch l (min (dDelay (lineWords l)) share - i) f s).1)
          (lineFetch l (min (dDelay (lineWords l)) share - i) f s).2) s) s1

theorem fetched_rsvCopied (share f : Nat) (t : State) (ls : List DLine) :
    Fetched stageParts StageAddr t (rsvCopied share f t ls) :=
  .foldl (fun _ _ hu => .foldl (fun _ _ hv => .ite hv ((hv.lineFetch ..).stWord ..)) _ hu) _ (.refl ..)

theorem shareNow_eq (s : State) : (if (classALines s).isEmpty then 0 else 65536 / (classALines s).length) = shareNow
    s := by
  unfold shareNow
  simp only [List.isEmpty_iff]

/-- The state in which the lines have moved to the reserve, before the report. -/
def rsvEntered (s : State) : State :=
  let s2 := if cistServes s then rsvCopied (shareNow s) s.tb.frame (rset aDDRC_RSV_SHARE (w32 (shareNow s)) s)
    (classALines s)
    else rset aDDRC_RSV_SHARE (w32 (shareNow s)) s
  setCist { s2.cistern with
    reserve := true, rsvAt := none, lines := s2.cistern.lines.map (rsvMoved (shareNow s) s.tb.frame (cistServes s)) } s2

theorem rsvEnter_eq (s : State) : rsvEnter s =
    if (classALines s).any (fun l => decide (dDelay (lineWords l) > shareNow s)) then iset pgDDRC 6 (rsvEntered s)
      else rsvEntered s := by
  unfold rsvEnter rsvEntered
  dsimp only
  rw [shareNow_eq]
  by_cases h : cistServes s = true
  · simp only [h, not_true_eq_false, if_false, if_true]
    rfl
  · simp only [h]
    rfl

theorem rsvEntered_effect (hs : Canonical s) : (rsvEntered s).cistern.reserve = true ∧ (rsvEntered s).cistern.rsvAt =
    none ∧
    rget (rsvEntered s) aDDRC_RSV_SHARE = w32 (shareNow s) ∧
    (rsvEntered s).cistern.lines = s.cistern.lines.map (rsvMoved (shareNow s) s.tb.frame (cistServes s)) := by
  have hget := rget_rset_same hs.1 aDDRC_RSV_SHARE (w32 (shareNow s))
  have hcopy := fetched_rsvCopied (shareNow s) s.tb.frame (rset aDDRC_RSV_SHARE (w32 (shareNow s)) s) (classALines s)
  obtain ⟨_, _, _, _, hc⟩ := hcopy.cistern
  refine ⟨rfl, rfl, ?_, ?_⟩
  · show rget (if cistServes s then rsvCopied _ _ _ _ else _) _ = _
    split
    · exact (hcopy.within.2 _ (by unfold StageAddr; decide)).trans hget
    · exact hget
  · show List.map _ (if cistServes s then rsvCopied _ _ _ _ else rset _ _ s).cistern.lines = _
    congr 1
    split
    · rw [hc]
      rfl
    · rfl

/-- O57, the moves to and from the reserve. -/
theorem reserveMove_effect (hs : Canonical s) (hl : Live s) :
    let may (f : Nat) : Prop := f ≤ s.tb.frame ∧ isBlock s s.tb.frame = true
    (∀ f, s.cistern.rsvAt = some f → may f → Runs .reserveMove s fun t => t.cistern.reserve = true ∧ t.cistern.rsvAt
      = none ∧
      rget t aDDRC_RSV_SHARE = w32 (shareNow s) ∧
      ∀ l ∈ classALines s, shareNow s < dDelay (lineWords l) → rbit t (aISTAT pgDDRC) 6 = true ∧
        ∃ m ∈ t.cistern.lines, m.i = l.i ∧ m.points = l.points ++ [(shareNow s, s.tb.frame)]) ∧
    (∀ f, s.cistern.rsvAt = none → s.cistern.backAt = some f → may f → Runs .reserveMove s fun t => t.cistern.reserve
      = false ∧
      t.cistern.backAt = none ∧ rget t aDDRC_RSV_SHARE = 0 ∧ KeepsBut [.regs, .cistern] s t ∧ RegsOnly
        [aDDRC_RSV_SHARE] s t ∧
      ∀ l ∈ classALines s, rsvShare s < dDelay (lineWords l) →
        ∃ m ∈ t.cistern.lines, m.i = l.i ∧ m.points = l.points ++ [(dDelay (lineWords l), s.tb.frame)]) ∧
    (∀ f, s.cistern.rsvAt = some f → ¬ may f → Runs .reserveMove s fun t => t = s) ∧
    (∀ f, s.cistern.rsvAt = none → s.cistern.backAt = some f → ¬ may f → Runs .reserveMove s fun t => t = s) ∧
    (s.cistern.rsvAt = none → s.cistern.backAt = none → Runs .reserveMove s fun t => t = s) := by
  have henter (f : Nat) (h : s.cistern.rsvAt = some f) :
      reserveMove s = if s.tb.frame ≥ f ∧ isBlock s s.tb.frame then rsvEnter s else s := by
    unfold reserveMove
    rw [h]
  have hleave (f : Nat) (h : s.cistern.rsvAt = none) (h' : s.cistern.backAt = some f) :
      reserveMove s = if s.tb.frame ≥ f ∧ isBlock s s.tb.frame then rsvLeave s else s := by
    unfold reserveMove
    rw [h, h']
  refine ⟨fun f h hm => runs_awake hl rfl ?_, fun f h h' hm => runs_awake hl rfl ?_,
    fun f h hm => runs_awake hl rfl ((henter f h).trans (if_neg hm)), fun f h h' hm => runs_awake hl rfl
      ((hleave f h h').trans (if_neg hm)),
    fun h h' => runs_awake hl rfl (by unfold reserveMove; rw [h, h'])⟩
  · rw [henter f h, if_pos hm, rsvEnter_eq]
    obtain ⟨h1, h2, h3, h4⟩ := rsvEntered_effect hs
    have hline (l : DLine) (hlm : l ∈ classALines s) (hd : shareNow s < dDelay (lineWords l)) :
        ∃ m ∈ (rsvEntered s).cistern.lines, m.i = l.i ∧ m.points = l.points ++ [(shareNow s, s.tb.frame)] := by
      obtain ⟨hmem, hcls⟩ := List.mem_filter.1 hlm
      refine ⟨rsvMoved (shareNow s) s.tb.frame (cistServes s) l, by rw [h4]; exact List.mem_map_of_mem hmem, ?_, ?_⟩
      · simp [rsvMoved, hcls]
      · simp [rsvMoved, hcls, hd]
    split
    · exact ⟨h1, h2, (rget_iset_ne _ _ _ (by decide)).trans h3, fun l hlm hd =>
        ⟨rbit_iset_any ⟨pgDDRC, by decide⟩ (by decide) _, hline l hlm hd⟩⟩
    · next hno =>
      refine ⟨h1, h2, h3, fun l hlm hd => absurd ?_ hno⟩
      exact List.any_eq_true.2 ⟨l, hlm, by simpa using hd⟩
  · rw [hleave f h h', if_pos hm]
    have hw : Within [.regs, .cistern] (· ∈ [aDDRC_RSV_SHARE]) s (rsvLeave s) := ((Within.refl ..).setCist _).rset _
    refine ⟨rfl, rfl, rget_rset_same hs.1 _ _, hw.1, hw.2, fun l hlm hd => ?_⟩
    obtain ⟨hmem, hcls⟩ := List.mem_filter.1 hlm
    refine ⟨_, List.mem_map_of_mem hmem, ?_, ?_⟩
    · simp [hcls, hd]
    · simp [hcls, hd]

/-! ### O57: shed steps, refreshes, rows -/

/-- O57, the withdrawal of a shed step. -/
theorem shedWithdraw_effect (hl : Live s) :
    let due : Prop := shedNeed s < s.shed ∧ shedLast s s.shed + secPs ≤ s.now
    (due → Runs .shedWithdraw s fun t => t.shed = s.shed - 1 ∧ KeepsBut [.shed] s t) ∧
    (¬ due → Runs .shedWithdraw s fun t => t = s) := by
  refine ⟨fun hd => runs_awake hl rfl ?_, fun hd => runs_awake hl rfl (if_neg hd)⟩
  rw [show shedWithdraw s = { s with shed := s.shed - 1 } from if_pos hd]
  exact ⟨rfl, fun p hp => by cases p <;> first | rfl | exact absurd (by decide) hp⟩

/-- The count of owed refreshes of a rank is set. -/
def owedSet (r n : Nat) (s : State) : State :=
  rset aDDRC_REF_OWED (fld ((s.cistern.owed.set r n).getD 1 0) 4 ||| fld ((s.cistern.owed.set r n).getD 0 0) 0)
    (setCist { s.cistern with owed := s.cistern.owed.set r n } s)

/-- A refresh closes the rows of its rank, and settings that waited for it are put in use. -/
def rankShut (r : Nat) (s : State) : State :=
  let s1 := setCist { s.cistern with
    banks := s.cistern.banks.mapIdx fun i b => if i / 16 = r then { b with opn := false } else b, pend := none } s
  match s.cistern.pend with
  | some l => putDlys l s1
  | none => s1

theorem dramRefresh_eq (r : Fin 2) (u : Fin 4) (s : State) : dramRefresh r u s =
    if ¬ cistServes s ∨ r.val ≥ ranks s then s
    else if u ≥ 2 ∧ s.cistern.owed.getD r.val 0 < 8 then owedSet r.val (s.cistern.owed.getD r.val 0 + 1) s
    else owedSet r.val (if u = 0 then 0 else s.cistern.owed.getD r.val 0) (rankShut r.val s) := rfl

theorem rankShut_effect (r : Nat) (s : State) : Within [.regs, .cistern] (fun _ => True) s (rankShut r s) ∧
    (rankShut r s).cistern = { s.cistern with
      banks := s.cistern.banks.mapIdx fun i b => if i / 16 = r then { b with opn := false } else b, pend := none } := by
  have h1 : Within [.regs, .cistern] (fun _ => True) s (setCist { s.cistern with
      banks := s.cistern.banks.mapIdx fun i b => if i / 16 = r then { b with opn := false } else b, pend := none } s) :=
    (Within.refl ..).setCist _
  unfold rankShut
  dsimp only
  split
  · exact ⟨within_putDlys _ h1 (by decide) fun _ _ => trivial, cistern_putFold _ _ _ _⟩
  · exact ⟨h1, rfl⟩

/-- O57, a refresh. -/
theorem dramRefresh_effect (hl : Live s) (r : Fin 2) (u : Fin 4) :
    (cistServes s = true → r.val < ranks s → 2 ≤ u.val → s.cistern.owed.getD r.val 0 < 8 → Runs (.dramRefresh r u) s
      fun t =>
      t.cistern = { s.cistern with owed := s.cistern.owed.set r.val (s.cistern.owed.getD r.val 0 + 1) } ∧ KeepsBut
        [.regs, .cistern] s t ∧
      RegsOnly [aDDRC_REF_OWED] s t) ∧
    (cistServes s = true → r.val < ranks s → u.val < 2 ∨ 8 ≤ s.cistern.owed.getD r.val 0 → Runs (.dramRefresh r u) s
      fun t =>
      t.cistern.pend = none ∧ (∀ i b, i / 16 = r.val → t.cistern.banks[i]? = some b → b.opn = false) ∧
      (∀ i, i / 16 ≠ r.val → t.cistern.banks[i]? = s.cistern.banks[i]?) ∧ KeepsBut [.regs, .cistern] s t ∧
      t.cistern.owed = s.cistern.owed.set r.val (if u = 0 then 0 else s.cistern.owed.getD r.val 0) ∧ t.cistern.st =
        s.cistern.st) ∧
    (cistServes s = false ∨ ranks s ≤ r.val → Runs (.dramRefresh r u) s fun t => t = s) := by
  have hserve (h1 : cistServes s = true) (h2 : r.val < ranks s) : ¬ (¬ cistServes s = true ∨ r.val ≥ ranks s) := by
    simp only [h1, not_true_eq_false, false_or]
    omega
  have hu : u ≥ 2 ↔ 2 ≤ u.val := Iff.rfl
  refine ⟨fun h1 h2 h3 h4 => runs_awake hl rfl ?_, fun h1 h2 h3 => runs_awake hl rfl ?_, fun h => runs_awake hl rfl ?_⟩
  · rw [dramRefresh_eq, if_neg (hserve h1 h2), if_pos ⟨h3, h4⟩]
    have hw : Within [.regs, .cistern] (· ∈ [aDDRC_REF_OWED]) s (owedSet r.val (s.cistern.owed.getD r.val 0 + 1) s) :=
      ((Within.refl ..).setCist _).rset _
    exact ⟨rfl, hw.1, hw.2⟩
  · obtain ⟨hw, hc⟩ := rankShut_effect r.val s
    rw [dramRefresh_eq, if_neg (hserve h1 h2), if_neg fun h => by rw [hu] at h; omega]
    generalize rankShut r.val s = v at hw hc
    have hput : (owedSet r.val (if u = 0 then 0 else s.cistern.owed.getD r.val 0) v).cistern =
        { v.cistern with owed := v.cistern.owed.set r.val (if u = 0 then 0 else s.cistern.owed.getD r.val 0) } := rfl
    have hall : Within [.regs, .cistern] (fun _ => True) s (owedSet r.val
        (if u = 0 then 0 else s.cistern.owed.getD r.val 0) v) :=
      (hw.setCist _).rset _ (by decide) trivial
    rw [hput, hc]
    refine ⟨rfl, fun i b hi hb => ?_, fun i hi => ?_, hall.1, rfl, rfl⟩
    · simp only [List.getElem?_mapIdx, Option.map_eq_some_iff] at hb
      obtain ⟨c, -, rfl⟩ := hb
      rw [if_pos hi]
    · simp only [List.getElem?_mapIdx, if_neg hi, Option.map_id']
  · rw [dramRefresh_eq]
    exact if_pos (h.imp (by simp) id)

/-- O57, the time-out of a row. -/
theorem rowCloseTimeout_effect (hl : Live s) (k : Fin 32) :
    let due (b : BankSt) : Prop := s.cistern.banks[k.val]? = some b ∧ b.opn = true ∧ b.t + 2000000 ≤ s.now
    (∀ b, due b → Runs (.rowCloseTimeout k) s fun t =>
      t.cistern = { s.cistern with banks := s.cistern.banks.set k.val { b with opn := false } } ∧ KeepsBut [.cistern]
        s t) ∧
    ((∀ b, ¬ due b) → Runs (.rowCloseTimeout k) s fun t => t = s) := by
  refine ⟨fun b ⟨h1, h2, h3⟩ => runs_awake hl rfl ?_, fun hno => runs_awake hl rfl ?_⟩
  · have hb : s.cistern.banks.getD k.val ⟨2, 0, false, 0⟩ = b := by rw [List.getD_eq_getElem?_getD, h1]; rfl
    have hdef : rowCloseTimeout k s = setCist
        { s.cistern with banks := s.cistern.banks.set k.val { b with opn := false } } s := by
      unfold rowCloseTimeout
      rw [hb]
      exact if_pos ⟨h2, h3⟩
    rw [hdef]
    exact ⟨rfl, ((Within.refl [.cistern] (fun _ => False) s).setCist _).1⟩
  · refine if_neg fun ⟨h2, h3⟩ => ?_
    rw [List.getD_eq_getElem?_getD] at h2 h3
    cases hb : s.cistern.banks[k.val]? with
    | none => rw [hb] at h2; exact absurd h2 (by decide)
    | some b => rw [hb] at h2 h3; exact hno b ⟨hb, h2, h3⟩

/-! ### O57: commits of delay lines -/

theorem blockRefuse_ddrc_dly {a : Nat} (hp : pageOf a = pgDDRC) (ho : offOf a = 0x144) (l : Nat) (old new v : Word) :
    blockRefuse s true l a old new v =
      (if ¬ isSolo s then refuse 4 a
      else if bit v 0 then
        match dlyRefuse s (rfld s aDDRC_DLY_SEL 9 0) ((List.range 5).map fun k => heldReg s (aDDRC_DLY_ENTRY k)) with
        | some c => refuse c (rfld s aDDRC_DLY_SEL 9 0) [0]
        | none => none
      else none) := by
  unfold blockRefuse
  rw [hp, ho]
  simp [pgDDRC, pgDPLL, pgCLKGEN, pgPLLM, pgTIMEBASE, pgGALLEY, pgTWIN, pgMATRIX] <;> rfl

theorem pageAct_ddrc_dly {a : Nat} (hp : pageOf a = pgDDRC) (ho : offOf a = 0x144) (direct : Bool) (tk : Option Word)
    (l : Nat)
    (old new v : Word) (t : State) :
    pageAct direct tk l a old new v t = (if bit v 0 then dlyCommit direct t else t, false) := by
  unfold pageAct
  rw [hp, ho]
  simp [pgDDRC, pgDPLL, pgPROT, pgCLKGEN, pgPLLM, pgTIMEBASE, pgGALLEY, pgTWIN, pgHOSTIF]

theorem lineOf_rset (a : Nat) (v : Word) (i : Nat) : lineOf (rset a v s) i = lineOf s i := rfl

/-- The check of an entry does not read the commit register. -/
theorem dlyRefuse_rset (v : Word) (i : Nat) (e : List Word) : dlyRefuse (rset aDDRC_DLY_COMMIT v s) i e = dlyRefuse s
    i e := by
  have hne {a : Nat} (h : a ≠ aDDRC_DLY_COMMIT) : rget (rset aDDRC_DLY_COMMIT v s) a = rget s a := rget_rset_ne _ _ h
  have hn : blockN (rset aDDRC_DLY_COMMIT v s) = blockN s := by
    unfold blockN rfld
    rw [hne (by decide)]
  have hb : cistBytes (rset aDDRC_DLY_COMMIT v s) = cistBytes s := by
    unfold cistBytes rankBytes ranks rbit rfld
    rw [hne (by decide)]
  have hst (x y : Nat) : meetsStore (rset aDDRC_DLY_COMMIT v s) x y = meetsStore s x y := by
    unfold meetsStore dirEntry rfld
    rw [hne (by decide), hne (by decide)]
    rfl
  unfold dlyRefuse
  dsimp only
  rw [hn, hb]
  simp only [hst]
  rfl

theorem code_of_ite {p q : Prop} [Decidable p] [Decidable q] {c : Nat}
    (h : (if p then some 2 else if q then none else some 1) = some c) : c = 2 ∨ c = 1 := by
  split at h
  · exact .inl (Option.some.inj h).symm
  · split at h
    · exact absurd h (by simp)
    · exact .inr (Option.some.inj h).symm

theorem dlyRefuse_code {i : Nat} {e : List Word} {c : Nat} (h : dlyRefuse s i e = some c) : c = 2 ∨ c = 1 :=
    code_of_ite h

/-- The window as it stands is the one that the check sees. -/
theorem window_held (h : windowStands s) : ((List.range 5).map fun k => heldReg s (aDDRC_DLY_ENTRY k)) = dlyWindow s :=
  List.map_congr_left fun k hk => h k (List.mem_range.1 hk)

theorem window_rset (v : Word) : ((List.range 5).map fun k => rget (rset aDDRC_DLY_COMMIT v s) (aDDRC_DLY_ENTRY k)) =
    dlyWindow s := by
  refine List.map_congr_left fun k hk => rget_rset_ne _ _ ?_
  have := List.mem_range.1 hk
  unfold aDDRC_DLY_ENTRY aDDRC_DLY_COMMIT
  omega

theorem bit_commit (v : Word) : bit (setBits v 0 0 1) 0 = true := by rw [bit_setBits _ _ _ _ (by decide)]; rfl

theorem bit_actBits_commit {d : RegDef} (hd : d.wo = 1) (l : Nat) (v : Word) : bit (actBits d l v) 0 = bit v 0 := by
  have hb : bit (w32 d.wo) 0 = true := by rw [hd]; rfl
  unfold actBits
  rw [bit_and]
  simp [bit_or, hb]

/-- O57, a commit. -/
theorem delayCommit_effect (hs : Canonical s) (w : HW) (hw : windowStands s) :
    (Accepted s aDDRC_DLY_COMMIT ⟨w.lvl, w.be, setBits w.v 0 0 1⟩ → Runs (.delayCommit w) s fun t => lastStatus t = 0 ∧
      t.cistern = { s.cistern with commits := s.cistern.commits ++ [(rfld s aDDRC_DLY_SEL 9 0, dlyWindow s)] } ∧
        KeepsBut [.regs, .cistern] s t) ∧
    (∀ c, Served s aDDRC_DLY_COMMIT ⟨w.lvl, w.be, setBits w.v 0 0 1⟩ → isSolo s = true →
      dlyRefuse s (rfld s aDDRC_DLY_SEL 9 0) (dlyWindow s) = some c →
      Runs (.delayCommit w) s fun t => lastStatus t = 5 ∧ KeepsBut [.regs] s t ∧ rbit t (aISTAT pgDDRC) 0 = true ∧
        captured c pgDDRC (rfld s aDDRC_DLY_SEL 9 0) s t) ∧
    (Served s aDDRC_DLY_COMMIT ⟨w.lvl, w.be, setBits w.v 0 0 1⟩ → isSolo s = false →
      Runs (.delayCommit w) s fun t => refusedWith 4 pgDDRC aDDRC_DLY_COMMIT s t) := by
  refine ⟨fun h => ?_, fun c h hsolo hr => ?_, fun h hsolo => ?_⟩
  · have hok : dlyRefuse s (rfld s aDDRC_DLY_SEL 9 0) (dlyWindow s) = none := by
      obtain ⟨-, hu⟩ := h
      have hblock : blockRefuse s true w.lvl aDDRC_DLY_COMMIT (heldReg s aDDRC_DLY_COMMIT)
          (newWord ⟨"DLY_COMMIT", 0x144, 1, 4, 0, 0, 0, 0, 1, 0, false⟩ (pageOf aDDRC_DLY_COMMIT) w.lvl
            (heldReg s aDDRC_DLY_COMMIT)
            (setBits w.v 0 0 1)) (setBits w.v 0 0 1) = none := by
        unfold unrefused ruleOk at hu
        rw [show regAt aDDRC_DLY_COMMIT = some ⟨"DLY_COMMIT", 0x144, 1, 4, 0, 0, 0, 0, 1, 0, false⟩ from rfl] at hu
        simp only [Bool.and_eq_true, Option.isNone_iff_eq_none] at hu
        exact hu.1.2
      rw [blockRefuse_ddrc_dly (by decide) (by decide), window_held hw, bit_commit, if_pos rfl] at hblock
      split at hblock
      · exact absurd hblock (by simp [refuse])
      · cases hd : dlyRefuse s (rfld s aDDRC_DLY_SEL 9 0) (dlyWindow s) with
        | none => rfl
        | some c => rw [hd] at hblock; exact absurd hblock (by simp [refuse])
    have hrun := hostWrite_of_actsAtOnce h rfl (by decide)
    rw [pageAct_ddrc_dly (by decide) (by decide), bit_actBits_commit rfl, bit_commit, if_pos rfl] at hrun
    generalize newWord _ _ _ _ _ = new at hrun
    have hcommit : dlyCommit true (rset aDDRC_DLY_COMMIT new s) = setCist { s.cistern with
        commits := s.cistern.commits ++ [(rfld s aDDRC_DLY_SEL 9 0, dlyWindow s)] } (rset aDDRC_DLY_COMMIT new s) := by
      have hsel : rfld (rset aDDRC_DLY_COMMIT new s) aDDRC_DLY_SEL 9 0 = rfld s aDDRC_DLY_SEL 9 0 :=
        rfld_of_rget_eq (rget_rset_ne _ _ (by decide)) _ _
      unfold dlyCommit
      dsimp only
      rw [window_rset, hsel, dlyRefuse_rset, hok]
      rfl
    have hwin : Within [.regs, .cistern] (fun _ => True) s (setCist { s.cistern with
        commits := s.cistern.commits ++ [(rfld s aDDRC_DLY_SEL 9 0, dlyWindow s)] } (rset aDDRC_DLY_COMMIT new s)) :=
      ((Within.refl ..).rset _ (by decide) trivial).setCist _
    dsimp only at hrun
    rw [hcommit] at hrun
    exact ⟨_, congrArg Host.Outcome.next hrun, lastStatus_endAccess (rset_regs_wf hs.1 _ _) (by decide),
      (within_endAccess true).1 .cistern (by decide), hwin.ofEnd _ _⟩
  · have hrun := hostWrite_of_refused (r := ⟨c, rfld s aDDRC_DLY_SEL 9 0, [0]⟩) h rfl (by decide)
      (soloRefuse_of_not_dataPlane (by decide) _ _) (by
        rw [blockRefuse_ddrc_dly (by decide) (by decide), window_held hw, bit_commit, if_neg (by simp [hsolo]), if_pos rfl, hr]
        rfl)
    have hc : c ≠ 0 ∧ c < 0x10000 := by
      rcases dlyRefuse_code hr with rfl | rfl <;> decide
    obtain ⟨hwr, hi, hcap⟩ := recordRefuse_one (p := ⟨pgDDRC, by decide⟩) (a := rfld s aDDRC_DLY_SEL 9 0) (b := 0) hs
      hc.1 hc.2 (by decide)
    have hend := within_endAccess (s := recordRefuse pgDDRC ⟨c, rfld s aDDRC_DLY_SEL 9 0, [0]⟩ s) (l := w.lvl)
      (a := aDDRC_DLY_COMMIT) (status := stsRefused) true
    refine ⟨_, congrArg Host.Outcome.next hrun, lastStatus_endAccess (recordRefuse_regs_wf hs.1 ..) (by decide),
      fun p hp => (hwr.1 p hp).trans (hend.1 p hp), ?_, captured_endAccess hcap (by decide) _ _ _⟩
    exact (congrArg (bit · 0) (hend.2 _ (by decide))).trans hi
  · have hrun := hostWrite_of_blockRefuse h rfl (by decide) (soloRefuse_of_not_dataPlane (by decide) _ _)
      (by rw [blockRefuse_ddrc_dly (by decide) (by decide), if_pos (by simp [hsolo])]) (by decide)
    exact ⟨_, congrArg Host.Outcome.next hrun, refusedWith_of_errcap hs (by decide) (by decide)⟩

/-! ### O57: staged words and crossfades -/

/-- What one missing word does. -/
def stageOne (n : Nat) (s : State) (m : Nat) : State :=
  match lineOf s (m / 64) with
  | none => s
  | some l =>
    if ¬ dEn (lineWords l) then s
    else if dKind (lineWords l) then setCist { s.cistern with missed := s.cistern.missed ++ [l.i] } s
    else if m % 64 < n then
      stageMiss (stWord (yAddr (dPress (lineWords l)) (dRst (lineWords l) + (blockNow s % 2) * n + m % 64)) 0 s)
    else s

theorem stagingDeadline_eq (m : List Nat) (s : State) : stagingDeadline m s = m.foldl (stageOne (blockN s)) s := rfl

theorem within_stageMiss (a : Nat) (t : State) :
    Within [.regs, .mem, .fab] (· ∈ [aISTAT pgECC, aDDRC_STAGE_MISS_CNT, aISTAT pgDDRC]) t
      (stageMiss (stWord a 0 t)) := by
  have hst : Within [.regs, .mem, .fab] (· ∈ [aISTAT pgECC, aDDRC_STAGE_MISS_CNT, aISTAT pgDDRC]) t (stWord a 0 t) := by
    have hmem : Within [.regs, .mem, .fab] (· ∈ [aISTAT pgECC, aDDRC_STAGE_MISS_CNT, aISTAT pgDDRC]) t (wrWord a 0 t) :=
      ⟨fun p hp => by cases p <;> first | exact absurd (by decide) hp | rfl, fun _ _ => rfl⟩
    exact hmem.trans ((within_freshen ..).mono (by decide) fun b hb => by rw [hb]; exact List.mem_cons_self)
  exact (hst.cnt (a := aDDRC_STAGE_MISS_CNT) 1 (by decide) (by decide)).iset (p := pgDDRC) 8 (by decide) (by decide)

theorem within_stageOne (n : Nat) (t : State) (m : Nat) :
    Within [.regs, .mem, .fab, .cistern] (· ∈ [aISTAT pgECC, aDDRC_STAGE_MISS_CNT, aISTAT pgDDRC]) t
      (stageOne n t m) := by
  unfold stageOne
  split
  · exact .refl ..
  · exact .ite (.refl ..) (.ite ((Within.refl ..).setCist _)
      (.ite ((within_stageMiss _ t).mono (by decide) fun _ h => h) (.refl ..)))

theorem within_stagingDeadline (m : List Nat) (s : State) :
    Within [.regs, .mem, .fab, .cistern] (· ∈ [aISTAT pgECC, aDDRC_STAGE_MISS_CNT, aISTAT pgDDRC]) s
      (stagingDeadline m s) :=
  (Within.refl ..).foldl fun u hu x _ => hu.trans (within_stageOne _ u x)

/-- O57, missing words one after the other. -/
theorem stagingDeadline_append (hl : Live s) (a b : List Nat) : Runs (.stagingDeadline (a ++ b)) s fun t =>
    ∃ u, exec (.stagingDeadline a) s = .next u ∧ exec (.stagingDeadline b) u = .next t := by
  refine runs_awake hl rfl ⟨stagingDeadline a s, congrArg Host.Outcome.next (awake_run _ hl), ?_⟩
  have hw := within_stagingDeadline a s
  have hl' : Live (stagingDeadline a s) := by
    unfold Live
    rwa [hw.1 .boot (by decide)]
  have hn : blockN (stagingDeadline a s) = blockN s := by
    unfold blockN rfld
    rw [hw.2 _ (by decide)]
  refine congrArg Host.Outcome.next ((awake_run _ hl').trans ?_)
  rw [stagingDeadline_eq b, hn, stagingDeadline_eq (a ++ b), List.foldl_append]
  rfl

/-- O57, one missing word. -/
theorem stagingDeadline_effect (hs : Canonical s) (hl : Live s) (m : Nat) (l : DLine) (h : lineOf s (m / 64) = some l)
    (he : dEn (lineWords l) = true) :
    (dKind (lineWords l) = false → m % 64 < blockN s → Runs (.stagingDeadline [m]) s fun t =>
      let a := yAddr (dPress (lineWords l)) (dRst (lineWords l) + (blockNow s % 2) * blockN s + m % 64)
      rdWord t a = 0 ∧ (∀ b, b < a ∨ a + 4 ≤ b → rdByte t b = rdByte s b) ∧
      rget t aDDRC_STAGE_MISS_CNT = rget s aDDRC_STAGE_MISS_CNT + 1 ∧ rbit t (aISTAT pgDDRC) 8 = true ∧ KeepsBut
        [.regs, .mem, .fab] s t) ∧
    (dKind (lineWords l) = false → blockN s ≤ m % 64 → Runs (.stagingDeadline [m]) s fun t => t = s) ∧
    (dKind (lineWords l) = true → Runs (.stagingDeadline [m]) s fun t =>
      t.cistern = { s.cistern with missed := s.cistern.missed ++ [l.i] } ∧ KeepsBut [.cistern] s t) := by
  have hdef : stagingDeadline [m] s = if dKind (lineWords l) then setCist
      { s.cistern with missed := s.cistern.missed ++ [l.i] } s
      else if m % 64 < blockN s then
        stageMiss (stWord (yAddr (dPress (lineWords l)) (dRst (lineWords l) + (blockNow s % 2) * blockN s + m % 64))
          0 s)
      else s := by
    show stageOne (blockN s) s m = _
    unfold stageOne
    rw [h]
    exact if_neg (by simp [he])
  refine ⟨fun hk hm => runs_awake hl rfl ?_, fun hk hm => runs_awake hl rfl ?_, fun hk => runs_awake hl rfl ?_⟩
  · rw [hdef, if_neg (by simp [hk]), if_pos hm]
    generalize yAddr _ _ = a
    obtain ⟨hregs, hmem, -⟩ := hs
    refine ⟨rdWord_stWord hmem a 0, fun b hb => rdByte_stWord_ne a 0 s (by omega), ?_,
      rbit_iset_any ⟨pgDDRC, by decide⟩ (by decide) _, (within_stageMiss a s).1⟩
    refine (rget_iset_ne _ _ _ (by decide)).trans ((rget_rset_same (stWord_regs_wf hregs a 0) _ _).trans ?_)
    rw [rget_stWord_ne a 0 s (by decide)]
    rfl
  · rw [hdef, if_neg (by simp [hk]), if_neg (by omega)]
  · rw [hdef, if_pos hk]
    exact ⟨rfl, ((Within.refl [.cistern] (fun _ => False) s).setCist _).1⟩

theorem stagingDeadline_idle (hl : Live s) (m : Nat) (h : ∀ l, lineOf s (m / 64) = some l → dEn (lineWords l) = false) :
    Runs (.stagingDeadline [m]) s fun t => t = s := by
  refine runs_awake hl rfl ?_
  show stageOne (blockN s) s m = s
  unfold stageOne
  split
  · rfl
  · next l hl => exact if_pos (by simp [h l hl])

/-- The line of the number `k` after a change of the line `i`, which keeps its number. -/
theorem find?_map_line (m : List DLine) (i k : Nat) (p : List (Nat × Nat)) :
    (m.map fun x => if x.i = i then { x with points := p } else x).find? (fun l => l.i == k) =
      (m.find? fun l => l.i == k).map fun x => if x.i = i then { x with points := p } else x := by
  rw [List.find?_map]
  congr 1
  refine congrArg (List.find? · m) (funext fun x => ?_)
  dsimp only [Function.comp]
  split <;> rfl

/-- O57, the end of a crossfade. -/
theorem delayXfadeEnd_effect (hl : Live s) (k : Fin 1024) :
    let due (l : DLine) (d : Nat) : Prop := lineOf s k.val = some l ∧ 2 ≤ l.points.length ∧
      ∃ a, l.points.getLast? = some (d, a) ∧ a + 64 ≤ s.tb.frame
    (∀ l d, due l d → Runs (.delayXfadeEnd k) s fun t => lineOf t k.val = some { l with points := [(d, 0)] } ∧
      (∀ j, j ≠ k.val → lineOf t j = lineOf s j) ∧ KeepsBut [.cistern] s t) ∧
    ((∀ l d, ¬ due l d) → Runs (.delayXfadeEnd k) s fun t => t = s) := by
  refine ⟨fun l d ⟨h1, h2, a, h3, h4⟩ => runs_awake hl rfl ?_, fun hno => runs_awake hl rfl ?_⟩
  · have hdef : delayXfadeEnd k.val s = setCist { s.cistern with
        lines := s.cistern.lines.map fun x => if x.i = k.val then { x with points := [(d, 0)] } else x } s := by
      unfold delayXfadeEnd
      rw [h1]
      dsimp only
      rw [h3]
      exact if_pos ⟨h2, h4⟩
    have hi : l.i = k.val := by simpa using List.find?_some h1
    have hof (j : Nat) : lineOf (delayXfadeEnd k.val s) j =
        (lineOf s j).map fun x => if x.i = k.val then { x with points := [(d, 0)] } else x := by
      rw [hdef]
      exact find?_map_line ..
    refine ⟨?_, fun j hj => ?_, ?_⟩
    · rw [hof, h1, Option.map_some, if_pos hi]
    · rw [hof]
      cases hx : lineOf s j with
      | none => rfl
      | some x =>
        have hxi : x.i = j := by simpa using List.find?_some hx
        rw [Option.map_some, if_neg (by rw [hxi]; exact hj)]
    · rw [hdef]
      exact ((Within.refl [.cistern] (fun _ => False) s).setCist _).1
  · unfold delayXfadeEnd
    split
    · rfl
    · next l hlo =>
      split
      · next d a hp => exact if_neg fun ⟨h2, h4⟩ => hno l d ⟨hlo, h2, a, hp, h4⟩
      · rfl

/-- Settles O57: each event of the Cistern by its due condition. -/
theorem cisternTrainingRefreshAndLines : Obligations.CisternTrainingRefreshAndLines :=
  ⟨fun _ r hs ho ht => trainingDone_effect hs ho r ht, fun _ r ho ht => trainingDone_idle ho r ht, fun _ x hl =>
    retrainTrigger_effect hl x,
    fun _ hl hr => retrain_idle hl hr,
    fun _ _ hs hl hr => ⟨retrainSlice_effect hl hr, (retrainAbort_effect hs hl hr).1, (retrainAbort_effect hs hl hr).2,
      fun i => (retrainDone_effect hs hl hr i).1, fun i => (retrainDone_effect hs hl hr i).2⟩,
    fun _ hs hl => ceWindowEnd_effect hs hl, fun _ hs hl => reserveMove_effect hs hl, fun _ hl => shedWithdraw_effect
      hl,
    fun _ r u _ hl => dramRefresh_effect hl r u, fun _ k hl => rowCloseTimeout_effect hl k, fun _ w hs hw =>
      delayCommit_effect hs w hw,
    fun _ m l hs hl h he => stagingDeadline_effect hs hl m l h he, fun _ m hl h => stagingDeadline_idle hl m h,
    fun _ a b hl => stagingDeadline_append hl a b, fun _ k hl => delayXfadeEnd_effect hl k⟩

end Sys2Proof.Machine
end

section
/-!
PROOFS. The recorder, the player and the aperture of the Cistern: O58 (chapter 13; log 52).
-/

-- One declaration after another: side by side, the stacks of the threads exceed what memory the check allows.
set_option Elab.async false

namespace Sys2Proof.Machine

variable {s : State}

/-! ### O58: the recorder and the player -/

theorem keepsBut_popLanding (s : State) : KeepsBut [.comp] s (popLanding s) := fun p hp => by
  cases p <;> first | exact absurd List.mem_cons_self hp | rfl

/-- An entry that completes at its landing, after registers of its own page have changed. -/
theorem finishAt_landing {e : Ev} {rest : List Ev} (hs : Canonical s) (h : actsNext s e rest) {A : Nat → Prop}
    {t : State}
    (hw : Within [.regs] A (popLanding s) t) (hwf : spWf resetWord t.regs = true) (ha : ¬ A aGALLEY_CPROD) :
    let u := finishAt { e with land := s.tb.frame } s.tb.frame t
    Settles doneParts (· ∈ doneRegs) t u ∧ u.comp.landing = rest ∧ u.cistern = s.cistern ∧
      (noneWaits e.ticket s → completed e (outcomeOf e s.tb.frame).1 s u) := by
  intro u
  have hset : Settles doneParts (· ∈ doneRegs) t u := (Settles.refl ..).finishAt room_done _ _
  have hcomp : t.comp = (popLanding s).comp := hw.1 .comp (by decide)
  have hmem : t.mem = s.mem := hw.1 .mem (by decide)
  have htb : t.tb = s.tb := hw.1 .tb (by decide)
  refine ⟨hset, ?_, ?_, fun hn => ?_⟩
  · rw [hset.landing, hcomp]
    exact landing_popLanding h
  · exact Eq.trans (hset.within.1 .cistern (by decide)) (show t.cistern = s.cistern from hw.1 .cistern (by decide))
  · have hn1 : noneWaits e.ticket t := by
      unfold noneWaits
      rw [hcomp]
      exact hn
    have hc := (completed_finishAt (s := t) (e := { e with land := s.tb.frame }) hwf (by rw [hmem]; exact hs.2.1) hn1
      (f := s.tb.frame) (by rw [htb])).1
    exact completed_of_same hc (by rw [hcomp]; rfl) (by rw [htb]) (hw.2 _ ha) fun a => congrArg (spGet _ · a) hmem

theorem playerBit_finishAt {e : Ev} {d i : Nat} {t : State} (h : rbit t (aISTAT pgPLAYER) i = true) :
    rbit (finishAt e d t) (aISTAT pgPLAYER) i = true :=
  (congrArg (bit · i) (((Settles.refl doneParts (· ∈ doneRegs) t).finishAt room_done _ _).within.2 _
    (by decide))).trans h

/-- A PLAY that begins: its run stands behind those of the voice that take their stop fade. -/
def playBegun (e : Ev) (s : State) : State :=
  let w (i : Nat) : Word := e.payload.getD i 0
  let d := dirEntry s (bits (w 1) 11 0)
  let stopped (x : VoiceRun) : VoiceRun := if x.v = bits (w 0) 7 0 ∧ x.stop.isNone then
    { x with stop := some s.tb.frame } else x
  let run : VoiceRun := ⟨bits (w 0) 7 0, e.ticket, bits (w 1) 11 0, bits (w 2) 9 0, sgn 24 (bits (w 3) 23 0),
    (rampLen (bits (w 3) 29 24)).getD 1, (rampLen (bits (w 0) 29 24)).getD 1, bit (w 0) 31, s.tb.frame, d.1, d.2.1,
      d.2.2.1, none, []⟩
  keepRunning { e with land := s.tb.frame }
    (setCist { s.cistern with voices := s.cistern.voices.map stopped ++ [run] } (popLanding s))

/-- O58, PLAY. -/
theorem play_effect {e : Ev} {rest : List Ev} {w4 w5 w6 w7 : Word} {more : List Word} (hs : Canonical s)
    (h : actsNext s e rest)
    (ho : e.e.opcode = opPlay) (hp : e.payload = w4 :: w5 :: w6 :: w7 :: more) :
    let d := dirEntry s (bits w5 11 0)
    let inside : Prop := 64 * d.1 + annBytes d ≤ cistBytes s ∧ d.2.1 ≠ 0
    (d.2.2.2 = rateCode s → inside → Runs (.play e.ticket) s fun t => t.comp.landing = rest ∧
      t.comp.running = s.comp.running ++ [{ e with land := s.tb.frame }] ∧
      t.cistern.voices = (s.cistern.voices.map fun x =>
          if x.v = bits w4 7 0 ∧ x.stop.isNone then { x with stop := some s.tb.frame } else x) ++
        [⟨bits w4 7 0, e.ticket, bits w5 11 0, bits w6 9 0, sgn 24 (bits w7 23 0), (rampLen (bits w7 29 24)).getD 1,
          (rampLen (bits w4 29 24)).getD 1, bit w4 31, s.tb.frame, d.1, d.2.1, d.2.2.1, none, []⟩] ∧
      (channelOwned s (bits w6 9 0) = true → rbit t (aISTAT pgPLAYER) 4 = true) ∧ KeepsBut [.regs, .comp, .cistern] s
        t ∧
      RegsOnly [aISTAT pgPLAYER] s t) ∧
    (d.2.2.2 ≠ rateCode s → Runs (.play e.ticket) s fun t => t.comp.landing = rest ∧ t.cistern = s.cistern ∧
      rbit t (aISTAT pgPLAYER) 3 = true ∧ rbit t (aISTAT pgPLAYER) 2 = true ∧
      (noneWaits e.ticket s → completed e (outcomeOf e s.tb.frame).1 s t)) ∧
    (d.2.2.2 = rateCode s → ¬ inside → Runs (.play e.ticket) s fun t => t.comp.landing = rest ∧ t.cistern = s.cistern ∧
      rbit t (aISTAT pgPLAYER) 2 = true ∧ captured 1 pgPLAYER (bits w4 7 0) s t ∧
      (noneWaits e.ticket s → completed e (outcomeOf e s.tb.frame).1 s t)) := by
  have hw0 : e.payload.getD 0 0 = w4 := by rw [hp]; rfl
  have hw1 : e.payload.getD 1 0 = w5 := by rw [hp]; rfl
  have hw2 : e.payload.getD 2 0 = w6 := by rw [hp]; rfl
  have hw3 : e.payload.getD 3 0 = w7 := by rw [hp]; rfl
  clear hp
  subst hw0 hw1 hw2 hw3
  intro d inside
  have hrun : exec (.play e.ticket) s = .next (playLand { e with land := s.tb.frame } (popLanding s)) :=
    congrArg Host.Outcome.next (awake_landEntry h ho playLand)
  refine ⟨fun hr hi => ⟨_, hrun, ?_⟩, fun hr => ⟨_, hrun, ?_⟩, fun hr hi => ⟨_, hrun, ?_⟩⟩
  · obtain ⟨hi1, hi2⟩ := hi
    have hdef : playLand { e with land := s.tb.frame } (popLanding s) =
        if channelOwned s (bits (e.payload.getD 2 0) 9 0) then iset pgPLAYER 4 (playBegun e s) else playBegun e s := by
      unfold playLand
      dsimp only
      change (if d.2.2.2 ≠ rateCode s then _ else if 64 * d.1 + annBytes d > cistBytes s ∨ d.2.1 = 0 then _ else _) = _
      rw [if_neg (not_not.2 hr), if_neg (by rw [not_or, not_lt]; exact ⟨hi1, hi2⟩)]
      rfl
    have hw : Within [.regs, .comp, .cistern] (· ∈ [aISTAT pgPLAYER]) s (playBegun e s) :=
      ⟨fun p hp => by cases p <;> first | exact absurd (by decide) hp | rfl, fun _ _ => rfl⟩
    have hv : (playBegun e s).cistern.voices = (s.cistern.voices.map fun x =>
        if x.v = bits (e.payload.getD 0 0) 7 0 ∧ x.stop.isNone then { x with stop := some s.tb.frame } else x) ++
      [⟨bits (e.payload.getD 0 0) 7 0, e.ticket, bits (e.payload.getD 1 0) 11 0, bits (e.payload.getD 2 0) 9 0,
        sgn 24 (bits (e.payload.getD 3 0) 23 0), (rampLen (bits (e.payload.getD 3 0) 29 24)).getD 1,
        (rampLen (bits (e.payload.getD 0 0) 29 24)).getD 1, bit (e.payload.getD 0 0) 31, s.tb.frame, d.1, d.2.1,
          d.2.2.1, none, []⟩] := rfl
    have hc : (playBegun e s).comp = (keepRunning { e with land := s.tb.frame } (popLanding s)).comp := rfl
    have hland : (playBegun e s).comp.landing = rest := landing_popLanding h
    rw [hdef]
    generalize playBegun e s = u at hw hv hc hland ⊢
    split
    · next hown =>
      have hi := hw.iset (p := pgPLAYER) 4 (by decide) (by decide)
      exact ⟨hland, congrArg (·.running) hc, hv, fun _ => rbit_iset_any ⟨pgPLAYER, by decide⟩ (by decide) _, hi.1, hi.2⟩
    · next hown => exact ⟨hland, congrArg (·.running) hc, hv, fun hc => absurd hc hown, hw.1, hw.2⟩
  · have hdef : playLand { e with land := s.tb.frame } (popLanding s) =
        finishAt { e with land := s.tb.frame } s.tb.frame (iset pgPLAYER 2 (iset pgPLAYER 3 (popLanding s))) := by
      unfold playLand
      dsimp only
      exact if_pos hr
    rw [hdef]
    obtain ⟨-, h1, h2, h3⟩ := finishAt_landing hs h (A := (· ∈ [aISTAT pgPLAYER]))
      (((Within.refl [.regs] _ (popLanding s)).iset (p := pgPLAYER) 3
        (by decide) (by decide)).iset (p := pgPLAYER) 2 (by decide)
        (by decide))
      (iset_regs_wf (iset_regs_wf (s := popLanding s) hs.1 _ _) _ _) (by decide)
    exact ⟨h1, h2, playerBit_finishAt (rbit_iset_of_rbit ⟨pgPLAYER,
      by decide⟩ (rbit_iset_any ⟨pgPLAYER, by decide⟩ (by decide) _)),
      playerBit_finishAt (rbit_iset_any ⟨pgPLAYER, by decide⟩ (by decide) _), h3⟩
  · have hdef : playLand { e with land := s.tb.frame } (popLanding s) =
        finishAt { e with land := s.tb.frame } s.tb.frame (iset pgPLAYER 2
          (errcap pgPLAYER 1 (bits (e.payload.getD 0 0) 7 0) (popLanding s))) := by
      unfold playLand
      dsimp only
      refine (if_neg fun hc => hc hr).trans (if_pos ?_)
      by_contra hc
      rw [not_or, not_lt] at hc
      exact hi hc
    rw [hdef]
    obtain ⟨hset, h1, h2, h3⟩ := finishAt_landing hs h (A :=
      (· ∈ [aERRCAP pgPLAYER, aERRADDR pgPLAYER, aISTAT pgPLAYER]))
      (((Within.refl [.regs] _ (popLanding s)).errcap (p := pgPLAYER) 1 (bits (e.payload.getD 0 0) 7 0)
        (by decide) (by decide) (by decide)).iset (p := pgPLAYER) 2
        (by decide) (by decide))
      (iset_regs_wf (errcap_regs_wf (s := popLanding s) hs.1 _ _ _) _ _) (by decide)
    have hcap := captured_errcap (s := popLanding s) hs.1 1 pgPLAYER (bits (e.payload.getD 0 0) 7 0) (by decide)
    refine ⟨h1, h2, playerBit_finishAt (rbit_iset_any ⟨pgPLAYER, by decide⟩ (by decide) _), ?_, h3⟩
    unfold captured at hcap ⊢
    rw [hset.within.2 _ (by decide), hset.within.2 _ (by decide), rget_iset_ne _ _ _ (by decide), rget_iset_ne _ _ _ (by decide)]
    exact hcap

/-- O58, STOP_PLAY. -/
theorem stopPlay_effect {e : Ev} {rest : List Ev} {w4 : Word} {more : List Word} (hs : Canonical s)
    (h : actsNext s e rest)
    (ho : e.e.opcode = opStopPlay) (hp : e.payload = w4 :: more) :
    let run := (s.cistern.voices.filter fun x => x.v == bits w4 7 0).getLast?
    (run = none → Runs (.stopPlay e.ticket) s fun t => t.cistern = s.cistern ∧ t.comp.landing = rest ∧
      (noneWaits e.ticket s → completed e (outcomeOf e s.tb.frame).1 s t)) ∧
    (∀ r, run = some r → Runs (.stopPlay e.ticket) s fun t => t.comp.landing = rest ∧
      t.comp.running = s.comp.running ++ [{ e with land := s.tb.frame }] ∧
      t.cistern.voices = (s.cistern.voices.map fun x => if x.ticket = r.ticket then
        { x with stop := some (x.stop.getD s.tb.frame), stops := x.stops ++ [e.ticket] } else x) ∧ KeepsBut
          [.comp, .cistern] s t) := by
  intro run
  have hrun : exec (.stopPlay e.ticket) s = .next (stopPlayLand { e with land := s.tb.frame } (popLanding s)) :=
    congrArg Host.Outcome.next (awake_landEntry h ho stopPlayLand)
  refine ⟨fun hr => ⟨_, hrun, ?_⟩, fun r hr => ⟨_, hrun, ?_⟩⟩
  · have hdef : stopPlayLand { e with land := s.tb.frame } (popLanding s) =
        finishAt { e with land := s.tb.frame } s.tb.frame (popLanding s) := by
      unfold stopPlayLand
      dsimp only
      rw [hp, List.getD_cons_zero]
      rw [show ((popLanding s).cistern.voices.filter fun x => x.v == bits w4 7 0).getLast? = none from hr]
      rfl
    rw [hdef]
    obtain ⟨-, h1, h2, h3⟩ := finishAt_landing hs h (A := (· ∈ [])) (Within.refl [.regs] _ (popLanding s)) hs.1
      (by decide)
    exact ⟨h2, h1, h3⟩
  · have hdef : stopPlayLand { e with land := s.tb.frame } (popLanding s) =
        keepRunning { e with land := s.tb.frame } (setCist { s.cistern with
          voices := s.cistern.voices.map fun x => if x.ticket = r.ticket then
            { x with stop := some (x.stop.getD s.tb.frame), stops := x.stops ++ [e.ticket] } else x }
              (popLanding s)) := by
      unfold stopPlayLand
      dsimp only
      rw [hp, List.getD_cons_zero]
      rw [show ((popLanding s).cistern.voices.filter fun x => x.v == bits w4 7 0).getLast? = some r from hr]
      rfl
    rw [hdef]
    exact ⟨landing_popLanding h, rfl, rfl, fun p hp => by cases p <;> first | exact absurd (by decide) hp | rfl⟩

/-- O58, RECORD_SEG. -/
theorem recordSeg_effect {e : Ev} {rest : List Ev} (h : actsNext s e rest) (ho : e.e.opcode = opRecord) :
    Runs (.recordSeg e.ticket) s fun t => t.comp.landing = rest ∧ t.comp.running = s.comp.running ++
      [{ e with land := s.tb.frame }] ∧
      t.cistern.segs = (s.cistern.segs.map fun g => if g.ticket = e.ticket then { g with start := some s.tb.frame }
        else g) ∧
      rbit t (aISTAT pgRECORDER) 0 = true ∧ KeepsBut [.regs, .comp, .cistern] s t ∧ RegsOnly [aISTAT pgRECORDER] s
        t := by
  refine ⟨_, congrArg Host.Outcome.next (awake_landEntry h ho segLand), landing_popLanding h, rfl, rfl,
    rbit_iset_any ⟨pgRECORDER, by decide⟩ (by decide) _, ?_⟩
  unfold segLand
  dsimp only
  generalize hu : keepRunning _ (setCist _ (popLanding s)) = u
  have hw : Within [.regs, .comp, .cistern] (· ∈ [aISTAT pgRECORDER]) s u :=
    hu ▸ ⟨fun p hp => by cases p <;> first | exact absurd (by decide) hp | rfl, fun _ _ => rfl⟩
  exact hw.iset (p := pgRECORDER) 0 (by decide) (by decide)

/-! ### O58: the recorder's segments -/

/-- A freeze that takes effect, and one that names no loop segment that has landed. -/
theorem recFreeze_effect (k : Word) (s : State) :
    let takes : Prop := ∃ g ∈ s.cistern.segs, g.ticket = k ∧ g.loop = true ∧ g.start.isSome = true ∧ g.froze = none
    Within [.regs, .cistern] (· ∈ [aISTAT pgRECORDER]) s (recFreeze k s) ∧
      (spWf resetWord s.regs = true → spWf resetWord (recFreeze k s).regs = true) ∧
      (takes → rbit (recFreeze k s) (aISTAT pgRECORDER) 1 = true ∧ (recFreeze k s).cistern.segs =
        s.cistern.segs.map fun g => if g.ticket = k ∧ g.froze.isNone then { g with froze := some s.tb.frame } else g) ∧
      (¬ takes → recFreeze k s = s) := by
  intro takes
  have htakes : (s.cistern.segs.any fun g => g.ticket == k && g.loop && g.start.isSome && g.froze.isNone) = true ↔
      takes := by
    unfold takes
    simp only [List.any_eq_true, Bool.and_eq_true, beq_iff_eq, Option.isNone_iff_eq_none, and_assoc]
  unfold recFreeze
  split
  · next h =>
    dsimp only
    generalize hu : setCist { s.cistern with segs := s.cistern.segs.map _ } s = u
    have hseg : u.cistern.segs =
        s.cistern.segs.map fun g => if g.ticket = k ∧ g.froze.isNone then { g with froze := some s.tb.frame } else
          g := hu ▸ rfl
    have hw : Within [.regs, .cistern] (· ∈ [aISTAT pgRECORDER]) s u := hu ▸ (Within.refl ..).setCist _
    have hr : u.regs = s.regs := hu ▸ rfl
    exact ⟨hw.iset (p := pgRECORDER) 1 (by decide) (by decide), fun hwf => iset_regs_wf (hr ▸ hwf) _ _,
      fun _ => ⟨rbit_iset_any ⟨pgRECORDER, by decide⟩ (by decide) _, hseg⟩, fun hn => absurd (htakes.1 h) hn⟩
  · next h => exact ⟨.refl .., id, fun ht => absurd (htakes.2 ht) h, fun _ => rfl⟩

/-- A WRITE_PARAM of RECORDER.FREEZE passes its ticket to the freeze. -/
theorem landPair_recFreeze (tk k : Word) (t : State) :
    ∃ v, landPair tk (t, false) (aRECORDER_FREEZE, k) = (recFreeze k (rset aRECORDER_FREEZE v t), false) := by
  refine ⟨newWord ⟨"FREEZE", 0x40, 1, 4, 0, 0, 0, 0, 0xffffffff, 0, false⟩ (pageOf aRECORDER_FREEZE) 0
    (rget t aRECORDER_FREEZE) k, ?_⟩
  have hreg : regLand (some tk) aRECORDER_FREEZE k t = (recFreeze k (rset aRECORDER_FREEZE (newWord
      ⟨"FREEZE", 0x40, 1, 4, 0, 0, 0, 0, 0xffffffff, 0, false⟩ (pageOf aRECORDER_FREEZE) 0 (rget t aRECORDER_FREEZE)
        k) t), false) := by
    unfold regLand
    rw [show regAt aRECORDER_FREEZE = some ⟨"FREEZE", 0x40, 1, 4, 0, 0, 0, 0, 0xffffffff, 0, false⟩ from rfl]
    dsimp only
    have hk : k &&& (w32 0 ||| w32 0xffffffff ||| w32 0) = k := by
      rw [show (w32 0 ||| w32 0xffffffff ||| w32 0) = BitVec.allOnes 32 by decide, BitVec.and_allOnes]
    rw [if_neg fun h => absurd h.1 (by decide), hk]
    generalize newWord _ _ _ _ _ = v
    rfl
  rw [landPair, if_neg (show ¬ aRECORDER_FREEZE ≥ 0x1000000 by decide), hreg]
  simp

/-- O58, a freeze that lands by WRITE_PARAM. -/
theorem freezeLands_effect {e : Ev} {rest : List Ev} {k : Word} (h : actsNext s e rest) (ho : e.e.opcode = opWriteParam)
    (hp : pairsOf e.payload = [(aRECORDER_FREEZE, k)]) :
    let takes : Prop := ∃ g ∈ s.cistern.segs, g.ticket = k ∧ g.loop = true ∧ g.start.isSome = true ∧ g.froze = none
    (takes → Runs (.writeParam e.ticket) s fun t => rbit t (aISTAT pgRECORDER) 1 = true ∧ t.comp.landing = rest ∧
      t.cistern.segs = s.cistern.segs.map fun g => if g.ticket = k ∧ g.froze.isNone then
        { g with froze := some s.tb.frame } else g) ∧
    (¬ takes → Runs (.writeParam e.ticket) s fun t => t.cistern = s.cistern ∧ t.comp.landing = rest) := by
  intro takes
  obtain ⟨v, hv⟩ := landPair_recFreeze e.ticket k (keepRunning { e with land := s.tb.frame } (popLanding s))
  generalize hu : rset aRECORDER_FREEZE v (keepRunning { e with land := s.tb.frame } (popLanding s)) = u at hv
  have hc : u.cistern = s.cistern := hu ▸ rfl
  have htb : u.tb = s.tb := hu ▸ rfl
  have hl : u.comp.landing = rest := hu ▸ landing_popLanding h
  have hlock : onLockedShadow (popLanding s) (aRECORDER_FREEZE, k) = false := by
    unfold onLockedShadow
    simp [aRECORDER_FREEZE]
  have hrun : exec (.writeParam e.ticket) s = .next (finishRunning e.ticket s.tb.frame (recFreeze k u)) :=
    congrArg Host.Outcome.next ((awake_landEntry h ho writeParam).trans (writeParam_single hp hlock hv))
  obtain ⟨hw, -, h1, h2⟩ := recFreeze_effect k u
  have hset : Settles doneParts (· ∈ doneRegs) (recFreeze k u) (finishRunning e.ticket s.tb.frame (recFreeze k u)) :=
    (Settles.refl ..).finishRunning room_done _ _
  have hland : (finishRunning e.ticket s.tb.frame (recFreeze k u)).comp.landing = rest := by
    rw [hset.landing, show (recFreeze k u).comp = u.comp from hw.1 .comp (by decide), hl]
  have hcist : (finishRunning e.ticket s.tb.frame (recFreeze k u)).cistern = (recFreeze k u).cistern :=
    hset.within.1 .cistern (by decide)
  rw [hc] at h1 h2
  refine ⟨fun ht => ⟨_, hrun, ?_, hland, ?_⟩, fun ht => ⟨_, hrun, ?_, hland⟩⟩
  · exact (congrArg (bit · 1) (hset.within.2 _ (by decide))).trans (h1 ht).1
  · rw [hcist, (h1 ht).2, htb]
  · rw [hcist, h2 ht, hc]

/-- O58, a freeze of a SOLO device waits; of another it is refused. -/
theorem recorderFreeze_effect (hs : Canonical s) (w : HW) :
    (Accepted s aRECORDER_FREEZE w → isSolo s = true →
      Runs (.recorderFreeze w) s fun t => t.landNext = s.landNext ++ [(aRECORDER_FREEZE, w.v)] ∧ lastStatus t = 0 ∧
        KeepsBut [.regs, .landNext] s t ∧ RegsOnly [aHOSTIF_LASTERR, aHOSTIF_LASTADDR] s t) ∧
    (Served s aRECORDER_FREEZE w → isSolo s = false →
      Runs (.recorderFreeze w) s fun t => refusedWith 5 pgRECORDER aRECORDER_FREEZE s t) := by
  have hd : regAt aRECORDER_FREEZE = some ⟨"FREEZE", 0x40, 1, 4, 0, 0, 0, 0, 0xffffffff, 0, false⟩ := rfl
  refine ⟨fun h hsolo => ?_, fun h hsolo => ?_⟩
  · have hv : w.v &&& (w32 0 ||| w32 0xffffffff ||| w32 0 ||| (if w.lvl.val = 0 then w32 0 else 0)) = w.v := by
      rw [show (if w.lvl.val = 0 then w32 0 else 0) = 0#32 by split <;> rfl,
        show (w32 0 ||| w32 0xffffffff ||| w32 0 ||| 0#32) = BitVec.allOnes 32 by decide, BitVec.and_allOnes]
    have hrun := hostWrite_accepted h hd (by decide) (by decide) fun hc => absurd hc.1 (by decide)
    rw [hv] at hrun
    generalize newWord _ _ _ _ _ = new at hrun
    let s1 : State := { s with landNext := s.landNext ++ [(aRECORDER_FREEZE, w.v)] }
    have hland : landPage w.lvl aRECORDER_FREEZE (heldReg s aRECORDER_FREEZE) new w.v s = s1 := by
      unfold landPage
      rw [if_neg (by decide), if_neg (by decide), if_pos ⟨hsolo, rfl⟩]
    rw [hland] at hrun
    have hend := within_endAccess (status := 0) (l := w.lvl) (a := aRECORDER_FREEZE) (s := s1) true
    refine ⟨_, congrArg Host.Outcome.next hrun, hend.1 .landNext
      (by decide), lastStatus_endAccess (s := s1) hs.1 (by decide), ?_,
      fun a ha => ?_⟩
    · have h1 : KeepsBut [.regs, .landNext] s s1 := fun q hq => by cases q <;> first | exact absurd (by decide) hq | rfl
      exact h1.trans (hend.1.mono (by decide))
    · simp only [List.mem_cons, List.not_mem_nil, or_false, not_or] at ha
      exact rget_endAccess_ok s1 ha.1 ha.2
  · have href : soloRefuse s ⟨"FREEZE", 0x40, 1, 4, 0, 0, 0, 0, 0xffffffff, 0, false⟩ aRECORDER_FREEZE w.v = refuse 5
      aRECORDER_FREEZE := by
      unfold soloRefuse
      rw [hsolo]
      rfl
    have hrun := hostWrite_served (x := ⟨aRECORDER_FREEZE, w.lvl, w.be, w.v⟩) h hd
        (show busAddr aRECORDER_FREEZE = aRECORDER_FREEZE by decide)
      (show aRECORDER_FREEZE ≠ aSYS_RSTCMD by decide)
    dsimp only at hrun
    rw [pageWrite_of_soloRefuse hd href (by decide)] at hrun
    exact ⟨_, congrArg Host.Outcome.next hrun, refusedWith_of_errcap hs (by decide) (by decide)⟩

/-- Clearing registers one after another leaves each of them 0. -/
theorem rget_clear (f : Nat → Nat) {i : Nat} {l : List Nat} : ∀ {t : State}, spWf resetWord t.regs = true →
    i ∈ l ∨ rget t (f i) = 0 → rget (l.foldl (fun s j => rset (f j) 0 s) t) (f i) = 0 := by
  induction l with
  | nil => exact fun _ h => h.resolve_left (by simp)
  | cons j l ih =>
    intro t hwf h
    refine ih (rset_regs_wf hwf _ _) ?_
    by_cases hj : f i = f j
    · right
      dsimp only
      rw [hj]
      exact rget_rset_same hwf _ _
    · rcases h with h | h
      · rcases List.mem_cons.1 h with rfl | h
        · exact absurd rfl hj
        · exact .inl h
      · exact .inr ((rget_rset_ne _ _ hj).trans h)

theorem segFree_effect (k : Word) (s : State) :
    (segFree k s).cistern.segs = s.cistern.segs.filter (fun x => x.ticket != k) ∧ (segFree k s).comp = s.comp ∧
      (spWf resetWord s.regs = true → ∀ g ∈ s.cistern.segs, g.ticket = k → ∀ i ∈ g.tracks,
        rget (segFree k s) (aRECORDER_SEGTKT i) = 0) := by
  have hf {γ : Type} (p : State → γ) (hp : ∀ u a v, p (rset a v u) = p u) (m : List Nat) (u : State) :
      p (m.foldl (fun s i => rset (aRECORDER_SEGTKT i) 0 s) u) = p u := foldl_keeps p (fun u _ => hp u _ _) m u
  refine ⟨hf (fun u => u.cistern.segs) (fun _ _ _ => rfl) _ _, hf (fun u => u.comp) (fun _ _ _ => rfl) _ _,
    fun hwf g hg hk i hi => ?_⟩
  exact rget_clear aRECORDER_SEGTKT hwf (.inl (List.mem_flatMap.2 ⟨g, List.mem_filter.2 ⟨hg, by simp [hk]⟩, hi⟩))

/-- O58, SEGMENT_COMPLETE. -/
theorem segmentComplete_effect (hs : Canonical s) (hl : Live s) (k : Word) :
    let due (g : RecSeg) : Prop := s.cistern.segs.find? (fun x => x.ticket == k) = some g ∧ ∃ c, segEnd g = some c ∧
      c ≤ s.tb.frame
    (∀ g, due g → Runs (.segmentComplete k) s fun t => t.cistern.segs = s.cistern.segs.filter (fun x => x.ticket != k) ∧
      rbit t (aISTAT pgRECORDER) 2 = true ∧ (∀ i ∈ g.tracks, i < 64 → rget t (aRECORDER_SEGTKT i) = 0) ∧
      findEv k t.comp.running = none) ∧
    ((∀ g, ¬ due g) → Runs (.segmentComplete k) s fun t => t = s) := by
  intro due
  refine ⟨fun g ⟨hg, c, hc, hf⟩ => runs_awake hl rfl ?_, fun hno => runs_awake hl rfl ?_⟩
  · have hdef : segmentComplete k s = finishRunning k c (iset pgRECORDER 2 (segFree k s)) := by
      unfold segmentComplete
      rw [hg]
      dsimp only
      rw [hc]
      exact if_pos hf
    obtain ⟨h1, -, h2⟩ := segFree_effect k s
    have hset : Settles doneParts (· ∈ doneRegs) (iset pgRECORDER 2 (segFree k s)) (segmentComplete k s) :=
      hdef ▸ (Settles.refl ..).finishRunning room_done _ _
    have hcist : (segmentComplete k s).cistern = (segFree k s).cistern := hset.within.1 .cistern (by decide)
    have hk : g.ticket = k := by simpa using List.find?_some hg
    refine ⟨by rw [hcist, h1], ?_, fun i hi hlt => ?_, hdef ▸ findEv_finishRunning ..⟩
    · exact (congrArg (bit · 2) (hset.within.2 _ (by decide))).trans
        (rbit_iset_any ⟨pgRECORDER, by decide⟩ (by decide) _)
    · have hpage : aRECORDER_SEGTKT i ∉ doneRegs ∧ aRECORDER_SEGTKT i ≠ aISTAT pgRECORDER := by
        have h : ∀ i : Fin 64, aRECORDER_SEGTKT i ∉ doneRegs ∧ aRECORDER_SEGTKT i ≠ aISTAT pgRECORDER := by decide
        exact h ⟨i, hlt⟩
      rw [hset.within.2 _ hpage.1, rget_iset_ne _ _ _ hpage.2]
      exact h2 hs.1 g (List.mem_of_find?_eq_some hg) hk i hi
  · unfold segmentComplete
    split
    · rfl
    · next g hg =>
      split
      · rfl
      · next c hc => exact if_neg fun hf => hno g ⟨hg, c, hc, hf⟩

/-! ### O58: the runs of the player -/

theorem dropEv_of_none {t : Word} {l : List Ev} (h : findEv t l = none) : dropEv t l = l :=
  List.filter_eq_self.2 fun x hx => by simpa using findEv_none_iff.1 h x hx

theorem finishRunning_running (t : Word) (d : Nat) (s : State) : (finishRunning t d s).comp.running = dropEv t
    s.comp.running := by
  unfold finishRunning
  split
  · next h => exact (dropEv_of_none h).symm
  · exact finishAt_running ..

/-- What does not run does not run after other entries end. -/
theorem findEv_finishRunning_of_none {t : Word} {s : State} (h : findEv t s.comp.running = none) (u : Word) (d : Nat) :
    findEv t (finishRunning u d s).comp.running = none := by
  rw [finishRunning_running]
  exact findEv_none_iff.2 fun x hx => findEv_none_iff.1 h x (List.mem_filter.1 hx).1

theorem runEnd_effect (x : VoiceRun) (c : Nat) (s : State) : runOver x s (runEnd x c s) := by
  let s1 : State := setCist { s.cistern with voices := s.cistern.voices.filter fun y => y.ticket != x.ticket } s
  have h0 : Settles doneParts (· ∈ doneRegs) (voiceDone s1) (finishRunning x.ticket c (voiceDone s1)) :=
    (Settles.refl ..).finishRunning room_done _ _
  have h1 : Settles doneParts (· ∈ doneRegs) (voiceDone s1) (runEnd x c s) := by
    exact Settles.foldl (fun _ _ hu => hu.finishRunning room_done _ _) _ h0
  refine ⟨congrArg CistSt.voices (h1.within.1 .cistern (by decide)), ?_, ?_⟩
  · exact (congrArg (bit · 2) (h1.within.2 _ (by decide))).trans (rbit_iset_any ⟨pgPLAYER, by decide⟩ (by decide) s1)
  · exact List.foldlRecOn (motive := fun u : State => findEv x.ticket u.comp.running = none) _ _
      (findEv_finishRunning ..)
      fun u hu t _ => findEv_finishRunning_of_none hu t c

theorem find?_first {α : Type} {p : α → Bool} {l before after : List α} {x : α} (hl : l = before ++ x :: after)
    (hb : ∀ y ∈ before, ¬ p y = true) (hx : p x = true) : l.find? p = some x := by
  rw [hl, List.find?_append, List.find?_eq_none.2 hb, Option.none_or, List.find?_cons_of_pos hx]

/-- The test by which VOICE_END finds its run. -/
def endsPlayed (s : State) (v : Nat) (x : VoiceRun) : Bool := x.v == v && !x.loop && decide
    (s.tb.frame ≥ x.start + x.length)
  && (match fadeLast x with | some l => decide (x.start + x.length ≤ l) | none => true)

theorem endsPlayed_iff {v : Nat} {x : VoiceRun} : endsPlayed s v x = true ↔ playedOut s v x := by
  unfold endsPlayed playedOut
  cases fadeLast x <;> simp [and_assoc]

theorem voiceEnd_eq (v : Nat) (s : State) : voiceEnd v s =
    match s.cistern.voices.find? (endsPlayed s v) with
    | some x => runEnd x (x.start + x.length) s
    | none => s := rfl

/-- The test by which STOP_FADE_END finds its run. -/
def endsFaded (s : State) (v : Nat) (x : VoiceRun) : Bool := x.v == v && (match fadeLast x with
  | some l => decide (s.tb.frame ≥ l) && (x.loop || decide (l < x.start + x.length)) | none => false)

theorem endsFaded_iff {v : Nat} {x : VoiceRun} : endsFaded s v x = true ↔ fadedOut s v x := by
  unfold endsFaded fadedOut
  cases fadeLast x <;> simp

theorem stopFadeEnd_eq (v : Nat) (s : State) : stopFadeEnd v s =
    match s.cistern.voices.find? (endsFaded s v) with
    | some x => runEnd x ((fadeLast x).getD s.tb.frame) s
    | none => s := rfl

/-- O58, VOICE_END and STOP_FADE_END. -/
theorem runEnds_effect (hl : Live s) (v : Fin 256) {x : VoiceRun} {before after : List VoiceRun}
    (hv : s.cistern.voices = before ++ x :: after) :
    ((∀ y ∈ before, ¬ playedOut s v.val y) → playedOut s v.val x → Runs (.voiceEnd v) s fun t => runOver x s t) ∧
    ((∀ y ∈ before, ¬ fadedOut s v.val y) → fadedOut s v.val x → Runs (.stopFadeEnd v) s fun t => runOver x s t) := by
  refine ⟨fun hb hx => runs_awake hl rfl ?_, fun hb hx => runs_awake hl rfl ?_⟩
  · rw [voiceEnd_eq, find?_first hv (fun y hy h => hb y hy (endsPlayed_iff.1 h)) (endsPlayed_iff.2 hx)]
    exact runEnd_effect ..
  · rw [stopFadeEnd_eq, find?_first hv (fun y hy h => hb y hy (endsFaded_iff.1 h)) (endsFaded_iff.2 hx)]
    exact runEnd_effect ..

theorem runEnds_idle (hl : Live s) (v : Fin 256) :
    ((∀ y ∈ s.cistern.voices, ¬ playedOut s v.val y) → Runs (.voiceEnd v) s fun t => t = s) ∧
    ((∀ y ∈ s.cistern.voices, ¬ fadedOut s v.val y) → Runs (.stopFadeEnd v) s fun t => t = s) := by
  refine ⟨fun h => runs_awake hl rfl ?_, fun h => runs_awake hl rfl ?_⟩
  · rw [voiceEnd_eq, List.find?_eq_none.2 fun y hy hp => h y hy (endsPlayed_iff.1 hp)]
  · rw [stopFadeEnd_eq, List.find?_eq_none.2 fun y hy hp => h y hy (endsFaded_iff.1 hp)]

/-! ### O58: the aperture of the Cistern -/

/-- The word `b` of the Cistern after a write of `v` under byte enables. -/
def cwEnabled (b : Nat) (be : BitVec 4) (v : Word) (s : State) : State :=
  (List.range 4).foldl (fun s j => if be.getLsbD j then cwByte (b + j) (v.extractLsb' (8 * j) 8) s else s) s

theorem cwEnabled_cist (b : Nat) (be : BitVec 4) (v : Word) (s : State) : ∃ x, cwEnabled b be v s =
    { s with cist := x } := by
  refine List.foldlRecOn (motive := fun u : State => ∃ x, u = { s with cist := x }) _ _ ⟨s.cist, rfl⟩
    fun u ⟨x, hx⟩ j _ => ?_
  rw [hx]
  split
  · exact ⟨_, rfl⟩
  · exact ⟨x, rfl⟩

theorem cdByte_cwByte (hwf : spWf cistReset s.cist = true) (a : Nat) (v : Byte) (k : Nat) :
    cdByte (cwByte a v s) k = if k = a then v else cdByte s k := by
  unfold cdByte cwByte
  split
  · next h => rw [h]; exact spGet_spSet_same hwf _ _
  · next h => exact spGet_spSet_ne _ _ h

theorem cdByte_cwEnabled (hwf : spWf cistReset s.cist = true) (b : Nat) (be : BitVec 4) (v : Word) (k : Nat) :
    cdByte (cwEnabled b be v s) k =
      if b ≤ k ∧ k < b + 4 ∧ be.getLsbD (k - b) = true then v.extractLsb' (8 * (k - b)) 8 else cdByte s k := by
  have hstep (m : Nat) : spWf cistReset ((List.range m).foldl (fun s j =>
      if be.getLsbD j then cwByte (b + j) (v.extractLsb' (8 * j) 8) s else s) s).cist = true ∧
      cdByte ((List.range m).foldl (fun s j => if be.getLsbD j then cwByte (b + j) (v.extractLsb' (8 * j) 8) s else
        s) s) k =
        if b ≤ k ∧ k < b + m ∧ be.getLsbD (k - b) = true then v.extractLsb' (8 * (k - b)) 8 else cdByte s k := by
    induction m with
    | zero => exact ⟨hwf, (if_neg (by omega)).symm⟩
    | succ m ih =>
      obtain ⟨ih1, ih2⟩ := ih
      rw [List.range_succ, List.foldl_append]
      generalize (List.range m).foldl _ s = u at ih1 ih2
      dsimp only [List.foldl_cons, List.foldl_nil]
      by_cases hb : be.getLsbD m = true
      · rw [if_pos hb]
        refine ⟨spWf_spSet ih1 _ _, ?_⟩
        rw [cdByte_cwByte ih1]
        by_cases hk : k = b + m
        · rw [if_pos hk, show k - b = m by omega, if_pos ⟨by omega, by omega, hb⟩]
        · rw [if_neg hk, ih2]
          exact if_congr (by constructor <;> rintro ⟨h1, h2, h3⟩ <;> exact ⟨h1, by omega, h3⟩) rfl rfl
      · rw [if_neg hb]
        refine ⟨ih1, ih2.trans (if_congr ?_ rfl rfl)⟩
        constructor
        · rintro ⟨h1, h2, h3⟩
          exact ⟨h1, by omega, h3⟩
        · rintro ⟨h1, h2, h3⟩
          refine ⟨h1, Nat.lt_of_le_of_ne (by omega) fun h => hb ?_, h3⟩
          rwa [show m = k - b by omega]
  exact (hstep 4).2

/-- What a write through the aperture leaves when it takes effect, before the copy for the partner. -/
def apStored (b : Nat) (be : BitVec 4) (v : Word) (s : State) : State :=
  freshen (cistBase + b) (cwEnabled b be v (dramTouch 5 (b / 64) 4 s))

theorem apStored_effect (hc : spWf cistReset s.cist = true) (b : Nat) (be : BitVec 4) (v : Word) :
    Within [.regs, .cist, .cistern, .fab] (· = aISTAT pgECC) s (apStored b be v s) ∧
      ∀ k, cdByte (apStored b be v s) k =
        if b ≤ k ∧ k < b + 4 ∧ be.getLsbD (k - b) = true then v.extractLsb' (8 * (k - b)) 8 else cdByte s k := by
  let s1 := dramTouch 5 (b / 64) 4 s
  let s2 := cwEnabled b be v s1
  have hw2 : Within [.regs, .cist, .cistern, .fab] (· = aISTAT pgECC) s s2 := by
    obtain ⟨x, hx⟩ := cwEnabled_cist b be v s1
    unfold s2
    rw [hx]
    exact ⟨fun p hp => by cases p <;> first | exact absurd (by decide) hp | rfl, fun _ _ => rfl⟩
  have hfr := within_freshen (cistBase + b) s2
  refine ⟨hw2.trans (hfr.mono (by decide) fun _ h => h), fun k => ?_⟩
  have hcist : (apStored b be v s).cist = s2.cist := hfr.1 .cist (by decide)
  exact (congrArg (spGet cistReset · k) hcist).trans (cdByte_cwEnabled (s := s1) hc b be v k)

/-- The copy for the partner changes the state of the twin alone. -/
theorem sendCell_effect (ch : Nat) (body : CellBody) (u : State) : Within [.twin] (fun _ => False) u
    (sendCell ch body u) ∧
    (u.twin.link = true → (sendCell ch body u).twin.sent.head?.map (fun y => (y.ch, y.body)) = some (ch, body)) := by
  unfold sendCell
  split
  · exact ⟨⟨fun p hp => by cases p <;> first | exact absurd (by decide) hp | rfl, fun _ _ => rfl⟩, fun _ => rfl⟩
  · next h => exact ⟨.refl .., fun hl => absurd hl h⟩

/-- What a write through the aperture leaves when it takes effect. -/
def apTold (b : Nat) (u : State) : State := if isActive u then sendCell 5 (.words true [(b, cdWord u b)]) u else u

theorem apTold_effect (b : Nat) (u : State) : Within [.twin] (fun _ => False) u (apTold b u) ∧
    (isActive u = true → u.twin.link = true →
      (apTold b u).twin.sent.head?.map (fun y => (y.ch, y.body)) = some (5, .words true [(b, cdWord u b)])) ∧
    (isActive u = false → (apTold b u).twin = u.twin) := by
  obtain ⟨h1, h2⟩ := sendCell_effect 5 (.words true [(b, cdWord u b)]) u
  unfold apTold
  split
  · next h => exact ⟨h1, fun _ => h2, fun hn => absurd h (by simp [hn])⟩
  · next h => exact ⟨.refl .., fun ha => absurd ha h, fun _ => rfl⟩

theorem apWrite_stored {a : Nat} (hr : apRefused s a = false) {be : BitVec 4} (hf : be = 0xF#4 ∨ s.fab.flips = [])
    (v : Word) :
    let b := apByte s a
    apWrite a be v s = (apTold b (apStored b be v s), true) := by
  have hok : be = 0xF#4 ∨ s.fab.flips.isEmpty = true := hf.imp_right fun h => by rw [h]; rfl
  intro b
  unfold apWrite
  rw [if_neg (by simp [hr])]
  dsimp only
  rw [if_pos hok]
  rfl

theorem getLsbD_offset {b j : Nat} (hj : j < 4) (be : BitVec 4) (v : Word) (x : Byte) :
    (if b ≤ b + j ∧ b + j < b + 4 ∧ be.getLsbD (b + j - b) = true then v.extractLsb' (8 * (b + j - b)) 8 else x) =
      if be.getLsbD j then v.extractLsb' (8 * j) 8 else x := by
  rw [show b + j - b = j by omega]
  exact if_congr ⟨fun h => h.2.2, fun h => ⟨by omega, by omega, h⟩⟩ rfl rfl

theorem memWrite_aperture {a : Nat} (ha : a < 0x200000) (be : BitVec 4) (v : Word) :
    memWrite a be v s = ((apWrite a be v s).1,
      if (apWrite a be v s).2 then 0 else if apRefused s a then stsRefused else stsUe) := by
  unfold memWrite
  rw [if_pos ha]

/-- O58, a write through the aperture. -/
theorem apertureWrite_effect (hs : Canonical s) (x : HostAcc) (hlo : 0x100000 ≤ busAddr x.addr)
    (hhi : busAddr x.addr < 0x200000)
    (h : Served s (busAddr x.addr) ⟨x.lvl, x.be, x.v⟩) :
    let b := apByte s (busAddr x.addr)
    (apRefused s (busAddr x.addr) = false → x.be = 0xF#4 ∨ s.fab.flips = [] → Runs (.apertureWrite x) s fun t =>
      lastStatus t = 0 ∧
      (∀ j, j < 4 → cdByte t (b + j) = if x.be.getLsbD j then x.v.extractLsb' (8 * j) 8 else cdByte s (b + j)) ∧
      (∀ k, k < b ∨ b + 4 ≤ k → cdByte t k = cdByte s k) ∧ KeepsBut [.regs, .cist, .cistern, .twin, .fab] s t ∧
      (isActive s = true → s.twin.link = true →
        t.twin.sent.head?.map (fun y => (y.ch, y.body)) = some (5, .words true [(b, cdWord t b)])) ∧
      (isActive s = false → t.twin = s.twin)) ∧
    (apRefused s (busAddr x.addr) = false → x.be ≠ 0xF#4 → s.fab.flips ≠ [] → ueAt s (cistBase + b) = true →
      Runs (.apertureWrite x) s fun t => lastStatus t = 6 ∧ t.cist = s.cist ∧ t.mem = s.mem) ∧
    (apRefused s (busAddr x.addr) = true → Runs (.apertureWrite x) s fun t => refusedWith 3 pgDDRC (busAddr x.addr) s
      t) := by
  have hrun := hostWrite_memory h (le_trans (by decide) hlo) (writeHeld_shared (by omega))
  rw [memWrite_aperture hhi] at hrun
  clear h hlo hhi
  generalize busAddr x.addr = a at hrun
  intro b
  refine ⟨fun hr hf => ?_, fun hr hbe hfl hue => ?_, fun hr => ?_⟩
  · obtain ⟨hw, hcd⟩ := apStored_effect hs.2.2.1 b x.be x.v
    have hwf := ((tidy_of_canonical hs).apWrite a x.be x.v).regs_wf
    rw [apWrite_stored hr hf] at hrun hwf
    dsimp only at hrun hwf
    rw [if_pos rfl, show apByte s a = b from rfl] at hrun
    rw [show apByte s a = b from rfl] at hwf
    have hact : isActive (apStored b x.be x.v s) = isActive s := congrArg (fun y : TwinSt => y.st == .active)
        (hw.1 .twin (by decide))
    have htwin : (apStored b x.be x.v s).twin = s.twin := hw.1 .twin (by decide)
    obtain ⟨hsw, hsent, hquiet⟩ := apTold_effect b (apStored b x.be x.v s)
    rw [hact, htwin] at hsent hquiet
    generalize apStored b x.be x.v s = u at hrun hw hcd hwf hsw hsent hquiet
    generalize apTold b u = w at hrun hwf hsw hsent hquiet
    have hcist : w.cist = u.cist := hsw.1 .cist (by decide)
    have hall : Within [.regs, .cist, .cistern, .twin, .fab] (· = aISTAT pgECC) s w :=
      (hw.mono (by decide) fun _ h => h).trans (hsw.mono (by decide) fun _ h => h.elim)
    have hend := within_endAccess (s := w) (status := 0) (l := x.lvl) (a := a) true
    have hecist : (endAccess 0 x.lvl true a w).cist = u.cist := Eq.trans (hend.1 .cist (by decide)) hcist
    have hetwin : (endAccess 0 x.lvl true a w).twin = w.twin := hend.1 .twin (by decide)
    have hbyte (k : Nat) : cdByte (endAccess 0 x.lvl true a w) k = cdByte u k := congrArg (spGet cistReset · k) hecist
    refine ⟨_, congrArg Host.Outcome.next hrun, lastStatus_endAccess hwf (by decide), fun j hj => ?_, fun k hk => ?_,
      hall.ofEnd _ _, fun ha hl => ?_, fun ha => ?_⟩
    · rw [hbyte, hcd]
      exact getLsbD_offset hj ..
    · rw [hbyte, hcd, if_neg (by omega)]
    · have hword : cdWord (endAccess 0 x.lvl true a w) b = cdWord u b := by
        unfold cdWord
        rw [hbyte, hbyte, hbyte, hbyte]
      rw [hword]
      exact (congrArg (fun y : TwinSt => y.sent.head?.map fun y => (y.ch, y.body)) hetwin).trans (hsent ha hl)
    · exact hetwin.trans (hquiet ha)
  · have hread : eccRead (cistBase + b) s = (eccUncorrectable (cistBase + b) s, true) := by
      unfold eccRead
      rw [beq_iff_eq.1 hue]
    have hap : apWrite a x.be x.v s = (eccUncorrectable (cistBase + b) s, false) := by
      unfold apWrite
      rw [if_neg (by simp [hr])]
      dsimp only
      rw [if_neg (show ¬ (x.be = 0xF#4 ∨ s.fab.flips.isEmpty = true) by simp [hbe, hfl]), hread, if_pos rfl]
    have hend := within_endAccess (s := eccUncorrectable (cistBase + b) s) (status := stsUe) (l := x.lvl) (a := a) true
    have hcist : (eccUncorrectable (cistBase + b) s).cist = s.cist :=
      (keepsBut_of fun hl h => h.eccUncorrectable _ hl) .cist (by decide)
    rw [hap, hr] at hrun
    simp only [Bool.false_eq_true, if_false] at hrun
    exact ⟨_, congrArg Host.Outcome.next hrun, lastStatus_endAccess
      ((tidy_of_canonical hs).eccUncorrectable _).regs_wf (by decide),
      Eq.trans (hend.1 .cist (by decide)) hcist, Eq.trans (hend.1 .mem (by decide)) (eccUncorrectable_mem _ _)⟩
  · have hap : apWrite a x.be x.v s = (errcap pgDDRC 3 a s, false) := if_pos hr
    rw [hap, hr] at hrun
    exact ⟨_, congrArg Host.Outcome.next hrun, refusedWith_of_errcap hs (by decide) (by decide)⟩

/-- Settles O58: each event of the recorder, the player and the aperture. -/
theorem recorderPlayerAndAperture : Obligations.RecorderPlayerAndAperture :=
  ⟨fun _ _ _ _ _ _ _ _ hs h ho hp => play_effect hs h ho hp, fun _ _ _ _ _ hs h ho hp => stopPlay_effect hs h ho hp,
    fun _ _ _ _ h ho => recordSeg_effect h ho, fun _ w hs h hsolo => (recorderFreeze_effect hs w).1 h hsolo,
    fun _ w hs h hsolo => (recorderFreeze_effect hs w).2 h hsolo, fun _ _ _ _ _ h ho hp => freezeLands_effect h ho hp,
    fun _ k hs hl => segmentComplete_effect hs hl k, fun _ v _ _ _ _ hl hv => runEnds_effect hl v hv, fun _ v hl =>
      runEnds_idle hl v,
    fun _ x hs hlo hhi h => apertureWrite_effect hs x hlo hhi h⟩

end Sys2Proof.Machine
end

section
/-!
PROOFS. The debug controls of a Press, its local memory and its messages: O31 (chapter 05).
-/

-- One declaration after another: side by side, the stacks of the threads exceed what memory the check allows.
set_option Elab.async false

namespace Sys2Proof.Machine

variable {s : State}

/-! ### O31: what a step of a Press leaves of CTRL and of the writes that wait -/

/-- CTRL of Press `p`, the writes that wait and the frozen counters are the same. -/
structure KeepsCtrl (p : Fin 16) (s t : State) : Prop where
  landNext : t.landNext = s.landNext
  frozen : t.frozen = s.frozen
  ctrl : rget t (aCTRL (pgPRESS p)) = rget s (aCTRL (pgPRESS p))

namespace KeepsCtrl
variable {p : Fin 16} {t u : State}

theorem refl (p : Fin 16) (s : State) : KeepsCtrl p s s := ⟨rfl, rfl, rfl⟩

theorem trans (h : KeepsCtrl p s t) (k : KeepsCtrl p t u) : KeepsCtrl p s u :=
  ⟨k.landNext.trans h.landNext, k.frozen.trans h.frozen, k.ctrl.trans h.ctrl⟩

theorem ite {c : Prop} [Decidable c] (h : KeepsCtrl p s t) (k : KeepsCtrl p s u) : KeepsCtrl p s
    (if c then t else u) := by
  split <;> assumption

theorem foldl {α : Type} {f : State → α → State} (hf : ∀ u x, KeepsCtrl p s u → KeepsCtrl p s (f u x)) (m : List α)
    (h : KeepsCtrl p s t) : KeepsCtrl p s (m.foldl f t) :=
  List.foldlRecOn (motive := KeepsCtrl p s) m f h fun u hu x _ => hf u x hu

theorem within {l : List Part} {A : Nat → Prop} (h : KeepsCtrl p s t) (hw : Within l A t u)
    (hl : .landNext ∉ l ∧ .frozen ∉ l)
    (ha : ¬ A (aCTRL (pgPRESS p))) : KeepsCtrl p s u :=
  h.trans ⟨hw.1 .landNext hl.1, hw.1 .frozen hl.2, hw.2 _ ha⟩

theorem setPress (h : KeepsCtrl p s t) (q : Fin 16) (x : PressSt) : KeepsCtrl p s (setPress q x t) :=
    ⟨h.landNext, h.frozen, h.ctrl⟩

theorem rset (h : KeepsCtrl p s t) {a : Nat} (v : Word) (ha : aCTRL (pgPRESS p) ≠ a) : KeepsCtrl p s (rset a v t) :=
  ⟨h.landNext, h.frozen, (rget_rset_ne t v ha).trans h.ctrl⟩

theorem ne_pressReg (p q : Fin 16) {o : Nat} (ho : o < 0x1000) (h8 : o ≠ 8) : aCTRL (pgPRESS p) ≠ pageAddr
    (pgPRESS q) o := by
  unfold aCTRL pageAddr pgPRESS
  omega

theorem iset (h : KeepsCtrl p s t) (g b : Nat) : KeepsCtrl p s (iset g b t) :=
  h.rset _ (by unfold aCTRL aISTAT pageAddr; omega)

theorem setPMode (h : KeepsCtrl p s t) (m : PMode) : KeepsCtrl p s (setPMode p m t) := .ite h
    ((h.setPress _ _).iset _ _)

theorem enterPressFault (h : KeepsCtrl p s t) (cause addr : Nat) : KeepsCtrl p s (enterPressFault p cause addr t) :=
  ((((h.setPress _ _).setPMode _).rset _
    (by simp only [aCTRL, aPRESS_FAULTINFO, pgPRESS, pageAddr]; omega)).iset _ _).rset _
    (by simp only [aCTRL, aINTC_ALMSRC, pgPRESS, pageAddr]; omega)

theorem raiseFault (h : KeepsCtrl p s t) (cause addr : Nat) (pc : BitVec 13) : KeepsCtrl p s
    (raiseFault p cause addr pc t) :=
  .ite h ((h.setPress _ _).rset _ (by simp only [aCTRL, aPRESS_FAULTINFO, pgPRESS, pageAddr]; omega))

theorem eccRead (h : KeepsCtrl p s t) (a : Nat) : KeepsCtrl p s (eccRead a t).1 := by
  have hf : Fetched (.mem :: eccParts) (fun a => pageOf a ∈ eccPages) t (Machine.eccRead a t).1 :=
    (Fetched.refl ..).eccRead ⟨by decide, fun _ h => h⟩ a fun _ => List.mem_cons_self
  have hpage : ∀ q : Fin 16, pageOf (aCTRL (pgPRESS q)) ∉ eccPages := by decide
  exact h.within hf.within (by decide) (hpage p)

theorem storeLoc (h : KeepsCtrl p s t) (x : PLoc × Word) : KeepsCtrl p s (storeLoc p x t) := by
  unfold Machine.storeLoc
  split
  · next a _ =>
    refine h.trans ⟨?_, ?_, rget_stWord_ne _ _ _ ?_⟩
    · exact (keepsBut_of (l := [.regs, .mem, .fab]) fun _ h => h.stWord ..) .landNext (by decide)
    · exact (keepsBut_of (l := [.regs, .mem, .fab]) fun _ h => h.stWord ..) .frozen (by decide)
    · simp only [aCTRL, aISTAT, pgPRESS, pgECC, pageAddr]
      omega
  · exact h.setPress _ _
  · exact (h.rset _ (by simp only [aCTRL, aPRESS_SIGNAL, pgPRESS, pageAddr]; omega)).iset _ _
  · exact h

theorem issueOnce (h : KeepsCtrl p s t) (arith : BitVec 22) (effs : PressSt → Nat → List MoveEff) :
    KeepsCtrl p s (issueOnce p arith effs t) :=
  .foldl (fun _ a hu => .ite ((hu.eccRead a).enterPressFault _ _) (hu.eccRead a)) _
    (.foldl (fun _ _ hu => hu.raiseFault ..) _ (.foldl (fun _ x hu => hu.storeLoc x) _ (h.setPress _ _)))

theorem issueTimes (arith : BitVec 22) (effs : State → PressSt → Nat → List MoveEff) (n : Nat) :
    ∀ {t : State}, KeepsCtrl p s t → KeepsCtrl p s (issueTimes p arith effs n t) := by
  induction n with
  | zero => exact id
  | succ n ih => exact fun h => .ite (h.issueOnce ..) (ih (h.issueOnce ..))

theorem illegalWord (h : KeepsCtrl p s t) : KeepsCtrl p s (illegalWord p t) := (h.setPress _ _).raiseFault ..

theorem issueFields (h : KeepsCtrl p s t) (long : Bool) (arith : BitVec 22) (mv : BitVec 40) :
    KeepsCtrl p s (issueFields p long arith mv t) :=
  .ite (.ite (issueTimes _ _ _ (h.setPress _ _)) ((issueTimes _ _ _ (h.setPress _ _)).setPress _ _)) h.illegalWord

theorem acceptEntry (h : KeepsCtrl p s t) (kind : PKind) : KeepsCtrl p s (acceptEntry p kind t) := by
  have h1 : KeepsCtrl p s (if kind = .fault then Machine.iset (pgPRESS p) 1 t else t) := .ite (h.iset _ _) h
  exact .ite ((h1.setPress _ _).enterPressFault _ _) (.ite ((h1.setPress _ _).enterPressFault _ _) (h1.setPress _ _))

theorem enterWait (h : KeepsCtrl p s t) : KeepsCtrl p s (enterWait p t) := by
  have h1 := (h.setPress p { t.press[p] with wait := true }).rset
      (w32 (min (t.press[p].cyc - t.press[p].tickCyc) (2 ^ 18 - 1)))
    (a := aPRESS_LOAD p) (by simp only [aCTRL, aPRESS_LOAD, pgPRESS, pageAddr]; omega)
  exact .ite (h1.rset _ (by simp only [aCTRL, aPRESS_LOAD_PEAK, pgPRESS, pageAddr]; omega)) h1

theorem freeWord (h : KeepsCtrl p s t) : KeepsCtrl p s (freeWord t).2 := ⟨h.landNext, h.frozen, h.ctrl⟩

theorem issueCtl (h : KeepsCtrl p s t) (c : Ctl) : KeepsCtrl p s (issueCtl p c t) := by
  unfold Machine.issueCtl
  cases c with
  | call k a => exact .ite (.ite ((h.setPress _ _).enterPressFault _ _) (h.setPress _ _)) (h.setPress _ _)
  | rts k =>
    dsimp only
    split
    · exact h
    · exact .ite (h.setPress _ _) (h.setPress _ _)
  | rti =>
    dsimp only
    split
    · exact h
    · exact .ite (h.freeWord.setPress _ _) (h.setPress _ _)
  | wait => exact (h.setPress _ _).enterWait
  | trap => exact (h.setPress _ _).acceptEntry _
  | bra | jmpr | rep | repr | loop | loopr | movs => exact h.setPress _ _

theorem issueControl (h : KeepsCtrl p s t) (c : Ctl) : KeepsCtrl p s (issueControl p c t) :=
  .ite ((h.setPress _ _).raiseFault ..) (.ite (h.issueCtl c) h.illegalWord)

theorem issueWord (h : KeepsCtrl p s t) (w : BitVec 64) : KeepsCtrl p s (issueWord p w t) := by
  unfold Machine.issueWord
  split
  · exact h.issueFields ..
  · exact h.issueFields ..
  · split
    · exact h.issueControl _
    · exact h.illegalWord
  · exact h.illegalWord

theorem fetchEcc (h : KeepsCtrl p s t) : KeepsCtrl p s (fetchEcc p t).1 := by
  unfold Machine.fetchEcc
  split
  · exact h
  · exact (h.eccRead _).eccRead _

theorem dbgStepOne (h : KeepsCtrl p s t) : KeepsCtrl p s (dbgStepOne p t) :=
  .ite (.ite (h.fetchEcc.enterPressFault _ _) ((h.fetchEcc.issueWord _).setPress _ _)) h

theorem dbgResume (h : KeepsCtrl p s t) : KeepsCtrl p s (dbgResume p t) := .ite ((h.setPress _ _).setPMode _) h

theorem dbgStep (h : KeepsCtrl p s t) : KeepsCtrl p s (dbgStep p t) :=
  .ite (.ite (.ite (h.dbgStepOne.iset _ _) h.dbgStepOne.dbgResume) h.dbgStepOne) h

end KeepsCtrl

/-! ### O31: the write of CTRL that only the debug controls take effect of -/

/-- What the write of CTRL needs to know of its fields. -/
theorem pressCtrl_def : ∀ p : Fin 16, ∀ d ∈ regAt (aCTRL (pgPRESS p)),
    d.w1c = 0 ∧ d.rwp = 0 ∧ bit (rwMask d (pgPRESS p)) 7 = true ∧ d.w1s = 0x102 ∧ d.wo = 0 := by decide

theorem pressCtrl_regAt (p : Fin 16) : ∃ d, regAt (aCTRL (pgPRESS p)) = some d := by
  have h : ∀ p : Fin 16, (regAt (aCTRL (pgPRESS p))).isSome = true := by decide
  exact Option.isSome_iff_exists.1 (h p)

theorem bit7_newWord_pressCtrl {p : Fin 16} {d : RegDef} (hd : regAt (aCTRL (pgPRESS p)) = some d) (l : Nat)
    (old v : Word) :
    bit (newWord d (pgPRESS p) l old v) 7 = bit v 7 := by
  obtain ⟨hc, hp, hrw, -, -⟩ := pressCtrl_def p d hd
  unfold newWord
  dsimp only
  have hmask : bit (if l = 0 then rwMask d (pgPRESS p) ||| w32 d.rwp else rwMask d (pgPRESS p)) 7 = true := by
    split
    · rw [bit_or, hrw]
      rfl
    · exact hrw
  generalize (if l = 0 then rwMask d (pgPRESS p) ||| w32 d.rwp else rwMask d (pgPRESS p)) = m at hmask ⊢
  have hw : bit (maskWord m old v &&& ~~~(v &&& w32 d.w1c)) 7 = bit v 7 := by
    rw [hc, show w32 0 = 0#32 from rfl, BitVec.and_zero, BitVec.not_zero, BitVec.and_allOnes, bit_maskWord_of_set hmask]
  split
  · rw [bit_setBits _ _ _ _ (by decide), if_neg (by omega), hw]
  · exact hw

/-- The bits of a written CTRL that act: SRST and STEP. -/
theorem bit_ctrlActs {p : Fin 16} {d : RegDef} (hd : regAt (aCTRL (pgPRESS p)) = some d) (l : Nat) (v : Word) :
    let act := v &&& (w32 d.w1s ||| w32 d.wo ||| w32 d.w1c ||| (if l = 0 then w32 d.rwp else 0))
    bit act 1 = bit v 1 ∧ bit act 8 = bit v 8 := by
  obtain ⟨hc, hp, -, hs, ho⟩ := pressCtrl_def p d hd
  intro act
  have hact : act = v &&& 0x102#32 := by
    unfold act
    rw [hc, hp, hs, ho, show (if l = 0 then w32 0 else 0) = 0#32 by split <;> rfl]
    rfl
  rw [hact, bit_and, bit_and]
  simp [bit]

/-- The state in which the debug controls act: CTRL has taken the word `now`. -/
def ctrlState (p : Fin 16) (now : Word) (land froz : List (Nat × Word)) (s : State) : State :=
  { rset (aCTRL (pgPRESS p)) now s with landNext := land, frozen := froz }

/-- What the debug controls of a written CTRL do. -/
def debugActs (p : Fin 16) (old halt step : Bool) (u : State) : State :=
  let u1 := if old = halt then u else dbgHalt p halt u
  if step then dbgStep p u1 else u1

theorem ofNat_pgPRESS (p : Fin 16) : Fin.ofNat 16 (pgPRESS p - 0x20) = p := by
  revert p
  decide

/-- A Press that runs is not touched where EN was 0 and stays 0. -/
theorem pressEn_off {p : Fin 16} {u : State} (hm : u.press[p].mode = .run ∨ u.press[p].mode = .dbg) :
    pressEn p false false u = u := by
  unfold pressEn
  dsimp only
  rw [if_neg (by decide)]
  split
  · next h => rw [h] at hm; exact absurd hm (by decide)
  · next h => rw [h] at hm; exact absurd hm (by decide)
  · next h => rw [h] at hm; exact absurd hm (by decide)
  · exact if_neg (by decide)

/-- CTRL of a running or halted Press, where EN keeps its value and no reset is asked for: the debug controls act. -/
theorem ctrlAct_debug {p : Fin 16} {old new v : Word} {u : State} (h0 : bit new 0 = bit old 0) (h1 : bit v 1 = false)
    (hheld : u.press[p].srstHeld = false) (hm : u.press[p].mode = .run ∨ u.press[p].mode = .dbg) :
    ∃ froz, ctrlAct (pgPRESS p) old new v u =
      let u0 : State := { u with frozen := froz }
      let u1 := if bit old 7 = bit new 7 then u0 else dbgHalt p (bit new 7) u0
      if bit v 8 then dbgStep p u1 else u1 := by
  let f : State := if bit old 2 == bit new 2 then u else freezePage (pgPRESS p) (bit new 2) u
  have hf : ∃ froz, f = { u with frozen := froz } := by
    unfold f freezePage
    split
    · exact ⟨u.frozen, rfl⟩
    · exact ⟨_, rfl⟩
  obtain ⟨froz, hf⟩ := hf
  have hen : (if (bit old 0 != bit new 0) || !bit new 0 then pressEn p (bit old 0) (bit new 0) f else f) = f := by
    rw [h0]
    cases ho : bit old 0
    · have hfm : f.press[p].mode = u.press[p].mode := by rw [hf]
      exact pressEn_off (by rw [hfm]; exact hm)
    · rfl
  have hh : heldSrst p f = f := by
    refine if_neg fun hc => ?_
    have hfs : f.press[p].srstHeld = u.press[p].srstHeld := by rw [hf]
    rw [hfs, hheld] at hc
    exact absurd hc.1 (by simp)
  refine ⟨froz, ?_⟩
  unfold ctrlAct
  have hpage : 0x20 ≤ pgPRESS p ∧ pgPRESS p ≤ 0x2F := by unfold pgPRESS; omega
  have hf' : (if bit old 2 == bit new 2 then u else freezePage (pgPRESS p) (bit new 2) u) = f := rfl
  dsimp only
  rw [if_pos hpage, h1, ofNat_pgPRESS, hf', hen, hh, hf]
  simp only [beq_iff_eq, Bool.false_eq_true, if_false]

theorem pressCtrl_addr : ∀ p : Fin 16, pageOf (aCTRL (pgPRESS p)) = pgPRESS p ∧ offOf (aCTRL (pgPRESS p)) = 8 ∧
    busAddr (aCTRL (pgPRESS p)) = aCTRL (pgPRESS p) ∧ aCTRL (pgPRESS p) ≠ aSYS_RSTCMD ∧ aCTRL (pgPRESS p) ≠ aBOOT_CMD ∧
    aCTRL (pgPRESS p) ≠ aRECORDER_FREEZE ∧ dataPlane (pgPRESS p) = true ∧ ctrlNow (pgPRESS p) = 0x84#32 ∧
    soloLater (pgPRESS p) 8 = false ∧ aCTRL (pgPRESS p) ≠ aTIMEBASE_TACHCFG ∧ aCTRL (pgPRESS p) ≠ aTIMEBASE_CNTCFG :=
      by decide

theorem bit_maskWord_of_clear {m : Word} {i : Nat} (h : bit m i = false) (hi : i < 32) (old v : Word) :
    bit (maskWord m old v) i = bit old i := by
  simp [maskWord, bit_or, bit_and, bit_not hi, h]

/-- The register of the offset of CTRL: its bits act as the page says. -/
theorem regAct_ctrl {a : Nat} (ho : offOf a = 8) (h1 : a ≠ aTIMEBASE_TACHCFG) (h2 : a ≠ aTIMEBASE_CNTCFG)
    (direct : Bool)
    (tk : Option Word) (l : Nat) (old new v : Word) (t : State) :
    regAct direct tk l a old new v t = (ctrlAct (pageOf a) old new v (rset a new t), false) := by
  have hk : keepMode a old new = (new, false) := (if_neg h1).trans (if_neg h2)
  unfold regAct
  dsimp only
  rw [ho, if_neg (by decide), if_neg (by decide), hk, if_pos rfl]
  rfl

theorem landPage_pressCtrl {p : Fin 16} (hsolo : isSolo s = true) (l : Nat) (old new v : Word) :
    ∃ land, landPage l (aCTRL (pgPRESS p)) old new v s =
      ctrlAct (pgPRESS p) (rget s (aCTRL (pgPRESS p))) (maskWord 0x84#32 (rget s (aCTRL (pgPRESS p))) new) v
        (rset (aCTRL (pgPRESS p)) (maskWord 0x84#32 (rget s (aCTRL (pgPRESS p))) new) { s with landNext := land }) := by
  obtain ⟨hpage, hoff, -, h1, h2, h3, hdp, hnow, hlater, h4, h5⟩ := pressCtrl_addr p
  let cur := rget s (aCTRL (pgPRESS p))
  let now := maskWord 0x84#32 cur new
  refine ⟨if now = new then alDel s.landNext (aCTRL (pgPRESS p)) else alSet s.landNext (aCTRL (pgPRESS p)) new, ?_⟩
  unfold landPage
  dsimp only
  rw [hpage, hoff, if_neg h1, if_neg h2, if_neg (fun h => h3 h.2), if_neg
    (fun h => by simp [hlater] at h), if_pos ⟨hsolo, hdp, rfl⟩, hnow]
  generalize (if maskWord 0x84#32 (rget s (aCTRL (pgPRESS p))) new = new then _ else _) = land
  generalize maskWord 0x84#32 (rget s (aCTRL (pgPRESS p))) new = now
  rw [regAct_ctrl hoff h4 h5, hpage]

/-- A write of CTRL by a SOLO device to a Press that runs or stands in DBG_HALTED. -/
theorem ctrlWrite_press {p : Fin 16} {w : HW} (h : Accepted s (aCTRL (pgPRESS p)) w) (ht : ctrlTaken s p w.v)
    (hm : s.press[p].mode = .run ∨ s.press[p].mode = .dbg) :
    ∃ now land froz, bit now 7 = bit w.v 7 ∧ bit now 3 = remapBit s p ∧ writeAt (aCTRL (pgPRESS p)) w s =
      endAccess 0 w.lvl true (aCTRL (pgPRESS p)) (debugActs p (haltBit s p) (bit w.v 7) (bit w.v 8)
        (ctrlState p now land froz s)) := by
  obtain ⟨hsolo, h1, hheld⟩ := ht
  obtain ⟨d, hd⟩ := pressCtrl_regAt p
  obtain ⟨hpage, -, hbus, hrst, -⟩ := pressCtrl_addr p
  have hrun := hostWrite_accepted h hd hbus hrst fun hc => by simp [h1] at hc
  obtain ⟨ha1, ha8⟩ := bit_ctrlActs hd w.lvl w.v
  have hn7 : bit (newWord d (pageOf (aCTRL (pgPRESS p))) w.lvl.val (heldReg s (aCTRL (pgPRESS p))) w.v) 7 = bit w.v
      7 := by
    rw [hpage]
    exact bit7_newWord_pressCtrl hd _ _ _
  generalize newWord d _ _ _ _ = new at hrun hn7
  generalize w.v &&& _ = act at hrun ha1 ha8
  obtain ⟨land, hland⟩ := landPage_pressCtrl (p := p) hsolo w.lvl (heldReg s (aCTRL (pgPRESS p))) new act
  set now := maskWord 0x84#32 (rget s (aCTRL (pgPRESS p))) new with hnow
  have h0 : bit now 0 = bit (rget s (aCTRL (pgPRESS p))) 0 := bit_maskWord_of_clear (by decide) (by decide) _ _
  have h7 : bit now 7 = bit w.v 7 := (bit_maskWord_of_set (by decide) _ _).trans hn7
  obtain ⟨froz, hact⟩ := ctrlAct_debug (p := p) (old := rget s (aCTRL (pgPRESS p))) (new := now) (v := act)
    (u := rset (aCTRL (pgPRESS p)) now { s with landNext := land }) h0 (ha1.trans h1) hheld hm
  refine ⟨now, land, froz, h7, bit_maskWord_of_clear (by decide) (by decide) _ _, ?_⟩
  rw [writeAt, hrun, hland, hact, h7, ha8]
  rfl

/-! ### O31: the debug halt, the step and the breakpoint -/

section
variable {p : Fin 16} {now : Word} {land froz : List (Nat × Word)}

theorem ctrlState_press (p : Fin 16) (now : Word) (land froz : List (Nat × Word)) (s : State) :
    (ctrlState p now land froz s).press = s.press := rfl

theorem haltBit_ctrlState (hs : spWf resetWord s.regs = true) (p : Fin 16) (now : Word)
    (land froz : List (Nat × Word)) :
    haltBit (ctrlState p now land froz s) p = bit now 7 := congrArg (bit · 7)
      (rget_rset_same hs (aCTRL (pgPRESS p)) now)

theorem tidy_ctrlState (hs : Canonical s) (p : Fin 16) (now : Word) (land froz : List (Nat × Word)) :
    Tidy s.pending True (ctrlState p now land froz s) :=
  (((tidy_of_canonical hs).rset (aCTRL (pgPRESS p)) now).setLandNext land).setFrozen froz

end

theorem tidy_debugActs {q : List Instr} {c : Prop} {u : State} (h : Tidy q c u) (p : Fin 16) (old halt step : Bool) :
    Tidy q c (debugActs p old halt step u) := by
  have h1 : Tidy q c (if old = halt then u else dbgHalt p halt u) := .ite h (h.dbgHalt ..)
  exact .ite (h1.dbgStep ..) h1

/-- The halt bit as CTRL reads after the access. -/
theorem haltBit_endAccess (l : Fin 4) (p : Fin 16) (u : State) :
    haltBit (endAccess 0 l.val true (aCTRL (pgPRESS p)) u) p = haltBit u p := by
  have hpage : ∀ p : Fin 16, pageOf (aCTRL (pgPRESS p)) ∉ [pgHOSTIF] := by decide
  exact congrArg (bit · 7) ((within_endAccess true).2 _ (hpage p))

theorem press_endAccess (st : Nat) (l : Fin 4) (a : Nat) (u : State) : (endAccess st l.val true a u).press = u.press :=
  (within_endAccess true).1 .press (by decide)

/-- A Press that stops at a boundary. -/
theorem setPMode_dbg {p : Fin 16} {u : State} {x : PressSt} (h : u.press[p].mode ≠ .dbg)
    (hx : ∃ f b, x = { u.press[p] with fade := f, brkSeen := b }) :
    let t := setPMode p .dbg (setPress p x u)
    t.press[p].mode = .dbg ∧ t.press[p].pc = u.press[p].pc ∧ t.press[p].r = settledRegs u p ∧ OtherPresses p u t ∧
      Within [.regs, .press] (· ∈ [aISTAT (pgPRESS p)]) u t := by
  obtain ⟨f, b, rfl⟩ := hx
  intro t
  have ht : t = iset (pgPRESS p) 6
      (setPress p { drainPend { u.press[p] with fade := f, brkSeen := b } with mode := .dbg } u) := by
    unfold t setPMode
    rw [press_setPress_same]
    exact (if_neg h).trans (congrArg (iset (pgPRESS p) 6) (setPress_setPress ..))
  have hp : t.press = (setPress p { drainPend { u.press[p] with fade := f, brkSeen := b } with mode := .dbg }
      u).press := by rw [ht]; rfl
  have hx : t.press[p] = { drainPend { u.press[p] with fade := f, brkSeen := b } with mode := .dbg } := by
    rw [hp]
    exact press_setPress_same ..
  refine ⟨by rw [hx], by rw [hx]; rfl, by rw [hx]; rfl, fun q hq => ?_, ?_⟩
  · rw [hp]
    exact setPress_otherPresses _ _ _ q hq
  · rw [ht]
    exact Within.iset ⟨fun q hq => setPress_keepsBut _ _ _ q fun hm => hq (by simp at hm; simp [hm]), fun _ _ => rfl⟩
      _ (by decide)
      List.mem_cons_self

theorem haltBit_of_press {p : Fin 16} {l : List Part} {u t : State} (h : Within l (· ∈ [aISTAT (pgPRESS p)]) u t) :
    haltBit t p = haltBit u p := by
  refine congrArg (bit · 7) (h.2 _ ?_)
  simp only [List.mem_singleton, aCTRL, aISTAT, pageAddr]
  omega

/-- The write of CTRL has let the debug controls act on a state that differs in CTRL and in what the host sees alone. -/
theorem ctrlWrite_acts (hs : Canonical s) {p : Fin 16} {w : HW} (h : Accepted s (aCTRL (pgPRESS p)) w)
    (ht : ctrlTaken s p w.v)
    (hm : s.press[p].mode = .run ∨ s.press[p].mode = .dbg) :
    ∃ now land froz, bit now 7 = bit w.v 7 ∧ bit now 3 = remapBit s p ∧
      let u := ctrlState p now land froz s
      let v := debugActs p (haltBit s p) (bit w.v 7) (bit w.v 8) u
      let t := writeAt (aCTRL (pgPRESS p)) w s
      haltBit u p = bit w.v 7 ∧ Within [.regs] (pageOf · ∈ [pgHOSTIF]) v t ∧ t.press = v.press ∧ haltBit t p =
        haltBit v p ∧
        lastStatus t = 0 := by
  obtain ⟨now, land, froz, hn, hn3, hrun⟩ := ctrlWrite_press h ht hm
  refine ⟨now, land, froz, hn, hn3, ?_⟩
  have hu := haltBit_ctrlState hs.1 p now land froz
  have hwf := (tidy_debugActs (tidy_ctrlState hs p now land froz) p (haltBit s p) (bit w.v 7) (bit w.v 8)).regs_wf
  rw [hrun]
  exact ⟨hu.trans hn, within_endAccess true, press_endAccess .., haltBit_endAccess .., lastStatus_endAccess hwf
    (by decide)⟩

/-- O31, the debug halt. -/
theorem dbgHalt_effect (hs : Canonical s) {p : Fin 16} {w : HW} (h : Accepted s (aCTRL (pgPRESS p)) w)
    (ht : ctrlTaken s p w.v)
    (h8 : bit w.v 8 = false) :
    (bit w.v 7 = true → haltBit s p = false → s.press[p].mode = .run → atBoundary s.press[p] = true →
      Runs (.dbgHalt p w) s fun t => t.press[p].mode = .dbg ∧ t.press[p].pc = s.press[p].pc ∧ t.press[p].r =
        settledRegs s p ∧
        OtherPresses p s t ∧ haltBit t p = true ∧ lastStatus t = 0) ∧
    (bit w.v 7 = true → haltBit s p = false → s.press[p].mode = .run → atBoundary s.press[p] = false →
      Runs (.dbgHalt p w) s fun t => t.press = s.press ∧ haltBit t p = true ∧ lastStatus t = 0) ∧
    (bit w.v 7 = false → haltBit s p = true → s.press[p].mode = .dbg →
      Runs (.dbgHalt p w) s fun t => t.press[p].mode = .run ∧ t.press[p].pc = s.press[p].pc ∧ OtherPresses p s t ∧
        haltBit t p = false ∧ lastStatus t = 0) := by
  have hsolo (now land froz) : isSolo (ctrlState p now land froz s) = true := ht.1
  refine ⟨fun h7 hh hm hb => ⟨_, rfl, ?_⟩, fun h7 hh hm hb => ⟨_, rfl, ?_⟩, fun h7 hh hm => ⟨_, rfl, ?_⟩⟩
  · obtain ⟨now, land, froz, -, -, hu, -, hp, hhalt, hst⟩ := ctrlWrite_acts hs h ht (.inl hm)
    have hpress := ctrlState_press p now land froz s
    have hsolo := hsolo now land froz
    rw [hh, h7, h8] at hp hhalt
    rw [h7] at hu
    generalize ctrlState p now land froz s = u at hu hp hhalt hpress hsolo
    have hstops : dbgStops u p = true := by
      unfold haltBit at hu
      simp only [dbgStops, hsolo, hu, hpress, hm, hb]
      rfl
    have hdef : debugActs p false true false u = setPMode p .dbg
        (setPress p (fadeToBypass (u.tb.frame + 1) u.press[p]) u) :=
      if_pos hstops
    obtain ⟨h1, h2, h3, h4, h5⟩ := setPMode_dbg (u := u) (p := p) (x := fadeToBypass (u.tb.frame + 1) u.press[p])
      (by rw [hpress, hm]; decide) ⟨_, u.press[p].brkSeen, rfl⟩
    rw [hdef] at hp hhalt
    refine ⟨?_, ?_, ?_, fun q hq => ?_, ?_, hst⟩
    · rw [hp, h1]
    · rw [hp, h2, hpress]
    · rw [hp, h3, settledRegs, hpress, settledRegs]
    · rw [hp, h4 q hq, hpress]
    · rw [hhalt, haltBit_of_press h5, hu]
  · obtain ⟨now, land, froz, -, -, hu, -, hp, hhalt, hst⟩ := ctrlWrite_acts hs h ht (.inl hm)
    have hpress := ctrlState_press p now land froz s
    rw [hh, h7, h8] at hp hhalt
    rw [h7] at hu
    generalize ctrlState p now land froz s = u at hu hp hhalt hpress
    have hdef : debugActs p false true false u = u := by
      refine if_neg ?_
      simp only [dbgStops, hpress, hb]
      simp
    rw [hdef] at hp hhalt
    exact ⟨hp.trans hpress, hhalt.trans hu, hst⟩
  · obtain ⟨now, land, froz, -, -, hu, -, hp, hhalt, hst⟩ := ctrlWrite_acts hs h ht (.inr hm)
    have hpress := ctrlState_press p now land froz s
    rw [hh, h7, h8] at hp hhalt
    rw [h7] at hu
    generalize ctrlState p now land froz s = u at hu hp hhalt hpress
    let x : PressSt := { u.press[p] with fade := some ⟨true, u.tb.frame, fadeWeight u.press[p] u.tb.frame⟩ }
    have hdef : ∃ f, debugActs p true false false u =
        iset (pgPRESS p) 6 (setPress p { u.press[p] with fade := f, mode := .run } u) := by
      refine ⟨some ⟨true, u.tb.frame + 1, fadeWeight u.press[p] u.tb.frame⟩, ?_⟩
      have hr : debugActs p true false false u = dbgResume p u := rfl
      have hmu : u.press[p].mode = .dbg := by rw [hpress, hm]
      rw [hr, dbgResume, if_pos hmu, setPMode, press_setPress_same]
      refine (if_neg ?_).trans (congrArg (iset (pgPRESS p) 6) (setPress_setPress ..))
      rw [hmu]
      decide
    obtain ⟨f, hdef⟩ := hdef
    rw [hdef] at hp hhalt
    have hpr : (iset (pgPRESS p) 6 (setPress p { u.press[p] with fade := f, mode := .run } u)).press =
      (setPress p { u.press[p] with fade := f, mode := .run } u).press := rfl
    rw [hpr] at hp
    refine ⟨?_, ?_, fun q hq => ?_, ?_, hst⟩
    · rw [hp, press_setPress_same]
    · rw [hp, press_setPress_same, hpress]
    · rw [hp, setPress_otherPresses _ _ _ q hq, hpress]
    · rw [hhalt]
      refine Eq.trans (congrArg (bit · 7) (rget_iset_ne _ _ _ ?_)) hu
      unfold aCTRL aISTAT pageAddr
      omega

/-! ### O31: one step, the breakpoint, the local memory, messages -/

/-- The write of CTRL that asks for a step. -/
def stepWrite (w : HW) : HW := ⟨w.lvl, w.be, setBits w.v 8 8 1⟩

theorem stepWrite_bits (w : HW) : bit (stepWrite w).v 1 = bit w.v 1 ∧ bit (stepWrite w).v 7 = bit w.v 7 ∧ bit
    (stepWrite w).v 8 = true := by
  refine ⟨?_, ?_, ?_⟩ <;> exact bit_setBits _ _ _ _ (by decide)

theorem ctrlTaken_stepWrite {p : Fin 16} {w : HW} (h : ctrlTaken s p w.v) : ctrlTaken s p (stepWrite w).v := by
  obtain ⟨h1, h2, h3⟩ := h
  exact ⟨h1, (stepWrite_bits w).1.trans h2, h3⟩

/-- A write of CTRL that asks for a step while DBG_HALT stays set: one step is taken. -/
theorem dbgStep_acts (hs : Canonical s) {p : Fin 16} {w : HW} (h : Accepted s (aCTRL (pgPRESS p)) (stepWrite w))
    (ht : ctrlTaken s p w.v) (h7 : bit w.v 7 = true) (hh : haltBit s p = true) (hm : s.press[p].mode = .dbg) :
    ∃ now land froz, bit now 7 = true ∧ bit now 3 = remapBit s p ∧
      let u := ctrlState p now land froz s
      let t := writeAt (aCTRL (pgPRESS p)) (stepWrite w) s
      haltBit u p = true ∧ stepFrom s t p = u ∧ Within [.regs] (pageOf · ∈ [pgHOSTIF]) (dbgStep p u) t := by
  obtain ⟨now, land, froz, hn, hn3, hu, hw, -⟩ := ctrlWrite_acts hs h (ctrlTaken_stepWrite ht) (.inr hm)
  obtain ⟨-, hb7, hb8⟩ := stepWrite_bits w
  rw [hb7, h7] at hn hu
  rw [hb7, h7, hb8, hh] at hw
  refine ⟨now, land, froz, hn, hn3, hu, ?_, hw⟩
  have hstep : KeepsCtrl p (ctrlState p now land froz s) (dbgStep p (ctrlState p now land froz s)) :=
      (KeepsCtrl.refl ..).dbgStep
  have hpage : ∀ q : Fin 16, pageOf (aCTRL (pgPRESS q)) ∉ [pgHOSTIF] := by decide
  obtain ⟨h1, h2, h3⟩ := hstep.within hw (by decide) (hpage p)
  have hnow : rget (writeAt (aCTRL (pgPRESS p)) (stepWrite w) s) (aCTRL (pgPRESS p)) = now :=
    h3.trans (rget_rset_same hs.1 (aCTRL (pgPRESS p)) now)
  rw [stepFrom, hnow, h1, h2]
  rfl

/-- A step that leaves the Press in DBG_HALTED, while DBG_HALT is set. -/
theorem dbgStep_of_halted {p : Fin 16} {u : State} (hm : u.press[p].mode = .dbg) (hh : haltBit u p = true)
    (h1 : (dbgStepOne p u).press[p].mode = .dbg) : dbgStep p u = iset (pgPRESS p) 6 (dbgStepOne p u) := by
  have hhalt : haltBit (dbgStepOne p u) p = true := by
    rw [← hh]
    exact congrArg (bit · 7) (KeepsCtrl.refl p u).dbgStepOne.ctrl
  unfold dbgStep
  rw [if_pos hm]
  dsimp only
  rw [if_pos h1]
  exact if_pos hhalt

/-- O31, a step. -/
theorem dbgStep_effect (hs : Canonical s) {p : Fin 16} {w : HW}
    (h : Accepted s (aCTRL (pgPRESS p)) ⟨w.lvl, w.be, setBits w.v 8 8 1⟩)
    (ht : ctrlTaken s p w.v) (h7 : bit w.v 7 = true) (hh : haltBit s p = true) (hm : s.press[p].mode = .dbg) :
    Runs (.dbgStep p w) s fun t =>
      let s0 := stepFrom s t p
      (dbgStepOne p s0).press[p].mode = .dbg → t.press = (dbgStepOne p s0).press ∧ t.mem = (dbgStepOne p s0).mem := by
  have hrun : exec (.dbgStep p w) s = .next (writeAt (aCTRL (pgPRESS p)) (stepWrite w) s) := rfl
  refine ⟨_, hrun, ?_⟩
  obtain ⟨now, land, froz, -, -, hu, hfrom, hw⟩ := dbgStep_acts hs h ht h7 hh hm
  intro s0 hd
  have hs0 : s0 = ctrlState p now land froz s := hfrom
  rw [hs0] at hd ⊢
  rw [dbgStep_of_halted (p := p) (u := ctrlState p now land froz s) hm hu hd] at hw
  exact ⟨hw.1 .press (by decide), hw.1 .mem (by decide)⟩

theorem retire_of_nil {x : PressSt} (h : x.pend = []) (c : Nat) : retire c x = x := by
  unfold retire
  rw [h]
  cases x
  simp_all

theorem settleCounts_of_nil {x : PressSt} (h : x.pend = []) (j : Nat) : settleCounts j x = x := by
  unfold settleCounts
  cases x
  simp_all

theorem settleLa_of_nil {x : PressSt} (h : x.pend = []) (j : Nat) : settleLa j x = x := by
  unfold settleLa
  cases x
  simp_all

theorem drainPend_of_nil {x : PressSt} (h : x.pend = []) : drainPend x = x := by
  rw [drainPend, settleCounts_of_nil h, retire_of_nil h]

/-- With no active level the fetch compares nothing. -/
theorem loopCompare_of_idle {x : PressSt} (hla : x.la = Vector.replicate 2 false) :
    loopCompare x = { x with next := some (x.pc + 1) } := by
  have h (n : Fin 2) : (x.la[n] && x.r.le[n] == x.pc) = false := by rw [hla]; simp
  unfold loopCompare
  simp only [h, Bool.false_and, Bool.false_eq_true, if_false]

/-- With nothing in flight, no active level and no fetch behind it, a fetch only takes the next address. -/
theorem fetchStep_plain {x : PressSt} (hpend : x.pend = []) (hnext : x.next = none)
    (hla : x.la = Vector.replicate 2 false) :
    fetchStep x = { x with next := some (x.pc + 1) } := by
  unfold fetchStep
  rw [if_neg (by simp [hnext]), settleCounts_of_nil hpend, retire_of_nil hpend, loopCompare_of_idle hla]
  exact settleLa_of_nil (x := { x with next := some (x.pc + 1) }) hpend _

/-- The word 0 passes and changes nothing but the Press's own PC and cycle count. -/
theorem issueWord_zero {p : Fin 16} {u : State} (hm : u.press[p].mode ≠ .faulted) (hrep : u.press[p].rep = none)
    (hpend : u.press[p].pend = []) (hnext : u.press[p].next = none) (hla : u.press[p].la = Vector.replicate 2 false)
    (hbr : u.press[p].br = none) :
    issueWord p 0 u = setPress p
      { u.press[p] with cyc := u.press[p].cyc + 1, pc := u.press[p].pc + 1, brkSeen := false } u := by
  have hat : atIssue u p = { u.press[p] with next := some (u.press[p].pc + 1) } := by
    unfold atIssue
    rw [fetchStep_plain hpend hnext hla, retire_of_nil (by exact hpend)]
  have heffs : effsOf u p false 0 = [MoveEff.none, MoveEff.none] := by
    simp only [effsOf, dataEffs, Bool.false_eq_true, if_false]
    exact congrArg₂ (fun a b => [a, b]) (moveEff_zero ..) (moveEff_zero ..)
  have hissued : wordIssued u p false 0 0 = setPress p { atIssue u p with cyc := u.press[p].cyc + 1 } u := by
    rw [wordIssued, heffs, wordWrites_noArith, actMoves_of_quiet]
    · rw [withResults, atIssue_cyc]
      rfl
    all_goals rfl
  have hmode : (wordIssued u p false 0 0).press[p].mode ≠ .faulted := by
    rw [hissued, press_setPress_same]
    exact fun h => hm ((atIssue_mode u p).symm.trans h)
  rw [show issueWord p 0 u = issueFields p false 0 0 u from rfl, issueFields_once hrep (by decide) hmode, hissued,
    press_setPress_same, setPress_setPress, advancePc_straight (by rw [hat]; exact hbr), hat]
  cases hx : u.press[p]
  simp_all

/-- O31, a step of the word 0. -/
theorem dbgStep_nop (hs : Canonical s) {p : Fin 16} {w : HW}
    (h : Accepted s (aCTRL (pgPRESS p)) ⟨w.lvl, w.be, setBits w.v 8 8 1⟩)
    (ht : ctrlTaken s p w.v) (h7 : bit w.v 7 = true) (hh : haltBit s p = true) (hm : s.press[p].mode = .dbg)
    (hwait : s.press[p].wait = false) (hpend : s.press[p].pend = []) (hrep : s.press[p].rep = none)
      (hbr : s.press[p].br = none)
    (hnext : s.press[p].next = none) (hla : s.press[p].la = Vector.replicate 2 false) (hcore : coreRuns s = true)
    (hflips : s.fab.flips = []) (hremap : remapBit s p = true)
      (hlo : rdWord s (pressBase p + 8 * s.press[p].pc.toNat) = 0)
    (hhi : rdWord s (pressBase p + 8 * s.press[p].pc.toNat + 4) = 0) :
    Runs (.dbgStep p w) s fun t => t.press[p].mode = .dbg ∧ t.press[p].pc = s.press[p].pc + 1 ∧
      t.press[p].r = s.press[p].r ∧ OtherPresses p s t ∧ MemSame s t := by
  have hrun : exec (.dbgStep p w) s = .next (writeAt (aCTRL (pgPRESS p)) (stepWrite w) s) := rfl
  refine ⟨_, hrun, ?_⟩
  obtain ⟨now, land, froz, -, h3, hu, -, hw⟩ := dbgStep_acts hs h ht h7 hh hm
  have hsolo : isSolo (ctrlState p now land froz s) = true := ht.1
  have hpress := ctrlState_press p now land froz s
  have hmem : (ctrlState p now land froz s).mem = s.mem := rfl
  have hcore' : coreRuns (ctrlState p now land froz s) = true := hcore
  have hfl : (ctrlState p now land froz s).fab.flips = [] := hflips
  have hfetch : pressFetch (ctrlState p now land froz s) p s.press[p].pc.toNat = 0 := by
    have hb : rbit (ctrlState p now land froz s) (aCTRL (pgPRESS p)) 3 = true :=
      (congrArg (bit · 3) (rget_rset_same hs.1 (aCTRL (pgPRESS p)) now)).trans (h3.trans hremap)
    unfold pressFetch
    rw [hb]
    exact congrArg₂ (fun a b : Word => a ++ b) hhi hlo
  generalize writeAt (aCTRL (pgPRESS p)) (stepWrite w) s = t at hw ⊢
  generalize ctrlState p now land froz s = u at hu hw hsolo hpress hmem hcore' hfl hfetch
  let x : PressSt := { s.press[p] with cyc := s.press[p].cyc + 1, pc := s.press[p].pc + 1, brkSeen := false }
  have hone : dbgStepOne p u = setPress p x u := by
    unfold dbgStepOne
    rw [hpress]
    dsimp only
    rw [if_pos ⟨hm, (by rw [hwait]; decide), hsolo, hcore'⟩, fetchEcc_clean hfl, if_neg Bool.false_ne_true, hfetch,
      issueWord_zero (by rw [hpress, hm]; decide) (by rw [hpress, hrep]) (by rw [hpress, hpend]) (by rw [hpress, hnext])
        (by rw [hpress, hla]) (by rw [hpress, hbr]), press_setPress_same, setPress_setPress, hpress,
      drainPend_of_nil (x := x) hpend]
  have hstep : dbgStep p u = iset (pgPRESS p) 6 (setPress p x u) := by
    rw [← hone]
    exact dbgStep_of_halted (by rw [hpress, hm]) hu (by rw [hone, press_setPress_same]; exact hm)
  rw [hstep] at hw
  have hp : t.press = (setPress p x u).press := hw.1 .press (by decide)
  have htm : t.mem = u.mem := hw.1 .mem (by decide)
  refine ⟨?_, ?_, ?_, fun q hq => ?_, fun a => congrArg (spGet _ · a) (htm.trans hmem)⟩
  · rw [hp, press_setPress_same]
    exact hm
  · rw [hp, press_setPress_same]
  · rw [hp, press_setPress_same]
  · rw [hp, setPress_otherPresses _ _ _ q hq, hpress]

/-- O31, the breakpoint. -/
theorem brkMatch_effect {p : Fin 16} (hm : s.press[p].mode = .run) (hw : s.press[p].wait = false)
    (hc : coreRuns s = true)
    (hb : atBoundary s.press[p] = true) (hsolo : isSolo s = true) (hbrk : rbit s (aPRESS_BRK p) 31 = true)
    (hpc : rfld s (aPRESS_BRK p) 12 0 = s.press[p].pc.toNat) (hseen : s.press[p].brkSeen = false) :
    Runs (.brkMatch p) s fun t => t.press[p].mode = .dbg ∧ t.press[p].pc = s.press[p].pc ∧ t.press[p].r = settledRegs
      s p ∧
      OtherPresses p s t ∧ KeepsBut [.regs, .press] s t ∧ RegsOnly [aISTAT (pgPRESS p)] s t := by
  have hl : Live s := by
    simp only [coreRuns, Bool.and_eq_true, beq_iff_eq] at hc
    exact hc.2
  refine runs_awake hl rfl ?_
  have hhit : brkHit s p = true := by
    unfold brkHit
    simp only [hsolo, hbrk, hpc, hseen, beq_self_eq_true]
    rfl
  have hdef : brkMatch p s = setPMode p .dbg
      (setPress p { fadeToBypass (s.tb.frame + 1) s.press[p] with brkSeen := true } s) :=
    if_pos ⟨hm, (by rw [hw]; decide), hc, hb, hhit⟩
  obtain ⟨h1, h2, h3, h4, h5⟩ := setPMode_dbg (u := s) (p := p)
    (x := { fadeToBypass (s.tb.frame + 1) s.press[p] with brkSeen := true })
    (by rw [hm]; decide) ⟨_, true, rfl⟩
  rw [hdef]
  exact ⟨h1, h2, h3, h4, h5.1, h5.2⟩

/-- O31, a message. -/
theorem pressMsg_effect {e : Ev} {rest : List Ev} (h : actsNext s e rest) (ho : e.e.opcode = opPressMsg) :
    Runs (.pressMsg e.ticket) s fun t => t.comp.landing = rest ∧
      t.comp.running = s.comp.running ++ [{ e with land := s.tb.frame }] ∧
      (∀ p : Fin 16, p.val = bits (e.payload.getD 0 0) 3 0 → OtherPresses p s t ∧ t.press[p].msgs = s.press[p].msgs ++
        [⟨e.ticket, s.tb.frame, bits (e.payload.getD 0 0) 31 16, bits (e.payload.getD 0 0) 15 8, e.payload.drop 1,
          0⟩]) ∧
      MemSame s t ∧ KeepsBut [.comp, .press] s t := by
  obtain ⟨hl, hturn, hland⟩ := h
  let q : Fin 16 := Fin.ofNat 16 (bits (e.payload.getD 0 0) 3 0)
  let m : PMsg := ⟨e.ticket, s.tb.frame, bits (e.payload.getD 0 0) 31 16, bits (e.payload.getD 0 0) 15 8,
    e.payload.drop 1, 0⟩
  let u : State := keepRunning { e with land := s.tb.frame } (popLanding s)
  have hdef : pressMsgLand e.ticket s = setPress q { u.press[q] with msgs := u.press[q].msgs ++ [m] } u := by
    have hhead : landingHead s e.ticket opPressMsg = some { e with land := s.tb.frame } := by
      unfold landingHead
      rw [hland]
      exact if_pos ⟨rfl, ho⟩
    rw [pressMsgLand, if_neg (by simp [hturn]), pressMsg, hhead]
  refine runs_awake hl rfl ?_
  rw [hdef]
  refine ⟨landing_popLanding ⟨hl, hturn, hland⟩, rfl, fun p hp => ?_, fun _ => rfl, fun r hr => ?_⟩
  · have hq : p = q := Fin.ext (by rw [hp]; exact (Nat.mod_eq_of_lt (hp ▸ p.isLt)).symm)
    subst hq
    exact ⟨fun r hr => setPress_otherPresses u _ _ r hr, congrArg PressSt.msgs (press_setPress_same ..)⟩
  · cases r <;> first | exact absurd (by decide) hr | rfl

/-! ### O31: host writes to the local memory of a Press -/

theorem addr_of_pressMemAt {a : Nat} {p : Fin 16} (h : pressMemAt a = some p) : 0x400000 ≤ a ∧ a < 0xC00000 := by
  unfold pressMemAt at h
  split at h
  · next hc => exact ⟨hc.1, hc.2.1⟩
  · cases h

theorem memWrite_press {a : Nat} {p : Fin 16} (h : pressMemAt a = some p) (hc : s.clk.coreGated = false)
    (be : BitVec 4) (v : Word) :
    memWrite a be v s = if s.press[p].mode ≠ .halted then ((pressMemWrite p a be v s).1, stsRefused)
      else memDone (pressMemWrite p a be v s) := by
  have ha := addr_of_pressMemAt h
  unfold memWrite
  rw [if_neg (by omega), if_neg (by omega), h]
  dsimp only
  rw [hc, if_neg Bool.false_ne_true]

theorem writeHeld_press {a : Nat} {p : Fin 16} (h : pressMemAt a = some p) (hc : s.clk.coreGated = false) :
    writeHeld s a = (s.press[p].mode == .halted && pressMirrorFull s p) := by
  unfold writeHeld
  rw [h, hc]
  simp

/-- The press memory of a HALTED Press takes the word; an ACTIVE queues it for its partner. -/
theorem pressMemWrite_stored (hs : Canonical s) {p : Fin 16} {a : Nat} {be : BitVec 4} (hm : s.press[p].mode = .halted)
    (h : be = 0xF#4 ∨ flipsAt s a = 0) (v : Word) :
    let r := pressMemWrite p a be v s
    r.2 = true ∧ bytesStored a be v s r.1 ∧
      r.1.press[p].mirrorQ = s.press[p].mirrorQ ++ (if isActive s then [(a, rdWord r.1 a)] else []) ∧
      OtherPresses p s r.1 ∧ Within [.regs, .mem, .fab, .press] (OnPages [pgECC]) s r.1 := by
  obtain ⟨hok, hst, hw⟩ := stWordBe_stored hs.2.1 h v
  have hw' : Within [.regs, .mem, .fab, .press] (OnPages [pgECC]) s (stWordBe a be v s).1 :=
    hw.mono (by decide) fun b hb => by rw [hb]; decide
  have hpress : (stWordBe a be v s).1.press = s.press := hw.1 .press (by decide)
  have hact : isActive (stWordBe a be v s).1 = isActive s := congrArg (fun y : TwinSt => y.st == .active)
      (hw.1 .twin (by decide))
  unfold pressMemWrite
  rw [if_neg (not_not.2 hm)]
  dsimp only
  rw [hok, hact, Bool.true_and]
  by_cases ha : isActive s = true
  · rw [if_pos ha, if_pos ha, hpress]
    refine ⟨rfl, hst, ?_, fun q hq => ?_, hw'.trans ⟨fun q hq => setPress_keepsBut _ _ _ q fun hm => hq
      (by simp at hm; simp [hm]),
      fun _ _ => rfl⟩⟩
    · exact congrArg PressSt.mirrorQ (press_setPress_same ..)
    · exact (press_setPress_ne _ _ hq).trans (by rw [hpress])
  · rw [if_neg ha, if_neg ha, hpress, List.append_nil]
    exact ⟨hok, hst, rfl, fun q _ => by rw [hpress], hw'⟩

/-- O31, a host write to the local memory of a Press. -/
theorem pressMemWrite_effect (hs : Canonical s) (x : HostAcc) (p : Fin 16)
    (h : Served s (busAddr x.addr) ⟨x.lvl, x.be, x.v⟩)
    (hp : pressMemAt (busAddr x.addr) = some p) (hc : s.clk.coreGated = false) :
    (s.press[p].mode = .halted → pressMirrorFull s p = false → x.be = 0xF#4 ∨ flipsAt s (busAddr x.addr) = 0 →
      Runs (.pressMemWrite x) s fun t => lastStatus t = 0 ∧ bytesStored (busAddr x.addr) x.be x.v s t ∧
        t.press[p].mirrorQ = s.press[p].mirrorQ ++ (if isActive s then [(busAddr x.addr, rdWord t (busAddr x.addr))]
          else []) ∧
        OtherPresses p s t ∧ KeepsBut [.regs, .mem, .fab, .press] s t ∧ RegsBut [pgHOSTIF, pgECC] s t) ∧
    (s.press[p].mode = .halted → pressMirrorFull s p = false → x.be ≠ 0xF#4 → ueAt s (busAddr x.addr) = true →
      Runs (.pressMemWrite x) s fun t => lastStatus t = 6 ∧ t.mem = s.mem) ∧
    (s.press[p].mode = .halted → pressMirrorFull s p = true → Runs (.pressMemWrite x) s fun t => t = s) ∧
    (s.press[p].mode ≠ .halted → Runs (.pressMemWrite x) s fun t => refusedWith 1 (pgPRESS p) (busAddr x.addr) s
      t) := by
  have hlo : 0x50000 ≤ busAddr x.addr := le_trans (by decide) (addr_of_pressMemAt hp).1
  have hheld := writeHeld_press (s := s) hp hc
  refine ⟨fun hm hq hf => ?_, fun hm hq hbe hue => ?_, fun hm hq => ?_, fun hm => ?_⟩
  · obtain ⟨hok, hst, hmq, ho, hw⟩ := pressMemWrite_stored hs (p := p) hm hf x.v
    have hrun := hostWrite_memory_of h hlo (by rw [hheld, hm, hq]; rfl)
      ((memWrite_press hp hc x.be x.v).trans ((if_neg (not_not.2 hm)).trans (memDone_ok hok)))
    have ht := ((tidy_of_canonical hs).pressMemWrite p (busAddr x.addr) x.be x.v).regs_wf
    generalize (pressMemWrite p (busAddr x.addr) x.be x.v s).1 = u at hrun hst hmq ho hw ht
    have hep := press_endAccess 0 x.lvl (busAddr x.addr) u
    refine ⟨_, congrArg Host.Outcome.next hrun, lastStatus_endAccess ht
      (by decide), bytesStored_endAccess hst _ _ _, ?_,
      fun q hne => ?_, hw.ofEnd _ _, hw.regsBut_end _ _ _⟩
    · rw [hep, hmq, rdWord_endAccess]
    · rw [hep]
      exact ho q hne
  · refine ⟨_, rfl, ?_⟩
    rw [hostWrite_memory h hlo (by rw [hheld, hm, hq]; rfl), memWrite_press hp hc, if_neg (not_not.2 hm)]
    have hdef : pressMemWrite p (busAddr x.addr) x.be x.v s = (eccUncorrectable (busAddr x.addr) s, false) := by
      unfold pressMemWrite
      rw [if_neg (not_not.2 hm), stWordBe_ue hbe hue]
      rfl
    rw [hdef]
    exact ⟨lastStatus_endAccess ((tidy_of_canonical hs).eccUncorrectable _).regs_wf (by simp [memDone, stsUe]),
      Eq.trans ((within_endAccess true).1 .mem (by decide)) (eccUncorrectable_mem _ _)⟩
  · refine ⟨_, rfl, ?_⟩
    exact hostWrite_waits h hlo (by rw [hheld, hm, hq]; rfl)
  · refine ⟨_, rfl, ?_⟩
    have hpage : ∀ p : Fin 16, pgPRESS p ≠ pgHOSTIF := by decide
    have hh : writeHeld s (busAddr x.addr) = false := by
      rw [hheld, Bool.and_eq_false_iff]
      exact .inl (beq_eq_false_iff_ne.2 hm)
    rw [hostWrite_memory h hlo hh, memWrite_press hp hc, if_pos hm, pressMemWrite, if_pos hm]
    exact refusedWith_of_errcap hs (by decide) (hpage p)

/-- Settles O31: the debug controls, the breakpoint, the local memory and the messages of a Press. -/
theorem pressDebugMemoryMessages : Obligations.PressDebugMemoryMessages :=
  ⟨fun _ _ _ hs h ht h8 => dbgHalt_effect hs h ht h8, fun _ _ _ hs h ht h7 hh hm => dbgStep_effect hs h ht h7 hh hm,
    fun _ _ _ hs h ht h7 hh hm hw hp hr hb hn hl hc hf hrm hlo hhi => dbgStep_nop hs h ht h7 hh hm hw hp hr hb hn hl
      hc hf hrm hlo hhi,
    fun _ _ _ hm hw hc hb hsolo hbrk hpc hseen => brkMatch_effect hm hw hc hb hsolo hbrk hpc hseen,
    fun _ x p hs h hp hc => pressMemWrite_effect hs x p h hp hc, fun _ _ _ _ h ho => pressMsg_effect h ho⟩

end Sys2Proof.Machine
end

section
/-!
PROOFS. What a word of a Press leaves, and its arithmetic: O33, O34 and O35 (chapter 06).
-/

-- One declaration after another: side by side, the stacks of the threads exceed what memory the check allows.
set_option Elab.async false

namespace Sys2Proof.Machine

variable {s : State}

/-! ### Results in flight: what the last one leaves -/

/-- A result put among the others says what its register is on its bits, from the cycle after its arrival on. -/
theorem regAtCycle_pendAll_put {x : PressSt} (h : InOrder x.pend) {w : PWrite} (hw : w.late = none) :
    regAtCycle (pendAll [w] x) (w.at_ + 1) w.reg = merge72 (regAtCycle x (w.at_ + 1) w.reg) w.mask w.val := by
  obtain ⟨a, b, hl, hput, hb⟩ := pend_pendAll_one w x
  have hsame : ∀ v, ∀ u ∈ a ++ b, arrive (pendAll [w] x) (w.at_ + 1) w.reg v u = arrive x (w.at_ + 1) w.reg v u := by
    intro v u _
    by_cases hu : u.at_ < w.at_ + 1 ∧ u.reg = w.reg
    · have hn : ∀ n, countAt (pendAll [w] x) (u.at_ - 1) n = countAt x (u.at_ - 1) n :=
        countAt_pendAll_one (.inl (by omega))
      simp only [arrive, if_pos hu, hn]
      rfl
    · simp only [arrive, if_neg hu]
  have hlater (f : PressSt) (v : BitVec 72) : b.foldl (arrive f (w.at_ + 1) w.reg) v = v :=
    (List.foldl_ext _ (fun v _ => v) v fun v u hu => if_neg fun hc => absurd hc.1 (by have := hb h u hu; omega)).trans
      (List.foldl_fixed b)
  have hself (v : BitVec 72) : arrive (pendAll [w] x) (w.at_ + 1) w.reg v w = merge72 v w.mask w.val := by
    rw [arrive, if_pos ⟨Nat.lt_succ_self _, rfl⟩, hw]
  rw [regAtCycle_eq_foldl, regAtCycle_eq_foldl, hput, hl, List.foldl_append, List.foldl_cons, List.foldl_append,
    hlater, hlater,
    hself, List.foldl_ext _ _ _ fun v u hu => hsame v u (List.mem_append_left b hu)]
  rfl

/-- A result that no later one of the word touches says what its register is on its bits. -/
theorem regAtCycle_pendAll_of_last {x : PressSt} (h : InOrder x.pend) {pre post : List PWrite} {w : PWrite}
    (hw : w.late = none)
    (hpost : ∀ u ∈ post, Unseen (w.at_ + 1) w.reg u) :
    regAtCycle (pendAll (pre ++ w :: post) x) (w.at_ + 1) w.reg =
      merge72 (regAtCycle (pendAll pre x) (w.at_ + 1) w.reg) w.mask w.val := by
  rw [pendAll_append, pendAll_cons, regAtCycle_pendAll_unseen hpost]
  exact regAtCycle_pendAll_put (h.pendAll pre) hw

/-- The word writes the register after nothing else of its own. -/
theorem regAtCycle_pendAll_of_only {x : PressSt} (h : InOrder x.pend) {pre post : List PWrite} {w : PWrite}
    (hw : w.late = none)
    (hpre : ∀ u ∈ pre, Unseen (w.at_ + 1) w.reg u) (hpost : ∀ u ∈ post, Unseen (w.at_ + 1) w.reg u) :
    regAtCycle (pendAll (pre ++ w :: post) x) (w.at_ + 1) w.reg = merge72 (regAtCycle x (w.at_ + 1) w.reg) w.mask
      w.val := by
  rw [regAtCycle_pendAll_of_last h hw hpost, regAtCycle_pendAll_unseen hpre]

/-- What a reader sees depends on what the results make of the register. -/
theorem seenAt_congr {x y : PressSt} {c : Nat} {g : PReg} (h : regAtCycle x c g = regAtCycle y c g) (hr : x.r = y.r) :
    seenAt x c g = seenAt y c g := by
  rw [seenAt, seenAt, h, hr]

/-- Results that do not bear on a register leave it as a reader saw it. -/
theorem seenAt_pendAll_unseen {l : List PWrite} {x : PressSt} {c : Nat} {g : PReg} (h : ∀ w ∈ l, Unseen c g w) :
    seenAt (pendAll l x) c g = seenAt x c g :=
  seenAt_congr (regAtCycle_pendAll_unseen h) rfl

theorem seenAt_d (x : PressSt) (c : Nat) (i : Fin 16) :
    seenAt x c (.d i) = ((regAtCycle x c (.d i)).setWidth 32).setWidth 72 := by
  simp [seenAt, PressRegs.set, PressRegs.get]

theorem seenAt_ac (x : PressSt) (c : Nat) (i : Fin 4) : seenAt x c (.ac i) = regAtCycle x c (.ac i) := by
  simp [seenAt, PressRegs.set, PressRegs.get]

theorem seenAt_sr (x : PressSt) (c : Nat) : seenAt x c .sr = ((regAtCycle x c .sr).setWidth 32).setWidth 72 := rfl

theorem getLsbD_seenAt_sr (x : PressSt) (c : Nat) {b : Nat} (hb : b < 32) :
    (seenAt x c .sr).getLsbD b = (regAtCycle x c .sr).getLsbD b := by
  rw [seenAt_sr, BitVec.getLsbD_setWidth, BitVec.getLsbD_setWidth]
  simp [hb, show b < 72 by omega]

theorem getLsbD_merge72 (old mask val : BitVec 72) (b : Nat) :
    (merge72 old mask val).getLsbD b = if mask.getLsbD b then val.getLsbD b else old.getLsbD b := by
  by_cases hb : b < 72
  · simp only [merge72, BitVec.getLsbD_or, BitVec.getLsbD_and, BitVec.getLsbD_not, hb, decide_true, Bool.true_and]
    cases mask.getLsbD b <;> simp
  · simp only [BitVec.getLsbD_of_ge _ _ (Nat.le_of_not_lt hb), ite_self]

theorem merge72_allOnes (old val : BitVec 72) : merge72 old (BitVec.allOnes 72) val = val := by
  rw [merge72, BitVec.and_allOnes, BitVec.not_allOnes, BitVec.and_zero, BitVec.zero_or]

theorem merge72_low32 (old : BitVec 72) (v : Word) : (merge72 old 0xFFFFFFFF#72 (v.setWidth 72)).setWidth 32 = v := by
  have hout : (~~~0xFFFFFFFF#72).setWidth 32 = 0#32 := by decide
  have hin : (0xFFFFFFFF#72).setWidth 32 = BitVec.allOnes 32 := by decide
  rw [merge72, BitVec.setWidth_or, BitVec.setWidth_and, BitVec.setWidth_and, hout, hin]
  simp only [BitVec.and_zero, BitVec.zero_or, BitVec.and_allOnes]
  exact BitVec.setWidth_setWidth_of_le v (by decide)

/-! ### Stores do not disturb the reads of a word -/

theorem alGet_alDel_ne {V : Type} (d : V) (l : List (Nat × V)) {j k : Nat} (h : j ≠ k) : alGet d (alDel l k) j =
    alGet d l j := by
  induction l with
  | nil => rfl
  | cons x t ih =>
    obtain ⟨a, w⟩ := x
    simp only [alDel]
    split
    · rename_i e
      subst e
      simp [alGet, Ne.symm h, ih]
    · simp [alGet, ih]

theorem flipsAt_setFlips_ne {a b : Nat} (h : keyOf b ≠ keyOf a) (v : Nat) (s : State) : flipsAt (setFlips a v s) b =
    flipsAt s b := by
  unfold flipsAt setFlips
  dsimp only
  split
  · exact alGet_alDel_ne _ _ h
  · exact alGet_alSet_ne _ _ _ h

theorem flipsAt_stWord_ne {a b : Nat} (h : keyOf b ≠ keyOf a) (v : Word) (s : State) : flipsAt (stWord a v s) b =
    flipsAt s b := by
  unfold stWord freshen
  split
  · exact flipsAt_setFlips_ne h _ _
  · split
    · rfl
    · exact flipsAt_setFlips_ne h _ _

/-- The place of a store is not the word `b`. -/
def PLoc.apart (b : Nat) : PLoc → Prop
  | .word a => keyOf b ≠ keyOf a
  | _ => True

theorem flipsAt_storeLoc {p : Fin 16} {x : PLoc × Word} {b : Nat} (h : x.1.apart b) (s : State) :
    flipsAt (storeLoc p x s) b = flipsAt s b := by
  unfold storeLoc
  split
  · rename_i a ha
    exact flipsAt_stWord_ne (by rw [ha] at h; exact h) _ _
  all_goals rfl

theorem flipsAt_stores {p : Fin 16} {l : List (PLoc × Word)} {b : Nat} (h : ∀ x ∈ l, x.1.apart b) (s : State) :
    flipsAt (l.foldl (fun u y => storeLoc p y u) s) b = flipsAt s b := by
  induction l generalizing s with
  | nil => rfl
  | cons x l ih =>
    exact (ih (fun y hy => h y (List.mem_cons_of_mem x hy)) _).trans (flipsAt_storeLoc (h x List.mem_cons_self) s)

/-- The word reads no place that it stores to. -/
def ReadsApart (es : List MoveEff) : Prop := ∀ b ∈ es.flatMap (·.rd), ∀ x ∈ es.flatMap (·.st), x.1.apart b

/-- Reads of words without a flipped bit record nothing. -/
theorem readBanks_of_unflipped {l : List Nat} (h : ∀ b ∈ l, flipsAt s b = 0) (p : Fin 16) (pc : BitVec 13) :
    readBanks p pc l s = s := by
  induction l with
  | nil => rfl
  | cons b l ih =>
    have hb := eccRead_ok (h b List.mem_cons_self)
    have hone : readBanks p pc (b :: l) s = readBanks p pc l s := by
      rw [readBanks, List.foldl_cons, hb]
      rfl
    rw [hone]
    exact ih fun c hc => h c (List.mem_cons_of_mem b hc)

/-- The stores and address errors of a word whose reads are apart from its stores are all that its moves do
  (R150, R151). -/
theorem actMoves_eq {s : State} (hflips : s.fab.flips = []) (p : Fin 16) (pc : BitVec 13) {es : List MoveEff}
    (hes : ReadsApart es) :
    actMoves p pc es s = (es.filterMap (·.bad)).foldl (fun u a => raiseFault p 2 a pc u)
      ((es.flatMap (·.st)).foldl (fun u y => storeLoc p y u) s) := by
  refine readBanks_of_unflipped (fun b hb => ?_) p pc
  unfold flipsAt
  rw [foldl_raiseFault_fab]
  refine Eq.trans (flipsAt_stores (hes b hb) s) ?_
  rw [flipsAt, hflips]
  rfl

theorem actMoves_keepsPress_of_apart {s : State} (hflips : s.fab.flips = []) (p : Fin 16) (pc : BitVec 13)
    {es : List MoveEff}
    (hes : ReadsApart es) : KeepsPress p s (actMoves p pc es s) := by
  rw [actMoves_eq hflips p pc hes]
  exact (KeepsPress.foldl (fun u y => keepsPress_storeLoc p y u) _ s).trans
    (KeepsPress.foldl (fun u a => keepsPress_raiseFault p 2 a pc u) _ _)

/-- A legal word whose reads are apart from its stores issues once: results, then stores and address errors, then the
  next address. -/
theorem pressIssue_eq {s : State} {p : Fin 16} {long : Bool} {arith : BitVec 22} {mv : BitVec 40} (h : Issues s p)
    (hl : dataLegal long arith mv = true) (hes : ReadsApart (effsOf s p long mv)) :
    pressIssue p (issueFields p long arith mv) s =
      setPress p (advancePc (wordIssued s p long arith mv).press[p]) (wordIssued s p long arith mv) ∧
    KeepsPress p (setPress p (withResults s p (wordWrites (atIssue s p) arith (effsOf s p long mv))) s)
      (wordIssued s p long arith mv) := by
  rw [pressIssue_of_issues h]
  obtain ⟨hcan, hrep, -, hflips, hdbg⟩ := h
  have hk : KeepsPress p (setPress p _ s) (wordIssued s p long arith mv) :=
    actMoves_keepsPress_of_apart (s := setPress p _ s) hflips p _ hes
  have hpress := hk.press
  rw [press_setPress_same] at hpress
  have hmode : (wordIssued s p long arith mv).press[p].mode ≠ .faulted := by
    rw [hpress]
    exact fun hm => mode_of_canIssue hcan ((atIssue_mode s p).symm.trans hm)
  rw [issueFields_once hrep hl hmode, settleDbg_eq_self]
  · exact ⟨rfl, hk⟩
  · intro hsolo
    refine hk.halt.trans (hdbg ?_)
    rw [isSolo, setPress_twin, hk.twin] at hsolo
    exact hsolo

theorem pressIssue_leftBy_of_apart {s : State} {p : Fin 16} {long : Bool} {arith : BitVec 22} {mv : BitVec 40}
    (h : Issues s p)
    (hl : dataLegal long arith mv = true) (hes : ReadsApart (effsOf s p long mv)) :
    LeftBy s p (wordWrites (atIssue s p) arith (effsOf s p long mv))
      (pressIssue p (issueFields p long arith mv) s) := by
  obtain ⟨heq, hk⟩ := pressIssue_eq h hl hes
  have hpress := hk.press
  rw [press_setPress_same] at hpress
  rw [heq, LeftBy, press_setPress_same]
  exact ⟨_, _, _, congrArg advancePc hpress⟩

/-! ### The places that moves reach -/

/-- The word `a` of the X or the Y bank of Press `p`. -/
def inBank (p : Fin 16) (y : Bool) (b : Nat) : Prop := ∃ a, a < bankWords ∧ b = (if y then yAddr p a else xAddr p a)

theorem pressLoc_word {p : Fin 16} {y : Bool} {a b : Nat} (h : pressLoc p y a = .word b) : inBank p y b := by
  unfold pressLoc at h
  split at h
  · exact ⟨a, by assumption, (PLoc.word.inj h).symm⟩
  · split at h <;> cases h

/-- Words of the two banks have check words of their own. -/
theorem keyOf_banks {p : Fin 16} {y z : Bool} {a b : Nat} (ha : inBank p y a) (hb : inBank p z b) (h : y ≠ z) : keyOf
    b ≠ keyOf a := by
  have key (i j : Nat) (hi : i < bankWords) (hj : j < bankWords) : keyOf (xAddr p i) ≠ keyOf (yAddr p j) := by
    have hp := p.isLt
    have hx : xAddr p i < cistBase := by unfold xAddr pressBase cistBase; unfold bankWords at hi; omega
    have hy : yAddr p j < cistBase := by unfold yAddr pressBase cistBase; unfold bankWords at hj; omega
    rw [keyOf, keyOf, if_pos hx, if_pos hy]
    unfold xAddr yAddr pressBase
    unfold bankWords at hi
    omega
  obtain ⟨i, hi, rfl⟩ := ha
  obtain ⟨j, hj, rfl⟩ := hb
  cases y <;> cases z <;> simp only [ne_eq, not_true, Bool.false_eq_true, if_true, if_false] at h ⊢
  · exact fun e => key i j hi hj e.symm
  · exact key j i hj hi

theorem accessEff_reaches (u : State) (p : Fin 16) (x : PressSt) (t : Nat) (y store pair : Bool) (reg : BitVec 6)
    (a : Nat) :
    (∀ b ∈ (accessEff u p x t y store pair reg a).rd, inBank p y b) ∧
      ∀ l ∈ (accessEff u p x t y store pair reg a).st, ∀ b, l.1 = .word b → inBank p y b := by
  unfold accessEff
  dsimp only
  split
  · simp [MoveEff.none]
  · have hin : ∀ l ∈ pressLoc p y a :: (if pair = true then [pressLoc p y (a + 1)] else []), ∀ b, l = .word b →
      inBank p y b := by
      intro l hl b hb
      subst hb
      rcases List.mem_cons.1 hl with hl | hl
      · exact pressLoc_word hl.symm
      · split at hl
        · exact pressLoc_word (List.mem_singleton.1 hl).symm
        · simp at hl
    split
    · refine ⟨by simp [MoveEff.none], fun l hl b hb => ?_⟩
      exact hin l.1 (List.of_mem_zip hl).1 b hb
    · refine ⟨fun b hb => ?_, by simp [MoveEff.none]⟩
      obtain ⟨l, hl, hlb⟩ := List.mem_filterMap.1 hb
      cases l with
      | word c =>
        obtain rfl : c = b := by simpa using hlb
        exact hin _ hl _ rfl
      | io o => simp at hlb
      | none => simp at hlb

theorem moveEff_reaches (u : State) (p : Fin 16) (x : PressSt) (t : Nat) (y : Bool) (f : BitVec 20) :
    (∀ b ∈ (moveEff u p x t y f).rd, inBank p y b) ∧ ∀ l ∈ (moveEff u p x t y f).st, ∀ b, l.1 = .word b → inBank p y
      b := by
  have hnone : (∀ b ∈ MoveEff.none.rd, inBank p y b) ∧ ∀ l ∈ MoveEff.none.st, ∀ b, l.1 = PLoc.word b → inBank p y
      b := by
    simp [MoveEff.none]
  unfold moveEff
  dsimp only
  split
  · simp [regMoveEff, MoveEff.none]
  · split
    · exact hnone
    · dsimp only
      split
      · exact hnone
      · exact accessEff_reaches u p x t y _ _ _ _

theorem longEff_st_or_rd (u : State) (p : Fin 16) (x : PressSt) (t : Nat) (f : BitVec 40) :
    (longEff u p x t f).st = [] ∨ (longEff u p x t f).rd = [] := by
  unfold longEff
  dsimp only
  split
  · exact .inl rfl
  · exact accessEff_st_or_rd _ _ _ _ _ _ _ _ _

/-- The moves of a word read no place that they store to: a field does one of them, and the two fields reach banks of
  their own. -/
theorem readsApart_effsOf (s : State) (p : Fin 16) (long : Bool) (mv : BitVec 40) : ReadsApart
    (effsOf s p long mv) := by
  intro b hb l hl
  cases long with
  | true =>
    simp only [effsOf, dataEffs, if_true, List.flatMap_cons, List.flatMap_nil, List.append_nil] at hb hl
    rcases longEff_st_or_rd _ p _ _ mv with h | h
    · rw [h] at hl; cases hl
    · rw [h] at hb; cases hb
  | false =>
    have apart {y z : Bool} {f g : BitVec 20} (u : State) (x : PressSt) (t : Nat) (hyz : y ≠ z)
        (hb : b ∈ (moveEff u p x t y f).rd) (hl : l ∈ (moveEff u p x t z g).st) : l.1.apart b := by
      cases hloc : l.1 with
      | word a =>
        exact keyOf_banks ((moveEff_reaches u p x t z g).2 l hl a hloc) ((moveEff_reaches u p x t y f).1 b hb)
          (Ne.symm hyz)
      | io o => trivial
      | none => trivial
    have same {y : Bool} {f : BitVec 20} (u : State) (x : PressSt) (t : Nat)
        (hb : b ∈ (moveEff u p x t y f).rd) (hl : l ∈ (moveEff u p x t y f).st) : l.1.apart b := by
      rcases moveEff_st_or_rd u p x t y f with h | h
      · rw [h] at hl; cases hl
      · rw [h] at hb; cases hb
    simp only [effsOf, dataEffs, Bool.false_eq_true, if_false, List.flatMap_cons, List.flatMap_nil, List.append_nil,
      List.mem_append] at hb hl
    rcases hb with hb | hb <;> rcases hl with hl | hl
    · exact same _ _ _ hb hl
    · exact apart _ _ _ (by decide) hb hl
    · exact apart _ _ _ (by decide) hb hl
    · exact same _ _ _ hb hl

/-- A legal word leaves its Press by its results (R158, R190). -/
theorem leftBy_of_legal {s : State} {p : Fin 16} {long : Bool} {arith : BitVec 22} {mv : BitVec 40} (h : Issues s p)
    (hl : dataLegal long arith mv = true) :
    LeftBy s p (wordWrites (atIssue s p) arith (effsOf s p long mv)) (pressIssue p (issueFields p long arith mv) s) :=
  pressIssue_leftBy_of_apart h hl (readsApart_effsOf s p long mv)

/-! ### The arithmetic field of a word -/

theorem toNat_arithField (op : BitVec 6) (x : ArithArgs) :
    (arithField op x).toNat =
      2 ^ 16 * op.toNat + (2 ^ 12 * x.cond.toNat + (2 ^ 8 * x.f1.toNat + (2 ^ 4 * x.f2.toNat + x.f3.toNat))) := by
  have hcat {m n : Nat} (x : BitVec m) (y : BitVec n) : (x ++ y).toNat = 2 ^ n * x.toNat + y.toNat := by
    rw [BitVec.toNat_append, ← Nat.shiftLeft_add_eq_or_of_lt y.isLt, Nat.shiftLeft_eq, Nat.mul_comm]
  simp only [arithField, hcat]

section
variable (op : BitVec 6) (x : ArithArgs)

theorem arithField_op : (arithField op x).toNat / 2 ^ 16 = op.toNat := by
  rw [toNat_arithField]; omega

theorem arithField_cond : (arithField op x).toNat / 2 ^ 12 % 16 = x.cond.toNat := by
  rw [toNat_arithField]; omega

theorem arithField_f1 : (arithField op x).extractLsb' 8 4 = x.f1 := by
  apply BitVec.eq_of_toNat_eq
  rw [BitVec.extractLsb'_toNat, toNat_arithField, Nat.shiftRight_eq_div_pow]
  omega

theorem arithField_f2 : (arithField op x).extractLsb' 4 4 = x.f2 := by
  apply BitVec.eq_of_toNat_eq
  rw [BitVec.extractLsb'_toNat, toNat_arithField, Nat.shiftRight_eq_div_pow]
  omega

theorem arithField_f3 : (arithField op x).extractLsb' 0 4 = x.f3 := by
  apply BitVec.eq_of_toNat_eq
  rw [BitVec.extractLsb'_toNat, toNat_arithField, Nat.shiftRight_eq_div_pow]
  omega

/-- The operand fields of the word are those of Table 06-6 for its opcode. -/
def opLegal : Bool := arithLegal op.toNat x.cond.toNat x.f1.toNat x.f2.toNat x.f3.toNat

theorem dataLegal_arithField :
    dataLegal x.long (arithField op x) x.mv = (opLegal op x &&
      (if x.long then longLegal x.mv else moveLegal (x.mv.extractLsb' 20 20) && moveLegal
        (x.mv.extractLsb' 0 20))) := by
  have h1 : (arithField op x).toNat / 256 % 16 = x.f1.toNat := by rw [toNat_arithField]; omega
  have h2 : (arithField op x).toNat / 16 % 16 = x.f2.toNat := by rw [toNat_arithField]; omega
  have h3 : (arithField op x).toNat % 16 = x.f3.toNat := by rw [toNat_arithField]; omega
  rw [dataLegal, arithField_op, arithField_cond, h1, h2, h3]
  rfl

end

/-- What the arithmetic of a word reads (R202). -/
def arithOperands (s : State) (p : Fin 16) (x : ArithArgs) : ArithIn :=
  arithIn (atIssue s p) (atIssue s p).cyc x.f1 x.f2 x.f3

theorem srOp_eq (s : State) (p : Fin 16) : srOp s p = (regAtCycle (atIssue s p) ((atIssue s p).cyc + 3) .sr).setWidth
    32 := by
  rw [srOp, oldAt, seenAt_sr, atIssue_cyc]
  exact BitVec.setWidth_setWidth_of_le _ (by decide)

/-- The results of the arithmetic of a word whose condition holds, its flags last. -/
theorem arithWrites_arithField {p : Fin 16} {op : BitVec 6} {x : ArithArgs} {f : ArithIn → ArithRes}
    (hop : arithOp op.toNat = some f)
    (hc : condHolds x.cond.toNat (srOp s p) = true) :
    arithWrites (atIssue s p) (atIssue s p).cyc (arithField op x) =
      (f (arithOperands s p x)).wr.map (res (s.press[p].cyc + 5)) ++
        [res (s.press[p].cyc + 5) (.sr, (f (arithOperands s p x)).fmask.setWidth 72,
          (f (arithOperands s p x)).fval.setWidth 72)] := by
  rw [srOp_eq] at hc
  rw [arithWrites, arithField_op, arithField_cond, hop]
  dsimp only
  rw [if_pos hc, arithField_f1, arithField_f2, arithField_f3, arithOperands, atIssue_cyc]

/-- A word whose condition is false has no arithmetic results. -/
theorem arithWrites_of_suppressed {p : Fin 16} {op : BitVec 6} {x : ArithArgs}
    (hc : condHolds x.cond.toNat (srOp s p) = false) :
    arithWrites (atIssue s p) (atIssue s p).cyc (arithField op x) = [] := by
  rw [srOp_eq] at hc
  unfold arithWrites
  split
  · rfl
  · rw [arithField_cond, hc]
    rfl

theorem arithWrites_of_noOp {p : Fin 16} {op : BitVec 6} {x : ArithArgs} (hop : arithOp op.toNat = none) :
    arithWrites (atIssue s p) (atIssue s p).cyc (arithField op x) = [] := by
  rw [arithWrites, arithField_op, hop]

/-! ### Flags -/

/-- Mask and value of a list of flags, bit by bit: the last setting of a flag named once. -/
theorem getLsbD_flagList {l : List (Nat × Bool)} (hn : (l.map (·.1)).Nodup) (h32 : ∀ x ∈ l, x.1 < 32) {b : Nat} :
    (flagList l).1.getLsbD b = (l.lookup b).isSome ∧ (flagList l).2.getLsbD b = (l.lookup b).getD false := by
  have hflg (v : Bool) (i : Nat) (hi : i < 32) : (flg v i).getLsbD b = (v && decide (b = i)) := by
    unfold flg
    cases v
    · simp
    · have hpow : BitVec.ofNat 32 (1 <<< i) = BitVec.twoPow 32 i := by
        rw [BitVec.twoPow_eq]
        apply BitVec.eq_of_toNat_eq
        simp
      rw [if_pos rfl, hpow, BitVec.getLsbD_twoPow]
      simp [hi, eq_comm]
  have hfold : ∀ (l : List (Nat × Bool)) (m v : Word), (l.map (·.1)).Nodup → (∀ x ∈ l, x.1 < 32) →
      let r := l.foldl (fun (a : Word × Word) x => (a.1 ||| flg true x.1, a.2 ||| flg x.2 x.1)) (m, v)
      r.1.getLsbD b = (m.getLsbD b || (l.lookup b).isSome) ∧ r.2.getLsbD b =
        (v.getLsbD b || (l.lookup b).getD false) := by
    intro l
    induction l with
    | nil => intro m v _ _; simp
    | cons y l ih =>
      intro m v hn h32
      obtain ⟨i, w⟩ := y
      simp only [List.map_cons, List.nodup_cons] at hn
      obtain ⟨hi, hn⟩ := hn
      obtain ⟨h1, h2⟩ := ih (m ||| flg true i) (v ||| flg w i) hn fun x hx => h32 x (List.mem_cons_of_mem _ hx)
      simp only [List.foldl_cons]
      rw [h1, h2, BitVec.getLsbD_or, BitVec.getLsbD_or, hflg _ _ (h32 _ List.mem_cons_self), hflg _ _
        (h32 _ List.mem_cons_self),
        List.lookup_cons]
      by_cases hbi : b = i
      · subst hbi
        have hnone : l.lookup b = none := by
          rw [List.lookup_eq_none_iff]
          intro x hx
          simpa using fun e => hi (by rw [e]; exact List.mem_map_of_mem hx)
        simp [hnone]
      · have hne : (b == i) = false := beq_false_of_ne hbi
        simp [hbi, hne]
  simpa [flagList] using hfold l 0 0 hn h32

/-- The flags named are set or cleared, and the others stay. -/
theorem getLsbD_merge_flags {l : List (Nat × Bool)} (hn : (l.map (·.1)).Nodup) (h32 : ∀ x ∈ l, x.1 < 32)
    (old : BitVec 72) {b : Nat}
    (hb : b < 32) :
    (merge72 old ((flagList l).1.setWidth 72) ((flagList l).2.setWidth 72)).getLsbD b = (l.lookup b).getD
      (old.getLsbD b) := by
  obtain ⟨h1, h2⟩ := getLsbD_flagList (b := b) hn h32
  rw [getLsbD_merge72, BitVec.getLsbD_setWidth, BitVec.getLsbD_setWidth, h1, h2]
  cases l.lookup b <;> simp [show b < 72 by omega]

/-! ### What an arithmetic word leaves -/

/-- A D register or an accumulator, with contents of its width: what an arithmetic field writes. -/
def isResult (r : PReg × BitVec 72) : Prop := (∃ i, r.1 = .ac i) ∨ ∃ (i : Fin 16) (v : Word), r = (.d i, v.setWidth 72)

/-- The write of a whole D register or accumulator. -/
def wholeWrite (r : PReg × BitVec 72) : PReg × BitVec 72 × BitVec 72 :=
  (r.1, (match r.1 with | .ac _ => BitVec.allOnes 72 | _ => 0xFFFFFFFF#72), r.2)

theorem seenAt_of_wholeWrite {x : PressSt} {c : Nat} {r : PReg × BitVec 72} {o : BitVec 72} (hr : isResult r)
    (h : regAtCycle x c r.1 = merge72 o (wholeWrite r).2.1 r.2) : seenAt x c r.1 = r.2 := by
  rcases hr with ⟨i, hi⟩ | ⟨i, v, rfl⟩
  · obtain ⟨g, v⟩ := r
    subst hi
    rw [seenAt_ac, h]
    exact merge72_allOnes ..
  · rw [seenAt_d, h]
    exact congrArg (BitVec.setWidth 72) (merge72_low32 o v)

/-- The arithmetic of the word writes these registers, in this order, and these flags. -/
structure Gives (r : ArithRes) (regs : List (PReg × BitVec 72)) (fl : List (Nat × Bool)) : Prop where
  wr : r.wr = regs.map wholeWrite
  flags : (r.fmask, r.fval) = flagList fl
  result : ∀ g ∈ regs, isResult g
  distinct : (regs.map (·.1)).Nodup
  names : (fl.map Prod.fst).Nodup
  low : ∀ n ∈ fl.map Prod.fst, n < 32

/-! ### The results of the moves of a word -/

/-- No result for SR or a loop register. -/
def PWrite.isData (w : PWrite) : Prop := w.reg ≠ .sr ∧ (∀ n, w.reg ≠ .lc n) ∧ (∀ n, w.reg ≠ .ls n) ∧ ∀ n, w.reg ≠ .le n

theorem specReg_isData (code : BitVec 6) :
    (specReg code).1 ≠ .sr ∧ (∀ n, (specReg code).1 ≠ .lc n) ∧ (∀ n, (specReg code).1 ≠ .ls n) ∧ ∀ n,
      (specReg code).1 ≠ .le n := by
  unfold specReg
  dsimp only
  repeat' split
  all_goals exact ⟨by simp, by simp, by simp, by simp⟩

theorem specWrite_reg (code : BitVec 6) (v : Word) : (specWrite code v).1 = (specReg code).1 := by
  unfold specWrite
  split <;> simp_all

theorem res_specWrite_isData (c : Nat) (code : BitVec 6) (v : Word) : (res c (specWrite code v)).isData := by
  have h := specReg_isData code
  rw [← specWrite_reg code v] at h
  exact h

/-- An access writes register specifiers in cycle t + 4. -/
theorem accessEff_wr_spec {u : State} {p : Fin 16} {x : PressSt} {t : Nat} {y store pair : Bool} {reg : BitVec 6}
    {a : Nat}
    {w : PWrite} (h : w ∈ (accessEff u p x t y store pair reg a).wr) : ∃ code v, w = res (t + 4)
      (specWrite code v) := by
  unfold accessEff at h
  dsimp only at h
  split at h
  · split at h
    · simp at h
    · obtain ⟨r, -, rfl⟩ := List.mem_map.1 h
      exact ⟨_, _, rfl⟩
  · split at h
    · simp [MoveEff.none] at h
    · obtain ⟨r, -, rfl⟩ := List.mem_map.1 h
      exact ⟨_, _, rfl⟩

theorem moveEff_wr_spec {u : State} {p : Fin 16} {x : PressSt} {t : Nat} {y : Bool} {f : BitVec 20} {w : PWrite}
    (h : w ∈ (moveEff u p x t y f).wr) : ∃ code v, w = res (t + 4) (specWrite code v) := by
  unfold moveEff at h
  dsimp only at h
  split at h
  · exact ⟨_, _, List.mem_singleton.1 h⟩
  · split at h
    · simp [MoveEff.none] at h
    · dsimp only at h
      split at h
      · simp [MoveEff.none] at h
      · exact accessEff_wr_spec h

theorem longEff_wr_spec {u : State} {p : Fin 16} {x : PressSt} {t : Nat} {f : BitVec 40} {w : PWrite}
    (h : w ∈ (longEff u p x t f).wr) : ∃ code v, w = res (t + 4) (specWrite code v) := by
  unfold longEff at h
  dsimp only at h
  split at h
  · exact ⟨_, _, List.mem_singleton.1 h⟩
  · exact accessEff_wr_spec h

/-- An access moves no pointer. -/
theorem accessEff_ptr (u : State) (p : Fin 16) (x : PressSt) (t : Nat) (y store pair : Bool) (reg : BitVec 6)
    (a : Nat) :
    (accessEff u p x t y store pair reg a).ptr = [] := by
  unfold accessEff
  dsimp only
  split
  · rfl
  · split <;> rfl

/-- A move field moves at most its pointer, in cycle t + 2. -/
theorem moveEff_ptr_form {u : State} {p : Fin 16} {x : PressSt} {t : Nat} {y : Bool} {f : BitVec 20} {w : PWrite}
    (h : w ∈ (moveEff u p x t y f).ptr) : ∃ n v, w = ptrWrite (t + 2) n v := by
  unfold moveEff at h
  dsimp only at h
  split at h
  · simp [regMoveEff, MoveEff.none] at h
  · split at h
    · simp [MoveEff.none] at h
    · dsimp only at h
      split at h
      · exact ⟨_, _, List.mem_singleton.1 h⟩
      · simp at h

theorem longEff_ptr (u : State) (p : Fin 16) (x : PressSt) (t : Nat) (f : BitVec 40) : (longEff u p x t f).ptr =
    [] := by
  unfold longEff
  dsimp only
  split
  · rfl
  · exact accessEff_ptr ..

/-- The results of the moves of a word: pointers in the second cycle after the issue, then register specifiers in the
  fourth (R158). -/
def moveWrites (s : State) (p : Fin 16) (long : Bool) (mv : BitVec 40) : List PWrite :=
  (effsOf s p long mv).flatMap (·.ptr) ++ (effsOf s p long mv).flatMap (·.wr)

theorem moveWrites_form {p : Fin 16} {long : Bool} {mv : BitVec 40} {w : PWrite} (h : w ∈ moveWrites s p long mv) :
    (∃ n v, w = ptrWrite (s.press[p].cyc + 2) n v) ∨ ∃ code v, w = res (s.press[p].cyc + 4) (specWrite code v) := by
  rw [← atIssue_cyc]
  unfold moveWrites effsOf dataEffs at h
  cases long with
  | true =>
    simp only [if_true, List.flatMap_cons, List.flatMap_nil, List.append_nil, longEff_ptr, List.nil_append] at h
    exact .inr (longEff_wr_spec h)
  | false =>
    simp only [Bool.false_eq_true, if_false, List.flatMap_cons, List.flatMap_nil, List.append_nil, List.mem_append] at h
    rcases h with (h | h) | h | h
    · exact .inl (moveEff_ptr_form h)
    · exact .inl (moveEff_ptr_form h)
    · exact .inr (moveEff_wr_spec h)
    · exact .inr (moveEff_wr_spec h)

/-- The moves of a word write neither SR nor a loop register. -/
theorem moveWrites_isData {p : Fin 16} {long : Bool} {mv : BitVec 40} {w : PWrite} (h : w ∈ moveWrites s p long mv) :
    w.isData := by
  rcases moveWrites_form h with ⟨n, v, rfl⟩ | ⟨code, v, rfl⟩
  · exact ⟨PReg.noConfusion, fun _ => PReg.noConfusion, fun _ => PReg.noConfusion, fun _ => PReg.noConfusion⟩
  · exact res_specWrite_isData ..

theorem PWrite.isData.unseen_sr {w : PWrite} (h : w.isData) (c : Nat) : Unseen c .sr w := .inr ⟨h.1, h.2.1⟩

theorem wordWrites_eq (s : State) (p : Fin 16) (arith : BitVec 22) (long : Bool) (mv : BitVec 40) :
    wordWrites (atIssue s p) arith (effsOf s p long mv) = moveWrites s p long mv ++ arithWrites (atIssue s p)
      (atIssue s p).cyc arith ++
      svWrites s.press[p].cyc (effsOf s p long mv) := by
  rw [wordWrites, moveWrites, ← atIssue_cyc]

theorem svWrites_form {t : Nat} {es : List MoveEff} {w : PWrite} (h : w ∈ svWrites t es) :
    w = res (t + 5) (.sr, (flg true fSV).setWidth 72, (flg true fSV).setWidth 72) := by
  unfold svWrites at h
  split at h
  · exact List.mem_singleton.1 h
  · cases h

/-- SV set by a move leaves every other register and flag as the word's own results make it. -/
theorem svWrites_unseen {t c : Nat} {g : PReg} {es : List MoveEff} (hg : g ≠ .sr) : ∀ w ∈ svWrites t es, Unseen c g
    w := by
  intro w hw
  rw [svWrites_form hw]
  exact .inr ⟨Ne.symm hg, fun _ => PReg.noConfusion⟩

theorem getLsbD_sv {b : Nat} (hb : b < 72) : ((flg true fSV).setWidth 72 : BitVec 72).getLsbD b = decide (b = 7) := by
  have h : ∀ b : Fin 72, ((flg true fSV).setWidth 72 : BitVec 72).getLsbD b = decide (b.val = 7) := by decide
  exact h ⟨b, hb⟩

/-- Beside SV, a flag is as the word's own results make it. -/
theorem getLsbD_pendAll_svWrites {x : PressSt} (h : InOrder x.pend) (t : Nat) (es : List MoveEff) {b : Nat}
    (hb : b < 32)
    (h7 : b ≠ 7 ∨ es.any (·.sv) = false) :
    (regAtCycle (pendAll (svWrites t es) x) (t + 6) .sr).getLsbD b = (regAtCycle x (t + 6) .sr).getLsbD b := by
  unfold svWrites
  split
  · rename_i hsv
    have hput := regAtCycle_pendAll_put h (w := res (t + 5) (.sr, (flg true fSV).setWidth 72, (flg true fSV).setWidth
        72)) rfl
    refine (congrArg (BitVec.getLsbD · b) hput).trans ?_
    rw [getLsbD_merge72]
    refine if_neg ?_
    rw [show (res (t + 5) (.sr, (flg true fSV).setWidth 72, (flg true fSV).setWidth 72)).mask =
      (flg true fSV).setWidth 72 from rfl,
      getLsbD_sv (by omega)]
    simpa [hsv] using h7
  · rfl

/-! ### What an arithmetic word leaves of its Press -/

section
variable {p : Fin 16} {x : ArithArgs} {op : BitVec 6}

theorem effsOf_of_noMoves (hm : noMoves x) : effsOf s p x.long x.mv = [MoveEff.none, MoveEff.none] := by
  obtain ⟨hl, hmv⟩ := hm
  have hx : (0 : BitVec 40).extractLsb' 20 20 = 0 := by decide
  have hy : (0 : BitVec 40).extractLsb' 0 20 = 0 := by decide
  rw [effsOf, dataEffs, hl, hmv, if_neg Bool.false_ne_true, hx, hy, moveEff_zero, moveEff_zero]

theorem moveWrites_of_noMoves (hm : noMoves x) : moveWrites s p x.long x.mv = [] := by
  rw [moveWrites, effsOf_of_noMoves hm]
  rfl

theorem svWrites_of_noMoves (hm : noMoves x) (t : Nat) : svWrites t (effsOf s p x.long x.mv) = [] := by
  rw [effsOf_of_noMoves hm]
  rfl

theorem dataLegal_of_wordRuns (hr : wordRuns s p x) (hl : opLegal op x = true) : dataLegal x.long (arithField op x)
    x.mv = true := by
  obtain ⟨-, -, hm⟩ := hr
  rw [dataLegal_arithField, hl]
  exact hm

/-- A word without moves changes its Press by its results and nothing else. -/
theorem issueArith_of_noMoves (hi : Issues s p) (hl : dataLegal x.long (arithField op x) x.mv = true) (hm : noMoves x) :
    issueArith p op x s = setPress p (advancePc (withResults s p
      (arithWrites (atIssue s p) (atIssue s p).cyc (arithField op x)))) s := by
  have hes := effsOf_of_noMoves (s := s) (p := p) hm
  have hw : wordWrites (atIssue s p) (arithField op x) (effsOf s p x.long x.mv) =
      arithWrites (atIssue s p) (atIssue s p).cyc (arithField op x) := by
    rw [wordWrites_eq, moveWrites_of_noMoves hm, svWrites_of_noMoves hm, List.nil_append, List.append_nil]
  rw [issueArith, pressIssue_of_quiet hi hl, hw]
  all_goals rw [hes]; rfl

/-- What a word without moves leaves alone. -/
theorem issueArith_frame (hi : Issues s p) (hl : dataLegal x.long (arithField op x) x.mv = true) (hm : noMoves x) :
    let t := issueArith p op x s
    OtherPresses p s t ∧ KeepsBut [.press] s t ∧ sameControl s p t ∧ t.press[p].fault = s.press[p].fault ∧
      t.press[p].msgRd = s.press[p].msgRd := by
  obtain ⟨-, -, hrti, -, -⟩ := id hi
  dsimp only
  rw [issueArith_of_noMoves hi hl hm]
  have hfetch : (atIssue s p).fault = s.press[p].fault ∧ (atIssue s p).msgRd = s.press[p].msgRd := by
    have hx : ∀ y : PressSt, (fetchStep y).fault = y.fault ∧ (fetchStep y).msgRd = y.msgRd := fun y => by
      rw [fetchStep_frame]
      exact ⟨rfl, rfl⟩
    exact hx _
  have hleft : LeftBy s p (arithWrites (atIssue s p) (atIssue s p).cyc (arithField op x))
      (setPress p (advancePc (withResults s p (arithWrites (atIssue s p) (atIssue s p).cyc (arithField op x)))) s) := by
    rw [LeftBy, press_setPress_same]
    exact ⟨_, _, _, rfl⟩
  have hadv := advancePc_frame (x := withResults s p (arithWrites (atIssue s p) (atIssue s p).cyc (arithField op x)))
    fun b hb => hrti b ((atIssue_br s p).symm.trans hb)
  refine ⟨setPress_otherPresses _ _ _, setPress_keepsBut _ _ _, sameControl_of_leftBy hrti hleft, ?_, ?_⟩
  · rw [press_setPress_same, hadv]
    exact hfetch.1
  · rw [press_setPress_same, hadv]
    exact hfetch.2

end

end Sys2Proof.Machine

namespace Sys2Proof
open Machine
variable {s : State}

/-- A word whose condition holds has written the registers and flags that its arithmetic gives, and the Press passes
  to the next. -/
theorem done_of_gives {p : Fin 16} {x : ArithArgs} {op : BitVec 6} {f : ArithIn → ArithRes}
    {regs : List (PReg × BitVec 72)}
    {fl : List (Nat × Bool)} (hc : Canonical s) (hi : Issues s p) (hr : wordRuns s p x) (hl : opLegal op x = true)
    (hop : arithOp op.toNat = some f) (hg : Gives (f (arithOperands s p x)) regs fl) :
    Done s p x regs fl (issueArith p op x s) := by
  have hlegal := dataLegal_of_wordRuns hr hl
  obtain ⟨-, hcond, -⟩ := hr
  obtain ⟨-, -, hrti, -, -⟩ := id hi
  have hleft : LeftBy s p _ (issueArith p op x s) := leftBy_of_legal hi hlegal
  have hord := atIssue_inOrder hc p
  have hnew := newAt_of_leftBy hrti hleft
  rw [wordWrites_eq, arithWrites_arithField hop hcond, hg.wr] at hnew
  have hfl := hg.flags
  have hw1 : (f (arithOperands s p x)).fmask = (flagList fl).1 := congrArg Prod.fst hfl
  have hw2 : (f (arithOperands s p x)).fval = (flagList fl).2 := congrArg Prod.snd hfl
  rw [hw1, hw2] at hnew
  let srw := res (s.press[p].cyc + 5) (.sr, (flagList fl).1.setWidth 72, (flagList fl).2.setWidth 72)
  let dw := (regs.map wholeWrite).map (res (s.press[p].cyc + 5))
  let mw := moveWrites s p x.long x.mv
  have hdw (g : PReg) (hg' : g ∉ regs.map (·.1)) (c : Nat) : ∀ w ∈ dw, Unseen c g w := by
    intro w hw
    obtain ⟨q, hq, rfl⟩ := List.mem_map.1 hw
    obtain ⟨r, hr, rfl⟩ := List.mem_map.1 hq
    refine .inr ⟨fun e => hg' (List.mem_map.2 ⟨r, hr, e⟩), fun n e => ?_⟩
    rcases hg.result r hr with ⟨i, hi⟩ | ⟨i, v, rfl⟩
    · exact PReg.noConfusion (hi.symm.trans e)
    · exact PReg.noConfusion e
  refine ⟨passed_of_leftBy hrti hleft, fun r hr => ?_, fun b hb h7 => ?_, fun hm => ?_⟩
  · obtain ⟨pre, post, hsplit⟩ := List.append_of_mem hr
    have hnot : r.1 ∉ post.map (·.1) := by
      have := hg.distinct
      rw [hsplit] at this
      simp only [List.map_append, List.map_cons, List.nodup_append, List.nodup_cons] at this
      exact this.2.1.1
    have hsr : r.1 ≠ .sr := by
      rcases hg.result r hr with ⟨i, hi⟩ | ⟨i, v, rfl⟩
      · rw [hi]; exact PReg.noConfusion
      · exact PReg.noConfusion
    have hws : mw ++ (dw ++ [srw]) ++ svWrites s.press[p].cyc (effsOf s p x.long x.mv) =
        (mw ++ (pre.map wholeWrite).map (res (s.press[p].cyc + 5))) ++ res (s.press[p].cyc + 5) (wholeWrite r) ::
          ((post.map wholeWrite).map (res (s.press[p].cyc + 5)) ++ [srw] ++
            svWrites s.press[p].cyc (effsOf s p x.long x.mv)) := by
      simp [dw, hsplit]
    rw [hnew, hws]
    refine seenAt_of_wholeWrite (hg.result r hr) (regAtCycle_pendAll_of_last hord rfl fun u hu => ?_)
    simp only [List.mem_append, List.mem_singleton] at hu
    rcases hu with (hu | rfl) | hu
    · obtain ⟨v, hv, rfl⟩ := List.mem_map.1 hu
      obtain ⟨q, hq, rfl⟩ := List.mem_map.1 hv
      refine .inr ⟨fun e => hnot (List.mem_map.2 ⟨q, hq, e⟩), fun n e => ?_⟩
      rcases hg.result q (hsplit ▸ List.mem_append_right _ (List.mem_cons_of_mem _ hq)) with ⟨i, hi⟩ | ⟨i, v, rfl⟩
      · exact PReg.noConfusion (hi.symm.trans e)
      · exact PReg.noConfusion e
    · exact .inr ⟨Ne.symm hsr, fun _ => PReg.noConfusion⟩
    · exact svWrites_unseen hsr u hu
  · have hes : b ≠ 7 ∨ (effsOf s p x.long x.mv).any (·.sv) = false := h7.imp_right fun hm => by
      rw [effsOf_of_noMoves hm]; rfl
    have hput := regAtCycle_pendAll_of_only hord (pre := mw ++ dw) (w := srw) (post := []) rfl (fun u hu => ?_)
        (by simp)
    · rw [hnew, getLsbD_seenAt_sr _ _ hb, pendAll_append, getLsbD_pendAll_svWrites (hord.pendAll _) _ _ hb hes,
        show moveWrites s p x.long x.mv ++ (dw ++ [srw]) = (mw ++ dw) ++ [srw] by simp [mw],
        show s.press[p].cyc + 6 = srw.at_ + 1 from rfl, show (PReg.sr) = srw.reg from rfl, hput]
      refine (getLsbD_merge_flags hg.names (fun y hy => hg.low _ (List.mem_map_of_mem hy)) _ hb).trans ?_
      exact congrArg (Option.getD _) (getLsbD_seenAt_sr (atIssue s p) (s.press[p].cyc + 6) hb).symm
    · rcases List.mem_append.1 hu with hu | hu
      · exact (moveWrites_isData hu).unseen_sr _
      · refine hdw .sr (fun h => ?_) _ u hu
        obtain ⟨r, hr, he⟩ := List.mem_map.1 h
        rcases hg.result r hr with ⟨i, hi⟩ | ⟨i, v, rfl⟩
        · exact PReg.noConfusion (hi.symm.trans he)
        · exact PReg.noConfusion he
  · obtain ⟨h1, h2, h3, h4, h5⟩ := issueArith_frame hi hlegal hm
    refine ⟨h1, h2, h3, h4, h5, fun g k hsr hnot => ?_⟩
    rw [hnew, moveWrites_of_noMoves hm, svWrites_of_noMoves hm]
    refine seenAt_pendAll_unseen fun u hu => ?_
    simp only [List.nil_append, List.append_nil, List.mem_append, List.mem_singleton] at hu
    rcases hu with hu | rfl
    · exact hdw g hnot _ u hu
    · exact .inr ⟨Ne.symm hsr, fun _ => PReg.noConfusion⟩

end Sys2Proof

namespace Sys2Proof.Machine
variable {s : State}

/-! ### What the arithmetic reads -/

section
variable (s : State) (p : Fin 16) (x : ArithArgs)

theorem dOp_eq (i : Fin 16) : dOp s p i = (regAtCycle (atIssue s p) ((atIssue s p).cyc + 3) (.d i)).setWidth 32 := by
  rw [dOp, oldAt, seenAt_d, atIssue_cyc]
  exact BitVec.setWidth_setWidth_of_le _ (by decide)

theorem operands_dw (n : Nat) : (arithOperands s p x).dw n = dOp s p (Fin.ofNat 16 n) := by
  rw [dOp_eq]
  have hget : (arithOperands s p x).dw n =
      (Vector.ofFn fun i => (regAtCycle (atIssue s p) ((atIssue s p).cyc + 3) (.d i)).setWidth
        32)[(Fin.ofNat 16 n).val] := rfl
  rw [hget, Vector.getElem_ofFn]

theorem operands_dv (n : Nat) : (arithOperands s p x).dv n = dIn s p n := congrArg BitVec.toInt (operands_dw s p x n)

theorem operands_ac (i : Fin 4) : (arithOperands s p x).ac[i] = aOp s p i := by
  simp [arithOperands, arithIn, aOp]

theorem operands_sat : (arithOperands s p x).sat = satOn s p := by
  rw [satOn, srOp_eq, bit, BitVec.getLsbD_setWidth]
  rfl

theorem operands_frac : (arithOperands s p x).frac = bit (srOp s p) 14 := by
  rw [srOp_eq, bit, BitVec.getLsbD_setWidth]
  rfl

theorem operands_prod (ps i j : Nat) : (arithOperands s p x).prod ps i j = prodOf s p ps i j := by
  rw [ArithIn.prod, prodOf, operands_dv, operands_dv, operands_frac, pow_add, ← mul_assoc]
  cases bit (srOp s p) 14 <;> rfl

end

theorem fin_ofNat_toNat (d : BitVec 4) : Fin.ofNat 16 d.toNat = d.toFin := Fin.ext (Nat.mod_eq_of_lt d.isLt)

/-! ### Exact results and their flags -/

theorem out32_eq (v : Int) : out32 v = beyond 32 v := by
  simp only [out32, beyond]
  rw [Bool.eq_iff_iff]
  simp only [Bool.or_eq_true, decide_eq_true_eq]
  omega

theorem out72_eq (v : Int) : out72 v = beyond 72 v := by
  simp only [out72, beyond]
  rw [Bool.eq_iff_iff]
  simp only [Bool.or_eq_true, decide_eq_true_eq]
  omega

theorem satS_eq (v : Int) : satS 32 v = sat32 v := by
  simp only [satS, sat32]
  split_ifs <;> omega

theorem sat32_ne (v : Int) : sat32 v ≠ v ↔ beyond 32 v = true := by
  simp only [sat32, beyond, Bool.or_eq_true, decide_eq_true_eq]
  split_ifs <;> omega

/-- Bits [71:63] of an accumulator are not all equal just when its value needs more than 64 bits. -/
theorem flagE_eq (a : BitVec 72) : flagE a = extUsed a := by
  have htop : (a.extractLsb' 63 9).toNat = a.toNat / 2 ^ 63 := by
    rw [BitVec.extractLsb'_toNat, Nat.shiftRight_eq_div_pow, Nat.mod_eq_of_lt]
    have := a.isLt
    omega
  have h0 : (a.extractLsb' 63 9 == 0) = decide (a.toNat / 2 ^ 63 = 0) := by
    rw [Bool.eq_iff_iff, beq_iff_eq, decide_eq_true_eq, ← BitVec.toNat_inj, htop]
    rfl
  have h1 : (a.extractLsb' 63 9 == BitVec.allOnes 9) = decide (a.toNat / 2 ^ 63 = 511) := by
    rw [Bool.eq_iff_iff, beq_iff_eq, decide_eq_true_eq, ← BitVec.toNat_inj, htop]
    rfl
  have hlt := a.isLt
  have hint := BitVec.toInt_eq_toNat_cond a
  rw [flagE, extUsed, h0, h1, Bool.eq_iff_iff]
  simp only [Bool.not_eq_true', Bool.or_eq_false_iff, Bool.or_eq_true, decide_eq_true_eq, decide_eq_false_iff_not]
  split_ifs at hint <;> omega

theorem accFlags_eq (a : BitVec 72) :
    accFlags a = [(3, a.getLsbD 71), (2, a == 0), (4, a.getLsbD 63 == a.getLsbD 62), (5, extUsed a)] := by
  rw [accFlags, flagE_eq, BitVec.msb_eq_getLsbD_last]

/-! ### What each form of result gives -/

theorem gives_accRes (i : Fin 4) (r : Int) {more : List (Nat × Bool)}
    (hn : ([3, 2, 4, 5, 1] ++ more.map Prod.fst).Nodup)
    (h32 : ∀ n ∈ more.map Prod.fst, n < 32) :
    Gives (accRes i r more) [(.ac i, BitVec.ofInt 72 r)]
      (accFl (BitVec.ofInt 72 r) (extUsed (BitVec.ofInt 72 r)) (beyond 72 r) ++ more) where
  wr := rfl
  flags := by
    rw [accRes, accFlags_eq, out72_eq]
    rfl
  result := fun g hg => .inl ⟨i, by rw [List.mem_singleton.1 hg]⟩
  distinct := by simp
  names := by rwa [List.map_append]
  low := by
    rw [List.map_append]
    exact List.forall_mem_append.2 ⟨by change ∀ n ∈ [3, 2, 4, 5, 1], n < 32; decide, h32⟩

theorem gives_accRes2 (i : Fin 4) (r q : Int) :
    Gives (accRes2 i r q) [(.ac i, BitVec.ofInt 72 r), (.ac (i + 1), BitVec.ofInt 72 q)]
      (accFl (BitVec.ofInt 72 r) (extUsed (BitVec.ofInt 72 r) || extUsed (BitVec.ofInt 72 q))
        (beyond 72 r || beyond 72 q)) where
  wr := rfl
  flags := by
    rw [accRes2, out72_eq, out72_eq, flagE_eq, flagE_eq, BitVec.msb_eq_getLsbD_last]
    rfl
  result := fun g hg => by
    simp only [List.mem_cons, List.not_mem_nil, or_false] at hg
    rcases hg with rfl | rfl
    · exact .inl ⟨i, rfl⟩
    · exact .inl ⟨i + 1, rfl⟩
  distinct := by
    have : i ≠ i + 1 := by revert i; decide
    simp [this]
  names := by change [3, 2, 4, 5, 1].Nodup; decide
  low := by change ∀ n ∈ [3, 2, 4, 5, 1], n < 32; decide

theorem gives_dRes (d : Fin 16) (v : Word) {more : List (Nat × Bool)} (hn : ([3, 2] ++ more.map Prod.fst).Nodup)
    (h32 : ∀ n ∈ more.map Prod.fst, n < 32) :
    Gives (dRes d v more) [(.d d, v.setWidth 72)] ([(3, v.getLsbD 31), (2, v == 0)] ++ more) where
  wr := rfl
  flags := by
    rw [dRes, BitVec.msb_eq_getLsbD_last]
  result := fun g hg => .inr ⟨d, v, List.mem_singleton.1 hg⟩
  distinct := by simp
  names := by rwa [List.map_append]
  low := by
    rw [List.map_append]
    exact List.forall_mem_append.2 ⟨by change ∀ n ∈ [3, 2], n < 32; decide, h32⟩

theorem gives_noRes (v : Word) {more : List (Nat × Bool)} (hn : ([3, 2] ++ more.map Prod.fst).Nodup)
    (h32 : ∀ n ∈ more.map Prod.fst, n < 32) :
    Gives (noRes v more) [] ([(3, v.getLsbD 31), (2, v == 0)] ++ more) where
  wr := rfl
  flags := by
    rw [noRes, BitVec.msb_eq_getLsbD_last]
  result := fun _ hg => absurd hg List.not_mem_nil
  distinct := List.nodup_nil
  names := by rwa [List.map_append]
  low := by
    rw [List.map_append]
    exact List.forall_mem_append.2 ⟨by change ∀ n ∈ [3, 2], n < 32; decide, h32⟩

end Sys2Proof.Machine

namespace Sys2Proof
open Machine
variable {s : State}

/-- An arithmetic instruction has written what its operation gives. -/
theorem runs_arith {p : Fin 16} {x : ArithArgs} {c : Instr} {op : BitVec 6} {f : ArithIn → ArithRes}
    {regs : List (PReg × BitVec 72)}
    {fl : List (Nat × Bool)} (hc : Canonical s) (hi : Issues s p) (hr : wordRuns s p x)
    (hexec : exec c s = .next (issueArith p op x s)) (hl : opLegal op x = true)
    (hop : arithOp op.toNat = some f) (hg : Gives (f (arithOperands s p x)) regs fl) : Runs c s (Done s p x regs fl) :=
  ⟨_, hexec, done_of_gives hc hi hr hl hop hg⟩

/-- A legal word without arithmetic results writes no register and no flag but by its moves. -/
theorem done_of_noResults {p : Fin 16} {x : ArithArgs} {op : BitVec 6} (hc : Canonical s) (hi : Issues s p)
    (hl : dataLegal x.long (arithField op x) x.mv = true)
    (hw : arithWrites (atIssue s p) (atIssue s p).cyc (arithField op x) = []) : Done s p x [] []
      (issueArith p op x s) := by
  obtain ⟨-, -, hrti, -, -⟩ := id hi
  have hleft : LeftBy s p _ (issueArith p op x s) := leftBy_of_legal hi hl
  have hord := atIssue_inOrder hc p
  have hnew := newAt_of_leftBy hrti hleft
  rw [wordWrites_eq, hw, List.append_nil] at hnew
  refine ⟨passed_of_leftBy hrti hleft, fun r hr => absurd hr List.not_mem_nil, fun b hb h7 => ?_, fun hm => ?_⟩
  · have hes : b ≠ 7 ∨ (effsOf s p x.long x.mv).any (·.sv) = false := h7.imp_right fun hm => by
      rw [effsOf_of_noMoves hm]; rfl
    rw [hnew, getLsbD_seenAt_sr _ _ hb, pendAll_append, getLsbD_pendAll_svWrites (hord.pendAll _) _ _ hb hes,
      regAtCycle_pendAll_unseen fun w hw => (moveWrites_isData hw).unseen_sr _]
    exact (getLsbD_seenAt_sr (atIssue s p) (s.press[p].cyc + 6) hb).symm
  · obtain ⟨h1, h2, h3, h4, h5⟩ := issueArith_frame hi hl hm
    refine ⟨h1, h2, h3, h4, h5, fun g k _ _ => ?_⟩
    rw [hnew, moveWrites_of_noMoves hm, svWrites_of_noMoves hm]
    rfl

end Sys2Proof

namespace Sys2Proof.Machine
variable {s : State}

/-! ### O35: the data instructions -/

section
variable (s : State) (p : Fin 16) (x : ArithArgs) (d m n : BitVec 4)

theorem operands_dst : (arithOperands s p (withF x d m n)).dst = d.toFin := fin_ofNat_toNat d

theorem operands_dw_s : (arithOperands s p (withF x d m n)).dw (arithOperands s p (withF x d m n)).s = dOp s p
    m.toFin := by
  rw [operands_dw, ← fin_ofNat_toNat m]
  rfl

theorem operands_dw_t : (arithOperands s p (withF x d m n)).dw (arithOperands s p (withF x d m n)).t = dOp s p
    n.toFin := by
  rw [operands_dw, ← fin_ofNat_toNat n]
  rfl

theorem operands_dv_s : (arithOperands s p (withF x d m n)).dv (arithOperands s p (withF x d m n)).s =
    (dOp s p m.toFin).toInt :=
  congrArg BitVec.toInt (operands_dw_s s p x d m n)

theorem operands_dv_t : (arithOperands s p (withF x d m n)).dv (arithOperands s p (withF x d m n)).t =
    (dOp s p n.toFin).toInt :=
  congrArg BitVec.toInt (operands_dw_t s p x d m n)

theorem operands_cntS : (arithOperands s p (withF x d m n)).cntS = (dOp s p n.toFin).toNat % 64 :=
  congrArg (fun w : Word => w.toNat % 64) (operands_dw_t s p x d m n)

end

/-- The condition of a word that runs is one of Table 06-8. -/
theorem cond_ne_of_wordRuns {p : Fin 16} {x : ArithArgs} (h : wordRuns s p x) : x.cond.toNat ≠ 15 :=
  fun e => h.1 (BitVec.eq_of_toNat_eq e)

/-- An instruction whose result is one D register. -/
theorem runs_dRes {p : Fin 16} {x : ArithArgs} {d m n : BitVec 4} {c : Instr} {op : BitVec 6}
    {f : ArithIn → ArithRes} {v : Word}
    {more : List (Nat × Bool)} (hc : Canonical s) (hi : Issues s p) (hr : wordRuns s p x)
    (hexec : exec c s = .next (issueArith p op (withF x d m n) s)) (hl : opLegal op (withF x d m n) = true)
    (hop : arithOp op.toNat = some f) (hf : f (arithOperands s p (withF x d m n)) = dRes d.toFin v more)
    (hn : ([3, 2] ++ more.map Prod.fst).Nodup) (h32 : ∀ n ∈ more.map Prod.fst, n < 32) : Runs c s
      (dDone s p x d v more) :=
  runs_arith (x := withF x d m n) hc hi hr hexec hl hop (by rw [hf]; exact gives_dRes d.toFin v hn h32)

theorem shiftLeft_eq_ofNat (a : Word) (k : Nat) : a <<< k = BitVec.ofNat 32 (a.toNat * 2 ^ k) := by
  apply BitVec.eq_of_toNat_eq
  rw [BitVec.toNat_shiftLeft, BitVec.toNat_ofNat, Nat.shiftLeft_eq]

theorem ushiftRight_eq_ofNat (a : Word) (k : Nat) : a >>> k = BitVec.ofNat 32 (a.toNat / 2 ^ k) := by
  apply BitVec.eq_of_toNat_eq
  rw [BitVec.toNat_ushiftRight, BitVec.toNat_ofNat, Nat.shiftRight_eq_div_pow, Nat.mod_eq_of_lt]
  exact (Nat.div_le_self _ _).trans_lt a.isLt

theorem sshiftRight_eq_ofInt {w : Nat} (a : BitVec w) (k : Nat) : a.sshiftRight k = BitVec.ofInt w
    (a.toInt.fdiv (2 ^ k)) := by
  rw [BitVec.sshiftRight_eq, Int.shiftRight_eq_div_pow, Int.fdiv_eq_ediv_of_nonneg _ (by positivity)]
  norm_cast

/-- Bit 31 and the bit last shifted out by an arithmetic shift. -/
theorem asr_carry (a : Word) {k : Nat} : (if k ≤ 32 then a.getLsbD (k - 1) else a.msb) = a.getLsbD
    (min 31 (k - 1)) := by
  split
  · rw [min_eq_right (by omega)]
  · rw [min_eq_left (by omega), BitVec.msb_eq_getLsbD_last]

theorem toInt_range (a : Word) : -(2 ^ 31) ≤ a.toInt ∧ a.toInt < 2 ^ 31 := ⟨BitVec.le_toInt a, BitVec.toInt_lt⟩

theorem beq_minWord (a : Word) : (a == 0x80000000#32) = decide (a.toInt = -(2 ^ 31)) := by
  have h : (0x80000000#32 : Word).toInt = -(2 ^ 31) := by decide
  rw [← h, Bool.eq_iff_iff, beq_iff_eq, decide_eq_true_eq, BitVec.toInt_inj]

/-- A magnitude or a negation overflows where it is 2^31, and only there: then it saturates with SAT = 1 (R197). -/
theorem absNeg_eq {p : Fin 16} {x : ArithArgs} {d m n : BitVec 4} {r : Int} {v : Word} {o : Bool}
    (hv : BitVec.ofInt 32 r = v)
    (htop : o = true → r = 2 ^ 31) (hin : o = false → -(2 ^ 31) ≤ r ∧ r < 2 ^ 31) :
    absNeg (arithOperands s p (withF x d m n)) r =
      dRes d.toFin (if o && satOn s p then 0x7FFFFFFF#32 else v)
        ([(1, o)] ++ if o && satOn s p then [(7, true)] else []) := by
  have hout : out32 r = o := by
    rw [out32_eq]
    cases o
    · obtain ⟨hlo, hhi⟩ := hin rfl
      simp only [beyond, Bool.or_eq_false_iff, decide_eq_false_iff_not]
      omega
    · rw [htop rfl]
      decide
  rw [absNeg, operands_dst, operands_sat, hout, satS_eq]
  cases o
  · obtain ⟨hlo, hhi⟩ := hin rfl
    have hs : sat32 r = r := by rw [sat32, if_neg (by omega), if_neg (by omega)]
    simp only [hs, ite_self, i32, hv, Bool.false_and, Bool.false_eq_true, if_false]
  · cases satOn s p
    · simp only [i32, hv, Bool.and_false, Bool.false_eq_true, if_false]
    · have hs : i32 (sat32 r) = 0x7FFFFFFF#32 := by rw [htop rfl]; decide
      simp only [hs, Bool.and_true, if_true]

section
variable {p : Fin 16} {x : ArithArgs} (hc : Canonical s) (hi : Issues s p) (hr : wordRuns s p x)
include hc hi hr

/-- Sums, differences, logic and comparisons of two D registers. -/
theorem runs_binary (d m n : BitVec 4) :
    let w := withF x d m n
    let a := dOp s p m.toFin
    let b := dOp s p n.toFin
    let vp := beyond 32 (a.toInt + b.toInt)
    let vm := beyond 32 (a.toInt - b.toInt)
    let cp := decide (2 ^ 32 ≤ a.toNat + b.toNat)
    let cm := decide (b.toNat ≤ a.toNat)
    Runs (.opAdd p w) s (dDone s p x d (a + b) [(1, vp), (0, cp)]) ∧
    Runs (.opAdds p w) s
      (dDone s p x d (BitVec.ofInt 32 (sat32 (a.toInt + b.toInt)))
        ([(1, vp), (0, cp)] ++ if vp then [(7, true)] else [])) ∧
    Runs (.opSub p w) s (dDone s p x d (a - b) [(1, vm), (0, cm)]) ∧
    Runs (.opSubs p w) s
      (dDone s p x d (BitVec.ofInt 32 (sat32 (a.toInt - b.toInt)))
        ([(1, vm), (0, cm)] ++ if vm then [(7, true)] else [])) ∧
    Runs (.opAnd p w) s (dDone s p x d (a &&& b) [(1, false)]) ∧ Runs (.opOr p w) s
      (dDone s p x d (a ||| b) [(1, false)]) ∧
    Runs (.opXor p w) s (dDone s p x d (a ^^^ b) [(1, false)]) ∧
    Runs (.opMin p w) s (dDone s p x d (if a.toInt ≤ b.toInt then a else b) [(1, false)]) ∧
    Runs (.opMax p w) s (dDone s p x d (if b.toInt ≤ a.toInt then a else b) [(1, false)]) := by
  have hcond := cond_ne_of_wordRuns hr
  have hl : ∀ op ∈ [0x20#6, 0x21#6, 0x22#6, 0x23#6, 0x24#6, 0x25#6, 0x26#6, 0x2A#6, 0x2B#6], opLegal op
      (withF x d m n) = true := by
    simp [opLegal, arithLegal, withF, hcond]
  refine ⟨?_, ?_, ?_, ?_, ?_, ?_, ?_, ?_, ?_⟩
  · refine runs_dRes (op := 0x20#6) hc hi hr rfl (hl _ (by decide)) rfl ?_ (by simp) (by simp)
    simp only [aAdd, operands_dst, operands_dw_s, operands_dw_t, operands_dv_s, operands_dv_t, out32_eq]
    rfl
  · refine runs_dRes (op := 0x21#6) hc hi hr rfl (hl _ (by decide)) rfl ?_ ?_ ?_
    · simp only [aAdds, operands_dst, operands_dw_s, operands_dw_t, operands_dv_s, operands_dv_t, out32_eq, satS_eq]
      rfl
    all_goals split <;> simp
  · refine runs_dRes (op := 0x22#6) hc hi hr rfl (hl _ (by decide)) rfl ?_ (by simp) (by simp)
    simp only [aSub, operands_dst, operands_dw_s, operands_dw_t, operands_dv_s, operands_dv_t, out32_eq]
    rfl
  · refine runs_dRes (op := 0x23#6) hc hi hr rfl (hl _ (by decide)) rfl ?_ ?_ ?_
    · simp only [aSubs, operands_dst, operands_dw_s, operands_dw_t, operands_dv_s, operands_dv_t, out32_eq, satS_eq]
      rfl
    all_goals split <;> simp
  · refine runs_dRes (op := 0x24#6) hc hi hr rfl (hl _ (by decide)) rfl ?_ (by simp) (by simp)
    simp only [aAnd, operands_dst, operands_dw_s, operands_dw_t]
  · refine runs_dRes (op := 0x25#6) hc hi hr rfl (hl _ (by decide)) rfl ?_ (by simp) (by simp)
    simp only [aOr, operands_dst, operands_dw_s, operands_dw_t]
  · refine runs_dRes (op := 0x26#6) hc hi hr rfl (hl _ (by decide)) rfl ?_ (by simp) (by simp)
    simp only [aXor, operands_dst, operands_dw_s, operands_dw_t]
  · refine runs_dRes (op := 0x2A#6) hc hi hr rfl (hl _ (by decide)) rfl ?_ (by simp) (by simp)
    simp only [aMin, operands_dst, operands_dw_s, operands_dw_t, operands_dv_s, operands_dv_t]
  · refine runs_dRes (op := 0x2B#6) hc hi hr rfl (hl _ (by decide)) rfl ?_ (by simp) (by simp)
    simp only [aMax, operands_dst, operands_dw_s, operands_dw_t, operands_dv_s, operands_dv_t, ge_iff_le]

/-- Shifts of a D register by the count in another. -/
theorem runs_shift (d m n : BitVec 4) :
    let k := (dOp s p n.toFin).toNat % 64
    let w := withF x d m n
    let a := dOp s p m.toFin
    let fl (c : Bool) : List (Nat × Bool) := [(1, false)] ++ if k = 0 then [] else [(0, c)]
    Runs (.opLsl p w) s (dDone s p x d (BitVec.ofNat 32 (a.toNat * 2 ^ k))
      (fl (decide (k ≤ 32) && a.getLsbD (32 - k)))) ∧
    Runs (.opAsr p w) s (dDone s p x d (BitVec.ofInt 32 (a.toInt.fdiv (2 ^ k))) (fl (a.getLsbD (min 31 (k - 1))))) ∧
    Runs (.opLsr p w) s (dDone s p x d (BitVec.ofNat 32 (a.toNat / 2 ^ k)) (fl (a.getLsbD (k - 1)))) := by
  have hcond := cond_ne_of_wordRuns hr
  have hl : ∀ op ∈ [0x27#6, 0x28#6, 0x29#6], opLegal op (withF x d m n) = true := by
    simp [opLegal, arithLegal, withF, hcond]
  refine ⟨?_, ?_, ?_⟩
  · refine runs_dRes (op := 0x27#6) hc hi hr rfl (hl _ (by decide)) rfl ?_ ?_ ?_
    · simp only [aLsl, operands_dst, operands_dw_s, operands_cntS, shiftLeft_eq_ofNat]
    all_goals dsimp only; split <;> simp
  · refine runs_dRes (op := 0x28#6) hc hi hr rfl (hl _ (by decide)) rfl ?_ ?_ ?_
    · simp only [aAsr, operands_dst, operands_dw_s, operands_cntS, sshiftRight_eq_ofInt, asr_carry]
    all_goals dsimp only; split <;> simp
  · refine runs_dRes (op := 0x29#6) hc hi hr rfl (hl _ (by decide)) rfl ?_ ?_ ?_
    · simp only [aLsr, operands_dst, operands_dw_s, operands_cntS, ushiftRight_eq_ofNat]
    all_goals dsimp only; split <;> simp

/-- Magnitude and negation. -/
theorem runs_absNeg (d m : BitVec 4) :
    let w := withF x d m 0
    let a := dOp s p m.toFin
    let o := a == 0x80000000#32
    let fl := [(1, o)] ++ if o && satOn s p then [(7, true)] else []
    Runs (.opAbs p w) s (dDone s p x d (if o && satOn s p then 0x7FFFFFFF#32 else if a.toInt < 0 then -a else a) fl) ∧
    Runs (.opNeg p w) s (dDone s p x d (if o && satOn s p then 0x7FFFFFFF#32 else -a) fl) := by
  have hcond := cond_ne_of_wordRuns hr
  have hl : ∀ op ∈ [0x2C#6, 0x2D#6], opLegal op (withF x d m 0) = true := by
    simp [opLegal, arithLegal, withF, hcond]
  intro w a o fl
  have hrange := toInt_range a
  have ho : o = decide (a.toInt = -(2 ^ 31)) := beq_minWord a
  have hmin (h : o = true) : a.toInt = -(2 ^ 31) := of_decide_eq_true (ho.symm.trans h)
  have hmore (h : o = false) : a.toInt ≠ -(2 ^ 31) := of_decide_eq_false (ho.symm.trans h)
  have hneg : BitVec.ofInt 32 (-a.toInt) = -a := by rw [BitVec.ofInt_neg, BitVec.ofInt_toInt]
  have hnames : ([3, 2] ++ fl.map Prod.fst).Nodup ∧ ∀ n ∈ fl.map Prod.fst, n < 32 := by
    dsimp only [fl]
    split <;> simp
  obtain ⟨hn, h32⟩ := hnames
  refine ⟨?_, ?_⟩
  · refine runs_dRes (op := 0x2C#6) hc hi hr rfl (hl _ (by decide)) rfl ?_ hn h32
    rw [aAbs, operands_dv_s]
    change absNeg _ (if a.toInt < 0 then -a.toInt else a.toInt) = _
    refine absNeg_eq ?_ (fun h => ?_) fun h => ?_
    · split
      · exact hneg
      · exact BitVec.ofInt_toInt
    · have := hmin h
      rw [if_pos (by omega)]
      omega
    · have := hmore h
      split <;> omega
  · refine runs_dRes (op := 0x2D#6) hc hi hr rfl (hl _ (by decide)) rfl ?_ hn h32
    rw [aNeg, operands_dv_s]
    change absNeg _ (-a.toInt) = _
    refine absNeg_eq hneg (fun h => ?_) fun h => ?_
    · have := hmin h
      omega
    · have := hmore h
      omega

end

/-- A comparison sets the flags of a difference. -/
theorem gives_cmp (s : State) (p : Fin 16) (x : ArithArgs) (m n : BitVec 4) :
    let a := dOp s p m.toFin
    let b := dOp s p n.toFin
    Gives (aCmp (arithOperands s p (withF x 0 m n))) []
      [(3, (a - b).getLsbD 31), (2, a == b), (1, beyond 32 (a.toInt - b.toInt)), (0, decide (b.toNat ≤ a.toNat))] := by
  intro a b
  have heq : (a - b == 0) = (a == b) := by
    rw [Bool.eq_iff_iff, beq_iff_eq, beq_iff_eq]
    exact sub_eq_zero
  rw [aCmp, operands_dw_s, operands_dw_t, operands_dv_s, operands_dv_t, out32_eq, ← heq]
  exact gives_noRes (a - b) (by simp) (by simp)

/-- Settles O35: each operation's exact result and flags are those of Table 06-6, and the word leaves nothing else. -/
theorem dataInstructions : Obligations.DataInstructions := by
  unfold Obligations.DataInstructions
  intro s p x hc hi hr
  refine ⟨runs_binary hc hi hr, fun d m n k hk => ?_, runs_absNeg hc hi hr, fun m n => ?_, fun hcond => ?_⟩
  · subst hk
    exact runs_shift hc hi hr d m n
  · have hl : opLegal 0x2E#6 (withF x 0 m n) = true := by
      simp [opLegal, arithLegal, withF, cond_ne_of_wordRuns hr]
    exact runs_arith (op := 0x2E#6) (x := withF x 0 m n) hc hi hr rfl hl rfl (gives_cmp s p x m n)
  · have hl : opLegal 0x00#6 (withF x 0 0 0) = true := by
      simp [opLegal, arithLegal, withF, hcond]
    exact ⟨_, rfl, done_of_noResults (x := withF x 0 0 0) hc hi (dataLegal_of_wordRuns (x := withF x 0 0 0) hr hl)
      (arithWrites_of_noOp rfl)⟩

/-! ### O33: the products -/

/-- Rounding convergently at bit 32 has one outcome (R154). -/
theorem convDiv_of_roundsTo {m r : Int} (h : roundsTo m r) : convDiv m (2 ^ 32) = r := by
  obtain ⟨hnear, heven⟩ := h
  have hdiv : m.fdiv ((2 ^ 32 : Nat) : Int) = m / 4294967296 := Int.fdiv_eq_ediv_of_nonneg _ (by positivity)
  simp only [convDiv, hdiv]
  have hcast : ((2 ^ 32 : Nat) : Int) = 4294967296 := by norm_num
  rw [hcast]
  norm_num at hnear heven
  split_ifs <;> omega

section
variable {ps : Fin 3} {a : Fin 4} {b : Fin 2}

theorem toNat_fPs (ps : Fin 3) (a : Fin 4) : (fPs ps a).toNat = 4 * ps.val + a.val := by
  rw [fPs, BitVec.toNat_ofNat]
  omega

theorem toNat_fPair (ps : Fin 3) (a : Fin 2) : (fPair ps a).toNat = 4 * ps.val + 2 * a.val := by
  rw [fPair, BitVec.toNat_ofNat]
  omega

theorem toNat_fCplx (j ps : Bool) (a : Fin 2) : (fCplx j ps a).toNat = 8 * j.toNat + 4 * ps.toNat + 2 * a.val := by
  rw [fCplx, BitVec.toNat_ofNat]
  have := j.toNat_le
  have := ps.toNat_le
  omega

theorem toNat_even (i : Fin 8) : (even i).toNat = 2 * i.val := by
  rw [even, BitVec.toNat_ofNat]
  omega

theorem toNat_quad (i : Fin 4) : (quad i).toNat = 4 * i.val := by
  rw [quad, BitVec.toNat_ofNat]
  omega

end

section
variable (s : State) (p : Fin 16) (x : ArithArgs) (f2 f3 : BitVec 4)

theorem operands_av {f1 : BitVec 4} {a : Fin 4} (h : f1.toNat % 4 = a.val) :
    (arithOperands s p (withF x f1 f2 f3)).a = a ∧ (arithOperands s p (withF x f1 f2 f3)).av = aIn s p a ∧
      (arithOperands s p (withF x f1 f2 f3)).av1 = aIn s p (a + 1) := by
  have ha : (arithOperands s p (withF x f1 f2 f3)).a = a := Fin.ext h
  refine ⟨ha, ?_, ?_⟩
  · rw [ArithIn.av, operands_ac, ha]
    rfl
  · rw [ArithIn.av1, operands_ac, ha]
    rfl

/-- The products of a word with its product shift. -/
theorem operands_prod_ps {f1 : BitVec 4} {k : Nat} (h : f1.toNat / 4 = k) (i j : Nat) :
    (arithOperands s p (withF x f1 f2 f3)).prod (arithOperands s p (withF x f1 f2 f3)).ps i j = prodOf s p k i j := by
  rw [operands_prod]
  exact congrArg (fun k => prodOf s p k i j) h

/-- The complex product of a word. -/
theorem operands_cprod (j ps : Bool) (a : Fin 2) (m n : Fin 8) :
    (arithOperands s p (withF x (fCplx j ps a) (even m) (even n))).cprod = cplx s p j ps (2 * m) (2 * n) := by
  have h1 : (arithOperands s p (withF x (fCplx j ps a) (even m) (even n))).f1.toNat = 8 * j.toNat + 4 * ps.toNat + 2
      * a.val :=
    toNat_fCplx j ps a
  have h2 : (arithOperands s p (withF x (fCplx j ps a) (even m) (even n))).s = 2 * m.val := toNat_even m
  have h3 : (arithOperands s p (withF x (fCplx j ps a) (even m) (even n))).t = 2 * n.val := toNat_even n
  have hps : (8 * j.toNat + 4 * ps.toNat + 2 * a.val) / 4 % 2 = ps.toNat := by
    have := j.toNat_le
    have := ps.toNat_le
    omega
  simp only [ArithIn.cprod, operands_prod, h1, h2, h3, hps]
  unfold cplx
  cases j
  · rw [if_neg (by have := ps.toNat_le; simp only [Bool.toNat_false]; omega)]
    rfl
  · rw [if_pos (by simp only [Bool.toNat_true]; omega)]
    rfl

end

theorem pair_next : ∀ a : Fin 2, Fin.ofNat 4 (2 * a.val) + 1 = Fin.ofNat 4 (2 * a.val + 1) := by decide

theorem pair_mod : ∀ a : Fin 2, (2 * a.val) % 4 = (Fin.ofNat 4 (2 * a.val)).val := by decide

section
variable {p : Fin 16} {x : ArithArgs} (hc : Canonical s) (hi : Issues s p) (hr : wordRuns s p x)
include hc hi hr

/-- An instruction whose result is one accumulator. -/
theorem runs_accRes {f1 f2 f3 : BitVec 4} {c : Instr} {op : BitVec 6} {f : ArithIn → ArithRes} {a : Fin 4} {v : Int}
    (hexec : exec c s = .next (issueArith p op (withF x f1 f2 f3) s)) (hl : opLegal op (withF x f1 f2 f3) = true)
    (hop : arithOp op.toNat = some f) (hf : f (arithOperands s p (withF x f1 f2 f3)) = accRes a v []) :
    Runs c s (accDone s p x a v) := by
  have hg : Gives (f (arithOperands s p (withF x f1 f2 f3))) _ _ := hf ▸ gives_accRes a v (more := []) (by decide)
      (by simp)
  rw [List.append_nil] at hg
  exact runs_arith (x := withF x f1 f2 f3) hc hi hr hexec hl hop hg

/-- An instruction whose results are the two accumulators of a pair. -/
theorem runs_accRes2 {f1 f2 f3 : BitVec 4} {c : Instr} {op : BitVec 6} {f : ArithIn → ArithRes} {a : Fin 2} {v w : Int}
    (hexec : exec c s = .next (issueArith p op (withF x f1 f2 f3) s)) (hl : opLegal op (withF x f1 f2 f3) = true)
    (hop : arithOp op.toNat = some f)
    (hf : f (arithOperands s p (withF x f1 f2 f3)) = accRes2 (Fin.ofNat 4 (2 * a.val)) v w) : Runs c s
      (accDone2 s p x a v w) := by
  have hnext := pair_next a
  have hg : Gives (f (arithOperands s p (withF x f1 f2 f3))) _ _ := hf ▸ gives_accRes2 (Fin.ofNat 4 (2 * a.val)) v w
  rw [hnext] at hg
  exact runs_arith (x := withF x f1 f2 f3) hc hi hr hexec hl hop hg

/-- Products of one pair of D registers. -/
theorem runs_product (ps : Fin 3) (a : Fin 4) (m n : BitVec 4) :
    let w := withF x (fPs ps a) m n
    let v := prodOf s p ps m.toNat n.toNat
    Runs (.opMpy p w) s (accDone s p x a v) ∧ Runs (.opMac p w) s (accDone s p x a (aIn s p a + v)) ∧
      Runs (.opMsu p w) s (accDone s p x a (aIn s p a - v)) := by
  have hcond := cond_ne_of_wordRuns hr
  have hf1 := toNat_fPs ps a
  have hl : ∀ op ∈ [0x01#6, 0x02#6, 0x03#6], opLegal op (withF x (fPs ps a) m n) = true := by
    have : (4 * ps.val + a.val) / 4 < 3 := by omega
    simp [opLegal, arithLegal, withF, hcond, hf1, this]
  obtain ⟨ha, hav, -⟩ := operands_av s p x m n (f1 := fPs ps a) (a := a) (by omega)
  have hprod := operands_prod_ps s p x m n (f1 := fPs ps a) (k := ps.val) (by omega) m.toNat n.toNat
  refine ⟨?_, ?_, ?_⟩
  · refine runs_accRes (op := 0x01#6) hc hi hr rfl (hl _ (by decide)) rfl ?_
    exact congrArg₂ (accRes · · []) ha hprod
  · refine runs_accRes (op := 0x02#6) hc hi hr rfl (hl _ (by decide)) rfl ?_
    exact congrArg₂ (accRes · · []) ha (congrArg₂ (· + ·) hav hprod)
  · refine runs_accRes (op := 0x03#6) hc hi hr rfl (hl _ (by decide)) rfl ?_
    exact congrArg₂ (accRes · · []) ha (congrArg₂ (· - ·) hav hprod)

/-- Sums of two products. -/
theorem runs_product2 (ps : Fin 3) (a : Fin 4) (m n : Fin 8) :
    let w := withF x (fPs ps a) (even m) (even n)
    let v := prodOf s p ps (2 * m) (2 * n) + prodOf s p ps (2 * m + 1) (2 * n + 1)
    Runs (.opMpy2 p w) s (accDone s p x a v) ∧ Runs (.opMac2 p w) s (accDone s p x a (aIn s p a + v)) ∧
      Runs (.opMsu2 p w) s (accDone s p x a (aIn s p a - v)) := by
  have hcond := cond_ne_of_wordRuns hr
  have hf1 := toNat_fPs ps a
  have hl : ∀ op ∈ [0x04#6, 0x05#6, 0x06#6], opLegal op (withF x (fPs ps a) (even m) (even n)) = true := by
    have : (4 * ps.val + a.val) / 4 < 3 := by omega
    simp [opLegal, arithLegal, withF, hcond, hf1, this, toNat_even]
  obtain ⟨ha, hav, -⟩ := operands_av s p x (even m) (even n) (f1 := fPs ps a) (a := a) (by omega)
  have hprod := operands_prod_ps s p x (even m) (even n) (f1 := fPs ps a) (k := ps.val) (by omega)
  have hs : (arithOperands s p (withF x (fPs ps a) (even m) (even n))).s = 2 * m.val := toNat_even m
  have ht : (arithOperands s p (withF x (fPs ps a) (even m) (even n))).t = 2 * n.val := toNat_even n
  have hprod2 : (arithOperands s p (withF x (fPs ps a) (even m) (even n))).prod2 =
      prodOf s p ps (2 * m) (2 * n) + prodOf s p ps (2 * m + 1) (2 * n + 1) := by
    rw [ArithIn.prod2, hprod, hprod, hs, ht]
  refine ⟨?_, ?_, ?_⟩
  · refine runs_accRes (op := 0x04#6) hc hi hr rfl (hl _ (by decide)) rfl ?_
    exact congrArg₂ (accRes · · []) ha hprod2
  · refine runs_accRes (op := 0x05#6) hc hi hr rfl (hl _ (by decide)) rfl ?_
    exact congrArg₂ (accRes · · []) ha (congrArg₂ (· + ·) hav hprod2)
  · refine runs_accRes (op := 0x06#6) hc hi hr rfl (hl _ (by decide)) rfl ?_
    exact congrArg₂ (accRes · · []) ha (congrArg₂ (· - ·) hav hprod2)

/-- Products of two lanes. -/
theorem runs_lanes (ps : Fin 3) (a : Fin 2) (m n : Fin 8) :
    let w := withF x (fPair ps a) (even m) (even n)
    let v := prodOf s p ps (2 * m) (2 * n)
    let u := prodOf s p ps (2 * m + 1) (2 * n + 1)
    Runs (.opDmpy p w) s (accDone2 s p x a v u) ∧
      Runs (.opDmac p w) s
        (accDone2 s p x a (aIn s p (Fin.ofNat 4 (2 * a)) + v) (aIn s p (Fin.ofNat 4 (2 * a + 1)) + u)) := by
  have hcond := cond_ne_of_wordRuns hr
  have hf1 := toNat_fPair ps a
  have hl : ∀ op ∈ [0x07#6, 0x08#6], opLegal op (withF x (fPair ps a) (even m) (even n)) = true := by
    have h3 : (4 * ps.val + 2 * a.val) / 4 < 3 := by omega
    have h2 : (4 * ps.val + 2 * a.val) % 2 = 0 := by omega
    simp [opLegal, arithLegal, withF, hcond, hf1, h3, h2, toNat_even]
  obtain ⟨ha, hav, hav1⟩ := operands_av s p x (even m) (even n) (f1 := fPair ps a) (a := Fin.ofNat 4 (2 * a.val))
    (by have := pair_mod a; omega)
  rw [pair_next] at hav1
  have hprod := operands_prod_ps s p x (even m) (even n) (f1 := fPair ps a) (k := ps.val) (by omega)
  have hs : (arithOperands s p (withF x (fPair ps a) (even m) (even n))).s = 2 * m.val := toNat_even m
  have ht : (arithOperands s p (withF x (fPair ps a) (even m) (even n))).t = 2 * n.val := toNat_even n
  refine ⟨?_, ?_⟩
  · refine runs_accRes2 (op := 0x07#6) hc hi hr rfl (hl _ (by decide)) rfl ?_
    rw [aDmpy, ha, hprod, hprod, hs, ht]
  · refine runs_accRes2 (op := 0x08#6) hc hi hr rfl (hl _ (by decide)) rfl ?_
    rw [aDmac, ha, hav, hav1, hprod, hprod, hs, ht]

/-- Sums of two products in two lanes. -/
theorem runs_qmac (ps : Fin 3) (a : Fin 2) (m n : Fin 4) :
    Runs (.opQmac p (withF x (fPair ps a) (quad m) (quad n))) s
      (accDone2 s p x a
        (aIn s p (Fin.ofNat 4 (2 * a)) + (prodOf s p ps (4 * m) (4 * n) + prodOf s p ps (4 * m + 1) (4 * n + 1)))
        (aIn s p (Fin.ofNat 4 (2 * a + 1)) + (prodOf s p ps (4 * m + 2) (4 * n + 2) + prodOf s p ps (4 * m + 3)
          (4 * n + 3)))) := by
  have hcond := cond_ne_of_wordRuns hr
  have hf1 := toNat_fPair ps a
  have hl : opLegal 0x09#6 (withF x (fPair ps a) (quad m) (quad n)) = true := by
    have h3 : (4 * ps.val + 2 * a.val) / 4 < 3 := by omega
    have h2 : (4 * ps.val + 2 * a.val) % 2 = 0 := by omega
    simp [opLegal, arithLegal, withF, hcond, hf1, h3, h2, toNat_quad]
  obtain ⟨ha, hav, hav1⟩ := operands_av s p x (quad m) (quad n) (f1 := fPair ps a) (a := Fin.ofNat 4 (2 * a.val))
    (by have := pair_mod a; omega)
  rw [pair_next] at hav1
  have hprod := operands_prod_ps s p x (quad m) (quad n) (f1 := fPair ps a) (k := ps.val) (by omega)
  have hs : (arithOperands s p (withF x (fPair ps a) (quad m) (quad n))).s = 4 * m.val := toNat_quad m
  have ht : (arithOperands s p (withF x (fPair ps a) (quad m) (quad n))).t = 4 * n.val := toNat_quad n
  refine runs_accRes2 (op := 0x09#6) hc hi hr rfl hl rfl ?_
  rw [aQmac, ArithIn.prod2, ha, hav, hav1, hprod, hprod, hprod, hprod, hs, ht]

/-- Complex products. -/
theorem runs_complex (j ps : Bool) (a : Fin 2) (m n : Fin 8) :
    let w := withF x (fCplx j ps a) (even m) (even n)
    let v := cplx s p j ps (2 * m) (2 * n)
    let a0 := aIn s p (Fin.ofNat 4 (2 * a))
    let a1 := aIn s p (Fin.ofNat 4 (2 * a + 1))
    Runs (.opCmpy p w) s (accDone2 s p x a v.1 v.2) ∧ Runs (.opCmac p w) s (accDone2 s p x a (a0 + v.1) (a1 + v.2)) ∧
      Runs (.opCmsu p w) s (accDone2 s p x a (a0 - v.1) (a1 - v.2)) := by
  have hcond := cond_ne_of_wordRuns hr
  have hf1 := toNat_fCplx j ps a
  have hl : ∀ op ∈ [0x0A#6, 0x0B#6, 0x0C#6], opLegal op (withF x (fCplx j ps a) (even m) (even n)) = true := by
    have h2 : (8 * j.toNat + 4 * ps.toNat + 2 * a.val) % 2 = 0 := by omega
    simp [opLegal, arithLegal, withF, hcond, hf1, h2, toNat_even]
  obtain ⟨ha, hav, hav1⟩ := operands_av s p x (even m) (even n) (f1 := fCplx j ps a) (a := Fin.ofNat 4 (2 * a.val))
    (by have := pair_mod a; omega)
  rw [pair_next] at hav1
  have hprod := operands_cprod s p x j ps a m n
  refine ⟨?_, ?_, ?_⟩
  · refine runs_accRes2 (op := 0x0A#6) hc hi hr rfl (hl _ (by decide)) rfl ?_
    rw [aCmpy, ha, hprod]
  · refine runs_accRes2 (op := 0x0B#6) hc hi hr rfl (hl _ (by decide)) rfl ?_
    rw [aCmac, ha, hav, hav1, hprod]
  · refine runs_accRes2 (op := 0x0C#6) hc hi hr rfl (hl _ (by decide)) rfl ?_
    rw [aCmsu, ha, hav, hav1, hprod]

/-- The rounded product. -/
theorem runs_mpyr (d m n : BitVec 4) {r : Int} (hround : roundsTo (prodOf s p 0 m.toNat n.toNat) r) :
    let o := satOn s p && beyond 32 r
    Runs (.opMpyr p (withF x d m n)) s
      (dDone s p x d (BitVec.ofInt 32 (if satOn s p then sat32 r else r))
        ([(1, o)] ++ if o then [(7, true)] else [])) := by
  intro o
  have hl : opLegal 0x0D#6 (withF x d m n) = true := by
    simp [opLegal, arithLegal, withF, cond_ne_of_wordRuns hr]
  have hr' : convDiv ((arithOperands s p (withF x d m n)).prod 0 (arithOperands s p (withF x d m n)).s
      (arithOperands s p (withF x d m n)).t) (2 ^ 32) = r := by
    rw [operands_prod]
    exact convDiv_of_roundsTo hround
  have ho : decide ((if satOn s p = true then sat32 r else r) ≠ r) = o := by
    dsimp only [o]
    cases satOn s p
    · simp
    · rw [Bool.eq_iff_iff]
      simp only [if_true, decide_eq_true_eq, Bool.true_and]
      exact sat32_ne r
  refine runs_dRes (op := 0x0D#6) hc hi hr rfl hl rfl ?_ ?_ ?_
  · simp only [aMpyr, operands_dst, operands_sat, hr', satS_eq, ho]
    rfl
  all_goals split <;> simp

end

/-- Settles O33: each product instruction leaves the exact sums of Table 06-6, and MPYR the product rounded at bit
  32. -/
theorem productInstructions : Obligations.ProductInstructions := by
  unfold Obligations.ProductInstructions
  intro s p x hc hi hr
  exact ⟨⟨runs_product hc hi hr, runs_product2 hc hi hr, runs_lanes hc hi hr, runs_qmac hc hi hr⟩, runs_complex hc hi
    hr,
    fun d m n r => runs_mpyr hc hi hr d m n⟩

/-! ### O34: counts of leading bits -/

/-- The leading bits that equal `b` are `c`: all of these, and not the next. -/
theorem leadSame_eq {n v c : Nat} {b : Bool} (hc : c ≤ n) (hin : ∀ i, n - c ≤ i → i < n → v.testBit i = b)
    (hout : c < n → v.testBit (n - 1 - c) ≠ b) : leadSame n v b = c := by
  induction n generalizing c with
  | zero =>
    rw [leadSame]
    omega
  | succ n ih =>
    rw [leadSame]
    cases c with
    | zero =>
      have h := hout (by omega)
      rw [if_neg (by simpa using h)]
    | succ c =>
      have h : v.testBit n = b := hin n (by omega) (by omega)
      rw [if_pos (by simp [h]), ih (c := c) (by omega) (fun i hi hn => hin i (by omega) (by omega))]
      · omega
      · intro hlt
        have := hout (by omega)
        rwa [show n + 1 - 1 - (c + 1) = n - 1 - c by omega] at this

theorem leadSame_acc {a : BitVec 72} {c : Nat} (hc : c ≤ 72)
    (hin : ∀ i, 72 - c ≤ i → i < 72 → a.getLsbD i = a.getLsbD 71)
    (hout : c < 72 → a.getLsbD (71 - c) ≠ a.getLsbD 71) : leadSame 72 a.toNat a.msb = c := by
  rw [BitVec.msb_eq_getLsbD_last]
  exact leadSame_eq hc hin hout

/-- The count of R196 is the accumulator's. -/
theorem accExp_of_accCount {a : BitVec 72} {e : Int} (h : accCount a e) : accExp a = e := by
  rcases h with ⟨ha, rfl⟩ | ⟨-, -, hlo, hhi, hin, hout⟩
  · have hlead : leadSame 72 a.toNat a.msb = 72 := by
      refine leadSame_acc le_rfl (fun i _ hi => ?_) fun h => absurd h (lt_irrefl _)
      rcases ha with rfl | rfl
      · simp
      · rw [BitVec.getLsbD_allOnes, BitVec.getLsbD_allOnes]
        simp [hi]
    rw [accExp, hlead]
    rfl
  · obtain ⟨n, hn⟩ : ∃ n : Nat, e + 9 = n := ⟨(e + 9).toNat, by omega⟩
    have hk : (62 - e).toNat = 71 - n := by omega
    rw [hk] at hin hout
    have hlead : leadSame 72 a.toNat a.msb = n :=
      leadSame_acc (by omega) (fun i hi h72 => hin i h72 (by omega)) fun _ => hout
    rw [accExp, hlead]
    omega

theorem leadSame_of_dCount {v : Word} {e : Nat} (h : dCount v e) : leadSame 32 v.toNat v.msb - 1 = e := by
  obtain ⟨hle, hin, hout⟩ := h
  have hlead : leadSame 32 v.toNat v.msb = e + 1 := by
    rw [BitVec.msb_eq_getLsbD_last]
    refine leadSame_eq (by omega) (fun i hi h32 => hin i h32 (by omega)) fun h => ?_
    rw [show 32 - 1 - (e + 1) = 30 - e by omega]
    exact hout (by omega)
  omega

theorem accCount_range {a : BitVec 72} {e : Int} (h : accCount a e) : -8 ≤ e ∧ e ≤ 63 := by
  rcases h with ⟨-, rfl⟩ | ⟨-, -, hlo, hhi, -, -⟩ <;> omega

/-! ### O34: shifts of an accumulator -/

/-- The shift and its flags are exact multiplication and division by a power of two (Table 06-7). -/
theorem accShift_eq (a : BitVec 72) (k : Int) :
    (accShift a k).1 = shifted a k ∧ accFlags (accShift a k).1 ++ (accShift a k).2 = shiftFl a k := by
  have hleft (n : Nat) : a <<< n = BitVec.ofInt 72 (a.toInt * 2 ^ n) := by
    apply BitVec.eq_of_toInt_eq
    rw [BitVec.toInt_shiftLeft, BitVec.toInt_ofInt, BitVec.toInt_eq_toNat_bmod a, Nat.shiftLeft_eq]
    push_cast
    rw [Int.bmod_mul_bmod]
  rcases lt_trichotomy k 0 with hk | rfl | hk
  · have h1 : (accShift a k).1 = shifted a k := by
      rw [accShift, if_neg hk.ne, if_neg (not_lt.2 hk.le), shifted, if_neg (not_le.2 hk)]
      exact sshiftRight_eq_ofInt a _
    refine ⟨h1, ?_⟩
    rw [h1, shiftFl, accFlags_eq]
    simp only [accShift, if_neg hk.ne, if_neg (not_lt.2 hk.le), decide_eq_false (not_lt.2 hk.le)]
    rfl
  · have h1 : (accShift a 0).1 = shifted a 0 := by
      simp [accShift, shifted]
    refine ⟨h1, ?_⟩
    rw [h1, shiftFl, accFlags_eq]
    simp [accShift, accFl]
  · have h1 : (accShift a k).1 = shifted a k := by
      rw [accShift, if_neg hk.ne', if_pos hk, shifted, if_pos hk.le]
      exact hleft _
    refine ⟨h1, ?_⟩
    have hr : a <<< k.toNat = shifted a k := by rw [hleft, shifted, if_pos hk.le]
    rw [h1, shiftFl, accFlags_eq]
    simp only [accShift, if_neg hk.ne', if_pos hk, hr, decide_eq_true hk, Bool.true_and, acInt]
    simp only [ne_comm (a := a.toInt * 2 ^ k.toNat)]
    rfl

theorem shiftFl_names (a : BitVec 72) (k : Int) :
    ((shiftFl a k).map Prod.fst).Nodup ∧ ∀ n ∈ (shiftFl a k).map Prod.fst, n < 32 := by
  rw [shiftFl]
  split <;> simp [accFl]

/-- A shift gives the accumulator, and with NORM the count in a D register. -/
theorem gives_shiftRes {X : ArithIn} {k : Int} {a : Fin 4} {v : BitVec 72} (ha : X.a = a) (hv : X.ac[X.a] = v)
    (extra : List (Fin 16 × Word)) (hx : extra.length ≤ 1) :
    Gives (shiftRes X k (extra.map fun y => (.d y.1, 0xFFFFFFFF#72, y.2.setWidth 72)))
      ((.ac a, shifted v k) :: extra.map fun y => (.d y.1, y.2.setWidth 72)) (shiftFl v k) where
  wr := by
    rw [shiftRes, hv, ha, (accShift_eq v k).1]
    simp [wholeWrite]
  flags := by
    rw [shiftRes, hv]
    exact congrArg flagList (accShift_eq v k).2
  result := by
    intro g hg
    rcases List.mem_cons.1 hg with rfl | hg
    · exact .inl ⟨a, rfl⟩
    · obtain ⟨y, -, rfl⟩ := List.mem_map.1 hg
      exact .inr ⟨y.1, y.2, rfl⟩
  distinct := by
    match extra, hx with
    | [], _ => simp
    | [y], _ => simp
  names := (shiftFl_names v k).1
  low := (shiftFl_names v k).2

/-! ### O34: the accumulator instructions -/

theorem toNat_accField (a : Fin 4) : (BitVec.ofNat 4 a.val).toNat = a.val := by
  rw [BitVec.toNat_ofNat]
  omega

theorem clampI_eq (lo hi n : Int) (h : lo ≤ hi) : clampI lo hi n = max lo (min hi n) := by
  unfold clampI
  split_ifs <;> omega

/-- The count of ASLA stands in F2 and F3. -/
theorem imm8_eq (s : State) (p : Fin 16) (x : ArithArgs) (f1 : BitVec 4) (k : BitVec 8) :
    (arithOperands s p (withF x f1 (k.extractLsb' 4 4) (k.extractLsb' 0 4))).imm8 = k.toInt ∧
      sgn 8 ((k.extractLsb' 4 4).toNat * 16 + (k.extractLsb' 0 4).toNat) = k.toInt := by
  have hk : (k.extractLsb' 4 4).toNat * 16 + (k.extractLsb' 0 4).toNat = k.toNat := by
    rw [BitVec.extractLsb'_toNat, BitVec.extractLsb'_toNat, Nat.shiftRight_eq_div_pow, Nat.shiftRight_eq_div_pow]
    have := k.isLt
    omega
  have hs : sgn 8 k.toNat = k.toInt := by
    have := k.isLt
    rw [sgn, BitVec.toInt_eq_toNat_cond, Nat.mod_eq_of_lt k.isLt]
    rfl
  refine ⟨?_, by rw [hk, hs]⟩
  have : (arithOperands s p (withF x f1 (k.extractLsb' 4 4) (k.extractLsb' 0 4))).imm8 =
      sgn 8 ((k.extractLsb' 4 4).toNat * 16 + (k.extractLsb' 0 4).toNat) := rfl
  rw [this, hk, hs]

theorem operands_bv (s : State) (p : Fin 16) (x : ArithArgs) (f1 f3 : BitVec 4) (b : Fin 4) :
    (arithOperands s p (withF x f1 (BitVec.ofNat 4 b.val) f3)).bv = aIn s p b := by
  have hb : (Fin.ofNat 4 (arithOperands s p (withF x f1 (BitVec.ofNat 4 b.val) f3)).f2.toNat : Fin 4) = b :=
    Fin.ext (by
      have : (arithOperands s p (withF x f1 (BitVec.ofNat 4 b.val) f3)).f2.toNat = b.val := toNat_accField b
      rw [this]
      exact Nat.mod_eq_of_lt b.isLt)
  rw [ArithIn.bv, operands_ac, hb]
  rfl

section
variable {p : Fin 16} {x : ArithArgs} (hc : Canonical s) (hi : Issues s p) (hr : wordRuns s p x)
include hc hi hr

/-- Sums, differences and copies of accumulators. -/
theorem runs_accPair (a b : Fin 4) :
    let w := withF x (BitVec.ofNat 4 a) (BitVec.ofNat 4 b) 0
    Runs (.opAdda p w) s (accDone s p x a (aIn s p a + aIn s p b)) ∧
      Runs (.opSuba p w) s (accDone s p x a (aIn s p a - aIn s p b)) ∧ Runs (.opMova p w) s
        (accDone s p x a (aIn s p b)) := by
  have hcond := cond_ne_of_wordRuns hr
  have hfa := toNat_accField a
  have hfb := toNat_accField b
  have hl : ∀ op ∈ [0x10#6, 0x11#6, 0x12#6], opLegal op (withF x (BitVec.ofNat 4 a) (BitVec.ofNat 4 b) 0) = true := by
    have ha := a.isLt
    have hb := b.isLt
    simp only [List.forall_mem_cons, opLegal, withF, hfa, hfb]
    simp [arithLegal, hcond, ha, hb]
  obtain ⟨ha, hav, -⟩ := operands_av s p x (BitVec.ofNat 4 b) 0 (f1 := BitVec.ofNat 4 a) (a := a) (by omega)
  have hbv := operands_bv s p x (BitVec.ofNat 4 a) 0 b
  refine ⟨?_, ?_, ?_⟩
  · refine runs_accRes (op := 0x10#6) hc hi hr rfl (hl _ (by decide)) rfl ?_
    rw [aAdda, ha, hav, hbv]
  · refine runs_accRes (op := 0x11#6) hc hi hr rfl (hl _ (by decide)) rfl ?_
    rw [aSuba, ha, hav, hbv]
  · refine runs_accRes (op := 0x12#6) hc hi hr rfl (hl _ (by decide)) rfl ?_
    rw [aMova, ha, hbv]

omit hc hi in
theorem opLegal_accAlone (a : Fin 4) :
    ∀ op ∈ [0x13#6, 0x14#6, 0x15#6, 0x16#6, 0x17#6], opLegal op (withF x (BitVec.ofNat 4 a) 0 0) = true := by
  have hcond := cond_ne_of_wordRuns hr
  have ha := a.isLt
  simp only [List.forall_mem_cons, opLegal, withF, toNat_accField a]
  simp [arithLegal, hcond, ha]

/-- Negation, magnitude and clear of an accumulator. -/
theorem runs_accAlone (a : Fin 4) :
    let w := withF x (BitVec.ofNat 4 a) 0 0
    Runs (.opNega p w) s (accDone s p x a (-aIn s p a)) ∧ Runs (.opAbsa p w) s (accDone s p x a |aIn s p a|) ∧
      Runs (.opClra p w) s (accDone s p x a 0) := by
  have hl := opLegal_accAlone hr a
  obtain ⟨ha, hav, -⟩ := operands_av s p x 0 0 (f1 := BitVec.ofNat 4 a) (a := a) (by rw [toNat_accField]; omega)
  refine ⟨?_, ?_, ?_⟩
  · refine runs_accRes (op := 0x13#6) hc hi hr rfl (hl _ (by decide)) rfl ?_
    rw [aNega, ha, hav]
  · refine runs_accRes (op := 0x14#6) hc hi hr rfl (hl _ (by decide)) rfl ?_
    have habs (v : Int) : (if v < 0 then -v else v) = |v| := by
      split
      · rename_i h
        rw [abs_of_neg h]
      · rename_i h
        rw [abs_of_nonneg (not_lt.1 h)]
    rw [aAbsa, ha, hav, habs]
  · refine runs_accRes (op := 0x15#6) hc hi hr rfl (hl _ (by decide)) rfl ?_
    rw [aClra, ha]

/-- The counts of leading bits. -/
theorem runs_counts (d : BitVec 4) :
    (∀ (a : Fin 4) (e : Int), accCount (aOp s p a) e →
      Runs (.opExp p (withF x d (BitVec.ofNat 4 a) 0)) s (dDone s p x d (BitVec.ofInt 32 e) [(1, false)])) ∧
    (∀ (m : BitVec 4) (e : Nat), dCount (dOp s p m.toFin) e →
      Runs (.opExpd p (withF x d m 0)) s (dDone s p x d (BitVec.ofNat 32 e) [(1, false)])) := by
  have hcond := cond_ne_of_wordRuns hr
  refine ⟨fun a e he => ?_, fun m e he => ?_⟩
  · have hl : opLegal 0x1A#6 (withF x d (BitVec.ofNat 4 a) 0) = true := by
      have ha := a.isLt
      simp only [opLegal, withF, toNat_accField a]
      simp [arithLegal, hcond, ha]
    have hfield : (Fin.ofNat 4 (arithOperands s p (withF x d (BitVec.ofNat 4 a.val) 0)).f2.toNat : Fin 4) = a :=
      Fin.ext (by
        have : (arithOperands s p (withF x d (BitVec.ofNat 4 a.val) 0)).f2.toNat = a.val := toNat_accField a
        rw [this]
        exact Nat.mod_eq_of_lt a.isLt)
    refine runs_dRes (op := 0x1A#6) hc hi hr rfl hl rfl ?_ (by simp) (by simp)
    rw [aExp, operands_dst, operands_ac, hfield, accExp_of_accCount he]
    rfl
  · have hl : opLegal 0x1C#6 (withF x d m 0) = true := by
      simp [opLegal, arithLegal, withF, hcond]
    refine runs_dRes (op := 0x1C#6) hc hi hr rfl hl rfl ?_ (by simp) (by simp)
    rw [aExpd, operands_dst, operands_dw_s]
    simp only [leadSame_of_dCount he]
    rfl

end

end Sys2Proof.Machine

namespace Sys2Proof
open Machine
variable {s : State}

section
variable {p : Fin 16} {x : ArithArgs} (hc : Canonical s) (hi : Issues s p) (hr : wordRuns s p x)
include hc hi hr

/-- An accumulator rounded at bit 32. -/
theorem runs_rnd (a : Fin 4) {r : Int} (hround : roundsTo (aIn s p a) r) :
    let q := (if satOn s p then sat32 r else r) * 2 ^ 32
    let v := BitVec.ofInt 72 q
    Runs (.opRnd p (withF x (BitVec.ofNat 4 a) 0 0)) s
      (Done s p x [(.ac a, v)] (accFl v (extUsed v) (beyond 72 q) ++ if satOn s p && beyond 32 r then [(7, true)]
        else [])) := by
  intro q v
  obtain ⟨ha, hav, -⟩ := operands_av s p x 0 0 (f1 := BitVec.ofNat 4 a) (a := a) (by rw [toNat_accField]; omega)
  have hsv : (if (if satOn s p = true then sat32 r else r) ≠ r then [(fSV, true)] else []) =
      if satOn s p && beyond 32 r then [(7, true)] else [] := by
    cases satOn s p
    · simp
    · simp only [if_true, Bool.true_and, sat32_ne]
  have hf : aRnd (arithOperands s p (withF x (BitVec.ofNat 4 a) 0 0)) =
      accRes a q (if satOn s p && beyond 32 r then [(7, true)] else []) := by
    rw [aRnd, ha, hav, operands_sat, convDiv_of_roundsTo hround, satS_eq]
    exact congrArg (accRes a q) hsv
  refine runs_arith (op := 0x16#6) (x := withF x (BitVec.ofNat 4 a) 0 0) hc hi hr rfl
    (opLegal_accAlone hr a _ (by decide)) rfl ?_
  rw [hf]
  refine gives_accRes a q ?_ ?_ <;> split <;> simp

/-- An accumulator held within the values whose store needs no saturation. -/
theorem runs_sata (a : Fin 4) :
    let q := max storeMin (min storeMax (aIn s p a))
    let v := BitVec.ofInt 72 q
    Runs (.opSata p (withF x (BitVec.ofNat 4 a) 0 0)) s
      (Done s p x [(.ac a, v)] (accFl v (extUsed v) false ++ if q ≠ aIn s p a then [(7, true)] else [])) := by
  intro q v
  obtain ⟨ha, hav, -⟩ := operands_av s p x 0 0 (f1 := BitVec.ofNat 4 a) (a := a) (by rw [toNat_accField]; omega)
  have hf : aSata (arithOperands s p (withF x (BitVec.ofNat 4 a) 0 0)) =
      accRes a q (if q ≠ aIn s p a then [(7, true)] else []) := by
    rw [aSata, ha, hav, clampI_eq _ _ _ (by decide)]
  have hin : beyond 72 q = false := by
    have h1 : storeMin ≤ q := le_max_left _ _
    have h2 : q ≤ storeMax := max_le (by decide) (min_le_left _ _)
    have h3 : -(2 ^ 71) ≤ storeMin := by decide
    have h4 : storeMax < 2 ^ 71 := by decide
    simp only [beyond, Bool.or_eq_false_iff, decide_eq_false_iff_not]
    omega
  refine runs_arith (op := 0x17#6) (x := withF x (BitVec.ofNat 4 a) 0 0) hc hi hr rfl
    (opLegal_accAlone hr a _ (by decide)) rfl ?_
  rw [hf, ← hin]
  refine gives_accRes a q ?_ ?_ <;> split <;> simp

/-- An accumulator shifted by an immediate count or by a D register. -/
theorem runs_shifts (a : Fin 4) (k : BitVec 8) (m : BitVec 4) {c : Int} (hk : k.toInt.natAbs ≤ 72) :
    (Runs (.opAsla p (withF x (BitVec.ofNat 4 a) (k.extractLsb' 4 4) (k.extractLsb' 0 4))) s
      (Done s p x [(.ac a, shifted (aOp s p a) k.toInt)] (shiftFl (aOp s p a) k.toInt))) ∧
    (c = max (-72) (min 72 (dIn s p m.toNat)) →
      Runs (.opAslv p (withF x (BitVec.ofNat 4 a) m 0)) s
        (Done s p x [(.ac a, shifted (aOp s p a) c)] (shiftFl (aOp s p a) c))) := by
  have hcond := cond_ne_of_wordRuns hr
  have ha4 := a.isLt
  refine ⟨?_, fun hcount => ?_⟩
  · obtain ⟨himm, hsgn⟩ := imm8_eq s p x (BitVec.ofNat 4 a) k
    obtain ⟨ha, -, -⟩ := operands_av s p x (k.extractLsb' 4 4) (k.extractLsb' 0 4) (f1 := BitVec.ofNat 4 a) (a := a)
      (by rw [toNat_accField]; omega)
    have hl : opLegal 0x18#6 (withF x (BitVec.ofNat 4 a) (k.extractLsb' 4 4) (k.extractLsb' 0 4)) = true := by
      simp only [opLegal, withF, toNat_accField a]
      unfold arithLegal
      rw [hsgn]
      simp [hcond, ha4, hk]
    refine runs_arith (op := 0x18#6) (x := withF x (BitVec.ofNat 4 a) (k.extractLsb' 4 4) (k.extractLsb' 0 4)) hc hi
      hr rfl hl rfl ?_
    rw [aAsla, himm]
    exact gives_shiftRes ha (by rw [operands_ac, ha]) [] (by decide)
  · subst hcount
    obtain ⟨ha, -, -⟩ := operands_av s p x m 0 (f1 := BitVec.ofNat 4 a) (a := a) (by rw [toNat_accField]; omega)
    have hl : opLegal 0x19#6 (withF x (BitVec.ofNat 4 a) m 0) = true := by
      simp only [opLegal, withF, toNat_accField a]
      simp [arithLegal, hcond, ha4]
    refine runs_arith (op := 0x19#6) (x := withF x (BitVec.ofNat 4 a) m 0) hc hi hr rfl hl rfl ?_
    rw [aAslv, clampI_eq _ _ _ (by decide), operands_dv]
    exact gives_shiftRes ha (by rw [operands_ac, ha]) [] (by decide)

/-- An accumulator normalised by its count of leading bits. -/
theorem runs_norm (a : Fin 4) (d : BitVec 4) {e : Int} (he : accCount (aOp s p a) e) :
    Runs (.opNorm p (withF x (BitVec.ofNat 4 a) d 0)) s
      (Done s p x [(.ac a, shifted (aOp s p a) e), (.d d.toFin, (BitVec.ofInt 32 e).setWidth 72)]
        (shiftFl (aOp s p a) e)) := by
  have ha4 := a.isLt
  obtain ⟨ha, -, -⟩ := operands_av s p x d 0 (f1 := BitVec.ofNat 4 a) (a := a) (by rw [toNat_accField]; omega)
  have hl : opLegal 0x1B#6 (withF x (BitVec.ofNat 4 a) d 0) = true := by
    simp only [opLegal, withF, toNat_accField a]
    simp [arithLegal, cond_ne_of_wordRuns hr, ha4]
  refine runs_arith (op := 0x1B#6) (x := withF x (BitVec.ofNat 4 a) d 0) hc hi hr rfl hl rfl ?_
  have hac : (arithOperands s p (withF x (BitVec.ofNat 4 a) d 0)).ac[(arithOperands s p
      (withF x (BitVec.ofNat 4 a) d 0)).a] = aOp s p a := by
    rw [operands_ac, ha]
  have hd : (Fin.ofNat 16 (arithOperands s p (withF x (BitVec.ofNat 4 a) d 0)).s : Fin 16) = d.toFin :=
      fin_ofNat_toNat d
  rw [aNorm, hac, accExp_of_accCount he, hd]
  exact gives_shiftRes ha hac [(d.toFin, BitVec.ofInt 32 e)] le_rfl

end

end Sys2Proof

namespace Sys2Proof.Machine
variable {s : State}

/-- Settles O34: each operation is exact modulo 2^72, with the counts of R196 and the flags of Table 06-7. -/
theorem accumulatorInstructions : Obligations.AccumulatorInstructions := by
  unfold Obligations.AccumulatorInstructions
  intro s p x hc hi hr
  exact ⟨runs_accPair hc hi hr, runs_accAlone hc hi hr, fun a r h => runs_rnd hc hi hr a h, runs_sata hc hi hr,
    fun a k m c hk => runs_shifts hc hi hr a k m hk,
    fun a d e he => ⟨(runs_counts hc hi hr d).1 a e he, runs_norm hc hi hr a d he⟩, fun d m e he =>
      (runs_counts hc hi hr d).2 m e he⟩

end Sys2Proof.Machine
end

section
/-!
PROOFS. Illegal words, loop ends and branches of a Press: O36, O40 and O42 (chapters 05 and 06).
-/

-- One declaration after another: side by side, the stacks of the threads exceed what memory the check allows.
set_option Elab.async false

namespace Sys2Proof.Machine

variable {s : State}

/-! ### O36: words that are not executed -/

/-- CTRL of a Press is no other register of it, and no register of another page. -/
theorem ctrl_ne_faultinfo (p : Fin 16) : aCTRL (pgPRESS p) ≠ aPRESS_FAULTINFO p := by
  simp only [aCTRL, aPRESS_FAULTINFO, pgPRESS, pageAddr]
  omega

/-- What making a FAULT pending does (R164). -/
theorem raiseFault_effect (hs : spWf resetWord s.regs = true) (p : Fin 16) (cause addr : Nat) (pc : BitVec 13) :
    let t := raiseFault p cause addr pc s
    t.press[p] = { s.press[p] with fault := true, faultPc := t.press[p].faultPc } ∧
      (s.press[p].fault = false → t.press[p].faultPc = pc ∧ rget t (aPRESS_FAULTINFO p) = fld cause 28 ||| fld addr 0) ∧
      OtherPresses p s t ∧ KeepsBut [.press, .regs] s t ∧ RegsOnly [aPRESS_FAULTINFO p] s t := by
  unfold raiseFault
  dsimp only
  split
  · rename_i h
    refine ⟨?_, fun hf => absurd h (by rw [hf]; decide), fun _ _ => rfl, fun q _ => by cases q <;> rfl, fun _ _ => rfl⟩
    cases hx : s.press[p]
    rw [hx] at h
    simp_all
  · have hp : (rset (aPRESS_FAULTINFO p) (fld cause 28 ||| fld addr 0)
        (setPress p { s.press[p] with fault := true, faultPc := pc } s)).press[p] =
          { s.press[p] with fault := true, faultPc := pc } :=
      press_setPress_same ..
    rw [hp]
    refine ⟨rfl, fun _ => ⟨rfl, rget_rset_same hs _ _⟩, fun q hq => press_setPress_ne s _ hq, fun q hq => ?_,
      fun a ha => ?_⟩
    · cases q <;> first | exact absurd (by decide) hq | rfl
    · exact rget_rset_ne _ _ (by simpa using ha)

/-- A pending FAULT plays no part in the passage to the next word. -/
theorem advancePc_fault {x : PressSt} (h : ∀ b, x.br = some b → b.rti = none) (f : Bool) (c : BitVec 13) :
    advancePc { x with fault := f, faultPc := c } = { advancePc x with fault := f, faultPc := c } := by
  let y : PressSt := { x with fault := f, faultPc := c }
  change advancePc y = _
  cases hb : x.br with
  | none => rw [advancePc_straight hb, advancePc_straight (x := y) hb]
  | some b =>
    by_cases hs : 1 < b.slots
    · rw [advancePc_slot hb hs, advancePc_slot (x := y) hb hs]
    · rw [advancePc_jump hb hs (h b hb), advancePc_jump (x := y) hb hs (h b hb)]

@[simp] theorem fetchStep_fault (x : PressSt) : (fetchStep x).fault = x.fault := by rw [fetchStep_frame]

/-- CTRL and the role of a state that differs in FAULTINFO of the Press alone. -/
theorem settleDbg_of_faultinfo {p : Fin 16} {t u : State} (htw : t.twin = u.twin)
    (honly : RegsOnly [aPRESS_FAULTINFO p] u t)
    (h : isSolo u = true → haltBit u p = false) : settleDbg p t = t := by
  refine settleDbg_eq_self fun hsolo => ?_
  have hu := h ((congrArg (fun w : TwinSt => w.st == .solo) htw).symm.trans hsolo)
  refine Eq.trans (congrArg (bit · 7) (honly _ ?_)) hu
  simp only [List.mem_singleton]
  exact ctrl_ne_faultinfo p

/-- An illegal word leaves its Press with a FAULT pending, and is not executed (R163). -/
theorem notExecuted_illegalWord {p : Fin 16} (hc : Canonical s) (hi : Issues s p) : notExecuted s p
    (pressIssue p (illegalWord p) s) := by
  obtain ⟨-, -, hrti, -, hdbg⟩ := id hi
  let f := fetchStep s.press[p]
  let x : PressSt := { f with cyc := f.cyc + 1 }
  have hbr : ∀ b, x.br = some b → b.rti = none := fun b hb => hrti b ((fetchStep_br _).symm.trans hb)
  have hframe := advancePc_frame hbr
  have hfault : (advancePc x).fault = s.press[p].fault := by
    rw [hframe]
    exact fetchStep_fault _
  obtain ⟨hp, hinfo, hother, hbut, honly⟩ := raiseFault_effect (s := setPress p (advancePc x) s) hc.1 p 1 f.pc.toNat
    f.pc
  have hdef : illegalWord p s = raiseFault p 1 f.pc.toNat f.pc (setPress p (advancePc x) s) := rfl
  rw [press_setPress_same] at hp hinfo
  rw [pressIssue_of_issues hi, hdef, settleDbg_of_faultinfo (hbut .twin (by decide)) honly hdbg]
  generalize raiseFault p 1 f.pc.toNat f.pc (setPress p (advancePc x) s) = t at hp hinfo hother hbut honly
  have hx : t.press[p] = advancePc { x with fault := true, faultPc := t.press[p].faultPc } :=
    hp.trans (advancePc_fault hbr _ _).symm
  rw [hframe] at hp
  refine ⟨passed_of_advancePc hx (congrArg (· + 1) (fetchStep_cyc _)) (fetchStep_br _) ?_ hrti,
    by rw [hp], fun g k => ?_, ?_,
    fun hf => ?_, fun q hq => ?_, ?_, fun a ha => honly a ha⟩
  · rw [nextPc]
    exact congrArg _ (congrArg (· + 1) (fetchStep_pc _))
  · rw [newAt, hp]
    rfl
  · rw [hp]
  · obtain ⟨h1, h2⟩ := hinfo (hfault.trans hf)
    rw [h1, h2]
    exact ⟨fetchStep_pc _, by rw [show f.pc = s.press[p].pc from fetchStep_pc _]⟩
  · exact (hother q hq).trans (press_setPress_ne s _ hq)
  · exact KeepsBut.trans ((setPress_keepsBut s p _).mono (by decide)) hbut

/-! ### O36: which words are legal -/

/-- The opcode of an arithmetic instruction (Table 06-6). -/
def opcodeOf (c : Instr) : BitVec 6 :=
  match c with
  | .opMpy .. => 0x01#6 | .opMac .. => 0x02#6 | .opMsu .. => 0x03#6 | .opMpy2 .. => 0x04#6 | .opMac2 .. => 0x05#6
  | .opMsu2 .. => 0x06#6 | .opDmpy .. => 0x07#6 | .opDmac .. => 0x08#6 | .opQmac .. => 0x09#6 | .opCmpy .. => 0x0A#6
  | .opCmac .. => 0x0B#6 | .opCmsu .. => 0x0C#6 | .opMpyr .. => 0x0D#6 | .opAdda .. => 0x10#6 | .opSuba .. => 0x11#6
  | .opMova .. => 0x12#6 | .opNega .. => 0x13#6 | .opAbsa .. => 0x14#6 | .opClra .. => 0x15#6 | .opRnd .. => 0x16#6
  | .opSata .. => 0x17#6 | .opAsla .. => 0x18#6 | .opAslv .. => 0x19#6 | .opExp .. => 0x1A#6 | .opNorm .. => 0x1B#6
  | .opExpd .. => 0x1C#6 | .opAdd .. => 0x20#6 | .opAdds .. => 0x21#6 | .opSub .. => 0x22#6 | .opSubs .. => 0x23#6
  | .opAnd .. => 0x24#6 | .opOr .. => 0x25#6 | .opXor .. => 0x26#6 | .opLsl .. => 0x27#6 | .opAsr .. => 0x28#6
  | .opLsr .. => 0x29#6 | .opMin .. => 0x2A#6 | .opMax .. => 0x2B#6 | .opAbs .. => 0x2C#6 | .opNeg .. => 0x2D#6
  | .opCmp .. => 0x2E#6
  | _ => 0x00#6

/-- An arithmetic instruction issues a word with its opcode. -/
theorem exec_arithCmd {p : Fin 16} {x : ArithArgs} {c : Instr} (h : c ∈ arithCmds p x ∨ c = .opNop p x) (s : State) :
    exec c s = .next (issueArith p (opcodeOf c) x s) := by
  rcases h with h | rfl
  · revert c
    simp only [arithCmds, List.forall_mem_cons]
    repeat' apply And.intro
    all_goals first | exact fun _ h => absurd h List.not_mem_nil | rfl
  · rfl

/-- The operand fields that Table 06-6 allows are those that the decoder takes. -/
theorem opLegal_eq {p : Fin 16} {x : ArithArgs} {c : Instr} (h : c ∈ arithCmds p x ∨ c = .opNop p x) :
    opLegal (opcodeOf c) x = arithFieldsLegal c := by
  have hz (f : BitVec 4) : (f == 0) = decide (f.toNat = 0) := by
    rw [Bool.eq_iff_iff, beq_iff_eq, decide_eq_true_eq, ← BitVec.toNat_inj]
    rfl
  have h15 : (x.cond != 15) = !decide (x.cond.toNat = 15) := by
    rw [bne, Bool.eq_iff_iff, Bool.not_eq_true', beq_eq_false_iff_ne, Bool.not_eq_true', decide_eq_false_iff_not, ne_eq,
      ← BitVec.toNat_inj]
    rfl
  have h12 : decide (x.f1.toNat < 12) = decide (x.f1.toNat / 4 < 3) := by
    rw [Bool.eq_iff_iff, decide_eq_true_eq, decide_eq_true_eq]
    omega
  have himm : (x.f2 ++ x.f3 : BitVec 8).toInt = sgn 8 (x.f2.toNat * 16 + x.f3.toNat) := by
    have hcat : (x.f2 ++ x.f3 : BitVec 8).toNat = x.f2.toNat * 16 + x.f3.toNat := by
      rw [BitVec.toNat_append, ← Nat.shiftLeft_add_eq_or_of_lt x.f3.isLt, Nat.shiftLeft_eq]
    have hlt : x.f2.toNat * 16 + x.f3.toNat < 2 ^ 8 := by omega
    rw [BitVec.toInt_eq_toNat_cond, hcat, sgn, Nat.mod_eq_of_lt hlt]
    rfl
  rcases h with h | rfl
  · revert c
    simp only [arithCmds, List.forall_mem_cons]
    repeat' apply And.intro
    all_goals first | exact fun _ h => absurd h List.not_mem_nil | skip
    all_goals
      simp only [opLegal, opcodeOf, arithFieldsLegal, h15, hz, h12, himm]
      unfold arithLegal
      by_cases hc : x.cond.toNat = 15
      · simp [hc]
      · simp [hc, Bool.and_assoc, beq_eq_decide]
  · simp only [opLegal, opcodeOf, arithFieldsLegal, hz]
    unfold arithLegal
    simp [Bool.and_assoc]

/-! ### O36: moves -/

/-- The registers that name a pair (R192). -/
theorem pairCode_isSome : ∀ reg : BitVec 6, (pairCode reg).isSome = pairNamed reg := by decide

section
variable (mode pn : BitVec 3) (reg : BitVec 6)

/-- A load or store field is legal with a mode of Table 05-4 and, for a pair, a register that names one. -/
theorem moveLegal_access {kind : BitVec 2} (hk : kind = 1 ∨ kind = 2) (pair : Bool) :
    moveLegal (moveField kind mode pn reg ((BitVec.ofBool pair).setWidth 6)) =
      (decide (mode.toNat < 6) && (!pair || pairNamed reg)) := by
  have hlow : ((BitVec.ofBool pair).setWidth 6).toNat = pair.toNat := by cases pair <;> rfl
  have h1 := moveField_kind kind mode pn reg ((BitVec.ofBool pair).setWidth 6)
  have h4 := moveField_reg kind mode pn reg ((BitVec.ofBool pair).setWidth 6)
  have htn := toNat_moveField kind mode pn reg ((BitVec.ofBool pair).setWidth 6)
  rw [hlow] at htn
  have := pair.toNat_le
  have h2 : (moveField kind mode pn reg ((BitVec.ofBool pair).setWidth 6)).toNat / 2 ^ 15 % 8 = mode.toNat := by omega
  have h3 : (moveField kind mode pn reg ((BitVec.ofBool pair).setWidth 6)).toNat % 64 = pair.toNat := by omega
  unfold moveLegal
  dsimp only
  rw [h1, h2, h3, h4, pairCode_isSome]
  rcases hk with rfl | rfl <;> cases pair <;> simp

theorem moveLegal_pointer : moveLegal (moveField 0 mode pn 0 0) = decide (mode.toNat < 6) := by
  have h1 := moveField_kind 0 mode pn 0 0
  have htn := toNat_moveField 0 mode pn 0 0
  have h0 : (0 : BitVec 6).toNat = 0 := rfl
  rw [h0] at htn
  have h2 : (moveField 0 mode pn 0 0).toNat / 2 ^ 15 % 8 = mode.toNat := by omega
  have h3 : (moveField 0 mode pn 0 0).toNat % 64 = 0 := by omega
  unfold moveLegal
  rw [h1, h2, h3]
  simp

theorem moveLegal_register (src : BitVec 6) : moveLegal (moveField 3 0 0 reg src) = true := by
  have h1 := moveField_kind 3 0 0 reg src
  have htn := toNat_moveField 3 0 0 reg src
  have h0 : (0 : BitVec 3).toNat = 0 := rfl
  rw [h0] at htn
  have h2 : (moveField 3 0 0 reg src).toNat / 2 ^ 15 % 8 = 0 := by omega
  have h3 : (moveField 3 0 0 reg src).toNat / 2 ^ 12 % 8 = 0 := by omega
  unfold moveLegal
  rw [h1, h2, h3]
  rfl

end

/-- The legality of a parallel word without arithmetic is that of its move fields. -/
theorem dataLegal_moveFields_eq (y : Bool) (f other : BitVec 20) :
    dataLegal false 0 (moveFields y f other) = (moveLegal f && moveLegal other) := by
  have ha : arithLegal 0 0 0 0 0 = true := by decide
  cases y <;> simp [dataLegal, moveFields_x, moveFields_y, ha, Bool.and_comm]

/-- The arithmetic field of a long word. -/
theorem arithFieldLegal_eq (f : BitVec 22) :
    arithFieldLegal f =
      arithLegal (f.toNat / 2 ^ 16) (f.toNat / 2 ^ 12 % 16) (f.toNat / 256 % 16) (f.toNat / 16 % 16)
        (f.toNat % 16) := by
  have h (lo n : Nat) : (f.extractLsb' lo n).toNat = f.toNat / 2 ^ lo % 2 ^ n := by
    rw [BitVec.extractLsb'_toNat, Nat.shiftRight_eq_div_pow]
  have hlt : f.toNat / 2 ^ 16 % 2 ^ 6 = f.toNat / 2 ^ 16 := by
    have := f.isLt
    omega
  rw [arithFieldLegal, h, h, h, h, h, hlt]
  simp

theorem toNat_append_add {m n : Nat} (x : BitVec m) (y : BitVec n) : (x ++ y).toNat = 2 ^ n * x.toNat + y.toNat := by
  rw [BitVec.toNat_append, ← Nat.shiftLeft_add_eq_or_of_lt y.isLt, Nat.shiftLeft_eq, Nat.mul_comm]

theorem toNat_longAbsField (x : LongAbsArgs) :
    (longAbsField x).toNat = 2 ^ 38 * x.y.toNat + (2 ^ 32 * x.reg.toNat +
      (2 ^ 31 * x.store.toNat + (2 ^ 20 * x.pair.toNat + x.addr.toNat))) := by
  have hy : (if x.y then 1#2 else 0#2).toNat = x.y.toNat := by cases x.y <;> rfl
  unfold longAbsField
  simp only [toNat_append_add, hy, BitVec.toNat_ofBool, BitVec.toNat_ofNat, Nat.zero_mod, mul_zero, zero_add]

/-- An absolute access is legal unless it is a pair of a register that names none. -/
theorem longLegal_abs (x : LongAbsArgs) : longLegal (longAbsField x) = (!x.pair || pairNamed x.reg) := by
  have htn := toNat_longAbsField x
  have hy := x.y.toNat_le
  have hst := x.store.toNat_le
  have hp := x.pair.toNat_le
  have hk : ((longAbsField x).extractLsb' 38 2).toNat = x.y.toNat := by
    rw [BitVec.extractLsb'_toNat, Nat.shiftRight_eq_div_pow]
    omega
  have hr : (longAbsField x).extractLsb' 32 6 = x.reg := by
    apply BitVec.eq_of_toNat_eq
    rw [BitVec.extractLsb'_toNat, Nat.shiftRight_eq_div_pow]
    omega
  have hv : ((longAbsField x).setWidth 32).toNat = 2 ^ 31 * x.store.toNat + (2 ^ 20 * x.pair.toNat + x.addr.toNat) := by
    rw [BitVec.toNat_setWidth]
    omega
  have h21 : (2 ^ 31 * x.store.toNat + (2 ^ 20 * x.pair.toNat + x.addr.toNat)) / 2 ^ 21 % 1024 = 0 := by omega
  have h20 : (2 ^ 31 * x.store.toNat + (2 ^ 20 * x.pair.toNat + x.addr.toNat)) / 2 ^ 20 % 2 = x.pair.toNat := by omega
  unfold longLegal
  dsimp only
  rw [hk, hr, hv, h21, h20, pairCode_isSome]
  cases x.y <;> cases x.pair <;> simp

theorem longLegal_imm (x : LongImmArgs) : longLegal (2#2 ++ (x.reg ++ x.value)) = true := by
  have hk : ((2#2 ++ (x.reg ++ x.value) : BitVec 40).extractLsb' 38 2).toNat = 2 := by
    rw [BitVec.extractLsb'_toNat, Nat.shiftRight_eq_div_pow]
    simp only [toNat_append_add, BitVec.toNat_ofNat]
    omega
  unfold longLegal
  dsimp only
  rw [hk]
  rfl

/-- A move or long word that R188 calls illegal is taken as one. -/
theorem exec_moveIllegal {p : Fin 16} {c : Instr} (h : moveIllegal p c = true) (s : State) :
    exec c s = .next (pressIssue p (illegalWord p) s) := by
  have hword {long : Bool} {arith : BitVec 22} {mv : BitVec 40} (hl : dataLegal long arith mv = false) (s : State) :
      pressIssue p (issueFields p long arith mv) s = pressIssue p (illegalWord p) s := by
    have : issueFields p long arith mv = illegalWord p := by
      funext u
      rw [issueFields, hl]
      rfl
    rw [this]
  cases c <;> try exact absurd h Bool.false_ne_true
  case moveLoad q x =>
    simp only [moveIllegal, Bool.and_eq_true, beq_iff_eq] at h
    obtain ⟨rfl, h⟩ := h
    refine congrArg Host.Outcome.next (hword ?_ s)
    rw [dataLegal_moveFields_eq, moveLegal_access _ _ _ (.inl rfl)]
    by_cases hm : 6 ≤ x.mode.toNat
    · simp [hm]
    · cases hp : x.pair <;> cases hn : pairNamed x.reg <;> simp_all
  case moveStore q x =>
    simp only [moveIllegal, Bool.and_eq_true, beq_iff_eq] at h
    obtain ⟨rfl, h⟩ := h
    refine congrArg Host.Outcome.next (hword ?_ s)
    rw [dataLegal_moveFields_eq, moveLegal_access _ _ _ (.inr rfl)]
    by_cases hm : 6 ≤ x.mode.toNat
    · simp [hm]
    · cases hp : x.pair <;> cases hn : pairNamed x.reg <;> simp_all
  case moveRegister q x =>
    simp only [moveIllegal, Bool.and_eq_true, beq_iff_eq, Bool.not_eq_true'] at h
    obtain ⟨rfl, h⟩ := h
    refine congrArg Host.Outcome.next (hword ?_ s)
    rw [dataLegal_moveFields_eq, h, Bool.and_false]
  case pointerUpdate q x =>
    simp only [moveIllegal, Bool.and_eq_true, beq_iff_eq] at h
    obtain ⟨rfl, h⟩ := h
    refine congrArg Host.Outcome.next (hword ?_ s)
    rw [dataLegal_moveFields_eq, moveLegal_pointer]
    by_cases hm : 6 ≤ x.mode.toNat
    · simp [hm]
    · simp_all
  case longAbsolute q x =>
    simp only [moveIllegal, Bool.and_eq_true, beq_iff_eq] at h
    obtain ⟨rfl, h⟩ := h
    refine congrArg Host.Outcome.next (hword ?_ s)
    rw [dataLegal, ← arithFieldLegal_eq, if_pos rfl, longLegal_abs]
    cases ha : arithFieldLegal x.arith
    · rfl
    · cases hp : x.pair <;> cases hn : pairNamed x.reg <;> simp_all
  case longImmediate q x =>
    simp only [moveIllegal, Bool.and_eq_true, beq_iff_eq, Bool.not_eq_true'] at h
    obtain ⟨rfl, h⟩ := h
    refine congrArg Host.Outcome.next (hword ?_ s)
    rw [dataLegal, ← arithFieldLegal_eq, h]
    rfl

/-! ### O36: control words -/

/-- What a word does depends on the state it finds. -/
theorem pressIssue_congr {p : Fin 16} (hi : Issues s p) {f g : State → State} (h : f s = g s) : pressIssue p f s =
    pressIssue p g s := by
  rw [pressIssue_of_issues hi, pressIssue_of_issues hi, h]

theorem nearLoopEnd_iff (s : State) (p : Fin 16) : nearLoopEnd (fetchStep s.press[p]) = true ↔ nearEnd s p := by
  unfold nearLoopEnd nearEnd
  rw [fetchStep_cyc, fetchStep_pc, Fin.exists_fin_two]
  simp only [Bool.or_eq_true, Bool.and_eq_true, decide_eq_true_eq, and_assoc]

theorem replicate_true_iff (v : Vector Bool 2) : v = Vector.replicate 2 true ↔ v[0] = true ∧ v[1] = true := by
  constructor
  · rintro rfl
    exact ⟨rfl, rfl⟩
  · rintro ⟨h0, h1⟩
    ext i hi
    rcases i with _ | _ | i
    · simpa using h0
    · simpa using h1
    · omega

/-- The three parts of the decoder's rule: no delay slot, no loop end near a word that changes the sequence, and the
  word's own rule
(R163). -/
theorem ctlLegal_parts (s : State) (p : Fin 16) (k : Ctl) :
    ∃ own, ctlLegal s p k = ((fetchStep s.press[p]).br.isNone && !(k.sequence && nearLoopEnd (fetchStep s.press[p]))
      && own) :=
  ⟨_, rfl⟩

theorem ctlLegal_of_slot {p : Fin 16} {k : Ctl} (h : s.press[p].br ≠ none) : ctlLegal s p k = false := by
  obtain ⟨own, hl⟩ := ctlLegal_parts s p k
  have hb : (fetchStep s.press[p]).br.isNone = false := by
    rw [fetchStep_br]
    cases hb : s.press[p].br with
    | none => exact absurd hb h
    | some b => rfl
  rw [hl, hb]
  rfl

theorem ctlLegal_of_near {p : Fin 16} {k : Ctl} (hk : k.sequence = true) (h : nearEnd s p) : ctlLegal s p k =
    false := by
  obtain ⟨own, hl⟩ := ctlLegal_parts s p k
  rw [hl, hk, (nearLoopEnd_iff s p).2 h]
  simp

/-- A control word whose own rule fails is illegal. -/
theorem ctlLegal_of_own {p : Fin 16} {k : Ctl} {own : Bool}
    (h : ctlLegal s p k = ((fetchStep s.press[p]).br.isNone && !(k.sequence && nearLoopEnd (fetchStep s.press[p])) &&
      own))
    (ho : own = false) : ctlLegal s p k = false := by
  rw [h, ho, Bool.and_false]

@[simp] theorem fetchStep_stack (x : PressSt) : (fetchStep x).stack = x.stack := by rw [fetchStep_frame]
@[simp] theorem fetchStep_ih (x : PressSt) : (fetchStep x).ih = x.ih := by rw [fetchStep_frame]

theorem condition_reserved : decide ((15 : BitVec 4).toNat < 15) = false := by decide

/-- A control word that R163 calls illegal where it stands is taken as an illegal word. -/
theorem exec_ctlIllegal {p : Fin 16} {c : Instr} (hi : Issues s p) (h : ctlIllegal s p c) :
    exec c s = .next (pressIssue p (illegalWord p) s) := by
  obtain ⟨-, hrep, -, -, -⟩ := id hi
  have hword {k : Ctl} (hl : ctlLegal s p k = false) :
      (Host.Outcome.next (issueCtlWord p k s) : Host.Outcome State Fault Refusal) = .next
        (pressIssue p (illegalWord p) s) := by
    refine congrArg _ (pressIssue_congr hi ?_)
    rw [issueControl, if_neg (by rw [hrep]; simp), hl]
    rfl
  have hempty (h : s.press[p].stack = []) : (!(fetchStep s.press[p]).stack.isEmpty) = false := by
    rw [fetchStep_stack, h]
    rfl
  have hloop {e : BitVec 13} (h : (fetchStep s.press[p]).la = Vector.replicate 2 true ∨ e.toNat < s.press[p].pc.toNat
      + 3) :
      (!((fetchStep s.press[p]).la[0] && (fetchStep s.press[p]).la[1]) &&
        decide ((fetchStep s.press[p]).pc.toNat + 3 ≤ e.toNat)) = false := by
    rcases h with h | h
    · obtain ⟨h0, h1⟩ := (replicate_true_iff _).1 h
      rw [h0, h1]
      rfl
    · rw [fetchStep_pc, decide_eq_false (by omega), Bool.and_false]
  cases c <;> try exact absurd h id
  case bra q k a =>
    obtain ⟨rfl, h | h | rfl⟩ := h
    · exact hword (ctlLegal_of_slot h)
    · exact hword (ctlLegal_of_near rfl h)
    · exact hword (ctlLegal_of_own rfl condition_reserved)
  case call q k a =>
    obtain ⟨rfl, h | h | rfl⟩ := h
    · exact hword (ctlLegal_of_slot h)
    · exact hword (ctlLegal_of_near rfl h)
    · exact hword (ctlLegal_of_own rfl condition_reserved)
  case jmpr q k r =>
    obtain ⟨rfl, h | h | rfl⟩ := h
    · exact hword (ctlLegal_of_slot h)
    · exact hword (ctlLegal_of_near rfl h)
    · exact hword (ctlLegal_of_own rfl condition_reserved)
  case rts q k =>
    obtain ⟨rfl, h | h | rfl | h⟩ := h
    · exact hword (ctlLegal_of_slot h)
    · exact hword (ctlLegal_of_near rfl h)
    · exact hword (ctlLegal_of_own rfl (Bool.and_eq_false_imp.2 fun h => absurd h (by decide)))
    · exact hword (ctlLegal_of_own rfl (Bool.and_eq_false_imp.2 fun _ => hempty h))
  case rti q =>
    obtain ⟨rfl, h | h | h⟩ := h
    · exact hword (ctlLegal_of_slot h)
    · exact hword (ctlLegal_of_near rfl h)
    · exact hword (ctlLegal_of_own rfl (hempty h))
  case rep q n =>
    obtain ⟨rfl, h | h⟩ := h
    · exact hword (ctlLegal_of_slot h)
    · exact hword (ctlLegal_of_near rfl h)
  case repr q r =>
    obtain ⟨rfl, h | h⟩ := h
    · exact hword (ctlLegal_of_slot h)
    · exact hword (ctlLegal_of_near rfl h)
  case loop q n e =>
    obtain ⟨rfl, h | h | h⟩ := h
    · exact hword (ctlLegal_of_slot h)
    · exact hword (ctlLegal_of_near rfl h)
    · exact hword (ctlLegal_of_own rfl (hloop h))
  case loopr q r e =>
    obtain ⟨rfl, h | h | h⟩ := h
    · exact hword (ctlLegal_of_slot h)
    · exact hword (ctlLegal_of_near rfl h)
    · exact hword (ctlLegal_of_own rfl (hloop h))
  case wait q =>
    obtain ⟨rfl, h | h⟩ := h
    · exact hword (ctlLegal_of_slot h)
    · refine hword (ctlLegal_of_own rfl ?_)
      rw [fetchStep_cyc]
      exact h
  case trap q =>
    obtain ⟨rfl, h | ⟨hu, hih⟩⟩ := h
    · exact hword (ctlLegal_of_slot h)
    · refine hword (ctlLegal_of_own rfl ?_)
      rw [fetchStep_ih, hu, hih]
      rfl
  case movs q x =>
    obtain ⟨rfl, h | h⟩ := h
    · exact hword (ctlLegal_of_slot h)
    · exact hword (ctlLegal_of_own rfl (decide_eq_false (by omega)))

/-- A control word that a REP may not repeat makes the REP the illegal word (R163). -/
theorem sequenceWord_repeated {p : Fin 16} {c : Instr} {n : Nat} (hrep : s.press[p].rep = some n)
    (h : sequenceWord p c = true) :
    ∃ k, exec c s = .next (issueCtlWord p k s) ∧ issueControl p k s =
      raiseFault p 1 (s.press[p].pc - 1).toNat (s.press[p].pc - 1) (setPress p { s.press[p] with rep := none } s) := by
  have hone {k : Ctl} (hk : k.repeatable = false) : issueControl p k s =
      raiseFault p 1 (s.press[p].pc - 1).toNat (s.press[p].pc - 1) (setPress p { s.press[p] with rep := none } s) := by
    rw [issueControl, if_pos ⟨by rw [hrep]; rfl, by rw [hk]; decide⟩]
  cases c <;> try exact absurd h Bool.false_ne_true
  all_goals
    obtain rfl := beq_iff_eq.1 h
    exact ⟨_, rfl, hone rfl⟩

theorem eccRead_press (a : Nat) (s : State) : (eccRead a s).1.press = s.press := by
  have hroom : FetchRoom (.mem :: eccParts) (fun a => pageOf a ∈ eccPages) := ⟨by decide, fun _ h => h⟩
  exact (Fetched.eccRead hroom (Fetched.refl _ _ s) a fun _ => List.mem_cons_self).within.1 .press (by decide)

theorem eccRead_of_ue {a : Nat} (h : ueAt s a = true) : (eccRead a s).2 = true := by
  have hout : eccOut (keyCist (keyOf a)) (flipsAt s a) = .ue := by simpa [ueAt] using h
  rw [eccRead, hout]

/-- The fetch meets the error, and touches no Press. -/
theorem fetchEcc_of_ue {p : Fin 16} {q : List Instr} (ht : Tidy q True s) (hrom : inRom s p = false)
    (hue : ueAt s (pressBase p + 8 * s.press[p].pc.toNat) = true ∨ flipsAt s (pressBase p + 8 * s.press[p].pc.toNat)
      = 0 ∧
      ueAt s (pressBase p + 8 * s.press[p].pc.toNat + 4) = true) :
    (fetchEcc p s).2 = true ∧ (fetchEcc p s).1.press = s.press ∧ Tidy q True (fetchEcc p s).1 := by
  have hdef : fetchEcc p s =
      (let r0 := eccRead (pressBase p + 8 * s.press[p].pc.toNat) s
       let r1 := eccRead (pressBase p + 8 * s.press[p].pc.toNat + 4) r0.1
       (r1.1, r0.2 || r1.2)) := by
    rw [fetchEcc, hrom]
    rfl
  rw [hdef]
  refine ⟨?_, (eccRead_press _ _).trans (eccRead_press _ _), (ht.eccRead _).eccRead _⟩
  rcases hue with h | ⟨h0, h⟩
  · simp only [eccRead_of_ue h, Bool.true_or]
  · simp only [eccRead_ok h0, eccRead_of_ue h, Bool.or_true]

/-- FAULTED keeps the place (R167). -/
theorem enterPressFault_pc {u : State} {p : Fin 16} (hm : u.press[p].mode ≠ .faulted) (cause addr : Nat) :
    (enterPressFault p cause addr u).press[p].pc = u.press[p].pc := by
  let x : PressSt := { fadeToBypass (u.tb.frame + 1) u.press[p] with fault := false }
  have hmode : setPMode p .faulted (setPress p x u) = iset (pgPRESS p) 6
      (setPress p { drainPend x with mode := .faulted } u) := by
    rw [setPMode_of_ne (by rw [press_setPress_same]; exact hm), press_setPress_same, if_neg (by decide), setPress_setPress]
  have hdef : (enterPressFault p cause addr u).press = (setPMode p .faulted (setPress p x u)).press := rfl
  rw [hdef, hmode]
  change (setPress p { drainPend x with mode := .faulted } u).press[p].pc = _
  rw [press_setPress_same]
  rfl

/-- A word that an uncorrectable error meets in its fetch puts the Press in FAULTED (R151, R167). -/
theorem pressIssue_of_ue {p : Fin 16} (hc : Canonical s) (hcan : canIssue s p = true) (hrom : inRom s p = false)
    (hue : ueAt s (pressBase p + 8 * s.press[p].pc.toNat) = true ∨ flipsAt s (pressBase p + 8 * s.press[p].pc.toNat)
      = 0 ∧
      ueAt s (pressBase p + 8 * s.press[p].pc.toNat + 4) = true) (f : State → State) :
    let t := pressIssue p f s
    t.press[p].mode = .faulted ∧ t.press[p].pc = s.press[p].pc ∧
      rget t (aPRESS_FAULTINFO p) = fld 4 28 ||| fld s.press[p].pc.toNat 0 := by
  obtain ⟨h2, hpress, ht⟩ := fetchEcc_of_ue (tidy_of_canonical hc) hrom hue
  have hdef : pressIssue p f s = enterPressFault p 4 s.press[p].pc.toNat (fetchEcc p s).1 := by
    rw [pressIssue, if_pos hcan]
    exact if_pos h2
  have hm : (fetchEcc p s).1.press[p].mode ≠ .faulted := by
    rw [hpress]
    exact mode_of_canIssue hcan
  obtain ⟨hmode, -, -, hinfo, -⟩ := enterPressFault_effect ht.regs_wf hm 4 s.press[p].pc.toNat
  rw [hdef]
  exact ⟨hmode, (enterPressFault_pc hm _ _).trans (by rw [hpress]), hinfo⟩

/-- The results of the arithmetic of a word arrive in the fifth cycle after its issue (R158). -/
theorem at_eq_of_mem_arithWrites {x : PressSt} {t : Nat} {f : BitVec 22} {w : PWrite} (h : w ∈ arithWrites x t f) :
    w.at_ = t + 5 := by
  unfold arithWrites at h
  split at h
  · cases h
  · split at h
    · rcases List.mem_append.1 h with h | h
      · obtain ⟨r, -, rfl⟩ := List.mem_map.1 h
        rfl
      · rw [List.mem_singleton.1 h]
        rfl
    · cases h

/-- Until the sixth cycle no reader sees the result of an arithmetic word without moves. -/
theorem newAt_of_noMoves {p : Fin 16} {x : ArithArgs} {op : BitVec 6} (hi : Issues s p)
    (hl : dataLegal x.long (arithField op x) x.mv = true) (hm : noMoves x) {k : Nat} (hk : k ≤ 5) (g : PReg) :
    newAt s (issueArith p op x s) p k g = oldAt s p k g := by
  obtain ⟨-, -, hrti, -, -⟩ := id hi
  have hleft : LeftBy s p _ (issueArith p op x s) := leftBy_of_legal hi hl
  rw [newAt_of_leftBy hrti hleft, wordWrites_eq, moveWrites_of_noMoves hm, svWrites_of_noMoves hm, List.nil_append,
    List.append_nil]
  refine seenAt_pendAll_unseen fun w hw => .inl ?_
  rw [at_eq_of_mem_arithWrites hw, atIssue_cyc]
  omega

/-- Settles O36: a false condition gives no result, and each way of being illegal ends in the same illegal word. -/
theorem suppressedAndIllegalWords : Obligations.SuppressedAndIllegalWords := by
  unfold Obligations.SuppressedAndIllegalWords
  refine ⟨?_, ?_, ?_, ?_, ?_, ?_, ?_⟩
  · intro s p x c hc hi hm h15 hcond hmem hl
    have hlegal : dataLegal x.long (arithField (opcodeOf c) x) x.mv = true := by
      obtain ⟨hlong, hmv⟩ := hm
      rw [dataLegal_arithField, opLegal_eq (.inl hmem), hl, hlong, hmv]
      decide
    exact ⟨_, exec_arithCmd (.inl hmem) s, done_of_noResults hc hi hlegal (arithWrites_of_suppressed hcond)⟩
  · intro s p x c hc hi hmem hill
    have hl : dataLegal x.long (arithField (opcodeOf c) x) x.mv = false := by
      rw [dataLegal_arithField, opLegal_eq hmem]
      rcases hill with h | h
      · rw [h]
        rfl
      · exact Bool.and_eq_false_imp.2 fun _ => Bool.eq_false_iff.2 h
    refine ⟨_, exec_arithCmd hmem s, ?_⟩
    have heq : issueArith p (opcodeOf c) x s = pressIssue p (illegalWord p) s :=
      pressIssue_congr hi (by rw [issueFields, hl]; rfl)
    rw [heq]
    exact notExecuted_illegalWord hc hi
  · intro s p c hc hi hill
    exact ⟨_, exec_moveIllegal hill s, notExecuted_illegalWord hc hi⟩
  · intro s p c hc hi hill
    exact ⟨_, exec_ctlIllegal hi hill, notExecuted_illegalWord hc hi⟩
  · intro s p c n hc hcan hrep hflips hdbg hseq
    obtain ⟨k, hexec, hword⟩ := sequenceWord_repeated hrep hseq
    obtain ⟨hp, hinfo, hother, hbut, honly⟩ := raiseFault_effect (s := setPress p { s.press[p] with rep := none } s)
      hc.1 p 1
      (s.press[p].pc - 1).toNat (s.press[p].pc - 1)
    have hdef : issueCtlWord p k s = settleDbg p (issueControl p k s) := by
      rw [issueCtlWord, pressIssue, if_pos hcan, fetchEcc_clean hflips]
      rfl
    refine ⟨_, hexec, ?_⟩
    rw [hdef, hword, settleDbg_of_faultinfo (u := setPress p { s.press[p] with rep := none } s)
      (hbut .twin (by decide)) honly hdbg]
    rw [press_setPress_same] at hp hinfo
    generalize raiseFault p 1 (s.press[p].pc - 1).toNat (s.press[p].pc - 1)
      (setPress p { s.press[p] with rep := none } s) = t
      at hp hinfo hother hbut honly
    rw [hp]
    refine ⟨rfl, rfl, rfl, rfl, rfl, rfl, fun q hq => ?_, ?_, fun hf => (hinfo hf).2⟩
    · exact (hother q hq).trans (press_setPress_ne s _ hq)
    · exact KeepsBut.trans ((setPress_keepsBut s p _).mono (by decide)) hbut
  · intro s p x d m n hc hi hr hm
    have hl : opLegal 0x20#6 (withF x d m n) = true := by
      simp [opLegal, arithLegal, withF, cond_ne_of_wordRuns hr]
    exact ⟨_, rfl, fun k hk => newAt_of_noMoves hi (dataLegal_of_wordRuns (x := withF x d m n) hr hl) hm hk _⟩
  · intro s p x c hc hcan hrom hue hmem
    exact ⟨_, exec_arithCmd (.inl hmem) s, pressIssue_of_ue hc hcan hrom hue _⟩

/-! ### What the fetch and a NOP leave of the registers -/

/-- A part of the registers that no result in flight writes stays as results arrive. -/
theorem retire_proj {α : Type} (F : PressRegs → α) {x : PressSt} (h : ∀ w ∈ x.pend, ∀ r v, F (r.set w.reg v) = F r)
    (c : Nat) :
    F (retire c x).r = F x.r := by
  have hfold : ∀ (l : List PWrite) (r : PressRegs), (∀ w ∈ l, ∀ r v, F (r.set w.reg v) = F r) →
      F (l.foldl (fun r w =>
        match w.late with
        | some (.count n) => r.set w.reg (r.get (.lc n))
        | some .loops => r.set w.reg (merge72 (r.get w.reg) w.mask (w.val ||| laBits x))
        | none => r.set w.reg (merge72 (r.get w.reg) w.mask w.val)) r) = F r := by
    intro l
    induction l with
    | nil => exact fun _ _ => rfl
    | cons w l ih =>
      intro r hl
      rw [List.foldl_cons, ih _ fun u hu => hl u (List.mem_cons_of_mem w hu)]
      have hw := hl w List.mem_cons_self
      cases hlate : w.late with
      | none => exact hw _ _
      | some y =>
        cases y with
        | count n => exact hw _ _
        | loops => exact hw _ _
  exact hfold _ _ fun w hw => h w (List.mem_of_mem_filter hw)

theorem mem_retire {c : Nat} {x : PressSt} {w : PWrite} (h : w ∈ (retire c x).pend) : w ∈ x.pend :=
    List.mem_of_mem_filter h

/-- Settling late reads keeps each result's register and time. -/
theorem mem_settleCounts {j : Nat} {x : PressSt} {w : PWrite} (h : w ∈ (settleCounts j x).pend) :
    ∃ v ∈ x.pend, w.reg = v.reg ∧ w.at_ = v.at_ := by
  obtain ⟨v, hv, rfl⟩ := List.mem_map.1 h
  refine ⟨v, hv, ?_⟩
  split
  · split <;> exact ⟨rfl, rfl⟩
  · split <;> exact ⟨rfl, rfl⟩
  · exact ⟨rfl, rfl⟩

theorem mem_settleLa {j : Nat} {x : PressSt} {w : PWrite} (h : w ∈ (settleLa j x).pend) :
    ∃ v ∈ x.pend, w.reg = v.reg ∧ w.at_ = v.at_ := by
  obtain ⟨v, hv, rfl⟩ := List.mem_map.1 h
  refine ⟨v, hv, ?_⟩
  split <;> exact ⟨rfl, rfl⟩

/-- The Press as the loop-end compare of its fetch finds it (R162). -/
def beforeCompare (x : PressSt) : PressSt := retire x.cyc (settleCounts x.cyc x)

theorem fetchStep_of_fresh {x : PressSt} (h : x.next = none) : fetchStep x = settleLa x.cyc
    (loopCompare (beforeCompare x)) := by
  rw [fetchStep, h]
  exact if_neg Bool.false_ne_true

theorem fetchStep_of_seen {x : PressSt} (h : x.next.isSome = true) : fetchStep x = x := if_pos h

theorem mem_beforeCompare {x : PressSt} {w : PWrite} (h : w ∈ (beforeCompare x).pend) : ∃ v ∈ x.pend, w.reg = v.reg ∧
    w.at_ = v.at_ :=
  mem_settleCounts (mem_retire h)

theorem beforeCompare_proj {α : Type} (F : PressRegs → α) {x : PressSt}
    (h : ∀ w ∈ x.pend, ∀ r v, F (r.set w.reg v) = F r) :
    F (beforeCompare x).r = F x.r :=
  retire_proj F (x := settleCounts x.cyc x) (fun w hw r v => by
    obtain ⟨u, hu, hr, -⟩ := mem_settleCounts hw
    rw [hr]
    exact h u hu r v) x.cyc

/-- The loop-end compare changes no register but the LOOP counts. -/
theorem loopCompare_proj {α : Type} (F : PressRegs → α) (hF : ∀ r lc, F { r with lc := lc } = F r) (x : PressSt) :
    F (loopCompare x).r = F x.r := by
  unfold loopCompare
  dsimp only
  split
  · exact hF _ _
  · split
    · exact hF _ _
    · rfl

/-- A part of the registers without LOOP counts that no result in flight writes stays through a fetch. -/
theorem fetchStep_proj {α : Type} (F : PressRegs → α) (hF : ∀ r lc, F { r with lc := lc } = F r) {x : PressSt}
    (h : ∀ w ∈ x.pend, ∀ r v, F (r.set w.reg v) = F r) : F (fetchStep x).r = F x.r := by
  cases hn : x.next with
  | none =>
    rw [fetchStep_of_fresh hn]
    exact (loopCompare_proj F hF _).trans (beforeCompare_proj F h)
  | some a => rw [fetchStep_of_seen (by rw [hn]; rfl)]

theorem mem_fetchStep {x : PressSt} {w : PWrite} (h : w ∈ (fetchStep x).pend) : ∃ v ∈ x.pend, w.reg = v.reg ∧ w.at_ =
    v.at_ := by
  cases hn : x.next with
  | none =>
    rw [fetchStep_of_fresh hn] at h
    obtain ⟨v, hv, hr, ha⟩ := mem_settleLa h
    obtain ⟨u, hu, hr', ha'⟩ := mem_beforeCompare ((loopCompare_pend_sublist _).subset hv)
    exact ⟨u, hu, hr.trans hr', ha.trans ha'⟩
  | some a =>
    rw [fetchStep_of_seen (by rw [hn]; rfl)] at h
    exact ⟨w, h, rfl, rfl⟩

/-- A Press one cycle on, with the results due arrived and none put. -/
def idleCycle (x : PressSt) : PressSt := { retire x.cyc x with cyc := x.cyc + 1 }

/-- `n` cycles without a result. -/
def idleCycles : Nat → PressSt → PressSt
  | 0, x => x
  | n + 1, x => idleCycles n (idleCycle x)

/-- `n` idle cycles touch registers, results in flight and the cycle count. -/
theorem idleCycles_frame (n : Nat) (x : PressSt) :
    idleCycles n x = { x with r := (idleCycles n x).r, pend := (idleCycles n x).pend, cyc := x.cyc + n } := by
  induction n generalizing x with
  | zero => rfl
  | succ n ih =>
    rw [idleCycles, ih]
    simp only [idleCycle, retire, Nat.add_assoc, Nat.add_comm 1 n]

theorem idleCycles_proj {α : Type} (F : PressRegs → α) (n : Nat) {x : PressSt}
    (h : ∀ w ∈ x.pend, ∀ r v, F (r.set w.reg v) = F r) :
    F (idleCycles n x).r = F x.r := by
  induction n generalizing x with
  | zero => rfl
  | succ n ih => exact (ih (x := idleCycle x) fun w hw => h w (mem_retire hw)).trans (retire_proj F h x.cyc)

theorem mem_idleCycles {n : Nat} {x : PressSt} {w : PWrite} (h : w ∈ (idleCycles n x).pend) : w ∈ x.pend := by
  induction n generalizing x with
  | zero => exact h
  | succ n ih => exact mem_retire (ih (x := idleCycle x) h)

/-- A NOP passes, as often as a REP asks (R161). -/
theorem runs_nop {p : Fin 16} (hcan : canIssue s p = true) (hflips : s.fab.flips = [])
    (hdbg : isSolo s = true → haltBit s p = false) :
    exec (.opNop p nopWord) s =
      .next (setPress p (advancePc (idleCycles (s.press[p].rep.getD 1) (fetchStep s.press[p]))) s) := by
  have hmode := mode_of_canIssue hcan
  have hnone (u : State) (x : PressSt) (t : Nat) : dataEffs p false 0 u x t = [MoveEff.none, MoveEff.none] := by
    have hx : (0 : BitVec 40).extractLsb' 20 20 = 0 := by decide
    have hy : (0 : BitVec 40).extractLsb' 0 20 = 0 := by decide
    rw [dataEffs, if_neg Bool.false_ne_true, hx, hy, moveEff_zero, moveEff_zero]
  have hone (x : PressSt) : issueOnce p 0 (dataEffs p false 0 (setPress p x s)) (setPress p x s) = setPress p
      (idleCycle x) s := by
    have hno : arithWrites (idleCycle x) (idleCycle x).cyc 0 = [] := rfl
    rw [issueOnce_eq_actMoves p 0 _ _ (x := retire x.cyc x) (by rw [press_setPress_same]), hnone]
    exact (actMoves_of_quiet p _ rfl rfl rfl _).trans (setPress_setPress ..)
  have htimes : ∀ (n : Nat) (x : PressSt), x.mode ≠ .faulted →
      issueTimes p 0 (dataEffs p false 0) n (setPress p x s) = setPress p (idleCycles n x) s := by
    intro n
    induction n with
    | zero => exact fun _ _ => rfl
    | succ n ih =>
      intro x hx
      rw [issueTimes, hone, press_setPress_same, if_neg (show (idleCycle x).mode ≠ .faulted from hx)]
      exact ih (idleCycle x) hx
  have hissue : issueFields p false 0 0 s = setPress p (advancePc
      (idleCycles (s.press[p].rep.getD 1) (fetchStep s.press[p]))) s := by
    have hm : (fetchStep s.press[p]).mode ≠ .faulted := by rwa [fetchStep_mode]
    have hl : dataLegal false 0 0 = true := by decide
    rw [issueFields, if_pos hl, issueData, fetchStep_rep, htimes _ _ hm, press_setPress_same, idleCycles_frame,
      if_neg hm, setPress_setPress]
  have hword : exec (.opNop p nopWord) s = .next (pressIssue p (issueFields p false 0 0) s) := rfl
  rw [hword, pressIssue, if_pos hcan, fetchEcc_clean hflips]
  dsimp only
  rw [if_neg Bool.false_ne_true, hissue]
  exact congrArg _ (settleDbg_eq_self hdbg)

/-! ### O42: the loop-end compare -/

/-- The data registers, taken together. -/
def dataPart (r : PressRegs) := (r.d, r.ac, r.p, r.m, r.l, r.b)

/-- The loop registers, taken together. -/
def loopPart (r : PressRegs) := (r.lc, r.ls, r.le)

theorem dataSame_iff {p : Fin 16} {t : State} : DataSame s p t ↔ dataPart t.press[p].r = dataPart s.press[p].r := by
  simp only [DataSame, dataPart, Prod.mk.injEq]

theorem loopPart_set {g : PReg} (h : ∀ i, g ≠ .lc i ∧ g ≠ .ls i ∧ g ≠ .le i) (r : PressRegs) (v : BitVec 72) :
    loopPart (r.set g v) = loopPart r := by
  cases g with
  | lc i => exact absurd rfl (h i).1
  | ls i => exact absurd rfl (h i).2.1
  | le i => exact absurd rfl (h i).2.2
  | _ => rfl

/-- No result in flight is for a loop register. -/
def LoopsSettled (x : PressSt) : Prop := ∀ w ∈ x.pend, ∀ i : Fin 2, w.reg ≠ .lc i ∧ w.reg ≠ .ls i ∧ w.reg ≠ .le i

theorem loopPart_beforeCompare {x : PressSt} (h : LoopsSettled x) : loopPart (beforeCompare x).r = loopPart x.r :=
  beforeCompare_proj loopPart fun w hw r v => loopPart_set (h w hw) r v

/-- The word stands at the end of the active level `n`. -/
def atEnd (y : PressSt) (n : Fin 2) : Bool := y.la[n] && y.r.le[n] == y.pc

/-- The loop of level `n` begins again. -/
def loopBack (y : PressSt) (n : Fin 2) : PressSt :=
  { y with
    r := { y.r with lc := y.r.lc.set n (y.r.lc[n] - 1) }
    pend := y.pend.filter fun w => !(w.reg == .lc n && w.at_ == y.cyc + 1)
    next := some y.r.ls[n] }

theorem loopCompare_eq (y : PressSt) :
    loopCompare y =
      if atEnd y 1 && y.r.lc[(1 : Fin 2)] != 1 then loopBack y 1
      else
        let la1 := if atEnd y 1 then y.la.set 1 false else y.la
        if atEnd y 0 && y.r.lc[(0 : Fin 2)] != 1 then { loopBack y 0 with la := la1 }
        else { y with la := if atEnd y 0 then la1.set 0 false else la1, next := some (y.pc + 1) } := rfl

theorem atEnd_of_not {y : PressSt} {n : Fin 2} (h : y.la[n] = false ∨ y.r.le[n] ≠ y.pc) : atEnd y n = false := by
  unfold atEnd
  rcases h with h | h
  · rw [h, Bool.false_and]
  · rw [beq_false_of_ne h, Bool.and_false]

theorem atEnd_of {y : PressSt} {n : Fin 2} (hla : y.la[n] = true) (hle : y.r.le[n] = y.pc) : atEnd y n = true := by
  unfold atEnd
  rw [hla, hle, beq_self_eq_true]
  rfl

/-- At the end of a level whose count is not 1 the count goes down, and the loop begins again (R162). -/
theorem loopCompare_back {y : PressSt} {n : Fin 2} (hn : atEnd y n = true) (hin : n = 1 ∨ atEnd y 1 = false)
    (hlc : y.r.lc[n] ≠ 1) : loopCompare y = loopBack y n := by
  have hne : (y.r.lc[n] != 1) = true := bne_iff_ne.2 hlc
  rw [loopCompare_eq]
  obtain rfl | rfl : n = 1 ∨ n = 0 := by omega
  · rw [hn, hne]
    rfl
  · have h1 := hin.resolve_left (by decide)
    simp only [hn, hne, h1, Bool.false_and, Bool.false_eq_true, if_false, Bool.and_self, if_true]
    rfl

/-- At the end of a level whose count is 1 the level ends, and the Press goes straight on (R162). -/
theorem loopCompare_end {y : PressSt} {n : Fin 2} (hn : atEnd y n = true) (hin : n = 1 ∨ atEnd y 1 = false)
    (hlc : y.r.lc[n] = 1) (hout : n = 0 ∨ atEnd y 0 = false) :
    loopCompare y = { y with la := y.la.set n false, next := some (y.pc + 1) } := by
  have he : (y.r.lc[n] != 1) = false := by rw [hlc]; decide
  rw [loopCompare_eq]
  obtain rfl | rfl : n = 1 ∨ n = 0 := by omega
  · have h0 := hout.resolve_left (by decide)
    simp only [hn, he, h0, Bool.and_false, Bool.false_and, Bool.false_eq_true, if_false, if_true]
    rfl
  · have h1 := hin.resolve_left (by decide)
    simp only [hn, he, h1, Bool.and_false, Bool.false_and, Bool.false_eq_true, if_false, if_true]
    rfl

/-! ### O42: the fetch, and the word behind it -/

/-- Inside a fetch nothing comes before the word. -/
theorem canIssue_of_inside {u : State} {p : Fin 16} (hm : u.press[p].mode = .run ∨ u.press[p].mode = .stopping)
    (hw : u.press[p].wait = false) (hcore : coreRuns u = true) (hb : atBoundary u.press[p] = false) : canIssue u p =
      true := by
  have hd : dbgStops u p = false := by rw [dbgStops, hb, Bool.and_false]
  unfold canIssue
  dsimp only
  rw [hd, hb, hw, hcore]
  rcases hm with h | h <;> rw [h] <;> simp

theorem facts_of_canIssue {u : State} {p : Fin 16} (h : canIssue u p = true) :
    (u.press[p].mode = .run ∨ u.press[p].mode = .stopping) ∧ u.press[p].wait = false ∧ coreRuns u = true := by
  simp only [canIssue, Bool.and_eq_true, Bool.or_eq_true, beq_iff_eq, Bool.not_eq_true'] at h
  exact ⟨h.1.1.1.1.1, h.1.1.1.1.2, h.1.1.1.2⟩

theorem live_of_coreRuns {u : State} (h : coreRuns u = true) : Live u := by
  simp only [coreRuns, Bool.and_eq_true, beq_iff_eq] at h
  exact h.2

/-- The word at a loop end has been fetched: what the fetch leaves, and where a NOP there leads. -/
theorem loopEndFetch_runs {p : Fin 16} {n : Fin 2} {P Q : State → Prop} (hi : Issues s p) (hbr : s.press[p].br = none)
    (hnext : s.press[p].next = none) (hla : s.press[p].la[n] = true) (hle : s.press[p].r.le[n] = s.press[p].pc)
      {a : BitVec 13}
    (ha : (fetchStep s.press[p]).next = some a) (hP : P (setPress p (fetchStep s.press[p]) s))
    (hQ : ∀ x : PressSt, x = advancePc (idleCycle (fetchStep s.press[p])) → x.pc = a → Q (setPress p x s)) :
    Runs (.loopEndFetch p n) s fun t => P t ∧ Runs (.opNop p nopWord) t Q := by
  obtain ⟨hcan, hrep, -, hflips, hdbg⟩ := hi
  obtain ⟨hmode, hwait, hcore⟩ := facts_of_canIssue hcan
  have hdef : loopEndFetch p n s = setPress p (fetchStep s.press[p]) s := if_pos ⟨hcan, hla, hle, hnext, hrep⟩
  refine runs_awake (live_of_coreRuns hcore) rfl ?_
  rw [hdef]
  refine ⟨hP, ?_⟩
  have hfr := fetchStep_frame s.press[p]
  have hpr := press_setPress_same s p (fetchStep s.press[p])
  have hwait' : (fetchStep s.press[p]).wait = false := by rw [hfr]; exact hwait
  have hcan' : canIssue (setPress p (fetchStep s.press[p]) s) p = true := by
    refine canIssue_of_inside ?_ ?_ hcore ?_
    · rw [hpr, fetchStep_mode]
      exact hmode
    · rw [hpr]
      exact hwait'
    · rw [hpr, atBoundary, ha]
      exact Bool.and_false _
  refine ⟨_, runs_nop hcan' hflips hdbg, ?_⟩
  rw [hpr, fetchStep_of_seen (x := fetchStep s.press[p]) (by rw [ha]; rfl), fetchStep_rep, hrep, setPress_setPress]
  refine hQ _ rfl ?_
  rw [show idleCycles (Option.getD none 1) (fetchStep s.press[p]) = idleCycle (fetchStep s.press[p]) from rfl,
    advancePc_straight (x := idleCycle (fetchStep s.press[p])) ((fetchStep_br _).trans hbr)]
  exact congrArg (Option.getD · _) ha

/-- A Press that has only let results arrive keeps, with nothing in flight, its data registers. -/
theorem dataPart_fetchStep {x : PressSt} (h : x.pend = []) : dataPart (fetchStep x).r = dataPart x.r :=
  fetchStep_proj dataPart (fun _ _ => rfl) fun _ hw => absurd (h ▸ hw) List.not_mem_nil

theorem pend_fetchStep_nil {x : PressSt} (h : x.pend = []) : (fetchStep x).pend = [] := by
  rw [List.eq_nil_iff_forall_not_mem]
  intro w hw
  obtain ⟨v, hv, -, -⟩ := mem_fetchStep hw
  exact absurd (h ▸ hv) List.not_mem_nil

theorem dataPart_idleCycles {x : PressSt} (h : x.pend = []) (n : Nat) : dataPart (idleCycles n x).r = dataPart x.r :=
  idleCycles_proj dataPart n fun _ hw => absurd (h ▸ hw) List.not_mem_nil

/-- A Press set alone touches nothing else. -/
theorem quietly_setPress {p : Fin 16} {y : PressSt} (h : s.press[p].pend = [] → dataPart y.r = dataPart s.press[p].r) :
    Quietly s p (setPress p y s) :=
  ⟨fun hp => by rw [dataSame_iff, press_setPress_same]; exact h hp, setPress_otherPresses _ _ _, fun _ => rfl, setPress_keepsBut _ _ _⟩

/-- Settles O42: the fetch at a loop's end decides once, and the word there passes to the address it chose. -/
theorem loopEndBranchesBack : Obligations.LoopEndBranchesBack := by
  unfold Obligations.LoopEndBranchesBack
  intro s p n hc ⟨hi, hbr⟩ hnext hla hloops hle hin
  let x := s.press[p]
  let y := beforeCompare x
  have hpart := loopPart_beforeCompare (x := x) hloops
  simp only [loopPart, Prod.mk.injEq] at hpart
  obtain ⟨hlc, hls, hle'⟩ := hpart
  have hfetch : fetchStep x = settleLa x.cyc (loopCompare y) := fetchStep_of_fresh hnext
  have hend (m : Fin 2) (h : x.la[m] = false ∨ x.r.le[m] ≠ x.pc) : atEnd y m = false :=
    atEnd_of_not (h.imp id fun h => by rw [hle']; exact h)
  have hn : atEnd y n = true := atEnd_of hla (by rw [hle']; exact hle)
  have hin' : n = 1 ∨ atEnd y 1 = false := hin.imp_right (hend 1)
  have hcut {z : PressSt} (hz : z = advancePc (idleCycle (fetchStep x))) : z.r = (idleCycles 1 (fetchStep x)).r := by
    rw [hz, advancePc_straight (x := idleCycle (fetchStep x)) ((fetchStep_br _).trans hbr)]
    rfl
  have hquiet {z : PressSt} (hz : z = advancePc (idleCycle (fetchStep x))) : Quietly s p (setPress p z s) :=
    quietly_setPress fun hp => by
      rw [hcut hz, dataPart_idleCycles (pend_fetchStep_nil hp)]
      exact dataPart_fetchStep hp
  have hdata (hp : s.press[p].pend = []) : DataSame s p (setPress p (fetchStep x) s) := by
    rw [dataSame_iff, press_setPress_same]
    exact dataPart_fetchStep hp
  refine ⟨fun hcount => ?_, fun hcount hout => ?_⟩
  · have hback : loopCompare y = loopBack y n := loopCompare_back hn hin' (by rw [hlc]; exact hcount)
    have hf : fetchStep x = settleLa x.cyc (loopBack y n) := by rw [hfetch, hback]
    have hflc : (fetchStep x).r.lc = x.r.lc.set n (x.r.lc[n] - 1) := by
      rw [hf, ← hlc]
      rfl
    have ha : (fetchStep x).next = some x.r.ls[n] := by
      rw [hf, ← hls]
      rfl
    have hruns := loopEndFetch_runs (P := fun t => t.press[p].r.lc = x.r.lc.set n (x.r.lc[n] - 1) ∧ t.press[p].la =
        x.la ∧
        KeepsBut [.press] s t ∧ OtherPresses p s t ∧ (x.pend = [] → DataSame s p t))
      (Q := fun u => u.press[p].pc = x.r.ls[n] ∧ u.press[p].r.lc = (fetchStep x).r.lc ∧ Quietly s p u) hi hbr hnext
        hla hle ha
      (by
        rw [press_setPress_same, hflc]
        exact ⟨rfl, by rw [hf]; rfl, setPress_keepsBut _ _ _, setPress_otherPresses _ _ _, hdata⟩)
      (fun z hz hpc => by
        rw [press_setPress_same, hcut hz]
        refine ⟨hpc, ?_, hquiet hz⟩
        refine congrArg Prod.fst (idleCycles_proj loopPart 1 fun w hw r v => loopPart_set (fun i => ?_) r v)
        obtain ⟨u, hu, hr, -⟩ := mem_fetchStep hw
        rw [hr]
        exact hloops u hu i)
    obtain ⟨t, hrun, ⟨h1, h2, h3, h4, h5⟩, u, hrun', h6, h7, h8⟩ := hruns
    exact ⟨t, hrun, h1, h2, h3, h4, h5, u, hrun', h6, h7.trans (hflc.trans h1.symm), h8⟩
  · have hback : loopCompare y = { y with la := y.la.set n false, next := some (y.pc + 1) } :=
      loopCompare_end hn hin' (by rw [hlc]; exact hcount) (hout.imp_right (hend 0))
    have hf : fetchStep x = settleLa x.cyc { y with la := y.la.set n false, next := some (y.pc + 1) } := by rw
        [hfetch, hback]
    have hflc : (fetchStep x).r.lc = x.r.lc := by
      rw [hf, ← hlc]
      rfl
    have ha : (fetchStep x).next = some (x.pc + 1) := by
      rw [hf]
      rfl
    have hruns := loopEndFetch_runs (P := fun t => t.press[p].la = x.la.set n false ∧ t.press[p].r.lc = x.r.lc ∧
        KeepsBut [.press] s t ∧ OtherPresses p s t ∧ (x.pend = [] → DataSame s p t))
      (Q := fun u => u.press[p].pc = x.pc + 1 ∧ Quietly s p u) hi hbr hnext hla hle ha
      (by
        rw [press_setPress_same, hflc]
        exact ⟨by rw [hf]; rfl, rfl, setPress_keepsBut _ _ _, setPress_otherPresses _ _ _, hdata⟩)
      (fun z hz hpc => by
        rw [press_setPress_same]
        exact ⟨hpc, hquiet hz⟩)
    obtain ⟨t, hrun, ⟨h1, h2, h3, h4, h5⟩, u, hrun', h6⟩ := hruns
    exact ⟨t, hrun, h1, h2, h3, h4, h5, u, hrun', h6⟩

/-! ### O40: away from the loop ends -/

/-- No active level ends at the address `a`, nor is about to. -/
def FarFrom (a : BitVec 13) (x : PressSt) : Prop :=
  ∀ n : Fin 2, x.la[n] = true → (∀ w ∈ x.pend, w.reg ≠ .le n) ∧ x.r.le[n] ≠ a

theorem le_set {g : PReg} {n : Fin 2} (h : g ≠ .le n) (r : PressRegs) (v : BitVec 72) : (r.set g v).le[n] =
    r.le[n] := by
  cases g with
  | le i =>
    have hne : i.val ≠ n.val := fun e => h (by rw [Fin.ext e])
    simp only [PressRegs.set, Fin.getElem_fin, Vector.getElem_set_ne _ _ hne]
  | _ => rfl

theorem FarFrom.idleCycle {a : BitVec 13} {x : PressSt} (h : FarFrom a x) : FarFrom a (idleCycle x) := by
  intro n hn
  obtain ⟨hp, hle⟩ := h n hn
  refine ⟨fun w hw => hp w (mem_retire hw), fun e => hle (Eq.trans ?_ e)⟩
  exact (retire_proj (fun r => r.le[n]) (fun w hw r v => le_set (hp w hw) r v) x.cyc).symm

/-- Away from the loop ends a fetch takes the next address, and no level changes. -/
theorem fetchStep_of_far {x : PressSt} (hn : x.next = none ∨ x.next = some (x.pc + 1)) (h : FarFrom x.pc x) :
    (fetchStep x).next = some (x.pc + 1) ∧ (fetchStep x).la = x.la ∧ ∀ a, FarFrom a x → FarFrom a (fetchStep x) := by
  rcases hn with hn | hn
  · let y := beforeCompare x
    have hle (n : Fin 2) (hla : x.la[n] = true) : y.r.le[n] = x.r.le[n] :=
      beforeCompare_proj (fun r => r.le[n]) fun w hw r v => le_set ((h n hla).1 w hw) r v
    have hend (n : Fin 2) : atEnd y n = false := by
      cases hla : x.la[n] with
      | false => exact atEnd_of_not (.inl hla)
      | true => exact atEnd_of_not (.inr (by rw [hle n hla]; exact (h n hla).2))
    have hf : fetchStep x = settleLa x.cyc { y with next := some (x.pc + 1) } := by
      rw [fetchStep_of_fresh hn, loopCompare_eq, hend 0, hend 1]
      rfl
    refine ⟨by rw [hf]; rfl, by rw [hf]; rfl, fun a ha n hla => ?_⟩
    have hla' : x.la[n] = true := by
      rw [hf] at hla
      exact hla
    obtain ⟨hp, hne⟩ := ha n hla'
    refine ⟨fun w hw => ?_, ?_⟩
    · obtain ⟨v, hv, hr, -⟩ := mem_fetchStep hw
      rw [hr]
      exact hp v hv
    · rw [hf]
      exact fun e => hne ((hle n hla').symm.trans e)
  · have hs : fetchStep x = x := fetchStep_of_seen (by rw [hn]; rfl)
    rw [hs]
    exact ⟨hn, rfl, fun _ ha => ha⟩

theorem arrive_of_ne {x : PressSt} {c : Nat} {g : PReg} {w : PWrite} (h : w.reg ≠ g) (v : BitVec 72) : arrive x c g v
    w = v :=
  if_neg fun hc => h hc.2

/-- A register that no result in flight is for reads as it stands. -/
theorem regAtCycle_of_settled {x : PressSt} {g : PReg} (h : ∀ w ∈ x.pend, w.reg ≠ g) (c : Nat) : regAtCycle x c g =
    x.r.get g := by
  rw [regAtCycle_eq_foldl]
  exact (List.foldl_ext _ (fun v _ => v) _ fun v w hw => arrive_of_ne (h w hw) v).trans (List.foldl_fixed _)

theorem farFrom_of_loopsFar {p : Fin 16} (h : loopsFar s p) :
    FarFrom s.press[p].pc s.press[p] ∧ FarFrom (s.press[p].pc + 1) s.press[p] ∧ FarFrom (s.press[p].pc + 2)
      s.press[p] :=
  ⟨fun n hn => ⟨(h.2 n hn).1, (h.2 n hn).2.1⟩, fun n hn => ⟨(h.2 n hn).1, (h.2 n hn).2.2.1⟩,
    fun n hn => ⟨(h.2 n hn).1, (h.2 n hn).2.2.2⟩⟩

/-- Away from the loop ends a word may change the sequence (R163). -/
theorem not_nearEnd_of_loopsFar {p : Fin 16} (h : loopsFar s p) : ¬ nearEnd s p := by
  obtain ⟨h0, h1, h2⟩ := farFrom_of_loopsFar h
  obtain ⟨-, hla, hfar⟩ := fetchStep_of_far h.1 h0
  rintro ⟨n, hn, hlo, hhi⟩
  have hn' : (fetchStep s.press[p]).la[n] = true := hn
  have hget : regAtCycle (fetchStep s.press[p]) (s.press[p].cyc + 2) (.le n) =
      ((fetchStep s.press[p]).r.le[n]).setWidth 72 :=
    regAtCycle_of_settled (hfar _ h0 n hn').1 _
  have hval : (((fetchStep s.press[p]).r.le[n]).setWidth 72).toNat = ((fetchStep s.press[p]).r.le[n]).toNat :=
    BitVec.toNat_setWidth_of_le (by decide)
  rw [hget, hval] at hlo hhi
  have hne0 := (hfar _ h0 n hn').2
  have hne1 := (hfar _ h1 n hn').2
  have hne2 := (hfar _ h2 n hn').2
  generalize (fetchStep s.press[p]).r.le[n] = e at hlo hhi hne0 hne1 hne2
  have hlt := e.isLt
  have hcase : e.toNat = s.press[p].pc.toNat ∨ e.toNat = s.press[p].pc.toNat + 1 ∨ e.toNat = s.press[p].pc.toNat +
      2 := by omega
  rcases hcase with h | h | h
  · exact hne0 (BitVec.eq_of_toNat_eq h)
  · exact hne1 (BitVec.eq_of_toNat_eq (by rw [BitVec.toNat_add, h]; exact (Nat.mod_eq_of_lt (by omega)).symm))
  · exact hne2 (BitVec.eq_of_toNat_eq (by rw [BitVec.toNat_add, h]; exact (Nat.mod_eq_of_lt (by omega)).symm))

/-! ### O40: two delay slots -/

/-- A NOP that passes as a delay slot (R160). -/
def slotPress (x : PressSt) : PressSt := advancePc (idleCycle (fetchStep x))

/-- A Press whose delay slots run: nothing comes before its words. -/
structure InSlots (u : State) (p : Fin 16) : Prop where
  mode : u.press[p].mode = .run ∨ u.press[p].mode = .stopping
  wait : u.press[p].wait = false
  core : coreRuns u = true
  flips : u.fab.flips = []
  halt : isSolo u = true → haltBit u p = false
  rep : u.press[p].rep = none
  slots : u.press[p].br.isSome = true

theorem InSlots.nop {u : State} {p : Fin 16} (h : InSlots u p) :
    exec (.opNop p nopWord) u = .next (setPress p (slotPress u.press[p]) u) := by
  have hb : atBoundary u.press[p] = false := by
    cases hbr : u.press[p].br with
    | none =>
      have := h.slots
      rw [hbr] at this
      exact absurd this Bool.false_ne_true
    | some b => simp only [atBoundary, hbr, Option.isNone_some, Bool.and_false, Bool.false_and]
  rw [runs_nop (canIssue_of_inside h.mode h.wait h.core hb) h.flips h.halt, h.rep]
  rfl

@[simp] theorem fetchStep_sh (x : PressSt) : (fetchStep x).sh = x.sh := by rw [fetchStep_frame]

/-- The first delay slot is counted, away from the loop ends. -/
theorem slotPress_first {x : PressSt} {t : Option (BitVec 13)} {r : Option Word} (hb : x.br = some ⟨2, t, r⟩)
    (hn : (fetchStep x).next = some (x.pc + 1)) :
    slotPress x = { idleCycle (fetchStep x) with next := none, rep := none, brkSeen := false, pc := x.pc + 1, br := some ⟨1, t, r⟩ } := by
  have hpc : (idleCycle (fetchStep x)).next.getD ((idleCycle (fetchStep x)).pc + 1) = x.pc + 1 := congrArg
      (Option.getD · _) hn
  rw [slotPress, advancePc_slot (x := idleCycle (fetchStep x)) ((fetchStep_br x).trans hb) (show 1 < 2 by decide), hpc]
  rfl

/-- After the second the branch takes effect. -/
theorem slotPress_last {x : PressSt} {t : Option (BitVec 13)} (hb : x.br = some ⟨1, t, none⟩)
    (hn : (fetchStep x).next = some (x.pc + 1)) :
    slotPress x = { idleCycle (fetchStep x) with next := none, rep := none, brkSeen := false, pc := t.getD (x.pc + 1), br := none } := by
  have hpc : (idleCycle (fetchStep x)).next.getD ((idleCycle (fetchStep x)).pc + 1) = x.pc + 1 := congrArg
      (Option.getD · _) hn
  rw [slotPress, advancePc_jump (x := idleCycle (fetchStep x)) ((fetchStep_br x).trans hb)
    (show ¬ 1 < 1 by decide) rfl, hpc]

/-- After the second slot of an RTI the SR of the entry is restored, in U4 mode with the shadow set (R166, R169). -/
theorem slotPress_rti {x : PressSt} {t : Option (BitVec 13)} {sr : Word} (hb : x.br = some ⟨1, t, some sr⟩)
    (hn : (fetchStep x).next = some (x.pc + 1)) :
    slotPress x =
      let z : PressSt := { idleCycle (fetchStep x) with
        next := none, rep := none, brkSeen := false, pc := t.getD (x.pc + 1), br := none }
      restoreSr sr (if x.sh then { swapShadow z with sh := false } else z) := by
  have hpc : (idleCycle (fetchStep x)).next.getD ((idleCycle (fetchStep x)).pc + 1) = x.pc + 1 := congrArg
      (Option.getD · _) hn
  have hbr : (idleCycle (fetchStep x)).br = some ⟨1, t, some sr⟩ := (fetchStep_br x).trans hb
  have hsh : (idleCycle (fetchStep x)).sh = x.sh := fetchStep_sh x
  unfold slotPress advancePc
  dsimp only
  rw [hbr, hpc]
  dsimp only
  rw [if_neg (by decide), hsh]

/-- Before a delay slot, away from the loop ends of this word and the next. -/
structure BeforeSlots (x : PressSt) (t : Option (BitVec 13)) (r : Option Word) : Prop where
  br : x.br = some ⟨2, t, r⟩
  next : x.next = none
  far : FarFrom x.pc x
  far1 : FarFrom (x.pc + 1) x

section
variable {x : PressSt} {t : Option (BitVec 13)} {r : Option Word} (h : BeforeSlots x t r)
include h

theorem BeforeSlots.first : slotPress x =
    { idleCycle (fetchStep x) with next := none, rep := none, brkSeen := false, pc := x.pc + 1, br := some ⟨1, t, r⟩ } :=
  slotPress_first h.br (fetchStep_of_far (.inl h.next) h.far).1

theorem BeforeSlots.first_frame : slotPress x =
    { x with
      r := (slotPress x).r, pend := (slotPress x).pend, la := (slotPress x).la, cyc := x.cyc + 1, next := none,
        rep := none,
      brkSeen := false, pc := x.pc + 1, br := some ⟨1, t, r⟩ } := by
  rw [h.first]
  have hf := fetchStep_frame x
  generalize fetchStep x = y at hf
  rw [hf]
  rfl

/-- The second slot takes the next address too. -/
theorem BeforeSlots.second : (fetchStep (slotPress x)).next = some (x.pc + 1 + 1) := by
  have hfar : FarFrom (x.pc + 1) (slotPress x) := by
    rw [h.first]
    exact ((fetchStep_of_far (.inl h.next) h.far).2.2 _ h.far1).idleCycle
  have hpc : (slotPress x).pc = x.pc + 1 := by rw [h.first]
  rw [← hpc] at hfar
  have hnext : (slotPress x).next = none := by rw [h.first]
  rw [(fetchStep_of_far (.inl hnext) hfar).1, hpc]

/-- The Press behind both slots, but for where the branch leads. -/
theorem BeforeSlots.behind : ∃ z : PressSt, z = idleCycle (fetchStep (slotPress x)) ∧
    z = { x with r := z.r, pend := z.pend, la := z.la, cyc := x.cyc + 2, next := z.next, rep := none, brkSeen := false, pc := x.pc + 1,
                 br := some ⟨1, t, r⟩ } ∧
    ∀ {α : Type} (F : PressRegs → α), (∀ r lc, F { r with lc := lc } = F r) → x.pend = [] → F z.r = F x.r := by
  refine ⟨_, rfl, ?_, fun F hF hp => ?_⟩
  · have hf := fetchStep_frame (slotPress x)
    generalize fetchStep (slotPress x) = y at hf
    rw [hf, h.first_frame]
    rfl
  · have h1 : F (slotPress x).r = F x.r := by
      rw [h.first]
      refine (retire_proj F (x := fetchStep x) (fun w hw => ?_) _).trans (fetchStep_proj F hF fun w hw => ?_)
      · exact absurd (pend_fetchStep_nil hp ▸ hw) List.not_mem_nil
      · exact absurd (hp ▸ hw) List.not_mem_nil
    have hp1 : (slotPress x).pend = [] := by
      rw [List.eq_nil_iff_forall_not_mem, h.first]
      intro w hw
      exact absurd (pend_fetchStep_nil hp ▸ mem_retire hw) List.not_mem_nil
    refine Eq.trans (retire_proj F (x := fetchStep (slotPress x)) (fun w hw => ?_) _)
      ((fetchStep_proj F hF fun w hw => ?_).trans h1)
    · exact absurd (pend_fetchStep_nil hp1 ▸ hw) List.not_mem_nil
    · exact absurd (hp1 ▸ hw) List.not_mem_nil

end

/-- After the slots of a branch the Press stands at its target, and else goes straight on (R160). -/
theorem slots_branch {x : PressSt} {t : Option (BitVec 13)} (h : BeforeSlots x t none) :
    let v := slotPress (slotPress x)
    v.pc = t.getD (x.pc + 2) ∧ v.br = none ∧ v.next = none ∧ v.stack = x.stack ∧
      (x.pend = [] → dataPart v.r = dataPart x.r) := by
  obtain ⟨z, hz, hframe, hdata⟩ := h.behind
  have hpc : (slotPress x).pc = x.pc + 1 := by rw [h.first]
  have hlast := slotPress_last (x := slotPress x) (t := t) (by rw [h.first]) (by rw [h.second, hpc])
  rw [← hz, hpc] at hlast
  have h2 : x.pc + 1 + 1 = x.pc + 2 := by rw [BitVec.add_assoc]; rfl
  rw [h2] at hlast
  dsimp only
  rw [hlast]
  refine ⟨rfl, rfl, rfl, ?_, hdata dataPart fun _ _ => rfl⟩
  rw [hframe]

/-- The swap of the working set with the shadow set touches nothing else (R169). -/
theorem swapShadow_effect (w : PressSt) :
    let v := swapShadow w
    (∀ i : Fin 8, v.r.d[i.val] = w.shadow.d[i.val]) ∧ (∀ i : Fin 2, v.r.ac[i.val] = w.shadow.ac[i.val]) ∧
      (∀ i : Fin 4, v.r.p[i.val] = w.shadow.p[i.val]) ∧ v.shadow.sr = w.r.sr ∧
      (∀ i : Fin 8, v.shadow.d[i.val] = w.r.d[i.val] ∧ v.r.d[i.val + 8] = w.r.d[i.val + 8]) ∧
      (∀ i : Fin 2, v.shadow.ac[i.val] = w.r.ac[i.val] ∧ v.r.ac[i.val + 2] = w.r.ac[i.val + 2]) ∧
      (∀ i : Fin 4, v.shadow.p[i.val] = w.r.p[i.val] ∧ v.r.p[i.val + 4] = w.r.p[i.val + 4]) := by
  refine ⟨fun i => ?_, fun i => ?_, fun i => ?_, rfl, fun i => ⟨?_, ?_⟩, fun i => ⟨?_, ?_⟩, fun i => ⟨?_, ?_⟩⟩
  case refine_2 =>
    have hi : i.val < 2 := i.isLt
    simp only [swapShadow, Vector.getElem_ofFn, hi, dif_pos]
  all_goals simp [swapShadow]

/-- What RTI restores of an entry's SR. -/
theorem restoreSr_effect (sr : Word) (w : PressSt) :
    (restoreSr sr w).r.sr = sr &&& srBits ∧ (restoreSr sr w).ih = bit sr 22 ∧ (restoreSr sr w).la =
      #v[bit sr 28, bit sr 29] ∧
      restoreSr sr w = { w with r := (restoreSr sr w).r, la := (restoreSr sr w).la, ih := (restoreSr sr w).ih } ∧
      dataPart (restoreSr sr w).r = dataPart w.r :=
  ⟨rfl, rfl, rfl, rfl, rfl⟩

/-- The place in the program, the stack and the U4 state of a Press. -/
def placePart (x : PressSt) := (x.pc, x.br, x.next, x.stack)

theorem placePart_restoreSr (sr : Word) (w : PressSt) : placePart (restoreSr sr w) = placePart w := rfl

theorem placePart_swapped (w : PressSt) : placePart { swapShadow w with sh := false } = placePart w := rfl

/-- Behind the slots of an RTI the Press stands at the target, before its SR is restored. -/
theorem slots_rti_form {x : PressSt} {t : Option (BitVec 13)} {sr : Word} (h : BeforeSlots x t (some sr)) :
    ∃ w : PressSt, slotPress (slotPress x) = restoreSr sr (if x.sh then { swapShadow w with sh := false } else w) ∧
      w.pc = t.getD (x.pc + 2) ∧ w.br = none ∧ w.next = none ∧ w.stack = x.stack ∧ w.sh = x.sh ∧ w.shadow = x.shadow ∧
      ∀ {α : Type} (F : PressRegs → α), (∀ r lc, F { r with lc := lc } = F r) → x.pend = [] → F w.r = F x.r := by
  obtain ⟨z, hz, hframe, hdata⟩ := h.behind
  have hpc : (slotPress x).pc = x.pc + 1 := by rw [h.first]
  have hsh : (slotPress x).sh = x.sh := by rw [h.first_frame]
  have hlast := slotPress_rti (x := slotPress x) (t := t) (sr := sr) (by rw [h.first]) (by rw [h.second, hpc])
  have h2 : x.pc + 1 + 1 = x.pc + 2 := by rw [BitVec.add_assoc]; rfl
  rw [← hz, hpc, h2, hsh] at hlast
  exact ⟨_, hlast, rfl, rfl, rfl, by rw [hframe], by rw [hframe], by rw [hframe], hdata⟩

/-- After the slots of an RTI the entry's SR and, in U4 mode, the shadow set are back (R166, R169). -/
theorem slots_rti {x : PressSt} {t : Option (BitVec 13)} {sr : Word} (h : BeforeSlots x t (some sr)) :
    let v := slotPress (slotPress x)
    v.pc = t.getD (x.pc + 2) ∧ v.br = none ∧ v.next = none ∧ v.stack = x.stack ∧ v.r.sr = sr &&& srBits ∧ v.ih = bit
      sr 22 ∧
      v.la = #v[bit sr 28, bit sr 29] ∧ v.sh = false ∧
      (x.sh = false → v.shadow = x.shadow ∧ (x.pend = [] → dataPart v.r = dataPart x.r)) ∧
      (x.sh = true →
        (∀ i : Fin 8, v.r.d[i.val] = x.shadow.d[i.val]) ∧ (∀ i : Fin 2, v.r.ac[i.val] = x.shadow.ac[i.val]) ∧
        (∀ i : Fin 4, v.r.p[i.val] = x.shadow.p[i.val]) ∧
        (x.pend = [] → v.shadow.sr = x.r.sr ∧
          (∀ i : Fin 8, v.shadow.d[i.val] = x.r.d[i.val] ∧ v.r.d[i.val + 8] = x.r.d[i.val + 8]) ∧
          (∀ i : Fin 2, v.shadow.ac[i.val] = x.r.ac[i.val] ∧ v.r.ac[i.val + 2] = x.r.ac[i.val + 2]) ∧
          (∀ i : Fin 4, v.shadow.p[i.val] = x.r.p[i.val] ∧ v.r.p[i.val + 4] = x.r.p[i.val + 4]))) := by
  obtain ⟨w, hform, hpc, hbr, hnext, hst, hsh, hshadow, hdata⟩ := slots_rti_form h
  have hplace : placePart w = (t.getD (x.pc + 2), none, none, x.stack) := by rw [placePart, hpc, hbr, hnext, hst]
  generalize slotPress (slotPress x) = v at hform ⊢
  have hv : placePart v = placePart w := by
    rw [hform, placePart_restoreSr]
    split
    · exact placePart_swapped w
    · rfl
  have hv' := hv.trans hplace
  simp only [placePart, Prod.mk.injEq] at hv'
  obtain ⟨h1, h2, h3, h4⟩ := hv'
  cases hs : x.sh with
  | false =>
    rw [if_neg (by rw [hs]; decide)] at hform
    obtain ⟨h5, h6, h7, h8, h9⟩ := restoreSr_effect sr w
    rw [← hform] at h5 h6 h7 h8 h9
    refine ⟨h1, h2, h3, h4, h5, h6, h7, ?_, fun _ => ⟨?_, fun hp => h9.trans (hdata dataPart (fun _ _ => rfl) hp)⟩,
      fun h => absurd h Bool.false_ne_true⟩
    · rw [h8]
      exact hsh.trans hs
    · rw [h8]
      exact hshadow
  | true =>
    rw [if_pos hs] at hform
    obtain ⟨k1, k2, k3, k4, k5, k6, k7⟩ := swapShadow_effect w
    have hz : ({ swapShadow w with sh := false } : PressSt).r = (swapShadow w).r ∧
        ({ swapShadow w with sh := false } : PressSt).shadow = (swapShadow w).shadow ∧
        ({ swapShadow w with sh := false } : PressSt).sh = false := ⟨rfl, rfl, rfl⟩
    generalize ({ swapShadow w with sh := false } : PressSt) = z at hform hz
    generalize swapShadow w = y at hz k1 k2 k3 k4 k5 k6 k7
    obtain ⟨hzr, hzs, hzsh⟩ := hz
    obtain ⟨h5, h6, h7, h8, h9⟩ := restoreSr_effect sr z
    rw [← hform] at h5 h6 h7 h8 h9
    have hvs : v.shadow = y.shadow := by
      rw [h8]
      exact hzs
    have hvsh : v.sh = false := by
      rw [h8]
      exact hzsh
    rw [hzr] at h9
    simp only [dataPart, Prod.mk.injEq] at h9
    obtain ⟨hd, hac, hp, -⟩ := h9
    rw [hshadow] at k1 k2 k3
    refine ⟨h1, h2, h3, h4, h5, h6, h7, hvsh, fun h => absurd h.symm Bool.false_ne_true, fun _ =>
      ⟨?_, ?_, ?_, fun hpend => ?_⟩⟩
    · rwa [hd]
    · rwa [hac]
    · rwa [hp]
    · have hr := hdata (fun r => (r.sr, r.d, r.ac, r.p)) (fun _ _ => rfl) hpend
      simp only [Prod.mk.injEq] at hr
      obtain ⟨hsr, hd', hac', hp'⟩ := hr
      rw [hsr] at k4
      rw [hd'] at k5
      rw [hac'] at k6
      rw [hp'] at k7
      rw [hvs, hd, hac, hp]
      exact ⟨k4, k5, k6, k7⟩

/-! ### O40: the branch words -/

@[simp] theorem fetchStep_wait (x : PressSt) : (fetchStep x).wait = x.wait := by rw [fetchStep_frame]
@[simp] theorem fetchStep_shadow (x : PressSt) : (fetchStep x).shadow = x.shadow := by rw [fetchStep_frame]

/-- A legal control word outside a REP issues (R163). -/
theorem issueCtlWord_of_legal {p : Fin 16} {k : Ctl} (hi : Issues s p) (hl : ctlLegal s p k = true) :
    issueCtlWord p k s = settleDbg p (issueCtl p k s) := by
  obtain ⟨-, hrep, -, -, -⟩ := id hi
  rw [issueCtlWord, pressIssue_of_issues hi, issueControl, if_neg (by rw [hrep]; simp), if_pos hl]

/-- A control word outside delay slots is legal where no loop end is near and its own rule holds. -/
theorem ctlLegal_of {p : Fin 16} {k : Ctl} (hbr : s.press[p].br = none) (hnear : k.sequence = true → ¬ nearEnd s p)
    {own : Bool}
    (h : ctlLegal s p k = ((fetchStep s.press[p]).br.isNone && !(k.sequence && nearLoopEnd (fetchStep s.press[p])) &&
      own))
    (ho : own = true) : ctlLegal s p k = true := by
  have hseq : (k.sequence && nearLoopEnd (fetchStep s.press[p])) = false := by
    cases hk : k.sequence with
    | false => rfl
    | true =>
      rw [Bool.true_and, Bool.eq_false_iff]
      exact fun h => hnear hk ((nearLoopEnd_iff s p).1 h)
  rw [h, ho, fetchStep_br, hbr, hseq]
  rfl

/-- The Press as a branch, call or return leaves it: two delay slots to come. -/
def branchPress (s : State) (p : Fin 16) (t : Option (BitVec 13)) (r : Option Word) (st : List PFrame) : PressSt :=
  startBranch t r { fetchStep s.press[p] with cyc := (fetchStep s.press[p]).cyc + 1, stack := st }

section
variable {p : Fin 16} (hi : Issues s p) (hbr : s.press[p].br = none) (hfar : loopsFar s p)
  (t : Option (BitVec 13)) (r : Option Word) (st : List PFrame)
include hfar

theorem branchPress_pc : (branchPress s p t r st).pc = s.press[p].pc + 1 := by
  have hn := (fetchStep_of_far hfar.1 (farFrom_of_loopsFar hfar).1).1
  have : (branchPress s p t r st).pc = (fetchStep s.press[p]).next.getD ((fetchStep s.press[p]).pc + 1) := rfl
  rw [this, hn]
  rfl

theorem beforeSlots_branchPress : BeforeSlots (branchPress s p t r st) t r := by
  obtain ⟨h0, h1, h2⟩ := farFrom_of_loopsFar hfar
  obtain ⟨-, -, hkeep⟩ := fetchStep_of_far hfar.1 h0
  have hpc := branchPress_pc hfar t r st
  refine ⟨rfl, rfl, ?_, ?_⟩
  · rw [hpc]
    exact hkeep _ h1
  · rw [hpc, show s.press[p].pc + 1 + 1 = s.press[p].pc + 2 by rw [BitVec.add_assoc]; rfl]
    exact hkeep _ h2

omit hfar in
include hi in
theorem inSlots_branchPress {u : State} (hcore : coreRuns u = coreRuns s) (hflips : u.fab = s.fab)
    (htw : u.twin = s.twin)
    (hregs : u.regs = s.regs) : InSlots (setPress p (branchPress s p t r st) u) p := by
  obtain ⟨hcan, hrep, -, hf, hdbg⟩ := hi
  obtain ⟨hmode, hwait, hc⟩ := facts_of_canIssue hcan
  have hpress := press_setPress_same u p (branchPress s p t r st)
  have hfr := fetchStep_frame s.press[p]
  refine ⟨?_, ?_, hcore.trans hc, (congrArg FabSt.flips hflips).trans hf, fun hsolo => ?_, ?_, ?_⟩
  · rw [hpress, show (branchPress s p t r st).mode = (fetchStep s.press[p]).mode from rfl, fetchStep_mode]
    exact hmode
  · rw [hpress, show (branchPress s p t r st).wait = (fetchStep s.press[p]).wait from rfl, fetchStep_wait]
    exact hwait
  · refine Eq.trans (congrArg (fun m => bit (spGet resetWord m (aCTRL (pgPRESS p))) 7) hregs) (hdbg ?_)
    exact (congrArg (fun w : TwinSt => w.st == .solo) htw).symm.trans hsolo
  · rw [hpress, show (branchPress s p t r st).rep = (fetchStep s.press[p]).rep from rfl, fetchStep_rep]
    exact hrep
  · rw [hpress]
    rfl

end

theorem InSlots.next {u : State} {p : Fin 16} {x : PressSt} {t : Option (BitVec 13)} {r : Option Word}
    (h : InSlots (setPress p x u) p) (hb : BeforeSlots x t r) : InSlots (setPress p (slotPress x) u) p := by
  obtain ⟨hmode, hwait, hcore, hflips, hhalt, hrep, -⟩ := h
  rw [press_setPress_same] at hmode hwait
  have hf := hb.first_frame
  refine ⟨?_, ?_, hcore, hflips, hhalt, ?_, ?_⟩
  all_goals rw [press_setPress_same, hf]
  · exact hmode
  · exact hwait
  · rfl

/-- A word that leaves its Press before two delay slots: where the NOPs in them lead. -/
theorem afterSlots_of {c : Instr} {p : Fin 16} {u : State} {x : PressSt} {t : Option (BitVec 13)} {r : Option Word}
    {a : BitVec 13}
    {P : State → Prop} (hexec : exec c s = .next (setPress p x u)) (hin : InSlots (setPress p x u) p)
      (hb : BeforeSlots x t r)
    (h : ∀ v, v = slotPress (slotPress x) → v.pc = a ∧ v.br = none ∧ v.next = none ∧ P (setPress p v u)) : afterSlots
      c s p a P := by
  have h1 := hin.nop
  have h2 := (hin.next hb).nop
  rw [press_setPress_same, setPress_setPress] at h1 h2
  obtain ⟨hpc, hbr, hnext, hP⟩ := h _ rfl
  refine ⟨_, hexec, _, h1, _, h2, ?_⟩
  dsimp only
  rw [press_setPress_same]
  exact ⟨hpc, hbr, hnext, hP⟩

/-- What the fetch keeps of the data registers, with nothing in flight. -/
theorem branchPress_data {p : Fin 16} (t : Option (BitVec 13)) (r : Option Word) (st : List PFrame)
    (h : s.press[p].pend = []) :
    (branchPress s p t r st).pend = [] ∧ dataPart (branchPress s p t r st).r = dataPart s.press[p].r :=
  ⟨pend_fetchStep_nil h, dataPart_fetchStep h⟩

/-- A branch, call or return without an SR to restore. -/
theorem afterSlots_branch {c : Instr} {p : Fin 16} (hi : Issues s p) (hfar : loopsFar s p) {t : Option (BitVec 13)}
    {st : List PFrame} (hexec : exec c s = .next (setPress p (branchPress s p t none st) s)) {a : BitVec 13}
    (ha : t.getD (s.press[p].pc + 3) = a) :
    afterSlots c s p a fun v => Quietly s p v ∧ v.press[p].stack = st := by
  have hb := beforeSlots_branchPress hfar t none st
  refine afterSlots_of hexec (inSlots_branchPress hi t none st rfl rfl rfl rfl) hb fun v hv => ?_
  obtain ⟨hpc, hbr, hnext, hst, hdata⟩ := slots_branch hb
  rw [← hv] at hpc hbr hnext hst hdata
  have h3 : s.press[p].pc + 1 + 2 = s.press[p].pc + 3 := by rw [BitVec.add_assoc]; rfl
  rw [branchPress_pc hfar, h3, ha] at hpc
  refine ⟨hpc, hbr, hnext, quietly_setPress fun hp => ?_, ?_⟩
  · obtain ⟨hp', hd⟩ := branchPress_data t none st hp
    exact (hdata hp').trans hd
  · rw [press_setPress_same]
    exact hst

/-- The registers as stage 3 of a control word sees them. -/
theorem takenAt_eq (s : State) (p : Fin 16) (k : BitVec 4) :
    takenAt s p k = condHolds k.toNat ((regAtCycle (fetchStep s.press[p]) ((fetchStep s.press[p]).cyc + 2)
      .sr).setWidth 32) := by
  rw [takenAt, ctlAt, seenAt_sr, fetchStep_cyc, BitVec.setWidth_setWidth_of_le _ (by decide), BitVec.setWidth_eq]

theorem dCtl_eq (s : State) (p : Fin 16) (r : BitVec 4) :
    dCtl s p r = (regAtCycle (fetchStep s.press[p]) ((fetchStep s.press[p]).cyc + 2) (.d r.toFin)).setWidth 32 := by
  rw [dCtl, ctlAt, seenAt_d, fetchStep_cyc, BitVec.setWidth_setWidth_of_le _ (by decide), BitVec.setWidth_eq]

/-- A branch word leaves the Press before its slots, taken or not. -/
theorem issueCtl_branch {p : Fin 16} {k : BitVec 4} {c : Ctl} {a : BitVec 13}
    (hc : c = .bra k.toNat a ∨ (c = .call k.toNat a ∧ takenAt s p k = false) ∨ ∃ r : BitVec 4, c = .jmpr k.toNat
      r.toFin ∧ a = (dCtl s p r).setWidth 13) :
    issueCtl p c s = setPress p (branchPress s p (if takenAt s p k then some a else none) none s.press[p].stack) s := by
  have hst : s.press[p].stack = (fetchStep s.press[p]).stack := (fetchStep_stack _).symm
  rw [takenAt_eq, hst]
  rcases hc with rfl | ⟨rfl, ht⟩ | ⟨r, rfl, rfl⟩
  · rfl
  · rw [takenAt_eq] at ht
    exact if_neg (Bool.eq_false_iff.1 ht)
  · rw [dCtl_eq]
    rfl

/-- A return takes the address on top of the stack, when its condition holds. -/
theorem issueCtl_rts {p : Fin 16} {k : BitVec 4} {f : PFrame} {l : List PFrame} (hst : s.press[p].stack = f :: l) :
    issueCtl p (.rts k.toNat) s =
      setPress p (branchPress s p (if takenAt s p k then some f.pc else none) none
        (if takenAt s p k then l else s.press[p].stack)) s := by
  have hst' : (fetchStep s.press[p]).stack = f :: l := (fetchStep_stack _).trans hst
  have hself : ({ fetchStep s.press[p] with cyc := (fetchStep s.press[p]).cyc + 1, stack := (fetchStep s.press[p]).stack } : PressSt) =
      { fetchStep s.press[p] with cyc := (fetchStep s.press[p]).cyc + 1 } := rfl
  rw [hst, ← hst', takenAt_eq]
  unfold issueCtl
  dsimp only
  rw [hst']
  dsimp only
  split
  · rfl
  · rw [branchPress, ← hst', hself]

/-- A taken CALL pushes the address behind its slots. -/
theorem issueCtl_call {p : Fin 16} {k : BitVec 4} {a : BitVec 13} (ht : takenAt s p k = true) (hfar : loopsFar s p) :
    (s.press[p].stack.length < 8 → issueCtl p (.call k.toNat a) s =
      setPress p (branchPress s p (some a) none (⟨.call, s.press[p].pc + 3, 0⟩ :: s.press[p].stack)) s) ∧
    (8 ≤ s.press[p].stack.length → issueCtl p (.call k.toNat a) s =
      enterPressFault p 3 s.press[p].pc.toNat
        (setPress p { fetchStep s.press[p] with cyc := (fetchStep s.press[p]).cyc + 1 } s)) := by
  have hn := (fetchStep_of_far hfar.1 (farFrom_of_loopsFar hfar).1).1
  rw [takenAt_eq] at ht
  have hret : (fetchStep s.press[p]).next.getD ((fetchStep s.press[p]).pc + 1) + 2 = s.press[p].pc + 3 := by
    rw [hn, Option.getD_some, BitVec.add_assoc]
    rfl
  refine ⟨fun h => ?_, fun h => ?_⟩
  · rw [← hret, ← fetchStep_stack]
    rw [← fetchStep_stack] at h
    exact (if_pos ht).trans (if_neg (by omega))
  · rw [← fetchStep_pc]
    rw [← fetchStep_stack] at h
    exact (if_pos ht).trans (if_pos h)

/-- RTI goes to the place of the entry it pops, with the SR to restore (R166). -/
theorem issueCtl_rti {p : Fin 16} {f : PFrame} {l : List PFrame} (hst : s.press[p].stack = f :: l) :
    (f.kind = .call → issueCtl p .rti s = setPress p (branchPress s p (some f.pc) (some (freeWord s).1) l)
      (freeWord s).2) ∧
    (f.kind ≠ .call → issueCtl p .rti s = setPress p (branchPress s p (some f.pc) (some f.sr) l) s) := by
  have hst' : (fetchStep s.press[p]).stack = f :: l := (fetchStep_stack _).trans hst
  unfold issueCtl
  dsimp only
  rw [hst']
  exact ⟨fun h => if_pos h, fun h => if_neg h⟩

/-- The settling of the debug halt does not touch a Press before its delay slots. -/
theorem settleDbg_branch {p : Fin 16} (hi : Issues s p) (x : PressSt) {u : State} (htw : u.twin = s.twin)
    (hregs : u.regs = s.regs) :
    settleDbg p (setPress p x u) = setPress p x u := by
  obtain ⟨-, -, -, -, hdbg⟩ := hi
  refine settleDbg_eq_self fun hsolo => ?_
  refine Eq.trans (congrArg (fun m => bit (spGet resetWord m (aCTRL (pgPRESS p))) 7) hregs) (hdbg ?_)
  exact (congrArg (fun w : TwinSt => w.st == .solo) htw).symm.trans hsolo

theorem condition_lt {k : BitVec 4} (h : k ≠ 15) : decide (k.toNat < 15) = true := by
  rw [decide_eq_true_eq]
  have hne : k.toNat ≠ 15 := fun e => h (BitVec.eq_of_toNat_eq e)
  omega

section
variable {p : Fin 16} (hi : Issues s p) (hbr : s.press[p].br = none) (hfar : loopsFar s p)
include hi hbr hfar

/-- A legal branch word that leaves its Press before the slots leads to the target or straight on. -/
theorem branch_runs {c : Instr} {k : Ctl} {t : Option (BitVec 13)} {st : List PFrame} {a : BitVec 13}
    (hexec : exec c s = .next (issueCtlWord p k s)) {own : Bool}
    (hown : ctlLegal s p k = ((fetchStep s.press[p]).br.isNone && !(k.sequence && nearLoopEnd (fetchStep s.press[p]))
      && own))
    (ho : own = true) (hissue : issueCtl p k s = setPress p (branchPress s p t none st) s)
      (ha : t.getD (s.press[p].pc + 3) = a) :
    afterSlots c s p a fun v => Quietly s p v ∧ v.press[p].stack = st := by
  have hl := ctlLegal_of hbr (fun _ => not_nearEnd_of_loopsFar hfar) hown ho
  refine afterSlots_branch hi hfar (hexec.trans ?_) ha
  rw [issueCtlWord_of_legal hi hl, hissue, settleDbg_branch hi _ rfl rfl]

/-- A CALL on a full stack puts the Press in FAULTED (R167). -/
theorem call_full (hs : spWf resetWord s.regs = true) {k : BitVec 4} {a : BitVec 13} (hk : k ≠ 15)
    (ht : takenAt s p k = true)
    (hst : 8 ≤ s.press[p].stack.length) :
    Runs (.call p k a) s fun t => t.press[p].mode = .faulted ∧ OtherPresses p s t ∧
      t.press[p].stack = s.press[p].stack ∧ rget t (aPRESS_FAULTINFO p) = fld 3 28 ||| fld s.press[p].pc.toNat 0 := by
  obtain ⟨hcan, -, -, -, -⟩ := id hi
  have hl : ctlLegal s p (.call k.toNat a) = true :=
    ctlLegal_of hbr (fun _ => not_nearEnd_of_loopsFar hfar) rfl (condition_lt hk)
  let x : PressSt := { fetchStep s.press[p] with cyc := (fetchStep s.press[p]).cyc + 1 }
  have hxm : (setPress p x s).press[p].mode ≠ .faulted := by
    rw [press_setPress_same]
    exact fun h => mode_of_canIssue hcan ((fetchStep_mode _).symm.trans h)
  obtain ⟨hmode, hstack, -, hinfo, hother⟩ := enterPressFault_effect (s := setPress p x s) hs hxm 3 s.press[p].pc.toNat
  rw [press_setPress_same] at hstack
  have hset : settleDbg p (enterPressFault p 3 s.press[p].pc.toNat (setPress p x s)) =
      enterPressFault p 3 s.press[p].pc.toNat (setPress p x s) := by
    have hd : dbgStops (enterPressFault p 3 s.press[p].pc.toNat (setPress p x s)) p = false := by
      rw [dbgStops, hmode, show (PMode.faulted == PMode.run) = false by decide, Bool.and_false, Bool.false_and]
    rw [settleDbg, hd]
    exact if_neg Bool.false_ne_true
  refine ⟨_, rfl, ?_⟩
  rw [issueCtlWord_of_legal hi hl, (issueCtl_call ht hfar).2 hst, hset]
  exact ⟨hmode, fun q hq => (hother q hq).trans (press_setPress_ne s x hq), hstack.trans (fetchStep_stack _), hinfo⟩

/-- RTI: to the entry's place, its SR restored, in U4 mode with the shadow set (R166, R169). -/
theorem rti_runs {f : PFrame} {l : List PFrame} (hst : s.press[p].stack = f :: l) {sr : Word} {u : State}
    (htw : u.twin = s.twin) (hregs : u.regs = s.regs) (hclk : u.clk = s.clk) (hboot : u.boot = s.boot)
      (hfab : u.fab = s.fab)
    (hissue : issueCtl p .rti s = setPress p (branchPress s p (some f.pc) (some sr) l) u) {P : State → Prop}
    (hP : ∀ v, v = slotPress (slotPress (branchPress s p (some f.pc) (some sr) l)) → P (setPress p v u)) :
    afterSlots (.rti p) s p f.pc P := by
  have hne : (!(fetchStep s.press[p]).stack.isEmpty) = true := by
    rw [fetchStep_stack, hst]
    rfl
  have hl : ctlLegal s p .rti = true := ctlLegal_of hbr (fun _ => not_nearEnd_of_loopsFar hfar) rfl hne
  have hb := beforeSlots_branchPress hfar (some f.pc) (some sr) l
  have hcore : coreRuns u = coreRuns s := by rw [coreRuns, coreRuns, hclk, hboot]
  refine afterSlots_of (u := u) ?_ (inSlots_branchPress hi _ _ _ hcore hfab htw hregs) hb fun v hv => ?_
  · have hexec : exec (.rti p) s = .next (issueCtlWord p .rti s) := rfl
    rw [hexec, issueCtlWord_of_legal hi hl, hissue, settleDbg_branch hi _ htw hregs]
  · obtain ⟨hpc, hbr', hnext, -⟩ := slots_rti hb
    rw [← hv] at hpc hbr' hnext
    exact ⟨hpc, hbr', hnext, hP v hv⟩

end

/-- Settles O40: each word leaves its Press before two delay slots, and the second of them lets the branch take
  effect. -/
theorem branchesTakeTheirDelaySlots : Obligations.BranchesTakeTheirDelaySlots := by
  unfold Obligations.BranchesTakeTheirDelaySlots
  intro s p hc ⟨hi, hbr⟩ hfar
  refine ⟨fun k a hk ht => ⟨?_, fun hst => ?_, call_full hi hbr hfar hc.1 hk ht⟩, fun k a r hk ht =>
    ⟨?_, ?_, ?_, fun hne => ?_⟩,
    fun k r hk ht => ?_, fun k f l hk ht hst => ?_, fun f l hst hcall => ?_, fun f l hst hcall => ?_⟩
  · have hissue := issueCtl_branch (s := s) (p := p) (k := k) (a := a) (.inl rfl)
    rw [ht] at hissue
    exact branch_runs hi hbr hfar rfl rfl (condition_lt hk) hissue rfl
  · have hb := (branch_runs hi hbr hfar (c := .call p k a) (k := .call k.toNat a) (a := a) rfl rfl (condition_lt hk)
      ((issueCtl_call ht hfar).1 hst) rfl)
    obtain ⟨t, h1, u, h2, v, h3, h4, h5, h6, h7, h8⟩ := hb
    exact ⟨t, h1, u, h2, v, h3, h4, h5, h6, h7, _, h8, rfl, rfl⟩
  · have hissue := issueCtl_branch (s := s) (p := p) (k := k) (a := a) (.inl rfl)
    rw [ht] at hissue
    exact branch_runs hi hbr hfar rfl rfl (condition_lt hk) hissue rfl
  · have hissue := issueCtl_branch (s := s) (p := p) (k := k) (a := a) (.inr (.inl ⟨rfl, ht⟩))
    rw [ht] at hissue
    exact branch_runs hi hbr hfar rfl rfl (condition_lt hk) hissue rfl
  · have hissue := issueCtl_branch (s := s) (p := p) (k := k) (.inr (.inr ⟨r, rfl, rfl⟩))
    rw [ht] at hissue
    exact branch_runs hi hbr hfar rfl rfl (condition_lt hk) hissue rfl
  · obtain ⟨f, l, hst⟩ := List.exists_cons_of_ne_nil hne
    have hissue := issueCtl_rts (k := k) hst
    rw [ht] at hissue
    refine branch_runs (own := decide (k.toNat < 15) && !(fetchStep s.press[p]).stack.isEmpty) hi hbr hfar rfl rfl ?_
      hissue rfl
    rw [condition_lt hk, fetchStep_stack, hst]
    rfl
  · have hissue := issueCtl_branch (s := s) (p := p) (k := k) (.inr (.inr ⟨r, rfl, rfl⟩))
    rw [ht] at hissue
    exact branch_runs hi hbr hfar rfl rfl (condition_lt hk) hissue rfl
  · have hissue := issueCtl_rts (k := k) hst
    rw [ht] at hissue
    refine branch_runs (own := decide (k.toNat < 15) && !(fetchStep s.press[p]).stack.isEmpty) hi hbr hfar rfl rfl ?_
      hissue rfl
    rw [condition_lt hk, fetchStep_stack, hst]
    rfl
  · refine rti_runs hi hbr hfar hst (u := (freeWord s).2) rfl rfl rfl rfl rfl ((issueCtl_rti hst).1 hcall)
      fun v hv => ?_
    have hb := beforeSlots_branchPress hfar (some f.pc) (some (freeWord s).1) l
    obtain ⟨-, -, -, hstack, -⟩ := slots_rti hb
    rw [← hv] at hstack
    refine ⟨?_, setPress_otherPresses (freeWord s).2 p v, fun _ => rfl, fun q hq => ?_⟩
    · rw [press_setPress_same]
      exact hstack
    · cases q <;> first | exact absurd (by decide) hq | rfl
  · refine rti_runs hi hbr hfar hst (u := s) rfl rfl rfl rfl rfl ((issueCtl_rti hst).2 hcall) fun v hv => ?_
    have hb := beforeSlots_branchPress hfar (some f.pc) (some f.sr) l
    obtain ⟨-, -, -, hstack, hsr, hih, hla, hsh, hplain, hswap⟩ := slots_rti hb
    rw [← hv] at hstack hsr hih hla hsh hplain hswap
    have hbsh : (branchPress s p (some f.pc) (some f.sr) l).sh = s.press[p].sh := fetchStep_sh _
    have hbshadow : (branchPress s p (some f.pc) (some f.sr) l).shadow = s.press[p].shadow := fetchStep_shadow _
    rw [hbsh, hbshadow] at hplain hswap
    rw [press_setPress_same, hla]
    refine ⟨hstack, hsr, hih, rfl, rfl, hsh, setPress_otherPresses _ _ _, fun _ => rfl, setPress_keepsBut _ _ _,
      fun h => ?_, fun h => ?_⟩
    · obtain ⟨h1, h2⟩ := hplain h
      refine ⟨quietly_setPress fun hp => ?_, h1⟩
      obtain ⟨hp', hd⟩ := branchPress_data (some f.pc) (some f.sr) l hp
      exact (h2 hp').trans hd
    · obtain ⟨h1, h2, h3, h4⟩ := hswap h
      refine ⟨h1, h2, h3, fun hp => ?_⟩
      have hr : (fun r : PressRegs => (r.sr, r.d, r.ac, r.p)) (fetchStep s.press[p]).r =
          (fun r => (r.sr, r.d, r.ac, r.p)) s.press[p].r :=
        fetchStep_proj (fun r => (r.sr, r.d, r.ac, r.p)) (fun _ _ => rfl) fun _ hw => absurd (hp ▸ hw) List.not_mem_nil
      simp only [Prod.mk.injEq] at hr
      obtain ⟨k1, k2, k3, k4⟩ := hr
      have h4 := h4 (pend_fetchStep_nil hp)
      have hbr' : (branchPress s p (some f.pc) (some f.sr) l).r = (fetchStep s.press[p]).r := rfl
      rw [hbr', k1, k2, k3, k4] at h4
      exact h4

end Sys2Proof.Machine
end

section
/-!
PROOFS. Loops, moves and flows: O38, O39, O41 and O47 (chapters 05 to 08).
-/

-- One declaration after another: side by side, the stacks of the threads exceed what memory the check allows.
set_option Elab.async false

namespace Sys2Proof.Machine

variable {s : State}

/-! ### O41: a LOOP behind a read of its count -/

/-- A running Press at address 0 with a MOVS of LC0 to D0 in flight, later than a MOVS just before could have left
  it. -/
def countReadPress : PressSt :=
  { PressSt.reset with mode := .run, wait := false, pend := [⟨4, .d 0, 0xFFFFFFFF#72, 0, some (.count 0)⟩] }

/-- A device in operation with that Press as its first. -/
def countRead : State :=
  { operating with press := operating.press.set 0 countReadPress, clk := { ClockSt.reset with coreGated := false } }

theorem atCtl_countRead : atCtl countRead 0 :=
  ⟨⟨by decide, by decide, by decide, by decide, by decide⟩, by decide⟩

/-- The new count, on its way, reaches the MOVS before it. -/
theorem seenAt_issueCtl_loop_countRead : seenAt (issueCtl 0 (.loop 5 3) countRead).press[0] 6 (.d 0) = 5#72 := by decide

theorem ctlAt_countRead : ctlAt countRead 0 6 (.d 0) = 0#72 := by decide

/-- Refutes O41: the statement does not ask that what is in flight came from words before, and a LOOP then changes
  what a
MOVS of its count reads. -/
theorem not_loopsAndRepeats : ¬ Obligations.LoopsAndRepeats := by
  intro h
  obtain ⟨-, -, -, hloop, -⟩ := h countRead 0 (by decide) atCtl_countRead
  obtain ⟨t, ht, -, -, -, -, -, hkeeps, -⟩ := hloop ((nearLoopEnd_iff _ _).not.1 (by decide)) (by decide) 5 0 3 0
    (by decide) (by decide) _ _ (.inl ⟨rfl, rfl⟩)
  have hrun : settleDbg 0 (issueCtl 0 (.loop 5 3) countRead) = t :=
    Host.Outcome.next.inj (((congrArg Host.Outcome.next (issueCtlWord_of_legal atCtl_countRead.1
      (by decide))).symm).trans ht)
  have hsame := hkeeps (.d 0) 6 (by decide)
  rw [← hrun, settleDbg_eq_self (by decide), newAt, ctlAt_countRead] at hsame
  exact absurd (seenAt_issueCtl_loop_countRead.symm.trans hsame) (by decide)

/-! ### O38 and O39: a pointer on its way that is wider than its register -/

/-- A Press at address 0 with 2^20 on its way to P0, which holds 20 bits. -/
def widePointerPress : PressSt :=
  { PressSt.reset with mode := .run, wait := false, pend := [⟨1, .p 0, BitVec.allOnes 72, 0x100000#72, none⟩] }

/-- A device in operation with that Press as its first. -/
def widePointer : State :=
  { operating with press := operating.press.set 0 widePointerPress, clk := { ClockSt.reset with coreGated := false } }

theorem issues_widePointer : Issues widePointer 0 := ⟨by decide, by decide, by decide, by decide, by decide⟩

/-- The store of P0 to X word 0. -/
def storePointer : MoveArgs := { y := false, mode := 0, pn := 1, reg := 32, pair := false, other := 0 }

/-- The move of P0 to D0. -/
def movePointer : MoveRegArgs := { y := false, reg := 0, src := 32, other := 0 }

theorem readsAs_widePointer : readsAs widePointer 0 32 0 := by
  refine ⟨fun i h => ?_, fun i h => ?_, fun i h => ?_, fun i h => ?_, fun i h => ?_, fun i h => ?_, fun i h => ?_,
    fun i h => ?_,
    fun i h => ?_⟩
  case refine_6 =>
    obtain rfl : i = 0 := Fin.ext (by simpa using h.symm)
    decide
  all_goals exact absurd h (by have := i.isLt; simp; omega)

/-- The whole of what is on its way is stored. -/
theorem rdWord_storePointer :
    rdWord (pressIssue 0 (issueFields 0 false 0 (moveFields false (moveField 2 0 1 32 0) 0)) widePointer) (xAddr 0 0)
      = 0x100000#32 := by
  decide

theorem newAt_movePointer :
    newAt widePointer (pressIssue 0 (issueFields 0 false 0 (moveFields false (moveField 3 0 0 0 32) 0)) widePointer)
      0 5 (.d 0) =
      0x100000#72 := by
  decide

/-- Refutes O38: the statement does not ask that what is on its way fits its register, and a store takes all of it. -/
theorem not_loadsAndStores : ¬ Obligations.LoadsAndStores := by
  intro h
  obtain ⟨-, hstore⟩ := h
  obtain ⟨t, ht, hword, -⟩ := hstore widePointer 0 storePointer 1 0 0 0 (by decide) issues_widePointer (by decide)
    (by decide)
    (by decide) (by decide) (by decide) readsAs_widePointer (fun h => absurd h (by decide))
  cases ht
  exact absurd (rdWord_storePointer.symm.trans (hword (by decide) (by decide) (by decide)).1) (by decide)

/-- Refutes O39: the statement does not ask that what is on its way fits its register, and a register move takes all
  of it. -/
theorem not_registerAndLongMoves : ¬ Obligations.RegisterAndLongMoves := by
  intro h
  obtain ⟨hmove, -⟩ := h
  obtain ⟨t, ht, hwrote, -⟩ := hmove widePointer 0 movePointer 0 (by decide) issues_widePointer (by decide)
    readsAs_widePointer
  cases ht
  obtain ⟨hd, -⟩ := hwrote (by decide)
  exact absurd (newAt_movePointer.symm.trans (hd 0 rfl)) (by decide)

/-! ### O47: an entry that is shorter than its window -/

/-- A SOLO device in operation whose committed receive entry 0 has no word. -/
def shortEntry : State :=
  { operating with
    boot := { BootSt.reset with held := .none, run := true }
    twin := { TwinSt.reset with st := .solo }
    net := { NetSt.reset with rxE := [(0, [])] } }

/-- The write of SEL that chooses entry 0. -/
def selectFirst : HW := { lvl := 0, be := 0xF, v := 0 }

theorem accepted_selectFirst : Accepted shortEntry aSTREAMRX_SEL selectFirst := by decide +kernel

theorem selOf_selectFirst : selOf (writeAt aSTREAMRX_SEL selectFirst shortEntry) false = 0 := by decide +kernel

/-- Refutes O47: the statement does not ask that the committed entries have ten words, and a SEL write loads what
  there is. -/
theorem not_audioFlows : ¬ Obligations.AudioFlows := by
  intro h
  obtain ⟨-, -, -, -, -, -, -, hsel, -⟩ := h
  obtain ⟨t, ht, -, hwin, -⟩ := hsel shortEntry false selectFirst (by decide) accepted_selectFirst
  cases ht
  have hnone : flowEntry shortEntry false (selOf (writeAt aSTREAMRX_SEL selectFirst shortEntry) false) = [] := by
    rw [selOf_selectFirst]
    decide
  have hlen : (winRead _ false).length = 0 := congrArg List.length (hwin.trans hnone)
  rw [winRead, List.length_map, List.length_range] at hlen
  exact absurd hlen (by decide)

end Sys2Proof.Machine
end

section
/-!
PROOFS. The words and bytes that stores leave, the PTP rings; the last check bit of a word.
-/

-- One declaration after another: side by side, the stacks of the threads exceed what memory the check allows.
set_option Elab.async false

namespace Sys2Proof.Machine

variable {s : State}

/-! ### O59: a flip of the last check bit is not repaired -/

/-- An address of Press local memory, the first word that the Skimmer visits. -/
abbrev firstSkimmed : Nat := 0x400000

/-- A device in operation whose Skimmer runs, with the last check bit of its first word flipped. -/
def lastCheckBitFlipped : State :=
  { operating with
    regs := [(aECC_CFG, 1), (aECC_SKIMCFG, 1)]
    cistern := { CistSt.reset with st := .normal }
    clk := { ClockSt.reset with coreGated := false }
    fab := { FabSt.reset with flips := [(firstSkimmed, 2 ^ 38)] } }


/-- The Skimmer's visit leaves the word with all its bits inverted, which no rewrite corrects. -/
theorem flipsAt_skimStep_lastCheckBit :
    flipsAt (awake (skimStep false) lastCheckBitFlipped) firstSkimmed = 2 ^ 39 - 1 := by decide +kernel

theorem skimUnit_first : skimUnit lastCheckBitFlipped.fab.skimS = some firstSkimmed := by decide

/-- With syndrome 0 the residual is `2 ^ 38 ^^^ (2 ^ 39 - 1)`: all 39 bits of the code word are inverted, where the last
check bit alone was meant. -/
theorem eccOut_flipsAt_first :
    eccOut (keyCist (keyOf firstSkimmed)) (flipsAt lastCheckBitFlipped firstSkimmed) = .corr (2 ^ 38 - 1) := by
      decide +kernel

theorem skims_lastCheckBitFlipped :
    skims lastCheckBitFlipped (rfld lastCheckBitFlipped aECC_SKIMCFG 15 0) := by
  refine ⟨by decide, by decide, by decide, by decide⟩

/-- Refutes O59: a word with one flip, of its last check bit, is correctable, and the Skimmer does not correct it. -/
theorem not_fabricEccAndSense : ¬ Obligations.FabricEccAndSense := by
  intro h
  obtain ⟨-, -, -, -, -, -, -, hskim, -⟩ := h
  obtain ⟨-, hstep⟩ := hskim lastCheckBitFlipped (by decide) skims_lastCheckBitFlipped
  obtain ⟨t, ht, -, -, hscrub, -⟩ := hstep (by simp [lastCheckBitFlipped])
  cases ht
  have hzero := hscrub firstSkimmed skimUnit_first firstSkimmed List.mem_cons_self (2 ^ 38 - 1) eccOut_flipsAt_first
  exact absurd (flipsAt_skimStep_lastCheckBit.symm.trans hzero) (by decide)

/-! ### Words and bytes that stand in memory -/

theorem rdWord_stWords (l : List Word) : ∀ {s : State} (a i : Nat), Memory.wf s.mem → i < l.length →
    rdWord (stWords a l s) (a + 4 * i) = l.getD i 0 := by
  induction l with
  | nil => intro s a i _ hi; exact absurd hi (Nat.not_lt_zero i)
  | cons v t ih =>
    intro s a i hs hi
    rw [stWords]
    cases i with
    | zero =>
      rw [rdWord_congr fun b hb hb' => rdByte_stWords_ne t (a + 4) _ (by omega)]
      exact rdWord_stWord hs a v
    | succ i =>
      rw [show a + 4 * (i + 1) = a + 4 + 4 * i
        by omega, ih (a + 4) i (stWord_mem_wf hs a v) (Nat.lt_of_succ_lt_succ hi)]
      rfl

theorem rdWords_eq_map (s : State) (n : Nat) : ∀ a, rdWords s a n = (List.range n).map fun i => rdWord s
    (a + 4 * i) := by
  induction n with
  | zero => intro a; rfl
  | succ n ih =>
    intro a
    rw [rdWords, ih, List.range_succ_eq_map, List.map_cons, List.map_map]
    congr 1
    exact List.map_congr_left fun i _ => congrArg (rdWord s) (by simp only [Nat.succ_eq_add_one]; omega)

theorem rdWords_congr {t : State} {a n : Nat} (h : ∀ b, a ≤ b → b < a + 4 * n → rdByte t b = rdByte s b) :
    rdWords t a n = rdWords s a n := by
  rw [rdWords_eq_map, rdWords_eq_map]
  exact List.map_congr_left fun i hi => by
    have hi' := List.mem_range.1 hi
    exact rdWord_congr fun b hb hb' => h b (by omega) (by omega)

theorem rdWords_stWords (hs : Memory.wf s.mem) (a : Nat) (l : List Word) : rdWords (stWords a l s) a l.length = l := by
  rw [rdWords_eq_map]
  apply List.ext_getElem
  · simp
  · intro i h1 h2
    rw [List.getElem_map, List.getElem_range, rdWord_stWords l a i hs h2, List.getD_eq_getElem _ _ h2]

theorem rdByte_stWord (hs : Memory.wf s.mem) (a : Nat) (v : Word) {j : Nat} (hj : j < 4) :
    rdByte (stWord a v s) (a + j) = v.extractLsb' (8 * j) 8 := by
  obtain ⟨h0, h1, h2, h3⟩ := rdByte_wrWord hs a v
  rw [stWord, rdByte_freshen]
  interval_cases j
  exacts [h0, h1, h2, h3]

theorem rdByte_stWords (l : List Word) : ∀ {s : State} (a i : Nat), Memory.wf s.mem → i < 4 * l.length →
    rdByte (stWords a l s) (a + i) = (l.getD (i / 4) 0).extractLsb' (8 * (i % 4)) 8 := by
  induction l with
  | nil => intro s a i _ hi; exact absurd hi (Nat.not_lt_zero i)
  | cons v t ih =>
    intro s a i hs hi
    rw [stWords]
    by_cases h : i < 4
    · rw [rdByte_stWords_ne t (a + 4) _ (by omega), rdByte_stWord hs a v h, Nat.div_eq_of_lt h, Nat.mod_eq_of_lt h]
      rfl
    · obtain ⟨k, rfl⟩ := Nat.exists_eq_add_of_le (Nat.not_lt.1 h)
      rw [List.length_cons] at hi
      rw [show a + (4 + k) = a + 4 + k by omega, ih (a + 4) k (stWord_mem_wf hs a v) (by omega),
        show (4 + k) / 4 = k / 4 + 1 by omega, show (4 + k) % 4 = k % 4 by omega]
      rfl

theorem extract_ofLe (l : List Byte) {j : Nat} (hj : j < 4) (hl : l.length ≤ 4) :
    (w32 (ofLe l)).extractLsb' (8 * j) 8 = l.getD j 0 := by
  apply BitVec.eq_of_toNat_eq
  match l, hl with
  | [], _ => interval_cases j <;> rfl
  | [b], _ =>
    have := b.isLt
    interval_cases j <;> simp [ofLe, w32, Nat.shiftRight_eq_div_pow] <;> omega
  | [b, c], _ =>
    have := b.isLt
    have := c.isLt
    interval_cases j <;> simp [ofLe, w32, Nat.shiftRight_eq_div_pow] <;> omega
  | [b, c, d], _ =>
    have := b.isLt
    have := c.isLt
    have := d.isLt
    interval_cases j <;> simp [ofLe, w32, Nat.shiftRight_eq_div_pow] <;> omega
  | [b, c, d, e], _ =>
    have := b.isLt
    have := c.isLt
    have := d.isLt
    have := e.isLt
    interval_cases j <;> simp [ofLe, w32, Nat.shiftRight_eq_div_pow] <;> omega

/-- Bytes that are stored in whole words are read back. -/
theorem rdByte_stWords_packBytes (hs : Memory.wf s.mem) (a : Nat) {l : List Byte} (hl : l.length % 4 = 0) {i : Nat}
    (hi : i < l.length) : rdByte (stWords a (packBytes l) s) (a + i) = l.getD i 0 := by
  have hlen : (packBytes l).length = l.length / 4 := by simp [packBytes]
  have hq : i / 4 < l.length / 4 := by omega
  have hw : (packBytes l).getD (i / 4) 0 = w32 (ofLe ((l.drop (4 * (i / 4))).take 4)) := by
    rw [List.getD_eq_getElem _ _ (by omega)]
    simp [packBytes]
  rw [rdByte_stWords _ a i hs (by omega), hw, extract_ofLe _ (Nat.mod_lt i (by decide)) (by simp)]
  have hm : i % 4 < 4 := Nat.mod_lt i (by decide)
  simp only [List.getD_eq_getElem?_getD, List.getElem?_take_of_lt hm, List.getElem?_drop, Nat.div_add_mod]

/-! ### Frames of stored words -/

theorem within_stWord (a : Nat) (v : Word) (s : State) :
    Within [.regs, .mem, .fab] (· = aISTAT pgECC) s (stWord a v s) := by
  have hw : Within [.mem] (fun _ => False) s (wrWord a v s) :=
    ⟨fun p hp => by cases p <;> first | rfl | exact absurd (by decide) hp, fun _ _ => rfl⟩
  exact (hw.mono (by decide) fun _ h => h.elim).trans ((within_freshen a _).mono (by decide) fun _ h => h)

theorem within_stWords (l : List Word) : ∀ (a : Nat) (s : State),
    Within [.regs, .mem, .fab] (· = aISTAT pgECC) s (stWords a l s) := by
  induction l with
  | nil => intro a s; exact .refl ..
  | cons v t ih => intro a s; exact (within_stWord a v s).trans (ih _ _)

theorem Within.stWords {l : List Part} {A : Nat → Prop} {t : State} (h : Within l A s t) (a : Nat) (ws : List Word)
    (hl : ∀ p ∈ [Part.regs, .mem, .fab], p ∈ l := by decide) (hA : A (aISTAT pgECC) := by decide) :
    Within l A s (stWords a ws t) :=
  h.trans ((within_stWords ws a t).mono hl fun _ hb => hb ▸ hA)

theorem Within.stWord {l : List Part} {A : Nat → Prop} {t : State} (h : Within l A s t) (a : Nat) (v : Word)
    (hl : ∀ p ∈ [Part.regs, .mem, .fab], p ∈ l := by decide) (hA : A (aISTAT pgECC) := by decide) :
    Within l A s (stWord a v t) :=
  h.trans ((within_stWord a v t).mono hl fun _ hb => hb ▸ hA)

theorem rfld_rput (h : spWf resetWord s.regs = true) (a : Nat) {hi lo : Nat} (hh : hi < 32) (v : Nat) :
    rfld (rput a hi lo v s) a hi lo = v % 2 ^ (hi + 1 - lo) := by
  rw [rfld, rput, rget_rset_same h, bits_setBits_same _ hh]

theorem rget_rput_ne (s : State) {a b : Nat} (hi lo v : Nat) (h : b ≠ a) : rget (rput a hi lo v s) b = rget s b :=
  rget_rset_ne s _ h

/-! ### O49: the receive ring -/

/-- Word 0 of a receive slot (Table 09-3): the length and what is known of the message. -/
def rxWord0 (u : State) (m : PtpMsg) : Word :=
  fld m.bytes.length 16 ||| fld ((m.bytes.headD 0).toNat % 16) 12 ||| fld m.port 8 ||| flg (m.bytes.length > 192) 4
    ||| flg m.udp 3 ||| flg u.ptp.run 1 ||| flg u.ptp.run 0

/-- What is added to the ingress time: the latency of the port and its adjustment. -/
def rxOfs (s : State) (m : PtpMsg) : Int := -(rxLat s m.port : Int) - sgn 32 (rget s (aPTP_PORTADJ_RX m.port)).toNat

/-- The header of a receive slot. -/
def rxHead (u : State) (m : PtpMsg) : List Word :=
  [rxWord0 u m] ++ stampWords u.ptp.t0 (rxOfs u m) ++ stampWords u.ptp.t1 (rxOfs u m)
    ++ [match m.tag with | some t => fld 1 16 ||| fld t.toNat 0 | none => 0, w32 m.smac.toNat,
      w32 (m.smac.toNat / 2 ^ 32), if m.udp then m.sip else 0, 0, 0, 0, 0, 0]

/-- The bytes of a message that a slot holds, in whole words. -/
def rxBody (m : PtpMsg) : List Byte :=
  m.bytes.take 192 ++ List.replicate ((4 - (m.bytes.take 192).length % 4) % 4) 0

/-- The slot of a message is filled. -/
def rxFilled (u : State) (m : PtpMsg) : State :=
  stWords (rxSlotAt u + 64) (packBytes (rxBody m)) (stWords (rxSlotAt u) (rxHead u m) u)

theorem ptpRx_stored (m : PtpMsg) (hen : enOf s pgPTP = true)
    (hroom : (rfld s aPTP_RX_PROD 15 0 + 65536 - rfld s aPTP_RX_CONS 15 0) % 65536 ≠ rxSlots s) :
    ptpRx m s = iset pgPTP 0 (rput aPTP_RX_PROD 15 0 ((rfld s aPTP_RX_PROD 15 0 + 1) % 65536)
      (rxFilled (advance m.tcap s) m)) := by
  have hen' : enOf (advance m.tcap s) pgPTP = true := (rbit_advance ..).trans hen
  have hslots : rxSlots (advance m.tcap s) = rxSlots s := by simp [rxSlots]
  unfold ptpRx
  simp only [hen', not_true_eq_false, if_false, rfld_advance, hslots, if_neg hroom]
  simp only [rxFilled, rxHead, rxWord0, rxBody, rxSlotAt, rxOfs, rfld_advance, hslots] <;> rfl

theorem ptpRx_dropped (m : PtpMsg) (hen : enOf s pgPTP = true)
    (hfull : (rfld s aPTP_RX_PROD 15 0 + 65536 - rfld s aPTP_RX_CONS 15 0) % 65536 = rxSlots s) :
    ptpRx m s = iset pgPTP 1 (cnt aPTP_RX_DROP (advance m.tcap s)) := by
  have hen' : enOf (advance m.tcap s) pgPTP = true := (rbit_advance ..).trans hen
  have hslots : rxSlots (advance m.tcap s) = rxSlots s := by simp [rxSlots]
  unfold ptpRx
  simp only [hen', not_true_eq_false, if_false, rfld_advance, hslots, if_pos hfull]

theorem length_rxHead (u : State) (m : PtpMsg) : (rxHead u m).length = 16 := rfl

theorem length_rxBody (m : PtpMsg) : (rxBody m).length % 4 = 0 ∧ (rxBody m).length ≤ 192 ∧
    min 192 m.bytes.length ≤ (rxBody m).length := by
  simp only [rxBody, List.length_append, List.length_replicate, List.length_take]
  omega

theorem length_packBytes (l : List Byte) : (packBytes l).length = l.length / 4 := by simp [packBytes]

theorem rxSlotAt_advance (x : Nat) (s : State) : rxSlotAt (advance x s) = rxSlotAt s := by simp [rxSlotAt, rxSlots]

/-- A filled slot: header, bytes, and memory outside the slot. -/
theorem rxFilled_mem (u : State) (hu : Memory.wf u.mem) (m : PtpMsg) :
    (∀ i, i < 16 → rdWord (rxFilled u m) (rxSlotAt u + 4 * i) = (rxHead u m).getD i 0) ∧
      (∀ i, i < min 192 m.bytes.length → rdByte (rxFilled u m) (rxSlotAt u + 64 + i) = m.bytes.getD i 0) ∧
      ∀ a, (a < rxSlotAt u ∨ rxSlotAt u + 256 ≤ a) → rdByte (rxFilled u m) a = rdByte u a := by
  obtain ⟨h4, h192, hmin⟩ := length_rxBody m
  refine ⟨fun i hi => ?_, fun i hi => ?_, fun a ha => ?_⟩
  · rw [rxFilled, rdWord_congr fun b hb hb' => rdByte_stWords_ne _ _ _ (by omega)]
    exact rdWord_stWords _ _ i hu hi
  · rw [rxFilled, rdByte_stWords_packBytes (stWords_mem_wf _ _ hu) _ h4 (by omega), rxBody,
      List.getD_append _ _ _ _ (by rw [List.length_take]; omega)]
    simp only [List.getD_eq_getElem?_getD, List.getElem?_take_of_lt (Nat.lt_of_lt_of_le hi (Nat.min_le_left ..))]
  · rw [rxFilled, rdByte_stWords_ne _ _ _ (by rw [length_packBytes]; omega),
      rdByte_stWords_ne _ _ _ (by rw [length_rxHead]; omega)]

theorem bits_rxWord0 (u : State) (m : PtpMsg) : bits (rxWord0 u m) 31 16 = m.bytes.length % 65536 ∧
    bit (rxWord0 u m) 0 = u.ptp.run := by
  constructor
  · apply Nat.eq_of_testBit_eq
    intro i
    rw [bits, show (65536 : Nat) = 2 ^ 16 from rfl, Nat.testBit_mod_two_pow, Nat.testBit_mod_two_pow,
      Nat.testBit_shiftRight]
    by_cases hi : i < 16
    · have hmod : (m.bytes.headD 0).toNat % 16 < 2 ^ 4 := by omega
      have htype : ((m.bytes.headD 0).toNat % 16).testBit (16 + i - 12) = false :=
        Nat.testBit_lt_two_pow (hmod.trans_le (Nat.pow_le_pow_right (show 0 < 2 by decide) (by omega)))
      have hport : m.port.val.testBit (16 + i - 8) = false :=
        Nat.testBit_lt_two_pow (m.port.isLt.trans_le (Nat.pow_le_pow_right
          (show 0 < 2 by decide) (by omega : 1 ≤ 16 + i - 8)))
      have hb : bit (rxWord0 u m) (16 + i) = m.bytes.length.testBit i := by
        simp only [rxWord0, bit_or, bit_fld (show 16 + i < 32 by omega), bit_flg _ _ _ (show 16 + i < 32 by omega),
          htype, hport]
        simp [show 4 ≠ 16 + i by omega, show 3 ≠ 16 + i by omega, show 1 ≠ 16 + i by omega, show 0 ≠ 16 + i by omega]
      have hb' : (rxWord0 u m).toNat.testBit (16 + i) = m.bytes.length.testBit i := hb
      rw [hb']
    · simp [hi]
  · simp [rxWord0, bit_or, bit_fld, bit_flg]

theorem ptpRun_advance (x : Nat) (s : State) : (advance x s).ptp.run = s.ptp.run := by
  unfold advance
  split
  · rfl
  · split <;> rfl

theorem ptpRx_effect (hs : Canonical s) (hl : Live s) (m : PtpMsg) (hen : enOf s pgPTP = true)
    (hroom : (rfld s aPTP_RX_PROD 15 0 + 65536 - rfld s aPTP_RX_CONS 15 0) % 65536 ≠ rxSlots s) :
    let u := advance m.tcap s
    let ofs : Int := -(rxLat s m.port : Int) - sgn 32 (rget s (aPTP_PORTADJ_RX m.port)).toNat
    Runs (.ptpRx m) s fun t => rfld t aPTP_RX_PROD 15 0 = (rfld s aPTP_RX_PROD 15 0 + 1) % 65536 ∧
      rbit t (aISTAT pgPTP) 0 = true ∧ (∀ i, i < min 192 m.bytes.length → rdByte t (rxSlotAt s + 64 + i) =
        m.bytes.getD i 0) ∧
      bits (rdWord t (rxSlotAt s)) 31 16 = m.bytes.length % 65536 ∧ bit (rdWord t (rxSlotAt s)) 0 = s.ptp.run ∧
      rdWords t (rxSlotAt s + 4) 6 = stampWords u.ptp.t0 ofs ++ stampWords u.ptp.t1 ofs ∧
      (∀ a, (a < rxSlotAt s ∨ rxSlotAt s + 256 ≤ a) → rdByte t a = rdByte s a) ∧ KeepsBut
        [.now, .ptp, .regs, .mem, .fab] s t ∧
      RegsOnly [aPTP_RX_PROD, aISTAT pgPTP, aISTAT pgECC] s t := by
  intro u ofs
  refine ⟨_, rfl, ?_⟩
  rw [awake_run _ hl, ptpRx_stored m hen hroom]
  have hadv : Within [.now, .ptp] (fun _ => False) s u := within_advance ..
  have humem : u.mem = s.mem := hadv.1 .mem (by decide)
  have hu : Memory.wf u.mem := humem ▸ hs.2.1
  obtain ⟨hhead, hbytes, hrest⟩ := rxFilled_mem u hu m
  rw [show rxSlotAt u = rxSlotAt s from rxSlotAt_advance ..] at hhead hbytes hrest
  have hrun : u.ptp.run = s.ptp.run := ptpRun_advance ..
  set f := rxFilled u m with hf
  have hwin : Within [.now, .ptp, .regs, .mem, .fab] (· ∈ [aPTP_RX_PROD, aISTAT pgPTP, aISTAT pgECC]) s
      (iset pgPTP 0 (rput aPTP_RX_PROD 15 0 ((rfld s aPTP_RX_PROD 15 0 + 1) % 65536) f)) :=
    ((((hadv.mono (by decide) fun _ h => h.elim).stWords ..).stWords ..).rput ..).iset ..
  have hfwf : spWf resetWord f.regs = true := stWords_regs_wf _ _
      (stWords_regs_wf _ _ (by rw [advance_regs]; exact hs.1))
  obtain ⟨h16, h0⟩ := bits_rxWord0 u m
  have hw0 : rdWord f (rxSlotAt s) = rxWord0 u m := hhead 0 (by decide)
  refine ⟨?_, rbit_iset (rput_regs_wf hfwf ..) _
    (by decide), hbytes, ?_, ?_, ?_, fun a ha => (hrest a ha).trans ?_, ?_, ?_⟩
  · rw [rfld, rget_iset_ne _ _ _ (by decide)]
    exact (rfld_rput hfwf _ (by decide) _).trans (by omega)
  · exact (congrArg (bits · 31 16) hw0).trans h16
  · exact (congrArg (bit · 0) hw0).trans (h0.trans hrun)
  · have hofs : rxOfs u m = ofs := by simp [rxOfs, u, ofs, rxLat, netMode]
    have hwords : rdWords f (rxSlotAt s + 4) 6 = (List.range 6).map fun i => (rxHead u m).getD (i + 1) 0 := by
      rw [rdWords_eq_map]
      refine List.map_congr_left fun i hi => ?_
      have := List.mem_range.1 hi
      rw [← hhead (i + 1) (by omega), show rxSlotAt s + 4 * (i + 1) = rxSlotAt s + 4 + 4 * i by omega]
    rw [← hofs]
    exact (rdWords_congr fun _ _ _ => rfl).trans hwords
  · exact congrArg (spGet memReset · a) humem
  · exact hwin.1
  · exact hwin.2

/-! ### O49: the transmit ring -/

/-- What is added to the egress time. -/
def slotOfs (s : State) (n : Fin 2) : Int := txLat s n + sgn 32 (rget s (aPTP_PORTADJ_TX n)).toNat

/-- The port of the next transmit slot. -/
def slotPort (s : State) : Fin 2 := Fin.ofNat 2 (bits (rdWord s (txSlotAt s)) 9 8)

/-- The egress time that the next transmit slot takes. -/
def slotStamp (s : State) : List Word :=
  stampWords (ctrOf s (bit (rdWord s (txSlotAt s)) 6)) (slotOfs s (slotPort s))

/-- The bytes of the next transmit slot as they were written. -/
def slotPut (s : State) : List Byte := rdBytes s (txSlotAt s + 64) (bits (rdWord s (txSlotAt s)) 31 16)

/-- The bytes of the next transmit slot as they are sent. -/
def slotBytes (s : State) : List Byte := if bit (rdWord s (txSlotAt s)) 4 then oneStepBytes (slotStamp s) (slotPut s)
    else slotPut s

/-- The next transmit slot cannot be sent. -/
def slotMarked (s : State) : State :=
  iset pgPTP 3 (cnt aPTP_TX_ERR (stWord (txSlotAt s) ((rdWord s (txSlotAt s) ||| flg true 15) ||| flg true 14) s))

/-- The next transmit slot is sent. -/
def slotSent (s : State) : State :=
  let s2 := sendPkt (slotPort s) s.now (ptpPkt s (txSlotAt s) (slotPort s) (slotBytes s)) s
  stWord (txSlotAt s) (rdWord s (txSlotAt s) ||| flg true 15)
    (if bit (rdWord s (txSlotAt s)) 5 then stWords (txSlotAt s + 20) (slotStamp s) s2 else s2)

/-- What keeps the next transmit slot from being sent, as the device finds it. -/
def slotStopped (s : State) (ok : Bool) : Bool :=
  let w0 := rdWord s (txSlotAt s)
  decide (bits w0 31 16 < 34) || decide (bits w0 31 16 > 192) || !s.net.link[slotPort s].up
    || (bit w0 4 && !decide (((slotPut s).headD 0).toNat % 16 = 0))
    || (!activeOrSolo s && decide ((rdWord s (txSlotAt s + 4)).toNat + 2 ^ 32 * bits (rdWord s (txSlotAt s + 8)) 15 0
      ≠ pdelayMac.toNat))
    || !ok

theorem ptpSlotSent_eq (ok : Bool) (hen : enOf s pgPTP = true)
    (hne : rfld s aPTP_TX_PROD 15 0 ≠ rfld s aPTP_TX_CONS 15 0) :
    ptpSlotSent ok s = iset pgPTP 2 (rput aPTP_TX_CONS 15 0 ((rfld s aPTP_TX_CONS 15 0 + 1) % 65536)
      (if slotStopped s ok then slotMarked s else slotSent s)) := by
  unfold ptpSlotSent
  simp only [hen, not_true_eq_false, false_or, if_neg hne] <;> rfl

theorem length_rdBytes (s : State) (n : Nat) : ∀ a, (rdBytes s a n).length = n := by
  induction n with
  | zero => intro a; rfl
  | succ n ih => intro a; rw [rdBytes, List.length_cons, ih]

theorem slotStopped_iff (ok : Bool) : slotStopped s ok = true ↔ slotBad s (txSlotAt s) (rdWord s (txSlotAt s)) ok := by
  have hhead : 0 < bits (rdWord s (txSlotAt s)) 31 16 → (slotPut s).headD 0 = rdByte s (txSlotAt s + 64) := by
    intro h
    unfold slotPut
    obtain ⟨n, hn⟩ := Nat.exists_eq_succ_of_ne_zero h.ne'
    rw [hn]
    rfl
  by_cases hlen : bits (rdWord s (txSlotAt s)) 31 16 < 34
  · simp [slotStopped, slotBad, hlen]
  · simp only [slotStopped, slotBad, hhead (by omega), slotPort, pdelayMac]
    simp
    tauto

theorem ptpSlotSent_bad (hs : Canonical s) (hl : Live s) (ok : Bool) (hen : enOf s pgPTP = true)
    (hne : rfld s aPTP_TX_PROD 15 0 ≠ rfld s aPTP_TX_CONS 15 0)
    (hbad : slotBad s (txSlotAt s) (rdWord s (txSlotAt s)) ok) :
    Runs (.ptpSlotSent ok) s fun t => rfld t aPTP_TX_CONS 15 0 = (rfld s aPTP_TX_CONS 15 0 + 1) % 65536 ∧
      rget t aPTP_TX_ERR = rget s aPTP_TX_ERR + 1 ∧ bit (rdWord t (txSlotAt s)) 15 = true ∧ bit
        (rdWord t (txSlotAt s)) 14 = true ∧
      rbit t (aISTAT pgPTP) 3 = true ∧ rbit t (aISTAT pgPTP) 2 = true ∧ KeepsBut [.regs, .mem, .fab] s t ∧
      (∀ b, (b < txSlotAt s ∨ txSlotAt s + 4 ≤ b) → rdByte t b = rdByte s b) ∧
      RegsOnly [aPTP_TX_CONS, aPTP_TX_ERR, aISTAT pgPTP, aISTAT pgECC] s t := by
  refine ⟨_, rfl, ?_⟩
  rw [awake_run _ hl, ptpSlotSent_eq ok hen hne, if_pos ((slotStopped_iff ok).2 hbad)]
  have hwin : Within [.regs, .mem, .fab] (· ∈ [aPTP_TX_CONS, aPTP_TX_ERR, aISTAT pgPTP, aISTAT pgECC]) s
      (iset pgPTP 2 (rput aPTP_TX_CONS 15 0 ((rfld s aPTP_TX_CONS 15 0 + 1) % 65536) (slotMarked s))) :=
    (((((Within.refl _ _ s).stWord ..).cnt 1).iset 3).rput ..).iset 2
  set u := stWord (txSlotAt s) ((rdWord s (txSlotAt s) ||| flg true 15) ||| flg true 14) s with hu
  have huwf : spWf resetWord u.regs = true := stWord_regs_wf hs.1 ..
  have hmwf : spWf resetWord (slotMarked s).regs = true := iset_regs_wf (cnt_regs_wf huwf ..) ..
  have hword : rdWord u (txSlotAt s) = (rdWord s (txSlotAt s) ||| flg true 15) ||| flg true 14 := rdWord_stWord
      hs.2.1 ..
  have hrput := rput_regs_wf hmwf aPTP_TX_CONS 15 0 ((rfld s aPTP_TX_CONS 15 0 + 1) % 65536)
  refine ⟨?_, ?_, ?_, ?_, ?_, rbit_iset hrput _ (by decide), hwin.1, fun b hb => ?_, hwin.2⟩
  · rw [rfld, rget_iset_ne _ _ _ (by decide)]
    exact (rfld_rput hmwf _ (by decide) _).trans (by omega)
  · rw [rget_iset_ne _ _ _ (by decide), rget_rput_ne _ _ _ _ (by decide), slotMarked, rget_iset_ne _ _ _ (by decide),
      rget_cnt huwf, rget_stWord_ne _ _ _ (by decide)]
    rfl
  · exact (congrArg (bit · 15) hword).trans (by simp [bit_or, bit_flg])
  · exact (congrArg (bit · 14) hword).trans (by simp [bit_or, bit_flg])
  · rw [rbit, rget_iset hrput, bit_or, rget_rput_ne _ _ _ _ (by decide)]
    exact (congrArg (· || _) (rbit_iset (cnt_regs_wf huwf ..) pgPTP (by decide))).trans (Bool.true_or _)
  · exact rdByte_stWord_ne _ _ _ (by omega)

/-! ### O49: the bytes of a one-step Sync -/

theorem length_leBytes (k : Nat) : ∀ v, (leBytes k v).length = k := by
  induction k with
  | zero => intro v; rfl
  | succ k ih => intro v; rw [leBytes, List.length_cons, ih]

theorem ofBe_append (l : List Byte) (b : Byte) : ofBe (l ++ [b]) = 256 * ofBe l + b.toNat := by
  rw [ofBe, List.foldl_append]
  rfl

theorem ofBe_leBytes_reverse (k : Nat) : ∀ v, ofBe (leBytes k v).reverse = v % 256 ^ k := by
  induction k with
  | zero => intro v; rw [pow_zero, Nat.mod_one]; rfl
  | succ k ih =>
    intro v
    rw [leBytes, List.reverse_cons, ofBe_append, ih, pow_succ', Nat.mod_mul, Nat.add_comm]
    rfl

/-- What stands before the timestamp in a one-step Sync. -/
def syncFront (ts : List Word) (b : List Byte) : List Byte :=
  b.take 8 ++ (leBytes 8 ((ofBe ((b.drop 8).take 8) + (ts.getD 2 0).toNat % 65536) % 2 ^ 64)).reverse ++
    (b.drop 16).take 18

/-- The origin timestamp of a one-step Sync: its seconds and its nanoseconds. -/
def syncSec (ts : List Word) : List Byte := (leBytes 6 ((ts.getD 1 0).toNat + 2 ^ 32 *
    ((ts.getD 2 0).toNat / 65536))).reverse
def syncNs (ts : List Word) : List Byte := (leBytes 4 (ts.getD 0 0).toNat).reverse

theorem oneStepBytes_eq (ts : List Word) (b : List Byte) :
    oneStepBytes ts b = (syncFront ts b ++ (syncSec ts ++ (syncNs ts ++ b.drop 44))).take b.length := by
  simp only [oneStepBytes, syncFront, syncSec, syncNs, List.append_assoc]

theorem length_syncFront (ts : List Word) {b : List Byte} (hb : 34 ≤ b.length) : (syncFront ts b).length = 34 := by
  simp only [syncFront, List.length_append, List.length_take, List.length_drop, List.length_reverse, length_leBytes]
  omega

theorem length_syncSec (ts : List Word) : (syncSec ts).length = 6 := by rw
    [syncSec, List.length_reverse, length_leBytes]
theorem length_syncNs (ts : List Word) : (syncNs ts).length = 4 := by rw [syncNs, List.length_reverse, length_leBytes]

theorem length_oneStepBytes (ts : List Word) {b : List Byte} (hb : 34 ≤ b.length) : (oneStepBytes ts b).length =
    b.length := by
  simp only [oneStepBytes_eq, List.length_take, List.length_append, length_syncFront ts hb, length_syncSec,
    length_syncNs,
    List.length_drop]
  omega

/-- Outside the correction and the timestamp the bytes are those that were written. -/
theorem getD_oneStepBytes (ts : List Word) {b : List Byte} (hb : 34 ≤ b.length) {i : Nat}
    (hi : i < 8 ∨ (16 ≤ i ∧ i < 34) ∨ 44 ≤ i) : (oneStepBytes ts b).getD i 0 = b.getD i 0 := by
  by_cases hn : i < b.length
  · rw [oneStepBytes_eq, List.getD_eq_getElem?_getD, List.getD_eq_getElem?_getD, List.getElem?_take_of_lt hn]
    congr 1
    obtain h8 | ⟨h16, h34⟩ | h44 := hi
    · rw [List.getElem?_append_left (by rw [length_syncFront ts hb]; omega), syncFront, List.append_assoc,
        List.getElem?_append_left (by rw [List.length_take]; omega), List.getElem?_take_of_lt h8]
    · rw [List.getElem?_append_left (by rw [length_syncFront ts hb]; omega), syncFront,
        List.getElem?_append_right (by simp [length_leBytes]; omega)]
      simp only [List.length_append, List.length_take, List.length_reverse, length_leBytes, List.getElem?_take,
        List.getElem?_drop]
      rw [if_pos (by omega)]
      congr 1
      omega
    · rw [List.getElem?_append_right (by rw [length_syncFront ts hb]; omega), length_syncFront ts hb,
        List.getElem?_append_right (by rw [length_syncSec]; omega), length_syncSec,
        List.getElem?_append_right (by rw [length_syncNs]; omega), length_syncNs, List.getElem?_drop]
      congr 1
      omega
  · rw [List.getD_eq_default _ _ (by rw [length_oneStepBytes ts hb]; omega), List.getD_eq_default _ _ (by omega)]

/-- The timestamp of a one-step Sync. -/
theorem timestamp_oneStepBytes (ts : List Word) {b : List Byte} (hb : 44 ≤ b.length) :
    ofBe (((oneStepBytes ts b).drop 34).take 6) = (ts.getD 1 0).toNat + 2 ^ 32 * bits (ts.getD 2 0) 31 16 ∧
      ofBe (((oneStepBytes ts b).drop 40).take 4) = (ts.getD 0 0).toNat := by
  have hf := length_syncFront ts (b := b) (by omega)
  have hdrop : (oneStepBytes ts b).drop 34 = (syncSec ts ++ (syncNs ts ++ b.drop 44)).take (b.length - 34) := by
    rw [oneStepBytes_eq, List.drop_take, List.drop_left' hf]
  have hdrop' : (oneStepBytes ts b).drop 40 = (syncNs ts ++ b.drop 44).take (b.length - 40) := by
    rw [oneStepBytes_eq, List.drop_take, ← List.append_assoc, List.drop_left'
      (by rw [List.length_append, hf, length_syncSec])]
  have hbits : bits (ts.getD 2 0) 31 16 = (ts.getD 2 0).toNat / 65536 := by
    have := (ts.getD 2 0).isLt
    simp only [bits, Nat.shiftRight_eq_div_pow]
    omega
  have h0 := (ts.getD 0 0).isLt
  have h1 := (ts.getD 1 0).isLt
  have h2 := (ts.getD 2 0).isLt
  constructor
  · rw [hdrop, List.take_take, Nat.min_eq_left
      (by omega), List.take_left' (length_syncSec ts), syncSec, ofBe_leBytes_reverse, hbits]
    omega
  · rw [hdrop', List.take_take, Nat.min_eq_left
      (by omega), List.take_left' (length_syncNs ts), syncNs, ofBe_leBytes_reverse]
    omega

/-! ### O49: a slot that is sent -/

/-- The Ethernet header of the next transmit slot. -/
def slotEth (s : State) : EthHdr :=
  let w4 := rdWord s (txSlotAt s + 16)
  ⟨BitVec.ofNat 48 ((rdWord s (txSlotAt s + 4)).toNat + 2 ^ 32 * bits (rdWord s (txSlotAt s + 8)) 15 0), macOf s
    (slotPort s),
    if bit w4 16 then some (tagOf s 0 (bits w4 12 0)) else none,
    if bit (rdWord s (txSlotAt s)) 3 then ipv4Etype else 0x88F7#16⟩

/-- The UDP header of the next transmit slot, but for its checksum. -/
def slotUdp (s : State) (b : List Byte) : UdpHdr :=
  let p := BitVec.ofNat 16 (if (b.headD 0).toNat % 16 ≤ 3 then 319 else 320)
  ⟨rget s (aNET_IPADDR (slotPort s)), rdWord s (txSlotAt s + 12), p, p, 0⟩

theorem ptpPkt_eq (s : State) (b : List Byte) : ∃ x, ptpPkt s (txSlotAt s) (slotPort s) b =
    .ptp (slotPort s) (slotEth s) (if bit (rdWord s (txSlotAt s)) 3 then some
      (rfld s aPTP_CFG 7 0, { slotUdp s b with cksum := x })
      else none) b :=
  ⟨_, rfl⟩

theorem dmac_slotEth (s : State) :
    (slotEth s).dmac.toNat = (rdWord s (txSlotAt s + 4)).toNat + 2 ^ 32 * bits (rdWord s (txSlotAt s + 8)) 15 0 := by
  have h := (rdWord s (txSlotAt s + 4)).isLt
  have h' : bits (rdWord s (txSlotAt s + 8)) 15 0 < 2 ^ 16 := Nat.mod_lt _ (by decide)
  exact Nat.mod_eq_of_lt (by omega)

/-- The slot at TX_CONS with its egress time, where one is asked for. -/
def slotReported (s : State) : State :=
  let s2 := sendPkt (slotPort s) s.now (ptpPkt s (txSlotAt s) (slotPort s) (slotBytes s)) s
  if bit (rdWord s (txSlotAt s)) 5 then stWords (txSlotAt s + 20) (slotStamp s) s2 else s2

theorem slotSent_eq (s : State) :
    slotSent s = stWord (txSlotAt s) (rdWord s (txSlotAt s) ||| flg true 15) (slotReported s) := rfl

/-- The parts and registers that the sending of a slot may change. -/
theorem within_slotReported (s : State) :
    Within [.regs, .mem, .net, .fab] (· ∈ [aPTP_TX_CONS, aISTAT pgPTP, aNET_TX_PKT (slotPort s), aISTAT pgECC]) s
      (slotReported s) := by
  have hsend : Within [.regs, .mem, .net, .fab]
      (· ∈ [aPTP_TX_CONS, aISTAT pgPTP, aNET_TX_PKT (slotPort s), aISTAT pgECC]) s
      (sendPkt (slotPort s) s.now (ptpPkt s (txSlotAt s) (slotPort s) (slotBytes s)) s) := by
    unfold sendPkt
    refine Within.cnt ?_ 1 (by decide) (by simp)
    exact ⟨fun p hp => by cases p <;> first | rfl | exact absurd (by decide) hp, fun _ _ => rfl⟩
  unfold slotReported
  dsimp only
  split
  · exact hsend.stWords _ _ (by decide) (by simp)
  · exact hsend

theorem net_slotReported (s : State) : (slotReported s).net =
    (sendPkt (slotPort s) s.now (ptpPkt s (txSlotAt s) (slotPort s) (slotBytes s)) s).net := by
  unfold slotReported
  dsimp only
  split
  · exact (within_stWords ..).1 .net (by decide)
  · rfl

theorem slotReported_facts (hs : Canonical s) :
    spWf resetWord (slotReported s).regs = true ∧ Memory.wf (slotReported s).mem ∧
      (bit (rdWord s (txSlotAt s)) 5 = true → rdWords (slotReported s) (txSlotAt s + 20) 3 = slotStamp s) ∧
      ∀ b, ¬ (txSlotAt s + 20 ≤ b ∧ b < txSlotAt s + 32) → rdByte (slotReported s) b = rdByte s b := by
  have hwf : spWf resetWord (sendPkt (slotPort s) s.now (ptpPkt s (txSlotAt s) (slotPort s) (slotBytes s)) s).regs =
      true :=
    cnt_regs_wf hs.1 ..
  have hlen : (slotStamp s).length = 3 := rfl
  unfold slotReported
  dsimp only
  split
  · refine ⟨stWords_regs_wf _ _ hwf, stWords_mem_wf _ _ hs.2.1, fun _ => ?_, fun b hb => ?_⟩
    · exact rdWords_stWords (s := sendPkt _ _ _ s) hs.2.1 (txSlotAt s + 20) (slotStamp s)
    · exact rdByte_stWords_ne _ _ _ (by rw [hlen]; omega)
  · rename_i h5
    exact ⟨hwf, hs.2.1, fun h => absurd h h5, fun _ _ => rfl⟩

theorem ptpSlotSent_good (hs : Canonical s) (hl : Live s) (ok : Bool) (hen : enOf s pgPTP = true)
    (hne : rfld s aPTP_TX_PROD 15 0 ≠ rfld s aPTP_TX_CONS 15 0)
    (hgood : ¬ slotBad s (txSlotAt s) (rdWord s (txSlotAt s)) ok) :
    let a := txSlotAt s
    let w0 := rdWord s a
    let n : Fin 2 := Fin.ofNat 2 (bits w0 9 8)
    let ts := stampWords (ctrOf s (bit w0 6)) (txLat s n + sgn 32 (rget s (aPTP_PORTADJ_TX n)).toNat)
    let put := rdBytes s (a + 64) (bits w0 31 16)
    Runs (.ptpSlotSent ok) s fun t => rfld t aPTP_TX_CONS 15 0 = (rfld s aPTP_TX_CONS 15 0 + 1) % 65536 ∧
        bit (rdWord t a) 15 = true ∧ rbit t (aISTAT pgPTP) 2 = true ∧
        (bit w0 5 = true → rdWords t (a + 20) 3 = ts) ∧ KeepsBut [.regs, .mem, .net, .fab] s t ∧
        (∀ b, (b < a ∨ (a + 4 ≤ b ∧ b < a + 20) ∨ a + 32 ≤ b) → rdByte t b = rdByte s b) ∧
        RegsOnly [aPTP_TX_CONS, aISTAT pgPTP, aNET_TX_PKT n, aISTAT pgECC] s t ∧
        ∃ (b : List Byte) (eth : EthHdr) (udp : Option (Nat × UdpHdr)), t.net.sent.head? = some (.ptp n eth udp b) ∧
          b.length = bits w0 31 16 ∧ (bit w0 4 = false → b = put) ∧
          (bit w0 4 = true → (∀ i, (i < 8 ∨ (16 ≤ i ∧ i < 34) ∨ 44 ≤ i) → b.getD i 0 = put.getD i 0) ∧
            (44 ≤ bits w0 31 16 → ofBe ((b.drop 34).take 6) = (ts.getD 1 0).toNat + 2 ^ 32 * bits (ts.getD 2 0) 31 16 ∧
              ofBe ((b.drop 40).take 4) = (ts.getD 0 0).toNat)) ∧
          eth.smac = macOf s n ∧ eth.dmac.toNat = (rdWord s (a + 4)).toNat + 2 ^ 32 * bits (rdWord s (a + 8)) 15 0 ∧
          eth.tag = (if bit (rdWord s (a + 16)) 16 then some (tagOf s 0 (bits (rdWord s (a + 16)) 12 0)) else none) ∧
          (bit w0 3 = false → udp = none ∧ eth.etype = 0x88F7#16) ∧
          (bit w0 3 = true → eth.etype = 0x0800#16 ∧ ∃ h, udp = some (rfld s aPTP_CFG 7 0, h) ∧ h.src = rget s
            (aNET_IPADDR n) ∧
            h.dst = rdWord s (a + 12) ∧ h.dport = (if (b.headD 0).toNat % 16 ≤ 3 then 319#16 else 320#16)) := by
  intro a w0 n ts put
  refine ⟨_, rfl, ?_⟩
  rw [awake_run _ hl, ptpSlotSent_eq ok hen hne, if_neg fun h => hgood ((slotStopped_iff ok).1 h), slotSent_eq]
  have hlen : 34 ≤ bits w0 31 16 := by
    by_contra h
    exact hgood (.inr (.inr (.inl (Nat.lt_of_not_le h))))
  have hput : put.length = bits w0 31 16 := length_rdBytes ..
  obtain ⟨hrwf, hmwf, hstamp, hbytes⟩ := slotReported_facts hs
  set u := slotReported s with hu
  set v := stWord (txSlotAt s) (rdWord s (txSlotAt s) ||| flg true 15) u with hv
  have hvwf : spWf resetWord v.regs = true := stWord_regs_wf hrwf ..
  have hwin : Within [.regs, .mem, .net, .fab] (· ∈ [aPTP_TX_CONS, aISTAT pgPTP, aNET_TX_PKT n, aISTAT pgECC]) s
      (iset pgPTP 2 (rput aPTP_TX_CONS 15 0 ((rfld s aPTP_TX_CONS 15 0 + 1) % 65536) v)) :=
    (((within_slotReported s).stWord _ _ (by decide) (by simp)).rput 15 0 _ (by decide) (by simp)).iset 2 (by decide)
      (by simp)
  obtain ⟨x, hpkt⟩ := ptpPkt_eq s (slotBytes s)
  have hnet : v.net.sent.head? = some (ptpPkt s (txSlotAt s) (slotPort s) (slotBytes s)) := by
    have hv' : v.net = u.net := (within_stWord _ _ u).1 .net (by decide)
    rw [hv', hu, net_slotReported]
    rfl
  refine ⟨?_, ?_, rbit_iset (rput_regs_wf hvwf ..) _ (by decide), fun h5 => ?_, hwin.1, fun b hb => ?_, hwin.2,
    slotBytes s, _, _, hnet.trans (congrArg some hpkt), ?_, fun h4 => ?_, fun h4 => ⟨fun i hi => ?_, fun h44 => ?_⟩,
      rfl,
    dmac_slotEth s, rfl, fun h3 => ?_, fun h3 => ?_⟩
  · rw [rfld, rget_iset_ne _ _ _ (by decide)]
    exact (rfld_rput hvwf _ (by decide) _).trans (by omega)
  · exact (congrArg (bit · 15) (rdWord_stWord hmwf ..)).trans (by simp [bit_or, bit_flg])
  · refine Eq.trans (rdWords_congr fun b hb hb' => ?_) (hstamp h5)
    exact rdByte_stWord_ne _ _ _ (by omega)
  · exact (rdByte_stWord_ne _ _ _ (by omega)).trans (hbytes b (by omega))
  · unfold slotBytes
    split
    · exact (length_oneStepBytes _ (by rw [slotPut, length_rdBytes]; exact hlen)).trans hput
    · exact hput
  · exact if_neg (by rw [h4]; decide)
  · rw [slotBytes, if_pos h4]
    exact getD_oneStepBytes _ (by rw [slotPut, length_rdBytes]; exact hlen) hi
  · rw [slotBytes, if_pos h4]
    exact timestamp_oneStepBytes _ (by rw [slotPut, length_rdBytes]; exact h44)
  · exact ⟨if_neg (by rw [h3]; decide), if_neg (by rw [h3]; decide)⟩
  · refine ⟨if_pos h3, _, if_pos h3, rfl, rfl, ?_⟩
    exact apply_ite (BitVec.ofNat 16) ..

/-! ### O49: the write of TX_PROD -/

theorem blockRefuse_txProd {a : Nat} (hp : pageOf a = pgPTP) (ho : offOf a = 0x5C) (direct : Bool) (l : Nat)
    (old new v : Word) :
    blockRefuse s direct l a old new v = if txProdRefused s (bits v 15 0) then refuse 4 a else none := by
  unfold blockRefuse
  rw [hp, ho]
  simp [pgPTP, pgDPLL, pgASRC]

theorem pageAct_txProd {a : Nat} (hp : pageOf a = pgPTP) (ho : offOf a = 0x5C) (direct : Bool) (tk : Option Word)
    (l : Nat) (old new v : Word) (t : State) : pageAct direct tk l a old new v t = (t, false) := by
  unfold pageAct
  rw [hp, ho]
  rfl

theorem accepted_txProd {w : HW} (h : Served s aPTP_TX_PROD w) (hok : txProdRefused s (bits w.v 15 0) = false) :
    Accepted s aPTP_TX_PROD w := by
  refine ⟨h, ?_⟩
  have hd : regAt aPTP_TX_PROD = some ⟨"TX_PROD", 0x5c, 1, 4, 0, 0xffff, 0, 0, 0, 0, false⟩ := rfl
  have hx (v : Word) : v &&& w32 0 = 0 := BitVec.and_zero
  simp only [unrefused, ruleOk, rwpKept, hd, rwpDiscard, soloRefuse_of_not_dataPlane
    (show dataPlane (pageOf aPTP_TX_PROD) = false from rfl),
    blockRefuse_txProd (show pageOf aPTP_TX_PROD = pgPTP from rfl) (show offOf aPTP_TX_PROD = 0x5C from rfl), hok, hx]
  simp

theorem ptpTxProd_effect (hs : Canonical s) {w : HW} (h : Served s aPTP_TX_PROD w) :
    (txProdRefused s (bits w.v 15 0) = false → Runs (.ptpTxProd w) s fun t => rfld t aPTP_TX_PROD 15 0 = bits w.v 15 0 ∧
      lastStatus t = 0 ∧ KeepsBut [.regs] s t ∧ RegsOnly [aPTP_TX_PROD, aHOSTIF_LASTERR, aHOSTIF_LASTADDR] s t) ∧
    (txProdRefused s (bits w.v 15 0) = true → Runs (.ptpTxProd w) s fun t => refusedWith 4 pgPTP aPTP_TX_PROD s t) := by
  refine ⟨fun hok => ?_, fun hbad => ?_⟩
  · have hrun := hostWrite_of_actsAtOnce (accepted_txProd h hok) rfl (by decide)
    rw [pageAct_txProd (by decide) (by decide), newWord_eq_maskWord rfl (by decide)] at hrun
    generalize hm : (if w.lvl.val = 0 then _ else _ : Word) = m at hrun
    have hmask : m = 0xFFFF#32 := by
      rw [← hm]
      split <;> rfl
    have hlow : bits (maskWord m (heldReg s aPTP_TX_PROD) w.v) 15 0 = bits w.v 15 0 :=
      bits_maskWord (by rw [hmask]; decide) _ _
    generalize maskWord m (heldReg s aPTP_TX_PROD) w.v = new at hlow hrun
    have hwin : Within [.regs] (· = aPTP_TX_PROD) s (rset aPTP_TX_PROD new s) := (Within.refl ..).rset new
        (by decide) rfl
    refine ⟨_, congrArg Host.Outcome.next hrun, ?_, lastStatus_endAccess (rset_regs_wf hs.1 _ _) (by decide),
      hwin.ofEnd _ _, hwin.regsOnly_end _ _ fun b hb => by simp [hb]⟩
    rw [rfld, rget_endAccess_ok _ (by decide) (by decide), rget_rset_same hs.1, hlow]
  · have hrun := hostWrite_of_blockRefuse h rfl (by decide) (soloRefuse_of_not_dataPlane (by decide) _ _)
      (by rw [blockRefuse_txProd (by decide) (by decide), if_pos hbad]) (by decide)
    exact ⟨_, congrArg Host.Outcome.next hrun, refusedWith_of_errcap hs (by decide) (by decide)⟩

/-- Settles O49: a message fills its slot or is dropped, a write of TX_PROD is stored or refused, a slot is sent or
  marked. -/
theorem ptpRings : Obligations.PtpRings := by
  refine ⟨fun s m hs hl hen hroom => ptpRx_effect hs hl m hen hroom, fun s m hs hl hen hfull => ⟨_, rfl, ?_⟩,
    fun s m hl hen => ⟨_, rfl, ?_⟩, fun s w hs h => ptpTxProd_effect hs h,
    fun s ok hs hl hen hne => ⟨ptpSlotSent_bad hs hl ok hen hne, ptpSlotSent_good hs hl ok hen hne⟩, fun s ok h =>
      ⟨_, rfl, ?_⟩⟩
  · rw [awake_run _ hl, ptpRx_dropped m hen hfull]
    have hadv : Within [.now, .ptp] (fun _ => False) s (advance m.tcap s) := within_advance ..
    have hwin : Within [.now, .ptp, .regs] (· ∈ [aPTP_RX_DROP, aISTAT pgPTP]) s
        (iset pgPTP 1 (cnt aPTP_RX_DROP (advance m.tcap s))) :=
      ((hadv.mono (by decide) fun _ h => h.elim).cnt 1).iset 1
    have hwf : spWf resetWord (advance m.tcap s).regs = true := by rw [advance_regs]; exact hs.1
    refine ⟨?_, rbit_iset (cnt_regs_wf hwf ..) _ (by decide), hwin.1, hwin.2⟩
    rw [rget_iset_ne _ _ _ (by decide), rget_cnt hwf, rget_advance]
    rfl
  · have hen' : enOf (advance m.tcap s) pgPTP = false := (rbit_advance ..).trans hen
    have hrun : ptpRx m s = advance m.tcap s := if_pos (by rw [hen']; decide)
    rw [awake_run _ hl, hrun]
    exact (within_advance ..).1
  · have hrun : ptpSlotSent ok s = s := if_pos (by
      rcases h with h | h
      · exact .inl (by rw [h]; decide)
      · exact .inr h)
    unfold awake
    split
    · exact hrun
    · rfl

end Sys2Proof.Machine
end

section
/-!
PROOFS. The egress queues, the links, and the packets of the switch (O45).
-/

-- One declaration after another: side by side, the stacks of the threads exceed what memory the check allows.
set_option Elab.async false

namespace Sys2Proof.Machine

variable {s : State}

/-! ### Egress queues -/

/-- Of the network state no more than the queues, the kept packets and the lines' times differ. -/
def LinesOnly (s t : State) : Prop :=
  t.net = { s.net with queue := t.net.queue, sent := t.net.sent, free := t.net.free }

theorem LinesOnly.trans {t u : State} (h : LinesOnly s t) (h' : LinesOnly t u) : LinesOnly s u := by
  unfold LinesOnly at h h' ⊢
  rw [h', h]

/-- The packets that wait for port `n`. -/
def waiting (s : State) (n : Fin 2) : List QPkt := s.net.queue.filter fun q => q.port == n.val

/-- Nothing of port `n` can be sent now: nothing waits, or its line is not free yet. -/
def Drained (n : Fin 2) (s : State) : Prop := ∀ q ∈ (waiting s n).head?, s.now < max s.net.free[n] q.t

/-- The packet of port `n` whose turn it is. -/
def nextPkt (s : State) (n : Fin 2) (q0 : QPkt) (rest : List QPkt) : QPkt :=
  let ready := q0 :: rest.filter fun q => decide (q.t ≤ max s.net.free[n] q0.t)
  (ready.find? fun q => q.cls == 0).getD ((ready.find? fun q => q.cls == 1).getD q0)

/-- A packet leaves the queue. -/
def dequeue (q : QPkt) (s : State) : State := setNet { s.net with queue := s.net.queue.erase q } s

/-- The port sends the packet whose turn it is. -/
def sendNext (n : Fin 2) (q0 : QPkt) (rest : List QPkt) (s : State) : State :=
  sendPkt n (max s.net.free[n] q0.t) (nextPkt s n q0 rest).pkt (dequeue (nextPkt s n q0 rest) s)

theorem drainPort_succ (n : Fin 2) (k : Nat) (s : State) : drainPort n (k + 1) s =
    match waiting s n with
    | [] => s
    | q0 :: rest => if s.now < max s.net.free[n] q0.t then s else drainPort n k (sendNext n q0 rest s) := by
  rw [drainPort]
  cases hw : waiting s n with
  | nil =>
    rw [waiting] at hw
    rw [hw]
  | cons q0 rest =>
    rw [waiting] at hw
    rw [hw]
    rfl

theorem nextPkt_mem (s : State) (n : Fin 2) (q0 : QPkt) (rest : List QPkt) : nextPkt s n q0 rest ∈ q0 :: rest := by
  have hready {p : QPkt → Bool} {q : QPkt}
      (h : (q0 :: rest.filter fun q => decide (q.t ≤ max s.net.free[n] q0.t)).find? p = some q) : q ∈ q0 :: rest := by
    have := List.mem_of_find?_eq_some h
    rw [List.mem_cons, List.mem_filter] at this
    exact List.mem_cons.2 (this.imp_right And.left)
  unfold nextPkt
  dsimp only
  generalize ha : List.find? _ _ = a
  generalize hb : List.find? _ _ = b
  cases a with
  | some q => exact hready ha
  | none =>
    cases b with
    | some q => exact hready hb
    | none => exact List.mem_cons_self

theorem drainPort_of_drained {n : Fin 2} (h : Drained n s) (k : Nat) : drainPort n k s = s := by
  cases k with
  | zero => rfl
  | succ k =>
    rw [drainPort_succ]
    unfold Drained at h
    cases hw : waiting s n with
    | nil => rfl
    | cons q0 rest => exact if_pos (h q0 (by rw [hw]; rfl))

theorem waiting_sendNext (n m : Fin 2) (q0 : QPkt) (rest : List QPkt) :
    waiting (sendNext n q0 rest s) m = (waiting s m).erase (nextPkt s n q0 rest) := by
  show ((s.net.queue.erase (nextPkt s n q0 rest)).filter fun q => q.port == m.val) = _
  exact (List.erase_filter ..).symm

theorem waiting_port {n : Fin 2} {q : QPkt} (h : q ∈ waiting s n) : q.port = n.val := by
  simpa using (List.mem_filter.1 h).2

theorem fin2_ne_val {n m : Fin 2} (h : m ≠ n) : m.val ≠ n.val := fun he => h (Fin.ext he)

/-- The sending of a packet of port `n` concerns no other port. -/
theorem waiting_sendNext_ne {n m : Fin 2} (hm : m ≠ n) {q0 : QPkt} {rest : List QPkt} (hw : waiting s n = q0 :: rest) :
    waiting (sendNext n q0 rest s) m = waiting s m ∧ (sendNext n q0 rest s).net.free[m] = s.net.free[m] := by
  have hport : (nextPkt s n q0 rest).port = n.val := waiting_port (hw ▸ nextPkt_mem ..)
  refine ⟨?_, ?_⟩
  · rw [waiting_sendNext]
    exact List.erase_of_not_mem fun hmem => fin2_ne_val hm ((waiting_port hmem).symm.trans hport)
  · exact Vector.getElem_set_ne n.isLt m.isLt (fin2_ne_val hm.symm)

theorem drained_drainPort (n : Fin 2) (k : Nat) : ∀ {s : State}, (waiting s n).length ≤ k → Drained n
    (drainPort n k s) := by
  induction k with
  | zero =>
    intro s h q hq
    rw [drainPort, List.length_eq_zero_iff.1 (Nat.le_zero.1 h)] at hq
    exact absurd hq (by simp)
  | succ k ih =>
    intro s h
    rw [drainPort_succ]
    cases hw : waiting s n with
    | nil =>
      intro q hq
      rw [hw] at hq
      exact absurd hq (by simp)
    | cons q0 rest =>
      dsimp only
      split
      · rename_i hbusy
        intro q hq
        rw [hw] at hq
        obtain rfl : q0 = q := by simpa using hq
        exact hbusy
      · refine ih ?_
        rw [waiting_sendNext, hw, List.length_erase_of_mem (nextPkt_mem ..)]
        rw [hw] at h
        exact Nat.pred_le_pred h

theorem drainPort_other {n m : Fin 2} (hm : m ≠ n) (k : Nat) : ∀ {s : State},
    waiting (drainPort n k s) m = waiting s m ∧ (drainPort n k s).net.free[m] = s.net.free[m] ∧
      (drainPort n k s).now = s.now := by
  induction k with
  | zero => intro s; exact ⟨rfl, rfl, rfl⟩
  | succ k ih =>
    intro s
    rw [drainPort_succ]
    cases hw : waiting s n with
    | nil => exact ⟨rfl, rfl, rfl⟩
    | cons q0 rest =>
      dsimp only
      split
      · exact ⟨rfl, rfl, rfl⟩
      · obtain ⟨hwait, hfree⟩ := waiting_sendNext_ne hm hw
        obtain ⟨h1, h2, h3⟩ := ih (s := sendNext n q0 rest s)
        exact ⟨h1.trans hwait, h2.trans hfree, h3⟩

theorem drained_congr {n : Fin 2} {t : State} (h : Drained n s) (hw : waiting t n = waiting s n)
    (hf : t.net.free[n] = s.net.free[n]) (hn : t.now = s.now) : Drained n t := by
  unfold Drained
  rw [hw, hf, hn]
  exact h

/-- After a drain neither port has anything that it can send. -/
theorem drained_netDrain (s : State) (n : Fin 2) : Drained n (netDrain s) := by
  have hlen (m : Fin 2) : (waiting s m).length ≤ s.net.queue.length := List.length_filter_le ..
  unfold netDrain
  fin_cases n
  · obtain ⟨hw, hf, hn⟩ := drainPort_other (n := 1) (m := 0) (by decide) s.net.queue.length
      (s := drainPort 0 s.net.queue.length s)
    exact drained_congr (drained_drainPort 0 _ (hlen 0)) hw hf hn
  · refine drained_drainPort 1 _ ?_
    rw [(drainPort_other (by decide) _).1]
    exact hlen 1

theorem netDrain_of_drained (h : ∀ n, Drained n s) : netDrain s = s := by
  unfold netDrain
  rw [drainPort_of_drained (h 0), drainPort_of_drained (h 1)]

/-- A packet joins the queue of its class. -/
def queued (n : Fin 2) (c : Nat) (p : SentPkt) (s : State) : State :=
  setNet { s.net with queue := s.net.queue ++ [⟨n, c, s.now, p⟩] } s

theorem waiting_queued (n m : Fin 2) (c : Nat) (p : SentPkt) (s : State) :
    waiting (queued n c p s) m = waiting s m ++ if m = n then [⟨n, c, s.now, p⟩] else [] := by
  show (s.net.queue ++ [_]).filter _ = _
  rw [List.filter_append]
  congr 1
  by_cases h : m = n
  · simp [h]
  · simp [h, (fin2_ne_val h).symm]

theorem drained_of_waiting_nil {n : Fin 2} (h : waiting s n = []) : Drained n s := fun q hq => by
  rw [h] at hq
  exact absurd hq (by simp)

theorem drained_queued {n m : Fin 2} (h : Drained m s) (hm : m ≠ n ∨ waiting s m ≠ []) (c : Nat) (p : SentPkt) :
    Drained m (queued n c p s) := by
  intro q hq
  rw [waiting_queued] at hq
  refine h q ?_
  rcases hm with hm | hm
  · rwa [if_neg hm, List.append_nil] at hq
  · rwa [List.head?_append_of_ne_nil _ hm] at hq

theorem drained_sendPkt {n m : Fin 2} (h : Drained m s) (hm : m ≠ n) (t : Nat) (p : SentPkt) : Drained m
    (sendPkt n t p s) :=
  drained_congr h rfl (Vector.getElem_set_ne n.isLt m.isLt (fin2_ne_val hm.symm)) rfl

/-- A port with an idle line sends the packet that joins its empty queue. -/
theorem drainPort_queued {n : Fin 2} (hw : waiting s n = []) (hf : s.net.free[n] ≤ s.now) (c : Nat) (p : SentPkt)
    (k : Nat) :
    drainPort n (k + 1) (queued n c p s) = sendPkt n s.now p s := by
  have hwait : waiting (queued n c p s) n = [⟨n, c, s.now, p⟩] := by rw [waiting_queued, hw, if_pos rfl]; rfl
  have hnext : nextPkt (queued n c p s) n ⟨n, c, s.now, p⟩ [] = ⟨n, c, s.now, p⟩ := by
    simpa using nextPkt_mem (queued n c p s) n ⟨n, c, s.now, p⟩ []
  have hnew : (⟨n, c, s.now, p⟩ : QPkt) ∉ s.net.queue := fun hmem => by
    have : (⟨n, c, s.now, p⟩ : QPkt) ∈ waiting s n := List.mem_filter.2 ⟨hmem, by simp⟩
    rw [hw] at this
    exact absurd this (by simp)
  have herase : (s.net.queue ++ [(⟨n, c, s.now, p⟩ : QPkt)]).erase ⟨n, c, s.now, p⟩ = s.net.queue := by
    rw [List.erase_append_right _ hnew, List.erase_cons_head, List.append_nil]
  have hmax : max (queued n c p s).net.free[n] s.now = s.now := Nat.max_eq_right hf
  have hsend : sendNext n ⟨n, c, s.now, p⟩ [] (queued n c p s) = sendPkt n s.now p s := by
    rw [sendNext, hnext, hmax, dequeue, show (queued n c p s).net.queue.erase _ = s.net.queue from herase]
    rfl
  rw [drainPort_succ, hwait]
  dsimp only
  rw [if_neg (by rw [hmax]; exact Nat.lt_irrefl _), hsend]
  exact drainPort_of_drained (drained_of_waiting_nil (s := sendPkt n s.now p s) hw) k

/-- A packet that the port can send at once is the only one that goes. -/
theorem netDrain_queued_sent {n : Fin 2} (h : ∀ m, Drained m s) (hw : waiting s n = []) (hf : s.net.free[n] ≤ s.now)
    (c : Nat) (p : SentPkt) : netDrain (queued n c p s) = sendPkt n s.now p s := by
  have hlen : (queued n c p s).net.queue.length = s.net.queue.length + 1 := List.length_append ..
  unfold netDrain
  rw [hlen]
  match n with
  | 0 =>
    rw [drainPort_queued hw hf]
    exact drainPort_of_drained (drained_sendPkt (h 1) (by decide) _ _) _
  | 1 => rw [drainPort_of_drained (drained_queued (h 0) (.inl (by decide)) _ _), drainPort_queued hw hf]

/-- A packet waits behind those of its port, or goes at once. -/
theorem enqueuePkt_cases (n : Fin 2) (c : Nat) (p : SentPkt) (s : State) :
    enqueuePkt n c p s = queued n c p (netDrain s) ∨ enqueuePkt n c p s = sendPkt n (netDrain s).now p
      (netDrain s) := by
  have hd := drained_netDrain s
  show netDrain (queued n c p (netDrain s)) = _ ∨ netDrain (queued n c p (netDrain s)) = _
  generalize netDrain s = u at hd
  by_cases hw : waiting u n = []
  · by_cases hf : u.net.free[n] ≤ u.now
    · exact .inr (netDrain_queued_sent hd hw hf c p)
    · refine .inl (netDrain_of_drained fun m => ?_)
      by_cases hm : m = n
      · subst hm
        intro q hq
        exact Nat.lt_of_lt_of_le (Nat.lt_of_not_le hf) (Nat.le_max_left ..)
      · exact drained_queued (hd m) (.inl hm) c p
  · refine .inl (netDrain_of_drained fun m => drained_queued (hd m) ?_ c p)
    by_cases hm : m = n
    · exact .inr (hm ▸ hw)
    · exact .inl hm

/-- On an idle line a packet goes at once. -/
theorem enqueuePkt_idle {n : Fin 2} (h : idleLine s n) (c : Nat) (p : SentPkt) : enqueuePkt n c p s = sendPkt n s.now
    p s := by
  obtain ⟨hq, hf⟩ := h
  have hw (m : Fin 2) : waiting s m = [] := by rw [waiting, hq]; rfl
  have hd : netDrain s = s := netDrain_of_drained fun m => drained_of_waiting_nil (hw m)
  show netDrain (queued n c p (netDrain s)) = _
  rw [hd]
  exact netDrain_queued_sent (fun m => drained_of_waiting_nil (hw m)) (hw n) hf c p

/-- A packet is queued at port `n`, or it is the last one sent. -/
def JustOut (n : Fin 2) (c : Nat) (p : SentPkt) (t : State) : Prop :=
  (∃ q ∈ t.net.queue, q.port = n.val ∧ q.cls = c ∧ q.pkt = p) ∨ t.net.sent.head? = some p

theorem JustOut.goesOut {n : Fin 2} {c : Nat} {p : SentPkt} {t : State} (h : JustOut n c p t) : goesOut n c p t :=
  h.imp_right List.mem_of_mem_head?

theorem justOut_enqueuePkt (n : Fin 2) (c : Nat) (p : SentPkt) (s : State) : JustOut n c p (enqueuePkt n c p s) := by
  rcases enqueuePkt_cases n c p s with h | h
  · rw [h]
    exact .inl ⟨_, List.mem_append_right _ List.mem_cons_self, rfl, rfl, rfl⟩
  · rw [h]
    exact .inr rfl

/-- The drain of a device whose ports have nothing to send changes nothing, so a packet that has gone out stays out
  while
another follows. -/
theorem goesOut_enqueuePkt {n m : Fin 2} {c c' : Nat} {p p' : SentPkt} (h : JustOut n c p s) (hd : ∀ k, Drained k s) :
    goesOut n c p (enqueuePkt m c' p' s) := by
  have hsame := netDrain_of_drained hd
  rcases enqueuePkt_cases m c' p' s with he | he
  · rw [he, hsame]
    exact h.imp (fun ⟨q, hq, hp⟩ => ⟨q, List.mem_append_left _ hq, hp⟩) List.mem_of_mem_head?
  · rw [he, hsame]
    refine h.imp_right fun hp => ?_
    show p ∈ (p' :: s.net.sent).take 64
    cases hs : s.net.sent with
    | nil => rw [hs] at hp; exact absurd hp (by simp)
    | cons a t =>
      rw [hs] at hp
      obtain rfl : a = p := by simpa using hp
      simp

theorem drained_enqueuePkt (n : Fin 2) (c : Nat) (p : SentPkt) (s : State) (m : Fin 2) : Drained m
    (enqueuePkt n c p s) :=
  drained_netDrain _ m

/-! ### What the egress queues leave alone -/

/-- The counts of sent packets. -/
def sentRegs : List Nat := [aNET_TX_PKT 0, aNET_TX_PKT 1]

theorem sentReg_mem (n : Fin 2) : aNET_TX_PKT n ∈ sentRegs := by fin_cases n <;> decide

/-- From `s` to `t` packets were queued and sent: the counts of sent packets and the lines differ, nothing else. -/
structure Lines (s t : State) : Prop where
  win : Within [.regs, .net] (· ∈ sentRegs) s t
  net : LinesOnly s t

theorem Lines.refl (s : State) : Lines s s := ⟨.refl .., rfl⟩

theorem Lines.trans {t u : State} (h : Lines s t) (h' : Lines t u) : Lines s u :=
    ⟨h.win.trans h'.win, h.net.trans h'.net⟩

theorem within_setNet (x : NetSt) (s : State) : Within [.net] (fun _ => False) s (setNet x s) :=
  ⟨fun p hp => by cases p <;> first | rfl | exact absurd (by decide) hp, fun _ _ => rfl⟩

theorem Within.setNet {l : List Part} {A : Nat → Prop} {t : State} (h : Within l A s t) (x : NetSt)
    (hl : .net ∈ l := by decide) : Within l A s (setNet x t) :=
  h.trans ((within_setNet x t).mono (by simpa using hl) fun _ hf => hf.elim)

theorem lines_sendPkt (n : Fin 2) (t : Nat) (p : SentPkt) (s : State) : Lines s (sendPkt n t p s) :=
  ⟨((Within.refl ..).setNet _).cnt 1 (by decide) (sentReg_mem n), rfl⟩

theorem lines_dequeue (q : QPkt) (s : State) : Lines s (dequeue q s) := ⟨(Within.refl ..).setNet _, rfl⟩

theorem lines_queued (n : Fin 2) (c : Nat) (p : SentPkt) (s : State) : Lines s (queued n c p s) :=
  ⟨(Within.refl ..).setNet _, rfl⟩

theorem lines_drainPort (n : Fin 2) (k : Nat) : ∀ s : State, Lines s (drainPort n k s) := by
  induction k with
  | zero => exact Lines.refl
  | succ k ih =>
    intro s
    rw [drainPort_succ]
    cases waiting s n with
    | nil => exact .refl s
    | cons q0 rest =>
      dsimp only
      split
      · exact .refl s
      · exact ((lines_dequeue ..).trans (lines_sendPkt ..)).trans (ih _)

theorem lines_netDrain (s : State) : Lines s (netDrain s) := (lines_drainPort ..).trans (lines_drainPort ..)

theorem lines_enqueuePkt (n : Fin 2) (c : Nat) (p : SentPkt) (s : State) : Lines s (enqueuePkt n c p s) :=
  ((lines_netDrain s).trans (lines_queued ..)).trans (lines_netDrain _)

theorem Lines.link {t : State} (h : Lines s t) : t.net.link = s.net.link := by rw [h.net]
theorem Lines.macs {t : State} (h : Lines s t) : t.net.macs = s.net.macs := by rw [h.net]
theorem Lines.igmp {t : State} (h : Lines s t) : t.net.igmp = s.net.igmp := by rw [h.net]
theorem Lines.tx {t : State} (h : Lines s t) : t.net.tx = s.net.tx := by rw [h.net]

theorem Lines.rget {t : State} (h : Lines s t) {a : Nat} (ha : a ∉ sentRegs := by decide) : rget t a = rget s a :=
    h.win.2 a ha

/-! ### Packets of the internal endpoint -/

/-- Learning changes the table of addresses alone. -/
theorem learnAt_cases (mac : BitVec 48) (port : Nat) (s : State) : ∃ m, learnAt mac port s = setNet
    { s.net with macs := m } s := by
  unfold learnAt
  dsimp only
  split
  · exact ⟨_, rfl⟩
  · exact ⟨s.net.macs, rfl⟩

theorem epSend_up {n : Fin 2} (h : s.net.link[n].up = true) (c : Nat) (p : SentPkt) :
    epSend n c p s = enqueuePkt n c p (learnAt (macOf s n) 2 s) := by
  obtain ⟨m, hm⟩ := learnAt_cases (macOf s n) 2 s
  unfold epSend
  dsimp only
  rw [hm]
  exact if_pos h

theorem epSend_down {n : Fin 2} (h : s.net.link[n].up = false) (c : Nat) (p : SentPkt) :
    epSend n c p s = cnt (aNET_DROP_CNT n) (learnAt (macOf s n) 2 s) := by
  obtain ⟨m, hm⟩ := learnAt_cases (macOf s n) 2 s
  unfold epSend
  dsimp only
  rw [hm]
  exact if_neg (by rw [show (setNet { s.net with macs := m } s).net.link[n].up = false from h]; decide)

/-! ### O45: the links -/

theorem netReg_ne (n : Fin 2) : aISTAT (pgNET n) ∉ sentRegs ∧ aNET_CFG n ∉ sentRegs ∧ aNET_LINKDN_CNT n ∉ sentRegs ∧
    aNET_DROP_CNT n ∉ sentRegs ∧ aNET_LINKDN_CNT n ≠ aISTAT (pgNET n) ∧ aNET_DROP_CNT n ≠ aISTAT (pgNET n) ∧
    aNET_DROP_CNT n ≠ aNET_LINKDN_CNT n ∧ aNET_CFG n ≠ aISTAT (pgNET n) ∧ aNET_CFG n ≠ aNET_LINKDN_CNT n ∧
    aNET_CFG n ≠ aNET_DROP_CNT n := by
  fin_cases n <;> decide

/-- What the endpoint sends out of a port whose link is up leaves the links and, but for the counts of sent packets,
  the registers. -/
theorem within_epSend {n : Fin 2} (h : s.net.link[n].up = true) (c : Nat) (p : SentPkt) :
    Within [.regs, .net] (· ∈ sentRegs) s (epSend n c p s) ∧ (epSend n c p s).net.link = s.net.link := by
  rw [epSend_up h]
  obtain ⟨m, hm⟩ := learnAt_cases (macOf s n) 2 s
  rw [hm]
  have hl := lines_enqueuePkt n c p (setNet { s.net with macs := m } s)
  exact ⟨((Within.refl ..).setNet _).trans hl.win, hl.link⟩

theorem within_epReports {n : Fin 2} (h : s.net.link[n].up = true) :
    Within [.regs, .net] (· ∈ sentRegs) s (epReports n s) ∧ (epReports n s).net.link = s.net.link := by
  unfold epReports
  generalize epPaths s n = l
  suffices H : ∀ (l : List (Word × Word × Nat)) (t : State), Within [.regs, .net] (· ∈ sentRegs) s t ∧ t.net.link =
    s.net.link →
      Within [.regs, .net] (· ∈ sentRegs) s (l.foldl (fun s x => epReport n x.2.2 x.1 x.2.1 true s) t) ∧
        (l.foldl (fun s x => epReport n x.2.2 x.1 x.2.1 true s) t).net.link = s.net.link from H l s ⟨.refl .., rfl⟩
  intro l
  induction l with
  | nil => intro t ht; exact ht
  | cons x l ih =>
    intro t ⟨hw, hlink⟩
    obtain ⟨hw', hlink'⟩ := within_epSend (s := t) (n := n) (by rw [hlink]; exact h) 2
      (.report n ⟨0x01005E000016#48, macOf t n, some (tagOf t 2 x.2.2), ipv4Etype⟩ (rget t (aNET_IPADDR n)) x.1 x.2.1
        true)
    exact ih _ ⟨hw.trans hw', hlink'.trans hlink⟩

/-- The link of a port that has come up. -/
def linkUpState (n : Fin 2) (s : State) : NetLink :=
  { up := true, hiBer := false, anDone := netMode s n == 2 && rbit s (aNET_CFG n) 20, speedErr := false }

theorem linkUp_ready {n : Fin 2} {b : Bool} (hr : linkReady s n) (hb : netMode s n = 3 → b = true) :
    linkUp n b s =
      let s1 := setNet { s.net with link := s.net.link.set n (linkUpState n s) } s
      if s.net.link[n].up then s1 else epReports n (iset (pgNET n) 1 s1) := by
  obtain ⟨hen, hmode, hlock, hgate⟩ := hr
  unfold linkUp
  dsimp only
  rw [if_neg (by simp [hen, hmode, hlock, hgate]), if_neg (fun h => h.2 (hb h.1))]
  rfl

theorem linkUp_effect (hl : Live s) {n : Fin 2} {b : Bool} (hr : linkReady s n) (hb : netMode s n = 3 → b = true) :
    Runs (.linkUp n b) s fun t => t.net.link[n].up = true ∧
      (s.net.link[n].up = false → rbit t (aISTAT (pgNET n)) 1 = true) ∧ KeepsBut [.regs, .net] s t ∧
      RegsOnly [aISTAT (pgNET n), aNET_TX_PKT 0, aNET_TX_PKT 1] s t := by
  refine runs_awake hl rfl ?_
  rw [linkUp_ready hr hb]
  set s1 := setNet { s.net with link := s.net.link.set n (linkUpState n s) } s with hs1
  have hup : s1.net.link[n].up = true := congrArg NetLink.up (Vector.getElem_set_self n.isLt)
  have hw : Within [.regs, .net] (· ∈ [aISTAT (pgNET n), aNET_TX_PKT 0, aNET_TX_PKT 1]) s s1 :=
      (Within.refl ..).setNet _
  dsimp only
  by_cases h : s.net.link[n].up = true
  · rw [if_pos h]
    exact ⟨hup, fun h' => absurd (h.symm.trans h') (by decide), hw.1, hw.2⟩
  · rw [if_neg h]
    obtain ⟨hw', hlink⟩ := within_epReports (s := iset (pgNET n) 1 s1) (n := n) hup
    have hall := (hw.iset (p := pgNET n) 1 (by decide) (by simp)).trans
      (hw'.mono (by decide) fun a ha => List.mem_cons_of_mem _ ha)
    refine ⟨?_, fun _ => ?_, hall.1, hall.2⟩
    · rw [hlink]
      exact hup
    · rw [rbit, hw'.2 _ (netReg_ne n).1]
      exact rbit_iset_any ⟨pgNET n, by fin_cases n <;> decide⟩ (by decide) _

theorem linkUp_held (hl : Live s) {n : Fin 2} (hr : linkReady s n) (hm : netMode s n = 3) :
    Runs (.linkUp n false) s fun t => t.net.link[n].speedErr = true ∧ t.net.link[n].up = s.net.link[n].up ∧ KeepsBut
      [.net] s t := by
  obtain ⟨hen, hmode, hlock, hgate⟩ := hr
  refine runs_awake hl rfl ?_
  have hrun : linkUp n false s = setNet
      { s.net with link := s.net.link.set n { s.net.link[n] with speedErr := true } } s := by
    unfold linkUp
    dsimp only
    rw [if_neg (by simp [hen, hmode, hlock, hgate]), if_pos ⟨hm, by decide⟩]
  rw [hrun]
  exact ⟨congrArg NetLink.speedErr (Vector.getElem_set_self n.isLt),
    (congrArg NetLink.up (Vector.getElem_set_self n.isLt)).trans rfl,
    (within_setNet ..).1⟩

theorem linkUp_unready (hl : Live s) {n : Fin 2} (b : Bool) (hr : ¬ linkReady s n) : Runs (.linkUp n b) s fun t => t
    = s := by
  refine runs_awake hl rfl (if_pos ?_)
  by_contra h
  simp only [not_or, not_not] at h
  obtain ⟨hen, hmode, hlock, hgate⟩ := h
  exact hr ⟨hen, hmode, hlock, Bool.eq_false_iff.2 hgate⟩

/-! O45: a link that goes down -/

/-- What goes with the link of port `n` once its line has been drained. -/
def linkFlushed (n : Fin 2) (hiBer : Bool) (u : State) : State :=
  setNet { u.net with
    link := u.net.link.set n { u.net.link[n] with up := false, hiBer := hiBer, anDone := false }
    macs := u.net.macs.filter fun m => m.port != n.val
    igmp := u.net.igmp.filter fun m => m.port != n.val
    queue := u.net.queue.filter fun q => q.port != n.val } u

/-- The counts and ISTAT bits of a link that has gone down. -/
def linkCounted (n : Fin 2) (gone : Nat) (s2 : State) : State :=
  let s3 := iset (pgNET n) 0 (cnt (aNET_LINKDN_CNT n) (cnt (aNET_DROP_CNT n) s2 gone))
  if s2.net.tx.isEmpty then s3 else iset pgSTREAMTX 1 s3

theorem linkDown_up {n : Fin 2} (b : Bool) (h : s.net.link[n].up = true) :
    linkDown n b s =
      let u := netDrain s
      let s4 := linkCounted n (u.net.queue.filter fun q => q.port == n.val).length (linkFlushed n b u)
      if rbit u (aNET_CFG n) 31 then requestRelease (.fault 7) s4 else s4 := by
  have hup : (netDrain s).net.link[n].up = true := by rw [(lines_netDrain s).link]; exact h
  unfold linkDown
  dsimp only
  rw [if_neg (by rw [hup]; decide)]
  rfl

theorem requestRelease_twin (r : Release) (u : State) :
    (u.twin.st = .active → partnerHot u = true → u.twin.release = none → (requestRelease r u).twin.release = some r) ∧
      ∃ x, requestRelease r u = { u with twin := x } := by
  unfold requestRelease
  split
  · exact ⟨fun _ _ _ => rfl, _, rfl⟩
  · rename_i h
    exact ⟨fun h1 h2 h3 => absurd ⟨h1, h2, h3⟩ h, u.twin, rfl⟩

/-- The registers of a link that has gone down. -/
theorem linkCounted_facts (n : Fin 2) (gone : Nat) (hs : spWf resetWord s.regs = true) :
    let t := linkCounted n gone s
    KeepsBut [.regs] s t ∧ rget t (aNET_CFG n) = rget s (aNET_CFG n) ∧
      rget t (aNET_LINKDN_CNT n) = rget s (aNET_LINKDN_CNT n) + 1 ∧
      rget t (aNET_DROP_CNT n) = rget s (aNET_DROP_CNT n) + w32 gone ∧ rbit t (aISTAT (pgNET n)) 0 = true ∧
      (s.net.tx ≠ [] → rbit t (aISTAT pgSTREAMTX) 1 = true) := by
  obtain ⟨-, -, -, -, hdni, hdropi, hdropdn, hcfgi, hcfgdn, hcfgdrop⟩ := netReg_ne n
  have htx : aISTAT (pgNET n) ≠ aISTAT pgSTREAMTX ∧ aNET_LINKDN_CNT n ≠ aISTAT pgSTREAMTX ∧
      aNET_DROP_CNT n ≠ aISTAT pgSTREAMTX ∧ aNET_CFG n ≠ aISTAT pgSTREAMTX := by fin_cases n <;> decide
  have hwf := cnt_regs_wf hs (aNET_DROP_CNT n) gone
  set s3 := iset (pgNET n) 0 (cnt (aNET_LINKDN_CNT n) (cnt (aNET_DROP_CNT n) s gone)) with hs3
  have hk : KeepsBut [.regs] s s3 :=
    ((((Within.refl [.regs] (fun _ => True) s).cnt gone
      (by decide) trivial).cnt 1 (by decide) trivial).iset 0 (by decide) trivial).1
  have hcfg : rget s3 (aNET_CFG n) = rget s (aNET_CFG n) := by
    rw [hs3, rget_iset_ne _ _ _ hcfgi, cnt, rget_rset_ne _ _ hcfgdn, cnt, rget_rset_ne _ _ hcfgdrop]
  have hdn : rget s3 (aNET_LINKDN_CNT n) = rget s (aNET_LINKDN_CNT n) + 1 := by
    rw [hs3, rget_iset_ne _ _ _ hdni, rget_cnt hwf, cnt, rget_rset_ne _ _ hdropdn.symm]
    rfl
  have hdrop : rget s3 (aNET_DROP_CNT n) = rget s (aNET_DROP_CNT n) + w32 gone := by
    rw [hs3, rget_iset_ne _ _ _ hdropi, cnt, rget_rset_ne _ _ hdropdn, rget_cnt hs]
  have hi : rbit s3 (aISTAT (pgNET n)) 0 = true := rbit_iset (cnt_regs_wf hwf ..) _ (by decide)
  show KeepsBut [.regs] s (if s.net.tx.isEmpty then s3 else iset pgSTREAMTX 1 s3) ∧ _
  unfold linkCounted
  dsimp only
  rw [← hs3]
  by_cases he : s.net.tx.isEmpty = true
  · rw [if_pos he]
    exact ⟨hk, hcfg, hdn, hdrop, hi, fun h => absurd (List.isEmpty_iff.1 he) h⟩
  · rw [if_neg he]
    obtain ⟨h1, h2, h3, h4⟩ := htx
    refine ⟨hk.trans (((Within.refl [.regs] (fun _ => True) s3).iset 1 (by decide) trivial).1), ?_, ?_, ?_, ?_,
      fun _ => rbit_iset_any ⟨pgSTREAMTX, by decide⟩ (by decide) _⟩
    · rwa [rget_iset_ne _ _ _ h4]
    · rwa [rget_iset_ne _ _ _ h2]
    · rwa [rget_iset_ne _ _ _ h3]
    · rwa [rbit, rget_iset_ne _ _ _ h1]

theorem linkDown_effect (hs : Canonical s) (hl : Live s) {n : Fin 2} (b : Bool) (h : s.net.link[n].up = true) :
    Runs (.linkDown n b) s fun t => t.net.link[n].up = false ∧ t.net.link[n].hiBer = b ∧
      (∀ e ∈ t.net.macs, e.port ≠ n.val) ∧ (∀ e ∈ t.net.igmp, e.port ≠ n.val) ∧ (∀ q ∈ t.net.queue, q.port ≠ n.val) ∧
      (∀ e ∈ s.net.macs, e.port ≠ n.val → e ∈ t.net.macs) ∧ rbit t (aISTAT (pgNET n)) 0 = true ∧
      rget t (aNET_LINKDN_CNT n) = rget s (aNET_LINKDN_CNT n) + 1 ∧
      rget t (aNET_DROP_CNT n) =
        rget s (aNET_DROP_CNT n) + w32 ((netDrain s).net.queue.filter fun q => q.port == n.val).length ∧
      (s.net.tx ≠ [] → rbit t (aISTAT pgSTREAMTX) 1 = true) ∧
      (rbit s (aNET_CFG n) 31 = true → s.twin.st = .active → partnerHot s = true → s.twin.release = none →
        t.twin.release = some (.fault 7)) ∧
      (rbit s (aNET_CFG n) 31 = false → t.twin = s.twin) ∧ KeepsBut [.regs, .net, .twin] s t := by
  obtain ⟨-, hcfg, hdn, hdrop, -⟩ := netReg_ne n
  refine runs_awake hl rfl ?_
  rw [linkDown_up b h]
  dsimp only
  have hlines := lines_netDrain s
  have hcan : Canonical (netDrain s) := (Tidy.netDrain (q := s.pending) (c := True) ⟨rfl, fun _ => hs⟩).2 trivial
  set u := netDrain s with hu
  set gone := (u.net.queue.filter fun q => q.port == n.val).length with hgone
  obtain ⟨hkeep, -, hdn', hdrop', hi, htx⟩ := linkCounted_facts n gone (s := linkFlushed n b u) hcan.1
  set v := linkCounted n gone (linkFlushed n b u) with hv
  obtain ⟨hrel, x, hx⟩ := requestRelease_twin (.fault 7) v
  have hnet : v.net = (linkFlushed n b u).net := hkeep .net (by decide)
  have htwin : v.twin = s.twin := Eq.trans (hkeep .twin (by decide)) (hlines.win.1 .twin (by decide))
  have hkeepAll : KeepsBut [.regs, .net, .twin] s v :=
    (hlines.win.1.mono (by decide)).trans (((within_setNet ..).1.mono (by decide)).trans (hkeep.mono (by decide)))
  have hlink : v.net.link[n] = { u.net.link[n] with up := false, hiBer := b, anDone := false } := by
    rw [hnet]
    exact Vector.getElem_set_self n.isLt
  have hmain (t : State) (ht : ∃ x, t = { v with twin := x }) :
      t.net.link[n].up = false ∧ t.net.link[n].hiBer = b ∧
      (∀ e ∈ t.net.macs, e.port ≠ n.val) ∧ (∀ e ∈ t.net.igmp, e.port ≠ n.val) ∧ (∀ q ∈ t.net.queue, q.port ≠ n.val) ∧
      (∀ e ∈ s.net.macs, e.port ≠ n.val → e ∈ t.net.macs) ∧ rbit t (aISTAT (pgNET n)) 0 = true ∧
      rget t (aNET_LINKDN_CNT n) = rget s (aNET_LINKDN_CNT n) + 1 ∧
      rget t (aNET_DROP_CNT n) = rget s (aNET_DROP_CNT n) + w32 gone ∧
      (s.net.tx ≠ [] → rbit t (aISTAT pgSTREAMTX) 1 = true) ∧ KeepsBut [.regs, .net, .twin] s t := by
    obtain ⟨x, rfl⟩ := ht
    refine ⟨congrArg NetLink.up hlink, congrArg NetLink.hiBer hlink, fun e he => ?_, fun e he => ?_, fun q hq => ?_,
      fun e he hne => ?_,
      hi, hdn'.trans (congrArg (· + _) (hlines.rget hdn)), hdrop'.trans (congrArg (· + _) (hlines.rget hdrop)),
        fun h0 => htx ?_,
      hkeepAll.trans fun p hp => by cases p <;> first | rfl | exact absurd (by decide) hp⟩
    · have he' : e ∈ (linkFlushed n b u).net.macs := hnet ▸ he
      simpa using (List.mem_filter.1 he').2
    · have he' : e ∈ (linkFlushed n b u).net.igmp := hnet ▸ he
      simpa using (List.mem_filter.1 he').2
    · have hq' : q ∈ (linkFlushed n b u).net.queue := hnet ▸ hq
      simpa using (List.mem_filter.1 hq').2
    · show e ∈ v.net.macs
      rw [hnet]
      exact List.mem_filter.2 ⟨hlines.macs ▸ he, by simpa using hne⟩
    · exact fun hnil => h0 (hlines.tx.symm.trans hnil)
  have hcfg' : rbit u (aNET_CFG n) 31 = rbit s (aNET_CFG n) 31 := congrArg (bit · 31) (hlines.rget hcfg)
  rw [hcfg']
  by_cases hc : rbit s (aNET_CFG n) 31 = true
  · rw [if_pos hc]
    obtain ⟨h1, h2, h3, h4, h5, h6, h7, h8, h9, h10, h11⟩ := hmain _ ⟨x, hx⟩
    refine ⟨h1, h2, h3, h4, h5, h6, h7, h8, h9, h10, fun _ ha hp hr => hrel ?_ ?_ ?_, fun h0 => absurd
      (hc.symm.trans h0) (by decide),
      h11⟩
    · rw [htwin]; exact ha
    · unfold partnerHot; rw [htwin]; exact hp
    · rw [htwin]; exact hr
  · rw [if_neg hc]
    obtain ⟨h1, h2, h3, h4, h5, h6, h7, h8, h9, h10, h11⟩ := hmain v ⟨v.twin, rfl⟩
    exact ⟨h1, h2, h3, h4, h5, h6, h7, h8, h9, h10, fun h0 => absurd h0 hc, fun _ => htwin, h11⟩

/-! ### O45: packets that the switch hears -/

/-- A packet is counted at its port. -/
def heard (k : NetPkt) (n : Fin 2) (s : State) : State :=
  let s1 := cnt (aNET_RX_PKT n) s
  if k.fcsOk then s1 else iset (pgNET n) 2 (cnt (aNET_FCS_ERR n) s1)

/-- A whole packet that the switch takes is learned from. -/
def learned (k : NetPkt) (n : Fin 2) (s : State) : State :=
  if k.fcsOk then k.igmp.foldl (igmpReport n) (learn k (heard k n s)) else heard k n s

/-- Does a packet of a port pass cut-through? -/
def cutsThrough (s : State) (k : NetPkt) : Bool := decide (pktClass s k = 0) && sameRate s

/-- A packet that the switch takes goes to the egresses of its route. -/
def routed (k : NetPkt) (s u : State) : State :=
  ((routes k u).1.filter fun eg => k.fcsOk || eg != 2).foldl
    (fun t eg => egress k (pktClass s k) (cutsThrough s k && eg != 2) eg t) (routes k u).2

theorem cutsThrough_iff (s : State) (k : NetPkt) : cutsThrough s k = true ↔ cutThrough s k := by
  simp [cutsThrough, cutThrough]

theorem packetReceive_of_port {k : NetPkt} {n : Fin 2} (hp : k.port.val = n.val) (hup : s.net.link[n].up = true) :
    packetReceive k s =
      if ¬ enOf s pgSWITCH ∨ (¬ k.fcsOk ∧ ¬ cutsThrough s k) then cnt (aNET_DROP_CNT n) (heard k n s)
      else if k.etype.toNat = rfld s aSWITCH_MGMT 31 16 ∧ pktVid s k ≠ rfld s aSWITCH_MGMT 11 0 then
        cnt aSWITCH_MGMT_DROP (heard k n s)
      else routed k s (learned k n s) := by
  have hlt : k.port.val < 2 := hp ▸ n.isLt
  obtain rfl : n = ⟨k.port.val, hlt⟩ := Fin.ext hp.symm
  unfold packetReceive
  dsimp only
  rw [dif_pos hlt, if_neg (by rw [hup]; decide)]
  rfl

theorem packetReceive_taken {k : NetPkt} {n : Fin 2} (hp : k.port.val = n.val) (hup : s.net.link[n].up = true)
    (ht : switchTakes s k) : packetReceive k s = routed k s (learned k n s) := by
  obtain ⟨hen, hfcs, hmgmt⟩ := ht
  rw [packetReceive_of_port hp hup, if_neg, if_neg hmgmt]
  rintro (h | ⟨h, h'⟩)
  · exact h hen
  · rcases hfcs with hf | hf
    · exact h hf
    · exact h' ((cutsThrough_iff s k).2 hf)

theorem heardReg_ne (n : Fin 2) : aNET_RX_PKT n ≠ aNET_DROP_CNT n ∧ aNET_RX_PKT n ≠ aISTAT (pgNET n) ∧ aNET_RX_PKT n
    ≠ aNET_FCS_ERR n ∧
    aNET_FCS_ERR n ≠ aISTAT (pgNET n) ∧ aNET_FCS_ERR n ≠ aNET_DROP_CNT n ∧ aISTAT (pgNET n) ≠ aNET_DROP_CNT n := by
  fin_cases n <;> decide

theorem within_heard (k : NetPkt) (n : Fin 2) (s : State) :
    Within [.regs] (· ∈ [aNET_RX_PKT n, aNET_FCS_ERR n, aISTAT (pgNET n)]) s (heard k n s) := by
  have h1 := (Within.refl [.regs] (· ∈ [aNET_RX_PKT n, aNET_FCS_ERR n, aISTAT (pgNET n)]) s).cnt (a := aNET_RX_PKT n) 1
    (by decide) (by simp)
  exact .ite h1 ((h1.cnt (a := aNET_FCS_ERR n) 1 (by decide) (by simp)).iset (p := pgNET n) 2 (by decide) (by simp))

/-- The counts of a packet that is heard. -/
theorem heard_facts (hs : spWf resetWord s.regs = true) (k : NetPkt) (n : Fin 2) :
    spWf resetWord (heard k n s).regs = true ∧ rget (heard k n s) (aNET_RX_PKT n) = rget s (aNET_RX_PKT n) + 1 ∧
      (k.fcsOk = false → rget (heard k n s) (aNET_FCS_ERR n) = rget s (aNET_FCS_ERR n) + 1 ∧
        rbit (heard k n s) (aISTAT (pgNET n)) 2 = true) := by
  obtain ⟨-, hrxi, hrxf, hfi, -, -⟩ := heardReg_ne n
  have h1 := cnt_regs_wf hs (aNET_RX_PKT n) 1
  have h2 := cnt_regs_wf h1 (aNET_FCS_ERR n) 1
  unfold heard
  dsimp only
  cases hf : k.fcsOk with
  | true =>
    rw [if_pos rfl]
    exact ⟨h1, rget_cnt hs .., fun h => absurd h (by decide)⟩
  | false =>
    rw [if_neg (by decide)]
    refine ⟨iset_regs_wf h2 .., ?_, fun _ => ⟨?_, rbit_iset h2 _ (by decide)⟩⟩
    · rw [rget_iset_ne _ _ _ hrxi, cnt, rget_rset_ne _ _ hrxf, rget_cnt hs]
      rfl
    · rw [rget_iset_ne _ _ _ hfi, rget_cnt h1, cnt, rget_rset_ne _ _ hrxf.symm]
      rfl

theorem packetReceive_stopped (hs : Canonical s) (hl : Live s) {k : NetPkt} {n : Fin 2} (hp : k.port.val = n.val)
    (hup : s.net.link[n].up = true) (h : enOf s pgSWITCH = false ∨ (k.fcsOk = false ∧ ¬ cutThrough s k)) :
    Runs (.packetReceive k) s fun t => rget t (aNET_RX_PKT n) = rget s (aNET_RX_PKT n) + 1 ∧
      rget t (aNET_DROP_CNT n) = rget s (aNET_DROP_CNT n) + 1 ∧
      (k.fcsOk = false → rget t (aNET_FCS_ERR n) = rget s (aNET_FCS_ERR n) + 1 ∧ rbit t (aISTAT (pgNET n)) 2 = true) ∧
      KeepsBut [.regs] s t ∧ RegsOnly [aNET_RX_PKT n, aNET_DROP_CNT n, aNET_FCS_ERR n, aISTAT (pgNET n)] s t := by
  obtain ⟨hrxd, -, -, -, hfd, hid⟩ := heardReg_ne n
  have hdx : aNET_DROP_CNT n ∉ [aNET_RX_PKT n, aNET_FCS_ERR n, aISTAT (pgNET n)] := by fin_cases n <;> decide
  refine runs_awake hl rfl ?_
  rw [packetReceive_of_port hp hup, if_pos (h.imp (fun h0 => by rw [h0]; decide)
    fun ⟨hf, hc⟩ => ⟨by rw [hf]; decide, fun hct => hc ((cutsThrough_iff s k).1 hct)⟩)]
  obtain ⟨hwf, hrx, hfcs⟩ := heard_facts hs.1 k n
  have hw := within_heard k n s
  have hall : Within [.regs] (· ∈ [aNET_RX_PKT n, aNET_DROP_CNT n, aNET_FCS_ERR n, aISTAT (pgNET n)]) s
      (cnt (aNET_DROP_CNT n) (heard k n s)) :=
    (hw.mono (by decide) fun a ha => by
      simp only [List.mem_cons, List.not_mem_nil, or_false] at ha ⊢
      tauto).cnt 1 (by decide) (by simp)
  refine ⟨?_, ?_, fun hf => ⟨?_, ?_⟩, hall.1, hall.2⟩
  · rw [cnt, rget_rset_ne _ _ hrxd, hrx]
  · rw [rget_cnt hwf, hw.2 _ hdx]
    rfl
  · rw [cnt, rget_rset_ne _ _ hfd, (hfcs hf).1]
  · rw [rbit, cnt, rget_rset_ne _ _ hid]
    exact (hfcs hf).2

/-! What the switch learns -/

/-- The registers that hearing and learning may change. -/
def hearRegs (n : Fin 2) : List Nat := [aNET_RX_PKT n, aNET_FCS_ERR n, aISTAT (pgNET n), aISTAT pgSWITCH,
    aSWITCH_IGMP_OVF]

/-- From `s` to `t` a packet was heard at port `n`: counts and the tables of the switch differ. -/
structure Hears (n : Fin 2) (s t : State) : Prop where
  win : Within [.regs, .net] (· ∈ hearRegs n) s t
  net : t.net = { s.net with macs := t.net.macs, igmp := t.net.igmp, ovf := t.net.ovf }

theorem Hears.trans {n : Fin 2} {t u : State} (h : Hears n s t) (h' : Hears n t u) : Hears n s u :=
  ⟨h.win.trans h'.win, by rw [h'.net, h.net]⟩

theorem hears_heard (k : NetPkt) (n : Fin 2) (s : State) : Hears n s (heard k n s) := by
  have hw := within_heard k n s
  refine ⟨hw.mono (by decide) fun a ha => ?_, by rw [show (heard k n s).net = s.net from hw.1 .net (by decide)]⟩
  simp only [List.mem_cons, List.not_mem_nil, or_false, hearRegs] at ha ⊢
  tauto

theorem hears_learn (k : NetPkt) (n : Fin 2) (s : State) : Hears n s (learn k s) := by
  unfold learn
  split
  · exact ⟨.refl .., rfl⟩
  · obtain ⟨m, hm⟩ := learnAt_cases k.smac k.port s
    rw [hm]
    exact ⟨(Within.refl ..).setNet _, rfl⟩

theorem hears_igmpReport (n : Fin 2) (r : Word × Bool) (s : State) : Hears n s (igmpReport n s r) := by
  unfold igmpReport
  dsimp only
  have hi : Hears n s (iset pgSWITCH 1 s) := ⟨(Within.refl ..).iset 1 (by decide) (by simp [hearRegs]), rfl⟩
  split
  · exact ⟨(Within.refl ..).setNet _, rfl⟩
  · split
    · exact ⟨(Within.refl ..).setNet _, rfl⟩
    · split
      · exact hi
      · exact hi.trans ⟨((Within.refl ..).setNet _).cnt 1 (by decide) (by simp [hearRegs]), rfl⟩

theorem macs_igmpReport (n : Nat) (r : Word × Bool) (s : State) : (igmpReport n s r).net.macs = s.net.macs := by
  unfold igmpReport
  dsimp only
  split
  · rfl
  · split
    · rfl
    · split <;> rfl

theorem hears_learned (k : NetPkt) (n : Fin 2) (s : State) : Hears n s (learned k n s) := by
  have hh := hears_heard k n s
  unfold learned
  split
  · refine hh.trans ((hears_learn k n _).trans ?_)
    generalize learn k (heard k n s) = u
    generalize k.igmp = l
    induction l generalizing u with
    | nil => exact ⟨.refl .., rfl⟩
    | cons r l ih => exact (hears_igmpReport n r u).trans (ih _)
  · exact hh

/-- The table of addresses after a packet has been heard. -/
theorem macs_learned (k : NetPkt) (n : Fin 2) (s : State) :
    (learned k n s).net.macs = (if k.fcsOk then (learn k s).net.macs else s.net.macs) := by
  have hh : (heard k n s).net = s.net := (within_heard k n s).1 .net (by decide)
  have hn : (heard k n s).now = s.now := (within_heard k n s).1 .now (by decide)
  unfold learned
  split
  · have hl : (learn k (heard k n s)).net.macs = (learn k s).net.macs := by
      unfold learn learnAt
      split
      · rw [hh]
      · dsimp only
        rw [hh, hn]
        split
        · rfl
        · rw [hh]
    rw [← hl]
    generalize learn k (heard k n s) = u
    generalize k.igmp = l
    induction l generalizing u with
    | nil => rfl
    | cons r l ih => exact (ih _).trans (macs_igmpReport ..)
  · rw [hh]

/-- Learning a source leaves what is known of other addresses. -/
theorem find_learn {k : NetPkt} (h : k.dmac ≠ k.smac) (s : State) :
    (learn k s).net.macs.find? (fun e => e.mac == k.dmac) = s.net.macs.find? fun e => e.mac == k.dmac := by
  have hfilter : (s.net.macs.filter fun e => e.mac != k.smac).find? (fun e => e.mac == k.dmac) =
      s.net.macs.find? fun e => e.mac == k.dmac := by
    rw [List.find?_filter]
    congr 1
    funext e
    by_cases he : e.mac = k.dmac
    · simp [he, h]
    · simp [he]
  unfold learn learnAt
  split
  · rfl
  · dsimp only
    split
    · show (_ ++ [_]).find? _ = _
      rw [List.find?_append, hfilter]
      simp [h.symm]
    · rfl

theorem find_learned {k : NetPkt} (h : k.dmac ≠ k.smac) (n : Fin 2) (s : State) :
    (learned k n s).net.macs.find? (fun e => e.mac == k.dmac) = s.net.macs.find? fun e => e.mac == k.dmac := by
  rw [macs_learned]
  split
  · exact find_learn h s
  · rfl

theorem mem_macs_learned {k : NetPkt} {n : Fin 2} (hp : k.port.val = n.val) (hf : k.fcsOk = true)
    (hm : isMcast k.smac = false)
    (hroom : (s.net.macs.filter fun e => e.mac != k.smac).length < 2048) : ⟨k.smac, n.val, s.now⟩ ∈
      (learned k n s).net.macs := by
  rw [macs_learned, if_pos hf, learn, if_neg (by rw [hm]; decide), learnAt]
  dsimp only
  rw [if_pos hroom, hp]
  exact List.mem_append_right _ List.mem_cons_self

theorem igmp_learned {k : NetPkt} (h : k.igmp = []) (n : Fin 2) (s : State) : (learned k n s).net.igmp =
    s.net.igmp := by
  have hh : (heard k n s).net = s.net := (within_heard k n s).1 .net (by decide)
  unfold learned
  rw [h]
  split
  · show (learn k (heard k n s)).net.igmp = _
    unfold learn
    split
    · rw [hh]
    · obtain ⟨m, hm⟩ := learnAt_cases k.smac k.port (heard k n s)
      rw [hm]
      exact (congrArg NetSt.igmp hh :)
  · rw [hh]

theorem canonical_learned (hs : Canonical s) (k : NetPkt) (n : Fin 2) : Canonical (learned k n s) := by
  have h : Tidy s.pending True s := ⟨rfl, fun _ => hs⟩
  have hh : Tidy s.pending True (heard k n s) := .ite (h.cnt ..) (((h.cnt ..).cnt ..).iset ..)
  have hl : Tidy s.pending True (learned k n s) := .ite ((hh.learn k).foldl fun _ _ h1 => h1.igmpReport ..) hh
  exact hl.2 trivial

/-! Egresses -/

theorem egress_endpoint (k : NetPkt) (c : Nat) (cut : Bool) (s : State) :
    egress k c cut 2 s = if k.full.getLsbD 2 then
      (if c = 0 then iset pgSWITCH 2 (cnt (qdropReg c) s) else cnt (qdropReg c) s) else s := by
  unfold egress
  match c with
  | 0 | 1 | _ + 2 => rfl

theorem egress_port {k : NetPkt} (hk : k.ptp = none) (c : Nat) (cut : Bool) (o : Fin 2) (s : State) :
    egress k c cut o.castSucc s =
      if k.full.getLsbD o then (if c = 0 then iset pgSWITCH 2 (cnt (qdropReg c) s) else cnt (qdropReg c) s)
      else if s.net.link[o].up then
        enqueuePkt o c (.fwd o k.dmac k.len (!k.fcsOk) none) (if cut then cnt aSWITCH_CT_CNT s else s)
      else cnt (aNET_DROP_CNT o) s := by
  have hlt : o.castSucc.val < 2 := o.isLt
  unfold egress
  dsimp only
  rw [dif_pos hlt, hk]
  cases hup : s.net.link[o].up with
  | true =>
    rw [if_pos (show _ = true from rfl), if_neg (show ¬ ¬ s.net.link[(⟨o.castSucc.val, hlt⟩ : Fin 2)].up = true from
      fun h => h hup)]
    match c with
    | 0 | 1 | _ + 2 => rfl
  | false =>
    rw [if_neg (show ¬ false = true
      by decide), if_pos (show ¬ s.net.link[(⟨o.castSucc.val, hlt⟩ : Fin 2)].up = true from by
      rw [show s.net.link[(⟨o.castSucc.val, hlt⟩ : Fin 2)].up = false from hup]; decide)]
    match c with
    | 0 | 1 | _ + 2 => rfl

/-- The endpoint takes a packet: at most a class drop is counted. -/
theorem within_egress_endpoint (k : NetPkt) (c : Nat) (cut : Bool) (s : State) :
    Within [.regs] (· ∈ [qdropReg c, aISTAT pgSWITCH]) s (egress k c cut 2 s) ∧
      (k.full.getLsbD 2 = false → egress k c cut 2 s = s) := by
  rw [egress_endpoint]
  have hc : Within [.regs] (· ∈ [qdropReg c, aISTAT pgSWITCH]) s (cnt (qdropReg c) s) :=
    (Within.refl ..).cnt 1 (by decide) (by simp)
  exact ⟨.ite (.ite (hc.iset 2 (by decide) (by simp)) hc) (.refl ..), fun h => if_neg (by rw [h]; decide)⟩

/-- What the egress of a port leaves of a packet: its counts, or the packet in the queue or sent. -/
def portEgress (k : NetPkt) (c : Nat) (cut : Bool) (o : Fin 2) (u : State) : State := egress k c cut o.castSucc u

theorem qdropReg_cases (c : Nat) : qdropReg c = aSWITCH_QDROP_A ∨ qdropReg c = aSWITCH_QDROP_B ∨ qdropReg c =
    aSWITCH_QDROP_C := by
  match c with
  | 0 | 1 | _ + 2 => simp [qdropReg]

theorem qdropReg_not_heard (c : Nat) (n o : Fin 2) : qdropReg c ∉ hearRegs n ∧ qdropReg c ≠ aISTAT pgSWITCH ∧
    qdropReg c ≠ aNET_TX_PKT o ∧ qdropReg c ≠ aNET_DROP_CNT o := by
  rcases qdropReg_cases c with h | h | h <;> rw [h] <;> fin_cases n <;> fin_cases o <;> decide

theorem portReg_not_heard (n o : Fin 2) : aNET_TX_PKT o ∉ hearRegs n ∧ aNET_DROP_CNT o ∉ hearRegs n ∧
    aNET_TX_PKT o ≠ aISTAT pgSWITCH ∧ aNET_DROP_CNT o ≠ aISTAT pgSWITCH ∧ aNET_TX_PKT o ≠ aSWITCH_CT_CNT := by
  fin_cases n <;> fin_cases o <;> decide

theorem rget_sendPkt (hs : spWf resetWord s.regs = true) (n : Fin 2) (t : Nat) (p : SentPkt) :
    rget (sendPkt n t p s) (aNET_TX_PKT n) = rget s (aNET_TX_PKT n) + 1 :=
  rget_cnt (s := setNet _ s) hs ..

/-- A packet that goes to port `o` has left in state `t`: into the queue of its class or out of it, or into a count. -/
structure Forwarded (o : Fin 2) (c : Nat) (k : NetPkt) (s u t : State) : Prop where
  keeps : KeepsBut [.regs, .net] s t
  macs : t.net.macs = u.net.macs
  out : k.full.getLsbD o = false → s.net.link[o].up = true → goesOut o c (.fwd o k.dmac k.len (!k.fcsOk) none) t ∧
    (idleLine s o → t.net.sent.head? = some (.fwd o k.dmac k.len (!k.fcsOk) none) ∧
      rget t (aNET_TX_PKT o) = rget s (aNET_TX_PKT o) + 1)
  full : k.full.getLsbD o = true → k.full.getLsbD 2 = false → t.net.queue = s.net.queue ∧ t.net.sent = s.net.sent ∧
    rget t (qdropReg c) = rget s (qdropReg c) + 1
  down : k.full.getLsbD o = false → s.net.link[o].up = false → t.net.queue = s.net.queue ∧
    rget t (aNET_DROP_CNT o) = rget s (aNET_DROP_CNT o) + 1

theorem forwarded_port {n o : Fin 2} {k : NetPkt} {u : State} (hk : k.ptp = none) (hh : Hears n s u)
    (hwf : spWf resetWord u.regs = true) (c : Nat) (cut : Bool) : Forwarded o c k s u
      (egress k c cut o.castSucc u) := by
  obtain ⟨hq, hqi, hqt, hqd⟩ := qdropReg_not_heard c n o
  obtain ⟨htx, hdr, htxi, hdri, htxc⟩ := portReg_not_heard n o
  have hlink : u.net.link = s.net.link := by rw [hh.net]
  have hqueue : u.net.queue = s.net.queue := by rw [hh.net]
  have hsent : u.net.sent = s.net.sent := by rw [hh.net]
  have hfree : u.net.free = s.net.free := by rw [hh.net]
  rw [egress_port hk, hlink]
  by_cases hfull : k.full.getLsbD o = true
  · rw [if_pos hfull]
    have hc : Within [.regs] (· ∈ [qdropReg c, aISTAT pgSWITCH]) u (cnt (qdropReg c) u) :=
      (Within.refl ..).cnt 1 (by decide) (by simp)
    have hcount : rget (cnt (qdropReg c) u) (qdropReg c) = rget s (qdropReg c) + 1 := by
      rw [rget_cnt hwf, hh.win.2 _ hq]
      rfl
    have hboth (t : State) (hw : Within [.regs] (· ∈ [qdropReg c, aISTAT pgSWITCH]) u t)
        (hr : rget t (qdropReg c) = rget s (qdropReg c) + 1) : Forwarded o c k s u t := by
      have hnet : t.net = u.net := hw.1 .net (by decide)
      exact ⟨hh.win.1.trans (hw.1.mono (by decide)), by rw [hnet], fun h => absurd (hfull.symm.trans h) (by decide),
        fun _ _ => ⟨by rw [hnet, hqueue], by rw [hnet, hsent], hr⟩, fun h => absurd (hfull.symm.trans h) (by decide)⟩
    split
    · exact hboth _ (hc.iset 2 (by decide) (by simp)) (by rw [rget_iset_ne _ _ _ hqi]; exact hcount)
    · exact hboth _ hc hcount
  · rw [if_neg hfull]
    by_cases hup : s.net.link[o].up = true
    · rw [if_pos hup]
      have hcnt : Within [.regs] (· = aSWITCH_CT_CNT) u (cnt aSWITCH_CT_CNT u) := (Within.refl ..).cnt 1 (by decide) rfl
      set v := if cut then cnt aSWITCH_CT_CNT u else u with hv
      have hvw : Within [.regs] (· = aSWITCH_CT_CNT) u v := .ite hcnt (.refl ..)
      have hvwf : spWf resetWord v.regs = true := by
        rw [hv]
        split
        · exact cnt_regs_wf hwf ..
        · exact hwf
      have hvnet : v.net = u.net := hvw.1 .net (by decide)
      have hl := lines_enqueuePkt o c (.fwd o k.dmac k.len (!k.fcsOk) none) v
      refine ⟨hh.win.1.trans ((hvw.1.mono (by decide)).trans hl.win.1), by rw [hl.macs, hvnet],
        fun _ _ => ⟨(justOut_enqueuePkt ..).goesOut, fun hidle => ?_⟩, fun h => absurd h hfull,
        fun _ h => absurd (hup.symm.trans h) (by decide)⟩
      have hnow : v.now = s.now := Eq.trans (hvw.1 .now (by decide)) (hh.win.1 .now (by decide))
      have hvidle : idleLine v o := ⟨by rw [hvnet, hqueue]; exact hidle.1, by rw [hvnet, hfree, hnow]; exact hidle.2⟩
      rw [enqueuePkt_idle hvidle]
      refine ⟨rfl, ?_⟩
      rw [rget_sendPkt hvwf, hvw.2 _ htxc, hh.win.2 _ htx]
    · rw [if_neg hup]
      have hw : Within [.regs] (· = aNET_DROP_CNT o) u (cnt (aNET_DROP_CNT o) u) := (Within.refl ..).cnt 1
          (by decide) rfl
      refine ⟨hh.win.1.trans (hw.1.mono (by decide)), rfl, fun _ h => absurd h hup, fun h => absurd h hfull,
        fun _ _ => ⟨hqueue, ?_⟩⟩
      rw [rget_cnt hwf, hh.win.2 _ hdr]
      rfl

/-- The endpoint's own copy leaves what the port's egress did. -/
theorem Forwarded.endpoint {n o : Fin 2} {c : Nat} {k : NetPkt} {u t : State} (h : Forwarded o c k s u t) (cut : Bool) :
    Forwarded o c k s u (egress k c cut 2 t) := by
  obtain ⟨hq, hqi, hqt, hqd⟩ := qdropReg_not_heard c n o
  obtain ⟨htx, hdr, htxi, hdri, -⟩ := portReg_not_heard n o
  obtain ⟨hw, hsame⟩ := within_egress_endpoint k c cut t
  have hnet : (egress k c cut 2 t).net = t.net := hw.1 .net (by decide)
  have htx' : rget (egress k c cut 2 t) (aNET_TX_PKT o) = rget t (aNET_TX_PKT o) := hw.2 _ (by simp [hqt.symm, htxi])
  have hdr' : rget (egress k c cut 2 t) (aNET_DROP_CNT o) = rget t (aNET_DROP_CNT o) := hw.2 _
      (by simp [hqd.symm, hdri])
  refine ⟨h.keeps.trans (hw.1.mono
    (by decide)), by rw [hnet, h.macs], fun hf hup => ?_, fun hf h2 => ?_, fun hf hup => ?_⟩
  · obtain ⟨hout, hidle⟩ := h.out hf hup
    refine ⟨?_, fun hi => ?_⟩
    · unfold goesOut at hout ⊢
      rwa [hnet]
    · rw [hnet, htx']
      exact hidle hi
  · rw [hsame h2]
    exact h.full hf h2
  · rw [hnet, hdr']
    exact h.down hf hup

/-! Routes -/

/-- The egresses of a packet of port `n` but its own: the other port, then the endpoint. -/
theorem otherEgresses {k : NetPkt} {n o : Fin 2} (hp : k.port.val = n.val) (ho : o ≠ n) :
    ([0, 1, 2].filter fun x : Fin 3 => x != k.port) = [o.castSucc, 2] := by
  rw [show k.port = n.castSucc from Fin.ext hp]
  fin_cases n <;> fin_cases o <;> first | rfl | exact absurd rfl ho

theorem routesPlain_unicast {k : NetPkt} (hm : isMcast k.dmac = false) (u : State) :
    routesPlain k u = match u.net.macs.find? (fun e => e.mac == k.dmac) with
      | some e => (([0, 1, 2].filter fun x : Fin 3 => x != k.port).filter fun n => e.port == n.val, u)
      | none => ([0, 1, 2].filter fun x : Fin 3 => x != k.port, u) := by
  unfold routesPlain
  exact if_pos (by rw [hm]; decide)

theorem routesPlain_group {k : NetPkt} (hm : isMcast k.dmac = true) {g : Word} (hg : k.group = some g)
    (hlocal : g.toNat / 256 ≠ 0xE00000) {u : State} (hmem : ∃ e ∈ u.net.igmp, e.group = g) :
    routesPlain k u = (([0, 1, 2].filter fun x : Fin 3 => x != k.port).filter fun n =>
      u.net.igmp.any fun e => e.group == g && e.port == n.val, u) := by
  have hcontains : (igmpGroups u).contains g = true := by
    obtain ⟨e, he, hge⟩ := hmem
    simp only [igmpGroups, List.contains_iff_mem, List.mem_dedup, List.mem_map]
    exact ⟨e, he, hge⟩
  unfold routesPlain
  dsimp only
  rw [if_neg (by rw [hm]; decide), hg]
  dsimp only
  rw [if_neg hlocal, if_pos hcontains]

/-- A packet whose route is `l`. -/
theorem routed_of_route {k : NetPkt} (hk : k.ptp = none) {u v : State} {l : List (Fin 3)}
    (h : routesPlain k u = (l, v)) :
    routed k s u = (l.filter fun eg => k.fcsOk || eg != 2).foldl
      (fun t eg => egress k (pktClass s k) (cutsThrough s k && eg != 2) eg t) v := by
  have hr : routes k u = (l, v) := by
    unfold routes
    rw [hk]
    exact h
  unfold routed
  rw [hr]

/-- A packet for the other port, and perhaps the endpoint. -/
theorem forwarded_route {k : NetPkt} {n o : Fin 2} (hk : k.ptp = none) {u : State} (hh : Hears n s u)
    (hwf : spWf resetWord u.regs = true) {l : List (Fin 3)} (h : routesPlain k u = (l, u))
    (hl : l = [o.castSucc] ∨ l = [o.castSucc, 2]) : Forwarded o (pktClass s k) k s u (routed k s u) := by
  have ho : (k.fcsOk || o.castSucc != 2) = true := by fin_cases o <;> simp
  have hport := forwarded_port hk hh hwf (pktClass s k) (cutsThrough s k && o.castSucc != 2) (o := o)
  rw [routed_of_route hk h]
  rcases hl with rfl | rfl
  · rw [List.filter_cons_of_pos (by exact ho)]
    exact hport
  · rw [List.filter_cons_of_pos (by exact ho)]
    cases hf : k.fcsOk with
    | true => exact hport.endpoint (n := n) _
    | false => exact hport

/-- A packet for no port, and perhaps the endpoint, is not sent. -/
theorem unsent_route {k : NetPkt} {n : Fin 2} (hk : k.ptp = none) {u : State} (hh : Hears n s u) {l : List (Fin 3)}
    (h : routesPlain k u = (l, u)) (hl : l = [] ∨ l = [2]) :
    (routed k s u).net.queue = s.net.queue ∧ (routed k s u).net.sent = s.net.sent ∧ KeepsBut [.regs, .net] s
      (routed k s u) := by
  have hqueue : u.net.queue = s.net.queue := by rw [hh.net]
  have hsent : u.net.sent = s.net.sent := by rw [hh.net]
  have hdone (t : State) (ht : KeepsBut [.regs] u t) :
      t.net.queue = s.net.queue ∧ t.net.sent = s.net.sent ∧ KeepsBut [.regs, .net] s t := by
    have hnet : t.net = u.net := ht .net (by decide)
    exact ⟨by rw [hnet, hqueue], by rw [hnet, hsent], hh.win.1.trans (ht.mono (by decide))⟩
  rw [routed_of_route hk h]
  rcases hl with rfl | rfl
  · exact hdone _ (Within.refl _ (fun _ => True) u).1
  · cases hf : k.fcsOk with
    | true => exact hdone _ (within_egress_endpoint ..).1.1
    | false => exact hdone _ (Within.refl _ (fun _ => True) u).1

/-! ### O45: packets -/

/-- Of a route of two egresses the first one stays or not. -/
theorem filter_pair (p : Fin 3 → Bool) (a b : Fin 3) :
    (p a = true → [a, b].filter p = [a] ∨ [a, b].filter p = [a, b]) ∧
      (p a = false → [a, b].filter p = [] ∨ [a, b].filter p = [b]) := by
  cases ha : p a <;> cases hb : p b <;> simp [ha, hb]

theorem packetReceive_unicast (hs : Canonical s) {k : NetPkt} {n o : Fin 2} (hp : k.port.val = n.val) (ho : o ≠ n)
    (hup : s.net.link[n].up = true) (ht : switchTakes s k) (hk : k.ptp = none) (hm : isMcast k.dmac = false)
    (hne : k.dmac ≠ k.smac) (hmac : (∀ e ∈ s.net.macs, e.mac ≠ k.dmac) ∨
      ∃ e, s.net.macs.find? (fun e => e.mac == k.dmac) = some e ∧ e.port = o.val) :
    ∃ u, Forwarded o (pktClass s k) k s u (packetReceive k s) ∧ (k.fcsOk = true → isMcast k.smac = false →
      (s.net.macs.filter fun e => e.mac != k.smac).length < 2048 → ⟨k.smac, n.val, s.now⟩ ∈ u.net.macs) := by
  refine ⟨learned k n s, ?_, fun hf hms hroom => mem_macs_learned hp hf hms hroom⟩
  have hwf := (canonical_learned hs k n).1
  have hroute := routesPlain_unicast hm (learned k n s)
  rw [find_learned hne, otherEgresses hp ho] at hroute
  rw [packetReceive_taken hp hup ht]
  rcases hmac with hnone | ⟨e, he, hport⟩
  · rw [List.find?_eq_none.2 fun e he => by simpa using hnone e he] at hroute
    exact forwarded_route hk (hears_learned k n s) hwf hroute (.inr rfl)
  · rw [he] at hroute
    refine forwarded_route hk (hears_learned k n s) hwf hroute (.inl ?_)
    rw [hport]
    fin_cases o <;> rfl

theorem packetReceive_ownSide (hl : Live s) {k : NetPkt} {n : Fin 2} {e : MacEnt} (hp : k.port.val = n.val)
    (hup : s.net.link[n].up = true) (ht : switchTakes s k) (hk : k.ptp = none) (hm : isMcast k.dmac = false)
    (hne : k.dmac ≠ k.smac) (he : s.net.macs.find? (fun e => e.mac == k.dmac) = some e) (hport : e.port = n.val) :
    Runs (.packetReceive k) s fun t => t.net.queue = s.net.queue ∧ t.net.sent = s.net.sent ∧ KeepsBut [.regs, .net] s
      t := by
  have hroute := routesPlain_unicast hm (learned k n s)
  rw [find_learned hne, he] at hroute
  refine runs_awake hl rfl ?_
  rw [packetReceive_taken hp hup ht]
  refine unsent_route hk (hears_learned k n s) hroute (.inl ?_)
  rw [hport, List.filter_filter, List.filter_eq_nil_iff]
  intro x _
  simp only [Bool.and_eq_true, beq_iff_eq, bne_iff_ne, not_and, not_not]
  exact fun hx => Fin.ext (hx.symm.trans hp.symm)

theorem packetReceive_group (hs : Canonical s) (hl : Live s) {k : NetPkt} {n o : Fin 2} {g : Word}
    (hp : k.port.val = n.val) (ho : o ≠ n)
    (hup : s.net.link[n].up = true) (ht : switchTakes s k) (hk : k.ptp = none) (hm : isMcast k.dmac = true)
      (hg : k.group = some g)
    (hlocal : g.toNat / 256 ≠ 0xE00000) (hi : k.igmp = []) (hmem : ∃ e ∈ s.net.igmp, e.group = g) :
    Runs (.packetReceive k) s fun t => KeepsBut [.regs, .net] s t ∧
      ((∃ e ∈ s.net.igmp, e.group = g ∧ e.port = o.val) → k.full.getLsbD o = false → s.net.link[o].up = true →
        goesOut o (pktClass s k) (.fwd o k.dmac k.len (!k.fcsOk) none) t) ∧
      ((∀ e ∈ s.net.igmp, e.group = g → e.port ≠ o.val) → t.net.queue = s.net.queue ∧ t.net.sent = s.net.sent) := by
  have higmp := igmp_learned hi n s
  have hroute := routesPlain_group hm hg hlocal (u := learned k n s) (by rw [higmp]; exact hmem)
  rw [higmp, otherEgresses hp ho] at hroute
  have hwf := (canonical_learned hs k n).1
  refine runs_awake hl rfl ?_
  rw [packetReceive_taken hp hup ht]
  by_cases hmo : ∃ e ∈ s.net.igmp, e.group = g ∧ e.port = o.val
  · have hin : (s.net.igmp.any fun e => e.group == g && e.port == o.castSucc.val) = true := by
      simpa [List.any_eq_true] using hmo
    have hf := forwarded_route hk (hears_learned k n s) hwf hroute ((filter_pair _ _ _).1 hin)
    exact ⟨hf.keeps, fun _ hfull hlink => (hf.out hfull hlink).1,
      fun hnone => absurd hmo fun ⟨e, he, hge, hpo⟩ => hnone e he hge hpo⟩
  · have hin : (s.net.igmp.any fun e => e.group == g && e.port == o.castSucc.val) = false := by
      simpa [List.any_eq_true] using hmo
    obtain ⟨hq, hse, hk⟩ := unsent_route hk (hears_learned k n s) hroute ((filter_pair _ _ _).2 hin)
    exact ⟨hk, fun h => absurd h hmo, fun _ => ⟨hq, hse⟩⟩

/-! ### Packets of the endpoint on both ports -/

/-- The registers that a packet of the endpoint on port `n` may change. -/
def outRegs : List Nat := [aNET_TX_PKT 0, aNET_TX_PKT 1, aNET_DROP_CNT 0, aNET_DROP_CNT 1]

theorem sentRegs_outRegs : ∀ a ∈ sentRegs, a ∈ outRegs := by decide

theorem dropReg_mem (n : Fin 2) : aNET_DROP_CNT n ∈ outRegs := by fin_cases n <;> decide

/-- From `s` to `t` the endpoint sent a packet out of port `n`. -/
structure EpSent (n : Fin 2) (c : Nat) (p : SentPkt) (s t : State) : Prop where
  win : Within [.regs, .net] (· ∈ outRegs) s t
  net : t.net = { s.net with macs := t.net.macs, queue := t.net.queue, sent := t.net.sent, free := t.net.free }
  up : s.net.link[n].up = true → JustOut n c p t ∧ (∀ m, Drained m t) ∧ Within [.regs, .net] (· ∈ sentRegs) s t
  down : s.net.link[n].up = false → t.net.queue = s.net.queue ∧ t.net.sent = s.net.sent ∧
    Within [.regs, .net] (· = aNET_DROP_CNT n) s t ∧
    (spWf resetWord s.regs = true → rget t (aNET_DROP_CNT n) = rget s (aNET_DROP_CNT n) + 1)

theorem epSent_epSend (n : Fin 2) (c : Nat) (p : SentPkt) (s : State) : EpSent n c p s (epSend n c p s) := by
  obtain ⟨m, hm⟩ := learnAt_cases (macOf s n) 2 s
  cases hup : s.net.link[n].up with
  | true =>
    rw [epSend_up hup, hm]
    have hl := lines_enqueuePkt n c p (setNet { s.net with macs := m } s)
    have hw : Within [.regs, .net] (· ∈ sentRegs) s (enqueuePkt n c p (setNet { s.net with macs := m } s)) :=
      ((Within.refl ..).setNet _).trans hl.win
    exact ⟨hw.mono (by decide) sentRegs_outRegs, by rw [hl.net]; rfl,
      fun _ => ⟨justOut_enqueuePkt .., fun k => drained_enqueuePkt _ _ _ _ k, hw⟩, fun h => absurd (hup.symm.trans h)
        (by decide)⟩
  | false =>
    rw [epSend_down hup, hm]
    have hw : Within [.regs, .net] (· = aNET_DROP_CNT n) s (cnt (aNET_DROP_CNT n)
        (setNet { s.net with macs := m } s)) :=
      ((Within.refl ..).setNet _).cnt 1 (by decide) rfl
    exact ⟨hw.mono (by decide) fun a ha => ha ▸ dropReg_mem n, rfl, fun h => absurd (hup.symm.trans h) (by decide),
      fun _ => ⟨rfl, rfl, hw, fun hs => rget_cnt (s := setNet _ s) hs ..⟩⟩

theorem EpSent.link {n : Fin 2} {c : Nat} {p : SentPkt} {t : State} (h : EpSent n c p s t) : t.net.link =
    s.net.link := by
  rw [h.net]

/-- A packet that has gone out of port 0 stays out while one goes out of port 1. -/
theorem goesOut_epSent {c c' : Nat} {p p' : SentPkt} {n m : Fin 2} (h : JustOut n c p s) (hd : ∀ k, Drained k s) :
    goesOut n c p (epSend m c' p' s) := by
  obtain ⟨l, hm⟩ := learnAt_cases (macOf s m) 2 s
  cases hup : s.net.link[m].up with
  | true =>
    rw [epSend_up hup, hm]
    exact goesOut_enqueuePkt (s := setNet { s.net with macs := l } s) h fun k => drained_congr (hd k) rfl rfl rfl
  | false =>
    rw [epSend_down hup, hm]
    exact h.goesOut

/-- The endpoint sends one packet out of each port. -/
theorem epOut_both (hs : Canonical s) (c : Nat) (p : Fin 2 → SentPkt) (n : Fin 2) :
    epOut s n c (p n) (epSend 1 c (p 1) (epSend 0 c (p 0) s)) := by
  have h0 := epSent_epSend 0 c (p 0) s
  have hwf : spWf resetWord (epSend 0 c (p 0) s).regs = true :=
    ((Tidy.epSend (q := s.pending) (c := True) ⟨rfl, fun _ => hs⟩ 0 c (p 0)).2 trivial).1
  have h1 := epSent_epSend 1 c (p 1) (epSend 0 c (p 0) s)
  have hlink (m : Fin 2) : (epSend 0 c (p 0) s).net.link[m].up = s.net.link[m].up := by rw [h0.link]
  unfold epOut
  match n with
  | 0 =>
    split
    · rename_i hup
      obtain ⟨hj, hd, -⟩ := h0.up hup
      exact goesOut_epSent hj hd
    · rename_i hup
      obtain ⟨-, -, -, hcnt⟩ := h0.down (Bool.eq_false_iff.2 hup)
      rw [← hcnt hs.1]
      cases h1up : s.net.link[(1 : Fin 2)].up with
      | true => exact (h1.up ((hlink 1).trans h1up)).2.2.2 _ (by decide)
      | false => exact (h1.down ((hlink 1).trans h1up)).2.2.1.2 _ (by decide)
  | 1 =>
    split
    · rename_i hup
      exact (h1.up ((hlink 1).trans hup)).1.goesOut
    · rename_i hup
      have hdn := Bool.eq_false_iff.2 hup
      obtain ⟨-, -, -, hcnt⟩ := h1.down ((hlink 1).trans hdn)
      rw [hcnt hwf]
      congr 1
      cases h0up : s.net.link[(0 : Fin 2)].up with
      | true => exact (h0.up h0up).2.2.2 _ (by decide)
      | false => exact (h0.down h0up).2.2.1.2 _ (by decide)

theorem within_epOut_both (c : Nat) (p p' : SentPkt) (s : State) :
    Within [.regs, .net] (· ∈ outRegs) s (epSend 1 c p' (epSend 0 c p s)) ∧
      (epSend 1 c p' (epSend 0 c p s)).net.queryT = s.net.queryT := by
  have h0 := epSent_epSend 0 c p s
  have h1 := epSent_epSend 1 c p' (epSend 0 c p s)
  exact ⟨h0.win.trans h1.win, by rw [h1.net, h0.net]⟩

/-! ### O45 -/

theorem packetReceive_down {k : NetPkt} {n : Fin 2} (hp : k.port.val = n.val) (hup : s.net.link[n].up = false) :
    packetReceive k s = s := by
  have hlt : k.port.val < 2 := hp ▸ n.isLt
  obtain rfl : n = ⟨k.port.val, hlt⟩ := Fin.ext hp.symm
  unfold packetReceive
  dsimp only
  rw [dif_pos hlt, if_pos (by rw [hup]; decide)]

theorem macAgeOut_effect (hl : Live s) (m : BitVec 48) :
    Runs (.macAgeOut m) s fun t => KeepsBut [.net] s t ∧
      ∀ e, e ∈ t.net.macs ↔ e ∈ s.net.macs ∧ (e.mac ≠ m ∨ s.now < e.seen + rfld s aSWITCH_AGE 15 0 * 10 ^ 12) := by
  refine runs_awake hl rfl ⟨(within_setNet ..).1, fun e => List.mem_filter.trans (and_congr_right fun _ => ?_)⟩
  rw [Bool.or_eq_true, bne_iff_ne, decide_eq_true_iff]
  rfl

theorem igmpLapse_effect (hl : Live s) (g : Word) :
    Runs (.igmpLapse g) s fun t => KeepsBut [.net] s t ∧
      ∀ e, e ∈ t.net.igmp ↔ e ∈ s.net.igmp ∧ (e.group ≠ g ∨ e.port = 2 ∨ s.now < e.t + 260 * 10 ^ 12) := by
  refine runs_awake hl rfl ⟨(within_setNet ..).1, fun e => List.mem_filter.trans (and_congr_right fun _ => ?_)⟩
  rw [Bool.or_eq_true, Bool.or_eq_true, bne_iff_ne, decide_eq_true_iff, or_assoc, beq_iff_eq]
  rfl

/-- The general query of the querier on port `n`. -/
def queryPkt (s : State) (n : Fin 2) : SentPkt :=
  .query n ⟨0x01005E000001#48, macOf s n, some (tagOf s 2 (rfld s aSWITCH_CFG 11 0)), ipv4Etype⟩
    (rget s (aNET_IPADDR n))

theorem queryPkt_congr {t : State} {A : Nat → Prop} {l : List Part} (h : Within l A s t)
    (hA : ∀ a, A a → a ∈ outRegs) (n : Fin 2) : queryPkt t n = queryPkt s n := by
  have hr (a : Nat) (ha : a ∉ outRegs) : rget t a = rget s a := h.2 a fun hA' => ha (hA a hA')
  have hn : aNET_MAC_LO n ∉ outRegs ∧ aNET_MAC_HI n ∉ outRegs ∧ aNET_IPADDR n ∉ outRegs := by fin_cases n <;> decide
  unfold queryPkt macOf tagOf rfld
  rw [hr _ hn.1, hr _ hn.2.1, hr _ hn.2.2, hr aSWITCH_PCPMAP (by decide), hr aSWITCH_CFG (by decide)]

theorem igmpQuery_due (hs : Canonical s) (hl : Live s) (h1 : rbit s aSWITCH_IGMPCFG 1 = true)
    (h2 : enOf s pgSWITCH = true)
    (h3 : s.net.queryT + 125 * 10 ^ 12 ≤ s.now) :
    Runs .igmpQuery s fun t => t.net.queryT = s.now ∧ KeepsBut [.regs, .net] s t ∧ ∀ n, epOut s n 2 (queryPkt s n)
      t := by
  refine runs_awake hl rfl ?_
  set s1 := setNet { s.net with queryT := s.now } s with hs1
  have hrun : igmpQuery s = epSend 1 2 (queryPkt s 1) (epSend 0 2 (queryPkt s 0) s1) := by
    have hpkt : queryPkt (epSend 0 2 (queryPkt s 0) s1) 1 = queryPkt s 1 :=
      (queryPkt_congr (s := s1) (epSent_epSend 0 2 (queryPkt s 0) s1).win (fun _ h => h) 1).trans rfl
    rw [igmpQuery, if_pos ⟨h1, h2, h3⟩, ← hpkt]
    rfl
  rw [hrun]
  have hall := within_epOut_both 2 (queryPkt s 0) (queryPkt s 1) s1
  exact ⟨hall.2, ((within_setNet ..).1.mono
    (by decide)).trans hall.1.1, fun n => epOut_both (s := s1) hs 2 (queryPkt s) n⟩

theorem igmpQuery_idle (hl : Live s) (h : ¬ (rbit s aSWITCH_IGMPCFG 1 = true ∧ enOf s pgSWITCH = true ∧
    s.net.queryT + 125 * 10 ^ 12 ≤ s.now)) : Runs .igmpQuery s fun t => t = s :=
  runs_awake hl rfl (if_neg h)

/-- Settles O45. -/
theorem linksAndSwitch : Obligations.LinksAndSwitch := by
  refine ⟨fun s n b _ hl hr hb => linkUp_effect hl hr hb, fun s n hl hr hm => linkUp_held hl hr hm,
    fun s n b hl hr => linkUp_unready hl b hr, fun s n b hs hl hup => linkDown_effect hs hl b hup,
    fun s k n hs hl hp hup h => packetReceive_stopped hs hl hp hup h, ?_,
    fun s k n e _ hl hp hup ht hk hm hne he hport => packetReceive_ownSide hl hp hup ht hk hm hne he hport,
    fun s k n o g hs hl hp ho hup ht hk hm hg hlocal hi hmem => packetReceive_group hs hl hp ho hup ht hk hm hg
      hlocal hi hmem,
    fun s k n hl hp hup => runs_awake hl rfl (packetReceive_down hp hup), fun s m hl => macAgeOut_effect hl m,
    fun s g hl => igmpLapse_effect hl g, fun s hs hl => ?_⟩
  · intro s k n o hs hl hp ho hup ht hk hm hne hmac
    obtain ⟨u, hf, hlearn⟩ := packetReceive_unicast hs hp ho hup ht hk hm hne hmac
    exact runs_awake hl rfl ⟨hf.keeps, hf.out, hf.full, hf.down, fun h1 h2 h3 => hf.macs ▸ hlearn h1 h2 h3⟩
  · exact ⟨fun ⟨h1, h2, h3⟩ => igmpQuery_due hs hl h1 h2 h3, fun h => igmpQuery_idle hl h⟩

end Sys2Proof.Machine
end

section
/-!
PROOFS. Management packets of the device and to it (O46).
-/

-- One declaration after another: side by side, the stacks of the threads exceed what memory the check allows.
set_option Elab.async false

namespace Sys2Proof.Machine

variable {s : State}

/-! ### O46: packets to the endpoint -/

/-- The registers that the header of a management packet shows. -/
def headRegs : List Nat :=
  [aSWITCH_MGMT, aSWITCH_MGMT_MCAST_LO, aSWITCH_MGMT_MCAST_HI, aSWITCH_NODECFG, aSWITCH_PCPMAP, aOTP_CFG, aSYS_STRAPS,
    aNET_MAC_LO 0, aNET_MAC_LO 1, aNET_MAC_HI 0, aNET_MAC_HI 1]

theorem macOf_congr {t : State} (h : ∀ a ∈ headRegs, rget t a = rget s a) (n : Fin 2) : macOf t n = macOf s n := by
  have hn : aNET_MAC_LO n ∈ headRegs ∧ aNET_MAC_HI n ∈ headRegs := by fin_cases n <;> decide
  unfold macOf rfld
  rw [h _ hn.1, h _ hn.2]

/-- A management packet of the device shows its header registers and its twin state. -/
theorem mgmtOut_congr {t : State} (h : ∀ a ∈ headRegs, rget t a = rget s a) (htw : t.twin = s.twin) (ty : Nat)
    (dst : Option (Nat × BitVec 48)) (seq : Nat) (body : List Word) : mgmtOut t ty dst seq body = mgmtOut s ty dst
      seq body := by
  funext n
  unfold mgmtOut
  rw [macOf_congr h]
  unfold tagOf nodeId twinId activeOrSolo isSolo isActive rfld rbit
  rw [htw, h aSWITCH_MGMT (by decide), h aSWITCH_MGMT_MCAST_LO (by decide), h aSWITCH_MGMT_MCAST_HI (by decide),
    h aSWITCH_NODECFG (by decide), h aSWITCH_PCPMAP (by decide), h aOTP_CFG (by decide), h aSYS_STRAPS (by decide)]

/-- A management packet with this header on port `n` of the device in state `u`. -/
def headed (dmac : BitVec 48) (etype : BitVec 16) (head body : List Word) (n : Fin 2) (u : State) : SentPkt :=
  .mgmt n ⟨dmac, macOf u n, some (tagOf u 2 (rfld u aSWITCH_MGMT 11 0)), etype⟩ head body

theorem headed_congr {t : State} (h : ∀ a ∈ headRegs, rget t a = rget s a) {dmac : BitVec 48} {etype : BitVec 16}
    {head body : List Word} {n : Fin 2} : headed dmac etype head body n t = headed dmac etype head body n s := by
  unfold headed
  rw [macOf_congr h]
  unfold tagOf rfld
  rw [h aSWITCH_MGMT (by decide), h aSWITCH_PCPMAP (by decide)]

theorem headRegs_out : ∀ a ∈ headRegs, a ∉ outRegs := by decide

theorem sendMgmt_one (ty : Nat) (dst : Option (Nat × BitVec 48)) (seq : Nat) (body : List Word) (n : Fin 2)
    (s : State) :
    sendMgmt ty dst seq body [n] s = epSend n 2 (mgmtOut s ty dst seq body n) s := rfl

theorem sendMgmt_both (ty : Nat) (dst : Option (Nat × BitVec 48)) (seq : Nat) (body : List Word) (s : State) :
    sendMgmt ty dst seq body [0, 1] s =
      epSend 1 2 (mgmtOut s ty dst seq body 1) (epSend 0 2 (mgmtOut s ty dst seq body 0) s) := by
  show epSend 1 2 (headed _ _ _ body 1 (epSend 0 2 (mgmtOut s ty dst seq body 0) s)) _ = _
  rw [headed_congr (s := s) fun a ha => (epSent_epSend ..).win.2 a (headRegs_out a ha)]
  rfl

/-- What the registers of a management packet's header and the rest of the network state are after it has gone out on
both ports. -/
theorem sendMgmt_both_facts (hs : Canonical s) (ty : Nat) (dst : Option (Nat × BitVec 48)) (seq : Nat)
    (body : List Word) :
    let t := sendMgmt ty dst seq body [0, 1] s
    (∀ n, epOut s n 2 (mgmtOut s ty dst seq body n) t) ∧ KeepsBut [.regs, .net] s t ∧
      t.net = { s.net with macs := t.net.macs, queue := t.net.queue, sent := t.net.sent, free := t.net.free } := by
  dsimp only
  rw [sendMgmt_both]
  have h0 := epSent_epSend 0 2 (mgmtOut s ty dst seq body 0) s
  have h1 := epSent_epSend 1 2 (mgmtOut s ty dst seq body 1) (epSend 0 2 (mgmtOut s ty dst seq body 0) s)
  exact ⟨epOut_both hs 2 (mgmtOut s ty dst seq body), h0.win.1.trans h1.win.1, by rw [h1.net, h0.net]⟩

/-! Packets that arrive -/

theorem mgmtAccept_bad {m : MgmtPkt} (h : mgmtHeaderOk s m = false ∨ mgmtBody m = none) :
    mgmtAccept m s = (cnt aSWITCH_MGMT_DROP s, false) := by
  unfold mgmtAccept
  exact if_pos (h.imp_left fun h0 => by rw [h0]; decide)

theorem mgmtAccept_ours {m : MgmtPkt} (h : mgmtOurs s m) : mgmtAccept m s = (cnt aSWITCH_MGMT_RX s, true) := by
  obtain ⟨hh, hb, hu⟩ := h
  unfold mgmtAccept
  rw [if_neg (fun h0 => h0.elim (fun h1 => h1 hh) hb), if_neg (fun h0 => h0 hu)]

theorem mgmtBad (hs : Canonical s) (hl : Live s) {m : MgmtPkt} (h : mgmtHeaderOk s m = false ∨ mgmtBody m = none)
    {c : Instr}
    (hc : c = .discover m ∨ c = .announce m ∨ c = .readReq m) :
    Runs c s fun t => rget t aSWITCH_MGMT_DROP = rget s aSWITCH_MGMT_DROP + 1 ∧ KeepsBut [.regs] s t ∧ RegsOnly
      [aSWITCH_MGMT_DROP] s t := by
  have hw : Within [.regs] (· ∈ [aSWITCH_MGMT_DROP]) s (cnt aSWITCH_MGMT_DROP s) := (Within.refl ..).cnt 1
      (by decide) (by simp)
  have hdone : rget (cnt aSWITCH_MGMT_DROP s) aSWITCH_MGMT_DROP = rget s aSWITCH_MGMT_DROP + 1 ∧
      KeepsBut [.regs] s (cnt aSWITCH_MGMT_DROP s) ∧ RegsOnly [aSWITCH_MGMT_DROP] s (cnt aSWITCH_MGMT_DROP s) :=
    ⟨rget_cnt hs.1 .., hw.1, hw.2⟩
  have ha := mgmtAccept_bad h
  rcases hc with rfl | rfl | rfl
  · refine runs_awake (f := discover m) hl rfl ?_
    unfold discover
    rw [ha]
    exact hdone
  · refine runs_awake (f := announce m) hl rfl ?_
    unfold announce
    rw [ha]
    exact hdone
  · refine runs_awake (f := readReq m) hl rfl ?_
    unfold readReq
    rw [ha]
    exact hdone

theorem within_rx (s : State) : Within [.regs] (· ∈ [aSWITCH_MGMT_RX]) s (cnt aSWITCH_MGMT_RX s) :=
  (Within.refl ..).cnt 1 (by decide) (by simp)

theorem discover_taken (hs : Canonical s) (hl : Live s) {m : MgmtPkt} (h : mgmtTaken s m) :
    Runs (.discover m) s fun t => t.net.answers = s.net.answers ++
      [(s.now + nodeId s * 37 % 1000 * 10 ^ 6, bits m.h1 15 0)] ∧
      rget t aSWITCH_MGMT_RX = rget s aSWITCH_MGMT_RX + 1 ∧ KeepsBut [.regs, .net] s t ∧ RegsOnly [aSWITCH_MGMT_RX] s
        t := by
  refine runs_awake hl rfl ?_
  unfold discover
  rw [mgmtAccept_ours h.1]
  dsimp only
  rw [if_pos ⟨rfl, h.2⟩]
  have hw := ((within_rx s).mono (m := [.regs, .net]) (by decide) fun _ h => h).setNet
    { s.net with answers := s.net.answers ++ [(s.now + nodeId s * 37 % 1000 * 1000000, bits m.h1 15 0)] }
  exact ⟨rfl, rget_cnt hs.1 .., hw.1, hw.2⟩

theorem announce_duplicate (hl : Live s) {m : MgmtPkt} (h : mgmtOurs s m) (hn : bits m.h0 15 4 = nodeId s)
    (h0 : m.smac ≠ macOf s 0) (h1 : m.smac ≠ macOf s 1) (hp : s.twin.paired = false ∨ bit m.h0 3 = twinId s) :
    Runs (.announce m) s fun t => t.net.dup = some s.now ∧ rbit t (aISTAT pgSWITCH) 3 = true ∧ KeepsBut [.regs, .net]
      s t ∧
      RegsOnly [aISTAT pgSWITCH, aSWITCH_MGMT_RX] s t := by
  refine runs_awake hl rfl ?_
  unfold announce
  rw [mgmtAccept_ours h]
  dsimp only
  rw [if_pos ⟨rfl, hn, h0, h1, by rcases hp with hp | hp <;> simp [hp]⟩]
  have hw := ((((within_rx s).mono (m := [.regs, .net]) (B := (· ∈ [aISTAT pgSWITCH, aSWITCH_MGMT_RX])) (by decide)
    fun _ h => List.mem_cons_of_mem _ h).setNet { s.net with dup := some s.now }).iset (p := pgSWITCH) 3 (by decide)
      (by simp))
  exact ⟨rfl, rbit_iset_any ⟨pgSWITCH, by decide⟩ (by decide) _, hw.1, hw.2⟩

theorem nodeDupClear_effect (hl : Live s) {d : Nat} (h : s.net.dup = some d) (ht : d + 10 * 10 ^ 12 ≤ s.now) :
    Runs .nodeDupClear s fun t => t.net.dup = none ∧ KeepsBut [.net] s t := by
  refine runs_awake hl rfl ?_
  unfold nodeDupClear
  rw [h]
  dsimp only
  rw [if_pos (show s.now ≥ d + 10 * secPs from ht)]
  exact ⟨rfl, (within_setNet ..).1⟩

/-! Packets that the device sends of itself -/

/-- A packet on both ports after a change of the network state. -/
theorem sendMgmt_setNet (hs : Canonical s) (x : NetSt) (hlink : x.link = s.net.link) (ty : Nat)
    (dst : Option (Nat × BitVec 48))
    (seq : Nat) (body : List Word) :
    let t := sendMgmt ty dst seq body [0, 1] (setNet x s)
    (∀ n, epOut s n 2 (mgmtOut s ty dst seq body n) t) ∧ KeepsBut [.regs, .net] s t ∧
      t.net = { x with macs := t.net.macs, queue := t.net.queue, sent := t.net.sent, free := t.net.free } := by
  obtain ⟨hout, hk, hnet⟩ := sendMgmt_both_facts (s := setNet x s) hs ty dst seq body
  refine ⟨fun n => ?_, ((within_setNet ..).1.mono (by decide)).trans hk, hnet⟩
  have := hout n
  unfold epOut at this ⊢
  rw [show (setNet x s).net.link = s.net.link from hlink] at this
  exact this

theorem announceSend_answer (hs : Canonical s) (hl : Live s) (hrun : s.boot.run = true) {a : Nat × Nat}
    (ha : s.net.answers.find? (fun x => decide (x.1 ≤ s.now)) = some a) :
    Runs .announceSend s fun t => t.net.answers = s.net.answers.erase a ∧ KeepsBut [.regs, .net] s t ∧
      ∀ n : Fin 2, epOut s n 2 (mgmtOut s 2 none a.2 (announceBody s) n) t := by
  refine runs_awake hl rfl ?_
  unfold announceSend
  rw [if_neg (fun h => h hrun), ha]
  obtain ⟨hout, hk, hnet⟩ := sendMgmt_setNet hs { s.net with answers := s.net.answers.erase a } rfl 2 none a.2
    (announceBody s)
  exact ⟨by rw [hnet], hk, hout⟩

theorem announceSend_periodic (hs : Canonical s) (hl : Live s) (hrun : s.boot.run = true)
    (ha : ∀ x ∈ s.net.answers, s.now < x.1)
    (hdue : s.net.annT = none ∨ ∃ u, s.net.annT = some u ∧ u + 10 * 10 ^ 12 ≤ s.now) :
    Runs .announceSend s fun t => t.net.annT = some s.now ∧ t.net.mgmtSeq = (s.net.mgmtSeq + 1) % 65536 ∧
      KeepsBut [.regs, .net] s t ∧ ∀ n : Fin 2, epOut s n 2 (mgmtOut s 2 none s.net.mgmtSeq (announceBody s) n) t := by
  refine runs_awake hl rfl ?_
  have hnone : s.net.answers.find? (fun x => decide (x.1 ≤ s.now)) = none :=
    List.find?_eq_none.2 fun x hx => by simpa using ha x hx
  have hrun' : announceSend s = sendMgmt 2 none s.net.mgmtSeq (announceBody s) [0, 1]
      (setNet { s.net with mgmtSeq := (s.net.mgmtSeq + 1) % 65536, annT := some s.now } s) := by
    unfold announceSend
    rw [if_neg (fun h => h hrun), hnone]
    rcases hdue with h | ⟨u, h, hu⟩
    · simp only [h]
      exact if_pos trivial
    · simp only [h]
      exact if_pos (decide_eq_true hu)
  rw [hrun']
  obtain ⟨hout, hk, hnet⟩ := sendMgmt_setNet hs
    { s.net with mgmtSeq := (s.net.mgmtSeq + 1) % 65536, annT := some s.now } rfl 2 none s.net.mgmtSeq (announceBody s)
  exact ⟨(congrArg NetSt.annT hnet :), (congrArg NetSt.mgmtSeq hnet :), hk, hout⟩

theorem telemetrySend_effect (hs : Canonical s) (hl : Live s) (hrun : s.boot.run = true)
    (hp : rfld s aSWITCH_TELCFG 15 0 ≠ 0)
    (ht : s.net.telT + rfld s aSWITCH_TELCFG 15 0 * 10 ^ 9 ≤ s.now) :
    Runs .telemetrySend s fun t => t.net.telT = s.now ∧ t.net.mgmtSeq = (s.net.mgmtSeq + 1) % 65536 ∧
      KeepsBut [.regs, .net] s t ∧ ∃ b : List Word, b.length = 16 ∧ ∀ n : Fin 2, epOut s n 2
        (mgmtOut s 3 none s.net.mgmtSeq b n) t := by
  refine runs_awake hl rfl ?_
  unfold telemetrySend
  dsimp only
  rw [if_neg (fun h => h.elim (fun h1 => h1 hrun) fun h1 => h1.elim hp (Nat.not_lt.2 ht))]
  generalize hb : [_, _, _, _, _, _, _, _, _] ++ streamCounters s = b
  obtain ⟨hout, hk, hnet⟩ := sendMgmt_setNet hs
    { s.net with mgmtSeq := (s.net.mgmtSeq + 1) % 65536, telT := s.now } rfl 3 none s.net.mgmtSeq b
  exact ⟨(congrArg NetSt.telT hnet :), (congrArg NetSt.mgmtSeq hnet :), hk, b, by rw [← hb]; rfl, hout⟩

/-! READ_REQ -/

/-- The registers that a forbidden address of a READ_REQ changes. -/
def denyRegs : List Nat := [aSWITCH_MGMT_DENY, aISTAT pgSWITCH] ++ protFaultRegs

theorem within_remoteRead (w : Word) (s : State) : Within [.regs] (· ∈ denyRegs) s (remoteRead w s).2 := by
  unfold remoteRead
  dsimp only
  split
  · exact .refl ..
  · split
    · exact .refl ..
    · split
      · exact (((Within.refl ..).cnt 1 (by decide) (by decide)).iset 0 (by decide) (by decide)).trans
          ((within_protFault_regs ..).mono (fun _ h => h) fun a ha => List.mem_append_right _ ha)
      · exact .refl ..

theorem within_remoteReads (l : List Word) : ∀ s : State, Within [.regs] (· ∈ denyRegs) s (remoteReads l s).2 := by
  induction l with
  | nil => exact fun s => .refl ..
  | cons w l ih => exact fun s => (within_remoteRead w s).trans (ih _)

theorem length_remoteRead (w : Word) (s : State) : (remoteRead w s).1.length = 2 := by
  unfold remoteRead
  dsimp only
  split
  · rfl
  · split
    · rfl
    · split <;> rfl

theorem length_remoteReads (l : List Word) : ∀ s : State, (remoteReads l s).1.length = 2 * l.length := by
  induction l with
  | nil => exact fun s => rfl
  | cons w l ih =>
    intro s
    rw [remoteReads, List.length_append, length_remoteRead, ih, List.length_cons]
    omega

/-- The registers that say what an access may do. -/
theorem permits_congr {t : State} {A : Nat → Prop} (h : Within [.regs, .net] A s t) (hA : ∀ a, A a → 0x20000 ≤ a)
    {a : Nat}
    (l : Nat) (b : Bool) : permits t l a b = permits s l a b := by
  have hr {r : Nat} (h0 : r < 0x20000) : rget t r = rget s r := h.2 r fun h1 => absurd (hA r h1) (Nat.not_le.2 h0)
  have hhost : t.host = s.host := h.1 .host (by decide)
  have hpage (hp : isPageAddr a = true) : rget t (aPROT_PAGEPERM (pageOf a)) = rget s (aPROT_PAGEPERM (pageOf a)) := by
    refine hr ?_
    simp only [isPageAddr, Bool.and_eq_true, decide_eq_true_eq] at hp
    unfold aPROT_PAGEPERM pageOf
    omega
  have hregion {r : Nat} (h1 : permRegion a = some r) : rget t (aPROT_REGPERM r) = rget s (aPROT_REGPERM r) := by
    refine hr ?_
    have : r ≤ 5 := by
      unfold permRegion at h1
      repeat' split at h1
      all_goals simp at h1
      all_goals omega
    unfold aPROT_REGPERM
    omega
  unfold permits
  rw [hhost]
  refine ite_congr rfl (fun _ => rfl) fun _ => ?_
  split
  · rfl
  · split
    · rename_i hp
      rw [rfld, hpage hp]
      rfl
    · split
      · rename_i r h1
        rw [rfld, hregion h1]
        rfl
      · rfl

/-- The times of the READ_REQs of the last second. -/
def recentReads (s : State) : List Nat := s.net.reads.filter fun t => decide (s.now < t + secPs)

/-- A READ_REQ is counted and its time kept. -/
def readNoted (s : State) : State := setNet { s.net with reads := s.now :: recentReads s } (cnt aSWITCH_MGMT_RX s)

theorem within_readNoted (s : State) : Within [.regs, .net] (· ∈ [aSWITCH_MGMT_RX]) s (readNoted s) :=
  ((within_rx s).mono (m := [.regs, .net]) (by decide) fun _ h => h).setNet _

/-- The answer to a READ_REQ, its words and the state that they leave. -/
def readAnswer (s : State) (l : List Word) : List Word × State :=
  if (recentReads s).length ≥ 125 * rfld s aSWITCH_MGMT 15 12 then (l.flatMap fun _ => [4, 0], readNoted s)
  else remoteReads l (readNoted s)

theorem readReq_answer {m : MgmtPkt} {l : List Word} (h : mgmtTaken s m) (hb : mgmtBody m = some l)
    (hd : s.net.dup = none)
    (h1 : 1 ≤ l.length) (h16 : l.length ≤ 16) :
    readReq m s = sendMgmt 5 (some (bits m.h0 15 4, m.smac)) (bits m.h1 15 0) (readAnswer s l).1 (portsTo s m.smac)
      (readAnswer s l).2 := by
  unfold readReq
  rw [mgmtAccept_ours h.1, hb]
  dsimp only
  have hne : ¬ (l = [] ∨ l.length > 16) := by
    rintro (rfl | h0)
    · exact absurd h1 (by decide)
    · omega
  rw [if_neg (by simp [h.2, hd]), Option.getD_some, if_neg hne]
  rfl

theorem within_readAnswer (s : State) (l : List Word) :
    Within [.regs, .net] (fun a => a = aSWITCH_MGMT_RX ∨ a ∈ denyRegs) s (readAnswer s l).2 ∧
      rget (readAnswer s l).2 aSWITCH_MGMT_RX = rget (cnt aSWITCH_MGMT_RX s) aSWITCH_MGMT_RX ∧
      (readAnswer s l).2.net.link = s.net.link := by
  have h2 := (within_readNoted s).mono (B := fun a => a = aSWITCH_MGMT_RX ∨ a ∈ denyRegs) (fun _ h => h)
    fun a ha => .inl (List.mem_singleton.1 ha)
  have hr := within_remoteReads l (readNoted s)
  unfold readAnswer
  split
  · exact ⟨h2, rfl, rfl⟩
  · exact ⟨h2.trans (hr.mono
      (by decide) fun _ h => .inr h), hr.2 aSWITCH_MGMT_RX (by decide),
      (congrArg NetSt.link (hr.1 .net (by decide))).trans rfl⟩

theorem canonical_readAnswer (hs : Canonical s) (l : List Word) : Canonical (readAnswer s l).2 := by
  have h : Tidy s.pending True s := ⟨rfl, fun _ => hs⟩
  exact ((Tidy.ite_snd ((h.cnt ..).setNet ..) (((h.cnt ..).setNet ..).remoteReads l) : Tidy s.pending True
    (readAnswer s l).2).2 trivial)

theorem length_readAnswer (s : State) (l : List Word) : (readAnswer s l).1.length = 2 * l.length := by
  unfold readAnswer
  split
  · simp [Nat.mul_comm]
  · exact length_remoteReads ..

theorem filter_ports (p : Fin 2 → Bool) : [0, 1].filter p ∈ [[], [0], [1], [0, 1]] := by
  cases h0 : p 0 <;> cases h1 : p 1 <;> simp [h0, h1]

theorem portsTo_cases (s : State) (mac : BitVec 48) : portsTo s mac ∈ [[], [0], [1], [0, 1]] := by
  unfold portsTo
  split
  · exact filter_ports _
  · simp

theorem within_sendMgmt (ty : Nat) (dst : Option (Nat × BitVec 48)) (seq : Nat) (body : List Word) (l : List (Fin 2))
    (s : State) :
    Within [.regs, .net] (· ∈ outRegs) s (sendMgmt ty dst seq body l s) := by
  unfold sendMgmt
  dsimp only
  suffices H : ∀ (l : List (Fin 2)) (u : State) (f : Fin 2 → State → SentPkt),
      Within [.regs, .net] (· ∈ outRegs) u (l.foldl (fun s n => epSend n 2 (f n s) s) u) from H l s fun n u => .mgmt
        n ⟨_, macOf u n,
        some (tagOf u 2 (rfld u aSWITCH_MGMT 11 0)), _⟩ _ body
  intro l
  induction l with
  | nil => exact fun u f => .refl ..
  | cons n l ih => exact fun u f => (epSent_epSend ..).win.trans (ih _ f)

/-- A management packet goes out of each of its ports that is up. -/
theorem goesOut_sendMgmt (hs : Canonical s) {l : List (Fin 2)} (hl : l ∈ [[], [0], [1], [0, 1]]) (ty : Nat)
    (dst : Option (Nat × BitVec 48)) (seq : Nat) (body : List Word) {n : Fin 2} (hn : n ∈ l)
      (hup : s.net.link[n].up = true) :
    goesOut n 2 (mgmtOut s ty dst seq body n) (sendMgmt ty dst seq body l s) := by
  have hone (k : Fin 2) (hk : s.net.link[k].up = true) : goesOut k 2 (mgmtOut s ty dst seq body k)
      (sendMgmt ty dst seq body [k] s) := by
    rw [sendMgmt_one]
    exact ((epSent_epSend ..).up hk).1.goesOut
  simp only [List.mem_cons, List.not_mem_nil, or_false] at hl
  rcases hl with rfl | rfl | rfl | rfl
  · exact absurd hn (by simp)
  · obtain rfl := List.mem_singleton.1 hn
    exact hone _ hup
  · obtain rfl := List.mem_singleton.1 hn
    exact hone _ hup
  · have := (sendMgmt_both_facts hs ty dst seq body).1 n
    rwa [epOut, if_pos hup] at this

/-- The answer to one address. -/
theorem remoteRead_cases (w : Word) (s : State) :
    let a := bits w 23 2 * 4
    (bits w 31 24 ≠ 0 ∨ (0x4000 ≤ a ∧ isPageAddr a = false) → (remoteRead w s).1 = [2, 0]) ∧
    (bits w 31 24 = 0 → a < 0x4000 ∨ isPageAddr a = true → decodes a = false → (remoteRead w s).1 = [3, 0]) ∧
    (bits w 31 24 = 0 → a < 0x4000 ∨ isPageAddr a = true → decodes a = true → permits s 3 a false = false →
      (remoteRead w s).1 = [1, 0]) ∧
    (bits w 31 24 = 0 → a < 0x4000 ∨ isPageAddr a = true → decodes a = true → permits s 3 a false = true →
      (remoteRead w s).1.head? = some 0) := by
  dsimp only
  unfold remoteRead
  dsimp only
  refine ⟨fun h => ?_, fun hz ha hd => ?_, fun hz ha hd hp => ?_, fun hz ha hd hp => ?_⟩
  · rw [if_pos]
    rcases h with h | ⟨h, h'⟩
    · exact .inr h
    · exact .inl fun h0 => h0.elim (fun h1 => absurd h1 (Nat.not_lt.2 h)) fun h1 => absurd (h1.symm.trans h')
        (by decide)
  · rw [if_neg (fun h => h.elim (fun h0 => h0 ha) fun h0 => h0 hz), if_pos (by rw [hd]; decide)]
  · rw [if_neg (fun h => h.elim (fun h0 => h0 ha) fun h0 => h0 hz), if_neg (fun h => h hd), if_pos (by rw [hp]; decide)]
  · rw [if_neg (fun h => h.elim (fun h0 => h0 ha) fun h0 => h0 hz), if_neg (fun h => h hd), if_neg (fun h => h hp)]
    rfl

theorem headRegs_read : ∀ a ∈ headRegs, ¬ (a = aSWITCH_MGMT_RX ∨ a ∈ denyRegs) := by decide

theorem readReq_effect (hs : Canonical s) (hl : Live s) {m : MgmtPkt} {l : List Word} (h : mgmtTaken s m)
    (hb : mgmtBody m = some l)
    (hd : s.net.dup = none) (h1 : 1 ≤ l.length) (h16 : l.length ≤ 16) :
    Runs (.readReq m) s fun t => t.mem = s.mem ∧ rget t aSWITCH_MGMT_RX = rget s aSWITCH_MGMT_RX + 1 ∧
      ∃ b : List Word, b.length = 2 * l.length ∧
      (∀ n ∈ portsTo s m.smac, s.net.link[n].up = true →
        goesOut n 2 (mgmtOut s 5 (some (bits m.h0 15 4, m.smac)) (bits m.h1 15 0) b n) t) ∧
      b = (readAnswer s l).1 := by
  obtain ⟨hw, hrx, hlink⟩ := within_readAnswer s l
  have hsend := within_sendMgmt 5 (some (bits m.h0 15 4, m.smac)) (bits m.h1 15 0) (readAnswer s l).1
      (portsTo s m.smac) (readAnswer s l).2
  refine runs_awake hl rfl ?_
  rw [readReq_answer h hb hd h1 h16]
  refine ⟨(hw.1.trans hsend.1) .mem (by decide), ?_, _, length_readAnswer s l, fun n hn hup => ?_, rfl⟩
  · rw [hsend.2 aSWITCH_MGMT_RX (by decide), hrx, rget_cnt hs.1]
    rfl
  · rw [← mgmtOut_congr (t := (readAnswer s l).2) (fun a ha => hw.2 a (headRegs_read a ha)) (hw.1 .twin (by decide))]
    exact goesOut_sendMgmt (canonical_readAnswer hs l) (portsTo_cases ..) _ _ _ _ hn (by rw [hlink]; exact hup)

/-- Settles O46. -/
theorem managementPackets : Obligations.ManagementPackets := by
  refine ⟨fun s m hs hl h c hc => mgmtBad hs hl h hc, fun s m hs hl h => discover_taken hs hl h,
    fun s a hs hl hrun ha => announceSend_answer hs hl hrun ha, fun s hs hl hrun ha hdue => announceSend_periodic hs
      hl hrun ha hdue,
    fun s m _ hl h hn h0 h1 hp => announce_duplicate hl h hn h0 h1 hp, fun s d hl h ht => nodeDupClear_effect hl h ht,
    fun s hs hl hrun hp ht => telemetrySend_effect hs hl hrun hp ht, fun s m l hs hl h hb hd h1 h16 => ?_,
      fun s m hs hl h hd => ?_⟩
  · obtain ⟨t, ht, hmem, hrx, b, hlen, hout, rfl⟩ := readReq_effect hs hl h hb hd h1 h16
    refine ⟨t, ht, hmem, hrx, _, hlen, hout, fun hfull => ?_, fun w hfull hw => ?_⟩
    · unfold readAnswer
      exact congrArg Prod.fst (if_pos hfull)
    · subst hw
      have hans : (readAnswer s [w]).1 = (remoteRead w (readNoted s)).1 := by
        unfold readAnswer
        rw [if_neg (show ¬ (recentReads s).length ≥ 125 * rfld s aSWITCH_MGMT 15 12 from hfull)]
        exact List.append_nil _
      have hperm := permits_congr (within_readNoted s) (fun a ha => List.mem_singleton.1 ha ▸ by decide)
        (a := bits w 23 2 * 4) 3 false
      dsimp only
      rw [hans, ← hperm]
      exact remoteRead_cases w _
  · have hw := within_rx s
    refine runs_awake hl rfl ?_
    unfold readReq
    rw [mgmtAccept_ours h.1]
    dsimp only
    rw [if_pos (.inr (.inr hd))]
    exact ⟨rget_cnt hs.1 .., hw.1, hw.2⟩

end Sys2Proof.Machine
end

section
/-!
PROOFS. The entry check and the replication of accepted entries (O16, O17).
-/

-- One declaration after another: side by side, the stacks of the threads exceed what memory the check allows.
set_option Elab.async false

namespace Sys2Proof.Machine

variable {s : State}

/-! ### The answer to a ring entry (R85, R86) -/

/-- The registers that an answer may change. -/
def respRegs : List Nat :=
  [aGALLEY_RESP, aISTAT pgGALLEY, aGALLEY_LAT_MAX, aGALLEY_ACC_CNT, aGALLEY_REF_CNT, aGALLEY_DUP_CNT, aISTAT pgECC]

/-- The response slot is written and RESP passes the entry. -/
def respStored (x : Taken) (s : State) : State :=
  iset pgGALLEY 0 (rput aGALLEY_RESP 15 0 ((x.count + 1) % 65536)
    (stWords (respRing + 8 * (x.count % 4096)) [x.ticket, fld x.count 16 ||| fld x.status 0] s))

/-- An accepted entry counts, and its latency. -/
def respAccepted (x : Taken) (u : State) : State :=
  peak aGALLEY_LAT_MAX (min ((u.now - max x.sub u.galley.lastResp) / 10000) 0xFFFF) (cnt aGALLEY_ACC_CNT u)

/-- A refused entry counts, and its kind. -/
def respRefused (x : Taken) (u : State) : State :=
  let v := cnt aGALLEY_REF_CNT (if x.status = stDuplicate then cnt aGALLEY_DUP_CNT u else iset pgGALLEY 1 u)
  if x.status = stFull then iset pgGALLEY 3 v else v

/-- The time of the last answer is kept. -/
def respNoted (u : State) : State := setGalley { u.galley with lastResp := u.now } u

theorem respond_accepted {x : Taken} (h : x.status = stAccepted) (s : State) :
    respond x s = respNoted (respAccepted x (respStored x s)) := by
  unfold respond
  dsimp only
  rw [if_pos h, if_neg (by rw [h]; decide)]
  rfl

theorem respond_refused {x : Taken} (h : x.status ≠ stAccepted) (s : State) :
    respond x s = respNoted (respRefused x (respStored x s)) := by
  unfold respond
  dsimp only
  rw [if_neg h]
  rfl

theorem within_respStored (x : Taken) (s : State) : Within [.regs, .mem, .fab] (· ∈ respRegs) s (respStored x s) :=
  (((Within.refl ..).stWords _ _).rput _ _ _).iset _

theorem respStored_facts (hs : spWf resetWord s.regs = true) (x : Taken) :
    rfld (respStored x s) aGALLEY_RESP 15 0 = (x.count + 1) % 65536 ∧ spWf resetWord (respStored x s).regs = true ∧
      rget (respStored x s) aGALLEY_ACC_CNT = rget s aGALLEY_ACC_CNT ∧ rget (respStored x s) aGALLEY_REF_CNT = rget s
        aGALLEY_REF_CNT := by
  have hwf := stWords_regs_wf [x.ticket, fld x.count 16 ||| fld x.status 0] (respRing + 8 * (x.count % 4096)) hs
  have hk (a : Nat) (h1 : a ≠ aISTAT pgGALLEY) (h2 : a ≠ aGALLEY_RESP) (h3 : a ≠ aISTAT pgECC) : rget
      (respStored x s) a = rget s a := by
    unfold respStored
    rw [rget_iset_ne _ _ _ h1, rget_rput_ne _ _ _ _ h2, rget_stWords_ne _ _ _ h3]
  refine ⟨?_, iset_regs_wf (rset_regs_wf hwf _ _) _ _, hk _
    (by decide) (by decide) (by decide), hk _ (by decide) (by decide) (by decide)⟩
  unfold respStored
  rw [rfld, rget_iset_ne _ _ _ (by decide), ← rfld, rfld_rput hwf _ (by decide)]
  exact Nat.mod_eq_of_lt (Nat.mod_lt _ (by decide))

/-- Counts of an answer. -/
theorem within_respAccepted (x : Taken) (u : State) : Within [.regs] (· ∈ [aGALLEY_LAT_MAX, aGALLEY_ACC_CNT]) u
    (respAccepted x u) :=
  ((Within.refl ..).cnt _).peak _

theorem within_respRefused (x : Taken) (u : State) :
    Within [.regs] (· ∈ [aGALLEY_REF_CNT, aGALLEY_DUP_CNT, aISTAT pgGALLEY]) u (respRefused x u) := by
  have h : Within [.regs] (· ∈ [aGALLEY_REF_CNT, aGALLEY_DUP_CNT, aISTAT pgGALLEY]) u
      (cnt aGALLEY_REF_CNT (if x.status = stDuplicate then cnt aGALLEY_DUP_CNT u else iset pgGALLEY 1 u)) :=
    (Within.ite ((Within.refl ..).cnt _) ((Within.refl ..).iset _)).cnt _
  exact .ite (h.iset _) h

theorem acc_respAccepted (x : Taken) {u : State} (h : spWf resetWord u.regs = true) :
    rget (respAccepted x u) aGALLEY_ACC_CNT = rget u aGALLEY_ACC_CNT + 1 := by
  have hp : Within [.regs] (· ∈ [aGALLEY_LAT_MAX]) (cnt aGALLEY_ACC_CNT u) (respAccepted x u) := (Within.refl ..).peak _
  rw [hp.2 _ (by decide), rget_cnt h]
  rfl

theorem ref_respRefused (x : Taken) {u : State} (h : spWf resetWord u.regs = true) :
    rget (respRefused x u) aGALLEY_REF_CNT = rget u aGALLEY_REF_CNT + 1 := by
  set v := if x.status = stDuplicate then cnt aGALLEY_DUP_CNT u else iset pgGALLEY 1 u with hv
  have hw : spWf resetWord v.regs = true := by
    rw [hv]
    split
    · exact cnt_regs_wf h ..
    · exact iset_regs_wf h ..
  have hk : Within [.regs] (· ∈ [aGALLEY_DUP_CNT, aISTAT pgGALLEY]) u v := .ite ((Within.refl ..).cnt _)
      ((Within.refl ..).iset _)
  have hi : Within [.regs] (· ∈ [aISTAT pgGALLEY]) (cnt aGALLEY_REF_CNT v) (respRefused x u) := .ite
      ((Within.refl ..).iset _) (.refl ..)
  rw [hi.2 _ (by decide), rget_cnt hw, hk.2 _ (by decide)]
  rfl

theorem within_respond (x : Taken) (s : State) : Within [.regs, .mem, .fab, .galley] (· ∈ respRegs) s
    (respond x s) := by
  have h0 := (within_respStored x s).mono (m := [.regs, .mem, .fab, .galley]) (B := (· ∈ respRegs)) (by decide)
      fun _ h => h
  by_cases h : x.status = stAccepted
  · rw [respond_accepted h]
    exact (h0.trans ((within_respAccepted x _).mono (by decide) (by decide))).setGalley _
  · rw [respond_refused h]
    exact (h0.trans ((within_respRefused x _).mono (by decide) (by decide))).setGalley _

/-- An answer leaves the entries in flight. -/
theorem galley_respond (x : Taken) (s : State) : (respond x s).galley =
    { s.galley with lastResp := (respond x s).galley.lastResp } := by
  have hs : (respStored x s).galley = s.galley := (within_respStored x s).1 .galley (by decide)
  have hn {u : State} (hu : u.galley = s.galley) :
      (respNoted u).galley = { s.galley with lastResp := (respNoted u).galley.lastResp } := by
    show { u.galley with lastResp := u.now } = { s.galley with lastResp := u.now }
    rw [hu]
  by_cases h : x.status = stAccepted
  · rw [respond_accepted h]
    exact hn (Eq.trans ((within_respAccepted x _).1 .galley (by decide)) hs)
  · rw [respond_refused h]
    exact hn (Eq.trans ((within_respRefused x _).1 .galley (by decide)) hs)

/-- The registers of an answer. -/
theorem respond_regs (hs : spWf resetWord s.regs = true) (x : Taken) :
    rfld (respond x s) aGALLEY_RESP 15 0 = (x.count + 1) % 65536 ∧
      (x.status = stAccepted → rget (respond x s) aGALLEY_ACC_CNT = rget s aGALLEY_ACC_CNT + 1) ∧
      (x.status ≠ stAccepted → rget (respond x s) aGALLEY_REF_CNT = rget s aGALLEY_REF_CNT + 1 ∧
        rget (respond x s) aGALLEY_ACC_CNT = rget s aGALLEY_ACC_CNT) := by
  obtain ⟨hresp, hwf, hacc, href⟩ := respStored_facts hs x
  by_cases h : x.status = stAccepted
  · rw [respond_accepted h]
    refine ⟨?_, fun _ => (acc_respAccepted x hwf).trans (congrArg (· + 1) hacc), fun h' => absurd h h'⟩
    exact (congrArg (bits · 15 0) ((within_respAccepted x _).2 _ (by decide))).trans hresp
  · rw [respond_refused h]
    refine ⟨?_, fun h' => absurd h' h, fun _ => ⟨(ref_respRefused x hwf).trans (congrArg (· + 1) href),
      ((within_respRefused x _).2 _ (by decide)).trans hacc⟩⟩
    exact (congrArg (bits · 15 0) ((within_respRefused x _).2 _ (by decide))).trans hresp

/-! ### Acceptance -/

/-- The registers that acceptance writes beside TICKET_LAST: those of the segment that a RECORD_SEG takes. -/
def AcceptAddr (a : Nat) : Prop := a = aGALLEY_TICKET_LAST ∨ pageOf a = pgRECORDER

theorem segReg_page {i : Nat} (h : i < 64) : pageOf (aRECORDER_SEGPOS i) = pgRECORDER ∧ pageOf (aRECORDER_SEGTKT i) =
    pgRECORDER := by
  interval_cases i <;> decide

theorem within_segAccept (t : Word) (p : List Word) (s : State) :
    Within [.regs, .cistern] (fun a => pageOf a = pgRECORDER) s (segAccept t p s) := by
  unfold segAccept
  extract_lets g used free _ s1
  have hs1 : Within [.regs, .cistern] (fun a => pageOf a = pgRECORDER) s s1 := (Within.refl ..).setCist _
  have hfree : ∀ i ∈ free, i < 64 := fun i hi => List.mem_range.1 (List.mem_filter.1 (List.mem_of_mem_take hi)).1
  exact List.foldlRecOn (motive := Within [.regs, .cistern] (fun a => pageOf a = pgRECORDER) s) _ _ hs1 fun u hu i hi =>
    (hu.rset _ (by decide) (segReg_page (hfree i hi)).2).rset _ (by decide) (segReg_page (hfree i hi)).1

theorem within_acceptSide (ev : Ev) (s : State) :
    Within [.regs, .galley, .basin, .cistern] (fun a => pageOf a = pgRECORDER) s (acceptSide ev s) ∧
      (acceptSide ev s).galley = { s.galley with heapUsed := s.galley.heapUsed + heapOf ev } := by
  have h1 : Within [.regs, .galley, .basin, .cistern] (fun a => pageOf a = pgRECORDER) s
      (setGalley { s.galley with heapUsed := s.galley.heapUsed + heapOf ev } s) := (Within.refl ..).setGalley _
  unfold acceptSide
  dsimp only
  split
  · exact ⟨h1.trans ⟨fun p hp => by cases p <;> first | rfl | exact absurd (by decide) hp, fun _ _ => rfl⟩, rfl⟩
  · have h2 := within_segAccept ev.ticket ev.payload (setGalley
      { s.galley with heapUsed := s.galley.heapUsed + heapOf ev } s)
    exact ⟨h1.trans (h2.mono (by decide) fun _ h => h), h2.1 .galley (by decide)⟩
  · exact ⟨h1, rfl⟩

theorem within_journal (ev : Ev) (s : State) : Within [.regs, .galley, .basin, .cistern] AcceptAddr s (journal ev s) ∧
    (journal ev s).galley.inflight = s.galley.inflight := by
  obtain ⟨hw, hg⟩ := within_acceptSide ev (rset aGALLEY_TICKET_LAST
    (laterTicket (rget s aGALLEY_TICKET_LAST) ev.ticket) s)
  exact ⟨((Within.refl ..).rset _
    (by decide) (.inl rfl)).trans (hw.mono (by decide) fun _ h => .inr h), by unfold journal; rw [hg]; rfl⟩

theorem ticketLast_journal (hs : spWf resetWord s.regs = true) (ev : Ev) :
    rget (journal ev s) aGALLEY_TICKET_LAST = laterTicket (rget s aGALLEY_TICKET_LAST) ev.ticket :=
  ((within_acceptSide ev _).1.2 _ (by decide)).trans (rget_rset_same hs _ _)

/-- The registers that an entry's way into the Compositor changes. -/
def handRegs : List Nat := aCOMPOSITOR_PEAK_PEND :: doneRegs

theorem room_hand : Room doneParts (· ∈ handRegs) := ⟨fun _ h => h, fun _ h => List.mem_cons_of_mem _ h⟩

theorem settles_enqueue (e : Ev) (s : State) : Settles doneParts (· ∈ handRegs) s (enqueue e s) := by
  have h1 : Settles doneParts (· ∈ handRegs) s { s with comp := { s.comp with queue := s.comp.queue ++ [e] } } :=
    (Settles.refl ..).setComp room_hand _
  have h2 (n : Nat) : Settles doneParts (· ∈ handRegs) s
      (peak aCOMPOSITOR_PEAK_PEND n { s with comp := { s.comp with queue := s.comp.queue ++ [e] } }) :=
    .ite (h1.rset _ (by decide) (by decide)) h1
  exact .ite ((h2 _).iset room_hand _) (h2 _)

/-- The client's table is brought up to date. -/
def clientTaken (ev : Ev) (noTable : Bool) (s : State) : State :=
  if noTable then s else
    setGalley { s.galley with clients := s.galley.clients.set ev.e.client (clientTake (clientOf s ev.e.client) ev.e.w1 ev.ticket) } s

theorem handOver_eq (ev : Ev) (noTable : Bool) (s : State) :
    handOver ev noTable s = if ev.e.opcode = opCancel ∧ ev.e.axis = 0 then applyImmCancel ev (clientTaken ev noTable s)
      else enqueue ev (clientTaken ev noTable s) := rfl

theorem settles_clientTaken (ev : Ev) (noTable : Bool) (s : State) : Settles doneParts (· ∈ handRegs) s
    (clientTaken ev noTable s) :=
  .ite (.refl ..) ((Settles.refl ..).galley _ (by decide))

theorem comp_clientTaken (ev : Ev) (noTable : Bool) (s : State) : (clientTaken ev noTable s).comp = s.comp := by
  unfold clientTaken
  split <;> rfl

theorem settles_handOver (ev : Ev) (noTable : Bool) (s : State) : Settles doneParts (· ∈ handRegs) s
    (handOver ev noTable s) := by
  have h := settles_clientTaken ev noTable s
  rw [handOver_eq]
  exact .ite ((h.applyCancel room_hand _).finish room_hand ..) (h.trans (settles_enqueue ..))

/-- An entry that is no CANCEL at once waits last in the queue. -/
theorem queue_handOver {ev : Ev} (h : ¬ (ev.e.opcode = opCancel ∧ ev.e.axis = 0)) (noTable : Bool) (s : State) :
    (handOver ev noTable s).comp.queue = s.comp.queue ++ [ev] := by
  rw [handOver_eq, if_neg h, ← comp_clientTaken ev noTable s]
  generalize clientTaken ev noTable s = u
  have hp (n : Nat) (v : State) : (peak aCOMPOSITOR_PEAK_PEND n v).comp = v.comp := by
    unfold peak
    split <;> rfl
  unfold enqueue
  dsimp only
  split
  · show (peak _ _ _).comp.queue = _
    rw [hp]
  · rw [hp]

/-- A CANCEL at once with nothing waiting for it or its target. -/
theorem handOver_cancel {ev : Ev} (h : ev.e.opcode = opCancel ∧ ev.e.axis = 0) (noTable : Bool)
    (h1 : noneWaits ev.ticket s)
    (h2 : noneWaits (ev.payload.getD 0 0) s) :
    match findEv (ev.payload.getD 0 0) s.comp.queue with
    | some x => (handOver ev noTable s).comp.queue = dropEv (ev.payload.getD 0 0) s.comp.queue ∧
        (handOver ev noTable s).comp.done = (⟨ev.ticket, opCancel, ev.e.client, outOnTime, s.tb.frame⟩ ::
          ⟨x.ticket, x.e.opcode, x.e.client, outCancelled, s.tb.frame⟩ :: s.comp.done).take 4096
    | none => (handOver ev noTable s).comp.queue = s.comp.queue ∧
        (handOver ev noTable s).comp.done = (⟨ev.ticket, opCancel, ev.e.client, outTooLate, s.tb.frame⟩ ::
          s.comp.done).take 4096 := by
  have hcomp := comp_clientTaken ev noTable s
  have htb : (clientTaken ev noTable s).tb = s.tb := (settles_clientTaken ev noTable s).within.1 .tb (by decide)
  rw [handOver_eq, if_pos h]
  generalize clientTaken ev noTable s = u at hcomp htb
  have hn1 : noneWaits ev.ticket u := by rwa [noneWaits, hcomp]
  have hn2 : noneWaits (ev.payload.getD 0 0) u := by rwa [noneWaits, hcomp]
  rw [← hcomp, ← htb]
  generalize hx : findEv (ev.payload.getD 0 0) u.comp.queue = r
  cases r with
  | some x =>
    dsimp only
    have hdrop : ∀ y ∈ dropEv (ev.payload.getD 0 0) u.comp.queue, y ∈ u.comp.queue := fun y hy =>
        (List.mem_filter.1 hy).1
    set u1 : State := { u with comp := { u.comp with queue := dropEv (ev.payload.getD 0 0) u.comp.queue } } with hu1
    set u2 := record x outCancelled 0 0 u.tb.frame u1 with hu2
    have hc2 : u2.comp = { u1.comp with done := (⟨x.ticket, x.e.opcode, x.e.client, outCancelled, u.tb.frame⟩ :: u.comp.done).take 4096 } :=
      record_comp ..
    have hap : applyCancel (ev.payload.getD 0 0) u = (mapFlight (deadInFlight (ev.payload.getD 0 0)) u2,
        outOnTime) := by
      unfold applyCancel
      rw [hx]
      refine Prod.ext ?_ rfl
      exact cancelDeps_of_noneWaits (s := u2) (fun y hy => hn2 y (hdrop y (by rw [hc2] at hy; exact hy))) _
    obtain ⟨f, hf⟩ := finish_of_noneWaits (s := mapFlight (deadInFlight (ev.payload.getD 0 0)) u2) (e := ev)
      (fun y hy => hn1 y (hdrop y (by rw [mapFlight_comp, hc2] at hy; exact hy))) outOnTime 0 u.tb.frame u.tb.frame
    rw [applyImmCancel, hap]
    dsimp only
    rw [hf, mapFlight_comp, record_comp, mapFlight_comp, hc2]
    refine ⟨rfl, ?_⟩
    show List.take 4096 ((⟨ev.ticket, ev.e.opcode, ev.e.client, outOnTime, u.tb.frame⟩ : Done) :: List.take 4096 _) = _
    rw [h.1]
    simp [List.take_take]
  | none =>
    dsimp only
    have hap : applyCancel (ev.payload.getD 0 0) u = (u, outTooLate) := by
      unfold applyCancel
      rw [hx]
    obtain ⟨f, hf⟩ := finish_of_noneWaits (s := u) (e := ev) hn1 outTooLate 0 u.tb.frame u.tb.frame
    rw [applyImmCancel, hap]
    dsimp only
    rw [hf, mapFlight_comp, record_comp]
    exact ⟨rfl, by rw [h.1]⟩

/-! ### O16 -/

/-- The payload of an entry is read: errors of words are recorded. -/
theorem fetched_payloadRead (e : Entry) (s : State) : Fetched stageParts StageAddr s (payloadRead e s) :=
  .ite (.refl ..) (.foldl (fun _ _ h => h.dmaRead _) _ (.refl ..))

theorem payloadRead_clean {e : Entry} (h : s.fab.flips = []) : payloadRead e s = s := by
  unfold payloadRead
  rw [if_pos (.inl (by rw [h]; rfl))]

theorem fetched_slotCheck (k : Nat) (s : State) : Fetched stageParts StageAddr s (slotCheck k s).1 := by
  unfold slotCheck
  split
  · exact .refl ..
  · exact List.foldlRecOn (motive := fun a : State × Bool => Fetched stageParts StageAddr s a.1) _ _ (.refl ..)
      fun a ha i _ => ha.eccRead fetchRoom_stage _ fun _ => by decide

theorem slotRead_clean (t : Nat) (h : s.fab.flips = []) : slotRead t s = (advance t s, false) := by
  have hf : (advance t s).fab = s.fab := (within_advance t s).1 .fab (by decide)
  unfold slotRead slotCheck
  rw [if_pos (by rw [hf, h]; rfl)]

/-- The register frame of the slot's read. -/
theorem slotRead_reg (t : Nat) (s : State) {a : Nat} (ha : ¬ StageAddr a) : rget (slotRead t s).1 a = rget s a :=
  ((fetched_slotCheck _ _).within.2 a ha).trans (rget_advance ..)

theorem stageAddr_galley {a : Nat} (ha : pageOf a = pgGALLEY) : ¬ StageAddr a := by
  rintro (h | h)
  · rw [ha] at h
    exact absurd h (by decide)
  · simp only [List.mem_cons, List.not_mem_nil, or_false] at h
    rcases h with rfl | rfl <;> exact absurd ha (by decide)

theorem galleyRuns_advance (t : Nat) (s : State) : galleyRuns (advance t s) = galleyRuns s := by
  unfold galleyRuns
  rw [advance_boot, advance_clk, show (advance t s).galley = s.galley from (within_advance t s).1 .galley (by decide)]

/-- Who wrote PROD for the next entry, and when. -/
def nextSub (t : Nat) (s : State) : Fin 4 × Nat := (slotRead t s).1.galley.subs.headD (3, (slotRead t s).1.now)

theorem nextCheck_eq (t : Nat) (s : State) : nextCheck t s = galleyCheck (afterTake t s) (nextSub t s).1.val
    (slotEntry (slotRead t s).1 (rfld s aGALLEY_CONS 15 0)) (afterTake t s).now := rfl

theorem entryCheck_ue {t : Nat} (hw : entryWaits s) (hue : (slotRead t s).2 = true) : entryCheck t s = galleyUe
    (slotRead t s).1 := by
  obtain ⟨-, hrun, hne⟩ := hw
  unfold entryCheck
  simp only [rfld_advance]
  rw [if_neg (by simp [galleyRuns_advance, hrun, hne])]
  exact if_pos hue

theorem entryCheck_taken {t : Nat} (hw : entryWaits s) (hue : (slotRead t s).2 = false) :
    entryCheck t s = payloadRead (slotEntry (slotRead t s).1 (rfld s aGALLEY_CONS 15 0))
      (takeEntry (rfld s aGALLEY_CONS 15 0) (nextSub t s).1.val (nextSub t s).2
        (slotEntry (slotRead t s).1 (rfld s aGALLEY_CONS 15 0)) (afterTake t s)) := by
  obtain ⟨-, hrun, hne⟩ := hw
  unfold entryCheck
  simp only [rfld_advance]
  rw [if_neg (by simp [galleyRuns_advance, hrun, hne])]
  exact if_neg (by rw [show (slotCheck _ _).2 = false from hue]; decide)

theorem entryCheck_idle {t : Nat} (hl : Live s) (hw : ¬ entryWaits s) : entryCheck t s = advance t s := by
  unfold entryCheck
  simp only [rfld_advance]
  refine if_pos ?_
  rw [galleyRuns_advance]
  by_contra h
  simp only [not_or, not_not] at h
  exact hw ⟨hl, h.1, h.2⟩

/-- An entry that the check has taken, with what the check says of it. -/
def takenOf (count lvl sub : Nat) (e : Entry) (s : State) : Taken :=
  let r := galleyCheck s lvl e s.now
  { count := count, t := s.now, sub := sub, ev := r.2.2, noTable := false, status := r.1, ticket := r.2.1, act := none }

theorem judgeNew_ticket (s : State) (frame : Nat) (e : Ev) : (judgeNew s frame e).ticket = e.ticket := by
  unfold judgeNew
  split
  · rfl
  · split
    · rfl
    · split <;> rfl

theorem eventOf_ticket (s : State) (e : Entry) (p : List Word) (ticket : Word) (t : Nat) :
    (eventOf s e p ticket t).ticket = ticket := by
  unfold eventOf
  generalize firstFrame s t (if e.axis = 0 then immMarginPs else marginPs) = f0
  dsimp only
  split
  · rfl
  · split
    · split
      · rfl
      · split <;> rfl
    · rfl
  · exact judgeNew_ticket ..

/-- The outcome of a check: refused with a status of its own, or accepted with the next ticket. -/
def Judged (s : State) (r : Nat × Word × Option Ev) : Prop :=
  (r.2.2 = none → r.1 ≠ stAccepted) ∧ ∀ ev, r.2.2 = some ev → r.1 = stAccepted ∧ ev.ticket = nextTicket s

theorem Judged.refused {n : Nat} (w : Word) (h : n ≠ stAccepted) : Judged s (n, w, none) :=
  ⟨fun _ => h, fun _ h' => absurd h' (by simp)⟩

theorem Judged.ite {p : Prop} [Decidable p] {n : Nat} {w : Word} {r : Nat × Word × Option Ev} (hn : p → n ≠ stAccepted)
    (h : Judged s r) : Judged s (if p then (n, w, none) else r) := by
  split
  · rename_i hp
    exact .refused w (hn hp)
  · exact h

theorem judged_galleyCheck (s : State) (lvl : Nat) (e : Entry) (t : Nat) : Judged s (galleyCheck s lvl e t) := by
  unfold galleyCheck
  extract_lets p ev q
  refine .ite (fun _ => by decide) (.ite (fun _ => by decide) (.ite (fun _ => by decide) (.ite (fun h => h)
    (.ite (fun _ => by decide) (.ite (fun _ => by decide) (.ite (fun _ => by decide)
      ⟨fun h => absurd h (by simp), fun ev' h => ⟨rfl, ?_⟩⟩))))))
  obtain rfl : ev = ev' := Option.some.inj h
  exact eventOf_ticket ..

section
variable {count lvl sub : Nat} {e : Entry}

theorem takeEntry_refused (h : (galleyCheck s lvl e s.now).2.2 = none) : takeEntry count lvl sub e s =
    if s.galley.inflight.isEmpty then respond (takenOf count lvl sub e s) s
    else setGalley { s.galley with inflight := s.galley.inflight ++ [takenOf count lvl sub e s] } s := by
  unfold takeEntry takenOf
  dsimp only
  generalize galleyCheck s lvl e s.now = r at h
  obtain ⟨st, w, _ | ev⟩ := r
  · rfl
  · exact absurd h (by simp)

/-- An accepted entry waits for its acknowledgement. -/
def flown (ev : Ev) (x : Taken) (s : State) : State :=
  sendCell 4 (.slot ev) (setGalley { (journal ev s).galley with inflight := (journal ev s).galley.inflight ++ [x] }
    (journal ev s))

theorem takeEntry_accepted {ev : Ev} (h : (galleyCheck s lvl e s.now).2.2 = some ev) : takeEntry count lvl sub e s =
    if replicates s then flown ev (takenOf count lvl sub e s) s
    else respond (takenOf count lvl sub e s) (handOver ev false (journal ev s)) := by
  unfold takeEntry takenOf
  dsimp only
  generalize galleyCheck s lvl e s.now = r at h
  obtain ⟨st, w, _ | ev'⟩ := r
  · exact absurd h (by simp)
  · obtain rfl : ev' = ev := Option.some.inj h
    rfl

end

theorem within_sendCell (ch : Nat) (body : CellBody) (s : State) : Within [.twin] (fun _ => False) s
    (sendCell ch body s) := by
  unfold sendCell
  split
  · exact ⟨fun p hp => by cases p <;> first | rfl | exact absurd (by decide) hp, fun _ _ => rfl⟩
  · exact .refl ..

theorem within_flown (ev : Ev) (x : Taken) (s : State) :
    Within [.regs, .galley, .basin, .cistern, .twin] AcceptAddr s (flown ev x s) ∧
      (flown ev x s).galley.inflight = s.galley.inflight ++ [x] := by
  obtain ⟨hj, hi⟩ := within_journal ev s
  have hg := (hj.mono (m := [.regs, .galley, .basin, .cistern, .twin]) (B := AcceptAddr)
      (by decide) fun _ h => h).setGalley
    { (journal ev s).galley with inflight := (journal ev s).galley.inflight ++ [x] }
  have hc := within_sendCell 4 (.slot ev)
    (setGalley { (journal ev s).galley with inflight := (journal ev s).galley.inflight ++ [x] } (journal ev s))
  refine ⟨hg.trans (hc.mono (by decide) fun _ h => h.elim), ?_⟩
  rw [← hi]
  exact congrArg GalleySt.inflight (hc.1 .galley (by decide))

/-- An accepted entry that is answered at once. -/
theorem within_accepted (ev : Ev) (x : Taken) (s : State) {a : Nat} (h1 : ¬ AcceptAddr a) (h2 : a ∉ handRegs)
    (h3 : a ∉ respRegs) :
    rget (respond x (handOver ev false (journal ev s))) a = rget s a :=
  ((within_respond ..).2 a h3).trans (((settles_handOver ..).within.2 a h2).trans ((within_journal ev s).1.2 a h1))

theorem acceptAddr_galley {a : Nat} (ha : pageOf a = pgGALLEY) (hn : a ≠ aGALLEY_TICKET_LAST) : ¬ AcceptAddr a := by
  rintro (h | h)
  · exact hn h
  · rw [ha] at h
    exact absurd h (by decide)

/-- The step of the check leaves CONS. -/
theorem cons_takeEntry (count lvl sub : Nat) (e : Entry) (s : State) :
    rget (takeEntry count lvl sub e s) aGALLEY_CONS = rget s aGALLEY_CONS := by
  have hna : ¬ AcceptAddr aGALLEY_CONS := acceptAddr_galley (by decide) (by decide)
  cases h : (galleyCheck s lvl e s.now).2.2 with
  | none =>
    rw [takeEntry_refused h]
    split
    · exact (within_respond ..).2 _ (by decide)
    · rfl
  | some ev =>
    rw [takeEntry_accepted h]
    split
    · exact (within_flown ..).1.2 _ hna
    · exact within_accepted ev _ s hna (by decide) (by decide)

/-! The state in which the entry is checked -/

theorem canonical_slotRead (hs : Canonical s) (t : Nat) : Canonical (slotRead t s).1 := by
  have h : Tidy s.pending True (slotRead t s).1 := Tidy.slotCheck (Tidy.advance ⟨rfl, fun _ => hs⟩ t) _
  exact h.2 trivial

theorem canonical_afterTake (hs : Canonical s) (t : Nat) : Canonical (afterTake t s) := by
  have h : Tidy s.pending True (slotRead t s).1 := Tidy.slotCheck (Tidy.advance ⟨rfl, fun _ => hs⟩ t) _
  exact ((h.setGalley _).rput aGALLEY_CONS 15 0 _).2 trivial

theorem cons_afterTake (hs : Canonical s) (t : Nat) :
    rfld (afterTake t s) aGALLEY_CONS 15 0 = (rfld s aGALLEY_CONS 15 0 + 1) % 65536 := by
  unfold afterTake
  exact (rfld_rput (s := setGalley { (slotRead t s).1.galley with subs := (slotRead t s).1.galley.subs.drop 1 }
    (slotRead t s).1)
    (canonical_slotRead hs t).1 aGALLEY_CONS (by decide) _).trans (Nat.mod_eq_of_lt (Nat.mod_lt _ (by decide)))

/-- With no flipped word, the entry is taken from the state at time `t`. -/
theorem within_afterTake (t : Nat) (h : s.fab.flips = []) :
    Within [.now, .ptp, .regs, .galley] (· = aGALLEY_CONS) s (afterTake t s) ∧
      (afterTake t s).galley.inflight = s.galley.inflight := by
  have hadv := (within_advance t s).mono (m := [.now, .ptp, .regs, .galley]) (B := (· = aGALLEY_CONS)) (by decide)
      fun _ h => h.elim
  unfold afterTake
  rw [slotRead_clean t h]
  refine ⟨(hadv.setGalley _).rput _ _ _ (by decide) rfl, ?_⟩
  exact (congrArg GalleySt.inflight ((within_advance t s).1 .galley (by decide)) :)

theorem entryCheck_cons (hs : Canonical s) {t : Nat} (hw : entryWaits s) (hue : (slotRead t s).2 = false) :
    rfld (entryCheck t s) aGALLEY_CONS 15 0 = (rfld s aGALLEY_CONS 15 0 + 1) % 65536 := by
  rw [entryCheck_taken hw hue, ← cons_afterTake hs t, rfld, (fetched_payloadRead ..).within.2 _
    (stageAddr_galley (by decide)),
    cons_takeEntry]
  rfl

/-! A slot that cannot be read -/

/-- The partner's state stays, and no entry comes into flight. -/
structure Calm (s t : State) : Prop where
  pstate : t.twin.pstate = s.twin.pstate
  flight : s.galley.inflight = [] → t.galley.inflight = []

theorem Calm.refl (s : State) : Calm s s := ⟨rfl, id⟩

theorem Calm.trans {t u : State} (h : Calm s t) (h' : Calm t u) : Calm s u :=
  ⟨h'.pstate.trans h.pstate, fun h0 => h'.flight (h.flight h0)⟩

theorem Calm.ite {p : Prop} [Decidable p] {t u : State} (h : Calm s t) (h' : Calm s u) : Calm s
    (if p then t else u) := by
  split <;> assumption

theorem Calm.foldl {α : Type} {f : State → α → State} (hf : ∀ u x, Calm u (f u x)) (l : List α) (s : State) : Calm s
    (l.foldl f s) :=
  List.foldlRecOn (motive := Calm s) _ _ (.refl s) fun u hu x _ => hu.trans (hf u x)

/-- What leaves the twin state and the Galley. -/
theorem Calm.of {t : State} {l : List Part} (h : KeepsBut l s t) (hl : .twin ∉ l ∧ .galley ∉ l := by decide) : Calm s
    t :=
  ⟨congrArg TwinSt.pstate (h .twin hl.1), fun h0 => (congrArg GalleySt.inflight (h .galley hl.2)).trans h0⟩

theorem calm_rset (a : Nat) (v : Word) (s : State) : Calm s (rset a v s) := ⟨rfl, id⟩

theorem calm_leaveRole (x : TwinState) (s : State) : Calm s (leaveRole x s) := by
  have h : Calm s (if s.twin.st = .active ∧ ¬ s.galley.inflight.isEmpty then voidFlight s else s) := .ite
      ⟨rfl, fun _ => rfl⟩ (.refl s)
  exact .ite h (h.trans ⟨rfl, id⟩)

theorem calm_setTwin (x : TwinState) (s : State) : Calm s (setTwin x s) := by
  have h0 : Calm s (if s.twin.st = .solo then rput aMATRIX_CFG 0 0 0 s else s) := .ite (calm_rset ..) (.refl s)
  have h1 := h0.trans (calm_leaveRole x _)
  exact .ite (.refl s) (.ite (h1.trans ⟨rfl, id⟩) (h1.trans ⟨rfl, id⟩))

theorem calm_releaseOutputs (s : State) : Calm s (releaseOutputs s) := .ite ⟨rfl, id⟩ ⟨rfl, id⟩

theorem calm_enterTwinFault (cause : Nat) (s : State) : Calm s (enterTwinFault cause s) :=
  (calm_releaseOutputs s).trans
    (((⟨rfl, id⟩ : Calm (releaseOutputs s) (hbStatic (releaseOutputs s))).trans (calm_setTwin .faulted _)).trans
      ⟨rfl, id⟩)

theorem calm_twinEccFault (s : State) : Calm s (twinEccFault s) :=
  .ite (.ite (.ite (calm_enterTwinFault ..) (.refl s)) (.refl s)) (.ite (calm_enterTwinFault ..) (.refl s))

theorem calm_eccRead (a : Nat) (s : State) : Calm s (eccRead a s).1 := by
  unfold eccRead
  split
  · exact .refl s
  · exact .of (keepsBut_of (l := [.regs, .mem, .cist, .cistern, .fab]) fun _ h => h.eccCorrect ..)
  · show Calm s (eccUncorrectable a s)
    unfold eccUncorrectable
    split
    · exact .refl s
    · rename_i g _
      have h1 : Within [.regs] (fun _ => True) s (errcap pgECC 1 (eccForm a)
          (alarm 4 (iset pgECC 1 (cnt (aECC_UE_CNT g) (eccLast a true s))))) :=
        ((((((Within.refl ..).rset _).rset _).cnt _ (by decide) trivial).iset _).alarm _).errcap _ _
      exact (Calm.of h1.1).trans (calm_twinEccFault _)

theorem calm_slotRead (t : Nat) (s : State) : Calm s (slotRead t s).1 := by
  refine (Calm.of (within_advance t s).1).trans ?_
  unfold slotRead slotCheck
  split
  · exact .refl _
  · exact List.foldlRecOn (motive := fun a : State × Bool => Calm (advance t s) a.1) _ _ (.refl _)
      fun a ha i _ => ha.trans (calm_eccRead ..)

theorem entryCheck_lost {t : Nat} (hw : entryWaits s) (hue : (slotRead t s).2 = true) :
    rget (entryCheck t s) aGALLEY_CONS = rget s aGALLEY_CONS ∧
      (partnerHot s = false → (entryCheck t s).galley.lost = true) := by
  rw [entryCheck_ue hw hue, ← slotRead_reg t s (stageAddr_galley (a := aGALLEY_CONS) (by decide))]
  have hp : partnerHot (slotRead t s).1 = partnerHot s := by
    unfold partnerHot
    rw [(calm_slotRead t s).pstate]
  unfold galleyUe
  split
  · rename_i h
    exact ⟨rfl, fun h0 => absurd (h0.symm.trans (hp.symm.trans h)) (by decide)⟩
  · exact ⟨(Within.alarm (.refl [.regs] (· = aINTC_ALMSRC) (setGalley { (slotRead t s).1.galley with lost := true }
      (slotRead t s).1)) 5
      (by decide) rfl).2 _ (by decide), fun _ => rfl⟩

/-! The entry that is taken, with no flipped word -/

/-- What a later read of the payload leaves. -/
theorem payloadRead_keeps (e : Entry) (s : State) : (payloadRead e s).comp = s.comp ∧
    ∀ a, pageOf a = pgGALLEY → rget (payloadRead e s) a = rget s a :=
  ⟨(fetched_payloadRead e s).within.1 .comp
    (by decide), fun _ ha => (fetched_payloadRead e s).within.2 _ (stageAddr_galley ha)⟩

theorem calm_payloadRead (e : Entry) (s : State) : Calm s (payloadRead e s) := by
  unfold payloadRead
  refine .ite (.refl s) (Calm.foldl (fun u i => ?_) _ s)
  unfold dmaRead
  split
  · exact .refl u
  · dsimp only
    split
    · exact (calm_eccRead ..).trans ⟨rfl, id⟩
    · exact calm_eccRead ..

section
variable (hs : Canonical s) {t : Nat} (hw : entryWaits s) (hf : s.fab.flips = [])
include hs hw hf

theorem entryCheck_refused (h : (nextCheck t s).2.2 = none) :
    rget (entryCheck t s) aGALLEY_TICKET_LAST = rget s aGALLEY_TICKET_LAST ∧ (entryCheck t s).comp = s.comp ∧
      (if s.galley.inflight = [] then
        rfld (entryCheck t s) aGALLEY_RESP 15 0 = (rfld s aGALLEY_CONS 15 0 + 1) % 65536 ∧
          rget (entryCheck t s) aGALLEY_REF_CNT = rget s aGALLEY_REF_CNT + 1 ∧ (entryCheck t s).galley.inflight = []
      else rget (entryCheck t s) aGALLEY_RESP = rget s aGALLEY_RESP ∧
        (entryCheck t s).galley.inflight.length = s.galley.inflight.length + 1) := by
  obtain ⟨hat, hfl⟩ := within_afterTake t hf
  have hflips : (afterTake t s).fab.flips = [] := (congrArg FabSt.flips (hat.1 .fab (by decide))).trans hf
  have hwf := (canonical_afterTake hs t).1
  have hst : (nextCheck t s).1 ≠ stAccepted := (judged_galleyCheck ..).1 h
  rw [entryCheck_taken hw (by rw [slotRead_clean t hf]), takeEntry_refused (nextCheck_eq t s ▸ h)]
  set x := takenOf (rfld s aGALLEY_CONS 15 0) (nextSub t s).1.val (nextSub t s).2
    (slotEntry (slotRead t s).1 (rfld s aGALLEY_CONS 15 0)) (afterTake t s)
  by_cases hi : s.galley.inflight = []
  · rw [if_pos (by rw [hfl, hi]; rfl), if_pos hi]
    obtain ⟨hpc, hpr⟩ := payloadRead_keeps (slotEntry (slotRead t s).1 (rfld s aGALLEY_CONS 15 0))
      (respond x (afterTake t s))
    have hr := within_respond x (afterTake t s)
    obtain ⟨hresp, -, href⟩ := respond_regs hwf x
    refine ⟨?_, ?_, ?_, ?_, ?_⟩
    · rw [hpr _ (by decide), hr.2 _ (by decide), hat.2 _ (by decide)]
    · rw [hpc]
      exact Eq.trans (hr.1 .comp (by decide)) (hat.1 .comp (by decide))
    · rw [rfld, hpr _ (by decide)]
      exact hresp
    · rw [hpr _ (by decide), (href hst).1, hat.2 _ (by decide)]
    · refine (calm_payloadRead ..).flight ?_
      rw [galley_respond]
      exact hfl.trans hi
  · rw [if_neg (by rw [hfl]; simpa using hi), if_neg hi, payloadRead_clean (s := setGalley
      { (afterTake t s).galley with inflight := (afterTake t s).galley.inflight ++ [x] } (afterTake t s)) hflips]
    refine ⟨hat.2 _ (by decide), hat.1 .comp (by decide), hat.2 _ (by decide), ?_⟩
    show ((afterTake t s).galley.inflight ++ [x]).length = _
    rw [hfl]
    simp

theorem entryCheck_answered {ev : Ev} (hr : replicates s = false) (h : (nextCheck t s).2.2 = some ev) :
    rfld (entryCheck t s) aGALLEY_RESP 15 0 = (rfld s aGALLEY_CONS 15 0 + 1) % 65536 ∧
      rget (entryCheck t s) aGALLEY_ACC_CNT = rget s aGALLEY_ACC_CNT + 1 ∧
      rget (entryCheck t s) aGALLEY_TICKET_LAST = laterTicket (rget s aGALLEY_TICKET_LAST) (nextTicket s) ∧
      ∃ u, (entryCheck t s).comp = (handOver ev false u).comp ∧ u.comp = s.comp ∧ u.tb = s.tb := by
  obtain ⟨hat, hfl⟩ := within_afterTake t hf
  have hcan := canonical_afterTake hs t
  have hwf := hcan.1
  obtain ⟨hst, htk⟩ := (judged_galleyCheck ..).2 ev h
  have hrep : replicates (afterTake t s) = false := by
    unfold replicates isActive partnerStandby at hr ⊢
    rwa [show (afterTake t s).twin = s.twin from hat.1 .twin (by decide)]
  rw [entryCheck_taken hw (by rw [slotRead_clean t hf]), takeEntry_accepted (nextCheck_eq t s ▸ h), if_neg (by rw [hrep]; decide)]
  set x := takenOf (rfld s aGALLEY_CONS 15 0) (nextSub t s).1.val (nextSub t s).2
    (slotEntry (slotRead t s).1 (rfld s aGALLEY_CONS 15 0)) (afterTake t s)
  obtain ⟨hj, -⟩ := within_journal ev (afterTake t s)
  have hh := settles_handOver ev false (journal ev (afterTake t s))
  have htid : Tidy s.pending True (journal ev (afterTake t s)) := by
    have h0 : Tidy s.pending True (slotRead t s).1 := Tidy.slotCheck (Tidy.advance ⟨rfl, fun _ => hs⟩ t) _
    exact ((h0.setGalley _).rput aGALLEY_CONS 15 0 _).journal ev
  have hwf2 : spWf resetWord (handOver ev false (journal ev (afterTake t s))).regs = true := hh.regsWf
      (htid.2 trivial).1
  obtain ⟨hpc, hpr⟩ := payloadRead_keeps (slotEntry (slotRead t s).1 (rfld s aGALLEY_CONS 15 0))
    (respond x (handOver ev false (journal ev (afterTake t s))))
  have hresp := within_respond x (handOver ev false (journal ev (afterTake t s)))
  obtain ⟨hval, hacc, -⟩ := respond_regs hwf2 x
  have hnext : nextTicket (afterTake t s) = nextTicket s := by
    unfold nextTicket
    rw [hat.2 _ (by decide)]
  refine ⟨?_, ?_, ?_, journal ev (afterTake t s), ?_, ?_, ?_⟩
  · rw [rfld, hpr _ (by decide)]
    exact hval
  · rw [hpr _ (by decide), hacc hst, hh.within.2 _ (by decide), hj.2 _ (acceptAddr_galley (by decide) (by decide)), hat.2 _ (by decide)]
  · rw [hpr _ (by decide), hresp.2 _ (by decide), hh.within.2 _ (by decide), ticketLast_journal hwf, htk, hnext, hat.2 _ (by decide)]
  · rw [hpc]
    exact hresp.1 .comp (by decide)
  · exact Eq.trans (hj.1 .comp (by decide)) (hat.1 .comp (by decide))
  · exact Eq.trans (hj.1 .tb (by decide)) (hat.1 .tb (by decide))

theorem entryCheck_flown {ev : Ev} (hr : replicates s = true) (h : (nextCheck t s).2.2 = some ev) :
    rget (entryCheck t s) aGALLEY_TICKET_LAST = laterTicket (rget s aGALLEY_TICKET_LAST) (nextTicket s) ∧
      (entryCheck t s).comp = s.comp ∧ (entryCheck t s).galley.inflight.length = s.galley.inflight.length + 1 ∧
      rget (entryCheck t s) aGALLEY_RESP = rget s aGALLEY_RESP := by
  obtain ⟨hat, hfl⟩ := within_afterTake t hf
  have hwf := (canonical_afterTake hs t).1
  obtain ⟨-, htk⟩ := (judged_galleyCheck ..).2 ev h
  have hrep : replicates (afterTake t s) = true := by
    unfold replicates isActive partnerStandby at hr ⊢
    rwa [show (afterTake t s).twin = s.twin from hat.1 .twin (by decide)]
  rw [entryCheck_taken hw (by rw [slotRead_clean t hf]), takeEntry_accepted (nextCheck_eq t s ▸ h), if_pos hrep]
  set x := takenOf (rfld s aGALLEY_CONS 15 0) (nextSub t s).1.val (nextSub t s).2
    (slotEntry (slotRead t s).1 (rfld s aGALLEY_CONS 15 0)) (afterTake t s)
  obtain ⟨hfw, hfi⟩ := within_flown ev x (afterTake t s)
  have hflips : (flown ev x (afterTake t s)).fab.flips = [] :=
    (congrArg FabSt.flips (Eq.trans (hfw.1 .fab (by decide)) (hat.1 .fab (by decide)))).trans hf
  have hnext : nextTicket (afterTake t s) = nextTicket s := by
    unfold nextTicket
    rw [hat.2 _ (by decide)]
  rw [payloadRead_clean hflips]
  refine ⟨?_, Eq.trans (hfw.1 .comp (by decide)) (hat.1 .comp (by decide)), by rw [hfi, hfl]; simp, ?_⟩
  · have hc := within_sendCell 4 (.slot ev) (setGalley { (journal ev (afterTake t s)).galley with
      inflight := (journal ev (afterTake t s)).galley.inflight ++ [x] } (journal ev (afterTake t s)))
    unfold flown
    rw [hc.2 _ id]
    show rget (journal ev (afterTake t s)) _ = _
    rw [ticketLast_journal hwf, htk, hnext, hat.2 _ (by decide)]
  · rw [hfw.2 _ (acceptAddr_galley (by decide) (by decide)), hat.2 _ (by decide)]

end

/-- Settles O16. -/
theorem entryCheckAcceptsOrRefuses : Obligations.EntryCheckAcceptsOrRefuses := by
  refine ⟨fun s t hs hw hue => runs_awake hw.1 rfl (entryCheck_cons hs hw hue),
    fun s t hl hw => runs_awake hl rfl (entryCheck_idle hl hw),
    fun s t hs hw hue => runs_awake hw.1 rfl (entryCheck_lost hw hue),
    fun s t hs hw hf h => runs_awake hw.1 rfl (entryCheck_refused hs hw hf h), fun s t ev hs hw hf hr h => runs_awake
      hw.1 rfl ?_,
    fun s t ev hs hw hf hr h => runs_awake hw.1 rfl (entryCheck_flown hs hw hf hr h)⟩
  obtain ⟨hresp, hacc, hlast, u, hcomp, hu, htb⟩ := entryCheck_answered hs hw hf hr h
  refine ⟨hresp, hacc, hlast, fun ho ha h1 h2 => ?_, fun hno => ?_⟩
  · have hn1 : noneWaits ev.ticket u := by rwa [noneWaits, hu]
    have hn2 : noneWaits (ev.payload.getD 0 0) u := by rwa [noneWaits, hu]
    have hc := handOver_cancel (s := u) ⟨ho, ha⟩ false hn1 hn2
    rw [hcomp, ← hu, ← htb]
    exact hc
  · rw [hcomp, queue_handOver hno, hu]

/-! ### The entries in flight -/

/-- What of an entry in flight a completion leaves. -/
def flightShape (x : Taken) : Nat × Nat × Word × Option Nat × Bool := (x.count, x.status, x.ticket, x.act, x.ev.isNone)

/-- The entries in flight stay, their events changed at most, and the fault bit of a lost partner stays. -/
structure Flow (s t : State) : Prop where
  flight : t.galley.inflight.map flightShape = s.galley.inflight.map flightShape
  mark : rbit s (aISTAT pgGALLEY) 4 = true → rbit t (aISTAT pgGALLEY) 4 = true

namespace Flow
variable {t u : State}

theorem refl (s : State) : Flow s s := ⟨rfl, id⟩

theorem trans (h : Flow s t) (h' : Flow t u) : Flow s u := ⟨h'.flight.trans h.flight, fun h0 => h'.mark (h.mark h0)⟩

theorem ite {p : Prop} [Decidable p] (h : Flow s t) (h' : Flow s u) : Flow s (if p then t else u) := by
  split <;> assumption

theorem foldl {α : Type} {f : State → α → State} (hf : ∀ u x, Flow s u → Flow s (f u x)) (l : List α) (h : Flow s t) :
    Flow s (l.foldl f t) :=
  List.foldlRecOn (motive := Flow s) _ _ h fun u hu x _ => hf u x hu

/-- What leaves the Galley and its ISTAT. -/
theorem of {l : List Part} {A : Nat → Prop} (h : Within l A s t) (hl : .galley ∉ l := by decide)
    (hA : ¬ A (aISTAT pgGALLEY) := by decide) : Flow s t :=
  ⟨congrArg (fun g : GalleySt => g.inflight.map flightShape) (h.1 .galley hl), fun h0 =>
    (congrArg (bit · 4) (h.2 _ hA)).trans h0⟩

section
variable (h : Flow s t)
include h

theorem rset {a : Nat} (v : Word) (ha : aISTAT pgGALLEY ≠ a := by decide) : Flow s (rset a v t) :=
  h.trans ⟨rfl, fun h0 => (congrArg (bit · 4) (rget_rset_ne t v ha)).trans h0⟩

theorem cnt {a : Nat} (n : Nat) (ha : aISTAT pgGALLEY ≠ a := by decide) : Flow s (cnt a t n) := h.rset _ ha

theorem iset (p : Fin 64) (b : Nat) : Flow s (iset p b t) := by
  refine h.trans ⟨rfl, fun h0 => ?_⟩
  by_cases hp : aISTAT pgGALLEY = aISTAT p
  · rw [hp] at h0 ⊢
    exact rbit_iset_of_rbit p h0
  · rw [rbit, rget_iset_ne _ _ _ hp]
    exact h0

theorem errcap {p : Nat} (code a : Nat) (hc : aISTAT pgGALLEY ≠ aERRCAP p := by decide)
    (ha : aISTAT pgGALLEY ≠ aERRADDR p := by decide) :
    Flow s (errcap p code a t) :=
  .ite (h.rset _ hc) ((h.rset _ hc).rset _ ha)

theorem peak {a : Nat} (n : Nat) (ha : aISTAT pgGALLEY ≠ a := by decide) : Flow s (peak a n t) := .ite (h.rset _ ha) h

theorem stWords (a : Nat) (l : List Word) : Flow s (stWords a l t) := h.trans (.of (within_stWords l a t))

theorem setComp (x : CompositorSt) : Flow s { t with comp := x } := ⟨h.flight, h.mark⟩

theorem mapFlight (f : Ev → Ev) : Flow s (mapFlight f t) := by
  refine h.trans ⟨?_, id⟩
  show (t.galley.inflight.map fun x => { x with ev := x.ev.map f }).map flightShape = _
  rw [List.map_map]
  refine List.map_congr_left fun x _ => ?_
  simp [flightShape]

theorem record (e : Ev) (outcome late land done : Nat) : Flow s (record e outcome late land done t) := by
  unfold Machine.record
  extract_lets a _ s1 s2 s3 s4 s5 s6 _ _
  have hs2 : Flow s s2 := ((h.stWords _ _).cnt _).rset _
  have hs3 : Flow s s3 := .ite (hs2.iset ⟨pgGALLEY, by decide⟩ _) hs2
  have hs4 : Flow s s4 := .ite ((hs3.cnt _).iset ⟨pgCOMPOSITOR, by decide⟩ _) hs3
  have hs5 : Flow s s5 := .ite ((hs4.cnt _).iset ⟨pgCOMPOSITOR, by decide⟩ _) hs4
  have hs6 : Flow s s6 := .ite (hs5.iset ⟨pgCOMPOSITOR, by decide⟩ _) hs5
  exact ⟨hs6.flight, hs6.mark⟩

end

theorem cancelDeps (n : Nat) : ∀ (w : Word) {t : State}, Flow s t → Flow s (cancelDeps n w t) := by
  induction n with
  | zero => exact fun _ _ h => h
  | succ n ih => exact fun w t h => .foldl (fun _ _ hu => ih _ ((hu.setComp _).record ..)) _ (h.mapFlight _)

section
variable (h : Flow s t)
include h

theorem applyCancel (target : Word) : Flow s (applyCancel target t).1 := by
  unfold Machine.applyCancel
  split
  · exact .cancelDeps _ _ ((h.setComp _).record ..)
  · exact h

theorem deferred : Flow s (deferred t) := .ite (h.setComp _) ((h.setComp _).iset ⟨pgCOMPOSITOR, by decide⟩ _)

theorem joinSel (e : Ev) : Flow s (joinSel e t) := by
  unfold Machine.joinSel
  extract_lets free _ q m
  have hq : Flow s q.1 := by
    unfold q
    split
    · exact h.setComp _
    · exact (h.setComp _).applyCancel _
  split
  · exact h.deferred
  · split
    · exact (hq.setComp _).deferred
    · exact hq.setComp _

theorem releaseDeps (w : Word) (c : Nat) : Flow s (releaseDeps w c t) :=
  .foldl (fun _ _ hv => .ite ((hv.setComp _).joinSel _) (hv.setComp _)) _ (h.mapFlight _)

theorem finish (e : Ev) (outcome late land done : Nat) : Flow s (finish e outcome late land done t) :=
  .ite (.cancelDeps _ _ (h.record ..)) ((h.record ..).releaseDeps ..)

theorem enqueue (e : Ev) : Flow s (enqueue e t) :=
  .ite (((h.setComp _).peak _).iset ⟨pgCOMPOSITOR, by decide⟩ _) ((h.setComp _).peak _)

theorem handOver (ev : Ev) (noTable : Bool) : Flow s (handOver ev noTable t) := by
  have h1 : Flow s (clientTaken ev noTable t) := .ite h ⟨h.flight, h.mark⟩
  rw [handOver_eq]
  exact .ite ((h1.applyCancel _).finish ..) (h1.enqueue _)

theorem respond (x : Taken) : Flow s (respond x t) := by
  have h0 : Flow s (respStored x t) := ((h.stWords _ _).rset _).iset ⟨pgGALLEY, by decide⟩ _
  by_cases hx : x.status = stAccepted
  · rw [respond_accepted hx]
    have h1 : Flow s (respAccepted x (respStored x t)) := (h0.cnt _).peak _
    exact ⟨h1.flight, h1.mark⟩
  · rw [respond_refused hx]
    have h1 : Flow s (Machine.cnt aGALLEY_REF_CNT (if x.status = stDuplicate then Machine.cnt aGALLEY_DUP_CNT
        (respStored x t)
        else Machine.iset pgGALLEY 1 (respStored x t))) := (Flow.ite (h0.cnt _) (h0.iset ⟨pgGALLEY, by decide⟩ _)).cnt _
    have h2 : Flow s (respRefused x (respStored x t)) := .ite (h1.iset ⟨pgGALLEY, by decide⟩ _) h1
    exact ⟨h2.flight, h2.mark⟩

theorem actionDone (i status : Nat) (ticket : Word) : Flow s (actionDone i status ticket t) :=
  .ite ((((h.rset _).cnt _).rset _).cnt _) (((((h.rset _).cnt _).iset ⟨pgSENSE, by decide⟩ _).errcap _ _).cnt _)

theorem answer (x : Taken) : Flow s (answer x t) := by
  unfold Machine.answer
  split
  · exact h.actionDone ..
  · exact h.respond _

theorem settleTaken (x : Taken) : Flow s (settleTaken x t) := by
  unfold Machine.settleTaken
  split
  · exact (h.handOver ..).answer _
  · exact h.answer _

end
end Flow

/-! ### Answers of SENSE actions -/

/-- The registers that the answer of an action changes. -/
def actionRegs : List Nat :=
  [aSENSE_ACT_LAST, aSENSE_ACT_CNT, aSENSE_ACT_TICKET, aSENSE_ACT_REF_CNT, aISTAT pgSENSE, aERRCAP pgSENSE, aERRADDR
    pgSENSE,
    aGALLEY_ACC_CNT, aGALLEY_REF_CNT]

theorem within_actionDone (i status : Nat) (ticket : Word) (s : State) :
    Within [.regs] (· ∈ actionRegs) s (actionDone i status ticket s) := by
  have h0 : Within [.regs] (· ∈ actionRegs) s (rset aSENSE_ACT_LAST (fld status 24 ||| fld i 0) s) :=
      (Within.refl ..).rset _
  exact .ite (((h0.cnt _).rset _).cnt _) ((((h0.cnt _).iset _).errcap _ _).cnt _)

theorem acc_actionDone (hs : spWf resetWord s.regs = true) (i : Nat) (ticket : Word) :
    rget (actionDone i 0 ticket s) aGALLEY_ACC_CNT = rget s aGALLEY_ACC_CNT + 1 := by
  unfold actionDone
  dsimp only
  rw [if_pos rfl, rget_cnt (rset_regs_wf (cnt_regs_wf (rset_regs_wf hs _ _) _ _) _ _), rget_rset_ne _ _
    (by decide), cnt,
    rget_rset_ne _ _ (by decide), rget_rset_ne _ _ (by decide)]
  rfl

/-- The registers that an answer changes. -/
def answerRegs : List Nat := respRegs ++ actionRegs

theorem within_answer (x : Taken) (s : State) : Within [.regs, .mem, .fab, .galley] (· ∈ answerRegs) s
    (answer x s) := by
  unfold answer
  split
  · exact (within_actionDone ..).mono (by decide) fun a ha => List.mem_append_right _ ha
  · exact (within_respond ..).mono (by decide) fun a ha => List.mem_append_left _ ha

/-- An entry whose acceptance completes counts once. -/
theorem acc_answer (hs : spWf resetWord s.regs = true) {x : Taken} (h : x.status = 0) :
    rget (answer x s) aGALLEY_ACC_CNT = rget s aGALLEY_ACC_CNT + 1 := by
  unfold answer
  split
  · rw [h]
    exact acc_actionDone hs ..
  · exact (respond_regs hs x).2.1 h

theorem settleTaken_ev {x : Taken} {ev : Ev} (h : x.ev = some ev) (s : State) :
    settleTaken x s = answer x (handOver ev x.noTable s) := by
  unfold settleTaken
  rw [h]

theorem within_settleTaken (x : Taken) (s : State) :
    Within [.regs, .mem, .fab, .galley, .comp] (fun a => a ∈ handRegs ∨ a ∈ answerRegs) s (settleTaken x s) := by
  unfold settleTaken
  split
  · exact ((settles_handOver ..).within.mono (by decide) fun _ h => .inl h).trans
      ((within_answer ..).mono (by decide) fun _ h => .inr h)
  · exact (within_answer ..).mono (by decide) fun _ h => .inr h

/-! ### O17: refusals behind an entry -/

/-- The answers of the refusals at the head of the flight. -/
theorem flushRefused_facts (l : List Taken) : ∀ {s : State}, Canonical s →
    (flushRefused l s).galley.inflight = l.dropWhile (fun y => y.ev.isNone) ∧ (flushRefused l s).comp = s.comp ∧
      (flushRefused l s).sense = s.sense ∧
      ((∀ y ∈ l, y.ev = none → y.status ≠ 0) → rget (flushRefused l s) aGALLEY_ACC_CNT = rget s aGALLEY_ACC_CNT) := by
  induction l with
  | nil => exact fun _ => ⟨rfl, rfl, rfl, fun _ => rfl⟩
  | cons x l ih =>
    intro s hs
    rw [flushRefused]
    by_cases hx : x.ev.isSome = true
    · rw [if_pos hx, List.dropWhile_cons_of_neg (by simpa using Option.ne_none_iff_isSome.2 hx)]
      exact ⟨rfl, rfl, rfl, fun _ => rfl⟩
    · have hnone : x.ev = none := by simpa using hx
      have hr := within_respond x s
      obtain ⟨h1, h2, h3, h4⟩ := ih ((Tidy.respond (q := s.pending) (c := True) ⟨rfl, fun _ => hs⟩ x).2 trivial)
      rw [if_neg hx, List.dropWhile_cons_of_pos (by rw [hnone]; rfl)]
      refine ⟨h1, h2.trans (hr.1 .comp (by decide)), h3.trans (hr.1 .sense (by decide)), fun h => ?_⟩
      rw [h4 fun y hy => h y (List.mem_cons_of_mem _ hy)]
      exact ((respond_regs hs.1 x).2.2 (h x List.mem_cons_self hnone)).2

/-- The flight behind an entry, after its acceptance has completed. -/
def behind (x : Taken) (rest : List Taken) (s : State) : State := settleTaken x
    (setGalley { s.galley with inflight := rest } s)

theorem flow_behind (x : Taken) (rest : List Taken) (s : State) :
    (behind x rest s).galley.inflight.map flightShape = rest.map flightShape ∧
      (rbit s (aISTAT pgGALLEY) 4 = true → rbit (behind x rest s) (aISTAT pgGALLEY) 4 = true) := by
  have h := (Flow.refl (setGalley { s.galley with inflight := rest } s)).settleTaken x
  exact ⟨h.flight, h.mark⟩

theorem canonical_behind (hs : Canonical s) (x : Taken) (rest : List Taken) : Canonical (behind x rest s) := by
  have h : Tidy s.pending True s := ⟨rfl, fun _ => hs⟩
  exact ((h.setGalley { s.galley with inflight := rest }).settleTaken x).2 trivial

theorem length_dropWhile_of_shape {l m : List Taken} (h : l.map flightShape = m.map flightShape) :
    (l.dropWhile fun y => y.ev.isNone).length = (m.dropWhile fun y => y.ev.isNone).length := by
  have hmap (l : List Taken) : (l.dropWhile fun y => y.ev.isNone).length =
      ((l.map flightShape).dropWhile fun z => z.2.2.2.2).length := by
    rw [List.dropWhile_map, List.length_map]
    rfl
  rw [hmap, hmap, h]

theorem refused_of_shape {l m : List Taken} (h : l.map flightShape = m.map flightShape)
    (hm : ∀ y ∈ m, y.ev = none → y.status ≠ 0) : ∀ y ∈ l, y.ev = none → y.status ≠ 0 := by
  intro y hy hnone
  obtain ⟨z, hz, he⟩ := List.mem_map.1 (h ▸ List.mem_map_of_mem hy)
  simp only [flightShape, Prod.mk.injEq] at he
  obtain ⟨-, hst, -, -, hev⟩ := he
  rw [← hst]
  exact hm z hz (by rw [hnone] at hev; simpa using hev)

/-- An acknowledgement of the oldest entry in flight. -/
theorem replAck_oldest {x : Taken} {rest : List Taken} {ev : Ev} (hi : s.galley.inflight = x :: rest)
    (hev : x.ev = some ev) (t : Nat) :
    replAck ev.ticket t s = flushRefused (behind x rest (advance t s)).galley.inflight
      (behind x rest (advance t s)) := by
  have hg : (advance t s).galley.inflight = x :: rest :=
    (congrArg GalleySt.inflight ((within_advance t s).1 .galley (by decide))).trans hi
  unfold replAck
  simp only [hg, hev]
  rw [if_pos trivial]
  rfl

theorem replAck_other {x : Taken} {rest : List Taken} {ev : Ev} {ticket : Word} (hi : s.galley.inflight = x :: rest)
    (hev : x.ev = some ev)
    (hne : ticket ≠ ev.ticket) (t : Nat) : replAck ticket t s = advance t s := by
  have hg : (advance t s).galley.inflight = x :: rest :=
    (congrArg GalleySt.inflight ((within_advance t s).1 .galley (by decide))).trans hi
  unfold replAck
  simp only [hg, hev]
  exact if_neg fun h => hne h.symm

theorem retryActions_none (h : s.sense.retries = []) : retryActions s = s := by
  unfold retryActions
  rw [h]
  show setSense { s.sense with retries := [] } s = s
  rw [← h]
  rfl

/-! ### O17: memory outside the words that are read -/

/-- The correction of a word changes that word alone. -/
theorem rdByte_eccRead {a b : Nat} (ha : a < cistBase) (hb : ¬ (keyOf a ≤ b ∧ b < keyOf a + 4)) (s : State) :
    rdByte (eccRead a s).1 b = rdByte s b := by
  unfold eccRead
  split
  · rfl
  · rename_i r _
    show rdByte (eccCorrect a r s) b = _
    unfold eccCorrect
    split
    · rfl
    · rename_i g _
      dsimp only
      have hauto (u : State) : rdByte (autoRemap a g u) b = rdByte u b :=
        congrArg (spGet memReset · b) (keepsBut_of (l := [.regs, .fab]) (fun hl h => h.autoRemap a g hl) .mem
          (by decide))
      rw [hauto]
      have hset (u : State) : rdByte (settleData a r u) b = rdByte u b := by
        unfold settleData
        split
        · rfl
        · rw [if_neg (by omega)]
          exact rdByte_wrWord_ne _ _ _ hb
      show rdByte (settleData a r _) b = _
      rw [hset]
      split <;> rfl
  · exact congrArg (spGet memReset · b) (eccUncorrectable_mem a s)

theorem rdByte_dmaRead {a b : Nat} (ha : a < cistBase) (hb : ¬ (keyOf a ≤ b ∧ b < keyOf a + 4)) (s : State) :
    rdByte (dmaRead a s).2 b = rdByte s b := by
  unfold dmaRead
  split
  · rfl
  · dsimp only
    split <;> exact rdByte_eccRead ha hb s

/-- A payload lies in the heap of the Galley. -/
theorem rdByte_payloadRead (e : Entry) {b : Nat} (hb : b < 0x380000) (s : State) : rdByte (payloadRead e s) b =
    rdByte s b := by
  unfold payloadRead
  split
  · rfl
  · rename_i h
    simp only [not_or, not_not] at h
    obtain ⟨-, -, hok⟩ := h
    have hlo : 0x380000 ≤ e.w4.toNat ∧ e.w4.toNat + 4 * e.len ≤ 0x3C0000 := by
      simp only [ptrOk, Bool.and_eq_true, decide_eq_true_eq] at hok
      omega
    refine List.foldlRecOn (motive := fun u => rdByte u b = rdByte s b) _ _ rfl fun u hu i hi => ?_
    have hlt := List.mem_range.1 hi
    have hcist : e.w4.toNat + 4 * i < cistBase := by unfold cistBase; omega
    refine (rdByte_dmaRead hcist ?_ u).trans hu
    unfold keyOf
    rw [if_pos hcist]
    omega

/-! ### O17: actions that wait -/

/-- What every step of a SENSE action keeps, its submission keeps. -/
structure ActionKept (P : State → Prop) : Prop where
  sense : ∀ u x, P u → P (setSense x u)
  read : ∀ u e, P u → P (payloadRead e u)
  flown : ∀ u ev x, replicates u = true → P u → P (flown ev x u)
  settled : ∀ u ev (x : Taken), x.act.isSome = true → P u → P (settleTaken x (journal ev u))
  last : ∀ u v, P u → P (rset aSENSE_ACT_LAST v u)
  done : ∀ u i n w, P u → P (actionDone i n w u)

theorem ActionKept.submit {P : State → Prop} (k : ActionKept P) (i : Nat) (first : Option Nat) (h : P s) :
    P (submitAction i first s) := by
  unfold submitAction
  split
  · exact h
  split
  · exact k.sense _ _ h
  · extract_lets e u r x
    have hu : P u := k.read _ _ h
    split
    · rename_i ev _
      dsimp only
      split
      · rename_i hrep
        exact k.flown u ev x hrep hu
      · exact k.settled u ev x rfl hu
    · split
      · exact k.sense _ _ (k.last _ _ hu)
      · exact k.done _ _ _ _ hu

theorem ActionKept.retry {P : State → Prop} (k : ActionKept P) (h : P s) : P (retryActions s) :=
  List.foldlRecOn (motive := P) _ _ (k.sense _ _ h) fun _ hu r _ => k.submit r.1 (some r.2) hu

/-- The response ring and RESP are as in `s`. -/
def RespKept (s u : State) : Prop :=
  rget u aGALLEY_RESP = rget s aGALLEY_RESP ∧ ∀ b, b < compRing → rdByte u b = rdByte s b

theorem RespKept.trans {t u : State} (h : RespKept s t) (h' : RespKept t u) : RespKept s u :=
  ⟨h'.1.trans h.1, fun b hb => (h'.2 b hb).trans (h.2 b hb)⟩

theorem RespKept.of {u : State} {l : List Part} {A : Nat → Prop} (h : Within l A s u)
    (hA : ¬ A aGALLEY_RESP := by decide)
    (hl : .mem ∉ l := by decide) : RespKept s u :=
  ⟨h.2 _ hA, fun b _ => congrArg (spGet memReset · b) (h.1 .mem hl)⟩

theorem actionKept_resp (s : State) : ActionKept (RespKept s) where
  sense u x h := h.trans ⟨rfl, fun _ _ => rfl⟩
  read u e h := h.trans ⟨(payloadRead_keeps e u).2 _
    (by decide), fun b hb => rdByte_payloadRead e (Nat.lt_trans hb (by decide)) u⟩
  flown u ev x _ h := h.trans (.of (within_flown ev x u).1 (acceptAddr_galley (by decide) (by decide)))
  settled u ev x hx h := by
    obtain ⟨i, hi⟩ := Option.isSome_iff_exists.1 hx
    have hj : RespKept u (journal ev u) := .of (within_journal ev u).1 (acceptAddr_galley (by decide) (by decide))
    have hans (v : State) : RespKept v (answer x v) := by
      unfold answer
      rw [hi]
      exact .of (within_actionDone ..)
    refine (h.trans hj).trans ?_
    unfold settleTaken
    split
    · refine RespKept.trans ?_ (hans _)
      have hs := settles_handOver ‹Ev› x.noTable (journal ev u)
      exact ⟨hs.within.2 _ (by decide), fun b hb => hs.mem b fun hin => absurd hin.1 (Nat.not_le.2 hb)⟩
    · exact hans _
  last u v h := h.trans ⟨rget_rset_ne _ _ (by decide), fun _ _ => rfl⟩
  done u i n w h := h.trans (.of (within_actionDone ..))

/-- The response of an entry names its ticket. -/
theorem rdWord_respond (hm : Memory.wf s.mem) (x : Taken) : rdWord (respond x s) (respRing + 8 * (x.count % 4096)) =
    x.ticket := by
  have hst : rdWord (respStored x s) (respRing + 8 * (x.count % 4096)) = x.ticket := by
    show rdWord (stWords (respRing + 8 * (x.count % 4096)) [x.ticket, fld x.count 16 ||| fld x.status 0] s) _ = _
    simp only [stWords]
    rw [rdWord_stWord_ne _ _ _ (by omega), rdWord_stWord hm]
  by_cases h : x.status = stAccepted
  · rw [respond_accepted h, ← hst]
    exact rdWord_congr fun b _ _ => congrArg (spGet memReset · b) ((within_respAccepted x _).1 .mem (by decide))
  · rw [respond_refused h, ← hst]
    exact rdWord_congr fun b _ _ => congrArg (spGet memReset · b) ((within_respRefused x _).1 .mem (by decide))

/-! ### O17: the acknowledgement -/

theorem canonical_advance (hs : Canonical s) (t : Nat) : Canonical (advance t s) :=
  (Tidy.advance (q := s.pending) (c := True) ⟨rfl, fun _ => hs⟩ t).2 trivial

section
variable (hs : Canonical s) {x : Taken} {rest : List Taken} {ev : Ev} (hi : s.galley.inflight = x :: rest)
  (hev : x.ev = some ev)
include hs hi hev

/-- The entry whose acceptance completes at the acknowledgement. -/
theorem replAck_effect (t : Nat) (hr : s.sense.retries = []) :
    let u := retryActions (replAck ev.ticket t s)
    u.galley.inflight.length = (rest.dropWhile fun y => y.ev.isNone).length ∧
      (¬ (ev.e.opcode = opCancel ∧ ev.e.axis = 0) → u.comp.queue = s.comp.queue ++ [ev]) ∧
      (x.status = 0 → (∀ y ∈ rest, y.ev = none → y.status ≠ 0) → rget u aGALLEY_ACC_CNT = rget s aGALLEY_ACC_CNT +
        1) := by
  dsimp only
  have hcan := canonical_advance hs t
  set a := advance t s with ha
  have hadv := within_advance t s
  obtain ⟨hflow, -⟩ := flow_behind x rest a
  obtain ⟨hfl, hcomp, hsense, hacc⟩ := flushRefused_facts (behind x rest a).galley.inflight
    (canonical_behind hcan x rest)
  have hvsense : (behind x rest a).sense = s.sense :=
    Eq.trans (Eq.trans ((within_settleTaken x (setGalley { a.galley with inflight := rest } a)).1 .sense
      (by decide)) rfl)
      (hadv.1 .sense (by decide))
  rw [replAck_oldest hi hev t, ← ha, retryActions_none
    (by rw [hsense, hvsense, hr]), hfl, length_dropWhile_of_shape hflow, hcomp]
  have hvdef : behind x rest a = answer x (handOver ev x.noTable (setGalley { a.galley with inflight := rest } a)) :=
      settleTaken_ev hev _
  refine ⟨rfl, fun hno => ?_, fun hst href => ?_⟩
  · rw [hvdef]
    have hq := queue_handOver hno x.noTable (setGalley { a.galley with inflight := rest } a)
    rw [show (answer x _).comp = _ from (within_answer x _).1 .comp (by decide), hq]
    exact congrArg (·.queue ++ [ev]) (hadv.1 .comp (by decide))
  · have hh := settles_handOver ev x.noTable (setGalley { a.galley with inflight := rest } a)
    rw [hacc (refused_of_shape hflow href), hvdef, acc_answer (hh.regsWf hcan.1) hst, hh.within.2 _ (by decide)]
    exact congrArg (· + 1) (hadv.2 _ id)

/-- The answer of a ring entry whose acceptance completes. -/
theorem replAck_answer (t : Nat) (hact : x.act = none) (hhead : ∀ y, rest.head? = some y → y.ev.isSome = true) :
    let u := retryActions (replAck ev.ticket t s)
    rfld u aGALLEY_RESP 15 0 = (x.count + 1) % 65536 ∧ rdWord u (respRing + 8 * (x.count % 4096)) = x.ticket := by
  dsimp only
  have hcan := canonical_advance hs t
  rw [replAck_oldest hi hev t]
  set a := advance t s
  obtain ⟨hflow, -⟩ := flow_behind x rest a
  set w := handOver ev x.noTable (setGalley { a.galley with inflight := rest } a) with hw
  have hh := settles_handOver ev x.noTable (setGalley { a.galley with inflight := rest } a)
  have hv : behind x rest a = respond x w := by
    rw [behind, settleTaken_ev hev, answer, hact]
  have hlist : ∀ y, (behind x rest a).galley.inflight.head? = some y → y.ev.isSome = true := by
    intro y hy
    cases rest with
    | nil =>
      rw [List.map_nil, List.map_eq_nil_iff] at hflow
      rw [hflow] at hy
      exact absurd hy (by simp)
    | cons z l =>
      rw [List.map_cons] at hflow
      obtain ⟨y', l', he, hy', -⟩ := List.map_eq_cons_iff.1 hflow
      rw [he] at hy
      obtain rfl : y' = y := by simpa using hy
      simp only [flightShape, Prod.mk.injEq] at hy'
      have hz := hhead z rfl
      cases hye : y'.ev with
      | some _ => rfl
      | none =>
        rw [hye] at hy'
        rw [Option.isSome_iff_ne_none] at hz
        exact absurd (by simpa using hy'.2.2.2.2.symm) hz
  have hflush : RespKept (respond x w) (flushRefused (behind x rest a).galley.inflight (behind x rest a)) := by
    rw [hv] at hlist ⊢
    cases hl : (respond x w).galley.inflight with
    | nil => exact ⟨rfl, fun _ _ => rfl⟩
    | cons y l =>
      rw [flushRefused, if_pos (hlist y (by rw [hl]; rfl))]
      exact ⟨rfl, fun _ _ => rfl⟩
  obtain ⟨hresp, hmem⟩ := (actionKept_resp (respond x w)).retry hflush
  refine ⟨?_, ?_⟩
  · rw [rfld, hresp]
    exact (respond_regs (hh.regsWf hcan.1) x).1
  · have hlt := Nat.mod_lt x.count (show 4096 > 0 by decide)
    rw [rdWord_congr fun b h1 h2 => hmem b (by unfold compRing; unfold respRing at h2; omega)]
    exact rdWord_respond (hh.memWf hcan.2.1) x

end

/-! ### O17: the time-out -/

/-- The partner counts as lost, nothing is in flight, and the fault bit is set. -/
structure Alone (u : State) : Prop where
  pstate : u.twin.pstate = 0xF
  flight : u.galley.inflight = []
  mark : rbit u (aISTAT pgGALLEY) 4 = true

theorem Alone.calm {u v : State} (h : Alone u) (hc : Calm u v)
    (hr : rget v (aISTAT pgGALLEY) = rget u (aISTAT pgGALLEY)) : Alone v :=
  ⟨hc.pstate.trans h.pstate, hc.flight h.flight, (congrArg (bit · 4) hr).trans h.mark⟩

theorem Alone.flow {u v : State} (h : Alone u) (hf : Flow u v) (ht : v.twin = u.twin) : Alone v := by
  have hl := hf.flight
  rw [h.flight, List.map_nil, List.map_eq_nil_iff] at hl
  exact ⟨by rw [ht]; exact h.pstate, hl, hf.mark h.mark⟩

theorem calm_journal (ev : Ev) (s : State) : Calm s (journal ev s) := by
  obtain ⟨hw, hi⟩ := within_journal ev s
  exact ⟨congrArg TwinSt.pstate (hw.1 .twin (by decide)), hi.trans⟩

theorem twin_settleTaken (x : Taken) (s : State) : (settleTaken x s).twin = s.twin := (within_settleTaken x s).1
    .twin (by decide)

theorem actionKept_alone : ActionKept Alone where
  sense u x h := ⟨h.pstate, h.flight, h.mark⟩
  read u e h := h.calm (calm_payloadRead e u) ((payloadRead_keeps e u).2 _ (by decide))
  flown u ev x hrep h := by
    unfold replicates partnerStandby at hrep
    rw [h.pstate] at hrep
    exact absurd hrep (by simp)
  settled u ev x _ h :=
    (h.calm (calm_journal ev u) ((within_journal ev u).1.2 _ (acceptAddr_galley (by decide) (by decide)))).flow
      ((Flow.refl _).settleTaken x) (twin_settleTaken ..)
  last u v h := ⟨h.pstate, h.flight, (congrArg (bit · 4) (rget_rset_ne _ _ (by decide))).trans h.mark⟩
  done u i n w h := h.flow ((Flow.refl u).actionDone i n w) ((within_actionDone i n w u).1 .twin (by decide))

/-- One step of the emptying of the flight. -/
def flushOne (u : State) : State :=
  match u.galley.inflight with
  | x :: rest => settleTaken x (setGalley { u.galley with inflight := rest } u)
  | [] => u

theorem flushAll_eq (s : State) : flushAll s = s.galley.inflight.foldl (fun u _ => flushOne u) s := rfl

theorem flushOne_facts (u : State) : (flushOne u).galley.inflight.length = u.galley.inflight.length - 1 ∧
    (rbit u (aISTAT pgGALLEY) 4 = true → rbit (flushOne u) (aISTAT pgGALLEY) 4 = true) ∧ (flushOne u).twin = u.twin ∧
      (flushOne u).sense = u.sense := by
  unfold flushOne
  split
  · rename_i x rest h
    obtain ⟨hfl, hmark⟩ := flow_behind x rest u
    have hw := within_settleTaken x (setGalley { u.galley with inflight := rest } u)
    refine ⟨?_, hmark, hw.1 .twin (by decide), hw.1 .sense (by decide)⟩
    have hlen := congrArg List.length hfl
    rw [List.length_map, List.length_map] at hlen
    rw [h]
    exact hlen
  · rename_i h
    exact ⟨by rw [h]; rfl, id, rfl, rfl⟩

/-- The flight is empty after as many steps as it has entries. -/
theorem foldl_flushOne {α : Type} (l : List α) : ∀ {u : State}, u.galley.inflight.length ≤ l.length →
    let v := l.foldl (fun u _ => flushOne u) u
    v.galley.inflight = [] ∧ (rbit u (aISTAT pgGALLEY) 4 = true → rbit v (aISTAT pgGALLEY) 4 = true) ∧ v.twin = u.twin ∧
      v.sense = u.sense := by
  induction l with
  | nil => exact fun h => ⟨List.length_eq_zero_iff.1 (Nat.le_zero.1 h), id, rfl, rfl⟩
  | cons x l ih =>
    intro u h
    obtain ⟨hlen, hmark, htwin, hsense⟩ := flushOne_facts u
    rw [List.length_cons] at h
    obtain ⟨h1, h2, h3, h4⟩ := ih (u := flushOne u) (by omega)
    exact ⟨h1, fun h0 => h2 (hmark h0), h3.trans htwin, h4.trans hsense⟩

theorem partnerLost_active (ha : s.twin.st = .active) :
    (partnerLost s).twin.pstate = 0xF ∧ Within [.regs, .twin] (· ∈ [aINTC_ALMSRC, aISTAT pgTWIN]) s
      (partnerLost s) := by
  unfold partnerLost
  split
  · rename_i h
    exact ⟨h, .refl ..⟩
  · dsimp only
    set s0 : State := { s with twin := { s.twin with pstate := 0xF, mirrorCh := [] } } with hs0
    have h0 : Within [.regs, .twin] (· ∈ [aINTC_ALMSRC, aISTAT pgTWIN]) s s0 :=
      ⟨fun p hp => by cases p <;> first | rfl | exact absurd (by decide) hp, fun _ _ => rfl⟩
    have h1 : Within [.regs, .twin] (· ∈ [aINTC_ALMSRC, aISTAT pgTWIN]) s
        (sendCell 8 .fence (alarm 8 (iset pgTWIN 6 s0))) :=
      ((h0.iset _).alarm _).trans ((within_sendCell ..).mono (by decide) fun _ h => h.elim)
    have htwin : (sendCell 8 .fence (alarm 8 (iset pgTWIN 6 s0))).twin.st = .active ∧
        (sendCell 8 .fence (alarm 8 (iset pgTWIN 6 s0))).twin.pstate = 0xF := by
      unfold sendCell
      split
      · exact ⟨ha, rfl⟩
      · exact ⟨ha, rfl⟩
    rw [htwin.1]
    exact ⟨htwin.2, h1⟩

theorem replTimeout_due {x : Taken} {rest : List Taken} (ha : isActive s = true) (hi : s.galley.inflight = x :: rest)
    (hev : x.ev.isSome = true) {t : Nat} (ht : x.t + 2000000 ≤ max s.now t) :
    replTimeout t s = flushAll (partnerLost (errcap pgGALLEY 4 0 (iset pgGALLEY 4 (advance t s)))) := by
  have hadv := within_advance t s
  have hg : (advance t s).galley.inflight = x :: rest := (congrArg GalleySt.inflight
      (hadv.1 .galley (by decide))).trans hi
  have hact : isActive (advance t s) = true := by
    unfold isActive at ha ⊢
    rwa [show (advance t s).twin = s.twin from hadv.1 .twin (by decide)]
  unfold replTimeout
  simp only [hg]
  exact if_pos ⟨hact, hev, by rw [now_advance, Nat.max_comm]; exact ht⟩

theorem replTimeout_idle {t : Nat}
    (h : ∀ x, s.galley.inflight.head? = some x → isActive s = false ∨ x.ev = none ∨ max s.now t < x.t + 2000000) :
    replTimeout t s = advance t s := by
  have hadv := within_advance t s
  have hg : (advance t s).galley.inflight = s.galley.inflight := congrArg GalleySt.inflight (hadv.1 .galley (by decide))
  have hact : isActive (advance t s) = isActive s := by
    unfold isActive
    rw [show (advance t s).twin = s.twin from hadv.1 .twin (by decide)]
  unfold replTimeout
  simp only [hg]
  split
  · rename_i x rest hi
    refine if_neg ?_
    rw [hact, now_advance, Nat.max_comm]
    rintro ⟨h1, h2, h3⟩
    rcases h x (by rw [hi]; rfl) with h0 | h0 | h0
    · exact absurd (h1.symm.trans h0) (by decide)
    · rw [h0] at h2
      exact absurd h2 (by decide)
    · omega
  · rfl

theorem replTimeout_effect (hs : Canonical s) {x : Taken} {rest : List Taken} (ha : isActive s = true)
    (hi : s.galley.inflight = x :: rest) (hev : x.ev.isSome = true) {t : Nat} (ht : x.t + 2000000 ≤ max s.now t) :
    let u := retryActions (replTimeout t s)
    u.galley.inflight = [] ∧ rbit u (aISTAT pgGALLEY) 4 = true ∧ u.twin.pstate = 0xF ∧
      (s.sense.retries = [] → x.act = none → (rest = [] → rfld u aGALLEY_RESP 15 0 = (x.count + 1) % 65536)) := by
  dsimp only
  rw [replTimeout_due ha hi hev ht]
  have hadv := within_advance t s
  have hst : (errcap pgGALLEY 4 0 (iset pgGALLEY 4 (advance t s))).twin.st = .active := by
    have h1 : Within [.regs] (fun _ => True) (advance t s) (errcap pgGALLEY 4 0 (iset pgGALLEY 4 (advance t s))) :=
      ((Within.refl ..).iset _).errcap _ _
    rw [show (errcap pgGALLEY 4 0 (iset pgGALLEY 4 (advance t s))).twin = s.twin from
      Eq.trans (h1.1 .twin (by decide)) (hadv.1 .twin (by decide))]
    simpa [isActive] using ha
  obtain ⟨hp, hw⟩ := partnerLost_active hst
  have hsame : Within [.regs] (· ∈ [aISTAT pgGALLEY, aERRCAP pgGALLEY, aERRADDR pgGALLEY]) (advance t s)
      (errcap pgGALLEY 4 0 (iset pgGALLEY 4 (advance t s))) := ((Within.refl ..).iset _).errcap _ _
  have hmark : rbit (errcap pgGALLEY 4 0 (iset pgGALLEY 4 (advance t s))) (aISTAT pgGALLEY) 4 = true :=
    ((Flow.refl (iset pgGALLEY 4 (advance t s))).errcap 4 0 (p := pgGALLEY)).mark
      (rbit_iset_any ⟨pgGALLEY, by decide⟩ (by decide) _)
  have hcan : Canonical (partnerLost (errcap pgGALLEY 4 0 (iset pgGALLEY 4 (advance t s)))) :=
    ((((Tidy.advance (q := s.pending) (c := True) ⟨rfl, fun _ => hs⟩ t).iset pgGALLEY 4).errcap pgGALLEY 4
      0).partnerLost).2 trivial
  set u := partnerLost (errcap pgGALLEY 4 0 (iset pgGALLEY 4 (advance t s))) with hu
  have humark : rbit u (aISTAT pgGALLEY) 4 = true := (congrArg (bit · 4) (hw.2 _ (by decide))).trans hmark
  have hug : u.galley.inflight = x :: rest :=
    (congrArg GalleySt.inflight
      (Eq.trans (hw.1 .galley (by decide)) (Eq.trans (hsame.1 .galley (by decide)) (hadv.1 .galley (by decide))))).trans hi
  have husense : u.sense = s.sense :=
    Eq.trans (hw.1 .sense (by decide)) (Eq.trans (hsame.1 .sense (by decide)) (hadv.1 .sense (by decide)))
  obtain ⟨h1, h2, h3, h4⟩ := foldl_flushOne u.galley.inflight (u := u) (Nat.le_refl _)
  rw [← flushAll_eq] at h1 h2 h3 h4
  have hal : Alone (flushAll u) := ⟨by rw [h3]; exact hp, h1, h2 humark⟩
  obtain ⟨hpst, hfl, hmk⟩ := actionKept_alone.retry hal
  refine ⟨hfl, hmk, hpst, fun hr hact hrest => ?_⟩
  subst hrest
  obtain ⟨ev, hev'⟩ := Option.isSome_iff_exists.1 hev
  have hone : flushAll u = respond x (handOver ev x.noTable (setGalley { u.galley with inflight := [] } u)) := by
    rw [flushAll_eq, hug]
    show flushOne u = _
    unfold flushOne
    simp only [hug]
    rw [settleTaken_ev hev', answer, hact]
  have hh := settles_handOver ev x.noTable (setGalley { u.galley with inflight := [] } u)
  rw [retryActions_none (by rw [h4, husense, hr]), hone]
  exact (respond_regs (hh.regsWf hcan.1) x).1

/-- Settles O17. -/
theorem replicationCompletesAcceptance : Obligations.ReplicationCompletesAcceptance := by
  refine ⟨fun s x rest ev t hs hl hi hev hact hhead => runs_awake hl rfl (replAck_answer hs hi hev t hact hhead),
    fun s x rest ev t hs hl hi hev hr => runs_awake hl rfl (replAck_effect hs hi hev t hr),
    fun s x ev rest ticket t hl hi hev hne hr => runs_awake hl rfl ?_,
    fun s x rest t hs hl ha hi hev ht => runs_awake hl rfl (replTimeout_effect hs ha hi hev ht),
    fun s t hs hl hr h => runs_awake hl rfl ?_⟩
  · rw [replAck_other hi hev hne, retryActions_none]
    · exact (within_advance t s).1
    · rw [show (advance t s).sense = s.sense from (within_advance t s).1 .sense (by decide)]
      exact hr
  · rw [replTimeout_idle h, retryActions_none]
    · exact (within_advance t s).1
    · rw [show (advance t s).sense = s.sense from (within_advance t s).1 .sense (by decide)]
      exact hr

end Sys2Proof.Machine
end

section
/-!
PROOFS. The common registers of a page: what EN, FREEZE and SRST of CTRL do, IFORCE and ERRCAP.
-/

-- One declaration after another: side by side, the stacks of the threads exceed what memory the check allows.
set_option Elab.async false

namespace Sys2Proof.Machine

variable {s : State}

/-! ### O11: the rows of CTRL, IFORCE and ERRCAP -/

/-- The rows of CTRL: FREEZE is writable on every page, EN where the block can be switched off; SRST acts. -/
theorem ctrl_def : ∀ page : Fin 64, ∀ d ∈ regAt (aCTRL page),
    d.w1c = 0 ∧ d.rwp = 0 ∧ bit (w32 d.w1s ||| w32 d.wo) 1 = true ∧ bit (rwMask d page) 2 = true ∧
      (bit (rwMask d page) 0 = !alwaysOn page) ∧ bit (w32 d.w1s) 1 = true ∧
      (isPressPage page = true → bit (w32 d.w1s ||| w32 d.wo) 8 = true) := by decide +kernel

theorem ctrl_addr : ∀ page : Fin 64, pageOf (aCTRL page) = page ∧ offOf (aCTRL page) = 8 ∧ busAddr (aCTRL page) =
    aCTRL page ∧
    aCTRL page ≠ aSYS_RSTCMD ∧ aCTRL page ≠ aBOOT_CMD ∧ aCTRL page ≠ aRECORDER_FREEZE ∧ soloLater page 8 = false ∧
    aCTRL page ≠ aTIMEBASE_TACHCFG ∧ aCTRL page ≠ aTIMEBASE_CNTCFG ∧ aCTRL page ∉ [aHOSTIF_LASTERR, aHOSTIF_LASTADDR] ∧
    bit (ctrlNow page) 0 = false ∧ bit (ctrlNow page) 2 = true := by decide

theorem regAt_of_unrefused {l a : Nat} {v : Word} (h : unrefused s l a v = true) : ∃ d, regAt a = some d := by
  unfold unrefused ruleOk at h
  cases hd : regAt a with
  | none => rw [hd] at h; exact absurd h (by simp)
  | some d => exact ⟨d, rfl⟩

/-- The bits of a written word of CTRL. -/
theorem bit_newWord_ctrl {page : Fin 64} {d : RegDef} (hd : regAt (aCTRL page) = some d) (l : Nat) (old v : Word)
    {i : Nat} (hi : i < 3) :
    bit (newWord d page l old v) i = if bit (rwMask d page) i then bit v i else bit old i := by
  obtain ⟨hc, hp, -⟩ := ctrl_def page d hd
  have hmask : bit (if l = 0 then rwMask d page ||| w32 d.rwp else rwMask d page) i = bit (rwMask d page) i := by
    split
    · rw [bit_or, hp, show bit (w32 0) i = false by simp [bit, w32], Bool.or_false]
    · rfl
  generalize hm : (if l = 0 then rwMask d page ||| w32 d.rwp else rwMask d page) = m at hmask
  have hw : bit (maskWord m old v &&& ~~~(v &&& w32 d.w1c)) i = if bit (rwMask d page) i then bit v i else bit old
      i := by
    rw [hc, show w32 0 = 0#32 from rfl, BitVec.and_zero, BitVec.not_zero, BitVec.and_allOnes]
    by_cases h : bit (rwMask d page) i = true
    · rw [if_pos h]
      exact bit_maskWord_of_set (hmask.trans h) _ _
    · rw [if_neg h]
      exact bit_maskWord_of_clear (hmask.trans (Bool.eq_false_iff.2 h)) (by omega) _ _
  unfold newWord
  dsimp only
  rw [hm]
  by_cases h : (page : Nat) = 0x20 ∧ d.off = 8 ∧ bits (maskWord m old v &&& ~~~(v &&& w32 d.w1c)) 15 13 > 5
  · rw [if_pos h, bit_setBits _ _ _ _ (by omega), if_neg (by omega), hw]
  · rw [if_neg h, hw]

theorem actBits_ctrl {page : Fin 64} {d : RegDef} (hd : regAt (aCTRL page) = some d) (l : Nat) (v : Word) :
    bit (actBits d l v) 1 = bit v 1 ∧ (isPressPage page = true → bit (actBits d l v) 8 = bit v 8) := by
  obtain ⟨hc, hp, h1, -, -, -, h8⟩ := ctrl_def page d hd
  have h (i : Nat) (hi : bit (w32 d.w1s ||| w32 d.wo) i = true) : bit (actBits d l v) i = bit v i := by
    unfold actBits
    rw [bit_and, bit_or, bit_or, hi]
    simp
  exact ⟨h 1 h1, fun hpress => h 8 (h8 hpress)⟩

/-! ### O11: what a write of CTRL leaves of the page's control -/

/-- CTRL of a page, the writes that wait and the frozen words are the same. -/
structure CtrlKept (a : Nat) (s t : State) : Prop where
  landNext : t.landNext = s.landNext
  frozen : t.frozen = s.frozen
  ctrl : rget t a = rget s a

namespace CtrlKept
variable {a : Nat} {t u : State}

theorem refl (a : Nat) (s : State) : CtrlKept a s s := ⟨rfl, rfl, rfl⟩

theorem trans (h : CtrlKept a s t) (k : CtrlKept a t u) : CtrlKept a s u :=
  ⟨k.landNext.trans h.landNext, k.frozen.trans h.frozen, k.ctrl.trans h.ctrl⟩

theorem ite {c : Prop} [Decidable c] (h : CtrlKept a s t) (k : CtrlKept a s u) : CtrlKept a s (if c then t else u) := by
  split <;> assumption

theorem of {l : List Part} {A : Nat → Prop} (h : Within l A s t) (ha : ¬ A a)
    (hl : .landNext ∉ l ∧ .frozen ∉ l := by decide) :
    CtrlKept a s t :=
  ⟨h.1 .landNext hl.1, h.1 .frozen hl.2, h.2 _ ha⟩

/-- A change of parts that leaves the registers and those two. -/
theorem ofParts (hl : t.landNext = s.landNext := by rfl) (hf : t.frozen = s.frozen := by rfl)
    (hr : t.regs = s.regs := by rfl) :
    CtrlKept a s t :=
  ⟨hl, hf, congrArg (spGet resetWord · a) hr⟩

theorem ofPress {p : Fin 16} (h : KeepsCtrl p s t) : CtrlKept (aCTRL (pgPRESS p)) s t := ⟨h.landNext, h.frozen, h.ctrl⟩

end CtrlKept

/-- A register at the offset of CTRL is none of these. -/
theorem ctrl_notMem {l : List Nat} (h : ∀ a ∈ l, a % 0x1000 ≠ 8 := by decide) (page : Nat) : aCTRL page ∉ l := by
  intro hm
  exact h _ hm (by unfold aCTRL pageAddr; omega)

/-! The acts of EN -/

theorem within_evaluate (s : State) : Within [.regs, .dpll] (· ∈ selRegs) s (evaluate s) := by
  by_cases h : selectorOn s
  · exact (evaluate_effect h).2.2.2.2.2.2.2.2
  · exact (evaluate_off h).2.2.1.mono (fun _ h => h) (by decide)

theorem within_refFail (r : Nat) (s : State) : Within [.regs, .dpll] (· ∈ selRegs) s (refFail r s) := by
  have hc : Within [.regs, .dpll] (· ∈ selRegs) s (refFailNow r s) :=
    ((RefChange.refl r s).refFailNow.within).mono (fun _ h => h) (by decide)
  exact .ite (.refl ..) (.ite (hc.trans (within_evaluate _)) hc)

theorem within_dpllFree (s : State) : Within [.regs, .dpll] (· ∈ selRegs) s (dpllFree s) :=
  ((((Within.refl ..).setDpll _ : Within [.regs, .dpll] (· ∈ selRegs) s (setDpll { s.dpll with
      hist := [], hoFreq := 0, hoAge := 0, hoValid := false, sel := none, conflict := false, step := 0 } s))).trans
    ((Chosen.refl _).holdOver.outFreq.within))

theorem within_endChange (s : State) : Within [.regs, .mem, .comp, .galley, .fab, .clk, .twin] (· ∈ doneRegs) s
    (endChange s) := by
  unfold endChange
  split
  · exact .refl ..
  · rename_i c _
    have h1 : Within [.regs, .mem, .comp, .galley, .fab, .clk, .twin] (· ∈ doneRegs) s
        (setClk { s.clk with change := none, fam := c.fam, mult := c.mult } s) :=
      ⟨fun p hp => by cases p <;> first | rfl | exact absurd (by decide) hp, fun _ _ => rfl⟩
    refine Within.trans ?_ (within_nextRates _)
    split
    · exact h1.trans (((Settles.refl ..).finishRunning room_done ..).within.mono (by decide) fun _ h => h)
    · exact h1

theorem within_pllmOff (s : State) : Within [.regs, .mem, .comp, .galley, .fab, .clk, .twin, .tb] (· ∈ doneRegs) s
    (pllmOff s) := by
  have h1 : Within [.regs, .mem, .comp, .galley, .fab, .clk, .twin, .tb] (· ∈ doneRegs) s
      (setTb { s.tb with ticking := false } (setClk { s.clk with lockM := false } s)) :=
    ⟨fun p hp => by cases p <;> first | rfl | exact absurd (by decide) hp, fun _ _ => rfl⟩
  exact h1.trans ((within_endChange _).mono (by decide) fun _ h => h)

/-- The registers that a port that is switched off changes. -/
def portOffRegs : List Nat :=
  [aNET_TX_PKT 0, aNET_TX_PKT 1, aNET_LINKDN_CNT 0, aNET_LINKDN_CNT 1, aNET_DROP_CNT 0, aNET_DROP_CNT 1, aISTAT
    (pgNET 0),
    aISTAT (pgNET 1), aISTAT pgSTREAMTX]

theorem portOffRegs_mem (n : Fin 2) : aISTAT (pgNET n) ∈ portOffRegs ∧ aNET_LINKDN_CNT n ∈ portOffRegs ∧
    aNET_DROP_CNT n ∈ portOffRegs := by
  fin_cases n <;> decide

theorem within_linkDown (n : Fin 2) (b : Bool) (s : State) : Within [.regs, .net, .twin] (· ∈ portOffRegs) s
    (linkDown n b s) := by
  obtain ⟨hi, hd, hc⟩ := portOffRegs_mem n
  have hdrain : Within [.regs, .net, .twin] (· ∈ portOffRegs) s (netDrain s) :=
    (lines_netDrain s).win.mono (by decide) (by decide)
  by_cases hup : s.net.link[n].up = true
  · rw [linkDown_up b hup]
    dsimp only
    have h1 : Within [.regs, .net, .twin] (· ∈ portOffRegs) s (linkFlushed n b (netDrain s)) := hdrain.setNet _
    have h2 : Within [.regs, .net, .twin] (· ∈ portOffRegs) s
        (linkCounted n ((netDrain s).net.queue.filter fun q => q.port == n.val).length
          (linkFlushed n b (netDrain s))) := by
      have h3 := ((h1.cnt (a := aNET_DROP_CNT n) ((netDrain s).net.queue.filter fun q => q.port == n.val).length
          (by decide) hc).cnt
        (a := aNET_LINKDN_CNT n) 1 (by decide) hd).iset (p := pgNET n) 0 (by decide) hi
      exact .ite h3 (h3.iset (p := pgSTREAMTX) 1 (by decide) (by decide))
    refine .ite ?_ h2
    obtain ⟨x, hx⟩ := (requestRelease_twin (.fault 7)
      (linkCounted n ((netDrain s).net.queue.filter fun q => q.port == n.val).length (linkFlushed n b (netDrain s)))).2
    rw [hx]
    exact h2.trans ⟨fun p hp => by cases p <;> first | rfl | exact absurd (by decide) hp, fun _ _ => rfl⟩
  · unfold linkDown
    dsimp only
    rw [if_pos (by rw [(lines_netDrain s).link]; exact hup)]
    exact hdrain.setNet _

theorem within_portOff (n : Fin 2) (s : State) : Within [.regs, .net, .twin] (· ∈ portOffRegs) s (portOff n s) :=
  (within_linkDown n false s).setNet _

/-! ### O11: resets of a block -/

theorem CtrlKept.settles {a : Nat} {t : State} (h : Settles doneParts (· ∈ doneRegs) s t) (ha : a ∉ doneRegs) :
    CtrlKept a s t :=
  .of h.within ha

theorem CtrlKept.foldl {a : Nat} {α : Type} {f : State → α → State} (hf : ∀ u x, CtrlKept a u (f u x)) (l : List α)
    (s : State) :
    CtrlKept a s (l.foldl f s) :=
  List.foldlRecOn (motive := CtrlKept a s) _ _ (.refl a s) fun u hu x _ => hu.trans (hf u x)

theorem ctrlKept_finishRunning (page : Nat) (t : Word) (d : Nat) (s : State) : CtrlKept (aCTRL page) s
    (finishRunning t d s) :=
  .settles ((Settles.refl ..).finishRunning room_done ..) (ctrl_notMem (by decide) page)

theorem ctrlKept_finishAll (page : Nat) (p : Ev → Bool) (s : State) : CtrlKept (aCTRL page) s (finishAll p s) :=
  by
  unfold finishAll
  exact .foldl (fun u (e : Ev) => ctrlKept_finishRunning page e.ticket u.tb.frame u) _ s

theorem ctrlKept_rset {a b : Nat} (v : Word) (s : State) (h : a ≠ b) : CtrlKept a s (rset b v s) :=
    ⟨rfl, rfl, rget_rset_ne _ _ h⟩

theorem ctrlKept_segFree (t : Word) (s : State) : CtrlKept (aCTRL pgRECORDER) s (segFree t s) :=
  (CtrlKept.ofParts : CtrlKept _ s (setCist { s.cistern with segs := s.cistern.segs.filter fun g => g.ticket != t }
    s)).trans
    (.foldl (fun u i => ctrlKept_rset 0 u (by unfold aCTRL pageAddr pgRECORDER aRECORDER_SEGTKT; omega)) _ _)

theorem ctrlKept_runEnd (page : Nat) (x : VoiceRun) (c : Nat) (s : State) : CtrlKept (aCTRL page) s (runEnd x c s) := by
  have h0 : CtrlKept (aCTRL page) s
      (voiceDone (setCist { s.cistern with voices := s.cistern.voices.filter fun y => y.ticket != x.ticket } s)) :=
    ⟨rfl, rfl, rget_iset_ne _ _ _ fun h => ctrl_notMem (l := [aISTAT pgPLAYER]) (by decide) page (by simp [h])⟩
  exact (h0.trans (ctrlKept_finishRunning ..)).trans (.foldl (fun u t => ctrlKept_finishRunning page t c u) _ _)

/-- The reset of a block leaves the CTRL of its page. -/
theorem ctrlKept_srstBlock (p : Nat) (s : State) : CtrlKept (aCTRL p) s (srstBlock p s) := by
  unfold srstBlock
  refine .ite ?_ (.ite .ofParts (.ite .ofParts (.ite .ofParts
    (.ite .ofParts (.ite ?_ (.ite .ofParts (.ite .ofParts (.ite .ofParts
    (.ite .ofParts (.ite ?_ (.ite .ofParts (.ite .ofParts (.ite .ofParts ?_)))))))))))))
  · exact (CtrlKept.of (within_endChange s) (ctrl_notMem (by decide) p)).trans .ofParts
  · exact ctrlKept_rset 0 s fun h => ctrl_notMem (l := [aASRC_LOCKSTAT]) (by decide) p (by simp [h])
  · exact CtrlKept.trans (.ofParts (by rfl)) (ctrlKept_finishAll ..)
  · split
    · rename_i hp
      subst hp
      refine CtrlKept.trans ?_ (ctrlKept_rset 0 _ (by decide))
      exact (CtrlKept.ofParts : CtrlKept _ s (setCist { s.cistern with recBuf := [] } s)).trans
        (.foldl (fun u t => (ctrlKept_segFree t u).trans (ctrlKept_finishRunning ..)) _ _)
    · refine .ite ?_ (.refl ..)
      exact .foldl (fun u x => ctrlKept_runEnd p x u.tb.frame u) _ s

theorem ctrlKept_srstWrite (p : Nat) (s : State) : CtrlKept (aCTRL p) s (srstWrite p s) := by
  have hne : aCTRL p ≠ aISTAT p ∧ aCTRL p ≠ aERRCAP p ∧ aCTRL p ≠ aERRADDR p := by
    unfold aCTRL aISTAT aERRCAP aERRADDR pageAddr
    omega
  refine .ite (.ite .ofParts (.refl ..)) ?_
  have h := (((ctrlKept_srstBlock p s).trans (ctrlKept_rset 0 _ hne.1)).trans (ctrlKept_rset 0 _ hne.2.1)).trans
    (ctrlKept_rset 0 _ hne.2.2)
  exact h.trans .ofParts

/-! ### O11: the acts of CTRL -/

theorem ctrlKept_iset (page p b : Nat) (s : State) : CtrlKept (aCTRL page) s (iset p b s) :=
  ⟨rfl, rfl, rget_iset_ne _ _ _ (by unfold aCTRL aISTAT pageAddr; omega)⟩

theorem ctrlKept_setPMode (page : Nat) (p : Fin 16) (m : PMode) (s : State) : CtrlKept (aCTRL page) s
    (setPMode p m s) :=
  .ite (.refl ..) ((CtrlKept.ofParts : CtrlKept _ s (setPress p _ s)).trans (ctrlKept_iset ..))

theorem ctrlKept_pressEn (page : Nat) (p : Fin 16) (old new : Bool) (s : State) : CtrlKept (aCTRL page) s
    (pressEn p old new s) := by
  unfold pressEn
  refine .ite (.ite (.refl ..) .ofParts) ?_
  split
  · exact .ofParts
  · exact CtrlKept.trans (.ofParts (by rfl)) (ctrlKept_setPMode ..)
  · exact .ofParts
  · exact .ite .ofParts (.refl ..)

theorem ctrlKept_heldSrst (p : Fin 16) (s : State) : CtrlKept (aCTRL (pgPRESS p)) s (heldSrst p s) :=
  .ite (CtrlKept.trans (.ofParts (by rfl)) (ctrlKept_srstWrite ..)) (.refl ..)

theorem ctrlKept_dbgHalt (p : Fin 16) (v : Bool) (s : State) : CtrlKept (aCTRL (pgPRESS p)) s (dbgHalt p v s) :=
  .ite (.ite (CtrlKept.trans (.ofParts (by rfl)) (ctrlKept_setPMode ..)) (.refl ..))
    (.ofPress (KeepsCtrl.refl p s).dbgResume)

/-- A write of CTRL takes FREEZE. -/
def frozenBy (p : Nat) (old new : Word) (s : State) : State := if bit old 2 == bit new 2 then s else freezePage p
    (bit new 2) s

/-- A write of CTRL but for its SRST. -/
def ctrlStage (p : Nat) (old new v : Word) (s : State) : State := ctrlAct p old new (v &&& ~~~2#32) s

theorem bit_clear_srst (v : Word) : bit (v &&& ~~~2#32) 1 = false ∧ bit (v &&& ~~~2#32) 8 = bit v 8 := by
  rw [bit_and, bit_and, bit_not (by decide), bit_not (by decide)]
  simp [bit]

theorem ctrlAct_eq (p : Nat) (old new v : Word) (s : State) :
    ctrlAct p old new v s = if bit v 1 then srstWrite p (ctrlStage p old new v s) else ctrlStage p old new v s := by
  obtain ⟨h1, h8⟩ := bit_clear_srst v
  unfold ctrlStage ctrlAct
  rw [h1, h8]
  rfl

/-- What EN, DBG_HALT and STEP of a Press do. -/
def pressActs (p : Fin 16) (old new v : Word) (s : State) : State :=
  let s2 := heldSrst p (if (bit old 0 != bit new 0) || !bit new 0 then pressEn p (bit old 0) (bit new 0) s else s)
  let s3 := if bit old 7 == bit new 7 then s2 else dbgHalt p (bit new 7) s2
  if bit v 8 then dbgStep p s3 else s3

theorem ctrlStage_press (p : Fin 16) (old new v : Word) (s : State) :
    ctrlStage (pgPRESS p) old new v s = pressActs p old new v (frozenBy (pgPRESS p) old new s) := by
  obtain ⟨h1, h8⟩ := bit_clear_srst v
  have hpage : 0x20 ≤ pgPRESS p ∧ pgPRESS p ≤ 0x2F := by unfold pgPRESS; omega
  unfold ctrlStage ctrlAct
  rw [h1, h8]
  dsimp only
  rw [if_pos hpage, ofNat_pgPRESS, if_neg (by decide)]
  rfl

/-- What EN and the VALID bits of the other pages do. -/
def blockActs (p : Nat) (old new : Word) (s : State) : State :=
  if p = pgPTP then
    let s2 := if bit old 4 && !bit new 4 then refFail 2 s else s
    if bit old 5 && !bit new 5 then refFail 3 s2 else s2
  else if bit old 0 = bit new 0 then s
  else if p = pgDPLL then (if bit new 0 then s else dpllFree s)
  else if p = pgPLLM then (if bit new 0 then s else pllmOff s)
  else if p = pgDDRC then
    if bit new 0 then startTraining s else setCist { s.cistern with st := .off, retrain := none, pend := none } s
  else if p = 0x16 ∨ p = 0x17 then (if bit new 0 then s else portOff (Fin.ofNat 2 (p - 0x16)) s)
  else s

/-- EN of a data-plane page does not act with the write itself. -/
theorem ctrlStage_block {p : Nat} {old new : Word} (hp : ¬ (0x20 ≤ p ∧ p ≤ 0x2F))
    (hd : dataPlane p = true → bit old 0 = bit new 0)
    (v : Word) (s : State) : ctrlStage p old new v s = blockActs p old new (frozenBy p old new s) := by
  obtain ⟨h1, -⟩ := bit_clear_srst v
  have hgroup : bit old 0 ≠ bit new 0 → ¬ (0x10 ≤ p ∧ p ≤ 0x13) ∧ p ≠ pgJET := fun h =>
    ⟨fun hr => h (hd (by simp [dataPlane]; omega)), fun hj => h (hd (by subst hj; decide))⟩
  unfold ctrlStage ctrlAct blockActs
  rw [h1]
  dsimp only
  rw [if_neg hp, if_neg (by decide)]
  refine ite_congr rfl (fun _ => rfl) fun _ => ?_
  by_cases h : bit old 0 = bit new 0
  · rw [if_pos h, if_pos (by simp [h])]
    rfl
  · obtain ⟨hg, hj⟩ := hgroup h
    rw [if_neg h, if_neg (by simpa using h), if_neg hg, if_neg hj]
    rfl

theorem ctrlKept_pressActs (p : Fin 16) (old new v : Word) (s : State) :
    CtrlKept (aCTRL (pgPRESS p)) s (pressActs p old new v s) := by
  have h2 : CtrlKept (aCTRL (pgPRESS p)) s
      (heldSrst p (if (bit old 0 != bit new 0) || !bit new 0 then pressEn p (bit old 0) (bit new 0) s else s)) :=
    (CtrlKept.ite (ctrlKept_pressEn ..) (.refl ..)).trans (ctrlKept_heldSrst ..)
  have h3 := CtrlKept.ite (c := (bit old 7 == bit new 7) = true) h2 (h2.trans (ctrlKept_dbgHalt p (bit new 7) _))
  exact .ite (h3.trans (.ofPress (KeepsCtrl.refl p _).dbgStep)) h3

theorem ctrlKept_blockActs (p : Nat) (old new : Word) (s : State) : CtrlKept (aCTRL p) s (blockActs p old new s) := by
  have hr (r : Nat) (u : State) : CtrlKept (aCTRL p) u (refFail r u) := .of (within_refFail r u)
      (ctrl_notMem (by decide) p)
  refine .ite ?_ (.ite (.refl ..) (.ite (.ite (.refl ..) (.of (within_dpllFree s) (ctrl_notMem (by decide) p)))
    (.ite (.ite (.refl ..) (.of (within_pllmOff s) (ctrl_notMem (by decide) p))) (.ite (.ite .ofParts .ofParts)
      (.ite (.ite (.refl ..) (.of (within_portOff _ s) (ctrl_notMem (by decide) p))) (.refl ..))))))
  have h2 : CtrlKept (aCTRL p) s (if bit old 4 && !bit new 4 then refFail 2 s else s) := .ite (hr 2 s) (.refl ..)
  exact .ite (h2.trans (hr 3 _)) h2

theorem pressPage_eq {page : Fin 64} (h : isPressPage page = true) : ∃ p : Fin 16, (page : Nat) = pgPRESS p := by
  unfold isPressPage at h
  rw [decide_eq_true_eq] at h
  exact ⟨⟨page.val - 0x20, by omega⟩, by unfold pgPRESS; dsimp only; omega⟩

/-- A write of CTRL leaves what FREEZE has made of the page's words, the writes that wait, and CTRL as it was stored. -/
theorem ctrlKept_ctrlAct {page : Fin 64} {old new : Word}
    (hd : dataPlane page = true → isPressPage page = false → bit old 0 = bit new 0) (v : Word) (s : State) :
    CtrlKept (aCTRL page) (frozenBy page old new s) (ctrlAct page old new v s) := by
  have hstage : CtrlKept (aCTRL page) (frozenBy page old new s) (ctrlStage page old new v s) := by
    cases hp : isPressPage page with
    | true =>
      obtain ⟨p, he⟩ := pressPage_eq hp
      rw [he, ctrlStage_press]
      exact ctrlKept_pressActs ..
    | false =>
      rw [ctrlStage_block (fun h => by simp [isPressPage, h] at hp) fun h => hd h hp]
      exact ctrlKept_blockActs ..
  rw [ctrlAct_eq]
  exact .ite (hstage.trans (ctrlKept_srstWrite ..)) hstage

/-! ### O11: the write of CTRL -/

/-- What a write of CTRL that is taken makes of the word `v`: the word in force (`now`), what the page sees of it,
  and the
writes that wait. -/
structure CtrlTaken (s : State) (page : Fin 64) (v old now act : Word) (land : List (Nat × Word)) : Prop where
  srst : bit act 1 = bit v 1
  step : isPressPage page = true → bit act 8 = bit v 8
  freeze : bit now 2 = bit v 2
  quiet : dataPlane page = true → isPressPage page = false → bit old 0 = bit now 0
  reset : bit v 1 = true → dataPlane page = true → isSolo s = true
  solo : dataPlane page = true → isSolo s = true → old = rget s (aCTRL page) ∧ bit now 0 = bit old 0 ∧
    bit (alGet now land (aCTRL page)) 0 = bit v 0
  other : dataPlane page = false ∨ isSolo s = false → old = heldReg s (aCTRL page) ∧ land = s.landNext
  enable : dataPlane page = false → bit now 0 = if alwaysOn page then bit old 0 else bit v 0

/-- The state in which the page sees a write of CTRL. -/
def ctrlLanded (page : Nat) (now : Word) (land : List (Nat × Word)) (s : State) : State :=
  rset (aCTRL page) now { s with landNext := land }

theorem not_alwaysOn_of_dataPlane : ∀ page : Fin 64, dataPlane page = true → alwaysOn page = false := by decide

/-- A word of CTRL that no rule refuses on a device that is not SOLO changes FREEZE only, and asks for no act. -/
theorem ctrl_same_of_soloRefuse {page : Fin 64} {d : RegDef} (hd : regAt (aCTRL page) = some d) {v : Word}
    (hdp : dataPlane page = true) (hs : isSolo s = false) (h : soloRefuse s d (aCTRL page) v = none) :
    bit v 1 = false ∧ bit v 0 = bit (heldReg s (aCTRL page)) 0 := by
  obtain ⟨hpage, hoff, -⟩ := ctrl_addr page
  obtain ⟨-, -, -, -, hen, hsrst, -⟩ := ctrl_def page d hd
  rw [not_alwaysOn_of_dataPlane page hdp] at hen
  have hsame : ((v &&& w32 d.w1s == 0) && ((heldReg s (aCTRL page) ^^^ v) &&& (rwMask d page &&& ~~~4#32) == 0)) =
      true := by
    by_contra hn
    have hst : statReg page 8 = false := by
      unfold statReg
      simp
    unfold soloRefuse at h
    dsimp only at h
    rw [hpage, hoff, hs, hdp, hst, if_neg (by simp), if_neg (by simp), if_pos rfl, if_neg hn] at h
    split at h <;> exact absurd h (by simp [refuse])
  rw [Bool.and_eq_true, beq_iff_eq, beq_iff_eq] at hsame
  obtain ⟨hact, heq⟩ := hsame
  have h1 := congrArg (bit · 1) hact
  have h0 := congrArg (bit · 0) heq
  simp only [bit_and, hsrst, Bool.and_true, show bit (0 : Word) 1 = false from rfl] at h1
  refine ⟨h1, ?_⟩
  simp only [bit_and, hen, show bit (~~~4#32) 0 = true from rfl, show bit (0 : Word) 0 = false from rfl, Bool.not_false,
    Bool.and_true] at h0
  have hx : bit (heldReg s (aCTRL page) ^^^ v) 0 = (bit (heldReg s (aCTRL page)) 0 ^^ bit v 0) := BitVec.getLsbD_xor
  rw [hx] at h0
  revert h0
  cases bit (heldReg s (aCTRL page)) 0 <;> cases bit v 0 <;> decide

theorem soloRefuse_of_unrefused {l a : Nat} {v : Word} {d : RegDef} (hd : regAt a = some d)
    (h : unrefused s l a v = true) :
    soloRefuse s d a v = none := by
  unfold unrefused ruleOk at h
  rw [hd] at h
  simp only [Bool.and_eq_true, Option.isNone_iff_eq_none] at h
  exact h.1.1

/-- A page does not see a SRST that is written while its block runs. -/
theorem pageWrite_of_srstIgnored {l a : Nat} {v : Word} {d : RegDef} (hd : regAt a = some d)
    (hu : unrefused s l a v = true)
    (hrst : a ≠ aSYS_RSTCMD) (hi : offOf a = 8 ∧ bit v 1 = true ∧ bit (heldReg s a) 0 = true) : pageWrite l a v s =
      (s, 0) := by
  have hkept : rwpDiscard d l (heldReg s a) v = false := by
    unfold unrefused rwpKept at hu
    rw [hd, Bool.and_eq_true, Bool.not_eq_true'] at hu
    exact hu.2
  unfold pageWrite
  simp only [hd, soloRefuse_of_unrefused hd hu, hrst, false_and, if_false, if_pos hi, hkept, Bool.false_eq_true]

/-- A SRST for a block that runs is ignored. -/
theorem writeCtrl_ignored {page : Fin 64} {l : Fin 4} {be : BitVec 4} {v : Word}
    (h : Accepted s (aCTRL page) ⟨l, be, v⟩)
    (hi : srstIgnored s page v = true) : hostWrite ⟨aCTRL page, l, be, v⟩ s = endAccess 0 l true (aCTRL page) s := by
  obtain ⟨d, hd⟩ := regAt_of_unrefused h.2
  obtain ⟨-, hoff, hbus, hrst, -⟩ := ctrl_addr page
  have hbits := Bool.and_eq_true_iff.1 hi
  rw [hostWrite_served (x := ⟨aCTRL page, l, be, v⟩) h.1 hd hbus hrst,
    pageWrite_of_srstIgnored hd h.2 hrst ⟨hoff, hbits.1, hbits.2⟩]

theorem bit_freeze_ctrlNow (page : Fin 64) (cur new : Word) :
    bit (maskWord (ctrlNow page) cur new) 2 = bit new 2 ∧ bit (maskWord (ctrlNow page) cur new) 0 = bit cur 0 := by
  obtain ⟨-, -, -, -, -, -, -, -, -, -, h0, h2⟩ := ctrl_addr page
  exact ⟨bit_maskWord_of_set h2 _ _, bit_maskWord_of_clear h0 (by decide) _ _⟩

/-- A write of CTRL that no rule refuses and that is not ignored: the page sees it, at once or but for what waits for
  the
frame boundary. -/
theorem writeCtrl_taken {page : Fin 64} {l : Fin 4} {be : BitVec 4} {v : Word} (h : Accepted s (aCTRL page) ⟨l, be, v⟩)
    (hi : srstIgnored s page v = false) : ∃ old now act land, CtrlTaken s page v old now act land ∧
      hostWrite ⟨aCTRL page, l, be, v⟩ s =
        endAccess 0 l true (aCTRL page) (ctrlAct page old now act (ctrlLanded page now land s)) := by
  obtain ⟨d, hd⟩ := regAt_of_unrefused h.2
  obtain ⟨hpage, hoff, hbus, hrst, hboot, hfr, hlater, htach, hcnt, -⟩ := ctrl_addr page
  obtain ⟨-, -, -, hfreeze, hen, -⟩ := ctrl_def page d hd
  have hrun := hostWrite_accepted h hd hbus hrst fun hc => by simp [srstIgnored, hc.2.1, hc.2.2] at hi
  obtain ⟨ha1, ha8⟩ := actBits_ctrl hd l v
  have hsolo := fun hdp hs => ctrl_same_of_soloRefuse (s := s) hd hdp hs (soloRefuse_of_unrefused hd h.2)
  have hn0 := bit_newWord_ctrl hd l (heldReg s (aCTRL page)) v (i := 0) (by decide)
  have hn2 := bit_newWord_ctrl hd l (heldReg s (aCTRL page)) v (i := 2) (by decide)
  rw [hen] at hn0
  rw [hfreeze, if_pos rfl] at hn2
  rw [hpage] at hrun
  change bit (v &&& _) 1 = _ at ha1
  change _ → bit (v &&& _) 8 = _ at ha8
  generalize newWord d page l (heldReg s (aCTRL page)) v = new at hrun hn0 hn2
  generalize v &&& _ = act at hrun ha1 ha8
  have hreset : bit v 1 = true → dataPlane page = true → isSolo s = true := fun hv hdp => by
    by_contra hs
    exact absurd hv (by simp [(hsolo hdp (Bool.eq_false_iff.2 hs)).1])
  have hact (old now : Word) (t : State) : (regAct true none l (aCTRL page) old now act t).1 =
      ctrlAct page old now act (rset (aCTRL page) now t) := by
    rw [regAct_ctrl hoff htach hcnt, hpage]
  by_cases hc : isSolo s = true ∧ dataPlane page = true
  · obtain ⟨hs, hdp⟩ := hc
    have hon := not_alwaysOn_of_dataPlane page hdp
    obtain ⟨hb2, hb0⟩ := bit_freeze_ctrlNow page (rget s (aCTRL page)) new
    generalize hnow : maskWord (ctrlNow page) (rget s (aCTRL page)) new = now at hb2 hb0
    have hnew : bit new 0 = bit v 0 := hn0.trans (by rw [hon]; rfl)
    refine ⟨rget s (aCTRL page), now, act,
      if now = new then alDel s.landNext (aCTRL page) else alSet s.landNext (aCTRL page) new,
      ⟨ha1, ha8, hb2.trans hn2, fun _ _ => hb0.symm, hreset, fun _ _ => ⟨rfl, hb0, ?_⟩, fun ho =>
        by simp [hs, hdp] at ho,
        fun ho => by simp [hdp] at ho⟩, hrun.trans (congrArg (endAccess 0 l true (aCTRL page)) ?_)⟩
    · split
      · next he => rw [alGet_alDel_same, he, hnew]
      · rw [alGet_alSet_same, hnew]
    · unfold landPage
      dsimp only
      rw [hpage, hoff, if_neg hrst, if_neg hboot, if_neg (fun h => hfr h.2), if_neg (fun h => by simp [hlater] at h),
        if_pos ⟨hs, hdp, rfl⟩, hnow, hact]
      rfl
  · refine ⟨heldReg s (aCTRL page), new, act, s.landNext,
      ⟨ha1, ha8, hn2, fun hdp _ => ?_, hreset, fun hdp hs => absurd ⟨hs, hdp⟩ hc, fun _ => ⟨rfl, rfl⟩, fun _ => ?_⟩,
      hrun.trans (congrArg (endAccess 0 l true (aCTRL page)) ?_)⟩
    · have hs : isSolo s = false := Bool.eq_false_iff.2 fun hs => hc ⟨hs, hdp⟩
      rw [hn0, not_alwaysOn_of_dataPlane page hdp, (hsolo hdp hs).2]
      rfl
    · rw [hn0]
      cases alwaysOn page <;> rfl
    · unfold landPage
      dsimp only
      rw [hpage, hoff, if_neg hrst, if_neg hboot, if_neg (fun h => hfr h.2), if_neg (fun h => by simp [hlater] at h),
        if_neg (fun h => hc ⟨h.1, h.2.1⟩), hact]
      rfl

/-- What stands behind the end of such a write. -/
theorem writeCtrl_kept {page : Fin 64} {v old now act : Word} {land : List (Nat × Word)} (hs : Canonical s)
    (hc : CtrlTaken s page v old now act land) (l : Fin 4) :
    let t := endAccess 0 l true (aCTRL page) (ctrlAct page old now act (ctrlLanded page now land s))
    lastStatus t = 0 ∧ t.landNext = land ∧ t.frozen = (frozenBy page old now (ctrlLanded page now land s)).frozen ∧
      rget t (aCTRL page) = now := by
  intro t
  have htidy : Tidy s.pending (Canonical s) (ctrlAct page old now act (ctrlLanded page now land s)) :=
    (Tidy.rset (Tidy.setLandNext (s := s) ⟨rfl, id⟩ land) _ _).ctrlAct ..
  have hk := ctrlKept_ctrlAct (s := ctrlLanded page now land s) hc.quiet act
  have hf : (frozenBy page old now (ctrlLanded page now land s)).landNext = land ∧
      rget (frozenBy page old now (ctrlLanded page now land s)) (aCTRL page) = now := by
    unfold frozenBy
    split <;> exact ⟨rfl, rget_rset_same hs.1 _ _⟩
  have he := within_endAccess (s := ctrlAct page old now act (ctrlLanded page now land s)) (l := l) (a := aCTRL page)
      (status := 0) true
  obtain ⟨-, -, -, -, -, -, -, -, -, hno, -⟩ := ctrl_addr page
  simp only [List.mem_cons, List.not_mem_nil, or_false, not_or] at hno
  exact ⟨lastStatus_endAccess (htidy.2 hs).1
    (by decide), Eq.trans (he.1 .landNext (by decide)) (hk.landNext.trans hf.1),
    Eq.trans (he.1 .frozen (by decide)) hk.frozen, (rget_endAccess_ok _ hno.1 hno.2).trans (hk.ctrl.trans hf.2)⟩

/-! ### O11: a frozen page -/

theorem frozenAddrs_page : ∀ page : Fin 64, ∀ a ∈ frozenAddrs page, isPageAddr a = true ∧ pageOf a = page := by
  decide +kernel

theorem alGet_map_of_mem {V : Type} {d : V} {f : Nat → V} {a : Nat} {l : List Nat} (h : a ∈ l) :
    alGet d (l.map fun b => (b, f b)) a = f a := by
  induction l with
  | nil => exact absurd h List.not_mem_nil
  | cons b l ih =>
    rw [List.map_cons, alGet]
    by_cases hb : b = a
    · rw [if_pos hb, hb]
    · rw [if_neg hb, ih ((List.mem_cons.1 h).resolve_left fun he => hb he.symm)]

/-- A page that FREEZE has just set reads as it stood, one that FREEZE has just cleared reads live. -/
theorem alGet_freezePage {page : Fin 64} {a : Nat} (ha : a ∈ frozenAddrs page) (on : Bool) (d : Word) (s : State) :
    alGet d (freezePage page on s).frozen a = if on then liveReg s a else d := by
  obtain ⟨hpage, hof⟩ := frozenAddrs_page page a ha
  have hrest : ∀ x ∈ s.frozen.filter fun x => !(isPageAddr x.1 && pageOf x.1 == (page : Nat)), x.1 ≠ a := by
    intro x hx he
    have hk := (List.mem_filter.1 hx).2
    rw [he, hpage, hof] at hk
    simp at hk
  unfold freezePage
  cases on
  · exact alGet_of_absent hrest
  · dsimp only
    rw [if_pos rfl, if_pos rfl, alGet_append_absent hrest, alGet_map_of_mem (f := liveReg s) ha]

/-! ### O11: a write of CTRL that changes no block -/

theorem within_ctrlLanded (page : Nat) (now : Word) (land : List (Nat × Word)) (s : State) :
    Within [.regs, .landNext] (· = aCTRL page) s (ctrlLanded page now land s) :=
  ⟨fun p hp => by cases p <;> first | rfl | exact absurd (by decide) hp, fun _ h => rget_rset_ne _ _ h⟩

theorem within_frozenBy (page : Nat) (old now : Word) (s : State) : Within [.frozen] (fun _ => False) s
    (frozenBy page old now s) := by
  unfold frozenBy
  split
  · exact .refl ..
  · exact ⟨fun p hp => by cases p <;> first | rfl | exact absurd (by decide) hp, fun _ _ => rfl⟩

theorem within_frozenLanded (page : Nat) (old now : Word) (land : List (Nat × Word)) (s : State) :
    Within [.regs, .frozen, .landNext] (· = aCTRL page) s (frozenBy page old now (ctrlLanded page now land s)) :=
  ((within_ctrlLanded ..).mono (by decide) fun _ h => h).trans
    ((within_frozenBy ..).mono (by decide) fun _ => False.elim)

/-- Where nothing waits for the frame boundary, what waits stays. -/
theorem within_frozenLanded_same (page : Nat) (old now : Word) (s : State) :
    Within [.regs, .frozen] (· = aCTRL page) s (frozenBy page old now (ctrlLanded page now s.landNext s)) := by
  have hset : Within [.regs, .frozen] (· = aCTRL page) s (rset (aCTRL page) now s) := (Within.refl ..).rset now
      (by decide) rfl
  exact hset.trans ((within_frozenBy ..).mono (by decide) fun _ => False.elim)

/-- A write without SRST, where EN of the page acts on no block or keeps its value. -/
theorem ctrlAct_quiet {page : Fin 64} {old now act : Word} (h1 : bit act 1 = false) (hp : isPressPage page = false)
    (hd : dataPlane page = true → bit old 0 = bit now 0)
    (hb : bit old 0 = bit now 0 ∨ page.val ∉ [pgPLLM, pgDPLL, pgDDRC, pgNET 0, pgNET 1])
    (hptp : page.val ≠ pgPTP) (s : State) : ctrlAct page old now act s = frozenBy page old now s := by
  rw [ctrlAct_eq, h1, if_neg Bool.false_ne_true, ctrlStage_block (fun h => by simp [isPressPage, h] at hp) hd]
  unfold blockActs
  rw [if_neg hptp]
  refine ite_eq_left_iff.2 fun hne => ?_
  have hno := hb.resolve_left hne
  simp only [List.mem_cons, List.not_mem_nil, or_false, not_or] at hno
  obtain ⟨hm, hpll, hddr, hn0, hn1⟩ := hno
  rw [if_neg hpll, if_neg hm, if_neg hddr, if_neg (fun h => h.elim hn0 hn1)]

/-! ### O11: EN of DDRC and PLLM -/

/-- A rate that lands while PLL-M is unlocked leaves it so. -/
theorem lockM_nextRate (h : s.clk.lockM = false) : (nextRate s).clk.lockM = false := by
  have hland (k : Option Word) (w : Word) (t : State) (ht : t.clk.lockM = false) : (rateLand k w t).1.clk.lockM =
      false := by
    unfold rateLand
    split
    · exact ht
    · rw [if_pos (by simp [ht])]
      exact ht
  unfold nextRate
  split
  · exact h
  · rename_i k w rest _
    cases k with
    | none =>
      dsimp only
      split <;> exact hland _ _ _ h
    | some k =>
      dsimp only
      split
      · exact hland _ _ _ h
      · rw [clk_finishRunning]
        exact hland _ _ _ h

theorem lockM_nextRates (h : s.clk.lockM = false) : (nextRates s).clk.lockM = false :=
  List.foldlRecOn (motive := fun u : State => u.clk.lockM = false) _ _ h fun u hu _ _ => by
    split
    · exact lockM_nextRate hu
    · exact hu

theorem lockM_endChange (h : s.clk.lockM = false) : (endChange s).clk.lockM = false := by
  unfold endChange
  split
  · exact h
  · rename_i c _
    refine lockM_nextRates ?_
    split
    · rw [clk_finishRunning]
      exact h
    · exact h

/-- PLL-M switched off: no lock, and the frame ticks stop. -/
theorem pllmOff_effect (s : State) : (pllmOff s).tb.ticking = false ∧ (pllmOff s).clk.lockM = false := by
  have h : Within [.regs, .mem, .comp, .galley, .fab, .clk, .twin] (· ∈ doneRegs)
      (setTb { s.tb with ticking := false } (setClk { s.clk with lockM := false } s)) (pllmOff s) := within_endChange _
  exact ⟨congrArg TimebaseSt.ticking (h.1 .tb (by decide)), lockM_endChange rfl⟩

/-! ### O11: SRST -/

/-- A reset that runs: ISTAT, ERRCAP and ERRADDR of the page are 0. -/
theorem srstWrite_runs {page : Fin 64} (hs : Canonical s) (h : isPressPage page = false ∨ (pressAt s page).mode =
    .halted) :
    page.val ∈ (srstWrite page s).srst ∧ rget (srstWrite page s) (aISTAT page) = 0 ∧ rget (srstWrite page s)
      (aERRCAP page) = 0 ∧
      rget (srstWrite page s) (aERRADDR page) = 0 := by
  have hn : ¬ (decide (0x20 ≤ page.val ∧ page.val ≤ 0x2F) = true ∧ (pressAt s page).mode ≠ .halted) := fun hc =>
    h.elim (fun hf => by rw [isPressPage, hc.1] at hf; exact absurd hf (by simp)) hc.2
  have h1 : aISTAT page ≠ aERRCAP page ∧ aISTAT page ≠ aERRADDR page ∧ aERRCAP page ≠ aERRADDR page := by
    unfold aISTAT aERRCAP aERRADDR pageAddr
    omega
  have htidy : Tidy s.pending (Canonical s) (srstBlock page s) := Tidy.srstBlock ⟨rfl, id⟩ page
  have hw0 := (htidy.2 hs).1
  unfold srstWrite
  dsimp only
  rw [if_neg hn]
  refine ⟨?_, ?_, ?_, rget_rset_same (rset_regs_wf (rset_regs_wf hw0 ..) ..) ..⟩
  · dsimp only
    split
    · exact List.contains_iff_mem.1 (by assumption)
    · simp
  · exact (rget_rset_ne _ _ h1.2.1).trans ((rget_rset_ne _ _ h1.1).trans (rget_rset_same hw0 ..))
  · exact (rget_rset_ne _ _ h1.2.2).trans (rget_rset_same (rset_regs_wf hw0 ..) ..)

theorem mode_pressEn_halted {p : Fin 16} {old new : Bool} (h : s.press[p].mode = .halted) :
    (pressEn p old new s).press[p].mode = .halted := by
  unfold pressEn
  dsimp only
  rw [h]
  split
  · split
    · exact h
    · rw [press_setPress_same]
  · dsimp only
    rw [press_setPress_same]

theorem pressAt_pgPRESS (s : State) (p : Fin 16) : pressAt s (pgPRESS p) = s.press[p] := by
  unfold pressAt
  simp only [ofNat_pgPRESS]

theorem srstBlock_press (p : Fin 16) (s : State) : srstBlock (pgPRESS p) s = pressSrst p s := by
  have hne : ∀ p : Fin 16, ∀ q ∈ [pgPLLM, pgDPLL, pgDDRC, pgAES3, pgASRC, pgSWITCH, pgSTREAMRX, pgSTREAMTX, pgBASIN,
      pgJET, pgSENSE,
    0x16, 0x17], pgPRESS p ≠ q := by decide
  have hlo : ¬ (0x10 ≤ pgPRESS p ∧ pgPRESS p ≤ 0x13) := by unfold pgPRESS; omega
  have hin : 0x20 ≤ pgPRESS p ∧ pgPRESS p ≤ 0x2F := by unfold pgPRESS; omega
  have hp := hne p
  simp only [List.forall_mem_cons] at hp
  unfold srstBlock
  simp only [hp, hlo, hin, ofNat_pgPRESS, if_false, if_true, or_self, and_self]

/-- A reset of a HALTED Press leaves it HALTED. -/
theorem mode_srstWrite_halted {p : Fin 16} (h : s.press[p].mode = .halted) : (srstWrite (pgPRESS p) s).press[p].mode
    = .halted := by
  have hrun : (srstWrite (pgPRESS p) s).press = (srstBlock (pgPRESS p) s).press := by
    unfold srstWrite
    dsimp only
    rw [pressAt_pgPRESS, if_neg (fun hc => hc.2 h)]
    rfl
  rw [hrun, srstBlock_press, pressSrst, press_setPress_same]
  rfl

theorem mode_heldSrst_halted {p : Fin 16} (h : s.press[p].mode = .halted) : (heldSrst p s).press[p].mode = .halted := by
  unfold heldSrst
  split
  · exact mode_srstWrite_halted (p := p) (by rw [press_setPress_same]; exact h)
  · exact h

theorem dbgHalt_of_idle {p : Fin 16} (v : Bool) (h1 : s.press[p].mode ≠ .run) (h2 : s.press[p].mode ≠ .dbg) :
    dbgHalt p v s = s ∧ dbgStep p s = s := by
  have hr : (s.press[p].mode == .run) = false := by simpa using h1
  refine ⟨?_, if_neg h2⟩
  unfold dbgHalt
  split
  · unfold settleDbg dbgStops
    rw [hr]
    simp
  · exact if_neg h2

/-! ### O11: a Press that does not run -/

theorem frozenBy_press (page : Nat) (old now : Word) (s : State) : (frozenBy page old now s).press = s.press :=
  (within_frozenBy page old now s).1 .press (by decide)

/-- What EN of a Press does, with a reset that was held. -/
def enActs (p : Fin 16) (old new : Word) (s : State) : State :=
  heldSrst p (if (bit old 0 != bit new 0) || !bit new 0 then pressEn p (bit old 0) (bit new 0) s else s)

/-- The debug controls do not act on a Press that is HALTED or STOPPING. -/
theorem pressActs_of_idle {p : Fin 16} {old new : Word} (v : Word)
    (h : (enActs p old new s).press[p].mode = .halted ∨ (enActs p old new s).press[p].mode = .stopping) :
    pressActs p old new v s = enActs p old new s := by
  obtain ⟨hd, hstep⟩ := dbgHalt_of_idle (s := enActs p old new s) (p := p) (bit new 7)
    (by rcases h with h | h <;> rw [h] <;> decide) (by rcases h with h | h <;> rw [h] <;> decide)
  have hrun : pressActs p old new v s =
      let s3 := if bit old 7 == bit new 7 then enActs p old new s else dbgHalt p (bit new 7) (enActs p old new s)
      if bit v 8 then dbgStep p s3 else s3 := rfl
  rw [hrun, hd, ite_self]
  dsimp only
  rw [hstep, ite_self]

theorem pressActs_halted {p : Fin 16} (h : s.press[p].mode = .halted) (old new v : Word) :
    (pressActs p old new v s).press[p].mode = .halted := by
  have h1 : (enActs p old new s).press[p].mode = .halted := by
    refine mode_heldSrst_halted ?_
    split
    · exact mode_pressEn_halted h
    · exact h
  rw [pressActs_of_idle v (.inl h1), h1]

/-- What a write of CTRL leaves of a STOPPING Press: it goes on stopping, and no register changes. -/
theorem pressActs_stopping {p : Fin 16} (h : s.press[p].mode = .stopping) (old new v : Word) :
    (pressActs p old new v s).press[p].mode = .stopping ∧ (pressActs p old new v s).regs = s.regs := by
  have hen : (pressEn p (bit old 0) (bit new 0) s).press[p].mode = .stopping ∧
      (pressEn p (bit old 0) (bit new 0) s).regs = s.regs := by
    unfold pressEn
    dsimp only
    rw [h]
    split
    · split
      · exact ⟨h, rfl⟩
      · rw [press_setPress_same]
        exact ⟨rfl, rfl⟩
    · dsimp only
      rw [press_setPress_same]
      exact ⟨rfl, rfl⟩
  have h1 : (enActs p old new s).press[p].mode = .stopping ∧ (enActs p old new s).regs = s.regs := by
    have h0 : ∀ u : State, u.press[p].mode = .stopping → heldSrst p u = u := fun u hu =>
      if_neg fun hc => by rw [hu] at hc; exact absurd hc.2 (by decide)
    have h1 : (if (bit old 0 != bit new 0) || !bit new 0 then pressEn p (bit old 0) (bit new 0) s else
        s).press[p].mode = .stopping ∧
        (if (bit old 0 != bit new 0) || !bit new 0 then pressEn p (bit old 0) (bit new 0) s else s).regs = s.regs := by
      split
      · exact hen
      · exact ⟨h, rfl⟩
    unfold enActs
    generalize (if (bit old 0 != bit new 0) || !bit new 0 then pressEn p (bit old 0) (bit new 0) s else s) = u at h1
    simp only [h0 u h1.1]
    exact h1
  rw [pressActs_of_idle v (.inr h1.1)]
  exact h1

/-! ### O11: the statements about one write of CTRL -/

section
variable {page : Fin 64} {l : Fin 4} {be : BitVec 4} {v : Word}

theorem aCTRL_not_end (page : Fin 64) : aCTRL page ≠ aHOSTIF_LASTERR ∧ aCTRL page ≠ aHOSTIF_LASTADDR := by
  obtain ⟨-, -, -, -, -, -, -, -, -, hno, -⟩ := ctrl_addr page
  simpa using hno

/-- An ignored write only ends the access. -/
theorem srstIgnored_effect (hs : Canonical s) (h : Accepted s (aCTRL page) ⟨l, be, v⟩)
    (hi : srstIgnored s page v = true) :
    ∃ t, hostWrite ⟨aCTRL page, l, be, v⟩ s = t ∧ lastStatus t = 0 ∧ rget t (aCTRL page) = rget s (aCTRL page) ∧
      heldReg t (aCTRL page) = heldReg s (aCTRL page) ∧ KeepsBut [.regs] s t ∧
      RegsOnly [aHOSTIF_LASTERR, aHOSTIF_LASTADDR] s t := by
  have hw : Within [.regs] (fun _ => False) s s := .refl ..
  obtain ⟨h1, h2⟩ := aCTRL_not_end page
  have hr := rget_endAccess_ok s (l := l) (a := aCTRL page) h1 h2
  have hk : KeepsBut [.regs] s (endAccess 0 l true (aCTRL page) s) := hw.ofEnd _ _
  refine ⟨_, writeCtrl_ignored h hi, lastStatus_endAccess hs.1
    (by decide), hr, ?_, hk, hw.regsOnly_end _ _ fun _ => False.elim⟩
  unfold heldReg
  rw [hr, show (endAccess 0 l true (aCTRL page) s).landNext = s.landNext from hk .landNext (by decide)]

theorem keepsBut_sub {a b : List Part} {t : State} (h : KeepsBut a s t) (hsub : a ⊆ b) : KeepsBut b s t :=
  fun p hp => h p fun hm => hp (hsub hm)

theorem regsOnly_sub {a b : List Nat} {t : State} (h : RegsOnly a s t) (hsub : a ⊆ b) : RegsOnly b s t :=
  fun k hk => h k fun hm => hk (hsub hm)

end

theorem not_press_of_not_dataPlane : ∀ page : Fin 64, dataPlane page = false → isPressPage page = false := by decide

/-- O11, BLOCK_EN outside the data plane. -/
theorem blockEn_effect {page : Fin 64} {w : HW} (hs : Canonical s) (h : Accepted s (aCTRL page) w)
    (hd : dataPlane page = false)
    (hheld : heldReg s (aCTRL page) = rget s (aCTRL page)) :
    Runs (.blockEn page w) s fun t => lastStatus t = 0 ∧
      enOf t page = (if srstIgnored s page w.v || alwaysOn page then enOf s page else bit w.v 0) ∧
      (bit w.v 1 = false → page.val ∉ [pgPLLM, pgDPLL, pgDDRC, pgNET 0, pgNET 1, pgPTP] →
        KeepsBut [.regs, .frozen] s t ∧ RegsOnly [aCTRL page, aHOSTIF_LASTERR, aHOSTIF_LASTADDR] s t) ∧
      (bit w.v 1 = false → page.val = pgDDRC → bit w.v 0 ≠ enOf s page →
        t.cistern.st = (if bit w.v 0 then .training else .off)) ∧
      (bit w.v 1 = false → page.val = pgPLLM → enOf s page = true → bit w.v 0 = false →
        t.tb.ticking = false ∧ t.clk.lockM = false) := by
  have hen (t : State) : enOf t page = bit (rget t (aCTRL page)) 0 := rfl
  cases hi : srstIgnored s page w.v with
  | true =>
    have h1 : bit w.v 1 = true := (Bool.and_eq_true_iff.1 hi).1
    obtain ⟨t, ht, hst, hctrl, -⟩ := srstIgnored_effect hs h hi
    exact ⟨t, congrArg Host.Outcome.next ht, hst, by rw [hen, hen, hctrl]; rfl, fun h0 => by simp [h1] at h0,
      fun h0 => by simp [h1] at h0, fun h0 => by simp [h1] at h0⟩
  | false =>
    obtain ⟨old, now, act, land, hc, ht⟩ := writeCtrl_taken h hi
    obtain ⟨hst, -, -, hctrl⟩ := writeCtrl_kept hs hc w.lvl
    obtain ⟨rfl, rfl⟩ := hc.other (.inl hd)
    have hnow : bit now 0 = if alwaysOn page then enOf s page else bit w.v 0 := by rw [hc.enable hd, hheld]; rfl
    have hpress : isPressPage page = false := not_press_of_not_dataPlane page hd
    have hstage (h1 : bit w.v 1 = false) : ctrlAct page (heldReg s (aCTRL page)) now act
        (ctrlLanded page now s.landNext s) =
        blockActs page (heldReg s (aCTRL page)) now (frozenBy page (heldReg s (aCTRL page)) now
          (ctrlLanded page now s.landNext s)) := by
      rw [ctrlAct_eq, hc.srst, h1, if_neg Bool.false_ne_true,
        ctrlStage_block (fun h => by simp [isPressPage, h] at hpress) fun hdp => by simp [hd] at hdp]
    refine ⟨_, congrArg Host.Outcome.next ht, hst, ?_, fun h1 hno => ?_, fun h1 hp hne => ?_, fun h1 hp hon hoff => ?_⟩
    · rw [hen, hctrl, hnow]
      rfl
    · simp only [List.mem_cons, List.not_mem_nil, or_false, not_or] at hno
      obtain ⟨hm, hpll, hddr, hn0, hn1, hptp⟩ := hno
      have hw := within_frozenLanded_same page (heldReg s (aCTRL page)) now s
      rw [ctrlAct_quiet (hc.srst.trans h1) hpress (fun hdp => by simp [hd] at hdp) (.inr (by simp [*])) hptp]
      exact ⟨hw.ofEnd _ _, hw.regsOnly_end _ _ (fun b hb => by simp [hb]) (by simp) (by simp)⟩
    · have hon : alwaysOn page = false := by rw [hp]; decide
      have hv : bit now 0 = bit w.v 0 := hnow.trans (by rw [hon]; rfl)
      have hchg : ¬ bit (heldReg s (aCTRL page)) 0 = bit now 0 := fun he => hne (by rw [← hv, ← he, hheld]; rfl)
      have hcis (u : State) : (endAccess 0 w.lvl true (aCTRL page) u).cistern = u.cistern :=
        (within_endAccess (s := u) (l := w.lvl) (a := aCTRL page) (status := 0) true).1 .cistern (by decide)
      rw [hcis, hstage h1]
      unfold blockActs
      rw [if_neg (by rw [hp]; decide), if_neg hchg, if_neg (by rw [hp]; decide), if_neg (by rw [hp]; decide), if_pos hp, hv]
      split <;> rfl
    · have hal : alwaysOn page = false := by rw [hp]; decide
      have hv : bit now 0 = false := hnow.trans (by rw [hal, hoff]; rfl)
      have hold : bit (heldReg s (aCTRL page)) 0 = true := by rw [hheld]; exact hon
      rw [hstage h1]
      unfold blockActs
      rw [if_neg (by rw [hp]; decide), if_neg (by rw [hold, hv]; decide), if_neg (by rw [hp]; decide), if_pos hp, hv,
        if_neg Bool.false_ne_true]
      obtain ⟨htick, hlock⟩ := pllmOff_effect (frozenBy page (heldReg s (aCTRL page)) now
        (ctrlLanded page now s.landNext s))
      generalize pllmOff _ = u at htick hlock
      have he := (within_endAccess (s := u) (l := w.lvl) (a := aCTRL page) (status := 0) true).1
      exact ⟨(congrArg TimebaseSt.ticking (he .tb (by decide))).trans htick,
        (congrArg ClockSt.lockM (he .clk (by decide))).trans hlock⟩

/-- O11, BLOCK_EN of a page of the data plane of a SOLO device. -/
theorem blockEn_dataPlane {page : Fin 64} {w : HW} (hs : Canonical s) (h : Accepted s (aCTRL page) w)
    (hd : dataPlane page = true) (hsolo : isSolo s = true) :
    Runs (.blockEn page w) s fun t => lastStatus t = 0 ∧ enOf t page = enOf s page ∧
      bit (heldReg t (aCTRL page)) 0 = (if srstIgnored s page w.v then bit (heldReg s (aCTRL page)) 0 else bit w.v 0) ∧
      (isPressPage page = false → bit w.v 1 = false →
        KeepsBut [.regs, .frozen, .landNext] s t ∧ RegsOnly [aCTRL page, aHOSTIF_LASTERR, aHOSTIF_LASTADDR] s t) := by
  have hen (t : State) : enOf t page = bit (rget t (aCTRL page)) 0 := rfl
  cases hi : srstIgnored s page w.v with
  | true =>
    have h1 : bit w.v 1 = true := (Bool.and_eq_true_iff.1 hi).1
    obtain ⟨t, ht, hst, hctrl, hheld, -⟩ := srstIgnored_effect hs h hi
    exact ⟨t, congrArg Host.Outcome.next ht, hst,
      by rw [hen, hen, hctrl], by rw [hheld]; rfl, fun _ h0 => by simp [h1] at h0⟩
  | false =>
    obtain ⟨old, now, act, land, hc, ht⟩ := writeCtrl_taken h hi
    obtain ⟨hst, hland, -, hctrl⟩ := writeCtrl_kept hs hc w.lvl
    obtain ⟨rfl, h0, hl⟩ := hc.solo hd hsolo
    refine ⟨_, congrArg Host.Outcome.next ht, hst, ?_, ?_, fun hp h1 => ?_⟩
    · rw [hen, hen, hctrl, h0]
    · unfold heldReg
      rw [hland, hctrl, hl]
      rfl
    · have hw := within_frozenLanded page (rget s (aCTRL page)) now land s
      have hptp : ∀ page : Fin 64, dataPlane page = true → page.val ≠ pgPTP := by decide
      rw [ctrlAct_quiet (hc.srst.trans h1) hp (fun _ => h0.symm) (.inl h0.symm) (hptp page hd)]
      exact ⟨hw.ofEnd _ _, hw.regsOnly_end _ _ (fun b hb => by simp [hb]) (by simp) (by simp)⟩

/-- O11, FREEZE. -/
theorem freeze_effect {page : Fin 64} {w : HW} (hs : Canonical s) (h : Accepted s (aCTRL page) w)
    (hheld : bit (heldReg s (aCTRL page)) 2 = rbit s (aCTRL page) 2) :
    Runs (.freeze page w) s fun t => lastStatus t = 0 ∧
      rbit t (aCTRL page) 2 = (if srstIgnored s page w.v then rbit s (aCTRL page) 2 else bit w.v 2) ∧
      (srstIgnored s page w.v = false → rbit s (aCTRL page) 2 = false → bit w.v 2 = true → ∀ a ∈ frozenAddrs page,
        viewReg t a = liveReg { rset (aCTRL page) (rget t (aCTRL page)) s with landNext := t.landNext } a) ∧
      (srstIgnored s page w.v = false → rbit s (aCTRL page) 2 = true → bit w.v 2 = false → ∀ a ∈ frozenAddrs page,
        viewReg t a = liveReg t a) := by
  cases hi : srstIgnored s page w.v with
  | true =>
    obtain ⟨t, ht, hst, hctrl, -⟩ := srstIgnored_effect hs h hi
    exact ⟨t, congrArg Host.Outcome.next ht, hst,
      by rw [rbit, hctrl]; rfl, fun h0 => absurd h0 (by simp), fun h0 => absurd h0 (by simp)⟩
  | false =>
    obtain ⟨old, now, act, land, hc, ht⟩ := writeCtrl_taken h hi
    obtain ⟨hst, hland, hfrozen, hctrl⟩ := writeCtrl_kept hs hc w.lvl
    have hold : bit old 2 = rbit s (aCTRL page) 2 := by
      by_cases hcase : dataPlane page = true ∧ isSolo s = true
      · rw [(hc.solo hcase.1 hcase.2).1]
        rfl
      · rw [(hc.other (by rwa [not_and_or, Bool.not_eq_true, Bool.not_eq_true] at hcase)).1, hheld]
    have hview (t : State) (ht : t.frozen = (frozenBy page old now (ctrlLanded page now land s)).frozen)
        (hne : rbit s (aCTRL page) 2 ≠ bit w.v 2) (a : Nat) (ha : a ∈ frozenAddrs page) :
        viewReg t a = if bit w.v 2 then liveReg (ctrlLanded page now land s) a else liveReg t a := by
      unfold viewReg
      rw [ht, frozenBy, hold, hc.freeze, if_neg (by simpa using hne), alGet_freezePage ha]
    refine ⟨_, congrArg Host.Outcome.next ht, hst,
      by rw [rbit, hctrl, hc.freeze]; rfl, fun _ h0 h1 a ha => ?_, fun _ h0 h1 a ha => ?_⟩
    · rw [hview _ hfrozen (by rw [h0, h1]; decide) a ha, if_pos h1, hland, hctrl]
      rfl
    · rw [hview _ hfrozen (by rw [h0, h1]; decide) a ha, if_neg (by simp [h1])]

/-! ### O11: SRST, IFORCE, ERRCAP -/

theorem bit1_setSrst (v : Word) : bit (setBits v 1 1 1) 1 = true := by
  rw [bit_setBits _ _ _ _ (by decide), if_pos (by decide)]
  decide

theorem pressAt_congr {t : State} (h : t.press = s.press) (page : Nat) : pressAt t page = pressAt s page := by
  unfold pressAt
  simp only [h]

theorem frozenLanded_press (page : Nat) (old now : Word) (land : List (Nat × Word)) (s : State) :
    (frozenBy page old now (ctrlLanded page now land s)).press = s.press := frozenBy_press ..

/-- A Press that is HALTED stays so while the rest of its CTRL acts. -/
theorem ctrlStage_halted {page : Fin 64} (h : isPressPage page = false ∨ (pressAt s page).mode = .halted)
    (old now act : Word)
    (land : List (Nat × Word)) :
    isPressPage page = false ∨ (pressAt (ctrlStage page old now act (ctrlLanded page now land s)) page).mode =
      .halted := by
  cases hp : isPressPage page with
  | false => exact .inl rfl
  | true =>
    have hm := h.resolve_left (by simp [hp])
    obtain ⟨p, he⟩ := pressPage_eq hp
    rw [he] at hm ⊢
    rw [pressAt_pgPRESS] at hm
    have hm' : (frozenBy (pgPRESS p) old now (ctrlLanded (pgPRESS p) now land s)).press[p].mode = .halted := by
      simp only [frozenLanded_press, hm]
    rw [ctrlStage_press, pressAt_pgPRESS]
    exact .inr (pressActs_halted hm' ..)

/-- The reset of a STOPPING Press is held. -/
theorem srstWrite_stopping {p : Fin 16} (h : s.press[p].mode = .stopping) :
    (srstWrite (pgPRESS p) s).press[p].srstHeld = true ∧ (srstWrite (pgPRESS p) s).regs = s.regs := by
  have hin : decide (0x20 ≤ pgPRESS p ∧ pgPRESS p ≤ 0x2F) = true := by
    rw [decide_eq_true_eq]
    unfold pgPRESS
    omega
  unfold srstWrite
  dsimp only
  rw [pressAt_pgPRESS, ofNat_pgPRESS, if_pos ⟨hin, by rw [h]; decide⟩, if_pos (.inl h), press_setPress_same]
  exact ⟨rfl, rfl⟩

/-- O11, SRST. -/
theorem srst_effect {page : Fin 64} {w : HW} (hs : Canonical s)
    (h : Accepted s (aCTRL page) ⟨w.lvl, w.be, setBits w.v 1 1 1⟩) :
    Runs (.srst page w) s fun t => lastStatus t = 0 ∧
      (bit (heldReg s (aCTRL page)) 0 = true → KeepsBut [.regs] s t ∧ RegsOnly [aHOSTIF_LASTERR, aHOSTIF_LASTADDR] s
        t) ∧
      (bit (heldReg s (aCTRL page)) 0 = false → isPressPage page = false ∨ (pressAt s page).mode = .halted →
        page.val ∈ t.srst ∧ rget t (aISTAT page) = 0 ∧ rget t (aERRCAP page) = 0 ∧ rget t (aERRADDR page) = 0) ∧
      (bit (heldReg s (aCTRL page)) 0 = false → isPressPage page = true → (pressAt s page).mode = .stopping →
        bit w.v 8 = false → (pressAt t page).srstHeld = true ∧ rget t (aISTAT page) = rget s (aISTAT page)) := by
  have hv := bit1_setSrst w.v
  cases hi : srstIgnored s page (setBits w.v 1 1 1) with
  | true =>
    have h0 : bit (heldReg s (aCTRL page)) 0 = true := (Bool.and_eq_true_iff.1 hi).2
    obtain ⟨t, ht, hst, -, -, hk, hr⟩ := srstIgnored_effect hs h hi
    exact ⟨t, congrArg Host.Outcome.next ht, hst, fun _ => ⟨hk, hr⟩, fun hn =>
      by simp [h0] at hn, fun hn => by simp [h0] at hn⟩
  | false =>
    have h0 : bit (heldReg s (aCTRL page)) 0 = false := by
      rw [srstIgnored, hv, Bool.true_and] at hi
      exact hi
    obtain ⟨old, now, act, land, hc, ht⟩ := writeCtrl_taken h hi
    obtain ⟨hst, -⟩ := writeCtrl_kept hs hc w.lvl
    have hrun : ctrlAct page old now act (ctrlLanded page now land s) =
        srstWrite page (ctrlStage page old now act (ctrlLanded page now land s)) := by
      rw [ctrlAct_eq, hc.srst, hv, if_pos rfl]
    have htidy : Tidy s.pending (Canonical s) (ctrlStage page old now act (ctrlLanded page now land s)) :=
      (Tidy.rset (Tidy.setLandNext (s := s) ⟨rfl, id⟩ land) _ _).ctrlAct ..
    have hend (u : State) : (endAccess 0 w.lvl true (aCTRL page) u).srst = u.srst ∧
        (endAccess 0 w.lvl true (aCTRL page) u).press = u.press :=
      have he := (within_endAccess (s := u) (l := w.lvl) (a := aCTRL page) (status := 0) true).1
      ⟨he .srst (by decide), he .press (by decide)⟩
    have hreg (u : State) (o : Nat) (ho : o ∈ [0x10, 0x1C, 0x20]) :
        rget (endAccess 0 w.lvl true (aCTRL page) u) (pageAddr page o) = rget u (pageAddr page o) := by
      have hne : ∀ page : Fin 64, ∀ o ∈ [0x10, 0x1C, 0x20], pageAddr page o ≠ aHOSTIF_LASTERR ∧ pageAddr page o ≠
          aHOSTIF_LASTADDR := by
        decide
      exact rget_endAccess_ok _ (hne page o ho).1 (hne page o ho).2
    refine ⟨_, congrArg Host.Outcome.next ht, hst, fun hn => by simp [h0] at hn, fun _ hp => ?_, fun _ hp hm _ => ?_⟩
    · obtain ⟨hm, h1, h2, h3⟩ := srstWrite_runs (htidy.2 hs) (ctrlStage_halted hp old now act land)
      rw [hrun, (hend _).1]
      exact ⟨hm, (hreg _ 0x10 (by decide)).trans h1, (hreg _ 0x1C (by decide)).trans h2, (hreg _ 0x20 (by decide)).trans h3⟩
    · rw [hrun, pressAt_congr (hend _).2]
      have hist : rget (endAccess 0 w.lvl true (aCTRL page) (srstWrite page
          (ctrlStage page old now act (ctrlLanded page now land s))))
          (aISTAT page) = _ := hreg _ 0x10 (by decide)
      rw [hist]
      obtain ⟨p, he⟩ := pressPage_eq hp
      have hne : aISTAT (pgPRESS p) ≠ aCTRL (pgPRESS p) := by unfold aISTAT aCTRL pageAddr; omega
      rw [he] at hm ⊢
      rw [pressAt_pgPRESS] at hm ⊢
      have hm' : (frozenBy (pgPRESS p) old now (ctrlLanded (pgPRESS p) now land s)).press[p].mode = .stopping := by
        simp only [frozenLanded_press, hm]
      obtain ⟨hstop, hregs⟩ := pressActs_stopping hm' old now act
      have hsame := (within_frozenLanded (pgPRESS p) old now land s).2 _ hne
      rw [ctrlStage_press]
      generalize frozenBy _ _ _ _ = f at hregs hsame hstop
      obtain ⟨hheld, hkeep⟩ := srstWrite_stopping hstop
      exact ⟨hheld, (congrArg (spGet resetWord · (aISTAT (pgPRESS p))) (hkeep.trans hregs)).trans hsame⟩

theorem iforce_def : ∀ page : Fin 64, ∀ d ∈ regAt (pageAddr page 0x18), d.w1s = 0 ∧ d.w1c = 0 ∧ d.rwp = 0 := by
    decide +kernel

theorem errcap_def : ∀ page : Fin 64, ∀ d ∈ regAt (aERRCAP page), bit (w32 d.w1s ||| w32 d.wo ||| w32 d.w1c) 31 =
    true := by
  decide +kernel

theorem commonReg_addr : ∀ page : Fin 64, ∀ o ∈ [0x18, 0x1C], pageOf (pageAddr page o) = page ∧ offOf
    (pageAddr page o) = o ∧
    busAddr (pageAddr page o) = pageAddr page o ∧ pageAddr page o ≠ aSYS_RSTCMD ∧ pageAddr page o ≠ aBOOT_CMD ∧
    pageAddr page o ≠ aRECORDER_FREEZE ∧ soloLater page o = false := by decide

/-- An accepted write of IFORCE or ERRCAP acts at once, on the page's interrupt and error registers. -/
theorem hostWrite_common {page : Fin 64} {o : Nat} (ho : o ∈ [0x18, 0x1C]) {w : HW} {d : RegDef}
    (h : Accepted s (pageAddr page o) w) (hd : regAt (pageAddr page o) = some d) :
    ∃ old new, hostWrite ⟨pageAddr page o, w.lvl, w.be, w.v⟩ s =
      endAccess 0 w.lvl true (pageAddr page o) (regAct true none w.lvl (pageAddr page o) old new
        (actBits d w.lvl w.v) s).1 := by
  obtain ⟨hpage, hoff, hbus, hrst, hboot, hfr, hlater⟩ := commonReg_addr page o ho
  have h8 : o ≠ 8 := by rintro rfl; exact absurd ho (by decide)
  refine ⟨heldReg s (pageAddr page o), newWord d page w.lvl (heldReg s (pageAddr page o)) w.v,
    (hostWrite_accepted h hd hbus hrst fun hc => h8 (hoff.symm.trans hc.1)).trans (congrArg _ ?_)⟩
  unfold landPage
  dsimp only
  rw [hpage, hoff, if_neg hrst, if_neg hboot, if_neg (fun h => hfr h.2), if_neg (fun h => by simp [hlater] at h),
    if_neg (fun h => h8 h.2.2)]
  rfl

/-- IFORCE sets the bits of ISTAT that the page implements. -/
theorem regAct_iforce {a : Nat} (ho : offOf a = 0x18) (l : Nat) (old new v : Word) (t : State) :
    regAct true none l a old new v t = (rset (aISTAT (pageOf a)) (rget t (aISTAT (pageOf a)) ||| v) t, false) := by
  unfold regAct
  dsimp only
  rw [if_pos ho]

/-- ERRCAP is cleared with ERRADDR. -/
theorem regAct_errcap {a : Nat} (ho : offOf a = 0x1C) {v : Word} (hv : bit v 31 = true) (l : Nat) (old new : Word)
    (t : State) :
    regAct true none l a old new v t = (rset (aERRADDR (pageOf a)) 0 (rset (aERRCAP (pageOf a)) 0 t), false) := by
  unfold regAct
  dsimp only
  rw [if_neg (by rw [ho]; decide), if_pos ho, if_pos hv]

/-- What the page sees of a word that only write-only bits act on. -/
theorem actBits_wo {d : RegDef} (h : d.w1s = 0 ∧ d.w1c = 0 ∧ d.rwp = 0) (l : Nat) (v : Word) : actBits d l v = v &&&
    w32 d.wo := by
  obtain ⟨hset, hclr, hrwp⟩ := h
  unfold actBits
  rw [hset, hclr, hrwp]
  simp [w32]

/-- O11, IFORCE. -/
theorem iforce_effect {page : Fin 64} {w : HW} {d : RegDef} (hs : Canonical s) (h : Accepted s (pageAddr page 0x18) w)
    (hd : regAt (pageAddr page 0x18) = some d) :
    Runs (.iforce page w) s fun t => lastStatus t = 0 ∧ rget t (aISTAT page) = rget s (aISTAT page) |||
      (w.v &&& w32 d.wo) ∧
      KeepsBut [.regs] s t ∧ RegsOnly [aISTAT page, aHOSTIF_LASTERR, aHOSTIF_LASTADDR] s t := by
  obtain ⟨hpage, hoff, -⟩ := commonReg_addr page 0x18 (by decide)
  obtain ⟨old, new, ht⟩ := hostWrite_common (o := 0x18) (by decide) h hd
  rw [regAct_iforce hoff, hpage, actBits_wo (iforce_def page d hd)] at ht
  have hne : ∀ page : Fin 64, aISTAT page ≠ aHOSTIF_LASTERR ∧ aISTAT page ≠ aHOSTIF_LASTADDR := by decide
  have hw : Within [.regs] (· = aISTAT page) s (rset (aISTAT page) (rget s (aISTAT page) ||| (w.v &&& w32 d.wo)) s) :=
    (Within.refl ..).rset _ (by decide) rfl
  refine ⟨_, congrArg Host.Outcome.next ht, lastStatus_endAccess (rset_regs_wf hs.1 _ _) (by decide), ?_, hw.ofEnd _ _,
    hw.regsOnly_end _ _ (fun b hb => by simp [hb]) (by simp) (by simp)⟩
  rw [rget_endAccess_ok _ (hne page).1 (hne page).2, rget_rset_same hs.1]

/-- O11, ERRCAP. -/
theorem errcapClear_effect {page : Fin 64} {w : HW} (hs : Canonical s)
    (h : Accepted s (aERRCAP page) ⟨w.lvl, w.be, setBits w.v 31 31 1⟩) :
    Runs (.errcapClear page w) s fun t => lastStatus t = 0 ∧ rget t (aERRCAP page) = 0 ∧ rget t (aERRADDR page) = 0 ∧
      KeepsBut [.regs] s t ∧ RegsOnly [aERRCAP page, aERRADDR page, aHOSTIF_LASTERR, aHOSTIF_LASTADDR] s t := by
  obtain ⟨hpage, hoff, -⟩ := commonReg_addr page 0x1C (by decide)
  obtain ⟨d, hd⟩ := regAt_of_unrefused h.2
  obtain ⟨old, new, ht⟩ := hostWrite_common (o := 0x1C) (by decide) h hd
  have hact : bit (actBits d w.lvl (setBits w.v 31 31 1)) 31 = true := by
    have hv : bit (setBits w.v 31 31 1) 31 = true := by
      rw [bit_setBits _ _ _ _ (by decide), if_pos (by decide)]
      decide
    unfold actBits
    rw [bit_and, bit_or, errcap_def page d hd, hv]
    rfl
  rw [regAct_errcap hoff hact, hpage] at ht
  have hne : ∀ page : Fin 64, ∀ a ∈ [aERRCAP page, aERRADDR page], a ≠ aHOSTIF_LASTERR ∧ a ≠ aHOSTIF_LASTADDR := by
      decide
  have hdiff : aERRCAP page ≠ aERRADDR page := by unfold aERRCAP aERRADDR pageAddr; omega
  have hw : Within [.regs] (· ∈ [aERRCAP page, aERRADDR page]) s (rset (aERRADDR page) 0 (rset (aERRCAP page) 0 s)) :=
    ((Within.refl ..).rset _ (by decide) (by simp)).rset _ (by decide) (by simp)
  have hwf := rset_regs_wf hs.1 (aERRCAP page) 0
  refine ⟨_, congrArg Host.Outcome.next ht, lastStatus_endAccess (rset_regs_wf hwf _ _)
    (by decide), ?_, ?_, hw.ofEnd _ _,
    hw.regsOnly_end _ _ (fun b hb => List.mem_append_left [aHOSTIF_LASTERR, aHOSTIF_LASTADDR] hb) (by simp) (by simp)⟩
  · rw [rget_endAccess_ok _
      (hne page _ (by simp)).1 (hne page _ (by simp)).2, rget_rset_ne _ _ hdiff, rget_rset_same hs.1]
  · rw [rget_endAccess_ok _ (hne page _ (by simp)).1 (hne page _ (by simp)).2, rget_rset_same hwf]

/-- Settles O11: the bits of CTRL act by page, IFORCE and ERRCAP on the page's own registers. -/
theorem blockControlBits : Obligations.BlockControlBits := by
  refine ⟨fun s page w hs h hd hheld => blockEn_effect hs h hd hheld, fun s page w hs h hd hsolo => blockEn_dataPlane
    hs h hd hsolo,
    fun s page w hs h hheld => freeze_effect hs h hheld, fun s page w hs h => srst_effect hs h, fun s page hl => ?_,
    fun s page w d hs h hd => iforce_effect hs h hd, fun s page w hs h => errcapClear_effect hs h⟩
  refine runs_awake hl rfl ⟨rfl, fun p hp => ?_⟩
  cases p <;> first | rfl | exact absurd (by decide) hp

end Sys2Proof.Machine
end

section
/-!
PROOFS. The port groups: what a group frame leaves of its group, its states, and the sequences of its channels.
-/

-- One declaration after another: side by side, the stacks of the threads exceed what memory the check allows.
set_option Elab.async false

namespace Sys2Proof.Machine

variable {s : State}

/-! ### O43: what the work of a group frame leaves of the group -/

/-- The registers of a group that its frames only read. -/
def groupRegs (g : Fin 4) : List Nat :=
  [aPORTG_GCFG g, aPORTG_SLIP_CNT g, aPORTG_ALIGN g, aPORTG_INMASK g 0, aPORTG_ACT_INMASK g 0]

/-- What decides the course of a group, beside its channels. -/
abbrev coreOf (x : GroupSt) : GState × Bool × List PortChg × Nat × Nat × Nat × Bool × Bool :=
  (x.st, x.stopping, x.chg, x.asg, x.frames, x.phi0, x.gap, x.faulted)

/-- The group goes its course: time, clocks and the registers of `l` are the same, and no interrupt bit of its page
  is cleared. -/
structure GroupKept (g : Fin 4) (l : List Nat) (s t : State) : Prop where
  sub : ∀ a ∈ l, a ∈ groupRegs g
  core : coreOf (grp t g) = coreOf (grp s g)
  tb : t.tb = s.tb
  clk : t.clk = s.clk
  regs : ∀ a ∈ l, rget t a = rget s a
  istat : ∀ b, rbit s (aISTAT (pgPORTG g)) b = true → rbit t (aISTAT (pgPORTG g)) b = true

theorem groupRegs_mod : ∀ g : Fin 4, ∀ a ∈ groupRegs g, 0x40 ≤ a % 0x1000 := by decide

theorem istat_ne_groupRegs (p : Nat) {g : Fin 4} {a : Nat} (ha : a ∈ groupRegs g) : a ≠ aISTAT p := by
  have h := groupRegs_mod g a ha
  unfold aISTAT pageAddr
  omega

namespace GroupKept
variable {g : Fin 4} {l : List Nat} {t u : State}

theorem refl (g : Fin 4) {l : List Nat} (hl : ∀ a ∈ l, a ∈ groupRegs g) (s : State) : GroupKept g l s s :=
  ⟨hl, rfl, rfl, rfl, fun _ _ => rfl, fun _ h => h⟩

theorem trans (h : GroupKept g l s t) (k : GroupKept g l t u) : GroupKept g l s u :=
  ⟨h.sub, k.core.trans h.core, k.tb.trans h.tb, k.clk.trans h.clk, fun a ha => (k.regs a ha).trans (h.regs a ha),
    fun b hb => k.istat b (h.istat b hb)⟩

theorem mono {m : List Nat} (h : GroupKept g l s t) (hm : ∀ a ∈ m, a ∈ l) : GroupKept g m s t :=
  ⟨fun a ha => h.sub a (hm a ha), h.core, h.tb, h.clk, fun a ha => h.regs a (hm a ha), h.istat⟩

theorem ite {c : Prop} [Decidable c] (h : GroupKept g l s t) (k : GroupKept g l s u) : GroupKept g l s
    (if c then t else u) := by
  split <;> assumption

theorem foldl {α : Type} {f : State → α → State} (m : List α)
    (hf : ∀ v, GroupKept g l s v → ∀ x ∈ m, GroupKept g l s (f v x))
    (h : GroupKept g l s t) : GroupKept g l s (m.foldl f t) :=
  List.foldlRecOn (motive := GroupKept g l s) m f h hf

theorem within {pl : List Part} {A : Nat → Prop} (h : GroupKept g l s t) (hw : Within pl A t u)
    (hA : ∀ a ∈ aISTAT (pgPORTG g) :: groupRegs g, ¬ A a)
    (hp : .ports ∉ pl ∧ .tb ∉ pl ∧ .clk ∉ pl := by decide) : GroupKept g l s u := by
  obtain ⟨h1, h2, h3⟩ := hp
  refine ⟨h.sub, (congrArg coreOf (grp_congr (hw.1 .ports h1) g)).trans h.core, Eq.trans (hw.1 .tb h2) h.tb, Eq.trans
    (hw.1 .clk h3) h.clk,
    fun a ha => (hw.2 a (hA a (List.mem_cons_of_mem _ (h.sub a ha)))).trans (h.regs a ha), fun b hb => ?_⟩
  rw [rbit, hw.2 _ (hA _ List.mem_cons_self)]
  exact h.istat b hb

theorem setGrp (h : GroupKept g l s t) (x : GroupSt) (hx : coreOf x = coreOf (grp t g)) : GroupKept g l s
    (setGrp g x t) :=
  ⟨h.sub, by rw [grp_setGrp, if_pos rfl, hx, h.core], h.tb, h.clk, h.regs, h.istat⟩

/-- The AES3 ports are no part of a group. -/
theorem setAes (h : GroupKept g l s t) (a : Vector Aes3St 8) : GroupKept g l s
    { t with ports := { t.ports with aes := a } } :=
  ⟨h.sub, h.core, h.tb, h.clk, h.regs, h.istat⟩

theorem rset (h : GroupKept g l s t) {a : Nat} (v : Word) (ha : a ∉ groupRegs g) (hi : a ≠ aISTAT (pgPORTG g)) :
    GroupKept g l s (rset a v t) := by
  refine ⟨h.sub, h.core, h.tb, h.clk, fun b hb => (rget_rset_ne _ _ ?_).trans (h.regs b hb), fun b hb => ?_⟩
  · rintro rfl
    exact ha (h.sub _ hb)
  · rw [rbit, rget_rset_ne _ _ hi.symm]
    exact h.istat b hb

/-- A common register of a page that is not ISTAT. -/
theorem rsetLow (h : GroupKept g l s t) (p : Nat) {o : Nat} (v : Word) (ho : o < 0x40 ∧ o ≠ 0x10 := by decide) :
    GroupKept g l s (Machine.rset (pageAddr p o) v t) := by
  refine h.rset v (fun ha => ?_) ?_
  · have hm := groupRegs_mod g _ ha
    unfold pageAddr at hm
    omega
  · unfold aISTAT pageAddr
    omega

theorem iset (h : GroupKept g l s t) (p b : Nat) : GroupKept g l s (iset p b t) := by
  refine ⟨h.sub, h.core, h.tb, h.clk, fun a ha => (rget_iset_ne _ _ _ (istat_ne_groupRegs p (h.sub a ha))).trans
    (h.regs a ha),
    fun i hi => ?_⟩
  by_cases hp : p = pgPORTG g
  · subst hp
    exact rbit_iset_of_rbit ⟨pgPORTG g, by unfold pgPORTG; omega⟩ (h.istat i hi)
  · rw [rbit, rget_iset_ne _ _ _ (by unfold aISTAT pageAddr; omega)]
    exact h.istat i hi

theorem errcap (h : GroupKept g l s t) (p code a : Nat) : GroupKept g l s (errcap p code a t) := by
  unfold Machine.errcap
  split
  · exact h.rsetLow p _
  · exact (h.rsetLow p _).rsetLow p _

theorem eccIstat_not : ∀ g : Fin 4, ∀ a ∈ aISTAT (pgPORTG g) :: groupRegs g, ¬ a = aISTAT pgECC := by decide

theorem stWord (h : GroupKept g l s t) (a : Nat) (v : Word) : GroupKept g l s (stWord a v t) :=
  h.within (within_stWord a v t) (eccIstat_not g)

theorem stageAddr_not : ∀ g : Fin 4, ∀ a ∈ aISTAT (pgPORTG g) :: groupRegs g, ¬ StageAddr a := by
  unfold StageAddr
  decide

theorem dmaRead (h : GroupKept g l s t) (a : Nat) : GroupKept g l s (dmaRead a t).2 :=
  h.within ((Fetched.refl stageParts StageAddr t).dmaRead a).within (stageAddr_not g)

theorem freeWord (h : GroupKept g l s t) : GroupKept g l s (freeWord t).2 :=
    ⟨h.sub, h.core, h.tb, h.clk, h.regs, h.istat⟩

theorem asrcUnlock (h : GroupKept g l s t) (i : Nat) : GroupKept g l s (asrcUnlock i t) := by
  have hn : ∀ g : Fin 4, ∀ a ∈ [aASRC_LOCKSTAT, aASRC_UNLOCK_CNT], a ∉ groupRegs g ∧ a ≠ aISTAT (pgPORTG g) := by decide
  unfold Machine.asrcUnlock
  split
  · exact ((h.rset _ (hn g _
      (by simp)).1 (hn g _ (by simp)).2).rset _ (hn g _ (by simp)).1 (hn g _ (by simp)).2).iset _ _
  · exact h

/-! The frame that has ended -/

theorem coreOf_seqSlots (out : Bool) (m : Nat) (is : List Nat) (f : ChanSeq → ChanSeq) (x : GroupSt) :
    coreOf (seqSlots out m is f x) = coreOf x := rfl

theorem rxSample (h : GroupKept g l s t) (i : SlotIn) : GroupKept g l s (rxSample g i t).2 := by
  have hn : ∀ g : Fin 4, aAES3_PARITY_CNT ∉ groupRegs g ∧ aAES3_PARITY_CNT ≠ aISTAT (pgPORTG g) := by decide
  unfold Machine.rxSample
  extract_lets y sub y1 put v v'
  split
  · split
    · exact h
    · split
      · exact ((h.rset _ (hn g).1 (hn g).2).iset _ _).setAes _
      · exact h.setAes _
  · exact h

theorem rxSlot (h : GroupKept g l s t) (k : Nat) (i : SlotIn) : GroupKept g l s (rxSlot g k i t) := by
  unfold Machine.rxSlot
  extract_lets r x key on q y
  exact ((h.rxSample i).setGrp { x with seqs := seqPut q.2 x.seqs, last := alSet x.last (32 * i.m + i.s) y }
    rfl).stWord _ _

theorem rxRepeat (h : GroupKept g l s t) (k : Nat) (ms : List Nat) : GroupKept g l s (rxRepeat g k ms t) :=
  .foldl _ (fun _ hv _ _ => hv.stWord _ _) h

theorem dirSet (h : GroupKept g l s t) (out : Bool) (m : Nat) (on : Bool) : GroupKept g l s (dirSet g out m on t) := by
  refine h.setGrp _ ?_
  cases on <;> rfl

theorem aesQualify (h : GroupKept 3 l s t) : GroupKept 3 l s (aesQualify t) := by
  refine .foldl _ (fun v hv m _ => ?_) h
  extract_lets _ y put s1 s2
  have h2 : GroupKept 3 l s s2 := .ite ((hv.setAes _).iset _ _) (hv.setAes _)
  exact .ite hv (.ite (hv.setAes _) (.ite (hv.setAes _) (.ite (h2.dirSet ..) h2)))

/-! The frame that starts -/

theorem chgApply (h : GroupKept g l s t) (i : GroupIn) (hc : (grp t g).chg = []) : GroupKept g l s
    (chgApply g i t) := by
  unfold Machine.chgApply
  dsimp only
  rw [hc, List.filter_nil, List.filter_nil]
  exact h.setGrp _ (by simp [coreOf, hc])

theorem txSlot (h : GroupKept g l s t) (k m sl : Nat) : GroupKept g l s (txSlot g k m sl t) := by
  unfold Machine.txSlot
  extract_lets a key put r0 r
  have hput (v : Option Word) {u : State} (hu : GroupKept g l s u) : GroupKept g l s (put v u) := hu.setGrp _ rfl
  have h0 : GroupKept g l s r0.2 := by
    unfold r0
    split
    · exact .ite (h.iset _ _) h
    · split
      · exact h.freeWord
      · exact h
  have h1 : GroupKept g l s r.2 := by
    unfold r
    split
    · exact h
    · split
      · exact h0.stWord _ _
      · exact h.dmaRead a
  split
  · exact hput _ (h1.setGrp _ rfl)
  · exact hput _ h

theorem txStep (h : GroupKept g l s t) (m : Fin 8) : GroupKept g l s (txStep m t) := h.setAes _

theorem txFrame (h : GroupKept g l s t) : GroupKept g l s (txFrame g t) := by
  refine .foldl _ (fun v hv m _ => ?_) (h.setGrp _ rfl)
  have h2 : GroupKept g l s (if (((grp t g).act.getD m ⟨false, false, 0, 0⟩).outOn || !dirOff (grp t g) true m) =
      true then
      (List.range (portSlots v g m)).foldl (fun v sl => Machine.txSlot g
        (if gcfgMode (gcfg t g) then (grp t g).frames else (grp t g).asg) m sl v) v else v) :=
    .ite (.foldl _ (fun _ hw _ _ => hw.txSlot ..) hv) hv
  exact .ite (h2.txStep _) h2

/-! The start of a group -/

theorem flowLoses (h : GroupKept g l s t) (c : Nat) : GroupKept g l s (flowLoses c t) :=
  .foldl _ (fun _ hv _ _ => (hv.iset _ _).errcap ..) h

theorem mapConf (h : GroupKept g l s t) (q : Fin 4) (m : Nat) : GroupKept g l s (mapConf q m t) :=
  .foldl _ (fun _ hv c _ => (GroupKept.foldl _ (fun _ hw _ _ => (hw.iset _ _).errcap ..) hv).flowLoses c) h

theorem fillOut (h : GroupKept g l s t) (m base : Nat) : GroupKept g l s (fillOut g m base t) :=
  .ite h (.foldl _ (fun _ hv _ _ => .foldl _ (fun _ hw _ _ => hw.stWord _ _) hv) h)

/-- What one direction of a PORT word does when it acts. -/
theorem portAct (h : GroupKept g l s t) (m : Nat) (v : Word) : GroupKept g l s (portAct g m v t).1 := by
  unfold Machine.portAct
  extract_lets one r q
  have hone (out : Bool) {u : State} (hu : GroupKept g l s u) : GroupKept g l s (one out u).1 := by
    unfold one
    extract_lets x a on base was old off s1 s2
    have h1 : GroupKept g l s s1 := hu.setGrp _ rfl
    have h2 : GroupKept g l s s2 := .ite ((GroupKept.ite (h1.fillOut ..) h1).dirSet ..) h1
    split
    · exact .ite (hu.dirSet ..) hu
    · exact .ite h2 (h2.mapConf ..)
  exact hone true (hone false h)

theorem maskAct (h : GroupKept g l s t) (out : Bool) (m : Nat) (v : Word)
    (ha : (if out then aPORTG_ACT_OUTMASK g m else aPORTG_ACT_INMASK g m) ∉ l)
    (hi : (if out then aPORTG_ACT_OUTMASK g m else aPORTG_ACT_INMASK g m) ≠ aISTAT (pgPORTG g)) : GroupKept g l s
      (maskAct g out m v t) := by
  unfold Machine.maskAct
  extract_lets a old x ac on x1 x2 s1 s2
  have hx : coreOf x2 = coreOf (grp t g) := by
    unfold x2
    split <;> rfl
  have h0 := h.setGrp x2 hx
  have h1 : GroupKept g l s s1 :=
    ⟨h0.sub, h0.core, h0.tb, h0.clk, fun b hb => (rget_rset_ne _ _
      (Ne.symm fun he => ha (by rwa [← he] at hb))).trans (h0.regs b hb), fun b hb => by
      rw [rbit, rget_rset_ne _ _ hi.symm]
      exact h0.istat b hb⟩
  have h2 : GroupKept g l s s2 := .ite h1 (h1.iset _ _)
  exact .ite h2 (h2.mapConf ..)

end GroupKept

variable {s : State} {g : Fin 4} {i : GroupIn}

/-! ### O43: the steps of a frame in RUN -/

/-- Is the frame of another length than the configuration says? -/
def slips (g : Fin 4) (i : GroupIn) (s : State) : Bool := decide (i.bits ≠ framePeriods s g)

/-- The recent slips with this frame's. -/
def glitchesNow (g : Fin 4) (i : GroupIn) (s : State) : List Nat :=
  if slips g i s then (grp s g).frames :: (grp s g).glitches.filter (fun k => decide ((grp s g).frames < k + 64))
  else (grp s g).glitches

/-- A slip has been noted, counted and reported. -/
def slipNoted (g : Fin 4) (i : GroupIn) (s : State) : State :=
  let s1 := setGrp g { grp s g with glitches := glitchesNow g i s } s
  if slips g i s then iset (pgPORTG g) 2 (cnt (aPORTG_SLIP_CNT g) s1) else s1

/-- The words of the frame that has ended have gone to their rings. -/
def frameTaken (g : Fin 4) (i : GroupIn) (s : State) : State :=
  let asrc := gcfgMode (gcfg s g)
  let k := if asrc then (grp s g).frames else (grp s g).asg
  let s2 := slipNoted g i s
  let words := if slips g i s then i.sdi.filter fun w => isAes s g w.m else i.sdi
  let s3 := if (ticksStopped s && !asrc) || s.clk.coreGated then s2
    else words.foldl (fun s w => rxSlot g k w s) (if slips g i s then rxRepeat g k (fsPorts s2 g) s2 else s2)
  if g = 3 then aesQualify s3 else s3

/-- Does the rate lie more than 1 % from the reference? -/
def offRate (g : Fin 4) (i : GroupIn) (s : State) : Bool :=
  decide (i.rate * 100 > (grp s g).ref * 101) || decide (i.rate * 100 < (grp s g).ref * 99)

/-- A rate that leaves the 1 % range has been reported. -/
def rateNoted (g : Fin 4) (i : GroupIn) (s : State) : State :=
  if offRate g i s ∧ ¬ (grp s g).rateFar then iset (pgPORTG g) 3 (frameTaken g i s) else frameTaken g i s

/-- The converter of the group follows a rate that has left the 1 % range. -/
def rateTracked (g : Fin 4) (i : GroupIn) (s : State) : State :=
  let s5 := setGrp g { grp (rateNoted g i s) g with rateFar := offRate g i s } (rateNoted g i s)
  if offRate g i s ∧ ¬ (grp s g).rateFar ∧ ¬ usesDec s then
    let y := asrcUnlock g s5
    setGrp g { grp y g with retrack := true } y
  else s5

theorem runFrame_eq (g : Fin 4) (i : GroupIn) (s : State) : runFrame g i s =
    if slips g i s ∧ (glitchesNow g i s).length > 8 ∧ ¬ usesDec s then leaveRun g .qualify (slipNoted g i s)
    else if ¬ usesDec s ∧ (if gcfgMode (gcfg s g) then ¬ rateOk (frameTaken g i s) g i.rate else offRate g i s) then
      enterMismatch g (rateNoted g i s)
    else
      let s5 := rateTracked g i s
      if ticksStopped s && !gcfgMode (gcfg s g) then
        txFrame g (chgApply g i (setGrp g { grp s5 g with frames := (grp s5 g).frames + 1, gap := true } s5))
      else txFrame g (chgApply g i (reassign g (slips g i s || (grp s5 g).gap) i.phase.toNat s5)) := rfl

/-- Registers that a frame leaves but for its count of slips. -/
abbrev gcfgOnly (g : Fin 4) : List Nat := [aPORTG_GCFG g]

/-- A slip that has been noted leaves the course of the group. -/
theorem core_slipNoted (g : Fin 4) (i : GroupIn) (s : State) :
    grp (slipNoted g i s) g = { grp s g with glitches := glitchesNow g i s } := by
  unfold slipNoted
  dsimp only
  split
  · exact (grp_setGrp ..).trans (if_pos rfl)
  · exact (grp_setGrp ..).trans (if_pos rfl)

theorem kept_frameTaken (g : Fin 4) (i : GroupIn) (s : State) :
    GroupKept g (groupRegs g) (slipNoted g i s) (frameTaken g i s) := by
  unfold frameTaken
  extract_lets asrc k s2 words s3
  have h0 : GroupKept g (groupRegs g) s2 s2 := .refl g (fun _ h => h) _
  have h1 : GroupKept g (groupRegs g) s2 (if slips g i s then rxRepeat g k (fsPorts s2 g) s2 else s2) := .ite
      (h0.rxRepeat ..) h0
  have h3 : GroupKept g (groupRegs g) s2 s3 := .ite h0 (.foldl _ (fun _ hv _ _ => hv.rxSlot ..) h1)
  split
  · next h =>
    subst h
    exact h3.aesQualify
  · exact h3

theorem kept_rateNoted (g : Fin 4) (i : GroupIn) (s : State) : GroupKept g (groupRegs g) (slipNoted g i s)
    (rateNoted g i s) :=
  .ite ((kept_frameTaken g i s).iset _ _) (kept_frameTaken g i s)

theorem kept_rateTracked (g : Fin 4) (i : GroupIn) (s : State) : GroupKept g (groupRegs g) (slipNoted g i s)
    (rateTracked g i s) := by
  have h5 : GroupKept g (groupRegs g) (slipNoted g i s)
      (setGrp g { grp (rateNoted g i s) g with rateFar := offRate g i s } (rateNoted g i s)) :=
        (kept_rateNoted g i s).setGrp _ rfl
  exact .ite ((h5.asrcUnlock g).setGrp _ rfl) h5

/-! The assignment of the frame that starts -/

/-- The group runs on from `s`: its frame is assigned to the MEDIA frame `asg`. -/
structure RunsOn (g : Fin 4) (asg phi : Nat) (s t : State) : Prop where
  st : (grp t g).st = (grp s g).st
  stopping : (grp t g).stopping = (grp s g).stopping
  chg : (grp t g).chg = (grp s g).chg
  asg : (grp t g).asg = asg
  frames : (grp t g).frames = (grp s g).frames + 1
  phi : (grp t g).phi0 = phi
  slip : rget t (aPORTG_SLIP_CNT g) = rget s (aPORTG_SLIP_CNT g)
  istat : ∀ b, rbit s (aISTAT (pgPORTG g)) b = true → rbit t (aISTAT (pgPORTG g)) b = true

namespace RunsOn
variable {a p : Nat} {t u : State}

theorem before {l : List Nat} (h : GroupKept g l s t) (k : RunsOn g a p t u)
    (hl : aPORTG_SLIP_CNT g ∈ l := by simp [groupRegs]) :
    RunsOn g a p s u := by
  have hc := h.core
  simp only [coreOf, Prod.mk.injEq] at hc
  obtain ⟨h1, h2, h3, -, h5, -⟩ := hc
  exact ⟨k.st.trans h1, k.stopping.trans h2, k.chg.trans h3, k.asg, k.frames.trans
    (by rw [h5]), k.phi, k.slip.trans (h.regs _ hl),
    fun b hb => k.istat b (h.istat b hb)⟩

theorem after {l : List Nat} (k : RunsOn g a p s t) (h : GroupKept g l t u)
    (hl : aPORTG_SLIP_CNT g ∈ l := by simp [groupRegs]) :
    RunsOn g a p s u := by
  have hc := h.core
  simp only [coreOf, Prod.mk.injEq] at hc
  obtain ⟨h1, h2, h3, h4, h5, h6, -⟩ := hc
  exact ⟨h1.trans k.st, h2.trans k.stopping, h3.trans k.chg, h4.trans k.asg, h5.trans k.frames, h6.trans k.phi,
    (h.regs _ hl).trans k.slip, fun b hb => h.istat b (k.istat b hb)⟩

theorem setGrp (x : GroupSt) (h : coreOf x = ((grp s g).st, (grp s g).stopping, (grp s g).chg, a, (grp s g).frames +
    1, p, x.gap, x.faulted)) :
    RunsOn g a p s (setGrp g x s) := by
  simp only [coreOf, Prod.mk.injEq] at h
  obtain ⟨h1, h2, h3, h4, h5, h6, -⟩ := h
  have hx : grp (Machine.setGrp g x s) g = x := (grp_setGrp ..).trans (if_pos rfl)
  exact ⟨by rw [hx, h1], by rw [hx, h2], by rw [hx, h3], by rw [hx, h4], by rw [hx, h5], by rw [hx, h6], rfl, fun _ hb => hb⟩

/-- The outputs of the frame that starts leave its assignment. -/
theorem sent (k : RunsOn g a p s t) (hc : (grp s g).chg = []) (i : GroupIn) : RunsOn g a p s
    (txFrame g (chgApply g i t)) :=
  k.after (((GroupKept.refl g (l := groupRegs g) (fun _ h => h) t).chgApply i (k.chg.trans hc)).txFrame)

end RunsOn

/-- In an ASRC group the frame that starts belongs to the next MEDIA frame. -/
theorem reassign_asrc (h : gcfgMode (gcfg s g) = true) (slip : Bool) (phase : Nat) :
    RunsOn g (s.tb.frame + 1) (grp s g).phi0 s (reassign g slip phase s) := by
  unfold reassign
  dsimp only
  rw [if_pos h]
  exact .setGrp _ rfl

/-- After a slip the assignment is taken afresh (log entry 34). -/
theorem reassign_slip (h : gcfgMode (gcfg s g) = false) (phase : Nat) :
    RunsOn g (s.tb.frame + 1) phase s (reassign g true phase s) := by
  have hne : ∀ g : Fin 4, aPORTG_SLIP_CNT g ≠ aPORTG_ALIGN g ∧ aISTAT (pgPORTG g) ≠ aPORTG_ALIGN g := by decide
  unfold reassign
  dsimp only
  rw [if_neg (by simp [h]), if_pos rfl]
  have k : RunsOn g (s.tb.frame + 1) phase s
      (setGrp g { grp s g with asg := s.tb.frame + 1, frames := (grp s g).frames + 1, phi0 := phase, gap := false }
        s) := .setGrp _ rfl
  generalize setGrp g _ s = u at k
  exact ⟨k.st, k.stopping, k.chg, k.asg, k.frames, k.phi, (rget_rset_ne _ _ (hne g).1).trans k.slip, fun b hb => by
    rw [rbit, rput, rget_rset_ne _ _ (hne g).2]
    exact k.istat b hb⟩

/-- A frame that starts where the first one did belongs to the next MEDIA frame in its row. -/
theorem reassign_steady (h : gcfgMode (gcfg s g) = false) (hn : 0 < framePeriods s g) :
    RunsOn g ((grp s g).asg + 1) (grp s g).phi0 s (reassign g false (grp s g).phi0 s) := by
  unfold reassign
  dsimp only
  have hz : ((((grp s g).phi0 : Int) - (grp s g).phi0) % (framePeriods s g : Int)) = 0 := by rw
      [Int.sub_self, Int.zero_emod]
  rw [if_neg (by simp [h]), if_neg Bool.false_ne_true, hz, if_neg (by omega), if_neg (by omega)]
  exact .setGrp _ rfl

theorem settleStop_of_running (h : (grp s g).stopping = false) : settleStop g s = s := if_neg fun hc => by simp [h]
    at hc

variable {s : State} {g : Fin 4} {i : GroupIn}

/-! ### O43: frames in RUN -/

theorem within_slipNoted (g : Fin 4) (i : GroupIn) (s : State) :
    Within [.regs, .ports] (· ∈ [aPORTG_SLIP_CNT g, aISTAT (pgPORTG g)]) s (slipNoted g i s) := by
  have h1 : Within [.regs, .ports] (· ∈ [aPORTG_SLIP_CNT g, aISTAT (pgPORTG g)]) s
      (setGrp g { grp s g with glitches := glitchesNow g i s } s) :=
    ⟨fun p hp => by cases p <;> first | rfl | exact absurd (by decide) hp, fun _ _ => rfl⟩
  exact .ite ((h1.cnt 1 (by decide) (by simp)).iset 2 (by decide) (by simp)) h1

theorem gcfg_not_slip : ∀ g : Fin 4, aPORTG_GCFG g ∉ [aPORTG_SLIP_CNT g, aISTAT (pgPORTG g)] := by decide

theorem gcfg_slipNoted (g : Fin 4) (i : GroupIn) (s : State) : gcfg (slipNoted g i s) g = gcfg s g :=
  (within_slipNoted g i s).2 _ (gcfg_not_slip g)

theorem gcfg_of_kept {t : State} (h : GroupKept g (groupRegs g) (slipNoted g i s) t) : gcfg t g = gcfg s g :=
  (h.regs _ (by simp [groupRegs])).trans (gcfg_slipNoted g i s)

theorem rateOk_congr {t : State} (hg : gcfg t g = gcfg s g) (hc : t.clk = s.clk) (r : Nat) : rateOk t g r = rateOk s
    g r := by
  unfold rateOk fs
  rw [hg, hc]

theorem framePeriods_congr {t : State} (hg : gcfg t g = gcfg s g) : framePeriods t g = framePeriods s g := by
  unfold framePeriods
  rw [hg]

theorem rateOk_frameTaken (g : Fin 4) (i : GroupIn) (s : State) (r : Nat) : rateOk (frameTaken g i s) g r = rateOk s
    g r :=
  have h := kept_frameTaken g i s
  rateOk_congr (gcfg_of_kept h) (h.clk.trans ((within_slipNoted g i s).1 .clk (by decide))) r

/-- A frame that neither ends the run nor meets stopped frame ticks: the next one is assigned and sent. -/
theorem runFrame_goesOn (hgl : ¬ (slips g i s = true ∧ 8 < (glitchesNow g i s).length ∧ usesDec s = false))
    (hrate : usesDec s = true ∨ (if gcfgMode (gcfg s g) then rateOk s g i.rate = true else offRate g i s = false))
    (ht : gcfgMode (gcfg s g) = true ∨ ticksStopped s = false) :
    runFrame g i s =
      txFrame g (chgApply g i (reassign g (slips g i s || (grp (rateTracked g i s) g).gap) i.phase.toNat
        (rateTracked g i s))) := by
  have hm : ¬ (¬ usesDec s = true ∧ (if gcfgMode (gcfg s g) = true then ¬ rateOk (frameTaken g i s) g i.rate = true
      else offRate g i s = true)) := by
    rintro ⟨hd, hr⟩
    have h := hrate.resolve_left hd
    rw [rateOk_frameTaken] at hr
    by_cases hc : gcfgMode (gcfg s g) = true
    · rw [if_pos hc] at h hr
      exact hr h
    · rw [if_neg hc] at h hr
      exact absurd hr (by simp [h])
  have hs : (ticksStopped s && !gcfgMode (gcfg s g)) = false := by
    rcases ht with h | h <;> simp [h]
  rw [runFrame_eq, if_neg (fun h => hgl ⟨h.1, h.2.1, by simpa using h.2.2⟩), if_neg hm, hs]
  rfl

theorem chg_rateTracked (hchg : (grp s g).chg = []) : (grp (rateTracked g i s) g).chg = [] ∧
    (grp (rateTracked g i s) g).phi0 = (grp s g).phi0 ∧
    (grp (rateTracked g i s) g).gap = (grp s g).gap ∧ (grp (rateTracked g i s) g).asg = (grp s g).asg := by
  have h := (kept_rateTracked g i s).core
  simp only [coreOf, Prod.mk.injEq, core_slipNoted] at h
  obtain ⟨-, -, h3, h4, -, h6, h7, -⟩ := h
  exact ⟨h3.trans hchg, h6, h7, h4⟩

section
variable (hgl : ¬ (slips g i s = true ∧ 8 < (glitchesNow g i s).length ∧ usesDec s = false)) (hchg : (grp s g).chg = [])
include hgl hchg

/-- A frame of an ASRC group. -/
theorem runFrame_asrc (hm : gcfgMode (gcfg s g) = true) (hr : rateOk s g i.rate = true) :
    RunsOn g (s.tb.frame + 1) (grp s g).phi0 (slipNoted g i s) (runFrame g i s) := by
  obtain ⟨hc, hp, -⟩ := chg_rateTracked hchg
  have hk := kept_rateTracked g i s
  have htb : (rateTracked g i s).tb = s.tb := hk.tb.trans ((within_slipNoted g i s).1 .tb (by decide))
  have hrun := reassign_asrc (s := rateTracked g i s) (g := g) ((congrArg gcfgMode (gcfg_of_kept hk)).trans hm)
    (slips g i s || (grp (rateTracked g i s) g).gap) i.phase.toNat
  rw [runFrame_goesOn hgl (.inr (by rw [if_pos hm]; exact hr)) (.inl hm)]
  rw [htb, hp] at hrun
  exact (hrun.sent hc i).before hk

section
variable (hm : gcfgMode (gcfg s g) = false) (hr : offRate g i s = false) (ht : ticksStopped s = false)
include hm hr ht

/-- A slip of a SYNC group. -/
theorem runFrame_slip (hs : slips g i s = true) :
    RunsOn g (s.tb.frame + 1) i.phase.toNat (slipNoted g i s) (runFrame g i s) := by
  obtain ⟨hc, -⟩ := chg_rateTracked hchg
  have hk := kept_rateTracked g i s
  have htb : (rateTracked g i s).tb = s.tb := hk.tb.trans ((within_slipNoted g i s).1 .tb (by decide))
  have hrun := reassign_slip (s := rateTracked g i s) (g := g) ((congrArg gcfgMode (gcfg_of_kept hk)).trans hm)
      i.phase.toNat
  rw [runFrame_goesOn hgl (.inr (by rw [if_neg (by simp [hm])]; exact hr)) (.inr ht), hs, Bool.true_or]
  rw [htb] at hrun
  exact (hrun.sent hc i).before hk

/-- A steady frame of a SYNC group. -/
theorem runFrame_steady (hs : slips g i s = false) (hgap : (grp s g).gap = false) (hp : i.phase.toNat = (grp s g).phi0)
    (hn : 0 < framePeriods s g) : RunsOn g ((grp s g).asg + 1) (grp s g).phi0 (slipNoted g i s) (runFrame g i s) := by
  obtain ⟨hc, hphi, hg, ha⟩ := chg_rateTracked hchg
  have hk := kept_rateTracked g i s
  have hcfg := gcfg_of_kept hk
  have hrun := reassign_steady (s := rateTracked g i s) (g := g) ((congrArg gcfgMode hcfg).trans hm)
    (by rw [framePeriods_congr hcfg]; exact hn)
  rw [runFrame_goesOn hgl (.inr (by rw [if_neg (by simp [hm])]; exact hr)) (.inr ht), hs, hg, hgap, hp, Bool.or_false]
  rw [hphi, ha] at hrun
  exact (hrun.sent hc i).before hk

end
end

/-! ### O43: a group leaves RUN -/

/-- A group that stops is OFF. -/
theorem grp_groupOff_same (g : Fin 4) (s : State) : (grp (groupOff g s) g).st = .off ∧ (grp (groupOff g s) g).sdo = [] ∧
    (grp (groupOff g s) g).fade = (grp s g).fade := by
  unfold groupOff
  dsimp only
  rw [grp_rset, grp_congr (ports_asrcUnlock _ _), grp_setGrp, if_pos rfl]
  exact ⟨rfl, rfl, rfl⟩

theorem seqOff_all (l : List ChanSeq) : (l.map seqOff).all (fun c => c.st == .off) = true := by
  simp [seqOff]

/-- What a group is when it leaves RUN, QUALIFY or MISMATCH for a clock fault. -/
theorem grp_leaveRun_same (g : Fin 4) (st : GState) (s : State) :
    (grp (leaveRun g st s) g).st = (if (grp s g).stopping then .off else st) ∧
      (grp (leaveRun g st s) g).fade = (if (grp s g).st = .run then some s.tb.frame else (grp s g).fade) ∧
      ((grp s g).stopping = false → (grp (leaveRun g st s) g).qual = 0 ∧ (grp (leaveRun g st s) g).stopping = false)
        ∧ (st = .stopped → (grp (leaveRun g st s) g).sdo = []) := by
  have hdrop : grp (dropChanges g s) g = { grp s g with chg := [] } := (grp_dropChanges g g s).trans (if_pos rfl)
  have htb : (dropChanges g s).tb = s.tb := ((Settles.refl leaveParts (· ∈ leaveRegs g) s).dropChanges
      (g := g)).within.1 .tb (by decide)
  unfold leaveRun
  dsimp only
  rw [hdrop, htb]
  dsimp only
  generalize hy : ({ grp s g with
    chg := [], st := st, qual := 0, faulted := true, retrack := false, rateFar := false, badClk := false
    fade := _, last := _, carried := _, seqs := _, sdo := _ } : GroupSt) = y
  have hu : grp (rput (aPORTG_ALIGN g) 31 30 0 (asrcUnlock g (setGrp g y (dropChanges g s)))) g = y := by
    rw [rput, grp_rset, grp_congr (ports_asrcUnlock _ _), grp_setGrp, if_pos rfl]
  generalize rput _ _ _ _ _ = u at hu
  have hoff : y.seqs.all (fun c => c.st == .off) = true := by rw [← hy]; exact seqOff_all _
  have hf : y.fade = if (grp s g).st = .run then some s.tb.frame else (grp s g).fade := by rw [← hy]; simp
  have hst : y.stopping = (grp s g).stopping ∧ y.st = st ∧ y.qual = 0 ∧ (st = .stopped → y.sdo = []) := by
    rw [← hy]
    exact ⟨rfl, rfl, rfl, fun h => if_pos h⟩
  obtain ⟨h1, h2, h3, h4⟩ := hst
  cases hs : (grp s g).stopping with
  | true =>
    have hset : settleStop g u = groupOff g u := if_pos ⟨by rw [hu, h1, hs], by rw [hu]; exact hoff⟩
    obtain ⟨k1, k2, k3⟩ := grp_groupOff_same g u
    rw [hset]
    exact ⟨k1, by rw [k3, hu, hf], fun h => absurd h (by simp), fun _ => k2⟩
  | false =>
    rw [settleStop_of_running (by rw [hu, h1, hs]), hu]
    exact ⟨h2, hf, fun _ => ⟨h3, h1.trans hs⟩, h4⟩

/-- A slip too many ends the run. -/
theorem runFrame_requalifies (hs : slips g i s = true) (hn : 8 < (glitchesNow g i s).length) (hd : usesDec s = false) :
    runFrame g i s = leaveRun g .qualify (slipNoted g i s) := by
  rw [runFrame_eq, if_pos ⟨hs, hn, by simp [hd]⟩]

/-- A rate out of tolerance ends the run. -/
theorem runFrame_mismatch (hs : slips g i s = false) (hd : usesDec s = false)
    (hr : if gcfgMode (gcfg s g) then rateOk s g i.rate = false else offRate g i s = true) :
    runFrame g i s = enterMismatch g (rateNoted g i s) := by
  rw [runFrame_eq, if_neg (fun h => by simp [hs] at h), if_pos]
  refine ⟨by simp [hd], ?_⟩
  rw [rateOk_frameTaken]
  by_cases hc : gcfgMode (gcfg s g) = true
  · rw [if_pos hc] at hr ⊢
    simp [hr]
  · rw [if_neg hc] at hr ⊢
    exact hr

variable {s : State} {g : Fin 4} {i : GroupIn}

/-! ### O43: the group frame -/

/-- A group frame has been measured. -/
def frameMeasured (g : Fin 4) (i : GroupIn) (s : State) : State := rset (aPORTG_RATE_MEAS g) (w32 i.rate)
    (advance i.t s)

theorem within_frameMeasured (g : Fin 4) (i : GroupIn) (s : State) :
    Within [.now, .ptp, .regs] (· = aPORTG_RATE_MEAS g) s (frameMeasured g i s) :=
  ((within_advance i.t s).mono (by decide) fun _ => False.elim).rset _ (by decide) rfl

theorem canonical_frameMeasured (hs : Canonical s) (g : Fin 4) (i : GroupIn) : Canonical (frameMeasured g i s) :=
  ((Tidy.advance (s := s) ⟨rfl, fun h => h⟩ i.t).rset _ _ : Tidy s.pending (Canonical s) _).2 hs

theorem rateMeas_ne : ∀ g : Fin 4, aPORTG_GCFG g ≠ aPORTG_RATE_MEAS g ∧ aPORTG_SLIP_CNT g ≠ aPORTG_RATE_MEAS g ∧
    aERRCAP (pgPORTG g) ≠ aPORTG_RATE_MEAS g ∧ aERRADDR (pgPORTG g) ≠ aPORTG_RATE_MEAS g ∧
    (∀ m < 8, aPORTG_PORT g m ≠ aPORTG_RATE_MEAS g) := by decide

/-- What the measurement leaves of all that a group frame goes by. -/
theorem frameMeasured_same (g : Fin 4) (i : GroupIn) (s : State) :
    grp (frameMeasured g i s) g = grp s g ∧ gcfg (frameMeasured g i s) g = gcfg s g ∧ (frameMeasured g i s).tb = s.tb ∧
      (frameMeasured g i s).clk = s.clk ∧ (frameMeasured g i s).twin = s.twin := by
  have h := within_frameMeasured g i s
  exact ⟨grp_congr (h.1 .ports
    (by decide)) g, h.2 _ (rateMeas_ne g).1, h.1 .tb (by decide), h.1 .clk (by decide), h.1 .twin (by decide)⟩

theorem usesDec_congr {t : State} (h : t.twin = s.twin) : usesDec t = usesDec s := by
  unfold usesDec followsTwin
  rw [h]

theorem ticksStopped_congr {t : State} (h : t.clk = s.clk) : ticksStopped t = ticksStopped s := by
  unfold ticksStopped
  rw [h]

theorem offRate_congr {t : State} (h : grp t g = grp s g) : offRate g i t = offRate g i s := by
  unfold offRate
  rw [h]

theorem slips_congr {t : State} (h : gcfg t g = gcfg s g) : slips g i t = slips g i s := by
  unfold slips
  rw [framePeriods_congr h]

theorem isAes_frameMeasured (g : Fin 4) (i : GroupIn) (s : State) {m : Nat} (hm : m < 8) :
    portWord (frameMeasured g i s) g m = portWord s g m ∧ portSlots (frameMeasured g i s) g m = portSlots s g m := by
  have hw : portWord (frameMeasured g i s) g m = portWord s g m := (within_frameMeasured g i s).2 _
      ((rateMeas_ne g).2.2.2.2 m hm)
  refine ⟨hw, ?_⟩
  unfold portSlots isAes
  rw [hw, (frameMeasured_same g i s).2.1]

theorem zeroSdo_frameMeasured (g : Fin 4) (i : GroupIn) (s : State) : zeroSdo (frameMeasured g i s) g = zeroSdo s
    g := by
  unfold zeroSdo
  refine List.flatMap_congr fun m hm => ?_
  obtain ⟨h1, h2⟩ := isAes_frameMeasured g i s (List.mem_range.1 hm)
  rw [h1, h2]

/-- With no write that waits for the frame, a group frame is measured and taken. -/
theorem groupTick_eq (h : noneLands s g) (i : GroupIn) : groupTick g i s = groupFrame g i s := by
  have hkeep : (s.landNext.filter fun x => !landsAt (some g) s x) = s.landNext := by
    rw [List.filter_eq_self]
    intro x hx
    have hno := List.filter_eq_nil_iff.1 h x hx
    simpa using hno
  unfold groupTick landWaiting
  rw [h, hkeep]
  rfl

theorem noneLands_of_idle (h : (grp s g).st ≠ .run ∧ (grp s g).st ≠ .qualify) : noneLands s g := by
  unfold noneLands
  rw [List.filter_eq_nil_iff]
  intro x _ hx
  unfold landsAt at hx
  dsimp only at hx
  split at hx
  · split at hx
    · next hr =>
      simp only [beq_iff_eq, Option.some.injEq] at hx
      subst hx
      exact hr.elim h.1 h.2
    · exact absurd hx (by simp)
  · exact absurd hx (by simp)

theorem st_frameMeasured {st : GState} (h : (grp s g).st = st) :
    (grp (rset (aPORTG_RATE_MEAS g) (w32 i.rate) (advance i.t s)) g).st = st :=
  (congrArg GroupSt.st (frameMeasured_same g i s).1).trans h

theorem groupFrame_run (h : (grp s g).st = .run) : groupFrame g i s = settleStop g
    (runFrame g i (frameMeasured g i s)) := by
  unfold groupFrame frameMeasured
  dsimp only
  simp only [st_frameMeasured h]

theorem groupFrame_idle (h : (grp s g).st = .off ∨ (grp s g).st = .stopped) : groupFrame g i s = frameMeasured g i
    s := by
  unfold groupFrame frameMeasured
  dsimp only
  rcases h with h | h <;> simp only [st_frameMeasured h]

/-- The group in QUALIFY behind a frame. -/
def qualified (g : Fin 4) (i : GroupIn) (s : State) : GroupSt :=
  { grp s g with
    qual := if decide (i.bits = framePeriods s g) && rateOk s g i.rate && bclkOk s g then min 64 ((grp s g).qual + 1)
      else 0
    badClk := !bclkOk s g, sdo := zeroSdo s g }

theorem groupFrame_qualify (h : (grp s g).st = .qualify) : groupFrame g i s =
    setGrp g (qualified g i (frameMeasured g i s)) (if bclkOk (frameMeasured g i s) g ||
      (grp (frameMeasured g i s) g).badClk then
      frameMeasured g i s else errcap (pgPORTG g) 3 0 (frameMeasured g i s)) := by
  have hg := st_frameMeasured (i := i) h
  unfold groupFrame
  dsimp only
  split
  · next hx => exact absurd (hg.symm.trans hx) (by decide)
  · next hx => exact absurd (hg.symm.trans hx) (by decide)
  · next hx => exact absurd (hg.symm.trans hx) (by decide)
  · rfl
  · next hx => exact absurd (hg.symm.trans hx) (by decide)

/-- The group in MISMATCH behind a frame. -/
def requalified (g : Fin 4) (i : GroupIn) (s : State) : GroupSt :=
  if rateOk s g i.rate ∧ ¬ usesDec s then
    { grp s g with sdo := zeroSdo s g, st := .qualify, qual := 0, rateBad := false }
  else { grp s g with sdo := zeroSdo s g }

theorem groupFrame_mismatch (h : (grp s g).st = .mismatch) : groupFrame g i s =
    setGrp g (requalified g i (frameMeasured g i s)) (frameMeasured g i s) := by
  have hg := st_frameMeasured (i := i) h
  unfold groupFrame
  dsimp only
  split
  · next hx => exact absurd (hg.symm.trans hx) (by decide)
  · next hx => exact absurd (hg.symm.trans hx) (by decide)
  · next hx => exact absurd (hg.symm.trans hx) (by decide)
  · next hx => exact absurd (hg.symm.trans hx) (by decide)
  · rfl

/-- What a frame of a group that runs on leaves. -/
theorem groupFrame_runsOn {a p : Nat} (h : runsQuietly s g)
    (k : RunsOn g a p (slipNoted g i (frameMeasured g i s)) (runFrame g i (frameMeasured g i s))) :
    (groupTick g i s) = runFrame g i (frameMeasured g i s) ∧ (grp (groupTick g i s) g).st = .run ∧
      (grp (groupTick g i s) g).asg = a ∧ (grp (groupTick g i s) g).frames = (grp s g).frames + 1 ∧
      (grp (groupTick g i s) g).phi0 = p := by
  obtain ⟨hst, hstop, -, hland⟩ := h
  have hcore := core_slipNoted g i (frameMeasured g i s)
  rw [(frameMeasured_same g i s).1] at hcore
  have hrun : groupTick g i s = runFrame g i (frameMeasured g i s) := by
    rw [groupTick_eq hland, groupFrame_run hst, settleStop_of_running]
    rw [k.stopping, hcore]
    exact hstop
  rw [hrun]
  exact ⟨rfl, k.st.trans (by rw [hcore]; exact hst), k.asg, k.frames.trans (by rw [hcore]), k.phi⟩

theorem nearRef_iff {i : GroupIn} : nearRef s g i ↔ offRate g i s = false := by
  unfold nearRef offRate
  rw [Bool.or_eq_false_iff, decide_eq_false_iff_not, decide_eq_false_iff_not]
  omega

theorem slips_iff {i : GroupIn} : slips g i s = false ↔ i.bits = framePeriods s g := by
  simp [slips]

theorem glitchesNow_length (hs : slips g i s = true) : (glitchesNow g i s).length = recentGlitches s g + 1 := by
  unfold glitchesNow recentGlitches
  rw [if_pos hs]
  rfl

/-- The count of slips and its interrupt bit behind a frame that slips and runs on. -/
theorem slip_counted {a p : Nat} {t : State} (hs : Canonical s) (hsl : slips g i (frameMeasured g i s) = true)
    (k : RunsOn g a p (slipNoted g i (frameMeasured g i s)) t) :
    rget t (aPORTG_SLIP_CNT g) = rget s (aPORTG_SLIP_CNT g) + 1 ∧ rbit t (aISTAT (pgPORTG g)) 2 = true := by
  have hpg : pgPORTG g < 64 := by unfold pgPORTG; omega
  have hne : ∀ g : Fin 4, aPORTG_SLIP_CNT g ≠ aISTAT (pgPORTG g) := by decide
  have hnote : slipNoted g i (frameMeasured g i s) = iset (pgPORTG g) 2 (cnt (aPORTG_SLIP_CNT g)
      (setGrp g { grp (frameMeasured g i s) g with glitches := glitchesNow g i (frameMeasured g i s) }
        (frameMeasured g i s))) := if_pos hsl
  refine ⟨?_, k.istat 2 (by rw [hnote]; exact rbit_iset_any ⟨pgPORTG g, hpg⟩ (by decide) _)⟩
  rw [k.slip, hnote, rget_iset_ne _ _ _ (hne g), cnt]
  have hw : spWf resetWord (setGrp g
      { grp (frameMeasured g i s) g with glitches := glitchesNow g i (frameMeasured g i s) }
      (frameMeasured g i s)).regs = true := (canonical_frameMeasured hs g i).1
  have hm : rget (setGrp g { grp (frameMeasured g i s) g with glitches := glitchesNow g i (frameMeasured g i s) }
      (frameMeasured g i s))
      (aPORTG_SLIP_CNT g) = rget s (aPORTG_SLIP_CNT g) := (within_frameMeasured g i s).2 _ (rateMeas_ne g).2.1
  rw [rget_rset_same hw, hm]
  rfl

/-- A running group that leaves RUN with its frame. -/
theorem groupFrame_leaves {st : GState} {u : State} (hq : runsQuietly s g)
    (hrun : runFrame g i (frameMeasured g i s) = leaveRun g st u) (hst : (grp u g).st = (grp s g).st)
    (hstop : (grp u g).stopping = (grp s g).stopping) (htb : u.tb = s.tb) :
    (grp (groupTick g i s) g).st = st ∧ (grp (groupTick g i s) g).qual = 0 ∧ (grp (groupTick g i s) g).fade = some
      s.tb.frame := by
  obtain ⟨hr, hs, -, hland⟩ := hq
  obtain ⟨k1, k2, k3, -⟩ := grp_leaveRun_same g st u
  obtain ⟨k4, k5⟩ := k3 (hstop.trans hs)
  rw [groupTick_eq hland, groupFrame_run hr, hrun, settleStop_of_running k5]
  refine ⟨k1.trans (if_neg (by simp [hstop, hs])), k4, k2.trans ?_⟩
  rw [if_pos (hst.trans hr), htb]

section
variable (hl : Live s)
include hl

/-- O43, a steady frame. -/
theorem groupFrame_steady (h : steadyFrame s g i) : Runs (.groupFrame g i) s fun t => (grp t g).st = .run ∧
    (grp t g).asg = (grp s g).asg + 1 ∧ (grp t g).frames = (grp s g).frames + 1 ∧ (grp t g).phi0 = (grp s g).phi0 := by
  obtain ⟨hq, hm, hgap, ht, hb, hp, hn, hr⟩ := h
  obtain ⟨h1, h2, h3, h4, h5⟩ := frameMeasured_same g i s
  have hs : slips g i (frameMeasured g i s) = false := (slips_congr h2).trans (slips_iff.2 hb)
  have hrun := runFrame_steady (s := frameMeasured g i s) (fun h => by simp [hs] at h) (by rw [h1]; exact hq.2.2.1)
      (by rw [h2]; exact hm)
    ((offRate_congr h1).trans (nearRef_iff.1 hr)) ((ticksStopped_congr h4).trans ht) hs (by rw [h1]; exact hgap)
      (by rw [h1]; exact hp)
    (by rw [framePeriods_congr h2]; exact hn)
  rw [h1] at hrun
  obtain ⟨-, k1, k2, k3, k4⟩ := groupFrame_runsOn hq hrun
  exact runs_awake hl rfl ⟨k1, k2, k3, k4⟩

/-- O43, a frame of an ASRC group. -/
theorem groupFrame_asrc (hq : runsQuietly s g) (hm : gcfgMode (gcfg s g) = true) (hb : i.bits = framePeriods s g)
    (hr : rateOk s g i.rate = true) : Runs (.groupFrame g i) s fun t => (grp t g).st = .run ∧
      (grp t g).asg = s.tb.frame + 1 ∧ (grp t g).frames = (grp s g).frames + 1 := by
  obtain ⟨h1, h2, h3, h4, h5⟩ := frameMeasured_same g i s
  have hs : slips g i (frameMeasured g i s) = false := (slips_congr h2).trans (slips_iff.2 hb)
  have hrun := runFrame_asrc (s := frameMeasured g i s) (g := g) (fun h => by simp [hs] at h)
      (by rw [h1]; exact hq.2.2.1)
    (by rw [h2]; exact hm) ((rateOk_congr h2 h4 _).trans hr)
  rw [h3] at hrun
  obtain ⟨-, k1, k2, k3, -⟩ := groupFrame_runsOn hq hrun
  exact runs_awake hl rfl ⟨k1, k2, k3⟩

/-- O43, a frame that slips. -/
theorem groupFrame_slip (hs : Canonical s) (hq : runsQuietly s g) (hb : i.bits ≠ framePeriods s g)
    (hr : if gcfgMode (gcfg s g) then rateOk s g i.rate = true else nearRef s g i ∧ ticksStopped s = false) :
    (recentGlitches s g < 8 ∨ usesDec s = true →
      Runs (.groupFrame g i) s fun t => (grp t g).st = .run ∧ (grp t g).asg = s.tb.frame + 1 ∧
        rget t (aPORTG_SLIP_CNT g) = rget s (aPORTG_SLIP_CNT g) + 1 ∧ rbit t (aISTAT (pgPORTG g)) 2 = true) ∧
    (8 ≤ recentGlitches s g → usesDec s = false →
      Runs (.groupFrame g i) s fun t => (grp t g).st = .qualify ∧ (grp t g).qual = 0 ∧ (grp t g).fade = some
        s.tb.frame) := by
  obtain ⟨h1, h2, h3, h4, h5⟩ := frameMeasured_same g i s
  have hsl : slips g i (frameMeasured g i s) = true := by
    rw [slips_congr h2]
    simpa [slips] using hb
  have hlen : (glitchesNow g i (frameMeasured g i s)).length = recentGlitches s g + 1 := by
    rw [glitchesNow_length hsl]
    unfold recentGlitches
    rw [h1]
  have hdec := usesDec_congr h5
  refine ⟨fun hfew => ?_, fun hmany hd => ?_⟩
  · have hgl : ¬ (slips g i (frameMeasured g i s) = true ∧ 8 < (glitchesNow g i (frameMeasured g i s)).length ∧
        usesDec (frameMeasured g i s) = false) := by
      rintro ⟨-, hlt, hd⟩
      rw [hlen] at hlt
      rw [hdec] at hd
      rcases hfew with hf | hf
      · omega
      · exact absurd hd (by simp [hf])
    have hchg : (grp (frameMeasured g i s) g).chg = [] := by rw [h1]; exact hq.2.2.1
    have hrun : ∃ p, RunsOn g (s.tb.frame + 1) p (slipNoted g i (frameMeasured g i s))
        (runFrame g i (frameMeasured g i s)) := by
      rw [← h3]
      by_cases hm : gcfgMode (gcfg s g) = true
      · rw [if_pos hm] at hr
        exact ⟨_, runFrame_asrc hgl hchg (by rw [h2]; exact hm) ((rateOk_congr h2 h4 _).trans hr)⟩
      · rw [if_neg hm] at hr
        exact ⟨_, runFrame_slip hgl hchg (by rw [h2]; simpa using hm) ((offRate_congr h1).trans (nearRef_iff.1 hr.1))
          ((ticksStopped_congr h4).trans hr.2) hsl⟩
    obtain ⟨p, hrun⟩ := hrun
    obtain ⟨he, k1, k2, -⟩ := groupFrame_runsOn hq hrun
    obtain ⟨k3, k4⟩ := slip_counted hs hsl hrun
    rw [← he] at k3 k4
    exact runs_awake hl rfl ⟨k1, k2, k3, k4⟩
  · have hrun := runFrame_requalifies (s := frameMeasured g i s) hsl (by omega) (hdec.trans hd)
    have hcore := core_slipNoted g i (frameMeasured g i s)
    have htb : (slipNoted g i (frameMeasured g i s)).tb = s.tb := Eq.trans
        ((within_slipNoted g i _).1 .tb (by decide)) h3
    obtain ⟨k1, k2, k3⟩ := groupFrame_leaves hq hrun (by rw [hcore, h1]) (by rw [hcore, h1]) htb
    exact runs_awake hl rfl ⟨k1, k2, k3⟩

/-- O43, a rate out of tolerance. -/
theorem groupFrame_farRate (hq : runsQuietly s g) (hd : usesDec s = false) (hb : i.bits = framePeriods s g)
    (hr : if gcfgMode (gcfg s g) then rateOk s g i.rate = false else ¬ nearRef s g i) :
    Runs (.groupFrame g i) s fun t => (grp t g).st = .mismatch ∧ (grp t g).fade = some s.tb.frame := by
  obtain ⟨h1, h2, h3, h4, h5⟩ := frameMeasured_same g i s
  have hsl : slips g i (frameMeasured g i s) = false := (slips_congr h2).trans (slips_iff.2 hb)
  have hrate : if gcfgMode (gcfg (frameMeasured g i s) g) then rateOk (frameMeasured g i s) g i.rate = false
      else offRate g i (frameMeasured g i s) = true := by
    rw [h2, rateOk_congr h2 h4, offRate_congr h1]
    by_cases hm : gcfgMode (gcfg s g) = true
    · rw [if_pos hm] at hr ⊢
      exact hr
    · rw [if_neg hm] at hr ⊢
      rw [nearRef_iff] at hr
      simpa using hr
  have hrun := runFrame_mismatch (s := frameMeasured g i s) hsl ((usesDec_congr h5).trans hd) hrate
  have hk := kept_rateNoted g i (frameMeasured g i s)
  have hc := hk.core
  simp only [coreOf, Prod.mk.injEq, core_slipNoted] at hc
  obtain ⟨hst, hstop, -⟩ := hc
  have htb : (rateNoted g i (frameMeasured g i s)).tb = s.tb := hk.tb.trans
      (Eq.trans ((within_slipNoted g i _).1 .tb (by decide)) h3)
  unfold enterMismatch at hrun
  have hx : grp (setGrp g { grp (rateNoted g i (frameMeasured g i s)) g with rateBad := true }
      (rateNoted g i (frameMeasured g i s))) g =
      { grp (rateNoted g i (frameMeasured g i s)) g with rateBad := true } := (grp_setGrp ..).trans (if_pos rfl)
  obtain ⟨k1, -, k3⟩ := groupFrame_leaves hq hrun (by rw [hx]; exact hst.trans (by rw [h1]))
    (by rw [hx]; exact hstop.trans (by rw [h1])) htb
  exact runs_awake hl rfl ⟨k1, k3⟩

end

variable {s : State} {g : Fin 4} {i : GroupIn}

/-! ### O43: QUALIFY, OFF, STOPPED and MISMATCH -/

theorem bclkOk_congr {t : State} (hg : gcfg t g = gcfg s g) (hr : rget t (aPORTG_RATE_MEAS g) = rget s
    (aPORTG_RATE_MEAS g))
    (hc : t.clk = s.clk) (ha : ∀ m < 8, portWord t 3 m = portWord s 3 m) : bclkOk t g = bclkOk s g := by
  have hany : anyAes t g = anyAes s g := by
    have hl : (List.range 8).any (fun m => isAes t 3 m) = (List.range 8).any fun m => isAes s 3 m := by
      rw [Bool.eq_iff_iff, List.any_eq_true, List.any_eq_true]
      refine exists_congr fun m => and_congr_right fun hm => ?_
      unfold isAes
      rw [ha m (List.mem_range.1 hm)]
    unfold anyAes
    rw [hl]
  unfold bclkOk frameRate256 fs
  rw [hany, framePeriods_congr hg, hg, hr, hc]

theorem measRegs_ne_err : ∀ g : Fin 4, ∀ a ∈ [aPORTG_GCFG g, aPORTG_RATE_MEAS g] ++ (List.range 8).map (aPORTG_PORT 3),
    a ≠ aERRCAP (pgPORTG g) ∧ a ≠ aERRADDR (pgPORTG g) := by decide

/-- A capture of the group's page leaves what its bit clock is judged by. -/
theorem bclkOk_errcap (g : Fin 4) (code a : Nat) (s : State) : bclkOk (errcap (pgPORTG g) code a s) g = bclkOk s g := by
  have hw : Within [.regs] (· ∈ [aERRCAP (pgPORTG g), aERRADDR (pgPORTG g)]) s (errcap (pgPORTG g) code a s) :=
    (Within.refl ..).errcap _ _ (by decide) (by simp) (by simp)
  have hr (b : Nat) (hb : b ∈ [aPORTG_GCFG g, aPORTG_RATE_MEAS g] ++ (List.range 8).map (aPORTG_PORT 3)) :
      rget (errcap (pgPORTG g) code a s) b = rget s b := hw.2 b (by simpa using measRegs_ne_err g b hb)
  exact bclkOk_congr (hr _ (by simp)) (hr _ (by simp)) (hw.1 .clk (by decide)) fun m hm =>
    hr _ (List.mem_append_right _ (List.mem_map_of_mem (List.mem_range.2 hm)))

theorem rget_frameMeasured (hs : Canonical s) (g : Fin 4) (i : GroupIn) :
    rget (frameMeasured g i s) (aPORTG_RATE_MEAS g) = w32 i.rate :=
  rget_rset_same ((Tidy.advance (s := s) ⟨rfl, fun h => h⟩ i.t : Tidy s.pending (Canonical s) _).2 hs).1 ..

/-- A frame in QUALIFY. -/
theorem groupFrame_inQualify (hs : Canonical s) (hl : Live s) (hland : noneLands s g) (hst : (grp s g).st = .qualify) :
    Runs (.groupFrame g i) s fun t => (grp t g).st = .qualify ∧ rget t (aPORTG_RATE_MEAS g) = w32 i.rate ∧
      (grp t g).sdo = zeroSdo s g ∧ (bclkOk t g = false → (grp s g).badClk = false → captured 3 (pgPORTG g) 0 s t) ∧
      (grp t g).qual =
        (if i.bits = framePeriods s g ∧ rateOk s g i.rate = true ∧ bclkOk t g = true then min 64 ((grp s g).qual + 1)
          else 0) := by
  obtain ⟨h1, h2, h3, h4, h5⟩ := frameMeasured_same g i s
  obtain ⟨-, -, hcap, haddr, -⟩ := rateMeas_ne g
  have hrun : groupTick g i s = _ := (groupTick_eq hland i).trans (groupFrame_qualify hst)
  generalize hm : frameMeasured g i s = m at h1 h2 h3 h4 h5 hrun
  generalize hu : (if bclkOk m g || (grp m g).badClk then m else errcap (pgPORTG g) 3 0 m) = u at hrun
  have hgrp : grp (setGrp g (qualified g i m) u) g = qualified g i m := (grp_setGrp ..).trans (if_pos rfl)
  have hclk : bclkOk (setGrp g (qualified g i m) u) g = bclkOk m g := by
    have hsame : bclkOk u g = bclkOk m g := by
      rw [← hu]
      split
      · rfl
      · exact bclkOk_errcap ..
    exact hsame
  have hmeas : rget u (aPORTG_RATE_MEAS g) = w32 i.rate := by
    have h0 : rget m (aPORTG_RATE_MEAS g) = w32 i.rate := by rw [← hm]; exact rget_frameMeasured hs g i
    rw [← hu, ← h0]
    split
    · rfl
    · exact ((Within.refl [.regs] (· ∈ [aERRCAP (pgPORTG g), aERRADDR (pgPORTG g)]) m).errcap _ _ (by decide) (by simp)
        (by simp)).2 _ (by simpa using measRegs_ne_err g _ (by simp))
  have hfresh : bclkOk m g = false → (grp s g).badClk = false → captured 3 (pgPORTG g) 0 s
      (setGrp g (qualified g i m) u) := by
    intro hb hbad
    rw [h1, hb, hbad] at hu
    have hc := captured_errcap (s := m) (by rw [← hm]; exact (canonical_frameMeasured hs g i).1) 3 (pgPORTG g) 0
        (by decide)
    have hr (a : Nat) (ha : a ≠ aPORTG_RATE_MEAS g) : rget m a = rget s a := by
      rw [← hm]
      exact (within_frameMeasured g i s).2 a ha
    unfold captured rbit at hc ⊢
    rw [hr _ hcap, hr _ haddr] at hc
    rw [← hu]
    exact hc
  refine runs_awake hl rfl ?_
  rw [hrun, hgrp, hclk]
  refine ⟨(congrArg GroupSt.st h1).trans hst, hmeas, ?_, hfresh, ?_⟩
  · show zeroSdo m g = zeroSdo s g
    rw [← hm]
    exact zeroSdo_frameMeasured ..
  · unfold qualified
    rw [h1, framePeriods_congr h2, rateOk_congr h2 h4]
    simp only [Bool.and_eq_true, decide_eq_true_eq, and_assoc]

/-- A frame of a group that is OFF or STOPPED. -/
theorem groupFrame_inIdle (hs : Canonical s) (hl : Live s) (hst : (grp s g).st = .off ∨ (grp s g).st = .stopped) :
    Runs (.groupFrame g i) s fun t => KeepsBut [.now, .ptp, .regs] s t ∧ RegsOnly [aPORTG_RATE_MEAS g] s t ∧
      rget t (aPORTG_RATE_MEAS g) = w32 i.rate := by
  have hidle : (grp s g).st ≠ .run ∧ (grp s g).st ≠ .qualify := by rcases hst with h | h <;> rw [h] <;> decide
  have hrun : groupTick g i s = frameMeasured g i s := (groupTick_eq (noneLands_of_idle hidle) i).trans
      (groupFrame_idle hst)
  have hw := within_frameMeasured g i s
  refine runs_awake hl rfl ?_
  rw [hrun]
  exact ⟨hw.1, fun a ha => hw.2 a (by simpa using ha), rget_frameMeasured hs g i⟩

/-- A frame in MISMATCH. -/
theorem groupFrame_inMismatch (hl : Live s) (hst : (grp s g).st = .mismatch) :
    Runs (.groupFrame g i) s fun t => (grp t g).sdo = zeroSdo s g ∧
      (grp t g).st = (if rateOk s g i.rate ∧ ¬ usesDec s then .qualify else .mismatch) ∧
      (rateOk s g i.rate = true → usesDec s = false → (grp t g).qual = 0) ∧ KeepsBut [.now, .ptp, .regs, .ports] s
        t := by
  obtain ⟨h1, h2, h3, h4, h5⟩ := frameMeasured_same g i s
  have hz := zeroSdo_frameMeasured g i s
  have hidle : (grp s g).st ≠ .run ∧ (grp s g).st ≠ .qualify := by rw [hst]; decide
  have hrun : groupTick g i s = _ := (groupTick_eq (noneLands_of_idle hidle) i).trans (groupFrame_mismatch hst)
  have hw := within_frameMeasured g i s
  have hgrp : grp (groupTick g i s) g = requalified g i (frameMeasured g i s) := by
    rw [hrun]
    exact (grp_setGrp ..).trans (if_pos rfl)
  have hkeep : KeepsBut [.now, .ptp, .regs, .ports] s (groupTick g i s) := by
    rw [hrun]
    intro p hp
    refine Part.same.trans (hw.1 p fun hm => hp
      (by simp only [List.mem_cons, List.not_mem_nil, or_false] at hm ⊢; tauto)) ?_
    cases p <;> first | rfl | exact absurd (by decide) hp
  refine runs_awake hl rfl ?_
  unfold requalified at hgrp
  rw [rateOk_congr h2 h4, usesDec_congr h5, hz, h1] at hgrp
  rw [hgrp]
  refine ⟨?_, ?_, fun hr hd => ?_, hkeep⟩
  · split <;> rfl
  · split
    · rfl
    · exact hst
  · rw [if_pos ⟨hr, by simp [hd]⟩]

/-! ### O43: a qualified group runs -/

theorem rget_maskAct_in (hs : Canonical s) (g : Fin 4) (v : Word) : rget (maskAct g false 0 v s)
    (aPORTG_ACT_INMASK g 0) = v := by
  have hne : ∀ g : Fin 4, aPORTG_ACT_INMASK g 0 ≠ aISTAT (pgPORTG g) := by decide
  unfold maskAct
  extract_lets a old x ac on x1 x2 s1 s2
  have h1 : rget s1 (aPORTG_ACT_INMASK g 0) = v := rget_rset_same hs.1 ..
  have h2 : rget s2 (aPORTG_ACT_INMASK g 0) = v := by
    unfold s2
    split
    · exact h1
    · exact (rget_iset_ne _ _ _ (hne g)).trans h1
  exact (((GroupKept.refl g (l := groupRegs g) (fun _ h => h) s2).mapConf g 0).regs _ (by simp [groupRegs])).trans h2

/-- The masks and the PORT word of one port act when the group enters RUN. -/
def portEnters (g : Fin 4) (stopping : Bool) (s : State) (m : Nat) : State :=
  let t := maskAct g false m (rget s (aPORTG_INMASK g m)) (maskAct g true m (rget s (aPORTG_OUTMASK g m)) s)
  if stopping then t else (portAct g m (portWord t g m) t).1

theorem canonical_portEnters (hs : Canonical s) (g : Fin 4) (b : Bool) (m : Nat) : Canonical (portEnters g b s m) := by
  have h : Tidy s.pending (Canonical s) (maskAct g false m (rget s (aPORTG_INMASK g m))
      (maskAct g true m (rget s (aPORTG_OUTMASK g m)) s)) :=
    (Tidy.maskAct (s := s) ⟨rfl, fun h => h⟩ g true m _).maskAct ..
  have h2 := h.portAct g m (portWord (maskAct g false m (rget s (aPORTG_INMASK g m))
      (maskAct g true m (rget s (aPORTG_OUTMASK g m)) s)) g m)
  exact (Tidy.ite h h2 : Tidy s.pending (Canonical s) (portEnters g b s m)).2 hs

/-- Registers that the entry of a port leaves. -/
theorem actMask_notMem : ∀ g : Fin 4, ∀ m < 8, aPORTG_ACT_OUTMASK g m ∉ groupRegs g ∧
    aPORTG_ACT_INMASK g m ∉ [aPORTG_ALIGN g, aPORTG_INMASK g 0] ∧ aPORTG_ACT_OUTMASK g m ≠ aISTAT (pgPORTG g) ∧
    aPORTG_ACT_INMASK g m ≠ aISTAT (pgPORTG g) ∧ (m ≠ 0 → aPORTG_ACT_INMASK g m ∉ groupRegs g) := by decide

theorem kept_portEnters {l : List Nat} {t : State} (h : GroupKept g l s t) (b : Bool) {m : Nat} (hm : m < 8)
    (hl : aPORTG_ACT_INMASK g m ∉ l) : GroupKept g l s (portEnters g b t m) := by
  obtain ⟨h1, -, h3, h4, -⟩ := actMask_notMem g m hm
  have h2 : GroupKept g l s (maskAct g false m (rget t (aPORTG_INMASK g m))
      (maskAct g true m (rget t (aPORTG_OUTMASK g m)) t)) :=
    (h.maskAct true m _ (fun hx => h1 (h.sub _ hx)) h3).maskAct false m _ hl h4
  exact .ite h2 (h2.portAct ..)

/-- All ports enter: the course of the group and its ALIGN stay, and the first input mask acts. -/
theorem foldl_portEnters (hs : Canonical s) (g : Fin 4) (b : Bool) :
    GroupKept g [aPORTG_ALIGN g, aPORTG_INMASK g 0] s ((List.range 8).foldl (portEnters g b) s) ∧
      rget ((List.range 8).foldl (portEnters g b) s) (aPORTG_ACT_INMASK g 0) = rget s (aPORTG_INMASK g 0) := by
  have hall : GroupKept g [aPORTG_ALIGN g, aPORTG_INMASK g 0] s ((List.range 8).foldl (portEnters g b) s) :=
    .foldl _ (fun t ht m hm => kept_portEnters ht b (List.mem_range.1 hm)
      (actMask_notMem g m (List.mem_range.1 hm)).2.1)
      (.refl g (by simp [groupRegs]) s)
  refine ⟨hall, ?_⟩
  have hrange : List.range 8 = 0 :: [1, 2, 3, 4, 5, 6, 7] := rfl
  have hfirst : rget (portEnters g b s 0) (aPORTG_ACT_INMASK g 0) = rget s (aPORTG_INMASK g 0) := by
    have hc : Canonical (maskAct g true 0 (rget s (aPORTG_OUTMASK g 0)) s) :=
      (Tidy.maskAct (s := s) ⟨rfl, fun h => h⟩ g true 0 _ : Tidy s.pending (Canonical s) _).2 hs
    have hin := rget_maskAct_in hc g (rget s (aPORTG_INMASK g 0))
    unfold portEnters
    dsimp only
    split
    · exact hin
    · exact (((GroupKept.refl g (l := groupRegs g) (fun _ h => h) _).portAct 0 _).regs _ (by simp [groupRegs])).trans
        hin
  rw [hrange, List.foldl_cons, ← hfirst]
  have hrest : GroupKept g (groupRegs g) (portEnters g b s 0)
      ([1, 2, 3, 4, 5, 6, 7].foldl (portEnters g b) (portEnters g b s 0)) :=
    .foldl _ (fun t ht m hm => by
      have hm8 : m < 8 ∧ m ≠ 0 := by
        simp only [List.mem_cons, List.not_mem_nil, or_false] at hm
        omega
      exact kept_portEnters ht b hm8.1 ((actMask_notMem g m hm8.1).2.2.2.2 hm8.2)) (.refl g (fun _ h => h) _)
  exact hrest.regs _ (by simp [groupRegs])

/-- The word of ALIGN with the phase of the first frame. -/
theorem bits_alignWord (asrc : Bool) (phi : BitVec 10) :
    bits ((if asrc then 0 else flg true 31) ||| flg (phi.toNat < 32) 30 ||| fld phi.toNat 0) 9 0 = phi.toNat := by
  have hphi := phi.isLt
  have h30 : ∀ b : Bool, (flg b 30).toNat % 2 ^ 10 = 0 := by decide
  have h31 : ∀ b : Bool, ((if b then 0 else flg true 31 : Word)).toNat % 2 ^ 10 = 0 := by decide
  have hf : (fld phi.toNat 0).toNat = phi.toNat := by simp [fld]; omega
  rw [bits, Nat.shiftRight_zero, BitVec.toNat_or, BitVec.toNat_or, hf, Nat.or_mod_two_pow, Nat.or_mod_two_pow, h30, h31]
  simp
  omega

variable {s : State} {g : Fin 4}

/-! ### O43: the start of a run -/

/-- A group that starts to run, before its ports enter. -/
def runStarted (g : Fin 4) (phi : Nat) (s : State) : State :=
  let x := grp s g
  let asrc := gcfgMode (gcfg s g)
  let s1 := setGrp g { x with
    st := .run, phi0 := phi, asg := s.tb.frame + 1, frames := 0, glitches := [], fade := none, faulted := false,
      gap := false
    last := [], carried := [], rateFar := false, badClk := false
    ref := if asrc then (rget s (aPORTG_RATE_MEAS g)).toNat else 256 * fs s
    act := Vector.replicate 8 ⟨false, false, 0, 0⟩, seqs := x.seqs.map seqOff, chg := [] } s
  let s2 := if x.faulted then iset (pgPORTG g) 4 s1 else s1
  rset (aPORTG_ALIGN g) ((if asrc then 0 else flg true 31) ||| flg (phi < 32) 30 ||| fld phi 0) s2

theorem enterRun_eq (g : Fin 4) (phi : Nat) (s : State) :
    enterRun g phi s = (List.range 8).foldl (portEnters g (grp s g).stopping) (runStarted g phi s) := rfl

/-- What stands before the ports enter. -/
theorem runStarted_effect (hs : Canonical s) (g : Fin 4) (phi : BitVec 10) :
    Canonical (runStarted g phi.toNat s) ∧ (grp (runStarted g phi.toNat s) g).st = .run ∧
      (grp (runStarted g phi.toNat s) g).phi0 = phi.toNat ∧ (grp (runStarted g phi.toNat s) g).asg = s.tb.frame + 1 ∧
      (grp (runStarted g phi.toNat s) g).faulted = false ∧ rfld (runStarted g phi.toNat s) (aPORTG_ALIGN g) 9 0 =
        phi.toNat ∧
      rget (runStarted g phi.toNat s) (aPORTG_INMASK g 0) = rget s (aPORTG_INMASK g 0) ∧
      ((grp s g).faulted = true → rbit (runStarted g phi.toNat s) (aISTAT (pgPORTG g)) 4 = true) := by
  have hne : ∀ g : Fin 4, aPORTG_INMASK g 0 ≠ aPORTG_ALIGN g ∧ aPORTG_INMASK g 0 ≠ aISTAT (pgPORTG g) ∧
      aISTAT (pgPORTG g) ≠ aPORTG_ALIGN g := by decide
  obtain ⟨n1, n2, n3⟩ := hne g
  unfold runStarted
  extract_lets x asrc s1 s2
  have hg1 : grp s1 g = _ := (grp_setGrp ..).trans (if_pos rfl)
  have hg2 : grp s2 g = grp s1 g := by
    unfold s2
    split <;> rfl
  have hc : Canonical s2 :=
    (Tidy.ite ((Tidy.setGrp (s := s) ⟨rfl, fun h => h⟩ g _).iset _ _) (Tidy.setGrp ⟨rfl, fun h => h⟩ g _) : Tidy
      s.pending (Canonical s) s2).2 hs
  refine ⟨((Tidy.rset ⟨rfl, fun h => h⟩ _ _ : Tidy s2.pending (Canonical s2) _)).2 hc, ?_, ?_, ?_, ?_, ?_, ?_,
    fun hf => ?_⟩
  · rw [grp_rset, hg2, hg1]
  · rw [grp_rset, hg2, hg1]
  · rw [grp_rset, hg2, hg1]
  · rw [grp_rset, hg2, hg1]
  · rw [rfld, rget_rset_same hc.1]
    exact bits_alignWord ..
  · rw [rget_rset_ne _ _ n1]
    unfold s2
    split
    · rw [rget_iset_ne _ _ _ n2]
      rfl
    · rfl
  · rw [rbit, rget_rset_ne _ _ n3]
    unfold s2
    rw [if_pos hf]
    exact rbit_iset_any ⟨pgPORTG g, by unfold pgPORTG; omega⟩ (by decide) _

/-- O43, the entry into RUN. -/
theorem qualifyPass_effect (hs : Canonical s) (hl : Live s) (phi : BitVec 10) (hst : (grp s g).st = .qualify)
    (hq : 64 ≤ (grp s g).qual) :
    (usesDec s = true → Runs (.qualifyPass g phi) s fun t => t = s) ∧
    (usesDec s = false → bclkOk s g = true → Runs (.qualifyPass g phi) s fun t => (grp t g).st = .run ∧
      (grp t g).phi0 = phi.toNat ∧ (grp t g).asg = s.tb.frame + 1 ∧ (grp t g).faulted = false ∧
      rfld t (aPORTG_ALIGN g) 9 0 = phi.toNat ∧ rget t (aPORTG_ACT_INMASK g 0) = rget s (aPORTG_INMASK g 0) ∧
      ((grp s g).faulted = true → rbit t (aISTAT (pgPORTG g)) 4 = true)) ∧
    (usesDec s = false → bclkOk s g = false → Runs (.qualifyPass g phi) s fun t =>
      (grp t g).st = .qualify ∧ (grp t g).qual = 0 ∧ captured 3 (pgPORTG g) 0 s t) := by
  have hpass (hd : usesDec s = false) : qualifyPass g phi.toNat s =
      if ¬ bclkOk s g then errcap (pgPORTG g) 3 0 (setGrp g { grp s g with qual := 0 } s) else enterRun g phi.toNat
        s := by
    refine if_neg fun h => ?_
    rcases h with h | h | h
    · exact h hst
    · omega
    · simp [hd] at h
  refine ⟨fun hd => runs_awake hl rfl (if_pos (.inr (.inr hd))), fun hd hb => runs_awake hl rfl ?_, fun hd hb =>
    runs_awake hl rfl ?_⟩
  · obtain ⟨hc, k1, k2, k3, k4, k5, k6, k7⟩ := runStarted_effect hs g phi
    obtain ⟨hkept, hmask⟩ := foldl_portEnters hc g (grp s g).stopping
    rw [hpass hd, if_neg (by simp [hb]), enterRun_eq]
    generalize runStarted g phi.toNat s = u at *
    have hcore := hkept.core
    simp only [coreOf, Prod.mk.injEq] at hcore
    obtain ⟨c1, -, -, c4, -, c6, -, c8⟩ := hcore
    refine ⟨c1.trans k1, c6.trans k2, c4.trans k3, c8.trans k4, ?_, hmask.trans k6, fun hf => hkept.istat 4 (k7 hf)⟩
    rw [rfld, hkept.regs _ (by simp)]
    exact k5
  · rw [hpass hd, if_pos (by simp [hb])]
    have hw : Within [.regs] (· ∈ [aERRCAP (pgPORTG g), aERRADDR (pgPORTG g)]) (setGrp g { grp s g with qual := 0 } s)
        (errcap (pgPORTG g) 3 0 (setGrp g { grp s g with qual := 0 } s)) := (Within.refl ..).errcap _ _ (by decide)
          (by simp) (by simp)
    have hg : grp (errcap (pgPORTG g) 3 0 (setGrp g { grp s g with qual := 0 } s)) g = { grp s g with qual := 0 } :=
      (grp_congr (hw.1 .ports (by decide)) g).trans ((grp_setGrp ..).trans (if_pos rfl))
    rw [hg]
    exact ⟨hst, rfl, captured_errcap (s := setGrp g { grp s g with qual := 0 } s) hs.1 3 (pgPORTG g) 0 (by decide)⟩

/-! ### O43: a clock that stops and returns -/

theorem stopCnt_ne : ∀ g : Fin 4, aPORTG_STOP_CNT g ≠ aISTAT (pgPORTG g) ∧ aPORTG_STOP_CNT g ∉ leaveRegs g := by decide

/-- Without changes on their way nothing but the group and its registers changes. -/
theorem keepsBut_leaveRun (h : (grp s g).chg = []) (st : GState) : KeepsBut [.regs, .ports] s (leaveRun g st s) := by
  have hset {t : State} (ht : KeepsBut [.regs, .ports] s t) (x : GroupSt) : KeepsBut [.regs, .ports] s (setGrp g x t) :=
    fun p hp => (ht p hp).trans (by cases p <;> first | rfl | exact absurd (by decide) hp)
  have hrset {t : State} (ht : KeepsBut [.regs, .ports] s t) (a : Nat) (v : Word) : KeepsBut [.regs, .ports] s
      (rset a v t) :=
    fun p hp => (ht p hp).trans (by cases p <;> first | rfl | exact absurd (by decide) hp)
  have hasrc {t : State} (ht : KeepsBut [.regs, .ports] s t) : KeepsBut [.regs, .ports] s (asrcUnlock g t) := by
    unfold asrcUnlock
    split
    · exact hrset (hrset (hrset ht _ _) _ _) _ _
    · exact ht
  have hdrop : KeepsBut [.regs, .ports] s (dropChanges g s) := by
    unfold dropChanges
    dsimp only
    rw [h]
    exact hset (fun p _ => by cases p <;> rfl) _
  unfold leaveRun
  extract_lets t x ran keep s1
  have h1 : KeepsBut [.regs, .ports] s (rput (aPORTG_ALIGN g) 31 30 0 (asrcUnlock g s1)) := hrset
      (hasrc (hset hdrop _)) _ _
  generalize rput _ _ _ _ _ = u at h1
  unfold settleStop
  dsimp only
  split
  · exact hrset (hasrc (hset h1 _)) _ _
  · exact h1

/-- O43, BCLK_STOP and FS_LOSS. -/
theorem stopsGroup_of {c : Instr} (hs : Canonical s) (hl : Live s) (hc : exec c s = .next (awake (clockStop g) s)) :
    stopsGroup c s g := by
  intro hst
  have hrun : clockStop g s =
      if usesDec s then s else iset (pgPORTG g) 0 (cnt (aPORTG_STOP_CNT g) (leaveRun g .stopped s)) := by
    unfold clockStop
    dsimp only
    rcases hst with h | h | h <;> rw [h]
  refine ⟨fun hd => runs_awake hl hc (hrun.trans (if_pos hd)), fun hd => runs_awake hl hc ?_⟩
  rw [hrun, if_neg (by simp [hd])]
  obtain ⟨k1, k2, -, k4⟩ := grp_leaveRun_same g .stopped s
  have hleave := (Settles.refl leaveParts (· ∈ leaveRegs g) s).leaveRun (g := g) .stopped
  have hwf : spWf resetWord (leaveRun g .stopped s).regs = true :=
    ((Tidy.leaveRun (s := s) ⟨rfl, fun h => h⟩ g .stopped : Tidy s.pending (Canonical s) _).2 hs).1
  have hsame : rget (leaveRun g .stopped s) (aPORTG_STOP_CNT g) = rget s (aPORTG_STOP_CNT g) := hleave.within.2 _
      (stopCnt_ne g).2
  have hother (h : Fin 4) (hne : h ≠ g) : grp (leaveRun g .stopped s) h = grp s h := grp_leaveRun g h _ _ hne
  refine ⟨k1, k4 rfl, ?_, rbit_iset_any
    ⟨pgPORTG g, by unfold pgPORTG; omega⟩ (by decide) _, fun hr => ?_, hother, fun hchg p hp => ?_⟩
  · rw [rget_iset_ne _ _ _ (stopCnt_ne g).1, cnt, rget_rset_same hwf, hsame]
    rfl
  · exact k2.trans (if_pos hr)
  · exact (keepsBut_leaveRun hchg .stopped p hp).trans (by cases p <;> first | rfl | exact absurd (by decide) hp)

/-- O43, CLOCK_RETURN. -/
theorem clockReturn_effect (hl : Live s) (hst : (grp s g).st = .stopped) : Runs (.clockReturn g) s fun t => KeepsBut
    [.ports] s t ∧
    (if usesDec s then t = s else (grp t g).st = .qualify ∧ (grp t g).qual = 0 ∧ (grp t g).sdo = zeroSdo s g) := by
  cases hd : usesDec s with
  | true =>
    refine runs_awake hl rfl ?_
    have hrun : clockReturn g s = s := if_neg fun h => h.2 hd
    rw [hrun]
    exact ⟨fun p _ => by cases p <;> rfl, rfl⟩
  | false =>
    refine runs_awake hl rfl ?_
    have hrun : clockReturn g s = setGrp g
        { grp s g with st := .qualify, qual := 0, badClk := false, sdo := zeroSdo s g } s :=
      if_pos ⟨hst, by simp [hd]⟩
    have hg := (grp_setGrp g g { grp s g with st := .qualify, qual := 0, badClk := false, sdo := zeroSdo s g }
        s).trans (if_pos rfl)
    rw [hrun]
    refine ⟨fun p hp => by cases p <;> first | rfl | exact absurd (by decide) hp, ?_⟩
    rw [hg]
    exact ⟨rfl, rfl, rfl⟩

/-- O43, FAULT_FADE_END. -/
theorem faultFadeEnd_effect (hl : Live s) {f : Nat} (hf : (grp s g).fade = some f) (ht : f + 16 ≤ s.tb.frame) :
    Runs (.faultFadeEnd g) s fun t => (grp t g).fade = none ∧ (grp t g).last = [] ∧ (grp t g).carried = [] ∧ KeepsBut
      [.ports] s t := by
  have hrun : faultFadeEnd g s = setGrp g { grp s g with fade := none, last := [], carried := [] } s := by
    unfold faultFadeEnd
    dsimp only
    rw [hf]
    exact if_pos ht
  have hg := (grp_setGrp g g { grp s g with fade := none, last := [], carried := [] } s).trans (if_pos rfl)
  refine runs_awake hl rfl ?_
  rw [hrun, hg]
  exact ⟨rfl, rfl, rfl, fun p hp => by cases p <;> first | rfl | exact absurd (by decide) hp⟩

/-! ### O43: the sequence of a channel -/

/-- The sequence that has been put is the one that is found. -/
theorem seqGet_seqPut (c : ChanSeq) (l : List ChanSeq) : seqGet (seqPut c l) c.key = c := by
  have hfind : ∀ m : List ChanSeq, m.any (fun x => x.key == c.key) = true →
      (m.map fun x => if x.key = c.key then c else x).find? (fun x => x.key == c.key) = some c := by
    intro m
    induction m with
    | nil => intro h; exact absurd h (by simp)
    | cons x m ih =>
      intro h
      rw [List.map_cons]
      by_cases hx : x.key = c.key
      · rw [if_pos hx, List.find?_cons_of_pos (by simp)]
      · rw [if_neg hx, List.find?_cons_of_neg (by simpa using hx)]
        exact ih (by simpa [hx] using h)
  unfold seqGet seqPut
  split
  · next h => rw [hfind l h]; rfl
  · next h =>
    have hnone : l.find? (fun x => x.key == c.key) = none := by
      rw [List.find?_eq_none]
      intro x hx hk
      exact h (List.any_eq_true.2 ⟨x, hx, hk⟩)
    rw [List.find?_append, hnone]
    simp

theorem key_seqGet (l : List ChanSeq) (key : Nat) : (seqGet l key).key = key := by
  unfold seqGet
  cases h : l.find? (fun c => c.key == key) with
  | none => rfl
  | some c => simpa using List.find?_some h

/-- A channel's sequence is replaced: nothing but the group changes. -/
theorem setSeq_effect (s : State) (c : PortSlot) (q : ChanSeq) (hk : q.key = seqKey c.out c.m c.s) :
    let t := setGrp c.g { grp s c.g with seqs := seqPut q (grp s c.g).seqs } s
    KeepsBut [.ports] s t ∧ seqGet (grp t c.g).seqs (seqKey c.out c.m c.s) = q := by
  intro t
  have hg : grp t c.g = { grp s c.g with seqs := seqPut q (grp s c.g).seqs } := (grp_setGrp ..).trans (if_pos rfl)
  refine ⟨fun p hp => by cases p <;> first | rfl | exact absurd (by decide) hp, ?_⟩
  rw [hg, ← hk]
  exact seqGet_seqPut ..

/-- O43, PORT_ZC_TIMEOUT. -/
theorem portZcTimeout_effect (hl : Live s) {c : PortSlot} {q : ChanSeq}
    (hq : q = seqGet (grp s c.g).seqs (seqKey c.out c.m c.s))
    (hk : zcFrames s c.g ≤ q.k) :
    (q.st = .wait → Runs (.portZcTimeout c) s fun t => KeepsBut [.ports] s t ∧
      seqGet (grp t c.g).seqs (seqKey c.out c.m c.s) = { q with st := .up, n := 0 }) ∧
    (q.st = .stopWait → Runs (.portZcTimeout c) s fun t => KeepsBut [.ports] s t ∧
      seqGet (grp t c.g).seqs (seqKey c.out c.m c.s) = { q with st := .down, n := 64 }) := by
  subst hq
  have hkey := key_seqGet (grp s c.g).seqs (seqKey c.out c.m c.s)
  refine ⟨fun hw => runs_awake hl rfl ?_, fun hw => runs_awake hl rfl ?_⟩
  · have hrun : portZcTimeout c s = setGrp c.g { grp s c.g with
        seqs := seqPut { seqGet (grp s c.g).seqs (seqKey c.out c.m c.s) with st := .up, n := 0 } (grp s c.g).seqs }
          s := by
      unfold portZcTimeout
      dsimp only
      rw [if_pos hk, hw]
    rw [hrun]
    exact setSeq_effect s c { seqGet (grp s c.g).seqs (seqKey c.out c.m c.s) with st := .up, n := 0 } hkey
  · have hrun : portZcTimeout c s = setGrp c.g { grp s c.g with
        seqs := seqPut { seqGet (grp s c.g).seqs (seqKey c.out c.m c.s) with st := .down, n := 64 } (grp s c.g).seqs
          } s := by
      unfold portZcTimeout
      dsimp only
      rw [if_pos hk, hw]
    rw [hrun]
    exact setSeq_effect s c { seqGet (grp s c.g).seqs (seqKey c.out c.m c.s) with st := .down, n := 64 } hkey

/-- All channels are off when the last one is put off. -/
theorem all_off_seqPut {l : List ChanSeq} {q : ChanSeq} (h : ∀ x ∈ l, x.key ≠ q.key → x.st = .off) :
    (seqPut (seqOff q) l).all (fun c => c.st == .off) = true := by
  have hk : (seqOff q).key = q.key := rfl
  rw [List.all_eq_true]
  intro x hx
  unfold seqPut at hx
  split at hx
  · obtain ⟨y, hy, rfl⟩ := List.mem_map.1 hx
    split
    · rfl
    · next hne => rw [h y hy fun he => hne (he.trans hk.symm)]; rfl
  · next hno =>
    rcases List.mem_append.1 hx with hy | hy
    · have hne : x.key ≠ q.key := fun he => hno (List.any_eq_true.2 ⟨x, hy, by simp [hk, he]⟩)
      rw [h x hy hne]
      rfl
    · rw [List.mem_singleton.1 hy]
      rfl

/-- O43, PORT_RAMP_END. -/
theorem portRampEnd_effect (hl : Live s) {c : PortSlot} {q : ChanSeq}
    (hq : q = seqGet (grp s c.g).seqs (seqKey c.out c.m c.s)) :
    (q.st = .up → q.n = 64 → Runs (.portRampEnd c) s fun t => KeepsBut [.ports] s t ∧
      (seqGet (grp t c.g).seqs (seqKey c.out c.m c.s)).st = .run) ∧
    (q.st = .down → q.n = 0 → (grp s c.g).stopping = false → Runs (.portRampEnd c) s fun t => KeepsBut [.ports] s t ∧
      (seqGet (grp t c.g).seqs (seqKey c.out c.m c.s)).st = .off) ∧
    (q.st = .down → q.n = 0 → (grp s c.g).stopping = true → (∀ x ∈ (grp s c.g).seqs, x.key ≠ q.key → x.st = .off) →
      Runs (.portRampEnd c) s fun t => (grp t c.g).st = .off ∧ KeepsBut [.ports, .regs] s t) := by
  subst hq
  have hkey := key_seqGet (grp s c.g).seqs (seqKey c.out c.m c.s)
  have hdown (h1 : (seqGet (grp s c.g).seqs (seqKey c.out c.m c.s)).st = .down)
      (h2 : (seqGet (grp s c.g).seqs (seqKey c.out c.m c.s)).n = 0) :
      portRampEnd c s = settleStop c.g (setGrp c.g { grp s c.g with
        seqs := seqPut (seqOff (seqGet (grp s c.g).seqs (seqKey c.out c.m c.s))) (grp s c.g).seqs } s) := by
    unfold portRampEnd
    dsimp only
    rw [h1]
    exact if_pos h2
  have hset := setSeq_effect s c (seqOff (seqGet (grp s c.g).seqs (seqKey c.out c.m c.s))) hkey
  have hg : grp (setGrp c.g { grp s c.g with
      seqs := seqPut (seqOff (seqGet (grp s c.g).seqs (seqKey c.out c.m c.s))) (grp s c.g).seqs } s) c.g = _ :=
    (grp_setGrp ..).trans (if_pos rfl)
  refine ⟨fun h1 h2 => runs_awake hl rfl ?_, fun h1 h2 h3 => runs_awake hl rfl ?_, fun h1 h2 h3 h4 => runs_awake hl
    rfl ?_⟩
  · have hrun : portRampEnd c s = setGrp c.g { grp s c.g with
        seqs := seqPut { seqGet (grp s c.g).seqs (seqKey c.out c.m c.s) with st := .run } (grp s c.g).seqs } s := by
      unfold portRampEnd
      dsimp only
      rw [h1]
      exact if_pos h2
    obtain ⟨k1, k2⟩ := setSeq_effect s c { seqGet (grp s c.g).seqs (seqKey c.out c.m c.s) with st := .run } hkey
    rw [hrun]
    exact ⟨k1, by rw [k2]⟩
  · obtain ⟨k1, k2⟩ := hset
    rw [hdown h1 h2, settleStop_of_running (by rw [hg]; exact h3)]
    exact ⟨k1, by rw [k2]; rfl⟩
  · rw [hdown h1 h2]
    generalize hu : setGrp c.g _ s = u at hg hset
    have hoff : settleStop c.g u = groupOff c.g u := if_pos ⟨by rw [hg]; exact h3, by rw [hg]; exact all_off_seqPut h4⟩
    rw [hoff]
    refine ⟨st_groupOff .., fun p hp => (hset.1 p fun hm => hp (by simp_all)).trans ?_⟩
    unfold groupOff asrcUnlock
    dsimp only
    split <;> (cases p <;> first | rfl | exact absurd (by decide) hp)

/-- Settles O43: the states of a group and of its channels, frame by frame. -/
theorem groupStates : Obligations.GroupStates := by
  refine ⟨fun s g i hs hl hland hst => groupFrame_inQualify hs hl hland hst, fun s g i hs hl hst => groupFrame_inIdle
    hs hl hst,
    fun s g i _ hl hst => groupFrame_inMismatch hl hst, fun s g i _ hl h => groupFrame_steady hl h,
    fun s g i _ hl hq hm hb hr => groupFrame_asrc hl hq hm hb hr, fun s g i hs hl hq hb hr => groupFrame_slip hl hs
      hq hb hr,
    fun s g i _ hl hq hd hb hr => groupFrame_farRate hl hq hd hb hr, fun s g phi hs hl hst hq => qualifyPass_effect
      hs hl phi hst hq,
    fun s g hs hl => ⟨stopsGroup_of hs hl rfl, stopsGroup_of hs hl rfl⟩, fun s g hl hst => clockReturn_effect hl hst,
    fun s g f hl hf ht => faultFadeEnd_effect hl hf ht, fun s c q hl hq hk => portZcTimeout_effect hl hq hk,
    fun s c q hl hq => portRampEnd_effect hl hq⟩

end Sys2Proof.Machine
end

section
/-!
PROOFS. The link of the pair and the eight kinds of cell: what each leaves, and what a lost partner leaves.
-/

-- One declaration after another: side by side, the stacks of the threads exceed what memory the check allows.
set_option Elab.async false

namespace Sys2Proof.Machine

variable {s : State}

variable {pl : List Part} {s₀ s : State}

theorem Keeps.flowLoses (h : Keeps pl s₀ s) (c' : Nat)
    (hl : [Part.regs] ⊆ pl := by exact sub_of (by assumption) (by decide)) :
    Keeps pl s₀ (flowLoses c' s) :=
  h.foldl (fun _ _ h0 => (h0.iset ..).errcap ..)

theorem Keeps.mapConf (h : Keeps pl s₀ s) (g : Fin 4) (m : Nat)
    (hl : [Part.regs] ⊆ pl := by exact sub_of (by assumption) (by decide)) :
    Keeps pl s₀ (mapConf g m s) :=
  h.foldl (fun _ _ h0 => (h0.foldl (fun _ _ h2 => (h2.iset ..).errcap ..)).flowLoses ..)

theorem Keeps.dropChanges (h : Keeps pl s₀ s) (g : Fin 4)
    (hl : [Part.regs, .mem, .comp, .galley, .ports, .fab] ⊆ pl := by exact sub_of (by assumption) (by decide)) :
    Keeps pl s₀ (dropChanges g s) :=
  (h.setGrp ..).foldl (fun _ _ h0 => h0.finishRunning ..)

theorem Keeps.leaveRun (h : Keeps pl s₀ s) (g : Fin 4) (st : GState)
    (hl : [Part.regs, .mem, .comp, .galley, .ports, .fab] ⊆ pl := by exact sub_of (by assumption) (by decide)) :
    Keeps pl s₀ (leaveRun g st s) :=
  ((((h.dropChanges ..).setGrp ..).asrcUnlock ..).rput ..).settleStop ..

theorem Keeps.dirSet (h : Keeps pl s₀ s) (g : Fin 4) (out : Bool) (m : Nat) (on : Bool)
    (hl : [Part.ports] ⊆ pl := by exact sub_of (by assumption) (by decide)) :
    Keeps pl s₀ (dirSet g out m on s) :=
  h.setGrp ..

theorem Keeps.fillOut (h : Keeps pl s₀ s) (g : Fin 4) (m base : Nat)
    (hl : [Part.regs, .mem, .fab] ⊆ pl := by exact sub_of (by assumption) (by decide)) :
    Keeps pl s₀ (fillOut g m base s) :=
  .ite h (h.foldl (fun _ _ h1 => h1.foldl (fun _ _ h2 => h2.stWord ..)))

theorem Keeps.portAct (h : Keeps pl s₀ s) (g : Fin 4) (m : Nat) (v : Word)
    (hl : [Part.regs, .mem, .ports, .fab] ⊆ pl := by exact sub_of (by assumption) (by decide)) :
    Keeps pl s₀ (portAct g m v s).1 := by
  unfold Machine.portAct
  extract_lets one r
  have hone (out : Bool) (u : State) (hu : Keeps pl s₀ u) : Keeps pl s₀ (one out u).1 := by
    unfold one
    extract_lets x a on base was old off s1 s2
    have hs1 : Keeps pl s₀ s1 := hu.setGrp ..
    have hs2 : Keeps pl s₀ s2 := .ite ((Keeps.ite (hs1.fillOut ..) hs1).dirSet ..) hs1
    exact .ite_fst (.ite (hu.dirSet ..) hu) (.ite hs2 (hs2.mapConf ..))
  exact hone _ _ (hone _ _ h)

theorem Keeps.maskAct (h : Keeps pl s₀ s) (g : Fin 4) (out : Bool) (m : Nat) (v : Word)
    (hl : [Part.regs, .ports] ⊆ pl := by exact sub_of (by assumption) (by decide)) :
    Keeps pl s₀ (maskAct g out m v s) :=
  .ite (.ite ((h.setGrp ..).rset ..) (((h.setGrp ..).rset ..).iset ..))
    ((Keeps.ite ((h.setGrp ..).rset ..) (((h.setGrp ..).rset ..).iset ..)).mapConf ..)

theorem Keeps.enterRun (h : Keeps pl s₀ s) (g : Fin 4) (phi0 : Nat)
    (hl : [Part.regs, .mem, .ports, .fab] ⊆ pl := by exact sub_of (by assumption) (by decide)) :
    Keeps pl s₀ (enterRun g phi0 s) :=
  ((Keeps.ite ((h.setGrp ..).iset ..) (h.setGrp ..)).rset ..).foldl
    (fun _ _ h0 => .ite ((h0.maskAct ..).maskAct ..) (((h0.maskAct ..).maskAct ..).portAct ..))

theorem Keeps.setFlowSt (h : Keeps pl s₀ s) (x : RxFlow) (st : FlowSt)
    (hl : [Part.regs, .net] ⊆ pl := by exact sub_of (by assumption) (by decide)) :
    Keeps pl s₀ (setFlowSt x st s) :=
  .ite (h.setRx ..) ((h.setRx ..).iset ..)

theorem Keeps.usePacket (h : Keeps pl s₀ s) (x : RxFlow) (ts : Word) (bytes : List Byte)
    (hl : [Part.regs, .mem, .net, .cistern, .fab] ⊆ pl := by exact sub_of (by assumption) (by decide)) :
    Keeps pl s₀ (usePacket x ts bytes s) :=
  h.foldl (fun _ _ h0 => .ite h0 (h0.putFrame ..))

theorem Keeps.patchCaptured (h : Keeps pl s₀ s) (x : RxFlow) (fresh : Bool) (ts : Word) (bytes : List Byte)
    (hl : [Part.ports, .net] ⊆ pl := by exact sub_of (by assumption) (by decide)) :
    Keeps pl s₀ (patchCaptured x fresh ts bytes s) := by
  unfold Machine.patchCaptured
  dsimp only
  split
  · exact h
  · split
    · exact h
    · split
      · split
        · exact h.setPorts ..
        · exact (h.setPorts ..).setRx ..
      · exact h.setPorts ..

theorem Keeps.standbyUse (h : Keeps pl s₀ s) (u : Fin 256 × Word × Bool)
    (hl : [Part.regs, .mem, .ports, .net, .twin, .cistern, .fab] ⊆ pl := by exact sub_of (by assumption) (by decide)) :
    Keeps pl s₀ (standbyUse u s) := by
  unfold Machine.standbyUse
  dsimp only
  split
  · exact h
  · split
    · exact h.cnt ..
    · exact .ite ((Keeps.ite h h.markBad).setFlowSt ..)
        ((((Keeps.ite h h.markBad).setFlowSt ..).usePacket ..).patchCaptured ..)

theorem Keeps.groupDecide (h : Keeps pl s₀ s) (g : Fin 4) (y : GroupSt)
    (hl : [Part.regs, .mem, .comp, .galley, .ports, .twin, .fab] ⊆ pl := by exact sub_of (by assumption) (by decide)) :
    Keeps pl s₀ (groupDecide g y s) := by
  unfold Machine.groupDecide
  extract_lets x _ s0 s1 _ n _ s2
  have hs0 : Keeps pl s₀ s0 := .ite h h.markBad
  have hs1 : Keeps pl s₀ s1 := .ite (hs0.enterRun ..) (.ite (hs0.leaveRun ..) hs0)
  have hs2 : Keeps pl s₀ s2 := hs1.setGrp ..
  exact .ite (hs2.rset ..) (.ite hs2 (hs2.rput ..))

theorem Keeps.aesDecide (h : Keeps pl s₀ s) (m : Fin 8) (y : Aes3St)
    (hl : [Part.ports, .twin] ⊆ pl := by exact sub_of (by assumption) (by decide)) :
    Keeps pl s₀ (aesDecide m y s) :=
  (Keeps.ite h h.markBad).setAes ..

theorem Keeps.flowDecide (h : Keeps pl s₀ s) (f start next made acc : Nat)
    (hl : [Part.net] ⊆ pl := by exact sub_of (by assumption) (by decide)) :
    Keeps pl s₀ (flowDecide f start next made acc s) := by
  unfold Machine.flowDecide
  dsimp only
  split
  · exact h
  · exact h.setTx ..

theorem Keeps.lateCell (h : Keeps pl s₀ s) (t : Nat)
    (hl : [Part.twin] ⊆ pl := by exact sub_of (by assumption) (by decide)) :
    Keeps pl s₀ (lateCell t s) :=
  .ite h.markBad h

/-! ### O56: what fencing and the loss of the partner leave -/

theorem within_releaseOutputs (s : State) : Within [.regs, .twin] (· = aISTAT pgTWIN) s (releaseOutputs s) := by
  have h := (Within.refl [.regs, .twin] (· = aISTAT pgTWIN) s).setTwinSt
    { s.twin with drive := false, lease := none, grantWait := none }
  unfold releaseOutputs
  split
  · exact h.iset (p := pgTWIN) 1 (by decide) rfl
  · exact h

/-- A device that gave up its outputs, in no other respect another half of the pair than before. -/
structure LetGo (t u : TwinSt) : Prop where
  drive : u.drive = false
  lease : u.lease = none
  pstate : u.pstate = t.pstate
  link : u.link = t.link
  lanes : u.lanes = t.lanes

theorem letGo_releaseOutputs (s : State) : LetGo s.twin (releaseOutputs s).twin ∧ (releaseOutputs s).twin.st =
    s.twin.st := by
  unfold releaseOutputs
  split <;> exact ⟨⟨rfl, rfl, rfl, rfl, rfl⟩, rfl⟩

theorem leaveRole_fenced (h : s.twin.st ≠ .active) :
    leaveRole .fenced s = setTwinSt { s.twin with galOwed := [], galHeld := [] } s := by
  simp [leaveRole, h, setTwinSt]

/-- The change to FENCED of a device that is neither ACTIVE nor SOLO. -/
theorem setTwin_fenced (ha : isActive s = false) (ho : isSolo s = false) :
    Within [.regs, .twin] (· = aISTAT pgTWIN) s (setTwin .fenced s) ∧ (setTwin .fenced s).twin.st = .fenced ∧
      (LetGo s.twin s.twin → LetGo s.twin (setTwin .fenced s).twin) := by
  have hna : s.twin.st ≠ .active := by simpa [isActive] using ha
  have hno : s.twin.st ≠ .solo := by simpa [isSolo] using ho
  unfold setTwin
  split
  · next h => exact ⟨.refl .., h, id⟩
  · simp only [leaveRole_fenced hna, or_true, if_true]
    exact ⟨(((Within.refl ..).setTwinSt _).setTwinSt _).iset (p := pgTWIN) 0 (by decide) rfl, rfl,
      fun h => ⟨h.drive, h.lease, rfl, rfl, rfl⟩⟩

/-- A device that is neither ACTIVE nor SOLO fences itself. -/
theorem enterFenced_effect (ha : isActive s = false) (ho : isSolo s = false) :
    Within [.regs, .twin, .arb, .fab] (· = aISTAT pgTWIN) s (enterFenced s) ∧ (enterFenced s).twin.st = .fenced ∧
      released (enterFenced s) ∧ LetGo s.twin (enterFenced s).twin := by
  obtain ⟨hgo, hst⟩ := letGo_releaseOutputs s
  have ha' : isActive (hbStatic (releaseOutputs s)) = false := (congrArg (· == TwinState.active) hst).trans ha
  have ho' : isSolo (hbStatic (releaseOutputs s)) = false := (congrArg (· == TwinState.solo) hst).trans ho
  obtain ⟨hw, hf, hk⟩ := setTwin_fenced ha' ho'
  obtain ⟨h1, h2, h3, h4, h5⟩ := hk ⟨hgo.1, hgo.2, rfl, rfl, rfl⟩
  have hw1 : Within [.regs, .twin, .arb, .fab] (· = aISTAT pgTWIN) s (hbStatic (releaseOutputs s)) :=
    ((within_releaseOutputs s).mono (by decide) fun _ h => h).setArb _
  have hw2 := hw1.trans (hw.mono (by decide) fun _ h => h)
  exact ⟨hw2.setTwinSt _, hf, ⟨h1, h2, congrArg ArbSt.hbRun (hw.1 .arb (by decide))⟩,
    ⟨h1, h2, h3.trans hgo.3, h4.trans hgo.4, h5.trans hgo.5⟩⟩

theorem lossHoldExpire_fences {f : Nat} (hs : s.twin.st = .standbyHot) (hf : s.twin.lossHold = some f)
    (hd : f ≤ s.tb.frame) : lossHoldExpire s = enterFenced s := by
  unfold lossHoldExpire
  rw [hf]
  exact if_pos ⟨hs, hd⟩

theorem lossHoldExpire_idle (h : ¬ (s.twin.st = .standbyHot ∧ ∃ f, s.twin.lossHold = some f ∧ f ≤ s.tb.frame)) :
    lossHoldExpire s = s := by
  unfold lossHoldExpire
  split
  · next f hf => exact if_neg fun hd => h ⟨hd.1, f, hf, hd.2⟩
  · rfl

theorem not_active_of {x : TwinState} (h : s.twin.st = x) (hx : x ≠ .active) : isActive s = false := by
  simpa [isActive, h] using hx

theorem not_solo_of {x : TwinState} (h : s.twin.st = x) (hx : x ≠ .solo) : isSolo s = false := by
  simpa [isSolo, h] using hx

/-- The notice of a lost partner: alarm, interrupt and the FENCE that is sent. -/
def lossNoted (s : State) : State :=
  sendCell 8 .fence (alarm 8 (iset pgTWIN 6 { s with twin := { s.twin with pstate := 0xF, mirrorCh := [] } }))

theorem sendCell_twin (ch : Nat) (body : CellBody) (s : State) : (sendCell ch body s).twin =
    { s.twin with seqTx := (sendCell ch body s).twin.seqTx, sent := (sendCell ch body s).twin.sent } := by
  unfold sendCell
  split <;> rfl

theorem lossNoted_effect (s : State) : Within [.regs, .twin] (· ∈ [aINTC_ALMSRC, aISTAT pgTWIN]) s (lossNoted s) ∧
    (lossNoted s).twin = { s.twin with
      pstate := 0xF, mirrorCh := [], seqTx := (lossNoted s).twin.seqTx, sent := (lossNoted s).twin.sent } ∧
    rbit (lossNoted s) aINTC_ALMSRC 8 = true ∧ rbit (lossNoted s) (aISTAT pgTWIN) 6 = true := by
  set v := alarm 8 (iset pgTWIN 6 { s with twin := { s.twin with pstate := 0xF, mirrorCh := [] } }) with hv
  have hw : Within [.regs, .twin] (· ∈ [aINTC_ALMSRC, aISTAT pgTWIN]) s v :=
    (((Within.refl ..).setTwinSt { s.twin with pstate := 0xF, mirrorCh := [] }).iset 6).alarm 8
  have hs := within_sendCell 8 .fence v
  refine ⟨hw.trans (hs.mono (by decide) fun _ h => h.elim), sendCell_twin .., ?_, ?_⟩
  · exact (congrArg (bit · 8) (hs.2 _ id)).trans (rbit_alarm (by decide) _)
  · refine (congrArg (bit · 6) ((hs.2 _ id).trans (rget_rset_ne _ _ (by decide)))).trans ?_
    exact rbit_iset_any ⟨pgTWIN, by decide⟩ (by decide) _

theorem partnerLost_eq (hp : s.twin.pstate ≠ 0xF) : partnerLost s = (match s.twin.st with
    | .standbyHot => setTwinSt { (lossNoted s).twin with
        lossHold := some (s.tb.frame + zeroIs1 (rfld s aTWIN_CFG 23 16)) } (lossNoted s)
    | .standbyWarm | .syncing => enterFenced (lossNoted s)
    | _ => lossNoted s) := by
  obtain ⟨hw, ht, _⟩ := lossNoted_effect s
  have hst : (lossNoted s).twin.st = s.twin.st := by rw [ht]
  have hf : (lossNoted s).tb.frame = s.tb.frame := congrArg TimebaseSt.frame (hw.1 .tb (by decide))
  have hr : rfld (lossNoted s) aTWIN_CFG 23 16 = rfld s aTWIN_CFG 23 16 :=
    congrArg (bits · 23 16) (hw.2 _ (by decide))
  unfold partnerLost
  rw [if_neg hp]
  change (match (lossNoted s).twin.st with
    | .standbyHot => _
    | .standbyWarm | .syncing => _
    | _ => _) = _
  rw [hst, ← hf, ← hr]
  rfl

/-- The loss of the partner: alarm and interrupt, a hot standby starts its wait, a warm or syncing one is fenced. -/
structure PartnerGone (s t : State) : Prop where
  within : Within [.regs, .twin, .arb, .fab] (· ∈ [aINTC_ALMSRC, aISTAT pgTWIN]) s t
  pstate : t.twin.pstate = 0xF
  link : t.twin.link = s.twin.link
  lanes : t.twin.lanes = s.twin.lanes
  unknown : s.twin.pstate = 0xF → t = s
  alarm : s.twin.pstate ≠ 0xF → rbit t aINTC_ALMSRC 8 = true ∧ rbit t (aISTAT pgTWIN) 6 = true
  hot : s.twin.pstate ≠ 0xF → s.twin.st = .standbyHot → t.twin.st = .standbyHot ∧
    t.twin.lossHold = some (s.tb.frame + zeroIs1 (rfld s aTWIN_CFG 23 16))
  warm : s.twin.pstate ≠ 0xF → s.twin.st = .standbyWarm ∨ s.twin.st = .syncing → t.twin.st = .fenced
  active : s.twin.st = .active → t.twin.st = .active ∧ t.twin.drive = s.twin.drive

/-- A mark of the page of the pair stands when another is set. -/
theorem rbit_iset_twin {i b : Nat} (h : rbit s (aISTAT pgTWIN) i = true) : rbit (iset pgTWIN b s) (aISTAT pgTWIN) i =
    true :=
  rbit_rset_of_bit (by decide) (by rw [bit_or]; exact Bool.or_eq_true_iff.2 (.inl h))

theorem rget_leaveRole (x : TwinState) (s : State) (a : Nat) : rget (leaveRole x s) a = rget s a := by
  unfold leaveRole
  dsimp only
  split <;> split <;> rfl

theorem rbit_enterFenced {i : Nat} (ha : isActive s = false) (h : rbit s (aISTAT pgTWIN) i = true) :
    rbit (enterFenced s) (aISTAT pgTWIN) i = true := by
  have h1 : rbit (hbStatic (releaseOutputs s)) (aISTAT pgTWIN) i = true := by
    unfold releaseOutputs
    split
    · exact rbit_iset_twin h
    · exact h
  have hna : (hbStatic (releaseOutputs s)).twin.st ≠ .active := by
    rw [show (hbStatic (releaseOutputs s)).twin.st = s.twin.st from (letGo_releaseOutputs s).2]
    simpa [isActive] using ha
  change rbit (setTwin .fenced (hbStatic (releaseOutputs s))) (aISTAT pgTWIN) i = true
  generalize hbStatic (releaseOutputs s) = u at h1 hna
  unfold setTwin
  split
  · exact h1
  · dsimp only
    have h2 : rbit (if u.twin.st = .solo then rput aMATRIX_CFG 0 0 0 u else u) (aISTAT pgTWIN) i = true := by
      split
      · exact (congrArg (bit · i) (rget_rset_ne _ _ (by decide))).trans h1
      · exact h1
    exact rbit_iset_twin ((congrArg (bit · i) (rget_leaveRole ..)).trans h2)

theorem partnerLost_effect (s : State) : PartnerGone s (partnerLost s) := by
  by_cases hp : s.twin.pstate = 0xF
  · have he : partnerLost s = s := if_pos hp
    rw [he]
    exact ⟨.refl .., hp, rfl, rfl, fun _ => rfl, fun h => absurd hp h, fun h => absurd hp h, fun h => absurd hp h,
      fun h => ⟨h, rfl⟩⟩
  obtain ⟨hw, ht, h8, h6⟩ := lossNoted_effect s
  have hwide : Within [.regs, .twin, .arb, .fab] (· ∈ [aINTC_ALMSRC, aISTAT pgTWIN]) s (lossNoted s) :=
    hw.mono (by decide) fun _ h => h
  have hst : (lossNoted s).twin.st = s.twin.st := by rw [ht]
  have hfence {x : TwinState} (hx : s.twin.st = x) (hne : x = .standbyWarm ∨ x = .syncing) :
      PartnerGone s (enterFenced (lossNoted s)) := by
    have ha : isActive (lossNoted s) = false := not_active_of (hst.trans hx) (by rcases hne with rfl | rfl <;> decide)
    have ho : isSolo (lossNoted s) = false := not_solo_of (hst.trans hx) (by rcases hne with rfl | rfl <;> decide)
    obtain ⟨hf, hfst, _, hgo⟩ := enterFenced_effect ha ho
    refine ⟨hwide.trans (hf.mono (by decide) fun _ h => by simp [h]), hgo.pstate.trans (by rw [ht]),
      hgo.link.trans (by rw [ht]), hgo.lanes.trans (by rw [ht]), fun h => absurd h hp,
      fun _ => ⟨(congrArg (bit · 8) (hf.2 _ (by decide))).trans h8, rbit_enterFenced ha h6⟩, fun _ h => ?_,
      fun _ _ => hfst, fun h => ?_⟩
    all_goals rw [hx] at h; rcases hne with rfl | rfl <;> exact absurd h (by decide)
  rw [partnerLost_eq hp]
  split
  · next h =>
    exact ⟨hwide.setTwinSt _,
      by rw [ht]; rfl, by rw [ht]; rfl, by rw [ht]; rfl, fun h => absurd h hp, fun _ => ⟨h8, h6⟩,
      fun _ _ => ⟨hst.trans h, rfl⟩, fun _ hn => absurd h (by rcases hn with h | h <;> simp [h]),
      fun hn => absurd h (by simp [hn])⟩
  · next h => exact hfence h (.inl rfl)
  · next h => exact hfence h (.inr rfl)
  · next h1 h2 h3 =>
    exact ⟨hwide, by rw [ht], by rw [ht], by rw [ht], fun h => absurd h hp, fun _ => ⟨h8, h6⟩,
      fun _ h => absurd h h1, fun _ h => absurd h (not_or.2 ⟨h2, h3⟩), fun h => ⟨hst.trans h, by rw [ht]⟩⟩

/-! ### O56: the link goes down, HEALTH is missing -/

theorem within_flushAll (s : State) :
    Within [.regs, .mem, .fab, .galley, .comp] (fun a => a ∈ handRegs ∨ a ∈ answerRegs) s (flushAll s) := by
  rw [flushAll_eq]
  refine Within.foldl (.refl ..) fun u hu x _ => ?_
  unfold flushOne
  split
  · exact (hu.setGalley _).trans (within_settleTaken ..)
  · exact hu

/-- The loss of the partner, with what waited for it answered. -/
structure PartnerDone (s t : State) : Prop where
  gone : ∃ u, PartnerGone s u ∧ t.twin = u.twin ∧ (∀ a ∈ [aINTC_ALMSRC, aISTAT pgTWIN], rget t a = rget u a) ∧
    (s.galley.inflight = [] → t = u)
  flight : t.galley.inflight = []
  downs : rget t aTWIN_LINKDN_CNT = rget s aTWIN_LINKDN_CNT

theorem losePartner_effect (s : State) : PartnerDone s (losePartner s) := by
  have hg := partnerLost_effect s
  have hgal : (partnerLost s).galley = s.galley := hg.within.1 .galley (by decide)
  unfold losePartner
  dsimp only
  split
  · next h =>
    rw [List.isEmpty_iff] at h
    exact ⟨⟨_, hg, rfl, fun _ _ => rfl, fun _ => rfl⟩, by rw [hgal, h], hg.within.2 _ (by decide)⟩
  · next h =>
    rw [List.isEmpty_iff] at h
    have hf := within_flushAll (partnerLost s)
    obtain ⟨h1, _, h3, _⟩ := foldl_flushOne (partnerLost s).galley.inflight (u := partnerLost s) (Nat.le_refl _)
    rw [← flushAll_eq] at h1 h3
    refine ⟨⟨_, hg, h3, fun a ha => hf.2 a ?_, fun hn => absurd hn h⟩, h1, (hf.2 _ (by decide)).trans
      (hg.within.2 _ (by decide))⟩
    revert a ha
    decide

theorem laneChange_effect (l : BitVec 2) (s : State) : Within [.regs, .twin] (· = aISTAT pgTWIN) s (laneChange l s) ∧
    (laneChange l s).twin = { s.twin with lanes := l } ∧
    (s.twin.lanes ≠ l → rbit (laneChange l s) (aISTAT pgTWIN) 7 = true) := by
  unfold laneChange
  split
  · next h => exact ⟨.refl .., by rw [← h], fun hn => absurd h hn⟩
  · exact ⟨((Within.refl ..).setTwinSt _).iset (p := pgTWIN) 7 (by decide) rfl, rfl,
      fun _ => rbit_iset_any ⟨pgTWIN, by decide⟩ (by decide) _⟩

/-- The link is noted as down: lanes and link cleared, counted. -/
def linkNoted (s : State) : State :=
  cnt aTWIN_LINKDN_CNT (setTwinSt { (laneChange 0 s).twin with link := false, hello := false } (laneChange 0 s))

theorem linkNoted_effect (s : State) : Within [.regs, .twin] (· ∈ [aISTAT pgTWIN, aTWIN_LINKDN_CNT]) s (linkNoted s) ∧
    (linkNoted s).twin = { s.twin with lanes := 0, link := false, hello := false } ∧
    (spWf resetWord s.regs = true → rget (linkNoted s) aTWIN_LINKDN_CNT = rget s aTWIN_LINKDN_CNT + 1) := by
  obtain ⟨hw, ht, _⟩ := laneChange_effect 0 s
  refine ⟨((hw.mono (by decide) fun _ h => by simp [h]).setTwinSt _).cnt 1, ?_, fun hs => ?_⟩
  · show { (laneChange 0 s).twin with link := false, hello := false } = _
    rw [ht]
  · have hwf : spWf resetWord (laneChange 0 s).regs = true := by
      unfold laneChange
      split
      · exact hs
      · exact rset_regs_wf hs _ _
    refine (rget_cnt (s := setTwinSt _ (laneChange 0 s)) hwf _ 1).trans ?_
    exact congrArg (· + 1) (hw.2 _ (by decide))

theorem traliatLinkDown_up (h : s.twin.link = true) : traliatLinkDown s = losePartner (linkNoted s) :=
  if_neg (by simp [h])

/-- What the loss of the partner leaves in any case. -/
def afterLoss (s t : State) : Prop :=
  t.twin.pstate = 0xF ∧ t.galley.inflight = [] ∧
    (s.twin.pstate = 0xF → t.twin.st = s.twin.st) ∧
    (s.twin.pstate ≠ 0xF → rbit t aINTC_ALMSRC 8 = true ∧ rbit t (aISTAT pgTWIN) 6 = true ∧
      (s.twin.st = .standbyHot → t.twin.st = .standbyHot ∧
        t.twin.lossHold = some (s.tb.frame + zeroIs1 (rfld s aTWIN_CFG 23 16))) ∧
      (s.twin.st = .standbyWarm ∨ s.twin.st = .syncing → t.twin.st = .fenced)) ∧
    (isActive s = true → t.twin.st = .active ∧ t.twin.drive = s.twin.drive) ∧
    (s.galley.inflight = [] → KeepsBut [.regs, .twin, .arb, .fab] s t)

theorem afterLoss_losePartner {v : State} (hw : Within [.regs, .twin] (· ∈ [aISTAT pgTWIN, aTWIN_LINKDN_CNT]) s v)
    (hst : v.twin.st = s.twin.st) (hp : v.twin.pstate = s.twin.pstate) (hd : v.twin.drive = s.twin.drive) :
    afterLoss s (losePartner v) := by
  obtain ⟨⟨u, hg, ht, hr, heq⟩, hfl, _⟩ := losePartner_effect v
  have hgal : v.galley = s.galley := hw.1 .galley (by decide)
  have hfr : v.tb.frame = s.tb.frame := congrArg TimebaseSt.frame (hw.1 .tb (by decide))
  have hcfg : rfld v aTWIN_CFG 23 16 = rfld s aTWIN_CFG 23 16 := congrArg (bits · 23 16) (hw.2 _ (by decide))
  refine ⟨by rw [ht, hg.pstate], hfl, fun h => ?_, fun h => ?_, fun h => ?_, fun h => ?_⟩
  · rw [ht, hg.unknown (hp.trans h), hst]
  · rw [← hp] at h
    obtain ⟨h8, h6⟩ := hg.alarm h
    refine ⟨(congrArg (bit · 8)
      (hr _ (by simp))).trans h8, (congrArg (bit · 6) (hr _ (by simp))).trans h6, fun h' => ?_,
      fun h' => ?_⟩
    · rw [ht, ← hfr, ← hcfg]
      exact hg.hot h (hst.trans h')
    · rw [ht]
      exact hg.warm h (by rwa [hst])
  · rw [ht, ← hd]
    exact hg.active (hst.trans (by simpa [isActive] using h))
  · rw [heq (by rw [hgal, h])]
    exact ((hw.mono (B := fun _ => True) (by decide) fun _ _ => trivial).trans
      (hg.within.mono (by decide) fun _ _ => trivial)).1

theorem traliatLinkDown_effect (hs : Canonical s) (hl : s.twin.link = true) : afterLoss s (traliatLinkDown s) ∧
    (traliatLinkDown s).twin.link = false ∧ (traliatLinkDown s).twin.lanes = 0 ∧
    rget (traliatLinkDown s) aTWIN_LINKDN_CNT = rget s aTWIN_LINKDN_CNT + 1 := by
  obtain ⟨hw, ht, hc⟩ := linkNoted_effect s
  obtain ⟨⟨u, hg, htw, _⟩, _, hd⟩ := losePartner_effect (linkNoted s)
  rw [traliatLinkDown_up hl]
  refine ⟨afterLoss_losePartner hw (by rw [ht]) (by rw [ht]) (by rw [ht]), ?_, ?_, hd.trans (hc hs.1)⟩
  · rw [htw, hg.link, ht]
  · rw [htw, hg.lanes, ht]

theorem healthMissing_effect (hl : s.twin.link = true) : afterLoss s (healthMissing s) ∧
    (healthMissing s).twin.link = true ∧ (healthMissing s).twin.lanes = s.twin.lanes := by
  obtain ⟨⟨u, hg, htw, _⟩, _, hd⟩ := losePartner_effect s
  rw [show healthMissing s = losePartner s from if_pos hl]
  exact ⟨afterLoss_losePartner (.refl ..) rfl rfl rfl, by rw [htw, hg.link, hl], by rw [htw, hg.lanes]⟩

theorem traliatLinkDown_down (h : s.twin.link = false) : traliatLinkDown s = s := if_pos (by simp [h])

theorem healthMissing_down (h : s.twin.link = false) : healthMissing s = s := if_neg (by simp [h])

/-! ### O56: the link comes up, a lane changes -/

/-- What negotiation sends. -/
def negotiation (s : State) : CellBody :=
  .negotiate s.twin.paired (s.twin.leaseL - 1) (fs s) (rget s aSYS_CHIP_ID) (rfld s aSYS_STEPPING 7 0)
    (rget s aBOOT_IMG_CRC)
    (rfld s aBOOT_BADPRESS 15 0) s.twin.st.code

theorem sendCell_up {ch : Nat} {body : CellBody} (h : s.twin.link = true) : (sendCell ch body s).twin =
    { s.twin with
        seqTx := alSet s.twin.seqTx ch ((alGet 0 s.twin.seqTx ch + 1) % 65536)
        sent := (⟨ch, alGet 0 s.twin.seqTx ch, s.tb.frame % 2 ^ 20, body⟩ :: s.twin.sent).take 256 } := by
  unfold sendCell
  rw [if_pos h]

theorem traliatLinkUp_effect (l : BitVec 2) (hp : s.twin.paired = true) (hk : s.clk.lockS = true) (hl : l ≠ 0)
    (hg : rbit s aCLKGEN_DOMGATE 6 = false) :
    let t := traliatLinkUp l s
    t.twin.link = true ∧ t.twin.hello = true ∧ t.twin.lanes = l ∧
      (t.twin.sent.take 2).map (·.body) = [negotiation s, .hello] ∧ KeepsBut [.regs, .twin] s t ∧
      RegsOnly [aISTAT pgTWIN] s t := by
  obtain ⟨hw, ht, _⟩ := laneChange_effect l s
  set u := setTwinSt { (laneChange l s).twin with link := true, hello := true } (laneChange l s) with hu
  have he : traliatLinkUp l s = sendCell 8 (negotiation s) (sendCell 8 .hello u) :=
    if_neg (by simpa [hp, hk, hg] using hl)
  have h1 := sendCell_up (ch := 8) (body := .hello) (s := u) rfl
  have h2 := sendCell_up (ch := 8) (body := negotiation s) (s := sendCell 8 .hello u) (by rw [h1]; rfl)
  have hkeep : Within [.regs, .twin] (· = aISTAT pgTWIN) s (sendCell 8 (negotiation s) (sendCell 8 .hello u)) :=
    ((hw.setTwinSt _).trans ((within_sendCell ..).mono (by decide) fun _ h => h.elim)).trans
      ((within_sendCell ..).mono (by decide) fun _ h => h.elim)
  dsimp only
  rw [he]
  refine ⟨by rw [h2, h1]; rfl, by rw [h2, h1]; rfl, ?_, ?_, hkeep.1, fun a ha => hkeep.2 a (by simpa using ha)⟩
  · rw [h2, h1]
    show (laneChange l s).twin.lanes = l
    rw [ht]
  · rw [h2, h1]
    rfl

theorem traliatLinkUp_not {l : BitVec 2} (h : ¬ (s.twin.paired = true ∧ s.clk.lockS = true ∧ l ≠ 0 ∧
    rbit s aCLKGEN_DOMGATE 6 = false)) : traliatLinkUp l s = s := by
  refine if_pos ?_
  by_contra hn
  simp only [not_or, Bool.not_eq_true, Bool.not_eq_false] at hn
  exact h hn

theorem traliatLaneChange_not {l : BitVec 2} (h : s.twin.link = false ∨ l = 0 ∨ s.twin.lanes = l) :
    traliatLaneChange l s = s := by
  unfold traliatLaneChange laneChange
  rcases h with h | h | h
  · exact if_neg (by simp [h])
  · exact if_neg (by simp [h])
  · rw [if_pos h, ite_self]

theorem traliatLaneChange_eq {l : BitVec 2} (h : s.twin.link = true) (hl : l ≠ 0) : traliatLaneChange l s =
    laneChange l s :=
  if_pos ⟨h, hl⟩

/-! ### O56: CELL_RESEND -/

theorem cellResend_found {ch q : Nat} {c : CellOut} (hl : s.twin.link = true)
    (h : s.twin.sent.find? (fun c => c.ch == ch && c.seq == q) = some c) :
    cellResend ch q s = cnt aTWIN_RETX_CNT (setTwinSt { s.twin with sent := (c :: s.twin.sent).take 256 } s) := by
  unfold cellResend
  rw [h]
  exact if_pos hl

theorem cellResend_not {ch q : Nat} (h : s.twin.link = false ∨ s.twin.sent.find? (fun c => c.ch == ch && c.seq == q)
    = none) :
    cellResend ch q s = s := by
  unfold cellResend
  split
  · next c hc => exact if_neg (by rcases h with h | h <;> simp_all)
  · rfl

/-! ### O56: a cell that does not act -/

theorem mem_natPut (n : Nat) (l : List Nat) : n ∈ natPut n l := by
  induction l with
  | nil => simp [natPut]
  | cons h t ih =>
    unfold natPut
    split <;> simp [ih]

theorem cellIn_down {n : Nat} {h : CellHdr} (hl : s.twin.link = false) : cellIn n h s = (s, false) := if_pos
    (by simp [hl])

theorem cellIn_good {n : Nat} {h : CellHdr} (hl : s.twin.link = true) (hc : h.crcOk = true) : cellIn n h s =
    (s, true) := by
  unfold cellIn
  rw [if_neg (by simp [hl]), if_pos hc]

/-- A cell whose CRC fails. -/
structure CellBad (n : Nat) (h : CellHdr) (s t : State) : Prop where
  within : Within [.regs, .twin] (· = aTWIN_CELL_ERR_CNT) s t
  nak : t.twin.sent.head?.map (·.body) = some (.nak n h.seq.toNat)
  counted : rget t aTWIN_CELL_ERR_CNT = rget s aTWIN_CELL_ERR_CNT + 1
  st : t.twin.st = s.twin.st
  pstate : t.twin.pstate = s.twin.pstate
  galley : n = 4 → h.seq.toNat ∈ t.twin.galOwed
  fwd : n = 6 → h.seq.toNat ∈ t.twin.fwdOwed

theorem cellIn_bad (hs : spWf resetWord s.regs = true) (n : Nat) {h : CellHdr} (hl : s.twin.link = true)
    (hc : h.crcOk = false) : (cellIn n h s).2 = false ∧ CellBad n h s (cellIn n h s).1 := by
  set u := sendCell 8 (.nak n h.seq.toNat) (cnt aTWIN_CELL_ERR_CNT s) with hu
  have hw : Within [.regs, .twin] (· = aTWIN_CELL_ERR_CNT) s u :=
    ((Within.refl [.regs, .twin] (· = aTWIN_CELL_ERR_CNT) s).cnt (a := aTWIN_CELL_ERR_CNT) 1 (by decide) rfl).trans
      ((within_sendCell ..).mono (by decide) fun _ h => h.elim)
  have ht : u.twin = _ := sendCell_up (ch := 8) (body := .nak n h.seq.toNat) (s := cnt aTWIN_CELL_ERR_CNT s) hl
  have hcnt : rget u aTWIN_CELL_ERR_CNT = rget s aTWIN_CELL_ERR_CNT + 1 :=
    ((within_sendCell ..).2 _ id).trans (rget_cnt hs _ 1)
  have hhead : u.twin.sent.head?.map (·.body) = some (.nak n h.seq.toNat) := by rw [ht]; rfl
  have hst : u.twin.st = s.twin.st := by rw [ht]; rfl
  have hps : u.twin.pstate = s.twin.pstate := by rw [ht]; rfl
  unfold cellIn
  rw [if_neg (by simp [hl]), if_neg (by simp [hc])]
  refine ⟨rfl, ?_⟩
  dsimp only
  rw [← hu]
  split
  · next h6 =>
    exact ⟨hw.setTwinSt _, hhead, hcnt, hst, hps, fun h4 => absurd (h6.symm.trans h4)
      (by decide), fun _ => mem_natPut ..⟩
  split
  · next h6 h4 => exact ⟨hw.setTwinSt _, hhead, hcnt, hst, hps, fun _ => mem_natPut .., fun h => absurd h h6⟩
  · next h6 h4 => exact ⟨hw, hhead, hcnt, hst, hps, fun h => absurd h h4, fun h => absurd h h6⟩

section
variable {x : Nat} {n : Nat} {h : CellHdr}

theorem healthCell_stops {c : HealthCell} (hb : (cellIn 1 c.h (advance c.t s)).2 = false) :
    healthCell c s = (cellIn 1 c.h (advance c.t s)).1 := by
  simp [healthCell, hb]

theorem decCell_stops {c : DecCell} (hb : (cellIn 2 c.h (advance c.t s)).2 = false) :
    decCell c s = (cellIn 2 c.h (advance c.t s)).1 := by
  simp [decCell, hb]

theorem mirrorCell_stops {c : MirrorCell} (hb : (cellIn 3 c.h (advance c.t s)).2 = false) :
    mirrorCell c s = (cellIn 3 c.h (advance c.t s)).1 := by
  simp [mirrorCell, hb]

theorem galleyCell_stops {c : GalleyCell} (hb : (cellIn 4 c.h s).2 = false) : galleyCell c s = (cellIn 4 c.h s).1 := by
  simp [galleyCell, hb]

theorem writeCell_stops {c : DataCell} (hb : (cellIn 5 c.h s).2 = false) : writeCell c s = (cellIn 5 c.h s).1 := by
  simp [writeCell, hb]

theorem fwdCell_stops {c : DataCell} (hb : (cellIn 6 c.h s).2 = false) : fwdCell c s = (cellIn 6 c.h s).1 := by
  simp [fwdCell, hb]

theorem bulkCell_stops {c : DataCell} (hb : (cellIn 7 c.h s).2 = false) : bulkCell c s = (cellIn 7 c.h s).1 := by
  simp [bulkCell, hb]

theorem ctrlCell_stops {c : CtrlCell} (hb : (cellIn 8 c.h s).2 = false) : ctrlCell c s = (cellIn 8 c.h s).1 := by
  simp [ctrlCell, hb]

theorem advance_zero (s : State) : advance 0 s = s := if_pos (Nat.zero_le _)

/-- A cell whose content does not apply leaves what its reception leaves. -/
theorem runs_cellStops {c : Instr} (hc : cellOf c = some (n, h, x)) (ho : inOperation s)
    {P : State → Prop} (hb : (cellIn n h (advance x s)).2 = false) (hboot : (cellIn n h (advance x s)).1.boot = s.boot)
    (hP : P (cellIn n h (advance x s)).1) : Runs c s P := by
  unfold cellOf at hc
  split at hc
  case h_9 => exact absurd hc (by simp)
  all_goals
    obtain ⟨rfl, rfl, rfl⟩ : _ = n ∧ _ = h ∧ _ = x := by simpa using hc
  case h_1 => exact runs_awake ho.1 rfl (by rwa [healthCell_stops hb])
  case h_2 => exact runs_awake ho.1 rfl (by rwa [decCell_stops hb])
  case h_3 => exact runs_awake ho.1 rfl (by rwa [mirrorCell_stops hb])
  all_goals rw [advance_zero] at hb hboot hP
  case h_4 => exact runs_awake ho.1 rfl (by rwa [galleyCell_stops hb])
  case h_5 => exact runs_awake ho.1 rfl (by rwa [writeCell_stops hb])
  case h_6 => exact runs_awake ho.1 rfl (by rwa [fwdCell_stops hb])
  case h_7 => exact runs_awake ho.1 rfl (by rwa [bulkCell_stops hb])
  case h_8 => exact runs_inOperation ho rfl (by rwa [ctrlCell_stops hb]) (by rwa [ctrlCell_stops hb])

end

/-! ### O56: HEALTH_CELL -/

theorem requestRelease_twinOnly (r : Release) (s : State) :
    Within [.twin] (fun _ => False) s (requestRelease r s) ∧
      (requestRelease r s).twin = { s.twin with release := (requestRelease r s).twin.release } := by
  unfold requestRelease
  split
  · exact ⟨⟨fun p hp => by cases p <;> first | rfl | exact absurd (by decide) hp, fun _ _ => rfl⟩, rfl⟩
  · exact ⟨.refl .., rfl⟩

/-- What HEALTH tells of the partner. -/
def healthTold (c : HealthCell) (u : State) : TwinSt :=
  { u.twin with
      pstate := c.state.val, pDeadline := c.deadline, pHotT := if c.state.val = 2 then some u.now else none
      pCrc := ((c.frame, c.crc) :: u.twin.pCrc).take 8
      pCheck := match c.check with | some x => some x | none => u.twin.pCheck }

/-- The partner of an ACTIVE that reports that it stands by no more: alarm, and the flight is answered. -/
def partnerDown (c : HealthCell) (was : Nat) (u : State) : State :=
  if (was = 2 ∨ was = 3 ∨ was = 4) ∧ (c.state.val = 5 ∨ c.state.val = 6) ∧ isActive u then
    (let y := alarm 8 (iset pgTWIN 6 (setTwinSt (healthTold c u) u))
     if y.galley.inflight.isEmpty then y else flushAll y)
  else setTwinSt (healthTold c u) u

theorem partnerDown_effect (c : HealthCell) (was : Nat) (u : State) :
    (partnerDown c was u).twin = healthTold c u ∧
    (isActive u = true → 2 ≤ was → was ≤ 4 → 5 ≤ c.state.val →
      rbit (partnerDown c was u) aINTC_ALMSRC 8 = true ∧ (partnerDown c was u).galley.inflight = []) ∧
    (isActive u = false → partnerDown c was u = setTwinSt (healthTold c u) u) := by
  unfold partnerDown
  refine ⟨?_, fun ha h2 h4 h5 => ?_, fun ha => if_neg fun h => by simp [ha] at h⟩
  · split
    · dsimp only
      split
      · rfl
      · exact (foldl_flushOne _ (Nat.le_refl _)).2.2.1
    · rfl
  · have hst : c.state.val = 5 ∨ c.state.val = 6 := by omega
    rw [if_pos ⟨by omega, hst, ha⟩]
    dsimp only
    have h8 := rbit_alarm (b := 8) (by decide) (iset pgTWIN 6 (setTwinSt (healthTold c u) u))
    split
    · next he => exact ⟨h8, List.isEmpty_iff.1 he⟩
    · exact ⟨(congrArg (bit · 8) ((within_flushAll _).2 _ (by decide))).trans h8, (foldl_flushOne _ (Nat.le_refl _)).1⟩

/-- What HEALTH leaves when it acts. -/
theorem healthCell_acts (c : HealthCell) (hl : s.twin.link = true) (hc : c.h.crcOk = true) :
    ∃ v, (v = partnerDown c s.twin.pstate (advance c.t s) ∨
        v = requestRelease (.fault 6) (partnerDown c s.twin.pstate (advance c.t s))) ∧
      (healthCell c s = v ∨ healthCell c s = { v with tb := { v.tb with frame := c.frame + 1 } }) := by
  have htw : (advance c.t s).twin = s.twin := (within_advance c.t s).1 .twin (by decide)
  unfold healthCell
  rw [cellIn_good (by rw [htw, hl]) hc]
  extract_lets r u was st told s1 noted s2 s3
  refine ⟨s3, ?_, ?_⟩
  · have h2 : s2 = partnerDown c s.twin.pstate (advance c.t s) := by
      unfold s2 partnerDown
      rw [← htw]
      rfl
    unfold s3
    rw [h2]
    split
    · exact .inr rfl
    · exact .inl rfl
  · rw [if_neg (by simp [r])]
    split
    · exact .inr rfl
    · exact .inl rfl

theorem healthCell_effect (c : HealthCell) (hl : s.twin.link = true) (hc : c.h.crcOk = true) :
    let t := healthCell c s
    (∃ r, t.twin = { healthTold c (advance c.t s) with release := r }) ∧
    (isActive s = true → 2 ≤ s.twin.pstate → s.twin.pstate ≤ 4 → 5 ≤ c.state.val →
      rbit t aINTC_ALMSRC 8 = true ∧ t.galley.inflight = []) ∧
    (isActive s = false → KeepsBut [.now, .ptp, .regs, .twin, .tb] s t) := by
  have hadv := within_advance c.t s
  have hact : isActive (advance c.t s) = isActive s := congrArg (fun x : TwinSt => x.st == .active)
      (hadv.1 .twin (by decide))
  obtain ⟨v, hv, ht⟩ := healthCell_acts c hl hc
  obtain ⟨hd1, hd2, hd3⟩ := partnerDown_effect c s.twin.pstate (advance c.t s)
  set d := partnerDown c s.twin.pstate (advance c.t s)
  have hvd : Within [.twin] (fun _ => False) d v ∧ ∃ r, v.twin = { d.twin with release := r } := by
    rcases hv with rfl | rfl
    · exact ⟨.refl .., _, rfl⟩
    · exact ⟨(requestRelease_twinOnly _ d).1, _, (requestRelease_twinOnly _ d).2⟩
  obtain ⟨hw, r, hr⟩ := hvd
  rw [hd1] at hr
  have hal (ha : isActive s = true) (h2 : 2 ≤ s.twin.pstate) (h4 : s.twin.pstate ≤ 4) (h5 : 5 ≤ c.state.val) :
      rbit v aINTC_ALMSRC 8 = true ∧ v.galley.inflight = [] := by
    obtain ⟨h8, hfl⟩ := hd2 (hact.trans ha) h2 h4 h5
    exact ⟨(congrArg (bit · 8) (hw.2 _ id)).trans h8, (congrArg GalleySt.inflight (hw.1 .galley (by decide))).trans hfl⟩
  have hkeep (ha : isActive s = false) : Within [.now, .ptp, .regs, .twin, .tb] (fun _ => True) s v := by
    refine Within.trans ?_ (hw.mono (by decide) fun _ h => h.elim)
    rw [hd3 (hact.trans ha)]
    exact (hadv.mono (by decide) fun _ h => h.elim).setTwinSt _
  rcases ht with ht | ht
  · dsimp only
    rw [ht]
    exact ⟨⟨r, hr⟩, hal, fun ha => (hkeep ha).1⟩
  · dsimp only
    rw [ht]
    exact ⟨⟨r, hr⟩, hal, fun ha => ((hkeep ha).setTb _).1⟩

/-! ### O56: DEC_CELL -/

/-- The active's samples of a frame stand in the time base. -/
structure DecSamples (c : DecBody) (old new : TimebaseSt) : Prop where
  ptp : new.ptpNow = c.ptp.toNat
  pos : new.posNow = c.pos
  cnt : new.cntNow = c.cnt.toNat
  spd : new.spdNow = c.speed
  pend : new.pend = c.pend
  frame : new.frame = old.frame
  sel : new.selWait = false

theorem twin_lateCell (t : Nat) (s : State) : Within [.twin] (fun _ => False) s (lateCell t s) ∧
    (lateCell t s).twin = { s.twin with selfBad := (lateCell t s).twin.selfBad } := by
  unfold lateCell markBad
  split
  · exact ⟨⟨fun p hp => by cases p <;> first | rfl | exact absurd (by decide) hp, fun _ _ => rfl⟩, rfl⟩
  · exact ⟨.refl .., rfl⟩

/-- The state in which a DEC cell is judged. -/
def decHere (x : DecCell) (s : State) : State := lateCell x.t (advance x.t s)

theorem decHere_effect (x : DecCell) (s : State) : Within [.now, .ptp, .twin] (fun _ => False) s (decHere x s) ∧
    (decHere x s).twin = { s.twin with selfBad := (decHere x s).twin.selfBad } := by
  have hadv := within_advance x.t s
  obtain ⟨hw, ht⟩ := twin_lateCell x.t (advance x.t s)
  refine ⟨(hadv.mono (by decide) fun _ h => h).trans (hw.mono (by decide) fun _ h => h), ht.trans ?_⟩
  rw [show (advance x.t s).twin = s.twin from hadv.1 .twin (by decide)]
  rfl

theorem usesDec_decHere (x : DecCell) (s : State) : usesDec (decHere x s) = usesDec s := by
  unfold usesDec followsTwin
  rw [(decHere_effect x s).2]

theorem tb_decHere (x : DecCell) (s : State) : (decHere x s).tb = s.tb := (decHere_effect x s).1.1 .tb (by decide)

theorem decCell_ignored {x : DecCell} (hl : s.twin.link = true) (hc : x.h.crcOk = true) (hu : usesDec s = false) :
    decCell x s = decHere x s := by
  have htw : (advance x.t s).twin = s.twin := (within_advance x.t s).1 .twin (by decide)
  unfold decCell
  extract_lets k r u move _ ran t wait s1 s2 s3 s4 s5 s6 at_
  have hr : r = (advance x.t s, true) := cellIn_good (by rw [htw, hl]) hc
  have hd : u = decHere x s := by
    unfold u decHere
    rw [hr]
    exact if_pos rfl
  have hno : usesDec u = false := by rw [hd, usesDec_decHere, hu]
  exact (if_pos (.inr (by simp [hno]))).trans hd

/-- What a DEC cell leaves on a device that follows: the samples where they are of the present frame, the marks of
  the clocks. -/
theorem decCell_acts {x : DecCell} (hl : s.twin.link = true) (hc : x.h.crcOk = true) (hu : usesDec s = true) :
    (x.d.frame = s.tb.frame → DecSamples x.d s.tb (decCell x s).tb) ∧
    (x.d.frame ≠ s.tb.frame → (decCell x s).tb = s.tb) ∧
    (decCell x s).clk.pps.next = s.clk.pps.next.map fun _ => x.d.frame + x.d.pps := by
  have htw : (advance x.t s).twin = s.twin := (within_advance x.t s).1 .twin (by decide)
  unfold decCell
  extract_lets k r u move _ ran t wait s1 s2 s3 s4 s5 s6 at_
  have hr : r = (advance x.t s, true) := cellIn_good (by rw [htw, hl]) hc
  have hd : u = decHere x s := by
    unfold u decHere
    rw [hr]
    exact if_pos rfl
  have hyes : usesDec u = true := by rw [hd, usesDec_decHere, hu]
  have htb : u.tb = s.tb := by rw [hd, tb_decHere]
  have hclk : s1.clk = s.clk := by
    have h0 : u.clk = s.clk := by rw [hd]; exact (decHere_effect x s).1.1 .clk (by decide)
    unfold s1
    split <;> exact h0
  have h6 : KeepsBut [.regs, .mem, .comp, .galley, .ports, .net, .twin, .cistern, .fab] s1 s6 := by
    refine keepsBut_of fun hsub h1 => ?_
    have hs2 := Keeps.ite (p := wait = true) h1.selectNow h1
    have hs3 : Keeps _ s1 s3 := (hs2.foldl fun _ _ hv => hv.groupDecide ..).foldl fun _ _ hv => hv.aesDecide ..
    have hs4 : Keeps _ s1 s4 := (hs3.foldl fun _ _ hv => (hv.rset ..).setPorts ..).rset ..
    have hs5 : Keeps _ s1 s5 := hs4.foldl fun _ _ hv => hv.standbyUse ..
    exact hs5.foldl fun _ _ hv => hv.flowDecide ..
  have htb6 : s6.tb = s1.tb := h6 .tb (by decide)
  have hclk6 : s6.clk = s.clk := Eq.trans (h6 .clk (by decide)) hclk
  have he (a b : State) : (if ¬ r.2 = true ∨ ¬ usesDec u = true then a else b) = b :=
    if_neg (by rw [hr]; simp [hyes])
  have hsame : x.d.frame = s.tb.frame → s1 = setTb { t with selWait := false } u := fun h =>
    if_pos (h.trans (congrArg TimebaseSt.frame htb).symm)
  have hkept : x.d.frame ≠ s.tb.frame → s1 = u := fun h =>
    if_neg fun h' => h (h'.trans (congrArg TimebaseSt.frame htb))
  refine (he _ _).symm ▸ ⟨fun h => ?_, fun h => ?_, ?_⟩
  · change DecSamples x.d s.tb s6.tb
    rw [htb6, hsame h]
    exact ⟨rfl, rfl, rfl, rfl, rfl, Eq.trans (b := u.tb.frame) rfl (by rw [htb]), rfl⟩
  · change s6.tb = s.tb
    rw [htb6, hkept h, htb]
  · change s6.clk.pps.next.map _ = _
    rw [hclk6]

theorem decCell_other {x : DecCell} (hl : s.twin.link = true) (hc : x.h.crcOk = true) (hu : usesDec s = false) :
    KeepsBut [.now, .ptp, .twin] s (decCell x s) ∧ (decCell x s).twin.st = s.twin.st ∧
      (x.t ≤ s.tb.tickT + 2000000 → decCell x s = advance x.t s) := by
  rw [decCell_ignored hl hc hu]
  refine ⟨(decHere_effect x s).1.1, by rw [(decHere_effect x s).2], fun h => if_neg ?_⟩
  rw [show (advance x.t s).tb = s.tb from (within_advance x.t s).1 .tb (by decide)]
  omega

/-! ### O56: MIRROR_CELL -/

theorem alGet_foldl_alSet (k : Nat) (l : List (Nat × Int)) : ∀ (al : List (Nat × Int)) (v : Int),
    (∀ y ∈ l, y.1 = k → y.2 = v) → (alGet 0 al k = v ∨ ∃ y ∈ l, y.1 = k) →
    alGet 0 (l.foldl (fun al y => alSet al y.1 y.2) al) k = v := by
  induction l with
  | nil => exact fun al v _ h => h.resolve_right (by simp)
  | cons y l ih =>
    intro al v hv h
    refine ih _ v (fun z hz => hv z (List.mem_cons_of_mem _ hz)) ?_
    dsimp only
    by_cases hy : y.1 = k
    · left
      rw [hy, alGet_alSet_same, hv y List.mem_cons_self hy]
    · rw [alGet_alSet_ne _ _ _ (Ne.symm hy)]
      refine h.imp_right ?_
      rintro ⟨z, hz, hzk⟩
      exact ⟨z, (List.mem_cons.1 hz).resolve_left (fun e => hy (e ▸ hzk)), hzk⟩

theorem mirrorCell_late {c : MirrorCell} (hl : s.twin.link = true) (hc : c.h.crcOk = true)
    (hf : c.frame + 1 ≠ s.tb.frame) :
    mirrorCell c s = advance c.t s := by
  have hadv := within_advance c.t s
  unfold mirrorCell
  rw [cellIn_good (by rw [show (advance c.t s).twin = s.twin from hadv.1 .twin (by decide), hl]) hc]
  exact if_pos (.inr (by rwa [show (advance c.t s).tb = s.tb from hadv.1 .tb (by decide)]))

/-- The mirrored samples of a frame that is used. -/
def mirrored (c : MirrorCell) (u : State) : State :=
  setTwinSt { u.twin with
    mirrorIn := (c.samples.map fun x => (x.1.val, sgn 32 x.2.toNat)).foldl (fun l x => alSet l x.1 x.2) u.twin.mirrorIn
    mirrorCh := (u.twin.mirrorCh ++ (c.samples.map fun x => (x.1.val, sgn 32 x.2.toNat)).map (·.1)).dedup } u

theorem mirrorCell_now {c : MirrorCell} (hl : s.twin.link = true) (hc : c.h.crcOk = true)
    (hf : c.frame + 1 = s.tb.frame) :
    mirrorCell c s = mirrored c (lateCell c.t (advance c.t s)) := by
  have hadv := within_advance c.t s
  unfold mirrorCell
  rw [cellIn_good (by rw [show (advance c.t s).twin = s.twin from hadv.1 .twin (by decide), hl]) hc]
  exact if_neg (by rw [show (advance c.t s).tb = s.tb from hadv.1 .tb (by decide)]; simpa using hf)

theorem mirrorCell_effect {c : MirrorCell} (hl : s.twin.link = true) (hc : c.h.crcOk = true)
    (hf : c.frame + 1 = s.tb.frame) :
    let t := mirrorCell c s
    (∀ x ∈ c.samples, x.1.val ∈ t.twin.mirrorCh) ∧
      (∀ x ∈ c.samples, (∀ y ∈ c.samples, y.1 = x.1 → y = x) → alGet 0 t.twin.mirrorIn x.1.val = sgn 32 x.2.toNat) ∧
      KeepsBut [.now, .ptp, .twin] s t := by
  dsimp only
  rw [mirrorCell_now hl hc hf]
  refine ⟨fun x hx => ?_, fun x hx hy => ?_, ?_⟩
  · refine List.mem_dedup.2 (List.mem_append_right _ ?_)
    rw [List.map_map]
    exact List.mem_map_of_mem hx
  · refine alGet_foldl_alSet _ _ _ _ (fun z hz hk => ?_) (.inr ⟨_, List.mem_map_of_mem hx, rfl⟩)
    obtain ⟨y, hym, rfl⟩ := List.mem_map.1 hz
    rw [hy y hym (Fin.ext hk)]
  · exact ((((within_advance c.t s).mono (m := [.now, .ptp, .twin]) (B := fun _ => False)
      (by decide) fun _ h => h).trans
      ((twin_lateCell c.t _).1.mono (by decide) fun _ h => h)).setTwinSt _).1

/-! ### O56: GALLEY_CELL -/

/-- The event that a replicated journal slot names. -/
def slotEv (k : Word) (e : Entry) (p : List Word) (f : Nat) (d : Option Nat) (u x : Bool) : Ev :=
  { ticket := k, e := e, payload := p, f0 := f, due := d, passed := u, depDead := x, land := 0, out := none }

theorem galleyCell_standby {c : GalleyCell} (hl : s.twin.link = true) (hc : c.h.crcOk = true)
    (hst : s.twin.st = .standbyHot ∨ s.twin.st = .standbyWarm) : galleyCell c s =
    (let owed := s.twin.galOwed.filter (· != c.h.seq.toNat)
     let held := galPut (c.h.seq.toNat, c.m) s.twin.galHeld
     let ready (x : Nat × GalleyMsg) : Bool := owed.all fun o => seqBefore x.1 o
     (held.filter ready).foldl (fun s x => galleyMsg x.2 s)
       (setTwinSt { s.twin with galOwed := owed, galHeld := held.filter fun x => !ready x } s)) := by
  unfold galleyCell
  rw [cellIn_good hl hc]
  exact if_neg fun h => h.elim (fun h => h rfl) fun h => h hst

theorem galleyCell_other {c : GalleyCell} (hl : s.twin.link = true) (hc : c.h.crcOk = true)
    (hst : ¬ (s.twin.st = .standbyHot ∨ s.twin.st = .standbyWarm)) : galleyCell c s = s := by
  unfold galleyCell
  rw [cellIn_good hl hc]
  exact if_pos (.inr hst)

theorem galleyCell_inOrder {c : GalleyCell} (hl : s.twin.link = true) (hc : c.h.crcOk = true)
    (hst : s.twin.st = .standbyHot ∨ s.twin.st = .standbyWarm) (ho : galInOrder s c.h.seq.toNat) :
    galleyCell c s = galleyMsg c.m (setTwinSt { s.twin with galOwed := [], galHeld := [] } s) := by
  obtain ⟨hh, ho⟩ := ho
  have howed : s.twin.galOwed.filter (· != c.h.seq.toNat) = [] :=
    List.filter_eq_nil_iff.2 fun o h => by simp [ho o h]
  rw [galleyCell_standby hl hc hst]
  dsimp only
  rw [howed, hh]
  rfl

theorem galleyCell_waits {c : GalleyCell} (hl : s.twin.link = true) (hc : c.h.crcOk = true)
    (hst : s.twin.st = .standbyHot ∨ s.twin.st = .standbyWarm) (hh : s.twin.galHeld = [])
    (ho : ∃ o ∈ s.twin.galOwed, o ≠ c.h.seq.toNat ∧ seqBefore c.h.seq.toNat o = false) :
    galleyCell c s = setTwinSt { s.twin with
      galOwed := s.twin.galOwed.filter (· != c.h.seq.toNat), galHeld := [(c.h.seq.toNat, c.m)] } s := by
  obtain ⟨o, hmem, hne, hb⟩ := ho
  have hready : (s.twin.galOwed.filter (· != c.h.seq.toNat)).all (fun o => seqBefore c.h.seq.toNat o) = false := by
    rw [List.all_eq_false]
    exact ⟨o, List.mem_filter.2 ⟨hmem, by simpa using hne⟩, by simp [hb]⟩
  rw [galleyCell_standby hl hc hst]
  dsimp only
  rw [hh]
  generalize s.twin.galOwed.filter (· != c.h.seq.toNat) = owed at hready
  simp [galPut, hready]

theorem twin_handOver (ev : Ev) (noTable : Bool) (s : State) : (handOver ev noTable s).twin = s.twin :=
  (settles_handOver ev noTable s).within.1 .twin (by decide)

theorem standbySlot_effect (hs : spWf resetWord s.regs = true) (hl : s.twin.link = true) (ev : Ev) :
    let t := standbySlot ev s
    rget t aGALLEY_TICKET_LAST = laterTicket (rget s aGALLEY_TICKET_LAST) ev.ticket ∧
      t.twin.sent.head?.map (·.body) = some (.ack ev.ticket) ∧ t.twin.galOwed = s.twin.galOwed ∧
      (¬ (ev.e.opcode = opCancel ∧ ev.e.axis = 0) → ev ∈ t.comp.queue) := by
  have hj : (journal ev s).twin = s.twin := (within_journal ev s).1.1 .twin (by decide)
  set u := handOver ev false (journal ev s) with hu
  have htw : u.twin = s.twin := (twin_handOver ..).trans hj
  have hsend := within_sendCell 4 (.ack ev.ticket) u
  have ht := sendCell_up (ch := 4) (body := .ack ev.ticket) (s := u) (by rw [htw, hl])
  refine ⟨?_, ?_, ?_, fun h => ?_⟩
  · exact ((hsend.2 _ id).trans ((settles_handOver ..).within.2 _ (by decide))).trans (ticketLast_journal hs ev)
  · show (sendCell 4 (.ack ev.ticket) u).twin.sent.head?.map _ = _
    rw [ht]
    rfl
  · show (sendCell 4 (.ack ev.ticket) u).twin.galOwed = _
    rw [ht, ← htw]
  · have hq : (standbySlot ev s).comp.queue = (journal ev s).comp.queue ++ [ev] :=
      (congrArg CompositorSt.queue (hsend.1 .comp (by decide))).trans (queue_handOver h ..)
    rw [hq]
    simp

theorem galleySlot_effect (hs : Canonical s) {c : GalleyCell} (hl : s.twin.link = true) (hc : c.h.crcOk = true)
    (hst : s.twin.st = .standbyHot ∨ s.twin.st = .standbyWarm) (ho : galInOrder s c.h.seq.toNat)
    {k : Word} {e : Entry} {p : List Word} {f : Nat} {d : Option Nat} {u x : Bool} (hm : c.m = .slot k e p f d u x) :
    let t := galleyCell c s
    rget t aGALLEY_TICKET_LAST = laterTicket (rget s aGALLEY_TICKET_LAST) k ∧
      t.twin.sent.head?.map (·.body) = some (.ack k) ∧ t.twin.galOwed = [] ∧
      (e.opcode = opCancel ∧ e.axis = 0 ∨ ∃ ev ∈ t.comp.queue, ev.ticket = k ∧ ev.e = e ∧ ev.due = d) := by
  obtain ⟨h1, h2, h3, h4⟩ := standbySlot_effect (s := setTwinSt { s.twin with galOwed := [], galHeld := [] } s) hs.1 hl
    (slotEv k e p f d u x)
  rw [galleyCell_inOrder hl hc hst ho, hm]
  exact ⟨h1, h2, h3, (Classical.em _).imp_right fun hn => ⟨_, h4 hn, rfl, rfl, rfl⟩⟩

theorem galleyReset_effect {c : GalleyCell} (hl : s.twin.link = true) (hc : c.h.crcOk = true)
    (hst : s.twin.st = .standbyHot ∨ s.twin.st = .standbyWarm) (ho : galInOrder s c.h.seq.toNat) {m : BitVec 16}
    (hm : c.m = .clientRst m) :
    let t := galleyCell c s
    (∀ i x, s.galley.clients[i]? = some x →
        t.galley.clients[i]? = some (if m.getLsbD i then ⟨false, x.seq, []⟩ else x)) ∧ KeepsBut [.twin, .galley] s
          t := by
  rw [galleyCell_inOrder hl hc hst ho, hm]
  refine ⟨fun i x hx => ?_, fun p hp => by cases p <;> first | rfl | exact absurd (by decide) hp⟩
  change (s.galley.clients.mapIdx _)[i]? = _
  rw [List.getElem?_mapIdx, hx]
  rfl

/-! ### O56: WRITE_CELL, FWD_CELL, BULK_CELL -/

theorem cellWord_plain {x : Nat × Word} (h : isPageAddr x.1 = false) (s : State) : cellWord x s = stWord x.1 x.2 s :=
  if_pos (by simp [h])

/-- A word on a page that does not act as it arrives is stored in its register. -/
theorem cellWord_page {a : Nat} (v : Word) (hp : isPageAddr a = true) (hc : copyActs (pageOf a) = false)
    (h1 : a ≠ aTIMEBASE_WHEEL_CIRC) (h2 : a ≠ aTIMEBASE_WHEEL_PPR) (s : State) : cellWord (a, v) s = rset a v s := by
  unfold cellWord
  rw [if_neg (by simp [hp])]
  dsimp only
  rw [if_neg (not_or.2 ⟨h1, h2⟩), if_neg (by simp [hc])]

/-- Words apart from one another, none on a page, stand in memory once they have been taken one after another. -/
theorem wordsTaken_foldl (ws : List (Nat × Word)) : ∀ {s : State}, Memory.wf s.mem → plainWords ws →
    wordsTaken ws s (ws.foldl (fun s x => cellWord x s) s) ∧
      Within [.regs, .mem, .fab] (· = aISTAT pgECC) s (ws.foldl (fun s x => cellWord x s) s) := by
  induction ws with
  | nil => exact fun _ _ => ⟨⟨by simp, fun _ _ => rfl⟩, .refl ..⟩
  | cons x ws ih =>
    intro s hs hp
    obtain ⟨hpage, happ⟩ := hp
    obtain ⟨hx, hws⟩ := List.pairwise_cons.1 happ
    have h1 : cellWord x s = stWord x.1 x.2 s := cellWord_plain (hpage x List.mem_cons_self) s
    obtain ⟨⟨hin, hout⟩, hw⟩ := ih (s := cellWord x s) (by rw [h1]; exact stWord_mem_wf hs ..)
      ⟨fun y hy => hpage y (List.mem_cons_of_mem _ hy), hws⟩
    rw [List.foldl_cons]
    refine ⟨⟨fun y hy => ?_, fun b hb => ?_⟩, ?_⟩
    · rcases List.mem_cons.1 hy with rfl | hy
      · refine Eq.trans (rdWord_congr fun b hb hb' => hout b fun z hz => ?_) (by rw [h1]; exact rdWord_stWord hs ..)
        have := hx z hz
        omega
      · exact hin y hy
    · have hbx := hb x List.mem_cons_self
      refine (hout b fun z hz => hb z (List.mem_cons_of_mem _ hz)).trans ?_
      rw [h1]
      exact rdByte_stWord_ne _ _ _ (by omega)
    · exact Within.trans (by rw [h1]; exact within_stWord ..) hw

theorem writeCell_takes {c : DataCell} (hl : s.twin.link = true) (hc : c.h.crcOk = true) (hf : followsTwin s = true)
    (hok : writeCellOk c.part = true) : writeCell c s = takePart c.part s := by
  unfold writeCell
  rw [cellIn_good hl hc]
  exact if_pos ⟨rfl, hf, hok⟩

theorem writeCell_not {c : DataCell} (hl : s.twin.link = true) (hc : c.h.crcOk = true)
    (h : followsTwin s = false ∨ writeCellOk c.part = false) : writeCell c s = s := by
  unfold writeCell
  rw [cellIn_good hl hc]
  exact if_neg (by rcases h with h | h <;> simp [h])

theorem fwdCell_takes {c : DataCell} (hl : s.twin.link = true) (hc : c.h.crcOk = true) (hst : s.twin.st = .syncing) :
    fwdCell c s =
      takePart c.part (setTwinSt { s.twin with fwdOwed := s.twin.fwdOwed.filter (· != c.h.seq.toNat) } s) := by
  unfold fwdCell
  rw [cellIn_good hl hc]
  exact if_pos ⟨rfl, hst⟩

theorem fwdCell_not {c : DataCell} (hl : s.twin.link = true) (hc : c.h.crcOk = true) (hst : s.twin.st ≠ .syncing) :
    fwdCell c s = s := by
  unfold fwdCell
  rw [cellIn_good hl hc]
  exact if_neg fun h => hst h.2

/-- The copy as BULK takes it: in phase 1 the regions that differ are noted. -/
def bulkNoted (p : DataPart) (s : State) : State :=
  setTwinSt { s.twin with
    diffs := if s.twin.phase = 1 then (s.twin.diffs ++ regionsOf p).dedup else s.twin.diffs } s

theorem bulkCell_takes {c : DataCell} (hl : s.twin.link = true) (hc : c.h.crcOk = true) (hst : s.twin.st = .syncing) :
    bulkCell c s = takePart c.part (bulkNoted c.part s) := by
  unfold bulkCell
  rw [cellIn_good hl hc]
  dsimp only
  rw [if_neg (by simp), if_pos hst]
  rfl

theorem bulkCell_warm {c : DataCell} (hl : s.twin.link = true) (hc : c.h.crcOk = true) (hst : s.twin.st = .standbyWarm)
    {ws : List (Nat × Word)} (hp : c.part = .sys ws) : bulkCell c s = s := by
  unfold bulkCell
  rw [cellIn_good hl hc]
  dsimp only
  rw [if_neg (by simp), if_neg (by simp [hst]), if_pos hst, hp]

theorem bulkCell_not {c : DataCell} (hl : s.twin.link = true) (hc : c.h.crcOk = true) (hst : s.twin.st ≠ .syncing)
    (hw : s.twin.st ≠ .standbyWarm) : bulkCell c s = s := by
  unfold bulkCell
  rw [cellIn_good hl hc]
  dsimp only
  rw [if_neg (by simp), if_neg hst, if_neg hw]

section
variable {h : CellHdr} {ws : List (Nat × Word)} (hs : Canonical s) (hl : s.twin.link = true) (hc : h.crcOk = true)
include hs hl hc

theorem writeCell_words (hf : followsTwin s = true) (hok : writeCellOk (.sys ws) = true) (hp : plainWords ws) :
    let t := writeCell ⟨h, .sys ws⟩ s
    wordsTaken ws s t ∧ KeepsBut [.mem, .fab, .regs] s t ∧ RegsOnly [aISTAT pgECC] s t := by
  obtain ⟨hw, hk⟩ := wordsTaken_foldl ws hs.2.1 hp
  rw [writeCell_takes hl hc hf hok]
  exact ⟨hw, (hk.mono (by decide) fun _ h => h).1, fun a ha => hk.2 a (by simpa using ha)⟩

theorem fwdCell_words (hst : s.twin.st = .syncing) (hp : plainWords ws) :
    let t := fwdCell ⟨h, .sys ws⟩ s
    wordsTaken ws s t ∧ h.seq.toNat ∉ t.twin.fwdOwed ∧ KeepsBut [.mem, .fab, .regs, .twin] s t := by
  obtain ⟨hw, hk⟩ := wordsTaken_foldl ws
    (s := setTwinSt { s.twin with fwdOwed := s.twin.fwdOwed.filter (· != h.seq.toNat) } s) hs.2.1 hp
  rw [fwdCell_takes hl hc hst]
  refine ⟨hw, fun hmem => ?_, (((Within.refl ..).setTwinSt _).trans (hk.mono (B := fun _ => True) (by decide)
    fun _ _ => trivial)).1⟩
  rw [show (takePart (.sys ws) _).twin = _ from hk.1 .twin (by decide)] at hmem
  simpa using (List.mem_filter.1 hmem).2

theorem bulkCell_words (hst : s.twin.st = .syncing) (hp : plainWords ws) :
    let t := bulkCell ⟨h, .sys ws⟩ s
    wordsTaken ws s t ∧ (s.twin.phase = 1 → ∀ x ∈ ws, x.1 / 4096 ∈ t.twin.diffs) ∧
      KeepsBut [.mem, .fab, .regs, .twin] s t := by
  obtain ⟨hw, hk⟩ := wordsTaken_foldl ws (s := bulkNoted (.sys ws) s) hs.2.1 hp
  rw [bulkCell_takes hl hc hst]
  refine ⟨hw, fun h1 x hx => ?_, (((Within.refl ..).setTwinSt _).trans (hk.mono (B := fun _ => True) (by decide)
    fun _ _ => trivial)).1⟩
  rw [show (takePart (.sys ws) _).twin = _ from hk.1 .twin (by decide)]
  change _ ∈ if s.twin.phase = 1 then _ else _
  rw [if_pos h1]
  exact List.mem_dedup.2 (List.mem_append_right _ (List.mem_dedup.2
    (List.mem_map_of_mem (f := fun x => x.1 / 4096) hx)))

theorem bulkCell_page {a : Nat} {v : Word} (hst : s.twin.st = .syncing) (hws : ws = [(a, v)]) (hp : isPageAddr a = true)
    (ha : copyActs (pageOf a) = false) (h1 : a ≠ aTIMEBASE_WHEEL_CIRC) (h2 : a ≠ aTIMEBASE_WHEEL_PPR) :
    let t := bulkCell ⟨h, .sys ws⟩ s
    rget t a = v ∧ KeepsBut [.regs, .twin] s t ∧ RegsOnly [a] s t := by
  subst hws
  have he : takePart (.sys [(a, v)]) (bulkNoted (.sys [(a, v)]) s) = rset a v (bulkNoted (.sys [(a, v)]) s) :=
    cellWord_page v hp ha h1 h2 _
  rw [bulkCell_takes hl hc hst, he]
  have hw : Within [.regs, .twin] (· = a) s (rset a v (bulkNoted (.sys [(a, v)]) s)) :=
    ((Within.refl ..).setTwinSt _).rset v (by decide) rfl
  exact ⟨rget_rset_same hs.1 _ _, hw.1, fun b hb => hw.2 b (by simpa using hb)⟩

end

theorem fwdCell_press {h : CellHdr} (hl : s.twin.link = true) (hc : h.crcOk = true) (p : Fin 16) {r : PressRegs}
    {pc : BitVec 13} {st : List PFrame} (hst : s.twin.st = .syncing) :
    let t := fwdCell ⟨h, .press p r pc st⟩ s
    t.press[p].r = r ∧ t.press[p].pc = pc ∧ t.press[p].stack = st ∧ t.press[p].mode = .run ∧
      KeepsBut [.press, .twin] s t := by
  rw [fwdCell_takes hl hc hst]
  have he (q : PressSt) : (s.press.set p q)[p] = q := by simp
  exact ⟨congrArg PressSt.r (he _), congrArg PressSt.pc (he _), congrArg PressSt.stack (he _), congrArg PressSt.mode
    (he _),
    fun p hp => by cases p <;> first | rfl | exact absurd (by decide) hp⟩

variable {pl : List Part} {s₀ s : State}

theorem Keeps.actionDone (h : Keeps pl s₀ s) (i status : Nat) (ticket : Word)
    (hl : [Part.regs] ⊆ pl := by exact sub_of (by assumption) (by decide)) :
    Keeps pl s₀ (actionDone i status ticket s) :=
  .ite ((((h.rset ..).cnt ..).rset ..).cnt ..) (((((h.rset ..).cnt ..).iset ..).errcap ..).cnt ..)

theorem Keeps.respond (h : Keeps pl s₀ s) (x : Taken)
    (hl : [Part.regs, .mem, .galley, .fab] ⊆ pl := by exact sub_of (by assumption) (by decide)) :
    Keeps pl s₀ (respond x s) := by
  unfold Machine.respond
  extract_lets a s1 s2 _ s3 s4 _
  have hs1 : Keeps pl s₀ s1 := h.stWords ..
  have hs2 : Keeps pl s₀ s2 := (hs1.rput ..).iset ..
  have hs3 : Keeps pl s₀ s3 := .ite ((hs2.cnt ..).peak ..) ((Keeps.ite (hs2.cnt ..) (hs2.iset ..)).cnt ..)
  have hs4 : Keeps pl s₀ s4 := .ite (hs3.iset ..) hs3
  exact hs4.setGalley ..

theorem Keeps.answer (h : Keeps pl s₀ s) (x : Taken)
    (hl : [Part.regs, .mem, .galley, .fab] ⊆ pl := by exact sub_of (by assumption) (by decide)) :
    Keeps pl s₀ (answer x s) := by
  unfold Machine.answer
  split
  · exact h.actionDone ..
  · exact h.respond ..

theorem Keeps.settleTaken (h : Keeps pl s₀ s) (x : Taken)
    (hl : [Part.regs, .mem, .comp, .galley, .fab] ⊆ pl := by exact sub_of (by assumption) (by decide)) :
    Keeps pl s₀ (settleTaken x s) := by
  unfold Machine.settleTaken
  split
  · exact (h.handOver ..).answer ..
  · exact h.answer ..

theorem Keeps.payloadRead (h : Keeps pl s₀ s) (e : Entry)
    (hl : [Part.regs, .mem, .cist, .galley, .basin, .twin, .arb, .cistern, .fab] ⊆ pl :=
      by exact sub_of (by assumption) (by decide)) :
    Keeps pl s₀ (payloadRead e s) :=
  .ite h (h.foldl (fun _ _ h1 => h1.dmaRead ..))

theorem Keeps.submitAction (h : Keeps pl s₀ s) (i : Nat) (first : Option ℕ)
    (hl : [Part.regs, .mem, .cist, .comp, .galley, .basin, .twin, .arb, .cistern, .fab, .sense] ⊆ pl :=
      by exact sub_of (by assumption) (by decide)) :
    Keeps pl s₀ (submitAction i first s) := by
  unfold Machine.submitAction
  dsimp only
  split
  · exact h
  · split
    · exact h.setSense ..
    · split
      · exact .ite ((((h.payloadRead ..).journal ..).setGalley ..).sendCell ..)
          (((h.payloadRead ..).journal ..).settleTaken ..)
      · exact .ite (((h.payloadRead ..).rset ..).setSense ..) ((h.payloadRead ..).actionDone ..)

theorem Keeps.writeRecord (h : Keeps pl s₀ s) (w0 w1 : Word)
    (hl : [Part.regs, .mem, .cist, .comp, .galley, .basin, .twin, .arb, .cistern, .fab, .sense] ⊆ pl :=
      by exact sub_of (by assumption) (by decide)) :
    Keeps pl s₀ (writeRecord w0 w1 s) :=
  (Keeps.ite (((((h.rset ..).rset ..).rput ..).iset ..).cnt ..) ((((h.rset ..).rset ..).rput ..).iset ..)).foldl
    (fun _ _ h0 => h0.submitAction ..)

theorem Keeps.partnerSense (h : Keeps pl s₀ s) (w0 w1 : Word)
    (hl : [Part.regs, .mem, .cist, .comp, .galley, .basin, .twin, .arb, .cistern, .fab, .sense] ⊆ pl :=
      by exact sub_of (by assumption) (by decide)) :
    Keeps pl s₀ (partnerSense w0 w1 s) :=
  .ite (h.writeRecord ..) h

theorem Keeps.takeRegions (h : Keeps pl s₀ s) (l : List (ℕ × Word))
    (hl : [Part.twin] ⊆ pl := by exact sub_of (by assumption) (by decide)) :
    Keeps pl s₀ (takeRegions l s) :=
  .ite (h.setTwinSt ..) (.ite (((h.sendCell ..).foldl (fun _ _ h3 => h3.sendCell ..)).sendCell ..) h)

/-! ### O56: CTRL_CELL -/

section
variable {h : CellHdr} (hl : s.twin.link = true) (hc : h.crcOk = true)
include hl hc

theorem ctrlCell_hello : ctrlCell ⟨h, .hello⟩ s = setTwinSt { s.twin with hello := true } s := by
  unfold ctrlCell
  rw [cellIn_good hl hc]
  rfl

theorem ctrlCell_fence : ctrlCell ⟨h, .fence⟩ s = fenceSelf s := by
  unfold ctrlCell
  rw [cellIn_good hl hc]
  rfl

theorem ctrlCell_rejoin : ctrlCell ⟨h, .rejoin⟩ s = setTwinSt { s.twin with pstate := 4, joinPh := 1 } s := by
  unfold ctrlCell
  rw [cellIn_good hl hc]
  rfl

theorem ctrlCell_regions (l : List (Nat × Word)) : ctrlCell ⟨h, .regions l⟩ s = takeRegions l s := by
  unfold ctrlCell
  rw [cellIn_good hl hc]
  rfl

theorem ctrlCell_sense (w v : Word) : ctrlCell ⟨h, .senseEvent w v⟩ s = partnerSense w v s := by
  unfold ctrlCell
  rw [cellIn_good hl hc]
  rfl

theorem ctrlCell_cut {f : Nat} (hst : s.twin.st = .syncing) (hp : s.twin.phase = 3) : ctrlCell ⟨h, .cut f⟩ s =
    rset aTWIN_CUT_HI (hi32 f) (rset aTWIN_CUT_LO (lo32 f) (setTwinSt { s.twin with cut := f } s)) := by
  unfold ctrlCell
  rw [cellIn_good hl hc]
  dsimp only
  rw [if_neg (by simp), if_pos ⟨hst, hp⟩]

theorem ctrlCell_cut_not {f : Nat} (hn : s.twin.st ≠ .syncing ∨ s.twin.phase ≠ 3) : ctrlCell ⟨h, .cut f⟩ s = s := by
  unfold ctrlCell
  rw [cellIn_good hl hc]
  dsimp only
  rw [if_neg (by simp), if_neg fun hd => hn.elim (· hd.1) (· hd.2)]

theorem ctrlCell_same {pr : Bool} {l : Fin 16} {r ch : Word} {st : BitVec 8} {crc : Word} {bad : BitVec 16} {n : Fin 7}
    (hc' : sameConfig s pr l r ch st crc bad = true) : ctrlCell ⟨h, .negotiate pr l r ch st crc bad n⟩ s =
      setTwinSt { s.twin with negDone := true, pstate := n.val, cfgDiff := false } s := by
  unfold ctrlCell
  rw [cellIn_good hl hc]
  dsimp only
  rw [if_neg (by simp), if_pos hc']
  rfl

theorem ctrlCell_differs {pr : Bool} {l : Fin 16} {r ch : Word} {st : BitVec 8} {crc : Word} {bad : BitVec 16}
    {n : Fin 7}
    (hc' : sameConfig s pr l r ch st crc bad = false) : ctrlCell ⟨h, .negotiate pr l r ch st crc bad n⟩ s =
      errcap pgTWIN 4 0 (iset pgTWIN 9 (setTwinSt { s.twin with negDone := true, pstate := n.val, cfgDiff := true }
        s)) := by
  unfold ctrlCell
  rw [cellIn_good hl hc]
  dsimp only
  rw [if_neg (by simp), if_neg (by simp [hc'])]
  rfl

end

/-! The regions of the partner -/

theorem take_append_take {α : Type} (a b : List α) (n : Nat) : (a ++ b.take n).take n = (a ++ b).take n := by
  rw [List.take_append, List.take_append, List.take_take, Nat.min_eq_left (by omega)]

theorem mem_take_append_cons {α : Type} {a b : List α} {x : α} {n : Nat} (h : a.length < n) : x ∈ (a ++ x :: b).take
    n := by
  obtain ⟨k, rfl⟩ : ∃ k, n = a.length + (k + 1) := ⟨n - a.length - 1, by omega⟩
  rw [List.take_append, List.take_of_length_le (by omega), Nat.add_sub_cancel_left]
  simp

theorem link_sendCell (ch : Nat) (body : CellBody) (s : State) : (sendCell ch body s).twin.link = s.twin.link := by
  rw [sendCell_twin]

/-- What the last cells sent carry, the newest first. -/
def sentBodies (s : State) : List CellBody := s.twin.sent.map (·.body)

theorem sentBodies_sendCell (hl : s.twin.link = true) (ch : Nat) (body : CellBody) :
    sentBodies (sendCell ch body s) = (body :: sentBodies s).take 256 := by
  unfold sentBodies
  rw [sendCell_up hl, List.map_take]
  rfl

theorem sentBodies_foldl {α : Type} (ch : Nat) (f : α → CellBody) (m : List α) : ∀ {s : State}, s.twin.link = true →
    sentBodies (m.foldl (fun s x => sendCell ch (f x) s) s) =
      if m = [] then sentBodies s else ((m.map f).reverse ++ sentBodies s).take 256 := by
  induction m with
  | nil => exact fun _ => rfl
  | cons x m ih =>
    intro s hl
    rw [List.foldl_cons, ih ((link_sendCell ..).trans hl), sentBodies_sendCell hl]
    by_cases hm : m = []
    · subst hm; rfl
    · rw [if_neg hm, if_neg (List.cons_ne_nil x m), take_append_take]
      simp

theorem within_foldl_sendCell {α : Type} (ch : Nat) (f : α → CellBody) (m : List α) (s : State) :
    Within [.twin] (fun _ => False) s (m.foldl (fun s x => sendCell ch (f x) s) s) :=
  Within.foldl (.refl ..) fun _ hu _ _ => hu.trans (within_sendCell ..)

theorem regionWords_congr {u v : State} (hr : u.regs = v.regs) (hm : u.mem = v.mem) (r : Nat) :
    regionWords u r = regionWords v r := by
  unfold regionWords rget rdWord rdByte
  rw [hr, hm]

/-- The answer to the partner's CRCs of the regions: the own ones, then each region that differs. -/
def regionsTold (l : List (Nat × Word)) (s : State) : State :=
  (l.filter fun x => regionCrc s x.1 != x.2).foldl (fun u x => sendCell 7 (.words false (regionWords s x.1)) u)
    (sendCell 8 (.regions (l.map fun x => (x.1, regionCrc s x.1))) s)

theorem foldl_regionWords (m : List (Nat × Word)) : ∀ {u : State}, u.regs = s.regs → u.mem = s.mem →
    m.foldl (fun u x => sendCell 7 (.words false (regionWords u x.1)) u) u =
      m.foldl (fun u x => sendCell 7 (.words false (regionWords s x.1)) u) u := by
  induction m with
  | nil => exact fun _ _ => by rw [List.foldl_nil, List.foldl_nil]
  | cons x m ih =>
    intro u hr hm
    have hw := within_sendCell 7 (.words false (regionWords s x.1)) u
    rw [List.foldl_cons, List.foldl_cons, regionWords_congr hr hm]
    exact ih (Eq.trans (hw.1 .regs (by decide)) hr) (Eq.trans (hw.1 .mem (by decide)) hm)

/-- The entries that lie behind windows, as a cell carries them. -/
def tablesCell (s : State) : CellBody :=
  .part (.tables s.net.rxE s.net.txE (s.cistern.lines.map fun y => (y.i, lineWords y)))

theorem takeRegions_eq {l : List (Nat × Word)} (ha : isActive s = true) (hp : s.twin.pstate = 4) :
    takeRegions l s = sendCell 7 (tablesCell s) (regionsTold l s) := by
  have hst : s.twin.st ≠ .syncing := by
    intro h
    simp [isActive, h] at ha
  have hw := within_sendCell 8 (.regions (l.map fun x => (x.1, regionCrc s x.1))) s
  unfold takeRegions
  rw [if_neg hst, if_pos ⟨ha, hp⟩]
  dsimp only
  rw [foldl_regionWords _ (hw.1 .regs (by decide)) (hw.1 .mem (by decide))]
  rfl

theorem sentBodies_takeRegions {l : List (Nat × Word)} (hl : s.twin.link = true) (ha : isActive s = true)
    (hp : s.twin.pstate = 4) : sentBodies (takeRegions l s) =
      ((tablesCell s :: ((l.filter fun x => regionCrc s x.1 != x.2).map fun x =>
          CellBody.words false (regionWords s x.1)).reverse) ++
        .regions (l.map fun x => (x.1, regionCrc s x.1)) :: sentBodies s).take 256 := by
  have hown := sentBodies_sendCell hl 8 (.regions (l.map fun x => (x.1, regionCrc s x.1)))
  have hlown := (link_sendCell 8 (.regions (l.map fun x => (x.1, regionCrc s x.1))) s).trans hl
  have hltold : (regionsTold l s).twin.link = true :=
    List.foldlRecOn (motive := fun u : State => u.twin.link = true) _ _ hlown fun u hu x _ =>
      (link_sendCell ..).trans hu
  rw [takeRegions_eq ha hp, sentBodies_sendCell hltold, regionsTold,
    sentBodies_foldl 7 (fun x : Nat × Word => .words false (regionWords s x.1)) _ hlown, hown]
  generalize l.filter (fun x => regionCrc s x.1 != x.2) = m
  generalize 256 = n
  have hcons {α : Type} (a : α) (b : List α) : (a :: b.take n).take n = (a :: b).take n := take_append_take [a] b n
  split
  · next h =>
    subst h
    exact hcons ..
  · rw [take_append_take, hcons]
    rfl

theorem takeRegions_active {l : List (Nat × Word)} (hl : s.twin.link = true) (ha : isActive s = true)
    (hp : s.twin.pstate = 4)
    (hn : l.length ≤ 254) :
    let t := takeRegions l s
    (∃ x ∈ t.twin.sent, x.body = .regions (l.map fun x => (x.1, regionCrc s x.1))) ∧
      (∀ x ∈ l, regionCrc s x.1 ≠ x.2 → ∃ y ∈ t.twin.sent, y.body = .words false (regionWords s x.1)) ∧
      KeepsBut [.twin] s t := by
  have hb := sentBodies_takeRegions (l := l) hl ha hp
  have hlen : (l.filter fun x => regionCrc s x.1 != x.2).length ≤ 254 := (List.length_filter_le ..).trans hn
  have hmem {b : CellBody} (h : b ∈ sentBodies (takeRegions l s)) : ∃ y ∈ (takeRegions l s).twin.sent, y.body = b :=
    List.mem_map.1 h
  have hfit : (tablesCell s :: ((l.filter fun x => regionCrc s x.1 != x.2).map fun x =>
      CellBody.words false (regionWords s x.1)).reverse).length < 256 := by
    rw [List.length_cons, List.length_reverse, List.length_map]
    omega
  refine ⟨hmem (hb ▸ mem_take_append_cons hfit), fun x hx hne => hmem ?_, ?_⟩
  · rw [hb, List.take_append, List.take_of_length_le hfit.le]
    refine List.mem_append_left _ (List.mem_cons_of_mem _ (List.mem_reverse.2 ?_))
    exact List.mem_map.2 ⟨x, List.mem_filter.2 ⟨hx, bne_iff_ne.2 hne⟩, rfl⟩
  · rw [takeRegions_eq ha hp]
    exact (((within_sendCell ..).trans (within_foldl_sendCell 7
      (fun x : Nat × Word => .words false (regionWords s x.1)) _ _)).trans
      (within_sendCell ..)).1

/-! ### O56: a sense event of the partner -/

/-- The count and the slots of the event ring of SENSE. -/
abbrev SenseRing (a : Nat) : Prop := a = aSENSE_EVT_PROD ∨ (0x2e400 ≤ a ∧ a < 0x2e600)

theorem pageOf_senseRing {a : Nat} (h : SenseRing a) : pageOf a = pgSENSE := by
  rcases h with rfl | ⟨h1, h2⟩
  · decide
  · unfold pageOf
    have : pgSENSE = 0x1E := rfl
    omega

theorem senseRing_not_action {a : Nat} (h : SenseRing a) : ¬ (a ∈ handRegs ∨ a ∈ answerRegs) := by
  have hall : ∀ x ∈ handRegs ++ answerRegs, ¬ SenseRing x := by decide
  exact fun hm => hall a (List.mem_append.2 hm) h

/-- The event ring is as in `s`. -/
def RingKept (s u : State) : Prop := ∀ a, SenseRing a → rget u a = rget s a

theorem RingKept.of {u t : State} {l : List Part} {A : Nat → Prop} (h : RingKept s t) (hw : Within l A t u)
    (hA : ∀ a, SenseRing a → ¬ A a) : RingKept s u :=
  fun a ha => (hw.2 a (hA a ha)).trans (h a ha)

theorem stageAddr_senseRing {a : Nat} (h : SenseRing a) : ¬ StageAddr a := by
  rintro (hp | hp)
  · rw [pageOf_senseRing h] at hp
    exact absurd hp (by decide)
  · simp only [List.mem_cons, List.not_mem_nil, or_false] at hp
    rcases hp with rfl | rfl <;> exact absurd (pageOf_senseRing h) (by decide)

theorem acceptAddr_senseRing {a : Nat} (h : SenseRing a) : ¬ AcceptAddr a := by
  rintro (rfl | hp)
  · exact absurd (pageOf_senseRing h) (by decide)
  · rw [pageOf_senseRing h] at hp
    exact absurd hp (by decide)

theorem actionKept_ring (s : State) : ActionKept (RingKept s) where
  sense u x h := h
  read u e h := h.of (fetched_payloadRead e u).within fun _ ha => stageAddr_senseRing ha
  flown u ev x _ h := h.of (within_flown ev x u).1 fun _ ha => acceptAddr_senseRing ha
  settled u ev x _ h :=
    (h.of (within_journal ev u).1 fun _ ha => acceptAddr_senseRing ha).of (within_settleTaken ..)
      fun _ ha => senseRing_not_action ha
  last u v h := fun a ha => (rget_rset_ne _ _ fun e => senseRing_not_action (e ▸ ha) (.inr (by decide))).trans (h a ha)
  done u i n w h := h.of (within_actionDone i n w u) fun a ha hm =>
    senseRing_not_action ha (.inr (List.mem_append_right _ hm))

/-- The record is stored and PROD goes on. -/
def recordStored (w v : Word) (s : State) : State :=
  iset pgSENSE 0 (rput aSENSE_EVT_PROD 15 0 ((rfld s aSENSE_EVT_PROD 15 0 + 1) % 65536)
    (rset (aSENSE_EVT (rfld s aSENSE_EVT_PROD 15 0 % 64) + 4) v
      (rset (aSENSE_EVT (rfld s aSENSE_EVT_PROD 15 0 % 64)) w s)))

theorem slot_ne {k : Nat} (hk : k < 64) : SenseRing (aSENSE_EVT k) ∧ aSENSE_EVT k ≠ aSENSE_EVT k + 4 ∧
    aSENSE_EVT_PROD ≠ aSENSE_EVT k ∧ aSENSE_EVT_PROD ≠ aSENSE_EVT k + 4 := by
  have h0 : aSENSE_EVT k = 0x2e400 + 8 * k := rfl
  have h1 : aSENSE_EVT_PROD = 0x2e048 := rfl
  exact ⟨.inr (by omega), by omega, by omega, by omega⟩

theorem recordStored_effect (hs : spWf resetWord s.regs = true) (w v : Word) :
    let k := rfld s aSENSE_EVT_PROD 15 0
    rfld (recordStored w v s) aSENSE_EVT_PROD 15 0 = (k + 1) % 65536 ∧
      rget (recordStored w v s) (aSENSE_EVT (k % 64)) = w := by
  intro k
  obtain ⟨hring, h1, h2, h3⟩ := slot_ne (Nat.mod_lt k (show 64 > 0 by decide))
  have hwf : spWf resetWord (rset (aSENSE_EVT (k % 64) + 4) v (rset (aSENSE_EVT (k % 64)) w s)).regs = true :=
    rset_regs_wf (rset_regs_wf hs _ _) _ _
  have hi (b : Nat) (hb : SenseRing b) (t : State) : rget (iset pgSENSE 0 t) b = rget t b :=
    rget_rset_ne _ _ fun e => absurd (e ▸ hb : SenseRing (aISTAT pgSENSE)) (by decide)
  constructor
  · refine (congrArg (bits · 15 0) (hi _ (.inl rfl) _)).trans ((rfld_rput hwf _ (by decide) _).trans ?_)
    simp [k]
  · refine (hi _ hring _).trans ((rget_rput_ne _ _ _ _ h2.symm).trans ?_)
    exact (rget_rset_ne _ _ h1).trans (rget_rset_same hs _ _)

theorem ringKept_writeRecord (w v : Word) (s : State) : RingKept (recordStored w v s) (writeRecord w v s) := by
  refine List.foldlRecOn (motive := RingKept (recordStored w v s)) _ _ ?_ fun u hu i _ => (actionKept_ring _).submit
    i none hu
  split
  · exact fun b hb => rget_rset_ne _ _ fun e => absurd (e ▸ hb : SenseRing aSENSE_EVT_LOST) (by decide)
  · exact fun _ _ => rfl

/-- A record stands in the slot at PROD, and PROD has gone on. -/
theorem writeRecord_effect (hs : spWf resetWord s.regs = true) (w v : Word) :
    let k := rfld s aSENSE_EVT_PROD 15 0
    rfld (writeRecord w v s) aSENSE_EVT_PROD 15 0 = (k + 1) % 65536 ∧ rget (writeRecord w v s) (aSENSE_EVT (k % 64))
      = w := by
  intro k
  have hr := ringKept_writeRecord w v s
  obtain ⟨h1, h2⟩ := recordStored_effect hs w v
  exact ⟨(congrArg (bits · 15 0) (hr _ (.inl rfl))).trans h1,
    (hr _ (slot_ne (Nat.mod_lt k (show 64 > 0 by decide))).1).trans h2⟩

theorem partnerSense_takes {w v : Word} (h : enOf s pgSENSE = true ∧ bits w 11 8 < 8 ∧ ownSense s (bits w 11 8) =
    false) :
    partnerSense w v s = writeRecord w v s :=
  if_pos ⟨h.1, h.2.1, by simp [h.2.2]⟩

theorem partnerSense_not {w v : Word} (h : ¬ (enOf s pgSENSE = true ∧ bits w 11 8 < 8 ∧ ownSense s (bits w 11 8) =
    false)) :
    partnerSense w v s = s :=
  if_neg fun ⟨h1, h2, h3⟩ => h ⟨h1, h2, by simpa using h3⟩

/-! ### O56: what the start-up keeps of a CTRL cell -/

theorem boot_partnerSense (w v : Word) (s : State) : (partnerSense w v s).boot = s.boot :=
  keepsBut_of (l := [.regs, .mem, .cist, .comp, .galley, .basin, .twin, .arb, .cistern, .fab, .sense])
    (fun _ h => h.partnerSense ..) .boot (by decide)

theorem boot_takeRegions (l : List (Nat × Word)) (s : State) : (takeRegions l s).boot = s.boot :=
  keepsBut_of (l := [.twin]) (fun _ h => h.takeRegions ..) .boot (by decide)

theorem fenceSelf_fences (h : fencesItself s) : fenceSelf s = enterFenced s := by
  obtain ⟨h1, h2, h3⟩ := h
  exact if_neg (by simp [h1, h2, h3])

theorem fenceSelf_not (h : ¬ fencesItself s) : fenceSelf s = s := by
  refine if_pos ?_
  by_contra hn
  simp only [not_or, Bool.not_eq_true] at hn
  exact h hn

theorem captured_of_same {u t : State} {code page a : Nat} (h1 : rget u (aERRCAP page) = rget s (aERRCAP page))
    (h2 : rget u (aERRADDR page) = rget s (aERRADDR page)) (h : captured code page a u t) : captured code page a s
      t := by
  unfold captured rbit at h ⊢
  rwa [h1, h2] at h

/-- A CTRL cell of a device in operation: it acts, and the start-up stays where it is. -/
theorem runs_ctrlCell {h : CellHdr} {m : CtrlMsg} {t : State} {P : State → Prop} (ho : inOperation s)
    (he : ctrlCell ⟨h, m⟩ s = t) (hb : t.boot = s.boot) (hP : P t) : Runs (.ctrlCell ⟨h, m⟩) s P :=
  runs_inOperation ho rfl (by rw [he, hb]) (by rw [he]; exact hP)

theorem ctrlCell_answers (s : State) (h : CellHdr) (ho : inOperation s) (hl : s.twin.link = true)
    (hc : h.crcOk = true) :
    (Runs (.ctrlCell ⟨h, .hello⟩) s fun t => t.twin = { s.twin with hello := true } ∧ KeepsBut [.twin] s t) ∧
    (¬ fencesItself s → Runs (.ctrlCell ⟨h, .fence⟩) s fun t => t = s) ∧
    (fencesItself s → Runs (.ctrlCell ⟨h, .fence⟩) s fun t => t.twin.st = .fenced ∧ released t ∧
      KeepsBut [.regs, .twin, .arb, .fab] s t) ∧
    (Runs (.ctrlCell ⟨h, .rejoin⟩) s fun t => t.twin = { s.twin with pstate := 4, joinPh := 1 } ∧ KeepsBut [.twin] s
      t) := by
  have hset (x : TwinSt) : KeepsBut [.twin] s (setTwinSt x s) :=
    ((Within.refl [.twin] (fun _ => False) s).setTwinSt x).1
  refine ⟨runs_ctrlCell ho (ctrlCell_hello hl hc) rfl ⟨rfl, hset _⟩, fun hf => ?_, fun hf => ?_,
    runs_ctrlCell ho (ctrlCell_rejoin hl hc) rfl ⟨rfl, hset _⟩⟩
  · exact runs_ctrlCell ho ((ctrlCell_fence hl hc).trans (fenceSelf_not hf)) rfl rfl
  · obtain ⟨hw, hst, hrel, _⟩ := enterFenced_effect hf.1 hf.2.1
    exact runs_ctrlCell ho ((ctrlCell_fence hl hc).trans (fenceSelf_fences hf)) (hw.1 .boot (by decide))
      ⟨hst, hrel, hw.1⟩

theorem ctrlCell_copy (s : State) (h : CellHdr) (hs : Canonical s) (ho : inOperation s) (hl : s.twin.link = true)
    (hc : h.crcOk = true) :
    (∀ l, (s.twin.st = .syncing → Runs (.ctrlCell ⟨h, .regions l⟩) s fun t => t.twin = { s.twin with pRegions := l } ∧
          KeepsBut [.twin] s t) ∧
      (isActive s = true → s.twin.pstate = 4 → l.length ≤ 254 → Runs (.ctrlCell ⟨h, .regions l⟩) s fun t =>
        (∃ x ∈ t.twin.sent, x.body = .regions (l.map fun x => (x.1, regionCrc s x.1))) ∧
        (∀ x ∈ l, regionCrc s x.1 ≠ x.2 → ∃ y ∈ t.twin.sent, y.body = .words false (regionWords s x.1)) ∧
          KeepsBut [.twin] s t)) ∧
    (∀ f, (s.twin.st = .syncing → s.twin.phase = 3 → Runs (.ctrlCell ⟨h, .cut f⟩) s fun t => t.twin =
      { s.twin with cut := f } ∧
        rget t aTWIN_CUT_LO = lo32 f ∧ rget t aTWIN_CUT_HI = hi32 f ∧ KeepsBut [.regs, .twin] s t) ∧
      (s.twin.st ≠ .syncing ∨ s.twin.phase ≠ 3 → Runs (.ctrlCell ⟨h, .cut f⟩) s fun t => t = s)) := by
  refine ⟨fun l => ⟨fun hst => ?_, fun ha hp hn => ?_⟩, fun f => ⟨fun hst hp => ?_, fun hn => ?_⟩⟩
  · exact runs_ctrlCell ho ((ctrlCell_regions hl hc l).trans (if_pos hst)) rfl
      ⟨rfl, ((Within.refl [.twin] (fun _ => False) s).setTwinSt _).1⟩
  · exact runs_ctrlCell ho (ctrlCell_regions hl hc l) (boot_takeRegions l s) (takeRegions_active hl ha hp hn)
  · refine runs_ctrlCell ho (ctrlCell_cut hl hc hst hp) rfl ⟨rfl, ?_, ?_, ?_⟩
    · exact (rget_rset_ne _ _ (by decide)).trans (rget_rset_same hs.1 _ _)
    · exact rget_rset_same (rset_regs_wf hs.1 _ _) _ _
    · exact ((((Within.refl [.regs, .twin] (fun _ => True) s).setTwinSt _).rset _
        (by decide) trivial).rset _ (by decide)
        trivial).1
  · exact runs_ctrlCell ho (ctrlCell_cut_not hl hc hn) rfl rfl

theorem ctrlCell_events (s : State) (h : CellHdr) (hs : Canonical s) (ho : inOperation s) (hl : s.twin.link = true)
    (hc : h.crcOk = true) :
    (∀ w v, let takes : Prop := enOf s pgSENSE = true ∧ bits w 11 8 < 8 ∧ ownSense s (bits w 11 8) = false
      (takes → Runs (.ctrlCell ⟨h, .senseEvent w v⟩) s fun t =>
        rfld t aSENSE_EVT_PROD 15 0 = (rfld s aSENSE_EVT_PROD 15 0 + 1) % 65536 ∧
        rget t (aSENSE_EVT (rfld s aSENSE_EVT_PROD 15 0 % 64)) = w) ∧
      (¬ takes → Runs (.ctrlCell ⟨h, .senseEvent w v⟩) s fun t => t = s)) ∧
    (∀ pr l r ch st crc bad (n : Fin 7),
      (sameConfig s pr l r ch st crc bad = true → Runs (.ctrlCell ⟨h, .negotiate pr l r ch st crc bad n⟩) s fun t =>
        t.twin = { s.twin with negDone := true, pstate := n.val, cfgDiff := false } ∧ KeepsBut [.twin] s t) ∧
      (sameConfig s pr l r ch st crc bad = false →
        Runs (.ctrlCell ⟨h, .negotiate pr l r ch st crc bad n⟩) s fun t =>
          t.twin = { s.twin with negDone := true, pstate := n.val, cfgDiff := true } ∧ captured 4 pgTWIN 0 s t ∧
          rbit t (aISTAT pgTWIN) 9 = true ∧ KeepsBut [.regs, .twin] s t)) := by
  refine ⟨fun w v => ⟨fun ht => ?_, fun hn => ?_⟩, fun pr l r ch st crc bad n => ⟨fun hsame => ?_, fun hd => ?_⟩⟩
  · have he := partnerSense_takes (v := v) ht
    exact runs_ctrlCell ho (ctrlCell_sense hl hc w v) (boot_partnerSense w v s)
      (by rw [he]; exact writeRecord_effect hs.1 w v)
  · exact runs_ctrlCell ho ((ctrlCell_sense hl hc w v).trans (partnerSense_not hn)) rfl rfl
  · exact runs_ctrlCell ho (ctrlCell_same hl hc hsame) rfl ⟨rfl,
      ((Within.refl [.twin] (fun _ => False) s).setTwinSt _).1⟩
  · have hw : Within [.regs, .twin] (· ∈ [aISTAT pgTWIN, aERRCAP pgTWIN, aERRADDR pgTWIN]) s
      (errcap pgTWIN 4 0 (iset pgTWIN 9
        (setTwinSt { s.twin with negDone := true, pstate := n.val, cfgDiff := true } s))) :=
      (((Within.refl ..).setTwinSt _).iset 9).errcap _ _
    have hv : Within [.regs, .twin] (· = aISTAT pgTWIN) s
        (iset pgTWIN 9 (setTwinSt { s.twin with negDone := true, pstate := n.val, cfgDiff := true } s)) :=
      ((Within.refl ..).setTwinSt _).iset 9 (by decide) rfl
    have h9 := rbit_iset_any ⟨pgTWIN, by decide⟩ (b := 9) (by decide)
      (setTwinSt { s.twin with negDone := true, pstate := n.val, cfgDiff := true } s)
    refine runs_ctrlCell ho (ctrlCell_differs hl hc hd) (hw.1 .boot (by decide)) ⟨?_, ?_, ?_, hw.1⟩
    · exact ((Within.refl [.regs] (fun _ => True) _).errcap _ _ (by decide) trivial trivial).1 .twin (by decide)
    · exact captured_of_same (hv.2 _ (by decide)) (hv.2 _ (by decide)) (captured_errcap
        (s := iset pgTWIN 9 (setTwinSt { s.twin with negDone := true, pstate := n.val, cfgDiff := true } s))
        (rset_regs_wf (s := setTwinSt _ s) hs.1 _ _) 4 pgTWIN 0 (by decide))
    · exact (congrArg (bit · 9) (((Within.refl [.regs] (· ∈ [aERRCAP pgTWIN, aERRADDR pgTWIN]) _).errcap _ _).2 _
        (by decide))).trans h9

/-- A command that changes nothing, held in reset or not. -/
theorem runs_same {c : Instr} {f : State → State} (hc : exec c s = .next (awake f s)) (h : f s = s) :
    Runs c s fun t => t = s :=
  ⟨_, hc, by unfold awake; rw [h, ite_self]⟩

theorem laneChange_answers {l : BitVec 2} (hl : s.twin.link = true) (hne : l ≠ 0) (hd : s.twin.lanes ≠ l) :
    let t := traliatLaneChange l s
    t.twin = { s.twin with lanes := l } ∧ rbit t (aISTAT pgTWIN) 7 = true ∧ KeepsBut [.regs, .twin] s t ∧
      RegsOnly [aISTAT pgTWIN] s t := by
  obtain ⟨hw, ht, h7⟩ := laneChange_effect l s
  rw [traliatLaneChange_eq hl hne]
  exact ⟨ht, h7 hd, hw.1, fun a ha => hw.2 a (by simpa using ha)⟩

theorem twin_advance (x : Nat) (s : State) : (advance x s).twin = s.twin := (within_advance x s).1 .twin (by decide)

theorem cellBad_answers {c : Instr} {n : Nat} {h : CellHdr} {x : Nat} (ho : inOperation s)
    (hc : cellOf c = some (n, h, x))
    (hl : s.twin.link = true) (hbad : h.crcOk = false) (hs : Canonical s) :
    Runs c s fun t => t.twin.sent.head?.map (·.body) = some (.nak n h.seq.toNat) ∧
      rget t aTWIN_CELL_ERR_CNT = rget s aTWIN_CELL_ERR_CNT + 1 ∧ t.twin.st = s.twin.st ∧ t.twin.pstate =
        s.twin.pstate ∧
      (n = 4 → h.seq.toNat ∈ t.twin.galOwed) ∧ (n = 6 → h.seq.toNat ∈ t.twin.fwdOwed) ∧
      KeepsBut [.now, .ptp, .regs, .twin] s t ∧ RegsOnly [aTWIN_CELL_ERR_CNT] s t := by
  have hadv := within_advance x s
  have htw := twin_advance x s
  have hwf : spWf resetWord (advance x s).regs = true := by
    rw [show (advance x s).regs = s.regs from hadv.1 .regs (by decide)]
    exact hs.1
  obtain ⟨hno, hb⟩ := cellIn_bad hwf n (by rw [htw, hl]) hbad
  have hw : Within [.now, .ptp, .regs, .twin] (· = aTWIN_CELL_ERR_CNT) s (cellIn n h (advance x s)).1 :=
    (hadv.mono (by decide) fun _ h => h.elim).trans (hb.within.mono (by decide) fun _ h => h)
  refine runs_cellStops hc ho hno (hw.1 .boot (by decide)) ⟨hb.nak, hb.counted.trans ?_, hb.st.trans ?_,
    hb.pstate.trans ?_,
    hb.galley, hb.fwd, hw.1, fun a ha => hw.2 a (by simpa using ha)⟩
  · rw [hadv.2 _ id]
  · rw [htw]
  · rw [htw]

theorem healthCell_answers (c : HealthCell) (hl : s.twin.link = true) (hc : c.h.crcOk = true) :
    let t := healthCell c s
    t.twin.pstate = c.state.val ∧ t.twin.pDeadline = c.deadline ∧
      t.twin.pCrc.head? = some (c.frame, c.crc) ∧ t.twin.st = s.twin.st ∧ t.twin.drive = s.twin.drive ∧
      t.twin.pHotT = (if c.state.val = 2 then some (max c.t s.now) else none) ∧
      (isActive s = true → 2 ≤ s.twin.pstate → s.twin.pstate ≤ 4 → 5 ≤ c.state.val →
        rbit t aINTC_ALMSRC 8 = true ∧ t.galley.inflight = []) ∧
      (isActive s = false → KeepsBut [.now, .ptp, .regs, .twin, .tb] s t) := by
  obtain ⟨⟨r, hr⟩, h2, h3⟩ := healthCell_effect c hl hc
  have htw := twin_advance c.t s
  refine ⟨?_, ?_, ?_, ?_, ?_, ?_, h2, h3⟩
  all_goals rw [hr]
  · rfl
  · rfl
  · rfl
  · show (advance c.t s).twin.st = _
    rw [htw]
  · show (advance c.t s).twin.drive = _
    rw [htw]
  · show (if c.state.val = 2 then some (advance c.t s).now else none) = _
    rw [now_advance, Nat.max_comm]

/-- Settles O56. -/
theorem traliatLinkAndCells : Obligations.TraliatLinkAndCells := by
  refine ⟨fun s l hv => ⟨fun ⟨h1, h2, h3, h4⟩ => runs_awake hv rfl (traliatLinkUp_effect l h1 h2 h3 h4),
      fun h => runs_awake hv rfl (traliatLinkUp_not h)⟩, ?_, fun s hl => ?_, fun s l hv =>
        ⟨fun hl hne hd => ?_, fun h =>
      runs_awake hv rfl (traliatLaneChange_not h)⟩, fun s c n h x ho hc => ⟨fun hl => ?_, fun hl hbad hs => ?_⟩,
    fun s c hv hl hc => runs_awake hv rfl ?_,
    fun s c hv hl hc => ⟨fun hu hf => runs_awake hv rfl ?_, fun hu hf => runs_awake hv rfl
      ((decCell_acts hl hc hu).2.1 hf),
      fun hu hp => runs_awake hv rfl ?_, fun hu => runs_awake hv rfl (decCell_other hl hc hu)⟩,
    fun s c hv hl hc => ⟨fun hf => runs_awake hv rfl (mirrorCell_effect hl hc hf),
      fun hf => runs_awake hv rfl (mirrorCell_late hl hc hf)⟩,
    fun s c hs hv hl hc => ⟨fun k e p f d u x hst ho hm => runs_awake hv rfl (galleySlot_effect hs hl hc hst ho hm),
      fun m hst ho hm => runs_awake hv rfl (galleyReset_effect hl hc hst ho hm), fun hst hh ho => runs_awake hv rfl ?_,
      fun hst => runs_awake hv rfl (galleyCell_other hl hc hst)⟩,
    fun s h ws hs hv hl hc => ⟨fun hf hok hp => runs_awake hv rfl (writeCell_words hs hl hc hf hok hp),
      fun hn => runs_awake hv rfl (writeCell_not hl hc hn), fun hst hp => runs_awake hv rfl
        (fwdCell_words hs hl hc hst hp),
      fun hst hp => runs_awake hv rfl (bulkCell_words hs hl hc hst hp),
      fun a v hst hws hp ha h1 h2 => runs_awake hv rfl (bulkCell_page hs hl hc hst hws hp ha h1 h2),
      fun p r pc st hst => runs_awake hv rfl (fwdCell_press hl hc p hst),
      fun hst => runs_awake hv rfl (bulkCell_warm hl hc hst rfl), fun p hst => runs_awake hv rfl
        (fwdCell_not hl hc hst),
      fun p hst hw => runs_awake hv rfl (bulkCell_not hl hc hst hw)⟩,
    fun s h hs ho hl hc => ?_, fun s ch q hs hv => ⟨fun c hl hf => runs_awake hv rfl ?_,
      fun hn => runs_awake hv rfl (cellResend_not hn)⟩,
    fun s hv => ⟨fun ⟨hst, f, hf, hd⟩ => runs_awake hv rfl ?_, fun hn => runs_awake hv rfl (lossHoldExpire_idle hn)⟩⟩
  · rintro s c hs hv hl (rfl | rfl)
    · obtain ⟨⟨h1, h2, h3, h4, h5, h6⟩, hlink, hlanes, hcnt⟩ := traliatLinkDown_effect hs hl
      exact runs_awake hv rfl ⟨h1, h2, fun _ => ⟨hlink, hlanes, hcnt⟩, fun h => absurd h (by simp), h3, h4, h5, h6⟩
    · obtain ⟨⟨h1, h2, h3, h4, h5, h6⟩, hlink, hlanes⟩ := healthMissing_effect hl
      exact runs_awake hv rfl ⟨h1, h2, fun h => absurd h (by simp), fun _ => ⟨hlink, hlanes⟩, h3, h4, h5, h6⟩
  · exact ⟨runs_same rfl (traliatLinkDown_down hl), runs_same rfl (healthMissing_down hl)⟩
  · exact runs_awake hv rfl (laneChange_answers hl hne hd)
  · have hdown : cellIn n h (advance x s) = (advance x s, false) := cellIn_down (by rw [twin_advance, hl])
    exact runs_cellStops hc ho (by rw [hdown]) (by rw [hdown]; exact (within_advance x s).1 .boot (by decide))
      (by rw [hdown])
  · exact cellBad_answers ho hc hl hbad hs
  · exact healthCell_answers c hl hc
  · obtain ⟨h1, h2, h3, h4, h5, h6, h7⟩ := (decCell_acts hl hc hu).1 hf
    exact ⟨h1, h2, h3, h4, h5, h6, h7⟩
  · obtain ⟨k, hk⟩ := Option.isSome_iff_exists.1 hp
    rw [(decCell_acts hl hc hu).2.2, hk]
    rfl
  · rw [galleyCell_waits hl hc hst hh ho]
    exact ⟨rfl, rfl, ((Within.refl [.twin] (fun _ => False) s).setTwinSt _).1⟩
  · obtain ⟨h1, h2, h3, h4⟩ := ctrlCell_answers s h ho hl hc
    obtain ⟨h5, h6⟩ := ctrlCell_copy s h hs ho hl hc
    obtain ⟨h7, h8⟩ := ctrlCell_events s h hs ho hl hc
    exact ⟨h1, h2, h3, h4, h5, h6, h7, h8⟩
  · have hw : Within [.regs, .twin] (· = aTWIN_RETX_CNT) s (cellResend ch.val q.toNat s) := by
      rw [cellResend_found hl hf]
      exact ((Within.refl ..).setTwinSt _).cnt (a := aTWIN_RETX_CNT) 1 (by decide) rfl
    refine ⟨?_, ?_, hw.1, fun a ha => hw.2 a (by simpa using ha)⟩
    · rw [cellResend_found hl hf]
      rfl
    · rw [cellResend_found hl hf]
      exact rget_cnt hs.1 _ 1
  · rw [lossHoldExpire_fences hst hf hd]
    obtain ⟨hw, h1, h2, _⟩ := enterFenced_effect (not_active_of hst (by decide)) (not_solo_of hst (by decide))
    exact ⟨h1, h2, hw.1⟩

end Sys2Proof.Machine
end

section
/-!
PROOFS. O60, the hold point: no event that a step of the start waits for looks at it.
-/

-- One declaration after another: side by side, the stacks of the threads exceed what memory the check allows.
set_option Elab.async false

namespace Sys2Proof.Machine

variable {s : State} {k : Option (Fin 3)}

/-! ### O60: the hold point is not seen by what an event does -/

/-- The start at another hold point. -/
def withHold (k : Option (Fin 3)) (s : State) : State := { s with boot := { s.boot with hold := k } }

/-- The same, with an answer. -/
def withHoldOf {β : Type} (k : Option (Fin 3)) (p : State × β) : State × β := (withHold k p.1, p.2)

theorem withHold_ite {c d : Prop} [Decidable c] [Decidable d] {k : Option (Fin 3)} {a b a' b' : State} (hc : d ↔ c)
    (ha : a' = withHold k a) (hb : b' = withHold k b) : (if d then a' else b') = withHold k (if c then a else b) := by
  rw [if_congr hc ha hb, apply_ite (withHold k)]

theorem withHold_foldl {α : Type} {k : Option (Fin 3)} {f : State → α → State}
    (hf : ∀ s y, f (withHold k s) y = withHold k (f s y)) (l : List α) (s : State) :
    l.foldl f (withHold k s) = withHold k (l.foldl f s) :=
  List.foldl_hom (withHold k) fun s y => (hf s y)

theorem rset_withHold (a : Nat) (v : Word) : rset a v (withHold k s) = withHold k (rset a v s) := rfl

theorem cnt_withHold (a n : Nat) : cnt a (withHold k s) n = withHold k (cnt a s n) := rfl

theorem iset_withHold (p b : Nat) : iset p b (withHold k s) = withHold k (iset p b s) := rfl

theorem alarm_withHold (b : Nat) : alarm b (withHold k s) = withHold k (alarm b s) := rfl

theorem peak_withHold (a n : Nat) : peak a n (withHold k s) = withHold k (peak a n s) := withHold_ite Iff.rfl rfl rfl

theorem errcap_withHold (p code a : Nat) : errcap p code a (withHold k s) = withHold k (errcap p code a s) :=
  withHold_ite Iff.rfl rfl rfl

theorem advance_withHold (t : Nat) : advance t (withHold k s) = withHold k (advance t s) :=
  withHold_ite Iff.rfl rfl (withHold_ite Iff.rfl rfl rfl)

/-! The pair -/

theorem leaveRole_withHold (t : TwinState) : leaveRole t (withHold k s) = withHold k (leaveRole t s) := by
  have h : (if (withHold k s).twin.st = .active ∧ ¬ (withHold k s).galley.inflight.isEmpty then voidFlight
      (withHold k s)
      else withHold k s) = withHold k (if s.twin.st = .active ∧ ¬ s.galley.inflight.isEmpty then voidFlight s else s) :=
    withHold_ite Iff.rfl rfl rfl
  unfold leaveRole
  dsimp only
  rw [h]
  exact withHold_ite Iff.rfl rfl rfl

theorem setTwin_withHold (t : TwinState) : setTwin t (withHold k s) = withHold k (setTwin t s) := by
  have h : (if (withHold k s).twin.st = .solo then rput aMATRIX_CFG 0 0 0 (withHold k s) else withHold k s) =
      withHold k (if s.twin.st = .solo then rput aMATRIX_CFG 0 0 0 s else s) := withHold_ite Iff.rfl rfl rfl
  unfold setTwin
  dsimp only
  rw [h, leaveRole_withHold]
  exact withHold_ite Iff.rfl rfl (withHold_ite Iff.rfl rfl rfl)

theorem releaseOutputs_withHold : releaseOutputs (withHold k s) = withHold k (releaseOutputs s) :=
  withHold_ite Iff.rfl rfl rfl

theorem hbStatic_withHold : hbStatic (withHold k s) = withHold k (hbStatic s) := rfl

theorem enterTwinFault_withHold (c : Nat) : enterTwinFault c (withHold k s) = withHold k (enterTwinFault c s) := by
  unfold enterTwinFault
  rw [releaseOutputs_withHold, hbStatic_withHold, setTwin_withHold]
  rfl

theorem enterFenced_withHold : enterFenced (withHold k s) = withHold k (enterFenced s) := by
  unfold enterFenced
  rw [releaseOutputs_withHold, hbStatic_withHold, setTwin_withHold]
  rfl

theorem requestRelease_withHold (r : Release) : requestRelease r (withHold k s) = withHold k (requestRelease r s) :=
  withHold_ite Iff.rfl rfl rfl

theorem standbyFault_withHold (c : Nat) : standbyFault c (withHold k s) = withHold k (standbyFault c s) :=
  withHold_ite Iff.rfl (enterTwinFault_withHold c) rfl

theorem immediateRelease_withHold (c : Nat) : immediateRelease c (withHold k s) = withHold k (immediateRelease c s) :=
  withHold_ite Iff.rfl (enterTwinFault_withHold c) rfl

theorem twinEccFault_withHold : twinEccFault (withHold k s) = withHold k (twinEccFault s) :=
  withHold_ite Iff.rfl (withHold_ite Iff.rfl (immediateRelease_withHold 3) rfl) (standbyFault_withHold 3)

theorem ownFault_withHold (c : Nat) : ownFault c (withHold k s) = withHold k (ownFault c s) :=
  withHold_ite Iff.rfl (enterTwinFault_withHold c) rfl

theorem sendCell_withHold (ch : Nat) (body : CellBody) : sendCell ch body (withHold k s) = withHold k
    (sendCell ch body s) :=
  withHold_ite Iff.rfl rfl rfl

theorem lossNoted_withHold : lossNoted (withHold k s) = withHold k (lossNoted s) :=
  sendCell_withHold (s := alarm 8 (iset pgTWIN 6 { s with twin := { s.twin with pstate := 0xF, mirrorCh := [] } })) 8
    .fence

theorem partnerLost_withHold : partnerLost (withHold k s) = withHold k (partnerLost s) := by
  by_cases hp : s.twin.pstate = 0xF
  · exact (if_pos hp).trans (congrArg (withHold k) (if_pos hp).symm)
  · rw [partnerLost_eq hp, partnerLost_eq (s := withHold k s) hp, lossNoted_withHold, enterFenced_withHold]
    change (match s.twin.st with
      | .standbyHot => _
      | .standbyWarm | .syncing => _
      | _ => _) = _
    cases s.twin.st <;> rfl

theorem fenceSelf_withHold : fenceSelf (withHold k s) = withHold k (fenceSelf s) :=
  withHold_ite Iff.rfl rfl enterFenced_withHold

theorem negTimeout_withHold : negTimeout (withHold k s) = withHold k (negTimeout s) := withHold_ite Iff.rfl rfl rfl

theorem laneChange_withHold (l : BitVec 2) : laneChange l (withHold k s) = withHold k (laneChange l s) :=
  withHold_ite Iff.rfl rfl rfl

/-! Words of memory and their errors -/

theorem cwByte_withHold (a : Nat) (v : Byte) : cwByte a v (withHold k s) = withHold k (cwByte a v s) := rfl

theorem settleData_withHold (a r : Nat) : settleData a r (withHold k s) = withHold k (settleData a r s) := by
  unfold settleData
  split_ifs
  · rfl
  · simp only [show ∀ (u : State) b, cdByte (withHold k u) b = cdByte u b from fun _ _ => rfl, cwByte_withHold]
  · rfl

theorem autoRemap_withHold (a : Nat) (g : Fin 4) : autoRemap a g (withHold k s) = withHold k (autoRemap a g s) := by
  unfold autoRemap
  refine withHold_ite Iff.rfl ?_ rfl
  rw [show (fun r => !rbit (withHold k s) r 31) = fun r => !rbit s r 31 from rfl]
  split <;> rfl

/-- The count of corrected words of the Cistern. -/
theorem ceCounted_withHold (g : Fin 4) :
    (if g = 3 then { withHold k s with cistern := { (withHold k s).cistern with ceNow := (withHold k s).cistern.ceNow + 1 } }
      else withHold k s) =
      withHold k (if g = 3 then { s with cistern := { s.cistern with ceNow := s.cistern.ceNow + 1 } } else s) :=
  withHold_ite Iff.rfl rfl rfl

theorem eccCorrect_withHold (a r : Nat) : eccCorrect a r (withHold k s) = withHold k (eccCorrect a r s) := by
  unfold eccCorrect
  split
  · rfl
  · next g _ =>
    have h := ceCounted_withHold (k := k) (s := iset pgECC 0 (cnt (aECC_CE_CNT g) (eccLast a false s))) g
    change autoRemap a g _ = _
    dsimp only
    rw [show eccLast a false (withHold k s) = withHold k (eccLast a false s) from rfl, cnt_withHold, iset_withHold, h,
      settleData_withHold]
    refine Eq.trans ?_ (autoRemap_withHold a g)
    rfl

theorem eccUncorrectable_withHold (a : Nat) : eccUncorrectable a (withHold k s) = withHold k
    (eccUncorrectable a s) := by
  unfold eccUncorrectable
  split
  · rfl
  · next g _ =>
    rw [show eccLast a true (withHold k s) = withHold k (eccLast a true s) from rfl, cnt_withHold, iset_withHold,
      alarm_withHold, errcap_withHold, twinEccFault_withHold]

theorem eccRead_withHold (a : Nat) : eccRead a (withHold k s) = withHoldOf k (eccRead a s) := by
  unfold eccRead
  rw [show flipsAt (withHold k s) a = flipsAt s a from rfl, eccUncorrectable_withHold]
  cases eccOut (keyCist (keyOf a)) (flipsAt s a) with
  | ok => rfl
  | corr r => exact congrArg (·, false) (eccCorrect_withHold a r)
  | ue => rfl

theorem freshen_withHold (a : Nat) : freshen a (withHold k s) = withHold k (freshen a s) := by
  unfold freshen
  rw [show armedFor (withHold k s) a = armedFor s a from rfl]
  cases armedFor s a with
  | some i => rfl
  | none => exact withHold_ite Iff.rfl rfl rfl

theorem stWord_withHold (a : Nat) (v : Word) : stWord a v (withHold k s) = withHold k (stWord a v s) :=
  freshen_withHold (s := wrWord a v s) a

theorem stWords_withHold (l : List Word) : ∀ {s : State} (a : Nat),
    stWords a l (withHold k s) = withHold k (stWords a l s) := by
  induction l with
  | nil => exact fun _ => rfl
  | cons v l ih =>
    intro s a
    rw [stWords, stWord_withHold, ih]
    rfl

theorem cwBytes_withHold (l : List Byte) : ∀ {s : State} (a : Nat),
    cwBytes a l (withHold k s) = withHold k (cwBytes a l s) := by
  induction l with
  | nil => exact fun _ => rfl
  | cons v l ih =>
    intro s a
    rw [cwBytes, cwByte_withHold, ih]
    rfl

/-! The Cistern -/

theorem dramTouch_withHold (p l n : Nat) : dramTouch p l n (withHold k s) = withHold k (dramTouch p l n s) := rfl

theorem cistWordStore_withHold (a : Nat) (l : List Byte) (w : Nat) (p : State × Bool) :
    cistWordStore a l w (withHoldOf k p) = withHoldOf k (cistWordStore a l w p) := by
  unfold cistWordStore
  dsimp only [withHoldOf]
  rw [eccRead_withHold]
  dsimp only [withHoldOf]
  split_ifs
  · rfl
  · rw [cwBytes_withHold, freshen_withHold]
  · rfl
  · rw [cwBytes_withHold, freshen_withHold]

theorem cistWrite_withHold (p a : Nat) (l : List Byte) : cistWrite p a l (withHold k s) = withHoldOf k
    (cistWrite p a l s) := by
  unfold cistWrite
  rw [dramTouch_withHold]
  generalize dramTouch p (a / 64) l.length s = u
  dsimp only
  rw [show (withHold k u).fab = u.fab from rfl, cwBytes_withHold]
  split
  · rfl
  · exact List.foldl_hom (withHoldOf k) (g₁ := fun q i => cistWordStore a l (a / 8 + i) q)
      (g₂ := fun q i => cistWordStore a l (a / 8 + i) q) (init := (u, true))
      fun q i => cistWordStore_withHold a l (a / 8 + i) q

theorem cistStore_withHold (p a : Nat) (l : List Byte) : cistStore p a l (withHold k s) = withHold k
    (cistStore p a l s) :=
  congrArg Prod.fst (cistWrite_withHold p a l)

theorem shedRaise_withHold (n : Nat) : shedRaise n (withHold k s) = withHold k (shedRaise n s) := by
  have h : (if (withHold k s).shed = 0 ∧ n ≥ 1 then iset pgMETER 0 { withHold k s with shed := n } else
      { withHold k s with shed := n }) =
      withHold k (if s.shed = 0 ∧ n ≥ 1 then iset pgMETER 0 { s with shed := n } else { s with shed := n }) :=
    withHold_ite Iff.rfl rfl rfl
  unfold shedRaise
  dsimp only
  rw [h]
  exact withHold_ite Iff.rfl rfl rfl

theorem degradeMeasures_withHold : degradeMeasures (withHold k s) = withHold k (degradeMeasures s) := by
  have h := shedRaise_withHold (k := k) (s := { s with shedImp := 5 }) 5
  unfold degradeMeasures
  rw [show ({ withHold k s with shedImp := 5 } : State) = withHold k { s with shedImp := 5 } from rfl, h]
  generalize shedRaise 5 { s with shedImp := 5 } = u
  refine Eq.trans ?_ (standbyFault_withHold 6)
  rw [← requestRelease_withHold]
  rfl

theorem enterLost_withHold : enterLost (withHold k s) = withHold k (enterLost s) :=
  degradeMeasures_withHold (s := iset pgDDRC 5 (setCist { s.cistern with
    st := .lost, retrain := none, pend := none, lostF := some s.tb.frame } s))

theorem enterNormal_withHold : enterNormal (withHold k s) = withHold k (enterNormal s) := rfl

/-- The Cistern emptied, its lines written anew from the next frame. -/
def cistVoid (s : State) : State :=
  { setCist { s.cistern with lines := s.cistern.lines.map fun l => { l with from_ := s.tb.frame + 1 }, lostF := none } s with cist := [] }

/-- The contents of the image are back. -/
def cistRefilled (u : State) : State := iset pgPLAYER 1 (setCist { u.cistern with storeBad := false } u)

theorem voidContents_withHold : voidContents (withHold k s) = withHold k (voidContents s) := by
  have hf := withHold_foldl (k := k) (f := fun (u : State) (y : CistSect) => cistStore 4 (64 * y.line) y.data u)
    (fun u y => cistStore_withHold 4 (64 * y.line) y.data) s.boot.cistern (cistVoid s)
  unfold voidContents
  refine withHold_ite Iff.rfl (withHold_ite Iff.rfl rfl rfl) ?_
  exact congrArg cistRefilled hf

theorem putEyes_withHold (l : List LaneEye) : putEyes l (withHold k s) = withHold k (putEyes l s) :=
  withHold_foldl (fun _ _ => rfl) _ s

theorem putDlys_withHold (l : List LaneEye) : putDlys l (withHold k s) = withHold k (putDlys l s) :=
  withHold_foldl (fun _ _ => rfl) _ s

theorem eyesReport_withHold (l : List LaneEye) : eyesReport l (withHold k s) = withHold k (eyesReport l s) := by
  unfold eyesReport
  rw [putEyes_withHold]
  exact withHold_ite Iff.rfl rfl rfl

theorem afterTraining_withHold : afterTraining (withHold k s) = withHold k (afterTraining s) :=
  withHold_ite Iff.rfl rfl voidContents_withHold

/-- A training that succeeded, from the state with its delays stored. -/
def trainedEnd (v : State) : State :=
  enterNormal (afterTraining (setCist { v.cistern with rtT := v.now, ceT := v.now, ceNow := 0 } v))

theorem trainedEnd_withHold : trainedEnd (withHold k s) = withHold k (trainedEnd s) := by
  unfold trainedEnd
  rw [show ∀ c, setCist c (withHold k s) = withHold k (setCist c s) from fun _ => rfl, afterTraining_withHold,
    enterNormal_withHold]
  rfl

theorem trainedNow_withHold : trainedNow (withHold k s) = withHold k (trainedNow s) := rfl

theorem trainingDone_eq (r : TrainIn) (s : State) : trainingDone r s =
    (let u := advance r.t s
     let v := rset aDDRPHY_TRAIN_TIME (satW 16 r.us) (eyesReport r.lanes u)
     if u.cistern.st ≠ .training then u
     else if (failedLanes u r.lanes).isEmpty then trainedEnd (trainedNow (putDlys r.lanes (rset aDDRC_FAILS 0 v)))
     else enterLost (iset pgDDRC 2 v)) := rfl

theorem trainingDone_withHold (r : TrainIn) : trainingDone r (withHold k s) = withHold k (trainingDone r s) := by
  rw [trainingDone_eq, trainingDone_eq, advance_withHold]
  generalize advance r.t s = u
  dsimp only
  rw [eyesReport_withHold, rset_withHold, rset_withHold, putDlys_withHold, trainedNow_withHold, trainedEnd_withHold,
    iset_withHold, enterLost_withHold]
  generalize trainedEnd _ = a
  generalize enterLost _ = b
  exact withHold_ite Iff.rfl rfl (withHold_ite Iff.rfl rfl rfl)

/-! Entries that complete -/

/-- The row of the completion ring taken, its ticket named. -/
def recNamed (e : Ev) (s : State) : State :=
  if e.e.notify then iset pgGALLEY 2 (rset aGALLEY_TICKET_DONE e.ticket (cnt aGALLEY_CPROD s))
  else rset aGALLEY_TICKET_DONE e.ticket (cnt aGALLEY_CPROD s)

/-- A late entry counted. -/
def recLate (o : Nat) (s : State) : State := if o = outLate then iset pgCOMPOSITOR 0 (cnt aCOMPOSITOR_LATE_CNT s) else s

/-- A dropped entry counted. -/
def recDropped (o : Nat) (s : State) : State := if o = outDropped then iset pgCOMPOSITOR 1
    (cnt aCOMPOSITOR_DROP_CNT s) else s

/-- An entry cancelled with the one it waits for, noted. -/
def recDep (o : Nat) (s : State) : State := if o = outDepCancelled then iset pgCOMPOSITOR 5 s else s

/-- The entry among those completed. -/
def recKept (e : Ev) (o done : Nat) (s : State) : State :=
  { s with
    comp := { s.comp with done := (⟨e.ticket, e.e.opcode, e.e.client, o, done⟩ :: s.comp.done).take 4096 }
    galley := { s.galley with heapUsed := s.galley.heapUsed - heapOf e } }

theorem recNamed_withHold (e : Ev) : recNamed e (withHold k s) = withHold k (recNamed e s) := withHold_ite Iff.rfl
    rfl rfl

theorem recLate_withHold (o : Nat) : recLate o (withHold k s) = withHold k (recLate o s) := withHold_ite Iff.rfl rfl rfl

theorem recDropped_withHold (o : Nat) : recDropped o (withHold k s) = withHold k (recDropped o s) := withHold_ite
    Iff.rfl rfl rfl

theorem recDep_withHold (o : Nat) : recDep o (withHold k s) = withHold k (recDep o s) := withHold_ite Iff.rfl rfl rfl

theorem recKept_withHold (e : Ev) (o done : Nat) : recKept e o done (withHold k s) = withHold k
    (recKept e o done s) := rfl

/-- The words of a completion in their ring. -/
def recStored (e : Ev) (o late land done : Nat) (s : State) : State :=
  stWords (compRing + 16 * ((rget s aGALLEY_CPROD).toNat % 4096))
    [e.ticket, fld e.e.opcode 24 ||| fld e.e.client 20 ||| fld o 16 |||
    fld (if o = outLate then min late 0xFFFF else 0) 0, lo32 land, lo32 done] s

theorem recStored_withHold (e : Ev) (o late land done : Nat) :
    recStored e o late land done (withHold k s) = withHold k (recStored e o late land done s) := by
  unfold recStored
  rw [show rget (withHold k s) aGALLEY_CPROD = rget s aGALLEY_CPROD from rfl, stWords_withHold]

theorem record_parts (e : Ev) (o late land done : Nat) (s : State) : record e o late land done s =
    recKept e o done (recDep o (recDropped o (recLate o (recNamed e (recStored e o late land done s))))) := rfl

theorem record_withHold (e : Ev) (o late land done : Nat) :
    record e o late land done (withHold k s) = withHold k (record e o late land done s) := by
  rw [record_parts, record_parts, recStored_withHold, recNamed_withHold, recLate_withHold, recDropped_withHold,
    recDep_withHold,
    recKept_withHold]

theorem cancelDeps_withHold (n : Nat) : ∀ {s : State} (t : Word), cancelDeps n t (withHold k s) = withHold k
    (cancelDeps n t s) := by
  induction n with
  | zero => exact fun _ => rfl
  | succ n ih =>
    intro s t
    refine withHold_foldl (fun u d => ?_) _ (mapFlight (deadInFlight t) s)
    rw [← ih, ← record_withHold]
    rfl

/-- An event leaves the queue. -/
def queueDropped (t : Word) (s : State) : State := { s with comp := { s.comp with queue := dropEv t s.comp.queue } }

theorem applyCancel_withHold (t : Word) : applyCancel t (withHold k s) = withHoldOf k (applyCancel t s) := by
  unfold applyCancel
  rw [show (withHold k s).comp = s.comp from rfl]
  cases findEv t s.comp.queue with
  | none => rfl
  | some e =>
    have h := record_withHold (k := k) (s := queueDropped t s) e outCancelled 0 0 s.tb.frame
    refine congrArg (·, outOnTime) ?_
    change cancelDeps ((record e outCancelled 0 0 s.tb.frame (withHold k (queueDropped t s))).comp.queue.length + 1) t
      (record e outCancelled 0 0 s.tb.frame (withHold k (queueDropped t s))) = _
    rw [h, cancelDeps_withHold]
    rfl

theorem selectCancel_withHold (e : Ev) : selectCancel e (withHold k s) = withHoldOf k (selectCancel e s) := by
  have h := applyCancel_withHold (k := k) (s := queueDropped e.ticket s) (e.payload.getD 0 0)
  change ((applyCancel (e.payload.getD 0 0) (withHold k (queueDropped e.ticket s))).1,
    if (applyCancel (e.payload.getD 0 0) (withHold k (queueDropped e.ticket s))).2 = outOnTime then e
      else { e with out := some outTooLate }) = _
  rw [h]
  rfl

theorem deferred_withHold : deferred (withHold k s) = withHold k (deferred s) := withHold_ite Iff.rfl rfl rfl

/-- What is selected once an event has joined the selection. -/
def selJoined (r : State × Ev) : State :=
  let free (x : Ev) : Bool := x.e.opcode != opCancel
  let l := evPut r.2 r.1.comp.sel
  match if l.length > maxExec then l.reverse.find? free else none with
  | some b => deferred { r.1 with comp := { r.1.comp with sel := dropEv b.ticket l, queue := b :: r.1.comp.queue } }
  | none => { r.1 with comp := { r.1.comp with sel := l } }

theorem selJoined_withHold (r : State × Ev) : selJoined (withHoldOf k r) = withHold k (selJoined r) := by
  unfold selJoined
  rw [show (withHoldOf k r).2 = r.2 from rfl, show (withHoldOf k r).1.comp = r.1.comp from rfl]
  dsimp only
  split
  · next b _ => exact deferred_withHold (s := { r.1 with comp := { r.1.comp with
      sel := dropEv b.ticket (evPut r.2 r.1.comp.sel), queue := b :: r.1.comp.queue } })
  · rfl

theorem joinSel_withHold (e : Ev) : joinSel e (withHold k s) = withHold k (joinSel e s) := by
  have h : (if e.e.opcode != opCancel then (queueDropped e.ticket (withHold k s), e) else selectCancel e
      (withHold k s)) =
      withHoldOf k (if e.e.opcode != opCancel then (queueDropped e.ticket s, e) else selectCancel e s) := by
    rw [selectCancel_withHold, apply_ite (withHoldOf k)]
    rfl
  refine withHold_ite Iff.rfl deferred_withHold ?_
  exact (congrArg selJoined h).trans (selJoined_withHold _)

theorem releaseDeps_withHold (t : Word) (c : Nat) : releaseDeps t c (withHold k s) = withHold k
    (releaseDeps t c s) := by
  refine withHold_foldl (fun u d => ?_) _ (mapFlight (fun d => if waitsFor t d then afterDue s c d else d) s)
  refine withHold_ite Iff.rfl ?_ rfl
  exact joinSel_withHold (s := { u with comp := { u.comp with
    queue := u.comp.queue.map fun x => if x.ticket = d.ticket then afterDue u c d else x } }) _

theorem finish_withHold (e : Ev) (o late land done : Nat) :
    finish e o late land done (withHold k s) = withHold k (finish e o late land done s) := by
  unfold finish
  rw [record_withHold]
  exact withHold_ite Iff.rfl (cancelDeps_withHold _ _) (releaseDeps_withHold _ _)

theorem finishAt_withHold (e : Ev) (d : Nat) : finishAt e d (withHold k s) = withHold k (finishAt e d s) :=
  finish_withHold e _ _ _ d

theorem finishRunning_withHold (t : Word) (d : Nat) : finishRunning t d (withHold k s) = withHold k
    (finishRunning t d s) := by
  unfold finishRunning
  rw [show (withHold k s).comp = s.comp from rfl]
  cases findEv t s.comp.running with
  | none => rfl
  | some e => exact finishAt_withHold (s := { s with comp := { s.comp with running := dropEv t s.comp.running } }) e d

theorem applyImmCancel_withHold (e : Ev) : applyImmCancel e (withHold k s) = withHold k (applyImmCancel e s) := by
  unfold applyImmCancel
  rw [applyCancel_withHold]
  exact finish_withHold ..

theorem enqueue_withHold (e : Ev) : enqueue e (withHold k s) = withHold k (enqueue e s) := by
  have h := peak_withHold (k := k) (s := { s with comp := { s.comp with queue := s.comp.queue ++ [e] } })
      aCOMPOSITOR_PEAK_PEND
    (pendingEvs { s with comp := { s.comp with queue := s.comp.queue ++ [e] } }).length
  refine withHold_ite Iff.rfl ?_ h
  exact congrArg (iset pgCOMPOSITOR 3) h

theorem handOver_withHold (ev : Ev) (b : Bool) : handOver ev b (withHold k s) = withHold k (handOver ev b s) := by
  have h : clientTaken ev b (withHold k s) = withHold k (clientTaken ev b s) := withHold_ite Iff.rfl rfl rfl
  rw [handOver_eq, handOver_eq, h, applyImmCancel_withHold, enqueue_withHold, apply_ite (withHold k)]

theorem actionDone_withHold (i st : Nat) (t : Word) : actionDone i st t (withHold k s) = withHold k
    (actionDone i st t s) := by
  unfold actionDone
  rw [rset_withHold]
  refine withHold_ite Iff.rfl rfl ?_
  rw [cnt_withHold, iset_withHold, errcap_withHold, cnt_withHold]

/-- The response ring's pointer moved. -/
def respPointed (y : Taken) (s : State) : State := iset pgGALLEY 0 (rput aGALLEY_RESP 15 0 ((y.count + 1) % 65536) s)

/-- An answer counted. -/
def respCounted (y : Taken) (s : State) : State :=
  if y.status = stAccepted then
    peak aGALLEY_LAT_MAX (min ((s.now - max y.sub s.galley.lastResp) / 10000) 0xFFFF) (cnt aGALLEY_ACC_CNT s)
  else cnt aGALLEY_REF_CNT (if y.status = stDuplicate then cnt aGALLEY_DUP_CNT s else iset pgGALLEY 1 s)

theorem respCounted_withHold (y : Taken) : respCounted y (withHold k s) = withHold k (respCounted y s) := by
  unfold respCounted
  split
  · rw [cnt_withHold]
    exact peak_withHold ..
  · rw [cnt_withHold, iset_withHold, ← apply_ite (withHold k), cnt_withHold]

/-- An answer done. -/
def respEnded (y : Taken) (s : State) : State :=
  setGalley { (if y.status = stFull then iset pgGALLEY 3 s else s).galley with
    lastResp := (if y.status = stFull then iset pgGALLEY 3 s else s).now }
      (if y.status = stFull then iset pgGALLEY 3 s else s)

theorem respEnded_withHold (y : Taken) : respEnded y (withHold k s) = withHold k (respEnded y s) := by
  unfold respEnded
  split <;> rfl

theorem respond_withHold (y : Taken) : respond y (withHold k s) = withHold k (respond y s) := by
  change respEnded y (respCounted y (respPointed y (stWords _ _ (withHold k s)))) = _
  rw [stWords_withHold]
  exact (congrArg (respEnded y) (respCounted_withHold (s := respPointed y _) y)).trans (respEnded_withHold y)

theorem answer_withHold (y : Taken) : answer y (withHold k s) = withHold k (answer y s) := by
  unfold answer
  split
  · exact actionDone_withHold ..
  · exact respond_withHold y

theorem settleTaken_withHold (y : Taken) : settleTaken y (withHold k s) = withHold k (settleTaken y s) := by
  unfold settleTaken
  split
  · rw [handOver_withHold, answer_withHold]
  · exact answer_withHold y

theorem flushOne_withHold : flushOne (withHold k s) = withHold k (flushOne s) := by
  unfold flushOne
  rw [show (withHold k s).galley = s.galley from rfl]
  cases s.galley.inflight with
  | nil => rfl
  | cons y rest => exact settleTaken_withHold (s := setGalley { s.galley with inflight := rest } s) y

theorem flushAll_withHold : flushAll (withHold k s) = withHold k (flushAll s) := by
  rw [flushAll_eq, flushAll_eq]
  exact withHold_foldl (fun _ _ => flushOne_withHold) _ s

theorem losePartner_withHold : losePartner (withHold k s) = withHold k (losePartner s) := by
  unfold losePartner
  dsimp only
  rw [partnerLost_withHold, flushAll_withHold]
  exact withHold_ite Iff.rfl rfl rfl

theorem traliatLinkDown_withHold : traliatLinkDown (withHold k s) = withHold k (traliatLinkDown s) := by
  unfold traliatLinkDown
  rw [laneChange_withHold]
  refine withHold_ite Iff.rfl rfl ?_
  exact losePartner_withHold (s := cnt aTWIN_LINKDN_CNT (setTwinSt
    { (laneChange 0 s).twin with link := false, hello := false }
    (laneChange 0 s)))

/-! ### O60: reference selection does not see the hold point -/

theorem refFailNow_withHold (r : Nat) : refFailNow r (withHold k s) = withHold k (refFailNow r s) :=
  withHold_ite Iff.rfl rfl rfl

/-- A step of a reference that has not failed, `ok` said of its measurement. -/
def refJudged (ok : Bool) (r : Nat) (s : State) : State :=
  let x := refOf s r
  match x.st with
  | .failed => if refPresent s r ∧ ok then setRef r { x with st := .soaking, soakT := s.now } s else s
  | .soaking => if ¬ ok then refDisq r s else if s.now ≥ x.soakT + qualSoak s then refQual r s else s
  | .qualified => if ok then s else setRef r { x with st := .drifting, soakT := s.now } s
  | .drifting =>
    if ok then setRef r { x with st := .qualified } s
    else if s.now ≥ x.soakT + disqSoak s then refDisq r s else s
  | .disqualified => if ok then setRef r { x with st := .soaking, soakT := s.now } s else s
  | .off => s

theorem refJudged_withHold (ok : Bool) (r : Nat) : refJudged ok r (withHold k s) = withHold k (refJudged ok r s) := by
  unfold refJudged
  rw [show refOf (withHold k s) r = refOf s r from rfl]
  dsimp only
  cases (refOf s r).st with
  | off => rfl
  | failed => exact withHold_ite Iff.rfl rfl rfl
  | soaking => exact withHold_ite Iff.rfl rfl (withHold_ite Iff.rfl rfl rfl)
  | qualified => exact withHold_ite Iff.rfl rfl rfl
  | drifting => exact withHold_ite Iff.rfl rfl (withHold_ite Iff.rfl rfl rfl)
  | disqualified => exact withHold_ite Iff.rfl rfl rfl

theorem refStep_withHold (r : Nat) : refStep (withHold k s) r = withHold k (refStep s r) := by
  refine withHold_ite Iff.rfl rfl (withHold_ite Iff.rfl rfl (withHold_ite Iff.rfl ?_ ?_))
  · exact withHold_ite Iff.rfl rfl (refFailNow_withHold r)
  · exact refJudged_withHold (s := setRef r { refOf s r with lastPass := refPasses s r } s) _ r

theorem holdOver_withHold : holdOver (withHold k s) = withHold k (holdOver s) :=
  withHold_ite Iff.rfl rfl rfl

/-- Nothing measured yet of the selected reference, the switch counted. -/
def switched (q : Option Nat) (s : State) : State :=
  cnt aDPLL_SWITCH_CNT (iset pgDPLL 0 (setDpll { s.dpll with
    sel := q, refs := s.dpll.refs.map fun x => { x with hist := [] }, drift := 0 } s))

/-- The loop following a reference newly selected. -/
def followed (r : Nat) (s : State) : State :=
  match s.dpll.st with
  | .locked => setDpll { s.dpll with step := max s.dpll.step (firstStep s r) } s
  | .acquire => setDpll { s.dpll with step := firstStep s r } s
  | _ => setDpll { s.dpll with st := .acquire, step := firstStep s r, inSince := some s.now, outSince := none } s

theorem followed_withHold (r : Nat) : followed r (withHold k s) = withHold k (followed r s) := by
  unfold followed
  rw [show (withHold k s).dpll = s.dpll from rfl]
  cases s.dpll.st <;> rfl

theorem switchTo_withHold (q : Option Nat) : switchTo q (withHold k s) = withHold k (switchTo q s) := by
  refine withHold_ite Iff.rfl rfl ?_
  cases q with
  | none => exact holdOver_withHold (s := switched none s)
  | some r => exact followed_withHold (s := startPull (refOf (switched (some r) s) r).e (switched (some r) s)) r

/-- The pull reckoned again. -/
def evalPulled (s : State) : State :=
  setDpll { s.dpll with
    pull := pullLeft s, pullT := s.now, drift := s.dpll.drift + (s.dpll.freq - s.dpll.hoFreq) *
      ((s.now - s.dpll.evalT : Nat) : Int), evalT := s.now } s

/-- How many frequencies of the history are kept. -/
def histDepth (s : State) : Nat := 100 * zeroIs1 (rfld s aDPLL_HOLDCFG 11 0) + disqSoak s / evalPs

/-- The history kept to a depth. -/
def histKept (n : Nat) (s : State) : State := setDpll
    { s.dpll with hist := ((s.now, s.dpll.freq) :: s.dpll.hist).take n } s

/-- The history kept to a depth, when locked and not pulled. -/
def keptTo (n : Nat) (s : State) : State := if s.dpll.st = .locked ∧ ¬ s.dpll.pulling then histKept n s else s

/-- The history of the frequencies kept. -/
def evalKept (s : State) : State := keptTo (histDepth s) s

/-- The holdover frequency brought up to date. -/
def evalHeld (s : State) : State := if s.dpll.st = .locked ∨ s.dpll.st = .acquire then hoUpdate s else s

/-- The candidates marked, a conflict noted. -/
def evalMarked (s : State) : State :=
  setDpll { s.dpll with
    refs := s.dpll.refs.mapIdx fun (r : Nat) (x : RefSt) => { x with cand := (pickRef s).cands.contains r }
    conflict := (pickRef s).conflict } (if (pickRef s).conflict ∧ ¬ s.dpll.conflict then iset pgDPLL 7 s else s)

/-- The end of an evaluation. -/
def evalEnded (s : State) : State := outFreq (if s.dpll.sel = none then holdOver s else s)

theorem keptTo_withHold (n : Nat) : keptTo n (withHold k s) = withHold k (keptTo n s) := withHold_ite Iff.rfl rfl rfl

theorem histDepth_withHold : histDepth (withHold k s) = histDepth s := by
  unfold histDepth
  rw [show rfld (withHold k s) aDPLL_HOLDCFG 11 0 = rfld s aDPLL_HOLDCFG 11 0 from rfl, show disqSoak (withHold k s)
    = disqSoak s from rfl]

theorem evalKept_withHold : evalKept (withHold k s) = withHold k (evalKept s) :=
  (congrArg (keptTo · (withHold k s)) histDepth_withHold).trans (keptTo_withHold (histDepth s))

theorem evalHeld_withHold : evalHeld (withHold k s) = withHold k (evalHeld s) := withHold_ite Iff.rfl rfl rfl

theorem pickRef_withHold : pickRef (withHold k s) = pickRef s := rfl

theorem evalMarked_withHold : evalMarked (withHold k s) = withHold k (evalMarked s) := by
  unfold evalMarked
  rw [pickRef_withHold, show (withHold k s).dpll = s.dpll from rfl]
  split
  · rfl
  · rfl

theorem evalEnded_withHold : evalEnded (withHold k s) = withHold k (evalEnded s) := by
  unfold evalEnded
  rw [holdOver_withHold, show (withHold k s).dpll = s.dpll from rfl, ← apply_ite (withHold k)]
  rfl

/-- An evaluation once the references have stepped. -/
def evalStepped (s : State) : State :=
  if ¬ enOf s pgDPLL then outFreq { s with dpll := { s.dpll with evalT := s.now } }
  else if ticksHeld s then outFreq { s with dpll := { s.dpll with evalT := s.now } }
  else evalEnded (switchTo (pickRef (evalHeld (evalKept (evalPulled s)))).sel
    (evalMarked (evalHeld (evalKept (evalPulled s)))))

theorem evalStepped_withHold : evalStepped (withHold k s) = withHold k (evalStepped s) := by
  refine withHold_ite Iff.rfl rfl (withHold_ite Iff.rfl rfl ?_)
  have h : evalHeld (evalKept (evalPulled (withHold k s))) = withHold k (evalHeld (evalKept (evalPulled s))) :=
    (congrArg evalHeld (evalKept_withHold (s := evalPulled s))).trans evalHeld_withHold
  rw [h, evalMarked_withHold, pickRef_withHold, switchTo_withHold, evalEnded_withHold]

theorem evaluate_stepped (s : State) : evaluate s = evalStepped ((List.range 8).foldl refStep s) := by
  unfold evaluate
  generalize (List.range 8).foldl refStep s = u
  unfold evalStepped
  refine if_congr Iff.rfl rfl (if_congr Iff.rfl rfl ?_)
  extract_lets dt left d1 u1 d2 u2 u3 p mark d3 u4 u5 u6
  have h1 : u1 = evalPulled u := rfl
  have h2 : u2 = evalKept u1 := rfl
  have h3 : u3 = evalHeld u2 := rfl
  have h4 : u4 = evalMarked u3 := rfl
  have h6 : outFreq u6 = evalEnded u5 := rfl
  rw [h6, show u5 = switchTo (pickRef u3).sel u4 from rfl, h4, h3, h2, h1]

theorem evaluate_withHold : evaluate (withHold k s) = withHold k (evaluate s) := by
  rw [evaluate_stepped, evaluate_stepped, withHold_foldl (fun _ r => refStep_withHold r), evalStepped_withHold]

theorem dpllEvaluation_withHold (t : Nat) : dpllEvaluation t (withHold k s) = withHold k (dpllEvaluation t s) := by
  unfold dpllEvaluation
  dsimp only
  rw [advance_withHold]
  exact withHold_ite Iff.rfl evaluate_withHold rfl

theorem lockDeclared_withHold : lockDeclared (withHold k s) = withHold k (lockDeclared s) :=
  withHold_ite Iff.rfl rfl rfl

/-! ### O60: the loops and rate changes do not see the hold point -/

theorem setClk_withHold (c : ClockSt) : setClk c (withHold k s) = withHold k (setClk c s) := rfl

theorem syncRestart_withHold : syncRestart (withHold k s) = withHold k (syncRestart s) := withHold_ite Iff.rfl rfl rfl

theorem startRamp_withHold (c : RateChange) : startRamp c (withHold k s) = withHold k (startRamp c s) :=
  withHold_ite Iff.rfl rfl rfl

theorem rateLand_withHold (t : Option Word) (w : Word) : rateLand t w (withHold k s) = withHoldOf k
    (rateLand t w s) := by
  unfold rateLand
  rw [show (withHold k s).clk = s.clk from rfl]
  cases rateOf w with
  | none => rfl
  | some p =>
    dsimp only
    split
    · rfl
    · cases s.clk.change with
      | some c => rfl
      | none =>
        dsimp only
        split
        · rfl
        · rw [setClk_withHold, syncRestart_withHold]
          rfl

/-- The waiting rate taken out of the row, its entry landing now. -/
def rateTaken (t : Option Word) (rest : List (Option Word × Word)) (s : State) : State :=
  let s1 := setClk { s.clk with heldRates := rest } s
  match t with
  | some t =>
    { s1 with comp := { s1.comp with
        running := s1.comp.running.map fun e => if e.ticket = t then { e with land := s1.tb.frame } else e } }
  | none => s1

theorem rateTaken_withHold (t : Option Word) (rest : List (Option Word × Word)) :
    rateTaken t rest (withHold k s) = withHold k (rateTaken t rest s) := by cases t <;> rfl

/-- What follows a waiting rate's landing. -/
def rateLanded (t : Option Word) (f : Nat) (r : State × Bool) : State :=
  if r.2 then r.1 else (match t with | some t => finishRunning t f r.1 | none => r.1)

theorem rateLanded_withHold (t : Option Word) (f : Nat) (r : State × Bool) :
    rateLanded t f (withHoldOf k r) = withHold k (rateLanded t f r) := by
  refine withHold_ite Iff.rfl rfl ?_
  cases t with
  | none => rfl
  | some t => exact finishRunning_withHold t f

theorem nextRate_taken : nextRate s = match s.clk.heldRates with
    | [] => s
    | (t, w) :: rest => rateLanded t s.tb.frame (rateLand t w (rateTaken t rest s)) := rfl

theorem nextRate_withHold : nextRate (withHold k s) = withHold k (nextRate s) := by
  rw [nextRate_taken, nextRate_taken, show (withHold k s).clk = s.clk from rfl]
  cases s.clk.heldRates with
  | nil => rfl
  | cons x rest =>
    dsimp only
    rw [rateTaken_withHold, rateLand_withHold]
    exact rateLanded_withHold ..

theorem nextRates_withHold : nextRates (withHold k s) = withHold k (nextRates s) :=
  withHold_foldl (f := fun t _ => if t.clk.change.isNone then nextRate t else t)
    (fun _ _ => withHold_ite Iff.rfl nextRate_withHold rfl) s.clk.heldRates s

theorem endChange_withHold : endChange (withHold k s) = withHold k (endChange s) := by
  unfold endChange
  rw [show (withHold k s).clk = s.clk from rfl]
  cases s.clk.change with
  | none => rfl
  | some c =>
    dsimp only
    rw [setClk_withHold]
    cases c.ticket with
    | none => exact nextRates_withHold
    | some t =>
      dsimp only
      rw [finishRunning_withHold]
      exact nextRates_withHold

/-- A search's result filled into a free slot. -/
def searchFilled (fam : Bool) (band : BitVec 5) (fine : BitVec 9) (o : Option Nat) (s : State) : State :=
  match o with
  | some i =>
    let w := flg true 31 ||| flg (bit (slotWord s i) 30) 30 ||| flg fam 28 ||| fld band.toNat 23 ||| fld fine.toNat 14
      ||| fld (unsgn 8 (dieTemp s)) 0
    setClk { s.clk with
      slotOrder := s.clk.slotOrder.filter (· != i) ++ [i], stale := s.clk.stale.filter (· != i) }
        (rset (aPLLM_CALSLOT i) w s)
  | none => s

theorem searchFilled_withHold (fam : Bool) (band : BitVec 5) (fine : BitVec 9) (o : Option Nat) :
    searchFilled fam band fine o (withHold k s) = withHold k (searchFilled fam band fine o s) := by cases o <;> rfl

/-- What follows a search's result. -/
def searchNext (found : Bool) (s1 : State) : State :=
  match s1.clk.bootSearch with
  | f :: rest => setClk { s1.clk with bootSearch := rest, search := some f } s1
  | [] =>
    match s1.clk.change with
    | some c =>
      if c.phase ≠ .search then s1
      else if found then startRamp c s1
      else setClk { s1.clk with search := some c.fam } s1
    | none => s1

theorem searchNext_withHold (b : Bool) : searchNext b (withHold k s) = withHold k (searchNext b s) := by
  unfold searchNext
  rw [show (withHold k s).clk = s.clk from rfl]
  cases s.clk.bootSearch with
  | cons f rest => rfl
  | nil =>
    dsimp only
    cases s.clk.change with
    | none => rfl
    | some c => exact withHold_ite Iff.rfl rfl (withHold_ite Iff.rfl (startRamp_withHold c) rfl)

theorem searchDone_parts (band : BitVec 5) (fine : BitVec 9) (found : Bool) : searchDone band fine found s =
    match s.clk.search with
    | none => s
    | some fam => searchNext found
      (setClk { (searchFilled fam band fine (if found then slotFree s else none) s).clk with
        search := none } (searchFilled fam band fine (if found then slotFree s else none) s)) := rfl

theorem searchDone_withHold (band : BitVec 5) (fine : BitVec 9) (found : Bool) :
    searchDone band fine found (withHold k s) = withHold k (searchDone band fine found s) := by
  rw [searchDone_parts, searchDone_parts, show (withHold k s).clk = s.clk from rfl, show slotFree (withHold k s) =
    slotFree s from rfl]
  cases s.clk.search with
  | none => rfl
  | some fam =>
    dsimp only
    rw [searchFilled_withHold]
    exact searchNext_withHold (s := setClk _ _) found

/-- The next packet of a port's queue, when it may go. -/
def drainNext (n : Fin 2) (s : State) : Option (Nat × QPkt) :=
  match s.net.queue.filter (fun q => q.port == n.val) with
  | [] => none
  | q0 :: rest =>
    let at_ := max s.net.free[n] q0.t
    if s.now < at_ then none
    else
      let ready := q0 :: rest.filter fun q => decide (q.t ≤ at_)
      some (at_, (ready.find? fun q => q.cls == 0).getD ((ready.find? fun q => q.cls == 1).getD q0))

theorem drainPort_next (n : Fin 2) (m : Nat) : drainPort n (m + 1) s = match drainNext n s with
    | none => s
    | some (t, q) => drainPort n m (sendPkt n t q.pkt (setNet { s.net with queue := s.net.queue.erase q } s)) := by
  unfold drainNext
  rw [drainPort]
  cases s.net.queue.filter (fun q => q.port == n.val) with
  | nil => rfl
  | cons q0 rest =>
    dsimp only
    split <;> rfl

theorem drainPort_withHold (n : Fin 2) (m : Nat) : ∀ s, drainPort n m (withHold k s) = withHold k
    (drainPort n m s) := by
  induction m with
  | zero => exact fun _ => rfl
  | succ m ih =>
    intro s
    rw [drainPort_next, drainPort_next, show drainNext n (withHold k s) = drainNext n s from rfl]
    cases drainNext n s with
    | none => rfl
    | some p => exact ih (sendPkt n p.1 p.2.pkt (setNet { s.net with queue := s.net.queue.erase p.2 } s))

theorem netDrain_withHold : netDrain (withHold k s) = withHold k (netDrain s) := by
  unfold netDrain
  rw [show (withHold k s).net = s.net from rfl, drainPort_withHold, drainPort_withHold]

/-- A link taken down, its packets drained. -/
def linkFallen (n : Fin 2) (hiBer : Bool) (s : State) : State :=
  setNet { s.net with link := s.net.link.set n { s.net.link[n] with up := false, hiBer := hiBer, anDone := false } } s

/-- What a link that was up loses. -/
def linkLost (n : Fin 2) (c : Nat) (s : State) : State :=
  iset (pgNET n) 0 (cnt (aNET_LINKDN_CNT n) (cnt (aNET_DROP_CNT n) (setNet { s.net with
    macs := s.net.macs.filter fun m => m.port != n.val
    igmp := s.net.igmp.filter fun m => m.port != n.val
    queue := s.net.queue.filter fun q => q.port != n.val } s) c))

theorem linkFallen_withHold (n : Fin 2) (b : Bool) : linkFallen n b (withHold k s) = withHold k (linkFallen n b s) :=
    rfl

theorem linkLost_withHold (n : Fin 2) (c : Nat) : linkLost n c (withHold k s) = withHold k (linkLost n c s) := rfl

/-- The fail-over that a lost link asks for. -/
def lapseNoted (c tx : Bool) (s : State) : State :=
  if c then requestRelease (.fault 7) (if tx then s else iset pgSTREAMTX 1 s) else if tx then s else iset pgSTREAMTX 1 s

theorem lapseNoted_withHold (c tx : Bool) : lapseNoted c tx (withHold k s) = withHold k (lapseNoted c tx s) := by
  have h : (if tx then withHold k s else iset pgSTREAMTX 1 (withHold k s)) = withHold k
      (if tx then s else iset pgSTREAMTX 1 s) :=
    withHold_ite Iff.rfl rfl rfl
  unfold lapseNoted
  rw [h, requestRelease_withHold, ← apply_ite (withHold k)]

theorem linkDown_parts (n : Fin 2) (b : Bool) (s : State) : linkDown n b s =
    if ¬ (netDrain s).net.link[n].up then linkFallen n b (netDrain s)
    else lapseNoted (rbit (netDrain s) (aNET_CFG n) 31) (netDrain s).net.tx.isEmpty (linkLost n
      ((netDrain s).net.queue.filter fun q => q.port == n.val).length (linkFallen n b (netDrain s))) := rfl

theorem linkDown_withHold (n : Fin 2) (b : Bool) : linkDown n b (withHold k s) = withHold k (linkDown n b s) := by
  rw [linkDown_parts, linkDown_parts, netDrain_withHold]
  generalize netDrain s = u
  refine withHold_ite Iff.rfl rfl ?_
  rw [linkFallen_withHold, linkLost_withHold]
  exact lapseNoted_withHold ..

theorem ptpStop_withHold : ptpStop (withHold k s) = withHold k (ptpStop s) := rfl

theorem lolCount_withHold (lo : Nat) : lolCount lo (withHold k s) = withHold k (lolCount lo s) := rfl

/-- The loss of PLL-A, before the device's own fault. -/
def lossANoted (s : State) : State :=
  ptpStop (alarm 1 (iset pgCLKGEN 4 (iset pgCLKGEN 1 (lolCount 0
    (setClk { s.clk with lockA := false, fabFb := true, coreGated := true } s)))))

theorem lossANoted_withHold : lossANoted (withHold k s) = withHold k (lossANoted s) := by
  unfold lossANoted
  rw [show (withHold k s).clk = s.clk from rfl, setClk_withHold, lolCount_withHold, iset_withHold, iset_withHold,
    alarm_withHold,
    ptpStop_withHold]

theorem lossA_withHold : lossA (withHold k s) = withHold k (lossA s) := by
  change ownFault 4 (lossANoted (withHold k s)) = withHold k (ownFault 4 (lossANoted s))
  rw [lossANoted_withHold, ownFault_withHold]

/-- The loss of PLL-D noted. -/
def lossDNoted (s : State) : State := alarm 3 (iset pgCLKGEN 2 (lolCount 8 (setClk { s.clk with lockD := false } s)))

theorem lossDNoted_withHold : lossDNoted (withHold k s) = withHold k (lossDNoted s) := by
  unfold lossDNoted
  rw [show (withHold k s).clk = s.clk from rfl, setClk_withHold, lolCount_withHold, iset_withHold, alarm_withHold]

theorem lossD_withHold : lossD (withHold k s) = withHold k (lossD s) := by
  change (if (lossDNoted (withHold k s)).cistern.st = .off then lossDNoted (withHold k s) else enterLost
    (lossDNoted (withHold k s))) =
    withHold k (if (lossDNoted s).cistern.st = .off then lossDNoted s else enterLost (lossDNoted s))
  rw [lossDNoted_withHold, enterLost_withHold]
  exact withHold_ite Iff.rfl rfl rfl

/-- The loss of PLL-M noted. -/
def lossMNoted (s : State) : State := alarm 2 (iset pgPLLM 1
    (cnt aPLLM_LOL_CNT (setClk { s.clk with lockM := false } s)))

theorem lossMNoted_withHold : lossMNoted (withHold k s) = withHold k (lossMNoted s) := by
  unfold lossMNoted
  rw [show (withHold k s).clk = s.clk from rfl, setClk_withHold, cnt_withHold, iset_withHold, alarm_withHold]

theorem lossM_withHold : lossM (withHold k s) = withHold k (lossM s) := by
  change standbyFault 5 (endChange (setTb { (lossMNoted (withHold k s)).tb with ticking := false }
    (lossMNoted (withHold k s)))) =
    withHold k (standbyFault 5 (endChange (setTb { (lossMNoted s).tb with ticking := false } (lossMNoted s))))
  rw [lossMNoted_withHold, ← standbyFault_withHold, ← endChange_withHold]
  rfl

/-- The loss of PLL-S noted. -/
def lossSNoted (s : State) : State := iset pgCLKGEN 3 (lolCount 16 (setClk { s.clk with lockS := false } s))

/-- A release that the loss of PLL-S asked for kept only by a device that was hot lately. -/
def releaseKept (b : Bool) (r : Option Release) (s : State) : State :=
  if b then s else setTwinSt { s.twin with release := r } s

theorem lossSNoted_withHold : lossSNoted (withHold k s) = withHold k (lossSNoted s) := by
  unfold lossSNoted
  rw [show (withHold k s).clk = s.clk from rfl, setClk_withHold, lolCount_withHold, iset_withHold]

theorem releaseKept_withHold (b : Bool) (r : Option Release) : releaseKept b r (withHold k s) = withHold k
    (releaseKept b r s) :=
  withHold_ite Iff.rfl rfl rfl

theorem lossS_parts (s : State) : lossS s = traliatLinkDown (releaseKept (hotLately s) (lossSNoted s).twin.release
    (linkDown 1 false (linkDown 0 false (lossSNoted s)))) := by
  unfold lossS
  extract_lets c s1 s2 w s3
  have h1 : s1 = lossSNoted s := rfl
  have h2 : s2 = linkDown 1 false (linkDown 0 false s1) := rfl
  have h3 : s3 = releaseKept (hotLately s) s1.twin.release s2 := rfl
  rw [h3, h2, h1]

theorem lossS_withHold : lossS (withHold k s) = withHold k (lossS s) := by
  rw [lossS_parts, lossS_parts, lossSNoted_withHold, linkDown_withHold, linkDown_withHold,
    show hotLately (withHold k s) = hotLately s from rfl, show ∀ u, (withHold k u).twin = u.twin from fun _ => rfl,
    releaseKept_withHold, traliatLinkDown_withHold]

theorem pllLoss_withHold (l : PllLoop) : pllLoss l (withHold k s) = withHold k (pllLoss l s) := by
  refine withHold_ite Iff.rfl rfl ?_
  cases l with
  | a => exact lossA_withHold
  | d => exact lossD_withHold
  | m => exact lossM_withHold
  | s => exact lossS_withHold

/-- A lock of PLL-A in a start. -/
def lockedA (s : State) : State :=
  iset pgCLKGEN 0 (ptpStart (setClk { s.clk with lockA := true, fabFb := false, coreGated := false } s))

theorem declareLock_a (h : s.boot.run = false) : declareLock .a s = lockedA s :=
  if_pos (by simp [h])

theorem declareLock_withHold (h : s.boot.run = false) (l : PllLoop) :
    declareLock l (withHold k s) = withHold k (declareLock l s) := by
  cases l with
  | a =>
    rw [declareLock_a h, declareLock_a (s := withHold k s) h]
    rfl
  | d => exact withHold_ite Iff.rfl rfl rfl
  | m => rfl
  | s => rfl

/-- A good window of a loop that has its lock. -/
def lockAgain (l : PllLoop) (s : State) : State :=
  match l, s.clk.change with
  | .m, some c => if c.phase = .relock then setClk { s.clk with change := some { c with phase := .resume } } s else s
  | _, _ => s

theorem lockAgain_withHold (l : PllLoop) : lockAgain l (withHold k s) = withHold k (lockAgain l s) := by
  unfold lockAgain
  rw [show (withHold k s).clk = s.clk from rfl]
  cases l with
  | a | d | s => rfl
  | m =>
    cases s.clk.change with
    | none => rfl
    | some c => exact withHold_ite Iff.rfl rfl rfl

theorem pllLock_withHold (h : s.boot.run = false) (l : PllLoop) (n : Nat) :
    pllLock l n (withHold k s) = withHold k (pllLock l n s) := by
  refine withHold_ite Iff.rfl rfl (withHold_ite Iff.rfl ?_ (withHold_ite Iff.rfl ?_ ?_))
  · exact pllLoss_withHold (s := rset (lockCntReg l) (w32 n) s) l
  · exact declareLock_withHold (s := rset (lockCntReg l) (w32 n) s) h l
  · exact lockAgain_withHold (s := rset (lockCntReg l) (w32 n) s) l

/-! ### O60: the control cells do not see the hold point; an event of the start acts before the start goes on -/

/-- A bad cell of a channel whose cells are owed, noted. -/
def cellOwed (ch q : Nat) (s : State) : State :=
  if ch = 6 then setTwinSt { s.twin with fwdOwed := natPut q s.twin.fwdOwed } s
  else if ch = 4 then setTwinSt { s.twin with galOwed := natPut q s.twin.galOwed } s else s

theorem cellOwed_withHold (ch q : Nat) : cellOwed ch q (withHold k s) = withHold k (cellOwed ch q s) :=
  withHold_ite Iff.rfl rfl (withHold_ite Iff.rfl rfl rfl)

theorem cellOwed_boot (ch q : Nat) : (cellOwed ch q s).boot = s.boot := by
  unfold cellOwed
  split
  · rfl
  · split <;> rfl

theorem cellIn_owed (ch : Nat) (h : CellHdr) (s : State) : cellIn ch h s =
    if ¬ s.twin.link then (s, false) else if h.crcOk then (s, true)
    else (cellOwed ch h.seq.toNat (sendCell 8 (.nak ch h.seq.toNat) (cnt aTWIN_CELL_ERR_CNT s)), false) := rfl

theorem cellIn_withHold (ch : Nat) (h : CellHdr) : cellIn ch h (withHold k s) = withHoldOf k (cellIn ch h s) := by
  rw [cellIn_owed, cellIn_owed, show (withHold k s).twin = s.twin from rfl, cnt_withHold, sendCell_withHold,
    cellOwed_withHold]
  split
  · rfl
  · split <;> rfl

theorem regionWords_withHold (r : Nat) : regionWords (withHold k s) r = regionWords s r := rfl

theorem regionCrc_withHold (r : Nat) : regionCrc (withHold k s) r = regionCrc s r := by
  unfold regionCrc
  rw [regionWords_withHold]

/-- The regions whose CRCs differ, as the CRCs are given. -/
def regionsOff (l : List (Nat × Word)) (s : State) : List (Nat × Word) := l.filter fun x => regionCrc s x.1 != x.2

/-- The CRCs of the device's own regions. -/
def regionsOwn (l : List (Nat × Word)) (s : State) : List (Nat × Word) := l.map fun x => (x.1, regionCrc s x.1)

theorem regionsOff_withHold (l : List (Nat × Word)) : regionsOff l (withHold k s) = regionsOff l s := by
  unfold regionsOff
  simp only [regionCrc_withHold]

theorem regionsOwn_withHold (l : List (Nat × Word)) : regionsOwn l (withHold k s) = regionsOwn l s := by
  unfold regionsOwn
  simp only [regionCrc_withHold]

/-- A region sent to the partner. -/
def regionSent (s : State) (x : Nat × Word) : State := sendCell 7 (.words false (regionWords s x.1)) s

/-- The tables sent to the partner. -/
def tablesSent (p : DataPart) (s : State) : State := sendCell 7 (.part p) s

theorem regionSent_withHold (s : State) (x : Nat × Word) : regionSent (withHold k s) x = withHold k
    (regionSent s x) := by
  unfold regionSent
  rw [regionWords_withHold, sendCell_withHold]

theorem takeRegions_sent (l : List (Nat × Word)) (s : State) : takeRegions l s =
    if s.twin.st = .syncing then setTwinSt { s.twin with pRegions := l } s
    else if isActive s ∧ s.twin.pstate = 4 then
      tablesSent (.tables s.net.rxE s.net.txE (s.cistern.lines.map fun y => (y.i, lineWords y)))
        ((regionsOff l s).foldl regionSent (sendCell 8 (.regions (regionsOwn l s)) s))
    else s := rfl

theorem takeRegions_withHold (l : List (Nat × Word)) : takeRegions l (withHold k s) = withHold k (takeRegions l s) := by
  rw [takeRegions_sent, takeRegions_sent]
  refine withHold_ite Iff.rfl rfl (withHold_ite Iff.rfl ?_ rfl)
  rw [regionsOff_withHold, regionsOwn_withHold, sendCell_withHold, withHold_foldl regionSent_withHold]
  exact sendCell_withHold ..

theorem submitAction_idle (h : s.boot.run = false) (i : Nat) : submitAction i none s = s :=
  if_pos ⟨rfl, .inl (by simp [galleyReady, galleyRuns, h])⟩

theorem foldl_submitAction_idle (h : s.boot.run = false) (l : List Nat) :
    l.foldl (fun s i => submitAction i none s) s = s := by
  induction l with
  | nil => rfl
  | cons i l ih => rw [List.foldl_cons, submitAction_idle h, ih]

/-- A record written to the ring of sense events. -/
def recordRing (w0 w1 : Word) (s : State) : State :=
  let prod := rfld s aSENSE_EVT_PROD 15 0
  iset pgSENSE 0 (rput aSENSE_EVT_PROD 15 0 ((prod + 1) % 65536)
    (rset (aSENSE_EVT (prod % 64) + 4) w1 (rset (aSENSE_EVT (prod % 64)) w0 s)))

/-- A record of a full ring counted as lost. -/
def recordLost (b : Bool) (s : State) : State := if b then cnt aSENSE_EVT_LOST s else s

theorem recordLost_boot (b : Bool) : (recordLost b s).boot = s.boot := by cases b <;> rfl

/-- Whether the ring of sense events is full. -/
def ringFull (s : State) : Bool := (rfld s aSENSE_EVT_PROD 15 0 + 65536 - rfld s aSENSE_EVT_CONS 15 0) % 65536 ≥ 64

theorem writeRecord_idle (h : s.boot.run = false) (w0 w1 : Word) : writeRecord w0 w1 s = recordLost (ringFull s)
    (recordRing w0 w1 s) := by
  unfold writeRecord
  extract_lets prod full a s1 s2
  have h2 : s2 = recordLost (ringFull s) (recordRing w0 w1 s) := by
    unfold recordLost ringFull
    simp only [decide_eq_true_eq]
    rfl
  have hb : s2.boot.run = false := by
    rw [h2, recordLost_boot]
    exact h
  rw [foldl_submitAction_idle hb, h2]

theorem writeRecord_withHold (h : s.boot.run = false) (w0 w1 : Word) :
    writeRecord w0 w1 (withHold k s) = withHold k (writeRecord w0 w1 s) := by
  rw [writeRecord_idle h, writeRecord_idle (s := withHold k s) h]
  exact withHold_ite Iff.rfl rfl rfl

theorem partnerSense_withHold (h : s.boot.run = false) (w0 w1 : Word) :
    partnerSense w0 w1 (withHold k s) = withHold k (partnerSense w0 w1 s) :=
  withHold_ite Iff.rfl (writeRecord_withHold h w0 w1) rfl

theorem cellIn_boot (ch : Nat) (h : CellHdr) : (cellIn ch h s).1.boot = s.boot := by
  rw [cellIn_owed]
  split
  · rfl
  · split
    · rfl
    · rw [cellOwed_boot]
      exact (within_sendCell ..).1 .boot (by decide)

/-- What a control cell that is taken does. -/
def ctrlTaken (m : CtrlMsg) (s : State) : State :=
  match m with
  | .hello => setTwinSt { s.twin with hello := true } s
  | .negotiate pair lease rate chip step crc bad st =>
    let s1 := setTwinSt { s.twin with negDone := true, pstate := st.val } s
    if sameConfig s pair lease rate chip step crc bad then setTwinSt { s1.twin with cfgDiff := false } s1
    else errcap pgTWIN 4 0 (iset pgTWIN 9 (setTwinSt { s1.twin with cfgDiff := true } s1))
  | .fence => fenceSelf s
  | .rejoin => setTwinSt { s.twin with pstate := 4, joinPh := 1 } s
  | .regions l => takeRegions l s
  | .cut f =>
    if s.twin.st = .syncing ∧ s.twin.phase = 3 then
      rset aTWIN_CUT_HI (hi32 f) (rset aTWIN_CUT_LO (lo32 f) (setTwinSt { s.twin with cut := f } s))
    else s
  | .senseEvent w0 w1 => partnerSense w0 w1 s

theorem ctrlTaken_withHold (h : s.boot.run = false) (m : CtrlMsg) : ctrlTaken m (withHold k s) = withHold k
    (ctrlTaken m s) := by
  cases m with
  | hello | rejoin => rfl
  | negotiate pair lease rate chip step crc bad st =>
    refine withHold_ite Iff.rfl rfl ?_
    rw [← errcap_withHold]
    rfl
  | fence => exact fenceSelf_withHold
  | regions l => exact takeRegions_withHold l
  | cut f => exact withHold_ite Iff.rfl rfl rfl
  | senseEvent w0 w1 => exact partnerSense_withHold h w0 w1

theorem ctrlCell_taken (c : CtrlCell) : ctrlCell c s =
    if ¬ (cellIn 8 c.h s).2 then (cellIn 8 c.h s).1 else ctrlTaken c.m (cellIn 8 c.h s).1 := rfl

theorem ctrlCell_withHold (h : s.boot.run = false) (c : CtrlCell) : ctrlCell c (withHold k s) = withHold k
    (ctrlCell c s) := by
  rw [ctrlCell_taken, ctrlCell_taken, cellIn_withHold]
  refine withHold_ite Iff.rfl rfl (ctrlTaken_withHold ?_ c.m)
  rw [cellIn_boot]
  exact h

theorem bootAdvance_atHold {u : State} (h : u.boot.hold.isSome = true) : bootAdvance u = u := by
  by_cases hl : u.boot.held = .none
  · exact bootAdvance_of_inOperation ⟨hl, .inl h⟩
  · exact bootAdvance_held hl

/-- An event that does not see the hold point acts, and then the start goes on. -/
theorem startsOn {c : Instr} {f : State → State} (hl : Live s) (hh : s.boot.hold = none)
    (hc : ∀ s, exec c s = .next (awake (fun u => bootAdvance (f u)) s))
      (hf : ∀ k, f (withHold k s) = withHold k (f s)) :
    Runs c s fun t => ∃ u, exec c { s with boot := { s.boot with hold := some 2 } } = .next u ∧
      t = bootAdvance { u with boot := { u.boot with hold := none } } := by
  have hs : withHold none s = s := by
    unfold withHold
    rw [← hh]
  refine runs_awake hl (hc s) ⟨withHold (some 2) (f s), ?_, ?_⟩
  · change exec c (withHold (some 2) s) = _
    rw [hc, awake_run (s := withHold (some 2) s) _ hl, hf, bootAdvance_atHold rfl]
  · change _ = bootAdvance (withHold none (f s))
    rw [← hf, hs]

theorem startEvent_answers {c : Instr} (h : startEvent c = true) (hl : Live s) (hr : s.boot.run = false)
    (hh : s.boot.hold = none) :
    Runs c s fun t => ∃ u, exec c { s with boot := { s.boot with hold := some 2 } } = .next u ∧
      t = bootAdvance { u with boot := { u.boot with hold := none } } := by
  cases c with
  | pllLock l n => exact startsOn (f := pllLock l n.toNat) hl hh (fun _ => rfl) fun _ => pllLock_withHold hr ..
  | dpllEvaluation x => exact startsOn (f := dpllEvaluation x) hl hh (fun _ => rfl) fun _ => dpllEvaluation_withHold x
  | lockDeclared => exact startsOn (f := lockDeclared) hl hh (fun _ => rfl) fun _ => lockDeclared_withHold
  | searchDone b x o => exact startsOn (f := searchDone b x o) hl hh (fun _ => rfl) fun _ => searchDone_withHold ..
  | negTimeout => exact startsOn (f := negTimeout) hl hh (fun _ => rfl) fun _ => negTimeout_withHold
  | trainingDone r => exact startsOn (f := trainingDone r) hl hh (fun _ => rfl) fun _ => trainingDone_withHold r
  | ctrlCell x => exact startsOn (f := ctrlCell x) hl hh (fun _ => rfl) fun _ => ctrlCell_withHold hr x
  | _ => exact absurd h Bool.false_ne_true

end Sys2Proof.Machine
end

section
/-!
PROOFS. O60, resets and the steps of the start.
-/

-- One declaration after another: side by side, the stacks of the threads exceed what memory the check allows.
set_option Elab.async false

namespace Sys2Proof.Machine

variable {s t u : State}

/-! ### O60: what the start's own steps change, no register list waiting -/

theorem Within.setBoot {l : List Part} {A : Nat → Prop} (h : Within l A s t) (x : BootSt)
    (hl : .boot ∈ l := by decide) :
    Within l A s (setBoot x t) :=
  ⟨fun p hp => (h.1 p hp).trans (by cases p <;> first | rfl | exact absurd hl hp), h.2⟩

/-- The registers that the start's own steps write. -/
def startRegs : List Nat := aISTAT pgBOOT :: aISTAT pgTWIN :: (List.range 15).map fun i => aBOOT_T_STEP i

/-- The parts that the start's own steps change. -/
def startParts : List Part := [.regs, .boot, .twin, .clk, .cistern, .galley, .basin]

/-- The start has moved on. -/
structure Moved (s t : State) : Prop where
  within : Within startParts (· ∈ startRegs) s t
  boot : ∃ x y h, t.boot = { s.boot with step := x, stepT := y, hold := h }
  raised : ∀ k, rbit s (aISTAT pgBOOT) k = true → rbit t (aISTAT pgBOOT) k = true

theorem Moved.refl (s : State) : Moved s s := ⟨.refl .., ⟨_, _, _, rfl⟩, fun _ h => h⟩

theorem Moved.trans (h : Moved s t) (h' : Moved t u) : Moved s u := by
  obtain ⟨x, y, z, hb⟩ := h'.boot
  obtain ⟨x', y', z', hb'⟩ := h.boot
  refine ⟨h.within.trans h'.within, ⟨x, y, z, ?_⟩, fun k hk => h'.raised k (h.raised k hk)⟩
  rw [hb, hb']

theorem Moved.held (h : Moved s t) : t.boot.held = s.boot.held := by
  obtain ⟨x, y, z, hb⟩ := h.boot
  rw [hb]

theorem Moved.regInit (h : Moved s t) : t.boot.regInit = s.boot.regInit := by
  obtain ⟨x, y, z, hb⟩ := h.boot
  rw [hb]

theorem Moved.ite {c : Prop} [Decidable c] (h : Moved s t) (h' : Moved s u) : Moved s (if c then t else u) := by
  split <;> assumption

/-- The start's own steps change no other part than these; the registers and the start itself stay. -/
theorem Moved.of_parts (h : Within startParts (fun _ => False) s t) (hb : t.boot = s.boot) : Moved s t :=
  ⟨h.mono (fun _ h => h) fun _ h => h.elim, ⟨_, _, _, hb⟩, fun k hk => (congrArg (bit · k) (h.2 _ id)).trans hk⟩

theorem tStep_mem (x : BootStep) : aBOOT_T_STEP (stepNo x - 1) ∈ startRegs := by cases x <;> decide

theorem tStep_ne (x : BootStep) : aISTAT pgBOOT ≠ aBOOT_T_STEP (stepNo x - 1) := by cases x <;> decide

theorem moved_endStep (x : BootStep) (s : State) : Moved s (endStep x s) := by
  refine ⟨?_, ⟨x, s.now, s.boot.hold, rfl⟩, fun k hk => ?_⟩
  · exact ((Within.refl startParts (· ∈ startRegs) s).rset _ (by decide) (tStep_mem _)).setBoot _
  · exact (congrArg (bit · k) (rget_rset_ne _ _ (tStep_ne _))).trans hk

theorem moved_iset_boot (b : Nat) (s : State) : Moved s (iset pgBOOT b s) := by
  refine ⟨(Within.refl startParts (· ∈ startRegs) s).iset b, ⟨_, _, _, rfl⟩, fun k hk => ?_⟩
  exact rbit_rset_of_bit (by decide) (by rw [bit_or]; exact Bool.or_eq_true_iff.2 (.inl hk))

theorem moved_holdAt (n : Fin 3) (s : State) : Moved s (holdAt n s) := by
  have h : Moved s (setBoot { s.boot with hold := some n } s) :=
    ⟨(Within.refl startParts (· ∈ startRegs) s).setBoot _, ⟨_, _, _, rfl⟩, fun _ h => h⟩
  exact h.trans (moved_iset_boot 3 _)

theorem moved_leave6 (s : State) : Moved s (leave6 s) :=
  .ite (.refl s) (.of_parts ((Within.refl ..).setCist _) rfl)

theorem moved_setTwin_solo (s : State) : Moved s (setTwin .solo s) := by
  unfold setTwin
  split
  · exact .refl s
  · next h =>
    dsimp only
    rw [if_pos (.inl rfl)]
    have hsub : ∀ p ∈ [Part.galley, .basin, .twin, .cistern], p ∈ startParts := by decide
    have hk := ((Keeps.refl [.galley, .basin, .twin, .cistern] s).leaveRole .solo (List.Subset.refl _)).but
    have hl : Moved s (leaveRole .solo s) :=
      .of_parts ⟨fun p hp => hk p fun h => hp (hsub p h), fun _ _ => rget_leaveRole ..⟩ (hk .boot (by decide))
    have hw : Within startParts (· ∈ startRegs) (leaveRole .solo s)
      (iset pgTWIN 0 (setTwinSt { (leaveRole .solo s).twin with st := .solo } (leaveRole .solo s))) :=
        ((Within.refl ..).setTwinSt _).iset 0
    exact hl.trans ⟨hw, ⟨_, _, _, rfl⟩, fun k hk => (congrArg (bit · k) (rget_iset_ne pgTWIN 0 _ (by decide))).trans hk⟩

theorem applyPhase_nil (k : Nat) (h : s.boot.regInit = []) : applyPhase k s = s := by
  unfold applyPhase
  rw [h]
  rfl

theorem enter6_nil (h : s.boot.regInit = []) : enter6 s = endStep .s6 s := applyPhase_nil 1 h

theorem moved_enter7 (h : s.boot.regInit = []) : Moved s (enter7 s) ∧ (enter7 s).boot.step = .s7 ∧
    (enter7 s).boot.hold = s.boot.hold := by
  have hm : Moved s (endStep .s7 (leave6 s)) := (moved_leave6 s).trans (moved_endStep .s7 _)
  have hh : (leave6 s).boot = s.boot := by
    unfold leave6
    split <;> rfl
  have hn : applyPhase 2 (endStep .s7 (leave6 s)) = endStep .s7 (leave6 s) := applyPhase_nil 2 (hm.regInit.trans h)
  have hx : (endStep .s7 (leave6 s)).boot.hold = s.boot.hold := (congrArg BootSt.hold hh :)
  unfold enter7
  rw [hn]
  dsimp only
  split
  · exact ⟨hm.trans (.of_parts ((Within.refl ..).setClk _) rfl), rfl, hx⟩
  · exact ⟨hm, rfl, hx⟩

theorem moved_enter8 (s : State) : Moved s (enter8 s) ∧ (enter8 s).boot.step = .s8 ∧ (enter8 s).boot.hold =
    s.boot.hold := by
  have hm : Moved s (endStep .s8 s) := moved_endStep .s8 s
  have ht (x : TwinSt) : Moved s (setTwinSt x (endStep .s8 s)) :=
    hm.trans (.of_parts ((Within.refl ..).setTwinSt _) rfl)
  unfold enter8
  dsimp only
  split
  · exact ⟨ht _, rfl, rfl⟩
  · have hs := moved_setTwin_solo
    have hb : ∀ u, (setTwin .solo u).boot = u.boot := fun u =>
      ((Keeps.refl [.regs, .galley, .basin, .twin, .cistern, .fab] u).setTwin .solo (List.Subset.refl _)).but .boot
        (by decide)
    refine ⟨(ht _).trans (hs _), ?_, ?_⟩
    · rw [hb]
      rfl
    · rw [hb]
      rfl

theorem moved_enter9 (h : s.boot.regInit = []) : Moved s (enter9 s) ∧ (enter9 s).boot.step = .s9 ∧
    ((enter9 s).boot.hold = s.boot.hold ∨ (enter9 s).boot.hold = some 2) := by
  have hm : Moved s (endStep .s9 s) := moved_endStep .s9 s
  unfold enter9
  rw [applyPhase_nil 3 (s := endStep .s9 s) h]
  dsimp only
  split
  · exact ⟨hm.trans (moved_holdAt 2 _), rfl, .inr rfl⟩
  · exact ⟨hm, rfl, .inl rfl⟩

/-- A step of the start from step 6 on. -/
def lateStep (x : BootStep) : Prop := x = .s6 ∨ x = .s7 ∨ x = .s8 ∨ x = .s9

/-- The start has moved on within its steps 6 to 9, and stopped at H2 at most. -/
structure Late (s t : State) : Prop where
  moved : Moved s t
  step : lateStep t.boot.step
  hold : t.boot.hold = s.boot.hold ∨ t.boot.hold = some 2

theorem Late.trans (h : Late s t) (h' : Late t u) : Late s u :=
  ⟨h.moved.trans h'.moved, h'.step, h'.hold.elim (fun e => h.hold.imp e.trans e.trans) .inr⟩

theorem Late.refl (h : lateStep s.boot.step) : Late s s := ⟨.refl s, h, .inl rfl⟩

theorem late_bootNext (hs : lateStep s.boot.step) (hn : s.boot.regInit = []) : Late s (bootNext s) := by
  have hr : Late s s := .refl hs
  have h9 : lateStep .s9 := .inr (.inr (.inr rfl))
  unfold bootNext
  split
  · exact hr
  · rcases hs with h | h | h | h <;> rw [h] <;> dsimp only
    · split
      · obtain ⟨hm, hst, hh⟩ := moved_enter7 hn
        exact ⟨hm, .inr (.inl hst), .inl hh⟩
      · exact hr
    · split
      · obtain ⟨hm, hst, hh⟩ := moved_enter8 s
        exact ⟨hm, .inr (.inr (.inl hst)), .inl hh⟩
      · exact hr
    · split
      · obtain ⟨hm, hst, hh⟩ := moved_enter9 hn
        exact ⟨hm, .inr (.inr (.inr hst)), hh⟩
      · exact hr
    · exact hr

/-- Seven steps in a row keep what each of them keeps. -/
theorem bootAdvance_rec {P : State → Prop} (h0 : P s) (hn : ∀ u, P u → P (bootNext u)) : P (bootAdvance s) :=
  hn _ (hn _ (hn _ (hn _ (hn _ (hn _ (hn _ h0))))))

theorem late_bootAdvance (hs : lateStep s.boot.step) (hn : s.boot.regInit = []) : Late s (bootAdvance s) :=
  bootAdvance_rec (.refl hs) fun _ hu => hu.trans (late_bootNext hu.step (hu.moved.regInit.trans hn))

/-- An image is in, or factory defaults stand: the start waits at H1, or goes on in its steps 6 to 9. -/
structure Imaged (s t : State) : Prop where
  moved : Moved s t
  stands : t.boot.hold = some 1 ∨ lateStep t.boot.step

theorem imageDone_nil (hn : s.boot.regInit = []) (h5 : s.boot.step = .s5) :
    imageDone s = if hostHeld s then holdAt 1 s else endStep .s6 s := by
  unfold imageDone
  rw [applyPhase_nil 0 hn]
  dsimp only
  rw [if_neg (not_not.2 h5), enter6_nil hn]

theorem imaged_imageDone (hn : s.boot.regInit = []) (h5 : s.boot.step = .s5) : Imaged s (imageDone s) := by
  rw [imageDone_nil hn h5]
  split
  · exact ⟨moved_holdAt 1 s, .inl rfl⟩
  · exact ⟨moved_endStep .s6 s, .inr (.inl rfl)⟩

theorem Imaged.next (h : Imaged s t) (hn : s.boot.regInit = []) : Imaged s (bootNext t) := by
  rcases h.stands with h1 | h6
  · rwa [show bootNext t = t from if_pos (.inr (by rw [h1]; rfl))]
  · have hl := late_bootNext h6 (h.moved.regInit.trans hn)
    exact ⟨h.moved.trans hl.moved, .inr hl.step⟩

theorem Imaged.advance (h : Imaged s t) (hn : s.boot.regInit = []) : Imaged s (bootAdvance t) :=
  bootAdvance_rec h fun _ hu => hu.next hn

/-- The state with factory defaults. -/
def defaults (c : Nat) (s : State) : State := iset pgBOOT 2 (setBoot { s.boot with src := 1, cause := c } s)

theorem imaged_fallback (c : Nat) (hn : s.boot.regInit = []) (h5 : s.boot.step = .s5) : Imaged (defaults c s)
    (fallback c s) :=
  imaged_imageDone (s := defaults c s) hn h5

/-- Factory defaults stand, and the start goes on. -/
theorem Imaged.defaults {c : Nat} (h : Imaged (defaults c s) t) : Within startParts (· ∈ startRegs) s t ∧ t.boot.src
    = 1 ∧
    t.boot.cause = c ∧ rbit t (aISTAT pgBOOT) 2 = true := by
  have hw : Within startParts (· ∈ startRegs) s (Machine.defaults c s) := ((Within.refl ..).setBoot _).iset 2
  obtain ⟨x, y, z, hb⟩ := h.moved.boot
  exact ⟨hw.trans h.moved.within,
    by rw [hb]; rfl, by rw [hb]; rfl, h.moved.raised 2 (rbit_iset_any ⟨pgBOOT, by decide⟩ (by decide) _)⟩

/-! ### O60: what a reset leaves -/

theorem within_copyRegs (old : State) (l : List Nat) (s : State) : Within [.regs] (fun _ => True) s
    (copyRegs old l s) :=
  Within.foldl (f := fun s a => rset a (rget old a) s) (.refl ..) fun _ h a _ => h.rset _ (by decide) trivial

theorem within_loadFuses (s : State) : Within [.regs] (fun _ => True) s (loadFuses s) :=
  Within.foldl (f := fun s i => rset (otpRegs.getD i 0) (rget s (otpRegs.getD i 0) ||| alGet 0 s.boot.fuses i) s)
    (.refl ..)
    fun _ h a _ => h.rset _ (by decide) trivial

/-- The state that a device is left in by a reset, but for its registers: an unpaired one is SOLO. -/
theorem fusedSolo_boot (s : State) : (fusedSolo s).boot = s.boot := by
  unfold fusedSolo
  split <;> rfl

theorem fusedSolo_twin (s : State) : (fusedSolo s).twin =
    { s.twin with st := if rbit (fusedSolo s) aOTP_CFG 8 then .solo else s.twin.st } ∧
    Within [.twin] (fun _ => False) s (fusedSolo s) := by
  unfold fusedSolo
  split
  · next h =>
    have h' : rbit { s with twin := { s.twin with st := .solo } } aOTP_CFG 8 = true := h
    rw [if_pos h']
    exact ⟨rfl, (Within.refl ..).setTwinSt _⟩
  · exact ⟨rfl, .refl ..⟩

/-- A row of register writes leaves the registers canonical. -/
theorem foldl_regs_wf {α : Type} {f : State → α → State} (hf : ∀ u x, spWf resetWord u.regs = true → spWf resetWord
    (f u x).regs = true)
    (l : List α) {s : State} (h : spWf resetWord s.regs = true) : spWf resetWord (l.foldl f s).regs = true :=
  List.foldlRecOn (motive := fun u : State => spWf resetWord u.regs = true) _ _ h fun u hu x _ => hf u x hu

theorem copyRegs_regs_wf (old : State) (l : List Nat) (h : spWf resetWord s.regs = true) : spWf resetWord
    (copyRegs old l s).regs = true :=
  foldl_regs_wf (fun _ _ h => rset_regs_wf h _ _) l h

theorem loadFuses_regs_wf (h : spWf resetWord s.regs = true) : spWf resetWord (loadFuses s).regs = true :=
  foldl_regs_wf (fun _ _ h => rset_regs_wf h _ _) (List.range 26) h

theorem coldState_regs_wf (hold : ResetHold) (s : State) : spWf resetWord (coldState hold s).regs = true := rfl

/-- What a start at step 1 leaves, its registers and its role apart. -/
theorem coldStart_of {hold : ResetHold} (h : Within [.regs] (fun _ => True) (coldState hold s) t) :
    coldStart s (fusedSolo t) ∧ (fusedSolo t).boot.held = hold := by
  obtain ⟨ht, hw⟩ := fusedSolo_twin t
  have hb : (fusedSolo t).boot = (coldState hold s).boot := (fusedSolo_boot t).trans (h.1 .boot (by decide))
  have htw : t.twin = (coldState hold s).twin := h.1 .twin (by decide)
  have hq : (fusedSolo t).comp = (coldState hold s).comp := Eq.trans (hw.1 .comp (by decide)) (h.1 .comp (by decide))
  refine ⟨⟨Eq.trans (hw.1 .mem
    (by decide)) (h.1 .mem (by decide)), Eq.trans (hw.1 .cist (by decide)) (h.1 .cist (by decide)),
    congrArg BootSt.step hb, congrArg BootSt.run hb, ?_, ?_, congrArg CompositorSt.queue hq,
    Eq.trans (hw.1 .now (by decide)) (h.1 .now (by decide)), (congrArg BootSt.fuses hb :),
    Eq.trans (hw.1 .pending (by decide)) (h.1 .pending (by decide))⟩, congrArg BootSt.held hb⟩
  · rw [ht, htw]
    rfl
  · rw [ht, htw]
    rfl

theorem rget_fusedSolo (s : State) (a : Nat) : rget (fusedSolo s) a = rget s a := (fusedSolo_twin s).2.2 a id

theorem powerReset_effect (hold : ResetHold) (b : Nat) (s : State) : coldStart s (powerReset hold b s) ∧
    (powerReset hold b s).boot.held = hold ∧ rget (powerReset hold b s) aSYS_RSTCAUSE = flg true b := by
  have hf := loadFuses_regs_wf (copyRegs_regs_wf s (aSYS_STRAPS :: otpRegs) (coldState_regs_wf hold s))
  have hw := (within_copyRegs s (aSYS_STRAPS :: otpRegs) (coldState hold s)).trans (within_loadFuses _)
  unfold powerReset
  generalize loadFuses (copyRegs s (aSYS_STRAPS :: otpRegs) (coldState hold s)) = u at hf hw ⊢
  obtain ⟨hc, hh⟩ := coldStart_of (hw.rset (a := aSYS_RSTCAUSE) (flg true b) (by decide) trivial)
  exact ⟨hc, hh, (rget_fusedSolo _ _).trans (rget_rset_same hf _ _)⟩

theorem coldReset_effect (mask : Nat) (s : State) : coldStart s (coldReset mask s) ∧ (coldReset mask s).boot.held =
    .cold ∧
    ∀ k, bit (w32 mask) k = true → rbit (coldReset mask s) aSYS_RSTCAUSE k = true := by
  have hf := copyRegs_regs_wf s ([aSYS_STRAPS, aSYS_RST_CNT] ++ otpRegs) (coldState_regs_wf .cold s)
  have hw := within_copyRegs s ([aSYS_STRAPS, aSYS_RST_CNT] ++ otpRegs) (coldState .cold s)
  unfold coldReset
  generalize copyRegs s ([aSYS_STRAPS, aSYS_RST_CNT] ++ otpRegs) (coldState .cold s) = u at hf hw ⊢
  obtain ⟨hc, hh⟩ := coldStart_of (hw.rset (a := aSYS_RSTCAUSE) (rget s aSYS_RSTCAUSE ||| w32 mask) (by decide) trivial)
  refine ⟨hc, hh, fun k hk => ?_⟩
  rw [rbit, rget_fusedSolo, rget_rset_same hf, bit_or, hk, Bool.or_true]

/-! ### The causes and ends of a reset -/

theorem supplyTrip_answers (s : State) (k : Fin 10) : Runs (.supplyTrip k) s fun t => coldStart s t ∧ t.boot.held =
    .power ∧
    rget t aSYS_RSTCAUSE = flg true (if k = 9 then 1 else 0) :=
  ⟨_, rfl, powerReset_effect .power _ s⟩

theorem xoLoss_answers (h : s.boot.held ≠ .power) : Runs .xoLoss s fun t => coldStart s t ∧ t.boot.held = .xo ∧
    rbit t aINTC_ALMSRC 0 = true ∧ rget t aSYS_RSTCAUSE = flg true 2 := by
  obtain ⟨⟨h1, h2, h3, h4, h5, h6, h7, h8, h9, h10⟩, hh, hr⟩ := powerReset_effect .xo 2 s
  refine ⟨_, congrArg Host.Outcome.next (if_neg h), ⟨h1, h2, h3, h4, h5, ?_, h7, h8, h9, h10⟩, hh, rbit_alarm
    (by decide) _,
    (rget_rset_ne _ _ (by decide)).trans hr⟩
  rw [show rbit (alarm 0 (powerReset .xo 2 s)) aOTP_CFG 8 = rbit (powerReset .xo 2 s) aOTP_CFG 8 from
    congrArg (bit · 8) (rget_rset_ne _ _ (by decide))]
  exact h6

theorem xoLoss_ignored (h : s.boot.held = .power) : Runs .xoLoss s fun t => t = s :=
  ⟨_, congrArg Host.Outcome.next (if_pos h), rfl⟩

theorem xoRestore_answers (h : s.boot.held = .xo) : Runs .xoRestore s fun t =>
    t.boot = { s.boot with held := .none, step := .s2, stepT := s.now } ∧ KeepsBut [.boot] s t :=
  ⟨_, congrArg Host.Outcome.next (if_pos h), rfl, ((Within.refl [.boot] (fun _ => False) s).setBoot _).1⟩

theorem xoRestore_ignored (h : s.boot.held ≠ .xo) : Runs .xoRestore s fun t => t = s :=
  ⟨_, congrArg Host.Outcome.next (if_neg h), rfl⟩

theorem porRelease_power (h : s.boot.held = .power) (x : BitVec 5) (v : BitVec 4) : porRelease x v s =
    endStep .s2 (rset aSYS_STRAPS (w32 (x.toNat &&& 0x1B)) (setBoot { s.boot with held := .none, vio := v } s)) := by
  unfold porRelease
  rw [h]

theorem porRelease_cold (h : s.boot.held = .cold) (x : BitVec 5) (v : BitVec 4) : porRelease x v s =
    endStep .s2 (setBoot { s.boot with held := .none } s) := by
  unfold porRelease
  rw [h]

theorem porRelease_else (h : s.boot.held ≠ .power) (h' : s.boot.held ≠ .cold) (x : BitVec 5) (v : BitVec 4) :
    porRelease x v s = s := by
  unfold porRelease
  split
  · next e => exact absurd e h
  · next e => exact absurd e h'
  · rfl

theorem tStep_ne_straps (x : BootStep) : aSYS_STRAPS ≠ aBOOT_T_STEP (stepNo x - 1) := by cases x <;> decide

theorem within_endStep (x : BootStep) (s : State) : Within [.regs, .boot] (fun _ => True) s (endStep x s) :=
  ((Within.refl ..).rset _ (by decide) trivial).setBoot _

theorem rget_endStep_straps (x : BootStep) (s : State) : rget (endStep x s) aSYS_STRAPS = rget s aSYS_STRAPS :=
  rget_rset_ne _ _ (tStep_ne_straps _)

theorem porRelease_answers (s : State) (x : BitVec 5) (v : BitVec 4) :
    (s.boot.held = .power → Runs (.porRelease x v) s fun t => t.boot.held = .none ∧ t.boot.step = .s2 ∧
      (Canonical s → rget t aSYS_STRAPS = w32 (x.toNat &&& 0x1B)) ∧ t.boot.vio = v ∧ KeepsBut [.regs, .boot] s t) ∧
    (s.boot.held = .cold → Canonical s → Runs (.porRelease x v) s fun t => t.boot.held = .none ∧ t.boot.step = .s2 ∧
      rget t aSYS_STRAPS = rget s aSYS_STRAPS ∧ t.boot.vio = s.boot.vio ∧ KeepsBut [.regs, .boot] s t) ∧
    (s.boot.held ≠ .power → s.boot.held ≠ .cold → Runs (.porRelease x v) s fun t => t = s) := by
  refine ⟨fun h => ?_, fun h _ => ?_, fun h h' => ⟨_, rfl, porRelease_else h h' x v⟩⟩
  · refine ⟨_, congrArg Host.Outcome.next (porRelease_power h x v), rfl, rfl, fun hs => ?_, rfl, ?_⟩
    · exact (rget_endStep_straps ..).trans (rget_rset_same (s := setBoot _ s) hs.1 _ _)
    · exact ((((Within.refl ..).setBoot _).rset _ (by decide) trivial).trans (within_endStep .s2 _)).1
  · refine ⟨_, congrArg Host.Outcome.next (porRelease_cold h x v), rfl, rfl, rget_endStep_straps .., rfl, ?_⟩
    exact (((Within.refl ..).setBoot _).trans (within_endStep .s2 _)).1

/-! ### O60: a warm reset, and the start that follows it -/

/-- The start has moved on, past its slots too. -/
structure Stirred (s t : State) : Prop where
  within : Within startParts (· ∈ aBOOT_SLOT_ERR :: startRegs) s t
  boot : ∃ x y h c e, t.boot = { s.boot with step := x, stepT := y, hold := h, src := c, cause := e }

theorem Stirred.trans (h : Stirred s t) (h' : Stirred t u) : Stirred s u := by
  obtain ⟨x, y, z, c, e, hb⟩ := h'.boot
  obtain ⟨x', y', z', c', e', hb'⟩ := h.boot
  refine ⟨h.within.trans h'.within, ⟨x, y, z, c, e, ?_⟩⟩
  rw [hb, hb']

theorem Moved.stirred (h : Moved s t) : Stirred s t := by
  obtain ⟨x, y, z, hb⟩ := h.boot
  exact ⟨h.within.mono (fun _ h => h) fun _ h => List.mem_cons_of_mem _ h, ⟨x, y, z, _, _, hb⟩⟩

theorem Stirred.regInit (h : Stirred s t) : t.boot.regInit = s.boot.regInit := by
  obtain ⟨x, y, z, c, e, hb⟩ := h.boot
  rw [hb]

theorem stirred_fallback (c : Nat) (hn : s.boot.regInit = []) (h5 : s.boot.step = .s5) : Stirred s (fallback c s) :=
  have hw : Stirred s (defaults c s) :=
    ⟨((Within.refl ..).setBoot _).iset 2, ⟨_, _, _, _, _, rfl⟩⟩
  hw.trans (imaged_fallback c hn h5).moved.stirred

theorem stirred_enter5 (hn : s.boot.regInit = []) : Stirred s (enter5 s) := by
  have hm : Stirred s (endStep .s5 s) := (moved_endStep .s5 s).stirred
  have hr : Stirred s (rput aBOOT_SLOT_ERR 15 8 0x0A (endStep .s5 s)) :=
    hm.trans ⟨(Within.refl ..).rput 15 8 _, ⟨_, _, _, _, _, rfl⟩⟩
  unfold enter5
  dsimp only
  split
  · exact hm
  · exact hr
  · exact hm.trans (stirred_fallback 0x0B (s := endStep .s5 s) hn rfl)

theorem stirred_bootNext (hn : s.boot.regInit = []) : Stirred s (bootNext s) := by
  have hr : Stirred s s := (Moved.refl s).stirred
  have hlate (h : lateStep s.boot.step) : Stirred s (bootNext s) := (late_bootNext h hn).moved.stirred
  cases h : s.boot.step with
  | s6 => exact hlate (.inl h)
  | s7 => exact hlate (.inr (.inl h))
  | s8 => exact hlate (.inr (.inr (.inl h)))
  | s9 => exact hlate (.inr (.inr (.inr h)))
  | s1 | s5 | stopped =>
    unfold bootNext
    rw [h]
    rwa [ite_self]
  | s2 | s3 =>
    unfold bootNext
    rw [h]
    dsimp only
    split
    · exact hr
    · split
      · exact (moved_endStep _ s).stirred
      · exact hr
  | s4 =>
    unfold bootNext
    rw [h]
    dsimp only
    split
    · exact hr
    · split
      · exact stirred_enter5 hn
      · exact hr

theorem stirred_bootAdvance (hn : s.boot.regInit = []) : Stirred s (bootAdvance s) :=
  bootAdvance_rec (Moved.refl s).stirred fun _ hu => hu.trans (stirred_bootNext (hu.regInit.trans hn))

/-! ### The state after a warm reset -/

/-- What a warm reset leaves, its registers apart. -/
structure WarmBegun (hold : ResetHold) (s t : State) : Prop where
  warm : t.boot.warm = true
  run : t.boot.run = false
  mem : t.mem = s.mem
  frame : t.tb.frame = s.tb.frame
  now : t.now = s.now
  pending : t.pending = s.pending
  work : s.galley.lost = false → t.comp.running = s.comp.running ∧ t.comp.done = s.comp.done
  held : t.boot.held = hold
  regInit : t.boot.regInit = []
  drive : t.twin.drive = false

theorem WarmBegun.warmStart {hold : ResetHold} (h : WarmBegun hold s t) : warmStart s t :=
  ⟨h.warm, h.run, h.mem, h.frame, h.now, h.pending, h.work⟩

/-- What a warm reset's registers do not matter to. -/
theorem WarmBegun.within {hold : ResetHold} {l : List Part} {A : Nat → Prop} (h : WarmBegun hold s t)
    (hw : Within l A t u)
    (hl : ∀ p ∈ [Part.boot, .mem, .tb, .now, .pending, .comp, .twin], p ∉ l := by decide) : WarmBegun hold s u := by
  have hb : u.boot = t.boot := hw.1 .boot (hl _ (by decide))
  have hc : u.comp = t.comp := hw.1 .comp (hl _ (by decide))
  have htw : u.twin = t.twin := hw.1 .twin (hl _ (by decide))
  have htb : u.tb = t.tb := hw.1 .tb (hl _ (by decide))
  have hm : u.mem = t.mem := hw.1 .mem (hl _ (by decide))
  have hn : u.now = t.now := hw.1 .now (hl _ (by decide))
  have hp : u.pending = t.pending := hw.1 .pending (hl _ (by decide))
  obtain ⟨h1, h2, h3, h4, h5, h6, h7, h8, h9, h10⟩ := h
  exact ⟨hb ▸ h1, hb ▸ h2, hm.trans h3, htb ▸ h4, hn.trans h5, hp.trans h6, hc ▸ h7, hb ▸ h8, hb ▸ h9, htw ▸ h10⟩

theorem voidFlight_keeps (s : State) : KeepsBut [.galley, .basin, .cistern] s (voidFlight s) :=
  ((Keeps.refl [.galley, .basin, .cistern] s).voidFlight (List.Subset.refl _)).but

theorem within_warmRestore (s : State) : Within [.regs, .galley] (fun _ => True) s (warmRestore s) :=
  (((Within.refl ..).setGalley _).rput _ _ _ (by decide) trivial).rput _ _ _ (by decide) trivial

theorem setGalley_regs_wf (x : GalleySt) (h : spWf resetWord s.regs = true) : spWf resetWord (setGalley x s).regs =
    true := h

theorem warmRestore_regs_wf (h : spWf resetWord s.regs = true) : spWf resetWord (warmRestore s).regs = true :=
  rput_regs_wf (rput_regs_wf (setGalley_regs_wf _ h) ..) ..

/-- A warm reset's state is built on a base whose registers are at reset. -/
theorem warmState_base (hold : ResetHold) (s : State) : ∃ base old n x y, WarmBegun hold s base ∧ base.regs = [] ∧
    warmState hold s = warmRestore (rput aSYS_RST_CNT 15 0 n
      (rput aTWIN_CFG 31 31 x (rput aTWIN_CFG 3 0 y (copyRegs old warmRegs base)))) := by
  have hv := voidFlight_keeps s
  have hm : (voidFlight s).mem = s.mem := hv .mem (by decide)
  have hf : (voidFlight s).tb.frame = s.tb.frame := congrArg TimebaseSt.frame
      (hv .tb (by decide) : (voidFlight s).tb = s.tb)
  have hn : (voidFlight s).now = s.now := hv .now (by decide)
  have hp : (voidFlight s).pending = s.pending := hv .pending (by decide)
  have hc : (voidFlight s).comp = s.comp := hv .comp (by decide)
  have hcr : (voidFlight s).comp.running = s.comp.running := congrArg CompositorSt.running hc
  have hcd : (voidFlight s).comp.done = s.comp.done := congrArg CompositorSt.done hc
  refine ⟨_, _, _, _, _, ?_, ?_, by unfold warmState; rfl⟩
  · exact ⟨rfl, rfl, hm, hf, hn, hp, fun _ => ⟨hcr, hcd⟩, rfl, rfl, rfl⟩
  · rfl

theorem warmState_begun (hold : ResetHold) (s : State) : WarmBegun hold s (warmState hold s) ∧
    spWf resetWord (warmState hold s).regs = true := by
  obtain ⟨base, old, n, x, y, hb, hr, he⟩ := warmState_base hold s
  have hw : Within [.regs, .galley] (fun _ => True) base (copyRegs old warmRegs base) :=
    (within_copyRegs old warmRegs base).mono (by decide) fun _ h => h
  have hwf : spWf resetWord (copyRegs old warmRegs base).regs = true := copyRegs_regs_wf old warmRegs (by rw [hr]; rfl)
  rw [he]
  generalize copyRegs old warmRegs base = u at hw hwf
  refine ⟨hb.within ((((hw.rput _ _ _
    (by decide) trivial).rput _ _ _ (by decide) trivial).rput _ _ _ (by decide) trivial).trans
    (within_warmRestore _)), ?_⟩
  exact warmRestore_regs_wf (rput_regs_wf (rput_regs_wf (rput_regs_wf hwf ..) ..) ..)

theorem galleyEmpty_begun {hold : ResetHold} (h : WarmBegun hold s t) (hl : s.galley.lost = true)
    (hwf : spWf resetWord t.regs = true) : WarmBegun hold s (galleyEmpty t) ∧ spWf resetWord (galleyEmpty t).regs =
      true := by
  have h0 : WarmBegun hold s { t with galley := GalleySt.reset, comp := CompositorSt.reset } :=
    ⟨h.warm, h.run, h.mem, h.frame, h.now, h.pending, fun hf => absurd (hl.symm.trans hf)
      (by decide), h.held, h.regInit, h.drive⟩
  exact ⟨h0.within (within_copyRegs ..), copyRegs_regs_wf (s :=
    { t with galley := GalleySt.reset, comp := CompositorSt.reset }) _ _ hwf⟩

/-- A warm reset with retention. -/
theorem warmReset_effect (hr : s.boot.retention = true) (hold : ResetHold) {b : Nat} (hb : b < 32) :
    WarmBegun hold s (warmReset hold b s) ∧ rbit (warmReset hold b s) aSYS_RSTCAUSE b = true := by
  obtain ⟨hw, hwf⟩ := warmState_begun hold s
  have ht : ∃ t, warmReset hold b s = fusedSolo (rset aSYS_RSTCAUSE (rget t aSYS_RSTCAUSE ||| flg true b) t) ∧
      WarmBegun hold s t ∧
      spWf resetWord t.regs = true := by
    unfold warmReset
    rw [if_pos hr]
    refine ⟨_, rfl, ?_⟩
    split
    · next hl => exact galleyEmpty_begun hw hl hwf
    · exact ⟨hw, hwf⟩
  obtain ⟨t, he, htb, htw⟩ := ht
  have hr : WarmBegun hold s (rset aSYS_RSTCAUSE (rget t aSYS_RSTCAUSE ||| flg true b) t) :=
    htb.within (within_rset (l := [.regs]) (A := fun _ => True) (by decide) trivial _ _)
  obtain ⟨hft, hfw⟩ := fusedSolo_twin (rset aSYS_RSTCAUSE (rget t aSYS_RSTCAUSE ||| flg true b) t)
  rw [he]
  refine ⟨⟨?_, ?_, ?_, ?_, ?_, ?_, ?_, ?_, ?_, ?_⟩, ?_⟩
  · rw [fusedSolo_boot]; exact hr.warm
  · rw [fusedSolo_boot]; exact hr.run
  · exact Eq.trans (hfw.1 .mem (by decide)) hr.mem
  · exact (congrArg TimebaseSt.frame (hfw.1 .tb (by decide))).trans hr.frame
  · exact Eq.trans (hfw.1 .now (by decide)) hr.now
  · exact Eq.trans (hfw.1 .pending (by decide)) hr.pending
  · rw [show (fusedSolo _).comp = _ from hfw.1 .comp (by decide)]; exact hr.work
  · rw [fusedSolo_boot]; exact hr.held
  · rw [fusedSolo_boot]; exact hr.regInit
  · rw [hft]; exact hr.drive
  · rw [rbit, rget_fusedSolo, rget_rset_same htw, bit_or, bit_flg _ _ _ hb]
    simp

/-- A warm reset without retention acts as a cold one. -/
theorem warmReset_cold (hr : s.boot.retention = false) (hold : ResetHold) (b : Nat) : warmReset hold b s = coldReset
    (2 ^ b + 2 ^ 7) s :=
  if_neg (by simp [hr])

/-! ### O60: the steps of the start that wait -/

theorem bootAdvance_of_next (h : bootNext t = t) (hn : bootNext s = t) : bootAdvance s = t := by
  simp only [bootAdvance, hn, h]

theorem bootAdvance_of_next2 (h : bootNext u = u) (hs : bootNext s = t) (ht : bootNext t = u) : bootAdvance s = u := by
  simp only [bootAdvance, hs, ht, h]

theorem bootAdvance_idle (h : bootNext s = s) : bootAdvance s = s := bootAdvance_of_next h h

theorem bootNext_runs (hl : Live s) (hh : s.boot.hold = none) : bootNext s = match s.boot.step with
    | .s2 => if s.boot.warm then endStep .s3 s else s
    | .s3 => if s.clk.lockA then endStep .s4 s else s
    | .s4 => if s.boot.bistDone then enter5 s else s
    | .s6 => if done6 s then enter7 s else s
    | .s7 => if done7 s then enter8 s else s
    | .s8 => if done8 s then enter9 s else s
    | .s1 | .s5 | .s9 | .stopped => s :=
  if_neg (by simp [hl, hh])

theorem bootNext_warm (hl : Live s) (hh : s.boot.hold = none) (h : s.boot.step = .s2) (hw : s.boot.warm = true) :
    bootNext s = endStep .s3 s := by
  rw [bootNext_runs hl hh, h]
  exact if_pos hw

theorem bootNext_locked (hl : Live s) (hh : s.boot.hold = none) (h : s.boot.step = .s3) (ha : s.clk.lockA = true) :
    bootNext s = endStep .s4 s := by
  rw [bootNext_runs hl hh, h]
  exact if_pos ha

theorem bootNext_unlocked (h : s.boot.step = .s3) (ha : s.clk.lockA = false) : bootNext s = s := by
  unfold bootNext
  rw [h, ha]
  exact ite_self _

theorem bootNext_untested (h : s.boot.step = .s4) (hb : s.boot.bistDone = false) : bootNext s = s := by
  unfold bootNext
  rw [h, hb]
  exact ite_self _

theorem bootNext_slots (h : s.boot.step = .s5) : bootNext s = s := by
  unfold bootNext
  rw [h]
  exact ite_self _

theorem bootNext_stopped (h : s.boot.step = .stopped) : bootNext s = s := by
  unfold bootNext
  rw [h]
  exact ite_self _

theorem bootNext_tested (hl : Live s) (hh : s.boot.hold = none) (h : s.boot.step = .s4) (hb : s.boot.bistDone = true) :
    bootNext s = enter5 s := by
  rw [bootNext_runs hl hh, h]
  exact if_pos hb

theorem keeps_endStep (x : BootStep) (s : State) : KeepsBut [.regs, .boot] s (endStep x s) := (within_endStep x s).1

/-! ### Warm resets -/

theorem warmResetPin_answers (s : State) :
    (Live s → s.boot.retention = true → Runs .warmResetPin s fun t => warmStart s t ∧ t.boot.held = .warmPin ∧
      t.twin.drive = false ∧ rbit t aSYS_RSTCAUSE 4 = true) ∧
    (Live s → s.boot.retention = false → Runs .warmResetPin s fun t => coldStart s t ∧ t.boot.held = .cold ∧
      rbit t aSYS_RSTCAUSE 4 = true ∧ rbit t aSYS_RSTCAUSE 7 = true) ∧
    (s.boot.held ≠ .none → Runs .warmResetPin s fun t => t = s) := by
  refine ⟨fun hl hr => ?_, fun hl hr => ?_, fun h => ⟨_, congrArg Host.Outcome.next (if_neg h), rfl⟩⟩
  · obtain ⟨hw, hb⟩ := warmReset_effect hr .warmPin (b := 4) (by decide)
    exact ⟨_, congrArg Host.Outcome.next (if_pos hl), hw.warmStart, hw.held, hw.drive, hb⟩
  · obtain ⟨hc, hh, hb⟩ := coldReset_effect (2 ^ 4 + 2 ^ 7) s
    refine ⟨_, congrArg Host.Outcome.next ((if_pos hl).trans (warmReset_cold hr ..)), hc, hh, hb 4
      (by decide), hb 7 (by decide)⟩

theorem warmResetRelease_pin (h : s.boot.held = .warmPin) :
    warmResetRelease s = bootAdvance (setBoot { s.boot with held := .none } s) := if_pos h

theorem warmResetRelease_else (h : s.boot.held ≠ .warmPin) : warmResetRelease s = s := if_neg h

theorem warmResetRelease_waits (hp : s.boot.held = .warmPin) (hw : s.boot.warm = true) (h2 : s.boot.step = .s2)
    (hh : s.boot.hold = none) :
    (s.clk.lockA = false → Runs .warmResetRelease s fun t => t.boot.held = .none ∧ t.boot.step = .s3 ∧ KeepsBut
      [.regs, .boot] s t) ∧
    (s.clk.lockA = true → s.boot.bistDone = false → Runs .warmResetRelease s fun t => t.boot.held = .none ∧
      t.boot.step = .s4 ∧
      KeepsBut [.regs, .boot] s t) := by
  set u := setBoot { s.boot with held := .none } s with hu
  have h3 : bootNext u = endStep .s3 u := bootNext_warm rfl hh h2 hw
  have hk : KeepsBut [.regs, .boot] s u := ((Within.refl [.regs, .boot] (fun _ => True) s).setBoot _).1
  have hk3 : KeepsBut [.regs, .boot] s (endStep .s3 u) := fun p hp => (hk p hp).trans (keeps_endStep .s3 u p hp)
  refine ⟨fun ha => ?_, fun ha hb => ?_⟩
  · have hstay : bootNext (endStep .s3 u) = endStep .s3 u := bootNext_unlocked rfl ha
    refine ⟨_, congrArg Host.Outcome.next (congrArg bootAdvance
      ((warmResetRelease_pin hp).trans (bootAdvance_of_next hstay h3))), ?_⟩
    rw [bootAdvance_idle hstay]
    exact ⟨rfl, rfl, hk3⟩
  · have h4 : bootNext (endStep .s3 u) = endStep .s4 (endStep .s3 u) := bootNext_locked rfl hh rfl ha
    have hstay : bootNext (endStep .s4 (endStep .s3 u)) = endStep .s4 (endStep .s3 u) := bootNext_untested rfl hb
    refine ⟨_, congrArg Host.Outcome.next (congrArg bootAdvance
      ((warmResetRelease_pin hp).trans (bootAdvance_of_next2 hstay h3 h4))), ?_⟩
    rw [bootAdvance_idle hstay]
    exact ⟨rfl, rfl, fun p hp => (hk3 p hp).trans (keeps_endStep .s4 _ p hp)⟩

theorem warmResetRelease_ignored (h : s.boot.held ≠ .none) (hp : s.boot.held ≠ .warmPin) : Runs .warmResetRelease s
    fun t => t = s :=
  ⟨_, rfl, by rw [warmResetRelease_else hp, bootAdvance_held h]⟩

theorem bistDone_else (h : s.boot.step ≠ .s4) (r : BistIn) : bistDone r s = s := if_pos (.inr (.inl h))

theorem xoQualified_else (h : s.boot.step ≠ .s2) : xoQualified s = s := if_neg fun hx => h hx.2

theorem inOperation_ignores (ho : inOperation s) : Runs .warmResetRelease s (fun t => t = s) ∧
    (s.boot.step ≠ .s2 → Runs .xoQualified s fun t => t = s) ∧
    (s.boot.step ≠ .s4 → ∀ r, Runs (.bistDone r) s fun t => t = s) := by
  have hl : s.boot.held = .none := ho.1
  refine ⟨⟨_, rfl, ?_⟩, fun h => ⟨_, rfl, ?_⟩, fun h r => ⟨_, rfl, ?_⟩⟩
  · rw [warmResetRelease_else (by rw [hl]; decide), bootAdvance_of_inOperation ho]
  · rw [xoQualified_else h, bootAdvance_of_inOperation ho]
  · rw [bistDone_else h, bootAdvance_of_inOperation ho]

theorem xoQualified_answers (hl : Live s) (h2 : s.boot.step = .s2) (ha : s.clk.lockA = false) :
    Runs .xoQualified s fun t => t.boot = { s.boot with step := .s3, stepT := s.now } ∧ KeepsBut [.regs, .boot] s
      t := by
  have hstay : bootAdvance (endStep .s3 s) = endStep .s3 s := bootAdvance_idle (bootNext_unlocked rfl ha)
  have hx : bootAdvance (xoQualified s) = endStep .s3 s := by
    rw [show xoQualified s = bootAdvance (endStep .s3 s) from if_pos ⟨hl, h2⟩, hstay, hstay]
  exact ⟨_, congrArg Host.Outcome.next hx, rfl, keeps_endStep .s3 s⟩

/-! ### BIST -/

/-- The results of BIST in their registers. -/
def bistNoted (r : BistIn) (s : State) : State := rset aBOOT_BADPRESS (w32 r.badPress.toNat)
    (rset aECC_REPAIR r.repair s)

theorem bistDone_fatal (hl : Live s) (h4 : s.boot.step = .s4) (hb : s.boot.bistDone = false) {r : BistIn}
    (hf : r.fatal = true) :
    Runs (.bistDone r) s fun t => t.boot.step = .stopped ∧ t.boot.cause = 0x0C := by
  have he : bistDone r s = setBoot { (endStep .stopped (bistNoted r s)).boot with cause := 0x0C }
      (endStep .stopped (bistNoted r s)) := by
    unfold bistDone
    rw [if_neg (by simp [hb, h4, hl])]
    exact if_pos hf
  refine ⟨_, rfl, ?_⟩
  rw [he, bootAdvance_idle (bootNext_stopped rfl)]
  exact ⟨rfl, rfl⟩

theorem bistDone_passed (hl : Live s) (h4 : s.boot.step = .s4) (hb : s.boot.bistDone = false) {r : BistIn}
    (hf : r.fatal = false) :
    bistDone r s = bootAdvance (setBoot { (bistNoted r s).boot with bistDone := true } (bistNoted r s)) := by
  unfold bistDone
  rw [if_neg (by simp [hb, h4, hl])]
  exact if_neg (by simp [hf])

/-- The device once BIST has passed. -/
def bistPassed (r : BistIn) (s : State) : State := setBoot { (bistNoted r s).boot with bistDone := true }
    (bistNoted r s)

theorem within_bistPassed (r : BistIn) (s : State) : Within [.regs, .boot] (· ∈ [aBOOT_BADPRESS, aECC_REPAIR]) s
    (bistPassed r s) :=
  (((Within.refl ..).rset _).rset _).setBoot _

theorem bootSel_of (h : rget t aSYS_STRAPS = rget s aSYS_STRAPS) : bootSel t = bootSel s := by
  unfold bootSel rfld
  rw [h]

/-- The start once BIST has passed, its slots begun. -/
def slotsBegun (r : BistIn) (s : State) : State := endStep .s5 (bistPassed r s)

theorem bootSel_slotsBegun (r : BistIn) (s : State) : bootSel (slotsBegun r s) = bootSel s :=
  bootSel_of ((rget_endStep_straps ..).trans ((within_bistPassed r s).2 _ (by decide)))

theorem bootNext_bistPassed (hl : Live s) (h4 : s.boot.step = .s4) (hh : s.boot.hold = none) (r : BistIn) :
    bootNext (bistPassed r s) = enter5 (bistPassed r s) :=
  bootNext_tested (s := bistPassed r s) hl hh h4 rfl

theorem tStep4_ne : ∀ a ∈ [aBOOT_BADPRESS, aECC_REPAIR], a ≠ aBOOT_T_STEP 3 ∧ a ≠ aBOOT_SLOT_ERR := by decide

/-- What BIST has found stands in its registers once the slots begin. -/
theorem rget_slotsBegun (h4 : s.boot.step = .s4) (r : BistIn) {a : Nat} (ha : a ∈ [aBOOT_BADPRESS, aECC_REPAIR]) :
    rget (slotsBegun r s) a = rget (bistPassed r s) a := by
  have hs : (bistPassed r s).boot.step = .s4 := h4
  refine rget_rset_ne _ _ ?_
  rw [hs]
  exact (tStep4_ne a ha).1

theorem enter5_cases (hb : bootSel s ≤ 1) (r : BistIn) : enter5 (bistPassed r s) = slotsBegun r s ∨
    enter5 (bistPassed r s) = rput aBOOT_SLOT_ERR 15 8 0x0A (slotsBegun r s) := by
  have hsel := bootSel_slotsBegun r s
  unfold enter5
  dsimp only
  rw [show endStep .s5 (bistPassed r s) = slotsBegun r s from rfl, hsel]
  rcases Nat.le_one_iff_eq_zero_or_eq_one.1 hb with h | h <;> rw [h]
  · exact .inl rfl
  · exact .inr rfl

theorem enter5_defaults (hb : 2 ≤ bootSel s) (r : BistIn) : enter5 (bistPassed r s) = fallback 0x0B
    (slotsBegun r s) := by
  have hsel := bootSel_slotsBegun r s
  unfold enter5
  dsimp only
  rw [show endStep .s5 (bistPassed r s) = slotsBegun r s from rfl, hsel]
  split
  · omega
  · omega
  · rfl

theorem bistDone_slots (hs : Canonical s) (hl : Live s) (h4 : s.boot.step = .s4) (hb : s.boot.bistDone = false)
    {r : BistIn}
    (hf : r.fatal = false) (hh : s.boot.hold = none) (hsel : bootSel s ≤ 1) :
    Runs (.bistDone r) s fun t => t.boot.step = .s5 ∧ rget t aBOOT_BADPRESS = w32 r.badPress.toNat ∧ rget t
      aECC_REPAIR = r.repair ∧
      KeepsBut [.regs, .boot] s t := by
  have hk : KeepsBut [.regs, .boot] s (slotsBegun r s) := fun p hp =>
    ((within_bistPassed r s).1 p hp).trans (keeps_endStep .s5 _ p hp)
  have hbad : rget (bistPassed r s) aBOOT_BADPRESS = w32 r.badPress.toNat := rget_rset_same (rset_regs_wf hs.1 _ _) _ _
  have hrep : rget (bistPassed r s) aECC_REPAIR = r.repair :=
    (rget_rset_ne (rset aECC_REPAIR r.repair s) _ (by decide)).trans (rget_rset_same hs.1 _ _)
  obtain ⟨t, ht, hw, h5⟩ : ∃ t, enter5 (bistPassed r s) = t ∧ Within [.regs, .boot] (· = aBOOT_SLOT_ERR)
    (slotsBegun r s) t ∧
      t.boot.step = .s5 := by
    rcases enter5_cases hsel r with h | h
    · exact ⟨_, h, .refl .., rfl⟩
    · exact ⟨_, h, (Within.refl ..).rput _ _ _ (by decide) rfl, rfl⟩
  have hstay : bootNext t = t := bootNext_slots h5
  have hrun : bootAdvance (bistDone r s) = t := by
    rw [bistDone_passed hl h4 hb hf]
    change bootAdvance (bootAdvance (bistPassed r s)) = t
    rw [bootAdvance_of_next hstay ((bootNext_bistPassed hl h4 hh r).trans ht), bootAdvance_idle hstay]
  refine ⟨_, congrArg Host.Outcome.next hrun, h5, ?_, ?_, fun p hp => (hk p hp).trans (hw.1 p hp)⟩
  · rw [hw.2 _ (by decide), rget_slotsBegun h4 r (by decide), hbad]
  · rw [hw.2 _ (by decide), rget_slotsBegun h4 r (by decide), hrep]

theorem bistDone_defaults (hl : Live s) (h4 : s.boot.step = .s4) (hb : s.boot.bistDone = false) {r : BistIn}
    (hf : r.fatal = false) (hh : s.boot.hold = none) (hsel : 2 ≤ bootSel s) (hn : s.boot.regInit = []) :
    Runs (.bistDone r) s fun t => t.boot.src = 1 ∧ t.boot.cause = 0x0B ∧ rbit t (aISTAT pgBOOT) 2 = true ∧ t.mem =
      s.mem := by
  have h1 : Imaged (defaults 0x0B (slotsBegun r s)) (bootNext (bistPassed r s)) := by
    rw [bootNext_bistPassed hl h4 hh, enter5_defaults hsel]
    exact imaged_fallback 0x0B (s := slotsBegun r s) hn rfl
  have h7 : Imaged (defaults 0x0B (slotsBegun r s)) (bootAdvance (bistPassed r s)) := by
    have hnext {t : State} (ht : Imaged (defaults 0x0B (slotsBegun r s)) t) : Imaged (defaults 0x0B (slotsBegun r s))
        (bootNext t) :=
      ht.next hn
    exact hnext (hnext (hnext (hnext (hnext (hnext h1)))))
  have hrun : bootAdvance (bistDone r s) = bootAdvance (bootAdvance (bistPassed r s)) :=
    congrArg bootAdvance (bistDone_passed hl h4 hb hf)
  obtain ⟨hw, hsrc, hc, hi⟩ := (h7.advance hn).defaults
  refine ⟨_, congrArg Host.Outcome.next hrun, hsrc, hc, hi, ?_⟩
  calc (bootAdvance (bootAdvance (bistPassed r s))).mem = (slotsBegun r s).mem := hw.1 .mem (by decide)
    _ = (bistPassed r s).mem := keeps_endStep .s5 _ .mem (by decide)
    _ = s.mem := (within_bistPassed r s).1 .mem (by decide)

/-! ### O60: RSTCMD -/

theorem keyOk_setBits (v : Word) (x : Nat) : keyOk (setBits v 1 0 x) = keyOk v := by
  unfold keyOk
  rw [bits_setBits_ne v x (by decide) (by decide)]

theorem busAddr_rst : busAddr aSYS_RSTCMD = aSYS_RSTCMD := by decide

theorem regAt_rst : ∃ d, regAt aSYS_RSTCMD = some d := Option.isSome_iff_exists.1 (by decide)

theorem blockRefuse_sys {a : Nat} (hp : pageOf a = pgSYS) (b : Bool) (l : Nat) (old new v : Word) :
    blockRefuse s b l a old new v = none := by
  unfold blockRefuse
  rw [hp]
  simp

theorem soloRefuse_sys {a : Nat} (hp : pageOf a = pgSYS) (d : RegDef) (v : Word) : soloRefuse s d a v = none := by
  have hd : dataPlane (pageOf a) = false := by rw [hp]; decide
  unfold soloRefuse
  simp [hd]

/-- RSTCMD only stores. -/
theorem landPage_rst {a l : Nat} (ha : a = aSYS_RSTCMD) (old new v : Word) : landPage l a old new v s = rset a new
    s := by
  unfold landPage
  exact if_pos ha

theorem pageWrite_key {a l : Nat} {v : Word} {d : RegDef} (hp : pageOf a = pgSYS) (ho : offOf a ≠ 8)
    (hd : regAt a = some d)
    (hk : keyOk v = true) : ∃ new act, (pageWrite l a v s).1 = if rwpDiscard d l (heldReg s a) v then
      protFault true l a true false (landPage l a (heldReg s a) new act s) else landPage l a (heldReg s a) new act
        s := by
  refine ⟨newWord d (pageOf a) l (heldReg s a) v, v &&& (w32 d.w1s ||| w32 d.wo ||| w32 d.w1c |||
    (if l = 0 then w32 d.rwp else 0)), ?_⟩
  simp [pageWrite, hd, soloRefuse_sys hp, hk, ho, blockRefuse_sys hp]

/-- A write of RSTCMD with its key is stored. -/
theorem pageWrite_keyed {a l : Nat} {v : Word} {d : RegDef} (ha : a = aSYS_RSTCMD) (hd : regAt a = some d)
    (hk : keyOk v = true) :
    Within [.regs] (fun _ => True) s (pageWrite l a v s).1 := by
  obtain ⟨new, act, hw⟩ := pageWrite_key (s := s) (l := l) (by rw [ha]; decide) (by rw [ha]; decide) hd hk
  have hs : Within [.regs] (fun _ => True) s (rset a new s) := (Within.refl ..).rset _ (by decide) trivial
  rw [hw, landPage_rst ha]
  split
  · exact hs.trans ((within_protFault_regs ..).mono (fun _ h => h) fun _ _ => trivial)
  · exact hs

theorem pageWrite_keyless {a l : Nat} {v : Word} {d : RegDef} (ha : a = aSYS_RSTCMD) (hd : regAt a = some d)
    (hk : keyOk v = false) :
    pageWrite l a v s = (errcap pgSYS 1 a s, stsRefused) := by
  have hp : pageOf a = pgSYS := by rw [ha]; decide
  have hr : a = aSYS_RSTCMD ↔ True := iff_true_intro ha
  simp [pageWrite, hd, soloRefuse_sys hp, hk, hr]

theorem hostWrite_keyed {x : HostAcc} {d : RegDef} (ha : x.addr = aSYS_RSTCMD) (h : Served s x.addr ⟨x.lvl, x.be, x.v⟩)
    (hd : regAt x.addr = some d) (hb : busAddr x.addr = x.addr) :
    let t := endAccess (pageWrite x.lvl.val x.addr x.v s).2 x.lvl true x.addr (pageWrite x.lvl.val x.addr x.v s).1
    hostWrite x s = if keyOk x.v = true ∧ x.lvl.val = 0 then bootAdvance (resetCommand x.v t) else t := by
  obtain ⟨hl, hg, hc⟩ := h
  have hl' : s.boot.held = .none := hl
  intro t
  unfold hostWrite
  dsimp only
  rw [hb, if_neg (not_not.2 hl'), if_neg (not_not.2 hg), if_neg (by simp [hc]), if_pos (isPageAddr_of_regAt hd)]
  exact if_congr ⟨fun h => h.2, fun h => ⟨ha, h⟩⟩ rfl rfl

section
variable {w : HW}

/-- A write of RSTCMD with its key at level 0 completes, and then its reset begins. -/
theorem rstWrite_runs (h : Served s aSYS_RSTCMD w) (hk : keyOk w.v = true) (h0 : w.lvl = 0) :
    ∃ t, Within [.regs] (fun _ => True) s t ∧ hostWrite ⟨aSYS_RSTCMD, w.lvl, w.be, w.v⟩ s = bootAdvance
      (resetCommand w.v t) := by
  obtain ⟨d, hd⟩ := regAt_rst
  have hrun := hostWrite_keyed (x := ⟨aSYS_RSTCMD, w.lvl, w.be, w.v⟩) rfl h hd busAddr_rst
  refine ⟨_, ?_, hrun.trans (if_pos ⟨hk, congrArg Fin.val h0⟩)⟩
  exact (pageWrite_keyed rfl hd hk).trans ((within_endAccess_regs true).mono (fun _ h => h) fun _ _ => trivial)

/-- Below level 0 it completes without a reset. -/
theorem rstWrite_below (h : Served s aSYS_RSTCMD w) (hk : keyOk w.v = true) (h0 : w.lvl ≠ 0) :
    KeepsBut [.regs] s (hostWrite ⟨aSYS_RSTCMD, w.lvl, w.be, w.v⟩ s) := by
  obtain ⟨d, hd⟩ := regAt_rst
  have hrun := hostWrite_keyed (x := ⟨aSYS_RSTCMD, w.lvl, w.be, w.v⟩) rfl h hd busAddr_rst
  rw [hrun, if_neg fun hx => h0 (Fin.ext hx.2)]
  exact ((pageWrite_keyed rfl hd hk).trans ((within_endAccess_regs true).mono (fun _ h => h) fun _ _ => trivial)).1

theorem rstWrite_keyless (hs : Canonical s) (h : Served s aSYS_RSTCMD w) (hk : keyOk w.v = false) :
    refusedWith 1 pgSYS aSYS_RSTCMD s (hostWrite ⟨aSYS_RSTCMD, w.lvl, w.be, w.v⟩ s) := by
  obtain ⟨d, hd⟩ := regAt_rst
  have hrun := hostWrite_keyed (x := ⟨aSYS_RSTCMD, w.lvl, w.be, w.v⟩) rfl h hd busAddr_rst
  rw [hrun, if_neg (by simp [hk]), pageWrite_keyless rfl hd hk]
  exact refusedWith_of_errcap hs (by decide) (by decide)

end

theorem resetCommand_warm {v : Word} (h : bits v 1 0 = 1) : resetCommand v s = warmReset .none 5 s := by
  unfold resetCommand
  rw [h]
  rfl

theorem resetCommand_cold {v : Word} (h : bits v 1 0 = 2) : resetCommand v s = coldReset 8 s := by
  unfold resetCommand
  rw [h]
  rfl

/-- What a cold start leaves is reckoned from the state before, its registers apart. -/
theorem coldStart_before {A : Nat → Prop} (hw : Within [.regs] A s t) (h : coldStart t u) : coldStart s u := by
  obtain ⟨h1, h2, h3, h4, h5, h6, h7, h8, h9, h10⟩ := h
  exact ⟨h1, h2, h3, h4, h5, h6, h7, h8.trans (hw.1 .now (by decide)),
    h9.trans (congrArg BootSt.fuses (hw.1 .boot (by decide) : t.boot = s.boot)), h10.trans (hw.1 .pending (by decide))⟩

theorem warmStart_before {A : Nat → Prop} (hw : Within [.regs] A s t) (h : warmStart t u) : warmStart s u := by
  obtain ⟨h1, h2, h3, h4, h5, h6, h7⟩ := h
  have hc : t.comp = s.comp := hw.1 .comp (by decide)
  have hg : t.galley = s.galley := hw.1 .galley (by decide)
  have htb : t.tb = s.tb := hw.1 .tb (by decide)
  exact ⟨h1, h2, h3.trans (hw.1 .mem
    (by decide)), by rw [h4, htb], h5.trans (hw.1 .now (by decide)), h6.trans (hw.1 .pending (by decide)),
    by rwa [hc, hg] at h7⟩

theorem warmStart_after (h : warmStart s t) (hm : Stirred t u) : warmStart s u := by
  obtain ⟨h1, h2, h3, h4, h5, h6, h7⟩ := h
  obtain ⟨hw, x, y, z, c, e, hb⟩ := hm
  have hc : u.comp = t.comp := hw.1 .comp (by decide)
  have htb : u.tb = t.tb := hw.1 .tb (by decide)
  exact ⟨by rw [hb]; exact h1, by rw [hb]; exact h2, Eq.trans (hw.1 .mem (by decide)) h3, by rw [htb]; exact h4,
    Eq.trans (hw.1 .now (by decide)) h5, Eq.trans (hw.1 .pending (by decide)) h6, by rw [hc]; exact h7⟩

/-- A warm reset at once, and the start that follows. -/
theorem warmNow_effect {A : Nat → Prop} (hw : Within [.regs] A s t) {v : Word} (hv : bits v 1 0 = 1)
    (hr : s.boot.retention = true) :
    let u := bootAdvance (resetCommand v t)
    warmStart s u ∧ u.boot.held = .none ∧ rbit u aSYS_RSTCAUSE 5 = true := by
  intro u
  have hret : t.boot.retention = true := (congrArg BootSt.retention (hw.1 .boot (by decide) : t.boot = s.boot)).trans hr
  obtain ⟨hb, hcause⟩ := warmReset_effect hret .none (b := 5) (by decide)
  have hm : Stirred (warmReset .none 5 t) u := by
    change Stirred _ (bootAdvance (resetCommand v t))
    rw [resetCommand_warm hv]
    exact stirred_bootAdvance hb.regInit
  refine ⟨warmStart_after (warmStart_before hw hb.warmStart) hm, ?_, ?_⟩
  · obtain ⟨x, y, z, c, e, hbt⟩ := hm.boot
    rw [hbt]
    exact hb.held
  · rw [rbit, hm.within.2 _ (by decide)]
    exact hcause

/-- A cold reset asked for by the host. -/
theorem coldNow_effect {A : Nat → Prop} (hw : Within [.regs] A s t) {m : Nat} : let u := bootAdvance (coldReset m t)
    coldStart s u ∧ u.boot.held = .cold ∧ ∀ k, bit (w32 m) k = true → rbit u aSYS_RSTCAUSE k = true := by
  obtain ⟨hc, hh, hb⟩ := coldReset_effect m t
  intro u
  have hu : u = coldReset m t := bootAdvance_held (by rw [hh]; decide)
  rw [hu]
  exact ⟨coldStart_before hw hc, hh, hb⟩

theorem rstcmd_answers (hs : Canonical s) (w : HW) :
    let warm : HW := ⟨w.lvl, w.be, setBits w.v 1 0 1⟩
    let cold : HW := ⟨w.lvl, w.be, setBits w.v 1 0 2⟩
    (keyOk w.v = true → w.lvl = 0 → Accepted s aSYS_RSTCMD warm →
      (s.boot.retention = true → Runs (.resetWarm w) s fun t => warmStart s t ∧ t.boot.held = .none ∧ rbit t
        aSYS_RSTCAUSE 5 = true) ∧
      (s.boot.retention = false → Runs (.resetWarm w) s fun t => coldStart s t ∧ t.boot.held = .cold ∧
        rbit t aSYS_RSTCAUSE 5 = true ∧ rbit t aSYS_RSTCAUSE 7 = true)) ∧
    (keyOk w.v = true → w.lvl = 0 → Accepted s aSYS_RSTCMD cold → Runs (.resetCold w) s fun t => coldStart s t ∧
      t.boot.held = .cold ∧ rbit t aSYS_RSTCAUSE 3 = true) ∧
    (keyOk w.v = true → w.lvl ≠ 0 → Served s aSYS_RSTCMD warm → Runs (.resetWarm w) s (fun t => KeepsBut [.regs] s t) ∧
      Runs (.resetCold w) s fun t => KeepsBut [.regs] s t) ∧
    (keyOk w.v = false → Served s aSYS_RSTCMD warm → Runs (.resetWarm w) s
      (fun t => refusedWith 1 pgSYS aSYS_RSTCMD s t) ∧
      Runs (.resetCold w) s fun t => refusedWith 1 pgSYS aSYS_RSTCMD s t) := by
  intro warm cold
  have hkw : keyOk warm.v = keyOk w.v := keyOk_setBits ..
  have hkc : keyOk cold.v = keyOk w.v := keyOk_setBits ..
  have hv1 : bits warm.v 1 0 = 1 := (bits_setBits_same _ (by decide) _).trans (by decide)
  have hv2 : bits cold.v 1 0 = 2 := (bits_setBits_same _ (by decide) _).trans (by decide)
  refine ⟨fun hk h0 ha => ?_, fun hk h0 ha => ?_, fun hk h0 h => ⟨⟨_, rfl, ?_⟩, ⟨_, rfl, ?_⟩⟩, fun hk h =>
    ⟨⟨_, rfl, ?_⟩, ⟨_, rfl, ?_⟩⟩⟩
  · obtain ⟨t, hw, hrun⟩ := rstWrite_runs (w := warm) ha.1 (hkw.trans hk) h0
    refine ⟨fun hr => ⟨_, congrArg Host.Outcome.next hrun, warmNow_effect hw hv1 hr⟩, fun hr => ?_⟩
    have hret : t.boot.retention = false := (congrArg BootSt.retention
        (hw.1 .boot (by decide) : t.boot = s.boot)).trans hr
    have hc : resetCommand warm.v t = coldReset (2 ^ 5 + 2 ^ 7) t := (resetCommand_warm hv1).trans
        (warmReset_cold hret ..)
    obtain ⟨h1, h2, h3⟩ := coldNow_effect hw (m := 2 ^ 5 + 2 ^ 7)
    exact ⟨_, congrArg Host.Outcome.next (hrun.trans (congrArg bootAdvance hc)), h1, h2, h3 5
      (by decide), h3 7 (by decide)⟩
  · obtain ⟨t, hw, hrun⟩ := rstWrite_runs (w := cold) ha.1 (hkc.trans hk) h0
    obtain ⟨h1, h2, h3⟩ := coldNow_effect hw (m := 8)
    exact ⟨_, congrArg Host.Outcome.next (hrun.trans (congrArg bootAdvance (resetCommand_cold hv2))), h1, h2, h3 3
      (by decide)⟩
  · exact rstWrite_below (w := warm) h (hkw.trans hk) h0
  · exact rstWrite_below (w := cold) h (hkc.trans hk) h0
  · exact rstWrite_keyless (w := warm) hs h (hkw.trans hk)
  · exact rstWrite_keyless (w := cold) hs h (hkc.trans hk)

/-! ### O60: the events that a step of the start waits for -/

theorem pllLock_starts (hl : Live s) (hr : s.boot.run = false) (hh : s.boot.hold = none) (h3 : s.boot.step = .s3)
    (ha : s.clk.lockA = false) (hb : s.boot.bistDone = false) {n : BitVec 13} (hn : windowGood n) :
    Runs (.pllLock .a n) s fun t => t.boot.step = .s4 ∧ t.clk.lockA = true := by
  obtain ⟨h1, h2⟩ := hn
  set u := rset (lockCntReg .a) (w32 n.toNat) s with hu
  have hdone : pllLock .a n.toNat s = lockedA u := by
    have hon : loopOn s .a = true := by
      have hl' : s.boot.held = .none := hl
      simp [loopOn, hl', h3]
    unfold pllLock
    rw [if_neg (by simp [hon])]
    dsimp only
    rw [if_neg (by simp [h1, h2]), if_pos (by simp [loopLocked, ha])]
    exact declareLock_a (s := u) hr
  have h4 : bootNext (lockedA u) = endStep .s4 (lockedA u) := bootNext_locked (s := lockedA u) hl hh h3 rfl
  have hstay : bootNext (endStep .s4 (lockedA u)) = endStep .s4 (lockedA u) := bootNext_untested rfl hb
  refine runs_awake (f := fun s => bootAdvance (pllLock .a n.toNat s)) hl rfl ?_
  rw [hdone, bootAdvance_of_next hstay h4]
  exact ⟨rfl, rfl⟩

/-- The pages whose registers a finished training writes. -/
def trainPages : List Nat := eccPages ++ [pgDDRPHY, pgDDRC, pgPLAYER, pgMETER]

theorem trainingDone_within (r : TrainIn) (ht : s.cistern.st = .training) :
    Within trainParts (fun a => pageOf a ∈ trainPages) s (trainingDone r s) ∧
      ((trainingDone r s).cistern.st = .normal ∨ (trainingDone r s).cistern.st = .lost) := by
  have hphy (a : Nat) (h : OnPhy a) : pageOf a ∈ trainPages := by rw [show pageOf a = pgDDRPHY from h]; decide
  have hecc (a : Nat) (h : pageOf a ∈ eccPages ∨ a = aISTAT pgPLAYER) : pageOf a ∈ trainPages := by
    rcases h with h | rfl
    · exact List.mem_append_left _ h
    · decide
  have hdeg (a : Nat) (h : degradeAddr a ∨ a = aISTAT pgDDRC) : pageOf a ∈ trainPages := by
    rcases h with (h | h) | rfl
    · exact List.mem_append_left _ h
    · revert h a
      decide
    · decide
  set u := advance r.t s with hu
  set s1 := rset aDDRPHY_TRAIN_TIME (satW 16 r.us) (eyesReport r.lanes u) with hs1
  have hw1 : Within trainParts (fun a => pageOf a ∈ trainPages) s s1 := by
    have hadv : Within trainParts (fun a => pageOf a ∈ trainPages) s u := (within_advance r.t s).mono (by decide)
        fun _ => False.elim
    exact (hadv.trans ((eyesReport_effect r.lanes u).1.mono (by decide) hphy)).rset _
  have hdef : trainingDone r s = if (failedLanes u r.lanes).isEmpty then
      enterNormal (afterTraining (setCist { (trainedNow (putDlys r.lanes (rset aDDRC_FAILS 0 s1))).cistern with
        rtT := (trainedNow (putDlys r.lanes (rset aDDRC_FAILS 0 s1))).now
        ceT := (trainedNow (putDlys r.lanes (rset aDDRC_FAILS 0 s1))).now, ceNow := 0 }
        (trainedNow (putDlys r.lanes (rset aDDRC_FAILS 0 s1))))) else enterLost (iset pgDDRC 2 s1) :=
    if_neg (not_not.2 (by rw [advance_cistern, ht]))
  rw [hdef]
  split
  · set s2 := trainedNow (putDlys r.lanes (rset aDDRC_FAILS 0 s1))
    set s3 := setCist { s2.cistern with rtT := s2.now, ceT := s2.now, ceNow := 0 } s2
    have h2 := within_putDlys r.lanes (hw1.rset (a := aDDRC_FAILS) 0) (by decide) hphy
    have h3 : Within trainParts (fun a => pageOf a ∈ trainPages) s s3 := ((h2.setCist _).rset _).setCist _
    obtain ⟨-, hst, -, -, -, hn⟩ := enterNormal_effect (afterTraining s3)
    refine ⟨(h3.trans ((within_afterTraining s3).1.mono (by decide) hecc)).trans (hn.mono (by decide) ?_), .inl hst⟩
    simp only [List.mem_singleton, forall_eq]
    decide
  · obtain ⟨hst, -, -, -, hw⟩ := enterLost_effect (iset pgDDRC 2 s1)
    exact ⟨(hw1.iset 2).trans (hw.mono (by decide) hdeg), .inr hst⟩

theorem enOf_of (h : ∀ a, pageOf a ∉ trainPages → rget t a = rget s a) : enOf t pgPLLM = enOf s pgPLLM :=
  congrArg (bit · 0) (h _ (by decide))

theorem enter7_searches (hn : s.boot.regInit = []) (he : enOf s pgPLLM = true) : (enter7 s).boot.step = .s7 ∧
    (enter7 s).clk.search = some false ∧ (enter7 s).clk.bootSearch = [true] ∧ enOf (enter7 s) pgPLLM = true := by
  have hm : Moved s (endStep .s7 (leave6 s)) := (moved_leave6 s).trans (moved_endStep .s7 _)
  have hp : enOf (endStep .s7 (leave6 s)) pgPLLM = true := (congrArg (bit · 0) (hm.within.2 _ (by decide))).trans he
  unfold enter7
  rw [applyPhase_nil 2 (hm.regInit.trans hn)]
  dsimp only
  rw [if_pos ⟨rfl, hp⟩]
  exact ⟨rfl, rfl, rfl, hp⟩

theorem bootNext_searching (h : s.boot.step = .s7) (he : enOf s pgPLLM = true) (hs : s.clk.search.isSome = true) :
    bootNext s = s := by
  have hd : done7 s = false := by
    have hi : s.clk.search.isNone = false := by
      obtain ⟨x, hx⟩ := Option.isSome_iff_exists.1 hs
      rw [hx]
      rfl
    simp [done7, he, hi]
  unfold bootNext
  rw [h, hd]
  exact ite_self _

theorem trainingDone_starts (hl : Live s) (hh : s.boot.hold = none) (h6 : s.boot.step = .s6) (hn : s.boot.regInit = [])
    (ht : s.cistern.st = .training) (he : enOf s pgPLLM = true) (r : TrainIn) :
    Runs (.trainingDone r) s fun t => t.boot.step = .s7 ∧ t.clk.search = some false ∧ t.clk.bootSearch = [true] := by
  obtain ⟨hw, hst⟩ := trainingDone_within r ht
  refine runs_awake (f := fun s => bootAdvance (trainingDone r s)) hl rfl ?_
  generalize trainingDone r s = u at hw hst
  have hb : u.boot = s.boot := hw.1 .boot (by decide)
  have hdone : done6 u = true := by
    rcases hst with h | h <;> simp [done6, h]
  have h7 : bootNext u = enter7 u := by
    rw [bootNext_runs (by rw [Live, hb]; exact hl) (by rw [hb]; exact hh), hb, h6]
    exact if_pos hdone
  obtain ⟨h1, h2, h3, h4⟩ := enter7_searches (s := u) (by rw [hb]; exact hn) ((enOf_of hw.2).trans he)
  have hstay : bootNext (enter7 u) = enter7 u := bootNext_searching h1 h4 (by rw [h2]; rfl)
  rw [bootAdvance_of_next hstay h7]
  exact ⟨h1, h2, h3⟩

/-- The start stands at step 9. -/
theorem bootNext_ended (h : s.boot.step = .s9) : bootNext s = s := by
  unfold bootNext
  rw [h]
  exact ite_self _

theorem hostHeld_of (h : rget t aSYS_STRAPS = rget s aSYS_STRAPS) : hostHeld t = hostHeld s := congrArg (bit · 4) h

theorem enter9_stands (hn : s.boot.regInit = []) : Within [.regs, .boot] (fun _ => True) s (enter9 s) ∧
    (enter9 s).boot.step = .s9 ∧
    (s.boot.hold = none → (enter9 s).boot.hold = if hostHeld s then some 2 else none) := by
  have hw : Within [.regs, .boot] (fun _ => True) s (endStep .s9 s) := within_endStep .s9 s
  have hx : hostHeld (endStep .s9 s) = hostHeld s := hostHeld_of (rget_endStep_straps ..)
  unfold enter9
  rw [applyPhase_nil 3 (s := endStep .s9 s) hn]
  dsimp only
  rw [hx]
  split
  · next h => exact ⟨(hw.setBoot _).iset 3 (by decide) trivial, rfl, fun _ => (if_pos h.2).symm⟩
  · next h => exact ⟨hw, rfl, fun hh => hh.trans (if_neg fun h' => h ⟨rfl, h'⟩).symm⟩

theorem negTimeout_starts (hl : Live s) (hh : s.boot.hold = none) (h8 : s.boot.step = .s8) (hn : s.boot.regInit = [])
    (hp : s.twin.paired = true) (hf : s.twin.st = .fenced) (hlink : s.twin.link = false) :
    Runs .negTimeout s fun t => t.boot.step = .s9 ∧ t.twin.negDone = true ∧ t.boot.hold =
      (if hostHeld s then some 2 else none) ∧
      KeepsBut [.regs, .boot, .twin] s t := by
  refine runs_awake (f := fun s => bootAdvance (negTimeout s)) hl rfl ?_
  have hdone : negTimeout s = setTwinSt { s.twin with negDone := true } s := if_pos ⟨hp, hf, by simp [hlink]⟩
  rw [hdone]
  set u := setTwinSt { s.twin with negDone := true } s with hu
  have h9 : bootNext u = enter9 u := by
    rw [bootNext_runs (s := u) hl hh, show u.boot.step = .s8 from h8]
    exact if_pos (by simp [done8, hu, setTwinSt])
  obtain ⟨hw, hst, hhold⟩ := enter9_stands (s := u) hn
  rw [bootAdvance_of_next (bootNext_ended hst) h9]
  have htw : (enter9 u).twin = u.twin := hw.1 .twin (by decide)
  refine ⟨hst, (congrArg TwinSt.negDone htw).trans rfl, hhold hh, ?_⟩
  exact (((Within.refl [.regs, .boot, .twin] (fun _ => True) s).setTwinSt _).trans (hw.mono (by decide) fun _ h => h)).1

/-! ### O60: image slots that fail -/

theorem imageSlotPass_idle (h : ¬ readsSlots s) (i : SlotPass) : imageSlotPass i s = s := by
  refine if_pos ?_
  by_contra hn
  simp only [not_or, not_not, Bool.not_eq_true, Option.isSome_eq_false_iff, Option.isNone_iff_eq_none, not_lt] at hn
  exact h hn

/-- The slot that a pass is to read next. -/
def slotDue (s : State) (i : SlotPass) : Option Bool :=
  match s.boot.verified with
  | some b => some b
  | none => (slotsLeft (seqNoted s i)).head?

/-- What a pass finds. -/
def passCode (s : State) (i : SlotPass) : Nat := if i.load then loadCode i.bytes else slotCode (seqNoted s i) i.bytes

theorem imageSlotPass_runs (h : readsSlots s) (i : SlotPass) : imageSlotPass i s =
    if ¬ i.flash then bootAdvance (fallback 1 ((slotsLeft s).foldl (fun s b => slotErr b 1 s) s))
    else if slotDue s i ≠ some i.slotB ∨ i.load ≠ s.boot.verified.isSome then s
    else if passCode s i ≠ 0 then bootAdvance (slotFails i.slotB (passCode s i) i.bytes (seqNoted s i))
    else if i.load then bootAdvance (loadImage i (seqNoted s i))
    else setBoot { (seqNoted s i).boot with verified := some i.slotB } (slotErr i.slotB 0 (seqNoted s i)) := by
  obtain ⟨hl, hh, h5, hb⟩ := h
  refine if_neg ?_
  simp [hl, hh, h5, hb]

theorem imageSlotPass_mine (h : readsSlots s) {i : SlotPass} (hf : i.flash = true)
    (hload : i.load = s.boot.verified.isSome)
    (hdue : slotDue s i = some i.slotB) : imageSlotPass i s =
    if passCode s i ≠ 0 then bootAdvance (slotFails i.slotB (passCode s i) i.bytes (seqNoted s i))
    else if i.load then bootAdvance (loadImage i (seqNoted s i))
    else setBoot { (seqNoted s i).boot with verified := some i.slotB } (slotErr i.slotB 0 (seqNoted s i)) := by
  rw [imageSlotPass_runs h, if_neg (by simp [hf]), if_neg (by simp [hdue, hload])]

theorem runs_slotPass (h : readsSlots s) {i : SlotPass} {P : State → Prop} (hp : P (imageSlotPass i s)) : Runs
    (.imageSlotPass i) s P :=
  runs_awake h.1 rfl hp

/-! ### The error fields -/

theorem within_slotErr (b : Bool) (c : Nat) (s : State) : Within [.regs] (· = aBOOT_SLOT_ERR) s (slotErr b c s) := by
  unfold slotErr
  split
  · exact (Within.refl ..).rput _ _ _ (by decide) rfl
  · exact (Within.refl ..).rput _ _ _ (by decide) rfl

theorem slotErr_regs_wf (h : spWf resetWord s.regs = true) (b : Bool) (c : Nat) : spWf resetWord (slotErr b c s).regs
    = true := by
  unfold slotErr
  split
  · exact rput_regs_wf h ..
  · exact rput_regs_wf h ..

theorem rfld_slotErr (h : spWf resetWord s.regs = true) (b : Bool) {c : Nat} (hc : c < 256) :
    rfld (slotErr b c s) aBOOT_SLOT_ERR (if b then 15 else 7) (if b then 8 else 0) = c := by
  have hc' : c % 2 ^ 8 = c := Nat.mod_eq_of_lt hc
  cases b
  · exact (rfld_rput h _ (by decide) c).trans hc'
  · exact (rfld_rput h _ (by decide) c).trans hc'

/-- The field of slot A is another than that of slot B. -/
theorem rfld_slotErr_other (h : spWf resetWord s.regs = true) (c : Nat) :
    rfld (slotErr true c s) aBOOT_SLOT_ERR 7 0 = rfld s aBOOT_SLOT_ERR 7 0 := by
  unfold rfld
  rw [show rget (slotErr true c s) aBOOT_SLOT_ERR = setBits (rget s aBOOT_SLOT_ERR) 15 8 c from rget_rset_same h _ _,
    bits_setBits_ne _ _ (by decide) (by decide)]

/-- No flash: each slot left is marked. -/
theorem slotErr_fold (l : List Bool) : ∀ {s : State}, spWf resetWord s.regs = true →
    Within [.regs] (· = aBOOT_SLOT_ERR) s (l.foldl (fun s b => slotErr b 1 s) s) ∧
    (rfld s aBOOT_SLOT_ERR 7 0 = 1 ∨ false ∈ l → rfld (l.foldl (fun s b => slotErr b 1 s) s) aBOOT_SLOT_ERR 7 0 =
      1) := by
  induction l with
  | nil => exact fun _ => ⟨.refl .., fun h => h.elim id (absurd · List.not_mem_nil)⟩
  | cons b l ih =>
    intro s h
    obtain ⟨hw, hf⟩ := ih (slotErr_regs_wf h b 1)
    refine ⟨(within_slotErr b 1 s).trans hw, fun hx => hf ?_⟩
    cases b with
    | false => exact .inl (rfld_slotErr h false (by decide))
    | true =>
      rw [rfld_slotErr_other h]
      exact hx.imp id fun hm => (List.mem_cons.1 hm).resolve_left (by decide)

theorem slotsLeft_a (h : s.boot.badA = false) : false ∈ slotsLeft s := by
  unfold slotsLeft
  dsimp only
  refine List.mem_filter.2 ⟨?_, by simp [h]⟩
  split
  · simp
  · split <;> simp

theorem slotsLeft_none (h : (s.boot.badA = true ∧ s.boot.badB = true) ∨ (bootSel s = 1 ∧ s.boot.badA = true)) :
    (slotsLeft s).isEmpty = true := by
  unfold slotsLeft
  rcases h with ⟨ha, hb⟩ | ⟨h1, ha⟩
  · simp [ha, hb]
  · simp [h1, ha]

theorem slotsLeft_other (h : bootSel s = 0) {b : Bool} (hb : (if b then s.boot.badB else s.boot.badA) = false) :
    (slotsLeft s).isEmpty = false := by
  have hm : b ∈ slotsLeft s := by
    unfold slotsLeft
    dsimp only
    refine List.mem_filter.2 ⟨?_, by simp [hb]⟩
    rw [if_neg (by rw [h]; decide)]
    split <;> cases b <;> simp
  rw [List.isEmpty_eq_false_iff]
  exact List.ne_nil_of_mem hm

/-- What follows a failed flash from step 5. -/
theorem noFlash_answers (hs : Canonical s) (h : readsSlots s) {i : SlotPass} (hf : i.flash = false)
    (hn : s.boot.regInit = []) :
    Runs (.imageSlotPass i) s fun t => t.boot.src = 1 ∧ t.boot.cause = 1 ∧
      rbit t (aISTAT pgBOOT) 2 = true ∧ (s.boot.badA = false → rfld t aBOOT_SLOT_ERR 7 0 = 1) ∧ t.mem = s.mem := by
  obtain ⟨hw, hfl⟩ := slotErr_fold (slotsLeft s) hs.1
  refine runs_slotPass h ?_
  rw [imageSlotPass_runs h, if_pos (by simp [hf])]
  generalize (slotsLeft s).foldl (fun s b => slotErr b 1 s) s = u at hw hfl
  have hb : u.boot = s.boot := hw.1 .boot (by decide)
  have hi : Imaged (defaults 1 u) (bootAdvance (fallback 1 u)) :=
    (imaged_fallback 1 (by rw [hb]; exact hn) (by rw [hb]; exact h.2.2.1)).advance
      (show u.boot.regInit = [] by rw [hb]; exact hn)
  obtain ⟨hwt, hsrc, hc, hbit⟩ := hi.defaults
  refine ⟨hsrc, hc, hbit, fun ha => ?_, Eq.trans (hwt.1 .mem (by decide)) (hw.1 .mem (by decide))⟩
  exact (congrArg (bits · 7 0) (hwt.2 _ (by decide))).trans (hfl (.inr (slotsLeft_a ha)))

theorem slotPass_verified (h : readsSlots s) {i : SlotPass} (hf : i.flash = true)
    (hload : i.load = s.boot.verified.isSome)
    (hdue : slotDue s i = some i.slotB) (hl : i.load = false) (hc : passCode s i = 0) : Runs (.imageSlotPass i) s
      fun t =>
      t.boot = { s.boot with verified := some i.slotB } ∧
      KeepsBut [.regs, .boot] s t ∧ RegsOnly [aBOOT_SEQ_A, aBOOT_SEQ_B, aBOOT_SLOT_ERR] s t := by
  have hw : Within [.regs, .boot] (· ∈ [aBOOT_SEQ_A, aBOOT_SEQ_B, aBOOT_SLOT_ERR]) s (seqNoted s i) :=
      ((Within.refl ..).rset _).rset _
  have hw2 := hw.trans ((within_slotErr i.slotB 0 (seqNoted s i)).mono (by decide) fun a ha => by simp [ha])
  refine runs_slotPass h ?_
  rw [imageSlotPass_mine h hf hload hdue, if_neg (not_not.2 hc), if_neg (by simp [hl])]
  exact ⟨rfl, (hw2.setBoot _).1, (hw2.setBoot _).2⟩

theorem slotCode_lt (s : State) (b : List Byte) : slotCode s b < 256 := by
  unfold slotCode
  repeat' split
  all_goals decide

theorem loadCode_lt (b : List Byte) : loadCode b < 256 := by
  unfold loadCode
  repeat' split
  all_goals decide

theorem passCode_lt (s : State) (i : SlotPass) : passCode s i < 256 := by
  unfold passCode
  split
  · exact loadCode_lt _
  · exact slotCode_lt ..

/-! ### A slot that fails -/

/-- A slot marked as bad. -/
def slotBadNoted (b : Bool) (code : Nat) (bytes : List Byte) (s : State) : State :=
  match slotErrSect bytes code with
  | some w => rset aBOOT_ERRSECT w (slotErr b code (setBoot { s.boot with
      badA := s.boot.badA || !b, badB := s.boot.badB || b, verified := none } s))
  | none => slotErr b code (setBoot
    { s.boot with badA := s.boot.badA || !b, badB := s.boot.badB || b, verified := none } s)

theorem slotFails_noted (b : Bool) (code : Nat) (bytes : List Byte) (s : State) : slotFails b code bytes s =
    if (slotsLeft (slotBadNoted b code bytes s)).isEmpty then fallback code (slotBadNoted b code bytes s)
    else slotBadNoted b code bytes s := rfl

theorem slotBadNoted_effect (hs : spWf resetWord s.regs = true) (b : Bool) {code : Nat} (hc : code < 256)
    (bytes : List Byte) :
    let t := slotBadNoted b code bytes s
    t.boot = { s.boot with badA := s.boot.badA || !b, badB := s.boot.badB || b, verified := none } ∧
    Within [.regs, .boot] (· ∈ [aBOOT_SLOT_ERR, aBOOT_ERRSECT]) s t ∧
    rfld t aBOOT_SLOT_ERR (if b then 15 else 7) (if b then 8 else 0) = code ∧
    (∀ w, slotErrSect bytes code = some w → rget t aBOOT_ERRSECT = w) := by
  set u := setBoot { s.boot with badA := s.boot.badA || !b, badB := s.boot.badB || b, verified := none } s with hu
  have hwf : spWf resetWord u.regs = true := hs
  have hw : Within [.regs, .boot] (· ∈ [aBOOT_SLOT_ERR, aBOOT_ERRSECT]) s (slotErr b code u) :=
    ((Within.refl ..).setBoot _).trans ((within_slotErr b code u).mono (by decide) fun a ha => by simp [ha])
  have hb : (slotErr b code u).boot = u.boot := (within_slotErr b code u).1 .boot (by decide)
  have hf := rfld_slotErr hwf b hc
  intro t
  cases h : slotErrSect bytes code with
  | none =>
    have ht : t = slotErr b code u := by
      change slotBadNoted b code bytes s = _
      unfold slotBadNoted
      rw [h]
    rw [ht]
    exact ⟨hb, hw, hf, fun w hw => absurd hw (by simp)⟩
  | some x =>
    have ht : t = rset aBOOT_ERRSECT x (slotErr b code u) := by
      change slotBadNoted b code bytes s = _
      unfold slotBadNoted
      rw [h]
    rw [ht]
    refine ⟨hb, hw.rset _, ?_, fun w hw => ?_⟩
    · unfold rfld at hf ⊢
      rwa [rget_rset_ne _ _ (by decide)]
    · rw [rget_rset_same (slotErr_regs_wf hwf b code)]
      exact Option.some.inj hw

/-- The state with a slot marked as bad. -/
theorem slotBadNoted_slots (b : Bool) {code : Nat} (hs : spWf resetWord s.regs = true) (hc : code < 256)
    (bytes : List Byte) :
    bootSel (slotBadNoted b code bytes s) = bootSel s :=
  bootSel_of ((slotBadNoted_effect hs b hc bytes).2.1.2 _ (by decide))

/-- A slot fails and the other is left. -/
theorem slotPass_fails (hs : Canonical s) (h : readsSlots s) {i : SlotPass} (hf : i.flash = true)
    (hload : i.load = s.boot.verified.isSome)
    (hdue : slotDue s i = some i.slotB) (hc : passCode s i ≠ 0) (h0 : bootSel s = 0)
    (ho : (if i.slotB then s.boot.badA else s.boot.badB) = false) :
    Runs (.imageSlotPass i) s fun t => t.boot.step = .s5 ∧ t.boot.verified = none ∧
        (if i.slotB then t.boot.badB else t.boot.badA) = true ∧
        rfld t aBOOT_SLOT_ERR (if i.slotB then 15 else 7) (if i.slotB then 8 else 0) = passCode s i ∧
        (∀ w, slotErrSect i.bytes (passCode s i) = some w → rget t aBOOT_ERRSECT = w) ∧ KeepsBut [.regs, .boot] s
          t := by
  have hlt := passCode_lt s i
  have hwf : spWf resetWord (seqNoted s i).regs = true := rset_regs_wf (rset_regs_wf hs.1 _ _) _ _
  have hw0 : Within [.regs, .boot] (fun _ => True) s (seqNoted s i) :=
    ((Within.refl ..).rset _ (by decide) trivial).rset _ (by decide) trivial
  have hsel0 : bootSel (seqNoted s i) = bootSel s :=
    bootSel_of ((rget_rset_ne _ _ (by decide)).trans (rget_rset_ne _ _ (by decide)))
  obtain ⟨hb, hw, hfld, hsect⟩ := slotBadNoted_effect hwf i.slotB hlt i.bytes
  rw [show (seqNoted s i).boot = s.boot from rfl] at hb
  have hsel := (slotBadNoted_slots i.slotB hwf hlt i.bytes).trans (hsel0.trans h0)
  refine runs_slotPass h ?_
  rw [imageSlotPass_mine h hf hload hdue, if_pos hc, slotFails_noted]
  generalize slotBadNoted i.slotB (passCode s i) i.bytes (seqNoted s i) = t at hb hw hfld hsect hsel
  have hleft : (slotsLeft t).isEmpty = false := by
    refine slotsLeft_other (b := !i.slotB) hsel ?_
    rw [hb]
    cases hi : i.slotB <;> rw [hi] at ho <;> simpa using ho
  have h5 : t.boot.step = .s5 := (congrArg BootSt.step hb).trans h.2.2.1
  rw [hleft, if_neg (by decide), bootAdvance_idle (bootNext_slots h5)]
  refine ⟨h5, by rw [hb], ?_, hfld, hsect, (hw0.trans (hw.mono (by decide) fun _ _ => trivial)).1⟩
  rw [hb]
  cases i.slotB <;> simp

/-- The last slot fails. -/
theorem slotPass_last (hs : Canonical s) (h : readsSlots s) {i : SlotPass} (hf : i.flash = true)
    (hload : i.load = s.boot.verified.isSome)
    (hdue : slotDue s i = some i.slotB) (hc : passCode s i ≠ 0)
    (ho : (bootSel s = 1 ∧ i.slotB = false) ∨ (if i.slotB then s.boot.badA else s.boot.badB) = true)
      (hn : s.boot.regInit = []) :
    Runs (.imageSlotPass i) s fun t => t.boot.src = 1 ∧ t.boot.cause = passCode s i ∧ rbit t (aISTAT pgBOOT) 2 = true
      ∧ t.mem = s.mem := by
  have hlt := passCode_lt s i
  have hwf : spWf resetWord (seqNoted s i).regs = true := rset_regs_wf (rset_regs_wf hs.1 _ _) _ _
  have hsel0 : bootSel (seqNoted s i) = bootSel s :=
    bootSel_of ((rget_rset_ne _ _ (by decide)).trans (rget_rset_ne _ _ (by decide)))
  obtain ⟨hb, hw, -, -⟩ := slotBadNoted_effect hwf i.slotB hlt i.bytes
  rw [show (seqNoted s i).boot = s.boot from rfl] at hb
  have hsel := (slotBadNoted_slots i.slotB hwf hlt i.bytes).trans hsel0
  refine runs_slotPass h ?_
  rw [imageSlotPass_mine h hf hload hdue, if_pos hc, slotFails_noted]
  generalize slotBadNoted i.slotB (passCode s i) i.bytes (seqNoted s i) = t at hb hw hsel
  have hleft : (slotsLeft t).isEmpty = true := by
    refine slotsLeft_none ?_
    rw [hb, hsel]
    rcases ho with ⟨h1, hB⟩ | hB
    · exact .inr ⟨h1, by simp [hB]⟩
    · left
      cases hi : i.slotB <;> rw [hi] at hB <;> simpa using hB
  have h5 : t.boot.step = .s5 := (congrArg BootSt.step hb).trans h.2.2.1
  have hnt : t.boot.regInit = [] := (congrArg BootSt.regInit hb).trans hn
  rw [hleft, if_pos rfl]
  obtain ⟨hwt, hsrc, hcause, hbit⟩ := ((imaged_fallback (passCode s i) hnt h5).advance hnt).defaults
  refine ⟨hsrc, hcause, hbit, ?_⟩
  calc (bootAdvance (fallback (passCode s i) t)).mem = t.mem := hwt.1 .mem (by decide)
    _ = (seqNoted s i).mem := hw.1 .mem (by decide)

end Sys2Proof.Machine
end

section
/-!
PROOFS. O60, the image, RUN, fuses, pins and monitors.
-/

-- One declaration after another: side by side, the stacks of the threads exceed what memory the check allows.
set_option Elab.async false

namespace Sys2Proof.Machine

variable {s t u : State}

/-! ### O60: a slot that is the image -/

/-- The register list of a section. -/
def listOf (x : Section) : List RegInit :=
  match x with
  | .regInit l => l
  | _ => []

/-- What a row of sections leaves: their register lists are kept, their words stored unless the start is warm. -/
structure Loaded (l : List RegInit) (s t : State) : Prop where
  within : Within [.regs, .mem, .fab, .boot] (· = aISTAT pgECC) s t
  boot : ∃ p c, t.boot = { s.boot with regInit := s.boot.regInit ++ l, preload := p, cistern := c }
  warm : s.boot.warm = true → t.mem = s.mem

theorem Loaded.refl (s : State) : Loaded [] s s := ⟨.refl .., ⟨_, _, by rw [List.append_nil]⟩, fun _ => rfl⟩

theorem Loaded.trans {l m : List RegInit} (h : Loaded l s t) (h' : Loaded m t u) : Loaded (l ++ m) s u := by
  obtain ⟨p, c, hb⟩ := h.boot
  obtain ⟨p', c', hb'⟩ := h'.boot
  refine ⟨h.within.trans h'.within, ⟨p', c', ?_⟩, fun hw => (h'.warm ?_).trans (h.warm hw)⟩
  · rw [hb', hb, List.append_assoc]
  · rw [hb]
    exact hw

theorem loaded_boot {p : List (Nat × Entry)} {c : List CistSect} {l : List RegInit} :
    Loaded l s (setBoot { s.boot with regInit := s.boot.regInit ++ l, preload := p, cistern := c } s) :=
  ⟨(Within.refl ..).setBoot _, ⟨_, _, rfl⟩, fun _ => rfl⟩

theorem loaded_words (a : Nat) (ws : List Word) : Loaded [] s (if s.boot.warm then s else stWords a ws s) := by
  split
  · exact .refl s
  · next h =>
    have hw := within_stWords ws a s
    refine ⟨hw.mono (by decide) fun _ h => h, ⟨s.boot.preload, s.boot.cistern, ?_⟩, fun hx => absurd hx h⟩
    rw [List.append_nil]
    exact hw.1 .boot (by decide)

theorem loadSection_loaded (x : Section) (s : State) : Loaded (listOf x) s (loadSection s x) := by
  cases x with
  | regInit l => exact loaded_boot
  | press p b f ws => exact loaded_words _ ws
  | forme b o ws => exact loaded_words _ ws
  | preload c es =>
    change Loaded [] s (if s.boot.warm then s else _)
    split
    · exact .refl s
    · refine ⟨(Within.refl ..).setBoot _, ⟨s.boot.preload ++ es.map fun e => (c, e), s.boot.cistern, ?_⟩, fun _ => rfl⟩
      rw [List.append_nil]
      rfl
  | cistern n d =>
    change Loaded [] s _
    refine ⟨(Within.refl ..).setBoot _, ⟨s.boot.preload, s.boot.cistern ++ [⟨n, d⟩], ?_⟩, fun _ => rfl⟩
    rw [List.append_nil]
    rfl
  | prot l => exact .refl s
  | unknown => exact .refl s

theorem loadSections_loaded (l : List Section) : ∀ s, Loaded (l.flatMap listOf) s (l.foldl loadSection s) := by
  induction l with
  | nil => exact fun s => .refl s
  | cons x l ih =>
    intro s
    rw [List.flatMap_cons, List.foldl_cons]
    exact (loadSection_loaded x s).trans (ih _)

theorem loadProts_none (l : List Section) (h : ∀ x ∈ l, ∀ m, x ≠ .prot m) (s : State) : l.foldl loadProt s = s := by
  induction l with
  | nil => rfl
  | cons x l ih =>
    have hx : loadProt s x = s := by
      cases x with
      | prot m => exact absurd rfl (h _ List.mem_cons_self m)
      | _ => rfl
    rw [List.foldl_cons, hx]
    exact ih fun y hy => h y (List.mem_cons_of_mem _ hy)

/-- The slot noted as the image. -/
def imageNoted (i : SlotPass) (s : State) : State :=
  rset aBOOT_IMG_CRC (slotImgCrc i.bytes) (setBoot { s.boot with
    src := 0, slot := if i.slotB then 1 else 0, signed := slotSigned i.bytes, cause := 0, verified := none
    regInit := [], preload := [], cistern := [] } s)

theorem loadImage_noted (i : SlotPass) (s : State) (h : ∀ x ∈ slotSections i.bytes, ∀ m, x ≠ .prot m) :
    loadImage i s = imageDone ((slotSections i.bytes).foldl loadSection (imageNoted i s)) := by
  change imageDone ((slotSections i.bytes).foldl loadSection
    ((slotSections i.bytes).foldl loadProt (imageNoted i s))) = _
  rw [loadProts_none _ h]

theorem slotPass_loads (h : readsSlots s) {i : SlotPass} (hf : i.flash = true) (hload : i.load = s.boot.verified.isSome)
    (hdue : slotDue s i = some i.slotB) (hl : i.load = true) (hc : passCode s i = 0)
    (hp : ∀ x ∈ slotSections i.bytes, ∀ m, x ≠ .prot m) {P : State → Prop}
    (hP : P (bootAdvance (imageDone ((slotSections i.bytes).foldl loadSection (imageNoted i (seqNoted s i)))))) :
    Runs (.imageSlotPass i) s P := by
  refine runs_slotPass h ?_
  rw [imageSlotPass_mine h hf hload hdue, if_neg (not_not.2 hc), if_pos hl, loadImage_noted _ _ hp]
  exact hP

theorem rdWords_of_mem (h : t.mem = s.mem) (a n : Nat) : rdWords t a n = rdWords s a n :=
  rdWords_congr fun b _ _ => by
    unfold rdByte
    rw [h]

/-- What a slot that is the image leaves, no register list among its sections. -/
structure ImageIn (i : SlotPass) (s t : State) : Prop where
  src : t.boot.src = 0
  slot : t.boot.slot = if i.slotB then 1 else 0
  cause : t.boot.cause = 0
  signed : t.boot.signed = slotSigned i.bytes
  crc : rget t aBOOT_IMG_CRC = slotImgCrc i.bytes
  warm : s.boot.warm = true → t.mem = s.mem
  press : ∀ p b f ws, slotSections i.bytes = [.press p b f ws] → s.boot.warm = false → rdWords t
    (bankAddr p b + 4 * f) ws.length = ws
  forme : ∀ b o ws, slotSections i.bytes = [.forme b o ws] → s.boot.warm = false → rdWords t (formeBase b + o)
    ws.length = ws
  cistern : ∀ n d, slotSections i.bytes = [.cistern n d] → t.boot.cistern = [⟨n, d⟩]
  preload : ∀ c es, slotSections i.bytes = [.preload c es] → s.boot.warm = false → t.boot.preload = es.map fun e =>
    (c, e)

theorem imageNoted_crc (hs : spWf resetWord s.regs = true) (i : SlotPass) : rget (imageNoted i s) aBOOT_IMG_CRC =
    slotImgCrc i.bytes :=
  rget_rset_same (s := setBoot _ s) hs _ _

theorem imageIn_of (hs : Canonical s) (h : readsSlots s) (i : SlotPass)
    (hn : (slotSections i.bytes).flatMap listOf = []) :
    ImageIn i s (bootAdvance (imageDone ((slotSections i.bytes).foldl loadSection (imageNoted i (seqNoted s i))))) := by
  set n := imageNoted i (seqNoted s i) with hnd
  have hnm : n.mem = s.mem := rfl
  have hwf : spWf resetWord (seqNoted s i).regs = true := rset_regs_wf (rset_regs_wf hs.1 _ _) _ _
  have hload := loadSections_loaded (slotSections i.bytes) n
  rw [hn] at hload
  obtain ⟨p, c, hb⟩ := hload.boot
  have hsec (x : Section) (hx : slotSections i.bytes = [x]) : (slotSections i.bytes).foldl loadSection n =
      loadSection n x := by
    rw [hx]
    rfl
  generalize (slotSections i.bytes).foldl loadSection n = v at hload hb hsec
  have hvn : v.boot.regInit = [] := by rw [hb]; rfl
  have hv5 : v.boot.step = .s5 := by rw [hb]; exact h.2.2.1
  have hm : Moved v (bootAdvance (imageDone v)) := ((imaged_imageDone hvn hv5).advance hvn).moved
  generalize bootAdvance (imageDone v) = t at hm
  obtain ⟨x, y, z, hbt⟩ := hm.boot
  have hmem : t.mem = v.mem := hm.within.1 .mem (by decide)
  have hwords {sec : Section} {a : Nat} {ws : List Word} (hx : slotSections i.bytes = [sec])
      (he : loadSection n sec = stWords a ws n) : rdWords t a ws.length = ws := by
    rw [rdWords_of_mem hmem, hsec _ hx, he]
    exact rdWords_stWords (s := n) hs.2.1 a ws
  refine ⟨?_, ?_, ?_, ?_, ?_, fun hw => hmem.trans (hload.warm hw), fun p b f ws hx hw => hwords hx ?_,
    fun b o ws hx hw => hwords hx ?_, fun m d hx => ?_, fun c es hx hw => ?_⟩
  · rw [hbt, hb]
    rfl
  · rw [hbt, hb]
    rfl
  · rw [hbt, hb]
    rfl
  · rw [hbt, hb]
    rfl
  · exact (hm.within.2 _ (by decide)).trans ((hload.within.2 _ (by decide)).trans (imageNoted_crc hwf i))
  · exact if_neg (by rw [show n.boot.warm = s.boot.warm from rfl, hw]; decide)
  · exact if_neg (by rw [show n.boot.warm = s.boot.warm from rfl, hw]; decide)
  · rw [hbt, hsec _ hx]
    rfl
  · have he : loadSection n (.preload c es) = setBoot
      { n.boot with preload := n.boot.preload ++ es.map fun e => (c, e) } n :=
      if_neg (by rw [show n.boot.warm = s.boot.warm from rfl, hw]; decide)
    rw [hbt, hsec _ hx, he]
    rfl

/-! ### An image whose lists wait -/

theorem applyPhase_none {k : Nat} (h : ∀ x ∈ s.boot.regInit, x.phase ≠ k) : applyPhase k s = s := by
  have hf : (s.boot.regInit.filter fun x => x.phase == k) = [] :=
    List.filter_eq_nil_iff.2 fun x hx => by simpa using h x hx
  unfold applyPhase
  rw [hf]
  rfl

/-- With the host held, an image whose lists are all of a later phase waits at H1. -/
theorem imageDone_waits (h : ∀ x ∈ s.boot.regInit, x.phase ≠ 0) (h5 : s.boot.step = .s5) (hh : hostHeld s = true) :
    bootAdvance (imageDone s) = holdAt 1 s := by
  have he : imageDone s = holdAt 1 s := by
    unfold imageDone
    rw [applyPhase_none h]
    dsimp only
    rw [if_neg (not_not.2 h5), if_pos hh]
  rw [he]
  exact bootAdvance_atHold rfl

theorem slotPass_waits (h : readsSlots s) {i : SlotPass} (hf : i.flash = true) (hload : i.load = s.boot.verified.isSome)
    (hdue : slotDue s i = some i.slotB) (hl : i.load = true) (hc : passCode s i = 0)
    (hp : ∀ x ∈ slotSections i.bytes, ∀ m, x ≠ .prot m) (hh : hostHeld s = true)
    (hph : ∀ x ∈ (slotSections i.bytes).flatMap listOf, x.phase ≠ 0) : Runs (.imageSlotPass i) s fun t =>
      t.boot.hold = some 1 ∧ t.boot.step = .s5 ∧ t.boot.regInit = (slotSections i.bytes).flatMap listOf := by
  refine slotPass_loads h hf hload hdue hl hc hp ?_
  have hn : Within [.regs, .boot] (· ∈ [aBOOT_IMG_CRC, aBOOT_SEQ_A, aBOOT_SEQ_B]) s (imageNoted i (seqNoted s i)) :=
    ((((Within.refl ..).rset _).rset _).setBoot _).rset _
  have hl := loadSections_loaded (slotSections i.bytes) (imageNoted i (seqNoted s i))
  generalize (slotSections i.bytes).foldl loadSection (imageNoted i (seqNoted s i)) = v at hl
  obtain ⟨p, c, hb⟩ := hl.boot
  have hreg : v.boot.regInit = (slotSections i.bytes).flatMap listOf := by rw [hb]; exact List.nil_append _
  have hv5 : v.boot.step = .s5 := by rw [hb]; exact h.2.2.1
  have hvh : hostHeld v = true := (hostHeld_of ((hl.within.2 _ (by decide)).trans (hn.2 _ (by decide)))).trans hh
  rw [imageDone_waits (by rwa [hreg]) hv5 hvh]
  exact ⟨rfl, hv5, hreg⟩

/-! ### O60: an image whose list writes a scratch register -/

theorem scratch_row : ∀ k : Fin 4, ∀ d ∈ regAt (aSYS_SCRATCH k.val), actMask d ≠ 0 ∧ (rwMask d pgSYS ||| w32 d.rwp) =
    BitVec.allOnes 32 ∧
    w32 d.w1c = 0#32 := by decide

theorem scratch_addr : ∀ k : Fin 4, (regAt (aSYS_SCRATCH k.val)).isSome = true ∧ aSYS_SCRATCH k.val ≠ aSYS_RSTCMD ∧
    pageOf (aSYS_SCRATCH k.val) = pgSYS ∧ offOf (aSYS_SCRATCH k.val) ∉ [0x8, 0x18, 0x1C] ∧
    aSYS_SCRATCH k.val ≠ aSYS_STRAPS ∧ aSYS_SCRATCH k.val ≠ aISTAT pgBOOT ∧
    actingReg (pageOf (aSYS_SCRATCH k.val)) (offOf (aSYS_SCRATCH k.val)) = false := by decide

/-- A word whose every bit is RW is stored as written. -/
theorem newWord_full {d : RegDef} {p : Nat} (hp : p ≠ 0x20) (hm : (rwMask d p ||| w32 d.rwp) = BitVec.allOnes 32)
    (hc : w32 d.w1c = 0#32)
    (old v : Word) : newWord d p 0 old v = v := by
  unfold newWord
  dsimp only
  rw [if_pos rfl, if_neg fun h => hp h.1, hm, hc]
  unfold maskWord
  rw [BitVec.not_allOnes, BitVec.and_zero, BitVec.and_allOnes, BitVec.zero_or, BitVec.and_zero, BitVec.not_zero,
    BitVec.and_allOnes]

theorem applyRegInit_stores {a : Nat} {d : RegDef} (hd : regAt a = some d) (hm : actMask d ≠ 0#32)
    (hr : a ≠ aSYS_RSTCMD)
    (ho : offOf a ∉ [0x8, 0x18, 0x1C]) (hp : pageOf a = pgSYS) (hplain : actingReg (pageOf a) (offOf a) = false)
      (v : Word) (s : State) :
    applyRegInit a v s = rset a (newWord d pgSYS 0 (rget s a) v) s := by
  have h8 : offOf a ≠ 8 := fun h => ho (by simp [h])
  rw [← hp]
  simp [applyRegInit, hd, hm, hr, h8, blockRefuse_sys hp, regAct_of_plain hplain ho]

theorem applyRegInit_scratch (k : Fin 4) (v : Word) (s : State) : applyRegInit (aSYS_SCRATCH k.val) v s = rset
    (aSYS_SCRATCH k.val) v s := by
  obtain ⟨hs, hr, hp, ho, -, -, hplain⟩ := scratch_addr k
  obtain ⟨d, hd⟩ := Option.isSome_iff_exists.1 hs
  obtain ⟨hm, hf, hc⟩ := scratch_row k d hd
  rw [applyRegInit_stores hd hm hr ho hp hplain, newWord_full (by decide) hf hc]

theorem imageDone_scratch (k : Fin 4) (v : Word) (hl : Live s) (h5 : s.boot.step = .s5) (hh : hostHeld s = true)
    (hn : s.boot.regInit = [⟨0, aSYS_SCRATCH k.val, v⟩]) :
    bootAdvance (imageDone s) = holdAt 1 (rset (aSYS_SCRATCH k.val) v s) := by
  have hp : applyPhase 0 s = rset (aSYS_SCRATCH k.val) v s := by
    unfold applyPhase
    rw [hn]
    change (if s.boot.step = s.boot.step ∧ s.boot.held = .none then applyRegInit (aSYS_SCRATCH k.val) v s else s) = _
    rw [if_pos ⟨rfl, hl⟩, applyRegInit_scratch]
  have hst : hostHeld (rset (aSYS_SCRATCH k.val) v s) = true :=
    (hostHeld_of (rget_rset_ne _ _ (scratch_addr k).2.2.2.2.1.symm)).trans hh
  have h5' : ¬ (rset (aSYS_SCRATCH k.val) v s).boot.step ≠ .s5 := not_not.2 h5
  have he : imageDone s = holdAt 1 (rset (aSYS_SCRATCH k.val) v s) := by
    unfold imageDone
    rw [hp]
    dsimp only
    rw [if_neg h5', if_pos hst]
  rw [he]
  exact bootAdvance_atHold rfl

theorem rget_holdAt_scratch (hs : spWf resetWord s.regs = true) (k : Fin 4) (v : Word) :
    rget (holdAt 1 (rset (aSYS_SCRATCH k.val) v s)) (aSYS_SCRATCH k.val) = v :=
  (rget_rset_ne _ _ (scratch_addr k).2.2.2.2.2.1).trans (rget_rset_same hs _ _)

theorem listed_scratch (hwf : spWf resetWord s.regs = true) (hl : Live s) (h5 : s.boot.step = .s5)
    (hn : s.boot.regInit = [])
    (hh : hostHeld s = true) (k : Fin 4) (v : Word) :
    let t := bootAdvance (imageDone (List.foldl loadSection s [.regInit [⟨0, aSYS_SCRATCH k.val, v⟩]]))
    t.boot.hold = some 1 ∧ rget t (aSYS_SCRATCH k.val) = v := by
  set u := setBoot { s.boot with regInit := s.boot.regInit ++ [⟨0, aSYS_SCRATCH k.val, v⟩] } s with hu
  have hur : u.boot.regInit = [⟨0, aSYS_SCRATCH k.val, v⟩] := by
    rw [hu]
    exact congrArg (· ++ _) hn
  have hf : List.foldl loadSection s [.regInit [⟨0, aSYS_SCRATCH k.val, v⟩]] = u := rfl
  have hdone := imageDone_scratch (s := u) k v hl h5 hh hur
  have hget := rget_holdAt_scratch (s := u) hwf k v
  rw [hf, hdone]
  exact ⟨rfl, hget⟩

theorem slotPass_scratch (hs : Canonical s) (h : readsSlots s) {i : SlotPass} (hf : i.flash = true)
    (hload : i.load = s.boot.verified.isSome)
    (hdue : slotDue s i = some i.slotB) (hl : i.load = true) (hc : passCode s i = 0) (hh : hostHeld s = true)
      (k : Fin 4) (v : Word)
    (hsec : slotSections i.bytes = [.regInit [⟨0, aSYS_SCRATCH k.val, v⟩]]) : Runs (.imageSlotPass i) s fun t =>
      t.boot.hold = some 1 ∧ rget t (aSYS_SCRATCH k.val) = v := by
  have hp : ∀ x ∈ slotSections i.bytes, ∀ m, x ≠ .prot m := by
    rw [hsec]
    simp
  refine slotPass_loads h hf hload hdue hl hc hp ?_
  have hn : Within [.regs, .boot] (· ∈ [aBOOT_IMG_CRC, aBOOT_SEQ_A, aBOOT_SEQ_B]) s (imageNoted i (seqNoted s i)) :=
    ((((Within.refl ..).rset _).rset _).setBoot _).rset _
  have hwf : spWf resetWord (imageNoted i (seqNoted s i)).regs = true :=
    rset_regs_wf (s := setBoot _ (seqNoted s i)) (rset_regs_wf (rset_regs_wf hs.1 _ _) _ _) _ _
  have hnl : Live (imageNoted i (seqNoted s i)) := h.1
  have hn5 : (imageNoted i (seqNoted s i)).boot.step = .s5 := h.2.2.1
  have hnr : (imageNoted i (seqNoted s i)).boot.regInit = [] := rfl
  have hnh : hostHeld (imageNoted i (seqNoted s i)) = true := (hostHeld_of (hn.2 _ (by decide))).trans hh
  have hone := listed_scratch hwf hnl hn5 hnr hnh k v
  rw [hsec]
  exact hone

/-! ### O60: BOOT.CMD CONTINUE -/

theorem continue_bus : busAddr aBOOT_CMD = aBOOT_CMD ∧ aBOOT_CMD ≠ aSYS_RSTCMD := by decide

theorem continue_row : ∃ d, regAt aBOOT_CMD = some d ∧ d.wo = 1 := by
  obtain ⟨d, hd⟩ : ∃ d, regAt aBOOT_CMD = some d := Option.isSome_iff_exists.1 (by decide)
  exact ⟨d, hd, (by decide : ∀ d ∈ regAt aBOOT_CMD, d.wo = 1) d hd⟩

theorem landPage_continue {a l : Nat} (hr : a ≠ aSYS_RSTCMD) (hc : a = aBOOT_CMD) (old new : Word) {v : Word}
    (hv : bit v 0 = true) :
    landPage l a old new v s = bootContinue s := by
  unfold landPage
  dsimp only
  rw [if_neg hr, if_pos hc, if_pos hv]

theorem hostWrite_continue {w : HW} (h : Accepted s aBOOT_CMD w) (hv : bit w.v 0 = true) :
    hostWrite ⟨aBOOT_CMD, w.lvl, w.be, w.v⟩ s = endAccess 0 w.lvl true aBOOT_CMD (bootContinue s) := by
  obtain ⟨d, hd, hwo⟩ := continue_row
  rw [hostWrite_accepted h hd (by decide) (by decide) fun hc => absurd hc.1 (by decide)]
  exact congrArg (endAccess 0 w.lvl true aBOOT_CMD)
    (landPage_continue (by decide) rfl _ _ ((bit_actBits_commit hwo w.lvl w.v).trans hv))

theorem bootContinue_h1 (h : s.boot.hold = some 1) : bootContinue s = bootAdvance
    (enter6 (setBoot { s.boot with hold := none } s)) := by
  unfold bootContinue
  rw [h]
  rfl

theorem bootContinue_else {k : Fin 3} (h : s.boot.hold = some k) (hk : k ≠ 1) :
    bootContinue s = setBoot { s.boot with hold := none } s := by
  unfold bootContinue
  rw [h]
  dsimp only
  split
  · next e => exact absurd (Option.some.inj e) hk
  · rfl
  · next e => cases e

/-- From H1 the start goes on in its steps 6 to 9. -/
theorem bootContinue_late (h : s.boot.hold = some 1) (hn : s.boot.regInit = []) : (bootContinue s).boot.hold ≠ some 1 ∧
    lateStep (bootContinue s).boot.step := by
  rw [bootContinue_h1 h, enter6_nil (s := setBoot { s.boot with hold := none } s) hn]
  have hl := late_bootAdvance (s := endStep .s6 (setBoot { s.boot with hold := none } s)) (.inl rfl) hn
  refine ⟨?_, hl.step⟩
  rcases hl.hold with hx | hx <;> rw [hx]
  · exact fun e => by cases e
  · decide

theorem pageWrite_noHold {l a : Nat} {v : Word} {d : RegDef} (hd : regAt a = some d) (hr : a ≠ aSYS_RSTCMD)
    (hp : pageOf a = pgBOOT)
    (ho : offOf a = 0x40) (hv : bit v 0 = true) (hh : s.boot.hold = none) :
    pageWrite l a v s = (errcap pgBOOT 1 a s, stsRefused) := by
  have hsolo : soloRefuse s d a v = none := by
    have hdp : dataPlane (pageOf a) = false := by rw [hp]; decide
    unfold soloRefuse
    simp [hdp]
  have hb (old new : Word) : blockRefuse s true l a old new v = refuse 1 a := by
    unfold blockRefuse
    simp [hp, ho, hv, hh]
  simp [pageWrite, hd, hsolo, hr, ho, hb, refuse, recordRefuse, hp]

theorem bootContinue_answers (hs : Canonical s) (w : HW) :
    (Accepted s aBOOT_CMD ⟨w.lvl, w.be, setBits w.v 0 0 1⟩ →
      (∀ k, s.boot.hold = some k → k ≠ 1 → Runs (.bootContinue w) s fun t => t.boot = { s.boot with hold := none } ∧
        KeepsBut [.regs, .boot] s t ∧ RegsOnly [aHOSTIF_LASTERR, aHOSTIF_LASTADDR] s t) ∧
      (s.boot.hold = some 1 → s.boot.regInit = [] → Runs (.bootContinue w) s fun t => t.boot.hold ≠ some 1 ∧
        (t.boot.step = .s6 ∨ t.boot.step = .s7 ∨ t.boot.step = .s8 ∨ t.boot.step = .s9))) ∧
    (Served s aBOOT_CMD ⟨w.lvl, w.be, setBits w.v 0 0 1⟩ → s.boot.hold = none →
      Runs (.bootContinue w) s fun t => refusedWith 1 pgBOOT aBOOT_CMD s t) := by
  have hv : bit (setBits w.v 0 0 1) 0 = true := bit_commit w.v
  refine ⟨fun h => ⟨fun k hk h1 => ?_, fun h1 hn => ?_⟩, fun h hh => ?_⟩
  · set u := setBoot { s.boot with hold := none } s with hu
    have hw : Within [.regs, .boot] (fun _ => False) s u := (Within.refl ..).setBoot _
    have he := (hostWrite_continue h hv).trans (congrArg (endAccess 0 w.lvl true aBOOT_CMD) (bootContinue_else hk h1))
    have hend := within_endAccess_regs (status := 0) (l := w.lvl) (a := aBOOT_CMD) (s := u) true
    have hb : (endAccess 0 w.lvl true aBOOT_CMD u).boot = u.boot := hend.1 .boot (by decide)
    have hk := hw.ofEnd w.lvl aBOOT_CMD
    have hr : RegsOnly [aHOSTIF_LASTERR, aHOSTIF_LASTADDR] s (endAccess 0 w.lvl true aBOOT_CMD u) :=
      hw.regsOnly_end _ _ fun _ hb => hb.elim
    exact ⟨_, congrArg Host.Outcome.next he, hb, hk, hr⟩
  · obtain ⟨h1', h2⟩ := bootContinue_late h1 hn
    have hend := within_endAccess_regs (status := 0) (l := w.lvl) (a := aBOOT_CMD) (s := bootContinue s) true
    have hb : (endAccess 0 w.lvl true aBOOT_CMD (bootContinue s)).boot = (bootContinue s).boot := hend.1 .boot
        (by decide)
    have he := hostWrite_continue h hv
    refine ⟨_, congrArg Host.Outcome.next he, ?_, ?_⟩
    · rwa [hb]
    · rw [hb]
      exact h2
  · obtain ⟨d, hd, -⟩ := continue_row
    have hrun := hostWrite_served (x := ⟨aBOOT_CMD, w.lvl, w.be, setBits w.v 0 0 1⟩) h hd continue_bus.1 continue_bus.2
    rw [pageWrite_noHold hd (by decide) (by decide) (by decide) hv hh] at hrun
    exact ⟨_, congrArg Host.Outcome.next hrun, refusedWith_of_errcap hs (by decide) (by decide)⟩

/-! ### O60: START_RUN and fuses -/

/-- The start may run. -/
def runDue (s : State) : Prop := Live s ∧ s.boot.hold = none ∧ s.boot.step = .s9 ∧ s.boot.run = false

/-- Preload entries wait, and the device may take them. -/
def preloadsDue (s : State) : Prop :=
  s.boot.preload ≠ [] ∧ activeOrSolo s = true ∧ s.galley.lost = false ∧ s.clk.coreGated = false

/-- The device in RUN, its preload entries still waiting. -/
def inRun (s : State) : State :=
  iset pgGALLEY (if s.galley.fresh then 5 else 6) (iset pgBOOT 0 (setBoot { (endStep .s9 s).boot with
    run := true, retention := true, everRun := true } (endStep .s9 s)))

theorem startRun_due (h : runDue s) : startRun s = preloadRun (inRun s) := by
  obtain ⟨hl, hh, h9, hr⟩ := h
  exact if_neg (by simp [hl, hh, h9, hr])

theorem startRun_idle (h : ¬ runDue s) : startRun s = s := by
  refine if_pos ?_
  by_contra hn
  simp only [not_or, not_not, Bool.not_eq_true, Option.isSome_eq_false_iff, Option.isNone_iff_eq_none] at hn
  exact h hn

theorem within_inRun (s : State) : Within [.regs, .boot] (fun _ => True) s (inRun s) :=
  (((within_endStep .s9 s).setBoot _).iset 0 (by decide) trivial).iset _ (by decide) trivial

theorem galleyReady_inRun (s : State) : (galleyReady (inRun s) = true ∧ (inRun s).boot.preload ≠ []) ↔ preloadsDue
    s := by
  have ha : activeOrSolo (inRun s) = activeOrSolo s := rfl
  unfold preloadsDue galleyReady galleyRuns
  rw [ha, show (inRun s).boot.run = true from rfl, show (inRun s).galley = s.galley from rfl, show (inRun s).clk =
    s.clk from rfl,
    show (inRun s).boot.preload = s.boot.preload from rfl]
  simp only [Bool.true_and, Bool.and_eq_true, Bool.not_eq_true']
  exact ⟨fun ⟨⟨⟨h1, h2⟩, h3⟩, h4⟩ => ⟨h4, h3, h1, h2⟩, fun ⟨h4, h3, h1, h2⟩ => ⟨⟨⟨h1, h2⟩, h3⟩, h4⟩⟩

theorem rbit_inRun (s : State) : rbit (inRun s) (aISTAT pgBOOT) 0 = true ∧
    rbit (inRun s) (aISTAT pgGALLEY) (if s.galley.fresh then 5 else 6) = true := by
  refine ⟨?_, ?_⟩
  · exact (congrArg (bit · 0) (rget_iset_ne pgGALLEY _ _ (by decide))).trans
      (rbit_iset_any ⟨pgBOOT, by decide⟩ (by decide) _)
  · refine rbit_iset_any ⟨pgGALLEY, by decide⟩ ?_ _
    split <;> decide

theorem startRun_answers (s : State) :
    (runDue s → ¬ preloadsDue s → Runs .startRun s fun t => t.boot.run = true ∧ t.boot.retention = true ∧
      t.boot.everRun = true ∧
      t.boot.preload = s.boot.preload ∧ rbit t (aISTAT pgBOOT) 0 = true ∧
      rbit t (aISTAT pgGALLEY) (if s.galley.fresh then 5 else 6) = true ∧ KeepsBut [.regs, .boot] s t) ∧
    (runDue s → preloadsDue s → Runs .startRun s fun t => t.boot.run = true ∧ t.boot.retention = true ∧
      t.boot.preload = []) ∧
    (¬ runDue s → Runs .startRun s fun t => t = s) := by
  refine ⟨fun h hp => ?_, fun h hp => ?_, fun h => ⟨_, rfl, startRun_idle h⟩⟩
  · have he : startRun s = inRun s := (startRun_due h).trans (if_neg fun hx => hp ((galleyReady_inRun s).1 hx))
    obtain ⟨h1, h2⟩ := rbit_inRun s
    exact ⟨_, congrArg Host.Outcome.next he, rfl, rfl, rfl, rfl, h1, h2, (within_inRun s).1⟩
  · have he := (startRun_due h).trans (if_pos ((galleyReady_inRun s).2 hp))
    have hk := (Keeps.refl [.regs, .mem, .comp, .galley, .basin, .twin, .cistern, .fab]
      (setBoot { (inRun s).boot with preload := [] } (inRun s))).foldl (l := (inRun s).boot.preload) fun _ x hu =>
        hu.submitPreload x (List.Subset.refl _)
    have hb := hk.but .boot (by decide)
    refine ⟨_, congrArg Host.Outcome.next he, ?_, ?_, ?_⟩
    · exact (congrArg BootSt.run hb).trans rfl
    · exact (congrArg BootSt.retention hb).trans rfl
    · exact (congrArg BootSt.preload hb).trans rfl

/-! ### Fuses -/

theorem otpProgramDone_answers (hl : Live s) :
    (∀ k d, s.boot.otpBusy = some (k, d) → Runs .otpProgramDone s fun t => t.boot.otpBusy = none ∧
      alGet 0 t.boot.fuses k = (alGet 0 s.boot.fuses k ||| d) ∧
      (∀ j, j ≠ k → alGet 0 t.boot.fuses j = alGet 0 s.boot.fuses j) ∧ KeepsBut [.boot] s t) ∧
    (s.boot.otpBusy = none → Runs .otpProgramDone s fun t => t = s) := by
  refine ⟨fun k d h => ?_, fun h => ?_⟩
  · have he : otpProgramDone s = setBoot { s.boot with
        otpBusy := none, fuses := alSet s.boot.fuses k (alGet 0 s.boot.fuses k ||| d) } s := by
      unfold otpProgramDone
      rw [h]
    refine runs_awake hl rfl ?_
    rw [he]
    exact ⟨rfl, alGet_alSet_same .., fun j hj => alGet_alSet_ne _ _ _ hj,
      ((Within.refl [.boot] (fun _ => False) s).setBoot _).1⟩
  · refine runs_awake hl rfl ?_
    unfold otpProgramDone
    rw [h]

theorem otp_row : ∃ d, regAt aOTP_PROGCMD = some d ∧ d.w1s = 1 := by
  obtain ⟨d, hd⟩ : ∃ d, regAt aOTP_PROGCMD = some d := Option.isSome_iff_exists.1 (by decide)
  exact ⟨d, hd, (by decide : ∀ d ∈ regAt aOTP_PROGCMD, d.w1s = 1) d hd⟩

theorem bit_actBits_set {d : RegDef} (hd : d.w1s = 1) (l : Nat) (v : Word) : bit (actBits d l v) 0 = bit v 0 := by
  have hb : bit (w32 d.w1s) 0 = true := by rw [hd]; rfl
  unfold actBits
  rw [bit_and]
  simp [bit_or, hb]

theorem pageAct_otp {a : Nat} (hp : pageOf a = pgOTP) (ho : offOf a = 0x208) (l : Nat) (old new : Word) {v : Word}
    (hv : bit v 0 = true)
    (u : State) : pageAct true none l a old new v u =
      ({ u with boot := { u.boot with otpBusy := some (rfld u aOTP_PROGADDR 7 0, rget u aOTP_PROGDATA) } }, false) := by
  unfold pageAct
  dsimp only
  rw [hp, ho]
  simp [hv, show ¬ pgOTP ≤ 19 by decide]

theorem otpProgram_accepted {w : HW} (h : Accepted s aOTP_PROGCMD w) (hv : bit w.v 0 = true) : ∃ n, hostWrite
    ⟨aOTP_PROGCMD, w.lvl, w.be, w.v⟩ s =
    endAccess 0 w.lvl true aOTP_PROGCMD
      (setBoot { s.boot with otpBusy := some (rfld s aOTP_PROGADDR 7 0, rget s aOTP_PROGDATA) }
      (rset aOTP_PROGCMD n s)) := by
  obtain ⟨d, hd, hw⟩ := otp_row
  refine ⟨newWord d (pageOf aOTP_PROGCMD) w.lvl (heldReg s aOTP_PROGCMD) w.v, ?_⟩
  rw [hostWrite_of_actsAtOnce h hd
    (by decide), pageAct_otp (by decide) (by decide) _ _ _ ((bit_actBits_set hw w.lvl w.v).trans hv)]
  have ha (n : Word) : rfld (rset aOTP_PROGCMD n s) aOTP_PROGADDR 7 0 = rfld s aOTP_PROGADDR 7 0 :=
    congrArg (bits · 7 0) (rget_rset_ne _ _ (by decide))
  have hb (n : Word) : rget (rset aOTP_PROGCMD n s) aOTP_PROGDATA = rget s aOTP_PROGDATA := rget_rset_ne _ _ (by decide)
  rw [ha, hb]
  rfl

/-- The device may not program a fuse. -/
def otpRefused (s : State) (l : Fin 4) : Prop :=
  l ≠ 0 ∨ s.boot.otpBusy.isSome = true ∨ rbit s aOTP_CFG 31 = true ∨ (isSolo s = false ∧ s.twin.st ≠ .fenced)

theorem blockRefuse_otp {a : Nat} (hp : pageOf a = pgOTP) (ho : offOf a = 0x208) {l : Fin 4} (h : otpRefused s l)
    (old new : Word) {v : Word}
    (hv : bit v 0 = true) : blockRefuse s true l.val a old new v = refuse 1 a := by
  have hok : (decide (l.val = 0) && (isSolo s || s.twin.st == .fenced) && !rbit s aOTP_CFG 31 &&
      s.boot.otpBusy.isNone) = false := by
    rcases h with h | h | h | ⟨h1, h2⟩
    · have h' : l.val ≠ 0 := fun e => h (Fin.ext e)
      simp [h']
    · have h' : s.boot.otpBusy.isNone = false := by
        obtain ⟨x, hx⟩ := Option.isSome_iff_exists.1 h
        rw [hx]
        rfl
      simp [h']
    · simp [h]
    · simp [h1, h2]
  unfold blockRefuse
  dsimp only
  rw [hok]
  simp [hp, ho, hv, show ¬ pgOTP ≤ 19 by decide, show ¬ pgOTP ≤ 47 by decide]

theorem otpProgram_answers (hs : Canonical s) (w : HW) :
    (Accepted s aOTP_PROGCMD ⟨w.lvl, w.be, setBits w.v 0 0 1⟩ → Runs (.otpProgram w) s fun t =>
      t.boot = { s.boot with otpBusy := some (rfld s aOTP_PROGADDR 7 0, rget s aOTP_PROGDATA) } ∧ KeepsBut
        [.regs, .boot] s t) ∧
    (Served s aOTP_PROGCMD ⟨w.lvl, w.be, setBits w.v 0 0 1⟩ → otpRefused s w.lvl →
      Runs (.otpProgram w) s fun t => refusedWith 1 pgOTP aOTP_PROGCMD s t) := by
  have hv : bit (setBits w.v 0 0 1) 0 = true := bit_commit w.v
  refine ⟨fun h => ?_, fun h hr => ?_⟩
  · obtain ⟨n, he⟩ := otpProgram_accepted h hv
    set u := setBoot { s.boot with otpBusy := some (rfld s aOTP_PROGADDR 7 0, rget s aOTP_PROGDATA) }
      (rset aOTP_PROGCMD n s) with hu
    have hw : Within [.regs, .boot] (fun _ => True) s u := ((Within.refl ..).rset _ (by decide) trivial).setBoot _
    have hend := within_endAccess_regs (status := 0) (l := w.lvl) (a := aOTP_PROGCMD) (s := u) true
    have hb : (endAccess 0 w.lvl true aOTP_PROGCMD u).boot = u.boot := hend.1 .boot (by decide)
    have hk := hw.ofEnd w.lvl aOTP_PROGCMD
    exact ⟨_, congrArg Host.Outcome.next he, hb, hk⟩
  · obtain ⟨d, hd, -⟩ := otp_row
    have hsolo : soloRefuse s d aOTP_PROGCMD (setBits w.v 0 0 1) = none := by
      have hdp : dataPlane (pageOf aOTP_PROGCMD) = false := by decide
      unfold soloRefuse
      simp [hdp]
    have hrun := hostWrite_of_blockRefuse (w := ⟨w.lvl, w.be, setBits w.v 0 0 1⟩) h hd (by decide) hsolo
      (blockRefuse_otp (by decide) (by decide) hr _ _ hv) (by decide)
    exact ⟨_, congrArg Host.Outcome.next hrun, refusedWith_of_errcap hs (by decide) (by decide)⟩

/-! ### O60: pulse outputs and monitors -/

theorem Within.setClk1 {l : List Part} {A : Nat → Prop} (h : Within l A s t) (x : ClockSt)
    (hl : .clk ∈ l := by decide) :
    Within l A s (setClk1 x t) :=
  h.setClk x hl

theorem ppsEdge_due {n : Nat} (hn : s.clk.pps.next = some n) (hf : n ≤ frame s) : ppsEdge s =
    iset pgGPIO 0 (setClk1 { s.clk with pps := ⟨some (n + ppsPeriod s), ppsPeriod s, ppsFrames s (ppsPeriod s)⟩ }
      s) := by
  unfold ppsEdge
  rw [hn]
  exact if_pos hf

theorem ppsEdge_idle (h : ∀ n, s.clk.pps.next = some n → frame s < n) : ppsEdge s = s := by
  unfold ppsEdge
  split
  · rfl
  · next n hn => exact if_neg (by have := h n hn; omega)

theorem bmarkEdge_due {n : Nat} (hn : s.clk.bmark.next = some n) (hf : n ≤ frame s) : bmarkEdge s =
    iset pgGPIO 1 (setClk1 { s.clk with bmark := ⟨some (n + bmarkPeriod s), bmarkPeriod s, 1⟩ } s) := by
  unfold bmarkEdge
  rw [hn]
  exact if_pos hf

theorem bmarkEdge_idle (h : ∀ n, s.clk.bmark.next = some n → frame s < n) : bmarkEdge s = s := by
  unfold bmarkEdge
  split
  · rfl
  · next n hn => exact if_neg (by have := h n hn; omega)

/-- A pulse output's edge noted. -/
theorem within_pulse (c : ClockSt) (b : Nat) (s : State) : Within [.regs, .clk] (· ∈ [aISTAT pgGPIO]) s
    (iset pgGPIO b (setClk1 c s)) :=
  ((Within.refl ..).setClk1 c).iset b

theorem pulses_answer (hl : Live s) :
    (∀ n, s.clk.pps.next = some n → n ≤ frame s → Runs .ppsEdge s fun t =>
      t.clk = { s.clk with pps := ⟨some (n + ppsPeriod s), ppsPeriod s, ppsFrames s (ppsPeriod s)⟩ } ∧
      rbit t (aISTAT pgGPIO) 0 = true ∧ KeepsBut [.regs, .clk] s t ∧ RegsOnly [aISTAT pgGPIO] s t) ∧
    ((∀ n, s.clk.pps.next = some n → frame s < n) → Runs .ppsEdge s fun t => t = s) ∧
    (∀ n, s.clk.bmark.next = some n → n ≤ frame s → Runs .bmarkEdge s fun t =>
      t.clk = { s.clk with bmark := ⟨some (n + bmarkPeriod s), bmarkPeriod s, 1⟩ } ∧
      rbit t (aISTAT pgGPIO) 1 = true ∧ KeepsBut [.regs, .clk] s t ∧ RegsOnly [aISTAT pgGPIO] s t) ∧
    ((∀ n, s.clk.bmark.next = some n → frame s < n) → Runs .bmarkEdge s fun t => t = s) := by
  refine ⟨fun n hn hf => runs_awake hl rfl ?_, fun h => runs_same rfl (ppsEdge_idle h), fun n hn hf => runs_awake hl
    rfl ?_,
    fun h => runs_same rfl (bmarkEdge_idle h)⟩
  · rw [ppsEdge_due hn hf]
    have hw := within_pulse { s.clk with pps := ⟨some (n + ppsPeriod s), ppsPeriod s, ppsFrames s (ppsPeriod s)⟩ } 0 s
    exact ⟨rfl, rbit_iset_any ⟨pgGPIO, by decide⟩ (by decide) _, hw.1, hw.2⟩
  · rw [bmarkEdge_due hn hf]
    have hw := within_pulse { s.clk with bmark := ⟨some (n + bmarkPeriod s), bmarkPeriod s, 1⟩ } 1 s
    exact ⟨rfl, rbit_iset_any ⟨pgGPIO, by decide⟩ (by decide) _, hw.1, hw.2⟩

/-! ### Temperature -/

theorem calStale_effect (s : State) : Within [.regs, .clk] (· = aISTAT pgPLLM) s (calStale s) ∧
    (calStale s).clk.tempRestart = s.clk.tempRestart ∧ (calStale s).clk.tempHi = s.clk.tempHi := by
  unfold calStale
  dsimp only
  split
  · exact ⟨(Within.refl ..).setClk _, rfl, rfl⟩
  · exact ⟨((Within.refl ..).setClk _).iset 5 (by decide) rfl, rfl, rfl⟩

/-- The lowest reading since the restart. -/
def tempLow (s : State) (hot : Int) : Int := if s.clk.tempRestart then hot else min hot
    (sgn 16 (rget s aMON_TEMP_MIN).toNat)

/-- The highest reading since the restart. -/
def tempHigh (s : State) (hot : Int) : Int := if s.clk.tempRestart then hot else max hot
    (sgn 16 (rget s aMON_TEMP_MAX).toNat)

/-- The words of a reading in their registers, a restart taken up. -/
def tempStored (x lo hi : Word) (s : State) : State :=
  setClk1 { s.clk with tempRestart := false } (rput aMON_TEMPCFG 31 31 0
    (rset aMON_TEMP x (rset aMON_TEMP_MIN lo (rset aMON_TEMP_MAX hi s))))

/-- A reading noted. -/
def tempNoted (hot : Int) (s : State) : State :=
  tempStored (w32 (unsgn 16 hot)) (w32 (unsgn 16 (tempLow s hot))) (w32 (unsgn 16 (tempHigh s hot))) s

/-- The judgement of a reading against the limit. -/
def tempJudged (hot lim hy : Int) (s : State) : State :=
  if hot > lim ∧ ¬ s.clk.tempHi then alarm 10 (iset pgMON 0 (setClk1 { s.clk with tempHi := true } s))
  else if hot ≤ lim - hy ∧ s.clk.tempHi then iset pgMON 1 (setClk1 { s.clk with tempHi := false } s)
  else s

theorem tempReading_parts (a b c d : BitVec 16) (s : State) : tempReading a b c d s =
    calStale (tempJudged (tempMax a b c d) (sgn 8 (rfld s aMON_TEMPCFG 15 8) * 16)
      ((zeroIs1 (rfld s aMON_TEMPCFG 7 0) : Nat) * 16)
      (tempNoted (tempMax a b c d) s)) := by
  unfold tempReading
  extract_lets t old lo hi lim hyst hyst16 u1 c u2 c1 u3
  have h2 : u2 = tempNoted t s := rfl
  have h3 : u3 = tempJudged t lim hyst16 u2 := rfl
  rw [h3, h2]

theorem tempStored_effect (hs : spWf resetWord s.regs = true) (x lo hi : Word) :
    Within [.regs, .clk] (· ∈ [aMON_TEMP, aMON_TEMP_MIN, aMON_TEMP_MAX, aMON_TEMPCFG]) s (tempStored x lo hi s) ∧
    rget (tempStored x lo hi s) aMON_TEMP = x ∧ rget (tempStored x lo hi s) aMON_TEMP_MIN = lo ∧
    rget (tempStored x lo hi s) aMON_TEMP_MAX = hi := by
  refine ⟨((((Within.refl ..).rset _).rset _).rset _).rput _ _ _ |>.setClk1 _, ?_, ?_, ?_⟩
  · exact (rget_rput_ne _ _ _ _ (by decide)).trans (rget_rset_same (rset_regs_wf (rset_regs_wf hs _ _) _ _) _ _)
  · exact (rget_rput_ne _ _ _ _ (by decide)).trans ((rget_rset_ne _ _
      (by decide)).trans (rget_rset_same (rset_regs_wf hs _ _) _ _))
  · exact (rget_rput_ne _ _ _ _ (by decide)).trans ((rget_rset_ne _ _
      (by decide)).trans ((rget_rset_ne _ _ (by decide)).trans
      (rget_rset_same hs _ _)))

theorem tempJudged_effect (hot lim : Int) {hy : Int} (hy0 : 0 ≤ hy) (s : State) :
    Within [.regs, .clk] (· ∈ [aINTC_ALMSRC, aISTAT pgMON]) s (tempJudged hot lim hy s) ∧
    (tempJudged hot lim hy s).clk.tempRestart = s.clk.tempRestart ∧
    (tempJudged hot lim hy s).clk.tempHi = (if lim < hot then true else if hot ≤ lim - hy then false else
      s.clk.tempHi) ∧
    (lim < hot → s.clk.tempHi = false → rbit (tempJudged hot lim hy s) aINTC_ALMSRC 10 = true ∧
      rbit (tempJudged hot lim hy s) (aISTAT pgMON) 0 = true) ∧
    (hot ≤ lim - hy → hot ≤ lim → s.clk.tempHi = true → rbit (tempJudged hot lim hy s) (aISTAT pgMON) 1 = true) := by
  unfold tempJudged
  split
  · next h =>
    refine ⟨(((Within.refl ..).setClk1 _).iset 0).alarm 10, rfl, (if_pos h.1).symm, fun _ _ =>
      ⟨rbit_alarm (by decide) _, ?_⟩,
      fun _ hx => absurd h.1 (not_lt.2 hx)⟩
    exact (congrArg (bit · 0) (rget_rset_ne _ _ (by decide))).trans (rbit_iset_any ⟨pgMON, by decide⟩ (by decide) _)
  · next h =>
    split
    · next h2 =>
      have hx : ¬ lim < hot := by omega
      refine ⟨((Within.refl ..).setClk1 _).iset 1, rfl, ?_, fun hn => absurd hn hx,
        fun _ _ _ => rbit_iset_any ⟨pgMON, by decide⟩ (by decide) _⟩
      rw [if_neg hx, if_pos h2.1]
      rfl
    · next h2 =>
      refine ⟨.refl .., rfl, ?_, fun hx hn => absurd ⟨hx, by simp [hn]⟩ h, fun hx _ hn => absurd ⟨hx, hn⟩ h2⟩
      cases hh : s.clk.tempHi with
      | true =>
        have h3 : ¬ hot ≤ lim - hy := fun e => h2 ⟨e, hh⟩
        simp [h3]
      | false =>
        have h3 : ¬ lim < hot := fun e => h ⟨e, by simp [hh]⟩
        simp [h3]

theorem tempReading_answers (a b c d : BitVec 16) (hs : Canonical s) (hl : Live s) :
    let hot := tempMax a b c d
    let was (x : Nat) : Int := sgn 16 (rget s x).toNat
    Runs (.tempReading a b c d) s fun t => rget t aMON_TEMP = w32 (unsgn 16 hot) ∧ t.clk.tempRestart = false ∧
      rget t aMON_TEMP_MIN = w32 (unsgn 16 (if s.clk.tempRestart then hot else min hot (was aMON_TEMP_MIN))) ∧
      rget t aMON_TEMP_MAX = w32 (unsgn 16 (if s.clk.tempRestart then hot else max hot (was aMON_TEMP_MAX))) ∧
      (let lim := sgn 8 (rfld s aMON_TEMPCFG 15 8) * 16
       let hy : Int := zeroIs1 (rfld s aMON_TEMPCFG 7 0) * 16
       t.clk.tempHi = (if lim < hot then true else if hot ≤ lim - hy then false else s.clk.tempHi) ∧
       (lim < hot → s.clk.tempHi = false → rbit t aINTC_ALMSRC 10 = true ∧ rbit t (aISTAT pgMON) 0 = true) ∧
       (hot ≤ lim - hy → hot ≤ lim → s.clk.tempHi = true → rbit t (aISTAT pgMON) 1 = true)) ∧ KeepsBut [.regs, .clk]
         s t := by
  intro hot was
  refine runs_awake hl rfl ?_
  rw [tempReading_parts]
  generalize hlim : sgn 8 (rfld s aMON_TEMPCFG 15 8) * 16 = lim
  generalize hhy : ((zeroIs1 (rfld s aMON_TEMPCFG 7 0) : Nat) : Int) * 16 = hy
  have hy0 : 0 ≤ hy := by omega
  obtain ⟨hw1, hx, hlo, hhi⟩ := tempStored_effect hs.1 (w32 (unsgn 16 hot)) (w32 (unsgn 16 (tempLow s hot)))
    (w32 (unsgn 16 (tempHigh s hot)))
  change Within _ _ s (tempNoted hot s) at hw1
  change rget (tempNoted hot s) _ = _ at hx
  change rget (tempNoted hot s) _ = _ at hlo
  change rget (tempNoted hot s) _ = _ at hhi
  have hrest : (tempNoted hot s).clk.tempRestart = false := rfl
  have hhi0 : (tempNoted hot s).clk.tempHi = s.clk.tempHi := rfl
  obtain ⟨hw2, hr2, ht2, ha2, hb2⟩ := tempJudged_effect hot lim hy0 (tempNoted hot s)
  obtain ⟨hw3, hr3, ht3⟩ := calStale_effect (tempJudged hot lim hy (tempNoted hot s))
  have hw23 := hw2.mono (m := [.regs, .clk]) (B := (· ∈ [aINTC_ALMSRC, aISTAT pgMON, aISTAT pgPLLM])) (fun _ h => h)
      (by simp)
  have hw : Within [.regs, .clk] (· ∈ [aINTC_ALMSRC, aISTAT pgMON, aISTAT pgPLLM]) (tempNoted hot s)
      (calStale (tempJudged hot lim hy (tempNoted hot s))) := hw23.trans (hw3.mono (fun _ h => h) (by simp))
  refine ⟨(hw.2 _ (by decide)).trans hx, hr3.trans (hr2.trans hrest), (hw.2 _ (by decide)).trans hlo, (hw.2 _ (by decide)).trans hhi,
    ⟨?_, fun h1 h2 => ?_, fun h1 h2 h3 => ?_⟩, fun p hp => (hw1.1 p hp).trans (hw.1 p hp)⟩
  · rw [ht3, ht2, hhi0]
  · obtain ⟨h3, h4⟩ := ha2 h1 (hhi0.trans h2)
    exact ⟨(congrArg (bit · 10) (hw3.2 _ (by decide))).trans h3, (congrArg (bit · 0) (hw3.2 _ (by decide))).trans h4⟩
  · exact (congrArg (bit · 1) (hw3.2 _ (by decide))).trans (hb2 h1 h2 (hhi0.trans h3))

/-! ### TEMPCFG.CLR and supply readings -/

theorem tempcfg_row : ∃ d, regAt aMON_TEMPCFG = some d ∧ bit (w32 d.w1s ||| w32 d.wo) 31 = true := by
  obtain ⟨d, hd⟩ : ∃ d, regAt aMON_TEMPCFG = some d := Option.isSome_iff_exists.1 (by decide)
  exact ⟨d, hd, (by decide : ∀ d ∈ regAt aMON_TEMPCFG, bit (w32 d.w1s ||| w32 d.wo) 31 = true) d hd⟩

theorem bit_actBits_clr {d : RegDef} (hd : bit (w32 d.w1s ||| w32 d.wo) 31 = true) (l : Nat) (v : Word) : bit
    (actBits d l v) 31 = bit v 31 := by
  unfold actBits
  rw [bit_and, bit_or, bit_or, hd]
  simp

theorem pageAct_tempClr {a : Nat} (hp : pageOf a = pgMON) (ho : offOf a = 0x4C) (l : Nat) (old new : Word) {v : Word}
    (hv : bit v 31 = true)
    (u : State) : pageAct true none l a old new v u = (tempRestartSet u, false) := by
  unfold pageAct
  dsimp only
  rw [hp, ho]
  simp [hv, show ¬ pgMON ≤ 19 by decide]

theorem bit_clr (v : Word) : bit (setBits v 31 31 1) 31 = true := by
  rw [bit_setBits _ _ _ _ (by decide)]
  rfl

theorem tempcfgClr_answers {w : HW} (h : Accepted s aMON_TEMPCFG ⟨w.lvl, w.be, setBits w.v 31 31 1⟩) :
    Runs (.tempcfgClr w) s fun t => t.clk = { s.clk with tempRestart := true } ∧ KeepsBut [.regs, .clk] s t ∧
      RegsOnly [aMON_TEMPCFG, aHOSTIF_LASTERR, aHOSTIF_LASTADDR] s t := by
  obtain ⟨d, hd, hb⟩ := tempcfg_row
  have hrun := hostWrite_of_actsAtOnce h hd (by decide)
  rw [pageAct_tempClr (by decide) (by decide) _ _ _ ((bit_actBits_clr hb _ _).trans (bit_clr w.v))] at hrun
  generalize newWord d (pageOf aMON_TEMPCFG) w.lvl (heldReg s aMON_TEMPCFG) (setBits w.v 31 31 1) = n at hrun
  set u := tempRestartSet (rset aMON_TEMPCFG n s) with hu
  have hw : Within [.regs, .clk] (· = aMON_TEMPCFG) s u :=
    (((Within.refl [.regs, .clk] (· = aMON_TEMPCFG) s).rset _ (by decide) rfl).rput _ _ _ (by decide) rfl).setClk1 _
  have huc : u.clk = { s.clk with tempRestart := true } := rfl
  have hend := within_endAccess_regs (status := 0) (l := w.lvl) (a := aMON_TEMPCFG) (s := u) true
  have hc : (endAccess 0 w.lvl true aMON_TEMPCFG u).clk = u.clk := hend.1 .clk (by decide)
  have hk := hw.ofEnd w.lvl aMON_TEMPCFG
  have hr : RegsOnly [aMON_TEMPCFG, aHOSTIF_LASTERR, aHOSTIF_LASTADDR] s (endAccess 0 w.lvl true aMON_TEMPCFG u) :=
    hw.regsOnly_end _ _ fun b hb => by simp [hb]
  exact ⟨_, congrArg Host.Outcome.next hrun, hc.trans huc, hk, hr⟩

theorem volt_ne : ∀ n : Fin 9, aISTAT pgMON ≠ aMON_VOLT n.val := by decide

theorem supplyReading_answers (hs : Canonical s) (hl : Live s) (n : Fin 9) (mv : BitVec 16) :
    let off := ((mv.toNat : Int) - voltNominal s n).natAbs * 20
    Runs (.supplyReading n mv) s fun t => rget t (aMON_VOLT n.val) = w32 mv.toNat ∧
      (voltNominal s n < off → rbit t (aISTAT pgMON) 2 = true) ∧
      (off ≤ voltNominal s n → rget t (aISTAT pgMON) = rget s (aISTAT pgMON)) ∧
      KeepsBut [.regs] s t ∧ RegsOnly [aMON_VOLT n.val, aISTAT pgMON] s t := by
  intro off
  refine runs_awake hl rfl ?_
  set u := rset (aMON_VOLT n.val) (w32 mv.toNat) s with hu
  have hw : Within [.regs] (· ∈ [aMON_VOLT n.val, aISTAT pgMON]) s u := (Within.refl ..).rset _ (by decide)
      List.mem_cons_self
  have hg : rget u (aMON_VOLT n.val) = w32 mv.toNat := rget_rset_same hs.1 _ _
  have hdef : supplyReading n mv s = if off > voltNominal s n then iset pgMON 2 u else u := rfl
  rw [hdef]
  split
  · next h =>
    have hw2 := hw.iset 2 (p := pgMON) (by decide) (List.mem_cons_of_mem _ List.mem_cons_self)
    exact ⟨(rget_iset_ne _ _ _ (volt_ne n).symm).trans hg, fun _ => rbit_iset_any ⟨pgMON, by decide⟩ (by decide) _,
      fun hx => absurd h (not_lt.2 hx), hw2.1, hw2.2⟩
  · next h => exact ⟨hg, fun hx => absurd hx h, fun _ => rget_rset_ne _ _ (volt_ne n), hw.1, hw.2⟩

/-! ### O60: the obligation -/

/-- A pass over the slot that is due, in the right role. -/
theorem slotPass_answers (hs : Canonical s) (h : readsSlots s) (i : SlotPass) :
    let code := passCode s i
    let mine : Prop := i.flash = true ∧ i.load = s.boot.verified.isSome ∧ slotDue s i = some i.slotB
    let sects := slotSections i.bytes
    let lists := sects.flatMap listOf
    (i.flash = true → ¬ mine → Runs (.imageSlotPass i) s fun t => t = s) ∧
    (mine → i.load = true → code = 0 → lists = [] → (∀ x ∈ sects, ∀ l, x ≠ .prot l) → Runs (.imageSlotPass i) s fun t =>
      t.boot.src = 0 ∧ t.boot.slot = (if i.slotB then 1 else 0) ∧ t.boot.cause = 0 ∧ t.boot.signed = slotSigned
        i.bytes ∧
        rget t aBOOT_IMG_CRC = slotImgCrc i.bytes ∧
        (s.boot.warm = true → t.mem = s.mem) ∧
        (∀ p b f ws, sects = [.press p b f ws] → s.boot.warm = false → rdWords t (bankAddr p b + 4 * f) ws.length =
          ws) ∧
        (∀ b o ws, sects = [.forme b o ws] → s.boot.warm = false → rdWords t (formeBase b + o) ws.length = ws) ∧
        (∀ n d, sects = [.cistern n d] → t.boot.cistern = [⟨n, d⟩]) ∧
        (∀ c es, sects = [.preload c es] → s.boot.warm = false → t.boot.preload = es.map fun e => (c, e))) := by
  intro code mine sects lists
  refine ⟨fun hf hm => ?_, fun hm hl hc hn hp => ?_⟩
  · refine runs_slotPass h ?_
    rw [imageSlotPass_runs h, if_neg (by simp [hf])]
    refine if_pos ?_
    by_contra hx
    obtain ⟨h1, h2⟩ := not_or.1 hx
    exact hm ⟨hf, not_not.1 h2, not_not.1 h1⟩
  · obtain ⟨hf, hload, hdue⟩ := hm
    obtain ⟨h1, h2, h3, h4, h5, h6, h7, h8, h9, h10⟩ := imageIn_of hs h i hn
    exact slotPass_loads h hf hload hdue hl hc hp ⟨h1, h2, h3, h4, h5, h6, h7, h8, h9, h10⟩

/-- Settles O60: each event of a reset, of the start and of the pins and monitors has its own lemma. No event of the
  start
looks at the hold point; the start's own steps change its own registers and the parts that a role or a search begins
  with. -/
theorem resetsStartAndPins : Obligations.ResetsStartAndPins := by
  unfold Obligations.ResetsStartAndPins
  refine ⟨supplyTrip_answers, fun s => ⟨xoLoss_answers, xoLoss_ignored, xoRestore_answers, xoRestore_ignored⟩,
    porRelease_answers,
    fun s => ?warm, fun s w hs => rstcmd_answers hs w, fun s hl h2 ha => xoQualified_answers hl h2 ha,
      fun s r hs hl h4 hb => ?bist,
    fun s c h hl hr hh => startEvent_answers h hl hr hh,
    fun s n ⟨hl, hr, hh, h3, _⟩ ha hb hn => pllLock_starts hl hr hh h3 ha hb hn,
    fun s r _ ⟨hl, _, hh, h6, hn⟩ _ ht he => trainingDone_starts hl hh h6 hn ht he r,
    fun s _ ⟨hl, _, hh, h8, hn⟩ hp hf hk => negTimeout_starts hl hh h8 hn hp hf hk,
    fun s i hl h => runs_awake hl rfl (imageSlotPass_idle h i), fun s i hs h => ?slot, fun s w hs =>
      bootContinue_answers hs w,
    startRun_answers, fun s w hs => otpProgram_answers hs w, fun s hl => otpProgramDone_answers hl, fun s hl =>
      pulses_answer hl,
    fun s a b c d hs hl => tempReading_answers a b c d hs hl, fun s w _ h => tempcfgClr_answers h,
    fun s n mv hs hl => supplyReading_answers hs hl n mv⟩
  case warm =>
    obtain ⟨h1, h2, h3⟩ := warmResetPin_answers s
    exact ⟨h1, h2, h3, fun hp hw h2 hh => (warmResetRelease_waits hp hw h2 hh).1,
      fun hp hw h2 hh => (warmResetRelease_waits hp hw h2 hh).2, warmResetRelease_ignored, inOperation_ignores⟩
  case bist =>
    exact ⟨bistDone_fatal hl h4 hb, fun hf hh hsel => bistDone_slots hs hl h4 hb hf hh hsel,
      fun hf hh hsel hn => bistDone_defaults hl h4 hb hf hh hsel hn⟩
  case slot =>
    obtain ⟨hnot, himg⟩ := slotPass_answers hs h i
    refine ⟨fun hf hn => noFlash_answers hs h hf hn, hnot, fun ⟨hf, hload, hdue⟩ hl hc => slotPass_verified h hf
      hload hdue hl hc,
      fun ⟨hf, hload, hdue⟩ hc h0 ho => slotPass_fails hs h hf hload hdue hc h0 ho,
      fun ⟨hf, hload, hdue⟩ hc ho hn => slotPass_last hs h hf hload hdue hc ho hn, himg,
      fun ⟨hf, hload, hdue⟩ hl hc hp hh hph => slotPass_waits h hf hload hdue hl hc hp hh hph,
      fun k v ⟨hf, hload, hdue⟩ hl hc hh hsec => slotPass_scratch hs h hf hload hdue hl hc hh k v hsec⟩

end Sys2Proof.Machine
end
